-- ==== Sys2Proof/Word.lean ====
section
/-! DEFINITION. The word and byte types of the register bus (R23) and the plainest facts about them. -/
namespace Sys2Proof

/-- A register-bus word, 32 bits (R23). -/
abbrev Word := BitVec 32

/-- A byte of a frame, a buffer or an image. -/
abbrev Byte := BitVec 8

end Sys2Proof
end

