-- ==== Sys2Proof/Syntax.lean ====
section
/-!
DEFINITION. The commands of the YL640: one constructor of `Instr` per row of spec/opcode_table.json, in the table's
order. An operand is what the command brings from outside the model: who made the access, the word written, the
bytes received, a measured value. Everything the rules compute is computed by the command's meaning.
-/
namespace Sys2Proof

/-- One register-bus access as it reaches the bus (R23 to R27): the master's ID (Table ARCH-3), the byte strobes, and the parity bits
of the address and of the data, one per byte, that were flipped on the way: bit i belongs to bits [8i+7:8i]. -/
structure Acc where
  master : Fin 16
  strobe : BitVec 4
  addrFlips : BitVec 4
  dataFlips : BitVec 4
deriving DecidableEq, Repr

/-- What a direct request brings at the page interface in region 5: lengths, IV, tag, and the AAD and data in 128-bit beats (R499, R500). -/
structure PageBeats where
  len : BitVec 7
  aadLen : BitVec 6
  tagLen : BitVec 5
  iv : BitVec 128
  tag : BitVec 128
  aad : List (BitVec 128)
  data : List (BitVec 128)
deriving DecidableEq, Repr

/-- How a request or a cancel reaches a cipher page: a write of the page's registers on the bus, or the page's fabric ports in region 5
(R499, R503, R513). -/
inductive PagePath where
  | bus (a : Acc)
  | fabric
deriving DecidableEq, Repr

/-- A direct request: by the page's registers, or at the page interface with its beats. -/
inductive DirectPath where
  | bus (a : Acc)
  | fabric (beats : PageBeats)
deriving DecidableEq, Repr

/-- A submit: by Q_DESC0–7 and Q_CMD, or the eight words of a descriptor on the descriptor stream port with a cancel that is sampled in
the same cycle. -/
inductive SubmitPath where
  | bus (a : Acc)
  | stream (words : List Word) (cancel : Option Byte)
deriving DecidableEq, Repr

/-- The two domains whose rails may come up after the image load (R65). -/
inductive Domain where
  | lane | radio
deriving DecidableEq, Repr

/-- The sources of the Watch domain's supply (Table WCH-3), coded as FLAGS[3:2] of Table WCH-1. -/
inductive Supply where
  | store | vbat | aux
deriving DecidableEq, Repr

/-- The output reaction of a paired cell (R224). -/
inductive Reaction where
  | followA | safe0 | safe1
deriving DecidableEq, Repr

/-- The four fields of a sampler coefficient set (Table SMP-2), as signed numbers (GAIN unsigned). -/
structure CoefSet where
  offset : Int
  gain : Nat
  skew : Int
  bw : Int
deriving DecidableEq, Repr

/-- What a monitor window found of one slice (Table SMP-5): its mean in code LSB, its pilot amplitude against nominal in 0.01 dB, the pilot's phase
against nominal in 0.01°, and its distinct codes. -/
structure SliceStats where
  mean : Int
  pilot : Int
  phase : Int
  distinct : Nat
deriving DecidableEq, Repr

/-- The frame classes of the Bearing link (Table BRG-1). -/
inductive BrgClass where
  | trip | sample | bulk | time
deriving DecidableEq, Repr

/-- A receiver that runs a flood detector: a broadcast context (R643) or a modem RX channel (R715). -/
inductive FloodUnit where
  | ctx (c : Fin 4)
  | rx (r : Fin 2)
deriving DecidableEq, Repr

/-- The SECDED tables of R869, with the instance each belongs to. -/
inductive CheckedTable where
  | shadow (aperture : Fin 64)
  | mirror
  | ddc (d : Fin 8)
  | ctx (c : Fin 4)
  | lmdTx (t : Fin 2)
  | lmdMask
  | lmdRx (r : Fin 2)
deriving DecidableEq, Repr

/-- The three ways the levels of one Watch-supply evaluation reach the selector (R124 to R127). -/
structure SupplyLevels where
  storeMv : Nat
  vbatMv : Nat
  auxOk : Bool
deriving DecidableEq, Repr

/-- What the SFDP read finds (R151 to R153, R198): the signature, the Basic Flash Parameter Table's address width in bytes, its 1S-4S-4S
and 1S-1S-4S read commands with their dummy cycles where it lists them and its smallest sector in bytes, the xSPI Profile 1.0 table with
its read command and dummy cycles, and the sequence table for entering 8D-8D-8D mode. -/
structure Sfdp where
  signature : Bool
  addrBytes : Nat
  read144 : Option (Byte × Nat)
  read114 : Option (Byte × Nat)
  sector : Nat
  profile1 : Option (Byte × Nat)
  seq8d : Bool
deriving DecidableEq, Repr

/-- An SDC time entity, or an RDS CT group's fields (R630, R633). -/
structure BcdTime where
  mjd : Nat
  hour : Nat
  minute : Nat
  halfHours : Int
deriving DecidableEq, Repr

/-- The counts of a wear pair's two oscillators over one gate, and the junction temperature in °C (R904). -/
structure WearCount where
  stressed : Nat
  twin : Nat
  celsius : Int
deriving DecidableEq, Repr

/-- A received RDS block: 16 information bits above 10 check bits, and whether a bit of it is erased (R614, R626). -/
structure RdsBlock where
  word : BitVec 26
  erased : Bool
deriving DecidableEq, Repr

/-- One bit period of a carrier-phase signal: the carrier PLL's phase error in 1/65,536 turn at samples spread evenly over the period, each with
its blanking mark (R614, R619). -/
abbrev BitPeriod : Type := List (Int × Bool)

/-- The commands, one per row of spec/opcode_table.json. -/
inductive Instr where
  -- register bus
  | registerWrite (a : Acc) (addr value : Word)
  | rcRead (m : Fin 16) (parityFlips : BitVec 4) (addr : Word)
  | wchTimeSnapshot (m : Fin 16)
  | fixTimeSnapshot (m : Fin 16)
  | fsAccess (a : Acc) (write : Bool) (addr value : Word) (ack : Option Word)
  | fsTimeout (m : Fin 16)
  -- power, states, wake
  | porstNRelease (mode : BitVec 3) (monEn : Bool)
  | powerGood (mode : BitVec 3) (monEn : Bool)
  | porstNAssert
  | coreDrop
  | auxLost (storeMv vbatMv : Nat)
  | retentionLost (mv : Nat) (auxToo : Bool) (storeMv vbatMv : Nat)
  | domainPowerUp (d : Domain)
  | domainPowerLoss (rail : Fin 14)
  | watchRequest (a : Acc) (value : Word)
  | watchNLow
  | vmonLow
  | vmonHigh
  | vmonFilterExpiry
  | graceExpiry
  | watchDrainEnd (us : Nat)
  | wakeEvent (vmonRose pinRose watchN : Bool)
  | wakeCoreSwitched
  | wakeRefsQualified
  | wakePllsLocked
  | wakeScrubDone
  | wakePhaseLate (unit : Fin 16) (us : Nat)
  | fabricClockRelease (us : Nat)
  | reloadRequest
  | reloadNRise
  | reloadStart (mode : BitVec 3)
  | watchReloadRequest
  | coldLoadStart (mode : BitVec 3)
  | cfgReloadPrimary (a : Acc) (key : BitVec 16)
  | cfgReloadGolden (a : Acc) (key : BitVec 16)
  -- watch domain
  | watchSecond
  | xtalStop
  | xtalRestored (holdSeconds : Nat)
  | wchCommit (a : Acc)
  | watchTimeSet
  | logWrite
  | logClearPinned (a : Acc)
  | logClearAll (a : Acc)
  | tamperEvent (n : Fin 4)
  | tamperErase
  | wakeTimerWrite (a : Acc) (value : Word)
  | wakeTimerExpiry
  | hrvSample (lv : SupplyLevels) (inputMv : Nat)
  | watchRailDroop (lv : SupplyLevels)
  | hrvTrack (vocMv freqDeciHz : Nat)
  | hrvThreshWrite (a : Acc) (value : Word)
  | watchCold (src : Supply)
  -- image load
  | nvmDiscovery (sfdp : Sfdp)
  | chunkRead (stored : Option (List Byte))
  | headerRecord (bytes : List Byte)
  | profileRecord
  | keywrapRecord
  | bandsRecord
  | pinsRecord
  | frameRecord
  | repeatRecord (sbe : List (Fin 1024)) (dbe : Option (Fin 1024))
  | fillRecord
  | regionEndRecord
  | maskRecord
  | slotsRecord
  | endRecord
  | fabricRelease (us : Nat)
  | cfgAudit (a : Acc) (key : BitVec 16) (golden : Bool)
  | auditPeriod
  | auditDone (header : List Byte) (chunks : List (Option (List Byte)))
  | cfgNvmRead (a : Acc) (key : BitVec 16)
  | cfgNvmProgram (a : Acc) (key : BitVec 16)
  | cfgNvmErase (a : Acc) (key : BitVec 16)
  | nvmOpDone (ok : Bool) (data : List Byte)
  | fuseProgram (a : Acc) (go : BitVec 16)
  | fuseDone (verified : Bool)
  -- fabric
  | pairMismatch (region : Fin 16) (tile : Fin 15360) (cell : Fin 8)
  | bramSweepPassEnd (region : Fin 16) (us : Nat)
  | deepSweepPassEnd (region : Fin 16) (us : Nat)
  | gholdRelease (domain : Fin 288) (regions : BitVec 16)
  | clockMuxSwitch (line : Fin 288) (sel ce : Bool)
  -- scrubbing and partial loads
  | scrubRead (region : Fin 16) (frame : Fin 8192) (flips : List (Fin 2112))
  | correctionWrite
  | criticalPeriodStart
  | scrubPassEnd (region : Fin 16) (ns : Nat)
  | prRequest (a : Acc) (key : BitVec 16) (region : Fin 16)
  | prCancel (a : Acc) (key : BitVec 16)
  | prChunk (dbe : Bool)
  | prChecksDone
  | prRelease
  -- PLLs
  | pllApply (a : Acc) (n : Fin 11) (key : BitVec 16)
  | pllUnmute (a : Acc) (n : Fin 11) (key : BitVec 16)
  | pllLock (n : Fin 11)
  | pllLockTimeout (n : Fin 11)
  | pllLossOfLock (n : Fin 11)
  | refLoss (r : Fin 6)
  | refQualified (r : Fin 6) (first khz : Nat)
  | bandEntryWrite (a : Acc) (n : Fin 11) (e : Fin 64) (word : Fin 3) (value : Word)
  -- Fix selector
  | steerUpdate
  | sourceValid (n : Fin 5)
  | sourceInvalid (n : Fin 5)
  | sourceQualified (n : Fin 5)
  | selectionHoldEnd
  | slewEnd
  | freezeTimeout
  | fixSet (a : Acc) (key : BitVec 16)
  | ptpSubmit (a : Acc) (withdrawToo : Bool)
  | ptpWithdraw (a : Acc)
  | ppsInEdge (edgeNs : Int) (rising : Bool) (cycles : Nat)
  | deviceTimeSecond
  | ppsOutEnd
  | timeVote (copy : Fin 3)
  -- serial lanes
  | lnkCfgWrite (a : Acc) (lane : Fin 24) (value : Word)
  | ethRxFrame (lane : Fin 24) (frame : List Byte) (codeError : Bool) (fecCorr fecUncorr : Nat) (room : Bool)
  | ethTxSubmit (lane : Fin 24) (frame : List Byte) (tag : Byte) (tsReq : Bool)
  | ethTxStart (lane : Fin 24)
  | txtsPop (m : Fin 16) (lane : Fin 24)
  | prbsClear (a : Acc) (lane : Fin 24) (value : Word)
  | prbsLock (lane : Fin 24) (locked : Bool) (bits errors : Nat)
  | eyeScanStart (a : Acc) (lane : Fin 24) (value : Word)
  | eyeScanDone (lane : Fin 24) (errors : Nat)
  | trainingLock (lane : Fin 24) (peerCap : BitVec 5)
  | rateStepSwitch (lane : Fin 24)
  | rateStepEnd (lane : Fin 24) (checkerLocked : Bool) (bits errors : Nat) (peerFail : Bool)
  | laneSettle (lane : Fin 24)
  | bringupRetry (lane : Fin 24)
  | losDeclare (lane : Fin 24)
  | losClear (lane : Fin 24)
  | cdrLoss (lane : Fin 24)
  -- Bearing link
  | helloFrame (port : Fin 4) (second : Bool) (frame : List Byte)
  | portKeyed (port : Fin 4)
  | rekeyTrigger (port : Fin 4)
  | brgRekey (a : Acc) (key : BitVec 16) (ports : BitVec 4)
  | rekeyFrame (port : Fin 4) (second : Bool) (frame : List Byte)
  | rekeyAckFrame (port : Fin 4) (second : Bool) (frame : List Byte)
  | oldSlotErase (port : Fin 4)
  | rekeyRetry (port : Fin 4)
  | brgDataFrame (port : Fin 4) (second : Bool) (frame : List Byte) (aborted room : Bool)
  | brgTxSubmit (cls : BrgClass) (dst : Fin 64) (bcast : Bool) (channel : Fin 16) (tag : Byte) (payload : List Byte)
  | brgTxStart (port : Fin 4)
  | brgCancel (cls : BrgClass) (tag : Byte)
  | timeReqTimer (port : Fin 4)
  | timeReqFrame (port : Fin 4) (second : Bool) (frame : List Byte)
  | timeRespFrame (port : Fin 4) (second : Bool) (frame : List Byte)
  | masterTimeout (port : Fin 4)
  | readyTimer
  | readyFrame (src : Fin 64) (version : Word) (golden : Bool)
  | landfallTimeout
  | landfallFrame (excluded : BitVec 64)
  | landfallRepeat
  | brgAdmit (a : Acc) (key : BitVec 16) (id : Fin 64)
  | admitFrame (id : Fin 64)
  | portDown (port : Fin 4)
  -- cipher engine
  | dGo (via : DirectPath) (page : Fin 16) (value : Word)
  | dCancel (via : PagePath) (page : Fin 16)
  | qSubmit (via : SubmitPath) (page : Fin 16) (value : Word)
  | qCancel (via : PagePath) (page : Fin 16) (tag : Byte)
  | cphOpStart
  | cphOpComplete (datapath : Fin 2) (mismatch bufferDbe : Bool)
  | qCmpPop (m : Fin 16) (page : Fin 16)
  | kWrite (a : Acc) (page : Fin 16) (key : BitVec 16) (slot : Fin 64)
  | kRandom (a : Acc) (page : Fin 16) (key : BitVec 16) (slot : Fin 64)
  | kDerive (a : Acc) (page : Fin 16) (key : BitVec 16) (parent slot : Fin 64)
  | kErase (a : Acc) (page : Fin 16) (key : BitVec 16) (slot : Fin 64)
  | shadowTakeEffect (slot : Fin 64)
  | cphZeroize (a : Acc) (key : BitVec 16)
  | rngHealthFail (test : Nat)
  | slotCheck (slot : Fin 64) (word : Fin 8) (badBits : Fin 3)
  | gcmMask (lmd : Bool) (slot : Fin 64) (fixed : List Byte)
  | helloSeed
  | loginChallenge
  | loginResponse (bytes : List Byte)
  | challengeExpiry
  -- samplers and sounding
  | soundWindowEnd (rf : Bool) (est : CoefSet) (clip : Bool) (power : Int)
  | trimStepEnd (rf : Bool)
  | handoverRampEnd (chain : Fin 6)
  | monitorWindowEnd (rf : Bool) (stats : List SliceStats) (clipped : Bool)
  | smpApply (a : Acc) (key : BitVec 16) (index : Fin 16)
  | smpLoad (a : Acc) (key : BitVec 16) (index : Fin 16)
  | smpForceFault (a : Acc) (key : BitVec 16) (index : Fin 16)
  -- channelizer
  | ddcRetune (a : Acc) (d : Fin 8) (value : Word)
  | retuneApply (d : Fin 8)
  | ddcSwap (a : Acc) (d : Fin 8) (value : Word)
  | swapApply (d : Fin 8)
  | ddcHopStart (a : Acc) (d : Fin 8) (value : Word)
  | ddcHopStop (a : Acc) (d : Fin 8) (value : Word)
  | hopAdvance (d : Fin 8)
  | ddcUnitComplete (d : Fin 8) (room : Bool)
  | coefWrite (a : Acc) (d : Fin 8) (t : Fin 320) (value : Word)
  | tableCheck (table : CheckedTable) (addr : Nat) (double : Bool)
  -- broadcast reception
  | floodWindowEnd (u : FloodUnit) (samples blanked power : Nat)
  | floodClear (u : FloodUnit)
  | carrierLock (c : Fin 4)
  | carrierLockLoss (c : Fin 4)
  | cpdFrame (c : Fin 4) (periods : List BitPeriod) (room : Bool)
  | rdsGroup (c : Fin 4) (blockA blockB blockC blockD : RdsBlock) (room : Bool)
  | drmFac (c : Fin 4) (bits : List Byte) (serviceId : BitVec 24) (crcOk room : Bool)
  | drmSdc (c : Fin 4) (bytes : List Byte) (crcOk : Bool) (time : Option BcdTime) (afHz : List Nat) (room : Bool)
  | drmMsc (c : Fin 4) (bytes : List Byte) (facOk : Bool) (erasedTenths : Nat) (room : Bool)
  | audioUnit (c : Fin 4) (blanked room : Bool)
  | scanCycle (c : Fin 4)
  | afLossTimeout (c : Fin 4)
  | identTimeout (c : Fin 4)
  | afBadExpiry (c : Fin 4) (e : Fin 32)
  | carrierIntervalEnd (c : Fin 4) (offset : Int) (samples blanked : Nat)
  -- line modem
  | lmdTxSubmit (t : Fin 2) (payload : List Byte) (rate : Fin 4) (tag : Byte)
  | burstStart (t : Fin 2)
  | burstEnd (t : Fin 2)
  | lmdTxCancel (t : Fin 2) (tag : Byte)
  | tpBlockStart (t : Fin 2) (mismatch : Bool)
  | tpcmdChange (t : Fin 2) (vector : BitVec 4) (mismatch : Bool)
  | preambleDetect (r : Fin 2) (slot : Fin 4) (corr : Nat)
  | rxBurst (r : Fin 2) (header payload : List Int) (snr : Nat) (room : Bool)
  | rxGuardBlock (r : Fin 2) (coded : List Int) (erased preempted : Bool) (snr : Nat)
  | rxCommandBlock (r : Fin 2) (coded : List Int) (erased preempted truncated : Bool) (snr : Nat)
  | rxStartBlock (r : Fin 2) (coded : List Int) (erased preempted : Bool) (snr : Nat)
  | cmdHoldExpiry (r : Fin 2)
  | guardLossExpiry (r : Fin 2)
  | rxResyncTimeout (r : Fin 2)
  | maskWindowEnd (paHigh sent : Bool) (bins : List Nat) (total : Nat)
  | txRestart (a : Acc) (key : BitVec 16)
  | rxResync (a : Acc) (key : BitVec 16) (r : Fin 2)
  | rampUpDone (t : Fin 2)
  | rampDownDone (t : Fin 2)
  | lmdChannelWrite (a : Acc) (addr value : Word)
  -- sample ports
  | sptStart (a : Option Acc) (n : Fin 8)
  | sptStop (a : Option Acc) (n : Fin 8)
  | sptCancel (a : Option Acc) (n : Fin 8)
  | sptRunning (n : Fin 8) (half rateHz : Nat)
  | sptFrame (n : Fin 8) (half0 half1 : Nat) (rateHz : Nat) (rise fall : List Bool) (room : Bool) (beats : List (Word × Word))
  | sptClockLoss (n : Fin 8) (bck : Bool)
  | sptReleaseEnd (n : Fin 8)
  -- pins
  | pinModeChange (a : Acc) (bank : Fin 6) (value : Word)
  | pinClaimChange (a : Acc) (bank : Fin 6) (value : Word)
  | bankIoUp (bank : Fin 6)
  | bankIoDown (bank : Fin 6)
  -- Binnacle port
  | bnRead (bnA : BitVec 16) (eccErrors : Fin 3)
  | bnApertureWrite (bnA : BitVec 16) (data : Word) (be : BitVec 4) (par : BitVec 4)
  | bnPage1Write (bnA : BitVec 16) (data : Word) (be : BitVec 4) (par : BitVec 4)
  | writeQueueDrain
  | binIndRead
  | binIndWrite (strobe : BitVec 4)
  | indComplete (ack : Option Word)
  | mirrorWrite (word : BitVec 10) (data : Word) (be : BitVec 4)
  | hostMirrorWrite (word : BitVec 10) (data : Word) (be : BitVec 4) (par : BitVec 4) (room : Bool)
  | mdbRise
  | apFillDone (aperture : Fin 64)
  | bnLatchExpiry
  -- Watchkeeper
  | monHelp (cmd : Option (List Byte))
  | monLogin
  | monLoginResponse (bytes : List Byte)
  | monLoginOff
  | monStatus
  | monPeek (addr : Word) (n : Nat)
  | monPoke (addr value : Word)
  | monFill (addr : Word) (n : Nat) (value : Word)
  | monFault
  | monFaultClear
  | monLog (pinned : Bool) (n : Nat)
  | monLanes (lane : Option Nat)
  | monEye (lane : Nat) (p0 p1 v0 v1 : Int) (dwell : Nat)
  | monSound (set : Option Nat)
  | monSoundApply (set : Nat) (c : CoefSet)
  | monSoundForce (slice : Nat)
  | monBands (pll : Nat)
  | monBandsWrite (pll entry code : Nat) (fmin fmax : Word)
  | monFix
  | monImage (frames : Bool)
  | monImageAudit (golden : Bool)
  | monImageReload (golden : Bool)
  | monPartial
  | monPartialLoad (region bank : Nat)
  | monPartialCancel
  | monSlots (slot : Option Nat) (key : Bool)
  | monSlotsErase
  | monSlotsZero
  | monAbort
  | monIdleExpiry
  | monLockoutEnd
  | endControl (a : Acc) (key : BitVec 16)
  -- guarantee unit
  | faultReport (n : Fin 44) (inst : BitVec 16) (detail : BitVec 64) (source : Fin 4)
  | grdClear (a : Acc) (key : BitVec 16)
  | grdInject (a : Acc) (key : BitVec 16) (cls : BitVec 6)
  | healthPulseEnd (n : Fin 44)
  | healthPadMismatch (padHigh : Bool)
  | selftestPartDone (part : Fin 4) (failing : Option Nat)
  | railExcursion (rail : Fin 14) (mv : Nat)
  | tempExcursion (sensor : Fin 16) (celsius : Int)
  | logCrcScan
  | hkDisagree (copy : Fin 3) (unit : Byte) (bits : Nat)
  | hkResyncDone (copy : Fin 3)
  -- wear and long-run counts
  | wearMeasure (a : Acc) (key : BitVec 16)
  | wearSchedule
  | wearMeasureDone (pairs : List WearCount)
  | tjMinute (celsius : List Int)
  -- rows added at the table's end
  | watchDomainDown (inputMv : Nat)
  | railReturn (rail : Fin 14)
  | laneSync (lane : Fin 24) (synced fecAligned : Bool)
  | fmLock (c : Fin 4) (locked stereo : Bool)
  | drmLock (c : Fin 4) (mode : Fin 6) (locked : Bool)
  | cpdSyncDetect (c : Fin 4) (periods : List BitPeriod)
  | commandLine (line : List Byte) (framingErrors : Nat)
  | dacUnderrun (channel : Fin 2)
  | smpStreamUnit (rf clip room : Bool)
deriving DecidableEq, Repr

end Sys2Proof
end

