-- ==== Sys2Proof/Decode.lean ====
section
/-!
DEFINITION. The words that the opcode table gives bits: none. The rows of spec/opcode_table.json are commands with operands, not
encodings, so no word spells one.
-/
namespace Sys2Proof

/-- The command that a word spells by the table's bits. No row of the table has bits. -/
def decodeTableWord (_nbits _w : Nat) : Option Instr := none

end Sys2Proof
end

