-- ==== Sys2Proof/Machine/Cells.lean ====
section
/-!
DEFINITION. Sparse storage keyed by address: a list of (address, value) pairs in one canonical form, used for the
registers, the write mask, the memories and everything else the spec numbers. Addresses rise strictly and no listed
value is zero: an unlisted address reads as zero.
-/
namespace Sys2Proof.Machine

/-- Cells of `w` bits each, keyed by address. -/
abbrev Cells (w : Nat) : Type := List (Nat × BitVec w)

/-- The value at an address; an unlisted address reads as zero. -/
def cellRead {w : Nat} : Cells w → Nat → BitVec w
  | [], _ => 0
  | (b, v) :: rest, a => if a = b then v else cellRead rest a

/-- The entries of `m` with address `a` removed. -/
def cellErase {w : Nat} : Cells w → Nat → Cells w
  | [], _ => []
  | (b, v) :: rest, a => if a = b then cellErase rest a else (b, v) :: cellErase rest a

/-- `m` with a non-zero value put at address `a`, keeping the addresses rising. -/
def cellInsert {w : Nat} : Cells w → Nat → BitVec w → Cells w
  | [], a, x => [(a, x)]
  | (b, v) :: rest, a, x =>
    if a < b then (a, x) :: (b, v) :: rest
    else if a = b then (a, x) :: rest
    else (b, v) :: cellInsert rest a x

/-- Write one address: zero removes the entry, so that equal contents are equal lists. -/
def cellWrite {w : Nat} (m : Cells w) (a : Nat) (x : BitVec w) : Cells w :=
  if x = 0 then cellErase m a else cellInsert m a x

/-- Every address of `m` is above `lo` and rising, and no value is zero. -/
def cellWfFrom {w : Nat} : Nat → Cells w → Bool
  | _, [] => true
  | lo, (b, v) :: rest => decide (lo ≤ b) && decide (v ≠ 0) && cellWfFrom (b + 1) rest

/-- The canonical form. -/
def cellWf {w : Nat} (m : Cells w) : Bool := cellWfFrom 0 m

/-- Write consecutive addresses, `stride` apart. -/
def cellWriteAll {w : Nat} (m : Cells w) (a stride : Nat) : List (BitVec w) → Cells w
  | [] => m
  | x :: xs => cellWriteAll (cellWrite m a x) (a + stride) stride xs

/-- `n` consecutive values from address `a`, `stride` apart. -/
def cellReadAll {w : Nat} (m : Cells w) (a stride : Nat) : Nat → List (BitVec w)
  | 0 => []
  | n + 1 => cellRead m a :: cellReadAll m (a + stride) stride n

/-- A named register field: the byte address of its register, its lowest bit and its width. -/
structure Fld where
  addr : Nat
  lo : Nat
  width : Nat
deriving DecidableEq, Repr

/-- Two fields that share no bit. -/
def Fld.disjoint (f g : Fld) : Bool :=
  decide (f.addr ≠ g.addr) || decide (f.lo + f.width ≤ g.lo) || decide (g.lo + g.width ≤ f.lo)

/-- The bits of a word from `lo` up, `width` of them, as a number. -/
def bitsOf (x : Word) (lo width : Nat) : Nat := x.toNat / 2 ^ lo % 2 ^ width

/-- The word with `width` bits set from `lo` up. -/
def bitMask (lo width : Nat) : Word := BitVec.ofNat 32 ((2 ^ width - 1) * 2 ^ lo)

/-- `x` with the bits under `mask` taken from `y`. -/
def mergeBits (x y mask : Word) : Word := (x &&& ~~~mask) ||| (y &&& mask)

/-- `x` with `width` bits from `lo` up replaced by the low bits of `v`. -/
def setBits (x : Word) (lo width v : Nat) : Word :=
  mergeBits x (BitVec.ofNat 32 (v % 2 ^ width * 2 ^ lo)) (bitMask lo width)

/-- The field of a register file. -/
def fldRead (m : Cells 32) (f : Fld) : Nat := bitsOf (cellRead m f.addr) f.lo f.width

/-- The register file with one field replaced. -/
def fldWrite (m : Cells 32) (f : Fld) (v : Nat) : Cells 32 :=
  cellWrite m f.addr (setBits (cellRead m f.addr) f.lo f.width v)

/-- A two's-complement number of `width` bits as an integer. -/
def signed (width v : Nat) : Int := if v % 2 ^ width < 2 ^ (width - 1) then (v % 2 ^ width : Nat) else (v % 2 ^ width : Nat) - (2 ^ width : Nat)

/-- An integer as a two's-complement number of `width` bits. -/
def unsigned (width : Nat) (v : Int) : Nat := (v % (2 ^ width : Nat)).toNat

/-- The bytes of a number, most significant first. -/
def beBytes : Nat → Nat → List Byte
  | 0, _ => []
  | n + 1, v => BitVec.ofNat 8 (v / 256 ^ n) :: beBytes n v

/-- The bytes of a number, least significant first. -/
def leBytes : Nat → Nat → List Byte
  | 0, _ => []
  | n + 1, v => BitVec.ofNat 8 v :: leBytes n (v / 256)

/-- The number that bytes spell, most significant first. -/
def beNat (bs : List Byte) : Nat := bs.foldl (fun n b => n * 256 + b.toNat) 0

/-- The number that bytes spell, least significant first. -/
def leNat : List Byte → Nat
  | [] => 0
  | b :: bs => b.toNat + 256 * leNat bs

/-- `n` bytes of a list from offset `o`; short where the list ends. -/
def slice (bs : List Byte) (o n : Nat) : List Byte := (bs.drop o).take n

/-- The byte at an index, zero beyond the end. -/
def byteAt (bs : List Byte) (i : Nat) : Nat := (bs.getD i 0).toNat

/-- Hold a value to a range. -/
def clampNat (lo hi v : Nat) : Nat := if v < lo then lo else if hi < v then hi else v

/-- Hold a value to a range. -/
def clampInt (lo hi v : Int) : Int := if v < lo then lo else if hi < v then hi else v

end Sys2Proof.Machine
end

