-- ==== Sys2Proof/Machine/Aes.lean ====
section
/-!
DEFINITION. The ciphers that the spec names by their standards: AES (FIPS 197), the CBC, CFB-128, OFB and CTR modes
(SP 800-38A), CMAC (SP 800-38B) and GCM with 96-bit IVs (SP 800-38D). Bytes are in transmission order. PRESUMED: the
algorithms are those of the standards, which the spec cites and does not restate.
-/
namespace Sys2Proof.Machine

/-- Doubling in GF(2^8) modulo x^8 + x^4 + x^3 + x + 1. -/
def xtime (b : Byte) : Byte := if b.getLsbD 7 then (b <<< 1) ^^^ 0x1B#8 else b <<< 1

/-- Product in GF(2^8), by the bits of the second factor from the lowest. -/
def gmulFuel : Nat → Byte → Byte → Byte
  | 0, _, _ => 0
  | n + 1, a, b => (if b.getLsbD 0 then a else 0) ^^^ gmulFuel n (xtime a) (b >>> 1)

def gmul (a b : Byte) : Byte := gmulFuel 8 a b

/-- Squaring in GF(2^8). -/
def gsq (a : Byte) : Byte := gmul a a

/-- The inverse in GF(2^8), x^254, with 0 for 0. -/
def ginv (x : Byte) : Byte :=
  let x2 := gsq x
  let x4 := gsq x2
  let x8 := gsq x4
  let x16 := gsq x8
  let x32 := gsq x16
  let x64 := gsq x32
  let x128 := gsq x64
  gmul x2 (gmul x4 (gmul x8 (gmul x16 (gmul x32 (gmul x64 x128)))))

/-- The S-box: the inverse followed by the affine map. -/
def sbox (x : Byte) : Byte :=
  let b := ginv x
  b ^^^ b.rotateLeft 1 ^^^ b.rotateLeft 2 ^^^ b.rotateLeft 3 ^^^ b.rotateLeft 4 ^^^ 0x63#8

/-- The inverse S-box. -/
def invSbox (x : Byte) : Byte :=
  ginv (x.rotateLeft 1 ^^^ x.rotateLeft 3 ^^^ x.rotateLeft 6 ^^^ 0x05#8)

/-- Exclusive or of byte strings, as long as the shorter. -/
def xorBytes (a b : List Byte) : List Byte := List.zipWith (· ^^^ ·) a b

/-- A byte string cut or padded with zeros to `n` bytes. -/
def padTo (n : Nat) (bs : List Byte) : List Byte := (bs ++ List.replicate n 0).take n

/-- Cut into pieces of `n`, the last short; `fuel` bounds the pieces. -/
def piecesFuel (n : Nat) : Nat → List Byte → List (List Byte)
  | 0, _ => []
  | f + 1, bs => if bs.isEmpty then [] else bs.take n :: piecesFuel n f (bs.drop n)

/-- 16-byte blocks of a byte string, the last short. -/
def blocks16 (bs : List Byte) : List (List Byte) := piecesFuel 16 bs.length bs

/-- One step of the key expansion: word `i` from the reversed list of the words before it. -/
def keyWord (nk i : Nat) (rcon : Byte) (rev : List (List Byte)) : List Byte :=
  let prev := rev.headD []
  let old := rev.getD (nk - 1) []
  let t :=
    if i % nk = 0 then
      xorBytes (((prev.drop 1) ++ prev.take 1).map sbox) [rcon, 0, 0, 0]
    else if nk = 8 && i % nk = 4 then prev.map sbox
    else prev
  xorBytes old t

/-- Key expansion: `n` further words after the first `i`, newest first. -/
def expandFuel (nk : Nat) : Nat → Nat → Byte → List (List Byte) → List (List Byte)
  | 0, _, _, rev => rev
  | n + 1, i, rcon, rev =>
    expandFuel nk n (i + 1) (if i % nk = 0 then xtime rcon else rcon) (keyWord nk i rcon rev :: rev)

/-- The round keys, 16 bytes each, first round first: 11 for a 16-byte key, 15 for a 32-byte key. -/
def roundKeys (key : List Byte) : List (List Byte) :=
  let nk := key.length / 4
  let ws := (piecesFuel 4 nk key).reverse
  let all := (expandFuel nk (4 * (nk + 7) - nk) nk 1#8 ws).reverse
  blocks16 all.flatten

/-- ShiftRows on the column-major state. -/
def shiftRows (s : List Byte) : List Byte :=
  [0, 5, 10, 15, 4, 9, 14, 3, 8, 13, 2, 7, 12, 1, 6, 11].map fun i => s.getD i 0

def invShiftRows (s : List Byte) : List Byte :=
  [0, 13, 10, 7, 4, 1, 14, 11, 8, 5, 2, 15, 12, 9, 6, 3].map fun i => s.getD i 0

/-- MixColumns by the circulant matrix whose first row is `a b c d`. -/
def mixWith (a b c d : Byte) (s : List Byte) : List Byte :=
  (piecesFuel 4 4 s).flatMap fun col =>
    let w := col.getD 0 0; let x := col.getD 1 0; let y := col.getD 2 0; let z := col.getD 3 0
    [gmul w a ^^^ gmul x b ^^^ gmul y c ^^^ gmul z d, gmul w d ^^^ gmul x a ^^^ gmul y b ^^^ gmul z c,
     gmul w c ^^^ gmul x d ^^^ gmul y a ^^^ gmul z b, gmul w b ^^^ gmul x c ^^^ gmul y d ^^^ gmul z a]

def mixColumns (s : List Byte) : List Byte := mixWith 2 3 1 1 s

def invMixColumns (s : List Byte) : List Byte := mixWith 0x0E 0x0B 0x0D 0x09 s

/-- The rounds after the first key addition. -/
def aesRounds : List (List Byte) → List Byte → List Byte
  | [], s => s
  | [k], s => xorBytes (shiftRows (s.map sbox)) k
  | k :: ks, s => aesRounds ks (xorBytes (mixColumns (shiftRows (s.map sbox))) k)

/-- AES of one block (FIPS 197). -/
def aesEnc (key block : List Byte) : List Byte :=
  match roundKeys key with
  | [] => block
  | k :: ks => aesRounds ks (xorBytes block k)

/-- The inverse rounds, round keys last first. -/
def aesInvRounds : List (List Byte) → List Byte → List Byte
  | [], s => s
  | [k], s => xorBytes ((invShiftRows s).map invSbox) k
  | k :: ks, s => aesInvRounds ks (invMixColumns (xorBytes ((invShiftRows s).map invSbox) k))

/-- The inverse of AES of one block. -/
def aesDec (key block : List Byte) : List Byte :=
  match (roundKeys key).reverse with
  | [] => block
  | k :: ks => aesInvRounds ks (xorBytes block k)

/-- Increment the last 32 bits of a counter block. -/
def inc32 (b : List Byte) : List Byte := b.take 12 ++ beBytes 4 (beNat (b.drop 12) + 1)

/-- CTR mode from a counter block. -/
def aesCtrFuel (key : List Byte) : Nat → List Byte → List Byte → List Byte
  | 0, _, _ => []
  | f + 1, ctr, bs =>
    if bs.isEmpty then [] else xorBytes (bs.take 16) (aesEnc key ctr) ++ aesCtrFuel key f (inc32 ctr) (bs.drop 16)

def aesCtr (key ctr bs : List Byte) : List Byte := aesCtrFuel key bs.length ctr bs

/-- CBC encryption of whole blocks. -/
def aesCbcEnc (key iv bs : List Byte) : List Byte :=
  ((blocks16 bs).foldl (fun (acc : List Byte × List Byte) b =>
    let c := aesEnc key (xorBytes b acc.2)
    (acc.1 ++ c, c)) ([], iv)).1

/-- CBC decryption of whole blocks. -/
def aesCbcDec (key iv bs : List Byte) : List Byte :=
  ((blocks16 bs).foldl (fun (acc : List Byte × List Byte) c =>
    (acc.1 ++ xorBytes (aesDec key c) acc.2, c)) ([], iv)).1

/-- CFB with 128-bit segments and a short last segment. -/
def aesCfb (enc : Bool) (key iv bs : List Byte) : List Byte :=
  ((blocks16 bs).foldl (fun (acc : List Byte × List Byte) b =>
    let o := xorBytes b (aesEnc key acc.2)
    (acc.1 ++ o, if enc then o else b)) ([], iv)).1

/-- OFB. -/
def aesOfb (key iv bs : List Byte) : List Byte :=
  ((blocks16 bs).foldl (fun (acc : List Byte × List Byte) b =>
    let k := aesEnc key acc.2
    (acc.1 ++ xorBytes b k, k)) ([], iv)).1

/-- Product in GF(2^128) with GCM's bit order: `n` bits of `x` are left, from its most significant. -/
def ghashMulFuel : Nat → BitVec 128 → BitVec 128 → BitVec 128 → BitVec 128
  | 0, _, _, z => z
  | n + 1, x, v, z =>
    ghashMulFuel n (x <<< 1) (if v.getLsbD 0 then (v >>> 1) ^^^ (0xE1#128 <<< 120) else v >>> 1)
      (if x.getLsbD 127 then z ^^^ v else z)

/-- A block as a number, most significant byte first. -/
def blockNat (b : List Byte) : BitVec 128 := BitVec.ofNat 128 (beNat (padTo 16 b))

/-- GHASH of blocks under the subkey. -/
def ghash (h : BitVec 128) (bs : List (List Byte)) : BitVec 128 :=
  bs.foldl (fun y b => ghashMulFuel 128 (y ^^^ blockNat b) h 0) 0

/-- The block encrypted for the tag: AES(K, J0) with J0 = IV ∥ 0x0000_0001. -/
def gcmMaskBlock (key iv : List Byte) : List Byte := aesEnc key (padTo 12 iv ++ beBytes 4 1)

/-- The 16-byte GCM tag of a ciphertext. -/
def gcmTag (key iv aad ct : List Byte) : List Byte :=
  let h := blockNat (aesEnc key (List.replicate 16 0))
  let len := beBytes 8 (aad.length * 8) ++ beBytes 8 (ct.length * 8)
  let s := ghash h (blocks16 aad ++ blocks16 ct ++ [len])
  xorBytes (beBytes 16 s.toNat) (gcmMaskBlock key iv)

/-- GCM's keystream starts at J0 + 1. -/
def gcmCrypt (key iv bs : List Byte) : List Byte := aesCtr key (padTo 12 iv ++ beBytes 4 2) bs

/-- GCM decryption: the plaintext where the tag, cut to the length given, is right. -/
def gcmOpen (key iv aad ct tag : List Byte) : Option (List Byte) :=
  if (gcmTag key iv aad ct).take tag.length = tag then some (gcmCrypt key iv ct) else none

/-- Doubling in GF(2^128) for the CMAC subkeys. -/
def cmacDbl (x : BitVec 128) : BitVec 128 := if x.getLsbD 127 then (x <<< 1) ^^^ 0x87#128 else x <<< 1

/-- CMAC (SP 800-38B), all 16 bytes. -/
def aesCmac (key msg : List Byte) : List Byte :=
  let k1 := cmacDbl (blockNat (aesEnc key (List.replicate 16 0)))
  let n := if msg.isEmpty then 0 else (msg.length - 1) / 16
  let last := msg.drop (16 * n)
  let m := if last.length = 16 then xorBytes last (beBytes 16 k1.toNat)
    else xorBytes (padTo 16 (last ++ [0x80#8])) (beBytes 16 (cmacDbl k1).toNat)
  aesEnc key (xorBytes m ((blocks16 (msg.take (16 * n))).foldl (fun c b => aesEnc key (xorBytes c b))
    (List.replicate 16 0)))

end Sys2Proof.Machine
end

