-- ==== Sys2Proof/Machine/Crc.lean ====
section
/-!
DEFINITION. The cyclic redundancy checks the spec uses: the reflected CRC-32 of the event log and of the image
(Table WCH-1), and a bit-serial CRC of any width, most significant bit first, for the broadcast frame formats.
-/
namespace Sys2Proof.Machine

/-- One bit of a reflected CRC-32 with polynomial 0x04C1_1DB7 (reversed: 0xEDB8_8320). -/
def crc32Bit (c : BitVec 32) : BitVec 32 :=
  if c.getLsbD 0 then (c >>> 1) ^^^ 0xEDB88320#32 else c >>> 1

/-- One byte of the reflected CRC-32. -/
def crc32Byte (c : BitVec 32) (b : Byte) : BitVec 32 :=
  crc32Bit (crc32Bit (crc32Bit (crc32Bit (crc32Bit (crc32Bit (crc32Bit (crc32Bit (c ^^^ b.setWidth 32))))))))

/-- CRC-32 of bytes: reflected, initial value and final XOR 0xFFFF_FFFF (Table WCH-1). -/
def crc32 (bs : List Byte) : BitVec 32 := ~~~(bs.foldl crc32Byte 0xFFFFFFFF#32)

/-- The bits of bytes, most significant bit of each byte first. -/
def bitsMsbFirst (bs : List Byte) : List Bool :=
  bs.flatMap fun b => [b.getLsbD 7, b.getLsbD 6, b.getLsbD 5, b.getLsbD 4, b.getLsbD 3, b.getLsbD 2, b.getLsbD 1, b.getLsbD 0]

/-- A CRC of `w` bits, not reflected: one message bit. -/
def crcStep (w poly c : Nat) (b : Bool) : Nat :=
  let top := c / 2 ^ (w - 1) % 2
  let c' := c * 2 % 2 ^ w
  if (top == 1) == b then c' else Nat.xor c' (poly % 2 ^ w)

/-- A CRC of `w` bits over message bits, not reflected: initial value `init`, final XOR `xor`. -/
def crcMsb (w poly init xor : Nat) (bits : List Bool) : Nat :=
  Nat.xor (bits.foldl (crcStep w poly) (init % 2 ^ w)) (xor % 2 ^ w)

end Sys2Proof.Machine
end

