-- ==== Sys2Proof/Config.lean ====
section
/-!
DEFINITION. What the spec leaves open or leaves to one device: values without a body, so that no proof can use one.
-/
namespace Sys2Proof

/-- A free value, one for each draw: random bytes (R435, R479), a seeding error (R352), a measured quantity for which the
spec gives no number. Nothing constrains it. -/
opaque Config.free : Nat → Nat

/-- The factory trim of sampler set `s`, word `w` (OFFSET, GAIN, SKEW, BW): the spec gives no value, only limits
(R566). -/
opaque Config.factoryTrim : Nat → Nat → Nat

/-- Beats of buffer behind stream port `p`, for the ports whose buffer the spec gives no size (R35). -/
opaque Config.streamBeats : Nat → Nat

/-- Property `prop` of resource `i` of kind `kind`, as configuration frames set it: the spec says that the frames set it and not which
bits do (R219). -/
opaque Config.imageSets (frames : List (Nat × BitVec 2048)) (kind i prop : Nat) : Nat

/-- A value exactly between two neighbours is rounded up, where the spec says 'rounded to nearest' and no more. -/
opaque Config.tieUp (v : Int) (shift : Nat) : Bool

/-- A value between two neighbours is rounded up, where the spec gives no rounding. -/
opaque Config.roundUp (v : Int) (shift : Nat) : Bool

/-- REFDIV of FPLL0's load setting, which the spec does not give (R344). -/
opaque Config.loadRefDiv : BitVec 4

/-- The fractional-delay filter of a sampler chain: SKEW, and the chain's values by age (R539). -/
opaque Config.fracDelay (skew : Int) (y : Nat → Int) : Int

/-- The fixed notch of a sampler chain, which takes the pilot out of the chain's values by age (R533). -/
opaque Config.pilotNotch (rf : Bool) (y : Nat → Int) : Int

/-- Samples between a pin and the end of its chain (R540). -/
opaque Config.chainLatency (rf : Bool) : Nat

/-- Rail `q` of the mixer of a DDC for an input sample and the 20-bit address of its sine and cosine tables (R571). -/
opaque Config.ncoMix (q : Bool) (x : Int) (address : Nat) : Int

/-- A FIR sum that does not fit 48 bits (R574). -/
opaque Config.acc48 (sum : Int) : Int

/-- How far an AGC lowers and raises its gain over one sample of a magnitude (R613, R667). -/
opaque Config.agcAttack (gain level : Nat) : Nat
opaque Config.agcDecay (gain level : Nat) : Nat

/-- Rail `q` of the line modem's mixer, the decimator behind it, its fixed matched filter and the adaption of its equaliser, and the fixed
interpolator of a transmit channel with the mixer behind it (R666, R667). -/
opaque Config.lineMix (q : Bool) (hz : Nat) (x : Int) (instant : Nat) : Int
opaque Config.lineDecimate (rate : Nat) (x : Nat → Int) : Int
opaque Config.rrcTap (k : Nat) : Int
opaque Config.eqAdapt (q : Bool) (taps : List (Int × Int)) (window : List (Int × Int)) (k : Nat) : Int
opaque Config.lineInterpolate (hz gain : Nat) (samples : List (Int × Int)) (n : Nat) : Int

/-- Of two paths of one metric into a state, a Viterbi decoder keeps the second (R672). -/
opaque Config.viterbiTie (metric : Int) : Bool

/-- The factory ratio of wear pair `r` held in fuses, a numerator and a denominator, each less one (R904). -/
opaque Config.wearFactory (r : Nat) : Nat × Nat

/-- The part is of speed grade -3, else -2 (R2, R4): one part has one grade, and the spec leaves which. -/
opaque Config.grade3 : Bool

end Sys2Proof
end

