-- ==== Sys2Proof/Machine/Fields.lean ====
section
/-! DEFINITION. The register fields by name, one per line of the spec's bit tables: the byte address of the register,
the field's lowest bit and its width. A register with instances takes its instance numbers as arguments. The names are
the spec's, REGISTER_FIELD; REGISTER alone is the register's byte address. `_ALL` is the one field of a register that the
spec gives no field name. -/
namespace Sys2Proof.Machine


-- Sys: chapter 01
def SYS_ID : Nat := 0x40000000
def SYS_ID_PART : Fld := ⟨SYS_ID, 16, 16⟩
def SYS_ID_VARIANT : Fld := ⟨SYS_ID, 8, 8⟩
def SYS_ID_STEP_LETTER : Fld := ⟨SYS_ID, 4, 4⟩
def SYS_ID_STEP_DIGIT : Fld := ⟨SYS_ID, 0, 4⟩
def SYS_SERVICE : Nat := 0x40000004
def SYS_SERVICE_MON_CONTROL : Fld := ⟨SYS_SERVICE, 8, 1⟩
def SYS_SERVICE_MON_RUN : Fld := ⟨SYS_SERVICE, 7, 1⟩
def SYS_SERVICE_RADIO_PWR : Fld := ⟨SYS_SERVICE, 6, 1⟩
def SYS_SERVICE_LANE_PWR : Fld := ⟨SYS_SERVICE, 5, 1⟩
def SYS_SERVICE_LANDFALL : Fld := ⟨SYS_SERVICE, 4, 1⟩
def SYS_SERVICE_FABRIC_RELEASED : Fld := ⟨SYS_SERVICE, 3, 1⟩
def SYS_SERVICE_IMAGE_LOADED : Fld := ⟨SYS_SERVICE, 2, 1⟩
def SYS_SERVICE_HK_OK : Fld := ⟨SYS_SERVICE, 1, 1⟩
def SYS_SERVICE_WATCH_OK : Fld := ⟨SYS_SERVICE, 0, 1⟩
def SYS_BUSERR_INFO : Nat := 0x40000008
def SYS_BUSERR_INFO_VALID : Fld := ⟨SYS_BUSERR_INFO, 31, 1⟩
def SYS_BUSERR_INFO_OVERRUN : Fld := ⟨SYS_BUSERR_INFO, 30, 1⟩
def SYS_BUSERR_INFO_CODE : Fld := ⟨SYS_BUSERR_INFO, 28, 2⟩
def SYS_BUSERR_INFO_WRITE : Fld := ⟨SYS_BUSERR_INFO, 27, 1⟩
def SYS_BUSERR_INFO_MASTER : Fld := ⟨SYS_BUSERR_INFO, 16, 4⟩
def SYS_BUSERR_ADDR : Nat := 0x4000000C
def SYS_BUSERR_ADDR_ADDR : Fld := ⟨SYS_BUSERR_ADDR, 0, 32⟩
def SYS_MASK_DROPS : Nat := 0x40000010
def SYS_MASK_DROPS_OVF : Fld := ⟨SYS_MASK_DROPS, 31, 1⟩
def SYS_MASK_DROPS_COUNT : Fld := ⟨SYS_MASK_DROPS, 0, 16⟩

-- Pwr: chapter 02
def PWR_STATE : Nat := 0x40000100
def PWR_STATE_STATE : Fld := ⟨PWR_STATE, 0, 3⟩
def PWR_WATCH_REQ : Nat := 0x40000104
def PWR_WATCH_REQ_REQ : Fld := ⟨PWR_WATCH_REQ, 0, 1⟩
def PWR_WATCH_CFG : Nat := 0x40000108
def PWR_WATCH_CFG_GRACE_US : Fld := ⟨PWR_WATCH_CFG, 4, 9⟩
def PWR_WATCH_CFG_VMON_EN : Fld := ⟨PWR_WATCH_CFG, 2, 1⟩
def PWR_WATCH_CFG_PIN_EN : Fld := ⟨PWR_WATCH_CFG, 1, 1⟩
def PWR_WATCH_CFG_FAB_EN : Fld := ⟨PWR_WATCH_CFG, 0, 1⟩
def PWR_VMON_CFG : Nat := 0x4000010C
def PWR_VMON_CFG_FILTER_US : Fld := ⟨PWR_VMON_CFG, 24, 8⟩
def PWR_VMON_CFG_HYST : Fld := ⟨PWR_VMON_CFG, 16, 4⟩
def PWR_VMON_CFG_THRESH : Fld := ⟨PWR_VMON_CFG, 0, 10⟩
def PWR_WAKE_CFG : Nat := 0x40000110
def PWR_WAKE_CFG_TAMPER : Fld := ⟨PWR_WAKE_CFG, 3, 1⟩
def PWR_WAKE_CFG_TIMER : Fld := ⟨PWR_WAKE_CFG, 2, 1⟩
def PWR_WAKE_CFG_VMON : Fld := ⟨PWR_WAKE_CFG, 1, 1⟩
def PWR_WAKE_CFG_PIN : Fld := ⟨PWR_WAKE_CFG, 0, 1⟩
def PWR_STATUS : Nat := 0x40000114
def PWR_STATUS_FROM_WATCH_RELOAD : Fld := ⟨PWR_STATUS, 10, 1⟩
def PWR_STATUS_CORE_DROP : Fld := ⟨PWR_STATUS, 9, 1⟩
def PWR_STATUS_WAKE_LATE : Fld := ⟨PWR_STATUS, 8, 1⟩
def PWR_STATUS_WAKE_CAUSE : Fld := ⟨PWR_STATUS, 4, 4⟩
def PWR_STATUS_ENTRY_CAUSE : Fld := ⟨PWR_STATUS, 0, 3⟩
def PWR_WATCH_COUNT : Nat := 0x40000118
def PWR_WATCH_COUNT_OVF : Fld := ⟨PWR_WATCH_COUNT, 31, 1⟩
def PWR_WATCH_COUNT_COUNT : Fld := ⟨PWR_WATCH_COUNT, 0, 24⟩
def PWR_TIMES : Nat := 0x4000011C
def PWR_TIMES_WAKE : Fld := ⟨PWR_TIMES, 16, 16⟩
def PWR_TIMES_DRAIN : Fld := ⟨PWR_TIMES, 0, 16⟩
def PWR_RAILS : Nat := 0x40000120
def PWR_RAILS_IO : Fld := ⟨PWR_RAILS, 8, 6⟩
def PWR_RAILS_ANA09 : Fld := ⟨PWR_RAILS, 5, 1⟩
def PWR_RAILS_ANA18 : Fld := ⟨PWR_RAILS, 4, 1⟩
def PWR_RAILS_VTT : Fld := ⟨PWR_RAILS, 3, 1⟩
def PWR_RAILS_LANE : Fld := ⟨PWR_RAILS, 2, 1⟩
def PWR_RAILS_AUX : Fld := ⟨PWR_RAILS, 1, 1⟩
def PWR_RAILS_CORE : Fld := ⟨PWR_RAILS, 0, 1⟩

-- Wch: chapter 03
def WCH_TIME_SEC_LO : Nat := 0x40008000
def WCH_TIME_SEC_LO_SEC : Fld := ⟨WCH_TIME_SEC_LO, 0, 32⟩
def WCH_TIME_SEC_HI : Nat := 0x40008004
def WCH_TIME_SEC_HI_SEC : Fld := ⟨WCH_TIME_SEC_HI, 0, 16⟩
def WCH_TIME_NS : Nat := 0x40008008
def WCH_TIME_NS_NS : Fld := ⟨WCH_TIME_NS, 0, 32⟩
def WCH_SET_SEC_LO : Nat := 0x40008010
def WCH_SET_SEC_LO_SEC : Fld := ⟨WCH_SET_SEC_LO, 0, 32⟩
def WCH_SET_SEC_HI : Nat := 0x40008014
def WCH_SET_SEC_HI_SEC : Fld := ⟨WCH_SET_SEC_HI, 0, 16⟩
def WCH_SET_NS : Nat := 0x40008018
def WCH_SET_NS_NS : Fld := ⟨WCH_SET_NS, 0, 32⟩
def WCH_SET_CMD : Nat := 0x4000801C
def WCH_SET_CMD_COMMIT : Fld := ⟨WCH_SET_CMD, 0, 1⟩
def WCH_TRIM : Nat := 0x40008020
def WCH_TRIM_AUTO : Fld := ⟨WCH_TRIM, 16, 1⟩
def WCH_TRIM_TRIM : Fld := ⟨WCH_TRIM, 0, 16⟩
def WCH_STATUS : Nat := 0x40008024
def WCH_STATUS_SWITCHED : Fld := ⟨WCH_STATUS, 13, 1⟩
def WCH_STATUS_COLD : Fld := ⟨WCH_STATUS, 12, 1⟩
def WCH_STATUS_XTAL_OK : Fld := ⟨WCH_STATUS, 11, 1⟩
def WCH_STATUS_TIME_VALID : Fld := ⟨WCH_STATUS, 10, 1⟩
def WCH_STATUS_SUPPLY : Fld := ⟨WCH_STATUS, 8, 2⟩
def WCH_STATUS_XTAL_FAIL : Fld := ⟨WCH_STATUS, 7, 1⟩
def WCH_STATUS_TIME_CHECK : Fld := ⟨WCH_STATUS, 6, 1⟩
def WCH_STATUS_TIMER : Fld := ⟨WCH_STATUS, 5, 1⟩
def WCH_STATUS_STORE_LOW : Fld := ⟨WCH_STATUS, 4, 1⟩
def WCH_STATUS_TAMPER : Fld := ⟨WCH_STATUS, 0, 4⟩
def WCH_TAMPER_CFG : Nat := 0x40008028
def WCH_TAMPER_CFG_EN0 : Fld := ⟨WCH_TAMPER_CFG, 7, 1⟩
def WCH_TAMPER_CFG_POL0 : Fld := ⟨WCH_TAMPER_CFG, 6, 1⟩
def WCH_TAMPER_CFG_ERASE0 : Fld := ⟨WCH_TAMPER_CFG, 5, 1⟩
def WCH_TAMPER_CFG_DEBOUNCE0 : Fld := ⟨WCH_TAMPER_CFG, 0, 4⟩
def WCH_TAMPER_CFG_EN1 : Fld := ⟨WCH_TAMPER_CFG, 15, 1⟩
def WCH_TAMPER_CFG_POL1 : Fld := ⟨WCH_TAMPER_CFG, 14, 1⟩
def WCH_TAMPER_CFG_ERASE1 : Fld := ⟨WCH_TAMPER_CFG, 13, 1⟩
def WCH_TAMPER_CFG_DEBOUNCE1 : Fld := ⟨WCH_TAMPER_CFG, 8, 4⟩
def WCH_TAMPER_CFG_EN2 : Fld := ⟨WCH_TAMPER_CFG, 23, 1⟩
def WCH_TAMPER_CFG_POL2 : Fld := ⟨WCH_TAMPER_CFG, 22, 1⟩
def WCH_TAMPER_CFG_ERASE2 : Fld := ⟨WCH_TAMPER_CFG, 21, 1⟩
def WCH_TAMPER_CFG_DEBOUNCE2 : Fld := ⟨WCH_TAMPER_CFG, 16, 4⟩
def WCH_TAMPER_CFG_EN3 : Fld := ⟨WCH_TAMPER_CFG, 31, 1⟩
def WCH_TAMPER_CFG_POL3 : Fld := ⟨WCH_TAMPER_CFG, 30, 1⟩
def WCH_TAMPER_CFG_ERASE3 : Fld := ⟨WCH_TAMPER_CFG, 29, 1⟩
def WCH_TAMPER_CFG_DEBOUNCE3 : Fld := ⟨WCH_TAMPER_CFG, 24, 4⟩
def WCH_TAMPER_COUNT : Nat := 0x4000802C
def WCH_TAMPER_COUNT_OVF0 : Fld := ⟨WCH_TAMPER_COUNT, 7, 1⟩
def WCH_TAMPER_COUNT_COUNT0 : Fld := ⟨WCH_TAMPER_COUNT, 0, 7⟩
def WCH_TAMPER_COUNT_OVF1 : Fld := ⟨WCH_TAMPER_COUNT, 15, 1⟩
def WCH_TAMPER_COUNT_COUNT1 : Fld := ⟨WCH_TAMPER_COUNT, 8, 7⟩
def WCH_TAMPER_COUNT_OVF2 : Fld := ⟨WCH_TAMPER_COUNT, 23, 1⟩
def WCH_TAMPER_COUNT_COUNT2 : Fld := ⟨WCH_TAMPER_COUNT, 16, 7⟩
def WCH_TAMPER_COUNT_OVF3 : Fld := ⟨WCH_TAMPER_COUNT, 31, 1⟩
def WCH_TAMPER_COUNT_COUNT3 : Fld := ⟨WCH_TAMPER_COUNT, 24, 7⟩
def WCH_WAKE_TIMER : Nat := 0x40008030
def WCH_WAKE_TIMER_COUNT : Fld := ⟨WCH_WAKE_TIMER, 0, 32⟩
def WCH_SUPPLY_COUNT : Nat := 0x40008034
def WCH_SUPPLY_COUNT_OVF : Fld := ⟨WCH_SUPPLY_COUNT, 31, 1⟩
def WCH_SUPPLY_COUNT_COUNT : Fld := ⟨WCH_SUPPLY_COUNT, 0, 16⟩
def LOG_ENTRY (i w : Nat) : Nat := 0x40180000 + i * 0x20 + w * 0x4
def LOG_ENTRY_ALL (i w : Nat) : Fld := ⟨LOG_ENTRY i w, 0, 32⟩
def LOG_HEAD : Nat := 0x40188000
def LOG_HEAD_ALL : Fld := ⟨LOG_HEAD, 0, 10⟩
def LOG_PIN : Nat := 0x40188004
def LOG_PIN_OVF : Fld := ⟨LOG_PIN, 31, 1⟩
def LOG_PIN_OVERFLOW : Fld := ⟨LOG_PIN, 16, 15⟩
def LOG_PIN_USED : Fld := ⟨LOG_PIN, 0, 8⟩
def LOG_LOST : Nat := 0x40188008
def LOG_LOST_OVF : Fld := ⟨LOG_LOST, 31, 1⟩
def LOG_LOST_COUNT : Fld := ⟨LOG_LOST, 0, 16⟩
def LOG_CMD : Nat := 0x4018800C
def LOG_CMD_CLEAR_ALL : Fld := ⟨LOG_CMD, 1, 1⟩
def LOG_CMD_CLEAR_PINNED : Fld := ⟨LOG_CMD, 0, 1⟩
def LOG_SEQ : Nat := 0x40188010
def LOG_SEQ_SEQ : Fld := ⟨LOG_SEQ, 0, 32⟩
def HRV_CFG : Nat := 0x40010000
def HRV_CFG_OC_WINDOW : Fld := ⟨HRV_CFG, 16, 4⟩
def HRV_CFG_FRAC : Fld := ⟨HRV_CFG, 8, 6⟩
def HRV_CFG_EN : Fld := ⟨HRV_CFG, 0, 1⟩
def HRV_THRESH : Nat := 0x40010004
def HRV_THRESH_STORE_MAX : Fld := ⟨HRV_THRESH, 16, 8⟩
def HRV_THRESH_USE_OFF : Fld := ⟨HRV_THRESH, 8, 8⟩
def HRV_THRESH_USE_ON : Fld := ⟨HRV_THRESH, 0, 8⟩
def HRV_STATUS : Nat := 0x40010008
def HRV_STATUS_STORE_MV : Fld := ⟨HRV_STATUS, 16, 13⟩
def HRV_STATUS_MODE : Fld := ⟨HRV_STATUS, 0, 2⟩
def HRV_TRACK : Nat := 0x4001000C
def HRV_TRACK_FREQ : Fld := ⟨HRV_TRACK, 16, 12⟩
def HRV_TRACK_VOC : Fld := ⟨HRV_TRACK, 0, 16⟩

-- Cfg: chapter 04
def CFG_STATUS : Nat := 0x40020000
def CFG_STATUS_GUARDED : Fld := ⟨CFG_STATUS, 12, 1⟩
def CFG_STATUS_DEV_IMAGE : Fld := ⟨CFG_STATUS, 11, 1⟩
def CFG_STATUS_MODE : Fld := ⟨CFG_STATUS, 8, 3⟩
def CFG_STATUS_OCTAL : Fld := ⟨CFG_STATUS, 7, 1⟩
def CFG_STATUS_DONE : Fld := ⟨CFG_STATUS, 6, 1⟩
def CFG_STATUS_ERR : Fld := ⟨CFG_STATUS, 5, 1⟩
def CFG_STATUS_GOLDEN : Fld := ⟨CFG_STATUS, 4, 1⟩
def CFG_STATUS_PHASE : Fld := ⟨CFG_STATUS, 0, 3⟩
def CFG_ERR_PRIMARY : Nat := 0x40020004
def CFG_ERR_PRIMARY_DETAIL : Fld := ⟨CFG_ERR_PRIMARY, 8, 24⟩
def CFG_ERR_PRIMARY_CODE : Fld := ⟨CFG_ERR_PRIMARY, 0, 8⟩
def CFG_ERR_GOLDEN : Nat := 0x40020008
def CFG_ERR_GOLDEN_DETAIL : Fld := ⟨CFG_ERR_GOLDEN, 8, 24⟩
def CFG_ERR_GOLDEN_CODE : Fld := ⟨CFG_ERR_GOLDEN, 0, 8⟩
def CFG_IMAGE_VER : Nat := 0x4002000C
def CFG_IMAGE_VER_VERSION : Fld := ⟨CFG_IMAGE_VER, 0, 32⟩
def CFG_LOAD_TIME : Nat := 0x40020010
def CFG_LOAD_TIME_US : Fld := ⟨CFG_LOAD_TIME, 0, 32⟩
def CFG_LOAD_COUNT : Nat := 0x40020014
def CFG_LOAD_COUNT_OVF : Fld := ⟨CFG_LOAD_COUNT, 31, 1⟩
def CFG_LOAD_COUNT_COUNT : Fld := ⟨CFG_LOAD_COUNT, 0, 16⟩
def CFG_CMD : Nat := 0x40020018
def CFG_CMD_KEY : Fld := ⟨CFG_CMD, 16, 16⟩
def CFG_CMD_TARGET : Fld := ⟨CFG_CMD, 2, 1⟩
def CFG_CMD_OP : Fld := ⟨CFG_CMD, 0, 2⟩
def CFG_KEY_STATE : Nat := 0x4002001C
def CFG_KEY_STATE_FUSE_FAIL : Fld := ⟨CFG_KEY_STATE, 2, 1⟩
def CFG_KEY_STATE_FUSE_BUSY : Fld := ⟨CFG_KEY_STATE, 1, 1⟩
def CFG_KEY_STATE_FUSED : Fld := ⟨CFG_KEY_STATE, 0, 1⟩
def CFG_AUDIT_CFG : Nat := 0x40020020
def CFG_AUDIT_CFG_PERIOD_H : Fld := ⟨CFG_AUDIT_CFG, 0, 16⟩
def CFG_AUDIT_STATUS : Nat := 0x40020024
def CFG_AUDIT_STATUS_CHUNK : Fld := ⟨CFG_AUDIT_STATUS, 16, 16⟩
def CFG_AUDIT_STATUS_ABORTED : Fld := ⟨CFG_AUDIT_STATUS, 11, 1⟩
def CFG_AUDIT_STATUS_FAIL : Fld := ⟨CFG_AUDIT_STATUS, 10, 1⟩
def CFG_AUDIT_STATUS_RUNNING : Fld := ⟨CFG_AUDIT_STATUS, 9, 1⟩
def CFG_AUDIT_STATUS_TARGET : Fld := ⟨CFG_AUDIT_STATUS, 8, 1⟩
def CFG_AUDIT_STATUS_CODE : Fld := ⟨CFG_AUDIT_STATUS, 0, 8⟩
def CFG_AUDIT_COUNT : Nat := 0x40020028
def CFG_AUDIT_COUNT_OVF : Fld := ⟨CFG_AUDIT_COUNT, 31, 1⟩
def CFG_AUDIT_COUNT_COUNT : Fld := ⟨CFG_AUDIT_COUNT, 0, 24⟩
def CFG_LANDFALL : Nat := 0x40020030
def CFG_LANDFALL_ROLE : Fld := ⟨CFG_LANDFALL, 22, 2⟩
def CFG_LANDFALL_OWN_ID : Fld := ⟨CFG_LANDFALL, 16, 6⟩
def CFG_LANDFALL_READY : Fld := ⟨CFG_LANDFALL, 8, 7⟩
def CFG_LANDFALL_ID_CONFLICT : Fld := ⟨CFG_LANDFALL, 7, 1⟩
def CFG_LANDFALL_STATE : Fld := ⟨CFG_LANDFALL, 0, 3⟩
def CFG_LANDFALL_EXCL_LO : Nat := 0x40020034
def CFG_LANDFALL_EXCL_LO_ALL : Fld := ⟨CFG_LANDFALL_EXCL_LO, 0, 32⟩
def CFG_LANDFALL_EXCL_HI : Nat := 0x40020038
def CFG_LANDFALL_EXCL_HI_ALL : Fld := ⟨CFG_LANDFALL_EXCL_HI, 0, 32⟩
def CFG_NVM_CMD : Nat := 0x40020040
def CFG_NVM_CMD_KEY : Fld := ⟨CFG_NVM_CMD, 16, 16⟩
def CFG_NVM_CMD_OP : Fld := ⟨CFG_NVM_CMD, 0, 2⟩
def CFG_NVM_ADDR : Nat := 0x40020044
def CFG_NVM_ADDR_ALL : Fld := ⟨CFG_NVM_ADDR, 0, 32⟩
def CFG_NVM_STATUS : Nat := 0x40020048
def CFG_NVM_STATUS_DENIED : Fld := ⟨CFG_NVM_STATUS, 3, 1⟩
def CFG_NVM_STATUS_ERR : Fld := ⟨CFG_NVM_STATUS, 2, 1⟩
def CFG_NVM_STATUS_DONE : Fld := ⟨CFG_NVM_STATUS, 1, 1⟩
def CFG_NVM_STATUS_BUSY : Fld := ⟨CFG_NVM_STATUS, 0, 1⟩
def CFG_NVM_CTRL : Nat := 0x4002004C
def CFG_NVM_CTRL_GOLDEN_WE : Fld := ⟨CFG_NVM_CTRL, 1, 1⟩
def CFG_NVM_CTRL_EN : Fld := ⟨CFG_NVM_CTRL, 0, 1⟩
def CFG_FUSE_CMD : Nat := 0x40020060
def CFG_FUSE_CMD_GO : Fld := ⟨CFG_FUSE_CMD, 0, 16⟩
def CFG_FUSE_DATA (j : Nat) : Nat := 0x40020080 + j * 0x4
def CFG_FUSE_DATA_ALL (j : Nat) : Fld := ⟨CFG_FUSE_DATA j, 0, 32⟩
def CFG_NVM_BUF (j : Nat) : Nat := 0x40020100 + j * 0x4
def CFG_NVM_BUF_ALL (j : Nat) : Fld := ⟨CFG_NVM_BUF j, 0, 32⟩
def CFG_REGION_CRC (j : Nat) : Nat := 0x40020200 + j * 0x4
def CFG_REGION_CRC_ALL (j : Nat) : Fld := ⟨CFG_REGION_CRC j, 0, 32⟩

-- Fab: chapter 05
def FAB_STATUS : Nat := 0x40004000
def FAB_STATUS_FS_TIMEOUT : Fld := ⟨FAB_STATUS, 5, 1⟩
def FAB_STATUS_DBE : Fld := ⟨FAB_STATUS, 4, 1⟩
def FAB_STATUS_PAIR : Fld := ⟨FAB_STATUS, 3, 1⟩
def FAB_STATUS_BANK0_USER : Fld := ⟨FAB_STATUS, 2, 1⟩
def FAB_STATUS_GHOLD : Fld := ⟨FAB_STATUS, 1, 1⟩
def FAB_STATUS_RELEASED : Fld := ⟨FAB_STATUS, 0, 1⟩
def FAB_PAIR_FIRST : Nat := 0x40004004
def FAB_PAIR_FIRST_VALID : Fld := ⟨FAB_PAIR_FIRST, 31, 1⟩
def FAB_PAIR_FIRST_REGION : Fld := ⟨FAB_PAIR_FIRST, 20, 4⟩
def FAB_PAIR_FIRST_TILE : Fld := ⟨FAB_PAIR_FIRST, 6, 14⟩
def FAB_PAIR_FIRST_CELL : Fld := ⟨FAB_PAIR_FIRST, 3, 3⟩
def FAB_PAIR_COUNT : Nat := 0x40004008
def FAB_PAIR_COUNT_OVF : Fld := ⟨FAB_PAIR_COUNT, 31, 1⟩
def FAB_PAIR_COUNT_COUNT : Fld := ⟨FAB_PAIR_COUNT, 0, 16⟩
def FAB_ECC_FIRST : Nat := 0x4000400C
def FAB_ECC_FIRST_VALID : Fld := ⟨FAB_ECC_FIRST, 31, 1⟩
def FAB_ECC_FIRST_DEEP : Fld := ⟨FAB_ECC_FIRST, 30, 1⟩
def FAB_ECC_FIRST_SOURCE : Fld := ⟨FAB_ECC_FIRST, 28, 2⟩
def FAB_ECC_FIRST_REGION : Fld := ⟨FAB_ECC_FIRST, 24, 4⟩
def FAB_ECC_FIRST_MEM : Fld := ⟨FAB_ECC_FIRST, 15, 9⟩
def FAB_ECC_FIRST_WORD : Fld := ⟨FAB_ECC_FIRST, 0, 15⟩
def FAB_BRAM_ECC : Nat := 0x40004010
def FAB_BRAM_ECC_DBE_OVF : Fld := ⟨FAB_BRAM_ECC, 31, 1⟩
def FAB_BRAM_ECC_DBE : Fld := ⟨FAB_BRAM_ECC, 16, 8⟩
def FAB_BRAM_ECC_SBE_OVF : Fld := ⟨FAB_BRAM_ECC, 15, 1⟩
def FAB_BRAM_ECC_SBE : Fld := ⟨FAB_BRAM_ECC, 0, 15⟩
def FAB_DEEP_ECC : Nat := 0x40004014
def FAB_DEEP_ECC_DBE_OVF : Fld := ⟨FAB_DEEP_ECC, 31, 1⟩
def FAB_DEEP_ECC_DBE : Fld := ⟨FAB_DEEP_ECC, 16, 8⟩
def FAB_DEEP_ECC_SBE_OVF : Fld := ⟨FAB_DEEP_ECC, 15, 1⟩
def FAB_DEEP_ECC_SBE : Fld := ⟨FAB_DEEP_ECC, 0, 15⟩
def FAB_SWEEP_LATE : Nat := 0x40004018
def FAB_SWEEP_LATE_DEEP : Fld := ⟨FAB_SWEEP_LATE, 16, 16⟩
def FAB_SWEEP_LATE_BRAM : Fld := ⟨FAB_SWEEP_LATE, 0, 16⟩
def FAB_FS_TIMEOUT : Nat := 0x4000401C
def FAB_FS_TIMEOUT_OVF : Fld := ⟨FAB_FS_TIMEOUT, 31, 1⟩
def FAB_FS_TIMEOUT_COUNT : Fld := ⟨FAB_FS_TIMEOUT, 16, 12⟩
def FAB_FS_TIMEOUT_CYCLES : Fld := ⟨FAB_FS_TIMEOUT, 0, 11⟩
def FAB_DEEP_HOPEN (j : Nat) : Nat := 0x40004020 + j * 0x4
def FAB_DEEP_HOPEN_OPEN (j : Nat) : Fld := ⟨FAB_DEEP_HOPEN j, 0, 32⟩

-- Scr: chapter 06
def SCR_CTRL : Nat := 0x40030000
def SCR_CTRL_EN : Fld := ⟨SCR_CTRL, 16, 1⟩
def SCR_CTRL_CRIT1 : Fld := ⟨SCR_CTRL, 8, 8⟩
def SCR_CTRL_CRIT0 : Fld := ⟨SCR_CTRL, 0, 8⟩
def SCR_STATUS : Nat := 0x40030004
def SCR_STATUS_CRIT_OVF : Fld := ⟨SCR_STATUS, 9, 1⟩
def SCR_STATUS_STD_OVF : Fld := ⟨SCR_STATUS, 8, 1⟩
def SCR_STATUS_STD_PASS : Fld := ⟨SCR_STATUS, 6, 1⟩
def SCR_STATUS_LATE : Fld := ⟨SCR_STATUS, 5, 1⟩
def SCR_STATUS_CRC_FAIL : Fld := ⟨SCR_STATUS, 4, 1⟩
def SCR_STATUS_UNCORR : Fld := ⟨SCR_STATUS, 3, 1⟩
def SCR_STATUS_CORRECTED : Fld := ⟨SCR_STATUS, 2, 1⟩
def SCR_STATUS_PR_FAIL : Fld := ⟨SCR_STATUS, 1, 1⟩
def SCR_STATUS_PR_DONE : Fld := ⟨SCR_STATUS, 0, 1⟩
def SCR_FIRST : Nat := 0x40030008
def SCR_FIRST_VALID : Fld := ⟨SCR_FIRST, 31, 1⟩
def SCR_FIRST_KIND : Fld := ⟨SCR_FIRST, 29, 2⟩
def SCR_FIRST_CODES : Fld := ⟨SCR_FIRST, 21, 8⟩
def SCR_FIRST_ADDR : Fld := ⟨SCR_FIRST, 0, 17⟩
def SCR_ERR_COUNT : Nat := 0x4003000C
def SCR_ERR_COUNT_UNC_OVF : Fld := ⟨SCR_ERR_COUNT, 31, 1⟩
def SCR_ERR_COUNT_UNC : Fld := ⟨SCR_ERR_COUNT, 16, 8⟩
def SCR_ERR_COUNT_CORR_OVF : Fld := ⟨SCR_ERR_COUNT, 15, 1⟩
def SCR_ERR_COUNT_CORR : Fld := ⟨SCR_ERR_COUNT, 0, 15⟩
def SCR_STD_PASSES : Nat := 0x40030010
def SCR_STD_PASSES_COUNT : Fld := ⟨SCR_STD_PASSES, 0, 32⟩
def SCR_CRIT_PASSES_LO : Nat := 0x40030014
def SCR_CRIT_PASSES_LO_COUNT : Fld := ⟨SCR_CRIT_PASSES_LO, 0, 32⟩
def SCR_CRIT_PASSES_HI : Nat := 0x40030018
def SCR_CRIT_PASSES_HI_COUNT : Fld := ⟨SCR_CRIT_PASSES_HI, 0, 16⟩
def SCR_PASS_TIME : Nat := 0x4003001C
def SCR_PASS_TIME_STD : Fld := ⟨SCR_PASS_TIME, 16, 16⟩
def SCR_PASS_TIME_CRIT : Fld := ⟨SCR_PASS_TIME, 0, 16⟩
def SCR_PR_CMD : Nat := 0x40030020
def SCR_PR_CMD_KEY : Fld := ⟨SCR_PR_CMD, 16, 16⟩
def SCR_PR_CMD_REGION : Fld := ⟨SCR_PR_CMD, 4, 4⟩
def SCR_PR_CMD_OP : Fld := ⟨SCR_PR_CMD, 0, 2⟩
def SCR_PR_SRC : Nat := 0x40030024
def SCR_PR_SRC_BANK : Fld := ⟨SCR_PR_SRC, 0, 7⟩
def SCR_PR_STATUS : Nat := 0x40030028
def SCR_PR_STATUS_DETAIL : Fld := ⟨SCR_PR_STATUS, 24, 8⟩
def SCR_PR_STATUS_REGION : Fld := ⟨SCR_PR_STATUS, 20, 4⟩
def SCR_PR_STATUS_CODE : Fld := ⟨SCR_PR_STATUS, 16, 4⟩
def SCR_PR_STATUS_REFUSED : Fld := ⟨SCR_PR_STATUS, 15, 1⟩
def SCR_PR_STATUS_CANCEL_LATE : Fld := ⟨SCR_PR_STATUS, 14, 1⟩
def SCR_PR_STATUS_FRAMES : Fld := ⟨SCR_PR_STATUS, 0, 14⟩
def SCR_PR_STATE : Nat := 0x4003002C
def SCR_PR_STATE_PHASE : Fld := ⟨SCR_PR_STATE, 16, 3⟩
def SCR_PR_STATE_HELD : Fld := ⟨SCR_PR_STATE, 0, 16⟩

-- Pll: chapter 07
def PLL_CFG (n : Nat) : Nat := 0x40050000 + n * 0x100
def PLL_CFG_EN (n : Nat) : Fld := ⟨PLL_CFG n, 31, 1⟩
def PLL_CFG_STEER_EN (n : Nat) : Fld := ⟨PLL_CFG n, 30, 1⟩
def PLL_CFG_HOLD_MUTE (n : Nat) : Fld := ⟨PLL_CFG n, 29, 1⟩
def PLL_CFG_REFDIV (n : Nat) : Fld := ⟨PLL_CFG n, 24, 4⟩
def PLL_CFG_REFSEL (n : Nat) : Fld := ⟨PLL_CFG n, 0, 1⟩
def PLL_FREQ (n : Nat) : Nat := 0x40050004 + n * 0x100
def PLL_FREQ_KHZ (n : Nat) : Fld := ⟨PLL_FREQ n, 0, 32⟩
def PLL_DIV (n : Nat) : Nat := 0x40050008 + n * 0x100
def PLL_DIV_D3 (n : Nat) : Fld := ⟨PLL_DIV n, 24, 8⟩
def PLL_DIV_D2 (n : Nat) : Fld := ⟨PLL_DIV n, 16, 8⟩
def PLL_DIV_D1 (n : Nat) : Fld := ⟨PLL_DIV n, 8, 8⟩
def PLL_DIV_D0 (n : Nat) : Fld := ⟨PLL_DIV n, 0, 8⟩
def PLL_STATUS (n : Nat) : Nat := 0x4005000C + n * 0x100
def PLL_STATUS_LOCKED (n : Nat) : Fld := ⟨PLL_STATUS n, 31, 1⟩
def PLL_STATUS_MUTED (n : Nat) : Fld := ⟨PLL_STATUS n, 30, 1⟩
def PLL_STATUS_LOL (n : Nat) : Fld := ⟨PLL_STATUS n, 29, 1⟩
def PLL_STATUS_REF_LOSS (n : Nat) : Fld := ⟨PLL_STATUS n, 28, 1⟩
def PLL_STATUS_ENTRY (n : Nat) : Fld := ⟨PLL_STATUS n, 8, 6⟩
def PLL_STATUS_BAND (n : Nat) : Fld := ⟨PLL_STATUS n, 0, 6⟩
def PLL_LOL_COUNT (n : Nat) : Nat := 0x40050010 + n * 0x100
def PLL_LOL_COUNT_OVF (n : Nat) : Fld := ⟨PLL_LOL_COUNT n, 31, 1⟩
def PLL_LOL_COUNT_COUNT (n : Nat) : Fld := ⟨PLL_LOL_COUNT n, 0, 16⟩
def PLL_STEER (n : Nat) : Nat := 0x40050014 + n * 0x100
def PLL_STEER_SIGMA (n : Nat) : Fld := ⟨PLL_STEER n, 0, 32⟩
def PLL_CMD (n : Nat) : Nat := 0x40050018 + n * 0x100
def PLL_CMD_KEY (n : Nat) : Fld := ⟨PLL_CMD n, 16, 16⟩
def PLL_CMD_OP (n : Nat) : Fld := ⟨PLL_CMD n, 0, 2⟩
def PLL_CMD_STATUS (n : Nat) : Nat := 0x4005001C + n * 0x100
def PLL_CMD_STATUS_CODE (n : Nat) : Fld := ⟨PLL_CMD_STATUS n, 0, 4⟩
def PLL_OSC_KHZ : Nat := 0x40050B00
def PLL_OSC_KHZ_ALL : Fld := ⟨PLL_OSC_KHZ, 0, 32⟩
def PLL_LREF_KHZ : Nat := 0x40050B04
def PLL_LREF_KHZ_ALL : Fld := ⟨PLL_LREF_KHZ, 0, 32⟩
def PLL_EVENT : Nat := 0x40050B08
def PLL_EVENT_ALL : Fld := ⟨PLL_EVENT, 0, 3⟩
def PLL_BAND0 (n e : Nat) : Nat := 0x40051000 + n * 0x400 + e * 0x10
def PLL_BAND0_VALID (n e : Nat) : Fld := ⟨PLL_BAND0 n e, 31, 1⟩
def PLL_BAND0_CODE (n e : Nat) : Fld := ⟨PLL_BAND0 n e, 0, 6⟩
def PLL_BAND1 (n e : Nat) : Nat := 0x40051004 + n * 0x400 + e * 0x10
def PLL_BAND1_FMIN_KHZ (n e : Nat) : Fld := ⟨PLL_BAND1 n e, 0, 32⟩
def PLL_BAND2 (n e : Nat) : Nat := 0x40051008 + n * 0x400 + e * 0x10
def PLL_BAND2_FMAX_KHZ (n e : Nat) : Fld := ⟨PLL_BAND2 n e, 0, 32⟩

-- Fix: chapter 08
def FIX_CFG : Nat := 0x40060000
def FIX_CFG_EN : Fld := ⟨FIX_CFG, 31, 1⟩
def FIX_CFG_QUAL : Fld := ⟨FIX_CFG, 24, 7⟩
def FIX_CFG_DR_AVG_S : Fld := ⟨FIX_CFG, 16, 8⟩
def FIX_CFG_JUMP_NS : Fld := ⟨FIX_CFG, 0, 16⟩
def FIX_PRIO : Nat := 0x40060004
def FIX_PRIO_BCD : Fld := ⟨FIX_PRIO, 9, 3⟩
def FIX_PRIO_EXT : Fld := ⟨FIX_PRIO, 6, 3⟩
def FIX_PRIO_PTP : Fld := ⟨FIX_PRIO, 3, 3⟩
def FIX_PRIO_BRG : Fld := ⟨FIX_PRIO, 0, 3⟩
def FIX_SLEW_CFG : Nat := 0x40060008
def FIX_SLEW_CFG_STEP_US : Fld := ⟨FIX_SLEW_CFG, 16, 16⟩
def FIX_SLEW_CFG_SLEW_PPB : Fld := ⟨FIX_SLEW_CFG, 0, 16⟩
def FIX_STATE : Nat := 0x40060010
def FIX_STATE_TIME_VALID : Fld := ⟨FIX_STATE, 31, 1⟩
def FIX_STATE_ACQUIRE : Fld := ⟨FIX_STATE, 30, 1⟩
def FIX_STATE_STATE : Fld := ⟨FIX_STATE, 16, 3⟩
def FIX_STATE_SELECTED : Fld := ⟨FIX_STATE, 12, 3⟩
def FIX_STATE_CANDIDATE : Fld := ⟨FIX_STATE, 8, 3⟩
def FIX_SRC_STATUS : Nat := 0x40060014
def FIX_SRC_STATUS_QUALIFIED : Fld := ⟨FIX_SRC_STATUS, 8, 5⟩
def FIX_SRC_STATUS_VALID : Fld := ⟨FIX_SRC_STATUS, 0, 5⟩
def FIX_OFFSET : Nat := 0x40060018
def FIX_OFFSET_NS : Fld := ⟨FIX_OFFSET, 0, 32⟩
def FIX_SIGMA : Nat := 0x4006001C
def FIX_SIGMA_SIGMA : Fld := ⟨FIX_SIGMA, 0, 32⟩
def FIX_TIME_SEC_LO : Nat := 0x40060020
def FIX_TIME_SEC_LO_ALL : Fld := ⟨FIX_TIME_SEC_LO, 0, 32⟩
def FIX_TIME_SEC_HI : Nat := 0x40060024
def FIX_TIME_SEC_HI_ALL : Fld := ⟨FIX_TIME_SEC_HI, 0, 16⟩
def FIX_TIME_NS : Nat := 0x40060028
def FIX_TIME_NS_ALL : Fld := ⟨FIX_TIME_NS, 0, 32⟩
def FIX_TIME_FNS : Nat := 0x4006002C
def FIX_TIME_FNS_FNS : Fld := ⟨FIX_TIME_FNS, 0, 16⟩
def FIX_SET_SEC_LO : Nat := 0x40060030
def FIX_SET_SEC_LO_ALL : Fld := ⟨FIX_SET_SEC_LO, 0, 32⟩
def FIX_SET_SEC_HI : Nat := 0x40060034
def FIX_SET_SEC_HI_ALL : Fld := ⟨FIX_SET_SEC_HI, 0, 16⟩
def FIX_SET_NS : Nat := 0x40060038
def FIX_SET_NS_ALL : Fld := ⟨FIX_SET_NS, 0, 32⟩
def FIX_SET_CMD : Nat := 0x4006003C
def FIX_SET_CMD_KEY : Fld := ⟨FIX_SET_CMD, 16, 16⟩
def FIX_SET_CMD_COMMIT : Fld := ⟨FIX_SET_CMD, 0, 1⟩
def FIX_PTP_OFS : Nat := 0x40060040
def FIX_PTP_OFS_OFS : Fld := ⟨FIX_PTP_OFS, 0, 32⟩
def FIX_PTP_CMD : Nat := 0x40060044
def FIX_PTP_CMD_WITHDRAW : Fld := ⟨FIX_PTP_CMD, 1, 1⟩
def FIX_PTP_CMD_SUBMIT : Fld := ⟨FIX_PTP_CMD, 0, 1⟩
def FIX_PTP_CFG : Nat := 0x40060048
def FIX_PTP_CFG_TIMEOUT_MS : Fld := ⟨FIX_PTP_CFG, 0, 16⟩
def FIX_EXT_CFG : Nat := 0x4006004C
def FIX_EXT_CFG_PPS_POL : Fld := ⟨FIX_EXT_CFG, 31, 1⟩
def FIX_EXT_CFG_CABLE_NS : Fld := ⟨FIX_EXT_CFG, 0, 16⟩
def FIX_BCD_CFG : Nat := 0x40060050
def FIX_BCD_CFG_CTX : Fld := ⟨FIX_BCD_CFG, 28, 2⟩
def FIX_BCD_CFG_DEADBAND_MS : Fld := ⟨FIX_BCD_CFG, 16, 8⟩
def FIX_BCD_CFG_DELAY_US : Fld := ⟨FIX_BCD_CFG, 0, 16⟩
def FIX_PPS_CFG : Nat := 0x40060054
def FIX_PPS_CFG_EN : Fld := ⟨FIX_PPS_CFG, 31, 1⟩
def FIX_PPS_CFG_DR_OUT : Fld := ⟨FIX_PPS_CFG, 30, 1⟩
def FIX_PPS_CFG_WIDTH_US : Fld := ⟨FIX_PPS_CFG, 0, 16⟩
def FIX_SWITCH_COUNT : Nat := 0x40060058
def FIX_SWITCH_COUNT_OVF : Fld := ⟨FIX_SWITCH_COUNT, 31, 1⟩
def FIX_SWITCH_COUNT_COUNT : Fld := ⟨FIX_SWITCH_COUNT, 0, 16⟩
def FIX_FREEZE_COUNT : Nat := 0x4006005C
def FIX_FREEZE_COUNT_OVF : Fld := ⟨FIX_FREEZE_COUNT, 31, 1⟩
def FIX_FREEZE_COUNT_COUNT : Fld := ⟨FIX_FREEZE_COUNT, 0, 16⟩
def FIX_DR_SECONDS : Nat := 0x40060060
def FIX_DR_SECONDS_OVF : Fld := ⟨FIX_DR_SECONDS, 31, 1⟩
def FIX_DR_SECONDS_COUNT : Fld := ⟨FIX_DR_SECONDS, 0, 31⟩
def FIX_EVENT : Nat := 0x40060064
def FIX_EVENT_EVENTS : Fld := ⟨FIX_EVENT, 0, 8⟩
def FIX_UTC_CFG : Nat := 0x40060068
def FIX_UTC_CFG_TAI_MINUS_UTC : Fld := ⟨FIX_UTC_CFG, 0, 8⟩

-- Lnk: chapter 09
def LNK_CFG (n : Nat) : Nat := 0x40080000 + n * 0x400
def LNK_CFG_TEST_RATE (n : Nat) : Fld := ⟨LNK_CFG n, 8, 3⟩
def LNK_CFG_LOOPBACK (n : Nat) : Fld := ⟨LNK_CFG n, 6, 2⟩
def LNK_CFG_POL_RX (n : Nat) : Fld := ⟨LNK_CFG n, 5, 1⟩
def LNK_CFG_POL_TX (n : Nat) : Fld := ⟨LNK_CFG n, 4, 1⟩
def LNK_CFG_FEC_EN (n : Nat) : Fld := ⟨LNK_CFG n, 3, 1⟩
def LNK_CFG_MODE (n : Nat) : Fld := ⟨LNK_CFG n, 0, 3⟩
def LNK_TX_EQ (n : Nat) : Nat := 0x40080004 + n * 0x400
def LNK_TX_EQ_POST (n : Nat) : Fld := ⟨LNK_TX_EQ n, 16, 5⟩
def LNK_TX_EQ_MAIN (n : Nat) : Fld := ⟨LNK_TX_EQ n, 8, 6⟩
def LNK_TX_EQ_PRE (n : Nat) : Fld := ⟨LNK_TX_EQ n, 0, 5⟩
def LNK_STATUS (n : Nat) : Nat := 0x40080008 + n * 0x400
def LNK_STATUS_TXTS (n : Nat) : Fld := ⟨LNK_STATUS n, 11, 1⟩
def LNK_STATUS_CHANGE (n : Nat) : Fld := ⟨LNK_STATUS n, 10, 1⟩
def LNK_STATUS_CDR_LOL (n : Nat) : Fld := ⟨LNK_STATUS n, 9, 1⟩
def LNK_STATUS_LOS (n : Nat) : Fld := ⟨LNK_STATUS n, 8, 1⟩
def LNK_STATUS_FEC_ALIGN (n : Nat) : Fld := ⟨LNK_STATUS n, 5, 1⟩
def LNK_STATUS_SYNC (n : Nat) : Fld := ⟨LNK_STATUS n, 4, 1⟩
def LNK_STATUS_SIGNAL (n : Nat) : Fld := ⟨LNK_STATUS n, 3, 1⟩
def LNK_STATUS_UP (n : Nat) : Fld := ⟨LNK_STATUS n, 2, 1⟩
def LNK_BRG_STATE (n : Nat) : Nat := 0x4008000C + n * 0x400
def LNK_BRG_STATE_STATE (n : Nat) : Fld := ⟨LNK_BRG_STATE n, 28, 4⟩
def LNK_BRG_STATE_RATE (n : Nat) : Fld := ⟨LNK_BRG_STATE n, 24, 4⟩
def LNK_BRG_STATE_FAILED_AT (n : Nat) : Fld := ⟨LNK_BRG_STATE n, 20, 4⟩
def LNK_BRG_STATE_PEER_CAP (n : Nat) : Fld := ⟨LNK_BRG_STATE n, 8, 5⟩
def LNK_BRG_STATE_OWN_CAP (n : Nat) : Fld := ⟨LNK_BRG_STATE n, 0, 5⟩
def LNK_BRG_CFG (n : Nat) : Nat := 0x40080010 + n * 0x400
def LNK_BRG_CFG_RETRY_S (n : Nat) : Fld := ⟨LNK_BRG_CFG n, 16, 8⟩
def LNK_BRG_CFG_MAX_ERR (n : Nat) : Fld := ⟨LNK_BRG_CFG n, 4, 12⟩
def LNK_BRG_CFG_MAX_RATE (n : Nat) : Fld := ⟨LNK_BRG_CFG n, 0, 3⟩
def LNK_PRBS_CFG (n : Nat) : Nat := 0x40080014 + n * 0x400
def LNK_PRBS_CFG_CLEAR (n : Nat) : Fld := ⟨LNK_PRBS_CFG n, 8, 1⟩
def LNK_PRBS_CFG_CHK_EN (n : Nat) : Fld := ⟨LNK_PRBS_CFG n, 7, 1⟩
def LNK_PRBS_CFG_CHK_INV (n : Nat) : Fld := ⟨LNK_PRBS_CFG n, 6, 1⟩
def LNK_PRBS_CFG_CHK_POLY (n : Nat) : Fld := ⟨LNK_PRBS_CFG n, 4, 2⟩
def LNK_PRBS_CFG_GEN_EN (n : Nat) : Fld := ⟨LNK_PRBS_CFG n, 3, 1⟩
def LNK_PRBS_CFG_GEN_INV (n : Nat) : Fld := ⟨LNK_PRBS_CFG n, 2, 1⟩
def LNK_PRBS_CFG_GEN_POLY (n : Nat) : Fld := ⟨LNK_PRBS_CFG n, 0, 2⟩
def LNK_PRBS_STATUS (n : Nat) : Nat := 0x40080018 + n * 0x400
def LNK_PRBS_STATUS_BITS_OVF (n : Nat) : Fld := ⟨LNK_PRBS_STATUS n, 2, 1⟩
def LNK_PRBS_STATUS_ERR_OVF (n : Nat) : Fld := ⟨LNK_PRBS_STATUS n, 1, 1⟩
def LNK_PRBS_STATUS_CHK_LOCK (n : Nat) : Fld := ⟨LNK_PRBS_STATUS n, 0, 1⟩
def LNK_PRBS_ERR_LO (n : Nat) : Nat := 0x40080020 + n * 0x400
def LNK_PRBS_ERR_LO_COUNT (n : Nat) : Fld := ⟨LNK_PRBS_ERR_LO n, 0, 32⟩
def LNK_PRBS_ERR_HI (n : Nat) : Nat := 0x40080024 + n * 0x400
def LNK_PRBS_ERR_HI_COUNT (n : Nat) : Fld := ⟨LNK_PRBS_ERR_HI n, 0, 16⟩
def LNK_PRBS_BITS_LO (n : Nat) : Nat := 0x40080028 + n * 0x400
def LNK_PRBS_BITS_LO_COUNT (n : Nat) : Fld := ⟨LNK_PRBS_BITS_LO n, 0, 32⟩
def LNK_PRBS_BITS_HI (n : Nat) : Nat := 0x4008002C + n * 0x400
def LNK_PRBS_BITS_HI_COUNT (n : Nat) : Fld := ⟨LNK_PRBS_BITS_HI n, 0, 32⟩
def LNK_RX_FRAMES_LO (n : Nat) : Nat := 0x40080030 + n * 0x400
def LNK_RX_FRAMES_LO_COUNT (n : Nat) : Fld := ⟨LNK_RX_FRAMES_LO n, 0, 32⟩
def LNK_RX_FRAMES_HI (n : Nat) : Nat := 0x40080034 + n * 0x400
def LNK_RX_FRAMES_HI_COUNT (n : Nat) : Fld := ⟨LNK_RX_FRAMES_HI n, 0, 16⟩
def LNK_TX_FRAMES_LO (n : Nat) : Nat := 0x40080038 + n * 0x400
def LNK_TX_FRAMES_LO_COUNT (n : Nat) : Fld := ⟨LNK_TX_FRAMES_LO n, 0, 32⟩
def LNK_TX_FRAMES_HI (n : Nat) : Nat := 0x4008003C + n * 0x400
def LNK_TX_FRAMES_HI_COUNT (n : Nat) : Fld := ⟨LNK_TX_FRAMES_HI n, 0, 16⟩
def LNK_RX_DROPS (n : Nat) : Nat := 0x40080040 + n * 0x400
def LNK_RX_DROPS_OVF (n : Nat) : Fld := ⟨LNK_RX_DROPS n, 31, 1⟩
def LNK_RX_DROPS_COUNT (n : Nat) : Fld := ⟨LNK_RX_DROPS n, 0, 31⟩
def LNK_TX_DROPS (n : Nat) : Nat := 0x40080044 + n * 0x400
def LNK_TX_DROPS_OVF (n : Nat) : Fld := ⟨LNK_TX_DROPS n, 31, 1⟩
def LNK_TX_DROPS_COUNT (n : Nat) : Fld := ⟨LNK_TX_DROPS n, 0, 31⟩
def LNK_FEC_CORR (n : Nat) : Nat := 0x40080048 + n * 0x400
def LNK_FEC_CORR_OVF (n : Nat) : Fld := ⟨LNK_FEC_CORR n, 31, 1⟩
def LNK_FEC_CORR_COUNT (n : Nat) : Fld := ⟨LNK_FEC_CORR n, 0, 31⟩
def LNK_FEC_UNCORR (n : Nat) : Nat := 0x4008004C + n * 0x400
def LNK_FEC_UNCORR_OVF (n : Nat) : Fld := ⟨LNK_FEC_UNCORR n, 31, 1⟩
def LNK_FEC_UNCORR_COUNT (n : Nat) : Fld := ⟨LNK_FEC_UNCORR n, 0, 31⟩
def LNK_LOS_COUNT (n : Nat) : Nat := 0x40080050 + n * 0x400
def LNK_LOS_COUNT_OVF (n : Nat) : Fld := ⟨LNK_LOS_COUNT n, 31, 1⟩
def LNK_LOS_COUNT_COUNT (n : Nat) : Fld := ⟨LNK_LOS_COUNT n, 0, 16⟩
def LNK_TXTS_TAG (n : Nat) : Nat := 0x40080054 + n * 0x400
def LNK_TXTS_TAG_EMPTY (n : Nat) : Fld := ⟨LNK_TXTS_TAG n, 31, 1⟩
def LNK_TXTS_TAG_FNS (n : Nat) : Fld := ⟨LNK_TXTS_TAG n, 16, 8⟩
def LNK_TXTS_TAG_TAG (n : Nat) : Fld := ⟨LNK_TXTS_TAG n, 0, 8⟩
def LNK_TXTS_SEC_LO (n : Nat) : Nat := 0x40080058 + n * 0x400
def LNK_TXTS_SEC_LO_SEC (n : Nat) : Fld := ⟨LNK_TXTS_SEC_LO n, 0, 32⟩
def LNK_TXTS_SEC_HI (n : Nat) : Nat := 0x4008005C + n * 0x400
def LNK_TXTS_SEC_HI_SEC (n : Nat) : Fld := ⟨LNK_TXTS_SEC_HI n, 0, 16⟩
def LNK_TXTS_NS (n : Nat) : Nat := 0x40080060 + n * 0x400
def LNK_TXTS_NS_NS (n : Nat) : Fld := ⟨LNK_TXTS_NS n, 0, 32⟩
def LNK_TXTS_LOST (n : Nat) : Nat := 0x40080064 + n * 0x400
def LNK_TXTS_LOST_OVF (n : Nat) : Fld := ⟨LNK_TXTS_LOST n, 31, 1⟩
def LNK_TXTS_LOST_COUNT (n : Nat) : Fld := ⟨LNK_TXTS_LOST n, 0, 31⟩
def LNK_TS_ADJ (n : Nat) : Nat := 0x40080068 + n * 0x400
def LNK_TS_ADJ_TX_ADJ (n : Nat) : Fld := ⟨LNK_TS_ADJ n, 16, 16⟩
def LNK_TS_ADJ_RX_ADJ (n : Nat) : Fld := ⟨LNK_TS_ADJ n, 0, 16⟩
def LNK_EYE_CTRL (n : Nat) : Nat := 0x40080080 + n * 0x400
def LNK_EYE_CTRL_START (n : Nat) : Fld := ⟨LNK_EYE_CTRL n, 31, 1⟩
def LNK_EYE_CTRL_DWELL (n : Nat) : Fld := ⟨LNK_EYE_CTRL n, 16, 4⟩
def LNK_EYE_CTRL_VOFS (n : Nat) : Fld := ⟨LNK_EYE_CTRL n, 8, 8⟩
def LNK_EYE_CTRL_PHASE (n : Nat) : Fld := ⟨LNK_EYE_CTRL n, 0, 7⟩
def LNK_EYE_RESULT (n : Nat) : Nat := 0x40080084 + n * 0x400
def LNK_EYE_RESULT_DONE (n : Nat) : Fld := ⟨LNK_EYE_RESULT n, 31, 1⟩
def LNK_EYE_RESULT_ERRORS (n : Nat) : Fld := ⟨LNK_EYE_RESULT n, 0, 24⟩
def LNK_GROUP_CFG (g : Nat) : Nat := 0x40088000 + g * 0x40
def LNK_GROUP_CFG_SPREAD (g : Nat) : Fld := ⟨LNK_GROUP_CFG g, 0, 1⟩
def LNK_GROUP_STATUS (g : Nat) : Nat := 0x40088004 + g * 0x40
def LNK_GROUP_STATUS_LPLL_LOCK (g : Nat) : Fld := ⟨LNK_GROUP_STATUS g, 2, 1⟩
def LNK_GROUP_STATUS_FAILOVER (g : Nat) : Fld := ⟨LNK_GROUP_STATUS g, 1, 1⟩
def LNK_GROUP_STATUS_REF_OK (g : Nat) : Fld := ⟨LNK_GROUP_STATUS g, 0, 1⟩

-- Brg: chapter 10
def BRG_CFG : Nat := 0x400A0000
def BRG_CFG_REKEY_S : Fld := ⟨BRG_CFG, 16, 8⟩
def BRG_CFG_AUTO_ADMIT : Fld := ⟨BRG_CFG, 8, 1⟩
def BRG_CFG_TIME_RANK : Fld := ⟨BRG_CFG, 0, 8⟩
def BRG_STATUS : Nat := 0x400A0004
def BRG_STATUS_OWN_ID : Fld := ⟨BRG_STATUS, 24, 6⟩
def BRG_STATUS_MASTER_ID : Fld := ⟨BRG_STATUS, 16, 6⟩
def BRG_STATUS_STRATUM : Fld := ⟨BRG_STATUS, 8, 8⟩
def BRG_STATUS_UPSTREAM : Fld := ⟨BRG_STATUS, 0, 3⟩
def BRG_KEY_CFG : Nat := 0x400A0008
def BRG_KEY_CFG_PAGE : Fld := ⟨BRG_KEY_CFG, 16, 4⟩
def BRG_KEY_CFG_SESS_BASE : Fld := ⟨BRG_KEY_CFG, 8, 6⟩
def BRG_KEY_CFG_LINK_SLOT : Fld := ⟨BRG_KEY_CFG, 0, 6⟩
def BRG_CMD : Nat := 0x400A000C
def BRG_CMD_KEY : Fld := ⟨BRG_CMD, 16, 16⟩
def BRG_CMD_REKEY : Fld := ⟨BRG_CMD, 0, 4⟩
def BRG_ADMIT : Nat := 0x400A0010
def BRG_ADMIT_KEY : Fld := ⟨BRG_ADMIT, 16, 16⟩
def BRG_ADMIT_ID : Fld := ⟨BRG_ADMIT, 0, 6⟩
def BRG_EVENT : Nat := 0x400A0014
def BRG_EVENT_ALL : Fld := ⟨BRG_EVENT, 0, 10⟩
def BRG_PORT_CFG (p : Nat) : Nat := 0x400A0020 + p * 0x10
def BRG_PORT_CFG_EN (p : Nat) : Fld := ⟨BRG_PORT_CFG p, 15, 1⟩
def BRG_PORT_CFG_DUAL (p : Nat) : Fld := ⟨BRG_PORT_CFG p, 14, 1⟩
def BRG_PORT_CFG_LANE1 (p : Nat) : Fld := ⟨BRG_PORT_CFG p, 8, 5⟩
def BRG_PORT_CFG_LANE0 (p : Nat) : Fld := ⟨BRG_PORT_CFG p, 0, 5⟩
def BRG_PORT_STATUS (p : Nat) : Nat := 0x400A0024 + p * 0x10
def BRG_PORT_STATUS_EPOCH (p : Nat) : Fld := ⟨BRG_PORT_STATUS p, 16, 16⟩
def BRG_PORT_STATUS_NB_ID (p : Nat) : Fld := ⟨BRG_PORT_STATUS p, 8, 6⟩
def BRG_PORT_STATUS_NB_PORT (p : Nat) : Fld := ⟨BRG_PORT_STATUS p, 6, 2⟩
def BRG_PORT_STATUS_ID_CLASH (p : Nat) : Fld := ⟨BRG_PORT_STATUS p, 4, 1⟩
def BRG_PORT_STATUS_STATE (p : Nat) : Fld := ⟨BRG_PORT_STATUS p, 0, 3⟩
def BRG_PORT_DELAY (p : Nat) : Nat := 0x400A0028 + p * 0x10
def BRG_PORT_DELAY_DELAY (p : Nat) : Fld := ⟨BRG_PORT_DELAY p, 0, 32⟩
def BRG_ROUTE (d : Nat) : Nat := 0x400A0100 + d * 0x4
def BRG_ROUTE_TTL (d : Nat) : Fld := ⟨BRG_ROUTE d, 8, 6⟩
def BRG_ROUTE_MODE (d : Nat) : Fld := ⟨BRG_ROUTE d, 4, 2⟩
def BRG_ROUTE_ALT (d : Nat) : Fld := ⟨BRG_ROUTE d, 2, 2⟩
def BRG_ROUTE_PRIM (d : Nat) : Fld := ⟨BRG_ROUTE d, 0, 2⟩
def BRG_CNT (c : Nat) : Nat := 0x400A0200 + c * 0x4
def BRG_CNT_OVF (c : Nat) : Fld := ⟨BRG_CNT c, 31, 1⟩
def BRG_CNT_COUNT (c : Nat) : Fld := ⟨BRG_CNT c, 0, 31⟩

-- Cph: chapter 11
def PAGE_CFG (p : Nat) : Nat := 0x400C0000 + p * 0x1000
def PAGE_CFG_EN (p : Nat) : Fld := ⟨PAGE_CFG p, 31, 1⟩
def PAGE_CFG_MASTER (p : Nat) : Fld := ⟨PAGE_CFG p, 16, 4⟩
def PAGE_CFG_QUOTA (p : Nat) : Fld := ⟨PAGE_CFG p, 0, 7⟩
def PAGE_SLOTS_LO (p : Nat) : Nat := 0x400C0004 + p * 0x1000
def PAGE_SLOTS_LO_ALL (p : Nat) : Fld := ⟨PAGE_SLOTS_LO p, 0, 32⟩
def PAGE_SLOTS_HI (p : Nat) : Nat := 0x400C0008 + p * 0x1000
def PAGE_SLOTS_HI_ALL (p : Nat) : Fld := ⟨PAGE_SLOTS_HI p, 0, 32⟩
def PAGE_STATUS (p : Nat) : Nat := 0x400C000C + p * 0x1000
def PAGE_STATUS_QUEUED (p : Nat) : Fld := ⟨PAGE_STATUS p, 8, 7⟩
def PAGE_STATUS_CMP (p : Nat) : Fld := ⟨PAGE_STATUS p, 0, 4⟩
def D_CMD (p : Nat) : Nat := 0x400C0010 + p * 0x1000
def D_CMD_GO (p : Nat) : Fld := ⟨D_CMD p, 31, 1⟩
def D_CMD_CANCEL (p : Nat) : Fld := ⟨D_CMD p, 30, 1⟩
def D_CMD_OP (p : Nat) : Fld := ⟨D_CMD p, 24, 4⟩
def D_CMD_SLOT (p : Nat) : Fld := ⟨D_CMD p, 16, 6⟩
def D_CMD_GEN (p : Nat) : Fld := ⟨D_CMD p, 8, 8⟩
def D_CMD_GEN_CHK (p : Nat) : Fld := ⟨D_CMD p, 7, 1⟩
def D_CMD_GUARD (p : Nat) : Fld := ⟨D_CMD p, 6, 1⟩
def D_LEN (p : Nat) : Nat := 0x400C0014 + p * 0x1000
def D_LEN_AADLEN (p : Nat) : Fld := ⟨D_LEN p, 16, 6⟩
def D_LEN_LEN (p : Nat) : Fld := ⟨D_LEN p, 8, 7⟩
def D_LEN_TAGLEN (p : Nat) : Fld := ⟨D_LEN p, 0, 5⟩
def D_STATUS (p : Nat) : Nat := 0x400C0018 + p * 0x1000
def D_STATUS_BUSY (p : Nat) : Fld := ⟨D_STATUS p, 31, 1⟩
def D_STATUS_DONE (p : Nat) : Fld := ⟨D_STATUS p, 30, 1⟩
def D_STATUS_CANCEL_LATE (p : Nat) : Fld := ⟨D_STATUS p, 29, 1⟩
def D_STATUS_BUSY_GO (p : Nat) : Fld := ⟨D_STATUS p, 28, 1⟩
def D_STATUS_REASON (p : Nat) : Fld := ⟨D_STATUS p, 8, 8⟩
def D_STATUS_STATUS (p : Nat) : Fld := ⟨D_STATUS p, 0, 4⟩
def D_CTR (p : Nat) : Nat := 0x400C001C + p * 0x1000
def D_CTR_N (p : Nat) : Fld := ⟨D_CTR p, 0, 32⟩
def D_IV (p j : Nat) : Nat := 0x400C0020 + p * 0x1000 + j * 0x4
def D_IV_ALL (p j : Nat) : Fld := ⟨D_IV p j, 0, 32⟩
def D_TAG (p j : Nat) : Nat := 0x400C0030 + p * 0x1000 + j * 0x4
def D_TAG_ALL (p j : Nat) : Fld := ⟨D_TAG p j, 0, 32⟩
def D_AAD (p j : Nat) : Nat := 0x400C0040 + p * 0x1000 + j * 0x4
def D_AAD_ALL (p j : Nat) : Fld := ⟨D_AAD p j, 0, 32⟩
def D_DATA (p j : Nat) : Nat := 0x400C0080 + p * 0x1000 + j * 0x4
def D_DATA_ALL (p j : Nat) : Fld := ⟨D_DATA p j, 0, 32⟩
def Q_DESC (p j : Nat) : Nat := 0x400C0100 + p * 0x1000 + j * 0x4
def Q_DESC_ALL (p j : Nat) : Fld := ⟨Q_DESC p j, 0, 32⟩
def Q_CMD (p : Nat) : Nat := 0x400C0120 + p * 0x1000
def Q_CMD_SUBMIT (p : Nat) : Fld := ⟨Q_CMD p, 31, 1⟩
def Q_CMD_CANCEL (p : Nat) : Fld := ⟨Q_CMD p, 30, 1⟩
def Q_CMD_TAG (p : Nat) : Fld := ⟨Q_CMD p, 0, 8⟩
def Q_SUBMIT_STATUS (p : Nat) : Nat := 0x400C0124 + p * 0x1000
def Q_SUBMIT_STATUS_RESULT (p : Nat) : Fld := ⟨Q_SUBMIT_STATUS p, 0, 3⟩
def Q_CMP_LO (p : Nat) : Nat := 0x400C0128 + p * 0x1000
def Q_CMP_LO_RECORD (p : Nat) : Fld := ⟨Q_CMP_LO p, 0, 32⟩
def Q_CMP_HI (p : Nat) : Nat := 0x400C012C + p * 0x1000
def Q_CMP_HI_RECORD (p : Nat) : Fld := ⟨Q_CMP_HI p, 0, 32⟩
def K_DATA (p j : Nat) : Nat := 0x400C0140 + p * 0x1000 + j * 0x4
def K_DATA_ALL (p j : Nat) : Fld := ⟨K_DATA p j, 0, 32⟩
def K_CMD (p : Nat) : Nat := 0x400C0160 + p * 0x1000
def K_CMD_KEY (p : Nat) : Fld := ⟨K_CMD p, 16, 16⟩
def K_CMD_OP (p : Nat) : Fld := ⟨K_CMD p, 12, 4⟩
def K_CMD_PARENT (p : Nat) : Fld := ⟨K_CMD p, 6, 6⟩
def K_CMD_SLOT (p : Nat) : Fld := ⟨K_CMD p, 0, 6⟩
def K_BIND (p : Nat) : Nat := 0x400C0164 + p * 0x1000
def K_BIND_PAGES (p : Nat) : Fld := ⟨K_BIND p, 16, 16⟩
def K_BIND_MODEBIND (p : Nat) : Fld := ⟨K_BIND p, 8, 8⟩
def K_BIND_CTRW (p : Nat) : Fld := ⟨K_BIND p, 6, 2⟩
def K_BIND_KEY256 (p : Nat) : Fld := ⟨K_BIND p, 5, 1⟩
def K_BIND_CTXLEN (p : Nat) : Fld := ⟨K_BIND p, 0, 5⟩
def K_STATUS (p : Nat) : Nat := 0x400C0168 + p * 0x1000
def K_STATUS_BUSY (p : Nat) : Fld := ⟨K_STATUS p, 31, 1⟩
def K_STATUS_RESULT (p : Nat) : Fld := ⟨K_STATUS p, 0, 2⟩
def SLOT_INFO (k : Nat) : Nat := 0x400D0000 + k * 0x10
def SLOT_INFO_VALID (k : Nat) : Fld := ⟨SLOT_INFO k, 31, 1⟩
def SLOT_INFO_EXHAUSTED (k : Nat) : Fld := ⟨SLOT_INFO k, 30, 1⟩
def SLOT_INFO_SHADOW (k : Nat) : Fld := ⟨SLOT_INFO k, 29, 1⟩
def SLOT_INFO_KEY256 (k : Nat) : Fld := ⟨SLOT_INFO k, 28, 1⟩
def SLOT_INFO_CTRW (k : Nat) : Fld := ⟨SLOT_INFO k, 26, 2⟩
def SLOT_INFO_MODEBIND (k : Nat) : Fld := ⟨SLOT_INFO k, 16, 8⟩
def SLOT_INFO_GEN (k : Nat) : Fld := ⟨SLOT_INFO k, 8, 8⟩
def SLOT_PAGES (k : Nat) : Nat := 0x400D0004 + k * 0x10
def SLOT_PAGES_PAGES (k : Nat) : Fld := ⟨SLOT_PAGES k, 0, 16⟩
def SLOT_CTR_LO (k : Nat) : Nat := 0x400D0008 + k * 0x10
def SLOT_CTR_LO_CTR (k : Nat) : Fld := ⟨SLOT_CTR_LO k, 0, 32⟩
def SLOT_CTR_HI (k : Nat) : Nat := 0x400D000C + k * 0x10
def SLOT_CTR_HI_CTR (k : Nat) : Fld := ⟨SLOT_CTR_HI k, 0, 32⟩
def Q_ENTRY (e : Nat) : Nat := 0x400E0000 + e * 0x4
def Q_ENTRY_USED (e : Nat) : Fld := ⟨Q_ENTRY e, 31, 1⟩
def Q_ENTRY_RUNNING (e : Nat) : Fld := ⟨Q_ENTRY e, 30, 1⟩
def Q_ENTRY_PAGE (e : Nat) : Fld := ⟨Q_ENTRY e, 16, 4⟩
def Q_ENTRY_SLOT (e : Nat) : Fld := ⟨Q_ENTRY e, 8, 6⟩
def Q_ENTRY_TAG (e : Nat) : Fld := ⟨Q_ENTRY e, 0, 8⟩
def CPH_CFG : Nat := 0x400F0000
def CPH_CFG_GUARD_ALL : Fld := ⟨CPH_CFG, 31, 1⟩
def CPH_CFG_DUMMY_MAX : Fld := ⟨CPH_CFG, 8, 3⟩
def CPH_CFG_SHUFFLE_EN : Fld := ⟨CPH_CFG, 7, 1⟩
def CPH_STATUS : Nat := 0x400F0004
def CPH_STATUS_CLOCK_HOLD : Fld := ⟨CPH_STATUS, 9, 1⟩
def CPH_STATUS_RNG_FAIL : Fld := ⟨CPH_STATUS, 8, 1⟩
def CPH_STATUS_QUEUE_USED : Fld := ⟨CPH_STATUS, 0, 7⟩
def CPH_LMD_SLOTS_LO : Nat := 0x400F0008
def CPH_LMD_SLOTS_LO_ALL : Fld := ⟨CPH_LMD_SLOTS_LO, 0, 32⟩
def CPH_LMD_SLOTS_HI : Nat := 0x400F000C
def CPH_LMD_SLOTS_HI_ALL : Fld := ⟨CPH_LMD_SLOTS_HI, 0, 32⟩
def CPH_ZERO : Nat := 0x400F0010
def CPH_ZERO_KEY : Fld := ⟨CPH_ZERO, 16, 16⟩
def CPH_ZERO_GO : Fld := ⟨CPH_ZERO, 0, 1⟩
def CPH_CNT_OPS_LO : Nat := 0x400F0020
def CPH_CNT_OPS_LO_COUNT : Fld := ⟨CPH_CNT_OPS_LO, 0, 32⟩
def CPH_CNT_OPS_HI : Nat := 0x400F0024
def CPH_CNT_OPS_HI_COUNT : Fld := ⟨CPH_CNT_OPS_HI, 0, 16⟩
def CPH_CNT_TAGFAIL : Nat := 0x400F0028
def CPH_CNT_TAGFAIL_OVF : Fld := ⟨CPH_CNT_TAGFAIL, 31, 1⟩
def CPH_CNT_TAGFAIL_COUNT : Fld := ⟨CPH_CNT_TAGFAIL, 0, 31⟩
def CPH_CNT_GUARD : Nat := 0x400F002C
def CPH_CNT_GUARD_OVF : Fld := ⟨CPH_CNT_GUARD, 31, 1⟩
def CPH_CNT_GUARD_COUNT : Fld := ⟨CPH_CNT_GUARD, 0, 31⟩
def CPH_CNT_QFULL : Nat := 0x400F0030
def CPH_CNT_QFULL_OVF : Fld := ⟨CPH_CNT_QFULL, 31, 1⟩
def CPH_CNT_QFULL_COUNT : Fld := ⟨CPH_CNT_QFULL, 0, 31⟩
def CPH_CNT_EXHAUSTED : Nat := 0x400F0034
def CPH_CNT_EXHAUSTED_OVF : Fld := ⟨CPH_CNT_EXHAUSTED, 31, 1⟩
def CPH_CNT_EXHAUSTED_COUNT : Fld := ⟨CPH_CNT_EXHAUSTED, 0, 31⟩
def CPH_CNT_CANCEL : Nat := 0x400F0038
def CPH_CNT_CANCEL_OVF : Fld := ⟨CPH_CNT_CANCEL, 31, 1⟩
def CPH_CNT_CANCEL_COUNT : Fld := ⟨CPH_CNT_CANCEL, 0, 31⟩
def CPH_EVENT : Nat := 0x400F0040
def CPH_EVENT_ALL : Fld := ⟨CPH_EVENT, 0, 23⟩

-- Smp: chapter 12
def SMP_CFG : Nat := 0x40100000
def SMP_CFG_LINE_SOUND : Fld := ⟨SMP_CFG, 10, 1⟩
def SMP_CFG_RF_SOUND : Fld := ⟨SMP_CFG, 9, 1⟩
def SMP_CFG_PILOT_EN : Fld := ⟨SMP_CFG, 8, 1⟩
def SMP_CFG_LSTREAM_EN : Fld := ⟨SMP_CFG, 7, 1⟩
def SMP_CFG_RAW_EN : Fld := ⟨SMP_CFG, 6, 1⟩
def SMP_CFG_DAC_SRC : Fld := ⟨SMP_CFG, 4, 2⟩
def SMP_CFG_DAC_EN : Fld := ⟨SMP_CFG, 2, 2⟩
def SMP_CFG_LINE_EN : Fld := ⟨SMP_CFG, 1, 1⟩
def SMP_CFG_RF_EN : Fld := ⟨SMP_CFG, 0, 1⟩
def SMP_ATT : Nat := 0x40100004
def SMP_ATT_ATT_VHF : Fld := ⟨SMP_ATT, 8, 5⟩
def SMP_ATT_ATT_LF : Fld := ⟨SMP_ATT, 0, 5⟩
def SMP_SOUND_CFG : Nat := 0x40100008
def SMP_SOUND_CFG_RF_W : Fld := ⟨SMP_SOUND_CFG, 24, 5⟩
def SMP_SOUND_CFG_LINE_W : Fld := ⟨SMP_SOUND_CFG, 16, 5⟩
def SMP_SOUND_CFG_WINDOWS : Fld := ⟨SMP_SOUND_CFG, 8, 6⟩
def SMP_CHAIN_CFG : Nat := 0x4010000C
def SMP_CHAIN_CFG_RAMP0 : Fld := ⟨SMP_CHAIN_CFG, 4, 1⟩
def SMP_CHAIN_CFG_N0 : Fld := ⟨SMP_CHAIN_CFG, 0, 4⟩
def SMP_CHAIN_CFG_RAMP1 : Fld := ⟨SMP_CHAIN_CFG, 9, 1⟩
def SMP_CHAIN_CFG_N1 : Fld := ⟨SMP_CHAIN_CFG, 5, 4⟩
def SMP_CHAIN_CFG_RAMP2 : Fld := ⟨SMP_CHAIN_CFG, 14, 1⟩
def SMP_CHAIN_CFG_N2 : Fld := ⟨SMP_CHAIN_CFG, 10, 4⟩
def SMP_CHAIN_CFG_RAMP3 : Fld := ⟨SMP_CHAIN_CFG, 19, 1⟩
def SMP_CHAIN_CFG_N3 : Fld := ⟨SMP_CHAIN_CFG, 15, 4⟩
def SMP_CHAIN_CFG_RAMP4 : Fld := ⟨SMP_CHAIN_CFG, 24, 1⟩
def SMP_CHAIN_CFG_N4 : Fld := ⟨SMP_CHAIN_CFG, 20, 4⟩
def SMP_CHAIN_CFG_RAMP5 : Fld := ⟨SMP_CHAIN_CFG, 29, 1⟩
def SMP_CHAIN_CFG_N5 : Fld := ⟨SMP_CHAIN_CFG, 25, 4⟩
def SMP_STATUS : Nat := 0x40100010
def SMP_STATUS_RF_FIRST : Fld := ⟨SMP_STATUS, 31, 1⟩
def SMP_STATUS_LINE_FIRST : Fld := ⟨SMP_STATUS, 30, 1⟩
def SMP_STATUS_RF_SOUND_STOPPED : Fld := ⟨SMP_STATUS, 29, 1⟩
def SMP_STATUS_LINE_SOUND_STOPPED : Fld := ⟨SMP_STATUS, 28, 1⟩
def SMP_STATUS_RF_STEP : Fld := ⟨SMP_STATUS, 24, 3⟩
def SMP_STATUS_LINE_STEP : Fld := ⟨SMP_STATUS, 20, 3⟩
def SMP_STATUS_APPLY_REFUSED : Fld := ⟨SMP_STATUS, 19, 1⟩
def SMP_RF_MAP : Nat := 0x40100014
def SMP_RF_MAP_SPARE_AT : Fld := ⟨SMP_RF_MAP, 16, 3⟩
def SMP_RF_MAP_OUT : Fld := ⟨SMP_RF_MAP, 20, 3⟩
def SMP_RF_MAP_SERVE0 : Fld := ⟨SMP_RF_MAP, 0, 3⟩
def SMP_RF_MAP_SERVE1 : Fld := ⟨SMP_RF_MAP, 4, 3⟩
def SMP_RF_MAP_SERVE2 : Fld := ⟨SMP_RF_MAP, 8, 3⟩
def SMP_RF_MAP_SERVE3 : Fld := ⟨SMP_RF_MAP, 12, 3⟩
def SMP_LINE_MAP : Nat := 0x40100018
def SMP_LINE_MAP_SERVE_0 : Fld := ⟨SMP_LINE_MAP, 0, 3⟩
def SMP_LINE_MAP_SERVE_1 : Fld := ⟨SMP_LINE_MAP, 4, 3⟩
def SMP_LINE_MAP_SPARE_AT : Fld := ⟨SMP_LINE_MAP, 8, 3⟩
def SMP_LINE_MAP_OUT : Fld := ⟨SMP_LINE_MAP, 12, 3⟩
def SMP_LINE_MAP_SERVE0 : Fld := ⟨SMP_LINE_MAP, 0, 3⟩
def SMP_LINE_MAP_SERVE1 : Fld := ⟨SMP_LINE_MAP, 4, 3⟩
def SMP_FAULT : Nat := 0x4010001C
def SMP_FAULT_CAUSE : Fld := ⟨SMP_FAULT, 12, 4⟩
def SMP_FAULT_FIRST : Fld := ⟨SMP_FAULT, 8, 4⟩
def SMP_FAULT_FAULTY : Fld := ⟨SMP_FAULT, 0, 8⟩
def SMP_RF_CLIP : Nat := 0x40100020
def SMP_RF_CLIP_OVF : Fld := ⟨SMP_RF_CLIP, 31, 1⟩
def SMP_RF_CLIP_COUNT : Fld := ⟨SMP_RF_CLIP, 0, 31⟩
def SMP_LINE_CLIP : Nat := 0x40100024
def SMP_LINE_CLIP_OVF : Fld := ⟨SMP_LINE_CLIP, 31, 1⟩
def SMP_LINE_CLIP_COUNT : Fld := ⟨SMP_LINE_CLIP, 0, 31⟩
def SMP_RF_ROT : Nat := 0x40100028
def SMP_RF_ROT_COUNT : Fld := ⟨SMP_RF_ROT, 0, 32⟩
def SMP_LINE_ROT : Nat := 0x4010002C
def SMP_LINE_ROT_COUNT : Fld := ⟨SMP_LINE_ROT, 0, 32⟩
def SMP_SKIP_COUNT : Nat := 0x40100030
def SMP_SKIP_COUNT_OVF : Fld := ⟨SMP_SKIP_COUNT, 31, 1⟩
def SMP_SKIP_COUNT_COUNT : Fld := ⟨SMP_SKIP_COUNT, 0, 31⟩
def SMP_DROPS : Nat := 0x40100034
def SMP_DROPS_OVF : Fld := ⟨SMP_DROPS, 31, 1⟩
def SMP_DROPS_COUNT : Fld := ⟨SMP_DROPS, 0, 31⟩
def SMP_DAC_UNDER : Nat := 0x40100038
def SMP_DAC_UNDER_OVF : Fld := ⟨SMP_DAC_UNDER, 31, 1⟩
def SMP_DAC_UNDER_COUNT : Fld := ⟨SMP_DAC_UNDER, 0, 31⟩
def SMP_STAGE_OFFSET : Nat := 0x40100040
def SMP_STAGE_OFFSET_VALUE : Fld := ⟨SMP_STAGE_OFFSET, 0, 16⟩
def SMP_STAGE_GAIN : Nat := 0x40100044
def SMP_STAGE_GAIN_VALUE : Fld := ⟨SMP_STAGE_GAIN, 0, 18⟩
def SMP_STAGE_SKEW : Nat := 0x40100048
def SMP_STAGE_SKEW_VALUE : Fld := ⟨SMP_STAGE_SKEW, 0, 16⟩
def SMP_STAGE_BW : Nat := 0x4010004C
def SMP_STAGE_BW_VALUE : Fld := ⟨SMP_STAGE_BW, 0, 16⟩
def SMP_COEF_CMD : Nat := 0x40100050
def SMP_COEF_CMD_KEY : Fld := ⟨SMP_COEF_CMD, 16, 16⟩
def SMP_COEF_CMD_INDEX : Fld := ⟨SMP_COEF_CMD, 8, 4⟩
def SMP_COEF_CMD_OP : Fld := ⟨SMP_COEF_CMD, 0, 2⟩
def SMP_EVENT : Nat := 0x40100054
def SMP_EVENT_ALL : Fld := ⟨SMP_EVENT, 0, 10⟩
def SMP_SET (s w : Nat) : Nat := 0x40100100 + s * 0x10 + w * 0x4
def SMP_SET_ALL (s w : Nat) : Fld := ⟨SMP_SET s w, 0, 32⟩

-- Rxc: chapter 13
def RXC_CFG : Nat := 0x40110000
def RXC_CFG_EN : Fld := ⟨RXC_CFG, 0, 1⟩
def RXC_STATUS : Nat := 0x40110004
def RXC_STATUS_SPLL_HOLD : Fld := ⟨RXC_STATUS, 8, 1⟩
def RXC_STATUS_RUNNING : Fld := ⟨RXC_STATUS, 0, 8⟩
def RXC_EVENT : Nat := 0x40110008
def RXC_EVENT_ALL : Fld := ⟨RXC_EVENT, 0, 13⟩
def DDC_CFG (d : Nat) : Nat := 0x40110100 + d * 0x40
def DDC_CFG_EN (d : Nat) : Fld := ⟨DDC_CFG d, 31, 1⟩
def DDC_CFG_OWNER (d : Nat) : Fld := ⟨DDC_CFG d, 30, 1⟩
def DDC_CFG_DEST (d : Nat) : Fld := ⟨DDC_CFG d, 28, 2⟩
def DDC_CFG_CTX (d : Nat) : Fld := ⟨DDC_CFG d, 26, 2⟩
def DDC_CFG_SCS (d : Nat) : Fld := ⟨DDC_CFG d, 25, 1⟩
def DDC_CFG_UNIT (d : Nat) : Fld := ⟨DDC_CFG d, 16, 4⟩
def DDC_DEC (d : Nat) : Nat := 0x40110104 + d * 0x40
def DDC_DEC_TAPS_NEXT (d : Nat) : Fld := ⟨DDC_DEC d, 20, 9⟩
def DDC_DEC_DFIR (d : Nat) : Fld := ⟨DDC_DEC d, 16, 4⟩
def DDC_DEC_DCIC (d : Nat) : Fld := ⟨DDC_DEC d, 0, 15⟩
def DDC_FREQ (d : Nat) : Nat := 0x40110108 + d * 0x40
def DDC_FREQ_FW (d : Nat) : Fld := ⟨DDC_FREQ d, 0, 32⟩
def DDC_PHASE (d : Nat) : Nat := 0x4011010C + d * 0x40
def DDC_PHASE_PHASE (d : Nat) : Fld := ⟨DDC_PHASE d, 0, 16⟩
def DDC_CMD (d : Nat) : Nat := 0x40110110 + d * 0x40
def DDC_CMD_HOP_STOP (d : Nat) : Fld := ⟨DDC_CMD d, 4, 1⟩
def DDC_CMD_HOP_START (d : Nat) : Fld := ⟨DDC_CMD d, 3, 1⟩
def DDC_CMD_SWAP (d : Nat) : Fld := ⟨DDC_CMD d, 2, 1⟩
def DDC_CMD_PHASE_RESET (d : Nat) : Fld := ⟨DDC_CMD d, 1, 1⟩
def DDC_CMD_RETUNE (d : Nat) : Fld := ⟨DDC_CMD d, 0, 1⟩
def DDC_STATUS (d : Nat) : Nat := 0x40110114 + d * 0x40
def DDC_STATUS_RUNNING (d : Nat) : Fld := ⟨DDC_STATUS d, 31, 1⟩
def DDC_STATUS_ACTIVE_BANK (d : Nat) : Fld := ⟨DDC_STATUS d, 30, 1⟩
def DDC_STATUS_HOPPING (d : Nat) : Fld := ⟨DDC_STATUS d, 29, 1⟩
def DDC_STATUS_RETUNE_PEND (d : Nat) : Fld := ⟨DDC_STATUS d, 28, 1⟩
def DDC_STATUS_SWAP_PEND (d : Nat) : Fld := ⟨DDC_STATUS d, 27, 1⟩
def DDC_STATUS_UNSETTLED (d : Nat) : Fld := ⟨DDC_STATUS d, 26, 1⟩
def DDC_STATUS_TAPS (d : Nat) : Fld := ⟨DDC_STATUS d, 16, 9⟩
def DDC_STATUS_HOP_IDX (d : Nat) : Fld := ⟨DDC_STATUS d, 12, 4⟩
def DDC_STATUS_COEF_DBE (d : Nat) : Fld := ⟨DDC_STATUS d, 7, 1⟩
def DDC_STATUS_OWNED_DROP (d : Nat) : Fld := ⟨DDC_STATUS d, 6, 1⟩
def DDC_STATUS_RETUNE_DROP (d : Nat) : Fld := ⟨DDC_STATUS d, 5, 1⟩
def DDC_STATUS_LIMIT_REFUSED (d : Nat) : Fld := ⟨DDC_STATUS d, 4, 1⟩
def DDC_STATUS_COEF_DROP (d : Nat) : Fld := ⟨DDC_STATUS d, 3, 1⟩
def DDC_STATUS_SAT (d : Nat) : Fld := ⟨DDC_STATUS d, 2, 1⟩
def DDC_STATUS_IN_CLIP (d : Nat) : Fld := ⟨DDC_STATUS d, 1, 1⟩
def DDC_STATUS_DROP (d : Nat) : Fld := ⟨DDC_STATUS d, 0, 1⟩
def DDC_POWER (d : Nat) : Nat := 0x40110118 + d * 0x40
def DDC_POWER_POWER (d : Nat) : Fld := ⟨DDC_POWER d, 0, 16⟩
def DDC_GEN (d : Nat) : Nat := 0x4011011C + d * 0x40
def DDC_GEN_GEN (d : Nat) : Fld := ⟨DDC_GEN d, 0, 8⟩
def DDC_DROPS (d : Nat) : Nat := 0x40110120 + d * 0x40
def DDC_DROPS_OVF (d : Nat) : Fld := ⟨DDC_DROPS d, 31, 1⟩
def DDC_DROPS_COUNT (d : Nat) : Fld := ⟨DDC_DROPS d, 0, 31⟩
def DDC_SAT_UNITS (d : Nat) : Nat := 0x40110124 + d * 0x40
def DDC_SAT_UNITS_OVF (d : Nat) : Fld := ⟨DDC_SAT_UNITS d, 31, 1⟩
def DDC_SAT_UNITS_COUNT (d : Nat) : Fld := ⟨DDC_SAT_UNITS d, 0, 31⟩
def DDC_HOP_CFG (d : Nat) : Nat := 0x40110128 + d * 0x40
def DDC_HOP_CFG_ONCE (d : Nat) : Fld := ⟨DDC_HOP_CFG d, 12, 1⟩
def DDC_HOP_CFG_COUNT (d : Nat) : Fld := ⟨DDC_HOP_CFG d, 8, 4⟩
def DDC_HOP_CFG_DWELL (d : Nat) : Fld := ⟨DDC_HOP_CFG d, 0, 8⟩
def DDC_HOP_CYCLES (d : Nat) : Nat := 0x4011012C + d * 0x40
def DDC_HOP_CYCLES_COUNT (d : Nat) : Fld := ⟨DDC_HOP_CYCLES d, 0, 32⟩
def DDC_HOP (d e : Nat) : Nat := 0x40110800 + d * 0x40 + e * 0x4
def DDC_HOP_FW (d e : Nat) : Fld := ⟨DDC_HOP d e, 0, 32⟩
def DDC_COEF (d t : Nat) : Nat := 0x40111000 + d * 0x800 + t * 0x4
def DDC_COEF_COEF (d t : Nat) : Fld := ⟨DDC_COEF d t, 0, 18⟩

-- Bcd: chapter 14
def BCD_CFG : Nat := 0x40120000
def BCD_CFG_EN : Fld := ⟨BCD_CFG, 31, 1⟩
def BCD_CFG_SCAN_MASK : Fld := ⟨BCD_CFG, 16, 8⟩
def BCD_CFG_SCAN_DWELL : Fld := ⟨BCD_CFG, 0, 8⟩
def BCD_STATUS : Nat := 0x40120004
def BCD_STATUS_SCAN_USED : Fld := ⟨BCD_STATUS, 16, 8⟩
def BCD_STATUS_RUN : Fld := ⟨BCD_STATUS, 0, 4⟩
def BCD_EVENT : Nat := 0x40120008
def BCD_EVENT_ALL : Fld := ⟨BCD_EVENT, 0, 21⟩
def CTX_CFG (c : Nat) : Nat := 0x40120100 + c * 0x100
def CTX_CFG_EN (c : Nat) : Fld := ⟨CTX_CFG c, 31, 1⟩
def CTX_CFG_MODE (c : Nat) : Fld := ⟨CTX_CFG c, 29, 2⟩
def CTX_CFG_MAIN (c : Nat) : Fld := ⟨CTX_CFG c, 26, 3⟩
def CTX_CFG_AF_AUTO (c : Nat) : Fld := ⟨CTX_CFG c, 25, 1⟩
def CTX_CFG_SCAN_EN (c : Nat) : Fld := ⟨CTX_CFG c, 24, 1⟩
def CTX_CFG_CPD_EN (c : Nat) : Fld := ⟨CTX_CFG c, 23, 1⟩
def CTX_CFG_DET_SYNC (c : Nat) : Fld := ⟨CTX_CFG c, 22, 1⟩
def CTX_CFG_STEREO_EN (c : Nat) : Fld := ⟨CTX_CFG c, 21, 1⟩
def CTX_CFG_DEEMPH_75 (c : Nat) : Fld := ⟨CTX_CFG c, 20, 1⟩
def CTX_CFG_RBDS (c : Nat) : Fld := ⟨CTX_CFG c, 19, 1⟩
def CTX_CFG_RDS_CORR (c : Nat) : Fld := ⟨CTX_CFG c, 18, 1⟩
def CTX_CFG_DRM_MODE (c : Nat) : Fld := ⟨CTX_CFG c, 15, 3⟩
def CTX_CFG_AUDIO_EN (c : Nat) : Fld := ⟨CTX_CFG c, 14, 1⟩
def CTX_CFG_SIDE_EN (c : Nat) : Fld := ⟨CTX_CFG c, 13, 1⟩
def CTX_CFG_AUDIO_BW (c : Nat) : Fld := ⟨CTX_CFG c, 0, 12⟩
def CTX_FREQ (c : Nat) : Nat := 0x40120104 + c * 0x100
def CTX_FREQ_ALL (c : Nat) : Fld := ⟨CTX_FREQ c, 0, 32⟩
def CTX_BLANK (c : Nat) : Nat := 0x40120108 + c * 0x100
def CTX_BLANK_BLANK_K (c : Nat) : Fld := ⟨CTX_BLANK c, 8, 6⟩
def CTX_BLANK_BLANK_LEN (c : Nat) : Fld := ⟨CTX_BLANK c, 0, 8⟩
def CTX_FLOOD (c : Nat) : Nat := 0x4012010C + c * 0x100
def CTX_FLOOD_FLOOD_HOLD_S (c : Nat) : Fld := ⟨CTX_FLOOD c, 24, 8⟩
def CTX_FLOOD_FLOOD_DB (c : Nat) : Fld := ⟨CTX_FLOOD c, 8, 8⟩
def CTX_FLOOD_FLOOD_IMP (c : Nat) : Fld := ⟨CTX_FLOOD c, 0, 8⟩
def CTX_AF (c : Nat) : Nat := 0x40120110 + c * 0x100
def CTX_AF_PI_WAIT_MS (c : Nat) : Fld := ⟨CTX_AF c, 20, 12⟩
def CTX_AF_AF_MARGIN (c : Nat) : Fld := ⟨CTX_AF c, 8, 8⟩
def CTX_AF_LOSS_MS (c : Nat) : Fld := ⟨CTX_AF c, 0, 8⟩
def CTX_CPD (c : Nat) : Nat := 0x40120114 + c * 0x100
def CTX_CPD_CRC_W (c : Nat) : Fld := ⟨CTX_CPD c, 30, 2⟩
def CTX_CPD_PAYLOAD_BYTES (c : Nat) : Fld := ⟨CTX_CPD c, 24, 6⟩
def CTX_CPD_SYNC_ERR (c : Nat) : Fld := ⟨CTX_CPD c, 22, 2⟩
def CTX_CPD_SYNC_LEN (c : Nat) : Fld := ⟨CTX_CPD c, 16, 5⟩
def CTX_CPD_DEV (c : Nat) : Fld := ⟨CTX_CPD c, 8, 8⟩
def CTX_CPD_BIT_RATE (c : Nat) : Fld := ⟨CTX_CPD c, 0, 8⟩
def CTX_CPD_SYNC (c : Nat) : Nat := 0x40120118 + c * 0x100
def CTX_CPD_SYNC_ALL (c : Nat) : Fld := ⟨CTX_CPD_SYNC c, 0, 32⟩
def CTX_CPD_POLY (c : Nat) : Nat := 0x4012011C + c * 0x100
def CTX_CPD_POLY_ALL (c : Nat) : Fld := ⟨CTX_CPD_POLY c, 0, 32⟩
def CTX_CPD_INIT (c : Nat) : Nat := 0x40120120 + c * 0x100
def CTX_CPD_INIT_ALL (c : Nat) : Fld := ⟨CTX_CPD_INIT c, 0, 32⟩
def CTX_CPD_XOR (c : Nat) : Nat := 0x40120124 + c * 0x100
def CTX_CPD_XOR_ALL (c : Nat) : Fld := ⟨CTX_CPD_XOR c, 0, 32⟩
def CTX_RDS_FILTER (c : Nat) : Nat := 0x40120128 + c * 0x100
def CTX_RDS_FILTER_GROUPS (c : Nat) : Fld := ⟨CTX_RDS_FILTER c, 0, 32⟩
def CTX_CARRIER (c : Nat) : Nat := 0x4012012C + c * 0x100
def CTX_CARRIER_CARRIER_S (c : Nat) : Fld := ⟨CTX_CARRIER c, 0, 4⟩
def CTX_STATUS (c : Nat) : Nat := 0x40120130 + c * 0x100
def CTX_STATUS_LOCK (c : Nat) : Fld := ⟨CTX_STATUS c, 31, 1⟩
def CTX_STATUS_FLOOD (c : Nat) : Fld := ⟨CTX_STATUS c, 30, 1⟩
def CTX_STATUS_NO_INPUT (c : Nat) : Fld := ⟨CTX_STATUS c, 29, 1⟩
def CTX_STATUS_IDENT_WAIT (c : Nat) : Fld := ⟨CTX_STATUS c, 28, 1⟩
def CTX_STATUS_CPD_SYNC (c : Nat) : Fld := ⟨CTX_STATUS c, 27, 1⟩
def CTX_STATUS_STEREO (c : Nat) : Fld := ⟨CTX_STATUS c, 26, 1⟩
def CTX_STATUS_DRM_DET (c : Nat) : Fld := ⟨CTX_STATUS c, 23, 3⟩
def CTX_STATUS_DBE (c : Nat) : Fld := ⟨CTX_STATUS c, 3, 1⟩
def CTX_STATUS_FLOOD_SEEN (c : Nat) : Fld := ⟨CTX_STATUS c, 2, 1⟩
def CTX_STATUS_DROP (c : Nat) : Fld := ⟨CTX_STATUS c, 1, 1⟩
def CTX_STATUS_LOCK_LOST (c : Nat) : Fld := ⟨CTX_STATUS c, 0, 1⟩
def CTX_FREQ_USE (c : Nat) : Nat := 0x40120134 + c * 0x100
def CTX_FREQ_USE_ALL (c : Nat) : Fld := ⟨CTX_FREQ_USE c, 0, 32⟩
def CTX_IDENT (c : Nat) : Nat := 0x40120138 + c * 0x100
def CTX_IDENT_VALID (c : Nat) : Fld := ⟨CTX_IDENT c, 31, 1⟩
def CTX_IDENT_ID (c : Nat) : Fld := ⟨CTX_IDENT c, 0, 24⟩
def CTX_AF_PROPOSED (c : Nat) : Nat := 0x4012013C + c * 0x100
def CTX_AF_PROPOSED_ALL (c : Nat) : Fld := ⟨CTX_AF_PROPOSED c, 0, 32⟩
def CTX_UNITS (c : Nat) : Nat := 0x40120140 + c * 0x100
def CTX_UNITS_COUNT (c : Nat) : Fld := ⟨CTX_UNITS c, 0, 32⟩
def CTX_DROP_CHECK (c : Nat) : Nat := 0x40120144 + c * 0x100
def CTX_DROP_CHECK_OVF (c : Nat) : Fld := ⟨CTX_DROP_CHECK c, 31, 1⟩
def CTX_DROP_CHECK_COUNT (c : Nat) : Fld := ⟨CTX_DROP_CHECK c, 0, 31⟩
def CTX_DROP_FORMAT (c : Nat) : Nat := 0x40120148 + c * 0x100
def CTX_DROP_FORMAT_OVF (c : Nat) : Fld := ⟨CTX_DROP_FORMAT c, 31, 1⟩
def CTX_DROP_FORMAT_COUNT (c : Nat) : Fld := ⟨CTX_DROP_FORMAT c, 0, 31⟩
def CTX_DROP_RETUNE (c : Nat) : Nat := 0x4012014C + c * 0x100
def CTX_DROP_RETUNE_OVF (c : Nat) : Fld := ⟨CTX_DROP_RETUNE c, 31, 1⟩
def CTX_DROP_RETUNE_COUNT (c : Nat) : Fld := ⟨CTX_DROP_RETUNE c, 0, 31⟩
def CTX_DROP_STREAM (c : Nat) : Nat := 0x40120150 + c * 0x100
def CTX_DROP_STREAM_OVF (c : Nat) : Fld := ⟨CTX_DROP_STREAM c, 31, 1⟩
def CTX_DROP_STREAM_COUNT (c : Nat) : Fld := ⟨CTX_DROP_STREAM c, 0, 31⟩
def CTX_FLOODS (c : Nat) : Nat := 0x40120154 + c * 0x100
def CTX_FLOODS_OVF (c : Nat) : Fld := ⟨CTX_FLOODS c, 31, 1⟩
def CTX_FLOODS_COUNT (c : Nat) : Fld := ⟨CTX_FLOODS c, 0, 31⟩
def CTX_AF_SWITCHES (c : Nat) : Nat := 0x40120158 + c * 0x100
def CTX_AF_SWITCHES_OVF (c : Nat) : Fld := ⟨CTX_AF_SWITCHES c, 31, 1⟩
def CTX_AF_SWITCHES_COUNT (c : Nat) : Fld := ⟨CTX_AF_SWITCHES c, 0, 31⟩
def CTX_LAST_EPS (c : Nat) : Nat := 0x4012015C + c * 0x100
def CTX_LAST_EPS_EPS (c : Nat) : Fld := ⟨CTX_LAST_EPS c, 0, 32⟩
def CTX_AFE (c e : Nat) : Nat := 0x40120180 + c * 0x100 + e * 0x4
def CTX_AFE_VALID (c e : Nat) : Fld := ⟨CTX_AFE c e, 31, 1⟩
def CTX_AFE_BAD (c e : Nat) : Fld := ⟨CTX_AFE c e, 30, 1⟩
def CTX_AFE_SOURCE (c e : Nat) : Fld := ⟨CTX_AFE c e, 28, 2⟩
def CTX_AFE_HZ (c e : Nat) : Fld := ⟨CTX_AFE c e, 0, 28⟩
def CTX_AFX (c e : Nat) : Nat := 0x401201A0 + c * 0x100 + e * 0x4
def CTX_AFX_VALID (c e : Nat) : Fld := ⟨CTX_AFX c e, 31, 1⟩
def CTX_AFX_BAD (c e : Nat) : Fld := ⟨CTX_AFX c e, 30, 1⟩
def CTX_AFX_SOURCE (c e : Nat) : Fld := ⟨CTX_AFX c e, 28, 2⟩
def CTX_AFX_HZ (c e : Nat) : Fld := ⟨CTX_AFX c e, 0, 28⟩

-- Lmd: chapter 15
def LMD_CFG : Nat := 0x40130000
def LMD_CFG_MON_EN : Fld := ⟨LMD_CFG, 1, 1⟩
def LMD_CFG_EN : Fld := ⟨LMD_CFG, 0, 1⟩
def LMD_MON_CFG : Nat := 0x40130004
def LMD_MON_CFG_MON_FLOOR : Fld := ⟨LMD_MON_CFG, 0, 12⟩
def LMD_MON_STATUS : Nat := 0x40130008
def LMD_MON_STATUS_TRIPPED : Fld := ⟨LMD_MON_STATUS, 31, 1⟩
def LMD_MON_STATUS_CAUSE : Fld := ⟨LMD_MON_STATUS, 30, 1⟩
def LMD_MON_STATUS_RUN : Fld := ⟨LMD_MON_STATUS, 28, 2⟩
def LMD_MON_STATUS_WORST_FREQ : Fld := ⟨LMD_MON_STATUS, 12, 13⟩
def LMD_MON_STATUS_EXCESS : Fld := ⟨LMD_MON_STATUS, 0, 12⟩
def LMD_TRIP_COUNT : Nat := 0x4013000C
def LMD_TRIP_COUNT_OVF : Fld := ⟨LMD_TRIP_COUNT, 31, 1⟩
def LMD_TRIP_COUNT_COUNT : Fld := ⟨LMD_TRIP_COUNT, 0, 16⟩
def LMD_CMD : Nat := 0x40130010
def LMD_CMD_KEY : Fld := ⟨LMD_CMD, 16, 16⟩
def LMD_CMD_CH : Fld := ⟨LMD_CMD, 8, 1⟩
def LMD_CMD_OP : Fld := ⟨LMD_CMD, 0, 4⟩
def LMD_EVENT : Nat := 0x40130014
def LMD_EVENT_ALL : Fld := ⟨LMD_EVENT, 0, 18⟩
def LMD_MASK (i : Nat) : Nat := 0x40130080 + i * 0x4
def LMD_MASK_FREQ (i : Nat) : Fld := ⟨LMD_MASK i, 16, 13⟩
def LMD_MASK_LEVEL (i : Nat) : Fld := ⟨LMD_MASK i, 0, 12⟩
def TX_CFG (t : Nat) : Nat := 0x40130100 + t * 0x80
def TX_CFG_EN (t : Nat) : Fld := ⟨TX_CFG t, 31, 1⟩
def TX_CFG_MODE (t : Nat) : Fld := ⟨TX_CFG t, 30, 1⟩
def TX_CFG_BW (t : Nat) : Fld := ⟨TX_CFG t, 28, 2⟩
def TX_CFG_HTAPS (t : Nat) : Fld := ⟨TX_CFG t, 20, 7⟩
def TX_CFG_MIN_BLOCKS (t : Nat) : Fld := ⟨TX_CFG t, 16, 4⟩
def TX_FREQ (t : Nat) : Nat := 0x40130104 + t * 0x80
def TX_FREQ_HZ (t : Nat) : Fld := ⟨TX_FREQ t, 0, 20⟩
def TX_RATE (t j : Nat) : Nat := 0x40130108 + t * 0x80 + j * 0x4
def TX_RATE_EN (t j : Nat) : Fld := ⟨TX_RATE t j, 31, 1⟩
def TX_RATE_MOD (t j : Nat) : Fld := ⟨TX_RATE t j, 24, 2⟩
def TX_RATE_CR (t j : Nat) : Fld := ⟨TX_RATE t j, 20, 2⟩
def TX_RATE_PRE_SEED (t j : Nat) : Fld := ⟨TX_RATE t j, 0, 15⟩
def TX_RAMP (t : Nat) : Nat := 0x40130118 + t * 0x80
def TX_RAMP_LAG_US (t : Nat) : Fld := ⟨TX_RAMP t, 20, 8⟩
def TX_RAMP_LEAD_US (t : Nat) : Fld := ⟨TX_RAMP t, 12, 8⟩
def TX_RAMP_RAMP_TIME (t : Nat) : Fld := ⟨TX_RAMP t, 0, 10⟩
def TX_TP (t : Nat) : Nat := 0x4013011C + t * 0x80
def TX_TP_LINK_ID (t : Nat) : Fld := ⟨TX_TP t, 16, 16⟩
def TX_TP_DIR (t : Nat) : Fld := ⟨TX_TP t, 15, 1⟩
def TX_TP_SLOT (t : Nat) : Fld := ⟨TX_TP t, 8, 6⟩
def TX_TP_START_EVERY (t : Nat) : Fld := ⟨TX_TP t, 0, 8⟩
def TX_LEVEL (t : Nat) : Nat := 0x40130120 + t * 0x80
def TX_LEVEL_GAIN (t : Nat) : Fld := ⟨TX_LEVEL t, 0, 16⟩
def TX_STATUS (t : Nat) : Nat := 0x40130124 + t * 0x80
def TX_STATUS_STATE (t : Nat) : Fld := ⟨TX_STATUS t, 29, 3⟩
def TX_STATUS_CAUSE (t : Nat) : Fld := ⟨TX_STATUS t, 26, 3⟩
def TX_STATUS_RANGE_DROP (t : Nat) : Fld := ⟨TX_STATUS t, 12, 1⟩
def TX_STATUS_CMD (t : Nat) : Fld := ⟨TX_STATUS t, 8, 4⟩
def TX_STATUS_ND (t : Nat) : Fld := ⟨TX_STATUS t, 4, 4⟩
def TX_ND_COUNT (t : Nat) : Nat := 0x40130128 + t * 0x80
def TX_ND_COUNT_OVF (t : Nat) : Fld := ⟨TX_ND_COUNT t, 31, 1⟩
def TX_ND_COUNT_COUNT (t : Nat) : Fld := ⟨TX_ND_COUNT t, 0, 16⟩
def TX_UNITS (t : Nat) : Nat := 0x4013012C + t * 0x80
def TX_UNITS_COUNT (t : Nat) : Fld := ⟨TX_UNITS t, 0, 32⟩
def TX_ABORTS (t : Nat) : Nat := 0x40130130 + t * 0x80
def TX_ABORTS_OVF (t : Nat) : Fld := ⟨TX_ABORTS t, 31, 1⟩
def TX_ABORTS_COUNT (t : Nat) : Fld := ⟨TX_ABORTS t, 0, 31⟩
def TX_SESSION (t : Nat) : Nat := 0x40130134 + t * 0x80
def TX_SESSION_VALID (t : Nat) : Fld := ⟨TX_SESSION t, 31, 1⟩
def TX_SESSION_SESSION (t : Nat) : Fld := ⟨TX_SESSION t, 0, 24⟩
def RX_CFG (r : Nat) : Nat := 0x40130200 + r * 0x80
def RX_CFG_EN (r : Nat) : Fld := ⟨RX_CFG r, 31, 1⟩
def RX_CFG_MODE (r : Nat) : Fld := ⟨RX_CFG r, 30, 1⟩
def RX_CFG_BW (r : Nat) : Fld := ⟨RX_CFG r, 28, 2⟩
def RX_CFG_INPUT (r : Nat) : Fld := ⟨RX_CFG r, 27, 1⟩
def RX_CFG_RATE_EN (r : Nat) : Fld := ⟨RX_CFG r, 23, 4⟩
def RX_CFG_SLOT (r : Nat) : Fld := ⟨RX_CFG r, 16, 6⟩
def RX_CFG_CMD_HOLD (r : Nat) : Fld := ⟨RX_CFG r, 12, 4⟩
def RX_FREQ (r : Nat) : Nat := 0x40130204 + r * 0x80
def RX_FREQ_HZ (r : Nat) : Fld := ⟨RX_FREQ r, 0, 20⟩
def RX_RATE (r j : Nat) : Nat := 0x40130208 + r * 0x80 + j * 0x4
def RX_RATE_EN (r j : Nat) : Fld := ⟨RX_RATE r j, 31, 1⟩
def RX_RATE_MOD (r j : Nat) : Fld := ⟨RX_RATE r j, 24, 2⟩
def RX_RATE_CR (r j : Nat) : Fld := ⟨RX_RATE r j, 20, 2⟩
def RX_RATE_PRE_SEED (r j : Nat) : Fld := ⟨RX_RATE r j, 0, 15⟩
def RX_TP (r : Nat) : Nat := 0x40130218 + r * 0x80
def RX_TP_LINK_ID (r : Nat) : Fld := ⟨RX_TP r, 16, 16⟩
def RX_TP_DIR (r : Nat) : Fld := ⟨RX_TP r, 15, 1⟩
def RX_TP_START_WINDOW_S (r : Nat) : Fld := ⟨RX_TP r, 8, 7⟩
def RX_TP_GUARD_LOSS (r : Nat) : Fld := ⟨RX_TP r, 0, 8⟩
def RX_GUARD (r : Nat) : Nat := 0x4013021C + r * 0x80
def RX_GUARD_BLANK_LEN (r : Nat) : Fld := ⟨RX_GUARD r, 16, 8⟩
def RX_GUARD_DET_THR (r : Nat) : Fld := ⟨RX_GUARD r, 8, 8⟩
def RX_GUARD_GUARD_RESTORE (r : Nat) : Fld := ⟨RX_GUARD r, 0, 8⟩
def RX_FLOOD (r : Nat) : Nat := 0x40130220 + r * 0x80
def RX_FLOOD_FLOOD_HOLD_S (r : Nat) : Fld := ⟨RX_FLOOD r, 24, 8⟩
def RX_FLOOD_BLANK_K (r : Nat) : Fld := ⟨RX_FLOOD r, 16, 6⟩
def RX_FLOOD_FLOOD_IMP (r : Nat) : Fld := ⟨RX_FLOOD r, 8, 8⟩
def RX_FLOOD_FLOOD_DB (r : Nat) : Fld := ⟨RX_FLOOD r, 0, 8⟩
def RX_STATUS (r : Nat) : Nat := 0x40130224 + r * 0x80
def RX_STATUS_GUARD_OK (r : Nat) : Fld := ⟨RX_STATUS r, 31, 1⟩
def RX_STATUS_FLOOD (r : Nat) : Fld := ⟨RX_STATUS r, 30, 1⟩
def RX_STATUS_RESYNC (r : Nat) : Fld := ⟨RX_STATUS r, 29, 1⟩
def RX_STATUS_BUSY (r : Nat) : Fld := ⟨RX_STATUS r, 28, 1⟩
def RX_STATUS_TPOUT (r : Nat) : Fld := ⟨RX_STATUS r, 24, 4⟩
def RX_STATUS_RANGE_DROP (r : Nat) : Fld := ⟨RX_STATUS r, 4, 1⟩
def RX_STATUS_DBE (r : Nat) : Fld := ⟨RX_STATUS r, 3, 1⟩
def RX_STATUS_FLOOD_SEEN (r : Nat) : Fld := ⟨RX_STATUS r, 2, 1⟩
def RX_STATUS_DROP (r : Nat) : Fld := ⟨RX_STATUS r, 1, 1⟩
def RX_STATUS_GUARD_LOST (r : Nat) : Fld := ⟨RX_STATUS r, 0, 1⟩
def RX_UNITS (r : Nat) : Nat := 0x40130228 + r * 0x80
def RX_UNITS_COUNT (r : Nat) : Fld := ⟨RX_UNITS r, 0, 32⟩
def RX_SNR (r : Nat) : Nat := 0x4013022C + r * 0x80
def RX_SNR_SNR (r : Nat) : Fld := ⟨RX_SNR r, 0, 12⟩
def RX_SESSION (r : Nat) : Nat := 0x40130230 + r * 0x80
def RX_SESSION_VALID (r : Nat) : Fld := ⟨RX_SESSION r, 31, 1⟩
def RX_SESSION_SESSION (r : Nat) : Fld := ⟨RX_SESSION r, 0, 24⟩
def RX_CNT (r c : Nat) : Nat := 0x40130240 + r * 0x80 + c * 0x4
def RX_CNT_OVF (r c : Nat) : Fld := ⟨RX_CNT r c, 31, 1⟩
def RX_CNT_COUNT (r c : Nat) : Fld := ⟨RX_CNT r c, 0, 31⟩
def TX_COEF (t k : Nat) : Nat := 0x40131000 + t * 0x400 + k * 0x4
def TX_COEF_COEF (t k : Nat) : Fld := ⟨TX_COEF t k, 0, 16⟩
def TX_RAMPP (t i : Nat) : Nat := 0x40131800 + t * 0x100 + i * 0x4
def TX_RAMPP_CODE (t i : Nat) : Fld := ⟨TX_RAMPP t i, 0, 10⟩

-- Spt: chapter 16
def SPT_CFG (n : Nat) : Nat := 0x40140000 + n * 0x40
def SPT_CFG_EN (n : Nat) : Fld := ⟨SPT_CFG n, 31, 1⟩
def SPT_CFG_DIR (n : Nat) : Fld := ⟨SPT_CFG n, 30, 1⟩
def SPT_CFG_AUTO (n : Nat) : Fld := ⟨SPT_CFG n, 29, 1⟩
def SPT_CFG_FORMAT (n : Nat) : Fld := ⟨SPT_CFG n, 27, 2⟩
def SPT_CFG_WLEN (n : Nat) : Fld := ⟨SPT_CFG n, 25, 2⟩
def SPT_CFG_BCK_POL (n : Nat) : Fld := ⟨SPT_CFG n, 24, 1⟩
def SPT_CFG_WATCH_SD (n : Nat) : Fld := ⟨SPT_CFG n, 23, 1⟩
def SPT_SETTLE (n : Nat) : Nat := 0x40140004 + n * 0x40
def SPT_SETTLE_RELEASE (n : Nat) : Fld := ⟨SPT_SETTLE n, 16, 11⟩
def SPT_SETTLE_SETTLE (n : Nat) : Fld := ⟨SPT_SETTLE n, 0, 11⟩
def SPT_CMD (n : Nat) : Nat := 0x40140008 + n * 0x40
def SPT_CMD_STOP (n : Nat) : Fld := ⟨SPT_CMD n, 2, 1⟩
def SPT_CMD_CANCEL (n : Nat) : Fld := ⟨SPT_CMD n, 1, 1⟩
def SPT_CMD_START (n : Nat) : Fld := ⟨SPT_CMD n, 0, 1⟩
def SPT_STATUS (n : Nat) : Nat := 0x4014000C + n * 0x40
def SPT_STATUS_STATE (n : Nat) : Fld := ⟨SPT_STATUS n, 29, 3⟩
def SPT_STATUS_CLK_LOSS (n : Nat) : Fld := ⟨SPT_STATUS n, 8, 1⟩
def SPT_STATUS_FRAMING (n : Nat) : Fld := ⟨SPT_STATUS n, 7, 1⟩
def SPT_STATUS_DROP (n : Nat) : Fld := ⟨SPT_STATUS n, 6, 1⟩
def SPT_STATUS_UNDER (n : Nat) : Fld := ⟨SPT_STATUS n, 5, 1⟩
def SPT_STATUS_CANCELLED (n : Nat) : Fld := ⟨SPT_STATUS n, 4, 1⟩
def SPT_STATUS_BCK_PRESENT (n : Nat) : Fld := ⟨SPT_STATUS n, 0, 1⟩
def SPT_LOSS_CFG (n : Nat) : Nat := 0x40140010 + n * 0x40
def SPT_LOSS_CFG_LOSS_US (n : Nat) : Fld := ⟨SPT_LOSS_CFG n, 0, 8⟩
def SPT_FRAMES (n : Nat) : Nat := 0x40140014 + n * 0x40
def SPT_FRAMES_COUNT (n : Nat) : Fld := ⟨SPT_FRAMES n, 0, 32⟩
def SPT_DROPS (n : Nat) : Nat := 0x40140018 + n * 0x40
def SPT_DROPS_OVF (n : Nat) : Fld := ⟨SPT_DROPS n, 31, 1⟩
def SPT_DROPS_COUNT (n : Nat) : Fld := ⟨SPT_DROPS n, 0, 31⟩
def SPT_UNDER (n : Nat) : Nat := 0x4014001C + n * 0x40
def SPT_UNDER_OVF (n : Nat) : Fld := ⟨SPT_UNDER n, 31, 1⟩
def SPT_UNDER_COUNT (n : Nat) : Fld := ⟨SPT_UNDER n, 0, 31⟩
def SPT_CLKLOSS (n : Nat) : Nat := 0x40140020 + n * 0x40
def SPT_CLKLOSS_OVF (n : Nat) : Fld := ⟨SPT_CLKLOSS n, 31, 1⟩
def SPT_CLKLOSS_COUNT (n : Nat) : Fld := ⟨SPT_CLKLOSS n, 0, 31⟩
def SPT_MEASURE (n : Nat) : Nat := 0x40140024 + n * 0x40
def SPT_MEASURE_RATE_HZ (n : Nat) : Fld := ⟨SPT_MEASURE n, 8, 24⟩
def SPT_MEASURE_HALF (n : Nat) : Fld := ⟨SPT_MEASURE n, 0, 7⟩
def SPT_EVENT : Nat := 0x40140200
def SPT_EVENT_ALL : Fld := ⟨SPT_EVENT, 0, 4⟩

-- Pin: chapter 17
def PIN_BANK_CFG (b : Nat) : Nat := 0x40150000 + b * 0x100
def PIN_BANK_CFG_MODE (b : Nat) : Fld := ⟨PIN_BANK_CFG b, 0, 1⟩
def PIN_CLAIM (b : Nat) : Nat := 0x40150004 + b * 0x100
def PIN_CLAIM_EN (b : Nat) : Fld := ⟨PIN_CLAIM b, 2, 8⟩
def PIN_CONFLICT (b : Nat) : Nat := 0x40150008 + b * 0x100
def PIN_CONFLICT_LOST (b : Nat) : Fld := ⟨PIN_CONFLICT b, 0, 32⟩
def PIN_EFF (b j : Nat) : Nat := 0x40150010 + b * 0x100 + j * 0x4
def PIN_EFF_ALL (b j : Nat) : Fld := ⟨PIN_EFF b j, 0, 32⟩
def PIN_GPIO_OUT (b : Nat) : Nat := 0x40150020 + b * 0x100
def PIN_GPIO_OUT_PINS (b : Nat) : Fld := ⟨PIN_GPIO_OUT b, 0, 32⟩
def PIN_GPIO_OE (b : Nat) : Nat := 0x40150024 + b * 0x100
def PIN_GPIO_OE_PINS (b : Nat) : Fld := ⟨PIN_GPIO_OE b, 0, 32⟩
def PIN_GPIO_IN (b : Nat) : Nat := 0x40150028 + b * 0x100
def PIN_GPIO_IN_PINS (b : Nat) : Fld := ⟨PIN_GPIO_IN b, 0, 32⟩
def PIN_EVT_SEL (b j : Nat) : Nat := 0x40150030 + b * 0x100 + j * 0x4
def PIN_EVT_SEL_ALL (b j : Nat) : Fld := ⟨PIN_EVT_SEL b j, 0, 32⟩
def PIN_CFG (b i : Nat) : Nat := 0x40150080 + b * 0x100 + i * 0x4
def PIN_CFG_MUX (b i : Nat) : Fld := ⟨PIN_CFG b i, 0, 4⟩
def PIN_CFG_MERGE (b i : Nat) : Fld := ⟨PIN_CFG b i, 4, 4⟩
def PIN_CFG_DRIVE (b i : Nat) : Fld := ⟨PIN_CFG b i, 8, 2⟩
def PIN_CFG_SLEW (b i : Nat) : Fld := ⟨PIN_CFG b i, 10, 1⟩
def PIN_CFG_PULL (b i : Nat) : Fld := ⟨PIN_CFG b i, 11, 2⟩
def PIN_CFG_OD (b i : Nat) : Fld := ⟨PIN_CFG b i, 13, 1⟩
def PIN_CFG_SCHMITT (b i : Nat) : Fld := ⟨PIN_CFG b i, 15, 1⟩
def PIN_CFG_WATCH (b i : Nat) : Fld := ⟨PIN_CFG b i, 16, 2⟩
def PIN_CFG_WPULL (b i : Nat) : Fld := ⟨PIN_CFG b i, 18, 2⟩
def PIN_STATUS : Nat := 0x40150800
def PIN_STATUS_MODES : Fld := ⟨PIN_STATUS, 16, 6⟩
def PIN_STATUS_CFG_DONE : Fld := ⟨PIN_STATUS, 8, 6⟩
def PIN_STATUS_IO_OK : Fld := ⟨PIN_STATUS, 0, 6⟩
def PIN_EVENT : Nat := 0x40150804
def PIN_EVENT_ALL : Fld := ⟨PIN_EVENT, 0, 3⟩

-- Bin: chapter 18
def BIN_CFG : Nat := 0x40160000
def BIN_CFG_IRQ_OD : Fld := ⟨BIN_CFG, 1, 1⟩
def BIN_CFG_PAR_CHECK : Fld := ⟨BIN_CFG, 0, 1⟩
def BIN_STATUS : Nat := 0x40160004
def BIN_STATUS_WQ_USED : Fld := ⟨BIN_STATUS, 16, 5⟩
def BIN_STATUS_CODE : Fld := ⟨BIN_STATUS, 10, 2⟩
def BIN_STATUS_AP_BUSY : Fld := ⟨BIN_STATUS, 8, 1⟩
def BIN_STATUS_MIRROR_LIVE : Fld := ⟨BIN_STATUS, 7, 1⟩
def BIN_STATUS_SHADOW_ECC : Fld := ⟨BIN_STATUS, 4, 1⟩
def BIN_STATUS_WERR : Fld := ⟨BIN_STATUS, 3, 1⟩
def BIN_STATUS_WQ_OVF : Fld := ⟨BIN_STATUS, 2, 1⟩
def BIN_STATUS_PAR_W : Fld := ⟨BIN_STATUS, 1, 1⟩
def BIN_IRQ_EN : Nat := 0x40160008
def BIN_IRQ_EN_EN : Fld := ⟨BIN_IRQ_EN, 0, 16⟩
def BIN_IRQ_STATUS : Nat := 0x4016000C
def BIN_IRQ_STATUS_EVT : Fld := ⟨BIN_IRQ_STATUS, 8, 8⟩
def BIN_IRQ_STATUS_SHADOW_ECC : Fld := ⟨BIN_IRQ_STATUS, 6, 1⟩
def BIN_IRQ_STATUS_HEALTH_LOW : Fld := ⟨BIN_IRQ_STATUS, 5, 1⟩
def BIN_IRQ_STATUS_DOORBELL : Fld := ⟨BIN_IRQ_STATUS, 4, 1⟩
def BIN_IRQ_STATUS_IND_DONE : Fld := ⟨BIN_IRQ_STATUS, 3, 1⟩
def BIN_IRQ_STATUS_WERR : Fld := ⟨BIN_IRQ_STATUS, 2, 1⟩
def BIN_IRQ_STATUS_WQ_OVF : Fld := ⟨BIN_IRQ_STATUS, 1, 1⟩
def BIN_IRQ_STATUS_PARITY : Fld := ⟨BIN_IRQ_STATUS, 0, 1⟩
def BIN_IRQ_SEL (j : Nat) : Nat := 0x40160010 + j * 0x4
def BIN_IRQ_SEL_ALL (j : Nat) : Fld := ⟨BIN_IRQ_SEL j, 0, 32⟩
def BIN_PAR_ADDR : Nat := 0x40160018
def BIN_PAR_ADDR_VALID : Fld := ⟨BIN_PAR_ADDR, 31, 1⟩
def BIN_PAR_ADDR_LANES : Fld := ⟨BIN_PAR_ADDR, 16, 4⟩
def BIN_PAR_ADDR_BN_A : Fld := ⟨BIN_PAR_ADDR, 0, 16⟩
def BIN_WERR_ADDR : Nat := 0x4016001C
def BIN_WERR_ADDR_ADDR : Fld := ⟨BIN_WERR_ADDR, 0, 32⟩
def BIN_WDROPS : Nat := 0x40160020
def BIN_WDROPS_OVF : Fld := ⟨BIN_WDROPS, 31, 1⟩
def BIN_WDROPS_COUNT : Fld := ⟨BIN_WDROPS, 0, 31⟩
def BIN_PARERRS : Nat := 0x40160024
def BIN_PARERRS_OVF : Fld := ⟨BIN_PARERRS, 31, 1⟩
def BIN_PARERRS_COUNT : Fld := ⟨BIN_PARERRS, 0, 31⟩
def BIN_IND_ADDR : Nat := 0x40160030
def BIN_IND_ADDR_ALL : Fld := ⟨BIN_IND_ADDR, 0, 32⟩
def BIN_IND_WDATA : Nat := 0x40160034
def BIN_IND_WDATA_ALL : Fld := ⟨BIN_IND_WDATA, 0, 32⟩
def BIN_IND_CMD : Nat := 0x40160038
def BIN_IND_CMD_STROBE : Fld := ⟨BIN_IND_CMD, 4, 4⟩
def BIN_IND_CMD_OP : Fld := ⟨BIN_IND_CMD, 0, 2⟩
def BIN_IND_RDATA : Nat := 0x4016003C
def BIN_IND_RDATA_ALL : Fld := ⟨BIN_IND_RDATA, 0, 32⟩
def BIN_IND_STATUS : Nat := 0x40160040
def BIN_IND_STATUS_BUSY : Fld := ⟨BIN_IND_STATUS, 31, 1⟩
def BIN_IND_STATUS_DONE : Fld := ⟨BIN_IND_STATUS, 30, 1⟩
def BIN_IND_STATUS_BUSY_ERR : Fld := ⟨BIN_IND_STATUS, 29, 1⟩
def BIN_IND_STATUS_RESP : Fld := ⟨BIN_IND_STATUS, 0, 2⟩
def BIN_AP (a : Nat) : Nat := 0x40160100 + a * 0x4
def BIN_AP_BASE (a : Nat) : Fld := ⟨BIN_AP a, 12, 20⟩

-- Mon: chapter 19
def MON_CFG : Nat := 0x40170000
def MON_CFG_IDLE : Fld := ⟨MON_CFG, 24, 8⟩
def MON_CFG_ECHO : Fld := ⟨MON_CFG, 23, 1⟩
def MON_CFG_BAUD : Fld := ⟨MON_CFG, 0, 22⟩
def MON_STATUS : Nat := 0x40170004
def MON_STATUS_RUN : Fld := ⟨MON_STATUS, 31, 1⟩
def MON_STATUS_CONTROL : Fld := ⟨MON_STATUS, 30, 1⟩
def MON_STATUS_LOCKED : Fld := ⟨MON_STATUS, 29, 1⟩
def MON_STATUS_CHALLENGE : Fld := ⟨MON_STATUS, 28, 1⟩
def MON_STATUS_SOURCE : Fld := ⟨MON_STATUS, 26, 2⟩
def MON_STATUS_LAST_ERR : Fld := ⟨MON_STATUS, 0, 8⟩
def MON_LOGIN_COUNT : Nat := 0x40170008
def MON_LOGIN_COUNT_FAIL_OVF : Fld := ⟨MON_LOGIN_COUNT, 31, 1⟩
def MON_LOGIN_COUNT_FAIL : Fld := ⟨MON_LOGIN_COUNT, 16, 15⟩
def MON_LOGIN_COUNT_OK_OVF : Fld := ⟨MON_LOGIN_COUNT, 15, 1⟩
def MON_LOGIN_COUNT_OK : Fld := ⟨MON_LOGIN_COUNT, 0, 15⟩
def MON_CMD_COUNT : Nat := 0x4017000C
def MON_CMD_COUNT_COUNT : Fld := ⟨MON_CMD_COUNT, 0, 32⟩
def MON_REFUSED : Nat := 0x40170010
def MON_REFUSED_OVF : Fld := ⟨MON_REFUSED, 31, 1⟩
def MON_REFUSED_COUNT : Fld := ⟨MON_REFUSED, 0, 31⟩
def MON_RX_DROPS : Nat := 0x40170014
def MON_RX_DROPS_OVF : Fld := ⟨MON_RX_DROPS, 31, 1⟩
def MON_RX_DROPS_COUNT : Fld := ⟨MON_RX_DROPS, 0, 31⟩
def MON_EVENT : Nat := 0x40170018
def MON_EVENT_ALL : Fld := ⟨MON_EVENT, 0, 4⟩
def MON_CTRL : Nat := 0x4017001C
def MON_CTRL_KEY : Fld := ⟨MON_CTRL, 16, 16⟩
def MON_CTRL_END_CONTROL : Fld := ⟨MON_CTRL, 0, 1⟩

-- Grd: chapter 20
def GRD_CFG : Nat := 0x40040000
def GRD_CFG_HOLD_MS : Fld := ⟨GRD_CFG, 0, 8⟩
def GRD_STATUS : Nat := 0x40040004
def GRD_STATUS_IN_FORCE : Fld := ⟨GRD_STATUS, 31, 1⟩
def GRD_STATUS_HEALTH : Fld := ⟨GRD_STATUS, 30, 1⟩
def GRD_STATUS_GUARDED : Fld := ⟨GRD_STATUS, 29, 1⟩
def GRD_STATUS_SELFTEST_PASS : Fld := ⟨GRD_STATUS, 28, 1⟩
def GRD_STATUS_PULSE : Fld := ⟨GRD_STATUS, 27, 1⟩
def GRD_STATUS_FENCED : Fld := ⟨GRD_STATUS, 0, 3⟩
def GRD_FIRST : Nat := 0x40040008
def GRD_FIRST_VALID : Fld := ⟨GRD_FIRST, 31, 1⟩
def GRD_FIRST_BLOCK : Fld := ⟨GRD_FIRST, 24, 5⟩
def GRD_FIRST_N : Fld := ⟨GRD_FIRST, 16, 6⟩
def GRD_FIRST_INSTANCE : Fld := ⟨GRD_FIRST, 0, 16⟩
def GRD_LAST : Nat := 0x4004000C
def GRD_LAST_BLOCK : Fld := ⟨GRD_LAST, 24, 5⟩
def GRD_LAST_N : Fld := ⟨GRD_LAST, 16, 6⟩
def GRD_LAST_INSTANCE : Fld := ⟨GRD_LAST, 0, 16⟩
def GRD_LAST_VALID : Fld := ⟨GRD_LAST, 31, 1⟩
def GRD_PENDING_LO : Nat := 0x40040010
def GRD_PENDING_LO_BITS : Fld := ⟨GRD_PENDING_LO, 0, 32⟩
def GRD_PENDING_HI : Nat := 0x40040014
def GRD_PENDING_HI_BITS : Fld := ⟨GRD_PENDING_HI, 0, 32⟩
def GRD_DEGRADED_LO : Nat := 0x40040018
def GRD_DEGRADED_LO_BITS : Fld := ⟨GRD_DEGRADED_LO, 0, 32⟩
def GRD_DEGRADED_HI : Nat := 0x4004001C
def GRD_DEGRADED_HI_BITS : Fld := ⟨GRD_DEGRADED_HI, 0, 32⟩
def GRD_CMD : Nat := 0x40040020
def GRD_CMD_KEY : Fld := ⟨GRD_CMD, 16, 16⟩
def GRD_CMD_CLASS : Fld := ⟨GRD_CMD, 8, 6⟩
def GRD_CMD_OP : Fld := ⟨GRD_CMD, 0, 2⟩
def GRD_SELFTEST : Nat := 0x40040024
def GRD_SELFTEST_DONE : Fld := ⟨GRD_SELFTEST, 8, 4⟩
def GRD_SELFTEST_PASS : Fld := ⟨GRD_SELFTEST, 0, 4⟩
def GRD_CNT_MASKED : Nat := 0x40040028
def GRD_CNT_MASKED_OVF : Fld := ⟨GRD_CNT_MASKED, 31, 1⟩
def GRD_CNT_MASKED_COUNT : Fld := ⟨GRD_CNT_MASKED, 0, 31⟩
def GRD_CNT_DETECTED : Nat := 0x4004002C
def GRD_CNT_DETECTED_OVF : Fld := ⟨GRD_CNT_DETECTED, 31, 1⟩
def GRD_CNT_DETECTED_COUNT : Fld := ⟨GRD_CNT_DETECTED, 0, 31⟩
def GRD_CNT_REPEATS : Nat := 0x40040030
def GRD_CNT_REPEATS_OVF : Fld := ⟨GRD_CNT_REPEATS, 31, 1⟩
def GRD_CNT_REPEATS_COUNT : Fld := ⟨GRD_CNT_REPEATS, 0, 31⟩
def GRD_EVENT : Nat := 0x40040034
def GRD_EVENT_EVENTS : Fld := ⟨GRD_EVENT, 0, 8⟩

-- Wear: chapter 21
def WEAR_CFG : Nat := 0x40005000
def WEAR_CFG_MEAS_H : Fld := ⟨WEAR_CFG, 24, 8⟩
def WEAR_CFG_LIMIT_PPM : Fld := ⟨WEAR_CFG, 0, 16⟩
def WEAR_CMD : Nat := 0x40005004
def WEAR_CMD_KEY : Fld := ⟨WEAR_CMD, 16, 16⟩
def WEAR_CMD_MEASURE : Fld := ⟨WEAR_CMD, 0, 1⟩
def WEAR_STATUS : Nat := 0x40005008
def WEAR_STATUS_BUSY : Fld := ⟨WEAR_STATUS, 31, 1⟩
def WEAR_STATUS_NO_COUNT : Fld := ⟨WEAR_STATUS, 16, 1⟩
def WEAR_STATUS_ALARM : Fld := ⟨WEAR_STATUS, 0, 16⟩
def WEAR_COUNT : Nat := 0x4000500C
def WEAR_COUNT_OVF : Fld := ⟨WEAR_COUNT, 31, 1⟩
def WEAR_COUNT_COUNT : Fld := ⟨WEAR_COUNT, 0, 24⟩
def WEAR_TJ_HOURS (j : Nat) : Nat := 0x40005010 + j * 0x4
def WEAR_TJ_HOURS_OVF (j : Nat) : Fld := ⟨WEAR_TJ_HOURS j, 31, 1⟩
def WEAR_TJ_HOURS_COUNT (j : Nat) : Fld := ⟨WEAR_TJ_HOURS j, 0, 24⟩
def WEAR_EQ_HOURS : Nat := 0x40005020
def WEAR_EQ_HOURS_OVF : Fld := ⟨WEAR_EQ_HOURS, 31, 1⟩
def WEAR_EQ_HOURS_COUNT : Fld := ⟨WEAR_EQ_HOURS, 0, 31⟩
def WEAR_PAIR (r : Nat) : Nat := 0x40005040 + r * 0x4
def WEAR_PAIR_SHIFT (r : Nat) : Fld := ⟨WEAR_PAIR r, 16, 16⟩
def WEAR_PAIR_TJ (r : Nat) : Fld := ⟨WEAR_PAIR r, 8, 8⟩
def WEAR_PAIR_VALID (r : Nat) : Fld := ⟨WEAR_PAIR r, 0, 1⟩

end Sys2Proof.Machine
end

