-- ==== Sys2Proof/Machine/ResetRegs.lean ====
section
/-!
DEFINITION. The reset columns of the register tables: every register whose value after PORST_N, or after the first supply of the
Watch domain, is not 0 (R19, R65, R100, R148, R829).
-/
namespace Sys2Proof.Machine

/-- The reset apertures (Table BIN-2), aperture and page. -/
def resetApertures : List (Nat × Nat) :=
  [(2, 0x40000000), (3, 0x40004000), (4, 0x40008000), (5, 0x40010000), (6, 0x40020000), (7, 0x40030000), (8, 0x40040000),
   (17, 0x40188000), (18, 0x40170000)] ++ (List.range 8).map fun i => (9 + i, 0x40180000 + i * 4096)

/-- Registers whose reset column is not 0, outside the Watch domain: value by address. -/
def resetRegs : Cells 32 :=
  [(SYS_ID, 0x064000B0#32), (SYS_SERVICE, 3#32), (PWR_STATE, 1#32), (PWR_RAILS, 3#32)] ++
  ((List.range 11).map fun n => (PLL_STATUS n, 0x40000000#32)) ++
  ((List.range 24).map fun n => (LNK_TXTS_TAG n, 0x80000000#32)) ++
  [(BRG_STATUS, 0xFF04#32), (SMP_RF_MAP, 0x00703210#32), (SMP_LINE_MAP, 0x00007710#32)] ++
  ((List.range 8).map fun d => (DDC_POWER d, 0x0000FFFF#32)) ++
  ((List.range 2).map fun r => (RX_STATUS r, 0x20000000#32)) ++
  [(BIN_CFG, 1#32), (BIN_IRQ_EN, 0x6F#32)] ++ (resetApertures.map fun p => (BIN_AP p.1, BitVec.ofNat 32 p.2)) ++
  [(MON_CFG, 0x0581C200#32)]

/-- Registers of the Watch domain whose reset column is not 0; PORST_N leaves the Watch domain as it is. -/
def watchResetRegs : Cells 32 :=
  [(WCH_STATUS, 0x00001A00#32), (WCH_TRIM, 0x00010000#32), (HRV_CFG, 0x00032001#32), (HRV_THRESH, 0x00C86E82#32)]

/-- The register file with `xs` written into it. -/
def putAll (m : Cells 32) (xs : Cells 32) : Cells 32 := xs.foldl (fun m c => cellWrite m c.1 c.2) m

end Sys2Proof.Machine
end

