-- ==== Sys2Proof/Machine/Blocks.lean ====
section
/-!
DEFINITION. The hidden state of each block, one structure per block: what no register shows. With each structure stands its value
when nothing has happened to the block yet.
-/
namespace Sys2Proof.Machine

/-- The device states of R67. -/
inductive DevState where
  | off | loading | halted | running | draining | watch
deriving DecidableEq, Repr

/-- One beat of a stream port: DATA, LAST and USER (R30, R33). -/
structure Beat where
  data : BitVec 128
  last : Bool
  user : BitVec 64
deriving DecidableEq, Repr

/-- A stream port: the source's unspent credits, and the beats that wait in the hard block's buffer to cross, oldest first (R31, R32). -/
structure StreamPort where
  credits : Nat
  buf : List Beat
deriving DecidableEq, Repr

/-- A port with no credit and no beat. -/
def StreamPort.idle : StreamPort := { credits := 0, buf := [] }

/-- What left the die, or completed toward the fabric, by the last command; the list starts empty at every command. -/
inductive Out where
  /-- 8b/10b code groups on a serial lane, as its pins carry them. -/
  | codes (lane : Nat) (groups : List (BitVec 10))
  /-- 64b/66b blocks on a serial lane, the bit sent first in bit 0. -/
  | blocks (lane : Nat) (blocks : List (BitVec 66))
  /-- Bits of the PRBS generator on a serial lane. -/
  | prbs (lane : Nat) (bits : List Bool)
  /-- A beat that crosses a stream port toward the fabric. -/
  | beat (port : Nat) (beat : Beat)
  /-- An Ethernet frame released whole on a lane's receive port, with its timestamp. -/
  | ethUnit (lane len sec ns fns : Nat)
  /-- An Ethernet frame sent on a lane, with its TAG. -/
  | ethSent (lane : Nat) (frame : List Byte) (tag : Nat)
  /-- A Bearing frame sent on a port. -/
  | brgFrame (port : Nat) (bytes : List Byte)
  /-- A Bearing payload delivered on a class port: source, channel, path and sequence number in USER. -/
  | brgUnit (cls src channel path seq : Nat) (payload : List Byte)
  /-- The result of a direct request on the page interface (R499): its data in 128-bit beats, tag and IV. -/
  | pageData (page : Nat) (beats : List (BitVec 128)) (tag iv : Nat)
  /-- The end of a direct request on the page interface: page, status, reason, counter value used. -/
  | pageDone (page status reason n : Nat)
  /-- An access presented on the FS slave port (R262): write enable, 24-bit byte offset, data, strobes. -/
  | fsRequest (write : Bool) (offset : BitVec 24) (data : Word) (strobe : BitVec 4)
  /-- A completion of the Bearing transmit side: class, tag, status. -/
  | brgDone (cls tag status : Nat)
  /-- A response of the register bus or of the Binnacle port to its master: response code and data. -/
  | resp (master code : Nat) (data : Word)
  /-- The data the Binnacle port drives with its byte parity. -/
  | bnData (data : Word) (parity : BitVec 4)
  /-- Text of the Watchkeeper. -/
  | text (line : String)
  /-- The characters of a command line, echoed as they were received (R838). -/
  | echo
  /-- Bytes of the Watchkeeper that are not fixed text. -/
  | textBytes (bytes : List Byte)
  /-- What a block answers to a hard client: block number, channel, words. -/
  | unit (block channel : Nat) (words : List Nat)
  /-- The symbols of a line-modem burst or block that starts, before normalising: channel, (I, Q) levels. -/
  | lmdAir (t : Nat) (symbols : List (Int × Int))
  /-- A completion of the line-modem transmit queue: channel, TAG, SEQ, STATUS. -/
  | lmdDone (t tag seq status : Nat)
  /-- The samples of a line-modem burst or block behind the TX FIR, eight a symbol (R666). -/
  | lmdFir (t : Nat) (samples : List (Int × Int))
  /-- The code of a line DAC channel at a DAC instant (R536, R538). -/
  | dac (channel : Nat) (code : BitVec 16)
  /-- A completion of a sample-port start: port, status. -/
  | sptDone (port status : Nat)
  /-- A frame that an output sample port sends: whether SD changes on the falling edge of BCK, and the bits of its two half-frames. -/
  | sptBits (port : Nat) (falling : Bool) (bits : List Bool)
  /-- An operation of the configuration memory: OP, byte address, data (R198). -/
  | nvm (op addr : Nat) (data : List Byte)
  /-- A time message for the Fix selector or the fabric: seconds, nanoseconds. -/
  | timeMsg (context sec ns : Nat)
deriving DecidableEq, Repr

/-- An event-log entry that waits to be written (Table WCH-1 without SEQ and CRC, which the write gives it). -/
structure LogItem where
  code : Nat
  block : Nat
  inst : Nat
  detail : Nat
  sec : Nat
  ns : Nat
  timeValid : Bool
  supply : Nat
  state : Nat
  /-- The tick of the event, and the tick in which the entry is ready to be written to storage (R119, R143). -/
  raised : Nat
  ready : Nat
deriving DecidableEq, Repr

/-- Hidden state of the Watch domain and the harvester. -/
structure WchState where
  /-- The Watch domain has supply. -/
  up : Bool
  /-- Watch time copy A: seconds, nanoseconds, 6-bit fraction (R102, R103). -/
  aSec : Nat
  aNs : Nat
  aFrac : Nat
  /-- Watch time copy B (R105). -/
  bSec : Nat
  bNs : Nat
  bFrac : Nat
  /-- Ticks since the last trim second began, for the even spread of R104. -/
  tick : Nat
  /-- Ticks since the wake timer last counted, 0 to 127 (R123). -/
  timerPre : Nat
  /-- A COMMIT waits for its tick (R111). -/
  commit : Bool
  /-- Snapshots per reading master: seconds in [79:32], nanoseconds in [31:0] (R112). -/
  snaps : Cells 80
  /-- Entries the watch controller holds, oldest first, at most four (R119). -/
  logq : List LogItem
  /-- The first tick in which one more of its entries can be ready: it writes at most one per tick (R119). -/
  logNext : Nat
  /-- Codes that have appeared since the pinned area was last cleared (R116). -/
  seen : List Nat
  /-- A tamper erase waits for the security domain (R122). -/
  erase : Bool
  /-- STORE_LOW has been logged for the present shortage (R127). -/
  storeLow : Bool
  /-- The rectifier's input set point in mV (R134). -/
  rectMv : Nat
  /-- Crystal corrections measured in the last 64 s, newest first, each with the device-time second that measured it (R107). -/
  offsets : List (Nat × Int)
  /-- The device-time second of the last alignment, while nothing but the crystal has moved watch time since. -/
  aligned : Option Nat
  /-- The tick of the last write of WCH_WAKE_TIMER, plus 1 (R145). -/
  timerAt : Nat
  /-- TIME_CHECK or XTAL_FAIL detections that become pending at the next fabric release (R876). -/
  late : List Nat
deriving DecidableEq, Repr

/-- Hidden state of the guarantee unit. -/
structure GrdState where
  /-- Bit n: a pulse of code n runs (R879). -/
  pulses : BitVec 64
  /-- The tick at which the last entry of code n was made, plus 1 (R875). -/
  lastEntry : Cells 64
  /-- Latched reports that no CLEAR has removed: code and INSTANCE, newest first (R881). -/
  insts : List (Nat × Nat)
  /-- Code and tick of the last report (R877). -/
  lastReport : Option (Nat × Nat)
  /-- Code and tick of the last report whose code differs from the last report's (R877). -/
  otherReport : Option (Nat × Nat)
  /-- The 16-entry buffer toward the log, oldest first (R118). -/
  logq : List LogItem
  /-- Bit c: copy c is being resynchronised (R867). -/
  resync : BitVec 3
  /-- The tick at which copy c's last resynchronisation ended. -/
  resyncEnd : List (Option Nat)
  /-- The level that the HEALTH pad is held at against the die's drive, where it was last seen to disagree (R885). -/
  pad : Option Bool
  /-- Bit i: temperature sensor i is outside its range (R872). -/
  tempOut : BitVec 16
  /-- Bit i: PWR_RAILS rail i has been within its limits since the last load (R871). -/
  railSeen : BitVec 14
deriving DecidableEq, Repr

/-- The register bus's last completion per master (R27): response code and read data. -/
structure BusState where
  resp : Cells 2
  data : Cells 32
  /-- Masters whose FS access waits for the fabric's acknowledge (R25, R262): address, write flag and data in `fs`. -/
  fs : List (Nat × Bool × Nat × Word)
deriving DecidableEq, Repr

/-- Hidden state of the power controller (the states and the wake timeline of the power chapter). -/
structure PwrState where
  /-- PORST_N is high. -/
  porst : Bool
  /-- MODE[2:0] and MON_EN at the pins. -/
  mode : BitVec 3
  monEn : Bool
  /-- The drain that runs: none, 1 before the Watch state, 2 before a reload (R73, R186). -/
  drain : Nat
  /-- The reload that a drain leads to or that is held from a Watch drain: 0 none, 1 primary, 2 golden (R96). -/
  reload : Nat
  /-- RELOAD_N is held low after a request (R191). -/
  reloadLow : Bool
  /-- The Watch state is being left through Loading (R89). -/
  leaving : Bool
  /-- WATCH_N is low. -/
  watchNLow : Bool
  /-- The VMON comparator is in its low state (R72). -/
  vmonLow : Bool
  /-- VMON has stayed low for FILTER_US since it fell. -/
  vmonFiltered : Bool
  /-- Phase of the wake timeline: 0 none, 1 to 4 the phases of Table PWR-5, 5 the padding. -/
  wake : Nat
  /-- Wake causes that are present, bits as PWR_WAKE_CFG: 0 WATCH_N rising, 1 VMON rising, 2 timer, 3 tamper. -/
  causes : BitVec 4
  /-- Line 0 WATCH_PENDING and line 1 WAKE_DONE (Table ARCH-15). -/
  watchPending : Bool
  wakeDone : Bool
  /-- The phase of the wake timeline whose lateness has been reported (R87). -/
  lateAt : Nat
  /-- The grace time of the drain has ended, so the fabric clocks have stopped (R73). -/
  graceOver : Bool
  /-- The levels that the event lines had at the retention switch, which they keep in the Watch state (R58). -/
  lines : BitVec 256
  /-- Domains (bit 0 lane, bit 1 radio) whose registers a loss of supply has returned to reset, so that the next start applies their
  image settings (R65, R940). -/
  stale : BitVec 2
deriving DecidableEq, Repr

/-- Hidden state of the fabric, its configuration frames and the scrubber. -/
structure FabState where
  /-- Data bits of the configuration frames as they were written, by frame address (R167, R168). -/
  frames : Cells 2048
  /-- Wrong bits of frames: data bits below 2,048, then eight check bits per code (R282). -/
  upsets : Cells 2112
  /-- Correction writes that are pending: frame address, the wrong bits they leave, CODES (R283, R284). -/
  fixes : List (Nat × BitVec 2112 × Nat)
  /-- SCR_CTRL as the present critical period took it (R288, R310). -/
  ctrl : Word
  /-- Regions whose critical pass of this period is unfinished, and whose standard pass is (R286, R287). -/
  critLeft : List Nat
  stdLeft : List Nat
  /-- Regions that a late critical pass has still to read before (R292). -/
  critLate : List Nat
  /-- The next slot of the critical period, 0 to 21,999 (R280). -/
  slot : Nat
  /-- The frame after the last one that the critical and the standard pass have read, and the slots since each pass began (R286, R290). -/
  critAt : Nat
  stdAt : Nat
  critSlots : Nat
  stdSlots : Nat
  /-- Frames that partial loads have written since the standard pass began (R291). -/
  prSince : Nat
  /-- Frames reported uncorrectable and regions reported by CRC that have not been rewritten since (Table GRD-2). -/
  uncorr : List Nat
  badCrc : BitVec 16
  /-- Bit r: region r is isolated for a partial load (R299). -/
  isolated : BitVec 16
  /-- Bit 48r + l: the flip-flops of region r on line l, 0 to 31 global and 32 + j regional, have not passed the 8th edge since their
  release (R275, R277). -/
  holds : BitVec 768
  /-- SEL of the 32 global multiplexers, and CE of the 32 global lines and of the regional lines, 32 + 16r + j (R257). -/
  sel : BitVec 32
  ce : BitVec 288
  /-- Paired cells reported as differing, and the levels that SAFE0 and SAFE1 force (R224): region × 2^17 + tile × 8 + cell. -/
  differ : List Nat
  forced : List (Nat × Bool)
deriving DecidableEq, Repr

/-- The contents of the fabric's resources. In `bramOut`, `deepOut`, `slices` and `cross` the top bit of a cell marks a value that has been
driven since the region's release. -/
structure LogicState where
  /-- Flip-flops, 2 × cell key + 1 for FFB: 0 stands for INIT, 2 + v for the value v (R220, R275). -/
  ff : Cells 2
  /-- Boundary crossings, (region × 4 + direction) × 4,096 + wire (R227). -/
  cross : Cells 2
  /-- Block-memory rows as written, and wrong bits of E64 words: memory × 1,024 + row, memory = region × 288 + number (R229). -/
  bram : Cells 72
  bramBad : Cells 72
  /-- Read data of the ports with SBE and DBE above, 4 × memory + 2 × port, plus 1 for the output register (R231). -/
  bramOut : Cells 75
  /-- The next word of each region's block-memory sweep, and its corrections that wait for their slot: word key and word (R236, R268). -/
  bramPos : Cells 19
  bramFix : List (Nat × BitVec 64)
  /-- Wrong bits of deep-memory words: bank × 32,768 + word (R238). -/
  deepBad : Cells 72
  /-- The last three reads of port U with SBE and DBE above, 4 × bank + stage (R238). -/
  deepOut : Cells 67
  /-- Each bank's cycle of 64, the next word of its sweep, and the corrections that wait for their slot (R241). -/
  deepCyc : Cells 6
  deepPos : Cells 15
  deepFix : List (Nat × BitVec 64)
  /-- Slice stages, 8 × slice + stage: 0 X, 1 Y, 2 Z, 3 W, 4 presum, 5 product, 6 ACC, 7 the flags PSAT, OVF, RSAT (R250 to R253). -/
  slices : Cells 65
deriving DecidableEq, Repr

/-- Every flip-flop at INIT, every memory zero with valid ECC, every sweep at word 0 (R247, R275, R276). -/
def LogicState.fresh : LogicState where
  ff := []
  cross := []
  bram := []
  bramBad := []
  bramOut := []
  bramPos := []
  bramFix := []
  deepBad := []
  deepOut := []
  deepCyc := []
  deepPos := []
  deepFix := []
  slices := []

/-- Hidden state of one PLL: the settings it last applied with the feedback ratio in units of 2^-24, an APPLY that waits for its lock, and a
relock to which HOLD_MUTE applies (R317, R331, R338). -/
structure Pll where
  cfg : Word
  freq : Word
  div : Word
  ratio : Nat
  applying : Bool
  held : Bool
deriving DecidableEq, Repr

/-- Hidden state of the PLLs and their references. -/
structure PllState where
  pll : Vector Pll 11
  /-- FPLL0 runs on the factory load band (R344). -/
  loadBand : Bool
  /-- Bit r: reference r is qualified: 0 OSC_LOCAL_IN, 1–4 LREF0–3, 5 REF10M_IN (R333). -/
  refs : BitVec 6
  /-- The LREF that each LPLL takes: 0 the lower group's, 1 the upper group's (R391). -/
  useRef : Vector Nat 2
  /-- OSC_LOCAL_IN as measured before PLL_OSC_KHZ takes effect (R333). -/
  oscKhz : Nat
deriving DecidableEq, Repr

/-- Hidden state of the Fix selector. -/
structure FixState where
  /-- Device time: seconds, nanoseconds, and a fraction in 2^-32 ns (R346, R347). The three voting copies agree between
  commands (R348). -/
  sec : Nat
  ns : Nat
  frac : Nat
  /-- Snapshots per reading master: seconds [95:48], nanoseconds [47:16], FNS [15:0] (R349). -/
  snaps : Cells 96
  /-- Offsets of sources 1 to 4 in units of 1/16,000 ns, kept current as device time slews (R355). -/
  ofs : List Int
  /-- The last offset that each of sources 1 to 4 gave, and the steering words of the milliseconds since then added up (Table FIX-1). -/
  last : List Int
  steered : List Int
  /-- Bit n-1: source n has given an offset since it last became valid, so that the jump check applies (Table FIX-1). -/
  seen : BitVec 4
  /-- The hold of one qualification time after a selection runs (R362). -/
  hold : Bool
  /-- The returning source of a freeze has become invalid (R372). -/
  candLost : Bool
  /-- Sum and count of the steering words of the second now being averaged (R368). -/
  lockSum : Int
  lockCnt : Nat
  /-- Means of whole LOCKED seconds, newest first, at most 255 (R368). -/
  hist : List Int
  /-- OSC_LOCAL_IN drives device time (R382). -/
  oscOk : Bool
  /-- A pulse of PPS_OUT runs (R375). -/
  pps : Bool
deriving DecidableEq, Repr

/-- A pending rewrite of a key slot (Table CPH-2). -/
structure ShadowKey where
  key : List Byte
  modebind : Nat
  pages : Nat
  ctrw : Nat
deriving DecidableEq, Repr

/-- A key slot (Table CPH-2). H is AES(K, 0) and is computed where it is used. -/
structure Slot where
  key : List Byte
  modebind : Nat
  pages : Nat
  gen : Nat
  ctrw : Nat
  ctr : Nat
  valid : Bool
  exhausted : Bool
  shadow : Option ShadowKey
deriving DecidableEq, Repr

/-- A request of the cipher engine: direct (one per page) or a queue entry (Table CPH-6). -/
structure CphReq where
  direct : Bool
  page : Nat
  /-- Queue entry number, for Q_ENTRYe. -/
  entry : Nat
  op : Nat
  slot : Nat
  gen : Nat
  genChk : Bool
  guard : Bool
  tag : Nat
  tagLen : Nat
  len : Nat
  aadLen : Nat
  src : Nat
  dst : Nat
  aad : Nat
  tagAddr : Nat
  ivAddr : Nat
  /-- The D registers of a direct request as GO found them: data, AAD, tag, IV. -/
  dData : List Byte
  dAad : List Byte
  dTag : List Byte
  dIv : List Byte
  /-- Datapaths it runs on: 0 not started, 1, 2, or 3 both. -/
  dp : Nat
  /-- Counter value drawn, and the generation it runs under. -/
  n : Nat
  genUsed : Nat
  /-- A cancel arrived after its start. -/
  late : Bool
  /-- A direct request of the page interface in region 5 (R499). -/
  port : Bool
deriving DecidableEq, Repr

/-- A queue outcome that waits for room in its page's completion FIFO (R511, R512). -/
structure CphDone where
  page : Nat
  record : Nat
  tag : Nat
  /-- It still holds a queue entry. -/
  held : Bool
  entry : Nat
  slot : Nat
deriving DecidableEq, Repr

/-- Hidden state of the cipher engine. -/
structure CphState where
  slots : Vector Slot 64
  /-- Direct requests accepted or running, oldest first. -/
  directs : List CphReq
  /-- Queue entries not finished, oldest first. -/
  queue : List CphReq
  /-- Outcomes that wait for their FIFO, in finish order. -/
  waiting : List CphDone
  /-- Completion FIFO of each page: record and tag, oldest first, at most 8. -/
  fifos : Vector (List (Nat × Nat)) 16
  /-- The record each page popped last (Q_CMP_HI). -/
  helds : Vector Nat 16
  /-- The login challenge held, or nothing (R519). -/
  challenge : List Byte
  /-- The random source fails its health test (R479). -/
  rngFails : Bool
deriving DecidableEq, Repr

/-- An image that is being read: HEADER, chunks read, the record stream not yet acted on, and what its records have brought so far
(R157 to R180). -/
structure Reader where
  /-- The 128 HEADER bytes; empty before they are read. -/
  header : List Byte
  /-- Chunks read. -/
  chunk : Nat
  /-- Plaintext read and not acted on, and its offset in the record stream. -/
  stream : List Byte
  pos : Nat
  /-- Place of the last record in the order of R166. -/
  rank : Nat
  /-- Regions of REGIONS still without a section, the region of the open section and its next frame (R169). -/
  todo : List Nat
  cur : Option Nat
  next : Nat
  /-- Frames written, records counted with HEADER, and frames that FRAME records carried (R170, R179). -/
  frames : Nat
  records : Nat
  fills : Nat
  /-- The slot-wrap key (R175). -/
  wrap : Option (List Byte)
deriving DecidableEq, Repr

/-- What an image has brought and END has not acted on (R165): payloads of PROFILE, BANDS, PINS and MASK, and the unwrapped slots. -/
structure Staged where
  profile : List Byte
  bands : List Byte
  pins : List Byte
  mask : List Byte
  slots : List (Nat × ShadowKey)
deriving DecidableEq, Repr

/-- Interfaces of the configuration memory (R152, R153). -/
inductive NvmMode where
  | octal8D8D8D | quad1S4S4S | quad1S1S4S
deriving DecidableEq, Repr

/-- How the configuration memory is read, as SFDP gives it (R151): interface, address width in bytes, read command, dummy cycles. -/
structure NvmRead where
  mode : NvmMode
  addrBytes : Nat
  command : Byte
  dummy : Nat
deriving DecidableEq, Repr

/-- Hidden state of the configuration controller. -/
structure LoadState where
  /-- Line 21 AUDIT_DONE (Table ARCH-15). -/
  auditDone : Bool
  /-- Audits that wait for the one that runs or for the memory, oldest first: true for the golden image (R196). -/
  audits : List Bool
  /-- How the memory is read after discovery, and its smallest sector in bytes, 0 before discovery (R151 to R153, R198). -/
  read : Option NvmRead
  sector : Nat
  /-- The fused image key; none before it is fused (R155, R207). -/
  fuse : Option (List Byte)
  /-- The full image being read, and what it has staged. -/
  reader : Reader
  staged : Staged
  /-- Settings, profile byte, LANDFALL_MS and MON_ON of the image that END acted on; a domain that starts later takes its settings
  from them (R65, R940). -/
  settings : List (Nat × Word)
  guarded : Bool
  landfallMs : Nat
  monOn : Bool
  /-- Configuration-memory operation that runs: OP and address (R198). -/
  nvm : Option (Nat × Nat)
  /-- The partial image being read, its first source bank as the request found it, and whether its load has written a frame (R295,
  R299, R306). -/
  pr : Reader
  prBank : Nat
  prWrote : Bool
deriving DecidableEq, Repr

/-- Hidden state of one serial lane. -/
structure LnkLane where
  /-- The lane has been started by fabric release or by its domain's settings (R423). -/
  on : Bool
  /-- Frames whose LAST beat has arrived in the transmit buffer, oldest first: bytes, TAG, TS_REQ (R400). -/
  txq : List (List Byte × Nat × Bool)
  /-- Transmit timestamps, oldest first, at most 16: TAG, seconds, nanoseconds, 1/256 ns (R403). -/
  fifo : List (Nat × Nat × Nat × Nat)
  /-- Top rate index that has passed since bring-up began (R406). -/
  top : Nat
  /-- Rate index proposed or being tried. -/
  prop : Option Nat
  /-- Both ends run PRBS31 at the proposed rate (R407). -/
  inStep : Bool
  /-- The own checker did not lock in the last step, or counted too many errors: FAIL of the training words (R407). -/
  failed : Bool
  /-- The line coders: the running disparity is positive, the last 58 bits of the scrambler, the last 31 bits of the PRBS generator
  (R405, R412, R429, R430). -/
  rd : Bool
  scram : BitVec 58
  prbs : BitVec 31
  /-- Held in electrical idle because a failover put the LPLL on a spread reference (R390). -/
  barred : Bool
deriving DecidableEq, Repr

/-- A frame that waits to be sent on Bearing ports. -/
structure BrgTx where
  /-- Class code of Table BRG-1: 0 Trip, 1 Sample, 2 Bulk, 3 Time. -/
  cls : Nat
  dst : Nat
  bcast : Bool
  channel : Nat
  tag : Nat
  src : Nat
  ttl : Nat
  /-- SEQ, once it has left its queue for its first port (R451). -/
  seq : Option Nat
  /-- 0 from the stream port, 1 from the engine itself, 2 forwarded. -/
  origin : Nat
  payload : List Byte
  /-- Copies still to be sent: port and PATH. -/
  copies : List (Nat × Nat)
deriving DecidableEq, Repr

/-- Hidden state of one Bearing port. -/
structure BrgPort where
  /-- Own SEED and the peer's (R435); empty where none. -/
  seed : List Byte
  peerSeed : List Byte
  /-- KEYSEL of transmission: the parity of the epoch in use. -/
  par : Nat
  /-- Highest LNONCE accepted, plus 1, by key parity and lane: index parity × 2 + lane (R426, R439). -/
  seen : Vector Nat 4
  /-- LNONCE values drawn ahead of use, at most 8 (R438). -/
  ahead : List Nat
  /-- A rekey that this end started waits for its REKEY_ACK (R440). -/
  rekey : Bool
  /-- A frame has been verified under the new epoch, so the old slot may be erased (R440). -/
  oldWaits : Bool
  /-- The last Trip frame served was local (R444). -/
  tripLocal : Bool
  /-- Sample frames served since the last Bulk frame (R443). -/
  wrr : Nat
  /-- The neighbour's time advertisement of the last 20 ms: MASTER_ID, MASTER_RANK, STRATUM, FLAGS (R460). -/
  ad : Option (Nat × Nat × Nat × Nat)
  /-- Departure of the last Time REQ in 2^-16 ns (R462). -/
  reqT1 : Option Nat
  /-- The port has left UP and its queued frames have not been moved yet (R469). -/
  left : Bool
  /-- The port came UP after landfall and has not been sent LANDFALL yet (R465). -/
  lateUp : Bool
deriving DecidableEq, Repr

/-- Hidden state of the Bearing engine. -/
structure BrgState where
  ports : Vector BrgPort 4
  /-- Frames to send, oldest first. -/
  queue : List BrgTx
  /-- Next SEQ of this part's streams, by class × 16 + channel (R451). -/
  txSeq : Cells 16
  /-- Last accepted SEQ plus 1, by SRC × 64 + class × 16 + channel (R452). -/
  rxSeq : Cells 17
  /-- Broadcast frames forwarded or sent: stream and SEQ, kept within 4,096 of the latest (R450). -/
  bseen : List (Nat × Nat)
  /-- PROFILE's EXPECTED map and ACCEPT_GOLDEN, for the master. -/
  expected : BitVec 64
  acceptGolden : Bool
  /-- Parts counted ready, with the IMAGE_VERSION and golden flag of their report (R202, R213). -/
  counted : List (Nat × Nat × Bool)
  /-- Excluded parts whose late READY has arrived, with its IMAGE_VERSION and golden flag (R467). -/
  late : List (Nat × Nat × Bool)
deriving DecidableEq, Repr

/-- Hidden state of one sampler's rotation. -/
structure SmpRot where
  /-- The position it stands at: phase 0–3, or line input 0–1 (R545). -/
  pos : Nat
  /-- Valid estimates of the trim step, and windows it has run (R543, R544). -/
  ests : List CoefSet
  wins : Nat
  /-- In-band power of the last window of the step in 0.01 dB, and an attenuator change since it ended (R542). -/
  power : Option Int
  att : Bool
deriving DecidableEq, Repr

/-- Hidden state of the samplers. -/
structure SmpState where
  /-- Coefficient sets (Table SMP-1); none is the factory trim (R566). -/
  sets : Vector (Option CoefSet) 12
  rf : SmpRot
  line : SmpRot
  /-- RAMPs that run: chain, the arriving global slice, the set of the leaving one, and the exponent n (R546, R547, R564). -/
  ramps : List (Nat × Nat × CoefSet × Nat)
  /-- Bit g: global slice g departed in its last window (R550). -/
  departs : BitVec 8
  /-- Bit g: FORCE_FAULT holds slice g departing (Table SMP-5). -/
  forced : BitVec 8
  /-- Attenuator change and handover since the last raw unit (Table SMP-6). -/
  attSeen : Bool
  handSeen : Bool
deriving DecidableEq, Repr

/-- Hidden state of one DDC. -/
structure DdcState where
  /-- Coefficient banks A and B (R577), by tap. -/
  bankA : Cells 18
  bankB : Cells 18
  /-- DDC_DEC and DDC_CFG as they were last applied (R582). -/
  dec : Word
  cfg : Word
  /-- DDC_DEC or a field of DDC_CFG other than EN has been written since (R582). -/
  dirty : Bool
  /-- Frequency word in the NCO, and the latched one with its PHASE_RESET and restart marks (R580, R582). -/
  fw : Nat
  latched : Option (Nat × Bool × Bool)
  /-- The 32-bit phase of the NCO at the newest input sample (R571, R572). -/
  phase : BitVec 32
  /-- Input samples since the NCO took its word, and the word before it. -/
  since : Nat
  prevFw : Nat
  /-- Input samples since the CIC and FIR state was last cleared (R582). -/
  age : Nat
  /-- The unit in progress: its input samples so far, its DATA words, and whether one of them carries SAT or IN_CLIP (R589, R594). -/
  part : Nat
  words : List (BitVec 64)
  unitSat : Bool
  unitClip : Bool
  /-- Outputs still to be marked UNSETTLED (R581). -/
  unsettled : Nat
  /-- DDC_HOP_CFG as HOP_START took it, and a HOP_STOP that waits for the end of its unit (R586, R600). -/
  hopCfg : Word
  hopStop : Bool
  /-- Stopped by a double-bit error (R603). -/
  dbe : Bool
deriving DecidableEq, Repr

/-- The running state of a blanker with its gain control: the energies of the last millisecond, newest first, the samples of a blanking still to
come, and the gain (R612, R613). -/
structure Blanker where
  past : List Nat
  left : Nat
  gain : Nat
deriving DecidableEq, Repr

/-- A blanker that has seen nothing. -/
def Blanker.fresh : Blanker := { past := [], left := 0, gain := 0 }

/-- A flood detector: the mean input power of each 10 ms window of the last minute, newest first, and the windows since the last one that met a
condition (R643, R644). -/
structure FloodState where
  powers : List Nat
  calm : Nat
deriving DecidableEq, Repr

/-- A detector without history (R658). -/
def FloodState.fresh : FloodState := { powers := [], calm := 0 }

/-- The carrier-phase decoder of a context: bit periods since its last restart, the mean phase of the last one as a sum over its samples,
the bits since a frame ended, newest first, and the frame being read: its bits, oldest first, and its reference instant. -/
structure CpdState where
  periods : Nat
  phi : Option (Int × Nat)
  bits : List (Option Bool)
  frame : Option (List (Option Bool))
  ref : Nat × Nat
deriving DecidableEq, Repr

/-- A decoder without bit lock. -/
def CpdState.fresh : CpdState := { periods := 0, phi := none, bits := [], frame := none, ref := (0, 0) }

/-- Hidden state of one broadcast context. -/
structure BcdCtx where
  /-- The identity of the last passing group or FAC block, which a second must confirm (R628, R633). -/
  idSeen : Option Nat
  /-- Accepted levels per AF entry, newest first, at most four (R637), in −0.5 dB steps. -/
  levels : Vector (List Nat) 32
  /-- The candidate that has exceeded the margin, and in how many consecutive cycles (R638). -/
  above : Option (Nat × Nat)
  /-- The alternative frequency in use, where the context has switched. -/
  afHz : Option Nat
  /-- During an identity wait: the frequency before the switch and the candidate entry (R639). -/
  prev : Option (Option Nat × Nat)
  /-- ODA registrations, oldest first, at most eight: group type code and AID (R631). -/
  odas : List (Nat × Nat)
  /-- The code after the last list opening of an AF list (R629). -/
  afHead : Option Nat
  /-- Differences of the sync of the frame being read (R623). -/
  syncDiffs : Nat
  /-- The carrier interval in progress cannot count (R642, R656). -/
  ivalBad : Bool
  /-- Blanker and gain control, and the carrier-phase decoder (R612, R613, R619, R620). -/
  blank : Blanker
  cpd : CpdState
  /-- The flood detector (R643), and POWER and input samples of the main DDC's units of the last second, newest first (R637). -/
  flood : FloodState
  used : List (Nat × Nat)
deriving DecidableEq, Repr

/-- A frame of the line modem's transmit queue: payload, rate slot, TAG (R677). -/
structure LmdFrame where
  payload : List Byte
  rate : Nat
  tag : Nat
deriving DecidableEq, Repr

/-- A teleprotection block of Table LMD-6. -/
inductive TpBlock where
  | guard | start
  | command (vector : Nat)
deriving DecidableEq, Repr

/-- Hidden state of one line-modem transmit channel. -/
structure LmdTx where
  /-- Frames queued and not started, oldest first, at most 8. -/
  queue : List LmdFrame
  /-- The burst that has started, with its SEQ (R678). -/
  burst : Option (LmdFrame × Nat)
  /-- SEQ of the next burst. -/
  seq : Nat
  /-- TX_CFG and TX_RATE0–3 as the last burst or channel start took them (R722). -/
  cfg : Word
  rates : List Word
  /-- TX_FREQ and the coefficients of the TX FIR, taken with them (R722). -/
  freq : Word
  coefs : List Word
  /-- The ramp that runs is the ramp down (R710). -/
  down : Bool
  /-- The vector sampled last on TPCMD (R693). -/
  cmd : Nat
  /-- The block on air. -/
  block : Option TpBlock
  /-- COMMAND blocks started with C1 to C4 in the event of that bit (R694). -/
  carried : List Nat
  /-- Blocks started since the last START block that was sent whole, and a START block is due (R688). -/
  since : Nat
  startDue : Bool
deriving DecidableEq, Repr

/-- Hidden state of one line-modem receive channel. -/
structure LmdRx where
  /-- Counter of the last accepted block (R689). -/
  nLast : Nat
  /-- The ND held, once one has been accepted (R696). -/
  nd : Option Nat
  /-- Consecutive accepted blocks (R699). -/
  run : Nat
  /-- The burst in reception: rate slot, that slot's MOD and CR, correlation (R713). -/
  burst : Option (Nat × Nat × Nat × Nat)
  /-- Generation of the receive slot, to see its rewrite (R723). -/
  gen : Nat
  /-- Blanker and gain control, and the sixteen taps of the equaliser (R667, R714). -/
  blank : Blanker
  taps : List (Int × Int)
  /-- The flood detector (R715). -/
  flood : FloodState
  /-- RX_CFG to RX_FLOOD as the last unit boundary took them (R722). -/
  set : List Word
deriving DecidableEq, Repr

/-- What a sample port does to its SD ball (R738, R742, R746, R757). -/
inductive SdDrive where
  /-- High impedance. -/
  | released
  /-- Driven to 0. -/
  | zero
  /-- The bits of output frames. -/
  | frames
deriving DecidableEq, Repr

/-- Hidden state of one sample port. -/
structure SptPort where
  /-- SPT_CFG and SPT_SETTLE as fabric release or the last entry to SETTLING took them (R756). -/
  cfg : Word
  settle : Word
  /-- Equal frames counted in SETTLING, or zero frames in RELEASING (R737, R741). -/
  count : Nat
  /-- The SD ball. -/
  sd : SdDrive
  /-- H of the frames counted in SETTLING (R734, R737). -/
  half : Nat
  /-- The output buffer, oldest beat first, at most 64 (R751). -/
  buf : List (Word × Word)
  /-- The next beat carries GAP (R747). -/
  gap : Bool
  /-- A STOP waits for the frame boundary (R741), and a start request for IDLE (R754). -/
  stop : Bool
  held : Bool
deriving DecidableEq, Repr

/-- Hidden state of one pin bank: the pins that drive and their levels from the retention switch to fabric clock release
(Table PIN-4), and whether that Watch behaviour is in force. -/
structure PinBank where
  watch : Bool
  drive : Word
  level : Word
deriving DecidableEq, Repr

/-- Hidden state of the Watchkeeper. -/
structure MonState where
  /-- Consecutive failed logins (R844). -/
  fails : Nat
  /-- The eye command that runs: lane, DWELL and the points still to print, the first of them being scanned (R851). -/
  eye : Option (Nat × Nat × List (Int × Int))
  /-- Cause for which Control level ends before the next prompt, 0 none (R855). -/
  due : Nat
  /-- The rate of the serial line in baud (R833, R835). -/
  baud : Nat
deriving DecidableEq, Repr

/-- Hidden state of the wear monitors. -/
structure WearState where
  /-- Bit r: the SHIFT of pair r has reached LIMIT_PPM (R906). -/
  reached : BitVec 16
  /-- Multiples of 1,000 ppm that the SHIFT magnitude of each pair has crossed (R906). -/
  crossed : Vector Nat 16
  /-- A scheduled measurement waits for the running one to end (R912). -/
  waits : Bool
deriving DecidableEq, Repr

/-- An entry of the Binnacle port's write queue (R808, R812). -/
inductive BinEntry where
  | post (addr data : Word) (strobe : BitVec 4)
  | indRead (addr : Word)
  | indWrite (addr data : Word) (strobe : BitVec 4)
deriving DecidableEq, Repr

/-- Hidden state of the Binnacle port. -/
structure BinState where
  /-- Posted writes and indirect commands, oldest first, at most 16. -/
  queue : List BinEntry
  /-- Apertures whose fill runs, each with the base that reads still use (R804). -/
  filling : List (Nat × Nat)
  /-- Group latches, oldest first: word addresses of the window with their values (R806). -/
  latches : List (List (Nat × Word))
  /-- The mirror window, by word. -/
  mirror : Cells 32
deriving DecidableEq, Repr

/-- The hidden Watch-domain state at its first supply. -/
def WchState.cold : WchState :=
  { up := true, aSec := 0, aNs := 0, aFrac := 0, bSec := 0, bNs := 0, bFrac := 0, tick := 0, timerPre := 0, commit := false,
    snaps := [], logq := [], logNext := 0, seen := [], erase := false, storeLow := false, rectMv := 0, offsets := [], aligned := none,
    timerAt := 0, late := [] }

/-- A PLL that is off. -/
def Pll.off : Pll := { cfg := 0, freq := 0, div := 0, ratio := 0, applying := false, held := false }

/-- An erased slot. -/
def Slot.erased : Slot :=
  { key := [], modebind := 0, pages := 0, gen := 0, ctrw := 0, ctr := 0, valid := false, exhausted := false, shadow := none }

/-- Nothing read. -/
def Reader.empty : Reader :=
  { header := [], chunk := 0, stream := [], pos := 0, rank := 0, todo := [], cur := none, next := 0, frames := 0, records := 0, fills := 0,
    wrap := none }

/-- Nothing staged. -/
def Staged.empty : Staged := { profile := [], bands := [], pins := [], mask := [], slots := [] }

/-- A lane before anything has happened to it. -/
def LnkLane.idle : LnkLane :=
  { on := false, txq := [], fifo := [], top := 0, prop := none, inStep := false, failed := false, rd := false, scram := 0,
    prbs := BitVec.allOnes 31, barred := false }

/-- A port with nothing known. -/
def BrgPort.fresh : BrgPort :=
  { seed := [], peerSeed := [], par := 0, seen := Vector.replicate 4 0, ahead := [], rekey := false, oldWaits := false,
    tripLocal := false, wrr := 0, ad := none, reqT1 := none, left := false, lateUp := false }

/-- A DDC with nothing applied. -/
def DdcState.fresh : DdcState :=
  { bankA := [], bankB := [], dec := 0, cfg := 0, dirty := false, fw := 0, latched := none, phase := 0, since := 0, prevFw := 0, age := 0,
    part := 0, words := [], unitSat := false, unitClip := false, unsettled := 0, hopCfg := 0, hopStop := false, dbe := false }

/-- A context with nothing learned. -/
def BcdCtx.fresh : BcdCtx :=
  { idSeen := none, levels := Vector.replicate 32 [], above := none, afHz := none, prev := none, odas := [], afHead := none, syncDiffs := 0,
    ivalBad := true, blank := Blanker.fresh, cpd := CpdState.fresh, flood := FloodState.fresh, used := [] }

/-- A transmit channel that has never started. -/
def LmdTx.fresh : LmdTx :=
  { queue := [], burst := none, seq := 0, cfg := 0, rates := [0, 0, 0, 0], freq := 0, coefs := [], down := false, cmd := 0, block := none, carried := [0, 0, 0, 0],
    since := 0, startDue := true }

/-- A receive channel that has accepted nothing. -/
def LmdRx.fresh : LmdRx :=
  { nLast := 0, nd := none, run := 0, burst := none, gen := 0, blank := Blanker.fresh, taps := [], flood := FloodState.fresh,
    set := [] }

/-- A port that has never started. -/
def SptPort.fresh : SptPort := { cfg := 0, settle := 0, count := 0, sd := .released, half := 0, buf := [], gap := true, stop := false, held := false }

/-- The guarantee unit with nothing reported. -/
def GrdState.fresh : GrdState :=
  { pulses := 0, lastEntry := [], insts := [], lastReport := none, otherReport := none, logq := [], resync := 0,
    resyncEnd := [none, none, none], pad := none, tempOut := 0, railSeen := 0 }

/-- No access has been made. -/
def BusState.fresh : BusState := { resp := [], data := [], fs := [] }

/-- The power controller in Off with PORST_N low. -/
def PwrState.off : PwrState :=
  { porst := false, mode := 0, monEn := false, drain := 0, reload := 0, reloadLow := false, leaving := false, watchNLow := false,
    vmonLow := false, vmonFiltered := false, wake := 0, causes := 0, watchPending := false, wakeDone := false, lateAt := 0, graceOver := false,
    lines := 0, stale := 0 }

/-- The fabric before any image. -/
def FabState.fresh : FabState :=
  { frames := [], upsets := [], fixes := [], ctrl := 0, critLeft := [], stdLeft := [], critLate := [], slot := 0, critAt := 0,
    stdAt := 0, critSlots := 0, stdSlots := 0, prSince := 0, uncorr := [], badCrc := 0,
    isolated := 0, holds := 0, sel := 0, ce := BitVec.allOnes 288, differ := [], forced := [] }

/-- Every PLL off, no reference qualified. -/
def PllState.fresh : PllState :=
  { pll := Vector.replicate 11 Pll.off, loadBand := false, refs := 0, useRef := Vector.replicate 2 0, oscKhz := 0 }

/-- The Fix selector before device time is seeded. -/
def FixState.fresh : FixState :=
  { sec := 0, ns := 0, frac := 0, snaps := [], ofs := [0, 0, 0, 0], last := [0, 0, 0, 0], steered := [0, 0, 0, 0], seen := 0, hold := false,
    candLost := false, lockSum := 0, lockCnt := 0, hist := [], oscOk := false, pps := false }

/-- The cipher engine with no key and no request. -/
def CphState.fresh : CphState :=
  { slots := Vector.replicate 64 Slot.erased, directs := [], queue := [], waiting := [], fifos := Vector.replicate 16 [],
    helds := Vector.replicate 16 0, challenge := [], rngFails := false }

/-- The configuration controller with nothing read; no key is fused. -/
def LoadState.fresh : LoadState :=
  { auditDone := false, audits := [], read := none, sector := 0, fuse := none, reader := Reader.empty, staged := Staged.empty, settings := [],
    guarded := false, landfallMs := 0, monOn := false, nvm := none, pr := Reader.empty, prBank := 0, prWrote := false }

/-- The Bearing engine with nothing known. -/
def BrgState.fresh : BrgState :=
  { ports := Vector.replicate 4 BrgPort.fresh, queue := [], txSeq := [], rxSeq := [], bseen := [], expected := 0, acceptGolden := false,
    counted := [], late := [] }

/-- A rotation at its first position. -/
def SmpRot.fresh : SmpRot := { pos := 0, ests := [], wins := 0, power := none, att := false }

/-- The samplers with every set at its factory trim. -/
def SmpState.fresh : SmpState :=
  { sets := Vector.replicate 12 none, rf := SmpRot.fresh, line := SmpRot.fresh, ramps := [], departs := 0, forced := 0, attSeen := false,
    handSeen := false }

/-- A pin bank that is not under Watch behaviour. -/
def PinBank.fresh : PinBank := { watch := false, drive := 0, level := 0 }

/-- The Binnacle port with nothing queued. -/
def BinState.fresh : BinState := { queue := [], filling := [], latches := [], mirror := [] }

/-- The Watchkeeper with no session. -/
def MonState.fresh : MonState := { fails := 0, eye := none, due := 0, baud := 115200 }

/-- No wear result. -/
def WearState.fresh : WearState := { reached := 0, crossed := Vector.replicate 16 0, waits := false }

end Sys2Proof.Machine
end

