-- ==== Sys2Proof/Machine/State.lean ====
section
/-!
DEFINITION. The state of the YL640: everything the spec gives the block, as plain data. Every bit that a register shows
has its one home in `regs`, keyed by the register's byte address; what no register shows is held in one structure per
block. The commands that wait are `pending`, first in, first out. `State.reset` stands at the end.
-/
namespace Sys2Proof.Machine

/-- Why a command stops with a fault. No command of the table does: the spec gives every row an effect. -/
inductive Fault where
deriving DecidableEq, Repr

/-- Why a command is refused. -/
inductive Refusal where
  /-- Raised by the arm of a command that has no meaning yet. Safe: nothing is claimed of it. -/
  | notModelled (mnemonic : String)
deriving DecidableEq, Repr

/-- The state of the block. -/
structure State where
  /-- Commands that wait, oldest first. -/
  pending : List Instr
  /-- What the last command sent out. -/
  out : List Out
  /-- Every register bit, by byte address. -/
  regs : Cells 32
  /-- The bits of image-set registers that the image's write mask opens (R44), by byte address. -/
  mask : Cells 32
  /-- Model's own: watch ticks and RC periods since reset, the clock of the one-second and 250 ms windows. -/
  now : Nat
  /-- Model's own: how many free values have been drawn. -/
  fresh : Nat
  /-- HEALTH is driven high (R878). -/
  health : Bool
  dev : DevState
  pwr : PwrState
  wch : WchState
  grd : GrdState
  bus : BusState
  load : LoadState
  fab : FabState
  fix : FixState
  /-- The 85 stream ports, by the numbers of Str.lean (R30 to R35). -/
  str : Vector StreamPort 85
  /-- Deep memory: 112 banks of 262,144 bytes, byte address bank × 262,144 + offset (R506). -/
  deep : List Host.Cell
  /-- The fabric's flip-flops, memories and slices (R216). -/
  lgc : LogicState
  cph : CphState
  lnk : Vector LnkLane 24
  brg : BrgState
  smp : SmpState
  ddc : Vector DdcState 8
  ctx : Vector BcdCtx 4
  /-- Scan DDCs and the context each serves (R635). -/
  scan : List (Nat × Nat)
  lmdTx : Vector LmdTx 2
  lmdRx : Vector LmdRx 2
  spt : Vector SptPort 8
  pin : Vector PinBank 6
  bin : BinState
  pll : PllState
  mon : MonState
  wear : WearState
deriving DecidableEq, Repr

/-- The machine right after reset: Off, PORST_N low, and the Watch domain at its first supply, VCC_AUX, with WATCH_COLD waiting to
be written (R19, R148, R941). -/
def State.reset : State where
  pending := []
  out := []
  regs := putAll (putAll [] resetRegs) watchResetRegs
  mask := []
  now := 0
  fresh := 0
  health := false
  dev := .off
  pwr := PwrState.off
  wch := { WchState.cold with
    logq := [{ code := 0x0101, block := 1, inst := 0, detail := 0, sec := 0, ns := 0, timeValid := false, supply := 2, state := 0,
               raised := 0, ready := 0 }]
    logNext := 1 }
  grd := GrdState.fresh
  bus := BusState.fresh
  load := LoadState.fresh
  fab := FabState.fresh
  fix := FixState.fresh
  str := Vector.replicate 85 StreamPort.idle
  deep := []
  lgc := LogicState.fresh
  cph := CphState.fresh
  lnk := Vector.replicate 24 LnkLane.idle
  brg := BrgState.fresh
  smp := SmpState.fresh
  ddc := Vector.replicate 8 DdcState.fresh
  ctx := Vector.replicate 4 BcdCtx.fresh
  scan := []
  lmdTx := Vector.replicate 2 LmdTx.fresh
  lmdRx := Vector.replicate 2 LmdRx.fresh
  spt := Vector.replicate 8 SptPort.fresh
  pin := Vector.replicate 6 PinBank.fresh
  bin := BinState.fresh
  pll := PllState.fresh
  mon := MonState.fresh
  wear := WearState.fresh

end Sys2Proof.Machine
end

