-- ==== Sys2Proof/Machine/Ops.lean ====
section
/-!
DEFINITION. The named operations over the state that every meaning is written with: reading and writing a register
field, the two counter classes of R14, free values, and what a command sends out.
-/
namespace Sys2Proof.Machine

/-- The state with its part `out` replaced. -/
def State.withOut (s : State) (v : List Out) : State := { s with out := v }

/-- The state with its part `regs` replaced. -/
def State.withRegs (s : State) (v : Cells 32) : State := { s with regs := v }

/-- The state with its part `mask` replaced. -/
def State.withMask (s : State) (v : Cells 32) : State := { s with mask := v }

/-- The state with its part `now` replaced. -/
def State.withNow (s : State) (v : Nat) : State := { s with now := v }

/-- The state with its part `fresh` replaced. -/
def State.withFresh (s : State) (v : Nat) : State := { s with fresh := v }

/-- The state with its part `health` replaced. -/
def State.withHealth (s : State) (v : Bool) : State := { s with health := v }

/-- The state with its part `dev` replaced. -/
def State.withDev (s : State) (v : DevState) : State := { s with dev := v }

/-- The state with its part `pwr` replaced. -/
def State.withPwr (s : State) (v : PwrState) : State := { s with pwr := v }

/-- The state with its part `wch` replaced. -/
def State.withWch (s : State) (v : WchState) : State := { s with wch := v }

/-- The state with its part `grd` replaced. -/
def State.withGrd (s : State) (v : GrdState) : State := { s with grd := v }

/-- The state with its part `bus` replaced. -/
def State.withBus (s : State) (v : BusState) : State := { s with bus := v }

/-- The state with its part `load` replaced. -/
def State.withLoad (s : State) (v : LoadState) : State := { s with load := v }

/-- The state with its part `fab` replaced. -/
def State.withFab (s : State) (v : FabState) : State := { s with fab := v }

/-- The state with its part `fix` replaced. -/
def State.withFix (s : State) (v : FixState) : State := { s with fix := v }

/-- The state with its part `str` replaced. -/
def State.withStr (s : State) (v : Vector StreamPort 85) : State := { s with str := v }

/-- The state with its part `deep` replaced. -/
def State.withDeep (s : State) (v : List Host.Cell) : State := { s with deep := v }

/-- The state with its part `lgc` replaced. -/
def State.withLgc (s : State) (v : LogicState) : State := { s with lgc := v }

/-- The state with its part `cph` replaced. -/
def State.withCph (s : State) (v : CphState) : State := { s with cph := v }

/-- The state with its part `lnk` replaced. -/
def State.withLnk (s : State) (v : Vector LnkLane 24) : State := { s with lnk := v }

/-- The state with its part `brg` replaced. -/
def State.withBrg (s : State) (v : BrgState) : State := { s with brg := v }

/-- The state with its part `smp` replaced. -/
def State.withSmp (s : State) (v : SmpState) : State := { s with smp := v }

/-- The state with its part `ddc` replaced. -/
def State.withDdc (s : State) (v : Vector DdcState 8) : State := { s with ddc := v }

/-- The state with its part `ctx` replaced. -/
def State.withCtx (s : State) (v : Vector BcdCtx 4) : State := { s with ctx := v }

/-- The state with its part `scan` replaced. -/
def State.withScan (s : State) (v : List (Nat × Nat)) : State := { s with scan := v }

/-- The state with its part `lmdTx` replaced. -/
def State.withLmdTx (s : State) (v : Vector LmdTx 2) : State := { s with lmdTx := v }

/-- The state with its part `lmdRx` replaced. -/
def State.withLmdRx (s : State) (v : Vector LmdRx 2) : State := { s with lmdRx := v }

/-- The state with its part `spt` replaced. -/
def State.withSpt (s : State) (v : Vector SptPort 8) : State := { s with spt := v }

/-- The state with its part `pin` replaced. -/
def State.withPin (s : State) (v : Vector PinBank 6) : State := { s with pin := v }

/-- The state with its part `bin` replaced. -/
def State.withBin (s : State) (v : BinState) : State := { s with bin := v }

/-- The state with its part `pll` replaced. -/
def State.withPll (s : State) (v : PllState) : State := { s with pll := v }

/-- The state with its part `mon` replaced. -/
def State.withMon (s : State) (v : MonState) : State := { s with mon := v }

/-- The state with its part `wear` replaced. -/
def State.withWear (s : State) (v : WearState) : State := { s with wear := v }

/-- The value of a register field. -/
def State.get (s : State) (f : Fld) : Nat := fldRead s.regs f

/-- A register field is not zero. -/
def State.bit (s : State) (f : Fld) : Bool := s.get f != 0

/-- Set a register field. -/
def State.put (s : State) (f : Fld) (v : Nat) : State := s.withRegs (fldWrite s.regs f v)

/-- Set a one-bit field from a Boolean. -/
def State.putB (s : State) (f : Fld) (b : Bool) : State := s.put f (if b then 1 else 0)

/-- Set a one-bit field to 1. -/
def State.set (s : State) (f : Fld) : State := s.put f 1

/-- Clear a field. -/
def State.clr (s : State) (f : Fld) : State := s.put f 0

/-- The word of a register. -/
def State.word (s : State) (a : Nat) : Word := cellRead s.regs a

/-- Set the word of a register. -/
def State.putWord (s : State) (a : Nat) (w : Word) : State := s.withRegs (cellWrite s.regs a w)

/-- Apply `f` only where `c` holds. -/
def State.iff (s : State) (c : Bool) (f : State → State) : State := if c then f s else s

/-- Apply one of two. -/
def State.ite (s : State) (c : Bool) (f g : State → State) : State := if c then f s else g s

/-- Apply `f` once per element, in order. -/
def State.each {α : Type} (s : State) (xs : List α) (f : State → α → State) : State := xs.foldl f s

/-- Add to a saturating counter: at all-ones the next increment leaves it and sets the overflow flag (R14, R15). -/
def State.satAdd (s : State) (cnt ovf : Fld) (n : Nat) : State :=
  if s.get cnt + n < 2 ^ cnt.width then s.put cnt (s.get cnt + n)
  else (s.put cnt (2 ^ cnt.width - 1)).set ovf

/-- Increment a saturating counter. -/
def State.satInc (s : State) (cnt ovf : Fld) : State := s.satAdd cnt ovf 1

/-- Add to a saturating counter that has no flag. -/
def State.satAddNoFlag (s : State) (cnt : Fld) (n : Nat) : State :=
  s.put cnt (min (s.get cnt + n) (2 ^ cnt.width - 1))

/-- Increment a modular counter: it wraps to zero (R14). -/
def State.modInc (s : State) (cnt : Fld) : State := s.put cnt (s.get cnt + 1)

/-- The value of a counter held in two registers. -/
def State.get2 (s : State) (lo hi : Fld) : Nat := s.get lo + s.get hi * 2 ^ lo.width

/-- Set a counter held in two registers. -/
def State.put2 (s : State) (lo hi : Fld) (v : Nat) : State := (s.put lo v).put hi (v / 2 ^ lo.width)

/-- Add to a saturating counter held in two registers. -/
def State.satAdd2 (s : State) (lo hi ovf : Fld) (n : Nat) : State :=
  if s.get2 lo hi + n < 2 ^ (lo.width + hi.width) then s.put2 lo hi (s.get2 lo hi + n)
  else (s.put2 lo hi (2 ^ (lo.width + hi.width) - 1)).set ovf

/-- Increment a modular counter held in two registers. -/
def State.modInc2 (s : State) (lo hi : Fld) : State := s.put2 lo hi (s.get2 lo hi + 1)

/-- Send something out. -/
def State.emit (s : State) (o : Out) : State := s.withOut (s.out ++ [o])

/-- Draw a free value. -/
def State.draw (s : State) : Nat := Config.free s.fresh

/-- The state after a draw. -/
def State.drawn (s : State) : State := s.withFresh (s.fresh + 1)

/-- The `i`-th of the next free values. -/
def State.pick (s : State) (i : Nat) : Nat := Config.free (s.fresh + i)

/-- The state after `n` draws. -/
def State.picked (s : State) (n : Nat) : State := s.withFresh (s.fresh + n)

/-- `n` free bytes, drawn one by one. -/
def State.drawBytes (s : State) : Nat → List Byte
  | 0 => []
  | n + 1 => BitVec.ofNat 8 (Config.free (s.fresh + n)) :: s.drawBytes n

/-- The state after drawing `n` free bytes. -/
def State.drawnBytes (s : State) (n : Nat) : State := s.withFresh (s.fresh + n)

/-- Replace the element at an index of a list; nothing beyond its end. -/
def updateAt {α : Type} (xs : List α) (i : Nat) (f : α → α) : List α :=
  match xs, i with
  | [], _ => []
  | x :: rest, 0 => f x :: rest
  | x :: rest, i + 1 => x :: updateAt rest i f

/-- The guard value of the command registers: KEY = 0x5A17 (the CMD registers of every block). -/
def guardKey : BitVec 16 := 0x5A17

/-- A rail of PWR_RAILS is within its limits. -/
def State.railOk (s : State) (i : Nat) : Bool := bitsOf (s.word PWR_RAILS) i 1 == 1

/-- VCC_LANE with VTT_LANE (R65). -/
def State.lanePowered (s : State) : Bool := s.railOk 2 && s.railOk 3

/-- VCC_ANA18 with VCC_ANA09 (R65). -/
def State.radioPowered (s : State) : Bool := s.railOk 4 && s.railOk 5

/-- The state code of a log entry's FLAGS[6:4] (Table WCH-1) and of PWR_STATE. -/
def DevState.code : DevState → Nat
  | .off => 0
  | .loading => 1
  | .halted => 2
  | .running => 3
  | .draining => 4
  | .watch => 5

/-- The device serves: Running, a drain counting as Running (R860). -/
def State.inService (s : State) : Bool := s.dev == .running || s.dev == .draining

/-- An event-log entry of this moment. -/
def State.item (s : State) (code block inst detail : Nat) : LogItem :=
  { code := code, block := block, inst := inst, detail := detail, sec := s.wch.aSec, ns := s.wch.aNs,
    timeValid := s.bit WCH_STATUS_TIME_VALID, supply := s.get WCH_STATUS_SUPPLY, state := s.dev.code,
    raised := s.now, ready := s.now }

/-- An entry of the watch controller, which writes at most one per tick: ready in the first tick that no earlier one has (R119). -/
def State.watchItem (s : State) (code inst detail : Nat) : LogItem :=
  { s.item code 1 inst detail with ready := max s.now s.wch.logNext }

/-- Tamper entries of one tick stand in ascending input order (R143). -/
def tamperBefore (e x : LogItem) : Bool := e.code == 0x0108 && x.code == 0x0108 && x.raised == e.raised && decide (e.inst < x.inst)

/-- Put a pending entry behind those raised before it; the order of the entries' ready ticks stays. -/
def queueEntry (q : List LogItem) (e : LogItem) : List LogItem :=
  let order := q.takeWhile (fun x => !tamperBefore e x) ++ e :: q.dropWhile (fun x => !tamperBefore e x)
  (order.zip ((q ++ [e]).map (·.ready))).map fun x => { x.1 with ready := x.2 }

/-- Raise a Watch-domain entry: it waits with the watch controller, which holds up to four; one more is lost and
counted (R119). -/
def State.watchLog (s : State) (code inst detail : Nat) : State :=
  let e := s.watchItem code inst detail
  if s.wch.logq.length < 4 then s.withWch { s.wch with logq := queueEntry s.wch.logq e, logNext := e.ready + 1 }
  else s.satInc LOG_LOST_COUNT LOG_LOST_OVF

end Sys2Proof.Machine
end

