-- ==== Sys2Proof/Machine/Flags.lean ====
section
/-!
DEFINITION. The event lines of R36: the W1C bit that each line mirrors, and the lines of Table ARCH-15 that follow a
state. Raising an event sets its bit; a level line is a function of the state.
-/
namespace Sys2Proof.Machine

/-- The bit of an event register that a line mirrors, for the blocks whose event register numbers the lines. -/
def evtFld (line : Nat) : Fld :=
  if line < 40 then ⟨GRD_EVENT, line - 32, 1⟩
  else if line < 48 then ⟨PLL_EVENT, line - 41, 1⟩
  else if line < 64 then ⟨FIX_EVENT, line - 48, 1⟩
  else if line < 128 then ⟨BRG_EVENT, line - 112, 1⟩
  else if line < 160 then ⟨CPH_EVENT, line - 128, 1⟩
  else if line < 176 then ⟨SMP_EVENT, line - 160, 1⟩
  else if line < 192 then ⟨RXC_EVENT, line - 176, 1⟩
  else if line < 216 then ⟨BCD_EVENT, line - 192, 1⟩
  else if line < 240 then ⟨LMD_EVENT, line - 216, 1⟩
  else if line < 244 then ⟨SPT_EVENT, line - 240, 1⟩
  else if line < 248 then ⟨PIN_EVENT, line - 244, 1⟩
  else ⟨MON_EVENT, line - 252, 1⟩

/-- Raise an event line that mirrors a bit of its block's event register. -/
def State.event (s : State) (line : Nat) : State := s.set (evtFld line)

/-- Rail `i` of PWR_RAILS has been within its limits since the last load and is outside them now (R871). -/
def State.railOut (s : State) (i : Nat) : Bool := s.grd.railSeen.getLsbD i && !s.railOk i

/-- RAIL_FAULT (Table ARCH-15). -/
def State.railFault (s : State) : Bool := (List.range 14).any fun i => s.railOut i

/-- A PLL runs on the settings that it last applied (R338). -/
def State.pllApplied (s : State) (n : Nat) : Bool := ((s.pll.pll[n]?.getD Pll.off).cfg).getLsbD 31

/-- Every enabled PLL is locked and unmuted (R335). -/
def State.allLocked (s : State) : Bool :=
  (List.range 11).all fun n =>
    !s.pllApplied n || (s.bit (PLL_STATUS_LOCKED n) && !s.bit (PLL_STATUS_MUTED n))

/-- The level of a line of Table ARCH-15 that follows a state, and of the lines that mirror another register's bit. -/
def State.levelLine (s : State) (line : Nat) : Bool :=
  match line with
  | 0 => s.pwr.watchPending
  | 1 => s.pwr.wakeDone
  | 2 => s.bit PWR_STATUS_WAKE_LATE
  | 3 => s.pwr.vmonLow
  | 4 => s.railFault
  | 5 => s.bit WEAR_STATUS_ALARM || s.bit WEAR_STATUS_NO_COUNT
  | 8 => s.bit WCH_STATUS_TAMPER
  | 9 => s.bit WCH_STATUS_TIMER
  | 10 => s.bit WCH_STATUS_SWITCHED
  | 11 => s.get LOG_PIN_USED == 128
  | 12 => s.bit WCH_STATUS_XTAL_FAIL
  | 13 => s.bit WCH_STATUS_STORE_LOW
  | 14 => s.bit WCH_STATUS_TIME_CHECK
  | 16 => s.bit CFG_STATUS_DONE
  | 17 => s.bit CFG_STATUS_ERR
  | 18 => s.bit CFG_STATUS_GOLDEN
  | 19 => s.bit SYS_SERVICE_LANDFALL
  | 20 => s.get CFG_LANDFALL_STATE == 4
  | 21 => s.load.auditDone
  | 22 => s.bit CFG_AUDIT_STATUS_FAIL
  | 23 => s.bit CFG_NVM_STATUS_DONE
  | 24 => s.bit SCR_STATUS_PR_DONE
  | 25 => s.bit SCR_STATUS_PR_FAIL
  | 26 => s.bit SCR_STATUS_CORRECTED
  | 27 => s.bit SCR_STATUS_UNCORR
  | 28 => s.bit SCR_STATUS_CRC_FAIL
  | 29 => s.bit SCR_STATUS_LATE
  | 30 => s.bit SCR_STATUS_STD_PASS
  | _ => false

/-- The level of event line `n` before release holds it low (R36, R55). -/
def State.lineLevel (s : State) (n : Nat) : Bool :=
  if n < 32 then s.levelLine n
  else if n = 40 then s.allLocked
  else if 64 ≤ n && n < 112 then
    (if n % 2 == 0 then s.bit (LNK_STATUS_CHANGE ((n - 64) / 2)) else s.bit (LNK_STATUS_TXTS ((n - 64) / 2)))
  else if 128 ≤ n && n < 144 then s.get (PAGE_STATUS_CMP (n - 128)) != 0
  else if 248 ≤ n && n < 252 then bitsOf (s.word BIN_IRQ_STATUS) (n - 248) 1 == 1
  else if n < 256 then s.bit (evtFld n)
  else false

/-- The level a fabric user sees on event line `n`: every line is low from PORST_N until fabric release (R55), and keeps in the
Watch state the level it had at the retention switch (R58). -/
def State.eventLine (s : State) (n : Nat) : Bool :=
  if s.dev == .watch then s.pwr.lines.getLsbD n else s.bit FAB_STATUS_RELEASED && s.lineLevel n

/-- The levels of all event lines. -/
def State.linesNow (s : State) : BitVec 256 :=
  (List.range 256).foldl (fun v n => if s.eventLine n then v ||| (1#256 <<< n) else v) 0#256

end Sys2Proof.Machine
end

