-- ==== Sys2Proof/Machine/Grd.lean ====
section
/-!
DEFINITION. The guarantee unit: Table GRD-2, what one fault report does (R873 to R882), and the levels it drives
(R860, R878).
-/
namespace Sys2Proof.Machine

/-- The kind of a fault code (Table GRD-2): masked, detected, or a condition of the guarantee breached. -/
inductive FaultKind where
  | masked | detected | condition
deriving DecidableEq, Repr

/-- One row of Table GRD-2. -/
structure FaultRow where
  block : Nat
  kind : FaultKind
  latched : Bool
  degraded : Bool
  inject : Bool
deriving DecidableEq, Repr

/-- Table GRD-2 by fault number, from 0 (no code) to 43. -/
def faultTableA : List FaultRow := [
  ⟨0, .masked, false, false, false⟩,
  ⟨5, .masked, false, false, true⟩,     -- 1 HK_DISAGREE
  ⟨5, .masked, true, true, false⟩,      -- 2 HK_FENCED
  ⟨0, .detected, true, false, true⟩,    -- 3 BUS_PARITY
  ⟨17, .detected, true, false, true⟩,   -- 4 BIN_PARITY
  ⟨17, .masked, false, false, true⟩,    -- 5 BIN_SHADOW_SBE
  ⟨17, .detected, true, false, true⟩,   -- 6 BIN_SHADOW_DBE
  ⟨4, .masked, false, false, true⟩,     -- 7 CFG_FRAME_CORR
  ⟨4, .detected, true, false, true⟩,    -- 8 CFG_FRAME_UNCORR
  ⟨4, .detected, true, false, false⟩,   -- 9 CFG_REGION_CRC
  ⟨4, .condition, true, false, false⟩,  -- 10 SCRUB_LATE
  ⟨3, .masked, false, false, false⟩,    -- 11 CFG_CACHE_SBE
  ⟨20, .detected, true, false, false⟩,  -- 12 PAIR_MISMATCH
  ⟨20, .masked, false, false, true⟩,    -- 13 BRAM_SBE
  ⟨20, .detected, true, false, true⟩,   -- 14 BRAM_DBE
  ⟨20, .masked, false, false, true⟩,    -- 15 DEEP_SBE
  ⟨20, .detected, true, false, true⟩,   -- 16 DEEP_DBE
  ⟨20, .condition, true, false, false⟩, -- 17 SWEEP_LATE
  ⟨6, .detected, true, false, false⟩,   -- 18 PLL_LOL
  ⟨6, .detected, true, false, false⟩,   -- 19 REF_LOSS
  ⟨7, .masked, false, false, true⟩,     -- 20 TIME_VOTE
  ⟨1, .detected, true, false, true⟩]    -- 21 TIME_CHECK

def faultTableB : List FaultRow := [
  ⟨1, .detected, true, false, false⟩,   -- 22 XTAL_FAIL
  ⟨8, .detected, true, false, false⟩,   -- 23 LANE_LOS
  ⟨8, .detected, true, false, false⟩,   -- 24 LANE_CDR
  ⟨9, .detected, true, false, false⟩,   -- 25 LANE_CRC
  ⟨10, .detected, true, false, true⟩,   -- 26 CPH_GUARD
  ⟨10, .detected, true, false, false⟩,  -- 27 CPH_RNG
  ⟨10, .masked, false, false, true⟩,    -- 28 CPH_SLOT_SBE
  ⟨10, .detected, true, false, true⟩,   -- 29 CPH_SLOT_DBE
  ⟨11, .masked, true, true, false⟩,     -- 30 SMP_SLICE
  ⟨11, .detected, true, false, false⟩,  -- 31 SMP_UNMASKED
  ⟨12, .masked, false, false, true⟩,    -- 32 RXC_COEF_SBE
  ⟨12, .detected, true, false, true⟩,   -- 33 RXC_COEF_DBE
  ⟨13, .masked, false, false, true⟩,    -- 34 BCD_SBE
  ⟨13, .detected, true, false, true⟩,   -- 35 BCD_DBE
  ⟨14, .detected, true, false, false⟩,  -- 36 LMD_MASK
  ⟨14, .masked, false, false, true⟩,    -- 37 LMD_SBE
  ⟨14, .detected, true, false, true⟩,   -- 38 LMD_DBE
  ⟨0, .detected, true, false, true⟩,    -- 39 RAIL
  ⟨5, .detected, true, false, true⟩,    -- 40 TEMP
  ⟨19, .detected, true, false, false⟩,  -- 41 LOG_CRC
  ⟨5, .detected, true, false, false⟩,   -- 42 SELFTEST
  ⟨5, .detected, true, false, false⟩]   -- 43 HEALTH_PAD

/-- The row of a fault number. -/
def faultRow (n : Nat) : FaultRow :=
  if n < 22 then faultTableA.getD n ⟨0, .masked, false, false, false⟩
  else faultTableB.getD (n - 22) ⟨0, .masked, false, false, false⟩

/-- Bit `n` of a pair of LO and HI registers of GRD. -/
def grdBit (lo hi : Nat) (n : Nat) : Fld := if n < 32 then ⟨lo, n, 1⟩ else ⟨hi, n - 32, 1⟩

/-- Bit n of GRD_PENDING. -/
def pendingFld (n : Nat) : Fld := grdBit GRD_PENDING_LO GRD_PENDING_HI n

/-- Bit n of GRD_DEGRADED. -/
def degradedFld (n : Nat) : Fld := grdBit GRD_DEGRADED_LO GRD_DEGRADED_HI n

/-- A fault's entry was made less than 1 s (32,768 ticks) ago (R875). -/
def State.entryRecent (s : State) (n : Nat) : Bool :=
  let e := (cellRead s.grd.lastEntry n).toNat
  e != 0 && decide (s.now + 1 < e + 32768)

/-- Place an entry in the 16-entry buffer; one that finds it full is lost and counted (R118). -/
def State.blockLog (s : State) (code block inst detail : Nat) : State :=
  if s.grd.logq.length < 16 then s.withGrd { s.grd with logq := s.grd.logq ++ [s.item code block inst detail] }
  else s.satInc LOG_LOST_COUNT LOG_LOST_OVF

/-- The entry of a fault report (R874). -/
def State.grdLog (s : State) (n inst detail : Nat) : State := s.blockLog (0x200 + n) (faultRow n).block inst detail

/-- One of the two report records. -/
def State.grdPut (s : State) (n inst : Nat) (v b f i : Fld) : State := (((s.set v).put b (faultRow n).block).put f n).put i inst

/-- GRD_LAST, and GRD_FIRST while it holds nothing (R873). -/
def State.grdRecord (s : State) (n inst : Nat) : State :=
  let s := s.grdPut n inst GRD_LAST_VALID GRD_LAST_BLOCK GRD_LAST_N GRD_LAST_INSTANCE
  s.iff (!s.bit GRD_FIRST_VALID) fun s => s.grdPut n inst GRD_FIRST_VALID GRD_FIRST_BLOCK GRD_FIRST_N GRD_FIRST_INSTANCE

/-- The counter and event line of a report's kind (R875). -/
def State.grdCount (s : State) (n : Nat) : State :=
  match (faultRow n).kind with
  | .masked => (s.satInc GRD_CNT_MASKED_COUNT GRD_CNT_MASKED_OVF).event 34
  | .detected => (s.satInc GRD_CNT_DETECTED_COUNT GRD_CNT_DETECTED_OVF).event 33
  | .condition => (s.satInc GRD_CNT_DETECTED_COUNT GRD_CNT_DETECTED_OVF).event 33

/-- The entry of a report, or the count of a report that writes none (R875, R876). -/
def State.grdEntry (s : State) (n inst detail : Nat) : State :=
  if n == 21 || n == 22 then s
  else if s.entryRecent n then s.satInc GRD_CNT_REPEATS_COUNT GRD_CNT_REPEATS_OVF
  else
    let s := s.grdLog n inst detail
    (s.withGrd { s.grd with lastEntry := cellWrite s.grd.lastEntry n (BitVec.ofNat 64 (s.now + 1)) })

/-- The HEALTH reaction of a report: a pulse, or a pending bit; a degraded class sets its bit (R879, R880, R882). -/
def State.grdReact (s : State) (n inst : Nat) : State :=
  let s := if (faultRow n).latched then
      (s.set (pendingFld n)).withGrd { s.grd with insts := (n, inst) :: s.grd.insts.filter (· != (n, inst)) }
    else s.withGrd { s.grd with pulses := s.grd.pulses ||| (1#64 <<< n) }
  s.iff (faultRow n).degraded fun s => (s.set (degradedFld n)).event 35

/-- The last report of a code other than `n` (R877). -/
def State.otherThan (s : State) (n : Nat) : Option (Nat × Nat) :=
  match s.grd.lastReport with
  | some (m, t) => if m != n then some (m, t) else s.grd.otherReport
  | none => none

/-- Two reports with different codes within 250 ms (8,192 ticks) raise MULTI (R877). -/
def State.grdMulti (s : State) (n : Nat) : State :=
  let near := match s.otherThan n with
    | some (_, t) => decide (s.now < t + 8192)
    | none => false
  let other := s.otherThan n
  let s := s.iff near (·.event 37)
  (s.withGrd { s.grd with lastReport := some (n, s.now), otherReport := other })

/-- What the guarantee unit does with a report of fault `n` (R873 to R882); the unit does not run in Off. -/
def State.report (s : State) (n inst detail : Nat) : State :=
  if s.dev == .off then s
  else ((((s.grdMulti n).grdRecord n inst).grdCount n).grdEntry n inst detail).grdReact n inst

/-- A report that may come from the Watch domain: a detection of TIME_CHECK or XTAL_FAIL made in the Watch state or in Off becomes pending at
the next fabric release (R876). -/
def State.watchReport (s : State) (n inst detail : Nat) : State :=
  if (n == 21 || n == 22) && (s.dev == .watch || s.dev == .off) then
    s.withWch { s.wch with late := s.wch.late ++ [n] }
  else s.report n inst detail

/-- Every self-test part of a powered domain has passed: load and security always, lanes and radio where powered
(R860, R878, Table GRD-3). -/
def State.selftestPass (s : State) : Bool :=
  let pass (p : Nat) : Bool := bitsOf (s.word GRD_SELFTEST) p 1 == 1
  pass 0 && pass 1 && (!s.lanePowered || pass 2) && (!s.radioPowered || pass 3)

/-- No fault is pending. -/
def State.noPending (s : State) : Bool := s.word GRD_PENDING_LO == 0 && s.word GRD_PENDING_HI == 0

/-- HEALTH is driven high (R878). -/
def State.healthHigh (s : State) : Bool :=
  s.dev == .running && s.selftestPass && s.noPending && s.grd.pulses == 0

/-- The guarantee is in force (R860): Guarded, Running or draining, every part passed, no RAIL (39) or TEMP (40) pending. -/
def State.inForce (s : State) : Bool :=
  s.bit GRD_STATUS_GUARDED && s.inService && s.selftestPass && !s.bit (pendingFld 39) && !s.bit (pendingFld 40)

/-- Every housekeeping copy agrees: none is being resynchronised or fenced (R867). -/
def State.hkOk (s : State) : Bool := s.grd.resync == 0 && s.get GRD_STATUS_FENCED == 0

/-- The levels that the guarantee unit and SYS_SERVICE hold as a function of the state, brought up to date at the end of
every command; a fall of HEALTH raises line 32 and the Binnacle cause HEALTH_LOW. GRD_STATUS.HEALTH is the level of the pad. -/
def State.settle (s : State) : State :=
  let high := s.healthHigh
  let fell := s.health && !high
  let s := (s.iff fell fun s => (s.event 32).set BIN_IRQ_STATUS_HEALTH_LOW).withHealth high
  let s := (((s.putB GRD_STATUS_IN_FORCE s.inForce).putB GRD_STATUS_HEALTH (s.grd.pad.getD high)).putB GRD_STATUS_SELFTEST_PASS
    s.selftestPass).putB GRD_STATUS_PULSE (s.grd.pulses != 0)
  let s := (((s.putB SYS_SERVICE_HK_OK s.hkOk).putB SYS_SERVICE_WATCH_OK (s.wch.up && s.bit WCH_STATUS_XTAL_OK)).putB
    SYS_SERVICE_LANE_PWR s.lanePowered).putB SYS_SERVICE_RADIO_PWR s.radioPowered
  (s.putB SYS_SERVICE_MON_CONTROL (s.bit MON_STATUS_CONTROL)).putB SYS_SERVICE_MON_RUN (s.bit MON_STATUS_RUN)

end Sys2Proof.Machine
end

