-- ==== Sys2Proof/Machine/Operands.lean ====
section
/-!
DEFINITION. Operand forms: how a command's operands become register words, how bytes stand in registers and in deep
memory, and the guarded command words of the CMD registers.
-/
namespace Sys2Proof.Machine

/-- The word of a CMD register: KEY in [31:16] and the rest below. -/
def cmdWord (key : BitVec 16) (low : Nat) : Word := BitVec.ofNat 32 (key.toNat * 65536 + low % 65536)

/-- The KEY field of a command word. -/
def cmdKey (w : Word) : BitVec 16 := BitVec.ofNat 16 (w.toNat / 65536)

/-- A command word carries the guard key. -/
def keyed (w : Word) : Bool := cmdKey w == guardKey

/-- Bytes of `n` consecutive registers from address `a`, least significant byte of each word first. -/
def State.regBytes (s : State) (a n : Nat) : List Byte := (cellReadAll s.regs a 4 n).flatMap fun w => leBytes 4 w.toNat

/-- The word of four bytes, least significant first. -/
def leWord (bs : List Byte) : Word := BitVec.ofNat 32 (leNat (bs.take 4))

/-- Words of a byte string, least significant byte first, the last padded with zeros; `fuel` bounds them. -/
def leWords : Nat → List Byte → List Word
  | 0, _ => []
  | f + 1, bs => if bs.isEmpty then [] else leWord bs :: leWords f (bs.drop 4)

/-- Write bytes to consecutive registers from address `a`. -/
def State.putRegBytes (s : State) (a : Nat) (bs : List Byte) : State :=
  s.withRegs (cellWriteAll s.regs a 4 (leWords bs.length bs))

/-- Bytes of deep memory. -/
def State.deepBytes (s : State) (a n : Nat) : List Byte := cellReadAll s.deep a 1 n

/-- A hard block writes bytes of deep memory: the words they fill have valid ECC, and a sweep's correction of one is dropped (R268). -/
def State.putDeep (s : State) (a : Nat) (bs : List Byte) : State :=
  let out (k : Nat) : Bool := decide (k < a / 8) || decide ((a + bs.length - 1) / 8 < k)
  let s := s.withDeep (cellWriteAll s.deep a 1 bs)
  s.withLgc { s.lgc with deepBad := s.lgc.deepBad.filter fun c => out c.1, deepFix := s.lgc.deepFix.filter fun c => out c.1 }

/-- `n` rounded up to whole 64-bit words. -/
def up8 (n : Nat) : Nat := (n + 7) / 8 * 8

/-- The canonical form of a byte memory. -/
def Memory.wf (m : List Host.Cell) : Bool := cellWf m

/-- Bank `b` is open on port H to the cipher engine (Table FAB-14). -/
def State.hOpen (s : State) (b : Nat) : Bool :=
  decide (b < 112) && bitsOf (s.word (FAB_DEEP_HOPEN (b / 32))) (b % 32) 1 == 1

/-- A buffer starts on an 8-byte boundary and lies wholly in open banks; an empty buffer is not checked (R506). -/
def State.bufOk (s : State) (a n : Nat) : Bool :=
  if n = 0 then true
  else a % 8 == 0 && (List.range ((a + n - 1) / 262144 - a / 262144 + 1)).all fun k => s.hOpen (a / 262144 + k)

/-- The page's base address. -/
def pageBase (p : Nat) : Nat := 0x400C0000 + p * 0x1000

end Sys2Proof.Machine
end

