-- ==== Sys2Proof/Machine/Lgc.lean ====
section
/-!
DEFINITION. The resources of the fabric as functions of their inputs: what the stored frames set, LUT, flip-flop and carry chain of a cell,
block-memory shapes, SECDED words, the arithmetic slice and the sources of a clock line (R216 to R225, R229 to R233, R249 to R256, R944).
-/
namespace Sys2Proof.Machine

/-- Replace the state of the fabric's resources. -/
def State.setLgc (s : State) (f : LogicState → LogicState) : State := s.withLgc (f s.lgc)

/-! ### What the image sets -/

/-- A frame as it is stored, wrong bits included. -/
def State.storedFrame (s : State) (a : Nat) : BitVec 2048 := cellRead s.fab.frames a ^^^ (cellRead s.fab.upsets a).setWidth 2048

/-- Every frame as it is stored. -/
def State.storedFrames (s : State) : Cells 2048 := s.fab.upsets.foldl (fun m u => cellWrite m u.1 (s.storedFrame u.1)) s.fab.frames

/-- Property `prop` of resource `i` of a kind, as the stored frames set it (R219). The spec does not say which frame bit sets what, so
the reading of the frames is a function without a body (log entry 68). Kinds: 0 cell, 1 tile, 2 block memory, 3 slice, 4 clock line of a
region, 5 deep-memory bank, 6 boundary crossing, 7 global multiplexer. -/
def State.imageSets (s : State) (kind i prop : Nat) : Nat := Config.imageSets s.storedFrames kind i prop

/-- A one-bit property. -/
def State.imageBit (s : State) (kind i prop : Nat) : Bool := s.imageSets kind i prop % 2 == 1

/-- What the image sets for a cell (R218, R220, R224). -/
structure CellSets where
  lut : BitVec 64
  split : Bool
  paired : Bool
  reaction : Reaction
  initA : Bool
  initB : Bool
  /-- Set/reset asynchronous, and active high: one setting for the whole tile. -/
  srAsync : Bool
  srHigh : Bool
  /-- FFA takes LO, else its direct data input. -/
  lutA : Bool
  /-- FFB takes 0 LO, 1 HI, else its direct data input. -/
  sourceB : Nat
  /-- The clock line: 0 to 31 global, 32 + j regional line j. -/
  line : Nat
deriving DecidableEq, Repr

/-- The key of a cell: region × 2^17 + tile × 8 + cell. -/
def cellKey (r tile cell : Nat) : Nat := r * 131072 + tile * 8 + cell

/-- The reaction coded by a number. -/
def reactionOf (n : Nat) : Reaction := match n % 3 with | 0 => .followA | 1 => .safe0 | _ => .safe1

/-- The settings of the cell with key `k`. -/
def State.cellSets (s : State) (k : Nat) : CellSets where
  lut := BitVec.ofNat 64 (s.imageSets 0 k 0)
  split := s.imageBit 0 k 1
  paired := s.imageBit 0 k 2
  reaction := reactionOf (s.imageSets 0 k 3)
  initA := s.imageBit 0 k 4
  initB := s.imageBit 0 k (if s.imageBit 0 k 2 then 4 else 5)
  srAsync := s.imageBit 1 (k / 8) 0
  srHigh := s.imageBit 1 (k / 8) 1
  lutA := s.imageBit 0 k 6
  sourceB := s.imageSets 0 k 7 % 3
  line := s.imageSets 0 k 8 % 48

/-! ### LUT (R218) -/

/-- LO of a LUT with contents `lut` at inputs `i`, input n in bit n: one function of six inputs, or with SPLIT the lower 32 bits at
inputs I0 to I4. -/
def lutLo (lut : BitVec 64) (split : Bool) (i : BitVec 6) : Bool := lut.getLsbD (if split then i.toNat % 32 else i.toNat)

/-- HI of a split LUT: the upper 32 bits at inputs I0 to I4. -/
def lutHi (lut : BitVec 64) (i : BitVec 6) : Bool := lut.getLsbD (32 + i.toNat % 32)

/-! ### Flip-flops (R220, R222) -/

/-- The inputs of a cell at an edge of its clock: LUT inputs, direct data inputs of FFA and FFB, clock enables and set/reset inputs. -/
structure CellIn where
  lut : BitVec 6
  dirA : Bool
  dirB : Bool
  ceA : Bool
  ceB : Bool
  srA : Bool
  srB : Bool
deriving DecidableEq, Repr

/-- The data that FFA takes. -/
def CellSets.dataA (c : CellSets) (x : CellIn) : Bool := if c.lutA then lutLo c.lut c.split x.lut else x.dirA

/-- The data that FFB takes: in paired mode that of FFA; its direct data input is I5 in a split cell. -/
def CellSets.dataB (c : CellSets) (x : CellIn) : Bool :=
  if c.paired then c.dataA x
  else
    match c.sourceB with
    | 0 => lutLo c.lut c.split x.lut
    | 1 => lutHi c.lut x.lut
    | _ => if c.split then x.lut.getLsbD 5 else x.dirB

/-- A set/reset input is active. -/
def CellSets.srActive (c : CellSets) (sr : Bool) : Bool := sr == c.srHigh

/-- A flip-flop after a rising edge: set/reset gives INIT, coded 0, else the enabled clock takes the data, coded 2 + value. That
set/reset acts whether the clock enable is high or low is the model's choice (log entry 68). -/
def flopNext (now : BitVec 2) (reset ce d : Bool) : BitVec 2 := if reset then 0 else if ce then (if d then 3 else 2) else now

/-! ### Carry chain (R221) -/

/-- Tiles of a region column: a chain of 4,096 bits at 16 bits per tile has 256. Tiles are taken to count upward, column by column. -/
def columnTiles : Nat := 256

/-- Bits that a chain starting in tile `tile` can have before it ends at the top of its column. -/
def chainRoom (tile : Nat) : Nat := 16 * (columnTiles - tile % columnTiles)

/-- The sums of a carry chain over operand bits, lowest first, with carry `c` in. -/
def chainSums (c : Bool) : List (Bool × Bool) → List Bool
  | [] => []
  | (a, b) :: rest => (a ^^ (b ^^ c)) :: chainSums ((a && b) || (c && (a ^^ b))) rest

/-! ### SECDED words (R232, R233, R944) -/

/-- Wrong bits of a word. -/
def wrongBits (bad : BitVec 72) : Nat := (List.range 72).countP fun i => bad.getLsbD i

/-- The word a SECDED read returns with SBE and DBE: `data` is the word as written, `bad` its wrong bits, the eight check bits on top.
With three or more wrong bits what happens is open, and `luck` decides. -/
def eccRead (data : BitVec 64) (bad : BitVec 72) (luck : Nat) : BitVec 64 × Bool × Bool :=
  let stored := data ^^^ bad.setWidth 64
  match wrongBits bad with
  | 0 => (data, false, false)
  | 1 => (data, true, false)
  | 2 => (stored, false, true)
  | _ =>
    match luck % 3 with
    | 0 => (stored, false, true)
    | 1 => (BitVec.ofNat 64 (luck / 3), true, false)
    | _ => (stored, false, false)

/-! ### Block memory (R229, R231) -/

/-- The port shapes of Table FAB-3. -/
inductive BramShape where
  | e64 | w72 | w36 | w18 | w9
deriving DecidableEq, Repr

/-- Width of a word of a shape. -/
def BramShape.width : BramShape → Nat
  | .e64 => 64
  | .w72 => 72
  | .w36 => 36
  | .w18 => 18
  | .w9 => 9

/-- Words of a shape in one stored row of 72 bits; the depth is 1,024 times this. -/
def BramShape.perRow : BramShape → Nat
  | .e64 => 1
  | .w72 => 1
  | .w36 => 2
  | .w18 => 4
  | .w9 => 8

/-- Bits of a word of the shape that the byte enables `be` let a write change. -/
def BramShape.mask (sh : BramShape) (be : BitVec 9) : BitVec 72 :=
  let bytes (n w : Nat) : BitVec 72 := (List.range n).foldl (fun m i => if be.getLsbD i then m ||| (BitVec.ofNat 72 (2 ^ w - 1) <<< (w * i)) else m) 0
  match sh with
  | .e64 => BitVec.ofNat 72 (2 ^ 64 - 1)
  | .w72 => bytes 9 8
  | .w36 => bytes 4 9
  | .w18 => bytes 2 9
  | .w9 => BitVec.ofNat 72 (2 ^ 9 - 1)

/-- The word at place `sub` of a row. -/
def BramShape.pick (sh : BramShape) (row : BitVec 72) (sub : Nat) : BitVec 72 := (row >>> (sub * sh.width)) &&& BitVec.ofNat 72 (2 ^ sh.width - 1)

/-- The row after a write of `data` at place `sub`. -/
def BramShape.merge (sh : BramShape) (row data : BitVec 72) (be : BitVec 9) (sub : Nat) : BitVec 72 :=
  let m := sh.mask be <<< (sub * sh.width)
  (row &&& ~~~m) ||| ((data <<< (sub * sh.width)) &&& m)

/-- What a port's read data shows when the port writes (R231). -/
inductive BramMode where
  | prior | written | keep
deriving DecidableEq, Repr

/-- A port's inputs at an edge of its clock. -/
structure BramOp where
  en : Bool
  we : Bool
  be : BitVec 9
  addr : Nat
  data : BitVec 72
deriving DecidableEq, Repr

/-- The shape of block memory `m` (region × 288 + number). -/
def State.bramShape (s : State) (m : Nat) : BramShape :=
  match s.imageSets 2 m 0 % 5 with
  | 0 => .e64
  | 1 => .w72
  | 2 => .w36
  | 3 => .w18
  | _ => .w9

/-- The write mode of port `p` (0 A, 1 B), and whether its output register is used. -/
def State.bramMode (s : State) (m p : Nat) : BramMode :=
  match s.imageSets 2 m (1 + p) % 3 with
  | 0 => .prior
  | 1 => .written
  | _ => .keep

def State.bramReg (s : State) (m p : Nat) : Bool := s.imageBit 2 m (3 + p)

/-- Port B of block memory `m` is left unused (R234). -/
def State.bramPortBFree (s : State) (m : Nat) : Bool := s.imageBit 2 m 5

/-- The clock line of port `p` within its region. -/
def State.bramLine (s : State) (m p : Nat) : Nat := s.imageSets 2 m (6 + p) % 48

/-- A register that was written since its region's release, marked in its top bit, else the value `start` that nothing states. -/
def knownOr {w : Nat} (m : Cells (w + 1)) (k : Nat) (start : BitVec w) : BitVec w :=
  let v := cellRead m k
  if v.getLsbD w then v.setWidth w else start

/-- A known value. -/
def markKnown {w : Nat} (v : BitVec w) : BitVec (w + 1) := (v.setWidth (w + 1)) ||| (1#(w + 1) <<< w)

/-! ### Arithmetic slice (R249 to R254) -/

/-- The modes of Table FAB-4. -/
inductive SliceMode where
  | prod | psprod | macc | psmacc | sqacc | chain | chainacc | sum48
deriving DecidableEq, Repr

/-- What the image sets for a slice: the mode, the sign of presum and of the sum, the stage registers used (0 X, 1 Y, 2 Z, 3 W, 4 presum,
5 product, 6 ACC), saturation of ACC, and ROUND with SHIFT. -/
structure SliceSets where
  mode : SliceMode
  zSub : Bool
  sub : Bool
  regs : BitVec 7
  sat : Bool
  round : Bool
  shift : Nat
deriving DecidableEq, Repr

/-- The mode coded by a number. -/
def sliceModeOf (n : Nat) : SliceMode :=
  match n % 8 with
  | 0 => .prod
  | 1 => .psprod
  | 2 => .macc
  | 3 => .psmacc
  | 4 => .sqacc
  | 5 => .chain
  | 6 => .chainacc
  | _ => .sum48

/-- The settings of slice `k` (region × 320 + column × 40 + row). -/
def State.sliceSets (s : State) (k : Nat) : SliceSets where
  mode := sliceModeOf (s.imageSets 3 k 0)
  zSub := s.imageBit 3 k 1
  sub := s.imageBit 3 k 2
  regs := BitVec.ofNat 7 (s.imageSets 3 k 3)
  sat := s.imageBit 3 k 4
  round := s.imageBit 3 k 5
  shift := s.imageSets 3 k 6 % 33

/-- Inputs of a slice at an edge: clock enable, X, Y, Z and W. -/
structure SliceIn where
  en : Bool
  x : BitVec 24
  y : BitVec 24
  z : BitVec 24
  w : BitVec 48
deriving DecidableEq, Repr

/-- The values in a slice's stages. -/
structure SliceStage where
  x : Int
  y : Int
  z : Int
  w : Int
  p : Int
  m : Int
  acc : Int
deriving DecidableEq, Repr

/-- Hold a value to a signed range of `w` bits. -/
def holdTo (w : Nat) (v : Int) : Int := clampInt (-(2 ^ (w - 1))) (2 ^ (w - 1) - 1) v

/-- The presum before it is held (R251); SQACC subtracts. -/
def SliceSets.presum (c : SliceSets) (x z : Int) : Int := if c.zSub || c.mode == .sqacc then x - z else x + z

/-- The product of a mode, from X, Y and the held presum (Table FAB-4); SUM48 has the 48 bits X:Y in its place. -/
def SliceSets.product (c : SliceSets) (x y p : Int) : Int :=
  match c.mode with
  | .prod | .macc | .chain | .chainacc => x * y
  | .psprod | .psmacc => p * y
  | .sqacc => p * p
  | .sum48 => x * 2 ^ 24 + y % 2 ^ 24

/-- The true result of a mode (Table FAB-4). -/
def SliceSets.result (c : SliceSets) (acc chin m w : Int) : Int :=
  let t := if c.sub then -m else m
  match c.mode with
  | .prod | .psprod => m
  | .macc | .psmacc => acc + t
  | .sqacc => acc + m
  | .chain => chin + t
  | .chainacc => acc + chin + t
  | .sum48 => w + t

/-- ACC from a true result: saturated or wrapped at 64 bits (R252). -/
def SliceSets.fit (c : SliceSets) (v : Int) : Int := if c.sat then holdTo 64 v else signed 64 (unsigned 64 v)

/-- Stage `i` has its register. -/
def SliceSets.has (c : SliceSets) (i : Nat) : Bool := c.regs.getLsbD i

/-- The presum that is formed from the present stages, before it is held. -/
def SliceSets.psum (c : SliceSets) (st : SliceStage) (i : SliceIn) : Int :=
  c.presum (if c.has 0 then st.x else signed 24 i.x.toNat) (if c.has 2 then st.z else signed 24 i.z.toNat)

/-- The product that is formed from the present stages. -/
def SliceSets.mult (c : SliceSets) (st : SliceStage) (i : SliceIn) : Int :=
  c.product (if c.has 0 then st.x else signed 24 i.x.toNat) (if c.has 1 then st.y else signed 24 i.y.toNat)
    (if c.has 4 then st.p else holdTo 24 (c.psum st i))

/-- The true result that is formed from the present stages. -/
def SliceSets.sum (c : SliceSets) (st : SliceStage) (i : SliceIn) (acc chin : Int) : Int :=
  c.result acc chin (if c.has 5 then st.m else c.mult st i) (if c.has 3 then st.w else signed 48 i.w.toNat)

/-- What an enabled edge leaves in the stages, with PSAT and OVF. Every stage register takes what stood before it at the edge; a stage
without one passes its input on at once, and so does ACC (R250). -/
def SliceSets.edge (c : SliceSets) (st : SliceStage) (i : SliceIn) (chin : Int) : SliceStage × Bool × Bool :=
  let next : SliceStage := { x := signed 24 i.x.toNat, y := signed 24 i.y.toNat, z := signed 24 i.z.toNat, w := signed 48 i.w.toNat,
                             p := holdTo 24 (c.psum st i), m := c.mult st i, acc := st.acc }
  let v := c.sum (if c.has 6 then st else next) i st.acc chin
  let ps := c.psum (if c.has 6 then st else next) i
  ({ next with acc := c.fit v }, decide (holdTo 24 ps ≠ ps), decide (holdTo 64 v ≠ v))

/-- n / 2^k rounded to nearest, ties to even. -/
def roundEven (n : Int) (k : Nat) : Int :=
  let d : Int := 2 ^ k
  let q := n / d
  let r := n % d
  if 2 * r < d then q else if d < 2 * r then q + 1 else if q % 2 = 0 then q else q + 1

/-- The output R with RSAT: ACC whole, or rounded and saturated to 32 bits (R253). -/
def SliceSets.outR (c : SliceSets) (acc : Int) : Int × Bool :=
  if c.round then
    let v := roundEven acc c.shift
    (holdTo 32 v, decide (holdTo 32 v ≠ v))
  else (acc, false)

/-! ### Clock lines (R255 to R258) -/

/-- The sources of a clock line. -/
inductive ClockSource where
  | fpll (n output : Nat) | lpll (n : Nat) | pin (k : Nat) | housekeeping | line (n : Nat)
deriving DecidableEq, Repr

/-- Source `sel` (0 or 1) of global multiplexer `l`. -/
def State.globalSource (s : State) (l sel : Nat) : ClockSource :=
  let v := s.imageSets 7 l sel % 47
  if v < 32 then .fpll (v / 4) (v % 4) else if v < 34 then .lpll (v - 32) else if v < 46 then .pin (v - 34) else .housekeeping

/-- Source of regional line `j` of region `r`. -/
def State.regionalSource (s : State) (r j : Nat) : ClockSource :=
  let v := s.imageSets 4 (r * 48 + 32 + j) 1 % 76
  if v < 32 then .line v else if v < 64 then .fpll ((v - 32) / 4) (v % 4) else .pin (v - 64)

/-- Output `k` of FPLL `n` in kHz: the VCO over the divider that was applied last, 0 where that turns it off (R318). -/
def State.fpllKhz (s : State) (n k : Nat) : Nat :=
  let v := s.pll.pll[n]?.getD Pll.off
  v.freq.toNat / bitsOf v.div (8 * k) 8

/-- A PLL source carries edges where its PLL is locked and unmuted (R258) and its divider is not 0 (R318). -/
def State.sourceRuns (s : State) : ClockSource → Bool
  | .fpll n k => s.bit (PLL_STATUS_LOCKED n) && !s.bit (PLL_STATUS_MUTED n) && s.fpllKhz n k != 0
  | .lpll n => s.bit (PLL_STATUS_LOCKED (8 + n)) && !s.bit (PLL_STATUS_MUTED (8 + n))
  | .pin _ => true
  | .housekeeping => true
  | .line _ => false

/-- Global line `l` carries edges: its gate is open and the source that SEL names runs. -/
def State.globalRuns (s : State) (l : Nat) : Bool :=
  s.fab.ce.getLsbD l && s.sourceRuns (s.globalSource l (if s.fab.sel.getLsbD l then 1 else 0))

/-- Line `l` carries edges in region `r`: 0 to 31 global, 32 + j its own line j, gated by CE 32 + 16r + j. -/
def State.lineRuns (s : State) (r l : Nat) : Bool :=
  if l < 32 then s.globalRuns l
  else
    s.fab.ce.getLsbD (r * 16 + l) &&
    match s.regionalSource r (l - 32) with
    | .line g => s.globalRuns g
    | c => s.sourceRuns c

/-- Domains in use in region `r`: a line that the image's frames route to at least one configured flip-flop of the region (R275). -/
def State.linesUsed (s : State) (r : Nat) : BitVec 48 :=
  (List.range 48).foldl (fun m l => if s.imageBit 4 (r * 48 + l) 0 then m ||| (1#48 <<< l) else m) 0#48

end Sys2Proof.Machine
end

