-- ==== Sys2Proof/Machine/Fab.lean ====
section
/-!
DEFINITION. The fabric as the hard blocks see it, the configuration frames with their check codes, and the scrubber (R167 to R173,
R222 to R224, R236 to R245, R257, R263, R270, R273 to R279, R280 to R292, R308 to R315).
-/
namespace Sys2Proof.Machine

/-- Replace the fabric's hidden state. -/
def State.setFab (s : State) (f : FabState → FabState) : State := s.withFab (f s.fab)

/-- Region `r` is isolated for a partial load (R299). -/
def State.isolatedR (s : State) (r : Nat) : Bool := s.fab.isolated.getLsbD r

/-! ### Frames (R167, R168, R173) -/

/-- A frame's bits from its 256 data bytes, byte i holding bits [8i+7:8i]. -/
def frameOf (bs : List Byte) : BitVec 2048 := BitVec.ofNat 2048 (leNat (bs.take 256))

/-- Write a frame: its check bits are computed with it, so that no wrong bit remains. -/
def State.putFrame (s : State) (a : Nat) (v : BitVec 2048) : State :=
  s.setFab fun f => { f with frames := cellWrite f.frames a v, upsets := cellErase f.upsets a, uncorr := f.uncorr.filter (· != a),
                             fixes := f.fixes.filter fun x => x.1 != a }

/-- Write consecutive frames. -/
def State.putFrames (s : State) (a : Nat) : List (BitVec 2048) → State
  | [] => s
  | v :: vs => (s.putFrame a v).putFrames (a + 1) vs

/-- The CRC-32 over a region's 8,192 × 256 bytes in address order (R173). -/
def State.regionCrc (s : State) (r : Nat) : Word :=
  crc32 ((List.range 8192).flatMap fun i => leBytes 256 (s.storedFrame (r * 8192 + i)).toNat)

/-! ### Frame check codes (R282 to R284, Table SCR-2) -/

/-- h(k) of R282. -/
def checkH (k : Nat) : Nat := if k = 0 then 0xFF else k

/-- What the wrong data bits of code `c` contribute to its check bits. -/
def dataSyndrome (e : BitVec 2112) (c : Nat) : Nat :=
  (List.range 256).foldl (fun x k => if e.getLsbD (8 * k + c) then Nat.xor x (checkH k) else x) 0

/-- The syndrome of code `c` for a frame with wrong bits `e`. -/
def syndrome (e : BitVec 2112) (c : Nat) : Nat := Nat.xor (dataSyndrome e c) (e.toNat / 2 ^ (2048 + 8 * c) % 256)

/-- The eight syndromes. -/
def syndromes (e : BitVec 2112) : List Nat := (List.range 8).map (syndrome e)

/-- A syndrome that two positions share: 0xFF or a power of two. -/
def ambiguousSyndrome (x : Nat) : Bool := x == 0xFF || [1, 2, 4, 8, 16, 32, 64, 128].contains x

/-- The classes of Table SCR-2. -/
inductive FrameClass where
  | clean | located | ambiguous
deriving DecidableEq, Repr

/-- The class of a frame with wrong bits `e`. -/
def frameClass (e : BitVec 2112) : FrameClass :=
  let ss := syndromes e
  if ss.all (· == 0) then .clean else if ss.any ambiguousSyndrome then .ambiguous else .located

/-- CODES: bit c is set where the syndrome of code c is not zero. -/
def codesOf (e : BitVec 2112) : Nat := (List.range 8).foldl (fun x c => if syndrome e c = 0 then x else x + 2 ^ c) 0

/-- The wrong bits that a correction leaves: data bit 8 × S_c + c flips for each non-zero syndrome, and the check bits are computed
from the data as then stored. A frame with more wrong bits than the codes can tell keeps or gains wrong data bits. -/
def corrected (e : BitVec 2112) : BitVec 2112 :=
  let flips := (List.range 8).foldl (fun (x : BitVec 2112) c => if syndrome e c = 0 then x else x ^^^ (1#2112 <<< (8 * syndrome e c + c))) 0#2112
  let d := ((e ^^^ flips).setWidth 2048).setWidth 2112
  (List.range 8).foldl (fun x c => x ||| (BitVec.ofNat 2112 (dataSyndrome d c) <<< (2048 + 8 * c))) d

/-! ### The scrubber (R281 to R292, R308, R313 to R315) -/

/-- The critical regions that a SCR_CTRL word names (R288). -/
def critOf (w : Word) : List Nat :=
  let a := bitsOf w 0 8
  let b := bitsOf w 8 8
  (if a < 16 then [a] else []) ++ (if b < 16 ∧ b ≠ a then [b] else [])

/-- The critical regions of the present period. -/
def State.critNow (s : State) : List Nat := critOf s.fab.ctrl

/-- Regions of the present passes: critical or standard, those isolated skipped (R286). -/
def State.critRegions (s : State) : List Nat := s.critNow.filter fun r => !s.isolatedR r

def State.stdRegions (s : State) : List Nat := (List.range 16).filter fun r => !s.critNow.contains r && !s.isolatedR r

/-- A critical period begins its pass, at slot 0 (R280, R287). -/
def State.critBegin (s : State) : State :=
  let s := s.setFab fun f => { f with ctrl := s.word SCR_CTRL }
  s.setFab fun f => { f with critLeft := s.critRegions, slot := 0, critSlots := 0 }

/-- A standard pass begins. -/
def State.stdBegin (s : State) : State := s.setFab fun f => { f with stdLeft := s.stdRegions, prSince := 0, stdAt := 0, stdSlots := 0 }

/-- The critical period and the standard pass start, at fabric release (R88, R313, R315). -/
def State.scrubStart (s : State) : State := ((s.setFab fun f => { f with critLate := [], critAt := 0 }).critBegin).stdBegin

/-- Slots are counted: in Running, not in a drain (Table PWR-3, R314). -/
def State.slotsRun (s : State) : Bool := s.dev == .running && s.bit FAB_STATUS_RELEASED

/-- The scrubber may read a frame of region `r`: in Running with EN, or in the wake timeline where the region is critical (R315). -/
def State.scrubs (s : State) (r : Nat) : Bool :=
  !s.isolatedR r && ((s.slotsRun && bitsOf s.fab.ctrl 16 1 == 1) || (s.dev == .watch && s.pwr.wake == 4 && (critOf (s.word SCR_CTRL)).contains r))

/-- SCR_FIRST, where it holds nothing (R16). -/
def State.scrFirst (s : State) (kind codes addr : Nat) : State :=
  s.iff (!s.bit SCR_FIRST_VALID) fun s => (((s.set SCR_FIRST_VALID).put SCR_FIRST_KIND kind).put SCR_FIRST_CODES codes).put SCR_FIRST_ADDR addr

/-- DETAIL of a frame's fault: frame address and CODES, placed as SCR_FIRST places them. -/
def frameDetail (addr codes : Nat) : Nat := codes * 2 ^ 21 + addr

/-- An ambiguous frame is reported and left as found (R283, R289). -/
def State.frameUncorr (s : State) (a codes : Nat) : State :=
  let s := s.setFab fun f => { f with uncorr := a :: f.uncorr.filter (· != a) }
  let s := ((s.scrFirst 2 codes a).satInc SCR_ERR_COUNT_UNC SCR_ERR_COUNT_UNC_OVF).set SCR_STATUS_UNCORR
  s.report 8 (a / 8192) (frameDetail a codes)

/-- A scrub read of frame `i` of region `r`, at which the wrong bits `flips` have come in since the frame was last read (R283). -/
def State.scrubRead (s : State) (r i : Nat) (flips : List (Fin 2112)) : State :=
  let a := r * 8192 + i
  let e := flips.foldl (fun (x : BitVec 2112) n => x ^^^ (1#2112 <<< n.val)) (cellRead s.fab.upsets a)
  let s := s.setFab fun f => { f with upsets := cellWrite f.upsets a e }
  if !s.scrubs r then s
  else
    match frameClass e with
    | .clean => s
    | .ambiguous => s.frameUncorr a (codesOf e)
    | .located => s.setFab fun f => { f with fixes := f.fixes ++ [(a, corrected e, codesOf e)] }

/-- The oldest pending correction is written and reported (R284, R289). -/
def State.correctionWrite (s : State) : State :=
  match s.fab.fixes with
  | [] => s
  | (a, e, codes) :: rest =>
    let s := s.setFab fun f => { f with fixes := rest, upsets := cellWrite f.upsets a e, uncorr := f.uncorr.filter (· != a) }
    let s := ((s.scrFirst 1 codes a).satInc SCR_ERR_COUNT_CORR SCR_ERR_COUNT_CORR_OVF).set SCR_STATUS_CORRECTED
    s.report 7 (a / 8192) (frameDetail a codes)

/-- A pass ran late (R292): `std` tells which, `us` how long it is. -/
def State.scrubLate (s : State) (std : Bool) (us : Nat) : State := (s.set SCR_STATUS_LATE).report 10 (if std then 1 else 0) us

/-- The regions that the late critical pass and the present one have still to read. -/
def State.critTodo (s : State) : List Nat := (s.fab.critLate ++ s.fab.critLeft).filter fun r => !s.isolatedR r

/-- A critical period begins (R287, R288, R292): what a late pass has left is read before the new pass. -/
def State.criticalPeriod (s : State) : State :=
  if !s.slotsRun then s
  else
    let late := bitsOf s.fab.ctrl 16 1 == 1 && !s.critTodo.isEmpty
    let s := s.iff late fun s => s.scrubLate false 1815
    let s := s.setFab fun f => { f with critLate := if late then s.critTodo else [] }
    let old := s.critNow
    let s := s.critBegin
    s.iff (s.critNow != old) (·.stdBegin)

/-- The CRC comparison at the end of a pass over region `r` (R285). Table SCR-8 has SCR_FIRST.ADDR show 'region only'; the address of the
region's first frame stands for it (DESIGN CHOICE, log entry 29). -/
def State.regionCheck (s : State) (r : Nat) : State :=
  let crc := s.regionCrc r
  if crc == s.word (CFG_REGION_CRC r) then s
  else
    let s := s.setFab fun f => { f with badCrc := f.badCrc ||| (1#16 <<< r) }
    let s := ((s.scrFirst 3 0 (r * 8192)).satInc SCR_ERR_COUNT_UNC SCR_ERR_COUNT_UNC_OVF).set SCR_STATUS_CRC_FAIL
    s.report 9 r crc.toNat

/-- The bound of a standard pass in ns (Table SCR-3, R291): 82.5 ns more for every frame that partial loads have written since it began. -/
def State.stdBound (s : State) : Nat :=
  (match s.critNow.length with
   | 0 => 10820000
   | 1 => 16200000
   | _ => 37100000) + s.fab.prSince * 825 / 10

/-- A standard pass completes after `ns`. -/
def State.stdPassEnd (s : State) (ns : Nat) : State :=
  let late := decide (s.stdBound < ns)
  let s := (s.satInc SCR_STD_PASSES_COUNT SCR_STATUS_STD_OVF).set SCR_STATUS_STD_PASS
  let s := s.put SCR_PASS_TIME_STD (min (ns / 10000) 65535)
  let s := s.iff late fun s => s.scrubLate true (ns / 1000)
  s.stdBegin

/-- A critical pass completes after `ns`. -/
def State.critPassEnd (s : State) (ns : Nat) : State :=
  (s.satAdd2 SCR_CRIT_PASSES_LO_COUNT SCR_CRIT_PASSES_HI_COUNT SCR_STATUS_CRIT_OVF 1).put SCR_PASS_TIME_CRIT (min (ns / 100) 65535)

/-- A pass over region `r` ends; with it the whole pass, of length `ns`, where `r` was its last region (R285, R292). -/
def State.scrubPassEnd (s : State) (r ns : Nat) : State :=
  if !(s.slotsRun && s.scrubs r) then s
  else if s.fab.critLate.contains r then
    let s := (s.regionCheck r).setFab fun f => { f with critLate := f.critLate.filter (· != r) }
    s.iff (!s.fab.critLate.any fun q => !s.isolatedR q) (·.critPassEnd ns)
  else if s.critNow.contains r then
    if !s.fab.critLeft.contains r then s
    else
      let s := (s.regionCheck r).setFab fun f => { f with critLeft := f.critLeft.filter (· != r) }
      s.iff (!s.fab.critLeft.any fun q => !s.isolatedR q) (·.critPassEnd ns)
  else
    let left := s.fab.stdLeft.filter fun q => !s.isolatedR q
    let left := if left.isEmpty then s.stdRegions else left
    if !left.contains r then s
    else
      let s := (s.regionCheck r).setFab fun f => { f with stdLeft := left.filter (· != r) }
      s.iff (s.fab.stdLeft.isEmpty) (·.stdPassEnd ns)

/-! ### The slots of the configuration port (R280, R281, R286, Table SCR-1) -/

/-- The claimants of a slot. -/
inductive SlotClaim where
  | fix | crit | std | load
deriving DecidableEq, Repr

/-- The claimant that slot `n` of a period goes to, with `load` where a partial load has a frame to write. -/
def State.slotWinner (s : State) (n : Nat) (load : Bool) : Option SlotClaim :=
  let on := s.slotsRun && bitsOf s.fab.ctrl 16 1 == 1
  let std := on && !s.stdRegions.isEmpty
  if !s.fab.fixes.isEmpty then some .fix
  else if on && !s.critTodo.isEmpty && n % 4 != 3 then some .crit
  else if std && n % 8 == 3 then some .std
  else if load then some .load
  else if std then some .std
  else none

/-- The port serves `c`: the slots up to the next one that goes to it, at most eight on, have passed. -/
def State.slotTaken (s : State) (c : SlotClaim) : State :=
  let load := c == .load
  let k := ((List.range 8).find? fun k => s.slotWinner (s.fab.slot + k) load == some c).getD 0 + 1
  s.setFab fun f => { f with slot := (f.slot + k) % 22000, critSlots := f.critSlots + k, stdSlots := f.stdSlots + k }

/-- The first frame from `a` on in the regions `rs`, which are read in ascending address. -/
def frameFrom (rs : List Nat) (a : Nat) : Nat :=
  let up := (List.range 16).filter rs.contains
  if up.contains (a / 8192) then a else ((up.find? fun r => decide (a / 8192 < r)).getD (up.headD 0)) * 8192

/-- The scrubber itself reads the next frame of the critical or the standard pass; the last one of a region ends the pass over it. -/
def State.passRead (s : State) (crit : Bool) : State :=
  let rs := if crit then (if s.fab.critLate.isEmpty then s.critTodo else s.critTodo.filter s.fab.critLate.contains)
    else s.fab.stdLeft.filter fun r => !s.isolatedR r
  let a := frameFrom rs (if crit then s.fab.critAt else s.fab.stdAt)
  let s := s.scrubRead (a / 8192) (a % 8192) []
  let s := s.setFab fun f => if crit then { f with critAt := a + 1 } else { f with stdAt := a + 1 }
  s.iff (a % 8192 == 8191) fun s =>
    s.scrubPassEnd (a / 8192) ((if crit then s.fab.critSlots else s.fab.stdSlots) * 825 / 10)

/-- One slot goes by at the port with no partial load writing. -/
def State.scrubSlot (s : State) : State :=
  if !s.slotsRun then s
  else
    let w := s.slotWinner s.fab.slot false
    let s := s.setFab fun f => { f with slot := f.slot + 1, critSlots := f.critSlots + 1, stdSlots := f.stdSlots + 1 }
    let s := match w with
      | some .fix => s.correctionWrite
      | some .crit => s.passRead true
      | some .std => s.passRead false
      | _ => s
    s.iff (decide (22000 ≤ s.fab.slot)) (·.criticalPeriod)

/-- `n` slots. -/
def State.scrubSlots (s : State) : Nat → State
  | 0 => s
  | n + 1 => s.scrubSlot.scrubSlots n

/-- An upset of a frame's bit, 0 to 2,111. -/
def State.frameUpset (s : State) (a bit : Nat) : State :=
  s.setFab fun f => { f with upsets := cellWrite f.upsets a (cellRead f.upsets a ^^^ (1#2112 <<< bit)) }

/-- SCRUB_READ in the slot that goes to it; the pass stands after the frame. -/
def State.scrubReadSlot (s : State) (r i : Nat) (flips : List (Fin 2112)) : State :=
  let crit := s.critNow.contains r
  let s := s.iff s.slotsRun fun s =>
    let s := s.slotTaken (if crit then .crit else .std)
    s.setFab fun f => if crit then { f with critAt := r * 8192 + i + 1 } else { f with stdAt := r * 8192 + i + 1 }
  s.scrubRead r i flips

/-- CORRECTION_WRITE in its slot. -/
def State.correctionSlot (s : State) : State := (s.iff (s.slotsRun && !s.fab.fixes.isEmpty) (·.slotTaken .fix)).correctionWrite

/-! ### Paired cells, memories and clock lines (R222 to R224, R237, R257, R270, R273 to R275) -/

/-- The compares and sweeps of region `r` run. -/
def State.fabricRuns (s : State) (r : Nat) : Bool := s.bit FAB_STATUS_RELEASED && s.inService && !s.isolatedR r

/-- A flip-flop's value: `b` names FFB (R275). -/
def State.flop (s : State) (k : Nat) (b : Bool) : Bool :=
  let v := cellRead s.lgc.ff (2 * k + if b then 1 else 0)
  if v = 0 then (if b then (s.cellSets k).initB else (s.cellSets k).initA) else v == 3

/-- Set a flip-flop from its code: 0 INIT, 2 + value. -/
def State.putFlop (s : State) (k : Nat) (b : Bool) (v : BitVec 2) : State :=
  s.setLgc fun l => { l with ff := cellWrite l.ff (2 * k + if b then 1 else 0) v }

/-- A flip-flop takes the other value: an upset, or a write of it. -/
def State.flopUpset (s : State) (k : Nat) (b : Bool) : State := s.putFlop k b (if s.flop k b then 2 else 3)

/-- A paired cell's output: the level that its reaction forces, else FFA (R224). -/
def State.pairedOut (s : State) (k : Nat) : Bool :=
  match s.fab.forced.find? fun x => x.1 == k with
  | some x => x.2
  | none => s.flop k false

/-- A compare finds the flip-flops of a paired cell different (R223, R224, R274); the image sets the reaction. -/
def State.pairMismatch (s : State) (r tile cell : Nat) : State :=
  if !s.fabricRuns r then s
  else
    let key := cellKey r tile cell
    let s := s.setFab fun f => { f with
      differ := key :: f.differ.filter (· != key),
      forced := match (s.cellSets key).reaction with
        | .followA => f.forced
        | .safe0 => (key, false) :: f.forced.filter fun x => x.1 != key
        | .safe1 => (key, true) :: f.forced.filter fun x => x.1 != key }
    let s := (s.set FAB_STATUS_PAIR).satInc FAB_PAIR_COUNT_COUNT FAB_PAIR_COUNT_OVF
    let s := s.iff (!s.bit FAB_PAIR_FIRST_VALID) fun s =>
      (((s.set FAB_PAIR_FIRST_VALID).put FAB_PAIR_FIRST_REGION r).put FAB_PAIR_FIRST_TILE tile).put FAB_PAIR_FIRST_CELL cell
    s.report 12 r (s.word FAB_PAIR_FIRST).toNat

/-- PAIR_MISMATCH: an upset has made one copy of a paired cell wrong, and which is not known, so it is free; the compare that follows finds
them different (R222). -/
def State.pairUpset (s : State) (r tile cell : Nat) : State :=
  let k := cellKey r tile cell
  let s := s.iff (s.fabricRuns r && s.flop k false == s.flop k true) fun s => (s.flopUpset k (s.draw % 2 == 1)).drawn
  s.pairMismatch r tile cell

/-- A sweep pass of region `r` has taken `us` (R237): `deep` names which sweep. -/
def State.sweepTime (s : State) (deep : Bool) (r us : Nat) : State :=
  let bound := if deep then 250000 else 64000
  if !s.fabricRuns r || decide (us ≤ bound) then s
  else
    let s := s.set (if deep then ⟨FAB_SWEEP_LATE, 16 + r, 1⟩ else ⟨FAB_SWEEP_LATE, r, 1⟩)
    s.report 17 r (if deep then 1 else 0)

/-- A memory error of codes 13 to 16 reaches the FAB counters and, unless its region is isolated, the guarantee unit (R270, R273).
`inst` is region × 288 + memory for block memory, the bank for deep memory; `source` is the port (Table FAB-10). -/
def State.memError (s : State) (n inst detail source : Nat) : State :=
  let deep := decide (15 ≤ n)
  let r := if deep then inst / 7 else inst / 288
  if !s.fabricRuns r then s
  else
    let dbe := n == 14 || n == 16
    let s :=
      match deep, dbe with
      | false, false => s.satInc FAB_BRAM_ECC_SBE FAB_BRAM_ECC_SBE_OVF
      | false, true => s.satInc FAB_BRAM_ECC_DBE FAB_BRAM_ECC_DBE_OVF
      | true, false => s.satInc FAB_DEEP_ECC_SBE FAB_DEEP_ECC_SBE_OVF
      | true, true => s.satInc FAB_DEEP_ECC_DBE FAB_DEEP_ECC_DBE_OVF
    let s := s.iff dbe (·.set FAB_STATUS_DBE)
    let s := s.iff (dbe && !s.bit FAB_ECC_FIRST_VALID) fun s =>
      let s := ((s.set FAB_ECC_FIRST_VALID).putB FAB_ECC_FIRST_DEEP deep).put FAB_ECC_FIRST_SOURCE source
      ((s.put FAB_ECC_FIRST_REGION r).put FAB_ECC_FIRST_MEM (if deep then inst % 7 else inst % 288)).put FAB_ECC_FIRST_WORD detail
    s.report n inst detail

/-- GHOLD follows the domains that are held (R275). -/
def State.ghold (s : State) : State := s.putB FAB_STATUS_GHOLD (s.fab.holds != 0)

/-- The line of a region that clock domain `d` is: domains 0 to 31 are the global lines, 32 + 16r + j line j of region r. -/
def domainLine (d : Nat) : Nat := if d < 32 then d else 32 + d % 16

/-- The hold bits of domain `d` in the regions that `among` names: a global line has one in each, a regional line in its own. -/
def holdBits (d : Nat) (among : BitVec 16) : BitVec 768 :=
  (List.range 16).foldl (fun m r =>
    if among.getLsbD r && (decide (d < 32) || (d - 32) / 16 == r) then m ||| (1#768 <<< (48 * r + domainLine d)) else m) 0#768

/-- Domain `d` carries edges in region `r`. -/
def State.domainRuns (s : State) (r d : Nat) : Bool := s.lineRuns r (domainLine d)

/-- A clock domain passes its 8th edge after release in the regions that `among` names (R275, R277). A line that carries no edges passes
none, and so keeps its flip-flops at INIT. -/
def State.gholdRelease (s : State) (d : Nat) (among : BitVec 16) : State :=
  if !s.bit FAB_STATUS_RELEASED || !s.inService || s.pwr.graceOver || !s.domainRuns ((d - 32) / 16) d then s
  else (s.setFab fun f => { f with holds := f.holds &&& ~~~(holdBits d among) }).ghold

/-- Every domain in use is held (R275). -/
def State.holdAll (s : State) : State :=
  let m := (List.range 16).foldl (fun (m : BitVec 768) r => m ||| ((s.linesUsed r).setWidth 768 <<< (48 * r))) 0#768
  (s.setFab fun f => { f with holds := m }).ghold

/-- The flip-flops of one region are held at its release, those of the others go on (R277). -/
def State.holdRegion (s : State) (r : Nat) : State :=
  let m := (s.linesUsed r).setWidth 768 <<< (48 * r)
  (s.setFab fun f => { f with holds := f.holds ||| m }).ghold

/-- A change of SEL of a global multiplexer or of CE of a line (R257). -/
def State.clockSwitch (s : State) (line : Nat) (sel ce : Bool) : State :=
  if !s.bit FAB_STATUS_RELEASED || !s.inService || s.pwr.graceOver then s
  else
    s.setFab fun f => { f with
      sel := if sel then f.sel ||| (1#32 <<< line) else f.sel &&& ~~~(1#32 <<< line),
      ce := if ce then f.ce ||| (1#288 <<< line) else f.ce &&& ~~~(1#288 <<< line) }

/-- Bytes of deep-memory bank `b` set to zero. -/
def State.zeroBank (s : State) (b : Nat) : State :=
  s.withDeep (s.deep.filter fun c => decide (c.1 < b * 262144) || decide ((b + 1) * 262144 ≤ c.1))

/-- Entries of cells whose key lies outside `[lo, hi)`. -/
def keepOutside {w : Nat} (lo hi : Nat) (m : Cells w) : Cells w := m.filter fun c => decide (c.1 < lo) || decide (hi ≤ c.1)

/-- What leaves with region `r` at its release: its flip-flops take INIT, its memories hold zero with valid ECC, its sweeps restart from
word 0 (R248, R277); what its slices and memory ports show is not stated (log entry 68). -/
def LogicState.releaseRegion (l : LogicState) (r : Nat) : LogicState :=
  let cut {w : Nat} (size : Nat) (m : Cells w) : Cells w := keepOutside (r * size) ((r + 1) * size) m
  { l with
    ff := cut 262144 l.ff, bram := cut 294912 l.bram, bramBad := cut 294912 l.bramBad, bramOut := cut 1152 l.bramOut,
    bramPos := cut 1 l.bramPos, bramFix := l.bramFix.filter fun x => x.1 / 294912 != r,
    deepBad := cut 229376 l.deepBad, deepOut := cut 28 l.deepOut, deepCyc := cut 7 l.deepCyc, deepPos := cut 7 l.deepPos,
    deepFix := l.deepFix.filter fun x => x.1 / 229376 != r, slices := cut 2560 l.slices }

/-- What leaves with the cells of region `r` when it is released. -/
def State.forgetCells (s : State) (r : Nat) : State :=
  (s.setFab fun f => { f with differ := f.differ.filter fun k => k / 131072 != r, forced := f.forced.filter fun x => x.1 / 131072 != r }).setLgc
    fun l => l.releaseRegion r

/-- The sweeps start a new pass from word 0 (R276, R279). -/
def State.sweepsStart (s : State) : State := s.setLgc fun l => { l with bramPos := [], bramFix := [], deepCyc := [], deepPos := [], deepFix := [] }

/-- The fabric's own part of fabric release (R184, R244, R247, R275, R276, R313): every memory zero, bank 0 open, GHOLD, scrubbing. -/
def State.fabRelease (s : State) : State :=
  let s := s.withDeep []
  let s := s.setFab fun f => { f with isolated := 0, differ := [], forced := [], badCrc := 0, sel := 0, ce := BitVec.allOnes 288 }
  let s := s.withLgc LogicState.fresh
  let s := ((s.set FAB_STATUS_RELEASED).set FAB_STATUS_BANK0_USER).holdAll
  s.scrubStart

/-- The fabric's own part of a reload's start (R57, R185, R245, R301): it is not released, and no region is isolated or held. -/
def State.fabReload (s : State) : State :=
  let s := ((s.clr FAB_STATUS_RELEASED).clr FAB_STATUS_BANK0_USER).clr FAB_STATUS_GHOLD
  let s := s.setFab fun f => { f with isolated := 0, holds := 0, fixes := [], differ := [], forced := [], uncorr := [], badCrc := 0,
                                      critLeft := [], stdLeft := [], critLate := [], prSince := 0 }
  s.put SCR_PR_STATE_HELD 0

/-- A frame-cache slot's byte address in deep-memory bank 0 (R170). -/
def cacheAddr (slot : Nat) : Nat := slot * 256

end Sys2Proof.Machine
end

