-- ==== Sys2Proof/Machine/Mem.lean ====
section
/-!
DEFINITION. What the fabric's resources do at a clock edge: cells and paired compares, carry chains, boundary crossings, block memory and
deep memory with their ports, collisions and sweeps, slices (R218 to R254, R265 to R279).
-/
namespace Sys2Proof.Machine

/-- User logic of region `r` runs on line `l`: the region is in service, the fabric clocks have not stopped, and the line carries edges. -/
def State.logicRuns (s : State) (r l : Nat) : Bool := s.fabricRuns r && !s.pwr.graceOver && s.lineRuns r l

/-- The flip-flops of region `r` on line `l` are still held at INIT after a release (R275). -/
def State.lineHeld (s : State) (r l : Nat) : Bool := s.fab.holds.getLsbD (48 * r + l)

/-! ### Cells (R220, R222 to R224) -/

/-- A cell is reset through its set/reset input: a forced output ends (R224). -/
def State.cellReset (s : State) (k : Nat) : State := s.setFab fun f => { f with forced := f.forced.filter fun x => x.1 != k }

/-- Both flip-flops of a cell take what an edge or a level gives them. -/
def State.cellTakes (s : State) (k : Nat) (a b : BitVec 2) : State := (s.putFlop k false a).putFlop k true b

/-- A paired cell compares its flip-flops at a rising edge, whether its clock enable is high or low (R222). -/
def State.pairCompare (s : State) (r tile cell : Nat) : State :=
  let k := cellKey r tile cell
  s.iff ((s.cellSets k).paired && s.flop k false != s.flop k true) fun s => s.pairMismatch r tile cell

/-- A rising edge of the clock of a cell with inputs `x`. -/
def State.cellEdge (s : State) (r tile cell : Nat) (x : CellIn) : State :=
  let k := cellKey r tile cell
  let c := s.cellSets k
  if !s.logicRuns r c.line || s.lineHeld r c.line then s
  else
    let s := s.pairCompare r tile cell
    let resetA := c.srActive x.srA
    let resetB := if c.paired then resetA else c.srActive x.srB
    let ceB := if c.paired then x.ceA else x.ceB
    let a := flopNext (cellRead s.lgc.ff (2 * k)) resetA x.ceA (c.dataA x)
    let b := flopNext (cellRead s.lgc.ff (2 * k + 1)) resetB ceB (c.dataB x)
    let s := s.cellTakes k a b
    s.iff resetA (·.cellReset k)

/-- The set/reset inputs of a cell take new levels between edges: an asynchronous one acts at once (R220). -/
def State.cellLevel (s : State) (r tile cell : Nat) (x : CellIn) : State :=
  let k := cellKey r tile cell
  let c := s.cellSets k
  if !(s.fabricRuns r && !s.pwr.graceOver && c.srAsync) then s
  else
    let resetA := c.srActive x.srA
    let resetB := if c.paired then resetA else c.srActive x.srB
    let s := s.iff resetA fun s => (s.putFlop k false 0).cellReset k
    s.iff resetB fun s => s.putFlop k true 0

/-- Flip-flop b of a cell takes a sum bit. -/
def State.sumFlop (s : State) (base : Nat) (x : Nat × Bool) : State := s.putFlop (base + x.1 / 2) (x.1 % 2 == 1) (if x.2 then 3 else 2)

/-- A rising edge that stores the sums of a carry chain starting in tile `tile`, two bits per cell upward; the chain ends at the top of its
column (R221). -/
def State.chainEdge (s : State) (r tile : Nat) (carry : Bool) (bits : List (Bool × Bool)) : State :=
  let base := cellKey r tile 0
  let l := (s.cellSets base).line
  if !s.logicRuns r l || s.lineHeld r l then s
  else
    let sums := chainSums carry (bits.take (chainRoom tile))
    s.each ((List.range sums.length).zip sums) fun s x => s.sumFlop base x

/-! ### Boundary crossings (R215, R227) -/

/-- The region next to region `r`: direction 0 row above, 1 row below, 2 column before, 3 column after. -/
def neighbour (r dir : Nat) : Option Nat :=
  let row := r / 4
  let col := r % 4
  match dir with
  | 0 => if row = 0 then none else some (r - 4)
  | 1 => if row = 3 then none else some (r + 4)
  | 2 => if col = 0 then none else some (r - 1)
  | _ => if col = 3 then none else some (r + 1)

/-- The key of a crossing wire out of region `r`. -/
def crossKey (r dir wire : Nat) : Nat := (r * 4 + dir) * 4096 + wire

/-- The value that a crossing carries. -/
def State.crossing (s : State) (r dir wire : Nat) : Bool :=
  let k := crossKey r dir wire
  (knownOr (w := 1) s.lgc.cross k (BitVec.ofNat 1 (s.imageSets 6 k 0))).getLsbD 0

/-- The logic of region `r` drives a crossing: while either region is isolated the crossing holds its last value (R227). -/
def State.crossDrive (s : State) (r dir wire : Nat) (v : Bool) : State :=
  match neighbour r dir with
  | none => s
  | some q =>
    if s.isolatedR r || s.isolatedR q || !s.fabricRuns r then s
    else s.setLgc fun l => { l with cross := cellWrite l.cross (crossKey r dir wire) (if v then 3 else 2) }

/-! ### Block memory (R229 to R233, R265, R266) -/

/-- A word of block memory or deep memory with its flags, as a port shows it. -/
def portData (d : BitVec 72) (sbe dbe : Bool) : BitVec 74 :=
  d.setWidth 74 ||| (if sbe then 1#74 <<< 72 else 0) ||| (if dbe then 1#74 <<< 73 else 0)

/-- The row that an address names in a shape. -/
def BramShape.row (sh : BramShape) (m addr : Nat) : Nat := m * 1024 + addr / sh.perRow % 1024

/-- The word that a read of block memory returns, with its flags; in shape E64 corrected where one bit is wrong. -/
def State.bramRead (s : State) (m addr luck : Nat) : BitVec 74 :=
  let sh := s.bramShape m
  let k := sh.row m addr
  let row := cellRead s.lgc.bram k
  match sh with
  | .e64 =>
    let v := eccRead (row.setWidth 64) (cellRead s.lgc.bramBad k) luck
    portData (v.1.setWidth 72) v.2.1 v.2.2
  | _ => portData (sh.pick row (addr % sh.perRow)) false false

/-- An error that a port read or a sweep finds is reported (R273): `v` is the data with its flags. -/
def State.readReport (s : State) (deep : Bool) (inst word source : Nat) (v : BitVec 74) : State :=
  let s := s.iff (v.getLsbD 72) fun s => s.memError (if deep then 15 else 13) inst word source
  s.iff (v.getLsbD 73) fun s => s.memError (if deep then 16 else 14) inst word source

/-- The key of a port's output. -/
def outKey (m p : Nat) : Nat := 4 * m + 2 * p

/-- What block memory `m` shows toward port `p`, before the output register. -/
def State.bramAt (s : State) (m p : Nat) : BitVec 74 :=
  knownOr (w := 74) s.lgc.bramOut (outKey m p) (portData (BitVec.ofNat 72 (s.imageSets 2 m (8 + p))) false false)

/-- The read data of port `p` of block memory `m`, with SBE in bit 72 and DBE in bit 73. -/
def State.bramShows (s : State) (m p : Nat) : BitVec 74 :=
  let k := outKey m p + if s.bramReg m p then 1 else 0
  knownOr (w := 74) s.lgc.bramOut k (portData (BitVec.ofNat 72 (s.imageSets 2 m (8 + p))) false false)

/-- One edge at a port's output: the output register takes what the memory showed, the memory shows `v`. -/
def State.bramShow (s : State) (m p : Nat) (v : BitVec 74) : State :=
  let k := outKey m p
  s.setLgc fun l => { l with bramOut := cellWrite (cellWrite l.bramOut (k + 1) (cellRead l.bramOut k)) k (markKnown v) }

/-- What a port's read data becomes at an edge, from the memory as it stands before any write of the edge (R231, R266). -/
def State.bramPort (s : State) (m p : Nat) (op : BramOp) : State :=
  let luck := s.draw
  let s := s.drawn
  let sh := s.bramShape m
  let old := s.bramRead m op.addr luck
  let word := sh.row m op.addr % 1024
  if !op.en then s.bramShow m p (portData (BitVec.ofNat 72 luck) false false)
  else if !op.we then (s.readReport false m word p old).bramShow m p old
  else
    match s.bramMode m p with
    | .prior => (s.readReport false m word p old).bramShow m p old
    | .written =>
      let row := sh.merge (cellRead s.lgc.bram (sh.row m op.addr)) op.data op.be (op.addr % sh.perRow)
      s.bramShow m p (portData (sh.pick row (op.addr % sh.perRow)) false false)
    | .keep => s.bramShow m p (s.bramAt m p)

/-- A port writes: in shape E64 the word has valid ECC, and a correction of it that waits is dropped (R268). -/
def State.bramStore (s : State) (m : Nat) (op : BramOp) : State :=
  if !(op.en && op.we) then s
  else
    let sh := s.bramShape m
    let k := sh.row m op.addr
    let row := sh.merge (cellRead s.lgc.bram k) op.data op.be (op.addr % sh.perRow)
    s.setLgc fun l => { l with bram := cellWrite l.bram k row, bramBad := cellErase l.bramBad k, bramFix := l.bramFix.filter fun x => x.1 != k }

/-! ### Block-memory sweep (R230, R234, R236, R268) -/

/-- The first E64 memory of region `r` from number `n` on. -/
def State.nextE64 (s : State) (r n : Nat) : Option Nat := (List.range 288).find? fun i => decide (n ≤ i) && s.bramShape (r * 288 + i) == .e64

/-- A sweep reads the E64 word with key `k`: an error is reported, and a single wrong bit leaves a correction to write. -/
def State.bramSweepRead (s : State) (k : Nat) : State :=
  let v := eccRead ((cellRead s.lgc.bram k).setWidth 64) (cellRead s.lgc.bramBad k) s.draw
  let s := s.drawn.readReport false (k / 1024) (k % 1024) 3 (portData (v.1.setWidth 72) v.2.1 v.2.2)
  s.iff v.2.1 fun s => s.setLgc fun l => { l with bramFix := l.bramFix ++ [(k, v.1)] }

/-- A correction of the sweep is written back. -/
def State.bramSweepWrite (s : State) (x : Nat × BitVec 64) : State :=
  s.setLgc fun l => { l with bram := cellWrite l.bram x.1 (x.2.setWidth 72), bramBad := cellErase l.bramBad x.1,
                             bramFix := l.bramFix.filter fun y => y.1 != x.1 }

/-- The sweep of region `r` stands at word `p` (memory × 1,024 + word), or at the first word of the next E64 memory. -/
def State.bramSweepAt (s : State) (r : Nat) : Option Nat :=
  let p := (cellRead s.lgc.bramPos r).toNat
  match s.nextE64 r (p / 1024) with
  | none => none
  | some i => some (if i = p / 1024 then p else i * 1024)

/-- One slot of the sweep of region `r`: a correction that waits is written back, else the next word is read; after the last word the next
pass starts from word 0 (R236). -/
def State.bramSlot (s : State) (r : Nat) : State :=
  match s.lgc.bramFix.find? fun x => x.1 / 294912 == r with
  | some x => s.bramSweepWrite x
  | none =>
    match s.bramSweepAt r with
    | none => s
    | some p =>
      let s := s.bramSweepRead (r * 294912 + p)
      let next := match s.nextE64 r ((p + 1) / 1024) with
        | none => 0
        | some _ => p + 1
      s.setLgc fun l => { l with bramPos := cellWrite l.bramPos r (BitVec.ofNat 19 next) }

/-- One edge of the port clocks of block memory `m`: `a` and `b` are the ports whose clock rises in this cycle. The reads return the words
as they stood; the sweep has port B where its enable is low; port A's data is stored where both write one word (R265, R266). -/
def State.bramCycle (s : State) (m : Nat) (a b : Option BramOp) : State :=
  let r := m / 288
  let a := if s.logicRuns r (s.bramLine m 0) then a else none
  let b := if s.bramPortBFree m || !s.logicRuns r (s.bramLine m 1) then none else b
  let s := match a with | some op => s.bramPort m 0 op | none => s
  let s := match b with | some op => s.bramPort m 1 op | none => s
  let sweeps := match s.bramSweepAt r with
    | some p => p / 1024 == m % 288
    | none => false
  let s := match b with | some op => s.iff (!op.en && sweeps) (·.bramSlot r) | none => s
  let s := match b with | some op => s.bramStore m op | none => s
  match a with | some op => s.bramStore m op | none => s

/-- A cycle of the housekeeping clock: the sweep of region `r` drives port B of a memory that leaves it unused (R234). -/
def State.sweepCycle (s : State) (r : Nat) : State :=
  match s.bramSweepAt r with
  | some p => s.iff (s.fabricRuns r && s.bramPortBFree (r * 288 + p / 1024)) (·.bramSlot r)
  | none => s

/-- An upset of bit `i` of row `row` of block memory `m`: in the shapes without ECC nothing tells it from the data. -/
def State.bramUpset (s : State) (m row i : Nat) : State :=
  let k := m * 1024 + row
  if s.bramShape m == .e64 then s.setLgc fun l => { l with bramBad := cellWrite l.bramBad k (cellRead l.bramBad k ^^^ (1#72 <<< i)) }
  else s.setLgc fun l => { l with bram := cellWrite l.bram k (cellRead l.bram k ^^^ (1#72 <<< i)) }

/-! ### Deep memory (R238, R241, R242, R244, R267 to R269) -/

/-- A deep-memory word as written, by bank × 32,768 + word. -/
def State.deepWord (s : State) (k : Nat) : BitVec 64 := BitVec.ofNat 64 (leNat (s.deepBytes (8 * k) 8))

/-- What a read of a deep-memory word returns, with its flags. -/
def State.deepRead (s : State) (k luck : Nat) : BitVec 74 :=
  let v := eccRead (s.deepWord k) (cellRead s.lgc.deepBad k) luck
  portData (v.1.setWidth 72) v.2.1 v.2.2

/-- A deep-memory word is written whole, with valid ECC. -/
def State.deepStore (s : State) (k : Nat) (w : BitVec 64) : State := s.putDeep (8 * k) (leBytes 8 w.toNat)

/-- The words that hold `n` bytes from `a` and have wrong bits. -/
def State.badWords (s : State) (a n : Nat) : List Nat :=
  if n = 0 then [] else (s.lgc.deepBad.map (·.1)).filter fun k => decide (a / 8 ≤ k) && decide (k ≤ (a + n - 1) / 8)

/-- A hard block reads a word through port H: an error is counted and reported (R273). -/
def State.deepPortH (s : State) (k : Nat) : State := s.drawn.readReport true (k / 32768) (k % 32768) 2 (s.deepRead k s.draw)

/-- A hard block reads `n` bytes from `a` through port H. `dbe` says that an upset has put a double-bit error into the first of the words. -/
def State.deepReads (s : State) (a n : Nat) (dbe : Bool) : State :=
  let s := s.iff (dbe && n != 0) fun s => s.setLgc fun l => { l with deepBad := cellWrite l.deepBad (a / 8) 3 }
  s.each (s.badWords a n) (·.deepPortH ·)

/-- The words that hold `n` bytes from `a` include one with more wrong bits than the code corrects (R243). -/
def State.deepFails (s : State) (a n : Nat) (dbe : Bool) : Bool :=
  dbe && n != 0 || (s.badWords a n).zipIdx.any fun x => (s.deepRead x.1 (Config.free (s.fresh + x.2))).getLsbD 73

/-- An operation of port U. -/
structure DeepOp where
  we : Bool
  addr : Nat
  data : BitVec 64
deriving DecidableEq, Repr

/-- Port U of bank `b` is open: bank 0 belongs to the controller until fabric release (R244). -/
def State.portU (s : State) (b : Nat) : Bool := b != 0 || s.bit FAB_STATUS_BANK0_USER

/-- What port U shows after its three cycles of latency, with SBE in bit 64 and DBE in bit 65. -/
def State.deepShows (s : State) (b : Nat) : BitVec 66 :=
  if s.portU b then knownOr (w := 66) s.lgc.deepOut (4 * b + 2) (BitVec.ofNat 66 (s.imageSets 5 b 1)) else 0

/-- The flags of a word moved to the width of port U. -/
def deepOutWord (v : BitVec 74) : BitVec 66 := (v.setWidth 64).setWidth 66 ||| ((v >>> 72).setWidth 66 <<< 64)

/-- One cycle of port U's read pipeline: the word read stands at the port after three. -/
def State.deepShow (s : State) (b : Nat) (v : BitVec 66) : State :=
  s.setLgc fun l =>
    let o := cellWrite l.deepOut (4 * b + 2) (cellRead l.deepOut (4 * b + 1))
    let o := cellWrite o (4 * b + 1) (cellRead l.deepOut (4 * b))
    { l with deepOut := cellWrite o (4 * b) (markKnown v) }

/-- The sweep of bank `b` reads its next word in its reserved slot (R241, R242). -/
def State.deepSweepRead (s : State) (b : Nat) : State :=
  let p := (cellRead s.lgc.deepPos b).toNat
  let k := b * 32768 + p
  let v := eccRead (s.deepWord k) (cellRead s.lgc.deepBad k) s.draw
  let s := s.drawn.readReport true b p 3 (portData (v.1.setWidth 72) v.2.1 v.2.2)
  let s := s.iff v.2.1 fun s => s.setLgc fun l => { l with deepFix := l.deepFix ++ [(k, v.1)] }
  s.setLgc fun l => { l with deepPos := cellWrite l.deepPos b (BitVec.ofNat 15 (p + 1)) }

/-- One cycle of the clock of bank `b`, with what user logic does on port U. The 64th cycle belongs to the sweep on port H: it reads a word, or
writes the correction that waits from the slot before; where U writes the same word in that cycle, port H's data is stored (R241, R267). -/
def State.deepCycle (s : State) (b : Nat) (u : DeepOp) : State :=
  if !s.logicRuns (b / 7) (s.imageSets 5 b 0 % 48) then s
  else
    let k := b * 32768 + u.addr % 32768
    let cyc := cellRead s.lgc.deepCyc b
    let due := if cyc = 63 then s.lgc.deepFix.find? fun x => x.1 / 32768 == b else none
    let luck := s.draw
    let s := s.drawn
    let v := s.deepRead k luck
    let s := s.setLgc fun l => { l with deepCyc := cellWrite l.deepCyc b (cyc + 1) }
    let s := s.iff (s.portU b && !u.we) fun s => s.readReport true b (k % 32768) 0 v
    let s := s.deepShow b (if !s.portU b then 0 else if u.we then BitVec.ofNat 66 luck else deepOutWord v)
    let s := s.iff (cyc == 63 && due.isNone) (·.deepSweepRead b)
    let s := s.iff (s.portU b && u.we) (·.deepStore k u.data)
    match due with
    | some x => s.deepStore x.1 x.2
    | none => s

/-- An upset of bit `i` of deep-memory word `k`. -/
def State.deepUpset (s : State) (k i : Nat) : State :=
  s.setLgc fun l => { l with deepBad := cellWrite l.deepBad k (cellRead l.deepBad k ^^^ (1#72 <<< i)) }

/-! ### The end of a pass (R237, R242) -/

/-- The keys with wrong bits that the rest of a pass over `[lo, hi)` still reads, in order. -/
def restOfPass (bad : Cells 72) (lo hi : Nat) : List Nat := (bad.map (·.1)).filter fun k => decide (lo ≤ k) && decide (k < hi)

/-- The block-memory sweep of region `r` reads the words left of its pass and starts the next one. -/
def State.bramPassEnd (s : State) (r : Nat) : State :=
  let p := (cellRead s.lgc.bramPos r).toNat
  let s := s.each (restOfPass s.lgc.bramBad (r * 294912 + p) ((r + 1) * 294912)) fun s k =>
    s.iff (s.bramShape (k / 1024) == .e64) (·.bramSweepRead k)
  let s := s.each (s.lgc.bramFix.filter fun x => x.1 / 294912 == r) (·.bramSweepWrite ·)
  s.setLgc fun l => { l with bramPos := cellErase l.bramPos r }

/-- The sweep of a bank reads the words left of its pass and starts the next one. -/
def State.deepPassEnd (s : State) (b : Nat) : State :=
  let p := (cellRead s.lgc.deepPos b).toNat
  let s := s.each (restOfPass s.lgc.deepBad (b * 32768 + p) ((b + 1) * 32768)) fun s k =>
    let v := eccRead (s.deepWord k) (cellRead s.lgc.deepBad k) s.draw
    let s := s.drawn.readReport true b (k % 32768) 3 (portData (v.1.setWidth 72) v.2.1 v.2.2)
    s.iff v.2.1 (·.deepStore k v.1)
  let s := s.each (s.lgc.deepFix.filter fun x => x.1 / 32768 == b) fun s x => s.deepStore x.1 x.2
  s.setLgc fun l => { l with deepPos := cellErase l.deepPos b }

/-- BRAM_SWEEP_PASS_END and DEEP_SWEEP_PASS_END: a pass of region `r` ends after `us`. -/
def State.sweepEnd (s : State) (deep : Bool) (r us : Nat) : State :=
  if !s.fabricRuns r then s
  else
    let s := if deep then s.each ((List.range 7).map (7 * r + ·)) (·.deepPassEnd ·) else s.bramPassEnd r
    s.sweepTime deep r us

/-! ### Arithmetic slices (R249 to R254) -/

/-- The stages of slice `k`. -/
def State.sliceStage (s : State) (k : Nat) : SliceStage :=
  let v (w i : Nat) : Int := signed w (knownOr (w := 64) s.lgc.slices (8 * k + i) (BitVec.ofNat 64 (s.imageSets 3 k (8 + i)))).toNat
  { x := v 24 0, y := v 24 1, z := v 24 2, w := v 48 3, p := v 24 4, m := v 64 5, acc := v 64 6 }

/-- Store the stages of slice `k` and its flags of this cycle. -/
def State.putSlice (s : State) (k : Nat) (st : SliceStage) (psat ovf rsat : Bool) : State :=
  let c (v : Int) : BitVec 65 := markKnown (BitVec.ofNat 64 (unsigned 64 v))
  let flags : BitVec 64 := BitVec.ofNat 64 ((if psat then 1 else 0) + (if ovf then 2 else 0) + (if rsat then 4 else 0))
  s.setLgc fun l => { l with slices := cellWriteAll l.slices (8 * k) 1 [c st.x, c st.y, c st.z, c st.w, c st.p, c st.m, c st.acc, markKnown flags] }

/-- CHIN of row `row` of a slice column: ACC of the slice below, in the same column of the same region (R254). Below the lowest slice there
is none, and what its CHIN carries is free. -/
def State.chainIn (s : State) (k row free : Nat) : Int :=
  if row = 0 then signed 64 free else (s.sliceStage (k - 1)).acc

/-- A rising edge of the clock of slice `row` of column `col`. -/
def State.sliceEdge (s : State) (r col row : Nat) (i : SliceIn) : State :=
  let k := r * 320 + col * 40 + row
  if !(s.logicRuns r (s.imageSets 3 k 7 % 48) && i.en) then s
  else
    let c := s.sliceSets k
    let e := c.edge (s.sliceStage k) i (s.chainIn k row s.draw)
    s.drawn.putSlice k e.1 e.2.1 e.2.2 (c.outR e.1.acc).2

/-- One clock of a slice column, highest row first, so that each slice sees ACC of the one below as it stood before the edge; `ins` gives the
inputs from row 39 down. -/
def State.columnEdge (s : State) (r col : Nat) (ins : List SliceIn) : State :=
  s.each ((List.range 40).zip ins) fun s x => s.sliceEdge r col (39 - x.1) x.2

/-! ### What user logic does (R239, R240, R262) -/

/-- A number as the inputs of a cell. -/
def cellInOf (n : Nat) : CellIn where
  lut := BitVec.ofNat 6 n
  dirA := n / 64 % 2 == 1
  dirB := n / 128 % 2 == 1
  ceA := n / 256 % 2 == 1
  ceB := n / 512 % 2 == 1
  srA := n / 1024 % 2 == 1
  srB := n / 2048 % 2 == 1

/-- A number as the inputs of a block-memory port. -/
def bramOpOf (n : Nat) : BramOp where
  en := n % 2 == 1
  we := n / 2 % 2 == 1
  be := BitVec.ofNat 9 (n / 4)
  addr := n / 2048 % 8192
  data := BitVec.ofNat 72 (n / 16777216)

/-- A number as the inputs of a slice. -/
def sliceInOf (n : Nat) : SliceIn where
  en := n % 2 == 1
  x := BitVec.ofNat 24 (n / 2)
  y := BitVec.ofNat 24 (n / 2 ^ 25)
  z := BitVec.ofNat 24 (n / 2 ^ 49)
  w := BitVec.ofNat 48 (n / 2 ^ 73)

/-- Bits of a number as operand bits of a carry chain, at most `fuel`. -/
def chainBitsOf : Nat → Nat → List (Bool × Bool)
  | 0, _ => []
  | f + 1, n => if n = 0 then [] else (n % 2 == 1, n / 2 % 2 == 1) :: chainBitsOf f (n / 4)

/-- One free event of the fabric: which resource and with which inputs is user logic's, and an upset is nature's. -/
def State.logicEvent (s : State) : State :=
  let kind := s.pick 0 % 12
  let place := s.pick 1
  let v := s.pick 2
  let w := s.pick 3
  let s := s.picked 4
  let r := place % 16
  let at' := place / 16
  match kind with
  | 0 => s.cellEdge r (at' % 15360) (at' / 15360 % 8) (cellInOf v)
  | 1 => s.cellLevel r (at' % 15360) (at' / 15360 % 8) (cellInOf v)
  | 2 => s.iff (s.fabricRuns r) fun s => s.flopUpset (cellKey r (at' % 15360) (at' / 15360 % 8)) (v % 2 == 1)
  | 3 => s.crossDrive r (at' % 4) (at' / 4 % 4096) (v % 2 == 1)
  | 4 => s.bramCycle (r * 288 + at' % 288) (if v % 2 = 1 then some (bramOpOf (v / 2)) else none) (if w % 2 = 1 then some (bramOpOf (w / 2)) else none)
  | 5 => s.bramUpset (r * 288 + at' % 288) (at' / 288 % 1024) (v % 72)
  | 6 => s.sweepCycle r
  | 7 => s.deepCycle (r * 7 + at' % 7) { we := v % 2 == 1, addr := v / 2 % 32768, data := BitVec.ofNat 64 w }
  | 8 => s.deepUpset (r * 229376 + at' % 229376) (v % 72)
  | 10 => s.frameUpset (r * 8192 + at' % 8192) (v % 2112)
  | 9 => s.columnEdge r (at' % 8) ((List.range 40).map fun i => sliceInOf (Config.free (v + i)))
  | _ => s.chainEdge r (at' % 15360) (v % 2 == 1) (chainBitsOf 4096 (v / 2))

/-- `n` events of the fabric. -/
def State.logicRun (s : State) : Nat → State
  | 0 => s
  | n + 1 => s.logicEvent.logicRun n

end Sys2Proof.Machine
end

