-- ==== Sys2Proof/Machine/Str.lean ====
section
/-!
DEFINITION. Stream ports: the 85 ports of the hard blocks, the credit rules of one clock edge, the beats of a unit, and the buffers that
units wait in (R30 to R35, R272, Table FAB-5).
-/
namespace Sys2Proof.Machine

/-- A stream port or memory port attached in region `r` serves: the fabric is released and the region is not isolated (R272). -/
def State.portLive (s : State) (r : Nat) : Bool := s.bit FAB_STATUS_RELEASED && !s.isolatedR r

/-- The region that a lane's group attaches in (Table FAB-5). -/
def laneRegion (n : Nat) : Nat := 3 + 4 * (n / 6)

/-- The stream port of a lane's group (Table FAB-5). -/
def State.laneLive (s : State) (n : Nat) : Bool := s.portLive (laneRegion n)

/-! ### The ports -/

/-- Port numbers of the model, by owner. -/
def ethRxPort (n : Nat) : Nat := n
def ethTxPort (n : Nat) : Nat := 24 + n
def brgRxPort (cls : Nat) : Nat := 48 + cls
def brgTxPort (cls : Nat) : Nat := 51 + cls
def descPort : Nat := 54
def cmpPort : Nat := 55
def rawPort : Nat := 56
def linePort : Nat := 57
def dacPort : Nat := 58
def ddcPort (d : Nat) : Nat := 59 + d
def audioPort (c : Nat) : Nat := 67 + c
def sidePort : Nat := 71
def lmdTxPort (t : Nat) : Nat := 72 + t
def lmdRxPort (r : Nat) : Nat := 74 + r
def sptPort (n : Nat) : Nat := 76 + n
def hostPort : Nat := 84

/-- The region a port attaches in: Table FAB-5 with R554, R587, R647, R717 for the radio blocks. -/
def streamRegion (p : Nat) : Nat :=
  if p < 24 then laneRegion p
  else if p < 48 then laneRegion (p - 24)
  else if p < 54 then 7
  else if p < 56 then 5
  else if p < 59 then 0
  else if p < 72 then 1
  else if p < 76 then 0
  else if p < 84 then 2
  else 13

/-- Width of DATA in bits: 32, 64 or 128 (R34; R398, R454, R588, R649, R750, Tables SMP-6 and LMD-8, R648, R816). The cipher's two ports
have 64 bits, a completion record's width (R511; DESIGN CHOICE for descriptors, log entry 66). -/
def streamWidth (p : Nat) : Nat :=
  if p = rawPort then 128
  else if p = dacPort ∨ (67 ≤ p ∧ p < 71) ∨ (72 ≤ p ∧ p < 76) ∨ p = hostPort then 32
  else 64

/-- The ports on which the fabric is the source; a sample port's direction is that of SPT_CFG.DIR. -/
def State.fabricSource (s : State) (p : Nat) : Bool :=
  (decide (24 ≤ p) && decide (p < 48)) || (decide (51 ≤ p) && decide (p < 55)) || p == dacPort || p == 72 || p == 73 ||
  (decide (76 ≤ p) && decide (p < 84) && bitsOf ((s.spt[p - 76]?.getD SptPort.fresh).cfg) 30 1 == 1)

/-- Beats that the hard block's buffer of a port holds: 16 KiB for Ethernet, broadcast and modem receive ports (R399, R400, R647, R677,
R718), 64 frames for a sample port (R751), 16 beats for the host-write port (R816), 8,192 samples for a DDC (R591). The spec gives no size for the
others, which hold at least the 1,024 beats of the longest unit (log entry 66). -/
def streamCap (p : Nat) : Nat :=
  if p < 48 then 2048
  else if 67 ≤ p ∧ p < 71 then 4096
  else if p = sidePort then 2048
  else if 72 ≤ p ∧ p < 76 then 4096
  else if 76 ≤ p ∧ p < 84 then 64
  else if p = hostPort then 16
  else if 59 ≤ p ∧ p < 67 then 8192
  else 1024 + Config.streamBeats p

/-- The state of port `p`. -/
def State.strm (s : State) (p : Nat) : StreamPort := s.str[p]?.getD StreamPort.idle

/-- Replace the state of port `p`. -/
def State.putStrm (s : State) (p : Nat) (v : StreamPort) : State := s.withStr (s.str.setIfInBounds p v)

/-! ### One edge (R30 to R32) -/

/-- Unspent credits after an edge: one spent where a beat crosses, one granted where READY is high, never more than 16 (R31). -/
def creditsAfter (credits : Nat) (beat ready : Bool) : Nat := min 16 (credits - (if beat then 1 else 0) + (if ready then 1 else 0))

/-- One edge of a port whose source is the hard block: VALID is high where it has a beat and holds a credit from an earlier edge; the beat
that crosses comes with the port after the edge. -/
def StreamPort.sourceEdge (v : StreamPort) (ready : Bool) : Option Beat × StreamPort :=
  match v.buf with
  | b :: rest =>
    if v.credits = 0 then (none, { v with credits := creditsAfter v.credits false ready })
    else (some b, { credits := creditsAfter v.credits true ready, buf := rest })
  | [] => (none, { v with credits := creditsAfter v.credits false ready })

/-- One edge of port `p` at which the fabric's READY is `ready`: a beat that crosses leaves the die's hard block. -/
def State.streamOut (s : State) (p : Nat) (ready : Bool) : State :=
  let e := (s.strm p).sourceEdge ready
  let s := s.putStrm p e.2
  match e.1 with
  | some b => s.emit (.beat p b)
  | none => s

/-- One edge of port `p` at which the fabric, as source, offers no beat and the hard block's READY is `ready`. The hard block grants only
while the credits stay within its `free` beats of buffer (R32). -/
def State.streamGrant (s : State) (p free : Nat) (ready : Bool) : State :=
  let v := s.strm p
  s.putStrm p { v with credits := creditsAfter v.credits false (ready && decide (v.credits < free)) }

/-- The `k` beats of a unit that the fabric has sent cross: each spends a credit, which an edge with READY high has granted where none
was held. -/
def State.streamTake (s : State) (p k : Nat) : State :=
  let v := s.strm p
  s.putStrm p { v with credits := v.credits - k }

/-! ### Units (R33, R35) -/

/-- The beats after the first: LAST is high on the final one only, which carries `last` in USER. -/
def laterBeats (last : Nat) : List Nat → List Beat
  | [] => []
  | [w] => [{ data := BitVec.ofNat 128 w, last := true, user := BitVec.ofNat 64 last }]
  | w :: ws => { data := BitVec.ofNat 128 w, last := false, user := 0 } :: laterBeats last ws

/-- The beats of a unit from its DATA words: USER is `first` on the first beat and `last` on the final one, both on a beat that is both. -/
def unitBeats (first last : Nat) : List Nat → List Beat
  | [] => []
  | [w] => [{ data := BitVec.ofNat 128 w, last := true, user := BitVec.ofNat 64 (Nat.lor first last) }]
  | w :: ws => { data := BitVec.ofNat 128 w, last := false, user := BitVec.ofNat 64 first } :: laterBeats last ws

/-- DATA words of `n` bytes each of a byte string, byte 0 in [7:0]; `fuel` bounds them. -/
def dataWords (n : Nat) : Nat → List Byte → List Nat
  | 0, _ => []
  | f + 1, bs => if bs.isEmpty then [] else leNat (bs.take n) :: dataWords n f (bs.drop n)

/-- Beats that `len` bytes take at `n` bytes a beat. -/
def beatCount (n len : Nat) : Nat := (len + n - 1) / n

/-- Port `p` has room for `k` more beats (R35). -/
def State.streamRoom (s : State) (p k : Nat) : Bool := decide ((s.strm p).buf.length + k ≤ streamCap p)

/-- A unit enters the buffer of port `p`. -/
def State.streamPush (s : State) (p : Nat) (beats : List Beat) : State :=
  let v := s.strm p
  s.putStrm p { v with buf := v.buf ++ beats }

/-- Credits start from 0 at fabric release, at a wake and at a region's release (R31). -/
def State.streamsZero (s : State) (among : Nat → Bool) : State :=
  s.each (List.range 85) fun s p => s.iff (among p) fun s => s.putStrm p { s.strm p with credits := 0 }

/-- What the ports hold is lost (Table PWR-4). -/
def State.streamsEmpty (s : State) : State := s.withStr (Vector.replicate 85 StreamPort.idle)

end Sys2Proof.Machine
end

