-- ==== Sys2Proof/Machine/Wch.lean ====
section
/-!
DEFINITION. The Watch domain: watch time, the event log, tamper inputs and wake timer, the choice of supply and the
harvester (R101 to R148, R941 to R943).
-/
namespace Sys2Proof.Machine

/-- The crystal runs. -/
def State.xtalOk (s : State) : Bool := s.bit WCH_STATUS_XTAL_OK

/-- Single 1 ns trim steps due within the first `k` ticks of a second, spread evenly over its 32,768 ticks (R104). -/
def trimSteps (trim : Int) (k : Nat) : Int :=
  if 0 ≤ trim then (trim.toNat * k / 32768 : Nat) else -((-trim).toNat * k / 32768 : Nat)

/-- Seconds, nanoseconds and 6-bit fraction of a watch-time copy after one tick: 30,517 ns, 37/64 ns in the fraction
accumulator, and the trim step that falls due (R103, R104). -/
def tickCopy (sec ns frac : Nat) (step : Int) : Nat × Nat × Nat :=
  let f := frac + 37
  let n : Nat := ((ns + 30517 + f / 64 : Nat) + step).toNat
  if n < 1000000000 then (sec, n, f % 64) else ((sec + 1) % 2 ^ 48, n - 1000000000, f % 64)

/-- Watch time after one tick: both copies advance from the same tick (R105). -/
def State.watchTick (s : State) : State :=
  let w := s.wch
  let trim := signed 16 (s.get WCH_TRIM_TRIM)
  let step := trimSteps trim (w.tick + 1) - trimSteps trim w.tick
  let a := tickCopy w.aSec w.aNs w.aFrac step
  let b := tickCopy w.bSec w.bNs w.bFrac step
  (s.withWch { w with aSec := a.1, aNs := a.2.1, aFrac := a.2.2, bSec := b.1, bNs := b.2.1, bFrac := b.2.2,
                           tick := (w.tick + 1) % 32768 })

/-- The wake timer counts one unit every 128 ticks (R123). Its last unit is the command WAKE_TIMER_EXPIRY. -/
def State.timerTick (s : State) : State :=
  if s.get WCH_WAKE_TIMER_COUNT = 0 then s
  else if s.wch.timerPre + 1 < 128 then s.withWch { s.wch with timerPre := s.wch.timerPre + 1 }
  else
    let s := s.withWch { s.wch with timerPre := 0 }
    s.iff (decide (1 < s.get WCH_WAKE_TIMER_COUNT)) fun s => s.put WCH_WAKE_TIMER_COUNT (s.get WCH_WAKE_TIMER_COUNT - 1)

/-! ### The event log -/

/-- The first seven words of an entry (Table WCH-1, bytes 0 to 27, little-endian). -/
def itemWords (e : LogItem) (pinned : Bool) (seq : Nat) : List Word :=
  let flags := (if pinned then 1 else 0) + (if e.timeValid then 2 else 0) + e.supply % 4 * 4 + e.state % 8 * 16
  [BitVec.ofNat 32 e.sec,
   BitVec.ofNat 32 (e.sec / 2 ^ 32 % 2 ^ 16 + e.ns % 2 ^ 16 * 2 ^ 16),
   BitVec.ofNat 32 (e.ns / 2 ^ 16 % 2 ^ 16 + e.code % 2 ^ 16 * 2 ^ 16),
   BitVec.ofNat 32 (e.block % 256 + flags * 256 + e.inst % 2 ^ 16 * 2 ^ 16),
   BitVec.ofNat 32 seq,
   BitVec.ofNat 32 e.detail,
   BitVec.ofNat 32 (e.detail / 2 ^ 32)]

/-- The bytes of words, each least significant byte first. -/
def wordBytes (ws : List Word) : List Byte := ws.flatMap fun w => leBytes 4 w.toNat

/-- The eight words of an entry, the last the CRC-32 over the first 28 bytes. -/
def entryWords (e : LogItem) (pinned : Bool) (seq : Nat) : List Word :=
  let ws := itemWords e pinned seq
  ws ++ [crc32 (wordBytes ws)]

/-- Write an entry whole at a log index (R115). -/
def State.putEntry (s : State) (i : Nat) (e : LogItem) (pinned : Bool) : State :=
  s.withRegs (cellWriteAll s.regs (LOG_ENTRY i 0) 4 (entryWords e pinned (s.get LOG_SEQ_SEQ)))

/-- Pin the first occurrence of a code at the lowest free pinned index, or count it where the area is full (R116, R117).
The area fills upward and clears whole, so the lowest free index is 896 + USED. -/
def State.pinEntry (s : State) (e : LogItem) : State :=
  if s.wch.seen.contains e.code then s
  else
    let s := s.withWch { s.wch with seen := s.wch.seen ++ [e.code] }
    if s.get LOG_PIN_USED < 128 then
      (s.putEntry (896 + s.get LOG_PIN_USED) e true).put LOG_PIN_USED (s.get LOG_PIN_USED + 1)
    else s.satInc LOG_PIN_OVERFLOW LOG_PIN_OVF

/-- Write one entry: ring, pinned copy, then NEXT modulo 896 and SEQ (R115 to R117). Both copies carry the same SEQ. -/
def State.writeEntry (s : State) (e : LogItem) : State :=
  let s := (s.putEntry (s.get LOG_HEAD_ALL) e false).pinEntry e
  (s.put LOG_HEAD_ALL ((s.get LOG_HEAD_ALL + 1) % 896)).modInc LOG_SEQ_SEQ

/-- The log controller writes one entry: the one that is ready in the earlier tick, and of two that are ready in the same tick the
watch controller's before the guarantee unit's (R143). -/
def State.logWrite (s : State) : State :=
  match s.wch.logq, s.grd.logq with
  | [], [] => s
  | e :: rest, [] => (s.withWch { s.wch with logq := rest }).writeEntry e
  | [], g :: more => (s.withGrd { s.grd with logq := more }).writeEntry g
  | e :: rest, g :: more =>
    if e.ready ≤ g.ready then (s.withWch { s.wch with logq := rest }).writeEntry e
    else (s.withGrd { s.grd with logq := more }).writeEntry g

/-- The entries held in the guarantee unit's buffer are lost and counted (R118). -/
def State.logLose (s : State) : State :=
  (s.satAdd LOG_LOST_COUNT LOG_LOST_OVF s.grd.logq.length).withGrd { s.grd with logq := [] }

/-- Addresses `lo` up to but not including `hi` read 0 afterwards. -/
def clearRange (m : Cells 32) (lo hi : Nat) : Cells 32 := m.filter fun c => decide (c.1 < lo) || decide (hi ≤ c.1)

/-- CLEAR_PINNED: empty the pinned area, USED and OVERFLOW to 0, no code remembered; OVF stays (R942). -/
def State.clearPinned (s : State) : State :=
  let s := (s.withRegs (clearRange s.regs (LOG_ENTRY 896 0) (LOG_ENTRY 1024 0))).withWch { s.wch with seen := [] }
  (s.put LOG_PIN_USED 0).put LOG_PIN_OVERFLOW 0

/-- CLEAR_ALL: everything CLEAR_PINNED does, the ring emptied and NEXT 0; SEQ and LOG_LOST keep (R942). -/
def State.clearLog (s : State) : State :=
  let s := s.clearPinned
  (s.withRegs (clearRange s.regs (LOG_ENTRY 0 0) (LOG_ENTRY 896 0))).put LOG_HEAD_ALL 0

/-- Check the CRC of every written entry, and report each that fails (R870). An index not written since its last clear
holds only zeros, which no written entry does. -/
def State.logScan (s : State) : State :=
  s.each (List.range 1024) fun s i =>
    let ws := cellReadAll s.regs (LOG_ENTRY i 0) 4 7
    let crc := cellRead s.regs (LOG_ENTRY i 7)
    s.iff (!(ws.all (· == 0) && crc == 0) && crc != crc32 (wordBytes ws)) fun s =>
      s.report 41 i (cellRead s.regs (LOG_ENTRY i 4)).toNat

/-! ### Time set, compare and align -/

/-- Load both copies of watch time. The spec loads seconds and nanoseconds; that the 6-bit fraction accumulators of both copies start
again from 0 is the model's (DESIGN CHOICE, log entry 63). -/
def State.setWatch (s : State) (sec ns : Nat) : State :=
  s.withWch { s.wch with aSec := sec, aNs := ns, aFrac := 0, bSec := sec, bNs := ns, bFrac := 0 }

/-- The tick after a COMMIT: both copies take the SET registers, TIME_VALID sets, TIME_SET is logged with the old seconds
(R111). While the crystal has stopped the commit is held. -/
def State.watchTimeSet (s : State) : State :=
  if s.wch.commit && s.xtalOk then
    let old := s.wch.aSec
    let s := s.setWatch (s.get2 WCH_SET_SEC_LO_SEC WCH_SET_SEC_HI_SEC) (s.get WCH_SET_NS_NS)
    let s := s.withWch { s.wch with commit := false, aligned := none }
    (s.set WCH_STATUS_TIME_VALID).watchLog 0x0107 0 old
  else s

/-- The seconds rollover: the copies are compared; after a mismatch TIME_CHECK sets, is logged and reported, and one copy
takes the other's value (R105, R106). `devSec` is the seconds count of device time. -/
def State.watchSecond (s : State) (devSec : Nat) : State :=
  let w := s.wch
  if w.aSec == w.bSec && w.aNs == w.bNs && w.aFrac == w.bFrac then s
  else
    let s := ((s.set WCH_STATUS_TIME_CHECK).watchLog 0x0106 0 w.bSec).watchReport 21 0 w.bSec
    let fromA (s : State) : State := s.withWch { s.wch with bSec := w.aSec, bNs := w.aNs, bFrac := w.aFrac }
    if s.inService && w.aSec == devSec then fromA s
    else if s.inService && w.bSec == devSec then
      s.withWch { s.wch with aSec := w.bSec, aNs := w.bNs, aFrac := w.bFrac }
    else (fromA s).clr WCH_STATUS_TIME_VALID

/-- The crystal corrections of the last 64 s at device-time second `sec`. A difference `d` that one second of the crystal has made, so
after an alignment at the second before, measures one more: the trim in force plus `d` (R107; DEDUCED, log entry 16). -/
def State.crystalOffsets (s : State) (sec : Nat) (d : Int) : List (Nat × Int) :=
  let kept := s.wch.offsets.filter fun x => decide (x.1 < sec) && decide (sec < x.1 + 64)
  if s.wch.aligned = some (sec - 1) ∧ 1 ≤ sec then ((sec, signed 16 (s.get WCH_TRIM_TRIM) + d) :: kept) else kept

/-- Alignment to device time at a device-time second, with a source other than dead reckoning in use: both copies take
device time, TIME_VALID sets, and with AUTO the average crystal correction of the last 64 s becomes TRIM (R107); which neighbour of an average
between two ppb is taken is free. A set that is committed in the same second wins (R142), and while the crystal has stopped watch
time holds (R109, R941). -/
def State.watchAlign (s : State) (sec ns : Nat) : State :=
  if s.wch.commit || !s.xtalOk then s
  else
    let d : Int := ((sec : Int) - s.wch.aSec) * 1000000000 + ((ns : Int) - s.wch.aNs)
    let offs := s.crystalOffsets sec d
    let sum := (offs.map (·.2)).foldl (· + ·) 0
    let up : Nat := if sum % (offs.length : Int) = 0 then 0 else s.draw % 2
    let avg := sum / (offs.length : Int) + (up : Int)
    let s := (s.drawn.setWatch sec ns).set WCH_STATUS_TIME_VALID
    let s := s.withWch { s.wch with offsets := offs, aligned := some sec }
    s.iff (s.bit WCH_TRIM_AUTO && !offs.isEmpty) fun s => s.put WCH_TRIM_TRIM (unsigned 16 (clampInt (-32767) 32767 avg))

/-- The crystal stops: XTAL_FAIL sets, is logged and reported; watch time and the wake timer hold; TIME_VALID clears
(R108, R109). -/
def State.xtalStop (s : State) : State :=
  if s.xtalOk then
    let s := ((((s.clr WCH_STATUS_XTAL_OK).set WCH_STATUS_XTAL_FAIL).watchLog 0x0104 0 0).watchReport 22 0 0).clr WCH_STATUS_TIME_VALID
    s.withWch { s.wch with aligned := none }
  else s

/-- The crystal is back after 32,768 good cycles: time resumes from its held value, TIME_VALID clear (R110). -/
def State.xtalRestored (s : State) (hold : Nat) : State :=
  if s.xtalOk then s else ((s.set WCH_STATUS_XTAL_OK).watchLog 0x0105 0 hold).clr WCH_STATUS_TIME_VALID

/-! ### Tamper inputs and wake timer -/

/-- A wake cause is present (R84), numbered as the bits of PWR_WAKE_CFG. -/
def State.wakeCause (s : State) (i : Nat) : State :=
  s.withPwr { s.pwr with causes := s.pwr.causes ||| (1#4 <<< i) }

/-- An enabled input's filtered event: status bit, count, TAMPER entry; a wake cause; and an erase where ERASE is set
(R120 to R122). In Off it causes no wake (R141). -/
def State.tamperEvent (s : State) (n : Nat) : State :=
  if bitsOf (s.word WCH_TAMPER_CFG) (8 * n + 7) 1 = 0 then s
  else
    let cnt : Fld := ⟨WCH_TAMPER_COUNT, 8 * n, 7⟩
    let s := (s.set ⟨WCH_STATUS, n, 1⟩).satInc cnt ⟨WCH_TAMPER_COUNT, 8 * n + 7, 1⟩
    let s := s.watchLog 0x0108 n (s.get cnt)
    let s := s.iff ((s.dev == .watch || s.dev == .draining) && s.bit PWR_WAKE_CFG_TAMPER) (·.wakeCause 3)
    s.iff (bitsOf (s.word WCH_TAMPER_CFG) (8 * n + 5) 1 == 1) fun s => s.withWch { s.wch with erase := true }

/-- The wake timer reaches 0 (R123). In Off it causes no wake (R141). A write of the timer in the same tick wins (R145). -/
def State.timerExpiry (s : State) : State :=
  if s.get WCH_WAKE_TIMER_COUNT ≠ 0 && s.xtalOk && s.wch.timerAt != s.now + 1 then
    let s := ((s.clr WCH_WAKE_TIMER_COUNT).set WCH_STATUS_TIMER).watchLog 0x010A 0 0
    let s := s.withWch { s.wch with timerPre := 0 }
    s.iff ((s.dev == .watch || s.dev == .draining) && s.bit PWR_WAKE_CFG_TIMER) (·.wakeCause 2)
  else s

/-! ### Supply and harvester -/

/-- The code of a supply in WCH_STATUS.SUPPLY and in FLAGS[3:2] (Table WCH-1). -/
def supplyCode : Supply → Nat
  | .store => 0
  | .vbat => 1
  | .aux => 2

/-- A source qualifies (Table WCH-3): the selected one down to its keeping limit, another from its taking limit. -/
def State.supplyOk (s : State) (lv : SupplyLevels) (src : Supply) : Bool :=
  let kept := s.get WCH_STATUS_SUPPLY == (supplyCode src)
  match src with
  | .store => s.bit HRV_CFG_EN &&
      decide (20 * (if kept then s.get HRV_THRESH_USE_OFF else s.get HRV_THRESH_USE_ON) ≤ lv.storeMv)
  | .vbat => decide ((if kept then 2000 else 2100) ≤ lv.vbatMv)
  | .aux => lv.auxOk

/-- The highest source that qualifies, in the order of Table WCH-3. -/
def State.supplyPick (s : State) (lv : SupplyLevels) : Option Supply :=
  [Supply.store, .vbat, .aux].find? (s.supplyOk lv)

/-- A switch: count, SWITCHED, and the SUPPLY_SWITCH entry (R128), whose own FLAGS[3:2] show the new source: the spec does not say which
of the two they show (DESIGN CHOICE, log entry 63). -/
def State.supplySwitch (s : State) (dst : Supply) (storeMv : Nat) : State :=
  let old := s.get WCH_STATUS_SUPPLY
  let s := (s.satInc WCH_SUPPLY_COUNT_COUNT WCH_SUPPLY_COUNT_OVF).set WCH_STATUS_SWITCHED
  (s.put WCH_STATUS_SUPPLY (supplyCode dst)).watchLog 0x0102 0 (old + (supplyCode dst) * 256 + storeMv % 65536 * 65536)

/-- No source qualifies while the store is in use: STORE_LOW once, at USE_OFF (R127). -/
def State.storeLowCheck (s : State) (storeMv : Nat) : State :=
  if s.get WCH_STATUS_SUPPLY == supplyCode .store && !s.wch.storeLow && decide (storeMv < 20 * s.get HRV_THRESH_USE_OFF) then
    let s := (s.set WCH_STATUS_STORE_LOW).watchLog 0x0103 0 storeMv
    s.withWch { s.wch with storeLow := true }
  else s

/-- The selector re-evaluates and moves to the highest qualified source; with none it stays (R125 to R128). -/
def State.supplySelect (s : State) (lv : SupplyLevels) : State :=
  match s.supplyPick lv with
  | some src =>
    let s := s.withWch { s.wch with storeLow := false }
    s.iff (s.get WCH_STATUS_SUPPLY != (supplyCode src)) (·.supplySwitch src lv.storeMv)
  | none => s.storeLowCheck lv.storeMv

/-- The harvester's mode after a sample (R131, R132, R135): 0 off, 1 cold start, 2 rectifying, 3 stopped at STORE_MAX. -/
def hrvMode (en : Bool) (mode storeMv inputMv storeMax : Nat) : Nat :=
  if !en then 0
  else
    let cold := if 330 ≤ inputMv then 1 else 0
    if mode = 3 then (if storeMv + 100 ≤ storeMax then (if 1600 ≤ storeMv then 2 else cold) else 3)
    else if mode = 2 then (if storeMax ≤ storeMv then 3 else if 1600 ≤ storeMv then 2 else cold)
    else if storeMax ≤ storeMv then 3
    else if 1800 ≤ storeMv then 2
    else cold

/-- One reference sample: the store voltage, the mode, and the supply (R125, R131 to R133, R135). -/
def State.hrvSample (s : State) (lv : SupplyLevels) (inputMv : Nat) : State :=
  let mode := hrvMode (s.bit HRV_CFG_EN) (s.get HRV_STATUS_MODE) lv.storeMv inputMv (20 * s.get HRV_THRESH_STORE_MAX)
  ((s.put HRV_STATUS_STORE_MV lv.storeMv).put HRV_STATUS_MODE mode).supplySelect lv

/-- The tracker's sample: open-circuit voltage, frequency and the rectifier's set point FRAC/64 × VOC (R134), held in whole millivolts
and rounded down: the spec gives no rounding (DESIGN CHOICE, log entry 63). -/
def State.hrvTrack (s : State) (voc freq : Nat) : State :=
  if s.bit HRV_CFG_EN then
    let s := (s.put HRV_TRACK_VOC voc).put HRV_TRACK_FREQ freq
    (s.withWch { s.wch with rectMv := s.get HRV_CFG_FRAC * voc / 64 })
  else s

/-- An address of the WCH, HRV or LOG window, or one of the two PWR_STATUS bits that the Watch domain holds (R19). -/
def inWatchDomain (a : Nat) : Bool :=
  (decide (0x40008000 ≤ a) && decide (a < 0x40020000)) || (decide (0x40180000 ≤ a) && decide (a < 0x40190000))

/-- First supply after losing every source: every WCH, LOG and HRV field to its reset value, the log cleared, WATCH_COLD
logged with SEQ 0 (R148). -/
def State.watchCold (s : State) (src : Supply) : State :=
  if s.wch.up then s
  else
    let regs := s.regs.filter fun c => !inWatchDomain c.1
    let s := (s.withRegs (putAll regs watchResetRegs)).withWch WchState.cold
    let s := s.put WCH_STATUS_SUPPLY (supplyCode src)
    let s := (s.clr PWR_STATUS_CORE_DROP).clr PWR_STATUS_FROM_WATCH_RELOAD
    s.watchLog 0x0101 0 0

end Sys2Proof.Machine
end

