-- ==== Sys2Proof/Machine/Cph.lean ====
section
/-!
DEFINITION. The cipher engine: key slots and their rewrites, direct requests, the descriptor queue, completion, cancel,
zeroization and the hard clients (R477 to R530).
-/
namespace Sys2Proof.Machine

/-- The slot of a number. -/
def State.slot (s : State) (k : Nat) : Slot := s.cph.slots[k]?.getD Slot.erased

/-- Replace a slot. -/
def State.putSlot (s : State) (k : Nat) (v : Slot) : State :=
  s.withCph { s.cph with slots := s.cph.slots.setIfInBounds k v }

/-- Fields of MODEBIND (Table CPH-3). -/
def mbMode (m : Nat) : Nat := m % 8
def mbEncOk (m : Nat) : Bool := m / 16 % 2 == 1
def mbDecOk (m : Nat) : Bool := m / 32 % 2 == 1
def mbDerive (m : Nat) : Bool := m / 64 % 2 == 1
def mbGuard (m : Nat) : Bool := m / 128 % 2 == 1

/-- Bytes of a counter of width code `w`: 2, 4, 6 or 8. -/
def ctrBytes (w : Nat) : Nat := 2 * (w + 1)

/-- All-ones of a counter (R493). -/
def ctrMax (w : Nat) : Nat := 256 ^ ctrBytes w - 1

/-- The fabric is released: before it every request is refused with reason 6 (R529). -/
def State.released (s : State) : Bool := s.bit FAB_STATUS_RELEASED

/-- The engine clock is muted: FPLL7 (R528). -/
def State.cphHold (s : State) : Bool := s.bit (PLL_STATUS_MUTED 7)

/-- Status codes of Table CPH-8. -/
def stComplete : Nat := 0
def stCancelled : Nat := 1
def stSlotChanged : Nat := 2
def stSlotErased : Nat := 3
def stExhausted : Nat := 4
def stPageDenied : Nat := 5
def stTagFail : Nat := 6
def stGuard : Nat := 7
def stQueueFull : Nat := 8
def stBufferEcc : Nat := 9
def stFormat : Nat := 10

/-- Bit `k` of the page's slot mask (R497). -/
def State.pageHas (s : State) (p k : Nat) : Bool :=
  if k < 32 then bitsOf (s.word (PAGE_SLOTS_LO p)) k 1 == 1 else bitsOf (s.word (PAGE_SLOTS_HI p)) (k - 32) 1 == 1

/-- Page `p` is in the slot's PAGES. -/
def Slot.hasPage (v : Slot) (p : Nat) : Bool := v.pages / 2 ^ p % 2 == 1

/-- MODEBIND allows the operation: ENCRYPT and CMAC_GEN by ENC_OK, DECRYPT and CMAC_VERIFY by DEC_OK, each in its modes. -/
def mbAllows (m op : Nat) : Bool :=
  match op with
  | 1 => decide (mbMode m ≤ 4) && mbEncOk m
  | 2 => decide (mbMode m ≤ 4) && mbDecOk m
  | 3 => mbMode m == 5 && mbEncOk m
  | 4 => mbMode m == 5 && mbDecOk m
  | _ => false

/-- Tag lengths of R496. -/
def tagLenOk (mode n : Nat) : Bool :=
  if mode = 4 then [4, 8, 12, 13, 14, 15, 16].contains n else if mode = 5 then decide (4 ≤ n) && decide (n ≤ 16) else n == 0

/-- The buffers of a queue entry are open and aligned (R506). -/
def State.reqBufOk (s : State) (r : CphReq) (mode : Nat) : Bool :=
  let cmac := mode == 5
  s.bufOk r.src r.len && (cmac || s.bufOk r.dst (up8 r.len)) && s.bufOk r.aad r.aadLen &&
  s.bufOk r.tagAddr r.tagLen && (cmac || s.bufOk r.ivAddr 16)

/-- The check of a request against its form, the page, the slot and its buffers (R505): status and reason, or nothing. -/
def State.cphCheck (s : State) (r : CphReq) : Option (Nat × Nat) :=
  let v := s.slot r.slot
  let mode := mbMode v.modebind
  if !s.released then some (stPageDenied, 6)
  else if r.op = 0 ∨ 4 < r.op then some (stFormat, 1)
  else if r.slot = 63 then some (stFormat, 5)
  else if !s.pageHas r.page r.slot then some (stPageDenied, 1)
  else if !v.valid then some (stPageDenied, 5)
  else if !v.hasPage r.page then some (stPageDenied, 2)
  else if !mbAllows v.modebind r.op then some (stPageDenied, 4)
  else if (mode = 0 ∧ r.len % 16 ≠ 0) ∨ (r.direct ∧ 64 < r.len) then some (stFormat, 2)
  else if !tagLenOk mode r.tagLen then some (stFormat, 3)
  else if (mode ≠ 4 ∧ r.aadLen ≠ 0) ∨ (r.direct ∧ 32 < r.aadLen) then some (stFormat, 4)
  else if !r.direct && !s.reqBufOk r mode then some (stPageDenied, 3)
  else none

/-! ### Completion -/

/-- A completion record (Table CPH-7). -/
def cphRecord (r : CphReq) (status info gen : Nat) (ran : Bool) : Nat :=
  info % 2 ^ 32 * 2 ^ 32 + (if ran && r.guard then 2 ^ 31 else 0) + (if r.late then 2 ^ 30 else 0) + gen % 256 * 2 ^ 22 +
  r.slot % 64 * 2 ^ 16 + r.page % 16 * 2 ^ 12 + status % 16 * 16

/-- The record of a page bound to a fabric master also goes out on the completion stream port, its TAG in USER[7:0] (R511). -/
def State.cphToFabric (s : State) (p : Nat) : Bool := decide (s.get (PAGE_CFG_MASTER p) < 12)

/-- Post waiting outcomes whose FIFO has room, in finish order (R511, R512), and whose beat has room where the completion stream port
takes it. -/
def State.cphPost (s : State) : State :=
  let waiting := s.cph.waiting
  (s.withCph { s.cph with waiting := [] }).each waiting fun s d =>
    let q := s.cph.fifos[d.page]?.getD []
    if decide (q.length < 8) && (!s.cphToFabric d.page || s.streamRoom cmpPort 1) then
      let s := s.withCph { s.cph with
        fifos := s.cph.fifos.setIfInBounds d.page (q ++ [(d.record, d.tag)]) }
      s.iff (s.cphToFabric d.page) (·.streamPush cmpPort (unitBeats d.tag 0 [d.record]))
    else s.withCph { s.cph with waiting := s.cph.waiting ++ [d] }

/-- Add an outcome and post what can be posted. -/
def State.cphOutcome (s : State) (d : CphDone) : State :=
  (s.withCph { s.cph with waiting := s.cph.waiting ++ [d] }).cphPost

/-- The counters and event lines of a status. -/
def State.cphCount (s : State) (status : Nat) : State :=
  match status with
  | 0 => s.modInc2 CPH_CNT_OPS_LO_COUNT CPH_CNT_OPS_HI_COUNT
  | 1 => s.satInc CPH_CNT_CANCEL_COUNT CPH_CNT_CANCEL_OVF
  | 4 => (s.satInc CPH_CNT_EXHAUSTED_COUNT CPH_CNT_EXHAUSTED_OVF).event 144
  | 6 => (s.satInc CPH_CNT_TAGFAIL_COUNT CPH_CNT_TAGFAIL_OVF).event 145
  | 7 => (s.satInc CPH_CNT_GUARD_COUNT CPH_CNT_GUARD_OVF).event 146
  | 8 => (s.satInc CPH_CNT_QFULL_COUNT CPH_CNT_QFULL_OVF).event 148
  | _ => s

/-- Remove a request from the engine's lists. -/
def State.cphRemove (s : State) (r : CphReq) : State :=
  let keep (x : CphReq) : Bool := !(x.direct == r.direct && x.page == r.page && (r.direct || x.entry == r.entry))
  (s.withCph { s.cph with directs := s.cph.directs.filter keep, queue := s.cph.queue.filter keep })

/-- Finish a request with a status: the page's D_STATUS for a direct request, a completion record for a queue entry, which keeps its entry
until the record is posted (R511) unless it was cancelled (R514). -/
def State.cphFinish (s : State) (r : CphReq) (status reason : Nat) (ran : Bool) : State :=
  let s := (s.cphRemove r).cphCount status
  let p := r.page
  let gen := if ran then r.genUsed else (s.slot r.slot).gen
  if r.direct then
    let s := ((s.clr (D_STATUS_BUSY p)).set (D_STATUS_DONE p)).put (D_STATUS_STATUS p) status
    let s := (s.put (D_STATUS_REASON p) reason).iff r.late (·.set (D_STATUS_CANCEL_LATE p))
    let s := s.iff (ran && r.op == 1) (·.put (D_CTR_N p) r.n)
    s.iff r.port (·.emit (.pageDone p status reason (if ran && r.op == 1 then r.n % 2 ^ 32 else 0)))
  else
    let info := if status = stComplete ∧ r.op = 1 then r.n else if status = stPageDenied ∨ status = stFormat then reason else 0
    s.cphOutcome { page := p, record := cphRecord r status info gen ran, tag := r.tag, held := status != stCancelled, entry := r.entry,
                   slot := r.slot }

/-- The data a request works on, from the D registers or deep memory: IV block, AAD, data, tag. -/
def State.cphInputs (s : State) (r : CphReq) : List Byte × List Byte × List Byte × List Byte :=
  if r.direct then (r.dIv, r.dAad.take r.aadLen, r.dData.take r.len, r.dTag.take r.tagLen)
  else (s.deepBytes r.ivAddr 16, s.deepBytes r.aad r.aadLen, s.deepBytes r.src r.len, s.deepBytes r.tagAddr r.tagLen)

/-- The outcome of the cipher itself: status, destination bytes, tag bytes to write, IV to write back. -/
def cphCompute (v : Slot) (op n : Nat) (ivb aad data tag : List Byte) (tagLen : Nat) :
    Nat × List Byte × List Byte × List Byte :=
  let mode := mbMode v.modebind
  let w := ctrBytes v.ctrw
  let fixed := padTo (12 - w) ivb
  let iv96 := fixed ++ beBytes w n
  let block := iv96 ++ [0, 0, 0, 0]
  match op with
  | 1 =>
    match mode with
    | 4 =>
      let ct := gcmCrypt v.key iv96 data
      (stComplete, ct, (gcmTag v.key iv96 aad ct).take tagLen, iv96)
    | 3 => (stComplete, aesCtr v.key block data, [], block)
    | m =>
      let iv := aesEnc v.key block
      (stComplete, (if m = 0 then aesCbcEnc v.key iv data else if m = 1 then aesCfb true v.key iv data
        else aesOfb v.key iv data), [], iv)
  | 2 =>
    match mode with
    | 4 =>
      match gcmOpen v.key (ivb.take 12) aad data tag with
      | some pt => (stComplete, pt, [], [])
      | none => (stTagFail, [], [], [])
    | 3 => (stComplete, aesCtr v.key (padTo 16 ivb) data, [], [])
    | m => (stComplete, (if m = 0 then aesCbcDec v.key (padTo 16 ivb) data else if m = 1 then aesCfb false v.key (padTo 16 ivb) data
        else aesOfb v.key (padTo 16 ivb) data), [], [])
  | 3 => (stComplete, [], (aesCmac v.key data).take tagLen, [])
  | _ => ((if (aesCmac v.key data).take tag.length = tag then stComplete else stTagFail), [], [], [])

/-- The 128-bit beats of a byte string, least significant byte first, the last padded with zeros; `fuel` bounds them. -/
def beats16 : Nat → List Byte → List (BitVec 128)
  | 0, _ => []
  | f + 1, bs => if bs.isEmpty then [] else BitVec.ofNat 128 (leNat (bs.take 16)) :: beats16 f (bs.drop 16)

/-- Write a request's results: data, the tag, and the IV an ENCRYPT used, in whole 64-bit words with zeros beyond the last byte (R495,
R507); those of the page interface leave on it (R499). -/
def State.cphWrite (s : State) (r : CphReq) (dst tag iv : List Byte) : State :=
  let dst8 := padTo (up8 dst.length) dst
  if r.port then s.emit (.pageData r.page (beats16 dst8.length dst8) (leNat tag) (leNat iv))
  else if r.direct then
    let s := s.putRegBytes (D_DATA r.page 0) dst8
    let s := s.iff (!tag.isEmpty) (·.putRegBytes (D_TAG r.page 0) (padTo ((tag.length + 3) / 4 * 4) tag))
    s.iff (!iv.isEmpty) (·.putRegBytes (D_IV r.page 0) iv)
  else
    let s := s.putDeep r.dst dst8
    let s := s.putDeep r.tagAddr (padTo (up8 tag.length) tag)
    s.putDeep r.ivAddr (padTo (up8 iv.length) iv)

/-- Zero over the part of the destination that an operation wrote (R490, R508): `whole` where it had come to its end, else as many of its
64-bit words as it had then written, a number that is free. -/
def State.cphZeroDst (s : State) (r : CphReq) (mode : Nat) (whole : Bool) : State :=
  let words := (r.len + 7) / 8
  let n := 8 * if whole then words else s.draw % (words + 1)
  let s := s.iff (!whole) (·.drawn)
  if mode = 5 || r.port then s
  else if r.direct then s.putRegBytes (D_DATA r.page 0) (List.replicate n 0)
  else s.putDeep r.dst (List.replicate n 0)

/-- The buffers of a queue entry that an operation reads through port H. -/
def bufferReads (r : CphReq) (mode : Nat) : List (Nat × Nat) :=
  if r.direct then []
  else
    [(r.src, r.len), (r.aad, r.aadLen)] ++ (if r.op = 2 ∨ r.op = 4 then [(r.tagAddr, r.tagLen)] else []) ++
    (if mode = 5 then [] else [(r.ivAddr, 16)])

/-- The buffers are read: every error found is reported (R273). -/
def State.readBuffers (s : State) (bs : List (Nat × Nat)) (dbe : Bool) : State :=
  s.each bs.zipIdx fun s x => s.deepReads x.1.1 x.1.2 (dbe && x.2 == 0)

/-- One of the buffers has a word that its read cannot correct (R243). -/
def State.buffersFail (s : State) (bs : List (Nat × Nat)) (dbe : Bool) : Bool :=
  bs.zipIdx.any fun x => s.deepFails x.1.1 x.1.2 (dbe && x.2 == 0)

/-- An operation reaches its end on a datapath (R480, R481, R507 to R511). Where a guarded operation meets both a mismatch and a
double-bit error on port H, GUARD_MISMATCH stands (DESIGN CHOICE, log entry 65: R481 and R510 do not say which). `bufferDbe` says that an upset
has put a double-bit error into the first word of the source. -/
def State.cphComplete (s : State) (d : Nat) (mismatch bufferDbe : Bool) : State :=
  if s.cphHold then s
  else
    match (s.cph.directs ++ s.cph.queue).find? fun r => r.dp / 2 ^ d % 2 == 1 with
    | none => s
    | some r =>
      let v := s.slot r.slot
      let mode := mbMode v.modebind
      let fails := s.buffersFail (bufferReads r mode) bufferDbe
      let s := s.readBuffers (bufferReads r mode) bufferDbe
      if r.guard && mismatch then ((s.cphZeroDst r mode false).cphFinish r stGuard 0 true).report 26 r.slot r.page
      else if fails then (s.cphZeroDst r mode false).cphFinish r stBufferEcc 0 true
      else
        let inp := s.cphInputs r
        let out := cphCompute v r.op r.n inp.1 inp.2.1 inp.2.2.1 inp.2.2.2 r.tagLen
        if out.1 = stComplete then (s.cphWrite r out.2.1 out.2.2.1 out.2.2.2).cphFinish r stComplete 0 true
        else ((if r.op = 2 then s.cphZeroDst r mode true else s).cphFinish r out.1 0 true)

/-! ### Start -/

/-- Datapaths in use, bit 0 and bit 1. -/
def State.cphBusy (s : State) : Nat :=
  (s.cph.directs ++ s.cph.queue).foldl (fun b r => Nat.lor b r.dp) 0

/-- A request runs guarded (R482). -/
def State.cphGuarded (s : State) (r : CphReq) : Bool :=
  s.bit CPH_CFG_GUARD_ALL || mbGuard (s.slot r.slot).modebind || r.guard

/-- Replace a request in the engine's lists. -/
def State.cphReplace (s : State) (r : CphReq) : State :=
  let f (x : CphReq) : CphReq := if x.direct == r.direct && x.page == r.page && (r.direct || x.entry == r.entry) then r else x
  (s.withCph { s.cph with directs := s.cph.directs.map f, queue := s.cph.queue.map f })

/-- Start one request on a free datapath: a second check, the generation check, the counter (R488, R492, R493, R505). -/
def State.cphStartReq (s : State) (r : CphReq) : State :=
  let v := s.slot r.slot
  match s.cphCheck r with
  | some (st, reason) => s.cphFinish r st reason false
  | none =>
    if r.genChk && v.gen != r.gen then s.cphFinish r stSlotChanged 0 false
    else if r.op = 1 ∧ v.ctr = ctrMax v.ctrw then
      (s.putSlot r.slot { v with exhausted := true }).cphFinish r stExhausted 0 false
    else
      let g := s.cphGuarded r
      let dp := if g then 3 else if s.cphBusy % 2 = 0 then 1 else 2
      let s := s.iff (r.op == 1) (·.putSlot r.slot { v with ctr := v.ctr + 1 })
      s.cphReplace { r with guard := g, dp := dp, n := (if r.op = 1 then v.ctr else 0), genUsed := v.gen }

/-- The next work at a block boundary (R501): direct requests oldest first, then queue entries oldest first; a request whose
slot waits for its shadow is passed over (R489). -/
def State.cphNext (s : State) : Option CphReq :=
  (s.cph.directs ++ s.cph.queue).find? fun r => r.dp == 0 && (s.slot r.slot).shadow.isNone

/-- A block boundary: the next request starts where the datapaths it needs are free (R482, R501). -/
def State.cphStart (s : State) : State :=
  if s.cphHold then s
  else
    match s.cphNext with
    | none => s
    | some r =>
      let b := s.cphBusy
      if (s.cphGuarded r && b != 0) || b == 3 then s else s.cphStartReq r

/-! ### Direct requests and the queue -/

/-- The direct request of a D_CMD word. The D registers are taken as they stand at GO. -/
def State.dRequest (s : State) (p : Nat) (w : Word) : CphReq :=
  { direct := true, page := p, entry := 0, op := bitsOf w 24 4, slot := bitsOf w 16 6, gen := bitsOf w 8 8,
    genChk := bitsOf w 7 1 == 1, guard := bitsOf w 6 1 == 1, tag := 0, tagLen := s.get (D_LEN_TAGLEN p),
    len := s.get (D_LEN_LEN p), aadLen := s.get (D_LEN_AADLEN p), src := 0, dst := 0, aad := 0, tagAddr := 0, ivAddr := 0,
    dData := s.regBytes (D_DATA p 0) 16, dAad := s.regBytes (D_AAD p 0) 8, dTag := s.regBytes (D_TAG p 0) 4,
    dIv := s.regBytes (D_IV p 0) 4, dp := 0, n := 0, genUsed := 0, late := false, port := false }

/-- The direct request that the page interface carries with a D_CMD word: its data come in 128-bit beats, least significant byte first
(R499, R500). -/
def pageRequest (p : Nat) (w : Word) (x : PageBeats) : CphReq :=
  { direct := true, page := p, entry := 0, op := bitsOf w 24 4, slot := bitsOf w 16 6, gen := bitsOf w 8 8,
    genChk := bitsOf w 7 1 == 1, guard := bitsOf w 6 1 == 1, tag := 0, tagLen := x.tagLen.toNat, len := x.len.toNat,
    aadLen := x.aadLen.toNat, src := 0, dst := 0, aad := 0, tagAddr := 0, ivAddr := 0,
    dData := padTo 64 (x.data.flatMap fun b => leBytes 16 b.toNat), dAad := padTo 32 (x.aad.flatMap fun b => leBytes 16 b.toNat),
    dTag := leBytes 16 x.tag.toNat, dIv := leBytes 16 x.iv.toNat, dp := 0, n := 0, genUsed := 0, late := false, port := true }

/-- GO of a direct request (R500): ignored with BUSY_GO while one is outstanding, else checked and accepted. -/
def State.directGo (s : State) (r : CphReq) : State :=
  if s.cph.directs.any (·.page == r.page) then s.set (D_STATUS_BUSY_GO r.page)
  else
    match s.cphCheck r with
    | some (st, reason) => s.cphFinish r st reason false
    | none =>
      let s := s.withCph { s.cph with directs := s.cph.directs ++ [r] }
      s.set (D_STATUS_BUSY r.page)

/-- Cancel a request: CANCELLED before its start, CANCEL_LATE after (R514, R515). -/
def State.cphCancel (s : State) (r : CphReq) : State :=
  if r.dp = 0 then s.cphFinish r stCancelled 0 false else s.cphReplace { r with late := true }

/-- D_CMD CANCEL. -/
def State.dCancel (s : State) (p : Nat) : State :=
  match s.cph.directs.find? (·.page == p) with
  | some r => s.cphCancel r
  | none => s

/-- A direct request `r` offered with the GO and CANCEL bits of a D_CMD word. A cancel beside its own GO wins: the request completes
CANCELLED before any check (R40, R514); beside the GO that an outstanding request turns away it names that one. -/
def State.directCmd (s : State) (r : CphReq) (w : Word) : State :=
  let go := bitsOf w 31 1 == 1
  let cancel := bitsOf w 30 1 == 1
  if go && cancel && !s.cph.directs.any (·.page == r.page) then s.cphFinish r stCancelled 0 false
  else (s.iff go (·.directGo r)).iff cancel (·.dCancel r.page)

/-- A write of D_CMD. -/
def State.dCmd (s : State) (p : Nat) (w : Word) : State := s.directCmd (s.dRequest p w) w

/-- The page interface serves the page: the page is in use and bound to a fabric master (R499). -/
def State.pagePort (s : State) (p : Nat) : Bool := s.bit (PAGE_CFG_EN p) && decide (s.get (PAGE_CFG_MASTER p) < 12)

/-- A command at the page interface (R499). -/
def State.pageCmd (s : State) (p : Nat) (w : Word) (x : PageBeats) : State := s.iff (s.pagePort p) (·.directCmd (pageRequest p w x) w)

/-- Queue entries a page holds, finished ones that wait for the FIFO included (R512). -/
def State.pageQueued (s : State) (p : Nat) : Nat :=
  (s.cph.queue.filter (·.page == p)).length + (s.cph.waiting.filter fun d => d.held && d.page == p).length

/-- Queue entries in use. -/
def State.queueUsed (s : State) : Nat := s.cph.queue.length + (s.cph.waiting.filter (·.held)).length

/-- The lowest free entry number. -/
def State.freeEntry (s : State) : Nat :=
  ((List.range 64).find? fun e => !(s.cph.queue.any (·.entry == e) || s.cph.waiting.any fun d => d.held && d.entry == e)).getD 0

/-- QUOTA of a page: 0 stores 1. -/
def State.pageQuota (s : State) (p : Nat) : Nat := clampNat 1 64 (s.get (PAGE_CFG_QUOTA p))

/-- The request that eight descriptor words of a page describe (Table CPH-6). -/
def State.descriptorOf (s : State) (p : Nat) (ws : List Word) : CphReq :=
  let d (j : Nat) : Word := ws.getD j 0
  { direct := false, page := p, entry := s.freeEntry, op := bitsOf (d 0) 28 4, slot := bitsOf (d 0) 16 6,
    gen := bitsOf (d 0) 8 8, genChk := bitsOf (d 0) 25 1 == 1, guard := bitsOf (d 0) 26 1 == 1, tag := bitsOf (d 0) 0 8,
    tagLen := bitsOf (d 1) 24 8, len := bitsOf (d 1) 0 24, aadLen := bitsOf (d 5) 0 16, src := bitsOf (d 2) 0 25,
    dst := bitsOf (d 3) 0 25, aad := bitsOf (d 4) 0 25, tagAddr := bitsOf (d 6) 0 25, ivAddr := bitsOf (d 7) 0 25,
    dData := [], dAad := [], dTag := [], dIv := [], dp := 0, n := 0, genUsed := 0, late := false, port := false }

/-- The request that Q_DESC0–7 of a page describe. -/
def State.descriptor (s : State) (p : Nat) : CphReq := s.descriptorOf p (cellReadAll s.regs (Q_DESC p 0) 4 8)

/-- A submit (R503 to R505): QUEUE_FULL and refusals take no entry; Q_SUBMIT_STATUS tells which. -/
def State.qSubmit (s : State) (r : CphReq) : State :=
  let p := r.page
  let refuse (s : State) (st reason result : Nat) : State :=
    let s := (s.put (Q_SUBMIT_STATUS_RESULT p) result).cphCount st
    s.cphOutcome { page := p, record := cphRecord r st reason (s.slot r.slot).gen false, tag := r.tag, held := false, entry := 0,
                   slot := r.slot }
  if 64 ≤ s.queueUsed ∨ s.pageQuota p ≤ s.pageQueued p then refuse s stQueueFull 0 2
  else
    match s.cphCheck r with
    | some (st, reason) => refuse s st reason 4
    | none =>
      let s := s.withCph { s.cph with queue := s.cph.queue ++ [r] }
      s.put (Q_SUBMIT_STATUS_RESULT p) 1

/-- Q_CMD CANCEL names the oldest entry of the page with the tag (R515, R516). -/
def State.qCancel (s : State) (p tag : Nat) : State :=
  match s.cph.queue.find? fun r => r.page == p && r.tag == tag with
  | some r => s.cphCancel r
  | none => s

/-- A submit of `r` and a cancel of `tag` as the SUBMIT and CANCEL bits of a Q_CMD word ask for them. A cancel that names the task being
submitted, no older entry having its tag (R516), wins: the task completes CANCELLED before any check and takes no entry (R40, R514).
Q_SUBMIT_STATUS then reads accepted (DESIGN CHOICE, log entry 65). -/
def State.queueCmd (s : State) (r : CphReq) (submit cancel : Bool) (tag : Nat) : State :=
  if submit && cancel && r.tag == tag && !s.cph.queue.any fun q => q.page == r.page && q.tag == tag then
    (((s.cphCount stCancelled).put (Q_SUBMIT_STATUS_RESULT r.page) 1)).cphOutcome
      { page := r.page, record := cphRecord r stCancelled 0 (s.slot r.slot).gen false, tag := r.tag, held := false, entry := 0,
        slot := r.slot }
  else (s.iff submit (·.qSubmit r)).iff cancel (·.qCancel r.page tag)

/-- A write of Q_CMD. -/
def State.qCmd (s : State) (p : Nat) (w : Word) : State :=
  s.queueCmd (s.descriptor p) (bitsOf w 31 1 == 1) (bitsOf w 30 1 == 1) (bitsOf w 0 8)

/-- A descriptor on the descriptor stream port (R503), with a cancel beside it where one is sampled in the same cycle. -/
def State.qStream (s : State) (p : Nat) (ws : List Word) (cancel : Option Byte) : State :=
  s.iff (s.pagePort p) fun s => (s.streamTake descPort 4).queueCmd (s.descriptorOf p ws) true cancel.isSome ((cancel.map (·.toNat)).getD 0)

/-- A cancel on the descriptor stream port (R513). -/
def State.qStreamCancel (s : State) (p tag : Nat) : State := s.iff (s.pagePort p) (·.qCancel p tag)

/-- A read of Q_CMP_LO by the page's master pops the oldest record into the held copy; 0 where the FIFO is empty. -/
def State.qPop (s : State) (p : Nat) : Nat × State :=
  match s.cph.fifos[p]?.getD [] with
  | [] => (0, s)
  | (rec, _) :: rest =>
    (rec % 2 ^ 32, (s.withCph { s.cph with fifos := s.cph.fifos.setIfInBounds p rest,
                                                 helds := s.cph.helds.setIfInBounds p rec }).cphPost)

/-! ### Slot operations -/

/-- Operations in flight on a slot. -/
def State.inFlight (s : State) (k : Nat) : Bool := (s.cph.directs ++ s.cph.queue).any fun r => r.slot == k && r.dp != 0

/-- Complete every request that names the slot and has not started. -/
def State.cphDropWaiting (s : State) (k status : Nat) : State :=
  s.each ((s.cph.directs ++ s.cph.queue).filter fun r => r.slot == k && r.dp == 0) fun s r => s.cphFinish r status 0 false

/-- A pending shadow takes effect once nothing is in flight on the slot (R488). -/
def State.shadowEffect (s : State) (k : Nat) : State :=
  let v := s.slot k
  match v.shadow with
  | none => s
  | some n =>
    if s.inFlight k then s
    else (s.putSlot k { key := n.key, modebind := n.modebind, pages := n.pages, gen := (v.gen + 1) % 256, ctrw := n.ctrw,
                        ctr := 0, valid := true, exhausted := false, shadow := none }).event 150

/-- A rewrite (R487 to R489): at once for a slot that is not VALID, else into the shadow. -/
def State.slotRewrite (s : State) (k : Nat) (n : ShadowKey) : State :=
  let v := s.slot k
  if v.valid then (s.cphDropWaiting k stSlotChanged).putSlot k { v with shadow := some n }
  else s.putSlot k { key := n.key, modebind := n.modebind, pages := n.pages, gen := 0, ctrw := n.ctrw, ctr := 0, valid := true,
                     exhausted := false, shadow := none }

/-- An erase (R490): operations in flight abort with their destinations zeroed, waiting requests complete SLOT_ERASED. -/
def State.slotErase (s : State) (k : Nat) : State :=
  let mode := mbMode (s.slot k).modebind
  let s := s.each ((s.cph.directs ++ s.cph.queue).filter fun r => r.slot == k && r.dp != 0) fun s r =>
    (s.cphZeroDst r mode false).cphFinish r stSlotErased 0 true
  (s.cphDropWaiting k stSlotErased).putSlot k Slot.erased

/-- A page may act on a slot (R485); slot 63 may be named by no page (R491). -/
def State.slotAllowed (s : State) (p k : Nat) : Bool :=
  k != 63 && s.pageHas p k && (!(s.slot k).valid || (s.slot k).hasPage p)

/-- The binding in K_BIND with a key. -/
def State.kBound (s : State) (p : Nat) (key : List Byte) : ShadowKey :=
  { key := key, modebind := s.get (K_BIND_MODEBIND p), pages := s.get (K_BIND_PAGES p), ctrw := s.get (K_BIND_CTRW p) }

/-- Key bytes that K_BIND asks for. -/
def State.kLen (s : State) (p : Nat) : Nat := if s.bit (K_BIND_KEY256 p) then 32 else 16

/-- The derived key (R486): T1, or T1 ∥ T2, with Ti = CMAC(parent, i ∥ CONTEXT ∥ 0x00 0x01). -/
def State.kDerived (s : State) (p parent : Nat) : List Byte :=
  let ctx := (s.regBytes (K_DATA p 0) 8).take (s.get (K_BIND_CTXLEN p))
  let t (i : Nat) : List Byte := aesCmac (s.slot parent).key (beBytes 1 i ++ ctx ++ [0, 1])
  if s.bit (K_BIND_KEY256 p) then t 1 ++ t 2 else t 1

/-- A parent may serve a DERIVE: usable by the page, VALID, DERIVE_OK, mode CMAC. -/
def State.parentOk (s : State) (p k : Nat) : Bool :=
  let v := s.slot k
  s.slotAllowed p k && v.valid && mbDerive v.modebind && mbMode v.modebind == 5

/-- The result of a slot operation, and K_DATA zeroed after it (R486). -/
def State.kResult (s : State) (p r : Nat) : State :=
  (s.put (K_STATUS_RESULT p) r).putRegBytes (K_DATA p 0) (List.replicate 32 0)

/-- A write of K_CMD (R485 to R490). Every operation is refused before fabric release (R529), and an OP that is none of the four is
refused. -/
def State.kCmd (s : State) (p : Nat) (w : Word) : State :=
  let op := bitsOf w 12 4
  let parent := bitsOf w 6 6
  let k := bitsOf w 0 6
  let result (s : State) : Nat := if (s.slot k).shadow.isSome then 2 else 0
  let rewrite (s : State) (key : List Byte) : State :=
    let s' := s.slotRewrite k (s.kBound p key)
    s'.kResult p (result s')
  if !keyed w then s
  else if op = 0 ∨ 4 < op then s.kResult p 1
  else if !s.released || !s.slotAllowed p k then s.kResult p 1
  else
    match op with
    | 1 => rewrite s ((s.regBytes (K_DATA p 0) 8).take (s.kLen p))
    | 2 =>
      if s.bit CPH_STATUS_RNG_FAIL || s.cph.rngFails then s.kResult p 1
      else rewrite (s.drawnBytes (s.kLen p)) (s.drawBytes (s.kLen p))
    | 3 => if s.parentOk p parent then rewrite s (s.kDerived p parent) else s.kResult p 1
    | _ => (s.slotErase k).kResult p 0

/-- Zeroization (R520): every slot erased, every request completed SLOT_ERASED, K_DATA, the D registers, the FIFOs and the
datapaths cleared. -/
def State.cphZeroize (s : State) : State :=
  let s := s.each (List.range 64) fun s k => s.slotErase k
  let s := s.withCph { s.cph with fifos := Vector.replicate 16 [], helds := Vector.replicate 16 0, waiting := [] }
  let s := s.each (List.range 16) fun s p =>
    s.withRegs (clearRange (clearRange s.regs (pageBase p + 0x20) (pageBase p + 0xC0)) (pageBase p + 0x140) (pageBase p + 0x160))
  s.event 147

/-- Slots erased by an erase of all: the VALID ones (TAMPER_ERASE's DETAIL). -/
def State.slotsValid (s : State) : Nat := ((List.range 64).filter fun k => (s.slot k).valid).length

/-- The tamper erase once the security domain has power (R122, R526). -/
def State.tamperErase (s : State) : State :=
  if s.wch.erase && s.dev != .off && (s.dev != .watch || decide (2 ≤ s.pwr.wake)) then
    let n := s.slotsValid
    let s := s.cphZeroize
    (s.withWch { s.wch with erase := false }).watchLog 0x0109 0 n
  else s

/-- The health test of the random source fails (R479). -/
def State.rngFail (s : State) (test : Nat) : State :=
  (((s.set CPH_STATUS_RNG_FAIL).withCph { s.cph with rngFails := true }).event 149).report 27 0 test

/-- The check of a slot word (R527): `bad` is 1 for a single-bit error, 2 for a double-bit error. -/
def State.slotCheck (s : State) (k word bad : Nat) : State :=
  match bad with
  | 1 => s.report 28 k word
  | 2 => (s.slotErase k).report 29 k 0
  | _ => s

/-! ### Hard clients -/

/-- Draw a slot's counter for a hard client (R492, R493). -/
def State.drawCtr (s : State) (k : Nat) : Option (Nat × State) :=
  let v := s.slot k
  if !v.valid then none
  else if v.ctr = ctrMax v.ctrw then none
  else some (v.ctr, s.putSlot k { v with ctr := v.ctr + 1 })

/-- A slot that is exhausted counts the refusal (R493). -/
def State.noteExhausted (s : State) (k : Nat) : State :=
  let v := s.slot k
  s.iff (v.valid && v.ctr == ctrMax v.ctrw) fun s => (s.putSlot k { v with exhausted := true }).cphCount stExhausted

/-- The slot may be used by the line modem's client port (R518). -/
def State.lmdSlotOk (s : State) (k : Nat) : Bool :=
  k != 63 && (if k < 32 then bitsOf (s.word CPH_LMD_SLOTS_LO) k 1 == 1 else bitsOf (s.word CPH_LMD_SLOTS_HI) (k - 32) 1 == 1)

/-- The slot may be used by the Bearing engine's page. -/
def State.brgSlotOk (s : State) (k : Nat) : Bool :=
  let p := s.get BRG_KEY_CFG_PAGE
  k != 63 && s.pageHas p k && (!(s.slot k).valid || (s.slot k).hasPage p)

/-- GCM_MASK (R517, R438): one counter value drawn, AES(K, J0) returned with it; exhaustion and denial return nothing. While the engine
clock is muted nothing starts (R528). -/
def State.gcmMask (s : State) (lmd : Bool) (k : Nat) (fixed : List Byte) : State :=
  if s.cphHold then s else
  let ok := s.released && (if lmd then s.lmdSlotOk k else s.brgSlotOk k) && mbAllows (s.slot k).modebind 1 &&
    mbMode (s.slot k).modebind == 4
  if !ok then s.emit (.unit 10 k [stPageDenied])
  else
    match s.drawCtr k with
    | some (n, s') =>
      let v := s.slot k
      let iv := padTo (12 - ctrBytes v.ctrw) fixed ++ beBytes (ctrBytes v.ctrw) n
      s'.emit (.unit 10 k [stComplete, n, beNat (gcmMaskBlock v.key iv)])
    | none => (s.noteExhausted k).emit (.unit 10 k [if (s.slot k).valid then stExhausted else stPageDenied])

/-- HELLO_SEED (R517): eight random bytes, refused while the random source has failed (R479). -/
def State.helloSeed (s : State) : State :=
  if s.bit CPH_STATUS_RNG_FAIL || s.cph.rngFails then s.emit (.unit 10 64 [stPageDenied, 7])
  else (s.drawnBytes 8).emit (.unit 10 64 [stComplete, beNat (s.drawBytes 8)])

/-- The expected response of a login (R519): CMAC of slot 63 over challenge ∥ SYS_ID, big-endian. -/
def State.loginExpected (s : State) : List Byte :=
  aesCmac (s.slot 63).key (s.cph.challenge ++ beBytes 4 (s.word SYS_ID).toNat)

/-- CHALLENGE: 16 random bytes returned and held, on slot 63 (R519). -/
def State.loginChallenge (s : State) : State :=
  if !(s.slot 63).valid || s.bit CPH_STATUS_RNG_FAIL || s.cph.rngFails then s
  else (s.drawnBytes 16).withCph { s.cph with challenge := s.drawBytes 16 }

/-- A submitted response is right; the expected bytes never leave the engine. While the engine clock is muted none passes (R51, R528; log
entry 65). -/
def State.loginPass (s : State) (bytes : List Byte) : Bool :=
  !s.cph.challenge.isEmpty && (s.slot 63).valid && !s.cphHold && bytes == s.loginExpected

/-- The challenge is spent or expired. -/
def State.dropChallenge (s : State) : State := s.withCph { s.cph with challenge := [] }

/-- The drain (R530): what has not started completes CANCELLED; what runs goes on to its end. -/
def State.cphDrain (s : State) : State :=
  s.each ((s.cph.directs ++ s.cph.queue).filter (·.dp == 0)) fun s r => s.cphFinish r stCancelled 0 false

end Sys2Proof.Machine
end

