-- ==== Sys2Proof/Machine/Fix.lean ====
section
/-!
DEFINITION. The Fix selector: device time, the five sources, selection, slew, freeze and dead reckoning (R346 to R383).
-/
namespace Sys2Proof.Machine

/-- States of Table FIX-2. -/
def fixIdle : Nat := 0
def fixDr : Nat := 1
def fixSlew : Nat := 2
def fixLocked : Nat := 3
def fixFrozen : Nat := 4

/-- Offsets are held in 1/16,000 ns: one unit of FIX_PTP_OFS is 1,000 of them, one ns is 16,000. -/
def ofsPerNs : Int := 16000

/-- The state code of the selector. -/
def State.fixState (s : State) : Nat := s.get FIX_STATE_STATE

/-- The priority field of source `n` (1 BRG, 2 PTP, 3 EXT, 4 BCD). -/
def fixPrioFld (n : Nat) : Fld :=
  match n with
  | 1 => FIX_PRIO_BRG
  | 2 => FIX_PRIO_PTP
  | 3 => FIX_PRIO_EXT
  | _ => FIX_PRIO_BCD

/-- Priority number of a source; 0 where disabled. -/
def State.fixPrio (s : State) (n : Nat) : Nat := if 1 ≤ n ∧ n ≤ 4 then s.get (fixPrioFld n) else 0

/-- VALID bit of source `n`. -/
def srcValidFld (n : Nat) : Fld := ⟨FIX_SRC_STATUS, n - 1, 1⟩

/-- QUALIFIED bit of source `n`. -/
def srcQualFld (n : Nat) : Fld := ⟨FIX_SRC_STATUS, 8 + n - 1, 1⟩

/-- Source `n` may be selected: enabled, qualified, and source 3 only once time is valid (R358, R361). -/
def State.fixEligible (s : State) (n : Nat) : Bool :=
  s.fixPrio n != 0 && s.bit (srcQualFld n) && (n != 3 || s.bit FIX_STATE_TIME_VALID)

/-- `n` goes before `m`: a lower priority number, or the lower source number of two equal ones (R361). -/
def State.fixBefore (s : State) (n m : Nat) : Bool :=
  decide (s.fixPrio n < s.fixPrio m) || (s.fixPrio n == s.fixPrio m && decide (n < m))

/-- The best source that may be selected. -/
def State.fixBest (s : State) : Option Nat :=
  [1, 2, 3, 4].foldl (fun b n =>
    if s.fixEligible n then
      match b with
      | none => some n
      | some m => if s.fixBefore n m then some n else b
    else b) none

/-- The offset of a source, in 1/16,000 ns. -/
def State.ofs (s : State) (n : Nat) : Int := s.fix.ofs.getD (n - 1) 0

/-- The offset of the selected source as FIX_OFFSET shows it: signed ns, held to ±2,147,483,647. -/
def State.showOffset (s : State) : State :=
  let n := s.get FIX_STATE_SELECTED
  let v : Int := if 1 ≤ n ∧ n ≤ 4 then s.ofs n / ofsPerNs else 0
  s.put FIX_OFFSET_NS (unsigned 32 (clampInt (-2147483647) 2147483647 v))

/-- Source 4 counts a phase offset of 0 while its offset lies within DEADBAND_MS (R357). -/
def State.inDeadband (s : State) (n : Nat) : Bool :=
  n == 4 && decide (((s.ofs 4).natAbs : Int) ≤ (s.get FIX_BCD_CFG_DEADBAND_MS : Int) * 1000000 * ofsPerNs)

/-- The phase offset that a source counts (R357). -/
def State.phaseOfs (s : State) (n : Nat) : Int := if s.inDeadband n then 0 else s.ofs n

/-- Store a measured offset; steering is counted anew from it. -/
def State.setOfs (s : State) (n : Nat) (v : Int) : State :=
  (s.withFix { s.fix with
    ofs := updateAt s.fix.ofs (n - 1) fun _ => v
    last := updateAt s.fix.last (n - 1) fun _ => v
    steered := updateAt s.fix.steered (n - 1) fun _ => 0 }).iff (s.get FIX_STATE_SELECTED == n) (·.showOffset)

/-- Every offset changes by the opposite of a slew of device time. -/
def State.moveOfs (s : State) (d : Int) : State := s.withFix { s.fix with ofs := s.fix.ofs.map (· - d) }

/-- Half a second, and a second, in the units of offsets. -/
def halfSecond : Int := 8000000000000
def wholeSecond : Int := 16000000000000

/-- Device time has stepped by `d`: every offset changes by its opposite, and that of source 3, which names no second, is to the nearest
second (R355, R364, R374). -/
def State.stepOfs (s : State) (d : Int) : State :=
  let near (x : Int) : Int := (x + halfSecond) % wholeSecond - halfSecond
  s.withFix { s.fix with
    ofs := updateAt (s.fix.ofs.map (· - d)) 2 near
    last := updateAt (s.fix.last.map (· - d)) 2 near }

/-- The offset that a source's next measurement should give: the last one, corrected for the steering since then (Table FIX-1). -/
def State.ofsDue (s : State) (n : Nat) : Int :=
  s.fix.last.getD (n - 1) 0 - s.fix.steered.getD (n - 1) 0 * 16000000000 / 1099511627776

/-- The steering word in force has steered device time for one millisecond. -/
def State.steerCount (s : State) : State :=
  let sig := signed 32 (s.get FIX_SIGMA_SIGMA)
  s.withFix { s.fix with steered := s.fix.steered.map (· + sig) }

/-- Set device time. The next second that aligns watch time measures no crystal correction (R107). -/
def State.setDevice (s : State) (sec ns : Nat) : State :=
  (s.withFix { s.fix with sec := sec % 2 ^ 48, ns := ns, frac := 0 }).withWch { s.wch with aligned := none }

/-- Move device time by a signed number of ns (the acquisition step of R364). -/
def State.stepDevice (s : State) (d : Int) : State :=
  let t : Int := (s.fix.sec : Int) * 1000000000 + s.fix.ns + d
  let t := t % ((2 ^ 48 : Nat) * 1000000000 : Int)
  (s.withFix { s.fix with sec := (t / 1000000000).toNat, ns := (t % 1000000000).toNat }).withWch { s.wch with aligned := none }

/-- The dead-reckoning steering word: the mean over the last DR_AVG_S locked seconds, 0 with no history (R368). -/
def State.drSigma (s : State) : Int :=
  let h := s.fix.hist.take (s.get FIX_CFG_DR_AVG_S)
  if h.isEmpty then (if s.fix.lockCnt = 0 then 0 else s.fix.lockSum / (s.fix.lockCnt : Int))
  else h.foldl (· + ·) 0 / (h.length : Int)

/-- ±50 ppm in units of 2^-40 (R336, R366). -/
def sigmaMax : Int := 54975581

/-- The steering word, shown in FIX_SIGMA and followed by every PLL with STEER_EN that is locked (R337, R367). -/
def State.setSigma (s : State) (v : Int) : State :=
  let w := unsigned 32 (clampInt (-sigmaMax) sigmaMax v)
  (s.put FIX_SIGMA_SIGMA w).each (List.range 11) fun s n =>
    s.iff (s.bit (PLL_CFG_STEER_EN n) && s.bit (PLL_STATUS_LOCKED n)) (·.put (PLL_STEER_SIGMA n) w)

/-- Enter dead reckoning: source 5, the mean steering word, DR_SECONDS from 0 (R363, R368). The hold of the last selection ends with
its source (R362). -/
def State.enterDr (s : State) : State :=
  let s := s.withFix { s.fix with hold := false }
  let s := ((s.put FIX_STATE_STATE fixDr).put FIX_STATE_SELECTED 5).put FIX_STATE_CANDIDATE 0
  ((s.put FIX_DR_SECONDS_COUNT 0).setSigma s.drSigma).showOffset

/-- Select source `n` (R361, R362, R364): SELECT, the count, the hold, and with ACQUIRE set the step or slew, by the phase offset that
the source counts. A step leaves no offset, so the state is LOCKED at once. -/
def State.fixSelect (s : State) (n : Nat) : State :=
  let s := ((s.put FIX_STATE_SELECTED n).put FIX_STATE_CANDIDATE 0).satInc FIX_SWITCH_COUNT_COUNT FIX_SWITCH_COUNT_OVF
  let s := s.event 48
  let s := s.withFix { s.fix with hold := true, candLost := false }
  let s :=
    if s.bit FIX_STATE_ACQUIRE then
      let far := decide ((s.get FIX_SLEW_CFG_STEP_US : Int) * 1000 * ofsPerNs < (s.phaseOfs n).natAbs)
      let step := !s.bit FIX_STATE_TIME_VALID || far
      let d := s.phaseOfs n
      let s := (s.clr FIX_STATE_ACQUIRE).set FIX_STATE_TIME_VALID
      if step then (((s.stepDevice (d / ofsPerNs)).stepOfs (d / ofsPerNs * ofsPerNs)).event 51).put FIX_STATE_STATE fixLocked
      else s.put FIX_STATE_STATE fixSlew
    else s.put FIX_STATE_STATE fixSlew
  s.showOffset

/-- The selected source has been disabled in FIX_PRIO. -/
def State.selOff (s : State) : Bool :=
  let cur := s.get FIX_STATE_SELECTED
  decide (1 ≤ cur) && decide (cur ≤ 4) && s.fixPrio cur == 0

/-- A selection decision (R361 to R363): outside a freeze and the hold, move to the best source where it goes before the
selected one. A selected source that FIX_PRIO has disabled is left at a decision, for dead reckoning where no other remains (R361, R380). -/
def State.fixDecide (s : State) : State :=
  if s.fixState == fixIdle || s.fixState == fixFrozen || s.fix.hold then s
  else
    match s.fixBest with
    | none => if s.selOff then (s.enterDr).event 50 else s
    | some b =>
      let cur := s.get FIX_STATE_SELECTED
      if cur == b then s else if cur == 5 || cur == 0 || s.selOff || s.fixBefore b cur then s.fixSelect b else s

/-- This part is the time master of the Bearing link (R460): its stratum is 0. -/
def State.timeMaster (s : State) : Bool := s.get BRG_STATUS_STRATUM == 0

/-- Source `n` becomes valid (R359). During a slew to a worse source it freezes the slew (R370). The time master never
validates source 1 for itself (R463), and a flood keeps source 4 invalid (R645). -/
def State.sourceValid (s : State) (n : Nat) : State :=
  if n = 5 || s.bit (srcValidFld n) || (n == 1 && s.timeMaster) || (n == 4 && s.bit (CTX_STATUS_FLOOD (s.get FIX_BCD_CFG_CTX))) then s
  else
    let s := s.set (srcValidFld n)
    let sel := s.get FIX_STATE_SELECTED
    if s.fixState == fixSlew && s.fixPrio n != 0 && sel != n && decide (s.fixPrio n < s.fixPrio sel) then
      let s := (s.put FIX_STATE_STATE fixFrozen).put FIX_STATE_CANDIDATE n
      let s := (s.satInc FIX_FREEZE_COUNT_COUNT FIX_FREEZE_COUNT_OVF).event 49
      let s := s.setSigma s.drSigma
      s.withFix { s.fix with candLost := false }
    else s

/-- Source `n` becomes invalid (R359, R363, R372). -/
def State.sourceInvalid (s : State) (n : Nat) : State :=
  if n = 5 || !s.bit (srcValidFld n) then s
  else
    let s := (s.clr (srcValidFld n)).clr (srcQualFld n)
    let s := s.withFix { s.fix with seen := s.fix.seen &&& ~~~(1#4 <<< (n - 1)) }
    let s := s.iff (s.fixState == fixFrozen && s.get FIX_STATE_CANDIDATE == n) fun s =>
      s.withFix { s.fix with candLost := true }
    if s.get FIX_STATE_SELECTED == n && s.fixState != fixIdle then
      let s := s.event 53
      match s.fixBest with
      | some b => s.fixSelect b
      | none => (s.enterDr).event 50
    else s

/-- Source `n` has been valid for the qualification time (R359, R360, R361, R371). A disabled source does not qualify, and none does in IDLE. -/
def State.sourceQualified (s : State) (n : Nat) : State :=
  if s.fixState == fixIdle || !s.bit (srcValidFld n) || s.fixPrio n == 0 then s
  else
    let s := s.set (srcQualFld n)
    if s.fixState == fixFrozen then
      (if s.get FIX_STATE_CANDIDATE == n && s.fixEligible n then s.fixSelect n else s)
    else s.fixDecide

/-- The hold after a selection ends (R362). -/
def State.selectionHoldEnd (s : State) : State := (s.withFix { s.fix with hold := false }).fixDecide

/-- One qualification time after a freeze began, with the returning source gone: select under R361 (R372). -/
def State.freezeTimeout (s : State) : State :=
  if s.fixState == fixFrozen && s.fix.candLost then
    match s.fixBest with
    | some b => s.fixSelect b
    | none => (s.enterDr).event 50
  else s

/-- The slew has ended: within 10 ns, or within the deadband for source 4 (R366). -/
def State.slewDone (s : State) : Bool :=
  let n := s.get FIX_STATE_SELECTED
  if n = 4 then s.inDeadband 4 else decide (((s.ofs n).natAbs : Int) ≤ 10 * ofsPerNs)

/-- A slew ends and the source locks (R366). -/
def State.slewEnd (s : State) : State :=
  if s.fixState == fixSlew && s.slewDone then s.put FIX_STATE_STATE fixLocked else s

/-- The side to which a slew to source `n` steers: none within the deadband of source 4 (R357, R366). -/
def State.slewDir (s : State) (n : Nat) : Int := if s.inDeadband n then 0 else if 0 ≤ s.ofs n then 1 else -1

/-- The steering word of a slew, and the phase that it takes up: the frequency estimate plus SLEW_PPB toward the source moves device
time by SLEW_PPB × 1 ms against it (R366). -/
def State.slewUpdate (s : State) : State :=
  let est : Int := signed 32 s.draw
  let ppb : Int := s.get FIX_SLEW_CFG_SLEW_PPB
  let dir := s.slewDir (s.get FIX_STATE_SELECTED)
  let s := s.drawn.setSigma (est + dir * (ppb * 1099511627776 / 1000000000))
  (s.moveOfs (dir * ppb * 16)).showOffset

/-- The millisecond update of the steering word (R366 to R368). The frequency estimate and the loop of Table FIX-1 are
free values. A locked source 4 whose offset has left its deadband slews phase like any other source (R357). -/
def State.steerUpdate (s : State) : State :=
  let s := s.steerCount
  let st := s.fixState
  if st == fixLocked then
    if s.get FIX_STATE_SELECTED == 4 && !s.inDeadband 4 then (s.put FIX_STATE_STATE fixSlew).slewUpdate
    else
      let s := s.drawn.setSigma (signed 32 s.draw)
      let sig := signed 32 (s.get FIX_SIGMA_SIGMA)
      let f := s.fix
      if f.lockCnt + 1 < 1000 then s.withFix { f with lockSum := f.lockSum + sig, lockCnt := f.lockCnt + 1 }
      else s.withFix { f with lockSum := 0, lockCnt := 0, hist := ((f.lockSum + sig) / 1000 :: f.hist).take 255 }
  else if st == fixSlew then s.slewUpdate
  else if st == fixIdle then s.setSigma 0
  else s.setSigma s.drSigma

/-- A PTP or Bearing offset measurement with its jump check (Table FIX-1): the first after becoming valid is taken, a later
one that differs from the last, corrected for the steering since then, by more than JUMP_NS makes the source invalid. -/
def State.fixMeasure (s : State) (n : Nat) (v : Int) : State :=
  let had := s.fix.seen.getLsbD (n - 1)
  let jump := decide ((s.get FIX_CFG_JUMP_NS : Int) * ofsPerNs < (v - s.ofsDue n).natAbs)
  let s := s.setOfs n v
  let s := s.withFix { s.fix with seen := s.fix.seen ||| (1#4 <<< (n - 1)) }
  if had && jump then s.sourceInvalid n else s

/-- SUBMIT and WITHDRAW of FIX_PTP_CMD (R356); a SUBMIT beside a WITHDRAW leaves the source invalid (R381). -/
def State.ptpCmd (s : State) (submit withdraw : Bool) : State :=
  let s := s.iff submit fun s => s.fixMeasure 2 (signed 32 (s.get FIX_PTP_OFS_OFS) * 1000)
  s.iff withdraw (·.sourceInvalid 2)

/-- A PPS_IN edge: the one that PPS_POL names marks the second. The offset of source 3 is its second minus device time at the edge, less the
cable (R355); an edge that does not fall 10,000,000 ± 1 cycles of REF10M_IN after the last makes the source invalid (Table FIX-1). -/
def State.ppsInEdge (s : State) (edgeNs : Int) (rising : Bool) (cycles : Nat) : State :=
  if rising != s.bit FIX_EXT_CFG_PPS_POL then s
  else
    let x := edgeNs - (s.get FIX_EXT_CFG_CABLE_NS : Int)
    let second := (x + 500000000) / 1000000000 * 1000000000
    let off := s.fix.seen.getLsbD 2 && (decide (cycles < 9999999) || decide (10000001 < cycles))
    let s := s.setOfs 3 ((second - x) * ofsPerNs)
    let s := s.withFix { s.fix with seen := s.fix.seen ||| (1#4 <<< 2) }
    s.iff off (·.sourceInvalid 3)

/-- Broadcast time for source 4 (R355): TAI_MINUS_UTC and DELAY_US added; the difference to device time is its offset. -/
def State.broadcastTime (s : State) (utcSec utcNs ref : Nat) : State :=
  let t : Int := ((utcSec + s.get FIX_UTC_CFG_TAI_MINUS_UTC : Nat) : Int) * 1000000000 + utcNs
    + (s.get FIX_BCD_CFG_DELAY_US : Int) * 1000
  s.setOfs 4 ((t - ref) * ofsPerNs)

/-- A write of FIX_SET_CMD with its key and COMMIT (R374): a step in DR, SET_REFUSED in any other state. A source 3 that has
qualified may be selected once time is valid (R358, R361). -/
def State.fixSet (s : State) : State :=
  if s.fixState == fixDr then
    let was : Int := (s.fix.sec : Int) * 1000000000 + s.fix.ns
    let s := s.setDevice (s.get2 FIX_SET_SEC_LO_ALL FIX_SET_SEC_HI_ALL) (s.get FIX_SET_NS_ALL)
    let s := s.stepOfs (((s.fix.sec : Int) * 1000000000 + s.fix.ns - was) * ofsPerNs)
    (((s.set FIX_STATE_TIME_VALID).clr FIX_STATE_ACQUIRE).event 51).fixDecide
  else s.event 55

/-- Seed device time from watch-time copy A, within ±1 µs, and start in dead reckoning with ACQUIRE set and σ 0 (R352,
R353). With EN clear the selector stays IDLE. A source that is still qualified, after a loss of OSC_LOCAL_IN, is selected at once (R361). -/
def State.seedDevice (s : State) : State :=
  let valid := s.bit WCH_STATUS_TIME_VALID
  let err : Int := ((s.draw % 2001 : Nat) : Int) - 1000
  let s := s.drawn
  let s := if valid then (s.setDevice s.wch.aSec s.wch.aNs).stepDevice err else s.setDevice 0 0
  let s := (s.putB FIX_STATE_TIME_VALID valid).set FIX_STATE_ACQUIRE
  let en := s.bit FIX_CFG_EN
  let s := ((s.put FIX_STATE_SELECTED (if en then 5 else 0)).put FIX_STATE_CANDIDATE 0).put FIX_DR_SECONDS_COUNT 0
  let s := (s.set (srcValidFld 5)).set (srcQualFld 5)
  let s := (s.put FIX_STATE_STATE (if en then fixDr else fixIdle)).setSigma 0
  (s.withFix { s.fix with hold := false, candLost := false, oscOk := true }).fixDecide

/-- A live write of FIX_CFG (Table FIX-2, R380): EN clear stops the selector in IDLE, EN set again starts it in dead reckoning,
from where a qualified source is selected. -/
def State.fixCfgWritten (s : State) : State :=
  if !s.inService then s
  else if !s.bit FIX_CFG_EN then
    (((s.put FIX_STATE_STATE fixIdle).put FIX_STATE_SELECTED 0).put FIX_STATE_CANDIDATE 0).setSigma 0
  else s.iff (s.fixState == fixIdle) fun s => (s.enterDr).fixDecide

/-- Every source loses its validity and qualification and the selector stops (R383, Table PWR-4; a reload). -/
def State.fixStop (s : State) : State :=
  let s := ((s.put FIX_STATE_STATE fixIdle).put FIX_STATE_SELECTED 0).put FIX_STATE_CANDIDATE 0
  let s := (s.putWord FIX_SRC_STATUS 0).setSigma 0
  (s.withFix { s.fix with pps := false, hold := false, candLost := false, seen := 0 })

/-- OSC_LOCAL_IN is lost: device time holds, TIME_VALID clears, TIME_INVALID rises (R382). -/
def State.fixOscLost (s : State) : State :=
  ((s.clr FIX_STATE_TIME_VALID).event 54).withFix { s.fix with oscOk := false }

/-- Device time advances by `k` OSC_LOCAL_IN cycles (R347), each (10^6 / PLL_OSC_KHZ) ns × (1 + σ), kept to 2^-32 ns. -/
def State.deviceAdvance (s : State) (k : Nat) : State :=
  let khz := s.get PLL_OSC_KHZ_ALL
  if s.fix.oscOk && s.inService && khz != 0 then
    let sigma := signed 32 (s.get FIX_SIGMA_SIGMA)
    let inc : Int := ((1000000 * 2 ^ 32 : Nat) : Int) * (1099511627776 + sigma) / (1099511627776 * khz)
    let t : Nat := s.fix.ns * 2 ^ 32 + s.fix.frac + k * inc.toNat
    let n := t / 2 ^ 32
    (s.withFix { s.fix with sec := (s.fix.sec + n / 1000000000) % 2 ^ 48, ns := n % 1000000000, frac := t % 2 ^ 32 })
  else s

/-- A device-time second (R375, R107): SECOND rises, PPS_OUT rises where enabled, DR seconds count, and watch time is
aligned while Running with a source other than dead reckoning. -/
def State.deviceSecond (s : State) : State :=
  let st := s.fixState
  let s := s.event 52
  let on := s.bit FIX_PPS_CFG_EN && s.bit FIX_STATE_TIME_VALID &&
    (st == fixSlew || st == fixLocked || st == fixFrozen || (st == fixDr && s.bit FIX_PPS_CFG_DR_OUT))
  let s := s.withFix { s.fix with pps := on }
  let s := s.iff (st == fixDr) (·.satInc FIX_DR_SECONDS_COUNT FIX_DR_SECONDS_OVF)
  let sel := s.get FIX_STATE_SELECTED
  s.iff (s.inService && decide (1 ≤ sel) && decide (sel ≤ 4)) fun s => s.watchAlign s.fix.sec s.fix.ns

/-- The cycles of OSC_LOCAL_IN up to the next device-time second have gone by. -/
def State.toSecond (s : State) : State := s.withFix { s.fix with sec := (s.fix.sec + 1) % 2 ^ 48, ns := 0, frac := 0 }

/-- `k` cycles of OSC_LOCAL_IN go by; the second that begins among them is a device-time second. -/
def State.deviceRun (s : State) (k : Nat) : State :=
  let t := s.deviceAdvance k
  t.iff (t.fix.sec != s.fix.sec) (·.deviceSecond)

/-- PPS_OUT at its ball: high within a pulse, and held low at all times but those of R375. -/
def State.ppsOut (s : State) : Bool :=
  let st := s.fixState
  s.fix.pps && s.bit FIX_PPS_CFG_EN && s.bit FIX_STATE_TIME_VALID &&
    (st == fixSlew || st == fixLocked || st == fixFrozen || (st == fixDr && s.bit FIX_PPS_CFG_DR_OUT))

/-- The device-time snapshot of a master (R349). -/
def State.fixSnap (s : State) (m : Nat) : State :=
  let v : BitVec 96 := BitVec.ofNat 96 (s.fix.sec * 2 ^ 48 + s.fix.ns * 2 ^ 16 + s.fix.frac / 2 ^ 16)
  (s.withFix { s.fix with snaps := cellWrite s.fix.snaps m v })

/-- The watch-time snapshot of a master (R112). -/
def State.wchSnap (s : State) (m : Nat) : State :=
  let v : BitVec 80 := BitVec.ofNat 80 (s.wch.aSec * 2 ^ 32 + s.wch.aNs)
  (s.withWch { s.wch with snaps := cellWrite s.wch.snaps m v })

end Sys2Proof.Machine
end

