-- ==== Sys2Proof/Machine/Sig.lean ====
section
/-!
DEFINITION. Signal arithmetic that several blocks share: rounding, sampler chains, decimators, filters, blanker and gain control (R534, R535,
R539, R546, R571 to R574, R583, R612, R613).
-/
namespace Sys2Proof.Machine

/-- v × 2^−k rounded to nearest; which way an exact half goes is open. -/
def roundNear (v : Int) (k : Nat) : Int :=
  let d : Int := 2 ^ k
  let q := v / d
  let r := v % d
  if 2 * r < d then q else if d < 2 * r then q + 1 else if Config.tieUp v k then q + 1 else q

/-- v × 2^−k as an integer where the spec gives no rounding. -/
def roundOpen (v : Int) (k : Nat) : Int :=
  let d : Int := 2 ^ k
  if v % d = 0 then v / d else if Config.roundUp v k then v / d + 1 else v / d

/-- The sum of `n` values. -/
def sumOver (n : Nat) (f : Nat → Int) : Int := (List.range n).foldl (fun a k => a + f k) 0

/-! ### Sampler chains (R534, R535, R539, R546) -/

/-- y = GAIN × (x + OFFSET) in units of 2^−19 of a code LSB: OFFSET counts quarters, GAIN is Q1.17. -/
def chainGain (c : CoefSet) (x : Int) : Int := c.gain * (4 * x + c.offset)

/-- A chain's output from the codes of its slice by age: gain and offset, the delay by SKEW, then BW × (y[n] − y[n−1]), less the pilot
(R533); 16 bits with two bits of fraction for RF, 24 bits with six for the line sampler, held to full scale. -/
def chainOut (rf : Bool) (c : CoefSet) (x : Nat → Int) : Int :=
  let d (k : Nat) : Int := Config.fracDelay c.skew fun m => chainGain c (x (m + k))
  let v := Config.pilotNotch rf fun k => d k * 2 ^ 15 + c.bw * (d k - d (k + 1))
  if rf then clampInt (-32768) 32764 (roundOpen v 32) else holdTo 24 (roundOpen v 28)

/-- A handover by RAMP: (1 − a) × old + a × new with a = i / 2^n. -/
def rampMix (n i : Nat) (old new : Int) : Int := roundOpen ((2 ^ n - (i : Int)) * old + (i : Int) * new) n

/-! ### Decimators and filters (R573, R574, R583) -/

/-- The sum of the `d` values up to age `b`, as an integrator and comb pair gives it. -/
def boxcar (d : Nat) (x : Nat → Int) : Nat → Int := fun b => sumOver d fun k => x (b + k)

/-- Five integrator and comb pairs. -/
def cicSum (d : Nat) (x : Nat → Int) : Nat → Int := boxcar d (boxcar d (boxcar d (boxcar d (boxcar d x))))

/-- The smallest exponent with n ≤ 2^e. -/
def ceilLog2 (n : Nat) : Nat := ((List.range 200).find? fun e => decide (n ≤ 2 ^ e)).getD 200

/-- A rounded value held to 24 bits, and whether that changed it. -/
def sat24 (v : Int) : Int × Bool := (holdTo 24 v, decide (holdTo 24 v ≠ v))

/-- The CIC's output: × 2^−SHIFT with SHIFT = ceil(5 × log2 D_CIC), rounded and saturated (R573). -/
def cicOut (d : Nat) (x : Nat → Int) (b : Nat) : Int × Bool := sat24 (roundNear (cicSum d x b) (ceilLog2 (d ^ 5)))

/-- The FIR's output from CIC outputs `d` input samples apart: Σ c_k × x[n − k], × 2^−17 (R574). -/
def firOut (taps d : Nat) (coef : Nat → Int) (x : Nat → Int) (b : Nat) : Int × Bool :=
  let v := sumOver taps fun k => coef k * x (b + k * d)
  sat24 (roundNear (if holdTo 48 v = v then v else Config.acc48 v) 17)

/-- An integrate-and-dump over `n` samples: × 2^−S with S = ceil(log2 n) (R583). -/
def dumpOut (n : Nat) (x : Nat → Int) (b : Nat) : Int × Bool := sat24 (roundNear (sumOver n fun k => x (b + k)) (ceilLog2 n))

/-! ### Levels (R589, R594, R637, R643) -/

/-- The energy of a DATA word of a DDC: I² + Q². -/
def wordEnergy (w : BitVec 64) : Nat :=
  let i := signed 24 (w.toNat % 2 ^ 24)
  let q := signed 24 (w.toNat / 2 ^ 32 % 2 ^ 24)
  (i * i + q * q).toNat

/-- The mean of `k` energies of sum `e` in steps of −10 / n dB from 0 dBFS, 2^47, and at most `top`: 10^(p/n) ≤ 2^47 × k / e. The rounding is
open. -/
def powerSteps (n top e k : Nat) : Nat :=
  let p := (List.range top).countP fun j => decide (e ^ n * 10 ^ (j + 1) ≤ (2 ^ 47 * k) ^ n)
  if e ^ n * 10 ^ p = (2 ^ 47 * k) ^ n || !Config.roundUp e n then p else min top (p + 1)

/-- A gain in steps of 0.5 dB, 40 × log10 (num / den); the rounding is open. -/
def gainSteps (num den : Nat) : Int :=
  let up := (List.range 400).countP fun j => decide (10 ^ (j + 1) * den ^ 40 ≤ num ^ 40)
  let down := (List.range 400).countP fun j => decide (10 ^ j * num ^ 40 < den ^ 40)
  let g : Int := if den ≤ num then up else -(down : Int)
  if num = den || !Config.roundUp num den then g else g + 1

/-- Insert into an ascending list. -/
def insertUp (x : Nat) : List Nat → List Nat
  | [] => [x]
  | y :: ys => if x ≤ y then x :: y :: ys else y :: insertUp x ys

/-- Twice the median of a list. -/
def medianTwice (xs : List Nat) : Nat :=
  let ys := xs.foldl (fun l x => insertUp x l) []
  ys.getD (ys.length / 2) 0 + ys.getD ((ys.length - 1) / 2) 0

/-- Two powers, `a` over `m` and `b` over `n`, differ by `db` decibels or more. -/
def differByDb (db a m b n : Nat) : Bool :=
  let x := a * n
  let y := b * m
  x != y && (decide (10 ^ db * y ^ 10 ≤ x ^ 10) || decide (10 ^ db * x ^ 10 ≤ y ^ 10))

/-- A 10 ms window joins a flood detector: more than `imp` per mille of its samples were blanked, or the mean power of the last ten windows
differs from the median of the last 6,000 by `db` decibels or more (R643). The hold of R644 counts from the last window that met one. -/
def FloodState.window (f : FloodState) (imp db samples blanked power : Nat) : Bool × FloodState :=
  let powers := (power :: f.powers).take 6000
  let last := powers.take 10
  let cond := decide (imp * samples < 1000 * blanked) || differByDb db last.sum last.length (medianTwice powers) 2
  (cond, { powers := powers, calm := if cond then 0 else f.calm + 1 })

/-- Neither condition has held for FLOOD_HOLD_S seconds (R644, R655). -/
def FloodState.over (f : FloodState) (holdS : Nat) : Bool := decide (100 * max 1 holdS ≤ f.calm)

/-! ### Blanker and gain control (R612, R613) -/

/-- A complex input sample and its IN_CLIP or SAT flag. -/
structure IqIn where
  i : Int
  q : Int
  flagged : Bool
deriving DecidableEq, Repr

/-- |x|². -/
def IqIn.energy (x : IqIn) : Nat := (x.i * x.i + x.q * x.q).toNat

/-- The sample's magnitude exceeds K / 4 times the RMS of the last millisecond. -/
def Blanker.trips (b : Blanker) (k : Nat) (x : IqIn) : Bool := k != 0 && decide (k * k * b.past.sum < 16 * x.energy * b.past.length)

/-- Target of the gain control: −12 dBFS of the mean, in the amplitude of 24-bit samples (2^23 × 10^(−12/20)). -/
def agcTarget : Nat := 2107123

/-- The gain after a sample: held where it is blanked or frozen, lowered where the level lies above the target, else raised. -/
def agcNext (gain level : Nat) (hold : Bool) : Nat :=
  if hold then gain
  else if agcTarget < gain * level / 65536 then gain - Config.agcAttack gain level
  else gain + Config.agcDecay gain level

/-- One input sample with BLANK_K = `k`, BLANK_LEN = `len` and `n` samples a millisecond: the sample that goes on, zero where it is replaced, and
its mark. -/
def Blanker.step (b : Blanker) (k len n : Nat) (frozen : Bool) (x : IqIn) : Blanker × (Int × Int × Bool) :=
  let hit := b.trips k x
  let blank := hit || x.flagged || b.left != 0
  let left := if hit then len else b.left - 1
  let b' : Blanker := { past := (x.energy :: b.past).take n, left := left, gain := agcNext b.gain x.energy.sqrt (blank || frozen) }
  (b', if blank then (0, 0, true) else (x.i * b.gain, x.q * b.gain, false))

/-- A run of samples. -/
def Blanker.run (b : Blanker) (k len n : Nat) (frozen : Bool) : List IqIn → Blanker × List (Int × Int × Bool)
  | [] => (b, [])
  | x :: xs =>
    let r := b.step k len n frozen x
    let rest := r.1.run k len n frozen xs
    (rest.1, r.2 :: rest.2)

/-- More than a quarter of the samples that a symbol, bit period or cell is formed from are blanked (R614). -/
def mostlyBlanked (marks : List Bool) : Bool := decide (marks.length < 4 * (marks.countP id))

end Sys2Proof.Machine
end

