-- ==== Sys2Proof/Machine/Smp.lean ====
section
/-!
DEFINITION. The samplers: coefficient sets, sounding, handover, the fault monitor and the spare slices (R531 to R567).
-/
namespace Sys2Proof.Machine

/-- The radio domain runs: powered, released, in service (R65, R566). -/
def State.radioOn (s : State) : Bool := s.radioPowered && s.released && s.dev == .running

/-- The SPLL clocks the radio: locked and not muted. -/
def State.spllOk (s : State) : Bool := s.bit (PLL_STATUS_LOCKED 10) && !s.bit (PLL_STATUS_MUTED 10)

/-! ### The two samplers -/

/-- Positions of a sampler. -/
def smpPositions (rf : Bool) : Nat := if rf then 4 else 2

/-- Local index of the spare: 4 of RF, 2 of the line sampler. -/
def smpSpare (rf : Bool) : Nat := if rf then 4 else 2

/-- Global index of a local slice. -/
def smpGlobal (rf : Bool) (i : Nat) : Nat := if rf then i else 5 + i

/-- The chain of a position: 0–3 RF phases, 4–5 line inputs. -/
def smpChain (rf : Bool) (p : Nat) : Nat := if rf then p else 4 + p

/-- SERVE of a position. -/
def serveFld (rf : Bool) (p : Nat) : Fld := ⟨if rf then SMP_RF_MAP else SMP_LINE_MAP, 4 * p, 3⟩

/-- SPARE_AT, OUT, step, stopped and first-rotation fields. -/
def spareAtFld (rf : Bool) : Fld := if rf then SMP_RF_MAP_SPARE_AT else SMP_LINE_MAP_SPARE_AT
def outFld (rf : Bool) : Fld := if rf then SMP_RF_MAP_OUT else SMP_LINE_MAP_OUT
def stepFld (rf : Bool) : Fld := if rf then SMP_STATUS_RF_STEP else SMP_STATUS_LINE_STEP
def stoppedFld (rf : Bool) : Fld := if rf then SMP_STATUS_RF_SOUND_STOPPED else SMP_STATUS_LINE_SOUND_STOPPED
def firstFld (rf : Bool) : Fld := if rf then SMP_STATUS_RF_FIRST else SMP_STATUS_LINE_FIRST

/-- RAMP of a chain. -/
def State.chainRamp (s : State) (c : Nat) : Bool := bitsOf (s.word SMP_CHAIN_CFG) (5 * c + 4) 1 == 1

/-- The exponent n of a chain's ramps, 4 to 16 (R546). -/
def State.chainExp (s : State) (c : Nat) : Nat := 4 + min 12 (bitsOf (s.word SMP_CHAIN_CFG) (5 * c) 4)

/-- The rotation of a sampler. -/
def State.rot (s : State) (rf : Bool) : SmpRot := if rf then s.smp.rf else s.smp.line

/-- Replace a rotation. -/
def State.putRot (s : State) (rf : Bool) (r : SmpRot) : State :=
  if rf then (s.withSmp { s.smp with rf := r }) else s.withSmp { s.smp with line := r }

/-- Forget the windows of the trim step. -/
def State.clearWindows (s : State) (rf : Bool) : State := s.putRot rf { s.rot rf with ests := [], wins := 0, power := none, att := false }

/-- An attenuator changes: the raw unit and the windows in progress are marked (R542, Table SMP-6). -/
def State.attChanged (s : State) : State :=
  let s := (s.putRot true { s.rot true with att := true }).putRot false { s.rot false with att := true }
  s.withSmp { s.smp with attSeen := true }

/-- Local slice that serves a position. -/
def State.serving (s : State) (rf : Bool) (p : Nat) : Nat := s.get (serveFld rf p)

/-- The global slice is declared faulty. -/
def State.faulty (s : State) (g : Nat) : Bool := bitsOf (s.word SMP_FAULT) g 1 == 1

/-- The sampler is on. -/
def State.smpOn (s : State) (rf : Bool) : Bool := s.radioOn && s.bit (if rf then SMP_CFG_RF_EN else SMP_CFG_LINE_EN)

/-! ### Coefficient sets -/

/-- The factory trim of a set: free values within the commit limits of Table SMP-2 (R566). -/
def factorySet (k : Nat) : CoefSet :=
  { offset := ((Config.factoryTrim k 0 % 4097 : Nat) : Int) - 2048, gain := 114688 + Config.factoryTrim k 1 % 32769,
    skew := ((Config.factoryTrim k 2 % 2049 : Nat) : Int) - 1024, bw := ((Config.factoryTrim k 3 % 8193 : Nat) : Int) - 4096 }

/-- The set of an index. -/
def State.coefSet (s : State) (k : Nat) : CoefSet := ((s.smp.sets[k]?.getD none)).getD (factorySet k)

/-- Commit a set. -/
def State.putSet (s : State) (k : Nat) (c : CoefSet) : State :=
  s.withSmp { s.smp with sets := s.smp.sets.setIfInBounds k (some c) }

/-- The set that serves or is trimmed: a slice's own set, or the spare's set for a position (Table SMP-1). -/
def setIndex (rf : Bool) (spare : Bool) (p : Nat) : Nat :=
  if rf then (if spare then 4 + p else p) else (if spare then 10 + p else 8 + p)

/-- Every field lies within the commit limits of Table SMP-2. -/
def coefInLimits (c : CoefSet) : Bool :=
  decide (-2048 ≤ c.offset) && decide (c.offset ≤ 2048) && decide (114688 ≤ c.gain) && decide (c.gain ≤ 147456) &&
  decide (-1024 ≤ c.skew) && decide (c.skew ≤ 1024) && decide (-4096 ≤ c.bw) && decide (c.bw ≤ 4096)

/-- Mean of integers; which neighbour of a mean between two integers is taken is free. -/
def meanRound (xs : List Int) (up : Bool) : Int :=
  let n : Int := xs.length
  let t := xs.foldl (· + ·) 0
  if n = 0 then 0 else if t % n = 0 then t / n else if up then t / n + 1 else t / n

/-- The mean of the valid estimates (R543). -/
def meanSet (cs : List CoefSet) (r : Nat) : CoefSet :=
  { offset := meanRound (cs.map (·.offset)) (r % 2 == 1), gain := (meanRound (cs.map fun c => (c.gain : Int)) (r / 2 % 2 == 1)).toNat,
    skew := meanRound (cs.map (·.skew)) (r / 4 % 2 == 1), bw := meanRound (cs.map (·.bw)) (r / 8 % 2 == 1) }

/-- The staged set. -/
def State.staged (s : State) : CoefSet :=
  { offset := signed 16 (s.get SMP_STAGE_OFFSET_VALUE), gain := s.get SMP_STAGE_GAIN_VALUE,
    skew := signed 16 (s.get SMP_STAGE_SKEW_VALUE), bw := signed 16 (s.get SMP_STAGE_BW_VALUE) }

/-- The four words of a set as SMP_SETs shows them. -/
def setWord (c : CoefSet) (w : Nat) : Nat :=
  match w with
  | 0 => unsigned 16 c.offset
  | 1 => c.gain % 2 ^ 18
  | 2 => unsigned 16 c.skew
  | _ => unsigned 16 c.bw

/-! ### Handover and the rotation (R545, R546) -/

/-- The step of a sampler's rotation: 0 idle, 1 to 4 of Table SMP-4. -/
def State.smpStep (s : State) (rf : Bool) : Nat := s.get (stepFld rf)

/-- A handover of position `p` to a local slice by STEP; one by RAMP starts and ends with HANDOVER_RAMP_END. Event line 161
rises as it begins. -/
def State.handover (s : State) (rf : Bool) (p slice : Nat) (ramp : Bool) : State :=
  let s := s.event 161
  let s := s.withSmp { s.smp with handSeen := true }
  if ramp then
    let old := s.coefSet (setIndex rf (s.serving rf p == smpSpare rf) p)
    s.withSmp { s.smp with ramps := s.smp.ramps ++ [(smpChain rf p, smpGlobal rf slice, old, s.chainExp (smpChain rf p))] }
  else s.put (serveFld rf p) slice

/-- Begin step 1 at the current position: the spare shadows it (Table SMP-4). -/
def State.stepOne (s : State) (rf : Bool) : State :=
  ((s.put (stepFld rf) 1).put (spareAtFld rf) (s.rot rf).pos |>.put (outFld rf) 7).clearWindows rf

/-- Begin step 3: the position's own slice shadows it. -/
def State.stepThree (s : State) (rf : Bool) : State :=
  ((s.put (stepFld rf) 3).put (outFld rf) (s.rot rf).pos).clearWindows rf

/-- Step 4 has ended: the next position, and a rotation completed after the last (R545). -/
def State.stepFour (s : State) (rf : Bool) : State :=
  let p := (s.rot rf).pos + 1
  let wrap := decide (smpPositions rf ≤ p)
  let s := s.putRot rf { SmpRot.fresh with pos := if wrap then 0 else p }
  let s := s.iff wrap fun s =>
    ((s.modInc (if rf then SMP_RF_ROT_COUNT else SMP_LINE_ROT_COUNT)).set (firstFld rf)).event 162
  s.stepOne rf

/-- The handover of step 2 or 4 has completed. -/
def State.handoverDone (s : State) (rf : Bool) : State :=
  match s.smpStep rf with
  | 2 => s.stepThree rf
  | 4 => s.stepFour rf
  | _ => s

/-- Begin step 2 or 4: hand the position to the spare, or back to its own slice. -/
def State.stepHandover (s : State) (rf : Bool) (step : Nat) (ramp : Bool) : State :=
  let p := (s.rot rf).pos
  let dst := if step = 2 then smpSpare rf else p
  let s := (s.put (stepFld rf) step).handover rf p dst ramp
  if ramp then s else s.handoverDone rf

/-- Sounding starts where the sampler is on, sounding is asked for and has not stopped, and the SPLL is locked (R566). -/
def State.soundStart (s : State) (rf : Bool) : State :=
  s.iff (s.smpOn rf && s.bit (if rf then SMP_CFG_RF_SOUND else SMP_CFG_LINE_SOUND) && !s.bit (stoppedFld rf) && s.spllOk &&
      s.smpStep rf == 0) (·.stepOne rf)

/-- Abandon the step in progress without commit; a position the spare serves returns to its own slice (R563, R565). -/
def State.soundAbandon (s : State) (rf : Bool) (ramp : Bool) : State :=
  if s.smpStep rf = 0 then s
  else
    let p := (s.rot rf).pos
    let s := s.withSmp { s.smp with ramps := s.smp.ramps.filter fun r => r.1 != smpChain rf p }
    let s := ((s.put (stepFld rf) 0).put (spareAtFld rf) 7).put (outFld rf) 7
    let s := s.clearWindows rf
    if s.serving rf p = smpSpare rf then s.handover rf p p (ramp && s.chainRamp (smpChain rf p)) else s

/-- A write of SMP_CFG: sounding starts or is abandoned as its bits say (R563). -/
def State.soundCfg (s : State) (rf : Bool) : State :=
  if s.bit (if rf then SMP_CFG_RF_SOUND else SMP_CFG_LINE_SOUND) then s.soundStart rf else s.soundAbandon rf true

/-! ### Faults (R549 to R553, R558, R561, R562) -/

/-- Sounding of a sampler stops; ramps of its chains are abandoned (R552, R558). -/
def State.soundStop (s : State) (rf : Bool) : State :=
  let s := s.withSmp { s.smp with ramps := s.smp.ramps.filter fun r => decide (r.1 < 4) != rf }
  ((s.put (stepFld rf) 0).set (stoppedFld rf)).event 166 |>.clearWindows rf

/-- Mark a slice faulty; SMP_FAULT keeps the first declaration (R550). -/
def State.markFaulty (s : State) (g cause : Nat) : State :=
  let first := s.get SMP_FAULT_FAULTY == 0
  let s := (s.set ⟨SMP_FAULT, g, 1⟩).event 160
  s.iff first fun s => (s.put SMP_FAULT_FIRST g).put SMP_FAULT_CAUSE cause

/-- A fault that is not masked (R561, R562). -/
def State.unmasked (s : State) (g cause : Nat) : State := (s.event 167).report 31 g cause

/-- Positions that the spare serves return to their own slices by STEP. -/
def State.returnAll (s : State) (rf : Bool) : State :=
  s.each (List.range (smpPositions rf)) fun s p => s.iff (s.serving rf p == smpSpare rf) (·.put (serveFld rf p) p)

/-- A slice is declared faulty (R550 to R553, R561, R562). `alone` is false for the later ones of one window (R561). -/
def State.declareFault (s : State) (rf : Bool) (i cause : Nat) (alone : Bool) : State :=
  let g := smpGlobal rf i
  if s.faulty g then s
  else
    let spare := smpSpare rf
    let s := s.markFaulty g cause
    let standIn := (List.range (smpPositions rf)).any fun p => p != i && s.serving rf p == spare && s.faulty (smpGlobal rf p)
    let s :=
      if i = spare then
        ((s.returnAll rf).put (spareAtFld rf) 7 |>.put (outFld rf) spare) |> fun s =>
          if standIn then s.unmasked g cause else s.report 30 g cause
      else if alone && !s.faulty (smpGlobal rf spare) && !standIn then
        (((s.returnAll rf).put (serveFld rf i) spare).put (spareAtFld rf) i |>.put (outFld rf) i).report 30 g cause
      else s.unmasked g cause
    s.soundStop rf

/-- Declare several slices at the end of one window, the lowest first (R561). -/
def State.declareAll (s : State) (rf : Bool) : List (Nat × Nat) → Bool → State
  | [], _ => s
  | (i, cause) :: rest, alone => (s.declareFault rf i cause alone).declareAll rf rest false

/-- The slice serves or shadows a position, so the monitor checks it (R549). -/
def State.monitored (s : State) (rf : Bool) (i : Nat) : Bool :=
  i != smpSpare rf || s.get (spareAtFld rf) != 7

/-- Twice the median of four values. -/
def median2 (a b c d : Int) : Int := a + b + c + d - min (min a b) (min c d) - max (max a b) (max c d)

/-- Twice the median of a statistic over the chains that serve the RF phases. -/
def State.servingMedian (s : State) (stats : List SliceStats) (f : SliceStats → Int) : Int :=
  let v (p : Nat) : Int := (stats[s.serving true p]?.map f).getD 0
  median2 (v 0) (v 1) (v 2) (v 3)

/-- The check of Table SMP-5 that a slice's window fails, the lowest code where several do: 1 MEAN, 2 PILOT, 3 STUCK. -/
def State.departCause (s : State) (rf : Bool) (stats : List SliceStats) (x : SliceStats) : Option Nat :=
  let mean := if rf then s.servingMedian stats (·.mean) else 0
  let pilot := if rf then s.servingMedian stats (·.pilot) else 0
  if 512 < (2 * x.mean - mean).natAbs then some 1
  else if 200 < (2 * x.pilot - pilot).natAbs || (!rf && decide (1000 < x.phase.natAbs)) then some 2
  else if x.distinct < 16 then some 3
  else none

/-- A monitor window ends (R549, R550): `stats` are those of the sampler's slices by local index. -/
def State.monitorWindow (s : State) (rf : Bool) (stats : List SliceStats) (clipped : Bool) : State :=
  if !(s.smpOn rf && s.spllOk) then s
  else
    let s := s.iff clipped fun s =>
      if rf then (s.satInc SMP_RF_CLIP_COUNT SMP_RF_CLIP_OVF).event 163 else (s.satInc SMP_LINE_CLIP_COUNT SMP_LINE_CLIP_OVF).event 164
    let cause (i : Nat) : Option Nat :=
      let g := smpGlobal rf i
      if s.faulty g || !s.monitored rf i then none
      else if s.smp.forced.getLsbD g then some 5
      else (stats[i]?).bind (s.departCause rf stats)
    let locals := List.range (smpPositions rf + 1)
    let now := locals.filterMap fun i => (cause i).map fun c => (i, c)
    let decl := now.filter fun d => s.smp.departs.getLsbD (smpGlobal rf d.1)
    let bits (xs : List (Nat × Nat)) : BitVec 8 := xs.foldl (fun b d => b ||| (1#8 <<< smpGlobal rf d.1)) 0
    let mine : BitVec 8 := if rf then 0x1F else 0xE0
    let s := s.withSmp { s.smp with departs := (s.smp.departs &&& ~~~mine) ||| (bits now &&& ~~~(bits decl)),
                                          forced := s.smp.forced &&& ~~~(bits decl) }
    s.declareAll rf decl true

/-! ### Trim steps (R541 to R544) -/

/-- The window that ends is discarded (R542): a clip, an attenuator change, a power more than 3 dB from that of the window before, or a faulty
slice among the one that serves the position and the one that shadows it. -/
def State.windowBad (s : State) (rf clip : Bool) (power : Int) : Bool :=
  let r := s.rot rf
  let shadow := if s.smpStep rf = 1 then smpSpare rf else r.pos
  clip || r.att || (match r.power with | some q => decide (300 < (power - q).natAbs) | none => false) ||
  s.faulty (smpGlobal rf (s.serving rf r.pos)) || s.faulty (smpGlobal rf shadow)

/-- A sounding window ends with its estimate, a clip of any sample during it, and the in-band power in 0.01 dB (R541, R542). -/
def State.soundWindow (s : State) (rf : Bool) (est : CoefSet) (clip : Bool) (power : Int) : State :=
  let r := s.rot rf
  if !(s.smpOn rf && s.spllOk && (s.smpStep rf == 1 || s.smpStep rf == 3)) then s
  else
    let next := { r with wins := r.wins + 1, power := some power, att := false }
    if s.windowBad rf clip power then ((s.satInc SMP_SKIP_COUNT_COUNT SMP_SKIP_COUNT_OVF).event 165).putRot rf next
    else s.putRot rf { next with ests := r.ests ++ [est] }

/-- WINDOWS, 4 to 63. -/
def State.trimWindows (s : State) : Nat := max 4 (s.get SMP_SOUND_CFG_WINDOWS)

/-- A trim step ends (R543 to R546): commit, nothing, or RANGE; then the handover of the next step. -/
def State.trimStepEnd (s : State) (rf : Bool) : State :=
  let r := s.rot rf
  let step := s.smpStep rf
  let n := s.trimWindows
  if !(s.smpOn rf && s.spllOk && (step == 1 || step == 3)) then s
  else if r.ests.length < n && decide (r.wins < 4 * n) then s
  else
    let spare := step == 1
    let mean := meanSet r.ests s.draw
    let full := decide (n ≤ r.ests.length)
    let s := s.iff full (·.drawn)
    if full && !coefInLimits mean then s.declareFault rf (if spare then smpSpare rf else r.pos) 4 true
    else
      let s := s.iff full (·.putSet (setIndex rf spare r.pos) mean)
      s.stepHandover rf (step + 1) (s.chainRamp (smpChain rf r.pos))

/-- The ramp that runs on a chain: a handover goes before a coefficient change of the slice that serves (R546, R547). -/
def State.rampOf (s : State) (c : Nat) : Option (Nat × Nat × CoefSet × Nat) :=
  let rf := decide (c < 4)
  let now := smpGlobal rf (s.serving rf (if rf then c else c - 4))
  (s.smp.ramps.find? fun r => r.1 == c && r.2.1 != now) <|> s.smp.ramps.find? (·.1 == c)

/-- A RAMP ends: the arriving slice serves, and a handover of the rotation moves it on (R546). -/
def State.rampEnd (s : State) (c : Nat) : State :=
  match s.rampOf c with
  | none => s
  | some (_, g, _) =>
    let rf := decide (c < 4)
    let p := if rf then c else c - 4
    let i := if rf then g else g - 5
    let s := s.withSmp { s.smp with ramps := s.smp.ramps.filter fun r => r.1 != c }
    let moved := s.serving rf p != i
    let s := s.put (serveFld rf p) i
    s.iff (moved && (s.rot rf).pos == p) (·.handoverDone rf)

/-! ### SMP_COEF_CMD (R547, R549, R556, R557, R559, R564) -/

/-- APPLY of the stage to a set. A chain that the set serves takes it in its own mode; a trim of the set starts over. -/
def State.smpApply (s : State) (k : Nat) : State :=
  if 11 < k then s
  else if !coefInLimits s.staged then (s.set SMP_STATUS_APPLY_REFUSED).event 169
  else
    let old := s.coefSet k
    let s := s.putSet k s.staged
    let rf := decide (k < 8)
    let spare := if rf then decide (4 ≤ k) else decide (10 ≤ k)
    let p := if rf then k % 4 else k % 2
    let slice := if spare then smpSpare rf else p
    let s := s.iff (s.serving rf p == slice && s.chainRamp (smpChain rf p)) fun s =>
      s.withSmp { s.smp with ramps := s.smp.ramps ++ [(smpChain rf p, smpGlobal rf slice, old, s.chainExp (smpChain rf p))] }
    s.iff ((s.rot rf).pos == p && s.smpStep rf == (if spare then 1 else 3)) (·.clearWindows rf)

/-- LOAD of a set into the stage. -/
def State.smpLoad (s : State) (k : Nat) : State :=
  if 11 < k then s
  else
    let c := s.coefSet k
    let s := (s.put SMP_STAGE_OFFSET_VALUE (setWord c 0)).put SMP_STAGE_GAIN_VALUE (setWord c 1)
    (s.put SMP_STAGE_SKEW_VALUE (setWord c 2)).put SMP_STAGE_BW_VALUE (setWord c 3)

/-- FORCE_FAULT: the named slice departs with cause FORCED in every window until it is declared. -/
def State.smpForce (s : State) (g : Nat) : State :=
  if 7 < g || s.faulty g then s else s.withSmp { s.smp with forced := s.smp.forced ||| (1#8 <<< g) }

/-- A write of SMP_COEF_CMD. -/
def State.smpCmd (s : State) (w : Word) : State :=
  if keyed w then
    match bitsOf w 0 2 with
    | 1 => s.smpApply (bitsOf w 8 4)
    | 2 => s.smpForce (bitsOf w 8 4)
    | 3 => s.smpLoad (bitsOf w 8 4)
    | _ => s
  else s

/-! ### Samples (R531, R534, R535, R539, R546) -/

/-- The device time, in nanoseconds, that lies `n` ns before now. -/
def State.instantBack (s : State) (n : Nat) : Nat := s.fix.sec * 1000000000 + s.fix.ns - n

/-- The code that global slice `g` gave `age` instants ago: its input is free. -/
def State.sliceCode (s : State) (g age : Nat) : Int := if g < 5 then signed 14 (s.pick (age * 8 + g)) else signed 18 (s.pick (age * 8 + g))

/-- The output of position `p` for the instant of age `age`, its own samples `stride` instants apart. While its chain ramps, the leaving slice
under its set gives way to the arriving one; how far the ramp has come is free. -/
def State.posSample (s : State) (rf : Bool) (p age : Nat) : Int :=
  let stride := if rf then 4 else 1
  let out (i : Nat) (c : CoefSet) : Int := chainOut rf c fun m => s.sliceCode (smpGlobal rf i) (age + stride * m)
  let i := s.serving rf p
  let own (i : Nat) : CoefSet := s.coefSet (setIndex rf (i == smpSpare rf) p)
  match s.rampOf (smpChain rf p) with
  | none => out i (own i)
  | some (_, g, old, n) =>
    let j := if rf then g else g - 5
    rampMix n (min (2 ^ n) (s.draw - age / stride)) (out i old) (out j (own j))

/-- The RF stream at age `age`: phase p samples at the device-clock instants (4m + p) ns (R531). -/
def State.rfSample (s : State) (age : Nat) : Int := s.posSample true ((s.instantBack 0 + 3 * age) % 4) age

/-! ### Streams -/

/-- DATA of beat `b` of a unit: eight RF samples, oldest lowest, or the two line inputs sign-extended (Table SMP-6). -/
def State.smpWord (s : State) (rf : Bool) (b : Nat) : Nat :=
  if rf then (List.range 8).foldl (fun n k => n + unsigned 16 (s.rfSample (8191 - (8 * b + k))) * 2 ^ (16 * k)) 0
  else unsigned 32 (s.posSample false 0 (1023 - b)) + unsigned 32 (s.posSample false 1 (1023 - b)) * 2 ^ 32

/-- A 1,024-beat raw or line unit (R554, R555). Its first sample lies 8,191 RF or 1,023 line samples before the newest, and the chain's latency
before that (R540). -/
def State.smpUnit (s : State) (rf clip room : Bool) : State :=
  if !(s.smpOn rf && s.spllOk && s.bit (if rf then SMP_CFG_RAW_EN else SMP_CFG_LSTREAM_EN)) then s
  else
    let flags := (if clip then 1 else 0) + (if rf && s.smp.attSeen then 2 else 0) + (if rf && s.smp.handSeen then 4 else 0)
    let ns := s.instantBack (if rf then 8191 + Config.chainLatency rf else (1023 + Config.chainLatency rf) * 100) % 1000000000
    let words := (List.range 1024).map (s.smpWord rf)
    let port := if rf then rawPort else linePort
    let s := (s.iff rf fun s => s.withSmp { s.smp with attSeen := false, handSeen := false }).picked 65536
    if room && s.streamRoom port 1024 then s.streamPush port (unitBeats (ns + flags * 2 ^ 32) 0 words)
    else s.satInc SMP_DROPS_COUNT SMP_DROPS_OVF

/-- DAC channel `c` is on, and takes the fabric's DAC stream (R536). -/
def State.dacFabric (s : State) (c : Nat) : Bool :=
  s.radioOn && s.spllOk && bitsOf (s.word SMP_CFG) (2 + c) 1 == 1 && bitsOf (s.word SMP_CFG) (4 + c) 1 == 1

/-- A DAC instant with no sample ready: the channel outputs code 0 (R538). -/
def State.dacUnderrun (s : State) (c : Nat) : State :=
  if s.dacFabric c then ((s.satInc SMP_DAC_UNDER_COUNT SMP_DAC_UNDER_OVF).event 168).emit (.dac c 0) else s

/-- A DAC instant at which the fabric's port has a beat: it crosses, channel 0 in [15:0] and channel 1 in [31:16] (Table SMP-6, R555). -/
def State.dacBeat (s : State) (w : Word) : State :=
  let on := s.dacFabric 0 || s.dacFabric 1
  let s := s.iff (s.dacFabric 0) (·.emit (.dac 0 (w.setWidth 16)))
  let s := s.iff (s.dacFabric 1) (·.emit (.dac 1 ((w >>> 16).setWidth 16)))
  s.iff on (·.streamTake dacPort 1)

/-! ### Start, mute and Watch state -/

/-- The radio domain starts: factory trim, the reset arrangement, no fault; sounding starts once the SPLL is locked
(R566). -/
def State.smpStart (s : State) : State :=
  let s := (s.putWord SMP_RF_MAP 0x00703210).putWord SMP_LINE_MAP 0x00007710
  let s := (s.putWord SMP_FAULT 0).putWord SMP_STATUS 0
  let s := s.withSmp { sets := Vector.replicate 12 none, rf := SmpRot.fresh, line := SmpRot.fresh, ramps := [], departs := 0,
                             forced := 0, attSeen := false, handSeen := false }
  (s.soundStart true).soundStart false

/-- The SPLL mutes: trim steps are abandoned and the monitor windows restart (R565). -/
def State.smpMute (s : State) : State :=
  let s := (s.soundAbandon true false).soundAbandon false false
  (s.withSmp { s.smp with departs := 0, ramps := [] })

/-- The drain: the step in progress is abandoned without commit (R567). -/
def State.smpDrain (s : State) : State :=
  let s := s.withSmp { s.smp with departs := 0, ramps := [], attSeen := false, handSeen := false }
  (s.clearWindows true).clearWindows false

/-- Fabric release after wake: the rotation resumes at the start of the abandoned step, its handover by STEP (R567). -/
def State.smpResume (s : State) (rf : Bool) : State :=
  match s.smpStep rf with
  | 0 => s.soundStart rf
  | 2 => s.stepHandover rf 2 false
  | 4 => s.stepHandover rf 4 false
  | _ => s.clearWindows rf

end Sys2Proof.Machine
end

