-- ==== Sys2Proof/Machine/Rxc.lean ====
section
/-!
DEFINITION. The channelizer: eight DDCs with their coefficient banks, retune and restart, hop lists and output units
(R568 to R606).
-/
namespace Sys2Proof.Machine

/-- The hidden state of DDC `d`. -/
def State.dd (s : State) (d : Nat) : DdcState := s.ddc[d]?.getD DdcState.fresh

/-- Replace the hidden state of DDC `d`. -/
def State.putDd (s : State) (d : Nat) (v : DdcState) : State := s.withDdc (s.ddc.setIfInBounds d v)

/-- D = D_CIC × D_FIR of a DDC_DEC word. -/
def decD (w : Word) : Nat := bitsOf w 0 15 * (bitsOf w 16 4 + 1)

/-- TAPS_NEXT of a DDC_DEC word. -/
def decTaps (w : Word) : Nat := bitsOf w 20 9

/-- SCS of a DDC_CFG word. -/
def cfgScs (w : Word) : Bool := bitsOf w 25 1 == 1

/-- R575: D between 32 and 262,144, and outside SCS mode at most min(320, 2 × D) taps (R583). -/
def decOk (d taps : Nat) (scs : Bool) : Bool :=
  decide (32 ≤ d) && decide (d ≤ 262144) && (scs || (decide (1 ≤ taps) && decide (taps ≤ 320) && decide (taps ≤ 2 * d)))

/-- The settings in the registers of a DDC satisfy R573 and R575. -/
def State.ddcLimitsOk (s : State) (d : Nat) : Bool :=
  let w := s.word (DDC_DEC d)
  decide (4 ≤ bitsOf w 0 15) && decide (bitsOf w 0 15 ≤ 16384) && decOk (decD w) (decTaps w) (cfgScs (s.word (DDC_CFG d)))

/-- DDC `d` produces output. -/
def State.ddcRunning (s : State) (d : Nat) : Bool := s.bit (DDC_STATUS_RUNNING d)

/-- Set RUNNING in both registers that show it. -/
def State.putRunning (s : State) (d : Nat) (b : Bool) : State :=
  (s.putB (DDC_STATUS_RUNNING d) b).putB ⟨RXC_STATUS, d, 1⟩ b

/-- The outputs that may be marked UNSETTLED after a change: ceil((T + 5) / D_FIR), none in SCS mode (R581, R584). -/
def State.unsettledRun (s : State) (d : Nat) : Nat :=
  let v := s.dd d
  let dfir := bitsOf v.dec 16 4 + 1
  if cfgScs v.cfg then 0 else (s.get (DDC_STATUS_TAPS d) + 5 + dfir - 1) / dfir

/-- Mark the outputs from here UNSETTLED. -/
def State.unsettle (s : State) (d : Nat) : State :=
  let n := s.unsettledRun d
  (s.putDd d { s.dd d with unsettled := n }).putB (DDC_STATUS_UNSETTLED d) (n != 0)

/-! ### The signal path (R568, R571 to R574, R583, R588) -/

/-- Input samples per output: D, and 4 × D in SCS mode (R575, R583). -/
def DdcState.step (v : DdcState) : Nat := if cfgScs v.cfg then 4 * decD v.dec else decD v.dec

/-- The NCO's phase at the input of age `age`: it turned by the word before the last change until that change (R571, R572). -/
def DdcState.phaseAt (v : DdcState) (age : Nat) : BitVec 32 :=
  v.phase - BitVec.ofNat 32 (min age v.since * v.fw + (age - v.since) * v.prevFw)

/-- Rail `q` of the mixer for the input of age `age`; the tables take 20 bits of the phase. What entered before the last clear counts as
zero. -/
def State.mixed (s : State) (d : Nat) (q : Bool) (age : Nat) : Int :=
  let v := s.dd d
  if age < v.age then Config.ncoMix q (s.rfSample age) ((v.phaseAt age).toNat / 2 ^ 12) else 0

/-- Coefficient `k` of the active bank, Q1.17. -/
def State.activeCoef (s : State) (d k : Nat) : Int :=
  signed 18 (cellRead (if s.bit (DDC_STATUS_ACTIVE_BANK d) then (s.dd d).bankB else (s.dd d).bankA) k).toNat

/-- Rail `q` of the output whose newest input has age `age`, and whether CIC or FIR saturated in forming it (R573, R574, R583). -/
def State.ddcRail (s : State) (d : Nat) (q : Bool) (age : Nat) : Int × Bool :=
  let v := s.dd d
  let x := s.mixed d q
  if cfgScs v.cfg then dumpOut (4 * decD v.dec) x age
  else
    let dcic := bitsOf v.dec 0 15
    let taps := s.get (DDC_STATUS_TAPS d)
    let o := firOut taps dcic (s.activeCoef d) (fun b => (cicOut dcic x b).1) age
    (o.1, o.2 || (List.range taps).any fun k => (cicOut dcic x (age + k * dcic)).2)

/-- An input sample at RF full scale is among the `n` from age `age` on. -/
def State.clipIn (s : State) (age n : Nat) : Bool := (List.range n).any fun k => s.rfSample (age + k) == -32768 || s.rfSample (age + k) == 32764

/-- DATA of one output (Table RXC-1), with its SAT and IN_CLIP flags. -/
def State.ddcWord (s : State) (d age : Nat) (unsettled : Bool) : BitVec 64 × Bool × Bool :=
  let v := s.dd d
  let i := s.ddcRail d false age
  let q := s.ddcRail d true age
  let sat := i.2 || q.2
  let clip := s.clipIn age v.step
  let b (x : Bool) (n : Nat) : Nat := if x then 2 ^ n else 0
  let bank := s.bit (DDC_STATUS_ACTIVE_BANK d) && !cfgScs v.cfg
  (BitVec.ofNat 64 (unsigned 24 i.1 + b unsettled 24 + b sat 25 + b clip 26 + b bank 27 + unsigned 24 q.1 * 2 ^ 32 +
    s.get (DDC_GEN_GEN d) * 2 ^ 56), sat, clip)

/-- `k` input samples pass DDC `d`: the NCO turns, and the outputs that they complete join the unit in progress. -/
def State.ddcPass (s : State) (d k : Nat) : State :=
  let v := s.dd d
  let n := v.step
  let outs := (v.part + k) / n - v.part / n
  let s := s.putDd d { v with phase := v.phase + BitVec.ofNat 32 (k * v.fw), since := v.since + k, age := v.age + k, part := v.part + k }
  let ws := (List.range outs).map fun j => s.ddcWord d ((v.part + k) % n + (outs - 1 - j) * n) (decide (j < v.unsettled))
  let left := v.unsettled - outs
  let s := s.putDd d { s.dd d with
    words := v.words ++ ws.map (·.1), unitSat := v.unitSat || ws.any (·.2.1), unitClip := v.unitClip || ws.any (·.2.2), unsettled := left }
  (s.iff (outs != 0) fun s => s.putB (DDC_STATUS_UNSETTLED d) (left != 0)).picked (8 * (k + 400 * 16384))

/-- Outputs of a unit: 2^UNIT, and DWELL dumps in a hop list (R586, R589). -/
def State.unitLen (s : State) (d : Nat) : Nat :=
  let v := s.dd d
  if s.bit (DDC_STATUS_HOPPING d) then bitsOf v.hopCfg 0 8 else 2 ^ clampNat 6 12 (bitsOf v.cfg 16 4)

/-- Input samples that the unit in progress still takes. -/
def State.unitRest (s : State) (d : Nat) : Nat := s.unitLen d * (s.dd d).step - (s.dd d).part

/-- The unit in progress runs to its end. -/
def State.ddcFill (s : State) (d : Nat) : State := s.iff (s.ddcRunning d) fun s => s.ddcPass d (s.unitRest d)

/-- A free part of the unit in progress passes. -/
def State.ddcSome (s : State) (d : Nat) : State :=
  s.iff (s.ddcRunning d) fun s => s.drawn.ddcPass d (s.draw % max 1 (s.unitRest d))

/-- A free part of the unit in progress passes, up to a boundary of its outputs (R578, R584, R585). -/
def State.ddcToBoundary (s : State) (d : Nat) : State :=
  s.iff (s.ddcRunning d) fun s =>
    let p := (s.dd d).part
    let n := max 1 (s.dd d).step
    s.drawn.ddcPass d ((p + s.draw % max 1 (s.unitRest d) + n - 1) / n * n - p)

/-- Forget the unit in progress. -/
def State.ddcForget (s : State) (d : Nat) : State := s.putDd d { s.dd d with part := 0, words := [], unitSat := false, unitClip := false }

/-- Clear the CIC and FIR state, and the unit with it. -/
def State.ddcClear (s : State) (d : Nat) : State := (s.ddcForget d).putDd d { (s.ddcForget d).dd d with age := 0 }

/-- Nanoseconds from the newest input sample of an output back to the centre of its filter span (R590); which way a half goes is free. -/
def State.spanCentre (s : State) (d : Nat) : Nat :=
  let v := s.dd d
  let dcic := bitsOf v.dec 0 15
  let twice := if cfgScs v.cfg then 4 * decD v.dec - 1 else 5 * (dcic - 1) + (s.get (DDC_STATUS_TAPS d) - 1) * dcic
  twice / 2 + (if twice % 2 = 1 then s.draw % 2 else 0)

/-- The device-time instant of the first output of the unit in progress, the newest input being of now. -/
def State.unitInstant (s : State) (d : Nat) : Nat :=
  let v := s.dd d
  s.instantBack (v.part % v.step + (v.words.length - 1) * v.step + s.spanCentre d + Config.chainLatency true)

/-- The energy of the outputs of the unit in progress. -/
def DdcState.energy (v : DdcState) : Nat := (v.words.map wordEnergy).sum

/-- The POWER field of Table RXC-2: −0.5 dB steps, 255 at or below −127.5 dBFS. -/
def DdcState.unitPower (v : DdcState) : Nat := powerSteps 20 255 v.energy v.words.length

/-- USER of a unit's first beat (Table RXC-2). -/
def State.unitUser (s : State) (d : Nat) : Nat :=
  let t := s.unitInstant d
  let idx := if s.bit (DDC_STATUS_HOPPING d) then s.get (DDC_STATUS_HOP_IDX d) else 0
  t % 1000000000 + (if cfgScs (s.dd d).cfg then 2 ^ 32 else 0) + idx * 2 ^ 33 + (s.dd d).unitPower * 2 ^ 40 + t / 1000000000 % 65536 * 2 ^ 48

/-- The unit in progress is released to the fabric port where DEST bit 28 asks for it, or dropped whole and counted (R587, R591); `room` is the
port's. -/
def State.ddcRelease (s : State) (d : Nat) (room : Bool) : State :=
  let v := s.dd d
  let user := s.unitUser d
  let s := s.drawn.ddcForget d
  if bitsOf v.cfg 28 1 = 0 || v.words.isEmpty then s
  else if room && s.portLive 1 && s.streamRoom (ddcPort d) v.words.length then
    s.streamPush (ddcPort d) (unitBeats user 0 (v.words.map (·.toNat)))
  else ((s.satInc (DDC_DROPS_COUNT d) (DDC_DROPS_OVF d)).set (DDC_STATUS_DROP d)).event 186

/-- Flags and level of the unit in progress: POWER at 0.01 dB (R594). -/
def State.ddcFlags (s : State) (d : Nat) : State :=
  let v := s.dd d
  let s := s.iff v.unitSat fun s => ((s.satInc (DDC_SAT_UNITS_COUNT d) (DDC_SAT_UNITS_OVF d)).set (DDC_STATUS_SAT d)).event 184
  let s := s.iff v.unitClip fun s => (s.set (DDC_STATUS_IN_CLIP d)).event 185
  s.put (DDC_POWER_POWER d) (powerSteps 1000 0xFFFF v.energy v.words.length)

/-- A restart closes the unit in progress early, with LAST on its last sample (R582): how far it has come is free. -/
def State.ddcCloseEarly (s : State) (d : Nat) : State :=
  let s := s.ddcSome d
  s.iff (!(s.dd d).words.isEmpty) fun s => (s.ddcFlags d).ddcRelease d true

/-! ### Settings -/

/-- Take the registers' settings (R582): TAPS_NEXT goes to the active bank. -/
def State.ddcApplySettings (s : State) (d : Nat) : State :=
  let s := s.putDd d { s.dd d with dec := s.word (DDC_DEC d), cfg := s.word (DDC_CFG d), dirty := false }
  s.put (DDC_STATUS_TAPS d) (decTaps (s.word (DDC_DEC d)))

/-- The DDC is enabled and its clock runs. -/
def State.ddcMayRun (s : State) (d : Nat) : Bool :=
  s.radioOn && s.spllOk && s.bit RXC_CFG_EN && s.bit (DDC_CFG_EN d) && !(s.dd d).dbe

/-- DDC_PHASE.PHASE × 2^−16 turn as the NCO's phase (R572). -/
def State.startPhase (s : State) (d : Nat) : BitVec 32 := BitVec.ofNat 32 (s.get (DDC_PHASE_PHASE d) * 65536)

/-- The NCO takes a word: what entered before it was mixed with the one before (R580). -/
def State.ncoTake (s : State) (d fw : Nat) : State :=
  s.putDd d { s.dd d with fw := fw, prevFw := (s.dd d).fw, since := 0 }

/-- A DDC starts from its settings: filters cleared, phase PHASE, first outputs UNSETTLED (R572, R605). -/
def State.ddcBegin (s : State) (d : Nat) : State :=
  let s := s.ddcApplySettings d
  let s := s.ddcClear d
  let s := s.putDd d { s.dd d with fw := s.get (DDC_FREQ_FW d), prevFw := s.get (DDC_FREQ_FW d), since := 0, latched := none,
                                   phase := s.startPhase d }
  ((s.clr (DDC_STATUS_RETUNE_PEND d)).putRunning d true).unsettle d

/-- EN of a DDC or of the channelizer has been written: the DDC starts, or its output ends. -/
def State.ddcEnable (s : State) (d : Nat) : State :=
  if s.ddcMayRun d then (if s.ddcRunning d then s else s.ddcBegin d)
  else
    let s := ((s.putRunning d false).clr (DDC_STATUS_RETUNE_PEND d)).clr (DDC_STATUS_HOPPING d)
    (s.ddcForget d).putDd d { (s.ddcForget d).dd d with latched := none, hopStop := false }

/-- A write of DDC_CFG: EN acts at once, any other field waits for the next RETUNE (R582). -/
def State.ddcCfgWritten (s : State) (d : Nat) (old : Word) : State :=
  let changed := (old ^^^ s.word (DDC_CFG d)) &&& ~~~0x80000000#32 != 0
  (s.iff changed fun s => s.putDd d { s.dd d with dirty := true }).ddcEnable d

/-! ### Retune, restart and swap (R578 to R584, R595 to R599, R601) -/

/-- The tuning word is latched (R580); a word that waits is replaced (R595). -/
def State.latch (s : State) (d : Nat) (reset restart : Bool) : State :=
  let old := match (s.dd d).latched with
    | some (_, _, t) => t
    | none => false
  (s.putDd d { s.dd d with latched := some (s.get (DDC_FREQ_FW d), reset, restart || old) }).set (DDC_STATUS_RETUNE_PEND d)

/-- A RETUNE command, or the restart that it is after a write of DDC_DEC or DDC_CFG (R580, R582, R597). -/
def State.retune (s : State) (d : Nat) (reset : Bool) : State :=
  if s.bit (DDC_STATUS_HOPPING d) then s.set (DDC_STATUS_RETUNE_DROP d)
  else if (s.dd d).dirty then
    (if s.ddcLimitsOk d then ((s.ddcCloseEarly d).ddcClear d |>.ddcApplySettings d).latch d reset true else s.set (DDC_STATUS_LIMIT_REFUSED d))
  else s.latch d reset false

/-- The NCO takes the latched word (R572, R580 to R582): GEN increments, line 176 + d rises. -/
def State.retuneApply (s : State) (d : Nat) : State :=
  match (s.dd d).latched with
  | none => s
  | some (fw, reset, restart) =>
    if !s.ddcRunning d then s
    else
      let s := (if cfgScs (s.dd d).cfg then s.ddcToBoundary d else s.ddcSome d).ncoTake d fw
      let s := s.putDd d { s.dd d with latched := none, phase := if reset || restart then s.startPhase d else (s.dd d).phase }
      ((s.clr (DDC_STATUS_RETUNE_PEND d)).modInc (DDC_GEN_GEN d)).event (176 + d) |>.unsettle d

/-- SWAP (R578, R579). -/
def State.swap (s : State) (d : Nat) : State := s.set (DDC_STATUS_SWAP_PEND d)

/-- The swap takes effect at a FIR output boundary, or is refused (R578); during a restart it waits (R596). -/
def State.swapApply (s : State) (d : Nat) : State :=
  let v := s.dd d
  let restart := match v.latched with
    | some (_, _, t) => t
    | none => false
  if !s.bit (DDC_STATUS_SWAP_PEND d) || restart then s
  else
    let s := s.clr (DDC_STATUS_SWAP_PEND d)
    let t := decTaps (s.word (DDC_DEC d))
    if !decOk (decD v.dec) t (cfgScs v.cfg) then s.set (DDC_STATUS_LIMIT_REFUSED d)
    else
      let s := s.ddcToBoundary d
      let s := (s.put (DDC_STATUS_ACTIVE_BANK d) (1 - s.get (DDC_STATUS_ACTIVE_BANK d))).put (DDC_STATUS_TAPS d) t
      ((s.putDd d { s.dd d with dbe := false }).event (176 + d)).ddcEnable d

/-- The coefficient that a read returns: the inactive bank's (R577). -/
def State.coefRead (s : State) (d t : Nat) : BitVec 18 :=
  cellRead (if s.bit (DDC_STATUS_ACTIVE_BANK d) then (s.dd d).bankA else (s.dd d).bankB) t

/-- A coefficient write goes to the inactive bank, or is dropped while a swap waits (R577, R579, R601). -/
def State.coefPut (s : State) (d t : Nat) (c : BitVec 18) : State :=
  let v := s.dd d
  if s.bit (DDC_STATUS_SWAP_PEND d) then s.set (DDC_STATUS_COEF_DROP d)
  else if s.bit (DDC_STATUS_ACTIVE_BANK d) then s.putDd d { v with bankA := cellWrite v.bankA t c }
  else s.putDd d { v with bankB := cellWrite v.bankB t c }

/-! ### Hop lists (R585, R586, R598, R600) -/

/-- Stand at a hop entry: the NCO takes its word and GEN increments. -/
def State.hopTo (s : State) (d e : Nat) : State :=
  let s := (s.put (DDC_STATUS_HOP_IDX d) e).modInc (DDC_GEN_GEN d)
  s.ncoTake d (s.word (DDC_HOP d e)).toNat

/-- HOP_START in SCS mode: entry 0 begins at the next dump boundary, and a unit of its dumps with it (R585); ignored while HOPPING is set (R597).
What the unit in progress held is withheld (DESIGN CHOICE: the spec does not say). -/
def State.hopStart (s : State) (d : Nat) : State :=
  let v := s.dd d
  if s.bit (DDC_STATUS_HOPPING d) || !s.ddcRunning d || !cfgScs v.cfg then s
  else
    let s := (s.ddcToBoundary d).ddcForget d
    ((s.putDd d { s.dd d with hopCfg := s.word (DDC_HOP_CFG d), hopStop := false }).set (DDC_STATUS_HOPPING d)).hopTo d 0

/-- HOP_STOP takes effect at the end of the unit in progress (R586). -/
def State.hopStopCmd (s : State) (d : Nat) : State :=
  s.iff (s.bit (DDC_STATUS_HOPPING d)) fun s => s.putDd d { s.dd d with hopStop := true }

/-- DWELL dumps have passed: the next entry, or the end of the cycle (R585, R586). -/
def State.hopAdvance (s : State) (d : Nat) : State :=
  let v := s.dd d
  if !(s.bit (DDC_STATUS_HOPPING d) && s.ddcRunning d) then s
  else
    let idx := s.get (DDC_STATUS_HOP_IDX d)
    let last := decide (bitsOf v.hopCfg 8 4 ≤ idx)
    let s := s.iff last fun s => (s.event 187).modInc (DDC_HOP_CYCLES_COUNT d)
    if v.hopStop || (last && bitsOf v.hopCfg 12 1 == 1) then
      ((s.clr (DDC_STATUS_HOPPING d)).put (DDC_STATUS_HOP_IDX d) 0).putDd d { s.dd d with hopStop := false }
    else s.hopTo d (if last then 0 else idx + 1)

/-- A write of DDC_CMD: its bits act in one cycle (R596, R598). -/
def State.ddcCmd (s : State) (d : Nat) (w : Word) : State :=
  let b (i : Nat) : Bool := bitsOf w i 1 == 1
  let s := s.iff (b 0) (·.retune d (b 1))
  let s := s.iff (b 2) (·.swap d)
  let s := s.iff (b 3 && !b 4) (·.hopStart d)
  s.iff (b 4) (·.hopStopCmd d)

/-! ### Units (R587 to R594) -/

/-- A unit of DDC `d` is complete: flags and level, then the fabric port (R589, R591, R594). A double-bit error stops the
output here (R603). -/
def State.ddcUnit (s : State) (d : Nat) (room : Bool) : State :=
  if !s.ddcRunning d then s
  else
    let s := (s.ddcFlags d).ddcRelease d room
    s.iff (s.dd d).dbe (·.putRunning d false)

/-- The check of a coefficient or hop-table word (R603). -/
def State.ddcCheck (s : State) (d addr : Nat) (double : Bool) : State :=
  if double then
    (((s.putDd d { s.dd d with dbe := true }).set (DDC_STATUS_COEF_DBE d)).event 188).report 33 d addr
  else s.report 32 d addr

/-! ### Ownership (R593) -/

/-- A register that a live write may not reach while the broadcast block owns the DDC. -/
def State.ownedReg (s : State) (addr : Nat) : Option Nat :=
  (List.range 8).find? fun d => s.bit (DDC_CFG_OWNER d) &&
    ([DDC_DEC d, DDC_FREQ d, DDC_PHASE d, DDC_CMD d, DDC_HOP_CFG d].contains addr ||
     (decide (DDC_HOP d 0 ≤ addr) && decide (addr < DDC_HOP d 16)) ||
     (decide (DDC_COEF d 0 ≤ addr) && decide (addr < DDC_COEF d 320)))

/-! ### Start, mute and Watch state -/

/-- The radio domain starts: bank A active, GEN 0, each enabled DDC from its image settings (R577, R605). -/
def State.rxcStart (s : State) : State :=
  s.each (List.range 8) fun s d =>
    let s := (s.putWord (DDC_STATUS d) 0).put (DDC_GEN_GEN d) 0
    let s := s.putDd d { DdcState.fresh with bankA := (s.dd d).bankA, bankB := (s.dd d).bankB }
    s.ddcEnable d

/-- The drain: units not yet released are withheld whole, and signal state is lost (R606). -/
def State.rxcDrain (s : State) : State := s.each (List.range 8) fun s d => (s.putRunning d false).ddcClear d

/-- The SPLL mutes: units in progress are dropped without counting and signal state is cleared (R604). -/
def State.rxcMute (s : State) : State :=
  (s.set RXC_STATUS_SPLL_HOLD).each (List.range 8) fun s d => (s.putRunning d false).ddcClear d

/-- Each enabled DDC restarts with its settings and GEN, and a running hop list at entry 0 (R604, R606). -/
def State.rxcRestart (s : State) : State :=
  (s.clr RXC_STATUS_SPLL_HOLD).each (List.range 8) fun s d =>
    if s.ddcMayRun d then
      let s := s.ddcClear d
      let s := s.putDd d { s.dd d with phase := s.startPhase d }
      let s := s.iff ((s.dd d).dec == 0) (·.ddcBegin d)
      let s := ((s.putRunning d true).unsettle d)
      s.iff (s.bit (DDC_STATUS_HOPPING d)) fun s =>
        (s.put (DDC_STATUS_HOP_IDX d) 0).ncoTake d (s.word (DDC_HOP d 0)).toNat
    else s

end Sys2Proof.Machine
end

