-- ==== Sys2Proof/Machine/Bcd.lean ====
section
/-!
DEFINITION. The broadcast block: four demodulator contexts, their units and checks, alternative frequencies and scanning,
floods, and the measurements for the Fix selector (R607 to R659).
-/
namespace Sys2Proof.Machine

/-- The hidden state of context `c`. -/
def State.cx (s : State) (c : Nat) : BcdCtx := s.ctx[c]?.getD BcdCtx.fresh

/-- Replace the hidden state of context `c`. -/
def State.putCx (s : State) (c : Nat) (v : BcdCtx) : State := s.withCtx (s.ctx.setIfInBounds c v)

/-! ### Input (R607 to R610, R650) -/

/-- MODE: 0 OFF, 1 AM, 2 FM, 3 DRM. -/
def State.ctxMode (s : State) (c : Nat) : Nat := s.get (CTX_CFG_MODE c)

/-- The main DDC. -/
def State.ctxMain (s : State) (c : Nat) : Nat := s.get (CTX_CFG_MAIN c)

/-- The context is on. -/
def State.ctxOn (s : State) (c : Nat) : Bool :=
  s.radioOn && s.bit BCD_CFG_EN && s.bit (CTX_CFG_EN c) && s.ctxMode c != 0

/-- The frequency in use, rounded to the nearest hertz: FW × 10^9 / 2^32 (R609). -/
def fwHz (fw : Nat) : Nat := (fw * 1000000000 + 2 ^ 31) / 2 ^ 32

/-- The frequency word of a frequency (R570, R610). -/
def hzFw (hz : Nat) : Nat := ((hz * 2 ^ 32 + 500000000) / 1000000000) % 2 ^ 32

/-- The frequency in use of a context. -/
def State.ctxHz (s : State) (c : Nat) : Nat := fwHz (s.dd (s.ctxMain c)).fw

/-- A frequency lies in a range. -/
def inRange (hz : Nat) (r : Nat × Nat) : Bool := decide (r.1 ≤ hz) && decide (hz ≤ r.2)

/-- Tuning ranges of AM and of DRM modes A to D; of FM; of DRM mode E (Table BCD-1). -/
def amRanges : List (Nat × Nat) := [(148500, 283500), (526500, 1606500), (2300000, 26100000)]
def fmRanges : List (Nat × Nat) := [(65800000, 108000000)]
def drmERanges : List (Nat × Nat) := [(47000000, 68000000), (87500000, 108000000), (174000000, 240000000)]

/-- A frequency and an output rate suit a mode of Table BCD-1; a DRM context with its mode not yet found takes either row. -/
def State.modeFits (s : State) (c hz d : Nat) : Bool :=
  let rate (lo hi : Nat) : Bool := decide (lo * d ≤ 1000000000) && decide (1000000000 ≤ hi * d)
  let am := amRanges.any (inRange hz)
  let drmE := drmERanges.any (inRange hz) && rate 192000 312500
  let drmAd := am && rate 40000 62500
  let m := if s.get (CTX_CFG_DRM_MODE c) = 0 then s.get (CTX_STATUS_DRM_DET c) else s.get (CTX_CFG_DRM_MODE c)
  match s.ctxMode c with
  | 1 => am && rate 15625 62500
  | 2 => fmRanges.any (inRange hz) && rate 250000 500000
  | 3 => if m = 0 then drmAd || drmE else if m = 5 then drmE else drmAd
  | _ => false

/-- The context has its input (R608, R609, R650). -/
def State.ctxInput (s : State) (c : Nat) : Bool :=
  let d := s.ctxMain c
  let v := s.dd d
  s.ctxOn c && s.bit (DDC_CFG_EN d) && s.ddcRunning d && bitsOf v.cfg 29 1 == 1 && bitsOf v.cfg 26 2 == c && !cfgScs v.cfg &&
  s.modeFits c (s.ctxHz c) (decD v.dec) && !((List.range c).any fun k => s.ctxOn k && s.ctxMain k == d)

/-- LOCK changes: LOCK_LOST as it falls, line 192 + 4c either way; a carrier interval without lock cannot count (R642). -/
def State.putLock (s : State) (c : Nat) (b : Bool) : State :=
  if s.bit (CTX_STATUS_LOCK c) == b then s
  else
    let s := (s.putB (CTX_STATUS_LOCK c) b).event (192 + 4 * c)
    if b then s else (s.set (CTX_STATUS_LOCK_LOST c)).putCx c { (s.set (CTX_STATUS_LOCK_LOST c)).cx c with ivalBad := true }

/-- A unit failed its check: withheld whole and counted (R615). -/
def State.ctxCheckDrop (s : State) (c : Nat) : State :=
  ((s.satInc (CTX_DROP_CHECK_COUNT c) (CTX_DROP_CHECK_OVF c)).set (CTX_STATUS_DROP c)).event 210

/-- Restart acquisition (R611): units in progress are dropped and counted. A carrier-phase frame in progress is known; how
many RDS or DRM units are in progress is free, at most one of each kind. -/
def State.ctxRestart (s : State) (c : Nat) : State :=
  let lock := s.bit (CTX_STATUS_LOCK c)
  let open_ := s.ctxMode c != 1 && lock
  let n := if s.ctxMode c = 1 then s.get (CTX_STATUS_CPD_SYNC c)
    else if open_ then (if s.ctxMode c = 2 then s.draw % 2 else s.draw % 4) else 0
  let s := (s.iff open_ (·.drawn)).satAdd (CTX_DROP_RETUNE_COUNT c) (CTX_DROP_RETUNE_OVF c) n
  let s := (s.putLock c false).clr (CTX_STATUS_CPD_SYNC c)
  let s := (s.clr (CTX_STATUS_STEREO c)).clr (CTX_STATUS_DRM_DET c)
  s.putCx c { s.cx c with idSeen := none, afHead := none, syncDiffs := 0, ivalBad := true, cpd := CpdState.fresh }

/-- Contexts of a main DDC restart at a change of its GEN (R611). -/
def State.ctxGen (s : State) (d : Nat) : State :=
  s.each (List.range 4) fun s c => s.iff (s.ctxOn c && s.ctxMain c == d) (·.ctxRestart c)

/-- Apply a DDC operation, with what a change of GEN brings. -/
def State.withGen (s : State) (d : Nat) (f : State → State) : State :=
  let t := f s
  if t.get (DDC_GEN_GEN d) = s.get (DDC_GEN_GEN d) then t else t.ctxGen d

/-! ### The owner path (R593, R610) -/

/-- D of the owned setting of a mode (Table BCD-1). -/
def State.ownedD (s : State) (c : Nat) : Nat :=
  match s.ctxMode c with
  | 1 => 32000
  | 2 => 3200
  | _ => if s.get (CTX_CFG_DRM_MODE c) = 5 || s.get (CTX_STATUS_DRM_DET c) = 5 then 4000 else 20000

/-- The pairs (D_CIC, D_FIR) that give D. -/
def decSplits (d : Nat) : List (Nat × Nat) :=
  (List.range 16).filterMap fun k => if d % (k + 1) = 0 ∧ d / (k + 1) ≤ 16384 then some (d / (k + 1), k + 1) else none

/-- A coefficient bank of free values: the spec does not list the built-in filter (R610). -/
def State.freeBank (s : State) : Cells 18 :=
  (List.range 320).foldl (fun m t => cellWrite m t (BitVec.ofNat 18 (Config.free (s.fresh + t)))) []

/-- Set a DDC's decimation and filter for a context: D is given, its split and the filter are free. -/
def State.ownedFilter (s : State) (d c : Nat) : State :=
  let splits := decSplits (s.ownedD c)
  let p := splits.getD (s.draw % max 1 splits.length) (4, 8)
  let s := s.drawn
  let taps := 1 + s.draw % 320
  let s := s.drawn
  let s := ((s.put (DDC_DEC_DCIC d) p.1).put (DDC_DEC_DFIR d) (p.2 - 1)).put (DDC_DEC_TAPS_NEXT d) taps
  let v := s.dd d
  let bank := s.freeBank
  let v := if s.bit (DDC_STATUS_ACTIVE_BANK d) then { v with bankB := bank } else { v with bankA := bank }
  (s.putDd d { v with dirty := true }).drawnBytes 320

/-- The frequency a context wants: its alternative frequency, or BCD_CTXc_FREQ. -/
def State.ctxWant (s : State) (c : Nat) : Nat := ((s.cx c).afHz).getD (s.word (CTX_FREQ c)).toNat

/-- The context tunes its main DDC where it owns it (R610); otherwise it follows. -/
def State.ctxTune (s : State) (c : Nat) : State :=
  let d := s.ctxMain c
  if !(s.ctxOn c && s.bit (DDC_CFG_OWNER d)) then s
  else
    let s := s.putWord (DDC_FREQ d) (BitVec.ofNat 32 (hzFw (s.ctxWant c)))
    let s := s.iff (decD (s.word (DDC_DEC d)) != s.ownedD c) (·.ownedFilter d c)
    s.retune d false

/-- EN of the broadcast block has been written: as it sets, each context tunes its main DDC (R610). -/
def State.bcdCfgWritten (s : State) (old : Word) : State :=
  if old.getLsbD 31 then s else s.each (List.range 4) fun s c => s.ctxTune c

/-- DDC_CFG of DDC `d` has been written: as OWNER sets, the context whose main DDC it is tunes it (R610). -/
def State.ownerWritten (s : State) (d : Nat) (old : Word) : State :=
  if old.getLsbD 30 then s else s.each ((List.range 4).filter fun c => s.ctxMain c == d) fun s c => s.ctxTune c

/-! ### Side data (R647, R649) -/

/-- The beats of a side-data unit: two of header (Table BCD-4) and the payload, byte 0 in [7:0]. `ref` is the reference instant in nanoseconds of
device time. -/
def State.sideBeats (s : State) (c type corr ref : Nat) (bytes : List Byte) : List Nat :=
  let n := beatCount 8 bytes.length
  [type + c * 2 ^ 4 + s.get (CTX_STATUS_FLOOD c) * 2 ^ 6 + corr * 2 ^ 7 + n % 4096 * 2 ^ 8 + s.get (DDC_GEN_GEN (s.ctxMain c)) * 2 ^ 20 +
     ref % 1000000000 * 2 ^ 32,
   ref / 1000000000 % 2 ^ 48 + bytes.length % 65536 * 2 ^ 48] ++ dataWords 8 bytes.length bytes

/-- Release a side-data unit, or drop it whole and count it where the shared port, isolated or full, has no room (R35, R272, R647). -/
def State.sideUnit (s : State) (c type corr ref : Nat) (bytes : List Byte) (room : Bool) : State :=
  if !s.bit (CTX_CFG_SIDE_EN c) then s
  else
    let beats := s.sideBeats c type corr ref bytes
    if room && s.portLive 1 && s.streamRoom sidePort beats.length then
      (s.modInc (CTX_UNITS_COUNT c)).streamPush sidePort (unitBeats 0 0 beats)
    else s.satInc (CTX_DROP_STREAM_COUNT c) (CTX_DROP_STREAM_OVF c)

/-- The payload of an AF unit (Table BCD-5). -/
def afPayload (hz e kind level : Nat) : List Byte := leBytes 8 (hz % 2 ^ 28 + e % 32 * 2 ^ 32 + kind * 2 ^ 37 + level % 256 * 2 ^ 40)

/-- An AF unit (R638, R639); its reference instant is not stated and free. -/
def State.afUnit (s : State) (c hz e kind level : Nat) : State := s.drawn.sideUnit c 8 0 s.draw (afPayload hz e kind level) true

/-- An instant before now of device time in nanoseconds: `n` ns and the delay of a demodulator, which is free. -/
def State.heardAt (s : State) (n : Nat) : Nat := s.instantBack (n + s.draw)

/-- A time message of reference instant `ref` (R630, R633, R640): dropped and counted where a field is out of range; else released, and given
to the Fix selector by the Fix context. `src` is 1 for RDS CT, 2 for DRM SDC. -/
def State.timeMessage (s : State) (c src ref : Nat) (t : BcdTime) (room : Bool) : State :=
  if t.mjd < 40587 || 23 < t.hour || 59 < t.minute then s.satInc (CTX_DROP_FORMAT_COUNT c) (CTX_DROP_FORMAT_OVF c)
  else
    let sec := (t.mjd - 40587) * 86400 + t.hour * 3600 + t.minute * 60
    let bytes := leBytes 6 sec ++ [BitVec.ofNat 8 src, BitVec.ofNat 8 (unsigned 8 t.halfHours)]
    let s := ((s.sideUnit c 6 0 ref bytes room).event (195 + 4 * c)).emit (.timeMsg c sec 0)
    s.iff (s.get FIX_BCD_CFG_CTX == c) (·.broadcastTime sec 0 ref)

/-! ### Alternative frequencies (R628, R629, R634) -/

/-- Learn a frequency into the first free learned entry, unless the table holds it. -/
def State.afLearn (s : State) (c src hz : Nat) : State :=
  if (List.range 32).any fun e => s.bit (CTX_AFE_VALID c e) && s.get (CTX_AFE_HZ c e) == hz then s
  else
    match (List.range 24).find? fun k => !s.bit (CTX_AFE_VALID c (8 + k)) with
    | none => s
    | some k =>
      ((s.putWord (CTX_AFE c (8 + k)) 0).set (CTX_AFE_VALID c (8 + k))).put (CTX_AFE_SOURCE c (8 + k)) src |>.put (CTX_AFE_HZ c (8 + k)) hz

/-- Clear the learned entries (R628, R634). -/
def State.afForget (s : State) (c : Nat) : State :=
  let s := s.each (List.range 24) fun s k => s.putWord (CTX_AFE c (8 + k)) 0
  let v := s.cx c
  s.putCx c { v with levels := (List.range 24).foldl (fun l k => l.setIfInBounds (8 + k) []) v.levels }

/-- Return to the frequency before the switch and bar the candidate (R639). -/
def State.identFail (s : State) (c : Nat) : State :=
  match (s.cx c).prev with
  | none => s
  | some (hz, e) =>
    let s := s.putCx c { s.cx c with afHz := hz, prev := none }
    let s := ((s.clr (CTX_STATUS_IDENT_WAIT c)).set (CTX_AFE_BAD c e)).event (194 + 4 * c)
    (s.afUnit c (s.ctxWant c) e 3 0).ctxTune c

/-- A passing unit carries identity `id`: two consecutive equal ones make it the context's (R628, R633, R639). -/
def State.identSeen (s : State) (c id : Nat) : State :=
  let v := s.cx c
  let s' := s.putCx c { v with idSeen := some id }
  if v.idSeen ≠ some id then s'
  else
    let held := s.bit (CTX_IDENT_VALID c)
    let same := held && s.get (CTX_IDENT_ID c) == id
    if v.prev.isSome then
      (if same || !held then
        ((s'.putCx c { s'.cx c with prev := none }).clr (CTX_STATUS_IDENT_WAIT c) |>.set (CTX_IDENT_VALID c)).put (CTX_IDENT_ID c) id
      else s'.identFail c)
    else if same then s'
    else ((s'.iff held (·.afForget c)).set (CTX_IDENT_VALID c)).put (CTX_IDENT_ID c) id

/-- The frequency of an RDS AF code, 87.6 MHz + 0.1 MHz × (code − 1). -/
def afCodeHz (code : Nat) : Option Nat := if 1 ≤ code ∧ code ≤ 204 then some (87500000 + 100000 * code) else none

/-- The AF pair of a type 0A group (R629): codes 224 to 249 open a list; 250 announces an LF or MF code, which is ignored;
a pair that holds the list's first code is one of method B, and is learned only where that frequency is in use. -/
def State.afPair (s : State) (c a b : Nat) : State :=
  let v := s.cx c
  let learn (s : State) (code : Nat) : State := match afCodeHz code with
    | some hz => s.afLearn c 1 hz
    | none => s
  if a = 250 then s
  else if 224 ≤ a ∧ a ≤ 249 then
    let s := s.putCx c { v with afHead := some b }
    if a = 225 then learn s b else s
  else
    match v.afHead with
    | some h =>
      if h = a ∨ h = b then (if afCodeHz h = some (s.ctxHz c) then learn s (if h = a then b else a) else s)
      else learn (learn (learn s h) a) b
    | none => learn (learn s a) b

/-! ### Decoded units -/

/-- Offset words A, B, C, C′, D and E (R626, R627; PRESUMED from IEC 62106, log entry 69). -/
def rdsOffsetA : Nat := 0x0FC
def rdsOffsetB : Nat := 0x198
def rdsOffsetC : Nat := 0x168
def rdsOffsetC' : Nat := 0x350
def rdsOffsetD : Nat := 0x1B4
def rdsOffsetE : Nat := 0x000

/-- The check bits of a word are the remainder of its information bits by x^10 + x^8 + x^7 + x^5 + x^4 + x^3 + 1, with an offset word added
(R626; PRESUMED from IEC 62106, log entry 69). -/
def rdsOk (offset w : Nat) : Bool :=
  Nat.xor (crcMsb 10 0x1B9 0 0 (bitsMsbFirst (beBytes 2 (w / 2 ^ 10)))) offset == w % 2 ^ 10

/-- A block read under an offset word: its information bits, and whether a burst of up to two bits was corrected, which `corr` allows. An
erased bit fails it (R626, Table BCD-2). -/
def rdsRead (corr : Bool) (offset : Nat) (b : RdsBlock) : Option (BitVec 16 × Bool) :=
  let w := b.word.toNat
  if b.erased then none
  else if rdsOk offset w then some (BitVec.ofNat 16 (w / 2 ^ 10), false)
  else if !corr then none
  else
    (((List.range 26).map (2 ^ ·) ++ (List.range 25).map (3 * 2 ^ ·)).find? fun e => rdsOk offset (Nat.xor w e)).map fun e =>
      (BitVec.ofNat 16 (Nat.xor w e / 2 ^ 10), true)

/-- The third block of a group, under C or C′ (R626); the last component says which. -/
def rdsReadC (corr : Bool) (b : RdsBlock) : Option ((BitVec 16 × Bool) × Bool) :=
  match rdsRead false rdsOffsetC b, rdsRead false rdsOffsetC' b with
  | some x, _ => some (x, false)
  | none, some x => some (x, true)
  | none, none =>
    match rdsRead corr rdsOffsetC b with
    | some x => some (x, false)
    | none => (rdsRead corr rdsOffsetC' b).map fun x => (x, true)

/-- What a passing group holds: its blocks, whether C′ stood in it, and whether a correction was used. -/
structure RdsGroup where
  a : BitVec 16
  b : BitVec 16
  c : BitVec 16
  d : BitVec 16
  cPrime : Bool
  corrected : Bool
deriving DecidableEq, Repr

/-- All four blocks pass their offset word (Table BCD-2). -/
def rdsGroupOf (corr : Bool) (a b c d : RdsBlock) : Option RdsGroup :=
  match rdsRead corr rdsOffsetA a, rdsRead corr rdsOffsetB b, rdsReadC corr c, rdsRead corr rdsOffsetD d with
  | some x, some y, some z, some w =>
    some { a := x.1, b := y.1, c := z.1.1, d := w.1, cPrime := z.2, corrected := x.2 || y.2 || z.1.2 || w.2 }
  | _, _, _, _ => none

/-- A passing RDS group is interpreted and forwarded (R626 to R631); its reference instant is its first bit, 104 bits at 1,187.5 b/s before its
last. -/
def State.rdsPassed (s : State) (c : Nat) (g : RdsGroup) (room : Bool) : State :=
  let t := g.b.toNat / 4096
  let v := g.b.toNat / 2048 % 2
  let ref := s.heardAt 87578947
  let s := s.drawn
  let s := s.identSeen c g.a.toNat
  let s := s.iff (t == 0 && v == 0) fun s => s.afPair c (g.c.toNat / 256) (g.c.toNat % 256)
  let s := s.iff (t == 3 && v == 0) fun s =>
    let x := s.cx c
    let rest := x.odas.filter fun (o : Nat × Nat) => o.1 != g.b.toNat % 32
    s.putCx c { x with odas := (rest ++ [(g.b.toNat % 32, g.d.toNat)]).drop (rest.length + 1 - 8) }
  let s := s.iff (t == 4 && v == 0) fun s =>
    let half : Int := g.d.toNat % 32
    s.timeMessage c 1 ref { mjd := g.b.toNat % 4 * 32768 + g.c.toNat / 2, hour := g.c.toNat % 2 * 16 + g.d.toNat / 4096,
                            minute := g.d.toNat / 64 % 64, halfHours := if g.d.getLsbD 5 then -half else half } room
  let oda := (s.cx c).odas.find? fun o => o.1 == t * 2 + v
  let pick := bitsOf (s.word (CTX_RDS_FILTER c)) (2 * t + v) 1 == 1 || oda.isSome
  s.iff pick fun s =>
    s.sideUnit c 1 (if g.corrected then 1 else 0) ref (leBytes 2 g.a.toNat ++ leBytes 2 g.b.toNat ++ leBytes 2 g.c.toNat ++ leBytes 2 g.d.toNat ++
      leBytes 8 ((oda.map (·.2)).getD 0 + (if g.cPrime then 2 ^ 16 else 0) + (if oda.isSome then 2 ^ 17 else 0))) room

/-- An RDS group (R626). Blocks with offset word E are discarded uncounted where RBDS is set (R627). -/
def State.rdsGroup (s : State) (c : Nat) (a b c' d : RdsBlock) (room : Bool) : State :=
  if !(s.ctxInput c && s.ctxMode c == 2) then s
  else if s.bit (CTX_CFG_RBDS c) && [a, b, c', d].any fun x => (rdsRead false rdsOffsetE x).isSome then s
  else
    match rdsGroupOf (s.bit (CTX_CFG_RDS_CORR c)) a b c' d with
    | some g => s.rdsPassed c g room
    | none => s.ctxCheckDrop c

/-- SYNC_LEN of a context: 0 stands for 32. -/
def State.syncLen (s : State) (c : Nat) : Nat := if s.get (CTX_CPD_SYNC_LEN c) = 0 then 32 else s.get (CTX_CPD_SYNC_LEN c)

/-- CRC width of a context: 8, 16 or 32. -/
def State.cpdCrcW (s : State) (c : Nat) : Nat := 8 * 2 ^ min 2 (s.get (CTX_CPD_CRC_W c))

/-- The carrier-phase decoder runs. -/
def State.cpdOn (s : State) (c : Nat) : Bool := s.ctxInput c && s.ctxMode c == 1 && s.bit (CTX_CFG_CPD_EN c)

/-- Replace the carrier-phase decoder of a context. -/
def State.putCpd (s : State) (c : Nat) (v : CpdState) : State := s.putCx c { s.cx c with cpd := v }

/-- The samples of the middle half of a bit period. -/
def middleHalf (p : BitPeriod) : BitPeriod := (p.drop (p.length / 4)).take (p.length / 2)

/-- φ_k as a sum and a count: the mean phase error over the middle half (R619). -/
def meanPhase (p : BitPeriod) : Int × Nat := ((middleHalf p).foldl (fun a x => a + x.1) 0, (middleHalf p).length)

/-- An angle of `den` parts of 1/65,536 turn, wrapped to ±180° (R619). -/
def wrapAngle (num : Int) (den : Nat) : Int :=
  let turn : Int := 65536 * den
  let r := num % turn
  if 2 * r ≤ turn then r else r - turn

/-- b_k from φ_(k−1), φ_k and DEV in degrees: 1 where |Δ_k| ≥ 1.25 × DEV, 0 where |Δ_k| ≤ 0.75 × DEV, else erased (R619). -/
def decideBit (dev : Nat) (p q : Int × Nat) : Option Bool :=
  let den := p.2 * q.2
  let d := (wrapAngle (q.1 * p.2 - p.1 * q.2) den).natAbs * 360 * 4
  if den = 0 then none
  else if 5 * dev * 65536 * den ≤ d then some true
  else if d ≤ 3 * dev * 65536 * den then some false
  else none

/-- Bits that differ from the sync word, an erased bit counting as a difference (R621); `bits` newest first, the sync's last bit its lowest. -/
def syncDiff (word : Word) (len : Nat) (bits : List (Option Bool)) : Nat :=
  (List.range len).countP fun i => bits.getD i none != some (word.getLsbD i)

/-- A byte of eight bits, most significant first; an erased bit counts as 0. -/
def byteOfBits (bs : List (Option Bool)) : Nat := bs.foldl (fun n b => 2 * n + if b = some true then 1 else 0) 0

/-- `n` bytes of a bit sequence. -/
def bytesOfBits : Nat → List (Option Bool) → List Byte
  | 0, _ => []
  | n + 1, bs => BitVec.ofNat 8 (byteOfBits (bs.take 8)) :: bytesOfBits n (bs.drop 8)

/-- PAYLOAD_BYTES, 1 to 32. -/
def State.cpdBytes (s : State) (c : Nat) : Nat := clampNat 1 32 (s.get (CTX_CPD_PAYLOAD_BYTES c))

/-- A carrier-phase frame has had its last bit: no erased bit, and its CRC decides (R614, R622, R624). The hunt goes on from the next bit
(R623). -/
def State.cpdFrame (s : State) (c : Nat) (bits : List (Option Bool)) (room : Bool) : State :=
  let w := s.cpdCrcW c
  let payload := bytesOfBits (s.cpdBytes c) bits
  let crc := byteOfBits (bits.drop (8 * s.cpdBytes c))
  let want := crcMsb w (s.word (CTX_CPD_POLY c)).toNat (s.word (CTX_CPD_INIT c)).toNat (s.word (CTX_CPD_XOR c)).toNat
    (bitsMsbFirst payload)
  let ref := ((s.cx c).cpd.ref).1 * 1000000000 + ((s.cx c).cpd.ref).2
  let s := (s.clr (CTX_STATUS_CPD_SYNC c)).putCpd c { (s.cx c).cpd with frame := none, bits := [] }
  if bits.contains none || want != crc then s.ctxCheckDrop c else s.sideUnit c 2 0 ref payload room

/-- A sync is detected (R621, R623, R624): a frame starts, its reference instant the start of its first sync bit; a cleaner sync inside a frame
drops that frame. -/
def State.cpdSync (s : State) (c diffs : Nat) : State :=
  let busy := s.bit (CTX_STATUS_CPD_SYNC c)
  if s.get (CTX_CPD_SYNC_ERR c) < diffs || (busy && !(diffs == 0 && (s.cx c).syncDiffs != 0)) then s
  else
    let ref := s.heardAt (s.syncLen c * 1000000000 / clampNat 25 200 (s.get (CTX_CPD_BIT_RATE c)))
    let s := (s.drawn.iff busy (·.ctxCheckDrop c)).set (CTX_STATUS_CPD_SYNC c)
    s.putCx c { s.cx c with syncDiffs := diffs, cpd := { (s.cx c).cpd with frame := some [], ref := (ref / 1000000000, ref % 1000000000) } }

/-- A decoded bit: it joins the frame being read, which its last bit ends, and the hunt for a sync. -/
def State.cpdBit (s : State) (c : Nat) (b : Option Bool) (room : Bool) : State :=
  let v := (s.cx c).cpd
  let frame := v.frame.map (· ++ [b])
  let bits := (b :: v.bits).take 32
  let s := s.putCpd c { v with frame := frame, bits := bits }
  let whole := match frame with
    | some f => decide (8 * s.cpdBytes c + s.cpdCrcW c ≤ f.length)
    | none => false
  if whole then s.cpdFrame c (frame.getD []) room
  else if bits.length < s.syncLen c then s
  else s.cpdSync c (syncDiff (s.word (CTX_CPD_SYNC c)) (s.syncLen c) bits)

/-- A bit period of the carrier-phase signal ends (R614, R619, R620): its bit is erased where more than a quarter of its samples are blanked or
the carrier lock is absent; bits count once bit lock has come, after 64 periods. -/
def State.cpdPeriod (s : State) (c : Nat) (room : Bool) (p : BitPeriod) : State :=
  if !s.cpdOn c then s
  else
    let v := (s.cx c).cpd
    let phi := meanPhase p
    let lost := mostlyBlanked ((middleHalf p).map (·.2)) || !s.bit (CTX_STATUS_LOCK c)
    let b := match v.phi with
      | some old => if lost then none else decideBit (clampNat 4 90 (s.get (CTX_CPD_DEV c))) old phi
      | none => none
    let s := s.putCpd c { v with periods := v.periods + 1, phi := some phi }
    s.iff (decide (64 ≤ v.periods)) (·.cpdBit c b room)

/-- Bit periods up to the end of a sync. -/
def State.cpdHunt (s : State) (c : Nat) : List BitPeriod → State
  | [] => s
  | p :: ps =>
    let t := s.cpdPeriod c true p
    if (t.cx c).cpd.frame == some [] then t else t.cpdHunt c ps

/-- Bit periods up to the end of the frame being read. -/
def State.cpdRead (s : State) (c : Nat) (room : Bool) : List BitPeriod → State
  | [] => s
  | p :: ps =>
    let t := s.cpdPeriod c room p
    if (s.cx c).cpd.frame.isSome && (t.cx c).cpd.frame.isNone then t else t.cpdRead c room ps

/-- The samples of a unit of the main DDC pass blanker and gain control; those marked UNSETTLED are discarded (R611 to R613). -/
def State.ctxSamples (s : State) (c : Nat) (words : List (BitVec 64)) : State :=
  let settled := words.filter fun w => !w.getLsbD 24
  let xs := settled.map fun w =>
    ({ i := signed 24 (w.toNat % 2 ^ 24), q := signed 24 (w.toNat / 2 ^ 32 % 2 ^ 24), flagged := w.getLsbD 25 || w.getLsbD 26 } : IqIn)
  let ms := 1000000 / max 1 (decD (s.dd (s.ctxMain c)).dec)
  let k := s.get (CTX_BLANK_BLANK_K c)
  let r := (s.cx c).blank.run (if 0 < k ∧ k < 8 then 8 else k) (s.get (CTX_BLANK_BLANK_LEN c)) ms false xs
  s.putCx c { s.cx c with blank := r.1 }

/-- The units of the last second, newest first: as many as 10^9 input samples hold, and the newest always. -/
def lastSecond : Nat → List (Nat × Nat) → List (Nat × Nat)
  | _, [] => []
  | n, u :: us => u :: (if u.2 ≤ n then lastSecond (n - u.2) us else [])

/-- A unit of the main DDC counts for the level of the frequency in use (R637). -/
def State.ctxUsed (s : State) (c : Nat) : State :=
  let v := s.dd (s.ctxMain c)
  s.putCx c { s.cx c with used := lastSecond 1000000000 ((v.unitPower, v.words.length * v.step) :: (s.cx c).used) }

/-- Twice the gain of a DDC in −0.5 dB steps: of the dump in SCS mode, of CIC and FIR otherwise (R573, R574, R583, R637). -/
def State.ddcGainSteps (s : State) (d : Nat) : Int :=
  let v := s.dd d
  if cfgScs v.cfg then gainSteps v.step (2 ^ ceilLog2 v.step)
  else
    let n := bitsOf v.dec 0 15
    gainSteps (n ^ 5 * (sumOver (s.get (DDC_STATUS_TAPS d)) (s.activeCoef d)).natAbs) (2 ^ ceilLog2 (n ^ 5) * 2 ^ 17)

/-- The level of the frequency in use, as a sum and a count of −0.5 dB steps: the mean POWER of the main DDC's units over the last second, corrected
for the gain (R637). -/
def State.useLevel (s : State) (c : Nat) : Int × Nat :=
  let us := (s.cx c).used
  (((us.map (·.1)).sum : Nat) + s.ddcGainSteps (s.ctxMain c) * us.length, us.length)

/-- The level of a scanned unit: its POWER corrected for the SCS gain (R637). -/
def State.unitLevel (s : State) (d : Nat) : Nat := (((s.dd d).unitPower : Int) + s.ddcGainSteps d).toNat

/-- A DRM context decodes. -/
def State.drmOn (s : State) (c : Nat) : Bool := s.ctxInput c && s.ctxMode c == 3 && s.bit (CTX_STATUS_LOCK c)

/-- A DRM FAC block (R632, R633). -/
def State.drmFac (s : State) (c : Nat) (bits : List Byte) (service : Nat) (crcOk room : Bool) : State :=
  if !s.drmOn c then s
  else if !crcOk then s.ctxCheckDrop c
  else
    let ref := s.draw
    (s.drawn.identSeen c service).sideUnit c 3 0 ref bits room

/-- A DRM SDC block with its time (type 8) and alternative frequencies (type 3); the reference instant of the time is the first sample of the
super frame, which lies a free time back (R633). -/
def State.drmSdc (s : State) (c : Nat) (bytes : List Byte) (crcOk : Bool) (time : Option BcdTime) (afHz : List Nat) (room : Bool) : State :=
  if !s.drmOn c then s
  else if !crcOk then s.ctxCheckDrop c
  else
    let s := s.each afHz fun s hz => s.afLearn c 2 (hz % 2 ^ 28)
    let ref := s.heardAt 0
    let s := s.drawn
    let s := match time with
      | some t => s.timeMessage c 2 ref t room
      | none => s
    s.sideUnit c 4 0 ref bytes room

/-- A DRM MSC multiplex frame: its FAC passed and at most 1 % of its cells are erased (Table BCD-2). -/
def State.drmMsc (s : State) (c : Nat) (bytes : List Byte) (facOk : Bool) (erasedTenths : Nat) (room : Bool) : State :=
  if !s.drmOn c then s
  else if !facOk || decide (10 < erasedTenths) then s.ctxCheckDrop c
  else s.drawn.sideUnit c 5 0 s.draw bytes room

/-- DATA of beat `k` of an audio unit: left or mono in [15:0], right in [31:16], mono duplicated; the detector's samples are free, zero where the
unit is muted, and in a blanked unit some of them are zero (R615, R617, R648). -/
def State.audioWord (s : State) (c : Nat) (blanked muted : Bool) (k : Nat) : Nat :=
  let l := s.pick (3 * k) % 65536
  let r := if s.bit (CTX_STATUS_STEREO c) then s.pick (3 * k + 1) % 65536 else l
  if muted || (blanked && s.pick (3 * k + 2) % 2 == 1) then 0 else l + r * 65536

/-- A 10 ms audio unit (R648): zeros and MUTED without lock or input; nothing in DRM mode. -/
def State.audioUnit (s : State) (c : Nat) (blanked room : Bool) : State :=
  if !(s.ctxOn c && (s.ctxMode c == 1 || s.ctxMode c == 2) && s.bit (CTX_CFG_AUDIO_EN c)) then s
  else
    let muted := !(s.ctxInput c && s.bit (CTX_STATUS_LOCK c))
    let user := s.heardAt 9979166 % 1000000000 + (if blanked then 2 ^ 32 else 0) + s.get (CTX_STATUS_STEREO c) * 2 ^ 33 + (if muted then 2 ^ 34 else 0)
    let words := (List.range 480).map (s.drawn.audioWord c blanked muted)
    let s := s.drawn.picked 1440
    if room && s.portLive 1 && s.streamRoom (audioPort c) 480 then s.streamPush (audioPort c) (unitBeats user 0 words)
    else s.satInc (CTX_DROP_STREAM_COUNT c) (CTX_DROP_STREAM_OVF c)

/-! ### Locks -/

/-- AM carrier lock (R616). -/
def State.carrierLock (s : State) (c : Nat) (b : Bool) : State := s.iff (s.ctxInput c && s.ctxMode c == 1) (·.putLock c b)

/-- FM lock, with the stereo pilot (R625). -/
def State.fmLock (s : State) (c : Nat) (b stereo : Bool) : State :=
  s.iff (s.ctxInput c && s.ctxMode c == 2) fun s =>
    (s.putLock c b).putB (CTX_STATUS_STEREO c) (b && stereo && s.bit (CTX_CFG_STEREO_EN c))

/-- DRM mode detection and frame lock (R632): a forced mode takes no other. -/
def State.drmLock (s : State) (c mode : Nat) (b : Bool) : State :=
  let want := s.get (CTX_CFG_DRM_MODE c)
  if !(s.ctxInput c && s.ctxMode c == 3) || (b && (mode == 0 || (want != 0 && want != mode))) then s
  else (s.put (CTX_STATUS_DRM_DET c) (if b then mode else 0)).putLock c b

/-! ### Scanning (R635 to R639) -/

/-- AF entries that may be measured: valid and not BAD. -/
def State.afUsable (s : State) (c : Nat) : List Nat :=
  (List.range 32).filter fun e => s.bit (CTX_AFE_VALID c e) && !s.bit (CTX_AFE_BAD c e)

/-- DDC `d` scans: in SCAN_MASK, owned, in SCS mode, the MAIN of no context (R635, R651). -/
def State.scanDdc (s : State) (d : Nat) : Bool :=
  s.bit BCD_CFG_EN && bitsOf (s.word BCD_CFG) (16 + d) 1 == 1 && s.bit (DDC_CFG_OWNER d) && s.bit (DDC_CFG_SCS d) &&
  !((List.range 4).any fun c => s.ctxOn c && s.ctxMain c == d)

/-- A scan DDC takes the hop list of a context: its first 16 usable entries, DWELL = SCAN_DWELL, once. -/
def State.scanProgram (s : State) (d c : Nat) : State :=
  let es := (s.afUsable c).take 16
  if es.isEmpty then s
  else
    let s := s.each (es.zip (List.range 16)) fun s (p : Nat × Nat) =>
      s.putWord (DDC_HOP d p.2) (BitVec.ofNat 32 (hzFw (s.get (CTX_AFE_HZ c p.1))))
    let s := (s.set (DDC_HOP_CFG_ONCE d)).put (DDC_HOP_CFG_COUNT d) (es.length - 1)
    let s := s.put (DDC_HOP_CFG_DWELL d) (max 1 (s.get BCD_CFG_SCAN_DWELL))
    let s := s.iff (decD (s.word (DDC_DEC d)) != s.ownedD c) fun s => ((s.ownedFilter d c).retune d false)
    (s.withScan (s.scan.filter (fun (p : Nat × Nat) => p.1 != d) ++ [(d, c)])).withGen d (·.hopStart d)

/-- The next context that scans after `c`, round robin (R635). -/
def State.scanNext (s : State) (c : Nat) : Option Nat :=
  ((List.range 4).map fun k => (c + 1 + k) % 4).find? fun k => s.ctxOn k && s.bit (CTX_CFG_SCAN_EN k) && !(s.afUsable k).isEmpty

/-- Free scan DDCs take up work; DDCs that no longer meet R635 leave it. -/
def State.scanAssign (s : State) : State :=
  let s := s.withScan (s.scan.filter fun (p : Nat × Nat) => s.scanDdc p.1)
  s.each (List.range 8) fun s d =>
    if s.scanDdc d && s.ddcRunning d && !(s.scan.any fun (p : Nat × Nat) => p.1 == d) then
      match s.scanNext ((s.scan.getLast?.map fun (p : Nat × Nat) => p.2).getD 3) with
      | some c => s.scanProgram d c
      | none => s
    else s

/-- Accept a level of an AF entry (R637); a flood discards it (R645). -/
def State.scanLevel (s : State) (c e level : Nat) : State :=
  if s.bit (CTX_STATUS_FLOOD c) || !(s.afUsable c).contains e then s
  else
    let v := s.cx c
    s.putCx c { v with levels := v.levels.setIfInBounds e ((level :: v.levels[e]?.getD []).take 4) }

/-- The smoothed level of an entry as a sum and a count; lower is stronger. -/
def BcdCtx.smooth (v : BcdCtx) (e : Nat) : Nat × Nat := ((v.levels[e]?.getD []).sum, (v.levels[e]?.getD []).length)

/-- The candidate with the highest smoothed level (R638). -/
def State.bestAf (s : State) (c : Nat) : Option Nat :=
  let v := s.cx c
  ((s.afUsable c).filter fun e => (v.smooth e).2 != 0 && s.get (CTX_AFE_HZ c e) != s.ctxHz c).foldl (fun b e =>
    match b with
    | none => some e
    | some x => if (v.smooth e).1 * (v.smooth x).2 < (v.smooth x).1 * (v.smooth e).2 then some e else b) none

/-- Propose an entry, or with AF_AUTO and an owned main DDC switch to it (R638, R639). -/
def State.afPropose (s : State) (c e : Nat) : State :=
  let v := s.cx c
  let hz := s.get (CTX_AFE_HZ c e)
  let level := (v.smooth e).1 / max 1 (v.smooth e).2
  let s := (s.putCx c { v with above := none }).event (194 + 4 * c)
  if s.bit (CTX_CFG_AF_AUTO c) && s.bit (DDC_CFG_OWNER (s.ctxMain c)) then
    let ident := s.ctxMode c != 1
    let s := s.satInc (CTX_AF_SWITCHES_COUNT c) (CTX_AF_SWITCHES_OVF c)
    let s := s.putCx c { s.cx c with afHz := some hz, prev := if ident then some (v.afHz, e) else none }
    ((s.putB (CTX_STATUS_IDENT_WAIT c) ident).afUnit c hz e 1 level).ctxTune c
  else (s.putWord (CTX_AF_PROPOSED c) (BitVec.ofNat 32 hz)).afUnit c hz e 2 level

/-- A scan cycle has ended: the margin test of R638. -/
def State.scanJudge (s : State) (c : Nat) : State :=
  let v := s.cx c
  let use := s.useLevel c
  let s := s.event 209
  if s.bit (CTX_STATUS_FLOOD c) || v.prev.isSome then s
  else
    match s.bestAf c with
    | none => s.putCx c { v with above := none }
    | some e =>
      let m := v.smooth e
      if use.2 ≠ 0 ∧ ((m.1 + s.get (CTX_AF_AF_MARGIN c) * m.2) * use.2 : Nat) ≤ use.1 * m.2 then
        let n := match v.above with
          | some (x, k) => if x = e then k + 1 else 1
          | none => 1
        if 3 ≤ n then s.afPropose c e else s.putCx c { v with above := some (e, n) }
      else s.putCx c { v with above := none }

/-- SCAN_CYCLE: a scan DDC has run its hop list for the context; the judgement, then the next cycle's hop list. -/
def State.scanCycle (s : State) (c : Nat) : State :=
  if !(s.ctxOn c && s.bit (CTX_CFG_SCAN_EN c)) then s
  else
    match s.scan.find? fun (p : Nat × Nat) => p.2 == c && !s.bit (DDC_STATUS_HOPPING p.1) with
    | some (d, _) =>
      let s := s.scanJudge c
      match s.scanNext c with
      | some k => s.scanProgram d k
      | none => s.withScan (s.scan.filter fun (p : Nat × Nat) => p.1 != d)
    | none => s

/-- The context that scan DDC `d` serves (R635). -/
def State.scanOf (s : State) (d : Nat) : Option Nat := (s.scan.find? fun (p : Nat × Nat) => p.1 == d).map (·.2)

/-- The context that DDC `d` measures for as an auxiliary DDC (R636). -/
def State.auxOf (s : State) (d : Nat) : Option Nat :=
  let v := s.dd d
  let c := bitsOf v.cfg 26 2
  if bitsOf v.cfg 29 1 == 1 && s.ctxMain c != d && !s.scanDdc d && cfgScs v.cfg then some c else none

/-- A unit of a scan DDC or of an auxiliary DDC gives a level to the entry of its tuned frequency, unless one of its samples is clipped (R635 to
R637). -/
def State.levelUnit (s : State) (d : Nat) : State :=
  let v := s.dd d
  match (s.scanOf d).or (s.auxOf d) with
  | some c =>
    if v.unitSat || v.unitClip || !s.ddcRunning d then s
    else
      match (s.afUsable c).find? fun e => s.get (CTX_AFE_HZ c e) == fwHz v.fw with
      | some e => s.scanLevel c e (s.unitLevel d)
      | none => s
  | none => s

/-- LOSS_MS without lock (R638, R645). -/
def State.afLoss (s : State) (c : Nat) : State :=
  if !s.ctxOn c || s.bit (CTX_STATUS_LOCK c) || s.bit (CTX_STATUS_FLOOD c) || (s.cx c).prev.isSome then s
  else
    match s.bestAf c with
    | some e => s.afPropose c e
    | none => s

/-- PI_WAIT_MS without the identity (R639); from the drain on nothing of it is released (R659). -/
def State.identTimeout (s : State) (c : Nat) : State := s.iff (s.radioOn && s.bit (CTX_STATUS_IDENT_WAIT c)) (·.identFail c)

/-- A BAD mark ends after 60 s. -/
def State.afBadExpiry (s : State) (c e : Nat) : State := s.clr (CTX_AFE_BAD c e)

/-- A live write of CTX_FREQ wins over an alternative frequency (R653). -/
def State.ctxFreqWritten (s : State) (c : Nat) : State :=
  ((s.putCx c { s.cx c with afHz := none, prev := none }).clr (CTX_STATUS_IDENT_WAIT c)).ctxTune c

/-! ### Flood and carrier (R641 to R645, R654 to R656) -/

/-- A 10 ms window of a context ends (R643): a flood is declared, or held on. Without input no condition holds. -/
def State.ctxFloodWindow (s : State) (c samples blanked power : Nat) : State :=
  let v := s.cx c
  let r := v.flood.window (s.get (CTX_FLOOD_FLOOD_IMP c)) (s.get (CTX_FLOOD_FLOOD_DB c)) samples blanked power
  if !s.ctxOn c then s
  else if !s.ctxInput c then s.putCx c { v with flood := { v.flood with calm := v.flood.calm + 1 } }
  else
    let s := s.putCx c { v with flood := r.2, ivalBad := v.ivalBad || r.1 }
    s.iff r.1 fun s =>
      let s := s.iff (s.get FIX_BCD_CFG_CTX == c) (·.sourceInvalid 4)
      s.iff (!s.bit (CTX_STATUS_FLOOD c)) fun s =>
        ((s.set (CTX_STATUS_FLOOD c)).set (CTX_STATUS_FLOOD_SEEN c)).satInc (CTX_FLOODS_COUNT c) (CTX_FLOODS_OVF c) |>.event (193 + 4 * c)

/-- FLOOD_HOLD_S without a condition (R644). -/
def State.ctxFloodClear (s : State) (c : Nat) : State :=
  s.iff (s.bit (CTX_STATUS_FLOOD c) && (s.cx c).flood.over (s.get (CTX_FLOOD_FLOOD_HOLD_S c))) fun s => (s.clr (CTX_STATUS_FLOOD c)).event (193 + 4 * c)

/-- ε in 2^−40 from the offset that the context measured, in 2^−32 Hz: the exact frequency in use plus the offset against f_nom (R641); the
rounding is open. -/
def State.carrierEps (s : State) (c : Nat) (offset : Int) : Int :=
  let d := s.ctxMain c
  let fNom := if s.bit (DDC_CFG_OWNER d) then (s.word (CTX_FREQ c)).toNat else s.ctxHz c
  let num := (((s.dd d).fw * 1000000000 : Nat) + offset - (fNom * 2 ^ 32 : Nat)) * 256
  let q := num / (fNom : Int)
  if num % (fNom : Int) = 0 || !Config.roundUp num 0 then q else q + 1

/-- A carrier interval of the Fix context ends: it counts only with lock held throughout, no retune, no flood, and at most 1 % of its samples
blanked (R641, R642). -/
def State.carrierInterval (s : State) (c : Nat) (offset : Int) (samples blanked : Nat) : State :=
  if !(s.ctxInput c && s.get FIX_BCD_CFG_CTX == c) then s
  else
    let v := s.cx c
    let good := s.bit (CTX_STATUS_LOCK c) && !s.bit (CTX_STATUS_FLOOD c) && !v.ivalBad && decide (100 * blanked ≤ samples)
    let e := clampInt (-sigmaMax) sigmaMax (s.carrierEps c offset)
    let s := s.putCx c { v with ivalBad := !s.bit (CTX_STATUS_LOCK c) || s.bit (CTX_STATUS_FLOOD c) }
    s.iff good fun s =>
      ((s.drawn.put (CTX_LAST_EPS_EPS c) (unsigned 32 e)).event 208).sideUnit c 7 0 s.draw
        (leBytes 8 (unsigned 32 e + s.get (CTX_CARRIER_CARRIER_S c) % 16 * 2 ^ 32)) true

/-- A write of FIX_BCD_CFG ends every interval without a measurement (R656). -/
def State.fixCtxWritten (s : State) : State := s.each (List.range 4) fun s c => s.putCx c { s.cx c with ivalBad := true }

/-- The check of a context table word (R657). -/
def State.ctxCheck (s : State) (c addr : Nat) (double : Bool) : State :=
  if double then (((s.ctxRestart c).set (CTX_STATUS_DBE c)).event 211).report 35 c addr else s.report 34 c addr

/-! ### Registers that follow the state, start, mute and Watch state -/

/-- Bring NO_INPUT, RUN, SCAN_USED and CTX_FREQ_USE up to date (R608, R609, R650); NO_INPUT raises line 212 as it sets. -/
def State.bcdRefresh (s : State) : State :=
  let s := s.each (List.range 4) fun s c =>
    let none_ := s.ctxOn c && !s.ctxInput c
    let s := s.iff (none_ && !s.bit (CTX_STATUS_NO_INPUT c)) (·.event 212)
    let s := (s.putB (CTX_STATUS_NO_INPUT c) none_).putB ⟨BCD_STATUS, c, 1⟩ (s.ctxInput c)
    s.iff (s.ctxOn c) fun s => s.putWord (CTX_FREQ_USE c) (BitVec.ofNat 32 (s.ctxHz c))
  s.each (List.range 8) fun s d => s.putB ⟨BCD_STATUS, 16 + d, 1⟩ (s.radioOn && s.scanDdc d)

/-- The contexts start with the radio domain (R658). -/
def State.bcdStart (s : State) : State :=
  let s := (s.withCtx (Vector.replicate 4 BcdCtx.fresh)).withScan []
  s.each (List.range 4) fun s c => ((s.putWord (CTX_STATUS c) 0).afForget c).ctxTune c

/-- The SPLL mutes: each context restarts as under R611. -/
def State.bcdMute (s : State) : State := s.each (List.range 4) fun s c => s.iff (s.ctxOn c) (·.ctxRestart c)

/-- The drain: units in progress are withheld whole (R659, Table PWR-3). -/
def State.bcdDrain (s : State) : State :=
  s.each (List.range 4) fun s c => (s.clr (CTX_STATUS_CPD_SYNC c)).putCpd c CpdState.fresh

/-- Retention: lock, identity, flood state, smoothed levels and BAD marks are lost; the AF table is kept (R659). -/
def State.bcdRetention (s : State) : State :=
  s.each (List.range 4) fun s c =>
    let s := (s.putWord (CTX_STATUS c) (s.word (CTX_STATUS c) &&& 0xF)).putWord (CTX_IDENT c) 0
    let s := s.each (List.range 32) fun s e => s.clr (CTX_AFE_BAD c e)
    s.putCx c { BcdCtx.fresh with odas := (s.cx c).odas }

/-- After wake each context restarts as at start-up (R659). -/
def State.bcdResume (s : State) : State := s.each (List.range 4) fun s c => s.ctxTune c

end Sys2Proof.Machine
end

