-- ==== Sys2Proof/Machine/Line.lean ====
section
/-!
DEFINITION. What a lane puts on its line: 8b/10b code groups with their running disparity, 64b/66b blocks with their scrambler, the
training word, the framing of a Bearing frame, and the PRBS sequences (R405, R412, R429, R430). The code tables themselves are IEEE
802.3's (PRESUMED, log entry 67: the spec names the codings and prints no table).
-/
namespace Sys2Proof.Machine

/-! ### 8b/10b -/

/-- Characters of the 8b/10b code: a data byte, or one of the control characters that the part sends. -/
inductive LineChar where
  | data (b : Byte)
  | k285 | k277 | k297 | k307
deriving DecidableEq, Repr

/-- Sub-block abcdei of D.x at negative running disparity, a in bit 5. -/
def sixTable : List (BitVec 6) := [
  0b100111, 0b011101, 0b101101, 0b110001, 0b110101, 0b101001, 0b011001, 0b111000,
  0b111001, 0b100101, 0b010101, 0b110100, 0b001101, 0b101100, 0b011100, 0b010111,
  0b011011, 0b100011, 0b010011, 0b110010, 0b001011, 0b101010, 0b011010, 0b111010,
  0b110011, 0b100110, 0b010110, 0b110110, 0b001110, 0b101110, 0b011110, 0b101011]

/-- Sub-block fghj of D.x.y at negative running disparity, f in bit 3; y = 7 in its primary form. -/
def fourTable : List (BitVec 4) := [0b1011, 0b1001, 0b0101, 0b1100, 0b1101, 0b1010, 0b0110, 0b1110]

/-- Ones in a bit string. -/
def onesIn {w : Nat} (v : BitVec w) : Nat := (List.range w).foldl (fun n i => if v.getLsbD i then n + 1 else n) 0

/-- The running disparity, true for positive, after a sub-block: it changes where ones and zeros are not equal in number. -/
def disparityAfter {w : Nat} (rd : Bool) (v : BitVec w) : Bool := if 2 * onesIn v = w then rd else !rd

/-- The six bits of D.x: complemented at positive disparity where they are not balanced, and for D.7. -/
def sixBits (rd : Bool) (x : Nat) : BitVec 6 :=
  let v := sixTable.getD x 0
  if rd && (2 * onesIn v != 6 || x == 7) then ~~~v else v

/-- The four bits of D.x.y; `rd` is the disparity after the six bits. The alternate form of y = 7 keeps five equal bits out of the line. -/
def fourBits (rd : Bool) (x y : Nat) : BitVec 4 :=
  let alt := y == 7 && (if rd then [11, 13, 14].contains x else [17, 18, 20].contains x)
  let v : BitVec 4 := if alt then 0b0111 else fourTable.getD y 0
  if rd && (2 * onesIn v != 4 || y == 3) then ~~~v else v

/-- The code group of a control character at negative disparity, a in bit 9. -/
def controlGroup : LineChar → BitVec 10
  | .k285 => 0b0011111010
  | .k277 => 0b1101101000
  | .k297 => 0b1011101000
  | .k307 => 0b0111101000
  | .data _ => 0

/-- The code group of a character, a in bit 9, and the disparity after it. -/
def codeGroup (rd : Bool) (c : LineChar) : BitVec 10 × Bool :=
  match c with
  | .data b =>
    let six := sixBits rd (b.toNat % 32)
    let mid := disparityAfter rd six
    let four := fourBits mid (b.toNat % 32) (b.toNat / 32)
    (six ++ four, disparityAfter mid four)
  | k =>
    let v := if rd then ~~~(controlGroup k) else controlGroup k
    (v, disparityAfter rd v)

/-- Characters as they are sent, with the disparity at the end. -/
def codeGroups (rd : Bool) : List LineChar → List (BitVec 10) × Bool
  | [] => ([], rd)
  | c :: cs =>
    let g := codeGroup rd c
    let r := codeGroups g.2 cs
    (g.1 :: r.1, r.2)

/-- A Bearing frame at 5.0 Gb/s and below: K27.7, the frame bytes, K29.7, and the idle pair K28.5 D16.2 that keeps it from the next
(R429). -/
def frameChars (frame : List Byte) : List LineChar := .k277 :: frame.map .data ++ [.k297, .k285, .data 0x50]

/-- A training word (Table LNK-4): K28.5, 0xB1, CAP and CMD. -/
def trainingChars (cap cmd : Byte) : List LineChar := [.k285, .data 0xB1, .data cap, .data cmd]

/-- CMD of a training word (Table LNK-4). -/
def trainingCmd (rate : Nat) (ack fail settle : Bool) : Byte :=
  BitVec.ofNat 8 (rate % 8 + (if ack then 8 else 0) + (if fail then 16 else 0) + (if settle then 32 else 0))

/-! ### 64b/66b -/

/-- A block before scrambling: sync header 01 for data or 10 for control, and 64 payload bits, the first byte in [7:0]. -/
structure LineBlock where
  control : Bool
  payload : BitVec 64
deriving DecidableEq, Repr

/-- The payload of up to eight bytes, the first in [7:0]. -/
def blockPayload (bs : List Byte) : BitVec 64 := BitVec.ofNat 64 (leNat (bs.take 8))

/-- Block type of the terminate block that carries `n` bytes. -/
def terminateType (n : Nat) : Byte := [0x87, 0x99, 0xAA, 0xB4, 0xCC, 0xD2, 0xE1, 0xFF].getD n 0x87

/-- Data blocks, then the terminate block that fits the remainder; `fuel` bounds them. -/
def laterBlocks : Nat → List Byte → List LineBlock
  | 0, _ => []
  | f + 1, bs =>
    if bs.length < 8 then [{ control := true, payload := blockPayload (terminateType bs.length :: bs) }]
    else { control := false, payload := blockPayload bs } :: laterBlocks f (bs.drop 8)

/-- The idle block: type 0x1E, idle control characters. -/
def idleBlock : LineBlock := { control := true, payload := 0x1E }

/-- A Bearing frame at 10.3125 Gb/s and above: a start block of type 0x78 with the first seven bytes, data blocks, the terminate block,
and the idle block that keeps it from the next (R430). -/
def frameBlocks (frame : List Byte) : List LineBlock :=
  { control := true, payload := blockPayload (0x78 :: frame.take 7) } :: laterBlocks frame.length (frame.drop 7) ++ [idleBlock]

/-- The self-synchronising scrambler 1 + x^39 + x^58 over `n` bits of `v`, from bit `i` up; the state holds the last 58 bits sent, the
newest in bit 0. -/
def scrambleBits (v : BitVec 64) (st : BitVec 58) (i : Nat) : Nat → BitVec 64 × BitVec 58
  | 0 => (0, st)
  | n + 1 =>
    let b := v.getLsbD i != (st.getLsbD 38 != st.getLsbD 57)
    let r := scrambleBits v ((st <<< 1) ||| (if b then 1#58 else 0#58)) (i + 1) n
    (r.1 ||| (if b then 1#64 <<< i else 0#64), r.2)

/-- A block as it is sent, the bit sent first in bit 0: the sync header, then the scrambled payload. -/
def sentBlock (st : BitVec 58) (b : LineBlock) : BitVec 66 × BitVec 58 :=
  let r := scrambleBits b.payload st 0 64
  (r.1 ++ (if b.control then 0b01#2 else 0b10#2), r.2)

/-- Blocks as they are sent, with the scrambler's state at the end. -/
def sentBlocks (st : BitVec 58) : List LineBlock → List (BitVec 66) × BitVec 58
  | [] => ([], st)
  | b :: bs =>
    let g := sentBlock st b
    let r := sentBlocks g.2 bs
    (g.1 :: r.1, r.2)

/-! ### PRBS (R412) -/

/-- The two taps of a sequence's polynomial by GEN_POLY: PRBS7, PRBS15, PRBS23, PRBS31. -/
def prbsTaps (poly : Nat) : Nat × Nat := [(7, 6), (15, 14), (23, 18), (31, 28)].getD poly (31, 28)

/-- `n` bits of a sequence with the generator's state after them; the state holds the last 31 bits, the newest in bit 0. -/
def prbsBits (poly : Nat) (st : BitVec 31) : Nat → List Bool × BitVec 31
  | 0 => ([], st)
  | n + 1 =>
    let t := prbsTaps poly
    let b := st.getLsbD (t.1 - 1) != st.getLsbD (t.2 - 1)
    let r := prbsBits poly ((st <<< 1) ||| (if b then 1#31 else 0#31)) n
    (b :: r.1, r.2)

end Sys2Proof.Machine
end

