-- ==== Sys2Proof/Machine/Lnk.lean ====
section
/-!
DEFINITION. The serial lanes: Ethernet frames and timestamps, PRBS and eye scan, the bring-up of a Bearing lane, loss of
signal (R384 to R423).
-/
namespace Sys2Proof.Machine

/-- The hidden state of lane `n`. -/
def State.lane (s : State) (n : Nat) : LnkLane := s.lnk[n]?.getD LnkLane.idle

/-- Replace the hidden state of lane `n`. -/
def State.putLane (s : State) (n : Nat) (v : LnkLane) : State := s.withLnk (s.lnk.setIfInBounds n v)

/-- The LPLL of a lane: 8 for groups 0 and 1, 9 for groups 2 and 3 (Table LNK-1). -/
def lanePll (n : Nat) : Nat := 8 + n / 12

/-- MODE of a lane (Table LNK-2). -/
def State.laneMode (s : State) (n : Nat) : Nat := s.get (LNK_CFG_MODE n)

/-- The lane is in an Ethernet mode. -/
def State.ethMode (s : State) (n : Nat) : Bool := decide (1 ≤ s.laneMode n) && decide (s.laneMode n ≤ 3)

/-- The lane is out of electrical idle: started, in a mode, its LPLL locked, its group's reference good, and not held by
R390 (R391, R394, R423). -/
def State.laneActive (s : State) (n : Nat) : Bool :=
  (s.lane n).on && s.lanePowered && s.laneMode n != 0 && s.bit (PLL_STATUS_LOCKED (lanePll n)) &&
  !s.bit (PLL_STATUS_MUTED (lanePll n)) && s.bit (LNK_GROUP_STATUS_REF_OK (n / 6)) && !(s.lane n).barred

/-- UP changes: CHANGE rises with it. -/
def State.setUp (s : State) (n : Nat) (up : Bool) : State :=
  if s.bit (LNK_STATUS_UP n) == up then s else (s.putB (LNK_STATUS_UP n) up).set (LNK_STATUS_CHANGE n)

/-- Own CAP: rate indices 0 to MAX_RATE (Table LNK-6). -/
def State.ownCap (s : State) (n : Nat) : Nat := 2 ^ (min (s.get (LNK_BRG_CFG_MAX_RATE n)) 4 + 1) - 1

/-- Bring-up begins again at 1.25 Gb/s, or the lane restarts in its mode (R411, R419, R423): UP falls, and a Bearing lane
stands at training, or waits for its signal where it has none and `wait` holds. -/
def State.laneRestart (s : State) (n : Nat) (wait : Bool) : State :=
  let act := s.laneActive n
  let s := s.setUp n false
  let s := (s.clr (LNK_STATUS_SYNC n)).clr (LNK_STATUS_FEC_ALIGN n)
  let s := s.iff (!act) (·.clr (LNK_STATUS_SIGNAL n))
  let s := s.putLane n { s.lane n with top := 0, prop := none, inStep := false, failed := false }
  if act && s.laneMode n == 4 then
    let s := (s.put (LNK_BRG_STATE_STATE n) (if wait then 4 else 1)).put (LNK_BRG_STATE_RATE n) 0
    let s := (s.put (LNK_BRG_STATE_FAILED_AT n) 15).put (LNK_BRG_STATE_PEER_CAP n) 0
    s.put (LNK_BRG_STATE_OWN_CAP n) (s.ownCap n)
  else s.putWord (LNK_BRG_STATE n) 0

/-- Start a lane at fabric release or when its domain's settings are applied (R423). -/
def State.laneStart (s : State) (n : Nat) : State := (s.putLane n { s.lane n with on := true }).laneRestart n false

/-- A lane enters electrical idle: the drain, a reload, or the loss of its domain (Table PWR-3). Frames that wait in its
buffers are not kept. -/
def State.laneIdle (s : State) (n : Nat) : State :=
  (s.putLane n { s.lane n with on := false, txq := [] }).laneRestart n false

/-! ### Ethernet frames and timestamps -/

/-- Device time at the serial pins plus an adjustment in 1/16 ns, with the error that R402 allows left free: seconds,
nanoseconds and 1/256 ns. -/
def State.wireStamp (s : State) (adj : Int) (bound : Nat) : Nat × Nat × Nat :=
  let err : Int := ((s.draw % (2 * bound + 1) : Nat) : Int) - bound
  let t : Int := ((s.fix.sec * 1000000000 + s.fix.ns) * 256 + s.fix.frac / 2 ^ 24 : Nat) + adj * 16 + err
  let t := (t % ((2 ^ 48 * 1000000000 * 256 : Nat) : Int)).toNat
  (t / 256 / 1000000000, t / 256 % 1000000000, t % 256)

/-- The bound of R402 in 1/256 ns: 4.0 ns at 1.25 Gb/s, 0.8 ns above. -/
def State.stampBound (s : State) (n : Nat) : Nat := if s.laneMode n = 1 then 1024 else 204

/-- The largest Ethernet frame, and the buffer of each direction (R399, R400). -/
def ethMax : Nat := 16128
def ethBuffer : Nat := 16384

/-- USER of a received frame's beats (Table LNK-3). -/
def ethUser (sec ns fns : Nat) : Nat := 8 + fns % 256 * 2 ^ 8 + ns % 2 ^ 32 * 2 ^ 16 + sec % 65536 * 2 ^ 48

/-- A received frame: withheld and counted, or released with its receive timestamp (R399, R401, R402) in beats of the lane's receive
port (R398). -/
def State.ethRx (s : State) (n : Nat) (frame : List Byte) (codeError : Bool) (fecCorr fecUncorr : Nat) (room : Bool) : State :=
  let len := frame.length
  if !(s.laneActive n && s.ethMode n && s.bit (LNK_STATUS_UP n)) then s
  else
    let fec := s.laneMode n == 3 && s.bit (LNK_CFG_FEC_EN n)
    let s := s.iff fec fun s =>
      (s.satAdd (LNK_FEC_CORR_COUNT n) (LNK_FEC_CORR_OVF n) fecCorr).satAdd (LNK_FEC_UNCORR_COUNT n) (LNK_FEC_UNCORR_OVF n) fecUncorr
    if codeError || (fec && fecUncorr != 0) || decide (ethMax < len) || !(room && s.streamRoom (ethRxPort n) (beatCount 8 len)) then
      s.satInc (LNK_RX_DROPS_COUNT n) (LNK_RX_DROPS_OVF n)
    else
      let t := s.wireStamp (signed 16 (s.get (LNK_TS_ADJ_RX_ADJ n))) (s.stampBound n)
      let s := s.drawn.streamPush (ethRxPort n) (unitBeats (ethUser t.1 t.2.1 t.2.2) ((len + 7) % 8) (dataWords 8 len frame))
      (s.modInc2 (LNK_RX_FRAMES_LO_COUNT n) (LNK_RX_FRAMES_HI_COUNT n)).emit (.ethUnit n len t.1 t.2.1 t.2.2)

/-- Bytes that the transmit buffer of a lane holds. -/
def LnkLane.queued (v : LnkLane) : Nat := (v.txq.map (·.1.length)).sum

/-- A frame offered on the transmit port (R400): READY is low while the buffer lacks room for 16,128 bytes. -/
def State.ethSubmit (s : State) (n : Nat) (frame : List Byte) (tag : Nat) (ts : Bool) : State :=
  let v := s.lane n
  if !(s.laneActive n && s.ethMode n) then s
  else if ethBuffer < v.queued + ethMax then s
  else
    let s := s.streamTake (ethTxPort n) (beatCount 8 frame.length)
    if ethMax < frame.length then s.satInc (LNK_TX_DROPS_COUNT n) (LNK_TX_DROPS_OVF n)
    else s.putLane n { v with txq := v.txq ++ [(frame, tag, ts)] }

/-- A transmit timestamp enters the FIFO, or is counted lost where it is full (R403). -/
def State.txtsPush (s : State) (n tag : Nat) (t : Nat × Nat × Nat) : State :=
  let v := s.lane n
  if v.fifo.length < 16 then
    (s.putLane n { v with fifo := v.fifo ++ [(tag, t.1, t.2.1, t.2.2)] }).set (LNK_STATUS_TXTS n)
  else s.satInc (LNK_TXTS_LOST_COUNT n) (LNK_TXTS_LOST_OVF n)

/-- The next frame is sent, with a transmit timestamp where TS_REQ asks for one (R400 to R403). -/
def State.ethTxStart (s : State) (n : Nat) : State :=
  match (s.lane n).txq with
  | [] => s
  | (frame, tag, ts) :: rest =>
    if !(s.laneActive n && s.ethMode n && s.bit (LNK_STATUS_UP n)) then s
    else
      let s := s.putLane n { s.lane n with txq := rest }
      let s := (s.modInc2 (LNK_TX_FRAMES_LO_COUNT n) (LNK_TX_FRAMES_HI_COUNT n)).emit (.ethSent n frame tag)
      s.iff ts fun s => s.drawn.txtsPush n tag (s.wireStamp (signed 16 (s.get (LNK_TS_ADJ_TX_ADJ n))) (s.stampBound n))

/-- A read of LNK_TXTS_TAG pops the oldest timestamp into the held copy; an empty FIFO sets EMPTY (R404). -/
def State.txtsPop (s : State) (n : Nat) : State :=
  match (s.lane n).fifo with
  | [] => s.set (LNK_TXTS_TAG_EMPTY n)
  | (tag, sec, ns, fns) :: rest =>
    let s := s.putLane n { s.lane n with fifo := rest }
    let s := ((s.clr (LNK_TXTS_TAG_EMPTY n)).put (LNK_TXTS_TAG_FNS n) fns).put (LNK_TXTS_TAG_TAG n) tag
    (s.put2 (LNK_TXTS_SEC_LO_SEC n) (LNK_TXTS_SEC_HI_SEC n) sec).put (LNK_TXTS_NS_NS n) ns

/-- TXTS after a clear: it stays set while the FIFO holds an entry (Table LNK-6). -/
def State.txtsKeep (s : State) (n : Nat) : State := s.iff (!(s.lane n).fifo.isEmpty) (·.set (LNK_STATUS_TXTS n))

/-- Code-group synchronisation or block lock of an Ethernet lane (R395). -/
def State.laneSync (s : State) (n : Nat) (synced fecAligned : Bool) : State :=
  if !(s.laneActive n && s.ethMode n) then s
  else
    let fec := s.laneMode n == 3 && s.bit (LNK_CFG_FEC_EN n)
    let s := (s.putB (LNK_STATUS_SYNC n) synced).putB (LNK_STATUS_FEC_ALIGN n) (fec && synced && fecAligned)
    let s := s.iff synced (·.set (LNK_STATUS_SIGNAL n))
    s.setUp n (synced && (!fec || fecAligned))

/-! ### PRBS and eye scan -/

/-- CLEAR of LNK_PRBS_CFG zeroes the counters (R417). -/
def State.prbsClear (s : State) (n : Nat) : State :=
  (s.put2 (LNK_PRBS_ERR_LO_COUNT n) (LNK_PRBS_ERR_HI_COUNT n) 0).put2 (LNK_PRBS_BITS_LO_COUNT n) (LNK_PRBS_BITS_HI_COUNT n) 0

/-- Count checked and errored bits. -/
def State.prbsCount (s : State) (n bits errors : Nat) : State :=
  (s.satAdd2 (LNK_PRBS_ERR_LO_COUNT n) (LNK_PRBS_ERR_HI_COUNT n) (LNK_PRBS_STATUS_ERR_OVF n) errors).satAdd2
    (LNK_PRBS_BITS_LO_COUNT n) (LNK_PRBS_BITS_HI_COUNT n) (LNK_PRBS_STATUS_BITS_OVF n) bits

/-- The TEST-mode checker gains or drops lock; what it counted under lock up to now is added (R413, R421). -/
def State.prbsLock (s : State) (n : Nat) (locked : Bool) (bits errors : Nat) : State :=
  if !(s.laneActive n && s.laneMode n == 5 && s.bit (LNK_PRBS_CFG_CHK_EN n)) then s
  else (s.iff (s.bit (LNK_PRBS_STATUS_CHK_LOCK n)) (·.prbsCount n bits errors)).putB (LNK_PRBS_STATUS_CHK_LOCK n) locked

/-- START of an eye-scan point: the result of the last one is no longer valid (R414). -/
def State.eyeStart (s : State) (n : Nat) : State := s.clr (LNK_EYE_RESULT_DONE n)

/-- An eye-scan point ends (R414). -/
def State.eyeDone (s : State) (n errors : Nat) : State :=
  if s.bit (LNK_EYE_CTRL_START n) then
    ((s.clr (LNK_EYE_CTRL_START n)).set (LNK_EYE_RESULT_DONE n)).put (LNK_EYE_RESULT_ERRORS n) (min errors 0xFFFFFF)
  else s

/-- Bits for the line inverted where POL_TX asks for it (Table LNK-6). -/
def State.onPins {w : Nat} (s : State) (n : Nat) (v : BitVec w) : BitVec w := if s.bit (LNK_CFG_POL_TX n) then ~~~v else v

/-- The generator sends `k` bits: in mode TEST with GEN_EN its sequence, in a bring-up step PRBS31 (R407, R412, R421). -/
def State.prbsSend (s : State) (n k : Nat) : State :=
  let v := s.lane n
  let test := s.laneMode n == 5 && s.bit (LNK_PRBS_CFG_GEN_EN n)
  if !(s.laneActive n && (test || v.inStep)) then s
  else
    let r := prbsBits (if test then s.get (LNK_PRBS_CFG_GEN_POLY n) else 3) v.prbs k
    let inv := test && s.bit (LNK_PRBS_CFG_GEN_INV n)
    (s.putLane n { v with prbs := r.2 }).emit (.prbs n (r.1.map fun b => (b != inv) != s.bit (LNK_CFG_POL_TX n)))

/-! ### Line coding (R405, R429, R430) -/

/-- Characters leave on a lane as 8b/10b code groups. -/
def State.sendChars (s : State) (n : Nat) (cs : List LineChar) : State :=
  let r := codeGroups (s.lane n).rd cs
  (s.putLane n { s.lane n with rd := r.2 }).emit (.codes n (r.1.map (s.onPins n)))

/-- Blocks leave on a lane scrambled. -/
def State.sendBlocks (s : State) (n : Nat) (bs : List LineBlock) : State :=
  let r := sentBlocks (s.lane n).scram bs
  (s.putLane n { s.lane n with scram := r.2 }).emit (.blocks n (r.1.map (s.onPins n)))

/-- A Bearing frame leaves on a lane, coded as its rate asks (Table LNK-2, R429, R430). -/
def State.lineFrame (s : State) (n : Nat) (frame : List Byte) : State :=
  if s.get (LNK_BRG_STATE_RATE n) ≤ 2 then s.sendChars n (frameChars frame) else s.sendBlocks n (frameBlocks frame)

/-- CMD of the training words that a lane sends (R406 to R408): the proposal with ACK once the peer has sent the same one (which is free
here: no command tells it), SETTLE with the top passed rate once stepping has ended, FAIL after a step that its own checker failed. -/
def State.laneCmd (s : State) (n : Nat) : Byte :=
  let v := s.lane n
  if s.get (LNK_BRG_STATE_STATE n) = 1 then trainingCmd 0 false false false
  else
    match v.prop with
    | some r => trainingCmd r (s.draw % 2 == 1) v.failed false
    | none => trainingCmd v.top false v.failed true

/-- A lane in bring-up at 1.25 Gb/s sends a training word (R405). -/
def State.trainingSend (s : State) (n : Nat) : State :=
  let st := s.get (LNK_BRG_STATE_STATE n)
  if !(s.laneActive n && s.laneMode n == 4 && (st == 1 || st == 2) && !(s.lane n).inStep) then s
  else (s.sendChars n (trainingChars (BitVec.ofNat 8 (s.get (LNK_BRG_STATE_OWN_CAP n))) (s.laneCmd n))).drawn

/-! ### Bearing bring-up -/

/-- The lowest rate index above `top` that both CAPs hold (R406). -/
def nextRate (own peer top : Nat) : Option Nat :=
  [1, 2, 3, 4].find? fun r => decide (top < r) && own / 2 ^ r % 2 == 1 && peer / 2 ^ r % 2 == 1

/-- 64 clean training words: the lane is trained and proposes a rate (R406). -/
def State.trainingLock (s : State) (n peerCap : Nat) : State :=
  if !(s.laneActive n && s.get (LNK_BRG_STATE_STATE n) == 1) then s
  else
    let s := (s.set (LNK_STATUS_SIGNAL n)).put (LNK_BRG_STATE_PEER_CAP n) peerCap
    let s := s.put (LNK_BRG_STATE_STATE n) 2
    s.putLane n { s.lane n with prop := nextRate (s.get (LNK_BRG_STATE_OWN_CAP n)) peerCap (s.lane n).top }

/-- ACK in 16 words: both ends switch to the proposed rate and send PRBS31 (R406, R407). -/
def State.rateStepSwitch (s : State) (n : Nat) : State :=
  let v := s.lane n
  match v.prop with
  | some r =>
    if !(s.laneActive n && s.get (LNK_BRG_STATE_STATE n) == 2 && !v.inStep) then s
    else (s.putLane n { v with inStep := true }).put (LNK_BRG_STATE_RATE n) r
  | none => s

/-- The PRBS period of a step ends (R407, R409): the step passes when neither end sets FAIL. -/
def State.rateStepEnd (s : State) (n : Nat) (checkerLocked : Bool) (bits errors : Nat) (peerFail : Bool) : State :=
  let v := s.lane n
  match v.prop with
  | some r =>
    if !(s.laneActive n && v.inStep) then s
    else
      let own := checkerLocked && decide (errors ≤ s.get (LNK_BRG_CFG_MAX_ERR n))
      let ok := own && !peerFail
      let s := ((s.prbsClear n).prbsCount n bits errors).put (LNK_BRG_STATE_RATE n) 0
      if ok then
        let next := nextRate (s.get (LNK_BRG_STATE_OWN_CAP n)) (s.get (LNK_BRG_STATE_PEER_CAP n)) r
        (s.put (LNK_BRG_STATE_FAILED_AT n) 15).putLane n { v with inStep := false, failed := false, top := r, prop := next }
      else (s.put (LNK_BRG_STATE_FAILED_AT n) r).putLane n { v with inStep := false, failed := !own, prop := none }
  | none => s

/-- Stepping has ended: the lane switches to its top passed rate and reports UP (R408). -/
def State.laneSettle (s : State) (n : Nat) : State :=
  let v := s.lane n
  if !(s.laneActive n && s.get (LNK_BRG_STATE_STATE n) == 2 && v.prop.isNone) then s
  else ((s.put (LNK_BRG_STATE_RATE n) v.top).put (LNK_BRG_STATE_STATE n) 3).setUp n true

/-- RETRY_S has passed: a lane that settled below the top common rate leaves service and repeats the failed step (R410). -/
def State.bringupRetry (s : State) (n : Nat) : State :=
  let f := s.get (LNK_BRG_STATE_FAILED_AT n)
  if !(s.laneActive n && s.get (LNK_BRG_STATE_STATE n) == 3 && s.get (LNK_BRG_CFG_RETRY_S n) != 0 && decide (f ≤ 4)) then s
  else
    let s := ((s.setUp n false).put (LNK_BRG_STATE_STATE n) 2).put (LNK_BRG_STATE_RATE n) 0
    s.putLane n { s.lane n with prop := some f, failed := false }

/-! ### Loss of signal and of lock -/

/-- A loss is counted, and reported where the lane was UP and the device is in Running (R416, Watch state). -/
def State.laneLost (s : State) (n fault : Nat) : State :=
  let up := s.bit (LNK_STATUS_UP n)
  let s := (s.satInc (LNK_LOS_COUNT_COUNT n) (LNK_LOS_COUNT_OVF n)).set (LNK_STATUS_CHANGE n)
  s.iff (up && s.dev == .running) (·.report fault n 0)

/-- Loss of signal is declared (R415, R416, R420). -/
def State.losDeclare (s : State) (n : Nat) : State :=
  if !(s.laneActive n && s.bit (LNK_STATUS_SIGNAL n)) then s
  else (((s.laneLost n 23).set (LNK_STATUS_LOS n)).clr (LNK_STATUS_SIGNAL n)).laneRestart n true

/-- The signal has been present for 100 µs (R415): a Bearing lane that waited for it starts bring-up (R411). -/
def State.losClear (s : State) (n : Nat) : State :=
  if !s.laneActive n then s
  else
    let s := s.set (LNK_STATUS_SIGNAL n)
    s.iff (s.get (LNK_BRG_STATE_STATE n) == 4) (·.put (LNK_BRG_STATE_STATE n) 1)

/-- The CDR of an UP lane loses lock (R416). -/
def State.cdrLoss (s : State) (n : Nat) : State :=
  if !(s.laneActive n && s.bit (LNK_STATUS_UP n)) then s
  else ((s.laneLost n 24).set (LNK_STATUS_CDR_LOL n)).laneRestart n false

end Sys2Proof.Machine
end

