-- ==== Sys2Proof/Machine/Brg.lean ====
section
/-!
DEFINITION. The Bearing link: ports and keys, frames in and out, routing, time distribution, landfall and admission
(R201 to R206, R212, R213, R424 to R476).
-/
namespace Sys2Proof.Machine

/-! ### Ports -/

/-- The hidden state of port `p`. -/
def State.bport (s : State) (p : Nat) : BrgPort := s.brg.ports[p]?.getD BrgPort.fresh

/-- Replace the hidden state of port `p`. -/
def State.putBport (s : State) (p : Nat) (v : BrgPort) : State :=
  s.withBrg { s.brg with ports := s.brg.ports.setIfInBounds p v }

/-- The engine runs: ROLE 1 or 2, released, in service, its lanes powered (R424, R475). -/
def State.brgOn (s : State) : Bool :=
  (s.get CFG_LANDFALL_ROLE == 1 || s.get CFG_LANDFALL_ROLE == 2) && s.released && s.dev == .running && s.lanePowered

/-- Own part ID. -/
def State.ownId (s : State) : Nat := s.get BRG_STATUS_OWN_ID

/-- State of a port: 0 DOWN, 1 TRAINING, 2 KEYING, 3 UP. -/
def State.portState (s : State) (p : Nat) : Nat := s.get (BRG_PORT_STATUS_STATE p)

/-- The port is UP. -/
def State.portUp (s : State) (p : Nat) : Bool := s.portState p == 3

/-- The lanes of a port (R425). -/
def State.portLanes (s : State) (p : Nat) : List Nat :=
  if s.bit (BRG_PORT_CFG_DUAL p) then [s.get (BRG_PORT_CFG_LANE0 p), s.get (BRG_PORT_CFG_LANE1 p)]
  else [s.get (BRG_PORT_CFG_LANE0 p)]

/-- The lane a frame came in on. -/
def State.frameLane (s : State) (p : Nat) (second : Bool) : Nat :=
  if second && s.bit (BRG_PORT_CFG_DUAL p) then s.get (BRG_PORT_CFG_LANE1 p) else s.get (BRG_PORT_CFG_LANE0 p)

/-- Session slot of a port and parity. -/
def State.sessSlot (s : State) (p par : Nat) : Nat := s.get BRG_KEY_CFG_SESS_BASE + 2 * p + par

/-- Bearing counter `c` of Table BRG-10. -/
def State.brgCount (s : State) (c n : Nat) : State := s.satAdd (BRG_CNT_COUNT c) (BRG_CNT_OVF c) n

/-- A receive drop: event line 121. -/
def State.brgDrop (s : State) : State := s.event 121

/-- A receive drop that is counted in counter `c`. -/
def State.brgDropIn (s : State) (c : Nat) : State := (s.brgCount c 1).brgDrop

/-! ### Time master (R460, R461) -/

/-- `a` advertises before `b`: the lower pair of rank and ID. -/
def adBefore (a b : Nat × Nat) : Bool := decide (a.1 < b.1) || (a.1 == b.1 && decide (a.2 < b.2))

/-- The best pair of rank and ID this part knows, its own among them. -/
def State.bestMaster (s : State) : Option (Nat × Nat) :=
  let own := (s.get BRG_CFG_TIME_RANK, s.ownId)
  let ads := (List.range 4).filterMap fun p => (s.bport p).ad.map fun a => (a.2.1, a.1)
  ((own :: ads).filter fun a => decide (a.1 < 255)).foldl (fun b a =>
    match b with
    | none => some a
    | some x => if adBefore a x then some a else b) none

/-- The upstream port and its stratum: the UP port with the lowest STRATUM below 32 and FLAGS[1], the lower port on a tie. -/
def State.upstream (s : State) : Option (Nat × Nat) :=
  (List.range 4).foldl (fun b p =>
    match (s.bport p).ad with
    | some (_, _, st, fl) =>
      if s.portUp p && decide (st < 32) && fl / 2 % 2 == 1 then
        match b with
        | none => some (p, st)
        | some (_, x) => if st < x then some (p, st) else b
      else b
    | none => b) none

/-- Elect the time master and the upstream port; a change of master raises line 117. The master has stratum 0 and no
source 1 (R463). -/
def State.brgElect (s : State) : State :=
  let old := s.get BRG_STATUS_MASTER_ID
  match s.bestMaster with
  | none => ((s.put BRG_STATUS_MASTER_ID 0).put BRG_STATUS_STRATUM 0xFF).put BRG_STATUS_UPSTREAM 4
  | some (_, id) =>
    let s := (s.put BRG_STATUS_MASTER_ID id).iff (old != id) (·.event 117)
    if id = s.ownId then ((s.put BRG_STATUS_STRATUM 0).put BRG_STATUS_UPSTREAM 4).sourceInvalid 1
    else
      match s.upstream with
      | some (p, st) => (s.put BRG_STATUS_STRATUM (st + 1)).put BRG_STATUS_UPSTREAM p
      | none => (s.put BRG_STATUS_STRATUM 0xFF).put BRG_STATUS_UPSTREAM 4

/-! ### Frames -/

/-- Bytes of a frame before its tag (Table BRG-1). -/
def brgHead (f : BrgTx) (keysel seq path lnonce : Nat) : List Byte :=
  let ctl := f.cls * 64 + keysel * 32 + (if f.bcast then 16 else 0) + f.channel % 16
  [BitVec.ofNat 8 ctl, BitVec.ofNat 8 (f.dst % 64), BitVec.ofNat 8 (f.src % 64), BitVec.ofNat 8 (f.ttl % 64 + path % 2 * 64)] ++
  leBytes 2 seq ++ leBytes 2 f.payload.length ++ leBytes 4 lnonce ++ f.payload

/-- Tag bytes of a class (Table BRG-2). -/
def brgTagLen (cls : Nat) : Nat := if cls = 0 then 4 else 8

/-- LEN fits the class (Table BRG-2). -/
def brgLenOk (cls n : Nat) : Bool :=
  if cls = 0 then n == 12 else if cls = 3 then n == 32 else decide (4 ≤ n) && decide (n ≤ 256) && n % 4 == 0

/-- The link IV of R437: sender, its port, epoch, zeros, LNONCE (Table BRG-4). -/
def linkIv (id port epoch lnonce : Nat) : List Byte :=
  [BitVec.ofNat 8 id, BitVec.ofNat 8 port] ++ leBytes 2 epoch ++ [0, 0, 0, 0] ++ beBytes 4 lnonce

/-- A received frame's fields. -/
structure BrgRx where
  cls : Nat
  keysel : Nat
  bcast : Bool
  channel : Nat
  dst : Nat
  src : Nat
  ttl : Nat
  path : Nat
  seq : Nat
  lnonce : Nat
  payload : List Byte
  /-- The bytes before the tag, and the tag. -/
  body : List Byte
  tag : List Byte
  crcOk : Bool
  formOk : Bool
deriving DecidableEq, Repr

/-- Split a frame into its fields and check its form and its CRC (R433, R434). -/
def brgParse (f : List Byte) : BrgRx :=
  let b (i : Nat) : Nat := byteAt f i
  let cls := b 0 / 64
  let len := b 6 + b 7 * 256
  let body := f.take (12 + len)
  let tl := brgTagLen cls
  let tag := slice f (12 + len) tl
  let crc := f.drop (f.length - 4)
  let form := brgLenOk cls len && f.length == 12 + len + tl + 4 && decide (b 1 < 64) && decide (b 2 < 64) && decide (b 3 < 128) &&
    (cls != 3 || b 0 % 16 == 0)
  { cls := cls, keysel := b 0 / 32 % 2, bcast := b 0 / 16 % 2 == 1, channel := b 0 % 16, dst := b 1 % 64, src := b 2 % 64,
    ttl := b 3 % 64, path := b 3 / 64 % 2, seq := b 4 + b 5 * 256, lnonce := leNat (slice f 8 4), payload := slice f 12 len,
    body := body, tag := tag, crcOk := decide (16 ≤ f.length) && leBytes 4 (crc32 (f.take (f.length - 4))).toNat == crc, formOk := form }

/-- A control frame of TYPE `t` (Table BRG-3). -/
def BrgRx.control (r : BrgRx) (t : Nat) : Bool := r.cls == 2 && r.channel == 15 && byteAt r.payload 0 == t

/-! ### Keys (R435 to R442) -/

/-- The key of the slot, where the Bearing page may use it, it has taken effect and the engine clock runs: while it is muted the engine
holds every operation (R51, R528), so no tag is made and none passes (DESIGN CHOICE, log entry 65). -/
def State.brgKey (s : State) (k : Nat) : Option (List Byte) :=
  let v := s.slot k
  if s.brgSlotOk k && v.valid && !s.cphHold then some v.key else none

/-- The link tag of a HELLO: the first 8 bytes of AES-CMAC under the link slot (R435). -/
def State.helloTag (s : State) (body : List Byte) : Option (List Byte) :=
  (s.brgKey (s.get BRG_KEY_CFG_LINK_SLOT)).map fun k => (aesCmac k body).take 8

/-- The session key of epoch `e` (R436). -/
def State.sessionKey (s : State) (p e : Nat) : Option (List Byte) :=
  let v := s.bport p
  (s.brgKey (s.get BRG_KEY_CFG_LINK_SLOT)).map fun k =>
    let own := (s.ownId, p, v.seed)
    let peer := (s.get (BRG_PORT_STATUS_NB_ID p), s.get (BRG_PORT_STATUS_NB_PORT p), v.peerSeed)
    let lo := if own.1 < peer.1 then own else peer
    let hi := if own.1 < peer.1 then peer else own
    let t (i : Nat) : List Byte := aesCmac k (beBytes 1 i ++ [0x42, 0x52, 0x47, 0x53] ++
      [BitVec.ofNat 8 lo.1, BitVec.ofNat 8 lo.2.1, BitVec.ofNat 8 hi.1, BitVec.ofNat 8 hi.2.1] ++ lo.2.2 ++ hi.2.2 ++
      leBytes 2 e ++ [0, 1])
    t 1 ++ t 2

/-- Derive the session key of epoch `e` into the slot of its parity, as a slot rewrite: GCM, a 32-bit counter, the Bearing
page (R436). -/
def State.sessionDerive (s : State) (p e : Nat) : State :=
  match s.sessionKey p e with
  | some key =>
    if s.brgSlotOk (s.sessSlot p (e % 2)) then
      let v := s.bport p
      let s := s.putBport p { v with seen := (v.seen.setIfInBounds (e % 2 * 2) 0).setIfInBounds (e % 2 * 2 + 1) 0 }
      s.slotRewrite (s.sessSlot p (e % 2)) { key := key, modebind := 52, pages := 2 ^ s.get BRG_KEY_CFG_PAGE, ctrw := 1 }
    else s
  | none => s

/-- Draw LNONCE values ahead of use until eight are held (R438). -/
def State.drawAhead (s : State) (p : Nat) : Nat → State
  | 0 => s
  | n + 1 =>
    let v := s.bport p
    let k := s.sessSlot p v.par
    if 8 ≤ v.ahead.length || (s.slot k).shadow.isSome || s.cphHold then s
    else
      match s.drawCtr k with
      | some (c, s') => (s'.putBport p { v with ahead := v.ahead ++ [c] }).drawAhead p n
      | none => s.noteExhausted k

/-- Queue a frame of the engine itself. -/
def State.brgEnqueue (s : State) (f : BrgTx) : State := s.withBrg { s.brg with queue := s.brg.queue ++ [f] }

/-- A control frame or Time frame to the neighbour on port `p`, TTL 1. -/
def State.brgToNeighbour (s : State) (p cls channel : Nat) (payload : List Byte) : State :=
  s.brgEnqueue { cls := cls, dst := s.get (BRG_PORT_STATUS_NB_ID p), bcast := false, channel := channel, tag := 0, src := s.ownId,
                 ttl := 1, seq := none, origin := 1, payload := payload, copies := [(p, 0)] }

/-- UP ports but one. -/
def State.upPortsBut (s : State) (q : Nat) : List Nat := (List.range 4).filter fun p => s.portUp p && p != q

/-- A control frame to every part, on every UP port; the spec gives no starting TTL for it, so it is free (1 to 63). -/
def State.brgBroadcast (s : State) (ports : List Nat) (payload : List Byte) : State :=
  if ports.isEmpty then s
  else
    s.drawn.brgEnqueue { cls := 2, dst := 0, bcast := true, channel := 15, tag := 0, src := s.ownId, ttl := 1 + s.draw % 63, seq := none,
                         origin := 1, payload := payload, copies := ports.map fun p => (p, 0) }

/-- Enter KEYING: fresh SEED, HELLO queued; nothing of the old session is kept (R427, R435, R471). Without random bytes no
HELLO leaves (R479). -/
def State.portKeying (s : State) (p : Nat) : State :=
  let s := s.putBport p { BrgPort.fresh with lateUp := (s.bport p).lateUp }
  let s := (s.put (BRG_PORT_STATUS_STATE p) 2).put (BRG_PORT_STATUS_EPOCH p) 0
  if s.bit CPH_STATUS_RNG_FAIL || s.cph.rngFails then s
  else
    let seed := s.drawBytes 8
    let s := (s.drawnBytes 8)
    let s := s.putBport p { s.bport p with seed := seed }
    s.brgToNeighbour p 2 15 ([1, BitVec.ofNat 8 s.ownId, BitVec.ofNat 8 p, 0] ++ seed ++ [BitVec.ofNat 8 (s.get BRG_CFG_TIME_RANK), 0, 0, 0])

/-- Bring a port's state up to date with its lanes (R427): KEYING when a lane first reports UP, TRAINING while one trains,
else DOWN; leaving UP marks its frames to be moved (R469). -/
def State.portUpdate (s : State) (p : Nat) : State :=
  let old := s.portState p
  let on := s.brgOn && s.bit (BRG_PORT_CFG_EN p)
  let lanes := s.portLanes p
  let new :=
    if !on then 0
    else if lanes.any fun n => s.bit (LNK_STATUS_UP n) && s.laneMode n == 4 then (if 2 ≤ old then old else 2)
    else if lanes.any fun n => s.get (LNK_BRG_STATE_STATE n) == 1 || s.get (LNK_BRG_STATE_STATE n) == 2 then 1
    else 0
  if new = old then s
  else
    let s := s.event 112
    let s := s.iff (old == 3) fun s => s.putBport p { s.bport p with left := true, rekey := false }
    if new = 2 then s.portKeying p else s.put (BRG_PORT_STATUS_STATE p) new

/-- Bring every port up to date. -/
def State.portsUpdate (s : State) : State := s.each (List.range 4) fun s p => s.portUpdate p

/-- Both ends hold the epoch-0 key: the port is UP (R427). -/
def State.portKeyed (s : State) (p : Nat) : State :=
  let v := s.slot (s.sessSlot p 0)
  if !(s.brgOn && s.portState p == 2 && !(s.bport p).peerSeed.isEmpty && v.valid && v.shadow.isNone) then s
  else
    let s := ((s.put (BRG_PORT_STATUS_STATE p) 3).put (BRG_PORT_STATUS_EPOCH p) 0).event 112
    let late := s.get CFG_LANDFALL_ROLE == 2 && decide (2 ≤ s.get CFG_LANDFALL_STATE)
    (s.putBport p { s.bport p with par := 0, ahead := [], lateUp := late }).drawAhead p 8

/-- A HELLO (R428, R435, R436). -/
def State.helloIn (s : State) (p : Nat) (r : BrgRx) : State :=
  if s.portState p ≠ 2 then s.brgDrop
  else if s.helloTag r.body ≠ some r.tag then (s.brgDropIn 1).event 113
  else if byteAt r.payload 1 = s.ownId then (s.set (BRG_PORT_STATUS_ID_CLASH p)).event 120
  else
    let s := (s.put (BRG_PORT_STATUS_NB_ID p) (byteAt r.payload 1)).put (BRG_PORT_STATUS_NB_PORT p) (byteAt r.payload 2)
    let s := (s.clr (BRG_PORT_STATUS_ID_CLASH p)).putBport p { s.bport p with peerSeed := slice r.payload 4 8 }
    s.sessionDerive p 0

/-- Start a rekey: derive the next epoch into the idle slot and send REKEY (R440). -/
def State.rekeyStart (s : State) (p : Nat) : State :=
  if !(s.brgOn && s.portUp p && !(s.bport p).rekey && !s.cphHold) then s
  else
    let e := (s.get (BRG_PORT_STATUS_EPOCH p) + 1) % 65536
    let s := (s.sessionDerive p e).putBport p { (s.sessionDerive p e).bport p with rekey := true }
    s.brgToNeighbour p 2 15 ([4] ++ leBytes 2 e ++ [0])

/-- The counter of the session in use. -/
def State.sessCtr (s : State) (p : Nat) : Nat := (s.slot (s.sessSlot p (s.bport p).par)).ctr

/-- REKEY_TRIGGER: the counter has reached 2^32 − 2^24, or REKEY_S has passed (R440). -/
def State.rekeyTrigger (s : State) (p : Nat) : State :=
  s.iff (decide (2 ^ 32 - 2 ^ 24 ≤ s.sessCtr p) || s.get BRG_CFG_REKEY_S != 0) (·.rekeyStart p)

/-- Transmission moves to epoch `e`; the rekey is complete (R440, R441). -/
def State.rekeySwitch (s : State) (p e : Nat) : State :=
  let v := s.bport p
  let s := (s.put (BRG_PORT_STATUS_EPOCH p) e).putBport p { v with par := e % 2, ahead := [], rekey := false }
  ((s.drawAhead p 8).brgCount 11 1).event 114

/-- A REKEY from the neighbour; where both ends started one, the end with the higher ID goes on as initiator (R440, R472). A retry that
names the epoch already switched to is answered again (R442). -/
def State.rekeyIn (s : State) (p e : Nat) : State :=
  if e = s.get (BRG_PORT_STATUS_EPOCH p) && e != 0 && !(s.bport p).rekey then s.brgToNeighbour p 2 15 ([5] ++ leBytes 2 e ++ [0])
  else if e ≠ (s.get (BRG_PORT_STATUS_EPOCH p) + 1) % 65536 then s
  else if (s.bport p).rekey && decide (s.get (BRG_PORT_STATUS_NB_ID p) < s.ownId) then s
  else
    let s := if (s.bport p).rekey then s else s.sessionDerive p e
    (s.rekeySwitch p e).brgToNeighbour p 2 15 ([5] ++ leBytes 2 e ++ [0])

/-- A REKEY_ACK from the neighbour: the initiator switches (R440). -/
def State.rekeyAckIn (s : State) (p e : Nat) : State :=
  if (s.bport p).rekey && e == (s.get (BRG_PORT_STATUS_EPOCH p) + 1) % 65536 then s.rekeySwitch p e else s

/-- 1 ms after the first frame verified under the new epoch the old slot is erased (R440). -/
def State.oldSlotErase (s : State) (p : Nat) : State :=
  let v := s.bport p
  if v.oldWaits && !v.rekey then (s.slotErase (s.sessSlot p (1 - v.par))).putBport p { v with oldWaits := false } else s

/-- 1 ms without completion: retry, or with an exhausted counter go DOWN, raise REKEY_FAIL and retrain (R442). -/
def State.rekeyRetry (s : State) (p : Nat) : State :=
  let v := s.bport p
  if !(s.brgOn && v.rekey && s.portUp p) then s
  else if (s.slot (s.sessSlot p v.par)).ctr = ctrMax 1 then
    let s := ((s.event 115).event 112).put (BRG_PORT_STATUS_STATE p) 0
    let s := s.putBport p { v with rekey := false, left := true }
    (s.each (s.portLanes p) fun s n => s.laneRestart n false).portUpdate p
  else
    s.brgToNeighbour p 2 15 ([4] ++ leBytes 2 ((s.get (BRG_PORT_STATUS_EPOCH p) + 1) % 65536) ++ [0])

/-! ### Landfall and admission (R201 to R206, R464 to R468) -/

/-- Bit of a part in the EXCLUDED map. -/
def exclFld (id : Nat) : Fld := if id < 32 then ⟨CFG_LANDFALL_EXCL_LO, id, 1⟩ else ⟨CFG_LANDFALL_EXCL_HI, id - 32, 1⟩

/-- The part is excluded. -/
def State.excluded (s : State) (id : Nat) : Bool := s.bit (exclFld id)

/-- The whole EXCLUDED map. -/
def State.exclMap (s : State) : Nat := (s.word CFG_LANDFALL_EXCL_LO).toNat + (s.word CFG_LANDFALL_EXCL_HI).toNat * 2 ^ 32

/-- Set the EXCLUDED map. -/
def State.putExcl (s : State) (m : Nat) : State :=
  (s.putWord CFG_LANDFALL_EXCL_LO (BitVec.ofNat 32 m)).putWord CFG_LANDFALL_EXCL_HI (BitVec.ofNat 32 (m / 2 ^ 32))

/-- The part has been counted ready. -/
def State.isCounted (s : State) (id : Nat) : Bool := s.brg.counted.any (·.1 == id)

/-- Count a part ready. -/
def State.countReady (s : State) (id ver : Nat) (golden : Bool) : State :=
  let s := s.withBrg { s.brg with counted := s.brg.counted ++ [(id, ver, golden)] }
  s.put CFG_LANDFALL_READY s.brg.counted.length

/-- Payload of LANDFALL (Table BRG-3). -/
def State.landfallBytes (s : State) : List Byte := [3] ++ leBytes 8 s.exclMap ++ [0, 0, 0]

/-- The master declares landfall: uncounted expected parts are excluded, LANDFALL is broadcast three times (R203, R204,
R465). -/
def State.landfallDeclare (s : State) : State :=
  let miss (i : Nat) : Bool := s.brg.expected.getLsbD i && !s.isCounted i
  let s := s.each (List.range 64) fun s i => s.iff (miss i) (·.set (exclFld i))
  let s := s.put CFG_LANDFALL_STATE (if s.exclMap = 0 then 2 else 3)
  let s := s.iff (!s.excluded s.ownId) (·.set SYS_SERVICE_LANDFALL)
  let ports := s.upPortsBut 4
  ((s.brgBroadcast ports s.landfallBytes).brgBroadcast ports s.landfallBytes).brgBroadcast ports s.landfallBytes

/-- Landfall where every expected part is counted ready (R203). -/
def State.landfallCheck (s : State) : State :=
  s.iff (s.get CFG_LANDFALL_STATE == 1 && (List.range 64).all fun i => !s.brg.expected.getLsbD i || s.isCounted i)
    (·.landfallDeclare)

/-- Broadcast ADMIT for a part whose late READY has arrived, clear its exclusion and count it (R467, R473). A golden part is
admitted only with ACCEPT_GOLDEN. -/
def State.admitId (s : State) (id : Nat) : State :=
  match s.brg.late.find? (·.1 == id) with
  | some (_, ver, golden) =>
    if !s.excluded id || (golden && !s.brg.acceptGolden) then s
    else
      let s := s.withBrg { s.brg with late := s.brg.late.filter fun (e : Nat × Nat × Bool) => e.1 != id }
      let s := (s.clr (exclFld id)).countReady id ver golden
      let s := s.iff (s.exclMap == 0) (·.put CFG_LANDFALL_STATE 2)
      s.brgBroadcast (s.upPortsBut 4) [6, BitVec.ofNat 8 id, 0, 0]
  | none => s

/-- A READY reaches this part: held sequence numbers of its source are cleared (R453); the master counts it, or raises
LATE_READY for an excluded part (R202, R206, R467). A second report of one ID is not counted and sets ID_CONFLICT (R213); a member
repeats its own report every 10 ms (R464), so of a report with the same content it is free whether it is a repetition or another part's
(log entry 36). One with the master's own ID is another part's. -/
def State.readyIn (s : State) (src ver : Nat) (golden : Bool) : State :=
  let s := s.withBrg { s.brg with rxSeq := s.brg.rxSeq.filter fun c => c.1 / 64 != src }
  if s.get CFG_LANDFALL_ROLE ≠ 2 then s
  else
    match s.brg.counted.find? (·.1 == src) with
    | some (_, v, g) =>
      if v != ver || g != golden || src == s.ownId then s.set CFG_LANDFALL_ID_CONFLICT
      else s.drawn.iff (s.draw % 2 == 1) (·.set CFG_LANDFALL_ID_CONFLICT)
    | none =>
      if src = s.ownId then s.set CFG_LANDFALL_ID_CONFLICT
      else if s.get CFG_LANDFALL_STATE = 1 then
        (if golden && !s.brg.acceptGolden then s else (s.countReady src ver golden).landfallCheck)
      else if s.excluded src then
        let s := (s.event 118).withBrg { s.brg with late := (s.brg.late.filter fun (e : Nat × Nat × Bool) => e.1 != src) ++ [(src, ver, golden)] }
        s.iff (s.bit BRG_CFG_AUTO_ADMIT) (·.admitId src)
      else s

/-- READY_FRAME: a READY as its content. -/
def State.readyFrame (s : State) (src ver : Nat) (golden : Bool) : State := s.iff s.brgOn (·.readyIn src ver golden)

/-- A part hears LANDFALL (R204, R464). -/
def State.landfallIn (s : State) (map : Nat) : State :=
  if !(s.brgOn && s.get CFG_LANDFALL_ROLE == 1 && s.get CFG_LANDFALL_STATE == 1) then s
  else
    let s := s.putExcl map
    if s.excluded s.ownId then s.put CFG_LANDFALL_STATE 4
    else (s.set SYS_SERVICE_LANDFALL).put CFG_LANDFALL_STATE (if map % 2 ^ 64 = 0 then 2 else 3)

/-- LANDFALL_MS has passed (R203). -/
def State.landfallTimeout (s : State) : State :=
  s.iff (s.brgOn && s.get CFG_LANDFALL_ROLE == 2 && s.get CFG_LANDFALL_STATE == 1) (·.landfallDeclare)

/-- LANDFALL again to the ports that came UP later (R465). -/
def State.landfallRepeat (s : State) : State :=
  let ports := (List.range 4).filter fun p => (s.bport p).lateUp && s.portUp p
  if !(s.brgOn && s.get CFG_LANDFALL_ROLE == 2 && decide (2 ≤ s.get CFG_LANDFALL_STATE)) then s
  else s.brgBroadcast ports s.landfallBytes

/-- A part hears ADMIT (R468). -/
def State.admitIn (s : State) (id : Nat) : State :=
  if !(s.brgOn && s.get CFG_LANDFALL_ROLE == 1) then s
  else
    let s := s.clr (exclFld id)
    if id = s.ownId then ((s.set SYS_SERVICE_LANDFALL).put CFG_LANDFALL_STATE 2).event 119
    else s.iff (s.get CFG_LANDFALL_STATE == 3 && s.exclMap == 0) (·.put CFG_LANDFALL_STATE 2)

/-- READY, every 10 ms until LANDFALL is heard (R201, R464). -/
def State.readyTimer (s : State) : State :=
  if !(s.brgOn && s.get CFG_LANDFALL_ROLE == 1 && s.get CFG_LANDFALL_STATE == 1) then s
  else s.brgBroadcast (s.upPortsBut 4)
    ([2] ++ leBytes 4 (s.word CFG_IMAGE_VER).toNat ++ [BitVec.ofNat 8 (s.get CFG_STATUS_GOLDEN), 0, 0])

/-! ### Reception (R439, R448 to R456) -/

/-- Stream key of (SRC, CLASS, CHANNEL). -/
def streamKey (src cls ch : Nat) : Nat := src * 64 + cls * 16 + ch

/-- The result of R452: accepted, duplicate or stale. The held L is stored plus 1; no L accepts any SEQ (R453). -/
def State.seqAccept (s : State) (key seq : Nat) : Nat × State :=
  let l := (cellRead s.brg.rxSeq key).toNat
  let hold (s : State) : State := s.withBrg { s.brg with rxSeq := cellWrite s.brg.rxSeq key (BitVec.ofNat 17 (seq + 1)) }
  if l = 0 then (1, hold s)
  else
    let d := (seq + 65536 - (l - 1)) % 65536
    if d = 0 then (0, s.brgDropIn 6)
    else if d ≤ 4096 then (1, hold (s.brgCount 5 (d - 1)))
    else (0, s.brgDropIn 7)

/-- A broadcast frame that this part has already sent or forwarded (R450). -/
def State.bcastSeen (s : State) (key seq : Nat) : Bool := s.brg.bseen.contains (key, seq)

/-- Remember a broadcast frame; entries over 4,096 away from it are dropped. -/
def State.bcastNote (s : State) (key seq : Nat) : State :=
  let near (q : Nat) : Bool := decide ((seq + 65536 - q) % 65536 < 4096) || decide ((q + 65536 - seq) % 65536 < 4096)
  (s.withBrg { s.brg with bseen := (s.brg.bseen.filter fun e => e.1 != key || near e.2) ++ [(key, seq)] })

/-- Forward a frame on ports, TTL decremented; TTL 0 drops it (R448, R450). -/
def State.brgForward (s : State) (r : BrgRx) (copies : List (Nat × Nat)) : State :=
  if r.ttl = 0 then s.brgDropIn 8
  else
    s.brgEnqueue { cls := r.cls, dst := r.dst, bcast := r.bcast, channel := r.channel, tag := 0, src := r.src, ttl := r.ttl - 1,
                   seq := some r.seq, origin := 2, payload := r.payload, copies := copies }

/-- The port that carries a unicast frame in transit (R448, R449). -/
def State.transitPort (s : State) (dst path : Nat) : Option Nat :=
  let prim := s.get (BRG_ROUTE_PRIM dst)
  let alt := s.get (BRG_ROUTE_ALT dst)
  let want := if path = 0 then prim else alt
  match s.get (BRG_ROUTE_MODE dst) with
  | 3 => none
  | 1 => if s.portUp want then some want else if s.portUp alt then some alt else none
  | _ => if s.portUp want then some want else none

/-- Consume a control frame of Bulk channel 15 (Table BRG-3). -/
def State.brgControl (s : State) (p : Nat) (r : BrgRx) : State :=
  match byteAt r.payload 0 with
  | 2 => s.readyIn r.src (leNat (slice r.payload 1 4)) (byteAt r.payload 5 % 2 == 1)
  | 3 => s.landfallIn (leNat (slice r.payload 1 8))
  | 4 => s.rekeyIn p (leNat (slice r.payload 1 2))
  | 5 => s.rekeyAckIn p (leNat (slice r.payload 1 2))
  | 6 => s.admitIn (byteAt r.payload 1 % 64)
  | _ => s

/-- Device time at the wire in 2^-16 ns, with the error that R459 allows left free. -/
def State.brgStamp (s : State) (p : Nat) : Nat :=
  let bound := if 3 ≤ s.get (LNK_BRG_STATE_RATE (s.get (BRG_PORT_CFG_LANE0 p))) then 52428 else 262144
  let t : Int := ((s.fix.sec * 1000000000 + s.fix.ns) * 65536 + s.fix.frac / 65536 : Nat) + ((s.draw % (2 * bound + 1) : Nat) : Int) - bound
  t.toNat

/-- A stamp as 12 bytes: seconds (6), nanoseconds (4), 2^-16 ns (2). -/
def stampBytes (t : Nat) : List Byte := leBytes 6 (t / 65536 / 1000000000) ++ leBytes 4 (t / 65536 % 1000000000) ++ leBytes 2 (t % 65536)

/-- The stamp of 12 bytes. -/
def stampOf (bs : List Byte) : Nat := (leNat (bs.take 6) * 1000000000 + leNat (slice bs 6 4)) * 65536 + leNat (slice bs 10 2)

/-- The first bytes of a Time payload (Table BRG-7). -/
def State.timeHead (s : State) (type : Nat) : List Byte :=
  let best := s.bestMaster
  let fl := s.get FIX_STATE_TIME_VALID +
    (if s.timeMaster || (s.fixState == fixLocked && s.get FIX_STATE_SELECTED == 1) then 2 else 0)
  [BitVec.ofNat 8 type, BitVec.ofNat 8 (s.get BRG_STATUS_STRATUM), BitVec.ofNat 8 ((best.map (·.2)).getD 0),
   BitVec.ofNat 8 ((best.map (·.1)).getD 255), BitVec.ofNat 8 fl, 0, 0, 0]

/-- An accepted Time frame (R459 to R462): the advertisement is taken; a REQ is answered, a RESP yields delay and offset. -/
def State.timeIn (s : State) (p : Nat) (r : BrgRx) : State :=
  let b (i : Nat) : Nat := byteAt r.payload i
  let s := (s.putBport p { s.bport p with ad := some (b 2, b 3, b 1, b 4) }).brgElect
  let t4 := s.brgStamp p
  let s := s.drawn
  if b 0 = 1 then s.brgToNeighbour p 3 0 (s.timeHead 2 ++ stampBytes t4 ++ List.replicate 12 0)
  else if b 0 = 2 then
    match (s.bport p).reqT1 with
    | none => s
    | some t1 =>
      let t2 : Int := stampOf (slice r.payload 8 12)
      let t3 : Int := stampOf (slice r.payload 20 12)
      let d : Int := ((t4 : Int) - t1) - (t3 - t2)
      let o : Int := (t2 - t1) - ((t4 : Int) - t3)
      let s := (s.put (BRG_PORT_DELAY_DELAY p) (unsigned 32 (d / 2 / 4096))).putBport p { s.bport p with reqT1 := none }
      s.iff (s.get BRG_STATUS_UPSTREAM == p && !s.timeMaster) fun s => s.fixMeasure 1 (o * 16000 / 131072)
  else s

/-- A payload's beats enter the class's receive port (Table BRG-6). A payload of one beat has two meanings for USER[2:0], SRC and the
valid words; the spec does not say which stands there, so they are free (log entry 66). -/
def State.brgBeats (s : State) (r : BrgRx) : State :=
  let n := r.payload.length
  let one := decide (n ≤ 8)
  let first := (if one then r.src / 8 * 8 + s.draw % 8 else r.src) + r.channel * 2 ^ 8 + r.path * 2 ^ 12 + r.seq * 2 ^ 16 + s.fix.ns * 2 ^ 32
  (s.iff one (·.drawn)).streamPush (brgRxPort r.cls)
    (unitBeats first (if one then 0 else (beatCount 4 n + 1) % 2) (dataWords 8 n r.payload))

/-- A frame addressed to this part: the sequence rule, then release on its class port where there is room, or the engine's
own use (R452, R456). -/
def State.brgDeliver (s : State) (p : Nat) (r : BrgRx) (room : Bool) : State :=
  let q := s.seqAccept (streamKey r.src r.cls r.channel) r.seq
  if q.1 = 0 then q.2
  else if r.cls = 3 then q.2.timeIn p r
  else if r.cls = 2 && r.channel == 15 then q.2.brgControl p r
  else if room && s.streamRoom (brgRxPort r.cls) (beatCount 8 r.payload.length) then
    (q.2.brgBeats r).emit (.brgUnit r.cls r.src r.channel r.path r.seq r.payload)
  else q.2.brgDropIn 4

/-- A frame that has passed R439: exclusion, then broadcast, transit or delivery (R448 to R452, R466). -/
def State.brgAccepted (s : State) (p : Nat) (r : BrgRx) (room : Bool) : State :=
  if decide (r.cls ≤ 1) && s.excluded r.src then s.brgDropIn 10
  else if r.bcast then
    let key := streamKey r.src r.cls r.channel
    if r.src = s.ownId then s.iff (r.control 2 && s.get CFG_LANDFALL_ROLE == 2) (·.set CFG_LANDFALL_ID_CONFLICT)
    else
      let fresh := !s.bcastSeen key r.seq
      let s := s.iff fresh fun s =>
        let ports := s.upPortsBut p
        let s := s.bcastNote key r.seq
        if ports.isEmpty then s else s.brgForward r (ports.map fun q => (q, r.path))
      s.brgDeliver p r room
  else if r.dst = s.ownId then s.brgDeliver p r room
  else
    match s.transitPort r.dst r.path with
    | some q => s.brgForward r [(q, r.path)]
    | none => s.brgDropIn 9

/-- The tag of a received frame under the session key of its KEYSEL (R437); the epoch is the current one, the one being
installed, or the one before it. -/
def State.frameEpoch (s : State) (p keysel : Nat) : Nat :=
  let e := s.get (BRG_PORT_STATUS_EPOCH p)
  if e % 2 = keysel then e else if (s.bport p).rekey then (e + 1) % 65536 else (e + 65535) % 65536

/-- The tag passes. -/
def State.tagOk (s : State) (p : Nat) (r : BrgRx) : Bool :=
  match s.brgKey (s.sessSlot p r.keysel) with
  | some key =>
    let iv := linkIv (s.get (BRG_PORT_STATUS_NB_ID p)) (s.get (BRG_PORT_STATUS_NB_PORT p)) (s.frameEpoch p r.keysel) r.lnonce
    (gcmTag key iv r.body []).take (brgTagLen r.cls) == r.tag
  | none => false

/-- Highest LNONCE accepted, plus 1, on a lane under a parity. -/
def BrgPort.seenAt (v : BrgPort) (par lane : Nat) : Nat := v.seen[par * 2 + lane]?.getD 0

/-- A frame arrives whole on a port (R426, R431, R433 to R439, R474). A frame that a transit part ended with an error is dropped whole and
counted with the CRC failures (DESIGN CHOICE, log entry 36: R42 counts every withheld unit and names no counter for it); it is no
failure of this link, so LANE_CRC is not reported. -/
def State.brgFrameIn (s : State) (p : Nat) (second : Bool) (frame : List Byte) (aborted room : Bool) : State :=
  let r := brgParse frame
  if !s.brgOn || s.portState p < 2 then s
  else if aborted then s.brgDropIn 0
  else if decide (16 ≤ frame.length) && !r.crcOk then
    (s.brgDropIn 0).iff (s.portUp p && s.dev == .running) (·.report 25 (s.frameLane p second) p)
  else if !r.formOk then s.brgDropIn 3
  else if r.control 1 then s.helloIn p r
  else if s.portState p = 2 then s.brgDrop
  else if !s.tagOk p r then (s.brgDropIn 1).event 113
  else
    let v := s.bport p
    let lane := if second && s.bit (BRG_PORT_CFG_DUAL p) then 1 else 0
    let here := v.seenAt r.keysel lane
    let there := v.seenAt r.keysel (1 - lane)
    if r.lnonce + 1 ≤ here then s.brgDropIn 2
    else
      let v := { v with seen := v.seen.setIfInBounds (r.keysel * 2 + lane) (r.lnonce + 1) }
      if r.lnonce + 1 ≤ there then s.putBport p v
      else
        let first := here == 0 && there == 0 && s.frameEpoch p r.keysel != 0
        (s.putBport p { v with oldWaits := v.oldWaits || first }).brgAccepted p r room

/-! ### Transmission (R443, R444, R447, R451, R455, R457, R458) -/

/-- Frames of a class in their transmit queue (R457): from the stream port and not yet started. -/
def State.brgQueued (s : State) (cls : Nat) : Nat := (s.brg.queue.filter fun f => f.origin == 0 && f.seq.isNone && f.cls == cls).length

/-- Room of a class queue. -/
def brgQueueMax (cls : Nat) : Nat := if cls = 0 then 16 else 64

/-- Ports and PATH of a frame this part sends (R447); a frame that takes its alternate port carries PATH 1. -/
def State.routeCopies (s : State) (dst : Nat) : List (Nat × Nat) :=
  let prim := s.get (BRG_ROUTE_PRIM dst)
  let alt := s.get (BRG_ROUTE_ALT dst)
  match s.get (BRG_ROUTE_MODE dst) with
  | 0 => [(prim, 0)].filter fun c => s.portUp c.1
  | 1 => if s.portUp prim then [(prim, 0)] else [(alt, 1)].filter fun c => s.portUp c.1
  | 2 => [(prim, 0), (alt, 1)].filter fun c => s.portUp c.1
  | _ => []

/-- A frame arrives on a transmit stream port (R449, R455, R457, R466). -/
def State.brgSubmit (s : State) (cls dst : Nat) (bcast : Bool) (channel tag : Nat) (payload : List Byte) : State :=
  if !s.brgOn || cls = 3 || brgQueueMax cls ≤ s.brgQueued cls then s
  else
    let s := s.streamTake (brgTxPort cls) (beatCount 8 payload.length)
    if !brgLenOk cls payload.length || (cls == 2 && channel == 15) then s.emit (.brgDone cls tag 4)
    else if s.get CFG_LANDFALL_STATE = 4 && cls ≤ 1 then s.emit (.brgDone cls tag 3)
    else
      let copies := if bcast then (s.upPortsBut 4).map fun p => (p, 0) else s.routeCopies dst
      let ttl := if bcast then 1 + s.draw % 63 else s.get (BRG_ROUTE_TTL dst)
      let s := s.iff bcast (·.drawn)
      let mode := s.get (BRG_ROUTE_MODE dst)
      let lost := if bcast then 0 else if mode = 3 then 1 else if mode = 2 then 2 - copies.length else 0
      let s := s.brgCount 9 lost
      if copies.isEmpty then s.emit (.brgDone cls tag 2)
      else s.brgEnqueue { cls := cls, dst := dst, bcast := bcast, channel := channel, tag := tag, src := s.ownId, ttl := ttl, seq := none,
                          origin := 0, payload := payload, copies := copies }

/-- The frame has a copy for port `p`. -/
def BrgTx.on (f : BrgTx) (p : Nat) : Bool := f.copies.any (·.1 == p)

/-- The frame that port `p` sends next (R443, R444): Trip with forwarded and local in turn, then Time, then Sample and Bulk
3 to 1; in KEYING only HELLO (R427). -/
def State.brgNext (s : State) (p : Nat) : Option BrgTx :=
  let v := s.bport p
  let pick (c : BrgTx → Bool) : Option BrgTx := s.brg.queue.find? fun f => f.on p && c f
  if s.portState p = 2 then pick fun f => f.cls == 2 && f.channel == 15 && byteAt f.payload 0 == 1
  else
    let loc := pick fun f => f.cls == 0 && f.origin == 0
    let fwd := pick fun f => f.cls == 0 && f.origin == 2
    let trip := if v.tripLocal then fwd <|> loc else loc <|> fwd
    let smp := pick fun f => f.cls == 1
    let blk := pick fun f => f.cls == 2 && !(f.channel == 15 && byteAt f.payload 0 == 1)
    trip <|> (pick fun f => f.cls == 3) <|> (if v.wrr < 3 then smp <|> blk else blk <|> smp)

/-- The SEQ of a frame that starts: its own, or the next of its stream (R451). A HELLO has none to give: it carries 0. -/
def State.takeSeq (s : State) (f : BrgTx) : Nat × State :=
  match f.seq with
  | some q => (q, s)
  | none =>
    let key := f.cls * 16 + f.channel
    let q := (cellRead s.brg.txSeq key).toNat
    (q, (s.withBrg { s.brg with txSeq := cellWrite s.brg.txSeq key (BitVec.ofNat 16 (q + 1)) }))

/-- Replace or remove a frame after a copy has left: SENT completes a frame of the stream port once none is left. -/
def State.brgCopyGone (s : State) (f : BrgTx) (seq : Nat) (p : Nat) : State :=
  let f' := { f with seq := some seq, copies := f.copies.filter (·.1 != p) }
  let q := if f'.copies.isEmpty then s.brg.queue.erase f else s.brg.queue.map fun g => if g = f then f' else g
  let s := s.withBrg { s.brg with queue := q }
  s.iff (f'.copies.isEmpty && f.origin == 0) (·.emit (.brgDone f.cls f.tag 0))

/-- The last-served marks of the port (R443, R444). -/
def State.brgServed (s : State) (p : Nat) (f : BrgTx) : State :=
  let v := s.bport p
  s.putBport p { v with tripLocal := if f.cls = 0 then f.origin == 0 else v.tripLocal,
                        wrr := if f.cls = 1 then v.wrr + 1 else if f.cls = 2 then 0 else v.wrr }

/-- A Time frame takes its stamps as it leaves: t1 of a REQ is kept, T3 of a RESP is written (R459). -/
def State.timeOut (s : State) (p : Nat) (f : BrgTx) : State × BrgTx :=
  if f.cls ≠ 3 then (s, f)
  else
    let t := s.brgStamp p
    let s := s.drawn
    if byteAt f.payload 0 = 1 then (s.putBport p { s.bport p with reqT1 := some t }, f)
    else (s, { f with payload := f.payload.take 20 ++ stampBytes t })

/-- A frame with its tag and CRC-32 goes out on every lane of the port that is UP (R426), in that lane's line coding (R429, R430). -/
def State.brgEmit (s : State) (p : Nat) (body tag : List Byte) : State :=
  let frame := body ++ tag ++ leBytes 4 (crc32 (body ++ tag)).toNat
  (s.emit (.brgFrame p frame)).each ((s.portLanes p).filter fun n => s.bit (LNK_STATUS_UP n) && s.laneMode n == 4) fun s n =>
    s.lineFrame n frame

/-- The next frame of port `p` starts (R451). A HELLO is authenticated by the link slot; any other frame takes a LNONCE
drawn ahead, or drawn now where a rewrite of the session slot held the draw back, and the GCM tag of the epoch in use. -/
def State.brgTxStart (s : State) (p : Nat) : State :=
  if !s.brgOn || s.portState p < 2 then s
  else
    match s.brgNext p with
    | none => s
    | some f =>
      if s.portState p = 2 then
        let body := brgHead f 0 0 0 0
        match s.helloTag body with
        | some tag => (s.withBrg { s.brg with queue := s.brg.queue.erase f }).brgEmit p body tag
        | none => s
      else
        let s := s.iff (s.bport p).ahead.isEmpty (·.drawAhead p 8)
        match (s.bport p).ahead, s.brgKey (s.sessSlot p (s.bport p).par) with
        | ln :: rest, some key =>
          let t := s.timeOut p f
          let q := t.1.takeSeq f
          let v := q.2.bport p
          let s := (q.2.putBport p { v with ahead := rest }).drawAhead p 8
          let path := ((f.copies.find? (·.1 == p)).map (·.2)).getD 0
          let body := brgHead t.2 v.par q.1 path ln
          let iv := linkIv s.ownId p (s.get (BRG_PORT_STATUS_EPOCH p)) ln
          let s := s.brgEmit p body ((gcmTag key iv body []).take (brgTagLen f.cls))
          let s := s.iff (f.bcast && f.origin != 2) (·.bcastNote (streamKey f.src f.cls f.channel) q.1)
          (s.brgServed p f).brgCopyGone f q.1 p
        | _, _ => s.noteExhausted (s.sessSlot p (s.bport p).par)

/-- CANCEL of a frame still in its queue (R458). -/
def State.brgCancel (s : State) (cls tag : Nat) : State :=
  match s.brg.queue.find? fun f => f.origin == 0 && f.seq.isNone && f.cls == cls && f.tag == tag with
  | some f => (s.withBrg { s.brg with queue := s.brg.queue.erase f }).emit (.brgDone cls tag 1)
  | none => s

/-- Where a copy goes when its port has left UP (R469): a FAILOVER frame to its other port, else nowhere. -/
def State.reroute (s : State) (f : BrgTx) (p : Nat) : List (Nat × Nat) :=
  f.copies.flatMap fun c =>
    if c.1 ≠ p then [c]
    else if f.bcast || f.origin == 1 || s.get (BRG_ROUTE_MODE f.dst) != 1 then []
    else
      let other := if s.get (BRG_ROUTE_PRIM f.dst) = p then (s.get (BRG_ROUTE_ALT f.dst), 1) else (s.get (BRG_ROUTE_PRIM f.dst), 0)
      let path := if f.origin = 2 then c.2 else other.2
      if s.portUp other.1 then [(other.1, path)] else []

/-- A port has left UP: its queued frames move, or complete NO_ROUTE or are dropped; line 116; the master and the upstream
port are chosen again (R461, R469, R470). -/
def State.portDown (s : State) (p : Nat) : State :=
  let v := s.bport p
  if !v.left then s
  else
    let s := (s.putBport p { v with left := false, ad := none, reqT1 := none }).event 116
    let old := s.brg.queue
    let moved := old.map fun f => (f, { f with copies := s.reroute f p })
    let s := s.withBrg { s.brg with queue := (moved.map fun (m : BrgTx × BrgTx) => m.2).filter fun (f : BrgTx) => !f.copies.isEmpty }
    let s := s.each (moved.filter fun (m : BrgTx × BrgTx) => m.2.copies.isEmpty) fun s (m : BrgTx × BrgTx) =>
      if m.1.origin = 0 then s.emit (.brgDone m.1.cls m.1.tag (if m.1.seq.isNone then 2 else 0))
      else s.iff (m.1.origin == 2 && !m.1.bcast) (·.brgCount 9 1)
    s.brgElect

/-! ### Time requests -/

/-- Every 1.0 ms an UP port sends a Time REQ (R459). -/
def State.timeReqTimer (s : State) (p : Nat) : State :=
  s.iff (s.brgOn && s.portUp p) fun s => s.brgToNeighbour p 3 0 (s.timeHead 1 ++ List.replicate 24 0)

/-- An advertisement ages past 20 ms (R460). -/
def State.masterTimeout (s : State) (p : Nat) : State :=
  if s.brgOn && (s.bport p).ad.isSome then (s.putBport p { s.bport p with ad := none }).brgElect else s

/-! ### Start, drain and Watch state -/

/-- The engine starts at fabric release after a load or a wake (R453, R475, R476): no held L, ports as their lanes stand at epoch 0,
NB_ID, NB_PORT and ID_CLASH as they were (Table PWR-4), the part its own time master until it hears a better one. -/
def State.brgStart (s : State) : State :=
  let s := s.withBrg { s.brg with rxSeq := [], ports := Vector.replicate 4 BrgPort.fresh, queue := [] }
  let s := s.each (List.range 4) fun s p => (s.put (BRG_PORT_STATUS_STATE p) 0).put (BRG_PORT_STATUS_EPOCH p) 0
  (s.portsUpdate).iff s.brgOn (·.brgElect)

/-- Landfall begins at the image's fabric release (R201, R205, R464): a standalone part is at landfall; the master counts
itself where it is expected. -/
def State.landfallStart (s : State) : State :=
  match s.get CFG_LANDFALL_ROLE with
  | 1 => s.put CFG_LANDFALL_STATE 1
  | 2 =>
    let s := s.put CFG_LANDFALL_STATE 1
    let golden := s.bit CFG_STATUS_GOLDEN
    let s := s.iff (s.brg.expected.getLsbD s.ownId && (!golden || s.brg.acceptGolden)) fun s =>
      s.countReady s.ownId (s.word CFG_IMAGE_VER).toNat golden
    s.landfallCheck
  | _ => (s.set SYS_SERVICE_LANDFALL).put CFG_LANDFALL_STATE 2   -- STATE: DESIGN CHOICE, log entry 64; R205 gives LANDFALL only

/-- A reload clears landfall (R57). -/
def State.landfallClear (s : State) : State :=
  let s := ((s.clr SYS_SERVICE_LANDFALL).putWord CFG_LANDFALL 0).putExcl 0
  (s.withBrg { s.brg with expected := 0, acceptGolden := false, counted := [], late := [] })

/-- The drain: queued frames complete CANCELLED (R476). -/
def State.brgDrain (s : State) : State :=
  let old := s.brg.queue
  let s := s.withBrg { s.brg with queue := [] }
  s.each (old.filter fun f => f.origin == 0) fun s f => s.emit (.brgDone f.cls f.tag (if f.seq.isNone then 1 else 0))

/-- The retention switch erases the session slots (R476). -/
def State.brgRetention (s : State) : State :=
  s.iff (s.get CFG_LANDFALL_ROLE == 1 || s.get CFG_LANDFALL_ROLE == 2) fun s =>
    s.each (List.range 8) fun s k => s.iff (s.brgSlotOk (s.get BRG_KEY_CFG_SESS_BASE + k)) (·.slotErase (s.get BRG_KEY_CFG_SESS_BASE + k))

/-- Lane `n` belongs to an enabled Bearing port. -/
def State.bearingLane (s : State) (n : Nat) : Bool :=
  (List.range 4).any fun p => s.bit (BRG_PORT_CFG_EN p) && (s.portLanes p).contains n

/-- A loss on a lane of a Bearing port makes Fix source 1 invalid at once, and the ports follow their lanes (R416, R427). -/
def State.laneFell (s : State) (n : Nat) : State :=
  (s.iff (s.bearingLane n && s.laneMode n == 4) (·.sourceInvalid 1)).portsUpdate

/-- LOS_DECLARE with what follows for a Bearing port (R416, R427). -/
def State.losDeclared (s : State) (n : Nat) : State :=
  if s.laneActive n && s.bit (LNK_STATUS_SIGNAL n) then (s.losDeclare n).laneFell n else s

/-- CDR_LOSS with what follows for a Bearing port. -/
def State.cdrLost (s : State) (n : Nat) : State :=
  if s.laneActive n && s.bit (LNK_STATUS_UP n) then (s.cdrLoss n).laneFell n else s

/-- Every lane of a list restarts, and the ports follow. -/
def State.lanesRestart (s : State) (ns : List Nat) : State := (s.each ns fun s n => s.laneRestart n false).portsUpdate

end Sys2Proof.Machine
end

