-- ==== Sys2Proof/Machine/Air.lean ====
section
/-!
DEFINITION. The line modem's air interface: PRBS15, the convolutional code and its puncturing, the interleaver, the
constellations, and the symbols of a burst and of a teleprotection block (R668 to R675, R683). Symbols are (I, Q) levels
before normalising.
-/
namespace Sys2Proof.Machine

/-- The bits of bytes, least significant bit of each byte first. -/
def bitsLsbFirst (bs : List Byte) : List Bool :=
  bs.flatMap fun b => [b.getLsbD 0, b.getLsbD 1, b.getLsbD 2, b.getLsbD 3, b.getLsbD 4, b.getLsbD 5, b.getLsbD 6, b.getLsbD 7]

/-- `n` bits of PRBS15 (x^15 + x^14 + 1). The register's bit 14 is the output, and its feedback enters at bit 0 (DESIGN CHOICE: the spec
names the polynomial and the seed only). -/
def prbs15 : Nat → Nat → List Bool
  | 0, _ => []
  | n + 1, r =>
    let a := r / 2 ^ 14 % 2
    let b := r / 2 ^ 13 % 2
    (a == 1) :: prbs15 n (r * 2 % 2 ^ 15 + (a + b) % 2)

/-- One input bit of the mother code: generators 133 (A) and 171 (B), octal, the input as the most significant tap (R669).
The register holds the last six inputs, the newest in bit 5. -/
def convBit (reg : Nat) (b : Bool) : Bool × Bool :=
  let x (i : Nat) : Bool := reg / 2 ^ i % 2 == 1
  (b ^^ x 4 ^^ x 3 ^^ x 1 ^^ x 0, b ^^ x 5 ^^ x 4 ^^ x 3 ^^ x 0)

/-- The coded pairs of a bit sequence from a register state. -/
def convPairs : Nat → List Bool → List (Bool × Bool)
  | _, [] => []
  | reg, b :: bs => convBit reg b :: convPairs (reg / 2 + (if b then 32 else 0)) bs

/-- Which of A and B is kept at place `i` of the code (Table LMD-3). -/
def kept (cr i : Nat) : Bool × Bool :=
  match cr with
  | 1 => (true, i % 2 == 0)
  | 2 => (i % 3 != 2, i % 3 != 1)
  | 3 => ([true, true, false, true, false].getD (i % 5) false, [true, false, true, false, true].getD (i % 5) false)
  | _ => (true, true)

/-- Puncture coded pairs from place `i` (R670). -/
def puncture (cr : Nat) : Nat → List (Bool × Bool) → List Bool
  | _, [] => []
  | i, (a, b) :: rest =>
    let k := kept cr i
    (if k.1 then [a] else []) ++ (if k.2 then [b] else []) ++ puncture cr (i + 1) rest

/-- Encode from the zero state. -/
def convEncode (cr : Nat) (bs : List Bool) : List Bool := puncture cr 0 (convPairs 0 bs)

/-- Tail-biting: the register starts with the last six bits (R683). -/
def convTailBite (cr : Nat) (bs : List Bool) : List Bool :=
  let last := bs.drop (bs.length - 6)
  puncture cr 0 (convPairs (last.foldl (fun r b => r / 2 + (if b then 32 else 0)) 0) bs)

/-- The interleaver: written row by row in `c` columns, read column by column (R671). -/
def interleave (c : Nat) (bs : List Bool) : List Bool :=
  let r := bs.length / c
  (List.range c).flatMap fun j => (List.range r).map fun i => bs.getD (i * c + j) false

/-- Groups of `m` bits, the first bit most significant. -/
def bitGroups (m : Nat) : Nat → List Bool → List Nat
  | 0, _ => []
  | n + 1, bs => (bs.take m).foldl (fun v b => v * 2 + (if b then 1 else 0)) 0 :: bitGroups m n (bs.drop m)

/-- The level of the bits of one axis (Table LMD-2). -/
def level (half v : Nat) : Int :=
  match half with
  | 1 => [1, -1].getD v 0
  | 2 => [-3, -1, 3, 1].getD v 0
  | _ => [-7, -5, -1, -3, 7, 5, 1, 3].getD v 0

/-- Map bits to symbols of modulation `m` bits each (R668). -/
def mapSymbols (m : Nat) (bs : List Bool) : List (Int × Int) :=
  (bitGroups m (bs.length / m) bs).map fun v => (level (m / 2) (v / 2 ^ (m / 2)), level (m / 2) (v % 2 ^ (m / 2)))

/-- Bits per symbol of a MOD code. -/
def modBits (mod : Nat) : Nat := match mod with
  | 1 => 4
  | 2 => 6
  | _ => 2

/-- Pad with zero bits to a multiple of `n`. -/
def padBits (n : Nat) (bs : List Bool) : List Bool := bs ++ List.replicate ((n - bs.length % n) % n) false

/-- The header bytes (Table LMD-5): LEN, MOD, CR, SEQ and the CRC-8 over the bits in transmitted order. -/
def lmdHeader (len mod cr seq : Nat) : List Byte :=
  let h : List Byte := [BitVec.ofNat 8 len, BitVec.ofNat 8 (len / 256 % 8 + mod % 4 * 8 + cr % 4 * 32), BitVec.ofNat 8 seq]
  h ++ [BitVec.ofNat 8 (crcMsb 8 0x07 0xFF 0 (bitsLsbFirst h))]

/-- A burst (Table LMD-4): preamble, header, scrambled payload with its CRC-32. -/
def burstSymbols (payload : List Byte) (mod cr seed seq : Nat) : List (Int × Int) :=
  let h := lmdHeader payload.length mod cr seq
  let hbits := bitsLsbFirst (h.take 3) ++ bitsMsbFirst (h.drop 3) ++ List.replicate 6 false
  let pbits := bitsLsbFirst (payload ++ leBytes 4 (crc32 payload).toNat)
  let scrambled := List.zipWith (fun a b => a ^^ b) pbits (prbs15 pbits.length 0x7FFF) ++ List.replicate 6 false
  let m := modBits mod
  mapSymbols 2 (prbs15 64 seed) ++ mapSymbols 2 (interleave 19 (convEncode 0 hbits)) ++
    mapSymbols m (interleave 16 (padBits (16 * m) (convEncode cr scrambled)))

/-- The sync byte of a block (Table LMD-6). -/
def tpSync : TpBlock → Nat
  | .guard => 0x1B
  | .command _ => 0xE4
  | .start => 0x8D

/-- A teleprotection block: QPSK sync, INFO tail-biting at rate 2/3 in 16-QAM, C of Table LMD-6 (R683). -/
def tpSymbols (b : TpBlock) (info : List Byte) : List (Int × Int) :=
  let c := match b with
    | .start => 18
    | _ => 15
  mapSymbols 2 (bitsMsbFirst [BitVec.ofNat 8 (tpSync b)]) ++ mapSymbols 4 (interleave c (convTailBite 1 (bitsLsbFirst info)))

/-! ### The receive direction (R672) -/

/-- Read an interleaver's columns back into rows. -/
def deinterleave (c : Nat) (xs : List Int) : List Int :=
  let r := xs.length / c
  (List.range r).flatMap fun i => (List.range c).map fun j => xs.getD (j * r + i) 0

/-- The metrics of `n` coded pairs from place `i` of the code: positive in favour of 1; 0 for an erased bit (R672) and for a punctured one. -/
def depuncture (cr : Nat) : Nat → Nat → List Int → List (Int × Int)
  | _, 0, _ => []
  | i, n + 1, xs =>
    let k := kept cr i
    let ys := if k.1 then xs.drop 1 else xs
    (if k.1 then xs.headD 0 else 0, if k.2 then ys.headD 0 else 0) :: depuncture cr (i + 1) n (if k.2 then ys.drop 1 else ys)

/-- A path into a state of the code: its metric, none where there is no path, and its bits, newest first. -/
abbrev CodePath : Type := Option Int × List Bool

/-- The better of two paths; which, where their metrics are equal, is open. -/
def betterPath (x y : CodePath) : CodePath :=
  match x.1, y.1 with
  | none, _ => y
  | _, none => x
  | some a, some b => (some (max a b), if a < b then y.2 else if b < a then x.2 else if Config.viterbiTie a then y.2 else x.2)

/-- A coded pair passes the decoder: each of the 64 states keeps its better path. -/
def viterbiStep (paths : List CodePath) (x : Int × Int) : List CodePath :=
  (List.range 64).map fun st =>
    let b := decide (32 ≤ st)
    let from_ (k : Nat) : CodePath :=
      let old := st % 32 * 2 + k
      let e := convBit old b
      let p := paths.getD old (none, [])
      (p.1.map fun m => m + (if e.1 then x.1 else -x.1) + (if e.2 then x.2 else -x.2), b :: p.2)
    betterPath (from_ 0) (from_ 1)

/-- The best path from state `a` back to state `a`. -/
def viterbi (a : Nat) (xs : List (Int × Int)) : CodePath :=
  (xs.foldl viterbiStep ((List.range 64).map fun st => (if st = a then some 0 else none, []))).getD a (none, [])

/-- `n` bits decoded from a code that ends in six zero tail bits. -/
def convDecode (cr n : Nat) (xs : List Int) : List Bool := ((viterbi 0 (depuncture cr 0 (n + 6) xs)).2.reverse).take n

/-- `n` bits decoded from a tail-biting code: the best of the paths that end in the state they began in. -/
def convDecodeTail (cr n : Nat) (xs : List Int) : List Bool :=
  (((List.range 64).map fun a => viterbi a (depuncture cr 0 n xs)).foldl betterPath (none, [])).2.reverse

/-- Bytes of a bit sequence, least significant bit first. -/
def bytesLsbFirst : Nat → List Bool → List Byte
  | 0, _ => []
  | n + 1, bs => BitVec.ofNat 8 ((bs.take 8).foldr (fun b v => 2 * v + if b then 1 else 0) 0) :: bytesLsbFirst n (bs.drop 8)

/-- The header bytes of a received burst: H3 is sent most significant bit first (R674). -/
def headerDecode (xs : List Int) : List Byte :=
  let bits := convDecode 0 32 (deinterleave 19 xs)
  bytesLsbFirst 3 bits ++ [BitVec.ofNat 8 ((bits.drop 24).foldl (fun v b => 2 * v + if b then 1 else 0) 0)]

/-- Payload and CRC-32 of a received burst of `len` payload bytes at code rate `cr` (R673 to R675). -/
def payloadDecode (cr len : Nat) (xs : List Int) : List Byte × Word :=
  let n := 8 * (len + 4)
  let bytes := bytesLsbFirst (len + 4) (List.zipWith (fun a b => a ^^ b) (convDecode cr n (deinterleave 16 xs)) (prbs15 n 0x7FFF))
  (bytes.take len, BitVec.ofNat 32 (leNat (bytes.drop len)))

/-- Coded bits of `len` payload bytes, padded (R675). -/
def codedLength (mod cr len : Nat) : Nat :=
  let n := (puncture cr 0 (List.replicate (8 * (len + 4) + 6) (false, false))).length
  n + (16 * modBits mod - n % (16 * modBits mod)) % (16 * modBits mod)

/-- The INFO bytes of a received teleprotection block (R683). -/
def infoDecode (start : Bool) (xs : List Int) : List Byte :=
  let n := if start then 18 else 5
  bytesLsbFirst n (convDecodeTail 1 (8 * n) (deinterleave (if start then 18 else 15) xs))

end Sys2Proof.Machine
end

