-- ==== Sys2Proof/Machine/Lmd.lean ====
section
/-!
DEFINITION. The line-carrier modem: bursts and their queue, teleprotection blocks and their delivery, the receivers, the mask
monitor, and its starts and stops (R660 to R728).
-/
namespace Sys2Proof.Machine

/-- The hidden state of TX channel `t`. -/
def State.tx (s : State) (t : Nat) : LmdTx := s.lmdTx[t]?.getD LmdTx.fresh

/-- Replace the hidden state of TX channel `t`. -/
def State.putTx (s : State) (t : Nat) (v : LmdTx) : State := s.withLmdTx (s.lmdTx.setIfInBounds t v)

/-- The hidden state of RX channel `r`. -/
def State.rx (s : State) (r : Nat) : LmdRx := s.lmdRx[r]?.getD LmdRx.fresh

/-- Replace the hidden state of RX channel `r`. -/
def State.putRx (s : State) (r : Nat) (v : LmdRx) : State := s.withLmdRx (s.lmdRx.setIfInBounds r v)

/-! ### Channels (R661 to R665) -/

/-- The modem may run: the radio domain is in service and LMD_CFG.EN is set. -/
def State.lmdOn (s : State) : Bool := s.radioOn && s.bit LMD_CFG_EN

/-- TX channel `t` is enabled. -/
def State.txOn (s : State) (t : Nat) : Bool := s.lmdOn && s.bit (TX_CFG_EN t)

/-- The line DAC gives channel `t` its output (R661). -/
def State.txOutput (s : State) (t : Nat) : Bool :=
  s.get SMP_CFG_DAC_EN / 2 ^ t % 2 == 1 && s.get SMP_CFG_DAC_SRC / 2 ^ t % 2 == 0

/-- The nine setting registers of RX channel `r`, RX_CFG to RX_FLOOD. -/
def State.rxWords (s : State) (r : Nat) : List Word := (List.range 9).map fun k => s.word (RX_CFG r + 4 * k)

/-- A setting of RX channel `r`, as its last unit boundary took it (R722). -/
def State.rxSet (s : State) (r : Nat) (f : Fld) : Nat := bitsOf ((s.rx r).set.getD ((f.addr - RX_CFG r) / 4) 0) f.lo f.width

/-- A unit boundary: the settings of RX channel `r` are taken (R722). -/
def State.rxTake (s : State) (r : Nat) : State := s.putRx r { s.rx r with set := s.rxWords r }

/-- The boundary after a block of a channel in TP mode. -/
def State.rxBlockEnd (s : State) (r : Nat) : State := s.iff (s.rxSet r (RX_CFG_MODE r) == 1) (·.rxTake r)

/-- RX channel `r` receives. -/
def State.rxOn (s : State) (r : Nat) : Bool := s.lmdOn && s.rxSet r (RX_CFG_EN r) == 1 && s.spllOk && s.bit SMP_CFG_LINE_EN

/-- TX channel `t` is in TP mode, by the settings it started with (R722). -/
def State.txTp (s : State) (t : Nat) : Bool := bitsOf (s.tx t).cfg 30 1 == 1

/-- RX channel `r` is in TP mode. -/
def State.rxTp (s : State) (r : Nat) : Bool := s.rxSet r (RX_CFG_MODE r) == 1

/-- The channel bandwidth of a BW code in hertz (Table LMD-1). -/
def lmdBand (bw : Nat) : Nat := match bw with
  | 0 => 2500
  | 1 => 4000
  | 2 => 8000
  | _ => 16000

/-- The whole channel lies between 24 kHz and 500 kHz (R664). -/
def lmdFits (hz bw : Nat) : Bool :=
  decide (48000 + lmdBand bw ≤ 2 * hz) && decide (2 * hz + lmdBand bw ≤ 1000000)

/-- The registers of the channel that a FREQ or CFG address belongs to: FREQ, BW and RANGE_DROP (R665). -/
def lmdChannelOf (addr : Nat) : Option (Fld × Fld × Fld) :=
  if addr = TX_CFG 0 ∨ addr = TX_FREQ 0 then some (TX_FREQ_HZ 0, TX_CFG_BW 0, TX_STATUS_RANGE_DROP 0)
  else if addr = TX_CFG 1 ∨ addr = TX_FREQ 1 then some (TX_FREQ_HZ 1, TX_CFG_BW 1, TX_STATUS_RANGE_DROP 1)
  else if addr = RX_CFG 0 ∨ addr = RX_FREQ 0 then some (RX_FREQ_HZ 0, RX_CFG_BW 0, RX_STATUS_RANGE_DROP 0)
  else if addr = RX_CFG 1 ∨ addr = RX_FREQ 1 then some (RX_FREQ_HZ 1, RX_CFG_BW 1, RX_STATUS_RANGE_DROP 1)
  else none

/-- STATE and CAUSE of a TX channel; a change raises line 216 + t. -/
def State.txState (s : State) (t st cause : Nat) : State :=
  let ev := s.get (TX_STATUS_STATE t) != st || s.get (TX_STATUS_CAUSE t) != cause
  ((s.put (TX_STATUS_STATE t) st).put (TX_STATUS_CAUSE t) cause).iff ev (·.event (216 + t))

/-- A completion of the transmit queue (R680). -/
def State.lmdDone (s : State) (t : Nat) (f : LmdFrame) (seq status : Nat) : State := s.emit (.lmdDone t f.tag seq status)

/-! ### Cutting a unit and stopping (R695, R705, R710, R726) -/

/-- Events not delivered: one per bit of the cut COMMAND block's vector (R695). -/
def State.notDelivered (s : State) (t vector : Nat) : State :=
  s.each ((List.range 4).filter fun b => vector / 2 ^ b % 2 == 1) fun s b =>
    ((s.satInc (TX_ND_COUNT_COUNT t) (TX_ND_COUNT_OVF t)).set ⟨TX_STATUS t, 4 + b, 1⟩).event (218 + t)

/-- The unit on air is cut: its burst completes ABORTED, and its block's events are not delivered where `nd` holds. -/
def State.txCut (s : State) (t : Nat) (nd : Bool) : State :=
  let v := s.tx t
  let aborts (s : State) : State := s.satInc (TX_ABORTS_COUNT t) (TX_ABORTS_OVF t)
  let s := match v.burst with
    | some (f, seq) => aborts (s.lmdDone t f seq 2)
    | none => s
  let s := match v.block with
    | some (.command x) => aborts (s.iff nd fun s => s.notDelivered t x)
    | some _ => aborts s
    | none => s
  s.putTx t { v with burst := none, block := none }

/-- A stop at once: the ramp is skipped (R705, R710). -/
def State.txStop (s : State) (t cause : Nat) : State :=
  let s := s.txCut t true
  (s.putTx t { s.tx t with down := false, carried := [0, 0, 0, 0] }).txState t 4 cause

/-- A disable: the unit is cut and the PA ramps down (R680, R695, R710). -/
def State.txDisable (s : State) (t : Nat) : State :=
  let on := s.get (TX_STATUS_STATE t) == 1 || s.get (TX_STATUS_STATE t) == 2
  let s := s.txCut t true
  (s.putTx t { s.tx t with down := on, carried := [0, 0, 0, 0] }).txState t (if on then 1 else 0) 0

/-- A stop with cause KEY (R687). -/
def State.txKeyStop (s : State) (t : Nat) : State := (s.txStop t 3).event 233

/-! ### Starting a channel (R688, R709, R727) -/

/-- A fresh SESSION from the random source; a failed source refuses it (R479, R688). -/
def State.txSession (s : State) (t : Nat) : Option State :=
  if s.bit CPH_STATUS_RNG_FAIL || s.cph.rngFails then none
  else
    let s' := (s.drawn.set (TX_SESSION_VALID t)).put (TX_SESSION_SESSION t) s.draw
    some (s'.putTx t { s'.tx t with startDue := true, since := 0, carried := [0, 0, 0, 0] })

/-- The settings that a burst start or a channel start takes (R722). -/
def State.txLatch (s : State) (t : Nat) : State :=
  s.putTx t { s.tx t with cfg := s.word (TX_CFG t), rates := (List.range 4).map fun j => s.word (TX_RATE t j),
                          freq := s.word (TX_FREQ t), coefs := (List.range 255).map fun k => s.word (TX_COEF t k) }

/-- Start TX channel `t`: STOPPED while tripped, without output or clock; DATA waits with the PA off; TP ramps up and opens
a session (R661, R707, R711, R727). Frames left in the queue of a channel that starts in TP mode complete REFUSED. -/
def State.txStart (s : State) (t : Nat) : State :=
  if s.bit LMD_MON_STATUS_TRIPPED then s.txState t 4 1
  else if !s.txOutput t then s.txState t 4 5
  else if !s.spllOk then s.txState t 4 2
  else
    let s := s.txLatch t
    let s := s.putTx t { s.tx t with down := false, burst := none, block := none }
    if s.txTp t then
      let s := s.each (s.tx t).queue fun s f => s.lmdDone t f 0 4
      let s := s.putTx t { s.tx t with queue := [] }
      match s.txSession t with
      | some s' => s'.txState t 1 0
      | none => s.txKeyStop t
    else s.txState t 3 0

/-! ### Bursts (R677 to R682) -/

/-- A rate slot is enabled. -/
def State.txRateOn (s : State) (t rate : Nat) : Bool := s.bit (TX_RATE_EN t rate)

/-- A frame has arrived on TX data port `t` (R677, R680). READY is low while 8 frames are queued. -/
def State.lmdSubmit (s : State) (t : Nat) (f : LmdFrame) : State :=
  let v := s.tx t
  if !s.radioOn then s
  else if s.get (TX_STATUS_STATE t) == 0 || s.get (TX_STATUS_STATE t) == 4 || s.txTp t then s.lmdDone t f 0 4
  else if 8 ≤ v.queue.length ∨ 16384 < (v.queue.map (·.payload.length)).sum + 2047 then s
  else if f.payload.length = 0 ∨ 2047 < f.payload.length ∨ !s.txRateOn t f.rate then s.lmdDone t f 0 3
  else s.putTx t { v with queue := v.queue ++ [f] }

/-- Taps of the TX FIR of a TX_CFG word: 2 × HTAPS + 1 (R666). -/
def txTaps (cfg : Word) : Nat := 2 * max 4 (bitsOf cfg 20 7) + 1

/-- The samples behind the TX FIR, eight a symbol: symbols with seven zeros between them against the Q1.15 coefficients, the filter's tail at the
end (R666). -/
def State.txFir (s : State) (t : Nat) (symbols : List (Int × Int)) : List (Int × Int) :=
  let taps := txTaps (s.tx t).cfg
  let rail (f : Int × Int → Int) (n : Nat) : Int := sumOver taps fun k =>
    if k ≤ n ∧ (n - k) % 8 = 0 then signed 16 ((s.tx t).coefs.getD k 0).toNat * f (symbols.getD ((n - k) / 8) (0, 0)) else 0
  (List.range (8 * symbols.length + taps - 1)).map fun n => (rail (·.1) n, rail (·.2) n)

/-- The DAC code `n` samples of 10 MS/s into a burst or block: the interpolated samples mixed to the carrier and scaled by GAIN (R666). -/
def State.txCode (s : State) (t : Nat) (symbols : List (Int × Int)) (n : Nat) : BitVec 16 :=
  BitVec.ofNat 16 (unsigned 16 (Config.lineInterpolate (bitsOf (s.tx t).freq 0 20) (s.get (TX_LEVEL_GAIN t)) (s.txFir t symbols) n))

/-- A burst or block goes on air: its symbols and what the TX FIR makes of them. -/
def State.lmdSend (s : State) (t : Nat) (symbols : List (Int × Int)) : State := (s.emit (.lmdAir t symbols)).emit (.lmdFir t (s.txFir t symbols))

/-- The code of PA_RAMP `x` of `n` steps into a ramp up: 64 evenly spaced points, linear between them (R709, R711). -/
def State.rampCode (s : State) (t x n : Nat) : Int :=
  let p := 63 * x / max 1 n
  let a : Int := s.get ⟨TX_RAMPP t p, 0, 10⟩
  let b : Int := s.get ⟨TX_RAMPP t (min 63 (p + 1)), 0, 10⟩
  a + (b - a) * ((63 * x % max 1 n : Nat) : Int) / (max 1 n : Nat)

/-- The air symbols of the burst that has started. -/
def State.txAir (s : State) (t : Nat) : State :=
  match (s.tx t).burst with
  | some (f, seq) =>
    let w := (s.tx t).rates.getD f.rate 0
    s.lmdSend t (burstSymbols f.payload (bitsOf w 24 2) (bitsOf w 20 2) (bitsOf w 0 15) seq)
  | none => s

/-- A burst starts: the settings are taken, SEQ is assigned, and the PA ramps up unless it is on (R678, R679, R709, R722). -/
def State.burstStart (s : State) (t : Nat) : State :=
  let v := s.tx t
  let st := s.get (TX_STATUS_STATE t)
  if !(s.txOn t && !s.txTp t && v.burst.isNone && (st == 3 || st == 2)) then s
  else
    match v.queue with
    | [] => s
    | f :: rest =>
      let s := s.txLatch t
      if s.txTp t then s.txStart t
      else
        let s := s.putTx t { s.tx t with queue := rest }
        if !s.txRateOn t f.rate then s.lmdDone t f 0 3
        else
          let s := s.putTx t { s.tx t with burst := some (f, v.seq), seq := (v.seq + 1) % 256, down := false }
          if st = 2 then s.txAir t else s.txState t 1 0

/-- A burst's last payload symbol has been sent: SENT, and the PA stays on for the next frame or ramps down (R679). -/
def State.burstEnd (s : State) (t : Nat) : State :=
  match (s.tx t).burst with
  | some (f, seq) =>
    if s.get (TX_STATUS_STATE t) != 2 then s
    else
      let s := (s.lmdDone t f seq 0).modInc (TX_UNITS_COUNT t)
      let v := s.tx t
      if v.queue.isEmpty then (s.putTx t { v with burst := none, down := true }).txState t 1 0
      else s.putTx t { v with burst := none }
  | none => s

/-- Remove the first element that satisfies `p`. -/
def dropFirst {α : Type} (p : α → Bool) : List α → List α
  | [] => []
  | x :: xs => if p x then xs else x :: dropFirst p xs

/-- A cancel: the oldest queued frame of that TAG completes CANCELLED; a started one is left (R681, R682). -/
def State.lmdCancel (s : State) (t tag : Nat) : State :=
  let v := s.tx t
  match v.queue.find? (·.tag == tag) with
  | some f => (s.putTx t { v with queue := dropFirst (·.tag == tag) v.queue }).lmdDone t f 0 1
  | none => s

/-- The ramp up has ended and modulated output begins (R709). -/
def State.rampUp (s : State) (t : Nat) : State :=
  if s.get (TX_STATUS_STATE t) == 1 && !(s.tx t).down then (s.txState t 2 0).txAir t else s

/-- The ramp down has ended and PA_EN has fallen (R710). -/
def State.rampDown (s : State) (t : Nat) : State :=
  if s.get (TX_STATUS_STATE t) == 1 && (s.tx t).down then
    (s.putTx t { s.tx t with down := false }).txState t (if s.txOn t then 3 else 0) 0
  else s

/-! ### Teleprotection transmit (R683 to R696) -/

/-- LINK_ID ∥ DIR ∥ SESSION (R684). -/
def tpFixed (link dir session : Nat) : List Byte := beBytes 2 link ++ beBytes 1 dir ++ beBytes 3 session

/-- The INFO bytes that precede TAG (Table LMD-6). -/
def tpInfo (b : TpBlock) (nd n session time : Nat) : List Byte :=
  match b with
  | .guard => [BitVec.ofNat 8 (nd % 16 + n % 16 * 16)]
  | .command v => [BitVec.ofNat 8 (v % 16 + n % 16 * 16)]
  | .start => BitVec.ofNat 8 (nd % 16) :: (beBytes 6 n ++ beBytes 3 session ++ beBytes 4 time)

/-- TAG of a block (R684). -/
def tpTag (key iv : List Byte) (b : TpBlock) (info : List Byte) : List Byte :=
  (gcmTag key iv (BitVec.ofNat 8 (tpSync b) :: info) []).take 4

/-- The slot may serve the modem's client port in a direction (R518, R685): op 1 ENCRYPT, op 2 DECRYPT. -/
def State.tpSlotOk (s : State) (k op : Nat) : Bool :=
  s.released && s.lmdSlotOk k && (s.slot k).valid && mbMode (s.slot k).modebind == 4 && mbAllows (s.slot k).modebind op

/-- The vector of a block. -/
def TpBlock.vector : TpBlock → Nat
  | .command v => v
  | _ => 0

/-- Counts of COMMAND blocks started, per bit of the event each carries (R694). -/
def carriedNext (carried : List Nat) (vector : Nat) : List Nat :=
  (List.range 4).map fun b => if vector / 2 ^ b % 2 == 1 then carried.getD b 0 + 1 else 0

/-- The block that follows goes on air, its GCM tag requested first (R684 to R687). `whole`: the block on air has been sent whole; else
it is cut by a changed vector. A request on a slot whose rewrite waits completes SLOT_CHANGED. -/
def State.tpBlock (s : State) (t : Nat) (whole : Bool) (b : TpBlock) (mismatch : Bool) : State :=
  let k := s.get (TX_TP_SLOT t)
  let v := s.slot k
  if !s.tpSlotOk k 1 then s.txKeyStop t
  else if v.shadow.isSome then
    match (s.txCut t false).txSession t with
    | some s' => s'
    | none => (s.txCut t false).txKeyStop t
  else
    match s.drawCtr k with
    | none => (s.noteExhausted k).txKeyStop t
    | some (n, s) =>
      if mismatch && (s.bit CPH_CFG_GUARD_ALL || mbGuard v.modebind) then
        ((s.drawn.cphCount stGuard).report 26 k s.draw).txKeyStop t
      else
        let s := s.cphCount stComplete
        let x := s.tx t
        let s := match x.block with
          | some _ => if whole then s.modInc (TX_UNITS_COUNT t) else s.satInc (TX_ABORTS_COUNT t) (TX_ABORTS_OVF t)
          | none => s
        let sess := s.get (TX_SESSION_SESSION t)
        let info := tpInfo b (s.get (TX_ND_COUNT_COUNT t)) n sess (s.fix.sec % 2 ^ 32)
        let iv := tpFixed (s.get (TX_TP_LINK_ID t)) (s.get (TX_TP_DIR t)) sess ++ beBytes 6 n
        let sent := whole && (match x.block with
          | some .start => true
          | _ => false)
        let s := s.putTx t { x with
          block := some b, carried := carriedNext x.carried b.vector,
          startDue := x.startDue && !sent || decide (s.get (TX_TP_START_EVERY t) ≤ x.since + 1),
          since := if sent then 1 else if b == .start then 0 else x.since + 1 }
        (s.put (TX_STATUS_CMD t) b.vector).lmdSend t (tpSymbols b (info ++ tpTag v.key iv b info))

/-- TX channel `t` sends blocks. -/
def State.tpSending (s : State) (t : Nat) : Bool :=
  s.txOn t && s.txTp t && s.get (TX_STATUS_STATE t) == 2 && !s.cphHold

/-- The sampled vector with the bits held for MIN_BLOCKS whole blocks (R694): a bit is held while the COMMAND blocks that are over
are fewer than MIN_BLOCKS. -/
def State.tpVector (s : State) (t : Nat) (atEnd : Bool) : Nat :=
  let x := s.tx t
  let min := bitsOf x.cfg 16 4
  (List.range 4).foldl (fun n b =>
    let c := x.carried.getD b 0
    let held := c != 0 && (if atEnd then decide (c < min) else decide (c ≤ min))
    n + if x.cmd / 2 ^ b % 2 == 1 || held then 2 ^ b else 0) 0

/-- A block falls due: a COMMAND block while a command is active, the first START of a session before anything, a START that is due
once no command is active, else a GUARD block (R688, R693). -/
def State.tpDue (s : State) (t : Nat) (mismatch : Bool) : State :=
  if !s.tpSending t then s
  else
    let x := s.tx t
    let v := s.tpVector t true
    let opening := x.startDue && x.block.isNone
    let b := if opening then .start else if v != 0 then .command v else if x.startDue && x.block != some .start then .start else .guard
    s.tpBlock t true b mismatch

/-- The vector is sampled (R693): one that differs from the block on air cuts it. -/
def State.tpSample (s : State) (t vector : Nat) (mismatch : Bool) : State :=
  let s := s.putTx t { s.tx t with cmd := vector % 16 }
  match (s.tx t).block with
  | none => s
  | some on =>
    let v := s.tpVector t false
    if !s.tpSending t || v == on.vector then s
    else s.tpBlock t false (if v = 0 then .guard else .command v) mismatch

/-! ### Receive (R672, R676, R689 to R700, R712 to R718) -/

/-- Increment counter `c` of Table LMD-11. -/
def State.rxCount (s : State) (r c : Nat) : State := s.satInc (RX_CNT_COUNT r c) (RX_CNT_OVF r c)

/-- TPOUT_r; a change raises line 222 + r (R698). -/
def State.tpOut (s : State) (r v : Nat) : State :=
  (s.put (RX_STATUS_TPOUT r) v).iff (s.get (RX_STATUS_TPOUT r) != v % 16) (·.event (222 + r))

/-- Enter RESYNC (R691). -/
def State.rxResync (s : State) (r : Nat) : State :=
  (s.set (RX_STATUS_RESYNC r)).iff (!s.bit (RX_STATUS_RESYNC r)) (·.event (230 + r))

/-- A unit that fails its check: counted by its own counter, and by FLOOD_FAIL in a flood (R716). -/
def State.rxDrop (s : State) (r c : Nat) : State :=
  let s := ((s.rxCount r c).set (RX_STATUS_DROP r)).event (226 + r)
  s.iff (s.bit (RX_STATUS_FLOOD r)) (·.rxCount r 7)

/-- A block that fails: preempted where the later block passes (R692). -/
def State.rxBlockFail (s : State) (r : Nat) (preempted : Bool) : State :=
  let s := s.putRx r { s.rx r with run := 0 }
  if preempted then s.rxCount r 6 else s.rxDrop r 2

/-- A block verifies under a counter and a session (R684, R689): the first bytes of INFO against its last four. While the engine clock is
muted none verifies (R51, R528; log entry 65). -/
def State.rxVerify (s : State) (r : Nat) (b : TpBlock) (info : List Byte) (n session : Nat) : Bool :=
  let k := s.rxSet r (RX_CFG_SLOT r)
  let iv := tpFixed (s.rxSet r (RX_TP_LINK_ID r)) (s.rxSet r (RX_TP_DIR r)) session ++ beBytes 6 n
  let body := info.take (info.length - 4)
  s.tpSlotOk k 2 && !s.cphHold && decide (n < 2 ^ 48) && tpTag (s.slot k).key iv b body == info.drop (info.length - 4)

/-- An accepted block: N_last, the restore run and GUARD_OK, the unit count and its SNR (R689, R699). -/
def State.rxAccept (s : State) (r n snr : Nat) : State :=
  let run := (s.rx r).run + 1
  let s := (s.putRx r { s.rx r with nLast := n, run := run }).modInc (RX_UNITS_COUNT r) |>.put (RX_SNR_SNR r) snr
  s.iff (!s.bit (RX_STATUS_GUARD_OK r) && decide (s.rxSet r (RX_GUARD_GUARD_RESTORE r) ≤ run)) fun s =>
    (s.set (RX_STATUS_GUARD_OK r)).event (224 + r)

/-- The ND of an accepted GUARD or START block (R696). -/
def State.rxNd (s : State) (r nd : Nat) : State :=
  let s' := s.putRx r { s.rx r with nd := some (nd % 16) }
  match (s.rx r).nd with
  | some held => s'.satAdd (RX_CNT_COUNT r 4) (RX_CNT_OVF r 4) ((nd % 16 + 16 - held) % 16)
  | none => s'

/-- The smallest counter above `last` whose low four bits are `low` (R689). -/
def nextN (last low : Nat) : Nat := last + 1 + (low + 16 - (last + 1) % 16) % 16

/-- A GUARD or COMMAND block, checked (R689, R698). -/
def State.rxShort (s : State) (r : Nat) (cmd : Bool) (info : List Byte) (erased preempted : Bool) (snr : Nat) : State :=
  if !(s.rxOn r && s.rxTp r) || s.bit (RX_STATUS_RESYNC r) then s
  else
    let i0 := byteAt info 0
    let n := nextN (s.rx r).nLast (i0 / 16)
    let b : TpBlock := if cmd then .command 0 else .guard
    if erased || info.length != 5 || !s.rxVerify r b info n (s.get (RX_SESSION_SESSION r)) then s.rxBlockFail r preempted
    else
      let s := s.rxAccept r n snr
      if cmd then s.tpOut r (i0 % 16) else (s.rxNd r i0).tpOut r 0

/-- A COMMAND block that ended before its last symbol (R697). -/
def State.rxTruncated (s : State) (r : Nat) : State :=
  if !(s.rxOn r && s.rxTp r) then s else (s.putRx r { s.rx r with run := 0 }).rxCount r 3

/-- Seconds between two 32-bit times, the nearer way round. -/
def secsApart (a b : Nat) : Nat := min ((a + 2 ^ 32 - b) % 2 ^ 32) ((b + 2 ^ 32 - a) % 2 ^ 32)

/-- A START block, accepted or counted as a replay (R690, R691, R696). -/
def State.rxStart (s : State) (r : Nat) (info : List Byte) (erased preempted : Bool) (snr : Nat) : State :=
  if !(s.rxOn r && s.rxTp r) then s
  else
    let n := beNat (slice info 1 6)
    let sess := beNat (slice info 7 3)
    let time := beNat (slice info 10 4)
    if erased || info.length != 18 || !s.rxVerify r .start info n sess then s.rxBlockFail r preempted
    else
      let same := s.bit (RX_SESSION_VALID r) && s.get (RX_SESSION_SESSION r) == sess
      let w := s.rxSet r (RX_TP_START_WINDOW_S r)
      let fresh := w == 0 || (decide (secsApart time (s.fix.sec % 2 ^ 32) ≤ w) && s.bit FIX_STATE_TIME_VALID)
      if !(if same then decide ((s.rx r).nLast < n) else fresh) then s.rxCount r 5
      else
        let s := ((s.set (RX_SESSION_VALID r)).put (RX_SESSION_SESSION r) sess).clr (RX_STATUS_RESYNC r)
        ((s.rxAccept r n snr).rxNd r (byteAt info 0)).tpOut r 0

/-- CMD_HOLD block periods without an accepted block after a COMMAND (R698). -/
def State.cmdHold (s : State) (r : Nat) : State := s.iff s.radioOn (·.tpOut r 0)

/-- GUARD_LOSS block periods without an accepted block (R699). -/
def State.guardLoss (s : State) (r : Nat) : State :=
  s.iff s.radioOn fun s =>
    let s := s.putRx r { s.rx r with run := 0 }
    s.iff (s.bit (RX_STATUS_GUARD_OK r)) fun s =>
      (((s.clr (RX_STATUS_GUARD_OK r)).set (RX_STATUS_GUARD_LOST r)).rxCount r 10).event (224 + r)

/-- Sixteen block periods without an accepted block (R691). -/
def State.rxTimeout (s : State) (r : Nat) : State := s.iff (s.rxOn r && s.rxTp r) fun s => (s.rxResync r).rxTake r

/-- LMD_CMD RX_RESYNC: RESYNC, SESSION and the held ND cleared (Table LMD-10). -/
def State.rxForce (s : State) (r : Nat) : State :=
  ((s.rxResync r).putWord (RX_SESSION r) 0).putRx r { s.rx r with nd := none, run := 0 }

/-- A preamble of an enabled rate slot (R712, R713): 6 dB is taken as a factor of 1.9953 in the correlation (DEDUCED). -/
def State.rxPreamble (s : State) (r slot corr : Nat) : State :=
  let w := (s.rx r).set.getD (2 + slot) 0
  let ok := s.rxOn r && !s.rxTp r && bitsOf w 31 1 == 1 && s.rxSet r (RX_CFG_RATE_EN r) / 2 ^ slot % 2 == 1 &&
    decide (s.rxSet r (RX_GUARD_DET_THR r) ≤ corr)
  if !ok then s
  else
    let begin_ (s : State) : State :=
      (s.putRx r { s.rx r with burst := some (slot, bitsOf w 24 2, bitsOf w 20 2, corr) }).set (RX_STATUS_BUSY r)
    match (s.rx r).burst with
    | none => begin_ s
    | some (_, _, _, old) => if old * 19953 ≤ corr * 10000 then begin_ (s.rxCount r 6) else s

/-- The beats of a received burst (Table LMD-8): 32-bit DATA; USER of the first beat carries the instant of the first preamble symbol, RATE, FLOOD
and SEQ, that of the last the valid bytes − 1. On a burst of one beat the two share bits [1:0], which are then free. -/
def State.rxBeats (s : State) (r slot seq instant : Nat) (payload : List Byte) : List Beat :=
  let first := instant % 1000000000 + instant / 1000000000 % 65536 * 2 ^ 32 + slot * 2 ^ 48 + s.get (RX_STATUS_FLOOD r) * 2 ^ 50 + seq * 2 ^ 56
  let one := decide (payload.length ≤ 4)
  unitBeats (if one then first / 4 * 4 + s.draw % 4 else first) (if one then 0 else (payload.length + 3) % 4) (dataWords 4 payload.length payload)

/-- A received burst, from the metrics of its coded bits (R672, R676, R716, R718): released only when header, rate and CRC-32 match; a full or
isolated port drops it. From the drain on it is withheld (Table PWR-3). -/
def State.rxBurst (s : State) (r : Nat) (soft body : List Int) (snr : Nat) (room : Bool) : State :=
  match if s.radioOn then (s.rx r).burst else none with
  | none => s
  | some (slot, mod, cr, _) =>
    let s := ((s.putRx r { s.rx r with burst := none }).clr (RX_STATUS_BUSY r)).rxTake r
    let header := headerDecode soft
    let len := byteAt header 0 + byteAt header 1 % 8 * 256
    let p := payloadDecode cr len body
    if header != lmdHeader len mod cr (byteAt header 2) || len = 0 then s.rxDrop r 0
    else if body.length != codedLength mod cr len || crc32 p.1 != p.2 then s.rxDrop r 1
    else
      let beats := s.drawn.rxBeats r slot (byteAt header 2) (s.instantBack s.draw) p.1
      let s := s.drawn.drawn
      if !(room && s.portLive 0 && s.streamRoom (lmdRxPort r) beats.length) then (s.rxCount r 8).event (226 + r)
      else ((s.modInc (RX_UNITS_COUNT r)).put (RX_SNR_SNR r) snr).streamPush (lmdRxPort r) beats

/-! ### The receive channel's signal path (R667, R714, R716) -/

/-- Rail `q` of channel `r` mixed from its carrier to 0 Hz, for the line sample of age `age`. -/
def State.lineMixed (s : State) (r : Nat) (q : Bool) (age : Nat) : Int :=
  Config.lineMix q (s.rxSet r (RX_FREQ_HZ r)) (s.posSample false (s.rxSet r (RX_CFG_INPUT r)) age) (s.instantBack (100 * age))

/-- The symbol rate of a BW code (R663). -/
def symbolRate (bw : Nat) : Nat := lmdBand bw * 4 / 5

/-- Rail `q` decimated to eight samples per symbol, `j` of them back. -/
def State.lineDown (s : State) (r : Nat) (q : Bool) (j : Nat) : Int :=
  let rate := 8 * symbolRate (s.rxSet r (RX_CFG_BW r))
  Config.lineDecimate rate fun m => s.lineMixed r q (m + j * 10000000 / rate)

/-- The fixed 33-tap matched filter. -/
def State.lineMatched (s : State) (r : Nat) (q : Bool) (j : Nat) : Int := sumOver 33 fun k => Config.rrcTap k * s.lineDown r q (j + k)

/-- The sixteen inputs of the equaliser, half a symbol apart, at the gain of the AGC. -/
def State.eqWindow (s : State) (r : Nat) : List (Int × Int) :=
  (List.range 16).map fun k => (s.lineMatched r false (4 * k) * (s.rx r).blank.gain, s.lineMatched r true (4 * k) * (s.rx r).blank.gain)

/-- The equaliser's output. -/
def State.eqOut (s : State) (r : Nat) : Int × Int :=
  (((s.rx r).taps.zip (s.eqWindow r)).foldl (fun a x => a + (x.1.1 * x.2.1 - x.1.2 * x.2.2)) 0,
   ((s.rx r).taps.zip (s.eqWindow r)).foldl (fun a x => a + (x.1.1 * x.2.2 + x.1.2 * x.2.1)) 0)

/-- A run of `n` line samples passes channel `r`: blanker and AGC see each of them, then the equaliser adapts; in a flood AGC and equaliser are
frozen (R716). -/
def State.rxPass (s : State) (r n : Nat) : State :=
  if !s.rxOn r then s
  else
    let flood := s.bit (RX_STATUS_FLOOD r)
    let xs := (List.range n).map fun k => ({ i := s.posSample false (s.rxSet r (RX_CFG_INPUT r)) (n - 1 - k), q := 0, flagged := false } : IqIn)
    let k := s.rxSet r (RX_FLOOD_BLANK_K r)
    let b := (s.rx r).blank.run (if 0 < k ∧ k < 8 then 8 else k) (s.rxSet r (RX_GUARD_BLANK_LEN r)) 10000 flood xs
    let window := s.eqWindow r
    let taps := (List.range 16).map fun j => (Config.eqAdapt false (s.rx r).taps window j, Config.eqAdapt true (s.rx r).taps window j)
    (s.putRx r { s.rx r with blank := b.1, taps := if flood then (s.rx r).taps else taps }).picked (8 * (n + 65536))

/-! ### Floods (R715, R716) -/

/-- A 10 ms window of RX channel `r` ends (R643, R715). Without input no condition holds. -/
def State.rxFloodWindow (s : State) (r samples blanked power : Nat) : State :=
  let f := (s.rx r).flood
  let w := f.window (s.rxSet r (RX_FLOOD_FLOOD_IMP r)) (s.rxSet r (RX_FLOOD_FLOOD_DB r)) samples blanked power
  if !s.radioOn then s
  else if !s.rxOn r then s.putRx r { s.rx r with flood := { f with calm := f.calm + 1 } }
  else
    (s.putRx r { s.rx r with flood := w.2 }).iff (w.1 && !s.bit (RX_STATUS_FLOOD r)) fun s =>
      (((s.set (RX_STATUS_FLOOD r)).set (RX_STATUS_FLOOD_SEEN r)).rxCount r 9).event (228 + r)

/-- FLOOD_HOLD_S without a condition (R644). -/
def State.rxFloodClear (s : State) (r : Nat) : State :=
  s.iff (s.bit (RX_STATUS_FLOOD r) && (s.rx r).flood.over (s.rxSet r (RX_FLOOD_FLOOD_HOLD_S r))) fun s => (s.clr (RX_STATUS_FLOOD r)).event (228 + r)

/-! ### Mask monitor (R702 to R708) -/

/-- TX channel `t` has PA_EN high. -/
def State.paOn (s : State) (t : Nat) : Bool := s.get (TX_STATUS_STATE t) == 1 || s.get (TX_STATUS_STATE t) == 2

/-- The trip (R705). -/
def State.maskTrip (s : State) : State :=
  let s := ((s.set LMD_MON_STATUS_TRIPPED).satInc LMD_TRIP_COUNT_COUNT LMD_TRIP_COUNT_OVF).event 220
  let s := s.each [0, 1] fun s t => s.iff (s.get (TX_STATUS_STATE t) != 0) (·.txStop t 1)
  s.report 36 0 (s.word LMD_MON_STATUS).toNat

/-- The mask's points: FREQ in 0.1 kHz and LEVEL in −0.1 dBFS (R703). -/
def State.maskPoints (s : State) : List (Nat × Nat) := (List.range 32).map fun i => (s.get (LMD_MASK_FREQ i), s.get (LMD_MASK_LEVEL i))

/-- The mask at bin `k` of 1.25 MHz / 4,096 as a number over 4,096 × a segment's width, with that width (R702, R703): the first level below the
first point, the last above the last, linear in dB between two. Levels count downward from 0 dBFS. -/
def maskAt (k : Nat) : List (Nat × Nat) → Int × Nat
  | [] => (0, 4096)
  | [(_, l)] => (l * 4096, 4096)
  | (f1, l1) :: (f2, l2) :: rest =>
    if 12500 * k < 4096 * f2 then
      let w := 4096 * (f2 - f1)
      if 12500 * k ≤ 4096 * f1 then (l1 * 4096, 4096)
      else ((l1 : Int) * w + ((l2 : Int) - l1) * (12500 * k - 4096 * f1 : Nat), w)
    else maskAt k ((f2, l2) :: rest)

/-- How far bin `k` at −0.1 dBFS × `level` lies above the mask, in 0.1 dB, negative below it; a part of 0.1 dB above it counts as 0.1 dB. -/
def maskExcess (points : List (Nat × Nat)) (k level : Nat) : Int :=
  let m := maskAt k points
  let e := m.1 - (level : Int) * m.2
  if 0 < e ∧ e < m.2 then 1 else e / (m.2 : Nat)

/-- The bin that lies highest over the mask, and by how much. -/
def worstBin (points : List (Nat × Nat)) (bins : List Nat) : Nat × Int :=
  (bins.zipIdx.map fun x => (x.2, maskExcess points x.2 x.1)).foldl (fun a x => if a.2 < x.2 then x else a) (0, -4096)

/-- A window ends with the power of each bin and in total, both in −0.1 dBFS; a channel had PA_EN high, and one sent modulated output, throughout
it (R702 to R705). A window that does not count, or does not exceed, ends the run; the excess of a SILENT window is open. -/
def State.maskWindow (s : State) (paHigh sent : Bool) (bins : List Nat) (total : Nat) : State :=
  let ok := s.lmdOn && s.bit LMD_CFG_MON_EN && !s.bit LMD_MON_STATUS_TRIPPED
  let worst := worstBin s.maskPoints bins
  let above := decide (0 < worst.2)
  let silent := sent && decide (s.get LMD_MON_CFG_MON_FLOOR < total)
  if !ok then s
  else if !(paHigh && (s.paOn 0 || s.paOn 1) && (above || silent)) then s.clr LMD_MON_STATUS_RUN
  else
    let e := if above then min worst.2.toNat 4095 else s.draw
    let s := ((s.iff (!above) (·.drawn)).putB LMD_MON_STATUS_CAUSE (!above)).put LMD_MON_STATUS_EXCESS e
    let s := (s.put LMD_MON_STATUS_WORST_FREQ (12500 * worst.1 / 4096)).put LMD_MON_STATUS_RUN (s.get LMD_MON_STATUS_RUN + 1)
    let s := s.event 221
    s.iff (s.get LMD_MON_STATUS_RUN == 3) (·.maskTrip)

/-- TX_RESTART (R707, R721): TRIPPED and the run clear, and every enabled channel that is STOPPED starts again. -/
def State.txRestart (s : State) : State :=
  let s := (s.clr LMD_MON_STATUS_TRIPPED).clr LMD_MON_STATUS_RUN
  s.each [0, 1] fun s t => s.iff (s.txOn t && s.get (TX_STATUS_STATE t) == 4) (·.txStart t)

/-- A write of LMD_CMD (Table LMD-10). -/
def State.lmdCmd (s : State) (w : Word) : State :=
  if bitsOf w 16 16 != guardKey.toNat || !s.radioOn then s
  else
    match bitsOf w 0 4 with
    | 1 => s.txRestart
    | 2 => s.rxForce (bitsOf w 8 1)
    | _ => s

/-! ### Tables, settings, start, mute and Watch state -/

/-- A SECDED check of a modem table (R725): 0 and 1 are the TX channels, 2 the mask. -/
def State.lmdCheck (s : State) (inst addr : Nat) (double : Bool) : State :=
  if !double then s.report 37 inst addr
  else
    let stop (s : State) (t : Nat) : State := s.iff (s.get (TX_STATUS_STATE t) != 0) (·.txStop t 4)
    let s := if inst = 2 then s.each [0, 1] stop else stop s inst
    (s.event 232).report 38 inst addr

/-- A double-bit error of an RX channel (R725). -/
def State.lmdRxCheck (s : State) (r : Nat) (double : Bool) : State := s.iff double fun s => ((s.set (RX_STATUS_DBE r)).rxResync r).event 232

/-- A live write to an RX channel's settings puts a TP channel into RESYNC; the settings themselves are taken at its next unit boundary (R722). -/
def State.rxWritten (s : State) (r : Nat) : State := s.iff (s.rxTp r && s.lmdOn) (·.rxResync r)

/-- Follow the enables, the output condition and a receive slot's rewrite (R661, R695, R723). -/
def State.lmdRefresh (s : State) : State :=
  if !s.radioOn then s
  else
    let s := s.each [0, 1] fun s t =>
      let st := s.get (TX_STATUS_STATE t)
      if !s.txOn t then
        (if st == 4 then s.txState t 0 0 else if st == 0 || (s.tx t).down then s else s.txDisable t)
      else if st == 0 then s.txStart t
      else if st != 4 && !s.txOutput t then s.txStop t 5
      else if st == 4 && s.get (TX_STATUS_CAUSE t) == 5 && s.txOutput t then s.txStart t
      else s
    s.each [0, 1] fun s r =>
      let s := s.iff ((s.rx r).burst.isNone && !(s.rxOn r && s.rxTp r)) (·.rxTake r)
      let g := (s.slot (s.rxSet r (RX_CFG_SLOT r))).gen
      let s := s.iff (g != (s.rx r).gen) fun s => (s.putRx r { s.rx r with gen := g }).iff (s.rxTp r) (·.rxResync r)
      s.iff (!s.rxOn r) fun s => (s.putRx r { s.rx r with burst := none }).clr (RX_STATUS_BUSY r)

/-- The modem starts (R727). -/
def State.lmdStart (s : State) : State :=
  let s := s.each [0, 1] fun s r =>
    let g := (s.slot (s.get (RX_CFG_SLOT r))).gen
    let s := (s.putRx r { LmdRx.fresh with gen := g, set := s.rxWords r }).putWord (RX_SESSION r) 0
    (((s.clr (RX_STATUS_TPOUT r)).clr (RX_STATUS_GUARD_OK r)).clr (RX_STATUS_BUSY r)).clr (RX_STATUS_FLOOD r) |>.set (RX_STATUS_RESYNC r)
  s.each [0, 1] fun s t =>
    let s := (s.putTx t { LmdTx.fresh with seq := (s.tx t).seq, cmd := (s.tx t).cmd }).putWord (TX_SESSION t) 0
    if s.txOn t then s.txStart t else s.txState t 0 0

/-- The SPLL mutes (R726). -/
def State.lmdMute (s : State) : State :=
  let s := s.each [0, 1] fun s t => s.iff (s.get (TX_STATUS_STATE t) != 0 && s.get (TX_STATUS_STATE t) != 4) (·.txStop t 2)
  s.each [0, 1] fun s r => (s.putRx r { s.rx r with burst := none }).clr (RX_STATUS_BUSY r)

/-- The SPLL unmutes (R726). -/
def State.lmdUnmute (s : State) : State :=
  let s := s.each [0, 1] fun s t =>
    s.iff (s.txOn t && s.get (TX_STATUS_STATE t) == 4 && s.get (TX_STATUS_CAUSE t) == 2) (·.txStart t)
  s.each [0, 1] fun s r => s.iff (s.lmdOn && s.rxTp r) (·.rxResync r)

/-- The drain: bursts in reception are withheld whole (Table PWR-3). -/
def State.lmdWithhold (s : State) : State := s.each [0, 1] fun s r => (s.putRx r { s.rx r with burst := none }).clr (RX_STATUS_BUSY r)

/-- The drain (R728, Table PWR-3): each TX channel stops at once, and its queued frames complete CANCELLED. -/
def State.lmdDrain (s : State) : State :=
  s.each [0, 1] fun s t =>
    let s := s.iff (s.get (TX_STATUS_STATE t) != 0) (·.txStop t 2)
    let s := s.each (s.tx t).queue fun s f => s.lmdDone t f 0 1
    s.putTx t { s.tx t with queue := [] }

/-- The Watch state: sessions, N_last and held ND are lost (R728). -/
def State.lmdRetention (s : State) : State :=
  let s := s.each [0, 1] fun s r => (s.putRx r { LmdRx.fresh with gen := (s.rx r).gen }).putWord (RX_SESSION r) 0
  s.each [0, 1] fun s t => (s.putTx t { LmdTx.fresh with seq := (s.tx t).seq }).putWord (TX_SESSION t) 0

end Sys2Proof.Machine
end

