-- ==== Sys2Proof/Machine/Pll.lean ====
section
/-!
DEFINITION. The eleven PLLs: the choice of a band, lock and muting, references and their loss, APPLY and UNMUTE, and what follows
for the blocks they clock (R316 to R345, R390 to R394).
-/
namespace Sys2Proof.Machine

/-- The hidden state of PLL `n`. -/
def State.pl (s : State) (n : Nat) : Pll := s.pll.pll[n]?.getD Pll.off

/-- Replace the hidden state of PLL `n`. -/
def State.putPl (s : State) (n : Nat) (v : Pll) : State := s.withPll { s.pll with pll := s.pll.pll.setIfInBounds n v }

/-- PLL `n` runs: its applied EN, or the load band of FPLL0. -/
def State.pllOn (s : State) (n : Nat) : Bool := bitsOf (s.pl n).cfg 31 1 == 1 || (n == 0 && s.pll.loadBand)

/-- The LREF an LPLL takes: 0 or 1 of its pair. -/
def State.lpllRef (s : State) (n : Nat) : Nat := s.pll.useRef[n - 8]?.getD 0

/-- The reference that feeds PLL `n` (Table PLL-1): 0 OSC_LOCAL_IN, 1–4 LREF0–3. -/
def State.pllRef (s : State) (n : Nat) : Nat := if n = 8 ∨ n = 9 then 1 + 2 * (n - 8) + s.lpllRef n else 0

/-- A reference is qualified. -/
def State.refOk (s : State) (r : Nat) : Bool := s.pll.refs.getLsbD r

/-! ### Bands and checks (R317 to R326, R388) -/

/-- VCO range in kHz (Table PLL-1). -/
def vcoRange (n : Nat) : Nat × Nat :=
  if n < 8 then (2400000, 4800000) else if n < 10 then (9800000, 13000000) else (3600000, 4400000)

/-- The frequencies that must be covered, in units of 10^-6 kHz: the steering margin, or the down-spread of an LPLL (R324, R388). -/
def pllSpan (freq : Nat) (steer spread : Bool) : Nat × Nat :=
  if spread then (freq * 995000, freq * 1000000)
  else if steer then (freq * 999950, freq * 1000050)
  else (freq * 1000000, freq * 1000000)

/-- The group whose LREF an LPLL takes carries spread (R388). -/
def State.lpllSpread (s : State) (n : Nat) : Bool := s.bit (LNK_GROUP_CFG_SPREAD (s.pllRef n - 1))

/-- Entry `e` of PLL `n` covers a span (R324). -/
def State.bandCovers (s : State) (n e : Nat) (span : Nat × Nat) : Bool :=
  let r := vcoRange n
  s.bit (PLL_BAND0_VALID n e) && decide (s.get (PLL_BAND1_FMIN_KHZ n e) * 1000000 ≤ span.1) &&
    decide (span.2 ≤ s.get (PLL_BAND2_FMAX_KHZ n e) * 1000000) && decide (r.1 * 1000000 ≤ span.1) && decide (span.2 ≤ r.2 * 1000000)

/-- The covering entry of greatest margin, the lowest index among equals (R325). -/
def State.bandPick (s : State) (n freq : Nat) (span : Nat × Nat) : Option Nat :=
  let margin (e : Nat) : Nat := min (freq - s.get (PLL_BAND1_FMIN_KHZ n e)) (s.get (PLL_BAND2_FMAX_KHZ n e) - freq)
  ((List.range 64).filter fun e => s.bandCovers n e span).foldl (fun best e =>
    match best with
    | none => some e
    | some b => if margin b < margin e then some e else some b) none

/-- The entry for the settings in the registers of PLL `n`. -/
def State.pllBand (s : State) (n : Nat) : Option Nat :=
  let f := s.get (PLL_FREQ_KHZ n)
  s.bandPick n f (pllSpan f (s.bit (PLL_CFG_STEER_EN n)) ((n == 8 || n == 9) && s.lpllSpread n))

/-- f_ref of PLL `n` in kHz. -/
def State.pllFref (s : State) (n : Nat) : Nat := if n = 8 ∨ n = 9 then s.get PLL_LREF_KHZ_ALL else s.get PLL_OSC_KHZ_ALL

/-- f_ref / R lies outside 5 to 50 MHz (R317). -/
def State.pllRatioBad (s : State) (n : Nat) : Bool :=
  let r := s.get (PLL_CFG_REFDIV n) + 1
  decide (s.pllFref n < 5000 * r) || decide (50000 * r < s.pllFref n)

/-- Output dividers of an FPLL, D0 first. -/
def State.pllDivs (s : State) (n : Nat) : List Nat := [s.get (PLL_DIV_D0 n), s.get (PLL_DIV_D1 n), s.get (PLL_DIV_D2 n), s.get (PLL_DIV_D3 n)]

/-- The global clock maximum in kHz (R4). -/
def clockMaxKhz : Nat := if Config.grade3 then 800000 else 700000

/-- An FPLL output exceeds the maximum (R319). -/
def State.pllOver (s : State) (n : Nat) : Bool :=
  decide (n < 8) && (s.pllDivs n).any fun d => d != 0 && decide (clockMaxKhz * d < s.get (PLL_FREQ_KHZ n))

/-- FPLL0 breaks R320; FPLL7 breaks the rate of C3 (R321); the SPLL breaks R322. -/
def State.pllRuleBad (s : State) (n : Nat) : Bool :=
  let f := s.get (PLL_FREQ_KHZ n)
  let d3 := s.get (PLL_DIV_D3 n)
  (n == 0 && f % 200000 != 0) || (n == 7 && (d3 == 0 || f != 500000 * d3)) || (n == 10 && f != 4000000)

/-- The status with which the settings in the registers would be refused, 0 for none (Table PLL-2). -/
def State.pllCheck (s : State) (n : Nat) : Nat :=
  if s.pllRatioBad n || s.pllRuleBad n then 3
  else if (s.pllBand n).isNone then 1
  else if s.pllOver n then 6
  else 0

/-- The feedback ratio f_vco × R / f_ref with a 24-bit fraction (R317); which way it rounds is open. -/
def fbRatio (vco r fref : Nat) : Nat :=
  let v := vco * r * 16777216
  if fref = 0 then 0 else if v % fref ≠ 0 ∧ Config.roundUp v fref then v / fref + 1 else v / fref

/-! ### Mute, unmute and what they clock (R258, R329, R391, R394, R528, R565, R604, R726) -/

/-- The lanes of an LPLL. -/
def lpllLanes (n : Nat) : List Nat := (List.range 12).map fun i => (n - 8) * 12 + i

/-- LPLL_LOCK of an LPLL's two groups. -/
def State.lpllShow (s : State) (n : Nat) : State :=
  if n = 8 ∨ n = 9 then
    let l := s.bit (PLL_STATUS_LOCKED n)
    (s.putB (LNK_GROUP_STATUS_LPLL_LOCK (2 * (n - 8))) l).putB (LNK_GROUP_STATUS_LPLL_LOCK (2 * (n - 8) + 1)) l
  else s

/-- The outputs of PLL `n` mute, and it is unlocked: the radio and the lanes that it clocks stop. -/
def State.pllMute (s : State) (n : Nat) : State :=
  let was := !s.bit (PLL_STATUS_MUTED n)
  let s := ((s.clr (PLL_STATUS_LOCKED n)).set (PLL_STATUS_MUTED n)).lpllShow n
  if !was then s
  else if n = 10 then s.iff s.radioOn fun s => (((s.smpMute).rxcMute).bcdMute).lmdMute
  else if n = 8 ∨ n = 9 then s.lanesRestart ((lpllLanes n).filter fun l => (s.lane l).on)
  else s

/-- The outputs of PLL `n` unmute. -/
def State.pllUnmuted (s : State) (n : Nat) : State :=
  let was := s.bit (PLL_STATUS_MUTED n)
  let s := (s.clr (PLL_STATUS_MUTED n)).lpllShow n
  if !was then s
  else if n = 10 then s.iff s.radioOn fun s => (((s.soundStart true).soundStart false).rxcRestart).lmdUnmute
  else if n = 8 ∨ n = 9 then s.lanesRestart ((lpllLanes n).filter fun l => (s.lane l).on)
  else s

/-! ### Commands (R338, R339) -/

/-- A command ends: its status and CMD_DONE. -/
def State.pllDone (s : State) (n code : Nat) : State := (s.put (PLL_CMD_STATUS_CODE n) code).event 43

/-- Take the settings of the registers, with the band they name (R325, R338, R345). -/
def State.pllTake (s : State) (n : Nat) : State :=
  let s := s.putPl n { s.pl n with cfg := s.word (PLL_CFG n), freq := s.word (PLL_FREQ n), div := s.word (PLL_DIV n),
                                     ratio := fbRatio (s.get (PLL_FREQ_KHZ n)) (s.get (PLL_CFG_REFDIV n) + 1) (s.pllFref n), applying := false, held := false }
  match s.pllBand n with
  | some e => if s.bit (PLL_CFG_EN n) then (s.put (PLL_STATUS_ENTRY n) e).put (PLL_STATUS_BAND n) (s.get (PLL_BAND0_CODE n e)) else s
  | none => s

/-- The LREF that an APPLY selects, unless a failover holds the other (R338, R391). -/
def State.lpllSelect (s : State) (n : Nat) : State :=
  if (n = 8 ∨ n = 9) ∧ !s.bit (LNK_GROUP_STATUS_FAILOVER (2 * (n - 8))) then
    s.withPll { s.pll with useRef := s.pll.useRef.setIfInBounds (n - 8) (s.get (PLL_CFG_REFSEL n)) }
  else s

/-- APPLY (R338, R339). `nvmBusy`: an NVM operation or an audit runs; while FPLL0 runs on its load band the load itself reads the memory. -/
def State.pllApply (s : State) (n : Nat) (nvmBusy : Bool) : State :=
  if (s.pl n).applying then s.pllDone n 2
  else if n = 0 ∧ (nvmBusy || s.pll.loadBand) then s.pllDone n 3
  else if !s.bit (PLL_CFG_EN n) then ((s.pllMute n).pllTake n).pllDone n 0
  else
    let s1 := s.lpllSelect n
    match s1.pllCheck n with
    | 0 =>
      let s2 := (s1.pllMute n).pllTake n
      s2.putPl n { s2.pl n with applying := true }
    | code => s.pllDone n code

/-- UNMUTE (R338, Table PLL-2). -/
def State.pllUnmute (s : State) (n : Nat) : State :=
  if (s.pl n).applying then s.pllDone n 2
  else if !s.bit (PLL_STATUS_LOCKED n) || (n == 0 && s.pll.loadBand) then s.pllDone n 3
  else (s.pllUnmuted n).pllDone n 0

/-- A live write of PLL_CFG: STEER_EN takes effect when written (R337, R338). -/
def State.pllCfgWritten (s : State) (n : Nat) : State :=
  if !s.bit (PLL_CFG_STEER_EN n) then s.put (PLL_STEER_SIGMA n) 0
  else s.iff (s.bit (PLL_STATUS_LOCKED n)) fun s => s.put (PLL_STEER_SIGMA n) (s.get FIX_SIGMA_SIGMA)

/-- A write of PLL_CMD. -/
def State.pllCmd (s : State) (n : Nat) (w : Word) (nvmBusy : Bool) : State :=
  if bitsOf w 16 16 != guardKey.toNat then s
  else
    match bitsOf w 0 2 with
    | 1 => s.pllApply n nvmBusy
    | 2 => s.pllUnmute n
    | _ => s

/-! ### Lock (R328 to R331, R337) -/

/-- PLL `n` declares lock. -/
def State.pllLock (s : State) (n : Nat) : State :=
  if !(s.pllOn n && s.refOk (s.pllRef n) && !s.bit (PLL_STATUS_LOCKED n)) || s.dev == .off || s.dev == .watch && !s.pwr.leaving && s.pwr.wake == 0 then s
  else
    let v := s.pl n
    let s := (s.set (PLL_STATUS_LOCKED n)).lpllShow n
    if n = 0 ∧ s.pll.loadBand then s
    else
      let s := s.putPl n { v with applying := false, held := false }
      let s := s.iff (s.bit (PLL_CFG_STEER_EN n)) fun s => s.put (PLL_STEER_SIGMA n) (s.get FIX_SIGMA_SIGMA)
      let s := if v.held && s.bit (PLL_CFG_HOLD_MUTE n) then s else s.pllUnmuted n
      s.iff v.applying (·.pllDone n 0)

/-- An APPLY gets no lock within 2.0 ms (R331, Table PLL-2). -/
def State.pllTimeout (s : State) (n : Nat) : State :=
  if (s.pl n).applying then (((s.putPl n { s.pl n with applying := false, held := true }).pllDone n 5)).report 18 n 0 else s

/-- A locked PLL loses lock (R330, R334). -/
def State.pllLol (s : State) (n : Nat) : State :=
  if !s.bit (PLL_STATUS_LOCKED n) then s
  else
    let s := ((s.set (PLL_STATUS_LOL n)).satInc (PLL_LOL_COUNT_COUNT n) (PLL_LOL_COUNT_OVF n)).event 41
    let s := (s.putPl n { s.pl n with held := true }).pllMute n
    s.iff (s.refOk (s.pllRef n)) (·.report 18 n 0)

/-! ### References (R332, R333, R382, R390 to R392, R422) -/

/-- An LPLL takes the other LREF of its pair (R390, R391). -/
def State.lpllFailover (s : State) (n : Nat) : State :=
  let g := 2 * (n - 8)
  let s := s.withPll { s.pll with useRef := s.pll.useRef.setIfInBounds (n - 8) (1 - s.lpllRef n) }
  let s := (s.set (LNK_GROUP_STATUS_FAILOVER g)).set (LNK_GROUP_STATUS_FAILOVER (g + 1))
  s.iff (s.lpllSpread n) fun s =>
    (s.each ((lpllLanes n).filter fun l => s.ethMode l) fun s l =>
      ((s.putLane l { s.lane l with barred := true }).laneRestart l false).set (LNK_STATUS_CHANGE l))

/-- A PLL that has lost its reference (R332). -/
def State.pllRefLost (s : State) (n : Nat) : State :=
  let s := (s.putPl n { s.pl n with held := true }).pllMute n
  (s.set (PLL_STATUS_REF_LOSS n)).event 42

/-- The PLLs that run from reference `r`. -/
def State.pllsOf (s : State) (r : Nat) : List Nat := (List.range 11).filter fun n => s.pllOn n && s.pllRef n == r

/-- Reference `r` is watched and reported: OSC_LOCAL_IN, REF10M_IN, and the LREFs of an LPLL that is enabled (R332). -/
def State.refWatched (s : State) (r : Nat) : Bool := r == 0 || decide (5 ≤ r) || s.pllOn (8 + (r - 1) / 2)

/-- A reference is lost (R332, R382, R391). -/
def State.refLoss (s : State) (r : Nat) : State :=
  if !s.refOk r then s
  else
    let s := s.withPll { s.pll with refs := s.pll.refs &&& ~~~(1#6 <<< r) }
    let fed := s.pllsOf r
    let s := s.each fed fun s n => s.pllRefLost n
    let s := s.iff (s.refWatched r) (·.report 19 r 0)
    if r = 0 then s.iff s.inService (·.fixOscLost)
    else if r ≤ 4 then
      let s := s.clr (LNK_GROUP_STATUS_REF_OK (r - 1))
      let s := s.each fed fun s n => s.iff (s.refOk (1 + 2 * (n - 8) + (1 - s.lpllRef n))) (·.lpllFailover n)
      s.lanesRestart (((List.range 6).map fun i => (r - 1) * 6 + i).filter fun l => (s.lane l).on)
    else s

/-- A 1.0 ms count of a reference lies within ±2 % of its nominal value; before PLL_OSC_KHZ is set, OSC_LOCAL_IN lies between 10,000 and
50,000 kHz (R333). -/
def State.refInRange (s : State) (r khz : Nat) : Bool :=
  let near (nom : Nat) : Bool := decide (nom * 98 ≤ khz * 100) && decide (khz * 100 ≤ nom * 102)
  if r = 0 then
    (if s.get PLL_OSC_KHZ_ALL = 0 then decide (10000 ≤ khz) && decide (khz ≤ 50000) else near (s.get PLL_OSC_KHZ_ALL))
  else if r ≤ 4 then near (s.get PLL_LREF_KHZ_ALL)
  else near 10000

/-- Two counts lie within ±2 % of each other. -/
def countsAgree (a b : Nat) : Bool := decide (b * 98 ≤ a * 100) && decide (a * 100 ≤ b * 102)

/-- Both counts are in range; before PLL_OSC_KHZ is set, those of OSC_LOCAL_IN also agree with each other (R333). -/
def State.refCounts (s : State) (r first second : Nat) : Bool :=
  s.refInRange r first && s.refInRange r second && (r != 0 || s.get PLL_OSC_KHZ_ALL != 0 || countsAgree first second)

/-- FPLL0 takes the feedback ratio of its load setting from the measured frequency (R333, R344). -/
def State.loadRatio (s : State) (khz : Nat) : State :=
  s.putPl 0 { s.pl 0 with ratio := fbRatio 3200000 (Config.loadRefDiv.toNat + 1) khz }

/-- A reference qualifies (R333, R382, R392, R422); its two 1.0 ms counts are `first` and `khz`, and the second is taken as the
measured frequency. In the Watch state the detectors stand until a wake begins (R58, Table PWR-5). -/
def State.refQualified (s : State) (r first khz : Nat) : State :=
  if s.refOk r || !s.refCounts r first khz || s.dev == .off || (s.dev == .watch && s.pwr.wake == 0) then s
  else
    let s := s.withPll { s.pll with refs := s.pll.refs ||| (1#6 <<< r), oscKhz := if r = 0 then khz else s.pll.oscKhz }
    if r = 0 then (s.iff s.pll.loadBand (·.loadRatio khz)).iff (s.inService && !s.fix.oscOk) (·.seedDevice)
    else if r ≤ 4 then
      let s := s.set (LNK_GROUP_STATUS_REF_OK (r - 1))
      let n := 8 + (r - 1) / 2
      let s := s.iff (s.inService && s.pllOn n && s.pllRef n != r && !s.refOk (s.pllRef n)) (·.lpllFailover n)
      s.lanesRestart (((List.range 6).map fun i => (r - 1) * 6 + i).filter fun l => (s.lane l).on && s.bit (PLL_STATUS_LOCKED n))
    else s

/-! ### Load, wake and Watch state (R344, R345) -/

/-- The load begins: FPLL0 on its load band, every other PLL off (R344). The band's code is the part's own. The sticky bits of
PLL_STATUS, which no image sets, keep their values (R185). -/
def State.pllLoadBegin (s : State) : State :=
  let s := s.each (List.range 11) fun s n => (((s.putPl n Pll.off).pllMute n).clr (PLL_STATUS_ENTRY n)).clr (PLL_STATUS_BAND n)
  let s := s.withPll { s.pll with loadBand := true, useRef := Vector.replicate 2 0 }
  (s.drawn.put (PLL_STATUS_BAND 0) s.draw).loadRatio s.pll.oscKhz

/-- The LREF and failover state at a load or a wake (R390, R391). -/
def State.lpllReset (s : State) (n : Nat) : State :=
  let g := 2 * (n - 8)
  let s := (s.clr (LNK_GROUP_STATUS_FAILOVER g)).clr (LNK_GROUP_STATUS_FAILOVER (g + 1))
  let s := s.withPll { s.pll with useRef := s.pll.useRef.setIfInBounds (n - 8) (s.get (PLL_CFG_REFSEL n)) }
  s.iff (!s.lpllSpread n) fun s => s.each (lpllLanes n) fun s l => s.putLane l { s.lane l with barred := false }

/-- The end phase: every PLL takes its image settings and starts to lock (R344). -/
def State.pllEndPhase (s : State) : State :=
  let s := s.withPll { s.pll with loadBand := false }
  let s := (s.lpllReset 8).lpllReset 9
  s.each (List.range 11) fun s n => (s.pllMute n).pllTake n

/-- The retention switch: every PLL is disabled and keeps its band selection (R75, R345). -/
def State.pllRetention (s : State) : State :=
  let s := s.each (List.range 11) fun s n => s.pllMute n
  (s.withPll { s.pll with refs := 0 })

/-- A wake: the settings are taken where they may be; one that would be refused leaves the PLL at its last applied setting, with the
status that says so (R319, R338, R345). -/
def State.pllWake (s : State) : State :=
  let s := (s.lpllReset 8).lpllReset 9
  s.each (List.range 11) fun s n =>
    if !s.bit (PLL_CFG_EN n) then s.pllTake n
    else
      match s.pllCheck n with
      | 0 => s.pllTake n
      | code => (s.putPl n { s.pl n with applying := false, held := false }).put (PLL_CMD_STATUS_CODE n) code

/-- Every enabled PLL whose reference need not be waited for is locked (R392, Table CFG-6). -/
def State.pllsLocked (s : State) : Bool :=
  (List.range 11).all fun n => !s.pllOn n || s.bit (PLL_STATUS_LOCKED n) || ((n == 8 || n == 9) && !s.refOk (s.pllRef n))

/-- A band-table word that a running PLL uses (R327). -/
def State.bandInUse (s : State) (n e : Nat) : Bool := s.pllOn n && !(n == 0 && s.pll.loadBand) && s.get (PLL_STATUS_ENTRY n) == e

end Sys2Proof.Machine
end

