-- ==== Sys2Proof/Machine/Hk.lean ====
section
/-!
DEFINITION. The rest of the guarantee unit: CLEAR and INJECT, the voted housekeeping copies, rails, temperature, the HEALTH pad and
the boot self-test (R863, R867 to R872, R879 to R887, R893).
-/
namespace Sys2Proof.Machine

/-- Replace the guarantee unit's hidden state. -/
def State.setGrd (s : State) (f : GrdState → GrdState) : State := s.withGrd (f s.grd)

/-! ### CLEAR and INJECT (R881, R883) -/

/-- The condition of code `n` at instance `i` for which a CLEAR is refused (Table GRD-2). An injected fault's condition has gone
(R883). -/
def State.condHolds (s : State) (n i : Nat) : Bool :=
  if i = 0xFFFF then false
  else
    match n with
    | 8 => s.fab.uncorr.any fun a => a / 8192 == i
    | 9 => s.fab.badCrc.getLsbD i
    | 12 => s.fab.differ.any fun k => k / 131072 == i
    | 18 => s.pllOn i && !s.bit (PLL_STATUS_LOCKED i)
    | 19 => !s.refOk i
    | 22 => !s.xtalOk
    | 27 => s.cph.rngFails
    | 31 => true
    | 36 => s.bit LMD_MON_STATUS_TRIPPED
    | 39 => s.railOut i
    | 40 => s.grd.tempOut.getLsbD i
    | 42 => true
    | 43 => (match s.grd.pad with
      | some v => v != s.healthHigh
      | none => false)
    | _ => false

/-- A CLEAR of code `n` is refused. -/
def State.clearRefused (s : State) (n : Nat) : Bool := s.grd.insts.any fun x => x.1 == n && s.condHolds n x.2

/-- CLEAR: every pending bit whose condition has ended goes, and any other raises CLEAR_REFUSED. User logic decides whether the
paired cells that were reported still differ: whether they have come to agree is free. -/
def State.grdClear (s : State) : State :=
  let agree := !s.fab.differ.isEmpty && s.draw % 2 == 1
  let s := s.iff (!s.fab.differ.isEmpty) (·.drawn)
  let s := s.iff agree fun s => s.setFab fun f => { f with differ := [] }
  let t := s
  s.each (List.range 44) fun s n =>
    if !t.bit (pendingFld n) then s
    else if t.clearRefused n then s.event 38
    else (s.clr (pendingFld n)).setGrd fun g => { g with insts := g.insts.filter fun x => x.1 != n }

/-- INJECT of class `n`: the report of an injectable code with INSTANCE 0xFFFF, in Running. Its DETAIL is not stated. -/
def State.grdInject (s : State) (n : Nat) : State :=
  if s.dev == .running && decide (n < 44) && (faultRow n).inject then s.drawn.report n 0xFFFF (s.draw % 2 ^ 64) else s

/-- A write of GRD_CMD. -/
def State.grdCmd (s : State) (w : Word) : State :=
  if !keyed w then s
  else
    match bitsOf w 0 2 with
    | 1 => s.grdClear
    | 2 => s.grdInject (bitsOf w 8 6)
    | _ => s

/-! ### The voted copies (R867, R868) -/

/-- The guarantee unit runs: the housekeeping logic has supply and clock. -/
def State.hkRuns (s : State) : Bool := s.dev != .off && (s.dev != .watch || s.pwr.wake != 0)

/-- Bit `c` of FENCED. -/
def fencedFld (c : Nat) : Fld := ⟨GRD_STATUS, c, 1⟩

/-- The vote overrules copy `c` in voted unit `u`, in `bits` voted bits. -/
def State.hkDisagree (s : State) (c u bits : Nat) : State :=
  if !s.hkRuns || s.bit (fencedFld c) || s.grd.resync.getLsbD c then s
  else
    let s := s.report 1 c (u % 256 + min bits 255 * 256)
    let again := match (s.grd.resyncEnd[c]?).getD none with
      | some t => decide (s.now < t + 32768)
      | none => false
    if again then (s.set (fencedFld c)).report 2 c 0
    else s.setGrd fun g => { g with resync := g.resync ||| (1#3 <<< c) }

/-- Copy `c` has been resynchronised. -/
def State.hkResyncDone (s : State) (c : Nat) : State :=
  if !s.grd.resync.getLsbD c then s
  else s.setGrd fun g => { g with resync := g.resync &&& ~~~(1#3 <<< c), resyncEnd := updateAt g.resyncEnd c fun _ => some s.now }

/-! ### Pulses, pad, self-test, temperature (R872, R879, R885 to R887) -/

/-- The pulse of code `n` ends. -/
def State.pulseEnd (s : State) (n : Nat) : State := s.setGrd fun g => { g with pulses := g.pulses &&& ~~~(1#64 <<< n) }

/-- The HEALTH pad has differed from its driven level for 10 µs; a pad that agrees ends the mismatch. -/
def State.padMismatch (s : State) (high : Bool) : State :=
  if !s.hkRuns then s
  else if high == s.healthHigh then s.setGrd fun g => { g with pad := none }
  else (s.setGrd fun g => { g with pad := some high }).report 43 0 (if high then 1 else 0)

/-- A part of the boot self-test can end now (Table GRD-3): the load and security parts run in a load, the others from the start of a
domain that has supply. -/
def State.selftestDue (s : State) (p : Nat) : Bool :=
  if p < 2 then s.dev == .loading else s.inService && (if p == 2 then s.lanePowered else s.radioPowered)

/-- A part of the boot self-test ends; `failing` is its failing check. -/
def State.selftestPart (s : State) (p : Nat) (failing : Option Nat) : State :=
  if !s.selftestDue p then s
  else
    let s := (s.set ⟨GRD_SELFTEST, 8 + p, 1⟩).event 36
    match failing with
    | none => s.set ⟨GRD_SELFTEST, p, 1⟩
    | some k => (s.clr ⟨GRD_SELFTEST, p, 1⟩).report 42 p k

/-- A reading of temperature sensor `i` in °C. -/
def State.tempReading (s : State) (i : Nat) (c : Int) : State :=
  if !s.hkRuns then s
  else if s.grd.tempOut.getLsbD i then
    s.iff (decide (-38 ≤ c) && decide (c ≤ 98)) fun s => s.setGrd fun g => { g with tempOut := g.tempOut &&& ~~~(1#16 <<< i) }
  else if 100 < c ∨ c < -40 then
    (s.setGrd fun g => { g with tempOut := g.tempOut ||| (1#16 <<< i) }).report 40 i (unsigned 64 c)
  else s

/-! ### Loads (R893) -/

/-- Rails within their limits now count as having been so since the load (R871). -/
def State.armRails (s : State) : State :=
  s.setGrd fun g => { g with railSeen := BitVec.ofNat 14 (s.word PWR_RAILS).toNat }

/-- The start of a reload: the latched faults, the degraded classes and the self-test results clear, a fenced copy is resynchronised.
What is kept: GRD_FIRST, GRD_LAST and the counters. -/
def State.grdReload (s : State) : State :=
  let s := ((s.putWord GRD_PENDING_LO 0).putWord GRD_PENDING_HI 0).putWord GRD_SELFTEST 0
  let s := ((s.putWord GRD_DEGRADED_LO 0).putWord GRD_DEGRADED_HI 0).put GRD_STATUS_FENCED 0
  let s := (s.clr GRD_STATUS_GUARDED).setGrd fun g => { g with insts := [], pulses := 0, resync := 0, resyncEnd := [none, none, none] }
  s.armRails

end Sys2Proof.Machine
end

