-- ==== Sys2Proof/Machine/Mon.lean ====
section
/-!
DEFINITION. The Watchkeeper's session: when it runs, its replies, login on slot 63 and the end of Control level (R831, R832, R838 to
R846, R855 to R858). The commands that use the register bus follow in MonCmd.
-/
namespace Sys2Proof.Machine

/-- Replace the Watchkeeper's hidden state. -/
def State.setMon (s : State) (f : MonState → MonState) : State := s.withMon (f s.mon)

/-- The Watchkeeper runs, in every state except Off and the Watch state (R832). -/
def State.monRuns (s : State) : Bool := s.bit MON_STATUS_RUN && s.dev != .off && s.dev != .watch

/-- A session at Control level. -/
def State.monControl (s : State) : Bool := s.bit MON_STATUS_CONTROL

/-- An entry of the Watchkeeper. -/
def State.monLog (s : State) (code detail : Nat) : State := s.blockLog code 18 0 detail

/-! ### Replies (R838, Table MON-1) -/

/-- A hexadecimal digit. -/
def hexDigit (n : Nat) : Char := "0123456789abcdef".toList.getD n '0'

/-- `n` hexadecimal digits of a number. -/
def hexText : Nat → Nat → String
  | 0, _ => ""
  | n + 1, v => hexText n (v / 16) ++ String.singleton (hexDigit (v % 16))

/-- A capital form of hexadecimal digits. -/
def hexUpper (n v : Nat) : String := String.ofList ((hexText n v).toList.map Char.toUpper)

/-- A 32-bit number as the monitor prints it. -/
def hex32 (v : Nat) : String := "0x" ++ hexUpper 4 (v / 65536) ++ "_" ++ hexUpper 4 v

/-- The names of Table MON-1. -/
def monErrName (c : Nat) : String :=
  match c with
  | 0x01 => "UNKNOWN"
  | 0x02 => "SYNTAX"
  | 0x03 => "RANGE"
  | 0x04 => "LEVEL"
  | 0x05 => "REFUSED"
  | 0x06 => "BUS"
  | 0x08 => "LOGIN_FAIL"
  | 0x09 => "LOCKED"
  | 0x0A => "NO_KEY"
  | 0x0B => "ABORTED"
  | 0x0C => "LINE_LONG"
  | 0x0D => "BUSY"
  | _ => "STATE"

/-- Print one line. -/
def State.say (s : State) (t : String) : State := s.emit (.text t)

/-- The line runs at MON_CFG.BAUD once no reply is in progress (R835). -/
def State.monBaud (s : State) : State := s.iff s.mon.eye.isNone fun s => s.setMon fun m => { m with baud := s.get MON_CFG_BAUD }

/-- The end of Control level by a cause of R846. -/
def State.monDrop (s : State) (cause : Nat) : State :=
  s.iff s.monControl fun s => ((s.clr MON_STATUS_CONTROL).event 252).monLog 0x0A04 cause

/-- The prompt; a Control level that was to end does so before it (R855). -/
def State.monPrompt (s : State) : State :=
  let s := s.iff (s.mon.due != 0) fun s => (s.monDrop s.mon.due).setMon fun m => { m with due := 0 }
  (s.say (if s.monControl then "yl# " else "yl> ")).monBaud

/-- The status line OK. -/
def State.monOk (s : State) : State := (s.say "OK").monPrompt

/-- The status line of an error; a response name follows BUS. -/
def State.monErr (s : State) (c : Nat) (more : String) : State :=
  ((s.put MON_STATUS_LAST_ERR c).say ("ERR 0x" ++ hexUpper 2 c ++ " " ++ monErrName c ++ more)).monPrompt

/-- A command that the monitor refuses (R849). -/
def State.monRefuse (s : State) : State :=
  (((s.satInc MON_REFUSED_COUNT MON_REFUSED_OVF).event 255).monLog 0x0A05 0).monErr 0x05 ""

/-- Discarded characters (R839). -/
def State.monDiscard (s : State) (n : Nat) : State := s.satAdd MON_RX_DROPS_COUNT MON_RX_DROPS_OVF n

/-- A command line that spells a command. While a command runs its characters are discarded, as many as its spelling has; else it is
executed, at the level that it needs (R839, R841). -/
def State.monLine (s : State) (control : Bool) (f : State → State) : State :=
  if !s.monRuns then s
  else if s.mon.eye.isSome then s.drawn.monDiscard s.draw
  else
    let s := (s.modInc MON_CMD_COUNT_COUNT).iff (s.bit MON_CFG_ECHO) (·.emit .echo)
    if control && !s.monControl then s.monErr 0x04 "" else f s

/-! ### The end of Control level (R846, R855) -/

/-- Control level ends, after the command that runs. -/
def State.monEnd (s : State) (cause : Nat) : State :=
  if !s.monControl then s
  else if s.mon.eye.isSome then s.setMon fun m => { m with due := if m.due = 0 then cause else m.due }
  else s.monDrop cause

/-- A write of MON_CTRL. -/
def State.monCtrl (s : State) (w : Word) : State := if keyed w && w.getLsbD 0 then s.monEnd 3 else s

/-- IDLE minutes without a line. -/
def State.monIdle (s : State) : State := if s.monRuns then s.monEnd 2 else s

/-- Slot 63 holds no key any more: Control level cannot go on. -/
def State.monSlotCheck (s : State) : State := if (s.slot 63).valid then s else s.monEnd 4

/-! ### Login (R519, R842 to R845, R856) -/

/-- The challenge is shown in MON_STATUS. -/
def State.monChallenge (s : State) : State := s.putB MON_STATUS_CHALLENGE (!s.cph.challenge.isEmpty)

/-- The challenge as four groups of eight digits. -/
def challengeText (bs : List Byte) : String :=
  "challenge " ++ hexText 8 (beNat (bs.take 4)) ++ " " ++ hexText 8 (beNat (slice bs 4 4)) ++ " " ++ hexText 8 (beNat (slice bs 8 4)) ++ " " ++
    hexText 8 (beNat (slice bs 12 4))

/-- `login` with no argument. Without fresh randomness the engine refuses the challenge (R479), which is a STATE reply. -/
def State.login (s : State) : State :=
  if s.bit MON_STATUS_LOCKED then s.monErr 0x09 ""
  else if !(s.slot 63).valid then s.monErr 0x0A ""
  else if s.bit CPH_STATUS_RNG_FAIL || s.cph.rngFails then s.monErr 0x0E ""
  else
    let s := s.loginChallenge.monChallenge
    (s.say (challengeText s.cph.challenge)).monOk

/-- A response that matched. -/
def State.loginOk (s : State) : State :=
  let s := s.iff (!s.monControl) fun s => (s.set MON_STATUS_CONTROL).event 252
  let s := (s.satInc MON_LOGIN_COUNT_OK MON_LOGIN_COUNT_OK_OVF).monLog 0x0A01 0
  (s.setMon fun m => { m with fails := 0 }).monOk

/-- A response that did not match: the fourth in a row locks login, and the run starts again after the lock. -/
def State.loginFail (s : State) : State :=
  let s := ((s.event 253).satInc MON_LOGIN_COUNT_FAIL MON_LOGIN_COUNT_FAIL_OVF).monLog 0x0A02 0
  let n := s.mon.fails + 1
  let s := s.setMon fun m => { m with fails := if n = 4 then 0 else n }
  let s := s.iff (n == 4) fun s => ((s.set MON_STATUS_LOCKED).event 254).monLog 0x0A03 0
  s.monErr 0x08 ""

/-- `login` with a response; it spends the challenge. While the engine clock is muted the engine holds the compare, and the session stays
as it is (R51, R528; log entry 65). -/
def State.loginTry (s : State) (bytes : List Byte) : State :=
  if s.bit MON_STATUS_LOCKED then s.monErr 0x09 ""
  else if !(s.slot 63).valid then s.monErr 0x0A ""
  else if s.cph.challenge.isEmpty then s.monErr 0x0E ""
  else if s.cphHold then s
  else
    let pass := s.loginPass bytes
    let s := s.dropChallenge.monChallenge
    if pass then s.loginOk else s.loginFail

/-- `login off`. -/
def State.loginOff (s : State) : State := (s.monDrop 1).monOk

/-- The 300 s of the lockout have passed; they pause in the Watch state (R844). -/
def State.lockoutEnd (s : State) : State := if s.dev == .off || s.dev == .watch then s else s.clr MON_STATUS_LOCKED

/-- 60 s have passed since the challenge. -/
def State.challengeEnd (s : State) : State := s.dropChallenge.monChallenge

/-! ### 0x03, the drain, a reload, a wake (R832, R840, R846, R857, R858) -/

/-- 0x03 aborts a command before its next access; after the last one it is ignored. -/
def State.monAbort (s : State) : State :=
  if s.monRuns && s.mon.eye.isSome then (s.setMon fun m => { m with eye := none }).monErr 0x0B "" else s

/-- A Watch trigger is accepted. -/
def State.monDrain (s : State) : State :=
  if !s.monRuns then s
  else
    let s := s.monAbort
    ((s.say "!WATCH").monDrop 6).challengeEnd

/-- The retention switch. -/
def State.monRetention (s : State) : State := ((s.setMon fun m => { m with eye := none, due := 0 }).monDrop 6).challengeEnd

/-- Fabric clock release after a wake. -/
def State.monWake (s : State) : State := s.iff s.monRuns (·.monPrompt)

/-- The start of a reload. With MON_EN low the Watchkeeper runs on until the next fabric release decides. -/
def State.monReload (s : State) : State :=
  if !s.monRuns then s.challengeEnd
  else
    let s := ((s.setMon fun m => { m with eye := none, due := 0 }).monDrop 5).challengeEnd
    s.say "!RELOAD"

/-- MON_EN is sampled high: the Watchkeeper runs. -/
def State.monStrap (s : State) : State :=
  if s.pwr.monEn then (s.set MON_STATUS_RUN).put MON_STATUS_SOURCE 1 else s

/-- Fabric release decides for MON_EN low. -/
def State.monRelease (s : State) : State :=
  if s.pwr.monEn then s
  else if s.load.monOn then (s.set MON_STATUS_RUN).put MON_STATUS_SOURCE 2
  else (s.clr MON_STATUS_RUN).put MON_STATUS_SOURCE 0

end Sys2Proof.Machine
end

