-- ==== Sys2Proof/Machine/Img.lean ====
section
/-!
DEFINITION. Reading an image: its HEADER, its chunks and its records up to what each one asks for (R157 to R180, R294). A full
load and a partial load read images in the same way.
-/
namespace Sys2Proof.Machine

/-! ### HEADER (Table CFG-2, R157, R160, R163, R294) -/

/-- The little-endian number of `n` bytes from offset `o`. -/
def leField (bs : List Byte) (o n : Nat) : Nat := leNat (slice bs o n)

/-- HEADER fields. -/
def hdrEnc (h : List Byte) : Bool := leField h 10 2 % 2 == 1
def hdrGolden (h : List Byte) : Bool := leField h 10 2 / 2 % 2 == 1
def hdrPartial (h : List Byte) : Bool := leField h 10 2 / 4 % 2 == 1
def hdrLen (h : List Byte) : Nat := leField h 16 4
def hdrChunks (h : List Byte) : Nat := leField h 20 4
def hdrVersion (h : List Byte) : Nat := leField h 24 4
def hdrRegions (h : List Byte) : List Nat := (List.range 16).filter fun r => leField h 42 2 / 2 ^ r % 2 == 1

/-- Stored size in bytes (R157). -/
def hdrStored (h : List Byte) : Nat := 128 + hdrLen h + 16 * hdrChunks h

/-- The first wrong field's byte offset. `golden` is the slot read from, none for a partial image, which must set PARTIAL and one
bit of REGIONS. -/
def hdrFault (h : List Byte) (golden : Option Bool) : Option Nat :=
  if leField h 0 1 ≠ 1 then some 0
  else if leField h 1 3 ≠ 124 then some 1
  else if slice h 4 4 ≠ [0x59, 0x4C, 0x49, 0x4D] then some 4
  else if leField h 8 2 ≠ 1 then some 8
  else if (match golden with
    | some g => hdrGolden h != g
    | none => !hdrPartial h) then some 10
  else if leField h 12 4 ≠ 0x064000B0 then some 12
  else if hdrChunks h ≠ (hdrLen h + 65535) / 65536 then some 20
  else if golden = none ∧ (hdrRegions h).length ≠ 1 then some 42
  else if leField h 124 4 ≠ (crc32 (h.take 124)).toNat then some 124
  else none

/-- The reader after a good HEADER. -/
def Reader.opened (h : List Byte) : Reader := { Reader.empty with header := h, rank := 1, todo := hdrRegions h, records := 1 }

/-! ### Chunks (R157, R161, R162) -/

/-- Bytes of plaintext in chunk `k`. -/
def chunkBytes (h : List Byte) (k : Nat) : Nat := min 65536 (hdrLen h - k * 65536)

/-- Where chunk `k` is stored after the start of its image. -/
def chunkAt (k : Nat) : Nat := 128 + k * 65552

/-- The plaintext of a stored chunk, where its tag passes. -/
def chunkOpen (key h : List Byte) (k : Nat) (stored : List Byte) : Option (List Byte) :=
  let n := chunkBytes h k
  if stored.length ≠ n + 16 then none
  else gcmOpen key (slice h 28 8 ++ beBytes 4 k) h (stored.take n) (stored.drop n)

/-- The key for chunks (R162). -/
def chunkKey (fuse : Option (List Byte)) (h : List Byte) : List Byte :=
  if hdrEnc h then fuse.getD (List.replicate 32 0) else List.replicate 32 0

/-! ### Records (R159, R166, R176, R180, Table CFG-3) -/

/-- The place of a record type in the order of R166; 0 for a type that Table CFG-3 does not list. -/
def recRank (t : Nat) : Nat :=
  if t = 0x01 then 1 else if t = 0x02 then 2 else if t = 0x03 then 3 else if t = 0x04 then 4 else if t = 0x05 then 5
  else if t = 0x10 ∨ t = 0x11 ∨ t = 0x12 ∨ t = 0x13 then 6
  else if t = 0x20 then 7 else if t = 0x21 then 8 else if t = 0xFF then 9 else 0

/-- A record of type `t` may not stand next (R166, R169, R176, R180). `part`: the image is read by a partial load. -/
def Reader.misplaced (r : Reader) (part : Bool) (t : Nat) : Bool :=
  let k := recRank t
  t == 1 || ((part || hdrPartial r.header) && !([0x10, 0x12, 0x13, 0xFF].contains t)) || (!part && r.rank == 1 && t != 2) ||
  (k != 6 && decide (k ≤ r.rank)) || decide (k ≤ 6 ∧ 6 < r.rank) || (decide (6 < k) && (r.cur.isSome || !r.todo.isEmpty)) ||
  ([0x10, 0x11, 0x12, 0x13].contains t && r.cur.isNone && r.todo.isEmpty) || (t == 0x21 && r.wrap.isNone)

/-- What stands next in the stream: nothing whole yet, an error with its DETAIL, or a record with its payload. -/
inductive RecHead where
  | wait
  | bad (code detail : Nat)
  | record (type : Nat) (payload : List Byte)
deriving DecidableEq, Repr

/-- The next record. Errors are found in the order type, place, length, end of the stream. -/
def Reader.head (r : Reader) (part : Bool) : RecHead :=
  if hdrLen r.header < r.pos + 4 then .bad 0x12 r.pos
  else if r.stream.length < 4 then .wait
  else
    let t := byteAt r.stream 0
    let n := leField r.stream 1 3
    if recRank t = 0 then .bad 0x07 r.pos
    else if r.misplaced part t then .bad 0x08 r.pos
    else if n % 4 ≠ 0 then .bad 0x09 r.pos
    else if hdrLen r.header < r.pos + 4 + n then .bad 0x12 r.pos
    else if r.stream.length < 4 + n then .wait
    else .record t (slice r.stream 4 n)

/-- The reader once a record with `n` payload bytes of type `t` has been acted on. -/
def Reader.take (r : Reader) (t n : Nat) : Reader :=
  { r with stream := r.stream.drop (4 + n), pos := r.pos + 4 + n, rank := recRank t, records := r.records + 1 }

/-- What a record asks for, or an error with its DETAIL. -/
inductive RecOut (α : Type) where
  | ok (a : α)
  | bad (code detail : Nat)
deriving DecidableEq, Repr

/-- The region and frame address of a FRAME, REPEAT or FILL of `cnt` frames: the frame after the last one of the open section, or
the first of the next region (R167, R169). -/
def Reader.frameAddr (r : Reader) (p : List Byte) (cnt : Nat) : RecOut (Reader × Nat) :=
  let a := leField p 0 4
  let sect : Option (Nat × Nat × List Nat) :=
    match r.cur, r.todo with
    | some c, rest => some (c, r.next, rest)
    | none, c :: rest => some (c, 0, rest)
    | none, [] => none
  match sect with
  | none => .bad 0x08 r.pos
  | some (c, nxt, rest) =>
    if a ≠ c * 8192 + nxt ∨ 8192 < nxt + cnt then .bad 0x0A a
    else .ok ({ r with cur := some c, next := nxt + cnt, todo := rest, frames := r.frames + cnt }, a)

/-- FRAME (R170): frame address and the frames. -/
def Reader.frame (r : Reader) (p : List Byte) : RecOut (Reader × Nat × List (BitVec 2048)) :=
  let cnt := leField p 4 4
  if p.length < 8 ∨ cnt = 0 ∨ 255 < cnt ∨ p.length ≠ 8 + 256 * cnt then .bad 0x09 r.pos
  else
    match r.frameAddr p cnt with
    | .bad c d => .bad c d
    | .ok (r', a) => .ok ({ r' with fills := r'.fills + cnt }, a, (List.range cnt).map fun i => frameOf (slice p (8 + 256 * i) 256))

/-- FILL (R172). -/
def Reader.fill (r : Reader) (p : List Byte) : RecOut (Reader × Nat × List (BitVec 2048)) :=
  let cnt := leField p 4 4
  if p.length ≠ 12 ∨ cnt = 0 ∨ 8192 < cnt then .bad 0x09 r.pos
  else
    match r.frameAddr p cnt with
    | .bad c d => .bad c d
    | .ok (r', a) => .ok (r', a, List.replicate cnt (frameOf ((List.replicate 64 (slice p 8 4)).flatten)))

/-- REPEAT (R171): frame address and the cache slots, each of which a FRAME has filled. -/
def Reader.repeated (r : Reader) (p : List Byte) : RecOut (Reader × Nat × List Nat) :=
  let cnt := leField p 4 4
  if p.length < 8 ∨ cnt = 0 ∨ 8192 < cnt ∨ p.length ≠ 8 + (2 * cnt + 3) / 4 * 4 then .bad 0x09 r.pos
  else
    let slots := (List.range cnt).map fun i => leField p (8 + 2 * i) 2
    match r.frameAddr p cnt with
    | .bad c d => .bad c d
    | .ok (r', a) =>
      match slots.find? fun k => decide (1024 ≤ k) || decide (r.fills ≤ k) with
      | some k => .bad 0x0B k
      | none => .ok (r', a, slots)

/-- The region of the section that is open, or that opens next. -/
def Reader.section (r : Reader) : Option Nat := r.cur.or r.todo.head?

/-- REGION-END (R169, R173): the region whose section ends, which may have written no frame yet; `crc` is what the frames give. -/
def Reader.regionEnd (r : Reader) (p : List Byte) (crc : Nat → Word) : RecOut (Reader × Nat × Word) :=
  if p.length ≠ 8 then .bad 0x09 r.pos
  else
    match r.section with
    | none => .bad 0x08 r.pos
    | some c =>
      if leField p 0 4 % 16 ≠ c then .bad 0x0A (leField p 0 4 % 16 * 8192)
      else if r.cur.isNone ∨ r.next ≠ 8192 then .bad 0x0D c
      else if leField p 4 4 ≠ (crc c).toNat then .bad 0x0C c
      else .ok ({ r with cur := none, next := 0 }, c, crc c)

/-- The payload of a record other than the frame records has a length that Table CFG-3 allows. -/
def recLenOk (t : Nat) (p : List Byte) : Bool :=
  if t = 0x02 then decide (20 ≤ p.length) && p.length == 20 + 8 * leField p 16 4
  else if t = 0x03 then p.length == 60
  else if t = 0x05 then p.length == 792
  else if t = 0x20 then p.length % 8 == 0 && decide (p.length ≤ 8192)
  else if t = 0x21 then p.length % 68 == 0
  else true

/-- END (R179): FRAMES and RECORDS match, and the stream ends here. -/
def Reader.finish (r : Reader) (p : List Byte) : RecOut Unit :=
  if p.length ≠ 8 then .bad 0x09 r.pos
  else if leField p 0 4 ≠ r.frames ∨ leField p 4 4 ≠ r.records + 1 ∨ r.pos + 12 ≠ hdrLen r.header then .bad 0x12 r.pos
  else .ok ()

/-- Chunks of plaintext that the staging memory still holds: those read and not yet wholly acted on (R164). -/
def Reader.staged (r : Reader) : Nat := r.chunk - r.pos / 65536

/-- The staging memory takes one more chunk: one of its two buffers is free, or the record that stands next needs more than both hold, so
that what has been taken of it makes room (R164). -/
def Reader.takesChunk (r : Reader) (part : Bool) : Bool := decide (r.staged < 2) || r.head part == .wait

/-! ### Audit of a stored image (R195) -/

/-- An audit under way: the reader, the frame cache and the open region's frames as the records make them, the first error with the chunk
it stands in, and whether END has been reached. -/
structure Audit where
  reader : Reader
  cache : Cells 2048
  frames : Cells 2048
  bad : Option (Nat × Nat)
  fin : Bool
deriving DecidableEq, Repr

/-- The CRC-32 over the frames of the open section. -/
def Audit.crc (a : Audit) : Word := crc32 ((List.range 8192).flatMap fun i => leBytes 256 (cellRead a.frames i).toNat)

/-- The audit after frames at address `at`. -/
def Audit.wrote (a : Audit) (r : Reader) (addr : Nat) (vs : List (BitVec 2048)) : Audit :=
  { a with reader := r, frames := cellWriteAll a.frames (addr % 8192) 1 vs }

/-- The frame cache with frames in slots `n` mod 1,024 and on (R170). -/
def cacheFilled (cache : Cells 2048) (n : Nat) : List (BitVec 2048) → Cells 2048
  | [] => cache
  | v :: vs => cacheFilled (cellWrite cache (n % 1024) v) (n + 1) vs

/-- Check the next record where it is whole: no frame, register or slot is written. -/
def Audit.record (a : Audit) : Option Audit :=
  let r := a.reader
  let err (c : Nat) : Audit := { a with bad := some (c, r.pos / 65536) }
  match r.head false with
  | .wait => none
  | .bad c _ => some (err c)
  | .record t p =>
    let q := { (r.take t p.length) with pos := r.pos }
    let next (q' : Reader) : Reader := { q' with pos := r.pos + 4 + p.length }
    if t = 0x10 then
      match q.frame p with
      | .bad c _ => some (err c)
      | .ok (q', addr, vs) => some { (a.wrote (next q') addr vs) with cache := cacheFilled a.cache r.fills vs }
    else if t = 0x11 then
      match q.repeated p with
      | .bad c _ => some (err c)
      | .ok (q', addr, ks) => some (a.wrote (next q') addr (ks.map (cellRead a.cache ·)))
    else if t = 0x12 then
      match q.fill p with
      | .bad c _ => some (err c)
      | .ok (q', addr, vs) => some (a.wrote (next q') addr vs)
    else if t = 0x13 then
      match q.regionEnd p fun _ => a.crc with
      | .bad c _ => some (err c)
      | .ok (q', _, _) => some { a with reader := next q', frames := [] }
    else if t = 0xFF then
      match ({ q with records := r.records }).finish p with
      | .bad c _ => some (err c)
      | .ok _ => some { a with reader := next q, fin := true }
    else if !recLenOk t p then some (err 0x09)
    else some { a with reader := { (next q) with wrap := if t = 0x03 then some [] else r.wrap } }

/-- Check records until one is not whole, one is in error, or END. `fuel` bounds the records of the stream. -/
def Audit.records : Nat → Audit → Audit
  | 0, a => a
  | fuel + 1, a =>
    if a.bad.isSome || a.fin then a
    else match a.record with
      | none => a
      | some b => b.records fuel

/-- Check one stored chunk and the records that it completes. -/
def Audit.chunk (key h : List Byte) (a : Audit) (stored : Option (List Byte)) : Audit :=
  if a.bad.isSome || a.fin then a
  else
    let k := a.reader.chunk
    match stored with
    | none => { a with bad := some (0x02, k) }
    | some bytes =>
      match chunkOpen key h k bytes with
      | none => { a with bad := some (0x06, k) }
      | some plain =>
        let r := { a.reader with chunk := k + 1, stream := a.reader.stream ++ plain }
        ({ a with reader := r }).records (r.stream.length + 1)

/-- The first error of a stored image with its chunk: HEADER, key mode and size, then chunk tags and records as the load meets them; an
image that ends before END breaks R179. -/
def auditImage (fuse : Option (List Byte)) (golden : Bool) (slotBytes : Nat) (header : List Byte) (chunks : List (Option (List Byte))) :
    Option (Nat × Nat) :=
  let h := padTo 128 header
  if (hdrFault h (some golden)).isSome then some (0x03, 0)
  else if hdrEnc h != fuse.isSome then some (0x04, 0)
  else if slotBytes < hdrStored h then some (0x05, 0)
  else
    let start : Audit := { reader := Reader.opened h, cache := [], frames := [], bad := none, fin := false }
    let a := (chunks.take (hdrChunks h)).foldl (Audit.chunk (chunkKey fuse h) h) start
    a.bad.or (if a.fin then none else some (if a.reader.chunk < hdrChunks h then 0x02 else 0x12, a.reader.chunk))

end Sys2Proof.Machine
end

