-- ==== Sys2Proof/Machine/Bin.lean ====
section
/-!
DEFINITION. The Binnacle port apart from its register-bus accesses: the window, apertures and their fills, parity, the write
queue, the mirror window and the interrupt (R793 to R830).
-/
namespace Sys2Proof.Machine

/-- The port answers: from the agreement of the housekeeping copies to the retention switch, and again from fabric clock
release (R829, R830). -/
def State.binOn (s : State) : Bool := s.dev == .halted || s.dev == .loading || s.dev == .running || s.dev == .draining

/-! ### Window and apertures (R799 to R804) -/

/-- The page of a word address, and the byte offset within it (R793, R799). -/
def bnPage (a : BitVec 16) : Nat := a.toNat / 1024
def bnOffset (a : BitVec 16) : Nat := a.toNat % 1024 * 4

/-- A base that an aperture may map (R800). -/
def apBaseOk (base : Nat) : Bool := decide (0x40000000 ≤ base) && decide (base ≤ 0x4018F000)

/-- BIN_APa as it is stored (R800). -/
def apStored (w : Word) : Word :=
  let base := w.toNat / 4096 * 4096
  if apBaseOk base then BitVec.ofNat 32 base else 0

/-- The apertures return to Table BIN-2 (R829). -/
def State.apReset (s : State) : State :=
  let s := s.each (List.range 62) fun s i => s.putWord (BIN_AP (i + 2)) 0
  let s := s.each resetApertures fun s p => s.putWord (BIN_AP p.1) (BitVec.ofNat 32 p.2)
  ((s.clr BIN_STATUS_AP_BUSY).withBin { s.bin with filling := [], latches := [] })

/-- The page that reads of an aperture use: the old one until a fill ends (R804); 0 means unmapped. -/
def State.apReadBase (s : State) (a : Nat) : Nat :=
  match s.bin.filling.find? (·.1 == a) with
  | some p => p.2
  | none => (s.word (BIN_AP a)).toNat

/-- A write of BIN_APa has been stored: the fill starts, and a latch held by that aperture ends (R804, R826). -/
def State.apWritten (s : State) (a : Nat) (old : Word) : State :=
  let keep (g : List (Nat × Word)) : Bool := g.all fun p => p.1 / 1024 != a
  let filling := if s.bin.filling.any (·.1 == a) then s.bin.filling else s.bin.filling ++ [(a, old.toNat)]
  ((s.set BIN_STATUS_AP_BUSY).withBin { s.bin with filling := filling, latches := s.bin.latches.filter keep })

/-- A fill ends (R804). -/
def State.apFilled (s : State) (a : Nat) : State :=
  let filling := s.bin.filling.filter (·.1 != a)
  ((s.putB BIN_STATUS_AP_BUSY (!filling.isEmpty)).withBin { s.bin with filling := filling })

/-- No aperture is still to be filled. -/
def State.apAllFilled (s : State) : State := (s.clr BIN_STATUS_AP_BUSY).withBin { s.bin with filling := [] }

/-- The oldest group latch expires (R806). -/
def State.bnLatchEnd (s : State) : State := s.withBin { s.bin with latches := s.bin.latches.drop 1 }

/-! ### Parity (R819, R820) -/

/-- Ones in the low bits of a number. -/
def ones : Nat → Nat → Nat
  | 0, _ => 0
  | n + 1, v => v % 2 + ones n (v / 2)

/-- BN_PAR for an address and a data word: odd parity per lane (R819). -/
def bnParity (a : BitVec 16) (d : Word) : BitVec 4 :=
  let bit (n : Nat) : Nat := if (ones 8 (bitsOf d (8 * n) 8) + ones 4 (a.toNat / 16 ^ n % 16)) % 2 = 0 then 1 else 0
  BitVec.ofNat 4 (bit 0 + 2 * bit 1 + 4 * bit 2 + 8 * bit 3)

/-- The lanes of a write that fail: those whose byte is enabled, or all of them when none is (R820). -/
def bnBadLanes (a : BitVec 16) (d : Word) (be par : BitVec 4) : BitVec 4 :=
  (par ^^^ bnParity a d) &&& (if be = 0 then 0xF#4 else be)

/-- A write that fails parity (R820). -/
def State.bnParityFail (s : State) (a : BitVec 16) (lanes : BitVec 4) : State :=
  let s := ((s.set BIN_STATUS_PAR_W).set BIN_IRQ_STATUS_PARITY).satInc BIN_PARERRS_COUNT BIN_PARERRS_OVF
  let s := s.iff (!s.bit BIN_PAR_ADDR_VALID) fun s =>
    ((s.set BIN_PAR_ADDR_VALID).put BIN_PAR_ADDR_LANES lanes.toNat).put BIN_PAR_ADDR_BN_A a.toNat
  s.report 4 lanes.toNat a.toNat

/-- Apply a write unless its parity is checked and fails (R820, R821). -/
def State.bnChecked (s : State) (a : BitVec 16) (d : Word) (be par : BitVec 4) (f : State → State) : State :=
  if s.bit BIN_CFG_PAR_CHECK && bnBadLanes a d be par != 0 then s.bnParityFail a (bnBadLanes a d be par) else f s

/-! ### The write queue (R808 to R814) -/

/-- Replace the queue, WQ_USED with it. -/
def State.putBinQueue (s : State) (q : List BinEntry) : State :=
  (s.put BIN_STATUS_WQ_USED q.length).withBin { s.bin with queue := q }

/-- A write or command enters the queue, or is dropped and counted (R808, R810). -/
def State.binEnqueue (s : State) (e : BinEntry) : State :=
  if s.bin.queue.length < 16 then s.putBinQueue (s.bin.queue ++ [e])
  else ((s.set BIN_STATUS_WQ_OVF).set BIN_IRQ_STATUS_WQ_OVF).satInc BIN_WDROPS_COUNT BIN_WDROPS_OVF

/-- A failed write: WERR with its response code, recorded when WERR was clear (R810, R811). -/
def State.binError (s : State) (code : Nat) (addr : Option Word) : State :=
  let s := s.iff (!s.bit BIN_STATUS_WERR) fun s =>
    let s := s.put BIN_STATUS_CODE code
    match addr with
    | some a => s.putWord BIN_WERR_ADDR a
    | none => s
  (s.set BIN_STATUS_WERR).set BIN_IRQ_STATUS_WERR

/-- A write to an aperture (R808, R810). -/
def State.apWrite (s : State) (a : BitVec 16) (d : Word) (be : BitVec 4) : State :=
  let base := (s.word (BIN_AP (bnPage a))).toNat
  if base = 0 then (s.binError 1 none).satInc BIN_WDROPS_COUNT BIN_WDROPS_OVF
  else s.binEnqueue (.post (BitVec.ofNat 32 (base + bnOffset a)) d be)

/-- A write of BIN_IND_CMD has been accepted (R812, R814): the address, data and strobes are taken with it. -/
def State.indCommand (s : State) (w : Word) : State :=
  let op := bitsOf w 0 2
  if op != 1 && op != 2 then s
  else if s.bit BIN_IND_STATUS_BUSY then s.set BIN_IND_STATUS_BUSY_ERR
  else
    let full := 16 ≤ s.bin.queue.length
    let addr := s.word BIN_IND_ADDR
    let e := if op = 1 then BinEntry.indRead addr else .indWrite addr (s.word BIN_IND_WDATA) (BitVec.ofNat 4 (bitsOf w 4 4))
    (s.binEnqueue e).iff (!full) (·.set BIN_IND_STATUS_BUSY)

/-- An indirect access has completed (R813). -/
def State.indDone (s : State) (code : Nat) (data : Option Word) : State :=
  let s := ((s.clr BIN_IND_STATUS_BUSY).set BIN_IND_STATUS_DONE).put BIN_IND_STATUS_RESP code
  let s := match data with
    | some d => s.putWord BIN_IND_RDATA d
    | none => s
  s.set BIN_IRQ_STATUS_IND_DONE

/-! ### Mirror window (R815 to R818) -/

/-- The bytes of `x` that the enables name, from `y`. -/
def mergeBytes (x y : Word) (be : BitVec 4) : Word :=
  let m (n : Nat) : Word := if be.getLsbD n then bitMask (8 * n) 8 else 0
  mergeBits x y (m 0 ||| m 1 ||| m 2 ||| m 3)

/-- A write of the fabric's mirror port (R815, R818). -/
def State.mirrorPut (s : State) (word : Nat) (d : Word) (be : BitVec 4) : State :=
  s.iff (s.bit BIN_STATUS_MIRROR_LIVE) fun s =>
    s.withBin { s.bin with mirror := cellWrite s.bin.mirror word (mergeBytes (cellRead s.bin.mirror word) d be) }

/-- A host write to the mirror window: delivered to the fabric whole, or dropped and counted (R816, R818). -/
def State.mirrorHost (s : State) (word : Nat) (d : Word) (be : BitVec 4) (room : Bool) : State :=
  let user := word + be.toNat * 1024
  if s.bit BIN_STATUS_MIRROR_LIVE && room && s.streamRoom hostPort 1 then
    s.streamPush hostPort (unitBeats user 0 [d.toNat])
  else s.satInc BIN_WDROPS_COUNT BIN_WDROPS_OVF

/-- A rising MDB (R817, R818). -/
def State.mdb (s : State) : State := s.iff (s.bit BIN_STATUS_MIRROR_LIVE) (·.set BIN_IRQ_STATUS_DOORBELL)

/-- A load begins: the mirror window reads 0 and is not live (R818). -/
def State.mirrorClear (s : State) : State := (s.clr BIN_STATUS_MIRROR_LIVE).withBin { s.bin with mirror := [] }

/-! ### Faults and interrupt (R822, R823, R828) -/

/-- A SECDED error in the shadow or the mirror memory; the mirror is page 0 (R828). -/
def State.shadowCheck (s : State) (aperture off : Nat) (double : Bool) : State :=
  if double then ((s.set BIN_STATUS_SHADOW_ECC).set BIN_IRQ_STATUS_SHADOW_ECC).report 6 aperture off
  else s.report 5 aperture off

/-- BIN_IRQ_STATUS with its level bits (R823). -/
def State.binIrq (s : State) : Word :=
  let lvl (j : Nat) : Nat := if s.eventLine (bitsOf (s.word (BIN_IRQ_SEL (j / 4))) (8 * (j % 4)) 8) then 2 ^ j else 0
  setBits (s.word BIN_IRQ_STATUS) 8 8 ((List.range 8).foldl (fun n j => n + lvl j) 0)

/-- BN_IRQ_N is driven low (R822, R830). -/
def State.bnIrqLow (s : State) : Bool := s.binOn && (s.binIrq &&& s.word BIN_IRQ_EN) != 0

/-- What BN_IRQ_N is driven to, none at high impedance: until the housekeeping copies agree, and as an open drain without a cause (R822, R829,
R830). -/
def State.bnIrq (s : State) : Option Bool :=
  if !s.binOn && s.dev != .watch then none
  else if s.bnIrqLow then some false
  else if s.binOn && s.bit BIN_CFG_IRQ_OD then none
  else some true

end Sys2Proof.Machine
end

