-- ==== Sys2Proof/Machine/Pin.lean ====
section
/-!
DEFINITION. The general-purpose pins: functions and claims, the merge, bank mode changes, bank supplies and the Watch
behaviour (R759 to R792).
-/
namespace Sys2Proof.Machine

/-- The hidden state of bank `b`. -/
def State.bank (s : State) (b : Nat) : PinBank := s.pin[b]?.getD PinBank.fresh

/-- Replace the hidden state of bank `b`. -/
def State.putBank (s : State) (b : Nat) (v : PinBank) : State := s.withPin (s.pin.setIfInBounds b v)

/-- Function `f` has a signal at pin `i` (Table PIN-2). -/
def pinHas (f i : Nat) : Bool :=
  match f with
  | 0 => true
  | 1 => true
  | 2 => decide (i < 2)
  | 3 => decide (2 ≤ i) && decide (i ≤ 9)
  | 4 => decide (10 ≤ i) && decide (i ≤ 14)
  | 5 => decide (15 ≤ i) && decide (i ≤ 19)
  | 6 => i == 20
  | 7 => i == 21
  | 8 => decide (22 ≤ i) && decide (i ≤ 24)
  | 9 => decide (10 ≤ i) && decide (i ≤ 17)
  | _ => false

/-- A pin word as it is stored: a MUX without a signal at the pin stores 0, as do MERGE 11 to 15 and PULL and WPULL 3; the reserved bits
store 0 (Tables PIN-1 and PIN-3, R767). -/
def pinWordStored (i : Nat) (w : Word) : Word :=
  let w := w &&& 0x000FBFFF#32
  let w := if pinHas (bitsOf w 0 4) i then w else setBits w 0 4 0
  let w := if 10 < bitsOf w 4 4 then setBits w 4 4 0 else w
  let w := if bitsOf w 11 2 = 3 then setBits w 11 2 0 else w
  if bitsOf w 18 2 = 3 then setBits w 18 2 0 else w

/-- The functions enabled in PIN_CLAIM that claim pin `i`, lowest first (R771). -/
def State.pinClaims (s : State) (b i : Nat) : List Nat :=
  (List.range 10).filter fun f => 2 ≤ f && bitsOf (s.word (PIN_CLAIM b)) f 1 == 1 && pinHas f i

/-- The effective function of a pin (R767, R771, R773). -/
def State.pinFunc (s : State) (b i : Nat) : Nat :=
  let mux := s.get (PIN_CFG_MUX b i)
  if s.bit (PIN_BANK_CFG_MODE b) then
    match s.pinClaims b i with
    | f :: _ => f
    | [] => if mux ≤ 1 then mux else 0
  else mux

/-- A claim on a pin is lost (R772). -/
def State.pinLost (s : State) (b i : Nat) : Bool := s.bit (PIN_BANK_CFG_MODE b) && decide (2 ≤ (s.pinClaims b i).length)

/-- A word from a Boolean per bit. -/
def wordOf (f : Nat → Bool) : Word := BitVec.ofNat 32 ((List.range 32).foldl (fun n i => n + if f i then 2 ^ i else 0) 0)

/-- Bring PIN_EFF, PIN_CONFLICT and MODES of a bank up to date; a pin newly lost raises line 244 (R771 to R775). -/
def State.pinRecompute (s : State) (b : Nat) : State :=
  let s := s.each [0, 1, 2, 3] fun s k =>
    s.putWord (PIN_EFF b k) (BitVec.ofNat 32 ((List.range 8).foldl (fun n j => n + s.pinFunc b (8 * k + j) * 16 ^ j) 0))
  let old := s.word (PIN_CONFLICT b)
  let new := wordOf fun i => s.pinLost b i
  ((s.putWord (PIN_CONFLICT b) new).put ⟨PIN_STATUS, 16 + b, 1⟩ (s.get (PIN_BANK_CFG_MODE b))).iff (new &&& ~~~old != 0) (·.event 244)

/-- IO_OK and CFG_DONE of a bank. -/
def pinIoOk (b : Nat) : Fld := ⟨PIN_STATUS, b, 1⟩
def pinCfgDone (b : Nat) : Fld := ⟨PIN_STATUS, 8 + b, 1⟩

/-- A bank whose pins follow its configuration. -/
def State.pinLive (s : State) (b : Nat) : Bool := s.released && s.bit (pinCfgDone b)

/-- A write of PIN_BANK_CFG has been stored: a changed MODE moves all 32 pins at one edge (R775). -/
def State.pinModeWritten (s : State) (b : Nat) (old : Word) : State :=
  if bitsOf old 0 1 == s.get (PIN_BANK_CFG_MODE b) then s else (s.pinRecompute b).event 245

/-! ### Levels (R764, R766, R768, R770) -/

/-- A free bit per fabric signal of a bank's pins: O, OE and FDM are the fabric's own. -/
def State.pinFabric (s : State) (i k : Nat) : Bool := s.draw / 2 ^ (3 * i + k) % 2 == 1

/-- The primary output of a pin: whether it drives, and its level. -/
def State.pinPrimary (s : State) (b i : Nat) : Bool × Bool :=
  let bit (w : Word) (k : Nat) : Bool := bitsOf w k 1 == 1
  let evt (k : Nat) : Bool := s.eventLine (bitsOf (s.word (PIN_EVT_SEL b (k / 4))) (8 * (k % 4)) 8)
  match s.pinFunc b i with
  | 0 => (s.pinFabric i 0, s.pinFabric i 1)
  | 1 => (bit (s.word (PIN_GPIO_OE b)) i, bit (s.word (PIN_GPIO_OUT b)) i)
  | 3 => (true, evt (i - 2))
  | 4 => (true, if i = 14 then s.bit (RX_STATUS_GUARD_OK 0) else bit (s.word (RX_STATUS 0)) (24 + i - 10))
  | 5 => (true, if i = 19 then s.bit (RX_STATUS_GUARD_OK 1) else bit (s.word (RX_STATUS 1)) (24 + i - 15))
  | 6 => (true, s.ppsOut)
  | 7 => (true, s.healthHigh)
  | 8 => (true, match i with
      | 22 => s.pwr.watchPending
      | 23 => s.bit CFG_STATUS_DONE
      | _ => s.bit SYS_SERVICE_LANDFALL)
  | 9 => (true, evt (i - 2))
  | _ => (false, false)

/-- The merge source of a pin (Table PIN-3). -/
def State.pinMerge (s : State) (i m : Nat) : Bool :=
  if m ≤ 4 then bitsOf (s.word (RX_STATUS 0)) (24 + m - 1) 1 == 1
  else if m ≤ 8 then bitsOf (s.word (RX_STATUS 1)) (24 + m - 5) 1 == 1
  else if m = 9 then s.pinFabric i 2
  else s.ppsOut

/-- What a pin drives in Running: whether it drives, and the level; open drain releases a high (R768, R770). -/
def State.pinDrives (s : State) (b i : Nat) : Bool × Bool :=
  let p := s.pinPrimary b i
  let m := s.get (PIN_CFG_MERGE b i)
  let d := if m = 0 then p else (true, (p.1 && p.2) || s.pinMerge i m)
  if s.bit (PIN_CFG_OD b i) && d.2 then (false, true) else d

/-- What a pin drives in the Watch state (Table PIN-4). -/
def State.pinWatchDrives (s : State) (b i : Nat) : Bool × Bool :=
  match s.get (PIN_CFG_WATCH b i) with
  | 0 => s.pinDrives b i
  | 1 => (true, false)
  | 2 => (!s.bit (PIN_CFG_OD b i), true)
  | _ => (false, false)

/-- The retention switch: every bank takes its Watch behaviour, kept whatever VCC_IO does (R778 to R780). Pins of a bank that is
not driving its configuration were not driving. -/
def State.pinRetention (s : State) : State :=
  s.each (List.range 6) fun s b =>
    let live := s.pinLive b
    let d (i : Nat) : Bool × Bool :=
      if !live && s.get (PIN_CFG_WATCH b i) == 0 then (false, false) else s.pinWatchDrives b i
    (s.drawn.putBank b { watch := true, drive := wordOf fun i => (d i).1, level := wordOf fun i => (d i).2 })

/-- Fabric release and fabric clock release: every powered bank takes its configuration (R781, R789). -/
def State.pinRelease (s : State) : State :=
  s.each (List.range 6) fun s b =>
    let s := (s.putBank b { watch := false, drive := 0, level := 0 }).put (pinIoOk b) (if s.railOk (8 + b) then 1 else 0)
    ((s.put (pinCfgDone b) (if s.railOk (8 + b) then 1 else 0)).putWord (PIN_CONFLICT b) 0).pinRecompute b

/-- A load begins: every pin is at high impedance (R789, R791). -/
def State.pinHighZ (s : State) : State :=
  s.each (List.range 6) fun s b => (s.putBank b { watch := false, drive := 0, level := 0 }).clr (pinCfgDone b)

/-- VCC_IO of a bank comes within its limits (R779, R790). -/
def State.bankUp (s : State) (b : Nat) : State :=
  let was := s.railOk (8 + b)
  let s := (s.set ⟨PWR_RAILS, 8 + b, 1⟩).set (pinIoOk b)
  s.iff (!was && s.released && s.inService) fun s => (s.set (pinCfgDone b)).event 246

/-- VCC_IO of a bank leaves its limits (R792). -/
def State.bankDown (s : State) (b : Nat) : State := (((s.clr ⟨PWR_RAILS, 8 + b, 1⟩).clr (pinIoOk b)).clr (pinCfgDone b))

/-- PIN_GPIO_IN: the pads of a powered bank, which the board decides; 0 without VCC_IO, and after it returns until the bank takes its
configuration (R765, R792, R936). -/
def State.gpioIn (s : State) (b : Nat) : Word :=
  if s.railOk (8 + b) && (s.bit (pinCfgDone b) || !s.released) then BitVec.ofNat 32 s.draw else 0

end Sys2Proof.Machine
end

