-- ==== Sys2Proof/Machine/RegMap.lean ====
section
/-! DEFINITION. The register map: one row per register of the spec's register summary tables, with the bits each access
code covers (R8), the bits the image sets (R11) and the permitted writers (R12). -/
namespace Sys2Proof.Machine

/-- The writers column of a register (R12): a set of master IDs, or the master bound to the cipher page (R498). -/
inductive Writers where
  | set (ids : BitVec 16)
  | page
deriving DecidableEq, Repr

/-- One register of a summary table: first address, (stride, count) of its instances, and the bits of each access code;
a bit in none of them is RO or reserved. `img` holds the bits whose image-set column reads Y. -/
structure RegRow where
  base : Nat
  dims : List (Nat × Nat)
  rw : Word
  wo : Word
  w1c : Word
  rc : Word
  rwi : Word
  img : Word
  writers : Writers
deriving DecidableEq, Repr

def rowsSys : List RegRow := [
  ⟨0x40000000, [], 0x0, 0x0, 0x0, 0x0, 0x0, 0x0, .set 0x0000⟩,
  ⟨0x40000004, [], 0x0, 0x0, 0x0, 0x0, 0x0, 0x0, .set 0x0000⟩,
  ⟨0x40000008, [], 0x0, 0x0, 0xC0000000, 0x0, 0x0, 0x0, .set 0x3FFF⟩,
  ⟨0x4000000C, [], 0x0, 0x0, 0x0, 0x0, 0x0, 0x0, .set 0x0000⟩,
  ⟨0x40000010, [], 0x0, 0x0, 0x80000000, 0xFFFF, 0x0, 0x0, .set 0x3FFF⟩
]

def rowsPwr : List RegRow := [
  ⟨0x40000100, [], 0x0, 0x0, 0x0, 0x0, 0x0, 0x0, .set 0x0000⟩,
  ⟨0x40000104, [], 0x0, 0x1, 0x0, 0x0, 0x0, 0x0, .set 0x0FFF⟩,
  ⟨0x40000108, [], 0x0, 0x0, 0x0, 0x0, 0x1FF7, 0x1FF7, .set 0x3FFF⟩,
  ⟨0x4000010C, [], 0x0, 0x0, 0x0, 0x0, 0xFF0F03FF, 0xFF0F03FF, .set 0x3FFF⟩,
  ⟨0x40000110, [], 0x0, 0x0, 0x0, 0x0, 0xF, 0xF, .set 0x3FFF⟩,
  ⟨0x40000114, [], 0x0, 0x0, 0x700, 0x0, 0x0, 0x0, .set 0x3FFF⟩,
  ⟨0x40000118, [], 0x0, 0x0, 0x80000000, 0x0, 0x0, 0x0, .set 0x3FFF⟩,
  ⟨0x4000011C, [], 0x0, 0x0, 0x0, 0x0, 0x0, 0x0, .set 0x0000⟩,
  ⟨0x40000120, [], 0x0, 0x0, 0x0, 0x0, 0x0, 0x0, .set 0x0000⟩
]

def rowsWch : List RegRow := [
  ⟨0x40008000, [], 0x0, 0x0, 0x0, 0x0, 0x0, 0x0, .set 0x0000⟩,
  ⟨0x40008004, [], 0x0, 0x0, 0x0, 0x0, 0x0, 0x0, .set 0x0000⟩,
  ⟨0x40008008, [], 0x0, 0x0, 0x0, 0x0, 0x0, 0x0, .set 0x0000⟩,
  ⟨0x40008010, [], 0xFFFFFFFF, 0x0, 0x0, 0x0, 0x0, 0x0, .set 0x2FFF⟩,
  ⟨0x40008014, [], 0xFFFF, 0x0, 0x0, 0x0, 0x0, 0x0, .set 0x2FFF⟩,
  ⟨0x40008018, [], 0xFFFFFFFF, 0x0, 0x0, 0x0, 0x0, 0x0, .set 0x2FFF⟩,
  ⟨0x4000801C, [], 0x0, 0x1, 0x0, 0x0, 0x0, 0x0, .set 0x2FFF⟩,
  ⟨0x40008020, [], 0x0, 0x0, 0x0, 0x0, 0x1FFFF, 0x1FFFF, .set 0x3FFF⟩,
  ⟨0x40008024, [], 0x0, 0x0, 0x30FF, 0x0, 0x0, 0x0, .set 0x3FFF⟩,
  ⟨0x40008028, [], 0x0, 0x0, 0x0, 0x0, 0xEFEFEFEF, 0xEFEFEFEF, .set 0x3FFF⟩,
  ⟨0x4000802C, [], 0x0, 0x0, 0x80808080, 0x0, 0x0, 0x0, .set 0x3FFF⟩,
  ⟨0x40008030, [], 0xFFFFFFFF, 0x0, 0x0, 0x0, 0x0, 0x0, .set 0x3FFF⟩,
  ⟨0x40008034, [], 0x0, 0x0, 0x80000000, 0x0, 0x0, 0x0, .set 0x3FFF⟩
]

def rowsLog : List RegRow := [
  ⟨0x40180000, [(0x20, 1024), (0x4, 8)], 0x0, 0x0, 0x0, 0x0, 0x0, 0x0, .set 0x0000⟩,
  ⟨0x40188000, [], 0x0, 0x0, 0x0, 0x0, 0x0, 0x0, .set 0x0000⟩,
  ⟨0x40188004, [], 0x0, 0x0, 0x80000000, 0x0, 0x0, 0x0, .set 0x3FFF⟩,
  ⟨0x40188008, [], 0x0, 0x0, 0x80000000, 0x0, 0x0, 0x0, .set 0x3FFF⟩,
  ⟨0x4018800C, [], 0x0, 0x3, 0x0, 0x0, 0x0, 0x0, .set 0x2FFF⟩,
  ⟨0x40188010, [], 0x0, 0x0, 0x0, 0x0, 0x0, 0x0, .set 0x0000⟩
]

def rowsHrv : List RegRow := [
  ⟨0x40010000, [], 0x0, 0x0, 0x0, 0x0, 0xF3F01, 0xF3F01, .set 0x3FFF⟩,
  ⟨0x40010004, [], 0x0, 0x0, 0x0, 0x0, 0xFFFFFF, 0xFFFFFF, .set 0x3FFF⟩,
  ⟨0x40010008, [], 0x0, 0x0, 0x0, 0x0, 0x0, 0x0, .set 0x0000⟩,
  ⟨0x4001000C, [], 0x0, 0x0, 0x0, 0x0, 0x0, 0x0, .set 0x0000⟩
]

def rowsCfg : List RegRow := [
  ⟨0x40020000, [], 0x0, 0x0, 0x0, 0x0, 0x0, 0x0, .set 0x0000⟩,
  ⟨0x40020004, [], 0x0, 0x0, 0x0, 0x0, 0x0, 0x0, .set 0x0000⟩,
  ⟨0x40020008, [], 0x0, 0x0, 0x0, 0x0, 0x0, 0x0, .set 0x0000⟩,
  ⟨0x4002000C, [], 0x0, 0x0, 0x0, 0x0, 0x0, 0x0, .set 0x0000⟩,
  ⟨0x40020010, [], 0x0, 0x0, 0x0, 0x0, 0x0, 0x0, .set 0x0000⟩,
  ⟨0x40020014, [], 0x0, 0x0, 0x80000000, 0x0, 0x0, 0x0, .set 0x3FFF⟩,
  ⟨0x40020018, [], 0x0, 0xFFFF0007, 0x0, 0x0, 0x0, 0x0, .set 0x3FFF⟩,
  ⟨0x4002001C, [], 0x0, 0x0, 0x0, 0x0, 0x0, 0x0, .set 0x0000⟩,
  ⟨0x40020020, [], 0x0, 0x0, 0x0, 0x0, 0xFFFF, 0xFFFF, .set 0x3FFF⟩,
  ⟨0x40020024, [], 0x0, 0x0, 0xC00, 0x0, 0x0, 0x0, .set 0x3FFF⟩,
  ⟨0x40020028, [], 0x0, 0x0, 0x80000000, 0x0, 0x0, 0x0, .set 0x3FFF⟩,
  ⟨0x40020030, [], 0x0, 0x0, 0x0, 0x0, 0x0, 0x0, .set 0x0000⟩,
  ⟨0x40020034, [], 0x0, 0x0, 0x0, 0x0, 0x0, 0x0, .set 0x0000⟩,
  ⟨0x40020038, [], 0x0, 0x0, 0x0, 0x0, 0x0, 0x0, .set 0x0000⟩,
  ⟨0x40020040, [], 0x0, 0xFFFF0003, 0x0, 0x0, 0x0, 0x0, .set 0x3FFF⟩,
  ⟨0x40020044, [], 0xFFFFFFFF, 0x0, 0x0, 0x0, 0x0, 0x0, .set 0x3FFF⟩,
  ⟨0x40020048, [], 0x0, 0x0, 0xE, 0x0, 0x0, 0x0, .set 0x3FFF⟩,
  ⟨0x4002004C, [], 0x0, 0x0, 0x0, 0x0, 0x3, 0x3, .set 0x3FFF⟩,
  ⟨0x40020060, [], 0x0, 0xFFFF, 0x0, 0x0, 0x0, 0x0, .set 0x1000⟩,
  ⟨0x40020080, [(0x4, 8)], 0x0, 0xFFFFFFFF, 0x0, 0x0, 0x0, 0x0, .set 0x1000⟩,
  ⟨0x40020100, [(0x4, 64)], 0xFFFFFFFF, 0x0, 0x0, 0x0, 0x0, 0x0, .set 0x3FFF⟩,
  ⟨0x40020200, [(0x4, 16)], 0x0, 0x0, 0x0, 0x0, 0x0, 0x0, .set 0x0000⟩
]

def rowsFab : List RegRow := [
  ⟨0x40004000, [], 0x0, 0x0, 0x38, 0x0, 0x0, 0x0, .set 0x3FFF⟩,
  ⟨0x40004004, [], 0x0, 0x0, 0x80000000, 0x0, 0x0, 0x0, .set 0x3FFF⟩,
  ⟨0x40004008, [], 0x0, 0x0, 0x80000000, 0x0, 0x0, 0x0, .set 0x3FFF⟩,
  ⟨0x4000400C, [], 0x0, 0x0, 0x80000000, 0x0, 0x0, 0x0, .set 0x3FFF⟩,
  ⟨0x40004010, [], 0x0, 0x0, 0x80008000, 0x0, 0x0, 0x0, .set 0x3FFF⟩,
  ⟨0x40004014, [], 0x0, 0x0, 0x80008000, 0x0, 0x0, 0x0, .set 0x3FFF⟩,
  ⟨0x40004018, [], 0x0, 0x0, 0xFFFFFFFF, 0x0, 0x0, 0x0, .set 0x3FFF⟩,
  ⟨0x4000401C, [], 0x0, 0x0, 0x80000000, 0x0, 0x7FF, 0x7FF, .set 0x3FFF⟩,
  ⟨0x40004020, [(0x4, 4)], 0x0, 0x0, 0x0, 0x0, 0x0, 0xFFFFFFFF, .set 0x0000⟩
]

def rowsScr : List RegRow := [
  ⟨0x40030000, [], 0x0, 0x0, 0x0, 0x0, 0x1FFFF, 0x1FFFF, .set 0x3FFF⟩,
  ⟨0x40030004, [], 0x0, 0x0, 0x37F, 0x0, 0x0, 0x0, .set 0x3FFF⟩,
  ⟨0x40030008, [], 0x0, 0x0, 0x80000000, 0x0, 0x0, 0x0, .set 0x3FFF⟩,
  ⟨0x4003000C, [], 0x0, 0x0, 0x80008000, 0x0, 0x0, 0x0, .set 0x3FFF⟩,
  ⟨0x40030010, [], 0x0, 0x0, 0x0, 0x0, 0x0, 0x0, .set 0x0000⟩,
  ⟨0x40030014, [], 0x0, 0x0, 0x0, 0x0, 0x0, 0x0, .set 0x0000⟩,
  ⟨0x40030018, [], 0x0, 0x0, 0x0, 0x0, 0x0, 0x0, .set 0x0000⟩,
  ⟨0x4003001C, [], 0x0, 0x0, 0x0, 0x0, 0x0, 0x0, .set 0x0000⟩,
  ⟨0x40030020, [], 0x0, 0xFFFF00F3, 0x0, 0x0, 0x0, 0x0, .set 0x3FFF⟩,
  ⟨0x40030024, [], 0x7F, 0x0, 0x0, 0x0, 0x0, 0x0, .set 0x3FFF⟩,
  ⟨0x40030028, [], 0x0, 0x0, 0xC000, 0x0, 0x0, 0x0, .set 0x3FFF⟩,
  ⟨0x4003002C, [], 0x0, 0x0, 0x0, 0x0, 0x0, 0x0, .set 0x0000⟩
]

def rowsPll : List RegRow := [
  ⟨0x40050000, [(0x100, 11)], 0x0, 0x0, 0x0, 0x0, 0xEF000001, 0xEF000001, .set 0x3FFF⟩,
  ⟨0x40050004, [(0x100, 11)], 0x0, 0x0, 0x0, 0x0, 0xFFFFFFFF, 0xFFFFFFFF, .set 0x3FFF⟩,
  ⟨0x40050008, [(0x100, 11)], 0x0, 0x0, 0x0, 0x0, 0xFFFFFFFF, 0xFFFFFFFF, .set 0x3FFF⟩,
  ⟨0x4005000C, [(0x100, 11)], 0x0, 0x0, 0x30000000, 0x0, 0x0, 0x0, .set 0x3FFF⟩,
  ⟨0x40050010, [(0x100, 11)], 0x0, 0x0, 0x80000000, 0x0, 0x0, 0x0, .set 0x3FFF⟩,
  ⟨0x40050014, [(0x100, 11)], 0x0, 0x0, 0x0, 0x0, 0x0, 0x0, .set 0x0000⟩,
  ⟨0x40050018, [(0x100, 11)], 0x0, 0xFFFF0003, 0x0, 0x0, 0x0, 0x0, .set 0x3FFF⟩,
  ⟨0x4005001C, [(0x100, 11)], 0x0, 0x0, 0x0, 0x0, 0x0, 0x0, .set 0x0000⟩,
  ⟨0x40050B00, [], 0x0, 0x0, 0x0, 0x0, 0xFFFFFFFF, 0xFFFFFFFF, .set 0x0000⟩,
  ⟨0x40050B04, [], 0x0, 0x0, 0x0, 0x0, 0xFFFFFFFF, 0xFFFFFFFF, .set 0x0000⟩,
  ⟨0x40050B08, [], 0x0, 0x0, 0x7, 0x0, 0x0, 0x0, .set 0x3FFF⟩,
  ⟨0x40051000, [(0x400, 11), (0x10, 64)], 0x0, 0x0, 0x0, 0x0, 0x8000003F, 0x8000003F, .set 0x2000⟩,
  ⟨0x40051004, [(0x400, 11), (0x10, 64)], 0x0, 0x0, 0x0, 0x0, 0xFFFFFFFF, 0xFFFFFFFF, .set 0x2000⟩,
  ⟨0x40051008, [(0x400, 11), (0x10, 64)], 0x0, 0x0, 0x0, 0x0, 0xFFFFFFFF, 0xFFFFFFFF, .set 0x2000⟩
]

def rowsFix : List RegRow := [
  ⟨0x40060000, [], 0x0, 0x0, 0x0, 0x0, 0xFFFFFFFF, 0xFFFFFFFF, .set 0x3FFF⟩,
  ⟨0x40060004, [], 0x0, 0x0, 0x0, 0x0, 0xFFF, 0xFFF, .set 0x3FFF⟩,
  ⟨0x40060008, [], 0x0, 0x0, 0x0, 0x0, 0xFFFFFFFF, 0xFFFFFFFF, .set 0x3FFF⟩,
  ⟨0x40060010, [], 0x0, 0x0, 0x0, 0x0, 0x0, 0x0, .set 0x0000⟩,
  ⟨0x40060014, [], 0x0, 0x0, 0x0, 0x0, 0x0, 0x0, .set 0x0000⟩,
  ⟨0x40060018, [], 0x0, 0x0, 0x0, 0x0, 0x0, 0x0, .set 0x0000⟩,
  ⟨0x4006001C, [], 0x0, 0x0, 0x0, 0x0, 0x0, 0x0, .set 0x0000⟩,
  ⟨0x40060020, [], 0x0, 0x0, 0x0, 0x0, 0x0, 0x0, .set 0x0000⟩,
  ⟨0x40060024, [], 0x0, 0x0, 0x0, 0x0, 0x0, 0x0, .set 0x0000⟩,
  ⟨0x40060028, [], 0x0, 0x0, 0x0, 0x0, 0x0, 0x0, .set 0x0000⟩,
  ⟨0x4006002C, [], 0x0, 0x0, 0x0, 0x0, 0x0, 0x0, .set 0x0000⟩,
  ⟨0x40060030, [], 0xFFFFFFFF, 0x0, 0x0, 0x0, 0x0, 0x0, .set 0x3FFF⟩,
  ⟨0x40060034, [], 0xFFFF, 0x0, 0x0, 0x0, 0x0, 0x0, .set 0x3FFF⟩,
  ⟨0x40060038, [], 0xFFFFFFFF, 0x0, 0x0, 0x0, 0x0, 0x0, .set 0x3FFF⟩,
  ⟨0x4006003C, [], 0x0, 0xFFFF0001, 0x0, 0x0, 0x0, 0x0, .set 0x3FFF⟩,
  ⟨0x40060040, [], 0x0, 0xFFFFFFFF, 0x0, 0x0, 0x0, 0x0, .set 0x0FFF⟩,
  ⟨0x40060044, [], 0x0, 0x3, 0x0, 0x0, 0x0, 0x0, .set 0x0FFF⟩,
  ⟨0x40060048, [], 0x0, 0x0, 0x0, 0x0, 0xFFFF, 0xFFFF, .set 0x3FFF⟩,
  ⟨0x4006004C, [], 0x0, 0x0, 0x0, 0x0, 0x8000FFFF, 0x8000FFFF, .set 0x3FFF⟩,
  ⟨0x40060050, [], 0x0, 0x0, 0x0, 0x0, 0x30FFFFFF, 0x30FFFFFF, .set 0x3FFF⟩,
  ⟨0x40060054, [], 0x0, 0x0, 0x0, 0x0, 0xC000FFFF, 0xC000FFFF, .set 0x3FFF⟩,
  ⟨0x40060058, [], 0x0, 0x0, 0x80000000, 0x0, 0x0, 0x0, .set 0x3FFF⟩,
  ⟨0x4006005C, [], 0x0, 0x0, 0x80000000, 0x0, 0x0, 0x0, .set 0x3FFF⟩,
  ⟨0x40060060, [], 0x0, 0x0, 0x80000000, 0x0, 0x0, 0x0, .set 0x3FFF⟩,
  ⟨0x40060064, [], 0x0, 0x0, 0xFF, 0x0, 0x0, 0x0, .set 0x3FFF⟩,
  ⟨0x40060068, [], 0x0, 0x0, 0x0, 0x0, 0xFF, 0xFF, .set 0x3FFF⟩
]

def rowsLnk : List RegRow := [
  ⟨0x40080000, [(0x400, 24)], 0x0, 0x0, 0x0, 0x0, 0x7FF, 0x7FF, .set 0x3FFF⟩,
  ⟨0x40080004, [(0x400, 24)], 0x0, 0x0, 0x0, 0x0, 0x1F3F1F, 0x1F3F1F, .set 0x3FFF⟩,
  ⟨0x40080008, [(0x400, 24)], 0x0, 0x0, 0xF00, 0x0, 0x0, 0x0, .set 0x3FFF⟩,
  ⟨0x4008000C, [(0x400, 24)], 0x0, 0x0, 0x0, 0x0, 0x0, 0x0, .set 0x0000⟩,
  ⟨0x40080010, [(0x400, 24)], 0x0, 0x0, 0x0, 0x0, 0xFFFFF7, 0xFFFFF7, .set 0x3FFF⟩,
  ⟨0x40080014, [(0x400, 24)], 0xFF, 0x100, 0x0, 0x0, 0x0, 0x0, .set 0x3FFF⟩,
  ⟨0x40080018, [(0x400, 24)], 0x0, 0x0, 0x6, 0x0, 0x0, 0x0, .set 0x3FFF⟩,
  ⟨0x40080020, [(0x400, 24)], 0x0, 0x0, 0x0, 0x0, 0x0, 0x0, .set 0x0000⟩,
  ⟨0x40080024, [(0x400, 24)], 0x0, 0x0, 0x0, 0x0, 0x0, 0x0, .set 0x0000⟩,
  ⟨0x40080028, [(0x400, 24)], 0x0, 0x0, 0x0, 0x0, 0x0, 0x0, .set 0x0000⟩,
  ⟨0x4008002C, [(0x400, 24)], 0x0, 0x0, 0x0, 0x0, 0x0, 0x0, .set 0x0000⟩,
  ⟨0x40080030, [(0x400, 24)], 0x0, 0x0, 0x0, 0x0, 0x0, 0x0, .set 0x0000⟩,
  ⟨0x40080034, [(0x400, 24)], 0x0, 0x0, 0x0, 0x0, 0x0, 0x0, .set 0x0000⟩,
  ⟨0x40080038, [(0x400, 24)], 0x0, 0x0, 0x0, 0x0, 0x0, 0x0, .set 0x0000⟩,
  ⟨0x4008003C, [(0x400, 24)], 0x0, 0x0, 0x0, 0x0, 0x0, 0x0, .set 0x0000⟩,
  ⟨0x40080040, [(0x400, 24)], 0x0, 0x0, 0x80000000, 0x0, 0x0, 0x0, .set 0x3FFF⟩,
  ⟨0x40080044, [(0x400, 24)], 0x0, 0x0, 0x80000000, 0x0, 0x0, 0x0, .set 0x3FFF⟩,
  ⟨0x40080048, [(0x400, 24)], 0x0, 0x0, 0x80000000, 0x0, 0x0, 0x0, .set 0x3FFF⟩,
  ⟨0x4008004C, [(0x400, 24)], 0x0, 0x0, 0x80000000, 0x0, 0x0, 0x0, .set 0x3FFF⟩,
  ⟨0x40080050, [(0x400, 24)], 0x0, 0x0, 0x80000000, 0x0, 0x0, 0x0, .set 0x3FFF⟩,
  ⟨0x40080054, [(0x400, 24)], 0x0, 0x0, 0x0, 0x0, 0x0, 0x0, .set 0x0000⟩,
  ⟨0x40080058, [(0x400, 24)], 0x0, 0x0, 0x0, 0x0, 0x0, 0x0, .set 0x0000⟩,
  ⟨0x4008005C, [(0x400, 24)], 0x0, 0x0, 0x0, 0x0, 0x0, 0x0, .set 0x0000⟩,
  ⟨0x40080060, [(0x400, 24)], 0x0, 0x0, 0x0, 0x0, 0x0, 0x0, .set 0x0000⟩,
  ⟨0x40080064, [(0x400, 24)], 0x0, 0x0, 0x80000000, 0x0, 0x0, 0x0, .set 0x3FFF⟩,
  ⟨0x40080068, [(0x400, 24)], 0x0, 0x0, 0x0, 0x0, 0xFFFFFFFF, 0xFFFFFFFF, .set 0x3FFF⟩,
  ⟨0x40080080, [(0x400, 24)], 0x800FFF7F, 0x0, 0x0, 0x0, 0x0, 0x0, .set 0x2000⟩,
  ⟨0x40080084, [(0x400, 24)], 0x0, 0x0, 0x0, 0x0, 0x0, 0x0, .set 0x0000⟩,
  ⟨0x40088000, [(0x40, 4)], 0x0, 0x0, 0x0, 0x0, 0x1, 0x1, .set 0x0000⟩,
  ⟨0x40088004, [(0x40, 4)], 0x0, 0x0, 0x0, 0x0, 0x0, 0x0, .set 0x0000⟩
]

def rowsBrg : List RegRow := [
  ⟨0x400A0000, [], 0x0, 0x0, 0x0, 0x0, 0xFF01FF, 0xFF01FF, .set 0x3FFF⟩,
  ⟨0x400A0004, [], 0x0, 0x0, 0x0, 0x0, 0x0, 0x0, .set 0x0000⟩,
  ⟨0x400A0008, [], 0x0, 0x0, 0x0, 0x0, 0xF3F3F, 0xF3F3F, .set 0x0000⟩,
  ⟨0x400A000C, [], 0x0, 0xFFFF000F, 0x0, 0x0, 0x0, 0x0, .set 0x3FFF⟩,
  ⟨0x400A0010, [], 0x0, 0xFFFF003F, 0x0, 0x0, 0x0, 0x0, .set 0x3FFF⟩,
  ⟨0x400A0014, [], 0x0, 0x0, 0x3FF, 0x0, 0x0, 0x0, .set 0x3FFF⟩,
  ⟨0x400A0020, [(0x10, 4)], 0x0, 0x0, 0x0, 0x0, 0xDF1F, 0xDF1F, .set 0x3FFF⟩,
  ⟨0x400A0024, [(0x10, 4)], 0x0, 0x0, 0x0, 0x0, 0x0, 0x0, .set 0x0000⟩,
  ⟨0x400A0028, [(0x10, 4)], 0x0, 0x0, 0x0, 0x0, 0x0, 0x0, .set 0x0000⟩,
  ⟨0x400A0100, [(0x4, 64)], 0x0, 0x0, 0x0, 0x0, 0x3F3F, 0x3F3F, .set 0x3FFF⟩,
  ⟨0x400A0200, [(0x4, 12)], 0x0, 0x0, 0x80000000, 0x0, 0x0, 0x0, .set 0x3FFF⟩
]

def rowsCph : List RegRow := [
  ⟨0x400C0000, [(0x1000, 16)], 0x0, 0x0, 0x0, 0x0, 0x800F007F, 0x800F007F, .set 0x0000⟩,
  ⟨0x400C0004, [(0x1000, 16)], 0x0, 0x0, 0x0, 0x0, 0xFFFFFFFF, 0xFFFFFFFF, .set 0x0000⟩,
  ⟨0x400C0008, [(0x1000, 16)], 0x0, 0x0, 0x0, 0x0, 0xFFFFFFFF, 0xFFFFFFFF, .set 0x0000⟩,
  ⟨0x400C000C, [(0x1000, 16)], 0x0, 0x0, 0x0, 0x0, 0x0, 0x0, .set 0x0000⟩,
  ⟨0x400C0010, [(0x1000, 16)], 0x0, 0xCF3FFFC0, 0x0, 0x0, 0x0, 0x0, .page⟩,
  ⟨0x400C0014, [(0x1000, 16)], 0x3F7F1F, 0x0, 0x0, 0x0, 0x0, 0x0, .page⟩,
  ⟨0x400C0018, [(0x1000, 16)], 0x0, 0x0, 0x70000000, 0x0, 0x0, 0x0, .page⟩,
  ⟨0x400C001C, [(0x1000, 16)], 0x0, 0x0, 0x0, 0x0, 0x0, 0x0, .set 0x0000⟩,
  ⟨0x400C0020, [(0x1000, 16), (0x4, 4)], 0xFFFFFFFF, 0x0, 0x0, 0x0, 0x0, 0x0, .page⟩,
  ⟨0x400C0030, [(0x1000, 16), (0x4, 4)], 0xFFFFFFFF, 0x0, 0x0, 0x0, 0x0, 0x0, .page⟩,
  ⟨0x400C0040, [(0x1000, 16), (0x4, 8)], 0xFFFFFFFF, 0x0, 0x0, 0x0, 0x0, 0x0, .page⟩,
  ⟨0x400C0080, [(0x1000, 16), (0x4, 16)], 0xFFFFFFFF, 0x0, 0x0, 0x0, 0x0, 0x0, .page⟩,
  ⟨0x400C0100, [(0x1000, 16), (0x4, 8)], 0xFFFFFFFF, 0x0, 0x0, 0x0, 0x0, 0x0, .page⟩,
  ⟨0x400C0120, [(0x1000, 16)], 0x0, 0xC00000FF, 0x0, 0x0, 0x0, 0x0, .page⟩,
  ⟨0x400C0124, [(0x1000, 16)], 0x0, 0x0, 0x0, 0x0, 0x0, 0x0, .set 0x0000⟩,
  ⟨0x400C0128, [(0x1000, 16)], 0x0, 0x0, 0x0, 0x0, 0x0, 0x0, .set 0x0000⟩,
  ⟨0x400C012C, [(0x1000, 16)], 0x0, 0x0, 0x0, 0x0, 0x0, 0x0, .set 0x0000⟩,
  ⟨0x400C0140, [(0x1000, 16), (0x4, 8)], 0x0, 0xFFFFFFFF, 0x0, 0x0, 0x0, 0x0, .page⟩,
  ⟨0x400C0160, [(0x1000, 16)], 0x0, 0xFFFFFFFF, 0x0, 0x0, 0x0, 0x0, .page⟩,
  ⟨0x400C0164, [(0x1000, 16)], 0xFFFFFFFF, 0x0, 0x0, 0x0, 0x0, 0x0, .page⟩,
  ⟨0x400C0168, [(0x1000, 16)], 0x0, 0x0, 0x0, 0x0, 0x0, 0x0, .set 0x0000⟩,
  ⟨0x400D0000, [(0x10, 64)], 0x0, 0x0, 0x0, 0x0, 0x0, 0x0, .set 0x0000⟩,
  ⟨0x400D0004, [(0x10, 64)], 0x0, 0x0, 0x0, 0x0, 0x0, 0x0, .set 0x0000⟩,
  ⟨0x400D0008, [(0x10, 64)], 0x0, 0x0, 0x0, 0x0, 0x0, 0x0, .set 0x0000⟩,
  ⟨0x400D000C, [(0x10, 64)], 0x0, 0x0, 0x0, 0x0, 0x0, 0x0, .set 0x0000⟩,
  ⟨0x400E0000, [(0x4, 64)], 0x0, 0x0, 0x0, 0x0, 0x0, 0x0, .set 0x0000⟩,
  ⟨0x400F0000, [], 0x0, 0x0, 0x0, 0x0, 0x80000780, 0x80000780, .set 0x3FFF⟩,
  ⟨0x400F0004, [], 0x0, 0x0, 0x100, 0x0, 0x0, 0x0, .set 0x3FFF⟩,
  ⟨0x400F0008, [], 0x0, 0x0, 0x0, 0x0, 0xFFFFFFFF, 0xFFFFFFFF, .set 0x0000⟩,
  ⟨0x400F000C, [], 0x0, 0x0, 0x0, 0x0, 0xFFFFFFFF, 0xFFFFFFFF, .set 0x0000⟩,
  ⟨0x400F0010, [], 0x0, 0xFFFF0001, 0x0, 0x0, 0x0, 0x0, .set 0x3FFF⟩,
  ⟨0x400F0020, [], 0x0, 0x0, 0x0, 0x0, 0x0, 0x0, .set 0x0000⟩,
  ⟨0x400F0024, [], 0x0, 0x0, 0x0, 0x0, 0x0, 0x0, .set 0x0000⟩,
  ⟨0x400F0028, [], 0x0, 0x0, 0x80000000, 0x0, 0x0, 0x0, .set 0x3FFF⟩,
  ⟨0x400F002C, [], 0x0, 0x0, 0x80000000, 0x0, 0x0, 0x0, .set 0x3FFF⟩,
  ⟨0x400F0030, [], 0x0, 0x0, 0x80000000, 0x0, 0x0, 0x0, .set 0x3FFF⟩,
  ⟨0x400F0034, [], 0x0, 0x0, 0x80000000, 0x0, 0x0, 0x0, .set 0x3FFF⟩,
  ⟨0x400F0038, [], 0x0, 0x0, 0x80000000, 0x0, 0x0, 0x0, .set 0x3FFF⟩,
  ⟨0x400F0040, [], 0x0, 0x0, 0x7FFFFF, 0x0, 0x0, 0x0, .set 0x3FFF⟩
]

def rowsSmp : List RegRow := [
  ⟨0x40100000, [], 0x0, 0x0, 0x0, 0x0, 0x7FF, 0x7FF, .set 0x3FFF⟩,
  ⟨0x40100004, [], 0x0, 0x0, 0x0, 0x0, 0x1F1F, 0x1F1F, .set 0x3FFF⟩,
  ⟨0x40100008, [], 0x0, 0x0, 0x0, 0x0, 0x1F1F3F00, 0x1F1F3F00, .set 0x3FFF⟩,
  ⟨0x4010000C, [], 0x0, 0x0, 0x0, 0x0, 0x3FFFFFFF, 0x3FFFFFFF, .set 0x3FFF⟩,
  ⟨0x40100010, [], 0x0, 0x0, 0x80000, 0x0, 0x0, 0x0, .set 0x3FFF⟩,
  ⟨0x40100014, [], 0x0, 0x0, 0x0, 0x0, 0x0, 0x0, .set 0x0000⟩,
  ⟨0x40100018, [], 0x0, 0x0, 0x0, 0x0, 0x0, 0x0, .set 0x0000⟩,
  ⟨0x4010001C, [], 0x0, 0x0, 0x0, 0x0, 0x0, 0x0, .set 0x0000⟩,
  ⟨0x40100020, [], 0x0, 0x0, 0x80000000, 0x0, 0x0, 0x0, .set 0x3FFF⟩,
  ⟨0x40100024, [], 0x0, 0x0, 0x80000000, 0x0, 0x0, 0x0, .set 0x3FFF⟩,
  ⟨0x40100028, [], 0x0, 0x0, 0x0, 0x0, 0x0, 0x0, .set 0x0000⟩,
  ⟨0x4010002C, [], 0x0, 0x0, 0x0, 0x0, 0x0, 0x0, .set 0x0000⟩,
  ⟨0x40100030, [], 0x0, 0x0, 0x80000000, 0x0, 0x0, 0x0, .set 0x3FFF⟩,
  ⟨0x40100034, [], 0x0, 0x0, 0x80000000, 0x0, 0x0, 0x0, .set 0x3FFF⟩,
  ⟨0x40100038, [], 0x0, 0x0, 0x80000000, 0x0, 0x0, 0x0, .set 0x3FFF⟩,
  ⟨0x40100040, [], 0xFFFF, 0x0, 0x0, 0x0, 0x0, 0x0, .set 0x2FFF⟩,
  ⟨0x40100044, [], 0x3FFFF, 0x0, 0x0, 0x0, 0x0, 0x0, .set 0x2FFF⟩,
  ⟨0x40100048, [], 0xFFFF, 0x0, 0x0, 0x0, 0x0, 0x0, .set 0x2FFF⟩,
  ⟨0x4010004C, [], 0xFFFF, 0x0, 0x0, 0x0, 0x0, 0x0, .set 0x2FFF⟩,
  ⟨0x40100050, [], 0x0, 0xFFFF0F03, 0x0, 0x0, 0x0, 0x0, .set 0x2FFF⟩,
  ⟨0x40100054, [], 0x0, 0x0, 0x3FF, 0x0, 0x0, 0x0, .set 0x3FFF⟩,
  ⟨0x40100100, [(0x10, 12), (0x4, 4)], 0x0, 0x0, 0x0, 0x0, 0x0, 0x0, .set 0x0000⟩
]

def rowsRxc : List RegRow := [
  ⟨0x40110000, [], 0x0, 0x0, 0x0, 0x0, 0x1, 0x1, .set 0x3FFF⟩,
  ⟨0x40110004, [], 0x0, 0x0, 0x0, 0x0, 0x0, 0x0, .set 0x0000⟩,
  ⟨0x40110008, [], 0x0, 0x0, 0x1FFF, 0x0, 0x0, 0x0, .set 0x3FFF⟩,
  ⟨0x40110100, [(0x40, 8)], 0x0, 0x0, 0x0, 0x0, 0xFE0F0000, 0xFE0F0000, .set 0x3FFF⟩,
  ⟨0x40110104, [(0x40, 8)], 0x0, 0x0, 0x0, 0x0, 0x1FFF7FFF, 0x1FFF7FFF, .set 0x3FFF⟩,
  ⟨0x40110108, [(0x40, 8)], 0x0, 0x0, 0x0, 0x0, 0xFFFFFFFF, 0xFFFFFFFF, .set 0x3FFF⟩,
  ⟨0x4011010C, [(0x40, 8)], 0x0, 0x0, 0x0, 0x0, 0xFFFF, 0xFFFF, .set 0x3FFF⟩,
  ⟨0x40110110, [(0x40, 8)], 0x0, 0x1F, 0x0, 0x0, 0x0, 0x0, .set 0x3FFF⟩,
  ⟨0x40110114, [(0x40, 8)], 0x0, 0x0, 0xFF, 0x0, 0x0, 0x0, .set 0x3FFF⟩,
  ⟨0x40110118, [(0x40, 8)], 0x0, 0x0, 0x0, 0x0, 0x0, 0x0, .set 0x0000⟩,
  ⟨0x4011011C, [(0x40, 8)], 0x0, 0x0, 0x0, 0x0, 0x0, 0x0, .set 0x0000⟩,
  ⟨0x40110120, [(0x40, 8)], 0x0, 0x0, 0x80000000, 0x0, 0x0, 0x0, .set 0x3FFF⟩,
  ⟨0x40110124, [(0x40, 8)], 0x0, 0x0, 0x80000000, 0x0, 0x0, 0x0, .set 0x3FFF⟩,
  ⟨0x40110128, [(0x40, 8)], 0x0, 0x0, 0x0, 0x0, 0x1FFF, 0x1FFF, .set 0x3FFF⟩,
  ⟨0x4011012C, [(0x40, 8)], 0x0, 0x0, 0x0, 0x0, 0x0, 0x0, .set 0x0000⟩,
  ⟨0x40110800, [(0x40, 8), (0x4, 16)], 0x0, 0x0, 0x0, 0x0, 0xFFFFFFFF, 0xFFFFFFFF, .set 0x3FFF⟩,
  ⟨0x40111000, [(0x800, 8), (0x4, 320)], 0x0, 0x0, 0x0, 0x0, 0x3FFFF, 0x3FFFF, .set 0x3FFF⟩
]

def rowsBcd : List RegRow := [
  ⟨0x40120000, [], 0x0, 0x0, 0x0, 0x0, 0x80FF00FF, 0x80FF00FF, .set 0x3FFF⟩,
  ⟨0x40120004, [], 0x0, 0x0, 0x0, 0x0, 0x0, 0x0, .set 0x0000⟩,
  ⟨0x40120008, [], 0x0, 0x0, 0x1FFFFF, 0x0, 0x0, 0x0, .set 0x3FFF⟩,
  ⟨0x40120100, [(0x100, 4)], 0x0, 0x0, 0x0, 0x0, 0xFFFFEFFF, 0xFFFFEFFF, .set 0x3FFF⟩,
  ⟨0x40120104, [(0x100, 4)], 0x0, 0x0, 0x0, 0x0, 0xFFFFFFFF, 0xFFFFFFFF, .set 0x3FFF⟩,
  ⟨0x40120108, [(0x100, 4)], 0x0, 0x0, 0x0, 0x0, 0x3FFF, 0x3FFF, .set 0x3FFF⟩,
  ⟨0x4012010C, [(0x100, 4)], 0x0, 0x0, 0x0, 0x0, 0xFF00FFFF, 0xFF00FFFF, .set 0x3FFF⟩,
  ⟨0x40120110, [(0x100, 4)], 0x0, 0x0, 0x0, 0x0, 0xFFF0FFFF, 0xFFF0FFFF, .set 0x3FFF⟩,
  ⟨0x40120114, [(0x100, 4)], 0x0, 0x0, 0x0, 0x0, 0xFFDFFFFF, 0xFFDFFFFF, .set 0x3FFF⟩,
  ⟨0x40120118, [(0x100, 4)], 0x0, 0x0, 0x0, 0x0, 0xFFFFFFFF, 0xFFFFFFFF, .set 0x3FFF⟩,
  ⟨0x4012011C, [(0x100, 4)], 0x0, 0x0, 0x0, 0x0, 0xFFFFFFFF, 0xFFFFFFFF, .set 0x3FFF⟩,
  ⟨0x40120120, [(0x100, 4)], 0x0, 0x0, 0x0, 0x0, 0xFFFFFFFF, 0xFFFFFFFF, .set 0x3FFF⟩,
  ⟨0x40120124, [(0x100, 4)], 0x0, 0x0, 0x0, 0x0, 0xFFFFFFFF, 0xFFFFFFFF, .set 0x3FFF⟩,
  ⟨0x40120128, [(0x100, 4)], 0x0, 0x0, 0x0, 0x0, 0xFFFFFFFF, 0xFFFFFFFF, .set 0x3FFF⟩,
  ⟨0x4012012C, [(0x100, 4)], 0x0, 0x0, 0x0, 0x0, 0xF, 0xF, .set 0x3FFF⟩,
  ⟨0x40120130, [(0x100, 4)], 0x0, 0x0, 0xF, 0x0, 0x0, 0x0, .set 0x3FFF⟩,
  ⟨0x40120134, [(0x100, 4)], 0x0, 0x0, 0x0, 0x0, 0x0, 0x0, .set 0x0000⟩,
  ⟨0x40120138, [(0x100, 4)], 0x0, 0x0, 0x0, 0x0, 0x0, 0x0, .set 0x0000⟩,
  ⟨0x4012013C, [(0x100, 4)], 0x0, 0x0, 0x0, 0x0, 0x0, 0x0, .set 0x0000⟩,
  ⟨0x40120140, [(0x100, 4)], 0x0, 0x0, 0x0, 0x0, 0x0, 0x0, .set 0x0000⟩,
  ⟨0x40120144, [(0x100, 4)], 0x0, 0x0, 0x80000000, 0x0, 0x0, 0x0, .set 0x3FFF⟩,
  ⟨0x40120148, [(0x100, 4)], 0x0, 0x0, 0x80000000, 0x0, 0x0, 0x0, .set 0x3FFF⟩,
  ⟨0x4012014C, [(0x100, 4)], 0x0, 0x0, 0x80000000, 0x0, 0x0, 0x0, .set 0x3FFF⟩,
  ⟨0x40120150, [(0x100, 4)], 0x0, 0x0, 0x80000000, 0x0, 0x0, 0x0, .set 0x3FFF⟩,
  ⟨0x40120154, [(0x100, 4)], 0x0, 0x0, 0x80000000, 0x0, 0x0, 0x0, .set 0x3FFF⟩,
  ⟨0x40120158, [(0x100, 4)], 0x0, 0x0, 0x80000000, 0x0, 0x0, 0x0, .set 0x3FFF⟩,
  ⟨0x4012015C, [(0x100, 4)], 0x0, 0x0, 0x0, 0x0, 0x0, 0x0, .set 0x0000⟩,
  ⟨0x40120180, [(0x100, 4), (0x4, 8)], 0x0, 0x0, 0x0, 0x0, 0x8FFFFFFF, 0x8FFFFFFF, .set 0x3FFF⟩,
  ⟨0x401201A0, [(0x100, 4), (0x4, 24)], 0x0, 0x0, 0x0, 0x0, 0x0, 0x0, .set 0x0000⟩
]

def rowsLmd : List RegRow := [
  ⟨0x40130000, [], 0x0, 0x0, 0x0, 0x0, 0x3, 0x3, .set 0x3FFF⟩,
  ⟨0x40130004, [], 0x0, 0x0, 0x0, 0x0, 0xFFF, 0xFFF, .set 0x3FFF⟩,
  ⟨0x40130008, [], 0x0, 0x0, 0x0, 0x0, 0x0, 0x0, .set 0x0000⟩,
  ⟨0x4013000C, [], 0x0, 0x0, 0x80000000, 0x0, 0x0, 0x0, .set 0x3FFF⟩,
  ⟨0x40130010, [], 0x0, 0xFFFF010F, 0x0, 0x0, 0x0, 0x0, .set 0x3FFF⟩,
  ⟨0x40130014, [], 0x0, 0x0, 0x3FFFF, 0x0, 0x0, 0x0, .set 0x3FFF⟩,
  ⟨0x40130080, [(0x4, 32)], 0x0, 0x0, 0x0, 0x0, 0x1FFF0FFF, 0x1FFF0FFF, .set 0x3FFF⟩,
  ⟨0x40130100, [(0x80, 2)], 0x0, 0x0, 0x0, 0x0, 0xF7FF0000, 0xF7FF0000, .set 0x3FFF⟩,
  ⟨0x40130104, [(0x80, 2)], 0x0, 0x0, 0x0, 0x0, 0xFFFFF, 0xFFFFF, .set 0x3FFF⟩,
  ⟨0x40130108, [(0x80, 2), (0x4, 4)], 0x0, 0x0, 0x0, 0x0, 0x83307FFF, 0x83307FFF, .set 0x3FFF⟩,
  ⟨0x40130118, [(0x80, 2)], 0x0, 0x0, 0x0, 0x0, 0xFFFF3FF, 0xFFFF3FF, .set 0x3FFF⟩,
  ⟨0x4013011C, [(0x80, 2)], 0x0, 0x0, 0x0, 0x0, 0xFFFFBFFF, 0xFFFFBFFF, .set 0x3FFF⟩,
  ⟨0x40130120, [(0x80, 2)], 0x0, 0x0, 0x0, 0x0, 0xFFFF, 0xFFFF, .set 0x3FFF⟩,
  ⟨0x40130124, [(0x80, 2)], 0x0, 0x0, 0x10F0, 0x0, 0x0, 0x0, .set 0x3FFF⟩,
  ⟨0x40130128, [(0x80, 2)], 0x0, 0x0, 0x80000000, 0x0, 0x0, 0x0, .set 0x3FFF⟩,
  ⟨0x4013012C, [(0x80, 2)], 0x0, 0x0, 0x0, 0x0, 0x0, 0x0, .set 0x0000⟩,
  ⟨0x40130130, [(0x80, 2)], 0x0, 0x0, 0x80000000, 0x0, 0x0, 0x0, .set 0x3FFF⟩,
  ⟨0x40130134, [(0x80, 2)], 0x0, 0x0, 0x0, 0x0, 0x0, 0x0, .set 0x0000⟩,
  ⟨0x40130200, [(0x80, 2)], 0x0, 0x0, 0x0, 0x0, 0xFFBFF000, 0xFFBFF000, .set 0x3FFF⟩,
  ⟨0x40130204, [(0x80, 2)], 0x0, 0x0, 0x0, 0x0, 0xFFFFF, 0xFFFFF, .set 0x3FFF⟩,
  ⟨0x40130208, [(0x80, 2), (0x4, 4)], 0x0, 0x0, 0x0, 0x0, 0x83307FFF, 0x83307FFF, .set 0x3FFF⟩,
  ⟨0x40130218, [(0x80, 2)], 0x0, 0x0, 0x0, 0x0, 0xFFFFFFFF, 0xFFFFFFFF, .set 0x3FFF⟩,
  ⟨0x4013021C, [(0x80, 2)], 0x0, 0x0, 0x0, 0x0, 0xFFFFFF, 0xFFFFFF, .set 0x3FFF⟩,
  ⟨0x40130220, [(0x80, 2)], 0x0, 0x0, 0x0, 0x0, 0xFF3FFFFF, 0xFF3FFFFF, .set 0x3FFF⟩,
  ⟨0x40130224, [(0x80, 2)], 0x0, 0x0, 0x1F, 0x0, 0x0, 0x0, .set 0x3FFF⟩,
  ⟨0x40130228, [(0x80, 2)], 0x0, 0x0, 0x0, 0x0, 0x0, 0x0, .set 0x0000⟩,
  ⟨0x4013022C, [(0x80, 2)], 0x0, 0x0, 0x0, 0x0, 0x0, 0x0, .set 0x0000⟩,
  ⟨0x40130230, [(0x80, 2)], 0x0, 0x0, 0x0, 0x0, 0x0, 0x0, .set 0x0000⟩,
  ⟨0x40130240, [(0x80, 2), (0x4, 11)], 0x0, 0x0, 0x80000000, 0x0, 0x0, 0x0, .set 0x3FFF⟩,
  ⟨0x40131000, [(0x400, 2), (0x4, 255)], 0x0, 0x0, 0x0, 0x0, 0xFFFF, 0xFFFF, .set 0x3FFF⟩,
  ⟨0x40131800, [(0x100, 2), (0x4, 64)], 0x0, 0x0, 0x0, 0x0, 0x3FF, 0x3FF, .set 0x3FFF⟩
]

def rowsSpt : List RegRow := [
  ⟨0x40140000, [(0x40, 8)], 0x0, 0x0, 0x0, 0x0, 0xFF800000, 0xFF800000, .set 0x3FFF⟩,
  ⟨0x40140004, [(0x40, 8)], 0x0, 0x0, 0x0, 0x0, 0x7FF07FF, 0x7FF07FF, .set 0x3FFF⟩,
  ⟨0x40140008, [(0x40, 8)], 0x0, 0x7, 0x0, 0x0, 0x0, 0x0, .set 0x3FFF⟩,
  ⟨0x4014000C, [(0x40, 8)], 0x0, 0x0, 0x1F0, 0x0, 0x0, 0x0, .set 0x3FFF⟩,
  ⟨0x40140010, [(0x40, 8)], 0x0, 0x0, 0x0, 0x0, 0xFF, 0xFF, .set 0x3FFF⟩,
  ⟨0x40140014, [(0x40, 8)], 0x0, 0x0, 0x0, 0x0, 0x0, 0x0, .set 0x0000⟩,
  ⟨0x40140018, [(0x40, 8)], 0x0, 0x0, 0x80000000, 0x0, 0x0, 0x0, .set 0x3FFF⟩,
  ⟨0x4014001C, [(0x40, 8)], 0x0, 0x0, 0x80000000, 0x0, 0x0, 0x0, .set 0x3FFF⟩,
  ⟨0x40140020, [(0x40, 8)], 0x0, 0x0, 0x80000000, 0x0, 0x0, 0x0, .set 0x3FFF⟩,
  ⟨0x40140024, [(0x40, 8)], 0x0, 0x0, 0x0, 0x0, 0x0, 0x0, .set 0x0000⟩,
  ⟨0x40140200, [], 0x0, 0x0, 0xF, 0x0, 0x0, 0x0, .set 0x3FFF⟩
]

def rowsPin : List RegRow := [
  ⟨0x40150000, [(0x100, 6)], 0x0, 0x0, 0x0, 0x0, 0x1, 0x1, .set 0x3FFF⟩,
  ⟨0x40150004, [(0x100, 6)], 0x0, 0x0, 0x0, 0x0, 0x3FC, 0x3FC, .set 0x3FFF⟩,
  ⟨0x40150008, [(0x100, 6)], 0x0, 0x0, 0x0, 0x0, 0x0, 0x0, .set 0x0000⟩,
  ⟨0x40150010, [(0x100, 6), (0x4, 4)], 0x0, 0x0, 0x0, 0x0, 0x0, 0x0, .set 0x0000⟩,
  ⟨0x40150020, [(0x100, 6)], 0xFFFFFFFF, 0x0, 0x0, 0x0, 0x0, 0x0, .set 0x2FFF⟩,
  ⟨0x40150024, [(0x100, 6)], 0xFFFFFFFF, 0x0, 0x0, 0x0, 0x0, 0x0, .set 0x2FFF⟩,
  ⟨0x40150028, [(0x100, 6)], 0x0, 0x0, 0x0, 0x0, 0x0, 0x0, .set 0x0000⟩,
  ⟨0x40150030, [(0x100, 6), (0x4, 4)], 0x0, 0x0, 0x0, 0x0, 0xFFFFFFFF, 0xFFFFFFFF, .set 0x3FFF⟩,
  ⟨0x40150080, [(0x100, 6), (0x4, 32)], 0x0, 0x0, 0x0, 0x0, 0xFBFFF, 0xFBFFF, .set 0x3FFF⟩,
  ⟨0x40150800, [], 0x0, 0x0, 0x0, 0x0, 0x0, 0x0, .set 0x0000⟩,
  ⟨0x40150804, [], 0x0, 0x0, 0x7, 0x0, 0x0, 0x0, .set 0x3FFF⟩
]

def rowsBin : List RegRow := [
  ⟨0x40160000, [], 0x0, 0x0, 0x0, 0x0, 0x3, 0x3, .set 0x3FFF⟩,
  ⟨0x40160004, [], 0x0, 0x0, 0x1E, 0x0, 0x0, 0x0, .set 0x3FFF⟩,
  ⟨0x40160008, [], 0x0, 0x0, 0x0, 0x0, 0xFFFF, 0xFFFF, .set 0x3FFF⟩,
  ⟨0x4016000C, [], 0x0, 0x0, 0x7F, 0x0, 0x0, 0x0, .set 0x3FFF⟩,
  ⟨0x40160010, [(0x4, 2)], 0x0, 0x0, 0x0, 0x0, 0xFFFFFFFF, 0xFFFFFFFF, .set 0x3FFF⟩,
  ⟨0x40160018, [], 0x0, 0x0, 0x80000000, 0x0, 0x0, 0x0, .set 0x3FFF⟩,
  ⟨0x4016001C, [], 0x0, 0x0, 0x0, 0x0, 0x0, 0x0, .set 0x0000⟩,
  ⟨0x40160020, [], 0x0, 0x0, 0x80000000, 0x0, 0x0, 0x0, .set 0x3FFF⟩,
  ⟨0x40160024, [], 0x0, 0x0, 0x80000000, 0x0, 0x0, 0x0, .set 0x3FFF⟩,
  ⟨0x40160030, [], 0xFFFFFFFF, 0x0, 0x0, 0x0, 0x0, 0x0, .set 0x1000⟩,
  ⟨0x40160034, [], 0xFFFFFFFF, 0x0, 0x0, 0x0, 0x0, 0x0, .set 0x1000⟩,
  ⟨0x40160038, [], 0x0, 0xF3, 0x0, 0x0, 0x0, 0x0, .set 0x1000⟩,
  ⟨0x4016003C, [], 0x0, 0x0, 0x0, 0x0, 0x0, 0x0, .set 0x0000⟩,
  ⟨0x40160040, [], 0x0, 0x0, 0x60000000, 0x0, 0x0, 0x0, .set 0x1000⟩,
  ⟨0x40160108, [(0x4, 62)], 0x0, 0x0, 0x0, 0x0, 0xFFFFF000, 0xFFFFF000, .set 0x3FFF⟩
]

def rowsMon : List RegRow := [
  ⟨0x40170000, [], 0x0, 0x0, 0x0, 0x0, 0xFFBFFFFF, 0xFFBFFFFF, .set 0x3FFF⟩,
  ⟨0x40170004, [], 0x0, 0x0, 0x0, 0x0, 0x0, 0x0, .set 0x0000⟩,
  ⟨0x40170008, [], 0x0, 0x0, 0x80008000, 0x0, 0x0, 0x0, .set 0x3FFF⟩,
  ⟨0x4017000C, [], 0x0, 0x0, 0x0, 0x0, 0x0, 0x0, .set 0x0000⟩,
  ⟨0x40170010, [], 0x0, 0x0, 0x80000000, 0x0, 0x0, 0x0, .set 0x3FFF⟩,
  ⟨0x40170014, [], 0x0, 0x0, 0x80000000, 0x0, 0x0, 0x0, .set 0x3FFF⟩,
  ⟨0x40170018, [], 0x0, 0x0, 0xF, 0x0, 0x0, 0x0, .set 0x3FFF⟩,
  ⟨0x4017001C, [], 0x0, 0xFFFF0001, 0x0, 0x0, 0x0, 0x0, .set 0x1FFF⟩
]

def rowsGrd : List RegRow := [
  ⟨0x40040000, [], 0x0, 0x0, 0x0, 0x0, 0xFF, 0xFF, .set 0x3FFF⟩,
  ⟨0x40040004, [], 0x0, 0x0, 0x0, 0x0, 0x0, 0x0, .set 0x0000⟩,
  ⟨0x40040008, [], 0x0, 0x0, 0x80000000, 0x0, 0x0, 0x0, .set 0x3FFF⟩,
  ⟨0x4004000C, [], 0x0, 0x0, 0x0, 0x0, 0x0, 0x0, .set 0x0000⟩,
  ⟨0x40040010, [], 0x0, 0x0, 0x0, 0x0, 0x0, 0x0, .set 0x0000⟩,
  ⟨0x40040014, [], 0x0, 0x0, 0x0, 0x0, 0x0, 0x0, .set 0x0000⟩,
  ⟨0x40040018, [], 0x0, 0x0, 0x0, 0x0, 0x0, 0x0, .set 0x0000⟩,
  ⟨0x4004001C, [], 0x0, 0x0, 0x0, 0x0, 0x0, 0x0, .set 0x0000⟩,
  ⟨0x40040020, [], 0x0, 0xFFFF3F03, 0x0, 0x0, 0x0, 0x0, .set 0x3FFF⟩,
  ⟨0x40040024, [], 0x0, 0x0, 0x0, 0x0, 0x0, 0x0, .set 0x0000⟩,
  ⟨0x40040028, [], 0x0, 0x0, 0x80000000, 0x0, 0x0, 0x0, .set 0x3FFF⟩,
  ⟨0x4004002C, [], 0x0, 0x0, 0x80000000, 0x0, 0x0, 0x0, .set 0x3FFF⟩,
  ⟨0x40040030, [], 0x0, 0x0, 0x80000000, 0x0, 0x0, 0x0, .set 0x3FFF⟩,
  ⟨0x40040034, [], 0x0, 0x0, 0xFF, 0x0, 0x0, 0x0, .set 0x3FFF⟩
]

def rowsWear : List RegRow := [
  ⟨0x40005000, [], 0x0, 0x0, 0x0, 0x0, 0xFF00FFFF, 0xFF00FFFF, .set 0x3FFF⟩,
  ⟨0x40005004, [], 0x0, 0xFFFF0001, 0x0, 0x0, 0x0, 0x0, .set 0x3FFF⟩,
  ⟨0x40005008, [], 0x0, 0x0, 0x1FFFF, 0x0, 0x0, 0x0, .set 0x3FFF⟩,
  ⟨0x4000500C, [], 0x0, 0x0, 0x80000000, 0x0, 0x0, 0x0, .set 0x3FFF⟩,
  ⟨0x40005010, [(0x4, 4)], 0x0, 0x0, 0x80000000, 0x0, 0x0, 0x0, .set 0x3FFF⟩,
  ⟨0x40005020, [], 0x0, 0x0, 0x80000000, 0x0, 0x0, 0x0, .set 0x3FFF⟩,
  ⟨0x40005040, [(0x4, 16)], 0x0, 0x0, 0x0, 0x0, 0x0, 0x0, .set 0x0000⟩
]

end Sys2Proof.Machine
end

