-- ==== Sys2Proof/Machine/Map.lean ====
section
/-!
DEFINITION. The address map: which register an address holds, in which block and domain, what limits act on a stored value, and
the write of an image setting (R8 to R13, R28, R39, R43 to R46, R174, R800, R865, R939, R940, R943).
-/
namespace Sys2Proof.Machine

/-! ### Windows and rows (Table ARCH-6, R28, R939) -/

/-- The blocks of Table ARCH-6 by their row, counted from 0, and the fabric user register window, 20. -/
def blockOf (a : Nat) : Option Nat :=
  if a < 0x40000000 then none
  else if a < 0x40008000 then some 0
  else if a < 0x40010000 then some 1
  else if a < 0x40060000 then some (a / 0x10000 - 0x4001 + 2)
  else if a < 0x40080000 then some 7
  else if a < 0x400A0000 then some 8
  else if a < 0x400C0000 then some 9
  else if a < 0x40100000 then some 10
  else if a < 0x40190000 then some (a / 0x10000 - 0x4010 + 11)
  else if 0x50000000 ≤ a ∧ a < 0x51000000 then some 20
  else none

/-- The register rows of a block. -/
def blockRows (b : Nat) : List RegRow :=
  match b with
  | 0 => rowsSys ++ rowsPwr ++ rowsFab ++ rowsWear
  | 1 => rowsWch
  | 2 => rowsHrv
  | 3 => rowsCfg
  | 4 => rowsScr
  | 5 => rowsGrd
  | 6 => rowsPll
  | 7 => rowsFix
  | 8 => rowsLnk
  | 9 => rowsBrg
  | 10 => rowsCph
  | 11 => rowsSmp
  | 12 => rowsRxc
  | 13 => rowsBcd
  | 14 => rowsLmd
  | 15 => rowsSpt
  | 16 => rowsPin
  | 17 => rowsBin
  | 18 => rowsMon
  | 19 => rowsLog
  | _ => []

/-- An offset is one of a register's instances: strides fall, each holding the extent of those inside it. -/
def isInstance : List (Nat × Nat) → Nat → Bool
  | [], d => d == 0
  | (stride, count) :: rest, d => decide (d / stride < count) && isInstance rest (d % stride)

/-- The row of an address. -/
def rowOf (a : Nat) : Option RegRow :=
  match blockOf a with
  | none => none
  | some b => (blockRows b).find? fun r => decide (r.base ≤ a) && isInstance r.dims (a - r.base)

/-- The domains that hold register files (R939). -/
inductive RegDomain where
  | housekeeping | watch | lane | radio | security
deriving DecidableEq, Repr

/-- The domain of a block's register file. -/
def regDomain (b : Nat) : RegDomain :=
  if b = 1 ∨ b = 2 ∨ b = 19 then .watch
  else if b = 8 ∨ b = 9 then .lane
  else if b = 10 then .security
  else if 11 ≤ b ∧ b ≤ 14 then .radio
  else .housekeeping

/-- The domain of an address is supplied and out of reset (R940). -/
def State.domainUp (s : State) (a : Nat) : Bool :=
  match blockOf a with
  | none => false
  | some b =>
    match regDomain b with
    | .housekeeping => true
    | .security => true
    | .watch => s.wch.up
    | .lane => s.lanePowered
    | .radio => s.radioPowered

/-! ### Limits on stored values -/

/-- How a field limits what is stored in it. -/
inductive Limit where
  | atLeast (n : Nat)
  | atMost (n : Nat)
  | range (lo hi : Nat)
  /-- `bad` stores `good`. -/
  | swap (bad good : Nat)
  /-- From `lo` up stores `good`. -/
  | above (lo good : Nat)
  /-- SYNC_LEN: 1 to 7 store 8; 0 stands for 32. -/
  | sync
deriving DecidableEq, Repr

/-- The value stored for `v`. -/
def Limit.apply : Limit → Nat → Nat
  | .atLeast n, v => max n v
  | .atMost n, v => min n v
  | .range lo hi, v => clampNat lo hi v
  | .swap bad good, v => if v = bad then good else v
  | .above lo good, v => if lo ≤ v then good else v
  | .sync, v => if v = 0 then 0 else max 8 v

/-- The limits of the registers with one instance. -/
def limitsOne : List (Fld × Limit) := [
  (PWR_WATCH_CFG_GRACE_US, .atMost 500), (PWR_VMON_CFG_FILTER_US, .atLeast 1), (PWR_VMON_CFG_HYST, .atLeast 1),
  (PWR_VMON_CFG_THRESH, .range 400 1000), (WCH_SET_NS_NS, .atMost 999999999), (WCH_TRIM_TRIM, .swap 0x8000 0x8001),
  (HRV_CFG_FRAC, .range 16 56), (FAB_FS_TIMEOUT_CYCLES, .atLeast 16), (GRD_CFG_HOLD_MS, .atLeast 1),
  (FIX_CFG_QUAL, .atLeast 1), (FIX_CFG_DR_AVG_S, .atLeast 1), (FIX_CFG_JUMP_NS, .atLeast 1),
  (FIX_SLEW_CFG_SLEW_PPB, .range 1 40000), (FIX_PTP_CFG_TIMEOUT_MS, .range 100 10000), (FIX_BCD_CFG_DEADBAND_MS, .atLeast 1),
  (FIX_PPS_CFG_WIDTH_US, .atLeast 1), (SMP_SOUND_CFG_RF_W, .range 20 28), (SMP_SOUND_CFG_LINE_W, .range 16 24),
  (SMP_SOUND_CFG_WINDOWS, .atLeast 4), (BCD_CFG_SCAN_DWELL, .atLeast 1), (MON_CFG_IDLE, .atLeast 1),
  (MON_CFG_BAUD, .range 9600 3000000)]

/-- The limits of the registers with instances, whose addresses `a` lies among. -/
def limitsMany (a : Nat) : List (Fld × Limit) :=
  let n := (a - 0x40050000) / 0x100
  let l := (a - 0x40080000) / 0x400
  let p := (a - 0x400C0000) / 0x1000
  let d := (a - 0x40110100) / 0x40
  let c := (a - 0x40120100) / 0x100
  let t := (a - 0x40130100) / 0x80
  let r := (a - 0x40130200) / 0x80
  let q := (a - 0x40140000) / 0x40
  if 0x40050000 ≤ a ∧ a < 0x40050B00 then
    [(PLL_DIV_D0 n, .swap 1 2), (PLL_DIV_D1 n, .swap 1 2), (PLL_DIV_D2 n, .swap 1 2), (PLL_DIV_D3 n, .swap 1 2)]
  else if 0x40080000 ≤ a ∧ a < 0x40086000 then
    [(LNK_CFG_MODE l, .above 6 0), (LNK_CFG_TEST_RATE l, .above 5 0), (LNK_CFG_LOOPBACK l, .swap 3 0)]
  else if 0x400C0000 ≤ a ∧ a < 0x400D0000 then [(PAGE_CFG_QUOTA p, .range 1 64)]
  else if 0x40110100 ≤ a ∧ a < 0x40110300 then [(DDC_CFG_UNIT d, .range 6 12), (DDC_HOP_CFG_DWELL d, .atLeast 1)]
  else if 0x40120100 ≤ a ∧ a < 0x40120500 then
    [(CTX_CFG_DRM_MODE c, .above 6 0), (CTX_FLOOD_FLOOD_HOLD_S c, .atLeast 1), (CTX_FLOOD_FLOOD_DB c, .range 3 40),
     (CTX_FLOOD_FLOOD_IMP c, .atLeast 1), (CTX_CPD_CRC_W c, .swap 3 2), (CTX_CPD_PAYLOAD_BYTES c, .range 1 32),
     (CTX_CPD_SYNC_LEN c, .sync), (CTX_CPD_DEV c, .range 4 90), (CTX_CPD_BIT_RATE c, .range 25 200),
     (CTX_CARRIER_CARRIER_S c, .range 1 10)]
  else if 0x40130100 ≤ a ∧ a < 0x40130200 then
    [(TX_CFG_HTAPS t, .atLeast 4), (TX_CFG_MIN_BLOCKS t, .atLeast 1), (TX_RAMP_RAMP_TIME t, .range 10 1000), (TX_TP_START_EVERY t, .atLeast 16)] ++
    ((List.range 4).flatMap fun j => [(TX_RATE_MOD t j, Limit.swap 3 0), (TX_RATE_PRE_SEED t j, Limit.atLeast 1)])
  else if 0x40130200 ≤ a ∧ a < 0x40130300 then
    [(RX_CFG_CMD_HOLD r, .atLeast 1), (RX_TP_GUARD_LOSS r, .atLeast 1), (RX_GUARD_GUARD_RESTORE r, .atLeast 1),
     (RX_FLOOD_FLOOD_HOLD_S r, .atLeast 1), (RX_FLOOD_FLOOD_IMP r, .atLeast 1), (RX_FLOOD_FLOOD_DB r, .range 3 40)] ++
    ((List.range 4).flatMap fun j => [(RX_RATE_MOD r j, Limit.swap 3 0), (RX_RATE_PRE_SEED r j, Limit.atLeast 1)])
  else if 0x40140000 ≤ a ∧ a < 0x40140200 then
    [(SPT_CFG_FORMAT q, .swap 3 0), (SPT_CFG_WLEN q, .swap 3 2), (SPT_SETTLE_RELEASE q, .atMost 1024), (SPT_SETTLE_SETTLE q, .range 4 1024),
     (SPT_LOSS_CFG_LOSS_US q, .atLeast 1)]
  else []

/-- The limits of the fields of the register at `a`. -/
def limitsOf (a : Nat) : List (Fld × Limit) := (limitsOne ++ limitsMany a).filter fun x => x.1.addr == a

/-- A field has a bit under a mask. -/
def touches (f : Fld) (m : Word) : Bool := (bitMask f.lo f.width &&& m) != 0

/-- Apply the limits of every field that the store touches. -/
def limited (a : Nat) (touched w : Word) : Word :=
  (limitsOf a).foldl (fun w (x : Fld × Limit) =>
    if touches x.1 touched then setBits w x.1.lo x.1.width (x.2.apply (bitsOf w x.1.lo x.1.width)) else w) w

/-- HRV_THRESH as its limits leave it, in the order of R943. -/
def hrvLimited (w : Word) : Word :=
  let off := clampNat 90 240 (bitsOf w 8 8)
  let on := min 250 (max (bitsOf w 0 8) (off + 10))
  let top := max on (clampNat 150 250 (bitsOf w 16 8))
  setBits (setBits (setBits w 8 8 off) 0 8 on) 16 8 top

/-- The fields that the Guarded profile holds at 1 (R865), as the mask of the register at `a`. -/
def guardedMask (a : Nat) : Word :=
  [SCR_CTRL_EN, CPH_CFG_GUARD_ALL, SMP_CFG_PILOT_EN, LMD_CFG_MON_EN, BIN_CFG_PAR_CHECK].foldl
    (fun m (f : Fld) => if f.addr = a then m ||| bitMask f.lo f.width else m) 0

/-- A lane's MODE after the bar of R390: an Ethernet mode of a spread group stores OFF. -/
def State.lnkLimited (s : State) (a : Nat) (w : Word) : Word :=
  let l := (a - 0x40080000) / 0x400
  if 0x40080000 ≤ a ∧ a < 0x40086000 ∧ a = LNK_CFG l ∧ 1 ≤ bitsOf w 0 3 ∧ bitsOf w 0 3 ≤ 3 ∧ s.bit (LNK_GROUP_CFG_SPREAD (l / 6)) then
    setBits w 0 3 0
  else w

/-- The word that is stored where `w` would be, every limit of its register's own fields applied. `touched` holds the bits being
stored. -/
def fieldStored (a : Nat) (touched w : Word) : Word :=
  let w := limited a touched w
  if a = HRV_THRESH then hrvLimited w
  else if blockOf a = some 16 then
    let i := (a - 0x40150000) % 0x100 / 4
    if 32 ≤ i ∧ i < 64 then pinWordStored (i - 32) w else w
  else if 0x40160108 ≤ a ∧ a < 0x40160200 then apStored w
  else if a = PLL_DIV 8 ∨ a = PLL_DIV 9 ∨ a = PLL_DIV 10 then 0
  else w

/-- What a live write stores: also the bar of R390, which at load is a check of the image instead. -/
def State.storable (s : State) (a : Nat) (touched w : Word) : Word := s.lnkLimited a (fieldStored a touched w)

/-! ### Image settings (R43, R46, R174, R865) -/

/-- Apply one setting to the image-set fields of its register. Coefficient addresses hold bank A at load (R577). -/
def State.applySetting (s : State) (guarded : Bool) (x : Nat × Word) : State :=
  match rowOf x.1 with
  | none => s
  | some r =>
    let old := s.word x.1
    let w := mergeBits old x.2 r.img
    let w := mergeBits old (fieldStored x.1 r.img w) r.img
    let w := if guarded then w ||| guardedMask x.1 else w
    if 0x40111000 ≤ x.1 ∧ x.1 < 0x40115000 then
      let d := (x.1 - 0x40111000) / 0x800
      let t := (x.1 - 0x40111000) % 0x800 / 4
      (s.withDdc (s.ddc.setIfInBounds d { (s.dd d) with bankA := cellWrite (s.dd d).bankA t (w.setWidth 18) }))
    else s.putWord x.1 w

/-- Apply settings in record order; under the Guarded profile its fields are then 1 whatever the settings name. -/
def State.applySettings (s : State) (guarded : Bool) (xs : List (Nat × Word)) : State :=
  let s := s.each xs (·.applySetting guarded)
  s.iff guarded fun s => s.each [SCR_CTRL_EN, CPH_CFG_GUARD_ALL, SMP_CFG_PILOT_EN, LMD_CFG_MON_EN, BIN_CFG_PAR_CHECK] fun s f => s.set f

/-- A setting names no register window, or sets a bit that no image-set field has (R174). A register that is hard-wired to the
reserved code is treated in the checks of its own chapter. -/
def settingDenied (x : Nat × Word) : Bool :=
  match blockOf x.1 with
  | none => true
  | some _ =>
    let img : Word := match rowOf x.1 with
      | some r => r.img
      | none => 0
    (x.2 &&& ~~~img) != 0

end Sys2Proof.Machine
end

