-- ==== Sys2Proof/Machine/Spt.lean ====
section
/-!
DEFINITION. The eight sample ports: start, stop and cancel, frames, clock loss and framing errors (R729 to R758).
-/
namespace Sys2Proof.Machine

/-- The hidden state of port `n`. -/
def State.sp (s : State) (n : Nat) : SptPort := s.spt[n]?.getD SptPort.fresh

/-- Replace the hidden state of port `n`. -/
def State.putSp (s : State) (n : Nat) (v : SptPort) : State := s.withSpt (s.spt.setIfInBounds n v)

/-- The ports run from fabric release (R757). -/
def State.sptOn (s : State) : Bool := s.released && s.dev == .running

/-- STATE codes of SPT_STATUS: 0 IDLE, 1 SETTLING, 2 RUNNING, 3 RELEASING (R735). -/
def State.sptState (s : State) (n : Nat) : Nat := s.get (SPT_STATUS_STATE n)

/-- The port is an output, by the settings it settled with. -/
def State.sptOut (s : State) (n : Nat) : Bool := bitsOf (s.sp n).cfg 30 1 == 1

/-- Word length in bits (WLEN). -/
def State.sptBits (s : State) (n : Nat) : Nat := match bitsOf (s.sp n).cfg 25 2 with
  | 0 => 16
  | 1 => 24
  | _ => 32

/-- SD of an output port drives 0, that of an input port nothing (R738, R741, R742). -/
def State.sptZero (s : State) (n : Nat) : State := s.putSp n { s.sp n with sd := if s.sptOut n then .zero else .released }

/-- SD in IDLE and in the Watch state: an output port drives 0 with WATCH_SD clear, and else nothing (R742). -/
def State.sptIdleSd (s : State) (n : Nat) : State :=
  if bitsOf (s.sp n).cfg 23 1 = 0 then s.sptZero n else s.putSp n { s.sp n with sd := .released }

/-- Enter SETTLING with the settings of this moment (R736, R738, R756). -/
def State.sptSettle (s : State) (n : Nat) : State :=
  ((s.putSp n { s.sp n with cfg := s.word (SPT_CFG n), settle := s.word (SPT_SETTLE n), count := 0, gap := true, stop := false,
                            held := false }).put (SPT_STATUS_STATE n) 1).sptZero n

/-- A start request completes CANCELLED. -/
def State.sptCancelled (s : State) (n : Nat) : State := (s.set (SPT_STATUS_CANCELLED n)).emit (.sptDone n 1)

/-- Enter IDLE, where a held start request takes effect (R754). -/
def State.sptIdle (s : State) (n : Nat) : State :=
  let s := ((s.put (SPT_STATUS_STATE n) 0).event 241).sptIdleSd n
  let held := (s.sp n).held
  let s := s.putSp n { s.sp n with stop := false, held := false }
  s.iff (held && s.bit (SPT_CFG_EN n)) (·.sptSettle n)

/-- A start request (R736, R754); one in a drain completes CANCELLED (R758). -/
def State.sptStart (s : State) (n : Nat) : State :=
  match s.sptState n with
  | 0 =>
    if !s.bit (SPT_CFG_EN n) then s
    else if s.dev == .draining then s.sptCancelled n
    else s.iff s.sptOn (·.sptSettle n)
  | 3 => s.putSp n { s.sp n with held := true }
  | _ => s

/-- A STOP (R741, R744). -/
def State.sptStop (s : State) (n : Nat) : State :=
  match s.sptState n with
  | 1 => (s.sptCancelled n).sptIdle n
  | 2 => s.putSp n { s.sp n with stop := true }
  | _ => s

/-- A cancel (R744, R754). -/
def State.sptCancel (s : State) (n : Nat) : State :=
  match s.sptState n with
  | 1 => (s.sptCancelled n).sptIdle n
  | 3 => s.iff (s.sp n).held fun s => (s.putSp n { s.sp n with held := false }).sptCancelled n
  | _ => s

/-- START, CANCEL and STOP in one write: a start with its cancel or STOP completes CANCELLED (R40, R753). -/
def State.sptCmd (s : State) (n : Nat) (start cancel stop : Bool) : State :=
  let fresh := start && (cancel || stop) &&
    ((s.sptState n == 0 && s.sptOn && s.bit (SPT_CFG_EN n)) || (s.sptState n == 3 && !(s.sp n).held))
  if fresh then s.sptCancelled n
  else
    let s := s.iff (start && !(cancel || stop)) (·.sptStart n)
    let s := s.iff cancel (·.sptCancel n)
    s.iff stop (·.sptStop n)

/-- A half-frame length of R732. -/
def State.sptHalfOk (s : State) (n half : Nat) : Bool := decide (16 ≤ half) && decide (half ≤ 64) && decide (s.sptBits n ≤ half)

/-- Equal frames counted once one more of half-frame length `half` has ended (R737). -/
def State.sptCounted (s : State) (n half : Nat) : Nat := if half = (s.sp n).half then (s.sp n).count + 1 else 1

/-- SETTLE or RELEASE of the settings in force (Table SPT-4). -/
def State.sptSettleLen (s : State) (n : Nat) : Nat := bitsOf (s.sp n).settle 0 11
def State.sptReleaseLen (s : State) (n : Nat) : Nat := bitsOf (s.sp n).settle 16 11

/-- The port enters RUNNING (R739). -/
def State.sptRunning (s : State) (n : Nat) : State :=
  let s := (s.putSp n { s.sp n with count := 0, gap := true, sd := if s.sptOut n then .frames else .released }).put (SPT_STATUS_STATE n) 2
  (s.event 240).emit (.sptDone n 0)

/-- H and the frame rate as measured (R734). -/
def State.sptMeasure (s : State) (n half rateHz : Nat) : State :=
  ((s.put (SPT_MEASURE_HALF n) half).put (SPT_MEASURE_RATE_HZ n) rateHz).set (SPT_STATUS_BCK_PRESENT n)

/-- A frame ends in SETTLING: it is counted where its halves are equal and within R732, and the SETTLE-th in a row ends the state (R737). -/
def State.sptSettling (s : State) (n half0 half1 : Nat) : State :=
  if !(half0 == half1 && s.sptHalfOk n half0) then s.putSp n { s.sp n with count := 0 }
  else
    let k := s.sptCounted n half0
    let s := s.putSp n { s.sp n with half := half0, count := k }
    s.iff (s.sptSettleLen n ≤ k) (·.sptRunning n)

/-- The SETTLE-th equal frame ends (R732, R737, R739). -/
def State.sptRun (s : State) (n half rateHz : Nat) : State :=
  if !(s.sptOn && s.sptState n == 1 && s.sptHalfOk n half && decide (s.sptSettleLen n ≤ s.sptCounted n half)) then s
  else (s.sptMeasure n half rateHz).sptSettling n half half

/-- A frame dropped: counted, with DROP and line 243. -/
def State.sptDrop (s : State) (n k : Nat) : State :=
  s.iff (0 < k) fun s => ((s.satAdd (SPT_DROPS_COUNT n) (SPT_DROPS_OVF n) k).set (SPT_STATUS_DROP n)).event 243

/-- Clock loss or a framing error in RUNNING (R746); with a STOP pending the port enters IDLE (R755). -/
def State.sptLoss (s : State) (n : Nat) (framing : Bool) : State :=
  let v := s.sp n
  let s := (s.satInc (SPT_CLKLOSS_COUNT n) (SPT_CLKLOSS_OVF n)).set (if framing then SPT_STATUS_FRAMING n else SPT_STATUS_CLK_LOSS n)
  let s := ((s.event 242).iff (s.sptOut n) (·.sptDrop n v.buf.length)).putSp n { v with buf := [] }
  if v.stop then s.sptIdle n else s.sptSettle n

/-- The boundary of a frame: a STOP that waits moves the port on (R741). -/
def State.sptBoundary (s : State) (n : Nat) : State :=
  s.iff (s.sp n).stop fun s =>
    if s.sptReleaseLen n = 0 then s.sptIdle n
    else ((s.putSp n { s.sp n with stop := false, count := 0 }).put (SPT_STATUS_STATE n) 3).sptZero n

/-- A frame period ends in RELEASING: an output port has driven a zero frame, and the RELEASE-th ends the state (R741). -/
def State.sptReleasing (s : State) (n half : Nat) : State :=
  let s := s.iff (s.sptOut n) (·.emit (.sptBits n (bitsOf (s.sp n).cfg 24 1 == 0) (List.replicate (2 * half) false)))
  let s := s.putSp n { s.sp n with count := (s.sp n).count + 1 }
  s.iff (s.sptReleaseLen n ≤ (s.sp n).count) (·.sptIdle n)

/-! ### Framing (R731, R733, Table SPT-1) -/

/-- The bit of a half-frame of `h` bits at which a word of `w` bits begins: FORMAT 0 STANDARD, 1 LEFT, 2 DELAYED. -/
def wordStart (format h w : Nat) : Nat := if format = 0 then h - w else if format = 1 then 0 else 1

/-- The word of `w` bits, most significant first, that stands at bit `i` of the bits of a frame. -/
def wordAt (bits : List Bool) (i w : Nat) : Nat := (List.range w).foldl (fun v j => 2 * v + if bits.getD (i + j) false then 1 else 0) 0

/-- The words of the two channels in a frame's bits, of which the first stands at the word-select transition into channel 0; with DELAYED
and WLEN = H the last bit of channel 1 is the one after the frame. -/
def State.sptWords (s : State) (n h : Nat) (bits : List Bool) : Nat × Nat :=
  let w := s.sptBits n
  let i := wordStart (bitsOf (s.sp n).cfg 27 2) h w
  (wordAt bits i w, wordAt bits (h + i) w)

/-- The bits of an output frame: its words in place and 0 outside them. -/
def State.sptFrameBits (s : State) (n h a b : Nat) : List Bool :=
  let w := s.sptBits n
  let i := wordStart (bitsOf (s.sp n).cfg 27 2) h w
  let one (v k : Nat) : Bool := decide (i ≤ k) && decide (k < i + w) && v.testBit (w - 1 - (k - i))
  (List.range (2 * h + (i + w - h))).map fun k => one a k || (decide (h ≤ k) && one b (k - h))

/-- Device time of the word-select edge that began a frame: one frame period ago, within ±8 ns (R749). -/
def State.sptStamp (s : State) (rateHz : Nat) : Nat × Nat :=
  let err : Int := ((s.draw % 17 : Nat) : Int) - 8
  let t : Int := ((s.fix.sec * 1000000000 + s.fix.ns : Nat) : Int) - ((1000000000 / rateHz : Nat) : Int) + err
  let t := (t % ((2 ^ 48 * 1000000000 : Nat) : Int)).toNat
  (t / 1000000000, t % 1000000000)

/-- An input frame is complete (R740, R751, Table SPT-2). -/
def State.sptIn (s : State) (n rateHz : Nat) (bits : List Bool) (room : Bool) : State :=
  let s := s.modInc (SPT_FRAMES_COUNT n)
  if !(room && s.streamRoom (sptPort n) 1) then s.sptDrop n 1
  else
    let v := s.sp n
    let align (w : Nat) : Nat := w * 2 ^ (32 - s.sptBits n)
    let ts := s.sptStamp rateHz
    let user := ts.2 + ts.1 % 65536 * 2 ^ 32 + (if v.gap then 2 ^ 48 else 0) + s.get (SPT_FRAMES_COUNT n) % 256 * 2 ^ 56
    let w := s.sptWords n v.half bits
    let word := align w.1 + align w.2 * 2 ^ 32
    ((s.drawn.putSp n { v with gap := false }).streamPush (sptPort n) (unitBeats user 0 [word]))

/-- An output frame period: one frame from the buffer, or a zero frame (R740). -/
def State.sptSend (s : State) (n : Nat) : State :=
  let v := s.sp n
  let top (w : Word) : Nat := w.toNat / 2 ^ (32 - s.sptBits n)
  let falling := bitsOf v.cfg 24 1 == 0
  let s := s.modInc (SPT_FRAMES_COUNT n)
  match v.buf with
  | (a, b) :: rest => (s.putSp n { v with buf := rest, gap := false }).emit (.sptBits n falling (s.sptFrameBits n v.half (top a) (top b)))
  | [] =>
    (((s.satInc (SPT_UNDER_COUNT n) (SPT_UNDER_OVF n)).set (SPT_STATUS_UNDER n)).event 243).emit
      (.sptBits n falling (s.sptFrameBits n v.half 0 0))

/-- A frame period ends: half-frame lengths, rate, SD at the rising and at the falling edges of BCK, room for the frame, and the beats that
the fabric has put into the output buffer since the last frame (R731, R734, R740, R741, R746). -/
def State.sptFrame (s : State) (n half0 half1 rateHz : Nat) (rise fall : List Bool) (room : Bool) (beats : List (Word × Word)) : State :=
  if !s.sptOn then s
  else
    let beats := if s.sptOut n then beats.take (64 - (s.sp n).buf.length) else []
    let s := (s.putSp n { s.sp n with buf := (s.sp n).buf ++ beats }).streamTake (sptPort n) beats.length
    let s := s.sptMeasure n half0 rateHz
    match s.sptState n with
    | 1 => s.sptSettling n half0 half1
    | 2 =>
      if half0 != (s.sp n).half || half1 != (s.sp n).half then s.sptLoss n true
      else if s.sptOut n then (s.sptSend n).sptBoundary n
      else (s.sptIn n rateHz (if bitsOf (s.sp n).cfg 24 1 = 0 then rise else fall) room).sptBoundary n
    | 3 => s.sptReleasing n half0
    | _ => s

/-- The bit clock or the word select has stopped (R737, R745, R746, R748). -/
def State.sptClockLoss (s : State) (n : Nat) (bck : Bool) : State :=
  let s := s.iff bck (·.clr (SPT_STATUS_BCK_PRESENT n))
  match s.sptState n with
  | 1 => s.putSp n { s.sp n with count := 0 }
  | 2 => s.sptLoss n false
  | 3 => s.sptIdle n
  | _ => s

/-- The RELEASE count of zero frames has ended (R741). -/
def State.sptReleaseEnd (s : State) (n : Nat) : State :=
  s.iff (s.sptState n == 3 && decide (s.sptReleaseLen n ≤ (s.sp n).count + 1)) fun s =>
    s.sptReleasing n (s.sp n).half

/-- AUTO ports enter SETTLING at a release of the fabric (R757). -/
def State.sptRelease (s : State) : State :=
  s.each (List.range 8) fun s n => s.iff (s.bit (SPT_CFG_EN n) && s.bit (SPT_CFG_AUTO n) && s.sptState n == 0) (·.sptSettle n)

/-- Fabric release: the image's settings are in force, and SD follows R742. -/
def State.sptBegin (s : State) : State :=
  s.each (List.range 8) fun s n =>
    (s.putSp n { s.sp n with cfg := s.word (SPT_CFG n), settle := s.word (SPT_SETTLE n) }).sptIdleSd n

/-- Until fabric release every port is IDLE with SD at high impedance (R757). -/
def State.sptUnload (s : State) : State := s.each (List.range 8) fun s n => (s.put (SPT_STATUS_STATE n) 0).putSp n SptPort.fresh

/-- The drain: every port enters IDLE, start requests complete CANCELLED (R758). -/
def State.sptDrain (s : State) : State :=
  s.each (List.range 8) fun s n =>
    let s := s.iff (s.sptState n == 1 || (s.sp n).held) (·.sptCancelled n)
    let s := s.putSp n { s.sp n with held := false, buf := [] }
    s.iff (s.sptState n != 0) (·.sptIdle n)

end Sys2Proof.Machine
end

