-- ==== Sys2Proof/Machine/Load.lean ====
section
/-!
DEFINITION. The image load, its errors and fallback, image audits, configuration-memory operations and the image key
(R149 to R207, R210, R211, R214, R344, R386 to R390, R576, R664, R685, R703, R767).
-/
namespace Sys2Proof.Machine

/-- Replace the configuration controller's hidden state. -/
def State.setLoad (s : State) (f : LoadState → LoadState) : State := s.withLoad (f s.load)

/-- The device state with the code that PWR_STATE shows for it (Table PWR-7); Off and Watch leave the register, which no bus reads
there. -/
def State.enter (s : State) (d : DevState) : State :=
  let s := s.withDev d
  match d with
  | .loading => s.put PWR_STATE_STATE 1
  | .halted => s.put PWR_STATE_STATE 2
  | .running => s.put PWR_STATE_STATE 3
  | .draining => s.put PWR_STATE_STATE 4
  | .off => s
  | .watch => s

/-- Loading, with the load in phase `p` of CFG_STATUS.PHASE; a reload request has stopped it where one waits (R208). -/
def State.inPhase (s : State) (p : Nat) : Bool := s.dev == .loading && s.get CFG_STATUS_PHASE == p && s.pwr.reload == 0

/-- MODE as sampled. -/
def State.modePins (s : State) : Nat := s.get CFG_STATUS_MODE

/-- Bytes of one slot (Table CFG-1). -/
def State.slotBytes (s : State) : Nat := if s.modePins % 2 = 1 then 0x04000000 else 0x02000000

/-- Base of the slot being read. -/
def State.slotBase (s : State) (golden : Bool) : Nat := if golden then s.slotBytes else 0

/-! ### Image-set fields (R19, R185) -/

/-- The register file with the image-set bits of every register outside the Watch domain at their reset values. -/
def imageCleared (regs : Cells 32) : Cells 32 :=
  let kept := regs.foldl (fun (m : Cells 32) (c : Nat × Word) =>
    let img : Word := if inWatchDomain c.1 then 0 else match rowOf c.1 with
      | some r => r.img
      | none => 0
    cellWrite m c.1 (c.2 &&& ~~~img)) []
  resetRegs.foldl (fun m (c : Nat × Word) =>
    let img : Word := match rowOf c.1 with
      | some r => r.img
      | none => 0
    cellWrite m c.1 (mergeBits (cellRead m c.1) c.2 img)) kept

/-- The role and identity that an image gave (R19, Table CFG-4). -/
def State.roleClear (s : State) : State :=
  let s := ((s.clr CFG_LANDFALL_ROLE).clr CFG_LANDFALL_OWN_ID).clr BRG_STATUS_OWN_ID
  s.withBrg { s.brg with expected := 0, acceptGolden := false }

/-- Every image-set field at its reset value, the write mask closed, every key slot erased, no setting and no role kept (R19, R185). -/
def State.imageClear (s : State) : State :=
  let s := (s.roleClear.withRegs (imageCleared s.roleClear.regs)).withMask []
  let s := s.withDdc (s.ddc.map (fun (v : DdcState) => { v with bankA := [], bankB := [] }))
  let s := s.withCph { s.cph with slots := Vector.replicate 64 Slot.erased }
  s.setLoad fun l => { l with settings := [], guarded := false, landfallMs := 0, monOn := false }

/-! ### Errors, fallback and halt (R187, R188, R190, R193) -/

/-- Record an error of one image: its register, CFG_ERR_N and the log entry. -/
def State.loadError (s : State) (golden : Bool) (code detail : Nat) : State :=
  let s := if golden then (s.put CFG_ERR_GOLDEN_CODE code).put CFG_ERR_GOLDEN_DETAIL detail
    else (s.put CFG_ERR_PRIMARY_CODE code).put CFG_ERR_PRIMARY_DETAIL detail
  (s.set CFG_STATUS_ERR).blockLog (0x300 + code) 3 (if golden then 1 else 0) detail

/-- Loading, halted (R188). -/
def State.loadHalt (s : State) : State := ((s.enter .halted).put CFG_STATUS_PHASE 5).setLoad fun l => { l with reader := Reader.empty, staged := Staged.empty }

/-- An error in both images at once: neither is read (R154). -/
def State.loadErrorBoth (s : State) (code detail : Nat) : State := ((s.loadError false code detail).loadError true code detail).loadHalt

/-- The load of one image begins at its HEADER: its error register clears. The count n of R170 and the cache slots that count as filled
(R171) start again with a golden fallback too: the spec says 'since load start' and 'in this load' (DESIGN CHOICE, log entry 64). -/
def State.imageBegin (s : State) (golden : Bool) : State :=
  let s := (s.putB CFG_STATUS_GOLDEN golden).putWord (if golden then CFG_ERR_GOLDEN else CFG_ERR_PRIMARY) 0
  s.setLoad fun l => { l with reader := Reader.empty, staged := Staged.empty }

/-- An error of the image being read: the primary falls back to the golden image, the golden image halts (R187, R188). What the end
phase had applied is undone (R19, R47, R50). Frames that the failed image wrote stand until the golden image overwrites them: in a region
that its REGIONS leaves out they stay, with CFG_REGION_CRC (DESIGN CHOICE, log entry 64). -/
def State.loadFail (s : State) (code detail : Nat) : State :=
  let golden := s.bit CFG_STATUS_GOLDEN
  let s := s.loadError golden code detail
  let s := s.iff (s.get CFG_STATUS_PHASE == 3) fun s => s.imageClear.pllLoadBegin
  if golden then s.loadHalt else (s.imageBegin true).put CFG_STATUS_PHASE 2

/-- OSC_LOCAL_IN is lost, or was never qualified: the load stops with CLOCK, and so does the golden image's (R156, R187). A load that a
reload request has aborted records nothing (R208). -/
def State.loadClock (s : State) : State :=
  if s.dev != .loading || s.pwr.reload != 0 then s
  else
    let s := s.loadFail 0x13 0
    s.iff (s.dev == .loading) fun s => s.loadFail 0x13 0

/-! ### Straps and discovery (R149, R151 to R156) -/

/-- The load begins with MODE as sampled now: its state clears and FPLL0 takes its load band. Under MODE 0b110 and 0b111 there is no load:
none is counted, and the part halts at once. -/
def State.loadBegin (s : State) (mode : BitVec 3) (golden : Bool) : State :=
  let s := (s.putWord CFG_STATUS 0).put CFG_STATUS_MODE mode.toNat
  let s := (s.iff (decide (mode.toNat < 6)) (·.satInc CFG_LOAD_COUNT_COUNT CFG_LOAD_COUNT_OVF)).enter .loading
  let s := ((s.imageBegin golden).pllLoadBegin).put CFG_STATUS_PHASE 1
  if mode = 6#3 then s.loadHalt
  else if mode = 7#3 then (s.loadError golden 0x15 7).loadHalt
  else s

/-- How the memory is read, as SFDP lists it (R151 to R153): the octal read of Profile 1.0, or the 1S-4S-4S read, or 1S-1S-4S where only
that is listed; none where no read is listed that the interface can use. -/
def nvmReadOf (f : Sfdp) (octal : Bool) : Option NvmRead :=
  let use (m : NvmMode) (x : Byte × Nat) : NvmRead := { mode := m, addrBytes := f.addrBytes, command := x.1, dummy := x.2 }
  if octal then f.profile1.map (use .octal8D8D8D)
  else (f.read144.map (use .quad1S4S4S)).or (f.read114.map (use .quad1S1S4S))

/-- The SFDP read completes (R151 to R154). -/
def State.discovery (s : State) (f : Sfdp) : State :=
  if !s.inPhase 1 then s
  else if !s.refOk 0 then s.loadClock
  else if !s.bit (PLL_STATUS_LOCKED 0) then s
  else if !f.signature then s.loadErrorBoth 0x01 0
  else
    let need := s.modePins < 2
    if need && f.profile1.isNone then s.loadErrorBoth 0x16 1
    else if need && !f.seq8d then s.loadErrorBoth 0x16 2
    else
      let octal := need || (4 ≤ s.modePins && f.profile1.isSome && f.seq8d)
      let s := s.setLoad fun l => { l with read := nvmReadOf f octal, sector := f.sector }
      (s.putB CFG_STATUS_OCTAL octal).put CFG_STATUS_PHASE 2

/-! ### HEADER and chunks (R158, R160 to R164) -/

/-- HEADER is read. -/
def State.headerRecord (s : State) (bytes : List Byte) : State :=
  let h := padTo 128 bytes
  if !s.inPhase 2 || !s.load.reader.header.isEmpty then s
  else
    match hdrFault h (some (s.bit CFG_STATUS_GOLDEN)) with
    | some o => s.loadFail 0x03 o
    | none =>
      if hdrEnc h != s.load.fuse.isSome then s.loadFail 0x04 (if hdrEnc h then 1 else 0)
      else if s.slotBytes < hdrStored h then s.loadFail 0x05 (hdrStored h)
      else s.setLoad fun l => { l with reader := Reader.opened h }

/-- A stored chunk arrives, or the memory times out. The controller reads on only while the staging memory has room (R164). -/
def State.chunkRead (s : State) (stored : Option (List Byte)) : State :=
  let r := s.load.reader
  if !s.inPhase 2 || r.header.isEmpty || decide (hdrChunks r.header ≤ r.chunk) || !r.takesChunk false then s
  else
    match stored with
    | none => s.loadFail 0x02 (s.slotBase (s.bit CFG_STATUS_GOLDEN) + chunkAt r.chunk)
    | some bytes =>
      match chunkOpen (chunkKey s.load.fuse r.header) r.header r.chunk bytes with
      | none => s.loadFail 0x06 r.chunk
      | some plain => s.setLoad fun l => { l with reader := { r with chunk := r.chunk + 1, stream := r.stream ++ plain } }

/-! ### Records (R166 to R180) -/

/-- Act on the next record where it is of type `t`; an error in what stands next is recorded whichever record is asked for. -/
def State.onRecord (s : State) (t : Nat) (f : State → Reader → List Byte → State) : State :=
  let r := s.load.reader
  if !s.inPhase 2 || r.header.isEmpty then s
  else
    match r.head false with
    | .wait => s
    | .bad c d => s.loadFail c d
    | .record t' p => if t' = t then f s (r.take t p.length) p else s

/-- Keep the reader, and what is staged. -/
def State.recordDone (s : State) (r : Reader) (f : Staged → Staged) : State := s.setLoad fun l => { l with reader := r, staged := f l.staged }

/-- Stream offset of the record that `r` has just taken with `n` payload bytes. -/
def recStart (r : Reader) (n : Nat) : Nat := r.pos - 4 - n

/-- The settings of a PROFILE payload (Table CFG-4). -/
def profileSettings (p : List Byte) : List (Nat × Word) :=
  (List.range (leField p 16 4)).map fun i => (leField p (20 + 8 * i) 4, BitVec.ofNat 32 (leField p (24 + 8 * i) 4))

/-- PROFILE selects the Guarded profile. -/
def profileGuarded (p : List Byte) : Bool := leField p 0 1 == 1

/-- A setting that its register may not hold: outside its image-set fields, a bank that does not exist, or a MUX without a signal
(R174, Table FAB-14, R767). -/
def settingBad (x : Nat × Word) : Bool :=
  settingDenied x || (x.1 == FAB_DEEP_HOPEN 3 && decide (65536 ≤ x.2.toNat)) ||
  (decide (blockOf x.1 = some 16) &&
    (let i := (x.1 - 0x40150000) % 0x100 / 4
     decide (32 ≤ i) && decide (i < 64) && !pinHas (bitsOf x.2 0 4) (i - 32)))

/-- The PLL rules at load, by the address that each names (R317, R319 to R322, R386, R387, R945). -/
def State.pllDenied (s : State) : Option Nat :=
  let en (n : Nat) : Bool := s.bit (PLL_CFG_EN n)
  let per (n : Nat) : Option Nat :=
    if (n = 8 ∨ n = 9) ∧ s.bit (PLL_CFG_STEER_EN n) then some (PLL_CFG n)
    else if n = 7 ∧ !en 7 then some (PLL_DIV 7)
    else if !en n then none
    else if s.pllRatioBad n then some (PLL_CFG n)
    else if s.pllOver n then some (PLL_DIV n)
    else if s.pllRuleBad n then some (if n = 7 then PLL_DIV 7 else PLL_FREQ n)
    else if (n = 8 ∨ n = 9) ∧ s.get (PLL_FREQ_KHZ n) ≠ 12890625 then some (PLL_FREQ n)
    else none
  if s.get PLL_OSC_KHZ_ALL < 10000 ∨ 50000 < s.get PLL_OSC_KHZ_ALL then some PLL_OSC_KHZ
  else if (en 8 || en 9) && s.get PLL_LREF_KHZ_ALL != 156250 then some PLL_LREF_KHZ
  else (List.range 11).findSome? per

/-- The rules of the lanes, the channelizer and the line modem at load (R390, R576, R664, R703); `named` tells which addresses the
settings name. -/
def State.unitsDenied (s : State) (named : Nat → Bool) : Option Nat :=
  let lane (l : Nat) : Option Nat :=
    let m := s.get (LNK_CFG_MODE l)
    if 1 ≤ m ∧ m ≤ 3 ∧ s.bit (LNK_GROUP_CFG_SPREAD (l / 6)) then some (LNK_CFG l) else none
  let ddc (d : Nat) : Option Nat :=
    if (s.bit (DDC_CFG_EN d) || named (DDC_DEC d)) && !s.ddcLimitsOk d then some (DDC_DEC d) else none
  let chan (t : Nat) : Option Nat :=
    let tx := decide (t < 2)
    let freq := if tx then TX_FREQ t else RX_FREQ (t - 2)
    let cfg := if tx then TX_CFG t else RX_CFG (t - 2)
    match lmdChannelOf freq with
    | some (f, b, _) => if ((s.word cfg).getLsbD 31 || named freq || named cfg) && !lmdFits (s.get f) (s.get b) then some freq else none
    | none => none
  let mask (i : Nat) : Option Nat :=
    if s.get (LMD_MASK_FREQ (i + 1)) < s.get (LMD_MASK_FREQ i) then some (LMD_MASK (i + 1)) else none
  (((List.range 24).findSome? lane).or ((List.range 8).findSome? ddc)).or (((List.range 4).findSome? chan).or ((List.range 31).findSome? mask))

/-- PROFILE (R174, R865). Nothing takes effect before END (R165). -/
def State.profileRecord (s : State) : State :=
  s.onRecord 0x02 fun s r p =>
    if p.length < 20 ∨ p.length ≠ 20 + 8 * leField p 16 4 then s.loadFail 0x09 (recStart r p.length)
    else
      let xs := profileSettings p
      match xs.find? settingBad with
      | some x => s.loadFail 0x11 x.1
      | none =>
        let t := s.applySettings (profileGuarded p) xs
        match (t.pllDenied).or (t.unitsDenied fun a => xs.any (·.1 == a)) with
        | some a => s.loadFail 0x11 a
        | none => s.recordDone r fun g => { g with profile := p }

/-- KEYWRAP (R175). -/
def State.keywrapRecord (s : State) : State :=
  s.onRecord 0x03 fun s r p =>
    if p.length ≠ 60 then s.loadFail 0x09 (recStart r p.length)
    else
      match gcmOpen (chunkKey s.load.fuse r.header) (p.take 12) r.header (slice p 12 32) (slice p 44 16) with
      | none => s.loadFail 0x0F 0
      | some k => s.recordDone { r with wrap := some k } id

/-- The blocks of a BANDS payload (Table CFG-3): PLL and entries (CODE, FMIN, FMAX); none where it does not fit the form. -/
def bandBlocks : Nat → List Byte → Option (List (Nat × List (Nat × Nat × Nat)))
  | 0, p => if p.isEmpty then some [] else none
  | fuel + 1, p =>
    if p.isEmpty then some []
    else
      let n := byteAt p 0
      let cnt := byteAt p 1
      let es := (List.range cnt).map fun i => (byteAt p (4 + 12 * i), leField p (8 + 12 * i) 4, leField p (12 + 12 * i) 4)
      if 10 < n ∨ cnt = 0 ∨ 64 < cnt ∨ p.length < 4 + 12 * cnt ∨ (es.any fun e => decide (63 < e.1)) then none
      else (bandBlocks fuel (p.drop (4 + 12 * cnt))).map fun rest => (n, es) :: rest

/-- BANDS (R323). -/
def State.bandsRecord (s : State) : State :=
  s.onRecord 0x04 fun s r p =>
    match bandBlocks p.length p with
    | none => s.loadFail 0x09 (recStart r p.length)
    | some _ => s.recordDone r fun g => { g with bands := p }

/-- The blocks of a PINS payload: bank, mode and pin words. -/
def pinBlocks (p : List Byte) : List (Nat × Nat × List Word) :=
  (List.range 6).map fun k => (byteAt p (132 * k), byteAt p (132 * k + 1),
    (List.range 32).map fun i => BitVec.ofNat 32 (leField p (132 * k + 4 + 4 * i) 4))

/-- The address of the first pin word whose MUX has no signal at its pin (R767). -/
def pinsDenied (p : List Byte) : Option Nat :=
  (pinBlocks p).findSome? fun b => (List.range 32).findSome? fun i =>
    if pinHas (bitsOf (b.2.2.getD i 0) 0 4) i then none else some (PIN_CFG b.1 i)

/-- PINS (R761, R767). -/
def State.pinsRecord (s : State) : State :=
  s.onRecord 0x05 fun s r p =>
    let bs := (pinBlocks p).map (·.1)
    if p.length ≠ 792 ∨ ¬ ((List.range 6).all fun b => bs.contains b) ∨ (pinBlocks p).any (fun b => decide (1 < b.2.1)) then
      s.loadFail 0x09 (recStart r p.length)
    else
      match pinsDenied p with
      | some a => s.loadFail 0x11 a
      | none => s.recordDone r fun g => { g with pins := p }

/-- An outcome of a frame record. -/
def State.recOut {α : Type} (s : State) (o : RecOut α) (f : State → α → State) : State :=
  match o with
  | .ok a => f s a
  | .bad c d => s.loadFail c d

/-- The frames of a FRAME record into the frame cache of bank 0, from the `n`-th frame on (R170). -/
def State.cacheFrames (s : State) (n : Nat) : List (BitVec 2048) → State
  | [] => s
  | v :: vs => (s.putDeep (cacheAddr (n % 1024)) (leBytes 256 v.toNat)).cacheFrames (n + 1) vs

/-- FRAME (R168 to R170). -/
def State.frameRecord (s : State) : State :=
  s.onRecord 0x10 fun s r p =>
    s.recOut (({ r with pos := recStart r p.length }).frame p) fun s o =>
      ((s.cacheFrames r.fills o.2.2).putFrames o.2.1 o.2.2).recordDone { o.1 with pos := r.pos } id

/-- The slots that a REPEAT reads before one with a double-bit error stops it. -/
def readSlots (ks : List Nat) (dbe : Option Nat) : List Nat := ks.takeWhile fun k => some k != dbe

/-- REPEAT (R171, R214): `sbe` and `dbe` name cache slots that hold a single-bit and a double-bit error. Each slot with a single-bit error
that is read is corrected and reported once. -/
def State.repeatRecord (s : State) (sbe : List Nat) (dbe : Option Nat) : State :=
  s.onRecord 0x11 fun s r p =>
    s.recOut (({ r with pos := recStart r p.length }).repeated p) fun s o =>
      let s := s.each ((readSlots o.2.2 dbe).filter (sbe.contains ·)).eraseDups fun s k => s.report 11 0 k
      match dbe.filter (o.2.2.contains ·) with
      | some k => s.loadFail 0x14 k
      | none =>
        (s.putFrames o.2.1 (o.2.2.map fun k => frameOf (s.deepBytes (cacheAddr k) 256))).recordDone { o.1 with pos := r.pos } id

/-- FILL (R172). -/
def State.fillRecord (s : State) : State :=
  s.onRecord 0x12 fun s r p =>
    s.recOut (({ r with pos := recStart r p.length }).fill p) fun s o => (s.putFrames o.2.1 o.2.2).recordDone { o.1 with pos := r.pos } id

/-- REGION-END (R173). -/
def State.regionEndRecord (s : State) : State :=
  s.onRecord 0x13 fun s r p =>
    s.recOut (({ r with pos := recStart r p.length }).regionEnd p s.regionCrc) fun s o =>
      (s.putWord (CFG_REGION_CRC o.2.1) o.2.2).recordDone { o.1 with pos := r.pos } id

/-- MASK (R44, R166). -/
def State.maskRecord (s : State) : State :=
  s.onRecord 0x20 fun s r p =>
    if p.length % 8 ≠ 0 ∨ 8192 < p.length then s.loadFail 0x09 (recStart r p.length)
    else s.recordDone r fun g => { g with mask := p }

/-- One SLOTS entry (Table CFG-5, R175, R177): its slot and what it loads, or the error it gives. -/
def slotEntry (wrap e : List Byte) (pos : Nat) : RecOut (Nat × ShadowKey) :=
  let k := byteAt e 0
  let n := byteAt e 1
  if 63 < k ∨ (n ≠ 16 ∧ n ≠ 32) then .bad 0x09 pos
  else
    match gcmOpen wrap (slice e 8 12) (e.take 8) (slice e 20 32) (slice e 52 16) with
    | none => .bad 0x10 k
    | some key => .ok (k, { key := key.take n, modebind := byteAt e 2, pages := leField e 4 2, ctrw := byteAt e 3 % 4 })

/-- The entries of a SLOTS payload in order, up to the first error. -/
def slotEntries (wrap : List Byte) (pos : Nat) : List (List Byte) → RecOut (List (Nat × ShadowKey))
  | [] => .ok []
  | e :: es =>
    match slotEntry wrap e pos with
    | .bad c d => .bad c d
    | .ok x =>
      match slotEntries wrap pos es with
      | .bad c d => .bad c d
      | .ok xs => .ok (x :: xs)

/-- SLOTS (R175 to R177). -/
def State.slotsRecord (s : State) : State :=
  s.onRecord 0x21 fun s r p =>
    let pos := recStart r p.length
    if p.length % 68 ≠ 0 then s.loadFail 0x09 pos
    else
      s.recOut (slotEntries (r.wrap.getD []) pos ((List.range (p.length / 68)).map fun i => slice p (68 * i) 68)) fun s xs =>
        s.recordDone r fun g => { g with slots := xs }

/-! ### END and the end phase (R156, R165, R177 to R179, R388, R685) -/

/-- Load a PLL's band table (R323). -/
def State.putBands (s : State) (n : Nat) (es : List (Nat × Nat × Nat)) : State :=
  s.each (List.range 64) fun s i =>
    match es[i]? with
    | some e => (((s.set (PLL_BAND0_VALID n i)).put (PLL_BAND0_CODE n i) e.1).put (PLL_BAND1_FMIN_KHZ n i) e.2.1).put (PLL_BAND2_FMAX_KHZ n i) e.2.2
    | none => s.clr (PLL_BAND0_VALID n i)

/-- A slot as a SLOTS entry loads it: a rewrite at generation 0 with the counter at 0 (R177). -/
def Slot.loaded (x : ShadowKey) : Slot :=
  { key := x.key, modebind := x.modebind, pages := x.pages, gen := 0, ctrw := x.ctrw, ctr := 0, valid := true, exhausted := false, shadow := none }

/-- Slot 63 accepts only MODE LOGIN with a 256-bit key (R491); an entry that it does not accept leaves it erased. -/
def slotAccepts (x : Nat × ShadowKey) : Bool := x.1 != 63 || (mbMode x.2.modebind == 7 && x.2.key.length == 32)

/-- The write mask that MASK entries open, within the fields the image may open. -/
def maskOf (p : List Byte) : Cells 32 :=
  (List.range (p.length / 8)).foldl (fun (m : Cells 32) i =>
    let a := leField p (8 * i) 4
    let rwi : Word := match rowOf a with
      | some r => r.rwi
      | none => 0
    cellWrite m a (cellRead m a ||| (BitVec.ofNat 32 (leField p (8 * i + 4) 4) &&& rwi))) []

/-- Role and identity from PROFILE (Table CFG-4): a ROLE or an ID outside the table's values stands for standalone. -/
def State.applyRole (s : State) (p : List Byte) : State :=
  let role := leField p 5 1
  let id := leField p 4 1
  let ok := (role == 1 || role == 2) && decide (id < 64)
  let s := (s.put CFG_LANDFALL_ROLE (if ok then role else 0)).put CFG_LANDFALL_OWN_ID id
  let s := s.put BRG_STATUS_OWN_ID id
  let ms := leField p 6 2
  let s := s.setLoad fun l => { l with landfallMs := if ms = 0 then 500 else clampNat 100 10000 ms, monOn := leField p 3 1 % 2 == 1 }
  (s.withBrg { s.brg with expected := if ok && role == 2 then BitVec.ofNat 64 (leField p 8 8) else 0,
                               acceptGolden := ok && role == 2 && leField p 3 1 / 2 % 2 == 1 })

/-- Bring in everything the image has staged: band tables, settings, the critical regions of PROFILE, the mask, pins, slots and role. -/
def State.applyImage (s : State) : State :=
  let g := s.load.staged
  let xs := profileSettings g.profile
  let guarded := profileGuarded g.profile
  let s := s.applySettings guarded xs
  let s := (s.put SCR_CTRL_CRIT0 (leField g.profile 1 1)).put SCR_CTRL_CRIT1 (leField g.profile 2 1)
  let s := s.each ((bandBlocks g.bands.length g.bands).getD []) fun s b => s.putBands b.1 b.2
  let s := s.iff (!g.pins.isEmpty) fun s => s.each (pinBlocks g.pins) fun s b =>
    (s.put (PIN_BANK_CFG_MODE b.1) b.2.1).each (List.range 32) fun s i => s.putWord (PIN_CFG b.1 i) (pinWordStored i (b.2.2.getD i 0))
  let s := (s.withMask (maskOf g.mask)).withCph { s.cph with slots := Vector.replicate 64 Slot.erased }
  let s := s.each (g.slots.filter slotAccepts) fun s x => s.putSlot x.1 (Slot.loaded x.2)
  (s.applyRole g.profile).setLoad fun l => { l with settings := xs, guarded := guarded }

/-- A TX channel in TP mode whose slot R685 does not allow, by the address of its TX_TP. -/
def State.tpDenied (s : State) : Option Nat :=
  (List.range 2).findSome? fun t =>
    let k := s.get (TX_TP_SLOT t)
    let v := s.slot k
    let lmd := bitsOf (s.word (if k < 32 then CPH_LMD_SLOTS_LO else CPH_LMD_SLOTS_HI)) (k % 32) 1 == 1
    let inPage := (List.range 16).any fun p => s.pageHas p k
    if s.bit (TX_CFG_EN t) && s.bit (TX_CFG_MODE t) && !(lmd && v.valid && mbMode v.modebind == 1 && mbEncOk v.modebind && v.ctrw == 2 && !inPage) then
      some (TX_TP t)
    else none

/-- Each LPLL on the LREF that its settings name. -/
def State.lpllChoose (s : State) : State :=
  s.withPll { s.pll with useRef := #v[s.get (PLL_CFG_REFSEL 8), s.get (PLL_CFG_REFSEL 9)] }

/-- END: the counts, the band tables, the measured OSC_LOCAL_IN and the slots of the line modem are checked, then the image takes
effect and the PLLs start to lock. -/
def State.endRecord (s : State) : State :=
  s.onRecord 0xFF fun s r p =>
    s.recOut (({ r with pos := recStart r p.length, records := r.records - 1 }).finish p) fun s _ =>
      let t := s.applyImage
      match (List.range 11).find? fun n => t.bit (PLL_CFG_EN n) && (t.lpllChoose.pllBand n).isNone with
      | some n => s.loadFail 0x0E n
      | none =>
        let nom := t.get PLL_OSC_KHZ_ALL
        if s.pll.oscKhz * 100 < nom * 98 ∨ nom * 102 < s.pll.oscKhz * 100 then s.loadFail 0x13 0
        else
          match t.tpDenied with
          | some a => s.loadFail 0x11 a
          | none => (t.recordDone r id).pllEndPhase.put CFG_STATUS_PHASE 3

/-! ### Audits (R195 to R197, R210) -/

/-- An audit of one image starts. -/
def State.auditBegin (s : State) (golden : Bool) : State :=
  ((s.set CFG_AUDIT_STATUS_RUNNING).putB CFG_AUDIT_STATUS_TARGET golden).setLoad fun l => { l with auditDone := false }

/-- The oldest audit that waits starts, once none runs and the memory is free. -/
def State.auditRun (s : State) : State :=
  if s.bit CFG_AUDIT_STATUS_RUNNING || s.bit CFG_NVM_STATUS_BUSY then s
  else
    match s.load.audits with
    | [] => s
    | golden :: rest => (s.setLoad fun l => { l with audits := rest }).auditBegin golden

/-- Audits asked for. Those that meet a running audit or memory operation wait for its end (DESIGN CHOICE, log entry 28). -/
def State.auditAsk (s : State) (targets : List Bool) : State := (s.setLoad fun l => { l with audits := l.audits ++ targets }).auditRun

/-- A commanded audit, in Running or in a halted load; a load keeps the memory and a drain ends audits (R196, R210). -/
def State.auditStart (s : State) (golden : Bool) : State := s.iff (s.dev == .running || s.dev == .halted) (·.auditAsk [golden])

/-- PERIOD_H expires: the primary and then the golden image are audited. -/
def State.auditPeriod (s : State) : State :=
  s.iff (s.dev == .running && s.get CFG_AUDIT_CFG_PERIOD_H != 0) (·.auditAsk [false, true])

/-- An audit ends with error code `code`, 0 for none, at chunk `chunk` (R197). The DETAIL of its entry is not stated. -/
def State.auditEnd (s : State) (code chunk : Nat) : State :=
  if !s.bit CFG_AUDIT_STATUS_RUNNING then s
  else
    let golden := s.bit CFG_AUDIT_STATUS_TARGET
    let s := (s.clr CFG_AUDIT_STATUS_RUNNING).setLoad fun l => { l with auditDone := true }
    let s := (s.put CFG_AUDIT_STATUS_CODE code).put CFG_AUDIT_STATUS_CHUNK (if code = 0 then 0 else chunk)
    let s := if code = 0 then s.satInc CFG_AUDIT_COUNT_COUNT CFG_AUDIT_COUNT_OVF
      else ((s.set CFG_AUDIT_STATUS_FAIL).blockLog (0x380 + code) 3 (if golden then 1 else 0) s.draw).drawn
    s.auditRun

/-- The audit has read its stored image whole (R195). -/
def State.auditDone (s : State) (header : List Byte) (chunks : List (Option (List Byte))) : State :=
  match auditImage s.load.fuse (s.bit CFG_AUDIT_STATUS_TARGET) s.slotBytes header chunks with
  | none => s.auditEnd 0 0
  | some x => s.auditEnd x.1 x.2

/-- The audit that runs stops before its end (R210). -/
def State.auditStop (s : State) : State :=
  if s.bit CFG_AUDIT_STATUS_RUNNING then (s.clr CFG_AUDIT_STATUS_RUNNING).set CFG_AUDIT_STATUS_ABORTED else s

/-- A reload or a drain ends the audit that runs and those that wait (R210). -/
def State.auditAbort (s : State) : State := (s.setLoad fun l => { l with audits := [] }).auditStop

/-! ### Memory operations (R198, R199, R210, R211) -/

/-- A command ends at once with DENIED. -/
def State.nvmDenied (s : State) : State := (s.set CFG_NVM_STATUS_DENIED).set CFG_NVM_STATUS_DONE

/-- Bytes `a` to `a + n - 1` touch the golden slot. -/
def State.inGolden (s : State) (a n : Nat) : Bool := decide (s.slotBytes < a + n) && decide (a < 2 * s.slotBytes)

/-- Bytes of a memory operation: 256, or the smallest sector that SFDP lists. Before any discovery the sector is not known, and ERASE
takes the address as it stands (DESIGN CHOICE, log entry 28). -/
def State.nvmSize (s : State) (op : Nat) : Nat := if op = 3 then max 1 s.load.sector else 256

/-- A memory operation: 1 READ, 2 PROGRAM, 3 ERASE, at CFG_NVM_ADDR aligned to its size. It goes out to the memory. -/
def State.nvmCmd (s : State) (op : Nat) : State :=
  let a := s.get CFG_NVM_ADDR_ALL
  if op = 0 || s.bit CFG_NVM_STATUS_BUSY then s
  else if !s.bit CFG_NVM_CTRL_EN then s.nvmDenied
  else if op != 1 && s.inGolden (a / s.nvmSize op * s.nvmSize op) (s.nvmSize op) && !s.bit CFG_NVM_CTRL_GOLDEN_WE then s.nvmDenied
  else
    let a := a / s.nvmSize op * s.nvmSize op
    let s := (s.auditStop.set CFG_NVM_STATUS_BUSY).setLoad fun l => { l with nvm := some (op, a) }
    s.emit (.nvm op a (if op = 2 then s.regBytes (CFG_NVM_BUF 0) 64 else []))

/-- The operation ends: a READ's bytes are in CFG_NVM_BUF (R198). -/
def State.nvmEnd (s : State) (ok : Bool) (data : List Byte) : State :=
  match s.load.nvm with
  | none => s
  | some (op, _) =>
    let s := ((s.clr CFG_NVM_STATUS_BUSY).set CFG_NVM_STATUS_DONE).setLoad fun l => { l with nvm := none }
    let s := if !ok then s.set CFG_NVM_STATUS_ERR
      else if op = 1 then s.putRegBytes (CFG_NVM_BUF 0) (padTo 256 data)
      else s
    s.auditRun

/-- An operation that a reload or the retention switch cuts ends with ERR. -/
def State.nvmCut (s : State) : State := s.nvmEnd false []

/-- A write of CFG_NVM_CMD. -/
def State.nvmWrite (s : State) (w : Word) : State := if bitsOf w 16 16 = guardKey.toNat then s.nvmCmd (bitsOf w 0 2) else s

/-- An NVM operation or an audit runs (Table PLL-2). -/
def State.nvmBusy (s : State) : Bool := s.bit CFG_NVM_STATUS_BUSY || s.bit CFG_AUDIT_STATUS_RUNNING

/-! ### The image key fuses (R207) -/

/-- CFG_FUSE_CMD. -/
def State.fuseCmd (s : State) (go : Nat) : State :=
  if go = 0xF05E ∧ s.modePins = 6 ∧ !s.bit CFG_KEY_STATE_FUSED ∧ !s.bit CFG_KEY_STATE_FUSE_BUSY then s.set CFG_KEY_STATE_FUSE_BUSY else s

/-- Programming ends; a failed verify leaves the part without a fused key. The key is what CFG_FUSE_DATA0–7 hold then: the spec does not say
when they are taken (DESIGN CHOICE, log entry 28). -/
def State.fuseEnd (s : State) (verified : Bool) : State :=
  if !s.bit CFG_KEY_STATE_FUSE_BUSY then s
  else
    let key := s.regBytes (CFG_FUSE_DATA 0) 8
    let s := s.clr CFG_KEY_STATE_FUSE_BUSY
    let s := if verified then (s.set CFG_KEY_STATE_FUSED).setLoad fun l => { l with fuse := some key } else s.set CFG_KEY_STATE_FUSE_FAIL
    (s.withRegs (clearRange s.regs (CFG_FUSE_DATA 0) (CFG_FUSE_DATA 8)))

end Sys2Proof.Machine
end

