-- ==== Sys2Proof/Machine/Scr.lean ====
section
/-!
DEFINITION. Partial loads: a request, the image read from deep memory, isolation, the checks, release and every way of ending
(R180, R248, R264, R272, R277, R294 to R312, R315, Tables SCR-4 and SCR-5).
-/
namespace Sys2Proof.Machine

/-- A partial load is in progress. -/
def State.prBusy (s : State) : Bool := s.get SCR_PR_STATE_PHASE != 0

/-- The region that the load in progress rewrites. -/
def State.prRegion (s : State) : Nat := s.get SCR_PR_STATUS_REGION

/-- Replace the reader of the partial image. -/
def State.prSet (s : State) (r : Reader) : State := s.setLoad fun l => { l with pr := r }

/-- A load completes with a status of Table SCR-5 and a code of Table CFG-8 (R304). -/
def State.prDone (s : State) (code detail : Nat) : State :=
  let r := s.prRegion
  let frames := min s.load.pr.frames 8192
  let s := ((s.put SCR_PR_STATUS_DETAIL detail).put SCR_PR_STATUS_CODE code).put SCR_PR_STATUS_FRAMES frames
  let s := ((s.put SCR_PR_STATE_PHASE 0).prSet Reader.empty).setLoad fun l => { l with prWrote := false }
  if code = 1 then s
  else (s.set (if code = 0 then SCR_STATUS_PR_DONE else SCR_STATUS_PR_FAIL)).blockLog (0x400 + code) 4 r detail

/-- A load fails: after its first frame write its region stays isolated and is held (R302, R303). -/
def State.prFail (s : State) (code detail : Nat) : State :=
  (s.iff s.load.prWrote fun s => s.put SCR_PR_STATE_HELD ((BitVec.ofNat 16 (s.get SCR_PR_STATE_HELD)) ||| (1#16 <<< s.prRegion)).toNat).prDone
    code detail

/-- An error of Table CFG-8 in the image: REGION_CRC has its own status, every other record error is FORMAT. -/
def State.prRecordError (s : State) (code : Nat) : State := s.prFail (if code = 0x0C then 6 else 5) code

/-- A source bank is allowed (R296). -/
def State.prBankOk (s : State) (r b : Nat) : Bool := decide (1 ≤ b) && decide (b < 112) && b / 7 != r && !s.hOpen b

/-- A request for region `r` (R298, R299, R313). -/
def State.prRequest (s : State) (r : Nat) : State :=
  if s.dev != .running || s.prBusy then s.set SCR_PR_STATUS_REFUSED
  else
    let s := ((s.put SCR_PR_STATE_PHASE 1).put SCR_PR_STATUS_REGION r).prSet Reader.empty
    let s := s.setLoad fun l => { l with prWrote := false, prBank := s.get SCR_PR_SRC_BANK }
    if !s.prBankOk r (s.get SCR_PR_SRC_BANK) then s.prDone 2 0 else s

/-- A cancel (R306). -/
def State.prCancel (s : State) : State :=
  if !s.prBusy then s
  else if s.get SCR_PR_STATE_PHASE = 1 then s.prDone 1 0
  else s.set SCR_PR_STATUS_CANCEL_LATE

/-- A write of SCR_PR_CMD. -/
def State.prWrite (s : State) (w : Word) : State :=
  if !keyed w then s
  else
    match bitsOf w 0 2 with
    | 1 => s.prRequest (bitsOf w 4 4)
    | 2 => s.prCancel
    | _ => s

/-- Byte address in deep memory of the image in progress. -/
def State.prBase (s : State) : Nat := s.load.prBank * 262144

/-- The HEADER is read and checked: the part's checks, the one region that was asked for, and the source banks (R294 to R296). -/
def State.prHeader (s : State) (h : List Byte) : State :=
  match hdrFault h none with
  | some _ => s.prDone 3 0x03
  | none =>
    if hdrEnc h != s.load.fuse.isSome then s.prDone 3 0x04
    else if hdrRegions h ≠ [s.prRegion] then s.prDone 3 0x03
    else
      let n := (hdrStored h + 262143) / 262144
      let b := s.load.prBank
      if !((List.range n).all fun i => s.prBankOk s.prRegion (b + i)) then s.prDone 2 0
      else s.prSet (Reader.opened h)

/-- Isolation, at the first frame write (R264, R272, R299, R301, R308). -/
def State.prIsolate (s : State) : State :=
  if s.load.prWrote then s
  else
    let r := s.prRegion
    let s := (s.setLoad fun l => { l with prWrote := true }).put SCR_PR_STATE_PHASE 2
    let s := s.setFab fun f => { f with isolated := f.isolated ||| (1#16 <<< r), fixes := f.fixes.filter fun x => x.1 / 8192 != r }
    let s := s.iff (r == 0) (·.clr FAB_STATUS_BANK0_USER)
    s.iff (r == 13) (·.clr BIN_STATUS_MIRROR_LIVE)

/-- Frames of a record are written, each one slot of the port (R291). -/
def State.prFrames (s : State) (o : Reader × Nat × List (BitVec 2048)) : State :=
  let s := (s.prIsolate).each o.2.2 fun s _ => s.slotTaken .load
  ((s.putFrames o.2.1 o.2.2).prSet o.1).setFab fun f => { f with prSince := f.prSince + o.2.2.length }

/-- The whole frame records that stand next are written, up to REGION-END, which ends the writing; `fuel` bounds them. -/
def State.prRecords (s : State) : Nat → State
  | 0 => s
  | fuel + 1 =>
    let r := s.load.pr
    match r.head true with
    | .wait => s
    | .bad c _ => s.prRecordError c
    | .record t p =>
      let r' := r.take t p.length
      let o : Option (RecOut (Reader × Nat × List (BitVec 2048))) :=
        if t = 0x10 then some (({ r' with pos := r.pos }).frame p) else if t = 0x12 then some (({ r' with pos := r.pos }).fill p) else none
      match o with
      | some (.ok o) => (s.prFrames ({ o.1 with pos := r'.pos }, o.2)).prRecords fuel
      | some (.bad c _) => s.prRecordError c
      | none => s.put SCR_PR_STATE_PHASE 3

/-- `n` bytes of the image are read from offset `o`; a double-bit error among them fails the load (R243, R273), and `f` goes on with them
otherwise. -/
def State.prRead (s : State) (o n : Nat) (dbe : Bool) (f : State → List Byte → State) : State :=
  let a := s.prBase + o
  let fails := s.deepFails a n dbe
  let s := s.deepReads a n dbe
  if fails then s.prFail 7 0 else f s (s.deepBytes a n)

/-- The next chunk is read and opened, and the records that it completes are carried out (R295, R297). -/
def State.prNextChunk (s : State) (dbe : Bool) : State :=
  let r := s.load.pr
  if r.header.isEmpty || decide (hdrChunks r.header ≤ r.chunk) then s
  else
    s.prRead (chunkAt r.chunk) (chunkBytes r.header r.chunk + 16) dbe fun s bs =>
      match chunkOpen (chunkKey s.load.fuse r.header) r.header r.chunk bs with
      | none => s.prFail 4 0x06
      | some plain =>
        let s := s.prSet { r with chunk := r.chunk + 1, stream := r.stream ++ plain }
        if s.get SCR_PR_STATE_PHASE = 3 then s else s.prRecords (s.load.pr.stream.length / 4 + 1)

/-- PR_CHUNK: the HEADER with the first chunk, or the next chunk, is read from the source banks. `dbe` says that an upset has put a double-bit
error into the first word read. -/
def State.prChunk (s : State) (dbe : Bool) : State :=
  let p := s.get SCR_PR_STATE_PHASE
  if p = 0 ∨ p = 4 ∨ !s.inService ∨ s.load.pr.rank = 9 then s
  else if s.load.pr.header.isEmpty then s.prRead 0 128 dbe fun s bs => (s.prHeader bs).prNextChunk false
  else s.prNextChunk dbe

/-- Region `r` in phase 4 waits for its release at wake; in a drain a load that has passed its checks does so (R312). -/
def State.prWaits (s : State) : State := s.iff (s.dev == .draining && s.load.pr.rank == 9) (·.put SCR_PR_STATE_PHASE 4)

/-- REGION-END and END are checked, once both have been read (R299). -/
def State.prChecks (s : State) : State :=
  let r := s.load.pr
  if s.get SCR_PR_STATE_PHASE ≠ 3 ∨ r.rank = 9 ∨ !s.inService then s
  else
    match r.head true with
    | .wait => s
    | .bad c _ => s.prRecordError c
    | .record t p =>
      if t = 0x13 then
        let r1 := r.take t p.length
        match ({ r1 with pos := r.pos }).regionEnd p s.regionCrc with
        | .bad c _ => s.prRecordError c
        | .ok o =>
          let r2 := { o.1 with pos := r1.pos }
          match r2.head true with
          | .wait => s
          | .bad c _ => s.prRecordError c
          | .record t2 p2 =>
            let r3 := r2.take t2 p2.length
            if t2 ≠ 0xFF then s.prRecordError 0x08
            else
              match ({ r3 with pos := r2.pos, records := r2.records }).finish p2 with
              | .bad c _ => s.prRecordError c
              | .ok _ => (s.prSet { r3 with frames := r2.frames }).prWaits
      else s.prRecordError 0x08

/-- Release of the region (R31, R248, R277, R300, R301, R308): memories zero, CFG_REGION_CRC, isolation ends, COMPLETE. -/
def State.prFree (s : State) : State :=
  let r := s.prRegion
  let s := s.each ((List.range 7).map (7 * r + ·)) (·.zeroBank)
  let s := s.putWord (CFG_REGION_CRC r) (s.regionCrc r)
  let s := (s.forgetCells r).setFab fun f => { f with isolated := f.isolated &&& ~~~(1#16 <<< r), badCrc := f.badCrc &&& ~~~(1#16 <<< r) }
  let s := s.put SCR_PR_STATE_HELD ((BitVec.ofNat 16 (s.get SCR_PR_STATE_HELD)) &&& ~~~(1#16 <<< r)).toNat
  let s := s.iff (r == 0) (·.set FAB_STATUS_BANK0_USER)
  let s := s.iff (r == 13) (·.set BIN_STATUS_MIRROR_LIVE)
  ((s.holdRegion r).streamsZero fun p => streamRegion p == r).prDone 0 0

/-- PR_RELEASE: in Running, after the checks. -/
def State.prRelease (s : State) : State :=
  if s.dev == .running && s.get SCR_PR_STATE_PHASE == 3 && s.load.pr.rank == 9 then s.prFree else s

/-- The drain's part (R312): a load that has not isolated its region is cancelled, one that has passed its checks waits. -/
def State.prDrain (s : State) : State :=
  if !s.prBusy then s
  else if s.get SCR_PR_STATE_PHASE = 1 then s.prDone 1 0
  else s.prWaits

/-- Fabric clock release after a wake (R315). -/
def State.prWake (s : State) : State := s.iff (s.get SCR_PR_STATE_PHASE == 4) (·.prFree)

/-- A reload ends the load (R311). -/
def State.prStop (s : State) : State := s.iff s.prBusy (·.prDone 8 0)

end Sys2Proof.Machine
end

