-- ==== Sys2Proof/Machine/Wear.lean ====
section
/-!
DEFINITION. The wear monitors and the temperature accumulators (R903 to R916).
-/
namespace Sys2Proof.Machine

/-- Replace the wear monitors' hidden state. -/
def State.setWear (s : State) (f : WearState → WearState) : State := s.withWear (f s.wear)

/-- A measurement of every pair starts: in Running, with none running (R903, R904, R912). -/
def State.wearBegin (s : State) : State := s.iff (s.dev == .running && !s.bit WEAR_STATUS_BUSY) (·.set WEAR_STATUS_BUSY)

/-- A write of WEAR_CMD. -/
def State.wearCmd (s : State) (w : Word) : State := if keyed w && w.getLsbD 0 then s.wearBegin else s

/-- The MEAS_H interval of Running has passed (R905, R912). -/
def State.wearSchedule (s : State) : State :=
  if s.dev != .running || s.get WEAR_CFG_MEAS_H == 0 then s
  else if s.bit WEAR_STATUS_BUSY then s.setWear fun w => { w with waits := true }
  else s.wearBegin

/-- SHIFT of pair `r`: (R / R0 − 1) × 10^6 from the two counts and the factory ratio (R904); the rounding is open. -/
def wearShift (r stressed twin : Nat) : Int :=
  let f := Config.wearFactory r
  let num : Int := (stressed * (f.2 + 1) : Nat) * 1000000
  let den : Int := (twin * (f.1 + 1) : Nat)
  let q := num / den - 1000000
  if num % den = 0 || !Config.roundUp num 0 then q else q + 1

/-- The result of pair `r`: SHIFT in ppm and the junction temperature (R904, R906); an oscillator without a count leaves the result
as it was. One entry is made for the highest multiple of 1,000 ppm that a SHIFT crosses at once. -/
def State.wearPair (s : State) (r : Nat) (x : WearCount) : State :=
  if x.stressed = 0 ∨ x.twin = 0 then s.set WEAR_STATUS_NO_COUNT
  else
    let sh := clampInt (-32768) 32767 (wearShift r x.stressed x.twin)
    let mag := sh.natAbs
    let s := ((s.put (WEAR_PAIR_SHIFT r) (unsigned 16 sh)).put (WEAR_PAIR_TJ r) (unsigned 8 x.celsius)).set (WEAR_PAIR_VALID r)
    let s := s.iff (decide (s.get WEAR_CFG_LIMIT_PPM ≤ mag) && !s.wear.reached.getLsbD r) fun s =>
      (s.set ⟨WEAR_STATUS, r, 1⟩).setWear fun w => { w with reached := w.reached ||| (1#16 <<< r) }
    s.iff (decide (s.wear.crossed[r]?.getD 0 < mag / 1000)) fun s =>
      (s.setWear fun w => { w with crossed := w.crossed.setIfInBounds r (mag / 1000) }).blockLog 0x0501 0 r (unsigned 64 sh)

/-- The gate of a measurement ends (R904, R912). -/
def State.wearDone (s : State) (pairs : List WearCount) : State :=
  if !s.bit WEAR_STATUS_BUSY then s
  else
    let s := (s.clr WEAR_STATUS_BUSY).satInc WEAR_COUNT_COUNT WEAR_COUNT_OVF
    let s := s.each (List.range 16) fun s r => s.wearPair r ((pairs[r]?).getD ⟨0, 0, 0⟩)
    s.iff s.wear.waits fun s => (s.setWear fun w => { w with waits := false }).wearBegin

/-- A drain or a reload abandons the measurement (R913). -/
def State.wearAbandon (s : State) : State := (s.clr WEAR_STATUS_BUSY).setWear fun w => { w with waits := false }

/-- The bin of a junction temperature (Table LONG-5). -/
def tjBin (tj : Int) : Nat := if tj < 60 then 0 else if tj < 85 then 1 else if tj ≤ 95 then 2 else 3

/-- `n` units of 1/1,024 h do not exceed 2^((Tj − 90)/10) × 1/60 h: both sides taken to the tenth power. -/
def eqFits (tj : Int) (n : Nat) : Bool :=
  if 90 ≤ tj then decide ((60 * n) ^ 10 ≤ 1024 ^ 10 * 2 ^ (tj - 90).toNat) else decide ((60 * n) ^ 10 * 2 ^ (90 - tj).toNat ≤ 1024 ^ 10)

/-- Whole units of 1/1,024 h in one minute at `tj` (R909). -/
def eqUnits (tj : Int) : Nat := ((List.range 1024).filter fun n => eqFits tj (n + 1)).length

/-- One minute of Running (R909): the bin, and the rated-equivalent hours. How a part of a unit is rounded is not stated: the count
rises by the whole units or by one more. -/
def State.tjMinute (s : State) (tj : Int) : State :=
  if s.dev != .running then s
  else
    let k := tjBin tj
    let s := s.satInc (WEAR_TJ_HOURS_COUNT k) (WEAR_TJ_HOURS_OVF k)
    (s.satAdd WEAR_EQ_HOURS_COUNT WEAR_EQ_HOURS_OVF (eqUnits tj + s.draw % 2)).drawn

end Sys2Proof.Machine
end

