-- ==== Sys2Proof/Machine/Pwr.lean ====
section
/-!
DEFINITION. The power controller up to the end of a drain: Off, the rails and their domains, Watch triggers, the start of a drain, and
reload requests (R19, R22, R59 to R73, R92 to R98, R186, R191, R192, R208, R209, R871, R940, R941).
-/
namespace Sys2Proof.Machine

/-- Replace the power controller's hidden state. -/
def State.setPwr (s : State) (f : PwrState → PwrState) : State := s.withPwr (f s.pwr)

/-! ### Off (R19, R68, R118) -/

/-- The register file after PORST_N: the Watch domain, its two PWR_STATUS bits and the levels of the rails stay, and a fused key shows. -/
def State.porstRegs (s : State) : Cells 32 :=
  let watch := s.regs.filter fun c => inWatchDomain c.1
  let m := putAll watch resetRegs
  let m := cellWrite m PWR_STATUS (s.word PWR_STATUS &&& 0x600)
  let m := cellWrite m PWR_RAILS (s.word PWR_RAILS)
  cellWrite m CFG_KEY_STATE (if s.load.fuse.isSome then 1 else 0)

/-- The device goes to Off: entries that the guarantee unit's buffer holds are lost, and everything outside the Watch domain returns to
its reset value. The pins keep their levels. -/
def State.goOff (s : State) : State :=
  let s := s.logLose
  let s := ((s.withRegs s.porstRegs).withMask []).withHealth false
  let s := (s.withDev .off).withPwr { PwrState.off with
    porst := s.pwr.porst, mode := s.pwr.mode, monEn := s.pwr.monEn, watchNLow := s.pwr.watchNLow, reloadLow := s.pwr.reloadLow }
  let s := (s.withWch { s.wch with snaps := [] }).withGrd GrdState.fresh
  let s := (s.withBus BusState.fresh).withLoad { LoadState.fresh with fuse := s.load.fuse }
  let s := (s.withFab FabState.fresh).withFix FixState.fresh
  let s := (((s.withDeep []).withLgc LogicState.fresh).streamsEmpty).withCph CphState.fresh
  let s := (s.withLnk (Vector.replicate 24 LnkLane.idle)).withBrg BrgState.fresh
  let s := (s.withSmp SmpState.fresh).withDdc (Vector.replicate 8 DdcState.fresh)
  let s := (s.withCtx (Vector.replicate 4 BcdCtx.fresh)).withScan []
  let s := (s.withLmdTx (Vector.replicate 2 LmdTx.fresh)).withLmdRx (Vector.replicate 2 LmdRx.fresh)
  let s := (s.withSpt (Vector.replicate 8 SptPort.fresh)).withPin (Vector.replicate 6 PinBank.fresh)
  let s := (s.withBin BinState.fresh).withPll PllState.fresh
  (s.withMon MonState.fresh).withWear WearState.fresh

/-- The load starts at the release of PORST_N: MODE and MON_EN are sampled (R64, R149, R832). -/
def State.coldStart (s : State) (mode : BitVec 3) (monEn : Bool) : State :=
  if s.dev != .off then s
  else
    let s := s.setPwr fun p => { p with porst := true, mode := mode, monEn := monEn }
    let s := ((s.set ⟨PWR_RAILS, 0, 1⟩).set ⟨PWR_RAILS, 1, 1⟩).armRails
    (s.monStrap.loadBegin mode false).tamperErase

/-- PORST_N goes low. -/
def State.porstLow (s : State) : State := (s.goOff).setPwr fun p => { p with porst := false }

/-- VCC_CORE falls below its limits (R98, Table PWR-2). Before the core has switched back in the Watch state it may be removed (R77):
only its level and the entries still held in the guarantee unit's buffer go (R118). -/
def State.coreDrop (s : State) : State :=
  let timed := s.inService || (s.dev == .watch && decide (2 ≤ s.pwr.wake))
  if s.dev == .off then s
  else if s.dev == .watch && !timed then s.logLose.clr ⟨PWR_RAILS, 0, 1⟩
  else if timed then ((s.watchLog 0x010C 0 (if s.dev == .watch then 5 else s.dev.code)).set PWR_STATUS_CORE_DROP).goOff
  else s.goOff

/-- VCC_AUX falls below its limits: to Off, with AUX_LOST where it fell in the Watch state (R90, R140). -/
def State.auxLost (s : State) (storeMv vbatMv : Nat) : State :=
  if s.dev == .off then s
  else
    (s.iff (s.dev == .watch && s.wch.up) fun s => s.watchLog 0x010B 0 (storeMv % 65536 + vbatMv % 65536 * 65536)).goOff

/-- The retention voltage falls below 0.57 V in the Watch state (R90). -/
def State.retentionLost (s : State) (mv : Nat) (auxToo : Bool) (storeMv vbatMv : Nat) : State :=
  if s.dev != .watch then s
  else if auxToo then s.auxLost storeMv vbatMv
  else (s.iff s.wch.up fun s => s.watchLog 0x010D 0 (mv % 65536)).goOff

/-- The least input, in mV, from which the watch rail is held: the buck's 1.60 V on the store, the regulator's 1.40 V on VBAT and VCC_AUX
(R127). -/
def railInputMin (supply : Nat) : Nat := if supply = supplyCode .store then 1600 else 1400

/-- The input of the selected source falls to `inputMv`. Where the watch rail is not held from it, the Watch domain goes down: watch time
and everything it holds go, until WATCH_COLD (R127). -/
def State.watchDown (s : State) (inputMv : Nat) : State :=
  if railInputMin (s.get WCH_STATUS_SUPPLY) ≤ inputMv then s
  else ((s.clr WCH_STATUS_TIME_VALID)).withWch { WchState.cold with up := false }

/-! ### Domains whose rails come and go (R22, R65, R871, R940) -/

/-- An address lies in a domain's register file. -/
def inDomain (d : Domain) (a : Nat) : Bool :=
  match blockOf a with
  | none => false
  | some b => match d with
    | .lane => regDomain b == .lane
    | .radio => regDomain b == .radio

/-- Both rails of a domain are within their limits. -/
def State.domainPowered (s : State) (d : Domain) : Bool :=
  match d with
  | .lane => s.lanePowered
  | .radio => s.radioPowered

/-- The registers of a domain at their reset values. -/
def State.domainRegs (s : State) (d : Domain) : State :=
  s.withRegs (putAll (s.regs.filter fun c => !inDomain d c.1) (resetRegs.filter fun c => inDomain d c.1))

/-- The services of a domain start, on settings already in place (R423, R475, R566, R605, R658, R727). -/
def State.domainServe (s : State) (d : Domain) : State :=
  match d with
  | .lane => ((s.each (List.range 24) fun s n => s.laneStart n)).brgStart
  | .radio =>
    let s := s.smpStart.rxcStart.bcdStart.lmdStart
    if s.spllOk then s else s.rxcMute

/-- A domain's bit of `stale`. -/
def domainBit : Domain → BitVec 2
  | .lane => 1
  | .radio => 2

/-- The image settings of a domain whose registers a loss of supply has returned to reset are applied again (R65, R940). -/
def State.domainSettings (s : State) (d : Domain) : State :=
  if s.pwr.stale &&& domainBit d == 0 then s
  else
    let s := s.domainRegs d
    let s := s.applySettings s.load.guarded (s.load.settings.filter fun x => inDomain d x.1)
    let s := s.iff (d == .lane) fun s => s.put BRG_STATUS_OWN_ID (s.get CFG_LANDFALL_OWN_ID)
    s.setPwr fun p => { p with stale := p.stale &&& ~~~(domainBit d) }

/-- A domain's rails are within limits in Running: its image settings are applied and its service starts (R65, R940). The load has
stored the settings of a domain that had no supply then, where no bus access reaches them. -/
def State.domainStart (s : State) (d : Domain) : State :=
  if s.dev != .running || !s.domainPowered d then s else (s.domainSettings d).domainServe d

/-- A domain loses its supply in service: its registers and signals go to their inactive values, and its PLL unlocks. -/
def State.domainLoss (s : State) (d : Domain) : State :=
  let s := s.setPwr fun p => { p with stale := p.stale ||| domainBit d }
  match d with
  | .lane =>
    let s := (s.pllLol 8).pllLol 9
    let s := s.sourceInvalid 1
    let s := (s.withLnk (Vector.replicate 24 LnkLane.idle)).withBrg { BrgState.fresh with
      expected := s.brg.expected, acceptGolden := s.brg.acceptGolden, counted := s.brg.counted, late := s.brg.late,
      txSeq := s.brg.txSeq }
    (s.domainRegs .lane).clr ⟨GRD_SELFTEST, 2, 1⟩ |>.clr ⟨GRD_SELFTEST, 10, 1⟩
  | .radio =>
    let s := (s.pllLol 10).sourceInvalid 4
    let s := (s.withSmp SmpState.fresh).withDdc (Vector.replicate 8 DdcState.fresh)
    let s := (s.withCtx (Vector.replicate 4 BcdCtx.fresh)).withScan []
    let s := (s.withLmdTx (Vector.replicate 2 LmdTx.fresh)).withLmdRx (Vector.replicate 2 LmdRx.fresh)
    (s.domainRegs .radio).clr ⟨GRD_SELFTEST, 3, 1⟩ |>.clr ⟨GRD_SELFTEST, 11, 1⟩

/-- The rails of a domain. -/
def railDomain (i : Nat) : Option Domain :=
  if i = 2 ∨ i = 3 then some .lane else if i = 4 ∨ i = 5 then some .radio else none

/-- Rail `i` leaves its limits. In the Watch state only its bit changes (R77, R78). -/
def State.railDown (s : State) (i : Nat) : State :=
  if !s.railOk i then s
  else if 8 ≤ i then s.bankDown (i - 8)
  else
    match railDomain i with
    | none => s.clr ⟨PWR_RAILS, i, 1⟩
    | some d =>
      let was := s.domainPowered d
      let s := s.clr ⟨PWR_RAILS, i, 1⟩
      s.iff (was && s.inService) (·.domainLoss d)

/-- Rail `i` comes within its limits. -/
def State.railUp (s : State) (i : Nat) : State :=
  if s.railOk i then s
  else if 8 ≤ i then (s.bankUp (i - 8)).setGrd fun g => { g with railSeen := g.railSeen ||| (1#14 <<< i) }
  else
    let s := (s.set ⟨PWR_RAILS, i, 1⟩).setGrd fun g => { g with railSeen := g.railSeen ||| (1#14 <<< i) }
    match railDomain i with
    | none => s
    | some d => s.iff (s.domainPowered d) (·.domainStart d)

/-- RAIL_EXCURSION: the rail is outside its limits, and is reported where it has been within them since the last load. Entries that the
guarantee unit's buffer holds are lost when VCC_CORE or VCC_AUX leaves its limits (R118). A fall of VCC_CORE or VCC_AUX takes the device
to Off and is CORE_DROP or AUX_LOST. -/
def State.railExcursion (s : State) (i mv : Nat) : State :=
  let fall := (i == 0 && decide (mv < 776)) || (i == 1 && decide (mv < 1710))
  if fall || s.dev == .off || i == 6 || i == 7 then s
  else
    let due := s.grd.railSeen.getLsbD i && (s.railOk i || !s.grd.insts.contains (39, i))
    let s := s.iff (decide (i < 2)) (·.logLose)
    let s := s.railDown i
    s.iff (due && s.dev != .watch) (·.report 39 i mv)

/-- DOMAIN_POWER_LOSS. -/
def State.domainPowerLoss (s : State) (i : Nat) : State := if s.dev == .off || decide (i < 2) || i == 6 || i == 7 then s else s.railDown i

/-- RAIL_RETURN. -/
def State.railReturn (s : State) (i : Nat) : State := if s.dev == .off || i == 6 || i == 7 then s else s.railUp i

/-- DOMAIN_POWER_UP: both rails of a domain. -/
def State.domainPowerUp (s : State) (d : Domain) : State :=
  if s.dev == .off then s
  else match d with
    | .lane => (s.railUp 2).railUp 3
    | .radio => (s.railUp 4).railUp 5

/-! ### The drain (R73, R186, Table PWR-3) -/

/-- Work accepted and not started is cancelled, at the start of a drain and while it runs. -/
def State.drainSweep (s : State) : State := s.cphDrain.brgDrain.lmdDrain

/-- The drain actions: `kind` 1 before the Watch state, 2 before a reload. -/
def State.drainStart (s : State) (kind : Nat) : State :=
  let s := s.drainSweep.sptDrain.smpDrain.rxcDrain.bcdDrain.lmdWithhold.auditAbort.wearAbandon
  let s := (s.each (List.range 24) fun s n => s.laneIdle n).portsUpdate
  let s := s.setPwr fun p => { p with drain := kind, wakeDone := p.wakeDone && kind == 2, causes := 0, graceOver := kind == 2 || s.get PWR_WATCH_CFG_GRACE_US == 0 }
  (s.enter .draining).prDrain

/-- The triggers that are present now and enabled: bit 1 WATCH_N, bit 2 VMON (R71). -/
def State.triggers (s : State) : Nat :=
  (if s.pwr.watchNLow && s.bit PWR_WATCH_CFG_PIN_EN then 2 else 0) + (if s.pwr.vmonFiltered && s.bit PWR_WATCH_CFG_VMON_EN then 4 else 0)

/-- A Watch trigger: accepted in Running; recorded in a drain (R92, R93); elsewhere it waits where it is a level (R69, R70, R97). -/
def State.watchTrigger (s : State) (cause : Nat) : State :=
  if cause = 0 then s
  else if s.dev == .draining then
    s.put PWR_STATUS_ENTRY_CAUSE ((BitVec.ofNat 3 (s.get PWR_STATUS_ENTRY_CAUSE)) ||| BitVec.ofNat 3 cause).toNat
  else if s.dev != .running then s
  else
    let s := (s.put PWR_STATUS_ENTRY_CAUSE cause).monDrain
    (s.drainStart 1).setPwr fun p => { p with watchPending := true }

/-- A write of PWR_WATCH_REQ (R71, R97). -/
def State.watchReq (s : State) (w : Word) : State := s.iff (w.getLsbD 0 && s.bit PWR_WATCH_CFG_FAB_EN) (·.watchTrigger 1)

/-- WATCH_N goes low; its rise is a wake cause no longer. -/
def State.watchPin (s : State) : State :=
  let s := s.setPwr fun p => { p with watchNLow := true, causes := p.causes &&& 0xE#4 }
  s.iff (s.bit PWR_WATCH_CFG_PIN_EN) (·.watchTrigger 2)

/-- The comparator is on: THRESH has been set (R72). -/
def State.vmonOn (s : State) : Bool := s.get PWR_VMON_CFG_THRESH != 0 && s.dev != .off

/-- VMON falls below THRESH; its rise is a wake cause no longer. -/
def State.vmonFall (s : State) : State :=
  s.iff (s.vmonOn && !s.pwr.vmonLow) fun s => s.setPwr fun p => { p with vmonLow := true, vmonFiltered := false, causes := p.causes &&& 0xD#4 }

/-- VMON rises above THRESH + HYST: in a drain and in the Watch state an enabled wake cause, which stays present until the wake event or
the next fall (R84, R94). -/
def State.vmonRise (s : State) : State :=
  let cause := s.pwr.vmonLow && (s.dev == .watch || s.dev == .draining) && s.bit PWR_WAKE_CFG_VMON
  (s.setPwr fun p => { p with vmonLow := false, vmonFiltered := false }).iff cause (·.wakeCause 1)

/-- VMON has stayed low for FILTER_US. -/
def State.vmonFilter (s : State) : State :=
  if !s.pwr.vmonLow then s
  else
    let s := s.setPwr fun p => { p with vmonFiltered := true }
    s.iff (s.bit PWR_WATCH_CFG_VMON_EN) (·.watchTrigger 4)

/-- Triggers that have waited for a release, or for their enable, act at once; whether WATCH_N is still low then is the board's (R70,
R71). -/
def State.pendingTriggers (s : State) : State :=
  let s := s.iff s.pwr.watchNLow fun s => s.drawn.setPwr fun p => { p with watchNLow := s.draw % 2 == 1 }
  s.watchTrigger s.triggers

/-- The fabric grace time ends (R73). -/
def State.graceEnd (s : State) : State := s.iff (s.dev == .draining) fun s => s.setPwr fun p => { p with graceOver := true }

/-! ### Reload requests (R89, R96, R191, R192, R208, R941) -/

/-- The reload that a request asks for; a reload that waits already stands. -/
def State.holdReload (s : State) (golden : Bool) : State :=
  s.iff (s.pwr.reload == 0) fun s => s.setPwr fun p => { p with reload := if golden then 2 else 1 }

/-- The Watch state is to be left through Loading; a wake in progress is abandoned (R89). -/
def State.leaveWatch (s : State) : State := s.pllRetention.setPwr fun p => { p with leaving := true, wake := 0 }

/-- A request for a reload: from Running after a drain; held in a Watch drain; in a load at once, once RELOAD_START comes. Of a request
that meets one that waits, the earlier stands (DESIGN CHOICE, log entry 14), but RELOAD_N restarts a load at the primary image whatever
waits (R208). -/
def State.reloadAsk (s : State) (golden pin : Bool) : State :=
  match s.dev with
  | .off => s
  | .running => ((s.holdReload golden).drainStart 2)
  | .draining => s.holdReload golden
  | .loading => if pin then s.setPwr fun p => { p with reload := 1 } else s.holdReload golden
  | .halted => s.holdReload golden
  | .watch => (s.holdReload golden).leaveWatch

/-- RELOAD_N has been low for 90 samples; the housekeeping clock runs in every state but Off and the Watch state before its copies are
back. -/
def State.reloadPin (s : State) : State :=
  if s.dev == .off || (s.dev == .watch && decide (s.pwr.wake < 2)) then s
  else (s.setPwr fun p => { p with reloadLow := true }).reloadAsk false true

/-- Two low samples in the Watch state, or in a wake before the copies run (R941). -/
def State.reloadWatchPin (s : State) : State :=
  if s.dev != .watch || decide (2 ≤ s.pwr.wake) then s
  else (s.setPwr fun p => { p with reloadLow := true }).reloadAsk false true

/-- RELOAD_N is high again. -/
def State.reloadRise (s : State) : State := s.setPwr fun p => { p with reloadLow := false }

/-- A write of CFG_CMD (R192, R196). -/
def State.cfgCmd (s : State) (w : Word) : State :=
  if !keyed w then s
  else
    match bitsOf w 0 2 with
    | 1 => s.reloadAsk false false
    | 2 => s.reloadAsk true false
    | 3 => s.auditStart (w.getLsbD 2)
    | _ => s

end Sys2Proof.Machine
end

