-- ==== Sys2Proof/Machine/Bus.lean ====
section
/-!
DEFINITION. The register bus: what a read returns and clears, what a live write stores, and what the write of a register starts (R8 to
R13, R23 to R29, R44, R45, R262 to R264, R498, R593, R665, R865, R940, R943).
-/
namespace Sys2Proof.Machine

/-! ### Reads -/

/-- The master that cipher page `p` is bound to; a page that is not in use is bound to none (R497). -/
def State.pageMaster (s : State) (p : Nat) : Option Nat := if s.bit (PAGE_CFG_EN p) then some (s.get (PAGE_CFG_MASTER p)) else none

/-- The address is a request, queue or key register of a cipher page whose contents master `m` may not read (R498). -/
def State.pageHidden (s : State) (m a : Nat) : Bool :=
  decide (0x400C0000 ≤ a) && decide (a < 0x400D0000) && decide (0x10 ≤ a % 4096) && decide (a % 4096 < 0x16C) &&
  s.pageMaster ((a - 0x400C0000) / 4096) != some m

/-- SLOT_INFO, SLOT_PAGES, SLOT_CTR_LO and SLOT_CTR_HI of a slot. -/
def Slot.word (v : Slot) (i : Nat) : Word :=
  let b (c : Bool) (n : Nat) : Nat := if c then 2 ^ n else 0
  match i with
  | 0 => BitVec.ofNat 32 (b v.valid 31 + b v.exhausted 30 + b v.shadow.isSome 29 + b (v.key.length == 32) 28 + v.ctrw % 4 * 2 ^ 26 +
      v.modebind % 256 * 2 ^ 16 + v.gen % 256 * 2 ^ 8)
  | 1 => BitVec.ofNat 32 (v.pages % 65536)
  | 2 => BitVec.ofNat 32 v.ctr
  | _ => BitVec.ofNat 32 (v.ctr / 2 ^ 32)

/-- Q_ENTRYe: an entry is used until its completion has been posted (R511). -/
def State.entryWord (s : State) (e : Nat) : Word :=
  match s.cph.queue.find? (·.entry == e) with
  | some r => BitVec.ofNat 32 (2 ^ 31 + (if r.dp = 0 then 0 else 2 ^ 30) + r.page * 2 ^ 16 + r.slot * 2 ^ 8 + r.tag % 256)
  | none =>
    match s.cph.waiting.find? fun d => d.held && d.entry == e with
    | some d => BitVec.ofNat 32 (2 ^ 31 + d.page * 2 ^ 16 + d.slot * 2 ^ 8 + d.tag % 256)
    | none => 0

/-- Registers of the cipher engine that are views of its hidden state. -/
def State.cphView (s : State) (m a : Nat) : Word :=
  if s.pageHidden m a then 0
  else if a < 0x400D0000 then
    let p := (a - 0x400C0000) / 4096
    if a = PAGE_STATUS p then setBits (s.word a) 8 7 (s.pageQueued p)
    else if a = Q_CMP_LO p then BitVec.ofNat 32 (s.qPop p).1
    else if a = Q_CMP_HI p then BitVec.ofNat 32 (s.cph.helds[p]?.getD 0 / 2 ^ 32)
    else s.word a
  else if a < 0x400D0400 then (s.slot ((a - 0x400D0000) / 16)).word ((a - 0x400D0000) % 16 / 4)
  else if 0x400E0000 ≤ a ∧ a < 0x400E0100 then s.entryWord ((a - 0x400E0000) / 4)
  else if a = CPH_STATUS then
    setBits (setBits (s.word a) 0 7 s.queueUsed) 9 1 (if s.released && s.cphHold then 1 else 0)
  else if a = CPH_EVENT then
    s.word a ||| BitVec.ofNat 32 ((List.range 16).foldl (fun n p => n + if s.lineLevel (128 + p) then 2 ^ p else 0) 0)
  else s.word a

/-- A coefficient address names its DDC and tap. -/
def coefAt (a : Nat) : Option (Nat × Nat) :=
  if 0x40111000 ≤ a ∧ a < 0x40115000 ∧ (a - 0x40111000) % 0x800 / 4 < 320 then
    some ((a - 0x40111000) / 0x800, (a - 0x40111000) % 0x800 / 4)
  else none

/-- A bank's PIN_GPIO_IN. -/
def gpioBank (a : Nat) : Option Nat := (List.range 6).find? fun b => PIN_GPIO_IN b == a

/-- What a register of a powered domain reads as for master `m`, before R8 hides its write-only bits. -/
def State.viewed (s : State) (m a : Nat) : Word :=
  match blockOf a with
  | some 1 =>
    let snap : BitVec 80 := cellRead s.wch.snaps m
    if a = WCH_TIME_SEC_LO then BitVec.ofNat 32 s.wch.aSec
    else if a = WCH_TIME_SEC_HI then BitVec.ofNat 32 (snap.toNat / 2 ^ 64)
    else if a = WCH_TIME_NS then BitVec.ofNat 32 snap.toNat
    else s.word a
  | some 7 =>
    let snap : BitVec 96 := cellRead s.fix.snaps m
    if a = FIX_TIME_SEC_LO then BitVec.ofNat 32 s.fix.sec
    else if a = FIX_TIME_SEC_HI then BitVec.ofNat 32 (snap.toNat / 2 ^ 80)
    else if a = FIX_TIME_NS then BitVec.ofNat 32 (snap.toNat / 2 ^ 16)
    else if a = FIX_TIME_FNS then BitVec.ofNat 32 (snap.toNat % 2 ^ 16)
    else s.word a
  | some 8 =>
    let n := (a - 0x40080000) / 0x400
    if n < 24 ∧ a = LNK_TXTS_TAG n then (s.txtsPop n).word a else s.word a
  | some 10 => s.cphView m a
  | some 11 =>
    if 0x40100100 ≤ a ∧ a < 0x401001C0 then
      BitVec.ofNat 32 (setWord (s.coefSet ((a - 0x40100100) / 16)) ((a - 0x40100100) % 16 / 4))
    else s.word a
  | some 12 =>
    match coefAt a with
    | some (d, t) => (s.coefRead d t).setWidth 32
    | none => s.word a
  | some 16 =>
    match gpioBank a with
    | some b => s.gpioIn b
    | none => s.word a
  | some 17 => if a = BIN_IRQ_STATUS then s.binIrq else s.word a
  | _ => s.word a

/-- What a register reads as for master `m`: write-only and unassigned bits are 0 (R8, R28), and a register whose domain is down
holds what it holds after PORST_N (R940). -/
def State.view (s : State) (m a : Nat) : Word :=
  match rowOf a with
  | none => 0
  | some r =>
    if s.domainUp a then s.viewed m a &&& ~~~r.wo
    else cellRead (if blockOf a = some 1 ∨ blockOf a = some 2 ∨ blockOf a = some 19 then watchResetRegs else resetRegs) a

/-- A read of PIN_GPIO_IN takes a free value of the pins. -/
def State.looked (s : State) (a : Nat) : State := if (gpioBank a).isSome then s.drawn else s

/-- A read of the first word of a time register captures the master's snapshot (R112, R349). -/
def State.snapshots (s : State) (m a : Nat) : State :=
  if a = WCH_TIME_SEC_LO then s.wchSnap m else if a = FIX_TIME_SEC_LO then s.fixSnap m else s

/-- What a bus read of a register does besides: RC fields clear, FIFOs pop, snapshots are taken (R8, R112, R349, R404, R511). -/
def State.readEffect (s : State) (m a : Nat) (rc : Word) : State :=
  let s := s.iff (rc != 0) fun s => s.putWord a (s.word a &&& ~~~rc)
  let s := (s.looked a).snapshots m a
  match blockOf a with
  | some 8 =>
    let n := (a - 0x40080000) / 0x400
    s.iff (decide (n < 24) && a == LNK_TXTS_TAG n) (·.txtsPop n)
  | some 10 =>
    let p := (a - 0x400C0000) / 4096
    s.iff (decide (a < 0x400D0000) && a == Q_CMP_LO p && !s.pageHidden m a) fun s => (s.qPop p).2
  | _ => s

/-! ### Completion (R27, R29) -/

/-- The access of master `m` completes. -/
def State.complete (s : State) (m code : Nat) (data : Word) : State :=
  (s.withBus { s.bus with resp := cellWrite s.bus.resp m (BitVec.ofNat 2 code), data := cellWrite s.bus.data m data }).emit
    (.resp m code data)

/-- The last response of master `m`, and the data that came with it. -/
def State.busCode (s : State) (m : Nat) : Nat := (cellRead s.bus.resp m).toNat
def State.busData (s : State) (m : Nat) : Word := cellRead s.bus.data m

/-- A response other than DONE is captured, or sets OVERRUN while a capture is held (R29). -/
def State.busError (s : State) (m code : Nat) (write : Bool) (addr : Word) : State :=
  if s.bit SYS_BUSERR_INFO_VALID then s.set SYS_BUSERR_INFO_OVERRUN
  else
    let s := (s.set SYS_BUSERR_INFO_VALID).put SYS_BUSERR_INFO_CODE code
    ((s.putB SYS_BUSERR_INFO_WRITE write).put SYS_BUSERR_INFO_MASTER m).putWord SYS_BUSERR_ADDR addr

/-- Complete an access with a response, capturing it where it is not DONE. -/
def State.finish (s : State) (m code : Nat) (write : Bool) (addr data : Word) : State :=
  (s.iff (code != 0) (·.busError m code write addr)).complete m code data

/-- The bus runs from PORST_N release to the retention switch and again from fabric clock release (R58), and a master whose access is
outstanding presents no other (R25). -/
def State.busTakes (s : State) (m : Nat) : Bool := s.dev != .off && s.dev != .watch && !s.bus.fs.any (·.1 == m)

/-- The parity bits of a word, one per byte (R23), bit i the exclusive OR of bits [8i+7:8i]. -/
def byteParity (w : Word) : BitVec 4 :=
  (List.range 4).foldl (fun p i => if (List.range 8).foldl (fun x j => x != w.getLsbD (8 * i + j)) false then p ||| (1#4 <<< i) else p) 0#4

/-- The parity bits that reach the bus with a word: those that the master made, an FM port for its own requests (R261), with the flips
of the way. -/
def busParity (w : Word) (flips : BitVec 4) : BitVec 4 := byteParity w ^^^ flips

/-- The bytes of a word whose parity fails. -/
def parityFailed (w : Word) (received : BitVec 4) : BitVec 4 := byteParity w ^^^ received

/-- No byte's parity fails (R27). -/
def parityHolds (w : Word) (flips : BitVec 4) : Bool := parityFailed w (busParity w flips) == 0

/-- A byte parity failure: PARERR and fault BUS_PARITY (R27, Table GRD-2). -/
def State.parityFail (s : State) (m : Nat) (write : Bool) (addr : Word) : State := (s.report 3 m addr.toNat).finish m 3 write addr 0

/-! ### The fabric user window (R262 to R264) -/

/-- FS accesses reach the fabric: released, region 12 not isolated, no reload begun (R264). -/
def State.fsLive (s : State) : Bool := s.bit FAB_STATUS_RELEASED && !s.isolatedR 12

/-- An access to the fabric user register window: it is presented on FS with its byte offset, write enable, data and strobes (R262).
Without an acknowledge it waits for FS_TIMEOUT. -/
def State.fsWindow (s : State) (m : Nat) (write : Bool) (be : BitVec 4) (addr value : Word) (ack : Option Word) : State :=
  if !s.fsLive then s.finish m 0 write addr 0
  else
    let s := s.emit (.fsRequest write (addr.setWidth 24) value be)
    match ack with
    | some d => if s.pwr.graceOver then s.withBus { s.bus with fs := s.bus.fs ++ [(m, write, addr.toNat, value)] }
                else s.finish m 0 write addr (if write then 0 else d)
    | none => s.withBus { s.bus with fs := s.bus.fs ++ [(m, write, addr.toNat, value)] }

/-- The access of master `m` that waits ends without its acknowledge (R263). -/
def State.fsEnd (s : State) (m : Nat) : State :=
  match s.bus.fs.find? (·.1 == m) with
  | none => s
  | some x =>
    let s := s.withBus { s.bus with fs := s.bus.fs.filter (·.1 != m) }
    s.finish m 0 x.2.1 (BitVec.ofNat 32 x.2.2.1) 0

/-- FS_TIMEOUT (R263). -/
def State.fsTimeout (s : State) (m : Nat) : State :=
  if s.bus.fs.any (·.1 == m) then ((s.set FAB_STATUS_FS_TIMEOUT).satInc FAB_FS_TIMEOUT_COUNT FAB_FS_TIMEOUT_OVF).fsEnd m else s

/-- A register-bus read by master `m`; `ack` is what the fabric answers where the address lies in its window. -/
def State.busReadAck (s : State) (m : Nat) (flips : BitVec 4) (addr : Word) (ack : Option Word) : State :=
  let a := addr.toNat / 4 * 4
  if !s.busTakes m then s
  else if !parityHolds addr flips then s.parityFail m false addr
  else
    match blockOf a with
    | none => s.finish m 1 false addr 0
    | some b =>
      if b = 20 then s.fsWindow m false 0 addr 0 ack
      else
        match rowOf a with
        | none => s.finish m 0 false addr 0
        | some r =>
          let d := s.view m a
          (s.iff (s.domainUp a) (·.readEffect m a r.rc)).finish m 0 false addr d

/-- A register-bus read by master `m`. -/
def State.busRead (s : State) (m : Nat) (flips : BitVec 4) (addr : Word) : State := s.busReadAck m flips addr none

/-! ### Writes -/

/-- The bits under the byte strobes. -/
def strobed (be : BitVec 4) : Word := mergeBytes 0 0xFFFFFFFF#32 be

/-- The writers column names master `m` (R12, R498). -/
def State.mayWrite (s : State) (r : RegRow) (m a : Nat) : Bool :=
  match r.writers with
  | .set ids => ids.getLsbD m
  | .page => s.pageMaster ((a - 0x400C0000) / 4096) == some m

/-- The register holds a field of access RW, WO, W1C or RWI (R12). -/
def RegRow.written (r : RegRow) : Bool := (r.rw ||| r.wo ||| r.w1c ||| r.rwi) != 0

/-- Image-set bits that a live write may not change: those the mask closes, and the fields that the Guarded profile holds (R44, R865). -/
def State.closedBits (s : State) (r : RegRow) (a : Nat) : Word :=
  let held := if s.load.guarded && s.inService then guardedMask a else 0
  r.rwi &&& (~~~(cellRead s.mask a) ||| held)

/-- Write-only registers whose value is held until a command uses it. -/
def heldWo (a : Nat) : Bool :=
  a == FIX_PTP_OFS || (decide (CFG_FUSE_DATA 0 ≤ a) && decide (a < CFG_FUSE_DATA 8)) ||
  (decide (0x400C0000 ≤ a) && decide (a < 0x400D0000) && decide (0x140 ≤ a % 4096) && decide (a % 4096 < 0x160))

/-- A register's word as writes see it: a coefficient is that of the bank writes go to. -/
def State.writeView (s : State) (a : Nat) : Word :=
  match coefAt a with
  | some (d, t) => (s.coefRead d t).setWidth 32
  | none => s.word a

/-- Why a permitted write is dropped whole: response and effect. -/
def State.writeDropped (s : State) (a : Nat) (closed next : Word) : Option (Nat × (State → State)) :=
  if a = HRV_THRESH then
    (if (s.word a ^^^ hrvLimited next) &&& closed != 0 then some (2, fun s => s.satInc SYS_MASK_DROPS_COUNT SYS_MASK_DROPS_OVF)
     else none)
  else
    match blockOf a with
    | some 3 =>
      if CFG_NVM_BUF 0 ≤ a ∧ a < CFG_NVM_BUF 64 ∧ s.bit CFG_NVM_STATUS_BUSY then some (0, id) else none
    | some 6 =>
      let n := (a - 0x40051000) / 0x400
      let e := (a - 0x40051000) % 0x400 / 16
      if 0x40051000 ≤ a ∧ n < 11 ∧ s.bandInUse n e then some (2, fun s => s.put (PLL_CMD_STATUS_CODE n) 4) else none
    | some 12 =>
      match s.ownedReg a with
      | some d => some (0, fun s => s.set (DDC_STATUS_OWNED_DROP d))
      | none => none
    | some 14 =>
      match lmdChannelOf a with
      | none => none
      | some (hz, bw, drop) =>
        let t := s.putWord a next
        if lmdFits (t.get hz) (t.get bw) then none else some (0, fun s => s.set drop)
    | _ => none

/-- What a write of a cipher register starts. -/
def State.cphWritten (s : State) (a : Nat) (w : Word) : State :=
  let p := (a - 0x400C0000) / 4096
  if a = CPH_ZERO then s.iff (keyed w && w.getLsbD 0) (·.cphZeroize)
  else if 0x400D0000 ≤ a then s
  else if a = D_CMD p then s.dCmd p w
  else if a = Q_CMD p then s.qCmd p w
  else if a = K_CMD p then s.kCmd p w
  else s

/-- What a write of a lane's register starts (R404, R419, R421, Table LNK-2). -/
def State.lnkWritten (s : State) (a : Nat) (w old : Word) : State :=
  let n := (a - 0x40080000) / 0x400
  if 24 ≤ n then s
  else if a = LNK_CFG n then
    if s.word a = old then s
    else
      let cut := s.bit (LNK_STATUS_UP n) && 1 ≤ bitsOf old 0 3 && bitsOf old 0 3 ≤ 3
      let s := s.iff cut fun s => s.drawn.iff (s.draw % 2 == 1) (·.satInc (LNK_RX_DROPS_COUNT n) (LNK_RX_DROPS_OVF n))
      s.lanesRestart [n]
  else if a = LNK_BRG_CFG n then s.portsUpdate
  else if a = LNK_STATUS n then s.txtsKeep n
  else if a = LNK_PRBS_CFG n then s.iff (w.getLsbD 8) (·.prbsClear n)
  else if a = LNK_EYE_CTRL n then s.iff (w.getLsbD 31 && !old.getLsbD 31) (·.eyeStart n)
  else s

/-- What a write of a DDC's register starts, its generation with it (R579, R582). -/
def State.rxcWritten (s : State) (a : Nat) (w old : Word) : State :=
  if a = RXC_CFG then s.each (List.range 8) fun s d => s.withGen d (·.ddcEnable d)
  else
    let d := (a - 0x40110100) / 0x40
    if 8 ≤ d then s
    else if a = DDC_CFG d then (s.withGen d (·.ddcCfgWritten d old)).ownerWritten d old
    else if a = DDC_DEC d then s.putDd d { s.dd d with dirty := true }
    else if a = DDC_CMD d then s.withGen d (·.ddcCmd d w)
    else s

/-- What a write of a pin register starts (R772, R776). -/
def State.pinWritten (s : State) (a : Nat) (old : Word) : State :=
  let b := (a - 0x40150000) / 0x100
  if 6 ≤ b then s
  else if a = PIN_BANK_CFG b then s.pinModeWritten b old
  else if a = PIN_CLAIM b ∨ (PIN_CFG b 0 ≤ a ∧ a < PIN_CFG b 32) then s.pinRecompute b
  else s

/-- What the write of a register starts, once its fields are stored: `w` is the written value under its strobes, `old` the word the
register held. -/
def State.written (s : State) (a : Nat) (w old : Word) : State :=
  match blockOf a with
  | some 0 =>
    if a = PWR_WATCH_REQ then s.watchReq w
    else if a = PWR_WATCH_CFG then s.iff s.inService (·.pendingTriggers)
    else if a = WEAR_CMD then s.wearCmd w
    else s
  | some 1 =>
    if a = WCH_SET_CMD then s.iff (w.getLsbD 0) fun s => s.withWch { s.wch with commit := true }
    else if a = WCH_WAKE_TIMER then s.withWch { s.wch with timerPre := 0, timerAt := s.now + 1 }
    else s
  | some 3 =>
    if a = CFG_CMD then s.cfgCmd w
    else if a = CFG_NVM_CMD then s.nvmWrite w
    else if a = CFG_FUSE_CMD then s.fuseCmd (bitsOf w 0 16)
    else s
  | some 4 => if a = SCR_PR_CMD then s.prWrite w else s
  | some 5 => if a = GRD_CMD then s.grdCmd w else s
  | some 6 =>
    let n := (a - 0x40050000) / 0x100
    if n < 11 ∧ a = PLL_CMD n then s.pllCmd n w s.nvmBusy else if n < 11 ∧ a = PLL_CFG n then s.pllCfgWritten n else s
  | some 7 =>
    if a = FIX_SET_CMD then s.iff (keyed w && w.getLsbD 0) (·.fixSet)
    else if a = FIX_PTP_CMD then s.ptpCmd (w.getLsbD 0) (w.getLsbD 1)
    else if a = FIX_BCD_CFG then s.fixCtxWritten
    else if a = FIX_CFG then s.fixCfgWritten
    else s
  | some 8 => s.lnkWritten a w old
  | some 9 =>
    if a = BRG_CMD then
      s.iff (keyed w) fun s => s.each (List.range 4) fun s p => s.iff (w.getLsbD p) (·.rekeyStart p)
    else if a = BRG_ADMIT then s.iff (keyed w) (·.admitId (bitsOf w 0 6))
    else if a = BRG_CFG then s.iff s.brgOn (·.brgElect)
    else s.portsUpdate
  | some 10 => s.cphWritten a w
  | some 11 =>
    if a = SMP_CFG then (s.soundCfg true).soundCfg false
    else if a = SMP_ATT then
      (if s.word a = old then s else s.attChanged)
    else if a = SMP_COEF_CMD then s.smpCmd w
    else s
  | some 12 => s.rxcWritten a w old
  | some 13 =>
    let c := (a - 0x40120100) / 0x100
    if a = BCD_CFG then s.bcdCfgWritten old
    else if 4 ≤ c then s
    else if a = CTX_CFG c then s.ctxTune c
    else if a = CTX_FREQ c then s.ctxFreqWritten c
    else s
  | some 14 =>
    if a = LMD_CMD then s.lmdCmd w
    else if 0x40130200 ≤ a ∧ a < 0x40130300 then
      let r := (a - 0x40130200) / 0x80
      s.iff ((rowOf a).any fun x => x.rwi != 0) (·.rxWritten r)
    else s
  | some 15 =>
    let n := (a - 0x40140000) / 0x40
    if n < 8 ∧ a = SPT_CMD n then s.sptCmd n (w.getLsbD 0) (w.getLsbD 1) (w.getLsbD 2) else s
  | some 16 => s.pinWritten a old
  | some 17 =>
    if a = BIN_IND_CMD then s.indCommand w
    else if 0x40160108 ≤ a ∧ a < 0x40160200 then s.apWritten ((a - 0x40160100) / 4) old
    else s
  | some 18 => if a = MON_CTRL then s.monCtrl w else s
  | some 19 =>
    if a = LOG_CMD then (s.iff (w.getLsbD 0) (·.clearPinned)).iff (w.getLsbD 1) (·.clearLog) else s
  | _ => s

/-- Store a live write: RW and opened RWI bits take the written value within their limits, W1C bits written 1 clear, then the
register's commands act. -/
def State.store (s : State) (r : RegRow) (a : Nat) (sm closed v : Word) : State :=
  if sm = 0 then s else
  let old := s.writeView a
  let takes := sm &&& (r.rw ||| (r.rwi &&& ~~~closed) ||| (if heldWo a then r.wo else 0))
  let next := mergeBits old v takes
  let next := mergeBits next (s.storable a takes next) (r.rw ||| (r.rwi &&& ~~~closed))
  let next := next &&& ~~~(v &&& sm &&& r.w1c)
  match coefAt a with
  | some (d, t) => s.coefPut d t (next.setWidth 18)
  | none => (s.putWord a next).written a (v &&& sm) old

/-- A permitted live write of a register: its closed bits keep their values, and a write that would change one completes PERMERR and
counts once (R44, R45). -/
def State.liveWrite (s : State) (r : RegRow) (m a : Nat) (sm : Word) (addr v : Word) : State :=
  let closed := s.closedBits r a
  let hit := sm &&& closed &&& (v ^^^ s.writeView a) != 0
  let next := mergeBits (s.writeView a) v (sm &&& (r.rw ||| (r.rwi &&& ~~~closed)))
  let count (s : State) : State := s.iff hit (·.satInc SYS_MASK_DROPS_COUNT SYS_MASK_DROPS_OVF)
  match s.writeDropped a closed next with
  | some (code, f) =>
    if a = HRV_THRESH then (f s).finish m code true addr 0
    else (count (f s)).finish m (if hit then 2 else code) true addr 0
  | none => (count (s.store r a sm closed v)).finish m (if hit then 2 else 0) true addr 0

/-- A register-bus write; `ack` is the fabric's answer where the address lies in its window. -/
def State.busWriteAck (s : State) (acc : Acc) (addr v : Word) (ack : Option Word) : State :=
  let a := addr.toNat / 4 * 4
  let m := acc.master.val
  if !s.busTakes m then s
  else if !(parityHolds addr acc.addrFlips && parityHolds v acc.dataFlips) then s.parityFail m true addr
  else
    match blockOf a with
    | none => s.finish m 1 true addr 0
    | some b =>
      if b = 20 then s.fsWindow m true acc.strobe addr v ack
      else
        match rowOf a with
        | none => s.finish m 0 true addr 0
        | some r =>
          if !s.domainUp a || !r.written then s.finish m 0 true addr 0
          else if !s.mayWrite r m a then s.finish m 2 true addr 0
          else s.liveWrite r m a (strobed acc.strobe) addr v

/-- A register-bus write. -/
def State.busWrite (s : State) (acc : Acc) (addr v : Word) : State := s.busWriteAck acc addr v none

/-- The write of a block's register by its byte address. -/
def State.regWrite (s : State) (acc : Acc) (a : Nat) (v : Word) : State := s.busWrite acc (BitVec.ofNat 32 a) v

/-- A whole-word access of master `m` with good parity. -/
def Acc.whole (m : Fin 16) : Acc := { master := m, strobe := 0xF, addrFlips := 0, dataFlips := 0 }

end Sys2Proof.Machine
end

