-- ==== Sys2Proof/Machine/BinPort.lean ====
section
/-!
DEFINITION. The Binnacle port's reads, its writes to page 1 and its accesses to the register bus (R802, R806 to R814, R827 to R830).
-/
namespace Sys2Proof.Machine

/-! ### Reads and group latches (R802, R806) -/

/-- The _LO registers, each with its _HI partner at the next word: first address and instances. -/
def loRegs : List (Nat × List (Nat × Nat)) := [
  (WCH_SET_SEC_LO, []), (CFG_LANDFALL_EXCL_LO, []), (SCR_CRIT_PASSES_LO, []), (FIX_SET_SEC_LO, []), (LNK_PRBS_ERR_LO 0, [(0x400, 24)]),
  (LNK_PRBS_BITS_LO 0, [(0x400, 24)]), (LNK_RX_FRAMES_LO 0, [(0x400, 24)]), (LNK_TX_FRAMES_LO 0, [(0x400, 24)]),
  (LNK_TXTS_SEC_LO 0, [(0x400, 24)]), (PAGE_SLOTS_LO 0, [(0x1000, 16)]), (Q_CMP_LO 0, [(0x1000, 16)]), (SLOT_CTR_LO 0, [(0x10, 64)]),
  (CPH_LMD_SLOTS_LO, []), (CPH_CNT_OPS_LO, []), (GRD_PENDING_LO, []), (GRD_DEGRADED_LO, [])]

/-- The other words of the group whose first word is at `a`, each with the value it is latched with (R806). The words of a time
group are latched with the time of the first word. -/
def State.groupOf (s : State) (a : Nat) : List (Nat × Word) :=
  if a = WCH_TIME_SEC_LO then
    (if s.wch.up then [(WCH_TIME_SEC_HI, BitVec.ofNat 32 (s.wch.aSec / 2 ^ 32)), (WCH_TIME_NS, BitVec.ofNat 32 s.wch.aNs)] else [])
  else if a = FIX_TIME_SEC_LO then
    [(FIX_TIME_SEC_HI, BitVec.ofNat 32 (s.fix.sec / 2 ^ 32)), (FIX_TIME_NS, BitVec.ofNat 32 s.fix.ns),
     (FIX_TIME_FNS, BitVec.ofNat 32 (s.fix.frac / 2 ^ 16))]
  else if loRegs.any fun r => decide (r.1 ≤ a) && isInstance r.2 (a - r.1) then [(a + 4, s.view 12 (a + 4))]
  else []

/-- The byte address that a window word shows: page 1 the BIN registers, an aperture its page; none where it is unmapped. -/
def State.windowAddr (s : State) (a : BitVec 16) : Option Nat :=
  let p := bnPage a
  if p = 0 then none
  else if p = 1 then some (0x40160000 + bnOffset a)
  else if s.apReadBase p = 0 then none
  else some (s.apReadBase p + bnOffset a)

/-- A latched value of a window word. -/
def State.latched (s : State) (a : BitVec 16) : Option Word :=
  (s.bin.latches.flatten.find? (·.1 == a.toNat)).map (·.2)

/-- What a read of the window returns. -/
def State.windowWord (s : State) (a : BitVec 16) : Word :=
  if bnPage a = 0 then cellRead s.bin.mirror (a.toNat % 1024)
  else
    match s.latched a with
    | some v => v
    | none =>
      match s.windowAddr a with
      | some x => s.view 12 x
      | none => 0

/-- An aperture read of a group's first word latches the rest of the group. -/
def State.latchGroup (s : State) (a : BitVec 16) : State :=
  if bnPage a < 2 then s
  else
    match s.windowAddr a with
    | none => s
    | some x =>
      match s.groupOf x with
      | [] => s
      | g =>
        let keys := g.map fun (p : Nat × Word) => (a.toNat + (p.1 - x) / 4, p.2)
        let keep := s.bin.latches.filter fun l => l.all fun p => keys.all fun q => p.1 != q.1
        (s.withBin { s.bin with latches := keep ++ [keys] })

/-- BN_READ: `ecc` wrong bits in the word's shadow or mirror memory (R828). -/
def State.bnRead (s : State) (a : BitVec 16) (ecc : Nat) : State :=
  if !s.binOn then s
  else
    let w := s.windowWord a
    let ecc := if bnPage a = 1 then 0 else ecc
    let par := if ecc = 2 then ~~~bnParity a w else bnParity a w
    let s := (s.iff ((s.windowAddr a).any fun x => (gpioBank x).isSome && bnPage a != 0) (·.drawn)).emit (.bnData w par)
    let s := s.iff (ecc != 0) (·.shadowCheck (bnPage a) (bnOffset a) (ecc == 2))
    s.latchGroup a

/-! ### Writes (R808 to R812, R820) -/

/-- A write to page 1 acts at once, subject to R44 and the writers columns, outside the bus's arbitration (R809). -/
def State.page1Write (s : State) (a : BitVec 16) (d : Word) (be : BitVec 4) : State :=
  let x := 0x40160000 + bnOffset a
  let addr := BitVec.ofNat 32 x
  match rowOf x with
  | none => s
  | some r =>
    if !r.written then s
    else if !s.mayWrite r 12 x then s.finish 12 2 true addr 0
    else s.liveWrite r 12 x (strobed be) addr d

/-- BN_PAGE1_WRITE: checked for parity, then performed. -/
def State.bnPage1 (s : State) (a : BitVec 16) (d : Word) (be par : BitVec 4) : State :=
  if !s.binOn || bnPage a != 1 then s else s.bnChecked a d be par fun s => s.page1Write a d be

/-- BN_APERTURE_WRITE: checked for parity, then queued or dropped. -/
def State.bnAperture (s : State) (a : BitVec 16) (d : Word) (be par : BitVec 4) : State :=
  if !s.binOn || bnPage a < 2 then s else s.bnChecked a d be par fun s => s.apWrite a d be

/-! ### The queue's accesses (R808, R811, R813) -/

/-- A response other than DONE to a queued write (R811). -/
def State.queueError (s : State) (addr : Word) : State :=
  s.iff (s.busCode 12 != 0) fun s => s.binError (s.busCode 12) (some addr)

/-- WRITE_QUEUE_DRAIN: the oldest entry, where it is a posted write, completes on the bus as master 12. -/
def State.binDrain (s : State) : State :=
  match s.bin.queue with
  | .post addr d be :: rest =>
    if !s.binOn || !s.busTakes 12 then s
    else
      let s := s.busWrite { Acc.whole 12 with strobe := be } addr d
      (s.putBinQueue (rest ++ s.bin.queue.drop (rest.length + 1))).queueError addr
  | _ => s

/-- The indirect access at the front of the queue leaves it, completed. -/
def State.indLeave (s : State) (read : Bool) : State :=
  let s := s.putBinQueue (s.bin.queue.drop 1)
  let code := s.busCode 12
  let d := s.busData 12
  s.indDone code (if read then some d else none)

/-- An indirect access has been given to the bus: it leaves the queue unless the fabric has still to answer. -/
def State.indAnswered (s : State) (read : Bool) : State :=
  if s.bus.fs.any (·.1 == 12) then s else s.indLeave read

/-- IND_COMPLETE: the indirect access at the front of the queue goes to the bus as master 12; `ack` is the fabric's answer. -/
def State.indComplete (s : State) (ack : Option Word) : State :=
  if !s.binOn || !s.busTakes 12 then s
  else
    match s.bin.queue with
    | .indRead addr :: _ => (s.busReadAck 12 0 addr ack).indAnswered true
    | .indWrite addr d be :: _ => (s.busWriteAck { Acc.whole 12 with strobe := be } addr d ack).indAnswered false
    | _ => s

/-- The fabric's answer to an indirect access has timed out, so the access completes (R263, R813). -/
def State.indTimedOut (s : State) : State :=
  match s.bin.queue with
  | .indRead _ :: _ => s.indLeave true
  | .indWrite _ _ _ :: _ => s.indLeave false
  | _ => s

/-- FS_TIMEOUT of master `m`; that of master 12 completes the indirect access that waits for it. -/
def State.fsTimedOut (s : State) (m : Nat) : State :=
  if s.bus.fs.any (·.1 == m) then (s.fsTimeout m).iff (m == 12) (·.indTimedOut) else s

/-- Complete everything that the queue holds, oldest first; an access to the fabric window is not acknowledged (R829, R830). -/
def State.binFlush (s : State) : Nat → State
  | 0 => s
  | n + 1 =>
    match s.bin.queue with
    | [] => s
    | .post .. :: _ => (s.binDrain).binFlush n
    | _ =>
      let s := s.iff (s.bus.fs.any (·.1 == 12)) fun s => (s.fsEnd 12).indTimedOut
      (s.indComplete none).binFlush n

/-- HOST_MIRROR_WRITE: checked for parity, a host write to the mirror window (R816). -/
def State.bnMirror (s : State) (word : Nat) (d : Word) (be par : BitVec 4) (room : Bool) : State :=
  if !s.binOn then s
  else s.bnChecked (BitVec.ofNat 16 word) d be par fun s => s.mirrorHost word d be (room && s.portLive 13)

end Sys2Proof.Machine
end

