-- ==== Sys2Proof/Machine/MonCmd.lean ====
section
/-!
DEFINITION. The Watchkeeper's commands (Table MON-2): the lines they print, their accesses to the register bus as master 13, and a line
that spells no command (R836, R837, R839, R847 to R852). A command line that spells a command arrives as that command.
-/
namespace Sys2Proof.Machine

/-! ### Accesses -/

/-- Addresses that the Watchkeeper's commands take: the register space and the fabric user window. -/
def monRange (a : Nat) : Bool :=
  (decide (0x40000000 ≤ a) && decide (a < 0x40190000)) || (decide (0x50000000 ≤ a) && decide (a < 0x51000000))

/-- The words that `peek` and `fill` refuse: CFG_FUSE_DATA0–7 and K_DATA0–7 of every page (R849). -/
def monSecret (a : Nat) : Bool :=
  (decide (CFG_FUSE_DATA 0 ≤ a) && decide (a < CFG_FUSE_DATA 8)) ||
  (decide (0x400C0000 ≤ a) && decide (a < 0x400D0000) && decide (0x140 ≤ a % 4096) && decide (a % 4096 < 0x160))

/-- `n` word addresses from `a` up. -/
def wordsFrom (a n : Nat) : List Nat := (List.range n).map fun i => a + 4 * i

/-- The fabric answers an access of the Watchkeeper to its window, or the access times out: a free choice. -/
def State.monFabric (s : State) : State :=
  match s.bus.fs.find? (·.1 == 13) with
  | none => s
  | some x =>
    if s.draw % 2 = 0 then s.drawn.fsTimeout 13
    else
      let t := s.drawn.drawn.withBus { s.bus with fs := s.bus.fs.filter (·.1 != 13) }
      t.finish 13 0 x.2.1 (BitVec.ofNat 32 x.2.2.1) (if x.2.1 then 0 else BitVec.ofNat 32 s.drawn.draw)

/-- A write of all four bytes by the Watchkeeper. -/
def State.monWrite (s : State) (a : Nat) (v : Word) : State := (s.regWrite (Acc.whole 13) a v).monFabric

/-- A word as `peek` and the listings read it: no side effect but the snapshots (R848). -/
def State.monRead (s : State) (a : Nat) : Word × State :=
  if blockOf a = some 20 then
    let t := (s.busRead 13 0 (BitVec.ofNat 32 a)).monFabric
    (t.busData 13, t)
  else (s.view 13 a, (s.looked a).iff (s.domainUp a) (·.snapshots 13 a))

/-- The line of one word. -/
def wordLine (a : Nat) (v : Word) : String := hex32 a ++ ": " ++ hex32 v.toNat

/-- Print one line per word address. -/
def State.monList (s : State) (as : List Nat) : State :=
  s.each as fun s a => (s.monRead a).2.say (wordLine a (s.monRead a).1)

/-- OK and the prompt; an erase of slot 63 by the command ends Control level first (R855). -/
def State.monDone (s : State) : State := s.monSlotCheck.monOk

/-- The response name that follows `ERR 0x06 BUS`. -/
def respName (code : Nat) : String :=
  match code with
  | 1 => " NOMAP"
  | 2 => " PERMERR"
  | _ => " PARERR"

/-- Writes in order, stopping at the first that completes other than DONE, then the status line (R847). -/
def State.monWrites (s : State) : List (Nat × Word) → State
  | [] => s.monDone
  | (a, v) :: rest =>
    let t := s.monWrite a v
    if t.busCode 13 = 0 then t.monWrites rest else t.monErr 0x06 (respName (t.busCode 13))

/-! ### Observe commands -/

/-- The commands of Table MON-2 with their syntax. -/
def monSyntax : List (String × String) := [
  ("help", "help [cmd]"), ("login", "login [resp | off]"), ("status", "status"), ("peek", "peek addr [n]"), ("poke", "poke addr value"),
  ("fill", "fill addr n value"), ("fault", "fault [clear]"), ("log", "log [n | pinned]"), ("lanes", "lanes [lane]"),
  ("eye", "eye lane p0 p1 v0 v1 dwell"), ("sound", "sound [set s | apply s off gain skew bw | force slice]"),
  ("bands", "bands pll [e code fmin fmax]"), ("fix", "fix"), ("image", "image [audit p|g | reload p|g]"),
  ("partial", "partial [load region bank | cancel]"), ("slots", "slots [s | erase 63 | zero]")]

/-- The bytes of a text. -/
def textOf (t : String) : List Byte := t.toList.map fun c => BitVec.ofNat 8 c.toNat

/-- `help`. -/
def State.monHelp (s : State) (cmd : Option (List Byte)) : State :=
  match cmd with
  | none => (s.each monSyntax fun s c => s.say c.2).monOk
  | some t =>
    match monSyntax.find? fun c => textOf c.1 == t with
    | some c => (s.say c.2).monOk
    | none => s.monErr 0x01 ""

/-- `status`. -/
def State.monStatus (s : State) : State :=
  ((s.monList [SYS_ID, SYS_SERVICE, PWR_STATE, CFG_STATUS]).say (if s.healthHigh then "HEALTH: 1" else "HEALTH: 0")).monOk

/-- `peek`. -/
def State.monPeek (s : State) (a n : Nat) : State :=
  if a % 4 ≠ 0 ∨ n = 0 ∨ 64 < n ∨ !((wordsFrom a n).all monRange) then s.monErr 0x03 ""
  else if (wordsFrom a n).any monSecret then s.monRefuse
  else (s.monList (wordsFrom a n)).monOk

/-- `fault`: the state of the guarantee unit, and a line per pending class. -/
def State.monFault (s : State) : State :=
  let s := s.monList [GRD_STATUS, GRD_FIRST, GRD_LAST, GRD_PENDING_LO, GRD_PENDING_HI, GRD_DEGRADED_LO, GRD_DEGRADED_HI, GRD_CNT_MASKED,
    GRD_CNT_DETECTED, GRD_CNT_REPEATS]
  (s.each ((List.range 44).filter fun n => s.bit (pendingFld n)) fun s n => s.say ("pending 0x" ++ hexUpper 2 n)).monOk

/-- The bytes of a log entry as its registers read. -/
def State.logEntry (s : State) (i : Nat) : List Byte := ((List.range 8).map fun w => leBytes 4 (s.view 13 (LOG_ENTRY i w)).toNat).flatten

/-- One line of `log`: the entry's bytes, and whether its CRC holds (R146). -/
def State.logLine (s : State) (i : Nat) : State :=
  let e := s.logEntry i
  (s.emit (.textBytes e)).say (if crc32 (e.take 28) == leWord (e.drop 28) then "crc ok" else "crc bad")

/-- `log`: the newest `n` entries of the ring, newest first, or the pinned area. -/
def State.monLogCmd (s : State) (pinned : Bool) (n : Nat) : State :=
  if pinned then (s.each (List.range (bitsOf (s.view 13 LOG_PIN) 0 8)) fun s i => s.logLine (896 + i)).monOk
  else if n = 0 ∨ 1024 < n then s.monErr 0x03 ""
  else
    let head := (s.view 13 LOG_HEAD).toNat
    (s.each (List.range (min n 896)) fun s i => s.logLine ((head + 895 - i) % 896)).monOk

/-- `lanes`: mode, status, bring-up state, drop and loss counts of one lane or of all. -/
def State.monLanes (s : State) (lane : Option Nat) : State :=
  let regs (n : Nat) : List Nat :=
    [LNK_CFG n, LNK_STATUS n, LNK_BRG_STATE n, LNK_RX_DROPS n, LNK_TX_DROPS n, LNK_TXTS_LOST n, LNK_LOS_COUNT n]
  match lane with
  | some n => if 24 ≤ n then s.monErr 0x03 "" else (s.monList (regs n)).monOk
  | none => (s.monList ((List.range 24).flatMap regs)).monOk

/-- `sound`. -/
def State.monSound (s : State) (set : Option Nat) : State :=
  match set with
  | none => (s.monList [SMP_RF_MAP, SMP_LINE_MAP, SMP_FAULT, SMP_STATUS]).monOk
  | some k => if 12 ≤ k then s.monErr 0x03 "" else (s.monList (wordsFrom (SMP_SET k 0) 4)).monOk

/-- `bands`: the 64 entries, the one in use marked. -/
def State.monBands (s : State) (n : Nat) : State :=
  if 11 ≤ n then s.monErr 0x03 ""
  else
    (s.each (List.range 64) fun s e =>
      let t := hex32 (s.word (PLL_BAND0 n e)).toNat ++ " " ++ hex32 (s.word (PLL_BAND1 n e)).toNat ++ " " ++
        hex32 (s.word (PLL_BAND2 n e)).toNat
      s.say (if s.bandInUse n e then t ++ " *" else t)).monOk

/-- `fix`. -/
def State.monFix (s : State) : State := (s.monList [FIX_STATE, FIX_SRC_STATUS, FIX_OFFSET, FIX_SIGMA]).monOk

/-- `image`. -/
def State.monImage (s : State) (frames : Bool) : State :=
  if frames then s.monRefuse
  else (s.monList [CFG_STATUS, CFG_ERR_PRIMARY, CFG_ERR_GOLDEN, CFG_IMAGE_VER, CFG_AUDIT_STATUS]).monOk

/-- `partial`. -/
def State.monPartial (s : State) : State := (s.monList [SCR_PR_STATUS, SCR_PR_STATE]).monOk

/-- `slots`. -/
def State.monSlots (s : State) (slot : Option Nat) (key : Bool) : State :=
  if key then s.monRefuse
  else
    match slot with
    | some k => if 64 ≤ k then s.monErr 0x03 "" else (s.monList (wordsFrom (SLOT_INFO k) 4)).monOk
    | none => (s.monList (wordsFrom (SLOT_INFO 0) 256)).monOk

/-! ### Control commands -/

/-- `poke`. -/
def State.monPoke (s : State) (a : Nat) (v : Word) : State :=
  if a % 4 ≠ 0 then s.monErr 0x03 "" else s.monWrites [(a, v)]

/-- `fill`. -/
def State.monFill (s : State) (a n : Nat) (v : Word) : State :=
  if a % 4 ≠ 0 ∨ n = 0 ∨ 1024 < n ∨ 0x100000000 < a + 4 * n then s.monErr 0x03 ""
  else if (wordsFrom a n).any monSecret then s.monRefuse
  else s.monWrites ((wordsFrom a n).map fun x => (x, v))

/-- `fault clear`. -/
def State.monFaultClear (s : State) : State := s.monWrites [(GRD_CMD, cmdWord guardKey 1)]

/-- `sound apply`: the limits of R557 are checked before any access. -/
def State.monSoundApply (s : State) (k : Nat) (c : CoefSet) : State :=
  if !(s.inService && s.radioPowered) then s.monErr 0x0E ""
  else if 12 ≤ k || !coefInLimits c then s.monErr 0x03 ""
  else
    s.monWrites [(SMP_STAGE_OFFSET, BitVec.ofNat 32 (unsigned 16 c.offset)), (SMP_STAGE_GAIN, BitVec.ofNat 32 c.gain),
      (SMP_STAGE_SKEW, BitVec.ofNat 32 (unsigned 16 c.skew)), (SMP_STAGE_BW, BitVec.ofNat 32 (unsigned 16 c.bw)),
      (SMP_COEF_CMD, cmdWord guardKey (k * 256 + 1))]

/-- `sound force`. -/
def State.monSoundForce (s : State) (g : Nat) : State :=
  if 8 ≤ g then s.monErr 0x03 "" else s.monWrites [(SMP_COEF_CMD, cmdWord guardKey (g * 256 + 2))]

/-- `bands pll e code fmin fmax`. -/
def State.monBandsWrite (s : State) (n e code : Nat) (fmin fmax : Word) : State :=
  if 11 ≤ n ∨ 64 ≤ e ∨ 64 ≤ code then s.monErr 0x03 ""
  else s.monWrites [(PLL_BAND0 n e, BitVec.ofNat 32 (2 ^ 31 + code)), (PLL_BAND1 n e, fmin), (PLL_BAND2 n e, fmax)]

/-- `image audit`. -/
def State.monImageAudit (s : State) (golden : Bool) : State :=
  s.monWrites [(CFG_CMD, cmdWord guardKey (if golden then 7 else 3))]

/-- `image reload`. -/
def State.monImageReload (s : State) (golden : Bool) : State :=
  s.monWrites [(CFG_CMD, cmdWord guardKey (if golden then 2 else 1))]

/-- `partial load`. -/
def State.monPartialLoad (s : State) (region bank : Nat) : State :=
  if 16 ≤ region ∨ 112 ≤ bank then s.monErr 0x03 ""
  else if !s.released then s.monErr 0x0E ""
  else if s.prBusy then s.monErr 0x0D ""
  else s.monWrites [(SCR_PR_SRC, BitVec.ofNat 32 bank), (SCR_PR_CMD, cmdWord guardKey (region * 16 + 1))]

/-- `partial cancel`. -/
def State.monPartialCancel (s : State) : State := s.monWrites [(SCR_PR_CMD, cmdWord guardKey 2)]

/-- `slots erase 63`. -/
def State.monSlotsErase (s : State) : State := (s.slotErase 63).monDone

/-- `slots zero`. -/
def State.monSlotsZero (s : State) : State := s.monWrites [(CPH_ZERO, cmdWord guardKey 1)]

/-! ### The eye scan (R851) -/

/-- Integers from `lo` to `hi`. -/
def intsFrom (lo hi : Int) : List Int := (List.range (hi - lo + 1).toNat).map fun (i : Nat) => lo + (i : Int)

/-- LNK_EYE_CTRL of one point, START set. -/
def eyeWord (dwell : Nat) (p : Int × Int) : Word :=
  BitVec.ofNat 32 (2 ^ 31 + dwell % 16 * 2 ^ 16 + unsigned 8 p.2 * 2 ^ 8 + unsigned 7 p.1)

/-- Scan the next point, or end the command. -/
def State.eyePoint (s : State) (lane dwell : Nat) (ps : List (Int × Int)) : State :=
  match ps with
  | [] => (s.setMon fun m => { m with eye := none }).monOk
  | p :: _ =>
    let fail (s : State) : State := s.setMon fun m => { m with eye := none }
    if s.bit (LNK_EYE_CTRL_START lane) then (fail s).monErr 0x0D ""
    else
      let t := (s.setMon fun m => { m with eye := some (lane, dwell, ps) }).monWrite (LNK_EYE_CTRL lane) (eyeWord dwell p)
      if t.busCode 13 = 0 then t else (fail t).monErr 0x06 (respName (t.busCode 13))

/-- `eye`. -/
def State.monEye (s : State) (lane : Nat) (p0 p1 v0 v1 : Int) (dwell : Nat) : State :=
  let ps := (intsFrom p0 p1).flatMap fun p => (intsFrom v0 v1).map fun v => (p, v)
  let bad := decide (24 ≤ lane) || decide (p0 < -32) || decide (p1 < p0) || decide (31 < p1) || decide (v0 < -128) || decide (v1 < v0) ||
    decide (127 < v1) || decide (15 < dwell)
  if bad || decide (4096 < ps.length) then s.monErr 0x03 ""
  else if !s.bit (LNK_STATUS_UP lane) then s.monErr 0x0E ""
  else s.eyePoint lane dwell ps

/-- A point's line: `p=-32 v=0 0x00_4A3B`. -/
def eyeLine (p : Int × Int) (errors : Nat) : String :=
  "p=" ++ toString p.1 ++ " v=" ++ toString p.2 ++ " 0x" ++ hexUpper 2 (errors / 65536) ++ "_" ++ hexUpper 4 errors

/-- A scan point of a lane is done; the Watchkeeper's command prints it and goes on. -/
def State.eyeScanned (s : State) (lane errors : Nat) : State :=
  if !s.bit (LNK_EYE_CTRL_START lane) then s
  else
    let s := s.eyeDone lane errors
    match s.mon.eye with
    | some (n, dwell, p :: rest) =>
      if n = lane then (s.say (eyeLine p (s.get (LNK_EYE_RESULT_ERRORS lane)))).eyePoint lane dwell rest else s
    | _ => s

/-! ### A line that spells no command (R836, R839) -/

/-- The line as its editing characters leave it, and the number of characters beyond 128. -/
def editLine : List Byte → List Byte → Nat → List Byte × Nat
  | [], acc, drops => (acc.reverse, drops)
  | c :: rest, acc, drops =>
    if c = 0x08 ∨ c = 0x7F then editLine rest (acc.drop 1) drops
    else if acc.length < 128 then editLine rest (c :: acc) drops
    else editLine rest acc (drops + 1)

/-- The first token of a line. -/
def firstToken (line : List Byte) : List Byte := (line.dropWhile (· == 0x20)).takeWhile (· != 0x20)

/-- A line that is empty, too long or no command. -/
def State.commandLine (s : State) (line : List Byte) (framing : Nat) : State :=
  if !s.monRuns then s
  else if s.mon.eye.isSome then s.monDiscard (line.length + framing)
  else
    let (kept, drops) := editLine line [] 0
    let s := s.iff (framing + drops != 0) (·.monDiscard (framing + drops))
    let s := s.iff (s.bit MON_CFG_ECHO) (·.emit (.textBytes line))
    let t := firstToken kept
    if drops ≠ 0 then s.monErr 0x0C ""
    else if t.isEmpty then s.monPrompt
    else
      match monSyntax.find? fun c => textOf c.1 == t with
      | none => s.monErr 0x01 ""
      | some c =>
        let s := s.modInc MON_CMD_COUNT_COUNT
        if (c.1 == "poke" || c.1 == "fill" || c.1 == "eye") && !s.monControl then s.monErr 0x04 "" else s.monErr 0x02 ""

end Sys2Proof.Machine
end

