-- ==== Sys2Proof/Machine/Rel.lean ====
section
/-!
DEFINITION. The retention switch, the wake timeline, the releases of the fabric, and the start of a reload (R57, R67 to R75, R83 to R100,
R181 to R192, R245, R264, R311, R315, R520, R791, R829, R857, R863, R876, R893).
-/
namespace Sys2Proof.Machine

/-! ### The retention switch (R74, R75, R78) -/

/-- Every drain action has finished: no cipher operation runs, a partial load has reached its END, the Binnacle port's queue and the
register bus are idle, and the grace time is over (R58, R74, R830). -/
def State.drained (s : State) : Bool :=
  s.pwr.graceOver && (s.cph.directs ++ s.cph.queue).all (·.dp == 0) && s.bin.queue.isEmpty && s.bus.fs.isEmpty &&
  s.get SCR_PR_STATE_PHASE != 2 && s.get SCR_PR_STATE_PHASE != 3

/-- WATCH_DRAIN_END, `us` after the accepted trigger: the retention switch. A reload held from the drain then leaves the Watch state
(R96). -/
def State.watchDrainEnd (s : State) (us : Nat) : State :=
  if !(s.dev == .draining && s.pwr.drain == 1 && s.drained) then s
  else
    let s := s.setPwr fun p => { p with lines := s.linesNow }
    let s := (s.put PWR_TIMES_DRAIN (min us 65535)).satInc PWR_WATCH_COUNT_COUNT PWR_WATCH_COUNT_OVF
    let s := s.drainSweep.pinRetention.nvmCut.fixStop.pllRetention
    let s := s.monRetention.brgRetention.bcdRetention.lmdRetention
    let s := ((s.withFix { s.fix with oscOk := false }).withBin { s.bin with latches := [] }).setFab fun f => { f with fixes := [] }
    let s := (s.enter .watch).setPwr fun p => { p with drain := 0, wake := 0, lateAt := 0 }
    s.iff (s.pwr.reload != 0) (·.leaveWatch)

/-! ### The wake timeline (R83 to R87, R99, Table PWR-5) -/

/-- What holds a wake event off (R83, R84): WATCH_N low with PIN_EN, the comparator low with VMON_EN, or VCC_CORE outside its limits. -/
def State.wakeHeld (s : State) : Bool :=
  (s.pwr.watchNLow && s.bit PWR_WATCH_CFG_PIN_EN) || (s.pwr.vmonLow && s.bit PWR_WATCH_CFG_VMON_EN) || !s.railOk 0

/-- WAKE_EVENT, one cycle of the watch clock with WATCH_N at the level `watchN`; `vmonRose` and `pinRose` are edges that this cycle
finds. A cause that is enabled stays present until a wake event; the event falls where nothing holds it off, and records every cause
then present (R83, R84). -/
def State.wakeEvent (s : State) (vmonRose pinRose watchN : Bool) : State :=
  if s.dev != .watch || s.pwr.wake != 0 || s.pwr.leaving then s
  else
    let s := s.iff vmonRose (·.vmonRise)
    let s := s.setPwr fun p => { p with watchNLow := !(pinRose || watchN) }
    let s := s.iff (vmonRose && s.bit PWR_WAKE_CFG_VMON) (·.wakeCause 1)
    let s := s.iff (pinRose && s.bit PWR_WAKE_CFG_PIN) (·.wakeCause 0)
    let causes := s.pwr.causes.toNat &&& bitsOf (s.word PWR_WAKE_CFG) 0 4
    if causes = 0 || s.wakeHeld then s
    else (s.put PWR_STATUS_WAKE_CAUSE causes).setPwr fun p => { p with wake := 1, causes := 0, lateAt := 0 }

/-- Phase `p` of the timeline ends and the next one starts. -/
def State.wakeNext (s : State) (p : Nat) : State := s.setPwr fun q => { q with wake := p + 1 }

/-- The timeline stands in phase `p`. -/
def State.wakeIn (s : State) (p : Nat) : Bool := s.dev == .watch && s.pwr.wake == p && !s.pwr.leaving

/-- WAKE_CORE_SWITCHED; a tamper erase that waited is carried out (R122). -/
def State.wakeCoreSwitched (s : State) : State := s.iff (s.wakeIn 1) fun s => (s.wakeNext 1).tamperErase

/-- The references that a wake waits for: OSC_LOCAL_IN, the LREF of every lane group with a lane in use (R86, R384), and the LREF that an
enabled LPLL selects, since a failover ends at a wake (R391). -/
def State.refsInUse (s : State) : List Nat :=
  0 :: ((List.range 4).filter fun g =>
    ((List.range 6).any fun i => s.get (LNK_CFG_MODE (g * 6 + i)) != 0) ||
    (s.bit (PLL_CFG_EN (8 + g / 2)) && s.get (PLL_CFG_REFSEL (8 + g / 2)) == g % 2)).map (· + 1)

/-- WAKE_REFS_QUALIFIED: the PLLs start to relock. -/
def State.wakeRefsQualified (s : State) : State :=
  s.iff (s.wakeIn 2 && s.refsInUse.all fun r => s.refOk r) fun s => (s.wakeNext 2).pllWake

/-- The PLL that a wake waits for has not locked or not unmuted. -/
def State.pllLate (s : State) (n : Nat) : Bool := s.pllOn n && !(s.bit (PLL_STATUS_LOCKED n) && !s.bit (PLL_STATUS_MUTED n))

/-- Every PLL that relocks is locked and unmuted. -/
def State.wakePllsOk (s : State) : Bool := !(List.range 11).any s.pllLate

/-- WAKE_PLLS_LOCKED. -/
def State.wakePllsLocked (s : State) : State := s.iff (s.wakeIn 3 && s.wakePllsOk) (·.wakeNext 3)

/-- WAKE_SCRUB_DONE. -/
def State.wakeScrubDone (s : State) : State := s.iff (s.wakeIn 4) (·.wakeNext 4)

/-- WAKE_PHASE_LATE: WAKE_LATE, and the fault of the lowest-numbered unit that has not finished (R87, R99). `copy` is the housekeeping
copy that had not agreed, `us` the length of the scrub so far (Table GRD-2). -/
def State.wakePhaseLate (s : State) (copy us : Nat) : State :=
  if s.dev != .watch || s.pwr.leaving || s.pwr.wake == s.pwr.lateAt then s
  else
    let late (s : State) : State := (s.set PWR_STATUS_WAKE_LATE).setPwr fun p => { p with lateAt := p.wake }
    match s.pwr.wake with
    | 1 => ((late s).report 1 (copy % 3) (8 + s.draw % 256 * 256)).drawn
    | 2 =>
      match s.refsInUse.find? fun r => !s.refOk r with
      | some r => (late s).report 19 r 0
      | none => s
    | 3 =>
      match (List.range 11).find? s.pllLate with
      | some n => (late s).report 18 n 0
      | none => s
    | 4 => (late s).report 10 0 us
    | _ => s

/-- Faults found in the Watch domain while the guarantee clock stood become pending at a release (R876). -/
def State.lateFaults (s : State) : State :=
  let ns := s.wch.late
  let s := s.withWch { s.wch with late := [] }
  s.each ns fun s n => s.report n 0 0

/-- FABRIC_CLOCK_RELEASE, `us` after the wake event: every block restarts as its chapter says, WAKE_DONE rises, and triggers that have
waited start their drain (R70, R85, R88). -/
def State.fabricClockRelease (s : State) (us : Nat) : State :=
  if !s.wakeIn 5 then s
  else
    let s := (s.enter .running).setPwr fun p => { p with wake := 0, watchPending := false, wakeDone := true, graceOver := false, lateAt := 0 }
    let s := s.put PWR_TIMES_WAKE (min us 65535)
    let s := s.streamsEmpty.sweepsStart.prWake.scrubStart.seedDevice
    let s := s.iff s.lanePowered fun s => (((s.domainSettings .lane).each (List.range 24) fun s n => s.laneStart n)).brgStart
    let s := s.iff s.radioPowered fun s =>
      let s := s.domainSettings .radio
      let s := (s.smpResume true).smpResume false
      let s := if s.spllOk then s.rxcRestart else s.rxcMute
      s.bcdResume.lmdStart
    let s := s.sptRelease.monWake.pinRelease
    let s := s.apAllFilled
    s.lateFaults.pendingTriggers

/-! ### The start of a reload -/

/-- Every access that waits for the fabric completes (R264). -/
def State.fsFlush (s : State) : State := s.each s.bus.fs fun s x => (s.fsEnd x.1).iff (x.1 == 12) (·.indTimedOut)

/-- Everything that the start of a reload does before the load begins. -/
def State.reloadClear (s : State) : State :=
  let s := s.monReload.prStop.auditAbort.nvmCut
  let s := ((s.clr SYS_SERVICE_IMAGE_LOADED).clr SYS_SERVICE_FABRIC_RELEASED).clr SYS_SERVICE_LANDFALL
  let s := s.fabReload.streamsEmpty.fsFlush
  let s := s.binFlush 17
  let s := s.grdReload
  let s := (s.each (List.range 24) fun s n => s.laneIdle n).portsUpdate
  let s := s.landfallClear.pinHighZ.sptUnload.apReset.mirrorClear.fixStop.wearAbandon.cphZeroize
  let s := s.imageClear
  let s := s.each (List.range 8) fun s d => s.ddcEnable d
  let s := s.setLoad fun l => { l with auditDone := false }
  s.setPwr fun p => { p with drain := 0, reload := 0, leaving := false, wake := 0, causes := 0, watchPending := false, wakeDone := false,
                             graceOver := false, lateAt := 0, vmonLow := false, vmonFiltered := false, stale := 0 }

/-- The load of a reload begins: MODE is sampled (R149), and the Watchkeeper runs on where MON_EN is high. -/
def State.reloadBegin (s : State) (mode : BitVec 3) : State :=
  let golden := s.pwr.reload == 2
  let s := s.reloadClear.setPwr fun p => { p with mode := mode }
  let s := s.monStrap.loadBegin mode golden
  s.iff s.monRuns (·.monPrompt)

/-- RELOAD_START: the drain has ended, or the load that ran has been aborted, and RELOAD_N is high (R186, R191, R208). -/
def State.reloadStart (s : State) (mode : BitVec 3) : State :=
  let ready := (s.dev == .draining && s.pwr.drain == 2 && (s.cph.directs ++ s.cph.queue).all (·.dp == 0)) || s.dev == .loading || s.dev == .halted
  if s.pwr.reload == 0 || s.pwr.reloadLow || !ready then s else s.reloadBegin mode

/-- COLD_LOAD_START: the Watch state is left through Loading, with VCC_CORE within limits; the retained configuration is cleared (R89).
A tamper erase that has waited follows the reload's own zeroization, so that TAMPER_ERASE counts no slot: the spec orders the two no
further than 'before fabric release' (DESIGN CHOICE, log entry 63). -/
def State.coldLoadStart (s : State) (mode : BitVec 3) : State :=
  if !(s.dev == .watch && s.pwr.leaving) || s.pwr.reloadLow || !s.railOk 0 then s
  else
    let s := s.setFab fun f => { f with frames := [], upsets := [] }
    ((s.set PWR_STATUS_FROM_WATCH_RELOAD).reloadBegin mode).tamperErase

/-! ### Fabric release (R55, R56, R181, R184, R189) -/

/-- FABRIC_RELEASE, `us` after the load began: the end phase is over, every PLL that is waited for has locked. -/
def State.fabricRelease (s : State) (us : Nat) : State :=
  if !(s.inPhase 3 && s.pllsLocked) then s
  else
    let h := s.load.reader.header
    let s := (s.enter .running).put CFG_STATUS_PHASE 4
    let s := ((s.set CFG_STATUS_DONE).putB CFG_STATUS_DEV_IMAGE (!hdrEnc h)).putB CFG_STATUS_GUARDED s.load.guarded
    let s := (s.putB GRD_STATUS_GUARDED s.load.guarded).setPwr fun p => { p with graceOver := false }
    let s := (s.set SYS_SERVICE_IMAGE_LOADED).set SYS_SERVICE_FABRIC_RELEASED
    let s := (s.put CFG_IMAGE_VER_VERSION (hdrVersion h)).put CFG_LOAD_TIME_US us
    let s := s.setLoad fun l => { l with reader := Reader.empty, staged := Staged.empty }
    let s := s.streamsEmpty.fabRelease.seedDevice
    let s := s.pinRelease.sptBegin.sptRelease
    let s := s.iff s.lanePowered (·.domainServe .lane)
    let s := s.iff s.radioPowered (·.domainServe .radio)
    let s := (s.set BIN_STATUS_MIRROR_LIVE).landfallStart
    s.monRelease.armRails.lateFaults.pendingTriggers

end Sys2Proof.Machine
end

