-- ==== Sys2Proof/Machine/Act.lean ====
section
/-!
DEFINITION. How a command's effect becomes its outcome: what the last command sent out is dropped, the effect is applied, and the levels
that follow the state are brought up to date.
-/
namespace Sys2Proof.Machine

/-- Everything that reacts at once to a change of a register, a key slot, a PLL or a rail: the Watchkeeper's session (R846, R519), work
submitted in a drain (R73), the broadcast contexts and scan DDCs (R608, R635), and the line modem's channels (R722). -/
def State.refresh (s : State) : State :=
  let s := s.monSlotCheck.monChallenge.monBaud
  let s := s.iff (s.dev == .draining) (·.drainSweep)
  s.bcdRefresh.scanAssign.lmdRefresh

/-- The outcome of a command whose effect stays within its own block. -/
def act (f : State → State) (s : State) : Host.Outcome State Fault Refusal := .next (f (s.withOut [])).settle

/-- The outcome of a command whose effect other blocks react to. -/
def actAll (f : State → State) (s : State) : Host.Outcome State Fault Refusal := .next (f (s.withOut [])).refresh.settle

/-- The Watch domain is supplied: its commands act. -/
def State.onWatch (s : State) (f : State → State) : State := s.iff s.wch.up f

end Sys2Proof.Machine
end

