-- ==== Sys2Proof/Machine/BearingCmds.lean ====
section
/-! DEFINITION. The commands of the Bearing link and of landfall (R425 to R476, R200 to R206). -/
namespace Sys2Proof.Machine

/-- HELLO_FRAME (R435). -/
def execHelloFrame (port : Fin 4) (second : Bool) (frame : List Byte) := actAll fun s => s.brgFrameIn port.val second frame false true

/-- PORT_KEYED (R427). -/
def execPortKeyed (port : Fin 4) := actAll fun s => s.portKeyed port.val

/-- REKEY_TRIGGER (R440). -/
def execRekeyTrigger (port : Fin 4) := actAll fun s => s.rekeyTrigger port.val

/-- BRG_REKEY: a write of BRG_CMD (R440). -/
def execBrgRekey (a : Acc) (key : BitVec 16) (ports : BitVec 4) := actAll fun s => s.regWrite a BRG_CMD (cmdWord key ports.toNat)

/-- REKEY_FRAME (R440). -/
def execRekeyFrame (port : Fin 4) (second : Bool) (frame : List Byte) := actAll fun s => s.brgFrameIn port.val second frame false true

/-- REKEY_ACK_FRAME (R440). -/
def execRekeyAckFrame (port : Fin 4) (second : Bool) (frame : List Byte) := actAll fun s =>
  s.brgFrameIn port.val second frame false true

/-- OLD_SLOT_ERASE (R440). -/
def execOldSlotErase (port : Fin 4) := actAll fun s => s.oldSlotErase port.val

/-- REKEY_RETRY (R442). -/
def execRekeyRetry (port : Fin 4) := actAll fun s => s.rekeyRetry port.val

/-- BRG_DATA_FRAME (R439, R448 to R456); the stream port of an isolated region has no room. -/
def execBrgDataFrame (port : Fin 4) (second : Bool) (frame : List Byte) (aborted room : Bool) := actAll fun s =>
  s.brgFrameIn port.val second frame aborted (room && s.portLive 7)

/-- The code of a class in the frame header (Table BRG-1). -/
def brgClassCode : BrgClass → Nat
  | .trip => 0
  | .sample => 1
  | .bulk => 2
  | .time => 3

/-- BRG_TX_SUBMIT (R457, R449). -/
def execBrgTxSubmit (cls : BrgClass) (dst : Fin 64) (bcast : Bool) (channel : Fin 16) (tag : Byte) (payload : List Byte) := actAll fun s =>
  s.iff (s.portLive 7) (·.brgSubmit (brgClassCode cls) dst.val bcast channel.val tag.toNat payload)

/-- BRG_TX_START (R451). -/
def execBrgTxStart (port : Fin 4) := actAll fun s => s.brgTxStart port.val

/-- BRG_CANCEL (R458). -/
def execBrgCancel (cls : BrgClass) (tag : Byte) := actAll fun s => s.iff (s.portLive 7) (·.brgCancel (brgClassCode cls) tag.toNat)

/-- TIME_REQ_TIMER (R459). -/
def execTimeReqTimer (port : Fin 4) := actAll fun s => s.timeReqTimer port.val

/-- TIME_REQ_FRAME (R459). -/
def execTimeReqFrame (port : Fin 4) (second : Bool) (frame : List Byte) := actAll fun s => s.brgFrameIn port.val second frame false true

/-- TIME_RESP_FRAME (R462). -/
def execTimeRespFrame (port : Fin 4) (second : Bool) (frame : List Byte) := actAll fun s =>
  s.brgFrameIn port.val second frame false true

/-- MASTER_TIMEOUT (R460). -/
def execMasterTimeout (port : Fin 4) := actAll fun s => s.masterTimeout port.val

/-- READY_TIMER (R464). -/
def execReadyTimer := actAll fun s => s.readyTimer

/-- READY_FRAME (R202). -/
def execReadyFrame (src : Fin 64) (version : Word) (golden : Bool) := actAll fun s => s.readyFrame src.val version.toNat golden

/-- LANDFALL_TIMEOUT (R203). -/
def execLandfallTimeout := actAll fun s => s.landfallTimeout

/-- LANDFALL_FRAME (R204). -/
def execLandfallFrame (excluded : BitVec 64) := actAll fun s => s.landfallIn excluded.toNat

/-- LANDFALL_REPEAT (R465). -/
def execLandfallRepeat := actAll fun s => s.landfallRepeat

/-- BRG_ADMIT: a write of BRG_ADMIT (R467). -/
def execBrgAdmit (a : Acc) (key : BitVec 16) (id : Fin 64) := actAll fun s => s.regWrite a BRG_ADMIT (cmdWord key id.val)

/-- ADMIT_FRAME (R468). -/
def execAdmitFrame (id : Fin 64) := actAll fun s => s.admitIn id.val

/-- PORT_DOWN (R469). -/
def execPortDown (port : Fin 4) := actAll fun s => s.portDown port.val

end Sys2Proof.Machine
end

