-- ==== Sys2Proof/Machine/BinnacleCmds.lean ====
section
/-! DEFINITION. The commands of the Binnacle port (R798 to R830). -/
namespace Sys2Proof.Machine

/-- BN_READ (R805 to R807, R828). -/
def execBnRead (bnA : BitVec 16) (eccErrors : Fin 3) := actAll fun s => s.bnRead bnA eccErrors.val

/-- BN_APERTURE_WRITE (R808, R810, R820). -/
def execBnApertureWrite (bnA : BitVec 16) (data : Word) (be : BitVec 4) (par : BitVec 4) := actAll fun s => s.bnAperture bnA data be par

/-- BN_PAGE1_WRITE (R809, R820). -/
def execBnPage1Write (bnA : BitVec 16) (data : Word) (be : BitVec 4) (par : BitVec 4) := actAll fun s => s.bnPage1 bnA data be par

/-- WRITE_QUEUE_DRAIN (R808, R811). -/
def execWriteQueueDrain := actAll fun s => s.binDrain

/-- BIN_IND_READ: the host's write of BIN_IND_CMD with OP = READ (R812). -/
def execBinIndRead := actAll fun s => s.iff s.binOn (·.page1Write 0x040E 1 0xF)

/-- BIN_IND_WRITE: the host's write of BIN_IND_CMD with OP = WRITE and its strobes (R812). -/
def execBinIndWrite (strobe : BitVec 4) := actAll fun s =>
  s.iff s.binOn (·.page1Write 0x040E (BitVec.ofNat 32 (2 + strobe.toNat * 16)) 0xF)

/-- IND_COMPLETE (R813). -/
def execIndComplete (ack : Option Word) := actAll fun s => s.indComplete ack

/-- MIRROR_WRITE (R815); the port of an isolated region is ignored. -/
def execMirrorWrite (word : BitVec 10) (data : Word) (be : BitVec 4) := act fun s =>
  s.iff (s.portLive 13) (·.mirrorPut word.toNat data be)

/-- HOST_MIRROR_WRITE (R816, R820). -/
def execHostMirrorWrite (word : BitVec 10) (data : Word) (be : BitVec 4) (par : BitVec 4) (room : Bool) := act fun s =>
  s.bnMirror word.toNat data be par room

/-- MDB_RISE (R817). -/
def execMdbRise := act fun s => s.iff (s.portLive 13) (·.mdb)

/-- AP_FILL_DONE (R804). -/
def execApFillDone (aperture : Fin 64) := act fun s => s.iff s.binOn (·.apFilled aperture.val)

/-- BN_LATCH_EXPIRY (R806). -/
def execBnLatchExpiry := act fun s => s.bnLatchEnd

end Sys2Proof.Machine
end

