-- ==== Sys2Proof/Machine/BroadcastCmds.lean ====
section
/-! DEFINITION. The commands of broadcast reception (R607 to R659). -/
namespace Sys2Proof.Machine

/-- FLOOD_WINDOW_END (R643, R715). -/
def execFloodWindowEnd (u : FloodUnit) (samples blanked power : Nat) := act fun s =>
  match u with
  | .ctx c => s.ctxFloodWindow c.val samples blanked power
  | .rx r => s.rxFloodWindow r.val samples blanked power

/-- FLOOD_CLEAR (R644). -/
def execFloodClear (u : FloodUnit) := act fun s =>
  match u with
  | .ctx c => s.ctxFloodClear c.val
  | .rx r => s.rxFloodClear r.val

/-- CARRIER_LOCK (R616). -/
def execCarrierLock (c : Fin 4) := act fun s => s.carrierLock c.val true

/-- CARRIER_LOCK_LOSS (R616). -/
def execCarrierLockLoss (c : Fin 4) := act fun s => s.carrierLock c.val false

/-- CPD_FRAME: the bit periods up to the end of the frame being read (R619, R622). -/
def execCpdFrame (c : Fin 4) (periods : List BitPeriod) (room : Bool) := act fun s => s.cpdRead c.val room periods

/-- RDS_GROUP (R626 to R630). -/
def execRdsGroup (c : Fin 4) (blockA blockB blockC blockD : RdsBlock) (room : Bool) := actAll fun s =>
  s.rdsGroup c.val blockA blockB blockC blockD room

/-- DRM_FAC (R632). -/
def execDrmFac (c : Fin 4) (bits : List Byte) (serviceId : BitVec 24) (crcOk room : Bool) := actAll fun s =>
  s.drmFac c.val bits serviceId.toNat crcOk room

/-- DRM_SDC (R632, R633). -/
def execDrmSdc (c : Fin 4) (bytes : List Byte) (crcOk : Bool) (time : Option BcdTime) (afHz : List Nat) (room : Bool) := actAll fun s =>
  s.drmSdc c.val bytes crcOk time afHz room

/-- DRM_MSC (R632). -/
def execDrmMsc (c : Fin 4) (bytes : List Byte) (facOk : Bool) (erasedTenths : Nat) (room : Bool) := act fun s =>
  s.drmMsc c.val bytes facOk erasedTenths room

/-- AUDIO_UNIT (R648). -/
def execAudioUnit (c : Fin 4) (blanked room : Bool) := act fun s => s.audioUnit c.val blanked room

/-- SCAN_CYCLE (R635, R637, R638). -/
def execScanCycle (c : Fin 4) := actAll fun s => s.scanCycle c.val

/-- AF_LOSS_TIMEOUT (R638). -/
def execAfLossTimeout (c : Fin 4) := actAll fun s => s.afLoss c.val

/-- IDENT_TIMEOUT (R639). -/
def execIdentTimeout (c : Fin 4) := actAll fun s => s.identTimeout c.val

/-- AF_BAD_EXPIRY (R639). -/
def execAfBadExpiry (c : Fin 4) (e : Fin 32) := actAll fun s => s.afBadExpiry c.val e.val

/-- CARRIER_INTERVAL_END (R641, R642). -/
def execCarrierIntervalEnd (c : Fin 4) (offset : Int) (samples blanked : Nat) := act fun s => s.carrierInterval c.val offset samples blanked

/-- FM_LOCK (R625). -/
def execFmLock (c : Fin 4) (locked stereo : Bool) := act fun s => s.fmLock c.val locked stereo

/-- DRM_LOCK (R632). -/
def execDrmLock (c : Fin 4) (mode : Fin 6) (locked : Bool) := act fun s => s.drmLock c.val mode.val locked

/-- CPD_SYNC_DETECT: the bit periods up to the end of a sync (R619 to R621, R623). -/
def execCpdSyncDetect (c : Fin 4) (periods : List BitPeriod) := act fun s => s.cpdHunt c.val periods

end Sys2Proof.Machine
end

