-- ==== Sys2Proof/Machine/BusCmds.lean ====
section
/-! DEFINITION. The commands of the register bus (R8, R44, R112, R262, R263, R349). -/
namespace Sys2Proof.Machine

/-- REGISTER_WRITE (R44). -/
def execRegisterWrite (a : Acc) (addr value : Word) := actAll fun s => s.busWrite a addr value

/-- RC_READ: a register-bus read (R8). -/
def execRcRead (m : Fin 16) (parityFlips : BitVec 4) (addr : Word) := act fun s => s.busRead m.val parityFlips addr

/-- WCH_TIME_SNAPSHOT: a read of WCH_TIME_SEC_LO (R112). -/
def execWchTimeSnapshot (m : Fin 16) := act fun s => s.busRead m.val 0 (BitVec.ofNat 32 WCH_TIME_SEC_LO)

/-- FIX_TIME_SNAPSHOT: a read of FIX_TIME_SEC_LO (R349). -/
def execFixTimeSnapshot (m : Fin 16) := act fun s => s.busRead m.val 0 (BitVec.ofNat 32 FIX_TIME_SEC_LO)

/-- FS_ACCESS: a read or write whose address may lie in the fabric user window; `ack` is the fabric's answer (R262, R264). -/
def execFsAccess (a : Acc) (write : Bool) (addr value : Word) (ack : Option Word) := actAll fun s =>
  if write then s.busWriteAck a addr value ack else s.busReadAck a.master.val a.addrFlips addr ack

/-- FS_TIMEOUT (R263). -/
def execFsTimeout (m : Fin 16) := act fun s => s.fsTimedOut m.val

end Sys2Proof.Machine
end

