-- ==== Sys2Proof/Machine/CipherCmds.lean ====
section
/-! DEFINITION. The commands of the cipher engine (R477 to R530). -/
namespace Sys2Proof.Machine

/-- The security domain is powered. -/
def State.engineOn (s : State) : Bool := s.dev != .off && s.dev != .watch

/-- A K_CMD word. -/
def kWord (key : BitVec 16) (op parent slot : Nat) : Word := cmdWord key (op * 4096 + parent * 64 + slot)

/-- D_GO: a write of D_CMD with GO set, or the same request at the page interface (R499, R500). -/
def execDGo (via : DirectPath) (page : Fin 16) (value : Word) := actAll fun s =>
  match via with
  | .bus a => s.regWrite a (D_CMD page.val) (value ||| 0x80000000#32)
  | .fabric x => s.iff (s.engineOn && s.portLive 5) (·.pageCmd page.val (value ||| 0x80000000#32) x)

/-- D_CANCEL: a write of D_CMD with CANCEL set, or a cancel at the page interface (R499, R514). -/
def execDCancel (via : PagePath) (page : Fin 16) := actAll fun s =>
  match via with
  | .bus a => s.regWrite a (D_CMD page.val) 0x40000000#32
  | .fabric => s.iff (s.engineOn && s.portLive 5 && s.pagePort page.val) (·.dCancel page.val)

/-- Q_SUBMIT: a write of Q_CMD with SUBMIT set, or a descriptor on the stream port (R503). -/
def execQSubmit (via : SubmitPath) (page : Fin 16) (value : Word) := actAll fun s =>
  match via with
  | .bus a => s.regWrite a (Q_CMD page.val) (value ||| 0x80000000#32)
  | .stream ws cancel => s.iff (s.engineOn && s.portLive 5) (·.qStream page.val ws cancel)

/-- Q_CANCEL: a write of Q_CMD with CANCEL set, or a cancel on the descriptor stream port (R513, R514). -/
def execQCancel (via : PagePath) (page : Fin 16) (tag : Byte) := actAll fun s =>
  match via with
  | .bus a => s.regWrite a (Q_CMD page.val) (0x40000000#32 ||| tag.setWidth 32)
  | .fabric => s.iff (s.engineOn && s.portLive 5) (·.qStreamCancel page.val tag.toNat)

/-- CPH_OP_START (R501). -/
def execCphOpStart := act fun s => s.iff s.engineOn (·.cphStart)

/-- CPH_OP_COMPLETE (R511). -/
def execCphOpComplete (datapath : Fin 2) (mismatch bufferDbe : Bool) := actAll fun s => s.cphComplete datapath.val mismatch bufferDbe

/-- Q_CMP_POP: a read of Q_CMP_LO (R511). -/
def execQCmpPop (m : Fin 16) (page : Fin 16) := act fun s => s.busRead m.val 0 (BitVec.ofNat 32 (Q_CMP_LO page.val))

/-- K_WRITE (R486). -/
def execKWrite (a : Acc) (page : Fin 16) (key : BitVec 16) (slot : Fin 64) := actAll fun s =>
  s.regWrite a (K_CMD page.val) (kWord key 1 0 slot.val)

/-- K_RANDOM (R486). -/
def execKRandom (a : Acc) (page : Fin 16) (key : BitVec 16) (slot : Fin 64) := actAll fun s =>
  s.regWrite a (K_CMD page.val) (kWord key 2 0 slot.val)

/-- K_DERIVE (R486). -/
def execKDerive (a : Acc) (page : Fin 16) (key : BitVec 16) (parent slot : Fin 64) := actAll fun s =>
  s.regWrite a (K_CMD page.val) (kWord key 3 parent.val slot.val)

/-- K_ERASE (R490). -/
def execKErase (a : Acc) (page : Fin 16) (key : BitVec 16) (slot : Fin 64) := actAll fun s =>
  s.regWrite a (K_CMD page.val) (kWord key 4 0 slot.val)

/-- SHADOW_TAKE_EFFECT (R488). -/
def execShadowTakeEffect (slot : Fin 64) := actAll fun s => s.shadowEffect slot.val

/-- CPH_ZEROIZE: a write of CPH_ZERO (R520). -/
def execCphZeroize (a : Acc) (key : BitVec 16) := actAll fun s => s.regWrite a CPH_ZERO (cmdWord key 1)

/-- RNG_HEALTH_FAIL (R479). -/
def execRngHealthFail (test : Nat) := act fun s => s.iff s.engineOn (·.rngFail test)

/-- SLOT_CHECK (R527). -/
def execSlotCheck (slot : Fin 64) (word : Fin 8) (badBits : Fin 3) := actAll fun s =>
  s.iff s.engineOn (·.slotCheck slot.val word.val badBits.val)

/-- GCM_MASK (R517, R518). -/
def execGcmMask (lmd : Bool) (slot : Fin 64) (fixed : List Byte) := act fun s => s.iff s.engineOn (·.gcmMask lmd slot.val fixed)

/-- HELLO_SEED (R517). -/
def execHelloSeed := act fun s => s.iff (s.engineOn && s.released) (·.helloSeed)

/-- LOGIN_CHALLENGE at the engine's login interface (R519): sixteen random bytes are returned and held, on slot 63 only. -/
def execLoginChallenge := actAll fun s =>
  s.iff s.engineOn fun s =>
    if !(s.slot 63).valid then s.emit (.unit 10 63 [stPageDenied])
    else if s.bit CPH_STATUS_RNG_FAIL || s.cph.rngFails then s.emit (.unit 10 63 [stPageDenied, 7])
    else
      let s := s.loginChallenge
      s.emit (.unit 10 63 [stComplete, beNat s.cph.challenge])

/-- LOGIN_RESPONSE at the engine's login interface (R519): PASS or FAIL comes back, and the challenge is spent. -/
def execLoginResponse (bytes : List Byte) := actAll fun s =>
  s.iff s.engineOn fun s =>
    if s.cphHold then s
    else
      let pass := s.loginPass bytes
      s.dropChallenge.emit (.unit 10 63 [if pass then 1 else 0])

/-- CHALLENGE_EXPIRY (R519). -/
def execChallengeExpiry := actAll fun s => s.challengeEnd

end Sys2Proof.Machine
end

