-- ==== Sys2Proof/Machine/FabricCmds.lean ====
section
/-! DEFINITION. The commands of the fabric, the scrubber and partial loads (R223 to R315). -/
namespace Sys2Proof.Machine

/-- PAIR_MISMATCH (R223). -/
def execPairMismatch (region : Fin 16) (tile : Fin 15360) (cell : Fin 8) := act fun s =>
  s.pairUpset region.val tile.val cell.val

/-- BRAM_SWEEP_PASS_END (R237). -/
def execBramSweepPassEnd (region : Fin 16) (us : Nat) := act fun s => s.sweepEnd false region.val us

/-- DEEP_SWEEP_PASS_END (R242). -/
def execDeepSweepPassEnd (region : Fin 16) (us : Nat) := act fun s => s.sweepEnd true region.val us

/-- GHOLD_RELEASE: the flip-flops of a clock domain in `regions` have had their 8th edge (R275, R277). -/
def execGholdRelease (domain : Fin 288) (regions : BitVec 16) := act fun s => s.gholdRelease domain.val regions

/-- CLOCK_MUX_SWITCH (R257). -/
def execClockMuxSwitch (line : Fin 288) (sel ce : Bool) := act fun s => s.clockSwitch line.val sel ce

/-- SCRUB_READ (R283). -/
def execScrubRead (region : Fin 16) (frame : Fin 8192) (flips : List (Fin 2112)) := act fun s => s.scrubReadSlot region.val frame.val flips

/-- CORRECTION_WRITE (R284). -/
def execCorrectionWrite := act fun s => s.correctionSlot

/-- CRITICAL_PERIOD_START (R287). -/
def execCriticalPeriodStart := act fun s => s.criticalPeriod

/-- SCRUB_PASS_END (R285). -/
def execScrubPassEnd (region : Fin 16) (ns : Nat) := act fun s => s.scrubPassEnd region.val ns

/-- PR_REQUEST (R298). -/
def execPrRequest (a : Acc) (key : BitVec 16) (region : Fin 16) := actAll fun s =>
  s.regWrite a SCR_PR_CMD (cmdWord key (region.val * 16 + 1))

/-- PR_CANCEL (R306). -/
def execPrCancel (a : Acc) (key : BitVec 16) := actAll fun s => s.regWrite a SCR_PR_CMD (cmdWord key 2)

/-- PR_CHUNK (R297). Where it isolates region 12, an FS access that waits completes (R264). -/
def execPrChunk (dbe : Bool) := act fun s =>
  let s := s.prChunk dbe
  s.iff (s.isolatedR 12) (·.fsFlush)

/-- PR_CHECKS_DONE (R299). -/
def execPrChecksDone := act fun s => s.prChecks

/-- PR_RELEASE (R300). -/
def execPrRelease := act fun s => s.prRelease

end Sys2Proof.Machine
end

