-- ==== Sys2Proof/Machine/FixCmds.lean ====
section
/-! DEFINITION. The commands of the Fix selector and device time (R346 to R383). -/
namespace Sys2Proof.Machine

/-- STEER_UPDATE (R367). -/
def execSteerUpdate := act fun s => s.iff s.inService (·.steerUpdate)

/-- SOURCE_VALID (R359, R370). -/
def execSourceValid (n : Fin 5) := act fun s => s.iff s.inService (·.sourceValid (n.val + 1))

/-- SOURCE_INVALID (R363). -/
def execSourceInvalid (n : Fin 5) := act fun s => s.iff s.inService (·.sourceInvalid (n.val + 1))

/-- SOURCE_QUALIFIED (R361). -/
def execSourceQualified (n : Fin 5) := act fun s => s.iff s.inService (·.sourceQualified (n.val + 1))

/-- SELECTION_HOLD_END (R362). -/
def execSelectionHoldEnd := act fun s => s.iff s.inService (·.selectionHoldEnd)

/-- SLEW_END (R366). -/
def execSlewEnd := act fun s => s.slewEnd

/-- FREEZE_TIMEOUT (R372). -/
def execFreezeTimeout := act fun s => s.freezeTimeout

/-- FIX_SET: a write of FIX_SET_CMD with COMMIT set (R374). -/
def execFixSet (a : Acc) (key : BitVec 16) := actAll fun s => s.regWrite a FIX_SET_CMD (cmdWord key 1)

/-- PTP_SUBMIT: SUBMIT of FIX_PTP_CMD, with WITHDRAW beside it or without (R356, R381). -/
def execPtpSubmit (a : Acc) (withdrawToo : Bool) := actAll fun s => s.regWrite a FIX_PTP_CMD (if withdrawToo then 3 else 1)

/-- PTP_WITHDRAW (R356). -/
def execPtpWithdraw (a : Acc) := actAll fun s => s.regWrite a FIX_PTP_CMD 2

/-- PPS_IN_EDGE (R355). -/
def execPpsInEdge (edgeNs : Int) (rising : Bool) (cycles : Nat) := act fun s => s.iff s.inService (·.ppsInEdge edgeNs rising cycles)

/-- DEVICE_TIME_SECOND: device time comes to its next second (R375, R107). -/
def execDeviceTimeSecond := act fun s => s.iff (s.inService && s.fix.oscOk) (·.toSecond.deviceSecond)

/-- PPS_OUT_END (R375). -/
def execPpsOutEnd := act fun s => s.withFix { s.fix with pps := false }

/-- TIME_VOTE (R348). -/
def execTimeVote (copy : Fin 3) := act fun s => s.iff s.inService (·.report 20 copy.val 0)

end Sys2Proof.Machine
end

