-- ==== Sys2Proof/Machine/GuardCmds.lean ====
section
/-! DEFINITION. The commands of the guarantee unit (R859 to R896). -/
namespace Sys2Proof.Machine

/-- FAULT_REPORT (R873): a block's report of fault `n`; those of the fabric's memories reach its counters first, and a condition of a
region that is isolated is not reported (R270). -/
def execFaultReport (n : Fin 44) (inst : BitVec 16) (detail : BitVec 64) (source : Fin 4) := act fun s =>
  if n.val = 0 then s
  else if 13 ≤ n.val ∧ n.val ≤ 16 then s.memError n.val inst.toNat detail.toNat source.val
  else if n.val = 12 ∨ n.val = 17 then s.iff (s.fabricRuns inst.toNat) (·.report n.val inst.toNat detail.toNat)
  else s.iff (s.hkRuns || n.val == 21 || n.val == 22) (·.watchReport n.val inst.toNat detail.toNat)

/-- GRD_CLEAR: a write of GRD_CMD (R881). -/
def execGrdClear (a : Acc) (key : BitVec 16) := actAll fun s => s.regWrite a GRD_CMD (cmdWord key 1)

/-- GRD_INJECT: a write of GRD_CMD (R883). -/
def execGrdInject (a : Acc) (key : BitVec 16) (cls : BitVec 6) := actAll fun s => s.regWrite a GRD_CMD (cmdWord key (cls.toNat * 256 + 2))

/-- HEALTH_PULSE_END (R879). -/
def execHealthPulseEnd (n : Fin 44) := act fun s => s.pulseEnd n.val

/-- HEALTH_PAD_MISMATCH (R885). -/
def execHealthPadMismatch (padHigh : Bool) := act fun s => s.padMismatch padHigh

/-- SELFTEST_PART_DONE (R886). -/
def execSelftestPartDone (part : Fin 4) (failing : Option Nat) := act fun s => s.selftestPart part.val failing

/-- RAIL_EXCURSION (R871). -/
def execRailExcursion (rail : Fin 14) (mv : Nat) := actAll fun s => s.railExcursion rail.val mv

/-- TEMP_EXCURSION (R872). -/
def execTempExcursion (sensor : Fin 16) (celsius : Int) := act fun s => s.tempReading sensor.val celsius

/-- LOG_CRC_SCAN (R870). -/
def execLogCrcScan := act fun s => s.iff (s.inService && s.wch.up) (·.logScan)

/-- HK_DISAGREE (R867). -/
def execHkDisagree (copy : Fin 3) (unit : Byte) (bits : Nat) := act fun s => s.hkDisagree copy.val unit.toNat bits

/-- HK_RESYNC_DONE (R867). -/
def execHkResyncDone (copy : Fin 3) := act fun s => s.hkResyncDone copy.val

end Sys2Proof.Machine
end

