-- ==== Sys2Proof/Machine/LaneCmds.lean ====
section
/-! DEFINITION. The commands of the serial lanes (R384 to R424). -/
namespace Sys2Proof.Machine

/-- LNK_CFG_WRITE (R419). -/
def execLnkCfgWrite (a : Acc) (lane : Fin 24) (value : Word) := actAll fun s => s.regWrite a (LNK_CFG lane.val) value

/-- ETH_RX_FRAME (R399); the stream port of an isolated region has no room. -/
def execEthRxFrame (lane : Fin 24) (frame : List Byte) (codeError : Bool) (fecCorr fecUncorr : Nat) (room : Bool) := act fun s =>
  s.ethRx lane.val frame codeError fecCorr fecUncorr (room && s.laneLive lane.val)

/-- ETH_TX_SUBMIT (R400). -/
def execEthTxSubmit (lane : Fin 24) (frame : List Byte) (tag : Byte) (tsReq : Bool) := act fun s =>
  s.iff (s.laneLive lane.val) (·.ethSubmit lane.val frame tag.toNat tsReq)

/-- ETH_TX_START (R400, R403). -/
def execEthTxStart (lane : Fin 24) := act fun s => s.ethTxStart lane.val

/-- TXTS_POP: a read of LNK_TXTS_TAG (R404). -/
def execTxtsPop (m : Fin 16) (lane : Fin 24) := act fun s => s.busRead m.val 0 (BitVec.ofNat 32 (LNK_TXTS_TAG lane.val))

/-- PRBS_CLEAR: a write of LNK_PRBS_CFG with CLEAR set (R417). -/
def execPrbsClear (a : Acc) (lane : Fin 24) (value : Word) := actAll fun s =>
  s.regWrite a (LNK_PRBS_CFG lane.val) (value ||| 0x100#32)

/-- PRBS_LOCK (R413). -/
def execPrbsLock (lane : Fin 24) (locked : Bool) (bits errors : Nat) := act fun s => s.prbsLock lane.val locked bits errors

/-- EYE_SCAN_START: a write of LNK_EYE_CTRL with START set (R414). -/
def execEyeScanStart (a : Acc) (lane : Fin 24) (value : Word) := actAll fun s =>
  s.regWrite a (LNK_EYE_CTRL lane.val) (value ||| 0x80000000#32)

/-- EYE_SCAN_DONE (R414). -/
def execEyeScanDone (lane : Fin 24) (errors : Nat) := act fun s => s.eyeScanned lane.val errors

/-- TRAINING_LOCK (R406). -/
def execTrainingLock (lane : Fin 24) (peerCap : BitVec 5) := actAll fun s => (s.trainingLock lane.val peerCap.toNat).portsUpdate

/-- RATE_STEP_SWITCH (R407). -/
def execRateStepSwitch (lane : Fin 24) := actAll fun s => (s.rateStepSwitch lane.val).portsUpdate

/-- RATE_STEP_END (R407, R409). -/
def execRateStepEnd (lane : Fin 24) (checkerLocked : Bool) (bits errors : Nat) (peerFail : Bool) := actAll fun s =>
  (s.rateStepEnd lane.val checkerLocked bits errors peerFail).portsUpdate

/-- LANE_SETTLE (R408). -/
def execLaneSettle (lane : Fin 24) := actAll fun s => (s.laneSettle lane.val).portsUpdate

/-- BRINGUP_RETRY (R410). -/
def execBringupRetry (lane : Fin 24) := actAll fun s => (s.bringupRetry lane.val).portsUpdate

/-- LOS_DECLARE (R415, R416). -/
def execLosDeclare (lane : Fin 24) := actAll fun s => s.losDeclared lane.val

/-- LOS_CLEAR (R415, R411). -/
def execLosClear (lane : Fin 24) := actAll fun s => (s.losClear lane.val).portsUpdate

/-- CDR_LOSS (R416). -/
def execCdrLoss (lane : Fin 24) := actAll fun s => s.cdrLost lane.val

/-- LANE_SYNC (R395). -/
def execLaneSync (lane : Fin 24) (synced fecAligned : Bool) := actAll fun s => s.laneSync lane.val synced fecAligned

end Sys2Proof.Machine
end

