-- ==== Sys2Proof/Machine/LoadCmds.lean ====
section
/-! DEFINITION. The commands of the image load, audits, the configuration memory and the image key (R149 to R207). -/
namespace Sys2Proof.Machine

/-- NVM_DISCOVERY (R151 to R154). -/
def execNvmDiscovery (sfdp : Sfdp) := act fun s => s.discovery sfdp

/-- CHUNK_READ (R164). -/
def execChunkRead (stored : Option (List Byte)) := act fun s => s.chunkRead stored

/-- HEADER_RECORD (R160). -/
def execHeaderRecord (bytes : List Byte) := act fun s => s.headerRecord bytes

/-- PROFILE_RECORD (R174). -/
def execProfileRecord := act fun s => s.profileRecord

/-- KEYWRAP_RECORD (R175). -/
def execKeywrapRecord := act fun s => s.keywrapRecord

/-- BANDS_RECORD (R323). -/
def execBandsRecord := act fun s => s.bandsRecord

/-- PINS_RECORD (R761). -/
def execPinsRecord := act fun s => s.pinsRecord

/-- FRAME_RECORD (R170). -/
def execFrameRecord := act fun s => s.frameRecord

/-- REPEAT_RECORD (R171, R214). -/
def execRepeatRecord (sbe : List (Fin 1024)) (dbe : Option (Fin 1024)) := act fun s => s.repeatRecord (sbe.map (·.val)) (dbe.map (·.val))

/-- FILL_RECORD (R172). -/
def execFillRecord := act fun s => s.fillRecord

/-- REGION_END_RECORD (R173). -/
def execRegionEndRecord := act fun s => s.regionEndRecord

/-- MASK_RECORD (R166). -/
def execMaskRecord := act fun s => s.maskRecord

/-- SLOTS_RECORD (R177). -/
def execSlotsRecord := act fun s => s.slotsRecord

/-- END_RECORD (R179). -/
def execEndRecord := actAll fun s => s.endRecord

/-- FABRIC_RELEASE (R181, R189). -/
def execFabricRelease (us : Nat) := actAll fun s => s.fabricRelease us

/-- CFG_AUDIT (R196). -/
def execCfgAudit (a : Acc) (key : BitVec 16) (golden : Bool) := actAll fun s =>
  s.regWrite a CFG_CMD (cmdWord key (if golden then 7 else 3))

/-- AUDIT_PERIOD (R196). -/
def execAuditPeriod := act fun s => s.auditPeriod

/-- AUDIT_DONE: the audit has read the stored image, its header and its chunks, `none` where the memory gave none (R195, R197). -/
def execAuditDone (header : List Byte) (chunks : List (Option (List Byte))) := act fun s => s.auditDone header chunks

/-- CFG_NVM_READ (R198). -/
def execCfgNvmRead (a : Acc) (key : BitVec 16) := actAll fun s => s.regWrite a CFG_NVM_CMD (cmdWord key 1)

/-- CFG_NVM_PROGRAM (R198). -/
def execCfgNvmProgram (a : Acc) (key : BitVec 16) := actAll fun s => s.regWrite a CFG_NVM_CMD (cmdWord key 2)

/-- CFG_NVM_ERASE (R198). -/
def execCfgNvmErase (a : Acc) (key : BitVec 16) := actAll fun s => s.regWrite a CFG_NVM_CMD (cmdWord key 3)

/-- NVM_OP_DONE (R198). -/
def execNvmOpDone (ok : Bool) (data : List Byte) := act fun s => s.nvmEnd ok data

/-- FUSE_PROGRAM (R207). -/
def execFuseProgram (a : Acc) (go : BitVec 16) := actAll fun s => s.regWrite a CFG_FUSE_CMD (go.setWidth 32)

/-- FUSE_DONE (R207). -/
def execFuseDone (verified : Bool) := act fun s => s.fuseEnd verified

end Sys2Proof.Machine
end

