-- ==== Sys2Proof/Machine/ModemCmds.lean ====
section
/-! DEFINITION. The commands of the line modem (R660 to R727). -/
namespace Sys2Proof.Machine

/-- LMD_TX_SUBMIT (R677, R680). -/
def execLmdTxSubmit (t : Fin 2) (payload : List Byte) (rate : Fin 4) (tag : Byte) := actAll fun s =>
  s.iff (s.portLive 0) fun s =>
    (s.streamTake (lmdTxPort t.val) (beatCount 4 payload.length)).lmdSubmit t.val { payload := payload, rate := rate.val, tag := tag.toNat }

/-- BURST_START (R678). -/
def execBurstStart (t : Fin 2) := act fun s => s.burstStart t.val

/-- BURST_END (R679). -/
def execBurstEnd (t : Fin 2) := act fun s => s.burstEnd t.val

/-- LMD_TX_CANCEL (R681). -/
def execLmdTxCancel (t : Fin 2) (tag : Byte) := actAll fun s => s.iff (s.portLive 0) (·.lmdCancel t.val tag.toNat)

/-- TP_BLOCK_START (R686, R688, R693). -/
def execTpBlockStart (t : Fin 2) (mismatch : Bool) := act fun s => s.tpDue t.val mismatch

/-- TPCMD_CHANGE (R693). -/
def execTpcmdChange (t : Fin 2) (vector : BitVec 4) (mismatch : Bool) := act fun s => s.tpSample t.val vector.toNat mismatch

/-- PREAMBLE_DETECT (R712, R713). -/
def execPreambleDetect (r : Fin 2) (slot : Fin 4) (corr : Nat) := act fun s => s.rxPreamble r.val slot.val corr

/-- RX_BURST (R676, R718). -/
def execRxBurst (r : Fin 2) (header payload : List Int) (snr : Nat) (room : Bool) := act fun s => s.rxBurst r.val header payload snr room

/-- RX_GUARD_BLOCK (R689, R696). -/
def execRxGuardBlock (r : Fin 2) (coded : List Int) (erased preempted : Bool) (snr : Nat) := act fun s =>
  (s.rxShort r.val false (infoDecode false coded) erased preempted snr).rxBlockEnd r.val

/-- RX_COMMAND_BLOCK (R697, R698). -/
def execRxCommandBlock (r : Fin 2) (coded : List Int) (erased preempted truncated : Bool) (snr : Nat) := act fun s =>
  (if truncated then s.rxTruncated r.val else s.rxShort r.val true (infoDecode false coded) erased preempted snr).rxBlockEnd r.val

/-- RX_START_BLOCK (R690, R691). -/
def execRxStartBlock (r : Fin 2) (coded : List Int) (erased preempted : Bool) (snr : Nat) := act fun s =>
  (s.rxStart r.val (infoDecode true coded) erased preempted snr).rxBlockEnd r.val

/-- CMD_HOLD_EXPIRY (R698). -/
def execCmdHoldExpiry (r : Fin 2) := act fun s => s.cmdHold r.val

/-- GUARD_LOSS_EXPIRY (R699). -/
def execGuardLossExpiry (r : Fin 2) := act fun s => s.guardLoss r.val

/-- RX_RESYNC_TIMEOUT (R691). -/
def execRxResyncTimeout (r : Fin 2) := act fun s => s.rxTimeout r.val

/-- MASK_WINDOW_END (R704, R705). -/
def execMaskWindowEnd (paHigh sent : Bool) (bins : List Nat) (total : Nat) := act fun s => s.maskWindow paHigh sent bins total

/-- TX_RESTART: a write of LMD_CMD (R707). -/
def execTxRestart (a : Acc) (key : BitVec 16) := actAll fun s => s.regWrite a LMD_CMD (cmdWord key 1)

/-- RX_RESYNC: a write of LMD_CMD (R691). -/
def execRxResync (a : Acc) (key : BitVec 16) (r : Fin 2) := actAll fun s => s.regWrite a LMD_CMD (cmdWord key (r.val * 256 + 2))

/-- RAMP_UP_DONE (R709). -/
def execRampUpDone (t : Fin 2) := act fun s => s.rampUp t.val

/-- RAMP_DOWN_DONE (R710). -/
def execRampDownDone (t : Fin 2) := actAll fun s => s.rampDown t.val

/-- LMD_CHANNEL_WRITE (R665). -/
def execLmdChannelWrite (a : Acc) (addr value : Word) := actAll fun s => s.busWrite a addr value

end Sys2Proof.Machine
end

