-- ==== Sys2Proof/Machine/MonitorCmds.lean ====
section
/-! DEFINITION. The commands of the Watchkeeper (R831 to R858). Each is a line that spells the command; those with effects
need the Control level. -/
namespace Sys2Proof.Machine

/-- MON_HELP (R841). -/
def execMonHelp (cmd : Option (List Byte)) := act fun s => s.monLine false (·.monHelp cmd)

/-- MON_LOGIN (R842). -/
def execMonLogin := actAll fun s => s.monLine false (·.login)

/-- MON_LOGIN_RESPONSE (R843). -/
def execMonLoginResponse (bytes : List Byte) := actAll fun s => s.monLine false (·.loginTry bytes)

/-- MON_LOGIN_OFF (R846). -/
def execMonLoginOff := act fun s => s.monLine false (·.loginOff)

/-- MON_STATUS (R841). -/
def execMonStatus := act fun s => s.monLine false (·.monStatus)

/-- MON_PEEK (R848). -/
def execMonPeek (addr : Word) (n : Nat) := act fun s => s.monLine false (·.monPeek addr.toNat n)

/-- MON_POKE (R847). -/
def execMonPoke (addr value : Word) := actAll fun s => s.monLine true (·.monPoke addr.toNat value)

/-- MON_FILL (R847). -/
def execMonFill (addr : Word) (n : Nat) (value : Word) := actAll fun s => s.monLine true (·.monFill addr.toNat n value)

/-- MON_FAULT (R841). -/
def execMonFault := act fun s => s.monLine false (·.monFault)

/-- MON_FAULT_CLEAR (R850). -/
def execMonFaultClear := actAll fun s => s.monLine true (·.monFaultClear)

/-- MON_LOG (R841). -/
def execMonLog (pinned : Bool) (n : Nat) := act fun s => s.monLine false (·.monLogCmd pinned n)

/-- MON_LANES (R841). -/
def execMonLanes (lane : Option Nat) := act fun s => s.monLine false (·.monLanes lane)

/-- MON_EYE (R851). -/
def execMonEye (lane : Nat) (p0 p1 v0 v1 : Int) (dwell : Nat) := actAll fun s => s.monLine true (·.monEye lane p0 p1 v0 v1 dwell)

/-- MON_SOUND (R841). -/
def execMonSound (set : Option Nat) := act fun s => s.monLine false (·.monSound set)

/-- MON_SOUND_APPLY (R557). -/
def execMonSoundApply (set : Nat) (c : CoefSet) := actAll fun s => s.monLine true (·.monSoundApply set c)

/-- MON_SOUND_FORCE (R841). -/
def execMonSoundForce (slice : Nat) := actAll fun s => s.monLine true (·.monSoundForce slice)

/-- MON_BANDS (R841). -/
def execMonBands (pll : Nat) := act fun s => s.monLine false (·.monBands pll)

/-- MON_BANDS_WRITE (R327). -/
def execMonBandsWrite (pll entry code : Nat) (fmin fmax : Word) := actAll fun s =>
  s.monLine true (·.monBandsWrite pll entry code fmin fmax)

/-- MON_FIX (R841). -/
def execMonFix := act fun s => s.monLine false (·.monFix)

/-- MON_IMAGE (R841). -/
def execMonImage (frames : Bool) := act fun s => s.monLine false (·.monImage frames)

/-- MON_IMAGE_AUDIT (R196). -/
def execMonImageAudit (golden : Bool) := actAll fun s => s.monLine true (·.monImageAudit golden)

/-- MON_IMAGE_RELOAD (R192). -/
def execMonImageReload (golden : Bool) := actAll fun s => s.monLine true (·.monImageReload golden)

/-- MON_PARTIAL (R841). -/
def execMonPartial := act fun s => s.monLine false (·.monPartial)

/-- MON_PARTIAL_LOAD (R298). -/
def execMonPartialLoad (region bank : Nat) := actAll fun s => s.monLine true (·.monPartialLoad region bank)

/-- MON_PARTIAL_CANCEL (R306). -/
def execMonPartialCancel := actAll fun s => s.monLine true (·.monPartialCancel)

/-- MON_SLOTS (R841). -/
def execMonSlots (slot : Option Nat) (key : Bool) := act fun s => s.monLine false (·.monSlots slot key)

/-- MON_SLOTS_ERASE (R491). -/
def execMonSlotsErase := actAll fun s => s.monLine true (·.monSlotsErase)

/-- MON_SLOTS_ZERO (R520). -/
def execMonSlotsZero := actAll fun s => s.monLine true (·.monSlotsZero)

/-- MON_ABORT (R840). -/
def execMonAbort := actAll fun s => s.monAbort

/-- MON_IDLE_EXPIRY (R846). -/
def execMonIdleExpiry := actAll fun s => s.monIdle

/-- MON_LOCKOUT_END (R844). -/
def execMonLockoutEnd := actAll fun s => s.lockoutEnd

/-- END_CONTROL: a write of MON_CTRL (R846). -/
def execEndControl (a : Acc) (key : BitVec 16) := actAll fun s => s.regWrite a MON_CTRL (cmdWord key 1)

/-- COMMAND_LINE: a line that spells no command, with the framing errors met in it (R836, R837, R839). -/
def execCommandLine (line : List Byte) (framingErrors : Nat) := actAll fun s => s.commandLine line framingErrors

end Sys2Proof.Machine
end

