-- ==== Sys2Proof/Machine/PinCmds.lean ====
section
/-! DEFINITION. The commands of the pins (R760 to R797). -/
namespace Sys2Proof.Machine

/-- PIN_MODE_CHANGE: a write of PIN_BANK_CFG (R775). -/
def execPinModeChange (a : Acc) (bank : Fin 6) (value : Word) := actAll fun s => s.regWrite a (PIN_BANK_CFG bank.val) value

/-- PIN_CLAIM_CHANGE: a write of PIN_CLAIM (R771). -/
def execPinClaimChange (a : Acc) (bank : Fin 6) (value : Word) := actAll fun s => s.regWrite a (PIN_CLAIM bank.val) value

/-- BANK_IO_UP (R790). -/
def execBankIoUp (bank : Fin 6) := act fun s => s.iff (s.dev != .off) (·.railUp (8 + bank.val))

/-- BANK_IO_DOWN (R792). -/
def execBankIoDown (bank : Fin 6) := act fun s => s.iff (s.dev != .off) (·.railDown (8 + bank.val))

end Sys2Proof.Machine
end

