-- ==== Sys2Proof/Machine/PllCmds.lean ====
section
/-! DEFINITION. The commands of the PLLs and their references (R316 to R345). -/
namespace Sys2Proof.Machine

/-- PLL_APPLY (R338). -/
def execPllApply (a : Acc) (n : Fin 11) (key : BitVec 16) := actAll fun s => s.regWrite a (PLL_CMD n.val) (cmdWord key 1)

/-- PLL_UNMUTE (R338). -/
def execPllUnmute (a : Acc) (n : Fin 11) (key : BitVec 16) := actAll fun s => s.regWrite a (PLL_CMD n.val) (cmdWord key 2)

/-- PLL_LOCK (R328). -/
def execPllLock (n : Fin 11) := actAll fun s => s.pllLock n.val

/-- PLL_LOCK_TIMEOUT (R339). -/
def execPllLockTimeout (n : Fin 11) := actAll fun s => s.pllTimeout n.val

/-- PLL_LOSS_OF_LOCK (R330). -/
def execPllLossOfLock (n : Fin 11) := actAll fun s => s.pllLol n.val

/-- REF_LOSS (R332); that of OSC_LOCAL_IN stops a load (R156). -/
def execRefLoss (r : Fin 6) := actAll fun s =>
  let lost := s.refOk r.val
  (s.refLoss r.val).iff (lost && r.val == 0 && decide (s.get CFG_STATUS_PHASE ≤ 3)) (·.loadClock)

/-- REF_QUALIFIED (R333). -/
def execRefQualified (r : Fin 6) (first khz : Nat) := actAll fun s => s.refQualified r.val first khz

/-- BAND_ENTRY_WRITE (R327). -/
def execBandEntryWrite (a : Acc) (n : Fin 11) (e : Fin 64) (word : Fin 3) (value : Word) := actAll fun s =>
  s.regWrite a (PLL_BAND0 n.val e.val + 4 * word.val) value

end Sys2Proof.Machine
end

