-- ==== Sys2Proof/Machine/PortCmds.lean ====
section
/-! DEFINITION. The commands of the sample ports (R728 to R759). -/
namespace Sys2Proof.Machine

/-- A bit of SPT_CMD, from the register bus or from the fabric's strobes. -/
def State.sptAsk (s : State) (a : Option Acc) (n : Nat) (w : Word) (start cancel stop : Bool) : State :=
  match a with
  | some acc => s.regWrite acc (SPT_CMD n) w
  | none => s.iff (s.portLive 2) (·.sptCmd n start cancel stop)

/-- SPT_START (R736). -/
def execSptStart (a : Option Acc) (n : Fin 8) := actAll fun s => s.sptAsk a n.val 1 true false false

/-- SPT_STOP (R741). -/
def execSptStop (a : Option Acc) (n : Fin 8) := actAll fun s => s.sptAsk a n.val 4 false false true

/-- SPT_CANCEL (R744). -/
def execSptCancel (a : Option Acc) (n : Fin 8) := actAll fun s => s.sptAsk a n.val 2 false true false

/-- SPT_RUNNING (R737). -/
def execSptRunning (n : Fin 8) (half rateHz : Nat) := act fun s => s.sptRun n.val half rateHz

/-- SPT_FRAME (R740); the stream port of an isolated region gives no beats and has no room. -/
def execSptFrame (n : Fin 8) (half0 half1 : Nat) (rateHz : Nat) (rise fall : List Bool) (room : Bool) (beats : List (Word × Word)) := act fun s =>
  s.sptFrame n.val half0 half1 rateHz rise fall (room && s.portLive 2) (if s.portLive 2 then beats else [])

/-- SPT_CLOCK_LOSS (R745). -/
def execSptClockLoss (n : Fin 8) (bck : Bool) := act fun s => s.iff s.sptOn (·.sptClockLoss n.val bck)

/-- SPT_RELEASE_END (R741). -/
def execSptReleaseEnd (n : Fin 8) := act fun s => s.sptReleaseEnd n.val

end Sys2Proof.Machine
end

