-- ==== Sys2Proof/Machine/PowerCmds.lean ====
section
/-! DEFINITION. The commands of power, states, wake and reload (R64 to R99, R186 to R192, R208, R941). -/
namespace Sys2Proof.Machine

/-- PORST_N_RELEASE (R64, R149). -/
def execPorstNRelease (mode : BitVec 3) (monEn : Bool) := actAll fun s => s.coldStart mode monEn

/-- POWER_GOOD: the same start, PORST_N being high already, which the command says (R64). -/
def execPowerGood (mode : BitVec 3) (monEn : Bool) := actAll fun s => s.coldStart mode monEn

/-- PORST_N_ASSERT (R68, R118). -/
def execPorstNAssert := actAll fun s => s.porstLow

/-- CORE_DROP (R98). -/
def execCoreDrop := actAll fun s => s.coreDrop

/-- AUX_LOST (R90). -/
def execAuxLost (storeMv vbatMv : Nat) := actAll fun s => s.auxLost storeMv vbatMv

/-- RETENTION_LOST (R90). -/
def execRetentionLost (mv : Nat) (auxToo : Bool) (storeMv vbatMv : Nat) := actAll fun s => s.retentionLost mv auxToo storeMv vbatMv

/-- DOMAIN_POWER_UP (R65). -/
def execDomainPowerUp (d : Domain) := actAll fun s => s.domainPowerUp d

/-- DOMAIN_POWER_LOSS (R22). -/
def execDomainPowerLoss (rail : Fin 14) := actAll fun s => s.domainPowerLoss rail.val

/-- WATCH_REQUEST: a write of PWR_WATCH_REQ (R71). -/
def execWatchRequest (a : Acc) (value : Word) := actAll fun s => s.regWrite a PWR_WATCH_REQ value

/-- WATCH_N_LOW (R71). -/
def execWatchNLow := actAll fun s => s.watchPin

/-- VMON_LOW (R72). -/
def execVmonLow := act fun s => s.vmonFall

/-- VMON_HIGH (R72). -/
def execVmonHigh := act fun s => s.vmonRise

/-- VMON_FILTER_EXPIRY (R72). -/
def execVmonFilterExpiry := actAll fun s => s.vmonFilter

/-- GRACE_EXPIRY (R73). -/
def execGraceExpiry := act fun s => s.graceEnd

/-- WATCH_DRAIN_END (R74, R75). -/
def execWatchDrainEnd (us : Nat) := actAll fun s => s.watchDrainEnd us

/-- WAKE_EVENT (R84). -/
def execWakeEvent (vmonRose pinRose watchN : Bool) := act fun s => s.wakeEvent vmonRose pinRose watchN

/-- WAKE_CORE_SWITCHED (R85). -/
def execWakeCoreSwitched := actAll fun s => s.wakeCoreSwitched

/-- WAKE_REFS_QUALIFIED (R86). -/
def execWakeRefsQualified := actAll fun s => s.wakeRefsQualified

/-- WAKE_PLLS_LOCKED (R345). -/
def execWakePllsLocked := act fun s => s.wakePllsLocked

/-- WAKE_SCRUB_DONE (R315). -/
def execWakeScrubDone := act fun s => s.wakeScrubDone

/-- WAKE_PHASE_LATE (R87, R99). -/
def execWakePhaseLate (unit : Fin 16) (us : Nat) := act fun s => s.wakePhaseLate unit.val us

/-- FABRIC_CLOCK_RELEASE (R85, R88). -/
def execFabricClockRelease (us : Nat) := actAll fun s => s.fabricClockRelease us

/-- RELOAD_REQUEST (R191). -/
def execReloadRequest := actAll fun s => s.reloadPin

/-- RELOAD_N_RISE (R191). -/
def execReloadNRise := act fun s => s.reloadRise

/-- RELOAD_START (R186). -/
def execReloadStart (mode : BitVec 3) := actAll fun s => s.reloadStart mode

/-- WATCH_RELOAD_REQUEST (R941). -/
def execWatchReloadRequest := actAll fun s => s.reloadWatchPin

/-- COLD_LOAD_START (R89). -/
def execColdLoadStart (mode : BitVec 3) := actAll fun s => s.coldLoadStart mode

/-- CFG_RELOAD_PRIMARY (R192). -/
def execCfgReloadPrimary (a : Acc) (key : BitVec 16) := actAll fun s => s.regWrite a CFG_CMD (cmdWord key 1)

/-- CFG_RELOAD_GOLDEN (R192). -/
def execCfgReloadGolden (a : Acc) (key : BitVec 16) := actAll fun s => s.regWrite a CFG_CMD (cmdWord key 2)

/-- RAIL_RETURN (R65, R78). -/
def execRailReturn (rail : Fin 14) := actAll fun s => s.railReturn rail.val

end Sys2Proof.Machine
end

