-- ==== Sys2Proof/Machine/ReceiveCmds.lean ====
section
/-! DEFINITION. The commands of the channelizer and of the checked tables (R569 to R606, R869). -/
namespace Sys2Proof.Machine

/-- DDC_RETUNE: a write of DDC_CMD with RETUNE set (R580). -/
def execDdcRetune (a : Acc) (d : Fin 8) (value : Word) := actAll fun s => s.regWrite a (DDC_CMD d.val) (value ||| 1#32)

/-- RETUNE_APPLY (R580). -/
def execRetuneApply (d : Fin 8) := actAll fun s => s.withGen d.val (·.retuneApply d.val)

/-- DDC_SWAP: a write of DDC_CMD with SWAP set (R578). -/
def execDdcSwap (a : Acc) (d : Fin 8) (value : Word) := actAll fun s => s.regWrite a (DDC_CMD d.val) (value ||| 4#32)

/-- SWAP_APPLY (R578). -/
def execSwapApply (d : Fin 8) := act fun s => s.swapApply d.val

/-- DDC_HOP_START: a write of DDC_CMD with HOP_START set (R585). -/
def execDdcHopStart (a : Acc) (d : Fin 8) (value : Word) := actAll fun s => s.regWrite a (DDC_CMD d.val) (value ||| 8#32)

/-- DDC_HOP_STOP: a write of DDC_CMD with HOP_STOP set (R586). -/
def execDdcHopStop (a : Acc) (d : Fin 8) (value : Word) := actAll fun s => s.regWrite a (DDC_CMD d.val) (value ||| 16#32)

/-- HOP_ADVANCE (R585, R586). The HOP_DONE of an auxiliary DDC ends a scan cycle of its context (R636). -/
def execHopAdvance (d : Fin 8) := actAll fun s =>
  let cycles := s.get (DDC_HOP_CYCLES_COUNT d.val)
  let aux := s.auxOf d.val
  let s := s.withGen d.val (·.hopAdvance d.val)
  match aux with
  | some c => s.iff (s.get (DDC_HOP_CYCLES_COUNT d.val) != cycles && s.ctxOn c) (·.scanJudge c)
  | none => s

/-- DDC_UNIT_COMPLETE (R589, R594). The unit in progress runs to its end; its samples go to the context whose main DDC it is
(R607) and count for the level of its frequency, and that of a scan DDC or an auxiliary DDC is a level of an alternative one (R636, R637). -/
def execDdcUnitComplete (d : Fin 8) (room : Bool) := act fun s =>
  let s := s.ddcFill d.val
  let v := s.dd d.val
  let s := s.iff (s.ddcRunning d.val) fun s => s.each (List.range 4) fun s c => s.iff (s.ctxInput c && s.ctxMain c == d.val) fun s => (s.ctxSamples c v.words).ctxUsed c
  (s.levelUnit d.val).ddcUnit d.val room

/-- COEF_WRITE (R577). -/
def execCoefWrite (a : Acc) (d : Fin 8) (t : Fin 320) (value : Word) := actAll fun s => s.regWrite a (DDC_COEF d.val t.val) value

/-- TABLE_CHECK (R869, R603, R657, R725, R828): a word in error is corrected and reported, or has the reaction of its block. -/
def execTableCheck (table : CheckedTable) (addr : Nat) (double : Bool) := actAll fun s =>
  match table with
  | .shadow a => s.iff s.binOn (·.shadowCheck a.val addr double)
  | .mirror => s.iff s.binOn (·.shadowCheck 0 addr double)
  | .ddc d => s.iff s.radioOn (·.ddcCheck d.val addr double)
  | .ctx c => s.iff s.radioOn (·.ctxCheck c.val addr double)
  | .lmdTx t => s.iff s.radioOn (·.lmdCheck t.val addr double)
  | .lmdMask => s.iff s.radioOn (·.lmdCheck 2 addr double)
  | .lmdRx r => s.iff s.radioOn (·.lmdRxCheck r.val double)

end Sys2Proof.Machine
end

