-- ==== Sys2Proof/Machine/SamplerCmds.lean ====
section
/-! DEFINITION. The commands of the samplers and their sounding (R531 to R568). -/
namespace Sys2Proof.Machine

/-- SOUND_WINDOW_END (R541, R542). -/
def execSoundWindowEnd (rf : Bool) (est : CoefSet) (clip : Bool) (power : Int) := act fun s => s.soundWindow rf est clip power

/-- TRIM_STEP_END (R543). -/
def execTrimStepEnd (rf : Bool) := act fun s => s.trimStepEnd rf

/-- HANDOVER_RAMP_END (R546). -/
def execHandoverRampEnd (chain : Fin 6) := act fun s => s.rampEnd chain.val

/-- MONITOR_WINDOW_END (R549, R550). -/
def execMonitorWindowEnd (rf : Bool) (stats : List SliceStats) (clipped : Bool) := act fun s => s.monitorWindow rf stats clipped

/-- SMP_APPLY: a write of SMP_COEF_CMD (R557). -/
def execSmpApply (a : Acc) (key : BitVec 16) (index : Fin 16) := actAll fun s =>
  s.regWrite a SMP_COEF_CMD (cmdWord key (index.val * 256 + 1))

/-- SMP_LOAD: a write of SMP_COEF_CMD (R556). -/
def execSmpLoad (a : Acc) (key : BitVec 16) (index : Fin 16) := actAll fun s =>
  s.regWrite a SMP_COEF_CMD (cmdWord key (index.val * 256 + 3))

/-- SMP_FORCE_FAULT: a write of SMP_COEF_CMD (R549). -/
def execSmpForceFault (a : Acc) (key : BitVec 16) (index : Fin 16) := actAll fun s =>
  s.regWrite a SMP_COEF_CMD (cmdWord key (index.val * 256 + 2))

/-- DAC_UNDERRUN (R538). -/
def execDacUnderrun (channel : Fin 2) := act fun s => s.dacUnderrun channel.val

/-- SMP_STREAM_UNIT (R554, R555); the stream port of an isolated region has no room. -/
def execSmpStreamUnit (rf clip room : Bool) := act fun s => s.smpUnit rf clip (room && s.portLive 0)

end Sys2Proof.Machine
end

