-- ==== Sys2Proof/Machine/WatchCmds.lean ====
section
/-! DEFINITION. The commands of the Watch domain and the harvester (R101 to R148, R942, R943). -/
namespace Sys2Proof.Machine

/-- WATCH_SECOND: the two copies are compared (R106). -/
def execWatchSecond := act fun s => s.onWatch fun s => s.watchSecond s.fix.sec

/-- XTAL_STOP (R109). -/
def execXtalStop := act fun s => s.onWatch fun s => s.xtalStop

/-- XTAL_RESTORED (R110). -/
def execXtalRestored (holdSeconds : Nat) := act fun s => s.onWatch fun s => s.xtalRestored holdSeconds

/-- WCH_COMMIT: a write of WCH_SET_CMD.COMMIT (R111). -/
def execWchCommit (a : Acc) := actAll fun s => s.regWrite a WCH_SET_CMD 1

/-- WATCH_TIME_SET (R111). -/
def execWatchTimeSet := act fun s => s.onWatch fun s => s.watchTimeSet

/-- LOG_WRITE (R115). -/
def execLogWrite := act fun s => s.onWatch fun s => s.logWrite

/-- LOG_CLEAR_PINNED (R942). -/
def execLogClearPinned (a : Acc) := actAll fun s => s.regWrite a LOG_CMD 1

/-- LOG_CLEAR_ALL (R942). -/
def execLogClearAll (a : Acc) := actAll fun s => s.regWrite a LOG_CMD 2

/-- TAMPER_EVENT (R120); an erase that it asks for is carried out at once where the security domain has power. -/
def execTamperEvent (n : Fin 4) := actAll fun s => s.onWatch fun s => (s.tamperEvent n.val).tamperErase

/-- TAMPER_ERASE (R122). -/
def execTamperErase := actAll fun s => s.onWatch fun s => s.tamperErase

/-- WAKE_TIMER_WRITE (R123). -/
def execWakeTimerWrite (a : Acc) (value : Word) := actAll fun s => s.regWrite a WCH_WAKE_TIMER value

/-- WAKE_TIMER_EXPIRY (R123). -/
def execWakeTimerExpiry := act fun s => s.onWatch fun s => s.timerExpiry

/-- HRV_SAMPLE (R133). -/
def execHrvSample (lv : SupplyLevels) (inputMv : Nat) := act fun s => s.onWatch fun s => s.hrvSample lv inputMv

/-- WATCH_RAIL_DROOP (R126). -/
def execWatchRailDroop (lv : SupplyLevels) := act fun s => s.onWatch fun s => s.supplySelect lv

/-- HRV_TRACK (R134). -/
def execHrvTrack (vocMv freqDeciHz : Nat) := act fun s => s.onWatch fun s => s.hrvTrack vocMv freqDeciHz

/-- HRV_THRESH_WRITE (R943). -/
def execHrvThreshWrite (a : Acc) (value : Word) := actAll fun s => s.regWrite a HRV_THRESH value

/-- WATCH_COLD (R148). -/
def execWatchCold (src : Supply) := act fun s => s.watchCold src

/-- WATCH_DOMAIN_DOWN (R127). -/
def execWatchDomainDown (inputMv : Nat) := act fun s => s.onWatch fun s => s.watchDown inputMv

end Sys2Proof.Machine
end

