-- ==== Sys2Proof/Machine/WearCmds.lean ====
section
/-! DEFINITION. The commands of the wear sensors and the long-run counts (R897 to R912). -/
namespace Sys2Proof.Machine

/-- WEAR_MEASURE: a write of WEAR_CMD (R905). -/
def execWearMeasure (a : Acc) (key : BitVec 16) := actAll fun s => s.regWrite a WEAR_CMD (cmdWord key 1)

/-- WEAR_SCHEDULE (R905). -/
def execWearSchedule := act fun s => s.wearSchedule

/-- WEAR_MEASURE_DONE (R904, R906). -/
def execWearMeasureDone (pairs : List WearCount) := act fun s => s.wearDone pairs

/-- TJ_MINUTE: the readings of the sensors, of which the highest counts (R909). -/
def execTjMinute (celsius : List Int) := act fun s => s.tjMinute (celsius.foldl max (-273))

end Sys2Proof.Machine
end

