-- ==== Sys2Proof/Machine/Dispatch.lean ====
section
/-!
DEFINITION. The dispatch: one direct call of a meaning per command, in the order of spec/opcode_table.json.
-/
namespace Sys2Proof.Machine

def exec (i : Instr) (s : State) : Host.Outcome State Fault Refusal :=
  match i with
  | .registerWrite a addr value => Sys2Proof.Machine.execRegisterWrite a addr value s
  | .rcRead m parityFlips addr => Sys2Proof.Machine.execRcRead m parityFlips addr s
  | .wchTimeSnapshot m => Sys2Proof.Machine.execWchTimeSnapshot m s
  | .fixTimeSnapshot m => Sys2Proof.Machine.execFixTimeSnapshot m s
  | .fsAccess a write addr value ack => Sys2Proof.Machine.execFsAccess a write addr value ack s
  | .fsTimeout m => Sys2Proof.Machine.execFsTimeout m s
  | .porstNRelease mode monEn => Sys2Proof.Machine.execPorstNRelease mode monEn s
  | .powerGood mode monEn => Sys2Proof.Machine.execPowerGood mode monEn s
  | .porstNAssert => Sys2Proof.Machine.execPorstNAssert s
  | .coreDrop => Sys2Proof.Machine.execCoreDrop s
  | .auxLost storeMv vbatMv => Sys2Proof.Machine.execAuxLost storeMv vbatMv s
  | .retentionLost mv auxToo storeMv vbatMv => Sys2Proof.Machine.execRetentionLost mv auxToo storeMv vbatMv s
  | .domainPowerUp d => Sys2Proof.Machine.execDomainPowerUp d s
  | .domainPowerLoss rail => Sys2Proof.Machine.execDomainPowerLoss rail s
  | .watchRequest a value => Sys2Proof.Machine.execWatchRequest a value s
  | .watchNLow => Sys2Proof.Machine.execWatchNLow s
  | .vmonLow => Sys2Proof.Machine.execVmonLow s
  | .vmonHigh => Sys2Proof.Machine.execVmonHigh s
  | .vmonFilterExpiry => Sys2Proof.Machine.execVmonFilterExpiry s
  | .graceExpiry => Sys2Proof.Machine.execGraceExpiry s
  | .watchDrainEnd us => Sys2Proof.Machine.execWatchDrainEnd us s
  | .wakeEvent vmonRose pinRose watchN => Sys2Proof.Machine.execWakeEvent vmonRose pinRose watchN s
  | .wakeCoreSwitched => Sys2Proof.Machine.execWakeCoreSwitched s
  | .wakeRefsQualified => Sys2Proof.Machine.execWakeRefsQualified s
  | .wakePllsLocked => Sys2Proof.Machine.execWakePllsLocked s
  | .wakeScrubDone => Sys2Proof.Machine.execWakeScrubDone s
  | .wakePhaseLate unit us => Sys2Proof.Machine.execWakePhaseLate unit us s
  | .fabricClockRelease us => Sys2Proof.Machine.execFabricClockRelease us s
  | .reloadRequest => Sys2Proof.Machine.execReloadRequest s
  | .reloadNRise => Sys2Proof.Machine.execReloadNRise s
  | .reloadStart mode => Sys2Proof.Machine.execReloadStart mode s
  | .watchReloadRequest => Sys2Proof.Machine.execWatchReloadRequest s
  | .coldLoadStart mode => Sys2Proof.Machine.execColdLoadStart mode s
  | .cfgReloadPrimary a key => Sys2Proof.Machine.execCfgReloadPrimary a key s
  | .cfgReloadGolden a key => Sys2Proof.Machine.execCfgReloadGolden a key s
  | .watchSecond => Sys2Proof.Machine.execWatchSecond s
  | .xtalStop => Sys2Proof.Machine.execXtalStop s
  | .xtalRestored holdSeconds => Sys2Proof.Machine.execXtalRestored holdSeconds s
  | .wchCommit a => Sys2Proof.Machine.execWchCommit a s
  | .watchTimeSet => Sys2Proof.Machine.execWatchTimeSet s
  | .logWrite => Sys2Proof.Machine.execLogWrite s
  | .logClearPinned a => Sys2Proof.Machine.execLogClearPinned a s
  | .logClearAll a => Sys2Proof.Machine.execLogClearAll a s
  | .tamperEvent n => Sys2Proof.Machine.execTamperEvent n s
  | .tamperErase => Sys2Proof.Machine.execTamperErase s
  | .wakeTimerWrite a value => Sys2Proof.Machine.execWakeTimerWrite a value s
  | .wakeTimerExpiry => Sys2Proof.Machine.execWakeTimerExpiry s
  | .hrvSample lv inputMv => Sys2Proof.Machine.execHrvSample lv inputMv s
  | .watchRailDroop lv => Sys2Proof.Machine.execWatchRailDroop lv s
  | .hrvTrack vocMv freqDeciHz => Sys2Proof.Machine.execHrvTrack vocMv freqDeciHz s
  | .hrvThreshWrite a value => Sys2Proof.Machine.execHrvThreshWrite a value s
  | .watchCold src => Sys2Proof.Machine.execWatchCold src s
  | .nvmDiscovery sfdp => Sys2Proof.Machine.execNvmDiscovery sfdp s
  | .chunkRead stored => Sys2Proof.Machine.execChunkRead stored s
  | .headerRecord bytes => Sys2Proof.Machine.execHeaderRecord bytes s
  | .profileRecord => Sys2Proof.Machine.execProfileRecord s
  | .keywrapRecord => Sys2Proof.Machine.execKeywrapRecord s
  | .bandsRecord => Sys2Proof.Machine.execBandsRecord s
  | .pinsRecord => Sys2Proof.Machine.execPinsRecord s
  | .frameRecord => Sys2Proof.Machine.execFrameRecord s
  | .repeatRecord sbe dbe => Sys2Proof.Machine.execRepeatRecord sbe dbe s
  | .fillRecord => Sys2Proof.Machine.execFillRecord s
  | .regionEndRecord => Sys2Proof.Machine.execRegionEndRecord s
  | .maskRecord => Sys2Proof.Machine.execMaskRecord s
  | .slotsRecord => Sys2Proof.Machine.execSlotsRecord s
  | .endRecord => Sys2Proof.Machine.execEndRecord s
  | .fabricRelease us => Sys2Proof.Machine.execFabricRelease us s
  | .cfgAudit a key golden => Sys2Proof.Machine.execCfgAudit a key golden s
  | .auditPeriod => Sys2Proof.Machine.execAuditPeriod s
  | .auditDone header chunks => Sys2Proof.Machine.execAuditDone header chunks s
  | .cfgNvmRead a key => Sys2Proof.Machine.execCfgNvmRead a key s
  | .cfgNvmProgram a key => Sys2Proof.Machine.execCfgNvmProgram a key s
  | .cfgNvmErase a key => Sys2Proof.Machine.execCfgNvmErase a key s
  | .nvmOpDone ok data => Sys2Proof.Machine.execNvmOpDone ok data s
  | .fuseProgram a go => Sys2Proof.Machine.execFuseProgram a go s
  | .fuseDone verified => Sys2Proof.Machine.execFuseDone verified s
  | .pairMismatch region tile cell => Sys2Proof.Machine.execPairMismatch region tile cell s
  | .bramSweepPassEnd region us => Sys2Proof.Machine.execBramSweepPassEnd region us s
  | .deepSweepPassEnd region us => Sys2Proof.Machine.execDeepSweepPassEnd region us s
  | .gholdRelease domain regions => Sys2Proof.Machine.execGholdRelease domain regions s
  | .clockMuxSwitch line sel ce => Sys2Proof.Machine.execClockMuxSwitch line sel ce s
  | .scrubRead region frame flips => Sys2Proof.Machine.execScrubRead region frame flips s
  | .correctionWrite => Sys2Proof.Machine.execCorrectionWrite s
  | .criticalPeriodStart => Sys2Proof.Machine.execCriticalPeriodStart s
  | .scrubPassEnd region ns => Sys2Proof.Machine.execScrubPassEnd region ns s
  | .prRequest a key region => Sys2Proof.Machine.execPrRequest a key region s
  | .prCancel a key => Sys2Proof.Machine.execPrCancel a key s
  | .prChunk dbe => Sys2Proof.Machine.execPrChunk dbe s
  | .prChecksDone => Sys2Proof.Machine.execPrChecksDone s
  | .prRelease => Sys2Proof.Machine.execPrRelease s
  | .pllApply a n key => Sys2Proof.Machine.execPllApply a n key s
  | .pllUnmute a n key => Sys2Proof.Machine.execPllUnmute a n key s
  | .pllLock n => Sys2Proof.Machine.execPllLock n s
  | .pllLockTimeout n => Sys2Proof.Machine.execPllLockTimeout n s
  | .pllLossOfLock n => Sys2Proof.Machine.execPllLossOfLock n s
  | .refLoss r => Sys2Proof.Machine.execRefLoss r s
  | .refQualified r first khz => Sys2Proof.Machine.execRefQualified r first khz s
  | .bandEntryWrite a n e word value => Sys2Proof.Machine.execBandEntryWrite a n e word value s
  | .steerUpdate => Sys2Proof.Machine.execSteerUpdate s
  | .sourceValid n => Sys2Proof.Machine.execSourceValid n s
  | .sourceInvalid n => Sys2Proof.Machine.execSourceInvalid n s
  | .sourceQualified n => Sys2Proof.Machine.execSourceQualified n s
  | .selectionHoldEnd => Sys2Proof.Machine.execSelectionHoldEnd s
  | .slewEnd => Sys2Proof.Machine.execSlewEnd s
  | .freezeTimeout => Sys2Proof.Machine.execFreezeTimeout s
  | .fixSet a key => Sys2Proof.Machine.execFixSet a key s
  | .ptpSubmit a withdrawToo => Sys2Proof.Machine.execPtpSubmit a withdrawToo s
  | .ptpWithdraw a => Sys2Proof.Machine.execPtpWithdraw a s
  | .ppsInEdge edgeNs rising cycles => Sys2Proof.Machine.execPpsInEdge edgeNs rising cycles s
  | .deviceTimeSecond => Sys2Proof.Machine.execDeviceTimeSecond s
  | .ppsOutEnd => Sys2Proof.Machine.execPpsOutEnd s
  | .timeVote copy => Sys2Proof.Machine.execTimeVote copy s
  | .lnkCfgWrite a lane value => Sys2Proof.Machine.execLnkCfgWrite a lane value s
  | .ethRxFrame lane frame codeError fecCorr fecUncorr room => Sys2Proof.Machine.execEthRxFrame lane frame codeError fecCorr fecUncorr room s
  | .ethTxSubmit lane frame tag tsReq => Sys2Proof.Machine.execEthTxSubmit lane frame tag tsReq s
  | .ethTxStart lane => Sys2Proof.Machine.execEthTxStart lane s
  | .txtsPop m lane => Sys2Proof.Machine.execTxtsPop m lane s
  | .prbsClear a lane value => Sys2Proof.Machine.execPrbsClear a lane value s
  | .prbsLock lane locked bits errors => Sys2Proof.Machine.execPrbsLock lane locked bits errors s
  | .eyeScanStart a lane value => Sys2Proof.Machine.execEyeScanStart a lane value s
  | .eyeScanDone lane errors => Sys2Proof.Machine.execEyeScanDone lane errors s
  | .trainingLock lane peerCap => Sys2Proof.Machine.execTrainingLock lane peerCap s
  | .rateStepSwitch lane => Sys2Proof.Machine.execRateStepSwitch lane s
  | .rateStepEnd lane checkerLocked bits errors peerFail => Sys2Proof.Machine.execRateStepEnd lane checkerLocked bits errors peerFail s
  | .laneSettle lane => Sys2Proof.Machine.execLaneSettle lane s
  | .bringupRetry lane => Sys2Proof.Machine.execBringupRetry lane s
  | .losDeclare lane => Sys2Proof.Machine.execLosDeclare lane s
  | .losClear lane => Sys2Proof.Machine.execLosClear lane s
  | .cdrLoss lane => Sys2Proof.Machine.execCdrLoss lane s
  | .helloFrame port second frame => Sys2Proof.Machine.execHelloFrame port second frame s
  | .portKeyed port => Sys2Proof.Machine.execPortKeyed port s
  | .rekeyTrigger port => Sys2Proof.Machine.execRekeyTrigger port s
  | .brgRekey a key ports => Sys2Proof.Machine.execBrgRekey a key ports s
  | .rekeyFrame port second frame => Sys2Proof.Machine.execRekeyFrame port second frame s
  | .rekeyAckFrame port second frame => Sys2Proof.Machine.execRekeyAckFrame port second frame s
  | .oldSlotErase port => Sys2Proof.Machine.execOldSlotErase port s
  | .rekeyRetry port => Sys2Proof.Machine.execRekeyRetry port s
  | .brgDataFrame port second frame aborted room => Sys2Proof.Machine.execBrgDataFrame port second frame aborted room s
  | .brgTxSubmit cls dst bcast channel tag payload => Sys2Proof.Machine.execBrgTxSubmit cls dst bcast channel tag payload s
  | .brgTxStart port => Sys2Proof.Machine.execBrgTxStart port s
  | .brgCancel cls tag => Sys2Proof.Machine.execBrgCancel cls tag s
  | .timeReqTimer port => Sys2Proof.Machine.execTimeReqTimer port s
  | .timeReqFrame port second frame => Sys2Proof.Machine.execTimeReqFrame port second frame s
  | .timeRespFrame port second frame => Sys2Proof.Machine.execTimeRespFrame port second frame s
  | .masterTimeout port => Sys2Proof.Machine.execMasterTimeout port s
  | .readyTimer => Sys2Proof.Machine.execReadyTimer s
  | .readyFrame src version golden => Sys2Proof.Machine.execReadyFrame src version golden s
  | .landfallTimeout => Sys2Proof.Machine.execLandfallTimeout s
  | .landfallFrame excluded => Sys2Proof.Machine.execLandfallFrame excluded s
  | .landfallRepeat => Sys2Proof.Machine.execLandfallRepeat s
  | .brgAdmit a key id => Sys2Proof.Machine.execBrgAdmit a key id s
  | .admitFrame id => Sys2Proof.Machine.execAdmitFrame id s
  | .portDown port => Sys2Proof.Machine.execPortDown port s
  | .dGo via page value => Sys2Proof.Machine.execDGo via page value s
  | .dCancel via page => Sys2Proof.Machine.execDCancel via page s
  | .qSubmit via page value => Sys2Proof.Machine.execQSubmit via page value s
  | .qCancel via page tag => Sys2Proof.Machine.execQCancel via page tag s
  | .cphOpStart => Sys2Proof.Machine.execCphOpStart s
  | .cphOpComplete datapath mismatch bufferDbe => Sys2Proof.Machine.execCphOpComplete datapath mismatch bufferDbe s
  | .qCmpPop m page => Sys2Proof.Machine.execQCmpPop m page s
  | .kWrite a page key slot => Sys2Proof.Machine.execKWrite a page key slot s
  | .kRandom a page key slot => Sys2Proof.Machine.execKRandom a page key slot s
  | .kDerive a page key parent slot => Sys2Proof.Machine.execKDerive a page key parent slot s
  | .kErase a page key slot => Sys2Proof.Machine.execKErase a page key slot s
  | .shadowTakeEffect slot => Sys2Proof.Machine.execShadowTakeEffect slot s
  | .cphZeroize a key => Sys2Proof.Machine.execCphZeroize a key s
  | .rngHealthFail test => Sys2Proof.Machine.execRngHealthFail test s
  | .slotCheck slot word badBits => Sys2Proof.Machine.execSlotCheck slot word badBits s
  | .gcmMask lmd slot fixed => Sys2Proof.Machine.execGcmMask lmd slot fixed s
  | .helloSeed => Sys2Proof.Machine.execHelloSeed s
  | .loginChallenge => Sys2Proof.Machine.execLoginChallenge s
  | .loginResponse bytes => Sys2Proof.Machine.execLoginResponse bytes s
  | .challengeExpiry => Sys2Proof.Machine.execChallengeExpiry s
  | .soundWindowEnd rf est clip power => Sys2Proof.Machine.execSoundWindowEnd rf est clip power s
  | .trimStepEnd rf => Sys2Proof.Machine.execTrimStepEnd rf s
  | .handoverRampEnd chain => Sys2Proof.Machine.execHandoverRampEnd chain s
  | .monitorWindowEnd rf stats clipped => Sys2Proof.Machine.execMonitorWindowEnd rf stats clipped s
  | .smpApply a key index => Sys2Proof.Machine.execSmpApply a key index s
  | .smpLoad a key index => Sys2Proof.Machine.execSmpLoad a key index s
  | .smpForceFault a key index => Sys2Proof.Machine.execSmpForceFault a key index s
  | .ddcRetune a d value => Sys2Proof.Machine.execDdcRetune a d value s
  | .retuneApply d => Sys2Proof.Machine.execRetuneApply d s
  | .ddcSwap a d value => Sys2Proof.Machine.execDdcSwap a d value s
  | .swapApply d => Sys2Proof.Machine.execSwapApply d s
  | .ddcHopStart a d value => Sys2Proof.Machine.execDdcHopStart a d value s
  | .ddcHopStop a d value => Sys2Proof.Machine.execDdcHopStop a d value s
  | .hopAdvance d => Sys2Proof.Machine.execHopAdvance d s
  | .ddcUnitComplete d room => Sys2Proof.Machine.execDdcUnitComplete d room s
  | .coefWrite a d t value => Sys2Proof.Machine.execCoefWrite a d t value s
  | .tableCheck table addr double => Sys2Proof.Machine.execTableCheck table addr double s
  | .floodWindowEnd u samples blanked power => Sys2Proof.Machine.execFloodWindowEnd u samples blanked power s
  | .floodClear u => Sys2Proof.Machine.execFloodClear u s
  | .carrierLock c => Sys2Proof.Machine.execCarrierLock c s
  | .carrierLockLoss c => Sys2Proof.Machine.execCarrierLockLoss c s
  | .cpdFrame c periods room => Sys2Proof.Machine.execCpdFrame c periods room s
  | .rdsGroup c blockA blockB blockC blockD room => Sys2Proof.Machine.execRdsGroup c blockA blockB blockC blockD room s
  | .drmFac c bits serviceId crcOk room => Sys2Proof.Machine.execDrmFac c bits serviceId crcOk room s
  | .drmSdc c bytes crcOk time afHz room => Sys2Proof.Machine.execDrmSdc c bytes crcOk time afHz room s
  | .drmMsc c bytes facOk erasedTenths room => Sys2Proof.Machine.execDrmMsc c bytes facOk erasedTenths room s
  | .audioUnit c blanked room => Sys2Proof.Machine.execAudioUnit c blanked room s
  | .scanCycle c => Sys2Proof.Machine.execScanCycle c s
  | .afLossTimeout c => Sys2Proof.Machine.execAfLossTimeout c s
  | .identTimeout c => Sys2Proof.Machine.execIdentTimeout c s
  | .afBadExpiry c e => Sys2Proof.Machine.execAfBadExpiry c e s
  | .carrierIntervalEnd c offset samples blanked => Sys2Proof.Machine.execCarrierIntervalEnd c offset samples blanked s
  | .lmdTxSubmit t payload rate tag => Sys2Proof.Machine.execLmdTxSubmit t payload rate tag s
  | .burstStart t => Sys2Proof.Machine.execBurstStart t s
  | .burstEnd t => Sys2Proof.Machine.execBurstEnd t s
  | .lmdTxCancel t tag => Sys2Proof.Machine.execLmdTxCancel t tag s
  | .tpBlockStart t mismatch => Sys2Proof.Machine.execTpBlockStart t mismatch s
  | .tpcmdChange t vector mismatch => Sys2Proof.Machine.execTpcmdChange t vector mismatch s
  | .preambleDetect r slot corr => Sys2Proof.Machine.execPreambleDetect r slot corr s
  | .rxBurst r header payload snr room => Sys2Proof.Machine.execRxBurst r header payload snr room s
  | .rxGuardBlock r coded erased preempted snr => Sys2Proof.Machine.execRxGuardBlock r coded erased preempted snr s
  | .rxCommandBlock r coded erased preempted truncated snr => Sys2Proof.Machine.execRxCommandBlock r coded erased preempted truncated snr s
  | .rxStartBlock r coded erased preempted snr => Sys2Proof.Machine.execRxStartBlock r coded erased preempted snr s
  | .cmdHoldExpiry r => Sys2Proof.Machine.execCmdHoldExpiry r s
  | .guardLossExpiry r => Sys2Proof.Machine.execGuardLossExpiry r s
  | .rxResyncTimeout r => Sys2Proof.Machine.execRxResyncTimeout r s
  | .maskWindowEnd paHigh sent bins total => Sys2Proof.Machine.execMaskWindowEnd paHigh sent bins total s
  | .txRestart a key => Sys2Proof.Machine.execTxRestart a key s
  | .rxResync a key r => Sys2Proof.Machine.execRxResync a key r s
  | .rampUpDone t => Sys2Proof.Machine.execRampUpDone t s
  | .rampDownDone t => Sys2Proof.Machine.execRampDownDone t s
  | .lmdChannelWrite a addr value => Sys2Proof.Machine.execLmdChannelWrite a addr value s
  | .sptStart a n => Sys2Proof.Machine.execSptStart a n s
  | .sptStop a n => Sys2Proof.Machine.execSptStop a n s
  | .sptCancel a n => Sys2Proof.Machine.execSptCancel a n s
  | .sptRunning n half rateHz => Sys2Proof.Machine.execSptRunning n half rateHz s
  | .sptFrame n half0 half1 rateHz rise fall room beats => Sys2Proof.Machine.execSptFrame n half0 half1 rateHz rise fall room beats s
  | .sptClockLoss n bck => Sys2Proof.Machine.execSptClockLoss n bck s
  | .sptReleaseEnd n => Sys2Proof.Machine.execSptReleaseEnd n s
  | .pinModeChange a bank value => Sys2Proof.Machine.execPinModeChange a bank value s
  | .pinClaimChange a bank value => Sys2Proof.Machine.execPinClaimChange a bank value s
  | .bankIoUp bank => Sys2Proof.Machine.execBankIoUp bank s
  | .bankIoDown bank => Sys2Proof.Machine.execBankIoDown bank s
  | .bnRead bnA eccErrors => Sys2Proof.Machine.execBnRead bnA eccErrors s
  | .bnApertureWrite bnA data be par => Sys2Proof.Machine.execBnApertureWrite bnA data be par s
  | .bnPage1Write bnA data be par => Sys2Proof.Machine.execBnPage1Write bnA data be par s
  | .writeQueueDrain => Sys2Proof.Machine.execWriteQueueDrain s
  | .binIndRead => Sys2Proof.Machine.execBinIndRead s
  | .binIndWrite strobe => Sys2Proof.Machine.execBinIndWrite strobe s
  | .indComplete ack => Sys2Proof.Machine.execIndComplete ack s
  | .mirrorWrite word data be => Sys2Proof.Machine.execMirrorWrite word data be s
  | .hostMirrorWrite word data be par room => Sys2Proof.Machine.execHostMirrorWrite word data be par room s
  | .mdbRise => Sys2Proof.Machine.execMdbRise s
  | .apFillDone aperture => Sys2Proof.Machine.execApFillDone aperture s
  | .bnLatchExpiry => Sys2Proof.Machine.execBnLatchExpiry s
  | .monHelp cmd => Sys2Proof.Machine.execMonHelp cmd s
  | .monLogin => Sys2Proof.Machine.execMonLogin s
  | .monLoginResponse bytes => Sys2Proof.Machine.execMonLoginResponse bytes s
  | .monLoginOff => Sys2Proof.Machine.execMonLoginOff s
  | .monStatus => Sys2Proof.Machine.execMonStatus s
  | .monPeek addr n => Sys2Proof.Machine.execMonPeek addr n s
  | .monPoke addr value => Sys2Proof.Machine.execMonPoke addr value s
  | .monFill addr n value => Sys2Proof.Machine.execMonFill addr n value s
  | .monFault => Sys2Proof.Machine.execMonFault s
  | .monFaultClear => Sys2Proof.Machine.execMonFaultClear s
  | .monLog pinned n => Sys2Proof.Machine.execMonLog pinned n s
  | .monLanes lane => Sys2Proof.Machine.execMonLanes lane s
  | .monEye lane p0 p1 v0 v1 dwell => Sys2Proof.Machine.execMonEye lane p0 p1 v0 v1 dwell s
  | .monSound set => Sys2Proof.Machine.execMonSound set s
  | .monSoundApply set c => Sys2Proof.Machine.execMonSoundApply set c s
  | .monSoundForce slice => Sys2Proof.Machine.execMonSoundForce slice s
  | .monBands pll => Sys2Proof.Machine.execMonBands pll s
  | .monBandsWrite pll entry code fmin fmax => Sys2Proof.Machine.execMonBandsWrite pll entry code fmin fmax s
  | .monFix => Sys2Proof.Machine.execMonFix s
  | .monImage frames => Sys2Proof.Machine.execMonImage frames s
  | .monImageAudit golden => Sys2Proof.Machine.execMonImageAudit golden s
  | .monImageReload golden => Sys2Proof.Machine.execMonImageReload golden s
  | .monPartial => Sys2Proof.Machine.execMonPartial s
  | .monPartialLoad region bank => Sys2Proof.Machine.execMonPartialLoad region bank s
  | .monPartialCancel => Sys2Proof.Machine.execMonPartialCancel s
  | .monSlots slot key => Sys2Proof.Machine.execMonSlots slot key s
  | .monSlotsErase => Sys2Proof.Machine.execMonSlotsErase s
  | .monSlotsZero => Sys2Proof.Machine.execMonSlotsZero s
  | .monAbort => Sys2Proof.Machine.execMonAbort s
  | .monIdleExpiry => Sys2Proof.Machine.execMonIdleExpiry s
  | .monLockoutEnd => Sys2Proof.Machine.execMonLockoutEnd s
  | .endControl a key => Sys2Proof.Machine.execEndControl a key s
  | .faultReport n inst detail source => Sys2Proof.Machine.execFaultReport n inst detail source s
  | .grdClear a key => Sys2Proof.Machine.execGrdClear a key s
  | .grdInject a key cls => Sys2Proof.Machine.execGrdInject a key cls s
  | .healthPulseEnd n => Sys2Proof.Machine.execHealthPulseEnd n s
  | .healthPadMismatch padHigh => Sys2Proof.Machine.execHealthPadMismatch padHigh s
  | .selftestPartDone part failing => Sys2Proof.Machine.execSelftestPartDone part failing s
  | .railExcursion rail mv => Sys2Proof.Machine.execRailExcursion rail mv s
  | .tempExcursion sensor celsius => Sys2Proof.Machine.execTempExcursion sensor celsius s
  | .logCrcScan => Sys2Proof.Machine.execLogCrcScan s
  | .hkDisagree copy unit bits => Sys2Proof.Machine.execHkDisagree copy unit bits s
  | .hkResyncDone copy => Sys2Proof.Machine.execHkResyncDone copy s
  | .wearMeasure a key => Sys2Proof.Machine.execWearMeasure a key s
  | .wearSchedule => Sys2Proof.Machine.execWearSchedule s
  | .wearMeasureDone pairs => Sys2Proof.Machine.execWearMeasureDone pairs s
  | .tjMinute celsius => Sys2Proof.Machine.execTjMinute celsius s
  | .watchDomainDown inputMv => Sys2Proof.Machine.execWatchDomainDown inputMv s
  | .railReturn rail => Sys2Proof.Machine.execRailReturn rail s
  | .laneSync lane synced fecAligned => Sys2Proof.Machine.execLaneSync lane synced fecAligned s
  | .fmLock c locked stereo => Sys2Proof.Machine.execFmLock c locked stereo s
  | .drmLock c mode locked => Sys2Proof.Machine.execDrmLock c mode locked s
  | .cpdSyncDetect c periods => Sys2Proof.Machine.execCpdSyncDetect c periods s
  | .commandLine line framingErrors => Sys2Proof.Machine.execCommandLine line framingErrors s
  | .dacUnderrun channel => Sys2Proof.Machine.execDacUnderrun channel s
  | .smpStreamUnit rf clip room => Sys2Proof.Machine.execSmpStreamUnit rf clip room s

end Sys2Proof.Machine
end

