-- ==== Sys2Proof/Machine/Idle.lean ====
section
/-!
DEFINITION. What time does while no command waits (DESIGN CHOICE): one tick of the 32.768 kHz crystal, or one period of the RC
oscillator that stands in for it, passes. How many edges of each other clock fall into the tick, and what user logic does at them, is free.
-/
namespace Sys2Proof.Machine

/-! ### Stream ports (R30 to R32) -/

/-- Free beats of the hard block's buffer behind a port on which the fabric is the source; 0 while the block holds READY low (R32, R400, R457,
R677, R751). -/
def State.streamFree (s : State) (p : Nat) : Nat :=
  if 24 ≤ p ∧ p < 48 then
    let n := (s.lane (p - 24)).queued
    if ethBuffer < n + ethMax then 0 else (ethBuffer - n) / 8
  else if 51 ≤ p ∧ p < 54 then
    if brgQueueMax (p - 51) ≤ s.brgQueued (p - 51) then 0 else streamCap p
  else if 72 ≤ p ∧ p < 74 then
    let q := (s.tx (p - 72)).queue
    let n : Nat := (q.map fun (f : LmdFrame) => f.payload.length).sum
    if 8 ≤ q.length ∨ 16384 < n + 2047 then 0 else (16384 - n) / 4
  else if 76 ≤ p ∧ p < 84 then 64 - (s.sp (p - 76)).buf.length
  else streamCap p

/-- One edge of stream port `p`, its READY free: the port's clock runs while its region is in service and the fabric clocks have not
stopped. -/
def State.portEdge (s : State) (p : Nat) : State :=
  let ready := s.draw % 2 == 1
  s.iff (s.portLive (streamRegion p) && s.inService && !s.pwr.graceOver) fun s =>
    if s.fabricSource p then s.drawn.streamGrant p (s.streamFree p) ready else s.drawn.streamOut p ready

/-- `n` edges of port `p`. -/
def State.portEdges (s : State) (p : Nat) : Nat → State
  | 0 => s
  | n + 1 => (s.portEdge p).portEdges p n

/-- The tick of every stream port; completion records that waited for room are posted (R512). -/
def State.streamTick (s : State) : State := (s.each (List.range 85) fun s p => s.drawn.portEdges p s.draw).cphPost

/-! ### Signal paths -/

/-- One instant of the DAC stream: the fabric's port has a beat, or a channel that takes it underruns (R536, R538). -/
def State.dacInstant (s : State) : State :=
  if s.draw % 2 = 1 then s.drawn.drawn.dacBeat (BitVec.ofNat 32 s.drawn.draw) else (s.drawn.dacUnderrun 0).dacUnderrun 1

/-- `n` instants. -/
def State.dacInstants (s : State) : Nat → State
  | 0 => s
  | n + 1 => s.dacInstant.dacInstants n

/-- Samples pass the DDCs, none of whose units ends, and the modem's receivers; a receiver in TP mode may meet a block boundary, at which it takes
its settings (R722). -/
def State.signalTick (s : State) : State :=
  let s := s.each (List.range 8) fun s d => s.ddcSome d
  let s := s.each [0, 1] fun s r => (s.drawn.rxPass r s.draw).iff (s.draw % 2 == 1) (·.rxBlockEnd r)
  s.drawn.dacInstants s.draw

/-! ### Lines -/

/-- A lane sends training words or the bits of its generator, as many as the tick holds (R405, R412). -/
def State.laneTick (s : State) (n : Nat) : State := ((s.trainingSend n).drawn.prbsSend n s.draw)

/-! ### The tick -/

/-- The fabric's tick: what user logic does at its clock edges, upsets, and the slots of the scrub timetable (R219 to R279, R280 to R316). -/
def State.fabricTick (s : State) : State :=
  let s := s.drawn.logicRun s.draw
  s.drawn.scrubSlots s.draw

/-- One tick: watch time and the wake timer advance where the crystal runs (R103, R123), device time by the OSC_LOCAL_IN cycles of
the tick, fewer than 4,096, whose number is free (R347, R938); then the fabric, the streams, the signal paths and the lanes. -/
def State.idle (s : State) : State :=
  let s := (s.withOut []).withNow (s.now + 1)
  let s := s.iff (s.wch.up && s.xtalOk) fun s => s.watchTick.timerTick
  let s := s.drawn.deviceRun (s.draw % 4096)
  let s := s.fabricTick.streamTick.signalTick
  (s.each (List.range 24) fun s n => s.laneTick n).settle

end Sys2Proof.Machine
end

