-- ==== Sys2Proof/Safety.lean ====
section
/-!
DEFINITION. What counts as a well-kept state: the canonical form of everything that is held as sparse cells, and the bounds of the
queues and buffers that the spec limits.
-/
namespace Sys2Proof.Machine

/-- The fabric's flip-flops, crossings, memories, port outputs, sweep positions and slice stages are in canonical form. -/
def LogicState.wf (l : LogicState) : Bool :=
  cellWf l.ff && cellWf l.cross && cellWf l.bram && cellWf l.bramBad && cellWf l.bramOut && cellWf l.bramPos && cellWf l.deepBad &&
  cellWf l.deepOut && cellWf l.deepCyc && cellWf l.deepPos && cellWf l.slices

/-- The configuration frames and their wrong bits are in canonical form. -/
def FabState.wf (f : FabState) : Bool := cellWf f.frames && cellWf f.upsets

/-- Every sparse memory is in its canonical form: addresses strictly rising, no entry equal to what an unlisted address reads as. -/
def State.cellsWf (s : State) : Bool :=
  cellWf s.regs && cellWf s.mask && Memory.wf s.deep && cellWf s.bin.mirror && s.lgc.wf && s.fab.wf

/-- The block runs: a step from it answers a next state. -/
def State.goesOn (s : State) : Prop := ∃ t, step s = .next t

/-- The command answers a next state, and `P` holds of it. -/
def Gives (i : Instr) (s : State) (P : State → Prop) : Prop := ∃ t, exec i s = .next t ∧ P t

/-- What is left where a command acts on nothing: the levels that follow the state are up to date, and nothing was sent out. -/
def State.quiet (s : State) : State := (s.withOut []).settle

/-- The bus takes a whole-word write of `acc` to the register at `a`: the bus runs and the master waits for no other access, parity is
good, every byte is strobed, the register's domain is up, and its writers column names the master (R12, R25, R27, R58, R940). -/
def State.commandOk (s : State) (acc : Acc) (a : Nat) : Bool :=
  s.busTakes acc.master.val && acc.addrFlips == 0 && acc.dataFlips == 0 && acc.strobe == 0xF && s.domainUp a &&
  (rowOf a).any fun r => s.mayWrite r acc.master.val a

/-- The registers whose levels `settle` brings up to date. -/
def levelRegs : List Nat := [GRD_STATUS, SYS_SERVICE, GRD_EVENT, BIN_IRQ_STATUS]

/-- Every register reads in `t` as in `s`, but for those listed and the levels. -/
def State.onlyRegs (s t : State) (as : List Nat) : Prop := ∀ a, a ∉ as → a ∉ levelRegs → t.word a = s.word a

end Sys2Proof.Machine
end

