-- ==== Sys2Proof/Certificates/Slice0/Obligations.lean ====
section
/-!
DEFINITION. The statements for the provers: for every family of commands what its commands do where the spec says they act, and what the
block keeps. `Gives c s P` says that command `c` answers a next state and that `P` holds of it.
-/
open Sys2Proof Sys2Proof.Machine

/-! ### The block as a whole -/

/-- A step with a command waiting carries out the oldest one, with the rest of the queue. -/
def Obligations.StepCarriesOutTheFrontCommand : Prop :=
∀ (s : State) (c : Instr), step { s with pending := c :: s.pending } = exec c s

/-- On an empty queue time passes (the model's choice, log entries 3 and 5): one tick is counted, the queue stays empty, and what a tick
brings on its own (watch time and device time, the fabric, the streams, the lanes' line coding, the sampled signals) changes none of: the
power state, the write mask, the power controller, the register bus, the load, the Bearing link, the samplers' rotation, the broadcast
contexts, the modem's transmitters, the sample ports, the pins, the Binnacle port, the PLLs, the Watchkeeper and the wear monitors. -/
def Obligations.EmptyQueueIsOneTick : Prop :=
∀ s : State, s.pending = [] → ∃ t, step s = .next t ∧ t.pending = [] ∧ t.now = s.now + 1 ∧ t.dev = s.dev ∧ t.mask = s.mask ∧
    t.pwr = s.pwr ∧ t.bus = s.bus ∧ t.load = s.load ∧ t.brg = s.brg ∧ t.smp = s.smp ∧ t.ctx = s.ctx ∧ t.scan = s.scan ∧
    t.lmdTx = s.lmdTx ∧ t.spt = s.spt ∧ t.pin = s.pin ∧ t.bin = s.bin ∧ t.pll = s.pll ∧ t.mon = s.mon ∧ t.wear = s.wear

/-- Every step, whatever the queue holds, keeps each sparse memory in its canonical form: registers, write mask, deep memory, the mirror
window, the configuration frames with their wrong bits, and the fabric's flip-flops, crossings, memories and slice stages. -/
def Obligations.StepKeepsCanonicalMemories : Prop :=
∀ s : State, s.cellsWf = true → ∃ t, step s = .next t ∧ t.cellsWf = true

/-- The state after reset has its memories in canonical form and an empty queue; it is Off, and a step from it answers a next state. -/
def Obligations.ResetIsWellKept : Prop :=
State.reset.cellsWf = true ∧ State.reset.pending = [] ∧ State.reset.dev = .off ∧ State.reset.goesOn

/-! ### What a command leaves alone -/

/-- The parts of the state that commands change. -/
inductive Sys2Proof.Machine.Part where
  | regs | mask | fresh | dev | pwr | wch | grd | bus | load | fab | fix | deep | cph | lnk | brg | smp | ddc | ctx | scan | lmdTx
  | lmdRx | spt | pin | bin | pll | mon | wear | str | lgc
deriving DecidableEq, Repr

/-- A part is the same in both states. -/
def Sys2Proof.Machine.Part.same (s t : State) : Part → Prop
  | .regs => t.regs = s.regs
  | .mask => t.mask = s.mask
  | .fresh => t.fresh = s.fresh
  | .dev => t.dev = s.dev
  | .pwr => t.pwr = s.pwr
  | .wch => t.wch = s.wch
  | .grd => t.grd = s.grd
  | .bus => t.bus = s.bus
  | .load => t.load = s.load
  | .fab => t.fab = s.fab
  | .fix => t.fix = s.fix
  | .deep => t.deep = s.deep
  | .cph => t.cph = s.cph
  | .lnk => t.lnk = s.lnk
  | .brg => t.brg = s.brg
  | .smp => t.smp = s.smp
  | .ddc => t.ddc = s.ddc
  | .ctx => t.ctx = s.ctx
  | .scan => t.scan = s.scan
  | .lmdTx => t.lmdTx = s.lmdTx
  | .lmdRx => t.lmdRx = s.lmdRx
  | .spt => t.spt = s.spt
  | .pin => t.pin = s.pin
  | .bin => t.bin = s.bin
  | .pll => t.pll = s.pll
  | .mon => t.mon = s.mon
  | .wear => t.wear = s.wear
  | .str => t.str = s.str
  | .lgc => t.lgc = s.lgc

/-- The parts of the state that a command can change, beside what it sends out. -/
def Sys2Proof.Machine.reach : Instr → List Part
  | .registerWrite _ _ _ | .fsAccess _ _ _ _ _ | .watchRequest _ _ | .cfgReloadPrimary _ _ | .cfgReloadGolden _ _ | .wchCommit _
    | .logClearPinned _ | .logClearAll _ | .wakeTimerWrite _ _ | .hrvThreshWrite _ _ | .cfgAudit _ _ _ | .cfgNvmRead _ _
    | .cfgNvmProgram _ _ | .cfgNvmErase _ _ | .fuseProgram _ _ | .prRequest _ _ _ | .prCancel _ _ | .pllApply _ _ _ | .pllUnmute _ _ _
    | .bandEntryWrite _ _ _ _ _ | .fixSet _ _ | .ptpSubmit _ _ | .ptpWithdraw _ | .lnkCfgWrite _ _ _ | .prbsClear _ _ _
    | .eyeScanStart _ _ _ | .brgRekey _ _ _ | .brgAdmit _ _ _ | .dGo _ _ _ | .dCancel _ _ | .qSubmit _ _ _ | .qCancel _ _ _
    | .kWrite _ _ _ _ | .kRandom _ _ _ _ | .kDerive _ _ _ _ _ | .kErase _ _ _ _ | .cphZeroize _ _ | .smpApply _ _ _ | .smpLoad _ _ _
    | .smpForceFault _ _ _ | .ddcRetune _ _ _ | .ddcSwap _ _ _ | .ddcHopStart _ _ _ | .ddcHopStop _ _ _ | .coefWrite _ _ _ _
    | .txRestart _ _ | .rxResync _ _ _ | .lmdChannelWrite _ _ _ | .sptStart _ _ | .sptStop _ _ | .sptCancel _ _ | .pinModeChange _ _ _
    | .pinClaimChange _ _ _ | .bnPage1Write _ _ _ _ | .writeQueueDrain | .binIndRead | .binIndWrite _ | .indComplete _ | .monPoke _ _
    | .monFill _ _ _ | .monFaultClear | .monEye _ _ _ _ _ _ | .monSoundApply _ _ | .monSoundForce _ | .monBandsWrite _ _ _ _ _
    | .monImageAudit _ | .monImageReload _ | .monPartialLoad _ _ | .monPartialCancel | .monSlotsZero | .endControl _ _ | .grdClear _ _
    | .grdInject _ _ _ | .wearMeasure _ _
      => [.regs, .fresh, .dev, .pwr, .wch, .grd, .bus, .load, .fab, .fix, .deep, .cph, .lnk, .brg, .smp, .ddc, .ctx, .scan, .lmdTx,
          .lmdRx, .spt, .bin, .pll, .mon, .wear, .str, .lgc]
  | .rcRead _ _ _ | .wchTimeSnapshot _ | .fixTimeSnapshot _ | .txtsPop _ _ | .qCmpPop _ _
      => [.regs, .fresh, .wch, .grd, .bus, .fix, .cph, .lnk, .str]
  | .fsTimeout _ => [.regs, .bus, .bin]
  | .porstNRelease _ _ | .powerGood _ _
      => [.regs, .fresh, .dev, .pwr, .wch, .grd, .load, .deep, .cph, .lnk, .brg, .smp, .ddc, .ctx, .scan, .lmdTx, .lmdRx, .pll, .mon,
          .str, .lgc]
  | .porstNAssert | .coreDrop | .auxLost _ _ | .retentionLost _ _ _ _ | .reloadStart _ | .coldLoadStart _
      => [.regs, .mask, .fresh, .dev, .pwr, .wch, .grd, .bus, .load, .fab, .fix, .deep, .cph, .lnk, .brg, .smp, .ddc, .ctx, .scan,
          .lmdTx, .lmdRx, .spt, .pin, .bin, .pll, .mon, .wear, .str, .lgc]
  | .domainPowerUp _ | .railReturn _
      => [.regs, .fresh, .pwr, .wch, .grd, .fix, .cph, .lnk, .brg, .smp, .ddc, .ctx, .scan, .lmdTx, .lmdRx, .mon, .str]
  | .domainPowerLoss _ | .railExcursion _ _
      => [.regs, .fresh, .pwr, .wch, .grd, .fix, .cph, .lnk, .brg, .smp, .ddc, .ctx, .scan, .lmdTx, .lmdRx, .pll, .mon, .str]
  | .watchNLow | .vmonFilterExpiry
      => [.regs, .fresh, .dev, .pwr, .grd, .load, .cph, .lnk, .brg, .smp, .ddc, .ctx, .scan, .lmdTx, .lmdRx, .spt, .mon, .wear, .str]
  | .vmonLow | .vmonHigh | .graceExpiry | .wakeEvent _ _ _ | .wakePllsLocked | .wakeScrubDone | .reloadNRise => [.regs, .pwr]
  | .watchDrainEnd _
      => [.regs, .fresh, .dev, .pwr, .grd, .load, .fab, .fix, .deep, .cph, .lnk, .brg, .smp, .ddc, .ctx, .scan, .lmdTx, .lmdRx, .pin,
          .bin, .pll, .mon, .str, .lgc]
  | .wakeCoreSwitched | .tamperEvent _
      => [.regs, .fresh, .pwr, .wch, .grd, .deep, .cph, .brg, .ddc, .ctx, .scan, .lmdTx, .lmdRx, .mon, .str, .lgc]
  | .wakeRefsQualified => [.regs, .fresh, .pwr, .grd, .cph, .lnk, .brg, .ddc, .ctx, .scan, .lmdTx, .lmdRx, .pll, .mon, .str]
  | .wakePhaseLate _ _ => [.regs, .fresh, .pwr, .grd]
  | .fabricClockRelease _
      => [.regs, .fresh, .dev, .pwr, .wch, .grd, .load, .fab, .fix, .deep, .cph, .lnk, .brg, .smp, .ddc, .ctx, .scan, .lmdTx, .lmdRx,
          .spt, .pin, .bin, .mon, .wear, .str, .lgc]
  | .reloadRequest | .watchReloadRequest
      => [.regs, .fresh, .dev, .pwr, .grd, .load, .cph, .lnk, .brg, .smp, .ddc, .ctx, .scan, .lmdTx, .lmdRx, .spt, .pll, .mon, .wear,
          .str]
  | .watchSecond | .xtalStop | .logWrite | .faultReport _ _ _ _ => [.regs, .wch, .grd]
  | .xtalRestored _ | .watchTimeSet | .hrvSample _ _ | .watchRailDroop _ | .hrvTrack _ _ | .watchCold _ | .watchDomainDown _
      => [.regs, .wch]
  | .tamperErase => [.regs, .fresh, .wch, .grd, .deep, .cph, .brg, .ddc, .ctx, .scan, .lmdTx, .lmdRx, .mon, .str, .lgc]
  | .wakeTimerExpiry => [.regs, .pwr, .wch]
  | .nvmDiscovery _ | .chunkRead _ | .headerRecord _ | .profileRecord | .keywrapRecord | .bandsRecord | .pinsRecord | .regionEndRecord
    | .maskRecord | .slotsRecord => [.regs, .mask, .fresh, .dev, .grd, .load, .cph, .lnk, .brg, .smp, .ddc, .ctx, .lmdTx, .lmdRx, .pll]
  | .frameRecord
      => [.regs, .mask, .fresh, .dev, .grd, .load, .fab, .deep, .cph, .lnk, .brg, .smp, .ddc, .ctx, .lmdTx, .lmdRx, .pll, .lgc]
  | .repeatRecord _ _ | .fillRecord
      => [.regs, .mask, .fresh, .dev, .grd, .load, .fab, .cph, .lnk, .brg, .smp, .ddc, .ctx, .lmdTx, .lmdRx, .pll]
  | .endRecord
      => [.regs, .mask, .fresh, .dev, .grd, .bus, .load, .cph, .lnk, .brg, .smp, .ddc, .ctx, .scan, .lmdTx, .lmdRx, .pll, .mon, .str]
  | .fabricRelease _
      => [.regs, .fresh, .dev, .pwr, .wch, .grd, .load, .fab, .fix, .deep, .cph, .lnk, .brg, .smp, .ddc, .ctx, .scan, .lmdTx, .lmdRx,
          .spt, .pin, .mon, .wear, .str, .lgc]
  | .auditPeriod | .nvmOpDone _ _ | .fuseDone _ => [.regs, .load]
  | .auditDone _ _ => [.regs, .fresh, .grd, .load]
  | .pairMismatch _ _ _ => [.regs, .fresh, .grd, .fab, .lgc]
  | .bramSweepPassEnd _ _ | .deepSweepPassEnd _ _ => [.regs, .fresh, .grd, .deep, .lgc]
  | .gholdRelease _ _ | .clockMuxSwitch _ _ _ => [.regs, .fab]
  | .scrubRead _ _ _ | .correctionWrite | .criticalPeriodStart | .scrubPassEnd _ _ => [.regs, .grd, .fab]
  | .prChunk _ => [.regs, .fresh, .grd, .bus, .load, .fab, .bin, .lgc]
  | .prChecksDone => [.regs, .grd, .bus, .load]
  | .prRelease => [.regs, .grd, .load, .fab, .deep, .str, .lgc]
  | .pllLock _ | .pllLossOfLock _ => [.regs, .fresh, .grd, .cph, .lnk, .brg, .smp, .ddc, .ctx, .scan, .lmdTx, .lmdRx, .pll, .mon, .str]
  | .pllLockTimeout _ => [.regs, .fresh, .grd, .cph, .brg, .ddc, .ctx, .scan, .lmdTx, .lmdRx, .pll, .mon, .str]
  | .refLoss _
      => [.regs, .mask, .fresh, .dev, .grd, .load, .fix, .cph, .lnk, .brg, .smp, .ddc, .ctx, .scan, .lmdTx, .lmdRx, .pll, .mon, .str]
  | .refQualified _ _ _ => [.regs, .fresh, .wch, .grd, .fix, .cph, .lnk, .brg, .ddc, .ctx, .scan, .lmdTx, .lmdRx, .pll, .mon, .str]
  | .steerUpdate => [.regs, .fresh, .fix]
  | .sourceValid _ | .ppsOutEnd => [.regs, .fix]
  | .sourceInvalid _ | .sourceQualified _ | .selectionHoldEnd | .freezeTimeout | .ppsInEdge _ _ _ => [.regs, .wch, .fix]
  | .slewEnd | .prbsLock _ _ _ _ | .floodClear _ | .cmdHoldExpiry _ | .rampUpDone _ | .mdbRise | .dacUnderrun _ => [.regs]
  | .deviceTimeSecond => [.regs, .fresh, .wch, .fix]
  | .timeVote _ | .healthPulseEnd _ | .healthPadMismatch _ | .selftestPartDone _ _ | .tempExcursion _ _ | .logCrcScan
    | .hkDisagree _ _ _ | .hkResyncDone _ => [.regs, .grd]
  | .ethRxFrame _ _ _ _ _ _ | .drmMsc _ _ _ _ _ | .audioUnit _ _ _ => [.regs, .fresh, .str]
  | .ethTxSubmit _ _ _ _ => [.regs, .lnk, .str]
  | .ethTxStart _ => [.regs, .fresh, .lnk]
  | .eyeScanDone _ _
      => [.regs, .fresh, .dev, .pwr, .wch, .grd, .bus, .load, .fab, .fix, .deep, .cph, .lnk, .brg, .smp, .ddc, .ctx, .lmdTx, .lmdRx,
          .spt, .bin, .pll, .mon, .wear, .str, .lgc]
  | .trainingLock _ _ | .rateStepSwitch _ | .rateStepEnd _ _ _ _ _ | .bringupRetry _ | .rekeyRetry _ | .brgTxStart _
      => [.regs, .fresh, .grd, .cph, .lnk, .brg, .ddc, .ctx, .scan, .lmdTx, .lmdRx, .mon, .str]
  | .laneSettle _ | .losClear _ | .portKeyed _ | .rekeyTrigger _ | .brgTxSubmit _ _ _ _ _ _ | .brgCancel _ _ | .timeReqTimer _
    | .readyTimer | .readyFrame _ _ _ | .landfallTimeout | .landfallFrame _ | .landfallRepeat | .admitFrame _ | .shadowTakeEffect _
    | .loginChallenge | .loginResponse _ | .challengeExpiry | .retuneApply _ | .hopAdvance _ | .tableCheck _ _ _ | .drmFac _ _ _ _ _
    | .scanCycle _ | .afLossTimeout _ | .identTimeout _ | .afBadExpiry _ _ | .lmdTxSubmit _ _ _ _ | .lmdTxCancel _ _ | .rampDownDone _
    | .monLogin | .monLoginResponse _ | .monAbort | .monIdleExpiry | .monLockoutEnd | .laneSync _ _ _ | .commandLine _ _
      => [.regs, .fresh, .grd, .cph, .brg, .ddc, .ctx, .scan, .lmdTx, .lmdRx, .mon, .str]
  | .losDeclare _ | .cdrLoss _ => [.regs, .fresh, .wch, .grd, .fix, .cph, .lnk, .brg, .ddc, .ctx, .scan, .lmdTx, .lmdRx, .mon, .str]
  | .helloFrame _ _ _ | .rekeyFrame _ _ _ | .rekeyAckFrame _ _ _ | .brgDataFrame _ _ _ _ _ | .timeReqFrame _ _ _ | .timeRespFrame _ _ _
    | .masterTimeout _ | .portDown _ => [.regs, .fresh, .wch, .grd, .fix, .cph, .brg, .ddc, .ctx, .scan, .lmdTx, .lmdRx, .mon, .str]
  | .oldSlotErase _ | .cphOpComplete _ _ _ | .slotCheck _ _ _ | .monSlotsErase
      => [.regs, .fresh, .grd, .deep, .cph, .brg, .ddc, .ctx, .scan, .lmdTx, .lmdRx, .mon, .str, .lgc]
  | .cphOpStart => [.regs, .cph, .str]
  | .rngHealthFail _ => [.regs, .grd, .cph]
  | .gcmMask _ _ _ => [.regs, .cph]
  | .helloSeed | .tjMinute _ => [.regs, .fresh]
  | .soundWindowEnd _ _ _ _ | .handoverRampEnd _ => [.regs, .smp]
  | .trimStepEnd _ => [.regs, .fresh, .grd, .smp]
  | .monitorWindowEnd _ _ _ => [.regs, .grd, .smp]
  | .swapApply _ => [.regs, .fresh, .ddc]
  | .ddcUnitComplete _ _ => [.regs, .fresh, .ddc, .ctx, .str]
  | .floodWindowEnd _ _ _ _ => [.regs, .wch, .fix, .ctx, .lmdRx]
  | .carrierLock _ | .carrierLockLoss _ | .fmLock _ _ _ | .drmLock _ _ _ => [.regs, .ctx]
  | .cpdFrame _ _ _ | .carrierIntervalEnd _ _ _ _ | .cpdSyncDetect _ _ => [.regs, .fresh, .ctx, .str]
  | .rdsGroup _ _ _ _ _ _ | .drmSdc _ _ _ _ _ _
      => [.regs, .fresh, .grd, .fix, .cph, .brg, .ddc, .ctx, .scan, .lmdTx, .lmdRx, .mon, .str]
  | .burstStart _ => [.regs, .fresh, .lmdTx]
  | .burstEnd _ => [.regs, .lmdTx]
  | .tpBlockStart _ _ | .tpcmdChange _ _ _ => [.regs, .fresh, .grd, .cph, .lmdTx]
  | .preambleDetect _ _ _ | .rxGuardBlock _ _ _ _ _ | .rxCommandBlock _ _ _ _ _ _ | .rxStartBlock _ _ _ _ _ | .guardLossExpiry _
    | .rxResyncTimeout _ => [.regs, .lmdRx]
  | .rxBurst _ _ _ _ _ => [.regs, .fresh, .lmdRx, .str]
  | .maskWindowEnd _ _ _ _ => [.regs, .fresh, .grd, .lmdTx]
  | .sptRunning _ _ _ | .sptClockLoss _ _ | .sptReleaseEnd _ => [.regs, .spt]
  | .sptFrame _ _ _ _ _ _ _ _ => [.regs, .fresh, .spt, .str]
  | .bankIoUp _ => [.regs, .fresh, .pwr, .wch, .grd, .fix, .lnk, .brg, .smp, .ddc, .ctx, .scan, .lmdTx, .lmdRx, .str]
  | .bankIoDown _ => [.regs, .fresh, .pwr, .wch, .grd, .fix, .lnk, .brg, .smp, .ddc, .ctx, .scan, .lmdTx, .lmdRx, .pll]
  | .bnRead _ _ | .bnApertureWrite _ _ _ _ => [.regs, .fresh, .grd, .cph, .brg, .ddc, .ctx, .scan, .lmdTx, .lmdRx, .bin, .mon, .str]
  | .mirrorWrite _ _ _ | .apFillDone _ | .bnLatchExpiry => [.regs, .bin]
  | .hostMirrorWrite _ _ _ _ _ => [.regs, .grd, .str]
  | .monHelp _ | .monLoginOff | .monLog _ _ | .monBands _ => [.regs, .fresh, .grd, .mon]
  | .monStatus | .monPeek _ _ | .monFault | .monLanes _ | .monSound _ | .monFix | .monImage _ | .monPartial | .monSlots _ _
      => [.regs, .fresh, .wch, .grd, .bus, .fix, .cph, .lnk, .mon, .str]
  | .wearSchedule => [.regs, .wear]
  | .wearMeasureDone _ => [.regs, .grd, .wear]
  | .smpStreamUnit _ _ _ => [.regs, .fresh, .smp, .str]

/-- The frame of every command: it changes no part of the state outside its reach, and leaves the queue and the ticks counted alone (what is
sent out and the level of HEALTH are no part of a reach). No bus write, for one, of whatever master, address and value, changes the
write mask, and only the releases and switches change which pins are held. -/
def Obligations.EveryCommandStaysWithinItsReach : Prop :=
  ∀ (c : Instr) (s : State), Gives c s fun t => t.pending = s.pending ∧ t.now = s.now ∧ ∀ p, p ∉ reach c → p.same s t

/-- The block whose registers an event of that block alone can change, for the events that report no fault. -/
def Sys2Proof.Machine.homeBlock : Instr → Option Nat
  | .burstStart _ | .burstEnd _ | .preambleDetect _ _ _ | .rxBurst _ _ _ _ _ | .rxGuardBlock _ _ _ _ _
    | .rxCommandBlock _ _ _ _ _ _ | .rxStartBlock _ _ _ _ _ | .cmdHoldExpiry _ | .guardLossExpiry _ | .rxResyncTimeout _
    | .rampUpDone _ => some 14
  | .sptRunning _ _ _ | .sptFrame _ _ _ _ _ _ _ _ | .sptClockLoss _ _ | .sptReleaseEnd _ => some 15
  | .carrierLock _ | .carrierLockLoss _ | .cpdFrame _ _ _ | .drmMsc _ _ _ _ _ | .audioUnit _ _ _ | .fmLock _ _ _
    | .drmLock _ _ _ | .cpdSyncDetect _ _ => some 13
  | .swapApply _ | .ddcUnitComplete _ _ => some 12
  | .soundWindowEnd _ _ _ _ | .dacUnderrun _ | .smpStreamUnit _ _ _ | .handoverRampEnd _ => some 11
  | .mirrorWrite _ _ _ | .mdbRise | .apFillDone _ | .bnLatchExpiry => some 17
  | .tjMinute _ | .wearSchedule => some 0
  | .ethTxSubmit _ _ _ _ | .ethTxStart _ | .prbsLock _ _ _ _ => some 8
  | .gcmMask _ _ _ | .helloSeed => some 10
  | .steerUpdate | .sourceValid _ | .sourceInvalid _ | .sourceQualified _ | .slewEnd | .selectionHoldEnd | .freezeTimeout
    | .ppsInEdge _ _ _ | .ppsOutEnd => some 7
  | _ => none

/-- An event that belongs to one block and reports no fault changes no register outside that block's window, but for the levels that follow the
state. -/
def Obligations.EventsKeepToTheirBlock : Prop :=
  ∀ (c : Instr) (s : State) (b : Nat), homeBlock c = some b → Gives c s fun t =>
    ∀ a, blockOf a ≠ some b → a ∉ levelRegs → t.word a = s.word a

/-! ### Power, states, wake and reload -/

/-- What Off leaves: everything outside the Watch domain at its reset value, watch time and the fused key kept (R19, R68). -/
def Sys2Proof.Machine.wentOff (s t : State) : Prop :=
  t.dev = .off ∧ t.mask = [] ∧ t.deep = [] ∧ t.load = { LoadState.fresh with fuse := s.load.fuse } ∧ t.wch.aSec = s.wch.aSec ∧
  t.wch.aNs = s.wch.aNs ∧ t.wch.snaps = [] ∧ t.fab = FabState.fresh ∧ t.lgc = LogicState.fresh ∧ t.cph = CphState.fresh ∧
  t.pwr.drain = 0 ∧ t.pwr.reload = 0 ∧ t.health = false ∧
  ∀ a, a < 0x400C0000 → inWatchDomain a = false → a ∉ levelRegs → a ≠ PWR_STATUS → a ≠ PWR_RAILS → a ≠ CFG_KEY_STATE →
    t.word a = State.reset.word a

/-- From Off, the release of PORST_N (or the power-good with PORST_N already high) starts the load with MODE and MON_EN as sampled, and
Loading, or the halt of MODE 0b110 and 0b111, is entered; in any other state either leaves the power state, the load and the power
controller as they are. PORST_N low, the loss of VCC_CORE in service or in a wake whose core is back, of VCC_AUX in any state, and of the
retention voltage in the Watch state lead to Off; VCC_CORE that is removed in the Watch state before the core switches back is no loss. -/
def Obligations.WaysIntoAndOutOfOff : Prop :=
  (∀ (s : State) (mode : BitVec 3) (monEn : Bool),
    (s.dev = .off →
      (Gives (.porstNRelease mode monEn) s fun t => t.dev = (if mode.toNat < 6 then .loading else .halted) ∧ t.pwr.porst = true ∧
        t.pwr.mode = mode ∧ t.pwr.monEn = monEn ∧ t.get CFG_STATUS_MODE = mode.toNat) ∧
      (Gives (.powerGood mode monEn) s fun t => t.dev = (if mode.toNat < 6 then .loading else .halted) ∧ t.pwr.porst = true ∧
        t.pwr.mode = mode ∧ t.pwr.monEn = monEn ∧ t.get CFG_STATUS_MODE = mode.toNat)) ∧
    (s.dev ≠ .off →
      (Gives (.porstNRelease mode monEn) s fun t => t.dev = s.dev ∧ t.load = s.load ∧ t.pwr = s.pwr) ∧
      (Gives (.powerGood mode monEn) s fun t => t.dev = s.dev ∧ t.load = s.load ∧ t.pwr = s.pwr))) ∧
  (∀ s : State,
    (Gives .porstNAssert s fun t => wentOff s t ∧ t.pwr.porst = false) ∧
    (s.inService = true ∨ (s.dev = .watch ∧ 2 ≤ s.pwr.wake) → Gives .coreDrop s fun t => wentOff s t ∧ t.bit PWR_STATUS_CORE_DROP = true) ∧
    (s.dev = .loading ∨ s.dev = .halted → Gives .coreDrop s fun t => wentOff s t) ∧
    (∀ storeMv vbatMv, s.dev ≠ .off → Gives (.auxLost storeMv vbatMv) s fun t => wentOff s t) ∧
    (∀ mv auxToo storeMv vbatMv, s.dev = .watch → Gives (.retentionLost mv auxToo storeMv vbatMv) s fun t => wentOff s t) ∧
    (∀ storeMv vbatMv, s.dev = .watch → s.wch.up = true → s.wch.logq.length < 4 → Gives (.auxLost storeMv vbatMv) s fun t =>
      t.wch.logq = queueEntry s.wch.logq (s.watchItem 0x010B 0 (storeMv % 65536 + vbatMv % 65536 * 65536))) ∧
    (∀ mv storeMv vbatMv, s.dev = .watch → s.wch.up = true → s.wch.logq.length < 4 →
      Gives (.retentionLost mv false storeMv vbatMv) s fun t => t.wch.logq = queueEntry s.wch.logq (s.watchItem 0x010D 0 (mv % 65536))) ∧
    (s.dev = .watch → s.pwr.wake < 2 → Gives .coreDrop s fun t => t.dev = .watch ∧ t.railOk 0 = false ∧ t.pwr = s.pwr ∧ t.mask = s.mask ∧
      t.fab = s.fab ∧ t.cph = s.cph))

/-- The rails of the domains: outside service a rail that comes or goes changes its bit of PWR_RAILS, and in Running the loss of one of a
powered domain's rails loses what the domain holds. Numbers 6 and 7 name no rail. -/
def Obligations.RailsComeAndGo : Prop :=
∀ s : State,
    (∀ rail : Fin 14, s.dev ≠ .off → s.inService = false → rail.val ≠ 6 → rail.val ≠ 7 → Gives (.railReturn rail) s fun t => t.railOk rail.val = true) ∧
    (∀ rail : Fin 14, s.dev ≠ .off → s.inService = false → 2 ≤ rail.val → rail.val ≠ 6 → rail.val ≠ 7 →
      Gives (.domainPowerLoss rail) s fun t => t.railOk rail.val = false) ∧
    (s.dev ≠ .off → s.inService = false → Gives (.domainPowerUp .lane) s fun t => t.lanePowered = true ∧ t.radioPowered = s.radioPowered) ∧
    (s.dev ≠ .off → s.inService = false → Gives (.domainPowerUp .radio) s fun t => t.radioPowered = true ∧ t.lanePowered = s.lanePowered) ∧
    (∀ rail : Fin 14, rail.val = 2 ∨ rail.val = 3 → s.dev = .running → s.lanePowered = true →
      Gives (.domainPowerLoss rail) s fun t => t.lnk = Vector.replicate 24 LnkLane.idle ∧ t.smp = s.smp) ∧
    (∀ rail : Fin 14, rail.val = 4 ∨ rail.val = 5 → s.dev = .running → s.radioPowered = true →
      Gives (.domainPowerLoss rail) s fun t => t.smp = SmpState.fresh ∧ t.pin = s.pin) ∧
    (∀ rail : Fin 14, rail.val = 6 ∨ rail.val = 7 → Gives (.railReturn rail) s fun t => t.grd = s.grd ∧ t.pwr = s.pwr)

/-- A Watch trigger of register, pin or VMON, where it is enabled in Running, starts the Watch drain: state Draining, line 0 WATCH_PENDING
high, WAKE_DONE low. In a load that has halted no Watch trigger acts. A trigger during a drain is recorded in ENTRY_CAUSE and starts no
second drain. -/
def Obligations.WatchTriggers : Prop :=
  (∀ s : State, s.dev = .running →
    (∀ (a : Acc) (v : Word), s.commandOk a PWR_WATCH_REQ = true → v.getLsbD 0 = true → s.bit PWR_WATCH_CFG_FAB_EN = true →
      Gives (.watchRequest a v) s fun t => t.dev = .draining ∧ t.pwr.drain = 1 ∧ t.lineLevel 0 = true ∧ t.lineLevel 1 = false) ∧
    (s.bit PWR_WATCH_CFG_PIN_EN = true → Gives .watchNLow s fun t => t.dev = .draining ∧ t.pwr.drain = 1 ∧ t.lineLevel 0 = true ∧
      t.lineLevel 1 = false ∧ t.pwr.watchNLow = true) ∧
    (s.bit PWR_WATCH_CFG_VMON_EN = true → s.pwr.vmonLow = true → Gives .vmonFilterExpiry s fun t => t.dev = .draining ∧ t.pwr.drain = 1 ∧
      t.lineLevel 0 = true ∧ t.lineLevel 1 = false ∧ t.pwr.vmonFiltered = true)) ∧
  (∀ s : State, s.dev = .halted →
    (∀ (a : Acc) (v : Word), Gives (.watchRequest a v) s fun t => t.dev = .halted ∧ t.pwr.drain = s.pwr.drain ∧ t.pwr.watchPending = s.pwr.watchPending) ∧
    (Gives .watchNLow s fun t => t.dev = .halted ∧ t.pwr.drain = s.pwr.drain ∧ t.pwr.watchPending = s.pwr.watchPending) ∧
    (Gives .vmonFilterExpiry s fun t => t.dev = .halted ∧ t.pwr.drain = s.pwr.drain ∧ t.pwr.watchPending = s.pwr.watchPending)) ∧
  (∀ s : State, s.dev = .draining →
    (∀ (a : Acc) (v : Word), s.commandOk a PWR_WATCH_REQ = true → v.getLsbD 0 = true → s.bit PWR_WATCH_CFG_FAB_EN = true →
      Gives (.watchRequest a v) s fun t => t.get PWR_STATUS_ENTRY_CAUSE = s.get PWR_STATUS_ENTRY_CAUSE ||| 1 ∧ t.dev = .draining ∧ t.pwr = s.pwr) ∧
    (s.bit PWR_WATCH_CFG_PIN_EN = true → Gives .watchNLow s fun t =>
      t.get PWR_STATUS_ENTRY_CAUSE = s.get PWR_STATUS_ENTRY_CAUSE ||| 2 ∧ t.dev = .draining ∧ t.pwr.graceOver = s.pwr.graceOver) ∧
    (s.bit PWR_WATCH_CFG_VMON_EN = true → s.pwr.vmonLow = true → Gives .vmonFilterExpiry s fun t =>
      t.get PWR_STATUS_ENTRY_CAUSE = s.get PWR_STATUS_ENTRY_CAUSE ||| 4 ∧ t.dev = .draining ∧ t.pwr.graceOver = s.pwr.graceOver))

/-- The VMON comparator: while THRESH is 0 it does not go low, else it does and its filter starts anew; above THRESH + HYST it leaves its
low state, and in a drain or in the Watch state its rise is a wake cause where PWR_WAKE_CFG.VMON is set. The grace time of a drain ends with its command. The end of a finished Watch drain with no reload held is the retention
switch into the Watch state, which keeps the configuration frames and the write mask and loses the Binnacle port's group latches. -/
def Obligations.ComparatorGraceAndRetention : Prop :=
  (∀ s : State,
    (s.get PWR_VMON_CFG_THRESH = 0 → Gives .vmonLow s fun t => t.pwr = s.pwr) ∧
    (s.dev ≠ .off → s.get PWR_VMON_CFG_THRESH ≠ 0 → s.pwr.vmonLow = false → Gives .vmonLow s fun t =>
      t.pwr = { s.pwr with vmonLow := true, vmonFiltered := false, causes := s.pwr.causes &&& 0xD#4 } ∧ t.lineLevel 3 = true) ∧
    ((s.dev ≠ .watch ∧ s.dev ≠ .draining) ∨ s.bit PWR_WAKE_CFG_VMON = false → Gives .vmonHigh s fun t =>
      t.pwr = { s.pwr with vmonLow := false, vmonFiltered := false } ∧ t.lineLevel 3 = false) ∧
    (s.dev = .watch ∨ s.dev = .draining → s.bit PWR_WAKE_CFG_VMON = true → s.pwr.vmonLow = true → Gives .vmonHigh s fun t =>
      t.pwr = { s.pwr with vmonLow := false, vmonFiltered := false, causes := s.pwr.causes ||| 2#4 } ∧ t.lineLevel 3 = false) ∧
    (s.dev = .draining → Gives .graceExpiry s fun t => t.pwr = { s.pwr with graceOver := true } ∧ t.dev = .draining)) ∧
  (∀ (s : State) (us : Nat), s.dev = .draining → s.pwr.drain = 1 → s.drained = true → s.pwr.reload = 0 →
    Gives (.watchDrainEnd us) s fun t => t.dev = .watch ∧ t.pwr.drain = 0 ∧ t.pwr.wake = 0 ∧ t.fab.frames = s.fab.frames ∧ t.mask = s.mask ∧
      t.bin.latches = [])

/-- The wake timeline: an enabled cause that nothing holds off starts it, with its causes recorded; the VMON comparator low with VMON_EN, or
VCC_CORE outside its limits, holds it off with the cause kept. Each phase that ends starts the next; one that has not ended in time sets
WAKE_LATE. A reload request would have taken its place (`leaving`). Fabric clock release with no trigger waiting: Running, WAKE_DONE
high, WATCH_PENDING low. -/
def Obligations.WakeToClockRelease : Prop :=
  (∀ s : State, s.dev = .watch → s.pwr.leaving = false →
    (∀ level, s.pwr.wake = 0 → s.bit PWR_WAKE_CFG_PIN = true → s.railOk 0 = true →
      (s.pwr.vmonLow = false ∨ s.bit PWR_WATCH_CFG_VMON_EN = false → Gives (.wakeEvent false true level) s fun t =>
        t.pwr.wake = 1 ∧ t.get PWR_STATUS_WAKE_CAUSE % 2 = 1 ∧ t.pwr.causes = 0 ∧ t.pwr.watchNLow = false ∧ t.dev = .watch) ∧
      (s.pwr.vmonLow = true → s.bit PWR_WATCH_CFG_VMON_EN = true → Gives (.wakeEvent false true level) s fun t =>
        t.pwr.wake = 0 ∧ t.pwr.causes.getLsbD 0 = true ∧ t.get PWR_STATUS_WAKE_CAUSE = s.get PWR_STATUS_WAKE_CAUSE)) ∧
    (∀ vmonRose pinRose level, s.pwr.wake = 0 → s.railOk 0 = false → Gives (.wakeEvent vmonRose pinRose level) s fun t => t.pwr.wake = 0) ∧
    (∀ level, s.pwr.wake = 0 → s.pwr.causes = 0 → Gives (.wakeEvent false false level) s fun t =>
      t.pwr = { s.pwr with watchNLow := !level }) ∧
    (s.pwr.wake = 1 → Gives .wakeCoreSwitched s fun t => t.pwr.wake = 2) ∧
    (s.pwr.wake = 2 → (∀ r ∈ s.refsInUse, s.refOk r = true) → Gives .wakeRefsQualified s fun t => t.pwr.wake = 3) ∧
    (s.pwr.wake = 3 → s.wakePllsOk = true → Gives .wakePllsLocked s fun t => t.pwr.wake = 4) ∧
    (s.pwr.wake = 4 → Gives .wakeScrubDone s fun t => t.pwr.wake = 5) ∧
    (∀ unit us, s.pwr.lateAt ≠ s.pwr.wake →
      (s.pwr.wake = 1 ∨ (s.pwr.wake = 2 ∧ (∃ r ∈ s.refsInUse, s.refOk r = false)) ∨ (s.pwr.wake = 3 ∧ s.wakePllsOk = false) ∨ s.pwr.wake = 4 →
        Gives (.wakePhaseLate unit us) s fun t => t.lineLevel 2 = true ∧ t.pwr = { s.pwr with lateAt := s.pwr.wake }) ∧
      ((s.pwr.wake = 2 ∧ (∀ r ∈ s.refsInUse, s.refOk r = true)) ∨ (s.pwr.wake = 3 ∧ s.wakePllsOk = true) →
        Gives (.wakePhaseLate unit us) s fun t => t.pwr = s.pwr ∧ t.bit PWR_STATUS_WAKE_LATE = s.bit PWR_STATUS_WAKE_LATE))) ∧
  (∀ (s : State) (us : Nat), s.dev = .watch → s.pwr.leaving = false → s.pwr.wake = 5 → s.pwr.watchNLow = false → s.pwr.vmonFiltered = false →
    Gives (.fabricClockRelease us) s fun t => t.dev = .running ∧ t.pwr.wake = 0 ∧ t.lineLevel 1 = true ∧ t.lineLevel 0 = false ∧
      t.pwr.graceOver = false)

/-- A reload request, of RELOAD_N or of CFG_CMD with the key: from Running through a drain of its own, in a Watch drain held until the
retention switch, in the Watch state by leaving it; and RELOAD_N high again ends the hold. A reload starts once RELOAD_N is high and
its drain is over: the load of the requested image begins with MODE as sampled now, the write mask and every key slot are gone. From
the Watch state the cold load begins the same way once VCC_CORE is within limits, and marks FROM_WATCH_RELOAD. -/
def Obligations.Reloads : Prop :=
  (∀ s : State,
    (s.dev = .running → s.pwr.reload = 0 →
      (Gives .reloadRequest s fun t => t.dev = .draining ∧ t.pwr.drain = 2 ∧ t.pwr.reload = 1 ∧ t.pwr.reloadLow = true ∧
        t.pwr.watchPending = s.pwr.watchPending) ∧
      (∀ a, s.commandOk a CFG_CMD = true → Gives (.cfgReloadPrimary a guardKey) s fun t =>
        t.dev = .draining ∧ t.pwr.drain = 2 ∧ t.pwr.reload = 1 ∧ t.pwr.watchPending = s.pwr.watchPending) ∧
      (∀ a, s.commandOk a CFG_CMD = true → Gives (.cfgReloadGolden a guardKey) s fun t =>
        t.dev = .draining ∧ t.pwr.drain = 2 ∧ t.pwr.reload = 2 ∧ t.pwr.watchPending = s.pwr.watchPending)) ∧
    (s.dev = .draining → s.pwr.reload = 0 →
      (Gives .reloadRequest s fun t => t.dev = .draining ∧ t.pwr.drain = s.pwr.drain ∧ t.pwr.reload = 1) ∧
      (∀ a, s.commandOk a CFG_CMD = true → Gives (.cfgReloadPrimary a guardKey) s fun t => t.dev = .draining ∧ t.pwr.reload = 1) ∧
      (∀ a, s.commandOk a CFG_CMD = true → Gives (.cfgReloadGolden a guardKey) s fun t => t.dev = .draining ∧ t.pwr.reload = 2)) ∧
    (s.dev = .watch → s.pwr.wake < 2 → s.pwr.reload = 0 → Gives .watchReloadRequest s fun t =>
      t.dev = .watch ∧ t.pwr.leaving = true ∧ t.pwr.wake = 0 ∧ t.pwr.reload = 1 ∧ t.pwr.reloadLow = true) ∧
    (s.dev = .watch → 2 ≤ s.pwr.wake → s.pwr.reload = 0 → Gives .reloadRequest s fun t =>
      t.dev = .watch ∧ t.pwr.leaving = true ∧ t.pwr.wake = 0 ∧ t.pwr.reload = 1) ∧
    (Gives .reloadNRise s fun t => t.pwr = { s.pwr with reloadLow := false })) ∧
  (∀ (s : State) (mode : BitVec 3), s.pwr.reloadLow = false →
    (s.dev = .halted ∨ s.dev = .loading → s.pwr.reload ≠ 0 → Gives (.reloadStart mode) s fun t =>
      t.dev = (if mode.toNat < 6 then .loading else .halted) ∧ t.pwr.mode = mode ∧ t.pwr.reload = 0 ∧ t.mask = [] ∧
      ∀ k, k < 64 → t.slot k = Slot.erased) ∧
    (s.dev = .draining → s.pwr.drain = 2 → s.pwr.reload ≠ 0 → s.cph.directs = [] → s.cph.queue = [] → Gives (.reloadStart mode) s fun t =>
      t.dev = (if mode.toNat < 6 then .loading else .halted) ∧ t.pwr.mode = mode ∧ t.pwr.reload = 0 ∧ t.mask = [] ∧
      ∀ k, k < 64 → t.slot k = Slot.erased) ∧
    (s.dev = .watch → s.pwr.leaving = true → s.railOk 0 = true → Gives (.coldLoadStart mode) s fun t =>
      t.dev = (if mode.toNat < 6 then .loading else .halted) ∧ t.pwr.mode = mode ∧ t.pwr.leaving = false ∧ t.mask = [] ∧ t.fab.upsets = [] ∧
      (∀ k, k < 64 → t.slot k = Slot.erased) ∧
      t.bit PWR_STATUS_FROM_WATCH_RELOAD = true))

/-! ### The register bus -/

/-- No bit of the register is closed to a live write. -/
def Sys2Proof.Machine.State.opened (s : State) (a : Nat) : Bool := (rowOf a).any fun r => s.closedBits r a == 0

/-- What a live write of `v` under the strobes `sm` leaves in a register of row `r` that held `old`, with the image-set bits `closed` kept: RW
and opened bits take the written value under the strobes and within their limits, W1C bits written 1 clear, every other bit stays. -/
def Sys2Proof.Machine.State.stored (s : State) (r : RegRow) (a : Nat) (sm closed v : Word) : Word :=
  let open_ := r.rw ||| (r.rwi &&& ~~~closed)
  let next := mergeBits (s.word a) v (sm &&& open_)
  mergeBits next (s.storable a (sm &&& open_) next) open_ &&& ~~~(v &&& sm &&& r.w1c)

/-- The bus takes a write of `acc` to the mapped register `a`, under any strobes: parity is good, the register's domain is up, its row `r` has
a field that is written, and its writers column names the master. -/
def Sys2Proof.Machine.State.mayStore (s : State) (acc : Acc) (a : Nat) (r : RegRow) : Prop :=
  s.busTakes acc.master.val = true ∧ acc.addrFlips = 0 ∧ acc.dataFlips = 0 ∧ a % 4 = 0 ∧ a < 2 ^ 32 ∧ rowOf a = some r ∧
  s.domainUp a = true ∧ r.written = true ∧ s.mayWrite r acc.master.val a = true

/-- A live write that may be made and would change no closed bit completes DONE, in every block but for HRV_THRESH and the PLL band tables,
whose own rules can refuse it. In the windows of the Watch domain, the scrubber and the guarantee unit, whose command registers have
rules of their own, it leaves in the register what `stored` says and changes no other register of its window. WCH_SET_NS, for one, holds at
most 999,999,999, and the W1C bit WCH_STATUS.TIMER written 1 clears alone. -/
def Obligations.PermittedLiveWrites : Prop :=
  (∀ (s : State) (acc : Acc) (a : Nat) (v : Word) (r : RegRow), s.mayStore acc a r →
    strobed acc.strobe &&& s.closedBits r a &&& (v ^^^ s.writeView a) = 0 →
    (a ≠ HRV_THRESH → blockOf a ≠ some 6 → Gives (.registerWrite acc (BitVec.ofNat 32 a) v) s fun t =>
      t.busCode acc.master.val = 0 ∧ t.busData acc.master.val = 0 ∧ t.mask = s.mask) ∧
    (∀ b, b = 1 ∨ b = 4 ∨ b = 5 → blockOf a = some b → a ≠ WCH_SET_CMD → a ≠ SCR_PR_CMD → a ≠ GRD_CMD → a ∉ levelRegs →
      s.dev ≠ .draining → Gives (.registerWrite acc (BitVec.ofNat 32 a) v) s fun t =>
      t.busCode acc.master.val = 0 ∧ t.word a = (if strobed acc.strobe = 0 then s.word a else s.stored r a (strobed acc.strobe) (s.closedBits r a) v) ∧
      ∀ x, blockOf x = some b → x ≠ a → x ∉ levelRegs → t.word x = s.word x)) ∧
  ∀ (s : State) (acc : Acc) (v : Word),
    (s.commandOk acc WCH_SET_SEC_LO = true → Gives (.registerWrite acc (BitVec.ofNat 32 WCH_SET_SEC_LO) v) s fun t =>
      t.busCode acc.master.val = 0 ∧ t.word WCH_SET_SEC_LO = v ∧ t.mask = s.mask ∧
      ∀ a, a < 0x400C0000 → a ≠ WCH_SET_SEC_LO → a ∉ levelRegs → t.word a = s.word a) ∧
    (s.commandOk acc WCH_SET_NS = true → Gives (.registerWrite acc (BitVec.ofNat 32 WCH_SET_NS) v) s fun t =>
      t.busCode acc.master.val = 0 ∧ t.get WCH_SET_NS_NS = min v.toNat 999999999) ∧
    (s.commandOk acc WCH_STATUS = true → v = BitVec.ofNat 32 32 → Gives (.registerWrite acc (BitVec.ofNat 32 WCH_STATUS) v) s fun t =>
      t.busCode acc.master.val = 0 ∧ t.bit WCH_STATUS_TIMER = false ∧ t.bit WCH_STATUS_TAMPER = s.bit WCH_STATUS_TAMPER ∧
      t.bit WCH_STATUS_XTAL_FAIL = s.bit WCH_STATUS_XTAL_FAIL)

/-- The bus takes a whole-word access of master `m`, which waits for no other, with good parity. -/
def Sys2Proof.Machine.State.goodAcc (s : State) (acc : Acc) : Prop :=
  s.busTakes acc.master.val = true ∧ acc.addrFlips = 0 ∧ acc.dataFlips = 0 ∧ acc.strobe = 0xF

/-- A live write that would change a bit which the write mask keeps closed completes PERMERR and is captured. -/
def Obligations.ClosedBitsCompletePermerr : Prop :=
∀ (s : State) (acc : Acc) (a : Nat) (v : Word) (r : RegRow), s.goodAcc acc → a % 4 = 0 → a < 2 ^ 32 → rowOf a = some r →
    s.domainUp a = true → s.mayWrite r acc.master.val a = true → cellRead s.mask a = 0 → r.rwi &&& (v ^^^ s.writeView a) ≠ 0 →
    Gives (.registerWrite acc (BitVec.ofNat 32 a) v) s fun t => t.busCode acc.master.val = 2 ∧ t.bit SYS_BUSERR_INFO_VALID = true

/-- The first of PARERR, NOMAP and PERMERR that applies is the response of a register-bus access. -/
def Obligations.ResponsePriority : Prop :=
∀ (s : State) (acc : Acc) (addr v : Word), s.busTakes acc.master.val = true →
    (acc.addrFlips ≠ 0 ∨ acc.dataFlips ≠ 0 → Gives (.registerWrite acc addr v) s fun t => t.busCode acc.master.val = 3) ∧
    (∀ flips, flips ≠ 0 → Gives (.rcRead acc.master flips addr) s fun t => t.busCode acc.master.val = 3 ∧ t.busData acc.master.val = 0) ∧
    (blockOf (addr.toNat / 4 * 4) = none → acc.addrFlips = 0 → acc.dataFlips = 0 → Gives (.registerWrite acc addr v) s fun t =>
      t.busCode acc.master.val = 1 ∧ t.mask = s.mask ∧ t.pwr = s.pwr ∧ ∀ a, 0x40000010 ≤ a → a < 0x400C0000 → a ∉ levelRegs → t.word a = s.word a) ∧
    (blockOf (addr.toNat / 4 * 4) = none → Gives (.rcRead acc.master 0 addr) s fun t =>
      t.busCode acc.master.val = 1 ∧ t.busData acc.master.val = 0) ∧
    (∀ r, rowOf (addr.toNat / 4 * 4) = some r → acc.addrFlips = 0 → acc.dataFlips = 0 → s.domainUp (addr.toNat / 4 * 4) = true →
      r.written = true → s.mayWrite r acc.master.val (addr.toNat / 4 * 4) = false → Gives (.registerWrite acc addr v) s fun t =>
      t.busCode acc.master.val = 2 ∧ t.mask = s.mask ∧ t.pwr = s.pwr ∧ ∀ a, 0x40000010 ≤ a → a < 0x400C0000 → a ∉ levelRegs → t.word a = s.word a)

/-- An access to an unassigned offset of a block's window is one to a reserved field: it completes DONE, a read returns 0, and a write
changes no register. -/
def Obligations.UnassignedOffsetsCompleteDone : Prop :=
∀ (s : State) (acc : Acc) (addr v : Word) (b : Nat), s.busTakes acc.master.val = true → acc.addrFlips = 0 → acc.dataFlips = 0 →
    blockOf (addr.toNat / 4 * 4) = some b → b ≠ 20 → rowOf (addr.toNat / 4 * 4) = none →
    (Gives (.rcRead acc.master 0 addr) s fun t => t.busCode acc.master.val = 0 ∧ t.busData acc.master.val = 0 ∧ s.onlyRegs t []) ∧
    (Gives (.registerWrite acc addr v) s fun t => t.busCode acc.master.val = 0 ∧ t.mask = s.mask ∧ t.pwr = s.pwr ∧ t.load = s.load ∧
      ∀ a, a < 0x400C0000 → a ∉ levelRegs → t.word a = s.word a)

/-- The first read that completes with a response other than DONE is captured with its code, direction, master and address, and each later
one, while VALID is set, sets OVERRUN and leaves what was captured; an unmapped write likewise. -/
def Obligations.BusErrorsAreCaptured : Prop :=
∀ (s : State) (acc : Acc) (m : Fin 16) (p : BitVec 4) (addr v : Word),
    (s.busTakes m.val = true → blockOf (addr.toNat / 4 * 4) ≠ some 20 → Gives (.rcRead m p addr) s fun t =>
      (t.busCode m.val ≠ 0 → s.bit SYS_BUSERR_INFO_VALID = false → t.bit SYS_BUSERR_INFO_VALID = true ∧
        t.get SYS_BUSERR_INFO_CODE = t.busCode m.val ∧ t.bit SYS_BUSERR_INFO_WRITE = false ∧ t.get SYS_BUSERR_INFO_MASTER = m.val ∧
        t.word SYS_BUSERR_ADDR = addr) ∧
      (t.busCode m.val ≠ 0 → s.bit SYS_BUSERR_INFO_VALID = true → t.bit SYS_BUSERR_INFO_OVERRUN = true ∧
        t.get SYS_BUSERR_INFO_CODE = s.get SYS_BUSERR_INFO_CODE ∧ t.word SYS_BUSERR_ADDR = s.word SYS_BUSERR_ADDR)) ∧
    (s.busTakes acc.master.val = true → acc.addrFlips = 0 → acc.dataFlips = 0 → blockOf (addr.toNat / 4 * 4) = none →
      Gives (.registerWrite acc addr v) s fun t =>
      (s.bit SYS_BUSERR_INFO_VALID = false → t.bit SYS_BUSERR_INFO_VALID = true ∧ t.get SYS_BUSERR_INFO_CODE = 1 ∧
        t.bit SYS_BUSERR_INFO_WRITE = true ∧ t.get SYS_BUSERR_INFO_MASTER = acc.master.val ∧ t.word SYS_BUSERR_ADDR = addr) ∧
      (s.bit SYS_BUSERR_INFO_VALID = true → t.bit SYS_BUSERR_INFO_OVERRUN = true ∧
        t.get SYS_BUSERR_INFO_CODE = s.get SYS_BUSERR_INFO_CODE ∧ t.word SYS_BUSERR_ADDR = s.word SYS_BUSERR_ADDR))

/-- A read of a mapped register completes DONE with what the register shows to its master, clears the register's RC fields, and changes no
other register (the lanes' and the cipher engine's FIFO registers, whose reads pop, have rules of their own). -/
def Obligations.ReadsClearOnlyRcFields : Prop :=
∀ (s : State) (m : Fin 16) (addr : Word) (r : RegRow), s.busTakes m.val = true → rowOf (addr.toNat / 4 * 4) = some r →
    s.domainUp (addr.toNat / 4 * 4) = true → blockOf (addr.toNat / 4 * 4) ≠ some 8 → blockOf (addr.toNat / 4 * 4) ≠ some 10 →
    Gives (.rcRead m 0 addr) s fun t => t.busCode m.val = 0 ∧ t.busData m.val = s.view m.val (addr.toNat / 4 * 4) ∧
      s.onlyRegs t [addr.toNat / 4 * 4] ∧
      (addr.toNat / 4 * 4 ∉ levelRegs → t.word (addr.toNat / 4 * 4) = s.word (addr.toNat / 4 * 4) &&& ~~~r.rc)

/-- The snapshot of watch time: a read of WCH_TIME_SEC_LO captures copy A for the reading master alone; that master's reads of the other
two words return the captured value; PORST_N empties every snapshot. The snapshot of device time: as that of watch time, of 96 bits. -/
def Obligations.TimeSnapshots : Prop :=
  (∀ (s : State) (m : Fin 16), s.busTakes m.val = true → s.wch.up = true → s.wch.aSec < 2 ^ 48 → s.wch.aNs < 1000000000 →
    (Gives (.wchTimeSnapshot m) s fun t => t.busCode m.val = 0 ∧ (t.busData m.val).toNat = s.wch.aSec % 2 ^ 32 ∧
      (cellRead t.wch.snaps m.val).toNat = s.wch.aSec * 2 ^ 32 + s.wch.aNs ∧
      ∀ k, k ≠ m.val → cellRead t.wch.snaps k = cellRead s.wch.snaps k) ∧
    (Gives (.rcRead m 0 (BitVec.ofNat 32 WCH_TIME_SEC_HI)) s fun t =>
      (t.busData m.val).toNat = (cellRead s.wch.snaps m.val).toNat / 2 ^ 64 ∧ t.wch = s.wch) ∧
    (Gives (.rcRead m 0 (BitVec.ofNat 32 WCH_TIME_NS)) s fun t =>
      (t.busData m.val).toNat = (cellRead s.wch.snaps m.val).toNat % 2 ^ 32 ∧ t.wch = s.wch) ∧
    (Gives .porstNAssert s fun t => ∀ k, cellRead t.wch.snaps k = 0)) ∧
  (∀ (s : State) (m : Fin 16), s.busTakes m.val = true → s.fix.sec < 2 ^ 48 → s.fix.ns < 1000000000 → s.fix.frac < 2 ^ 32 →
    (Gives (.fixTimeSnapshot m) s fun t => t.busCode m.val = 0 ∧ (t.busData m.val).toNat = s.fix.sec % 2 ^ 32 ∧
      (cellRead t.fix.snaps m.val).toNat = s.fix.sec * 2 ^ 48 + s.fix.ns * 2 ^ 16 + s.fix.frac / 2 ^ 16 ∧
      ∀ k, k ≠ m.val → cellRead t.fix.snaps k = cellRead s.fix.snaps k) ∧
    (Gives (.rcRead m 0 (BitVec.ofNat 32 FIX_TIME_SEC_HI)) s fun t =>
      (t.busData m.val).toNat = (cellRead s.fix.snaps m.val).toNat / 2 ^ 80 ∧ t.fix = s.fix) ∧
    (Gives (.rcRead m 0 (BitVec.ofNat 32 FIX_TIME_NS)) s fun t =>
      (t.busData m.val).toNat = (cellRead s.fix.snaps m.val).toNat / 2 ^ 16 % 2 ^ 32 ∧ t.fix = s.fix) ∧
    (Gives (.rcRead m 0 (BitVec.ofNat 32 FIX_TIME_FNS)) s fun t =>
      (t.busData m.val).toNat = (cellRead s.fix.snaps m.val).toNat % 2 ^ 16 ∧ t.fix = s.fix) ∧
    (Gives .porstNAssert s fun t => ∀ k, cellRead t.fix.snaps k = 0))

/-- Accesses to the fabric user window: while the fabric cannot answer they complete DONE at once, a read with 0; in service an
acknowledged read returns the fabric's word, and one that is not acknowledged waits until FS_TIMEOUT ends it DONE with 0, sets
FS_TIMEOUT and counts. An access to the fabric user window that waits ends DONE with 0 at its timeout. -/
def Obligations.FabricWindow : Prop :=
  (∀ (s : State) (acc : Acc) (write : Bool) (addr v : Word), s.busTakes acc.master.val = true → acc.addrFlips = 0 →
    acc.dataFlips = 0 → 0x50000000 ≤ addr.toNat → addr.toNat < 0x51000000 →
    (∀ ack, s.bit FAB_STATUS_RELEASED = false ∨ s.isolatedR 12 = true → Gives (.fsAccess acc write addr v ack) s fun t =>
      t.busCode acc.master.val = 0 ∧ t.busData acc.master.val = 0 ∧ t.bus.fs = s.bus.fs) ∧
    (∀ d, s.bit FAB_STATUS_RELEASED = true → s.isolatedR 12 = false → s.pwr.graceOver = false →
      Gives (.fsAccess acc write addr v (some d)) s fun t =>
      t.busCode acc.master.val = 0 ∧ t.busData acc.master.val = (if write then 0 else d) ∧ t.bus.fs = s.bus.fs) ∧
    (s.bit FAB_STATUS_RELEASED = true → s.isolatedR 12 = false → Gives (.fsAccess acc write addr v none) s fun t =>
      t.bus.fs.any (·.1 == acc.master.val) = true ∧ t.bus.resp = s.bus.resp)) ∧
  (∀ (s : State) (m : Fin 16), m.val ≠ 12 → s.bus.fs.any (·.1 == m.val) = true → Gives (.fsTimeout m) s fun t =>
    t.busCode m.val = 0 ∧ t.busData m.val = 0 ∧ t.bus.fs.any (·.1 == m.val) = false ∧ t.bit FAB_STATUS_FS_TIMEOUT = true ∧
    t.get FAB_FS_TIMEOUT_COUNT = min (s.get FAB_FS_TIMEOUT_COUNT + 1) 4095)

/-! ### The Watch domain and the harvester -/

/-- Watch time in units of 1/64 ns. -/
def Sys2Proof.Machine.State.watchUnits (s : State) : Nat := (s.wch.aSec * 1000000000 + s.wch.aNs) * 64 + s.wch.aFrac

/-- With TRIM 0 and the crystal running, and outside Running and its drains, in which device time aligns watch time, every tick adds 30,517 ns
and 37/64 ns to copy A, over any number of ticks of an idle block, so that 32,768 of them add exactly one second. -/
def Obligations.TicksMakeSeconds : Prop :=
∀ (s : State) (n : Nat), s.pending = [] → s.inService = false → s.wch.up = true → s.bit WCH_STATUS_XTAL_OK = true → s.get WCH_TRIM_TRIM = 0 →
    s.wch.aNs < 1000000000 → s.wch.aFrac < 64 → s.wch.aSec + n < 2 ^ 48 →
    ∃ t, core.run n s = .next t ∧ t.watchUnits = s.watchUnits + n * (30517 * 64 + 37) ∧
      (n = 32768 → t.wch.aSec = s.wch.aSec + 1 ∧ t.wch.aNs = s.wch.aNs ∧ t.wch.aFrac = s.wch.aFrac)

/-- A live set: COMMIT marks it, and at the next tick with the crystal running both copies take the SET registers, TIME_VALID sets and
TIME_SET is logged with the old seconds; while the crystal has stopped it is held. The seconds rollover of watch time outside Running:
copies that agree make nothing, and after a mismatch copy B takes copy A's value, TIME_CHECK sets and TIME_VALID clears. The crystal's
stop sets XTAL_FAIL, invalidates watch time and holds it; its return leaves watch time at the held value, not valid. -/
def Obligations.WatchTimeSetCopiesAndCrystal : Prop :=
  (∀ s : State, s.wch.up = true →
    (∀ a, s.commandOk a WCH_SET_CMD = true → Gives (.wchCommit a) s fun t => t.wch.commit = true ∧ t.wch.aSec = s.wch.aSec) ∧
    (s.wch.commit = true → s.bit WCH_STATUS_XTAL_OK = true → Gives .watchTimeSet s fun t =>
      t.wch.aSec = s.get WCH_SET_SEC_LO_SEC + s.get WCH_SET_SEC_HI_SEC * 2 ^ 32 ∧ t.wch.bSec = t.wch.aSec ∧
      t.wch.aNs = s.get WCH_SET_NS_NS ∧ t.wch.bNs = t.wch.aNs ∧ t.wch.commit = false ∧ t.bit WCH_STATUS_TIME_VALID = true ∧
      (s.wch.logq.length < 4 → t.wch.logq.any (fun e => e.code == 0x0107 && e.detail == s.wch.aSec) = true)) ∧
    (s.wch.commit = true → s.bit WCH_STATUS_XTAL_OK = false → Gives .watchTimeSet s fun t => t.wch = s.wch)) ∧
  (∀ s : State, s.wch.up = true →
    (s.wch.aSec = s.wch.bSec → s.wch.aNs = s.wch.bNs → s.wch.aFrac = s.wch.bFrac → Gives .watchSecond s fun t => t.wch = s.wch ∧
      t.bit WCH_STATUS_TIME_CHECK = s.bit WCH_STATUS_TIME_CHECK) ∧
    (s.wch.aSec ≠ s.wch.bSec → s.inService = false → Gives .watchSecond s fun t => t.wch.bSec = s.wch.aSec ∧ t.wch.bNs = s.wch.aNs ∧
      t.wch.aSec = s.wch.aSec ∧ t.bit WCH_STATUS_TIME_CHECK = true ∧ t.bit WCH_STATUS_TIME_VALID = false ∧ t.lineLevel 14 = true) ∧
    (s.wch.aSec ≠ s.wch.bSec → s.inService = true → s.wch.bSec = s.fix.sec → Gives .watchSecond s fun t => t.wch.aSec = s.wch.bSec ∧
      t.wch.aNs = s.wch.bNs ∧ t.bit WCH_STATUS_TIME_CHECK = true ∧ t.bit WCH_STATUS_TIME_VALID = s.bit WCH_STATUS_TIME_VALID)) ∧
  (∀ s : State, s.wch.up = true →
    (s.bit WCH_STATUS_XTAL_OK = true → Gives .xtalStop s fun t => t.bit WCH_STATUS_XTAL_OK = false ∧ t.bit WCH_STATUS_XTAL_FAIL = true ∧
      t.bit WCH_STATUS_TIME_VALID = false ∧ t.wch.aSec = s.wch.aSec ∧ t.lineLevel 12 = true ∧
      t.get WCH_WAKE_TIMER_COUNT = s.get WCH_WAKE_TIMER_COUNT) ∧
    (∀ hold, s.bit WCH_STATUS_XTAL_OK = false → Gives (.xtalRestored hold) s fun t => t.bit WCH_STATUS_XTAL_OK = true ∧
      t.bit WCH_STATUS_TIME_VALID = false ∧ t.wch.aSec = s.wch.aSec ∧ t.wch.aNs = s.wch.aNs ∧
      (s.wch.logq.length < 4 → t.wch.logq = queueEntry s.wch.logq (s.watchItem 0x0105 0 hold))) ∧
    (s.bit WCH_STATUS_XTAL_OK = false → s.pending = [] → ∃ t, step s = .next t ∧ t.wch.aSec = s.wch.aSec ∧ t.wch.aNs = s.wch.aNs ∧
      t.get WCH_WAKE_TIMER_COUNT = s.get WCH_WAKE_TIMER_COUNT))

/-- The log controller writes the entry that was ready first, of two ready in one tick the watch controller's, whole at the ring index NEXT and
advances NEXT modulo 896; the first entry of a code is also written, with FLAGS[0], to the lowest free pinned index, or with all 128 in use
counts in OVERFLOW; no other pinned entry changes. A clear of the log forgets which codes have appeared, so that each is pinned
afresh. -/
def Obligations.EventLog : Prop :=
  (∀ (s : State) (e : LogItem) (rest : List LogItem) (watch : Bool), s.wch.up = true →
    (if watch then s.wch.logq = e :: rest ∧ ∀ g ∈ s.grd.logq.head?, e.ready ≤ g.ready
     else s.grd.logq = e :: rest ∧ ∀ w ∈ s.wch.logq.head?, e.ready < w.ready) → s.get LOG_HEAD_ALL < 896 →
    Gives .logWrite s fun t =>
      (if watch then t.wch.logq = rest ∧ t.grd = s.grd else t.grd.logq = rest ∧ t.wch.logq = s.wch.logq) ∧
      (∀ k, k < 8 → t.word (LOG_ENTRY (s.get LOG_HEAD_ALL) k) = (entryWords e false (s.get LOG_SEQ_SEQ)).getD k 0) ∧
      t.get LOG_HEAD_ALL = (s.get LOG_HEAD_ALL + 1) % 896 ∧ t.get LOG_SEQ_SEQ = (s.get LOG_SEQ_SEQ + 1) % 2 ^ 32 ∧
      (e.code ∉ s.wch.seen → s.get LOG_PIN_USED < 128 → t.get LOG_PIN_USED = s.get LOG_PIN_USED + 1 ∧
        (∀ k, k < 8 → t.word (LOG_ENTRY (896 + s.get LOG_PIN_USED) k) = (entryWords e true (s.get LOG_SEQ_SEQ)).getD k 0) ∧
        ∀ i k, 896 ≤ i → i < 1024 → i ≠ 896 + s.get LOG_PIN_USED → k < 8 → t.word (LOG_ENTRY i k) = s.word (LOG_ENTRY i k)) ∧
      (e.code ∉ s.wch.seen → 128 ≤ s.get LOG_PIN_USED → s.get LOG_PIN_OVERFLOW < 2 ^ 15 - 1 →
        t.get LOG_PIN_OVERFLOW = s.get LOG_PIN_OVERFLOW + 1) ∧
      (e.code ∈ s.wch.seen ∨ 128 ≤ s.get LOG_PIN_USED → t.get LOG_PIN_USED = s.get LOG_PIN_USED ∧
        ∀ i k, 896 ≤ i → i < 1024 → k < 8 → t.word (LOG_ENTRY i k) = s.word (LOG_ENTRY i k))) ∧
  (∀ (s : State) (a : Acc), s.commandOk a LOG_CMD = true →
    (Gives (.logClearPinned a) s fun t => t.wch = { s.wch with seen := [] } ∧ t.busCode a.master.val = 0) ∧
    (Gives (.logClearAll a) s fun t => t.wch = { s.wch with seen := [] } ∧ t.busCode a.master.val = 0))

/-- An enabled tamper input's event sets its status bit, counts, and asks for an erase where ERASE is set; a disabled input does nothing.
The erase is carried out once the security domain has power. The wake timer: a write loads it and starts its unit anew, and wins over an
expiry in the same tick; at 0 it sets TIMER, and is a wake cause where TIMER is enabled. -/
def Obligations.TamperAndWakeTimer : Prop :=
  (∀ s : State, s.wch.up = true →
    (∀ n : Fin 4, bitsOf (s.word WCH_TAMPER_CFG) (8 * n.val + 7) 1 = 1 → bitsOf (s.word WCH_TAMPER_CFG) (8 * n.val + 5) 1 = 0 →
      s.wch.erase = false → Gives (.tamperEvent n) s fun t => bitsOf (t.word WCH_STATUS) n.val 1 = 1 ∧
      bitsOf (t.word WCH_TAMPER_COUNT) (8 * n.val) 7 = min (bitsOf (s.word WCH_TAMPER_COUNT) (8 * n.val) 7 + 1) 127 ∧ t.wch.erase = false ∧
      ((s.dev = .watch ∨ s.dev = .draining) → s.bit PWR_WAKE_CFG_TAMPER = true → t.pwr.causes.getLsbD 3 = true)) ∧
    (∀ n : Fin 4, bitsOf (s.word WCH_TAMPER_CFG) (8 * n.val + 7) 1 = 0 → s.wch.erase = false → Gives (.tamperEvent n) s fun t =>
      t.wch = s.wch ∧ t.pwr = s.pwr ∧ t.word WCH_TAMPER_COUNT = s.word WCH_TAMPER_COUNT) ∧
    (∀ n : Fin 4, bitsOf (s.word WCH_TAMPER_CFG) (8 * n.val + 7) 1 = 1 → bitsOf (s.word WCH_TAMPER_CFG) (8 * n.val + 5) 1 = 1 →
      s.dev = .off → Gives (.tamperEvent n) s fun t => t.wch.erase = true ∧ t.pwr = s.pwr) ∧
    (s.wch.erase = true → s.dev = .loading → Gives .tamperErase s fun t => t.wch.erase = false ∧
      (∀ k, k < 64 → t.slot k = Slot.erased) ∧
      (s.wch.logq.length < 4 → t.wch.logq = queueEntry s.wch.logq (s.watchItem 0x0109 0 s.slotsValid))) ∧
    (s.wch.erase = true → s.dev = .watch → s.pwr.wake < 2 → Gives .tamperErase s fun t => t.wch.erase = true)) ∧
  (∀ s : State, s.wch.up = true →
    (∀ (a : Acc) (v : Word), s.commandOk a WCH_WAKE_TIMER = true → Gives (.wakeTimerWrite a v) s fun t =>
      t.word WCH_WAKE_TIMER = v ∧ t.wch.timerPre = 0) ∧
    (s.wch.timerAt = s.now + 1 → Gives .wakeTimerExpiry s fun t => t.wch = s.wch ∧
      t.get WCH_WAKE_TIMER_COUNT = s.get WCH_WAKE_TIMER_COUNT ∧ t.pwr = s.pwr) ∧
    (s.get WCH_WAKE_TIMER_COUNT ≠ 0 → s.bit WCH_STATUS_XTAL_OK = true → s.wch.timerAt ≠ s.now + 1 → Gives .wakeTimerExpiry s fun t =>
      t.get WCH_WAKE_TIMER_COUNT = 0 ∧ t.bit WCH_STATUS_TIMER = true ∧ t.lineLevel 9 = true ∧
      (s.dev = .watch → s.bit PWR_WAKE_CFG_TIMER = true → t.pwr.causes.getLsbD 2 = true) ∧ (s.dev = .off → t.pwr = s.pwr)))

/-- The supply selector and the harvester: a sample shows the store's voltage, the highest qualified source is selected and a switch
counted; with none qualified on the store STORE_LOW sets once; the tracker sets the rectifier's input to FRAC/64 of VOC. The limits of
HRV_THRESH on a live write that the mask opens whole: USE_OFF in 1.80 to 4.80 V, USE_ON at least 0.20 V above it and at most 5.00 V,
STORE_MAX in 3.00 to 5.00 V and at least USE_ON (in units of 20 mV). The Watch domain loses and regains supply: with its input below
1.60 V from the store, or 1.40 V from another source, it holds nothing, and at first supply its registers have their reset values, the log is empty and WATCH_COLD waits to be written. -/
def Obligations.WatchSupply : Prop :=
  (∀ (s : State) (lv : SupplyLevels), s.wch.up = true →
    (∀ inputMv, lv.storeMv < 8192 → Gives (.hrvSample lv inputMv) s fun t => t.get HRV_STATUS_STORE_MV = lv.storeMv ∧
      (s.bit HRV_CFG_EN = false → t.get HRV_STATUS_MODE = 0)) ∧
    (2100 ≤ lv.vbatMv → s.bit HRV_CFG_EN = false → s.get WCH_STATUS_SUPPLY = 2 → Gives (.watchRailDroop lv) s fun t =>
      t.get WCH_STATUS_SUPPLY = 1 ∧ t.bit WCH_STATUS_SWITCHED = true ∧ t.lineLevel 10 = true ∧
      t.get WCH_SUPPLY_COUNT_COUNT = min (s.get WCH_SUPPLY_COUNT_COUNT + 1) 65535) ∧
    (lv.vbatMv < 2000 → lv.auxOk = false → s.get WCH_STATUS_SUPPLY = 0 → lv.storeMv < 20 * s.get HRV_THRESH_USE_OFF →
      s.wch.storeLow = false → Gives (.watchRailDroop lv) s fun t =>
      t.get WCH_STATUS_SUPPLY = 0 ∧ t.bit WCH_STATUS_STORE_LOW = true ∧ t.wch.storeLow = true) ∧
    (∀ voc freq, voc < 65536 → freq < 4096 → s.bit HRV_CFG_EN = true → Gives (.hrvTrack voc freq) s fun t => t.get HRV_TRACK_VOC = voc ∧
      t.get HRV_TRACK_FREQ = freq ∧ t.wch.rectMv = s.get HRV_CFG_FRAC * voc / 64)) ∧
  (∀ (s : State) (a : Acc) (v : Word), s.commandOk a HRV_THRESH = true → cellRead s.mask HRV_THRESH = BitVec.allOnes 32 →
    Gives (.hrvThreshWrite a v) s fun t =>
      t.get HRV_THRESH_USE_OFF = clampNat 90 240 (bitsOf v 8 8) ∧
      t.get HRV_THRESH_USE_ON = min 250 (max (bitsOf v 0 8) (t.get HRV_THRESH_USE_OFF + 10)) ∧
      t.get HRV_THRESH_STORE_MAX = max (t.get HRV_THRESH_USE_ON) (clampNat 150 250 (bitsOf v 16 8)) ∧ t.busCode a.master.val = 0) ∧
  (∀ s : State,
    (∀ src, s.wch.up = false → Gives (.watchCold src) s fun t => t.wch.up = true ∧ t.wch.aSec = 0 ∧ t.wch.seen = [] ∧
      t.get LOG_SEQ_SEQ = 0 ∧ t.get LOG_HEAD_ALL = 0 ∧ t.get WCH_STATUS_SUPPLY = supplyCode src ∧
      (∀ i k, i < 1024 → k < 8 → t.word (LOG_ENTRY i k) = 0) ∧ t.wch.logq.map (·.code) = [0x0101]) ∧
    (∀ inputMv, s.wch.up = true →
      (if s.get WCH_STATUS_SUPPLY = 0 then inputMv < 1600 else inputMv < 1400) → Gives (.watchDomainDown inputMv) s fun t =>
      t.wch.up = false ∧ t.wch.aSec = 0 ∧ t.bit WCH_STATUS_TIME_VALID = false) ∧
    (∀ inputMv, s.wch.up = true → (if s.get WCH_STATUS_SUPPLY = 0 then 1600 ≤ inputMv else 1400 ≤ inputMv) →
      Gives (.watchDomainDown inputMv) s fun t => t.wch = s.wch))

/-! ### The guarantee unit -/

/-- What a report of fault `n` at `inst` does while no report of another kind interferes: GRD_LAST takes it, GRD_FIRST where it held nothing,
the counter of its kind counts, and HEALTH is low. -/
def Sys2Proof.Machine.reported (s t : State) (n inst : Nat) : Prop :=
  t.bit GRD_LAST_VALID = true ∧ t.get GRD_LAST_N = n ∧ t.get GRD_LAST_BLOCK = (faultRow n).block ∧ t.get GRD_LAST_INSTANCE = inst ∧
  (s.bit GRD_FIRST_VALID = false → t.bit GRD_FIRST_VALID = true ∧ t.get GRD_FIRST_N = n ∧ t.get GRD_FIRST_INSTANCE = inst) ∧
  (s.bit GRD_FIRST_VALID = true → t.get GRD_FIRST_N = s.get GRD_FIRST_N ∧ t.get GRD_FIRST_INSTANCE = s.get GRD_FIRST_INSTANCE) ∧
  t.health = false

/-- A fault report, while the guarantee unit runs: GRD_LAST and, where it is empty, GRD_FIRST take it, the counter of its kind counts,
HEALTH is driven low; a latched code becomes pending and a degraded one sets its bit for good. (The fabric's memory codes 13 to 16 go
through the memories' counters first; its codes 12 and 17 are reported of a region that runs, and of an isolated one are not; 21 and 22
in the Watch state and in Off wait for the next release.) A detection of TIME_CHECK or
XTAL_FAIL made in the Watch state or in Off changes nothing of the guarantee unit and waits for the next fabric release. -/
def Obligations.FaultReports : Prop :=
  (∀ (s : State) (n : Fin 44) (inst : BitVec 16) (detail : BitVec 64) (source : Fin 4), n.val ≠ 0 → n.val < 13 ∨ 16 < n.val →
    (n.val = 12 ∨ n.val = 17 → s.fabricRuns inst.toNat = true) → s.dev = .running ∨ s.dev = .draining → Gives (.faultReport n inst detail source) s fun t => reported s t n.val inst.toNat ∧
      ((faultRow n.val).kind = .masked → t.get GRD_CNT_MASKED_COUNT = min (s.get GRD_CNT_MASKED_COUNT + 1) (2 ^ GRD_CNT_MASKED_COUNT.width - 1)) ∧
      ((faultRow n.val).kind ≠ .masked →
        t.get GRD_CNT_DETECTED_COUNT = min (s.get GRD_CNT_DETECTED_COUNT + 1) (2 ^ GRD_CNT_DETECTED_COUNT.width - 1)) ∧
      ((faultRow n.val).latched = true → t.bit (pendingFld n.val) = true) ∧
      ((faultRow n.val).latched = false → t.grd.pulses.getLsbD n.val = true) ∧
      ((faultRow n.val).degraded = true → t.bit (degradedFld n.val) = true)) ∧
  (∀ (s : State) (n : Fin 44) (inst : BitVec 16) (detail : BitVec 64) (source : Fin 4), n.val = 12 ∨ n.val = 17 →
    s.fabricRuns inst.toNat = false → Gives (.faultReport n inst detail source) s fun t => t.grd = s.grd ∧ s.onlyRegs t []) ∧
  (∀ (s : State) (n : Fin 44) (inst : BitVec 16) (detail : BitVec 64) (source : Fin 4), n.val = 21 ∨ n.val = 22 →
    s.dev = .watch ∨ s.dev = .off → Gives (.faultReport n inst detail source) s fun t =>
      t.wch = { s.wch with late := s.wch.late ++ [n.val] } ∧ t.grd = s.grd ∧ t.word GRD_PENDING_LO = s.word GRD_PENDING_LO ∧
      t.word GRD_LAST = s.word GRD_LAST)

/-- HEALTH is driven high exactly while the part runs with no drain started, every self-test part of a powered domain has passed, no fault is
pending and no pulse runs; GRD_STATUS.HEALTH shows the pad's level, that of the driver but where the pad was found to differ; and the
guarantee is in force as its four conditions say: so after every command. -/
def Obligations.HealthAndInForceFollowTheirConditions : Prop :=
∀ (c : Instr) (s : State), Gives c s fun t =>
    (t.health = true ↔ t.dev = .running ∧ t.selftestPass = true ∧ t.word GRD_PENDING_LO = 0 ∧ t.word GRD_PENDING_HI = 0 ∧
      t.grd.pulses = 0) ∧ t.bit GRD_STATUS_HEALTH = t.grd.pad.getD t.health ∧
    (t.bit GRD_STATUS_IN_FORCE = true ↔ t.bit GRD_STATUS_GUARDED = true ∧ (t.dev = .running ∨ t.dev = .draining) ∧
      t.selftestPass = true ∧ t.bit (pendingFld 39) = false ∧ t.bit (pendingFld 40) = false)

/-- CLEAR with the key leaves a pending bit set exactly where the condition of its code still holds, and CLEAR_REFUSED then rises. (Where
paired cells were reported, whether they have come to agree is user logic's, so the statement is made without any.) INJECT with the
key, in Running, reports an injectable code with INSTANCE 0xFFFF and its reaction; of any other code, or outside Running, it changes
none of the guarantee unit's records. -/
def Obligations.ClearAndInject : Prop :=
  (∀ (s : State) (a : Acc), s.commandOk a GRD_CMD = true → s.fab.differ = [] →
    Gives (.grdClear a guardKey) s fun t =>
      (∀ n, n < 44 → t.bit (pendingFld n) = (s.bit (pendingFld n) && s.clearRefused n)) ∧
      (∀ n, n < 44 → s.bit (pendingFld n) = true → s.clearRefused n = true → t.bit (evtFld 38) = true)) ∧
  (∀ (s : State) (a : Acc) (cls : BitVec 6), s.commandOk a GRD_CMD = true →
    (s.dev = .running → cls.toNat < 44 → (faultRow cls.toNat).inject = true → Gives (.grdInject a guardKey cls) s fun t =>
      t.get GRD_LAST_N = cls.toNat ∧ t.get GRD_LAST_INSTANCE = 0xFFFF ∧ t.health = false ∧
      ((faultRow cls.toNat).latched = true → t.bit (pendingFld cls.toNat) = true)) ∧
    (44 ≤ cls.toNat ∨ (faultRow cls.toNat).inject = false ∨ s.dev ≠ .running → Gives (.grdInject a guardKey cls) s fun t =>
      t.word GRD_PENDING_LO = s.word GRD_PENDING_LO ∧ t.word GRD_PENDING_HI = s.word GRD_PENDING_HI ∧ t.word GRD_LAST = s.word GRD_LAST ∧
      t.word GRD_FIRST = s.word GRD_FIRST ∧ t.word GRD_CNT_MASKED = s.word GRD_CNT_MASKED ∧
      t.word GRD_CNT_DETECTED = s.word GRD_CNT_DETECTED))

/-- A pulse's end, the pad monitor, a self-test part, a temperature reading and a rail's excursion. The scan of the event log reports each
written entry whose CRC fails and changes no entry; a log whose entries are all empty or good reports nothing. The voted copies: a
copy the vote overrules is resynchronised and reported; overruled again within 1 s of the end of that, it is fenced. HK_OK is low
meanwhile. -/
def Obligations.GuaranteeChecks : Prop :=
  (∀ s : State, s.dev = .running →
    (∀ n : Fin 44, Gives (.healthPulseEnd n) s fun t => t.grd.pulses.getLsbD n.val = false ∧ t.word GRD_PENDING_LO = s.word GRD_PENDING_LO) ∧
    (∀ high, high ≠ s.healthHigh → Gives (.healthPadMismatch high) s fun t => t.grd.pad = some high ∧ t.bit (pendingFld 43) = true ∧
      t.bit GRD_STATUS_HEALTH = high ∧ t.health = false) ∧
    (∀ high, high = s.healthHigh → Gives (.healthPadMismatch high) s fun t => t.grd.pad = none ∧
      t.word GRD_PENDING_HI = s.word GRD_PENDING_HI ∧ t.bit GRD_STATUS_HEALTH = high) ∧
    (∀ (i : Fin 16) (c : Int), s.grd.tempOut.getLsbD i.val = false → 100 < c ∨ c < -40 → Gives (.tempExcursion i c) s fun t =>
      t.grd.tempOut.getLsbD i.val = true ∧ t.bit (pendingFld 40) = true ∧ t.get GRD_LAST_INSTANCE = i.val) ∧
    (∀ (i : Fin 16) (c : Int), s.grd.tempOut.getLsbD i.val = true → -38 ≤ c → c ≤ 98 → Gives (.tempExcursion i c) s fun t =>
      t.grd.tempOut.getLsbD i.val = false) ∧
    (∀ (rail : Fin 14) (mv : Nat), s.railOk rail.val = true → s.grd.railSeen.getLsbD rail.val = true → rail.val ≠ 6 → rail.val ≠ 7 →
      (rail.val = 0 → 776 ≤ mv) → (rail.val = 1 → 1710 ≤ mv) → Gives (.railExcursion rail mv) s fun t =>
      t.bit (pendingFld 39) = true ∧ t.get GRD_LAST_N = 39 ∧ t.get GRD_LAST_INSTANCE = rail.val ∧ t.railOk rail.val = false)) ∧
  (∀ (s : State) (part : Fin 4), (part.val < 2 ∧ s.dev = .loading) ∨ (part.val = 2 ∧ s.dev = .running ∧ s.lanePowered = true) ∨
      (part.val = 3 ∧ s.dev = .running ∧ s.radioPowered = true) →
    (Gives (.selftestPartDone part none) s fun t => bitsOf (t.word GRD_SELFTEST) part.val 1 = 1 ∧
      bitsOf (t.word GRD_SELFTEST) (8 + part.val) 1 = 1 ∧ t.bit (evtFld 36) = true) ∧
    (∀ k : Nat, Gives (.selftestPartDone part (some k)) s fun t => bitsOf (t.word GRD_SELFTEST) part.val 1 = 0 ∧
      bitsOf (t.word GRD_SELFTEST) (8 + part.val) 1 = 1 ∧ t.bit (pendingFld 42) = true ∧ t.get GRD_LAST_INSTANCE = part.val)) ∧
  (∀ s : State, s.dev = .running → s.wch.up = true →
    Gives .logCrcScan s fun t =>
      (∀ i k, i < 1024 → k < 8 → t.word (LOG_ENTRY i k) = s.word (LOG_ENTRY i k)) ∧
      ((∀ i, i < 1024 → (∀ k, k < 8 → s.word (LOG_ENTRY i k) = 0) ∨
          s.word (LOG_ENTRY i 7) = crc32 (wordBytes (cellReadAll s.regs (LOG_ENTRY i 0) 4 7))) → t.grd = s.grd) ∧
      (∀ i, i < 1024 → s.word (LOG_ENTRY i 0) ≠ 0 → s.word (LOG_ENTRY i 7) ≠ crc32 (wordBytes (cellReadAll s.regs (LOG_ENTRY i 0) 4 7)) →
        t.bit (pendingFld 41) = true)) ∧
  (∀ (s : State) (c : Fin 3) (unit : Byte) (bits : Nat), s.dev = .running →
    (s.bit (fencedFld c.val) = false → s.grd.resync = 0 → s.grd.resyncEnd = [none, none, none] → Gives (.hkDisagree c unit bits) s fun t =>
      t.grd.resync.getLsbD c.val = true ∧ t.bit (fencedFld c.val) = false ∧ t.bit SYS_SERVICE_HK_OK = false ∧ t.get GRD_LAST_N = 1 ∧
      t.get GRD_LAST_INSTANCE = c.val) ∧
    (∀ n, s.bit (fencedFld c.val) = false → s.grd.resync = 0 → s.grd.resyncEnd = updateAt [none, none, none] c.val (fun _ => some n) →
      s.now < n + 32768 → Gives (.hkDisagree c unit bits) s fun t => t.bit (fencedFld c.val) = true ∧ t.bit SYS_SERVICE_HK_OK = false ∧
      t.get GRD_LAST_N = 2 ∧ t.bit (degradedFld 2) = true) ∧
    (s.grd.resync = 1#3 <<< c.val → s.grd.resyncEnd = [none, none, none] → Gives (.hkResyncDone c) s fun t => t.grd.resync = 0 ∧
      t.grd.resyncEnd = updateAt [none, none, none] c.val (fun _ => some s.now)))

/-! ### Image loading, audits, memory operations and fuses -/

/-- Discovery with OSC_LOCAL_IN qualified and FPLL0 locked goes on to the image where SFDP gives what MODE needs, and reads the memory as SFDP
lists it; without its signature, or without the octal tables that MODE 0b000 and 0b001 need, both error registers record it and the
load halts; so it does with CLOCK while OSC_LOCAL_IN is not qualified. A good HEADER opens the record stream, a chunk that the staging
memory takes and whose tag passes adds its plaintext to it, and neither changes a register. An error of the
primary image is recorded and starts the golden image at its HEADER; an error of the golden image halts the load: shown for a chunk
that the memory does not deliver and for one whose tag fails. -/
def Obligations.LoadUpToTheRecords : Prop :=
  (∀ (s : State) (f : Sfdp), s.inPhase 1 = true →
    (s.refOk 0 = true → s.bit (PLL_STATUS_LOCKED 0) = true →
      (f.signature = true → 2 ≤ s.modePins ∨ (f.profile1 ≠ none ∧ f.seq8d = true) → Gives (.nvmDiscovery f) s fun t =>
        t.dev = .loading ∧ t.get CFG_STATUS_PHASE = 2 ∧ (s.modePins < 2 → t.bit CFG_STATUS_OCTAL = true) ∧
        t.load = { s.load with read := nvmReadOf f (t.bit CFG_STATUS_OCTAL), sector := f.sector }) ∧
      (f.signature = false → Gives (.nvmDiscovery f) s fun t => t.dev = .halted ∧ t.bit CFG_STATUS_ERR = true ∧
        t.get CFG_ERR_PRIMARY_CODE = 0x01 ∧ t.get CFG_ERR_GOLDEN_CODE = 0x01) ∧
      (f.signature = true → s.modePins < 2 → f.profile1 = none ∨ f.seq8d = false → Gives (.nvmDiscovery f) s fun t =>
        t.dev = .halted ∧ t.bit CFG_STATUS_ERR = true ∧ t.get CFG_ERR_PRIMARY_CODE = 0x16 ∧ t.get CFG_ERR_GOLDEN_CODE = 0x16)) ∧
    (s.refOk 0 = false → s.bit CFG_STATUS_GOLDEN = false → Gives (.nvmDiscovery f) s fun t => t.dev = .halted ∧
      t.get CFG_ERR_PRIMARY_CODE = 0x13 ∧ t.get CFG_ERR_GOLDEN_CODE = 0x13)) ∧
  (∀ s : State, s.inPhase 2 = true →
    (∀ bytes, s.load.reader.header = [] → hdrFault (padTo 128 bytes) (some (s.bit CFG_STATUS_GOLDEN)) = none →
      hdrEnc (padTo 128 bytes) = s.load.fuse.isSome → hdrStored (padTo 128 bytes) ≤ s.slotBytes → Gives (.headerRecord bytes) s fun t =>
      t.load = { s.load with reader := Reader.opened (padTo 128 bytes) } ∧ s.onlyRegs t []) ∧
    (∀ stored plain, s.load.reader.header ≠ [] → s.load.reader.chunk < hdrChunks s.load.reader.header →
      s.load.reader.takesChunk false = true → chunkOpen (chunkKey s.load.fuse s.load.reader.header) s.load.reader.header s.load.reader.chunk stored = some plain →
      Gives (.chunkRead (some stored)) s fun t => t.load.reader.stream = s.load.reader.stream ++ plain ∧
      t.load.reader.chunk = s.load.reader.chunk + 1 ∧ s.onlyRegs t [] ∧ t.mask = s.mask)) ∧
  (∀ s : State, s.inPhase 2 = true → s.load.reader.header ≠ [] → s.load.reader.chunk < hdrChunks s.load.reader.header →
    s.load.reader.takesChunk false = true →
    (s.bit CFG_STATUS_GOLDEN = false → Gives (.chunkRead none) s fun t => t.dev = .loading ∧ t.bit CFG_STATUS_GOLDEN = true ∧
      t.bit CFG_STATUS_ERR = true ∧ t.get CFG_ERR_PRIMARY_CODE = 0x02 ∧ t.load.reader = Reader.empty ∧ t.load.staged = Staged.empty) ∧
    (s.bit CFG_STATUS_GOLDEN = true → Gives (.chunkRead none) s fun t => t.dev = .halted ∧ t.bit CFG_STATUS_ERR = true ∧
      t.get CFG_ERR_GOLDEN_CODE = 0x02) ∧
    (∀ stored, chunkOpen (chunkKey s.load.fuse s.load.reader.header) s.load.reader.header s.load.reader.chunk stored = none →
      (s.bit CFG_STATUS_GOLDEN = false → Gives (.chunkRead (some stored)) s fun t => t.bit CFG_STATUS_GOLDEN = true ∧
        t.get CFG_ERR_PRIMARY_CODE = 0x06) ∧
      (s.bit CFG_STATUS_GOLDEN = true → Gives (.chunkRead (some stored)) s fun t => t.dev = .halted ∧ t.get CFG_ERR_GOLDEN_CODE = 0x06)))

/-- The record that stands next is of type `ty` with payload `p`. -/
def Sys2Proof.Machine.State.nextRecord (s : State) (ty : Nat) (p : List Byte) : Prop :=
  s.inPhase 2 = true ∧ s.load.reader.header ≠ [] ∧ s.load.reader.head false = .record ty p

/-- A record that only stages changes no register, no bit of the write mask, no key slot and no frame. -/
def Sys2Proof.Machine.stagedOnly (s t : State) : Prop := s.onlyRegs t [] ∧ t.mask = s.mask ∧ t.cph = s.cph ∧ t.fab = s.fab ∧ t.ddc = s.ddc

/-- PROFILE, KEYWRAP, BANDS, PINS, MASK and SLOTS records are staged whole and take no effect before END. -/
def Obligations.RecordsTakeNoEffectBeforeEnd : Prop :=
∀ (s : State) (p : List Byte),
    (s.nextRecord 0x02 p → p.length = 20 + 8 * leField p 16 4 → (profileSettings p).find? settingBad = none →
      ((s.withOut []).applySettings (profileGuarded p) (profileSettings p)).pllDenied = none →
      (((s.withOut []).applySettings (profileGuarded p) (profileSettings p)).unitsDenied fun a => (profileSettings p).any (·.1 == a)) = none →
      Gives .profileRecord s fun t => t.load.staged = { s.load.staged with profile := p } ∧ stagedOnly s t) ∧
    (∀ k, s.nextRecord 0x03 p → p.length = 60 → gcmOpen (chunkKey s.load.fuse s.load.reader.header) (p.take 12) s.load.reader.header
        (slice p 12 32) (slice p 44 16) = some k →
      Gives .keywrapRecord s fun t => t.load.reader.wrap = some k ∧ stagedOnly s t) ∧
    (∀ bs, s.nextRecord 0x04 p → bandBlocks p.length p = some bs →
      Gives .bandsRecord s fun t => t.load.staged = { s.load.staged with bands := p } ∧ stagedOnly s t) ∧
    (s.nextRecord 0x05 p → p.length = 792 → (∀ b, b < 6 → b ∈ (pinBlocks p).map (·.1)) → (∀ b ∈ pinBlocks p, b.2.1 ≤ 1) →
      pinsDenied p = none → Gives .pinsRecord s fun t => t.load.staged = { s.load.staged with pins := p } ∧ stagedOnly s t) ∧
    (s.nextRecord 0x20 p → p.length % 8 = 0 → p.length ≤ 8192 →
      Gives .maskRecord s fun t => t.load.staged = { s.load.staged with mask := p } ∧ stagedOnly s t) ∧
    (∀ xs, s.nextRecord 0x21 p → p.length % 68 = 0 →
      slotEntries (s.load.reader.wrap.getD []) s.load.reader.pos ((List.range (p.length / 68)).map fun i => slice p (68 * i) 68) = .ok xs →
      Gives .slotsRecord s fun t => t.load.staged = { s.load.staged with slots := xs } ∧ stagedOnly s t)

/-- A record out of its place, whatever record is asked for, is an error of the image: RECORD_ORDER at the record's offset. FRAME, FILL
and REPEAT write their frames in address order from the frame address on, without a wrong bit; FRAME also fills the frame cache in
order, and the others leave deep memory as it is. A REPEAT that reads a cache slot with a single-bit error reports it; one whose slot has
a double-bit error fails the image with CACHE and the slot, and writes no frame. A region's end with the right CRC keeps it in CFG_REGION_CRC. -/
def Obligations.RecordsInOrder : Prop :=
  (∀ s : State, s.inPhase 2 = true → s.load.reader.header ≠ [] → s.load.reader.head false = .bad 0x08 s.load.reader.pos →
    s.bit CFG_STATUS_GOLDEN = false → s.load.reader.pos < 2 ^ 24 →
    (Gives .profileRecord s fun t => t.get CFG_ERR_PRIMARY_CODE = 0x08 ∧ t.get CFG_ERR_PRIMARY_DETAIL = s.load.reader.pos ∧
      t.bit CFG_STATUS_GOLDEN = true) ∧
    (Gives .frameRecord s fun t => t.get CFG_ERR_PRIMARY_CODE = 0x08 ∧ t.get CFG_ERR_PRIMARY_DETAIL = s.load.reader.pos ∧
      t.bit CFG_STATUS_GOLDEN = true) ∧
    (Gives .slotsRecord s fun t => t.get CFG_ERR_PRIMARY_CODE = 0x08 ∧ t.get CFG_ERR_PRIMARY_DETAIL = s.load.reader.pos ∧
      t.bit CFG_STATUS_GOLDEN = true)) ∧
  (∀ (s : State) (p : List Byte),
    (∀ r' a vs, s.nextRecord 0x10 p → s.load.reader.frame p = .ok (r', a, vs) → Gives .frameRecord s fun t =>
      (∀ i, i < vs.length → t.storedFrame (a + i) = vs.getD i 0) ∧
      (∀ b, b < a ∨ a + vs.length ≤ b → t.storedFrame b = s.storedFrame b) ∧
      (∀ i j, i < vs.length → vs.length ≤ 1024 → j < 256 →
        cellRead t.deep ((s.load.reader.fills + i) % 1024 * 256 + j) = (leBytes 256 (vs.getD i 0).toNat).getD j 0)) ∧
    (∀ r' a vs, s.nextRecord 0x12 p → s.load.reader.fill p = .ok (r', a, vs) → Gives .fillRecord s fun t =>
      (∀ i, i < vs.length → t.storedFrame (a + i) = vs.getD i 0) ∧
      (∀ b, b < a ∨ a + vs.length ≤ b → t.storedFrame b = s.storedFrame b) ∧ t.deep = s.deep) ∧
    (∀ r' a slots, s.nextRecord 0x11 p → s.load.reader.repeated p = .ok (r', a, slots) →
      ∀ (sbe : List (Fin 1024)) (dbe : Option (Fin 1024)),
      ((∀ k ∈ dbe, k.val ∉ slots) → Gives (.repeatRecord sbe dbe) s fun t =>
        (∀ i, i < slots.length → t.storedFrame (a + i) = frameOf (s.deepBytes (slots.getD i 0 * 256) 256)) ∧
        (∀ b, b < a ∨ a + slots.length ≤ b → t.storedFrame b = s.storedFrame b) ∧ t.deep = s.deep ∧
        ((∃ k ∈ sbe, k.val ∈ slots) → t.get GRD_LAST_N = 11)) ∧
      (∀ k : Fin 1024, dbe = some k → k.val ∈ slots → s.bit CFG_STATUS_GOLDEN = false → Gives (.repeatRecord sbe dbe) s fun t =>
        t.bit CFG_STATUS_GOLDEN = true ∧ t.get CFG_ERR_PRIMARY_CODE = 0x14 ∧ t.get CFG_ERR_PRIMARY_DETAIL = k.val ∧
        t.fab = s.fab ∧ t.deep = s.deep)) ∧
    (∀ r' c crc, s.nextRecord 0x13 p → c < 16 → s.load.reader.regionEnd p s.regionCrc = .ok (r', c, crc) →
      Gives .regionEndRecord s fun t => t.word (CFG_REGION_CRC c) = s.regionCrc c ∧ t.fab = s.fab ∧ t.load.reader.cur = none))

/-- END with matching counts, every enabled PLL's frequency in a band, OSC_LOCAL_IN within 2 % and the line modem's slots in order brings
the image in: the write mask is the image's, and the end phase begins. Fabric release once the end phase is over and the PLLs have
locked, with no trigger waiting: Running, every deep-memory byte zero. -/
def Obligations.EndAndFabricRelease : Prop :=
  (∀ (s : State) (p : List Byte), s.nextRecord 0xFF p → s.load.reader.finish p = .ok () →
    ((List.range 11).find? fun n => (s.withOut []).applyImage.bit (PLL_CFG_EN n) && ((s.withOut []).applyImage.lpllChoose.pllBand n).isNone) = none →
    (s.withOut []).applyImage.get PLL_OSC_KHZ_ALL * 98 ≤ s.pll.oscKhz * 100 →
    s.pll.oscKhz * 100 ≤ (s.withOut []).applyImage.get PLL_OSC_KHZ_ALL * 102 →
    (s.withOut []).applyImage.tpDenied = none → Gives .endRecord s fun t =>
      t.mask = maskOf s.load.staged.mask ∧ t.get CFG_STATUS_PHASE = 3 ∧ t.dev = .loading ∧ t.load.guarded = profileGuarded s.load.staged.profile ∧
      t.load.settings = profileSettings s.load.staged.profile) ∧
  (∀ (s : State) (us : Nat), s.inPhase 3 = true → s.pllsLocked = true → s.pwr.watchNLow = false → s.pwr.vmonFiltered = false →
    Gives (.fabricRelease us) s fun t => t.dev = .running ∧ t.deep = [] ∧ t.load.reader = Reader.empty ∧ t.load.staged = Staged.empty ∧
      t.mask = s.mask)

/-- The address of a memory operation that takes `n` bytes: CFG_NVM_ADDR aligned to them. -/
def Sys2Proof.Machine.State.nvmAt (s : State) (n : Nat) : Nat := s.get CFG_NVM_ADDR_ALL / n * n

/-- A PROGRAM or ERASE that would touch the golden slot without GOLDEN_WE completes with DENIED and changes nothing else. -/
def Obligations.GoldenSlotIsProtected : Prop :=
∀ (s : State) (a : Acc), s.commandOk a CFG_NVM_CMD = true → s.bit CFG_NVM_STATUS_BUSY = false → s.bit CFG_NVM_CTRL_EN = true →
    s.bit CFG_NVM_CTRL_GOLDEN_WE = false →
    (s.inGolden (s.nvmAt 256) 256 = true → Gives (.cfgNvmProgram a guardKey) s fun t => t.bit CFG_NVM_STATUS_DENIED = true ∧ t.bit CFG_NVM_STATUS_BUSY = false ∧ t.load = s.load ∧
      ∀ x, x < 0x400C0000 → x ≠ CFG_NVM_STATUS → x ∉ levelRegs → t.word x = s.word x) ∧
    (s.inGolden (s.nvmAt (s.nvmSize 3)) (s.nvmSize 3) = true → Gives (.cfgNvmErase a guardKey) s fun t => t.bit CFG_NVM_STATUS_DENIED = true ∧ t.bit CFG_NVM_STATUS_BUSY = false ∧ t.load = s.load ∧
      ∀ x, x < 0x400C0000 → x ≠ CFG_NVM_STATUS → x ∉ levelRegs → t.word x = s.word x)

/-- Audits: commanded with the key in Running or in a halted load, or by their period in Running, one starts where none runs and no memory
operation does, and waits otherwise; its end, with what the stored image's HEADER, chunks and records give, raises AUDIT_DONE with the code
and chunk, counts a good one, sets FAIL for a bad one, and does not change HEALTH. Operations on the configuration memory, with EN set, the
key and none running: READ, PROGRAM and ERASE go out to the memory at the address aligned to their size; their end clears BUSY, sets
DONE, and a READ's bytes are in CFG_NVM_BUF. Without EN the command completes with DENIED. The image key: CFG_FUSE_CMD acts
only while MODE is 0b110 and no key is fused, and the end of programming sets FUSED and writes zero to CFG_FUSE_DATA0 to 7. -/
def Obligations.AuditsMemoryAndFuses : Prop :=
  (∀ s : State,
    (∀ a golden, s.commandOk a CFG_CMD = true → s.dev = .running ∨ s.dev = .halted →
      (s.bit CFG_AUDIT_STATUS_RUNNING = false → s.bit CFG_NVM_STATUS_BUSY = false → s.load.audits = [] →
        Gives (.cfgAudit a guardKey golden) s fun t => t.bit CFG_AUDIT_STATUS_RUNNING = true ∧ t.bit CFG_AUDIT_STATUS_TARGET = golden ∧
        t.load.audits = [] ∧ t.lineLevel 21 = false ∧ t.fab = s.fab) ∧
      (s.bit CFG_AUDIT_STATUS_RUNNING = true ∨ s.bit CFG_NVM_STATUS_BUSY = true → Gives (.cfgAudit a guardKey golden) s fun t =>
        t.load.audits = s.load.audits ++ [golden] ∧ t.bit CFG_AUDIT_STATUS_RUNNING = s.bit CFG_AUDIT_STATUS_RUNNING)) ∧
    (s.dev = .running → s.get CFG_AUDIT_CFG_PERIOD_H ≠ 0 → s.bit CFG_AUDIT_STATUS_RUNNING = false → s.bit CFG_NVM_STATUS_BUSY = false →
      s.load.audits = [] → Gives .auditPeriod s fun t => t.bit CFG_AUDIT_STATUS_RUNNING = true ∧ t.bit CFG_AUDIT_STATUS_TARGET = false ∧
      t.load.audits = [true] ∧ t.fab = s.fab) ∧
    (∀ header chunks found, s.bit CFG_AUDIT_STATUS_RUNNING = true → s.load.audits = [] →
      auditImage s.load.fuse (s.bit CFG_AUDIT_STATUS_TARGET) s.slotBytes header chunks = found → Gives (.auditDone header chunks) s fun t =>
      t.bit CFG_AUDIT_STATUS_RUNNING = false ∧ t.lineLevel 21 = true ∧
      (∀ code chunk, found = some (code, chunk) → 0 < code → code < 2 ^ CFG_AUDIT_STATUS_CODE.width →
        chunk < 2 ^ CFG_AUDIT_STATUS_CHUNK.width → t.get CFG_AUDIT_STATUS_CODE = code ∧ t.get CFG_AUDIT_STATUS_CHUNK = chunk ∧
        t.lineLevel 22 = true ∧ t.get CFG_AUDIT_COUNT_COUNT = s.get CFG_AUDIT_COUNT_COUNT) ∧
      (found = none → t.get CFG_AUDIT_STATUS_CODE = 0 ∧
        (s.get CFG_AUDIT_COUNT_COUNT < 2 ^ 24 - 1 → t.get CFG_AUDIT_COUNT_COUNT = s.get CFG_AUDIT_COUNT_COUNT + 1)) ∧
      t.word GRD_PENDING_LO = s.word GRD_PENDING_LO ∧ t.word GRD_PENDING_HI = s.word GRD_PENDING_HI ∧ t.grd.pulses = s.grd.pulses)) ∧
  (∀ (s : State) (a : Acc), s.bit CFG_NVM_STATUS_BUSY = false →
    (s.commandOk a CFG_NVM_CMD = true → s.bit CFG_NVM_CTRL_EN = true → Gives (.cfgNvmRead a guardKey) s fun t =>
      t.bit CFG_NVM_STATUS_BUSY = true ∧ t.load.nvm = some (1, s.nvmAt 256) ∧ .nvm 1 (s.nvmAt 256) [] ∈ t.out) ∧
    (s.commandOk a CFG_NVM_CMD = true → s.bit CFG_NVM_CTRL_EN = true →
      (s.inGolden (s.nvmAt 256) 256 = false ∨ s.bit CFG_NVM_CTRL_GOLDEN_WE = true → Gives (.cfgNvmProgram a guardKey) s fun t =>
        t.bit CFG_NVM_STATUS_BUSY = true ∧ t.load.nvm = some (2, s.nvmAt 256) ∧
        .nvm 2 (s.nvmAt 256) (s.regBytes (CFG_NVM_BUF 0) 64) ∈ t.out) ∧
      (s.inGolden (s.nvmAt (s.nvmSize 3)) (s.nvmSize 3) = false ∨ s.bit CFG_NVM_CTRL_GOLDEN_WE = true → Gives (.cfgNvmErase a guardKey) s fun t =>
        t.bit CFG_NVM_STATUS_BUSY = true ∧ t.load.nvm = some (3, s.nvmAt (s.nvmSize 3)) ∧ .nvm 3 (s.nvmAt (s.nvmSize 3)) [] ∈ t.out)) ∧
    (s.commandOk a CFG_NVM_CMD = true → s.bit CFG_NVM_CTRL_EN = false → Gives (.cfgNvmRead a guardKey) s fun t =>
      t.bit CFG_NVM_STATUS_DENIED = true ∧ t.lineLevel 23 = true ∧ t.load = s.load) ∧
    (∀ data adr, s.load.nvm = some (1, adr) → data.length = 256 → Gives (.nvmOpDone true data) s fun t => t.bit CFG_NVM_STATUS_BUSY = false ∧
      t.lineLevel 23 = true ∧ t.load.nvm = none ∧ t.regBytes (CFG_NVM_BUF 0) 64 = data) ∧
    (∀ data op adr, s.load.nvm = some (op, adr) → Gives (.nvmOpDone false data) s fun t => t.bit CFG_NVM_STATUS_BUSY = false ∧
      t.bit CFG_NVM_STATUS_ERR = true ∧ t.load.nvm = none)) ∧
  (∀ s : State,
    (∀ a, s.commandOk a CFG_FUSE_CMD = true → s.modePins = 6 → s.bit CFG_KEY_STATE_FUSED = false → Gives (.fuseProgram a 0xF05E) s fun t =>
      t.bit CFG_KEY_STATE_FUSE_BUSY = true ∧ t.load = s.load) ∧
    (∀ a, s.modePins ≠ 6 ∨ s.bit CFG_KEY_STATE_FUSED = true → s.commandOk a CFG_FUSE_CMD = true → Gives (.fuseProgram a 0xF05E) s fun t =>
      t.bit CFG_KEY_STATE_FUSE_BUSY = s.bit CFG_KEY_STATE_FUSE_BUSY ∧ t.load = s.load) ∧
    (s.bit CFG_KEY_STATE_FUSE_BUSY = true → Gives (.fuseDone true) s fun t => t.bit CFG_KEY_STATE_FUSED = true ∧
      t.bit CFG_KEY_STATE_FUSE_BUSY = false ∧ t.load = { s.load with fuse := some (s.regBytes (CFG_FUSE_DATA 0) 8) } ∧
      ∀ j, j < 8 → t.word (CFG_FUSE_DATA j) = 0) ∧
    (s.bit CFG_KEY_STATE_FUSE_BUSY = true → Gives (.fuseDone false) s fun t => t.bit CFG_KEY_STATE_FUSE_FAIL = true ∧
      t.bit CFG_KEY_STATE_FUSE_BUSY = false ∧ t.bit CFG_KEY_STATE_FUSED = s.bit CFG_KEY_STATE_FUSED ∧ t.load = s.load ∧
      ∀ j, j < 8 → t.word (CFG_FUSE_DATA j) = 0))

/-! ### Fabric, scrubbing and partial reconfiguration -/

/-- A paired mismatch in a running region is counted, the first one is kept, the fault is pending, and the cell's output is forced as the
image sets its reaction; in an isolated region, or before release, nothing is reported. Sweeps, the hold after release and the clock
lines: a sweep pass past its bound sets its region's bit and is reported, one in time over memories without a wrong bit changes no
register; a pass over deep memory corrects the one wrong bit it meets, keeps the word and counts it; a domain's 8th edge, on a line that
carries edges, ends its hold in the regions named; a line takes SEL and CE. -/
def Obligations.PairsSweepsAndClocks : Prop :=
  (∀ (s : State) (region : Fin 16) (tile : Fin 15360) (cell : Fin 8),
    (s.fabricRuns region.val = true → Gives (.pairMismatch region tile cell) s fun t =>
      t.bit FAB_STATUS_PAIR = true ∧ t.bit (pendingFld 12) = true ∧ t.get GRD_LAST_INSTANCE = region.val ∧
      t.get FAB_PAIR_COUNT_COUNT = min (s.get FAB_PAIR_COUNT_COUNT + 1) (2 ^ FAB_PAIR_COUNT_COUNT.width - 1) ∧
      (s.bit FAB_PAIR_FIRST_VALID = false → t.get FAB_PAIR_FIRST_REGION = region.val ∧ t.get FAB_PAIR_FIRST_TILE = tile.val ∧
        t.get FAB_PAIR_FIRST_CELL = cell.val) ∧
      (s.bit FAB_PAIR_FIRST_VALID = true → t.word FAB_PAIR_FIRST = s.word FAB_PAIR_FIRST) ∧
      (match (s.cellSets (cellKey region.val tile.val cell.val)).reaction with
        | .followA => t.fab.forced = s.fab.forced
        | .safe0 => (cellKey region.val tile.val cell.val, false) ∈ t.fab.forced
        | .safe1 => (cellKey region.val tile.val cell.val, true) ∈ t.fab.forced)) ∧
    (s.fabricRuns region.val = false → Gives (.pairMismatch region tile cell) s fun t => t.fab = s.fab ∧ t.lgc = s.lgc ∧ t.grd = s.grd ∧
      s.onlyRegs t [])) ∧
  (∀ (s : State) (region : Fin 16) (us : Nat), s.fabricRuns region.val = true →
    (64000 < us → Gives (.bramSweepPassEnd region us) s fun t => bitsOf (t.word FAB_SWEEP_LATE) region.val 1 = 1 ∧ t.bit (pendingFld 17) = true ∧
      t.get GRD_LAST_N = 17 ∧ t.get GRD_LAST_INSTANCE = region.val) ∧
    (us ≤ 64000 → s.lgc.bramBad = [] → Gives (.bramSweepPassEnd region us) s fun t => s.onlyRegs t [] ∧ t.grd = s.grd) ∧
    (250000 < us → Gives (.deepSweepPassEnd region us) s fun t => bitsOf (t.word FAB_SWEEP_LATE) (16 + region.val) 1 = 1 ∧
      t.bit (pendingFld 17) = true ∧ t.get GRD_LAST_N = 17 ∧ t.get GRD_LAST_INSTANCE = region.val) ∧
    (us ≤ 250000 → s.lgc.deepBad = [] → Gives (.deepSweepPassEnd region us) s fun t => s.onlyRegs t [] ∧ t.grd = s.grd) ∧
    (∀ k i, us ≤ 250000 → k / 229376 = region.val → i < 72 → s.lgc.deepBad = [(k, 1#72 <<< i)] → s.lgc.deepFix = [] →
      (cellRead s.lgc.deepPos (k / 32768)).toNat ≤ k % 32768 → Gives (.deepSweepPassEnd region us) s fun t => t.lgc.deepBad = [] ∧
      t.deepBytes (8 * k) 8 = s.deepBytes (8 * k) 8 ∧ t.get GRD_LAST_N = 15 ∧ t.get GRD_LAST_INSTANCE = k / 32768 ∧
      t.get FAB_DEEP_ECC_SBE = min (s.get FAB_DEEP_ECC_SBE + 1) (2 ^ FAB_DEEP_ECC_SBE.width - 1))) ∧
  (∀ s : State, s.bit FAB_STATUS_RELEASED = true → s.inService = true → s.pwr.graceOver = false →
    (∀ (d : Fin 288) (regions : BitVec 16), Gives (.gholdRelease d regions) s fun t =>
      (∀ r l, r < 16 → l < 48 → t.fab.holds.getLsbD (48 * r + l) = (s.fab.holds.getLsbD (48 * r + l) &&
        !(s.domainRuns ((d.val - 32) / 16) d.val && l == domainLine d.val && regions.getLsbD r &&
          (decide (d.val < 32) || (d.val - 32) / 16 == r)))) ∧
      (s.domainRuns ((d.val - 32) / 16) d.val = true → (t.bit FAB_STATUS_GHOLD = true ↔ t.fab.holds ≠ 0))) ∧
    (∀ (line : Fin 288) sel ce, Gives (.clockMuxSwitch line sel ce) s fun t => t.fab.ce.getLsbD line.val = ce ∧
      (line.val < 32 → t.fab.sel.getLsbD line.val = sel) ∧
      (∀ k, k ≠ line.val → t.fab.sel.getLsbD k = s.fab.sel.getLsbD k ∧ t.fab.ce.getLsbD k = s.fab.ce.getLsbD k)))

/-- Data-bit positions of a code whose h(k) is 0xFF or a power of two: a wrong bit there cannot be told from another. -/
def Sys2Proof.Machine.ambiguousPlace (k : Nat) : Bool := [0, 1, 2, 4, 8, 16, 32, 64, 128, 255].contains k

/-- One wrong bit in a frame that was right: a data bit at a position that its code can tell has a correction pending which leaves no
wrong bit; any other data bit, and every check bit, is reported as uncorrectable and left as found. The oldest pending correction is
written: its frame holds what the correction leaves, CORR counts, and the fault is masked. Critical periods and passes: a period takes
SCR_CTRL as it stands; a critical pass with regions still to read is late and is finished first; the end of a pass over a region compares
its CRC, the end of the last standard region's pass counts it, raises STD_PASS and, past the bound, is late; the end of the last critical
region's pass counts it. -/
def Obligations.Scrubbing : Prop :=
  (∀ (s : State) (region : Fin 16) (frame : Fin 8192) (n : Fin 2112), s.scrubs region.val = true → s.dev = .running →
    cellRead s.fab.upsets (region.val * 8192 + frame.val) = 0 →
    (n.val < 2048 → ambiguousPlace (n.val / 8) = false → Gives (.scrubRead region frame [n]) s fun t =>
      t.fab.fixes = s.fab.fixes ++ [(region.val * 8192 + frame.val, 0, 2 ^ (n.val % 8))] ∧ t.grd = s.grd ∧ s.onlyRegs t []) ∧
    (2048 ≤ n.val ∨ ambiguousPlace (n.val / 8) = true → Gives (.scrubRead region frame [n]) s fun t =>
      t.fab.fixes = s.fab.fixes ∧ cellRead t.fab.upsets (region.val * 8192 + frame.val) = 1#2112 <<< n.val ∧
      t.bit (pendingFld 8) = true ∧ t.lineLevel 27 = true ∧ t.get GRD_LAST_INSTANCE = region.val)) ∧
  (∀ (s : State) (a : Nat) (e : BitVec 2112) (codes : Nat) (rest : List (Nat × BitVec 2112 × Nat)), s.dev = .running →
    s.fab.fixes = (a, e, codes) :: rest → Gives .correctionWrite s fun t => t.fab.fixes = rest ∧ cellRead t.fab.upsets a = e ∧
      (∀ b, b ≠ a → cellRead t.fab.upsets b = cellRead s.fab.upsets b) ∧ t.fab.frames = s.fab.frames ∧ t.lineLevel 26 = true ∧
      t.get GRD_LAST_N = 7 ∧ t.get SCR_ERR_COUNT_CORR = min (s.get SCR_ERR_COUNT_CORR + 1) (2 ^ SCR_ERR_COUNT_CORR.width - 1)) ∧
  (∀ s : State, s.dev = .running → s.bit FAB_STATUS_RELEASED = true →
    (s.critTodo = [] → Gives .criticalPeriodStart s fun t => t.fab.ctrl = s.word SCR_CTRL ∧ t.bit SCR_STATUS_LATE = s.bit SCR_STATUS_LATE ∧
      t.fab.critLate = [] ∧ t.fab.critLeft = (critOf (s.word SCR_CTRL)).filter fun r => !s.isolatedR r) ∧
    (s.critTodo ≠ [] → bitsOf s.fab.ctrl 16 1 = 1 → Gives .criticalPeriodStart s fun t =>
      t.lineLevel 29 = true ∧ t.bit (pendingFld 10) = true ∧ t.get GRD_LAST_N = 10 ∧ t.get GRD_LAST_INSTANCE = 0 ∧
      t.fab.critLate = s.critTodo ∧ t.fab.ctrl = s.word SCR_CTRL) ∧
    (∀ (r : Fin 16) (ns : Nat), s.isolatedR r.val = false → bitsOf s.fab.ctrl 16 1 = 1 → s.critNow.contains r.val = false →
      s.fab.critLate.contains r.val = false →
      (s.fab.stdLeft = [r.val] → s.regionCrc r.val = s.word (CFG_REGION_CRC r.val) →
        (ns ≤ s.stdBound → Gives (.scrubPassEnd r ns) s fun t => t.lineLevel 30 = true ∧
          t.get SCR_STD_PASSES_COUNT = min (s.get SCR_STD_PASSES_COUNT + 1) (2 ^ SCR_STD_PASSES_COUNT.width - 1) ∧
          t.get SCR_PASS_TIME_STD = min (ns / 10000) 65535 ∧ t.bit SCR_STATUS_LATE = s.bit SCR_STATUS_LATE ∧
          t.bit SCR_STATUS_CRC_FAIL = s.bit SCR_STATUS_CRC_FAIL) ∧
        (s.stdBound < ns → Gives (.scrubPassEnd r ns) s fun t => t.lineLevel 30 = true ∧ t.bit SCR_STATUS_LATE = true ∧
          t.bit (pendingFld 10) = true ∧ t.get GRD_LAST_N = 10 ∧ t.get GRD_LAST_INSTANCE = 1)) ∧
      (r.val ∈ s.fab.stdLeft → s.regionCrc r.val ≠ s.word (CFG_REGION_CRC r.val) → Gives (.scrubPassEnd r ns) s fun t =>
        t.lineLevel 28 = true ∧ t.bit (pendingFld 9) = true ∧ t.fab.badCrc.getLsbD r.val = true)) ∧
    (∀ (r : Fin 16) (ns : Nat), s.isolatedR r.val = false → bitsOf s.fab.ctrl 16 1 = 1 → s.critNow.contains r.val = true →
      s.fab.critLate = [] → s.fab.critLeft = [r.val] → s.regionCrc r.val = s.word (CFG_REGION_CRC r.val) →
      Gives (.scrubPassEnd r ns) s fun t => t.fab.critLeft = [] ∧ t.get SCR_PASS_TIME_CRIT = min (ns / 100) 65535 ∧
        (s.get SCR_CRIT_PASSES_LO_COUNT < 2 ^ 32 - 1 → t.get SCR_CRIT_PASSES_LO_COUNT = s.get SCR_CRIT_PASSES_LO_COUNT + 1) ∧
        t.bit SCR_STATUS_CRC_FAIL = s.bit SCR_STATUS_CRC_FAIL))

/-- A partial load is accepted only in Running with none in progress and the key; otherwise REFUSED sets and a load in progress stays as
it is. The course of a partial load: a cancel in phase HEADER ends it CANCELLED, a later one only sets CANCEL_LATE; a read chunk whose
tag passes adds to the stream; a failure before the first frame write leaves the region unchanged, one after it leaves the region
held; both are shown for a double-bit error in the first word read; checks that pass wait for the release, which clears the region's banks,
ends its isolation and completes. -/
def Obligations.PartialLoads : Prop :=
  (∀ (s : State) (a : Acc) (region : Fin 16), s.commandOk a SCR_PR_CMD = true →
    (s.dev = .running → s.get SCR_PR_STATE_PHASE = 0 → s.prBankOk region.val (s.get SCR_PR_SRC_BANK) = true →
      Gives (.prRequest a guardKey region) s fun t => t.get SCR_PR_STATE_PHASE = 1 ∧ t.get SCR_PR_STATUS_REGION = region.val ∧
      t.load.prBank = s.get SCR_PR_SRC_BANK ∧ t.bit SCR_PR_STATUS_REFUSED = s.bit SCR_PR_STATUS_REFUSED ∧ t.fab = s.fab) ∧
    (s.dev ≠ .running ∨ s.get SCR_PR_STATE_PHASE ≠ 0 → Gives (.prRequest a guardKey region) s fun t =>
      t.bit SCR_PR_STATUS_REFUSED = true ∧ t.load = s.load ∧ t.fab = s.fab ∧ t.get SCR_PR_STATE_PHASE = s.get SCR_PR_STATE_PHASE ∧
      t.get SCR_PR_STATUS_REGION = s.get SCR_PR_STATUS_REGION ∧ t.get SCR_PR_STATUS_CODE = s.get SCR_PR_STATUS_CODE) ∧
    (s.dev = .running → s.get SCR_PR_STATE_PHASE = 0 → s.prBankOk region.val (s.get SCR_PR_SRC_BANK) = false →
      Gives (.prRequest a guardKey region) s fun t => t.get SCR_PR_STATE_PHASE = 0 ∧ t.get SCR_PR_STATUS_CODE = 2 ∧
      t.lineLevel 25 = true ∧ t.fab = s.fab)) ∧
  (∀ s : State,
    (∀ a, s.commandOk a SCR_PR_CMD = true → s.get SCR_PR_STATE_PHASE = 1 → Gives (.prCancel a guardKey) s fun t =>
      t.get SCR_PR_STATE_PHASE = 0 ∧ t.get SCR_PR_STATUS_CODE = 1 ∧ t.fab = s.fab) ∧
    (∀ a, s.commandOk a SCR_PR_CMD = true → 2 ≤ s.get SCR_PR_STATE_PHASE → Gives (.prCancel a guardKey) s fun t =>
      t.get SCR_PR_STATE_PHASE = s.get SCR_PR_STATE_PHASE ∧ t.bit SCR_PR_STATUS_CANCEL_LATE = true ∧ t.load = s.load ∧ t.fab = s.fab) ∧
    (∀ plain, s.inService = true → s.load.pr.header ≠ [] → s.load.pr.chunk < hdrChunks s.load.pr.header → s.load.pr.rank ≠ 9 →
      chunkOpen (chunkKey s.load.fuse s.load.pr.header) s.load.pr.header s.load.pr.chunk
        (s.deepBytes (s.load.prBank * 262144 + chunkAt s.load.pr.chunk) (chunkBytes s.load.pr.header s.load.pr.chunk + 16)) = some plain →
      s.get SCR_PR_STATE_PHASE = 3 → s.lgc.deepBad = [] → (s.isolatedR 12 = true → s.bus.fs = []) → Gives (.prChunk false) s fun t =>
      t.load.pr.stream = s.load.pr.stream ++ plain ∧ t.load.pr.chunk = s.load.pr.chunk + 1 ∧ s.onlyRegs t [] ∧ t.fab = s.fab) ∧
    (s.inService = true → s.get SCR_PR_STATE_PHASE = 1 → s.load.prWrote = false → s.load.pr.rank ≠ 9 →
      s.load.pr.header = [] ∨ s.load.pr.chunk < hdrChunks s.load.pr.header → Gives (.prChunk true) s fun t =>
      t.get SCR_PR_STATE_PHASE = 0 ∧ t.get SCR_PR_STATUS_CODE = 7 ∧ t.get SCR_PR_STATE_HELD = s.get SCR_PR_STATE_HELD ∧ t.fab = s.fab) ∧
    (s.inService = true → s.get SCR_PR_STATE_PHASE = 2 → s.load.prWrote = true → s.load.pr.rank ≠ 9 →
      s.load.pr.header = [] ∨ s.load.pr.chunk < hdrChunks s.load.pr.header → Gives (.prChunk true) s fun t =>
      t.get SCR_PR_STATE_PHASE = 0 ∧ t.get SCR_PR_STATUS_CODE = 7 ∧ t.lineLevel 25 = true ∧
      (t.get SCR_PR_STATE_HELD).testBit (s.get SCR_PR_STATUS_REGION) = true ∧ t.fab = s.fab) ∧
    (∀ p o p2, s.dev = .running → s.get SCR_PR_STATE_PHASE = 3 → s.load.pr.rank ≠ 9 → s.load.pr.head true = .record 0x13 p →
      s.load.pr.regionEnd p s.regionCrc = .ok o →
      ({ s.load.pr.take 0x13 p.length with cur := none, next := 0 } : Reader).head true = .record 0xFF p2 →
      ({ s.load.pr.take 0x13 p.length with cur := none, next := 0 } : Reader).finish p2 = .ok () → Gives .prChecksDone s fun t =>
      t.load.pr.rank = 9 ∧ t.get SCR_PR_STATE_PHASE = 3 ∧ t.fab = s.fab ∧ s.onlyRegs t []) ∧
    (s.dev = .running → s.get SCR_PR_STATE_PHASE = 3 → s.load.pr.rank = 9 → s.get SCR_PR_STATUS_REGION < 16 → Gives .prRelease s fun t =>
      t.get SCR_PR_STATE_PHASE = 0 ∧ t.get SCR_PR_STATUS_CODE = 0 ∧ t.lineLevel 24 = true ∧
      t.isolatedR (s.get SCR_PR_STATUS_REGION) = false ∧
      (∀ i, i < 7 * 262144 → cellRead t.deep (s.get SCR_PR_STATUS_REGION * 7 * 262144 + i) = 0)))

/-! ### PLLs, references and the Fix selector -/

/-- What the PLLs do. APPLY: BUSY while one runs, DENIED of FPLL0 while the memory is busy (or, the model's choice of log entry 32, while it
runs on its load band), the code of the first check that fails, OK at once with EN clear, else the outputs mute and
the lock is waited for; UNMUTE: BUSY, DENIED without lock, else the outputs unmute; lock ends an APPLY with OK and unmutes unless HOLD_MUTE
holds; an APPLY without lock ends LOCK_TIMEOUT and is reported; a loss of lock mutes, counts and, its reference being good, is reported. -/
def Obligations.PllCommandsAndLock : Prop :=
∀ (s : State) (n : Fin 11),
    (∀ a, s.commandOk a (PLL_CMD n.val) = true → (s.pl n.val).applying = true →
      (Gives (.pllApply a n guardKey) s fun t => t.get (PLL_CMD_STATUS_CODE n.val) = 2 ∧ t.pll = s.pll) ∧
      (Gives (.pllUnmute a n guardKey) s fun t => t.get (PLL_CMD_STATUS_CODE n.val) = 2 ∧ t.pll = s.pll)) ∧
    (∀ a, s.commandOk a (PLL_CMD n.val) = true → (s.pl n.val).applying = false → (n.val = 0 → s.nvmBusy = false ∧ s.pll.loadBand = false) →
      (s.bit (PLL_CFG_EN n.val) = false → Gives (.pllApply a n guardKey) s fun t => t.get (PLL_CMD_STATUS_CODE n.val) = 0 ∧
        t.bit (PLL_STATUS_LOCKED n.val) = false ∧ t.bit (PLL_STATUS_MUTED n.val) = true ∧ (t.pl n.val).cfg = s.word (PLL_CFG n.val)) ∧
      (s.bit (PLL_CFG_EN n.val) = true → (s.lpllSelect n.val).pllCheck n.val = 0 → Gives (.pllApply a n guardKey) s fun t =>
        (t.pl n.val).applying = true ∧ t.bit (PLL_STATUS_LOCKED n.val) = false ∧ t.bit (PLL_STATUS_MUTED n.val) = true ∧
        (t.pl n.val).cfg = s.word (PLL_CFG n.val) ∧ t.get (PLL_CMD_STATUS_CODE n.val) = s.get (PLL_CMD_STATUS_CODE n.val)) ∧
      (s.bit (PLL_CFG_EN n.val) = true → (s.lpllSelect n.val).pllCheck n.val ≠ 0 → Gives (.pllApply a n guardKey) s fun t =>
        t.pll = s.pll ∧ t.get (PLL_CMD_STATUS_CODE n.val) = (s.lpllSelect n.val).pllCheck n.val ∧
        t.word (PLL_STATUS n.val) = s.word (PLL_STATUS n.val))) ∧
    (∀ a, s.commandOk a (PLL_CMD n.val) = true → (s.pl n.val).applying = false → n.val = 0 → s.nvmBusy = true ∨ s.pll.loadBand = true →
      Gives (.pllApply a n guardKey) s fun t => t.pll = s.pll ∧ t.get (PLL_CMD_STATUS_CODE n.val) = 3) ∧
    (∀ a, s.commandOk a (PLL_CMD n.val) = true → (s.pl n.val).applying = false →
      (s.bit (PLL_STATUS_LOCKED n.val) = false ∨ (n.val = 0 ∧ s.pll.loadBand = true) → Gives (.pllUnmute a n guardKey) s fun t => t.get (PLL_CMD_STATUS_CODE n.val) = 3 ∧
        t.word (PLL_STATUS n.val) = s.word (PLL_STATUS n.val)) ∧
      (s.bit (PLL_STATUS_LOCKED n.val) = true → (n.val = 0 → s.pll.loadBand = false) → Gives (.pllUnmute a n guardKey) s fun t =>
        t.get (PLL_CMD_STATUS_CODE n.val) = 0 ∧ t.bit (PLL_STATUS_MUTED n.val) = false ∧ t.bit (PLL_STATUS_LOCKED n.val) = true)) ∧
    (s.inService = true → s.pllOn n.val = true → s.refOk (s.pllRef n.val) = true → s.bit (PLL_STATUS_LOCKED n.val) = false →
      (n.val = 0 → s.pll.loadBand = false) → Gives (.pllLock n) s fun t =>
      t.bit (PLL_STATUS_LOCKED n.val) = true ∧ (t.pl n.val).applying = false ∧
      ((s.pl n.val).held = false ∨ s.bit (PLL_CFG_HOLD_MUTE n.val) = false → t.bit (PLL_STATUS_MUTED n.val) = false) ∧
      ((s.pl n.val).held = true → s.bit (PLL_CFG_HOLD_MUTE n.val) = true →
        t.bit (PLL_STATUS_MUTED n.val) = s.bit (PLL_STATUS_MUTED n.val)) ∧
      t.get (PLL_CMD_STATUS_CODE n.val) = (if (s.pl n.val).applying then 0 else s.get (PLL_CMD_STATUS_CODE n.val))) ∧
    (s.dev ≠ .off → (s.pl n.val).applying = true → Gives (.pllLockTimeout n) s fun t => t.get (PLL_CMD_STATUS_CODE n.val) = 5 ∧
      (t.pl n.val).applying = false ∧ t.bit (pendingFld 18) = true ∧ t.get GRD_LAST_INSTANCE = n.val) ∧
    (s.bit (PLL_STATUS_LOCKED n.val) = true → Gives (.pllLossOfLock n) s fun t => t.bit (PLL_STATUS_LOCKED n.val) = false ∧
      t.bit (PLL_STATUS_MUTED n.val) = true ∧ t.bit (PLL_STATUS_LOL n.val) = true ∧ (t.pl n.val).held = true ∧
      t.get (PLL_LOL_COUNT_COUNT n.val) =
        min (s.get (PLL_LOL_COUNT_COUNT n.val) + 1) (2 ^ (PLL_LOL_COUNT_COUNT n.val).width - 1) ∧
      (s.dev ≠ .off → s.refOk (s.pllRef n.val) = true → t.bit (pendingFld 18) = true))

/-- References and the band tables. A lost reference that is watched is reported, and every PLL that runs from it unlocks; the loss of
OSC_LOCAL_IN ends the validity of device time; a reference qualifies with two counts within 2 % of its nominal frequency (those of
OSC_LOCAL_IN, before its frequency is set, also of each other), and no other does; a band entry that a running PLL uses is not written. -/
def Obligations.ReferencesAndBandTables : Prop :=
∀ s : State,
    (∀ r : Fin 6, s.inService = true → s.refOk r.val = true → Gives (.refLoss r) s fun t => t.refOk r.val = false ∧
      (s.refWatched r.val = true → t.bit (pendingFld 19) = true ∧ t.get GRD_LAST_INSTANCE = r.val) ∧ (r.val = 0 → t.bit FIX_STATE_TIME_VALID = false ∧ t.fix.oscOk = false ∧ t.lineLevel 54 = true) ∧
      ∀ n, n < 11 → s.pllOn n = true → s.pllRef n = r.val → t.bit (PLL_STATUS_REF_LOSS n) = true ∧ t.bit (PLL_STATUS_LOCKED n) = false) ∧
    (∀ (r : Fin 6) (first khz : Nat), s.dev ≠ .off → ¬ (s.dev = .watch ∧ s.pwr.wake = 0) → s.refOk r.val = false →
      s.refCounts r.val first khz = true → Gives (.refQualified r first khz) s fun t =>
      t.refOk r.val = true ∧ (r.val = 0 → t.pll.oscKhz = khz)) ∧
    (∀ (r : Fin 6) (first khz : Nat), s.refInRange r.val first = false ∨ s.refInRange r.val khz = false ∨
      (r.val = 0 ∧ s.get PLL_OSC_KHZ_ALL = 0 ∧ countsAgree first khz = false) → Gives (.refQualified r first khz) s fun t =>
      t.pll = s.pll ∧ t.fix = s.fix) ∧
    (∀ (a : Acc) (n : Fin 11) (e : Fin 64) (v : Word), s.bandInUse n.val e.val = false →
      (s.commandOk a (PLL_BAND0 n.val e.val) = true → s.opened (PLL_BAND0 n.val e.val) = true →
        Gives (.bandEntryWrite a n e 0 v) s fun t => t.busCode a.master.val = 0 ∧ t.get (PLL_BAND0_CODE n.val e.val) = v.toNat % 64 ∧
          t.bit (PLL_BAND0_VALID n.val e.val) = v.getLsbD 31) ∧
      (s.commandOk a (PLL_BAND1 n.val e.val) = true → s.opened (PLL_BAND1 n.val e.val) = true →
        Gives (.bandEntryWrite a n e 1 v) s fun t => t.busCode a.master.val = 0 ∧ t.word (PLL_BAND1 n.val e.val) = v) ∧
      (s.commandOk a (PLL_BAND2 n.val e.val) = true → s.opened (PLL_BAND2 n.val e.val) = true →
        Gives (.bandEntryWrite a n e 2 v) s fun t => t.busCode a.master.val = 0 ∧ t.word (PLL_BAND2 n.val e.val) = v)) ∧
    (∀ (a : Acc) (n : Fin 11) (e : Fin 64) (word : Fin 3) (v : Word), s.bandInUse n.val e.val = true →
      s.commandOk a (PLL_BAND0 n.val e.val + 4 * word.val) = true → Gives (.bandEntryWrite a n e word v) s fun t =>
      t.busCode a.master.val = 2 ∧ t.get (PLL_CMD_STATUS_CODE n.val) = 4 ∧
      t.word (PLL_BAND0 n.val e.val + 4 * word.val) = s.word (PLL_BAND0 n.val e.val + 4 * word.val))

/-- No source but `m` may be selected. -/
def Sys2Proof.Machine.State.onlySource (s : State) (m : Nat) : Prop := ∀ k, 1 ≤ k → k ≤ 4 → k ≠ m → s.fixEligible k = false

/-- The selector in service. Validity sets a source's bit, and a better source that returns during a slew freezes it; invalidity clears both
bits, and of the selected source selects the best that is left or enters dead reckoning; qualification selects from dead reckoning, ends a
freeze for its candidate, and moves no selection under a hold; a hold's end selects; a slew ends within its limit; a freeze whose candidate is
gone ends. -/
def Obligations.FixSourceSelection : Prop :=
∀ s : State, s.inService = true →
    (∀ n : Fin 5, n.val < 4 → s.bit (srcValidFld (n.val + 1)) = false → ¬ (n.val = 0 ∧ s.timeMaster = true) →
      ¬ (n.val = 3 ∧ s.bit (CTX_STATUS_FLOOD (s.get FIX_BCD_CFG_CTX)) = true) →
      (s.fixState ≠ fixSlew → Gives (.sourceValid n) s fun t => t.bit (srcValidFld (n.val + 1)) = true ∧ t.word FIX_STATE = s.word FIX_STATE) ∧
      (s.fixState = fixSlew → s.fixPrio (n.val + 1) ≠ 0 → s.get FIX_STATE_SELECTED ≠ n.val + 1 →
        s.fixPrio (n.val + 1) < s.fixPrio (s.get FIX_STATE_SELECTED) → Gives (.sourceValid n) s fun t =>
        t.bit (srcValidFld (n.val + 1)) = true ∧ t.fixState = fixFrozen ∧ t.get FIX_STATE_CANDIDATE = n.val + 1 ∧
        t.get FIX_STATE_SELECTED = s.get FIX_STATE_SELECTED ∧ t.lineLevel 49 = true)) ∧
    (∀ n : Fin 5, n.val < 4 → s.bit (srcValidFld (n.val + 1)) = true →
      (s.get FIX_STATE_SELECTED ≠ n.val + 1 → Gives (.sourceInvalid n) s fun t => t.bit (srcValidFld (n.val + 1)) = false ∧
        t.bit (srcQualFld (n.val + 1)) = false ∧ t.word FIX_STATE = s.word FIX_STATE) ∧
      (s.get FIX_STATE_SELECTED = n.val + 1 → s.fixState ≠ fixIdle → s.onlySource (n.val + 1) → Gives (.sourceInvalid n) s fun t =>
        t.bit (srcValidFld (n.val + 1)) = false ∧ t.fixState = fixDr ∧ t.get FIX_STATE_SELECTED = 5 ∧ t.get FIX_DR_SECONDS_COUNT = 0 ∧
        t.lineLevel 53 = true ∧ t.lineLevel 50 = true) ∧
      (∀ m, 1 ≤ m → m ≤ 4 → m ≠ n.val + 1 → s.get FIX_STATE_SELECTED = n.val + 1 → s.fixState ≠ fixIdle → s.fixEligible m = true →
        (∀ k, 1 ≤ k → k ≤ 4 → k ≠ n.val + 1 → k ≠ m → s.fixEligible k = false) → s.bit FIX_STATE_ACQUIRE = false →
        Gives (.sourceInvalid n) s fun t => t.get FIX_STATE_SELECTED = m ∧ t.fixState = fixSlew ∧ t.fix.hold = true ∧ t.lineLevel 53 = true)) ∧
    (∀ n : Fin 5, n.val < 4 → s.bit (srcValidFld (n.val + 1)) = true → s.fixPrio (n.val + 1) ≠ 0 →
      (s.fixState = fixDr → s.get FIX_STATE_SELECTED = 5 → s.fix.hold = false → (n.val + 1 = 3 → s.bit FIX_STATE_TIME_VALID = true) →
        s.onlySource (n.val + 1) → Gives (.sourceQualified n) s fun t => t.bit (srcQualFld (n.val + 1)) = true ∧
        t.get FIX_STATE_SELECTED = n.val + 1 ∧ t.fix.hold = true ∧ t.lineLevel 48 = true) ∧
      (s.fixState = fixFrozen → s.get FIX_STATE_CANDIDATE = n.val + 1 → (n.val + 1 = 3 → s.bit FIX_STATE_TIME_VALID = true) →
        Gives (.sourceQualified n) s fun t => t.get FIX_STATE_SELECTED = n.val + 1 ∧ t.fixState ≠ fixFrozen) ∧
      (s.fixState = fixLocked → s.fix.hold = true → Gives (.sourceQualified n) s fun t => t.bit (srcQualFld (n.val + 1)) = true ∧
        t.word FIX_STATE = s.word FIX_STATE)) ∧
    (s.onlySource (s.get FIX_STATE_SELECTED) → s.selOff = false → Gives .selectionHoldEnd s fun t =>
      t.get FIX_STATE_SELECTED = s.get FIX_STATE_SELECTED ∧ t.fix.hold = false) ∧
    (∀ m, 1 ≤ m → m ≤ 4 → s.fixState = fixLocked → s.get FIX_STATE_SELECTED ≠ m → s.fixEligible m = true → s.onlySource m →
      s.fixBefore m (s.get FIX_STATE_SELECTED) = true → Gives .selectionHoldEnd s fun t => t.get FIX_STATE_SELECTED = m ∧ t.fix.hold = true) ∧
    (s.fixState = fixSlew → s.slewDone = true → Gives .slewEnd s fun t => t.fixState = fixLocked ∧ s.onlyRegs t [FIX_STATE]) ∧
    (s.fixState = fixSlew → s.slewDone = false → Gives .slewEnd s fun t => s.onlyRegs t []) ∧
    (s.fixState = fixFrozen → s.fix.candLost = true → s.onlySource 0 → Gives .freezeTimeout s fun t => t.fixState = fixDr ∧
      t.get FIX_STATE_SELECTED = 5 ∧ t.lineLevel 50 = true) ∧
    (s.fix.candLost = false → Gives .freezeTimeout s fun t => s.onlyRegs t [] ∧ t.fix = s.fix)

/-- Device time in service: the steering word of each state, bounded by 50 ppm; SET steps only in dead reckoning; PTP and PPS_IN offsets, of
the edge that PPS_POL names, and of one that comes off its second; the second, PPS_OUT and a vote of the time copies. -/
def Obligations.DeviceTimeAndItsSources : Prop :=
∀ s : State, s.inService = true → s.fix.ofs.length = 4 →
    (s.fixState = fixDr ∨ s.fixState = fixFrozen → Gives .steerUpdate s fun t =>
      t.get FIX_SIGMA_SIGMA = unsigned 32 (clampInt (-sigmaMax) sigmaMax s.drSigma)) ∧
    (s.fixState = fixLocked → Gives .steerUpdate s fun t => -sigmaMax ≤ signed 32 (t.get FIX_SIGMA_SIGMA) ∧
      signed 32 (t.get FIX_SIGMA_SIGMA) ≤ sigmaMax ∧
      (s.get FIX_STATE_SELECTED ≠ 4 ∨ s.inDeadband 4 = true → t.fixState = fixLocked ∧ t.fix.ofs = s.fix.ofs)) ∧
    (s.fixState = fixSlew → Gives .steerUpdate s fun t => t.fix.ofs = s.fix.ofs.map fun x =>
      x - s.slewDir (s.get FIX_STATE_SELECTED) * (s.get FIX_SLEW_CFG_SLEW_PPB : Int) * 16) ∧
    (∀ a, s.commandOk a FIX_SET_CMD = true → s.fixState = fixDr → Gives (.fixSet a guardKey) s fun t =>
      t.fix.sec = s.get2 FIX_SET_SEC_LO_ALL FIX_SET_SEC_HI_ALL % 2 ^ 48 ∧ t.fix.ns = s.get FIX_SET_NS_ALL ∧ t.fix.frac = 0 ∧
      t.bit FIX_STATE_TIME_VALID = true ∧ t.bit FIX_STATE_ACQUIRE = false ∧ t.lineLevel 51 = true) ∧
    (∀ a, s.commandOk a FIX_SET_CMD = true → s.fixState ≠ fixDr → Gives (.fixSet a guardKey) s fun t => t.fix = s.fix ∧
      t.word FIX_STATE = s.word FIX_STATE ∧ t.lineLevel 55 = true) ∧
    (∀ a, s.commandOk a FIX_PTP_CMD = true → s.fix.seen.getLsbD 1 = false → Gives (.ptpSubmit a false) s fun t =>
      t.ofs 2 = signed 32 (s.get FIX_PTP_OFS_OFS) * 1000 ∧ t.fix.seen.getLsbD 1 = true) ∧
    (∀ a, s.commandOk a FIX_PTP_CMD = true → s.fix.seen.getLsbD 1 = true → s.bit (srcValidFld 2) = true →
      (s.get FIX_CFG_JUMP_NS : Int) * ofsPerNs < ((signed 32 (s.get FIX_PTP_OFS_OFS) * 1000 - s.ofsDue 2).natAbs : Int) →
      Gives (.ptpSubmit a false) s fun t => t.bit (srcValidFld 2) = false ∧ t.fix.seen.getLsbD 1 = false) ∧
    (∀ a, s.commandOk a FIX_PTP_CMD = true → s.bit (srcValidFld 2) = true → Gives (.ptpWithdraw a) s fun t =>
      t.bit (srcValidFld 2) = false ∧ t.bit (srcQualFld 2) = false) ∧
    (∀ (e : Int) (cycles : Nat), s.fix.seen.getLsbD 2 = false ∨ (9999999 ≤ cycles ∧ cycles ≤ 10000001) →
      Gives (.ppsInEdge e (s.bit FIX_EXT_CFG_PPS_POL) cycles) s fun t => t.fix.seen.getLsbD 2 = true ∧
      t.word FIX_SRC_STATUS = s.word FIX_SRC_STATUS ∧ t.ofs 3 =
      ((e - (s.get FIX_EXT_CFG_CABLE_NS : Int) + 500000000) / 1000000000 * 1000000000 - (e - (s.get FIX_EXT_CFG_CABLE_NS : Int))) * ofsPerNs) ∧
    (∀ (e : Int) (cycles : Nat), s.fix.seen.getLsbD 2 = true → cycles < 9999999 ∨ 10000001 < cycles → s.bit (srcValidFld 3) = true →
      Gives (.ppsInEdge e (s.bit FIX_EXT_CFG_PPS_POL) cycles) s fun t => t.bit (srcValidFld 3) = false) ∧
    (∀ (e : Int) (rising : Bool) (cycles : Nat), rising ≠ s.bit FIX_EXT_CFG_PPS_POL → Gives (.ppsInEdge e rising cycles) s fun t =>
      t.fix = s.fix ∧ s.onlyRegs t []) ∧
    (s.fix.oscOk = true → Gives .deviceTimeSecond s fun t => t.lineLevel 52 = true ∧ t.fix.sec = (s.fix.sec + 1) % 2 ^ 48 ∧ t.fix.ns = 0 ∧
      (s.bit FIX_PPS_CFG_EN = false ∨ s.bit FIX_STATE_TIME_VALID = false → t.fix.pps = false) ∧
      (s.bit FIX_PPS_CFG_EN = true → s.bit FIX_STATE_TIME_VALID = true → s.fixState = fixLocked → t.fix.pps = true) ∧
      (s.fixState = fixDr → t.get FIX_DR_SECONDS_COUNT =
        min (s.get FIX_DR_SECONDS_COUNT + 1) (2 ^ FIX_DR_SECONDS_COUNT.width - 1))) ∧
    (Gives .ppsOutEnd s fun t => t.fix = { s.fix with pps := false } ∧ s.onlyRegs t []) ∧
    (∀ copy : Fin 3, Gives (.timeVote copy) s fun t => t.fix = s.fix ∧ t.get GRD_LAST_N = 20 ∧ t.get GRD_LAST_INSTANCE = copy.val ∧
      t.lineLevel 34 = true)

/-! ### Lanes -/

/-- Ethernet lanes, out of idle and live. A live LNK_CFG write restarts the lane in its mode; a good frame that finds room is released with its
receive timestamp, in beats of the lane's port, and counted, any other one is withheld and counted; a frame that fits waits in the transmit buffer, is sent in order, and leaves a
transmit timestamp where it asked for one; a read of LNK_TXTS_TAG pops the oldest timestamp; synchronisation makes the lane UP. -/
def Obligations.EthernetLanes : Prop :=
∀ (s : State) (n : Fin 24),
    (∀ (a : Acc) (v : Word), s.commandOk a (LNK_CFG n.val) = true → s.opened (LNK_CFG n.val) = true → v.toNat % 8 ≤ 5 →
      (1 ≤ v.toNat % 8 → v.toNat % 8 ≤ 3 → s.bit (LNK_GROUP_CFG_SPREAD (n.val / 6)) = false) → Gives (.lnkCfgWrite a n v) s fun t =>
      t.laneMode n.val = v.toNat % 8 ∧ t.busCode a.master.val = 0 ∧
      (t.word (LNK_CFG n.val) ≠ s.word (LNK_CFG n.val) → t.bit (LNK_STATUS_UP n.val) = false)) ∧
    (s.laneActive n.val = true → s.ethMode n.val = true → s.laneLive n.val = true →
      (s.bit (LNK_STATUS_UP n.val) = true → s.bit (LNK_CFG_FEC_EN n.val) = false →
        (∀ frame : List Byte, frame.length ≤ ethMax → s.streamRoom (ethRxPort n.val) (beatCount 8 frame.length) = true →
          Gives (.ethRxFrame n frame false 0 0 true) s fun t => (∃ x y z, t.out = [.ethUnit n.val frame.length x y z] ∧
            (t.strm (ethRxPort n.val)).buf = (s.strm (ethRxPort n.val)).buf ++
              unitBeats (ethUser x y z) ((frame.length + 7) % 8) (dataWords 8 frame.length frame)) ∧
          t.get2 (LNK_RX_FRAMES_LO_COUNT n.val) (LNK_RX_FRAMES_HI_COUNT n.val) =
            (s.get2 (LNK_RX_FRAMES_LO_COUNT n.val) (LNK_RX_FRAMES_HI_COUNT n.val) + 1) %
              2 ^ ((LNK_RX_FRAMES_LO_COUNT n.val).width + (LNK_RX_FRAMES_HI_COUNT n.val).width)) ∧
        (∀ (frame : List Byte) code room, code = true ∨ ethMax < frame.length ∨ room = false ∨
          s.streamRoom (ethRxPort n.val) (beatCount 8 frame.length) = false → Gives (.ethRxFrame n frame code 0 0 room) s fun t => t.out = [] ∧
          t.str = s.str ∧
          t.get (LNK_RX_DROPS_COUNT n.val) = min (s.get (LNK_RX_DROPS_COUNT n.val) + 1) (2 ^ (LNK_RX_DROPS_COUNT n.val).width - 1))) ∧
      (∀ (frame : List Byte) tag ts, (s.lane n.val).queued + ethMax ≤ ethBuffer →
        (frame.length ≤ ethMax → Gives (.ethTxSubmit n frame tag ts) s fun t =>
          (t.lane n.val).txq = (s.lane n.val).txq ++ [(frame, tag.toNat, ts)] ∧ s.onlyRegs t []) ∧
        (ethMax < frame.length → Gives (.ethTxSubmit n frame tag ts) s fun t => t.lnk = s.lnk ∧
          t.get (LNK_TX_DROPS_COUNT n.val) = min (s.get (LNK_TX_DROPS_COUNT n.val) + 1) (2 ^ (LNK_TX_DROPS_COUNT n.val).width - 1))) ∧
      (∀ frame tag ts rest, s.bit (LNK_STATUS_UP n.val) = true → (s.lane n.val).txq = (frame, tag, ts) :: rest →
        Gives (.ethTxStart n) s fun t => t.out = [.ethSent n.val frame tag] ∧ (t.lane n.val).txq = rest ∧
          (ts = false → (t.lane n.val).fifo = (s.lane n.val).fifo) ∧
          (ts = true → (s.lane n.val).fifo.length < 16 → t.bit (LNK_STATUS_TXTS n.val) = true ∧
            ∃ e, (t.lane n.val).fifo = (s.lane n.val).fifo ++ [(tag, e)]))) ∧
    (∀ (m : Fin 16), s.busTakes m.val = true → s.lanePowered = true →
      (∀ tag sec ns fns rest, (s.lane n.val).fifo = (tag, sec, ns, fns) :: rest → Gives (.txtsPop m n) s fun t => t.busCode m.val = 0 ∧
        (t.lane n.val).fifo = rest ∧ t.get (LNK_TXTS_TAG_TAG n.val) = tag % 256 ∧ t.get (LNK_TXTS_TAG_FNS n.val) = fns % 256 ∧
        t.bit (LNK_TXTS_TAG_EMPTY n.val) = false ∧ t.get (LNK_TXTS_NS_NS n.val) = ns % 2 ^ (LNK_TXTS_NS_NS n.val).width) ∧
      ((s.lane n.val).fifo = [] → Gives (.txtsPop m n) s fun t => t.busCode m.val = 0 ∧ t.bit (LNK_TXTS_TAG_EMPTY n.val) = true ∧
        t.lnk = s.lnk)) ∧
    (∀ synced aligned, s.laneActive n.val = true → s.ethMode n.val = true → Gives (.laneSync n synced aligned) s fun t =>
      t.bit (LNK_STATUS_SYNC n.val) = synced ∧
      t.bit (LNK_STATUS_UP n.val) = (synced && (!(s.laneMode n.val == 3 && s.bit (LNK_CFG_FEC_EN n.val)) || aligned)))

/-- The test pattern and the eye scan, and the bring-up of a Bearing lane: 64 clean training words train it and propose the lowest common
rate above its top, the switch takes that rate, the step's result raises the top or notes the failed rate, and with nothing left to propose
the lane settles UP; a retry repeats the failed step. A loss of signal or of lock takes the lane out of service, counts and reports. -/
def Obligations.LaneTestAndBringUp : Prop :=
∀ (s : State) (n : Fin 24),
    (∀ (a : Acc) (v : Word), s.commandOk a (LNK_PRBS_CFG n.val) = true → Gives (.prbsClear a n v) s fun t =>
      t.get2 (LNK_PRBS_ERR_LO_COUNT n.val) (LNK_PRBS_ERR_HI_COUNT n.val) = 0 ∧
      t.get2 (LNK_PRBS_BITS_LO_COUNT n.val) (LNK_PRBS_BITS_HI_COUNT n.val) = 0) ∧
    (∀ (a : Acc) (v : Word), s.commandOk a (LNK_EYE_CTRL n.val) = true → s.bit (LNK_EYE_CTRL_START n.val) = false →
      Gives (.eyeScanStart a n v) s fun t => t.bit (LNK_EYE_CTRL_START n.val) = true ∧ t.bit (LNK_EYE_RESULT_DONE n.val) = false) ∧
    (∀ errors, s.bit (LNK_EYE_CTRL_START n.val) = true → s.mon.eye = none → Gives (.eyeScanDone n errors) s fun t =>
      t.bit (LNK_EYE_CTRL_START n.val) = false ∧ t.bit (LNK_EYE_RESULT_DONE n.val) = true ∧
      t.get (LNK_EYE_RESULT_ERRORS n.val) = min errors 0xFFFFFF) ∧
    (s.laneActive n.val = true →
      (∀ locked bits errors, s.laneMode n.val = 5 → s.bit (LNK_PRBS_CFG_CHK_EN n.val) = true → Gives (.prbsLock n locked bits errors) s fun t =>
        t.bit (LNK_PRBS_STATUS_CHK_LOCK n.val) = locked ∧ t.get2 (LNK_PRBS_BITS_LO_COUNT n.val) (LNK_PRBS_BITS_HI_COUNT n.val) =
          min (s.get2 (LNK_PRBS_BITS_LO_COUNT n.val) (LNK_PRBS_BITS_HI_COUNT n.val) +
            if s.bit (LNK_PRBS_STATUS_CHK_LOCK n.val) then bits else 0) (2 ^ 64 - 1)) ∧
      (∀ cap : BitVec 5, s.get (LNK_BRG_STATE_STATE n.val) = 1 → Gives (.trainingLock n cap) s fun t =>
        t.get (LNK_BRG_STATE_STATE n.val) = 2 ∧ t.get (LNK_BRG_STATE_PEER_CAP n.val) = cap.toNat ∧
        (t.lane n.val).prop = nextRate (s.get (LNK_BRG_STATE_OWN_CAP n.val)) cap.toNat (s.lane n.val).top) ∧
      (∀ r, s.get (LNK_BRG_STATE_STATE n.val) = 2 → (s.lane n.val).prop = some r → r ≤ 4 →
        ((s.lane n.val).inStep = false → Gives (.rateStepSwitch n) s fun t => (t.lane n.val).inStep = true ∧
          t.get (LNK_BRG_STATE_RATE n.val) = r) ∧
        (∀ bits errors, (s.lane n.val).inStep = true →
          (errors ≤ s.get (LNK_BRG_CFG_MAX_ERR n.val) → Gives (.rateStepEnd n true bits errors false) s fun t => (t.lane n.val).top = r ∧
            t.get (LNK_BRG_STATE_FAILED_AT n.val) = 15 ∧ (t.lane n.val).inStep = false ∧ t.get (LNK_BRG_STATE_RATE n.val) = 0) ∧
          (∀ locked fail, locked = false ∨ s.get (LNK_BRG_CFG_MAX_ERR n.val) < errors ∨ fail = true →
            Gives (.rateStepEnd n locked bits errors fail) s fun t => (t.lane n.val).top = (s.lane n.val).top ∧
            t.get (LNK_BRG_STATE_FAILED_AT n.val) = r ∧ (t.lane n.val).prop = none))) ∧
      (s.get (LNK_BRG_STATE_STATE n.val) = 2 → (s.lane n.val).prop = none → (s.lane n.val).top ≤ 4 → Gives (.laneSettle n) s fun t =>
        t.get (LNK_BRG_STATE_STATE n.val) = 3 ∧ t.get (LNK_BRG_STATE_RATE n.val) = (s.lane n.val).top ∧ t.bit (LNK_STATUS_UP n.val) = true) ∧
      (s.get (LNK_BRG_STATE_STATE n.val) = 3 → s.get (LNK_BRG_CFG_RETRY_S n.val) ≠ 0 → s.get (LNK_BRG_STATE_FAILED_AT n.val) ≤ 4 →
        Gives (.bringupRetry n) s fun t => t.bit (LNK_STATUS_UP n.val) = false ∧ t.get (LNK_BRG_STATE_STATE n.val) = 2 ∧
        (t.lane n.val).prop = some (s.get (LNK_BRG_STATE_FAILED_AT n.val))) ∧
      (s.bit (LNK_STATUS_SIGNAL n.val) = true → Gives (.losDeclare n) s fun t => t.bit (LNK_STATUS_LOS n.val) = true ∧
        t.bit (LNK_STATUS_SIGNAL n.val) = false ∧ t.bit (LNK_STATUS_UP n.val) = false ∧
        t.get (LNK_LOS_COUNT_COUNT n.val) = min (s.get (LNK_LOS_COUNT_COUNT n.val) + 1) (2 ^ (LNK_LOS_COUNT_COUNT n.val).width - 1) ∧
        (s.laneMode n.val = 4 → t.get (LNK_BRG_STATE_STATE n.val) = 4) ∧
        (s.bit (LNK_STATUS_UP n.val) = true → s.dev = .running → t.bit (pendingFld 23) = true ∧ t.get GRD_LAST_INSTANCE = n.val)) ∧
      (Gives (.losClear n) s fun t => t.bit (LNK_STATUS_SIGNAL n.val) = true ∧
        (s.get (LNK_BRG_STATE_STATE n.val) = 4 → t.get (LNK_BRG_STATE_STATE n.val) = 1)) ∧
      (s.bit (LNK_STATUS_UP n.val) = true → Gives (.cdrLoss n) s fun t => t.bit (LNK_STATUS_CDR_LOL n.val) = true ∧
        t.bit (LNK_STATUS_UP n.val) = false ∧
        (s.dev = .running → t.bit (pendingFld 24) = true ∧ t.get GRD_LAST_INSTANCE = n.val)))

/-! ### The Bearing link -/

/-- A frame that port `p`, UP, takes whole: CRC and form good, no HELLO, its tag right, its LNONCE new on both lanes, addressed to this part
and the first of its stream. -/
def Sys2Proof.Machine.State.takesFrame (s : State) (p : Nat) (frame : List Byte) : Prop :=
  s.brgOn = true ∧ s.portState p = 3 ∧ (brgParse frame).crcOk = true ∧ (brgParse frame).formOk = true ∧ (brgParse frame).control 1 = false ∧
  s.tagOk p (brgParse frame) = true ∧ (∀ lane, lane < 2 → (s.bport p).seenAt (brgParse frame).keysel lane ≤ (brgParse frame).lnonce) ∧
  (brgParse frame).bcast = false ∧ (brgParse frame).dst = s.ownId ∧ s.excluded (brgParse frame).src = false ∧
  cellRead s.brg.rxSeq (streamKey (brgParse frame).src (brgParse frame).cls (brgParse frame).channel) = 0

/-- Ports, keys and rekeys: an authentic HELLO names the neighbour; a keyed port is UP; a rekey starts by its trigger or by command and
queues REKEY; REKEY and REKEY_ACK of the next epoch move transmission to it; the old slot is erased; a retry repeats REKEY, or with the
counter exhausted the port leaves UP and REKEY_FAIL rises; a frame with a bad CRC is dropped and, on an UP port, reported; one that a
transit part ended with an error is dropped whole (and counted with the CRC failures: the model's choice, log entry 36). -/
def Obligations.BearingKeysAndRekeys : Prop :=
∀ (s : State) (p : Fin 4), s.brgOn = true →
    (∀ second frame, s.portState p.val = 2 → (brgParse frame).crcOk = true → (brgParse frame).formOk = true →
      (brgParse frame).control 1 = true →
      (s.helloTag (brgParse frame).body = some (brgParse frame).tag → byteAt (brgParse frame).payload 1 ≠ s.ownId →
        byteAt (brgParse frame).payload 1 < 64 → byteAt (brgParse frame).payload 2 < 4 → Gives (.helloFrame p second frame) s fun t =>
        t.get (BRG_PORT_STATUS_NB_ID p.val) = byteAt (brgParse frame).payload 1 ∧
        t.get (BRG_PORT_STATUS_NB_PORT p.val) = byteAt (brgParse frame).payload 2 ∧
        (t.bport p.val).peerSeed = slice (brgParse frame).payload 4 8) ∧
      (s.helloTag (brgParse frame).body ≠ some (brgParse frame).tag → Gives (.helloFrame p second frame) s fun t =>
        t.lineLevel 113 = true ∧ t.brg = s.brg ∧ t.cph = s.cph)) ∧
    (s.portState p.val = 2 → (s.bport p.val).peerSeed ≠ [] → (s.slot (s.sessSlot p.val 0)).valid = true →
      (s.slot (s.sessSlot p.val 0)).shadow = none → Gives (.portKeyed p) s fun t => t.portState p.val = 3 ∧
      t.get (BRG_PORT_STATUS_EPOCH p.val) = 0 ∧ t.lineLevel 112 = true) ∧
    (s.portState p.val = 3 → (s.bport p.val).rekey = false → s.cphHold = false → s.get BRG_CFG_REKEY_S ≠ 0 ∨ 2 ^ 32 - 2 ^ 24 ≤ s.sessCtr p.val →
      Gives (.rekeyTrigger p) s fun t => (t.bport p.val).rekey = true ∧ ∃ f, t.brg.queue = s.brg.queue ++ [f] ∧ f.copies = [(p.val, 0)] ∧
        f.payload = [4] ++ leBytes 2 ((s.get (BRG_PORT_STATUS_EPOCH p.val) + 1) % 65536) ++ [0]) ∧
    (∀ a (ports : BitVec 4), s.commandOk a BRG_CMD = true → ports.getLsbD p.val = true → s.portState p.val = 3 → s.cphHold = false →
      Gives (.brgRekey a guardKey ports) s fun t => (t.bport p.val).rekey = true) ∧
    (∀ second frame, s.takesFrame p.val frame → (brgParse frame).cls = 2 → (brgParse frame).channel = 15 →
      leNat (slice (brgParse frame).payload 1 2) = (s.get (BRG_PORT_STATUS_EPOCH p.val) + 1) % 65536 →
      (byteAt (brgParse frame).payload 0 = 4 → (s.bport p.val).rekey = false → Gives (.rekeyFrame p second frame) s fun t =>
        t.get (BRG_PORT_STATUS_EPOCH p.val) = (s.get (BRG_PORT_STATUS_EPOCH p.val) + 1) % 65536 ∧ t.lineLevel 114 = true) ∧
      (byteAt (brgParse frame).payload 0 = 5 → (s.bport p.val).rekey = true → Gives (.rekeyAckFrame p second frame) s fun t =>
        t.get (BRG_PORT_STATUS_EPOCH p.val) = (s.get (BRG_PORT_STATUS_EPOCH p.val) + 1) % 65536 ∧ (t.bport p.val).rekey = false ∧
        t.lineLevel 114 = true)) ∧
    ((s.bport p.val).oldWaits = true → (s.bport p.val).rekey = false → s.sessSlot p.val (1 - (s.bport p.val).par) < 64 →
      Gives (.oldSlotErase p) s fun t => (t.bport p.val).oldWaits = false ∧ t.slot (s.sessSlot p.val (1 - (s.bport p.val).par)) = Slot.erased) ∧
    (s.portState p.val = 3 → (s.bport p.val).rekey = true →
      ((s.slot (s.sessSlot p.val (s.bport p.val).par)).ctr ≠ ctrMax 1 → Gives (.rekeyRetry p) s fun t =>
        ∃ f, t.brg.queue = s.brg.queue ++ [f] ∧ byteAt f.payload 0 = 4 ∧ f.copies = [(p.val, 0)]) ∧
      ((s.slot (s.sessSlot p.val (s.bport p.val).par)).ctr = ctrMax 1 → Gives (.rekeyRetry p) s fun t => t.lineLevel 115 = true ∧
        (t.bport p.val).rekey = false ∧ t.portState p.val ≠ 3)) ∧
    ((s.bport p.val).left = true → Gives (.portDown p) s fun t => (t.bport p.val).left = false ∧ (t.bport p.val).ad = none ∧
      t.lineLevel 116 = true) ∧
    (∀ second frame room, s.portState p.val = 3 → 16 ≤ frame.length → (brgParse frame).crcOk = false →
      Gives (.brgDataFrame p second frame false room) s fun t => t.bit (pendingFld 25) = true ∧
        t.get GRD_LAST_INSTANCE = s.frameLane p.val second ∧ t.brg = s.brg ∧
        t.get (BRG_CNT_COUNT 0) = min (s.get (BRG_CNT_COUNT 0) + 1) (2 ^ (BRG_CNT_COUNT 0).width - 1)) ∧
    (∀ second frame room, 2 ≤ s.portState p.val → Gives (.brgDataFrame p second frame true room) s fun t => t.brg = s.brg ∧ t.str = s.str ∧
      t.bit (pendingFld 25) = s.bit (pendingFld 25) ∧
      t.get (BRG_CNT_COUNT 0) = min (s.get (BRG_CNT_COUNT 0) + 1) (2 ^ (BRG_CNT_COUNT 0).width - 1))

/-- Frames, time and landfall. A frame of a stream that is verified and for this part is released where its port has room; one to send waits
on its route or completes NO_ROUTE or FORMAT, leaves in its turn on each lane in that lane's line coding and completes SENT, or is cancelled; a time REQ is answered and a RESP uses the kept t1; an
advertisement ages; READY, its count, landfall by time, LANDFALL heard and repeated, and admission. -/
def Obligations.BearingFramesTimeAndLandfall : Prop :=
∀ (s : State) (p : Fin 4), s.brgOn = true →
    (∀ second frame, s.takesFrame p.val frame → (brgParse frame).cls = 1 ∨ (brgParse frame).cls = 0 → s.portLive 7 = true →
      s.streamRoom (brgRxPort (brgParse frame).cls) (beatCount 8 (brgParse frame).payload.length) = true → Gives (.brgDataFrame p second frame false true) s fun t => .brgUnit (brgParse frame).cls (brgParse frame).src (brgParse frame).channel
        (brgParse frame).path (brgParse frame).seq (brgParse frame).payload ∈ t.out) ∧
    (∀ (cls : BrgClass) (dst : Fin 64) (ch : Fin 16) (tag : Byte) (pl : List Byte), s.portLive 7 = true → cls ≠ .time →
      s.brgQueued (brgClassCode cls) < brgQueueMax (brgClassCode cls) →
      (brgLenOk (brgClassCode cls) pl.length = true → cls = .sample → s.get CFG_LANDFALL_STATE ≠ 4 → s.get (BRG_ROUTE_MODE dst.val) = 0 →
        (s.portUp (s.get (BRG_ROUTE_PRIM dst.val)) = true → Gives (.brgTxSubmit cls dst false ch tag pl) s fun t =>
          ∃ f, t.brg.queue = s.brg.queue ++ [f] ∧ f.payload = pl ∧ f.dst = dst.val ∧ f.ttl = s.get (BRG_ROUTE_TTL dst.val) ∧
            f.copies = [(s.get (BRG_ROUTE_PRIM dst.val), 0)]) ∧
        (s.portUp (s.get (BRG_ROUTE_PRIM dst.val)) = false → Gives (.brgTxSubmit cls dst false ch tag pl) s fun t =>
          .brgDone (brgClassCode cls) tag.toNat 2 ∈ t.out ∧ t.brg = s.brg)) ∧
      (brgLenOk (brgClassCode cls) pl.length = false → Gives (.brgTxSubmit cls dst false ch tag pl) s fun t =>
        .brgDone (brgClassCode cls) tag.toNat 4 ∈ t.out ∧ t.brg = s.brg)) ∧
    (∀ f key ln rest, s.portState p.val = 3 → s.brgNext p.val = some f → (s.bport p.val).ahead = ln :: rest →
      s.brgKey (s.sessSlot p.val (s.bport p.val).par) = some key → f.copies = [(p.val, 0)] → f.origin = 0 → Gives (.brgTxStart p) s fun t =>
      (∃ bytes, .brgFrame p.val bytes ∈ t.out ∧ ∀ n ∈ s.portLanes p.val, s.bit (LNK_STATUS_UP n) = true → s.laneMode n = 4 →
        (s.get (LNK_BRG_STATE_RATE n) ≤ 2 → .codes n ((codeGroups (s.lane n).rd (frameChars bytes)).1.map (s.onPins n)) ∈ t.out) ∧
        (2 < s.get (LNK_BRG_STATE_RATE n) → .blocks n ((sentBlocks (s.lane n).scram (frameBlocks bytes)).1.map (s.onPins n)) ∈ t.out)) ∧
      .brgDone f.cls f.tag 0 ∈ t.out) ∧
    (∀ (cls : BrgClass) (tag : Byte) f, s.portLive 7 = true →
      s.brg.queue.find? (fun g => g.origin == 0 && g.seq.isNone && g.cls == brgClassCode cls && g.tag == tag.toNat) = some f →
      Gives (.brgCancel cls tag) s fun t => t.brg.queue = s.brg.queue.erase f ∧ .brgDone (brgClassCode cls) tag.toNat 1 ∈ t.out) ∧
    (s.portState p.val = 3 → Gives (.timeReqTimer p) s fun t => ∃ f, t.brg.queue = s.brg.queue ++ [f] ∧ f.cls = 3 ∧
      byteAt f.payload 0 = 1 ∧ f.copies = [(p.val, 0)]) ∧
    (∀ second frame, s.takesFrame p.val frame → (brgParse frame).cls = 3 →
      (byteAt (brgParse frame).payload 0 = 1 → Gives (.timeReqFrame p second frame) s fun t =>
        ∃ f, t.brg.queue = s.brg.queue ++ [f] ∧ f.cls = 3 ∧ byteAt f.payload 0 = 2 ∧ f.copies = [(p.val, 0)]) ∧
      (byteAt (brgParse frame).payload 0 = 2 → (s.bport p.val).reqT1 ≠ none → Gives (.timeRespFrame p second frame) s fun t =>
        (t.bport p.val).reqT1 = none ∧ t.brg.queue = s.brg.queue)) ∧
    ((s.bport p.val).ad ≠ none → Gives (.masterTimeout p) s fun t => (t.bport p.val).ad = none) ∧
    (s.get CFG_LANDFALL_ROLE = 1 →
      (s.get CFG_LANDFALL_STATE = 1 → s.portState p.val = 3 → Gives .readyTimer s fun t => ∃ f, t.brg.queue = s.brg.queue ++ [f] ∧
        f.bcast = true ∧ byteAt f.payload 0 = 2) ∧
      (∀ map : BitVec 64, s.get CFG_LANDFALL_STATE = 1 → Gives (.landfallFrame map) s fun t => t.exclMap = map.toNat ∧
        t.get CFG_LANDFALL_STATE = (if map.getLsbD s.ownId then 4 else if map = 0 then 2 else 3) ∧
        (map.getLsbD s.ownId = false → t.bit SYS_SERVICE_LANDFALL = true)) ∧
      (∀ id : Fin 64, id.val = s.ownId → Gives (.admitFrame id) s fun t => t.excluded id.val = false ∧
        t.get CFG_LANDFALL_STATE = 2 ∧ t.bit SYS_SERVICE_LANDFALL = true ∧ t.lineLevel 119 = true) ∧
      (∀ id : Fin 64, Gives (.admitFrame id) s fun t => t.excluded id.val = false)) ∧
    (s.get CFG_LANDFALL_ROLE = 2 →
      (∀ (src : Fin 64) (ver : Word) (golden : Bool), s.get CFG_LANDFALL_STATE = 1 → s.isCounted src.val = false → src.val ≠ s.ownId →
        (golden = true → s.brg.acceptGolden = true) → Gives (.readyFrame src ver golden) s fun t => t.isCounted src.val = true) ∧
      (∀ (src : Fin 64) (ver : Word) (golden : Bool), s.get CFG_LANDFALL_STATE ≠ 1 → s.isCounted src.val = false → src.val ≠ s.ownId →
        s.excluded src.val = true → s.bit BRG_CFG_AUTO_ADMIT = false → Gives (.readyFrame src ver golden) s fun t => t.lineLevel 118 = true ∧
        (src.val, ver.toNat, golden) ∈ t.brg.late ∧ t.excluded src.val = true) ∧
      (∀ (src : Fin 64) (ver : Word) (golden : Bool), src.val = s.ownId → Gives (.readyFrame src ver golden) s fun t =>
        t.bit CFG_LANDFALL_ID_CONFLICT = true ∧ t.brg.counted = s.brg.counted) ∧
      (s.get CFG_LANDFALL_STATE = 1 → Gives .landfallTimeout s fun t => 2 ≤ t.get CFG_LANDFALL_STATE ∧
        ∀ i, i < 64 → s.brg.expected.getLsbD i = true → s.isCounted i = false → t.excluded i = true) ∧
      (2 ≤ s.get CFG_LANDFALL_STATE → (s.bport p.val).lateUp = true → s.portState p.val = 3 → Gives .landfallRepeat s fun t =>
        ∃ f, t.brg.queue = s.brg.queue ++ [f] ∧ f.bcast = true ∧ f.payload = s.landfallBytes) ∧
      (∀ (a : Acc) (id : Fin 64) (ver : Nat) (golden : Bool), s.commandOk a BRG_ADMIT = true → s.brg.late.find? (·.1 == id.val) = some (id.val, ver, golden) →
        s.excluded id.val = true → (golden = true → s.brg.acceptGolden = true) → Gives (.brgAdmit a guardKey id) s fun t =>
        t.excluded id.val = false ∧ t.isCounted id.val = true))

/-! ### The cipher engine -/

/-- The direct request of operation `op` on slot `k` as D_CMD, with no other bit set, takes it from the D registers of page `p`. -/
def Sys2Proof.Machine.State.plainGo (s : State) (p op k : Nat) : CphReq :=
  { direct := true, page := p, entry := 0, op := op, slot := k, gen := 0, genChk := false, guard := false, tag := 0,
    tagLen := s.get (D_LEN_TAGLEN p), len := s.get (D_LEN_LEN p), aadLen := s.get (D_LEN_AADLEN p), src := 0, dst := 0, aad := 0,
    tagAddr := 0, ivAddr := 0, dData := s.regBytes (D_DATA p 0) 16, dAad := s.regBytes (D_AAD p 0) 8, dTag := s.regBytes (D_TAG p 0) 4,
    dIv := s.regBytes (D_IV p 0) 4, dp := 0, n := 0, genUsed := 0, late := false, port := false }

/-- A command of page `p` is taken: a bus write of its register `reg` by the page's master, or one at the page's fabric ports. -/
def Sys2Proof.Machine.State.pageMay (s : State) (via : PagePath) (p reg : Nat) : Prop :=
  match via with
  | .bus a => s.commandOk a reg = true
  | .fabric => s.engineOn = true ∧ s.portLive 5 = true ∧ s.pagePort p = true

/-- A submit for page `p` is taken, with no cancel beside it. -/
def Sys2Proof.Machine.State.submitMay (s : State) (via : SubmitPath) (p : Nat) : Prop :=
  match via with
  | .bus a => s.commandOk a (Q_CMD p) = true
  | .stream _ cancel => cancel = none ∧ s.engineOn = true ∧ s.portLive 5 = true ∧ s.pagePort p = true

/-- The request that a submit for page `p` describes. -/
def Sys2Proof.Machine.State.submitted (s : State) (via : SubmitPath) (p : Nat) : CphReq :=
  match via with
  | .bus _ => s.descriptor p
  | .stream words _ => s.descriptorOf p words

/-- Request `r` as it runs from a start with both datapaths free and counter value `n`: on both when guarded, else on the first. -/
def Sys2Proof.Machine.State.begun (s : State) (r : CphReq) (n : Nat) : CphReq :=
  { r with guard := s.cphGuarded r, dp := if s.cphGuarded r then 3 else 1, n := n, genUsed := (s.slot r.slot).gen }

/-- Requests, by the registers of a page and at its fabric ports. A GO is accepted, or completes at once with the status and reason of the
first check that fails, and while one is outstanding only sets BUSY_GO; a cancel beside it wins; SUBMIT queues the descriptor, or answers
full or refused; a cancel takes back what has not started and is late for what has; a start draws the counter of an ENCRYPT; an end leaves status and result in the page's registers, or on the page
interface, and a datapath mismatch of a guarded one is GUARD. -/
def Obligations.CipherRequests : Prop :=
∀ (s : State) (p : Fin 16), s.dev ≠ .draining →
    (∀ (a : Acc) (op : Fin 16) (k : Fin 64), s.commandOk a (D_CMD p.val) = true →
      (s.cph.directs.any (·.page == p.val) = true → Gives (.dGo (.bus a) p (BitVec.ofNat 32 (op.val * 2 ^ 24 + k.val * 2 ^ 16))) s fun t =>
        t.bit (D_STATUS_BUSY_GO p.val) = true ∧ t.cph = s.cph) ∧
      (s.cph.directs.any (·.page == p.val) = false → s.cphCheck (s.plainGo p.val op.val k.val) = none →
        Gives (.dGo (.bus a) p (BitVec.ofNat 32 (op.val * 2 ^ 24 + k.val * 2 ^ 16))) s fun t => t.bit (D_STATUS_BUSY p.val) = true ∧
        t.cph.directs = s.cph.directs ++ [s.plainGo p.val op.val k.val]) ∧
      (∀ st reason, s.cph.directs.any (·.page == p.val) = false → s.cphCheck (s.plainGo p.val op.val k.val) = some (st, reason) →
        Gives (.dGo (.bus a) p (BitVec.ofNat 32 (op.val * 2 ^ 24 + k.val * 2 ^ 16))) s fun t => t.bit (D_STATUS_DONE p.val) = true ∧
        t.bit (D_STATUS_BUSY p.val) = false ∧ t.get (D_STATUS_STATUS p.val) = st ∧ t.get (D_STATUS_REASON p.val) = reason) ∧
      (s.cph.directs.any (·.page == p.val) = false →
        Gives (.dGo (.bus a) p (BitVec.ofNat 32 (2 ^ 30 + op.val * 2 ^ 24 + k.val * 2 ^ 16))) s fun t => t.bit (D_STATUS_DONE p.val) = true ∧
        t.get (D_STATUS_STATUS p.val) = stCancelled ∧ t.cph.directs = s.cph.directs)) ∧
    (∀ (x : PageBeats) (v : Word), s.pageMay .fabric p.val (D_CMD p.val) → v.getLsbD 30 = false → s.cph.directs.any (·.page == p.val) = false →
      (s.cphCheck (pageRequest p.val v x) = none → Gives (.dGo (.fabric x) p v) s fun t => t.bit (D_STATUS_BUSY p.val) = true ∧
        t.cph.directs = s.cph.directs ++ [pageRequest p.val v x]) ∧
      (∀ st reason, s.cphCheck (pageRequest p.val v x) = some (st, reason) → Gives (.dGo (.fabric x) p v) s fun t =>
        .pageDone p.val st reason 0 ∈ t.out ∧ t.cph.directs.any (·.page == p.val) = false)) ∧
    (∀ (via : PagePath) (r : CphReq), s.pageMay via p.val (D_CMD p.val) → s.cph.directs.find? (·.page == p.val) = some r → r.direct = true →
      (r.dp = 0 → Gives (.dCancel via p) s fun t => t.bit (D_STATUS_DONE p.val) = true ∧ t.get (D_STATUS_STATUS p.val) = stCancelled ∧
        t.cph.directs.any (fun x => x.direct && x.page == p.val) = false) ∧
      (r.dp ≠ 0 → Gives (.dCancel via p) s fun t => { r with late := true } ∈ t.cph.directs)) ∧
    (∀ via : SubmitPath, s.submitMay via p.val →
      (64 ≤ s.queueUsed ∨ s.pageQuota p.val ≤ s.pageQueued p.val → Gives (.qSubmit via p 0) s fun t =>
        t.get (Q_SUBMIT_STATUS_RESULT p.val) = 2 ∧ t.cph.queue = s.cph.queue) ∧
      (s.queueUsed < 64 → s.pageQueued p.val < s.pageQuota p.val →
        (s.cphCheck (s.submitted via p.val) = none → Gives (.qSubmit via p 0) s fun t =>
          t.get (Q_SUBMIT_STATUS_RESULT p.val) = 1 ∧ t.cph.queue = s.cph.queue ++ [s.submitted via p.val]) ∧
        (s.cphCheck (s.submitted via p.val) ≠ none → Gives (.qSubmit via p 0) s fun t =>
          t.get (Q_SUBMIT_STATUS_RESULT p.val) = 4 ∧ t.cph.queue = s.cph.queue))) ∧
    (∀ via : PagePath, s.pageMay via p.val (Q_CMD p.val) →
      (∀ (tag : Byte) (r : CphReq), s.cph.queue.find? (fun x => x.page == p.val && x.tag == tag.toNat) = some r → r.direct = false →
        (r.dp = 0 → Gives (.qCancel via p tag) s fun t => r ∉ t.cph.queue ∧
          t.get CPH_CNT_CANCEL_COUNT = min (s.get CPH_CNT_CANCEL_COUNT + 1) (2 ^ CPH_CNT_CANCEL_COUNT.width - 1)) ∧
        (r.dp ≠ 0 → Gives (.qCancel via p tag) s fun t => { r with late := true } ∈ t.cph.queue))) ∧
    (∀ r : CphReq, s.engineOn = true → s.cphHold = false → s.cphNext = some r → s.cphBusy = 0 → s.cphCheck r = none → r.genChk = false →
      r.slot < 64 →
      (r.op = 1 → (s.slot r.slot).ctr ≠ ctrMax (s.slot r.slot).ctrw → Gives .cphOpStart s fun t =>
        (t.slot r.slot).ctr = (s.slot r.slot).ctr + 1 ∧ s.begun r (s.slot r.slot).ctr ∈ t.cph.directs ++ t.cph.queue) ∧
      (r.op = 1 → (s.slot r.slot).ctr = ctrMax (s.slot r.slot).ctrw → Gives .cphOpStart s fun t => (t.slot r.slot).exhausted = true ∧
        r ∉ t.cph.directs ++ t.cph.queue) ∧
      (r.op = 2 → Gives .cphOpStart s fun t => t.cph.slots = s.cph.slots ∧ s.begun r 0 ∈ t.cph.directs ++ t.cph.queue)) ∧
    (∀ (d : Fin 2) (r : CphReq), s.cphHold = false → (s.cph.directs ++ s.cph.queue).find? (fun x => x.dp / 2 ^ d.val % 2 == 1) = some r →
      r.direct = true → r.page < 16 →
      (∀ out, r.port = true → cphCompute (s.slot r.slot) r.op r.n r.dIv (r.dAad.take r.aadLen) (r.dData.take r.len) (r.dTag.take r.tagLen)
          r.tagLen = out → out.1 = stComplete → out.2.1.length % 8 = 0 → Gives (.cphOpComplete d false false) s fun t =>
        .pageData r.page (beats16 out.2.1.length out.2.1) (leNat out.2.2.1) (leNat out.2.2.2) ∈ t.out ∧
        .pageDone r.page stComplete 0 (if r.op = 1 then r.n % 2 ^ 32 else 0) ∈ t.out) ∧
      (∀ out, r.port = false → cphCompute (s.slot r.slot) r.op r.n r.dIv (r.dAad.take r.aadLen) (r.dData.take r.len) (r.dTag.take r.tagLen) r.tagLen = out →
        out.1 = stComplete → out.2.1.length ≤ 64 → out.2.1.length % 8 = 0 → out.2.2.1.length ≤ 16 → out.2.2.2.length ≤ 16 →
        Gives (.cphOpComplete d false false) s fun t => t.bit (D_STATUS_DONE r.page) = true ∧ t.get (D_STATUS_STATUS r.page) = stComplete ∧
          t.regBytes (D_DATA r.page 0) (out.2.1.length / 4) = out.2.1) ∧
      (s.engineOn = true → r.guard = true → Gives (.cphOpComplete d true false) s fun t => t.bit (D_STATUS_DONE r.page) = true ∧
        t.get (D_STATUS_STATUS r.page) = stGuard ∧ t.bit (pendingFld 26) = true)) ∧
    (∀ (m : Fin 16) (rec tag : Nat) (rest : List (Nat × Nat)), s.busTakes m.val = true → s.pageHidden m.val (Q_CMP_LO p.val) = false →
      s.cph.waiting = [] → s.cph.fifos[p.val]?.getD [] = (rec, tag) :: rest → Gives (.qCmpPop m p) s fun t => t.busCode m.val = 0 ∧
      (t.busData m.val).toNat = rec % 2 ^ 32 ∧ t.cph.fifos[p.val]?.getD [] = rest ∧ t.cph.helds[p.val]?.getD 0 = rec)

/-- Key slots and the hard clients. WRITE, RANDOM and DERIVE fill a slot that is not VALID at once and one that is VALID through its shadow, K_DATA
zeroed after each; a refused one changes no slot; ERASE, a double-bit error and zeroization erase; a shadow takes effect with a new
generation; masks, seeds, challenges and responses. -/
def Obligations.CipherSlotsAndClients : Prop :=
∀ s : State, s.dev ≠ .draining →
    (∀ (a : Acc) (p : Fin 16) (k : Fin 64), s.commandOk a (K_CMD p.val) = true → s.released = true → s.slotAllowed p.val k.val = true →
      ((s.slot k.val).valid = false → Gives (.kWrite a p guardKey k) s fun t =>
        (t.slot k.val).key = (s.regBytes (K_DATA p.val 0) 8).take (s.kLen p.val) ∧ (t.slot k.val).valid = true ∧ (t.slot k.val).ctr = 0 ∧
        (t.slot k.val).gen = 0 ∧ (t.slot k.val).modebind = s.get (K_BIND_MODEBIND p.val) ∧ t.get (K_STATUS_RESULT p.val) = 0 ∧
        ∀ i, i < 8 → t.word (K_DATA p.val i) = 0) ∧
      ((s.slot k.val).valid = true → Gives (.kWrite a p guardKey k) s fun t => (t.slot k.val).key = (s.slot k.val).key ∧
        (t.slot k.val).shadow = some (s.kBound p.val ((s.regBytes (K_DATA p.val 0) 8).take (s.kLen p.val))) ∧
        t.get (K_STATUS_RESULT p.val) = 2) ∧
      (s.bit CPH_STATUS_RNG_FAIL = false → s.cph.rngFails = false → (s.slot k.val).valid = false → Gives (.kRandom a p guardKey k) s fun t =>
        (t.slot k.val).key.length = s.kLen p.val ∧ (t.slot k.val).valid = true ∧ t.get (K_STATUS_RESULT p.val) = 0) ∧
      (s.bit CPH_STATUS_RNG_FAIL = true → Gives (.kRandom a p guardKey k) s fun t => t.cph = s.cph ∧ t.get (K_STATUS_RESULT p.val) = 1) ∧
      (∀ parent : Fin 64, s.parentOk p.val parent.val = true → (s.slot k.val).valid = false → Gives (.kDerive a p guardKey parent k) s fun t =>
        (t.slot k.val).key = s.kDerived p.val parent.val ∧ (t.slot k.val).valid = true ∧ t.get (K_STATUS_RESULT p.val) = 0) ∧
      (∀ parent : Fin 64, s.parentOk p.val parent.val = false → Gives (.kDerive a p guardKey parent k) s fun t => t.cph = s.cph ∧
        t.get (K_STATUS_RESULT p.val) = 1) ∧
      (Gives (.kErase a p guardKey k) s fun t => t.slot k.val = Slot.erased ∧ t.get (K_STATUS_RESULT p.val) = 0)) ∧
    (∀ (a : Acc) (p : Fin 16) (k : Fin 64), s.commandOk a (K_CMD p.val) = true → s.released = false ∨ s.slotAllowed p.val k.val = false →
      (Gives (.kWrite a p guardKey k) s fun t => t.cph = s.cph ∧ t.get (K_STATUS_RESULT p.val) = 1) ∧
      (Gives (.kErase a p guardKey k) s fun t => t.cph = s.cph ∧ t.get (K_STATUS_RESULT p.val) = 1)) ∧
    (∀ (k : Fin 64) (n : ShadowKey), (s.slot k.val).shadow = some n → s.inFlight k.val = false → Gives (.shadowTakeEffect k) s fun t =>
      (t.slot k.val).key = n.key ∧ (t.slot k.val).gen = ((s.slot k.val).gen + 1) % 256 ∧ (t.slot k.val).ctr = 0 ∧
      (t.slot k.val).shadow = none ∧ t.lineLevel 150 = true) ∧
    (∀ a, s.commandOk a CPH_ZERO = true → Gives (.cphZeroize a guardKey) s fun t => (∀ k, k < 64 → t.slot k = Slot.erased) ∧
      t.cph.waiting = [] ∧ t.lineLevel 147 = true) ∧
    (s.engineOn = true →
      (∀ test, Gives (.rngHealthFail test) s fun t => t.bit CPH_STATUS_RNG_FAIL = true ∧ t.cph.rngFails = true ∧
        t.bit (pendingFld 27) = true ∧ t.lineLevel 149 = true) ∧
      (∀ (k : Fin 64) (word : Fin 8), (Gives (.slotCheck k word 0) s fun t => t.cph = s.cph) ∧
        (Gives (.slotCheck k word 1) s fun t => t.cph = s.cph ∧ t.get GRD_LAST_N = 28 ∧ t.get GRD_LAST_INSTANCE = k.val) ∧
        (Gives (.slotCheck k word 2) s fun t => t.slot k.val = Slot.erased ∧ t.bit (pendingFld 29) = true)) ∧
      (∀ (lmd : Bool) (k : Fin 64) (fixed : List Byte), s.released = true →
        (if lmd then s.lmdSlotOk k.val else s.brgSlotOk k.val) = true → mbAllows (s.slot k.val).modebind 1 = true →
        mbMode (s.slot k.val).modebind = 4 → s.cphHold = false → (s.slot k.val).valid = true → (s.slot k.val).ctr ≠ ctrMax (s.slot k.val).ctrw →
        Gives (.gcmMask lmd k fixed) s fun t => (t.slot k.val).ctr = (s.slot k.val).ctr + 1 ∧
          ∃ x, t.out = [.unit 10 k.val [stComplete, (s.slot k.val).ctr, x]]) ∧
      (∀ (lmd : Bool) (k : Fin 64) (fixed : List Byte), (if lmd then s.lmdSlotOk k.val else s.brgSlotOk k.val) = false → s.cphHold = false →
        Gives (.gcmMask lmd k fixed) s fun t => t.cph = s.cph ∧ t.out = [.unit 10 k.val [stPageDenied]]) ∧
      (s.released = true → s.bit CPH_STATUS_RNG_FAIL = false → s.cph.rngFails = false → Gives .helloSeed s fun t =>
        ∃ x, t.out = [.unit 10 64 [stComplete, x]]) ∧
      (s.released = true → s.bit CPH_STATUS_RNG_FAIL = true → Gives .helloSeed s fun t => t.out = [.unit 10 64 [stPageDenied, 7]]) ∧
      ((s.slot 63).valid = true → s.bit CPH_STATUS_RNG_FAIL = false → s.cph.rngFails = false → Gives .loginChallenge s fun t =>
        t.cph.challenge.length = 16 ∧ .unit 10 63 [stComplete, beNat t.cph.challenge] ∈ t.out) ∧
      (∀ (lmd : Bool) (k : Fin 64) (fixed : List Byte), s.cphHold = true → Gives (.gcmMask lmd k fixed) s fun t => t.cph = s.cph ∧ t.out = []) ∧
      (∀ bytes, s.cphHold = false → Gives (.loginResponse bytes) s fun t => t.cph.challenge = [] ∧
        .unit 10 63 [if s.loginPass bytes then 1 else 0] ∈ t.out)) ∧
    (Gives .challengeExpiry s fun t => t.cph.challenge = [])

/-! ### Samplers, channelizer and broadcast reception -/

/-- Sounding windows collect estimates, but for those that are discarded; a trim step with enough of them commits their mean and hands its position to the spare, or declares
a fault where the mean is out of range, and with too few commits nothing; a ramp's end moves the chain; a slice that departs in two windows
running is declared and the spare stands in; the coefficient commands; an underrun outputs 0; a stream unit of 1,024 beats with its flags
enters its port's buffer, or is dropped whole and counted. -/
def Obligations.SamplersSoundAndStandIn : Prop :=
∀ s : State, s.dev = .running →
    (∀ (rf : Bool), s.smpOn rf = true → s.spllOk = true →
      (∀ est clip power, s.smpStep rf = 1 ∨ s.smpStep rf = 3 →
        (s.windowBad rf clip power = false → Gives (.soundWindowEnd rf est clip power) s fun t => t.rot rf =
          { s.rot rf with wins := (s.rot rf).wins + 1, power := some power, att := false, ests := (s.rot rf).ests ++ [est] }) ∧
        (s.windowBad rf clip power = true → Gives (.soundWindowEnd rf est clip power) s fun t => t.rot rf =
          { s.rot rf with wins := (s.rot rf).wins + 1, power := some power, att := false } ∧ t.lineLevel 165 = true ∧
          t.get SMP_SKIP_COUNT_COUNT = min (s.get SMP_SKIP_COUNT_COUNT + 1) (2 ^ SMP_SKIP_COUNT_COUNT.width - 1))) ∧
      (s.smpStep rf = 1 → (s.rot rf).pos < smpPositions rf → s.trimWindows ≤ (s.rot rf).ests.length →
        (coefInLimits (meanSet (s.rot rf).ests s.draw) = true → s.chainRamp (smpChain rf (s.rot rf).pos) = false →
          Gives (.trimStepEnd rf) s fun t => t.coefSet (setIndex rf true (s.rot rf).pos) = meanSet (s.rot rf).ests s.draw ∧
          t.serving rf (s.rot rf).pos = smpSpare rf ∧ t.smpStep rf = 3 ∧ t.lineLevel 161 = true) ∧
        (coefInLimits (meanSet (s.rot rf).ests s.draw) = false → s.faulty (smpGlobal rf (smpSpare rf)) = false →
          Gives (.trimStepEnd rf) s fun t => t.faulty (smpGlobal rf (smpSpare rf)) = true ∧ t.smpStep rf = 0 ∧ t.smp.sets = s.smp.sets)) ∧
      (s.smpStep rf = 1 → (s.rot rf).ests.length < s.trimWindows → 4 * s.trimWindows ≤ (s.rot rf).wins →
        Gives (.trimStepEnd rf) s fun t => t.smp.sets = s.smp.sets ∧ t.lineLevel 161 = true)) ∧
    (∀ (c : Fin 6) g old n, s.rampOf c.val = some (c.val, g, old, n) → g < 8 → (4 ≤ c.val → 5 ≤ g) → Gives (.handoverRampEnd c) s fun t =>
      t.serving (decide (c.val < 4)) (if c.val < 4 then c.val else c.val - 4) = (if c.val < 4 then g else g - 5)) ∧
    (∀ (i : Fin 4) (cause : Nat) (stats : List SliceStats), s.smpOn true = true → s.spllOk = true → s.get SMP_FAULT_FAULTY = 0 →
      s.smp.forced = 0 → (∀ j, j < 5 → s.monitored true j = true →
        (stats[j]?).bind (s.departCause true stats) = if j = i.val then some cause else none) →
      (s.smp.departs = 0 → Gives (.monitorWindowEnd true stats false) s fun t => t.smp.departs = 1#8 <<< i.val ∧ t.faulty i.val = false) ∧
      (s.smp.departs = 1#8 <<< i.val → Gives (.monitorWindowEnd true stats false) s fun t => t.faulty i.val = true ∧
        t.get SMP_FAULT_FIRST = i.val ∧ t.get SMP_FAULT_CAUSE = cause ∧ t.serving true i.val = smpSpare true ∧ t.get GRD_LAST_N = 30 ∧
        t.lineLevel 160 = true)) ∧
    (∀ (a : Acc) (k : Fin 16), s.commandOk a SMP_COEF_CMD = true →
      (k.val < 12 → coefInLimits s.staged = true → Gives (.smpApply a guardKey k) s fun t => t.coefSet k.val = s.staged) ∧
      (k.val < 12 → coefInLimits s.staged = false → Gives (.smpApply a guardKey k) s fun t => t.smp = s.smp ∧
        t.bit SMP_STATUS_APPLY_REFUSED = true ∧ t.lineLevel 169 = true) ∧
      (k.val < 12 → Gives (.smpLoad a guardKey k) s fun t => t.get SMP_STAGE_OFFSET_VALUE = unsigned 16 (s.coefSet k.val).offset ∧
        t.get SMP_STAGE_GAIN_VALUE = (s.coefSet k.val).gain % 2 ^ 18 ∧ t.get SMP_STAGE_SKEW_VALUE = unsigned 16 (s.coefSet k.val).skew ∧
        t.get SMP_STAGE_BW_VALUE = unsigned 16 (s.coefSet k.val).bw ∧ t.smp = s.smp) ∧
      (k.val < 8 → s.faulty k.val = false → Gives (.smpForceFault a guardKey k) s fun t => t.smp.forced = s.smp.forced ||| (1#8 <<< k.val))) ∧
    (∀ c : Fin 2, s.radioOn = true → s.spllOk = true → bitsOf (s.word SMP_CFG) (2 + c.val) 1 = 1 → bitsOf (s.word SMP_CFG) (4 + c.val) 1 = 1 →
      Gives (.dacUnderrun c) s fun t => t.out = [.dac c.val 0] ∧ t.lineLevel 168 = true ∧
        t.get SMP_DAC_UNDER_COUNT = min (s.get SMP_DAC_UNDER_COUNT + 1) (2 ^ SMP_DAC_UNDER_COUNT.width - 1)) ∧
    (∀ clip, s.smpOn true = true → s.spllOk = true → s.bit SMP_CFG_RAW_EN = true →
      (s.portLive 0 = true → s.streamRoom rawPort 1024 = true → Gives (.smpStreamUnit true clip true) s fun t =>
        (∃ ns words, ns < 1000000000 ∧ words.length = 1024 ∧ (t.strm rawPort).buf = (s.strm rawPort).buf ++ unitBeats (ns +
          ((if clip then 1 else 0) + (if s.smp.attSeen then 2 else 0) + (if s.smp.handSeen then 4 else 0)) * 2 ^ 32) 0 words) ∧
        t.smp.attSeen = false ∧ t.smp.handSeen = false) ∧
      (∀ room, room = false ∨ s.streamRoom rawPort 1024 = false → Gives (.smpStreamUnit true clip room) s fun t => t.str = s.str ∧
        t.get SMP_DROPS_COUNT = min (s.get SMP_DROPS_COUNT + 1) (2 ^ SMP_DROPS_COUNT.width - 1)))

/-- DDC `d`, which user logic owns: RETUNE latches the tuning word, or is dropped while a hop list runs, or with unsafe new settings refused;
the word applies at the next boundary with a new generation; SWAP exchanges the banks when the new taps fit; a hop list starts at entry 0,
advances, ends a cycle and stops; a unit that has run to its end is released in beats of the DDC's port, or dropped whole and counted; a
coefficient goes to the inactive bank; table words in error are reported. -/
def Obligations.DdcTuneSwapHopAndStream : Prop :=
∀ (s : State) (d : Fin 8), s.dev = .running → s.bit (DDC_CFG_OWNER d.val) = false →
    (∀ a : Acc, s.commandOk a (DDC_CMD d.val) = true →
      (s.bit (DDC_STATUS_HOPPING d.val) = true → Gives (.ddcRetune a d 0) s fun t => t.bit (DDC_STATUS_RETUNE_DROP d.val) = true ∧
        t.dd d.val = s.dd d.val) ∧
      (s.bit (DDC_STATUS_HOPPING d.val) = false → (s.dd d.val).dirty = false → (s.dd d.val).latched = none → Gives (.ddcRetune a d 0) s fun t =>
        (t.dd d.val).latched = some (s.get (DDC_FREQ_FW d.val), false, false) ∧ t.bit (DDC_STATUS_RETUNE_PEND d.val) = true) ∧
      (s.bit (DDC_STATUS_HOPPING d.val) = false → (s.dd d.val).dirty = true → s.ddcLimitsOk d.val = false → Gives (.ddcRetune a d 0) s fun t =>
        t.bit (DDC_STATUS_LIMIT_REFUSED d.val) = true ∧ t.dd d.val = s.dd d.val) ∧
      (Gives (.ddcSwap a d 0) s fun t => t.bit (DDC_STATUS_SWAP_PEND d.val) = true) ∧
      (s.bit (DDC_STATUS_HOPPING d.val) = false → s.ddcRunning d.val = true → cfgScs (s.dd d.val).cfg = true →
        Gives (.ddcHopStart a d 0) s fun t => t.bit (DDC_STATUS_HOPPING d.val) = true ∧ t.get (DDC_STATUS_HOP_IDX d.val) = 0 ∧
        (t.dd d.val).fw = (s.word (DDC_HOP d.val 0)).toNat) ∧
      (s.bit (DDC_STATUS_HOPPING d.val) = true → Gives (.ddcHopStop a d 0) s fun t => (t.dd d.val).hopStop = true ∧
        t.bit (DDC_STATUS_HOPPING d.val) = true)) ∧
    (∀ fw reset restart, (s.dd d.val).latched = some (fw, reset, restart) → s.ddcRunning d.val = true → Gives (.retuneApply d) s fun t =>
      (t.dd d.val).fw = fw ∧ (t.dd d.val).latched = none ∧ t.bit (DDC_STATUS_RETUNE_PEND d.val) = false ∧
      t.get (DDC_GEN_GEN d.val) = (s.get (DDC_GEN_GEN d.val) + 1) % 2 ^ (DDC_GEN_GEN d.val).width ∧
      (reset = true → (t.dd d.val).phase = s.startPhase d.val)) ∧
    (s.bit (DDC_STATUS_SWAP_PEND d.val) = true → (s.dd d.val).latched = none →
      (decOk (decD (s.dd d.val).dec) (decTaps (s.word (DDC_DEC d.val))) (cfgScs (s.dd d.val).cfg) = true → Gives (.swapApply d) s fun t =>
        t.bit (DDC_STATUS_ACTIVE_BANK d.val) = !s.bit (DDC_STATUS_ACTIVE_BANK d.val) ∧ t.bit (DDC_STATUS_SWAP_PEND d.val) = false ∧
        t.get (DDC_STATUS_TAPS d.val) = decTaps (s.word (DDC_DEC d.val)) ∧ (t.dd d.val).dbe = false) ∧
      (decOk (decD (s.dd d.val).dec) (decTaps (s.word (DDC_DEC d.val))) (cfgScs (s.dd d.val).cfg) = false → Gives (.swapApply d) s fun t =>
        t.bit (DDC_STATUS_LIMIT_REFUSED d.val) = true ∧ t.bit (DDC_STATUS_ACTIVE_BANK d.val) = s.bit (DDC_STATUS_ACTIVE_BANK d.val) ∧
        t.ddc = s.ddc)) ∧
    (s.bit (DDC_STATUS_HOPPING d.val) = true → s.ddcRunning d.val = true → s.auxOf d.val = none → (s.dd d.val).hopStop = false →
      (s.get (DDC_STATUS_HOP_IDX d.val) < bitsOf (s.dd d.val).hopCfg 8 4 → Gives (.hopAdvance d) s fun t =>
        t.get (DDC_STATUS_HOP_IDX d.val) = s.get (DDC_STATUS_HOP_IDX d.val) + 1 ∧
        (t.dd d.val).fw = (s.word (DDC_HOP d.val (s.get (DDC_STATUS_HOP_IDX d.val) + 1))).toNat) ∧
      (bitsOf (s.dd d.val).hopCfg 8 4 ≤ s.get (DDC_STATUS_HOP_IDX d.val) → bitsOf (s.dd d.val).hopCfg 12 1 = 1 →
        Gives (.hopAdvance d) s fun t => t.bit (DDC_STATUS_HOPPING d.val) = false ∧ t.lineLevel 187 = true) ∧
      (bitsOf (s.dd d.val).hopCfg 8 4 ≤ s.get (DDC_STATUS_HOP_IDX d.val) → bitsOf (s.dd d.val).hopCfg 12 1 = 0 →
        Gives (.hopAdvance d) s fun t => t.get (DDC_STATUS_HOP_IDX d.val) = 0 ∧ t.bit (DDC_STATUS_HOPPING d.val) = true ∧
        t.lineLevel 187 = true)) ∧
    (s.ddcRunning d.val = true → bitsOf (s.dd d.val).cfg 28 1 = 1 → 0 < (s.dd d.val).step → 0 < s.unitLen d.val →
      (s.dd d.val).part ≤ s.unitLen d.val * (s.dd d.val).step → (s.dd d.val).words.length = (s.dd d.val).part / (s.dd d.val).step →
      (s.portLive 1 = true → s.streamRoom (ddcPort d.val) (s.unitLen d.val) = true → Gives (.ddcUnitComplete d true) s fun t =>
        (∃ user words, words.length = s.unitLen d.val ∧
          (t.strm (ddcPort d.val)).buf = (s.strm (ddcPort d.val)).buf ++ unitBeats user 0 words) ∧
        (t.dd d.val).words = [] ∧ (t.dd d.val).part = 0) ∧
      (∀ room, room = false ∨ s.streamRoom (ddcPort d.val) (s.unitLen d.val) = false → Gives (.ddcUnitComplete d room) s fun t =>
        (t.strm (ddcPort d.val)).buf = (s.strm (ddcPort d.val)).buf ∧ t.bit (DDC_STATUS_DROP d.val) = true ∧ (t.dd d.val).words = [] ∧
        t.get (DDC_DROPS_COUNT d.val) = min (s.get (DDC_DROPS_COUNT d.val) + 1) (2 ^ (DDC_DROPS_COUNT d.val).width - 1))) ∧
    (∀ (a : Acc) (k : Fin 320) (v : Word), s.commandOk a (DDC_COEF d.val k.val) = true → s.opened (DDC_COEF d.val k.val) = true →
      (s.bit (DDC_STATUS_SWAP_PEND d.val) = false → Gives (.coefWrite a d k v) s fun t => t.coefRead d.val k.val = v.setWidth 18 ∧
        (if s.bit (DDC_STATUS_ACTIVE_BANK d.val) then (t.dd d.val).bankB = (s.dd d.val).bankB else (t.dd d.val).bankA = (s.dd d.val).bankA)) ∧
      (s.bit (DDC_STATUS_SWAP_PEND d.val) = true → Gives (.coefWrite a d k v) s fun t => t.bit (DDC_STATUS_COEF_DROP d.val) = true ∧
        t.dd d.val = s.dd d.val)) ∧
    (∀ addr, s.radioOn = true → (Gives (.tableCheck (.ddc d) addr false) s fun t => t.get GRD_LAST_N = 32 ∧ t.get GRD_LAST_INSTANCE = d.val) ∧
      (Gives (.tableCheck (.ddc d) addr true) s fun t => t.bit (pendingFld 33) = true ∧ t.get GRD_LAST_N = 33 ∧ (t.dd d.val).dbe = true) ∧
      (Gives (.tableCheck .lmdMask addr true) s fun t => t.bit (pendingFld 38) = true ∧ t.get GRD_LAST_N = 38))

/-- A side-data unit of context `c` with payload `bytes` went to the shared port, and was counted (R647, R649). -/
def Sys2Proof.Machine.State.sideSent (s t : State) (c type : Nat) (bytes : List Byte) : Prop :=
  (∃ corr ref, (t.strm sidePort).buf = (s.strm sidePort).buf ++ unitBeats 0 0 (s.sideBeats c type corr ref bytes)) ∧
  t.get (CTX_UNITS_COUNT c) = (s.get (CTX_UNITS_COUNT c) + 1) % 2 ^ (CTX_UNITS_COUNT c).width

/-- The shared side-data port takes a unit of `n` bytes of payload from context `c`. -/
def Sys2Proof.Machine.State.sideFits (s : State) (c n : Nat) : Bool :=
  s.bit (CTX_CFG_SIDE_EN c) && s.portLive 1 && s.streamRoom sidePort (2 + beatCount 8 n)

/-- A unit of context `c` failed its check: withheld whole and counted (R615). -/
def Sys2Proof.Machine.State.checkDropped (s t : State) (c : Nat) : Prop :=
  (t.strm sidePort).buf = (s.strm sidePort).buf ∧ t.bit (CTX_STATUS_DROP c) = true ∧
  t.get (CTX_DROP_CHECK_COUNT c) = min (s.get (CTX_DROP_CHECK_COUNT c) + 1) (2 ^ (CTX_DROP_CHECK_COUNT c).width - 1)

/-- The bit that period `p` brings to the carrier-phase decoder of context `c`: erased with more than a quarter of its samples blanked or without
carrier lock, and by the phase step otherwise (R614, R619). -/
def Sys2Proof.Machine.State.bitOfPeriod (s : State) (c : Nat) (p : BitPeriod) : Option Bool :=
  if mostlyBlanked ((middleHalf p).map (·.2)) || !s.bit (CTX_STATUS_LOCK c) then none
  else ((s.cx c).cpd.phi).bind fun old => decideBit (clampNat 4 90 (s.get (CTX_CPD_DEV c))) old (meanPhase p)

/-- A carrier-phase frame of these bits passes: none is erased and its CRC is right (R622, R624). -/
def Sys2Proof.Machine.State.cpdGood (s : State) (c : Nat) (bits : List (Option Bool)) : Bool :=
  !bits.contains none && crcMsb (s.cpdCrcW c) (s.word (CTX_CPD_POLY c)).toNat (s.word (CTX_CPD_INIT c)).toNat
    (s.word (CTX_CPD_XOR c)).toNat (bitsMsbFirst (bytesOfBits (s.cpdBytes c) bits)) == byteOfBits (bits.drop (8 * s.cpdBytes c))

/-- Context `c` with its input: floods are declared and end, lock is gained and lost, carrier-phase syncs are found and frames read bit by bit,
RDS groups and DRM blocks are checked and released or counted, audio units go out, scan cycles are judged, alternative frequencies are proposed,
barred and released from their bar, and a clean carrier interval is measured. -/
def Obligations.BroadcastContexts : Prop :=
∀ (s : State) (c : Fin 4), s.ctxInput c.val = true →
    (∀ samples blanked power, s.bit (CTX_STATUS_FLOOD c.val) = false → ((s.cx c.val).flood.window (s.get (CTX_FLOOD_FLOOD_IMP c.val))
        (s.get (CTX_FLOOD_FLOOD_DB c.val)) samples blanked power).1 = true →
      Gives (.floodWindowEnd (.ctx c) samples blanked power) s fun t => t.bit (CTX_STATUS_FLOOD c.val) = true ∧
      t.bit (CTX_STATUS_FLOOD_SEEN c.val) = true ∧ t.lineLevel (193 + 4 * c.val) = true) ∧
    (s.bit (CTX_STATUS_FLOOD c.val) = true → (s.cx c.val).flood.over (s.get (CTX_FLOOD_FLOOD_HOLD_S c.val)) = true →
      Gives (.floodClear (.ctx c)) s fun t => t.bit (CTX_STATUS_FLOOD c.val) = false ∧ t.lineLevel (193 + 4 * c.val) = true) ∧
    (s.ctxMode c.val = 1 → (Gives (.carrierLock c) s fun t => t.bit (CTX_STATUS_LOCK c.val) = true) ∧
      (Gives (.carrierLockLoss c) s fun t => t.bit (CTX_STATUS_LOCK c.val) = false ∧
        (s.bit (CTX_STATUS_LOCK c.val) = true → t.bit (CTX_STATUS_LOCK_LOST c.val) = true))) ∧
    (∀ (p : BitPeriod) (ps : List BitPeriod), s.cpdOn c.val = true → 64 ≤ (s.cx c.val).cpd.periods →
      (∀ f, (s.cx c.val).cpd.frame = some f → 8 * s.cpdBytes c.val + s.cpdCrcW c.val ≤ f.length + 1 →
        (s.cpdGood c.val (f ++ [s.bitOfPeriod c.val p]) = true → s.sideFits c.val (s.cpdBytes c.val) = true →
          Gives (.cpdFrame c (p :: ps) true) s fun t => t.bit (CTX_STATUS_CPD_SYNC c.val) = false ∧
          s.sideSent t c.val 2 (bytesOfBits (s.cpdBytes c.val) (f ++ [s.bitOfPeriod c.val p]))) ∧
        (∀ room, s.cpdGood c.val (f ++ [s.bitOfPeriod c.val p]) = false → Gives (.cpdFrame c (p :: ps) room) s fun t =>
          s.checkDropped t c.val ∧ t.bit (CTX_STATUS_CPD_SYNC c.val) = false)) ∧
      ((s.cx c.val).cpd.frame = none → s.bit (CTX_STATUS_CPD_SYNC c.val) = false →
        s.syncLen c.val ≤ ((s.bitOfPeriod c.val p :: (s.cx c.val).cpd.bits).take 32).length →
        syncDiff (s.word (CTX_CPD_SYNC c.val)) (s.syncLen c.val) ((s.bitOfPeriod c.val p :: (s.cx c.val).cpd.bits).take 32) ≤
          s.get (CTX_CPD_SYNC_ERR c.val) →
        Gives (.cpdSyncDetect c (p :: ps)) s fun t => t.bit (CTX_STATUS_CPD_SYNC c.val) = true ∧ (t.cx c.val).cpd.frame = some [] ∧
          (t.cx c.val).syncDiffs = syncDiff (s.word (CTX_CPD_SYNC c.val)) (s.syncLen c.val)
            ((s.bitOfPeriod c.val p :: (s.cx c.val).cpd.bits).take 32))) ∧
    (∀ ba bb bc bd, s.ctxMode c.val = 2 → s.bit (CTX_CFG_RBDS c.val) = false →
      (∀ g, rdsGroupOf (s.bit (CTX_CFG_RDS_CORR c.val)) ba bb bc bd = some g → (s.cx c.val).prev = none →
        (g.b.toNat / 2048 ≠ 8 → bitsOf (s.word (CTX_RDS_FILTER c.val)) (g.b.toNat / 2048) 1 = 1 → s.sideFits c.val 16 = true →
          Gives (.rdsGroup c ba bb bc bd true) s fun t => (∃ x, s.sideSent t c.val 1
            (leBytes 2 g.a.toNat ++ leBytes 2 g.b.toNat ++ leBytes 2 g.c.toNat ++ leBytes 2 g.d.toNat ++ leBytes 8 x)) ∧
          ((s.cx c.val).idSeen = some g.a.toNat → t.bit (CTX_IDENT_VALID c.val) = true ∧ t.get (CTX_IDENT_ID c.val) = g.a.toNat)) ∧
        (∀ room, g.b.toNat / 2048 = 8 → 40587 ≤ g.b.toNat % 4 * 32768 + g.c.toNat / 2 → g.c.toNat % 2 * 16 + g.d.toNat / 4096 ≤ 23 →
          g.d.toNat / 64 % 64 ≤ 59 → Gives (.rdsGroup c ba bb bc bd room) s fun t =>
          .timeMsg c.val ((g.b.toNat % 4 * 32768 + g.c.toNat / 2 - 40587) * 86400 + (g.c.toNat % 2 * 16 + g.d.toNat / 4096) * 3600 +
            g.d.toNat / 64 % 64 * 60) 0 ∈ t.out)) ∧
      (∀ room, rdsGroupOf (s.bit (CTX_CFG_RDS_CORR c.val)) ba bb bc bd = none → Gives (.rdsGroup c ba bb bc bd room) s fun t =>
        s.checkDropped t c.val ∧ t.cx c.val = s.cx c.val)) ∧
    (∀ (mode : Fin 6), s.ctxMode c.val = 3 → mode.val ≠ 0 → s.get (CTX_CFG_DRM_MODE c.val) = 0 ∨ s.get (CTX_CFG_DRM_MODE c.val) = mode.val →
      Gives (.drmLock c mode true) s fun t => t.bit (CTX_STATUS_LOCK c.val) = true ∧ t.get (CTX_STATUS_DRM_DET c.val) = mode.val) ∧
    (s.drmOn c.val = true → ∀ bytes : List Byte,
      (s.sideFits c.val bytes.length = true →
        (∀ id, (s.cx c.val).prev = none → Gives (.drmFac c bytes id true true) s fun t => s.sideSent t c.val 3 bytes) ∧
        (∀ af, Gives (.drmSdc c bytes true none af true) s fun t => s.sideSent t c.val 4 bytes) ∧
        (∀ tenths, tenths ≤ 10 → Gives (.drmMsc c bytes true tenths true) s fun t => s.sideSent t c.val 5 bytes)) ∧
      (∀ id room, Gives (.drmFac c bytes id false room) s fun t => s.checkDropped t c.val) ∧
      (∀ time af room, Gives (.drmSdc c bytes false time af room) s fun t => s.checkDropped t c.val) ∧
      (∀ fac tenths room, fac = false ∨ 10 < tenths → Gives (.drmMsc c bytes fac tenths room) s fun t => s.checkDropped t c.val) ∧
      (∀ tenths room, tenths ≤ 10 → s.bit (CTX_CFG_SIDE_EN c.val) = true → room = false ∨ s.sideFits c.val bytes.length = false →
        Gives (.drmMsc c bytes true tenths room) s fun t => (t.strm sidePort).buf = (s.strm sidePort).buf ∧
        t.get (CTX_DROP_STREAM_COUNT c.val) = min (s.get (CTX_DROP_STREAM_COUNT c.val) + 1) (2 ^ (CTX_DROP_STREAM_COUNT c.val).width - 1))) ∧
    (∀ blanked, s.ctxMode c.val = 1 ∨ s.ctxMode c.val = 2 → s.bit (CTX_CFG_AUDIO_EN c.val) = true → s.portLive 1 = true →
      s.streamRoom (audioPort c.val) 480 = true → Gives (.audioUnit c blanked true) s fun t => ∃ user words, words.length = 480 ∧
        (t.strm (audioPort c.val)).buf = (s.strm (audioPort c.val)).buf ++ unitBeats user 0 words) ∧
    (s.bit (CTX_CFG_SCAN_EN c.val) = true →
      (s.scan.find? fun (p : Nat × Nat) => p.2 == c.val && !s.bit (DDC_STATUS_HOPPING p.1)).isSome = true →
      (Gives (.scanCycle c) s fun t => t.lineLevel 209 = true) ∧
      (∀ e, s.bit (CTX_STATUS_FLOOD c.val) = false → (s.cx c.val).prev = none → s.bestAf c.val = some e → s.bit (CTX_CFG_AF_AUTO c.val) = false →
        (s.useLevel c.val).2 ≠ 0 → ((((s.cx c.val).smooth e).1 + s.get (CTX_AF_AF_MARGIN c.val) * ((s.cx c.val).smooth e).2) *
          (s.useLevel c.val).2 : Nat) ≤ (s.useLevel c.val).1 * ((s.cx c.val).smooth e).2 → (s.cx c.val).above = some (e, 2) →
        Gives (.scanCycle c) s fun t => (t.word (CTX_AF_PROPOSED c.val)).toNat = s.get (CTX_AFE_HZ c.val e) ∧
          t.lineLevel (194 + 4 * c.val) = true)) ∧
    (∀ e, s.bit (CTX_STATUS_LOCK c.val) = false → s.bit (CTX_STATUS_FLOOD c.val) = false → (s.cx c.val).prev = none →
      s.bestAf c.val = some e → s.bit (CTX_CFG_AF_AUTO c.val) = false → Gives (.afLossTimeout c) s fun t =>
      (t.word (CTX_AF_PROPOSED c.val)).toNat = s.get (CTX_AFE_HZ c.val e) ∧ t.lineLevel (194 + 4 * c.val) = true) ∧
    (∀ hz e, e < 32 → s.bit (CTX_STATUS_IDENT_WAIT c.val) = true → (s.cx c.val).prev = some (hz, e) → Gives (.identTimeout c) s fun t =>
      t.bit (CTX_STATUS_IDENT_WAIT c.val) = false ∧ t.bit (CTX_AFE_BAD c.val e) = true ∧ (t.cx c.val).afHz = hz ∧ (t.cx c.val).prev = none) ∧
    (∀ e : Fin 32, Gives (.afBadExpiry c e) s fun t => t.bit (CTX_AFE_BAD c.val e.val) = false ∧ t.cx c.val = s.cx c.val) ∧
    (∀ offset samples blanked, s.get FIX_BCD_CFG_CTX = c.val → s.bit (CTX_STATUS_LOCK c.val) = true →
      s.bit (CTX_STATUS_FLOOD c.val) = false → (s.cx c.val).ivalBad = false →
      (100 * blanked ≤ samples → Gives (.carrierIntervalEnd c offset samples blanked) s fun t =>
        t.get (CTX_LAST_EPS_EPS c.val) = unsigned 32 (clampInt (-sigmaMax) sigmaMax (s.carrierEps c.val offset)) ∧ t.lineLevel 208 = true) ∧
      (samples < 100 * blanked → Gives (.carrierIntervalEnd c offset samples blanked) s fun t =>
        t.get (CTX_LAST_EPS_EPS c.val) = s.get (CTX_LAST_EPS_EPS c.val))) ∧
    (∀ locked stereo, s.ctxMode c.val = 2 → Gives (.fmLock c locked stereo) s fun t => t.bit (CTX_STATUS_LOCK c.val) = locked ∧
      t.bit (CTX_STATUS_STEREO c.val) = (locked && stereo && s.bit (CTX_CFG_STEREO_EN c.val)))

/-! ### The line modem -/

/-- Channel `t` is where its enables and its output condition put it, so that nothing but a command on it moves it (R661, R680, R710, R728). -/
def Sys2Proof.Machine.State.txSettled (s : State) (t : Nat) : Bool :=
  s.dev != .draining &&
  (if s.txOn t then s.get (TX_STATUS_STATE t) != 0 && (s.get (TX_STATUS_STATE t) == 4 || s.txOutput t) &&
      !(s.get (TX_STATUS_STATE t) == 4 && s.get (TX_STATUS_CAUSE t) == 5 && s.txOutput t)
    else s.get (TX_STATUS_STATE t) == 0 || (s.get (TX_STATUS_STATE t) != 4 && (s.tx t).down))

/-- The air symbols of a burst of frame `f` under settings word `w` of its rate slot. -/
def Sys2Proof.Machine.burstAir (f : LmdFrame) (w : Word) (seq : Nat) : List (Int × Int) :=
  burstSymbols f.payload (bitsOf w 24 2) (bitsOf w 20 2) (bitsOf w 0 15) seq

/-- Counter `c` of Table LMD-11 of RX channel `r` went up by one, as far as it counts. -/
def Sys2Proof.Machine.State.rxCounted (s u : State) (r c : Nat) : Prop :=
  u.get (RX_CNT_COUNT r c) = min (s.get (RX_CNT_COUNT r c) + 1) (2 ^ (RX_CNT_COUNT r c).width - 1)

/-- The channel's frames and units. SUBMIT queues a frame, or completes it REFUSED or FORMAT; a burst start takes the oldest with the next SEQ
and ramps the PA up, or sends its symbols where the PA is on; its end completes it SENT and ramps down when nothing waits; a cancel completes a
queued frame CANCELLED; the ramps move the channel between OFF, RAMP, ON and WAIT; a frequency or bandwidth whose channel does not fit is
dropped; TX_RESTART clears a trip and starts a stopped channel. -/
def Obligations.ModemBursts : Prop :=
∀ (s : State) (t : Fin 2),
    (∀ (payload : List Byte) (rate : Fin 4) (tag : Byte), s.portLive 0 = true → s.radioOn = true → s.txSettled t.val = true →
      (s.get (TX_STATUS_STATE t.val) ≠ 0 → s.get (TX_STATUS_STATE t.val) ≠ 4 → s.txTp t.val = false → (s.tx t.val).queue.length < 8 →
        ((s.tx t.val).queue.map (·.payload.length)).sum + 2047 ≤ 16384 →
        (0 < payload.length → payload.length ≤ 2047 → s.txRateOn t.val rate.val = true → Gives (.lmdTxSubmit t payload rate tag) s fun u =>
          u.tx t.val = { s.tx t.val with queue := (s.tx t.val).queue ++ [{ payload := payload, rate := rate.val, tag := tag.toNat }] }) ∧
        (payload.length = 0 ∨ 2047 < payload.length ∨ s.txRateOn t.val rate.val = false → Gives (.lmdTxSubmit t payload rate tag) s fun u =>
          .lmdDone t.val tag.toNat 0 3 ∈ u.out ∧ u.tx t.val = s.tx t.val)) ∧
      (s.get (TX_STATUS_STATE t.val) = 0 ∨ s.get (TX_STATUS_STATE t.val) = 4 ∨ s.txTp t.val = true →
        Gives (.lmdTxSubmit t payload rate tag) s fun u => .lmdDone t.val tag.toNat 0 4 ∈ u.out ∧ u.tx t.val = s.tx t.val)) ∧
    (∀ f rest, s.txOn t.val = true → s.txTp t.val = false → bitsOf (s.word (TX_CFG t.val)) 30 1 = 0 → (s.tx t.val).burst = none →
      (s.tx t.val).queue = f :: rest → f.rate < 4 →
      (s.txRateOn t.val f.rate = true →
        (s.get (TX_STATUS_STATE t.val) = 3 → Gives (.burstStart t) s fun u => (u.tx t.val).burst = some (f, (s.tx t.val).seq) ∧
          (u.tx t.val).seq = ((s.tx t.val).seq + 1) % 256 ∧ (u.tx t.val).queue = rest ∧ u.get (TX_STATUS_STATE t.val) = 1 ∧
          (u.tx t.val).down = false) ∧
        (s.get (TX_STATUS_STATE t.val) = 2 → Gives (.burstStart t) s fun u => (u.tx t.val).burst = some (f, (s.tx t.val).seq) ∧
          (u.tx t.val).seq = ((s.tx t.val).seq + 1) % 256 ∧ (u.tx t.val).queue = rest ∧ u.get (TX_STATUS_STATE t.val) = 2 ∧
          .lmdAir t.val (burstAir f (s.word (TX_RATE t.val f.rate)) (s.tx t.val).seq) ∈ u.out)) ∧
      (s.txRateOn t.val f.rate = false → s.get (TX_STATUS_STATE t.val) = 3 → Gives (.burstStart t) s fun u =>
        u.out = [.lmdDone t.val f.tag 0 3] ∧ (u.tx t.val).queue = rest ∧ (u.tx t.val).seq = (s.tx t.val).seq)) ∧
    (∀ f seq, (s.tx t.val).burst = some (f, seq) → s.get (TX_STATUS_STATE t.val) = 2 → Gives (.burstEnd t) s fun u =>
      u.out = [.lmdDone t.val f.tag seq 0] ∧ (u.tx t.val).burst = none ∧
      u.get (TX_UNITS_COUNT t.val) = (s.get (TX_UNITS_COUNT t.val) + 1) % 2 ^ (TX_UNITS_COUNT t.val).width ∧
      ((s.tx t.val).queue = [] → u.get (TX_STATUS_STATE t.val) = 1 ∧ (u.tx t.val).down = true) ∧
      ((s.tx t.val).queue ≠ [] → u.get (TX_STATUS_STATE t.val) = 2 ∧ (u.tx t.val).down = (s.tx t.val).down)) ∧
    (∀ (tag : Byte), s.portLive 0 = true → s.txSettled t.val = true →
      (∀ f, (s.tx t.val).queue.find? (fun x => x.tag == tag.toNat) = some f → Gives (.lmdTxCancel t tag) s fun u =>
        .lmdDone t.val f.tag 0 1 ∈ u.out ∧
        u.tx t.val = { s.tx t.val with queue := dropFirst (fun x => x.tag == tag.toNat) (s.tx t.val).queue }) ∧
      ((s.tx t.val).queue.find? (fun x => x.tag == tag.toNat) = none → Gives (.lmdTxCancel t tag) s fun u => u.tx t.val = s.tx t.val)) ∧
    (s.get (TX_STATUS_STATE t.val) = 1 → (s.tx t.val).down = false → Gives (.rampUpDone t) s fun u => u.get (TX_STATUS_STATE t.val) = 2 ∧
      ∀ f seq, (s.tx t.val).burst = some (f, seq) → .lmdAir t.val (burstAir f ((s.tx t.val).rates.getD f.rate 0) seq) ∈ u.out) ∧
    (s.get (TX_STATUS_STATE t.val) = 1 → (s.tx t.val).down = true → s.dev ≠ .draining → (s.txOn t.val = true → s.txOutput t.val = true) →
      Gives (.rampDownDone t) s fun u => u.get (TX_STATUS_STATE t.val) = (if s.txOn t.val then 3 else 0) ∧ (u.tx t.val).down = false) ∧
    (∀ (a : Acc) (v : Word) (hz bw drop : Fld), (hz, bw, drop) ∈ [(TX_FREQ_HZ t.val, TX_CFG_BW t.val, TX_STATUS_RANGE_DROP t.val),
        (RX_FREQ_HZ t.val, RX_CFG_BW t.val, RX_STATUS_RANGE_DROP t.val)] →
      (s.commandOk a hz.addr = true → s.opened hz.addr = true →
        (lmdFits (bitsOf v 0 20) (s.get bw) = true → Gives (.lmdChannelWrite a (BitVec.ofNat 32 hz.addr) v) s fun u =>
          u.get hz = bitsOf v 0 20 ∧ u.busCode a.master.val = 0) ∧
        (lmdFits (bitsOf v 0 20) (s.get bw) = false → Gives (.lmdChannelWrite a (BitVec.ofNat 32 hz.addr) v) s fun u =>
          u.get hz = s.get hz ∧ u.bit drop = true ∧ u.busCode a.master.val = 0)) ∧
      (s.commandOk a bw.addr = true → s.opened bw.addr = true →
        (lmdFits (s.get hz) (bitsOf v 28 2) = true → Gives (.lmdChannelWrite a (BitVec.ofNat 32 bw.addr) v) s fun u =>
          u.get bw = bitsOf v 28 2 ∧ u.busCode a.master.val = 0) ∧
        (lmdFits (s.get hz) (bitsOf v 28 2) = false → Gives (.lmdChannelWrite a (BitVec.ofNat 32 bw.addr) v) s fun u =>
          u.get bw = s.get bw ∧ u.bit drop = true ∧ u.busCode a.master.val = 0))) ∧
    (∀ (a : Acc) (key : BitVec 16), s.commandOk a LMD_CMD = true → s.radioOn = true →
      (key = guardKey → Gives (.txRestart a key) s fun u => u.bit LMD_MON_STATUS_TRIPPED = false ∧ u.get LMD_MON_STATUS_RUN = 0 ∧
        (s.txOn t.val = true → s.get (TX_STATUS_STATE t.val) = 4 → s.txOutput t.val = true → s.spllOk = true →
          bitsOf (s.word (TX_CFG t.val)) 30 1 = 0 → u.get (TX_STATUS_STATE t.val) = 3)) ∧
      (key ≠ guardKey → Gives (.txRestart a key) s fun u => (s.txSettled t.val = true → u.tx t.val = s.tx t.val) ∧
        u.bit LMD_MON_STATUS_TRIPPED = s.bit LMD_MON_STATUS_TRIPPED))

/-- Teleprotection transmit. At a block's due time the block that the rules name goes on air, tagged under the slot's next counter; without a
usable slot the channel stops with cause KEY; a changed vector cuts the block on air; a mask window that exceeds counts with its worst bin,
one that does not ends the run, and three in a row trip the channels. -/
def Obligations.TeleprotectionBlocksAndMask : Prop :=
(∀ (s : State) (t : Fin 2), s.tpSending t.val = true →
    (s.tpSlotOk (s.get (TX_TP_SLOT t.val)) 1 = true → (s.slot (s.get (TX_TP_SLOT t.val))).shadow = none →
      (s.slot (s.get (TX_TP_SLOT t.val))).ctr ≠ ctrMax (s.slot (s.get (TX_TP_SLOT t.val))).ctrw →
      (Gives (.tpBlockStart t false) s fun u =>
        (u.slot (s.get (TX_TP_SLOT t.val))).ctr = (s.slot (s.get (TX_TP_SLOT t.val))).ctr + 1 ∧
        (∃ b info, (u.tx t.val).block = some b ∧ info = tpInfo b (s.get (TX_ND_COUNT_COUNT t.val)) (s.slot (s.get (TX_TP_SLOT t.val))).ctr
            (s.get (TX_SESSION_SESSION t.val)) (s.fix.sec % 2 ^ 32) ∧
          .lmdAir t.val (tpSymbols b (info ++ tpTag (s.slot (s.get (TX_TP_SLOT t.val))).key (tpFixed (s.get (TX_TP_LINK_ID t.val))
            (s.get (TX_TP_DIR t.val)) (s.get (TX_SESSION_SESSION t.val)) ++ beBytes 6 (s.slot (s.get (TX_TP_SLOT t.val))).ctr) b info)) ∈
            u.out) ∧
        ((s.tx t.val).startDue = true → (s.tx t.val).block = none → (u.tx t.val).block = some .start ∧ u.get (TX_STATUS_CMD t.val) = 0) ∧
        ((s.tx t.val).block ≠ none → s.tpVector t.val true ≠ 0 → (u.tx t.val).block = some (.command (s.tpVector t.val true)) ∧
          u.get (TX_STATUS_CMD t.val) = s.tpVector t.val true) ∧
        (s.tpVector t.val true = 0 → (s.tx t.val).startDue = true → (s.tx t.val).block = some .guard →
          (u.tx t.val).block = some .start) ∧
        (s.tpVector t.val true = 0 → (s.tx t.val).startDue = false → (u.tx t.val).block = some .guard ∧
          u.get (TX_STATUS_CMD t.val) = 0) ∧
        ((s.tx t.val).block ≠ none →
          u.get (TX_UNITS_COUNT t.val) = (s.get (TX_UNITS_COUNT t.val) + 1) % 2 ^ (TX_UNITS_COUNT t.val).width)) ∧
      (∀ (on : TpBlock) (v : BitVec 4), (s.tx t.val).block = some on → (s.tx t.val).carried = [0, 0, 0, 0] →
        (v.toNat ≠ on.vector → Gives (.tpcmdChange t v false) s fun u =>
          (u.tx t.val).block = some (if v.toNat = 0 then .guard else .command v.toNat) ∧ (u.tx t.val).cmd = v.toNat ∧
          u.get (TX_STATUS_CMD t.val) = v.toNat ∧
          u.get (TX_ABORTS_COUNT t.val) = min (s.get (TX_ABORTS_COUNT t.val) + 1) (2 ^ (TX_ABORTS_COUNT t.val).width - 1)) ∧
        (v.toNat = on.vector → Gives (.tpcmdChange t v false) s fun u => (u.tx t.val).block = some on ∧ (u.tx t.val).cmd = v.toNat ∧
          u.out = []))) ∧
    (s.tpSlotOk (s.get (TX_TP_SLOT t.val)) 1 = false → ∀ m, Gives (.tpBlockStart t m) s fun u =>
      u.get (TX_STATUS_STATE t.val) = 4 ∧ u.get (TX_STATUS_CAUSE t.val) = 3 ∧ u.lineLevel 233 = true ∧ (u.tx t.val).block = none ∧
      u.cph = s.cph)) ∧
  (∀ (s : State) (bins : List Nat) (total : Nat), s.lmdOn = true → s.bit LMD_CFG_MON_EN = true → s.bit LMD_MON_STATUS_TRIPPED = false →
    (∀ high sent, high = false ∨ (s.paOn 0 || s.paOn 1) = false ∨ ((worstBin s.maskPoints bins).2 ≤ 0 ∧
        (sent = false ∨ total ≤ s.get LMD_MON_CFG_MON_FLOOR)) →
      Gives (.maskWindowEnd high sent bins total) s fun u => u.get LMD_MON_STATUS_RUN = 0 ∧ u.lmdTx = s.lmdTx) ∧
    (∀ sent, (s.paOn 0 || s.paOn 1) = true → 0 < (worstBin s.maskPoints bins).2 ∨ (sent = true ∧ s.get LMD_MON_CFG_MON_FLOOR < total) →
      (s.get LMD_MON_STATUS_RUN < 2 → Gives (.maskWindowEnd true sent bins total) s fun u =>
        u.get LMD_MON_STATUS_RUN = s.get LMD_MON_STATUS_RUN + 1 ∧
        u.bit LMD_MON_STATUS_CAUSE = decide ((worstBin s.maskPoints bins).2 ≤ 0) ∧
        (0 < (worstBin s.maskPoints bins).2 → u.get LMD_MON_STATUS_EXCESS = min (worstBin s.maskPoints bins).2.toNat 4095) ∧
        (bins.length ≤ 2049 → u.get LMD_MON_STATUS_WORST_FREQ = 12500 * (worstBin s.maskPoints bins).1 / 4096) ∧ u.lineLevel 221 = true ∧
        u.bit LMD_MON_STATUS_TRIPPED = false ∧ u.lmdTx = s.lmdTx) ∧
      (s.get LMD_MON_STATUS_RUN = 2 → Gives (.maskWindowEnd true sent bins total) s fun u => u.bit LMD_MON_STATUS_TRIPPED = true ∧
        u.lineLevel 220 = true ∧ u.bit (pendingFld 36) = true ∧
        ∀ t, t < 2 → s.get (TX_STATUS_STATE t) ≠ 0 → u.get (TX_STATUS_STATE t) = 4 ∧ u.get (TX_STATUS_CAUSE t) = 1)))

/-- Reception. A preamble begins or preempts a burst; a burst is released, into the beats of its port, only when header, length and CRC-32 of
what its coded bits decode to match; a GUARD, COMMAND or START block acts only when its tag verifies; a START replayed is counted; the expiries
clear TPOUT and GUARD_OK and enter RESYNC; floods begin and end. -/
def Obligations.ModemReception : Prop :=
∀ (s : State) (r : Fin 2),
    (∀ (slot : Fin 4) (corr : Nat), s.rxOn r.val = true → s.rxTp r.val = false → bitsOf ((s.rx r.val).set.getD (2 + slot.val) 0) 31 1 = 1 →
      s.rxSet r.val (RX_CFG_RATE_EN r.val) / 2 ^ slot.val % 2 = 1 → s.rxSet r.val (RX_GUARD_DET_THR r.val) ≤ corr →
      ((s.rx r.val).burst = none → Gives (.preambleDetect r slot corr) s fun u => u.bit (RX_STATUS_BUSY r.val) = true ∧
        ∃ mod cr, (u.rx r.val).burst = some (slot.val, mod, cr, corr)) ∧
      (∀ a b c old, (s.rx r.val).burst = some (a, b, c, old) →
        (old * 19953 ≤ corr * 10000 → Gives (.preambleDetect r slot corr) s fun u => (∃ mod cr, (u.rx r.val).burst = some (slot.val, mod, cr, corr)) ∧
          s.rxCounted u r.val 6) ∧
        (corr * 10000 < old * 19953 → Gives (.preambleDetect r slot corr) s fun u => u.lmdRx = s.lmdRx))) ∧
    (∀ (soft body : List Int) (snr slot mod cr corr len : Nat), s.radioOn = true → (s.rx r.val).burst = some (slot, mod, cr, corr) →
      len = byteAt (headerDecode soft) 0 + byteAt (headerDecode soft) 1 % 8 * 256 →
      (∀ room, headerDecode soft ≠ lmdHeader len mod cr (byteAt (headerDecode soft) 2) ∨ len = 0 → Gives (.rxBurst r soft body snr room) s fun u =>
        u.str = s.str ∧ (u.rx r.val).burst = none ∧ u.bit (RX_STATUS_BUSY r.val) = false ∧ u.bit (RX_STATUS_DROP r.val) = true ∧
        s.rxCounted u r.val 0) ∧
      (headerDecode soft = lmdHeader len mod cr (byteAt (headerDecode soft) 2) → 0 < len →
        (∀ room, body.length ≠ codedLength mod cr len ∨ crc32 (payloadDecode cr len body).1 ≠ (payloadDecode cr len body).2 →
          Gives (.rxBurst r soft body snr room) s fun u => u.str = s.str ∧ (u.rx r.val).burst = none ∧ s.rxCounted u r.val 1) ∧
        (body.length = codedLength mod cr len → crc32 (payloadDecode cr len body).1 = (payloadDecode cr len body).2 →
          (∀ room, room = false ∨ s.portLive 0 = false ∨ s.streamRoom (lmdRxPort r.val) (beatCount 4 len) = false →
            Gives (.rxBurst r soft body snr room) s fun u => u.str = s.str ∧ (u.rx r.val).burst = none ∧ s.rxCounted u r.val 8) ∧
          (s.portLive 0 = true → s.streamRoom (lmdRxPort r.val) (beatCount 4 len) = true → Gives (.rxBurst r soft body snr true) s fun u =>
            (∃ user, (u.strm (lmdRxPort r.val)).buf = (s.strm (lmdRxPort r.val)).buf ++ unitBeats user
              (if len ≤ 4 then 0 else (len + 3) % 4) (dataWords 4 len (payloadDecode cr len body).1)) ∧
            u.get (RX_UNITS_COUNT r.val) = (s.get (RX_UNITS_COUNT r.val) + 1) % 2 ^ (RX_UNITS_COUNT r.val).width ∧
            (u.rx r.val).burst = none)))) ∧
    (s.rxOn r.val = true → s.rxTp r.val = true → ∀ (coded : List Int) (snr : Nat),
      (∀ (info : List Byte) (n : Nat), s.bit (RX_STATUS_RESYNC r.val) = false → info = infoDecode false coded →
        n = nextN (s.rx r.val).nLast (byteAt info 0 / 16) →
        (s.rxVerify r.val .guard info n (s.get (RX_SESSION_SESSION r.val)) = true → ∀ p, Gives (.rxGuardBlock r coded false p snr) s fun u =>
          (u.rx r.val).nLast = n ∧ (u.rx r.val).run = (s.rx r.val).run + 1 ∧ (u.rx r.val).nd = some (byteAt info 0 % 16) ∧
          u.get (RX_STATUS_TPOUT r.val) = 0 ∧
          u.get (RX_UNITS_COUNT r.val) = (s.get (RX_UNITS_COUNT r.val) + 1) % 2 ^ (RX_UNITS_COUNT r.val).width) ∧
        (s.rxVerify r.val (.command 0) info n (s.get (RX_SESSION_SESSION r.val)) = true →
          ∀ p, Gives (.rxCommandBlock r coded false p false snr) s fun u => (u.rx r.val).nLast = n ∧
          (u.rx r.val).run = (s.rx r.val).run + 1 ∧ u.get (RX_STATUS_TPOUT r.val) = byteAt info 0 % 16) ∧
        (∀ erased, erased = true ∨ s.rxVerify r.val (.command 0) info n (s.get (RX_SESSION_SESSION r.val)) = false →
          Gives (.rxCommandBlock r coded erased false false snr) s fun u => (u.rx r.val).nLast = (s.rx r.val).nLast ∧ (u.rx r.val).run = 0 ∧
          u.get (RX_STATUS_TPOUT r.val) = s.get (RX_STATUS_TPOUT r.val) ∧ s.rxCounted u r.val 2)) ∧
      (∀ e p, Gives (.rxCommandBlock r coded e p true snr) s fun u => (u.rx r.val).run = 0 ∧ s.rxCounted u r.val 3) ∧
      (∀ (info : List Byte) (n sess : Nat) (p : Bool), info = infoDecode true coded → n = beNat (slice info 1 6) →
        sess = beNat (slice info 7 3) → s.rxVerify r.val .start info n sess = true →
        (s.bit (RX_SESSION_VALID r.val) = false ∨ s.get (RX_SESSION_SESSION r.val) ≠ sess → s.rxSet r.val (RX_TP_START_WINDOW_S r.val) = 0 →
          Gives (.rxStartBlock r coded false p snr) s fun u => u.bit (RX_SESSION_VALID r.val) = true ∧
          u.get (RX_SESSION_SESSION r.val) = sess ∧ u.bit (RX_STATUS_RESYNC r.val) = false ∧ (u.rx r.val).nLast = n ∧
          u.get (RX_STATUS_TPOUT r.val) = 0) ∧
        (s.bit (RX_SESSION_VALID r.val) = true → s.get (RX_SESSION_SESSION r.val) = sess → n ≤ (s.rx r.val).nLast →
          Gives (.rxStartBlock r coded false p snr) s fun u => (u.rx r.val).nLast = (s.rx r.val).nLast ∧ (u.rx r.val).run = (s.rx r.val).run ∧
          u.word (RX_SESSION r.val) = s.word (RX_SESSION r.val) ∧ s.rxCounted u r.val 5)) ∧
      (Gives (.rxResyncTimeout r) s fun u => u.bit (RX_STATUS_RESYNC r.val) = true)) ∧
    (s.radioOn = true →
      (Gives (.cmdHoldExpiry r) s fun u => u.get (RX_STATUS_TPOUT r.val) = 0 ∧
        (s.get (RX_STATUS_TPOUT r.val) ≠ 0 → u.lineLevel (222 + r.val) = true)) ∧
      (Gives (.guardLossExpiry r) s fun u => (u.rx r.val).run = 0 ∧ u.bit (RX_STATUS_GUARD_OK r.val) = false ∧
        (s.bit (RX_STATUS_GUARD_OK r.val) = true → u.bit (RX_STATUS_GUARD_LOST r.val) = true ∧ u.lineLevel (224 + r.val) = true)) ∧
      (∀ a, s.commandOk a LMD_CMD = true → Gives (.rxResync a guardKey r) s fun u => u.bit (RX_STATUS_RESYNC r.val) = true ∧
        u.word (RX_SESSION r.val) = 0 ∧ (u.rx r.val).nd = none ∧ (u.rx r.val).run = 0)) ∧
    (∀ samples blanked power, s.rxOn r.val = true → s.bit (RX_STATUS_FLOOD r.val) = false →
      ((s.rx r.val).flood.window (s.rxSet r.val (RX_FLOOD_FLOOD_IMP r.val)) (s.rxSet r.val (RX_FLOOD_FLOOD_DB r.val)) samples blanked power).1 = true →
      Gives (.floodWindowEnd (.rx r) samples blanked power) s fun u => u.bit (RX_STATUS_FLOOD r.val) = true ∧ u.lineLevel (228 + r.val) = true) ∧
    (s.bit (RX_STATUS_FLOOD r.val) = true → (s.rx r.val).flood.over (s.rxSet r.val (RX_FLOOD_FLOOD_HOLD_S r.val)) = true →
      Gives (.floodClear (.rx r)) s fun u => u.bit (RX_STATUS_FLOOD r.val) = false ∧ u.lineLevel (228 + r.val) = true)

/-! ### Sample ports, pins, the Binnacle port and wear -/

/-- The register bus takes a write of SPT_CMD of port `n`, or, with no access, the fabric's strobe reaches the port. -/
def Sys2Proof.Machine.State.sptAsked (s : State) (a : Option Acc) (n : Nat) : Bool :=
  match a with
  | some acc => s.commandOk acc (SPT_CMD n)
  | none => s.portLive 2

/-- A sample port: START settles it and, while it is releasing, is held; a START in a drain, and STOP and cancel of one that settles, complete it
CANCELLED; enough equal frames set it RUNNING; an input frame goes to the stream port with its words aligned, or is dropped and counted; an
output frame sends its words bit by bit, or zeros; a framing error or clock loss restarts it; a stop ends at a frame boundary or after RELEASE. -/
def Obligations.SamplePorts : Prop :=
∀ (s : State) (n : Fin 8),
    (∀ a, s.sptAsked a n.val = true →
      (s.sptState n.val = 0 → s.sptOn = true → s.bit (SPT_CFG_EN n.val) = true → Gives (.sptStart a n) s fun u => u.sptState n.val = 1 ∧
        (u.sp n.val).cfg = s.word (SPT_CFG n.val) ∧ (u.sp n.val).settle = s.word (SPT_SETTLE n.val)) ∧
      (s.sptState n.val = 0 → s.dev = .draining → s.bit (SPT_CFG_EN n.val) = true → Gives (.sptStart a n) s fun u => u.sptState n.val = 0 ∧
        u.bit (SPT_STATUS_CANCELLED n.val) = true ∧ .sptDone n.val 1 ∈ u.out) ∧
      (s.sptState n.val = 3 → Gives (.sptStart a n) s fun u => u.sptState n.val = 3 ∧ (u.sp n.val).held = true) ∧
      (s.sptState n.val = 1 → (s.sp n.val).held = false →
        (Gives (.sptStop a n) s fun u => u.sptState n.val = 0 ∧ u.bit (SPT_STATUS_CANCELLED n.val) = true ∧ .sptDone n.val 1 ∈ u.out) ∧
        (Gives (.sptCancel a n) s fun u => u.sptState n.val = 0 ∧ u.bit (SPT_STATUS_CANCELLED n.val) = true ∧ .sptDone n.val 1 ∈ u.out)) ∧
      (s.sptState n.val = 2 → Gives (.sptStop a n) s fun u => u.sptState n.val = 2 ∧ (u.sp n.val).stop = true) ∧
      (s.sptState n.val = 3 → (s.sp n.val).held = true → Gives (.sptCancel a n) s fun u => u.sptState n.val = 3 ∧
        (u.sp n.val).held = false ∧ .sptDone n.val 1 ∈ u.out)) ∧
    (s.sptOn = true →
      (∀ half rate, s.sptState n.val = 1 → s.sptHalfOk n.val half = true → s.sptSettleLen n.val ≤ s.sptCounted n.val half →
        Gives (.sptRunning n half rate) s fun t => t.sptState n.val = 2 ∧ t.out = [.sptDone n.val 0] ∧ (t.sp n.val).half = half ∧
        t.get (SPT_MEASURE_HALF n.val) = half ∧ t.lineLevel 240 = true) ∧
      (∀ half0 half1 rate rise fall room beats, s.sptState n.val = 1 →
        (half0 = half1 → s.sptHalfOk n.val half0 = true → s.sptCounted n.val half0 < s.sptSettleLen n.val →
          Gives (.sptFrame n half0 half1 rate rise fall room beats) s fun t => t.sptState n.val = 1 ∧ (t.sp n.val).half = half0 ∧
          (t.sp n.val).count = s.sptCounted n.val half0) ∧
        (half0 ≠ half1 ∨ s.sptHalfOk n.val half0 = false → Gives (.sptFrame n half0 half1 rate rise fall room beats) s fun t =>
          t.sptState n.val = 1 ∧ (t.sp n.val).count = 0)) ∧
      (∀ half0 half1 rate rise fall room beats, s.sptState n.val = 2 → half0 ≠ (s.sp n.val).half ∨ half1 ≠ (s.sp n.val).half →
        (s.sp n.val).stop = false → Gives (.sptFrame n half0 half1 rate rise fall room beats) s fun t => t.sptState n.val = 1 ∧
          t.bit (SPT_STATUS_FRAMING n.val) = true ∧ t.lineLevel 242 = true ∧ t.out = [] ∧
          t.get (SPT_CLKLOSS_COUNT n.val) = min (s.get (SPT_CLKLOSS_COUNT n.val) + 1) (2 ^ (SPT_CLKLOSS_COUNT n.val).width - 1)) ∧
      (∀ half rate rise fall, s.sptState n.val = 2 → half = (s.sp n.val).half → s.sptOut n.val = false →
        ((s.sp n.val).stop = false →
          (s.portLive 2 = true → s.streamRoom (sptPort n.val) 1 = true → ∀ beats x y,
            (x, y) = s.sptWords n.val half (if bitsOf (s.sp n.val).cfg 24 1 = 0 then rise else fall) →
            Gives (.sptFrame n half half rate rise fall true beats) s fun t => t.sptState n.val = 2 ∧
            (∃ user, (t.strm (sptPort n.val)).buf = (s.strm (sptPort n.val)).buf ++ unitBeats user 0
              [x * 2 ^ (32 - s.sptBits n.val) + y * 2 ^ (32 - s.sptBits n.val) * 2 ^ 32]) ∧
            t.get (SPT_FRAMES_COUNT n.val) = (s.get (SPT_FRAMES_COUNT n.val) + 1) % 2 ^ (SPT_FRAMES_COUNT n.val).width) ∧
          (∀ room beats, room = false ∨ s.portLive 2 = false ∨ s.streamRoom (sptPort n.val) 1 = false →
            Gives (.sptFrame n half half rate rise fall room beats) s fun t => (t.strm (sptPort n.val)).buf = (s.strm (sptPort n.val)).buf ∧
            t.bit (SPT_STATUS_DROP n.val) = true ∧
            t.get (SPT_DROPS_COUNT n.val) = min (s.get (SPT_DROPS_COUNT n.val) + 1) (2 ^ (SPT_DROPS_COUNT n.val).width - 1))) ∧
        ((s.sp n.val).stop = true → (s.sp n.val).held = false → ∀ room beats, Gives (.sptFrame n half half rate rise fall room beats) s fun t =>
          t.sptState n.val = if s.sptReleaseLen n.val = 0 then 0 else 3)) ∧
      (∀ half rate rise fall room beats, s.sptState n.val = 2 → half = (s.sp n.val).half → s.sptOut n.val = true →
        (∀ x y rest, (s.sp n.val).buf = (x, y) :: rest → Gives (.sptFrame n half half rate rise fall room beats) s fun t =>
          t.out = [.sptBits n.val (bitsOf (s.sp n.val).cfg 24 1 == 0) (s.sptFrameBits n.val half (x.toNat / 2 ^ (32 - s.sptBits n.val))
            (y.toNat / 2 ^ (32 - s.sptBits n.val)))] ∧
          ((s.sp n.val).stop = false → (t.sp n.val).buf = rest ++ (if s.portLive 2 then beats else []).take (64 - (rest.length + 1)))) ∧
        ((s.sp n.val).buf = [] → Gives (.sptFrame n half half rate rise fall room []) s fun t =>
          t.out = [.sptBits n.val (bitsOf (s.sp n.val).cfg 24 1 == 0) (s.sptFrameBits n.val half 0 0)] ∧
          t.bit (SPT_STATUS_UNDER n.val) = true)) ∧
      (s.sptState n.val = 2 → (s.sp n.val).stop = false → ∀ bck, Gives (.sptClockLoss n bck) s fun t => t.sptState n.val = 1 ∧
        t.bit (SPT_STATUS_CLK_LOSS n.val) = true ∧ (bck = true → t.bit (SPT_STATUS_BCK_PRESENT n.val) = false)) ∧
      (s.sptState n.val = 3 → (s.sp n.val).held = false → ∀ bck, Gives (.sptClockLoss n bck) s fun t => t.sptState n.val = 0) ∧
      (∀ half0 half1 rate rise fall room beats, s.sptState n.val = 3 → (s.sp n.val).count + 1 < s.sptReleaseLen n.val →
        Gives (.sptFrame n half0 half1 rate rise fall room beats) s fun t => t.sptState n.val = 3 ∧
        (t.sp n.val).count = (s.sp n.val).count + 1)) ∧
    (s.sptState n.val = 3 → s.sptReleaseLen n.val ≤ (s.sp n.val).count + 1 →
      ((s.sp n.val).held = false → Gives (.sptReleaseEnd n) s fun t => t.sptState n.val = 0 ∧ t.lineLevel 241 = true) ∧
      ((s.sp n.val).held = true → s.bit (SPT_CFG_EN n.val) = true → Gives (.sptReleaseEnd n) s fun t => t.sptState n.val = 1))

/-- Pins and wear. A changed bank mode or claim moves every pin to its effective function, which PIN_EFF and PIN_CONFLICT show; a bank's supply
sets and clears IO_OK and CFG_DONE. A measurement starts by command or schedule, and its end stores each pair's shift from its two counts and
the pair's factory ratio (how the quotient is rounded is open, log entry 69); a minute adds to the bin of the highest reading and to the
rated-equivalent hours (how a part of a unit is rounded is open). -/
def Obligations.PinsAndWear : Prop :=
∀ s : State,
    (∀ (a : Acc) (b : Fin 6) (v : Word), s.commandOk a (PIN_BANK_CFG b.val) = true → s.opened (PIN_BANK_CFG b.val) = true →
      bitsOf v 0 1 ≠ s.get (PIN_BANK_CFG_MODE b.val) → Gives (.pinModeChange a b v) s fun u =>
      u.get (PIN_BANK_CFG_MODE b.val) = bitsOf v 0 1 ∧ u.lineLevel 245 = true ∧
      ∀ i, i < 32 → bitsOf (u.word (PIN_EFF b.val (i / 8))) (4 * (i % 8)) 4 = u.pinFunc b.val i ∧
        (u.word (PIN_CONFLICT b.val)).getLsbD i = u.pinLost b.val i) ∧
    (∀ (a : Acc) (b : Fin 6) (v : Word), s.commandOk a (PIN_CLAIM b.val) = true → s.opened (PIN_CLAIM b.val) = true →
      Gives (.pinClaimChange a b v) s fun u => u.get (PIN_CLAIM_EN b.val) = bitsOf v 2 8 ∧
      ∀ i, i < 32 → bitsOf (u.word (PIN_EFF b.val (i / 8))) (4 * (i % 8)) 4 = u.pinFunc b.val i ∧
        (u.word (PIN_CONFLICT b.val)).getLsbD i = u.pinLost b.val i) ∧
    (∀ b : Fin 6, s.dev ≠ .off →
      (s.railOk (8 + b.val) = false → Gives (.bankIoUp b) s fun t => t.railOk (8 + b.val) = true ∧ t.bit (pinIoOk b.val) = true ∧
        (s.released = true → s.inService = true → t.bit (pinCfgDone b.val) = true ∧ t.lineLevel 246 = true)) ∧
      (s.railOk (8 + b.val) = true → Gives (.bankIoDown b) s fun t => t.railOk (8 + b.val) = false ∧ t.bit (pinIoOk b.val) = false ∧
        t.bit (pinCfgDone b.val) = false)) ∧
    (∀ (a : Acc) (key : BitVec 16), s.commandOk a WEAR_CMD = true →
      (key = guardKey → s.dev = .running → Gives (.wearMeasure a key) s fun u => u.bit WEAR_STATUS_BUSY = true) ∧
      (key ≠ guardKey → Gives (.wearMeasure a key) s fun u => u.bit WEAR_STATUS_BUSY = s.bit WEAR_STATUS_BUSY)) ∧
    (s.dev = .running → s.get WEAR_CFG_MEAS_H ≠ 0 → Gives .wearSchedule s fun t => t.bit WEAR_STATUS_BUSY = true ∧
      (s.bit WEAR_STATUS_BUSY = true → t.wear.waits = true)) ∧
    (∀ pairs, s.bit WEAR_STATUS_BUSY = true → Gives (.wearMeasureDone pairs) s fun t =>
      (s.wear.waits = false → t.bit WEAR_STATUS_BUSY = false) ∧
      (s.wear.waits = true → s.dev = .running → t.bit WEAR_STATUS_BUSY = true ∧ t.wear.waits = false) ∧
      t.get WEAR_COUNT_COUNT = min (s.get WEAR_COUNT_COUNT + 1) (2 ^ WEAR_COUNT_COUNT.width - 1) ∧
      ∀ r x, r < 16 → pairs[r]? = some x →
        (x.stressed ≠ 0 → x.twin ≠ 0 →
          t.get (WEAR_PAIR_SHIFT r) = unsigned 16 (clampInt (-32768) 32767 (wearShift r x.stressed x.twin)) ∧
          t.get (WEAR_PAIR_TJ r) = unsigned 8 x.celsius ∧ t.bit (WEAR_PAIR_VALID r) = true ∧
          (s.get WEAR_CFG_LIMIT_PPM ≤ (clampInt (-32768) 32767 (wearShift r x.stressed x.twin)).natAbs → s.wear.reached.getLsbD r = false →
            t.get ⟨WEAR_STATUS, r, 1⟩ = 1)) ∧
        (x.stressed = 0 ∨ x.twin = 0 → t.bit WEAR_STATUS_NO_COUNT = true ∧ t.word (WEAR_PAIR r) = s.word (WEAR_PAIR r))) ∧
    (∀ (celsius : List Int) (tj : Int), s.dev = .running → tj = celsius.foldl max (-273) → Gives (.tjMinute celsius) s fun t =>
      t.get (WEAR_TJ_HOURS_COUNT (tjBin tj)) =
        min (s.get (WEAR_TJ_HOURS_COUNT (tjBin tj)) + 1) (2 ^ (WEAR_TJ_HOURS_COUNT (tjBin tj)).width - 1) ∧
      ∃ n, n ≤ 1 ∧ t.get WEAR_EQ_HOURS_COUNT = min (s.get WEAR_EQ_HOURS_COUNT + eqUnits tj + n) (2 ^ WEAR_EQ_HOURS_COUNT.width - 1))

/-- A write of the Binnacle bus passes the parity check. -/
def Sys2Proof.Machine.State.bnPass (s : State) (a : BitVec 16) (d : Word) (be par : BitVec 4) : Bool :=
  !s.bit BIN_CFG_PAR_CHECK || bnBadLanes a d be par == 0

/-- The Binnacle port. A read answers the window's word with its parity and touches no register; a write that fails parity is discarded, counted
and reported; one to an aperture is queued, or dropped; one to page 1 acts at once; the queue's oldest access goes to the bus, and an error is
recorded; indirect accesses; the mirror window and its doorbell; fills and latches end. -/
def Obligations.BinnaclePort : Prop :=
∀ s : State, s.binOn = true →
    (∀ a, Gives (.bnRead a 0) s fun u => .bnData (s.windowWord a) (bnParity a (s.windowWord a)) ∈ u.out ∧ u.bin.queue = s.bin.queue ∧
      ∀ x b, blockOf x = some b → 3 ≤ b → b ≤ 8 → b ≠ 5 → u.word x = s.word x) ∧
    (∀ a, bnPage a ≠ 1 → Gives (.bnRead a 2) s fun u => .bnData (s.windowWord a) (~~~bnParity a (s.windowWord a)) ∈ u.out ∧
      u.bit BIN_STATUS_SHADOW_ECC = true ∧ u.bit (pendingFld 6) = true) ∧
    (∀ (a : BitVec 16) d be par, 2 ≤ bnPage a → s.bnPass a d be par = true →
      (s.word (BIN_AP (bnPage a)) ≠ 0 → s.bin.queue.length < 16 → Gives (.bnApertureWrite a d be par) s fun u =>
        u.bin.queue = s.bin.queue ++ [.post (BitVec.ofNat 32 ((s.word (BIN_AP (bnPage a))).toNat + bnOffset a)) d be] ∧
        u.get BIN_STATUS_WQ_USED = s.bin.queue.length + 1) ∧
      (s.word (BIN_AP (bnPage a)) ≠ 0 → 16 ≤ s.bin.queue.length → Gives (.bnApertureWrite a d be par) s fun u => u.bin = s.bin ∧
        u.bit BIN_STATUS_WQ_OVF = true ∧ u.get BIN_WDROPS_COUNT = min (s.get BIN_WDROPS_COUNT + 1) (2 ^ BIN_WDROPS_COUNT.width - 1)) ∧
      (s.word (BIN_AP (bnPage a)) = 0 → Gives (.bnApertureWrite a d be par) s fun u => u.bin = s.bin ∧ u.bit BIN_STATUS_WERR = true ∧
        u.get BIN_WDROPS_COUNT = min (s.get BIN_WDROPS_COUNT + 1) (2 ^ BIN_WDROPS_COUNT.width - 1))) ∧
    (∀ (a : BitVec 16) d be par, s.bnPass a d be par = false →
      (2 ≤ bnPage a → Gives (.bnApertureWrite a d be par) s fun u => u.bin = s.bin ∧ u.bit BIN_STATUS_PAR_W = true ∧
        u.bit (pendingFld 4) = true ∧ u.get BIN_PARERRS_COUNT = min (s.get BIN_PARERRS_COUNT + 1) (2 ^ BIN_PARERRS_COUNT.width - 1)) ∧
      (bnPage a = 1 → Gives (.bnPage1Write a d be par) s fun u => u.bit BIN_STATUS_PAR_W = true ∧ u.word BIN_IRQ_EN = s.word BIN_IRQ_EN)) ∧
    (∀ d par, s.bnPass 0x402 d 0xF par = true → s.opened BIN_IRQ_EN = true → Gives (.bnPage1Write 0x402 d 0xF par) s fun u =>
      u.get BIN_IRQ_EN_EN = bitsOf d 0 16 ∧ u.bin = s.bin) ∧
    (∀ addr d be rest, s.busTakes 12 = true → s.bin.queue = .post addr d be :: rest → rest.length < 16 →
      (addr = BitVec.ofNat 32 FIX_SET_SEC_LO → be = 0xF → s.commandOk (Acc.whole 12) FIX_SET_SEC_LO = true → Gives .writeQueueDrain s fun u =>
        u.word FIX_SET_SEC_LO = d ∧ u.bin.queue = rest ∧ u.get BIN_STATUS_WQ_USED = rest.length) ∧
      (blockOf (addr.toNat / 4 * 4) = none → s.bit BIN_STATUS_WERR = false → Gives .writeQueueDrain s fun u => u.bin.queue = rest ∧
        u.bit BIN_STATUS_WERR = true ∧ u.get BIN_STATUS_CODE = 1 ∧ u.word BIN_WERR_ADDR = addr)) ∧
    (∀ strobe : BitVec 4, s.bin.queue.length < 16 →
      (s.bit BIN_IND_STATUS_BUSY = false →
        (Gives .binIndRead s fun u => u.bin.queue = s.bin.queue ++ [.indRead (s.word BIN_IND_ADDR)] ∧ u.bit BIN_IND_STATUS_BUSY = true) ∧
        (Gives (.binIndWrite strobe) s fun u => u.bit BIN_IND_STATUS_BUSY = true ∧
          u.bin.queue = s.bin.queue ++ [.indWrite (s.word BIN_IND_ADDR) (s.word BIN_IND_WDATA) strobe])) ∧
      (s.bit BIN_IND_STATUS_BUSY = true →
        (Gives .binIndRead s fun u => u.bin = s.bin ∧ u.bit BIN_IND_STATUS_BUSY_ERR = true) ∧
        (Gives (.binIndWrite strobe) s fun u => u.bin = s.bin ∧ u.bit BIN_IND_STATUS_BUSY_ERR = true))) ∧
    (∀ addr rest ack, s.busTakes 12 = true → s.bin.queue = .indRead addr :: rest → blockOf (addr.toNat / 4 * 4) ≠ some 20 →
      Gives (.indComplete ack) s fun u => u.bin.queue = rest ∧ u.bit BIN_IND_STATUS_BUSY = false ∧ u.bit BIN_IND_STATUS_DONE = true ∧
      u.get BIN_IND_STATUS_RESP = u.busCode 12 ∧ u.word BIN_IND_RDATA = u.busData 12) ∧
    (∀ addr d be rest ack, s.busTakes 12 = true → s.bin.queue = .indWrite addr d be :: rest → blockOf (addr.toNat / 4 * 4) = none →
      Gives (.indComplete ack) s fun u => u.bin.queue = rest ∧ u.bit BIN_IND_STATUS_DONE = true ∧ u.get BIN_IND_STATUS_RESP = 1) ∧
    (s.bit BIN_STATUS_MIRROR_LIVE = true → s.portLive 13 = true →
      (∀ word d be, Gives (.mirrorWrite word d be) s fun t =>
        cellRead t.bin.mirror word.toNat = mergeBytes (cellRead s.bin.mirror word.toNat) d be ∧ t.regs = s.quiet.regs) ∧
      (∀ (word : BitVec 10) d be par, s.bnPass (BitVec.ofNat 16 word.toNat) d be par = true →
        (s.streamRoom hostPort 1 = true → Gives (.hostMirrorWrite word d be par true) s fun t =>
          (t.strm hostPort).buf = (s.strm hostPort).buf ++ unitBeats (word.toNat + be.toNat * 1024) 0 [d.toNat]) ∧
        (∀ room, room = false ∨ s.streamRoom hostPort 1 = false → Gives (.hostMirrorWrite word d be par room) s fun t => t.str = s.str ∧
          t.get BIN_WDROPS_COUNT = min (s.get BIN_WDROPS_COUNT + 1) (2 ^ BIN_WDROPS_COUNT.width - 1))) ∧
      (Gives .mdbRise s fun t => t.bit BIN_IRQ_STATUS_DOORBELL = true)) ∧
    (∀ ap : Fin 64, Gives (.apFillDone ap) s fun t => t.bin.filling.any (·.1 == ap.val) = false ∧
      t.bit BIN_STATUS_AP_BUSY = !t.bin.filling.isEmpty) ∧
    (Gives .bnLatchExpiry s fun t => t.bin.latches = s.bin.latches.drop 1)

/-! ### The Watchkeeper -/

/-- The Watchkeeper runs, no command of it is in progress and no end of Control level waits for one. -/
def Sys2Proof.Machine.State.monReady (s : State) : Bool := s.monRuns && s.mon.eye.isNone && s.mon.due == 0

/-- The reply is an error of Table MON-1: LAST_ERR holds its code, and its line was printed. -/
def Sys2Proof.Machine.State.repliedErr (u : State) (c : Nat) (more : String) : Prop :=
  u.get MON_STATUS_LAST_ERR = c ∧ .text ("ERR 0x" ++ hexUpper 2 c ++ " " ++ monErrName c ++ more) ∈ u.out

/-- The reply is OK, and the command was counted. -/
def Sys2Proof.Machine.State.repliedOk (s t : State) : Prop :=
  .text "OK" ∈ t.out ∧ t.get MON_CMD_COUNT_COUNT = (s.get MON_CMD_COUNT_COUNT + 1) % 2 ^ MON_CMD_COUNT_COUNT.width

/-- Every Observe command that is well formed answers OK, whatever the level, and leaves the write mask, the key slots, the load and the fabric
alone; `peek` prints each word, and refuses what is secret; a range error, a refusal and an unknown name are replied as such. -/
def Obligations.MonitorObserveCommands : Prop :=
∀ s : State, s.monReady = true →
    (∀ c ∈ [Instr.monHelp none, .monStatus, .monFault, .monLog true 1, .monLanes none, .monSound none, .monFix, .monImage false, .monPartial,
        .monSlots none false], Gives c s fun t => s.repliedOk t ∧ t.mask = s.mask ∧ t.cph = s.cph ∧ t.load = s.load ∧ t.fab = s.fab) ∧
    (∀ e ∈ monSyntax, Gives (.monHelp (some (textOf e.1))) s fun t => s.repliedOk t ∧ .text e.2 ∈ t.out) ∧
    (∀ n, 0 < n → n ≤ 1024 → Gives (.monLog false n) s fun t => s.repliedOk t) ∧
    (∀ n, n < 24 → Gives (.monLanes (some n)) s fun t => s.repliedOk t) ∧
    (∀ n, n < 12 → Gives (.monSound (some n)) s fun t => s.repliedOk t) ∧
    (∀ n, n < 64 → Gives (.monSlots (some n) false) s fun t => s.repliedOk t) ∧
    (∀ n, n < 11 → Gives (.monBands n) s fun t => s.repliedOk t) ∧
    (∀ n, 11 ≤ n → Gives (.monBands n) s fun t => t.repliedErr 3 "") ∧
    (∀ (a : Word), a.toNat % 4 = 0 → monRange a.toNat = true → blockOf a.toNat ≠ some 20 → blockOf a.toNat ≠ some 18 →
      (monSecret a.toNat = false → Gives (.monPeek a 1) s fun t => s.repliedOk t ∧ t.mask = s.mask ∧ t.cph = s.cph ∧
        .text (wordLine a.toNat (s.view 13 a.toNat)) ∈ t.out) ∧
      (monSecret a.toNat = true → Gives (.monPeek a 1) s fun t => t.repliedErr 5 "" ∧
        t.get MON_REFUSED_COUNT = min (s.get MON_REFUSED_COUNT + 1) (2 ^ MON_REFUSED_COUNT.width - 1)) ∧
      (∀ n, n = 0 ∨ 64 < n → Gives (.monPeek a n) s fun t => t.repliedErr 3 "")) ∧
    (Gives (.monImage true) s fun t => t.repliedErr 5 "") ∧
    (∀ slot, Gives (.monSlots slot true) s fun t => t.repliedErr 5 "") ∧
    (∀ line framing, (firstToken line = [] → line.length ≤ 128 → (∀ c ∈ line, c ≠ 0x08 ∧ c ≠ 0x7F) →
        Gives (.commandLine line framing) s fun u => .text (if s.monControl then "yl# " else "yl> ") ∈ u.out ∧
        u.get MON_CMD_COUNT_COUNT = s.get MON_CMD_COUNT_COUNT) ∧
      (128 < line.length → (∀ c ∈ line, c ≠ 0x08 ∧ c ≠ 0x7F) → Gives (.commandLine line framing) s fun u => u.repliedErr 0x0C "")) ∧
    (∀ framing, (Gives (.commandLine (textOf "xyzzy") framing) s fun u => u.repliedErr 1 "") ∧
      (Gives (.commandLine (textOf "peek zz") framing) s fun u => u.repliedErr 2 "") ∧
      (Gives (.commandLine (textOf "poke zz") framing) s fun u => u.repliedErr (if s.monControl then 2 else 4) ""))

/-- Login and the end of Control level. `login` shows a challenge, or is refused while locked, without a key or without randomness; a response
spends it, opens Control level where it matches, and the fourth failure in a row locks login until the lockout ends; while the engine clock is
muted a response changes nothing (log entry 65); `login off`, the idle time and a write of MON_CTRL end Control level; 0x03 aborts a scan. -/
def Obligations.MonitorLoginAndControlLevel : Prop :=
∀ s : State,
    (s.monReady = true →
      (s.bit MON_STATUS_LOCKED = false → (s.slot 63).valid = true →
        (s.bit CPH_STATUS_RNG_FAIL = false → s.cph.rngFails = false → Gives .monLogin s fun u => u.cph.challenge.length = 16 ∧
          .text (challengeText u.cph.challenge) ∈ u.out ∧ s.repliedOk u) ∧
        (s.cph.challenge = [] → ∀ bytes, Gives (.monLoginResponse bytes) s fun u => u.repliedErr 0x0E "") ∧
        (∀ bytes, s.cph.challenge ≠ [] → s.cphHold = false → s.loginPass bytes = true → Gives (.monLoginResponse bytes) s fun u => u.monControl = true ∧
          u.cph.challenge = [] ∧ u.mon.fails = 0 ∧ s.repliedOk u ∧ (s.monControl = false → u.lineLevel 252 = true)) ∧
        (∀ bytes, s.cph.challenge ≠ [] → s.cphHold = false → s.loginPass bytes = false →
          (s.mon.fails < 3 → Gives (.monLoginResponse bytes) s fun u => u.mon.fails = s.mon.fails + 1 ∧ u.cph.challenge = [] ∧
            u.bit MON_STATUS_LOCKED = false ∧ u.repliedErr 8 "" ∧ u.monControl = s.monControl) ∧
          (s.mon.fails = 3 → Gives (.monLoginResponse bytes) s fun u => u.mon.fails = 0 ∧ u.bit MON_STATUS_LOCKED = true ∧
            u.lineLevel 254 = true ∧ u.repliedErr 8 "")) ∧
        (∀ bytes, s.cph.challenge ≠ [] → s.cphHold = true → Gives (.monLoginResponse bytes) s fun u => u.cph.challenge = s.cph.challenge ∧
          u.monControl = s.monControl ∧ u.mon.fails = s.mon.fails)) ∧
      (s.bit MON_STATUS_LOCKED = true → (Gives .monLogin s fun u => u.repliedErr 9 "") ∧
        (∀ bytes, Gives (.monLoginResponse bytes) s fun u => u.repliedErr 9 "" ∧ u.cph.challenge = s.cph.challenge)) ∧
      (s.bit MON_STATUS_LOCKED = false → (s.slot 63).valid = false → Gives .monLogin s fun u => u.repliedErr 0x0A "") ∧
      (Gives .monLoginOff s fun t => t.monControl = false ∧ s.repliedOk t ∧ (s.monControl = true → t.lineLevel 252 = true)) ∧
      (Gives .monIdleExpiry s fun u => u.monControl = false) ∧
      (∀ a key, s.commandOk a MON_CTRL = true → key = guardKey ∨ (s.slot 63).valid = true → Gives (.endControl a key) s fun u =>
        u.monControl = (s.monControl && decide (key ≠ guardKey)))) ∧
    (s.monRuns = true → s.mon.eye ≠ none → (Gives .monAbort s fun u => u.mon.eye = none ∧ u.repliedErr 0x0B "") ∧
      (s.monControl = true → s.mon.due = 0 → Gives .monIdleExpiry s fun u => u.monControl = true ∧ u.mon.due = 2)) ∧
    (s.dev ≠ .off → s.dev ≠ .watch → Gives .monLockoutEnd s fun u => u.bit MON_STATUS_LOCKED = false)

/-- The Control commands. Below Control level each is refused as LEVEL and changes nothing of the cipher, the load or the fabric; at Control level
each makes its accesses as master 13, and has the effect of the register that it writes. -/
def Obligations.MonitorControlCommands : Prop :=
∀ s : State, s.monReady = true →
    (s.monControl = false → ∀ c ∈ [Instr.monPoke 0 0, .monFill 0 1 0, .monFaultClear, .monEye 0 0 0 0 0 0, .monSoundForce 0, .monBandsWrite 0 0 0 0 0,
        .monImageAudit true, .monImageReload false, .monPartialLoad 0 0, .monPartialCancel, .monSlotsErase, .monSlotsZero],
      Gives c s fun u => u.repliedErr 4 "" ∧ (s.dev ≠ .draining → u.cph = s.cph) ∧ u.load = s.load ∧ u.fab = s.fab ∧ u.dev = s.dev) ∧
    (s.monControl = true →
      (∀ v, s.commandOk (Acc.whole 13) WCH_SET_SEC_LO = true →
        (Gives (.monPoke (BitVec.ofNat 32 WCH_SET_SEC_LO) v) s fun u => u.word WCH_SET_SEC_LO = v ∧ s.repliedOk u) ∧
        (Gives (.monFill (BitVec.ofNat 32 WCH_SET_SEC_LO) 1 v) s fun u => u.word WCH_SET_SEC_LO = v ∧ s.repliedOk u)) ∧
      (∀ a v, s.busTakes 13 = true → blockOf a.toNat = none → a.toNat % 4 = 0 → Gives (.monPoke a v) s fun u => u.repliedErr 6 " NOMAP") ∧
      (∀ a n v, n = 0 ∨ 1024 < n → Gives (.monFill a n v) s fun u => u.repliedErr 3 "") ∧
      (s.commandOk (Acc.whole 13) GRD_CMD = true → s.grd.insts = [] → Gives .monFaultClear s fun u => s.repliedOk u ∧
        ∀ n, n < 44 → u.bit (pendingFld n) = false) ∧
      (∀ (lane : Nat) (p v : Int) (dwell : Nat), lane < 24 → -32 ≤ p → p ≤ 31 → -128 ≤ v → v ≤ 127 → dwell ≤ 15 →
        (s.bit (LNK_STATUS_UP lane) = true → s.bit (LNK_EYE_CTRL_START lane) = false → s.commandOk (Acc.whole 13) (LNK_EYE_CTRL lane) = true →
          Gives (.monEye lane p p v v dwell) s fun u => u.mon.eye = some (lane, dwell, [(p, v)]) ∧
          u.bit (LNK_EYE_CTRL_START lane) = true) ∧
        (s.bit (LNK_STATUS_UP lane) = false → Gives (.monEye lane p p v v dwell) s fun u => u.repliedErr 0x0E "" ∧ u.mon.eye = none)) ∧
      (∀ (k : Nat) (c : CoefSet), s.dev = .running → s.radioPowered = true → k < 12 →
        (coefInLimits c = true → (∀ a ∈ [SMP_STAGE_OFFSET, SMP_STAGE_GAIN, SMP_STAGE_SKEW, SMP_STAGE_BW, SMP_COEF_CMD],
          s.commandOk (Acc.whole 13) a = true) → Gives (.monSoundApply k c) s fun u => u.coefSet k = c ∧ s.repliedOk u) ∧
        (coefInLimits c = false → Gives (.monSoundApply k c) s fun u => u.repliedErr 3 "" ∧ u.smp = s.smp)) ∧
      (∀ g, s.dev = .running → g < 8 → s.faulty g = false → s.commandOk (Acc.whole 13) SMP_COEF_CMD = true →
        Gives (.monSoundForce g) s fun u => u.smp.forced = s.smp.forced ||| (1#8 <<< g) ∧ s.repliedOk u) ∧
      (∀ (n e code : Nat) (fmin fmax : Word), n < 11 → e < 64 → code < 64 →
        (∀ i, i < 3 → s.commandOk (Acc.whole 13) (PLL_BAND0 n e + 4 * i) = true ∧ s.opened (PLL_BAND0 n e + 4 * i) = true) →
        s.bandInUse n e = false →
        Gives (.monBandsWrite n e code fmin fmax) s fun u => u.get (PLL_BAND0_CODE n e) = code ∧ u.word (PLL_BAND1 n e) = fmin ∧
          u.word (PLL_BAND2 n e) = fmax) ∧
      (∀ golden, s.commandOk (Acc.whole 13) CFG_CMD = true → s.dev = .running →
        (s.bit CFG_AUDIT_STATUS_RUNNING = false → s.bit CFG_NVM_STATUS_BUSY = false → Gives (.monImageAudit golden) s fun u =>
          u.bit CFG_AUDIT_STATUS_RUNNING = true ∧ u.bit CFG_AUDIT_STATUS_TARGET = golden ∧ s.repliedOk u) ∧
        (Gives (.monImageReload golden) s fun u => u.dev = .draining)) ∧
      (∀ region bank, s.commandOk (Acc.whole 13) SCR_PR_CMD = true → s.commandOk (Acc.whole 13) SCR_PR_SRC = true → s.released = true →
        s.dev = .running → region < 16 → bank < 112 →
        (s.get SCR_PR_STATE_PHASE = 0 → s.prBankOk region bank = true → Gives (.monPartialLoad region bank) s fun u =>
          u.get SCR_PR_STATE_PHASE = 1 ∧ u.get SCR_PR_STATUS_REGION = region ∧ s.repliedOk u) ∧
        (s.get SCR_PR_STATE_PHASE ≠ 0 → Gives (.monPartialLoad region bank) s fun u => u.repliedErr 0x0D "" ∧ u.load = s.load)) ∧
      (s.commandOk (Acc.whole 13) SCR_PR_CMD = true → s.get SCR_PR_STATE_PHASE = 1 → Gives .monPartialCancel s fun u =>
        u.get SCR_PR_STATE_PHASE = 0 ∧ u.get SCR_PR_STATUS_CODE = 1) ∧
      (Gives .monSlotsErase s fun u => u.slot 63 = Slot.erased ∧ u.monControl = false) ∧
      (s.commandOk (Acc.whole 13) CPH_ZERO = true → Gives .monSlotsZero s fun u => (∀ k, k < 64 → u.slot k = Slot.erased) ∧
        u.monControl = false))
end

