-- ==== Sys2Proof/Laws/Cells.lean ====
section
/-! SUPPORT. The laws of sparse storage: a read after a write, and the canonical form that every write keeps. -/
namespace Sys2Proof.Machine

variable {w : Nat}

/-- An erased address reads as zero, every other as before. -/
theorem cellRead_cellErase (m : Cells w) (a b : Nat) : cellRead (cellErase m a) b = if b = a then 0 else cellRead m b := by
  induction m with
  | nil => simp [cellErase, cellRead]
  | cons p rest ih =>
    obtain ⟨c, v⟩ := p
    by_cases h : a = c
    · subst h
      by_cases hb : b = a
      · subst hb
        simpa [cellErase] using ih
      · simp [cellErase, cellRead, ih, hb]
    · by_cases hb : b = c
      · subst hb
        simp [cellErase, cellRead, h, Ne.symm h]
      · simp [cellErase, cellRead, h, hb, ih]

/-- An inserted value reads back, every other address as before. -/
theorem cellRead_cellInsert (m : Cells w) (a b : Nat) (x : BitVec w) :
    cellRead (cellInsert m a x) b = if b = a then x else cellRead m b := by
  induction m with
  | nil => simp [cellInsert, cellRead]
  | cons p rest ih =>
    obtain ⟨c, v⟩ := p
    unfold cellInsert
    split
    · simp [cellRead]
    · split
      · rename_i h
        subst h
        by_cases hb : b = a <;> simp [cellRead, hb]
      · rename_i h
        by_cases hb : b = c
        · subst hb
          simp [cellRead, Ne.symm h]
        · simp [cellRead, hb, ih]

/-- Read after write. -/
theorem cellRead_cellWrite (m : Cells w) (a b : Nat) (x : BitVec w) :
    cellRead (cellWrite m a x) b = if b = a then x else cellRead m b := by
  unfold cellWrite
  split
  · rename_i h
    rw [cellRead_cellErase, h]
  · exact cellRead_cellInsert m a b x

/-- The address written reads the value written. -/
@[simp] theorem cellRead_cellWrite_same (m : Cells w) (a : Nat) (x : BitVec w) : cellRead (cellWrite m a x) a = x := by
  simp [cellRead_cellWrite]

/-- Every other address reads as before. -/
theorem cellRead_cellWrite_ne (m : Cells w) {a b : Nat} (h : b ≠ a) (x : BitVec w) :
    cellRead (cellWrite m a x) b = cellRead m b := by
  simp [cellRead_cellWrite, h]

/-- A lower bound may fall. -/
theorem cellWfFrom_mono {lo lo' : Nat} (h : lo' ≤ lo) (m : Cells w) (hm : cellWfFrom lo m = true) : cellWfFrom lo' m = true := by
  cases m with
  | nil => rfl
  | cons p rest =>
    obtain ⟨b, v⟩ := p
    simp only [cellWfFrom, Bool.and_eq_true, decide_eq_true_eq] at hm ⊢
    exact ⟨⟨by omega, hm.1.2⟩, hm.2⟩

/-- Erasing keeps the form. -/
theorem cellErase_wfFrom (m : Cells w) (a : Nat) : ∀ lo, cellWfFrom lo m = true → cellWfFrom lo (cellErase m a) = true := by
  induction m with
  | nil => intro lo _; rfl
  | cons p rest ih =>
    obtain ⟨b, v⟩ := p
    intro lo h
    simp only [cellWfFrom, Bool.and_eq_true, decide_eq_true_eq] at h
    unfold cellErase
    split
    · exact ih lo (cellWfFrom_mono (by omega) rest h.2)
    · simp only [cellWfFrom, Bool.and_eq_true, decide_eq_true_eq]
      exact ⟨h.1, ih _ h.2⟩

/-- Inserting a value that is not zero keeps the form. -/
theorem cellInsert_wfFrom (m : Cells w) (a : Nat) (x : BitVec w) (hx : x ≠ 0) :
    ∀ lo, lo ≤ a → cellWfFrom lo m = true → cellWfFrom lo (cellInsert m a x) = true := by
  induction m with
  | nil => intro lo h _; simpa [cellInsert, cellWfFrom, h] using hx
  | cons p rest ih =>
    obtain ⟨b, v⟩ := p
    intro lo hlo h
    simp only [cellWfFrom, Bool.and_eq_true, decide_eq_true_eq] at h
    unfold cellInsert
    split
    · simp only [cellWfFrom, Bool.and_eq_true, decide_eq_true_eq]
      exact ⟨⟨hlo, hx⟩, ⟨by omega, h.1.2⟩, h.2⟩
    · split
      · rename_i hab
        subst hab
        simp only [cellWfFrom, Bool.and_eq_true, decide_eq_true_eq]
        exact ⟨⟨hlo, hx⟩, h.2⟩
      · simp only [cellWfFrom, Bool.and_eq_true, decide_eq_true_eq]
        exact ⟨h.1, ih _ (by omega) h.2⟩

/-- A write keeps the canonical form. -/
theorem cellWrite_wf (m : Cells w) (a : Nat) (x : BitVec w) (h : cellWf m = true) : cellWf (cellWrite m a x) = true := by
  unfold cellWf cellWrite at *
  split
  · exact cellErase_wfFrom m a 0 h
  · rename_i hx
    exact cellInsert_wfFrom m a x hx 0 (Nat.zero_le _) h

/-- A block write keeps the canonical form. -/
theorem cellWriteAll_wf (xs : List (BitVec w)) : ∀ (m : Cells w) (a k : Nat), cellWf m = true → cellWf (cellWriteAll m a k xs) = true := by
  induction xs with
  | nil => intro m a k h; exact h
  | cons x xs ih => intro m a k h; exact ih _ _ _ (cellWrite_wf m a x h)

/-- Dropping entries keeps the form. -/
theorem filter_wfFrom (p : Nat × BitVec w → Bool) (m : Cells w) : ∀ lo, cellWfFrom lo m = true → cellWfFrom lo (m.filter p) = true := by
  induction m with
  | nil => intro lo _; rfl
  | cons e rest ih =>
    obtain ⟨b, v⟩ := e
    intro lo h
    simp only [cellWfFrom, Bool.and_eq_true, decide_eq_true_eq] at h
    by_cases hp : p (b, v)
    · simp only [List.filter_cons_of_pos hp, cellWfFrom, Bool.and_eq_true, decide_eq_true_eq]
      exact ⟨h.1, ih _ h.2⟩
    · simp only [List.filter_cons_of_neg hp]
      exact ih lo (cellWfFrom_mono (by omega) rest h.2)

/-- Filtered cells keep the canonical form. -/
theorem filter_wf (p : Nat × BitVec w → Bool) (m : Cells w) (h : cellWf m = true) : cellWf (m.filter p) = true :=
  filter_wfFrom p m 0 h

end Sys2Proof.Machine
end

