-- ==== Sys2Proof/Laws/State.lean ====
section
/-! SUPPORT. One lemma per field of `State` per update: an update changes its own field and leaves the others. -/
namespace Sys2Proof.Machine

@[simp] theorem State.withOut_pending (s : State) (v : List Out) : (s.withOut v).pending = s.pending := rfl
@[simp] theorem State.withOut_regs (s : State) (v : List Out) : (s.withOut v).regs = s.regs := rfl
@[simp] theorem State.withOut_mask (s : State) (v : List Out) : (s.withOut v).mask = s.mask := rfl
@[simp] theorem State.withOut_now (s : State) (v : List Out) : (s.withOut v).now = s.now := rfl
@[simp] theorem State.withOut_fresh (s : State) (v : List Out) : (s.withOut v).fresh = s.fresh := rfl
@[simp] theorem State.withOut_dev (s : State) (v : List Out) : (s.withOut v).dev = s.dev := rfl
@[simp] theorem State.withOut_pwr (s : State) (v : List Out) : (s.withOut v).pwr = s.pwr := rfl
@[simp] theorem State.withOut_wch (s : State) (v : List Out) : (s.withOut v).wch = s.wch := rfl
@[simp] theorem State.withOut_grd (s : State) (v : List Out) : (s.withOut v).grd = s.grd := rfl
@[simp] theorem State.withOut_bus (s : State) (v : List Out) : (s.withOut v).bus = s.bus := rfl
@[simp] theorem State.withOut_load (s : State) (v : List Out) : (s.withOut v).load = s.load := rfl
@[simp] theorem State.withOut_fab (s : State) (v : List Out) : (s.withOut v).fab = s.fab := rfl
@[simp] theorem State.withOut_fix (s : State) (v : List Out) : (s.withOut v).fix = s.fix := rfl
@[simp] theorem State.withOut_deep (s : State) (v : List Out) : (s.withOut v).deep = s.deep := rfl
@[simp] theorem State.withOut_cph (s : State) (v : List Out) : (s.withOut v).cph = s.cph := rfl
@[simp] theorem State.withOut_lnk (s : State) (v : List Out) : (s.withOut v).lnk = s.lnk := rfl
@[simp] theorem State.withOut_brg (s : State) (v : List Out) : (s.withOut v).brg = s.brg := rfl
@[simp] theorem State.withOut_smp (s : State) (v : List Out) : (s.withOut v).smp = s.smp := rfl
@[simp] theorem State.withOut_ddc (s : State) (v : List Out) : (s.withOut v).ddc = s.ddc := rfl
@[simp] theorem State.withOut_ctx (s : State) (v : List Out) : (s.withOut v).ctx = s.ctx := rfl
@[simp] theorem State.withOut_scan (s : State) (v : List Out) : (s.withOut v).scan = s.scan := rfl
@[simp] theorem State.withOut_lmdTx (s : State) (v : List Out) : (s.withOut v).lmdTx = s.lmdTx := rfl
@[simp] theorem State.withOut_lmdRx (s : State) (v : List Out) : (s.withOut v).lmdRx = s.lmdRx := rfl
@[simp] theorem State.withOut_spt (s : State) (v : List Out) : (s.withOut v).spt = s.spt := rfl
@[simp] theorem State.withOut_pin (s : State) (v : List Out) : (s.withOut v).pin = s.pin := rfl
@[simp] theorem State.withOut_bin (s : State) (v : List Out) : (s.withOut v).bin = s.bin := rfl
@[simp] theorem State.withOut_pll (s : State) (v : List Out) : (s.withOut v).pll = s.pll := rfl
@[simp] theorem State.withOut_mon (s : State) (v : List Out) : (s.withOut v).mon = s.mon := rfl
@[simp] theorem State.withOut_wear (s : State) (v : List Out) : (s.withOut v).wear = s.wear := rfl
@[simp] theorem State.withOut_str (s : State) (v : List Out) : (s.withOut v).str = s.str := rfl
@[simp] theorem State.withOut_lgc (s : State) (v : List Out) : (s.withOut v).lgc = s.lgc := rfl
@[simp] theorem State.withOut_health (s : State) (v : List Out) : (s.withOut v).health = s.health := rfl
@[simp] theorem State.withOut_out (s : State) (v : List Out) : (s.withOut v).out = v := rfl
@[simp] theorem State.withOut_get (s : State) (v : List Out) (g : Fld) : (s.withOut v).get g = s.get g := rfl
@[simp] theorem State.withOut_bit (s : State) (v : List Out) (g : Fld) : (s.withOut v).bit g = s.bit g := rfl
@[simp] theorem State.withOut_word (s : State) (v : List Out) (i : Nat) : (s.withOut v).word i = s.word i := rfl

@[simp] theorem State.withRegs_pending (s : State) (v : Cells 32) : (s.withRegs v).pending = s.pending := rfl
@[simp] theorem State.withRegs_out (s : State) (v : Cells 32) : (s.withRegs v).out = s.out := rfl
@[simp] theorem State.withRegs_mask (s : State) (v : Cells 32) : (s.withRegs v).mask = s.mask := rfl
@[simp] theorem State.withRegs_now (s : State) (v : Cells 32) : (s.withRegs v).now = s.now := rfl
@[simp] theorem State.withRegs_fresh (s : State) (v : Cells 32) : (s.withRegs v).fresh = s.fresh := rfl
@[simp] theorem State.withRegs_dev (s : State) (v : Cells 32) : (s.withRegs v).dev = s.dev := rfl
@[simp] theorem State.withRegs_pwr (s : State) (v : Cells 32) : (s.withRegs v).pwr = s.pwr := rfl
@[simp] theorem State.withRegs_wch (s : State) (v : Cells 32) : (s.withRegs v).wch = s.wch := rfl
@[simp] theorem State.withRegs_grd (s : State) (v : Cells 32) : (s.withRegs v).grd = s.grd := rfl
@[simp] theorem State.withRegs_bus (s : State) (v : Cells 32) : (s.withRegs v).bus = s.bus := rfl
@[simp] theorem State.withRegs_load (s : State) (v : Cells 32) : (s.withRegs v).load = s.load := rfl
@[simp] theorem State.withRegs_fab (s : State) (v : Cells 32) : (s.withRegs v).fab = s.fab := rfl
@[simp] theorem State.withRegs_fix (s : State) (v : Cells 32) : (s.withRegs v).fix = s.fix := rfl
@[simp] theorem State.withRegs_deep (s : State) (v : Cells 32) : (s.withRegs v).deep = s.deep := rfl
@[simp] theorem State.withRegs_cph (s : State) (v : Cells 32) : (s.withRegs v).cph = s.cph := rfl
@[simp] theorem State.withRegs_lnk (s : State) (v : Cells 32) : (s.withRegs v).lnk = s.lnk := rfl
@[simp] theorem State.withRegs_brg (s : State) (v : Cells 32) : (s.withRegs v).brg = s.brg := rfl
@[simp] theorem State.withRegs_smp (s : State) (v : Cells 32) : (s.withRegs v).smp = s.smp := rfl
@[simp] theorem State.withRegs_ddc (s : State) (v : Cells 32) : (s.withRegs v).ddc = s.ddc := rfl
@[simp] theorem State.withRegs_ctx (s : State) (v : Cells 32) : (s.withRegs v).ctx = s.ctx := rfl
@[simp] theorem State.withRegs_scan (s : State) (v : Cells 32) : (s.withRegs v).scan = s.scan := rfl
@[simp] theorem State.withRegs_lmdTx (s : State) (v : Cells 32) : (s.withRegs v).lmdTx = s.lmdTx := rfl
@[simp] theorem State.withRegs_lmdRx (s : State) (v : Cells 32) : (s.withRegs v).lmdRx = s.lmdRx := rfl
@[simp] theorem State.withRegs_spt (s : State) (v : Cells 32) : (s.withRegs v).spt = s.spt := rfl
@[simp] theorem State.withRegs_pin (s : State) (v : Cells 32) : (s.withRegs v).pin = s.pin := rfl
@[simp] theorem State.withRegs_bin (s : State) (v : Cells 32) : (s.withRegs v).bin = s.bin := rfl
@[simp] theorem State.withRegs_pll (s : State) (v : Cells 32) : (s.withRegs v).pll = s.pll := rfl
@[simp] theorem State.withRegs_mon (s : State) (v : Cells 32) : (s.withRegs v).mon = s.mon := rfl
@[simp] theorem State.withRegs_wear (s : State) (v : Cells 32) : (s.withRegs v).wear = s.wear := rfl
@[simp] theorem State.withRegs_str (s : State) (v : Cells 32) : (s.withRegs v).str = s.str := rfl
@[simp] theorem State.withRegs_lgc (s : State) (v : Cells 32) : (s.withRegs v).lgc = s.lgc := rfl
@[simp] theorem State.withRegs_health (s : State) (v : Cells 32) : (s.withRegs v).health = s.health := rfl
@[simp] theorem State.withRegs_regs (s : State) (v : Cells 32) : (s.withRegs v).regs = v := rfl

@[simp] theorem State.withMask_pending (s : State) (v : Cells 32) : (s.withMask v).pending = s.pending := rfl
@[simp] theorem State.withMask_out (s : State) (v : Cells 32) : (s.withMask v).out = s.out := rfl
@[simp] theorem State.withMask_regs (s : State) (v : Cells 32) : (s.withMask v).regs = s.regs := rfl
@[simp] theorem State.withMask_now (s : State) (v : Cells 32) : (s.withMask v).now = s.now := rfl
@[simp] theorem State.withMask_fresh (s : State) (v : Cells 32) : (s.withMask v).fresh = s.fresh := rfl
@[simp] theorem State.withMask_dev (s : State) (v : Cells 32) : (s.withMask v).dev = s.dev := rfl
@[simp] theorem State.withMask_pwr (s : State) (v : Cells 32) : (s.withMask v).pwr = s.pwr := rfl
@[simp] theorem State.withMask_wch (s : State) (v : Cells 32) : (s.withMask v).wch = s.wch := rfl
@[simp] theorem State.withMask_grd (s : State) (v : Cells 32) : (s.withMask v).grd = s.grd := rfl
@[simp] theorem State.withMask_bus (s : State) (v : Cells 32) : (s.withMask v).bus = s.bus := rfl
@[simp] theorem State.withMask_load (s : State) (v : Cells 32) : (s.withMask v).load = s.load := rfl
@[simp] theorem State.withMask_fab (s : State) (v : Cells 32) : (s.withMask v).fab = s.fab := rfl
@[simp] theorem State.withMask_fix (s : State) (v : Cells 32) : (s.withMask v).fix = s.fix := rfl
@[simp] theorem State.withMask_deep (s : State) (v : Cells 32) : (s.withMask v).deep = s.deep := rfl
@[simp] theorem State.withMask_cph (s : State) (v : Cells 32) : (s.withMask v).cph = s.cph := rfl
@[simp] theorem State.withMask_lnk (s : State) (v : Cells 32) : (s.withMask v).lnk = s.lnk := rfl
@[simp] theorem State.withMask_brg (s : State) (v : Cells 32) : (s.withMask v).brg = s.brg := rfl
@[simp] theorem State.withMask_smp (s : State) (v : Cells 32) : (s.withMask v).smp = s.smp := rfl
@[simp] theorem State.withMask_ddc (s : State) (v : Cells 32) : (s.withMask v).ddc = s.ddc := rfl
@[simp] theorem State.withMask_ctx (s : State) (v : Cells 32) : (s.withMask v).ctx = s.ctx := rfl
@[simp] theorem State.withMask_scan (s : State) (v : Cells 32) : (s.withMask v).scan = s.scan := rfl
@[simp] theorem State.withMask_lmdTx (s : State) (v : Cells 32) : (s.withMask v).lmdTx = s.lmdTx := rfl
@[simp] theorem State.withMask_lmdRx (s : State) (v : Cells 32) : (s.withMask v).lmdRx = s.lmdRx := rfl
@[simp] theorem State.withMask_spt (s : State) (v : Cells 32) : (s.withMask v).spt = s.spt := rfl
@[simp] theorem State.withMask_pin (s : State) (v : Cells 32) : (s.withMask v).pin = s.pin := rfl
@[simp] theorem State.withMask_bin (s : State) (v : Cells 32) : (s.withMask v).bin = s.bin := rfl
@[simp] theorem State.withMask_pll (s : State) (v : Cells 32) : (s.withMask v).pll = s.pll := rfl
@[simp] theorem State.withMask_mon (s : State) (v : Cells 32) : (s.withMask v).mon = s.mon := rfl
@[simp] theorem State.withMask_wear (s : State) (v : Cells 32) : (s.withMask v).wear = s.wear := rfl
@[simp] theorem State.withMask_str (s : State) (v : Cells 32) : (s.withMask v).str = s.str := rfl
@[simp] theorem State.withMask_lgc (s : State) (v : Cells 32) : (s.withMask v).lgc = s.lgc := rfl
@[simp] theorem State.withMask_health (s : State) (v : Cells 32) : (s.withMask v).health = s.health := rfl
@[simp] theorem State.withMask_mask (s : State) (v : Cells 32) : (s.withMask v).mask = v := rfl
@[simp] theorem State.withMask_get (s : State) (v : Cells 32) (g : Fld) : (s.withMask v).get g = s.get g := rfl
@[simp] theorem State.withMask_bit (s : State) (v : Cells 32) (g : Fld) : (s.withMask v).bit g = s.bit g := rfl
@[simp] theorem State.withMask_word (s : State) (v : Cells 32) (i : Nat) : (s.withMask v).word i = s.word i := rfl

@[simp] theorem State.withNow_pending (s : State) (v : Nat) : (s.withNow v).pending = s.pending := rfl
@[simp] theorem State.withNow_out (s : State) (v : Nat) : (s.withNow v).out = s.out := rfl
@[simp] theorem State.withNow_regs (s : State) (v : Nat) : (s.withNow v).regs = s.regs := rfl
@[simp] theorem State.withNow_mask (s : State) (v : Nat) : (s.withNow v).mask = s.mask := rfl
@[simp] theorem State.withNow_fresh (s : State) (v : Nat) : (s.withNow v).fresh = s.fresh := rfl
@[simp] theorem State.withNow_dev (s : State) (v : Nat) : (s.withNow v).dev = s.dev := rfl
@[simp] theorem State.withNow_pwr (s : State) (v : Nat) : (s.withNow v).pwr = s.pwr := rfl
@[simp] theorem State.withNow_wch (s : State) (v : Nat) : (s.withNow v).wch = s.wch := rfl
@[simp] theorem State.withNow_grd (s : State) (v : Nat) : (s.withNow v).grd = s.grd := rfl
@[simp] theorem State.withNow_bus (s : State) (v : Nat) : (s.withNow v).bus = s.bus := rfl
@[simp] theorem State.withNow_load (s : State) (v : Nat) : (s.withNow v).load = s.load := rfl
@[simp] theorem State.withNow_fab (s : State) (v : Nat) : (s.withNow v).fab = s.fab := rfl
@[simp] theorem State.withNow_fix (s : State) (v : Nat) : (s.withNow v).fix = s.fix := rfl
@[simp] theorem State.withNow_deep (s : State) (v : Nat) : (s.withNow v).deep = s.deep := rfl
@[simp] theorem State.withNow_cph (s : State) (v : Nat) : (s.withNow v).cph = s.cph := rfl
@[simp] theorem State.withNow_lnk (s : State) (v : Nat) : (s.withNow v).lnk = s.lnk := rfl
@[simp] theorem State.withNow_brg (s : State) (v : Nat) : (s.withNow v).brg = s.brg := rfl
@[simp] theorem State.withNow_smp (s : State) (v : Nat) : (s.withNow v).smp = s.smp := rfl
@[simp] theorem State.withNow_ddc (s : State) (v : Nat) : (s.withNow v).ddc = s.ddc := rfl
@[simp] theorem State.withNow_ctx (s : State) (v : Nat) : (s.withNow v).ctx = s.ctx := rfl
@[simp] theorem State.withNow_scan (s : State) (v : Nat) : (s.withNow v).scan = s.scan := rfl
@[simp] theorem State.withNow_lmdTx (s : State) (v : Nat) : (s.withNow v).lmdTx = s.lmdTx := rfl
@[simp] theorem State.withNow_lmdRx (s : State) (v : Nat) : (s.withNow v).lmdRx = s.lmdRx := rfl
@[simp] theorem State.withNow_spt (s : State) (v : Nat) : (s.withNow v).spt = s.spt := rfl
@[simp] theorem State.withNow_pin (s : State) (v : Nat) : (s.withNow v).pin = s.pin := rfl
@[simp] theorem State.withNow_bin (s : State) (v : Nat) : (s.withNow v).bin = s.bin := rfl
@[simp] theorem State.withNow_pll (s : State) (v : Nat) : (s.withNow v).pll = s.pll := rfl
@[simp] theorem State.withNow_mon (s : State) (v : Nat) : (s.withNow v).mon = s.mon := rfl
@[simp] theorem State.withNow_wear (s : State) (v : Nat) : (s.withNow v).wear = s.wear := rfl
@[simp] theorem State.withNow_str (s : State) (v : Nat) : (s.withNow v).str = s.str := rfl
@[simp] theorem State.withNow_lgc (s : State) (v : Nat) : (s.withNow v).lgc = s.lgc := rfl
@[simp] theorem State.withNow_health (s : State) (v : Nat) : (s.withNow v).health = s.health := rfl
@[simp] theorem State.withNow_now (s : State) (v : Nat) : (s.withNow v).now = v := rfl
@[simp] theorem State.withNow_get (s : State) (v : Nat) (g : Fld) : (s.withNow v).get g = s.get g := rfl
@[simp] theorem State.withNow_bit (s : State) (v : Nat) (g : Fld) : (s.withNow v).bit g = s.bit g := rfl
@[simp] theorem State.withNow_word (s : State) (v : Nat) (i : Nat) : (s.withNow v).word i = s.word i := rfl

@[simp] theorem State.withFresh_pending (s : State) (v : Nat) : (s.withFresh v).pending = s.pending := rfl
@[simp] theorem State.withFresh_out (s : State) (v : Nat) : (s.withFresh v).out = s.out := rfl
@[simp] theorem State.withFresh_regs (s : State) (v : Nat) : (s.withFresh v).regs = s.regs := rfl
@[simp] theorem State.withFresh_mask (s : State) (v : Nat) : (s.withFresh v).mask = s.mask := rfl
@[simp] theorem State.withFresh_now (s : State) (v : Nat) : (s.withFresh v).now = s.now := rfl
@[simp] theorem State.withFresh_dev (s : State) (v : Nat) : (s.withFresh v).dev = s.dev := rfl
@[simp] theorem State.withFresh_pwr (s : State) (v : Nat) : (s.withFresh v).pwr = s.pwr := rfl
@[simp] theorem State.withFresh_wch (s : State) (v : Nat) : (s.withFresh v).wch = s.wch := rfl
@[simp] theorem State.withFresh_grd (s : State) (v : Nat) : (s.withFresh v).grd = s.grd := rfl
@[simp] theorem State.withFresh_bus (s : State) (v : Nat) : (s.withFresh v).bus = s.bus := rfl
@[simp] theorem State.withFresh_load (s : State) (v : Nat) : (s.withFresh v).load = s.load := rfl
@[simp] theorem State.withFresh_fab (s : State) (v : Nat) : (s.withFresh v).fab = s.fab := rfl
@[simp] theorem State.withFresh_fix (s : State) (v : Nat) : (s.withFresh v).fix = s.fix := rfl
@[simp] theorem State.withFresh_deep (s : State) (v : Nat) : (s.withFresh v).deep = s.deep := rfl
@[simp] theorem State.withFresh_cph (s : State) (v : Nat) : (s.withFresh v).cph = s.cph := rfl
@[simp] theorem State.withFresh_lnk (s : State) (v : Nat) : (s.withFresh v).lnk = s.lnk := rfl
@[simp] theorem State.withFresh_brg (s : State) (v : Nat) : (s.withFresh v).brg = s.brg := rfl
@[simp] theorem State.withFresh_smp (s : State) (v : Nat) : (s.withFresh v).smp = s.smp := rfl
@[simp] theorem State.withFresh_ddc (s : State) (v : Nat) : (s.withFresh v).ddc = s.ddc := rfl
@[simp] theorem State.withFresh_ctx (s : State) (v : Nat) : (s.withFresh v).ctx = s.ctx := rfl
@[simp] theorem State.withFresh_scan (s : State) (v : Nat) : (s.withFresh v).scan = s.scan := rfl
@[simp] theorem State.withFresh_lmdTx (s : State) (v : Nat) : (s.withFresh v).lmdTx = s.lmdTx := rfl
@[simp] theorem State.withFresh_lmdRx (s : State) (v : Nat) : (s.withFresh v).lmdRx = s.lmdRx := rfl
@[simp] theorem State.withFresh_spt (s : State) (v : Nat) : (s.withFresh v).spt = s.spt := rfl
@[simp] theorem State.withFresh_pin (s : State) (v : Nat) : (s.withFresh v).pin = s.pin := rfl
@[simp] theorem State.withFresh_bin (s : State) (v : Nat) : (s.withFresh v).bin = s.bin := rfl
@[simp] theorem State.withFresh_pll (s : State) (v : Nat) : (s.withFresh v).pll = s.pll := rfl
@[simp] theorem State.withFresh_mon (s : State) (v : Nat) : (s.withFresh v).mon = s.mon := rfl
@[simp] theorem State.withFresh_wear (s : State) (v : Nat) : (s.withFresh v).wear = s.wear := rfl
@[simp] theorem State.withFresh_str (s : State) (v : Nat) : (s.withFresh v).str = s.str := rfl
@[simp] theorem State.withFresh_lgc (s : State) (v : Nat) : (s.withFresh v).lgc = s.lgc := rfl
@[simp] theorem State.withFresh_health (s : State) (v : Nat) : (s.withFresh v).health = s.health := rfl
@[simp] theorem State.withFresh_fresh (s : State) (v : Nat) : (s.withFresh v).fresh = v := rfl
@[simp] theorem State.withFresh_get (s : State) (v : Nat) (g : Fld) : (s.withFresh v).get g = s.get g := rfl
@[simp] theorem State.withFresh_bit (s : State) (v : Nat) (g : Fld) : (s.withFresh v).bit g = s.bit g := rfl
@[simp] theorem State.withFresh_word (s : State) (v : Nat) (i : Nat) : (s.withFresh v).word i = s.word i := rfl

@[simp] theorem State.withDev_pending (s : State) (v : DevState) : (s.withDev v).pending = s.pending := rfl
@[simp] theorem State.withDev_out (s : State) (v : DevState) : (s.withDev v).out = s.out := rfl
@[simp] theorem State.withDev_regs (s : State) (v : DevState) : (s.withDev v).regs = s.regs := rfl
@[simp] theorem State.withDev_mask (s : State) (v : DevState) : (s.withDev v).mask = s.mask := rfl
@[simp] theorem State.withDev_now (s : State) (v : DevState) : (s.withDev v).now = s.now := rfl
@[simp] theorem State.withDev_fresh (s : State) (v : DevState) : (s.withDev v).fresh = s.fresh := rfl
@[simp] theorem State.withDev_pwr (s : State) (v : DevState) : (s.withDev v).pwr = s.pwr := rfl
@[simp] theorem State.withDev_wch (s : State) (v : DevState) : (s.withDev v).wch = s.wch := rfl
@[simp] theorem State.withDev_grd (s : State) (v : DevState) : (s.withDev v).grd = s.grd := rfl
@[simp] theorem State.withDev_bus (s : State) (v : DevState) : (s.withDev v).bus = s.bus := rfl
@[simp] theorem State.withDev_load (s : State) (v : DevState) : (s.withDev v).load = s.load := rfl
@[simp] theorem State.withDev_fab (s : State) (v : DevState) : (s.withDev v).fab = s.fab := rfl
@[simp] theorem State.withDev_fix (s : State) (v : DevState) : (s.withDev v).fix = s.fix := rfl
@[simp] theorem State.withDev_deep (s : State) (v : DevState) : (s.withDev v).deep = s.deep := rfl
@[simp] theorem State.withDev_cph (s : State) (v : DevState) : (s.withDev v).cph = s.cph := rfl
@[simp] theorem State.withDev_lnk (s : State) (v : DevState) : (s.withDev v).lnk = s.lnk := rfl
@[simp] theorem State.withDev_brg (s : State) (v : DevState) : (s.withDev v).brg = s.brg := rfl
@[simp] theorem State.withDev_smp (s : State) (v : DevState) : (s.withDev v).smp = s.smp := rfl
@[simp] theorem State.withDev_ddc (s : State) (v : DevState) : (s.withDev v).ddc = s.ddc := rfl
@[simp] theorem State.withDev_ctx (s : State) (v : DevState) : (s.withDev v).ctx = s.ctx := rfl
@[simp] theorem State.withDev_scan (s : State) (v : DevState) : (s.withDev v).scan = s.scan := rfl
@[simp] theorem State.withDev_lmdTx (s : State) (v : DevState) : (s.withDev v).lmdTx = s.lmdTx := rfl
@[simp] theorem State.withDev_lmdRx (s : State) (v : DevState) : (s.withDev v).lmdRx = s.lmdRx := rfl
@[simp] theorem State.withDev_spt (s : State) (v : DevState) : (s.withDev v).spt = s.spt := rfl
@[simp] theorem State.withDev_pin (s : State) (v : DevState) : (s.withDev v).pin = s.pin := rfl
@[simp] theorem State.withDev_bin (s : State) (v : DevState) : (s.withDev v).bin = s.bin := rfl
@[simp] theorem State.withDev_pll (s : State) (v : DevState) : (s.withDev v).pll = s.pll := rfl
@[simp] theorem State.withDev_mon (s : State) (v : DevState) : (s.withDev v).mon = s.mon := rfl
@[simp] theorem State.withDev_wear (s : State) (v : DevState) : (s.withDev v).wear = s.wear := rfl
@[simp] theorem State.withDev_str (s : State) (v : DevState) : (s.withDev v).str = s.str := rfl
@[simp] theorem State.withDev_lgc (s : State) (v : DevState) : (s.withDev v).lgc = s.lgc := rfl
@[simp] theorem State.withDev_health (s : State) (v : DevState) : (s.withDev v).health = s.health := rfl
@[simp] theorem State.withDev_dev (s : State) (v : DevState) : (s.withDev v).dev = v := rfl
@[simp] theorem State.withDev_get (s : State) (v : DevState) (g : Fld) : (s.withDev v).get g = s.get g := rfl
@[simp] theorem State.withDev_bit (s : State) (v : DevState) (g : Fld) : (s.withDev v).bit g = s.bit g := rfl
@[simp] theorem State.withDev_word (s : State) (v : DevState) (i : Nat) : (s.withDev v).word i = s.word i := rfl

@[simp] theorem State.withPwr_pending (s : State) (v : PwrState) : (s.withPwr v).pending = s.pending := rfl
@[simp] theorem State.withPwr_out (s : State) (v : PwrState) : (s.withPwr v).out = s.out := rfl
@[simp] theorem State.withPwr_regs (s : State) (v : PwrState) : (s.withPwr v).regs = s.regs := rfl
@[simp] theorem State.withPwr_mask (s : State) (v : PwrState) : (s.withPwr v).mask = s.mask := rfl
@[simp] theorem State.withPwr_now (s : State) (v : PwrState) : (s.withPwr v).now = s.now := rfl
@[simp] theorem State.withPwr_fresh (s : State) (v : PwrState) : (s.withPwr v).fresh = s.fresh := rfl
@[simp] theorem State.withPwr_dev (s : State) (v : PwrState) : (s.withPwr v).dev = s.dev := rfl
@[simp] theorem State.withPwr_wch (s : State) (v : PwrState) : (s.withPwr v).wch = s.wch := rfl
@[simp] theorem State.withPwr_grd (s : State) (v : PwrState) : (s.withPwr v).grd = s.grd := rfl
@[simp] theorem State.withPwr_bus (s : State) (v : PwrState) : (s.withPwr v).bus = s.bus := rfl
@[simp] theorem State.withPwr_load (s : State) (v : PwrState) : (s.withPwr v).load = s.load := rfl
@[simp] theorem State.withPwr_fab (s : State) (v : PwrState) : (s.withPwr v).fab = s.fab := rfl
@[simp] theorem State.withPwr_fix (s : State) (v : PwrState) : (s.withPwr v).fix = s.fix := rfl
@[simp] theorem State.withPwr_deep (s : State) (v : PwrState) : (s.withPwr v).deep = s.deep := rfl
@[simp] theorem State.withPwr_cph (s : State) (v : PwrState) : (s.withPwr v).cph = s.cph := rfl
@[simp] theorem State.withPwr_lnk (s : State) (v : PwrState) : (s.withPwr v).lnk = s.lnk := rfl
@[simp] theorem State.withPwr_brg (s : State) (v : PwrState) : (s.withPwr v).brg = s.brg := rfl
@[simp] theorem State.withPwr_smp (s : State) (v : PwrState) : (s.withPwr v).smp = s.smp := rfl
@[simp] theorem State.withPwr_ddc (s : State) (v : PwrState) : (s.withPwr v).ddc = s.ddc := rfl
@[simp] theorem State.withPwr_ctx (s : State) (v : PwrState) : (s.withPwr v).ctx = s.ctx := rfl
@[simp] theorem State.withPwr_scan (s : State) (v : PwrState) : (s.withPwr v).scan = s.scan := rfl
@[simp] theorem State.withPwr_lmdTx (s : State) (v : PwrState) : (s.withPwr v).lmdTx = s.lmdTx := rfl
@[simp] theorem State.withPwr_lmdRx (s : State) (v : PwrState) : (s.withPwr v).lmdRx = s.lmdRx := rfl
@[simp] theorem State.withPwr_spt (s : State) (v : PwrState) : (s.withPwr v).spt = s.spt := rfl
@[simp] theorem State.withPwr_pin (s : State) (v : PwrState) : (s.withPwr v).pin = s.pin := rfl
@[simp] theorem State.withPwr_bin (s : State) (v : PwrState) : (s.withPwr v).bin = s.bin := rfl
@[simp] theorem State.withPwr_pll (s : State) (v : PwrState) : (s.withPwr v).pll = s.pll := rfl
@[simp] theorem State.withPwr_mon (s : State) (v : PwrState) : (s.withPwr v).mon = s.mon := rfl
@[simp] theorem State.withPwr_wear (s : State) (v : PwrState) : (s.withPwr v).wear = s.wear := rfl
@[simp] theorem State.withPwr_str (s : State) (v : PwrState) : (s.withPwr v).str = s.str := rfl
@[simp] theorem State.withPwr_lgc (s : State) (v : PwrState) : (s.withPwr v).lgc = s.lgc := rfl
@[simp] theorem State.withPwr_health (s : State) (v : PwrState) : (s.withPwr v).health = s.health := rfl
@[simp] theorem State.withPwr_pwr (s : State) (v : PwrState) : (s.withPwr v).pwr = v := rfl
@[simp] theorem State.withPwr_get (s : State) (v : PwrState) (g : Fld) : (s.withPwr v).get g = s.get g := rfl
@[simp] theorem State.withPwr_bit (s : State) (v : PwrState) (g : Fld) : (s.withPwr v).bit g = s.bit g := rfl
@[simp] theorem State.withPwr_word (s : State) (v : PwrState) (i : Nat) : (s.withPwr v).word i = s.word i := rfl

@[simp] theorem State.withWch_pending (s : State) (v : WchState) : (s.withWch v).pending = s.pending := rfl
@[simp] theorem State.withWch_out (s : State) (v : WchState) : (s.withWch v).out = s.out := rfl
@[simp] theorem State.withWch_regs (s : State) (v : WchState) : (s.withWch v).regs = s.regs := rfl
@[simp] theorem State.withWch_mask (s : State) (v : WchState) : (s.withWch v).mask = s.mask := rfl
@[simp] theorem State.withWch_now (s : State) (v : WchState) : (s.withWch v).now = s.now := rfl
@[simp] theorem State.withWch_fresh (s : State) (v : WchState) : (s.withWch v).fresh = s.fresh := rfl
@[simp] theorem State.withWch_dev (s : State) (v : WchState) : (s.withWch v).dev = s.dev := rfl
@[simp] theorem State.withWch_pwr (s : State) (v : WchState) : (s.withWch v).pwr = s.pwr := rfl
@[simp] theorem State.withWch_grd (s : State) (v : WchState) : (s.withWch v).grd = s.grd := rfl
@[simp] theorem State.withWch_bus (s : State) (v : WchState) : (s.withWch v).bus = s.bus := rfl
@[simp] theorem State.withWch_load (s : State) (v : WchState) : (s.withWch v).load = s.load := rfl
@[simp] theorem State.withWch_fab (s : State) (v : WchState) : (s.withWch v).fab = s.fab := rfl
@[simp] theorem State.withWch_fix (s : State) (v : WchState) : (s.withWch v).fix = s.fix := rfl
@[simp] theorem State.withWch_deep (s : State) (v : WchState) : (s.withWch v).deep = s.deep := rfl
@[simp] theorem State.withWch_cph (s : State) (v : WchState) : (s.withWch v).cph = s.cph := rfl
@[simp] theorem State.withWch_lnk (s : State) (v : WchState) : (s.withWch v).lnk = s.lnk := rfl
@[simp] theorem State.withWch_brg (s : State) (v : WchState) : (s.withWch v).brg = s.brg := rfl
@[simp] theorem State.withWch_smp (s : State) (v : WchState) : (s.withWch v).smp = s.smp := rfl
@[simp] theorem State.withWch_ddc (s : State) (v : WchState) : (s.withWch v).ddc = s.ddc := rfl
@[simp] theorem State.withWch_ctx (s : State) (v : WchState) : (s.withWch v).ctx = s.ctx := rfl
@[simp] theorem State.withWch_scan (s : State) (v : WchState) : (s.withWch v).scan = s.scan := rfl
@[simp] theorem State.withWch_lmdTx (s : State) (v : WchState) : (s.withWch v).lmdTx = s.lmdTx := rfl
@[simp] theorem State.withWch_lmdRx (s : State) (v : WchState) : (s.withWch v).lmdRx = s.lmdRx := rfl
@[simp] theorem State.withWch_spt (s : State) (v : WchState) : (s.withWch v).spt = s.spt := rfl
@[simp] theorem State.withWch_pin (s : State) (v : WchState) : (s.withWch v).pin = s.pin := rfl
@[simp] theorem State.withWch_bin (s : State) (v : WchState) : (s.withWch v).bin = s.bin := rfl
@[simp] theorem State.withWch_pll (s : State) (v : WchState) : (s.withWch v).pll = s.pll := rfl
@[simp] theorem State.withWch_mon (s : State) (v : WchState) : (s.withWch v).mon = s.mon := rfl
@[simp] theorem State.withWch_wear (s : State) (v : WchState) : (s.withWch v).wear = s.wear := rfl
@[simp] theorem State.withWch_str (s : State) (v : WchState) : (s.withWch v).str = s.str := rfl
@[simp] theorem State.withWch_lgc (s : State) (v : WchState) : (s.withWch v).lgc = s.lgc := rfl
@[simp] theorem State.withWch_health (s : State) (v : WchState) : (s.withWch v).health = s.health := rfl
@[simp] theorem State.withWch_wch (s : State) (v : WchState) : (s.withWch v).wch = v := rfl
@[simp] theorem State.withWch_get (s : State) (v : WchState) (g : Fld) : (s.withWch v).get g = s.get g := rfl
@[simp] theorem State.withWch_bit (s : State) (v : WchState) (g : Fld) : (s.withWch v).bit g = s.bit g := rfl
@[simp] theorem State.withWch_word (s : State) (v : WchState) (i : Nat) : (s.withWch v).word i = s.word i := rfl

@[simp] theorem State.withGrd_pending (s : State) (v : GrdState) : (s.withGrd v).pending = s.pending := rfl
@[simp] theorem State.withGrd_out (s : State) (v : GrdState) : (s.withGrd v).out = s.out := rfl
@[simp] theorem State.withGrd_regs (s : State) (v : GrdState) : (s.withGrd v).regs = s.regs := rfl
@[simp] theorem State.withGrd_mask (s : State) (v : GrdState) : (s.withGrd v).mask = s.mask := rfl
@[simp] theorem State.withGrd_now (s : State) (v : GrdState) : (s.withGrd v).now = s.now := rfl
@[simp] theorem State.withGrd_fresh (s : State) (v : GrdState) : (s.withGrd v).fresh = s.fresh := rfl
@[simp] theorem State.withGrd_dev (s : State) (v : GrdState) : (s.withGrd v).dev = s.dev := rfl
@[simp] theorem State.withGrd_pwr (s : State) (v : GrdState) : (s.withGrd v).pwr = s.pwr := rfl
@[simp] theorem State.withGrd_wch (s : State) (v : GrdState) : (s.withGrd v).wch = s.wch := rfl
@[simp] theorem State.withGrd_bus (s : State) (v : GrdState) : (s.withGrd v).bus = s.bus := rfl
@[simp] theorem State.withGrd_load (s : State) (v : GrdState) : (s.withGrd v).load = s.load := rfl
@[simp] theorem State.withGrd_fab (s : State) (v : GrdState) : (s.withGrd v).fab = s.fab := rfl
@[simp] theorem State.withGrd_fix (s : State) (v : GrdState) : (s.withGrd v).fix = s.fix := rfl
@[simp] theorem State.withGrd_deep (s : State) (v : GrdState) : (s.withGrd v).deep = s.deep := rfl
@[simp] theorem State.withGrd_cph (s : State) (v : GrdState) : (s.withGrd v).cph = s.cph := rfl
@[simp] theorem State.withGrd_lnk (s : State) (v : GrdState) : (s.withGrd v).lnk = s.lnk := rfl
@[simp] theorem State.withGrd_brg (s : State) (v : GrdState) : (s.withGrd v).brg = s.brg := rfl
@[simp] theorem State.withGrd_smp (s : State) (v : GrdState) : (s.withGrd v).smp = s.smp := rfl
@[simp] theorem State.withGrd_ddc (s : State) (v : GrdState) : (s.withGrd v).ddc = s.ddc := rfl
@[simp] theorem State.withGrd_ctx (s : State) (v : GrdState) : (s.withGrd v).ctx = s.ctx := rfl
@[simp] theorem State.withGrd_scan (s : State) (v : GrdState) : (s.withGrd v).scan = s.scan := rfl
@[simp] theorem State.withGrd_lmdTx (s : State) (v : GrdState) : (s.withGrd v).lmdTx = s.lmdTx := rfl
@[simp] theorem State.withGrd_lmdRx (s : State) (v : GrdState) : (s.withGrd v).lmdRx = s.lmdRx := rfl
@[simp] theorem State.withGrd_spt (s : State) (v : GrdState) : (s.withGrd v).spt = s.spt := rfl
@[simp] theorem State.withGrd_pin (s : State) (v : GrdState) : (s.withGrd v).pin = s.pin := rfl
@[simp] theorem State.withGrd_bin (s : State) (v : GrdState) : (s.withGrd v).bin = s.bin := rfl
@[simp] theorem State.withGrd_pll (s : State) (v : GrdState) : (s.withGrd v).pll = s.pll := rfl
@[simp] theorem State.withGrd_mon (s : State) (v : GrdState) : (s.withGrd v).mon = s.mon := rfl
@[simp] theorem State.withGrd_wear (s : State) (v : GrdState) : (s.withGrd v).wear = s.wear := rfl
@[simp] theorem State.withGrd_str (s : State) (v : GrdState) : (s.withGrd v).str = s.str := rfl
@[simp] theorem State.withGrd_lgc (s : State) (v : GrdState) : (s.withGrd v).lgc = s.lgc := rfl
@[simp] theorem State.withGrd_health (s : State) (v : GrdState) : (s.withGrd v).health = s.health := rfl
@[simp] theorem State.withGrd_grd (s : State) (v : GrdState) : (s.withGrd v).grd = v := rfl
@[simp] theorem State.withGrd_get (s : State) (v : GrdState) (g : Fld) : (s.withGrd v).get g = s.get g := rfl
@[simp] theorem State.withGrd_bit (s : State) (v : GrdState) (g : Fld) : (s.withGrd v).bit g = s.bit g := rfl
@[simp] theorem State.withGrd_word (s : State) (v : GrdState) (i : Nat) : (s.withGrd v).word i = s.word i := rfl

@[simp] theorem State.withBus_pending (s : State) (v : BusState) : (s.withBus v).pending = s.pending := rfl
@[simp] theorem State.withBus_out (s : State) (v : BusState) : (s.withBus v).out = s.out := rfl
@[simp] theorem State.withBus_regs (s : State) (v : BusState) : (s.withBus v).regs = s.regs := rfl
@[simp] theorem State.withBus_mask (s : State) (v : BusState) : (s.withBus v).mask = s.mask := rfl
@[simp] theorem State.withBus_now (s : State) (v : BusState) : (s.withBus v).now = s.now := rfl
@[simp] theorem State.withBus_fresh (s : State) (v : BusState) : (s.withBus v).fresh = s.fresh := rfl
@[simp] theorem State.withBus_dev (s : State) (v : BusState) : (s.withBus v).dev = s.dev := rfl
@[simp] theorem State.withBus_pwr (s : State) (v : BusState) : (s.withBus v).pwr = s.pwr := rfl
@[simp] theorem State.withBus_wch (s : State) (v : BusState) : (s.withBus v).wch = s.wch := rfl
@[simp] theorem State.withBus_grd (s : State) (v : BusState) : (s.withBus v).grd = s.grd := rfl
@[simp] theorem State.withBus_load (s : State) (v : BusState) : (s.withBus v).load = s.load := rfl
@[simp] theorem State.withBus_fab (s : State) (v : BusState) : (s.withBus v).fab = s.fab := rfl
@[simp] theorem State.withBus_fix (s : State) (v : BusState) : (s.withBus v).fix = s.fix := rfl
@[simp] theorem State.withBus_deep (s : State) (v : BusState) : (s.withBus v).deep = s.deep := rfl
@[simp] theorem State.withBus_cph (s : State) (v : BusState) : (s.withBus v).cph = s.cph := rfl
@[simp] theorem State.withBus_lnk (s : State) (v : BusState) : (s.withBus v).lnk = s.lnk := rfl
@[simp] theorem State.withBus_brg (s : State) (v : BusState) : (s.withBus v).brg = s.brg := rfl
@[simp] theorem State.withBus_smp (s : State) (v : BusState) : (s.withBus v).smp = s.smp := rfl
@[simp] theorem State.withBus_ddc (s : State) (v : BusState) : (s.withBus v).ddc = s.ddc := rfl
@[simp] theorem State.withBus_ctx (s : State) (v : BusState) : (s.withBus v).ctx = s.ctx := rfl
@[simp] theorem State.withBus_scan (s : State) (v : BusState) : (s.withBus v).scan = s.scan := rfl
@[simp] theorem State.withBus_lmdTx (s : State) (v : BusState) : (s.withBus v).lmdTx = s.lmdTx := rfl
@[simp] theorem State.withBus_lmdRx (s : State) (v : BusState) : (s.withBus v).lmdRx = s.lmdRx := rfl
@[simp] theorem State.withBus_spt (s : State) (v : BusState) : (s.withBus v).spt = s.spt := rfl
@[simp] theorem State.withBus_pin (s : State) (v : BusState) : (s.withBus v).pin = s.pin := rfl
@[simp] theorem State.withBus_bin (s : State) (v : BusState) : (s.withBus v).bin = s.bin := rfl
@[simp] theorem State.withBus_pll (s : State) (v : BusState) : (s.withBus v).pll = s.pll := rfl
@[simp] theorem State.withBus_mon (s : State) (v : BusState) : (s.withBus v).mon = s.mon := rfl
@[simp] theorem State.withBus_wear (s : State) (v : BusState) : (s.withBus v).wear = s.wear := rfl
@[simp] theorem State.withBus_str (s : State) (v : BusState) : (s.withBus v).str = s.str := rfl
@[simp] theorem State.withBus_lgc (s : State) (v : BusState) : (s.withBus v).lgc = s.lgc := rfl
@[simp] theorem State.withBus_health (s : State) (v : BusState) : (s.withBus v).health = s.health := rfl
@[simp] theorem State.withBus_bus (s : State) (v : BusState) : (s.withBus v).bus = v := rfl
@[simp] theorem State.withBus_get (s : State) (v : BusState) (g : Fld) : (s.withBus v).get g = s.get g := rfl
@[simp] theorem State.withBus_bit (s : State) (v : BusState) (g : Fld) : (s.withBus v).bit g = s.bit g := rfl
@[simp] theorem State.withBus_word (s : State) (v : BusState) (i : Nat) : (s.withBus v).word i = s.word i := rfl

@[simp] theorem State.withLoad_pending (s : State) (v : LoadState) : (s.withLoad v).pending = s.pending := rfl
@[simp] theorem State.withLoad_out (s : State) (v : LoadState) : (s.withLoad v).out = s.out := rfl
@[simp] theorem State.withLoad_regs (s : State) (v : LoadState) : (s.withLoad v).regs = s.regs := rfl
@[simp] theorem State.withLoad_mask (s : State) (v : LoadState) : (s.withLoad v).mask = s.mask := rfl
@[simp] theorem State.withLoad_now (s : State) (v : LoadState) : (s.withLoad v).now = s.now := rfl
@[simp] theorem State.withLoad_fresh (s : State) (v : LoadState) : (s.withLoad v).fresh = s.fresh := rfl
@[simp] theorem State.withLoad_dev (s : State) (v : LoadState) : (s.withLoad v).dev = s.dev := rfl
@[simp] theorem State.withLoad_pwr (s : State) (v : LoadState) : (s.withLoad v).pwr = s.pwr := rfl
@[simp] theorem State.withLoad_wch (s : State) (v : LoadState) : (s.withLoad v).wch = s.wch := rfl
@[simp] theorem State.withLoad_grd (s : State) (v : LoadState) : (s.withLoad v).grd = s.grd := rfl
@[simp] theorem State.withLoad_bus (s : State) (v : LoadState) : (s.withLoad v).bus = s.bus := rfl
@[simp] theorem State.withLoad_fab (s : State) (v : LoadState) : (s.withLoad v).fab = s.fab := rfl
@[simp] theorem State.withLoad_fix (s : State) (v : LoadState) : (s.withLoad v).fix = s.fix := rfl
@[simp] theorem State.withLoad_deep (s : State) (v : LoadState) : (s.withLoad v).deep = s.deep := rfl
@[simp] theorem State.withLoad_cph (s : State) (v : LoadState) : (s.withLoad v).cph = s.cph := rfl
@[simp] theorem State.withLoad_lnk (s : State) (v : LoadState) : (s.withLoad v).lnk = s.lnk := rfl
@[simp] theorem State.withLoad_brg (s : State) (v : LoadState) : (s.withLoad v).brg = s.brg := rfl
@[simp] theorem State.withLoad_smp (s : State) (v : LoadState) : (s.withLoad v).smp = s.smp := rfl
@[simp] theorem State.withLoad_ddc (s : State) (v : LoadState) : (s.withLoad v).ddc = s.ddc := rfl
@[simp] theorem State.withLoad_ctx (s : State) (v : LoadState) : (s.withLoad v).ctx = s.ctx := rfl
@[simp] theorem State.withLoad_scan (s : State) (v : LoadState) : (s.withLoad v).scan = s.scan := rfl
@[simp] theorem State.withLoad_lmdTx (s : State) (v : LoadState) : (s.withLoad v).lmdTx = s.lmdTx := rfl
@[simp] theorem State.withLoad_lmdRx (s : State) (v : LoadState) : (s.withLoad v).lmdRx = s.lmdRx := rfl
@[simp] theorem State.withLoad_spt (s : State) (v : LoadState) : (s.withLoad v).spt = s.spt := rfl
@[simp] theorem State.withLoad_pin (s : State) (v : LoadState) : (s.withLoad v).pin = s.pin := rfl
@[simp] theorem State.withLoad_bin (s : State) (v : LoadState) : (s.withLoad v).bin = s.bin := rfl
@[simp] theorem State.withLoad_pll (s : State) (v : LoadState) : (s.withLoad v).pll = s.pll := rfl
@[simp] theorem State.withLoad_mon (s : State) (v : LoadState) : (s.withLoad v).mon = s.mon := rfl
@[simp] theorem State.withLoad_wear (s : State) (v : LoadState) : (s.withLoad v).wear = s.wear := rfl
@[simp] theorem State.withLoad_str (s : State) (v : LoadState) : (s.withLoad v).str = s.str := rfl
@[simp] theorem State.withLoad_lgc (s : State) (v : LoadState) : (s.withLoad v).lgc = s.lgc := rfl
@[simp] theorem State.withLoad_health (s : State) (v : LoadState) : (s.withLoad v).health = s.health := rfl
@[simp] theorem State.withLoad_load (s : State) (v : LoadState) : (s.withLoad v).load = v := rfl
@[simp] theorem State.withLoad_get (s : State) (v : LoadState) (g : Fld) : (s.withLoad v).get g = s.get g := rfl
@[simp] theorem State.withLoad_bit (s : State) (v : LoadState) (g : Fld) : (s.withLoad v).bit g = s.bit g := rfl
@[simp] theorem State.withLoad_word (s : State) (v : LoadState) (i : Nat) : (s.withLoad v).word i = s.word i := rfl

@[simp] theorem State.withFab_pending (s : State) (v : FabState) : (s.withFab v).pending = s.pending := rfl
@[simp] theorem State.withFab_out (s : State) (v : FabState) : (s.withFab v).out = s.out := rfl
@[simp] theorem State.withFab_regs (s : State) (v : FabState) : (s.withFab v).regs = s.regs := rfl
@[simp] theorem State.withFab_mask (s : State) (v : FabState) : (s.withFab v).mask = s.mask := rfl
@[simp] theorem State.withFab_now (s : State) (v : FabState) : (s.withFab v).now = s.now := rfl
@[simp] theorem State.withFab_fresh (s : State) (v : FabState) : (s.withFab v).fresh = s.fresh := rfl
@[simp] theorem State.withFab_dev (s : State) (v : FabState) : (s.withFab v).dev = s.dev := rfl
@[simp] theorem State.withFab_pwr (s : State) (v : FabState) : (s.withFab v).pwr = s.pwr := rfl
@[simp] theorem State.withFab_wch (s : State) (v : FabState) : (s.withFab v).wch = s.wch := rfl
@[simp] theorem State.withFab_grd (s : State) (v : FabState) : (s.withFab v).grd = s.grd := rfl
@[simp] theorem State.withFab_bus (s : State) (v : FabState) : (s.withFab v).bus = s.bus := rfl
@[simp] theorem State.withFab_load (s : State) (v : FabState) : (s.withFab v).load = s.load := rfl
@[simp] theorem State.withFab_fix (s : State) (v : FabState) : (s.withFab v).fix = s.fix := rfl
@[simp] theorem State.withFab_deep (s : State) (v : FabState) : (s.withFab v).deep = s.deep := rfl
@[simp] theorem State.withFab_cph (s : State) (v : FabState) : (s.withFab v).cph = s.cph := rfl
@[simp] theorem State.withFab_lnk (s : State) (v : FabState) : (s.withFab v).lnk = s.lnk := rfl
@[simp] theorem State.withFab_brg (s : State) (v : FabState) : (s.withFab v).brg = s.brg := rfl
@[simp] theorem State.withFab_smp (s : State) (v : FabState) : (s.withFab v).smp = s.smp := rfl
@[simp] theorem State.withFab_ddc (s : State) (v : FabState) : (s.withFab v).ddc = s.ddc := rfl
@[simp] theorem State.withFab_ctx (s : State) (v : FabState) : (s.withFab v).ctx = s.ctx := rfl
@[simp] theorem State.withFab_scan (s : State) (v : FabState) : (s.withFab v).scan = s.scan := rfl
@[simp] theorem State.withFab_lmdTx (s : State) (v : FabState) : (s.withFab v).lmdTx = s.lmdTx := rfl
@[simp] theorem State.withFab_lmdRx (s : State) (v : FabState) : (s.withFab v).lmdRx = s.lmdRx := rfl
@[simp] theorem State.withFab_spt (s : State) (v : FabState) : (s.withFab v).spt = s.spt := rfl
@[simp] theorem State.withFab_pin (s : State) (v : FabState) : (s.withFab v).pin = s.pin := rfl
@[simp] theorem State.withFab_bin (s : State) (v : FabState) : (s.withFab v).bin = s.bin := rfl
@[simp] theorem State.withFab_pll (s : State) (v : FabState) : (s.withFab v).pll = s.pll := rfl
@[simp] theorem State.withFab_mon (s : State) (v : FabState) : (s.withFab v).mon = s.mon := rfl
@[simp] theorem State.withFab_wear (s : State) (v : FabState) : (s.withFab v).wear = s.wear := rfl
@[simp] theorem State.withFab_str (s : State) (v : FabState) : (s.withFab v).str = s.str := rfl
@[simp] theorem State.withFab_lgc (s : State) (v : FabState) : (s.withFab v).lgc = s.lgc := rfl
@[simp] theorem State.withFab_health (s : State) (v : FabState) : (s.withFab v).health = s.health := rfl
@[simp] theorem State.withFab_fab (s : State) (v : FabState) : (s.withFab v).fab = v := rfl
@[simp] theorem State.withFab_get (s : State) (v : FabState) (g : Fld) : (s.withFab v).get g = s.get g := rfl
@[simp] theorem State.withFab_bit (s : State) (v : FabState) (g : Fld) : (s.withFab v).bit g = s.bit g := rfl
@[simp] theorem State.withFab_word (s : State) (v : FabState) (i : Nat) : (s.withFab v).word i = s.word i := rfl

@[simp] theorem State.withFix_pending (s : State) (v : FixState) : (s.withFix v).pending = s.pending := rfl
@[simp] theorem State.withFix_out (s : State) (v : FixState) : (s.withFix v).out = s.out := rfl
@[simp] theorem State.withFix_regs (s : State) (v : FixState) : (s.withFix v).regs = s.regs := rfl
@[simp] theorem State.withFix_mask (s : State) (v : FixState) : (s.withFix v).mask = s.mask := rfl
@[simp] theorem State.withFix_now (s : State) (v : FixState) : (s.withFix v).now = s.now := rfl
@[simp] theorem State.withFix_fresh (s : State) (v : FixState) : (s.withFix v).fresh = s.fresh := rfl
@[simp] theorem State.withFix_dev (s : State) (v : FixState) : (s.withFix v).dev = s.dev := rfl
@[simp] theorem State.withFix_pwr (s : State) (v : FixState) : (s.withFix v).pwr = s.pwr := rfl
@[simp] theorem State.withFix_wch (s : State) (v : FixState) : (s.withFix v).wch = s.wch := rfl
@[simp] theorem State.withFix_grd (s : State) (v : FixState) : (s.withFix v).grd = s.grd := rfl
@[simp] theorem State.withFix_bus (s : State) (v : FixState) : (s.withFix v).bus = s.bus := rfl
@[simp] theorem State.withFix_load (s : State) (v : FixState) : (s.withFix v).load = s.load := rfl
@[simp] theorem State.withFix_fab (s : State) (v : FixState) : (s.withFix v).fab = s.fab := rfl
@[simp] theorem State.withFix_deep (s : State) (v : FixState) : (s.withFix v).deep = s.deep := rfl
@[simp] theorem State.withFix_cph (s : State) (v : FixState) : (s.withFix v).cph = s.cph := rfl
@[simp] theorem State.withFix_lnk (s : State) (v : FixState) : (s.withFix v).lnk = s.lnk := rfl
@[simp] theorem State.withFix_brg (s : State) (v : FixState) : (s.withFix v).brg = s.brg := rfl
@[simp] theorem State.withFix_smp (s : State) (v : FixState) : (s.withFix v).smp = s.smp := rfl
@[simp] theorem State.withFix_ddc (s : State) (v : FixState) : (s.withFix v).ddc = s.ddc := rfl
@[simp] theorem State.withFix_ctx (s : State) (v : FixState) : (s.withFix v).ctx = s.ctx := rfl
@[simp] theorem State.withFix_scan (s : State) (v : FixState) : (s.withFix v).scan = s.scan := rfl
@[simp] theorem State.withFix_lmdTx (s : State) (v : FixState) : (s.withFix v).lmdTx = s.lmdTx := rfl
@[simp] theorem State.withFix_lmdRx (s : State) (v : FixState) : (s.withFix v).lmdRx = s.lmdRx := rfl
@[simp] theorem State.withFix_spt (s : State) (v : FixState) : (s.withFix v).spt = s.spt := rfl
@[simp] theorem State.withFix_pin (s : State) (v : FixState) : (s.withFix v).pin = s.pin := rfl
@[simp] theorem State.withFix_bin (s : State) (v : FixState) : (s.withFix v).bin = s.bin := rfl
@[simp] theorem State.withFix_pll (s : State) (v : FixState) : (s.withFix v).pll = s.pll := rfl
@[simp] theorem State.withFix_mon (s : State) (v : FixState) : (s.withFix v).mon = s.mon := rfl
@[simp] theorem State.withFix_wear (s : State) (v : FixState) : (s.withFix v).wear = s.wear := rfl
@[simp] theorem State.withFix_str (s : State) (v : FixState) : (s.withFix v).str = s.str := rfl
@[simp] theorem State.withFix_lgc (s : State) (v : FixState) : (s.withFix v).lgc = s.lgc := rfl
@[simp] theorem State.withFix_health (s : State) (v : FixState) : (s.withFix v).health = s.health := rfl
@[simp] theorem State.withFix_fix (s : State) (v : FixState) : (s.withFix v).fix = v := rfl
@[simp] theorem State.withFix_get (s : State) (v : FixState) (g : Fld) : (s.withFix v).get g = s.get g := rfl
@[simp] theorem State.withFix_bit (s : State) (v : FixState) (g : Fld) : (s.withFix v).bit g = s.bit g := rfl
@[simp] theorem State.withFix_word (s : State) (v : FixState) (i : Nat) : (s.withFix v).word i = s.word i := rfl

@[simp] theorem State.withDeep_pending (s : State) (v : List Host.Cell) : (s.withDeep v).pending = s.pending := rfl
@[simp] theorem State.withDeep_out (s : State) (v : List Host.Cell) : (s.withDeep v).out = s.out := rfl
@[simp] theorem State.withDeep_regs (s : State) (v : List Host.Cell) : (s.withDeep v).regs = s.regs := rfl
@[simp] theorem State.withDeep_mask (s : State) (v : List Host.Cell) : (s.withDeep v).mask = s.mask := rfl
@[simp] theorem State.withDeep_now (s : State) (v : List Host.Cell) : (s.withDeep v).now = s.now := rfl
@[simp] theorem State.withDeep_fresh (s : State) (v : List Host.Cell) : (s.withDeep v).fresh = s.fresh := rfl
@[simp] theorem State.withDeep_dev (s : State) (v : List Host.Cell) : (s.withDeep v).dev = s.dev := rfl
@[simp] theorem State.withDeep_pwr (s : State) (v : List Host.Cell) : (s.withDeep v).pwr = s.pwr := rfl
@[simp] theorem State.withDeep_wch (s : State) (v : List Host.Cell) : (s.withDeep v).wch = s.wch := rfl
@[simp] theorem State.withDeep_grd (s : State) (v : List Host.Cell) : (s.withDeep v).grd = s.grd := rfl
@[simp] theorem State.withDeep_bus (s : State) (v : List Host.Cell) : (s.withDeep v).bus = s.bus := rfl
@[simp] theorem State.withDeep_load (s : State) (v : List Host.Cell) : (s.withDeep v).load = s.load := rfl
@[simp] theorem State.withDeep_fab (s : State) (v : List Host.Cell) : (s.withDeep v).fab = s.fab := rfl
@[simp] theorem State.withDeep_fix (s : State) (v : List Host.Cell) : (s.withDeep v).fix = s.fix := rfl
@[simp] theorem State.withDeep_cph (s : State) (v : List Host.Cell) : (s.withDeep v).cph = s.cph := rfl
@[simp] theorem State.withDeep_lnk (s : State) (v : List Host.Cell) : (s.withDeep v).lnk = s.lnk := rfl
@[simp] theorem State.withDeep_brg (s : State) (v : List Host.Cell) : (s.withDeep v).brg = s.brg := rfl
@[simp] theorem State.withDeep_smp (s : State) (v : List Host.Cell) : (s.withDeep v).smp = s.smp := rfl
@[simp] theorem State.withDeep_ddc (s : State) (v : List Host.Cell) : (s.withDeep v).ddc = s.ddc := rfl
@[simp] theorem State.withDeep_ctx (s : State) (v : List Host.Cell) : (s.withDeep v).ctx = s.ctx := rfl
@[simp] theorem State.withDeep_scan (s : State) (v : List Host.Cell) : (s.withDeep v).scan = s.scan := rfl
@[simp] theorem State.withDeep_lmdTx (s : State) (v : List Host.Cell) : (s.withDeep v).lmdTx = s.lmdTx := rfl
@[simp] theorem State.withDeep_lmdRx (s : State) (v : List Host.Cell) : (s.withDeep v).lmdRx = s.lmdRx := rfl
@[simp] theorem State.withDeep_spt (s : State) (v : List Host.Cell) : (s.withDeep v).spt = s.spt := rfl
@[simp] theorem State.withDeep_pin (s : State) (v : List Host.Cell) : (s.withDeep v).pin = s.pin := rfl
@[simp] theorem State.withDeep_bin (s : State) (v : List Host.Cell) : (s.withDeep v).bin = s.bin := rfl
@[simp] theorem State.withDeep_pll (s : State) (v : List Host.Cell) : (s.withDeep v).pll = s.pll := rfl
@[simp] theorem State.withDeep_mon (s : State) (v : List Host.Cell) : (s.withDeep v).mon = s.mon := rfl
@[simp] theorem State.withDeep_wear (s : State) (v : List Host.Cell) : (s.withDeep v).wear = s.wear := rfl
@[simp] theorem State.withDeep_str (s : State) (v : List Host.Cell) : (s.withDeep v).str = s.str := rfl
@[simp] theorem State.withDeep_lgc (s : State) (v : List Host.Cell) : (s.withDeep v).lgc = s.lgc := rfl
@[simp] theorem State.withDeep_health (s : State) (v : List Host.Cell) : (s.withDeep v).health = s.health := rfl
@[simp] theorem State.withDeep_deep (s : State) (v : List Host.Cell) : (s.withDeep v).deep = v := rfl
@[simp] theorem State.withDeep_get (s : State) (v : List Host.Cell) (g : Fld) : (s.withDeep v).get g = s.get g := rfl
@[simp] theorem State.withDeep_bit (s : State) (v : List Host.Cell) (g : Fld) : (s.withDeep v).bit g = s.bit g := rfl
@[simp] theorem State.withDeep_word (s : State) (v : List Host.Cell) (i : Nat) : (s.withDeep v).word i = s.word i := rfl

@[simp] theorem State.withCph_pending (s : State) (v : CphState) : (s.withCph v).pending = s.pending := rfl
@[simp] theorem State.withCph_out (s : State) (v : CphState) : (s.withCph v).out = s.out := rfl
@[simp] theorem State.withCph_regs (s : State) (v : CphState) : (s.withCph v).regs = s.regs := rfl
@[simp] theorem State.withCph_mask (s : State) (v : CphState) : (s.withCph v).mask = s.mask := rfl
@[simp] theorem State.withCph_now (s : State) (v : CphState) : (s.withCph v).now = s.now := rfl
@[simp] theorem State.withCph_fresh (s : State) (v : CphState) : (s.withCph v).fresh = s.fresh := rfl
@[simp] theorem State.withCph_dev (s : State) (v : CphState) : (s.withCph v).dev = s.dev := rfl
@[simp] theorem State.withCph_pwr (s : State) (v : CphState) : (s.withCph v).pwr = s.pwr := rfl
@[simp] theorem State.withCph_wch (s : State) (v : CphState) : (s.withCph v).wch = s.wch := rfl
@[simp] theorem State.withCph_grd (s : State) (v : CphState) : (s.withCph v).grd = s.grd := rfl
@[simp] theorem State.withCph_bus (s : State) (v : CphState) : (s.withCph v).bus = s.bus := rfl
@[simp] theorem State.withCph_load (s : State) (v : CphState) : (s.withCph v).load = s.load := rfl
@[simp] theorem State.withCph_fab (s : State) (v : CphState) : (s.withCph v).fab = s.fab := rfl
@[simp] theorem State.withCph_fix (s : State) (v : CphState) : (s.withCph v).fix = s.fix := rfl
@[simp] theorem State.withCph_deep (s : State) (v : CphState) : (s.withCph v).deep = s.deep := rfl
@[simp] theorem State.withCph_lnk (s : State) (v : CphState) : (s.withCph v).lnk = s.lnk := rfl
@[simp] theorem State.withCph_brg (s : State) (v : CphState) : (s.withCph v).brg = s.brg := rfl
@[simp] theorem State.withCph_smp (s : State) (v : CphState) : (s.withCph v).smp = s.smp := rfl
@[simp] theorem State.withCph_ddc (s : State) (v : CphState) : (s.withCph v).ddc = s.ddc := rfl
@[simp] theorem State.withCph_ctx (s : State) (v : CphState) : (s.withCph v).ctx = s.ctx := rfl
@[simp] theorem State.withCph_scan (s : State) (v : CphState) : (s.withCph v).scan = s.scan := rfl
@[simp] theorem State.withCph_lmdTx (s : State) (v : CphState) : (s.withCph v).lmdTx = s.lmdTx := rfl
@[simp] theorem State.withCph_lmdRx (s : State) (v : CphState) : (s.withCph v).lmdRx = s.lmdRx := rfl
@[simp] theorem State.withCph_spt (s : State) (v : CphState) : (s.withCph v).spt = s.spt := rfl
@[simp] theorem State.withCph_pin (s : State) (v : CphState) : (s.withCph v).pin = s.pin := rfl
@[simp] theorem State.withCph_bin (s : State) (v : CphState) : (s.withCph v).bin = s.bin := rfl
@[simp] theorem State.withCph_pll (s : State) (v : CphState) : (s.withCph v).pll = s.pll := rfl
@[simp] theorem State.withCph_mon (s : State) (v : CphState) : (s.withCph v).mon = s.mon := rfl
@[simp] theorem State.withCph_wear (s : State) (v : CphState) : (s.withCph v).wear = s.wear := rfl
@[simp] theorem State.withCph_str (s : State) (v : CphState) : (s.withCph v).str = s.str := rfl
@[simp] theorem State.withCph_lgc (s : State) (v : CphState) : (s.withCph v).lgc = s.lgc := rfl
@[simp] theorem State.withCph_health (s : State) (v : CphState) : (s.withCph v).health = s.health := rfl
@[simp] theorem State.withCph_cph (s : State) (v : CphState) : (s.withCph v).cph = v := rfl
@[simp] theorem State.withCph_get (s : State) (v : CphState) (g : Fld) : (s.withCph v).get g = s.get g := rfl
@[simp] theorem State.withCph_bit (s : State) (v : CphState) (g : Fld) : (s.withCph v).bit g = s.bit g := rfl
@[simp] theorem State.withCph_word (s : State) (v : CphState) (i : Nat) : (s.withCph v).word i = s.word i := rfl

@[simp] theorem State.withLnk_pending (s : State) (v : Vector LnkLane 24) : (s.withLnk v).pending = s.pending := rfl
@[simp] theorem State.withLnk_out (s : State) (v : Vector LnkLane 24) : (s.withLnk v).out = s.out := rfl
@[simp] theorem State.withLnk_regs (s : State) (v : Vector LnkLane 24) : (s.withLnk v).regs = s.regs := rfl
@[simp] theorem State.withLnk_mask (s : State) (v : Vector LnkLane 24) : (s.withLnk v).mask = s.mask := rfl
@[simp] theorem State.withLnk_now (s : State) (v : Vector LnkLane 24) : (s.withLnk v).now = s.now := rfl
@[simp] theorem State.withLnk_fresh (s : State) (v : Vector LnkLane 24) : (s.withLnk v).fresh = s.fresh := rfl
@[simp] theorem State.withLnk_dev (s : State) (v : Vector LnkLane 24) : (s.withLnk v).dev = s.dev := rfl
@[simp] theorem State.withLnk_pwr (s : State) (v : Vector LnkLane 24) : (s.withLnk v).pwr = s.pwr := rfl
@[simp] theorem State.withLnk_wch (s : State) (v : Vector LnkLane 24) : (s.withLnk v).wch = s.wch := rfl
@[simp] theorem State.withLnk_grd (s : State) (v : Vector LnkLane 24) : (s.withLnk v).grd = s.grd := rfl
@[simp] theorem State.withLnk_bus (s : State) (v : Vector LnkLane 24) : (s.withLnk v).bus = s.bus := rfl
@[simp] theorem State.withLnk_load (s : State) (v : Vector LnkLane 24) : (s.withLnk v).load = s.load := rfl
@[simp] theorem State.withLnk_fab (s : State) (v : Vector LnkLane 24) : (s.withLnk v).fab = s.fab := rfl
@[simp] theorem State.withLnk_fix (s : State) (v : Vector LnkLane 24) : (s.withLnk v).fix = s.fix := rfl
@[simp] theorem State.withLnk_deep (s : State) (v : Vector LnkLane 24) : (s.withLnk v).deep = s.deep := rfl
@[simp] theorem State.withLnk_cph (s : State) (v : Vector LnkLane 24) : (s.withLnk v).cph = s.cph := rfl
@[simp] theorem State.withLnk_brg (s : State) (v : Vector LnkLane 24) : (s.withLnk v).brg = s.brg := rfl
@[simp] theorem State.withLnk_smp (s : State) (v : Vector LnkLane 24) : (s.withLnk v).smp = s.smp := rfl
@[simp] theorem State.withLnk_ddc (s : State) (v : Vector LnkLane 24) : (s.withLnk v).ddc = s.ddc := rfl
@[simp] theorem State.withLnk_ctx (s : State) (v : Vector LnkLane 24) : (s.withLnk v).ctx = s.ctx := rfl
@[simp] theorem State.withLnk_scan (s : State) (v : Vector LnkLane 24) : (s.withLnk v).scan = s.scan := rfl
@[simp] theorem State.withLnk_lmdTx (s : State) (v : Vector LnkLane 24) : (s.withLnk v).lmdTx = s.lmdTx := rfl
@[simp] theorem State.withLnk_lmdRx (s : State) (v : Vector LnkLane 24) : (s.withLnk v).lmdRx = s.lmdRx := rfl
@[simp] theorem State.withLnk_spt (s : State) (v : Vector LnkLane 24) : (s.withLnk v).spt = s.spt := rfl
@[simp] theorem State.withLnk_pin (s : State) (v : Vector LnkLane 24) : (s.withLnk v).pin = s.pin := rfl
@[simp] theorem State.withLnk_bin (s : State) (v : Vector LnkLane 24) : (s.withLnk v).bin = s.bin := rfl
@[simp] theorem State.withLnk_pll (s : State) (v : Vector LnkLane 24) : (s.withLnk v).pll = s.pll := rfl
@[simp] theorem State.withLnk_mon (s : State) (v : Vector LnkLane 24) : (s.withLnk v).mon = s.mon := rfl
@[simp] theorem State.withLnk_wear (s : State) (v : Vector LnkLane 24) : (s.withLnk v).wear = s.wear := rfl
@[simp] theorem State.withLnk_str (s : State) (v : Vector LnkLane 24) : (s.withLnk v).str = s.str := rfl
@[simp] theorem State.withLnk_lgc (s : State) (v : Vector LnkLane 24) : (s.withLnk v).lgc = s.lgc := rfl
@[simp] theorem State.withLnk_health (s : State) (v : Vector LnkLane 24) : (s.withLnk v).health = s.health := rfl
@[simp] theorem State.withLnk_lnk (s : State) (v : Vector LnkLane 24) : (s.withLnk v).lnk = v := rfl
@[simp] theorem State.withLnk_get (s : State) (v : Vector LnkLane 24) (g : Fld) : (s.withLnk v).get g = s.get g := rfl
@[simp] theorem State.withLnk_bit (s : State) (v : Vector LnkLane 24) (g : Fld) : (s.withLnk v).bit g = s.bit g := rfl
@[simp] theorem State.withLnk_word (s : State) (v : Vector LnkLane 24) (i : Nat) : (s.withLnk v).word i = s.word i := rfl

@[simp] theorem State.withBrg_pending (s : State) (v : BrgState) : (s.withBrg v).pending = s.pending := rfl
@[simp] theorem State.withBrg_out (s : State) (v : BrgState) : (s.withBrg v).out = s.out := rfl
@[simp] theorem State.withBrg_regs (s : State) (v : BrgState) : (s.withBrg v).regs = s.regs := rfl
@[simp] theorem State.withBrg_mask (s : State) (v : BrgState) : (s.withBrg v).mask = s.mask := rfl
@[simp] theorem State.withBrg_now (s : State) (v : BrgState) : (s.withBrg v).now = s.now := rfl
@[simp] theorem State.withBrg_fresh (s : State) (v : BrgState) : (s.withBrg v).fresh = s.fresh := rfl
@[simp] theorem State.withBrg_dev (s : State) (v : BrgState) : (s.withBrg v).dev = s.dev := rfl
@[simp] theorem State.withBrg_pwr (s : State) (v : BrgState) : (s.withBrg v).pwr = s.pwr := rfl
@[simp] theorem State.withBrg_wch (s : State) (v : BrgState) : (s.withBrg v).wch = s.wch := rfl
@[simp] theorem State.withBrg_grd (s : State) (v : BrgState) : (s.withBrg v).grd = s.grd := rfl
@[simp] theorem State.withBrg_bus (s : State) (v : BrgState) : (s.withBrg v).bus = s.bus := rfl
@[simp] theorem State.withBrg_load (s : State) (v : BrgState) : (s.withBrg v).load = s.load := rfl
@[simp] theorem State.withBrg_fab (s : State) (v : BrgState) : (s.withBrg v).fab = s.fab := rfl
@[simp] theorem State.withBrg_fix (s : State) (v : BrgState) : (s.withBrg v).fix = s.fix := rfl
@[simp] theorem State.withBrg_deep (s : State) (v : BrgState) : (s.withBrg v).deep = s.deep := rfl
@[simp] theorem State.withBrg_cph (s : State) (v : BrgState) : (s.withBrg v).cph = s.cph := rfl
@[simp] theorem State.withBrg_lnk (s : State) (v : BrgState) : (s.withBrg v).lnk = s.lnk := rfl
@[simp] theorem State.withBrg_smp (s : State) (v : BrgState) : (s.withBrg v).smp = s.smp := rfl
@[simp] theorem State.withBrg_ddc (s : State) (v : BrgState) : (s.withBrg v).ddc = s.ddc := rfl
@[simp] theorem State.withBrg_ctx (s : State) (v : BrgState) : (s.withBrg v).ctx = s.ctx := rfl
@[simp] theorem State.withBrg_scan (s : State) (v : BrgState) : (s.withBrg v).scan = s.scan := rfl
@[simp] theorem State.withBrg_lmdTx (s : State) (v : BrgState) : (s.withBrg v).lmdTx = s.lmdTx := rfl
@[simp] theorem State.withBrg_lmdRx (s : State) (v : BrgState) : (s.withBrg v).lmdRx = s.lmdRx := rfl
@[simp] theorem State.withBrg_spt (s : State) (v : BrgState) : (s.withBrg v).spt = s.spt := rfl
@[simp] theorem State.withBrg_pin (s : State) (v : BrgState) : (s.withBrg v).pin = s.pin := rfl
@[simp] theorem State.withBrg_bin (s : State) (v : BrgState) : (s.withBrg v).bin = s.bin := rfl
@[simp] theorem State.withBrg_pll (s : State) (v : BrgState) : (s.withBrg v).pll = s.pll := rfl
@[simp] theorem State.withBrg_mon (s : State) (v : BrgState) : (s.withBrg v).mon = s.mon := rfl
@[simp] theorem State.withBrg_wear (s : State) (v : BrgState) : (s.withBrg v).wear = s.wear := rfl
@[simp] theorem State.withBrg_str (s : State) (v : BrgState) : (s.withBrg v).str = s.str := rfl
@[simp] theorem State.withBrg_lgc (s : State) (v : BrgState) : (s.withBrg v).lgc = s.lgc := rfl
@[simp] theorem State.withBrg_health (s : State) (v : BrgState) : (s.withBrg v).health = s.health := rfl
@[simp] theorem State.withBrg_brg (s : State) (v : BrgState) : (s.withBrg v).brg = v := rfl
@[simp] theorem State.withBrg_get (s : State) (v : BrgState) (g : Fld) : (s.withBrg v).get g = s.get g := rfl
@[simp] theorem State.withBrg_bit (s : State) (v : BrgState) (g : Fld) : (s.withBrg v).bit g = s.bit g := rfl
@[simp] theorem State.withBrg_word (s : State) (v : BrgState) (i : Nat) : (s.withBrg v).word i = s.word i := rfl

@[simp] theorem State.withSmp_pending (s : State) (v : SmpState) : (s.withSmp v).pending = s.pending := rfl
@[simp] theorem State.withSmp_out (s : State) (v : SmpState) : (s.withSmp v).out = s.out := rfl
@[simp] theorem State.withSmp_regs (s : State) (v : SmpState) : (s.withSmp v).regs = s.regs := rfl
@[simp] theorem State.withSmp_mask (s : State) (v : SmpState) : (s.withSmp v).mask = s.mask := rfl
@[simp] theorem State.withSmp_now (s : State) (v : SmpState) : (s.withSmp v).now = s.now := rfl
@[simp] theorem State.withSmp_fresh (s : State) (v : SmpState) : (s.withSmp v).fresh = s.fresh := rfl
@[simp] theorem State.withSmp_dev (s : State) (v : SmpState) : (s.withSmp v).dev = s.dev := rfl
@[simp] theorem State.withSmp_pwr (s : State) (v : SmpState) : (s.withSmp v).pwr = s.pwr := rfl
@[simp] theorem State.withSmp_wch (s : State) (v : SmpState) : (s.withSmp v).wch = s.wch := rfl
@[simp] theorem State.withSmp_grd (s : State) (v : SmpState) : (s.withSmp v).grd = s.grd := rfl
@[simp] theorem State.withSmp_bus (s : State) (v : SmpState) : (s.withSmp v).bus = s.bus := rfl
@[simp] theorem State.withSmp_load (s : State) (v : SmpState) : (s.withSmp v).load = s.load := rfl
@[simp] theorem State.withSmp_fab (s : State) (v : SmpState) : (s.withSmp v).fab = s.fab := rfl
@[simp] theorem State.withSmp_fix (s : State) (v : SmpState) : (s.withSmp v).fix = s.fix := rfl
@[simp] theorem State.withSmp_deep (s : State) (v : SmpState) : (s.withSmp v).deep = s.deep := rfl
@[simp] theorem State.withSmp_cph (s : State) (v : SmpState) : (s.withSmp v).cph = s.cph := rfl
@[simp] theorem State.withSmp_lnk (s : State) (v : SmpState) : (s.withSmp v).lnk = s.lnk := rfl
@[simp] theorem State.withSmp_brg (s : State) (v : SmpState) : (s.withSmp v).brg = s.brg := rfl
@[simp] theorem State.withSmp_ddc (s : State) (v : SmpState) : (s.withSmp v).ddc = s.ddc := rfl
@[simp] theorem State.withSmp_ctx (s : State) (v : SmpState) : (s.withSmp v).ctx = s.ctx := rfl
@[simp] theorem State.withSmp_scan (s : State) (v : SmpState) : (s.withSmp v).scan = s.scan := rfl
@[simp] theorem State.withSmp_lmdTx (s : State) (v : SmpState) : (s.withSmp v).lmdTx = s.lmdTx := rfl
@[simp] theorem State.withSmp_lmdRx (s : State) (v : SmpState) : (s.withSmp v).lmdRx = s.lmdRx := rfl
@[simp] theorem State.withSmp_spt (s : State) (v : SmpState) : (s.withSmp v).spt = s.spt := rfl
@[simp] theorem State.withSmp_pin (s : State) (v : SmpState) : (s.withSmp v).pin = s.pin := rfl
@[simp] theorem State.withSmp_bin (s : State) (v : SmpState) : (s.withSmp v).bin = s.bin := rfl
@[simp] theorem State.withSmp_pll (s : State) (v : SmpState) : (s.withSmp v).pll = s.pll := rfl
@[simp] theorem State.withSmp_mon (s : State) (v : SmpState) : (s.withSmp v).mon = s.mon := rfl
@[simp] theorem State.withSmp_wear (s : State) (v : SmpState) : (s.withSmp v).wear = s.wear := rfl
@[simp] theorem State.withSmp_str (s : State) (v : SmpState) : (s.withSmp v).str = s.str := rfl
@[simp] theorem State.withSmp_lgc (s : State) (v : SmpState) : (s.withSmp v).lgc = s.lgc := rfl
@[simp] theorem State.withSmp_health (s : State) (v : SmpState) : (s.withSmp v).health = s.health := rfl
@[simp] theorem State.withSmp_smp (s : State) (v : SmpState) : (s.withSmp v).smp = v := rfl
@[simp] theorem State.withSmp_get (s : State) (v : SmpState) (g : Fld) : (s.withSmp v).get g = s.get g := rfl
@[simp] theorem State.withSmp_bit (s : State) (v : SmpState) (g : Fld) : (s.withSmp v).bit g = s.bit g := rfl
@[simp] theorem State.withSmp_word (s : State) (v : SmpState) (i : Nat) : (s.withSmp v).word i = s.word i := rfl

@[simp] theorem State.withDdc_pending (s : State) (v : Vector DdcState 8) : (s.withDdc v).pending = s.pending := rfl
@[simp] theorem State.withDdc_out (s : State) (v : Vector DdcState 8) : (s.withDdc v).out = s.out := rfl
@[simp] theorem State.withDdc_regs (s : State) (v : Vector DdcState 8) : (s.withDdc v).regs = s.regs := rfl
@[simp] theorem State.withDdc_mask (s : State) (v : Vector DdcState 8) : (s.withDdc v).mask = s.mask := rfl
@[simp] theorem State.withDdc_now (s : State) (v : Vector DdcState 8) : (s.withDdc v).now = s.now := rfl
@[simp] theorem State.withDdc_fresh (s : State) (v : Vector DdcState 8) : (s.withDdc v).fresh = s.fresh := rfl
@[simp] theorem State.withDdc_dev (s : State) (v : Vector DdcState 8) : (s.withDdc v).dev = s.dev := rfl
@[simp] theorem State.withDdc_pwr (s : State) (v : Vector DdcState 8) : (s.withDdc v).pwr = s.pwr := rfl
@[simp] theorem State.withDdc_wch (s : State) (v : Vector DdcState 8) : (s.withDdc v).wch = s.wch := rfl
@[simp] theorem State.withDdc_grd (s : State) (v : Vector DdcState 8) : (s.withDdc v).grd = s.grd := rfl
@[simp] theorem State.withDdc_bus (s : State) (v : Vector DdcState 8) : (s.withDdc v).bus = s.bus := rfl
@[simp] theorem State.withDdc_load (s : State) (v : Vector DdcState 8) : (s.withDdc v).load = s.load := rfl
@[simp] theorem State.withDdc_fab (s : State) (v : Vector DdcState 8) : (s.withDdc v).fab = s.fab := rfl
@[simp] theorem State.withDdc_fix (s : State) (v : Vector DdcState 8) : (s.withDdc v).fix = s.fix := rfl
@[simp] theorem State.withDdc_deep (s : State) (v : Vector DdcState 8) : (s.withDdc v).deep = s.deep := rfl
@[simp] theorem State.withDdc_cph (s : State) (v : Vector DdcState 8) : (s.withDdc v).cph = s.cph := rfl
@[simp] theorem State.withDdc_lnk (s : State) (v : Vector DdcState 8) : (s.withDdc v).lnk = s.lnk := rfl
@[simp] theorem State.withDdc_brg (s : State) (v : Vector DdcState 8) : (s.withDdc v).brg = s.brg := rfl
@[simp] theorem State.withDdc_smp (s : State) (v : Vector DdcState 8) : (s.withDdc v).smp = s.smp := rfl
@[simp] theorem State.withDdc_ctx (s : State) (v : Vector DdcState 8) : (s.withDdc v).ctx = s.ctx := rfl
@[simp] theorem State.withDdc_scan (s : State) (v : Vector DdcState 8) : (s.withDdc v).scan = s.scan := rfl
@[simp] theorem State.withDdc_lmdTx (s : State) (v : Vector DdcState 8) : (s.withDdc v).lmdTx = s.lmdTx := rfl
@[simp] theorem State.withDdc_lmdRx (s : State) (v : Vector DdcState 8) : (s.withDdc v).lmdRx = s.lmdRx := rfl
@[simp] theorem State.withDdc_spt (s : State) (v : Vector DdcState 8) : (s.withDdc v).spt = s.spt := rfl
@[simp] theorem State.withDdc_pin (s : State) (v : Vector DdcState 8) : (s.withDdc v).pin = s.pin := rfl
@[simp] theorem State.withDdc_bin (s : State) (v : Vector DdcState 8) : (s.withDdc v).bin = s.bin := rfl
@[simp] theorem State.withDdc_pll (s : State) (v : Vector DdcState 8) : (s.withDdc v).pll = s.pll := rfl
@[simp] theorem State.withDdc_mon (s : State) (v : Vector DdcState 8) : (s.withDdc v).mon = s.mon := rfl
@[simp] theorem State.withDdc_wear (s : State) (v : Vector DdcState 8) : (s.withDdc v).wear = s.wear := rfl
@[simp] theorem State.withDdc_str (s : State) (v : Vector DdcState 8) : (s.withDdc v).str = s.str := rfl
@[simp] theorem State.withDdc_lgc (s : State) (v : Vector DdcState 8) : (s.withDdc v).lgc = s.lgc := rfl
@[simp] theorem State.withDdc_health (s : State) (v : Vector DdcState 8) : (s.withDdc v).health = s.health := rfl
@[simp] theorem State.withDdc_ddc (s : State) (v : Vector DdcState 8) : (s.withDdc v).ddc = v := rfl
@[simp] theorem State.withDdc_get (s : State) (v : Vector DdcState 8) (g : Fld) : (s.withDdc v).get g = s.get g := rfl
@[simp] theorem State.withDdc_bit (s : State) (v : Vector DdcState 8) (g : Fld) : (s.withDdc v).bit g = s.bit g := rfl
@[simp] theorem State.withDdc_word (s : State) (v : Vector DdcState 8) (i : Nat) : (s.withDdc v).word i = s.word i := rfl

@[simp] theorem State.withCtx_pending (s : State) (v : Vector BcdCtx 4) : (s.withCtx v).pending = s.pending := rfl
@[simp] theorem State.withCtx_out (s : State) (v : Vector BcdCtx 4) : (s.withCtx v).out = s.out := rfl
@[simp] theorem State.withCtx_regs (s : State) (v : Vector BcdCtx 4) : (s.withCtx v).regs = s.regs := rfl
@[simp] theorem State.withCtx_mask (s : State) (v : Vector BcdCtx 4) : (s.withCtx v).mask = s.mask := rfl
@[simp] theorem State.withCtx_now (s : State) (v : Vector BcdCtx 4) : (s.withCtx v).now = s.now := rfl
@[simp] theorem State.withCtx_fresh (s : State) (v : Vector BcdCtx 4) : (s.withCtx v).fresh = s.fresh := rfl
@[simp] theorem State.withCtx_dev (s : State) (v : Vector BcdCtx 4) : (s.withCtx v).dev = s.dev := rfl
@[simp] theorem State.withCtx_pwr (s : State) (v : Vector BcdCtx 4) : (s.withCtx v).pwr = s.pwr := rfl
@[simp] theorem State.withCtx_wch (s : State) (v : Vector BcdCtx 4) : (s.withCtx v).wch = s.wch := rfl
@[simp] theorem State.withCtx_grd (s : State) (v : Vector BcdCtx 4) : (s.withCtx v).grd = s.grd := rfl
@[simp] theorem State.withCtx_bus (s : State) (v : Vector BcdCtx 4) : (s.withCtx v).bus = s.bus := rfl
@[simp] theorem State.withCtx_load (s : State) (v : Vector BcdCtx 4) : (s.withCtx v).load = s.load := rfl
@[simp] theorem State.withCtx_fab (s : State) (v : Vector BcdCtx 4) : (s.withCtx v).fab = s.fab := rfl
@[simp] theorem State.withCtx_fix (s : State) (v : Vector BcdCtx 4) : (s.withCtx v).fix = s.fix := rfl
@[simp] theorem State.withCtx_deep (s : State) (v : Vector BcdCtx 4) : (s.withCtx v).deep = s.deep := rfl
@[simp] theorem State.withCtx_cph (s : State) (v : Vector BcdCtx 4) : (s.withCtx v).cph = s.cph := rfl
@[simp] theorem State.withCtx_lnk (s : State) (v : Vector BcdCtx 4) : (s.withCtx v).lnk = s.lnk := rfl
@[simp] theorem State.withCtx_brg (s : State) (v : Vector BcdCtx 4) : (s.withCtx v).brg = s.brg := rfl
@[simp] theorem State.withCtx_smp (s : State) (v : Vector BcdCtx 4) : (s.withCtx v).smp = s.smp := rfl
@[simp] theorem State.withCtx_ddc (s : State) (v : Vector BcdCtx 4) : (s.withCtx v).ddc = s.ddc := rfl
@[simp] theorem State.withCtx_scan (s : State) (v : Vector BcdCtx 4) : (s.withCtx v).scan = s.scan := rfl
@[simp] theorem State.withCtx_lmdTx (s : State) (v : Vector BcdCtx 4) : (s.withCtx v).lmdTx = s.lmdTx := rfl
@[simp] theorem State.withCtx_lmdRx (s : State) (v : Vector BcdCtx 4) : (s.withCtx v).lmdRx = s.lmdRx := rfl
@[simp] theorem State.withCtx_spt (s : State) (v : Vector BcdCtx 4) : (s.withCtx v).spt = s.spt := rfl
@[simp] theorem State.withCtx_pin (s : State) (v : Vector BcdCtx 4) : (s.withCtx v).pin = s.pin := rfl
@[simp] theorem State.withCtx_bin (s : State) (v : Vector BcdCtx 4) : (s.withCtx v).bin = s.bin := rfl
@[simp] theorem State.withCtx_pll (s : State) (v : Vector BcdCtx 4) : (s.withCtx v).pll = s.pll := rfl
@[simp] theorem State.withCtx_mon (s : State) (v : Vector BcdCtx 4) : (s.withCtx v).mon = s.mon := rfl
@[simp] theorem State.withCtx_wear (s : State) (v : Vector BcdCtx 4) : (s.withCtx v).wear = s.wear := rfl
@[simp] theorem State.withCtx_str (s : State) (v : Vector BcdCtx 4) : (s.withCtx v).str = s.str := rfl
@[simp] theorem State.withCtx_lgc (s : State) (v : Vector BcdCtx 4) : (s.withCtx v).lgc = s.lgc := rfl
@[simp] theorem State.withCtx_health (s : State) (v : Vector BcdCtx 4) : (s.withCtx v).health = s.health := rfl
@[simp] theorem State.withCtx_ctx (s : State) (v : Vector BcdCtx 4) : (s.withCtx v).ctx = v := rfl
@[simp] theorem State.withCtx_get (s : State) (v : Vector BcdCtx 4) (g : Fld) : (s.withCtx v).get g = s.get g := rfl
@[simp] theorem State.withCtx_bit (s : State) (v : Vector BcdCtx 4) (g : Fld) : (s.withCtx v).bit g = s.bit g := rfl
@[simp] theorem State.withCtx_word (s : State) (v : Vector BcdCtx 4) (i : Nat) : (s.withCtx v).word i = s.word i := rfl

@[simp] theorem State.withScan_pending (s : State) (v : List (Nat × Nat)) : (s.withScan v).pending = s.pending := rfl
@[simp] theorem State.withScan_out (s : State) (v : List (Nat × Nat)) : (s.withScan v).out = s.out := rfl
@[simp] theorem State.withScan_regs (s : State) (v : List (Nat × Nat)) : (s.withScan v).regs = s.regs := rfl
@[simp] theorem State.withScan_mask (s : State) (v : List (Nat × Nat)) : (s.withScan v).mask = s.mask := rfl
@[simp] theorem State.withScan_now (s : State) (v : List (Nat × Nat)) : (s.withScan v).now = s.now := rfl
@[simp] theorem State.withScan_fresh (s : State) (v : List (Nat × Nat)) : (s.withScan v).fresh = s.fresh := rfl
@[simp] theorem State.withScan_dev (s : State) (v : List (Nat × Nat)) : (s.withScan v).dev = s.dev := rfl
@[simp] theorem State.withScan_pwr (s : State) (v : List (Nat × Nat)) : (s.withScan v).pwr = s.pwr := rfl
@[simp] theorem State.withScan_wch (s : State) (v : List (Nat × Nat)) : (s.withScan v).wch = s.wch := rfl
@[simp] theorem State.withScan_grd (s : State) (v : List (Nat × Nat)) : (s.withScan v).grd = s.grd := rfl
@[simp] theorem State.withScan_bus (s : State) (v : List (Nat × Nat)) : (s.withScan v).bus = s.bus := rfl
@[simp] theorem State.withScan_load (s : State) (v : List (Nat × Nat)) : (s.withScan v).load = s.load := rfl
@[simp] theorem State.withScan_fab (s : State) (v : List (Nat × Nat)) : (s.withScan v).fab = s.fab := rfl
@[simp] theorem State.withScan_fix (s : State) (v : List (Nat × Nat)) : (s.withScan v).fix = s.fix := rfl
@[simp] theorem State.withScan_deep (s : State) (v : List (Nat × Nat)) : (s.withScan v).deep = s.deep := rfl
@[simp] theorem State.withScan_cph (s : State) (v : List (Nat × Nat)) : (s.withScan v).cph = s.cph := rfl
@[simp] theorem State.withScan_lnk (s : State) (v : List (Nat × Nat)) : (s.withScan v).lnk = s.lnk := rfl
@[simp] theorem State.withScan_brg (s : State) (v : List (Nat × Nat)) : (s.withScan v).brg = s.brg := rfl
@[simp] theorem State.withScan_smp (s : State) (v : List (Nat × Nat)) : (s.withScan v).smp = s.smp := rfl
@[simp] theorem State.withScan_ddc (s : State) (v : List (Nat × Nat)) : (s.withScan v).ddc = s.ddc := rfl
@[simp] theorem State.withScan_ctx (s : State) (v : List (Nat × Nat)) : (s.withScan v).ctx = s.ctx := rfl
@[simp] theorem State.withScan_lmdTx (s : State) (v : List (Nat × Nat)) : (s.withScan v).lmdTx = s.lmdTx := rfl
@[simp] theorem State.withScan_lmdRx (s : State) (v : List (Nat × Nat)) : (s.withScan v).lmdRx = s.lmdRx := rfl
@[simp] theorem State.withScan_spt (s : State) (v : List (Nat × Nat)) : (s.withScan v).spt = s.spt := rfl
@[simp] theorem State.withScan_pin (s : State) (v : List (Nat × Nat)) : (s.withScan v).pin = s.pin := rfl
@[simp] theorem State.withScan_bin (s : State) (v : List (Nat × Nat)) : (s.withScan v).bin = s.bin := rfl
@[simp] theorem State.withScan_pll (s : State) (v : List (Nat × Nat)) : (s.withScan v).pll = s.pll := rfl
@[simp] theorem State.withScan_mon (s : State) (v : List (Nat × Nat)) : (s.withScan v).mon = s.mon := rfl
@[simp] theorem State.withScan_wear (s : State) (v : List (Nat × Nat)) : (s.withScan v).wear = s.wear := rfl
@[simp] theorem State.withScan_str (s : State) (v : List (Nat × Nat)) : (s.withScan v).str = s.str := rfl
@[simp] theorem State.withScan_lgc (s : State) (v : List (Nat × Nat)) : (s.withScan v).lgc = s.lgc := rfl
@[simp] theorem State.withScan_health (s : State) (v : List (Nat × Nat)) : (s.withScan v).health = s.health := rfl
@[simp] theorem State.withScan_scan (s : State) (v : List (Nat × Nat)) : (s.withScan v).scan = v := rfl
@[simp] theorem State.withScan_get (s : State) (v : List (Nat × Nat)) (g : Fld) : (s.withScan v).get g = s.get g := rfl
@[simp] theorem State.withScan_bit (s : State) (v : List (Nat × Nat)) (g : Fld) : (s.withScan v).bit g = s.bit g := rfl
@[simp] theorem State.withScan_word (s : State) (v : List (Nat × Nat)) (i : Nat) : (s.withScan v).word i = s.word i := rfl

@[simp] theorem State.withLmdTx_pending (s : State) (v : Vector LmdTx 2) : (s.withLmdTx v).pending = s.pending := rfl
@[simp] theorem State.withLmdTx_out (s : State) (v : Vector LmdTx 2) : (s.withLmdTx v).out = s.out := rfl
@[simp] theorem State.withLmdTx_regs (s : State) (v : Vector LmdTx 2) : (s.withLmdTx v).regs = s.regs := rfl
@[simp] theorem State.withLmdTx_mask (s : State) (v : Vector LmdTx 2) : (s.withLmdTx v).mask = s.mask := rfl
@[simp] theorem State.withLmdTx_now (s : State) (v : Vector LmdTx 2) : (s.withLmdTx v).now = s.now := rfl
@[simp] theorem State.withLmdTx_fresh (s : State) (v : Vector LmdTx 2) : (s.withLmdTx v).fresh = s.fresh := rfl
@[simp] theorem State.withLmdTx_dev (s : State) (v : Vector LmdTx 2) : (s.withLmdTx v).dev = s.dev := rfl
@[simp] theorem State.withLmdTx_pwr (s : State) (v : Vector LmdTx 2) : (s.withLmdTx v).pwr = s.pwr := rfl
@[simp] theorem State.withLmdTx_wch (s : State) (v : Vector LmdTx 2) : (s.withLmdTx v).wch = s.wch := rfl
@[simp] theorem State.withLmdTx_grd (s : State) (v : Vector LmdTx 2) : (s.withLmdTx v).grd = s.grd := rfl
@[simp] theorem State.withLmdTx_bus (s : State) (v : Vector LmdTx 2) : (s.withLmdTx v).bus = s.bus := rfl
@[simp] theorem State.withLmdTx_load (s : State) (v : Vector LmdTx 2) : (s.withLmdTx v).load = s.load := rfl
@[simp] theorem State.withLmdTx_fab (s : State) (v : Vector LmdTx 2) : (s.withLmdTx v).fab = s.fab := rfl
@[simp] theorem State.withLmdTx_fix (s : State) (v : Vector LmdTx 2) : (s.withLmdTx v).fix = s.fix := rfl
@[simp] theorem State.withLmdTx_deep (s : State) (v : Vector LmdTx 2) : (s.withLmdTx v).deep = s.deep := rfl
@[simp] theorem State.withLmdTx_cph (s : State) (v : Vector LmdTx 2) : (s.withLmdTx v).cph = s.cph := rfl
@[simp] theorem State.withLmdTx_lnk (s : State) (v : Vector LmdTx 2) : (s.withLmdTx v).lnk = s.lnk := rfl
@[simp] theorem State.withLmdTx_brg (s : State) (v : Vector LmdTx 2) : (s.withLmdTx v).brg = s.brg := rfl
@[simp] theorem State.withLmdTx_smp (s : State) (v : Vector LmdTx 2) : (s.withLmdTx v).smp = s.smp := rfl
@[simp] theorem State.withLmdTx_ddc (s : State) (v : Vector LmdTx 2) : (s.withLmdTx v).ddc = s.ddc := rfl
@[simp] theorem State.withLmdTx_ctx (s : State) (v : Vector LmdTx 2) : (s.withLmdTx v).ctx = s.ctx := rfl
@[simp] theorem State.withLmdTx_scan (s : State) (v : Vector LmdTx 2) : (s.withLmdTx v).scan = s.scan := rfl
@[simp] theorem State.withLmdTx_lmdRx (s : State) (v : Vector LmdTx 2) : (s.withLmdTx v).lmdRx = s.lmdRx := rfl
@[simp] theorem State.withLmdTx_spt (s : State) (v : Vector LmdTx 2) : (s.withLmdTx v).spt = s.spt := rfl
@[simp] theorem State.withLmdTx_pin (s : State) (v : Vector LmdTx 2) : (s.withLmdTx v).pin = s.pin := rfl
@[simp] theorem State.withLmdTx_bin (s : State) (v : Vector LmdTx 2) : (s.withLmdTx v).bin = s.bin := rfl
@[simp] theorem State.withLmdTx_pll (s : State) (v : Vector LmdTx 2) : (s.withLmdTx v).pll = s.pll := rfl
@[simp] theorem State.withLmdTx_mon (s : State) (v : Vector LmdTx 2) : (s.withLmdTx v).mon = s.mon := rfl
@[simp] theorem State.withLmdTx_wear (s : State) (v : Vector LmdTx 2) : (s.withLmdTx v).wear = s.wear := rfl
@[simp] theorem State.withLmdTx_str (s : State) (v : Vector LmdTx 2) : (s.withLmdTx v).str = s.str := rfl
@[simp] theorem State.withLmdTx_lgc (s : State) (v : Vector LmdTx 2) : (s.withLmdTx v).lgc = s.lgc := rfl
@[simp] theorem State.withLmdTx_health (s : State) (v : Vector LmdTx 2) : (s.withLmdTx v).health = s.health := rfl
@[simp] theorem State.withLmdTx_lmdTx (s : State) (v : Vector LmdTx 2) : (s.withLmdTx v).lmdTx = v := rfl
@[simp] theorem State.withLmdTx_get (s : State) (v : Vector LmdTx 2) (g : Fld) : (s.withLmdTx v).get g = s.get g := rfl
@[simp] theorem State.withLmdTx_bit (s : State) (v : Vector LmdTx 2) (g : Fld) : (s.withLmdTx v).bit g = s.bit g := rfl
@[simp] theorem State.withLmdTx_word (s : State) (v : Vector LmdTx 2) (i : Nat) : (s.withLmdTx v).word i = s.word i := rfl

@[simp] theorem State.withLmdRx_pending (s : State) (v : Vector LmdRx 2) : (s.withLmdRx v).pending = s.pending := rfl
@[simp] theorem State.withLmdRx_out (s : State) (v : Vector LmdRx 2) : (s.withLmdRx v).out = s.out := rfl
@[simp] theorem State.withLmdRx_regs (s : State) (v : Vector LmdRx 2) : (s.withLmdRx v).regs = s.regs := rfl
@[simp] theorem State.withLmdRx_mask (s : State) (v : Vector LmdRx 2) : (s.withLmdRx v).mask = s.mask := rfl
@[simp] theorem State.withLmdRx_now (s : State) (v : Vector LmdRx 2) : (s.withLmdRx v).now = s.now := rfl
@[simp] theorem State.withLmdRx_fresh (s : State) (v : Vector LmdRx 2) : (s.withLmdRx v).fresh = s.fresh := rfl
@[simp] theorem State.withLmdRx_dev (s : State) (v : Vector LmdRx 2) : (s.withLmdRx v).dev = s.dev := rfl
@[simp] theorem State.withLmdRx_pwr (s : State) (v : Vector LmdRx 2) : (s.withLmdRx v).pwr = s.pwr := rfl
@[simp] theorem State.withLmdRx_wch (s : State) (v : Vector LmdRx 2) : (s.withLmdRx v).wch = s.wch := rfl
@[simp] theorem State.withLmdRx_grd (s : State) (v : Vector LmdRx 2) : (s.withLmdRx v).grd = s.grd := rfl
@[simp] theorem State.withLmdRx_bus (s : State) (v : Vector LmdRx 2) : (s.withLmdRx v).bus = s.bus := rfl
@[simp] theorem State.withLmdRx_load (s : State) (v : Vector LmdRx 2) : (s.withLmdRx v).load = s.load := rfl
@[simp] theorem State.withLmdRx_fab (s : State) (v : Vector LmdRx 2) : (s.withLmdRx v).fab = s.fab := rfl
@[simp] theorem State.withLmdRx_fix (s : State) (v : Vector LmdRx 2) : (s.withLmdRx v).fix = s.fix := rfl
@[simp] theorem State.withLmdRx_deep (s : State) (v : Vector LmdRx 2) : (s.withLmdRx v).deep = s.deep := rfl
@[simp] theorem State.withLmdRx_cph (s : State) (v : Vector LmdRx 2) : (s.withLmdRx v).cph = s.cph := rfl
@[simp] theorem State.withLmdRx_lnk (s : State) (v : Vector LmdRx 2) : (s.withLmdRx v).lnk = s.lnk := rfl
@[simp] theorem State.withLmdRx_brg (s : State) (v : Vector LmdRx 2) : (s.withLmdRx v).brg = s.brg := rfl
@[simp] theorem State.withLmdRx_smp (s : State) (v : Vector LmdRx 2) : (s.withLmdRx v).smp = s.smp := rfl
@[simp] theorem State.withLmdRx_ddc (s : State) (v : Vector LmdRx 2) : (s.withLmdRx v).ddc = s.ddc := rfl
@[simp] theorem State.withLmdRx_ctx (s : State) (v : Vector LmdRx 2) : (s.withLmdRx v).ctx = s.ctx := rfl
@[simp] theorem State.withLmdRx_scan (s : State) (v : Vector LmdRx 2) : (s.withLmdRx v).scan = s.scan := rfl
@[simp] theorem State.withLmdRx_lmdTx (s : State) (v : Vector LmdRx 2) : (s.withLmdRx v).lmdTx = s.lmdTx := rfl
@[simp] theorem State.withLmdRx_spt (s : State) (v : Vector LmdRx 2) : (s.withLmdRx v).spt = s.spt := rfl
@[simp] theorem State.withLmdRx_pin (s : State) (v : Vector LmdRx 2) : (s.withLmdRx v).pin = s.pin := rfl
@[simp] theorem State.withLmdRx_bin (s : State) (v : Vector LmdRx 2) : (s.withLmdRx v).bin = s.bin := rfl
@[simp] theorem State.withLmdRx_pll (s : State) (v : Vector LmdRx 2) : (s.withLmdRx v).pll = s.pll := rfl
@[simp] theorem State.withLmdRx_mon (s : State) (v : Vector LmdRx 2) : (s.withLmdRx v).mon = s.mon := rfl
@[simp] theorem State.withLmdRx_wear (s : State) (v : Vector LmdRx 2) : (s.withLmdRx v).wear = s.wear := rfl
@[simp] theorem State.withLmdRx_str (s : State) (v : Vector LmdRx 2) : (s.withLmdRx v).str = s.str := rfl
@[simp] theorem State.withLmdRx_lgc (s : State) (v : Vector LmdRx 2) : (s.withLmdRx v).lgc = s.lgc := rfl
@[simp] theorem State.withLmdRx_health (s : State) (v : Vector LmdRx 2) : (s.withLmdRx v).health = s.health := rfl
@[simp] theorem State.withLmdRx_lmdRx (s : State) (v : Vector LmdRx 2) : (s.withLmdRx v).lmdRx = v := rfl
@[simp] theorem State.withLmdRx_get (s : State) (v : Vector LmdRx 2) (g : Fld) : (s.withLmdRx v).get g = s.get g := rfl
@[simp] theorem State.withLmdRx_bit (s : State) (v : Vector LmdRx 2) (g : Fld) : (s.withLmdRx v).bit g = s.bit g := rfl
@[simp] theorem State.withLmdRx_word (s : State) (v : Vector LmdRx 2) (i : Nat) : (s.withLmdRx v).word i = s.word i := rfl

@[simp] theorem State.withSpt_pending (s : State) (v : Vector SptPort 8) : (s.withSpt v).pending = s.pending := rfl
@[simp] theorem State.withSpt_out (s : State) (v : Vector SptPort 8) : (s.withSpt v).out = s.out := rfl
@[simp] theorem State.withSpt_regs (s : State) (v : Vector SptPort 8) : (s.withSpt v).regs = s.regs := rfl
@[simp] theorem State.withSpt_mask (s : State) (v : Vector SptPort 8) : (s.withSpt v).mask = s.mask := rfl
@[simp] theorem State.withSpt_now (s : State) (v : Vector SptPort 8) : (s.withSpt v).now = s.now := rfl
@[simp] theorem State.withSpt_fresh (s : State) (v : Vector SptPort 8) : (s.withSpt v).fresh = s.fresh := rfl
@[simp] theorem State.withSpt_dev (s : State) (v : Vector SptPort 8) : (s.withSpt v).dev = s.dev := rfl
@[simp] theorem State.withSpt_pwr (s : State) (v : Vector SptPort 8) : (s.withSpt v).pwr = s.pwr := rfl
@[simp] theorem State.withSpt_wch (s : State) (v : Vector SptPort 8) : (s.withSpt v).wch = s.wch := rfl
@[simp] theorem State.withSpt_grd (s : State) (v : Vector SptPort 8) : (s.withSpt v).grd = s.grd := rfl
@[simp] theorem State.withSpt_bus (s : State) (v : Vector SptPort 8) : (s.withSpt v).bus = s.bus := rfl
@[simp] theorem State.withSpt_load (s : State) (v : Vector SptPort 8) : (s.withSpt v).load = s.load := rfl
@[simp] theorem State.withSpt_fab (s : State) (v : Vector SptPort 8) : (s.withSpt v).fab = s.fab := rfl
@[simp] theorem State.withSpt_fix (s : State) (v : Vector SptPort 8) : (s.withSpt v).fix = s.fix := rfl
@[simp] theorem State.withSpt_deep (s : State) (v : Vector SptPort 8) : (s.withSpt v).deep = s.deep := rfl
@[simp] theorem State.withSpt_cph (s : State) (v : Vector SptPort 8) : (s.withSpt v).cph = s.cph := rfl
@[simp] theorem State.withSpt_lnk (s : State) (v : Vector SptPort 8) : (s.withSpt v).lnk = s.lnk := rfl
@[simp] theorem State.withSpt_brg (s : State) (v : Vector SptPort 8) : (s.withSpt v).brg = s.brg := rfl
@[simp] theorem State.withSpt_smp (s : State) (v : Vector SptPort 8) : (s.withSpt v).smp = s.smp := rfl
@[simp] theorem State.withSpt_ddc (s : State) (v : Vector SptPort 8) : (s.withSpt v).ddc = s.ddc := rfl
@[simp] theorem State.withSpt_ctx (s : State) (v : Vector SptPort 8) : (s.withSpt v).ctx = s.ctx := rfl
@[simp] theorem State.withSpt_scan (s : State) (v : Vector SptPort 8) : (s.withSpt v).scan = s.scan := rfl
@[simp] theorem State.withSpt_lmdTx (s : State) (v : Vector SptPort 8) : (s.withSpt v).lmdTx = s.lmdTx := rfl
@[simp] theorem State.withSpt_lmdRx (s : State) (v : Vector SptPort 8) : (s.withSpt v).lmdRx = s.lmdRx := rfl
@[simp] theorem State.withSpt_pin (s : State) (v : Vector SptPort 8) : (s.withSpt v).pin = s.pin := rfl
@[simp] theorem State.withSpt_bin (s : State) (v : Vector SptPort 8) : (s.withSpt v).bin = s.bin := rfl
@[simp] theorem State.withSpt_pll (s : State) (v : Vector SptPort 8) : (s.withSpt v).pll = s.pll := rfl
@[simp] theorem State.withSpt_mon (s : State) (v : Vector SptPort 8) : (s.withSpt v).mon = s.mon := rfl
@[simp] theorem State.withSpt_wear (s : State) (v : Vector SptPort 8) : (s.withSpt v).wear = s.wear := rfl
@[simp] theorem State.withSpt_str (s : State) (v : Vector SptPort 8) : (s.withSpt v).str = s.str := rfl
@[simp] theorem State.withSpt_lgc (s : State) (v : Vector SptPort 8) : (s.withSpt v).lgc = s.lgc := rfl
@[simp] theorem State.withSpt_health (s : State) (v : Vector SptPort 8) : (s.withSpt v).health = s.health := rfl
@[simp] theorem State.withSpt_spt (s : State) (v : Vector SptPort 8) : (s.withSpt v).spt = v := rfl
@[simp] theorem State.withSpt_get (s : State) (v : Vector SptPort 8) (g : Fld) : (s.withSpt v).get g = s.get g := rfl
@[simp] theorem State.withSpt_bit (s : State) (v : Vector SptPort 8) (g : Fld) : (s.withSpt v).bit g = s.bit g := rfl
@[simp] theorem State.withSpt_word (s : State) (v : Vector SptPort 8) (i : Nat) : (s.withSpt v).word i = s.word i := rfl

@[simp] theorem State.withPin_pending (s : State) (v : Vector PinBank 6) : (s.withPin v).pending = s.pending := rfl
@[simp] theorem State.withPin_out (s : State) (v : Vector PinBank 6) : (s.withPin v).out = s.out := rfl
@[simp] theorem State.withPin_regs (s : State) (v : Vector PinBank 6) : (s.withPin v).regs = s.regs := rfl
@[simp] theorem State.withPin_mask (s : State) (v : Vector PinBank 6) : (s.withPin v).mask = s.mask := rfl
@[simp] theorem State.withPin_now (s : State) (v : Vector PinBank 6) : (s.withPin v).now = s.now := rfl
@[simp] theorem State.withPin_fresh (s : State) (v : Vector PinBank 6) : (s.withPin v).fresh = s.fresh := rfl
@[simp] theorem State.withPin_dev (s : State) (v : Vector PinBank 6) : (s.withPin v).dev = s.dev := rfl
@[simp] theorem State.withPin_pwr (s : State) (v : Vector PinBank 6) : (s.withPin v).pwr = s.pwr := rfl
@[simp] theorem State.withPin_wch (s : State) (v : Vector PinBank 6) : (s.withPin v).wch = s.wch := rfl
@[simp] theorem State.withPin_grd (s : State) (v : Vector PinBank 6) : (s.withPin v).grd = s.grd := rfl
@[simp] theorem State.withPin_bus (s : State) (v : Vector PinBank 6) : (s.withPin v).bus = s.bus := rfl
@[simp] theorem State.withPin_load (s : State) (v : Vector PinBank 6) : (s.withPin v).load = s.load := rfl
@[simp] theorem State.withPin_fab (s : State) (v : Vector PinBank 6) : (s.withPin v).fab = s.fab := rfl
@[simp] theorem State.withPin_fix (s : State) (v : Vector PinBank 6) : (s.withPin v).fix = s.fix := rfl
@[simp] theorem State.withPin_deep (s : State) (v : Vector PinBank 6) : (s.withPin v).deep = s.deep := rfl
@[simp] theorem State.withPin_cph (s : State) (v : Vector PinBank 6) : (s.withPin v).cph = s.cph := rfl
@[simp] theorem State.withPin_lnk (s : State) (v : Vector PinBank 6) : (s.withPin v).lnk = s.lnk := rfl
@[simp] theorem State.withPin_brg (s : State) (v : Vector PinBank 6) : (s.withPin v).brg = s.brg := rfl
@[simp] theorem State.withPin_smp (s : State) (v : Vector PinBank 6) : (s.withPin v).smp = s.smp := rfl
@[simp] theorem State.withPin_ddc (s : State) (v : Vector PinBank 6) : (s.withPin v).ddc = s.ddc := rfl
@[simp] theorem State.withPin_ctx (s : State) (v : Vector PinBank 6) : (s.withPin v).ctx = s.ctx := rfl
@[simp] theorem State.withPin_scan (s : State) (v : Vector PinBank 6) : (s.withPin v).scan = s.scan := rfl
@[simp] theorem State.withPin_lmdTx (s : State) (v : Vector PinBank 6) : (s.withPin v).lmdTx = s.lmdTx := rfl
@[simp] theorem State.withPin_lmdRx (s : State) (v : Vector PinBank 6) : (s.withPin v).lmdRx = s.lmdRx := rfl
@[simp] theorem State.withPin_spt (s : State) (v : Vector PinBank 6) : (s.withPin v).spt = s.spt := rfl
@[simp] theorem State.withPin_bin (s : State) (v : Vector PinBank 6) : (s.withPin v).bin = s.bin := rfl
@[simp] theorem State.withPin_pll (s : State) (v : Vector PinBank 6) : (s.withPin v).pll = s.pll := rfl
@[simp] theorem State.withPin_mon (s : State) (v : Vector PinBank 6) : (s.withPin v).mon = s.mon := rfl
@[simp] theorem State.withPin_wear (s : State) (v : Vector PinBank 6) : (s.withPin v).wear = s.wear := rfl
@[simp] theorem State.withPin_str (s : State) (v : Vector PinBank 6) : (s.withPin v).str = s.str := rfl
@[simp] theorem State.withPin_lgc (s : State) (v : Vector PinBank 6) : (s.withPin v).lgc = s.lgc := rfl
@[simp] theorem State.withPin_health (s : State) (v : Vector PinBank 6) : (s.withPin v).health = s.health := rfl
@[simp] theorem State.withPin_pin (s : State) (v : Vector PinBank 6) : (s.withPin v).pin = v := rfl
@[simp] theorem State.withPin_get (s : State) (v : Vector PinBank 6) (g : Fld) : (s.withPin v).get g = s.get g := rfl
@[simp] theorem State.withPin_bit (s : State) (v : Vector PinBank 6) (g : Fld) : (s.withPin v).bit g = s.bit g := rfl
@[simp] theorem State.withPin_word (s : State) (v : Vector PinBank 6) (i : Nat) : (s.withPin v).word i = s.word i := rfl

@[simp] theorem State.withBin_pending (s : State) (v : BinState) : (s.withBin v).pending = s.pending := rfl
@[simp] theorem State.withBin_out (s : State) (v : BinState) : (s.withBin v).out = s.out := rfl
@[simp] theorem State.withBin_regs (s : State) (v : BinState) : (s.withBin v).regs = s.regs := rfl
@[simp] theorem State.withBin_mask (s : State) (v : BinState) : (s.withBin v).mask = s.mask := rfl
@[simp] theorem State.withBin_now (s : State) (v : BinState) : (s.withBin v).now = s.now := rfl
@[simp] theorem State.withBin_fresh (s : State) (v : BinState) : (s.withBin v).fresh = s.fresh := rfl
@[simp] theorem State.withBin_dev (s : State) (v : BinState) : (s.withBin v).dev = s.dev := rfl
@[simp] theorem State.withBin_pwr (s : State) (v : BinState) : (s.withBin v).pwr = s.pwr := rfl
@[simp] theorem State.withBin_wch (s : State) (v : BinState) : (s.withBin v).wch = s.wch := rfl
@[simp] theorem State.withBin_grd (s : State) (v : BinState) : (s.withBin v).grd = s.grd := rfl
@[simp] theorem State.withBin_bus (s : State) (v : BinState) : (s.withBin v).bus = s.bus := rfl
@[simp] theorem State.withBin_load (s : State) (v : BinState) : (s.withBin v).load = s.load := rfl
@[simp] theorem State.withBin_fab (s : State) (v : BinState) : (s.withBin v).fab = s.fab := rfl
@[simp] theorem State.withBin_fix (s : State) (v : BinState) : (s.withBin v).fix = s.fix := rfl
@[simp] theorem State.withBin_deep (s : State) (v : BinState) : (s.withBin v).deep = s.deep := rfl
@[simp] theorem State.withBin_cph (s : State) (v : BinState) : (s.withBin v).cph = s.cph := rfl
@[simp] theorem State.withBin_lnk (s : State) (v : BinState) : (s.withBin v).lnk = s.lnk := rfl
@[simp] theorem State.withBin_brg (s : State) (v : BinState) : (s.withBin v).brg = s.brg := rfl
@[simp] theorem State.withBin_smp (s : State) (v : BinState) : (s.withBin v).smp = s.smp := rfl
@[simp] theorem State.withBin_ddc (s : State) (v : BinState) : (s.withBin v).ddc = s.ddc := rfl
@[simp] theorem State.withBin_ctx (s : State) (v : BinState) : (s.withBin v).ctx = s.ctx := rfl
@[simp] theorem State.withBin_scan (s : State) (v : BinState) : (s.withBin v).scan = s.scan := rfl
@[simp] theorem State.withBin_lmdTx (s : State) (v : BinState) : (s.withBin v).lmdTx = s.lmdTx := rfl
@[simp] theorem State.withBin_lmdRx (s : State) (v : BinState) : (s.withBin v).lmdRx = s.lmdRx := rfl
@[simp] theorem State.withBin_spt (s : State) (v : BinState) : (s.withBin v).spt = s.spt := rfl
@[simp] theorem State.withBin_pin (s : State) (v : BinState) : (s.withBin v).pin = s.pin := rfl
@[simp] theorem State.withBin_pll (s : State) (v : BinState) : (s.withBin v).pll = s.pll := rfl
@[simp] theorem State.withBin_mon (s : State) (v : BinState) : (s.withBin v).mon = s.mon := rfl
@[simp] theorem State.withBin_wear (s : State) (v : BinState) : (s.withBin v).wear = s.wear := rfl
@[simp] theorem State.withBin_str (s : State) (v : BinState) : (s.withBin v).str = s.str := rfl
@[simp] theorem State.withBin_lgc (s : State) (v : BinState) : (s.withBin v).lgc = s.lgc := rfl
@[simp] theorem State.withBin_health (s : State) (v : BinState) : (s.withBin v).health = s.health := rfl
@[simp] theorem State.withBin_bin (s : State) (v : BinState) : (s.withBin v).bin = v := rfl
@[simp] theorem State.withBin_get (s : State) (v : BinState) (g : Fld) : (s.withBin v).get g = s.get g := rfl
@[simp] theorem State.withBin_bit (s : State) (v : BinState) (g : Fld) : (s.withBin v).bit g = s.bit g := rfl
@[simp] theorem State.withBin_word (s : State) (v : BinState) (i : Nat) : (s.withBin v).word i = s.word i := rfl

@[simp] theorem State.withPll_pending (s : State) (v : PllState) : (s.withPll v).pending = s.pending := rfl
@[simp] theorem State.withPll_out (s : State) (v : PllState) : (s.withPll v).out = s.out := rfl
@[simp] theorem State.withPll_regs (s : State) (v : PllState) : (s.withPll v).regs = s.regs := rfl
@[simp] theorem State.withPll_mask (s : State) (v : PllState) : (s.withPll v).mask = s.mask := rfl
@[simp] theorem State.withPll_now (s : State) (v : PllState) : (s.withPll v).now = s.now := rfl
@[simp] theorem State.withPll_fresh (s : State) (v : PllState) : (s.withPll v).fresh = s.fresh := rfl
@[simp] theorem State.withPll_dev (s : State) (v : PllState) : (s.withPll v).dev = s.dev := rfl
@[simp] theorem State.withPll_pwr (s : State) (v : PllState) : (s.withPll v).pwr = s.pwr := rfl
@[simp] theorem State.withPll_wch (s : State) (v : PllState) : (s.withPll v).wch = s.wch := rfl
@[simp] theorem State.withPll_grd (s : State) (v : PllState) : (s.withPll v).grd = s.grd := rfl
@[simp] theorem State.withPll_bus (s : State) (v : PllState) : (s.withPll v).bus = s.bus := rfl
@[simp] theorem State.withPll_load (s : State) (v : PllState) : (s.withPll v).load = s.load := rfl
@[simp] theorem State.withPll_fab (s : State) (v : PllState) : (s.withPll v).fab = s.fab := rfl
@[simp] theorem State.withPll_fix (s : State) (v : PllState) : (s.withPll v).fix = s.fix := rfl
@[simp] theorem State.withPll_deep (s : State) (v : PllState) : (s.withPll v).deep = s.deep := rfl
@[simp] theorem State.withPll_cph (s : State) (v : PllState) : (s.withPll v).cph = s.cph := rfl
@[simp] theorem State.withPll_lnk (s : State) (v : PllState) : (s.withPll v).lnk = s.lnk := rfl
@[simp] theorem State.withPll_brg (s : State) (v : PllState) : (s.withPll v).brg = s.brg := rfl
@[simp] theorem State.withPll_smp (s : State) (v : PllState) : (s.withPll v).smp = s.smp := rfl
@[simp] theorem State.withPll_ddc (s : State) (v : PllState) : (s.withPll v).ddc = s.ddc := rfl
@[simp] theorem State.withPll_ctx (s : State) (v : PllState) : (s.withPll v).ctx = s.ctx := rfl
@[simp] theorem State.withPll_scan (s : State) (v : PllState) : (s.withPll v).scan = s.scan := rfl
@[simp] theorem State.withPll_lmdTx (s : State) (v : PllState) : (s.withPll v).lmdTx = s.lmdTx := rfl
@[simp] theorem State.withPll_lmdRx (s : State) (v : PllState) : (s.withPll v).lmdRx = s.lmdRx := rfl
@[simp] theorem State.withPll_spt (s : State) (v : PllState) : (s.withPll v).spt = s.spt := rfl
@[simp] theorem State.withPll_pin (s : State) (v : PllState) : (s.withPll v).pin = s.pin := rfl
@[simp] theorem State.withPll_bin (s : State) (v : PllState) : (s.withPll v).bin = s.bin := rfl
@[simp] theorem State.withPll_mon (s : State) (v : PllState) : (s.withPll v).mon = s.mon := rfl
@[simp] theorem State.withPll_wear (s : State) (v : PllState) : (s.withPll v).wear = s.wear := rfl
@[simp] theorem State.withPll_str (s : State) (v : PllState) : (s.withPll v).str = s.str := rfl
@[simp] theorem State.withPll_lgc (s : State) (v : PllState) : (s.withPll v).lgc = s.lgc := rfl
@[simp] theorem State.withPll_health (s : State) (v : PllState) : (s.withPll v).health = s.health := rfl
@[simp] theorem State.withPll_pll (s : State) (v : PllState) : (s.withPll v).pll = v := rfl
@[simp] theorem State.withPll_get (s : State) (v : PllState) (g : Fld) : (s.withPll v).get g = s.get g := rfl
@[simp] theorem State.withPll_bit (s : State) (v : PllState) (g : Fld) : (s.withPll v).bit g = s.bit g := rfl
@[simp] theorem State.withPll_word (s : State) (v : PllState) (i : Nat) : (s.withPll v).word i = s.word i := rfl

@[simp] theorem State.withMon_pending (s : State) (v : MonState) : (s.withMon v).pending = s.pending := rfl
@[simp] theorem State.withMon_out (s : State) (v : MonState) : (s.withMon v).out = s.out := rfl
@[simp] theorem State.withMon_regs (s : State) (v : MonState) : (s.withMon v).regs = s.regs := rfl
@[simp] theorem State.withMon_mask (s : State) (v : MonState) : (s.withMon v).mask = s.mask := rfl
@[simp] theorem State.withMon_now (s : State) (v : MonState) : (s.withMon v).now = s.now := rfl
@[simp] theorem State.withMon_fresh (s : State) (v : MonState) : (s.withMon v).fresh = s.fresh := rfl
@[simp] theorem State.withMon_dev (s : State) (v : MonState) : (s.withMon v).dev = s.dev := rfl
@[simp] theorem State.withMon_pwr (s : State) (v : MonState) : (s.withMon v).pwr = s.pwr := rfl
@[simp] theorem State.withMon_wch (s : State) (v : MonState) : (s.withMon v).wch = s.wch := rfl
@[simp] theorem State.withMon_grd (s : State) (v : MonState) : (s.withMon v).grd = s.grd := rfl
@[simp] theorem State.withMon_bus (s : State) (v : MonState) : (s.withMon v).bus = s.bus := rfl
@[simp] theorem State.withMon_load (s : State) (v : MonState) : (s.withMon v).load = s.load := rfl
@[simp] theorem State.withMon_fab (s : State) (v : MonState) : (s.withMon v).fab = s.fab := rfl
@[simp] theorem State.withMon_fix (s : State) (v : MonState) : (s.withMon v).fix = s.fix := rfl
@[simp] theorem State.withMon_deep (s : State) (v : MonState) : (s.withMon v).deep = s.deep := rfl
@[simp] theorem State.withMon_cph (s : State) (v : MonState) : (s.withMon v).cph = s.cph := rfl
@[simp] theorem State.withMon_lnk (s : State) (v : MonState) : (s.withMon v).lnk = s.lnk := rfl
@[simp] theorem State.withMon_brg (s : State) (v : MonState) : (s.withMon v).brg = s.brg := rfl
@[simp] theorem State.withMon_smp (s : State) (v : MonState) : (s.withMon v).smp = s.smp := rfl
@[simp] theorem State.withMon_ddc (s : State) (v : MonState) : (s.withMon v).ddc = s.ddc := rfl
@[simp] theorem State.withMon_ctx (s : State) (v : MonState) : (s.withMon v).ctx = s.ctx := rfl
@[simp] theorem State.withMon_scan (s : State) (v : MonState) : (s.withMon v).scan = s.scan := rfl
@[simp] theorem State.withMon_lmdTx (s : State) (v : MonState) : (s.withMon v).lmdTx = s.lmdTx := rfl
@[simp] theorem State.withMon_lmdRx (s : State) (v : MonState) : (s.withMon v).lmdRx = s.lmdRx := rfl
@[simp] theorem State.withMon_spt (s : State) (v : MonState) : (s.withMon v).spt = s.spt := rfl
@[simp] theorem State.withMon_pin (s : State) (v : MonState) : (s.withMon v).pin = s.pin := rfl
@[simp] theorem State.withMon_bin (s : State) (v : MonState) : (s.withMon v).bin = s.bin := rfl
@[simp] theorem State.withMon_pll (s : State) (v : MonState) : (s.withMon v).pll = s.pll := rfl
@[simp] theorem State.withMon_wear (s : State) (v : MonState) : (s.withMon v).wear = s.wear := rfl
@[simp] theorem State.withMon_str (s : State) (v : MonState) : (s.withMon v).str = s.str := rfl
@[simp] theorem State.withMon_lgc (s : State) (v : MonState) : (s.withMon v).lgc = s.lgc := rfl
@[simp] theorem State.withMon_health (s : State) (v : MonState) : (s.withMon v).health = s.health := rfl
@[simp] theorem State.withMon_mon (s : State) (v : MonState) : (s.withMon v).mon = v := rfl
@[simp] theorem State.withMon_get (s : State) (v : MonState) (g : Fld) : (s.withMon v).get g = s.get g := rfl
@[simp] theorem State.withMon_bit (s : State) (v : MonState) (g : Fld) : (s.withMon v).bit g = s.bit g := rfl
@[simp] theorem State.withMon_word (s : State) (v : MonState) (i : Nat) : (s.withMon v).word i = s.word i := rfl

@[simp] theorem State.withWear_pending (s : State) (v : WearState) : (s.withWear v).pending = s.pending := rfl
@[simp] theorem State.withWear_out (s : State) (v : WearState) : (s.withWear v).out = s.out := rfl
@[simp] theorem State.withWear_regs (s : State) (v : WearState) : (s.withWear v).regs = s.regs := rfl
@[simp] theorem State.withWear_mask (s : State) (v : WearState) : (s.withWear v).mask = s.mask := rfl
@[simp] theorem State.withWear_now (s : State) (v : WearState) : (s.withWear v).now = s.now := rfl
@[simp] theorem State.withWear_fresh (s : State) (v : WearState) : (s.withWear v).fresh = s.fresh := rfl
@[simp] theorem State.withWear_dev (s : State) (v : WearState) : (s.withWear v).dev = s.dev := rfl
@[simp] theorem State.withWear_pwr (s : State) (v : WearState) : (s.withWear v).pwr = s.pwr := rfl
@[simp] theorem State.withWear_wch (s : State) (v : WearState) : (s.withWear v).wch = s.wch := rfl
@[simp] theorem State.withWear_grd (s : State) (v : WearState) : (s.withWear v).grd = s.grd := rfl
@[simp] theorem State.withWear_bus (s : State) (v : WearState) : (s.withWear v).bus = s.bus := rfl
@[simp] theorem State.withWear_load (s : State) (v : WearState) : (s.withWear v).load = s.load := rfl
@[simp] theorem State.withWear_fab (s : State) (v : WearState) : (s.withWear v).fab = s.fab := rfl
@[simp] theorem State.withWear_fix (s : State) (v : WearState) : (s.withWear v).fix = s.fix := rfl
@[simp] theorem State.withWear_deep (s : State) (v : WearState) : (s.withWear v).deep = s.deep := rfl
@[simp] theorem State.withWear_cph (s : State) (v : WearState) : (s.withWear v).cph = s.cph := rfl
@[simp] theorem State.withWear_lnk (s : State) (v : WearState) : (s.withWear v).lnk = s.lnk := rfl
@[simp] theorem State.withWear_brg (s : State) (v : WearState) : (s.withWear v).brg = s.brg := rfl
@[simp] theorem State.withWear_smp (s : State) (v : WearState) : (s.withWear v).smp = s.smp := rfl
@[simp] theorem State.withWear_ddc (s : State) (v : WearState) : (s.withWear v).ddc = s.ddc := rfl
@[simp] theorem State.withWear_ctx (s : State) (v : WearState) : (s.withWear v).ctx = s.ctx := rfl
@[simp] theorem State.withWear_scan (s : State) (v : WearState) : (s.withWear v).scan = s.scan := rfl
@[simp] theorem State.withWear_lmdTx (s : State) (v : WearState) : (s.withWear v).lmdTx = s.lmdTx := rfl
@[simp] theorem State.withWear_lmdRx (s : State) (v : WearState) : (s.withWear v).lmdRx = s.lmdRx := rfl
@[simp] theorem State.withWear_spt (s : State) (v : WearState) : (s.withWear v).spt = s.spt := rfl
@[simp] theorem State.withWear_pin (s : State) (v : WearState) : (s.withWear v).pin = s.pin := rfl
@[simp] theorem State.withWear_bin (s : State) (v : WearState) : (s.withWear v).bin = s.bin := rfl
@[simp] theorem State.withWear_pll (s : State) (v : WearState) : (s.withWear v).pll = s.pll := rfl
@[simp] theorem State.withWear_mon (s : State) (v : WearState) : (s.withWear v).mon = s.mon := rfl
@[simp] theorem State.withWear_str (s : State) (v : WearState) : (s.withWear v).str = s.str := rfl
@[simp] theorem State.withWear_lgc (s : State) (v : WearState) : (s.withWear v).lgc = s.lgc := rfl
@[simp] theorem State.withWear_health (s : State) (v : WearState) : (s.withWear v).health = s.health := rfl
@[simp] theorem State.withWear_wear (s : State) (v : WearState) : (s.withWear v).wear = v := rfl
@[simp] theorem State.withWear_get (s : State) (v : WearState) (g : Fld) : (s.withWear v).get g = s.get g := rfl
@[simp] theorem State.withWear_bit (s : State) (v : WearState) (g : Fld) : (s.withWear v).bit g = s.bit g := rfl
@[simp] theorem State.withWear_word (s : State) (v : WearState) (i : Nat) : (s.withWear v).word i = s.word i := rfl

@[simp] theorem State.withStr_pending (s : State) (v : Vector StreamPort 85) : (s.withStr v).pending = s.pending := rfl
@[simp] theorem State.withStr_out (s : State) (v : Vector StreamPort 85) : (s.withStr v).out = s.out := rfl
@[simp] theorem State.withStr_regs (s : State) (v : Vector StreamPort 85) : (s.withStr v).regs = s.regs := rfl
@[simp] theorem State.withStr_mask (s : State) (v : Vector StreamPort 85) : (s.withStr v).mask = s.mask := rfl
@[simp] theorem State.withStr_now (s : State) (v : Vector StreamPort 85) : (s.withStr v).now = s.now := rfl
@[simp] theorem State.withStr_fresh (s : State) (v : Vector StreamPort 85) : (s.withStr v).fresh = s.fresh := rfl
@[simp] theorem State.withStr_dev (s : State) (v : Vector StreamPort 85) : (s.withStr v).dev = s.dev := rfl
@[simp] theorem State.withStr_pwr (s : State) (v : Vector StreamPort 85) : (s.withStr v).pwr = s.pwr := rfl
@[simp] theorem State.withStr_wch (s : State) (v : Vector StreamPort 85) : (s.withStr v).wch = s.wch := rfl
@[simp] theorem State.withStr_grd (s : State) (v : Vector StreamPort 85) : (s.withStr v).grd = s.grd := rfl
@[simp] theorem State.withStr_bus (s : State) (v : Vector StreamPort 85) : (s.withStr v).bus = s.bus := rfl
@[simp] theorem State.withStr_load (s : State) (v : Vector StreamPort 85) : (s.withStr v).load = s.load := rfl
@[simp] theorem State.withStr_fab (s : State) (v : Vector StreamPort 85) : (s.withStr v).fab = s.fab := rfl
@[simp] theorem State.withStr_fix (s : State) (v : Vector StreamPort 85) : (s.withStr v).fix = s.fix := rfl
@[simp] theorem State.withStr_deep (s : State) (v : Vector StreamPort 85) : (s.withStr v).deep = s.deep := rfl
@[simp] theorem State.withStr_cph (s : State) (v : Vector StreamPort 85) : (s.withStr v).cph = s.cph := rfl
@[simp] theorem State.withStr_lnk (s : State) (v : Vector StreamPort 85) : (s.withStr v).lnk = s.lnk := rfl
@[simp] theorem State.withStr_brg (s : State) (v : Vector StreamPort 85) : (s.withStr v).brg = s.brg := rfl
@[simp] theorem State.withStr_smp (s : State) (v : Vector StreamPort 85) : (s.withStr v).smp = s.smp := rfl
@[simp] theorem State.withStr_ddc (s : State) (v : Vector StreamPort 85) : (s.withStr v).ddc = s.ddc := rfl
@[simp] theorem State.withStr_ctx (s : State) (v : Vector StreamPort 85) : (s.withStr v).ctx = s.ctx := rfl
@[simp] theorem State.withStr_scan (s : State) (v : Vector StreamPort 85) : (s.withStr v).scan = s.scan := rfl
@[simp] theorem State.withStr_lmdTx (s : State) (v : Vector StreamPort 85) : (s.withStr v).lmdTx = s.lmdTx := rfl
@[simp] theorem State.withStr_lmdRx (s : State) (v : Vector StreamPort 85) : (s.withStr v).lmdRx = s.lmdRx := rfl
@[simp] theorem State.withStr_spt (s : State) (v : Vector StreamPort 85) : (s.withStr v).spt = s.spt := rfl
@[simp] theorem State.withStr_pin (s : State) (v : Vector StreamPort 85) : (s.withStr v).pin = s.pin := rfl
@[simp] theorem State.withStr_bin (s : State) (v : Vector StreamPort 85) : (s.withStr v).bin = s.bin := rfl
@[simp] theorem State.withStr_pll (s : State) (v : Vector StreamPort 85) : (s.withStr v).pll = s.pll := rfl
@[simp] theorem State.withStr_mon (s : State) (v : Vector StreamPort 85) : (s.withStr v).mon = s.mon := rfl
@[simp] theorem State.withStr_wear (s : State) (v : Vector StreamPort 85) : (s.withStr v).wear = s.wear := rfl
@[simp] theorem State.withStr_lgc (s : State) (v : Vector StreamPort 85) : (s.withStr v).lgc = s.lgc := rfl
@[simp] theorem State.withStr_health (s : State) (v : Vector StreamPort 85) : (s.withStr v).health = s.health := rfl
@[simp] theorem State.withStr_str (s : State) (v : Vector StreamPort 85) : (s.withStr v).str = v := rfl
@[simp] theorem State.withStr_get (s : State) (v : Vector StreamPort 85) (g : Fld) : (s.withStr v).get g = s.get g := rfl
@[simp] theorem State.withStr_bit (s : State) (v : Vector StreamPort 85) (g : Fld) : (s.withStr v).bit g = s.bit g := rfl
@[simp] theorem State.withStr_word (s : State) (v : Vector StreamPort 85) (i : Nat) : (s.withStr v).word i = s.word i := rfl

@[simp] theorem State.withLgc_pending (s : State) (v : LogicState) : (s.withLgc v).pending = s.pending := rfl
@[simp] theorem State.withLgc_out (s : State) (v : LogicState) : (s.withLgc v).out = s.out := rfl
@[simp] theorem State.withLgc_regs (s : State) (v : LogicState) : (s.withLgc v).regs = s.regs := rfl
@[simp] theorem State.withLgc_mask (s : State) (v : LogicState) : (s.withLgc v).mask = s.mask := rfl
@[simp] theorem State.withLgc_now (s : State) (v : LogicState) : (s.withLgc v).now = s.now := rfl
@[simp] theorem State.withLgc_fresh (s : State) (v : LogicState) : (s.withLgc v).fresh = s.fresh := rfl
@[simp] theorem State.withLgc_dev (s : State) (v : LogicState) : (s.withLgc v).dev = s.dev := rfl
@[simp] theorem State.withLgc_pwr (s : State) (v : LogicState) : (s.withLgc v).pwr = s.pwr := rfl
@[simp] theorem State.withLgc_wch (s : State) (v : LogicState) : (s.withLgc v).wch = s.wch := rfl
@[simp] theorem State.withLgc_grd (s : State) (v : LogicState) : (s.withLgc v).grd = s.grd := rfl
@[simp] theorem State.withLgc_bus (s : State) (v : LogicState) : (s.withLgc v).bus = s.bus := rfl
@[simp] theorem State.withLgc_load (s : State) (v : LogicState) : (s.withLgc v).load = s.load := rfl
@[simp] theorem State.withLgc_fab (s : State) (v : LogicState) : (s.withLgc v).fab = s.fab := rfl
@[simp] theorem State.withLgc_fix (s : State) (v : LogicState) : (s.withLgc v).fix = s.fix := rfl
@[simp] theorem State.withLgc_deep (s : State) (v : LogicState) : (s.withLgc v).deep = s.deep := rfl
@[simp] theorem State.withLgc_cph (s : State) (v : LogicState) : (s.withLgc v).cph = s.cph := rfl
@[simp] theorem State.withLgc_lnk (s : State) (v : LogicState) : (s.withLgc v).lnk = s.lnk := rfl
@[simp] theorem State.withLgc_brg (s : State) (v : LogicState) : (s.withLgc v).brg = s.brg := rfl
@[simp] theorem State.withLgc_smp (s : State) (v : LogicState) : (s.withLgc v).smp = s.smp := rfl
@[simp] theorem State.withLgc_ddc (s : State) (v : LogicState) : (s.withLgc v).ddc = s.ddc := rfl
@[simp] theorem State.withLgc_ctx (s : State) (v : LogicState) : (s.withLgc v).ctx = s.ctx := rfl
@[simp] theorem State.withLgc_scan (s : State) (v : LogicState) : (s.withLgc v).scan = s.scan := rfl
@[simp] theorem State.withLgc_lmdTx (s : State) (v : LogicState) : (s.withLgc v).lmdTx = s.lmdTx := rfl
@[simp] theorem State.withLgc_lmdRx (s : State) (v : LogicState) : (s.withLgc v).lmdRx = s.lmdRx := rfl
@[simp] theorem State.withLgc_spt (s : State) (v : LogicState) : (s.withLgc v).spt = s.spt := rfl
@[simp] theorem State.withLgc_pin (s : State) (v : LogicState) : (s.withLgc v).pin = s.pin := rfl
@[simp] theorem State.withLgc_bin (s : State) (v : LogicState) : (s.withLgc v).bin = s.bin := rfl
@[simp] theorem State.withLgc_pll (s : State) (v : LogicState) : (s.withLgc v).pll = s.pll := rfl
@[simp] theorem State.withLgc_mon (s : State) (v : LogicState) : (s.withLgc v).mon = s.mon := rfl
@[simp] theorem State.withLgc_wear (s : State) (v : LogicState) : (s.withLgc v).wear = s.wear := rfl
@[simp] theorem State.withLgc_str (s : State) (v : LogicState) : (s.withLgc v).str = s.str := rfl
@[simp] theorem State.withLgc_health (s : State) (v : LogicState) : (s.withLgc v).health = s.health := rfl
@[simp] theorem State.withLgc_lgc (s : State) (v : LogicState) : (s.withLgc v).lgc = v := rfl
@[simp] theorem State.withLgc_get (s : State) (v : LogicState) (g : Fld) : (s.withLgc v).get g = s.get g := rfl
@[simp] theorem State.withLgc_bit (s : State) (v : LogicState) (g : Fld) : (s.withLgc v).bit g = s.bit g := rfl
@[simp] theorem State.withLgc_word (s : State) (v : LogicState) (i : Nat) : (s.withLgc v).word i = s.word i := rfl

@[simp] theorem State.withHealth_pending (s : State) (v : Bool) : (s.withHealth v).pending = s.pending := rfl
@[simp] theorem State.withHealth_out (s : State) (v : Bool) : (s.withHealth v).out = s.out := rfl
@[simp] theorem State.withHealth_regs (s : State) (v : Bool) : (s.withHealth v).regs = s.regs := rfl
@[simp] theorem State.withHealth_mask (s : State) (v : Bool) : (s.withHealth v).mask = s.mask := rfl
@[simp] theorem State.withHealth_now (s : State) (v : Bool) : (s.withHealth v).now = s.now := rfl
@[simp] theorem State.withHealth_fresh (s : State) (v : Bool) : (s.withHealth v).fresh = s.fresh := rfl
@[simp] theorem State.withHealth_dev (s : State) (v : Bool) : (s.withHealth v).dev = s.dev := rfl
@[simp] theorem State.withHealth_pwr (s : State) (v : Bool) : (s.withHealth v).pwr = s.pwr := rfl
@[simp] theorem State.withHealth_wch (s : State) (v : Bool) : (s.withHealth v).wch = s.wch := rfl
@[simp] theorem State.withHealth_grd (s : State) (v : Bool) : (s.withHealth v).grd = s.grd := rfl
@[simp] theorem State.withHealth_bus (s : State) (v : Bool) : (s.withHealth v).bus = s.bus := rfl
@[simp] theorem State.withHealth_load (s : State) (v : Bool) : (s.withHealth v).load = s.load := rfl
@[simp] theorem State.withHealth_fab (s : State) (v : Bool) : (s.withHealth v).fab = s.fab := rfl
@[simp] theorem State.withHealth_fix (s : State) (v : Bool) : (s.withHealth v).fix = s.fix := rfl
@[simp] theorem State.withHealth_deep (s : State) (v : Bool) : (s.withHealth v).deep = s.deep := rfl
@[simp] theorem State.withHealth_cph (s : State) (v : Bool) : (s.withHealth v).cph = s.cph := rfl
@[simp] theorem State.withHealth_lnk (s : State) (v : Bool) : (s.withHealth v).lnk = s.lnk := rfl
@[simp] theorem State.withHealth_brg (s : State) (v : Bool) : (s.withHealth v).brg = s.brg := rfl
@[simp] theorem State.withHealth_smp (s : State) (v : Bool) : (s.withHealth v).smp = s.smp := rfl
@[simp] theorem State.withHealth_ddc (s : State) (v : Bool) : (s.withHealth v).ddc = s.ddc := rfl
@[simp] theorem State.withHealth_ctx (s : State) (v : Bool) : (s.withHealth v).ctx = s.ctx := rfl
@[simp] theorem State.withHealth_scan (s : State) (v : Bool) : (s.withHealth v).scan = s.scan := rfl
@[simp] theorem State.withHealth_lmdTx (s : State) (v : Bool) : (s.withHealth v).lmdTx = s.lmdTx := rfl
@[simp] theorem State.withHealth_lmdRx (s : State) (v : Bool) : (s.withHealth v).lmdRx = s.lmdRx := rfl
@[simp] theorem State.withHealth_spt (s : State) (v : Bool) : (s.withHealth v).spt = s.spt := rfl
@[simp] theorem State.withHealth_pin (s : State) (v : Bool) : (s.withHealth v).pin = s.pin := rfl
@[simp] theorem State.withHealth_bin (s : State) (v : Bool) : (s.withHealth v).bin = s.bin := rfl
@[simp] theorem State.withHealth_pll (s : State) (v : Bool) : (s.withHealth v).pll = s.pll := rfl
@[simp] theorem State.withHealth_mon (s : State) (v : Bool) : (s.withHealth v).mon = s.mon := rfl
@[simp] theorem State.withHealth_wear (s : State) (v : Bool) : (s.withHealth v).wear = s.wear := rfl
@[simp] theorem State.withHealth_str (s : State) (v : Bool) : (s.withHealth v).str = s.str := rfl
@[simp] theorem State.withHealth_lgc (s : State) (v : Bool) : (s.withHealth v).lgc = s.lgc := rfl
@[simp] theorem State.withHealth_health (s : State) (v : Bool) : (s.withHealth v).health = v := rfl
@[simp] theorem State.withHealth_get (s : State) (v : Bool) (g : Fld) : (s.withHealth v).get g = s.get g := rfl
@[simp] theorem State.withHealth_bit (s : State) (v : Bool) (g : Fld) : (s.withHealth v).bit g = s.bit g := rfl
@[simp] theorem State.withHealth_word (s : State) (v : Bool) (i : Nat) : (s.withHealth v).word i = s.word i := rfl

@[simp] theorem State.setWear_pending (s : State) (f : WearState → WearState) : (s.setWear f).pending = s.pending := rfl
@[simp] theorem State.setWear_out (s : State) (f : WearState → WearState) : (s.setWear f).out = s.out := rfl
@[simp] theorem State.setWear_regs (s : State) (f : WearState → WearState) : (s.setWear f).regs = s.regs := rfl
@[simp] theorem State.setWear_mask (s : State) (f : WearState → WearState) : (s.setWear f).mask = s.mask := rfl
@[simp] theorem State.setWear_now (s : State) (f : WearState → WearState) : (s.setWear f).now = s.now := rfl
@[simp] theorem State.setWear_fresh (s : State) (f : WearState → WearState) : (s.setWear f).fresh = s.fresh := rfl
@[simp] theorem State.setWear_dev (s : State) (f : WearState → WearState) : (s.setWear f).dev = s.dev := rfl
@[simp] theorem State.setWear_pwr (s : State) (f : WearState → WearState) : (s.setWear f).pwr = s.pwr := rfl
@[simp] theorem State.setWear_wch (s : State) (f : WearState → WearState) : (s.setWear f).wch = s.wch := rfl
@[simp] theorem State.setWear_grd (s : State) (f : WearState → WearState) : (s.setWear f).grd = s.grd := rfl
@[simp] theorem State.setWear_bus (s : State) (f : WearState → WearState) : (s.setWear f).bus = s.bus := rfl
@[simp] theorem State.setWear_load (s : State) (f : WearState → WearState) : (s.setWear f).load = s.load := rfl
@[simp] theorem State.setWear_fab (s : State) (f : WearState → WearState) : (s.setWear f).fab = s.fab := rfl
@[simp] theorem State.setWear_fix (s : State) (f : WearState → WearState) : (s.setWear f).fix = s.fix := rfl
@[simp] theorem State.setWear_deep (s : State) (f : WearState → WearState) : (s.setWear f).deep = s.deep := rfl
@[simp] theorem State.setWear_cph (s : State) (f : WearState → WearState) : (s.setWear f).cph = s.cph := rfl
@[simp] theorem State.setWear_lnk (s : State) (f : WearState → WearState) : (s.setWear f).lnk = s.lnk := rfl
@[simp] theorem State.setWear_brg (s : State) (f : WearState → WearState) : (s.setWear f).brg = s.brg := rfl
@[simp] theorem State.setWear_smp (s : State) (f : WearState → WearState) : (s.setWear f).smp = s.smp := rfl
@[simp] theorem State.setWear_ddc (s : State) (f : WearState → WearState) : (s.setWear f).ddc = s.ddc := rfl
@[simp] theorem State.setWear_ctx (s : State) (f : WearState → WearState) : (s.setWear f).ctx = s.ctx := rfl
@[simp] theorem State.setWear_scan (s : State) (f : WearState → WearState) : (s.setWear f).scan = s.scan := rfl
@[simp] theorem State.setWear_lmdTx (s : State) (f : WearState → WearState) : (s.setWear f).lmdTx = s.lmdTx := rfl
@[simp] theorem State.setWear_lmdRx (s : State) (f : WearState → WearState) : (s.setWear f).lmdRx = s.lmdRx := rfl
@[simp] theorem State.setWear_spt (s : State) (f : WearState → WearState) : (s.setWear f).spt = s.spt := rfl
@[simp] theorem State.setWear_pin (s : State) (f : WearState → WearState) : (s.setWear f).pin = s.pin := rfl
@[simp] theorem State.setWear_bin (s : State) (f : WearState → WearState) : (s.setWear f).bin = s.bin := rfl
@[simp] theorem State.setWear_pll (s : State) (f : WearState → WearState) : (s.setWear f).pll = s.pll := rfl
@[simp] theorem State.setWear_mon (s : State) (f : WearState → WearState) : (s.setWear f).mon = s.mon := rfl
@[simp] theorem State.setWear_str (s : State) (f : WearState → WearState) : (s.setWear f).str = s.str := rfl
@[simp] theorem State.setWear_lgc (s : State) (f : WearState → WearState) : (s.setWear f).lgc = s.lgc := rfl
@[simp] theorem State.setWear_health (s : State) (f : WearState → WearState) : (s.setWear f).health = s.health := rfl
@[simp] theorem State.setWear_get (s : State) (f : WearState → WearState) (g : Fld) : (s.setWear f).get g = s.get g := rfl
@[simp] theorem State.setWear_bit (s : State) (f : WearState → WearState) (g : Fld) : (s.setWear f).bit g = s.bit g := rfl
@[simp] theorem State.setWear_word (s : State) (f : WearState → WearState) (i : Nat) : (s.setWear f).word i = s.word i := rfl

@[simp] theorem State.setPwr_pending (s : State) (f : PwrState → PwrState) : (s.setPwr f).pending = s.pending := rfl
@[simp] theorem State.setPwr_out (s : State) (f : PwrState → PwrState) : (s.setPwr f).out = s.out := rfl
@[simp] theorem State.setPwr_regs (s : State) (f : PwrState → PwrState) : (s.setPwr f).regs = s.regs := rfl
@[simp] theorem State.setPwr_mask (s : State) (f : PwrState → PwrState) : (s.setPwr f).mask = s.mask := rfl
@[simp] theorem State.setPwr_now (s : State) (f : PwrState → PwrState) : (s.setPwr f).now = s.now := rfl
@[simp] theorem State.setPwr_fresh (s : State) (f : PwrState → PwrState) : (s.setPwr f).fresh = s.fresh := rfl
@[simp] theorem State.setPwr_dev (s : State) (f : PwrState → PwrState) : (s.setPwr f).dev = s.dev := rfl
@[simp] theorem State.setPwr_wch (s : State) (f : PwrState → PwrState) : (s.setPwr f).wch = s.wch := rfl
@[simp] theorem State.setPwr_grd (s : State) (f : PwrState → PwrState) : (s.setPwr f).grd = s.grd := rfl
@[simp] theorem State.setPwr_bus (s : State) (f : PwrState → PwrState) : (s.setPwr f).bus = s.bus := rfl
@[simp] theorem State.setPwr_load (s : State) (f : PwrState → PwrState) : (s.setPwr f).load = s.load := rfl
@[simp] theorem State.setPwr_fab (s : State) (f : PwrState → PwrState) : (s.setPwr f).fab = s.fab := rfl
@[simp] theorem State.setPwr_fix (s : State) (f : PwrState → PwrState) : (s.setPwr f).fix = s.fix := rfl
@[simp] theorem State.setPwr_deep (s : State) (f : PwrState → PwrState) : (s.setPwr f).deep = s.deep := rfl
@[simp] theorem State.setPwr_cph (s : State) (f : PwrState → PwrState) : (s.setPwr f).cph = s.cph := rfl
@[simp] theorem State.setPwr_lnk (s : State) (f : PwrState → PwrState) : (s.setPwr f).lnk = s.lnk := rfl
@[simp] theorem State.setPwr_brg (s : State) (f : PwrState → PwrState) : (s.setPwr f).brg = s.brg := rfl
@[simp] theorem State.setPwr_smp (s : State) (f : PwrState → PwrState) : (s.setPwr f).smp = s.smp := rfl
@[simp] theorem State.setPwr_ddc (s : State) (f : PwrState → PwrState) : (s.setPwr f).ddc = s.ddc := rfl
@[simp] theorem State.setPwr_ctx (s : State) (f : PwrState → PwrState) : (s.setPwr f).ctx = s.ctx := rfl
@[simp] theorem State.setPwr_scan (s : State) (f : PwrState → PwrState) : (s.setPwr f).scan = s.scan := rfl
@[simp] theorem State.setPwr_lmdTx (s : State) (f : PwrState → PwrState) : (s.setPwr f).lmdTx = s.lmdTx := rfl
@[simp] theorem State.setPwr_lmdRx (s : State) (f : PwrState → PwrState) : (s.setPwr f).lmdRx = s.lmdRx := rfl
@[simp] theorem State.setPwr_spt (s : State) (f : PwrState → PwrState) : (s.setPwr f).spt = s.spt := rfl
@[simp] theorem State.setPwr_pin (s : State) (f : PwrState → PwrState) : (s.setPwr f).pin = s.pin := rfl
@[simp] theorem State.setPwr_bin (s : State) (f : PwrState → PwrState) : (s.setPwr f).bin = s.bin := rfl
@[simp] theorem State.setPwr_pll (s : State) (f : PwrState → PwrState) : (s.setPwr f).pll = s.pll := rfl
@[simp] theorem State.setPwr_mon (s : State) (f : PwrState → PwrState) : (s.setPwr f).mon = s.mon := rfl
@[simp] theorem State.setPwr_wear (s : State) (f : PwrState → PwrState) : (s.setPwr f).wear = s.wear := rfl
@[simp] theorem State.setPwr_str (s : State) (f : PwrState → PwrState) : (s.setPwr f).str = s.str := rfl
@[simp] theorem State.setPwr_lgc (s : State) (f : PwrState → PwrState) : (s.setPwr f).lgc = s.lgc := rfl
@[simp] theorem State.setPwr_health (s : State) (f : PwrState → PwrState) : (s.setPwr f).health = s.health := rfl
@[simp] theorem State.setPwr_get (s : State) (f : PwrState → PwrState) (g : Fld) : (s.setPwr f).get g = s.get g := rfl
@[simp] theorem State.setPwr_bit (s : State) (f : PwrState → PwrState) (g : Fld) : (s.setPwr f).bit g = s.bit g := rfl
@[simp] theorem State.setPwr_word (s : State) (f : PwrState → PwrState) (i : Nat) : (s.setPwr f).word i = s.word i := rfl

@[simp] theorem State.setMon_pending (s : State) (f : MonState → MonState) : (s.setMon f).pending = s.pending := rfl
@[simp] theorem State.setMon_out (s : State) (f : MonState → MonState) : (s.setMon f).out = s.out := rfl
@[simp] theorem State.setMon_regs (s : State) (f : MonState → MonState) : (s.setMon f).regs = s.regs := rfl
@[simp] theorem State.setMon_mask (s : State) (f : MonState → MonState) : (s.setMon f).mask = s.mask := rfl
@[simp] theorem State.setMon_now (s : State) (f : MonState → MonState) : (s.setMon f).now = s.now := rfl
@[simp] theorem State.setMon_fresh (s : State) (f : MonState → MonState) : (s.setMon f).fresh = s.fresh := rfl
@[simp] theorem State.setMon_dev (s : State) (f : MonState → MonState) : (s.setMon f).dev = s.dev := rfl
@[simp] theorem State.setMon_pwr (s : State) (f : MonState → MonState) : (s.setMon f).pwr = s.pwr := rfl
@[simp] theorem State.setMon_wch (s : State) (f : MonState → MonState) : (s.setMon f).wch = s.wch := rfl
@[simp] theorem State.setMon_grd (s : State) (f : MonState → MonState) : (s.setMon f).grd = s.grd := rfl
@[simp] theorem State.setMon_bus (s : State) (f : MonState → MonState) : (s.setMon f).bus = s.bus := rfl
@[simp] theorem State.setMon_load (s : State) (f : MonState → MonState) : (s.setMon f).load = s.load := rfl
@[simp] theorem State.setMon_fab (s : State) (f : MonState → MonState) : (s.setMon f).fab = s.fab := rfl
@[simp] theorem State.setMon_fix (s : State) (f : MonState → MonState) : (s.setMon f).fix = s.fix := rfl
@[simp] theorem State.setMon_deep (s : State) (f : MonState → MonState) : (s.setMon f).deep = s.deep := rfl
@[simp] theorem State.setMon_cph (s : State) (f : MonState → MonState) : (s.setMon f).cph = s.cph := rfl
@[simp] theorem State.setMon_lnk (s : State) (f : MonState → MonState) : (s.setMon f).lnk = s.lnk := rfl
@[simp] theorem State.setMon_brg (s : State) (f : MonState → MonState) : (s.setMon f).brg = s.brg := rfl
@[simp] theorem State.setMon_smp (s : State) (f : MonState → MonState) : (s.setMon f).smp = s.smp := rfl
@[simp] theorem State.setMon_ddc (s : State) (f : MonState → MonState) : (s.setMon f).ddc = s.ddc := rfl
@[simp] theorem State.setMon_ctx (s : State) (f : MonState → MonState) : (s.setMon f).ctx = s.ctx := rfl
@[simp] theorem State.setMon_scan (s : State) (f : MonState → MonState) : (s.setMon f).scan = s.scan := rfl
@[simp] theorem State.setMon_lmdTx (s : State) (f : MonState → MonState) : (s.setMon f).lmdTx = s.lmdTx := rfl
@[simp] theorem State.setMon_lmdRx (s : State) (f : MonState → MonState) : (s.setMon f).lmdRx = s.lmdRx := rfl
@[simp] theorem State.setMon_spt (s : State) (f : MonState → MonState) : (s.setMon f).spt = s.spt := rfl
@[simp] theorem State.setMon_pin (s : State) (f : MonState → MonState) : (s.setMon f).pin = s.pin := rfl
@[simp] theorem State.setMon_bin (s : State) (f : MonState → MonState) : (s.setMon f).bin = s.bin := rfl
@[simp] theorem State.setMon_pll (s : State) (f : MonState → MonState) : (s.setMon f).pll = s.pll := rfl
@[simp] theorem State.setMon_wear (s : State) (f : MonState → MonState) : (s.setMon f).wear = s.wear := rfl
@[simp] theorem State.setMon_str (s : State) (f : MonState → MonState) : (s.setMon f).str = s.str := rfl
@[simp] theorem State.setMon_lgc (s : State) (f : MonState → MonState) : (s.setMon f).lgc = s.lgc := rfl
@[simp] theorem State.setMon_health (s : State) (f : MonState → MonState) : (s.setMon f).health = s.health := rfl
@[simp] theorem State.setMon_get (s : State) (f : MonState → MonState) (g : Fld) : (s.setMon f).get g = s.get g := rfl
@[simp] theorem State.setMon_bit (s : State) (f : MonState → MonState) (g : Fld) : (s.setMon f).bit g = s.bit g := rfl
@[simp] theorem State.setMon_word (s : State) (f : MonState → MonState) (i : Nat) : (s.setMon f).word i = s.word i := rfl

@[simp] theorem State.setLoad_pending (s : State) (f : LoadState → LoadState) : (s.setLoad f).pending = s.pending := rfl
@[simp] theorem State.setLoad_out (s : State) (f : LoadState → LoadState) : (s.setLoad f).out = s.out := rfl
@[simp] theorem State.setLoad_regs (s : State) (f : LoadState → LoadState) : (s.setLoad f).regs = s.regs := rfl
@[simp] theorem State.setLoad_mask (s : State) (f : LoadState → LoadState) : (s.setLoad f).mask = s.mask := rfl
@[simp] theorem State.setLoad_now (s : State) (f : LoadState → LoadState) : (s.setLoad f).now = s.now := rfl
@[simp] theorem State.setLoad_fresh (s : State) (f : LoadState → LoadState) : (s.setLoad f).fresh = s.fresh := rfl
@[simp] theorem State.setLoad_dev (s : State) (f : LoadState → LoadState) : (s.setLoad f).dev = s.dev := rfl
@[simp] theorem State.setLoad_pwr (s : State) (f : LoadState → LoadState) : (s.setLoad f).pwr = s.pwr := rfl
@[simp] theorem State.setLoad_wch (s : State) (f : LoadState → LoadState) : (s.setLoad f).wch = s.wch := rfl
@[simp] theorem State.setLoad_grd (s : State) (f : LoadState → LoadState) : (s.setLoad f).grd = s.grd := rfl
@[simp] theorem State.setLoad_bus (s : State) (f : LoadState → LoadState) : (s.setLoad f).bus = s.bus := rfl
@[simp] theorem State.setLoad_fab (s : State) (f : LoadState → LoadState) : (s.setLoad f).fab = s.fab := rfl
@[simp] theorem State.setLoad_fix (s : State) (f : LoadState → LoadState) : (s.setLoad f).fix = s.fix := rfl
@[simp] theorem State.setLoad_deep (s : State) (f : LoadState → LoadState) : (s.setLoad f).deep = s.deep := rfl
@[simp] theorem State.setLoad_cph (s : State) (f : LoadState → LoadState) : (s.setLoad f).cph = s.cph := rfl
@[simp] theorem State.setLoad_lnk (s : State) (f : LoadState → LoadState) : (s.setLoad f).lnk = s.lnk := rfl
@[simp] theorem State.setLoad_brg (s : State) (f : LoadState → LoadState) : (s.setLoad f).brg = s.brg := rfl
@[simp] theorem State.setLoad_smp (s : State) (f : LoadState → LoadState) : (s.setLoad f).smp = s.smp := rfl
@[simp] theorem State.setLoad_ddc (s : State) (f : LoadState → LoadState) : (s.setLoad f).ddc = s.ddc := rfl
@[simp] theorem State.setLoad_ctx (s : State) (f : LoadState → LoadState) : (s.setLoad f).ctx = s.ctx := rfl
@[simp] theorem State.setLoad_scan (s : State) (f : LoadState → LoadState) : (s.setLoad f).scan = s.scan := rfl
@[simp] theorem State.setLoad_lmdTx (s : State) (f : LoadState → LoadState) : (s.setLoad f).lmdTx = s.lmdTx := rfl
@[simp] theorem State.setLoad_lmdRx (s : State) (f : LoadState → LoadState) : (s.setLoad f).lmdRx = s.lmdRx := rfl
@[simp] theorem State.setLoad_spt (s : State) (f : LoadState → LoadState) : (s.setLoad f).spt = s.spt := rfl
@[simp] theorem State.setLoad_pin (s : State) (f : LoadState → LoadState) : (s.setLoad f).pin = s.pin := rfl
@[simp] theorem State.setLoad_bin (s : State) (f : LoadState → LoadState) : (s.setLoad f).bin = s.bin := rfl
@[simp] theorem State.setLoad_pll (s : State) (f : LoadState → LoadState) : (s.setLoad f).pll = s.pll := rfl
@[simp] theorem State.setLoad_mon (s : State) (f : LoadState → LoadState) : (s.setLoad f).mon = s.mon := rfl
@[simp] theorem State.setLoad_wear (s : State) (f : LoadState → LoadState) : (s.setLoad f).wear = s.wear := rfl
@[simp] theorem State.setLoad_str (s : State) (f : LoadState → LoadState) : (s.setLoad f).str = s.str := rfl
@[simp] theorem State.setLoad_lgc (s : State) (f : LoadState → LoadState) : (s.setLoad f).lgc = s.lgc := rfl
@[simp] theorem State.setLoad_health (s : State) (f : LoadState → LoadState) : (s.setLoad f).health = s.health := rfl
@[simp] theorem State.setLoad_get (s : State) (f : LoadState → LoadState) (g : Fld) : (s.setLoad f).get g = s.get g := rfl
@[simp] theorem State.setLoad_bit (s : State) (f : LoadState → LoadState) (g : Fld) : (s.setLoad f).bit g = s.bit g := rfl
@[simp] theorem State.setLoad_word (s : State) (f : LoadState → LoadState) (i : Nat) : (s.setLoad f).word i = s.word i := rfl

@[simp] theorem State.setGrd_pending (s : State) (f : GrdState → GrdState) : (s.setGrd f).pending = s.pending := rfl
@[simp] theorem State.setGrd_out (s : State) (f : GrdState → GrdState) : (s.setGrd f).out = s.out := rfl
@[simp] theorem State.setGrd_regs (s : State) (f : GrdState → GrdState) : (s.setGrd f).regs = s.regs := rfl
@[simp] theorem State.setGrd_mask (s : State) (f : GrdState → GrdState) : (s.setGrd f).mask = s.mask := rfl
@[simp] theorem State.setGrd_now (s : State) (f : GrdState → GrdState) : (s.setGrd f).now = s.now := rfl
@[simp] theorem State.setGrd_fresh (s : State) (f : GrdState → GrdState) : (s.setGrd f).fresh = s.fresh := rfl
@[simp] theorem State.setGrd_dev (s : State) (f : GrdState → GrdState) : (s.setGrd f).dev = s.dev := rfl
@[simp] theorem State.setGrd_pwr (s : State) (f : GrdState → GrdState) : (s.setGrd f).pwr = s.pwr := rfl
@[simp] theorem State.setGrd_wch (s : State) (f : GrdState → GrdState) : (s.setGrd f).wch = s.wch := rfl
@[simp] theorem State.setGrd_bus (s : State) (f : GrdState → GrdState) : (s.setGrd f).bus = s.bus := rfl
@[simp] theorem State.setGrd_load (s : State) (f : GrdState → GrdState) : (s.setGrd f).load = s.load := rfl
@[simp] theorem State.setGrd_fab (s : State) (f : GrdState → GrdState) : (s.setGrd f).fab = s.fab := rfl
@[simp] theorem State.setGrd_fix (s : State) (f : GrdState → GrdState) : (s.setGrd f).fix = s.fix := rfl
@[simp] theorem State.setGrd_deep (s : State) (f : GrdState → GrdState) : (s.setGrd f).deep = s.deep := rfl
@[simp] theorem State.setGrd_cph (s : State) (f : GrdState → GrdState) : (s.setGrd f).cph = s.cph := rfl
@[simp] theorem State.setGrd_lnk (s : State) (f : GrdState → GrdState) : (s.setGrd f).lnk = s.lnk := rfl
@[simp] theorem State.setGrd_brg (s : State) (f : GrdState → GrdState) : (s.setGrd f).brg = s.brg := rfl
@[simp] theorem State.setGrd_smp (s : State) (f : GrdState → GrdState) : (s.setGrd f).smp = s.smp := rfl
@[simp] theorem State.setGrd_ddc (s : State) (f : GrdState → GrdState) : (s.setGrd f).ddc = s.ddc := rfl
@[simp] theorem State.setGrd_ctx (s : State) (f : GrdState → GrdState) : (s.setGrd f).ctx = s.ctx := rfl
@[simp] theorem State.setGrd_scan (s : State) (f : GrdState → GrdState) : (s.setGrd f).scan = s.scan := rfl
@[simp] theorem State.setGrd_lmdTx (s : State) (f : GrdState → GrdState) : (s.setGrd f).lmdTx = s.lmdTx := rfl
@[simp] theorem State.setGrd_lmdRx (s : State) (f : GrdState → GrdState) : (s.setGrd f).lmdRx = s.lmdRx := rfl
@[simp] theorem State.setGrd_spt (s : State) (f : GrdState → GrdState) : (s.setGrd f).spt = s.spt := rfl
@[simp] theorem State.setGrd_pin (s : State) (f : GrdState → GrdState) : (s.setGrd f).pin = s.pin := rfl
@[simp] theorem State.setGrd_bin (s : State) (f : GrdState → GrdState) : (s.setGrd f).bin = s.bin := rfl
@[simp] theorem State.setGrd_pll (s : State) (f : GrdState → GrdState) : (s.setGrd f).pll = s.pll := rfl
@[simp] theorem State.setGrd_mon (s : State) (f : GrdState → GrdState) : (s.setGrd f).mon = s.mon := rfl
@[simp] theorem State.setGrd_wear (s : State) (f : GrdState → GrdState) : (s.setGrd f).wear = s.wear := rfl
@[simp] theorem State.setGrd_str (s : State) (f : GrdState → GrdState) : (s.setGrd f).str = s.str := rfl
@[simp] theorem State.setGrd_lgc (s : State) (f : GrdState → GrdState) : (s.setGrd f).lgc = s.lgc := rfl
@[simp] theorem State.setGrd_health (s : State) (f : GrdState → GrdState) : (s.setGrd f).health = s.health := rfl
@[simp] theorem State.setGrd_get (s : State) (f : GrdState → GrdState) (g : Fld) : (s.setGrd f).get g = s.get g := rfl
@[simp] theorem State.setGrd_bit (s : State) (f : GrdState → GrdState) (g : Fld) : (s.setGrd f).bit g = s.bit g := rfl
@[simp] theorem State.setGrd_word (s : State) (f : GrdState → GrdState) (i : Nat) : (s.setGrd f).word i = s.word i := rfl

@[simp] theorem State.setFab_pending (s : State) (f : FabState → FabState) : (s.setFab f).pending = s.pending := rfl
@[simp] theorem State.setFab_out (s : State) (f : FabState → FabState) : (s.setFab f).out = s.out := rfl
@[simp] theorem State.setFab_regs (s : State) (f : FabState → FabState) : (s.setFab f).regs = s.regs := rfl
@[simp] theorem State.setFab_mask (s : State) (f : FabState → FabState) : (s.setFab f).mask = s.mask := rfl
@[simp] theorem State.setFab_now (s : State) (f : FabState → FabState) : (s.setFab f).now = s.now := rfl
@[simp] theorem State.setFab_fresh (s : State) (f : FabState → FabState) : (s.setFab f).fresh = s.fresh := rfl
@[simp] theorem State.setFab_dev (s : State) (f : FabState → FabState) : (s.setFab f).dev = s.dev := rfl
@[simp] theorem State.setFab_pwr (s : State) (f : FabState → FabState) : (s.setFab f).pwr = s.pwr := rfl
@[simp] theorem State.setFab_wch (s : State) (f : FabState → FabState) : (s.setFab f).wch = s.wch := rfl
@[simp] theorem State.setFab_grd (s : State) (f : FabState → FabState) : (s.setFab f).grd = s.grd := rfl
@[simp] theorem State.setFab_bus (s : State) (f : FabState → FabState) : (s.setFab f).bus = s.bus := rfl
@[simp] theorem State.setFab_load (s : State) (f : FabState → FabState) : (s.setFab f).load = s.load := rfl
@[simp] theorem State.setFab_fix (s : State) (f : FabState → FabState) : (s.setFab f).fix = s.fix := rfl
@[simp] theorem State.setFab_deep (s : State) (f : FabState → FabState) : (s.setFab f).deep = s.deep := rfl
@[simp] theorem State.setFab_cph (s : State) (f : FabState → FabState) : (s.setFab f).cph = s.cph := rfl
@[simp] theorem State.setFab_lnk (s : State) (f : FabState → FabState) : (s.setFab f).lnk = s.lnk := rfl
@[simp] theorem State.setFab_brg (s : State) (f : FabState → FabState) : (s.setFab f).brg = s.brg := rfl
@[simp] theorem State.setFab_smp (s : State) (f : FabState → FabState) : (s.setFab f).smp = s.smp := rfl
@[simp] theorem State.setFab_ddc (s : State) (f : FabState → FabState) : (s.setFab f).ddc = s.ddc := rfl
@[simp] theorem State.setFab_ctx (s : State) (f : FabState → FabState) : (s.setFab f).ctx = s.ctx := rfl
@[simp] theorem State.setFab_scan (s : State) (f : FabState → FabState) : (s.setFab f).scan = s.scan := rfl
@[simp] theorem State.setFab_lmdTx (s : State) (f : FabState → FabState) : (s.setFab f).lmdTx = s.lmdTx := rfl
@[simp] theorem State.setFab_lmdRx (s : State) (f : FabState → FabState) : (s.setFab f).lmdRx = s.lmdRx := rfl
@[simp] theorem State.setFab_spt (s : State) (f : FabState → FabState) : (s.setFab f).spt = s.spt := rfl
@[simp] theorem State.setFab_pin (s : State) (f : FabState → FabState) : (s.setFab f).pin = s.pin := rfl
@[simp] theorem State.setFab_bin (s : State) (f : FabState → FabState) : (s.setFab f).bin = s.bin := rfl
@[simp] theorem State.setFab_pll (s : State) (f : FabState → FabState) : (s.setFab f).pll = s.pll := rfl
@[simp] theorem State.setFab_mon (s : State) (f : FabState → FabState) : (s.setFab f).mon = s.mon := rfl
@[simp] theorem State.setFab_wear (s : State) (f : FabState → FabState) : (s.setFab f).wear = s.wear := rfl
@[simp] theorem State.setFab_str (s : State) (f : FabState → FabState) : (s.setFab f).str = s.str := rfl
@[simp] theorem State.setFab_lgc (s : State) (f : FabState → FabState) : (s.setFab f).lgc = s.lgc := rfl
@[simp] theorem State.setFab_health (s : State) (f : FabState → FabState) : (s.setFab f).health = s.health := rfl
@[simp] theorem State.setFab_get (s : State) (f : FabState → FabState) (g : Fld) : (s.setFab f).get g = s.get g := rfl
@[simp] theorem State.setFab_bit (s : State) (f : FabState → FabState) (g : Fld) : (s.setFab f).bit g = s.bit g := rfl
@[simp] theorem State.setFab_word (s : State) (f : FabState → FabState) (i : Nat) : (s.setFab f).word i = s.word i := rfl

@[simp] theorem State.setLgc_pending (s : State) (f : LogicState → LogicState) : (s.setLgc f).pending = s.pending := rfl
@[simp] theorem State.setLgc_out (s : State) (f : LogicState → LogicState) : (s.setLgc f).out = s.out := rfl
@[simp] theorem State.setLgc_regs (s : State) (f : LogicState → LogicState) : (s.setLgc f).regs = s.regs := rfl
@[simp] theorem State.setLgc_mask (s : State) (f : LogicState → LogicState) : (s.setLgc f).mask = s.mask := rfl
@[simp] theorem State.setLgc_now (s : State) (f : LogicState → LogicState) : (s.setLgc f).now = s.now := rfl
@[simp] theorem State.setLgc_fresh (s : State) (f : LogicState → LogicState) : (s.setLgc f).fresh = s.fresh := rfl
@[simp] theorem State.setLgc_dev (s : State) (f : LogicState → LogicState) : (s.setLgc f).dev = s.dev := rfl
@[simp] theorem State.setLgc_pwr (s : State) (f : LogicState → LogicState) : (s.setLgc f).pwr = s.pwr := rfl
@[simp] theorem State.setLgc_wch (s : State) (f : LogicState → LogicState) : (s.setLgc f).wch = s.wch := rfl
@[simp] theorem State.setLgc_grd (s : State) (f : LogicState → LogicState) : (s.setLgc f).grd = s.grd := rfl
@[simp] theorem State.setLgc_bus (s : State) (f : LogicState → LogicState) : (s.setLgc f).bus = s.bus := rfl
@[simp] theorem State.setLgc_load (s : State) (f : LogicState → LogicState) : (s.setLgc f).load = s.load := rfl
@[simp] theorem State.setLgc_fab (s : State) (f : LogicState → LogicState) : (s.setLgc f).fab = s.fab := rfl
@[simp] theorem State.setLgc_fix (s : State) (f : LogicState → LogicState) : (s.setLgc f).fix = s.fix := rfl
@[simp] theorem State.setLgc_deep (s : State) (f : LogicState → LogicState) : (s.setLgc f).deep = s.deep := rfl
@[simp] theorem State.setLgc_cph (s : State) (f : LogicState → LogicState) : (s.setLgc f).cph = s.cph := rfl
@[simp] theorem State.setLgc_lnk (s : State) (f : LogicState → LogicState) : (s.setLgc f).lnk = s.lnk := rfl
@[simp] theorem State.setLgc_brg (s : State) (f : LogicState → LogicState) : (s.setLgc f).brg = s.brg := rfl
@[simp] theorem State.setLgc_smp (s : State) (f : LogicState → LogicState) : (s.setLgc f).smp = s.smp := rfl
@[simp] theorem State.setLgc_ddc (s : State) (f : LogicState → LogicState) : (s.setLgc f).ddc = s.ddc := rfl
@[simp] theorem State.setLgc_ctx (s : State) (f : LogicState → LogicState) : (s.setLgc f).ctx = s.ctx := rfl
@[simp] theorem State.setLgc_scan (s : State) (f : LogicState → LogicState) : (s.setLgc f).scan = s.scan := rfl
@[simp] theorem State.setLgc_lmdTx (s : State) (f : LogicState → LogicState) : (s.setLgc f).lmdTx = s.lmdTx := rfl
@[simp] theorem State.setLgc_lmdRx (s : State) (f : LogicState → LogicState) : (s.setLgc f).lmdRx = s.lmdRx := rfl
@[simp] theorem State.setLgc_spt (s : State) (f : LogicState → LogicState) : (s.setLgc f).spt = s.spt := rfl
@[simp] theorem State.setLgc_pin (s : State) (f : LogicState → LogicState) : (s.setLgc f).pin = s.pin := rfl
@[simp] theorem State.setLgc_bin (s : State) (f : LogicState → LogicState) : (s.setLgc f).bin = s.bin := rfl
@[simp] theorem State.setLgc_pll (s : State) (f : LogicState → LogicState) : (s.setLgc f).pll = s.pll := rfl
@[simp] theorem State.setLgc_mon (s : State) (f : LogicState → LogicState) : (s.setLgc f).mon = s.mon := rfl
@[simp] theorem State.setLgc_wear (s : State) (f : LogicState → LogicState) : (s.setLgc f).wear = s.wear := rfl
@[simp] theorem State.setLgc_str (s : State) (f : LogicState → LogicState) : (s.setLgc f).str = s.str := rfl
@[simp] theorem State.setLgc_health (s : State) (f : LogicState → LogicState) : (s.setLgc f).health = s.health := rfl
@[simp] theorem State.setLgc_get (s : State) (f : LogicState → LogicState) (g : Fld) : (s.setLgc f).get g = s.get g := rfl
@[simp] theorem State.setLgc_bit (s : State) (f : LogicState → LogicState) (g : Fld) : (s.setLgc f).bit g = s.bit g := rfl
@[simp] theorem State.setLgc_word (s : State) (f : LogicState → LogicState) (i : Nat) : (s.setLgc f).word i = s.word i := rfl

@[simp] theorem State.putTx_pending (s : State) (t : Nat) (v : LmdTx) : (s.putTx t v).pending = s.pending := rfl
@[simp] theorem State.putTx_out (s : State) (t : Nat) (v : LmdTx) : (s.putTx t v).out = s.out := rfl
@[simp] theorem State.putTx_regs (s : State) (t : Nat) (v : LmdTx) : (s.putTx t v).regs = s.regs := rfl
@[simp] theorem State.putTx_mask (s : State) (t : Nat) (v : LmdTx) : (s.putTx t v).mask = s.mask := rfl
@[simp] theorem State.putTx_now (s : State) (t : Nat) (v : LmdTx) : (s.putTx t v).now = s.now := rfl
@[simp] theorem State.putTx_fresh (s : State) (t : Nat) (v : LmdTx) : (s.putTx t v).fresh = s.fresh := rfl
@[simp] theorem State.putTx_dev (s : State) (t : Nat) (v : LmdTx) : (s.putTx t v).dev = s.dev := rfl
@[simp] theorem State.putTx_pwr (s : State) (t : Nat) (v : LmdTx) : (s.putTx t v).pwr = s.pwr := rfl
@[simp] theorem State.putTx_wch (s : State) (t : Nat) (v : LmdTx) : (s.putTx t v).wch = s.wch := rfl
@[simp] theorem State.putTx_grd (s : State) (t : Nat) (v : LmdTx) : (s.putTx t v).grd = s.grd := rfl
@[simp] theorem State.putTx_bus (s : State) (t : Nat) (v : LmdTx) : (s.putTx t v).bus = s.bus := rfl
@[simp] theorem State.putTx_load (s : State) (t : Nat) (v : LmdTx) : (s.putTx t v).load = s.load := rfl
@[simp] theorem State.putTx_fab (s : State) (t : Nat) (v : LmdTx) : (s.putTx t v).fab = s.fab := rfl
@[simp] theorem State.putTx_fix (s : State) (t : Nat) (v : LmdTx) : (s.putTx t v).fix = s.fix := rfl
@[simp] theorem State.putTx_deep (s : State) (t : Nat) (v : LmdTx) : (s.putTx t v).deep = s.deep := rfl
@[simp] theorem State.putTx_cph (s : State) (t : Nat) (v : LmdTx) : (s.putTx t v).cph = s.cph := rfl
@[simp] theorem State.putTx_lnk (s : State) (t : Nat) (v : LmdTx) : (s.putTx t v).lnk = s.lnk := rfl
@[simp] theorem State.putTx_brg (s : State) (t : Nat) (v : LmdTx) : (s.putTx t v).brg = s.brg := rfl
@[simp] theorem State.putTx_smp (s : State) (t : Nat) (v : LmdTx) : (s.putTx t v).smp = s.smp := rfl
@[simp] theorem State.putTx_ddc (s : State) (t : Nat) (v : LmdTx) : (s.putTx t v).ddc = s.ddc := rfl
@[simp] theorem State.putTx_ctx (s : State) (t : Nat) (v : LmdTx) : (s.putTx t v).ctx = s.ctx := rfl
@[simp] theorem State.putTx_scan (s : State) (t : Nat) (v : LmdTx) : (s.putTx t v).scan = s.scan := rfl
@[simp] theorem State.putTx_lmdRx (s : State) (t : Nat) (v : LmdTx) : (s.putTx t v).lmdRx = s.lmdRx := rfl
@[simp] theorem State.putTx_spt (s : State) (t : Nat) (v : LmdTx) : (s.putTx t v).spt = s.spt := rfl
@[simp] theorem State.putTx_pin (s : State) (t : Nat) (v : LmdTx) : (s.putTx t v).pin = s.pin := rfl
@[simp] theorem State.putTx_bin (s : State) (t : Nat) (v : LmdTx) : (s.putTx t v).bin = s.bin := rfl
@[simp] theorem State.putTx_pll (s : State) (t : Nat) (v : LmdTx) : (s.putTx t v).pll = s.pll := rfl
@[simp] theorem State.putTx_mon (s : State) (t : Nat) (v : LmdTx) : (s.putTx t v).mon = s.mon := rfl
@[simp] theorem State.putTx_wear (s : State) (t : Nat) (v : LmdTx) : (s.putTx t v).wear = s.wear := rfl
@[simp] theorem State.putTx_str (s : State) (t : Nat) (v : LmdTx) : (s.putTx t v).str = s.str := rfl
@[simp] theorem State.putTx_lgc (s : State) (t : Nat) (v : LmdTx) : (s.putTx t v).lgc = s.lgc := rfl
@[simp] theorem State.putTx_health (s : State) (t : Nat) (v : LmdTx) : (s.putTx t v).health = s.health := rfl
@[simp] theorem State.putTx_get (s : State) (t : Nat) (v : LmdTx) (g : Fld) : (s.putTx t v).get g = s.get g := rfl
@[simp] theorem State.putTx_bit (s : State) (t : Nat) (v : LmdTx) (g : Fld) : (s.putTx t v).bit g = s.bit g := rfl
@[simp] theorem State.putTx_word (s : State) (t : Nat) (v : LmdTx) (i : Nat) : (s.putTx t v).word i = s.word i := rfl

@[simp] theorem State.putSp_pending (s : State) (n : Nat) (v : SptPort) : (s.putSp n v).pending = s.pending := rfl
@[simp] theorem State.putSp_out (s : State) (n : Nat) (v : SptPort) : (s.putSp n v).out = s.out := rfl
@[simp] theorem State.putSp_regs (s : State) (n : Nat) (v : SptPort) : (s.putSp n v).regs = s.regs := rfl
@[simp] theorem State.putSp_mask (s : State) (n : Nat) (v : SptPort) : (s.putSp n v).mask = s.mask := rfl
@[simp] theorem State.putSp_now (s : State) (n : Nat) (v : SptPort) : (s.putSp n v).now = s.now := rfl
@[simp] theorem State.putSp_fresh (s : State) (n : Nat) (v : SptPort) : (s.putSp n v).fresh = s.fresh := rfl
@[simp] theorem State.putSp_dev (s : State) (n : Nat) (v : SptPort) : (s.putSp n v).dev = s.dev := rfl
@[simp] theorem State.putSp_pwr (s : State) (n : Nat) (v : SptPort) : (s.putSp n v).pwr = s.pwr := rfl
@[simp] theorem State.putSp_wch (s : State) (n : Nat) (v : SptPort) : (s.putSp n v).wch = s.wch := rfl
@[simp] theorem State.putSp_grd (s : State) (n : Nat) (v : SptPort) : (s.putSp n v).grd = s.grd := rfl
@[simp] theorem State.putSp_bus (s : State) (n : Nat) (v : SptPort) : (s.putSp n v).bus = s.bus := rfl
@[simp] theorem State.putSp_load (s : State) (n : Nat) (v : SptPort) : (s.putSp n v).load = s.load := rfl
@[simp] theorem State.putSp_fab (s : State) (n : Nat) (v : SptPort) : (s.putSp n v).fab = s.fab := rfl
@[simp] theorem State.putSp_fix (s : State) (n : Nat) (v : SptPort) : (s.putSp n v).fix = s.fix := rfl
@[simp] theorem State.putSp_deep (s : State) (n : Nat) (v : SptPort) : (s.putSp n v).deep = s.deep := rfl
@[simp] theorem State.putSp_cph (s : State) (n : Nat) (v : SptPort) : (s.putSp n v).cph = s.cph := rfl
@[simp] theorem State.putSp_lnk (s : State) (n : Nat) (v : SptPort) : (s.putSp n v).lnk = s.lnk := rfl
@[simp] theorem State.putSp_brg (s : State) (n : Nat) (v : SptPort) : (s.putSp n v).brg = s.brg := rfl
@[simp] theorem State.putSp_smp (s : State) (n : Nat) (v : SptPort) : (s.putSp n v).smp = s.smp := rfl
@[simp] theorem State.putSp_ddc (s : State) (n : Nat) (v : SptPort) : (s.putSp n v).ddc = s.ddc := rfl
@[simp] theorem State.putSp_ctx (s : State) (n : Nat) (v : SptPort) : (s.putSp n v).ctx = s.ctx := rfl
@[simp] theorem State.putSp_scan (s : State) (n : Nat) (v : SptPort) : (s.putSp n v).scan = s.scan := rfl
@[simp] theorem State.putSp_lmdTx (s : State) (n : Nat) (v : SptPort) : (s.putSp n v).lmdTx = s.lmdTx := rfl
@[simp] theorem State.putSp_lmdRx (s : State) (n : Nat) (v : SptPort) : (s.putSp n v).lmdRx = s.lmdRx := rfl
@[simp] theorem State.putSp_pin (s : State) (n : Nat) (v : SptPort) : (s.putSp n v).pin = s.pin := rfl
@[simp] theorem State.putSp_bin (s : State) (n : Nat) (v : SptPort) : (s.putSp n v).bin = s.bin := rfl
@[simp] theorem State.putSp_pll (s : State) (n : Nat) (v : SptPort) : (s.putSp n v).pll = s.pll := rfl
@[simp] theorem State.putSp_mon (s : State) (n : Nat) (v : SptPort) : (s.putSp n v).mon = s.mon := rfl
@[simp] theorem State.putSp_wear (s : State) (n : Nat) (v : SptPort) : (s.putSp n v).wear = s.wear := rfl
@[simp] theorem State.putSp_str (s : State) (n : Nat) (v : SptPort) : (s.putSp n v).str = s.str := rfl
@[simp] theorem State.putSp_lgc (s : State) (n : Nat) (v : SptPort) : (s.putSp n v).lgc = s.lgc := rfl
@[simp] theorem State.putSp_health (s : State) (n : Nat) (v : SptPort) : (s.putSp n v).health = s.health := rfl
@[simp] theorem State.putSp_get (s : State) (n : Nat) (v : SptPort) (g : Fld) : (s.putSp n v).get g = s.get g := rfl
@[simp] theorem State.putSp_bit (s : State) (n : Nat) (v : SptPort) (g : Fld) : (s.putSp n v).bit g = s.bit g := rfl
@[simp] theorem State.putSp_word (s : State) (n : Nat) (v : SptPort) (i : Nat) : (s.putSp n v).word i = s.word i := rfl

@[simp] theorem State.putSlot_pending (s : State) (k : Nat) (v : Slot) : (s.putSlot k v).pending = s.pending := rfl
@[simp] theorem State.putSlot_out (s : State) (k : Nat) (v : Slot) : (s.putSlot k v).out = s.out := rfl
@[simp] theorem State.putSlot_regs (s : State) (k : Nat) (v : Slot) : (s.putSlot k v).regs = s.regs := rfl
@[simp] theorem State.putSlot_mask (s : State) (k : Nat) (v : Slot) : (s.putSlot k v).mask = s.mask := rfl
@[simp] theorem State.putSlot_now (s : State) (k : Nat) (v : Slot) : (s.putSlot k v).now = s.now := rfl
@[simp] theorem State.putSlot_fresh (s : State) (k : Nat) (v : Slot) : (s.putSlot k v).fresh = s.fresh := rfl
@[simp] theorem State.putSlot_dev (s : State) (k : Nat) (v : Slot) : (s.putSlot k v).dev = s.dev := rfl
@[simp] theorem State.putSlot_pwr (s : State) (k : Nat) (v : Slot) : (s.putSlot k v).pwr = s.pwr := rfl
@[simp] theorem State.putSlot_wch (s : State) (k : Nat) (v : Slot) : (s.putSlot k v).wch = s.wch := rfl
@[simp] theorem State.putSlot_grd (s : State) (k : Nat) (v : Slot) : (s.putSlot k v).grd = s.grd := rfl
@[simp] theorem State.putSlot_bus (s : State) (k : Nat) (v : Slot) : (s.putSlot k v).bus = s.bus := rfl
@[simp] theorem State.putSlot_load (s : State) (k : Nat) (v : Slot) : (s.putSlot k v).load = s.load := rfl
@[simp] theorem State.putSlot_fab (s : State) (k : Nat) (v : Slot) : (s.putSlot k v).fab = s.fab := rfl
@[simp] theorem State.putSlot_fix (s : State) (k : Nat) (v : Slot) : (s.putSlot k v).fix = s.fix := rfl
@[simp] theorem State.putSlot_deep (s : State) (k : Nat) (v : Slot) : (s.putSlot k v).deep = s.deep := rfl
@[simp] theorem State.putSlot_lnk (s : State) (k : Nat) (v : Slot) : (s.putSlot k v).lnk = s.lnk := rfl
@[simp] theorem State.putSlot_brg (s : State) (k : Nat) (v : Slot) : (s.putSlot k v).brg = s.brg := rfl
@[simp] theorem State.putSlot_smp (s : State) (k : Nat) (v : Slot) : (s.putSlot k v).smp = s.smp := rfl
@[simp] theorem State.putSlot_ddc (s : State) (k : Nat) (v : Slot) : (s.putSlot k v).ddc = s.ddc := rfl
@[simp] theorem State.putSlot_ctx (s : State) (k : Nat) (v : Slot) : (s.putSlot k v).ctx = s.ctx := rfl
@[simp] theorem State.putSlot_scan (s : State) (k : Nat) (v : Slot) : (s.putSlot k v).scan = s.scan := rfl
@[simp] theorem State.putSlot_lmdTx (s : State) (k : Nat) (v : Slot) : (s.putSlot k v).lmdTx = s.lmdTx := rfl
@[simp] theorem State.putSlot_lmdRx (s : State) (k : Nat) (v : Slot) : (s.putSlot k v).lmdRx = s.lmdRx := rfl
@[simp] theorem State.putSlot_spt (s : State) (k : Nat) (v : Slot) : (s.putSlot k v).spt = s.spt := rfl
@[simp] theorem State.putSlot_pin (s : State) (k : Nat) (v : Slot) : (s.putSlot k v).pin = s.pin := rfl
@[simp] theorem State.putSlot_bin (s : State) (k : Nat) (v : Slot) : (s.putSlot k v).bin = s.bin := rfl
@[simp] theorem State.putSlot_pll (s : State) (k : Nat) (v : Slot) : (s.putSlot k v).pll = s.pll := rfl
@[simp] theorem State.putSlot_mon (s : State) (k : Nat) (v : Slot) : (s.putSlot k v).mon = s.mon := rfl
@[simp] theorem State.putSlot_wear (s : State) (k : Nat) (v : Slot) : (s.putSlot k v).wear = s.wear := rfl
@[simp] theorem State.putSlot_str (s : State) (k : Nat) (v : Slot) : (s.putSlot k v).str = s.str := rfl
@[simp] theorem State.putSlot_lgc (s : State) (k : Nat) (v : Slot) : (s.putSlot k v).lgc = s.lgc := rfl
@[simp] theorem State.putSlot_health (s : State) (k : Nat) (v : Slot) : (s.putSlot k v).health = s.health := rfl
@[simp] theorem State.putSlot_get (s : State) (k : Nat) (v : Slot) (g : Fld) : (s.putSlot k v).get g = s.get g := rfl
@[simp] theorem State.putSlot_bit (s : State) (k : Nat) (v : Slot) (g : Fld) : (s.putSlot k v).bit g = s.bit g := rfl
@[simp] theorem State.putSlot_word (s : State) (k : Nat) (v : Slot) (i : Nat) : (s.putSlot k v).word i = s.word i := rfl

@[simp] theorem State.putRx_pending (s : State) (r : Nat) (v : LmdRx) : (s.putRx r v).pending = s.pending := rfl
@[simp] theorem State.putRx_out (s : State) (r : Nat) (v : LmdRx) : (s.putRx r v).out = s.out := rfl
@[simp] theorem State.putRx_regs (s : State) (r : Nat) (v : LmdRx) : (s.putRx r v).regs = s.regs := rfl
@[simp] theorem State.putRx_mask (s : State) (r : Nat) (v : LmdRx) : (s.putRx r v).mask = s.mask := rfl
@[simp] theorem State.putRx_now (s : State) (r : Nat) (v : LmdRx) : (s.putRx r v).now = s.now := rfl
@[simp] theorem State.putRx_fresh (s : State) (r : Nat) (v : LmdRx) : (s.putRx r v).fresh = s.fresh := rfl
@[simp] theorem State.putRx_dev (s : State) (r : Nat) (v : LmdRx) : (s.putRx r v).dev = s.dev := rfl
@[simp] theorem State.putRx_pwr (s : State) (r : Nat) (v : LmdRx) : (s.putRx r v).pwr = s.pwr := rfl
@[simp] theorem State.putRx_wch (s : State) (r : Nat) (v : LmdRx) : (s.putRx r v).wch = s.wch := rfl
@[simp] theorem State.putRx_grd (s : State) (r : Nat) (v : LmdRx) : (s.putRx r v).grd = s.grd := rfl
@[simp] theorem State.putRx_bus (s : State) (r : Nat) (v : LmdRx) : (s.putRx r v).bus = s.bus := rfl
@[simp] theorem State.putRx_load (s : State) (r : Nat) (v : LmdRx) : (s.putRx r v).load = s.load := rfl
@[simp] theorem State.putRx_fab (s : State) (r : Nat) (v : LmdRx) : (s.putRx r v).fab = s.fab := rfl
@[simp] theorem State.putRx_fix (s : State) (r : Nat) (v : LmdRx) : (s.putRx r v).fix = s.fix := rfl
@[simp] theorem State.putRx_deep (s : State) (r : Nat) (v : LmdRx) : (s.putRx r v).deep = s.deep := rfl
@[simp] theorem State.putRx_cph (s : State) (r : Nat) (v : LmdRx) : (s.putRx r v).cph = s.cph := rfl
@[simp] theorem State.putRx_lnk (s : State) (r : Nat) (v : LmdRx) : (s.putRx r v).lnk = s.lnk := rfl
@[simp] theorem State.putRx_brg (s : State) (r : Nat) (v : LmdRx) : (s.putRx r v).brg = s.brg := rfl
@[simp] theorem State.putRx_smp (s : State) (r : Nat) (v : LmdRx) : (s.putRx r v).smp = s.smp := rfl
@[simp] theorem State.putRx_ddc (s : State) (r : Nat) (v : LmdRx) : (s.putRx r v).ddc = s.ddc := rfl
@[simp] theorem State.putRx_ctx (s : State) (r : Nat) (v : LmdRx) : (s.putRx r v).ctx = s.ctx := rfl
@[simp] theorem State.putRx_scan (s : State) (r : Nat) (v : LmdRx) : (s.putRx r v).scan = s.scan := rfl
@[simp] theorem State.putRx_lmdTx (s : State) (r : Nat) (v : LmdRx) : (s.putRx r v).lmdTx = s.lmdTx := rfl
@[simp] theorem State.putRx_spt (s : State) (r : Nat) (v : LmdRx) : (s.putRx r v).spt = s.spt := rfl
@[simp] theorem State.putRx_pin (s : State) (r : Nat) (v : LmdRx) : (s.putRx r v).pin = s.pin := rfl
@[simp] theorem State.putRx_bin (s : State) (r : Nat) (v : LmdRx) : (s.putRx r v).bin = s.bin := rfl
@[simp] theorem State.putRx_pll (s : State) (r : Nat) (v : LmdRx) : (s.putRx r v).pll = s.pll := rfl
@[simp] theorem State.putRx_mon (s : State) (r : Nat) (v : LmdRx) : (s.putRx r v).mon = s.mon := rfl
@[simp] theorem State.putRx_wear (s : State) (r : Nat) (v : LmdRx) : (s.putRx r v).wear = s.wear := rfl
@[simp] theorem State.putRx_str (s : State) (r : Nat) (v : LmdRx) : (s.putRx r v).str = s.str := rfl
@[simp] theorem State.putRx_lgc (s : State) (r : Nat) (v : LmdRx) : (s.putRx r v).lgc = s.lgc := rfl
@[simp] theorem State.putRx_health (s : State) (r : Nat) (v : LmdRx) : (s.putRx r v).health = s.health := rfl
@[simp] theorem State.putRx_get (s : State) (r : Nat) (v : LmdRx) (g : Fld) : (s.putRx r v).get g = s.get g := rfl
@[simp] theorem State.putRx_bit (s : State) (r : Nat) (v : LmdRx) (g : Fld) : (s.putRx r v).bit g = s.bit g := rfl
@[simp] theorem State.putRx_word (s : State) (r : Nat) (v : LmdRx) (i : Nat) : (s.putRx r v).word i = s.word i := rfl

@[simp] theorem State.putPl_pending (s : State) (n : Nat) (v : Pll) : (s.putPl n v).pending = s.pending := rfl
@[simp] theorem State.putPl_out (s : State) (n : Nat) (v : Pll) : (s.putPl n v).out = s.out := rfl
@[simp] theorem State.putPl_regs (s : State) (n : Nat) (v : Pll) : (s.putPl n v).regs = s.regs := rfl
@[simp] theorem State.putPl_mask (s : State) (n : Nat) (v : Pll) : (s.putPl n v).mask = s.mask := rfl
@[simp] theorem State.putPl_now (s : State) (n : Nat) (v : Pll) : (s.putPl n v).now = s.now := rfl
@[simp] theorem State.putPl_fresh (s : State) (n : Nat) (v : Pll) : (s.putPl n v).fresh = s.fresh := rfl
@[simp] theorem State.putPl_dev (s : State) (n : Nat) (v : Pll) : (s.putPl n v).dev = s.dev := rfl
@[simp] theorem State.putPl_pwr (s : State) (n : Nat) (v : Pll) : (s.putPl n v).pwr = s.pwr := rfl
@[simp] theorem State.putPl_wch (s : State) (n : Nat) (v : Pll) : (s.putPl n v).wch = s.wch := rfl
@[simp] theorem State.putPl_grd (s : State) (n : Nat) (v : Pll) : (s.putPl n v).grd = s.grd := rfl
@[simp] theorem State.putPl_bus (s : State) (n : Nat) (v : Pll) : (s.putPl n v).bus = s.bus := rfl
@[simp] theorem State.putPl_load (s : State) (n : Nat) (v : Pll) : (s.putPl n v).load = s.load := rfl
@[simp] theorem State.putPl_fab (s : State) (n : Nat) (v : Pll) : (s.putPl n v).fab = s.fab := rfl
@[simp] theorem State.putPl_fix (s : State) (n : Nat) (v : Pll) : (s.putPl n v).fix = s.fix := rfl
@[simp] theorem State.putPl_deep (s : State) (n : Nat) (v : Pll) : (s.putPl n v).deep = s.deep := rfl
@[simp] theorem State.putPl_cph (s : State) (n : Nat) (v : Pll) : (s.putPl n v).cph = s.cph := rfl
@[simp] theorem State.putPl_lnk (s : State) (n : Nat) (v : Pll) : (s.putPl n v).lnk = s.lnk := rfl
@[simp] theorem State.putPl_brg (s : State) (n : Nat) (v : Pll) : (s.putPl n v).brg = s.brg := rfl
@[simp] theorem State.putPl_smp (s : State) (n : Nat) (v : Pll) : (s.putPl n v).smp = s.smp := rfl
@[simp] theorem State.putPl_ddc (s : State) (n : Nat) (v : Pll) : (s.putPl n v).ddc = s.ddc := rfl
@[simp] theorem State.putPl_ctx (s : State) (n : Nat) (v : Pll) : (s.putPl n v).ctx = s.ctx := rfl
@[simp] theorem State.putPl_scan (s : State) (n : Nat) (v : Pll) : (s.putPl n v).scan = s.scan := rfl
@[simp] theorem State.putPl_lmdTx (s : State) (n : Nat) (v : Pll) : (s.putPl n v).lmdTx = s.lmdTx := rfl
@[simp] theorem State.putPl_lmdRx (s : State) (n : Nat) (v : Pll) : (s.putPl n v).lmdRx = s.lmdRx := rfl
@[simp] theorem State.putPl_spt (s : State) (n : Nat) (v : Pll) : (s.putPl n v).spt = s.spt := rfl
@[simp] theorem State.putPl_pin (s : State) (n : Nat) (v : Pll) : (s.putPl n v).pin = s.pin := rfl
@[simp] theorem State.putPl_bin (s : State) (n : Nat) (v : Pll) : (s.putPl n v).bin = s.bin := rfl
@[simp] theorem State.putPl_mon (s : State) (n : Nat) (v : Pll) : (s.putPl n v).mon = s.mon := rfl
@[simp] theorem State.putPl_wear (s : State) (n : Nat) (v : Pll) : (s.putPl n v).wear = s.wear := rfl
@[simp] theorem State.putPl_str (s : State) (n : Nat) (v : Pll) : (s.putPl n v).str = s.str := rfl
@[simp] theorem State.putPl_lgc (s : State) (n : Nat) (v : Pll) : (s.putPl n v).lgc = s.lgc := rfl
@[simp] theorem State.putPl_health (s : State) (n : Nat) (v : Pll) : (s.putPl n v).health = s.health := rfl
@[simp] theorem State.putPl_get (s : State) (n : Nat) (v : Pll) (g : Fld) : (s.putPl n v).get g = s.get g := rfl
@[simp] theorem State.putPl_bit (s : State) (n : Nat) (v : Pll) (g : Fld) : (s.putPl n v).bit g = s.bit g := rfl
@[simp] theorem State.putPl_word (s : State) (n : Nat) (v : Pll) (i : Nat) : (s.putPl n v).word i = s.word i := rfl

@[simp] theorem State.putLane_pending (s : State) (n : Nat) (v : LnkLane) : (s.putLane n v).pending = s.pending := rfl
@[simp] theorem State.putLane_out (s : State) (n : Nat) (v : LnkLane) : (s.putLane n v).out = s.out := rfl
@[simp] theorem State.putLane_regs (s : State) (n : Nat) (v : LnkLane) : (s.putLane n v).regs = s.regs := rfl
@[simp] theorem State.putLane_mask (s : State) (n : Nat) (v : LnkLane) : (s.putLane n v).mask = s.mask := rfl
@[simp] theorem State.putLane_now (s : State) (n : Nat) (v : LnkLane) : (s.putLane n v).now = s.now := rfl
@[simp] theorem State.putLane_fresh (s : State) (n : Nat) (v : LnkLane) : (s.putLane n v).fresh = s.fresh := rfl
@[simp] theorem State.putLane_dev (s : State) (n : Nat) (v : LnkLane) : (s.putLane n v).dev = s.dev := rfl
@[simp] theorem State.putLane_pwr (s : State) (n : Nat) (v : LnkLane) : (s.putLane n v).pwr = s.pwr := rfl
@[simp] theorem State.putLane_wch (s : State) (n : Nat) (v : LnkLane) : (s.putLane n v).wch = s.wch := rfl
@[simp] theorem State.putLane_grd (s : State) (n : Nat) (v : LnkLane) : (s.putLane n v).grd = s.grd := rfl
@[simp] theorem State.putLane_bus (s : State) (n : Nat) (v : LnkLane) : (s.putLane n v).bus = s.bus := rfl
@[simp] theorem State.putLane_load (s : State) (n : Nat) (v : LnkLane) : (s.putLane n v).load = s.load := rfl
@[simp] theorem State.putLane_fab (s : State) (n : Nat) (v : LnkLane) : (s.putLane n v).fab = s.fab := rfl
@[simp] theorem State.putLane_fix (s : State) (n : Nat) (v : LnkLane) : (s.putLane n v).fix = s.fix := rfl
@[simp] theorem State.putLane_deep (s : State) (n : Nat) (v : LnkLane) : (s.putLane n v).deep = s.deep := rfl
@[simp] theorem State.putLane_cph (s : State) (n : Nat) (v : LnkLane) : (s.putLane n v).cph = s.cph := rfl
@[simp] theorem State.putLane_brg (s : State) (n : Nat) (v : LnkLane) : (s.putLane n v).brg = s.brg := rfl
@[simp] theorem State.putLane_smp (s : State) (n : Nat) (v : LnkLane) : (s.putLane n v).smp = s.smp := rfl
@[simp] theorem State.putLane_ddc (s : State) (n : Nat) (v : LnkLane) : (s.putLane n v).ddc = s.ddc := rfl
@[simp] theorem State.putLane_ctx (s : State) (n : Nat) (v : LnkLane) : (s.putLane n v).ctx = s.ctx := rfl
@[simp] theorem State.putLane_scan (s : State) (n : Nat) (v : LnkLane) : (s.putLane n v).scan = s.scan := rfl
@[simp] theorem State.putLane_lmdTx (s : State) (n : Nat) (v : LnkLane) : (s.putLane n v).lmdTx = s.lmdTx := rfl
@[simp] theorem State.putLane_lmdRx (s : State) (n : Nat) (v : LnkLane) : (s.putLane n v).lmdRx = s.lmdRx := rfl
@[simp] theorem State.putLane_spt (s : State) (n : Nat) (v : LnkLane) : (s.putLane n v).spt = s.spt := rfl
@[simp] theorem State.putLane_pin (s : State) (n : Nat) (v : LnkLane) : (s.putLane n v).pin = s.pin := rfl
@[simp] theorem State.putLane_bin (s : State) (n : Nat) (v : LnkLane) : (s.putLane n v).bin = s.bin := rfl
@[simp] theorem State.putLane_pll (s : State) (n : Nat) (v : LnkLane) : (s.putLane n v).pll = s.pll := rfl
@[simp] theorem State.putLane_mon (s : State) (n : Nat) (v : LnkLane) : (s.putLane n v).mon = s.mon := rfl
@[simp] theorem State.putLane_wear (s : State) (n : Nat) (v : LnkLane) : (s.putLane n v).wear = s.wear := rfl
@[simp] theorem State.putLane_str (s : State) (n : Nat) (v : LnkLane) : (s.putLane n v).str = s.str := rfl
@[simp] theorem State.putLane_lgc (s : State) (n : Nat) (v : LnkLane) : (s.putLane n v).lgc = s.lgc := rfl
@[simp] theorem State.putLane_health (s : State) (n : Nat) (v : LnkLane) : (s.putLane n v).health = s.health := rfl
@[simp] theorem State.putLane_get (s : State) (n : Nat) (v : LnkLane) (g : Fld) : (s.putLane n v).get g = s.get g := rfl
@[simp] theorem State.putLane_bit (s : State) (n : Nat) (v : LnkLane) (g : Fld) : (s.putLane n v).bit g = s.bit g := rfl
@[simp] theorem State.putLane_word (s : State) (n : Nat) (v : LnkLane) (i : Nat) : (s.putLane n v).word i = s.word i := rfl

@[simp] theorem State.putDeep_pending (s : State) (a : Nat) (bs : List Byte) : (s.putDeep a bs).pending = s.pending := rfl
@[simp] theorem State.putDeep_out (s : State) (a : Nat) (bs : List Byte) : (s.putDeep a bs).out = s.out := rfl
@[simp] theorem State.putDeep_regs (s : State) (a : Nat) (bs : List Byte) : (s.putDeep a bs).regs = s.regs := rfl
@[simp] theorem State.putDeep_mask (s : State) (a : Nat) (bs : List Byte) : (s.putDeep a bs).mask = s.mask := rfl
@[simp] theorem State.putDeep_now (s : State) (a : Nat) (bs : List Byte) : (s.putDeep a bs).now = s.now := rfl
@[simp] theorem State.putDeep_fresh (s : State) (a : Nat) (bs : List Byte) : (s.putDeep a bs).fresh = s.fresh := rfl
@[simp] theorem State.putDeep_dev (s : State) (a : Nat) (bs : List Byte) : (s.putDeep a bs).dev = s.dev := rfl
@[simp] theorem State.putDeep_pwr (s : State) (a : Nat) (bs : List Byte) : (s.putDeep a bs).pwr = s.pwr := rfl
@[simp] theorem State.putDeep_wch (s : State) (a : Nat) (bs : List Byte) : (s.putDeep a bs).wch = s.wch := rfl
@[simp] theorem State.putDeep_grd (s : State) (a : Nat) (bs : List Byte) : (s.putDeep a bs).grd = s.grd := rfl
@[simp] theorem State.putDeep_bus (s : State) (a : Nat) (bs : List Byte) : (s.putDeep a bs).bus = s.bus := rfl
@[simp] theorem State.putDeep_load (s : State) (a : Nat) (bs : List Byte) : (s.putDeep a bs).load = s.load := rfl
@[simp] theorem State.putDeep_fab (s : State) (a : Nat) (bs : List Byte) : (s.putDeep a bs).fab = s.fab := rfl
@[simp] theorem State.putDeep_fix (s : State) (a : Nat) (bs : List Byte) : (s.putDeep a bs).fix = s.fix := rfl
@[simp] theorem State.putDeep_cph (s : State) (a : Nat) (bs : List Byte) : (s.putDeep a bs).cph = s.cph := rfl
@[simp] theorem State.putDeep_lnk (s : State) (a : Nat) (bs : List Byte) : (s.putDeep a bs).lnk = s.lnk := rfl
@[simp] theorem State.putDeep_brg (s : State) (a : Nat) (bs : List Byte) : (s.putDeep a bs).brg = s.brg := rfl
@[simp] theorem State.putDeep_smp (s : State) (a : Nat) (bs : List Byte) : (s.putDeep a bs).smp = s.smp := rfl
@[simp] theorem State.putDeep_ddc (s : State) (a : Nat) (bs : List Byte) : (s.putDeep a bs).ddc = s.ddc := rfl
@[simp] theorem State.putDeep_ctx (s : State) (a : Nat) (bs : List Byte) : (s.putDeep a bs).ctx = s.ctx := rfl
@[simp] theorem State.putDeep_scan (s : State) (a : Nat) (bs : List Byte) : (s.putDeep a bs).scan = s.scan := rfl
@[simp] theorem State.putDeep_lmdTx (s : State) (a : Nat) (bs : List Byte) : (s.putDeep a bs).lmdTx = s.lmdTx := rfl
@[simp] theorem State.putDeep_lmdRx (s : State) (a : Nat) (bs : List Byte) : (s.putDeep a bs).lmdRx = s.lmdRx := rfl
@[simp] theorem State.putDeep_spt (s : State) (a : Nat) (bs : List Byte) : (s.putDeep a bs).spt = s.spt := rfl
@[simp] theorem State.putDeep_pin (s : State) (a : Nat) (bs : List Byte) : (s.putDeep a bs).pin = s.pin := rfl
@[simp] theorem State.putDeep_bin (s : State) (a : Nat) (bs : List Byte) : (s.putDeep a bs).bin = s.bin := rfl
@[simp] theorem State.putDeep_pll (s : State) (a : Nat) (bs : List Byte) : (s.putDeep a bs).pll = s.pll := rfl
@[simp] theorem State.putDeep_mon (s : State) (a : Nat) (bs : List Byte) : (s.putDeep a bs).mon = s.mon := rfl
@[simp] theorem State.putDeep_wear (s : State) (a : Nat) (bs : List Byte) : (s.putDeep a bs).wear = s.wear := rfl
@[simp] theorem State.putDeep_str (s : State) (a : Nat) (bs : List Byte) : (s.putDeep a bs).str = s.str := rfl
@[simp] theorem State.putDeep_health (s : State) (a : Nat) (bs : List Byte) : (s.putDeep a bs).health = s.health := rfl
@[simp] theorem State.putDeep_get (s : State) (a : Nat) (bs : List Byte) (g : Fld) : (s.putDeep a bs).get g = s.get g := rfl
@[simp] theorem State.putDeep_bit (s : State) (a : Nat) (bs : List Byte) (g : Fld) : (s.putDeep a bs).bit g = s.bit g := rfl
@[simp] theorem State.putDeep_word (s : State) (a : Nat) (bs : List Byte) (i : Nat) : (s.putDeep a bs).word i = s.word i := rfl

@[simp] theorem State.putDd_pending (s : State) (d : Nat) (v : DdcState) : (s.putDd d v).pending = s.pending := rfl
@[simp] theorem State.putDd_out (s : State) (d : Nat) (v : DdcState) : (s.putDd d v).out = s.out := rfl
@[simp] theorem State.putDd_regs (s : State) (d : Nat) (v : DdcState) : (s.putDd d v).regs = s.regs := rfl
@[simp] theorem State.putDd_mask (s : State) (d : Nat) (v : DdcState) : (s.putDd d v).mask = s.mask := rfl
@[simp] theorem State.putDd_now (s : State) (d : Nat) (v : DdcState) : (s.putDd d v).now = s.now := rfl
@[simp] theorem State.putDd_fresh (s : State) (d : Nat) (v : DdcState) : (s.putDd d v).fresh = s.fresh := rfl
@[simp] theorem State.putDd_dev (s : State) (d : Nat) (v : DdcState) : (s.putDd d v).dev = s.dev := rfl
@[simp] theorem State.putDd_pwr (s : State) (d : Nat) (v : DdcState) : (s.putDd d v).pwr = s.pwr := rfl
@[simp] theorem State.putDd_wch (s : State) (d : Nat) (v : DdcState) : (s.putDd d v).wch = s.wch := rfl
@[simp] theorem State.putDd_grd (s : State) (d : Nat) (v : DdcState) : (s.putDd d v).grd = s.grd := rfl
@[simp] theorem State.putDd_bus (s : State) (d : Nat) (v : DdcState) : (s.putDd d v).bus = s.bus := rfl
@[simp] theorem State.putDd_load (s : State) (d : Nat) (v : DdcState) : (s.putDd d v).load = s.load := rfl
@[simp] theorem State.putDd_fab (s : State) (d : Nat) (v : DdcState) : (s.putDd d v).fab = s.fab := rfl
@[simp] theorem State.putDd_fix (s : State) (d : Nat) (v : DdcState) : (s.putDd d v).fix = s.fix := rfl
@[simp] theorem State.putDd_deep (s : State) (d : Nat) (v : DdcState) : (s.putDd d v).deep = s.deep := rfl
@[simp] theorem State.putDd_cph (s : State) (d : Nat) (v : DdcState) : (s.putDd d v).cph = s.cph := rfl
@[simp] theorem State.putDd_lnk (s : State) (d : Nat) (v : DdcState) : (s.putDd d v).lnk = s.lnk := rfl
@[simp] theorem State.putDd_brg (s : State) (d : Nat) (v : DdcState) : (s.putDd d v).brg = s.brg := rfl
@[simp] theorem State.putDd_smp (s : State) (d : Nat) (v : DdcState) : (s.putDd d v).smp = s.smp := rfl
@[simp] theorem State.putDd_ctx (s : State) (d : Nat) (v : DdcState) : (s.putDd d v).ctx = s.ctx := rfl
@[simp] theorem State.putDd_scan (s : State) (d : Nat) (v : DdcState) : (s.putDd d v).scan = s.scan := rfl
@[simp] theorem State.putDd_lmdTx (s : State) (d : Nat) (v : DdcState) : (s.putDd d v).lmdTx = s.lmdTx := rfl
@[simp] theorem State.putDd_lmdRx (s : State) (d : Nat) (v : DdcState) : (s.putDd d v).lmdRx = s.lmdRx := rfl
@[simp] theorem State.putDd_spt (s : State) (d : Nat) (v : DdcState) : (s.putDd d v).spt = s.spt := rfl
@[simp] theorem State.putDd_pin (s : State) (d : Nat) (v : DdcState) : (s.putDd d v).pin = s.pin := rfl
@[simp] theorem State.putDd_bin (s : State) (d : Nat) (v : DdcState) : (s.putDd d v).bin = s.bin := rfl
@[simp] theorem State.putDd_pll (s : State) (d : Nat) (v : DdcState) : (s.putDd d v).pll = s.pll := rfl
@[simp] theorem State.putDd_mon (s : State) (d : Nat) (v : DdcState) : (s.putDd d v).mon = s.mon := rfl
@[simp] theorem State.putDd_wear (s : State) (d : Nat) (v : DdcState) : (s.putDd d v).wear = s.wear := rfl
@[simp] theorem State.putDd_str (s : State) (d : Nat) (v : DdcState) : (s.putDd d v).str = s.str := rfl
@[simp] theorem State.putDd_lgc (s : State) (d : Nat) (v : DdcState) : (s.putDd d v).lgc = s.lgc := rfl
@[simp] theorem State.putDd_health (s : State) (d : Nat) (v : DdcState) : (s.putDd d v).health = s.health := rfl
@[simp] theorem State.putDd_get (s : State) (d : Nat) (v : DdcState) (g : Fld) : (s.putDd d v).get g = s.get g := rfl
@[simp] theorem State.putDd_bit (s : State) (d : Nat) (v : DdcState) (g : Fld) : (s.putDd d v).bit g = s.bit g := rfl
@[simp] theorem State.putDd_word (s : State) (d : Nat) (v : DdcState) (i : Nat) : (s.putDd d v).word i = s.word i := rfl

@[simp] theorem State.putCx_pending (s : State) (c : Nat) (v : BcdCtx) : (s.putCx c v).pending = s.pending := rfl
@[simp] theorem State.putCx_out (s : State) (c : Nat) (v : BcdCtx) : (s.putCx c v).out = s.out := rfl
@[simp] theorem State.putCx_regs (s : State) (c : Nat) (v : BcdCtx) : (s.putCx c v).regs = s.regs := rfl
@[simp] theorem State.putCx_mask (s : State) (c : Nat) (v : BcdCtx) : (s.putCx c v).mask = s.mask := rfl
@[simp] theorem State.putCx_now (s : State) (c : Nat) (v : BcdCtx) : (s.putCx c v).now = s.now := rfl
@[simp] theorem State.putCx_fresh (s : State) (c : Nat) (v : BcdCtx) : (s.putCx c v).fresh = s.fresh := rfl
@[simp] theorem State.putCx_dev (s : State) (c : Nat) (v : BcdCtx) : (s.putCx c v).dev = s.dev := rfl
@[simp] theorem State.putCx_pwr (s : State) (c : Nat) (v : BcdCtx) : (s.putCx c v).pwr = s.pwr := rfl
@[simp] theorem State.putCx_wch (s : State) (c : Nat) (v : BcdCtx) : (s.putCx c v).wch = s.wch := rfl
@[simp] theorem State.putCx_grd (s : State) (c : Nat) (v : BcdCtx) : (s.putCx c v).grd = s.grd := rfl
@[simp] theorem State.putCx_bus (s : State) (c : Nat) (v : BcdCtx) : (s.putCx c v).bus = s.bus := rfl
@[simp] theorem State.putCx_load (s : State) (c : Nat) (v : BcdCtx) : (s.putCx c v).load = s.load := rfl
@[simp] theorem State.putCx_fab (s : State) (c : Nat) (v : BcdCtx) : (s.putCx c v).fab = s.fab := rfl
@[simp] theorem State.putCx_fix (s : State) (c : Nat) (v : BcdCtx) : (s.putCx c v).fix = s.fix := rfl
@[simp] theorem State.putCx_deep (s : State) (c : Nat) (v : BcdCtx) : (s.putCx c v).deep = s.deep := rfl
@[simp] theorem State.putCx_cph (s : State) (c : Nat) (v : BcdCtx) : (s.putCx c v).cph = s.cph := rfl
@[simp] theorem State.putCx_lnk (s : State) (c : Nat) (v : BcdCtx) : (s.putCx c v).lnk = s.lnk := rfl
@[simp] theorem State.putCx_brg (s : State) (c : Nat) (v : BcdCtx) : (s.putCx c v).brg = s.brg := rfl
@[simp] theorem State.putCx_smp (s : State) (c : Nat) (v : BcdCtx) : (s.putCx c v).smp = s.smp := rfl
@[simp] theorem State.putCx_ddc (s : State) (c : Nat) (v : BcdCtx) : (s.putCx c v).ddc = s.ddc := rfl
@[simp] theorem State.putCx_scan (s : State) (c : Nat) (v : BcdCtx) : (s.putCx c v).scan = s.scan := rfl
@[simp] theorem State.putCx_lmdTx (s : State) (c : Nat) (v : BcdCtx) : (s.putCx c v).lmdTx = s.lmdTx := rfl
@[simp] theorem State.putCx_lmdRx (s : State) (c : Nat) (v : BcdCtx) : (s.putCx c v).lmdRx = s.lmdRx := rfl
@[simp] theorem State.putCx_spt (s : State) (c : Nat) (v : BcdCtx) : (s.putCx c v).spt = s.spt := rfl
@[simp] theorem State.putCx_pin (s : State) (c : Nat) (v : BcdCtx) : (s.putCx c v).pin = s.pin := rfl
@[simp] theorem State.putCx_bin (s : State) (c : Nat) (v : BcdCtx) : (s.putCx c v).bin = s.bin := rfl
@[simp] theorem State.putCx_pll (s : State) (c : Nat) (v : BcdCtx) : (s.putCx c v).pll = s.pll := rfl
@[simp] theorem State.putCx_mon (s : State) (c : Nat) (v : BcdCtx) : (s.putCx c v).mon = s.mon := rfl
@[simp] theorem State.putCx_wear (s : State) (c : Nat) (v : BcdCtx) : (s.putCx c v).wear = s.wear := rfl
@[simp] theorem State.putCx_str (s : State) (c : Nat) (v : BcdCtx) : (s.putCx c v).str = s.str := rfl
@[simp] theorem State.putCx_lgc (s : State) (c : Nat) (v : BcdCtx) : (s.putCx c v).lgc = s.lgc := rfl
@[simp] theorem State.putCx_health (s : State) (c : Nat) (v : BcdCtx) : (s.putCx c v).health = s.health := rfl
@[simp] theorem State.putCx_get (s : State) (c : Nat) (v : BcdCtx) (g : Fld) : (s.putCx c v).get g = s.get g := rfl
@[simp] theorem State.putCx_bit (s : State) (c : Nat) (v : BcdCtx) (g : Fld) : (s.putCx c v).bit g = s.bit g := rfl
@[simp] theorem State.putCx_word (s : State) (c : Nat) (v : BcdCtx) (i : Nat) : (s.putCx c v).word i = s.word i := rfl

@[simp] theorem State.putBport_pending (s : State) (p : Nat) (v : BrgPort) : (s.putBport p v).pending = s.pending := rfl
@[simp] theorem State.putBport_out (s : State) (p : Nat) (v : BrgPort) : (s.putBport p v).out = s.out := rfl
@[simp] theorem State.putBport_regs (s : State) (p : Nat) (v : BrgPort) : (s.putBport p v).regs = s.regs := rfl
@[simp] theorem State.putBport_mask (s : State) (p : Nat) (v : BrgPort) : (s.putBport p v).mask = s.mask := rfl
@[simp] theorem State.putBport_now (s : State) (p : Nat) (v : BrgPort) : (s.putBport p v).now = s.now := rfl
@[simp] theorem State.putBport_fresh (s : State) (p : Nat) (v : BrgPort) : (s.putBport p v).fresh = s.fresh := rfl
@[simp] theorem State.putBport_dev (s : State) (p : Nat) (v : BrgPort) : (s.putBport p v).dev = s.dev := rfl
@[simp] theorem State.putBport_pwr (s : State) (p : Nat) (v : BrgPort) : (s.putBport p v).pwr = s.pwr := rfl
@[simp] theorem State.putBport_wch (s : State) (p : Nat) (v : BrgPort) : (s.putBport p v).wch = s.wch := rfl
@[simp] theorem State.putBport_grd (s : State) (p : Nat) (v : BrgPort) : (s.putBport p v).grd = s.grd := rfl
@[simp] theorem State.putBport_bus (s : State) (p : Nat) (v : BrgPort) : (s.putBport p v).bus = s.bus := rfl
@[simp] theorem State.putBport_load (s : State) (p : Nat) (v : BrgPort) : (s.putBport p v).load = s.load := rfl
@[simp] theorem State.putBport_fab (s : State) (p : Nat) (v : BrgPort) : (s.putBport p v).fab = s.fab := rfl
@[simp] theorem State.putBport_fix (s : State) (p : Nat) (v : BrgPort) : (s.putBport p v).fix = s.fix := rfl
@[simp] theorem State.putBport_deep (s : State) (p : Nat) (v : BrgPort) : (s.putBport p v).deep = s.deep := rfl
@[simp] theorem State.putBport_cph (s : State) (p : Nat) (v : BrgPort) : (s.putBport p v).cph = s.cph := rfl
@[simp] theorem State.putBport_lnk (s : State) (p : Nat) (v : BrgPort) : (s.putBport p v).lnk = s.lnk := rfl
@[simp] theorem State.putBport_smp (s : State) (p : Nat) (v : BrgPort) : (s.putBport p v).smp = s.smp := rfl
@[simp] theorem State.putBport_ddc (s : State) (p : Nat) (v : BrgPort) : (s.putBport p v).ddc = s.ddc := rfl
@[simp] theorem State.putBport_ctx (s : State) (p : Nat) (v : BrgPort) : (s.putBport p v).ctx = s.ctx := rfl
@[simp] theorem State.putBport_scan (s : State) (p : Nat) (v : BrgPort) : (s.putBport p v).scan = s.scan := rfl
@[simp] theorem State.putBport_lmdTx (s : State) (p : Nat) (v : BrgPort) : (s.putBport p v).lmdTx = s.lmdTx := rfl
@[simp] theorem State.putBport_lmdRx (s : State) (p : Nat) (v : BrgPort) : (s.putBport p v).lmdRx = s.lmdRx := rfl
@[simp] theorem State.putBport_spt (s : State) (p : Nat) (v : BrgPort) : (s.putBport p v).spt = s.spt := rfl
@[simp] theorem State.putBport_pin (s : State) (p : Nat) (v : BrgPort) : (s.putBport p v).pin = s.pin := rfl
@[simp] theorem State.putBport_bin (s : State) (p : Nat) (v : BrgPort) : (s.putBport p v).bin = s.bin := rfl
@[simp] theorem State.putBport_pll (s : State) (p : Nat) (v : BrgPort) : (s.putBport p v).pll = s.pll := rfl
@[simp] theorem State.putBport_mon (s : State) (p : Nat) (v : BrgPort) : (s.putBport p v).mon = s.mon := rfl
@[simp] theorem State.putBport_wear (s : State) (p : Nat) (v : BrgPort) : (s.putBport p v).wear = s.wear := rfl
@[simp] theorem State.putBport_str (s : State) (p : Nat) (v : BrgPort) : (s.putBport p v).str = s.str := rfl
@[simp] theorem State.putBport_lgc (s : State) (p : Nat) (v : BrgPort) : (s.putBport p v).lgc = s.lgc := rfl
@[simp] theorem State.putBport_health (s : State) (p : Nat) (v : BrgPort) : (s.putBport p v).health = s.health := rfl
@[simp] theorem State.putBport_get (s : State) (p : Nat) (v : BrgPort) (g : Fld) : (s.putBport p v).get g = s.get g := rfl
@[simp] theorem State.putBport_bit (s : State) (p : Nat) (v : BrgPort) (g : Fld) : (s.putBport p v).bit g = s.bit g := rfl
@[simp] theorem State.putBport_word (s : State) (p : Nat) (v : BrgPort) (i : Nat) : (s.putBport p v).word i = s.word i := rfl

@[simp] theorem State.putBank_pending (s : State) (b : Nat) (v : PinBank) : (s.putBank b v).pending = s.pending := rfl
@[simp] theorem State.putBank_out (s : State) (b : Nat) (v : PinBank) : (s.putBank b v).out = s.out := rfl
@[simp] theorem State.putBank_regs (s : State) (b : Nat) (v : PinBank) : (s.putBank b v).regs = s.regs := rfl
@[simp] theorem State.putBank_mask (s : State) (b : Nat) (v : PinBank) : (s.putBank b v).mask = s.mask := rfl
@[simp] theorem State.putBank_now (s : State) (b : Nat) (v : PinBank) : (s.putBank b v).now = s.now := rfl
@[simp] theorem State.putBank_fresh (s : State) (b : Nat) (v : PinBank) : (s.putBank b v).fresh = s.fresh := rfl
@[simp] theorem State.putBank_dev (s : State) (b : Nat) (v : PinBank) : (s.putBank b v).dev = s.dev := rfl
@[simp] theorem State.putBank_pwr (s : State) (b : Nat) (v : PinBank) : (s.putBank b v).pwr = s.pwr := rfl
@[simp] theorem State.putBank_wch (s : State) (b : Nat) (v : PinBank) : (s.putBank b v).wch = s.wch := rfl
@[simp] theorem State.putBank_grd (s : State) (b : Nat) (v : PinBank) : (s.putBank b v).grd = s.grd := rfl
@[simp] theorem State.putBank_bus (s : State) (b : Nat) (v : PinBank) : (s.putBank b v).bus = s.bus := rfl
@[simp] theorem State.putBank_load (s : State) (b : Nat) (v : PinBank) : (s.putBank b v).load = s.load := rfl
@[simp] theorem State.putBank_fab (s : State) (b : Nat) (v : PinBank) : (s.putBank b v).fab = s.fab := rfl
@[simp] theorem State.putBank_fix (s : State) (b : Nat) (v : PinBank) : (s.putBank b v).fix = s.fix := rfl
@[simp] theorem State.putBank_deep (s : State) (b : Nat) (v : PinBank) : (s.putBank b v).deep = s.deep := rfl
@[simp] theorem State.putBank_cph (s : State) (b : Nat) (v : PinBank) : (s.putBank b v).cph = s.cph := rfl
@[simp] theorem State.putBank_lnk (s : State) (b : Nat) (v : PinBank) : (s.putBank b v).lnk = s.lnk := rfl
@[simp] theorem State.putBank_brg (s : State) (b : Nat) (v : PinBank) : (s.putBank b v).brg = s.brg := rfl
@[simp] theorem State.putBank_smp (s : State) (b : Nat) (v : PinBank) : (s.putBank b v).smp = s.smp := rfl
@[simp] theorem State.putBank_ddc (s : State) (b : Nat) (v : PinBank) : (s.putBank b v).ddc = s.ddc := rfl
@[simp] theorem State.putBank_ctx (s : State) (b : Nat) (v : PinBank) : (s.putBank b v).ctx = s.ctx := rfl
@[simp] theorem State.putBank_scan (s : State) (b : Nat) (v : PinBank) : (s.putBank b v).scan = s.scan := rfl
@[simp] theorem State.putBank_lmdTx (s : State) (b : Nat) (v : PinBank) : (s.putBank b v).lmdTx = s.lmdTx := rfl
@[simp] theorem State.putBank_lmdRx (s : State) (b : Nat) (v : PinBank) : (s.putBank b v).lmdRx = s.lmdRx := rfl
@[simp] theorem State.putBank_spt (s : State) (b : Nat) (v : PinBank) : (s.putBank b v).spt = s.spt := rfl
@[simp] theorem State.putBank_bin (s : State) (b : Nat) (v : PinBank) : (s.putBank b v).bin = s.bin := rfl
@[simp] theorem State.putBank_pll (s : State) (b : Nat) (v : PinBank) : (s.putBank b v).pll = s.pll := rfl
@[simp] theorem State.putBank_mon (s : State) (b : Nat) (v : PinBank) : (s.putBank b v).mon = s.mon := rfl
@[simp] theorem State.putBank_wear (s : State) (b : Nat) (v : PinBank) : (s.putBank b v).wear = s.wear := rfl
@[simp] theorem State.putBank_str (s : State) (b : Nat) (v : PinBank) : (s.putBank b v).str = s.str := rfl
@[simp] theorem State.putBank_lgc (s : State) (b : Nat) (v : PinBank) : (s.putBank b v).lgc = s.lgc := rfl
@[simp] theorem State.putBank_health (s : State) (b : Nat) (v : PinBank) : (s.putBank b v).health = s.health := rfl
@[simp] theorem State.putBank_get (s : State) (b : Nat) (v : PinBank) (g : Fld) : (s.putBank b v).get g = s.get g := rfl
@[simp] theorem State.putBank_bit (s : State) (b : Nat) (v : PinBank) (g : Fld) : (s.putBank b v).bit g = s.bit g := rfl
@[simp] theorem State.putBank_word (s : State) (b : Nat) (v : PinBank) (i : Nat) : (s.putBank b v).word i = s.word i := rfl

@[simp] theorem State.putStrm_pending (s : State) (p : Nat) (v : StreamPort) : (s.putStrm p v).pending = s.pending := rfl
@[simp] theorem State.putStrm_out (s : State) (p : Nat) (v : StreamPort) : (s.putStrm p v).out = s.out := rfl
@[simp] theorem State.putStrm_regs (s : State) (p : Nat) (v : StreamPort) : (s.putStrm p v).regs = s.regs := rfl
@[simp] theorem State.putStrm_mask (s : State) (p : Nat) (v : StreamPort) : (s.putStrm p v).mask = s.mask := rfl
@[simp] theorem State.putStrm_now (s : State) (p : Nat) (v : StreamPort) : (s.putStrm p v).now = s.now := rfl
@[simp] theorem State.putStrm_fresh (s : State) (p : Nat) (v : StreamPort) : (s.putStrm p v).fresh = s.fresh := rfl
@[simp] theorem State.putStrm_dev (s : State) (p : Nat) (v : StreamPort) : (s.putStrm p v).dev = s.dev := rfl
@[simp] theorem State.putStrm_pwr (s : State) (p : Nat) (v : StreamPort) : (s.putStrm p v).pwr = s.pwr := rfl
@[simp] theorem State.putStrm_wch (s : State) (p : Nat) (v : StreamPort) : (s.putStrm p v).wch = s.wch := rfl
@[simp] theorem State.putStrm_grd (s : State) (p : Nat) (v : StreamPort) : (s.putStrm p v).grd = s.grd := rfl
@[simp] theorem State.putStrm_bus (s : State) (p : Nat) (v : StreamPort) : (s.putStrm p v).bus = s.bus := rfl
@[simp] theorem State.putStrm_load (s : State) (p : Nat) (v : StreamPort) : (s.putStrm p v).load = s.load := rfl
@[simp] theorem State.putStrm_fab (s : State) (p : Nat) (v : StreamPort) : (s.putStrm p v).fab = s.fab := rfl
@[simp] theorem State.putStrm_fix (s : State) (p : Nat) (v : StreamPort) : (s.putStrm p v).fix = s.fix := rfl
@[simp] theorem State.putStrm_deep (s : State) (p : Nat) (v : StreamPort) : (s.putStrm p v).deep = s.deep := rfl
@[simp] theorem State.putStrm_cph (s : State) (p : Nat) (v : StreamPort) : (s.putStrm p v).cph = s.cph := rfl
@[simp] theorem State.putStrm_lnk (s : State) (p : Nat) (v : StreamPort) : (s.putStrm p v).lnk = s.lnk := rfl
@[simp] theorem State.putStrm_brg (s : State) (p : Nat) (v : StreamPort) : (s.putStrm p v).brg = s.brg := rfl
@[simp] theorem State.putStrm_smp (s : State) (p : Nat) (v : StreamPort) : (s.putStrm p v).smp = s.smp := rfl
@[simp] theorem State.putStrm_ddc (s : State) (p : Nat) (v : StreamPort) : (s.putStrm p v).ddc = s.ddc := rfl
@[simp] theorem State.putStrm_ctx (s : State) (p : Nat) (v : StreamPort) : (s.putStrm p v).ctx = s.ctx := rfl
@[simp] theorem State.putStrm_scan (s : State) (p : Nat) (v : StreamPort) : (s.putStrm p v).scan = s.scan := rfl
@[simp] theorem State.putStrm_lmdTx (s : State) (p : Nat) (v : StreamPort) : (s.putStrm p v).lmdTx = s.lmdTx := rfl
@[simp] theorem State.putStrm_lmdRx (s : State) (p : Nat) (v : StreamPort) : (s.putStrm p v).lmdRx = s.lmdRx := rfl
@[simp] theorem State.putStrm_spt (s : State) (p : Nat) (v : StreamPort) : (s.putStrm p v).spt = s.spt := rfl
@[simp] theorem State.putStrm_pin (s : State) (p : Nat) (v : StreamPort) : (s.putStrm p v).pin = s.pin := rfl
@[simp] theorem State.putStrm_bin (s : State) (p : Nat) (v : StreamPort) : (s.putStrm p v).bin = s.bin := rfl
@[simp] theorem State.putStrm_pll (s : State) (p : Nat) (v : StreamPort) : (s.putStrm p v).pll = s.pll := rfl
@[simp] theorem State.putStrm_mon (s : State) (p : Nat) (v : StreamPort) : (s.putStrm p v).mon = s.mon := rfl
@[simp] theorem State.putStrm_wear (s : State) (p : Nat) (v : StreamPort) : (s.putStrm p v).wear = s.wear := rfl
@[simp] theorem State.putStrm_lgc (s : State) (p : Nat) (v : StreamPort) : (s.putStrm p v).lgc = s.lgc := rfl
@[simp] theorem State.putStrm_health (s : State) (p : Nat) (v : StreamPort) : (s.putStrm p v).health = s.health := rfl
@[simp] theorem State.putStrm_get (s : State) (p : Nat) (v : StreamPort) (g : Fld) : (s.putStrm p v).get g = s.get g := rfl
@[simp] theorem State.putStrm_bit (s : State) (p : Nat) (v : StreamPort) (g : Fld) : (s.putStrm p v).bit g = s.bit g := rfl
@[simp] theorem State.putStrm_word (s : State) (p : Nat) (v : StreamPort) (i : Nat) : (s.putStrm p v).word i = s.word i := rfl

@[simp] theorem State.putFlop_pending (s : State) (k : Nat) (b : Bool) (v : BitVec 2) : (s.putFlop k b v).pending = s.pending := rfl
@[simp] theorem State.putFlop_out (s : State) (k : Nat) (b : Bool) (v : BitVec 2) : (s.putFlop k b v).out = s.out := rfl
@[simp] theorem State.putFlop_regs (s : State) (k : Nat) (b : Bool) (v : BitVec 2) : (s.putFlop k b v).regs = s.regs := rfl
@[simp] theorem State.putFlop_mask (s : State) (k : Nat) (b : Bool) (v : BitVec 2) : (s.putFlop k b v).mask = s.mask := rfl
@[simp] theorem State.putFlop_now (s : State) (k : Nat) (b : Bool) (v : BitVec 2) : (s.putFlop k b v).now = s.now := rfl
@[simp] theorem State.putFlop_fresh (s : State) (k : Nat) (b : Bool) (v : BitVec 2) : (s.putFlop k b v).fresh = s.fresh := rfl
@[simp] theorem State.putFlop_dev (s : State) (k : Nat) (b : Bool) (v : BitVec 2) : (s.putFlop k b v).dev = s.dev := rfl
@[simp] theorem State.putFlop_pwr (s : State) (k : Nat) (b : Bool) (v : BitVec 2) : (s.putFlop k b v).pwr = s.pwr := rfl
@[simp] theorem State.putFlop_wch (s : State) (k : Nat) (b : Bool) (v : BitVec 2) : (s.putFlop k b v).wch = s.wch := rfl
@[simp] theorem State.putFlop_grd (s : State) (k : Nat) (b : Bool) (v : BitVec 2) : (s.putFlop k b v).grd = s.grd := rfl
@[simp] theorem State.putFlop_bus (s : State) (k : Nat) (b : Bool) (v : BitVec 2) : (s.putFlop k b v).bus = s.bus := rfl
@[simp] theorem State.putFlop_load (s : State) (k : Nat) (b : Bool) (v : BitVec 2) : (s.putFlop k b v).load = s.load := rfl
@[simp] theorem State.putFlop_fab (s : State) (k : Nat) (b : Bool) (v : BitVec 2) : (s.putFlop k b v).fab = s.fab := rfl
@[simp] theorem State.putFlop_fix (s : State) (k : Nat) (b : Bool) (v : BitVec 2) : (s.putFlop k b v).fix = s.fix := rfl
@[simp] theorem State.putFlop_deep (s : State) (k : Nat) (b : Bool) (v : BitVec 2) : (s.putFlop k b v).deep = s.deep := rfl
@[simp] theorem State.putFlop_cph (s : State) (k : Nat) (b : Bool) (v : BitVec 2) : (s.putFlop k b v).cph = s.cph := rfl
@[simp] theorem State.putFlop_lnk (s : State) (k : Nat) (b : Bool) (v : BitVec 2) : (s.putFlop k b v).lnk = s.lnk := rfl
@[simp] theorem State.putFlop_brg (s : State) (k : Nat) (b : Bool) (v : BitVec 2) : (s.putFlop k b v).brg = s.brg := rfl
@[simp] theorem State.putFlop_smp (s : State) (k : Nat) (b : Bool) (v : BitVec 2) : (s.putFlop k b v).smp = s.smp := rfl
@[simp] theorem State.putFlop_ddc (s : State) (k : Nat) (b : Bool) (v : BitVec 2) : (s.putFlop k b v).ddc = s.ddc := rfl
@[simp] theorem State.putFlop_ctx (s : State) (k : Nat) (b : Bool) (v : BitVec 2) : (s.putFlop k b v).ctx = s.ctx := rfl
@[simp] theorem State.putFlop_scan (s : State) (k : Nat) (b : Bool) (v : BitVec 2) : (s.putFlop k b v).scan = s.scan := rfl
@[simp] theorem State.putFlop_lmdTx (s : State) (k : Nat) (b : Bool) (v : BitVec 2) : (s.putFlop k b v).lmdTx = s.lmdTx := rfl
@[simp] theorem State.putFlop_lmdRx (s : State) (k : Nat) (b : Bool) (v : BitVec 2) : (s.putFlop k b v).lmdRx = s.lmdRx := rfl
@[simp] theorem State.putFlop_spt (s : State) (k : Nat) (b : Bool) (v : BitVec 2) : (s.putFlop k b v).spt = s.spt := rfl
@[simp] theorem State.putFlop_pin (s : State) (k : Nat) (b : Bool) (v : BitVec 2) : (s.putFlop k b v).pin = s.pin := rfl
@[simp] theorem State.putFlop_bin (s : State) (k : Nat) (b : Bool) (v : BitVec 2) : (s.putFlop k b v).bin = s.bin := rfl
@[simp] theorem State.putFlop_pll (s : State) (k : Nat) (b : Bool) (v : BitVec 2) : (s.putFlop k b v).pll = s.pll := rfl
@[simp] theorem State.putFlop_mon (s : State) (k : Nat) (b : Bool) (v : BitVec 2) : (s.putFlop k b v).mon = s.mon := rfl
@[simp] theorem State.putFlop_wear (s : State) (k : Nat) (b : Bool) (v : BitVec 2) : (s.putFlop k b v).wear = s.wear := rfl
@[simp] theorem State.putFlop_str (s : State) (k : Nat) (b : Bool) (v : BitVec 2) : (s.putFlop k b v).str = s.str := rfl
@[simp] theorem State.putFlop_health (s : State) (k : Nat) (b : Bool) (v : BitVec 2) : (s.putFlop k b v).health = s.health := rfl
@[simp] theorem State.putFlop_get (s : State) (k : Nat) (b : Bool) (v : BitVec 2) (g : Fld) : (s.putFlop k b v).get g = s.get g := rfl
@[simp] theorem State.putFlop_bit (s : State) (k : Nat) (b : Bool) (v : BitVec 2) (g : Fld) : (s.putFlop k b v).bit g = s.bit g := rfl
@[simp] theorem State.putFlop_word (s : State) (k : Nat) (b : Bool) (v : BitVec 2) (i : Nat) : (s.putFlop k b v).word i = s.word i := rfl

@[simp] theorem State.emit_pending (s : State) (o : Out) : (s.emit o).pending = s.pending := rfl
@[simp] theorem State.emit_regs (s : State) (o : Out) : (s.emit o).regs = s.regs := rfl
@[simp] theorem State.emit_mask (s : State) (o : Out) : (s.emit o).mask = s.mask := rfl
@[simp] theorem State.emit_now (s : State) (o : Out) : (s.emit o).now = s.now := rfl
@[simp] theorem State.emit_fresh (s : State) (o : Out) : (s.emit o).fresh = s.fresh := rfl
@[simp] theorem State.emit_dev (s : State) (o : Out) : (s.emit o).dev = s.dev := rfl
@[simp] theorem State.emit_pwr (s : State) (o : Out) : (s.emit o).pwr = s.pwr := rfl
@[simp] theorem State.emit_wch (s : State) (o : Out) : (s.emit o).wch = s.wch := rfl
@[simp] theorem State.emit_grd (s : State) (o : Out) : (s.emit o).grd = s.grd := rfl
@[simp] theorem State.emit_bus (s : State) (o : Out) : (s.emit o).bus = s.bus := rfl
@[simp] theorem State.emit_load (s : State) (o : Out) : (s.emit o).load = s.load := rfl
@[simp] theorem State.emit_fab (s : State) (o : Out) : (s.emit o).fab = s.fab := rfl
@[simp] theorem State.emit_fix (s : State) (o : Out) : (s.emit o).fix = s.fix := rfl
@[simp] theorem State.emit_deep (s : State) (o : Out) : (s.emit o).deep = s.deep := rfl
@[simp] theorem State.emit_cph (s : State) (o : Out) : (s.emit o).cph = s.cph := rfl
@[simp] theorem State.emit_lnk (s : State) (o : Out) : (s.emit o).lnk = s.lnk := rfl
@[simp] theorem State.emit_brg (s : State) (o : Out) : (s.emit o).brg = s.brg := rfl
@[simp] theorem State.emit_smp (s : State) (o : Out) : (s.emit o).smp = s.smp := rfl
@[simp] theorem State.emit_ddc (s : State) (o : Out) : (s.emit o).ddc = s.ddc := rfl
@[simp] theorem State.emit_ctx (s : State) (o : Out) : (s.emit o).ctx = s.ctx := rfl
@[simp] theorem State.emit_scan (s : State) (o : Out) : (s.emit o).scan = s.scan := rfl
@[simp] theorem State.emit_lmdTx (s : State) (o : Out) : (s.emit o).lmdTx = s.lmdTx := rfl
@[simp] theorem State.emit_lmdRx (s : State) (o : Out) : (s.emit o).lmdRx = s.lmdRx := rfl
@[simp] theorem State.emit_spt (s : State) (o : Out) : (s.emit o).spt = s.spt := rfl
@[simp] theorem State.emit_pin (s : State) (o : Out) : (s.emit o).pin = s.pin := rfl
@[simp] theorem State.emit_bin (s : State) (o : Out) : (s.emit o).bin = s.bin := rfl
@[simp] theorem State.emit_pll (s : State) (o : Out) : (s.emit o).pll = s.pll := rfl
@[simp] theorem State.emit_mon (s : State) (o : Out) : (s.emit o).mon = s.mon := rfl
@[simp] theorem State.emit_wear (s : State) (o : Out) : (s.emit o).wear = s.wear := rfl
@[simp] theorem State.emit_str (s : State) (o : Out) : (s.emit o).str = s.str := rfl
@[simp] theorem State.emit_lgc (s : State) (o : Out) : (s.emit o).lgc = s.lgc := rfl
@[simp] theorem State.emit_health (s : State) (o : Out) : (s.emit o).health = s.health := rfl
@[simp] theorem State.emit_get (s : State) (o : Out) (g : Fld) : (s.emit o).get g = s.get g := rfl
@[simp] theorem State.emit_bit (s : State) (o : Out) (g : Fld) : (s.emit o).bit g = s.bit g := rfl
@[simp] theorem State.emit_word (s : State) (o : Out) (i : Nat) : (s.emit o).word i = s.word i := rfl

@[simp] theorem State.drawnBytes_pending (s : State) (n : Nat) : (s.drawnBytes n).pending = s.pending := rfl
@[simp] theorem State.drawnBytes_out (s : State) (n : Nat) : (s.drawnBytes n).out = s.out := rfl
@[simp] theorem State.drawnBytes_regs (s : State) (n : Nat) : (s.drawnBytes n).regs = s.regs := rfl
@[simp] theorem State.drawnBytes_mask (s : State) (n : Nat) : (s.drawnBytes n).mask = s.mask := rfl
@[simp] theorem State.drawnBytes_now (s : State) (n : Nat) : (s.drawnBytes n).now = s.now := rfl
@[simp] theorem State.drawnBytes_dev (s : State) (n : Nat) : (s.drawnBytes n).dev = s.dev := rfl
@[simp] theorem State.drawnBytes_pwr (s : State) (n : Nat) : (s.drawnBytes n).pwr = s.pwr := rfl
@[simp] theorem State.drawnBytes_wch (s : State) (n : Nat) : (s.drawnBytes n).wch = s.wch := rfl
@[simp] theorem State.drawnBytes_grd (s : State) (n : Nat) : (s.drawnBytes n).grd = s.grd := rfl
@[simp] theorem State.drawnBytes_bus (s : State) (n : Nat) : (s.drawnBytes n).bus = s.bus := rfl
@[simp] theorem State.drawnBytes_load (s : State) (n : Nat) : (s.drawnBytes n).load = s.load := rfl
@[simp] theorem State.drawnBytes_fab (s : State) (n : Nat) : (s.drawnBytes n).fab = s.fab := rfl
@[simp] theorem State.drawnBytes_fix (s : State) (n : Nat) : (s.drawnBytes n).fix = s.fix := rfl
@[simp] theorem State.drawnBytes_deep (s : State) (n : Nat) : (s.drawnBytes n).deep = s.deep := rfl
@[simp] theorem State.drawnBytes_cph (s : State) (n : Nat) : (s.drawnBytes n).cph = s.cph := rfl
@[simp] theorem State.drawnBytes_lnk (s : State) (n : Nat) : (s.drawnBytes n).lnk = s.lnk := rfl
@[simp] theorem State.drawnBytes_brg (s : State) (n : Nat) : (s.drawnBytes n).brg = s.brg := rfl
@[simp] theorem State.drawnBytes_smp (s : State) (n : Nat) : (s.drawnBytes n).smp = s.smp := rfl
@[simp] theorem State.drawnBytes_ddc (s : State) (n : Nat) : (s.drawnBytes n).ddc = s.ddc := rfl
@[simp] theorem State.drawnBytes_ctx (s : State) (n : Nat) : (s.drawnBytes n).ctx = s.ctx := rfl
@[simp] theorem State.drawnBytes_scan (s : State) (n : Nat) : (s.drawnBytes n).scan = s.scan := rfl
@[simp] theorem State.drawnBytes_lmdTx (s : State) (n : Nat) : (s.drawnBytes n).lmdTx = s.lmdTx := rfl
@[simp] theorem State.drawnBytes_lmdRx (s : State) (n : Nat) : (s.drawnBytes n).lmdRx = s.lmdRx := rfl
@[simp] theorem State.drawnBytes_spt (s : State) (n : Nat) : (s.drawnBytes n).spt = s.spt := rfl
@[simp] theorem State.drawnBytes_pin (s : State) (n : Nat) : (s.drawnBytes n).pin = s.pin := rfl
@[simp] theorem State.drawnBytes_bin (s : State) (n : Nat) : (s.drawnBytes n).bin = s.bin := rfl
@[simp] theorem State.drawnBytes_pll (s : State) (n : Nat) : (s.drawnBytes n).pll = s.pll := rfl
@[simp] theorem State.drawnBytes_mon (s : State) (n : Nat) : (s.drawnBytes n).mon = s.mon := rfl
@[simp] theorem State.drawnBytes_wear (s : State) (n : Nat) : (s.drawnBytes n).wear = s.wear := rfl
@[simp] theorem State.drawnBytes_str (s : State) (n : Nat) : (s.drawnBytes n).str = s.str := rfl
@[simp] theorem State.drawnBytes_lgc (s : State) (n : Nat) : (s.drawnBytes n).lgc = s.lgc := rfl
@[simp] theorem State.drawnBytes_health (s : State) (n : Nat) : (s.drawnBytes n).health = s.health := rfl
@[simp] theorem State.drawnBytes_get (s : State) (n : Nat) (g : Fld) : (s.drawnBytes n).get g = s.get g := rfl
@[simp] theorem State.drawnBytes_bit (s : State) (n : Nat) (g : Fld) : (s.drawnBytes n).bit g = s.bit g := rfl
@[simp] theorem State.drawnBytes_word (s : State) (n : Nat) (i : Nat) : (s.drawnBytes n).word i = s.word i := rfl

@[simp] theorem State.picked_pending (s : State) (n : Nat) : (s.picked n).pending = s.pending := rfl
@[simp] theorem State.picked_out (s : State) (n : Nat) : (s.picked n).out = s.out := rfl
@[simp] theorem State.picked_regs (s : State) (n : Nat) : (s.picked n).regs = s.regs := rfl
@[simp] theorem State.picked_mask (s : State) (n : Nat) : (s.picked n).mask = s.mask := rfl
@[simp] theorem State.picked_now (s : State) (n : Nat) : (s.picked n).now = s.now := rfl
@[simp] theorem State.picked_dev (s : State) (n : Nat) : (s.picked n).dev = s.dev := rfl
@[simp] theorem State.picked_pwr (s : State) (n : Nat) : (s.picked n).pwr = s.pwr := rfl
@[simp] theorem State.picked_wch (s : State) (n : Nat) : (s.picked n).wch = s.wch := rfl
@[simp] theorem State.picked_grd (s : State) (n : Nat) : (s.picked n).grd = s.grd := rfl
@[simp] theorem State.picked_bus (s : State) (n : Nat) : (s.picked n).bus = s.bus := rfl
@[simp] theorem State.picked_load (s : State) (n : Nat) : (s.picked n).load = s.load := rfl
@[simp] theorem State.picked_fab (s : State) (n : Nat) : (s.picked n).fab = s.fab := rfl
@[simp] theorem State.picked_fix (s : State) (n : Nat) : (s.picked n).fix = s.fix := rfl
@[simp] theorem State.picked_deep (s : State) (n : Nat) : (s.picked n).deep = s.deep := rfl
@[simp] theorem State.picked_cph (s : State) (n : Nat) : (s.picked n).cph = s.cph := rfl
@[simp] theorem State.picked_lnk (s : State) (n : Nat) : (s.picked n).lnk = s.lnk := rfl
@[simp] theorem State.picked_brg (s : State) (n : Nat) : (s.picked n).brg = s.brg := rfl
@[simp] theorem State.picked_smp (s : State) (n : Nat) : (s.picked n).smp = s.smp := rfl
@[simp] theorem State.picked_ddc (s : State) (n : Nat) : (s.picked n).ddc = s.ddc := rfl
@[simp] theorem State.picked_ctx (s : State) (n : Nat) : (s.picked n).ctx = s.ctx := rfl
@[simp] theorem State.picked_scan (s : State) (n : Nat) : (s.picked n).scan = s.scan := rfl
@[simp] theorem State.picked_lmdTx (s : State) (n : Nat) : (s.picked n).lmdTx = s.lmdTx := rfl
@[simp] theorem State.picked_lmdRx (s : State) (n : Nat) : (s.picked n).lmdRx = s.lmdRx := rfl
@[simp] theorem State.picked_spt (s : State) (n : Nat) : (s.picked n).spt = s.spt := rfl
@[simp] theorem State.picked_pin (s : State) (n : Nat) : (s.picked n).pin = s.pin := rfl
@[simp] theorem State.picked_bin (s : State) (n : Nat) : (s.picked n).bin = s.bin := rfl
@[simp] theorem State.picked_pll (s : State) (n : Nat) : (s.picked n).pll = s.pll := rfl
@[simp] theorem State.picked_mon (s : State) (n : Nat) : (s.picked n).mon = s.mon := rfl
@[simp] theorem State.picked_wear (s : State) (n : Nat) : (s.picked n).wear = s.wear := rfl
@[simp] theorem State.picked_str (s : State) (n : Nat) : (s.picked n).str = s.str := rfl
@[simp] theorem State.picked_lgc (s : State) (n : Nat) : (s.picked n).lgc = s.lgc := rfl
@[simp] theorem State.picked_health (s : State) (n : Nat) : (s.picked n).health = s.health := rfl
@[simp] theorem State.picked_get (s : State) (n : Nat) (g : Fld) : (s.picked n).get g = s.get g := rfl
@[simp] theorem State.picked_bit (s : State) (n : Nat) (g : Fld) : (s.picked n).bit g = s.bit g := rfl
@[simp] theorem State.picked_word (s : State) (n : Nat) (i : Nat) : (s.picked n).word i = s.word i := rfl

@[simp] theorem State.drawn_pending (s : State) : (s.drawn).pending = s.pending := rfl
@[simp] theorem State.drawn_out (s : State) : (s.drawn).out = s.out := rfl
@[simp] theorem State.drawn_regs (s : State) : (s.drawn).regs = s.regs := rfl
@[simp] theorem State.drawn_mask (s : State) : (s.drawn).mask = s.mask := rfl
@[simp] theorem State.drawn_now (s : State) : (s.drawn).now = s.now := rfl
@[simp] theorem State.drawn_dev (s : State) : (s.drawn).dev = s.dev := rfl
@[simp] theorem State.drawn_pwr (s : State) : (s.drawn).pwr = s.pwr := rfl
@[simp] theorem State.drawn_wch (s : State) : (s.drawn).wch = s.wch := rfl
@[simp] theorem State.drawn_grd (s : State) : (s.drawn).grd = s.grd := rfl
@[simp] theorem State.drawn_bus (s : State) : (s.drawn).bus = s.bus := rfl
@[simp] theorem State.drawn_load (s : State) : (s.drawn).load = s.load := rfl
@[simp] theorem State.drawn_fab (s : State) : (s.drawn).fab = s.fab := rfl
@[simp] theorem State.drawn_fix (s : State) : (s.drawn).fix = s.fix := rfl
@[simp] theorem State.drawn_deep (s : State) : (s.drawn).deep = s.deep := rfl
@[simp] theorem State.drawn_cph (s : State) : (s.drawn).cph = s.cph := rfl
@[simp] theorem State.drawn_lnk (s : State) : (s.drawn).lnk = s.lnk := rfl
@[simp] theorem State.drawn_brg (s : State) : (s.drawn).brg = s.brg := rfl
@[simp] theorem State.drawn_smp (s : State) : (s.drawn).smp = s.smp := rfl
@[simp] theorem State.drawn_ddc (s : State) : (s.drawn).ddc = s.ddc := rfl
@[simp] theorem State.drawn_ctx (s : State) : (s.drawn).ctx = s.ctx := rfl
@[simp] theorem State.drawn_scan (s : State) : (s.drawn).scan = s.scan := rfl
@[simp] theorem State.drawn_lmdTx (s : State) : (s.drawn).lmdTx = s.lmdTx := rfl
@[simp] theorem State.drawn_lmdRx (s : State) : (s.drawn).lmdRx = s.lmdRx := rfl
@[simp] theorem State.drawn_spt (s : State) : (s.drawn).spt = s.spt := rfl
@[simp] theorem State.drawn_pin (s : State) : (s.drawn).pin = s.pin := rfl
@[simp] theorem State.drawn_bin (s : State) : (s.drawn).bin = s.bin := rfl
@[simp] theorem State.drawn_pll (s : State) : (s.drawn).pll = s.pll := rfl
@[simp] theorem State.drawn_mon (s : State) : (s.drawn).mon = s.mon := rfl
@[simp] theorem State.drawn_wear (s : State) : (s.drawn).wear = s.wear := rfl
@[simp] theorem State.drawn_str (s : State) : (s.drawn).str = s.str := rfl
@[simp] theorem State.drawn_lgc (s : State) : (s.drawn).lgc = s.lgc := rfl
@[simp] theorem State.drawn_health (s : State) : (s.drawn).health = s.health := rfl
@[simp] theorem State.drawn_get (s : State) (g : Fld) : (s.drawn).get g = s.get g := rfl
@[simp] theorem State.drawn_bit (s : State) (g : Fld) : (s.drawn).bit g = s.bit g := rfl
@[simp] theorem State.drawn_word (s : State) (i : Nat) : (s.drawn).word i = s.word i := rfl

@[simp] theorem State.set_pending (s : State) (f : Fld) : (s.set f).pending = s.pending := rfl
@[simp] theorem State.set_out (s : State) (f : Fld) : (s.set f).out = s.out := rfl
@[simp] theorem State.set_mask (s : State) (f : Fld) : (s.set f).mask = s.mask := rfl
@[simp] theorem State.set_now (s : State) (f : Fld) : (s.set f).now = s.now := rfl
@[simp] theorem State.set_fresh (s : State) (f : Fld) : (s.set f).fresh = s.fresh := rfl
@[simp] theorem State.set_dev (s : State) (f : Fld) : (s.set f).dev = s.dev := rfl
@[simp] theorem State.set_pwr (s : State) (f : Fld) : (s.set f).pwr = s.pwr := rfl
@[simp] theorem State.set_wch (s : State) (f : Fld) : (s.set f).wch = s.wch := rfl
@[simp] theorem State.set_grd (s : State) (f : Fld) : (s.set f).grd = s.grd := rfl
@[simp] theorem State.set_bus (s : State) (f : Fld) : (s.set f).bus = s.bus := rfl
@[simp] theorem State.set_load (s : State) (f : Fld) : (s.set f).load = s.load := rfl
@[simp] theorem State.set_fab (s : State) (f : Fld) : (s.set f).fab = s.fab := rfl
@[simp] theorem State.set_fix (s : State) (f : Fld) : (s.set f).fix = s.fix := rfl
@[simp] theorem State.set_deep (s : State) (f : Fld) : (s.set f).deep = s.deep := rfl
@[simp] theorem State.set_cph (s : State) (f : Fld) : (s.set f).cph = s.cph := rfl
@[simp] theorem State.set_lnk (s : State) (f : Fld) : (s.set f).lnk = s.lnk := rfl
@[simp] theorem State.set_brg (s : State) (f : Fld) : (s.set f).brg = s.brg := rfl
@[simp] theorem State.set_smp (s : State) (f : Fld) : (s.set f).smp = s.smp := rfl
@[simp] theorem State.set_ddc (s : State) (f : Fld) : (s.set f).ddc = s.ddc := rfl
@[simp] theorem State.set_ctx (s : State) (f : Fld) : (s.set f).ctx = s.ctx := rfl
@[simp] theorem State.set_scan (s : State) (f : Fld) : (s.set f).scan = s.scan := rfl
@[simp] theorem State.set_lmdTx (s : State) (f : Fld) : (s.set f).lmdTx = s.lmdTx := rfl
@[simp] theorem State.set_lmdRx (s : State) (f : Fld) : (s.set f).lmdRx = s.lmdRx := rfl
@[simp] theorem State.set_spt (s : State) (f : Fld) : (s.set f).spt = s.spt := rfl
@[simp] theorem State.set_pin (s : State) (f : Fld) : (s.set f).pin = s.pin := rfl
@[simp] theorem State.set_bin (s : State) (f : Fld) : (s.set f).bin = s.bin := rfl
@[simp] theorem State.set_pll (s : State) (f : Fld) : (s.set f).pll = s.pll := rfl
@[simp] theorem State.set_mon (s : State) (f : Fld) : (s.set f).mon = s.mon := rfl
@[simp] theorem State.set_wear (s : State) (f : Fld) : (s.set f).wear = s.wear := rfl
@[simp] theorem State.set_str (s : State) (f : Fld) : (s.set f).str = s.str := rfl
@[simp] theorem State.set_lgc (s : State) (f : Fld) : (s.set f).lgc = s.lgc := rfl
@[simp] theorem State.set_health (s : State) (f : Fld) : (s.set f).health = s.health := rfl

@[simp] theorem State.satAddNoFlag_pending (s : State) (cnt : Fld) (n : Nat) : (s.satAddNoFlag cnt n).pending = s.pending := rfl
@[simp] theorem State.satAddNoFlag_out (s : State) (cnt : Fld) (n : Nat) : (s.satAddNoFlag cnt n).out = s.out := rfl
@[simp] theorem State.satAddNoFlag_mask (s : State) (cnt : Fld) (n : Nat) : (s.satAddNoFlag cnt n).mask = s.mask := rfl
@[simp] theorem State.satAddNoFlag_now (s : State) (cnt : Fld) (n : Nat) : (s.satAddNoFlag cnt n).now = s.now := rfl
@[simp] theorem State.satAddNoFlag_fresh (s : State) (cnt : Fld) (n : Nat) : (s.satAddNoFlag cnt n).fresh = s.fresh := rfl
@[simp] theorem State.satAddNoFlag_dev (s : State) (cnt : Fld) (n : Nat) : (s.satAddNoFlag cnt n).dev = s.dev := rfl
@[simp] theorem State.satAddNoFlag_pwr (s : State) (cnt : Fld) (n : Nat) : (s.satAddNoFlag cnt n).pwr = s.pwr := rfl
@[simp] theorem State.satAddNoFlag_wch (s : State) (cnt : Fld) (n : Nat) : (s.satAddNoFlag cnt n).wch = s.wch := rfl
@[simp] theorem State.satAddNoFlag_grd (s : State) (cnt : Fld) (n : Nat) : (s.satAddNoFlag cnt n).grd = s.grd := rfl
@[simp] theorem State.satAddNoFlag_bus (s : State) (cnt : Fld) (n : Nat) : (s.satAddNoFlag cnt n).bus = s.bus := rfl
@[simp] theorem State.satAddNoFlag_load (s : State) (cnt : Fld) (n : Nat) : (s.satAddNoFlag cnt n).load = s.load := rfl
@[simp] theorem State.satAddNoFlag_fab (s : State) (cnt : Fld) (n : Nat) : (s.satAddNoFlag cnt n).fab = s.fab := rfl
@[simp] theorem State.satAddNoFlag_fix (s : State) (cnt : Fld) (n : Nat) : (s.satAddNoFlag cnt n).fix = s.fix := rfl
@[simp] theorem State.satAddNoFlag_deep (s : State) (cnt : Fld) (n : Nat) : (s.satAddNoFlag cnt n).deep = s.deep := rfl
@[simp] theorem State.satAddNoFlag_cph (s : State) (cnt : Fld) (n : Nat) : (s.satAddNoFlag cnt n).cph = s.cph := rfl
@[simp] theorem State.satAddNoFlag_lnk (s : State) (cnt : Fld) (n : Nat) : (s.satAddNoFlag cnt n).lnk = s.lnk := rfl
@[simp] theorem State.satAddNoFlag_brg (s : State) (cnt : Fld) (n : Nat) : (s.satAddNoFlag cnt n).brg = s.brg := rfl
@[simp] theorem State.satAddNoFlag_smp (s : State) (cnt : Fld) (n : Nat) : (s.satAddNoFlag cnt n).smp = s.smp := rfl
@[simp] theorem State.satAddNoFlag_ddc (s : State) (cnt : Fld) (n : Nat) : (s.satAddNoFlag cnt n).ddc = s.ddc := rfl
@[simp] theorem State.satAddNoFlag_ctx (s : State) (cnt : Fld) (n : Nat) : (s.satAddNoFlag cnt n).ctx = s.ctx := rfl
@[simp] theorem State.satAddNoFlag_scan (s : State) (cnt : Fld) (n : Nat) : (s.satAddNoFlag cnt n).scan = s.scan := rfl
@[simp] theorem State.satAddNoFlag_lmdTx (s : State) (cnt : Fld) (n : Nat) : (s.satAddNoFlag cnt n).lmdTx = s.lmdTx := rfl
@[simp] theorem State.satAddNoFlag_lmdRx (s : State) (cnt : Fld) (n : Nat) : (s.satAddNoFlag cnt n).lmdRx = s.lmdRx := rfl
@[simp] theorem State.satAddNoFlag_spt (s : State) (cnt : Fld) (n : Nat) : (s.satAddNoFlag cnt n).spt = s.spt := rfl
@[simp] theorem State.satAddNoFlag_pin (s : State) (cnt : Fld) (n : Nat) : (s.satAddNoFlag cnt n).pin = s.pin := rfl
@[simp] theorem State.satAddNoFlag_bin (s : State) (cnt : Fld) (n : Nat) : (s.satAddNoFlag cnt n).bin = s.bin := rfl
@[simp] theorem State.satAddNoFlag_pll (s : State) (cnt : Fld) (n : Nat) : (s.satAddNoFlag cnt n).pll = s.pll := rfl
@[simp] theorem State.satAddNoFlag_mon (s : State) (cnt : Fld) (n : Nat) : (s.satAddNoFlag cnt n).mon = s.mon := rfl
@[simp] theorem State.satAddNoFlag_wear (s : State) (cnt : Fld) (n : Nat) : (s.satAddNoFlag cnt n).wear = s.wear := rfl
@[simp] theorem State.satAddNoFlag_str (s : State) (cnt : Fld) (n : Nat) : (s.satAddNoFlag cnt n).str = s.str := rfl
@[simp] theorem State.satAddNoFlag_lgc (s : State) (cnt : Fld) (n : Nat) : (s.satAddNoFlag cnt n).lgc = s.lgc := rfl
@[simp] theorem State.satAddNoFlag_health (s : State) (cnt : Fld) (n : Nat) : (s.satAddNoFlag cnt n).health = s.health := rfl

@[simp] theorem State.putWord_pending (s : State) (a : Nat) (w : Word) : (s.putWord a w).pending = s.pending := rfl
@[simp] theorem State.putWord_out (s : State) (a : Nat) (w : Word) : (s.putWord a w).out = s.out := rfl
@[simp] theorem State.putWord_mask (s : State) (a : Nat) (w : Word) : (s.putWord a w).mask = s.mask := rfl
@[simp] theorem State.putWord_now (s : State) (a : Nat) (w : Word) : (s.putWord a w).now = s.now := rfl
@[simp] theorem State.putWord_fresh (s : State) (a : Nat) (w : Word) : (s.putWord a w).fresh = s.fresh := rfl
@[simp] theorem State.putWord_dev (s : State) (a : Nat) (w : Word) : (s.putWord a w).dev = s.dev := rfl
@[simp] theorem State.putWord_pwr (s : State) (a : Nat) (w : Word) : (s.putWord a w).pwr = s.pwr := rfl
@[simp] theorem State.putWord_wch (s : State) (a : Nat) (w : Word) : (s.putWord a w).wch = s.wch := rfl
@[simp] theorem State.putWord_grd (s : State) (a : Nat) (w : Word) : (s.putWord a w).grd = s.grd := rfl
@[simp] theorem State.putWord_bus (s : State) (a : Nat) (w : Word) : (s.putWord a w).bus = s.bus := rfl
@[simp] theorem State.putWord_load (s : State) (a : Nat) (w : Word) : (s.putWord a w).load = s.load := rfl
@[simp] theorem State.putWord_fab (s : State) (a : Nat) (w : Word) : (s.putWord a w).fab = s.fab := rfl
@[simp] theorem State.putWord_fix (s : State) (a : Nat) (w : Word) : (s.putWord a w).fix = s.fix := rfl
@[simp] theorem State.putWord_deep (s : State) (a : Nat) (w : Word) : (s.putWord a w).deep = s.deep := rfl
@[simp] theorem State.putWord_cph (s : State) (a : Nat) (w : Word) : (s.putWord a w).cph = s.cph := rfl
@[simp] theorem State.putWord_lnk (s : State) (a : Nat) (w : Word) : (s.putWord a w).lnk = s.lnk := rfl
@[simp] theorem State.putWord_brg (s : State) (a : Nat) (w : Word) : (s.putWord a w).brg = s.brg := rfl
@[simp] theorem State.putWord_smp (s : State) (a : Nat) (w : Word) : (s.putWord a w).smp = s.smp := rfl
@[simp] theorem State.putWord_ddc (s : State) (a : Nat) (w : Word) : (s.putWord a w).ddc = s.ddc := rfl
@[simp] theorem State.putWord_ctx (s : State) (a : Nat) (w : Word) : (s.putWord a w).ctx = s.ctx := rfl
@[simp] theorem State.putWord_scan (s : State) (a : Nat) (w : Word) : (s.putWord a w).scan = s.scan := rfl
@[simp] theorem State.putWord_lmdTx (s : State) (a : Nat) (w : Word) : (s.putWord a w).lmdTx = s.lmdTx := rfl
@[simp] theorem State.putWord_lmdRx (s : State) (a : Nat) (w : Word) : (s.putWord a w).lmdRx = s.lmdRx := rfl
@[simp] theorem State.putWord_spt (s : State) (a : Nat) (w : Word) : (s.putWord a w).spt = s.spt := rfl
@[simp] theorem State.putWord_pin (s : State) (a : Nat) (w : Word) : (s.putWord a w).pin = s.pin := rfl
@[simp] theorem State.putWord_bin (s : State) (a : Nat) (w : Word) : (s.putWord a w).bin = s.bin := rfl
@[simp] theorem State.putWord_pll (s : State) (a : Nat) (w : Word) : (s.putWord a w).pll = s.pll := rfl
@[simp] theorem State.putWord_mon (s : State) (a : Nat) (w : Word) : (s.putWord a w).mon = s.mon := rfl
@[simp] theorem State.putWord_wear (s : State) (a : Nat) (w : Word) : (s.putWord a w).wear = s.wear := rfl
@[simp] theorem State.putWord_str (s : State) (a : Nat) (w : Word) : (s.putWord a w).str = s.str := rfl
@[simp] theorem State.putWord_lgc (s : State) (a : Nat) (w : Word) : (s.putWord a w).lgc = s.lgc := rfl
@[simp] theorem State.putWord_health (s : State) (a : Nat) (w : Word) : (s.putWord a w).health = s.health := rfl

@[simp] theorem State.putRegBytes_pending (s : State) (a : Nat) (bs : List Byte) : (s.putRegBytes a bs).pending = s.pending := rfl
@[simp] theorem State.putRegBytes_out (s : State) (a : Nat) (bs : List Byte) : (s.putRegBytes a bs).out = s.out := rfl
@[simp] theorem State.putRegBytes_mask (s : State) (a : Nat) (bs : List Byte) : (s.putRegBytes a bs).mask = s.mask := rfl
@[simp] theorem State.putRegBytes_now (s : State) (a : Nat) (bs : List Byte) : (s.putRegBytes a bs).now = s.now := rfl
@[simp] theorem State.putRegBytes_fresh (s : State) (a : Nat) (bs : List Byte) : (s.putRegBytes a bs).fresh = s.fresh := rfl
@[simp] theorem State.putRegBytes_dev (s : State) (a : Nat) (bs : List Byte) : (s.putRegBytes a bs).dev = s.dev := rfl
@[simp] theorem State.putRegBytes_pwr (s : State) (a : Nat) (bs : List Byte) : (s.putRegBytes a bs).pwr = s.pwr := rfl
@[simp] theorem State.putRegBytes_wch (s : State) (a : Nat) (bs : List Byte) : (s.putRegBytes a bs).wch = s.wch := rfl
@[simp] theorem State.putRegBytes_grd (s : State) (a : Nat) (bs : List Byte) : (s.putRegBytes a bs).grd = s.grd := rfl
@[simp] theorem State.putRegBytes_bus (s : State) (a : Nat) (bs : List Byte) : (s.putRegBytes a bs).bus = s.bus := rfl
@[simp] theorem State.putRegBytes_load (s : State) (a : Nat) (bs : List Byte) : (s.putRegBytes a bs).load = s.load := rfl
@[simp] theorem State.putRegBytes_fab (s : State) (a : Nat) (bs : List Byte) : (s.putRegBytes a bs).fab = s.fab := rfl
@[simp] theorem State.putRegBytes_fix (s : State) (a : Nat) (bs : List Byte) : (s.putRegBytes a bs).fix = s.fix := rfl
@[simp] theorem State.putRegBytes_deep (s : State) (a : Nat) (bs : List Byte) : (s.putRegBytes a bs).deep = s.deep := rfl
@[simp] theorem State.putRegBytes_cph (s : State) (a : Nat) (bs : List Byte) : (s.putRegBytes a bs).cph = s.cph := rfl
@[simp] theorem State.putRegBytes_lnk (s : State) (a : Nat) (bs : List Byte) : (s.putRegBytes a bs).lnk = s.lnk := rfl
@[simp] theorem State.putRegBytes_brg (s : State) (a : Nat) (bs : List Byte) : (s.putRegBytes a bs).brg = s.brg := rfl
@[simp] theorem State.putRegBytes_smp (s : State) (a : Nat) (bs : List Byte) : (s.putRegBytes a bs).smp = s.smp := rfl
@[simp] theorem State.putRegBytes_ddc (s : State) (a : Nat) (bs : List Byte) : (s.putRegBytes a bs).ddc = s.ddc := rfl
@[simp] theorem State.putRegBytes_ctx (s : State) (a : Nat) (bs : List Byte) : (s.putRegBytes a bs).ctx = s.ctx := rfl
@[simp] theorem State.putRegBytes_scan (s : State) (a : Nat) (bs : List Byte) : (s.putRegBytes a bs).scan = s.scan := rfl
@[simp] theorem State.putRegBytes_lmdTx (s : State) (a : Nat) (bs : List Byte) : (s.putRegBytes a bs).lmdTx = s.lmdTx := rfl
@[simp] theorem State.putRegBytes_lmdRx (s : State) (a : Nat) (bs : List Byte) : (s.putRegBytes a bs).lmdRx = s.lmdRx := rfl
@[simp] theorem State.putRegBytes_spt (s : State) (a : Nat) (bs : List Byte) : (s.putRegBytes a bs).spt = s.spt := rfl
@[simp] theorem State.putRegBytes_pin (s : State) (a : Nat) (bs : List Byte) : (s.putRegBytes a bs).pin = s.pin := rfl
@[simp] theorem State.putRegBytes_bin (s : State) (a : Nat) (bs : List Byte) : (s.putRegBytes a bs).bin = s.bin := rfl
@[simp] theorem State.putRegBytes_pll (s : State) (a : Nat) (bs : List Byte) : (s.putRegBytes a bs).pll = s.pll := rfl
@[simp] theorem State.putRegBytes_mon (s : State) (a : Nat) (bs : List Byte) : (s.putRegBytes a bs).mon = s.mon := rfl
@[simp] theorem State.putRegBytes_wear (s : State) (a : Nat) (bs : List Byte) : (s.putRegBytes a bs).wear = s.wear := rfl
@[simp] theorem State.putRegBytes_str (s : State) (a : Nat) (bs : List Byte) : (s.putRegBytes a bs).str = s.str := rfl
@[simp] theorem State.putRegBytes_lgc (s : State) (a : Nat) (bs : List Byte) : (s.putRegBytes a bs).lgc = s.lgc := rfl
@[simp] theorem State.putRegBytes_health (s : State) (a : Nat) (bs : List Byte) : (s.putRegBytes a bs).health = s.health := rfl

@[simp] theorem State.putB_pending (s : State) (f : Fld) (b : Bool) : (s.putB f b).pending = s.pending := rfl
@[simp] theorem State.putB_out (s : State) (f : Fld) (b : Bool) : (s.putB f b).out = s.out := rfl
@[simp] theorem State.putB_mask (s : State) (f : Fld) (b : Bool) : (s.putB f b).mask = s.mask := rfl
@[simp] theorem State.putB_now (s : State) (f : Fld) (b : Bool) : (s.putB f b).now = s.now := rfl
@[simp] theorem State.putB_fresh (s : State) (f : Fld) (b : Bool) : (s.putB f b).fresh = s.fresh := rfl
@[simp] theorem State.putB_dev (s : State) (f : Fld) (b : Bool) : (s.putB f b).dev = s.dev := rfl
@[simp] theorem State.putB_pwr (s : State) (f : Fld) (b : Bool) : (s.putB f b).pwr = s.pwr := rfl
@[simp] theorem State.putB_wch (s : State) (f : Fld) (b : Bool) : (s.putB f b).wch = s.wch := rfl
@[simp] theorem State.putB_grd (s : State) (f : Fld) (b : Bool) : (s.putB f b).grd = s.grd := rfl
@[simp] theorem State.putB_bus (s : State) (f : Fld) (b : Bool) : (s.putB f b).bus = s.bus := rfl
@[simp] theorem State.putB_load (s : State) (f : Fld) (b : Bool) : (s.putB f b).load = s.load := rfl
@[simp] theorem State.putB_fab (s : State) (f : Fld) (b : Bool) : (s.putB f b).fab = s.fab := rfl
@[simp] theorem State.putB_fix (s : State) (f : Fld) (b : Bool) : (s.putB f b).fix = s.fix := rfl
@[simp] theorem State.putB_deep (s : State) (f : Fld) (b : Bool) : (s.putB f b).deep = s.deep := rfl
@[simp] theorem State.putB_cph (s : State) (f : Fld) (b : Bool) : (s.putB f b).cph = s.cph := rfl
@[simp] theorem State.putB_lnk (s : State) (f : Fld) (b : Bool) : (s.putB f b).lnk = s.lnk := rfl
@[simp] theorem State.putB_brg (s : State) (f : Fld) (b : Bool) : (s.putB f b).brg = s.brg := rfl
@[simp] theorem State.putB_smp (s : State) (f : Fld) (b : Bool) : (s.putB f b).smp = s.smp := rfl
@[simp] theorem State.putB_ddc (s : State) (f : Fld) (b : Bool) : (s.putB f b).ddc = s.ddc := rfl
@[simp] theorem State.putB_ctx (s : State) (f : Fld) (b : Bool) : (s.putB f b).ctx = s.ctx := rfl
@[simp] theorem State.putB_scan (s : State) (f : Fld) (b : Bool) : (s.putB f b).scan = s.scan := rfl
@[simp] theorem State.putB_lmdTx (s : State) (f : Fld) (b : Bool) : (s.putB f b).lmdTx = s.lmdTx := rfl
@[simp] theorem State.putB_lmdRx (s : State) (f : Fld) (b : Bool) : (s.putB f b).lmdRx = s.lmdRx := rfl
@[simp] theorem State.putB_spt (s : State) (f : Fld) (b : Bool) : (s.putB f b).spt = s.spt := rfl
@[simp] theorem State.putB_pin (s : State) (f : Fld) (b : Bool) : (s.putB f b).pin = s.pin := rfl
@[simp] theorem State.putB_bin (s : State) (f : Fld) (b : Bool) : (s.putB f b).bin = s.bin := rfl
@[simp] theorem State.putB_pll (s : State) (f : Fld) (b : Bool) : (s.putB f b).pll = s.pll := rfl
@[simp] theorem State.putB_mon (s : State) (f : Fld) (b : Bool) : (s.putB f b).mon = s.mon := rfl
@[simp] theorem State.putB_wear (s : State) (f : Fld) (b : Bool) : (s.putB f b).wear = s.wear := rfl
@[simp] theorem State.putB_str (s : State) (f : Fld) (b : Bool) : (s.putB f b).str = s.str := rfl
@[simp] theorem State.putB_lgc (s : State) (f : Fld) (b : Bool) : (s.putB f b).lgc = s.lgc := rfl
@[simp] theorem State.putB_health (s : State) (f : Fld) (b : Bool) : (s.putB f b).health = s.health := rfl

@[simp] theorem State.put2_pending (s : State) (lo : Fld) (hi : Fld) (v : Nat) : (s.put2 lo hi v).pending = s.pending := rfl
@[simp] theorem State.put2_out (s : State) (lo : Fld) (hi : Fld) (v : Nat) : (s.put2 lo hi v).out = s.out := rfl
@[simp] theorem State.put2_mask (s : State) (lo : Fld) (hi : Fld) (v : Nat) : (s.put2 lo hi v).mask = s.mask := rfl
@[simp] theorem State.put2_now (s : State) (lo : Fld) (hi : Fld) (v : Nat) : (s.put2 lo hi v).now = s.now := rfl
@[simp] theorem State.put2_fresh (s : State) (lo : Fld) (hi : Fld) (v : Nat) : (s.put2 lo hi v).fresh = s.fresh := rfl
@[simp] theorem State.put2_dev (s : State) (lo : Fld) (hi : Fld) (v : Nat) : (s.put2 lo hi v).dev = s.dev := rfl
@[simp] theorem State.put2_pwr (s : State) (lo : Fld) (hi : Fld) (v : Nat) : (s.put2 lo hi v).pwr = s.pwr := rfl
@[simp] theorem State.put2_wch (s : State) (lo : Fld) (hi : Fld) (v : Nat) : (s.put2 lo hi v).wch = s.wch := rfl
@[simp] theorem State.put2_grd (s : State) (lo : Fld) (hi : Fld) (v : Nat) : (s.put2 lo hi v).grd = s.grd := rfl
@[simp] theorem State.put2_bus (s : State) (lo : Fld) (hi : Fld) (v : Nat) : (s.put2 lo hi v).bus = s.bus := rfl
@[simp] theorem State.put2_load (s : State) (lo : Fld) (hi : Fld) (v : Nat) : (s.put2 lo hi v).load = s.load := rfl
@[simp] theorem State.put2_fab (s : State) (lo : Fld) (hi : Fld) (v : Nat) : (s.put2 lo hi v).fab = s.fab := rfl
@[simp] theorem State.put2_fix (s : State) (lo : Fld) (hi : Fld) (v : Nat) : (s.put2 lo hi v).fix = s.fix := rfl
@[simp] theorem State.put2_deep (s : State) (lo : Fld) (hi : Fld) (v : Nat) : (s.put2 lo hi v).deep = s.deep := rfl
@[simp] theorem State.put2_cph (s : State) (lo : Fld) (hi : Fld) (v : Nat) : (s.put2 lo hi v).cph = s.cph := rfl
@[simp] theorem State.put2_lnk (s : State) (lo : Fld) (hi : Fld) (v : Nat) : (s.put2 lo hi v).lnk = s.lnk := rfl
@[simp] theorem State.put2_brg (s : State) (lo : Fld) (hi : Fld) (v : Nat) : (s.put2 lo hi v).brg = s.brg := rfl
@[simp] theorem State.put2_smp (s : State) (lo : Fld) (hi : Fld) (v : Nat) : (s.put2 lo hi v).smp = s.smp := rfl
@[simp] theorem State.put2_ddc (s : State) (lo : Fld) (hi : Fld) (v : Nat) : (s.put2 lo hi v).ddc = s.ddc := rfl
@[simp] theorem State.put2_ctx (s : State) (lo : Fld) (hi : Fld) (v : Nat) : (s.put2 lo hi v).ctx = s.ctx := rfl
@[simp] theorem State.put2_scan (s : State) (lo : Fld) (hi : Fld) (v : Nat) : (s.put2 lo hi v).scan = s.scan := rfl
@[simp] theorem State.put2_lmdTx (s : State) (lo : Fld) (hi : Fld) (v : Nat) : (s.put2 lo hi v).lmdTx = s.lmdTx := rfl
@[simp] theorem State.put2_lmdRx (s : State) (lo : Fld) (hi : Fld) (v : Nat) : (s.put2 lo hi v).lmdRx = s.lmdRx := rfl
@[simp] theorem State.put2_spt (s : State) (lo : Fld) (hi : Fld) (v : Nat) : (s.put2 lo hi v).spt = s.spt := rfl
@[simp] theorem State.put2_pin (s : State) (lo : Fld) (hi : Fld) (v : Nat) : (s.put2 lo hi v).pin = s.pin := rfl
@[simp] theorem State.put2_bin (s : State) (lo : Fld) (hi : Fld) (v : Nat) : (s.put2 lo hi v).bin = s.bin := rfl
@[simp] theorem State.put2_pll (s : State) (lo : Fld) (hi : Fld) (v : Nat) : (s.put2 lo hi v).pll = s.pll := rfl
@[simp] theorem State.put2_mon (s : State) (lo : Fld) (hi : Fld) (v : Nat) : (s.put2 lo hi v).mon = s.mon := rfl
@[simp] theorem State.put2_wear (s : State) (lo : Fld) (hi : Fld) (v : Nat) : (s.put2 lo hi v).wear = s.wear := rfl
@[simp] theorem State.put2_str (s : State) (lo : Fld) (hi : Fld) (v : Nat) : (s.put2 lo hi v).str = s.str := rfl
@[simp] theorem State.put2_lgc (s : State) (lo : Fld) (hi : Fld) (v : Nat) : (s.put2 lo hi v).lgc = s.lgc := rfl
@[simp] theorem State.put2_health (s : State) (lo : Fld) (hi : Fld) (v : Nat) : (s.put2 lo hi v).health = s.health := rfl

@[simp] theorem State.put_pending (s : State) (f : Fld) (v : Nat) : (s.put f v).pending = s.pending := rfl
@[simp] theorem State.put_out (s : State) (f : Fld) (v : Nat) : (s.put f v).out = s.out := rfl
@[simp] theorem State.put_mask (s : State) (f : Fld) (v : Nat) : (s.put f v).mask = s.mask := rfl
@[simp] theorem State.put_now (s : State) (f : Fld) (v : Nat) : (s.put f v).now = s.now := rfl
@[simp] theorem State.put_fresh (s : State) (f : Fld) (v : Nat) : (s.put f v).fresh = s.fresh := rfl
@[simp] theorem State.put_dev (s : State) (f : Fld) (v : Nat) : (s.put f v).dev = s.dev := rfl
@[simp] theorem State.put_pwr (s : State) (f : Fld) (v : Nat) : (s.put f v).pwr = s.pwr := rfl
@[simp] theorem State.put_wch (s : State) (f : Fld) (v : Nat) : (s.put f v).wch = s.wch := rfl
@[simp] theorem State.put_grd (s : State) (f : Fld) (v : Nat) : (s.put f v).grd = s.grd := rfl
@[simp] theorem State.put_bus (s : State) (f : Fld) (v : Nat) : (s.put f v).bus = s.bus := rfl
@[simp] theorem State.put_load (s : State) (f : Fld) (v : Nat) : (s.put f v).load = s.load := rfl
@[simp] theorem State.put_fab (s : State) (f : Fld) (v : Nat) : (s.put f v).fab = s.fab := rfl
@[simp] theorem State.put_fix (s : State) (f : Fld) (v : Nat) : (s.put f v).fix = s.fix := rfl
@[simp] theorem State.put_deep (s : State) (f : Fld) (v : Nat) : (s.put f v).deep = s.deep := rfl
@[simp] theorem State.put_cph (s : State) (f : Fld) (v : Nat) : (s.put f v).cph = s.cph := rfl
@[simp] theorem State.put_lnk (s : State) (f : Fld) (v : Nat) : (s.put f v).lnk = s.lnk := rfl
@[simp] theorem State.put_brg (s : State) (f : Fld) (v : Nat) : (s.put f v).brg = s.brg := rfl
@[simp] theorem State.put_smp (s : State) (f : Fld) (v : Nat) : (s.put f v).smp = s.smp := rfl
@[simp] theorem State.put_ddc (s : State) (f : Fld) (v : Nat) : (s.put f v).ddc = s.ddc := rfl
@[simp] theorem State.put_ctx (s : State) (f : Fld) (v : Nat) : (s.put f v).ctx = s.ctx := rfl
@[simp] theorem State.put_scan (s : State) (f : Fld) (v : Nat) : (s.put f v).scan = s.scan := rfl
@[simp] theorem State.put_lmdTx (s : State) (f : Fld) (v : Nat) : (s.put f v).lmdTx = s.lmdTx := rfl
@[simp] theorem State.put_lmdRx (s : State) (f : Fld) (v : Nat) : (s.put f v).lmdRx = s.lmdRx := rfl
@[simp] theorem State.put_spt (s : State) (f : Fld) (v : Nat) : (s.put f v).spt = s.spt := rfl
@[simp] theorem State.put_pin (s : State) (f : Fld) (v : Nat) : (s.put f v).pin = s.pin := rfl
@[simp] theorem State.put_bin (s : State) (f : Fld) (v : Nat) : (s.put f v).bin = s.bin := rfl
@[simp] theorem State.put_pll (s : State) (f : Fld) (v : Nat) : (s.put f v).pll = s.pll := rfl
@[simp] theorem State.put_mon (s : State) (f : Fld) (v : Nat) : (s.put f v).mon = s.mon := rfl
@[simp] theorem State.put_wear (s : State) (f : Fld) (v : Nat) : (s.put f v).wear = s.wear := rfl
@[simp] theorem State.put_str (s : State) (f : Fld) (v : Nat) : (s.put f v).str = s.str := rfl
@[simp] theorem State.put_lgc (s : State) (f : Fld) (v : Nat) : (s.put f v).lgc = s.lgc := rfl
@[simp] theorem State.put_health (s : State) (f : Fld) (v : Nat) : (s.put f v).health = s.health := rfl

@[simp] theorem State.modInc_pending (s : State) (cnt : Fld) : (s.modInc cnt).pending = s.pending := rfl
@[simp] theorem State.modInc_out (s : State) (cnt : Fld) : (s.modInc cnt).out = s.out := rfl
@[simp] theorem State.modInc_mask (s : State) (cnt : Fld) : (s.modInc cnt).mask = s.mask := rfl
@[simp] theorem State.modInc_now (s : State) (cnt : Fld) : (s.modInc cnt).now = s.now := rfl
@[simp] theorem State.modInc_fresh (s : State) (cnt : Fld) : (s.modInc cnt).fresh = s.fresh := rfl
@[simp] theorem State.modInc_dev (s : State) (cnt : Fld) : (s.modInc cnt).dev = s.dev := rfl
@[simp] theorem State.modInc_pwr (s : State) (cnt : Fld) : (s.modInc cnt).pwr = s.pwr := rfl
@[simp] theorem State.modInc_wch (s : State) (cnt : Fld) : (s.modInc cnt).wch = s.wch := rfl
@[simp] theorem State.modInc_grd (s : State) (cnt : Fld) : (s.modInc cnt).grd = s.grd := rfl
@[simp] theorem State.modInc_bus (s : State) (cnt : Fld) : (s.modInc cnt).bus = s.bus := rfl
@[simp] theorem State.modInc_load (s : State) (cnt : Fld) : (s.modInc cnt).load = s.load := rfl
@[simp] theorem State.modInc_fab (s : State) (cnt : Fld) : (s.modInc cnt).fab = s.fab := rfl
@[simp] theorem State.modInc_fix (s : State) (cnt : Fld) : (s.modInc cnt).fix = s.fix := rfl
@[simp] theorem State.modInc_deep (s : State) (cnt : Fld) : (s.modInc cnt).deep = s.deep := rfl
@[simp] theorem State.modInc_cph (s : State) (cnt : Fld) : (s.modInc cnt).cph = s.cph := rfl
@[simp] theorem State.modInc_lnk (s : State) (cnt : Fld) : (s.modInc cnt).lnk = s.lnk := rfl
@[simp] theorem State.modInc_brg (s : State) (cnt : Fld) : (s.modInc cnt).brg = s.brg := rfl
@[simp] theorem State.modInc_smp (s : State) (cnt : Fld) : (s.modInc cnt).smp = s.smp := rfl
@[simp] theorem State.modInc_ddc (s : State) (cnt : Fld) : (s.modInc cnt).ddc = s.ddc := rfl
@[simp] theorem State.modInc_ctx (s : State) (cnt : Fld) : (s.modInc cnt).ctx = s.ctx := rfl
@[simp] theorem State.modInc_scan (s : State) (cnt : Fld) : (s.modInc cnt).scan = s.scan := rfl
@[simp] theorem State.modInc_lmdTx (s : State) (cnt : Fld) : (s.modInc cnt).lmdTx = s.lmdTx := rfl
@[simp] theorem State.modInc_lmdRx (s : State) (cnt : Fld) : (s.modInc cnt).lmdRx = s.lmdRx := rfl
@[simp] theorem State.modInc_spt (s : State) (cnt : Fld) : (s.modInc cnt).spt = s.spt := rfl
@[simp] theorem State.modInc_pin (s : State) (cnt : Fld) : (s.modInc cnt).pin = s.pin := rfl
@[simp] theorem State.modInc_bin (s : State) (cnt : Fld) : (s.modInc cnt).bin = s.bin := rfl
@[simp] theorem State.modInc_pll (s : State) (cnt : Fld) : (s.modInc cnt).pll = s.pll := rfl
@[simp] theorem State.modInc_mon (s : State) (cnt : Fld) : (s.modInc cnt).mon = s.mon := rfl
@[simp] theorem State.modInc_wear (s : State) (cnt : Fld) : (s.modInc cnt).wear = s.wear := rfl
@[simp] theorem State.modInc_str (s : State) (cnt : Fld) : (s.modInc cnt).str = s.str := rfl
@[simp] theorem State.modInc_lgc (s : State) (cnt : Fld) : (s.modInc cnt).lgc = s.lgc := rfl
@[simp] theorem State.modInc_health (s : State) (cnt : Fld) : (s.modInc cnt).health = s.health := rfl

@[simp] theorem State.clr_pending (s : State) (f : Fld) : (s.clr f).pending = s.pending := rfl
@[simp] theorem State.clr_out (s : State) (f : Fld) : (s.clr f).out = s.out := rfl
@[simp] theorem State.clr_mask (s : State) (f : Fld) : (s.clr f).mask = s.mask := rfl
@[simp] theorem State.clr_now (s : State) (f : Fld) : (s.clr f).now = s.now := rfl
@[simp] theorem State.clr_fresh (s : State) (f : Fld) : (s.clr f).fresh = s.fresh := rfl
@[simp] theorem State.clr_dev (s : State) (f : Fld) : (s.clr f).dev = s.dev := rfl
@[simp] theorem State.clr_pwr (s : State) (f : Fld) : (s.clr f).pwr = s.pwr := rfl
@[simp] theorem State.clr_wch (s : State) (f : Fld) : (s.clr f).wch = s.wch := rfl
@[simp] theorem State.clr_grd (s : State) (f : Fld) : (s.clr f).grd = s.grd := rfl
@[simp] theorem State.clr_bus (s : State) (f : Fld) : (s.clr f).bus = s.bus := rfl
@[simp] theorem State.clr_load (s : State) (f : Fld) : (s.clr f).load = s.load := rfl
@[simp] theorem State.clr_fab (s : State) (f : Fld) : (s.clr f).fab = s.fab := rfl
@[simp] theorem State.clr_fix (s : State) (f : Fld) : (s.clr f).fix = s.fix := rfl
@[simp] theorem State.clr_deep (s : State) (f : Fld) : (s.clr f).deep = s.deep := rfl
@[simp] theorem State.clr_cph (s : State) (f : Fld) : (s.clr f).cph = s.cph := rfl
@[simp] theorem State.clr_lnk (s : State) (f : Fld) : (s.clr f).lnk = s.lnk := rfl
@[simp] theorem State.clr_brg (s : State) (f : Fld) : (s.clr f).brg = s.brg := rfl
@[simp] theorem State.clr_smp (s : State) (f : Fld) : (s.clr f).smp = s.smp := rfl
@[simp] theorem State.clr_ddc (s : State) (f : Fld) : (s.clr f).ddc = s.ddc := rfl
@[simp] theorem State.clr_ctx (s : State) (f : Fld) : (s.clr f).ctx = s.ctx := rfl
@[simp] theorem State.clr_scan (s : State) (f : Fld) : (s.clr f).scan = s.scan := rfl
@[simp] theorem State.clr_lmdTx (s : State) (f : Fld) : (s.clr f).lmdTx = s.lmdTx := rfl
@[simp] theorem State.clr_lmdRx (s : State) (f : Fld) : (s.clr f).lmdRx = s.lmdRx := rfl
@[simp] theorem State.clr_spt (s : State) (f : Fld) : (s.clr f).spt = s.spt := rfl
@[simp] theorem State.clr_pin (s : State) (f : Fld) : (s.clr f).pin = s.pin := rfl
@[simp] theorem State.clr_bin (s : State) (f : Fld) : (s.clr f).bin = s.bin := rfl
@[simp] theorem State.clr_pll (s : State) (f : Fld) : (s.clr f).pll = s.pll := rfl
@[simp] theorem State.clr_mon (s : State) (f : Fld) : (s.clr f).mon = s.mon := rfl
@[simp] theorem State.clr_wear (s : State) (f : Fld) : (s.clr f).wear = s.wear := rfl
@[simp] theorem State.clr_str (s : State) (f : Fld) : (s.clr f).str = s.str := rfl
@[simp] theorem State.clr_lgc (s : State) (f : Fld) : (s.clr f).lgc = s.lgc := rfl
@[simp] theorem State.clr_health (s : State) (f : Fld) : (s.clr f).health = s.health := rfl

end Sys2Proof.Machine
end

