-- ==== Sys2Proof/Laws/Fields.lean ====
section
/-! SUPPORT. The laws of register fields: what a field reads after a write of itself, of a field beside it, of another register. -/
namespace Sys2Proof.Machine

/-- A bit of a field's value is a bit of the word. -/
theorem testBit_bitsOf (x : Word) (lo w i : Nat) : (bitsOf x lo w).testBit i = (decide (i < w) && x.getLsbD (lo + i)) := by
  simp [bitsOf, Nat.testBit_mod_two_pow, Nat.testBit_div_two_pow, BitVec.getLsbD, Nat.add_comm]

/-- The bits of a mask. -/
theorem getLsbD_bitMask (lo w i : Nat) (hi : i < 32) : (bitMask lo w).getLsbD i = (decide (lo ≤ i) && decide (i < lo + w)) := by
  simp only [bitMask, BitVec.getLsbD_ofNat, hi, decide_true, Bool.true_and, Nat.testBit_mul_two_pow, Nat.testBit_two_pow_sub_one]
  by_cases h : lo ≤ i
  · simp only [h, decide_true, Bool.true_and, decide_eq_decide]
    omega
  · simp [h]

/-- The bits of a word with a field replaced. -/
theorem getLsbD_setBits (x : Word) (lo w v i : Nat) (hi : i < 32) :
    (setBits x lo w v).getLsbD i = if lo ≤ i ∧ i < lo + w then v.testBit (i - lo) else x.getLsbD i := by
  simp only [setBits, mergeBits, BitVec.getLsbD_or, BitVec.getLsbD_and, BitVec.getLsbD_not, getLsbD_bitMask _ _ _ hi,
    BitVec.getLsbD_ofNat, Nat.testBit_mul_two_pow, Nat.testBit_mod_two_pow]
  by_cases h : lo ≤ i <;> by_cases h' : i < lo + w <;> simp [h, h', hi]
  omega

/-- A field reads what was written to it, cut to its width. -/
theorem bitsOf_setBits_same (x : Word) (lo w v : Nat) (h : lo + w ≤ 32) : bitsOf (setBits x lo w v) lo w = v % 2 ^ w := by
  apply Nat.eq_of_testBit_eq
  intro i
  rw [testBit_bitsOf, Nat.testBit_mod_two_pow]
  by_cases hi : i < w
  · rw [getLsbD_setBits _ _ _ _ _ (by omega)]
    simp [hi]
  · simp [hi]

/-- A field beside the one written reads as before. -/
theorem bitsOf_setBits_disjoint (x : Word) (lo w v lo' w' : Nat) (h : lo' + w' ≤ 32) (hd : lo + w ≤ lo' ∨ lo' + w' ≤ lo) :
    bitsOf (setBits x lo w v) lo' w' = bitsOf x lo' w' := by
  apply Nat.eq_of_testBit_eq
  intro i
  rw [testBit_bitsOf, testBit_bitsOf]
  by_cases hi : i < w'
  · rw [getLsbD_setBits _ _ _ _ _ (by omega), if_neg (by omega)]
  · simp [hi]

/-- A field reads what was written to it. -/
theorem fldRead_fldWrite_same (m : Cells 32) (f : Fld) (v : Nat) (h : f.lo + f.width ≤ 32) :
    fldRead (fldWrite m f v) f = v % 2 ^ f.width := by
  simp [fldRead, fldWrite, bitsOf_setBits_same _ _ _ _ h]

/-- A field that shares no bit with the one written reads as before. -/
theorem fldRead_fldWrite_disjoint (m : Cells 32) (f g : Fld) (v : Nat) (hg : g.lo + g.width ≤ 32) (hd : f.disjoint g = true) :
    fldRead (fldWrite m f v) g = fldRead m g := by
  simp only [Fld.disjoint, Bool.or_eq_true, decide_eq_true_eq] at hd
  unfold fldRead fldWrite
  by_cases ha : g.addr = f.addr
  · rw [ha, cellRead_cellWrite_same]
    rw [bitsOf_setBits_disjoint _ _ _ _ _ _ hg]
    rcases hd with (hd | hd) | hd
    · exact absurd ha.symm hd
    · exact Or.inl hd
    · exact Or.inr hd
  · rw [cellRead_cellWrite_ne _ ha]

/-- A register other than the field's reads as before. -/
theorem cellRead_fldWrite_ne (m : Cells 32) (f : Fld) (v a : Nat) (h : a ≠ f.addr) : cellRead (fldWrite m f v) a = cellRead m a :=
  cellRead_cellWrite_ne _ h _

/-- A field write keeps the canonical form. -/
theorem fldWrite_wf (m : Cells 32) (f : Fld) (v : Nat) (h : cellWf m = true) : cellWf (fldWrite m f v) = true := cellWrite_wf _ _ _ h

/-! ### The same of the state -/

/-- A field reads what was put into it. -/
theorem State.get_put_same (s : State) (f : Fld) (v : Nat) (h : f.lo + f.width ≤ 32) : (s.put f v).get f = v % 2 ^ f.width :=
  fldRead_fldWrite_same _ _ _ h

/-- A field that shares no bit with the one put reads as before. -/
theorem State.get_put_disjoint (s : State) (f g : Fld) (v : Nat) (hg : g.lo + g.width ≤ 32) (hd : f.disjoint g = true) :
    (s.put f v).get g = s.get g := fldRead_fldWrite_disjoint _ _ _ _ hg hd

/-- A field of another register reads as before. -/
theorem State.get_put_ne (s : State) (f g : Fld) (v : Nat) (h : g.addr ≠ f.addr) : (s.put f v).get g = s.get g := by
  simp only [State.get, State.put, State.withRegs_regs, fldRead]
  rw [cellRead_fldWrite_ne _ _ _ _ h]

/-- Another register reads as before. -/
theorem State.word_put_ne (s : State) (f : Fld) (v a : Nat) (h : a ≠ f.addr) : (s.put f v).word a = s.word a :=
  cellRead_fldWrite_ne _ _ _ _ h

/-- A register reads what was put into it. -/
@[simp] theorem State.word_putWord_same (s : State) (a : Nat) (w : Word) : (s.putWord a w).word a = w := by
  simp [State.word, State.putWord]

/-- Another register reads as before. -/
theorem State.word_putWord_ne (s : State) (a b : Nat) (w : Word) (h : b ≠ a) : (s.putWord a w).word b = s.word b :=
  cellRead_cellWrite_ne _ h _

/-- A field of another register reads as before. -/
theorem State.get_putWord_ne (s : State) (a : Nat) (w : Word) (g : Fld) (h : g.addr ≠ a) : (s.putWord a w).get g = s.get g := by
  simp only [State.get, State.putWord, State.withRegs_regs, fldRead]
  rw [cellRead_cellWrite_ne _ h]

/-- A set bit reads 1. -/
theorem State.bit_set_same (s : State) (f : Fld) (h : f.lo + f.width ≤ 32) (hw : f.width ≠ 0) : (s.set f).bit f = true := by
  unfold State.bit State.set
  rw [State.get_put_same _ _ _ h, Nat.mod_eq_of_lt (Nat.one_lt_two_pow hw)]
  decide

/-- A cleared field reads 0. -/
theorem State.bit_clr_same (s : State) (f : Fld) (h : f.lo + f.width ≤ 32) : (s.clr f).bit f = false := by
  unfold State.bit State.clr
  rw [State.get_put_same _ _ _ h]
  simp

end Sys2Proof.Machine
end

