-- ==== Sys2Proof/Laws/Parts.lean ====
section
/-!
SUPPORT. What an operation can change. `Touches T s t` says that `t` came from `s` by changing only the parts of the state whose bit is
set in `T`, that the queue is as it was, and that the canonical form of the sparse memories is kept.
-/
namespace Sys2Proof.Machine

/-- A cleared range keeps the canonical form. -/
theorem clearRange_wf (m : Cells 32) (lo hi : Nat) (h : cellWf m = true) : cellWf (clearRange m lo hi) = true := filter_wf _ m h

/-- Writing a list of registers keeps the canonical form. -/
theorem putAll_wf (xs : Cells 32) : ∀ m : Cells 32, cellWf m = true → cellWf (putAll m xs) = true := by
  unfold putAll
  induction xs with
  | nil => exact fun _ h => h
  | cons x xs ih => exact fun m h => ih _ (cellWrite_wf _ _ _ h)

/-- Building registers one write after another keeps the canonical form. -/
theorem foldl_wf {α : Type} (f : Cells 32 → α → Cells 32) (hf : ∀ m a, cellWf m = true → cellWf (f m a) = true) (xs : List α) :
    ∀ m : Cells 32, cellWf m = true → cellWf (xs.foldl f m) = true := by
  induction xs with
  | nil => exact fun _ h => h
  | cons x xs ih => exact fun m h => ih _ (hf _ _ h)

/-- `t` came from `s`: the queue kept, the canonical form kept, and every part outside `T` kept. -/
structure Touches (T : Nat) (s t : State) : Prop where
  pending : t.pending = s.pending
  wf : s.cellsWf = true → t.cellsWf = true
  out : T.testBit 0 = false → t.out = s.out
  regs : T.testBit 1 = false → t.regs = s.regs
  mask : T.testBit 2 = false → t.mask = s.mask
  now : T.testBit 3 = false → t.now = s.now
  fresh : T.testBit 4 = false → t.fresh = s.fresh
  dev : T.testBit 5 = false → t.dev = s.dev
  pwr : T.testBit 6 = false → t.pwr = s.pwr
  wch : T.testBit 7 = false → t.wch = s.wch
  grd : T.testBit 8 = false → t.grd = s.grd
  bus : T.testBit 9 = false → t.bus = s.bus
  load : T.testBit 10 = false → t.load = s.load
  fab : T.testBit 11 = false → t.fab = s.fab
  fix : T.testBit 12 = false → t.fix = s.fix
  deep : T.testBit 13 = false → t.deep = s.deep
  cph : T.testBit 14 = false → t.cph = s.cph
  lnk : T.testBit 15 = false → t.lnk = s.lnk
  brg : T.testBit 16 = false → t.brg = s.brg
  smp : T.testBit 17 = false → t.smp = s.smp
  ddc : T.testBit 18 = false → t.ddc = s.ddc
  ctx : T.testBit 19 = false → t.ctx = s.ctx
  scan : T.testBit 20 = false → t.scan = s.scan
  lmdTx : T.testBit 21 = false → t.lmdTx = s.lmdTx
  lmdRx : T.testBit 22 = false → t.lmdRx = s.lmdRx
  spt : T.testBit 23 = false → t.spt = s.spt
  pin : T.testBit 24 = false → t.pin = s.pin
  bin : T.testBit 25 = false → t.bin = s.bin
  pll : T.testBit 26 = false → t.pll = s.pll
  mon : T.testBit 27 = false → t.mon = s.mon
  wear : T.testBit 28 = false → t.wear = s.wear
  str : T.testBit 29 = false → t.str = s.str
  lgc : T.testBit 30 = false → t.lgc = s.lgc
  health : T.testBit 31 = false → t.health = s.health

/-- Nothing changed. -/
theorem Touches.refl (T : Nat) (s : State) : Touches T s s where
  pending := rfl
  wf := id
  out := fun _ => rfl
  regs := fun _ => rfl
  mask := fun _ => rfl
  now := fun _ => rfl
  fresh := fun _ => rfl
  dev := fun _ => rfl
  pwr := fun _ => rfl
  wch := fun _ => rfl
  grd := fun _ => rfl
  bus := fun _ => rfl
  load := fun _ => rfl
  fab := fun _ => rfl
  fix := fun _ => rfl
  deep := fun _ => rfl
  cph := fun _ => rfl
  lnk := fun _ => rfl
  brg := fun _ => rfl
  smp := fun _ => rfl
  ddc := fun _ => rfl
  ctx := fun _ => rfl
  scan := fun _ => rfl
  lmdTx := fun _ => rfl
  lmdRx := fun _ => rfl
  spt := fun _ => rfl
  pin := fun _ => rfl
  bin := fun _ => rfl
  pll := fun _ => rfl
  mon := fun _ => rfl
  wear := fun _ => rfl
  str := fun _ => rfl
  lgc := fun _ => rfl
  health := fun _ => rfl

/-- A bit that is clear in a union is clear in each side. -/
theorem testBit_of_or {T U i : Nat} (h : T ||| U = T) (hi : T.testBit i = false) : U.testBit i = false := by
  rw [← h, Nat.testBit_or, Bool.or_eq_false_iff] at hi
  exact hi.2

/-- One operation after another. -/
theorem Touches.seq {T U : Nat} {r s t : State} (g : Touches U s t) (hU : T ||| U = T) (h : Touches T r s) : Touches T r t where
  pending := g.pending.trans h.pending
  wf := fun w => g.wf (h.wf w)
  out := fun hi => (g.out (testBit_of_or hU hi)).trans (h.out hi)
  regs := fun hi => (g.regs (testBit_of_or hU hi)).trans (h.regs hi)
  mask := fun hi => (g.mask (testBit_of_or hU hi)).trans (h.mask hi)
  now := fun hi => (g.now (testBit_of_or hU hi)).trans (h.now hi)
  fresh := fun hi => (g.fresh (testBit_of_or hU hi)).trans (h.fresh hi)
  dev := fun hi => (g.dev (testBit_of_or hU hi)).trans (h.dev hi)
  pwr := fun hi => (g.pwr (testBit_of_or hU hi)).trans (h.pwr hi)
  wch := fun hi => (g.wch (testBit_of_or hU hi)).trans (h.wch hi)
  grd := fun hi => (g.grd (testBit_of_or hU hi)).trans (h.grd hi)
  bus := fun hi => (g.bus (testBit_of_or hU hi)).trans (h.bus hi)
  load := fun hi => (g.load (testBit_of_or hU hi)).trans (h.load hi)
  fab := fun hi => (g.fab (testBit_of_or hU hi)).trans (h.fab hi)
  fix := fun hi => (g.fix (testBit_of_or hU hi)).trans (h.fix hi)
  deep := fun hi => (g.deep (testBit_of_or hU hi)).trans (h.deep hi)
  cph := fun hi => (g.cph (testBit_of_or hU hi)).trans (h.cph hi)
  lnk := fun hi => (g.lnk (testBit_of_or hU hi)).trans (h.lnk hi)
  brg := fun hi => (g.brg (testBit_of_or hU hi)).trans (h.brg hi)
  smp := fun hi => (g.smp (testBit_of_or hU hi)).trans (h.smp hi)
  ddc := fun hi => (g.ddc (testBit_of_or hU hi)).trans (h.ddc hi)
  ctx := fun hi => (g.ctx (testBit_of_or hU hi)).trans (h.ctx hi)
  scan := fun hi => (g.scan (testBit_of_or hU hi)).trans (h.scan hi)
  lmdTx := fun hi => (g.lmdTx (testBit_of_or hU hi)).trans (h.lmdTx hi)
  lmdRx := fun hi => (g.lmdRx (testBit_of_or hU hi)).trans (h.lmdRx hi)
  spt := fun hi => (g.spt (testBit_of_or hU hi)).trans (h.spt hi)
  pin := fun hi => (g.pin (testBit_of_or hU hi)).trans (h.pin hi)
  bin := fun hi => (g.bin (testBit_of_or hU hi)).trans (h.bin hi)
  pll := fun hi => (g.pll (testBit_of_or hU hi)).trans (h.pll hi)
  mon := fun hi => (g.mon (testBit_of_or hU hi)).trans (h.mon hi)
  wear := fun hi => (g.wear (testBit_of_or hU hi)).trans (h.wear hi)
  str := fun hi => (g.str (testBit_of_or hU hi)).trans (h.str hi)
  lgc := fun hi => (g.lgc (testBit_of_or hU hi)).trans (h.lgc hi)
  health := fun hi => (g.health (testBit_of_or hU hi)).trans (h.health hi)

/-- A set may grow. -/
theorem Touches.mono {T U : Nat} {s t : State} (g : Touches U s t) (hU : T ||| U = T) : Touches T s t := g.seq hU (Touches.refl T s)

/-- A part whose bit is set may change. -/
theorem testBit_absurd {T i : Nat} {P : Prop} (hT : T.testBit i = true) (hi : T.testBit i = false) : P :=
  absurd (hi.symm.trans hT) (by decide)

/-- An update of `out`. -/
theorem Touches.upd_out {T : Nat} {r s : State} (hT : T.testBit 0 = true) (h : Touches T r s) (x) : Touches T r (s.withOut x) :=
  { h with out := testBit_absurd hT }

/-- An update of `now`. -/
theorem Touches.upd_now {T : Nat} {r s : State} (hT : T.testBit 3 = true) (h : Touches T r s) (x) : Touches T r (s.withNow x) :=
  { h with now := testBit_absurd hT }

/-- An update of `fresh`. -/
theorem Touches.upd_fresh {T : Nat} {r s : State} (hT : T.testBit 4 = true) (h : Touches T r s) (x) : Touches T r (s.withFresh x) :=
  { h with fresh := testBit_absurd hT }

/-- An update of `dev`. -/
theorem Touches.upd_dev {T : Nat} {r s : State} (hT : T.testBit 5 = true) (h : Touches T r s) (x) : Touches T r (s.withDev x) :=
  { h with dev := testBit_absurd hT }

/-- An update of `pwr`. -/
theorem Touches.upd_pwr {T : Nat} {r s : State} (hT : T.testBit 6 = true) (h : Touches T r s) (x) : Touches T r (s.withPwr x) :=
  { h with pwr := testBit_absurd hT }

/-- An update of `wch`. -/
theorem Touches.upd_wch {T : Nat} {r s : State} (hT : T.testBit 7 = true) (h : Touches T r s) (x) : Touches T r (s.withWch x) :=
  { h with wch := testBit_absurd hT }

/-- An update of `grd`. -/
theorem Touches.upd_grd {T : Nat} {r s : State} (hT : T.testBit 8 = true) (h : Touches T r s) (x) : Touches T r (s.withGrd x) :=
  { h with grd := testBit_absurd hT }

/-- An update of `bus`. -/
theorem Touches.upd_bus {T : Nat} {r s : State} (hT : T.testBit 9 = true) (h : Touches T r s) (x) : Touches T r (s.withBus x) :=
  { h with bus := testBit_absurd hT }

/-- An update of `load`. -/
theorem Touches.upd_load {T : Nat} {r s : State} (hT : T.testBit 10 = true) (h : Touches T r s) (x) : Touches T r (s.withLoad x) :=
  { h with load := testBit_absurd hT }

/-- An update of `fix`. -/
theorem Touches.upd_fix {T : Nat} {r s : State} (hT : T.testBit 12 = true) (h : Touches T r s) (x) : Touches T r (s.withFix x) :=
  { h with fix := testBit_absurd hT }

/-- An update of `cph`. -/
theorem Touches.upd_cph {T : Nat} {r s : State} (hT : T.testBit 14 = true) (h : Touches T r s) (x) : Touches T r (s.withCph x) :=
  { h with cph := testBit_absurd hT }

/-- An update of `lnk`. -/
theorem Touches.upd_lnk {T : Nat} {r s : State} (hT : T.testBit 15 = true) (h : Touches T r s) (x) : Touches T r (s.withLnk x) :=
  { h with lnk := testBit_absurd hT }

/-- An update of `brg`. -/
theorem Touches.upd_brg {T : Nat} {r s : State} (hT : T.testBit 16 = true) (h : Touches T r s) (x) : Touches T r (s.withBrg x) :=
  { h with brg := testBit_absurd hT }

/-- An update of `smp`. -/
theorem Touches.upd_smp {T : Nat} {r s : State} (hT : T.testBit 17 = true) (h : Touches T r s) (x) : Touches T r (s.withSmp x) :=
  { h with smp := testBit_absurd hT }

/-- An update of `ddc`. -/
theorem Touches.upd_ddc {T : Nat} {r s : State} (hT : T.testBit 18 = true) (h : Touches T r s) (x) : Touches T r (s.withDdc x) :=
  { h with ddc := testBit_absurd hT }

/-- An update of `ctx`. -/
theorem Touches.upd_ctx {T : Nat} {r s : State} (hT : T.testBit 19 = true) (h : Touches T r s) (x) : Touches T r (s.withCtx x) :=
  { h with ctx := testBit_absurd hT }

/-- An update of `scan`. -/
theorem Touches.upd_scan {T : Nat} {r s : State} (hT : T.testBit 20 = true) (h : Touches T r s) (x) : Touches T r (s.withScan x) :=
  { h with scan := testBit_absurd hT }

/-- An update of `lmdTx`. -/
theorem Touches.upd_lmdTx {T : Nat} {r s : State} (hT : T.testBit 21 = true) (h : Touches T r s) (x) : Touches T r (s.withLmdTx x) :=
  { h with lmdTx := testBit_absurd hT }

/-- An update of `lmdRx`. -/
theorem Touches.upd_lmdRx {T : Nat} {r s : State} (hT : T.testBit 22 = true) (h : Touches T r s) (x) : Touches T r (s.withLmdRx x) :=
  { h with lmdRx := testBit_absurd hT }

/-- An update of `spt`. -/
theorem Touches.upd_spt {T : Nat} {r s : State} (hT : T.testBit 23 = true) (h : Touches T r s) (x) : Touches T r (s.withSpt x) :=
  { h with spt := testBit_absurd hT }

/-- An update of `pin`. -/
theorem Touches.upd_pin {T : Nat} {r s : State} (hT : T.testBit 24 = true) (h : Touches T r s) (x) : Touches T r (s.withPin x) :=
  { h with pin := testBit_absurd hT }

/-- An update of `pll`. -/
theorem Touches.upd_pll {T : Nat} {r s : State} (hT : T.testBit 26 = true) (h : Touches T r s) (x) : Touches T r (s.withPll x) :=
  { h with pll := testBit_absurd hT }

/-- An update of `mon`. -/
theorem Touches.upd_mon {T : Nat} {r s : State} (hT : T.testBit 27 = true) (h : Touches T r s) (x) : Touches T r (s.withMon x) :=
  { h with mon := testBit_absurd hT }

/-- An update of `wear`. -/
theorem Touches.upd_wear {T : Nat} {r s : State} (hT : T.testBit 28 = true) (h : Touches T r s) (x) : Touches T r (s.withWear x) :=
  { h with wear := testBit_absurd hT }

/-- An update of `str`. -/
theorem Touches.upd_str {T : Nat} {r s : State} (hT : T.testBit 29 = true) (h : Touches T r s) (x) : Touches T r (s.withStr x) :=
  { h with str := testBit_absurd hT }

/-- An update of `health`. -/
theorem Touches.upd_health {T : Nat} {r s : State} (hT : T.testBit 31 = true) (h : Touches T r s) (x) : Touches T r (s.withHealth x) :=
  { h with health := testBit_absurd hT }

/-- An update of `regs` that keeps the canonical form. -/
theorem Touches.upd_regs {T : Nat} {r s : State} {x : Cells 32} (hT : T.testBit 1 = true) (hx : cellWf s.regs = true → cellWf x = true) (h : Touches T r s) :
    Touches T r (s.withRegs x) :=
  { h with
    regs := testBit_absurd hT
    wf := fun w => by
      have h1 := h.wf w
      simp only [State.cellsWf, Bool.and_eq_true] at h1 ⊢
      exact ⟨⟨⟨⟨⟨hx h1.1.1.1.1.1, h1.1.1.1.1.2⟩, h1.1.1.1.2⟩, h1.1.1.2⟩, h1.1.2⟩, h1.2⟩ }

/-- An update of `mask` that keeps the canonical form. -/
theorem Touches.upd_mask {T : Nat} {r s : State} {x : Cells 32} (hT : T.testBit 2 = true) (hx : cellWf s.mask = true → cellWf x = true) (h : Touches T r s) :
    Touches T r (s.withMask x) :=
  { h with
    mask := testBit_absurd hT
    wf := fun w => by
      have h1 := h.wf w
      simp only [State.cellsWf, Bool.and_eq_true] at h1 ⊢
      exact ⟨⟨⟨⟨⟨h1.1.1.1.1.1, hx h1.1.1.1.1.2⟩, h1.1.1.1.2⟩, h1.1.1.2⟩, h1.1.2⟩, h1.2⟩ }

/-- An update of `deep` that keeps the canonical form. -/
theorem Touches.upd_deep {T : Nat} {r s : State} {x : List Host.Cell} (hT : T.testBit 13 = true) (hx : Memory.wf s.deep = true → Memory.wf x = true) (h : Touches T r s) :
    Touches T r (s.withDeep x) :=
  { h with
    deep := testBit_absurd hT
    wf := fun w => by
      have h1 := h.wf w
      simp only [State.cellsWf, Bool.and_eq_true] at h1 ⊢
      exact ⟨⟨⟨⟨⟨h1.1.1.1.1.1, h1.1.1.1.1.2⟩, hx h1.1.1.1.2⟩, h1.1.1.2⟩, h1.1.2⟩, h1.2⟩ }

/-- An update of `bin` that keeps the canonical form. -/
theorem Touches.upd_bin {T : Nat} {r s : State} {x : BinState} (hT : T.testBit 25 = true) (hx : cellWf s.bin.mirror = true → cellWf x.mirror = true) (h : Touches T r s) :
    Touches T r (s.withBin x) :=
  { h with
    bin := testBit_absurd hT
    wf := fun w => by
      have h1 := h.wf w
      simp only [State.cellsWf, Bool.and_eq_true] at h1 ⊢
      exact ⟨⟨⟨⟨⟨h1.1.1.1.1.1, h1.1.1.1.1.2⟩, h1.1.1.1.2⟩, hx h1.1.1.2⟩, h1.1.2⟩, h1.2⟩ }

/-- An update of `lgc` that keeps the canonical form. -/
theorem Touches.upd_lgc {T : Nat} {r s : State} {x : LogicState} (hT : T.testBit 30 = true) (hx : s.lgc.wf = true → x.wf = true) (h : Touches T r s) :
    Touches T r (s.withLgc x) :=
  { h with
    lgc := testBit_absurd hT
    wf := fun w => by
      have h1 := h.wf w
      simp only [State.cellsWf, Bool.and_eq_true] at h1 ⊢
      exact ⟨⟨⟨⟨⟨h1.1.1.1.1.1, h1.1.1.1.1.2⟩, h1.1.1.1.2⟩, h1.1.1.2⟩, hx h1.1.2⟩, h1.2⟩ }

/-- An update of `fab` that keeps the canonical form. -/
theorem Touches.upd_fab {T : Nat} {r s : State} {x : FabState} (hT : T.testBit 11 = true) (hx : s.fab.wf = true → x.wf = true) (h : Touches T r s) :
    Touches T r (s.withFab x) :=
  { h with
    fab := testBit_absurd hT
    wf := fun w => by
      have h1 := h.wf w
      simp only [State.cellsWf, Bool.and_eq_true] at h1 ⊢
      exact ⟨⟨⟨⟨⟨h1.1.1.1.1.1, h1.1.1.1.1.2⟩, h1.1.1.1.2⟩, h1.1.1.2⟩, h1.1.2⟩, hx h1.2⟩ }

/-- A change of the fabric's resources that keeps each of its memories in canonical form keeps the form. -/
theorem LogicState.wf_of {l m : LogicState}
    (hff : cellWf l.ff = true → cellWf m.ff = true)
    (hcross : cellWf l.cross = true → cellWf m.cross = true)
    (hbram : cellWf l.bram = true → cellWf m.bram = true)
    (hbramBad : cellWf l.bramBad = true → cellWf m.bramBad = true)
    (hbramOut : cellWf l.bramOut = true → cellWf m.bramOut = true)
    (hbramPos : cellWf l.bramPos = true → cellWf m.bramPos = true)
    (hdeepBad : cellWf l.deepBad = true → cellWf m.deepBad = true)
    (hdeepOut : cellWf l.deepOut = true → cellWf m.deepOut = true)
    (hdeepCyc : cellWf l.deepCyc = true → cellWf m.deepCyc = true)
    (hdeepPos : cellWf l.deepPos = true → cellWf m.deepPos = true)
    (hslices : cellWf l.slices = true → cellWf m.slices = true)
    (h : l.wf = true) : m.wf = true := by
  simp only [LogicState.wf, Bool.and_eq_true] at h ⊢
  exact ⟨⟨⟨⟨⟨⟨⟨⟨⟨⟨hff h.1.1.1.1.1.1.1.1.1.1, hcross h.1.1.1.1.1.1.1.1.1.2⟩, hbram h.1.1.1.1.1.1.1.1.2⟩, hbramBad h.1.1.1.1.1.1.1.2⟩, hbramOut h.1.1.1.1.1.1.2⟩, hbramPos h.1.1.1.1.1.2⟩, hdeepBad h.1.1.1.1.2⟩, hdeepOut h.1.1.1.2⟩, hdeepCyc h.1.1.2⟩, hdeepPos h.1.2⟩, hslices h.2⟩

/-- A change of the configuration frames and their wrong bits that keeps the canonical form. -/
theorem FabState.wf_of {f g : FabState} (hf : cellWf f.frames = true → cellWf g.frames = true)
    (hu : cellWf f.upsets = true → cellWf g.upsets = true) (h : f.wf = true) : g.wf = true := by
  simp only [FabState.wf, Bool.and_eq_true] at h ⊢
  exact ⟨hf h.1, hu h.2⟩

/-- Erasing a cell keeps the canonical form. -/
theorem cellErase_wf {w : Nat} (m : Cells w) (a : Nat) (h : cellWf m = true) : cellWf (cellErase m a) = true := cellErase_wfFrom m a 0 h

/-- Either branch. -/
theorem Touches.ite {T : Nat} {r a b : State} {c : Prop} [Decidable c] (ha : Touches T r a) (hb : Touches T r b) :
    Touches T r (if c then a else b) := by
  split
  · exact ha
  · exact hb

/-- A step of a computation that goes on with its result. -/
theorem Touches.bind {T : Nat} {r : State} {e : State} {b : State → State} (he : Touches T r e) (hb : ∀ x, Touches T r x → Touches T r (b x)) :
    Touches T r (b e) := hb e he

/-- A conditional operation. -/
theorem Touches.iff {T : Nat} {r s : State} {c : Bool} {f : State → State} (h : Touches T r s) (hf : ∀ x, Touches T r x → Touches T r (f x)) :
    Touches T r (s.iff c f) := by
  unfold State.iff
  split
  · exact hf s h
  · exact h

/-- One of two operations. -/
theorem Touches.ite' {T : Nat} {r s : State} {c : Bool} {f g : State → State} (h : Touches T r s)
    (hf : ∀ x, Touches T r x → Touches T r (f x)) (hg : ∀ x, Touches T r x → Touches T r (g x)) : Touches T r (s.ite c f g) := by
  unfold State.ite
  split
  · exact hf s h
  · exact hg s h

/-- An operation carried out for every element of a list. -/
theorem Touches.each {α : Type} {T : Nat} {r s : State} {xs : List α} {f : State → α → State} (h : Touches T r s)
    (hf : ∀ x a, Touches T r x → Touches T r (f x a)) : Touches T r (s.each xs f) := by
  unfold State.each
  induction xs generalizing s with
  | nil => exact h
  | cons a as ih => exact ih (hf s a h)

/-- A value named on the way. -/
theorem Touches.cut {T : Nat} {r t x : State} (h : Touches T r x) (k : Touches T r x → Touches T r t) : Touches T r t := k h

/-- An operation named on the way. -/
theorem Touches.cutF {T : Nat} {r t : State} {f : State → State} (h : ∀ x, Touches T r x → Touches T r (f x))
    (k : (∀ x, Touches T r x → Touches T r (f x)) → Touches T r t) : Touches T r t := k h

/-- An operation with an operand named on the way. -/
theorem Touches.cutG {α : Type} {T : Nat} {r t : State} {f : State → α → State} (h : ∀ x a, Touches T r x → Touches T r (f x a))
    (k : (∀ x a, Touches T r x → Touches T r (f x a)) → Touches T r t) : Touches T r t := k h

/-- A named operation applied. -/
theorem Touches.bindF {T : Nat} {r x : State} {f : State → State} (hf : ∀ x, Touches T r x → Touches T r (f x)) (h : Touches T r x) :
    Touches T r (f x) := hf x h

/-- A named operation with an operand applied. -/
theorem Touches.bindG {α : Type} {T : Nat} {r x : State} {f : State → α → State} {a : α}
    (hf : ∀ x a, Touches T r x → Touches T r (f x a)) (h : Touches T r x) : Touches T r (f x a) := hf x a h

/-- An operation with three operands named on the way. -/
theorem Touches.cutH {α β γ : Type} {T : Nat} {r t : State} {f : State → α → β → γ → State}
    (h : ∀ x a b c, Touches T r x → Touches T r (f x a b c)) (k : (∀ x a b c, Touches T r x → Touches T r (f x a b c)) → Touches T r t) :
    Touches T r t := k h

/-- A named operation with three operands applied. -/
theorem Touches.bindH {α β γ : Type} {T : Nat} {r x : State} {f : State → α → β → γ → State} {a : α} {b : β} {c : γ}
    (hf : ∀ x a b c, Touches T r x → Touches T r (f x a b c)) (h : Touches T r x) : Touches T r (f x a b c) := hf x a b c h

/-- A pair with a state named on the way. -/
theorem Touches.cutP {α : Type} {T : Nat} {r t : State} {x : α × State} (h : Touches T r x.2) (k : Touches T r x.2 → Touches T r t) :
    Touches T r t := k h

/-- A pair that begins with a state named on the way. -/
theorem Touches.cutQ {α : Type} {T : Nat} {r t : State} {x : State × α} (h : Touches T r x.1) (k : Touches T r x.1 → Touches T r t) :
    Touches T r t := k h

end Sys2Proof.Machine
end

