-- ==== Sys2Proof/Laws/TouchOps.lean ====
section
/-! SUPPORT. What each operation of Machine/Ops.lean can change: one lemma per operation, its set of parts as in Laws/Parts.lean. -/
namespace Sys2Proof.Machine

theorem State.put_touches (s : State) (f : Fld) (v : Nat) : Touches 2 s (s.put f v) :=
  Touches.upd_regs (by decide) (fldWrite_wf _ _ _) (Touches.refl _ _)

theorem State.putB_touches (s : State) (f : Fld) (b : Bool) : Touches 2 s (s.putB f b) := by
  unfold State.putB
  repeat' first
    | exact rfl
    | with_reducible assumption
    | with_reducible exact Touches.refl _ _
    | (with_reducible apply Touches.seq (State.put_touches ..))

theorem State.set_touches (s : State) (f : Fld) : Touches 2 s (s.set f) := by
  unfold State.set
  repeat' first
    | exact rfl
    | with_reducible assumption
    | with_reducible exact Touches.refl _ _
    | (with_reducible apply Touches.seq (State.put_touches ..))

theorem State.clr_touches (s : State) (f : Fld) : Touches 2 s (s.clr f) := by
  unfold State.clr
  repeat' first
    | exact rfl
    | with_reducible assumption
    | with_reducible exact Touches.refl _ _
    | (with_reducible apply Touches.seq (State.put_touches ..))

theorem State.putWord_touches (s : State) (a : Nat) (w : Word) : Touches 2 s (s.putWord a w) :=
  Touches.upd_regs (by decide) (cellWrite_wf _ _ _) (Touches.refl _ _)

theorem State.satAdd_touches (s : State) (cnt ovf : Fld) (n : Nat) : Touches 2 s (s.satAdd cnt ovf n) := by
  unfold State.satAdd
  repeat' first
    | exact rfl
    | with_reducible assumption
    | with_reducible exact Touches.refl _ _
    | (with_reducible apply Touches.seq (State.put_touches ..))
    | (with_reducible apply Touches.seq (State.set_touches ..))
    | (with_reducible apply Touches.ite)

theorem State.satInc_touches (s : State) (cnt ovf : Fld) : Touches 2 s (s.satInc cnt ovf) := by
  unfold State.satInc
  repeat' first
    | exact rfl
    | with_reducible assumption
    | with_reducible exact Touches.refl _ _
    | (with_reducible apply Touches.seq (State.satAdd_touches ..))

theorem State.satAddNoFlag_touches (s : State) (cnt : Fld) (n : Nat) : Touches 2 s (s.satAddNoFlag cnt n) := by
  unfold State.satAddNoFlag
  repeat' first
    | exact rfl
    | with_reducible assumption
    | with_reducible exact Touches.refl _ _
    | (with_reducible apply Touches.seq (State.put_touches ..))

theorem State.modInc_touches (s : State) (cnt : Fld) : Touches 2 s (s.modInc cnt) := by
  unfold State.modInc
  repeat' first
    | exact rfl
    | with_reducible assumption
    | with_reducible exact Touches.refl _ _
    | (with_reducible apply Touches.seq (State.put_touches ..))

theorem State.put2_touches (s : State) (lo hi : Fld) (v : Nat) : Touches 2 s (s.put2 lo hi v) := by
  unfold State.put2
  repeat' first
    | exact rfl
    | with_reducible assumption
    | with_reducible exact Touches.refl _ _
    | (with_reducible apply Touches.seq (State.put_touches ..))

theorem State.satAdd2_touches (s : State) (lo hi ovf : Fld) (n : Nat) : Touches 2 s (s.satAdd2 lo hi ovf n) := by
  unfold State.satAdd2
  repeat' first
    | exact rfl
    | with_reducible assumption
    | with_reducible exact Touches.refl _ _
    | (with_reducible apply Touches.seq (State.put2_touches ..))
    | (with_reducible apply Touches.seq (State.set_touches ..))
    | (with_reducible apply Touches.ite)

theorem State.modInc2_touches (s : State) (lo hi : Fld) : Touches 2 s (s.modInc2 lo hi) := by
  unfold State.modInc2
  repeat' first
    | exact rfl
    | with_reducible assumption
    | with_reducible exact Touches.refl _ _
    | (with_reducible apply Touches.seq (State.put2_touches ..))

theorem State.emit_touches (s : State) (o : Out) : Touches 1 s (s.emit o) := by
  unfold State.emit
  repeat' first
    | exact rfl
    | with_reducible assumption
    | with_reducible exact Touches.refl _ _
    | (with_reducible apply Touches.upd_out)

theorem State.drawn_touches (s : State) : Touches 16 s s.drawn := by
  unfold State.drawn
  repeat' first
    | exact rfl
    | with_reducible assumption
    | with_reducible exact Touches.refl _ _
    | (with_reducible apply Touches.upd_fresh)

theorem State.picked_touches (s : State) (n : Nat) : Touches 16 s (s.picked n) := by
  unfold State.picked
  repeat' first
    | exact rfl
    | with_reducible assumption
    | with_reducible exact Touches.refl _ _
    | (with_reducible apply Touches.upd_fresh)

theorem State.drawnBytes_touches (s : State) (n : Nat) : Touches 16 s (s.drawnBytes n) := by
  unfold State.drawnBytes
  repeat' first
    | exact rfl
    | with_reducible assumption
    | with_reducible exact Touches.refl _ _
    | (with_reducible apply Touches.upd_fresh)

theorem State.watchLog_touches (s : State) (code inst detail : Nat) : Touches 130 s (s.watchLog code inst detail) := by
  unfold State.watchLog
  repeat' first
    | exact rfl
    | with_reducible assumption
    | with_reducible exact Touches.refl _ _
    | (extract_lets +onlyGivenNames v1; clear_value v1)
    | (with_reducible apply Touches.seq (State.satInc_touches ..))
    | (with_reducible apply Touches.upd_wch)
    | (with_reducible apply Touches.ite)

end Sys2Proof.Machine
end

