-- ==== Sys2Proof/Laws/TouchFlags.lean ====
section
/-! SUPPORT. What each operation of Machine/Flags.lean can change: one lemma per operation, its set of parts as in Laws/Parts.lean. -/
namespace Sys2Proof.Machine

theorem State.event_touches (s : State) (line : Nat) : Touches 2 s (s.event line) := by
  unfold State.event
  repeat' first
    | exact rfl
    | with_reducible assumption
    | with_reducible exact Touches.refl _ _
    | (with_reducible apply Touches.seq (State.set_touches ..))

end Sys2Proof.Machine
end

