-- ==== Sys2Proof/Laws/TouchOperands.lean ====
section
/-! SUPPORT. What each operation of Machine/Operands.lean can change: one lemma per operation, its set of parts as in Laws/Parts.lean. -/
namespace Sys2Proof.Machine

theorem State.putRegBytes_touches (s : State) (a : Nat) (bs : List Byte) : Touches 2 s (s.putRegBytes a bs) :=
  Touches.upd_regs (by decide) (cellWriteAll_wf _ _ _ _) (Touches.refl _ _)

theorem State.putDeep_touches (s : State) (a : Nat) (bs : List Byte) : Touches 1073750016 s (s.putDeep a bs) :=
  Touches.upd_lgc rfl (LogicState.wf_of id id id id id id (filter_wf _ _) id id id id)
    (Touches.upd_deep rfl (cellWriteAll_wf _ _ _ _) (Touches.refl _ _))

end Sys2Proof.Machine
end

