-- ==== Sys2Proof/Laws/TouchLgc.lean ====
section
/-! SUPPORT. What each operation of Machine/Lgc.lean can change: one lemma per operation, its set of parts as in Laws/Parts.lean. -/
namespace Sys2Proof.Machine

theorem State.setLgc_touches {s : State} {f : LogicState → LogicState} (hf : ∀ l, l.wf = true → (f l).wf = true) : Touches 1073741824 s (s.setLgc f) :=
  Touches.upd_lgc rfl (hf _) (Touches.refl _ _)

end Sys2Proof.Machine
end

