-- ==== Sys2Proof/Laws/TouchGrd.lean ====
section
/-! SUPPORT. What each operation of Machine/Grd.lean can change: one lemma per operation, its set of parts as in Laws/Parts.lean. -/
namespace Sys2Proof.Machine

theorem State.blockLog_touches (s : State) (code block inst detail : Nat) : Touches 258 s (s.blockLog code block inst detail) := by
  unfold State.blockLog
  repeat' first
    | exact rfl
    | with_reducible assumption
    | with_reducible exact Touches.refl _ _
    | (with_reducible apply Touches.seq (State.satInc_touches ..))
    | (with_reducible apply Touches.upd_grd)
    | (with_reducible apply Touches.ite)

theorem State.grdLog_touches (s : State) (n inst detail : Nat) : Touches 258 s (s.grdLog n inst detail) := by
  unfold State.grdLog
  repeat' first
    | exact rfl
    | with_reducible assumption
    | with_reducible exact Touches.refl _ _
    | (with_reducible apply Touches.seq (State.blockLog_touches ..))

theorem State.grdPut_touches (s : State) (n inst : Nat) (v b f i : Fld) : Touches 2 s (s.grdPut n inst v b f i) := by
  unfold State.grdPut
  repeat' first
    | exact rfl
    | with_reducible assumption
    | with_reducible exact Touches.refl _ _
    | (with_reducible apply Touches.seq (State.set_touches ..))
    | (with_reducible apply Touches.seq (State.put_touches ..))

theorem State.grdRecord_touches (s : State) (n inst : Nat) : Touches 2 s (s.grdRecord n inst) := by
  unfold State.grdRecord
  repeat' first
    | exact rfl
    | with_reducible assumption
    | with_reducible exact Touches.refl _ _
    | (extract_lets +onlyGivenNames s1; refine Touches.cut (x := s1) ?_ ?_; (on_goal 1 => subst s1); (on_goal 2 => (intro h1; clear_value s1)))
    | (extract_lets +onlyGivenNames v1; clear_value v1)
    | (with_reducible apply Touches.seq (State.grdPut_touches ..))
    | (with_reducible apply Touches.iff)
    | (intro x; intros; try beta_reduce)

theorem State.grdCount_touches (s : State) (n : Nat) : Touches 2 s (s.grdCount n) := by
  unfold State.grdCount
  repeat' first
    | exact rfl
    | with_reducible assumption
    | with_reducible exact Touches.refl _ _
    | (with_reducible apply Touches.seq (State.satInc_touches ..))
    | (with_reducible apply Touches.seq (State.event_touches ..))
    | split

theorem State.grdEntry_touches (s : State) (n inst detail : Nat) : Touches 258 s (s.grdEntry n inst detail) := by
  unfold State.grdEntry
  repeat' first
    | exact rfl
    | with_reducible assumption
    | with_reducible exact Touches.refl _ _
    | (extract_lets +onlyGivenNames s1; refine Touches.cut (x := s1) ?_ ?_; (on_goal 1 => subst s1); (on_goal 2 => (intro h1; clear_value s1)))
    | (extract_lets +onlyGivenNames v1; clear_value v1)
    | (with_reducible apply Touches.seq (State.satInc_touches ..))
    | (with_reducible apply Touches.seq (State.grdLog_touches ..))
    | (with_reducible apply Touches.upd_grd)
    | (with_reducible apply Touches.ite)

theorem State.grdReact_touches (s : State) (n inst : Nat) : Touches 258 s (s.grdReact n inst) := by
  unfold State.grdReact
  repeat' first
    | exact rfl
    | with_reducible assumption
    | with_reducible exact Touches.refl _ _
    | (extract_lets +onlyGivenNames s1; refine Touches.cut (x := s1) ?_ ?_; (on_goal 1 => subst s1); (on_goal 2 => (intro h1; clear_value s1)))
    | (extract_lets +onlyGivenNames v1; clear_value v1)
    | (with_reducible apply Touches.seq (State.set_touches ..))
    | (with_reducible apply Touches.seq (State.event_touches ..))
    | (with_reducible apply Touches.upd_grd)
    | (with_reducible apply Touches.iff)
    | (with_reducible apply Touches.ite)
    | (intro x; intros; try beta_reduce)

theorem State.grdMulti_touches (s : State) (n : Nat) : Touches 258 s (s.grdMulti n) := by
  unfold State.grdMulti
  repeat' first
    | exact rfl
    | with_reducible assumption
    | with_reducible exact Touches.refl _ _
    | (extract_lets +onlyGivenNames s1; refine Touches.cut (x := s1) ?_ ?_; (on_goal 1 => subst s1); (on_goal 2 => (intro h1; clear_value s1)))
    | (extract_lets +onlyGivenNames v1; clear_value v1)
    | (with_reducible apply Touches.seq (State.event_touches ..))
    | (with_reducible apply Touches.upd_grd)
    | (with_reducible apply Touches.iff)
    | (intro x; intros; try beta_reduce)

theorem State.report_touches (s : State) (n inst detail : Nat) : Touches 258 s (s.report n inst detail) := by
  unfold State.report
  repeat' first
    | exact rfl
    | with_reducible assumption
    | with_reducible exact Touches.refl _ _
    | (with_reducible apply Touches.seq (State.grdMulti_touches ..))
    | (with_reducible apply Touches.seq (State.grdRecord_touches ..))
    | (with_reducible apply Touches.seq (State.grdCount_touches ..))
    | (with_reducible apply Touches.seq (State.grdEntry_touches ..))
    | (with_reducible apply Touches.seq (State.grdReact_touches ..))
    | (with_reducible apply Touches.ite)

theorem State.watchReport_touches (s : State) (n inst detail : Nat) : Touches 386 s (s.watchReport n inst detail) := by
  unfold State.watchReport
  repeat' first
    | exact rfl
    | with_reducible assumption
    | with_reducible exact Touches.refl _ _
    | (with_reducible apply Touches.seq (State.report_touches ..))
    | (with_reducible apply Touches.upd_wch)
    | (with_reducible apply Touches.ite)

theorem State.settle_touches (s : State) : Touches 2147483650 s s.settle := by
  unfold State.settle
  repeat' first
    | exact rfl
    | with_reducible assumption
    | with_reducible exact Touches.refl _ _
    | (extract_lets +onlyGivenNames s1; refine Touches.cut (x := s1) ?_ ?_; (on_goal 1 => subst s1); (on_goal 2 => (intro h1; clear_value s1)))
    | (extract_lets +onlyGivenNames v1; clear_value v1)
    | (with_reducible apply Touches.seq (State.event_touches ..))
    | (with_reducible apply Touches.seq (State.set_touches ..))
    | (with_reducible apply Touches.seq (State.putB_touches ..))
    | (with_reducible apply Touches.upd_health)
    | (with_reducible apply Touches.iff)
    | (intro x; intros; try beta_reduce)

end Sys2Proof.Machine
end

