-- ==== Sys2Proof/Laws/TouchFab.lean ====
section
/-! SUPPORT. What each operation of Machine/Fab.lean can change: one lemma per operation, its set of parts as in Laws/Parts.lean. -/
namespace Sys2Proof.Machine

/-- The release of a region keeps the form of every memory. -/
theorem LogicState.releaseRegion_wf (l : LogicState) (r : Nat) (h : l.wf = true) : (l.releaseRegion r).wf = true :=
  LogicState.wf_of (filter_wf _ _) id (filter_wf _ _) (filter_wf _ _) (filter_wf _ _) (filter_wf _ _) (filter_wf _ _) (filter_wf _ _)
    (filter_wf _ _) (filter_wf _ _) (filter_wf _ _) h

theorem State.setFab_touches {s : State} {f : FabState → FabState} (hf : ∀ l, l.wf = true → (f l).wf = true) : Touches 2048 s (s.setFab f) :=
  Touches.upd_fab rfl (hf _) (Touches.refl _ _)

theorem State.putFrame_touches (s : State) (a : Nat) (v : BitVec 2048) : Touches 2048 s (s.putFrame a v) := by
  unfold State.putFrame
  repeat' first
    | exact rfl
    | with_reducible assumption
    | with_reducible exact Touches.refl _ _
    | (intro l; refine FabState.wf_of ?_ ?_ <;> first | with_reducible exact id | with_reducible exact cellWrite_wf _ _ _ | with_reducible exact cellErase_wf _ _ | with_reducible exact filter_wf _ _ | with_reducible exact cellWriteAll_wf _ _ _ _ | exact fun h => cellWrite_wf _ _ _ (cellWrite_wf _ _ _ h) | (split <;> with_reducible exact id) | exact fun _ => rfl)
    | (with_reducible refine Touches.seq (State.setFab_touches ?_) ?_ ?_)

theorem State.putFrames_touches (s : State) (a : Nat) (xs : List (BitVec 2048)) : Touches 2048 s (s.putFrames a xs) := by
  induction xs generalizing s a with
  | nil => exact Touches.refl _ _
  | cons x xs ih => exact Touches.seq (ih _ _) rfl (Touches.mono (State.putFrame_touches ..) rfl)

theorem State.critBegin_touches (s : State) : Touches 2048 s s.critBegin := by
  unfold State.critBegin
  repeat' first
    | exact rfl
    | with_reducible assumption
    | with_reducible exact Touches.refl _ _
    | (intro l; refine FabState.wf_of ?_ ?_ <;> first | with_reducible exact id | with_reducible exact cellWrite_wf _ _ _ | with_reducible exact cellErase_wf _ _ | with_reducible exact filter_wf _ _ | with_reducible exact cellWriteAll_wf _ _ _ _ | exact fun h => cellWrite_wf _ _ _ (cellWrite_wf _ _ _ h) | (split <;> with_reducible exact id) | exact fun _ => rfl)
    | (extract_lets +onlyGivenNames s1; refine Touches.cut (x := s1) ?_ ?_; (on_goal 1 => subst s1); (on_goal 2 => (intro h1; clear_value s1)))
    | (extract_lets +onlyGivenNames v1; clear_value v1)
    | (with_reducible refine Touches.seq (State.setFab_touches ?_) ?_ ?_)

theorem State.stdBegin_touches (s : State) : Touches 2048 s s.stdBegin := by
  unfold State.stdBegin
  repeat' first
    | exact rfl
    | with_reducible assumption
    | with_reducible exact Touches.refl _ _
    | (intro l; refine FabState.wf_of ?_ ?_ <;> first | with_reducible exact id | with_reducible exact cellWrite_wf _ _ _ | with_reducible exact cellErase_wf _ _ | with_reducible exact filter_wf _ _ | with_reducible exact cellWriteAll_wf _ _ _ _ | exact fun h => cellWrite_wf _ _ _ (cellWrite_wf _ _ _ h) | (split <;> with_reducible exact id) | exact fun _ => rfl)
    | (with_reducible refine Touches.seq (State.setFab_touches ?_) ?_ ?_)

theorem State.scrubStart_touches (s : State) : Touches 2048 s s.scrubStart := by
  unfold State.scrubStart
  repeat' first
    | exact rfl
    | with_reducible assumption
    | with_reducible exact Touches.refl _ _
    | (intro l; refine FabState.wf_of ?_ ?_ <;> first | with_reducible exact id | with_reducible exact cellWrite_wf _ _ _ | with_reducible exact cellErase_wf _ _ | with_reducible exact filter_wf _ _ | with_reducible exact cellWriteAll_wf _ _ _ _ | exact fun h => cellWrite_wf _ _ _ (cellWrite_wf _ _ _ h) | (split <;> with_reducible exact id) | exact fun _ => rfl)
    | (with_reducible apply Touches.seq (State.critBegin_touches ..))
    | (with_reducible apply Touches.seq (State.stdBegin_touches ..))
    | (with_reducible refine Touches.seq (State.setFab_touches ?_) ?_ ?_)

theorem State.scrFirst_touches (s : State) (kind codes addr : Nat) : Touches 2 s (s.scrFirst kind codes addr) := by
  unfold State.scrFirst
  repeat' first
    | exact rfl
    | with_reducible assumption
    | with_reducible exact Touches.refl _ _
    | (with_reducible apply Touches.seq (State.set_touches ..))
    | (with_reducible apply Touches.seq (State.put_touches ..))
    | (with_reducible apply Touches.iff)
    | (intro x; intros; try beta_reduce)

theorem State.frameUncorr_touches (s : State) (a codes : Nat) : Touches 2306 s (s.frameUncorr a codes) := by
  unfold State.frameUncorr
  repeat' first
    | exact rfl
    | with_reducible assumption
    | with_reducible exact Touches.refl _ _
    | (intro l; refine FabState.wf_of ?_ ?_ <;> first | with_reducible exact id | with_reducible exact cellWrite_wf _ _ _ | with_reducible exact cellErase_wf _ _ | with_reducible exact filter_wf _ _ | with_reducible exact cellWriteAll_wf _ _ _ _ | exact fun h => cellWrite_wf _ _ _ (cellWrite_wf _ _ _ h) | (split <;> with_reducible exact id) | exact fun _ => rfl)
    | (extract_lets +onlyGivenNames s1; refine Touches.cut (x := s1) ?_ ?_; (on_goal 1 => subst s1); (on_goal 2 => (intro h1; clear_value s1)))
    | (extract_lets +onlyGivenNames v1; clear_value v1)
    | (with_reducible apply Touches.seq (State.scrFirst_touches ..))
    | (with_reducible apply Touches.seq (State.satInc_touches ..))
    | (with_reducible apply Touches.seq (State.set_touches ..))
    | (with_reducible apply Touches.seq (State.report_touches ..))
    | (with_reducible refine Touches.seq (State.setFab_touches ?_) ?_ ?_)

theorem State.scrubRead_touches (s : State) (r i : Nat) (flips : List (Fin 2112)) : Touches 2306 s (s.scrubRead r i flips) := by
  unfold State.scrubRead
  repeat' first
    | exact rfl
    | with_reducible assumption
    | with_reducible exact Touches.refl _ _
    | (intro l; refine FabState.wf_of ?_ ?_ <;> first | with_reducible exact id | with_reducible exact cellWrite_wf _ _ _ | with_reducible exact cellErase_wf _ _ | with_reducible exact filter_wf _ _ | with_reducible exact cellWriteAll_wf _ _ _ _ | exact fun h => cellWrite_wf _ _ _ (cellWrite_wf _ _ _ h) | (split <;> with_reducible exact id) | exact fun _ => rfl)
    | (extract_lets +onlyGivenNames s1; refine Touches.cut (x := s1) ?_ ?_; (on_goal 1 => subst s1); (on_goal 2 => (intro h1; clear_value s1)))
    | (extract_lets +onlyGivenNames v1; clear_value v1)
    | (with_reducible apply Touches.seq (State.frameUncorr_touches ..))
    | (with_reducible refine Touches.seq (State.setFab_touches ?_) ?_ ?_)
    | (with_reducible apply Touches.ite)
    | split

theorem State.correctionWrite_touches (s : State) : Touches 2306 s s.correctionWrite := by
  unfold State.correctionWrite
  repeat' first
    | exact rfl
    | with_reducible assumption
    | with_reducible exact Touches.refl _ _
    | (intro l; refine FabState.wf_of ?_ ?_ <;> first | with_reducible exact id | with_reducible exact cellWrite_wf _ _ _ | with_reducible exact cellErase_wf _ _ | with_reducible exact filter_wf _ _ | with_reducible exact cellWriteAll_wf _ _ _ _ | exact fun h => cellWrite_wf _ _ _ (cellWrite_wf _ _ _ h) | (split <;> with_reducible exact id) | exact fun _ => rfl)
    | (extract_lets +onlyGivenNames s1; refine Touches.cut (x := s1) ?_ ?_; (on_goal 1 => subst s1); (on_goal 2 => (intro h1; clear_value s1)))
    | (extract_lets +onlyGivenNames v1; clear_value v1)
    | (with_reducible apply Touches.seq (State.scrFirst_touches ..))
    | (with_reducible apply Touches.seq (State.satInc_touches ..))
    | (with_reducible apply Touches.seq (State.set_touches ..))
    | (with_reducible apply Touches.seq (State.report_touches ..))
    | (with_reducible refine Touches.seq (State.setFab_touches ?_) ?_ ?_)
    | split

theorem State.scrubLate_touches (s : State) (std : Bool) (us : Nat) : Touches 258 s (s.scrubLate std us) := by
  unfold State.scrubLate
  repeat' first
    | exact rfl
    | with_reducible assumption
    | with_reducible exact Touches.refl _ _
    | (with_reducible apply Touches.seq (State.set_touches ..))
    | (with_reducible apply Touches.seq (State.report_touches ..))

theorem State.criticalPeriod_touches (s : State) : Touches 2306 s s.criticalPeriod := by
  unfold State.criticalPeriod
  repeat' first
    | exact rfl
    | with_reducible assumption
    | with_reducible exact Touches.refl _ _
    | (intro l; refine FabState.wf_of ?_ ?_ <;> first | with_reducible exact id | with_reducible exact cellWrite_wf _ _ _ | with_reducible exact cellErase_wf _ _ | with_reducible exact filter_wf _ _ | with_reducible exact cellWriteAll_wf _ _ _ _ | exact fun h => cellWrite_wf _ _ _ (cellWrite_wf _ _ _ h) | (split <;> with_reducible exact id) | exact fun _ => rfl)
    | (extract_lets +onlyGivenNames s1; refine Touches.cut (x := s1) ?_ ?_; (on_goal 1 => subst s1); (on_goal 2 => (intro h1; clear_value s1)))
    | (extract_lets +onlyGivenNames v1; clear_value v1)
    | (with_reducible apply Touches.seq (State.scrubLate_touches ..))
    | (with_reducible apply Touches.seq (State.critBegin_touches ..))
    | (with_reducible apply Touches.seq (State.stdBegin_touches ..))
    | (with_reducible refine Touches.seq (State.setFab_touches ?_) ?_ ?_)
    | (with_reducible apply Touches.iff)
    | (with_reducible apply Touches.ite)
    | (intro x; intros; try beta_reduce)

theorem State.regionCheck_touches (s : State) (r : Nat) : Touches 2306 s (s.regionCheck r) := by
  unfold State.regionCheck
  repeat' first
    | exact rfl
    | with_reducible assumption
    | with_reducible exact Touches.refl _ _
    | (intro l; refine FabState.wf_of ?_ ?_ <;> first | with_reducible exact id | with_reducible exact cellWrite_wf _ _ _ | with_reducible exact cellErase_wf _ _ | with_reducible exact filter_wf _ _ | with_reducible exact cellWriteAll_wf _ _ _ _ | exact fun h => cellWrite_wf _ _ _ (cellWrite_wf _ _ _ h) | (split <;> with_reducible exact id) | exact fun _ => rfl)
    | (extract_lets +onlyGivenNames s1; refine Touches.cut (x := s1) ?_ ?_; (on_goal 1 => subst s1); (on_goal 2 => (intro h1; clear_value s1)))
    | (extract_lets +onlyGivenNames v1; clear_value v1)
    | (with_reducible apply Touches.seq (State.scrFirst_touches ..))
    | (with_reducible apply Touches.seq (State.satInc_touches ..))
    | (with_reducible apply Touches.seq (State.set_touches ..))
    | (with_reducible apply Touches.seq (State.report_touches ..))
    | (with_reducible refine Touches.seq (State.setFab_touches ?_) ?_ ?_)
    | (with_reducible apply Touches.ite)

theorem State.stdPassEnd_touches (s : State) (ns : Nat) : Touches 2306 s (s.stdPassEnd ns) := by
  unfold State.stdPassEnd
  repeat' first
    | exact rfl
    | with_reducible assumption
    | with_reducible exact Touches.refl _ _
    | (extract_lets +onlyGivenNames s1; refine Touches.cut (x := s1) ?_ ?_; (on_goal 1 => subst s1); (on_goal 2 => (intro h1; clear_value s1)))
    | (extract_lets +onlyGivenNames v1; clear_value v1)
    | (with_reducible apply Touches.seq (State.satInc_touches ..))
    | (with_reducible apply Touches.seq (State.set_touches ..))
    | (with_reducible apply Touches.seq (State.put_touches ..))
    | (with_reducible apply Touches.seq (State.scrubLate_touches ..))
    | (with_reducible apply Touches.seq (State.stdBegin_touches ..))
    | (with_reducible apply Touches.iff)
    | (intro x; intros; try beta_reduce)

theorem State.critPassEnd_touches (s : State) (ns : Nat) : Touches 2 s (s.critPassEnd ns) := by
  unfold State.critPassEnd
  repeat' first
    | exact rfl
    | with_reducible assumption
    | with_reducible exact Touches.refl _ _
    | (with_reducible apply Touches.seq (State.satAdd2_touches ..))
    | (with_reducible apply Touches.seq (State.put_touches ..))

theorem State.scrubPassEnd_touches (s : State) (r ns : Nat) : Touches 2306 s (s.scrubPassEnd r ns) := by
  unfold State.scrubPassEnd
  repeat' first
    | exact rfl
    | with_reducible assumption
    | with_reducible exact Touches.refl _ _
    | (intro l; refine FabState.wf_of ?_ ?_ <;> first | with_reducible exact id | with_reducible exact cellWrite_wf _ _ _ | with_reducible exact cellErase_wf _ _ | with_reducible exact filter_wf _ _ | with_reducible exact cellWriteAll_wf _ _ _ _ | exact fun h => cellWrite_wf _ _ _ (cellWrite_wf _ _ _ h) | (split <;> with_reducible exact id) | exact fun _ => rfl)
    | (extract_lets +onlyGivenNames s1; refine Touches.cut (x := s1) ?_ ?_; (on_goal 1 => subst s1); (on_goal 2 => (intro h1; clear_value s1)))
    | (extract_lets +onlyGivenNames v1; clear_value v1)
    | (with_reducible apply Touches.seq (State.regionCheck_touches ..))
    | (with_reducible apply Touches.seq (State.critPassEnd_touches ..))
    | (with_reducible apply Touches.seq (State.stdPassEnd_touches ..))
    | (with_reducible refine Touches.seq (State.setFab_touches ?_) ?_ ?_)
    | (with_reducible apply Touches.iff)
    | (with_reducible apply Touches.ite)
    | (intro x; intros; try beta_reduce)

theorem State.slotTaken_touches (s : State) (c : SlotClaim) : Touches 2048 s (s.slotTaken c) := by
  unfold State.slotTaken
  repeat' first
    | exact rfl
    | with_reducible assumption
    | with_reducible exact Touches.refl _ _
    | (intro l; refine FabState.wf_of ?_ ?_ <;> first | with_reducible exact id | with_reducible exact cellWrite_wf _ _ _ | with_reducible exact cellErase_wf _ _ | with_reducible exact filter_wf _ _ | with_reducible exact cellWriteAll_wf _ _ _ _ | exact fun h => cellWrite_wf _ _ _ (cellWrite_wf _ _ _ h) | (split <;> with_reducible exact id) | exact fun _ => rfl)
    | (extract_lets +onlyGivenNames v1; clear_value v1)
    | (with_reducible refine Touches.seq (State.setFab_touches ?_) ?_ ?_)

theorem State.passRead_touches (s : State) (crit : Bool) : Touches 2306 s (s.passRead crit) := by
  unfold State.passRead
  repeat' first
    | exact rfl
    | with_reducible assumption
    | with_reducible exact Touches.refl _ _
    | (intro l; refine FabState.wf_of ?_ ?_ <;> first | with_reducible exact id | with_reducible exact cellWrite_wf _ _ _ | with_reducible exact cellErase_wf _ _ | with_reducible exact filter_wf _ _ | with_reducible exact cellWriteAll_wf _ _ _ _ | exact fun h => cellWrite_wf _ _ _ (cellWrite_wf _ _ _ h) | (split <;> with_reducible exact id) | exact fun _ => rfl)
    | (extract_lets +onlyGivenNames s1; refine Touches.cut (x := s1) ?_ ?_; (on_goal 1 => subst s1); (on_goal 2 => (intro h1; clear_value s1)))
    | (extract_lets +onlyGivenNames v1; clear_value v1)
    | (with_reducible apply Touches.seq (State.scrubRead_touches ..))
    | (with_reducible apply Touches.seq (State.scrubPassEnd_touches ..))
    | (with_reducible refine Touches.seq (State.setFab_touches ?_) ?_ ?_)
    | (with_reducible apply Touches.iff)
    | (with_reducible apply Touches.ite)
    | (intro x; intros; try beta_reduce)

theorem State.scrubSlot_touches (s : State) : Touches 2306 s s.scrubSlot := by
  unfold State.scrubSlot
  repeat' first
    | exact rfl
    | with_reducible assumption
    | with_reducible exact Touches.refl _ _
    | (intro l; refine FabState.wf_of ?_ ?_ <;> first | with_reducible exact id | with_reducible exact cellWrite_wf _ _ _ | with_reducible exact cellErase_wf _ _ | with_reducible exact filter_wf _ _ | with_reducible exact cellWriteAll_wf _ _ _ _ | exact fun h => cellWrite_wf _ _ _ (cellWrite_wf _ _ _ h) | (split <;> with_reducible exact id) | exact fun _ => rfl)
    | (extract_lets +onlyGivenNames s1; refine Touches.cut (x := s1) ?_ ?_; (on_goal 1 => subst s1); (on_goal 2 => (intro h1; clear_value s1)))
    | (extract_lets +onlyGivenNames v1; clear_value v1)
    | (with_reducible apply Touches.seq (State.correctionWrite_touches ..))
    | (with_reducible apply Touches.seq (State.passRead_touches ..))
    | (with_reducible apply Touches.seq (State.criticalPeriod_touches ..))
    | (with_reducible refine Touches.seq (State.setFab_touches ?_) ?_ ?_)
    | (with_reducible apply Touches.iff)
    | (with_reducible apply Touches.ite)
    | (intro x; intros; try beta_reduce)
    | split

theorem State.scrubSlots_touches (s : State) (n : Nat) : Touches 2306 s (s.scrubSlots n) := by
  induction n generalizing s with
  | zero => exact Touches.refl _ _
  | succ n ih =>
    unfold State.scrubSlots
    repeat' first
      | exact rfl
      | with_reducible assumption
      | with_reducible exact Touches.refl _ _
      | (with_reducible apply Touches.seq (State.scrubSlot_touches ..))
      | (with_reducible apply Touches.seq (ih ..))

theorem State.frameUpset_touches (s : State) (a bit : Nat) : Touches 2048 s (s.frameUpset a bit) := by
  unfold State.frameUpset
  repeat' first
    | exact rfl
    | with_reducible assumption
    | with_reducible exact Touches.refl _ _
    | (intro l; refine FabState.wf_of ?_ ?_ <;> first | with_reducible exact id | with_reducible exact cellWrite_wf _ _ _ | with_reducible exact cellErase_wf _ _ | with_reducible exact filter_wf _ _ | with_reducible exact cellWriteAll_wf _ _ _ _ | exact fun h => cellWrite_wf _ _ _ (cellWrite_wf _ _ _ h) | (split <;> with_reducible exact id) | exact fun _ => rfl)
    | (with_reducible refine Touches.seq (State.setFab_touches ?_) ?_ ?_)

theorem State.scrubReadSlot_touches (s : State) (r i : Nat) (flips : List (Fin 2112)) : Touches 2306 s (s.scrubReadSlot r i flips) := by
  unfold State.scrubReadSlot
  repeat' first
    | exact rfl
    | with_reducible assumption
    | with_reducible exact Touches.refl _ _
    | (intro l; refine FabState.wf_of ?_ ?_ <;> first | with_reducible exact id | with_reducible exact cellWrite_wf _ _ _ | with_reducible exact cellErase_wf _ _ | with_reducible exact filter_wf _ _ | with_reducible exact cellWriteAll_wf _ _ _ _ | exact fun h => cellWrite_wf _ _ _ (cellWrite_wf _ _ _ h) | (split <;> with_reducible exact id) | exact fun _ => rfl)
    | (extract_lets +onlyGivenNames s1; refine Touches.cut (x := s1) ?_ ?_; (on_goal 1 => subst s1); (on_goal 2 => (intro h1; clear_value s1)))
    | (extract_lets +onlyGivenNames v1; clear_value v1)
    | (with_reducible apply Touches.seq (State.slotTaken_touches ..))
    | (with_reducible apply Touches.seq (State.scrubRead_touches ..))
    | (with_reducible refine Touches.seq (State.setFab_touches ?_) ?_ ?_)
    | (with_reducible apply Touches.iff)
    | (with_reducible apply Touches.ite)
    | (intro x; intros; try beta_reduce)

theorem State.correctionSlot_touches (s : State) : Touches 2306 s s.correctionSlot := by
  unfold State.correctionSlot
  repeat' first
    | exact rfl
    | with_reducible assumption
    | with_reducible exact Touches.refl _ _
    | (with_reducible apply Touches.seq (State.slotTaken_touches ..))
    | (with_reducible apply Touches.seq (State.correctionWrite_touches ..))
    | (with_reducible apply Touches.iff)
    | (intro x; intros; try beta_reduce)

theorem State.putFlop_touches (s : State) (k : Nat) (b : Bool) (v : BitVec 2) : Touches 1073741824 s (s.putFlop k b v) := by
  unfold State.putFlop
  repeat' first
    | exact rfl
    | with_reducible assumption
    | with_reducible exact Touches.refl _ _
    | (intro l; refine LogicState.wf_of ?_ ?_ ?_ ?_ ?_ ?_ ?_ ?_ ?_ ?_ ?_ <;> first | with_reducible exact id | with_reducible exact cellWrite_wf _ _ _ | with_reducible exact cellErase_wf _ _ | with_reducible exact filter_wf _ _ | with_reducible exact cellWriteAll_wf _ _ _ _ | exact fun h => cellWrite_wf _ _ _ (cellWrite_wf _ _ _ h) | (split <;> with_reducible exact id) | exact fun _ => rfl)
    | (with_reducible refine Touches.seq (State.setLgc_touches ?_) ?_ ?_)

theorem State.flopUpset_touches (s : State) (k : Nat) (b : Bool) : Touches 1073741824 s (s.flopUpset k b) := by
  unfold State.flopUpset
  repeat' first
    | exact rfl
    | with_reducible assumption
    | with_reducible exact Touches.refl _ _
    | (with_reducible apply Touches.seq (State.putFlop_touches ..))

theorem State.pairMismatch_touches (s : State) (r tile cell : Nat) : Touches 2306 s (s.pairMismatch r tile cell) := by
  unfold State.pairMismatch
  repeat' first
    | exact rfl
    | with_reducible assumption
    | with_reducible exact Touches.refl _ _
    | (intro l; refine FabState.wf_of ?_ ?_ <;> first | with_reducible exact id | with_reducible exact cellWrite_wf _ _ _ | with_reducible exact cellErase_wf _ _ | with_reducible exact filter_wf _ _ | with_reducible exact cellWriteAll_wf _ _ _ _ | exact fun h => cellWrite_wf _ _ _ (cellWrite_wf _ _ _ h) | (split <;> with_reducible exact id) | exact fun _ => rfl)
    | (extract_lets +onlyGivenNames s1; refine Touches.cut (x := s1) ?_ ?_; (on_goal 1 => subst s1); (on_goal 2 => (intro h1; clear_value s1)))
    | (extract_lets +onlyGivenNames v1; clear_value v1)
    | (with_reducible apply Touches.seq (State.set_touches ..))
    | (with_reducible apply Touches.seq (State.satInc_touches ..))
    | (with_reducible apply Touches.seq (State.put_touches ..))
    | (with_reducible apply Touches.seq (State.report_touches ..))
    | (with_reducible refine Touches.seq (State.setFab_touches ?_) ?_ ?_)
    | (with_reducible apply Touches.iff)
    | (with_reducible apply Touches.ite)
    | (intro x; intros; try beta_reduce)

theorem State.pairUpset_touches (s : State) (r tile cell : Nat) : Touches 1073744146 s (s.pairUpset r tile cell) := by
  unfold State.pairUpset
  repeat' first
    | exact rfl
    | with_reducible assumption
    | with_reducible exact Touches.refl _ _
    | (extract_lets +onlyGivenNames s1; refine Touches.cut (x := s1) ?_ ?_; (on_goal 1 => subst s1); (on_goal 2 => (intro h1; clear_value s1)))
    | (extract_lets +onlyGivenNames v1; clear_value v1)
    | (with_reducible apply Touches.seq (State.flopUpset_touches ..))
    | (with_reducible apply Touches.seq (State.drawn_touches ..))
    | (with_reducible apply Touches.seq (State.pairMismatch_touches ..))
    | (with_reducible apply Touches.iff)
    | (intro x; intros; try beta_reduce)

theorem State.sweepTime_touches (s : State) (deep : Bool) (r us : Nat) : Touches 258 s (s.sweepTime deep r us) := by
  unfold State.sweepTime
  repeat' first
    | exact rfl
    | with_reducible assumption
    | with_reducible exact Touches.refl _ _
    | (extract_lets +onlyGivenNames s1; refine Touches.cut (x := s1) ?_ ?_; (on_goal 1 => subst s1); (on_goal 2 => (intro h1; clear_value s1)))
    | (extract_lets +onlyGivenNames v1; clear_value v1)
    | (with_reducible apply Touches.seq (State.set_touches ..))
    | (with_reducible apply Touches.seq (State.report_touches ..))
    | (with_reducible apply Touches.ite)

theorem State.memError_touches (s : State) (n inst detail source : Nat) : Touches 258 s (s.memError n inst detail source) := by
  unfold State.memError
  repeat' first
    | exact rfl
    | with_reducible assumption
    | with_reducible exact Touches.refl _ _
    | (extract_lets +onlyGivenNames s1; refine Touches.cut (x := s1) ?_ ?_; (on_goal 1 => subst s1); (on_goal 2 => (intro h1; clear_value s1)))
    | (extract_lets +onlyGivenNames v1; clear_value v1)
    | (with_reducible apply Touches.seq (State.satInc_touches ..))
    | (with_reducible apply Touches.seq (State.set_touches ..))
    | (with_reducible apply Touches.seq (State.putB_touches ..))
    | (with_reducible apply Touches.seq (State.put_touches ..))
    | (with_reducible apply Touches.seq (State.report_touches ..))
    | (with_reducible apply Touches.iff)
    | (with_reducible apply Touches.ite)
    | (intro x; intros; try beta_reduce)
    | split

theorem State.ghold_touches (s : State) : Touches 2 s s.ghold := by
  unfold State.ghold
  repeat' first
    | exact rfl
    | with_reducible assumption
    | with_reducible exact Touches.refl _ _
    | (with_reducible apply Touches.seq (State.putB_touches ..))

theorem State.gholdRelease_touches (s : State) (d : Nat) (among : BitVec 16) : Touches 2050 s (s.gholdRelease d among) := by
  unfold State.gholdRelease
  repeat' first
    | exact rfl
    | with_reducible assumption
    | with_reducible exact Touches.refl _ _
    | (intro l; refine FabState.wf_of ?_ ?_ <;> first | with_reducible exact id | with_reducible exact cellWrite_wf _ _ _ | with_reducible exact cellErase_wf _ _ | with_reducible exact filter_wf _ _ | with_reducible exact cellWriteAll_wf _ _ _ _ | exact fun h => cellWrite_wf _ _ _ (cellWrite_wf _ _ _ h) | (split <;> with_reducible exact id) | exact fun _ => rfl)
    | (with_reducible apply Touches.seq (State.ghold_touches ..))
    | (with_reducible refine Touches.seq (State.setFab_touches ?_) ?_ ?_)
    | (with_reducible apply Touches.ite)

theorem State.holdAll_touches (s : State) : Touches 2050 s s.holdAll := by
  unfold State.holdAll
  repeat' first
    | exact rfl
    | with_reducible assumption
    | with_reducible exact Touches.refl _ _
    | (intro l; refine FabState.wf_of ?_ ?_ <;> first | with_reducible exact id | with_reducible exact cellWrite_wf _ _ _ | with_reducible exact cellErase_wf _ _ | with_reducible exact filter_wf _ _ | with_reducible exact cellWriteAll_wf _ _ _ _ | exact fun h => cellWrite_wf _ _ _ (cellWrite_wf _ _ _ h) | (split <;> with_reducible exact id) | exact fun _ => rfl)
    | (extract_lets +onlyGivenNames v1; clear_value v1)
    | (with_reducible apply Touches.seq (State.ghold_touches ..))
    | (with_reducible refine Touches.seq (State.setFab_touches ?_) ?_ ?_)

theorem State.holdRegion_touches (s : State) (r : Nat) : Touches 2050 s (s.holdRegion r) := by
  unfold State.holdRegion
  repeat' first
    | exact rfl
    | with_reducible assumption
    | with_reducible exact Touches.refl _ _
    | (intro l; refine FabState.wf_of ?_ ?_ <;> first | with_reducible exact id | with_reducible exact cellWrite_wf _ _ _ | with_reducible exact cellErase_wf _ _ | with_reducible exact filter_wf _ _ | with_reducible exact cellWriteAll_wf _ _ _ _ | exact fun h => cellWrite_wf _ _ _ (cellWrite_wf _ _ _ h) | (split <;> with_reducible exact id) | exact fun _ => rfl)
    | (extract_lets +onlyGivenNames v1; clear_value v1)
    | (with_reducible apply Touches.seq (State.ghold_touches ..))
    | (with_reducible refine Touches.seq (State.setFab_touches ?_) ?_ ?_)

theorem State.clockSwitch_touches (s : State) (line : Nat) (sel ce : Bool) : Touches 2048 s (s.clockSwitch line sel ce) := by
  unfold State.clockSwitch
  repeat' first
    | exact rfl
    | with_reducible assumption
    | with_reducible exact Touches.refl _ _
    | (intro l; refine FabState.wf_of ?_ ?_ <;> first | with_reducible exact id | with_reducible exact cellWrite_wf _ _ _ | with_reducible exact cellErase_wf _ _ | with_reducible exact filter_wf _ _ | with_reducible exact cellWriteAll_wf _ _ _ _ | exact fun h => cellWrite_wf _ _ _ (cellWrite_wf _ _ _ h) | (split <;> with_reducible exact id) | exact fun _ => rfl)
    | (with_reducible refine Touches.seq (State.setFab_touches ?_) ?_ ?_)
    | (with_reducible apply Touches.ite)

theorem State.zeroBank_touches (s : State) (b : Nat) : Touches 8192 s (s.zeroBank b) :=
  Touches.upd_deep (by decide) (filter_wf _ _) (Touches.refl _ _)

theorem State.forgetCells_touches (s : State) (r : Nat) : Touches 1073743872 s (s.forgetCells r) := by
  unfold State.forgetCells
  repeat' first
    | exact rfl
    | with_reducible assumption
    | with_reducible exact Touches.refl _ _
    | (intro l; refine LogicState.wf_of ?_ ?_ ?_ ?_ ?_ ?_ ?_ ?_ ?_ ?_ ?_ <;> first | with_reducible exact id | with_reducible exact cellWrite_wf _ _ _ | with_reducible exact cellErase_wf _ _ | with_reducible exact filter_wf _ _ | with_reducible exact cellWriteAll_wf _ _ _ _ | exact fun h => cellWrite_wf _ _ _ (cellWrite_wf _ _ _ h) | (split <;> with_reducible exact id) | exact fun _ => rfl)
    | (intro l; refine FabState.wf_of ?_ ?_ <;> first | with_reducible exact id | with_reducible exact cellWrite_wf _ _ _ | with_reducible exact cellErase_wf _ _ | with_reducible exact filter_wf _ _ | with_reducible exact cellWriteAll_wf _ _ _ _ | exact fun h => cellWrite_wf _ _ _ (cellWrite_wf _ _ _ h) | (split <;> with_reducible exact id) | exact fun _ => rfl)
    | exact fun l => LogicState.releaseRegion_wf l _
    | (with_reducible refine Touches.seq (State.setFab_touches ?_) ?_ ?_)
    | (with_reducible refine Touches.seq (State.setLgc_touches ?_) ?_ ?_)

theorem State.sweepsStart_touches (s : State) : Touches 1073741824 s s.sweepsStart := by
  unfold State.sweepsStart
  repeat' first
    | exact rfl
    | with_reducible assumption
    | with_reducible exact Touches.refl _ _
    | (intro l; refine LogicState.wf_of ?_ ?_ ?_ ?_ ?_ ?_ ?_ ?_ ?_ ?_ ?_ <;> first | with_reducible exact id | with_reducible exact cellWrite_wf _ _ _ | with_reducible exact cellErase_wf _ _ | with_reducible exact filter_wf _ _ | with_reducible exact cellWriteAll_wf _ _ _ _ | exact fun h => cellWrite_wf _ _ _ (cellWrite_wf _ _ _ h) | (split <;> with_reducible exact id) | exact fun _ => rfl)
    | (with_reducible refine Touches.seq (State.setLgc_touches ?_) ?_ ?_)

theorem State.fabRelease_touches (s : State) : Touches 1073752066 s s.fabRelease := by
  unfold State.fabRelease
  repeat' first
    | exact rfl
    | with_reducible assumption
    | with_reducible exact Touches.refl _ _
    | (intro l; refine LogicState.wf_of ?_ ?_ ?_ ?_ ?_ ?_ ?_ ?_ ?_ ?_ ?_ <;> first | with_reducible exact id | with_reducible exact cellWrite_wf _ _ _ | with_reducible exact cellErase_wf _ _ | with_reducible exact filter_wf _ _ | with_reducible exact cellWriteAll_wf _ _ _ _ | exact fun h => cellWrite_wf _ _ _ (cellWrite_wf _ _ _ h) | (split <;> with_reducible exact id) | exact fun _ => rfl)
    | (intro l; refine FabState.wf_of ?_ ?_ <;> first | with_reducible exact id | with_reducible exact cellWrite_wf _ _ _ | with_reducible exact cellErase_wf _ _ | with_reducible exact filter_wf _ _ | with_reducible exact cellWriteAll_wf _ _ _ _ | exact fun h => cellWrite_wf _ _ _ (cellWrite_wf _ _ _ h) | (split <;> with_reducible exact id) | exact fun _ => rfl)
    | exact fun _ => rfl
    | (extract_lets +onlyGivenNames s1; refine Touches.cut (x := s1) ?_ ?_; (on_goal 1 => subst s1); (on_goal 2 => (intro h1; clear_value s1)))
    | (extract_lets +onlyGivenNames v1; clear_value v1)
    | (with_reducible apply Touches.seq (State.set_touches ..))
    | (with_reducible apply Touches.seq (State.holdAll_touches ..))
    | (with_reducible apply Touches.seq (State.scrubStart_touches ..))
    | (with_reducible refine Touches.seq (State.setFab_touches ?_) ?_ ?_)
    | (with_reducible apply Touches.upd_deep)
    | (with_reducible apply Touches.upd_lgc)

theorem State.fabReload_touches (s : State) : Touches 2050 s s.fabReload := by
  unfold State.fabReload
  repeat' first
    | exact rfl
    | with_reducible assumption
    | with_reducible exact Touches.refl _ _
    | (intro l; refine FabState.wf_of ?_ ?_ <;> first | with_reducible exact id | with_reducible exact cellWrite_wf _ _ _ | with_reducible exact cellErase_wf _ _ | with_reducible exact filter_wf _ _ | with_reducible exact cellWriteAll_wf _ _ _ _ | exact fun h => cellWrite_wf _ _ _ (cellWrite_wf _ _ _ h) | (split <;> with_reducible exact id) | exact fun _ => rfl)
    | (extract_lets +onlyGivenNames s1; refine Touches.cut (x := s1) ?_ ?_; (on_goal 1 => subst s1); (on_goal 2 => (intro h1; clear_value s1)))
    | (extract_lets +onlyGivenNames v1; clear_value v1)
    | (with_reducible apply Touches.seq (State.clr_touches ..))
    | (with_reducible apply Touches.seq (State.put_touches ..))
    | (with_reducible refine Touches.seq (State.setFab_touches ?_) ?_ ?_)

end Sys2Proof.Machine
end

