-- ==== Sys2Proof/Laws/TouchMem.lean ====
section
/-! SUPPORT. What each operation of Machine/Mem.lean can change: one lemma per operation, its set of parts as in Laws/Parts.lean. -/
namespace Sys2Proof.Machine

theorem State.cellReset_touches (s : State) (k : Nat) : Touches 2048 s (s.cellReset k) := by
  unfold State.cellReset
  repeat' first
    | exact rfl
    | with_reducible assumption
    | with_reducible exact Touches.refl _ _
    | (intro l; refine FabState.wf_of ?_ ?_ <;> first | with_reducible exact id | with_reducible exact cellWrite_wf _ _ _ | with_reducible exact cellErase_wf _ _ | with_reducible exact filter_wf _ _ | with_reducible exact cellWriteAll_wf _ _ _ _ | exact fun h => cellWrite_wf _ _ _ (cellWrite_wf _ _ _ h) | (split <;> with_reducible exact id) | exact fun _ => rfl)
    | (with_reducible refine Touches.seq (State.setFab_touches ?_) ?_ ?_)

theorem State.cellTakes_touches (s : State) (k : Nat) (a b : BitVec 2) : Touches 1073741824 s (s.cellTakes k a b) := by
  unfold State.cellTakes
  repeat' first
    | exact rfl
    | with_reducible assumption
    | with_reducible exact Touches.refl _ _
    | (with_reducible apply Touches.seq (State.putFlop_touches ..))

theorem State.pairCompare_touches (s : State) (r tile cell : Nat) : Touches 2306 s (s.pairCompare r tile cell) := by
  unfold State.pairCompare
  repeat' first
    | exact rfl
    | with_reducible assumption
    | with_reducible exact Touches.refl _ _
    | (extract_lets +onlyGivenNames v1; clear_value v1)
    | (with_reducible apply Touches.seq (State.pairMismatch_touches ..))
    | (with_reducible apply Touches.iff)
    | (intro x; intros; try beta_reduce)

theorem State.cellEdge_touches (s : State) (r tile cell : Nat) (x : CellIn) : Touches 1073744130 s (s.cellEdge r tile cell x) := by
  unfold State.cellEdge
  repeat' first
    | exact rfl
    | with_reducible assumption
    | with_reducible exact Touches.refl _ _
    | (extract_lets +onlyGivenNames s1; refine Touches.cut (x := s1) ?_ ?_; (on_goal 1 => subst s1); (on_goal 2 => (intro h1; clear_value s1)))
    | (extract_lets +onlyGivenNames v1; clear_value v1)
    | (with_reducible apply Touches.seq (State.pairCompare_touches ..))
    | (with_reducible apply Touches.seq (State.cellTakes_touches ..))
    | (with_reducible apply Touches.seq (State.cellReset_touches ..))
    | (with_reducible apply Touches.iff)
    | (with_reducible apply Touches.ite)
    | (intro x; intros; try beta_reduce)

theorem State.cellLevel_touches (s : State) (r tile cell : Nat) (x : CellIn) : Touches 1073743872 s (s.cellLevel r tile cell x) := by
  unfold State.cellLevel
  repeat' first
    | exact rfl
    | with_reducible assumption
    | with_reducible exact Touches.refl _ _
    | (extract_lets +onlyGivenNames s1; refine Touches.cut (x := s1) ?_ ?_; (on_goal 1 => subst s1); (on_goal 2 => (intro h1; clear_value s1)))
    | (extract_lets +onlyGivenNames v1; clear_value v1)
    | (with_reducible apply Touches.seq (State.putFlop_touches ..))
    | (with_reducible apply Touches.seq (State.cellReset_touches ..))
    | (with_reducible apply Touches.iff)
    | (with_reducible apply Touches.ite)
    | (intro x; intros; try beta_reduce)

theorem State.sumFlop_touches (s : State) (base : Nat) (x : Nat × Bool) : Touches 1073741824 s (s.sumFlop base x) := by
  unfold State.sumFlop
  repeat' first
    | exact rfl
    | with_reducible assumption
    | with_reducible exact Touches.refl _ _
    | (with_reducible apply Touches.seq (State.putFlop_touches ..))

theorem State.chainEdge_touches (s : State) (r tile : Nat) (carry : Bool) (bits : List (Bool × Bool)) : Touches 1073741824 s (s.chainEdge r tile carry bits) := by
  unfold State.chainEdge
  repeat' first
    | exact rfl
    | with_reducible assumption
    | with_reducible exact Touches.refl _ _
    | (extract_lets +onlyGivenNames v1; clear_value v1)
    | (with_reducible apply Touches.seq (State.sumFlop_touches ..))
    | (with_reducible apply Touches.each)
    | (with_reducible apply Touches.ite)
    | (intro x; intros; try beta_reduce)

theorem State.crossDrive_touches (s : State) (r dir wire : Nat) (v : Bool) : Touches 1073741824 s (s.crossDrive r dir wire v) := by
  unfold State.crossDrive
  repeat' first
    | exact rfl
    | with_reducible assumption
    | with_reducible exact Touches.refl _ _
    | (intro l; refine LogicState.wf_of ?_ ?_ ?_ ?_ ?_ ?_ ?_ ?_ ?_ ?_ ?_ <;> first | with_reducible exact id | with_reducible exact cellWrite_wf _ _ _ | with_reducible exact cellErase_wf _ _ | with_reducible exact filter_wf _ _ | with_reducible exact cellWriteAll_wf _ _ _ _ | exact fun h => cellWrite_wf _ _ _ (cellWrite_wf _ _ _ h) | (split <;> with_reducible exact id) | exact fun _ => rfl)
    | (with_reducible refine Touches.seq (State.setLgc_touches ?_) ?_ ?_)
    | (with_reducible apply Touches.ite)
    | split

theorem State.readReport_touches (s : State) (deep : Bool) (inst word source : Nat) (v : BitVec 74) : Touches 258 s (s.readReport deep inst word source v) := by
  unfold State.readReport
  repeat' first
    | exact rfl
    | with_reducible assumption
    | with_reducible exact Touches.refl _ _
    | (extract_lets +onlyGivenNames s1; refine Touches.cut (x := s1) ?_ ?_; (on_goal 1 => subst s1); (on_goal 2 => (intro h1; clear_value s1)))
    | (extract_lets +onlyGivenNames v1; clear_value v1)
    | (with_reducible apply Touches.seq (State.memError_touches ..))
    | (with_reducible apply Touches.iff)
    | (with_reducible apply Touches.ite)
    | (intro x; intros; try beta_reduce)

theorem State.bramShow_touches (s : State) (m p : Nat) (v : BitVec 74) : Touches 1073741824 s (s.bramShow m p v) := by
  unfold State.bramShow
  repeat' first
    | exact rfl
    | with_reducible assumption
    | with_reducible exact Touches.refl _ _
    | (intro l; refine LogicState.wf_of ?_ ?_ ?_ ?_ ?_ ?_ ?_ ?_ ?_ ?_ ?_ <;> first | with_reducible exact id | with_reducible exact cellWrite_wf _ _ _ | with_reducible exact cellErase_wf _ _ | with_reducible exact filter_wf _ _ | with_reducible exact cellWriteAll_wf _ _ _ _ | exact fun h => cellWrite_wf _ _ _ (cellWrite_wf _ _ _ h) | (split <;> with_reducible exact id) | exact fun _ => rfl)
    | (extract_lets +onlyGivenNames v1; clear_value v1)
    | (with_reducible refine Touches.seq (State.setLgc_touches ?_) ?_ ?_)

theorem State.bramPort_touches (s : State) (m p : Nat) (op : BramOp) : Touches 1073742098 s (s.bramPort m p op) := by
  unfold State.bramPort
  repeat' first
    | exact rfl
    | with_reducible assumption
    | with_reducible exact Touches.refl _ _
    | (extract_lets +onlyGivenNames s1; refine Touches.cut (x := s1) ?_ ?_; (on_goal 1 => subst s1); (on_goal 2 => (intro h1; clear_value s1)))
    | (extract_lets +onlyGivenNames v1; clear_value v1)
    | (with_reducible apply Touches.seq (State.drawn_touches ..))
    | (with_reducible apply Touches.seq (State.bramShow_touches ..))
    | (with_reducible apply Touches.seq (State.readReport_touches ..))
    | (with_reducible apply Touches.ite)
    | split

theorem State.bramStore_touches (s : State) (m : Nat) (op : BramOp) : Touches 1073741824 s (s.bramStore m op) := by
  unfold State.bramStore
  repeat' first
    | exact rfl
    | with_reducible assumption
    | with_reducible exact Touches.refl _ _
    | (intro l; refine LogicState.wf_of ?_ ?_ ?_ ?_ ?_ ?_ ?_ ?_ ?_ ?_ ?_ <;> first | with_reducible exact id | with_reducible exact cellWrite_wf _ _ _ | with_reducible exact cellErase_wf _ _ | with_reducible exact filter_wf _ _ | with_reducible exact cellWriteAll_wf _ _ _ _ | exact fun h => cellWrite_wf _ _ _ (cellWrite_wf _ _ _ h) | (split <;> with_reducible exact id) | exact fun _ => rfl)
    | (extract_lets +onlyGivenNames v1; clear_value v1)
    | (with_reducible refine Touches.seq (State.setLgc_touches ?_) ?_ ?_)
    | (with_reducible apply Touches.ite)

theorem State.bramSweepRead_touches (s : State) (k : Nat) : Touches 1073742098 s (s.bramSweepRead k) := by
  unfold State.bramSweepRead
  repeat' first
    | exact rfl
    | with_reducible assumption
    | with_reducible exact Touches.refl _ _
    | (intro l; refine LogicState.wf_of ?_ ?_ ?_ ?_ ?_ ?_ ?_ ?_ ?_ ?_ ?_ <;> first | with_reducible exact id | with_reducible exact cellWrite_wf _ _ _ | with_reducible exact cellErase_wf _ _ | with_reducible exact filter_wf _ _ | with_reducible exact cellWriteAll_wf _ _ _ _ | exact fun h => cellWrite_wf _ _ _ (cellWrite_wf _ _ _ h) | (split <;> with_reducible exact id) | exact fun _ => rfl)
    | (extract_lets +onlyGivenNames s1; refine Touches.cut (x := s1) ?_ ?_; (on_goal 1 => subst s1); (on_goal 2 => (intro h1; clear_value s1)))
    | (extract_lets +onlyGivenNames v1; clear_value v1)
    | (with_reducible apply Touches.seq (State.drawn_touches ..))
    | (with_reducible apply Touches.seq (State.readReport_touches ..))
    | (with_reducible refine Touches.seq (State.setLgc_touches ?_) ?_ ?_)
    | (with_reducible apply Touches.iff)
    | (intro x; intros; try beta_reduce)

theorem State.bramSweepWrite_touches (s : State) (x : Nat × BitVec 64) : Touches 1073741824 s (s.bramSweepWrite x) := by
  unfold State.bramSweepWrite
  repeat' first
    | exact rfl
    | with_reducible assumption
    | with_reducible exact Touches.refl _ _
    | (intro l; refine LogicState.wf_of ?_ ?_ ?_ ?_ ?_ ?_ ?_ ?_ ?_ ?_ ?_ <;> first | with_reducible exact id | with_reducible exact cellWrite_wf _ _ _ | with_reducible exact cellErase_wf _ _ | with_reducible exact filter_wf _ _ | with_reducible exact cellWriteAll_wf _ _ _ _ | exact fun h => cellWrite_wf _ _ _ (cellWrite_wf _ _ _ h) | (split <;> with_reducible exact id) | exact fun _ => rfl)
    | (with_reducible refine Touches.seq (State.setLgc_touches ?_) ?_ ?_)

theorem State.bramSlot_touches (s : State) (r : Nat) : Touches 1073742098 s (s.bramSlot r) := by
  unfold State.bramSlot
  repeat' first
    | exact rfl
    | with_reducible assumption
    | with_reducible exact Touches.refl _ _
    | (intro l; refine LogicState.wf_of ?_ ?_ ?_ ?_ ?_ ?_ ?_ ?_ ?_ ?_ ?_ <;> first | with_reducible exact id | with_reducible exact cellWrite_wf _ _ _ | with_reducible exact cellErase_wf _ _ | with_reducible exact filter_wf _ _ | with_reducible exact cellWriteAll_wf _ _ _ _ | exact fun h => cellWrite_wf _ _ _ (cellWrite_wf _ _ _ h) | (split <;> with_reducible exact id) | exact fun _ => rfl)
    | (extract_lets +onlyGivenNames s1; refine Touches.cut (x := s1) ?_ ?_; (on_goal 1 => subst s1); (on_goal 2 => (intro h1; clear_value s1)))
    | (extract_lets +onlyGivenNames v1; clear_value v1)
    | (with_reducible apply Touches.seq (State.bramSweepWrite_touches ..))
    | (with_reducible apply Touches.seq (State.bramSweepRead_touches ..))
    | (with_reducible refine Touches.seq (State.setLgc_touches ?_) ?_ ?_)
    | split

theorem State.bramCycle_touches (s : State) (m : Nat) (a b : Option BramOp) : Touches 1073742098 s (s.bramCycle m a b) := by
  unfold State.bramCycle
  repeat' first
    | exact rfl
    | with_reducible assumption
    | with_reducible exact Touches.refl _ _
    | (extract_lets +onlyGivenNames s1; refine Touches.cut (x := s1) ?_ ?_; (on_goal 1 => subst s1); (on_goal 2 => (intro h1; clear_value s1)))
    | (extract_lets +onlyGivenNames v1; clear_value v1)
    | (with_reducible apply Touches.seq (State.bramPort_touches ..))
    | (with_reducible apply Touches.seq (State.bramSlot_touches ..))
    | (with_reducible apply Touches.seq (State.bramStore_touches ..))
    | (with_reducible apply Touches.iff)
    | (with_reducible apply Touches.ite)
    | (intro x; intros; try beta_reduce)
    | split

theorem State.sweepCycle_touches (s : State) (r : Nat) : Touches 1073742098 s (s.sweepCycle r) := by
  unfold State.sweepCycle
  repeat' first
    | exact rfl
    | with_reducible assumption
    | with_reducible exact Touches.refl _ _
    | (with_reducible apply Touches.seq (State.bramSlot_touches ..))
    | (with_reducible apply Touches.iff)
    | (intro x; intros; try beta_reduce)
    | split

theorem State.bramUpset_touches (s : State) (m row i : Nat) : Touches 1073741824 s (s.bramUpset m row i) := by
  unfold State.bramUpset
  repeat' first
    | exact rfl
    | with_reducible assumption
    | with_reducible exact Touches.refl _ _
    | (intro l; refine LogicState.wf_of ?_ ?_ ?_ ?_ ?_ ?_ ?_ ?_ ?_ ?_ ?_ <;> first | with_reducible exact id | with_reducible exact cellWrite_wf _ _ _ | with_reducible exact cellErase_wf _ _ | with_reducible exact filter_wf _ _ | with_reducible exact cellWriteAll_wf _ _ _ _ | exact fun h => cellWrite_wf _ _ _ (cellWrite_wf _ _ _ h) | (split <;> with_reducible exact id) | exact fun _ => rfl)
    | (extract_lets +onlyGivenNames v1; clear_value v1)
    | (with_reducible refine Touches.seq (State.setLgc_touches ?_) ?_ ?_)
    | (with_reducible apply Touches.ite)

theorem State.deepStore_touches (s : State) (k : Nat) (w : BitVec 64) : Touches 1073750016 s (s.deepStore k w) := by
  unfold State.deepStore
  repeat' first
    | exact rfl
    | with_reducible assumption
    | with_reducible exact Touches.refl _ _
    | (with_reducible apply Touches.seq (State.putDeep_touches ..))

theorem State.deepPortH_touches (s : State) (k : Nat) : Touches 274 s (s.deepPortH k) := by
  unfold State.deepPortH
  repeat' first
    | exact rfl
    | with_reducible assumption
    | with_reducible exact Touches.refl _ _
    | (with_reducible apply Touches.seq (State.drawn_touches ..))
    | (with_reducible apply Touches.seq (State.readReport_touches ..))

theorem State.deepReads_touches (s : State) (a n : Nat) (dbe : Bool) : Touches 1073742098 s (s.deepReads a n dbe) := by
  unfold State.deepReads
  repeat' first
    | exact rfl
    | with_reducible assumption
    | with_reducible exact Touches.refl _ _
    | (intro l; refine LogicState.wf_of ?_ ?_ ?_ ?_ ?_ ?_ ?_ ?_ ?_ ?_ ?_ <;> first | with_reducible exact id | with_reducible exact cellWrite_wf _ _ _ | with_reducible exact cellErase_wf _ _ | with_reducible exact filter_wf _ _ | with_reducible exact cellWriteAll_wf _ _ _ _ | exact fun h => cellWrite_wf _ _ _ (cellWrite_wf _ _ _ h) | (split <;> with_reducible exact id) | exact fun _ => rfl)
    | (extract_lets +onlyGivenNames s1; refine Touches.cut (x := s1) ?_ ?_; (on_goal 1 => subst s1); (on_goal 2 => (intro h1; clear_value s1)))
    | (extract_lets +onlyGivenNames v1; clear_value v1)
    | (with_reducible apply Touches.seq (State.deepPortH_touches ..))
    | (with_reducible refine Touches.seq (State.setLgc_touches ?_) ?_ ?_)
    | (with_reducible apply Touches.each)
    | (with_reducible apply Touches.iff)
    | (intro x; intros; try beta_reduce)

theorem State.deepShow_touches (s : State) (b : Nat) (v : BitVec 66) : Touches 1073741824 s (s.deepShow b v) :=
  Touches.upd_lgc rfl (LogicState.wf_of id id id id id id id
    (fun h => cellWrite_wf _ _ _ (cellWrite_wf _ _ _ (cellWrite_wf _ _ _ h))) id id id) (Touches.refl _ _)

theorem State.deepSweepRead_touches (s : State) (b : Nat) : Touches 1073742098 s (s.deepSweepRead b) := by
  unfold State.deepSweepRead
  repeat' first
    | exact rfl
    | with_reducible assumption
    | with_reducible exact Touches.refl _ _
    | (intro l; refine LogicState.wf_of ?_ ?_ ?_ ?_ ?_ ?_ ?_ ?_ ?_ ?_ ?_ <;> first | with_reducible exact id | with_reducible exact cellWrite_wf _ _ _ | with_reducible exact cellErase_wf _ _ | with_reducible exact filter_wf _ _ | with_reducible exact cellWriteAll_wf _ _ _ _ | exact fun h => cellWrite_wf _ _ _ (cellWrite_wf _ _ _ h) | (split <;> with_reducible exact id) | exact fun _ => rfl)
    | (extract_lets +onlyGivenNames s1; refine Touches.cut (x := s1) ?_ ?_; (on_goal 1 => subst s1); (on_goal 2 => (intro h1; clear_value s1)))
    | (extract_lets +onlyGivenNames v1; clear_value v1)
    | (with_reducible apply Touches.seq (State.drawn_touches ..))
    | (with_reducible apply Touches.seq (State.readReport_touches ..))
    | (with_reducible refine Touches.seq (State.setLgc_touches ?_) ?_ ?_)
    | (with_reducible apply Touches.iff)
    | (intro x; intros; try beta_reduce)

theorem State.deepCycle_touches (s : State) (b : Nat) (u : DeepOp) : Touches 1073750290 s (s.deepCycle b u) := by
  unfold State.deepCycle
  repeat' first
    | exact rfl
    | with_reducible assumption
    | with_reducible exact Touches.refl _ _
    | (intro l; refine LogicState.wf_of ?_ ?_ ?_ ?_ ?_ ?_ ?_ ?_ ?_ ?_ ?_ <;> first | with_reducible exact id | with_reducible exact cellWrite_wf _ _ _ | with_reducible exact cellErase_wf _ _ | with_reducible exact filter_wf _ _ | with_reducible exact cellWriteAll_wf _ _ _ _ | exact fun h => cellWrite_wf _ _ _ (cellWrite_wf _ _ _ h) | (split <;> with_reducible exact id) | exact fun _ => rfl)
    | (extract_lets +onlyGivenNames s1; refine Touches.cut (x := s1) ?_ ?_; (on_goal 1 => subst s1); (on_goal 2 => (intro h1; clear_value s1)))
    | (extract_lets +onlyGivenNames v1; clear_value v1)
    | (with_reducible apply Touches.seq (State.drawn_touches ..))
    | (with_reducible apply Touches.seq (State.readReport_touches ..))
    | (with_reducible apply Touches.seq (State.deepShow_touches ..))
    | (with_reducible apply Touches.seq (State.deepSweepRead_touches ..))
    | (with_reducible apply Touches.seq (State.deepStore_touches ..))
    | (with_reducible refine Touches.seq (State.setLgc_touches ?_) ?_ ?_)
    | (with_reducible apply Touches.iff)
    | (with_reducible apply Touches.ite)
    | (intro x; intros; try beta_reduce)
    | split

theorem State.deepUpset_touches (s : State) (k i : Nat) : Touches 1073741824 s (s.deepUpset k i) := by
  unfold State.deepUpset
  repeat' first
    | exact rfl
    | with_reducible assumption
    | with_reducible exact Touches.refl _ _
    | (intro l; refine LogicState.wf_of ?_ ?_ ?_ ?_ ?_ ?_ ?_ ?_ ?_ ?_ ?_ <;> first | with_reducible exact id | with_reducible exact cellWrite_wf _ _ _ | with_reducible exact cellErase_wf _ _ | with_reducible exact filter_wf _ _ | with_reducible exact cellWriteAll_wf _ _ _ _ | exact fun h => cellWrite_wf _ _ _ (cellWrite_wf _ _ _ h) | (split <;> with_reducible exact id) | exact fun _ => rfl)
    | (with_reducible refine Touches.seq (State.setLgc_touches ?_) ?_ ?_)

theorem State.bramPassEnd_touches (s : State) (r : Nat) : Touches 1073742098 s (s.bramPassEnd r) := by
  unfold State.bramPassEnd
  repeat' first
    | exact rfl
    | with_reducible assumption
    | with_reducible exact Touches.refl _ _
    | (intro l; refine LogicState.wf_of ?_ ?_ ?_ ?_ ?_ ?_ ?_ ?_ ?_ ?_ ?_ <;> first | with_reducible exact id | with_reducible exact cellWrite_wf _ _ _ | with_reducible exact cellErase_wf _ _ | with_reducible exact filter_wf _ _ | with_reducible exact cellWriteAll_wf _ _ _ _ | exact fun h => cellWrite_wf _ _ _ (cellWrite_wf _ _ _ h) | (split <;> with_reducible exact id) | exact fun _ => rfl)
    | (extract_lets +onlyGivenNames s1; refine Touches.cut (x := s1) ?_ ?_; (on_goal 1 => subst s1); (on_goal 2 => (intro h1; clear_value s1)))
    | (extract_lets +onlyGivenNames v1; clear_value v1)
    | (with_reducible apply Touches.seq (State.bramSweepRead_touches ..))
    | (with_reducible apply Touches.seq (State.bramSweepWrite_touches ..))
    | (with_reducible refine Touches.seq (State.setLgc_touches ?_) ?_ ?_)
    | (with_reducible apply Touches.each)
    | (with_reducible apply Touches.iff)
    | (intro x; intros; try beta_reduce)

theorem State.deepPassEnd_touches (s : State) (b : Nat) : Touches 1073750290 s (s.deepPassEnd b) := by
  unfold State.deepPassEnd
  repeat' first
    | exact rfl
    | with_reducible assumption
    | with_reducible exact Touches.refl _ _
    | (intro l; refine LogicState.wf_of ?_ ?_ ?_ ?_ ?_ ?_ ?_ ?_ ?_ ?_ ?_ <;> first | with_reducible exact id | with_reducible exact cellWrite_wf _ _ _ | with_reducible exact cellErase_wf _ _ | with_reducible exact filter_wf _ _ | with_reducible exact cellWriteAll_wf _ _ _ _ | exact fun h => cellWrite_wf _ _ _ (cellWrite_wf _ _ _ h) | (split <;> with_reducible exact id) | exact fun _ => rfl)
    | (extract_lets +onlyGivenNames s1; refine Touches.cut (x := s1) ?_ ?_; (on_goal 1 => subst s1); (on_goal 2 => (intro h1; clear_value s1)))
    | (extract_lets +onlyGivenNames v1; clear_value v1)
    | (with_reducible apply Touches.seq (State.drawn_touches ..))
    | (with_reducible apply Touches.seq (State.readReport_touches ..))
    | (with_reducible apply Touches.seq (State.deepStore_touches ..))
    | (with_reducible refine Touches.seq (State.setLgc_touches ?_) ?_ ?_)
    | (with_reducible apply Touches.each)
    | (with_reducible apply Touches.iff)
    | (intro x; intros; try beta_reduce)

theorem State.sweepEnd_touches (s : State) (deep : Bool) (r us : Nat) : Touches 1073750290 s (s.sweepEnd deep r us) := by
  unfold State.sweepEnd
  repeat' first
    | exact rfl
    | with_reducible assumption
    | with_reducible exact Touches.refl _ _
    | (extract_lets +onlyGivenNames s1; refine Touches.cut (x := s1) ?_ ?_; (on_goal 1 => subst s1); (on_goal 2 => (intro h1; clear_value s1)))
    | (extract_lets +onlyGivenNames v1; clear_value v1)
    | (with_reducible apply Touches.seq (State.deepPassEnd_touches ..))
    | (with_reducible apply Touches.seq (State.bramPassEnd_touches ..))
    | (with_reducible apply Touches.seq (State.sweepTime_touches ..))
    | (with_reducible apply Touches.each)
    | (with_reducible apply Touches.ite)
    | (intro x; intros; try beta_reduce)

theorem State.putSlice_touches (s : State) (k : Nat) (st : SliceStage) (psat ovf rsat : Bool) : Touches 1073741824 s (s.putSlice k st psat ovf rsat) := by
  unfold State.putSlice
  repeat' first
    | exact rfl
    | with_reducible assumption
    | with_reducible exact Touches.refl _ _
    | (intro l; refine LogicState.wf_of ?_ ?_ ?_ ?_ ?_ ?_ ?_ ?_ ?_ ?_ ?_ <;> first | with_reducible exact id | with_reducible exact cellWrite_wf _ _ _ | with_reducible exact cellErase_wf _ _ | with_reducible exact filter_wf _ _ | with_reducible exact cellWriteAll_wf _ _ _ _ | exact fun h => cellWrite_wf _ _ _ (cellWrite_wf _ _ _ h) | (split <;> with_reducible exact id) | exact fun _ => rfl)
    | (extract_lets +onlyGivenNames v1; clear_value v1)
    | (with_reducible refine Touches.seq (State.setLgc_touches ?_) ?_ ?_)

theorem State.sliceEdge_touches (s : State) (r col row : Nat) (i : SliceIn) : Touches 1073741840 s (s.sliceEdge r col row i) := by
  unfold State.sliceEdge
  repeat' first
    | exact rfl
    | with_reducible assumption
    | with_reducible exact Touches.refl _ _
    | (extract_lets +onlyGivenNames v1; clear_value v1)
    | (with_reducible apply Touches.seq (State.drawn_touches ..))
    | (with_reducible apply Touches.seq (State.putSlice_touches ..))
    | (with_reducible apply Touches.ite)

theorem State.columnEdge_touches (s : State) (r col : Nat) (ins : List SliceIn) : Touches 1073741840 s (s.columnEdge r col ins) := by
  unfold State.columnEdge
  repeat' first
    | exact rfl
    | with_reducible assumption
    | with_reducible exact Touches.refl _ _
    | (with_reducible apply Touches.seq (State.sliceEdge_touches ..))
    | (with_reducible apply Touches.each)
    | (intro x; intros; try beta_reduce)

theorem State.logicEvent_touches (s : State) : Touches 1073752338 s s.logicEvent := by
  unfold State.logicEvent
  repeat' first
    | exact rfl
    | with_reducible assumption
    | with_reducible exact Touches.refl _ _
    | (extract_lets +onlyGivenNames s1; refine Touches.cut (x := s1) ?_ ?_; (on_goal 1 => subst s1); (on_goal 2 => (intro h1; clear_value s1)))
    | (extract_lets +onlyGivenNames v1; clear_value v1)
    | (with_reducible apply Touches.seq (State.picked_touches ..))
    | (with_reducible apply Touches.seq (State.cellEdge_touches ..))
    | (with_reducible apply Touches.seq (State.cellLevel_touches ..))
    | (with_reducible apply Touches.seq (State.flopUpset_touches ..))
    | (with_reducible apply Touches.seq (State.crossDrive_touches ..))
    | (with_reducible apply Touches.seq (State.bramCycle_touches ..))
    | (with_reducible apply Touches.seq (State.bramUpset_touches ..))
    | (with_reducible apply Touches.seq (State.sweepCycle_touches ..))
    | (with_reducible apply Touches.seq (State.deepCycle_touches ..))
    | (with_reducible apply Touches.seq (State.deepUpset_touches ..))
    | (with_reducible apply Touches.seq (State.frameUpset_touches ..))
    | (with_reducible apply Touches.seq (State.columnEdge_touches ..))
    | (with_reducible apply Touches.seq (State.chainEdge_touches ..))
    | (with_reducible apply Touches.iff)
    | (with_reducible apply Touches.ite)
    | (intro x; intros; try beta_reduce)
    | split

theorem State.logicRun_touches (s : State) (n : Nat) : Touches 1073752338 s (s.logicRun n) := by
  induction n generalizing s with
  | zero => exact Touches.refl _ _
  | succ n ih =>
    unfold State.logicRun
    repeat' first
      | exact rfl
      | with_reducible assumption
      | with_reducible exact Touches.refl _ _
      | (with_reducible apply Touches.seq (State.logicEvent_touches ..))
      | (with_reducible apply Touches.seq (ih ..))

end Sys2Proof.Machine
end

