-- ==== Sys2Proof/Laws/TouchStr.lean ====
section
/-! SUPPORT. What each operation of Machine/Str.lean can change: one lemma per operation, its set of parts as in Laws/Parts.lean. -/
namespace Sys2Proof.Machine

theorem State.putStrm_touches (s : State) (p : Nat) (v : StreamPort) : Touches 536870912 s (s.putStrm p v) := by
  unfold State.putStrm
  repeat' first
    | exact rfl
    | with_reducible assumption
    | with_reducible exact Touches.refl _ _
    | (with_reducible apply Touches.upd_str)

theorem State.streamOut_touches (s : State) (p : Nat) (ready : Bool) : Touches 536870913 s (s.streamOut p ready) := by
  unfold State.streamOut
  repeat' first
    | exact rfl
    | with_reducible assumption
    | with_reducible exact Touches.refl _ _
    | (extract_lets +onlyGivenNames s1; refine Touches.cut (x := s1) ?_ ?_; (on_goal 1 => subst s1); (on_goal 2 => (intro h1; clear_value s1)))
    | (extract_lets +onlyGivenNames v1; clear_value v1)
    | (with_reducible apply Touches.seq (State.putStrm_touches ..))
    | (with_reducible apply Touches.seq (State.emit_touches ..))
    | split

theorem State.streamGrant_touches (s : State) (p free : Nat) (ready : Bool) : Touches 536870912 s (s.streamGrant p free ready) := by
  unfold State.streamGrant
  repeat' first
    | exact rfl
    | with_reducible assumption
    | with_reducible exact Touches.refl _ _
    | (extract_lets +onlyGivenNames v1; clear_value v1)
    | (with_reducible apply Touches.seq (State.putStrm_touches ..))

theorem State.streamTake_touches (s : State) (p k : Nat) : Touches 536870912 s (s.streamTake p k) := by
  unfold State.streamTake
  repeat' first
    | exact rfl
    | with_reducible assumption
    | with_reducible exact Touches.refl _ _
    | (extract_lets +onlyGivenNames v1; clear_value v1)
    | (with_reducible apply Touches.seq (State.putStrm_touches ..))

theorem State.streamPush_touches (s : State) (p : Nat) (beats : List Beat) : Touches 536870912 s (s.streamPush p beats) := by
  unfold State.streamPush
  repeat' first
    | exact rfl
    | with_reducible assumption
    | with_reducible exact Touches.refl _ _
    | (extract_lets +onlyGivenNames v1; clear_value v1)
    | (with_reducible apply Touches.seq (State.putStrm_touches ..))

theorem State.streamsZero_touches (s : State) (among : Nat → Bool) : Touches 536870912 s (s.streamsZero among) := by
  unfold State.streamsZero
  repeat' first
    | exact rfl
    | with_reducible assumption
    | with_reducible exact Touches.refl _ _
    | (with_reducible apply Touches.seq (State.putStrm_touches ..))
    | (with_reducible apply Touches.each)
    | (with_reducible apply Touches.iff)
    | (intro x; intros; try beta_reduce)

theorem State.streamsEmpty_touches (s : State) : Touches 536870912 s s.streamsEmpty := by
  unfold State.streamsEmpty
  repeat' first
    | exact rfl
    | with_reducible assumption
    | with_reducible exact Touches.refl _ _
    | (with_reducible apply Touches.upd_str)

end Sys2Proof.Machine
end

