-- ==== Sys2Proof/Laws/TouchWch.lean ====
section
/-! SUPPORT. What each operation of Machine/Wch.lean can change: one lemma per operation, its set of parts as in Laws/Parts.lean. -/
namespace Sys2Proof.Machine

theorem State.watchTick_touches (s : State) : Touches 128 s s.watchTick := by
  unfold State.watchTick
  repeat' first
    | exact rfl
    | with_reducible assumption
    | with_reducible exact Touches.refl _ _
    | (extract_lets +onlyGivenNames v1; clear_value v1)
    | (with_reducible apply Touches.upd_wch)

theorem State.timerTick_touches (s : State) : Touches 130 s s.timerTick := by
  unfold State.timerTick
  repeat' first
    | exact rfl
    | with_reducible assumption
    | with_reducible exact Touches.refl _ _
    | (extract_lets +onlyGivenNames s1; refine Touches.cut (x := s1) ?_ ?_; (on_goal 1 => subst s1); (on_goal 2 => (intro h1; clear_value s1)))
    | (extract_lets +onlyGivenNames v1; clear_value v1)
    | (with_reducible apply Touches.seq (State.put_touches ..))
    | (with_reducible apply Touches.upd_wch)
    | (with_reducible apply Touches.iff)
    | (with_reducible apply Touches.ite)
    | (intro x; intros; try beta_reduce)

theorem State.putEntry_touches (s : State) (i : Nat) (e : LogItem) (pinned : Bool) : Touches 2 s (s.putEntry i e pinned) := by
  unfold State.putEntry
  repeat' first
    | exact rfl
    | with_reducible assumption
    | with_reducible exact Touches.refl _ _
    | exact cellWriteAll_wf _ _ _ _
    | (with_reducible apply Touches.upd_regs)

theorem State.pinEntry_touches (s : State) (e : LogItem) : Touches 130 s (s.pinEntry e) := by
  unfold State.pinEntry
  repeat' first
    | exact rfl
    | with_reducible assumption
    | with_reducible exact Touches.refl _ _
    | (extract_lets +onlyGivenNames s1; refine Touches.cut (x := s1) ?_ ?_; (on_goal 1 => subst s1); (on_goal 2 => (intro h1; clear_value s1)))
    | (extract_lets +onlyGivenNames v1; clear_value v1)
    | (with_reducible apply Touches.seq (State.putEntry_touches ..))
    | (with_reducible apply Touches.seq (State.put_touches ..))
    | (with_reducible apply Touches.seq (State.satInc_touches ..))
    | (with_reducible apply Touches.upd_wch)
    | (with_reducible apply Touches.ite)

theorem State.writeEntry_touches (s : State) (e : LogItem) : Touches 130 s (s.writeEntry e) := by
  unfold State.writeEntry
  repeat' first
    | exact rfl
    | with_reducible assumption
    | with_reducible exact Touches.refl _ _
    | (extract_lets +onlyGivenNames s1; refine Touches.cut (x := s1) ?_ ?_; (on_goal 1 => subst s1); (on_goal 2 => (intro h1; clear_value s1)))
    | (extract_lets +onlyGivenNames v1; clear_value v1)
    | (with_reducible apply Touches.seq (State.putEntry_touches ..))
    | (with_reducible apply Touches.seq (State.pinEntry_touches ..))
    | (with_reducible apply Touches.seq (State.put_touches ..))
    | (with_reducible apply Touches.seq (State.modInc_touches ..))

theorem State.logWrite_touches (s : State) : Touches 386 s s.logWrite := by
  unfold State.logWrite
  repeat' first
    | exact rfl
    | with_reducible assumption
    | with_reducible exact Touches.refl _ _
    | (with_reducible apply Touches.seq (State.writeEntry_touches ..))
    | (with_reducible apply Touches.upd_wch)
    | (with_reducible apply Touches.upd_grd)
    | (with_reducible apply Touches.ite)
    | split

theorem State.logLose_touches (s : State) : Touches 258 s s.logLose := by
  unfold State.logLose
  repeat' first
    | exact rfl
    | with_reducible assumption
    | with_reducible exact Touches.refl _ _
    | (with_reducible apply Touches.seq (State.satAdd_touches ..))
    | (with_reducible apply Touches.upd_grd)

theorem State.clearPinned_touches (s : State) : Touches 130 s s.clearPinned := by
  unfold State.clearPinned
  repeat' first
    | exact rfl
    | with_reducible assumption
    | with_reducible exact Touches.refl _ _
    | exact cellWriteAll_wf _ _ _ _
    | exact clearRange_wf _ _ _
    | exact fun h => clearRange_wf _ _ _ (clearRange_wf _ _ _ h)
    | (extract_lets +onlyGivenNames s1; refine Touches.cut (x := s1) ?_ ?_; (on_goal 1 => subst s1); (on_goal 2 => (intro h1; clear_value s1)))
    | (extract_lets +onlyGivenNames v1; clear_value v1)
    | (with_reducible apply Touches.seq (State.put_touches ..))
    | (with_reducible apply Touches.upd_regs)
    | (with_reducible apply Touches.upd_wch)

theorem State.clearLog_touches (s : State) : Touches 130 s s.clearLog := by
  unfold State.clearLog
  repeat' first
    | exact rfl
    | with_reducible assumption
    | with_reducible exact Touches.refl _ _
    | exact cellWriteAll_wf _ _ _ _
    | exact clearRange_wf _ _ _
    | (extract_lets +onlyGivenNames s1; refine Touches.cut (x := s1) ?_ ?_; (on_goal 1 => subst s1); (on_goal 2 => (intro h1; clear_value s1)))
    | (extract_lets +onlyGivenNames v1; clear_value v1)
    | (with_reducible apply Touches.seq (State.clearPinned_touches ..))
    | (with_reducible apply Touches.seq (State.put_touches ..))
    | (with_reducible apply Touches.upd_regs)

theorem State.logScan_touches (s : State) : Touches 258 s s.logScan := by
  unfold State.logScan
  repeat' first
    | exact rfl
    | with_reducible assumption
    | with_reducible exact Touches.refl _ _
    | (extract_lets +onlyGivenNames v1; clear_value v1)
    | (with_reducible apply Touches.seq (State.report_touches ..))
    | (with_reducible apply Touches.each)
    | (with_reducible apply Touches.iff)
    | (intro x; intros; try beta_reduce)

theorem State.setWatch_touches (s : State) (sec ns : Nat) : Touches 128 s (s.setWatch sec ns) := by
  unfold State.setWatch
  repeat' first
    | exact rfl
    | with_reducible assumption
    | with_reducible exact Touches.refl _ _
    | (with_reducible apply Touches.upd_wch)

theorem State.watchTimeSet_touches (s : State) : Touches 130 s s.watchTimeSet := by
  unfold State.watchTimeSet
  repeat' first
    | exact rfl
    | with_reducible assumption
    | with_reducible exact Touches.refl _ _
    | (extract_lets +onlyGivenNames s1; refine Touches.cut (x := s1) ?_ ?_; (on_goal 1 => subst s1); (on_goal 2 => (intro h1; clear_value s1)))
    | (extract_lets +onlyGivenNames v1; clear_value v1)
    | (with_reducible apply Touches.seq (State.setWatch_touches ..))
    | (with_reducible apply Touches.seq (State.set_touches ..))
    | (with_reducible apply Touches.seq (State.watchLog_touches ..))
    | (with_reducible apply Touches.upd_wch)
    | (with_reducible apply Touches.ite)

theorem State.watchSecond_touches (s : State) (devSec : Nat) : Touches 386 s (s.watchSecond devSec) := by
  unfold State.watchSecond
  repeat' first
    | exact rfl
    | with_reducible assumption
    | with_reducible exact Touches.refl _ _
    | (extract_lets +onlyGivenNames f1; refine Touches.cutF (f := f1) ?_ ?_; (on_goal 1 => subst f1); (on_goal 2 => (intro h1; clear_value f1)))
    | (with_reducible refine Touches.bindF (by assumption) ?_)
    | (extract_lets +onlyGivenNames s1; refine Touches.cut (x := s1) ?_ ?_; (on_goal 1 => subst s1); (on_goal 2 => (intro h1; clear_value s1)))
    | (extract_lets +onlyGivenNames v1; clear_value v1)
    | (with_reducible apply Touches.seq (State.set_touches ..))
    | (with_reducible apply Touches.seq (State.watchLog_touches ..))
    | (with_reducible apply Touches.seq (State.watchReport_touches ..))
    | (with_reducible apply Touches.seq (State.clr_touches ..))
    | (with_reducible apply Touches.upd_wch)
    | (with_reducible apply Touches.ite)
    | (intro x; intros; try beta_reduce)

theorem State.watchAlign_touches (s : State) (sec ns : Nat) : Touches 146 s (s.watchAlign sec ns) := by
  unfold State.watchAlign
  repeat' first
    | exact rfl
    | with_reducible assumption
    | with_reducible exact Touches.refl _ _
    | (extract_lets +onlyGivenNames s1; refine Touches.cut (x := s1) ?_ ?_; (on_goal 1 => subst s1); (on_goal 2 => (intro h1; clear_value s1)))
    | (extract_lets +onlyGivenNames v1; clear_value v1)
    | (with_reducible apply Touches.seq (State.drawn_touches ..))
    | (with_reducible apply Touches.seq (State.setWatch_touches ..))
    | (with_reducible apply Touches.seq (State.set_touches ..))
    | (with_reducible apply Touches.seq (State.put_touches ..))
    | (with_reducible apply Touches.upd_wch)
    | (with_reducible apply Touches.iff)
    | (with_reducible apply Touches.ite)
    | (intro x; intros; try beta_reduce)

theorem State.xtalStop_touches (s : State) : Touches 386 s s.xtalStop := by
  unfold State.xtalStop
  repeat' first
    | exact rfl
    | with_reducible assumption
    | with_reducible exact Touches.refl _ _
    | (extract_lets +onlyGivenNames s1; refine Touches.cut (x := s1) ?_ ?_; (on_goal 1 => subst s1); (on_goal 2 => (intro h1; clear_value s1)))
    | (extract_lets +onlyGivenNames v1; clear_value v1)
    | (with_reducible apply Touches.seq (State.clr_touches ..))
    | (with_reducible apply Touches.seq (State.set_touches ..))
    | (with_reducible apply Touches.seq (State.watchLog_touches ..))
    | (with_reducible apply Touches.seq (State.watchReport_touches ..))
    | (with_reducible apply Touches.upd_wch)
    | (with_reducible apply Touches.ite)

theorem State.xtalRestored_touches (s : State) (hold : Nat) : Touches 130 s (s.xtalRestored hold) := by
  unfold State.xtalRestored
  repeat' first
    | exact rfl
    | with_reducible assumption
    | with_reducible exact Touches.refl _ _
    | (with_reducible apply Touches.seq (State.set_touches ..))
    | (with_reducible apply Touches.seq (State.watchLog_touches ..))
    | (with_reducible apply Touches.seq (State.clr_touches ..))
    | (with_reducible apply Touches.ite)

theorem State.wakeCause_touches (s : State) (i : Nat) : Touches 64 s (s.wakeCause i) := by
  unfold State.wakeCause
  repeat' first
    | exact rfl
    | with_reducible assumption
    | with_reducible exact Touches.refl _ _
    | (with_reducible apply Touches.upd_pwr)

theorem State.tamperEvent_touches (s : State) (n : Nat) : Touches 194 s (s.tamperEvent n) := by
  unfold State.tamperEvent
  repeat' first
    | exact rfl
    | with_reducible assumption
    | with_reducible exact Touches.refl _ _
    | (extract_lets +onlyGivenNames s1; refine Touches.cut (x := s1) ?_ ?_; (on_goal 1 => subst s1); (on_goal 2 => (intro h1; clear_value s1)))
    | (extract_lets +onlyGivenNames v1; clear_value v1)
    | (with_reducible apply Touches.seq (State.set_touches ..))
    | (with_reducible apply Touches.seq (State.satInc_touches ..))
    | (with_reducible apply Touches.seq (State.watchLog_touches ..))
    | (with_reducible apply Touches.seq (State.wakeCause_touches ..))
    | (with_reducible apply Touches.upd_wch)
    | (with_reducible apply Touches.iff)
    | (with_reducible apply Touches.ite)
    | (intro x; intros; try beta_reduce)

theorem State.timerExpiry_touches (s : State) : Touches 194 s s.timerExpiry := by
  unfold State.timerExpiry
  repeat' first
    | exact rfl
    | with_reducible assumption
    | with_reducible exact Touches.refl _ _
    | (extract_lets +onlyGivenNames s1; refine Touches.cut (x := s1) ?_ ?_; (on_goal 1 => subst s1); (on_goal 2 => (intro h1; clear_value s1)))
    | (extract_lets +onlyGivenNames v1; clear_value v1)
    | (with_reducible apply Touches.seq (State.clr_touches ..))
    | (with_reducible apply Touches.seq (State.set_touches ..))
    | (with_reducible apply Touches.seq (State.watchLog_touches ..))
    | (with_reducible apply Touches.seq (State.wakeCause_touches ..))
    | (with_reducible apply Touches.upd_wch)
    | (with_reducible apply Touches.iff)
    | (with_reducible apply Touches.ite)
    | (intro x; intros; try beta_reduce)

theorem State.supplySwitch_touches (s : State) (dst : Supply) (storeMv : Nat) : Touches 130 s (s.supplySwitch dst storeMv) := by
  unfold State.supplySwitch
  repeat' first
    | exact rfl
    | with_reducible assumption
    | with_reducible exact Touches.refl _ _
    | (extract_lets +onlyGivenNames s1; refine Touches.cut (x := s1) ?_ ?_; (on_goal 1 => subst s1); (on_goal 2 => (intro h1; clear_value s1)))
    | (extract_lets +onlyGivenNames v1; clear_value v1)
    | (with_reducible apply Touches.seq (State.satInc_touches ..))
    | (with_reducible apply Touches.seq (State.set_touches ..))
    | (with_reducible apply Touches.seq (State.put_touches ..))
    | (with_reducible apply Touches.seq (State.watchLog_touches ..))

theorem State.storeLowCheck_touches (s : State) (storeMv : Nat) : Touches 130 s (s.storeLowCheck storeMv) := by
  unfold State.storeLowCheck
  repeat' first
    | exact rfl
    | with_reducible assumption
    | with_reducible exact Touches.refl _ _
    | (extract_lets +onlyGivenNames s1; refine Touches.cut (x := s1) ?_ ?_; (on_goal 1 => subst s1); (on_goal 2 => (intro h1; clear_value s1)))
    | (extract_lets +onlyGivenNames v1; clear_value v1)
    | (with_reducible apply Touches.seq (State.set_touches ..))
    | (with_reducible apply Touches.seq (State.watchLog_touches ..))
    | (with_reducible apply Touches.upd_wch)
    | (with_reducible apply Touches.ite)

theorem State.supplySelect_touches (s : State) (lv : SupplyLevels) : Touches 130 s (s.supplySelect lv) := by
  unfold State.supplySelect
  repeat' first
    | exact rfl
    | with_reducible assumption
    | with_reducible exact Touches.refl _ _
    | (extract_lets +onlyGivenNames s1; refine Touches.cut (x := s1) ?_ ?_; (on_goal 1 => subst s1); (on_goal 2 => (intro h1; clear_value s1)))
    | (extract_lets +onlyGivenNames v1; clear_value v1)
    | (with_reducible apply Touches.seq (State.supplySwitch_touches ..))
    | (with_reducible apply Touches.seq (State.storeLowCheck_touches ..))
    | (with_reducible apply Touches.upd_wch)
    | (with_reducible apply Touches.iff)
    | (intro x; intros; try beta_reduce)
    | split

theorem State.hrvSample_touches (s : State) (lv : SupplyLevels) (inputMv : Nat) : Touches 130 s (s.hrvSample lv inputMv) := by
  unfold State.hrvSample
  repeat' first
    | exact rfl
    | with_reducible assumption
    | with_reducible exact Touches.refl _ _
    | (extract_lets +onlyGivenNames v1; clear_value v1)
    | (with_reducible apply Touches.seq (State.put_touches ..))
    | (with_reducible apply Touches.seq (State.supplySelect_touches ..))

theorem State.hrvTrack_touches (s : State) (voc freq : Nat) : Touches 130 s (s.hrvTrack voc freq) := by
  unfold State.hrvTrack
  repeat' first
    | exact rfl
    | with_reducible assumption
    | with_reducible exact Touches.refl _ _
    | (extract_lets +onlyGivenNames s1; refine Touches.cut (x := s1) ?_ ?_; (on_goal 1 => subst s1); (on_goal 2 => (intro h1; clear_value s1)))
    | (extract_lets +onlyGivenNames v1; clear_value v1)
    | (with_reducible apply Touches.seq (State.put_touches ..))
    | (with_reducible apply Touches.upd_wch)
    | (with_reducible apply Touches.ite)

theorem State.watchCold_touches (s : State) (src : Supply) : Touches 130 s (s.watchCold src) := by
  unfold State.watchCold
  split
  · exact Touches.refl _ _
  · exact Touches.seq (State.watchLog_touches ..) rfl (Touches.seq (State.clr_touches ..) rfl (Touches.seq (State.clr_touches ..) rfl
      (Touches.seq (State.put_touches ..) rfl (Touches.upd_wch rfl
        (Touches.upd_regs rfl (fun h => putAll_wf _ _ (filter_wf _ _ h)) (Touches.refl _ _)) _))))

end Sys2Proof.Machine
end

