-- ==== Sys2Proof/Laws/TouchCph.lean ====
section
/-! SUPPORT. What each operation of Machine/Cph.lean can change: one lemma per operation, its set of parts as in Laws/Parts.lean. -/
namespace Sys2Proof.Machine

theorem State.putSlot_touches (s : State) (k : Nat) (v : Slot) : Touches 16384 s (s.putSlot k v) := by
  unfold State.putSlot
  repeat' first
    | exact rfl
    | with_reducible assumption
    | with_reducible exact Touches.refl _ _
    | (with_reducible apply Touches.upd_cph)

theorem State.cphPost_touches (s : State) : Touches 536887296 s s.cphPost := by
  unfold State.cphPost
  repeat' first
    | exact rfl
    | with_reducible assumption
    | with_reducible exact Touches.refl _ _
    | (extract_lets +onlyGivenNames s1; refine Touches.cut (x := s1) ?_ ?_; (on_goal 1 => subst s1); (on_goal 2 => (intro h1; clear_value s1)))
    | (extract_lets +onlyGivenNames v1; clear_value v1)
    | (with_reducible apply Touches.seq (State.streamPush_touches ..))
    | (with_reducible apply Touches.upd_cph)
    | (with_reducible apply Touches.each)
    | (with_reducible apply Touches.iff)
    | (with_reducible apply Touches.ite)
    | (intro x; intros; try beta_reduce)

theorem State.cphOutcome_touches (s : State) (d : CphDone) : Touches 536887296 s (s.cphOutcome d) := by
  unfold State.cphOutcome
  repeat' first
    | exact rfl
    | with_reducible assumption
    | with_reducible exact Touches.refl _ _
    | (with_reducible apply Touches.seq (State.cphPost_touches ..))
    | (with_reducible apply Touches.upd_cph)

theorem State.cphCount_touches (s : State) (status : Nat) : Touches 2 s (s.cphCount status) := by
  unfold State.cphCount
  repeat' first
    | exact rfl
    | with_reducible assumption
    | with_reducible exact Touches.refl _ _
    | (with_reducible apply Touches.seq (State.modInc2_touches ..))
    | (with_reducible apply Touches.seq (State.satInc_touches ..))
    | (with_reducible apply Touches.seq (State.event_touches ..))
    | split

theorem State.cphRemove_touches (s : State) (r : CphReq) : Touches 16384 s (s.cphRemove r) := by
  unfold State.cphRemove
  repeat' first
    | exact rfl
    | with_reducible assumption
    | with_reducible exact Touches.refl _ _
    | (extract_lets +onlyGivenNames v1; clear_value v1)
    | (with_reducible apply Touches.upd_cph)

theorem State.cphFinish_touches (s : State) (r : CphReq) (status reason : Nat) (ran : Bool) : Touches 536887299 s (s.cphFinish r status reason ran) := by
  unfold State.cphFinish
  repeat' first
    | exact rfl
    | with_reducible assumption
    | with_reducible exact Touches.refl _ _
    | (extract_lets +onlyGivenNames s1; refine Touches.cut (x := s1) ?_ ?_; (on_goal 1 => subst s1); (on_goal 2 => (intro h1; clear_value s1)))
    | (extract_lets +onlyGivenNames v1; clear_value v1)
    | (with_reducible apply Touches.seq (State.cphRemove_touches ..))
    | (with_reducible apply Touches.seq (State.cphCount_touches ..))
    | (with_reducible apply Touches.seq (State.clr_touches ..))
    | (with_reducible apply Touches.seq (State.set_touches ..))
    | (with_reducible apply Touches.seq (State.put_touches ..))
    | (with_reducible apply Touches.seq (State.emit_touches ..))
    | (with_reducible apply Touches.seq (State.cphOutcome_touches ..))
    | (with_reducible apply Touches.iff)
    | (with_reducible apply Touches.ite)
    | (intro x; intros; try beta_reduce)

theorem State.cphWrite_touches (s : State) (r : CphReq) (dst tag iv : List Byte) : Touches 1073750019 s (s.cphWrite r dst tag iv) := by
  unfold State.cphWrite
  repeat' first
    | exact rfl
    | with_reducible assumption
    | with_reducible exact Touches.refl _ _
    | (extract_lets +onlyGivenNames s1; refine Touches.cut (x := s1) ?_ ?_; (on_goal 1 => subst s1); (on_goal 2 => (intro h1; clear_value s1)))
    | (extract_lets +onlyGivenNames v1; clear_value v1)
    | (with_reducible apply Touches.seq (State.emit_touches ..))
    | (with_reducible apply Touches.seq (State.putRegBytes_touches ..))
    | (with_reducible apply Touches.seq (State.putDeep_touches ..))
    | (with_reducible apply Touches.iff)
    | (with_reducible apply Touches.ite)
    | (intro x; intros; try beta_reduce)

theorem State.cphZeroDst_touches (s : State) (r : CphReq) (mode : Nat) (whole : Bool) : Touches 1073750034 s (s.cphZeroDst r mode whole) := by
  unfold State.cphZeroDst
  repeat' first
    | exact rfl
    | with_reducible assumption
    | with_reducible exact Touches.refl _ _
    | (extract_lets +onlyGivenNames s1; refine Touches.cut (x := s1) ?_ ?_; (on_goal 1 => subst s1); (on_goal 2 => (intro h1; clear_value s1)))
    | (extract_lets +onlyGivenNames v1; clear_value v1)
    | (with_reducible apply Touches.seq (State.drawn_touches ..))
    | (with_reducible apply Touches.seq (State.putRegBytes_touches ..))
    | (with_reducible apply Touches.seq (State.putDeep_touches ..))
    | (with_reducible apply Touches.iff)
    | (with_reducible apply Touches.ite)
    | (intro x; intros; try beta_reduce)

theorem State.readBuffers_touches (s : State) (bs : List (Nat × Nat)) (dbe : Bool) : Touches 1073742098 s (s.readBuffers bs dbe) := by
  unfold State.readBuffers
  repeat' first
    | exact rfl
    | with_reducible assumption
    | with_reducible exact Touches.refl _ _
    | (with_reducible apply Touches.seq (State.deepReads_touches ..))
    | (with_reducible apply Touches.each)
    | (intro x; intros; try beta_reduce)

theorem State.cphComplete_touches (s : State) (d : Nat) (mismatch bufferDbe : Bool) : Touches 1610637587 s (s.cphComplete d mismatch bufferDbe) := by
  unfold State.cphComplete
  repeat' first
    | exact rfl
    | with_reducible assumption
    | with_reducible exact Touches.refl _ _
    | (extract_lets +onlyGivenNames s1; refine Touches.cut (x := s1) ?_ ?_; (on_goal 1 => subst s1); (on_goal 2 => (intro h1; clear_value s1)))
    | (extract_lets +onlyGivenNames v1; clear_value v1)
    | (with_reducible apply Touches.seq (State.readBuffers_touches ..))
    | (with_reducible apply Touches.seq (State.cphZeroDst_touches ..))
    | (with_reducible apply Touches.seq (State.cphFinish_touches ..))
    | (with_reducible apply Touches.seq (State.report_touches ..))
    | (with_reducible apply Touches.seq (State.cphWrite_touches ..))
    | (with_reducible apply Touches.ite)
    | split

theorem State.cphReplace_touches (s : State) (r : CphReq) : Touches 16384 s (s.cphReplace r) := by
  unfold State.cphReplace
  repeat' first
    | exact rfl
    | with_reducible assumption
    | with_reducible exact Touches.refl _ _
    | (extract_lets +onlyGivenNames v1; clear_value v1)
    | (with_reducible apply Touches.upd_cph)

theorem State.cphStartReq_touches (s : State) (r : CphReq) : Touches 536887299 s (s.cphStartReq r) := by
  unfold State.cphStartReq
  repeat' first
    | exact rfl
    | with_reducible assumption
    | with_reducible exact Touches.refl _ _
    | (extract_lets +onlyGivenNames s1; refine Touches.cut (x := s1) ?_ ?_; (on_goal 1 => subst s1); (on_goal 2 => (intro h1; clear_value s1)))
    | (extract_lets +onlyGivenNames v1; clear_value v1)
    | (with_reducible apply Touches.seq (State.cphFinish_touches ..))
    | (with_reducible apply Touches.seq (State.putSlot_touches ..))
    | (with_reducible apply Touches.seq (State.cphReplace_touches ..))
    | (with_reducible apply Touches.iff)
    | (with_reducible apply Touches.ite)
    | (intro x; intros; try beta_reduce)
    | split

theorem State.cphStart_touches (s : State) : Touches 536887299 s s.cphStart := by
  unfold State.cphStart
  repeat' first
    | exact rfl
    | with_reducible assumption
    | with_reducible exact Touches.refl _ _
    | (extract_lets +onlyGivenNames v1; clear_value v1)
    | (with_reducible apply Touches.seq (State.cphStartReq_touches ..))
    | (with_reducible apply Touches.ite)
    | split

theorem State.directGo_touches (s : State) (r : CphReq) : Touches 536887299 s (s.directGo r) := by
  unfold State.directGo
  repeat' first
    | exact rfl
    | with_reducible assumption
    | with_reducible exact Touches.refl _ _
    | (extract_lets +onlyGivenNames s1; refine Touches.cut (x := s1) ?_ ?_; (on_goal 1 => subst s1); (on_goal 2 => (intro h1; clear_value s1)))
    | (extract_lets +onlyGivenNames v1; clear_value v1)
    | (with_reducible apply Touches.seq (State.set_touches ..))
    | (with_reducible apply Touches.seq (State.cphFinish_touches ..))
    | (with_reducible apply Touches.upd_cph)
    | (with_reducible apply Touches.ite)
    | split

theorem State.cphCancel_touches (s : State) (r : CphReq) : Touches 536887299 s (s.cphCancel r) := by
  unfold State.cphCancel
  repeat' first
    | exact rfl
    | with_reducible assumption
    | with_reducible exact Touches.refl _ _
    | (with_reducible apply Touches.seq (State.cphFinish_touches ..))
    | (with_reducible apply Touches.seq (State.cphReplace_touches ..))
    | (with_reducible apply Touches.ite)

theorem State.dCancel_touches (s : State) (p : Nat) : Touches 536887299 s (s.dCancel p) := by
  unfold State.dCancel
  repeat' first
    | exact rfl
    | with_reducible assumption
    | with_reducible exact Touches.refl _ _
    | (with_reducible apply Touches.seq (State.cphCancel_touches ..))
    | split

theorem State.directCmd_touches (s : State) (r : CphReq) (w : Word) : Touches 536887299 s (s.directCmd r w) := by
  unfold State.directCmd
  repeat' first
    | exact rfl
    | with_reducible assumption
    | with_reducible exact Touches.refl _ _
    | (extract_lets +onlyGivenNames v1; clear_value v1)
    | (with_reducible apply Touches.seq (State.cphFinish_touches ..))
    | (with_reducible apply Touches.seq (State.directGo_touches ..))
    | (with_reducible apply Touches.seq (State.dCancel_touches ..))
    | (with_reducible apply Touches.iff)
    | (with_reducible apply Touches.ite)
    | (intro x; intros; try beta_reduce)

theorem State.dCmd_touches (s : State) (p : Nat) (w : Word) : Touches 536887299 s (s.dCmd p w) := by
  unfold State.dCmd
  repeat' first
    | exact rfl
    | with_reducible assumption
    | with_reducible exact Touches.refl _ _
    | (with_reducible apply Touches.seq (State.directCmd_touches ..))

theorem State.pageCmd_touches (s : State) (p : Nat) (w : Word) (x : PageBeats) : Touches 536887299 s (s.pageCmd p w x) := by
  unfold State.pageCmd
  repeat' first
    | exact rfl
    | with_reducible assumption
    | with_reducible exact Touches.refl _ _
    | (with_reducible apply Touches.seq (State.directCmd_touches ..))
    | (with_reducible apply Touches.iff)
    | (intro x; intros; try beta_reduce)

theorem State.qSubmit_touches (s : State) (r : CphReq) : Touches 536887298 s (s.qSubmit r) := by
  unfold State.qSubmit
  repeat' first
    | exact rfl
    | with_reducible assumption
    | with_reducible exact Touches.refl _ _
    | (extract_lets +onlyGivenNames f1; refine Touches.cutH (f := f1) ?_ ?_; (on_goal 1 => subst f1); (on_goal 2 => (intro h1; clear_value f1)))
    | (with_reducible refine Touches.bindH (by assumption) ?_)
    | (extract_lets +onlyGivenNames s1; refine Touches.cut (x := s1) ?_ ?_; (on_goal 1 => subst s1); (on_goal 2 => (intro h1; clear_value s1)))
    | (extract_lets +onlyGivenNames v1; clear_value v1)
    | (with_reducible apply Touches.seq (State.put_touches ..))
    | (with_reducible apply Touches.seq (State.cphCount_touches ..))
    | (with_reducible apply Touches.seq (State.cphOutcome_touches ..))
    | (with_reducible apply Touches.upd_cph)
    | (with_reducible apply Touches.ite)
    | (intro x; intros; try beta_reduce)
    | split

theorem State.qCancel_touches (s : State) (p tag : Nat) : Touches 536887299 s (s.qCancel p tag) := by
  unfold State.qCancel
  repeat' first
    | exact rfl
    | with_reducible assumption
    | with_reducible exact Touches.refl _ _
    | (with_reducible apply Touches.seq (State.cphCancel_touches ..))
    | split

theorem State.queueCmd_touches (s : State) (r : CphReq) (submit cancel : Bool) (tag : Nat) : Touches 536887299 s (s.queueCmd r submit cancel tag) := by
  unfold State.queueCmd
  repeat' first
    | exact rfl
    | with_reducible assumption
    | with_reducible exact Touches.refl _ _
    | (with_reducible apply Touches.seq (State.cphCount_touches ..))
    | (with_reducible apply Touches.seq (State.put_touches ..))
    | (with_reducible apply Touches.seq (State.cphOutcome_touches ..))
    | (with_reducible apply Touches.seq (State.qSubmit_touches ..))
    | (with_reducible apply Touches.seq (State.qCancel_touches ..))
    | (with_reducible apply Touches.iff)
    | (with_reducible apply Touches.ite)
    | (intro x; intros; try beta_reduce)

theorem State.qCmd_touches (s : State) (p : Nat) (w : Word) : Touches 536887299 s (s.qCmd p w) := by
  unfold State.qCmd
  repeat' first
    | exact rfl
    | with_reducible assumption
    | with_reducible exact Touches.refl _ _
    | (with_reducible apply Touches.seq (State.queueCmd_touches ..))

theorem State.qStream_touches (s : State) (p : Nat) (ws : List Word) (cancel : Option Byte) : Touches 536887299 s (s.qStream p ws cancel) := by
  unfold State.qStream
  repeat' first
    | exact rfl
    | with_reducible assumption
    | with_reducible exact Touches.refl _ _
    | (with_reducible apply Touches.seq (State.streamTake_touches ..))
    | (with_reducible apply Touches.seq (State.queueCmd_touches ..))
    | (with_reducible apply Touches.iff)
    | (intro x; intros; try beta_reduce)

theorem State.qStreamCancel_touches (s : State) (p tag : Nat) : Touches 536887299 s (s.qStreamCancel p tag) := by
  unfold State.qStreamCancel
  repeat' first
    | exact rfl
    | with_reducible assumption
    | with_reducible exact Touches.refl _ _
    | (with_reducible apply Touches.seq (State.qCancel_touches ..))
    | (with_reducible apply Touches.iff)
    | (intro x; intros; try beta_reduce)

theorem State.qPop_touches (s : State) (p : Nat) : Touches 536887296 s (s.qPop p).2 := by
  unfold State.qPop
  repeat' first
    | exact rfl
    | with_reducible assumption
    | with_reducible exact Touches.refl _ _
    | (with_reducible apply Touches.seq (State.cphPost_touches ..))
    | (with_reducible apply Touches.upd_cph)
    | split

theorem State.qPop_of {q : Nat} {t : State} {s : State} {p : Nat} (h : s.qPop p = (q, t)) : Touches 536887296 s t := by
  have := State.qPop_touches s p
  rwa [h] at this

theorem State.cphDropWaiting_touches (s : State) (k status : Nat) : Touches 536887299 s (s.cphDropWaiting k status) := by
  unfold State.cphDropWaiting
  repeat' first
    | exact rfl
    | with_reducible assumption
    | with_reducible exact Touches.refl _ _
    | (with_reducible apply Touches.seq (State.cphFinish_touches ..))
    | (with_reducible apply Touches.each)
    | (intro x; intros; try beta_reduce)

theorem State.shadowEffect_touches (s : State) (k : Nat) : Touches 16386 s (s.shadowEffect k) := by
  unfold State.shadowEffect
  repeat' first
    | exact rfl
    | with_reducible assumption
    | with_reducible exact Touches.refl _ _
    | (extract_lets +onlyGivenNames v1; clear_value v1)
    | (with_reducible apply Touches.seq (State.putSlot_touches ..))
    | (with_reducible apply Touches.seq (State.event_touches ..))
    | (with_reducible apply Touches.ite)
    | split

theorem State.slotRewrite_touches (s : State) (k : Nat) (n : ShadowKey) : Touches 536887299 s (s.slotRewrite k n) := by
  unfold State.slotRewrite
  repeat' first
    | exact rfl
    | with_reducible assumption
    | with_reducible exact Touches.refl _ _
    | (extract_lets +onlyGivenNames v1; clear_value v1)
    | (with_reducible apply Touches.seq (State.cphDropWaiting_touches ..))
    | (with_reducible apply Touches.seq (State.putSlot_touches ..))
    | (with_reducible apply Touches.ite)

theorem State.slotErase_touches (s : State) (k : Nat) : Touches 1610637331 s (s.slotErase k) := by
  unfold State.slotErase
  repeat' first
    | exact rfl
    | with_reducible assumption
    | with_reducible exact Touches.refl _ _
    | (extract_lets +onlyGivenNames s1; refine Touches.cut (x := s1) ?_ ?_; (on_goal 1 => subst s1); (on_goal 2 => (intro h1; clear_value s1)))
    | (extract_lets +onlyGivenNames v1; clear_value v1)
    | (with_reducible apply Touches.seq (State.cphZeroDst_touches ..))
    | (with_reducible apply Touches.seq (State.cphFinish_touches ..))
    | (with_reducible apply Touches.seq (State.cphDropWaiting_touches ..))
    | (with_reducible apply Touches.seq (State.putSlot_touches ..))
    | (with_reducible apply Touches.each)
    | (intro x; intros; try beta_reduce)

theorem State.kResult_touches (s : State) (p r : Nat) : Touches 2 s (s.kResult p r) := by
  unfold State.kResult
  repeat' first
    | exact rfl
    | with_reducible assumption
    | with_reducible exact Touches.refl _ _
    | (with_reducible apply Touches.seq (State.put_touches ..))
    | (with_reducible apply Touches.seq (State.putRegBytes_touches ..))

theorem State.kCmd_touches (s : State) (p : Nat) (w : Word) : Touches 1610637331 s (s.kCmd p w) := by
  unfold State.kCmd
  repeat' first
    | exact rfl
    | with_reducible assumption
    | with_reducible exact Touches.refl _ _
    | (extract_lets +onlyGivenNames f1; refine Touches.cutG (f := f1) ?_ ?_; (on_goal 1 => subst f1); (on_goal 2 => (intro h1; clear_value f1)))
    | (with_reducible refine Touches.bindG (by assumption) ?_)
    | (extract_lets +onlyGivenNames s1; refine Touches.cut (x := s1) ?_ ?_; (on_goal 1 => subst s1); (on_goal 2 => (intro h1; clear_value s1)))
    | (extract_lets +onlyGivenNames v1; clear_value v1)
    | (with_reducible apply Touches.seq (State.slotRewrite_touches ..))
    | (with_reducible apply Touches.seq (State.kResult_touches ..))
    | (with_reducible apply Touches.seq (State.drawnBytes_touches ..))
    | (with_reducible apply Touches.seq (State.slotErase_touches ..))
    | (with_reducible apply Touches.ite)
    | (intro x; intros; try beta_reduce)
    | split

theorem State.cphZeroize_touches (s : State) : Touches 1610637331 s s.cphZeroize := by
  unfold State.cphZeroize
  repeat' first
    | exact rfl
    | with_reducible assumption
    | with_reducible exact Touches.refl _ _
    | exact cellWriteAll_wf _ _ _ _
    | exact clearRange_wf _ _ _
    | exact fun h => clearRange_wf _ _ _ (clearRange_wf _ _ _ h)
    | (extract_lets +onlyGivenNames s1; refine Touches.cut (x := s1) ?_ ?_; (on_goal 1 => subst s1); (on_goal 2 => (intro h1; clear_value s1)))
    | (extract_lets +onlyGivenNames v1; clear_value v1)
    | (with_reducible apply Touches.seq (State.slotErase_touches ..))
    | (with_reducible apply Touches.seq (State.event_touches ..))
    | (with_reducible apply Touches.upd_regs)
    | (with_reducible apply Touches.upd_cph)
    | (with_reducible apply Touches.each)
    | (intro x; intros; try beta_reduce)

theorem State.tamperErase_touches (s : State) : Touches 1610637459 s s.tamperErase := by
  unfold State.tamperErase
  repeat' first
    | exact rfl
    | with_reducible assumption
    | with_reducible exact Touches.refl _ _
    | (extract_lets +onlyGivenNames s1; refine Touches.cut (x := s1) ?_ ?_; (on_goal 1 => subst s1); (on_goal 2 => (intro h1; clear_value s1)))
    | (extract_lets +onlyGivenNames v1; clear_value v1)
    | (with_reducible apply Touches.seq (State.cphZeroize_touches ..))
    | (with_reducible apply Touches.seq (State.watchLog_touches ..))
    | (with_reducible apply Touches.upd_wch)
    | (with_reducible apply Touches.ite)

theorem State.rngFail_touches (s : State) (test : Nat) : Touches 16642 s (s.rngFail test) := by
  unfold State.rngFail
  repeat' first
    | exact rfl
    | with_reducible assumption
    | with_reducible exact Touches.refl _ _
    | (with_reducible apply Touches.seq (State.set_touches ..))
    | (with_reducible apply Touches.seq (State.event_touches ..))
    | (with_reducible apply Touches.seq (State.report_touches ..))
    | (with_reducible apply Touches.upd_cph)

theorem State.slotCheck_touches (s : State) (k word bad : Nat) : Touches 1610637587 s (s.slotCheck k word bad) := by
  unfold State.slotCheck
  repeat' first
    | exact rfl
    | with_reducible assumption
    | with_reducible exact Touches.refl _ _
    | (with_reducible apply Touches.seq (State.report_touches ..))
    | (with_reducible apply Touches.seq (State.slotErase_touches ..))
    | split

theorem State.drawCtr_some {s t : State} {k q : Nat} (h : s.drawCtr k = some (q, t)) : Touches 16384 s t := by
  unfold State.drawCtr at h
  extract_lets v at h
  split at h
  · exact absurd h (by simp)
  · split at h
    · exact absurd h (by simp)
    · obtain ⟨-, rfl⟩ := Prod.mk.inj (Option.some.inj h)
      exact State.putSlot_touches ..

theorem State.drawCtr_touches (s : State) (k : Nat) : Touches 16384 s (((s.drawCtr k).map Prod.snd).getD s) := by
  cases h : s.drawCtr k with
  | none => exact Touches.refl _ _
  | some q => exact State.drawCtr_some (q := q.1) h

theorem State.noteExhausted_touches (s : State) (k : Nat) : Touches 16386 s (s.noteExhausted k) := by
  unfold State.noteExhausted
  repeat' first
    | exact rfl
    | with_reducible assumption
    | with_reducible exact Touches.refl _ _
    | (extract_lets +onlyGivenNames v1; clear_value v1)
    | (with_reducible apply Touches.seq (State.putSlot_touches ..))
    | (with_reducible apply Touches.seq (State.cphCount_touches ..))
    | (with_reducible apply Touches.iff)
    | (intro x; intros; try beta_reduce)

theorem State.gcmMask_touches (s : State) (lmd : Bool) (k : Nat) (fixed : List Byte) : Touches 16387 s (s.gcmMask lmd k fixed) := by
  unfold State.gcmMask
  repeat' first
    | exact rfl
    | with_reducible assumption
    | with_reducible exact Touches.refl _ _
    | (extract_lets +onlyGivenNames v1; clear_value v1)
    | (with_reducible refine Touches.seq (State.drawCtr_some (by assumption)) ?_ ?_)
    | (with_reducible apply Touches.seq (State.emit_touches ..))
    | (with_reducible apply Touches.seq (State.noteExhausted_touches ..))
    | (with_reducible apply Touches.ite)
    | split

theorem State.helloSeed_touches (s : State) : Touches 17 s s.helloSeed := by
  unfold State.helloSeed
  repeat' first
    | exact rfl
    | with_reducible assumption
    | with_reducible exact Touches.refl _ _
    | (with_reducible apply Touches.seq (State.emit_touches ..))
    | (with_reducible apply Touches.seq (State.drawnBytes_touches ..))
    | (with_reducible apply Touches.ite)

theorem State.loginChallenge_touches (s : State) : Touches 16400 s s.loginChallenge := by
  unfold State.loginChallenge
  repeat' first
    | exact rfl
    | with_reducible assumption
    | with_reducible exact Touches.refl _ _
    | (with_reducible apply Touches.seq (State.drawnBytes_touches ..))
    | (with_reducible apply Touches.upd_cph)
    | (with_reducible apply Touches.ite)

theorem State.dropChallenge_touches (s : State) : Touches 16384 s s.dropChallenge := by
  unfold State.dropChallenge
  repeat' first
    | exact rfl
    | with_reducible assumption
    | with_reducible exact Touches.refl _ _
    | (with_reducible apply Touches.upd_cph)

theorem State.cphDrain_touches (s : State) : Touches 536887299 s s.cphDrain := by
  unfold State.cphDrain
  repeat' first
    | exact rfl
    | with_reducible assumption
    | with_reducible exact Touches.refl _ _
    | (with_reducible apply Touches.seq (State.cphFinish_touches ..))
    | (with_reducible apply Touches.each)
    | (intro x; intros; try beta_reduce)

end Sys2Proof.Machine
end

