-- ==== Sys2Proof/Laws/TouchFix.lean ====
section
/-! SUPPORT. What each operation of Machine/Fix.lean can change: one lemma per operation, its set of parts as in Laws/Parts.lean. -/
namespace Sys2Proof.Machine

theorem State.showOffset_touches (s : State) : Touches 2 s s.showOffset := by
  unfold State.showOffset
  repeat' first
    | exact rfl
    | with_reducible assumption
    | with_reducible exact Touches.refl _ _
    | (extract_lets +onlyGivenNames v1; clear_value v1)
    | (with_reducible apply Touches.seq (State.put_touches ..))

theorem State.setOfs_touches (s : State) (n : Nat) (v : Int) : Touches 4098 s (s.setOfs n v) := by
  unfold State.setOfs
  repeat' first
    | exact rfl
    | with_reducible assumption
    | with_reducible exact Touches.refl _ _
    | (with_reducible apply Touches.seq (State.showOffset_touches ..))
    | (with_reducible apply Touches.upd_fix)
    | (with_reducible apply Touches.iff)
    | (intro x; intros; try beta_reduce)

theorem State.moveOfs_touches (s : State) (d : Int) : Touches 4096 s (s.moveOfs d) := by
  unfold State.moveOfs
  repeat' first
    | exact rfl
    | with_reducible assumption
    | with_reducible exact Touches.refl _ _
    | (with_reducible apply Touches.upd_fix)

theorem State.stepOfs_touches (s : State) (d : Int) : Touches 4096 s (s.stepOfs d) := by
  unfold State.stepOfs
  repeat' first
    | exact rfl
    | with_reducible assumption
    | with_reducible exact Touches.refl _ _
    | (extract_lets +onlyGivenNames v1; clear_value v1)
    | (with_reducible apply Touches.upd_fix)

theorem State.steerCount_touches (s : State) : Touches 4096 s s.steerCount := by
  unfold State.steerCount
  repeat' first
    | exact rfl
    | with_reducible assumption
    | with_reducible exact Touches.refl _ _
    | (extract_lets +onlyGivenNames v1; clear_value v1)
    | (with_reducible apply Touches.upd_fix)

theorem State.setDevice_touches (s : State) (sec ns : Nat) : Touches 4224 s (s.setDevice sec ns) := by
  unfold State.setDevice
  repeat' first
    | exact rfl
    | with_reducible assumption
    | with_reducible exact Touches.refl _ _
    | (with_reducible apply Touches.upd_wch)
    | (with_reducible apply Touches.upd_fix)

theorem State.stepDevice_touches (s : State) (d : Int) : Touches 4224 s (s.stepDevice d) := by
  unfold State.stepDevice
  repeat' first
    | exact rfl
    | with_reducible assumption
    | with_reducible exact Touches.refl _ _
    | (extract_lets +onlyGivenNames v1; clear_value v1)
    | (with_reducible apply Touches.upd_wch)
    | (with_reducible apply Touches.upd_fix)

theorem State.setSigma_touches (s : State) (v : Int) : Touches 2 s (s.setSigma v) := by
  unfold State.setSigma
  repeat' first
    | exact rfl
    | with_reducible assumption
    | with_reducible exact Touches.refl _ _
    | (extract_lets +onlyGivenNames v1; clear_value v1)
    | (with_reducible apply Touches.seq (State.put_touches ..))
    | (with_reducible apply Touches.each)
    | (with_reducible apply Touches.iff)
    | (intro x; intros; try beta_reduce)

theorem State.enterDr_touches (s : State) : Touches 4098 s s.enterDr := by
  unfold State.enterDr
  repeat' first
    | exact rfl
    | with_reducible assumption
    | with_reducible exact Touches.refl _ _
    | (extract_lets +onlyGivenNames s1; refine Touches.cut (x := s1) ?_ ?_; (on_goal 1 => subst s1); (on_goal 2 => (intro h1; clear_value s1)))
    | (extract_lets +onlyGivenNames v1; clear_value v1)
    | (with_reducible apply Touches.seq (State.put_touches ..))
    | (with_reducible apply Touches.seq (State.setSigma_touches ..))
    | (with_reducible apply Touches.seq (State.showOffset_touches ..))
    | (with_reducible apply Touches.upd_fix)

theorem State.fixSelect_touches (s : State) (n : Nat) : Touches 4226 s (s.fixSelect n) := by
  unfold State.fixSelect
  repeat' first
    | exact rfl
    | with_reducible assumption
    | with_reducible exact Touches.refl _ _
    | (extract_lets +onlyGivenNames s1; refine Touches.cut (x := s1) ?_ ?_; (on_goal 1 => subst s1); (on_goal 2 => (intro h1; clear_value s1)))
    | (extract_lets +onlyGivenNames v1; clear_value v1)
    | (with_reducible apply Touches.seq (State.put_touches ..))
    | (with_reducible apply Touches.seq (State.satInc_touches ..))
    | (with_reducible apply Touches.seq (State.event_touches ..))
    | (with_reducible apply Touches.seq (State.clr_touches ..))
    | (with_reducible apply Touches.seq (State.set_touches ..))
    | (with_reducible apply Touches.seq (State.stepDevice_touches ..))
    | (with_reducible apply Touches.seq (State.stepOfs_touches ..))
    | (with_reducible apply Touches.seq (State.showOffset_touches ..))
    | (with_reducible apply Touches.upd_fix)
    | (with_reducible apply Touches.ite)

theorem State.fixDecide_touches (s : State) : Touches 4226 s s.fixDecide := by
  unfold State.fixDecide
  repeat' first
    | exact rfl
    | with_reducible assumption
    | with_reducible exact Touches.refl _ _
    | (extract_lets +onlyGivenNames v1; clear_value v1)
    | (with_reducible apply Touches.seq (State.enterDr_touches ..))
    | (with_reducible apply Touches.seq (State.event_touches ..))
    | (with_reducible apply Touches.seq (State.fixSelect_touches ..))
    | (with_reducible apply Touches.ite)
    | split

theorem State.sourceValid_touches (s : State) (n : Nat) : Touches 4098 s (s.sourceValid n) := by
  unfold State.sourceValid
  repeat' first
    | exact rfl
    | with_reducible assumption
    | with_reducible exact Touches.refl _ _
    | (extract_lets +onlyGivenNames s1; refine Touches.cut (x := s1) ?_ ?_; (on_goal 1 => subst s1); (on_goal 2 => (intro h1; clear_value s1)))
    | (extract_lets +onlyGivenNames v1; clear_value v1)
    | (with_reducible apply Touches.seq (State.set_touches ..))
    | (with_reducible apply Touches.seq (State.put_touches ..))
    | (with_reducible apply Touches.seq (State.satInc_touches ..))
    | (with_reducible apply Touches.seq (State.event_touches ..))
    | (with_reducible apply Touches.seq (State.setSigma_touches ..))
    | (with_reducible apply Touches.upd_fix)
    | (with_reducible apply Touches.ite)

theorem State.sourceInvalid_touches (s : State) (n : Nat) : Touches 4226 s (s.sourceInvalid n) := by
  unfold State.sourceInvalid
  repeat' first
    | exact rfl
    | with_reducible assumption
    | with_reducible exact Touches.refl _ _
    | (extract_lets +onlyGivenNames s1; refine Touches.cut (x := s1) ?_ ?_; (on_goal 1 => subst s1); (on_goal 2 => (intro h1; clear_value s1)))
    | (extract_lets +onlyGivenNames v1; clear_value v1)
    | (with_reducible apply Touches.seq (State.clr_touches ..))
    | (with_reducible apply Touches.seq (State.event_touches ..))
    | (with_reducible apply Touches.seq (State.fixSelect_touches ..))
    | (with_reducible apply Touches.seq (State.enterDr_touches ..))
    | (with_reducible apply Touches.upd_fix)
    | (with_reducible apply Touches.iff)
    | (with_reducible apply Touches.ite)
    | (intro x; intros; try beta_reduce)
    | split

theorem State.sourceQualified_touches (s : State) (n : Nat) : Touches 4226 s (s.sourceQualified n) := by
  unfold State.sourceQualified
  repeat' first
    | exact rfl
    | with_reducible assumption
    | with_reducible exact Touches.refl _ _
    | (extract_lets +onlyGivenNames s1; refine Touches.cut (x := s1) ?_ ?_; (on_goal 1 => subst s1); (on_goal 2 => (intro h1; clear_value s1)))
    | (extract_lets +onlyGivenNames v1; clear_value v1)
    | (with_reducible apply Touches.seq (State.set_touches ..))
    | (with_reducible apply Touches.seq (State.fixSelect_touches ..))
    | (with_reducible apply Touches.seq (State.fixDecide_touches ..))
    | (with_reducible apply Touches.ite)

theorem State.selectionHoldEnd_touches (s : State) : Touches 4226 s s.selectionHoldEnd := by
  unfold State.selectionHoldEnd
  repeat' first
    | exact rfl
    | with_reducible assumption
    | with_reducible exact Touches.refl _ _
    | (with_reducible apply Touches.seq (State.fixDecide_touches ..))
    | (with_reducible apply Touches.upd_fix)

theorem State.freezeTimeout_touches (s : State) : Touches 4226 s s.freezeTimeout := by
  unfold State.freezeTimeout
  repeat' first
    | exact rfl
    | with_reducible assumption
    | with_reducible exact Touches.refl _ _
    | (with_reducible apply Touches.seq (State.fixSelect_touches ..))
    | (with_reducible apply Touches.seq (State.enterDr_touches ..))
    | (with_reducible apply Touches.seq (State.event_touches ..))
    | (with_reducible apply Touches.ite)
    | split

theorem State.slewEnd_touches (s : State) : Touches 2 s s.slewEnd := by
  unfold State.slewEnd
  repeat' first
    | exact rfl
    | with_reducible assumption
    | with_reducible exact Touches.refl _ _
    | (with_reducible apply Touches.seq (State.put_touches ..))
    | (with_reducible apply Touches.ite)

theorem State.slewUpdate_touches (s : State) : Touches 4114 s s.slewUpdate := by
  unfold State.slewUpdate
  repeat' first
    | exact rfl
    | with_reducible assumption
    | with_reducible exact Touches.refl _ _
    | (extract_lets +onlyGivenNames s1; refine Touches.cut (x := s1) ?_ ?_; (on_goal 1 => subst s1); (on_goal 2 => (intro h1; clear_value s1)))
    | (extract_lets +onlyGivenNames v1; clear_value v1)
    | (with_reducible apply Touches.seq (State.drawn_touches ..))
    | (with_reducible apply Touches.seq (State.setSigma_touches ..))
    | (with_reducible apply Touches.seq (State.moveOfs_touches ..))
    | (with_reducible apply Touches.seq (State.showOffset_touches ..))

theorem State.steerUpdate_touches (s : State) : Touches 4114 s s.steerUpdate := by
  unfold State.steerUpdate
  repeat' first
    | exact rfl
    | with_reducible assumption
    | with_reducible exact Touches.refl _ _
    | (extract_lets +onlyGivenNames s1; refine Touches.cut (x := s1) ?_ ?_; (on_goal 1 => subst s1); (on_goal 2 => (intro h1; clear_value s1)))
    | (extract_lets +onlyGivenNames v1; clear_value v1)
    | (with_reducible apply Touches.seq (State.steerCount_touches ..))
    | (with_reducible apply Touches.seq (State.put_touches ..))
    | (with_reducible apply Touches.seq (State.slewUpdate_touches ..))
    | (with_reducible apply Touches.seq (State.drawn_touches ..))
    | (with_reducible apply Touches.seq (State.setSigma_touches ..))
    | (with_reducible apply Touches.upd_fix)
    | (with_reducible apply Touches.ite)

theorem State.fixMeasure_touches (s : State) (n : Nat) (v : Int) : Touches 4226 s (s.fixMeasure n v) := by
  unfold State.fixMeasure
  repeat' first
    | exact rfl
    | with_reducible assumption
    | with_reducible exact Touches.refl _ _
    | (extract_lets +onlyGivenNames s1; refine Touches.cut (x := s1) ?_ ?_; (on_goal 1 => subst s1); (on_goal 2 => (intro h1; clear_value s1)))
    | (extract_lets +onlyGivenNames v1; clear_value v1)
    | (with_reducible apply Touches.seq (State.setOfs_touches ..))
    | (with_reducible apply Touches.seq (State.sourceInvalid_touches ..))
    | (with_reducible apply Touches.upd_fix)
    | (with_reducible apply Touches.ite)

theorem State.ptpCmd_touches (s : State) (submit withdraw : Bool) : Touches 4226 s (s.ptpCmd submit withdraw) := by
  unfold State.ptpCmd
  repeat' first
    | exact rfl
    | with_reducible assumption
    | with_reducible exact Touches.refl _ _
    | (extract_lets +onlyGivenNames s1; refine Touches.cut (x := s1) ?_ ?_; (on_goal 1 => subst s1); (on_goal 2 => (intro h1; clear_value s1)))
    | (extract_lets +onlyGivenNames v1; clear_value v1)
    | (with_reducible apply Touches.seq (State.fixMeasure_touches ..))
    | (with_reducible apply Touches.seq (State.sourceInvalid_touches ..))
    | (with_reducible apply Touches.iff)
    | (intro x; intros; try beta_reduce)

theorem State.ppsInEdge_touches (s : State) (edgeNs : Int) (rising : Bool) (cycles : Nat) : Touches 4226 s (s.ppsInEdge edgeNs rising cycles) := by
  unfold State.ppsInEdge
  repeat' first
    | exact rfl
    | with_reducible assumption
    | with_reducible exact Touches.refl _ _
    | (extract_lets +onlyGivenNames s1; refine Touches.cut (x := s1) ?_ ?_; (on_goal 1 => subst s1); (on_goal 2 => (intro h1; clear_value s1)))
    | (extract_lets +onlyGivenNames v1; clear_value v1)
    | (with_reducible apply Touches.seq (State.setOfs_touches ..))
    | (with_reducible apply Touches.seq (State.sourceInvalid_touches ..))
    | (with_reducible apply Touches.upd_fix)
    | (with_reducible apply Touches.iff)
    | (with_reducible apply Touches.ite)
    | (intro x; intros; try beta_reduce)

theorem State.broadcastTime_touches (s : State) (utcSec utcNs ref : Nat) : Touches 4098 s (s.broadcastTime utcSec utcNs ref) := by
  unfold State.broadcastTime
  repeat' first
    | exact rfl
    | with_reducible assumption
    | with_reducible exact Touches.refl _ _
    | (extract_lets +onlyGivenNames v1; clear_value v1)
    | (with_reducible apply Touches.seq (State.setOfs_touches ..))

theorem State.fixSet_touches (s : State) : Touches 4226 s s.fixSet := by
  unfold State.fixSet
  repeat' first
    | exact rfl
    | with_reducible assumption
    | with_reducible exact Touches.refl _ _
    | (extract_lets +onlyGivenNames s1; refine Touches.cut (x := s1) ?_ ?_; (on_goal 1 => subst s1); (on_goal 2 => (intro h1; clear_value s1)))
    | (extract_lets +onlyGivenNames v1; clear_value v1)
    | (with_reducible apply Touches.seq (State.setDevice_touches ..))
    | (with_reducible apply Touches.seq (State.stepOfs_touches ..))
    | (with_reducible apply Touches.seq (State.set_touches ..))
    | (with_reducible apply Touches.seq (State.clr_touches ..))
    | (with_reducible apply Touches.seq (State.event_touches ..))
    | (with_reducible apply Touches.seq (State.fixDecide_touches ..))
    | (with_reducible apply Touches.ite)

theorem State.seedDevice_touches (s : State) : Touches 4242 s s.seedDevice := by
  unfold State.seedDevice
  repeat' first
    | exact rfl
    | with_reducible assumption
    | with_reducible exact Touches.refl _ _
    | (extract_lets +onlyGivenNames s1; refine Touches.cut (x := s1) ?_ ?_; (on_goal 1 => subst s1); (on_goal 2 => (intro h1; clear_value s1)))
    | (extract_lets +onlyGivenNames v1; clear_value v1)
    | (with_reducible apply Touches.seq (State.drawn_touches ..))
    | (with_reducible apply Touches.seq (State.setDevice_touches ..))
    | (with_reducible apply Touches.seq (State.stepDevice_touches ..))
    | (with_reducible apply Touches.seq (State.putB_touches ..))
    | (with_reducible apply Touches.seq (State.set_touches ..))
    | (with_reducible apply Touches.seq (State.put_touches ..))
    | (with_reducible apply Touches.seq (State.setSigma_touches ..))
    | (with_reducible apply Touches.seq (State.fixDecide_touches ..))
    | (with_reducible apply Touches.upd_fix)
    | (with_reducible apply Touches.ite)

theorem State.fixCfgWritten_touches (s : State) : Touches 4226 s s.fixCfgWritten := by
  unfold State.fixCfgWritten
  repeat' first
    | exact rfl
    | with_reducible assumption
    | with_reducible exact Touches.refl _ _
    | (with_reducible apply Touches.seq (State.put_touches ..))
    | (with_reducible apply Touches.seq (State.setSigma_touches ..))
    | (with_reducible apply Touches.seq (State.enterDr_touches ..))
    | (with_reducible apply Touches.seq (State.fixDecide_touches ..))
    | (with_reducible apply Touches.iff)
    | (with_reducible apply Touches.ite)
    | (intro x; intros; try beta_reduce)

theorem State.fixStop_touches (s : State) : Touches 4098 s s.fixStop := by
  unfold State.fixStop
  repeat' first
    | exact rfl
    | with_reducible assumption
    | with_reducible exact Touches.refl _ _
    | (extract_lets +onlyGivenNames s1; refine Touches.cut (x := s1) ?_ ?_; (on_goal 1 => subst s1); (on_goal 2 => (intro h1; clear_value s1)))
    | (extract_lets +onlyGivenNames v1; clear_value v1)
    | (with_reducible apply Touches.seq (State.put_touches ..))
    | (with_reducible apply Touches.seq (State.putWord_touches ..))
    | (with_reducible apply Touches.seq (State.setSigma_touches ..))
    | (with_reducible apply Touches.upd_fix)

theorem State.fixOscLost_touches (s : State) : Touches 4098 s s.fixOscLost := by
  unfold State.fixOscLost
  repeat' first
    | exact rfl
    | with_reducible assumption
    | with_reducible exact Touches.refl _ _
    | (with_reducible apply Touches.seq (State.clr_touches ..))
    | (with_reducible apply Touches.seq (State.event_touches ..))
    | (with_reducible apply Touches.upd_fix)

theorem State.deviceAdvance_touches (s : State) (k : Nat) : Touches 4096 s (s.deviceAdvance k) := by
  unfold State.deviceAdvance
  repeat' first
    | exact rfl
    | with_reducible assumption
    | with_reducible exact Touches.refl _ _
    | (extract_lets +onlyGivenNames v1; clear_value v1)
    | (with_reducible apply Touches.upd_fix)
    | (with_reducible apply Touches.ite)

theorem State.deviceSecond_touches (s : State) : Touches 4242 s s.deviceSecond := by
  unfold State.deviceSecond
  repeat' first
    | exact rfl
    | with_reducible assumption
    | with_reducible exact Touches.refl _ _
    | (extract_lets +onlyGivenNames s1; refine Touches.cut (x := s1) ?_ ?_; (on_goal 1 => subst s1); (on_goal 2 => (intro h1; clear_value s1)))
    | (extract_lets +onlyGivenNames v1; clear_value v1)
    | (with_reducible apply Touches.seq (State.event_touches ..))
    | (with_reducible apply Touches.seq (State.satInc_touches ..))
    | (with_reducible apply Touches.seq (State.watchAlign_touches ..))
    | (with_reducible apply Touches.upd_fix)
    | (with_reducible apply Touches.iff)
    | (intro x; intros; try beta_reduce)

theorem State.toSecond_touches (s : State) : Touches 4096 s s.toSecond := by
  unfold State.toSecond
  repeat' first
    | exact rfl
    | with_reducible assumption
    | with_reducible exact Touches.refl _ _
    | (with_reducible apply Touches.upd_fix)

theorem State.deviceRun_touches (s : State) (k : Nat) : Touches 4242 s (s.deviceRun k) := by
  unfold State.deviceRun
  repeat' first
    | exact rfl
    | with_reducible assumption
    | with_reducible exact Touches.refl _ _
    | (extract_lets +onlyGivenNames s1; refine Touches.cut (x := s1) ?_ ?_; (on_goal 1 => subst s1); (on_goal 2 => (intro h1; clear_value s1)))
    | (extract_lets +onlyGivenNames v1; clear_value v1)
    | (with_reducible apply Touches.seq (State.deviceAdvance_touches ..))
    | (with_reducible apply Touches.seq (State.deviceSecond_touches ..))
    | (with_reducible apply Touches.iff)
    | (intro x; intros; try beta_reduce)

theorem State.fixSnap_touches (s : State) (m : Nat) : Touches 4096 s (s.fixSnap m) := by
  unfold State.fixSnap
  repeat' first
    | exact rfl
    | with_reducible assumption
    | with_reducible exact Touches.refl _ _
    | (extract_lets +onlyGivenNames v1; clear_value v1)
    | (with_reducible apply Touches.upd_fix)

theorem State.wchSnap_touches (s : State) (m : Nat) : Touches 128 s (s.wchSnap m) := by
  unfold State.wchSnap
  repeat' first
    | exact rfl
    | with_reducible assumption
    | with_reducible exact Touches.refl _ _
    | (extract_lets +onlyGivenNames v1; clear_value v1)
    | (with_reducible apply Touches.upd_wch)

end Sys2Proof.Machine
end

