-- ==== Sys2Proof/Laws/TouchLnk.lean ====
section
/-! SUPPORT. What each operation of Machine/Lnk.lean can change: one lemma per operation, its set of parts as in Laws/Parts.lean. -/
namespace Sys2Proof.Machine

theorem State.putLane_touches (s : State) (n : Nat) (v : LnkLane) : Touches 32768 s (s.putLane n v) := by
  unfold State.putLane
  repeat' first
    | exact rfl
    | with_reducible assumption
    | with_reducible exact Touches.refl _ _
    | (with_reducible apply Touches.upd_lnk)

theorem State.setUp_touches (s : State) (n : Nat) (up : Bool) : Touches 2 s (s.setUp n up) := by
  unfold State.setUp
  repeat' first
    | exact rfl
    | with_reducible assumption
    | with_reducible exact Touches.refl _ _
    | (with_reducible apply Touches.seq (State.putB_touches ..))
    | (with_reducible apply Touches.seq (State.set_touches ..))
    | (with_reducible apply Touches.ite)

theorem State.laneRestart_touches (s : State) (n : Nat) (wait : Bool) : Touches 32770 s (s.laneRestart n wait) := by
  unfold State.laneRestart
  repeat' first
    | exact rfl
    | with_reducible assumption
    | with_reducible exact Touches.refl _ _
    | (extract_lets +onlyGivenNames s1; refine Touches.cut (x := s1) ?_ ?_; (on_goal 1 => subst s1); (on_goal 2 => (intro h1; clear_value s1)))
    | (extract_lets +onlyGivenNames v1; clear_value v1)
    | (with_reducible apply Touches.seq (State.setUp_touches ..))
    | (with_reducible apply Touches.seq (State.clr_touches ..))
    | (with_reducible apply Touches.seq (State.putLane_touches ..))
    | (with_reducible apply Touches.seq (State.put_touches ..))
    | (with_reducible apply Touches.seq (State.putWord_touches ..))
    | (with_reducible apply Touches.iff)
    | (with_reducible apply Touches.ite)
    | (intro x; intros; try beta_reduce)

theorem State.laneStart_touches (s : State) (n : Nat) : Touches 32770 s (s.laneStart n) := by
  unfold State.laneStart
  repeat' first
    | exact rfl
    | with_reducible assumption
    | with_reducible exact Touches.refl _ _
    | (with_reducible apply Touches.seq (State.putLane_touches ..))
    | (with_reducible apply Touches.seq (State.laneRestart_touches ..))

theorem State.laneIdle_touches (s : State) (n : Nat) : Touches 32770 s (s.laneIdle n) := by
  unfold State.laneIdle
  repeat' first
    | exact rfl
    | with_reducible assumption
    | with_reducible exact Touches.refl _ _
    | (with_reducible apply Touches.seq (State.putLane_touches ..))
    | (with_reducible apply Touches.seq (State.laneRestart_touches ..))

theorem State.ethRx_touches (s : State) (n : Nat) (frame : List Byte) (codeError : Bool) (fecCorr fecUncorr : Nat) (room : Bool) : Touches 536870931 s (s.ethRx n frame codeError fecCorr fecUncorr room) := by
  unfold State.ethRx
  repeat' first
    | exact rfl
    | with_reducible assumption
    | with_reducible exact Touches.refl _ _
    | (extract_lets +onlyGivenNames s1; refine Touches.cut (x := s1) ?_ ?_; (on_goal 1 => subst s1); (on_goal 2 => (intro h1; clear_value s1)))
    | (extract_lets +onlyGivenNames v1; clear_value v1)
    | (with_reducible apply Touches.seq (State.satAdd_touches ..))
    | (with_reducible apply Touches.seq (State.satInc_touches ..))
    | (with_reducible apply Touches.seq (State.drawn_touches ..))
    | (with_reducible apply Touches.seq (State.streamPush_touches ..))
    | (with_reducible apply Touches.seq (State.modInc2_touches ..))
    | (with_reducible apply Touches.seq (State.emit_touches ..))
    | (with_reducible apply Touches.iff)
    | (with_reducible apply Touches.ite)
    | (intro x; intros; try beta_reduce)

theorem State.ethSubmit_touches (s : State) (n : Nat) (frame : List Byte) (tag : Nat) (ts : Bool) : Touches 536903682 s (s.ethSubmit n frame tag ts) := by
  unfold State.ethSubmit
  repeat' first
    | exact rfl
    | with_reducible assumption
    | with_reducible exact Touches.refl _ _
    | (extract_lets +onlyGivenNames s1; refine Touches.cut (x := s1) ?_ ?_; (on_goal 1 => subst s1); (on_goal 2 => (intro h1; clear_value s1)))
    | (extract_lets +onlyGivenNames v1; clear_value v1)
    | (with_reducible apply Touches.seq (State.streamTake_touches ..))
    | (with_reducible apply Touches.seq (State.satInc_touches ..))
    | (with_reducible apply Touches.seq (State.putLane_touches ..))
    | (with_reducible apply Touches.ite)

theorem State.txtsPush_touches (s : State) (n tag : Nat) (t : Nat × Nat × Nat) : Touches 32770 s (s.txtsPush n tag t) := by
  unfold State.txtsPush
  repeat' first
    | exact rfl
    | with_reducible assumption
    | with_reducible exact Touches.refl _ _
    | (extract_lets +onlyGivenNames v1; clear_value v1)
    | (with_reducible apply Touches.seq (State.putLane_touches ..))
    | (with_reducible apply Touches.seq (State.set_touches ..))
    | (with_reducible apply Touches.seq (State.satInc_touches ..))
    | (with_reducible apply Touches.ite)

theorem State.ethTxStart_touches (s : State) (n : Nat) : Touches 32787 s (s.ethTxStart n) := by
  unfold State.ethTxStart
  repeat' first
    | exact rfl
    | with_reducible assumption
    | with_reducible exact Touches.refl _ _
    | (extract_lets +onlyGivenNames s1; refine Touches.cut (x := s1) ?_ ?_; (on_goal 1 => subst s1); (on_goal 2 => (intro h1; clear_value s1)))
    | (extract_lets +onlyGivenNames v1; clear_value v1)
    | (with_reducible apply Touches.seq (State.putLane_touches ..))
    | (with_reducible apply Touches.seq (State.modInc2_touches ..))
    | (with_reducible apply Touches.seq (State.emit_touches ..))
    | (with_reducible apply Touches.seq (State.drawn_touches ..))
    | (with_reducible apply Touches.seq (State.txtsPush_touches ..))
    | (with_reducible apply Touches.iff)
    | (with_reducible apply Touches.ite)
    | (intro x; intros; try beta_reduce)
    | split

theorem State.txtsPop_touches (s : State) (n : Nat) : Touches 32770 s (s.txtsPop n) := by
  unfold State.txtsPop
  repeat' first
    | exact rfl
    | with_reducible assumption
    | with_reducible exact Touches.refl _ _
    | (extract_lets +onlyGivenNames s1; refine Touches.cut (x := s1) ?_ ?_; (on_goal 1 => subst s1); (on_goal 2 => (intro h1; clear_value s1)))
    | (extract_lets +onlyGivenNames v1; clear_value v1)
    | (with_reducible apply Touches.seq (State.set_touches ..))
    | (with_reducible apply Touches.seq (State.putLane_touches ..))
    | (with_reducible apply Touches.seq (State.clr_touches ..))
    | (with_reducible apply Touches.seq (State.put_touches ..))
    | (with_reducible apply Touches.seq (State.put2_touches ..))
    | split

theorem State.txtsKeep_touches (s : State) (n : Nat) : Touches 2 s (s.txtsKeep n) := by
  unfold State.txtsKeep
  repeat' first
    | exact rfl
    | with_reducible assumption
    | with_reducible exact Touches.refl _ _
    | (with_reducible apply Touches.seq (State.set_touches ..))
    | (with_reducible apply Touches.iff)
    | (intro x; intros; try beta_reduce)

theorem State.laneSync_touches (s : State) (n : Nat) (synced fecAligned : Bool) : Touches 2 s (s.laneSync n synced fecAligned) := by
  unfold State.laneSync
  repeat' first
    | exact rfl
    | with_reducible assumption
    | with_reducible exact Touches.refl _ _
    | (extract_lets +onlyGivenNames s1; refine Touches.cut (x := s1) ?_ ?_; (on_goal 1 => subst s1); (on_goal 2 => (intro h1; clear_value s1)))
    | (extract_lets +onlyGivenNames v1; clear_value v1)
    | (with_reducible apply Touches.seq (State.putB_touches ..))
    | (with_reducible apply Touches.seq (State.set_touches ..))
    | (with_reducible apply Touches.seq (State.setUp_touches ..))
    | (with_reducible apply Touches.iff)
    | (with_reducible apply Touches.ite)
    | (intro x; intros; try beta_reduce)

theorem State.prbsClear_touches (s : State) (n : Nat) : Touches 2 s (s.prbsClear n) := by
  unfold State.prbsClear
  repeat' first
    | exact rfl
    | with_reducible assumption
    | with_reducible exact Touches.refl _ _
    | (with_reducible apply Touches.seq (State.put2_touches ..))

theorem State.prbsCount_touches (s : State) (n bits errors : Nat) : Touches 2 s (s.prbsCount n bits errors) := by
  unfold State.prbsCount
  repeat' first
    | exact rfl
    | with_reducible assumption
    | with_reducible exact Touches.refl _ _
    | (with_reducible apply Touches.seq (State.satAdd2_touches ..))

theorem State.prbsLock_touches (s : State) (n : Nat) (locked : Bool) (bits errors : Nat) : Touches 2 s (s.prbsLock n locked bits errors) := by
  unfold State.prbsLock
  repeat' first
    | exact rfl
    | with_reducible assumption
    | with_reducible exact Touches.refl _ _
    | (with_reducible apply Touches.seq (State.prbsCount_touches ..))
    | (with_reducible apply Touches.seq (State.putB_touches ..))
    | (with_reducible apply Touches.iff)
    | (with_reducible apply Touches.ite)
    | (intro x; intros; try beta_reduce)

theorem State.eyeStart_touches (s : State) (n : Nat) : Touches 2 s (s.eyeStart n) := by
  unfold State.eyeStart
  repeat' first
    | exact rfl
    | with_reducible assumption
    | with_reducible exact Touches.refl _ _
    | (with_reducible apply Touches.seq (State.clr_touches ..))

theorem State.eyeDone_touches (s : State) (n errors : Nat) : Touches 2 s (s.eyeDone n errors) := by
  unfold State.eyeDone
  repeat' first
    | exact rfl
    | with_reducible assumption
    | with_reducible exact Touches.refl _ _
    | (with_reducible apply Touches.seq (State.clr_touches ..))
    | (with_reducible apply Touches.seq (State.set_touches ..))
    | (with_reducible apply Touches.seq (State.put_touches ..))
    | (with_reducible apply Touches.ite)

theorem State.prbsSend_touches (s : State) (n k : Nat) : Touches 32769 s (s.prbsSend n k) := by
  unfold State.prbsSend
  repeat' first
    | exact rfl
    | with_reducible assumption
    | with_reducible exact Touches.refl _ _
    | (extract_lets +onlyGivenNames v1; clear_value v1)
    | (with_reducible apply Touches.seq (State.putLane_touches ..))
    | (with_reducible apply Touches.seq (State.emit_touches ..))
    | (with_reducible apply Touches.ite)

theorem State.sendChars_touches (s : State) (n : Nat) (cs : List LineChar) : Touches 32769 s (s.sendChars n cs) := by
  unfold State.sendChars
  repeat' first
    | exact rfl
    | with_reducible assumption
    | with_reducible exact Touches.refl _ _
    | (extract_lets +onlyGivenNames v1; clear_value v1)
    | (with_reducible apply Touches.seq (State.putLane_touches ..))
    | (with_reducible apply Touches.seq (State.emit_touches ..))

theorem State.sendBlocks_touches (s : State) (n : Nat) (bs : List LineBlock) : Touches 32769 s (s.sendBlocks n bs) := by
  unfold State.sendBlocks
  repeat' first
    | exact rfl
    | with_reducible assumption
    | with_reducible exact Touches.refl _ _
    | (extract_lets +onlyGivenNames v1; clear_value v1)
    | (with_reducible apply Touches.seq (State.putLane_touches ..))
    | (with_reducible apply Touches.seq (State.emit_touches ..))

theorem State.lineFrame_touches (s : State) (n : Nat) (frame : List Byte) : Touches 32769 s (s.lineFrame n frame) := by
  unfold State.lineFrame
  repeat' first
    | exact rfl
    | with_reducible assumption
    | with_reducible exact Touches.refl _ _
    | (with_reducible apply Touches.seq (State.sendChars_touches ..))
    | (with_reducible apply Touches.seq (State.sendBlocks_touches ..))
    | (with_reducible apply Touches.ite)

theorem State.trainingSend_touches (s : State) (n : Nat) : Touches 32785 s (s.trainingSend n) := by
  unfold State.trainingSend
  repeat' first
    | exact rfl
    | with_reducible assumption
    | with_reducible exact Touches.refl _ _
    | (extract_lets +onlyGivenNames v1; clear_value v1)
    | (with_reducible apply Touches.seq (State.sendChars_touches ..))
    | (with_reducible apply Touches.seq (State.drawn_touches ..))
    | (with_reducible apply Touches.ite)

theorem State.trainingLock_touches (s : State) (n peerCap : Nat) : Touches 32770 s (s.trainingLock n peerCap) := by
  unfold State.trainingLock
  repeat' first
    | exact rfl
    | with_reducible assumption
    | with_reducible exact Touches.refl _ _
    | (extract_lets +onlyGivenNames s1; refine Touches.cut (x := s1) ?_ ?_; (on_goal 1 => subst s1); (on_goal 2 => (intro h1; clear_value s1)))
    | (extract_lets +onlyGivenNames v1; clear_value v1)
    | (with_reducible apply Touches.seq (State.set_touches ..))
    | (with_reducible apply Touches.seq (State.put_touches ..))
    | (with_reducible apply Touches.seq (State.putLane_touches ..))
    | (with_reducible apply Touches.ite)

theorem State.rateStepSwitch_touches (s : State) (n : Nat) : Touches 32770 s (s.rateStepSwitch n) := by
  unfold State.rateStepSwitch
  repeat' first
    | exact rfl
    | with_reducible assumption
    | with_reducible exact Touches.refl _ _
    | (extract_lets +onlyGivenNames v1; clear_value v1)
    | (with_reducible apply Touches.seq (State.putLane_touches ..))
    | (with_reducible apply Touches.seq (State.put_touches ..))
    | (with_reducible apply Touches.ite)
    | split

theorem State.rateStepEnd_touches (s : State) (n : Nat) (checkerLocked : Bool) (bits errors : Nat) (peerFail : Bool) : Touches 32770 s (s.rateStepEnd n checkerLocked bits errors peerFail) := by
  unfold State.rateStepEnd
  repeat' first
    | exact rfl
    | with_reducible assumption
    | with_reducible exact Touches.refl _ _
    | (extract_lets +onlyGivenNames s1; refine Touches.cut (x := s1) ?_ ?_; (on_goal 1 => subst s1); (on_goal 2 => (intro h1; clear_value s1)))
    | (extract_lets +onlyGivenNames v1; clear_value v1)
    | (with_reducible apply Touches.seq (State.prbsClear_touches ..))
    | (with_reducible apply Touches.seq (State.prbsCount_touches ..))
    | (with_reducible apply Touches.seq (State.put_touches ..))
    | (with_reducible apply Touches.seq (State.putLane_touches ..))
    | (with_reducible apply Touches.ite)
    | split

theorem State.laneSettle_touches (s : State) (n : Nat) : Touches 2 s (s.laneSettle n) := by
  unfold State.laneSettle
  repeat' first
    | exact rfl
    | with_reducible assumption
    | with_reducible exact Touches.refl _ _
    | (extract_lets +onlyGivenNames v1; clear_value v1)
    | (with_reducible apply Touches.seq (State.put_touches ..))
    | (with_reducible apply Touches.seq (State.setUp_touches ..))
    | (with_reducible apply Touches.ite)

theorem State.bringupRetry_touches (s : State) (n : Nat) : Touches 32770 s (s.bringupRetry n) := by
  unfold State.bringupRetry
  repeat' first
    | exact rfl
    | with_reducible assumption
    | with_reducible exact Touches.refl _ _
    | (extract_lets +onlyGivenNames s1; refine Touches.cut (x := s1) ?_ ?_; (on_goal 1 => subst s1); (on_goal 2 => (intro h1; clear_value s1)))
    | (extract_lets +onlyGivenNames v1; clear_value v1)
    | (with_reducible apply Touches.seq (State.setUp_touches ..))
    | (with_reducible apply Touches.seq (State.put_touches ..))
    | (with_reducible apply Touches.seq (State.putLane_touches ..))
    | (with_reducible apply Touches.ite)

theorem State.laneLost_touches (s : State) (n fault : Nat) : Touches 258 s (s.laneLost n fault) := by
  unfold State.laneLost
  repeat' first
    | exact rfl
    | with_reducible assumption
    | with_reducible exact Touches.refl _ _
    | (extract_lets +onlyGivenNames s1; refine Touches.cut (x := s1) ?_ ?_; (on_goal 1 => subst s1); (on_goal 2 => (intro h1; clear_value s1)))
    | (extract_lets +onlyGivenNames v1; clear_value v1)
    | (with_reducible apply Touches.seq (State.satInc_touches ..))
    | (with_reducible apply Touches.seq (State.set_touches ..))
    | (with_reducible apply Touches.seq (State.report_touches ..))
    | (with_reducible apply Touches.iff)
    | (intro x; intros; try beta_reduce)

theorem State.losDeclare_touches (s : State) (n : Nat) : Touches 33026 s (s.losDeclare n) := by
  unfold State.losDeclare
  repeat' first
    | exact rfl
    | with_reducible assumption
    | with_reducible exact Touches.refl _ _
    | (with_reducible apply Touches.seq (State.laneLost_touches ..))
    | (with_reducible apply Touches.seq (State.set_touches ..))
    | (with_reducible apply Touches.seq (State.clr_touches ..))
    | (with_reducible apply Touches.seq (State.laneRestart_touches ..))
    | (with_reducible apply Touches.ite)

theorem State.losClear_touches (s : State) (n : Nat) : Touches 2 s (s.losClear n) := by
  unfold State.losClear
  repeat' first
    | exact rfl
    | with_reducible assumption
    | with_reducible exact Touches.refl _ _
    | (extract_lets +onlyGivenNames s1; refine Touches.cut (x := s1) ?_ ?_; (on_goal 1 => subst s1); (on_goal 2 => (intro h1; clear_value s1)))
    | (extract_lets +onlyGivenNames v1; clear_value v1)
    | (with_reducible apply Touches.seq (State.set_touches ..))
    | (with_reducible apply Touches.seq (State.put_touches ..))
    | (with_reducible apply Touches.iff)
    | (with_reducible apply Touches.ite)
    | (intro x; intros; try beta_reduce)

theorem State.cdrLoss_touches (s : State) (n : Nat) : Touches 33026 s (s.cdrLoss n) := by
  unfold State.cdrLoss
  repeat' first
    | exact rfl
    | with_reducible assumption
    | with_reducible exact Touches.refl _ _
    | (with_reducible apply Touches.seq (State.laneLost_touches ..))
    | (with_reducible apply Touches.seq (State.set_touches ..))
    | (with_reducible apply Touches.seq (State.laneRestart_touches ..))
    | (with_reducible apply Touches.ite)

end Sys2Proof.Machine
end

