-- ==== Sys2Proof/Laws/TouchBrg.lean ====
section
/-! SUPPORT. What each operation of Machine/Brg.lean can change: one lemma per operation, its set of parts as in Laws/Parts.lean. -/
namespace Sys2Proof.Machine

theorem State.putBport_touches (s : State) (p : Nat) (v : BrgPort) : Touches 65536 s (s.putBport p v) := by
  unfold State.putBport
  repeat' first
    | exact rfl
    | with_reducible assumption
    | with_reducible exact Touches.refl _ _
    | (with_reducible apply Touches.upd_brg)

theorem State.brgCount_touches (s : State) (c n : Nat) : Touches 2 s (s.brgCount c n) := by
  unfold State.brgCount
  repeat' first
    | exact rfl
    | with_reducible assumption
    | with_reducible exact Touches.refl _ _
    | (with_reducible apply Touches.seq (State.satAdd_touches ..))

theorem State.brgDrop_touches (s : State) : Touches 2 s s.brgDrop := by
  unfold State.brgDrop
  repeat' first
    | exact rfl
    | with_reducible assumption
    | with_reducible exact Touches.refl _ _
    | (with_reducible apply Touches.seq (State.event_touches ..))

theorem State.brgDropIn_touches (s : State) (c : Nat) : Touches 2 s (s.brgDropIn c) := by
  unfold State.brgDropIn
  repeat' first
    | exact rfl
    | with_reducible assumption
    | with_reducible exact Touches.refl _ _
    | (with_reducible apply Touches.seq (State.brgCount_touches ..))
    | (with_reducible apply Touches.seq (State.brgDrop_touches ..))

theorem State.brgElect_touches (s : State) : Touches 4226 s s.brgElect := by
  unfold State.brgElect
  repeat' first
    | exact rfl
    | with_reducible assumption
    | with_reducible exact Touches.refl _ _
    | (extract_lets +onlyGivenNames s1; refine Touches.cut (x := s1) ?_ ?_; (on_goal 1 => subst s1); (on_goal 2 => (intro h1; clear_value s1)))
    | (extract_lets +onlyGivenNames v1; clear_value v1)
    | (with_reducible apply Touches.seq (State.put_touches ..))
    | (with_reducible apply Touches.seq (State.event_touches ..))
    | (with_reducible apply Touches.seq (State.sourceInvalid_touches ..))
    | (with_reducible apply Touches.iff)
    | (with_reducible apply Touches.ite)
    | (intro x; intros; try beta_reduce)
    | split

theorem State.sessionDerive_touches (s : State) (p e : Nat) : Touches 536952835 s (s.sessionDerive p e) := by
  unfold State.sessionDerive
  repeat' first
    | exact rfl
    | with_reducible assumption
    | with_reducible exact Touches.refl _ _
    | (extract_lets +onlyGivenNames s1; refine Touches.cut (x := s1) ?_ ?_; (on_goal 1 => subst s1); (on_goal 2 => (intro h1; clear_value s1)))
    | (extract_lets +onlyGivenNames v1; clear_value v1)
    | (with_reducible apply Touches.seq (State.putBport_touches ..))
    | (with_reducible apply Touches.seq (State.slotRewrite_touches ..))
    | (with_reducible apply Touches.ite)
    | split

theorem State.drawAhead_touches (s : State) (p n : Nat) : Touches 81922 s (s.drawAhead p n) := by
  induction n generalizing s with
  | zero => exact Touches.refl _ _
  | succ n ih =>
    unfold State.drawAhead
    extract_lets v k
    split
    · exact Touches.refl _ _
    · split
      · rename_i c t h
        exact Touches.seq (ih _) rfl (Touches.seq (State.putBport_touches ..) rfl (Touches.mono (State.drawCtr_some h) rfl))
      · exact Touches.mono (State.noteExhausted_touches ..) rfl

theorem State.brgEnqueue_touches (s : State) (f : BrgTx) : Touches 65536 s (s.brgEnqueue f) := by
  unfold State.brgEnqueue
  repeat' first
    | exact rfl
    | with_reducible assumption
    | with_reducible exact Touches.refl _ _
    | (with_reducible apply Touches.upd_brg)

theorem State.brgToNeighbour_touches (s : State) (p cls channel : Nat) (payload : List Byte) : Touches 65536 s (s.brgToNeighbour p cls channel payload) := by
  unfold State.brgToNeighbour
  repeat' first
    | exact rfl
    | with_reducible assumption
    | with_reducible exact Touches.refl _ _
    | (with_reducible apply Touches.seq (State.brgEnqueue_touches ..))

theorem State.brgBroadcast_touches (s : State) (ports : List Nat) (payload : List Byte) : Touches 65552 s (s.brgBroadcast ports payload) := by
  unfold State.brgBroadcast
  repeat' first
    | exact rfl
    | with_reducible assumption
    | with_reducible exact Touches.refl _ _
    | (with_reducible apply Touches.seq (State.drawn_touches ..))
    | (with_reducible apply Touches.seq (State.brgEnqueue_touches ..))
    | (with_reducible apply Touches.ite)

theorem State.portKeying_touches (s : State) (p : Nat) : Touches 65554 s (s.portKeying p) := by
  unfold State.portKeying
  repeat' first
    | exact rfl
    | with_reducible assumption
    | with_reducible exact Touches.refl _ _
    | (extract_lets +onlyGivenNames s1; refine Touches.cut (x := s1) ?_ ?_; (on_goal 1 => subst s1); (on_goal 2 => (intro h1; clear_value s1)))
    | (extract_lets +onlyGivenNames v1; clear_value v1)
    | (with_reducible apply Touches.seq (State.putBport_touches ..))
    | (with_reducible apply Touches.seq (State.put_touches ..))
    | (with_reducible apply Touches.seq (State.drawnBytes_touches ..))
    | (with_reducible apply Touches.seq (State.brgToNeighbour_touches ..))
    | (with_reducible apply Touches.ite)

theorem State.portUpdate_touches (s : State) (p : Nat) : Touches 65554 s (s.portUpdate p) := by
  unfold State.portUpdate
  repeat' first
    | exact rfl
    | with_reducible assumption
    | with_reducible exact Touches.refl _ _
    | (extract_lets +onlyGivenNames s1; refine Touches.cut (x := s1) ?_ ?_; (on_goal 1 => subst s1); (on_goal 2 => (intro h1; clear_value s1)))
    | (extract_lets +onlyGivenNames v1; clear_value v1)
    | (with_reducible apply Touches.seq (State.event_touches ..))
    | (with_reducible apply Touches.seq (State.putBport_touches ..))
    | (with_reducible apply Touches.seq (State.portKeying_touches ..))
    | (with_reducible apply Touches.seq (State.put_touches ..))
    | (with_reducible apply Touches.iff)
    | (with_reducible apply Touches.ite)
    | (intro x; intros; try beta_reduce)

theorem State.portsUpdate_touches (s : State) : Touches 65554 s s.portsUpdate := by
  unfold State.portsUpdate
  repeat' first
    | exact rfl
    | with_reducible assumption
    | with_reducible exact Touches.refl _ _
    | (with_reducible apply Touches.seq (State.portUpdate_touches ..))
    | (with_reducible apply Touches.each)
    | (intro x; intros; try beta_reduce)

theorem State.portKeyed_touches (s : State) (p : Nat) : Touches 81922 s (s.portKeyed p) := by
  unfold State.portKeyed
  repeat' first
    | exact rfl
    | with_reducible assumption
    | with_reducible exact Touches.refl _ _
    | (extract_lets +onlyGivenNames s1; refine Touches.cut (x := s1) ?_ ?_; (on_goal 1 => subst s1); (on_goal 2 => (intro h1; clear_value s1)))
    | (extract_lets +onlyGivenNames v1; clear_value v1)
    | (with_reducible apply Touches.seq (State.put_touches ..))
    | (with_reducible apply Touches.seq (State.event_touches ..))
    | (with_reducible apply Touches.seq (State.putBport_touches ..))
    | (with_reducible apply Touches.seq (State.drawAhead_touches ..))
    | (with_reducible apply Touches.ite)

theorem State.helloIn_touches (s : State) (p : Nat) (r : BrgRx) : Touches 536952835 s (s.helloIn p r) := by
  unfold State.helloIn
  repeat' first
    | exact rfl
    | with_reducible assumption
    | with_reducible exact Touches.refl _ _
    | (extract_lets +onlyGivenNames s1; refine Touches.cut (x := s1) ?_ ?_; (on_goal 1 => subst s1); (on_goal 2 => (intro h1; clear_value s1)))
    | (extract_lets +onlyGivenNames v1; clear_value v1)
    | (with_reducible apply Touches.seq (State.brgDrop_touches ..))
    | (with_reducible apply Touches.seq (State.brgDropIn_touches ..))
    | (with_reducible apply Touches.seq (State.event_touches ..))
    | (with_reducible apply Touches.seq (State.set_touches ..))
    | (with_reducible apply Touches.seq (State.put_touches ..))
    | (with_reducible apply Touches.seq (State.clr_touches ..))
    | (with_reducible apply Touches.seq (State.putBport_touches ..))
    | (with_reducible apply Touches.seq (State.sessionDerive_touches ..))
    | (with_reducible apply Touches.ite)

theorem State.rekeyStart_touches (s : State) (p : Nat) : Touches 536952835 s (s.rekeyStart p) := by
  unfold State.rekeyStart
  repeat' first
    | exact rfl
    | with_reducible assumption
    | with_reducible exact Touches.refl _ _
    | (extract_lets +onlyGivenNames s1; refine Touches.cut (x := s1) ?_ ?_; (on_goal 1 => subst s1); (on_goal 2 => (intro h1; clear_value s1)))
    | (extract_lets +onlyGivenNames v1; clear_value v1)
    | (with_reducible apply Touches.seq (State.sessionDerive_touches ..))
    | (with_reducible apply Touches.seq (State.putBport_touches ..))
    | (with_reducible apply Touches.seq (State.brgToNeighbour_touches ..))
    | (with_reducible apply Touches.ite)

theorem State.rekeyTrigger_touches (s : State) (p : Nat) : Touches 536952835 s (s.rekeyTrigger p) := by
  unfold State.rekeyTrigger
  repeat' first
    | exact rfl
    | with_reducible assumption
    | with_reducible exact Touches.refl _ _
    | (with_reducible apply Touches.seq (State.rekeyStart_touches ..))
    | (with_reducible apply Touches.iff)
    | (intro x; intros; try beta_reduce)

theorem State.rekeySwitch_touches (s : State) (p e : Nat) : Touches 81922 s (s.rekeySwitch p e) := by
  unfold State.rekeySwitch
  repeat' first
    | exact rfl
    | with_reducible assumption
    | with_reducible exact Touches.refl _ _
    | (extract_lets +onlyGivenNames s1; refine Touches.cut (x := s1) ?_ ?_; (on_goal 1 => subst s1); (on_goal 2 => (intro h1; clear_value s1)))
    | (extract_lets +onlyGivenNames v1; clear_value v1)
    | (with_reducible apply Touches.seq (State.put_touches ..))
    | (with_reducible apply Touches.seq (State.putBport_touches ..))
    | (with_reducible apply Touches.seq (State.drawAhead_touches ..))
    | (with_reducible apply Touches.seq (State.brgCount_touches ..))
    | (with_reducible apply Touches.seq (State.event_touches ..))

theorem State.rekeyIn_touches (s : State) (p e : Nat) : Touches 536952835 s (s.rekeyIn p e) := by
  unfold State.rekeyIn
  repeat' first
    | exact rfl
    | with_reducible assumption
    | with_reducible exact Touches.refl _ _
    | (extract_lets +onlyGivenNames s1; refine Touches.cut (x := s1) ?_ ?_; (on_goal 1 => subst s1); (on_goal 2 => (intro h1; clear_value s1)))
    | (extract_lets +onlyGivenNames v1; clear_value v1)
    | (with_reducible apply Touches.seq (State.brgToNeighbour_touches ..))
    | (with_reducible apply Touches.seq (State.sessionDerive_touches ..))
    | (with_reducible apply Touches.seq (State.rekeySwitch_touches ..))
    | (with_reducible apply Touches.ite)

theorem State.rekeyAckIn_touches (s : State) (p e : Nat) : Touches 81922 s (s.rekeyAckIn p e) := by
  unfold State.rekeyAckIn
  repeat' first
    | exact rfl
    | with_reducible assumption
    | with_reducible exact Touches.refl _ _
    | (with_reducible apply Touches.seq (State.rekeySwitch_touches ..))
    | (with_reducible apply Touches.ite)

theorem State.oldSlotErase_touches (s : State) (p : Nat) : Touches 1610702867 s (s.oldSlotErase p) := by
  unfold State.oldSlotErase
  repeat' first
    | exact rfl
    | with_reducible assumption
    | with_reducible exact Touches.refl _ _
    | (extract_lets +onlyGivenNames v1; clear_value v1)
    | (with_reducible apply Touches.seq (State.slotErase_touches ..))
    | (with_reducible apply Touches.seq (State.putBport_touches ..))
    | (with_reducible apply Touches.ite)

theorem State.rekeyRetry_touches (s : State) (p : Nat) : Touches 98322 s (s.rekeyRetry p) := by
  unfold State.rekeyRetry
  repeat' first
    | exact rfl
    | with_reducible assumption
    | with_reducible exact Touches.refl _ _
    | (extract_lets +onlyGivenNames s1; refine Touches.cut (x := s1) ?_ ?_; (on_goal 1 => subst s1); (on_goal 2 => (intro h1; clear_value s1)))
    | (extract_lets +onlyGivenNames v1; clear_value v1)
    | (with_reducible apply Touches.seq (State.event_touches ..))
    | (with_reducible apply Touches.seq (State.put_touches ..))
    | (with_reducible apply Touches.seq (State.putBport_touches ..))
    | (with_reducible apply Touches.seq (State.laneRestart_touches ..))
    | (with_reducible apply Touches.seq (State.portUpdate_touches ..))
    | (with_reducible apply Touches.seq (State.brgToNeighbour_touches ..))
    | (with_reducible apply Touches.each)
    | (with_reducible apply Touches.ite)
    | (intro x; intros; try beta_reduce)

theorem State.putExcl_touches (s : State) (m : Nat) : Touches 2 s (s.putExcl m) := by
  unfold State.putExcl
  repeat' first
    | exact rfl
    | with_reducible assumption
    | with_reducible exact Touches.refl _ _
    | (with_reducible apply Touches.seq (State.putWord_touches ..))

theorem State.countReady_touches (s : State) (id ver : Nat) (golden : Bool) : Touches 65538 s (s.countReady id ver golden) := by
  unfold State.countReady
  repeat' first
    | exact rfl
    | with_reducible assumption
    | with_reducible exact Touches.refl _ _
    | (extract_lets +onlyGivenNames s1; refine Touches.cut (x := s1) ?_ ?_; (on_goal 1 => subst s1); (on_goal 2 => (intro h1; clear_value s1)))
    | (extract_lets +onlyGivenNames v1; clear_value v1)
    | (with_reducible apply Touches.seq (State.put_touches ..))
    | (with_reducible apply Touches.upd_brg)

theorem State.landfallDeclare_touches (s : State) : Touches 65554 s s.landfallDeclare := by
  unfold State.landfallDeclare
  repeat' first
    | exact rfl
    | with_reducible assumption
    | with_reducible exact Touches.refl _ _
    | (extract_lets +onlyGivenNames s1; refine Touches.cut (x := s1) ?_ ?_; (on_goal 1 => subst s1); (on_goal 2 => (intro h1; clear_value s1)))
    | (extract_lets +onlyGivenNames v1; clear_value v1)
    | (with_reducible apply Touches.seq (State.set_touches ..))
    | (with_reducible apply Touches.seq (State.put_touches ..))
    | (with_reducible apply Touches.seq (State.brgBroadcast_touches ..))
    | (with_reducible apply Touches.each)
    | (with_reducible apply Touches.iff)
    | (with_reducible apply Touches.ite)
    | (intro x; intros; try beta_reduce)

theorem State.landfallCheck_touches (s : State) : Touches 65554 s s.landfallCheck := by
  unfold State.landfallCheck
  repeat' first
    | exact rfl
    | with_reducible assumption
    | with_reducible exact Touches.refl _ _
    | (with_reducible apply Touches.seq (State.landfallDeclare_touches ..))
    | (with_reducible apply Touches.iff)
    | (intro x; intros; try beta_reduce)

theorem State.admitId_touches (s : State) (id : Nat) : Touches 65554 s (s.admitId id) := by
  unfold State.admitId
  repeat' first
    | exact rfl
    | with_reducible assumption
    | with_reducible exact Touches.refl _ _
    | (extract_lets +onlyGivenNames s1; refine Touches.cut (x := s1) ?_ ?_; (on_goal 1 => subst s1); (on_goal 2 => (intro h1; clear_value s1)))
    | (extract_lets +onlyGivenNames v1; clear_value v1)
    | (with_reducible apply Touches.seq (State.clr_touches ..))
    | (with_reducible apply Touches.seq (State.countReady_touches ..))
    | (with_reducible apply Touches.seq (State.put_touches ..))
    | (with_reducible apply Touches.seq (State.brgBroadcast_touches ..))
    | (with_reducible apply Touches.upd_brg)
    | (with_reducible apply Touches.iff)
    | (with_reducible apply Touches.ite)
    | (intro x; intros; try beta_reduce)
    | split

theorem State.readyIn_touches (s : State) (src ver : Nat) (golden : Bool) : Touches 65554 s (s.readyIn src ver golden) := by
  unfold State.readyIn
  repeat' first
    | exact rfl
    | with_reducible assumption
    | with_reducible exact Touches.refl _ _
    | (extract_lets +onlyGivenNames s1; refine Touches.cut (x := s1) ?_ ?_; (on_goal 1 => subst s1); (on_goal 2 => (intro h1; clear_value s1)))
    | (extract_lets +onlyGivenNames v1; clear_value v1)
    | (with_reducible apply Touches.seq (State.set_touches ..))
    | (with_reducible apply Touches.seq (State.drawn_touches ..))
    | (with_reducible apply Touches.seq (State.countReady_touches ..))
    | (with_reducible apply Touches.seq (State.landfallCheck_touches ..))
    | (with_reducible apply Touches.seq (State.event_touches ..))
    | (with_reducible apply Touches.seq (State.admitId_touches ..))
    | (with_reducible apply Touches.upd_brg)
    | (with_reducible apply Touches.iff)
    | (with_reducible apply Touches.ite)
    | (intro x; intros; try beta_reduce)
    | split

theorem State.readyFrame_touches (s : State) (src ver : Nat) (golden : Bool) : Touches 65554 s (s.readyFrame src ver golden) := by
  unfold State.readyFrame
  repeat' first
    | exact rfl
    | with_reducible assumption
    | with_reducible exact Touches.refl _ _
    | (with_reducible apply Touches.seq (State.readyIn_touches ..))
    | (with_reducible apply Touches.iff)
    | (intro x; intros; try beta_reduce)

theorem State.landfallIn_touches (s : State) (map : Nat) : Touches 2 s (s.landfallIn map) := by
  unfold State.landfallIn
  repeat' first
    | exact rfl
    | with_reducible assumption
    | with_reducible exact Touches.refl _ _
    | (extract_lets +onlyGivenNames s1; refine Touches.cut (x := s1) ?_ ?_; (on_goal 1 => subst s1); (on_goal 2 => (intro h1; clear_value s1)))
    | (extract_lets +onlyGivenNames v1; clear_value v1)
    | (with_reducible apply Touches.seq (State.putExcl_touches ..))
    | (with_reducible apply Touches.seq (State.put_touches ..))
    | (with_reducible apply Touches.seq (State.set_touches ..))
    | (with_reducible apply Touches.ite)

theorem State.landfallTimeout_touches (s : State) : Touches 65554 s s.landfallTimeout := by
  unfold State.landfallTimeout
  repeat' first
    | exact rfl
    | with_reducible assumption
    | with_reducible exact Touches.refl _ _
    | (with_reducible apply Touches.seq (State.landfallDeclare_touches ..))
    | (with_reducible apply Touches.iff)
    | (intro x; intros; try beta_reduce)

theorem State.landfallRepeat_touches (s : State) : Touches 65552 s s.landfallRepeat := by
  unfold State.landfallRepeat
  repeat' first
    | exact rfl
    | with_reducible assumption
    | with_reducible exact Touches.refl _ _
    | (extract_lets +onlyGivenNames v1; clear_value v1)
    | (with_reducible apply Touches.seq (State.brgBroadcast_touches ..))
    | (with_reducible apply Touches.ite)

theorem State.admitIn_touches (s : State) (id : Nat) : Touches 2 s (s.admitIn id) := by
  unfold State.admitIn
  repeat' first
    | exact rfl
    | with_reducible assumption
    | with_reducible exact Touches.refl _ _
    | (extract_lets +onlyGivenNames s1; refine Touches.cut (x := s1) ?_ ?_; (on_goal 1 => subst s1); (on_goal 2 => (intro h1; clear_value s1)))
    | (extract_lets +onlyGivenNames v1; clear_value v1)
    | (with_reducible apply Touches.seq (State.clr_touches ..))
    | (with_reducible apply Touches.seq (State.set_touches ..))
    | (with_reducible apply Touches.seq (State.put_touches ..))
    | (with_reducible apply Touches.seq (State.event_touches ..))
    | (with_reducible apply Touches.iff)
    | (with_reducible apply Touches.ite)
    | (intro x; intros; try beta_reduce)

theorem State.readyTimer_touches (s : State) : Touches 65552 s s.readyTimer := by
  unfold State.readyTimer
  repeat' first
    | exact rfl
    | with_reducible assumption
    | with_reducible exact Touches.refl _ _
    | (with_reducible apply Touches.seq (State.brgBroadcast_touches ..))
    | (with_reducible apply Touches.ite)

theorem State.seqAccept_touches (s : State) (key seq : Nat) : Touches 65538 s (s.seqAccept key seq).2 := by
  unfold State.seqAccept
  repeat' first
    | exact rfl
    | with_reducible assumption
    | with_reducible exact Touches.refl _ _
    | (extract_lets +onlyGivenNames f1; refine Touches.cutF (f := f1) ?_ ?_; (on_goal 1 => subst f1); (on_goal 2 => (intro h1; clear_value f1)))
    | (with_reducible refine Touches.bindF (by assumption) ?_)
    | (extract_lets +onlyGivenNames v1; clear_value v1)
    | (with_reducible apply Touches.seq (State.brgDropIn_touches ..))
    | (with_reducible apply Touches.seq (State.brgCount_touches ..))
    | (with_reducible apply Touches.upd_brg)
    | (with_reducible apply Touches.ite)
    | (intro x; intros; try beta_reduce)
    | split

theorem State.seqAccept_of {q : Nat} {t : State} {s : State} {key seq : Nat} (h : s.seqAccept key seq = (q, t)) : Touches 65538 s t := by
  have := State.seqAccept_touches s key seq
  rwa [h] at this

theorem State.bcastNote_touches (s : State) (key seq : Nat) : Touches 65536 s (s.bcastNote key seq) := by
  unfold State.bcastNote
  repeat' first
    | exact rfl
    | with_reducible assumption
    | with_reducible exact Touches.refl _ _
    | (extract_lets +onlyGivenNames v1; clear_value v1)
    | (with_reducible apply Touches.upd_brg)

theorem State.brgForward_touches (s : State) (r : BrgRx) (copies : List (Nat × Nat)) : Touches 65538 s (s.brgForward r copies) := by
  unfold State.brgForward
  repeat' first
    | exact rfl
    | with_reducible assumption
    | with_reducible exact Touches.refl _ _
    | (with_reducible apply Touches.seq (State.brgDropIn_touches ..))
    | (with_reducible apply Touches.seq (State.brgEnqueue_touches ..))
    | (with_reducible apply Touches.ite)

theorem State.brgControl_touches (s : State) (p : Nat) (r : BrgRx) : Touches 536952851 s (s.brgControl p r) := by
  unfold State.brgControl
  repeat' first
    | exact rfl
    | with_reducible assumption
    | with_reducible exact Touches.refl _ _
    | (with_reducible apply Touches.seq (State.readyIn_touches ..))
    | (with_reducible apply Touches.seq (State.landfallIn_touches ..))
    | (with_reducible apply Touches.seq (State.rekeyIn_touches ..))
    | (with_reducible apply Touches.seq (State.rekeyAckIn_touches ..))
    | (with_reducible apply Touches.seq (State.admitIn_touches ..))
    | split

theorem State.timeIn_touches (s : State) (p : Nat) (r : BrgRx) : Touches 69778 s (s.timeIn p r) := by
  unfold State.timeIn
  repeat' first
    | exact rfl
    | with_reducible assumption
    | with_reducible exact Touches.refl _ _
    | (extract_lets +onlyGivenNames s1; refine Touches.cut (x := s1) ?_ ?_; (on_goal 1 => subst s1); (on_goal 2 => (intro h1; clear_value s1)))
    | (extract_lets +onlyGivenNames v1; clear_value v1)
    | (with_reducible apply Touches.seq (State.putBport_touches ..))
    | (with_reducible apply Touches.seq (State.brgElect_touches ..))
    | (with_reducible apply Touches.seq (State.drawn_touches ..))
    | (with_reducible apply Touches.seq (State.brgToNeighbour_touches ..))
    | (with_reducible apply Touches.seq (State.put_touches ..))
    | (with_reducible apply Touches.seq (State.fixMeasure_touches ..))
    | (with_reducible apply Touches.iff)
    | (with_reducible apply Touches.ite)
    | (intro x; intros; try beta_reduce)
    | split

theorem State.brgBeats_touches (s : State) (r : BrgRx) : Touches 536870928 s (s.brgBeats r) := by
  unfold State.brgBeats
  repeat' first
    | exact rfl
    | with_reducible assumption
    | with_reducible exact Touches.refl _ _
    | (extract_lets +onlyGivenNames v1; clear_value v1)
    | (with_reducible apply Touches.seq (State.drawn_touches ..))
    | (with_reducible apply Touches.seq (State.streamPush_touches ..))
    | (with_reducible apply Touches.iff)
    | (with_reducible apply Touches.ite)
    | (intro x; intros; try beta_reduce)

theorem State.brgDeliver_touches (s : State) (p : Nat) (r : BrgRx) (room : Bool) : Touches 536957075 s (s.brgDeliver p r room) := by
  unfold State.brgDeliver
  repeat' first
    | exact rfl
    | with_reducible assumption
    | with_reducible exact Touches.refl _ _
    | (extract_lets +onlyGivenNames s1; refine Touches.cutP (x := s1) ?_ ?_; (on_goal 1 => subst s1); (on_goal 2 => (intro h1; clear_value s1)))
    | (extract_lets +onlyGivenNames v1; clear_value v1)
    | (with_reducible apply Touches.seq (State.seqAccept_touches ..))
    | (with_reducible apply Touches.seq (State.timeIn_touches ..))
    | (with_reducible apply Touches.seq (State.brgControl_touches ..))
    | (with_reducible apply Touches.seq (State.brgBeats_touches ..))
    | (with_reducible apply Touches.seq (State.emit_touches ..))
    | (with_reducible apply Touches.seq (State.brgDropIn_touches ..))
    | (with_reducible apply Touches.ite)

theorem State.brgAccepted_touches (s : State) (p : Nat) (r : BrgRx) (room : Bool) : Touches 536957075 s (s.brgAccepted p r room) := by
  unfold State.brgAccepted
  repeat' first
    | exact rfl
    | with_reducible assumption
    | with_reducible exact Touches.refl _ _
    | (extract_lets +onlyGivenNames s1; refine Touches.cut (x := s1) ?_ ?_; (on_goal 1 => subst s1); (on_goal 2 => (intro h1; clear_value s1)))
    | (extract_lets +onlyGivenNames v1; clear_value v1)
    | (with_reducible apply Touches.seq (State.brgDropIn_touches ..))
    | (with_reducible apply Touches.seq (State.set_touches ..))
    | (with_reducible apply Touches.seq (State.bcastNote_touches ..))
    | (with_reducible apply Touches.seq (State.brgForward_touches ..))
    | (with_reducible apply Touches.seq (State.brgDeliver_touches ..))
    | (with_reducible apply Touches.iff)
    | (with_reducible apply Touches.ite)
    | (intro x; intros; try beta_reduce)
    | split

theorem State.brgFrameIn_touches (s : State) (p : Nat) (second : Bool) (frame : List Byte) (aborted room : Bool) : Touches 536957331 s (s.brgFrameIn p second frame aborted room) := by
  unfold State.brgFrameIn
  repeat' first
    | exact rfl
    | with_reducible assumption
    | with_reducible exact Touches.refl _ _
    | (extract_lets +onlyGivenNames v1; clear_value v1)
    | (with_reducible apply Touches.seq (State.brgDropIn_touches ..))
    | (with_reducible apply Touches.seq (State.report_touches ..))
    | (with_reducible apply Touches.seq (State.helloIn_touches ..))
    | (with_reducible apply Touches.seq (State.brgDrop_touches ..))
    | (with_reducible apply Touches.seq (State.event_touches ..))
    | (with_reducible apply Touches.seq (State.putBport_touches ..))
    | (with_reducible apply Touches.seq (State.brgAccepted_touches ..))
    | (with_reducible apply Touches.iff)
    | (with_reducible apply Touches.ite)
    | (intro x; intros; try beta_reduce)

theorem State.brgSubmit_touches (s : State) (cls dst : Nat) (bcast : Bool) (channel tag : Nat) (payload : List Byte) : Touches 536936467 s (s.brgSubmit cls dst bcast channel tag payload) := by
  unfold State.brgSubmit
  repeat' first
    | exact rfl
    | with_reducible assumption
    | with_reducible exact Touches.refl _ _
    | (extract_lets +onlyGivenNames s1; refine Touches.cut (x := s1) ?_ ?_; (on_goal 1 => subst s1); (on_goal 2 => (intro h1; clear_value s1)))
    | (extract_lets +onlyGivenNames v1; clear_value v1)
    | (with_reducible apply Touches.seq (State.streamTake_touches ..))
    | (with_reducible apply Touches.seq (State.emit_touches ..))
    | (with_reducible apply Touches.seq (State.drawn_touches ..))
    | (with_reducible apply Touches.seq (State.brgCount_touches ..))
    | (with_reducible apply Touches.seq (State.brgEnqueue_touches ..))
    | (with_reducible apply Touches.iff)
    | (with_reducible apply Touches.ite)
    | (intro x; intros; try beta_reduce)

theorem State.takeSeq_touches (s : State) (f : BrgTx) : Touches 65536 s (s.takeSeq f).2 := by
  unfold State.takeSeq
  repeat' first
    | exact rfl
    | with_reducible assumption
    | with_reducible exact Touches.refl _ _
    | (extract_lets +onlyGivenNames v1; clear_value v1)
    | (with_reducible apply Touches.upd_brg)
    | split

theorem State.takeSeq_of {q : Nat} {t : State} {s : State} {f : BrgTx} (h : s.takeSeq f = (q, t)) : Touches 65536 s t := by
  have := State.takeSeq_touches s f
  rwa [h] at this

theorem State.brgCopyGone_touches (s : State) (f : BrgTx) (seq : Nat) (p : Nat) : Touches 65537 s (s.brgCopyGone f seq p) := by
  unfold State.brgCopyGone
  repeat' first
    | exact rfl
    | with_reducible assumption
    | with_reducible exact Touches.refl _ _
    | (extract_lets +onlyGivenNames s1; refine Touches.cut (x := s1) ?_ ?_; (on_goal 1 => subst s1); (on_goal 2 => (intro h1; clear_value s1)))
    | (extract_lets +onlyGivenNames v1; clear_value v1)
    | (with_reducible apply Touches.seq (State.emit_touches ..))
    | (with_reducible apply Touches.upd_brg)
    | (with_reducible apply Touches.iff)
    | (with_reducible apply Touches.ite)
    | (intro x; intros; try beta_reduce)

theorem State.brgServed_touches (s : State) (p : Nat) (f : BrgTx) : Touches 65536 s (s.brgServed p f) := by
  unfold State.brgServed
  repeat' first
    | exact rfl
    | with_reducible assumption
    | with_reducible exact Touches.refl _ _
    | (extract_lets +onlyGivenNames v1; clear_value v1)
    | (with_reducible apply Touches.seq (State.putBport_touches ..))

theorem State.timeOut_touches (s : State) (p : Nat) (f : BrgTx) : Touches 65552 s (s.timeOut p f).1 := by
  unfold State.timeOut
  repeat' first
    | exact rfl
    | with_reducible assumption
    | with_reducible exact Touches.refl _ _
    | (extract_lets +onlyGivenNames s1; refine Touches.cut (x := s1) ?_ ?_; (on_goal 1 => subst s1); (on_goal 2 => (intro h1; clear_value s1)))
    | (extract_lets +onlyGivenNames v1; clear_value v1)
    | (with_reducible apply Touches.seq (State.drawn_touches ..))
    | (with_reducible apply Touches.seq (State.putBport_touches ..))
    | (with_reducible apply Touches.ite)
    | split

theorem State.timeOut_of {s t : State} {p : Nat} {f q : BrgTx} (h : s.timeOut p f = (t, q)) : Touches 65552 s t := by
  have := State.timeOut_touches s p f
  rwa [h] at this

theorem State.brgEmit_touches (s : State) (p : Nat) (body tag : List Byte) : Touches 32769 s (s.brgEmit p body tag) := by
  unfold State.brgEmit
  repeat' first
    | exact rfl
    | with_reducible assumption
    | with_reducible exact Touches.refl _ _
    | (extract_lets +onlyGivenNames v1; clear_value v1)
    | (with_reducible apply Touches.seq (State.emit_touches ..))
    | (with_reducible apply Touches.seq (State.lineFrame_touches ..))
    | (with_reducible apply Touches.each)
    | (intro x; intros; try beta_reduce)

theorem State.brgTxStart_touches (s : State) (p : Nat) : Touches 114707 s (s.brgTxStart p) := by
  unfold State.brgTxStart
  repeat' first
    | exact rfl
    | with_reducible assumption
    | with_reducible exact Touches.refl _ _
    | (extract_lets +onlyGivenNames s1; refine Touches.cut (x := s1) ?_ ?_; (on_goal 1 => subst s1); (on_goal 2 => (intro h1; clear_value s1)))
    | (extract_lets +onlyGivenNames s1; refine Touches.cutP (x := s1) ?_ ?_; (on_goal 1 => subst s1); (on_goal 2 => (intro h1; clear_value s1)))
    | (extract_lets +onlyGivenNames s1; refine Touches.cutQ (x := s1) ?_ ?_; (on_goal 1 => subst s1); (on_goal 2 => (intro h1; clear_value s1)))
    | (extract_lets +onlyGivenNames v1; clear_value v1)
    | (with_reducible apply Touches.seq (State.brgEmit_touches ..))
    | (with_reducible apply Touches.seq (State.drawAhead_touches ..))
    | (with_reducible apply Touches.seq (State.timeOut_touches ..))
    | (with_reducible apply Touches.seq (State.takeSeq_touches ..))
    | (with_reducible apply Touches.seq (State.putBport_touches ..))
    | (with_reducible apply Touches.seq (State.bcastNote_touches ..))
    | (with_reducible apply Touches.seq (State.brgServed_touches ..))
    | (with_reducible apply Touches.seq (State.brgCopyGone_touches ..))
    | (with_reducible apply Touches.seq (State.noteExhausted_touches ..))
    | (with_reducible apply Touches.upd_brg)
    | (with_reducible apply Touches.iff)
    | (with_reducible apply Touches.ite)
    | (intro x; intros; try beta_reduce)
    | split

theorem State.brgCancel_touches (s : State) (cls tag : Nat) : Touches 65537 s (s.brgCancel cls tag) := by
  unfold State.brgCancel
  repeat' first
    | exact rfl
    | with_reducible assumption
    | with_reducible exact Touches.refl _ _
    | (with_reducible apply Touches.seq (State.emit_touches ..))
    | (with_reducible apply Touches.upd_brg)
    | split

theorem State.portDown_touches (s : State) (p : Nat) : Touches 69763 s (s.portDown p) := by
  unfold State.portDown
  repeat' first
    | exact rfl
    | with_reducible assumption
    | with_reducible exact Touches.refl _ _
    | (extract_lets +onlyGivenNames s1; refine Touches.cut (x := s1) ?_ ?_; (on_goal 1 => subst s1); (on_goal 2 => (intro h1; clear_value s1)))
    | (extract_lets +onlyGivenNames v1; clear_value v1)
    | (with_reducible apply Touches.seq (State.putBport_touches ..))
    | (with_reducible apply Touches.seq (State.event_touches ..))
    | (with_reducible apply Touches.seq (State.emit_touches ..))
    | (with_reducible apply Touches.seq (State.brgCount_touches ..))
    | (with_reducible apply Touches.seq (State.brgElect_touches ..))
    | (with_reducible apply Touches.upd_brg)
    | (with_reducible apply Touches.each)
    | (with_reducible apply Touches.iff)
    | (with_reducible apply Touches.ite)
    | (intro x; intros; try beta_reduce)

theorem State.timeReqTimer_touches (s : State) (p : Nat) : Touches 65536 s (s.timeReqTimer p) := by
  unfold State.timeReqTimer
  repeat' first
    | exact rfl
    | with_reducible assumption
    | with_reducible exact Touches.refl _ _
    | (with_reducible apply Touches.seq (State.brgToNeighbour_touches ..))
    | (with_reducible apply Touches.iff)
    | (intro x; intros; try beta_reduce)

theorem State.masterTimeout_touches (s : State) (p : Nat) : Touches 69762 s (s.masterTimeout p) := by
  unfold State.masterTimeout
  repeat' first
    | exact rfl
    | with_reducible assumption
    | with_reducible exact Touches.refl _ _
    | (with_reducible apply Touches.seq (State.putBport_touches ..))
    | (with_reducible apply Touches.seq (State.brgElect_touches ..))
    | (with_reducible apply Touches.ite)

theorem State.brgStart_touches (s : State) : Touches 69778 s s.brgStart := by
  unfold State.brgStart
  repeat' first
    | exact rfl
    | with_reducible assumption
    | with_reducible exact Touches.refl _ _
    | (extract_lets +onlyGivenNames s1; refine Touches.cut (x := s1) ?_ ?_; (on_goal 1 => subst s1); (on_goal 2 => (intro h1; clear_value s1)))
    | (extract_lets +onlyGivenNames v1; clear_value v1)
    | (with_reducible apply Touches.seq (State.put_touches ..))
    | (with_reducible apply Touches.seq (State.portsUpdate_touches ..))
    | (with_reducible apply Touches.seq (State.brgElect_touches ..))
    | (with_reducible apply Touches.upd_brg)
    | (with_reducible apply Touches.each)
    | (with_reducible apply Touches.iff)
    | (intro x; intros; try beta_reduce)

theorem State.landfallStart_touches (s : State) : Touches 65554 s s.landfallStart := by
  unfold State.landfallStart
  repeat' first
    | exact rfl
    | with_reducible assumption
    | with_reducible exact Touches.refl _ _
    | (extract_lets +onlyGivenNames s1; refine Touches.cut (x := s1) ?_ ?_; (on_goal 1 => subst s1); (on_goal 2 => (intro h1; clear_value s1)))
    | (extract_lets +onlyGivenNames v1; clear_value v1)
    | (with_reducible apply Touches.seq (State.put_touches ..))
    | (with_reducible apply Touches.seq (State.countReady_touches ..))
    | (with_reducible apply Touches.seq (State.landfallCheck_touches ..))
    | (with_reducible apply Touches.seq (State.set_touches ..))
    | (with_reducible apply Touches.iff)
    | (intro x; intros; try beta_reduce)
    | split

theorem State.landfallClear_touches (s : State) : Touches 65538 s s.landfallClear := by
  unfold State.landfallClear
  repeat' first
    | exact rfl
    | with_reducible assumption
    | with_reducible exact Touches.refl _ _
    | (extract_lets +onlyGivenNames s1; refine Touches.cut (x := s1) ?_ ?_; (on_goal 1 => subst s1); (on_goal 2 => (intro h1; clear_value s1)))
    | (extract_lets +onlyGivenNames v1; clear_value v1)
    | (with_reducible apply Touches.seq (State.clr_touches ..))
    | (with_reducible apply Touches.seq (State.putWord_touches ..))
    | (with_reducible apply Touches.seq (State.putExcl_touches ..))
    | (with_reducible apply Touches.upd_brg)

theorem State.brgDrain_touches (s : State) : Touches 65537 s s.brgDrain := by
  unfold State.brgDrain
  repeat' first
    | exact rfl
    | with_reducible assumption
    | with_reducible exact Touches.refl _ _
    | (extract_lets +onlyGivenNames s1; refine Touches.cut (x := s1) ?_ ?_; (on_goal 1 => subst s1); (on_goal 2 => (intro h1; clear_value s1)))
    | (extract_lets +onlyGivenNames v1; clear_value v1)
    | (with_reducible apply Touches.seq (State.emit_touches ..))
    | (with_reducible apply Touches.upd_brg)
    | (with_reducible apply Touches.each)
    | (with_reducible apply Touches.ite)
    | (intro x; intros; try beta_reduce)

theorem State.brgRetention_touches (s : State) : Touches 1610637331 s s.brgRetention := by
  unfold State.brgRetention
  repeat' first
    | exact rfl
    | with_reducible assumption
    | with_reducible exact Touches.refl _ _
    | (with_reducible apply Touches.seq (State.slotErase_touches ..))
    | (with_reducible apply Touches.each)
    | (with_reducible apply Touches.iff)
    | (intro x; intros; try beta_reduce)

theorem State.laneFell_touches (s : State) (n : Nat) : Touches 69778 s (s.laneFell n) := by
  unfold State.laneFell
  repeat' first
    | exact rfl
    | with_reducible assumption
    | with_reducible exact Touches.refl _ _
    | (with_reducible apply Touches.seq (State.sourceInvalid_touches ..))
    | (with_reducible apply Touches.seq (State.portsUpdate_touches ..))
    | (with_reducible apply Touches.iff)
    | (intro x; intros; try beta_reduce)

theorem State.losDeclared_touches (s : State) (n : Nat) : Touches 102802 s (s.losDeclared n) := by
  unfold State.losDeclared
  repeat' first
    | exact rfl
    | with_reducible assumption
    | with_reducible exact Touches.refl _ _
    | (with_reducible apply Touches.seq (State.losDeclare_touches ..))
    | (with_reducible apply Touches.seq (State.laneFell_touches ..))
    | (with_reducible apply Touches.ite)

theorem State.cdrLost_touches (s : State) (n : Nat) : Touches 102802 s (s.cdrLost n) := by
  unfold State.cdrLost
  repeat' first
    | exact rfl
    | with_reducible assumption
    | with_reducible exact Touches.refl _ _
    | (with_reducible apply Touches.seq (State.cdrLoss_touches ..))
    | (with_reducible apply Touches.seq (State.laneFell_touches ..))
    | (with_reducible apply Touches.ite)

theorem State.lanesRestart_touches (s : State) (ns : List Nat) : Touches 98322 s (s.lanesRestart ns) := by
  unfold State.lanesRestart
  repeat' first
    | exact rfl
    | with_reducible assumption
    | with_reducible exact Touches.refl _ _
    | (with_reducible apply Touches.seq (State.laneRestart_touches ..))
    | (with_reducible apply Touches.seq (State.portsUpdate_touches ..))
    | (with_reducible apply Touches.each)
    | (intro x; intros; try beta_reduce)

end Sys2Proof.Machine
end

