-- ==== Sys2Proof/Laws/TouchSmp.lean ====
section
/-! SUPPORT. What each operation of Machine/Smp.lean can change: one lemma per operation, its set of parts as in Laws/Parts.lean. -/
namespace Sys2Proof.Machine

theorem State.putRot_touches (s : State) (rf : Bool) (r : SmpRot) : Touches 131072 s (s.putRot rf r) := by
  unfold State.putRot
  repeat' first
    | exact rfl
    | with_reducible assumption
    | with_reducible exact Touches.refl _ _
    | (with_reducible apply Touches.upd_smp)
    | (with_reducible apply Touches.ite)

theorem State.clearWindows_touches (s : State) (rf : Bool) : Touches 131072 s (s.clearWindows rf) := by
  unfold State.clearWindows
  repeat' first
    | exact rfl
    | with_reducible assumption
    | with_reducible exact Touches.refl _ _
    | (with_reducible apply Touches.seq (State.putRot_touches ..))

theorem State.attChanged_touches (s : State) : Touches 131072 s s.attChanged := by
  unfold State.attChanged
  repeat' first
    | exact rfl
    | with_reducible assumption
    | with_reducible exact Touches.refl _ _
    | (extract_lets +onlyGivenNames s1; refine Touches.cut (x := s1) ?_ ?_; (on_goal 1 => subst s1); (on_goal 2 => (intro h1; clear_value s1)))
    | (extract_lets +onlyGivenNames v1; clear_value v1)
    | (with_reducible apply Touches.seq (State.putRot_touches ..))
    | (with_reducible apply Touches.upd_smp)

theorem State.putSet_touches (s : State) (k : Nat) (c : CoefSet) : Touches 131072 s (s.putSet k c) := by
  unfold State.putSet
  repeat' first
    | exact rfl
    | with_reducible assumption
    | with_reducible exact Touches.refl _ _
    | (with_reducible apply Touches.upd_smp)

theorem State.handover_touches (s : State) (rf : Bool) (p slice : Nat) (ramp : Bool) : Touches 131074 s (s.handover rf p slice ramp) := by
  unfold State.handover
  repeat' first
    | exact rfl
    | with_reducible assumption
    | with_reducible exact Touches.refl _ _
    | (extract_lets +onlyGivenNames s1; refine Touches.cut (x := s1) ?_ ?_; (on_goal 1 => subst s1); (on_goal 2 => (intro h1; clear_value s1)))
    | (extract_lets +onlyGivenNames v1; clear_value v1)
    | (with_reducible apply Touches.seq (State.event_touches ..))
    | (with_reducible apply Touches.seq (State.put_touches ..))
    | (with_reducible apply Touches.upd_smp)
    | (with_reducible apply Touches.ite)

theorem State.stepOne_touches (s : State) (rf : Bool) : Touches 131074 s (s.stepOne rf) := by
  unfold State.stepOne
  repeat' first
    | exact rfl
    | with_reducible assumption
    | with_reducible exact Touches.refl _ _
    | (with_reducible apply Touches.seq (State.put_touches ..))
    | (with_reducible apply Touches.seq (State.clearWindows_touches ..))

theorem State.stepThree_touches (s : State) (rf : Bool) : Touches 131074 s (s.stepThree rf) := by
  unfold State.stepThree
  repeat' first
    | exact rfl
    | with_reducible assumption
    | with_reducible exact Touches.refl _ _
    | (with_reducible apply Touches.seq (State.put_touches ..))
    | (with_reducible apply Touches.seq (State.clearWindows_touches ..))

theorem State.stepFour_touches (s : State) (rf : Bool) : Touches 131074 s (s.stepFour rf) := by
  unfold State.stepFour
  repeat' first
    | exact rfl
    | with_reducible assumption
    | with_reducible exact Touches.refl _ _
    | (extract_lets +onlyGivenNames s1; refine Touches.cut (x := s1) ?_ ?_; (on_goal 1 => subst s1); (on_goal 2 => (intro h1; clear_value s1)))
    | (extract_lets +onlyGivenNames v1; clear_value v1)
    | (with_reducible apply Touches.seq (State.putRot_touches ..))
    | (with_reducible apply Touches.seq (State.modInc_touches ..))
    | (with_reducible apply Touches.seq (State.set_touches ..))
    | (with_reducible apply Touches.seq (State.event_touches ..))
    | (with_reducible apply Touches.seq (State.stepOne_touches ..))
    | (with_reducible apply Touches.iff)
    | (with_reducible apply Touches.ite)
    | (intro x; intros; try beta_reduce)

theorem State.handoverDone_touches (s : State) (rf : Bool) : Touches 131074 s (s.handoverDone rf) := by
  unfold State.handoverDone
  repeat' first
    | exact rfl
    | with_reducible assumption
    | with_reducible exact Touches.refl _ _
    | (with_reducible apply Touches.seq (State.stepThree_touches ..))
    | (with_reducible apply Touches.seq (State.stepFour_touches ..))
    | split

theorem State.stepHandover_touches (s : State) (rf : Bool) (step : Nat) (ramp : Bool) : Touches 131074 s (s.stepHandover rf step ramp) := by
  unfold State.stepHandover
  repeat' first
    | exact rfl
    | with_reducible assumption
    | with_reducible exact Touches.refl _ _
    | (extract_lets +onlyGivenNames s1; refine Touches.cut (x := s1) ?_ ?_; (on_goal 1 => subst s1); (on_goal 2 => (intro h1; clear_value s1)))
    | (extract_lets +onlyGivenNames v1; clear_value v1)
    | (with_reducible apply Touches.seq (State.put_touches ..))
    | (with_reducible apply Touches.seq (State.handover_touches ..))
    | (with_reducible apply Touches.seq (State.handoverDone_touches ..))
    | (with_reducible apply Touches.ite)

theorem State.soundStart_touches (s : State) (rf : Bool) : Touches 131074 s (s.soundStart rf) := by
  unfold State.soundStart
  repeat' first
    | exact rfl
    | with_reducible assumption
    | with_reducible exact Touches.refl _ _
    | (with_reducible apply Touches.seq (State.stepOne_touches ..))
    | (with_reducible apply Touches.iff)
    | (with_reducible apply Touches.ite)
    | (intro x; intros; try beta_reduce)

theorem State.soundAbandon_touches (s : State) (rf : Bool) (ramp : Bool) : Touches 131074 s (s.soundAbandon rf ramp) := by
  unfold State.soundAbandon
  repeat' first
    | exact rfl
    | with_reducible assumption
    | with_reducible exact Touches.refl _ _
    | (extract_lets +onlyGivenNames s1; refine Touches.cut (x := s1) ?_ ?_; (on_goal 1 => subst s1); (on_goal 2 => (intro h1; clear_value s1)))
    | (extract_lets +onlyGivenNames v1; clear_value v1)
    | (with_reducible apply Touches.seq (State.put_touches ..))
    | (with_reducible apply Touches.seq (State.clearWindows_touches ..))
    | (with_reducible apply Touches.seq (State.handover_touches ..))
    | (with_reducible apply Touches.upd_smp)
    | (with_reducible apply Touches.ite)

theorem State.soundCfg_touches (s : State) (rf : Bool) : Touches 131074 s (s.soundCfg rf) := by
  unfold State.soundCfg
  repeat' first
    | exact rfl
    | with_reducible assumption
    | with_reducible exact Touches.refl _ _
    | (with_reducible apply Touches.seq (State.soundStart_touches ..))
    | (with_reducible apply Touches.seq (State.soundAbandon_touches ..))
    | (with_reducible apply Touches.ite)

theorem State.soundStop_touches (s : State) (rf : Bool) : Touches 131074 s (s.soundStop rf) := by
  unfold State.soundStop
  repeat' first
    | exact rfl
    | with_reducible assumption
    | with_reducible exact Touches.refl _ _
    | (extract_lets +onlyGivenNames s1; refine Touches.cut (x := s1) ?_ ?_; (on_goal 1 => subst s1); (on_goal 2 => (intro h1; clear_value s1)))
    | (extract_lets +onlyGivenNames v1; clear_value v1)
    | (with_reducible apply Touches.seq (State.put_touches ..))
    | (with_reducible apply Touches.seq (State.set_touches ..))
    | (with_reducible apply Touches.seq (State.event_touches ..))
    | (with_reducible apply Touches.seq (State.clearWindows_touches ..))
    | (with_reducible apply Touches.upd_smp)

theorem State.markFaulty_touches (s : State) (g cause : Nat) : Touches 2 s (s.markFaulty g cause) := by
  unfold State.markFaulty
  repeat' first
    | exact rfl
    | with_reducible assumption
    | with_reducible exact Touches.refl _ _
    | (extract_lets +onlyGivenNames s1; refine Touches.cut (x := s1) ?_ ?_; (on_goal 1 => subst s1); (on_goal 2 => (intro h1; clear_value s1)))
    | (extract_lets +onlyGivenNames v1; clear_value v1)
    | (with_reducible apply Touches.seq (State.set_touches ..))
    | (with_reducible apply Touches.seq (State.event_touches ..))
    | (with_reducible apply Touches.seq (State.put_touches ..))
    | (with_reducible apply Touches.iff)
    | (intro x; intros; try beta_reduce)

theorem State.unmasked_touches (s : State) (g cause : Nat) : Touches 258 s (s.unmasked g cause) := by
  unfold State.unmasked
  repeat' first
    | exact rfl
    | with_reducible assumption
    | with_reducible exact Touches.refl _ _
    | (with_reducible apply Touches.seq (State.event_touches ..))
    | (with_reducible apply Touches.seq (State.report_touches ..))

theorem State.returnAll_touches (s : State) (rf : Bool) : Touches 2 s (s.returnAll rf) := by
  unfold State.returnAll
  repeat' first
    | exact rfl
    | with_reducible assumption
    | with_reducible exact Touches.refl _ _
    | (with_reducible apply Touches.seq (State.put_touches ..))
    | (with_reducible apply Touches.each)
    | (with_reducible apply Touches.iff)
    | (intro x; intros; try beta_reduce)

theorem State.declareFault_touches (s : State) (rf : Bool) (i cause : Nat) (alone : Bool) : Touches 131330 s (s.declareFault rf i cause alone) := by
  unfold State.declareFault
  repeat' first
    | exact rfl
    | with_reducible assumption
    | with_reducible exact Touches.refl _ _
    | (extract_lets +onlyGivenNames s1; refine Touches.cut (x := s1) ?_ ?_; (on_goal 1 => subst s1); (on_goal 2 => (intro h1; clear_value s1)))
    | (extract_lets +onlyGivenNames v1; clear_value v1)
    | (with_reducible apply Touches.seq (State.markFaulty_touches ..))
    | (with_reducible apply Touches.seq (State.returnAll_touches ..))
    | (with_reducible apply Touches.seq (State.put_touches ..))
    | (with_reducible apply Touches.seq (State.unmasked_touches ..))
    | (with_reducible apply Touches.seq (State.report_touches ..))
    | (with_reducible apply Touches.seq (State.soundStop_touches ..))
    | (with_reducible apply Touches.ite)

theorem State.declareAll_touches (s : State) (rf : Bool) (xs : List (Nat × Nat)) (alone : Bool) :
    Touches 131330 s (s.declareAll rf xs alone) := by
  induction xs generalizing s alone with
  | nil => exact Touches.refl _ _
  | cons x xs ih => exact Touches.seq (ih _ _) rfl (Touches.mono (State.declareFault_touches ..) rfl)

theorem State.monitorWindow_touches (s : State) (rf : Bool) (stats : List SliceStats) (clipped : Bool) : Touches 131330 s (s.monitorWindow rf stats clipped) := by
  unfold State.monitorWindow
  repeat' first
    | exact rfl
    | with_reducible assumption
    | with_reducible exact Touches.refl _ _
    | (extract_lets +onlyGivenNames s1; refine Touches.cut (x := s1) ?_ ?_; (on_goal 1 => subst s1); (on_goal 2 => (intro h1; clear_value s1)))
    | (extract_lets +onlyGivenNames v1; clear_value v1)
    | (with_reducible apply Touches.seq (State.satInc_touches ..))
    | (with_reducible apply Touches.seq (State.event_touches ..))
    | (with_reducible apply Touches.seq (State.declareAll_touches ..))
    | (with_reducible apply Touches.upd_smp)
    | (with_reducible apply Touches.iff)
    | (with_reducible apply Touches.ite)
    | (intro x; intros; try beta_reduce)

theorem State.soundWindow_touches (s : State) (rf : Bool) (est : CoefSet) (clip : Bool) (power : Int) : Touches 131074 s (s.soundWindow rf est clip power) := by
  unfold State.soundWindow
  repeat' first
    | exact rfl
    | with_reducible assumption
    | with_reducible exact Touches.refl _ _
    | (extract_lets +onlyGivenNames v1; clear_value v1)
    | (with_reducible apply Touches.seq (State.satInc_touches ..))
    | (with_reducible apply Touches.seq (State.event_touches ..))
    | (with_reducible apply Touches.seq (State.putRot_touches ..))
    | (with_reducible apply Touches.ite)

theorem State.trimStepEnd_touches (s : State) (rf : Bool) : Touches 131346 s (s.trimStepEnd rf) := by
  unfold State.trimStepEnd
  repeat' first
    | exact rfl
    | with_reducible assumption
    | with_reducible exact Touches.refl _ _
    | (extract_lets +onlyGivenNames s1; refine Touches.cut (x := s1) ?_ ?_; (on_goal 1 => subst s1); (on_goal 2 => (intro h1; clear_value s1)))
    | (extract_lets +onlyGivenNames v1; clear_value v1)
    | (with_reducible apply Touches.seq (State.drawn_touches ..))
    | (with_reducible apply Touches.seq (State.declareFault_touches ..))
    | (with_reducible apply Touches.seq (State.putSet_touches ..))
    | (with_reducible apply Touches.seq (State.stepHandover_touches ..))
    | (with_reducible apply Touches.iff)
    | (with_reducible apply Touches.ite)
    | (intro x; intros; try beta_reduce)

theorem State.rampEnd_touches (s : State) (c : Nat) : Touches 131074 s (s.rampEnd c) := by
  unfold State.rampEnd
  repeat' first
    | exact rfl
    | with_reducible assumption
    | with_reducible exact Touches.refl _ _
    | (extract_lets +onlyGivenNames s1; refine Touches.cut (x := s1) ?_ ?_; (on_goal 1 => subst s1); (on_goal 2 => (intro h1; clear_value s1)))
    | (extract_lets +onlyGivenNames v1; clear_value v1)
    | (with_reducible apply Touches.seq (State.put_touches ..))
    | (with_reducible apply Touches.seq (State.handoverDone_touches ..))
    | (with_reducible apply Touches.upd_smp)
    | (with_reducible apply Touches.iff)
    | (with_reducible apply Touches.ite)
    | (intro x; intros; try beta_reduce)
    | split

theorem State.smpApply_touches (s : State) (k : Nat) : Touches 131074 s (s.smpApply k) := by
  unfold State.smpApply
  repeat' first
    | exact rfl
    | with_reducible assumption
    | with_reducible exact Touches.refl _ _
    | (extract_lets +onlyGivenNames s1; refine Touches.cut (x := s1) ?_ ?_; (on_goal 1 => subst s1); (on_goal 2 => (intro h1; clear_value s1)))
    | (extract_lets +onlyGivenNames v1; clear_value v1)
    | (with_reducible apply Touches.seq (State.set_touches ..))
    | (with_reducible apply Touches.seq (State.event_touches ..))
    | (with_reducible apply Touches.seq (State.putSet_touches ..))
    | (with_reducible apply Touches.seq (State.clearWindows_touches ..))
    | (with_reducible apply Touches.upd_smp)
    | (with_reducible apply Touches.iff)
    | (with_reducible apply Touches.ite)
    | (intro x; intros; try beta_reduce)

theorem State.smpLoad_touches (s : State) (k : Nat) : Touches 2 s (s.smpLoad k) := by
  unfold State.smpLoad
  repeat' first
    | exact rfl
    | with_reducible assumption
    | with_reducible exact Touches.refl _ _
    | (extract_lets +onlyGivenNames s1; refine Touches.cut (x := s1) ?_ ?_; (on_goal 1 => subst s1); (on_goal 2 => (intro h1; clear_value s1)))
    | (extract_lets +onlyGivenNames v1; clear_value v1)
    | (with_reducible apply Touches.seq (State.put_touches ..))
    | (with_reducible apply Touches.ite)

theorem State.smpForce_touches (s : State) (g : Nat) : Touches 131072 s (s.smpForce g) := by
  unfold State.smpForce
  repeat' first
    | exact rfl
    | with_reducible assumption
    | with_reducible exact Touches.refl _ _
    | (with_reducible apply Touches.upd_smp)
    | (with_reducible apply Touches.ite)

theorem State.smpCmd_touches (s : State) (w : Word) : Touches 131074 s (s.smpCmd w) := by
  unfold State.smpCmd
  repeat' first
    | exact rfl
    | with_reducible assumption
    | with_reducible exact Touches.refl _ _
    | (with_reducible apply Touches.seq (State.smpApply_touches ..))
    | (with_reducible apply Touches.seq (State.smpForce_touches ..))
    | (with_reducible apply Touches.seq (State.smpLoad_touches ..))
    | (with_reducible apply Touches.ite)
    | split

theorem State.smpUnit_touches (s : State) (rf clip room : Bool) : Touches 537002002 s (s.smpUnit rf clip room) := by
  unfold State.smpUnit
  repeat' first
    | exact rfl
    | with_reducible assumption
    | with_reducible exact Touches.refl _ _
    | (extract_lets +onlyGivenNames s1; refine Touches.cut (x := s1) ?_ ?_; (on_goal 1 => subst s1); (on_goal 2 => (intro h1; clear_value s1)))
    | (extract_lets +onlyGivenNames v1; clear_value v1)
    | (with_reducible apply Touches.seq (State.picked_touches ..))
    | (with_reducible apply Touches.seq (State.streamPush_touches ..))
    | (with_reducible apply Touches.seq (State.satInc_touches ..))
    | (with_reducible apply Touches.upd_smp)
    | (with_reducible apply Touches.iff)
    | (with_reducible apply Touches.ite)
    | (intro x; intros; try beta_reduce)

theorem State.dacUnderrun_touches (s : State) (c : Nat) : Touches 3 s (s.dacUnderrun c) := by
  unfold State.dacUnderrun
  repeat' first
    | exact rfl
    | with_reducible assumption
    | with_reducible exact Touches.refl _ _
    | (with_reducible apply Touches.seq (State.satInc_touches ..))
    | (with_reducible apply Touches.seq (State.event_touches ..))
    | (with_reducible apply Touches.seq (State.emit_touches ..))
    | (with_reducible apply Touches.ite)

theorem State.dacBeat_touches (s : State) (w : Word) : Touches 536870913 s (s.dacBeat w) := by
  unfold State.dacBeat
  repeat' first
    | exact rfl
    | with_reducible assumption
    | with_reducible exact Touches.refl _ _
    | (extract_lets +onlyGivenNames s1; refine Touches.cut (x := s1) ?_ ?_; (on_goal 1 => subst s1); (on_goal 2 => (intro h1; clear_value s1)))
    | (extract_lets +onlyGivenNames v1; clear_value v1)
    | (with_reducible apply Touches.seq (State.emit_touches ..))
    | (with_reducible apply Touches.seq (State.streamTake_touches ..))
    | (with_reducible apply Touches.iff)
    | (intro x; intros; try beta_reduce)

theorem State.smpStart_touches (s : State) : Touches 131074 s s.smpStart := by
  unfold State.smpStart
  repeat' first
    | exact rfl
    | with_reducible assumption
    | with_reducible exact Touches.refl _ _
    | (extract_lets +onlyGivenNames s1; refine Touches.cut (x := s1) ?_ ?_; (on_goal 1 => subst s1); (on_goal 2 => (intro h1; clear_value s1)))
    | (extract_lets +onlyGivenNames v1; clear_value v1)
    | (with_reducible apply Touches.seq (State.putWord_touches ..))
    | (with_reducible apply Touches.seq (State.soundStart_touches ..))
    | (with_reducible apply Touches.upd_smp)

theorem State.smpMute_touches (s : State) : Touches 131074 s s.smpMute := by
  unfold State.smpMute
  repeat' first
    | exact rfl
    | with_reducible assumption
    | with_reducible exact Touches.refl _ _
    | (extract_lets +onlyGivenNames s1; refine Touches.cut (x := s1) ?_ ?_; (on_goal 1 => subst s1); (on_goal 2 => (intro h1; clear_value s1)))
    | (extract_lets +onlyGivenNames v1; clear_value v1)
    | (with_reducible apply Touches.seq (State.soundAbandon_touches ..))
    | (with_reducible apply Touches.upd_smp)

theorem State.smpDrain_touches (s : State) : Touches 131072 s s.smpDrain := by
  unfold State.smpDrain
  repeat' first
    | exact rfl
    | with_reducible assumption
    | with_reducible exact Touches.refl _ _
    | (extract_lets +onlyGivenNames s1; refine Touches.cut (x := s1) ?_ ?_; (on_goal 1 => subst s1); (on_goal 2 => (intro h1; clear_value s1)))
    | (extract_lets +onlyGivenNames v1; clear_value v1)
    | (with_reducible apply Touches.seq (State.clearWindows_touches ..))
    | (with_reducible apply Touches.upd_smp)

theorem State.smpResume_touches (s : State) (rf : Bool) : Touches 131074 s (s.smpResume rf) := by
  unfold State.smpResume
  repeat' first
    | exact rfl
    | with_reducible assumption
    | with_reducible exact Touches.refl _ _
    | (with_reducible apply Touches.seq (State.soundStart_touches ..))
    | (with_reducible apply Touches.seq (State.stepHandover_touches ..))
    | (with_reducible apply Touches.seq (State.clearWindows_touches ..))
    | split

end Sys2Proof.Machine
end

