-- ==== Sys2Proof/Laws/TouchRxc.lean ====
section
/-! SUPPORT. What each operation of Machine/Rxc.lean can change: one lemma per operation, its set of parts as in Laws/Parts.lean. -/
namespace Sys2Proof.Machine

theorem State.putDd_touches (s : State) (d : Nat) (v : DdcState) : Touches 262144 s (s.putDd d v) := by
  unfold State.putDd
  repeat' first
    | exact rfl
    | with_reducible assumption
    | with_reducible exact Touches.refl _ _
    | (with_reducible apply Touches.upd_ddc)

theorem State.putRunning_touches (s : State) (d : Nat) (b : Bool) : Touches 2 s (s.putRunning d b) := by
  unfold State.putRunning
  repeat' first
    | exact rfl
    | with_reducible assumption
    | with_reducible exact Touches.refl _ _
    | (with_reducible apply Touches.seq (State.putB_touches ..))

theorem State.unsettle_touches (s : State) (d : Nat) : Touches 262146 s (s.unsettle d) := by
  unfold State.unsettle
  repeat' first
    | exact rfl
    | with_reducible assumption
    | with_reducible exact Touches.refl _ _
    | (extract_lets +onlyGivenNames v1; clear_value v1)
    | (with_reducible apply Touches.seq (State.putDd_touches ..))
    | (with_reducible apply Touches.seq (State.putB_touches ..))

theorem State.ddcPass_touches (s : State) (d k : Nat) : Touches 262162 s (s.ddcPass d k) := by
  unfold State.ddcPass
  repeat' first
    | exact rfl
    | with_reducible assumption
    | with_reducible exact Touches.refl _ _
    | (extract_lets +onlyGivenNames s1; refine Touches.cut (x := s1) ?_ ?_; (on_goal 1 => subst s1); (on_goal 2 => (intro h1; clear_value s1)))
    | (extract_lets +onlyGivenNames v1; clear_value v1)
    | (with_reducible apply Touches.seq (State.putDd_touches ..))
    | (with_reducible apply Touches.seq (State.putB_touches ..))
    | (with_reducible apply Touches.seq (State.picked_touches ..))
    | (with_reducible apply Touches.iff)
    | (intro x; intros; try beta_reduce)

theorem State.ddcFill_touches (s : State) (d : Nat) : Touches 262162 s (s.ddcFill d) := by
  unfold State.ddcFill
  repeat' first
    | exact rfl
    | with_reducible assumption
    | with_reducible exact Touches.refl _ _
    | (with_reducible apply Touches.seq (State.ddcPass_touches ..))
    | (with_reducible apply Touches.iff)
    | (intro x; intros; try beta_reduce)

theorem State.ddcSome_touches (s : State) (d : Nat) : Touches 262162 s (s.ddcSome d) := by
  unfold State.ddcSome
  repeat' first
    | exact rfl
    | with_reducible assumption
    | with_reducible exact Touches.refl _ _
    | (with_reducible apply Touches.seq (State.drawn_touches ..))
    | (with_reducible apply Touches.seq (State.ddcPass_touches ..))
    | (with_reducible apply Touches.iff)
    | (intro x; intros; try beta_reduce)

theorem State.ddcToBoundary_touches (s : State) (d : Nat) : Touches 262162 s (s.ddcToBoundary d) := by
  unfold State.ddcToBoundary
  repeat' first
    | exact rfl
    | with_reducible assumption
    | with_reducible exact Touches.refl _ _
    | (extract_lets +onlyGivenNames v1; clear_value v1)
    | (with_reducible apply Touches.seq (State.drawn_touches ..))
    | (with_reducible apply Touches.seq (State.ddcPass_touches ..))
    | (with_reducible apply Touches.iff)
    | (intro x; intros; try beta_reduce)

theorem State.ddcForget_touches (s : State) (d : Nat) : Touches 262144 s (s.ddcForget d) := by
  unfold State.ddcForget
  repeat' first
    | exact rfl
    | with_reducible assumption
    | with_reducible exact Touches.refl _ _
    | (with_reducible apply Touches.seq (State.putDd_touches ..))

theorem State.ddcClear_touches (s : State) (d : Nat) : Touches 262144 s (s.ddcClear d) := by
  unfold State.ddcClear
  repeat' first
    | exact rfl
    | with_reducible assumption
    | with_reducible exact Touches.refl _ _
    | (with_reducible apply Touches.seq (State.ddcForget_touches ..))
    | (with_reducible apply Touches.seq (State.putDd_touches ..))

theorem State.ddcRelease_touches (s : State) (d : Nat) (room : Bool) : Touches 537133074 s (s.ddcRelease d room) := by
  unfold State.ddcRelease
  repeat' first
    | exact rfl
    | with_reducible assumption
    | with_reducible exact Touches.refl _ _
    | (extract_lets +onlyGivenNames s1; refine Touches.cut (x := s1) ?_ ?_; (on_goal 1 => subst s1); (on_goal 2 => (intro h1; clear_value s1)))
    | (extract_lets +onlyGivenNames v1; clear_value v1)
    | (with_reducible apply Touches.seq (State.drawn_touches ..))
    | (with_reducible apply Touches.seq (State.ddcForget_touches ..))
    | (with_reducible apply Touches.seq (State.streamPush_touches ..))
    | (with_reducible apply Touches.seq (State.satInc_touches ..))
    | (with_reducible apply Touches.seq (State.set_touches ..))
    | (with_reducible apply Touches.seq (State.event_touches ..))
    | (with_reducible apply Touches.ite)

theorem State.ddcFlags_touches (s : State) (d : Nat) : Touches 2 s (s.ddcFlags d) := by
  unfold State.ddcFlags
  repeat' first
    | exact rfl
    | with_reducible assumption
    | with_reducible exact Touches.refl _ _
    | (extract_lets +onlyGivenNames s1; refine Touches.cut (x := s1) ?_ ?_; (on_goal 1 => subst s1); (on_goal 2 => (intro h1; clear_value s1)))
    | (extract_lets +onlyGivenNames v1; clear_value v1)
    | (with_reducible apply Touches.seq (State.satInc_touches ..))
    | (with_reducible apply Touches.seq (State.set_touches ..))
    | (with_reducible apply Touches.seq (State.event_touches ..))
    | (with_reducible apply Touches.seq (State.put_touches ..))
    | (with_reducible apply Touches.iff)
    | (intro x; intros; try beta_reduce)

theorem State.ddcCloseEarly_touches (s : State) (d : Nat) : Touches 537133074 s (s.ddcCloseEarly d) := by
  unfold State.ddcCloseEarly
  repeat' first
    | exact rfl
    | with_reducible assumption
    | with_reducible exact Touches.refl _ _
    | (extract_lets +onlyGivenNames s1; refine Touches.cut (x := s1) ?_ ?_; (on_goal 1 => subst s1); (on_goal 2 => (intro h1; clear_value s1)))
    | (extract_lets +onlyGivenNames v1; clear_value v1)
    | (with_reducible apply Touches.seq (State.ddcSome_touches ..))
    | (with_reducible apply Touches.seq (State.ddcFlags_touches ..))
    | (with_reducible apply Touches.seq (State.ddcRelease_touches ..))
    | (with_reducible apply Touches.iff)
    | (intro x; intros; try beta_reduce)

theorem State.ddcApplySettings_touches (s : State) (d : Nat) : Touches 262146 s (s.ddcApplySettings d) := by
  unfold State.ddcApplySettings
  repeat' first
    | exact rfl
    | with_reducible assumption
    | with_reducible exact Touches.refl _ _
    | (extract_lets +onlyGivenNames s1; refine Touches.cut (x := s1) ?_ ?_; (on_goal 1 => subst s1); (on_goal 2 => (intro h1; clear_value s1)))
    | (extract_lets +onlyGivenNames v1; clear_value v1)
    | (with_reducible apply Touches.seq (State.putDd_touches ..))
    | (with_reducible apply Touches.seq (State.put_touches ..))

theorem State.ncoTake_touches (s : State) (d fw : Nat) : Touches 262144 s (s.ncoTake d fw) := by
  unfold State.ncoTake
  repeat' first
    | exact rfl
    | with_reducible assumption
    | with_reducible exact Touches.refl _ _
    | (with_reducible apply Touches.seq (State.putDd_touches ..))

theorem State.ddcBegin_touches (s : State) (d : Nat) : Touches 262146 s (s.ddcBegin d) := by
  unfold State.ddcBegin
  repeat' first
    | exact rfl
    | with_reducible assumption
    | with_reducible exact Touches.refl _ _
    | (extract_lets +onlyGivenNames s1; refine Touches.cut (x := s1) ?_ ?_; (on_goal 1 => subst s1); (on_goal 2 => (intro h1; clear_value s1)))
    | (extract_lets +onlyGivenNames v1; clear_value v1)
    | (with_reducible apply Touches.seq (State.ddcApplySettings_touches ..))
    | (with_reducible apply Touches.seq (State.ddcClear_touches ..))
    | (with_reducible apply Touches.seq (State.putDd_touches ..))
    | (with_reducible apply Touches.seq (State.clr_touches ..))
    | (with_reducible apply Touches.seq (State.putRunning_touches ..))
    | (with_reducible apply Touches.seq (State.unsettle_touches ..))

theorem State.ddcEnable_touches (s : State) (d : Nat) : Touches 262146 s (s.ddcEnable d) := by
  unfold State.ddcEnable
  repeat' first
    | exact rfl
    | with_reducible assumption
    | with_reducible exact Touches.refl _ _
    | (extract_lets +onlyGivenNames s1; refine Touches.cut (x := s1) ?_ ?_; (on_goal 1 => subst s1); (on_goal 2 => (intro h1; clear_value s1)))
    | (extract_lets +onlyGivenNames v1; clear_value v1)
    | (with_reducible apply Touches.seq (State.ddcBegin_touches ..))
    | (with_reducible apply Touches.seq (State.putRunning_touches ..))
    | (with_reducible apply Touches.seq (State.clr_touches ..))
    | (with_reducible apply Touches.seq (State.ddcForget_touches ..))
    | (with_reducible apply Touches.seq (State.putDd_touches ..))
    | (with_reducible apply Touches.ite)

theorem State.ddcCfgWritten_touches (s : State) (d : Nat) (old : Word) : Touches 262146 s (s.ddcCfgWritten d old) := by
  unfold State.ddcCfgWritten
  repeat' first
    | exact rfl
    | with_reducible assumption
    | with_reducible exact Touches.refl _ _
    | (extract_lets +onlyGivenNames v1; clear_value v1)
    | (with_reducible apply Touches.seq (State.putDd_touches ..))
    | (with_reducible apply Touches.seq (State.ddcEnable_touches ..))
    | (with_reducible apply Touches.iff)
    | (intro x; intros; try beta_reduce)

theorem State.latch_touches (s : State) (d : Nat) (reset restart : Bool) : Touches 262146 s (s.latch d reset restart) := by
  unfold State.latch
  repeat' first
    | exact rfl
    | with_reducible assumption
    | with_reducible exact Touches.refl _ _
    | (extract_lets +onlyGivenNames v1; clear_value v1)
    | (with_reducible apply Touches.seq (State.putDd_touches ..))
    | (with_reducible apply Touches.seq (State.set_touches ..))

theorem State.retune_touches (s : State) (d : Nat) (reset : Bool) : Touches 537133074 s (s.retune d reset) := by
  unfold State.retune
  repeat' first
    | exact rfl
    | with_reducible assumption
    | with_reducible exact Touches.refl _ _
    | (with_reducible apply Touches.seq (State.set_touches ..))
    | (with_reducible apply Touches.seq (State.ddcCloseEarly_touches ..))
    | (with_reducible apply Touches.seq (State.ddcClear_touches ..))
    | (with_reducible apply Touches.seq (State.ddcApplySettings_touches ..))
    | (with_reducible apply Touches.seq (State.latch_touches ..))
    | (with_reducible apply Touches.ite)

theorem State.retuneApply_touches (s : State) (d : Nat) : Touches 262162 s (s.retuneApply d) := by
  unfold State.retuneApply
  repeat' first
    | exact rfl
    | with_reducible assumption
    | with_reducible exact Touches.refl _ _
    | (extract_lets +onlyGivenNames s1; refine Touches.cut (x := s1) ?_ ?_; (on_goal 1 => subst s1); (on_goal 2 => (intro h1; clear_value s1)))
    | (extract_lets +onlyGivenNames v1; clear_value v1)
    | (with_reducible apply Touches.seq (State.ddcToBoundary_touches ..))
    | (with_reducible apply Touches.seq (State.ddcSome_touches ..))
    | (with_reducible apply Touches.seq (State.ncoTake_touches ..))
    | (with_reducible apply Touches.seq (State.putDd_touches ..))
    | (with_reducible apply Touches.seq (State.clr_touches ..))
    | (with_reducible apply Touches.seq (State.modInc_touches ..))
    | (with_reducible apply Touches.seq (State.event_touches ..))
    | (with_reducible apply Touches.seq (State.unsettle_touches ..))
    | (with_reducible apply Touches.ite)
    | split

theorem State.swap_touches (s : State) (d : Nat) : Touches 2 s (s.swap d) := by
  unfold State.swap
  repeat' first
    | exact rfl
    | with_reducible assumption
    | with_reducible exact Touches.refl _ _
    | (with_reducible apply Touches.seq (State.set_touches ..))

theorem State.swapApply_touches (s : State) (d : Nat) : Touches 262162 s (s.swapApply d) := by
  unfold State.swapApply
  repeat' first
    | exact rfl
    | with_reducible assumption
    | with_reducible exact Touches.refl _ _
    | (extract_lets +onlyGivenNames s1; refine Touches.cut (x := s1) ?_ ?_; (on_goal 1 => subst s1); (on_goal 2 => (intro h1; clear_value s1)))
    | (extract_lets +onlyGivenNames v1; clear_value v1)
    | (with_reducible apply Touches.seq (State.clr_touches ..))
    | (with_reducible apply Touches.seq (State.set_touches ..))
    | (with_reducible apply Touches.seq (State.ddcToBoundary_touches ..))
    | (with_reducible apply Touches.seq (State.put_touches ..))
    | (with_reducible apply Touches.seq (State.putDd_touches ..))
    | (with_reducible apply Touches.seq (State.event_touches ..))
    | (with_reducible apply Touches.seq (State.ddcEnable_touches ..))
    | (with_reducible apply Touches.ite)

theorem State.coefPut_touches (s : State) (d t : Nat) (c : BitVec 18) : Touches 262146 s (s.coefPut d t c) := by
  unfold State.coefPut
  repeat' first
    | exact rfl
    | with_reducible assumption
    | with_reducible exact Touches.refl _ _
    | (extract_lets +onlyGivenNames v1; clear_value v1)
    | (with_reducible apply Touches.seq (State.set_touches ..))
    | (with_reducible apply Touches.seq (State.putDd_touches ..))
    | (with_reducible apply Touches.ite)

theorem State.hopTo_touches (s : State) (d e : Nat) : Touches 262146 s (s.hopTo d e) := by
  unfold State.hopTo
  repeat' first
    | exact rfl
    | with_reducible assumption
    | with_reducible exact Touches.refl _ _
    | (extract_lets +onlyGivenNames s1; refine Touches.cut (x := s1) ?_ ?_; (on_goal 1 => subst s1); (on_goal 2 => (intro h1; clear_value s1)))
    | (extract_lets +onlyGivenNames v1; clear_value v1)
    | (with_reducible apply Touches.seq (State.put_touches ..))
    | (with_reducible apply Touches.seq (State.modInc_touches ..))
    | (with_reducible apply Touches.seq (State.ncoTake_touches ..))

theorem State.hopStart_touches (s : State) (d : Nat) : Touches 262162 s (s.hopStart d) := by
  unfold State.hopStart
  repeat' first
    | exact rfl
    | with_reducible assumption
    | with_reducible exact Touches.refl _ _
    | (extract_lets +onlyGivenNames s1; refine Touches.cut (x := s1) ?_ ?_; (on_goal 1 => subst s1); (on_goal 2 => (intro h1; clear_value s1)))
    | (extract_lets +onlyGivenNames v1; clear_value v1)
    | (with_reducible apply Touches.seq (State.ddcToBoundary_touches ..))
    | (with_reducible apply Touches.seq (State.ddcForget_touches ..))
    | (with_reducible apply Touches.seq (State.putDd_touches ..))
    | (with_reducible apply Touches.seq (State.set_touches ..))
    | (with_reducible apply Touches.seq (State.hopTo_touches ..))
    | (with_reducible apply Touches.ite)

theorem State.hopStopCmd_touches (s : State) (d : Nat) : Touches 262144 s (s.hopStopCmd d) := by
  unfold State.hopStopCmd
  repeat' first
    | exact rfl
    | with_reducible assumption
    | with_reducible exact Touches.refl _ _
    | (with_reducible apply Touches.seq (State.putDd_touches ..))
    | (with_reducible apply Touches.iff)
    | (intro x; intros; try beta_reduce)

theorem State.hopAdvance_touches (s : State) (d : Nat) : Touches 262146 s (s.hopAdvance d) := by
  unfold State.hopAdvance
  repeat' first
    | exact rfl
    | with_reducible assumption
    | with_reducible exact Touches.refl _ _
    | (extract_lets +onlyGivenNames s1; refine Touches.cut (x := s1) ?_ ?_; (on_goal 1 => subst s1); (on_goal 2 => (intro h1; clear_value s1)))
    | (extract_lets +onlyGivenNames v1; clear_value v1)
    | (with_reducible apply Touches.seq (State.event_touches ..))
    | (with_reducible apply Touches.seq (State.modInc_touches ..))
    | (with_reducible apply Touches.seq (State.clr_touches ..))
    | (with_reducible apply Touches.seq (State.put_touches ..))
    | (with_reducible apply Touches.seq (State.putDd_touches ..))
    | (with_reducible apply Touches.seq (State.hopTo_touches ..))
    | (with_reducible apply Touches.iff)
    | (with_reducible apply Touches.ite)
    | (intro x; intros; try beta_reduce)

theorem State.ddcCmd_touches (s : State) (d : Nat) (w : Word) : Touches 537133074 s (s.ddcCmd d w) := by
  unfold State.ddcCmd
  repeat' first
    | exact rfl
    | with_reducible assumption
    | with_reducible exact Touches.refl _ _
    | (extract_lets +onlyGivenNames s1; refine Touches.cut (x := s1) ?_ ?_; (on_goal 1 => subst s1); (on_goal 2 => (intro h1; clear_value s1)))
    | (extract_lets +onlyGivenNames v1; clear_value v1)
    | (with_reducible apply Touches.seq (State.retune_touches ..))
    | (with_reducible apply Touches.seq (State.swap_touches ..))
    | (with_reducible apply Touches.seq (State.hopStart_touches ..))
    | (with_reducible apply Touches.seq (State.hopStopCmd_touches ..))
    | (with_reducible apply Touches.iff)
    | (intro x; intros; try beta_reduce)

theorem State.ddcUnit_touches (s : State) (d : Nat) (room : Bool) : Touches 537133074 s (s.ddcUnit d room) := by
  unfold State.ddcUnit
  repeat' first
    | exact rfl
    | with_reducible assumption
    | with_reducible exact Touches.refl _ _
    | (extract_lets +onlyGivenNames s1; refine Touches.cut (x := s1) ?_ ?_; (on_goal 1 => subst s1); (on_goal 2 => (intro h1; clear_value s1)))
    | (extract_lets +onlyGivenNames v1; clear_value v1)
    | (with_reducible apply Touches.seq (State.ddcFlags_touches ..))
    | (with_reducible apply Touches.seq (State.ddcRelease_touches ..))
    | (with_reducible apply Touches.seq (State.putRunning_touches ..))
    | (with_reducible apply Touches.iff)
    | (with_reducible apply Touches.ite)
    | (intro x; intros; try beta_reduce)

theorem State.ddcCheck_touches (s : State) (d addr : Nat) (double : Bool) : Touches 262402 s (s.ddcCheck d addr double) := by
  unfold State.ddcCheck
  repeat' first
    | exact rfl
    | with_reducible assumption
    | with_reducible exact Touches.refl _ _
    | (with_reducible apply Touches.seq (State.putDd_touches ..))
    | (with_reducible apply Touches.seq (State.set_touches ..))
    | (with_reducible apply Touches.seq (State.event_touches ..))
    | (with_reducible apply Touches.seq (State.report_touches ..))
    | (with_reducible apply Touches.ite)

theorem State.rxcStart_touches (s : State) : Touches 262146 s s.rxcStart := by
  unfold State.rxcStart
  repeat' first
    | exact rfl
    | with_reducible assumption
    | with_reducible exact Touches.refl _ _
    | (extract_lets +onlyGivenNames s1; refine Touches.cut (x := s1) ?_ ?_; (on_goal 1 => subst s1); (on_goal 2 => (intro h1; clear_value s1)))
    | (extract_lets +onlyGivenNames v1; clear_value v1)
    | (with_reducible apply Touches.seq (State.putWord_touches ..))
    | (with_reducible apply Touches.seq (State.put_touches ..))
    | (with_reducible apply Touches.seq (State.putDd_touches ..))
    | (with_reducible apply Touches.seq (State.ddcEnable_touches ..))
    | (with_reducible apply Touches.each)
    | (intro x; intros; try beta_reduce)

theorem State.rxcDrain_touches (s : State) : Touches 262146 s s.rxcDrain := by
  unfold State.rxcDrain
  repeat' first
    | exact rfl
    | with_reducible assumption
    | with_reducible exact Touches.refl _ _
    | (with_reducible apply Touches.seq (State.putRunning_touches ..))
    | (with_reducible apply Touches.seq (State.ddcClear_touches ..))
    | (with_reducible apply Touches.each)
    | (intro x; intros; try beta_reduce)

theorem State.rxcMute_touches (s : State) : Touches 262146 s s.rxcMute := by
  unfold State.rxcMute
  repeat' first
    | exact rfl
    | with_reducible assumption
    | with_reducible exact Touches.refl _ _
    | (with_reducible apply Touches.seq (State.set_touches ..))
    | (with_reducible apply Touches.seq (State.putRunning_touches ..))
    | (with_reducible apply Touches.seq (State.ddcClear_touches ..))
    | (with_reducible apply Touches.each)
    | (intro x; intros; try beta_reduce)

theorem State.rxcRestart_touches (s : State) : Touches 262146 s s.rxcRestart := by
  unfold State.rxcRestart
  repeat' first
    | exact rfl
    | with_reducible assumption
    | with_reducible exact Touches.refl _ _
    | (extract_lets +onlyGivenNames s1; refine Touches.cut (x := s1) ?_ ?_; (on_goal 1 => subst s1); (on_goal 2 => (intro h1; clear_value s1)))
    | (extract_lets +onlyGivenNames v1; clear_value v1)
    | (with_reducible apply Touches.seq (State.clr_touches ..))
    | (with_reducible apply Touches.seq (State.ddcClear_touches ..))
    | (with_reducible apply Touches.seq (State.putDd_touches ..))
    | (with_reducible apply Touches.seq (State.ddcBegin_touches ..))
    | (with_reducible apply Touches.seq (State.putRunning_touches ..))
    | (with_reducible apply Touches.seq (State.unsettle_touches ..))
    | (with_reducible apply Touches.seq (State.put_touches ..))
    | (with_reducible apply Touches.seq (State.ncoTake_touches ..))
    | (with_reducible apply Touches.each)
    | (with_reducible apply Touches.iff)
    | (with_reducible apply Touches.ite)
    | (intro x; intros; try beta_reduce)

end Sys2Proof.Machine
end

