-- ==== Sys2Proof/Laws/TouchBcd.lean ====
section
/-! SUPPORT. What each operation of Machine/Bcd.lean can change: one lemma per operation, its set of parts as in Laws/Parts.lean. -/
namespace Sys2Proof.Machine

theorem State.putCx_touches (s : State) (c : Nat) (v : BcdCtx) : Touches 524288 s (s.putCx c v) := by
  unfold State.putCx
  repeat' first
    | exact rfl
    | with_reducible assumption
    | with_reducible exact Touches.refl _ _
    | (with_reducible apply Touches.upd_ctx)

theorem State.putLock_touches (s : State) (c : Nat) (b : Bool) : Touches 524290 s (s.putLock c b) := by
  unfold State.putLock
  repeat' first
    | exact rfl
    | with_reducible assumption
    | with_reducible exact Touches.refl _ _
    | (extract_lets +onlyGivenNames s1; refine Touches.cut (x := s1) ?_ ?_; (on_goal 1 => subst s1); (on_goal 2 => (intro h1; clear_value s1)))
    | (extract_lets +onlyGivenNames v1; clear_value v1)
    | (with_reducible apply Touches.seq (State.putB_touches ..))
    | (with_reducible apply Touches.seq (State.event_touches ..))
    | (with_reducible apply Touches.seq (State.set_touches ..))
    | (with_reducible apply Touches.seq (State.putCx_touches ..))
    | (with_reducible apply Touches.ite)

theorem State.ctxCheckDrop_touches (s : State) (c : Nat) : Touches 2 s (s.ctxCheckDrop c) := by
  unfold State.ctxCheckDrop
  repeat' first
    | exact rfl
    | with_reducible assumption
    | with_reducible exact Touches.refl _ _
    | (with_reducible apply Touches.seq (State.satInc_touches ..))
    | (with_reducible apply Touches.seq (State.set_touches ..))
    | (with_reducible apply Touches.seq (State.event_touches ..))

theorem State.ctxRestart_touches (s : State) (c : Nat) : Touches 524306 s (s.ctxRestart c) := by
  unfold State.ctxRestart
  repeat' first
    | exact rfl
    | with_reducible assumption
    | with_reducible exact Touches.refl _ _
    | (extract_lets +onlyGivenNames s1; refine Touches.cut (x := s1) ?_ ?_; (on_goal 1 => subst s1); (on_goal 2 => (intro h1; clear_value s1)))
    | (extract_lets +onlyGivenNames v1; clear_value v1)
    | (with_reducible apply Touches.seq (State.drawn_touches ..))
    | (with_reducible apply Touches.seq (State.satAdd_touches ..))
    | (with_reducible apply Touches.seq (State.putLock_touches ..))
    | (with_reducible apply Touches.seq (State.clr_touches ..))
    | (with_reducible apply Touches.seq (State.putCx_touches ..))
    | (with_reducible apply Touches.iff)
    | (with_reducible apply Touches.ite)
    | (intro x; intros; try beta_reduce)

theorem State.ctxGen_touches (s : State) (d : Nat) : Touches 524306 s (s.ctxGen d) := by
  unfold State.ctxGen
  repeat' first
    | exact rfl
    | with_reducible assumption
    | with_reducible exact Touches.refl _ _
    | (with_reducible apply Touches.seq (State.ctxRestart_touches ..))
    | (with_reducible apply Touches.each)
    | (with_reducible apply Touches.iff)
    | (intro x; intros; try beta_reduce)

theorem State.withGen_touches {T : Nat} {r s : State} {d : Nat} {f : State → State} (h : Touches T r s) (hT : T ||| 524306 = T)
    (hf : ∀ x, Touches T r x → Touches T r (f x)) : Touches T r (s.withGen d f) := by
  unfold State.withGen
  extract_lets t
  split
  · exact hf s h
  · exact Touches.seq (State.ctxGen_touches ..) hT (hf s h)

theorem State.ownedFilter_touches (s : State) (d c : Nat) : Touches 262162 s (s.ownedFilter d c) := by
  unfold State.ownedFilter
  repeat' first
    | exact rfl
    | with_reducible assumption
    | with_reducible exact Touches.refl _ _
    | (extract_lets +onlyGivenNames s1; refine Touches.cut (x := s1) ?_ ?_; (on_goal 1 => subst s1); (on_goal 2 => (intro h1; clear_value s1)))
    | (extract_lets +onlyGivenNames v1; clear_value v1)
    | (with_reducible apply Touches.seq (State.drawn_touches ..))
    | (with_reducible apply Touches.seq (State.put_touches ..))
    | (with_reducible apply Touches.seq (State.putDd_touches ..))
    | (with_reducible apply Touches.seq (State.drawnBytes_touches ..))

theorem State.ctxTune_touches (s : State) (c : Nat) : Touches 537133074 s (s.ctxTune c) := by
  unfold State.ctxTune
  repeat' first
    | exact rfl
    | with_reducible assumption
    | with_reducible exact Touches.refl _ _
    | (extract_lets +onlyGivenNames s1; refine Touches.cut (x := s1) ?_ ?_; (on_goal 1 => subst s1); (on_goal 2 => (intro h1; clear_value s1)))
    | (extract_lets +onlyGivenNames v1; clear_value v1)
    | (with_reducible apply Touches.seq (State.putWord_touches ..))
    | (with_reducible apply Touches.seq (State.ownedFilter_touches ..))
    | (with_reducible apply Touches.seq (State.retune_touches ..))
    | (with_reducible apply Touches.iff)
    | (with_reducible apply Touches.ite)
    | (intro x; intros; try beta_reduce)

theorem State.bcdCfgWritten_touches (s : State) (old : Word) : Touches 537133074 s (s.bcdCfgWritten old) := by
  unfold State.bcdCfgWritten
  repeat' first
    | exact rfl
    | with_reducible assumption
    | with_reducible exact Touches.refl _ _
    | (with_reducible apply Touches.seq (State.ctxTune_touches ..))
    | (with_reducible apply Touches.each)
    | (with_reducible apply Touches.ite)
    | (intro x; intros; try beta_reduce)

theorem State.ownerWritten_touches (s : State) (d : Nat) (old : Word) : Touches 537133074 s (s.ownerWritten d old) := by
  unfold State.ownerWritten
  repeat' first
    | exact rfl
    | with_reducible assumption
    | with_reducible exact Touches.refl _ _
    | (with_reducible apply Touches.seq (State.ctxTune_touches ..))
    | (with_reducible apply Touches.each)
    | (with_reducible apply Touches.ite)
    | (intro x; intros; try beta_reduce)

theorem State.sideUnit_touches (s : State) (c type corr ref : Nat) (bytes : List Byte) (room : Bool) : Touches 536870914 s (s.sideUnit c type corr ref bytes room) := by
  unfold State.sideUnit
  repeat' first
    | exact rfl
    | with_reducible assumption
    | with_reducible exact Touches.refl _ _
    | (extract_lets +onlyGivenNames v1; clear_value v1)
    | (with_reducible apply Touches.seq (State.modInc_touches ..))
    | (with_reducible apply Touches.seq (State.streamPush_touches ..))
    | (with_reducible apply Touches.seq (State.satInc_touches ..))
    | (with_reducible apply Touches.ite)

theorem State.afUnit_touches (s : State) (c hz e kind level : Nat) : Touches 536870930 s (s.afUnit c hz e kind level) := by
  unfold State.afUnit
  repeat' first
    | exact rfl
    | with_reducible assumption
    | with_reducible exact Touches.refl _ _
    | (with_reducible apply Touches.seq (State.drawn_touches ..))
    | (with_reducible apply Touches.seq (State.sideUnit_touches ..))

theorem State.timeMessage_touches (s : State) (c src ref : Nat) (t : BcdTime) (room : Bool) : Touches 536875011 s (s.timeMessage c src ref t room) := by
  unfold State.timeMessage
  repeat' first
    | exact rfl
    | with_reducible assumption
    | with_reducible exact Touches.refl _ _
    | (extract_lets +onlyGivenNames s1; refine Touches.cut (x := s1) ?_ ?_; (on_goal 1 => subst s1); (on_goal 2 => (intro h1; clear_value s1)))
    | (extract_lets +onlyGivenNames v1; clear_value v1)
    | (with_reducible apply Touches.seq (State.satInc_touches ..))
    | (with_reducible apply Touches.seq (State.sideUnit_touches ..))
    | (with_reducible apply Touches.seq (State.event_touches ..))
    | (with_reducible apply Touches.seq (State.emit_touches ..))
    | (with_reducible apply Touches.seq (State.broadcastTime_touches ..))
    | (with_reducible apply Touches.iff)
    | (with_reducible apply Touches.ite)
    | (intro x; intros; try beta_reduce)

theorem State.afLearn_touches (s : State) (c src hz : Nat) : Touches 2 s (s.afLearn c src hz) := by
  unfold State.afLearn
  repeat' first
    | exact rfl
    | with_reducible assumption
    | with_reducible exact Touches.refl _ _
    | (with_reducible apply Touches.seq (State.putWord_touches ..))
    | (with_reducible apply Touches.seq (State.set_touches ..))
    | (with_reducible apply Touches.seq (State.put_touches ..))
    | (with_reducible apply Touches.ite)
    | split

theorem State.afForget_touches (s : State) (c : Nat) : Touches 524290 s (s.afForget c) := by
  unfold State.afForget
  repeat' first
    | exact rfl
    | with_reducible assumption
    | with_reducible exact Touches.refl _ _
    | (extract_lets +onlyGivenNames s1; refine Touches.cut (x := s1) ?_ ?_; (on_goal 1 => subst s1); (on_goal 2 => (intro h1; clear_value s1)))
    | (extract_lets +onlyGivenNames v1; clear_value v1)
    | (with_reducible apply Touches.seq (State.putWord_touches ..))
    | (with_reducible apply Touches.seq (State.putCx_touches ..))
    | (with_reducible apply Touches.each)
    | (intro x; intros; try beta_reduce)

theorem State.identFail_touches (s : State) (c : Nat) : Touches 537657362 s (s.identFail c) := by
  unfold State.identFail
  repeat' first
    | exact rfl
    | with_reducible assumption
    | with_reducible exact Touches.refl _ _
    | (extract_lets +onlyGivenNames s1; refine Touches.cut (x := s1) ?_ ?_; (on_goal 1 => subst s1); (on_goal 2 => (intro h1; clear_value s1)))
    | (extract_lets +onlyGivenNames v1; clear_value v1)
    | (with_reducible apply Touches.seq (State.putCx_touches ..))
    | (with_reducible apply Touches.seq (State.clr_touches ..))
    | (with_reducible apply Touches.seq (State.set_touches ..))
    | (with_reducible apply Touches.seq (State.event_touches ..))
    | (with_reducible apply Touches.seq (State.afUnit_touches ..))
    | (with_reducible apply Touches.seq (State.ctxTune_touches ..))
    | split

theorem State.identSeen_touches (s : State) (c id : Nat) : Touches 537657362 s (s.identSeen c id) := by
  unfold State.identSeen
  repeat' first
    | exact rfl
    | with_reducible assumption
    | with_reducible exact Touches.refl _ _
    | (extract_lets +onlyGivenNames s1; refine Touches.cut (x := s1) ?_ ?_; (on_goal 1 => subst s1); (on_goal 2 => (intro h1; clear_value s1)))
    | (extract_lets +onlyGivenNames v1; clear_value v1)
    | (with_reducible apply Touches.seq (State.putCx_touches ..))
    | (with_reducible apply Touches.seq (State.clr_touches ..))
    | (with_reducible apply Touches.seq (State.set_touches ..))
    | (with_reducible apply Touches.seq (State.put_touches ..))
    | (with_reducible apply Touches.seq (State.identFail_touches ..))
    | (with_reducible apply Touches.seq (State.afForget_touches ..))
    | (with_reducible apply Touches.iff)
    | (with_reducible apply Touches.ite)
    | (intro x; intros; try beta_reduce)

theorem State.afPair_touches (s : State) (c a b : Nat) : Touches 524290 s (s.afPair c a b) := by
  unfold State.afPair
  repeat' first
    | exact rfl
    | with_reducible assumption
    | with_reducible exact Touches.refl _ _
    | (extract_lets +onlyGivenNames f1; refine Touches.cutG (f := f1) ?_ ?_; (on_goal 1 => subst f1); (on_goal 2 => (intro h1; clear_value f1)))
    | (with_reducible refine Touches.bindG (by assumption) ?_)
    | (extract_lets +onlyGivenNames s1; refine Touches.cut (x := s1) ?_ ?_; (on_goal 1 => subst s1); (on_goal 2 => (intro h1; clear_value s1)))
    | (extract_lets +onlyGivenNames v1; clear_value v1)
    | (with_reducible apply Touches.seq (State.afLearn_touches ..))
    | (with_reducible apply Touches.seq (State.putCx_touches ..))
    | (with_reducible apply Touches.ite)
    | (intro x; intros; try beta_reduce)
    | split

theorem State.rdsPassed_touches (s : State) (c : Nat) (g : RdsGroup) (room : Bool) : Touches 537661459 s (s.rdsPassed c g room) := by
  unfold State.rdsPassed
  repeat' first
    | exact rfl
    | with_reducible assumption
    | with_reducible exact Touches.refl _ _
    | (extract_lets +onlyGivenNames s1; refine Touches.cut (x := s1) ?_ ?_; (on_goal 1 => subst s1); (on_goal 2 => (intro h1; clear_value s1)))
    | (extract_lets +onlyGivenNames v1; clear_value v1)
    | (with_reducible apply Touches.seq (State.drawn_touches ..))
    | (with_reducible apply Touches.seq (State.identSeen_touches ..))
    | (with_reducible apply Touches.seq (State.afPair_touches ..))
    | (with_reducible apply Touches.seq (State.putCx_touches ..))
    | (with_reducible apply Touches.seq (State.timeMessage_touches ..))
    | (with_reducible apply Touches.seq (State.sideUnit_touches ..))
    | (with_reducible apply Touches.iff)
    | (with_reducible apply Touches.ite)
    | (intro x; intros; try beta_reduce)

theorem State.rdsGroup_touches (s : State) (c : Nat) (a b c' d : RdsBlock) (room : Bool) : Touches 537661459 s (s.rdsGroup c a b c' d room) := by
  unfold State.rdsGroup
  repeat' first
    | exact rfl
    | with_reducible assumption
    | with_reducible exact Touches.refl _ _
    | (with_reducible apply Touches.seq (State.rdsPassed_touches ..))
    | (with_reducible apply Touches.seq (State.ctxCheckDrop_touches ..))
    | (with_reducible apply Touches.ite)
    | split

theorem State.putCpd_touches (s : State) (c : Nat) (v : CpdState) : Touches 524288 s (s.putCpd c v) := by
  unfold State.putCpd
  repeat' first
    | exact rfl
    | with_reducible assumption
    | with_reducible exact Touches.refl _ _
    | (with_reducible apply Touches.seq (State.putCx_touches ..))

theorem State.cpdFrame_touches (s : State) (c : Nat) (bits : List (Option Bool)) (room : Bool) : Touches 537395202 s (s.cpdFrame c bits room) := by
  unfold State.cpdFrame
  repeat' first
    | exact rfl
    | with_reducible assumption
    | with_reducible exact Touches.refl _ _
    | (extract_lets +onlyGivenNames s1; refine Touches.cut (x := s1) ?_ ?_; (on_goal 1 => subst s1); (on_goal 2 => (intro h1; clear_value s1)))
    | (extract_lets +onlyGivenNames v1; clear_value v1)
    | (with_reducible apply Touches.seq (State.clr_touches ..))
    | (with_reducible apply Touches.seq (State.putCpd_touches ..))
    | (with_reducible apply Touches.seq (State.ctxCheckDrop_touches ..))
    | (with_reducible apply Touches.seq (State.sideUnit_touches ..))
    | (with_reducible apply Touches.ite)

theorem State.cpdSync_touches (s : State) (c diffs : Nat) : Touches 524306 s (s.cpdSync c diffs) := by
  unfold State.cpdSync
  repeat' first
    | exact rfl
    | with_reducible assumption
    | with_reducible exact Touches.refl _ _
    | (extract_lets +onlyGivenNames s1; refine Touches.cut (x := s1) ?_ ?_; (on_goal 1 => subst s1); (on_goal 2 => (intro h1; clear_value s1)))
    | (extract_lets +onlyGivenNames v1; clear_value v1)
    | (with_reducible apply Touches.seq (State.drawn_touches ..))
    | (with_reducible apply Touches.seq (State.ctxCheckDrop_touches ..))
    | (with_reducible apply Touches.seq (State.set_touches ..))
    | (with_reducible apply Touches.seq (State.putCx_touches ..))
    | (with_reducible apply Touches.iff)
    | (with_reducible apply Touches.ite)
    | (intro x; intros; try beta_reduce)

theorem State.cpdBit_touches (s : State) (c : Nat) (b : Option Bool) (room : Bool) : Touches 537395218 s (s.cpdBit c b room) := by
  unfold State.cpdBit
  repeat' first
    | exact rfl
    | with_reducible assumption
    | with_reducible exact Touches.refl _ _
    | (extract_lets +onlyGivenNames s1; refine Touches.cut (x := s1) ?_ ?_; (on_goal 1 => subst s1); (on_goal 2 => (intro h1; clear_value s1)))
    | (extract_lets +onlyGivenNames v1; clear_value v1)
    | (with_reducible apply Touches.seq (State.putCpd_touches ..))
    | (with_reducible apply Touches.seq (State.cpdFrame_touches ..))
    | (with_reducible apply Touches.seq (State.cpdSync_touches ..))
    | (with_reducible apply Touches.ite)

theorem State.cpdPeriod_touches (s : State) (c : Nat) (room : Bool) (p : BitPeriod) : Touches 537395218 s (s.cpdPeriod c room p) := by
  unfold State.cpdPeriod
  repeat' first
    | exact rfl
    | with_reducible assumption
    | with_reducible exact Touches.refl _ _
    | (extract_lets +onlyGivenNames s1; refine Touches.cut (x := s1) ?_ ?_; (on_goal 1 => subst s1); (on_goal 2 => (intro h1; clear_value s1)))
    | (extract_lets +onlyGivenNames v1; clear_value v1)
    | (with_reducible apply Touches.seq (State.putCpd_touches ..))
    | (with_reducible apply Touches.seq (State.cpdBit_touches ..))
    | (with_reducible apply Touches.iff)
    | (with_reducible apply Touches.ite)
    | (intro x; intros; try beta_reduce)

theorem State.cpdHunt_touches (s : State) (c : Nat) (xs : List BitPeriod) : Touches 537395218 s (s.cpdHunt c xs) := by
  induction xs generalizing s with
  | nil => exact Touches.refl _ _
  | cons x xs ih =>
    unfold State.cpdHunt
    repeat' first
      | exact rfl
      | with_reducible assumption
      | with_reducible exact Touches.refl _ _
      | (extract_lets +onlyGivenNames s1; refine Touches.cut (x := s1) ?_ ?_; (on_goal 1 => subst s1); (on_goal 2 => (intro h1; clear_value s1)))
      | (extract_lets +onlyGivenNames v1; clear_value v1)
      | (with_reducible apply Touches.seq (State.cpdPeriod_touches ..))
      | (with_reducible apply Touches.ite)
      | split
      | (with_reducible apply Touches.seq (ih ..))

theorem State.cpdRead_touches (s : State) (c : Nat) (room : Bool) (xs : List BitPeriod) : Touches 537395218 s (s.cpdRead c room xs) := by
  induction xs generalizing s with
  | nil => exact Touches.refl _ _
  | cons x xs ih =>
    unfold State.cpdRead
    repeat' first
      | exact rfl
      | with_reducible assumption
      | with_reducible exact Touches.refl _ _
      | (extract_lets +onlyGivenNames s1; refine Touches.cut (x := s1) ?_ ?_; (on_goal 1 => subst s1); (on_goal 2 => (intro h1; clear_value s1)))
      | (extract_lets +onlyGivenNames v1; clear_value v1)
      | (with_reducible apply Touches.seq (State.cpdPeriod_touches ..))
      | (with_reducible apply Touches.ite)
      | split
      | (with_reducible apply Touches.seq (ih ..))

theorem State.ctxSamples_touches (s : State) (c : Nat) (words : List (BitVec 64)) : Touches 524288 s (s.ctxSamples c words) := by
  unfold State.ctxSamples
  repeat' first
    | exact rfl
    | with_reducible assumption
    | with_reducible exact Touches.refl _ _
    | (extract_lets +onlyGivenNames v1; clear_value v1)
    | (with_reducible apply Touches.seq (State.putCx_touches ..))

theorem State.ctxUsed_touches (s : State) (c : Nat) : Touches 524288 s (s.ctxUsed c) := by
  unfold State.ctxUsed
  repeat' first
    | exact rfl
    | with_reducible assumption
    | with_reducible exact Touches.refl _ _
    | (extract_lets +onlyGivenNames v1; clear_value v1)
    | (with_reducible apply Touches.seq (State.putCx_touches ..))

theorem State.drmFac_touches (s : State) (c : Nat) (bits : List Byte) (service : Nat) (crcOk room : Bool) : Touches 537657362 s (s.drmFac c bits service crcOk room) := by
  unfold State.drmFac
  repeat' first
    | exact rfl
    | with_reducible assumption
    | with_reducible exact Touches.refl _ _
    | (extract_lets +onlyGivenNames v1; clear_value v1)
    | (with_reducible apply Touches.seq (State.ctxCheckDrop_touches ..))
    | (with_reducible apply Touches.seq (State.drawn_touches ..))
    | (with_reducible apply Touches.seq (State.identSeen_touches ..))
    | (with_reducible apply Touches.seq (State.sideUnit_touches ..))
    | (with_reducible apply Touches.ite)

theorem State.drmSdc_touches (s : State) (c : Nat) (bytes : List Byte) (crcOk : Bool) (time : Option BcdTime) (afHz : List Nat) (room : Bool) : Touches 536875027 s (s.drmSdc c bytes crcOk time afHz room) := by
  unfold State.drmSdc
  repeat' first
    | exact rfl
    | with_reducible assumption
    | with_reducible exact Touches.refl _ _
    | (extract_lets +onlyGivenNames s1; refine Touches.cut (x := s1) ?_ ?_; (on_goal 1 => subst s1); (on_goal 2 => (intro h1; clear_value s1)))
    | (extract_lets +onlyGivenNames v1; clear_value v1)
    | (with_reducible apply Touches.seq (State.ctxCheckDrop_touches ..))
    | (with_reducible apply Touches.seq (State.afLearn_touches ..))
    | (with_reducible apply Touches.seq (State.drawn_touches ..))
    | (with_reducible apply Touches.seq (State.timeMessage_touches ..))
    | (with_reducible apply Touches.seq (State.sideUnit_touches ..))
    | (with_reducible apply Touches.each)
    | (with_reducible apply Touches.ite)
    | (intro x; intros; try beta_reduce)
    | split

theorem State.drmMsc_touches (s : State) (c : Nat) (bytes : List Byte) (facOk : Bool) (erasedTenths : Nat) (room : Bool) : Touches 536870930 s (s.drmMsc c bytes facOk erasedTenths room) := by
  unfold State.drmMsc
  repeat' first
    | exact rfl
    | with_reducible assumption
    | with_reducible exact Touches.refl _ _
    | (with_reducible apply Touches.seq (State.ctxCheckDrop_touches ..))
    | (with_reducible apply Touches.seq (State.drawn_touches ..))
    | (with_reducible apply Touches.seq (State.sideUnit_touches ..))
    | (with_reducible apply Touches.ite)

theorem State.audioUnit_touches (s : State) (c : Nat) (blanked room : Bool) : Touches 536870930 s (s.audioUnit c blanked room) := by
  unfold State.audioUnit
  repeat' first
    | exact rfl
    | with_reducible assumption
    | with_reducible exact Touches.refl _ _
    | (extract_lets +onlyGivenNames s1; refine Touches.cut (x := s1) ?_ ?_; (on_goal 1 => subst s1); (on_goal 2 => (intro h1; clear_value s1)))
    | (extract_lets +onlyGivenNames v1; clear_value v1)
    | (with_reducible apply Touches.seq (State.drawn_touches ..))
    | (with_reducible apply Touches.seq (State.picked_touches ..))
    | (with_reducible apply Touches.seq (State.streamPush_touches ..))
    | (with_reducible apply Touches.seq (State.satInc_touches ..))
    | (with_reducible apply Touches.ite)

theorem State.carrierLock_touches (s : State) (c : Nat) (b : Bool) : Touches 524290 s (s.carrierLock c b) := by
  unfold State.carrierLock
  repeat' first
    | exact rfl
    | with_reducible assumption
    | with_reducible exact Touches.refl _ _
    | (with_reducible apply Touches.seq (State.putLock_touches ..))
    | (with_reducible apply Touches.iff)
    | (intro x; intros; try beta_reduce)

theorem State.fmLock_touches (s : State) (c : Nat) (b stereo : Bool) : Touches 524290 s (s.fmLock c b stereo) := by
  unfold State.fmLock
  repeat' first
    | exact rfl
    | with_reducible assumption
    | with_reducible exact Touches.refl _ _
    | (with_reducible apply Touches.seq (State.putLock_touches ..))
    | (with_reducible apply Touches.seq (State.putB_touches ..))
    | (with_reducible apply Touches.iff)
    | (intro x; intros; try beta_reduce)

theorem State.drmLock_touches (s : State) (c mode : Nat) (b : Bool) : Touches 524290 s (s.drmLock c mode b) := by
  unfold State.drmLock
  repeat' first
    | exact rfl
    | with_reducible assumption
    | with_reducible exact Touches.refl _ _
    | (extract_lets +onlyGivenNames v1; clear_value v1)
    | (with_reducible apply Touches.seq (State.put_touches ..))
    | (with_reducible apply Touches.seq (State.putLock_touches ..))
    | (with_reducible apply Touches.ite)

theorem State.scanProgram_touches (s : State) (d c : Nat) : Touches 538705938 s (s.scanProgram d c) := by
  unfold State.scanProgram
  repeat' first
    | exact rfl
    | with_reducible assumption
    | with_reducible exact Touches.refl _ _
    | (extract_lets +onlyGivenNames s1; refine Touches.cut (x := s1) ?_ ?_; (on_goal 1 => subst s1); (on_goal 2 => (intro h1; clear_value s1)))
    | (extract_lets +onlyGivenNames v1; clear_value v1)
    | (with_reducible apply Touches.seq (State.putWord_touches ..))
    | (with_reducible apply Touches.seq (State.set_touches ..))
    | (with_reducible apply Touches.seq (State.put_touches ..))
    | (with_reducible apply Touches.seq (State.ownedFilter_touches ..))
    | (with_reducible apply Touches.seq (State.retune_touches ..))
    | (with_reducible apply State.withGen_touches)
    | (with_reducible apply Touches.seq (State.hopStart_touches ..))
    | (with_reducible apply Touches.upd_scan)
    | (with_reducible apply Touches.each)
    | (with_reducible apply Touches.iff)
    | (with_reducible apply Touches.ite)
    | (intro x; intros; try beta_reduce)

theorem State.scanAssign_touches (s : State) : Touches 538705938 s s.scanAssign := by
  unfold State.scanAssign
  repeat' first
    | exact rfl
    | with_reducible assumption
    | with_reducible exact Touches.refl _ _
    | (extract_lets +onlyGivenNames s1; refine Touches.cut (x := s1) ?_ ?_; (on_goal 1 => subst s1); (on_goal 2 => (intro h1; clear_value s1)))
    | (extract_lets +onlyGivenNames v1; clear_value v1)
    | (with_reducible apply Touches.seq (State.scanProgram_touches ..))
    | (with_reducible apply Touches.upd_scan)
    | (with_reducible apply Touches.each)
    | (with_reducible apply Touches.ite)
    | (intro x; intros; try beta_reduce)
    | split

theorem State.scanLevel_touches (s : State) (c e level : Nat) : Touches 524288 s (s.scanLevel c e level) := by
  unfold State.scanLevel
  repeat' first
    | exact rfl
    | with_reducible assumption
    | with_reducible exact Touches.refl _ _
    | (extract_lets +onlyGivenNames v1; clear_value v1)
    | (with_reducible apply Touches.seq (State.putCx_touches ..))
    | (with_reducible apply Touches.ite)

theorem State.afPropose_touches (s : State) (c e : Nat) : Touches 537657362 s (s.afPropose c e) := by
  unfold State.afPropose
  repeat' first
    | exact rfl
    | with_reducible assumption
    | with_reducible exact Touches.refl _ _
    | (extract_lets +onlyGivenNames s1; refine Touches.cut (x := s1) ?_ ?_; (on_goal 1 => subst s1); (on_goal 2 => (intro h1; clear_value s1)))
    | (extract_lets +onlyGivenNames v1; clear_value v1)
    | (with_reducible apply Touches.seq (State.putCx_touches ..))
    | (with_reducible apply Touches.seq (State.event_touches ..))
    | (with_reducible apply Touches.seq (State.satInc_touches ..))
    | (with_reducible apply Touches.seq (State.putB_touches ..))
    | (with_reducible apply Touches.seq (State.afUnit_touches ..))
    | (with_reducible apply Touches.seq (State.ctxTune_touches ..))
    | (with_reducible apply Touches.seq (State.putWord_touches ..))
    | (with_reducible apply Touches.ite)

theorem State.scanJudge_touches (s : State) (c : Nat) : Touches 537657362 s (s.scanJudge c) := by
  unfold State.scanJudge
  repeat' first
    | exact rfl
    | with_reducible assumption
    | with_reducible exact Touches.refl _ _
    | (extract_lets +onlyGivenNames s1; refine Touches.cut (x := s1) ?_ ?_; (on_goal 1 => subst s1); (on_goal 2 => (intro h1; clear_value s1)))
    | (extract_lets +onlyGivenNames v1; clear_value v1)
    | (with_reducible apply Touches.seq (State.event_touches ..))
    | (with_reducible apply Touches.seq (State.putCx_touches ..))
    | (with_reducible apply Touches.seq (State.afPropose_touches ..))
    | (with_reducible apply Touches.ite)
    | split

theorem State.scanCycle_touches (s : State) (c : Nat) : Touches 538705938 s (s.scanCycle c) := by
  unfold State.scanCycle
  repeat' first
    | exact rfl
    | with_reducible assumption
    | with_reducible exact Touches.refl _ _
    | (extract_lets +onlyGivenNames s1; refine Touches.cut (x := s1) ?_ ?_; (on_goal 1 => subst s1); (on_goal 2 => (intro h1; clear_value s1)))
    | (extract_lets +onlyGivenNames v1; clear_value v1)
    | (with_reducible apply Touches.seq (State.scanJudge_touches ..))
    | (with_reducible apply Touches.seq (State.scanProgram_touches ..))
    | (with_reducible apply Touches.upd_scan)
    | (with_reducible apply Touches.ite)
    | split

theorem State.levelUnit_touches (s : State) (d : Nat) : Touches 524288 s (s.levelUnit d) := by
  unfold State.levelUnit
  repeat' first
    | exact rfl
    | with_reducible assumption
    | with_reducible exact Touches.refl _ _
    | (extract_lets +onlyGivenNames v1; clear_value v1)
    | (with_reducible apply Touches.seq (State.scanLevel_touches ..))
    | (with_reducible apply Touches.ite)
    | split

theorem State.afLoss_touches (s : State) (c : Nat) : Touches 537657362 s (s.afLoss c) := by
  unfold State.afLoss
  repeat' first
    | exact rfl
    | with_reducible assumption
    | with_reducible exact Touches.refl _ _
    | (with_reducible apply Touches.seq (State.afPropose_touches ..))
    | (with_reducible apply Touches.ite)
    | split

theorem State.identTimeout_touches (s : State) (c : Nat) : Touches 537657362 s (s.identTimeout c) := by
  unfold State.identTimeout
  repeat' first
    | exact rfl
    | with_reducible assumption
    | with_reducible exact Touches.refl _ _
    | (with_reducible apply Touches.seq (State.identFail_touches ..))
    | (with_reducible apply Touches.iff)
    | (intro x; intros; try beta_reduce)

theorem State.afBadExpiry_touches (s : State) (c e : Nat) : Touches 2 s (s.afBadExpiry c e) := by
  unfold State.afBadExpiry
  repeat' first
    | exact rfl
    | with_reducible assumption
    | with_reducible exact Touches.refl _ _
    | (with_reducible apply Touches.seq (State.clr_touches ..))

theorem State.ctxFreqWritten_touches (s : State) (c : Nat) : Touches 537657362 s (s.ctxFreqWritten c) := by
  unfold State.ctxFreqWritten
  repeat' first
    | exact rfl
    | with_reducible assumption
    | with_reducible exact Touches.refl _ _
    | (with_reducible apply Touches.seq (State.putCx_touches ..))
    | (with_reducible apply Touches.seq (State.clr_touches ..))
    | (with_reducible apply Touches.seq (State.ctxTune_touches ..))

theorem State.ctxFloodWindow_touches (s : State) (c samples blanked power : Nat) : Touches 528514 s (s.ctxFloodWindow c samples blanked power) := by
  unfold State.ctxFloodWindow
  repeat' first
    | exact rfl
    | with_reducible assumption
    | with_reducible exact Touches.refl _ _
    | (extract_lets +onlyGivenNames s1; refine Touches.cut (x := s1) ?_ ?_; (on_goal 1 => subst s1); (on_goal 2 => (intro h1; clear_value s1)))
    | (extract_lets +onlyGivenNames v1; clear_value v1)
    | (with_reducible apply Touches.seq (State.putCx_touches ..))
    | (with_reducible apply Touches.seq (State.sourceInvalid_touches ..))
    | (with_reducible apply Touches.seq (State.set_touches ..))
    | (with_reducible apply Touches.seq (State.satInc_touches ..))
    | (with_reducible apply Touches.seq (State.event_touches ..))
    | (with_reducible apply Touches.iff)
    | (with_reducible apply Touches.ite)
    | (intro x; intros; try beta_reduce)

theorem State.ctxFloodClear_touches (s : State) (c : Nat) : Touches 2 s (s.ctxFloodClear c) := by
  unfold State.ctxFloodClear
  repeat' first
    | exact rfl
    | with_reducible assumption
    | with_reducible exact Touches.refl _ _
    | (with_reducible apply Touches.seq (State.clr_touches ..))
    | (with_reducible apply Touches.seq (State.event_touches ..))
    | (with_reducible apply Touches.iff)
    | (intro x; intros; try beta_reduce)

theorem State.carrierInterval_touches (s : State) (c : Nat) (offset : Int) (samples blanked : Nat) : Touches 537395218 s (s.carrierInterval c offset samples blanked) := by
  unfold State.carrierInterval
  repeat' first
    | exact rfl
    | with_reducible assumption
    | with_reducible exact Touches.refl _ _
    | (extract_lets +onlyGivenNames s1; refine Touches.cut (x := s1) ?_ ?_; (on_goal 1 => subst s1); (on_goal 2 => (intro h1; clear_value s1)))
    | (extract_lets +onlyGivenNames v1; clear_value v1)
    | (with_reducible apply Touches.seq (State.putCx_touches ..))
    | (with_reducible apply Touches.seq (State.drawn_touches ..))
    | (with_reducible apply Touches.seq (State.put_touches ..))
    | (with_reducible apply Touches.seq (State.event_touches ..))
    | (with_reducible apply Touches.seq (State.sideUnit_touches ..))
    | (with_reducible apply Touches.iff)
    | (with_reducible apply Touches.ite)
    | (intro x; intros; try beta_reduce)

theorem State.fixCtxWritten_touches (s : State) : Touches 524288 s s.fixCtxWritten := by
  unfold State.fixCtxWritten
  repeat' first
    | exact rfl
    | with_reducible assumption
    | with_reducible exact Touches.refl _ _
    | (with_reducible apply Touches.seq (State.putCx_touches ..))
    | (with_reducible apply Touches.each)
    | (intro x; intros; try beta_reduce)

theorem State.ctxCheck_touches (s : State) (c addr : Nat) (double : Bool) : Touches 524562 s (s.ctxCheck c addr double) := by
  unfold State.ctxCheck
  repeat' first
    | exact rfl
    | with_reducible assumption
    | with_reducible exact Touches.refl _ _
    | (with_reducible apply Touches.seq (State.ctxRestart_touches ..))
    | (with_reducible apply Touches.seq (State.set_touches ..))
    | (with_reducible apply Touches.seq (State.event_touches ..))
    | (with_reducible apply Touches.seq (State.report_touches ..))
    | (with_reducible apply Touches.ite)

theorem State.bcdRefresh_touches (s : State) : Touches 2 s s.bcdRefresh := by
  unfold State.bcdRefresh
  repeat' first
    | exact rfl
    | with_reducible assumption
    | with_reducible exact Touches.refl _ _
    | (extract_lets +onlyGivenNames s1; refine Touches.cut (x := s1) ?_ ?_; (on_goal 1 => subst s1); (on_goal 2 => (intro h1; clear_value s1)))
    | (extract_lets +onlyGivenNames v1; clear_value v1)
    | (with_reducible apply Touches.seq (State.event_touches ..))
    | (with_reducible apply Touches.seq (State.putB_touches ..))
    | (with_reducible apply Touches.seq (State.putWord_touches ..))
    | (with_reducible apply Touches.each)
    | (with_reducible apply Touches.iff)
    | (intro x; intros; try beta_reduce)

theorem State.bcdStart_touches (s : State) : Touches 538705938 s s.bcdStart := by
  unfold State.bcdStart
  repeat' first
    | exact rfl
    | with_reducible assumption
    | with_reducible exact Touches.refl _ _
    | (extract_lets +onlyGivenNames s1; refine Touches.cut (x := s1) ?_ ?_; (on_goal 1 => subst s1); (on_goal 2 => (intro h1; clear_value s1)))
    | (extract_lets +onlyGivenNames v1; clear_value v1)
    | (with_reducible apply Touches.seq (State.putWord_touches ..))
    | (with_reducible apply Touches.seq (State.afForget_touches ..))
    | (with_reducible apply Touches.seq (State.ctxTune_touches ..))
    | (with_reducible apply Touches.upd_ctx)
    | (with_reducible apply Touches.upd_scan)
    | (with_reducible apply Touches.each)
    | (intro x; intros; try beta_reduce)

theorem State.bcdMute_touches (s : State) : Touches 524306 s s.bcdMute := by
  unfold State.bcdMute
  repeat' first
    | exact rfl
    | with_reducible assumption
    | with_reducible exact Touches.refl _ _
    | (with_reducible apply Touches.seq (State.ctxRestart_touches ..))
    | (with_reducible apply Touches.each)
    | (with_reducible apply Touches.iff)
    | (intro x; intros; try beta_reduce)

theorem State.bcdDrain_touches (s : State) : Touches 524290 s s.bcdDrain := by
  unfold State.bcdDrain
  repeat' first
    | exact rfl
    | with_reducible assumption
    | with_reducible exact Touches.refl _ _
    | (with_reducible apply Touches.seq (State.clr_touches ..))
    | (with_reducible apply Touches.seq (State.putCpd_touches ..))
    | (with_reducible apply Touches.each)
    | (intro x; intros; try beta_reduce)

theorem State.bcdRetention_touches (s : State) : Touches 524290 s s.bcdRetention := by
  unfold State.bcdRetention
  repeat' first
    | exact rfl
    | with_reducible assumption
    | with_reducible exact Touches.refl _ _
    | (extract_lets +onlyGivenNames s1; refine Touches.cut (x := s1) ?_ ?_; (on_goal 1 => subst s1); (on_goal 2 => (intro h1; clear_value s1)))
    | (extract_lets +onlyGivenNames v1; clear_value v1)
    | (with_reducible apply Touches.seq (State.putWord_touches ..))
    | (with_reducible apply Touches.seq (State.clr_touches ..))
    | (with_reducible apply Touches.seq (State.putCx_touches ..))
    | (with_reducible apply Touches.each)
    | (intro x; intros; try beta_reduce)

theorem State.bcdResume_touches (s : State) : Touches 537133074 s s.bcdResume := by
  unfold State.bcdResume
  repeat' first
    | exact rfl
    | with_reducible assumption
    | with_reducible exact Touches.refl _ _
    | (with_reducible apply Touches.seq (State.ctxTune_touches ..))
    | (with_reducible apply Touches.each)
    | (intro x; intros; try beta_reduce)

end Sys2Proof.Machine
end

