-- ==== Sys2Proof/Laws/TouchLmd.lean ====
section
/-! SUPPORT. What each operation of Machine/Lmd.lean can change: one lemma per operation, its set of parts as in Laws/Parts.lean. -/
namespace Sys2Proof.Machine

theorem State.putTx_touches (s : State) (t : Nat) (v : LmdTx) : Touches 2097152 s (s.putTx t v) := by
  unfold State.putTx
  repeat' first
    | exact rfl
    | with_reducible assumption
    | with_reducible exact Touches.refl _ _
    | (with_reducible apply Touches.upd_lmdTx)

theorem State.putRx_touches (s : State) (r : Nat) (v : LmdRx) : Touches 4194304 s (s.putRx r v) := by
  unfold State.putRx
  repeat' first
    | exact rfl
    | with_reducible assumption
    | with_reducible exact Touches.refl _ _
    | (with_reducible apply Touches.upd_lmdRx)

theorem State.rxTake_touches (s : State) (r : Nat) : Touches 4194304 s (s.rxTake r) := by
  unfold State.rxTake
  repeat' first
    | exact rfl
    | with_reducible assumption
    | with_reducible exact Touches.refl _ _
    | (with_reducible apply Touches.seq (State.putRx_touches ..))

theorem State.rxBlockEnd_touches (s : State) (r : Nat) : Touches 4194304 s (s.rxBlockEnd r) := by
  unfold State.rxBlockEnd
  repeat' first
    | exact rfl
    | with_reducible assumption
    | with_reducible exact Touches.refl _ _
    | (with_reducible apply Touches.seq (State.rxTake_touches ..))
    | (with_reducible apply Touches.iff)
    | (intro x; intros; try beta_reduce)

theorem State.txState_touches (s : State) (t st cause : Nat) : Touches 2 s (s.txState t st cause) := by
  unfold State.txState
  repeat' first
    | exact rfl
    | with_reducible assumption
    | with_reducible exact Touches.refl _ _
    | (extract_lets +onlyGivenNames v1; clear_value v1)
    | (with_reducible apply Touches.seq (State.put_touches ..))
    | (with_reducible apply Touches.seq (State.event_touches ..))
    | (with_reducible apply Touches.iff)
    | (intro x; intros; try beta_reduce)

theorem State.lmdDone_touches (s : State) (t : Nat) (f : LmdFrame) (seq status : Nat) : Touches 1 s (s.lmdDone t f seq status) := by
  unfold State.lmdDone
  repeat' first
    | exact rfl
    | with_reducible assumption
    | with_reducible exact Touches.refl _ _
    | (with_reducible apply Touches.seq (State.emit_touches ..))

theorem State.notDelivered_touches (s : State) (t vector : Nat) : Touches 2 s (s.notDelivered t vector) := by
  unfold State.notDelivered
  repeat' first
    | exact rfl
    | with_reducible assumption
    | with_reducible exact Touches.refl _ _
    | (with_reducible apply Touches.seq (State.satInc_touches ..))
    | (with_reducible apply Touches.seq (State.set_touches ..))
    | (with_reducible apply Touches.seq (State.event_touches ..))
    | (with_reducible apply Touches.each)
    | (intro x; intros; try beta_reduce)

theorem State.txCut_touches (s : State) (t : Nat) (nd : Bool) : Touches 2097155 s (s.txCut t nd) := by
  unfold State.txCut
  repeat' first
    | exact rfl
    | with_reducible assumption
    | with_reducible exact Touches.refl _ _
    | (extract_lets +onlyGivenNames f1; refine Touches.cutF (f := f1) ?_ ?_; (on_goal 1 => subst f1); (on_goal 2 => (intro h1; clear_value f1)))
    | (with_reducible refine Touches.bindF (by assumption) ?_)
    | (extract_lets +onlyGivenNames s1; refine Touches.cut (x := s1) ?_ ?_; (on_goal 1 => subst s1); (on_goal 2 => (intro h1; clear_value s1)))
    | (extract_lets +onlyGivenNames v1; clear_value v1)
    | (with_reducible apply Touches.seq (State.satInc_touches ..))
    | (with_reducible apply Touches.seq (State.lmdDone_touches ..))
    | (with_reducible apply Touches.seq (State.notDelivered_touches ..))
    | (with_reducible apply Touches.seq (State.putTx_touches ..))
    | (with_reducible apply Touches.iff)
    | (intro x; intros; try beta_reduce)
    | split

theorem State.txStop_touches (s : State) (t cause : Nat) : Touches 2097155 s (s.txStop t cause) := by
  unfold State.txStop
  repeat' first
    | exact rfl
    | with_reducible assumption
    | with_reducible exact Touches.refl _ _
    | (extract_lets +onlyGivenNames s1; refine Touches.cut (x := s1) ?_ ?_; (on_goal 1 => subst s1); (on_goal 2 => (intro h1; clear_value s1)))
    | (extract_lets +onlyGivenNames v1; clear_value v1)
    | (with_reducible apply Touches.seq (State.txCut_touches ..))
    | (with_reducible apply Touches.seq (State.putTx_touches ..))
    | (with_reducible apply Touches.seq (State.txState_touches ..))

theorem State.txDisable_touches (s : State) (t : Nat) : Touches 2097155 s (s.txDisable t) := by
  unfold State.txDisable
  repeat' first
    | exact rfl
    | with_reducible assumption
    | with_reducible exact Touches.refl _ _
    | (extract_lets +onlyGivenNames s1; refine Touches.cut (x := s1) ?_ ?_; (on_goal 1 => subst s1); (on_goal 2 => (intro h1; clear_value s1)))
    | (extract_lets +onlyGivenNames v1; clear_value v1)
    | (with_reducible apply Touches.seq (State.txCut_touches ..))
    | (with_reducible apply Touches.seq (State.putTx_touches ..))
    | (with_reducible apply Touches.seq (State.txState_touches ..))

theorem State.txKeyStop_touches (s : State) (t : Nat) : Touches 2097155 s (s.txKeyStop t) := by
  unfold State.txKeyStop
  repeat' first
    | exact rfl
    | with_reducible assumption
    | with_reducible exact Touches.refl _ _
    | (with_reducible apply Touches.seq (State.txStop_touches ..))
    | (with_reducible apply Touches.seq (State.event_touches ..))

theorem State.txSession_some {s t : State} {k : Nat} (h : s.txSession k = some t) : Touches 2097170 s t := by
  unfold State.txSession at h
  split at h
  · exact absurd h (by simp)
  · obtain rfl := Option.some.inj h
    exact Touches.seq (State.putTx_touches ..) rfl (Touches.seq (State.put_touches ..) rfl (Touches.seq (State.set_touches ..) rfl
      (Touches.seq (State.drawn_touches ..) rfl (Touches.refl _ _))))

theorem State.txLatch_touches (s : State) (t : Nat) : Touches 2097152 s (s.txLatch t) := by
  unfold State.txLatch
  repeat' first
    | exact rfl
    | with_reducible assumption
    | with_reducible exact Touches.refl _ _
    | (with_reducible apply Touches.seq (State.putTx_touches ..))

theorem State.txStart_touches (s : State) (t : Nat) : Touches 2097171 s (s.txStart t) := by
  unfold State.txStart
  repeat' first
    | exact rfl
    | with_reducible assumption
    | with_reducible exact Touches.refl _ _
    | (extract_lets +onlyGivenNames s1; refine Touches.cut (x := s1) ?_ ?_; (on_goal 1 => subst s1); (on_goal 2 => (intro h1; clear_value s1)))
    | (extract_lets +onlyGivenNames v1; clear_value v1)
    | (with_reducible refine Touches.seq (State.txSession_some (by assumption)) ?_ ?_)
    | (with_reducible apply Touches.seq (State.txState_touches ..))
    | (with_reducible apply Touches.seq (State.txLatch_touches ..))
    | (with_reducible apply Touches.seq (State.putTx_touches ..))
    | (with_reducible apply Touches.seq (State.lmdDone_touches ..))
    | (with_reducible apply Touches.seq (State.txKeyStop_touches ..))
    | (with_reducible apply Touches.each)
    | (with_reducible apply Touches.ite)
    | (intro x; intros; try beta_reduce)
    | split

theorem State.lmdSubmit_touches (s : State) (t : Nat) (f : LmdFrame) : Touches 2097153 s (s.lmdSubmit t f) := by
  unfold State.lmdSubmit
  repeat' first
    | exact rfl
    | with_reducible assumption
    | with_reducible exact Touches.refl _ _
    | (extract_lets +onlyGivenNames v1; clear_value v1)
    | (with_reducible apply Touches.seq (State.lmdDone_touches ..))
    | (with_reducible apply Touches.seq (State.putTx_touches ..))
    | (with_reducible apply Touches.ite)

theorem State.lmdSend_touches (s : State) (t : Nat) (symbols : List (Int × Int)) : Touches 1 s (s.lmdSend t symbols) := by
  unfold State.lmdSend
  repeat' first
    | exact rfl
    | with_reducible assumption
    | with_reducible exact Touches.refl _ _
    | (with_reducible apply Touches.seq (State.emit_touches ..))

theorem State.txAir_touches (s : State) (t : Nat) : Touches 1 s (s.txAir t) := by
  unfold State.txAir
  repeat' first
    | exact rfl
    | with_reducible assumption
    | with_reducible exact Touches.refl _ _
    | (extract_lets +onlyGivenNames v1; clear_value v1)
    | (with_reducible apply Touches.seq (State.lmdSend_touches ..))
    | split

theorem State.burstStart_touches (s : State) (t : Nat) : Touches 2097171 s (s.burstStart t) := by
  unfold State.burstStart
  repeat' first
    | exact rfl
    | with_reducible assumption
    | with_reducible exact Touches.refl _ _
    | (extract_lets +onlyGivenNames s1; refine Touches.cut (x := s1) ?_ ?_; (on_goal 1 => subst s1); (on_goal 2 => (intro h1; clear_value s1)))
    | (extract_lets +onlyGivenNames v1; clear_value v1)
    | (with_reducible apply Touches.seq (State.txLatch_touches ..))
    | (with_reducible apply Touches.seq (State.txStart_touches ..))
    | (with_reducible apply Touches.seq (State.putTx_touches ..))
    | (with_reducible apply Touches.seq (State.lmdDone_touches ..))
    | (with_reducible apply Touches.seq (State.txAir_touches ..))
    | (with_reducible apply Touches.seq (State.txState_touches ..))
    | (with_reducible apply Touches.ite)
    | split

theorem State.burstEnd_touches (s : State) (t : Nat) : Touches 2097155 s (s.burstEnd t) := by
  unfold State.burstEnd
  repeat' first
    | exact rfl
    | with_reducible assumption
    | with_reducible exact Touches.refl _ _
    | (extract_lets +onlyGivenNames s1; refine Touches.cut (x := s1) ?_ ?_; (on_goal 1 => subst s1); (on_goal 2 => (intro h1; clear_value s1)))
    | (extract_lets +onlyGivenNames v1; clear_value v1)
    | (with_reducible apply Touches.seq (State.lmdDone_touches ..))
    | (with_reducible apply Touches.seq (State.modInc_touches ..))
    | (with_reducible apply Touches.seq (State.putTx_touches ..))
    | (with_reducible apply Touches.seq (State.txState_touches ..))
    | (with_reducible apply Touches.ite)
    | split

theorem State.lmdCancel_touches (s : State) (t tag : Nat) : Touches 2097153 s (s.lmdCancel t tag) := by
  unfold State.lmdCancel
  repeat' first
    | exact rfl
    | with_reducible assumption
    | with_reducible exact Touches.refl _ _
    | (extract_lets +onlyGivenNames v1; clear_value v1)
    | (with_reducible apply Touches.seq (State.putTx_touches ..))
    | (with_reducible apply Touches.seq (State.lmdDone_touches ..))
    | split

theorem State.rampUp_touches (s : State) (t : Nat) : Touches 3 s (s.rampUp t) := by
  unfold State.rampUp
  repeat' first
    | exact rfl
    | with_reducible assumption
    | with_reducible exact Touches.refl _ _
    | (with_reducible apply Touches.seq (State.txState_touches ..))
    | (with_reducible apply Touches.seq (State.txAir_touches ..))
    | (with_reducible apply Touches.ite)

theorem State.rampDown_touches (s : State) (t : Nat) : Touches 2097154 s (s.rampDown t) := by
  unfold State.rampDown
  repeat' first
    | exact rfl
    | with_reducible assumption
    | with_reducible exact Touches.refl _ _
    | (with_reducible apply Touches.seq (State.putTx_touches ..))
    | (with_reducible apply Touches.seq (State.txState_touches ..))
    | (with_reducible apply Touches.ite)

theorem State.tpBlock_touches (s : State) (t : Nat) (whole : Bool) (b : TpBlock) (mismatch : Bool) : Touches 2113811 s (s.tpBlock t whole b mismatch) := by
  unfold State.tpBlock
  repeat' first
    | exact rfl
    | with_reducible assumption
    | with_reducible exact Touches.refl _ _
    | (extract_lets +onlyGivenNames s1; refine Touches.cut (x := s1) ?_ ?_; (on_goal 1 => subst s1); (on_goal 2 => (intro h1; clear_value s1)))
    | (extract_lets +onlyGivenNames v1; clear_value v1)
    | (with_reducible refine Touches.seq (State.txSession_some (by assumption)) ?_ ?_)
    | (with_reducible refine Touches.seq (State.drawCtr_some (by assumption)) ?_ ?_)
    | (with_reducible apply Touches.seq (State.txKeyStop_touches ..))
    | (with_reducible apply Touches.seq (State.txCut_touches ..))
    | (with_reducible apply Touches.seq (State.noteExhausted_touches ..))
    | (with_reducible apply Touches.seq (State.drawn_touches ..))
    | (with_reducible apply Touches.seq (State.cphCount_touches ..))
    | (with_reducible apply Touches.seq (State.report_touches ..))
    | (with_reducible apply Touches.seq (State.modInc_touches ..))
    | (with_reducible apply Touches.seq (State.satInc_touches ..))
    | (with_reducible apply Touches.seq (State.putTx_touches ..))
    | (with_reducible apply Touches.seq (State.put_touches ..))
    | (with_reducible apply Touches.seq (State.lmdSend_touches ..))
    | (with_reducible apply Touches.ite)
    | split

theorem State.tpDue_touches (s : State) (t : Nat) (mismatch : Bool) : Touches 2113811 s (s.tpDue t mismatch) := by
  unfold State.tpDue
  repeat' first
    | exact rfl
    | with_reducible assumption
    | with_reducible exact Touches.refl _ _
    | (extract_lets +onlyGivenNames v1; clear_value v1)
    | (with_reducible apply Touches.seq (State.tpBlock_touches ..))
    | (with_reducible apply Touches.ite)

theorem State.tpSample_touches (s : State) (t vector : Nat) (mismatch : Bool) : Touches 2113811 s (s.tpSample t vector mismatch) := by
  unfold State.tpSample
  repeat' first
    | exact rfl
    | with_reducible assumption
    | with_reducible exact Touches.refl _ _
    | (extract_lets +onlyGivenNames s1; refine Touches.cut (x := s1) ?_ ?_; (on_goal 1 => subst s1); (on_goal 2 => (intro h1; clear_value s1)))
    | (extract_lets +onlyGivenNames v1; clear_value v1)
    | (with_reducible apply Touches.seq (State.putTx_touches ..))
    | (with_reducible apply Touches.seq (State.tpBlock_touches ..))
    | (with_reducible apply Touches.ite)
    | split

theorem State.rxCount_touches (s : State) (r c : Nat) : Touches 2 s (s.rxCount r c) := by
  unfold State.rxCount
  repeat' first
    | exact rfl
    | with_reducible assumption
    | with_reducible exact Touches.refl _ _
    | (with_reducible apply Touches.seq (State.satInc_touches ..))

theorem State.tpOut_touches (s : State) (r v : Nat) : Touches 2 s (s.tpOut r v) := by
  unfold State.tpOut
  repeat' first
    | exact rfl
    | with_reducible assumption
    | with_reducible exact Touches.refl _ _
    | (with_reducible apply Touches.seq (State.put_touches ..))
    | (with_reducible apply Touches.seq (State.event_touches ..))
    | (with_reducible apply Touches.iff)
    | (intro x; intros; try beta_reduce)

theorem State.rxResync_touches (s : State) (r : Nat) : Touches 2 s (s.rxResync r) := by
  unfold State.rxResync
  repeat' first
    | exact rfl
    | with_reducible assumption
    | with_reducible exact Touches.refl _ _
    | (with_reducible apply Touches.seq (State.set_touches ..))
    | (with_reducible apply Touches.seq (State.event_touches ..))
    | (with_reducible apply Touches.iff)
    | (intro x; intros; try beta_reduce)

theorem State.rxDrop_touches (s : State) (r c : Nat) : Touches 2 s (s.rxDrop r c) := by
  unfold State.rxDrop
  repeat' first
    | exact rfl
    | with_reducible assumption
    | with_reducible exact Touches.refl _ _
    | (extract_lets +onlyGivenNames s1; refine Touches.cut (x := s1) ?_ ?_; (on_goal 1 => subst s1); (on_goal 2 => (intro h1; clear_value s1)))
    | (extract_lets +onlyGivenNames v1; clear_value v1)
    | (with_reducible apply Touches.seq (State.rxCount_touches ..))
    | (with_reducible apply Touches.seq (State.set_touches ..))
    | (with_reducible apply Touches.seq (State.event_touches ..))
    | (with_reducible apply Touches.iff)
    | (intro x; intros; try beta_reduce)

theorem State.rxBlockFail_touches (s : State) (r : Nat) (preempted : Bool) : Touches 4194306 s (s.rxBlockFail r preempted) := by
  unfold State.rxBlockFail
  repeat' first
    | exact rfl
    | with_reducible assumption
    | with_reducible exact Touches.refl _ _
    | (extract_lets +onlyGivenNames s1; refine Touches.cut (x := s1) ?_ ?_; (on_goal 1 => subst s1); (on_goal 2 => (intro h1; clear_value s1)))
    | (extract_lets +onlyGivenNames v1; clear_value v1)
    | (with_reducible apply Touches.seq (State.putRx_touches ..))
    | (with_reducible apply Touches.seq (State.rxCount_touches ..))
    | (with_reducible apply Touches.seq (State.rxDrop_touches ..))
    | (with_reducible apply Touches.ite)

theorem State.rxAccept_touches (s : State) (r n snr : Nat) : Touches 4194306 s (s.rxAccept r n snr) := by
  unfold State.rxAccept
  repeat' first
    | exact rfl
    | with_reducible assumption
    | with_reducible exact Touches.refl _ _
    | (extract_lets +onlyGivenNames s1; refine Touches.cut (x := s1) ?_ ?_; (on_goal 1 => subst s1); (on_goal 2 => (intro h1; clear_value s1)))
    | (extract_lets +onlyGivenNames v1; clear_value v1)
    | (with_reducible apply Touches.seq (State.putRx_touches ..))
    | (with_reducible apply Touches.seq (State.modInc_touches ..))
    | (with_reducible apply Touches.seq (State.put_touches ..))
    | (with_reducible apply Touches.seq (State.set_touches ..))
    | (with_reducible apply Touches.seq (State.event_touches ..))
    | (with_reducible apply Touches.iff)
    | (intro x; intros; try beta_reduce)

theorem State.rxNd_touches (s : State) (r nd : Nat) : Touches 4194306 s (s.rxNd r nd) := by
  unfold State.rxNd
  repeat' first
    | exact rfl
    | with_reducible assumption
    | with_reducible exact Touches.refl _ _
    | (extract_lets +onlyGivenNames s1; refine Touches.cut (x := s1) ?_ ?_; (on_goal 1 => subst s1); (on_goal 2 => (intro h1; clear_value s1)))
    | (extract_lets +onlyGivenNames v1; clear_value v1)
    | (with_reducible apply Touches.seq (State.putRx_touches ..))
    | (with_reducible apply Touches.seq (State.satAdd_touches ..))
    | split

theorem State.rxShort_touches (s : State) (r : Nat) (cmd : Bool) (info : List Byte) (erased preempted : Bool) (snr : Nat) : Touches 4194306 s (s.rxShort r cmd info erased preempted snr) := by
  unfold State.rxShort
  repeat' first
    | exact rfl
    | with_reducible assumption
    | with_reducible exact Touches.refl _ _
    | (extract_lets +onlyGivenNames s1; refine Touches.cut (x := s1) ?_ ?_; (on_goal 1 => subst s1); (on_goal 2 => (intro h1; clear_value s1)))
    | (extract_lets +onlyGivenNames v1; clear_value v1)
    | (with_reducible apply Touches.seq (State.rxBlockFail_touches ..))
    | (with_reducible apply Touches.seq (State.rxAccept_touches ..))
    | (with_reducible apply Touches.seq (State.tpOut_touches ..))
    | (with_reducible apply Touches.seq (State.rxNd_touches ..))
    | (with_reducible apply Touches.ite)

theorem State.rxTruncated_touches (s : State) (r : Nat) : Touches 4194306 s (s.rxTruncated r) := by
  unfold State.rxTruncated
  repeat' first
    | exact rfl
    | with_reducible assumption
    | with_reducible exact Touches.refl _ _
    | (with_reducible apply Touches.seq (State.putRx_touches ..))
    | (with_reducible apply Touches.seq (State.rxCount_touches ..))
    | (with_reducible apply Touches.ite)

theorem State.rxStart_touches (s : State) (r : Nat) (info : List Byte) (erased preempted : Bool) (snr : Nat) : Touches 4194306 s (s.rxStart r info erased preempted snr) := by
  unfold State.rxStart
  repeat' first
    | exact rfl
    | with_reducible assumption
    | with_reducible exact Touches.refl _ _
    | (extract_lets +onlyGivenNames s1; refine Touches.cut (x := s1) ?_ ?_; (on_goal 1 => subst s1); (on_goal 2 => (intro h1; clear_value s1)))
    | (extract_lets +onlyGivenNames v1; clear_value v1)
    | (with_reducible apply Touches.seq (State.rxBlockFail_touches ..))
    | (with_reducible apply Touches.seq (State.rxCount_touches ..))
    | (with_reducible apply Touches.seq (State.set_touches ..))
    | (with_reducible apply Touches.seq (State.put_touches ..))
    | (with_reducible apply Touches.seq (State.clr_touches ..))
    | (with_reducible apply Touches.seq (State.rxAccept_touches ..))
    | (with_reducible apply Touches.seq (State.rxNd_touches ..))
    | (with_reducible apply Touches.seq (State.tpOut_touches ..))
    | (with_reducible apply Touches.ite)

theorem State.cmdHold_touches (s : State) (r : Nat) : Touches 2 s (s.cmdHold r) := by
  unfold State.cmdHold
  repeat' first
    | exact rfl
    | with_reducible assumption
    | with_reducible exact Touches.refl _ _
    | (with_reducible apply Touches.seq (State.tpOut_touches ..))
    | (with_reducible apply Touches.iff)
    | (intro x; intros; try beta_reduce)

theorem State.guardLoss_touches (s : State) (r : Nat) : Touches 4194306 s (s.guardLoss r) := by
  unfold State.guardLoss
  repeat' first
    | exact rfl
    | with_reducible assumption
    | with_reducible exact Touches.refl _ _
    | (extract_lets +onlyGivenNames s1; refine Touches.cut (x := s1) ?_ ?_; (on_goal 1 => subst s1); (on_goal 2 => (intro h1; clear_value s1)))
    | (extract_lets +onlyGivenNames v1; clear_value v1)
    | (with_reducible apply Touches.seq (State.putRx_touches ..))
    | (with_reducible apply Touches.seq (State.clr_touches ..))
    | (with_reducible apply Touches.seq (State.set_touches ..))
    | (with_reducible apply Touches.seq (State.rxCount_touches ..))
    | (with_reducible apply Touches.seq (State.event_touches ..))
    | (with_reducible apply Touches.iff)
    | (intro x; intros; try beta_reduce)

theorem State.rxTimeout_touches (s : State) (r : Nat) : Touches 4194306 s (s.rxTimeout r) := by
  unfold State.rxTimeout
  repeat' first
    | exact rfl
    | with_reducible assumption
    | with_reducible exact Touches.refl _ _
    | (with_reducible apply Touches.seq (State.rxResync_touches ..))
    | (with_reducible apply Touches.seq (State.rxTake_touches ..))
    | (with_reducible apply Touches.iff)
    | (intro x; intros; try beta_reduce)

theorem State.rxForce_touches (s : State) (r : Nat) : Touches 4194306 s (s.rxForce r) := by
  unfold State.rxForce
  repeat' first
    | exact rfl
    | with_reducible assumption
    | with_reducible exact Touches.refl _ _
    | (with_reducible apply Touches.seq (State.rxResync_touches ..))
    | (with_reducible apply Touches.seq (State.putWord_touches ..))
    | (with_reducible apply Touches.seq (State.putRx_touches ..))

theorem State.rxPreamble_touches (s : State) (r slot corr : Nat) : Touches 4194306 s (s.rxPreamble r slot corr) := by
  unfold State.rxPreamble
  repeat' first
    | exact rfl
    | with_reducible assumption
    | with_reducible exact Touches.refl _ _
    | (extract_lets +onlyGivenNames f1; refine Touches.cutF (f := f1) ?_ ?_; (on_goal 1 => subst f1); (on_goal 2 => (intro h1; clear_value f1)))
    | (with_reducible refine Touches.bindF (by assumption) ?_)
    | (extract_lets +onlyGivenNames v1; clear_value v1)
    | (with_reducible apply Touches.seq (State.set_touches ..))
    | (with_reducible apply Touches.seq (State.putRx_touches ..))
    | (with_reducible apply Touches.seq (State.rxCount_touches ..))
    | (with_reducible apply Touches.ite)
    | (intro x; intros; try beta_reduce)
    | split

theorem State.rxBurst_touches (s : State) (r : Nat) (soft body : List Int) (snr : Nat) (room : Bool) : Touches 541065234 s (s.rxBurst r soft body snr room) := by
  unfold State.rxBurst
  repeat' first
    | exact rfl
    | with_reducible assumption
    | with_reducible exact Touches.refl _ _
    | (extract_lets +onlyGivenNames s1; refine Touches.cut (x := s1) ?_ ?_; (on_goal 1 => subst s1); (on_goal 2 => (intro h1; clear_value s1)))
    | (extract_lets +onlyGivenNames v1; clear_value v1)
    | (with_reducible apply Touches.seq (State.putRx_touches ..))
    | (with_reducible apply Touches.seq (State.clr_touches ..))
    | (with_reducible apply Touches.seq (State.rxTake_touches ..))
    | (with_reducible apply Touches.seq (State.rxDrop_touches ..))
    | (with_reducible apply Touches.seq (State.drawn_touches ..))
    | (with_reducible apply Touches.seq (State.rxCount_touches ..))
    | (with_reducible apply Touches.seq (State.event_touches ..))
    | (with_reducible apply Touches.seq (State.modInc_touches ..))
    | (with_reducible apply Touches.seq (State.put_touches ..))
    | (with_reducible apply Touches.seq (State.streamPush_touches ..))
    | (with_reducible apply Touches.ite)
    | split

theorem State.rxPass_touches (s : State) (r n : Nat) : Touches 4194320 s (s.rxPass r n) := by
  unfold State.rxPass
  repeat' first
    | exact rfl
    | with_reducible assumption
    | with_reducible exact Touches.refl _ _
    | (extract_lets +onlyGivenNames v1; clear_value v1)
    | (with_reducible apply Touches.seq (State.putRx_touches ..))
    | (with_reducible apply Touches.seq (State.picked_touches ..))
    | (with_reducible apply Touches.ite)

theorem State.rxFloodWindow_touches (s : State) (r samples blanked power : Nat) : Touches 4194306 s (s.rxFloodWindow r samples blanked power) := by
  unfold State.rxFloodWindow
  repeat' first
    | exact rfl
    | with_reducible assumption
    | with_reducible exact Touches.refl _ _
    | (extract_lets +onlyGivenNames v1; clear_value v1)
    | (with_reducible apply Touches.seq (State.putRx_touches ..))
    | (with_reducible apply Touches.seq (State.set_touches ..))
    | (with_reducible apply Touches.seq (State.rxCount_touches ..))
    | (with_reducible apply Touches.seq (State.event_touches ..))
    | (with_reducible apply Touches.iff)
    | (with_reducible apply Touches.ite)
    | (intro x; intros; try beta_reduce)

theorem State.rxFloodClear_touches (s : State) (r : Nat) : Touches 2 s (s.rxFloodClear r) := by
  unfold State.rxFloodClear
  repeat' first
    | exact rfl
    | with_reducible assumption
    | with_reducible exact Touches.refl _ _
    | (with_reducible apply Touches.seq (State.clr_touches ..))
    | (with_reducible apply Touches.seq (State.event_touches ..))
    | (with_reducible apply Touches.iff)
    | (intro x; intros; try beta_reduce)

theorem State.maskTrip_touches (s : State) : Touches 2097411 s s.maskTrip := by
  unfold State.maskTrip
  repeat' first
    | exact rfl
    | with_reducible assumption
    | with_reducible exact Touches.refl _ _
    | (extract_lets +onlyGivenNames s1; refine Touches.cut (x := s1) ?_ ?_; (on_goal 1 => subst s1); (on_goal 2 => (intro h1; clear_value s1)))
    | (extract_lets +onlyGivenNames v1; clear_value v1)
    | (with_reducible apply Touches.seq (State.set_touches ..))
    | (with_reducible apply Touches.seq (State.satInc_touches ..))
    | (with_reducible apply Touches.seq (State.event_touches ..))
    | (with_reducible apply Touches.seq (State.txStop_touches ..))
    | (with_reducible apply Touches.seq (State.report_touches ..))
    | (with_reducible apply Touches.each)
    | (with_reducible apply Touches.iff)
    | (intro x; intros; try beta_reduce)

theorem State.maskWindow_touches (s : State) (paHigh sent : Bool) (bins : List Nat) (total : Nat) : Touches 2097427 s (s.maskWindow paHigh sent bins total) := by
  unfold State.maskWindow
  repeat' first
    | exact rfl
    | with_reducible assumption
    | with_reducible exact Touches.refl _ _
    | (extract_lets +onlyGivenNames s1; refine Touches.cut (x := s1) ?_ ?_; (on_goal 1 => subst s1); (on_goal 2 => (intro h1; clear_value s1)))
    | (extract_lets +onlyGivenNames v1; clear_value v1)
    | (with_reducible apply Touches.seq (State.clr_touches ..))
    | (with_reducible apply Touches.seq (State.drawn_touches ..))
    | (with_reducible apply Touches.seq (State.putB_touches ..))
    | (with_reducible apply Touches.seq (State.put_touches ..))
    | (with_reducible apply Touches.seq (State.event_touches ..))
    | (with_reducible apply Touches.seq (State.maskTrip_touches ..))
    | (with_reducible apply Touches.iff)
    | (with_reducible apply Touches.ite)
    | (intro x; intros; try beta_reduce)

theorem State.txRestart_touches (s : State) : Touches 2097171 s s.txRestart := by
  unfold State.txRestart
  repeat' first
    | exact rfl
    | with_reducible assumption
    | with_reducible exact Touches.refl _ _
    | (extract_lets +onlyGivenNames s1; refine Touches.cut (x := s1) ?_ ?_; (on_goal 1 => subst s1); (on_goal 2 => (intro h1; clear_value s1)))
    | (extract_lets +onlyGivenNames v1; clear_value v1)
    | (with_reducible apply Touches.seq (State.clr_touches ..))
    | (with_reducible apply Touches.seq (State.txStart_touches ..))
    | (with_reducible apply Touches.each)
    | (with_reducible apply Touches.iff)
    | (intro x; intros; try beta_reduce)

theorem State.lmdCmd_touches (s : State) (w : Word) : Touches 6291475 s (s.lmdCmd w) := by
  unfold State.lmdCmd
  repeat' first
    | exact rfl
    | with_reducible assumption
    | with_reducible exact Touches.refl _ _
    | (with_reducible apply Touches.seq (State.txRestart_touches ..))
    | (with_reducible apply Touches.seq (State.rxForce_touches ..))
    | (with_reducible apply Touches.ite)
    | split

theorem State.lmdCheck_touches (s : State) (inst addr : Nat) (double : Bool) : Touches 2097411 s (s.lmdCheck inst addr double) := by
  unfold State.lmdCheck
  repeat' first
    | exact rfl
    | with_reducible assumption
    | with_reducible exact Touches.refl _ _
    | (extract_lets +onlyGivenNames f1; refine Touches.cutG (f := f1) ?_ ?_; (on_goal 1 => subst f1); (on_goal 2 => (intro h1; clear_value f1)))
    | (with_reducible refine Touches.bindG (by assumption) ?_)
    | (extract_lets +onlyGivenNames s1; refine Touches.cut (x := s1) ?_ ?_; (on_goal 1 => subst s1); (on_goal 2 => (intro h1; clear_value s1)))
    | (extract_lets +onlyGivenNames v1; clear_value v1)
    | (with_reducible apply Touches.seq (State.report_touches ..))
    | (with_reducible apply Touches.seq (State.txStop_touches ..))
    | (with_reducible apply Touches.seq (State.event_touches ..))
    | (with_reducible apply Touches.each)
    | (with_reducible apply Touches.iff)
    | (with_reducible apply Touches.ite)
    | (intro x; intros; try beta_reduce)

theorem State.lmdRxCheck_touches (s : State) (r : Nat) (double : Bool) : Touches 2 s (s.lmdRxCheck r double) := by
  unfold State.lmdRxCheck
  repeat' first
    | exact rfl
    | with_reducible assumption
    | with_reducible exact Touches.refl _ _
    | (with_reducible apply Touches.seq (State.set_touches ..))
    | (with_reducible apply Touches.seq (State.rxResync_touches ..))
    | (with_reducible apply Touches.seq (State.event_touches ..))
    | (with_reducible apply Touches.iff)
    | (intro x; intros; try beta_reduce)

theorem State.rxWritten_touches (s : State) (r : Nat) : Touches 2 s (s.rxWritten r) := by
  unfold State.rxWritten
  repeat' first
    | exact rfl
    | with_reducible assumption
    | with_reducible exact Touches.refl _ _
    | (with_reducible apply Touches.seq (State.rxResync_touches ..))
    | (with_reducible apply Touches.iff)
    | (intro x; intros; try beta_reduce)

theorem State.lmdRefresh_touches (s : State) : Touches 6291475 s s.lmdRefresh := by
  unfold State.lmdRefresh
  repeat' first
    | exact rfl
    | with_reducible assumption
    | with_reducible exact Touches.refl _ _
    | (extract_lets +onlyGivenNames s1; refine Touches.cut (x := s1) ?_ ?_; (on_goal 1 => subst s1); (on_goal 2 => (intro h1; clear_value s1)))
    | (extract_lets +onlyGivenNames v1; clear_value v1)
    | (with_reducible apply Touches.seq (State.txState_touches ..))
    | (with_reducible apply Touches.seq (State.txDisable_touches ..))
    | (with_reducible apply Touches.seq (State.txStart_touches ..))
    | (with_reducible apply Touches.seq (State.txStop_touches ..))
    | (with_reducible apply Touches.seq (State.rxTake_touches ..))
    | (with_reducible apply Touches.seq (State.putRx_touches ..))
    | (with_reducible apply Touches.seq (State.rxResync_touches ..))
    | (with_reducible apply Touches.seq (State.clr_touches ..))
    | (with_reducible apply Touches.each)
    | (with_reducible apply Touches.iff)
    | (with_reducible apply Touches.ite)
    | (intro x; intros; try beta_reduce)

theorem State.lmdStart_touches (s : State) : Touches 6291475 s s.lmdStart := by
  unfold State.lmdStart
  repeat' first
    | exact rfl
    | with_reducible assumption
    | with_reducible exact Touches.refl _ _
    | (extract_lets +onlyGivenNames s1; refine Touches.cut (x := s1) ?_ ?_; (on_goal 1 => subst s1); (on_goal 2 => (intro h1; clear_value s1)))
    | (extract_lets +onlyGivenNames v1; clear_value v1)
    | (with_reducible apply Touches.seq (State.putRx_touches ..))
    | (with_reducible apply Touches.seq (State.putWord_touches ..))
    | (with_reducible apply Touches.seq (State.clr_touches ..))
    | (with_reducible apply Touches.seq (State.set_touches ..))
    | (with_reducible apply Touches.seq (State.putTx_touches ..))
    | (with_reducible apply Touches.seq (State.txStart_touches ..))
    | (with_reducible apply Touches.seq (State.txState_touches ..))
    | (with_reducible apply Touches.each)
    | (with_reducible apply Touches.ite)
    | (intro x; intros; try beta_reduce)

theorem State.lmdMute_touches (s : State) : Touches 6291459 s s.lmdMute := by
  unfold State.lmdMute
  repeat' first
    | exact rfl
    | with_reducible assumption
    | with_reducible exact Touches.refl _ _
    | (extract_lets +onlyGivenNames s1; refine Touches.cut (x := s1) ?_ ?_; (on_goal 1 => subst s1); (on_goal 2 => (intro h1; clear_value s1)))
    | (extract_lets +onlyGivenNames v1; clear_value v1)
    | (with_reducible apply Touches.seq (State.txStop_touches ..))
    | (with_reducible apply Touches.seq (State.putRx_touches ..))
    | (with_reducible apply Touches.seq (State.clr_touches ..))
    | (with_reducible apply Touches.each)
    | (with_reducible apply Touches.iff)
    | (intro x; intros; try beta_reduce)

theorem State.lmdUnmute_touches (s : State) : Touches 2097171 s s.lmdUnmute := by
  unfold State.lmdUnmute
  repeat' first
    | exact rfl
    | with_reducible assumption
    | with_reducible exact Touches.refl _ _
    | (extract_lets +onlyGivenNames s1; refine Touches.cut (x := s1) ?_ ?_; (on_goal 1 => subst s1); (on_goal 2 => (intro h1; clear_value s1)))
    | (extract_lets +onlyGivenNames v1; clear_value v1)
    | (with_reducible apply Touches.seq (State.txStart_touches ..))
    | (with_reducible apply Touches.seq (State.rxResync_touches ..))
    | (with_reducible apply Touches.each)
    | (with_reducible apply Touches.iff)
    | (intro x; intros; try beta_reduce)

theorem State.lmdWithhold_touches (s : State) : Touches 4194306 s s.lmdWithhold := by
  unfold State.lmdWithhold
  repeat' first
    | exact rfl
    | with_reducible assumption
    | with_reducible exact Touches.refl _ _
    | (with_reducible apply Touches.seq (State.putRx_touches ..))
    | (with_reducible apply Touches.seq (State.clr_touches ..))
    | (with_reducible apply Touches.each)
    | (intro x; intros; try beta_reduce)

theorem State.lmdDrain_touches (s : State) : Touches 2097155 s s.lmdDrain := by
  unfold State.lmdDrain
  repeat' first
    | exact rfl
    | with_reducible assumption
    | with_reducible exact Touches.refl _ _
    | (extract_lets +onlyGivenNames s1; refine Touches.cut (x := s1) ?_ ?_; (on_goal 1 => subst s1); (on_goal 2 => (intro h1; clear_value s1)))
    | (extract_lets +onlyGivenNames v1; clear_value v1)
    | (with_reducible apply Touches.seq (State.txStop_touches ..))
    | (with_reducible apply Touches.seq (State.lmdDone_touches ..))
    | (with_reducible apply Touches.seq (State.putTx_touches ..))
    | (with_reducible apply Touches.each)
    | (with_reducible apply Touches.iff)
    | (intro x; intros; try beta_reduce)

theorem State.lmdRetention_touches (s : State) : Touches 6291458 s s.lmdRetention := by
  unfold State.lmdRetention
  repeat' first
    | exact rfl
    | with_reducible assumption
    | with_reducible exact Touches.refl _ _
    | (extract_lets +onlyGivenNames s1; refine Touches.cut (x := s1) ?_ ?_; (on_goal 1 => subst s1); (on_goal 2 => (intro h1; clear_value s1)))
    | (extract_lets +onlyGivenNames v1; clear_value v1)
    | (with_reducible apply Touches.seq (State.putRx_touches ..))
    | (with_reducible apply Touches.seq (State.putWord_touches ..))
    | (with_reducible apply Touches.seq (State.putTx_touches ..))
    | (with_reducible apply Touches.each)
    | (intro x; intros; try beta_reduce)

end Sys2Proof.Machine
end

