-- ==== Sys2Proof/Laws/TouchPll.lean ====
section
/-! SUPPORT. What each operation of Machine/Pll.lean can change: one lemma per operation, its set of parts as in Laws/Parts.lean. -/
namespace Sys2Proof.Machine

theorem State.putPl_touches (s : State) (n : Nat) (v : Pll) : Touches 67108864 s (s.putPl n v) := by
  unfold State.putPl
  repeat' first
    | exact rfl
    | with_reducible assumption
    | with_reducible exact Touches.refl _ _
    | (with_reducible apply Touches.upd_pll)

theorem State.lpllShow_touches (s : State) (n : Nat) : Touches 2 s (s.lpllShow n) := by
  unfold State.lpllShow
  repeat' first
    | exact rfl
    | with_reducible assumption
    | with_reducible exact Touches.refl _ _
    | (extract_lets +onlyGivenNames v1; clear_value v1)
    | (with_reducible apply Touches.seq (State.putB_touches ..))
    | (with_reducible apply Touches.ite)

theorem State.pllMute_touches (s : State) (n : Nat) : Touches 7307283 s (s.pllMute n) := by
  unfold State.pllMute
  repeat' first
    | exact rfl
    | with_reducible assumption
    | with_reducible exact Touches.refl _ _
    | (extract_lets +onlyGivenNames s1; refine Touches.cut (x := s1) ?_ ?_; (on_goal 1 => subst s1); (on_goal 2 => (intro h1; clear_value s1)))
    | (extract_lets +onlyGivenNames v1; clear_value v1)
    | (with_reducible apply Touches.seq (State.clr_touches ..))
    | (with_reducible apply Touches.seq (State.set_touches ..))
    | (with_reducible apply Touches.seq (State.lpllShow_touches ..))
    | (with_reducible apply Touches.seq (State.smpMute_touches ..))
    | (with_reducible apply Touches.seq (State.rxcMute_touches ..))
    | (with_reducible apply Touches.seq (State.bcdMute_touches ..))
    | (with_reducible apply Touches.seq (State.lmdMute_touches ..))
    | (with_reducible apply Touches.seq (State.lanesRestart_touches ..))
    | (with_reducible apply Touches.iff)
    | (with_reducible apply Touches.ite)
    | (intro x; intros; try beta_reduce)

theorem State.pllUnmuted_touches (s : State) (n : Nat) : Touches 2588691 s (s.pllUnmuted n) := by
  unfold State.pllUnmuted
  repeat' first
    | exact rfl
    | with_reducible assumption
    | with_reducible exact Touches.refl _ _
    | (extract_lets +onlyGivenNames s1; refine Touches.cut (x := s1) ?_ ?_; (on_goal 1 => subst s1); (on_goal 2 => (intro h1; clear_value s1)))
    | (extract_lets +onlyGivenNames v1; clear_value v1)
    | (with_reducible apply Touches.seq (State.clr_touches ..))
    | (with_reducible apply Touches.seq (State.lpllShow_touches ..))
    | (with_reducible apply Touches.seq (State.soundStart_touches ..))
    | (with_reducible apply Touches.seq (State.rxcRestart_touches ..))
    | (with_reducible apply Touches.seq (State.lmdUnmute_touches ..))
    | (with_reducible apply Touches.seq (State.lanesRestart_touches ..))
    | (with_reducible apply Touches.iff)
    | (with_reducible apply Touches.ite)
    | (intro x; intros; try beta_reduce)

theorem State.pllDone_touches (s : State) (n code : Nat) : Touches 2 s (s.pllDone n code) := by
  unfold State.pllDone
  repeat' first
    | exact rfl
    | with_reducible assumption
    | with_reducible exact Touches.refl _ _
    | (with_reducible apply Touches.seq (State.put_touches ..))
    | (with_reducible apply Touches.seq (State.event_touches ..))

theorem State.pllTake_touches (s : State) (n : Nat) : Touches 67108866 s (s.pllTake n) := by
  unfold State.pllTake
  repeat' first
    | exact rfl
    | with_reducible assumption
    | with_reducible exact Touches.refl _ _
    | (extract_lets +onlyGivenNames s1; refine Touches.cut (x := s1) ?_ ?_; (on_goal 1 => subst s1); (on_goal 2 => (intro h1; clear_value s1)))
    | (extract_lets +onlyGivenNames v1; clear_value v1)
    | (with_reducible apply Touches.seq (State.putPl_touches ..))
    | (with_reducible apply Touches.seq (State.put_touches ..))
    | (with_reducible apply Touches.ite)
    | split

theorem State.lpllSelect_touches (s : State) (n : Nat) : Touches 67108864 s (s.lpllSelect n) := by
  unfold State.lpllSelect
  repeat' first
    | exact rfl
    | with_reducible assumption
    | with_reducible exact Touches.refl _ _
    | (with_reducible apply Touches.upd_pll)
    | (with_reducible apply Touches.ite)

theorem State.pllApply_touches (s : State) (n : Nat) (nvmBusy : Bool) : Touches 74416147 s (s.pllApply n nvmBusy) := by
  unfold State.pllApply
  repeat' first
    | exact rfl
    | with_reducible assumption
    | with_reducible exact Touches.refl _ _
    | (extract_lets +onlyGivenNames s1; refine Touches.cut (x := s1) ?_ ?_; (on_goal 1 => subst s1); (on_goal 2 => (intro h1; clear_value s1)))
    | (extract_lets +onlyGivenNames v1; clear_value v1)
    | (with_reducible apply Touches.seq (State.pllDone_touches ..))
    | (with_reducible apply Touches.seq (State.pllMute_touches ..))
    | (with_reducible apply Touches.seq (State.pllTake_touches ..))
    | (with_reducible apply Touches.seq (State.lpllSelect_touches ..))
    | (with_reducible apply Touches.seq (State.putPl_touches ..))
    | (with_reducible apply Touches.ite)
    | split

theorem State.pllUnmute_touches (s : State) (n : Nat) : Touches 2588691 s (s.pllUnmute n) := by
  unfold State.pllUnmute
  repeat' first
    | exact rfl
    | with_reducible assumption
    | with_reducible exact Touches.refl _ _
    | (with_reducible apply Touches.seq (State.pllDone_touches ..))
    | (with_reducible apply Touches.seq (State.pllUnmuted_touches ..))
    | (with_reducible apply Touches.ite)

theorem State.pllCfgWritten_touches (s : State) (n : Nat) : Touches 2 s (s.pllCfgWritten n) := by
  unfold State.pllCfgWritten
  repeat' first
    | exact rfl
    | with_reducible assumption
    | with_reducible exact Touches.refl _ _
    | (with_reducible apply Touches.seq (State.put_touches ..))
    | (with_reducible apply Touches.iff)
    | (with_reducible apply Touches.ite)
    | (intro x; intros; try beta_reduce)

theorem State.pllCmd_touches (s : State) (n : Nat) (w : Word) (nvmBusy : Bool) : Touches 74416147 s (s.pllCmd n w nvmBusy) := by
  unfold State.pllCmd
  repeat' first
    | exact rfl
    | with_reducible assumption
    | with_reducible exact Touches.refl _ _
    | (with_reducible apply Touches.seq (State.pllApply_touches ..))
    | (with_reducible apply Touches.seq (State.pllUnmute_touches ..))
    | (with_reducible apply Touches.ite)
    | split

theorem State.pllLock_touches (s : State) (n : Nat) : Touches 69697555 s (s.pllLock n) := by
  unfold State.pllLock
  repeat' first
    | exact rfl
    | with_reducible assumption
    | with_reducible exact Touches.refl _ _
    | (extract_lets +onlyGivenNames s1; refine Touches.cut (x := s1) ?_ ?_; (on_goal 1 => subst s1); (on_goal 2 => (intro h1; clear_value s1)))
    | (extract_lets +onlyGivenNames v1; clear_value v1)
    | (with_reducible apply Touches.seq (State.set_touches ..))
    | (with_reducible apply Touches.seq (State.lpllShow_touches ..))
    | (with_reducible apply Touches.seq (State.putPl_touches ..))
    | (with_reducible apply Touches.seq (State.put_touches ..))
    | (with_reducible apply Touches.seq (State.pllUnmuted_touches ..))
    | (with_reducible apply Touches.seq (State.pllDone_touches ..))
    | (with_reducible apply Touches.iff)
    | (with_reducible apply Touches.ite)
    | (intro x; intros; try beta_reduce)

theorem State.pllTimeout_touches (s : State) (n : Nat) : Touches 67109122 s (s.pllTimeout n) := by
  unfold State.pllTimeout
  repeat' first
    | exact rfl
    | with_reducible assumption
    | with_reducible exact Touches.refl _ _
    | (with_reducible apply Touches.seq (State.putPl_touches ..))
    | (with_reducible apply Touches.seq (State.pllDone_touches ..))
    | (with_reducible apply Touches.seq (State.report_touches ..))
    | (with_reducible apply Touches.ite)

theorem State.pllLol_touches (s : State) (n : Nat) : Touches 74416403 s (s.pllLol n) := by
  unfold State.pllLol
  repeat' first
    | exact rfl
    | with_reducible assumption
    | with_reducible exact Touches.refl _ _
    | (extract_lets +onlyGivenNames s1; refine Touches.cut (x := s1) ?_ ?_; (on_goal 1 => subst s1); (on_goal 2 => (intro h1; clear_value s1)))
    | (extract_lets +onlyGivenNames v1; clear_value v1)
    | (with_reducible apply Touches.seq (State.set_touches ..))
    | (with_reducible apply Touches.seq (State.satInc_touches ..))
    | (with_reducible apply Touches.seq (State.event_touches ..))
    | (with_reducible apply Touches.seq (State.putPl_touches ..))
    | (with_reducible apply Touches.seq (State.pllMute_touches ..))
    | (with_reducible apply Touches.seq (State.report_touches ..))
    | (with_reducible apply Touches.iff)
    | (with_reducible apply Touches.ite)
    | (intro x; intros; try beta_reduce)

theorem State.lpllFailover_touches (s : State) (n : Nat) : Touches 67141634 s (s.lpllFailover n) := by
  unfold State.lpllFailover
  repeat' first
    | exact rfl
    | with_reducible assumption
    | with_reducible exact Touches.refl _ _
    | (extract_lets +onlyGivenNames s1; refine Touches.cut (x := s1) ?_ ?_; (on_goal 1 => subst s1); (on_goal 2 => (intro h1; clear_value s1)))
    | (extract_lets +onlyGivenNames v1; clear_value v1)
    | (with_reducible apply Touches.seq (State.set_touches ..))
    | (with_reducible apply Touches.seq (State.putLane_touches ..))
    | (with_reducible apply Touches.seq (State.laneRestart_touches ..))
    | (with_reducible apply Touches.upd_pll)
    | (with_reducible apply Touches.each)
    | (with_reducible apply Touches.iff)
    | (intro x; intros; try beta_reduce)

theorem State.pllRefLost_touches (s : State) (n : Nat) : Touches 74416147 s (s.pllRefLost n) := by
  unfold State.pllRefLost
  repeat' first
    | exact rfl
    | with_reducible assumption
    | with_reducible exact Touches.refl _ _
    | (extract_lets +onlyGivenNames s1; refine Touches.cut (x := s1) ?_ ?_; (on_goal 1 => subst s1); (on_goal 2 => (intro h1; clear_value s1)))
    | (extract_lets +onlyGivenNames v1; clear_value v1)
    | (with_reducible apply Touches.seq (State.putPl_touches ..))
    | (with_reducible apply Touches.seq (State.pllMute_touches ..))
    | (with_reducible apply Touches.seq (State.set_touches ..))
    | (with_reducible apply Touches.seq (State.event_touches ..))

theorem State.refLoss_touches (s : State) (r : Nat) : Touches 74420499 s (s.refLoss r) := by
  unfold State.refLoss
  repeat' first
    | exact rfl
    | with_reducible assumption
    | with_reducible exact Touches.refl _ _
    | (extract_lets +onlyGivenNames s1; refine Touches.cut (x := s1) ?_ ?_; (on_goal 1 => subst s1); (on_goal 2 => (intro h1; clear_value s1)))
    | (extract_lets +onlyGivenNames v1; clear_value v1)
    | (with_reducible apply Touches.seq (State.pllRefLost_touches ..))
    | (with_reducible apply Touches.seq (State.report_touches ..))
    | (with_reducible apply Touches.seq (State.fixOscLost_touches ..))
    | (with_reducible apply Touches.seq (State.clr_touches ..))
    | (with_reducible apply Touches.seq (State.lpllFailover_touches ..))
    | (with_reducible apply Touches.seq (State.lanesRestart_touches ..))
    | (with_reducible apply Touches.upd_pll)
    | (with_reducible apply Touches.each)
    | (with_reducible apply Touches.iff)
    | (with_reducible apply Touches.ite)
    | (intro x; intros; try beta_reduce)

theorem State.loadRatio_touches (s : State) (khz : Nat) : Touches 67108864 s (s.loadRatio khz) := by
  unfold State.loadRatio
  repeat' first
    | exact rfl
    | with_reducible assumption
    | with_reducible exact Touches.refl _ _
    | (with_reducible apply Touches.seq (State.putPl_touches ..))

theorem State.refQualified_touches (s : State) (r first khz : Nat) : Touches 67211410 s (s.refQualified r first khz) := by
  unfold State.refQualified
  repeat' first
    | exact rfl
    | with_reducible assumption
    | with_reducible exact Touches.refl _ _
    | (extract_lets +onlyGivenNames s1; refine Touches.cut (x := s1) ?_ ?_; (on_goal 1 => subst s1); (on_goal 2 => (intro h1; clear_value s1)))
    | (extract_lets +onlyGivenNames v1; clear_value v1)
    | (with_reducible apply Touches.seq (State.loadRatio_touches ..))
    | (with_reducible apply Touches.seq (State.seedDevice_touches ..))
    | (with_reducible apply Touches.seq (State.set_touches ..))
    | (with_reducible apply Touches.seq (State.lpllFailover_touches ..))
    | (with_reducible apply Touches.seq (State.lanesRestart_touches ..))
    | (with_reducible apply Touches.upd_pll)
    | (with_reducible apply Touches.iff)
    | (with_reducible apply Touches.ite)
    | (intro x; intros; try beta_reduce)

theorem State.pllLoadBegin_touches (s : State) : Touches 74416147 s s.pllLoadBegin := by
  unfold State.pllLoadBegin
  repeat' first
    | exact rfl
    | with_reducible assumption
    | with_reducible exact Touches.refl _ _
    | (extract_lets +onlyGivenNames s1; refine Touches.cut (x := s1) ?_ ?_; (on_goal 1 => subst s1); (on_goal 2 => (intro h1; clear_value s1)))
    | (extract_lets +onlyGivenNames v1; clear_value v1)
    | (with_reducible apply Touches.seq (State.putPl_touches ..))
    | (with_reducible apply Touches.seq (State.pllMute_touches ..))
    | (with_reducible apply Touches.seq (State.clr_touches ..))
    | (with_reducible apply Touches.seq (State.drawn_touches ..))
    | (with_reducible apply Touches.seq (State.put_touches ..))
    | (with_reducible apply Touches.seq (State.loadRatio_touches ..))
    | (with_reducible apply Touches.upd_pll)
    | (with_reducible apply Touches.each)
    | (intro x; intros; try beta_reduce)

theorem State.lpllReset_touches (s : State) (n : Nat) : Touches 67141634 s (s.lpllReset n) := by
  unfold State.lpllReset
  repeat' first
    | exact rfl
    | with_reducible assumption
    | with_reducible exact Touches.refl _ _
    | (extract_lets +onlyGivenNames s1; refine Touches.cut (x := s1) ?_ ?_; (on_goal 1 => subst s1); (on_goal 2 => (intro h1; clear_value s1)))
    | (extract_lets +onlyGivenNames v1; clear_value v1)
    | (with_reducible apply Touches.seq (State.clr_touches ..))
    | (with_reducible apply Touches.seq (State.putLane_touches ..))
    | (with_reducible apply Touches.upd_pll)
    | (with_reducible apply Touches.each)
    | (with_reducible apply Touches.iff)
    | (intro x; intros; try beta_reduce)

theorem State.pllEndPhase_touches (s : State) : Touches 74416147 s s.pllEndPhase := by
  unfold State.pllEndPhase
  repeat' first
    | exact rfl
    | with_reducible assumption
    | with_reducible exact Touches.refl _ _
    | (extract_lets +onlyGivenNames s1; refine Touches.cut (x := s1) ?_ ?_; (on_goal 1 => subst s1); (on_goal 2 => (intro h1; clear_value s1)))
    | (extract_lets +onlyGivenNames v1; clear_value v1)
    | (with_reducible apply Touches.seq (State.lpllReset_touches ..))
    | (with_reducible apply Touches.seq (State.pllMute_touches ..))
    | (with_reducible apply Touches.seq (State.pllTake_touches ..))
    | (with_reducible apply Touches.upd_pll)
    | (with_reducible apply Touches.each)
    | (intro x; intros; try beta_reduce)

theorem State.pllRetention_touches (s : State) : Touches 74416147 s s.pllRetention := by
  unfold State.pllRetention
  repeat' first
    | exact rfl
    | with_reducible assumption
    | with_reducible exact Touches.refl _ _
    | (extract_lets +onlyGivenNames s1; refine Touches.cut (x := s1) ?_ ?_; (on_goal 1 => subst s1); (on_goal 2 => (intro h1; clear_value s1)))
    | (extract_lets +onlyGivenNames v1; clear_value v1)
    | (with_reducible apply Touches.seq (State.pllMute_touches ..))
    | (with_reducible apply Touches.upd_pll)
    | (with_reducible apply Touches.each)
    | (intro x; intros; try beta_reduce)

theorem State.pllWake_touches (s : State) : Touches 67141634 s s.pllWake := by
  unfold State.pllWake
  repeat' first
    | exact rfl
    | with_reducible assumption
    | with_reducible exact Touches.refl _ _
    | (extract_lets +onlyGivenNames s1; refine Touches.cut (x := s1) ?_ ?_; (on_goal 1 => subst s1); (on_goal 2 => (intro h1; clear_value s1)))
    | (extract_lets +onlyGivenNames v1; clear_value v1)
    | (with_reducible apply Touches.seq (State.lpllReset_touches ..))
    | (with_reducible apply Touches.seq (State.pllTake_touches ..))
    | (with_reducible apply Touches.seq (State.putPl_touches ..))
    | (with_reducible apply Touches.seq (State.put_touches ..))
    | (with_reducible apply Touches.each)
    | (with_reducible apply Touches.ite)
    | (intro x; intros; try beta_reduce)
    | split

end Sys2Proof.Machine
end

