-- ==== Sys2Proof/Laws/TouchHk.lean ====
section
/-! SUPPORT. What each operation of Machine/Hk.lean can change: one lemma per operation, its set of parts as in Laws/Parts.lean. -/
namespace Sys2Proof.Machine

theorem State.setGrd_touches (s : State) (f : GrdState → GrdState) : Touches 256 s (s.setGrd f) := Touches.upd_grd rfl (Touches.refl _ _) _

theorem State.grdClear_touches (s : State) : Touches 2322 s s.grdClear := by
  unfold State.grdClear
  repeat' first
    | exact rfl
    | with_reducible assumption
    | with_reducible exact Touches.refl _ _
    | (intro l; refine FabState.wf_of ?_ ?_ <;> first | with_reducible exact id | with_reducible exact cellWrite_wf _ _ _ | with_reducible exact cellErase_wf _ _ | with_reducible exact filter_wf _ _ | with_reducible exact cellWriteAll_wf _ _ _ _ | exact fun h => cellWrite_wf _ _ _ (cellWrite_wf _ _ _ h) | (split <;> with_reducible exact id) | exact fun _ => rfl)
    | (extract_lets +onlyGivenNames s1; refine Touches.cut (x := s1) ?_ ?_; (on_goal 1 => subst s1); (on_goal 2 => (intro h1; clear_value s1)))
    | (extract_lets +onlyGivenNames v1; clear_value v1)
    | (with_reducible apply Touches.seq (State.drawn_touches ..))
    | (with_reducible apply Touches.seq (State.event_touches ..))
    | (with_reducible apply Touches.seq (State.clr_touches ..))
    | (with_reducible apply Touches.seq (State.setGrd_touches ..))
    | (with_reducible refine Touches.seq (State.setFab_touches ?_) ?_ ?_)
    | (with_reducible apply Touches.each)
    | (with_reducible apply Touches.iff)
    | (with_reducible apply Touches.ite)
    | (intro x; intros; try beta_reduce)

theorem State.grdInject_touches (s : State) (n : Nat) : Touches 274 s (s.grdInject n) := by
  unfold State.grdInject
  repeat' first
    | exact rfl
    | with_reducible assumption
    | with_reducible exact Touches.refl _ _
    | (with_reducible apply Touches.seq (State.drawn_touches ..))
    | (with_reducible apply Touches.seq (State.report_touches ..))
    | (with_reducible apply Touches.ite)

theorem State.grdCmd_touches (s : State) (w : Word) : Touches 2322 s (s.grdCmd w) := by
  unfold State.grdCmd
  repeat' first
    | exact rfl
    | with_reducible assumption
    | with_reducible exact Touches.refl _ _
    | (with_reducible apply Touches.seq (State.grdClear_touches ..))
    | (with_reducible apply Touches.seq (State.grdInject_touches ..))
    | (with_reducible apply Touches.ite)
    | split

theorem State.hkDisagree_touches (s : State) (c u bits : Nat) : Touches 258 s (s.hkDisagree c u bits) := by
  unfold State.hkDisagree
  repeat' first
    | exact rfl
    | with_reducible assumption
    | with_reducible exact Touches.refl _ _
    | (extract_lets +onlyGivenNames s1; refine Touches.cut (x := s1) ?_ ?_; (on_goal 1 => subst s1); (on_goal 2 => (intro h1; clear_value s1)))
    | (extract_lets +onlyGivenNames v1; clear_value v1)
    | (with_reducible apply Touches.seq (State.report_touches ..))
    | (with_reducible apply Touches.seq (State.set_touches ..))
    | (with_reducible apply Touches.seq (State.setGrd_touches ..))
    | (with_reducible apply Touches.ite)

theorem State.hkResyncDone_touches (s : State) (c : Nat) : Touches 256 s (s.hkResyncDone c) := by
  unfold State.hkResyncDone
  repeat' first
    | exact rfl
    | with_reducible assumption
    | with_reducible exact Touches.refl _ _
    | (with_reducible apply Touches.seq (State.setGrd_touches ..))
    | (with_reducible apply Touches.ite)

theorem State.pulseEnd_touches (s : State) (n : Nat) : Touches 256 s (s.pulseEnd n) := by
  unfold State.pulseEnd
  repeat' first
    | exact rfl
    | with_reducible assumption
    | with_reducible exact Touches.refl _ _
    | (with_reducible apply Touches.seq (State.setGrd_touches ..))

theorem State.padMismatch_touches (s : State) (high : Bool) : Touches 258 s (s.padMismatch high) := by
  unfold State.padMismatch
  repeat' first
    | exact rfl
    | with_reducible assumption
    | with_reducible exact Touches.refl _ _
    | (with_reducible apply Touches.seq (State.setGrd_touches ..))
    | (with_reducible apply Touches.seq (State.report_touches ..))
    | (with_reducible apply Touches.ite)

theorem State.selftestPart_touches (s : State) (p : Nat) (failing : Option Nat) : Touches 258 s (s.selftestPart p failing) := by
  unfold State.selftestPart
  repeat' first
    | exact rfl
    | with_reducible assumption
    | with_reducible exact Touches.refl _ _
    | (extract_lets +onlyGivenNames s1; refine Touches.cut (x := s1) ?_ ?_; (on_goal 1 => subst s1); (on_goal 2 => (intro h1; clear_value s1)))
    | (extract_lets +onlyGivenNames v1; clear_value v1)
    | (with_reducible apply Touches.seq (State.set_touches ..))
    | (with_reducible apply Touches.seq (State.event_touches ..))
    | (with_reducible apply Touches.seq (State.clr_touches ..))
    | (with_reducible apply Touches.seq (State.report_touches ..))
    | (with_reducible apply Touches.ite)
    | split

theorem State.tempReading_touches (s : State) (i : Nat) (c : Int) : Touches 258 s (s.tempReading i c) := by
  unfold State.tempReading
  repeat' first
    | exact rfl
    | with_reducible assumption
    | with_reducible exact Touches.refl _ _
    | (with_reducible apply Touches.seq (State.setGrd_touches ..))
    | (with_reducible apply Touches.seq (State.report_touches ..))
    | (with_reducible apply Touches.iff)
    | (with_reducible apply Touches.ite)
    | (intro x; intros; try beta_reduce)

theorem State.armRails_touches (s : State) : Touches 256 s s.armRails := by
  unfold State.armRails
  repeat' first
    | exact rfl
    | with_reducible assumption
    | with_reducible exact Touches.refl _ _
    | (with_reducible apply Touches.seq (State.setGrd_touches ..))

theorem State.grdReload_touches (s : State) : Touches 258 s s.grdReload := by
  unfold State.grdReload
  repeat' first
    | exact rfl
    | with_reducible assumption
    | with_reducible exact Touches.refl _ _
    | (extract_lets +onlyGivenNames s1; refine Touches.cut (x := s1) ?_ ?_; (on_goal 1 => subst s1); (on_goal 2 => (intro h1; clear_value s1)))
    | (extract_lets +onlyGivenNames v1; clear_value v1)
    | (with_reducible apply Touches.seq (State.putWord_touches ..))
    | (with_reducible apply Touches.seq (State.put_touches ..))
    | (with_reducible apply Touches.seq (State.clr_touches ..))
    | (with_reducible apply Touches.seq (State.setGrd_touches ..))
    | (with_reducible apply Touches.seq (State.armRails_touches ..))

end Sys2Proof.Machine
end

