-- ==== Sys2Proof/Laws/TouchMon.lean ====
section
/-! SUPPORT. What each operation of Machine/Mon.lean can change: one lemma per operation, its set of parts as in Laws/Parts.lean. -/
namespace Sys2Proof.Machine

theorem State.setMon_touches (s : State) (f : MonState → MonState) : Touches 134217728 s (s.setMon f) := Touches.upd_mon rfl (Touches.refl _ _) _

theorem State.monLog_touches (s : State) (code detail : Nat) : Touches 258 s (s.monLog code detail) := by
  unfold State.monLog
  repeat' first
    | exact rfl
    | with_reducible assumption
    | with_reducible exact Touches.refl _ _
    | (with_reducible apply Touches.seq (State.blockLog_touches ..))

theorem State.say_touches (s : State) (t : String) : Touches 1 s (s.say t) := by
  unfold State.say
  repeat' first
    | exact rfl
    | with_reducible assumption
    | with_reducible exact Touches.refl _ _
    | (with_reducible apply Touches.seq (State.emit_touches ..))

theorem State.monBaud_touches (s : State) : Touches 134217728 s s.monBaud := by
  unfold State.monBaud
  repeat' first
    | exact rfl
    | with_reducible assumption
    | with_reducible exact Touches.refl _ _
    | (with_reducible apply Touches.seq (State.setMon_touches ..))
    | (with_reducible apply Touches.iff)
    | (intro x; intros; try beta_reduce)

theorem State.monDrop_touches (s : State) (cause : Nat) : Touches 258 s (s.monDrop cause) := by
  unfold State.monDrop
  repeat' first
    | exact rfl
    | with_reducible assumption
    | with_reducible exact Touches.refl _ _
    | (with_reducible apply Touches.seq (State.clr_touches ..))
    | (with_reducible apply Touches.seq (State.event_touches ..))
    | (with_reducible apply Touches.seq (State.monLog_touches ..))
    | (with_reducible apply Touches.iff)
    | (intro x; intros; try beta_reduce)

theorem State.monPrompt_touches (s : State) : Touches 134217987 s s.monPrompt := by
  unfold State.monPrompt
  repeat' first
    | exact rfl
    | with_reducible assumption
    | with_reducible exact Touches.refl _ _
    | (extract_lets +onlyGivenNames s1; refine Touches.cut (x := s1) ?_ ?_; (on_goal 1 => subst s1); (on_goal 2 => (intro h1; clear_value s1)))
    | (extract_lets +onlyGivenNames v1; clear_value v1)
    | (with_reducible apply Touches.seq (State.monDrop_touches ..))
    | (with_reducible apply Touches.seq (State.setMon_touches ..))
    | (with_reducible apply Touches.seq (State.say_touches ..))
    | (with_reducible apply Touches.seq (State.monBaud_touches ..))
    | (with_reducible apply Touches.iff)
    | (with_reducible apply Touches.ite)
    | (intro x; intros; try beta_reduce)

theorem State.monOk_touches (s : State) : Touches 134217987 s s.monOk := by
  unfold State.monOk
  repeat' first
    | exact rfl
    | with_reducible assumption
    | with_reducible exact Touches.refl _ _
    | (with_reducible apply Touches.seq (State.say_touches ..))
    | (with_reducible apply Touches.seq (State.monPrompt_touches ..))

theorem State.monErr_touches (s : State) (c : Nat) (more : String) : Touches 134217987 s (s.monErr c more) := by
  unfold State.monErr
  repeat' first
    | exact rfl
    | with_reducible assumption
    | with_reducible exact Touches.refl _ _
    | (with_reducible apply Touches.seq (State.put_touches ..))
    | (with_reducible apply Touches.seq (State.say_touches ..))
    | (with_reducible apply Touches.seq (State.monPrompt_touches ..))

theorem State.monRefuse_touches (s : State) : Touches 134217987 s s.monRefuse := by
  unfold State.monRefuse
  repeat' first
    | exact rfl
    | with_reducible assumption
    | with_reducible exact Touches.refl _ _
    | (with_reducible apply Touches.seq (State.satInc_touches ..))
    | (with_reducible apply Touches.seq (State.event_touches ..))
    | (with_reducible apply Touches.seq (State.monLog_touches ..))
    | (with_reducible apply Touches.seq (State.monErr_touches ..))

theorem State.monDiscard_touches (s : State) (n : Nat) : Touches 2 s (s.monDiscard n) := by
  unfold State.monDiscard
  repeat' first
    | exact rfl
    | with_reducible assumption
    | with_reducible exact Touches.refl _ _
    | (with_reducible apply Touches.seq (State.satAdd_touches ..))

theorem State.monLine_touches {T : Nat} {r s : State} {c : Bool} {f : State → State} (h : Touches T r s) (hT : T ||| 134218003 = T)
    (hf : ∀ x, Touches T r x → Touches T r (f x)) : Touches T r (s.monLine c f) := by
  unfold State.monLine
  split
  · exact h
  · split
    · exact Touches.seq (U := 134218003) (Touches.mono (State.monDiscard_touches ..) (by decide)) hT
        (Touches.seq (U := 134218003) (Touches.mono (State.drawn_touches ..) (by decide)) hT h)
    · extract_lets s1
      have h1 : Touches T r s1 := Touches.iff (Touches.seq (U := 134218003) (Touches.mono (State.modInc_touches ..) (by decide)) hT h)
        fun x hx => Touches.seq (U := 134218003) (Touches.mono (State.emit_touches ..) (by decide)) hT hx
      split
      · exact Touches.seq (U := 134218003) (Touches.mono (State.monErr_touches ..) (by decide)) hT h1
      · exact hf s1 h1

theorem State.monEnd_touches (s : State) (cause : Nat) : Touches 134217986 s (s.monEnd cause) := by
  unfold State.monEnd
  repeat' first
    | exact rfl
    | with_reducible assumption
    | with_reducible exact Touches.refl _ _
    | (with_reducible apply Touches.seq (State.setMon_touches ..))
    | (with_reducible apply Touches.seq (State.monDrop_touches ..))
    | (with_reducible apply Touches.ite)

theorem State.monCtrl_touches (s : State) (w : Word) : Touches 134217986 s (s.monCtrl w) := by
  unfold State.monCtrl
  repeat' first
    | exact rfl
    | with_reducible assumption
    | with_reducible exact Touches.refl _ _
    | (with_reducible apply Touches.seq (State.monEnd_touches ..))
    | (with_reducible apply Touches.ite)

theorem State.monIdle_touches (s : State) : Touches 134217986 s s.monIdle := by
  unfold State.monIdle
  repeat' first
    | exact rfl
    | with_reducible assumption
    | with_reducible exact Touches.refl _ _
    | (with_reducible apply Touches.seq (State.monEnd_touches ..))
    | (with_reducible apply Touches.ite)

theorem State.monSlotCheck_touches (s : State) : Touches 134217986 s s.monSlotCheck := by
  unfold State.monSlotCheck
  repeat' first
    | exact rfl
    | with_reducible assumption
    | with_reducible exact Touches.refl _ _
    | (with_reducible apply Touches.seq (State.monEnd_touches ..))
    | (with_reducible apply Touches.ite)

theorem State.monChallenge_touches (s : State) : Touches 2 s s.monChallenge := by
  unfold State.monChallenge
  repeat' first
    | exact rfl
    | with_reducible assumption
    | with_reducible exact Touches.refl _ _
    | (with_reducible apply Touches.seq (State.putB_touches ..))

theorem State.login_touches (s : State) : Touches 134234387 s s.login := by
  unfold State.login
  repeat' first
    | exact rfl
    | with_reducible assumption
    | with_reducible exact Touches.refl _ _
    | (extract_lets +onlyGivenNames s1; refine Touches.cut (x := s1) ?_ ?_; (on_goal 1 => subst s1); (on_goal 2 => (intro h1; clear_value s1)))
    | (extract_lets +onlyGivenNames v1; clear_value v1)
    | (with_reducible apply Touches.seq (State.monErr_touches ..))
    | (with_reducible apply Touches.seq (State.loginChallenge_touches ..))
    | (with_reducible apply Touches.seq (State.monChallenge_touches ..))
    | (with_reducible apply Touches.seq (State.say_touches ..))
    | (with_reducible apply Touches.seq (State.monOk_touches ..))
    | (with_reducible apply Touches.ite)

theorem State.loginOk_touches (s : State) : Touches 134217987 s s.loginOk := by
  unfold State.loginOk
  repeat' first
    | exact rfl
    | with_reducible assumption
    | with_reducible exact Touches.refl _ _
    | (extract_lets +onlyGivenNames s1; refine Touches.cut (x := s1) ?_ ?_; (on_goal 1 => subst s1); (on_goal 2 => (intro h1; clear_value s1)))
    | (extract_lets +onlyGivenNames v1; clear_value v1)
    | (with_reducible apply Touches.seq (State.set_touches ..))
    | (with_reducible apply Touches.seq (State.event_touches ..))
    | (with_reducible apply Touches.seq (State.satInc_touches ..))
    | (with_reducible apply Touches.seq (State.monLog_touches ..))
    | (with_reducible apply Touches.seq (State.setMon_touches ..))
    | (with_reducible apply Touches.seq (State.monOk_touches ..))
    | (with_reducible apply Touches.iff)
    | (intro x; intros; try beta_reduce)

theorem State.loginFail_touches (s : State) : Touches 134217987 s s.loginFail := by
  unfold State.loginFail
  repeat' first
    | exact rfl
    | with_reducible assumption
    | with_reducible exact Touches.refl _ _
    | (extract_lets +onlyGivenNames s1; refine Touches.cut (x := s1) ?_ ?_; (on_goal 1 => subst s1); (on_goal 2 => (intro h1; clear_value s1)))
    | (extract_lets +onlyGivenNames v1; clear_value v1)
    | (with_reducible apply Touches.seq (State.event_touches ..))
    | (with_reducible apply Touches.seq (State.satInc_touches ..))
    | (with_reducible apply Touches.seq (State.monLog_touches ..))
    | (with_reducible apply Touches.seq (State.setMon_touches ..))
    | (with_reducible apply Touches.seq (State.set_touches ..))
    | (with_reducible apply Touches.seq (State.monErr_touches ..))
    | (with_reducible apply Touches.iff)
    | (with_reducible apply Touches.ite)
    | (intro x; intros; try beta_reduce)

theorem State.loginTry_touches (s : State) (bytes : List Byte) : Touches 134234371 s (s.loginTry bytes) := by
  unfold State.loginTry
  repeat' first
    | exact rfl
    | with_reducible assumption
    | with_reducible exact Touches.refl _ _
    | (extract_lets +onlyGivenNames s1; refine Touches.cut (x := s1) ?_ ?_; (on_goal 1 => subst s1); (on_goal 2 => (intro h1; clear_value s1)))
    | (extract_lets +onlyGivenNames v1; clear_value v1)
    | (with_reducible apply Touches.seq (State.monErr_touches ..))
    | (with_reducible apply Touches.seq (State.dropChallenge_touches ..))
    | (with_reducible apply Touches.seq (State.monChallenge_touches ..))
    | (with_reducible apply Touches.seq (State.loginOk_touches ..))
    | (with_reducible apply Touches.seq (State.loginFail_touches ..))
    | (with_reducible apply Touches.ite)

theorem State.loginOff_touches (s : State) : Touches 134217987 s s.loginOff := by
  unfold State.loginOff
  repeat' first
    | exact rfl
    | with_reducible assumption
    | with_reducible exact Touches.refl _ _
    | (with_reducible apply Touches.seq (State.monDrop_touches ..))
    | (with_reducible apply Touches.seq (State.monOk_touches ..))

theorem State.lockoutEnd_touches (s : State) : Touches 2 s s.lockoutEnd := by
  unfold State.lockoutEnd
  repeat' first
    | exact rfl
    | with_reducible assumption
    | with_reducible exact Touches.refl _ _
    | (with_reducible apply Touches.seq (State.clr_touches ..))
    | (with_reducible apply Touches.ite)

theorem State.challengeEnd_touches (s : State) : Touches 16386 s s.challengeEnd := by
  unfold State.challengeEnd
  repeat' first
    | exact rfl
    | with_reducible assumption
    | with_reducible exact Touches.refl _ _
    | (with_reducible apply Touches.seq (State.dropChallenge_touches ..))
    | (with_reducible apply Touches.seq (State.monChallenge_touches ..))

theorem State.monAbort_touches (s : State) : Touches 134217987 s s.monAbort := by
  unfold State.monAbort
  repeat' first
    | exact rfl
    | with_reducible assumption
    | with_reducible exact Touches.refl _ _
    | (with_reducible apply Touches.seq (State.setMon_touches ..))
    | (with_reducible apply Touches.seq (State.monErr_touches ..))
    | (with_reducible apply Touches.ite)

theorem State.monDrain_touches (s : State) : Touches 134234371 s s.monDrain := by
  unfold State.monDrain
  repeat' first
    | exact rfl
    | with_reducible assumption
    | with_reducible exact Touches.refl _ _
    | (extract_lets +onlyGivenNames s1; refine Touches.cut (x := s1) ?_ ?_; (on_goal 1 => subst s1); (on_goal 2 => (intro h1; clear_value s1)))
    | (extract_lets +onlyGivenNames v1; clear_value v1)
    | (with_reducible apply Touches.seq (State.monAbort_touches ..))
    | (with_reducible apply Touches.seq (State.say_touches ..))
    | (with_reducible apply Touches.seq (State.monDrop_touches ..))
    | (with_reducible apply Touches.seq (State.challengeEnd_touches ..))
    | (with_reducible apply Touches.ite)

theorem State.monRetention_touches (s : State) : Touches 134234370 s s.monRetention := by
  unfold State.monRetention
  repeat' first
    | exact rfl
    | with_reducible assumption
    | with_reducible exact Touches.refl _ _
    | (with_reducible apply Touches.seq (State.setMon_touches ..))
    | (with_reducible apply Touches.seq (State.monDrop_touches ..))
    | (with_reducible apply Touches.seq (State.challengeEnd_touches ..))

theorem State.monWake_touches (s : State) : Touches 134217987 s s.monWake := by
  unfold State.monWake
  repeat' first
    | exact rfl
    | with_reducible assumption
    | with_reducible exact Touches.refl _ _
    | (with_reducible apply Touches.seq (State.monPrompt_touches ..))
    | (with_reducible apply Touches.iff)
    | (intro x; intros; try beta_reduce)

theorem State.monReload_touches (s : State) : Touches 134234371 s s.monReload := by
  unfold State.monReload
  repeat' first
    | exact rfl
    | with_reducible assumption
    | with_reducible exact Touches.refl _ _
    | (extract_lets +onlyGivenNames s1; refine Touches.cut (x := s1) ?_ ?_; (on_goal 1 => subst s1); (on_goal 2 => (intro h1; clear_value s1)))
    | (extract_lets +onlyGivenNames v1; clear_value v1)
    | (with_reducible apply Touches.seq (State.challengeEnd_touches ..))
    | (with_reducible apply Touches.seq (State.setMon_touches ..))
    | (with_reducible apply Touches.seq (State.monDrop_touches ..))
    | (with_reducible apply Touches.seq (State.say_touches ..))
    | (with_reducible apply Touches.ite)

theorem State.monStrap_touches (s : State) : Touches 2 s s.monStrap := by
  unfold State.monStrap
  repeat' first
    | exact rfl
    | with_reducible assumption
    | with_reducible exact Touches.refl _ _
    | (with_reducible apply Touches.seq (State.set_touches ..))
    | (with_reducible apply Touches.seq (State.put_touches ..))
    | (with_reducible apply Touches.ite)

theorem State.monRelease_touches (s : State) : Touches 2 s s.monRelease := by
  unfold State.monRelease
  repeat' first
    | exact rfl
    | with_reducible assumption
    | with_reducible exact Touches.refl _ _
    | (with_reducible apply Touches.seq (State.set_touches ..))
    | (with_reducible apply Touches.seq (State.put_touches ..))
    | (with_reducible apply Touches.seq (State.clr_touches ..))
    | (with_reducible apply Touches.ite)

end Sys2Proof.Machine
end

