-- ==== Sys2Proof/Laws/TouchBin.lean ====
section
/-! SUPPORT. What each operation of Machine/Bin.lean can change: one lemma per operation, its set of parts as in Laws/Parts.lean. -/
namespace Sys2Proof.Machine

theorem State.apReset_touches (s : State) : Touches 33554434 s s.apReset := by
  unfold State.apReset
  repeat' first
    | exact rfl
    | with_reducible assumption
    | with_reducible exact Touches.refl _ _
    | (extract_lets +onlyGivenNames v1)
    | (extract_lets +onlyGivenNames s1; refine Touches.cut (x := s1) ?_ ?_; (on_goal 1 => subst s1); (on_goal 2 => (intro h1; clear_value s1)))
    | (extract_lets +onlyGivenNames v1; clear_value v1)
    | (with_reducible apply Touches.seq (State.putWord_touches ..))
    | (with_reducible apply Touches.seq (State.clr_touches ..))
    | ((with_reducible apply Touches.upd_bin); (on_goal 2 => first | exact id | exact fun _ => rfl))
    | (with_reducible apply Touches.each)
    | (intro x; intros; try beta_reduce)

theorem State.apWritten_touches (s : State) (a : Nat) (old : Word) : Touches 33554434 s (s.apWritten a old) := by
  unfold State.apWritten
  repeat' first
    | exact rfl
    | with_reducible assumption
    | with_reducible exact Touches.refl _ _
    | (extract_lets +onlyGivenNames v1)
    | (extract_lets +onlyGivenNames s1; refine Touches.cut (x := s1) ?_ ?_; (on_goal 1 => subst s1); (on_goal 2 => (intro h1; clear_value s1)))
    | (extract_lets +onlyGivenNames v1; clear_value v1)
    | (with_reducible apply Touches.seq (State.set_touches ..))
    | ((with_reducible apply Touches.upd_bin); (on_goal 2 => first | exact id | exact fun _ => rfl))
    | (with_reducible apply Touches.ite)
    | (intro x; intros; try beta_reduce)
    | split

theorem State.apFilled_touches (s : State) (a : Nat) : Touches 33554434 s (s.apFilled a) := by
  unfold State.apFilled
  repeat' first
    | exact rfl
    | with_reducible assumption
    | with_reducible exact Touches.refl _ _
    | (extract_lets +onlyGivenNames v1)
    | (extract_lets +onlyGivenNames s1; refine Touches.cut (x := s1) ?_ ?_; (on_goal 1 => subst s1); (on_goal 2 => (intro h1; clear_value s1)))
    | (extract_lets +onlyGivenNames v1; clear_value v1)
    | (with_reducible apply Touches.seq (State.putB_touches ..))
    | ((with_reducible apply Touches.upd_bin); (on_goal 2 => first | exact id | exact fun _ => rfl))

theorem State.apAllFilled_touches (s : State) : Touches 33554434 s s.apAllFilled := by
  unfold State.apAllFilled
  repeat' first
    | exact rfl
    | with_reducible assumption
    | with_reducible exact Touches.refl _ _
    | (with_reducible apply Touches.seq (State.clr_touches ..))
    | ((with_reducible apply Touches.upd_bin); (on_goal 2 => first | exact id | exact fun _ => rfl))

theorem State.bnLatchEnd_touches (s : State) : Touches 33554432 s s.bnLatchEnd := by
  unfold State.bnLatchEnd
  repeat' first
    | exact rfl
    | with_reducible assumption
    | with_reducible exact Touches.refl _ _
    | ((with_reducible apply Touches.upd_bin); (on_goal 2 => first | exact id | exact fun _ => rfl))

theorem State.bnParityFail_touches (s : State) (a : BitVec 16) (lanes : BitVec 4) : Touches 258 s (s.bnParityFail a lanes) := by
  unfold State.bnParityFail
  repeat' first
    | exact rfl
    | with_reducible assumption
    | with_reducible exact Touches.refl _ _
    | (extract_lets +onlyGivenNames s1; refine Touches.cut (x := s1) ?_ ?_; (on_goal 1 => subst s1); (on_goal 2 => (intro h1; clear_value s1)))
    | (extract_lets +onlyGivenNames v1; clear_value v1)
    | (with_reducible apply Touches.seq (State.set_touches ..))
    | (with_reducible apply Touches.seq (State.satInc_touches ..))
    | (with_reducible apply Touches.seq (State.put_touches ..))
    | (with_reducible apply Touches.seq (State.report_touches ..))
    | (with_reducible apply Touches.iff)
    | (intro x; intros; try beta_reduce)

theorem State.bnChecked_touches {T : Nat} {r s : State} {a : BitVec 16} {d : Word} {be par : BitVec 4} {f : State → State} (h : Touches T r s) (hT : T ||| 258 = T)
    (hf : ∀ x, Touches T r x → Touches T r (f x)) : Touches T r (s.bnChecked a d be par f) := by
  unfold State.bnChecked
  split
  · exact Touches.seq (State.bnParityFail_touches ..) hT h
  · exact hf s h

theorem State.putBinQueue_touches (s : State) (q : List BinEntry) : Touches 33554434 s (s.putBinQueue q) := by
  unfold State.putBinQueue
  repeat' first
    | exact rfl
    | with_reducible assumption
    | with_reducible exact Touches.refl _ _
    | (with_reducible apply Touches.seq (State.put_touches ..))
    | ((with_reducible apply Touches.upd_bin); (on_goal 2 => first | exact id | exact fun _ => rfl))

theorem State.binEnqueue_touches (s : State) (e : BinEntry) : Touches 33554434 s (s.binEnqueue e) := by
  unfold State.binEnqueue
  repeat' first
    | exact rfl
    | with_reducible assumption
    | with_reducible exact Touches.refl _ _
    | (with_reducible apply Touches.seq (State.putBinQueue_touches ..))
    | (with_reducible apply Touches.seq (State.set_touches ..))
    | (with_reducible apply Touches.seq (State.satInc_touches ..))
    | (with_reducible apply Touches.ite)

theorem State.binError_touches (s : State) (code : Nat) (addr : Option Word) : Touches 2 s (s.binError code addr) := by
  unfold State.binError
  repeat' first
    | exact rfl
    | with_reducible assumption
    | with_reducible exact Touches.refl _ _
    | (extract_lets +onlyGivenNames s1; refine Touches.cut (x := s1) ?_ ?_; (on_goal 1 => subst s1); (on_goal 2 => (intro h1; clear_value s1)))
    | (extract_lets +onlyGivenNames v1; clear_value v1)
    | (with_reducible apply Touches.seq (State.put_touches ..))
    | (with_reducible apply Touches.seq (State.putWord_touches ..))
    | (with_reducible apply Touches.seq (State.set_touches ..))
    | (with_reducible apply Touches.iff)
    | (intro x; intros; try beta_reduce)
    | split

theorem State.apWrite_touches (s : State) (a : BitVec 16) (d : Word) (be : BitVec 4) : Touches 33554434 s (s.apWrite a d be) := by
  unfold State.apWrite
  repeat' first
    | exact rfl
    | with_reducible assumption
    | with_reducible exact Touches.refl _ _
    | (extract_lets +onlyGivenNames v1; clear_value v1)
    | (with_reducible apply Touches.seq (State.binError_touches ..))
    | (with_reducible apply Touches.seq (State.satInc_touches ..))
    | (with_reducible apply Touches.seq (State.binEnqueue_touches ..))
    | (with_reducible apply Touches.ite)

theorem State.indCommand_touches (s : State) (w : Word) : Touches 33554434 s (s.indCommand w) := by
  unfold State.indCommand
  repeat' first
    | exact rfl
    | with_reducible assumption
    | with_reducible exact Touches.refl _ _
    | (extract_lets +onlyGivenNames v1; clear_value v1)
    | (with_reducible apply Touches.seq (State.set_touches ..))
    | (with_reducible apply Touches.seq (State.binEnqueue_touches ..))
    | (with_reducible apply Touches.iff)
    | (with_reducible apply Touches.ite)
    | (intro x; intros; try beta_reduce)

theorem State.indDone_touches (s : State) (code : Nat) (data : Option Word) : Touches 2 s (s.indDone code data) := by
  unfold State.indDone
  repeat' first
    | exact rfl
    | with_reducible assumption
    | with_reducible exact Touches.refl _ _
    | (extract_lets +onlyGivenNames s1; refine Touches.cut (x := s1) ?_ ?_; (on_goal 1 => subst s1); (on_goal 2 => (intro h1; clear_value s1)))
    | (extract_lets +onlyGivenNames v1; clear_value v1)
    | (with_reducible apply Touches.seq (State.clr_touches ..))
    | (with_reducible apply Touches.seq (State.set_touches ..))
    | (with_reducible apply Touches.seq (State.put_touches ..))
    | (with_reducible apply Touches.seq (State.putWord_touches ..))
    | split

theorem State.mirrorPut_touches (s : State) (word : Nat) (d : Word) (be : BitVec 4) : Touches 33554432 s (s.mirrorPut word d be) := by
  unfold State.mirrorPut
  repeat' first
    | exact rfl
    | with_reducible assumption
    | with_reducible exact Touches.refl _ _
    | ((with_reducible apply Touches.upd_bin); (on_goal 2 => exact fun h => cellWrite_wf _ _ _ h))
    | (with_reducible apply Touches.iff)
    | (intro x; intros; try beta_reduce)

theorem State.mirrorHost_touches (s : State) (word : Nat) (d : Word) (be : BitVec 4) (room : Bool) : Touches 536870914 s (s.mirrorHost word d be room) := by
  unfold State.mirrorHost
  repeat' first
    | exact rfl
    | with_reducible assumption
    | with_reducible exact Touches.refl _ _
    | (extract_lets +onlyGivenNames v1; clear_value v1)
    | (with_reducible apply Touches.seq (State.streamPush_touches ..))
    | (with_reducible apply Touches.seq (State.satInc_touches ..))
    | (with_reducible apply Touches.ite)

theorem State.mdb_touches (s : State) : Touches 2 s s.mdb := by
  unfold State.mdb
  repeat' first
    | exact rfl
    | with_reducible assumption
    | with_reducible exact Touches.refl _ _
    | (with_reducible apply Touches.seq (State.set_touches ..))
    | (with_reducible apply Touches.iff)
    | (intro x; intros; try beta_reduce)

theorem State.mirrorClear_touches (s : State) : Touches 33554434 s s.mirrorClear := by
  unfold State.mirrorClear
  repeat' first
    | exact rfl
    | with_reducible assumption
    | with_reducible exact Touches.refl _ _
    | ((with_reducible apply Touches.upd_bin); (on_goal 2 => exact fun h => rfl))
    | (with_reducible apply Touches.seq (State.clr_touches ..))

theorem State.shadowCheck_touches (s : State) (aperture off : Nat) (double : Bool) : Touches 258 s (s.shadowCheck aperture off double) := by
  unfold State.shadowCheck
  repeat' first
    | exact rfl
    | with_reducible assumption
    | with_reducible exact Touches.refl _ _
    | (with_reducible apply Touches.seq (State.set_touches ..))
    | (with_reducible apply Touches.seq (State.report_touches ..))
    | (with_reducible apply Touches.ite)

end Sys2Proof.Machine
end

