-- ==== Sys2Proof/Laws/TouchMap.lean ====
section
/-! SUPPORT. What each operation of Machine/Map.lean can change: one lemma per operation, its set of parts as in Laws/Parts.lean. -/
namespace Sys2Proof.Machine

theorem State.applySetting_touches (s : State) (guarded : Bool) (x : Nat × Word) : Touches 262146 s (s.applySetting guarded x) := by
  unfold State.applySetting
  repeat' first
    | exact rfl
    | with_reducible assumption
    | with_reducible exact Touches.refl _ _
    | (extract_lets +onlyGivenNames v1; clear_value v1)
    | (with_reducible apply Touches.seq (State.putWord_touches ..))
    | (with_reducible apply Touches.upd_ddc)
    | (with_reducible apply Touches.ite)
    | split

theorem State.applySettings_touches (s : State) (guarded : Bool) (xs : List (Nat × Word)) : Touches 262146 s (s.applySettings guarded xs) := by
  unfold State.applySettings
  repeat' first
    | exact rfl
    | with_reducible assumption
    | with_reducible exact Touches.refl _ _
    | (extract_lets +onlyGivenNames s1; refine Touches.cut (x := s1) ?_ ?_; (on_goal 1 => subst s1); (on_goal 2 => (intro h1; clear_value s1)))
    | (extract_lets +onlyGivenNames v1; clear_value v1)
    | (with_reducible apply Touches.seq (State.applySetting_touches ..))
    | (with_reducible apply Touches.seq (State.set_touches ..))
    | (with_reducible apply Touches.each)
    | (with_reducible apply Touches.iff)
    | (intro x; intros; try beta_reduce)

end Sys2Proof.Machine
end

