-- ==== Sys2Proof/Laws/TouchSpt.lean ====
section
/-! SUPPORT. What each operation of Machine/Spt.lean can change: one lemma per operation, its set of parts as in Laws/Parts.lean. -/
namespace Sys2Proof.Machine

theorem State.putSp_touches (s : State) (n : Nat) (v : SptPort) : Touches 8388608 s (s.putSp n v) := by
  unfold State.putSp
  repeat' first
    | exact rfl
    | with_reducible assumption
    | with_reducible exact Touches.refl _ _
    | (with_reducible apply Touches.upd_spt)

theorem State.sptZero_touches (s : State) (n : Nat) : Touches 8388608 s (s.sptZero n) := by
  unfold State.sptZero
  repeat' first
    | exact rfl
    | with_reducible assumption
    | with_reducible exact Touches.refl _ _
    | (with_reducible apply Touches.seq (State.putSp_touches ..))

theorem State.sptIdleSd_touches (s : State) (n : Nat) : Touches 8388608 s (s.sptIdleSd n) := by
  unfold State.sptIdleSd
  repeat' first
    | exact rfl
    | with_reducible assumption
    | with_reducible exact Touches.refl _ _
    | (with_reducible apply Touches.seq (State.sptZero_touches ..))
    | (with_reducible apply Touches.seq (State.putSp_touches ..))
    | (with_reducible apply Touches.ite)

theorem State.sptSettle_touches (s : State) (n : Nat) : Touches 8388610 s (s.sptSettle n) := by
  unfold State.sptSettle
  repeat' first
    | exact rfl
    | with_reducible assumption
    | with_reducible exact Touches.refl _ _
    | (with_reducible apply Touches.seq (State.putSp_touches ..))
    | (with_reducible apply Touches.seq (State.put_touches ..))
    | (with_reducible apply Touches.seq (State.sptZero_touches ..))

theorem State.sptCancelled_touches (s : State) (n : Nat) : Touches 3 s (s.sptCancelled n) := by
  unfold State.sptCancelled
  repeat' first
    | exact rfl
    | with_reducible assumption
    | with_reducible exact Touches.refl _ _
    | (with_reducible apply Touches.seq (State.set_touches ..))
    | (with_reducible apply Touches.seq (State.emit_touches ..))

theorem State.sptIdle_touches (s : State) (n : Nat) : Touches 8388610 s (s.sptIdle n) := by
  unfold State.sptIdle
  repeat' first
    | exact rfl
    | with_reducible assumption
    | with_reducible exact Touches.refl _ _
    | (extract_lets +onlyGivenNames s1; refine Touches.cut (x := s1) ?_ ?_; (on_goal 1 => subst s1); (on_goal 2 => (intro h1; clear_value s1)))
    | (extract_lets +onlyGivenNames v1; clear_value v1)
    | (with_reducible apply Touches.seq (State.put_touches ..))
    | (with_reducible apply Touches.seq (State.event_touches ..))
    | (with_reducible apply Touches.seq (State.sptIdleSd_touches ..))
    | (with_reducible apply Touches.seq (State.putSp_touches ..))
    | (with_reducible apply Touches.seq (State.sptSettle_touches ..))
    | (with_reducible apply Touches.iff)
    | (intro x; intros; try beta_reduce)

theorem State.sptStart_touches (s : State) (n : Nat) : Touches 8388611 s (s.sptStart n) := by
  unfold State.sptStart
  repeat' first
    | exact rfl
    | with_reducible assumption
    | with_reducible exact Touches.refl _ _
    | (with_reducible apply Touches.seq (State.sptCancelled_touches ..))
    | (with_reducible apply Touches.seq (State.sptSettle_touches ..))
    | (with_reducible apply Touches.seq (State.putSp_touches ..))
    | (with_reducible apply Touches.iff)
    | (with_reducible apply Touches.ite)
    | (intro x; intros; try beta_reduce)
    | split

theorem State.sptStop_touches (s : State) (n : Nat) : Touches 8388611 s (s.sptStop n) := by
  unfold State.sptStop
  repeat' first
    | exact rfl
    | with_reducible assumption
    | with_reducible exact Touches.refl _ _
    | (with_reducible apply Touches.seq (State.sptCancelled_touches ..))
    | (with_reducible apply Touches.seq (State.sptIdle_touches ..))
    | (with_reducible apply Touches.seq (State.putSp_touches ..))
    | split

theorem State.sptCancel_touches (s : State) (n : Nat) : Touches 8388611 s (s.sptCancel n) := by
  unfold State.sptCancel
  repeat' first
    | exact rfl
    | with_reducible assumption
    | with_reducible exact Touches.refl _ _
    | (with_reducible apply Touches.seq (State.sptCancelled_touches ..))
    | (with_reducible apply Touches.seq (State.sptIdle_touches ..))
    | (with_reducible apply Touches.seq (State.putSp_touches ..))
    | (with_reducible apply Touches.iff)
    | (intro x; intros; try beta_reduce)
    | split

theorem State.sptCmd_touches (s : State) (n : Nat) (start cancel stop : Bool) : Touches 8388611 s (s.sptCmd n start cancel stop) := by
  unfold State.sptCmd
  repeat' first
    | exact rfl
    | with_reducible assumption
    | with_reducible exact Touches.refl _ _
    | (extract_lets +onlyGivenNames s1; refine Touches.cut (x := s1) ?_ ?_; (on_goal 1 => subst s1); (on_goal 2 => (intro h1; clear_value s1)))
    | (extract_lets +onlyGivenNames v1; clear_value v1)
    | (with_reducible apply Touches.seq (State.sptCancelled_touches ..))
    | (with_reducible apply Touches.seq (State.sptStart_touches ..))
    | (with_reducible apply Touches.seq (State.sptCancel_touches ..))
    | (with_reducible apply Touches.seq (State.sptStop_touches ..))
    | (with_reducible apply Touches.iff)
    | (with_reducible apply Touches.ite)
    | (intro x; intros; try beta_reduce)

theorem State.sptRunning_touches (s : State) (n : Nat) : Touches 8388611 s (s.sptRunning n) := by
  unfold State.sptRunning
  repeat' first
    | exact rfl
    | with_reducible assumption
    | with_reducible exact Touches.refl _ _
    | (extract_lets +onlyGivenNames s1; refine Touches.cut (x := s1) ?_ ?_; (on_goal 1 => subst s1); (on_goal 2 => (intro h1; clear_value s1)))
    | (extract_lets +onlyGivenNames v1; clear_value v1)
    | (with_reducible apply Touches.seq (State.putSp_touches ..))
    | (with_reducible apply Touches.seq (State.put_touches ..))
    | (with_reducible apply Touches.seq (State.event_touches ..))
    | (with_reducible apply Touches.seq (State.emit_touches ..))

theorem State.sptMeasure_touches (s : State) (n half rateHz : Nat) : Touches 2 s (s.sptMeasure n half rateHz) := by
  unfold State.sptMeasure
  repeat' first
    | exact rfl
    | with_reducible assumption
    | with_reducible exact Touches.refl _ _
    | (with_reducible apply Touches.seq (State.put_touches ..))
    | (with_reducible apply Touches.seq (State.set_touches ..))

theorem State.sptSettling_touches (s : State) (n half0 half1 : Nat) : Touches 8388611 s (s.sptSettling n half0 half1) := by
  unfold State.sptSettling
  repeat' first
    | exact rfl
    | with_reducible assumption
    | with_reducible exact Touches.refl _ _
    | (extract_lets +onlyGivenNames s1; refine Touches.cut (x := s1) ?_ ?_; (on_goal 1 => subst s1); (on_goal 2 => (intro h1; clear_value s1)))
    | (extract_lets +onlyGivenNames v1; clear_value v1)
    | (with_reducible apply Touches.seq (State.putSp_touches ..))
    | (with_reducible apply Touches.seq (State.sptRunning_touches ..))
    | (with_reducible apply Touches.iff)
    | (with_reducible apply Touches.ite)
    | (intro x; intros; try beta_reduce)

theorem State.sptRun_touches (s : State) (n half rateHz : Nat) : Touches 8388611 s (s.sptRun n half rateHz) := by
  unfold State.sptRun
  repeat' first
    | exact rfl
    | with_reducible assumption
    | with_reducible exact Touches.refl _ _
    | (with_reducible apply Touches.seq (State.sptMeasure_touches ..))
    | (with_reducible apply Touches.seq (State.sptSettling_touches ..))
    | (with_reducible apply Touches.ite)

theorem State.sptDrop_touches (s : State) (n k : Nat) : Touches 2 s (s.sptDrop n k) := by
  unfold State.sptDrop
  repeat' first
    | exact rfl
    | with_reducible assumption
    | with_reducible exact Touches.refl _ _
    | (with_reducible apply Touches.seq (State.satAdd_touches ..))
    | (with_reducible apply Touches.seq (State.set_touches ..))
    | (with_reducible apply Touches.seq (State.event_touches ..))
    | (with_reducible apply Touches.iff)
    | (intro x; intros; try beta_reduce)

theorem State.sptLoss_touches (s : State) (n : Nat) (framing : Bool) : Touches 8388610 s (s.sptLoss n framing) := by
  unfold State.sptLoss
  repeat' first
    | exact rfl
    | with_reducible assumption
    | with_reducible exact Touches.refl _ _
    | (extract_lets +onlyGivenNames s1; refine Touches.cut (x := s1) ?_ ?_; (on_goal 1 => subst s1); (on_goal 2 => (intro h1; clear_value s1)))
    | (extract_lets +onlyGivenNames v1; clear_value v1)
    | (with_reducible apply Touches.seq (State.satInc_touches ..))
    | (with_reducible apply Touches.seq (State.set_touches ..))
    | (with_reducible apply Touches.seq (State.event_touches ..))
    | (with_reducible apply Touches.seq (State.sptDrop_touches ..))
    | (with_reducible apply Touches.seq (State.putSp_touches ..))
    | (with_reducible apply Touches.seq (State.sptIdle_touches ..))
    | (with_reducible apply Touches.seq (State.sptSettle_touches ..))
    | (with_reducible apply Touches.iff)
    | (with_reducible apply Touches.ite)
    | (intro x; intros; try beta_reduce)

theorem State.sptBoundary_touches (s : State) (n : Nat) : Touches 8388610 s (s.sptBoundary n) := by
  unfold State.sptBoundary
  repeat' first
    | exact rfl
    | with_reducible assumption
    | with_reducible exact Touches.refl _ _
    | (with_reducible apply Touches.seq (State.sptIdle_touches ..))
    | (with_reducible apply Touches.seq (State.putSp_touches ..))
    | (with_reducible apply Touches.seq (State.put_touches ..))
    | (with_reducible apply Touches.seq (State.sptZero_touches ..))
    | (with_reducible apply Touches.iff)
    | (with_reducible apply Touches.ite)
    | (intro x; intros; try beta_reduce)

theorem State.sptReleasing_touches (s : State) (n half : Nat) : Touches 8388611 s (s.sptReleasing n half) := by
  unfold State.sptReleasing
  repeat' first
    | exact rfl
    | with_reducible assumption
    | with_reducible exact Touches.refl _ _
    | (extract_lets +onlyGivenNames s1; refine Touches.cut (x := s1) ?_ ?_; (on_goal 1 => subst s1); (on_goal 2 => (intro h1; clear_value s1)))
    | (extract_lets +onlyGivenNames v1; clear_value v1)
    | (with_reducible apply Touches.seq (State.emit_touches ..))
    | (with_reducible apply Touches.seq (State.putSp_touches ..))
    | (with_reducible apply Touches.seq (State.sptIdle_touches ..))
    | (with_reducible apply Touches.iff)
    | (intro x; intros; try beta_reduce)

theorem State.sptIn_touches (s : State) (n rateHz : Nat) (bits : List Bool) (room : Bool) : Touches 545259538 s (s.sptIn n rateHz bits room) := by
  unfold State.sptIn
  repeat' first
    | exact rfl
    | with_reducible assumption
    | with_reducible exact Touches.refl _ _
    | (extract_lets +onlyGivenNames s1; refine Touches.cut (x := s1) ?_ ?_; (on_goal 1 => subst s1); (on_goal 2 => (intro h1; clear_value s1)))
    | (extract_lets +onlyGivenNames v1; clear_value v1)
    | (with_reducible apply Touches.seq (State.modInc_touches ..))
    | (with_reducible apply Touches.seq (State.sptDrop_touches ..))
    | (with_reducible apply Touches.seq (State.drawn_touches ..))
    | (with_reducible apply Touches.seq (State.putSp_touches ..))
    | (with_reducible apply Touches.seq (State.streamPush_touches ..))
    | (with_reducible apply Touches.ite)

theorem State.sptSend_touches (s : State) (n : Nat) : Touches 8388611 s (s.sptSend n) := by
  unfold State.sptSend
  repeat' first
    | exact rfl
    | with_reducible assumption
    | with_reducible exact Touches.refl _ _
    | (extract_lets +onlyGivenNames s1; refine Touches.cut (x := s1) ?_ ?_; (on_goal 1 => subst s1); (on_goal 2 => (intro h1; clear_value s1)))
    | (extract_lets +onlyGivenNames v1; clear_value v1)
    | (with_reducible apply Touches.seq (State.modInc_touches ..))
    | (with_reducible apply Touches.seq (State.putSp_touches ..))
    | (with_reducible apply Touches.seq (State.emit_touches ..))
    | (with_reducible apply Touches.seq (State.satInc_touches ..))
    | (with_reducible apply Touches.seq (State.set_touches ..))
    | (with_reducible apply Touches.seq (State.event_touches ..))
    | split

theorem State.sptFrame_touches (s : State) (n half0 half1 rateHz : Nat) (rise fall : List Bool) (room : Bool) (beats : List (Word × Word)) : Touches 545259539 s (s.sptFrame n half0 half1 rateHz rise fall room beats) := by
  unfold State.sptFrame
  repeat' first
    | exact rfl
    | with_reducible assumption
    | with_reducible exact Touches.refl _ _
    | (extract_lets +onlyGivenNames s1; refine Touches.cut (x := s1) ?_ ?_; (on_goal 1 => subst s1); (on_goal 2 => (intro h1; clear_value s1)))
    | (extract_lets +onlyGivenNames v1; clear_value v1)
    | (with_reducible apply Touches.seq (State.putSp_touches ..))
    | (with_reducible apply Touches.seq (State.streamTake_touches ..))
    | (with_reducible apply Touches.seq (State.sptMeasure_touches ..))
    | (with_reducible apply Touches.seq (State.sptSettling_touches ..))
    | (with_reducible apply Touches.seq (State.sptLoss_touches ..))
    | (with_reducible apply Touches.seq (State.sptSend_touches ..))
    | (with_reducible apply Touches.seq (State.sptBoundary_touches ..))
    | (with_reducible apply Touches.seq (State.sptIn_touches ..))
    | (with_reducible apply Touches.seq (State.sptReleasing_touches ..))
    | (with_reducible apply Touches.ite)
    | split

theorem State.sptClockLoss_touches (s : State) (n : Nat) (bck : Bool) : Touches 8388610 s (s.sptClockLoss n bck) := by
  unfold State.sptClockLoss
  repeat' first
    | exact rfl
    | with_reducible assumption
    | with_reducible exact Touches.refl _ _
    | (extract_lets +onlyGivenNames s1; refine Touches.cut (x := s1) ?_ ?_; (on_goal 1 => subst s1); (on_goal 2 => (intro h1; clear_value s1)))
    | (extract_lets +onlyGivenNames v1; clear_value v1)
    | (with_reducible apply Touches.seq (State.clr_touches ..))
    | (with_reducible apply Touches.seq (State.putSp_touches ..))
    | (with_reducible apply Touches.seq (State.sptLoss_touches ..))
    | (with_reducible apply Touches.seq (State.sptIdle_touches ..))
    | (with_reducible apply Touches.iff)
    | (intro x; intros; try beta_reduce)
    | split

theorem State.sptReleaseEnd_touches (s : State) (n : Nat) : Touches 8388611 s (s.sptReleaseEnd n) := by
  unfold State.sptReleaseEnd
  repeat' first
    | exact rfl
    | with_reducible assumption
    | with_reducible exact Touches.refl _ _
    | (with_reducible apply Touches.seq (State.sptReleasing_touches ..))
    | (with_reducible apply Touches.iff)
    | (intro x; intros; try beta_reduce)

theorem State.sptRelease_touches (s : State) : Touches 8388610 s s.sptRelease := by
  unfold State.sptRelease
  repeat' first
    | exact rfl
    | with_reducible assumption
    | with_reducible exact Touches.refl _ _
    | (with_reducible apply Touches.seq (State.sptSettle_touches ..))
    | (with_reducible apply Touches.each)
    | (with_reducible apply Touches.iff)
    | (intro x; intros; try beta_reduce)

theorem State.sptBegin_touches (s : State) : Touches 8388608 s s.sptBegin := by
  unfold State.sptBegin
  repeat' first
    | exact rfl
    | with_reducible assumption
    | with_reducible exact Touches.refl _ _
    | (with_reducible apply Touches.seq (State.putSp_touches ..))
    | (with_reducible apply Touches.seq (State.sptIdleSd_touches ..))
    | (with_reducible apply Touches.each)
    | (intro x; intros; try beta_reduce)

theorem State.sptUnload_touches (s : State) : Touches 8388610 s s.sptUnload := by
  unfold State.sptUnload
  repeat' first
    | exact rfl
    | with_reducible assumption
    | with_reducible exact Touches.refl _ _
    | (with_reducible apply Touches.seq (State.put_touches ..))
    | (with_reducible apply Touches.seq (State.putSp_touches ..))
    | (with_reducible apply Touches.each)
    | (intro x; intros; try beta_reduce)

theorem State.sptDrain_touches (s : State) : Touches 8388611 s s.sptDrain := by
  unfold State.sptDrain
  repeat' first
    | exact rfl
    | with_reducible assumption
    | with_reducible exact Touches.refl _ _
    | (extract_lets +onlyGivenNames s1; refine Touches.cut (x := s1) ?_ ?_; (on_goal 1 => subst s1); (on_goal 2 => (intro h1; clear_value s1)))
    | (extract_lets +onlyGivenNames v1; clear_value v1)
    | (with_reducible apply Touches.seq (State.sptCancelled_touches ..))
    | (with_reducible apply Touches.seq (State.putSp_touches ..))
    | (with_reducible apply Touches.seq (State.sptIdle_touches ..))
    | (with_reducible apply Touches.each)
    | (with_reducible apply Touches.iff)
    | (intro x; intros; try beta_reduce)

end Sys2Proof.Machine
end

