-- ==== Sys2Proof/Laws/TouchLoad.lean ====
section
/-! SUPPORT. What each operation of Machine/Load.lean can change: one lemma per operation, its set of parts as in Laws/Parts.lean. -/
namespace Sys2Proof.Machine

theorem imageCleared_wf (m : Cells 32) : cellWf (imageCleared m) = true := by
  unfold imageCleared
  exact foldl_wf _ (fun _ _ h => cellWrite_wf _ _ _ h) _ _ (foldl_wf _ (fun _ _ h => cellWrite_wf _ _ _ h) _ _ rfl)

theorem maskOf_wf (xs : List Byte) : cellWf (maskOf xs) = true := by
  unfold maskOf
  exact foldl_wf _ (fun _ _ h => cellWrite_wf _ _ _ h) _ _ rfl

theorem State.setLoad_touches (s : State) (f : LoadState → LoadState) : Touches 1024 s (s.setLoad f) := Touches.upd_load rfl (Touches.refl _ _) _

theorem State.enter_touches (s : State) (d : DevState) : Touches 34 s (s.enter d) := by
  unfold State.enter
  repeat' first
    | exact rfl
    | with_reducible assumption
    | with_reducible exact Touches.refl _ _
    | (extract_lets +onlyGivenNames s1; refine Touches.cut (x := s1) ?_ ?_; (on_goal 1 => subst s1); (on_goal 2 => (intro h1; clear_value s1)))
    | (extract_lets +onlyGivenNames v1; clear_value v1)
    | (with_reducible apply Touches.seq (State.put_touches ..))
    | (with_reducible apply Touches.upd_dev)
    | split

theorem State.roleClear_touches (s : State) : Touches 65538 s s.roleClear := by
  unfold State.roleClear
  repeat' first
    | exact rfl
    | with_reducible assumption
    | with_reducible exact Touches.refl _ _
    | (extract_lets +onlyGivenNames s1; refine Touches.cut (x := s1) ?_ ?_; (on_goal 1 => subst s1); (on_goal 2 => (intro h1; clear_value s1)))
    | (extract_lets +onlyGivenNames v1; clear_value v1)
    | (with_reducible apply Touches.seq (State.clr_touches ..))
    | (with_reducible apply Touches.upd_brg)

theorem State.imageClear_touches (s : State) : Touches 345094 s s.imageClear := by
  unfold State.imageClear
  repeat' first
    | exact rfl
    | with_reducible assumption
    | with_reducible exact Touches.refl _ _
    | exact fun _ => imageCleared_wf _
    | exact fun _ => rfl
    | (extract_lets +onlyGivenNames s1; refine Touches.cut (x := s1) ?_ ?_; (on_goal 1 => subst s1); (on_goal 2 => (intro h1; clear_value s1)))
    | (extract_lets +onlyGivenNames v1; clear_value v1)
    | (with_reducible apply Touches.seq (State.roleClear_touches ..))
    | (with_reducible apply Touches.seq (State.setLoad_touches ..))
    | (with_reducible apply Touches.upd_regs)
    | (with_reducible apply Touches.upd_mask)
    | (with_reducible apply Touches.upd_cph)
    | (with_reducible apply Touches.upd_ddc)

theorem State.loadError_touches (s : State) (golden : Bool) (code detail : Nat) : Touches 258 s (s.loadError golden code detail) := by
  unfold State.loadError
  repeat' first
    | exact rfl
    | with_reducible assumption
    | with_reducible exact Touches.refl _ _
    | (extract_lets +onlyGivenNames s1; refine Touches.cut (x := s1) ?_ ?_; (on_goal 1 => subst s1); (on_goal 2 => (intro h1; clear_value s1)))
    | (extract_lets +onlyGivenNames v1; clear_value v1)
    | (with_reducible apply Touches.seq (State.put_touches ..))
    | (with_reducible apply Touches.seq (State.set_touches ..))
    | (with_reducible apply Touches.seq (State.blockLog_touches ..))
    | (with_reducible apply Touches.ite)

theorem State.loadHalt_touches (s : State) : Touches 1058 s s.loadHalt := by
  unfold State.loadHalt
  repeat' first
    | exact rfl
    | with_reducible assumption
    | with_reducible exact Touches.refl _ _
    | (with_reducible apply Touches.seq (State.enter_touches ..))
    | (with_reducible apply Touches.seq (State.put_touches ..))
    | (with_reducible apply Touches.seq (State.setLoad_touches ..))

theorem State.loadErrorBoth_touches (s : State) (code detail : Nat) : Touches 1314 s (s.loadErrorBoth code detail) := by
  unfold State.loadErrorBoth
  repeat' first
    | exact rfl
    | with_reducible assumption
    | with_reducible exact Touches.refl _ _
    | (with_reducible apply Touches.seq (State.loadError_touches ..))
    | (with_reducible apply Touches.seq (State.loadHalt_touches ..))

theorem State.imageBegin_touches (s : State) (golden : Bool) : Touches 1026 s (s.imageBegin golden) := by
  unfold State.imageBegin
  repeat' first
    | exact rfl
    | with_reducible assumption
    | with_reducible exact Touches.refl _ _
    | (extract_lets +onlyGivenNames s1; refine Touches.cut (x := s1) ?_ ?_; (on_goal 1 => subst s1); (on_goal 2 => (intro h1; clear_value s1)))
    | (extract_lets +onlyGivenNames v1; clear_value v1)
    | (with_reducible apply Touches.seq (State.putB_touches ..))
    | (with_reducible apply Touches.seq (State.putWord_touches ..))
    | (with_reducible apply Touches.seq (State.setLoad_touches ..))

theorem State.loadFail_touches (s : State) (code detail : Nat) : Touches 74433847 s (s.loadFail code detail) := by
  unfold State.loadFail
  repeat' first
    | exact rfl
    | with_reducible assumption
    | with_reducible exact Touches.refl _ _
    | (extract_lets +onlyGivenNames s1; refine Touches.cut (x := s1) ?_ ?_; (on_goal 1 => subst s1); (on_goal 2 => (intro h1; clear_value s1)))
    | (extract_lets +onlyGivenNames v1; clear_value v1)
    | (with_reducible apply Touches.seq (State.loadError_touches ..))
    | (with_reducible apply Touches.seq (State.imageClear_touches ..))
    | (with_reducible apply Touches.seq (State.pllLoadBegin_touches ..))
    | (with_reducible apply Touches.seq (State.loadHalt_touches ..))
    | (with_reducible apply Touches.seq (State.imageBegin_touches ..))
    | (with_reducible apply Touches.seq (State.put_touches ..))
    | (with_reducible apply Touches.iff)
    | (with_reducible apply Touches.ite)
    | (intro x; intros; try beta_reduce)

theorem State.loadClock_touches (s : State) : Touches 74433847 s s.loadClock := by
  unfold State.loadClock
  repeat' first
    | exact rfl
    | with_reducible assumption
    | with_reducible exact Touches.refl _ _
    | (extract_lets +onlyGivenNames s1; refine Touches.cut (x := s1) ?_ ?_; (on_goal 1 => subst s1); (on_goal 2 => (intro h1; clear_value s1)))
    | (extract_lets +onlyGivenNames v1; clear_value v1)
    | (with_reducible apply Touches.seq (State.loadFail_touches ..))
    | (with_reducible apply Touches.iff)
    | (with_reducible apply Touches.ite)
    | (intro x; intros; try beta_reduce)

theorem State.loadBegin_touches (s : State) (mode : BitVec 3) (golden : Bool) : Touches 74417459 s (s.loadBegin mode golden) := by
  unfold State.loadBegin
  repeat' first
    | exact rfl
    | with_reducible assumption
    | with_reducible exact Touches.refl _ _
    | (extract_lets +onlyGivenNames s1; refine Touches.cut (x := s1) ?_ ?_; (on_goal 1 => subst s1); (on_goal 2 => (intro h1; clear_value s1)))
    | (extract_lets +onlyGivenNames v1; clear_value v1)
    | (with_reducible apply Touches.seq (State.putWord_touches ..))
    | (with_reducible apply Touches.seq (State.put_touches ..))
    | (with_reducible apply Touches.seq (State.satInc_touches ..))
    | (with_reducible apply Touches.seq (State.enter_touches ..))
    | (with_reducible apply Touches.seq (State.imageBegin_touches ..))
    | (with_reducible apply Touches.seq (State.pllLoadBegin_touches ..))
    | (with_reducible apply Touches.seq (State.loadHalt_touches ..))
    | (with_reducible apply Touches.seq (State.loadError_touches ..))
    | (with_reducible apply Touches.iff)
    | (with_reducible apply Touches.ite)
    | (intro x; intros; try beta_reduce)

theorem State.discovery_touches (s : State) (f : Sfdp) : Touches 74433847 s (s.discovery f) := by
  unfold State.discovery
  repeat' first
    | exact rfl
    | with_reducible assumption
    | with_reducible exact Touches.refl _ _
    | (extract_lets +onlyGivenNames s1; refine Touches.cut (x := s1) ?_ ?_; (on_goal 1 => subst s1); (on_goal 2 => (intro h1; clear_value s1)))
    | (extract_lets +onlyGivenNames v1; clear_value v1)
    | (with_reducible apply Touches.seq (State.loadClock_touches ..))
    | (with_reducible apply Touches.seq (State.loadErrorBoth_touches ..))
    | (with_reducible apply Touches.seq (State.setLoad_touches ..))
    | (with_reducible apply Touches.seq (State.putB_touches ..))
    | (with_reducible apply Touches.seq (State.put_touches ..))
    | (with_reducible apply Touches.ite)

theorem State.headerRecord_touches (s : State) (bytes : List Byte) : Touches 74433847 s (s.headerRecord bytes) := by
  unfold State.headerRecord
  repeat' first
    | exact rfl
    | with_reducible assumption
    | with_reducible exact Touches.refl _ _
    | (extract_lets +onlyGivenNames v1; clear_value v1)
    | (with_reducible apply Touches.seq (State.loadFail_touches ..))
    | (with_reducible apply Touches.seq (State.setLoad_touches ..))
    | (with_reducible apply Touches.ite)
    | split

theorem State.chunkRead_touches (s : State) (stored : Option (List Byte)) : Touches 74433847 s (s.chunkRead stored) := by
  unfold State.chunkRead
  repeat' first
    | exact rfl
    | with_reducible assumption
    | with_reducible exact Touches.refl _ _
    | (extract_lets +onlyGivenNames v1; clear_value v1)
    | (with_reducible apply Touches.seq (State.loadFail_touches ..))
    | (with_reducible apply Touches.seq (State.setLoad_touches ..))
    | (with_reducible apply Touches.ite)
    | split

theorem State.onRecord_touches {T : Nat} {r s : State} {t : Nat} {f : State → Reader → List Byte → State} (h : Touches T r s) (hT : T ||| 74433847 = T)
    (hf : ∀ x a b, Touches T r x → Touches T r (f x a b)) : Touches T r (s.onRecord t f) := by
  unfold State.onRecord
  extract_lets q
  split
  · exact h
  · split
    · exact h
    · exact Touches.seq (State.loadFail_touches ..) hT h
    · split
      · exact hf s _ _ h
      · exact h

theorem State.recordDone_touches (s : State) (r : Reader) (f : Staged → Staged) : Touches 1024 s (s.recordDone r f) := by
  unfold State.recordDone
  repeat' first
    | exact rfl
    | with_reducible assumption
    | with_reducible exact Touches.refl _ _
    | (with_reducible apply Touches.seq (State.setLoad_touches ..))

theorem State.profileRecord_touches (s : State) : Touches 74433847 s s.profileRecord := by
  unfold State.profileRecord
  repeat' first
    | exact rfl
    | with_reducible assumption
    | with_reducible exact Touches.refl _ _
    | (extract_lets +onlyGivenNames s1; refine Touches.cut (x := s1) ?_ ?_; (on_goal 1 => subst s1); (on_goal 2 => (intro h1; clear_value s1)))
    | (extract_lets +onlyGivenNames v1; clear_value v1)
    | (with_reducible apply State.onRecord_touches)
    | (with_reducible apply Touches.seq (State.loadFail_touches ..))
    | (with_reducible apply Touches.seq (State.applySettings_touches ..))
    | (with_reducible apply Touches.seq (State.recordDone_touches ..))
    | (with_reducible apply Touches.ite)
    | (intro x; intros; try beta_reduce)
    | split

theorem State.keywrapRecord_touches (s : State) : Touches 74433847 s s.keywrapRecord := by
  unfold State.keywrapRecord
  repeat' first
    | exact rfl
    | with_reducible assumption
    | with_reducible exact Touches.refl _ _
    | (with_reducible apply State.onRecord_touches)
    | (with_reducible apply Touches.seq (State.loadFail_touches ..))
    | (with_reducible apply Touches.seq (State.recordDone_touches ..))
    | (with_reducible apply Touches.ite)
    | (intro x; intros; try beta_reduce)
    | split

theorem State.bandsRecord_touches (s : State) : Touches 74433847 s s.bandsRecord := by
  unfold State.bandsRecord
  repeat' first
    | exact rfl
    | with_reducible assumption
    | with_reducible exact Touches.refl _ _
    | (with_reducible apply State.onRecord_touches)
    | (with_reducible apply Touches.seq (State.loadFail_touches ..))
    | (with_reducible apply Touches.seq (State.recordDone_touches ..))
    | (intro x; intros; try beta_reduce)
    | split

theorem State.pinsRecord_touches (s : State) : Touches 74433847 s s.pinsRecord := by
  unfold State.pinsRecord
  repeat' first
    | exact rfl
    | with_reducible assumption
    | with_reducible exact Touches.refl _ _
    | (extract_lets +onlyGivenNames v1; clear_value v1)
    | (with_reducible apply State.onRecord_touches)
    | (with_reducible apply Touches.seq (State.loadFail_touches ..))
    | (with_reducible apply Touches.seq (State.recordDone_touches ..))
    | (with_reducible apply Touches.ite)
    | (intro x; intros; try beta_reduce)
    | split

theorem State.recOut_touches {T : Nat} {r s : State} {α : Type} {o : RecOut α} {f : State → α → State} (h : Touches T r s) (hT : T ||| 74433847 = T)
    (hf : ∀ x a, Touches T r x → Touches T r (f x a)) : Touches T r (s.recOut o f) := by
  unfold State.recOut
  split
  · exact hf s _ h
  · exact Touches.seq (State.loadFail_touches ..) hT h

theorem State.cacheFrames_touches (s : State) (n : Nat) (xs : List (BitVec 2048)) : Touches 1073750016 s (s.cacheFrames n xs) := by
  induction xs generalizing s n with
  | nil => exact Touches.refl _ _
  | cons x xs ih => exact Touches.seq (ih _ _) rfl (Touches.mono (State.putDeep_touches ..) rfl)

theorem State.frameRecord_touches (s : State) : Touches 1148185911 s s.frameRecord := by
  unfold State.frameRecord
  repeat' first
    | exact rfl
    | with_reducible assumption
    | with_reducible exact Touches.refl _ _
    | (with_reducible apply State.onRecord_touches)
    | (with_reducible apply State.recOut_touches)
    | (with_reducible apply Touches.seq (State.cacheFrames_touches ..))
    | (with_reducible apply Touches.seq (State.putFrames_touches ..))
    | (with_reducible apply Touches.seq (State.recordDone_touches ..))
    | (intro x; intros; try beta_reduce)

theorem State.repeatRecord_touches (s : State) (sbe : List Nat) (dbe : Option Nat) : Touches 74435895 s (s.repeatRecord sbe dbe) := by
  unfold State.repeatRecord
  repeat' first
    | exact rfl
    | with_reducible assumption
    | with_reducible exact Touches.refl _ _
    | (extract_lets +onlyGivenNames s1; refine Touches.cut (x := s1) ?_ ?_; (on_goal 1 => subst s1); (on_goal 2 => (intro h1; clear_value s1)))
    | (extract_lets +onlyGivenNames v1; clear_value v1)
    | (with_reducible apply State.onRecord_touches)
    | (with_reducible apply State.recOut_touches)
    | (with_reducible apply Touches.seq (State.report_touches ..))
    | (with_reducible apply Touches.seq (State.loadFail_touches ..))
    | (with_reducible apply Touches.seq (State.putFrames_touches ..))
    | (with_reducible apply Touches.seq (State.recordDone_touches ..))
    | (with_reducible apply Touches.each)
    | (intro x; intros; try beta_reduce)
    | split

theorem State.fillRecord_touches (s : State) : Touches 74435895 s s.fillRecord := by
  unfold State.fillRecord
  repeat' first
    | exact rfl
    | with_reducible assumption
    | with_reducible exact Touches.refl _ _
    | (with_reducible apply State.onRecord_touches)
    | (with_reducible apply State.recOut_touches)
    | (with_reducible apply Touches.seq (State.putFrames_touches ..))
    | (with_reducible apply Touches.seq (State.recordDone_touches ..))
    | (intro x; intros; try beta_reduce)

theorem State.regionEndRecord_touches (s : State) : Touches 74433847 s s.regionEndRecord := by
  unfold State.regionEndRecord
  repeat' first
    | exact rfl
    | with_reducible assumption
    | with_reducible exact Touches.refl _ _
    | (with_reducible apply State.onRecord_touches)
    | (with_reducible apply State.recOut_touches)
    | (with_reducible apply Touches.seq (State.putWord_touches ..))
    | (with_reducible apply Touches.seq (State.recordDone_touches ..))
    | (intro x; intros; try beta_reduce)

theorem State.maskRecord_touches (s : State) : Touches 74433847 s s.maskRecord := by
  unfold State.maskRecord
  repeat' first
    | exact rfl
    | with_reducible assumption
    | with_reducible exact Touches.refl _ _
    | (with_reducible apply State.onRecord_touches)
    | (with_reducible apply Touches.seq (State.loadFail_touches ..))
    | (with_reducible apply Touches.seq (State.recordDone_touches ..))
    | (with_reducible apply Touches.ite)
    | (intro x; intros; try beta_reduce)

theorem State.slotsRecord_touches (s : State) : Touches 74433847 s s.slotsRecord := by
  unfold State.slotsRecord
  repeat' first
    | exact rfl
    | with_reducible assumption
    | with_reducible exact Touches.refl _ _
    | (extract_lets +onlyGivenNames v1; clear_value v1)
    | (with_reducible apply State.onRecord_touches)
    | (with_reducible apply Touches.seq (State.loadFail_touches ..))
    | (with_reducible apply State.recOut_touches)
    | (with_reducible apply Touches.seq (State.recordDone_touches ..))
    | (with_reducible apply Touches.ite)
    | (intro x; intros; try beta_reduce)

theorem State.putBands_touches (s : State) (n : Nat) (es : List (Nat × Nat × Nat)) : Touches 2 s (s.putBands n es) := by
  unfold State.putBands
  repeat' first
    | exact rfl
    | with_reducible assumption
    | with_reducible exact Touches.refl _ _
    | (with_reducible apply Touches.seq (State.set_touches ..))
    | (with_reducible apply Touches.seq (State.put_touches ..))
    | (with_reducible apply Touches.seq (State.clr_touches ..))
    | (with_reducible apply Touches.each)
    | (intro x; intros; try beta_reduce)
    | split

theorem State.applyRole_touches (s : State) (p : List Byte) : Touches 66562 s (s.applyRole p) := by
  unfold State.applyRole
  repeat' first
    | exact rfl
    | with_reducible assumption
    | with_reducible exact Touches.refl _ _
    | (extract_lets +onlyGivenNames s1; refine Touches.cut (x := s1) ?_ ?_; (on_goal 1 => subst s1); (on_goal 2 => (intro h1; clear_value s1)))
    | (extract_lets +onlyGivenNames v1; clear_value v1)
    | (with_reducible apply Touches.seq (State.put_touches ..))
    | (with_reducible apply Touches.seq (State.setLoad_touches ..))
    | (with_reducible apply Touches.upd_brg)

theorem State.applyImage_touches (s : State) : Touches 345094 s s.applyImage := by
  unfold State.applyImage
  repeat' first
    | exact rfl
    | with_reducible assumption
    | with_reducible exact Touches.refl _ _
    | exact fun _ => rfl
    | exact fun _ => maskOf_wf _
    | (extract_lets +onlyGivenNames s1; refine Touches.cut (x := s1) ?_ ?_; (on_goal 1 => subst s1); (on_goal 2 => (intro h1; clear_value s1)))
    | (extract_lets +onlyGivenNames v1; clear_value v1)
    | (with_reducible apply Touches.seq (State.applySettings_touches ..))
    | (with_reducible apply Touches.seq (State.put_touches ..))
    | (with_reducible apply Touches.seq (State.putBands_touches ..))
    | (with_reducible apply Touches.seq (State.putWord_touches ..))
    | (with_reducible apply Touches.seq (State.putSlot_touches ..))
    | (with_reducible apply Touches.seq (State.applyRole_touches ..))
    | (with_reducible apply Touches.seq (State.setLoad_touches ..))
    | (with_reducible apply Touches.upd_mask)
    | (with_reducible apply Touches.upd_cph)
    | (with_reducible apply Touches.each)
    | (with_reducible apply Touches.iff)
    | (intro x; intros; try beta_reduce)

theorem State.lpllChoose_touches (s : State) : Touches 67108864 s s.lpllChoose := by
  unfold State.lpllChoose
  repeat' first
    | exact rfl
    | with_reducible assumption
    | with_reducible exact Touches.refl _ _
    | (with_reducible apply Touches.upd_pll)

theorem State.endRecord_touches (s : State) : Touches 74434359 s s.endRecord := by
  unfold State.endRecord
  repeat' first
    | exact rfl
    | with_reducible assumption
    | with_reducible exact Touches.refl _ _
    | (extract_lets +onlyGivenNames s1; refine Touches.cut (x := s1) ?_ ?_; (on_goal 1 => subst s1); (on_goal 2 => (intro h1; clear_value s1)))
    | (extract_lets +onlyGivenNames v1; clear_value v1)
    | (with_reducible apply State.onRecord_touches)
    | (with_reducible apply State.recOut_touches)
    | (with_reducible apply Touches.seq (State.finish_touches ..))
    | (with_reducible apply Touches.seq (State.applyImage_touches ..))
    | (with_reducible apply Touches.seq (State.lpllChoose_touches ..))
    | (with_reducible apply Touches.seq (State.loadFail_touches ..))
    | (with_reducible apply Touches.seq (State.recordDone_touches ..))
    | (with_reducible apply Touches.seq (State.pllEndPhase_touches ..))
    | (with_reducible apply Touches.seq (State.put_touches ..))
    | (with_reducible apply Touches.ite)
    | (intro x; intros; try beta_reduce)
    | split

theorem State.auditBegin_touches (s : State) (golden : Bool) : Touches 1026 s (s.auditBegin golden) := by
  unfold State.auditBegin
  repeat' first
    | exact rfl
    | with_reducible assumption
    | with_reducible exact Touches.refl _ _
    | (with_reducible apply Touches.seq (State.set_touches ..))
    | (with_reducible apply Touches.seq (State.putB_touches ..))
    | (with_reducible apply Touches.seq (State.setLoad_touches ..))

theorem State.auditRun_touches (s : State) : Touches 1026 s s.auditRun := by
  unfold State.auditRun
  repeat' first
    | exact rfl
    | with_reducible assumption
    | with_reducible exact Touches.refl _ _
    | (with_reducible apply Touches.seq (State.setLoad_touches ..))
    | (with_reducible apply Touches.seq (State.auditBegin_touches ..))
    | (with_reducible apply Touches.ite)
    | split

theorem State.auditAsk_touches (s : State) (targets : List Bool) : Touches 1026 s (s.auditAsk targets) := by
  unfold State.auditAsk
  repeat' first
    | exact rfl
    | with_reducible assumption
    | with_reducible exact Touches.refl _ _
    | (with_reducible apply Touches.seq (State.setLoad_touches ..))
    | (with_reducible apply Touches.seq (State.auditRun_touches ..))

theorem State.auditStart_touches (s : State) (golden : Bool) : Touches 1026 s (s.auditStart golden) := by
  unfold State.auditStart
  repeat' first
    | exact rfl
    | with_reducible assumption
    | with_reducible exact Touches.refl _ _
    | (with_reducible apply Touches.seq (State.auditAsk_touches ..))
    | (with_reducible apply Touches.iff)
    | (intro x; intros; try beta_reduce)

theorem State.auditPeriod_touches (s : State) : Touches 1026 s s.auditPeriod := by
  unfold State.auditPeriod
  repeat' first
    | exact rfl
    | with_reducible assumption
    | with_reducible exact Touches.refl _ _
    | (with_reducible apply Touches.seq (State.auditAsk_touches ..))
    | (with_reducible apply Touches.iff)
    | (intro x; intros; try beta_reduce)

theorem State.auditEnd_touches (s : State) (code chunk : Nat) : Touches 1298 s (s.auditEnd code chunk) := by
  unfold State.auditEnd
  repeat' first
    | exact rfl
    | with_reducible assumption
    | with_reducible exact Touches.refl _ _
    | (extract_lets +onlyGivenNames s1; refine Touches.cut (x := s1) ?_ ?_; (on_goal 1 => subst s1); (on_goal 2 => (intro h1; clear_value s1)))
    | (extract_lets +onlyGivenNames v1; clear_value v1)
    | (with_reducible apply Touches.seq (State.clr_touches ..))
    | (with_reducible apply Touches.seq (State.setLoad_touches ..))
    | (with_reducible apply Touches.seq (State.put_touches ..))
    | (with_reducible apply Touches.seq (State.satInc_touches ..))
    | (with_reducible apply Touches.seq (State.set_touches ..))
    | (with_reducible apply Touches.seq (State.blockLog_touches ..))
    | (with_reducible apply Touches.seq (State.drawn_touches ..))
    | (with_reducible apply Touches.seq (State.auditRun_touches ..))
    | (with_reducible apply Touches.ite)

theorem State.auditDone_touches (s : State) (header : List Byte) (chunks : List (Option (List Byte))) : Touches 1298 s (s.auditDone header chunks) := by
  unfold State.auditDone
  repeat' first
    | exact rfl
    | with_reducible assumption
    | with_reducible exact Touches.refl _ _
    | (with_reducible apply Touches.seq (State.auditEnd_touches ..))
    | split

theorem State.auditStop_touches (s : State) : Touches 2 s s.auditStop := by
  unfold State.auditStop
  repeat' first
    | exact rfl
    | with_reducible assumption
    | with_reducible exact Touches.refl _ _
    | (with_reducible apply Touches.seq (State.clr_touches ..))
    | (with_reducible apply Touches.seq (State.set_touches ..))
    | (with_reducible apply Touches.ite)

theorem State.auditAbort_touches (s : State) : Touches 1026 s s.auditAbort := by
  unfold State.auditAbort
  repeat' first
    | exact rfl
    | with_reducible assumption
    | with_reducible exact Touches.refl _ _
    | (with_reducible apply Touches.seq (State.setLoad_touches ..))
    | (with_reducible apply Touches.seq (State.auditStop_touches ..))

theorem State.nvmDenied_touches (s : State) : Touches 2 s s.nvmDenied := by
  unfold State.nvmDenied
  repeat' first
    | exact rfl
    | with_reducible assumption
    | with_reducible exact Touches.refl _ _
    | (with_reducible apply Touches.seq (State.set_touches ..))

theorem State.nvmCmd_touches (s : State) (op : Nat) : Touches 1027 s (s.nvmCmd op) := by
  unfold State.nvmCmd
  repeat' first
    | exact rfl
    | with_reducible assumption
    | with_reducible exact Touches.refl _ _
    | (extract_lets +onlyGivenNames s1; refine Touches.cut (x := s1) ?_ ?_; (on_goal 1 => subst s1); (on_goal 2 => (intro h1; clear_value s1)))
    | (extract_lets +onlyGivenNames v1; clear_value v1)
    | (with_reducible apply Touches.seq (State.nvmDenied_touches ..))
    | (with_reducible apply Touches.seq (State.auditStop_touches ..))
    | (with_reducible apply Touches.seq (State.set_touches ..))
    | (with_reducible apply Touches.seq (State.setLoad_touches ..))
    | (with_reducible apply Touches.seq (State.emit_touches ..))
    | (with_reducible apply Touches.ite)

theorem State.nvmEnd_touches (s : State) (ok : Bool) (data : List Byte) : Touches 1026 s (s.nvmEnd ok data) := by
  unfold State.nvmEnd
  repeat' first
    | exact rfl
    | with_reducible assumption
    | with_reducible exact Touches.refl _ _
    | (extract_lets +onlyGivenNames s1; refine Touches.cut (x := s1) ?_ ?_; (on_goal 1 => subst s1); (on_goal 2 => (intro h1; clear_value s1)))
    | (extract_lets +onlyGivenNames v1; clear_value v1)
    | (with_reducible apply Touches.seq (State.clr_touches ..))
    | (with_reducible apply Touches.seq (State.set_touches ..))
    | (with_reducible apply Touches.seq (State.setLoad_touches ..))
    | (with_reducible apply Touches.seq (State.putRegBytes_touches ..))
    | (with_reducible apply Touches.seq (State.auditRun_touches ..))
    | (with_reducible apply Touches.ite)
    | split

theorem State.nvmCut_touches (s : State) : Touches 1026 s s.nvmCut := by
  unfold State.nvmCut
  repeat' first
    | exact rfl
    | with_reducible assumption
    | with_reducible exact Touches.refl _ _
    | (with_reducible apply Touches.seq (State.nvmEnd_touches ..))

theorem State.nvmWrite_touches (s : State) (w : Word) : Touches 1027 s (s.nvmWrite w) := by
  unfold State.nvmWrite
  repeat' first
    | exact rfl
    | with_reducible assumption
    | with_reducible exact Touches.refl _ _
    | (with_reducible apply Touches.seq (State.nvmCmd_touches ..))
    | (with_reducible apply Touches.ite)

theorem State.fuseCmd_touches (s : State) (go : Nat) : Touches 2 s (s.fuseCmd go) := by
  unfold State.fuseCmd
  repeat' first
    | exact rfl
    | with_reducible assumption
    | with_reducible exact Touches.refl _ _
    | (with_reducible apply Touches.seq (State.set_touches ..))
    | (with_reducible apply Touches.ite)

theorem State.fuseEnd_touches (s : State) (verified : Bool) : Touches 1026 s (s.fuseEnd verified) := by
  unfold State.fuseEnd
  repeat' first
    | exact rfl
    | with_reducible assumption
    | with_reducible exact Touches.refl _ _
    | exact cellWriteAll_wf _ _ _ _
    | exact clearRange_wf _ _ _
    | exact fun h => clearRange_wf _ _ _ (clearRange_wf _ _ _ h)
    | (extract_lets +onlyGivenNames s1; refine Touches.cut (x := s1) ?_ ?_; (on_goal 1 => subst s1); (on_goal 2 => (intro h1; clear_value s1)))
    | (extract_lets +onlyGivenNames v1; clear_value v1)
    | (with_reducible apply Touches.seq (State.clr_touches ..))
    | (with_reducible apply Touches.seq (State.set_touches ..))
    | (with_reducible apply Touches.seq (State.setLoad_touches ..))
    | (with_reducible apply Touches.upd_regs)
    | (with_reducible apply Touches.ite)

end Sys2Proof.Machine
end

