-- ==== Sys2Proof/Laws/TouchScr.lean ====
section
/-! SUPPORT. What each operation of Machine/Scr.lean can change: one lemma per operation, its set of parts as in Laws/Parts.lean. -/
namespace Sys2Proof.Machine

theorem State.prSet_touches (s : State) (r : Reader) : Touches 1024 s (s.prSet r) := by
  unfold State.prSet
  repeat' first
    | exact rfl
    | with_reducible assumption
    | with_reducible exact Touches.refl _ _
    | (with_reducible apply Touches.seq (State.setLoad_touches ..))

theorem State.prDone_touches (s : State) (code detail : Nat) : Touches 1282 s (s.prDone code detail) := by
  unfold State.prDone
  repeat' first
    | exact rfl
    | with_reducible assumption
    | with_reducible exact Touches.refl _ _
    | (extract_lets +onlyGivenNames s1; refine Touches.cut (x := s1) ?_ ?_; (on_goal 1 => subst s1); (on_goal 2 => (intro h1; clear_value s1)))
    | (extract_lets +onlyGivenNames v1; clear_value v1)
    | (with_reducible apply Touches.seq (State.put_touches ..))
    | (with_reducible apply Touches.seq (State.prSet_touches ..))
    | (with_reducible apply Touches.seq (State.setLoad_touches ..))
    | (with_reducible apply Touches.seq (State.set_touches ..))
    | (with_reducible apply Touches.seq (State.blockLog_touches ..))
    | (with_reducible apply Touches.ite)

theorem State.prFail_touches (s : State) (code detail : Nat) : Touches 1282 s (s.prFail code detail) := by
  unfold State.prFail
  repeat' first
    | exact rfl
    | with_reducible assumption
    | with_reducible exact Touches.refl _ _
    | (with_reducible apply Touches.seq (State.put_touches ..))
    | (with_reducible apply Touches.seq (State.prDone_touches ..))
    | (with_reducible apply Touches.iff)
    | (intro x; intros; try beta_reduce)

theorem State.prRecordError_touches (s : State) (code : Nat) : Touches 1282 s (s.prRecordError code) := by
  unfold State.prRecordError
  repeat' first
    | exact rfl
    | with_reducible assumption
    | with_reducible exact Touches.refl _ _
    | (with_reducible apply Touches.seq (State.prFail_touches ..))

theorem State.prRequest_touches (s : State) (r : Nat) : Touches 1282 s (s.prRequest r) := by
  unfold State.prRequest
  repeat' first
    | exact rfl
    | with_reducible assumption
    | with_reducible exact Touches.refl _ _
    | (extract_lets +onlyGivenNames s1; refine Touches.cut (x := s1) ?_ ?_; (on_goal 1 => subst s1); (on_goal 2 => (intro h1; clear_value s1)))
    | (extract_lets +onlyGivenNames v1; clear_value v1)
    | (with_reducible apply Touches.seq (State.set_touches ..))
    | (with_reducible apply Touches.seq (State.put_touches ..))
    | (with_reducible apply Touches.seq (State.prSet_touches ..))
    | (with_reducible apply Touches.seq (State.setLoad_touches ..))
    | (with_reducible apply Touches.seq (State.prDone_touches ..))
    | (with_reducible apply Touches.ite)

theorem State.prCancel_touches (s : State) : Touches 1282 s s.prCancel := by
  unfold State.prCancel
  repeat' first
    | exact rfl
    | with_reducible assumption
    | with_reducible exact Touches.refl _ _
    | (with_reducible apply Touches.seq (State.prDone_touches ..))
    | (with_reducible apply Touches.seq (State.set_touches ..))
    | (with_reducible apply Touches.ite)

theorem State.prWrite_touches (s : State) (w : Word) : Touches 1282 s (s.prWrite w) := by
  unfold State.prWrite
  repeat' first
    | exact rfl
    | with_reducible assumption
    | with_reducible exact Touches.refl _ _
    | (with_reducible apply Touches.seq (State.prRequest_touches ..))
    | (with_reducible apply Touches.seq (State.prCancel_touches ..))
    | (with_reducible apply Touches.ite)
    | split

theorem State.prHeader_touches (s : State) (h : List Byte) : Touches 1282 s (s.prHeader h) := by
  unfold State.prHeader
  repeat' first
    | exact rfl
    | with_reducible assumption
    | with_reducible exact Touches.refl _ _
    | (extract_lets +onlyGivenNames v1; clear_value v1)
    | (with_reducible apply Touches.seq (State.prDone_touches ..))
    | (with_reducible apply Touches.seq (State.prSet_touches ..))
    | (with_reducible apply Touches.ite)
    | split

theorem State.prIsolate_touches (s : State) : Touches 3074 s s.prIsolate := by
  unfold State.prIsolate
  repeat' first
    | exact rfl
    | with_reducible assumption
    | with_reducible exact Touches.refl _ _
    | (intro l; refine FabState.wf_of ?_ ?_ <;> first | with_reducible exact id | with_reducible exact cellWrite_wf _ _ _ | with_reducible exact cellErase_wf _ _ | with_reducible exact filter_wf _ _ | with_reducible exact cellWriteAll_wf _ _ _ _ | exact fun h => cellWrite_wf _ _ _ (cellWrite_wf _ _ _ h) | (split <;> with_reducible exact id) | exact fun _ => rfl)
    | (extract_lets +onlyGivenNames s1; refine Touches.cut (x := s1) ?_ ?_; (on_goal 1 => subst s1); (on_goal 2 => (intro h1; clear_value s1)))
    | (extract_lets +onlyGivenNames v1; clear_value v1)
    | (with_reducible apply Touches.seq (State.setLoad_touches ..))
    | (with_reducible apply Touches.seq (State.put_touches ..))
    | (with_reducible apply Touches.seq (State.clr_touches ..))
    | (with_reducible refine Touches.seq (State.setFab_touches ?_) ?_ ?_)
    | (with_reducible apply Touches.iff)
    | (with_reducible apply Touches.ite)
    | (intro x; intros; try beta_reduce)

theorem State.prFrames_touches (s : State) (o : Reader × Nat × List (BitVec 2048)) : Touches 3074 s (s.prFrames o) := by
  unfold State.prFrames
  repeat' first
    | exact rfl
    | with_reducible assumption
    | with_reducible exact Touches.refl _ _
    | (intro l; refine FabState.wf_of ?_ ?_ <;> first | with_reducible exact id | with_reducible exact cellWrite_wf _ _ _ | with_reducible exact cellErase_wf _ _ | with_reducible exact filter_wf _ _ | with_reducible exact cellWriteAll_wf _ _ _ _ | exact fun h => cellWrite_wf _ _ _ (cellWrite_wf _ _ _ h) | (split <;> with_reducible exact id) | exact fun _ => rfl)
    | (extract_lets +onlyGivenNames s1; refine Touches.cut (x := s1) ?_ ?_; (on_goal 1 => subst s1); (on_goal 2 => (intro h1; clear_value s1)))
    | (extract_lets +onlyGivenNames v1; clear_value v1)
    | (with_reducible apply Touches.seq (State.prIsolate_touches ..))
    | (with_reducible apply Touches.seq (State.slotTaken_touches ..))
    | (with_reducible apply Touches.seq (State.putFrames_touches ..))
    | (with_reducible apply Touches.seq (State.prSet_touches ..))
    | (with_reducible refine Touches.seq (State.setFab_touches ?_) ?_ ?_)
    | (with_reducible apply Touches.each)
    | (intro x; intros; try beta_reduce)

theorem State.prRecords_touches (s : State) (n : Nat) : Touches 3330 s (s.prRecords n) := by
  induction n generalizing s with
  | zero => exact Touches.refl _ _
  | succ n ih =>
    unfold State.prRecords
    repeat' first
      | exact rfl
      | with_reducible assumption
      | with_reducible exact Touches.refl _ _
      | (extract_lets +onlyGivenNames v1; clear_value v1)
      | (with_reducible apply Touches.seq (State.prRecordError_touches ..))
      | (with_reducible apply Touches.seq (State.prFrames_touches ..))
      | (with_reducible apply Touches.seq (State.put_touches ..))
      | (with_reducible apply Touches.ite)
      | split
      | (with_reducible apply Touches.seq (ih ..))

theorem State.prRead_touches {T : Nat} {r s : State} {o n : Nat} {dbe : Bool} {f : State → List Byte → State} (h : Touches T r s)
    (hT : T ||| 1073743122 = T) (hf : ∀ x bs, Touches T r x → Touches T r (f x bs)) : Touches T r (s.prRead o n dbe f) := by
  unfold State.prRead
  extract_lets a v s1
  have h1 : Touches T r s1 := Touches.seq (U := 1073743122) (Touches.mono (State.deepReads_touches ..) rfl) hT h
  split
  · exact Touches.seq (U := 1073743122) (Touches.mono (State.prFail_touches ..) rfl) hT h1
  · exact hf _ _ h1

theorem State.prNextChunk_touches (s : State) (dbe : Bool) : Touches 1073745170 s (s.prNextChunk dbe) := by
  unfold State.prNextChunk
  repeat' first
    | exact rfl
    | with_reducible assumption
    | with_reducible exact Touches.refl _ _
    | (extract_lets +onlyGivenNames s1; refine Touches.cut (x := s1) ?_ ?_; (on_goal 1 => subst s1); (on_goal 2 => (intro h1; clear_value s1)))
    | (extract_lets +onlyGivenNames v1; clear_value v1)
    | (with_reducible apply State.prRead_touches)
    | (with_reducible apply Touches.seq (State.prFail_touches ..))
    | (with_reducible apply Touches.seq (State.prSet_touches ..))
    | (with_reducible apply Touches.seq (State.prRecords_touches ..))
    | (with_reducible apply Touches.ite)
    | (intro x; intros; try beta_reduce)
    | split

theorem State.prChunk_touches (s : State) (dbe : Bool) : Touches 1073745170 s (s.prChunk dbe) := by
  unfold State.prChunk
  repeat' first
    | exact rfl
    | with_reducible assumption
    | with_reducible exact Touches.refl _ _
    | (extract_lets +onlyGivenNames v1; clear_value v1)
    | (with_reducible apply State.prRead_touches)
    | (with_reducible apply Touches.seq (State.prHeader_touches ..))
    | (with_reducible apply Touches.seq (State.prNextChunk_touches ..))
    | (with_reducible apply Touches.ite)
    | (intro x; intros; try beta_reduce)

theorem State.prWaits_touches (s : State) : Touches 2 s s.prWaits := by
  unfold State.prWaits
  repeat' first
    | exact rfl
    | with_reducible assumption
    | with_reducible exact Touches.refl _ _
    | (with_reducible apply Touches.seq (State.put_touches ..))
    | (with_reducible apply Touches.iff)
    | (intro x; intros; try beta_reduce)

theorem State.prChecks_touches (s : State) : Touches 1795 s s.prChecks := by
  unfold State.prChecks
  repeat' first
    | exact rfl
    | with_reducible assumption
    | with_reducible exact Touches.refl _ _
    | (extract_lets +onlyGivenNames v1; clear_value v1)
    | (with_reducible apply Touches.seq (State.prRecordError_touches ..))
    | (with_reducible apply Touches.seq (State.finish_touches ..))
    | (with_reducible apply Touches.seq (State.prSet_touches ..))
    | (with_reducible apply Touches.seq (State.prWaits_touches ..))
    | (with_reducible apply Touches.ite)
    | split

theorem State.prFree_touches (s : State) : Touches 1610624258 s s.prFree := by
  unfold State.prFree
  repeat' first
    | exact rfl
    | with_reducible assumption
    | with_reducible exact Touches.refl _ _
    | (intro l; refine FabState.wf_of ?_ ?_ <;> first | with_reducible exact id | with_reducible exact cellWrite_wf _ _ _ | with_reducible exact cellErase_wf _ _ | with_reducible exact filter_wf _ _ | with_reducible exact cellWriteAll_wf _ _ _ _ | exact fun h => cellWrite_wf _ _ _ (cellWrite_wf _ _ _ h) | (split <;> with_reducible exact id) | exact fun _ => rfl)
    | (extract_lets +onlyGivenNames s1; refine Touches.cut (x := s1) ?_ ?_; (on_goal 1 => subst s1); (on_goal 2 => (intro h1; clear_value s1)))
    | (extract_lets +onlyGivenNames v1; clear_value v1)
    | (with_reducible apply Touches.seq (State.zeroBank_touches ..))
    | (with_reducible apply Touches.seq (State.putWord_touches ..))
    | (with_reducible apply Touches.seq (State.forgetCells_touches ..))
    | (with_reducible apply Touches.seq (State.put_touches ..))
    | (with_reducible apply Touches.seq (State.set_touches ..))
    | (with_reducible apply Touches.seq (State.holdRegion_touches ..))
    | (with_reducible apply Touches.seq (State.streamsZero_touches ..))
    | (with_reducible apply Touches.seq (State.prDone_touches ..))
    | (with_reducible refine Touches.seq (State.setFab_touches ?_) ?_ ?_)
    | (with_reducible apply Touches.each)
    | (with_reducible apply Touches.iff)
    | (intro x; intros; try beta_reduce)

theorem State.prRelease_touches (s : State) : Touches 1610624258 s s.prRelease := by
  unfold State.prRelease
  repeat' first
    | exact rfl
    | with_reducible assumption
    | with_reducible exact Touches.refl _ _
    | (with_reducible apply Touches.seq (State.prFree_touches ..))
    | (with_reducible apply Touches.ite)

theorem State.prDrain_touches (s : State) : Touches 1282 s s.prDrain := by
  unfold State.prDrain
  repeat' first
    | exact rfl
    | with_reducible assumption
    | with_reducible exact Touches.refl _ _
    | (with_reducible apply Touches.seq (State.prDone_touches ..))
    | (with_reducible apply Touches.seq (State.prWaits_touches ..))
    | (with_reducible apply Touches.ite)

theorem State.prWake_touches (s : State) : Touches 1610624258 s s.prWake := by
  unfold State.prWake
  repeat' first
    | exact rfl
    | with_reducible assumption
    | with_reducible exact Touches.refl _ _
    | (with_reducible apply Touches.seq (State.prFree_touches ..))
    | (with_reducible apply Touches.iff)
    | (intro x; intros; try beta_reduce)

theorem State.prStop_touches (s : State) : Touches 1282 s s.prStop := by
  unfold State.prStop
  repeat' first
    | exact rfl
    | with_reducible assumption
    | with_reducible exact Touches.refl _ _
    | (with_reducible apply Touches.seq (State.prDone_touches ..))
    | (with_reducible apply Touches.iff)
    | (intro x; intros; try beta_reduce)

end Sys2Proof.Machine
end

