-- ==== Sys2Proof/Laws/TouchWear.lean ====
section
/-! SUPPORT. What each operation of Machine/Wear.lean can change: one lemma per operation, its set of parts as in Laws/Parts.lean. -/
namespace Sys2Proof.Machine

theorem State.setWear_touches (s : State) (f : WearState → WearState) : Touches 268435456 s (s.setWear f) := Touches.upd_wear rfl (Touches.refl _ _) _

theorem State.wearBegin_touches (s : State) : Touches 2 s s.wearBegin := by
  unfold State.wearBegin
  repeat' first
    | exact rfl
    | with_reducible assumption
    | with_reducible exact Touches.refl _ _
    | (with_reducible apply Touches.seq (State.set_touches ..))
    | (with_reducible apply Touches.iff)
    | (intro x; intros; try beta_reduce)

theorem State.wearCmd_touches (s : State) (w : Word) : Touches 2 s (s.wearCmd w) := by
  unfold State.wearCmd
  repeat' first
    | exact rfl
    | with_reducible assumption
    | with_reducible exact Touches.refl _ _
    | (with_reducible apply Touches.seq (State.wearBegin_touches ..))
    | (with_reducible apply Touches.ite)

theorem State.wearSchedule_touches (s : State) : Touches 268435458 s s.wearSchedule := by
  unfold State.wearSchedule
  repeat' first
    | exact rfl
    | with_reducible assumption
    | with_reducible exact Touches.refl _ _
    | (with_reducible apply Touches.seq (State.setWear_touches ..))
    | (with_reducible apply Touches.seq (State.wearBegin_touches ..))
    | (with_reducible apply Touches.ite)

theorem State.wearPair_touches (s : State) (r : Nat) (x : WearCount) : Touches 268435714 s (s.wearPair r x) := by
  unfold State.wearPair
  repeat' first
    | exact rfl
    | with_reducible assumption
    | with_reducible exact Touches.refl _ _
    | (extract_lets +onlyGivenNames s1; refine Touches.cut (x := s1) ?_ ?_; (on_goal 1 => subst s1); (on_goal 2 => (intro h1; clear_value s1)))
    | (extract_lets +onlyGivenNames v1; clear_value v1)
    | (with_reducible apply Touches.seq (State.set_touches ..))
    | (with_reducible apply Touches.seq (State.put_touches ..))
    | (with_reducible apply Touches.seq (State.setWear_touches ..))
    | (with_reducible apply Touches.seq (State.blockLog_touches ..))
    | (with_reducible apply Touches.iff)
    | (with_reducible apply Touches.ite)
    | (intro x; intros; try beta_reduce)

theorem State.wearDone_touches (s : State) (pairs : List WearCount) : Touches 268435714 s (s.wearDone pairs) := by
  unfold State.wearDone
  repeat' first
    | exact rfl
    | with_reducible assumption
    | with_reducible exact Touches.refl _ _
    | (extract_lets +onlyGivenNames s1; refine Touches.cut (x := s1) ?_ ?_; (on_goal 1 => subst s1); (on_goal 2 => (intro h1; clear_value s1)))
    | (extract_lets +onlyGivenNames v1; clear_value v1)
    | (with_reducible apply Touches.seq (State.clr_touches ..))
    | (with_reducible apply Touches.seq (State.satInc_touches ..))
    | (with_reducible apply Touches.seq (State.wearPair_touches ..))
    | (with_reducible apply Touches.seq (State.setWear_touches ..))
    | (with_reducible apply Touches.seq (State.wearBegin_touches ..))
    | (with_reducible apply Touches.each)
    | (with_reducible apply Touches.iff)
    | (with_reducible apply Touches.ite)
    | (intro x; intros; try beta_reduce)

theorem State.wearAbandon_touches (s : State) : Touches 268435458 s s.wearAbandon := by
  unfold State.wearAbandon
  repeat' first
    | exact rfl
    | with_reducible assumption
    | with_reducible exact Touches.refl _ _
    | (with_reducible apply Touches.seq (State.clr_touches ..))
    | (with_reducible apply Touches.seq (State.setWear_touches ..))

theorem State.tjMinute_touches (s : State) (tj : Int) : Touches 18 s (s.tjMinute tj) := by
  unfold State.tjMinute
  repeat' first
    | exact rfl
    | with_reducible assumption
    | with_reducible exact Touches.refl _ _
    | (extract_lets +onlyGivenNames s1; refine Touches.cut (x := s1) ?_ ?_; (on_goal 1 => subst s1); (on_goal 2 => (intro h1; clear_value s1)))
    | (extract_lets +onlyGivenNames v1; clear_value v1)
    | (with_reducible apply Touches.seq (State.satInc_touches ..))
    | (with_reducible apply Touches.seq (State.satAdd_touches ..))
    | (with_reducible apply Touches.seq (State.drawn_touches ..))
    | (with_reducible apply Touches.ite)

end Sys2Proof.Machine
end

