-- ==== Sys2Proof/Laws/TouchPwr.lean ====
section
/-! SUPPORT. What each operation of Machine/Pwr.lean can change: one lemma per operation, its set of parts as in Laws/Parts.lean. -/
namespace Sys2Proof.Machine

theorem State.porstRegs_wf (s : State) (h : cellWf s.regs = true) : cellWf s.porstRegs = true :=
  cellWrite_wf _ _ _ (cellWrite_wf _ _ _ (cellWrite_wf _ _ _ (putAll_wf _ _ (filter_wf _ _ h))))

theorem State.setPwr_touches (s : State) (f : PwrState → PwrState) : Touches 64 s (s.setPwr f) := Touches.upd_pwr rfl (Touches.refl _ _) _

theorem State.goOff_touches (s : State) : Touches 4294967270 s s.goOff := by
  unfold State.goOff
  repeat' first
    | exact rfl
    | with_reducible assumption
    | with_reducible exact Touches.refl _ _
    | (intro l; refine LogicState.wf_of ?_ ?_ ?_ ?_ ?_ ?_ ?_ ?_ ?_ ?_ ?_ <;> first | with_reducible exact id | with_reducible exact cellWrite_wf _ _ _ | with_reducible exact cellErase_wf _ _ | with_reducible exact filter_wf _ _ | with_reducible exact cellWriteAll_wf _ _ _ _ | exact fun h => cellWrite_wf _ _ _ (cellWrite_wf _ _ _ h) | (split <;> with_reducible exact id) | exact fun _ => rfl)
    | (intro l; refine FabState.wf_of ?_ ?_ <;> first | with_reducible exact id | with_reducible exact cellWrite_wf _ _ _ | with_reducible exact cellErase_wf _ _ | with_reducible exact filter_wf _ _ | with_reducible exact cellWriteAll_wf _ _ _ _ | exact fun h => cellWrite_wf _ _ _ (cellWrite_wf _ _ _ h) | (split <;> with_reducible exact id) | exact fun _ => rfl)
    | exact State.porstRegs_wf _
    | exact fun _ => rfl
    | (extract_lets +onlyGivenNames s1; refine Touches.cut (x := s1) ?_ ?_; (on_goal 1 => subst s1); (on_goal 2 => (intro h1; clear_value s1)))
    | (extract_lets +onlyGivenNames v1; clear_value v1)
    | (with_reducible apply Touches.seq (State.logLose_touches ..))
    | (with_reducible apply Touches.seq (State.streamsEmpty_touches ..))
    | (with_reducible apply Touches.upd_regs)
    | (with_reducible apply Touches.upd_mask)
    | (with_reducible apply Touches.upd_dev)
    | (with_reducible apply Touches.upd_pwr)
    | (with_reducible apply Touches.upd_wch)
    | (with_reducible apply Touches.upd_grd)
    | (with_reducible apply Touches.upd_bus)
    | (with_reducible apply Touches.upd_load)
    | (with_reducible apply Touches.upd_fab)
    | (with_reducible apply Touches.upd_fix)
    | (with_reducible apply Touches.upd_deep)
    | (with_reducible apply Touches.upd_cph)
    | (with_reducible apply Touches.upd_lnk)
    | (with_reducible apply Touches.upd_brg)
    | (with_reducible apply Touches.upd_smp)
    | (with_reducible apply Touches.upd_ddc)
    | (with_reducible apply Touches.upd_ctx)
    | (with_reducible apply Touches.upd_scan)
    | (with_reducible apply Touches.upd_lmdTx)
    | (with_reducible apply Touches.upd_lmdRx)
    | (with_reducible apply Touches.upd_spt)
    | (with_reducible apply Touches.upd_pin)
    | ((with_reducible apply Touches.upd_bin); (on_goal 2 => first | exact id | exact fun _ => rfl))
    | (with_reducible apply Touches.upd_pll)
    | (with_reducible apply Touches.upd_mon)
    | (with_reducible apply Touches.upd_wear)
    | (with_reducible apply Touches.upd_lgc)
    | (with_reducible apply Touches.upd_health)

theorem State.coldStart_touches (s : State) (mode : BitVec 3) (monEn : Bool) : Touches 1685054963 s (s.coldStart mode monEn) := by
  unfold State.coldStart
  repeat' first
    | exact rfl
    | with_reducible assumption
    | with_reducible exact Touches.refl _ _
    | (extract_lets +onlyGivenNames s1; refine Touches.cut (x := s1) ?_ ?_; (on_goal 1 => subst s1); (on_goal 2 => (intro h1; clear_value s1)))
    | (extract_lets +onlyGivenNames v1; clear_value v1)
    | (with_reducible apply Touches.seq (State.setPwr_touches ..))
    | (with_reducible apply Touches.seq (State.set_touches ..))
    | (with_reducible apply Touches.seq (State.armRails_touches ..))
    | (with_reducible apply Touches.seq (State.monStrap_touches ..))
    | (with_reducible apply Touches.seq (State.loadBegin_touches ..))
    | (with_reducible apply Touches.seq (State.tamperErase_touches ..))
    | (with_reducible apply Touches.ite)

theorem State.porstLow_touches (s : State) : Touches 4294967270 s s.porstLow := by
  unfold State.porstLow
  repeat' first
    | exact rfl
    | with_reducible assumption
    | with_reducible exact Touches.refl _ _
    | (with_reducible apply Touches.seq (State.goOff_touches ..))
    | (with_reducible apply Touches.seq (State.setPwr_touches ..))

theorem State.coreDrop_touches (s : State) : Touches 4294967270 s s.coreDrop := by
  unfold State.coreDrop
  repeat' first
    | exact rfl
    | with_reducible assumption
    | with_reducible exact Touches.refl _ _
    | (extract_lets +onlyGivenNames v1; clear_value v1)
    | (with_reducible apply Touches.seq (State.logLose_touches ..))
    | (with_reducible apply Touches.seq (State.clr_touches ..))
    | (with_reducible apply Touches.seq (State.watchLog_touches ..))
    | (with_reducible apply Touches.seq (State.set_touches ..))
    | (with_reducible apply Touches.seq (State.goOff_touches ..))
    | (with_reducible apply Touches.ite)

theorem State.auxLost_touches (s : State) (storeMv vbatMv : Nat) : Touches 4294967270 s (s.auxLost storeMv vbatMv) := by
  unfold State.auxLost
  repeat' first
    | exact rfl
    | with_reducible assumption
    | with_reducible exact Touches.refl _ _
    | (with_reducible apply Touches.seq (State.watchLog_touches ..))
    | (with_reducible apply Touches.seq (State.goOff_touches ..))
    | (with_reducible apply Touches.iff)
    | (with_reducible apply Touches.ite)
    | (intro x; intros; try beta_reduce)

theorem State.retentionLost_touches (s : State) (mv : Nat) (auxToo : Bool) (storeMv vbatMv : Nat) : Touches 4294967270 s (s.retentionLost mv auxToo storeMv vbatMv) := by
  unfold State.retentionLost
  repeat' first
    | exact rfl
    | with_reducible assumption
    | with_reducible exact Touches.refl _ _
    | (with_reducible apply Touches.seq (State.auxLost_touches ..))
    | (with_reducible apply Touches.seq (State.watchLog_touches ..))
    | (with_reducible apply Touches.seq (State.goOff_touches ..))
    | (with_reducible apply Touches.iff)
    | (with_reducible apply Touches.ite)
    | (intro x; intros; try beta_reduce)

theorem State.watchDown_touches (s : State) (inputMv : Nat) : Touches 130 s (s.watchDown inputMv) := by
  unfold State.watchDown
  repeat' first
    | exact rfl
    | with_reducible assumption
    | with_reducible exact Touches.refl _ _
    | (with_reducible apply Touches.seq (State.clr_touches ..))
    | (with_reducible apply Touches.upd_wch)
    | (with_reducible apply Touches.ite)

theorem State.domainRegs_touches (s : State) (d : Domain) : Touches 2 s (s.domainRegs d) :=
  Touches.upd_regs rfl (fun h => putAll_wf _ _ (filter_wf _ _ h)) (Touches.refl _ _)

theorem State.domainServe_touches (s : State) (d : Domain) : Touches 545230995 s (s.domainServe d) := by
  unfold State.domainServe
  repeat' first
    | exact rfl
    | with_reducible assumption
    | with_reducible exact Touches.refl _ _
    | (extract_lets +onlyGivenNames s1; refine Touches.cut (x := s1) ?_ ?_; (on_goal 1 => subst s1); (on_goal 2 => (intro h1; clear_value s1)))
    | (extract_lets +onlyGivenNames v1; clear_value v1)
    | (with_reducible apply Touches.seq (State.laneStart_touches ..))
    | (with_reducible apply Touches.seq (State.brgStart_touches ..))
    | (with_reducible apply Touches.seq (State.smpStart_touches ..))
    | (with_reducible apply Touches.seq (State.rxcStart_touches ..))
    | (with_reducible apply Touches.seq (State.bcdStart_touches ..))
    | (with_reducible apply Touches.seq (State.lmdStart_touches ..))
    | (with_reducible apply Touches.seq (State.rxcMute_touches ..))
    | (with_reducible apply Touches.each)
    | (with_reducible apply Touches.ite)
    | (intro x; intros; try beta_reduce)
    | split

theorem State.domainSettings_touches (s : State) (d : Domain) : Touches 262210 s (s.domainSettings d) := by
  unfold State.domainSettings
  repeat' first
    | exact rfl
    | with_reducible assumption
    | with_reducible exact Touches.refl _ _
    | (extract_lets +onlyGivenNames s1; refine Touches.cut (x := s1) ?_ ?_; (on_goal 1 => subst s1); (on_goal 2 => (intro h1; clear_value s1)))
    | (extract_lets +onlyGivenNames v1; clear_value v1)
    | (with_reducible apply Touches.seq (State.domainRegs_touches ..))
    | (with_reducible apply Touches.seq (State.applySettings_touches ..))
    | (with_reducible apply Touches.seq (State.put_touches ..))
    | (with_reducible apply Touches.seq (State.setPwr_touches ..))
    | (with_reducible apply Touches.iff)
    | (with_reducible apply Touches.ite)
    | (intro x; intros; try beta_reduce)

theorem State.domainStart_touches (s : State) (d : Domain) : Touches 545231059 s (s.domainStart d) := by
  unfold State.domainStart
  repeat' first
    | exact rfl
    | with_reducible assumption
    | with_reducible exact Touches.refl _ _
    | (with_reducible apply Touches.seq (State.domainSettings_touches ..))
    | (with_reducible apply Touches.seq (State.domainServe_touches ..))
    | (with_reducible apply Touches.ite)

theorem State.domainLoss_touches (s : State) (d : Domain) : Touches 75469267 s (s.domainLoss d) := by
  unfold State.domainLoss
  repeat' first
    | exact rfl
    | with_reducible assumption
    | with_reducible exact Touches.refl _ _
    | (extract_lets +onlyGivenNames s1; refine Touches.cut (x := s1) ?_ ?_; (on_goal 1 => subst s1); (on_goal 2 => (intro h1; clear_value s1)))
    | (extract_lets +onlyGivenNames v1; clear_value v1)
    | (with_reducible apply Touches.seq (State.setPwr_touches ..))
    | (with_reducible apply Touches.seq (State.pllLol_touches ..))
    | (with_reducible apply Touches.seq (State.sourceInvalid_touches ..))
    | (with_reducible apply Touches.seq (State.domainRegs_touches ..))
    | (with_reducible apply Touches.seq (State.clr_touches ..))
    | (with_reducible apply Touches.upd_lnk)
    | (with_reducible apply Touches.upd_brg)
    | (with_reducible apply Touches.upd_smp)
    | (with_reducible apply Touches.upd_ddc)
    | (with_reducible apply Touches.upd_ctx)
    | (with_reducible apply Touches.upd_scan)
    | (with_reducible apply Touches.upd_lmdTx)
    | (with_reducible apply Touches.upd_lmdRx)
    | split

theorem State.railDown_touches (s : State) (i : Nat) : Touches 75469267 s (s.railDown i) := by
  unfold State.railDown
  repeat' first
    | exact rfl
    | with_reducible assumption
    | with_reducible exact Touches.refl _ _
    | (extract_lets +onlyGivenNames s1; refine Touches.cut (x := s1) ?_ ?_; (on_goal 1 => subst s1); (on_goal 2 => (intro h1; clear_value s1)))
    | (extract_lets +onlyGivenNames v1; clear_value v1)
    | (with_reducible apply Touches.seq (State.bankDown_touches ..))
    | (with_reducible apply Touches.seq (State.clr_touches ..))
    | (with_reducible apply Touches.seq (State.domainLoss_touches ..))
    | (with_reducible apply Touches.iff)
    | (with_reducible apply Touches.ite)
    | (intro x; intros; try beta_reduce)
    | split

theorem State.railUp_touches (s : State) (i : Nat) : Touches 545231315 s (s.railUp i) := by
  unfold State.railUp
  repeat' first
    | exact rfl
    | with_reducible assumption
    | with_reducible exact Touches.refl _ _
    | (extract_lets +onlyGivenNames s1; refine Touches.cut (x := s1) ?_ ?_; (on_goal 1 => subst s1); (on_goal 2 => (intro h1; clear_value s1)))
    | (extract_lets +onlyGivenNames v1; clear_value v1)
    | (with_reducible apply Touches.seq (State.bankUp_touches ..))
    | (with_reducible apply Touches.seq (State.setGrd_touches ..))
    | (with_reducible apply Touches.seq (State.set_touches ..))
    | (with_reducible apply Touches.seq (State.domainStart_touches ..))
    | (with_reducible apply Touches.iff)
    | (with_reducible apply Touches.ite)
    | (intro x; intros; try beta_reduce)
    | split

theorem State.railExcursion_touches (s : State) (i mv : Nat) : Touches 75469267 s (s.railExcursion i mv) := by
  unfold State.railExcursion
  repeat' first
    | exact rfl
    | with_reducible assumption
    | with_reducible exact Touches.refl _ _
    | (extract_lets +onlyGivenNames s1; refine Touches.cut (x := s1) ?_ ?_; (on_goal 1 => subst s1); (on_goal 2 => (intro h1; clear_value s1)))
    | (extract_lets +onlyGivenNames v1; clear_value v1)
    | (with_reducible apply Touches.seq (State.logLose_touches ..))
    | (with_reducible apply Touches.seq (State.railDown_touches ..))
    | (with_reducible apply Touches.seq (State.report_touches ..))
    | (with_reducible apply Touches.iff)
    | (with_reducible apply Touches.ite)
    | (intro x; intros; try beta_reduce)

theorem State.domainPowerLoss_touches (s : State) (i : Nat) : Touches 75469267 s (s.domainPowerLoss i) := by
  unfold State.domainPowerLoss
  repeat' first
    | exact rfl
    | with_reducible assumption
    | with_reducible exact Touches.refl _ _
    | (with_reducible apply Touches.seq (State.railDown_touches ..))
    | (with_reducible apply Touches.ite)

theorem State.railReturn_touches (s : State) (i : Nat) : Touches 545231315 s (s.railReturn i) := by
  unfold State.railReturn
  repeat' first
    | exact rfl
    | with_reducible assumption
    | with_reducible exact Touches.refl _ _
    | (with_reducible apply Touches.seq (State.railUp_touches ..))
    | (with_reducible apply Touches.ite)

theorem State.domainPowerUp_touches (s : State) (d : Domain) : Touches 545231315 s (s.domainPowerUp d) := by
  unfold State.domainPowerUp
  repeat' first
    | exact rfl
    | with_reducible assumption
    | with_reducible exact Touches.refl _ _
    | (with_reducible apply Touches.seq (State.railUp_touches ..))
    | (with_reducible apply Touches.ite)
    | split

theorem State.drainSweep_touches (s : State) : Touches 539049987 s s.drainSweep := by
  unfold State.drainSweep
  repeat' first
    | exact rfl
    | with_reducible assumption
    | with_reducible exact Touches.refl _ _
    | (with_reducible apply Touches.seq (State.cphDrain_touches ..))
    | (with_reducible apply Touches.seq (State.brgDrain_touches ..))
    | (with_reducible apply Touches.seq (State.lmdDrain_touches ..))

theorem State.drainStart_touches (s : State) (kind : Nat) : Touches 821020019 s (s.drainStart kind) := by
  unfold State.drainStart
  repeat' first
    | exact rfl
    | with_reducible assumption
    | with_reducible exact Touches.refl _ _
    | (extract_lets +onlyGivenNames s1; refine Touches.cut (x := s1) ?_ ?_; (on_goal 1 => subst s1); (on_goal 2 => (intro h1; clear_value s1)))
    | (extract_lets +onlyGivenNames v1; clear_value v1)
    | (with_reducible apply Touches.seq (State.drainSweep_touches ..))
    | (with_reducible apply Touches.seq (State.sptDrain_touches ..))
    | (with_reducible apply Touches.seq (State.smpDrain_touches ..))
    | (with_reducible apply Touches.seq (State.rxcDrain_touches ..))
    | (with_reducible apply Touches.seq (State.bcdDrain_touches ..))
    | (with_reducible apply Touches.seq (State.lmdWithhold_touches ..))
    | (with_reducible apply Touches.seq (State.auditAbort_touches ..))
    | (with_reducible apply Touches.seq (State.wearAbandon_touches ..))
    | (with_reducible apply Touches.seq (State.laneIdle_touches ..))
    | (with_reducible apply Touches.seq (State.portsUpdate_touches ..))
    | (with_reducible apply Touches.seq (State.setPwr_touches ..))
    | (with_reducible apply Touches.seq (State.enter_touches ..))
    | (with_reducible apply Touches.seq (State.prDrain_touches ..))
    | (with_reducible apply Touches.each)
    | (intro x; intros; try beta_reduce)

theorem State.watchTrigger_touches (s : State) (cause : Nat) : Touches 955237747 s (s.watchTrigger cause) := by
  unfold State.watchTrigger
  repeat' first
    | exact rfl
    | with_reducible assumption
    | with_reducible exact Touches.refl _ _
    | (extract_lets +onlyGivenNames s1; refine Touches.cut (x := s1) ?_ ?_; (on_goal 1 => subst s1); (on_goal 2 => (intro h1; clear_value s1)))
    | (extract_lets +onlyGivenNames v1; clear_value v1)
    | (with_reducible apply Touches.seq (State.put_touches ..))
    | (with_reducible apply Touches.seq (State.monDrain_touches ..))
    | (with_reducible apply Touches.seq (State.drainStart_touches ..))
    | (with_reducible apply Touches.seq (State.setPwr_touches ..))
    | (with_reducible apply Touches.ite)

theorem State.watchReq_touches (s : State) (w : Word) : Touches 955237747 s (s.watchReq w) := by
  unfold State.watchReq
  repeat' first
    | exact rfl
    | with_reducible assumption
    | with_reducible exact Touches.refl _ _
    | (with_reducible apply Touches.seq (State.watchTrigger_touches ..))
    | (with_reducible apply Touches.iff)
    | (intro x; intros; try beta_reduce)

theorem State.watchPin_touches (s : State) : Touches 955237747 s s.watchPin := by
  unfold State.watchPin
  repeat' first
    | exact rfl
    | with_reducible assumption
    | with_reducible exact Touches.refl _ _
    | (extract_lets +onlyGivenNames s1; refine Touches.cut (x := s1) ?_ ?_; (on_goal 1 => subst s1); (on_goal 2 => (intro h1; clear_value s1)))
    | (extract_lets +onlyGivenNames v1; clear_value v1)
    | (with_reducible apply Touches.seq (State.setPwr_touches ..))
    | (with_reducible apply Touches.seq (State.watchTrigger_touches ..))
    | (with_reducible apply Touches.iff)
    | (intro x; intros; try beta_reduce)

theorem State.vmonFall_touches (s : State) : Touches 64 s s.vmonFall := by
  unfold State.vmonFall
  repeat' first
    | exact rfl
    | with_reducible assumption
    | with_reducible exact Touches.refl _ _
    | (with_reducible apply Touches.seq (State.setPwr_touches ..))
    | (with_reducible apply Touches.iff)
    | (intro x; intros; try beta_reduce)

theorem State.vmonRise_touches (s : State) : Touches 64 s s.vmonRise := by
  unfold State.vmonRise
  repeat' first
    | exact rfl
    | with_reducible assumption
    | with_reducible exact Touches.refl _ _
    | (extract_lets +onlyGivenNames v1; clear_value v1)
    | (with_reducible apply Touches.seq (State.setPwr_touches ..))
    | (with_reducible apply Touches.seq (State.wakeCause_touches ..))
    | (with_reducible apply Touches.iff)
    | (intro x; intros; try beta_reduce)

theorem State.vmonFilter_touches (s : State) : Touches 955237747 s s.vmonFilter := by
  unfold State.vmonFilter
  repeat' first
    | exact rfl
    | with_reducible assumption
    | with_reducible exact Touches.refl _ _
    | (extract_lets +onlyGivenNames s1; refine Touches.cut (x := s1) ?_ ?_; (on_goal 1 => subst s1); (on_goal 2 => (intro h1; clear_value s1)))
    | (extract_lets +onlyGivenNames v1; clear_value v1)
    | (with_reducible apply Touches.seq (State.setPwr_touches ..))
    | (with_reducible apply Touches.seq (State.watchTrigger_touches ..))
    | (with_reducible apply Touches.iff)
    | (with_reducible apply Touches.ite)
    | (intro x; intros; try beta_reduce)

theorem State.pendingTriggers_touches (s : State) : Touches 955237747 s s.pendingTriggers := by
  unfold State.pendingTriggers
  repeat' first
    | exact rfl
    | with_reducible assumption
    | with_reducible exact Touches.refl _ _
    | (extract_lets +onlyGivenNames s1; refine Touches.cut (x := s1) ?_ ?_; (on_goal 1 => subst s1); (on_goal 2 => (intro h1; clear_value s1)))
    | (extract_lets +onlyGivenNames v1; clear_value v1)
    | (with_reducible apply Touches.seq (State.drawn_touches ..))
    | (with_reducible apply Touches.seq (State.setPwr_touches ..))
    | (with_reducible apply Touches.seq (State.watchTrigger_touches ..))
    | (with_reducible apply Touches.iff)
    | (intro x; intros; try beta_reduce)

theorem State.graceEnd_touches (s : State) : Touches 64 s s.graceEnd := by
  unfold State.graceEnd
  repeat' first
    | exact rfl
    | with_reducible assumption
    | with_reducible exact Touches.refl _ _
    | (with_reducible apply Touches.seq (State.setPwr_touches ..))
    | (with_reducible apply Touches.iff)
    | (intro x; intros; try beta_reduce)

theorem State.holdReload_touches (s : State) (golden : Bool) : Touches 64 s (s.holdReload golden) := by
  unfold State.holdReload
  repeat' first
    | exact rfl
    | with_reducible assumption
    | with_reducible exact Touches.refl _ _
    | (with_reducible apply Touches.seq (State.setPwr_touches ..))
    | (with_reducible apply Touches.iff)
    | (with_reducible apply Touches.ite)
    | (intro x; intros; try beta_reduce)

theorem State.leaveWatch_touches (s : State) : Touches 74416211 s s.leaveWatch := by
  unfold State.leaveWatch
  repeat' first
    | exact rfl
    | with_reducible assumption
    | with_reducible exact Touches.refl _ _
    | (with_reducible apply Touches.seq (State.pllRetention_touches ..))
    | (with_reducible apply Touches.seq (State.setPwr_touches ..))

theorem State.reloadAsk_touches (s : State) (golden pin : Bool) : Touches 888128883 s (s.reloadAsk golden pin) := by
  unfold State.reloadAsk
  repeat' first
    | exact rfl
    | with_reducible assumption
    | with_reducible exact Touches.refl _ _
    | (with_reducible apply Touches.seq (State.holdReload_touches ..))
    | (with_reducible apply Touches.seq (State.drainStart_touches ..))
    | (with_reducible apply Touches.seq (State.setPwr_touches ..))
    | (with_reducible apply Touches.seq (State.leaveWatch_touches ..))
    | (with_reducible apply Touches.ite)
    | split

theorem State.reloadPin_touches (s : State) : Touches 888128883 s s.reloadPin := by
  unfold State.reloadPin
  repeat' first
    | exact rfl
    | with_reducible assumption
    | with_reducible exact Touches.refl _ _
    | (with_reducible apply Touches.seq (State.setPwr_touches ..))
    | (with_reducible apply Touches.seq (State.reloadAsk_touches ..))
    | (with_reducible apply Touches.ite)

theorem State.reloadWatchPin_touches (s : State) : Touches 888128883 s s.reloadWatchPin := by
  unfold State.reloadWatchPin
  repeat' first
    | exact rfl
    | with_reducible assumption
    | with_reducible exact Touches.refl _ _
    | (with_reducible apply Touches.seq (State.setPwr_touches ..))
    | (with_reducible apply Touches.seq (State.reloadAsk_touches ..))
    | (with_reducible apply Touches.ite)

theorem State.reloadRise_touches (s : State) : Touches 64 s s.reloadRise := by
  unfold State.reloadRise
  repeat' first
    | exact rfl
    | with_reducible assumption
    | with_reducible exact Touches.refl _ _
    | (with_reducible apply Touches.seq (State.setPwr_touches ..))

theorem State.cfgCmd_touches (s : State) (w : Word) : Touches 888128883 s (s.cfgCmd w) := by
  unfold State.cfgCmd
  repeat' first
    | exact rfl
    | with_reducible assumption
    | with_reducible exact Touches.refl _ _
    | (with_reducible apply Touches.seq (State.reloadAsk_touches ..))
    | (with_reducible apply Touches.seq (State.auditStart_touches ..))
    | (with_reducible apply Touches.ite)
    | split

end Sys2Proof.Machine
end

