-- ==== Sys2Proof/Laws/TouchBus.lean ====
section
/-! SUPPORT. What each operation of Machine/Bus.lean can change: one lemma per operation, its set of parts as in Laws/Parts.lean. -/
namespace Sys2Proof.Machine

theorem State.looked_touches (s : State) (a : Nat) : Touches 16 s (s.looked a) := by
  unfold State.looked
  repeat' first
    | exact rfl
    | with_reducible assumption
    | with_reducible exact Touches.refl _ _
    | (with_reducible apply Touches.seq (State.drawn_touches ..))
    | (with_reducible apply Touches.ite)

theorem State.snapshots_touches (s : State) (m a : Nat) : Touches 4224 s (s.snapshots m a) := by
  unfold State.snapshots
  repeat' first
    | exact rfl
    | with_reducible assumption
    | with_reducible exact Touches.refl _ _
    | (with_reducible apply Touches.seq (State.wchSnap_touches ..))
    | (with_reducible apply Touches.seq (State.fixSnap_touches ..))
    | (with_reducible apply Touches.ite)

theorem State.readEffect_touches (s : State) (m a : Nat) (rc : Word) : Touches 536924306 s (s.readEffect m a rc) := by
  unfold State.readEffect
  repeat' first
    | exact rfl
    | with_reducible assumption
    | with_reducible exact Touches.refl _ _
    | (extract_lets +onlyGivenNames s1; refine Touches.cut (x := s1) ?_ ?_; (on_goal 1 => subst s1); (on_goal 2 => (intro h1; clear_value s1)))
    | (extract_lets +onlyGivenNames v1; clear_value v1)
    | (with_reducible apply Touches.seq (State.putWord_touches ..))
    | (with_reducible apply Touches.seq (State.looked_touches ..))
    | (with_reducible apply Touches.seq (State.snapshots_touches ..))
    | (with_reducible apply Touches.seq (State.txtsPop_touches ..))
    | (with_reducible apply Touches.seq (State.qPop_touches ..))
    | (with_reducible apply Touches.iff)
    | (intro x; intros; try beta_reduce)
    | split

theorem State.complete_touches (s : State) (m code : Nat) (data : Word) : Touches 513 s (s.complete m code data) := by
  unfold State.complete
  repeat' first
    | exact rfl
    | with_reducible assumption
    | with_reducible exact Touches.refl _ _
    | (with_reducible apply Touches.seq (State.emit_touches ..))
    | (with_reducible apply Touches.upd_bus)

theorem State.busError_touches (s : State) (m code : Nat) (write : Bool) (addr : Word) : Touches 2 s (s.busError m code write addr) := by
  unfold State.busError
  repeat' first
    | exact rfl
    | with_reducible assumption
    | with_reducible exact Touches.refl _ _
    | (extract_lets +onlyGivenNames s1; refine Touches.cut (x := s1) ?_ ?_; (on_goal 1 => subst s1); (on_goal 2 => (intro h1; clear_value s1)))
    | (extract_lets +onlyGivenNames v1; clear_value v1)
    | (with_reducible apply Touches.seq (State.set_touches ..))
    | (with_reducible apply Touches.seq (State.put_touches ..))
    | (with_reducible apply Touches.seq (State.putB_touches ..))
    | (with_reducible apply Touches.seq (State.putWord_touches ..))
    | (with_reducible apply Touches.ite)

theorem State.finish_touches (s : State) (m code : Nat) (write : Bool) (addr data : Word) : Touches 515 s (s.finish m code write addr data) := by
  unfold State.finish
  repeat' first
    | exact rfl
    | with_reducible assumption
    | with_reducible exact Touches.refl _ _
    | (with_reducible apply Touches.seq (State.busError_touches ..))
    | (with_reducible apply Touches.seq (State.complete_touches ..))
    | (with_reducible apply Touches.iff)
    | (intro x; intros; try beta_reduce)

theorem State.parityFail_touches (s : State) (m : Nat) (write : Bool) (addr : Word) : Touches 771 s (s.parityFail m write addr) := by
  unfold State.parityFail
  repeat' first
    | exact rfl
    | with_reducible assumption
    | with_reducible exact Touches.refl _ _
    | (with_reducible apply Touches.seq (State.report_touches ..))
    | (with_reducible apply Touches.seq (State.finish_touches ..))

theorem State.fsWindow_touches (s : State) (m : Nat) (write : Bool) (be : BitVec 4) (addr value : Word) (ack : Option Word) : Touches 515 s (s.fsWindow m write be addr value ack) := by
  unfold State.fsWindow
  repeat' first
    | exact rfl
    | with_reducible assumption
    | with_reducible exact Touches.refl _ _
    | (extract_lets +onlyGivenNames s1; refine Touches.cut (x := s1) ?_ ?_; (on_goal 1 => subst s1); (on_goal 2 => (intro h1; clear_value s1)))
    | (extract_lets +onlyGivenNames v1; clear_value v1)
    | (with_reducible apply Touches.seq (State.finish_touches ..))
    | (with_reducible apply Touches.seq (State.emit_touches ..))
    | (with_reducible apply Touches.upd_bus)
    | (with_reducible apply Touches.ite)
    | split

theorem State.fsEnd_touches (s : State) (m : Nat) : Touches 515 s (s.fsEnd m) := by
  unfold State.fsEnd
  repeat' first
    | exact rfl
    | with_reducible assumption
    | with_reducible exact Touches.refl _ _
    | (extract_lets +onlyGivenNames s1; refine Touches.cut (x := s1) ?_ ?_; (on_goal 1 => subst s1); (on_goal 2 => (intro h1; clear_value s1)))
    | (extract_lets +onlyGivenNames v1; clear_value v1)
    | (with_reducible apply Touches.seq (State.finish_touches ..))
    | (with_reducible apply Touches.upd_bus)
    | split

theorem State.fsTimeout_touches (s : State) (m : Nat) : Touches 515 s (s.fsTimeout m) := by
  unfold State.fsTimeout
  repeat' first
    | exact rfl
    | with_reducible assumption
    | with_reducible exact Touches.refl _ _
    | (with_reducible apply Touches.seq (State.set_touches ..))
    | (with_reducible apply Touches.seq (State.satInc_touches ..))
    | (with_reducible apply Touches.seq (State.fsEnd_touches ..))
    | (with_reducible apply Touches.ite)

theorem State.busReadAck_touches (s : State) (m : Nat) (flips : BitVec 4) (addr : Word) (ack : Option Word) : Touches 536925075 s (s.busReadAck m flips addr ack) := by
  unfold State.busReadAck
  repeat' first
    | exact rfl
    | with_reducible assumption
    | with_reducible exact Touches.refl _ _
    | (extract_lets +onlyGivenNames v1; clear_value v1)
    | (with_reducible apply Touches.seq (State.parityFail_touches ..))
    | (with_reducible apply Touches.seq (State.finish_touches ..))
    | (with_reducible apply Touches.seq (State.fsWindow_touches ..))
    | (with_reducible apply Touches.seq (State.readEffect_touches ..))
    | (with_reducible apply Touches.iff)
    | (with_reducible apply Touches.ite)
    | (intro x; intros; try beta_reduce)
    | split

theorem State.busRead_touches (s : State) (m : Nat) (flips : BitVec 4) (addr : Word) : Touches 536925075 s (s.busRead m flips addr) := by
  unfold State.busRead
  repeat' first
    | exact rfl
    | with_reducible assumption
    | with_reducible exact Touches.refl _ _
    | (with_reducible apply Touches.seq (State.busReadAck_touches ..))

theorem State.writeDropped_some {s : State} {a c : Nat} {cl nx : Word} {f : State → State} (h : s.writeDropped a cl nx = some (c, f))
    (x : State) : Touches 2 x (f x) := by
  unfold State.writeDropped at h
  repeat' first
    | (obtain ⟨-, rfl⟩ := Prod.mk.inj (Option.some.inj h))
    | extract_lets at h
    | split at h
    | (cases h; done)
    | exact Touches.refl _ _
    | exact Touches.mono (State.satInc_touches ..) rfl
    | exact Touches.mono (State.put_touches ..) rfl

theorem State.cphWritten_touches (s : State) (a : Nat) (w : Word) : Touches 1610637331 s (s.cphWritten a w) := by
  unfold State.cphWritten
  repeat' first
    | exact rfl
    | with_reducible assumption
    | with_reducible exact Touches.refl _ _
    | (extract_lets +onlyGivenNames v1; clear_value v1)
    | (with_reducible apply Touches.seq (State.cphZeroize_touches ..))
    | (with_reducible apply Touches.seq (State.dCmd_touches ..))
    | (with_reducible apply Touches.seq (State.qCmd_touches ..))
    | (with_reducible apply Touches.seq (State.kCmd_touches ..))
    | (with_reducible apply Touches.iff)
    | (with_reducible apply Touches.ite)
    | (intro x; intros; try beta_reduce)

theorem State.lnkWritten_touches (s : State) (a : Nat) (w old : Word) : Touches 98322 s (s.lnkWritten a w old) := by
  unfold State.lnkWritten
  repeat' first
    | exact rfl
    | with_reducible assumption
    | with_reducible exact Touches.refl _ _
    | (extract_lets +onlyGivenNames s1; refine Touches.cut (x := s1) ?_ ?_; (on_goal 1 => subst s1); (on_goal 2 => (intro h1; clear_value s1)))
    | (extract_lets +onlyGivenNames v1; clear_value v1)
    | (with_reducible apply Touches.seq (State.drawn_touches ..))
    | (with_reducible apply Touches.seq (State.satInc_touches ..))
    | (with_reducible apply Touches.seq (State.lanesRestart_touches ..))
    | (with_reducible apply Touches.seq (State.portsUpdate_touches ..))
    | (with_reducible apply Touches.seq (State.txtsKeep_touches ..))
    | (with_reducible apply Touches.seq (State.prbsClear_touches ..))
    | (with_reducible apply Touches.seq (State.eyeStart_touches ..))
    | (with_reducible apply Touches.iff)
    | (with_reducible apply Touches.ite)
    | (intro x; intros; try beta_reduce)

theorem State.rxcWritten_touches (s : State) (a : Nat) (w old : Word) : Touches 537657362 s (s.rxcWritten a w old) := by
  unfold State.rxcWritten
  repeat' first
    | exact rfl
    | with_reducible assumption
    | with_reducible exact Touches.refl _ _
    | (extract_lets +onlyGivenNames v1; clear_value v1)
    | (with_reducible apply State.withGen_touches)
    | (with_reducible apply Touches.seq (State.ddcEnable_touches ..))
    | (with_reducible apply Touches.seq (State.ddcCfgWritten_touches ..))
    | (with_reducible apply Touches.seq (State.ownerWritten_touches ..))
    | (with_reducible apply Touches.seq (State.putDd_touches ..))
    | (with_reducible apply Touches.seq (State.ddcCmd_touches ..))
    | (with_reducible apply Touches.each)
    | (with_reducible apply Touches.ite)
    | (intro x; intros; try beta_reduce)

theorem State.pinWritten_touches (s : State) (a : Nat) (old : Word) : Touches 2 s (s.pinWritten a old) := by
  unfold State.pinWritten
  repeat' first
    | exact rfl
    | with_reducible assumption
    | with_reducible exact Touches.refl _ _
    | (extract_lets +onlyGivenNames v1; clear_value v1)
    | (with_reducible apply Touches.seq (State.pinModeWritten_touches ..))
    | (with_reducible apply Touches.seq (State.pinRecompute_touches ..))
    | (with_reducible apply Touches.ite)

theorem State.written_touches (s : State) (a : Nat) (w old : Word) : Touches 2129657331 s (s.written a w old) := by
  unfold State.written
  repeat' first
    | exact rfl
    | with_reducible assumption
    | with_reducible exact Touches.refl _ _
    | (extract_lets +onlyGivenNames v1; clear_value v1)
    | (with_reducible apply Touches.seq (State.watchReq_touches ..))
    | (with_reducible apply Touches.seq (State.pendingTriggers_touches ..))
    | (with_reducible apply Touches.seq (State.wearCmd_touches ..))
    | (with_reducible apply Touches.seq (State.cfgCmd_touches ..))
    | (with_reducible apply Touches.seq (State.nvmWrite_touches ..))
    | (with_reducible apply Touches.seq (State.fuseCmd_touches ..))
    | (with_reducible apply Touches.seq (State.prWrite_touches ..))
    | (with_reducible apply Touches.seq (State.grdCmd_touches ..))
    | (with_reducible apply Touches.seq (State.pllCmd_touches ..))
    | (with_reducible apply Touches.seq (State.pllCfgWritten_touches ..))
    | (with_reducible apply Touches.seq (State.fixSet_touches ..))
    | (with_reducible apply Touches.seq (State.ptpCmd_touches ..))
    | (with_reducible apply Touches.seq (State.fixCtxWritten_touches ..))
    | (with_reducible apply Touches.seq (State.fixCfgWritten_touches ..))
    | (with_reducible apply Touches.seq (State.lnkWritten_touches ..))
    | (with_reducible apply Touches.seq (State.rekeyStart_touches ..))
    | (with_reducible apply Touches.seq (State.admitId_touches ..))
    | (with_reducible apply Touches.seq (State.brgElect_touches ..))
    | (with_reducible apply Touches.seq (State.portsUpdate_touches ..))
    | (with_reducible apply Touches.seq (State.cphWritten_touches ..))
    | (with_reducible apply Touches.seq (State.soundCfg_touches ..))
    | (with_reducible apply Touches.seq (State.attChanged_touches ..))
    | (with_reducible apply Touches.seq (State.smpCmd_touches ..))
    | (with_reducible apply Touches.seq (State.rxcWritten_touches ..))
    | (with_reducible apply Touches.seq (State.bcdCfgWritten_touches ..))
    | (with_reducible apply Touches.seq (State.ctxTune_touches ..))
    | (with_reducible apply Touches.seq (State.ctxFreqWritten_touches ..))
    | (with_reducible apply Touches.seq (State.lmdCmd_touches ..))
    | (with_reducible apply Touches.seq (State.rxWritten_touches ..))
    | (with_reducible apply Touches.seq (State.sptCmd_touches ..))
    | (with_reducible apply Touches.seq (State.pinWritten_touches ..))
    | (with_reducible apply Touches.seq (State.indCommand_touches ..))
    | (with_reducible apply Touches.seq (State.apWritten_touches ..))
    | (with_reducible apply Touches.seq (State.monCtrl_touches ..))
    | (with_reducible apply Touches.seq (State.clearPinned_touches ..))
    | (with_reducible apply Touches.seq (State.clearLog_touches ..))
    | (with_reducible apply Touches.upd_wch)
    | (with_reducible apply Touches.each)
    | (with_reducible apply Touches.iff)
    | (with_reducible apply Touches.ite)
    | (intro x; intros; try beta_reduce)
    | split

theorem State.store_touches (s : State) (r : RegRow) (a : Nat) (sm closed v : Word) : Touches 2129657331 s (s.store r a sm closed v) := by
  unfold State.store
  repeat' first
    | exact rfl
    | with_reducible assumption
    | with_reducible exact Touches.refl _ _
    | (extract_lets +onlyGivenNames v1; clear_value v1)
    | (with_reducible apply Touches.seq (State.coefPut_touches ..))
    | (with_reducible apply Touches.seq (State.putWord_touches ..))
    | (with_reducible apply Touches.seq (State.written_touches ..))
    | (with_reducible apply Touches.ite)
    | split

theorem State.liveWrite_touches (s : State) (r : RegRow) (m a : Nat) (sm : Word) (addr v : Word) : Touches 2129657843 s (s.liveWrite r m a sm addr v) := by
  unfold State.liveWrite
  repeat' first
    | exact rfl
    | with_reducible assumption
    | with_reducible exact Touches.refl _ _
    | (extract_lets +onlyGivenNames f1; refine Touches.cutF (f := f1) ?_ ?_; (on_goal 1 => subst f1); (on_goal 2 => (intro h1; clear_value f1)))
    | (with_reducible refine Touches.bindF (by assumption) ?_)
    | (extract_lets +onlyGivenNames v1; clear_value v1)
    | (with_reducible refine Touches.seq (State.writeDropped_some (by assumption) _) ?_ ?_)
    | (with_reducible apply Touches.seq (State.satInc_touches ..))
    | (with_reducible apply Touches.seq (State.finish_touches ..))
    | (with_reducible apply Touches.seq (State.store_touches ..))
    | (with_reducible apply Touches.iff)
    | (with_reducible apply Touches.ite)
    | (intro x; intros; try beta_reduce)
    | split

theorem State.busWriteAck_touches (s : State) (acc : Acc) (addr v : Word) (ack : Option Word) : Touches 2129657843 s (s.busWriteAck acc addr v ack) := by
  unfold State.busWriteAck
  repeat' first
    | exact rfl
    | with_reducible assumption
    | with_reducible exact Touches.refl _ _
    | (extract_lets +onlyGivenNames v1; clear_value v1)
    | (with_reducible apply Touches.seq (State.parityFail_touches ..))
    | (with_reducible apply Touches.seq (State.finish_touches ..))
    | (with_reducible apply Touches.seq (State.fsWindow_touches ..))
    | (with_reducible apply Touches.seq (State.written_touches ..))
    | (with_reducible apply Touches.seq (State.liveWrite_touches ..))
    | (with_reducible apply Touches.ite)
    | split

theorem State.busWrite_touches (s : State) (acc : Acc) (addr v : Word) : Touches 2129657843 s (s.busWrite acc addr v) := by
  unfold State.busWrite
  repeat' first
    | exact rfl
    | with_reducible assumption
    | with_reducible exact Touches.refl _ _
    | (with_reducible apply Touches.seq (State.busWriteAck_touches ..))

theorem State.regWrite_touches (s : State) (acc : Acc) (a : Nat) (v : Word) : Touches 2129657843 s (s.regWrite acc a v) := by
  unfold State.regWrite
  repeat' first
    | exact rfl
    | with_reducible assumption
    | with_reducible exact Touches.refl _ _
    | (with_reducible apply Touches.seq (State.busWrite_touches ..))

end Sys2Proof.Machine
end

