-- ==== Sys2Proof/Laws/TouchBinPort.lean ====
section
/-! SUPPORT. What each operation of Machine/BinPort.lean can change: one lemma per operation, its set of parts as in Laws/Parts.lean. -/
namespace Sys2Proof.Machine

theorem State.latchGroup_touches (s : State) (a : BitVec 16) : Touches 33554432 s (s.latchGroup a) := by
  unfold State.latchGroup
  repeat' first
    | exact rfl
    | with_reducible assumption
    | with_reducible exact Touches.refl _ _
    | (extract_lets +onlyGivenNames v1)
    | (extract_lets +onlyGivenNames s1; refine Touches.cut (x := s1) ?_ ?_; (on_goal 1 => subst s1); (on_goal 2 => (intro h1; clear_value s1)))
    | (extract_lets +onlyGivenNames v1; clear_value v1)
    | ((with_reducible apply Touches.upd_bin); (on_goal 2 => first | exact id | exact fun _ => rfl))
    | (with_reducible apply Touches.ite)
    | (intro x; intros; try beta_reduce)
    | split

theorem State.bnRead_touches (s : State) (a : BitVec 16) (ecc : Nat) : Touches 33554707 s (s.bnRead a ecc) := by
  unfold State.bnRead
  repeat' first
    | exact rfl
    | with_reducible assumption
    | with_reducible exact Touches.refl _ _
    | (extract_lets +onlyGivenNames s1; refine Touches.cut (x := s1) ?_ ?_; (on_goal 1 => subst s1); (on_goal 2 => (intro h1; clear_value s1)))
    | (extract_lets +onlyGivenNames v1; clear_value v1)
    | (with_reducible apply Touches.seq (State.drawn_touches ..))
    | (with_reducible apply Touches.seq (State.emit_touches ..))
    | (with_reducible apply Touches.seq (State.shadowCheck_touches ..))
    | (with_reducible apply Touches.seq (State.latchGroup_touches ..))
    | (with_reducible apply Touches.iff)
    | (with_reducible apply Touches.ite)
    | (intro x; intros; try beta_reduce)

theorem State.page1Write_touches (s : State) (a : BitVec 16) (d : Word) (be : BitVec 4) : Touches 2129657843 s (s.page1Write a d be) := by
  unfold State.page1Write
  repeat' first
    | exact rfl
    | with_reducible assumption
    | with_reducible exact Touches.refl _ _
    | (extract_lets +onlyGivenNames v1; clear_value v1)
    | (with_reducible apply Touches.seq (State.written_touches ..))
    | (with_reducible apply Touches.seq (State.finish_touches ..))
    | (with_reducible apply Touches.seq (State.liveWrite_touches ..))
    | (with_reducible apply Touches.ite)
    | split

theorem State.bnPage1_touches (s : State) (a : BitVec 16) (d : Word) (be par : BitVec 4) : Touches 2129657843 s (s.bnPage1 a d be par) := by
  unfold State.bnPage1
  repeat' first
    | exact rfl
    | with_reducible assumption
    | with_reducible exact Touches.refl _ _
    | (with_reducible apply State.bnChecked_touches)
    | (with_reducible apply Touches.seq (State.page1Write_touches ..))
    | (with_reducible apply Touches.ite)
    | (intro x; intros; try beta_reduce)

theorem State.bnAperture_touches (s : State) (a : BitVec 16) (d : Word) (be par : BitVec 4) : Touches 33554690 s (s.bnAperture a d be par) := by
  unfold State.bnAperture
  repeat' first
    | exact rfl
    | with_reducible assumption
    | with_reducible exact Touches.refl _ _
    | (with_reducible apply State.bnChecked_touches)
    | (with_reducible apply Touches.seq (State.apWrite_touches ..))
    | (with_reducible apply Touches.ite)
    | (intro x; intros; try beta_reduce)

theorem State.queueError_touches (s : State) (addr : Word) : Touches 2 s (s.queueError addr) := by
  unfold State.queueError
  repeat' first
    | exact rfl
    | with_reducible assumption
    | with_reducible exact Touches.refl _ _
    | (with_reducible apply Touches.seq (State.binError_touches ..))
    | (with_reducible apply Touches.iff)
    | (intro x; intros; try beta_reduce)

theorem State.binDrain_touches (s : State) : Touches 2129657843 s s.binDrain := by
  unfold State.binDrain
  repeat' first
    | exact rfl
    | with_reducible assumption
    | with_reducible exact Touches.refl _ _
    | (extract_lets +onlyGivenNames s1; refine Touches.cut (x := s1) ?_ ?_; (on_goal 1 => subst s1); (on_goal 2 => (intro h1; clear_value s1)))
    | (extract_lets +onlyGivenNames v1; clear_value v1)
    | (with_reducible apply Touches.seq (State.busWrite_touches ..))
    | (with_reducible apply Touches.seq (State.putBinQueue_touches ..))
    | (with_reducible apply Touches.seq (State.queueError_touches ..))
    | (with_reducible apply Touches.ite)
    | split

theorem State.indLeave_touches (s : State) (read : Bool) : Touches 33554434 s (s.indLeave read) := by
  unfold State.indLeave
  repeat' first
    | exact rfl
    | with_reducible assumption
    | with_reducible exact Touches.refl _ _
    | (extract_lets +onlyGivenNames s1; refine Touches.cut (x := s1) ?_ ?_; (on_goal 1 => subst s1); (on_goal 2 => (intro h1; clear_value s1)))
    | (extract_lets +onlyGivenNames v1; clear_value v1)
    | (with_reducible apply Touches.seq (State.putBinQueue_touches ..))
    | (with_reducible apply Touches.seq (State.indDone_touches ..))

theorem State.indAnswered_touches (s : State) (read : Bool) : Touches 33554434 s (s.indAnswered read) := by
  unfold State.indAnswered
  repeat' first
    | exact rfl
    | with_reducible assumption
    | with_reducible exact Touches.refl _ _
    | (with_reducible apply Touches.seq (State.indLeave_touches ..))
    | (with_reducible apply Touches.ite)

theorem State.indComplete_touches (s : State) (ack : Option Word) : Touches 2129657843 s (s.indComplete ack) := by
  unfold State.indComplete
  repeat' first
    | exact rfl
    | with_reducible assumption
    | with_reducible exact Touches.refl _ _
    | (with_reducible apply Touches.seq (State.busReadAck_touches ..))
    | (with_reducible apply Touches.seq (State.indAnswered_touches ..))
    | (with_reducible apply Touches.seq (State.busWriteAck_touches ..))
    | (with_reducible apply Touches.ite)
    | split

theorem State.indTimedOut_touches (s : State) : Touches 33554434 s s.indTimedOut := by
  unfold State.indTimedOut
  repeat' first
    | exact rfl
    | with_reducible assumption
    | with_reducible exact Touches.refl _ _
    | (with_reducible apply Touches.seq (State.indLeave_touches ..))
    | split

theorem State.fsTimedOut_touches (s : State) (m : Nat) : Touches 33554947 s (s.fsTimedOut m) := by
  unfold State.fsTimedOut
  repeat' first
    | exact rfl
    | with_reducible assumption
    | with_reducible exact Touches.refl _ _
    | (with_reducible apply Touches.seq (State.fsTimeout_touches ..))
    | (with_reducible apply Touches.seq (State.indTimedOut_touches ..))
    | (with_reducible apply Touches.iff)
    | (with_reducible apply Touches.ite)
    | (intro x; intros; try beta_reduce)

theorem State.binFlush_touches (s : State) (n : Nat) : Touches 2129657843 s (s.binFlush n) := by
  induction n generalizing s with
  | zero => exact Touches.refl _ _
  | succ n ih =>
    unfold State.binFlush
    repeat' first
      | exact rfl
      | with_reducible assumption
      | with_reducible exact Touches.refl _ _
      | (extract_lets +onlyGivenNames s1; refine Touches.cut (x := s1) ?_ ?_; (on_goal 1 => subst s1); (on_goal 2 => (intro h1; clear_value s1)))
      | (extract_lets +onlyGivenNames v1; clear_value v1)
      | (with_reducible apply Touches.seq (State.binDrain_touches ..))
      | (with_reducible apply Touches.seq (State.fsEnd_touches ..))
      | (with_reducible apply Touches.seq (State.indTimedOut_touches ..))
      | (with_reducible apply Touches.seq (State.indComplete_touches ..))
      | (with_reducible apply Touches.iff)
      | (intro x; intros; try beta_reduce)
      | split
      | (with_reducible apply Touches.seq (ih ..))

theorem State.bnMirror_touches (s : State) (word : Nat) (d : Word) (be par : BitVec 4) (room : Bool) : Touches 536871170 s (s.bnMirror word d be par room) := by
  unfold State.bnMirror
  repeat' first
    | exact rfl
    | with_reducible assumption
    | with_reducible exact Touches.refl _ _
    | (with_reducible apply State.bnChecked_touches)
    | (with_reducible apply Touches.seq (State.mirrorHost_touches ..))
    | (with_reducible apply Touches.ite)
    | (intro x; intros; try beta_reduce)

end Sys2Proof.Machine
end

