-- ==== Sys2Proof/Laws/TouchMonCmd.lean ====
section
/-! SUPPORT. What each operation of Machine/MonCmd.lean can change: one lemma per operation, its set of parts as in Laws/Parts.lean. -/
namespace Sys2Proof.Machine

theorem State.monFabric_touches (s : State) : Touches 531 s s.monFabric := by
  unfold State.monFabric
  repeat' first
    | exact rfl
    | with_reducible assumption
    | with_reducible exact Touches.refl _ _
    | (extract_lets +onlyGivenNames s1; refine Touches.cut (x := s1) ?_ ?_; (on_goal 1 => subst s1); (on_goal 2 => (intro h1; clear_value s1)))
    | (extract_lets +onlyGivenNames v1; clear_value v1)
    | (with_reducible apply Touches.seq (State.drawn_touches ..))
    | (with_reducible apply Touches.seq (State.fsTimeout_touches ..))
    | (with_reducible apply Touches.seq (State.finish_touches ..))
    | (with_reducible apply Touches.upd_bus)
    | (with_reducible apply Touches.ite)
    | split

theorem State.monWrite_touches (s : State) (a : Nat) (v : Word) : Touches 2129657843 s (s.monWrite a v) := by
  unfold State.monWrite
  repeat' first
    | exact rfl
    | with_reducible assumption
    | with_reducible exact Touches.refl _ _
    | (with_reducible apply Touches.seq (State.regWrite_touches ..))
    | (with_reducible apply Touches.seq (State.monFabric_touches ..))

theorem State.monRead_touches (s : State) (a : Nat) : Touches 536925075 s (s.monRead a).2 := by
  unfold State.monRead
  repeat' first
    | exact rfl
    | with_reducible assumption
    | with_reducible exact Touches.refl _ _
    | (extract_lets +onlyGivenNames s1; refine Touches.cut (x := s1) ?_ ?_; (on_goal 1 => subst s1); (on_goal 2 => (intro h1; clear_value s1)))
    | (extract_lets +onlyGivenNames v1; clear_value v1)
    | (with_reducible apply Touches.seq (State.busRead_touches ..))
    | (with_reducible apply Touches.seq (State.monFabric_touches ..))
    | (with_reducible apply Touches.seq (State.looked_touches ..))
    | (with_reducible apply Touches.seq (State.snapshots_touches ..))
    | (with_reducible apply Touches.iff)
    | (with_reducible apply Touches.ite)
    | (intro x; intros; try beta_reduce)
    | split

theorem State.monList_touches (s : State) (as : List Nat) : Touches 536925075 s (s.monList as) := by
  unfold State.monList
  repeat' first
    | exact rfl
    | with_reducible assumption
    | with_reducible exact Touches.refl _ _
    | (with_reducible apply Touches.seq (State.monRead_touches ..))
    | (with_reducible apply Touches.seq (State.say_touches ..))
    | (with_reducible apply Touches.each)
    | (intro x; intros; try beta_reduce)

theorem State.monDone_touches (s : State) : Touches 134217987 s s.monDone := by
  unfold State.monDone
  repeat' first
    | exact rfl
    | with_reducible assumption
    | with_reducible exact Touches.refl _ _
    | (with_reducible apply Touches.seq (State.monSlotCheck_touches ..))
    | (with_reducible apply Touches.seq (State.monOk_touches ..))

theorem State.monWrites_touches (s : State) (xs : List (Nat × Word)) : Touches 2129657843 s (s.monWrites xs) := by
  induction xs generalizing s with
  | nil => exact Touches.mono (State.monDone_touches ..) rfl
  | cons x xs ih =>
    obtain ⟨a, v⟩ := x
    unfold State.monWrites
    repeat' first
      | exact rfl
      | with_reducible assumption
      | with_reducible exact Touches.refl _ _
      | (extract_lets +onlyGivenNames s1; refine Touches.cut (x := s1) ?_ ?_; (on_goal 1 => subst s1); (on_goal 2 => (intro h1; clear_value s1)))
      | (with_reducible apply Touches.seq (State.monDone_touches ..))
      | (with_reducible apply Touches.seq (State.monWrite_touches ..))
      | (with_reducible apply Touches.seq (State.monErr_touches ..))
      | (with_reducible apply Touches.ite)
      | split
      | (with_reducible apply Touches.seq (ih ..))

theorem State.monHelp_touches (s : State) (cmd : Option (List Byte)) : Touches 134217987 s (s.monHelp cmd) := by
  unfold State.monHelp
  repeat' first
    | exact rfl
    | with_reducible assumption
    | with_reducible exact Touches.refl _ _
    | (with_reducible apply Touches.seq (State.say_touches ..))
    | (with_reducible apply Touches.seq (State.monOk_touches ..))
    | (with_reducible apply Touches.seq (State.monErr_touches ..))
    | (with_reducible apply Touches.each)
    | (intro x; intros; try beta_reduce)
    | split

theorem State.monStatus_touches (s : State) : Touches 671142803 s s.monStatus := by
  unfold State.monStatus
  repeat' first
    | exact rfl
    | with_reducible assumption
    | with_reducible exact Touches.refl _ _
    | (with_reducible apply Touches.seq (State.monList_touches ..))
    | (with_reducible apply Touches.seq (State.say_touches ..))
    | (with_reducible apply Touches.seq (State.monOk_touches ..))

theorem State.monPeek_touches (s : State) (a n : Nat) : Touches 671142803 s (s.monPeek a n) := by
  unfold State.monPeek
  repeat' first
    | exact rfl
    | with_reducible assumption
    | with_reducible exact Touches.refl _ _
    | (with_reducible apply Touches.seq (State.monErr_touches ..))
    | (with_reducible apply Touches.seq (State.monRefuse_touches ..))
    | (with_reducible apply Touches.seq (State.monList_touches ..))
    | (with_reducible apply Touches.seq (State.monOk_touches ..))
    | (with_reducible apply Touches.ite)

theorem State.monFault_touches (s : State) : Touches 671142803 s s.monFault := by
  unfold State.monFault
  repeat' first
    | exact rfl
    | with_reducible assumption
    | with_reducible exact Touches.refl _ _
    | (extract_lets +onlyGivenNames s1; refine Touches.cut (x := s1) ?_ ?_; (on_goal 1 => subst s1); (on_goal 2 => (intro h1; clear_value s1)))
    | (extract_lets +onlyGivenNames v1; clear_value v1)
    | (with_reducible apply Touches.seq (State.monList_touches ..))
    | (with_reducible apply Touches.seq (State.say_touches ..))
    | (with_reducible apply Touches.seq (State.monOk_touches ..))
    | (with_reducible apply Touches.each)
    | (intro x; intros; try beta_reduce)

theorem State.logLine_touches (s : State) (i : Nat) : Touches 1 s (s.logLine i) := by
  unfold State.logLine
  repeat' first
    | exact rfl
    | with_reducible assumption
    | with_reducible exact Touches.refl _ _
    | (extract_lets +onlyGivenNames v1; clear_value v1)
    | (with_reducible apply Touches.seq (State.emit_touches ..))
    | (with_reducible apply Touches.seq (State.say_touches ..))

theorem State.monLogCmd_touches (s : State) (pinned : Bool) (n : Nat) : Touches 134217987 s (s.monLogCmd pinned n) := by
  unfold State.monLogCmd
  repeat' first
    | exact rfl
    | with_reducible assumption
    | with_reducible exact Touches.refl _ _
    | (extract_lets +onlyGivenNames v1; clear_value v1)
    | (with_reducible apply Touches.seq (State.logLine_touches ..))
    | (with_reducible apply Touches.seq (State.monOk_touches ..))
    | (with_reducible apply Touches.seq (State.monErr_touches ..))
    | (with_reducible apply Touches.each)
    | (with_reducible apply Touches.ite)
    | (intro x; intros; try beta_reduce)

theorem State.monLanes_touches (s : State) (lane : Option Nat) : Touches 671142803 s (s.monLanes lane) := by
  unfold State.monLanes
  repeat' first
    | exact rfl
    | with_reducible assumption
    | with_reducible exact Touches.refl _ _
    | (extract_lets +onlyGivenNames v1; clear_value v1)
    | (with_reducible apply Touches.seq (State.monErr_touches ..))
    | (with_reducible apply Touches.seq (State.monList_touches ..))
    | (with_reducible apply Touches.seq (State.monOk_touches ..))
    | (with_reducible apply Touches.ite)
    | split

theorem State.monSound_touches (s : State) (set : Option Nat) : Touches 671142803 s (s.monSound set) := by
  unfold State.monSound
  repeat' first
    | exact rfl
    | with_reducible assumption
    | with_reducible exact Touches.refl _ _
    | (with_reducible apply Touches.seq (State.monList_touches ..))
    | (with_reducible apply Touches.seq (State.monOk_touches ..))
    | (with_reducible apply Touches.seq (State.monErr_touches ..))
    | (with_reducible apply Touches.ite)
    | split

theorem State.monBands_touches (s : State) (n : Nat) : Touches 134217987 s (s.monBands n) := by
  unfold State.monBands
  repeat' first
    | exact rfl
    | with_reducible assumption
    | with_reducible exact Touches.refl _ _
    | (extract_lets +onlyGivenNames v1; clear_value v1)
    | (with_reducible apply Touches.seq (State.monErr_touches ..))
    | (with_reducible apply Touches.seq (State.say_touches ..))
    | (with_reducible apply Touches.seq (State.monOk_touches ..))
    | (with_reducible apply Touches.each)
    | (with_reducible apply Touches.ite)
    | (intro x; intros; try beta_reduce)

theorem State.monFix_touches (s : State) : Touches 671142803 s s.monFix := by
  unfold State.monFix
  repeat' first
    | exact rfl
    | with_reducible assumption
    | with_reducible exact Touches.refl _ _
    | (with_reducible apply Touches.seq (State.monList_touches ..))
    | (with_reducible apply Touches.seq (State.monOk_touches ..))

theorem State.monImage_touches (s : State) (frames : Bool) : Touches 671142803 s (s.monImage frames) := by
  unfold State.monImage
  repeat' first
    | exact rfl
    | with_reducible assumption
    | with_reducible exact Touches.refl _ _
    | (with_reducible apply Touches.seq (State.monRefuse_touches ..))
    | (with_reducible apply Touches.seq (State.monList_touches ..))
    | (with_reducible apply Touches.seq (State.monOk_touches ..))
    | (with_reducible apply Touches.ite)

theorem State.monPartial_touches (s : State) : Touches 671142803 s s.monPartial := by
  unfold State.monPartial
  repeat' first
    | exact rfl
    | with_reducible assumption
    | with_reducible exact Touches.refl _ _
    | (with_reducible apply Touches.seq (State.monList_touches ..))
    | (with_reducible apply Touches.seq (State.monOk_touches ..))

theorem State.monSlots_touches (s : State) (slot : Option Nat) (key : Bool) : Touches 671142803 s (s.monSlots slot key) := by
  unfold State.monSlots
  repeat' first
    | exact rfl
    | with_reducible assumption
    | with_reducible exact Touches.refl _ _
    | (with_reducible apply Touches.seq (State.monRefuse_touches ..))
    | (with_reducible apply Touches.seq (State.monErr_touches ..))
    | (with_reducible apply Touches.seq (State.monList_touches ..))
    | (with_reducible apply Touches.seq (State.monOk_touches ..))
    | (with_reducible apply Touches.ite)
    | split

theorem State.monPoke_touches (s : State) (a : Nat) (v : Word) : Touches 2129657843 s (s.monPoke a v) := by
  unfold State.monPoke
  repeat' first
    | exact rfl
    | with_reducible assumption
    | with_reducible exact Touches.refl _ _
    | (with_reducible apply Touches.seq (State.monErr_touches ..))
    | (with_reducible apply Touches.seq (State.monWrites_touches ..))
    | (with_reducible apply Touches.ite)

theorem State.monFill_touches (s : State) (a n : Nat) (v : Word) : Touches 2129657843 s (s.monFill a n v) := by
  unfold State.monFill
  repeat' first
    | exact rfl
    | with_reducible assumption
    | with_reducible exact Touches.refl _ _
    | (with_reducible apply Touches.seq (State.monErr_touches ..))
    | (with_reducible apply Touches.seq (State.monRefuse_touches ..))
    | (with_reducible apply Touches.seq (State.monWrites_touches ..))
    | (with_reducible apply Touches.ite)

theorem State.monFaultClear_touches (s : State) : Touches 2129657843 s s.monFaultClear := by
  unfold State.monFaultClear
  repeat' first
    | exact rfl
    | with_reducible assumption
    | with_reducible exact Touches.refl _ _
    | (with_reducible apply Touches.seq (State.monWrites_touches ..))

theorem State.monSoundApply_touches (s : State) (k : Nat) (c : CoefSet) : Touches 2129657843 s (s.monSoundApply k c) := by
  unfold State.monSoundApply
  repeat' first
    | exact rfl
    | with_reducible assumption
    | with_reducible exact Touches.refl _ _
    | (with_reducible apply Touches.seq (State.monErr_touches ..))
    | (with_reducible apply Touches.seq (State.monWrites_touches ..))
    | (with_reducible apply Touches.ite)

theorem State.monSoundForce_touches (s : State) (g : Nat) : Touches 2129657843 s (s.monSoundForce g) := by
  unfold State.monSoundForce
  repeat' first
    | exact rfl
    | with_reducible assumption
    | with_reducible exact Touches.refl _ _
    | (with_reducible apply Touches.seq (State.monErr_touches ..))
    | (with_reducible apply Touches.seq (State.monWrites_touches ..))
    | (with_reducible apply Touches.ite)

theorem State.monBandsWrite_touches (s : State) (n e code : Nat) (fmin fmax : Word) : Touches 2129657843 s (s.monBandsWrite n e code fmin fmax) := by
  unfold State.monBandsWrite
  repeat' first
    | exact rfl
    | with_reducible assumption
    | with_reducible exact Touches.refl _ _
    | (with_reducible apply Touches.seq (State.monErr_touches ..))
    | (with_reducible apply Touches.seq (State.monWrites_touches ..))
    | (with_reducible apply Touches.ite)

theorem State.monImageAudit_touches (s : State) (golden : Bool) : Touches 2129657843 s (s.monImageAudit golden) := by
  unfold State.monImageAudit
  repeat' first
    | exact rfl
    | with_reducible assumption
    | with_reducible exact Touches.refl _ _
    | (with_reducible apply Touches.seq (State.monWrites_touches ..))

theorem State.monImageReload_touches (s : State) (golden : Bool) : Touches 2129657843 s (s.monImageReload golden) := by
  unfold State.monImageReload
  repeat' first
    | exact rfl
    | with_reducible assumption
    | with_reducible exact Touches.refl _ _
    | (with_reducible apply Touches.seq (State.monWrites_touches ..))

theorem State.monPartialLoad_touches (s : State) (region bank : Nat) : Touches 2129657843 s (s.monPartialLoad region bank) := by
  unfold State.monPartialLoad
  repeat' first
    | exact rfl
    | with_reducible assumption
    | with_reducible exact Touches.refl _ _
    | (with_reducible apply Touches.seq (State.monErr_touches ..))
    | (with_reducible apply Touches.seq (State.monWrites_touches ..))
    | (with_reducible apply Touches.ite)

theorem State.monPartialCancel_touches (s : State) : Touches 2129657843 s s.monPartialCancel := by
  unfold State.monPartialCancel
  repeat' first
    | exact rfl
    | with_reducible assumption
    | with_reducible exact Touches.refl _ _
    | (with_reducible apply Touches.seq (State.monWrites_touches ..))

theorem State.monSlotsErase_touches (s : State) : Touches 1744855315 s s.monSlotsErase := by
  unfold State.monSlotsErase
  repeat' first
    | exact rfl
    | with_reducible assumption
    | with_reducible exact Touches.refl _ _
    | (with_reducible apply Touches.seq (State.slotErase_touches ..))
    | (with_reducible apply Touches.seq (State.monDone_touches ..))

theorem State.monSlotsZero_touches (s : State) : Touches 2129657843 s s.monSlotsZero := by
  unfold State.monSlotsZero
  repeat' first
    | exact rfl
    | with_reducible assumption
    | with_reducible exact Touches.refl _ _
    | (with_reducible apply Touches.seq (State.monWrites_touches ..))

theorem State.eyePoint_touches (s : State) (lane dwell : Nat) (ps : List (Int × Int)) : Touches 2129657843 s (s.eyePoint lane dwell ps) := by
  unfold State.eyePoint
  repeat' first
    | exact rfl
    | with_reducible assumption
    | with_reducible exact Touches.refl _ _
    | (extract_lets +onlyGivenNames f1; refine Touches.cutF (f := f1) ?_ ?_; (on_goal 1 => subst f1); (on_goal 2 => (intro h1; clear_value f1)))
    | (with_reducible refine Touches.bindF (by assumption) ?_)
    | (extract_lets +onlyGivenNames s1; refine Touches.cut (x := s1) ?_ ?_; (on_goal 1 => subst s1); (on_goal 2 => (intro h1; clear_value s1)))
    | (extract_lets +onlyGivenNames v1; clear_value v1)
    | (with_reducible apply Touches.seq (State.setMon_touches ..))
    | (with_reducible apply Touches.seq (State.monOk_touches ..))
    | (with_reducible apply Touches.seq (State.monErr_touches ..))
    | (with_reducible apply Touches.seq (State.monWrite_touches ..))
    | (with_reducible apply Touches.ite)
    | (intro x; intros; try beta_reduce)
    | split

theorem State.monEye_touches (s : State) (lane : Nat) (p0 p1 v0 v1 : Int) (dwell : Nat) : Touches 2129657843 s (s.monEye lane p0 p1 v0 v1 dwell) := by
  unfold State.monEye
  repeat' first
    | exact rfl
    | with_reducible assumption
    | with_reducible exact Touches.refl _ _
    | (extract_lets +onlyGivenNames v1; clear_value v1)
    | (with_reducible apply Touches.seq (State.monErr_touches ..))
    | (with_reducible apply Touches.seq (State.eyePoint_touches ..))
    | (with_reducible apply Touches.ite)

theorem State.eyeScanned_touches (s : State) (lane errors : Nat) : Touches 2129657843 s (s.eyeScanned lane errors) := by
  unfold State.eyeScanned
  repeat' first
    | exact rfl
    | with_reducible assumption
    | with_reducible exact Touches.refl _ _
    | (extract_lets +onlyGivenNames s1; refine Touches.cut (x := s1) ?_ ?_; (on_goal 1 => subst s1); (on_goal 2 => (intro h1; clear_value s1)))
    | (extract_lets +onlyGivenNames v1; clear_value v1)
    | (with_reducible apply Touches.seq (State.eyeDone_touches ..))
    | (with_reducible apply Touches.seq (State.say_touches ..))
    | (with_reducible apply Touches.seq (State.eyePoint_touches ..))
    | (with_reducible apply Touches.ite)
    | split

theorem State.commandLine_touches (s : State) (line : List Byte) (framing : Nat) : Touches 134217987 s (s.commandLine line framing) := by
  unfold State.commandLine
  repeat' first
    | exact rfl
    | with_reducible assumption
    | with_reducible exact Touches.refl _ _
    | (extract_lets +onlyGivenNames s1; refine Touches.cut (x := s1) ?_ ?_; (on_goal 1 => subst s1); (on_goal 2 => (intro h1; clear_value s1)))
    | (extract_lets +onlyGivenNames v1; clear_value v1)
    | (with_reducible apply Touches.seq (State.monDiscard_touches ..))
    | (with_reducible apply Touches.seq (State.emit_touches ..))
    | (with_reducible apply Touches.seq (State.monErr_touches ..))
    | (with_reducible apply Touches.seq (State.monPrompt_touches ..))
    | (with_reducible apply Touches.seq (State.modInc_touches ..))
    | (with_reducible apply Touches.iff)
    | (with_reducible apply Touches.ite)
    | (intro x; intros; try beta_reduce)
    | split

end Sys2Proof.Machine
end

