-- ==== Sys2Proof/Laws/TouchRel.lean ====
section
/-! SUPPORT. What each operation of Machine/Rel.lean can change: one lemma per operation, its set of parts as in Laws/Parts.lean. -/
namespace Sys2Proof.Machine

theorem State.watchDrainEnd_touches (s : State) (us : Nat) : Touches 1869610355 s (s.watchDrainEnd us) := by
  unfold State.watchDrainEnd
  repeat' first
    | exact rfl
    | with_reducible assumption
    | with_reducible exact Touches.refl _ _
    | (intro l; refine FabState.wf_of ?_ ?_ <;> first | with_reducible exact id | with_reducible exact cellWrite_wf _ _ _ | with_reducible exact cellErase_wf _ _ | with_reducible exact filter_wf _ _ | with_reducible exact cellWriteAll_wf _ _ _ _ | exact fun h => cellWrite_wf _ _ _ (cellWrite_wf _ _ _ h) | (split <;> with_reducible exact id) | exact fun _ => rfl)
    | (extract_lets +onlyGivenNames v1)
    | (extract_lets +onlyGivenNames s1; refine Touches.cut (x := s1) ?_ ?_; (on_goal 1 => subst s1); (on_goal 2 => (intro h1; clear_value s1)))
    | (extract_lets +onlyGivenNames v1; clear_value v1)
    | (with_reducible apply Touches.seq (State.setPwr_touches ..))
    | (with_reducible apply Touches.seq (State.put_touches ..))
    | (with_reducible apply Touches.seq (State.satInc_touches ..))
    | (with_reducible apply Touches.seq (State.drainSweep_touches ..))
    | (with_reducible apply Touches.seq (State.pinRetention_touches ..))
    | (with_reducible apply Touches.seq (State.nvmCut_touches ..))
    | (with_reducible apply Touches.seq (State.fixStop_touches ..))
    | (with_reducible apply Touches.seq (State.pllRetention_touches ..))
    | (with_reducible apply Touches.seq (State.monRetention_touches ..))
    | (with_reducible apply Touches.seq (State.brgRetention_touches ..))
    | (with_reducible apply Touches.seq (State.bcdRetention_touches ..))
    | (with_reducible apply Touches.seq (State.lmdRetention_touches ..))
    | (with_reducible apply Touches.seq (State.enter_touches ..))
    | (with_reducible apply Touches.seq (State.leaveWatch_touches ..))
    | (with_reducible refine Touches.seq (State.setFab_touches ?_) ?_ ?_)
    | (with_reducible apply Touches.upd_fix)
    | ((with_reducible apply Touches.upd_bin); (on_goal 2 => first | exact id | exact fun _ => rfl))
    | (with_reducible apply Touches.iff)
    | (with_reducible apply Touches.ite)
    | (intro x; intros; try beta_reduce)
    | split

theorem State.wakeEvent_touches (s : State) (vmonRose pinRose watchN : Bool) : Touches 66 s (s.wakeEvent vmonRose pinRose watchN) := by
  unfold State.wakeEvent
  repeat' first
    | exact rfl
    | with_reducible assumption
    | with_reducible exact Touches.refl _ _
    | (extract_lets +onlyGivenNames s1; refine Touches.cut (x := s1) ?_ ?_; (on_goal 1 => subst s1); (on_goal 2 => (intro h1; clear_value s1)))
    | (extract_lets +onlyGivenNames v1; clear_value v1)
    | (with_reducible apply Touches.seq (State.vmonRise_touches ..))
    | (with_reducible apply Touches.seq (State.setPwr_touches ..))
    | (with_reducible apply Touches.seq (State.wakeCause_touches ..))
    | (with_reducible apply Touches.seq (State.put_touches ..))
    | (with_reducible apply Touches.iff)
    | (with_reducible apply Touches.ite)
    | (intro x; intros; try beta_reduce)

theorem State.wakeNext_touches (s : State) (p : Nat) : Touches 64 s (s.wakeNext p) := by
  unfold State.wakeNext
  repeat' first
    | exact rfl
    | with_reducible assumption
    | with_reducible exact Touches.refl _ _
    | (with_reducible apply Touches.seq (State.setPwr_touches ..))

theorem State.wakeCoreSwitched_touches (s : State) : Touches 1610637523 s s.wakeCoreSwitched := by
  unfold State.wakeCoreSwitched
  repeat' first
    | exact rfl
    | with_reducible assumption
    | with_reducible exact Touches.refl _ _
    | (with_reducible apply Touches.seq (State.wakeNext_touches ..))
    | (with_reducible apply Touches.seq (State.tamperErase_touches ..))
    | (with_reducible apply Touches.iff)
    | (intro x; intros; try beta_reduce)

theorem State.wakeRefsQualified_touches (s : State) : Touches 67141698 s s.wakeRefsQualified := by
  unfold State.wakeRefsQualified
  repeat' first
    | exact rfl
    | with_reducible assumption
    | with_reducible exact Touches.refl _ _
    | (with_reducible apply Touches.seq (State.wakeNext_touches ..))
    | (with_reducible apply Touches.seq (State.pllWake_touches ..))
    | (with_reducible apply Touches.iff)
    | (intro x; intros; try beta_reduce)

theorem State.wakePllsLocked_touches (s : State) : Touches 64 s s.wakePllsLocked := by
  unfold State.wakePllsLocked
  repeat' first
    | exact rfl
    | with_reducible assumption
    | with_reducible exact Touches.refl _ _
    | (with_reducible apply Touches.seq (State.wakeNext_touches ..))
    | (with_reducible apply Touches.iff)
    | (intro x; intros; try beta_reduce)

theorem State.wakeScrubDone_touches (s : State) : Touches 64 s s.wakeScrubDone := by
  unfold State.wakeScrubDone
  repeat' first
    | exact rfl
    | with_reducible assumption
    | with_reducible exact Touches.refl _ _
    | (with_reducible apply Touches.seq (State.wakeNext_touches ..))
    | (with_reducible apply Touches.iff)
    | (intro x; intros; try beta_reduce)

theorem State.wakePhaseLate_touches (s : State) (copy us : Nat) : Touches 338 s (s.wakePhaseLate copy us) := by
  unfold State.wakePhaseLate
  repeat' first
    | exact rfl
    | with_reducible assumption
    | with_reducible exact Touches.refl _ _
    | (extract_lets +onlyGivenNames f1; refine Touches.cutF (f := f1) ?_ ?_; (on_goal 1 => subst f1); (on_goal 2 => (intro h1; clear_value f1)))
    | (with_reducible refine Touches.bindF (by assumption) ?_)
    | (extract_lets +onlyGivenNames v1; clear_value v1)
    | (with_reducible apply Touches.seq (State.set_touches ..))
    | (with_reducible apply Touches.seq (State.setPwr_touches ..))
    | (with_reducible apply Touches.seq (State.report_touches ..))
    | (with_reducible apply Touches.seq (State.drawn_touches ..))
    | (with_reducible apply Touches.ite)
    | (intro x; intros; try beta_reduce)
    | split

theorem State.lateFaults_touches (s : State) : Touches 386 s s.lateFaults := by
  unfold State.lateFaults
  repeat' first
    | exact rfl
    | with_reducible assumption
    | with_reducible exact Touches.refl _ _
    | (extract_lets +onlyGivenNames s1; refine Touches.cut (x := s1) ?_ ?_; (on_goal 1 => subst s1); (on_goal 2 => (intro h1; clear_value s1)))
    | (extract_lets +onlyGivenNames v1; clear_value v1)
    | (with_reducible apply Touches.seq (State.report_touches ..))
    | (with_reducible apply Touches.upd_wch)
    | (with_reducible apply Touches.each)
    | (intro x; intros; try beta_reduce)

theorem State.fabricClockRelease_touches (s : State) (us : Nat) : Touches 2079325683 s (s.fabricClockRelease us) := by
  unfold State.fabricClockRelease
  repeat' first
    | exact rfl
    | with_reducible assumption
    | with_reducible exact Touches.refl _ _
    | (extract_lets +onlyGivenNames s1; refine Touches.cut (x := s1) ?_ ?_; (on_goal 1 => subst s1); (on_goal 2 => (intro h1; clear_value s1)))
    | (extract_lets +onlyGivenNames v1; clear_value v1)
    | (with_reducible apply Touches.seq (State.enter_touches ..))
    | (with_reducible apply Touches.seq (State.setPwr_touches ..))
    | (with_reducible apply Touches.seq (State.put_touches ..))
    | (with_reducible apply Touches.seq (State.streamsEmpty_touches ..))
    | (with_reducible apply Touches.seq (State.sweepsStart_touches ..))
    | (with_reducible apply Touches.seq (State.prWake_touches ..))
    | (with_reducible apply Touches.seq (State.scrubStart_touches ..))
    | (with_reducible apply Touches.seq (State.seedDevice_touches ..))
    | (with_reducible apply Touches.seq (State.domainSettings_touches ..))
    | (with_reducible apply Touches.seq (State.laneStart_touches ..))
    | (with_reducible apply Touches.seq (State.brgStart_touches ..))
    | (with_reducible apply Touches.seq (State.smpResume_touches ..))
    | (with_reducible apply Touches.seq (State.rxcRestart_touches ..))
    | (with_reducible apply Touches.seq (State.rxcMute_touches ..))
    | (with_reducible apply Touches.seq (State.bcdResume_touches ..))
    | (with_reducible apply Touches.seq (State.lmdStart_touches ..))
    | (with_reducible apply Touches.seq (State.sptRelease_touches ..))
    | (with_reducible apply Touches.seq (State.monWake_touches ..))
    | (with_reducible apply Touches.seq (State.pinRelease_touches ..))
    | (with_reducible apply Touches.seq (State.apAllFilled_touches ..))
    | (with_reducible apply Touches.seq (State.lateFaults_touches ..))
    | (with_reducible apply Touches.seq (State.pendingTriggers_touches ..))
    | (with_reducible apply Touches.each)
    | (with_reducible apply Touches.iff)
    | (with_reducible apply Touches.ite)
    | (intro x; intros; try beta_reduce)

theorem State.fsFlush_touches (s : State) : Touches 33554947 s s.fsFlush := by
  unfold State.fsFlush
  repeat' first
    | exact rfl
    | with_reducible assumption
    | with_reducible exact Touches.refl _ _
    | (with_reducible apply Touches.seq (State.fsEnd_touches ..))
    | (with_reducible apply Touches.seq (State.indTimedOut_touches ..))
    | (with_reducible apply Touches.each)
    | (with_reducible apply Touches.iff)
    | (intro x; intros; try beta_reduce)

theorem State.reloadClear_touches (s : State) : Touches 2146435063 s s.reloadClear := by
  unfold State.reloadClear
  repeat' first
    | exact rfl
    | with_reducible assumption
    | with_reducible exact Touches.refl _ _
    | (extract_lets +onlyGivenNames s1; refine Touches.cut (x := s1) ?_ ?_; (on_goal 1 => subst s1); (on_goal 2 => (intro h1; clear_value s1)))
    | (extract_lets +onlyGivenNames v1; clear_value v1)
    | (with_reducible apply Touches.seq (State.monReload_touches ..))
    | (with_reducible apply Touches.seq (State.prStop_touches ..))
    | (with_reducible apply Touches.seq (State.auditAbort_touches ..))
    | (with_reducible apply Touches.seq (State.nvmCut_touches ..))
    | (with_reducible apply Touches.seq (State.clr_touches ..))
    | (with_reducible apply Touches.seq (State.fabReload_touches ..))
    | (with_reducible apply Touches.seq (State.streamsEmpty_touches ..))
    | (with_reducible apply Touches.seq (State.fsFlush_touches ..))
    | (with_reducible apply Touches.seq (State.binFlush_touches ..))
    | (with_reducible apply Touches.seq (State.grdReload_touches ..))
    | (with_reducible apply Touches.seq (State.laneIdle_touches ..))
    | (with_reducible apply Touches.seq (State.portsUpdate_touches ..))
    | (with_reducible apply Touches.seq (State.landfallClear_touches ..))
    | (with_reducible apply Touches.seq (State.pinHighZ_touches ..))
    | (with_reducible apply Touches.seq (State.sptUnload_touches ..))
    | (with_reducible apply Touches.seq (State.apReset_touches ..))
    | (with_reducible apply Touches.seq (State.mirrorClear_touches ..))
    | (with_reducible apply Touches.seq (State.fixStop_touches ..))
    | (with_reducible apply Touches.seq (State.wearAbandon_touches ..))
    | (with_reducible apply Touches.seq (State.cphZeroize_touches ..))
    | (with_reducible apply Touches.seq (State.imageClear_touches ..))
    | (with_reducible apply Touches.seq (State.ddcEnable_touches ..))
    | (with_reducible apply Touches.seq (State.setLoad_touches ..))
    | (with_reducible apply Touches.seq (State.setPwr_touches ..))
    | (with_reducible apply Touches.each)
    | (intro x; intros; try beta_reduce)

theorem State.reloadBegin_touches (s : State) (mode : BitVec 3) : Touches 2146435063 s (s.reloadBegin mode) := by
  unfold State.reloadBegin
  repeat' first
    | exact rfl
    | with_reducible assumption
    | with_reducible exact Touches.refl _ _
    | (extract_lets +onlyGivenNames s1; refine Touches.cut (x := s1) ?_ ?_; (on_goal 1 => subst s1); (on_goal 2 => (intro h1; clear_value s1)))
    | (extract_lets +onlyGivenNames v1; clear_value v1)
    | (with_reducible apply Touches.seq (State.reloadClear_touches ..))
    | (with_reducible apply Touches.seq (State.setPwr_touches ..))
    | (with_reducible apply Touches.seq (State.monStrap_touches ..))
    | (with_reducible apply Touches.seq (State.loadBegin_touches ..))
    | (with_reducible apply Touches.seq (State.monPrompt_touches ..))
    | (with_reducible apply Touches.iff)
    | (intro x; intros; try beta_reduce)

theorem State.reloadStart_touches (s : State) (mode : BitVec 3) : Touches 2146435063 s (s.reloadStart mode) := by
  unfold State.reloadStart
  repeat' first
    | exact rfl
    | with_reducible assumption
    | with_reducible exact Touches.refl _ _
    | (extract_lets +onlyGivenNames v1; clear_value v1)
    | (with_reducible apply Touches.seq (State.reloadBegin_touches ..))
    | (with_reducible apply Touches.ite)

theorem State.coldLoadStart_touches (s : State) (mode : BitVec 3) : Touches 2146435063 s (s.coldLoadStart mode) := by
  unfold State.coldLoadStart
  repeat' first
    | exact rfl
    | with_reducible assumption
    | with_reducible exact Touches.refl _ _
    | (intro l; refine FabState.wf_of ?_ ?_ <;> first | with_reducible exact id | with_reducible exact cellWrite_wf _ _ _ | with_reducible exact cellErase_wf _ _ | with_reducible exact filter_wf _ _ | with_reducible exact cellWriteAll_wf _ _ _ _ | exact fun h => cellWrite_wf _ _ _ (cellWrite_wf _ _ _ h) | (split <;> with_reducible exact id) | exact fun _ => rfl)
    | (extract_lets +onlyGivenNames s1; refine Touches.cut (x := s1) ?_ ?_; (on_goal 1 => subst s1); (on_goal 2 => (intro h1; clear_value s1)))
    | (extract_lets +onlyGivenNames v1; clear_value v1)
    | (with_reducible apply Touches.seq (State.set_touches ..))
    | (with_reducible apply Touches.seq (State.reloadBegin_touches ..))
    | (with_reducible apply Touches.seq (State.tamperErase_touches ..))
    | (with_reducible refine Touches.seq (State.setFab_touches ?_) ?_ ?_)
    | (with_reducible apply Touches.ite)

theorem State.fabricRelease_touches (s : State) (us : Nat) : Touches 2046819827 s (s.fabricRelease us) := by
  unfold State.fabricRelease
  repeat' first
    | exact rfl
    | with_reducible assumption
    | with_reducible exact Touches.refl _ _
    | (extract_lets +onlyGivenNames s1; refine Touches.cut (x := s1) ?_ ?_; (on_goal 1 => subst s1); (on_goal 2 => (intro h1; clear_value s1)))
    | (extract_lets +onlyGivenNames v1; clear_value v1)
    | (with_reducible apply Touches.seq (State.enter_touches ..))
    | (with_reducible apply Touches.seq (State.put_touches ..))
    | (with_reducible apply Touches.seq (State.set_touches ..))
    | (with_reducible apply Touches.seq (State.putB_touches ..))
    | (with_reducible apply Touches.seq (State.setPwr_touches ..))
    | (with_reducible apply Touches.seq (State.setLoad_touches ..))
    | (with_reducible apply Touches.seq (State.streamsEmpty_touches ..))
    | (with_reducible apply Touches.seq (State.fabRelease_touches ..))
    | (with_reducible apply Touches.seq (State.seedDevice_touches ..))
    | (with_reducible apply Touches.seq (State.pinRelease_touches ..))
    | (with_reducible apply Touches.seq (State.sptBegin_touches ..))
    | (with_reducible apply Touches.seq (State.sptRelease_touches ..))
    | (with_reducible apply Touches.seq (State.domainServe_touches ..))
    | (with_reducible apply Touches.seq (State.landfallStart_touches ..))
    | (with_reducible apply Touches.seq (State.monRelease_touches ..))
    | (with_reducible apply Touches.seq (State.armRails_touches ..))
    | (with_reducible apply Touches.seq (State.lateFaults_touches ..))
    | (with_reducible apply Touches.seq (State.pendingTriggers_touches ..))
    | (with_reducible apply Touches.iff)
    | (with_reducible apply Touches.ite)
    | (intro x; intros; try beta_reduce)

end Sys2Proof.Machine
end

