-- ==== Sys2Proof/Laws/TouchAct.lean ====
section
/-! SUPPORT. What each operation of Machine/Act.lean can change: one lemma per operation, its set of parts as in Laws/Parts.lean. -/
namespace Sys2Proof.Machine

theorem State.refresh_touches (s : State) : Touches 679297299 s s.refresh := by
  unfold State.refresh
  repeat' first
    | exact rfl
    | with_reducible assumption
    | with_reducible exact Touches.refl _ _
    | (extract_lets +onlyGivenNames s1; refine Touches.cut (x := s1) ?_ ?_; (on_goal 1 => subst s1); (on_goal 2 => (intro h1; clear_value s1)))
    | (extract_lets +onlyGivenNames v1; clear_value v1)
    | (with_reducible apply Touches.seq (State.monSlotCheck_touches ..))
    | (with_reducible apply Touches.seq (State.monChallenge_touches ..))
    | (with_reducible apply Touches.seq (State.monBaud_touches ..))
    | (with_reducible apply Touches.seq (State.drainSweep_touches ..))
    | (with_reducible apply Touches.seq (State.bcdRefresh_touches ..))
    | (with_reducible apply Touches.seq (State.scanAssign_touches ..))
    | (with_reducible apply Touches.seq (State.lmdRefresh_touches ..))
    | (with_reducible apply Touches.iff)
    | (intro x; intros; try beta_reduce)

theorem State.onWatch_touches {T : Nat} {r s : State} {f : State → State} (h : Touches T r s) (hT : T ||| 0 = T)
    (hf : ∀ x, Touches T r x → Touches T r (f x)) : Touches T r (s.onWatch f) := by
  exact Touches.iff h hf

end Sys2Proof.Machine
end

