-- ==== Sys2Proof/Laws/TouchPortCmds.lean ====
section
/-! SUPPORT. What each operation of Machine/PortCmds.lean can change: one lemma per operation, its set of parts as in Laws/Parts.lean. -/
namespace Sys2Proof.Machine

theorem State.sptAsk_touches (s : State) (a : Option Acc) (n : Nat) (w : Word) (start cancel stop : Bool) : Touches 2129657843 s (s.sptAsk a n w start cancel stop) := by
  unfold State.sptAsk
  repeat' first
    | exact rfl
    | with_reducible assumption
    | with_reducible exact Touches.refl _ _
    | (with_reducible apply Touches.seq (State.regWrite_touches ..))
    | (with_reducible apply Touches.seq (State.sptCmd_touches ..))
    | (with_reducible apply Touches.iff)
    | (intro x; intros; try beta_reduce)
    | split

end Sys2Proof.Machine
end

