-- ==== Sys2Proof/Laws/TouchIdle.lean ====
section
/-! SUPPORT. What each operation of Machine/Idle.lean can change: one lemma per operation, its set of parts as in Laws/Parts.lean. -/
namespace Sys2Proof.Machine

theorem State.portEdge_touches (s : State) (p : Nat) : Touches 536870929 s (s.portEdge p) := by
  unfold State.portEdge
  repeat' first
    | exact rfl
    | with_reducible assumption
    | with_reducible exact Touches.refl _ _
    | (extract_lets +onlyGivenNames v1; clear_value v1)
    | (with_reducible apply Touches.seq (State.drawn_touches ..))
    | (with_reducible apply Touches.seq (State.streamGrant_touches ..))
    | (with_reducible apply Touches.seq (State.streamOut_touches ..))
    | (with_reducible apply Touches.iff)
    | (with_reducible apply Touches.ite)
    | (intro x; intros; try beta_reduce)

theorem State.portEdges_touches (s : State) (p : Nat) (n : Nat) : Touches 536870929 s (s.portEdges p n) := by
  induction n generalizing s with
  | zero => exact Touches.refl _ _
  | succ n ih =>
    unfold State.portEdges
    repeat' first
      | exact rfl
      | with_reducible assumption
      | with_reducible exact Touches.refl _ _
      | (with_reducible apply Touches.seq (State.portEdge_touches ..))
      | (with_reducible apply Touches.seq (ih ..))

theorem State.streamTick_touches (s : State) : Touches 536887313 s s.streamTick := by
  unfold State.streamTick
  repeat' first
    | exact rfl
    | with_reducible assumption
    | with_reducible exact Touches.refl _ _
    | (with_reducible apply Touches.seq (State.drawn_touches ..))
    | (with_reducible apply Touches.seq (State.portEdges_touches ..))
    | (with_reducible apply Touches.seq (State.cphPost_touches ..))
    | (with_reducible apply Touches.each)
    | (intro x; intros; try beta_reduce)

theorem State.dacInstant_touches (s : State) : Touches 536870931 s s.dacInstant := by
  unfold State.dacInstant
  repeat' first
    | exact rfl
    | with_reducible assumption
    | with_reducible exact Touches.refl _ _
    | (with_reducible apply Touches.seq (State.drawn_touches ..))
    | (with_reducible apply Touches.seq (State.dacBeat_touches ..))
    | (with_reducible apply Touches.seq (State.dacUnderrun_touches ..))
    | (with_reducible apply Touches.ite)

theorem State.dacInstants_touches (s : State) (n : Nat) : Touches 536870931 s (s.dacInstants n) := by
  induction n generalizing s with
  | zero => exact Touches.refl _ _
  | succ n ih =>
    unfold State.dacInstants
    repeat' first
      | exact rfl
      | with_reducible assumption
      | with_reducible exact Touches.refl _ _
      | (with_reducible apply Touches.seq (State.dacInstant_touches ..))
      | (with_reducible apply Touches.seq (ih ..))

theorem State.signalTick_touches (s : State) : Touches 541327379 s s.signalTick := by
  unfold State.signalTick
  repeat' first
    | exact rfl
    | with_reducible assumption
    | with_reducible exact Touches.refl _ _
    | (extract_lets +onlyGivenNames s1; refine Touches.cut (x := s1) ?_ ?_; (on_goal 1 => subst s1); (on_goal 2 => (intro h1; clear_value s1)))
    | (extract_lets +onlyGivenNames v1; clear_value v1)
    | (with_reducible apply Touches.seq (State.ddcSome_touches ..))
    | (with_reducible apply Touches.seq (State.drawn_touches ..))
    | (with_reducible apply Touches.seq (State.rxPass_touches ..))
    | (with_reducible apply Touches.seq (State.rxBlockEnd_touches ..))
    | (with_reducible apply Touches.seq (State.dacInstants_touches ..))
    | (with_reducible apply Touches.each)
    | (with_reducible apply Touches.iff)
    | (intro x; intros; try beta_reduce)

theorem State.laneTick_touches (s : State) (n : Nat) : Touches 32785 s (s.laneTick n) := by
  unfold State.laneTick
  repeat' first
    | exact rfl
    | with_reducible assumption
    | with_reducible exact Touches.refl _ _
    | (with_reducible apply Touches.seq (State.trainingSend_touches ..))
    | (with_reducible apply Touches.seq (State.drawn_touches ..))
    | (with_reducible apply Touches.seq (State.prbsSend_touches ..))

theorem State.fabricTick_touches (s : State) : Touches 1073752338 s s.fabricTick := by
  unfold State.fabricTick
  repeat' first
    | exact rfl
    | with_reducible assumption
    | with_reducible exact Touches.refl _ _
    | (extract_lets +onlyGivenNames s1; refine Touches.cut (x := s1) ?_ ?_; (on_goal 1 => subst s1); (on_goal 2 => (intro h1; clear_value s1)))
    | (extract_lets +onlyGivenNames v1; clear_value v1)
    | (with_reducible apply Touches.seq (State.drawn_touches ..))
    | (with_reducible apply Touches.seq (State.logicRun_touches ..))
    | (with_reducible apply Touches.seq (State.scrubSlots_touches ..))

theorem State.idle_touches (s : State) : Touches 3762616731 s s.idle := by
  unfold State.idle
  repeat' first
    | exact rfl
    | with_reducible assumption
    | with_reducible exact Touches.refl _ _
    | (extract_lets +onlyGivenNames s1; refine Touches.cut (x := s1) ?_ ?_; (on_goal 1 => subst s1); (on_goal 2 => (intro h1; clear_value s1)))
    | (extract_lets +onlyGivenNames v1; clear_value v1)
    | (with_reducible apply Touches.seq (State.watchTick_touches ..))
    | (with_reducible apply Touches.seq (State.timerTick_touches ..))
    | (with_reducible apply Touches.seq (State.drawn_touches ..))
    | (with_reducible apply Touches.seq (State.deviceRun_touches ..))
    | (with_reducible apply Touches.seq (State.fabricTick_touches ..))
    | (with_reducible apply Touches.seq (State.streamTick_touches ..))
    | (with_reducible apply Touches.seq (State.signalTick_touches ..))
    | (with_reducible apply Touches.seq (State.laneTick_touches ..))
    | (with_reducible apply Touches.seq (State.settle_touches ..))
    | (with_reducible apply Touches.upd_out)
    | (with_reducible apply Touches.upd_now)
    | (with_reducible apply Touches.each)
    | (with_reducible apply Touches.iff)
    | (intro x; intros; try beta_reduce)

end Sys2Proof.Machine
end

