-- ==== Sys2Proof/Laws/Next0.lean ====
section
/-! SUPPORT. Each command of BearingCmds, BinnacleCmds, BroadcastCmds, BusCmds, CipherCmds answers a next state, and what it can change: one lemma per command. -/
namespace Sys2Proof.Machine

/-- A command within its block answers a next state. -/
theorem act_next {T : Nat} {s : State} {f : State → State} (hT : T ||| 2147483651 = T) (hf : ∀ x, Touches T s x → Touches T s (f x)) :
    ∃ t, act f s = .next t ∧ Touches T s t :=
  ⟨_, rfl, Touches.seq (U := 2147483651) (Touches.mono (State.settle_touches _) rfl) hT (hf _ (Touches.seq (U := 2147483651)
    (Touches.upd_out rfl (Touches.refl _ _) _) hT (Touches.refl _ _)))⟩

/-- A command other blocks react to answers a next state. -/
theorem actAll_next {T : Nat} {s : State} {f : State → State} (hT : T ||| 2826780947 = T) (hf : ∀ x, Touches T s x → Touches T s (f x)) :
    ∃ t, actAll f s = .next t ∧ Touches T s t :=
  ⟨_, rfl, Touches.seq (U := 2826780947) (Touches.mono (State.settle_touches _) rfl) hT
    (Touches.seq (U := 2826780947) (Touches.mono (State.refresh_touches _) rfl) hT (hf _ (Touches.seq (U := 2826780947)
    (Touches.upd_out rfl (Touches.refl _ _) _) hT (Touches.refl _ _))))⟩

theorem execHelloFrame_next (s : State) (port : Fin 4) (second : Bool) (frame : List Byte) :
    ∃ o, execHelloFrame port second frame s = .next o ∧ Touches 2826785171 s o :=
  actAll_next rfl fun s h => by
    repeat' first
      | exact rfl
      | with_reducible assumption
      | with_reducible exact Touches.refl _ _
      | (with_reducible apply Touches.seq (State.brgFrameIn_touches ..))

theorem execPortKeyed_next (s : State) (port : Fin 4) :
    ∃ o, execPortKeyed port s = .next o ∧ Touches 2826780947 s o :=
  actAll_next rfl fun s h => by
    repeat' first
      | exact rfl
      | with_reducible assumption
      | with_reducible exact Touches.refl _ _
      | (with_reducible apply Touches.seq (State.portKeyed_touches ..))

theorem execRekeyTrigger_next (s : State) (port : Fin 4) :
    ∃ o, execRekeyTrigger port s = .next o ∧ Touches 2826780947 s o :=
  actAll_next rfl fun s h => by
    repeat' first
      | exact rfl
      | with_reducible assumption
      | with_reducible exact Touches.refl _ _
      | (with_reducible apply Touches.seq (State.rekeyTrigger_touches ..))

theorem execBrgRekey_next (s : State) (a : Acc) (key : BitVec 16) (ports : BitVec 4) :
    ∃ o, execBrgRekey a key ports s = .next o ∧ Touches 4278190067 s o :=
  actAll_next rfl fun s h => by
    repeat' first
      | exact rfl
      | with_reducible assumption
      | with_reducible exact Touches.refl _ _
      | (with_reducible apply Touches.seq (State.regWrite_touches ..))

theorem execRekeyFrame_next (s : State) (port : Fin 4) (second : Bool) (frame : List Byte) :
    ∃ o, execRekeyFrame port second frame s = .next o ∧ Touches 2826785171 s o :=
  actAll_next rfl fun s h => by
    repeat' first
      | exact rfl
      | with_reducible assumption
      | with_reducible exact Touches.refl _ _
      | (with_reducible apply Touches.seq (State.brgFrameIn_touches ..))

theorem execRekeyAckFrame_next (s : State) (port : Fin 4) (second : Bool) (frame : List Byte) :
    ∃ o, execRekeyAckFrame port second frame s = .next o ∧ Touches 2826785171 s o :=
  actAll_next rfl fun s h => by
    repeat' first
      | exact rfl
      | with_reducible assumption
      | with_reducible exact Touches.refl _ _
      | (with_reducible apply Touches.seq (State.brgFrameIn_touches ..))

theorem execOldSlotErase_next (s : State) (port : Fin 4) :
    ∃ o, execOldSlotErase port s = .next o ∧ Touches 3900530963 s o :=
  actAll_next rfl fun s h => by
    repeat' first
      | exact rfl
      | with_reducible assumption
      | with_reducible exact Touches.refl _ _
      | (with_reducible apply Touches.seq (State.oldSlotErase_touches ..))

theorem execRekeyRetry_next (s : State) (port : Fin 4) :
    ∃ o, execRekeyRetry port s = .next o ∧ Touches 2826813715 s o :=
  actAll_next rfl fun s h => by
    repeat' first
      | exact rfl
      | with_reducible assumption
      | with_reducible exact Touches.refl _ _
      | (with_reducible apply Touches.seq (State.rekeyRetry_touches ..))

theorem execBrgDataFrame_next (s : State) (port : Fin 4) (second : Bool) (frame : List Byte) (aborted room : Bool) :
    ∃ o, execBrgDataFrame port second frame aborted room s = .next o ∧ Touches 2826785171 s o :=
  actAll_next rfl fun s h => by
    repeat' first
      | exact rfl
      | with_reducible assumption
      | with_reducible exact Touches.refl _ _
      | (with_reducible apply Touches.seq (State.brgFrameIn_touches ..))

theorem execBrgTxSubmit_next (s : State) (cls : BrgClass) (dst : Fin 64) (bcast : Bool) (channel : Fin 16) (tag : Byte) (payload : List Byte) :
    ∃ o, execBrgTxSubmit cls dst bcast channel tag payload s = .next o ∧ Touches 2826780947 s o :=
  actAll_next rfl fun s h => by
    repeat' first
      | exact rfl
      | with_reducible assumption
      | with_reducible exact Touches.refl _ _
      | (with_reducible apply Touches.seq (State.brgSubmit_touches ..))
      | (with_reducible apply Touches.iff)
      | (intro x; intros; try beta_reduce)

theorem execBrgTxStart_next (s : State) (port : Fin 4) :
    ∃ o, execBrgTxStart port s = .next o ∧ Touches 2826813715 s o :=
  actAll_next rfl fun s h => by
    repeat' first
      | exact rfl
      | with_reducible assumption
      | with_reducible exact Touches.refl _ _
      | (with_reducible apply Touches.seq (State.brgTxStart_touches ..))

theorem execBrgCancel_next (s : State) (cls : BrgClass) (tag : Byte) :
    ∃ o, execBrgCancel cls tag s = .next o ∧ Touches 2826780947 s o :=
  actAll_next rfl fun s h => by
    repeat' first
      | exact rfl
      | with_reducible assumption
      | with_reducible exact Touches.refl _ _
      | (with_reducible apply Touches.seq (State.brgCancel_touches ..))
      | (with_reducible apply Touches.iff)
      | (intro x; intros; try beta_reduce)

theorem execTimeReqTimer_next (s : State) (port : Fin 4) :
    ∃ o, execTimeReqTimer port s = .next o ∧ Touches 2826780947 s o :=
  actAll_next rfl fun s h => by
    repeat' first
      | exact rfl
      | with_reducible assumption
      | with_reducible exact Touches.refl _ _
      | (with_reducible apply Touches.seq (State.timeReqTimer_touches ..))

theorem execTimeReqFrame_next (s : State) (port : Fin 4) (second : Bool) (frame : List Byte) :
    ∃ o, execTimeReqFrame port second frame s = .next o ∧ Touches 2826785171 s o :=
  actAll_next rfl fun s h => by
    repeat' first
      | exact rfl
      | with_reducible assumption
      | with_reducible exact Touches.refl _ _
      | (with_reducible apply Touches.seq (State.brgFrameIn_touches ..))

theorem execTimeRespFrame_next (s : State) (port : Fin 4) (second : Bool) (frame : List Byte) :
    ∃ o, execTimeRespFrame port second frame s = .next o ∧ Touches 2826785171 s o :=
  actAll_next rfl fun s h => by
    repeat' first
      | exact rfl
      | with_reducible assumption
      | with_reducible exact Touches.refl _ _
      | (with_reducible apply Touches.seq (State.brgFrameIn_touches ..))

theorem execMasterTimeout_next (s : State) (port : Fin 4) :
    ∃ o, execMasterTimeout port s = .next o ∧ Touches 2826785171 s o :=
  actAll_next rfl fun s h => by
    repeat' first
      | exact rfl
      | with_reducible assumption
      | with_reducible exact Touches.refl _ _
      | (with_reducible apply Touches.seq (State.masterTimeout_touches ..))

theorem execReadyTimer_next (s : State) :
    ∃ o, execReadyTimer s = .next o ∧ Touches 2826780947 s o :=
  actAll_next rfl fun s h => by
    repeat' first
      | exact rfl
      | with_reducible assumption
      | with_reducible exact Touches.refl _ _
      | (with_reducible apply Touches.seq (State.readyTimer_touches ..))

theorem execReadyFrame_next (s : State) (src : Fin 64) (version : Word) (golden : Bool) :
    ∃ o, execReadyFrame src version golden s = .next o ∧ Touches 2826780947 s o :=
  actAll_next rfl fun s h => by
    repeat' first
      | exact rfl
      | with_reducible assumption
      | with_reducible exact Touches.refl _ _
      | (with_reducible apply Touches.seq (State.readyFrame_touches ..))

theorem execLandfallTimeout_next (s : State) :
    ∃ o, execLandfallTimeout s = .next o ∧ Touches 2826780947 s o :=
  actAll_next rfl fun s h => by
    repeat' first
      | exact rfl
      | with_reducible assumption
      | with_reducible exact Touches.refl _ _
      | (with_reducible apply Touches.seq (State.landfallTimeout_touches ..))

theorem execLandfallFrame_next (s : State) (excluded : BitVec 64) :
    ∃ o, execLandfallFrame excluded s = .next o ∧ Touches 2826780947 s o :=
  actAll_next rfl fun s h => by
    repeat' first
      | exact rfl
      | with_reducible assumption
      | with_reducible exact Touches.refl _ _
      | (with_reducible apply Touches.seq (State.landfallIn_touches ..))

theorem execLandfallRepeat_next (s : State) :
    ∃ o, execLandfallRepeat s = .next o ∧ Touches 2826780947 s o :=
  actAll_next rfl fun s h => by
    repeat' first
      | exact rfl
      | with_reducible assumption
      | with_reducible exact Touches.refl _ _
      | (with_reducible apply Touches.seq (State.landfallRepeat_touches ..))

theorem execBrgAdmit_next (s : State) (a : Acc) (key : BitVec 16) (id : Fin 64) :
    ∃ o, execBrgAdmit a key id s = .next o ∧ Touches 4278190067 s o :=
  actAll_next rfl fun s h => by
    repeat' first
      | exact rfl
      | with_reducible assumption
      | with_reducible exact Touches.refl _ _
      | (with_reducible apply Touches.seq (State.regWrite_touches ..))

theorem execAdmitFrame_next (s : State) (id : Fin 64) :
    ∃ o, execAdmitFrame id s = .next o ∧ Touches 2826780947 s o :=
  actAll_next rfl fun s h => by
    repeat' first
      | exact rfl
      | with_reducible assumption
      | with_reducible exact Touches.refl _ _
      | (with_reducible apply Touches.seq (State.admitIn_touches ..))

theorem execPortDown_next (s : State) (port : Fin 4) :
    ∃ o, execPortDown port s = .next o ∧ Touches 2826785171 s o :=
  actAll_next rfl fun s h => by
    repeat' first
      | exact rfl
      | with_reducible assumption
      | with_reducible exact Touches.refl _ _
      | (with_reducible apply Touches.seq (State.portDown_touches ..))

theorem execBnRead_next (s : State) (bnA : BitVec 16) (eccErrors : Fin 3) :
    ∃ o, execBnRead bnA eccErrors s = .next o ∧ Touches 2860335379 s o :=
  actAll_next rfl fun s h => by
    repeat' first
      | exact rfl
      | with_reducible assumption
      | with_reducible exact Touches.refl _ _
      | (with_reducible apply Touches.seq (State.bnRead_touches ..))

theorem execBnApertureWrite_next (s : State) (bnA : BitVec 16) (data : Word) (be : BitVec 4) (par : BitVec 4) :
    ∃ o, execBnApertureWrite bnA data be par s = .next o ∧ Touches 2860335379 s o :=
  actAll_next rfl fun s h => by
    repeat' first
      | exact rfl
      | with_reducible assumption
      | with_reducible exact Touches.refl _ _
      | (with_reducible apply Touches.seq (State.bnAperture_touches ..))

theorem execBnPage1Write_next (s : State) (bnA : BitVec 16) (data : Word) (be : BitVec 4) (par : BitVec 4) :
    ∃ o, execBnPage1Write bnA data be par s = .next o ∧ Touches 4278190067 s o :=
  actAll_next rfl fun s h => by
    repeat' first
      | exact rfl
      | with_reducible assumption
      | with_reducible exact Touches.refl _ _
      | (with_reducible apply Touches.seq (State.bnPage1_touches ..))

theorem execWriteQueueDrain_next (s : State) :
    ∃ o, execWriteQueueDrain s = .next o ∧ Touches 4278190067 s o :=
  actAll_next rfl fun s h => by
    repeat' first
      | exact rfl
      | with_reducible assumption
      | with_reducible exact Touches.refl _ _
      | (with_reducible apply Touches.seq (State.binDrain_touches ..))

theorem execBinIndRead_next (s : State) :
    ∃ o, execBinIndRead s = .next o ∧ Touches 4278190067 s o :=
  actAll_next rfl fun s h => by
    repeat' first
      | exact rfl
      | with_reducible assumption
      | with_reducible exact Touches.refl _ _
      | (with_reducible apply Touches.seq (State.page1Write_touches ..))
      | (with_reducible apply Touches.iff)
      | (intro x; intros; try beta_reduce)

theorem execBinIndWrite_next (s : State) (strobe : BitVec 4) :
    ∃ o, execBinIndWrite strobe s = .next o ∧ Touches 4278190067 s o :=
  actAll_next rfl fun s h => by
    repeat' first
      | exact rfl
      | with_reducible assumption
      | with_reducible exact Touches.refl _ _
      | (with_reducible apply Touches.seq (State.page1Write_touches ..))
      | (with_reducible apply Touches.iff)
      | (intro x; intros; try beta_reduce)

theorem execIndComplete_next (s : State) (ack : Option Word) :
    ∃ o, execIndComplete ack s = .next o ∧ Touches 4278190067 s o :=
  actAll_next rfl fun s h => by
    repeat' first
      | exact rfl
      | with_reducible assumption
      | with_reducible exact Touches.refl _ _
      | (with_reducible apply Touches.seq (State.indComplete_touches ..))

theorem execMirrorWrite_next (s : State) (word : BitVec 10) (data : Word) (be : BitVec 4) :
    ∃ o, execMirrorWrite word data be s = .next o ∧ Touches 2181038083 s o :=
  act_next rfl fun s h => by
    repeat' first
      | exact rfl
      | with_reducible assumption
      | with_reducible exact Touches.refl _ _
      | (with_reducible apply Touches.seq (State.mirrorPut_touches ..))
      | (with_reducible apply Touches.iff)
      | (intro x; intros; try beta_reduce)

theorem execHostMirrorWrite_next (s : State) (word : BitVec 10) (data : Word) (be : BitVec 4) (par : BitVec 4) (room : Bool) :
    ∃ o, execHostMirrorWrite word data be par room s = .next o ∧ Touches 2684354819 s o :=
  act_next rfl fun s h => by
    repeat' first
      | exact rfl
      | with_reducible assumption
      | with_reducible exact Touches.refl _ _
      | (with_reducible apply Touches.seq (State.bnMirror_touches ..))

theorem execMdbRise_next (s : State) :
    ∃ o, execMdbRise s = .next o ∧ Touches 2147483651 s o :=
  act_next rfl fun s h => by
    repeat' first
      | exact rfl
      | with_reducible assumption
      | with_reducible exact Touches.refl _ _
      | (with_reducible apply Touches.seq (State.mdb_touches ..))
      | (with_reducible apply Touches.iff)
      | (intro x; intros; try beta_reduce)

theorem execApFillDone_next (s : State) (aperture : Fin 64) :
    ∃ o, execApFillDone aperture s = .next o ∧ Touches 2181038083 s o :=
  act_next rfl fun s h => by
    repeat' first
      | exact rfl
      | with_reducible assumption
      | with_reducible exact Touches.refl _ _
      | (with_reducible apply Touches.seq (State.apFilled_touches ..))
      | (with_reducible apply Touches.iff)
      | (intro x; intros; try beta_reduce)

theorem execBnLatchExpiry_next (s : State) :
    ∃ o, execBnLatchExpiry s = .next o ∧ Touches 2181038083 s o :=
  act_next rfl fun s h => by
    repeat' first
      | exact rfl
      | with_reducible assumption
      | with_reducible exact Touches.refl _ _
      | (with_reducible apply Touches.seq (State.bnLatchEnd_touches ..))

theorem execFloodWindowEnd_next (s : State) (u : FloodUnit) (samples blanked power : Nat) :
    ∃ o, execFloodWindowEnd u samples blanked power s = .next o ∧ Touches 2152206467 s o :=
  act_next rfl fun s h => by
    repeat' first
      | exact rfl
      | with_reducible assumption
      | with_reducible exact Touches.refl _ _
      | (with_reducible apply Touches.seq (State.ctxFloodWindow_touches ..))
      | (with_reducible apply Touches.seq (State.rxFloodWindow_touches ..))
      | split

theorem execFloodClear_next (s : State) (u : FloodUnit) :
    ∃ o, execFloodClear u s = .next o ∧ Touches 2147483651 s o :=
  act_next rfl fun s h => by
    repeat' first
      | exact rfl
      | with_reducible assumption
      | with_reducible exact Touches.refl _ _
      | (with_reducible apply Touches.seq (State.ctxFloodClear_touches ..))
      | (with_reducible apply Touches.seq (State.rxFloodClear_touches ..))
      | split

theorem execCarrierLock_next (s : State) (c : Fin 4) :
    ∃ o, execCarrierLock c s = .next o ∧ Touches 2148007939 s o :=
  act_next rfl fun s h => by
    repeat' first
      | exact rfl
      | with_reducible assumption
      | with_reducible exact Touches.refl _ _
      | (with_reducible apply Touches.seq (State.carrierLock_touches ..))

theorem execCarrierLockLoss_next (s : State) (c : Fin 4) :
    ∃ o, execCarrierLockLoss c s = .next o ∧ Touches 2148007939 s o :=
  act_next rfl fun s h => by
    repeat' first
      | exact rfl
      | with_reducible assumption
      | with_reducible exact Touches.refl _ _
      | (with_reducible apply Touches.seq (State.carrierLock_touches ..))

theorem execCpdFrame_next (s : State) (c : Fin 4) (periods : List BitPeriod) (room : Bool) :
    ∃ o, execCpdFrame c periods room s = .next o ∧ Touches 2684878867 s o :=
  act_next rfl fun s h => by
    repeat' first
      | exact rfl
      | with_reducible assumption
      | with_reducible exact Touches.refl _ _
      | (with_reducible apply Touches.seq (State.cpdRead_touches ..))

theorem execRdsGroup_next (s : State) (c : Fin 4) (blockA blockB blockC blockD : RdsBlock) (room : Bool) :
    ∃ o, execRdsGroup c blockA blockB blockC blockD room s = .next o ∧ Touches 2826785043 s o :=
  actAll_next rfl fun s h => by
    repeat' first
      | exact rfl
      | with_reducible assumption
      | with_reducible exact Touches.refl _ _
      | (with_reducible apply Touches.seq (State.rdsGroup_touches ..))

theorem execDrmFac_next (s : State) (c : Fin 4) (bits : List Byte) (serviceId : BitVec 24) (crcOk room : Bool) :
    ∃ o, execDrmFac c bits serviceId crcOk room s = .next o ∧ Touches 2826780947 s o :=
  actAll_next rfl fun s h => by
    repeat' first
      | exact rfl
      | with_reducible assumption
      | with_reducible exact Touches.refl _ _
      | (with_reducible apply Touches.seq (State.drmFac_touches ..))

theorem execDrmSdc_next (s : State) (c : Fin 4) (bytes : List Byte) (crcOk : Bool) (time : Option BcdTime) (afHz : List Nat) (room : Bool) :
    ∃ o, execDrmSdc c bytes crcOk time afHz room s = .next o ∧ Touches 2826785043 s o :=
  actAll_next rfl fun s h => by
    repeat' first
      | exact rfl
      | with_reducible assumption
      | with_reducible exact Touches.refl _ _
      | (with_reducible apply Touches.seq (State.drmSdc_touches ..))

theorem execDrmMsc_next (s : State) (c : Fin 4) (bytes : List Byte) (facOk : Bool) (erasedTenths : Nat) (room : Bool) :
    ∃ o, execDrmMsc c bytes facOk erasedTenths room s = .next o ∧ Touches 2684354579 s o :=
  act_next rfl fun s h => by
    repeat' first
      | exact rfl
      | with_reducible assumption
      | with_reducible exact Touches.refl _ _
      | (with_reducible apply Touches.seq (State.drmMsc_touches ..))

theorem execAudioUnit_next (s : State) (c : Fin 4) (blanked room : Bool) :
    ∃ o, execAudioUnit c blanked room s = .next o ∧ Touches 2684354579 s o :=
  act_next rfl fun s h => by
    repeat' first
      | exact rfl
      | with_reducible assumption
      | with_reducible exact Touches.refl _ _
      | (with_reducible apply Touches.seq (State.audioUnit_touches ..))

theorem execScanCycle_next (s : State) (c : Fin 4) :
    ∃ o, execScanCycle c s = .next o ∧ Touches 2826780947 s o :=
  actAll_next rfl fun s h => by
    repeat' first
      | exact rfl
      | with_reducible assumption
      | with_reducible exact Touches.refl _ _
      | (with_reducible apply Touches.seq (State.scanCycle_touches ..))

theorem execAfLossTimeout_next (s : State) (c : Fin 4) :
    ∃ o, execAfLossTimeout c s = .next o ∧ Touches 2826780947 s o :=
  actAll_next rfl fun s h => by
    repeat' first
      | exact rfl
      | with_reducible assumption
      | with_reducible exact Touches.refl _ _
      | (with_reducible apply Touches.seq (State.afLoss_touches ..))

theorem execIdentTimeout_next (s : State) (c : Fin 4) :
    ∃ o, execIdentTimeout c s = .next o ∧ Touches 2826780947 s o :=
  actAll_next rfl fun s h => by
    repeat' first
      | exact rfl
      | with_reducible assumption
      | with_reducible exact Touches.refl _ _
      | (with_reducible apply Touches.seq (State.identTimeout_touches ..))

theorem execAfBadExpiry_next (s : State) (c : Fin 4) (e : Fin 32) :
    ∃ o, execAfBadExpiry c e s = .next o ∧ Touches 2826780947 s o :=
  actAll_next rfl fun s h => by
    repeat' first
      | exact rfl
      | with_reducible assumption
      | with_reducible exact Touches.refl _ _
      | (with_reducible apply Touches.seq (State.afBadExpiry_touches ..))

theorem execCarrierIntervalEnd_next (s : State) (c : Fin 4) (offset : Int) (samples blanked : Nat) :
    ∃ o, execCarrierIntervalEnd c offset samples blanked s = .next o ∧ Touches 2684878867 s o :=
  act_next rfl fun s h => by
    repeat' first
      | exact rfl
      | with_reducible assumption
      | with_reducible exact Touches.refl _ _
      | (with_reducible apply Touches.seq (State.carrierInterval_touches ..))

theorem execFmLock_next (s : State) (c : Fin 4) (locked stereo : Bool) :
    ∃ o, execFmLock c locked stereo s = .next o ∧ Touches 2148007939 s o :=
  act_next rfl fun s h => by
    repeat' first
      | exact rfl
      | with_reducible assumption
      | with_reducible exact Touches.refl _ _
      | (with_reducible apply Touches.seq (State.fmLock_touches ..))

theorem execDrmLock_next (s : State) (c : Fin 4) (mode : Fin 6) (locked : Bool) :
    ∃ o, execDrmLock c mode locked s = .next o ∧ Touches 2148007939 s o :=
  act_next rfl fun s h => by
    repeat' first
      | exact rfl
      | with_reducible assumption
      | with_reducible exact Touches.refl _ _
      | (with_reducible apply Touches.seq (State.drmLock_touches ..))

theorem execCpdSyncDetect_next (s : State) (c : Fin 4) (periods : List BitPeriod) :
    ∃ o, execCpdSyncDetect c periods s = .next o ∧ Touches 2684878867 s o :=
  act_next rfl fun s h => by
    repeat' first
      | exact rfl
      | with_reducible assumption
      | with_reducible exact Touches.refl _ _
      | (with_reducible apply Touches.seq (State.cpdHunt_touches ..))

theorem execRegisterWrite_next (s : State) (a : Acc) (addr value : Word) :
    ∃ o, execRegisterWrite a addr value s = .next o ∧ Touches 4278190067 s o :=
  actAll_next rfl fun s h => by
    repeat' first
      | exact rfl
      | with_reducible assumption
      | with_reducible exact Touches.refl _ _
      | (with_reducible apply Touches.seq (State.busWrite_touches ..))

theorem execRcRead_next (s : State) (m : Fin 16) (parityFlips : BitVec 4) (addr : Word) :
    ∃ o, execRcRead m parityFlips addr s = .next o ∧ Touches 2684408723 s o :=
  act_next rfl fun s h => by
    repeat' first
      | exact rfl
      | with_reducible assumption
      | with_reducible exact Touches.refl _ _
      | (with_reducible apply Touches.seq (State.busRead_touches ..))

theorem execWchTimeSnapshot_next (s : State) (m : Fin 16) :
    ∃ o, execWchTimeSnapshot m s = .next o ∧ Touches 2684408723 s o :=
  act_next rfl fun s h => by
    repeat' first
      | exact rfl
      | with_reducible assumption
      | with_reducible exact Touches.refl _ _
      | (with_reducible apply Touches.seq (State.busRead_touches ..))

theorem execFixTimeSnapshot_next (s : State) (m : Fin 16) :
    ∃ o, execFixTimeSnapshot m s = .next o ∧ Touches 2684408723 s o :=
  act_next rfl fun s h => by
    repeat' first
      | exact rfl
      | with_reducible assumption
      | with_reducible exact Touches.refl _ _
      | (with_reducible apply Touches.seq (State.busRead_touches ..))

theorem execFsAccess_next (s : State) (a : Acc) (write : Bool) (addr value : Word) (ack : Option Word) :
    ∃ o, execFsAccess a write addr value ack s = .next o ∧ Touches 4278190067 s o :=
  actAll_next rfl fun s h => by
    repeat' first
      | exact rfl
      | with_reducible assumption
      | with_reducible exact Touches.refl _ _
      | (with_reducible apply Touches.seq (State.busWriteAck_touches ..))
      | (with_reducible apply Touches.seq (State.busReadAck_touches ..))
      | (with_reducible apply Touches.ite)

theorem execFsTimeout_next (s : State) (m : Fin 16) :
    ∃ o, execFsTimeout m s = .next o ∧ Touches 2181038595 s o :=
  act_next rfl fun s h => by
    repeat' first
      | exact rfl
      | with_reducible assumption
      | with_reducible exact Touches.refl _ _
      | (with_reducible apply Touches.seq (State.fsTimedOut_touches ..))

theorem execDGo_next (s : State) (via : DirectPath) (page : Fin 16) (value : Word) :
    ∃ o, execDGo via page value s = .next o ∧ Touches 4278190067 s o :=
  actAll_next rfl fun s h => by
    repeat' first
      | exact rfl
      | with_reducible assumption
      | with_reducible exact Touches.refl _ _
      | (with_reducible apply Touches.seq (State.regWrite_touches ..))
      | (with_reducible apply Touches.seq (State.pageCmd_touches ..))
      | (with_reducible apply Touches.iff)
      | (intro x; intros; try beta_reduce)
      | split

theorem execDCancel_next (s : State) (via : PagePath) (page : Fin 16) :
    ∃ o, execDCancel via page s = .next o ∧ Touches 4278190067 s o :=
  actAll_next rfl fun s h => by
    repeat' first
      | exact rfl
      | with_reducible assumption
      | with_reducible exact Touches.refl _ _
      | (with_reducible apply Touches.seq (State.regWrite_touches ..))
      | (with_reducible apply Touches.seq (State.dCancel_touches ..))
      | (with_reducible apply Touches.iff)
      | (intro x; intros; try beta_reduce)
      | split

theorem execQSubmit_next (s : State) (via : SubmitPath) (page : Fin 16) (value : Word) :
    ∃ o, execQSubmit via page value s = .next o ∧ Touches 4278190067 s o :=
  actAll_next rfl fun s h => by
    repeat' first
      | exact rfl
      | with_reducible assumption
      | with_reducible exact Touches.refl _ _
      | (with_reducible apply Touches.seq (State.regWrite_touches ..))
      | (with_reducible apply Touches.seq (State.qStream_touches ..))
      | (with_reducible apply Touches.iff)
      | (intro x; intros; try beta_reduce)
      | split

theorem execQCancel_next (s : State) (via : PagePath) (page : Fin 16) (tag : Byte) :
    ∃ o, execQCancel via page tag s = .next o ∧ Touches 4278190067 s o :=
  actAll_next rfl fun s h => by
    repeat' first
      | exact rfl
      | with_reducible assumption
      | with_reducible exact Touches.refl _ _
      | (with_reducible apply Touches.seq (State.regWrite_touches ..))
      | (with_reducible apply Touches.seq (State.qStreamCancel_touches ..))
      | (with_reducible apply Touches.iff)
      | (intro x; intros; try beta_reduce)
      | split

theorem execCphOpStart_next (s : State) :
    ∃ o, execCphOpStart s = .next o ∧ Touches 2684370947 s o :=
  act_next rfl fun s h => by
    repeat' first
      | exact rfl
      | with_reducible assumption
      | with_reducible exact Touches.refl _ _
      | (with_reducible apply Touches.seq (State.cphStart_touches ..))
      | (with_reducible apply Touches.iff)
      | (intro x; intros; try beta_reduce)

theorem execCphOpComplete_next (s : State) (datapath : Fin 2) (mismatch bufferDbe : Bool) :
    ∃ o, execCphOpComplete datapath mismatch bufferDbe s = .next o ∧ Touches 3900530963 s o :=
  actAll_next rfl fun s h => by
    repeat' first
      | exact rfl
      | with_reducible assumption
      | with_reducible exact Touches.refl _ _
      | (with_reducible apply Touches.seq (State.cphComplete_touches ..))

theorem execQCmpPop_next (s : State) (m : Fin 16) (page : Fin 16) :
    ∃ o, execQCmpPop m page s = .next o ∧ Touches 2684408723 s o :=
  act_next rfl fun s h => by
    repeat' first
      | exact rfl
      | with_reducible assumption
      | with_reducible exact Touches.refl _ _
      | (with_reducible apply Touches.seq (State.busRead_touches ..))

theorem execKWrite_next (s : State) (a : Acc) (page : Fin 16) (key : BitVec 16) (slot : Fin 64) :
    ∃ o, execKWrite a page key slot s = .next o ∧ Touches 4278190067 s o :=
  actAll_next rfl fun s h => by
    repeat' first
      | exact rfl
      | with_reducible assumption
      | with_reducible exact Touches.refl _ _
      | (with_reducible apply Touches.seq (State.regWrite_touches ..))

theorem execKRandom_next (s : State) (a : Acc) (page : Fin 16) (key : BitVec 16) (slot : Fin 64) :
    ∃ o, execKRandom a page key slot s = .next o ∧ Touches 4278190067 s o :=
  actAll_next rfl fun s h => by
    repeat' first
      | exact rfl
      | with_reducible assumption
      | with_reducible exact Touches.refl _ _
      | (with_reducible apply Touches.seq (State.regWrite_touches ..))

theorem execKDerive_next (s : State) (a : Acc) (page : Fin 16) (key : BitVec 16) (parent slot : Fin 64) :
    ∃ o, execKDerive a page key parent slot s = .next o ∧ Touches 4278190067 s o :=
  actAll_next rfl fun s h => by
    repeat' first
      | exact rfl
      | with_reducible assumption
      | with_reducible exact Touches.refl _ _
      | (with_reducible apply Touches.seq (State.regWrite_touches ..))

theorem execKErase_next (s : State) (a : Acc) (page : Fin 16) (key : BitVec 16) (slot : Fin 64) :
    ∃ o, execKErase a page key slot s = .next o ∧ Touches 4278190067 s o :=
  actAll_next rfl fun s h => by
    repeat' first
      | exact rfl
      | with_reducible assumption
      | with_reducible exact Touches.refl _ _
      | (with_reducible apply Touches.seq (State.regWrite_touches ..))

theorem execShadowTakeEffect_next (s : State) (slot : Fin 64) :
    ∃ o, execShadowTakeEffect slot s = .next o ∧ Touches 2826780947 s o :=
  actAll_next rfl fun s h => by
    repeat' first
      | exact rfl
      | with_reducible assumption
      | with_reducible exact Touches.refl _ _
      | (with_reducible apply Touches.seq (State.shadowEffect_touches ..))

theorem execCphZeroize_next (s : State) (a : Acc) (key : BitVec 16) :
    ∃ o, execCphZeroize a key s = .next o ∧ Touches 4278190067 s o :=
  actAll_next rfl fun s h => by
    repeat' first
      | exact rfl
      | with_reducible assumption
      | with_reducible exact Touches.refl _ _
      | (with_reducible apply Touches.seq (State.regWrite_touches ..))

theorem execRngHealthFail_next (s : State) (test : Nat) :
    ∃ o, execRngHealthFail test s = .next o ∧ Touches 2147500291 s o :=
  act_next rfl fun s h => by
    repeat' first
      | exact rfl
      | with_reducible assumption
      | with_reducible exact Touches.refl _ _
      | (with_reducible apply Touches.seq (State.rngFail_touches ..))
      | (with_reducible apply Touches.iff)
      | (intro x; intros; try beta_reduce)

theorem execSlotCheck_next (s : State) (slot : Fin 64) (word : Fin 8) (badBits : Fin 3) :
    ∃ o, execSlotCheck slot word badBits s = .next o ∧ Touches 3900530963 s o :=
  actAll_next rfl fun s h => by
    repeat' first
      | exact rfl
      | with_reducible assumption
      | with_reducible exact Touches.refl _ _
      | (with_reducible apply Touches.seq (State.slotCheck_touches ..))
      | (with_reducible apply Touches.iff)
      | (intro x; intros; try beta_reduce)

theorem execGcmMask_next (s : State) (lmd : Bool) (slot : Fin 64) (fixed : List Byte) :
    ∃ o, execGcmMask lmd slot fixed s = .next o ∧ Touches 2147500035 s o :=
  act_next rfl fun s h => by
    repeat' first
      | exact rfl
      | with_reducible assumption
      | with_reducible exact Touches.refl _ _
      | (with_reducible apply Touches.seq (State.gcmMask_touches ..))
      | (with_reducible apply Touches.iff)
      | (intro x; intros; try beta_reduce)

theorem execHelloSeed_next (s : State) :
    ∃ o, execHelloSeed s = .next o ∧ Touches 2147483667 s o :=
  act_next rfl fun s h => by
    repeat' first
      | exact rfl
      | with_reducible assumption
      | with_reducible exact Touches.refl _ _
      | (with_reducible apply Touches.seq (State.helloSeed_touches ..))
      | (with_reducible apply Touches.iff)
      | (intro x; intros; try beta_reduce)

theorem execLoginChallenge_next (s : State) :
    ∃ o, execLoginChallenge s = .next o ∧ Touches 2826780947 s o :=
  actAll_next rfl fun s h => by
    repeat' first
      | exact rfl
      | with_reducible assumption
      | with_reducible exact Touches.refl _ _
      | (extract_lets +onlyGivenNames s1; refine Touches.cut (x := s1) ?_ ?_; (on_goal 1 => subst s1); (on_goal 2 => (intro h1; clear_value s1)))
      | (extract_lets +onlyGivenNames v1; clear_value v1)
      | (with_reducible apply Touches.seq (State.emit_touches ..))
      | (with_reducible apply Touches.seq (State.loginChallenge_touches ..))
      | (with_reducible apply Touches.iff)
      | (with_reducible apply Touches.ite)
      | (intro x; intros; try beta_reduce)

theorem execLoginResponse_next (s : State) (bytes : List Byte) :
    ∃ o, execLoginResponse bytes s = .next o ∧ Touches 2826780947 s o :=
  actAll_next rfl fun s h => by
    repeat' first
      | exact rfl
      | with_reducible assumption
      | with_reducible exact Touches.refl _ _
      | (extract_lets +onlyGivenNames v1; clear_value v1)
      | (with_reducible apply Touches.seq (State.dropChallenge_touches ..))
      | (with_reducible apply Touches.seq (State.emit_touches ..))
      | (with_reducible apply Touches.iff)
      | (with_reducible apply Touches.ite)
      | (intro x; intros; try beta_reduce)

theorem execChallengeExpiry_next (s : State) :
    ∃ o, execChallengeExpiry s = .next o ∧ Touches 2826780947 s o :=
  actAll_next rfl fun s h => by
    repeat' first
      | exact rfl
      | with_reducible assumption
      | with_reducible exact Touches.refl _ _
      | (with_reducible apply Touches.seq (State.challengeEnd_touches ..))

end Sys2Proof.Machine
end

