-- ==== Sys2Proof/Laws/Next1.lean ====
section
/-! SUPPORT. Each command of FabricCmds, FixCmds, GuardCmds, LaneCmds, LoadCmds answers a next state, and what it can change: one lemma per command. -/
namespace Sys2Proof.Machine

theorem execPairMismatch_next (s : State) (region : Fin 16) (tile : Fin 15360) (cell : Fin 8) :
    ∃ o, execPairMismatch region tile cell s = .next o ∧ Touches 3221227795 s o :=
  act_next rfl fun s h => by
    repeat' first
      | exact rfl
      | with_reducible assumption
      | with_reducible exact Touches.refl _ _
      | (with_reducible apply Touches.seq (State.pairUpset_touches ..))

theorem execBramSweepPassEnd_next (s : State) (region : Fin 16) (us : Nat) :
    ∃ o, execBramSweepPassEnd region us s = .next o ∧ Touches 3221233939 s o :=
  act_next rfl fun s h => by
    repeat' first
      | exact rfl
      | with_reducible assumption
      | with_reducible exact Touches.refl _ _
      | (with_reducible apply Touches.seq (State.sweepEnd_touches ..))

theorem execDeepSweepPassEnd_next (s : State) (region : Fin 16) (us : Nat) :
    ∃ o, execDeepSweepPassEnd region us s = .next o ∧ Touches 3221233939 s o :=
  act_next rfl fun s h => by
    repeat' first
      | exact rfl
      | with_reducible assumption
      | with_reducible exact Touches.refl _ _
      | (with_reducible apply Touches.seq (State.sweepEnd_touches ..))

theorem execGholdRelease_next (s : State) (domain : Fin 288) (regions : BitVec 16) :
    ∃ o, execGholdRelease domain regions s = .next o ∧ Touches 2147485699 s o :=
  act_next rfl fun s h => by
    repeat' first
      | exact rfl
      | with_reducible assumption
      | with_reducible exact Touches.refl _ _
      | (with_reducible apply Touches.seq (State.gholdRelease_touches ..))

theorem execClockMuxSwitch_next (s : State) (line : Fin 288) (sel ce : Bool) :
    ∃ o, execClockMuxSwitch line sel ce s = .next o ∧ Touches 2147485699 s o :=
  act_next rfl fun s h => by
    repeat' first
      | exact rfl
      | with_reducible assumption
      | with_reducible exact Touches.refl _ _
      | (with_reducible apply Touches.seq (State.clockSwitch_touches ..))

theorem execScrubRead_next (s : State) (region : Fin 16) (frame : Fin 8192) (flips : List (Fin 2112)) :
    ∃ o, execScrubRead region frame flips s = .next o ∧ Touches 2147485955 s o :=
  act_next rfl fun s h => by
    repeat' first
      | exact rfl
      | with_reducible assumption
      | with_reducible exact Touches.refl _ _
      | (with_reducible apply Touches.seq (State.scrubReadSlot_touches ..))

theorem execCorrectionWrite_next (s : State) :
    ∃ o, execCorrectionWrite s = .next o ∧ Touches 2147485955 s o :=
  act_next rfl fun s h => by
    repeat' first
      | exact rfl
      | with_reducible assumption
      | with_reducible exact Touches.refl _ _
      | (with_reducible apply Touches.seq (State.correctionSlot_touches ..))

theorem execCriticalPeriodStart_next (s : State) :
    ∃ o, execCriticalPeriodStart s = .next o ∧ Touches 2147485955 s o :=
  act_next rfl fun s h => by
    repeat' first
      | exact rfl
      | with_reducible assumption
      | with_reducible exact Touches.refl _ _
      | (with_reducible apply Touches.seq (State.criticalPeriod_touches ..))

theorem execScrubPassEnd_next (s : State) (region : Fin 16) (ns : Nat) :
    ∃ o, execScrubPassEnd region ns s = .next o ∧ Touches 2147485955 s o :=
  act_next rfl fun s h => by
    repeat' first
      | exact rfl
      | with_reducible assumption
      | with_reducible exact Touches.refl _ _
      | (with_reducible apply Touches.seq (State.scrubPassEnd_touches ..))

theorem execPrRequest_next (s : State) (a : Acc) (key : BitVec 16) (region : Fin 16) :
    ∃ o, execPrRequest a key region s = .next o ∧ Touches 4278190067 s o :=
  actAll_next rfl fun s h => by
    repeat' first
      | exact rfl
      | with_reducible assumption
      | with_reducible exact Touches.refl _ _
      | (with_reducible apply Touches.seq (State.regWrite_touches ..))

theorem execPrCancel_next (s : State) (a : Acc) (key : BitVec 16) :
    ∃ o, execPrCancel a key s = .next o ∧ Touches 4278190067 s o :=
  actAll_next rfl fun s h => by
    repeat' first
      | exact rfl
      | with_reducible assumption
      | with_reducible exact Touches.refl _ _
      | (with_reducible apply Touches.seq (State.regWrite_touches ..))

theorem execPrChunk_next (s : State) (dbe : Bool) :
    ∃ o, execPrChunk dbe s = .next o ∧ Touches 3254783763 s o :=
  act_next rfl fun s h => by
    repeat' first
      | exact rfl
      | with_reducible assumption
      | with_reducible exact Touches.refl _ _
      | (extract_lets +onlyGivenNames s1; refine Touches.cut (x := s1) ?_ ?_; (on_goal 1 => subst s1); (on_goal 2 => (intro h1; clear_value s1)))
      | (extract_lets +onlyGivenNames v1; clear_value v1)
      | (with_reducible apply Touches.seq (State.prChunk_touches ..))
      | (with_reducible apply Touches.seq (State.fsFlush_touches ..))
      | (with_reducible apply Touches.iff)
      | (intro x; intros; try beta_reduce)

theorem execPrChecksDone_next (s : State) :
    ∃ o, execPrChecksDone s = .next o ∧ Touches 2147485443 s o :=
  act_next rfl fun s h => by
    repeat' first
      | exact rfl
      | with_reducible assumption
      | with_reducible exact Touches.refl _ _
      | (with_reducible apply Touches.seq (State.prChecks_touches ..))

theorem execPrRelease_next (s : State) :
    ∃ o, execPrRelease s = .next o ∧ Touches 3758107907 s o :=
  act_next rfl fun s h => by
    repeat' first
      | exact rfl
      | with_reducible assumption
      | with_reducible exact Touches.refl _ _
      | (with_reducible apply Touches.seq (State.prRelease_touches ..))

theorem execSteerUpdate_next (s : State) :
    ∃ o, execSteerUpdate s = .next o ∧ Touches 2147487763 s o :=
  act_next rfl fun s h => by
    repeat' first
      | exact rfl
      | with_reducible assumption
      | with_reducible exact Touches.refl _ _
      | (with_reducible apply Touches.seq (State.steerUpdate_touches ..))
      | (with_reducible apply Touches.iff)
      | (intro x; intros; try beta_reduce)

theorem execSourceValid_next (s : State) (n : Fin 5) :
    ∃ o, execSourceValid n s = .next o ∧ Touches 2147487747 s o :=
  act_next rfl fun s h => by
    repeat' first
      | exact rfl
      | with_reducible assumption
      | with_reducible exact Touches.refl _ _
      | (with_reducible apply Touches.seq (State.sourceValid_touches ..))
      | (with_reducible apply Touches.iff)
      | (intro x; intros; try beta_reduce)

theorem execSourceInvalid_next (s : State) (n : Fin 5) :
    ∃ o, execSourceInvalid n s = .next o ∧ Touches 2147487875 s o :=
  act_next rfl fun s h => by
    repeat' first
      | exact rfl
      | with_reducible assumption
      | with_reducible exact Touches.refl _ _
      | (with_reducible apply Touches.seq (State.sourceInvalid_touches ..))
      | (with_reducible apply Touches.iff)
      | (intro x; intros; try beta_reduce)

theorem execSourceQualified_next (s : State) (n : Fin 5) :
    ∃ o, execSourceQualified n s = .next o ∧ Touches 2147487875 s o :=
  act_next rfl fun s h => by
    repeat' first
      | exact rfl
      | with_reducible assumption
      | with_reducible exact Touches.refl _ _
      | (with_reducible apply Touches.seq (State.sourceQualified_touches ..))
      | (with_reducible apply Touches.iff)
      | (intro x; intros; try beta_reduce)

theorem execSelectionHoldEnd_next (s : State) :
    ∃ o, execSelectionHoldEnd s = .next o ∧ Touches 2147487875 s o :=
  act_next rfl fun s h => by
    repeat' first
      | exact rfl
      | with_reducible assumption
      | with_reducible exact Touches.refl _ _
      | (with_reducible apply Touches.seq (State.selectionHoldEnd_touches ..))
      | (with_reducible apply Touches.iff)
      | (intro x; intros; try beta_reduce)

theorem execSlewEnd_next (s : State) :
    ∃ o, execSlewEnd s = .next o ∧ Touches 2147483651 s o :=
  act_next rfl fun s h => by
    repeat' first
      | exact rfl
      | with_reducible assumption
      | with_reducible exact Touches.refl _ _
      | (with_reducible apply Touches.seq (State.slewEnd_touches ..))

theorem execFreezeTimeout_next (s : State) :
    ∃ o, execFreezeTimeout s = .next o ∧ Touches 2147487875 s o :=
  act_next rfl fun s h => by
    repeat' first
      | exact rfl
      | with_reducible assumption
      | with_reducible exact Touches.refl _ _
      | (with_reducible apply Touches.seq (State.freezeTimeout_touches ..))

theorem execFixSet_next (s : State) (a : Acc) (key : BitVec 16) :
    ∃ o, execFixSet a key s = .next o ∧ Touches 4278190067 s o :=
  actAll_next rfl fun s h => by
    repeat' first
      | exact rfl
      | with_reducible assumption
      | with_reducible exact Touches.refl _ _
      | (with_reducible apply Touches.seq (State.regWrite_touches ..))

theorem execPtpSubmit_next (s : State) (a : Acc) (withdrawToo : Bool) :
    ∃ o, execPtpSubmit a withdrawToo s = .next o ∧ Touches 4278190067 s o :=
  actAll_next rfl fun s h => by
    repeat' first
      | exact rfl
      | with_reducible assumption
      | with_reducible exact Touches.refl _ _
      | (with_reducible apply Touches.seq (State.regWrite_touches ..))

theorem execPtpWithdraw_next (s : State) (a : Acc) :
    ∃ o, execPtpWithdraw a s = .next o ∧ Touches 4278190067 s o :=
  actAll_next rfl fun s h => by
    repeat' first
      | exact rfl
      | with_reducible assumption
      | with_reducible exact Touches.refl _ _
      | (with_reducible apply Touches.seq (State.regWrite_touches ..))

theorem execPpsInEdge_next (s : State) (edgeNs : Int) (rising : Bool) (cycles : Nat) :
    ∃ o, execPpsInEdge edgeNs rising cycles s = .next o ∧ Touches 2147487875 s o :=
  act_next rfl fun s h => by
    repeat' first
      | exact rfl
      | with_reducible assumption
      | with_reducible exact Touches.refl _ _
      | (with_reducible apply Touches.seq (State.ppsInEdge_touches ..))
      | (with_reducible apply Touches.iff)
      | (intro x; intros; try beta_reduce)

theorem execDeviceTimeSecond_next (s : State) :
    ∃ o, execDeviceTimeSecond s = .next o ∧ Touches 2147487891 s o :=
  act_next rfl fun s h => by
    repeat' first
      | exact rfl
      | with_reducible assumption
      | with_reducible exact Touches.refl _ _
      | (with_reducible apply Touches.seq (State.toSecond_touches ..))
      | (with_reducible apply Touches.seq (State.deviceSecond_touches ..))
      | (with_reducible apply Touches.iff)
      | (intro x; intros; try beta_reduce)

theorem execPpsOutEnd_next (s : State) :
    ∃ o, execPpsOutEnd s = .next o ∧ Touches 2147487747 s o :=
  act_next rfl fun s h => by
    repeat' first
      | exact rfl
      | with_reducible assumption
      | with_reducible exact Touches.refl _ _
      | (with_reducible apply Touches.upd_fix)

theorem execTimeVote_next (s : State) (copy : Fin 3) :
    ∃ o, execTimeVote copy s = .next o ∧ Touches 2147483907 s o :=
  act_next rfl fun s h => by
    repeat' first
      | exact rfl
      | with_reducible assumption
      | with_reducible exact Touches.refl _ _
      | (with_reducible apply Touches.seq (State.report_touches ..))
      | (with_reducible apply Touches.iff)
      | (intro x; intros; try beta_reduce)

theorem execFaultReport_next (s : State) (n : Fin 44) (inst : BitVec 16) (detail : BitVec 64) (source : Fin 4) :
    ∃ o, execFaultReport n inst detail source s = .next o ∧ Touches 2147484035 s o :=
  act_next rfl fun s h => by
    repeat' first
      | exact rfl
      | with_reducible assumption
      | with_reducible exact Touches.refl _ _
      | (with_reducible apply Touches.seq (State.memError_touches ..))
      | (with_reducible apply Touches.seq (State.report_touches ..))
      | (with_reducible apply Touches.seq (State.watchReport_touches ..))
      | (with_reducible apply Touches.iff)
      | (with_reducible apply Touches.ite)
      | (intro x; intros; try beta_reduce)

theorem execGrdClear_next (s : State) (a : Acc) (key : BitVec 16) :
    ∃ o, execGrdClear a key s = .next o ∧ Touches 4278190067 s o :=
  actAll_next rfl fun s h => by
    repeat' first
      | exact rfl
      | with_reducible assumption
      | with_reducible exact Touches.refl _ _
      | (with_reducible apply Touches.seq (State.regWrite_touches ..))

theorem execGrdInject_next (s : State) (a : Acc) (key : BitVec 16) (cls : BitVec 6) :
    ∃ o, execGrdInject a key cls s = .next o ∧ Touches 4278190067 s o :=
  actAll_next rfl fun s h => by
    repeat' first
      | exact rfl
      | with_reducible assumption
      | with_reducible exact Touches.refl _ _
      | (with_reducible apply Touches.seq (State.regWrite_touches ..))

theorem execHealthPulseEnd_next (s : State) (n : Fin 44) :
    ∃ o, execHealthPulseEnd n s = .next o ∧ Touches 2147483907 s o :=
  act_next rfl fun s h => by
    repeat' first
      | exact rfl
      | with_reducible assumption
      | with_reducible exact Touches.refl _ _
      | (with_reducible apply Touches.seq (State.pulseEnd_touches ..))

theorem execHealthPadMismatch_next (s : State) (padHigh : Bool) :
    ∃ o, execHealthPadMismatch padHigh s = .next o ∧ Touches 2147483907 s o :=
  act_next rfl fun s h => by
    repeat' first
      | exact rfl
      | with_reducible assumption
      | with_reducible exact Touches.refl _ _
      | (with_reducible apply Touches.seq (State.padMismatch_touches ..))

theorem execSelftestPartDone_next (s : State) (part : Fin 4) (failing : Option Nat) :
    ∃ o, execSelftestPartDone part failing s = .next o ∧ Touches 2147483907 s o :=
  act_next rfl fun s h => by
    repeat' first
      | exact rfl
      | with_reducible assumption
      | with_reducible exact Touches.refl _ _
      | (with_reducible apply Touches.seq (State.selftestPart_touches ..))

theorem execRailExcursion_next (s : State) (rail : Fin 14) (mv : Nat) :
    ∃ o, execRailExcursion rail mv s = .next o ∧ Touches 2894057939 s o :=
  actAll_next rfl fun s h => by
    repeat' first
      | exact rfl
      | with_reducible assumption
      | with_reducible exact Touches.refl _ _
      | (with_reducible apply Touches.seq (State.railExcursion_touches ..))

theorem execTempExcursion_next (s : State) (sensor : Fin 16) (celsius : Int) :
    ∃ o, execTempExcursion sensor celsius s = .next o ∧ Touches 2147483907 s o :=
  act_next rfl fun s h => by
    repeat' first
      | exact rfl
      | with_reducible assumption
      | with_reducible exact Touches.refl _ _
      | (with_reducible apply Touches.seq (State.tempReading_touches ..))

theorem execLogCrcScan_next (s : State) :
    ∃ o, execLogCrcScan s = .next o ∧ Touches 2147483907 s o :=
  act_next rfl fun s h => by
    repeat' first
      | exact rfl
      | with_reducible assumption
      | with_reducible exact Touches.refl _ _
      | (with_reducible apply Touches.seq (State.logScan_touches ..))
      | (with_reducible apply Touches.iff)
      | (intro x; intros; try beta_reduce)

theorem execHkDisagree_next (s : State) (copy : Fin 3) (unit : Byte) (bits : Nat) :
    ∃ o, execHkDisagree copy unit bits s = .next o ∧ Touches 2147483907 s o :=
  act_next rfl fun s h => by
    repeat' first
      | exact rfl
      | with_reducible assumption
      | with_reducible exact Touches.refl _ _
      | (with_reducible apply Touches.seq (State.hkDisagree_touches ..))

theorem execHkResyncDone_next (s : State) (copy : Fin 3) :
    ∃ o, execHkResyncDone copy s = .next o ∧ Touches 2147483907 s o :=
  act_next rfl fun s h => by
    repeat' first
      | exact rfl
      | with_reducible assumption
      | with_reducible exact Touches.refl _ _
      | (with_reducible apply Touches.seq (State.hkResyncDone_touches ..))

theorem execLnkCfgWrite_next (s : State) (a : Acc) (lane : Fin 24) (value : Word) :
    ∃ o, execLnkCfgWrite a lane value s = .next o ∧ Touches 4278190067 s o :=
  actAll_next rfl fun s h => by
    repeat' first
      | exact rfl
      | with_reducible assumption
      | with_reducible exact Touches.refl _ _
      | (with_reducible apply Touches.seq (State.regWrite_touches ..))

theorem execEthRxFrame_next (s : State) (lane : Fin 24) (frame : List Byte) (codeError : Bool) (fecCorr fecUncorr : Nat) (room : Bool) :
    ∃ o, execEthRxFrame lane frame codeError fecCorr fecUncorr room s = .next o ∧ Touches 2684354579 s o :=
  act_next rfl fun s h => by
    repeat' first
      | exact rfl
      | with_reducible assumption
      | with_reducible exact Touches.refl _ _
      | (with_reducible apply Touches.seq (State.ethRx_touches ..))

theorem execEthTxSubmit_next (s : State) (lane : Fin 24) (frame : List Byte) (tag : Byte) (tsReq : Bool) :
    ∃ o, execEthTxSubmit lane frame tag tsReq s = .next o ∧ Touches 2684387331 s o :=
  act_next rfl fun s h => by
    repeat' first
      | exact rfl
      | with_reducible assumption
      | with_reducible exact Touches.refl _ _
      | (with_reducible apply Touches.seq (State.ethSubmit_touches ..))
      | (with_reducible apply Touches.iff)
      | (intro x; intros; try beta_reduce)

theorem execEthTxStart_next (s : State) (lane : Fin 24) :
    ∃ o, execEthTxStart lane s = .next o ∧ Touches 2147516435 s o :=
  act_next rfl fun s h => by
    repeat' first
      | exact rfl
      | with_reducible assumption
      | with_reducible exact Touches.refl _ _
      | (with_reducible apply Touches.seq (State.ethTxStart_touches ..))

theorem execTxtsPop_next (s : State) (m : Fin 16) (lane : Fin 24) :
    ∃ o, execTxtsPop m lane s = .next o ∧ Touches 2684408723 s o :=
  act_next rfl fun s h => by
    repeat' first
      | exact rfl
      | with_reducible assumption
      | with_reducible exact Touches.refl _ _
      | (with_reducible apply Touches.seq (State.busRead_touches ..))

theorem execPrbsClear_next (s : State) (a : Acc) (lane : Fin 24) (value : Word) :
    ∃ o, execPrbsClear a lane value s = .next o ∧ Touches 4278190067 s o :=
  actAll_next rfl fun s h => by
    repeat' first
      | exact rfl
      | with_reducible assumption
      | with_reducible exact Touches.refl _ _
      | (with_reducible apply Touches.seq (State.regWrite_touches ..))

theorem execPrbsLock_next (s : State) (lane : Fin 24) (locked : Bool) (bits errors : Nat) :
    ∃ o, execPrbsLock lane locked bits errors s = .next o ∧ Touches 2147483651 s o :=
  act_next rfl fun s h => by
    repeat' first
      | exact rfl
      | with_reducible assumption
      | with_reducible exact Touches.refl _ _
      | (with_reducible apply Touches.seq (State.prbsLock_touches ..))

theorem execEyeScanStart_next (s : State) (a : Acc) (lane : Fin 24) (value : Word) :
    ∃ o, execEyeScanStart a lane value s = .next o ∧ Touches 4278190067 s o :=
  actAll_next rfl fun s h => by
    repeat' first
      | exact rfl
      | with_reducible assumption
      | with_reducible exact Touches.refl _ _
      | (with_reducible apply Touches.seq (State.regWrite_touches ..))

theorem execEyeScanDone_next (s : State) (lane : Fin 24) (errors : Nat) :
    ∃ o, execEyeScanDone lane errors s = .next o ∧ Touches 4277141491 s o :=
  act_next rfl fun s h => by
    repeat' first
      | exact rfl
      | with_reducible assumption
      | with_reducible exact Touches.refl _ _
      | (with_reducible apply Touches.seq (State.eyeScanned_touches ..))

theorem execTrainingLock_next (s : State) (lane : Fin 24) (peerCap : BitVec 5) :
    ∃ o, execTrainingLock lane peerCap s = .next o ∧ Touches 2826813715 s o :=
  actAll_next rfl fun s h => by
    repeat' first
      | exact rfl
      | with_reducible assumption
      | with_reducible exact Touches.refl _ _
      | (with_reducible apply Touches.seq (State.trainingLock_touches ..))
      | (with_reducible apply Touches.seq (State.portsUpdate_touches ..))

theorem execRateStepSwitch_next (s : State) (lane : Fin 24) :
    ∃ o, execRateStepSwitch lane s = .next o ∧ Touches 2826813715 s o :=
  actAll_next rfl fun s h => by
    repeat' first
      | exact rfl
      | with_reducible assumption
      | with_reducible exact Touches.refl _ _
      | (with_reducible apply Touches.seq (State.rateStepSwitch_touches ..))
      | (with_reducible apply Touches.seq (State.portsUpdate_touches ..))

theorem execRateStepEnd_next (s : State) (lane : Fin 24) (checkerLocked : Bool) (bits errors : Nat) (peerFail : Bool) :
    ∃ o, execRateStepEnd lane checkerLocked bits errors peerFail s = .next o ∧ Touches 2826813715 s o :=
  actAll_next rfl fun s h => by
    repeat' first
      | exact rfl
      | with_reducible assumption
      | with_reducible exact Touches.refl _ _
      | (with_reducible apply Touches.seq (State.rateStepEnd_touches ..))
      | (with_reducible apply Touches.seq (State.portsUpdate_touches ..))

theorem execLaneSettle_next (s : State) (lane : Fin 24) :
    ∃ o, execLaneSettle lane s = .next o ∧ Touches 2826780947 s o :=
  actAll_next rfl fun s h => by
    repeat' first
      | exact rfl
      | with_reducible assumption
      | with_reducible exact Touches.refl _ _
      | (with_reducible apply Touches.seq (State.laneSettle_touches ..))
      | (with_reducible apply Touches.seq (State.portsUpdate_touches ..))

theorem execBringupRetry_next (s : State) (lane : Fin 24) :
    ∃ o, execBringupRetry lane s = .next o ∧ Touches 2826813715 s o :=
  actAll_next rfl fun s h => by
    repeat' first
      | exact rfl
      | with_reducible assumption
      | with_reducible exact Touches.refl _ _
      | (with_reducible apply Touches.seq (State.bringupRetry_touches ..))
      | (with_reducible apply Touches.seq (State.portsUpdate_touches ..))

theorem execLosDeclare_next (s : State) (lane : Fin 24) :
    ∃ o, execLosDeclare lane s = .next o ∧ Touches 2826817939 s o :=
  actAll_next rfl fun s h => by
    repeat' first
      | exact rfl
      | with_reducible assumption
      | with_reducible exact Touches.refl _ _
      | (with_reducible apply Touches.seq (State.losDeclared_touches ..))

theorem execLosClear_next (s : State) (lane : Fin 24) :
    ∃ o, execLosClear lane s = .next o ∧ Touches 2826780947 s o :=
  actAll_next rfl fun s h => by
    repeat' first
      | exact rfl
      | with_reducible assumption
      | with_reducible exact Touches.refl _ _
      | (with_reducible apply Touches.seq (State.losClear_touches ..))
      | (with_reducible apply Touches.seq (State.portsUpdate_touches ..))

theorem execCdrLoss_next (s : State) (lane : Fin 24) :
    ∃ o, execCdrLoss lane s = .next o ∧ Touches 2826817939 s o :=
  actAll_next rfl fun s h => by
    repeat' first
      | exact rfl
      | with_reducible assumption
      | with_reducible exact Touches.refl _ _
      | (with_reducible apply Touches.seq (State.cdrLost_touches ..))

theorem execLaneSync_next (s : State) (lane : Fin 24) (synced fecAligned : Bool) :
    ∃ o, execLaneSync lane synced fecAligned s = .next o ∧ Touches 2826780947 s o :=
  actAll_next rfl fun s h => by
    repeat' first
      | exact rfl
      | with_reducible assumption
      | with_reducible exact Touches.refl _ _
      | (with_reducible apply Touches.seq (State.laneSync_touches ..))

theorem execNvmDiscovery_next (s : State) (sfdp : Sfdp) :
    ∃ o, execNvmDiscovery sfdp s = .next o ∧ Touches 2221917495 s o :=
  act_next rfl fun s h => by
    repeat' first
      | exact rfl
      | with_reducible assumption
      | with_reducible exact Touches.refl _ _
      | (with_reducible apply Touches.seq (State.discovery_touches ..))

theorem execChunkRead_next (s : State) (stored : Option (List Byte)) :
    ∃ o, execChunkRead stored s = .next o ∧ Touches 2221917495 s o :=
  act_next rfl fun s h => by
    repeat' first
      | exact rfl
      | with_reducible assumption
      | with_reducible exact Touches.refl _ _
      | (with_reducible apply Touches.seq (State.chunkRead_touches ..))

theorem execHeaderRecord_next (s : State) (bytes : List Byte) :
    ∃ o, execHeaderRecord bytes s = .next o ∧ Touches 2221917495 s o :=
  act_next rfl fun s h => by
    repeat' first
      | exact rfl
      | with_reducible assumption
      | with_reducible exact Touches.refl _ _
      | (with_reducible apply Touches.seq (State.headerRecord_touches ..))

theorem execProfileRecord_next (s : State) :
    ∃ o, execProfileRecord s = .next o ∧ Touches 2221917495 s o :=
  act_next rfl fun s h => by
    repeat' first
      | exact rfl
      | with_reducible assumption
      | with_reducible exact Touches.refl _ _
      | (with_reducible apply Touches.seq (State.profileRecord_touches ..))

theorem execKeywrapRecord_next (s : State) :
    ∃ o, execKeywrapRecord s = .next o ∧ Touches 2221917495 s o :=
  act_next rfl fun s h => by
    repeat' first
      | exact rfl
      | with_reducible assumption
      | with_reducible exact Touches.refl _ _
      | (with_reducible apply Touches.seq (State.keywrapRecord_touches ..))

theorem execBandsRecord_next (s : State) :
    ∃ o, execBandsRecord s = .next o ∧ Touches 2221917495 s o :=
  act_next rfl fun s h => by
    repeat' first
      | exact rfl
      | with_reducible assumption
      | with_reducible exact Touches.refl _ _
      | (with_reducible apply Touches.seq (State.bandsRecord_touches ..))

theorem execPinsRecord_next (s : State) :
    ∃ o, execPinsRecord s = .next o ∧ Touches 2221917495 s o :=
  act_next rfl fun s h => by
    repeat' first
      | exact rfl
      | with_reducible assumption
      | with_reducible exact Touches.refl _ _
      | (with_reducible apply Touches.seq (State.pinsRecord_touches ..))

theorem execFrameRecord_next (s : State) :
    ∃ o, execFrameRecord s = .next o ∧ Touches 3295669559 s o :=
  act_next rfl fun s h => by
    repeat' first
      | exact rfl
      | with_reducible assumption
      | with_reducible exact Touches.refl _ _
      | (with_reducible apply Touches.seq (State.frameRecord_touches ..))

theorem execRepeatRecord_next (s : State) (sbe : List (Fin 1024)) (dbe : Option (Fin 1024)) :
    ∃ o, execRepeatRecord sbe dbe s = .next o ∧ Touches 2221919543 s o :=
  act_next rfl fun s h => by
    repeat' first
      | exact rfl
      | with_reducible assumption
      | with_reducible exact Touches.refl _ _
      | (with_reducible apply Touches.seq (State.repeatRecord_touches ..))

theorem execFillRecord_next (s : State) :
    ∃ o, execFillRecord s = .next o ∧ Touches 2221919543 s o :=
  act_next rfl fun s h => by
    repeat' first
      | exact rfl
      | with_reducible assumption
      | with_reducible exact Touches.refl _ _
      | (with_reducible apply Touches.seq (State.fillRecord_touches ..))

theorem execRegionEndRecord_next (s : State) :
    ∃ o, execRegionEndRecord s = .next o ∧ Touches 2221917495 s o :=
  act_next rfl fun s h => by
    repeat' first
      | exact rfl
      | with_reducible assumption
      | with_reducible exact Touches.refl _ _
      | (with_reducible apply Touches.seq (State.regionEndRecord_touches ..))

theorem execMaskRecord_next (s : State) :
    ∃ o, execMaskRecord s = .next o ∧ Touches 2221917495 s o :=
  act_next rfl fun s h => by
    repeat' first
      | exact rfl
      | with_reducible assumption
      | with_reducible exact Touches.refl _ _
      | (with_reducible apply Touches.seq (State.maskRecord_touches ..))

theorem execSlotsRecord_next (s : State) :
    ∃ o, execSlotsRecord s = .next o ∧ Touches 2221917495 s o :=
  act_next rfl fun s h => by
    repeat' first
      | exact rfl
      | with_reducible assumption
      | with_reducible exact Touches.refl _ _
      | (with_reducible apply Touches.seq (State.slotsRecord_touches ..))

theorem execEndRecord_next (s : State) :
    ∃ o, execEndRecord s = .next o ∧ Touches 2894055223 s o :=
  actAll_next rfl fun s h => by
    repeat' first
      | exact rfl
      | with_reducible assumption
      | with_reducible exact Touches.refl _ _
      | (with_reducible apply Touches.seq (State.endRecord_touches ..))

theorem execFabricRelease_next (s : State) (us : Nat) :
    ∃ o, execFabricRelease us s = .next o ∧ Touches 4194303475 s o :=
  actAll_next rfl fun s h => by
    repeat' first
      | exact rfl
      | with_reducible assumption
      | with_reducible exact Touches.refl _ _
      | (with_reducible apply Touches.seq (State.fabricRelease_touches ..))

theorem execCfgAudit_next (s : State) (a : Acc) (key : BitVec 16) (golden : Bool) :
    ∃ o, execCfgAudit a key golden s = .next o ∧ Touches 4278190067 s o :=
  actAll_next rfl fun s h => by
    repeat' first
      | exact rfl
      | with_reducible assumption
      | with_reducible exact Touches.refl _ _
      | (with_reducible apply Touches.seq (State.regWrite_touches ..))

theorem execAuditPeriod_next (s : State) :
    ∃ o, execAuditPeriod s = .next o ∧ Touches 2147484675 s o :=
  act_next rfl fun s h => by
    repeat' first
      | exact rfl
      | with_reducible assumption
      | with_reducible exact Touches.refl _ _
      | (with_reducible apply Touches.seq (State.auditPeriod_touches ..))

theorem execAuditDone_next (s : State) (header : List Byte) (chunks : List (Option (List Byte))) :
    ∃ o, execAuditDone header chunks s = .next o ∧ Touches 2147484947 s o :=
  act_next rfl fun s h => by
    repeat' first
      | exact rfl
      | with_reducible assumption
      | with_reducible exact Touches.refl _ _
      | (with_reducible apply Touches.seq (State.auditDone_touches ..))

theorem execCfgNvmRead_next (s : State) (a : Acc) (key : BitVec 16) :
    ∃ o, execCfgNvmRead a key s = .next o ∧ Touches 4278190067 s o :=
  actAll_next rfl fun s h => by
    repeat' first
      | exact rfl
      | with_reducible assumption
      | with_reducible exact Touches.refl _ _
      | (with_reducible apply Touches.seq (State.regWrite_touches ..))

theorem execCfgNvmProgram_next (s : State) (a : Acc) (key : BitVec 16) :
    ∃ o, execCfgNvmProgram a key s = .next o ∧ Touches 4278190067 s o :=
  actAll_next rfl fun s h => by
    repeat' first
      | exact rfl
      | with_reducible assumption
      | with_reducible exact Touches.refl _ _
      | (with_reducible apply Touches.seq (State.regWrite_touches ..))

theorem execCfgNvmErase_next (s : State) (a : Acc) (key : BitVec 16) :
    ∃ o, execCfgNvmErase a key s = .next o ∧ Touches 4278190067 s o :=
  actAll_next rfl fun s h => by
    repeat' first
      | exact rfl
      | with_reducible assumption
      | with_reducible exact Touches.refl _ _
      | (with_reducible apply Touches.seq (State.regWrite_touches ..))

theorem execNvmOpDone_next (s : State) (ok : Bool) (data : List Byte) :
    ∃ o, execNvmOpDone ok data s = .next o ∧ Touches 2147484675 s o :=
  act_next rfl fun s h => by
    repeat' first
      | exact rfl
      | with_reducible assumption
      | with_reducible exact Touches.refl _ _
      | (with_reducible apply Touches.seq (State.nvmEnd_touches ..))

theorem execFuseProgram_next (s : State) (a : Acc) (go : BitVec 16) :
    ∃ o, execFuseProgram a go s = .next o ∧ Touches 4278190067 s o :=
  actAll_next rfl fun s h => by
    repeat' first
      | exact rfl
      | with_reducible assumption
      | with_reducible exact Touches.refl _ _
      | (with_reducible apply Touches.seq (State.regWrite_touches ..))

theorem execFuseDone_next (s : State) (verified : Bool) :
    ∃ o, execFuseDone verified s = .next o ∧ Touches 2147484675 s o :=
  act_next rfl fun s h => by
    repeat' first
      | exact rfl
      | with_reducible assumption
      | with_reducible exact Touches.refl _ _
      | (with_reducible apply Touches.seq (State.fuseEnd_touches ..))

end Sys2Proof.Machine
end

