-- ==== Sys2Proof/Laws/Next2.lean ====
section
/-! SUPPORT. Each command of ModemCmds, MonitorCmds, PinCmds, PllCmds, PortCmds answers a next state, and what it can change: one lemma per command. -/
namespace Sys2Proof.Machine

theorem execLmdTxSubmit_next (s : State) (t : Fin 2) (payload : List Byte) (rate : Fin 4) (tag : Byte) :
    ∃ o, execLmdTxSubmit t payload rate tag s = .next o ∧ Touches 2826780947 s o :=
  actAll_next rfl fun s h => by
    repeat' first
      | exact rfl
      | with_reducible assumption
      | with_reducible exact Touches.refl _ _
      | (with_reducible apply Touches.seq (State.streamTake_touches ..))
      | (with_reducible apply Touches.seq (State.lmdSubmit_touches ..))
      | (with_reducible apply Touches.iff)
      | (intro x; intros; try beta_reduce)

theorem execBurstStart_next (s : State) (t : Fin 2) :
    ∃ o, execBurstStart t s = .next o ∧ Touches 2149580819 s o :=
  act_next rfl fun s h => by
    repeat' first
      | exact rfl
      | with_reducible assumption
      | with_reducible exact Touches.refl _ _
      | (with_reducible apply Touches.seq (State.burstStart_touches ..))

theorem execBurstEnd_next (s : State) (t : Fin 2) :
    ∃ o, execBurstEnd t s = .next o ∧ Touches 2149580803 s o :=
  act_next rfl fun s h => by
    repeat' first
      | exact rfl
      | with_reducible assumption
      | with_reducible exact Touches.refl _ _
      | (with_reducible apply Touches.seq (State.burstEnd_touches ..))

theorem execLmdTxCancel_next (s : State) (t : Fin 2) (tag : Byte) :
    ∃ o, execLmdTxCancel t tag s = .next o ∧ Touches 2826780947 s o :=
  actAll_next rfl fun s h => by
    repeat' first
      | exact rfl
      | with_reducible assumption
      | with_reducible exact Touches.refl _ _
      | (with_reducible apply Touches.seq (State.lmdCancel_touches ..))
      | (with_reducible apply Touches.iff)
      | (intro x; intros; try beta_reduce)

theorem execTpBlockStart_next (s : State) (t : Fin 2) (mismatch : Bool) :
    ∃ o, execTpBlockStart t mismatch s = .next o ∧ Touches 2149597459 s o :=
  act_next rfl fun s h => by
    repeat' first
      | exact rfl
      | with_reducible assumption
      | with_reducible exact Touches.refl _ _
      | (with_reducible apply Touches.seq (State.tpDue_touches ..))

theorem execTpcmdChange_next (s : State) (t : Fin 2) (vector : BitVec 4) (mismatch : Bool) :
    ∃ o, execTpcmdChange t vector mismatch s = .next o ∧ Touches 2149597459 s o :=
  act_next rfl fun s h => by
    repeat' first
      | exact rfl
      | with_reducible assumption
      | with_reducible exact Touches.refl _ _
      | (with_reducible apply Touches.seq (State.tpSample_touches ..))

theorem execPreambleDetect_next (s : State) (r : Fin 2) (slot : Fin 4) (corr : Nat) :
    ∃ o, execPreambleDetect r slot corr s = .next o ∧ Touches 2151677955 s o :=
  act_next rfl fun s h => by
    repeat' first
      | exact rfl
      | with_reducible assumption
      | with_reducible exact Touches.refl _ _
      | (with_reducible apply Touches.seq (State.rxPreamble_touches ..))

theorem execRxBurst_next (s : State) (r : Fin 2) (header payload : List Int) (snr : Nat) (room : Bool) :
    ∃ o, execRxBurst r header payload snr room s = .next o ∧ Touches 2688548883 s o :=
  act_next rfl fun s h => by
    repeat' first
      | exact rfl
      | with_reducible assumption
      | with_reducible exact Touches.refl _ _
      | (with_reducible apply Touches.seq (State.rxBurst_touches ..))

theorem execRxGuardBlock_next (s : State) (r : Fin 2) (coded : List Int) (erased preempted : Bool) (snr : Nat) :
    ∃ o, execRxGuardBlock r coded erased preempted snr s = .next o ∧ Touches 2151677955 s o :=
  act_next rfl fun s h => by
    repeat' first
      | exact rfl
      | with_reducible assumption
      | with_reducible exact Touches.refl _ _
      | (with_reducible apply Touches.seq (State.rxShort_touches ..))
      | (with_reducible apply Touches.seq (State.rxBlockEnd_touches ..))

theorem execRxCommandBlock_next (s : State) (r : Fin 2) (coded : List Int) (erased preempted truncated : Bool) (snr : Nat) :
    ∃ o, execRxCommandBlock r coded erased preempted truncated snr s = .next o ∧ Touches 2151677955 s o :=
  act_next rfl fun s h => by
    repeat' first
      | exact rfl
      | with_reducible assumption
      | with_reducible exact Touches.refl _ _
      | (with_reducible apply Touches.seq (State.rxTruncated_touches ..))
      | (with_reducible apply Touches.seq (State.rxShort_touches ..))
      | (with_reducible apply Touches.seq (State.rxBlockEnd_touches ..))
      | (with_reducible apply Touches.ite)

theorem execRxStartBlock_next (s : State) (r : Fin 2) (coded : List Int) (erased preempted : Bool) (snr : Nat) :
    ∃ o, execRxStartBlock r coded erased preempted snr s = .next o ∧ Touches 2151677955 s o :=
  act_next rfl fun s h => by
    repeat' first
      | exact rfl
      | with_reducible assumption
      | with_reducible exact Touches.refl _ _
      | (with_reducible apply Touches.seq (State.rxStart_touches ..))
      | (with_reducible apply Touches.seq (State.rxBlockEnd_touches ..))

theorem execCmdHoldExpiry_next (s : State) (r : Fin 2) :
    ∃ o, execCmdHoldExpiry r s = .next o ∧ Touches 2147483651 s o :=
  act_next rfl fun s h => by
    repeat' first
      | exact rfl
      | with_reducible assumption
      | with_reducible exact Touches.refl _ _
      | (with_reducible apply Touches.seq (State.cmdHold_touches ..))

theorem execGuardLossExpiry_next (s : State) (r : Fin 2) :
    ∃ o, execGuardLossExpiry r s = .next o ∧ Touches 2151677955 s o :=
  act_next rfl fun s h => by
    repeat' first
      | exact rfl
      | with_reducible assumption
      | with_reducible exact Touches.refl _ _
      | (with_reducible apply Touches.seq (State.guardLoss_touches ..))

theorem execRxResyncTimeout_next (s : State) (r : Fin 2) :
    ∃ o, execRxResyncTimeout r s = .next o ∧ Touches 2151677955 s o :=
  act_next rfl fun s h => by
    repeat' first
      | exact rfl
      | with_reducible assumption
      | with_reducible exact Touches.refl _ _
      | (with_reducible apply Touches.seq (State.rxTimeout_touches ..))

theorem execMaskWindowEnd_next (s : State) (paHigh sent : Bool) (bins : List Nat) (total : Nat) :
    ∃ o, execMaskWindowEnd paHigh sent bins total s = .next o ∧ Touches 2149581075 s o :=
  act_next rfl fun s h => by
    repeat' first
      | exact rfl
      | with_reducible assumption
      | with_reducible exact Touches.refl _ _
      | (with_reducible apply Touches.seq (State.maskWindow_touches ..))

theorem execTxRestart_next (s : State) (a : Acc) (key : BitVec 16) :
    ∃ o, execTxRestart a key s = .next o ∧ Touches 4278190067 s o :=
  actAll_next rfl fun s h => by
    repeat' first
      | exact rfl
      | with_reducible assumption
      | with_reducible exact Touches.refl _ _
      | (with_reducible apply Touches.seq (State.regWrite_touches ..))

theorem execRxResync_next (s : State) (a : Acc) (key : BitVec 16) (r : Fin 2) :
    ∃ o, execRxResync a key r s = .next o ∧ Touches 4278190067 s o :=
  actAll_next rfl fun s h => by
    repeat' first
      | exact rfl
      | with_reducible assumption
      | with_reducible exact Touches.refl _ _
      | (with_reducible apply Touches.seq (State.regWrite_touches ..))

theorem execRampUpDone_next (s : State) (t : Fin 2) :
    ∃ o, execRampUpDone t s = .next o ∧ Touches 2147483651 s o :=
  act_next rfl fun s h => by
    repeat' first
      | exact rfl
      | with_reducible assumption
      | with_reducible exact Touches.refl _ _
      | (with_reducible apply Touches.seq (State.rampUp_touches ..))

theorem execRampDownDone_next (s : State) (t : Fin 2) :
    ∃ o, execRampDownDone t s = .next o ∧ Touches 2826780947 s o :=
  actAll_next rfl fun s h => by
    repeat' first
      | exact rfl
      | with_reducible assumption
      | with_reducible exact Touches.refl _ _
      | (with_reducible apply Touches.seq (State.rampDown_touches ..))

theorem execLmdChannelWrite_next (s : State) (a : Acc) (addr value : Word) :
    ∃ o, execLmdChannelWrite a addr value s = .next o ∧ Touches 4278190067 s o :=
  actAll_next rfl fun s h => by
    repeat' first
      | exact rfl
      | with_reducible assumption
      | with_reducible exact Touches.refl _ _
      | (with_reducible apply Touches.seq (State.busWrite_touches ..))

theorem execMonHelp_next (s : State) (cmd : Option (List Byte)) :
    ∃ o, execMonHelp cmd s = .next o ∧ Touches 2281701651 s o :=
  act_next rfl fun s h => by
    repeat' first
      | exact rfl
      | with_reducible assumption
      | with_reducible exact Touches.refl _ _
      | (with_reducible apply State.monLine_touches)
      | (with_reducible apply Touches.seq (State.monHelp_touches ..))
      | (intro x; intros; try beta_reduce)

theorem execMonLogin_next (s : State) :
    ∃ o, execMonLogin s = .next o ∧ Touches 2826780947 s o :=
  actAll_next rfl fun s h => by
    repeat' first
      | exact rfl
      | with_reducible assumption
      | with_reducible exact Touches.refl _ _
      | (with_reducible apply State.monLine_touches)
      | (with_reducible apply Touches.seq (State.login_touches ..))
      | (intro x; intros; try beta_reduce)

theorem execMonLoginResponse_next (s : State) (bytes : List Byte) :
    ∃ o, execMonLoginResponse bytes s = .next o ∧ Touches 2826780947 s o :=
  actAll_next rfl fun s h => by
    repeat' first
      | exact rfl
      | with_reducible assumption
      | with_reducible exact Touches.refl _ _
      | (with_reducible apply State.monLine_touches)
      | (with_reducible apply Touches.seq (State.loginTry_touches ..))
      | (intro x; intros; try beta_reduce)

theorem execMonLoginOff_next (s : State) :
    ∃ o, execMonLoginOff s = .next o ∧ Touches 2281701651 s o :=
  act_next rfl fun s h => by
    repeat' first
      | exact rfl
      | with_reducible assumption
      | with_reducible exact Touches.refl _ _
      | (with_reducible apply State.monLine_touches)
      | (with_reducible apply Touches.seq (State.loginOff_touches ..))
      | (intro x; intros; try beta_reduce)

theorem execMonStatus_next (s : State) :
    ∃ o, execMonStatus s = .next o ∧ Touches 2818626451 s o :=
  act_next rfl fun s h => by
    repeat' first
      | exact rfl
      | with_reducible assumption
      | with_reducible exact Touches.refl _ _
      | (with_reducible apply State.monLine_touches)
      | (with_reducible apply Touches.seq (State.monStatus_touches ..))
      | (intro x; intros; try beta_reduce)

theorem execMonPeek_next (s : State) (addr : Word) (n : Nat) :
    ∃ o, execMonPeek addr n s = .next o ∧ Touches 2818626451 s o :=
  act_next rfl fun s h => by
    repeat' first
      | exact rfl
      | with_reducible assumption
      | with_reducible exact Touches.refl _ _
      | (with_reducible apply State.monLine_touches)
      | (with_reducible apply Touches.seq (State.monPeek_touches ..))
      | (intro x; intros; try beta_reduce)

theorem execMonPoke_next (s : State) (addr value : Word) :
    ∃ o, execMonPoke addr value s = .next o ∧ Touches 4278190067 s o :=
  actAll_next rfl fun s h => by
    repeat' first
      | exact rfl
      | with_reducible assumption
      | with_reducible exact Touches.refl _ _
      | (with_reducible apply State.monLine_touches)
      | (with_reducible apply Touches.seq (State.monPoke_touches ..))
      | (intro x; intros; try beta_reduce)

theorem execMonFill_next (s : State) (addr : Word) (n : Nat) (value : Word) :
    ∃ o, execMonFill addr n value s = .next o ∧ Touches 4278190067 s o :=
  actAll_next rfl fun s h => by
    repeat' first
      | exact rfl
      | with_reducible assumption
      | with_reducible exact Touches.refl _ _
      | (with_reducible apply State.monLine_touches)
      | (with_reducible apply Touches.seq (State.monFill_touches ..))
      | (intro x; intros; try beta_reduce)

theorem execMonFault_next (s : State) :
    ∃ o, execMonFault s = .next o ∧ Touches 2818626451 s o :=
  act_next rfl fun s h => by
    repeat' first
      | exact rfl
      | with_reducible assumption
      | with_reducible exact Touches.refl _ _
      | (with_reducible apply State.monLine_touches)
      | (with_reducible apply Touches.seq (State.monFault_touches ..))
      | (intro x; intros; try beta_reduce)

theorem execMonFaultClear_next (s : State) :
    ∃ o, execMonFaultClear s = .next o ∧ Touches 4278190067 s o :=
  actAll_next rfl fun s h => by
    repeat' first
      | exact rfl
      | with_reducible assumption
      | with_reducible exact Touches.refl _ _
      | (with_reducible apply State.monLine_touches)
      | (with_reducible apply Touches.seq (State.monFaultClear_touches ..))
      | (intro x; intros; try beta_reduce)

theorem execMonLog_next (s : State) (pinned : Bool) (n : Nat) :
    ∃ o, execMonLog pinned n s = .next o ∧ Touches 2281701651 s o :=
  act_next rfl fun s h => by
    repeat' first
      | exact rfl
      | with_reducible assumption
      | with_reducible exact Touches.refl _ _
      | (with_reducible apply State.monLine_touches)
      | (with_reducible apply Touches.seq (State.monLogCmd_touches ..))
      | (intro x; intros; try beta_reduce)

theorem execMonLanes_next (s : State) (lane : Option Nat) :
    ∃ o, execMonLanes lane s = .next o ∧ Touches 2818626451 s o :=
  act_next rfl fun s h => by
    repeat' first
      | exact rfl
      | with_reducible assumption
      | with_reducible exact Touches.refl _ _
      | (with_reducible apply State.monLine_touches)
      | (with_reducible apply Touches.seq (State.monLanes_touches ..))
      | (intro x; intros; try beta_reduce)

theorem execMonEye_next (s : State) (lane : Nat) (p0 p1 v0 v1 : Int) (dwell : Nat) :
    ∃ o, execMonEye lane p0 p1 v0 v1 dwell s = .next o ∧ Touches 4278190067 s o :=
  actAll_next rfl fun s h => by
    repeat' first
      | exact rfl
      | with_reducible assumption
      | with_reducible exact Touches.refl _ _
      | (with_reducible apply State.monLine_touches)
      | (with_reducible apply Touches.seq (State.monEye_touches ..))
      | (intro x; intros; try beta_reduce)

theorem execMonSound_next (s : State) (set : Option Nat) :
    ∃ o, execMonSound set s = .next o ∧ Touches 2818626451 s o :=
  act_next rfl fun s h => by
    repeat' first
      | exact rfl
      | with_reducible assumption
      | with_reducible exact Touches.refl _ _
      | (with_reducible apply State.monLine_touches)
      | (with_reducible apply Touches.seq (State.monSound_touches ..))
      | (intro x; intros; try beta_reduce)

theorem execMonSoundApply_next (s : State) (set : Nat) (c : CoefSet) :
    ∃ o, execMonSoundApply set c s = .next o ∧ Touches 4278190067 s o :=
  actAll_next rfl fun s h => by
    repeat' first
      | exact rfl
      | with_reducible assumption
      | with_reducible exact Touches.refl _ _
      | (with_reducible apply State.monLine_touches)
      | (with_reducible apply Touches.seq (State.monSoundApply_touches ..))
      | (intro x; intros; try beta_reduce)

theorem execMonSoundForce_next (s : State) (slice : Nat) :
    ∃ o, execMonSoundForce slice s = .next o ∧ Touches 4278190067 s o :=
  actAll_next rfl fun s h => by
    repeat' first
      | exact rfl
      | with_reducible assumption
      | with_reducible exact Touches.refl _ _
      | (with_reducible apply State.monLine_touches)
      | (with_reducible apply Touches.seq (State.monSoundForce_touches ..))
      | (intro x; intros; try beta_reduce)

theorem execMonBands_next (s : State) (pll : Nat) :
    ∃ o, execMonBands pll s = .next o ∧ Touches 2281701651 s o :=
  act_next rfl fun s h => by
    repeat' first
      | exact rfl
      | with_reducible assumption
      | with_reducible exact Touches.refl _ _
      | (with_reducible apply State.monLine_touches)
      | (with_reducible apply Touches.seq (State.monBands_touches ..))
      | (intro x; intros; try beta_reduce)

theorem execMonBandsWrite_next (s : State) (pll entry code : Nat) (fmin fmax : Word) :
    ∃ o, execMonBandsWrite pll entry code fmin fmax s = .next o ∧ Touches 4278190067 s o :=
  actAll_next rfl fun s h => by
    repeat' first
      | exact rfl
      | with_reducible assumption
      | with_reducible exact Touches.refl _ _
      | (with_reducible apply State.monLine_touches)
      | (with_reducible apply Touches.seq (State.monBandsWrite_touches ..))
      | (intro x; intros; try beta_reduce)

theorem execMonFix_next (s : State) :
    ∃ o, execMonFix s = .next o ∧ Touches 2818626451 s o :=
  act_next rfl fun s h => by
    repeat' first
      | exact rfl
      | with_reducible assumption
      | with_reducible exact Touches.refl _ _
      | (with_reducible apply State.monLine_touches)
      | (with_reducible apply Touches.seq (State.monFix_touches ..))
      | (intro x; intros; try beta_reduce)

theorem execMonImage_next (s : State) (frames : Bool) :
    ∃ o, execMonImage frames s = .next o ∧ Touches 2818626451 s o :=
  act_next rfl fun s h => by
    repeat' first
      | exact rfl
      | with_reducible assumption
      | with_reducible exact Touches.refl _ _
      | (with_reducible apply State.monLine_touches)
      | (with_reducible apply Touches.seq (State.monImage_touches ..))
      | (intro x; intros; try beta_reduce)

theorem execMonImageAudit_next (s : State) (golden : Bool) :
    ∃ o, execMonImageAudit golden s = .next o ∧ Touches 4278190067 s o :=
  actAll_next rfl fun s h => by
    repeat' first
      | exact rfl
      | with_reducible assumption
      | with_reducible exact Touches.refl _ _
      | (with_reducible apply State.monLine_touches)
      | (with_reducible apply Touches.seq (State.monImageAudit_touches ..))
      | (intro x; intros; try beta_reduce)

theorem execMonImageReload_next (s : State) (golden : Bool) :
    ∃ o, execMonImageReload golden s = .next o ∧ Touches 4278190067 s o :=
  actAll_next rfl fun s h => by
    repeat' first
      | exact rfl
      | with_reducible assumption
      | with_reducible exact Touches.refl _ _
      | (with_reducible apply State.monLine_touches)
      | (with_reducible apply Touches.seq (State.monImageReload_touches ..))
      | (intro x; intros; try beta_reduce)

theorem execMonPartial_next (s : State) :
    ∃ o, execMonPartial s = .next o ∧ Touches 2818626451 s o :=
  act_next rfl fun s h => by
    repeat' first
      | exact rfl
      | with_reducible assumption
      | with_reducible exact Touches.refl _ _
      | (with_reducible apply State.monLine_touches)
      | (with_reducible apply Touches.seq (State.monPartial_touches ..))
      | (intro x; intros; try beta_reduce)

theorem execMonPartialLoad_next (s : State) (region bank : Nat) :
    ∃ o, execMonPartialLoad region bank s = .next o ∧ Touches 4278190067 s o :=
  actAll_next rfl fun s h => by
    repeat' first
      | exact rfl
      | with_reducible assumption
      | with_reducible exact Touches.refl _ _
      | (with_reducible apply State.monLine_touches)
      | (with_reducible apply Touches.seq (State.monPartialLoad_touches ..))
      | (intro x; intros; try beta_reduce)

theorem execMonPartialCancel_next (s : State) :
    ∃ o, execMonPartialCancel s = .next o ∧ Touches 4278190067 s o :=
  actAll_next rfl fun s h => by
    repeat' first
      | exact rfl
      | with_reducible assumption
      | with_reducible exact Touches.refl _ _
      | (with_reducible apply State.monLine_touches)
      | (with_reducible apply Touches.seq (State.monPartialCancel_touches ..))
      | (intro x; intros; try beta_reduce)

theorem execMonSlots_next (s : State) (slot : Option Nat) (key : Bool) :
    ∃ o, execMonSlots slot key s = .next o ∧ Touches 2818626451 s o :=
  act_next rfl fun s h => by
    repeat' first
      | exact rfl
      | with_reducible assumption
      | with_reducible exact Touches.refl _ _
      | (with_reducible apply State.monLine_touches)
      | (with_reducible apply Touches.seq (State.monSlots_touches ..))
      | (intro x; intros; try beta_reduce)

theorem execMonSlotsErase_next (s : State) :
    ∃ o, execMonSlotsErase s = .next o ∧ Touches 3900530963 s o :=
  actAll_next rfl fun s h => by
    repeat' first
      | exact rfl
      | with_reducible assumption
      | with_reducible exact Touches.refl _ _
      | (with_reducible apply State.monLine_touches)
      | (with_reducible apply Touches.seq (State.monSlotsErase_touches ..))
      | (intro x; intros; try beta_reduce)

theorem execMonSlotsZero_next (s : State) :
    ∃ o, execMonSlotsZero s = .next o ∧ Touches 4278190067 s o :=
  actAll_next rfl fun s h => by
    repeat' first
      | exact rfl
      | with_reducible assumption
      | with_reducible exact Touches.refl _ _
      | (with_reducible apply State.monLine_touches)
      | (with_reducible apply Touches.seq (State.monSlotsZero_touches ..))
      | (intro x; intros; try beta_reduce)

theorem execMonAbort_next (s : State) :
    ∃ o, execMonAbort s = .next o ∧ Touches 2826780947 s o :=
  actAll_next rfl fun s h => by
    repeat' first
      | exact rfl
      | with_reducible assumption
      | with_reducible exact Touches.refl _ _
      | (with_reducible apply Touches.seq (State.monAbort_touches ..))

theorem execMonIdleExpiry_next (s : State) :
    ∃ o, execMonIdleExpiry s = .next o ∧ Touches 2826780947 s o :=
  actAll_next rfl fun s h => by
    repeat' first
      | exact rfl
      | with_reducible assumption
      | with_reducible exact Touches.refl _ _
      | (with_reducible apply Touches.seq (State.monIdle_touches ..))

theorem execMonLockoutEnd_next (s : State) :
    ∃ o, execMonLockoutEnd s = .next o ∧ Touches 2826780947 s o :=
  actAll_next rfl fun s h => by
    repeat' first
      | exact rfl
      | with_reducible assumption
      | with_reducible exact Touches.refl _ _
      | (with_reducible apply Touches.seq (State.lockoutEnd_touches ..))

theorem execEndControl_next (s : State) (a : Acc) (key : BitVec 16) :
    ∃ o, execEndControl a key s = .next o ∧ Touches 4278190067 s o :=
  actAll_next rfl fun s h => by
    repeat' first
      | exact rfl
      | with_reducible assumption
      | with_reducible exact Touches.refl _ _
      | (with_reducible apply Touches.seq (State.regWrite_touches ..))

theorem execCommandLine_next (s : State) (line : List Byte) (framingErrors : Nat) :
    ∃ o, execCommandLine line framingErrors s = .next o ∧ Touches 2826780947 s o :=
  actAll_next rfl fun s h => by
    repeat' first
      | exact rfl
      | with_reducible assumption
      | with_reducible exact Touches.refl _ _
      | (with_reducible apply Touches.seq (State.commandLine_touches ..))

theorem execPinModeChange_next (s : State) (a : Acc) (bank : Fin 6) (value : Word) :
    ∃ o, execPinModeChange a bank value s = .next o ∧ Touches 4278190067 s o :=
  actAll_next rfl fun s h => by
    repeat' first
      | exact rfl
      | with_reducible assumption
      | with_reducible exact Touches.refl _ _
      | (with_reducible apply Touches.seq (State.regWrite_touches ..))

theorem execPinClaimChange_next (s : State) (a : Acc) (bank : Fin 6) (value : Word) :
    ∃ o, execPinClaimChange a bank value s = .next o ∧ Touches 4278190067 s o :=
  actAll_next rfl fun s h => by
    repeat' first
      | exact rfl
      | with_reducible assumption
      | with_reducible exact Touches.refl _ _
      | (with_reducible apply Touches.seq (State.regWrite_touches ..))

theorem execBankIoUp_next (s : State) (bank : Fin 6) :
    ∃ o, execBankIoUp bank s = .next o ∧ Touches 2692714963 s o :=
  act_next rfl fun s h => by
    repeat' first
      | exact rfl
      | with_reducible assumption
      | with_reducible exact Touches.refl _ _
      | (with_reducible apply Touches.seq (State.railUp_touches ..))
      | (with_reducible apply Touches.iff)
      | (intro x; intros; try beta_reduce)

theorem execBankIoDown_next (s : State) (bank : Fin 6) :
    ∃ o, execBankIoDown bank s = .next o ∧ Touches 2222952915 s o :=
  act_next rfl fun s h => by
    repeat' first
      | exact rfl
      | with_reducible assumption
      | with_reducible exact Touches.refl _ _
      | (with_reducible apply Touches.seq (State.railDown_touches ..))
      | (with_reducible apply Touches.iff)
      | (intro x; intros; try beta_reduce)

theorem execPllApply_next (s : State) (a : Acc) (n : Fin 11) (key : BitVec 16) :
    ∃ o, execPllApply a n key s = .next o ∧ Touches 4278190067 s o :=
  actAll_next rfl fun s h => by
    repeat' first
      | exact rfl
      | with_reducible assumption
      | with_reducible exact Touches.refl _ _
      | (with_reducible apply Touches.seq (State.regWrite_touches ..))

theorem execPllUnmute_next (s : State) (a : Acc) (n : Fin 11) (key : BitVec 16) :
    ∃ o, execPllUnmute a n key s = .next o ∧ Touches 4278190067 s o :=
  actAll_next rfl fun s h => by
    repeat' first
      | exact rfl
      | with_reducible assumption
      | with_reducible exact Touches.refl _ _
      | (with_reducible apply Touches.seq (State.regWrite_touches ..))

theorem execPllLock_next (s : State) (n : Fin 11) :
    ∃ o, execPllLock n s = .next o ∧ Touches 2894053651 s o :=
  actAll_next rfl fun s h => by
    repeat' first
      | exact rfl
      | with_reducible assumption
      | with_reducible exact Touches.refl _ _
      | (with_reducible apply Touches.seq (State.pllLock_touches ..))

theorem execPllLockTimeout_next (s : State) (n : Fin 11) :
    ∃ o, execPllLockTimeout n s = .next o ∧ Touches 2893889811 s o :=
  actAll_next rfl fun s h => by
    repeat' first
      | exact rfl
      | with_reducible assumption
      | with_reducible exact Touches.refl _ _
      | (with_reducible apply Touches.seq (State.pllTimeout_touches ..))

theorem execPllLossOfLock_next (s : State) (n : Fin 11) :
    ∃ o, execPllLossOfLock n s = .next o ∧ Touches 2894053651 s o :=
  actAll_next rfl fun s h => by
    repeat' first
      | exact rfl
      | with_reducible assumption
      | with_reducible exact Touches.refl _ _
      | (with_reducible apply Touches.seq (State.pllLol_touches ..))

theorem execRefLoss_next (s : State) (r : Fin 6) :
    ∃ o, execRefLoss r s = .next o ∧ Touches 2894058807 s o :=
  actAll_next rfl fun s h => by
    repeat' first
      | exact rfl
      | with_reducible assumption
      | with_reducible exact Touches.refl _ _
      | (extract_lets +onlyGivenNames v1; clear_value v1)
      | (with_reducible apply Touches.seq (State.refLoss_touches ..))
      | (with_reducible apply Touches.seq (State.loadClock_touches ..))
      | (with_reducible apply Touches.iff)
      | (intro x; intros; try beta_reduce)

theorem execRefQualified_next (s : State) (r : Fin 6) (first khz : Nat) :
    ∃ o, execRefQualified r first khz s = .next o ∧ Touches 2893926803 s o :=
  actAll_next rfl fun s h => by
    repeat' first
      | exact rfl
      | with_reducible assumption
      | with_reducible exact Touches.refl _ _
      | (with_reducible apply Touches.seq (State.refQualified_touches ..))

theorem execBandEntryWrite_next (s : State) (a : Acc) (n : Fin 11) (e : Fin 64) (word : Fin 3) (value : Word) :
    ∃ o, execBandEntryWrite a n e word value s = .next o ∧ Touches 4278190067 s o :=
  actAll_next rfl fun s h => by
    repeat' first
      | exact rfl
      | with_reducible assumption
      | with_reducible exact Touches.refl _ _
      | (with_reducible apply Touches.seq (State.regWrite_touches ..))

theorem execSptStart_next (s : State) (a : Option Acc) (n : Fin 8) :
    ∃ o, execSptStart a n s = .next o ∧ Touches 4278190067 s o :=
  actAll_next rfl fun s h => by
    repeat' first
      | exact rfl
      | with_reducible assumption
      | with_reducible exact Touches.refl _ _
      | (with_reducible apply Touches.seq (State.sptAsk_touches ..))

theorem execSptStop_next (s : State) (a : Option Acc) (n : Fin 8) :
    ∃ o, execSptStop a n s = .next o ∧ Touches 4278190067 s o :=
  actAll_next rfl fun s h => by
    repeat' first
      | exact rfl
      | with_reducible assumption
      | with_reducible exact Touches.refl _ _
      | (with_reducible apply Touches.seq (State.sptAsk_touches ..))

theorem execSptCancel_next (s : State) (a : Option Acc) (n : Fin 8) :
    ∃ o, execSptCancel a n s = .next o ∧ Touches 4278190067 s o :=
  actAll_next rfl fun s h => by
    repeat' first
      | exact rfl
      | with_reducible assumption
      | with_reducible exact Touches.refl _ _
      | (with_reducible apply Touches.seq (State.sptAsk_touches ..))

theorem execSptRunning_next (s : State) (n : Fin 8) (half rateHz : Nat) :
    ∃ o, execSptRunning n half rateHz s = .next o ∧ Touches 2155872259 s o :=
  act_next rfl fun s h => by
    repeat' first
      | exact rfl
      | with_reducible assumption
      | with_reducible exact Touches.refl _ _
      | (with_reducible apply Touches.seq (State.sptRun_touches ..))

theorem execSptFrame_next (s : State) (n : Fin 8) (half0 half1 : Nat) (rateHz : Nat) (rise fall : List Bool) (room : Bool) (beats : List (Word × Word)) :
    ∃ o, execSptFrame n half0 half1 rateHz rise fall room beats s = .next o ∧ Touches 2692743187 s o :=
  act_next rfl fun s h => by
    repeat' first
      | exact rfl
      | with_reducible assumption
      | with_reducible exact Touches.refl _ _
      | (with_reducible apply Touches.seq (State.sptFrame_touches ..))

theorem execSptClockLoss_next (s : State) (n : Fin 8) (bck : Bool) :
    ∃ o, execSptClockLoss n bck s = .next o ∧ Touches 2155872259 s o :=
  act_next rfl fun s h => by
    repeat' first
      | exact rfl
      | with_reducible assumption
      | with_reducible exact Touches.refl _ _
      | (with_reducible apply Touches.seq (State.sptClockLoss_touches ..))
      | (with_reducible apply Touches.iff)
      | (intro x; intros; try beta_reduce)

theorem execSptReleaseEnd_next (s : State) (n : Fin 8) :
    ∃ o, execSptReleaseEnd n s = .next o ∧ Touches 2155872259 s o :=
  act_next rfl fun s h => by
    repeat' first
      | exact rfl
      | with_reducible assumption
      | with_reducible exact Touches.refl _ _
      | (with_reducible apply Touches.seq (State.sptReleaseEnd_touches ..))

end Sys2Proof.Machine
end

