-- ==== Sys2Proof/Laws/Next3.lean ====
section
/-! SUPPORT. Each command of PowerCmds, ReceiveCmds, SamplerCmds, WatchCmds, WearCmds answers a next state, and what it can change: one lemma per command. -/
namespace Sys2Proof.Machine

theorem execPorstNRelease_next (s : State) (mode : BitVec 3) (monEn : Bool) :
    ∃ o, execPorstNRelease mode monEn s = .next o ∧ Touches 3967804915 s o :=
  actAll_next rfl fun s h => by
    repeat' first
      | exact rfl
      | with_reducible assumption
      | with_reducible exact Touches.refl _ _
      | (with_reducible apply Touches.seq (State.coldStart_touches ..))

theorem execPowerGood_next (s : State) (mode : BitVec 3) (monEn : Bool) :
    ∃ o, execPowerGood mode monEn s = .next o ∧ Touches 3967804915 s o :=
  actAll_next rfl fun s h => by
    repeat' first
      | exact rfl
      | with_reducible assumption
      | with_reducible exact Touches.refl _ _
      | (with_reducible apply Touches.seq (State.coldStart_touches ..))

theorem execPorstNAssert_next (s : State) :
    ∃ o, execPorstNAssert s = .next o ∧ Touches 4294967287 s o :=
  actAll_next rfl fun s h => by
    repeat' first
      | exact rfl
      | with_reducible assumption
      | with_reducible exact Touches.refl _ _
      | (with_reducible apply Touches.seq (State.porstLow_touches ..))

theorem execCoreDrop_next (s : State) :
    ∃ o, execCoreDrop s = .next o ∧ Touches 4294967287 s o :=
  actAll_next rfl fun s h => by
    repeat' first
      | exact rfl
      | with_reducible assumption
      | with_reducible exact Touches.refl _ _
      | (with_reducible apply Touches.seq (State.coreDrop_touches ..))

theorem execAuxLost_next (s : State) (storeMv vbatMv : Nat) :
    ∃ o, execAuxLost storeMv vbatMv s = .next o ∧ Touches 4294967287 s o :=
  actAll_next rfl fun s h => by
    repeat' first
      | exact rfl
      | with_reducible assumption
      | with_reducible exact Touches.refl _ _
      | (with_reducible apply Touches.seq (State.auxLost_touches ..))

theorem execRetentionLost_next (s : State) (mv : Nat) (auxToo : Bool) (storeMv vbatMv : Nat) :
    ∃ o, execRetentionLost mv auxToo storeMv vbatMv s = .next o ∧ Touches 4294967287 s o :=
  actAll_next rfl fun s h => by
    repeat' first
      | exact rfl
      | with_reducible assumption
      | with_reducible exact Touches.refl _ _
      | (with_reducible apply Touches.seq (State.retentionLost_touches ..))

theorem execDomainPowerUp_next (s : State) (d : Domain) :
    ∃ o, execDomainPowerUp d s = .next o ∧ Touches 2826949075 s o :=
  actAll_next rfl fun s h => by
    repeat' first
      | exact rfl
      | with_reducible assumption
      | with_reducible exact Touches.refl _ _
      | (with_reducible apply Touches.seq (State.domainPowerUp_touches ..))

theorem execDomainPowerLoss_next (s : State) (rail : Fin 14) :
    ∃ o, execDomainPowerLoss rail s = .next o ∧ Touches 2894057939 s o :=
  actAll_next rfl fun s h => by
    repeat' first
      | exact rfl
      | with_reducible assumption
      | with_reducible exact Touches.refl _ _
      | (with_reducible apply Touches.seq (State.domainPowerLoss_touches ..))

theorem execWatchRequest_next (s : State) (a : Acc) (value : Word) :
    ∃ o, execWatchRequest a value s = .next o ∧ Touches 4278190067 s o :=
  actAll_next rfl fun s h => by
    repeat' first
      | exact rfl
      | with_reducible assumption
      | with_reducible exact Touches.refl _ _
      | (with_reducible apply Touches.seq (State.regWrite_touches ..))

theorem execWatchNLow_next (s : State) :
    ∃ o, execWatchNLow s = .next o ∧ Touches 3103769971 s o :=
  actAll_next rfl fun s h => by
    repeat' first
      | exact rfl
      | with_reducible assumption
      | with_reducible exact Touches.refl _ _
      | (with_reducible apply Touches.seq (State.watchPin_touches ..))

theorem execVmonLow_next (s : State) :
    ∃ o, execVmonLow s = .next o ∧ Touches 2147483715 s o :=
  act_next rfl fun s h => by
    repeat' first
      | exact rfl
      | with_reducible assumption
      | with_reducible exact Touches.refl _ _
      | (with_reducible apply Touches.seq (State.vmonFall_touches ..))

theorem execVmonHigh_next (s : State) :
    ∃ o, execVmonHigh s = .next o ∧ Touches 2147483715 s o :=
  act_next rfl fun s h => by
    repeat' first
      | exact rfl
      | with_reducible assumption
      | with_reducible exact Touches.refl _ _
      | (with_reducible apply Touches.seq (State.vmonRise_touches ..))

theorem execVmonFilterExpiry_next (s : State) :
    ∃ o, execVmonFilterExpiry s = .next o ∧ Touches 3103769971 s o :=
  actAll_next rfl fun s h => by
    repeat' first
      | exact rfl
      | with_reducible assumption
      | with_reducible exact Touches.refl _ _
      | (with_reducible apply Touches.seq (State.vmonFilter_touches ..))

theorem execGraceExpiry_next (s : State) :
    ∃ o, execGraceExpiry s = .next o ∧ Touches 2147483715 s o :=
  act_next rfl fun s h => by
    repeat' first
      | exact rfl
      | with_reducible assumption
      | with_reducible exact Touches.refl _ _
      | (with_reducible apply Touches.seq (State.graceEnd_touches ..))

theorem execWatchDrainEnd_next (s : State) (us : Nat) :
    ∃ o, execWatchDrainEnd us s = .next o ∧ Touches 4018142579 s o :=
  actAll_next rfl fun s h => by
    repeat' first
      | exact rfl
      | with_reducible assumption
      | with_reducible exact Touches.refl _ _
      | (with_reducible apply Touches.seq (State.watchDrainEnd_touches ..))

theorem execWakeEvent_next (s : State) (vmonRose pinRose watchN : Bool) :
    ∃ o, execWakeEvent vmonRose pinRose watchN s = .next o ∧ Touches 2147483715 s o :=
  act_next rfl fun s h => by
    repeat' first
      | exact rfl
      | with_reducible assumption
      | with_reducible exact Touches.refl _ _
      | (with_reducible apply Touches.seq (State.wakeEvent_touches ..))

theorem execWakeCoreSwitched_next (s : State) :
    ∃ o, execWakeCoreSwitched s = .next o ∧ Touches 3900531155 s o :=
  actAll_next rfl fun s h => by
    repeat' first
      | exact rfl
      | with_reducible assumption
      | with_reducible exact Touches.refl _ _
      | (with_reducible apply Touches.seq (State.wakeCoreSwitched_touches ..))

theorem execWakeRefsQualified_next (s : State) :
    ∃ o, execWakeRefsQualified s = .next o ∧ Touches 2893922643 s o :=
  actAll_next rfl fun s h => by
    repeat' first
      | exact rfl
      | with_reducible assumption
      | with_reducible exact Touches.refl _ _
      | (with_reducible apply Touches.seq (State.wakeRefsQualified_touches ..))

theorem execWakePllsLocked_next (s : State) :
    ∃ o, execWakePllsLocked s = .next o ∧ Touches 2147483715 s o :=
  act_next rfl fun s h => by
    repeat' first
      | exact rfl
      | with_reducible assumption
      | with_reducible exact Touches.refl _ _
      | (with_reducible apply Touches.seq (State.wakePllsLocked_touches ..))

theorem execWakeScrubDone_next (s : State) :
    ∃ o, execWakeScrubDone s = .next o ∧ Touches 2147483715 s o :=
  act_next rfl fun s h => by
    repeat' first
      | exact rfl
      | with_reducible assumption
      | with_reducible exact Touches.refl _ _
      | (with_reducible apply Touches.seq (State.wakeScrubDone_touches ..))

theorem execWakePhaseLate_next (s : State) (unit : Fin 16) (us : Nat) :
    ∃ o, execWakePhaseLate unit us s = .next o ∧ Touches 2147483987 s o :=
  act_next rfl fun s h => by
    repeat' first
      | exact rfl
      | with_reducible assumption
      | with_reducible exact Touches.refl _ _
      | (with_reducible apply Touches.seq (State.wakePhaseLate_touches ..))

theorem execFabricClockRelease_next (s : State) (us : Nat) :
    ∃ o, execFabricClockRelease us s = .next o ∧ Touches 4227857907 s o :=
  actAll_next rfl fun s h => by
    repeat' first
      | exact rfl
      | with_reducible assumption
      | with_reducible exact Touches.refl _ _
      | (with_reducible apply Touches.seq (State.fabricClockRelease_touches ..))

theorem execReloadRequest_next (s : State) :
    ∃ o, execReloadRequest s = .next o ∧ Touches 3170878835 s o :=
  actAll_next rfl fun s h => by
    repeat' first
      | exact rfl
      | with_reducible assumption
      | with_reducible exact Touches.refl _ _
      | (with_reducible apply Touches.seq (State.reloadPin_touches ..))

theorem execReloadNRise_next (s : State) :
    ∃ o, execReloadNRise s = .next o ∧ Touches 2147483715 s o :=
  act_next rfl fun s h => by
    repeat' first
      | exact rfl
      | with_reducible assumption
      | with_reducible exact Touches.refl _ _
      | (with_reducible apply Touches.seq (State.reloadRise_touches ..))

theorem execReloadStart_next (s : State) (mode : BitVec 3) :
    ∃ o, execReloadStart mode s = .next o ∧ Touches 4294967287 s o :=
  actAll_next rfl fun s h => by
    repeat' first
      | exact rfl
      | with_reducible assumption
      | with_reducible exact Touches.refl _ _
      | (with_reducible apply Touches.seq (State.reloadStart_touches ..))

theorem execWatchReloadRequest_next (s : State) :
    ∃ o, execWatchReloadRequest s = .next o ∧ Touches 3170878835 s o :=
  actAll_next rfl fun s h => by
    repeat' first
      | exact rfl
      | with_reducible assumption
      | with_reducible exact Touches.refl _ _
      | (with_reducible apply Touches.seq (State.reloadWatchPin_touches ..))

theorem execColdLoadStart_next (s : State) (mode : BitVec 3) :
    ∃ o, execColdLoadStart mode s = .next o ∧ Touches 4294967287 s o :=
  actAll_next rfl fun s h => by
    repeat' first
      | exact rfl
      | with_reducible assumption
      | with_reducible exact Touches.refl _ _
      | (with_reducible apply Touches.seq (State.coldLoadStart_touches ..))

theorem execCfgReloadPrimary_next (s : State) (a : Acc) (key : BitVec 16) :
    ∃ o, execCfgReloadPrimary a key s = .next o ∧ Touches 4278190067 s o :=
  actAll_next rfl fun s h => by
    repeat' first
      | exact rfl
      | with_reducible assumption
      | with_reducible exact Touches.refl _ _
      | (with_reducible apply Touches.seq (State.regWrite_touches ..))

theorem execCfgReloadGolden_next (s : State) (a : Acc) (key : BitVec 16) :
    ∃ o, execCfgReloadGolden a key s = .next o ∧ Touches 4278190067 s o :=
  actAll_next rfl fun s h => by
    repeat' first
      | exact rfl
      | with_reducible assumption
      | with_reducible exact Touches.refl _ _
      | (with_reducible apply Touches.seq (State.regWrite_touches ..))

theorem execRailReturn_next (s : State) (rail : Fin 14) :
    ∃ o, execRailReturn rail s = .next o ∧ Touches 2826949075 s o :=
  actAll_next rfl fun s h => by
    repeat' first
      | exact rfl
      | with_reducible assumption
      | with_reducible exact Touches.refl _ _
      | (with_reducible apply Touches.seq (State.railReturn_touches ..))

theorem execDdcRetune_next (s : State) (a : Acc) (d : Fin 8) (value : Word) :
    ∃ o, execDdcRetune a d value s = .next o ∧ Touches 4278190067 s o :=
  actAll_next rfl fun s h => by
    repeat' first
      | exact rfl
      | with_reducible assumption
      | with_reducible exact Touches.refl _ _
      | (with_reducible apply Touches.seq (State.regWrite_touches ..))

theorem execRetuneApply_next (s : State) (d : Fin 8) :
    ∃ o, execRetuneApply d s = .next o ∧ Touches 2826780947 s o :=
  actAll_next rfl fun s h => by
    repeat' first
      | exact rfl
      | with_reducible assumption
      | with_reducible exact Touches.refl _ _
      | (with_reducible apply State.withGen_touches)
      | (with_reducible apply Touches.seq (State.retuneApply_touches ..))
      | (intro x; intros; try beta_reduce)

theorem execDdcSwap_next (s : State) (a : Acc) (d : Fin 8) (value : Word) :
    ∃ o, execDdcSwap a d value s = .next o ∧ Touches 4278190067 s o :=
  actAll_next rfl fun s h => by
    repeat' first
      | exact rfl
      | with_reducible assumption
      | with_reducible exact Touches.refl _ _
      | (with_reducible apply Touches.seq (State.regWrite_touches ..))

theorem execSwapApply_next (s : State) (d : Fin 8) :
    ∃ o, execSwapApply d s = .next o ∧ Touches 2147745811 s o :=
  act_next rfl fun s h => by
    repeat' first
      | exact rfl
      | with_reducible assumption
      | with_reducible exact Touches.refl _ _
      | (with_reducible apply Touches.seq (State.swapApply_touches ..))

theorem execDdcHopStart_next (s : State) (a : Acc) (d : Fin 8) (value : Word) :
    ∃ o, execDdcHopStart a d value s = .next o ∧ Touches 4278190067 s o :=
  actAll_next rfl fun s h => by
    repeat' first
      | exact rfl
      | with_reducible assumption
      | with_reducible exact Touches.refl _ _
      | (with_reducible apply Touches.seq (State.regWrite_touches ..))

theorem execDdcHopStop_next (s : State) (a : Acc) (d : Fin 8) (value : Word) :
    ∃ o, execDdcHopStop a d value s = .next o ∧ Touches 4278190067 s o :=
  actAll_next rfl fun s h => by
    repeat' first
      | exact rfl
      | with_reducible assumption
      | with_reducible exact Touches.refl _ _
      | (with_reducible apply Touches.seq (State.regWrite_touches ..))

theorem execHopAdvance_next (s : State) (d : Fin 8) :
    ∃ o, execHopAdvance d s = .next o ∧ Touches 2826780947 s o :=
  actAll_next rfl fun s h => by
    repeat' first
      | exact rfl
      | with_reducible assumption
      | with_reducible exact Touches.refl _ _
      | (extract_lets +onlyGivenNames s1; refine Touches.cut (x := s1) ?_ ?_; (on_goal 1 => subst s1); (on_goal 2 => (intro h1; clear_value s1)))
      | (extract_lets +onlyGivenNames v1; clear_value v1)
      | (with_reducible apply State.withGen_touches)
      | (with_reducible apply Touches.seq (State.hopAdvance_touches ..))
      | (with_reducible apply Touches.seq (State.scanJudge_touches ..))
      | (with_reducible apply Touches.iff)
      | (intro x; intros; try beta_reduce)
      | split

theorem execDdcUnitComplete_next (s : State) (d : Fin 8) (room : Bool) :
    ∃ o, execDdcUnitComplete d room s = .next o ∧ Touches 2685141011 s o :=
  act_next rfl fun s h => by
    repeat' first
      | exact rfl
      | with_reducible assumption
      | with_reducible exact Touches.refl _ _
      | (extract_lets +onlyGivenNames s1; refine Touches.cut (x := s1) ?_ ?_; (on_goal 1 => subst s1); (on_goal 2 => (intro h1; clear_value s1)))
      | (extract_lets +onlyGivenNames v1; clear_value v1)
      | (with_reducible apply Touches.seq (State.ddcFill_touches ..))
      | (with_reducible apply Touches.seq (State.ctxSamples_touches ..))
      | (with_reducible apply Touches.seq (State.ctxUsed_touches ..))
      | (with_reducible apply Touches.seq (State.levelUnit_touches ..))
      | (with_reducible apply Touches.seq (State.ddcUnit_touches ..))
      | (with_reducible apply Touches.each)
      | (with_reducible apply Touches.iff)
      | (intro x; intros; try beta_reduce)

theorem execCoefWrite_next (s : State) (a : Acc) (d : Fin 8) (t : Fin 320) (value : Word) :
    ∃ o, execCoefWrite a d t value s = .next o ∧ Touches 4278190067 s o :=
  actAll_next rfl fun s h => by
    repeat' first
      | exact rfl
      | with_reducible assumption
      | with_reducible exact Touches.refl _ _
      | (with_reducible apply Touches.seq (State.regWrite_touches ..))

theorem execTableCheck_next (s : State) (table : CheckedTable) (addr : Nat) (double : Bool) :
    ∃ o, execTableCheck table addr double s = .next o ∧ Touches 2826780947 s o :=
  actAll_next rfl fun s h => by
    repeat' first
      | exact rfl
      | with_reducible assumption
      | with_reducible exact Touches.refl _ _
      | (with_reducible apply Touches.seq (State.shadowCheck_touches ..))
      | (with_reducible apply Touches.seq (State.ddcCheck_touches ..))
      | (with_reducible apply Touches.seq (State.ctxCheck_touches ..))
      | (with_reducible apply Touches.seq (State.lmdCheck_touches ..))
      | (with_reducible apply Touches.seq (State.lmdRxCheck_touches ..))
      | (with_reducible apply Touches.iff)
      | (intro x; intros; try beta_reduce)
      | split

theorem execSoundWindowEnd_next (s : State) (rf : Bool) (est : CoefSet) (clip : Bool) (power : Int) :
    ∃ o, execSoundWindowEnd rf est clip power s = .next o ∧ Touches 2147614723 s o :=
  act_next rfl fun s h => by
    repeat' first
      | exact rfl
      | with_reducible assumption
      | with_reducible exact Touches.refl _ _
      | (with_reducible apply Touches.seq (State.soundWindow_touches ..))

theorem execTrimStepEnd_next (s : State) (rf : Bool) :
    ∃ o, execTrimStepEnd rf s = .next o ∧ Touches 2147614995 s o :=
  act_next rfl fun s h => by
    repeat' first
      | exact rfl
      | with_reducible assumption
      | with_reducible exact Touches.refl _ _
      | (with_reducible apply Touches.seq (State.trimStepEnd_touches ..))

theorem execHandoverRampEnd_next (s : State) (chain : Fin 6) :
    ∃ o, execHandoverRampEnd chain s = .next o ∧ Touches 2147614723 s o :=
  act_next rfl fun s h => by
    repeat' first
      | exact rfl
      | with_reducible assumption
      | with_reducible exact Touches.refl _ _
      | (with_reducible apply Touches.seq (State.rampEnd_touches ..))

theorem execMonitorWindowEnd_next (s : State) (rf : Bool) (stats : List SliceStats) (clipped : Bool) :
    ∃ o, execMonitorWindowEnd rf stats clipped s = .next o ∧ Touches 2147614979 s o :=
  act_next rfl fun s h => by
    repeat' first
      | exact rfl
      | with_reducible assumption
      | with_reducible exact Touches.refl _ _
      | (with_reducible apply Touches.seq (State.monitorWindow_touches ..))

theorem execSmpApply_next (s : State) (a : Acc) (key : BitVec 16) (index : Fin 16) :
    ∃ o, execSmpApply a key index s = .next o ∧ Touches 4278190067 s o :=
  actAll_next rfl fun s h => by
    repeat' first
      | exact rfl
      | with_reducible assumption
      | with_reducible exact Touches.refl _ _
      | (with_reducible apply Touches.seq (State.regWrite_touches ..))

theorem execSmpLoad_next (s : State) (a : Acc) (key : BitVec 16) (index : Fin 16) :
    ∃ o, execSmpLoad a key index s = .next o ∧ Touches 4278190067 s o :=
  actAll_next rfl fun s h => by
    repeat' first
      | exact rfl
      | with_reducible assumption
      | with_reducible exact Touches.refl _ _
      | (with_reducible apply Touches.seq (State.regWrite_touches ..))

theorem execSmpForceFault_next (s : State) (a : Acc) (key : BitVec 16) (index : Fin 16) :
    ∃ o, execSmpForceFault a key index s = .next o ∧ Touches 4278190067 s o :=
  actAll_next rfl fun s h => by
    repeat' first
      | exact rfl
      | with_reducible assumption
      | with_reducible exact Touches.refl _ _
      | (with_reducible apply Touches.seq (State.regWrite_touches ..))

theorem execDacUnderrun_next (s : State) (channel : Fin 2) :
    ∃ o, execDacUnderrun channel s = .next o ∧ Touches 2147483651 s o :=
  act_next rfl fun s h => by
    repeat' first
      | exact rfl
      | with_reducible assumption
      | with_reducible exact Touches.refl _ _
      | (with_reducible apply Touches.seq (State.dacUnderrun_touches ..))

theorem execSmpStreamUnit_next (s : State) (rf clip room : Bool) :
    ∃ o, execSmpStreamUnit rf clip room s = .next o ∧ Touches 2684485651 s o :=
  act_next rfl fun s h => by
    repeat' first
      | exact rfl
      | with_reducible assumption
      | with_reducible exact Touches.refl _ _
      | (with_reducible apply Touches.seq (State.smpUnit_touches ..))

theorem execWatchSecond_next (s : State) :
    ∃ o, execWatchSecond s = .next o ∧ Touches 2147484035 s o :=
  act_next rfl fun s h => by
    repeat' first
      | exact rfl
      | with_reducible assumption
      | with_reducible exact Touches.refl _ _
      | (with_reducible apply State.onWatch_touches)
      | (with_reducible apply Touches.seq (State.watchSecond_touches ..))
      | (intro x; intros; try beta_reduce)

theorem execXtalStop_next (s : State) :
    ∃ o, execXtalStop s = .next o ∧ Touches 2147484035 s o :=
  act_next rfl fun s h => by
    repeat' first
      | exact rfl
      | with_reducible assumption
      | with_reducible exact Touches.refl _ _
      | (with_reducible apply State.onWatch_touches)
      | (with_reducible apply Touches.seq (State.xtalStop_touches ..))
      | (intro x; intros; try beta_reduce)

theorem execXtalRestored_next (s : State) (holdSeconds : Nat) :
    ∃ o, execXtalRestored holdSeconds s = .next o ∧ Touches 2147483779 s o :=
  act_next rfl fun s h => by
    repeat' first
      | exact rfl
      | with_reducible assumption
      | with_reducible exact Touches.refl _ _
      | (with_reducible apply State.onWatch_touches)
      | (with_reducible apply Touches.seq (State.xtalRestored_touches ..))
      | (intro x; intros; try beta_reduce)

theorem execWchCommit_next (s : State) (a : Acc) :
    ∃ o, execWchCommit a s = .next o ∧ Touches 4278190067 s o :=
  actAll_next rfl fun s h => by
    repeat' first
      | exact rfl
      | with_reducible assumption
      | with_reducible exact Touches.refl _ _
      | (with_reducible apply Touches.seq (State.regWrite_touches ..))

theorem execWatchTimeSet_next (s : State) :
    ∃ o, execWatchTimeSet s = .next o ∧ Touches 2147483779 s o :=
  act_next rfl fun s h => by
    repeat' first
      | exact rfl
      | with_reducible assumption
      | with_reducible exact Touches.refl _ _
      | (with_reducible apply State.onWatch_touches)
      | (with_reducible apply Touches.seq (State.watchTimeSet_touches ..))
      | (intro x; intros; try beta_reduce)

theorem execLogWrite_next (s : State) :
    ∃ o, execLogWrite s = .next o ∧ Touches 2147484035 s o :=
  act_next rfl fun s h => by
    repeat' first
      | exact rfl
      | with_reducible assumption
      | with_reducible exact Touches.refl _ _
      | (with_reducible apply State.onWatch_touches)
      | (with_reducible apply Touches.seq (State.logWrite_touches ..))
      | (intro x; intros; try beta_reduce)

theorem execLogClearPinned_next (s : State) (a : Acc) :
    ∃ o, execLogClearPinned a s = .next o ∧ Touches 4278190067 s o :=
  actAll_next rfl fun s h => by
    repeat' first
      | exact rfl
      | with_reducible assumption
      | with_reducible exact Touches.refl _ _
      | (with_reducible apply Touches.seq (State.regWrite_touches ..))

theorem execLogClearAll_next (s : State) (a : Acc) :
    ∃ o, execLogClearAll a s = .next o ∧ Touches 4278190067 s o :=
  actAll_next rfl fun s h => by
    repeat' first
      | exact rfl
      | with_reducible assumption
      | with_reducible exact Touches.refl _ _
      | (with_reducible apply Touches.seq (State.regWrite_touches ..))

theorem execTamperEvent_next (s : State) (n : Fin 4) :
    ∃ o, execTamperEvent n s = .next o ∧ Touches 3900531155 s o :=
  actAll_next rfl fun s h => by
    repeat' first
      | exact rfl
      | with_reducible assumption
      | with_reducible exact Touches.refl _ _
      | (with_reducible apply State.onWatch_touches)
      | (with_reducible apply Touches.seq (State.tamperEvent_touches ..))
      | (with_reducible apply Touches.seq (State.tamperErase_touches ..))
      | (intro x; intros; try beta_reduce)

theorem execTamperErase_next (s : State) :
    ∃ o, execTamperErase s = .next o ∧ Touches 3900531091 s o :=
  actAll_next rfl fun s h => by
    repeat' first
      | exact rfl
      | with_reducible assumption
      | with_reducible exact Touches.refl _ _
      | (with_reducible apply State.onWatch_touches)
      | (with_reducible apply Touches.seq (State.tamperErase_touches ..))
      | (intro x; intros; try beta_reduce)

theorem execWakeTimerWrite_next (s : State) (a : Acc) (value : Word) :
    ∃ o, execWakeTimerWrite a value s = .next o ∧ Touches 4278190067 s o :=
  actAll_next rfl fun s h => by
    repeat' first
      | exact rfl
      | with_reducible assumption
      | with_reducible exact Touches.refl _ _
      | (with_reducible apply Touches.seq (State.regWrite_touches ..))

theorem execWakeTimerExpiry_next (s : State) :
    ∃ o, execWakeTimerExpiry s = .next o ∧ Touches 2147483843 s o :=
  act_next rfl fun s h => by
    repeat' first
      | exact rfl
      | with_reducible assumption
      | with_reducible exact Touches.refl _ _
      | (with_reducible apply State.onWatch_touches)
      | (with_reducible apply Touches.seq (State.timerExpiry_touches ..))
      | (intro x; intros; try beta_reduce)

theorem execHrvSample_next (s : State) (lv : SupplyLevels) (inputMv : Nat) :
    ∃ o, execHrvSample lv inputMv s = .next o ∧ Touches 2147483779 s o :=
  act_next rfl fun s h => by
    repeat' first
      | exact rfl
      | with_reducible assumption
      | with_reducible exact Touches.refl _ _
      | (with_reducible apply State.onWatch_touches)
      | (with_reducible apply Touches.seq (State.hrvSample_touches ..))
      | (intro x; intros; try beta_reduce)

theorem execWatchRailDroop_next (s : State) (lv : SupplyLevels) :
    ∃ o, execWatchRailDroop lv s = .next o ∧ Touches 2147483779 s o :=
  act_next rfl fun s h => by
    repeat' first
      | exact rfl
      | with_reducible assumption
      | with_reducible exact Touches.refl _ _
      | (with_reducible apply State.onWatch_touches)
      | (with_reducible apply Touches.seq (State.supplySelect_touches ..))
      | (intro x; intros; try beta_reduce)

theorem execHrvTrack_next (s : State) (vocMv freqDeciHz : Nat) :
    ∃ o, execHrvTrack vocMv freqDeciHz s = .next o ∧ Touches 2147483779 s o :=
  act_next rfl fun s h => by
    repeat' first
      | exact rfl
      | with_reducible assumption
      | with_reducible exact Touches.refl _ _
      | (with_reducible apply State.onWatch_touches)
      | (with_reducible apply Touches.seq (State.hrvTrack_touches ..))
      | (intro x; intros; try beta_reduce)

theorem execHrvThreshWrite_next (s : State) (a : Acc) (value : Word) :
    ∃ o, execHrvThreshWrite a value s = .next o ∧ Touches 4278190067 s o :=
  actAll_next rfl fun s h => by
    repeat' first
      | exact rfl
      | with_reducible assumption
      | with_reducible exact Touches.refl _ _
      | (with_reducible apply Touches.seq (State.regWrite_touches ..))

theorem execWatchCold_next (s : State) (src : Supply) :
    ∃ o, execWatchCold src s = .next o ∧ Touches 2147483779 s o :=
  act_next rfl fun s h => by
    repeat' first
      | exact rfl
      | with_reducible assumption
      | with_reducible exact Touches.refl _ _
      | (with_reducible apply Touches.seq (State.watchCold_touches ..))

theorem execWatchDomainDown_next (s : State) (inputMv : Nat) :
    ∃ o, execWatchDomainDown inputMv s = .next o ∧ Touches 2147483779 s o :=
  act_next rfl fun s h => by
    repeat' first
      | exact rfl
      | with_reducible assumption
      | with_reducible exact Touches.refl _ _
      | (with_reducible apply State.onWatch_touches)
      | (with_reducible apply Touches.seq (State.watchDown_touches ..))
      | (intro x; intros; try beta_reduce)

theorem execWearMeasure_next (s : State) (a : Acc) (key : BitVec 16) :
    ∃ o, execWearMeasure a key s = .next o ∧ Touches 4278190067 s o :=
  actAll_next rfl fun s h => by
    repeat' first
      | exact rfl
      | with_reducible assumption
      | with_reducible exact Touches.refl _ _
      | (with_reducible apply Touches.seq (State.regWrite_touches ..))

theorem execWearSchedule_next (s : State) :
    ∃ o, execWearSchedule s = .next o ∧ Touches 2415919107 s o :=
  act_next rfl fun s h => by
    repeat' first
      | exact rfl
      | with_reducible assumption
      | with_reducible exact Touches.refl _ _
      | (with_reducible apply Touches.seq (State.wearSchedule_touches ..))

theorem execWearMeasureDone_next (s : State) (pairs : List WearCount) :
    ∃ o, execWearMeasureDone pairs s = .next o ∧ Touches 2415919363 s o :=
  act_next rfl fun s h => by
    repeat' first
      | exact rfl
      | with_reducible assumption
      | with_reducible exact Touches.refl _ _
      | (with_reducible apply Touches.seq (State.wearDone_touches ..))

theorem execTjMinute_next (s : State) (celsius : List Int) :
    ∃ o, execTjMinute celsius s = .next o ∧ Touches 2147483667 s o :=
  act_next rfl fun s h => by
    repeat' first
      | exact rfl
      | with_reducible assumption
      | with_reducible exact Touches.refl _ _
      | (with_reducible apply Touches.seq (State.tjMinute_touches ..))

end Sys2Proof.Machine
end

