-- ==== Sys2Proof/Laws/Settle.lean ====
section
/-!
SUPPORT. What the end of every command changes: `settle` writes the levels that GRD_STATUS and SYS_SERVICE hold, and on a fall of HEALTH
one bit of GRD_EVENT and one of BIN_IRQ_STATUS; nothing else.
-/
namespace Sys2Proof.Machine

/-- The fields that `settle` writes. -/
def settleFlds : List Fld :=
  [evtFld 32, BIN_IRQ_STATUS_HEALTH_LOW, GRD_STATUS_IN_FORCE, GRD_STATUS_HEALTH, GRD_STATUS_SELFTEST_PASS, GRD_STATUS_PULSE,
   SYS_SERVICE_HK_OK, SYS_SERVICE_WATCH_OK, SYS_SERVICE_LANE_PWR, SYS_SERVICE_RADIO_PWR, SYS_SERVICE_MON_CONTROL, SYS_SERVICE_MON_RUN]

/-- A register that holds no field `settle` writes reads as before. -/
theorem State.settle_word (s : State) (a : Nat) (h : (settleFlds.all fun f => a != f.addr) = true) : s.settle.word a = s.word a := by
  simp only [settleFlds, List.all_cons, List.all_nil, Bool.and_true, Bool.and_eq_true, bne_iff_ne, ne_eq] at h
  obtain ⟨h1, h2, h3, h4, h5, h6, h7, h8, h9, h10, h11, h12⟩ := h
  simp only [State.settle, State.putB]
  rw [State.word_put_ne _ _ _ _ h12, State.word_put_ne _ _ _ _ h11, State.word_put_ne _ _ _ _ h10, State.word_put_ne _ _ _ _ h9,
    State.word_put_ne _ _ _ _ h8, State.word_put_ne _ _ _ _ h7, State.word_put_ne _ _ _ _ h6, State.word_put_ne _ _ _ _ h5,
    State.word_put_ne _ _ _ _ h4, State.word_put_ne _ _ _ _ h3]
  unfold State.iff
  split
  · exact (State.word_put_ne _ _ _ _ h2).trans (State.word_put_ne _ _ _ _ h1)
  · exact State.withHealth_word ..

/-- A field that shares no bit with those `settle` writes reads as before. -/
theorem State.settle_get (s : State) (g : Fld) (hg : g.lo + g.width ≤ 32) (h : (settleFlds.all fun f => f.disjoint g) = true) :
    s.settle.get g = s.get g := by
  simp only [settleFlds, List.all_cons, List.all_nil, Bool.and_true, Bool.and_eq_true] at h
  obtain ⟨h1, h2, h3, h4, h5, h6, h7, h8, h9, h10, h11, h12⟩ := h
  simp only [State.settle, State.putB]
  rw [State.get_put_disjoint _ _ _ _ hg h12, State.get_put_disjoint _ _ _ _ hg h11, State.get_put_disjoint _ _ _ _ hg h10,
    State.get_put_disjoint _ _ _ _ hg h9, State.get_put_disjoint _ _ _ _ hg h8, State.get_put_disjoint _ _ _ _ hg h7,
    State.get_put_disjoint _ _ _ _ hg h6, State.get_put_disjoint _ _ _ _ hg h5, State.get_put_disjoint _ _ _ _ hg h4,
    State.get_put_disjoint _ _ _ _ hg h3]
  unfold State.iff
  split
  · exact (State.get_put_disjoint _ _ _ _ hg h2).trans (State.get_put_disjoint _ _ _ _ hg h1)
  · exact State.withHealth_get ..

/-- A bit that shares none with those `settle` writes reads as before. -/
theorem State.settle_bit (s : State) (g : Fld) (hg : g.lo + g.width ≤ 32) (h : (settleFlds.all fun f => f.disjoint g) = true) :
    s.settle.bit g = s.bit g := by
  simp only [State.bit, State.settle_get s g hg h]

@[simp] theorem State.settle_out (s : State) : s.settle.out = s.out := (State.settle_touches s).out rfl
@[simp] theorem State.settle_mask (s : State) : s.settle.mask = s.mask := (State.settle_touches s).mask rfl
@[simp] theorem State.settle_now (s : State) : s.settle.now = s.now := (State.settle_touches s).now rfl
@[simp] theorem State.settle_fresh (s : State) : s.settle.fresh = s.fresh := (State.settle_touches s).fresh rfl
@[simp] theorem State.settle_dev (s : State) : s.settle.dev = s.dev := (State.settle_touches s).dev rfl
@[simp] theorem State.settle_pwr (s : State) : s.settle.pwr = s.pwr := (State.settle_touches s).pwr rfl
@[simp] theorem State.settle_wch (s : State) : s.settle.wch = s.wch := (State.settle_touches s).wch rfl
@[simp] theorem State.settle_grd (s : State) : s.settle.grd = s.grd := (State.settle_touches s).grd rfl
@[simp] theorem State.settle_health (s : State) : s.settle.health = s.healthHigh := by
  simp only [State.settle, State.iff, State.putB, State.event, State.set]
  split <;> simp
@[simp] theorem State.settle_bus (s : State) : s.settle.bus = s.bus := (State.settle_touches s).bus rfl
@[simp] theorem State.settle_load (s : State) : s.settle.load = s.load := (State.settle_touches s).load rfl
@[simp] theorem State.settle_fab (s : State) : s.settle.fab = s.fab := (State.settle_touches s).fab rfl
@[simp] theorem State.settle_fix (s : State) : s.settle.fix = s.fix := (State.settle_touches s).fix rfl
@[simp] theorem State.settle_deep (s : State) : s.settle.deep = s.deep := (State.settle_touches s).deep rfl
@[simp] theorem State.settle_cph (s : State) : s.settle.cph = s.cph := (State.settle_touches s).cph rfl
@[simp] theorem State.settle_lnk (s : State) : s.settle.lnk = s.lnk := (State.settle_touches s).lnk rfl
@[simp] theorem State.settle_brg (s : State) : s.settle.brg = s.brg := (State.settle_touches s).brg rfl
@[simp] theorem State.settle_smp (s : State) : s.settle.smp = s.smp := (State.settle_touches s).smp rfl
@[simp] theorem State.settle_ddc (s : State) : s.settle.ddc = s.ddc := (State.settle_touches s).ddc rfl
@[simp] theorem State.settle_ctx (s : State) : s.settle.ctx = s.ctx := (State.settle_touches s).ctx rfl
@[simp] theorem State.settle_scan (s : State) : s.settle.scan = s.scan := (State.settle_touches s).scan rfl
@[simp] theorem State.settle_lmdTx (s : State) : s.settle.lmdTx = s.lmdTx := (State.settle_touches s).lmdTx rfl
@[simp] theorem State.settle_lmdRx (s : State) : s.settle.lmdRx = s.lmdRx := (State.settle_touches s).lmdRx rfl
@[simp] theorem State.settle_spt (s : State) : s.settle.spt = s.spt := (State.settle_touches s).spt rfl
@[simp] theorem State.settle_pin (s : State) : s.settle.pin = s.pin := (State.settle_touches s).pin rfl
@[simp] theorem State.settle_bin (s : State) : s.settle.bin = s.bin := (State.settle_touches s).bin rfl
@[simp] theorem State.settle_pll (s : State) : s.settle.pll = s.pll := (State.settle_touches s).pll rfl
@[simp] theorem State.settle_mon (s : State) : s.settle.mon = s.mon := (State.settle_touches s).mon rfl
@[simp] theorem State.settle_str (s : State) : s.settle.str = s.str := (State.settle_touches s).str rfl
@[simp] theorem State.settle_lgc (s : State) : s.settle.lgc = s.lgc := (State.settle_touches s).lgc rfl
@[simp] theorem State.settle_wear (s : State) : s.settle.wear = s.wear := (State.settle_touches s).wear rfl
@[simp] theorem State.settle_pending (s : State) : s.settle.pending = s.pending := (State.settle_touches s).pending

end Sys2Proof.Machine
end

