-- ==== Sys2Proof/Laws/Low.lean ====
section
/-!
SUPPORT. What `refresh` leaves alone: registers below those of the cipher engine, and outside a drain registers below those of the
receive chain.
-/
namespace Sys2Proof.Machine

/-- Registers below address `b` read in `t` as in `s`. -/
structure Low (b : Nat) (s t : State) : Prop where
  word : ∀ a, a < b → t.word a = s.word a

theorem Low.refl (b : Nat) (s : State) : Low b s s := ⟨fun _ _ => rfl⟩

theorem Low.seq {b c : Nat} {r s t : State} (g : Low c s t) (hb : b ≤ c) (h : Low b r s) : Low b r t :=
  ⟨fun a ha => (g.word a (Nat.lt_of_lt_of_le ha hb)).trans (h.word a ha)⟩

/-- A change of other parts than the registers. -/
theorem Low.part {b : Nat} {r s t : State} (h : Low b r s) (e : t.regs = s.regs) : Low b r t := ⟨fun a ha => by
  rw [State.word, e]
  exact h.word a ha⟩

theorem Low.put {b : Nat} {r s : State} {f : Fld} {v : Nat} (h : Low b r s) (hb : b ≤ f.addr) : Low b r (s.put f v) := ⟨fun a ha =>
  (State.word_put_ne _ _ _ _ (by omega)).trans (h.word a ha)⟩

theorem Low.putB {b : Nat} {r s : State} {f : Fld} {v : Bool} (h : Low b r s) (hb : b ≤ f.addr) : Low b r (s.putB f v) := h.put hb

theorem Low.set {b : Nat} {r s : State} {f : Fld} (h : Low b r s) (hb : b ≤ f.addr) : Low b r (s.set f) := h.put hb

theorem Low.clr {b : Nat} {r s : State} {f : Fld} (h : Low b r s) (hb : b ≤ f.addr) : Low b r (s.clr f) := h.put hb

theorem Low.modInc {b : Nat} {r s : State} {f : Fld} (h : Low b r s) (hb : b ≤ f.addr) : Low b r (s.modInc f) := h.put hb

theorem Low.putWord {b : Nat} {r s : State} {x : Nat} {v : Word} (h : Low b r s) (hb : b ≤ x) : Low b r (s.putWord x v) := ⟨fun a ha =>
  (State.word_putWord_ne _ _ _ _ (by omega)).trans (h.word a ha)⟩

theorem Low.satAdd {b : Nat} {r s : State} {c o : Fld} {n : Nat} (h : Low b r s) (hc : b ≤ c.addr) (ho : b ≤ o.addr) :
    Low b r (s.satAdd c o n) := by
  unfold State.satAdd
  split
  · exact h.put hc
  · exact (h.put hc).set ho

theorem Low.satInc {b : Nat} {r s : State} {c o : Fld} (h : Low b r s) (hc : b ≤ c.addr) (ho : b ≤ o.addr) : Low b r (s.satInc c o) :=
  h.satAdd hc ho

theorem Low.put2 {b : Nat} {r s : State} {c o : Fld} {n : Nat} (h : Low b r s) (hc : b ≤ c.addr) (ho : b ≤ o.addr) :
    Low b r (s.put2 c o n) := (h.put hc).put ho

theorem Low.modInc2 {b : Nat} {r s : State} {c o : Fld} (h : Low b r s) (hc : b ≤ c.addr) (ho : b ≤ o.addr) :
    Low b r (s.modInc2 c o) := h.put2 hc ho

/-- The lines from 128 up mirror event registers from the cipher engine's up. -/
theorem evtFld_cipher {n : Nat} (h : 128 ≤ n) : 0x400C0000 ≤ (evtFld n).addr := by
  unfold evtFld
  rw [if_neg (by omega), if_neg (by omega), if_neg (by omega), if_neg (by omega)]
  simp only [apply_ite Fld.addr, CPH_EVENT, SMP_EVENT, RXC_EVENT, BCD_EVENT, LMD_EVENT, SPT_EVENT, PIN_EVENT, MON_EVENT]
  split_ifs <;> omega

/-- The lines from 176 up mirror event registers from the receive chain's up. -/
theorem evtFld_receive {n : Nat} (h : 176 ≤ n) : 0x40110000 ≤ (evtFld n).addr := by
  unfold evtFld
  rw [if_neg (by omega), if_neg (by omega), if_neg (by omega), if_neg (by omega), if_neg (by omega), if_neg (by omega)]
  simp only [apply_ite Fld.addr, RXC_EVENT, BCD_EVENT, LMD_EVENT, SPT_EVENT, PIN_EVENT, MON_EVENT]
  split_ifs <;> omega

theorem Low.event {b : Nat} {r s : State} {n : Nat} (h : Low b r s) (hb : b ≤ (evtFld n).addr) : Low b r (s.event n) := h.put hb

theorem Low.iff {b : Nat} {r s : State} {c : Bool} {f : State → State} (h : Low b r s) (hf : ∀ x, Low b r x → Low b r (f x)) :
    Low b r (s.iff c f) := by
  unfold State.iff
  split
  · exact hf s h
  · exact h

theorem Low.ite {b : Nat} {r s t : State} {c : Prop} [Decidable c] (hs : Low b r s) (ht : Low b r t) : Low b r (if c then s else t) := by
  split
  · exact hs
  · exact ht

theorem Low.each {α : Type} {b : Nat} {r s : State} {xs : List α} {f : State → α → State} (h : Low b r s)
    (hf : ∀ x a, Low b r x → Low b r (f x a)) : Low b r (s.each xs f) := by
  unfold State.each
  induction xs generalizing s with
  | nil => exact h
  | cons a as ih => exact ih (hf s a h)

theorem Low.cutF {b : Nat} {r t : State} {f : State → State} (h : ∀ x, Low b r x → Low b r (f x))
    (k : (∀ x, Low b r x → Low b r (f x)) → Low b r t) : Low b r t := k h

theorem Low.bindF {b : Nat} {r x : State} {f : State → State} (hf : ∀ x, Low b r x → Low b r (f x)) (h : Low b r x) : Low b r (f x) :=
  hf x h

theorem Low.cut {b : Nat} {r t x : State} (h : Low b r x) (k : Low b r x → Low b r t) : Low b r t := k h

theorem Low.withOut {b : Nat} {r s : State} {v} (h : Low b r s) : Low b r (s.withOut v) := h.part rfl

theorem Low.withMask {b : Nat} {r s : State} {v} (h : Low b r s) : Low b r (s.withMask v) := h.part rfl

theorem Low.withNow {b : Nat} {r s : State} {v} (h : Low b r s) : Low b r (s.withNow v) := h.part rfl

theorem Low.withFresh {b : Nat} {r s : State} {v} (h : Low b r s) : Low b r (s.withFresh v) := h.part rfl

theorem Low.withDev {b : Nat} {r s : State} {v} (h : Low b r s) : Low b r (s.withDev v) := h.part rfl

theorem Low.withPwr {b : Nat} {r s : State} {v} (h : Low b r s) : Low b r (s.withPwr v) := h.part rfl

theorem Low.withWch {b : Nat} {r s : State} {v} (h : Low b r s) : Low b r (s.withWch v) := h.part rfl

theorem Low.withGrd {b : Nat} {r s : State} {v} (h : Low b r s) : Low b r (s.withGrd v) := h.part rfl

theorem Low.withBus {b : Nat} {r s : State} {v} (h : Low b r s) : Low b r (s.withBus v) := h.part rfl

theorem Low.withLoad {b : Nat} {r s : State} {v} (h : Low b r s) : Low b r (s.withLoad v) := h.part rfl

theorem Low.withFab {b : Nat} {r s : State} {v} (h : Low b r s) : Low b r (s.withFab v) := h.part rfl

theorem Low.withFix {b : Nat} {r s : State} {v} (h : Low b r s) : Low b r (s.withFix v) := h.part rfl

theorem Low.withDeep {b : Nat} {r s : State} {v} (h : Low b r s) : Low b r (s.withDeep v) := h.part rfl

theorem Low.withCph {b : Nat} {r s : State} {v} (h : Low b r s) : Low b r (s.withCph v) := h.part rfl

theorem Low.withLnk {b : Nat} {r s : State} {v} (h : Low b r s) : Low b r (s.withLnk v) := h.part rfl

theorem Low.withBrg {b : Nat} {r s : State} {v} (h : Low b r s) : Low b r (s.withBrg v) := h.part rfl

theorem Low.withSmp {b : Nat} {r s : State} {v} (h : Low b r s) : Low b r (s.withSmp v) := h.part rfl

theorem Low.withDdc {b : Nat} {r s : State} {v} (h : Low b r s) : Low b r (s.withDdc v) := h.part rfl

theorem Low.withCtx {b : Nat} {r s : State} {v} (h : Low b r s) : Low b r (s.withCtx v) := h.part rfl

theorem Low.withScan {b : Nat} {r s : State} {v} (h : Low b r s) : Low b r (s.withScan v) := h.part rfl

theorem Low.withLmdTx {b : Nat} {r s : State} {v} (h : Low b r s) : Low b r (s.withLmdTx v) := h.part rfl

theorem Low.withLmdRx {b : Nat} {r s : State} {v} (h : Low b r s) : Low b r (s.withLmdRx v) := h.part rfl

theorem Low.withSpt {b : Nat} {r s : State} {v} (h : Low b r s) : Low b r (s.withSpt v) := h.part rfl

theorem Low.withPin {b : Nat} {r s : State} {v} (h : Low b r s) : Low b r (s.withPin v) := h.part rfl

theorem Low.withBin {b : Nat} {r s : State} {v} (h : Low b r s) : Low b r (s.withBin v) := h.part rfl

theorem Low.withPll {b : Nat} {r s : State} {v} (h : Low b r s) : Low b r (s.withPll v) := h.part rfl

theorem Low.withMon {b : Nat} {r s : State} {v} (h : Low b r s) : Low b r (s.withMon v) := h.part rfl

theorem Low.withWear {b : Nat} {r s : State} {v} (h : Low b r s) : Low b r (s.withWear v) := h.part rfl

theorem Low.withStr {b : Nat} {r s : State} {v} (h : Low b r s) : Low b r (s.withStr v) := h.part rfl

theorem Low.withHealth {b : Nat} {r s : State} {v} (h : Low b r s) : Low b r (s.withHealth v) := h.part rfl

theorem Low.withLgc {b : Nat} {r s : State} {v} (h : Low b r s) : Low b r (s.withLgc v) := h.part rfl

theorem State.blockLog_low (s : State) (code block inst detail : Nat) : Low 0x40110000 s (s.blockLog code block inst detail) := by
  unfold State.blockLog
  repeat' first
    | with_reducible assumption
    | with_reducible exact Low.refl _ _
    | (with_reducible apply Low.satInc)
    | (with_reducible apply Low.withGrd)
    | (with_reducible apply Low.ite)
    | split
    | exact evtFld_receive (by omega)
    | exact evtFld_cipher (by omega)
    | omega
    | (simp only [LOG_LOST_COUNT, LOG_LOST, LOG_LOST_OVF]; omega)

theorem State.monLog_low (s : State) (code detail : Nat) : Low 0x40110000 s (s.monLog code detail) := by
  unfold State.monLog
  repeat' first
    | with_reducible assumption
    | with_reducible exact Low.refl _ _
    | (with_reducible apply Low.seq (State.blockLog_low ..))
    | split
    | exact evtFld_receive (by omega)
    | exact evtFld_cipher (by omega)
    | omega

theorem State.monDrop_low (s : State) (cause : Nat) : Low 0x40110000 s (s.monDrop cause) := by
  unfold State.monDrop
  repeat' first
    | with_reducible assumption
    | with_reducible exact Low.refl _ _
    | (with_reducible apply Low.clr)
    | (with_reducible apply Low.event)
    | (with_reducible apply Low.seq (State.monLog_low ..))
    | (with_reducible apply Low.iff)
    | (intro x; intros; try beta_reduce)
    | split
    | exact evtFld_receive (by omega)
    | exact evtFld_cipher (by omega)
    | omega
    | (simp only [MON_STATUS_CONTROL, MON_STATUS]; omega)

theorem State.monEnd_low (s : State) (cause : Nat) : Low 0x40110000 s (s.monEnd cause) := by
  unfold State.monEnd
  repeat' first
    | with_reducible assumption
    | with_reducible exact Low.refl _ _
    | (with_reducible refine Low.part ?_ ((State.setMon_touches ..).regs rfl))
    | (with_reducible apply Low.seq (State.monDrop_low ..))
    | (with_reducible apply Low.ite)
    | split
    | exact evtFld_receive (by omega)
    | exact evtFld_cipher (by omega)
    | omega

theorem State.monSlotCheck_low (s : State) : Low 0x40110000 s (s.monSlotCheck) := by
  unfold State.monSlotCheck
  repeat' first
    | with_reducible assumption
    | with_reducible exact Low.refl _ _
    | (with_reducible apply Low.seq (State.monEnd_low ..))
    | (with_reducible apply Low.ite)
    | split
    | exact evtFld_receive (by omega)
    | exact evtFld_cipher (by omega)
    | omega

theorem State.monChallenge_low (s : State) : Low 0x40110000 s (s.monChallenge) := by
  unfold State.monChallenge
  repeat' first
    | with_reducible assumption
    | with_reducible exact Low.refl _ _
    | (with_reducible apply Low.putB)
    | split
    | exact evtFld_receive (by omega)
    | exact evtFld_cipher (by omega)
    | omega
    | (simp only [MON_STATUS_CHALLENGE, MON_STATUS]; omega)

theorem State.cphCount_low (s : State) (status : Nat) : Low 0x400c0000 s (s.cphCount status) := by
  unfold State.cphCount
  repeat' first
    | with_reducible assumption
    | with_reducible exact Low.refl _ _
    | (with_reducible apply Low.modInc2)
    | (with_reducible apply Low.satInc)
    | (with_reducible apply Low.event)
    | split
    | exact evtFld_receive (by omega)
    | exact evtFld_cipher (by omega)
    | omega
    | (simp only [CPH_CNT_OPS_LO_COUNT, CPH_CNT_OPS_LO, CPH_CNT_OPS_HI_COUNT, CPH_CNT_OPS_HI, CPH_CNT_CANCEL_COUNT, CPH_CNT_CANCEL, CPH_CNT_CANCEL_OVF, CPH_CNT_EXHAUSTED_COUNT, CPH_CNT_EXHAUSTED, CPH_CNT_EXHAUSTED_OVF, CPH_CNT_TAGFAIL_COUNT, CPH_CNT_TAGFAIL, CPH_CNT_TAGFAIL_OVF, CPH_CNT_GUARD_COUNT, CPH_CNT_GUARD, CPH_CNT_GUARD_OVF, CPH_CNT_QFULL_COUNT, CPH_CNT_QFULL, CPH_CNT_QFULL_OVF]; omega)

theorem State.cphFinish_low (s : State) (r : CphReq) (status reason : Nat) (ran : Bool) : Low 0x400c0000 s (s.cphFinish r status reason ran) := by
  unfold State.cphFinish
  repeat' first
    | with_reducible assumption
    | with_reducible exact Low.refl _ _
    | (extract_lets +onlyGivenNames s1; refine Low.cut (x := s1) ?_ ?_; (on_goal 1 => subst s1); (on_goal 2 => (intro h1; clear_value s1)))
    | (extract_lets +onlyGivenNames v1; clear_value v1)
    | (with_reducible refine Low.part ?_ ((State.cphRemove_touches ..).regs rfl))
    | (with_reducible apply Low.seq (State.cphCount_low ..))
    | (with_reducible apply Low.clr)
    | (with_reducible apply Low.set)
    | (with_reducible apply Low.put)
    | (with_reducible refine Low.part ?_ ((State.emit_touches ..).regs rfl))
    | (with_reducible refine Low.part ?_ ((State.cphOutcome_touches ..).regs rfl))
    | (with_reducible apply Low.iff)
    | (with_reducible apply Low.ite)
    | (intro x; intros; try beta_reduce)
    | split
    | exact evtFld_receive (by omega)
    | exact evtFld_cipher (by omega)
    | omega
    | (simp only [D_STATUS_BUSY, D_STATUS, D_STATUS_DONE, D_STATUS_STATUS, D_STATUS_REASON, D_STATUS_CANCEL_LATE, D_CTR_N, D_CTR]; omega)

theorem State.cphDrain_low (s : State) : Low 0x400c0000 s (s.cphDrain) := by
  unfold State.cphDrain
  repeat' first
    | with_reducible assumption
    | with_reducible exact Low.refl _ _
    | (with_reducible apply Low.seq (State.cphFinish_low ..))
    | (with_reducible apply Low.each)
    | (intro x; intros; try beta_reduce)
    | split
    | exact evtFld_receive (by omega)
    | exact evtFld_cipher (by omega)
    | omega

theorem State.notDelivered_low (s : State) (t vector : Nat) : Low 0x40110000 s (s.notDelivered t vector) := by
  unfold State.notDelivered
  repeat' first
    | with_reducible assumption
    | with_reducible exact Low.refl _ _
    | (with_reducible apply Low.satInc)
    | (with_reducible apply Low.set)
    | (with_reducible apply Low.event)
    | (with_reducible apply Low.each)
    | (intro x; intros; try beta_reduce)
    | split
    | exact evtFld_receive (by omega)
    | exact evtFld_cipher (by omega)
    | omega
    | (simp only [TX_ND_COUNT_COUNT, TX_ND_COUNT, TX_ND_COUNT_OVF, TX_STATUS]; omega)

theorem State.txCut_low (s : State) (t : Nat) (nd : Bool) : Low 0x40110000 s (s.txCut t nd) := by
  unfold State.txCut
  repeat' first
    | with_reducible assumption
    | with_reducible exact Low.refl _ _
    | (extract_lets +onlyGivenNames f1; refine Low.cutF (f := f1) ?_ ?_; (on_goal 1 => subst f1); (on_goal 2 => (intro h1; clear_value f1)))
    | (with_reducible refine Low.bindF (by assumption) ?_)
    | (extract_lets +onlyGivenNames s1; refine Low.cut (x := s1) ?_ ?_; (on_goal 1 => subst s1); (on_goal 2 => (intro h1; clear_value s1)))
    | (extract_lets +onlyGivenNames v1; clear_value v1)
    | (with_reducible apply Low.satInc)
    | (with_reducible refine Low.part ?_ ((State.lmdDone_touches ..).regs rfl))
    | (with_reducible apply Low.seq (State.notDelivered_low ..))
    | (with_reducible refine Low.part ?_ ((State.putTx_touches ..).regs rfl))
    | (with_reducible apply Low.iff)
    | (intro x; intros; try beta_reduce)
    | split
    | exact evtFld_receive (by omega)
    | exact evtFld_cipher (by omega)
    | omega
    | (simp only [TX_ABORTS_COUNT, TX_ABORTS, TX_ABORTS_OVF]; omega)

theorem State.txState_low (s : State) (t st cause : Nat) : Low 0x40110000 s (s.txState t st cause) := by
  unfold State.txState
  repeat' first
    | with_reducible assumption
    | with_reducible exact Low.refl _ _
    | (extract_lets +onlyGivenNames s1; refine Low.cut (x := s1) ?_ ?_; (on_goal 1 => subst s1); (on_goal 2 => (intro h1; clear_value s1)))
    | (extract_lets +onlyGivenNames v1; clear_value v1)
    | (with_reducible apply Low.put)
    | (with_reducible apply Low.event)
    | (with_reducible apply Low.iff)
    | (intro x; intros; try beta_reduce)
    | split
    | exact evtFld_receive (by omega)
    | exact evtFld_cipher (by omega)
    | omega
    | (simp only [TX_STATUS_STATE, TX_STATUS, TX_STATUS_CAUSE]; omega)

theorem State.txStop_low (s : State) (t cause : Nat) : Low 0x40110000 s (s.txStop t cause) := by
  unfold State.txStop
  repeat' first
    | with_reducible assumption
    | with_reducible exact Low.refl _ _
    | (extract_lets +onlyGivenNames s1; refine Low.cut (x := s1) ?_ ?_; (on_goal 1 => subst s1); (on_goal 2 => (intro h1; clear_value s1)))
    | (extract_lets +onlyGivenNames v1; clear_value v1)
    | (with_reducible apply Low.seq (State.txCut_low ..))
    | (with_reducible refine Low.part ?_ ((State.putTx_touches ..).regs rfl))
    | (with_reducible apply Low.seq (State.txState_low ..))
    | split
    | exact evtFld_receive (by omega)
    | exact evtFld_cipher (by omega)
    | omega

theorem State.lmdDrain_low (s : State) : Low 0x40110000 s (s.lmdDrain) := by
  unfold State.lmdDrain
  repeat' first
    | with_reducible assumption
    | with_reducible exact Low.refl _ _
    | (extract_lets +onlyGivenNames s1; refine Low.cut (x := s1) ?_ ?_; (on_goal 1 => subst s1); (on_goal 2 => (intro h1; clear_value s1)))
    | (extract_lets +onlyGivenNames v1; clear_value v1)
    | (with_reducible apply Low.seq (State.txStop_low ..))
    | (with_reducible refine Low.part ?_ ((State.lmdDone_touches ..).regs rfl))
    | (with_reducible refine Low.part ?_ ((State.putTx_touches ..).regs rfl))
    | (with_reducible apply Low.iff)
    | (with_reducible apply Low.each)
    | (intro x; intros; try beta_reduce)
    | split
    | exact evtFld_receive (by omega)
    | exact evtFld_cipher (by omega)
    | omega

theorem State.drainSweep_low (s : State) : Low 0x400c0000 s (s.drainSweep) := by
  unfold State.drainSweep
  repeat' first
    | with_reducible assumption
    | with_reducible exact Low.refl _ _
    | (with_reducible apply Low.seq (State.cphDrain_low ..))
    | (with_reducible refine Low.part ?_ ((State.brgDrain_touches ..).regs rfl))
    | (with_reducible apply Low.seq (State.lmdDrain_low ..))
    | split
    | exact evtFld_receive (by omega)
    | exact evtFld_cipher (by omega)
    | omega

theorem State.bcdRefresh_low (s : State) : Low 0x40110000 s (s.bcdRefresh) := by
  unfold State.bcdRefresh
  repeat' first
    | with_reducible assumption
    | with_reducible exact Low.refl _ _
    | (extract_lets +onlyGivenNames s1; refine Low.cut (x := s1) ?_ ?_; (on_goal 1 => subst s1); (on_goal 2 => (intro h1; clear_value s1)))
    | (extract_lets +onlyGivenNames v1; clear_value v1)
    | (with_reducible apply Low.event)
    | (with_reducible apply Low.putB)
    | (with_reducible apply Low.putWord)
    | (with_reducible apply Low.iff)
    | (with_reducible apply Low.each)
    | (intro x; intros; try beta_reduce)
    | split
    | exact evtFld_receive (by omega)
    | exact evtFld_cipher (by omega)
    | omega
    | (simp only [CTX_STATUS_NO_INPUT, CTX_STATUS, BCD_STATUS, CTX_FREQ_USE]; omega)

theorem State.ownedFilter_low (s : State) (d c : Nat) : Low 0x40110000 s (s.ownedFilter d c) := by
  unfold State.ownedFilter
  repeat' first
    | with_reducible assumption
    | with_reducible exact Low.refl _ _
    | (extract_lets +onlyGivenNames s1; refine Low.cut (x := s1) ?_ ?_; (on_goal 1 => subst s1); (on_goal 2 => (intro h1; clear_value s1)))
    | (extract_lets +onlyGivenNames v1; clear_value v1)
    | (with_reducible refine Low.part ?_ ((State.drawn_touches ..).regs rfl))
    | (with_reducible apply Low.put)
    | (with_reducible refine Low.part ?_ ((State.putDd_touches ..).regs rfl))
    | (with_reducible refine Low.part ?_ ((State.drawnBytes_touches ..).regs rfl))
    | (with_reducible apply Low.ite)
    | split
    | exact evtFld_receive (by omega)
    | exact evtFld_cipher (by omega)
    | omega
    | (simp only [DDC_DEC_DCIC, DDC_DEC, DDC_DEC_DFIR, DDC_DEC_TAPS_NEXT, DDC_STATUS_ACTIVE_BANK, DDC_STATUS]; omega)

theorem State.ddcPass_low (s : State) (d k : Nat) : Low 0x40110000 s (s.ddcPass d k) := by
  unfold State.ddcPass
  repeat' first
    | with_reducible assumption
    | with_reducible exact Low.refl _ _
    | (extract_lets +onlyGivenNames s1; refine Low.cut (x := s1) ?_ ?_; (on_goal 1 => subst s1); (on_goal 2 => (intro h1; clear_value s1)))
    | (extract_lets +onlyGivenNames v1; clear_value v1)
    | (with_reducible refine Low.part ?_ ((State.putDd_touches ..).regs rfl))
    | (with_reducible apply Low.putB)
    | (with_reducible refine Low.part ?_ ((State.picked_touches ..).regs rfl))
    | (with_reducible apply Low.iff)
    | (intro x; intros; try beta_reduce)
    | split
    | exact evtFld_receive (by omega)
    | exact evtFld_cipher (by omega)
    | omega
    | (simp only [DDC_STATUS_UNSETTLED, DDC_STATUS]; omega)

theorem State.ddcSome_low (s : State) (d : Nat) : Low 0x40110000 s (s.ddcSome d) := by
  unfold State.ddcSome
  repeat' first
    | with_reducible assumption
    | with_reducible exact Low.refl _ _
    | (with_reducible refine Low.part ?_ ((State.drawn_touches ..).regs rfl))
    | (with_reducible apply Low.seq (State.ddcPass_low ..))
    | (with_reducible apply Low.iff)
    | (intro x; intros; try beta_reduce)
    | split
    | exact evtFld_receive (by omega)
    | exact evtFld_cipher (by omega)
    | omega

theorem State.ddcFlags_low (s : State) (d : Nat) : Low 0x40110000 s (s.ddcFlags d) := by
  unfold State.ddcFlags
  repeat' first
    | with_reducible assumption
    | with_reducible exact Low.refl _ _
    | (extract_lets +onlyGivenNames s1; refine Low.cut (x := s1) ?_ ?_; (on_goal 1 => subst s1); (on_goal 2 => (intro h1; clear_value s1)))
    | (extract_lets +onlyGivenNames v1; clear_value v1)
    | (with_reducible apply Low.satInc)
    | (with_reducible apply Low.set)
    | (with_reducible apply Low.event)
    | (with_reducible apply Low.put)
    | (with_reducible apply Low.iff)
    | (intro x; intros; try beta_reduce)
    | split
    | exact evtFld_receive (by omega)
    | exact evtFld_cipher (by omega)
    | omega
    | (simp only [DDC_SAT_UNITS_COUNT, DDC_SAT_UNITS, DDC_SAT_UNITS_OVF, DDC_STATUS_SAT, DDC_STATUS, DDC_STATUS_IN_CLIP, DDC_POWER_POWER, DDC_POWER]; omega)

theorem State.ddcRelease_low (s : State) (d : Nat) (room : Bool) : Low 0x40110000 s (s.ddcRelease d room) := by
  unfold State.ddcRelease
  repeat' first
    | with_reducible assumption
    | with_reducible exact Low.refl _ _
    | (extract_lets +onlyGivenNames s1; refine Low.cut (x := s1) ?_ ?_; (on_goal 1 => subst s1); (on_goal 2 => (intro h1; clear_value s1)))
    | (extract_lets +onlyGivenNames v1; clear_value v1)
    | (with_reducible refine Low.part ?_ ((State.drawn_touches ..).regs rfl))
    | (with_reducible refine Low.part ?_ ((State.ddcForget_touches ..).regs rfl))
    | (with_reducible refine Low.part ?_ ((State.streamPush_touches ..).regs rfl))
    | (with_reducible apply Low.satInc)
    | (with_reducible apply Low.set)
    | (with_reducible apply Low.event)
    | (with_reducible apply Low.ite)
    | split
    | exact evtFld_receive (by omega)
    | exact evtFld_cipher (by omega)
    | omega
    | (simp only [DDC_DROPS_COUNT, DDC_DROPS, DDC_DROPS_OVF, DDC_STATUS_DROP, DDC_STATUS]; omega)

theorem State.ddcCloseEarly_low (s : State) (d : Nat) : Low 0x40110000 s (s.ddcCloseEarly d) := by
  unfold State.ddcCloseEarly
  repeat' first
    | with_reducible assumption
    | with_reducible exact Low.refl _ _
    | (extract_lets +onlyGivenNames s1; refine Low.cut (x := s1) ?_ ?_; (on_goal 1 => subst s1); (on_goal 2 => (intro h1; clear_value s1)))
    | (extract_lets +onlyGivenNames v1; clear_value v1)
    | (with_reducible apply Low.seq (State.ddcSome_low ..))
    | (with_reducible apply Low.seq (State.ddcFlags_low ..))
    | (with_reducible apply Low.seq (State.ddcRelease_low ..))
    | (with_reducible apply Low.iff)
    | (intro x; intros; try beta_reduce)
    | split
    | exact evtFld_receive (by omega)
    | exact evtFld_cipher (by omega)
    | omega

theorem State.ddcApplySettings_low (s : State) (d : Nat) : Low 0x40110000 s (s.ddcApplySettings d) := by
  unfold State.ddcApplySettings
  repeat' first
    | with_reducible assumption
    | with_reducible exact Low.refl _ _
    | (extract_lets +onlyGivenNames s1; refine Low.cut (x := s1) ?_ ?_; (on_goal 1 => subst s1); (on_goal 2 => (intro h1; clear_value s1)))
    | (extract_lets +onlyGivenNames v1; clear_value v1)
    | (with_reducible refine Low.part ?_ ((State.putDd_touches ..).regs rfl))
    | (with_reducible apply Low.put)
    | split
    | exact evtFld_receive (by omega)
    | exact evtFld_cipher (by omega)
    | omega
    | (simp only [DDC_DEC, DDC_CFG, DDC_STATUS_TAPS, DDC_STATUS]; omega)

theorem State.latch_low (s : State) (d : Nat) (reset restart : Bool) : Low 0x40110000 s (s.latch d reset restart) := by
  unfold State.latch
  repeat' first
    | with_reducible assumption
    | with_reducible exact Low.refl _ _
    | (extract_lets +onlyGivenNames s1; refine Low.cut (x := s1) ?_ ?_; (on_goal 1 => subst s1); (on_goal 2 => (intro h1; clear_value s1)))
    | (extract_lets +onlyGivenNames v1; clear_value v1)
    | (with_reducible refine Low.part ?_ ((State.putDd_touches ..).regs rfl))
    | (with_reducible apply Low.set)
    | split
    | exact evtFld_receive (by omega)
    | exact evtFld_cipher (by omega)
    | omega
    | (simp only [DDC_FREQ_FW, DDC_FREQ, DDC_STATUS_RETUNE_PEND, DDC_STATUS]; omega)

theorem State.retune_low (s : State) (d : Nat) (reset : Bool) : Low 0x40110000 s (s.retune d reset) := by
  unfold State.retune
  repeat' first
    | with_reducible assumption
    | with_reducible exact Low.refl _ _
    | (with_reducible apply Low.set)
    | (with_reducible apply Low.seq (State.ddcCloseEarly_low ..))
    | (with_reducible refine Low.part ?_ ((State.ddcClear_touches ..).regs rfl))
    | (with_reducible apply Low.seq (State.ddcApplySettings_low ..))
    | (with_reducible apply Low.seq (State.latch_low ..))
    | (with_reducible apply Low.ite)
    | split
    | exact evtFld_receive (by omega)
    | exact evtFld_cipher (by omega)
    | omega
    | (simp only [DDC_STATUS_HOPPING, DDC_STATUS, DDC_STATUS_RETUNE_DROP, DDC_STATUS_LIMIT_REFUSED]; omega)

theorem State.putLock_low (s : State) (c : Nat) (b : Bool) : Low 0x40110000 s (s.putLock c b) := by
  unfold State.putLock
  repeat' first
    | with_reducible assumption
    | with_reducible exact Low.refl _ _
    | (extract_lets +onlyGivenNames s1; refine Low.cut (x := s1) ?_ ?_; (on_goal 1 => subst s1); (on_goal 2 => (intro h1; clear_value s1)))
    | (extract_lets +onlyGivenNames v1; clear_value v1)
    | (with_reducible apply Low.putB)
    | (with_reducible apply Low.event)
    | (with_reducible apply Low.set)
    | (with_reducible refine Low.part ?_ ((State.putCx_touches ..).regs rfl))
    | (with_reducible apply Low.ite)
    | split
    | exact evtFld_receive (by omega)
    | exact evtFld_cipher (by omega)
    | omega
    | (simp only [CTX_STATUS_LOCK, CTX_STATUS, CTX_STATUS_LOCK_LOST]; omega)

theorem State.ctxRestart_low (s : State) (c : Nat) : Low 0x40110000 s (s.ctxRestart c) := by
  unfold State.ctxRestart
  repeat' first
    | with_reducible assumption
    | with_reducible exact Low.refl _ _
    | (extract_lets +onlyGivenNames s1; refine Low.cut (x := s1) ?_ ?_; (on_goal 1 => subst s1); (on_goal 2 => (intro h1; clear_value s1)))
    | (extract_lets +onlyGivenNames v1; clear_value v1)
    | (with_reducible refine Low.part ?_ ((State.drawn_touches ..).regs rfl))
    | (with_reducible apply Low.satAdd)
    | (with_reducible apply Low.seq (State.putLock_low ..))
    | (with_reducible apply Low.clr)
    | (with_reducible refine Low.part ?_ ((State.putCx_touches ..).regs rfl))
    | (with_reducible apply Low.iff)
    | (with_reducible apply Low.ite)
    | (intro x; intros; try beta_reduce)
    | split
    | exact evtFld_receive (by omega)
    | exact evtFld_cipher (by omega)
    | omega
    | (simp only [CTX_STATUS_LOCK, CTX_STATUS, CTX_STATUS_CPD_SYNC, CTX_DROP_RETUNE_COUNT, CTX_DROP_RETUNE, CTX_DROP_RETUNE_OVF, CTX_STATUS_STEREO, CTX_STATUS_DRM_DET]; omega)

theorem State.ctxGen_low (s : State) (d : Nat) : Low 0x40110000 s (s.ctxGen d) := by
  unfold State.ctxGen
  repeat' first
    | with_reducible assumption
    | with_reducible exact Low.refl _ _
    | (with_reducible apply Low.seq (State.ctxRestart_low ..))
    | (with_reducible apply Low.iff)
    | (with_reducible apply Low.each)
    | (intro x; intros; try beta_reduce)
    | split
    | exact evtFld_receive (by omega)
    | exact evtFld_cipher (by omega)
    | omega

theorem State.withGen_low {b : Nat} {r s : State} {d : Nat} {f : State → State} (h : Low b r s) (hb : b ≤ 0x40110000)
    (hf : ∀ x, Low b r x → Low b r (f x)) : Low b r (s.withGen d f) := by
  unfold State.withGen
  extract_lets t
  split
  · exact hf s h
  · exact Low.seq (State.ctxGen_low ..) hb (hf s h)

theorem State.ddcToBoundary_low (s : State) (d : Nat) : Low 0x40110000 s (s.ddcToBoundary d) := by
  unfold State.ddcToBoundary
  repeat' first
    | with_reducible assumption
    | with_reducible exact Low.refl _ _
    | (extract_lets +onlyGivenNames s1; refine Low.cut (x := s1) ?_ ?_; (on_goal 1 => subst s1); (on_goal 2 => (intro h1; clear_value s1)))
    | (extract_lets +onlyGivenNames v1; clear_value v1)
    | (with_reducible refine Low.part ?_ ((State.drawn_touches ..).regs rfl))
    | (with_reducible apply Low.seq (State.ddcPass_low ..))
    | (with_reducible apply Low.iff)
    | (intro x; intros; try beta_reduce)
    | split
    | exact evtFld_receive (by omega)
    | exact evtFld_cipher (by omega)
    | omega

theorem State.hopTo_low (s : State) (d e : Nat) : Low 0x40110000 s (s.hopTo d e) := by
  unfold State.hopTo
  repeat' first
    | with_reducible assumption
    | with_reducible exact Low.refl _ _
    | (extract_lets +onlyGivenNames s1; refine Low.cut (x := s1) ?_ ?_; (on_goal 1 => subst s1); (on_goal 2 => (intro h1; clear_value s1)))
    | (extract_lets +onlyGivenNames v1; clear_value v1)
    | (with_reducible apply Low.put)
    | (with_reducible apply Low.modInc)
    | (with_reducible refine Low.part ?_ ((State.ncoTake_touches ..).regs rfl))
    | split
    | exact evtFld_receive (by omega)
    | exact evtFld_cipher (by omega)
    | omega
    | (simp only [DDC_STATUS_HOP_IDX, DDC_STATUS, DDC_GEN_GEN, DDC_GEN, DDC_HOP]; omega)

theorem State.hopStart_low (s : State) (d : Nat) : Low 0x40110000 s (s.hopStart d) := by
  unfold State.hopStart
  repeat' first
    | with_reducible assumption
    | with_reducible exact Low.refl _ _
    | (extract_lets +onlyGivenNames s1; refine Low.cut (x := s1) ?_ ?_; (on_goal 1 => subst s1); (on_goal 2 => (intro h1; clear_value s1)))
    | (extract_lets +onlyGivenNames v1; clear_value v1)
    | (with_reducible apply Low.seq (State.ddcToBoundary_low ..))
    | (with_reducible refine Low.part ?_ ((State.ddcForget_touches ..).regs rfl))
    | (with_reducible refine Low.part ?_ ((State.putDd_touches ..).regs rfl))
    | (with_reducible apply Low.set)
    | (with_reducible apply Low.seq (State.hopTo_low ..))
    | (with_reducible apply Low.ite)
    | split
    | exact evtFld_receive (by omega)
    | exact evtFld_cipher (by omega)
    | omega
    | (simp only [DDC_STATUS_HOPPING, DDC_STATUS, DDC_HOP_CFG]; omega)

theorem State.scanProgram_low (s : State) (d c : Nat) : Low 0x40110000 s (s.scanProgram d c) := by
  unfold State.scanProgram
  repeat' first
    | with_reducible assumption
    | with_reducible exact Low.refl _ _
    | (extract_lets +onlyGivenNames s1; refine Low.cut (x := s1) ?_ ?_; (on_goal 1 => subst s1); (on_goal 2 => (intro h1; clear_value s1)))
    | (extract_lets +onlyGivenNames v1; clear_value v1)
    | (with_reducible apply Low.putWord)
    | (with_reducible apply Low.set)
    | (with_reducible apply Low.put)
    | (with_reducible apply Low.seq (State.ownedFilter_low ..))
    | (with_reducible apply Low.seq (State.retune_low ..))
    | (with_reducible apply State.withGen_low)
    | (with_reducible apply Low.seq (State.hopStart_low ..))
    | (with_reducible apply Low.withScan)
    | (with_reducible apply Low.iff)
    | (with_reducible apply Low.each)
    | (with_reducible apply Low.ite)
    | (intro x; intros; try beta_reduce)
    | split
    | exact evtFld_receive (by omega)
    | exact evtFld_cipher (by omega)
    | omega
    | (simp only [DDC_HOP, CTX_AFE_HZ, CTX_AFE, DDC_HOP_CFG_ONCE, DDC_HOP_CFG, DDC_HOP_CFG_COUNT, DDC_HOP_CFG_DWELL, BCD_CFG_SCAN_DWELL, BCD_CFG, DDC_DEC]; omega)

theorem State.scanAssign_low (s : State) : Low 0x40110000 s (s.scanAssign) := by
  unfold State.scanAssign
  repeat' first
    | with_reducible assumption
    | with_reducible exact Low.refl _ _
    | (extract_lets +onlyGivenNames s1; refine Low.cut (x := s1) ?_ ?_; (on_goal 1 => subst s1); (on_goal 2 => (intro h1; clear_value s1)))
    | (extract_lets +onlyGivenNames v1; clear_value v1)
    | (with_reducible apply Low.seq (State.scanProgram_low ..))
    | (with_reducible apply Low.withScan)
    | (with_reducible apply Low.each)
    | (with_reducible apply Low.ite)
    | (intro x; intros; try beta_reduce)
    | split
    | exact evtFld_receive (by omega)
    | exact evtFld_cipher (by omega)
    | omega

theorem State.txDisable_low (s : State) (t : Nat) : Low 0x40110000 s (s.txDisable t) := by
  unfold State.txDisable
  repeat' first
    | with_reducible assumption
    | with_reducible exact Low.refl _ _
    | (extract_lets +onlyGivenNames s1; refine Low.cut (x := s1) ?_ ?_; (on_goal 1 => subst s1); (on_goal 2 => (intro h1; clear_value s1)))
    | (extract_lets +onlyGivenNames v1; clear_value v1)
    | (with_reducible apply Low.seq (State.txCut_low ..))
    | (with_reducible refine Low.part ?_ ((State.putTx_touches ..).regs rfl))
    | (with_reducible apply Low.seq (State.txState_low ..))
    | (with_reducible apply Low.ite)
    | split
    | exact evtFld_receive (by omega)
    | exact evtFld_cipher (by omega)
    | omega

theorem State.txSession_low {s t : State} {k : Nat} (h : s.txSession k = some t) : Low 0x40110000 s t := by
  unfold State.txSession at h
  split at h
  · exact absurd h (by simp)
  · obtain rfl := Option.some.inj h
    refine Low.part (Low.put (Low.set (Low.part (Low.refl _ _) rfl) ?_) ?_) rfl
    · simp only [TX_SESSION_VALID, TX_SESSION]
      omega
    · simp only [TX_SESSION_SESSION, TX_SESSION]
      omega

theorem State.txKeyStop_low (s : State) (t : Nat) : Low 0x40110000 s (s.txKeyStop t) := by
  unfold State.txKeyStop
  repeat' first
    | with_reducible assumption
    | with_reducible exact Low.refl _ _
    | (with_reducible apply Low.seq (State.txStop_low ..))
    | (with_reducible apply Low.event)
    | split
    | exact evtFld_receive (by omega)
    | exact evtFld_cipher (by omega)
    | omega

theorem State.txStart_low (s : State) (t : Nat) : Low 0x40110000 s (s.txStart t) := by
  unfold State.txStart
  repeat' first
    | with_reducible assumption
    | with_reducible exact Low.refl _ _
    | (extract_lets +onlyGivenNames s1; refine Low.cut (x := s1) ?_ ?_; (on_goal 1 => subst s1); (on_goal 2 => (intro h1; clear_value s1)))
    | (extract_lets +onlyGivenNames v1; clear_value v1)
    | (with_reducible apply Low.seq (State.txState_low ..))
    | (with_reducible refine Low.part ?_ ((State.txLatch_touches ..).regs rfl))
    | (with_reducible refine Low.part ?_ ((State.putTx_touches ..).regs rfl))
    | (with_reducible refine Low.part ?_ ((State.lmdDone_touches ..).regs rfl))
    | (with_reducible refine Low.seq (State.txSession_low (by assumption)) ?_ ?_)
    | (with_reducible apply Low.seq (State.txKeyStop_low ..))
    | (with_reducible apply Low.each)
    | (with_reducible apply Low.ite)
    | (intro x; intros; try beta_reduce)
    | split
    | exact evtFld_receive (by omega)
    | exact evtFld_cipher (by omega)
    | omega

theorem State.rxResync_low (s : State) (r : Nat) : Low 0x40110000 s (s.rxResync r) := by
  unfold State.rxResync
  repeat' first
    | with_reducible assumption
    | with_reducible exact Low.refl _ _
    | (with_reducible apply Low.set)
    | (with_reducible apply Low.event)
    | (with_reducible apply Low.iff)
    | (intro x; intros; try beta_reduce)
    | split
    | exact evtFld_receive (by omega)
    | exact evtFld_cipher (by omega)
    | omega
    | (simp only [RX_STATUS_RESYNC, RX_STATUS]; omega)

theorem State.lmdRefresh_low (s : State) : Low 0x40110000 s (s.lmdRefresh) := by
  unfold State.lmdRefresh
  repeat' first
    | with_reducible assumption
    | with_reducible exact Low.refl _ _
    | (extract_lets +onlyGivenNames s1; refine Low.cut (x := s1) ?_ ?_; (on_goal 1 => subst s1); (on_goal 2 => (intro h1; clear_value s1)))
    | (extract_lets +onlyGivenNames v1; clear_value v1)
    | (with_reducible apply Low.seq (State.txState_low ..))
    | (with_reducible apply Low.seq (State.txDisable_low ..))
    | (with_reducible apply Low.seq (State.txStart_low ..))
    | (with_reducible apply Low.seq (State.txStop_low ..))
    | (with_reducible refine Low.part ?_ ((State.rxTake_touches ..).regs rfl))
    | (with_reducible refine Low.part ?_ ((State.putRx_touches ..).regs rfl))
    | (with_reducible apply Low.seq (State.rxResync_low ..))
    | (with_reducible apply Low.clr)
    | (with_reducible apply Low.iff)
    | (with_reducible apply Low.each)
    | (with_reducible apply Low.ite)
    | (intro x; intros; try beta_reduce)
    | split
    | exact evtFld_receive (by omega)
    | exact evtFld_cipher (by omega)
    | omega
    | (simp only [TX_STATUS_STATE, TX_STATUS, TX_STATUS_CAUSE, RX_CFG_SLOT, RX_CFG, RX_STATUS_BUSY, RX_STATUS]; omega)

theorem State.refresh_low (s : State) : Low 0x400c0000 s (s.refresh) := by
  unfold State.refresh
  repeat' first
    | with_reducible assumption
    | with_reducible exact Low.refl _ _
    | (extract_lets +onlyGivenNames s1; refine Low.cut (x := s1) ?_ ?_; (on_goal 1 => subst s1); (on_goal 2 => (intro h1; clear_value s1)))
    | (extract_lets +onlyGivenNames v1; clear_value v1)
    | (with_reducible apply Low.seq (State.monSlotCheck_low ..))
    | (with_reducible apply Low.seq (State.monChallenge_low ..))
    | (with_reducible refine Low.part ?_ ((State.monBaud_touches ..).regs rfl))
    | (with_reducible apply Low.seq (State.drainSweep_low ..))
    | (with_reducible apply Low.seq (State.bcdRefresh_low ..))
    | (with_reducible apply Low.seq (State.scanAssign_low ..))
    | (with_reducible apply Low.seq (State.lmdRefresh_low ..))
    | (with_reducible apply Low.iff)
    | (intro x; intros; try beta_reduce)
    | split
    | exact evtFld_receive (by omega)
    | exact evtFld_cipher (by omega)
    | omega

/-- Outside a drain, `refresh` is what the Watchkeeper, the broadcast decoders and the line modem follow. -/
theorem State.refresh_steady (s : State) (h : s.dev ≠ .draining) :
    s.refresh = s.monSlotCheck.monChallenge.monBaud.bcdRefresh.scanAssign.lmdRefresh := by
  have e : s.monSlotCheck.monChallenge.monBaud.dev = s.dev :=
    (Touches.seq (State.monBaud_touches _) rfl (Touches.seq (State.monChallenge_touches _) rfl
      (State.monSlotCheck_touches s : Touches 134217986 s _))).dev rfl
  unfold State.refresh
  simp only [State.iff, e]
  rw [if_neg (by simpa using h)]

theorem State.refresh_steady_touches (s : State) (h : s.dev ≠ .draining) : Touches 679215379 s s.refresh := by
  rw [State.refresh_steady s h]
  exact Touches.seq (State.lmdRefresh_touches _) rfl (Touches.seq (State.scanAssign_touches _) rfl (Touches.seq (State.bcdRefresh_touches _) rfl
    (Touches.seq (State.monBaud_touches _) rfl (Touches.seq (State.monChallenge_touches _) rfl (Touches.mono (State.monSlotCheck_touches _) rfl)))))

theorem State.refresh_steady_low (s : State) (h : s.dev ≠ .draining) : Low 0x40110000 s s.refresh := by
  rw [State.refresh_steady s h]
  exact Low.seq (State.lmdRefresh_low _) (Nat.le_refl _) (Low.seq (State.scanAssign_low _) (Nat.le_refl _)
    (Low.seq (State.bcdRefresh_low _) (Nat.le_refl _) (Low.part (Low.seq (State.monChallenge_low _) (Nat.le_refl _) (State.monSlotCheck_low _))
      ((State.monBaud_touches _).regs rfl))))

/-- A field below the cipher engine's reads as before. -/
theorem State.refresh_get (s : State) (f : Fld) (h : f.addr < 0x400C0000) : s.refresh.get f = s.get f := by
  have e := (State.refresh_low s).word f.addr h
  simp only [State.word] at e
  simp only [State.get, fldRead, e]

/-- A bit below the cipher engine's reads as before. -/
theorem State.refresh_bit (s : State) (f : Fld) (h : f.addr < 0x400C0000) : s.refresh.bit f = s.bit f := by
  simp only [State.bit, State.refresh_get s f h]

/-- A field below the receive chain's reads as before outside a drain. -/
theorem State.refresh_steady_get (s : State) (hd : s.dev ≠ .draining) (f : Fld) (h : f.addr < 0x40110000) : s.refresh.get f = s.get f := by
  have e := (State.refresh_steady_low s hd).word f.addr h
  simp only [State.word] at e
  simp only [State.get, fldRead, e]

@[simp] theorem State.refresh_mask (s : State) : s.refresh.mask = s.mask := (State.refresh_touches s).mask rfl
@[simp] theorem State.refresh_now (s : State) : s.refresh.now = s.now := (State.refresh_touches s).now rfl
@[simp] theorem State.refresh_dev (s : State) : s.refresh.dev = s.dev := (State.refresh_touches s).dev rfl
@[simp] theorem State.refresh_pwr (s : State) : s.refresh.pwr = s.pwr := (State.refresh_touches s).pwr rfl
@[simp] theorem State.refresh_wch (s : State) : s.refresh.wch = s.wch := (State.refresh_touches s).wch rfl
@[simp] theorem State.refresh_bus (s : State) : s.refresh.bus = s.bus := (State.refresh_touches s).bus rfl
@[simp] theorem State.refresh_load (s : State) : s.refresh.load = s.load := (State.refresh_touches s).load rfl
@[simp] theorem State.refresh_fab (s : State) : s.refresh.fab = s.fab := (State.refresh_touches s).fab rfl
@[simp] theorem State.refresh_fix (s : State) : s.refresh.fix = s.fix := (State.refresh_touches s).fix rfl
@[simp] theorem State.refresh_deep (s : State) : s.refresh.deep = s.deep := (State.refresh_touches s).deep rfl
@[simp] theorem State.refresh_lnk (s : State) : s.refresh.lnk = s.lnk := (State.refresh_touches s).lnk rfl
@[simp] theorem State.refresh_smp (s : State) : s.refresh.smp = s.smp := (State.refresh_touches s).smp rfl
@[simp] theorem State.refresh_spt (s : State) : s.refresh.spt = s.spt := (State.refresh_touches s).spt rfl
@[simp] theorem State.refresh_pin (s : State) : s.refresh.pin = s.pin := (State.refresh_touches s).pin rfl
@[simp] theorem State.refresh_bin (s : State) : s.refresh.bin = s.bin := (State.refresh_touches s).bin rfl
@[simp] theorem State.refresh_pll (s : State) : s.refresh.pll = s.pll := (State.refresh_touches s).pll rfl
@[simp] theorem State.refresh_lgc (s : State) : s.refresh.lgc = s.lgc := (State.refresh_touches s).lgc rfl
@[simp] theorem State.refresh_wear (s : State) : s.refresh.wear = s.wear := (State.refresh_touches s).wear rfl
@[simp] theorem State.refresh_pending (s : State) : s.refresh.pending = s.pending := (State.refresh_touches s).pending

end Sys2Proof.Machine
end

