-- ==== Sys2Proof/Laws/Bus.lean ====
section
/-!
SUPPORT. The write of a command register: a register whose fields are all write-only and are held by nothing stores nothing, so that such
a write is the register's command and its response.
-/
namespace Sys2Proof.Machine

/-- The register at `a` takes commands: it is a whole register of one of the blocks, every written field is write-only, and no value is
held there. -/
def commandReg (a : Nat) : Bool :=
  a % 4 == 0 && decide (a < 2 ^ 32) && (blockOf a).any (· != 20) && !heldWo a && (coefAt a).isNone &&
  (rowOf a).any fun r => r.rw == 0 && r.rwi == 0 && r.w1c == 0 && r.wo != 0

theorem strobed_all : strobed 0xF = 0xFFFFFFFF#32 := by decide

theorem and_all (x : Word) : x &&& 4294967295#32 = x := by
  rw [show (4294967295#32 : Word) = BitVec.allOnes 32 from rfl, BitVec.and_allOnes]

theorem mergeBits_zero (x y : Word) : mergeBits x y 0#32 = x := by
  simp [mergeBits, and_all]

/-- The parity of a word holds exactly where no bit of it arrived changed. -/
theorem parityHolds_flips (w : Word) (flips : BitVec 4) : parityHolds w flips = (flips == 0) := by
  have e : byteParity w ^^^ (byteParity w ^^^ flips) = flips := by rw [← BitVec.xor_assoc, BitVec.xor_self, BitVec.zero_xor]
  simp only [parityHolds, parityFailed, busParity, e]

/-- A permitted whole-word write of a command register. -/
theorem State.regWrite_command (s : State) (acc : Acc) (a : Nat) (v : Word) (h : s.commandOk acc a = true) (hc : commandReg a = true)
    (hd : ∀ c n, s.writeDropped a c n = none) :
    s.regWrite acc a v =
      ((s.putWord a (s.word a)).written a v (s.word a)).finish acc.master.val 0 true (BitVec.ofNat 32 a) 0 := by
  unfold commandReg at hc
  simp only [Bool.and_eq_true, beq_iff_eq, decide_eq_true_eq, Bool.not_eq_true', Option.isNone_iff_eq_none, Option.any_eq_true_iff_get,
    bne_iff_ne, ne_eq] at hc
  obtain ⟨⟨⟨⟨⟨h4, h32⟩, hb⟩, hh⟩, hco⟩, hr⟩ := hc
  unfold State.commandOk at h
  simp only [Bool.and_eq_true, beq_iff_eq] at h
  obtain ⟨⟨⟨⟨⟨ht, hp⟩, hq⟩, hst⟩, hdu⟩, hw⟩ := h
  have ha : (BitVec.ofNat 32 a).toNat / 4 * 4 = a := by
    rw [BitVec.toNat_ofNat, Nat.mod_eq_of_lt h32]
    omega
  cases hbl : blockOf a with
  | none => simp [hbl] at hb
  | some b =>
    cases hro : rowOf a with
    | none => simp [hro] at hr
    | some r =>
      simp [hro] at hr hw
      simp [hbl] at hb
      obtain ⟨⟨⟨h1, h2⟩, h3⟩, h5⟩ := hr
      have hwr : r.written = true := by simp [RegRow.written, h1, h2, h3, h5]
      have hcl : s.closedBits r a = 0 := by simp [State.closedBits, h2]
      have hv : s.writeView a = s.word a := by simp [State.writeView, hco]
      unfold State.regWrite State.busWrite State.busWriteAck
      simp only [parityHolds_flips, ha, ht, hp, hq, hbl, hro, hdu, hwr, hw, hb, hst, strobed_all]
      simp only [beq_self_eq_true, Bool.not_true, Bool.false_eq_true, if_false, Bool.and_self, Bool.or_self]
      unfold State.liveWrite
      simp only [hcl, hd, hv]
      unfold State.store
      simp [hv, hh, hco, h1, h2, h3, mergeBits_zero, and_all, State.iff]

/-- Putting back what a register holds changes no word. -/
theorem State.word_putWord_self (s : State) (a b : Nat) : (s.putWord a (s.word a)).word b = s.word b := by
  by_cases h : b = a
  · rw [h, State.word_putWord_same]
  · exact State.word_putWord_ne s a b _ h

/-- Putting back what a register holds changes no field. -/
theorem State.get_putWord_self (s : State) (a : Nat) (f : Fld) : (s.putWord a (s.word a)).get f = s.get f := by
  have h := State.word_putWord_self s a f.addr
  show bitsOf ((s.putWord a (s.word a)).word f.addr) f.lo f.width = bitsOf (s.word f.addr) f.lo f.width
  rw [h]

/-- A good response changes no register. -/
theorem State.finish_ok (s : State) (m : Nat) (w : Bool) (addr d : Word) : s.finish m 0 w addr d = s.complete m 0 d := rfl

@[simp] theorem State.complete_word (s : State) (m c : Nat) (d : Word) (a : Nat) : (s.complete m c d).word a = s.word a := rfl

@[simp] theorem State.complete_get (s : State) (m c : Nat) (d : Word) (f : Fld) : (s.complete m c d).get f = s.get f := rfl

@[simp] theorem State.complete_bit (s : State) (m c : Nat) (d : Word) (f : Fld) : (s.complete m c d).bit f = s.bit f := rfl

end Sys2Proof.Machine
end

