-- ==== Sys2Proof/Laws/Smp.lean ====
section
/-!
SUPPORT. The samplers' coefficient sets: what the factory trim is known to satisfy.
-/
namespace Sys2Proof.Machine

/-- Every field of the factory trim lies within the commit limits (R566). -/
theorem factorySet_inLimits (k : Nat) : coefInLimits (factorySet k) = true := by
  have a : Config.factoryTrim k 0 % 4097 < 4097 := Nat.mod_lt _ (by decide)
  have b : Config.factoryTrim k 1 % 32769 < 32769 := Nat.mod_lt _ (by decide)
  have c : Config.factoryTrim k 2 % 2049 < 2049 := Nat.mod_lt _ (by decide)
  have d : Config.factoryTrim k 3 % 8193 < 8193 := Nat.mod_lt _ (by decide)
  simp only [coefInLimits, factorySet, Bool.and_eq_true]
  refine ⟨⟨⟨⟨⟨⟨⟨?_, ?_⟩, ?_⟩, ?_⟩, ?_⟩, ?_⟩, ?_⟩, ?_⟩ <;> apply decide_eq_true <;> omega

/-- A set that nothing has committed holds the factory trim. -/
theorem coefSet_factory (s : State) (k : Nat) (h : s.smp.sets[k]?.getD none = none) : s.coefSet k = factorySet k := by
  simp [State.coefSet, h]

end Sys2Proof.Machine
end

