-- ==== Sys2Proof/WellFormed.lean ====
section
/-!
DEFINITION. The commands as the outside can form them: the operands that the spec gives a length or a range. A command that is not
well formed is no command of the block; the meanings are total all the same.
-/
namespace Sys2Proof

/-- A stored chunk is at most 64 KiB and its tag (R160, R161); the header is 128 bytes (R158); the NVM buffer holds 256 bytes; a frame's
wrong bits are distinct; of `bits` checked bits at most as many are in error; a login response is 16 bytes (R519); a direct request carries up to 64 bytes
of data and 32 of AAD (R500), a descriptor eight words (Table CPH-6); no more
samples are blanked than there are; a DRM time has five bits of hours and six of minutes (R633); a burst header is 76 coded
bits and a block's INFO 60 or 216 (R673, R683); a line ends before CR or LF (R836); there are 16 wear pairs (R903) and
temperature sensors (R872). -/
def Instr.wellFormed : Instr → Bool
  | .chunkRead (some bytes) => decide (16 ≤ bytes.length) && decide (bytes.length ≤ 65552)
  | .headerRecord bytes => bytes.length == 128
  | .auditDone header _ => header.length == 128
  | .nvmOpDone _ data => decide (data.length ≤ 256)
  | .scrubRead _ _ flips => decide flips.Nodup
  | .prbsLock _ _ bits errors => decide (errors ≤ bits)
  | .rateStepEnd _ _ bits errors _ => decide (errors ≤ bits)
  | .dGo (.fabric x) _ _ => decide (x.data.length ≤ 4) && decide (x.aad.length ≤ 2)
  | .qSubmit (.stream words _) _ _ => words.length == 8
  | .loginResponse bytes => bytes.length == 16
  | .floodWindowEnd _ samples blanked _ => decide (blanked ≤ samples)
  | .drmSdc _ _ _ time _ _ => time.all fun t => decide (t.hour < 32) && decide (t.minute < 64)
  | .drmMsc _ _ _ erased _ => decide (erased ≤ 1000)
  | .carrierIntervalEnd _ _ samples blanked => decide (blanked ≤ samples)
  | .rxBurst _ header _ _ _ => header.length == 76
  | .rxGuardBlock _ coded _ _ _ | .rxCommandBlock _ coded _ _ _ _ => coded.length == 60
  | .rxStartBlock _ coded _ _ _ => coded.length == 216
  | .monLoginResponse bytes => bytes.length == 16
  | .wearMeasureDone pairs => pairs.length == 16
  | .tjMinute celsius => celsius.length == 16
  | .commandLine line _ => !line.contains 0x0D && !line.contains 0x0A
  | .chunkRead none | .dGo (.bus _) _ _ | .qSubmit (.bus _) _ _ => true
  | .registerWrite .. | .rcRead .. | .wchTimeSnapshot .. | .fixTimeSnapshot .. | .fsAccess .. | .fsTimeout .. | .porstNRelease ..
  | .powerGood .. | .porstNAssert .. | .coreDrop .. | .auxLost .. | .retentionLost .. | .domainPowerUp .. | .domainPowerLoss ..
  | .watchRequest .. | .watchNLow .. | .vmonLow .. | .vmonHigh .. | .vmonFilterExpiry .. | .graceExpiry .. | .watchDrainEnd ..
  | .wakeEvent .. | .wakeCoreSwitched .. | .wakeRefsQualified .. | .wakePllsLocked .. | .wakeScrubDone .. | .wakePhaseLate ..
  | .fabricClockRelease .. | .reloadRequest .. | .reloadNRise .. | .reloadStart .. | .watchReloadRequest .. | .coldLoadStart ..
  | .cfgReloadPrimary .. | .cfgReloadGolden .. | .watchSecond .. | .xtalStop .. | .xtalRestored .. | .wchCommit .. | .watchTimeSet ..
  | .logWrite .. | .logClearPinned .. | .logClearAll .. | .tamperEvent .. | .tamperErase .. | .wakeTimerWrite .. | .wakeTimerExpiry ..
  | .hrvSample .. | .watchRailDroop .. | .hrvTrack .. | .hrvThreshWrite .. | .watchCold .. | .nvmDiscovery .. | .profileRecord ..
  | .keywrapRecord .. | .bandsRecord .. | .pinsRecord .. | .frameRecord .. | .repeatRecord .. | .fillRecord .. | .regionEndRecord ..
  | .maskRecord .. | .slotsRecord .. | .endRecord .. | .fabricRelease .. | .cfgAudit .. | .auditPeriod ..
  | .cfgNvmRead .. | .cfgNvmProgram .. | .cfgNvmErase .. | .fuseProgram .. | .fuseDone .. | .pairMismatch .. | .bramSweepPassEnd ..
  | .deepSweepPassEnd .. | .gholdRelease .. | .clockMuxSwitch .. | .correctionWrite .. | .criticalPeriodStart .. | .scrubPassEnd ..
  | .prRequest .. | .prCancel .. | .prChunk .. | .prChecksDone .. | .prRelease .. | .pllApply .. | .pllUnmute .. | .pllLock ..
  | .pllLockTimeout .. | .pllLossOfLock .. | .refLoss .. | .refQualified .. | .bandEntryWrite .. | .steerUpdate .. | .sourceValid ..
  | .sourceInvalid .. | .sourceQualified .. | .selectionHoldEnd .. | .slewEnd .. | .freezeTimeout .. | .fixSet .. | .ptpSubmit ..
  | .ptpWithdraw .. | .ppsInEdge .. | .deviceTimeSecond .. | .ppsOutEnd .. | .timeVote .. | .lnkCfgWrite .. | .ethRxFrame ..
  | .ethTxSubmit .. | .ethTxStart .. | .txtsPop .. | .prbsClear .. | .eyeScanStart .. | .eyeScanDone .. | .trainingLock ..
  | .rateStepSwitch .. | .laneSettle .. | .bringupRetry .. | .losDeclare .. | .losClear .. | .cdrLoss .. | .helloFrame ..
  | .portKeyed .. | .rekeyTrigger .. | .brgRekey .. | .rekeyFrame .. | .rekeyAckFrame .. | .oldSlotErase .. | .rekeyRetry ..
  | .brgDataFrame .. | .brgTxSubmit .. | .brgTxStart .. | .brgCancel .. | .timeReqTimer .. | .timeReqFrame .. | .timeRespFrame ..
  | .masterTimeout .. | .readyTimer .. | .readyFrame .. | .landfallTimeout .. | .landfallFrame .. | .landfallRepeat .. | .brgAdmit ..
  | .admitFrame .. | .portDown .. | .dCancel .. | .qCancel .. | .cphOpStart .. | .cphOpComplete ..
  | .qCmpPop .. | .kWrite .. | .kRandom .. | .kDerive .. | .kErase .. | .shadowTakeEffect .. | .cphZeroize .. | .rngHealthFail ..
  | .slotCheck .. | .gcmMask .. | .helloSeed .. | .loginChallenge .. | .challengeExpiry .. | .soundWindowEnd .. | .trimStepEnd ..
  | .handoverRampEnd .. | .monitorWindowEnd .. | .smpApply .. | .smpLoad .. | .smpForceFault .. | .ddcRetune .. | .retuneApply ..
  | .ddcSwap .. | .swapApply .. | .ddcHopStart .. | .ddcHopStop .. | .hopAdvance .. | .ddcUnitComplete .. | .coefWrite ..
  | .tableCheck .. | .scanCycle .. | .floodClear .. | .carrierLock .. | .carrierLockLoss .. | .cpdFrame .. | .rdsGroup .. | .drmFac .. | .audioUnit ..
  | .afLossTimeout .. | .identTimeout .. | .afBadExpiry .. | .lmdTxSubmit .. | .burstStart .. | .burstEnd .. | .lmdTxCancel ..
  | .tpBlockStart .. | .tpcmdChange .. | .preambleDetect ..
  | .cmdHoldExpiry .. | .guardLossExpiry .. | .rxResyncTimeout .. | .maskWindowEnd .. | .txRestart .. | .rxResync .. | .rampUpDone ..
  | .rampDownDone .. | .lmdChannelWrite .. | .sptStart .. | .sptStop .. | .sptCancel .. | .sptRunning .. | .sptFrame ..
  | .sptClockLoss .. | .sptReleaseEnd .. | .pinModeChange .. | .pinClaimChange .. | .bankIoUp .. | .bankIoDown .. | .bnRead ..
  | .bnApertureWrite .. | .bnPage1Write .. | .writeQueueDrain .. | .binIndRead .. | .binIndWrite .. | .indComplete ..
  | .mirrorWrite .. | .hostMirrorWrite .. | .mdbRise .. | .apFillDone .. | .bnLatchExpiry .. | .monHelp .. | .monLogin ..
  | .monLoginOff .. | .monStatus .. | .monPeek .. | .monPoke .. | .monFill .. | .monFault .. | .monFaultClear .. | .monLog ..
  | .monLanes ..
  | .monEye .. | .monSound .. | .monSoundApply .. | .monSoundForce .. | .monBands .. | .monBandsWrite .. | .monFix .. | .monImage ..
  | .monImageAudit .. | .monImageReload .. | .monPartial .. | .monPartialLoad .. | .monPartialCancel .. | .monSlots ..
  | .monSlotsErase .. | .monSlotsZero .. | .monAbort .. | .monIdleExpiry .. | .monLockoutEnd .. | .endControl .. | .faultReport ..
  | .grdClear .. | .grdInject .. | .healthPulseEnd .. | .healthPadMismatch .. | .selftestPartDone .. | .railExcursion ..
  | .tempExcursion .. | .logCrcScan .. | .hkDisagree .. | .hkResyncDone .. | .wearMeasure .. | .wearSchedule ..
  | .watchDomainDown .. | .railReturn .. | .laneSync .. | .fmLock .. | .drmLock .. | .cpdSyncDetect .. | .dacUnderrun ..
  | .smpStreamUnit .. => true

end Sys2Proof
end

