-- ==== Sys2Proof/Tests/Slice0.lean ====
section
/-!
SUPPORT. Tests of single commands on small states, and a witness for the hypotheses of each clause of the statements: `chk h o p` holds
where the hypotheses `h` hold, the command's outcome `o` is a next state, and `p` holds of that state. Expected values are the spec's.
-/
namespace Sys2Proof.Tests
open Sys2Proof.Machine
set_option Elab.async false

/-- Hypotheses, an outcome, and what the next state shows. -/
def chk (h : Bool) (o : Host.Outcome State Fault Refusal) (p : State → Bool) : Bool :=
  h && match o with
    | .next t => p t
    | _ => false

/-- A part in Running with every rail up and the fabric released; every other register reads 0. -/
def base : State :=
  let s := { State.reset with regs := [], dev := .running, wch := WchState.cold }
  (s.putWord PWR_RAILS 0x3F3F).set FAB_STATUS_RELEASED

/-- The same, of another power state. -/
def at_ (d : DevState) : State := base.withDev d

/-- A register-bus access of fabric master 0. -/
def m0 : Acc := Acc.whole 0

/-- Parts of the power tests: the Watch state, rails missing in a load, the triggers enabled, a Watch drain, a wake phase, a reload. -/
def wup : State :=
  let s := (at_ .watch).set PWR_WAKE_CFG_PIN
  s.withWch { s.wch with up := true }
def norail : State := (at_ .loading).putWord PWR_RAILS 3
def trig : State :=
  let s := ((base.set PWR_WATCH_CFG_FAB_EN).set PWR_WATCH_CFG_PIN_EN).set PWR_WATCH_CFG_VMON_EN
  s.withPwr { s.pwr with vmonLow := true }
def drn : State := (trig.withDev .draining).withPwr { trig.pwr with drain := 1, watchPending := true, graceOver := true }
def wk (n : Nat) : State := wup.withPwr { wup.pwr with wake := n }
def wkq (n : Nat) : State := (wk n).withPll { (wk n).pll with refs := 0x3F }
def held1 : State := (wup.set PWR_WATCH_CFG_VMON_EN).withPwr { wup.pwr with vmonLow := true }
def latePll : State := (wk 3).putPl 7 { Pll.off with cfg := 0x80000000 }
def askd (d : DevState) (n : Nat) : State := (at_ d).withPwr { base.pwr with reload := 1, drain := n }
def lvg : State := wup.withPwr { wup.pwr with leaving := true, reload := 1 }

/-- Parts of the bus and Watch-domain tests: the Watch domain supplied, a capture held, a fabric access that waits, the crystal running. -/
def live : State := base.withWch { base.wch with up := true }
def grdOpen : State := live.withMask (cellWrite [] GRD_CFG 0xFFFFFFFF)
def captured : State := ((base.set SYS_BUSERR_INFO_VALID).put SYS_BUSERR_INFO_CODE 1).putWord SYS_BUSERR_ADDR 5
def waits (m : Nat) : State := base.withBus { base.bus with fs := [(m, false, 0x50000000, 0)] }
def xtal : State := live.set WCH_STATUS_XTAL_OK
def split : State := xtal.withWch { xtal.wch with aSec := 9, bSec := 8 }
def store : State := live.put WCH_STATUS_SUPPLY 0
def lv (v a : Nat) (x : Bool) : SupplyLevels := { storeMv := v, vbatMv := a, auxOk := x }
def tamper : State := live.putWord WCH_TAMPER_CFG 0x0000A080

def badPar : Acc := { m0 with addrFlips := 1 }
def clocked (n : Nat) : State := base.withFix { base.fix with sec := n, ns := 70000, frac := 2 * 65536 }
def toSet : State :=
  let s := (xtal.putWord WCH_SET_SEC_LO 4).putWord WCH_SET_SEC_HI 1
  s.withWch { s.wch with commit := true }
def anItem : LogItem := base.item 0x0105 1 0 6
def logged : State := live.withWch { live.wch with logq := [anItem] }
def logSeen : State := logged.withWch { logged.wch with seen := [0x0105] }
def later : State := (live.put LOG_HEAD_ALL 895).withGrd { live.grd with logq := [anItem] } |>.withWch { live.wch with logq := [{ anItem with ready := 5 }] }
def later2 : State := logged.withGrd { logged.grd with logq := [anItem] }
def tamperW : State := (tamper.withDev .watch).set PWR_WAKE_CFG_TAMPER
def erasing (d : DevState) : State := (live.withDev d).withWch { live.wch with erase := true }
def timed (d : DevState) : State := ((xtal.withDev d).put WCH_WAKE_TIMER_COUNT 1).set PWR_WAKE_CFG_TIMER
def justSet : State := (timed .watch).withWch { (timed .watch).wch with timerAt := 1 }
def lowStore : State := store.putWord HRV_THRESH 0x00966482
def openHrv : State := live.withMask (cellWrite [] HRV_THRESH 0xFFFFFFFF)

def rcs : State := (base.putWord LOG_SEQ 7).putWord 0x40000010 9
def dead : State := base.withWch { base.wch with up := false }

/-- Parts of the guarantee and load tests: a fault pending, a log with a bad entry, copies in resynchronisation; image headers of one
chunk, a load that reads records, and records to stand next in it. -/
def pend (n : Nat) : State := (base.set (pendingFld n)).withGrd { base.grd with insts := [(n, 0)] }
def railGone : State :=
  let s := (base.set (pendingFld 39)).putWord PWR_RAILS 0x1F3F
  s.withGrd { s.grd with insts := [(39, 13)], railSeen := 0x3FFF }
def badLog : State := live.putWord (LOG_ENTRY 3 0) 0x0105
def resync (g : BitVec 3) (e : List (Option Nat)) : State := base.withGrd { base.grd with resync := g, resyncEnd := e }
def railsSeen : State := base.withGrd { base.grd with railSeen := 0x3FFF }
def hot : State := base.withGrd { base.grd with tempOut := 4 }
def hdrBody (flags len chunks regions : Nat) : List Byte :=
  [1, 124, 0, 0, 0x59, 0x4C, 0x49, 0x4D, 1, 0] ++ leBytes 2 flags ++ leBytes 4 0x064000B0 ++ leBytes 4 len ++ leBytes 4 chunks ++
    List.replicate 18 0 ++ leBytes 2 regions ++ List.replicate 80 0
def ld (golden : Bool) (r : Reader) (g : Staged) : State :=
  (((at_ .loading).put CFG_STATUS_PHASE 2).putB CFG_STATUS_GOLDEN golden).withLoad { base.load with reader := r, staged := g }
def rd (rank : Nat) (st : List Byte) : Reader :=
  { Reader.empty with header := hdrBody 0 65536 1 3 ++ [0, 0, 0, 0], chunk := 1, pos := 256, rank := rank, records := 2, stream := st }
def rec_ (ty : Nat) (p : List Byte) : List Byte := leBytes 1 ty ++ leBytes 3 p.length ++ p
def disc (mode : Nat) : State :=
  let s := (((at_ .loading).put CFG_STATUS_PHASE 1).put CFG_STATUS_MODE mode).set (PLL_STATUS_LOCKED 0)
  s.withPll { s.pll with refs := 1 }
def sf (signature prof seq : Bool) : Sfdp :=
  { signature := signature, addrBytes := 4, read144 := some (0xEB, 6), read114 := none, sector := 4096,
    profile1 := if prof then some (0x0B, 20) else none, seq8d := seq }
def discNo : State := (disc 2).withPll { (disc 2).pll with refs := 0 }
def zeros (n : Nat) : List Byte := List.replicate n 0
def sh (flags : Nat) : List Byte := hdrBody flags 4 1 0 ++ zeros 4
def small : State := ld false { Reader.empty with header := sh 0, rank := 1 } Staged.empty
def smallG : State := ld true { Reader.empty with header := sh 2, rank := 1 } Staged.empty
def oscSet : List Byte := [0, 0, 0, 0] ++ zeros 12 ++ leBytes 4 1 ++ leBytes 4 PLL_OSC_KHZ ++ leBytes 4 25000
def profR : State :=
  let s := ld false (rd 1 (rec_ 2 oscSet)) Staged.empty
  ((s.set (PLL_CFG_EN 7)).put (PLL_FREQ_KHZ 7) 1500000).put (PLL_DIV_D3 7) 3
def bandsP : List Byte := [1, 1, 0, 0, 5, 0, 0, 0] ++ leBytes 4 100 ++ leBytes 4 200
def bnd : State := ld false (rd 3 (rec_ 4 bandsP)) Staged.empty
def pinsP : List Byte := ((List.range 6).map fun b => leBytes 4 b ++ zeros 128).flatten
def pns : State := ld false (rd 4 (rec_ 5 pinsP)) Staged.empty
def msk : State := ld false (rd 6 (rec_ 0x20 (leBytes 4 (TX_FREQ 0) ++ leBytes 4 0xFFFFFFFF))) Staged.empty
def misput : State := ld false (rd 6 (rec_ 0x02 (zeros 20))) Staged.empty
def frm : State := ld false { rd 5 (rec_ 0x10 (leBytes 4 8192 ++ leBytes 4 1 ++ (List.range 256).map (BitVec.ofNat 8 ·))) with todo := [1] } Staged.empty
def fil : State := ld false { rd 5 (rec_ 0x12 (leBytes 4 (8192 + 8190) ++ leBytes 4 2 ++ [1, 2, 3, 4])) with cur := some 1, next := 8190 } Staged.empty
def rpt : State :=
  let s := ld false { rd 5 (rec_ 0x11 (leBytes 4 8192 ++ leBytes 4 2 ++ [0, 0, 0, 0])) with cur := some 1, fills := 1 } Staged.empty
  s.putDeep 0 [77]
def fin : State :=
  let r := rd 8 (rec_ 0xFF (leBytes 4 0 ++ leBytes 4 3))
  let s := ld false { r with header := hdrBody 0 268 1 0 ++ zeros 4 } { Staged.empty with profile := oscSet, mask := leBytes 4 (TX_FREQ 0) ++ leBytes 4 7 }
  s.withPll { s.pll with oscKhz := 24600 }
def released : State := ((at_ .loading).put CFG_STATUS_PHASE 3).clr FAB_STATUS_RELEASED
def nv : State := (base.set CFG_NVM_CTRL_EN).putWord CFG_NVM_ADDR 0x1234
def nvG : State := (base.set CFG_NVM_CTRL_EN).putWord CFG_NVM_ADDR 0x02000000
def nvRun (op : Nat) : State := (base.set CFG_NVM_STATUS_BUSY).withLoad { base.load with nvm := some (op, 256) }
def aud : State := (base.set CFG_AUDIT_STATUS_RUNNING).put CFG_AUDIT_CFG_PERIOD_H 2
def fus : State := (base.put CFG_STATUS_MODE 6).putWord (CFG_FUSE_DATA 2) 0x01020304
def isOk {α : Type} : RecOut α → Bool
  | .ok _ => true
  | .bad _ _ => false
def payload : RecHead → List Byte
  | .record _ p => p
  | _ => []

/-- Parts of the fabric tests: a region isolated, a scrubber that runs, a pending correction, a partial load in each phase. -/
def iso (r : Nat) : State := base.withFab { base.fab with isolated := 1#16 <<< r }
def firstPair : State := (base.set FAB_PAIR_FIRST_VALID).put FAB_PAIR_FIRST_TILE 9
def scr (crit std : List Nat) : State := base.withFab { base.fab with ctrl := 0x1FF05, critLeft := crit, stdLeft := std }
def fixing : State := base.withFab { base.fab with fixes := [(8193, 0, 4)], upsets := [(7, 1), (8193, 4)] }
def ghold : State := base.withFab { base.fab with holds := 3#768 <<< 766 }
def deepErr : State := base.withLgc { base.lgc with deepBad := [(1605631, 1#72 <<< 71)] }
def reqs : State := base.put SCR_PR_SRC_BANK 8
def prPhase (p : Nat) (wrote : Bool) (rank : Nat) : State :=
  let s := (base.put SCR_PR_STATE_PHASE p).put SCR_PR_STATUS_REGION 2
  s.withLoad { s.load with prWrote := wrote, pr := { Reader.empty with rank := rank } }

/-- Parts of the PLL and Fix tests: FPLL1 with settings that its band table covers, running and locked; the selector in a state with
sources valid, qualified and selected. -/
def pset : State :=
  let s := ((base.put PLL_OSC_KHZ_ALL 25000).set (PLL_CFG_EN 1)).put (PLL_FREQ_KHZ 1) 3000000
  ((s.set (PLL_BAND0_VALID 1 0)).put (PLL_BAND1_FMIN_KHZ 1 0) 2900000).put (PLL_BAND2_FMAX_KHZ 1 0) 3100000
def prun (locked held : Bool) : State :=
  let s := (pset.putB (PLL_STATUS_LOCKED 1) locked).putB (PLL_STATUS_MUTED 1) (!locked)
  (s.withPll { s.pll with refs := 0x3F }).putPl 1 { Pll.off with cfg := 0x80000000, held := held }
def loadB : State := base.withPll { base.pll with loadBand := true }
def papply (n : Nat) : State := base.putPl n { Pll.off with applying := true }
def fx (st sel cand valid qual : Nat) : State :=
  let s := ((base.put FIX_STATE_STATE st).put FIX_STATE_SELECTED sel).put FIX_STATE_CANDIDATE cand
  ((s.putWord FIX_SRC_STATUS (BitVec.ofNat 32 (valid + 256 * qual))).putWord FIX_PRIO 0x8D1).put BRG_STATUS_STRATUM 2
def fxs (s : State) (o : Int) (seen : BitVec 4) : State := s.withFix { s.fix with ofs := [o, o, o, o], last := [o, o, o, o], seen := seen, oscOk := true }
def held3 : State := (fx 3 3 0 6 4).withFix { base.fix with hold := true }
def lostc : State := (fx 4 4 2 0 0).withFix { base.fix with candLost := true }
def meanS : State := ((fx 1 5 0 0 0).put FIX_CFG_DR_AVG_S 2).withFix { base.fix with hist := [60000000, 70000000, 1] }
def ppsOn : State := fxs (((fx 3 1 0 1 1).set FIX_PPS_CFG_EN).set FIX_STATE_TIME_VALID) 0 0
def openBand : State := pset.withMask [(PLL_BAND0 1 63, 0xFFFFFFFF), (PLL_BAND1 1 63, 0xFFFFFFFF), (PLL_BAND2 1 63, 0xFFFFFFFF)]

/-- Parts of the lane tests: lane `n` out of electrical idle in a mode, with more of its state. -/
def lnm (n mode : Nat) : State :=
  let s := ((base.put (LNK_CFG_MODE n) mode).set (PLL_STATUS_LOCKED (lanePll n))).set (LNK_GROUP_STATUS_REF_OK (n / 6))
  s.putLane n { LnkLane.idle with on := true }
def eth (up : Bool) : State := (lnm 23 2).putB (LNK_STATUS_UP 23) up
def ethq (ts : Bool) : State := (eth true).putLane 23 { LnkLane.idle with on := true, txq := [(zeros 64, 9, ts)] }
def full23 : State := (eth true).putStrm 23 { credits := 0, buf := List.replicate 2047 { data := 0, last := false, user := 0 } }
def stamped : State := base.putLane 5 { LnkLane.idle with fifo := [(7, 2 ^ 40 + 1, 999999999, 255), (8, 0, 0, 0)] }
def brl (st : Nat) (prop : Option Nat) (step : Bool) (top : Nat) : State :=
  let s := ((lnm 12 4).put (LNK_BRG_STATE_STATE 12) st).put (LNK_BRG_STATE_OWN_CAP 12) 31
  s.putLane 12 { LnkLane.idle with on := true, prop := prop, inStep := step, top := top }
def prbs : State := ((lnm 12 5).set (LNK_PRBS_CFG_CHK_EN 12)).set (LNK_PRBS_STATUS_CHK_LOCK 12)
def retr : State := (((brl 3 none false 2).put (LNK_BRG_CFG_RETRY_S 12) 1).put (LNK_BRG_STATE_FAILED_AT 12) 4).set (LNK_STATUS_UP 12)
def sig : State := ((brl 3 none false 2).set (LNK_STATUS_SIGNAL 12)).set (LNK_STATUS_UP 12)
def lnkOpen : State := (eth true).withMask [(LNK_CFG 23, 0xFFFFFFFF)]

/-- Parts of the Bearing tests: the engine of part 5 with every port in state `st` and keys in its slots; a member or the master
in a landfall state; a frame with any body and tag. -/
def bkey : Slot := { Slot.erased with key := zeros 16, modebind := 0x34, pages := 4, ctrw := 1, valid := true }
def brg (role lf st : Nat) : State :=
  let s := (((base.put CFG_LANDFALL_ROLE role).put CFG_LANDFALL_STATE lf).put BRG_STATUS_OWN_ID 5).put BRG_STATUS_STRATUM 2
  let s := ((s.putWord (PAGE_SLOTS_LO 2) 0xFFFFFFFF).put BRG_KEY_CFG_PAGE 2).put BRG_KEY_CFG_LINK_SLOT 9
  let s := (s.put BRG_KEY_CFG_SESS_BASE 16).each (List.range 4) fun s p =>
    ((s.put (BRG_PORT_STATUS_STATE p) st).put (BRG_PORT_STATUS_NB_ID p) 6).putBport p { BrgPort.fresh with peerSeed := zeros 8 }
  s.withCph { s.cph with slots := ((s.cph.slots.setIfInBounds 9 bkey).setIfInBounds 16 bkey).setIfInBounds 22 bkey }
def bup : State := brg 1 1 3
def bp (s : State) (p : Nat) (f : BrgPort → BrgPort) : State := s.putBport p (f (s.bport p))
def onTx (cls ch origin : Nat) (pl : List Byte) (p : Nat) : BrgTx :=
  { cls := cls, dst := 6, bcast := false, channel := ch, tag := 9, src := 5, ttl := 3, seq := none, origin := origin, payload := pl, copies := [(p, 0)] }
def bq (s : State) (q : List BrgTx) : State := s.withBrg { s.brg with queue := q }
def badCrc : List Byte := [0x40, 5, 6, 0, 0, 0, 4, 0, 0, 0, 0, 0, 1, 2, 3, 4] ++ zeros 12
def mast (lf : Nat) : State :=
  let s := brg 2 lf 3
  s.withBrg { s.brg with expected := 0x60, acceptGolden := true }
def late6 (lf : Nat) : State :=
  let s := (mast lf).set (exclFld 6)
  s.withBrg { s.brg with late := [(6, 7, true)] }
def spent : State :=
  let s := bp bup 3 fun v => { v with rekey := true }
  s.withCph { s.cph with slots := s.cph.slots.setIfInBounds 22 { bkey with ctr := ctrMax 1 } }
def ready : State :=
  let s := (bp bup 1 fun v => { v with ahead := [7] })
  bq (s.withCph { s.cph with slots := s.cph.slots.setIfInBounds 18 bkey }) [onTx 1 3 0 (zeros 4) 1]

def onLane (rate : Nat) : State :=
  (((ready.put (BRG_PORT_CFG_LANE0 1) 14).set (LNK_STATUS_UP 14)).put (LNK_CFG_MODE 14) 4).put (LNK_BRG_STATE_RATE 14) rate

/-- Parts of the cipher tests: page 3 bound to master 2 with every slot, a slot with its binding, requests waiting and running. -/
def cph : State :=
  let s := ((base.set (PAGE_CFG_EN 3)).put (PAGE_CFG_MASTER 3) 2).put (PAGE_CFG_QUOTA 3) 64
  (s.putWord (PAGE_SLOTS_LO 3) 0xFFFFFFFF).putWord (PAGE_SLOTS_HI 3) 0xFFFFFFFF
def m2 : Acc := Acc.whole 2
def key8 (mb ctrw ctr : Nat) : Slot := { Slot.erased with key := zeros 16, modebind := mb, pages := 8, ctrw := ctrw, ctr := ctr, valid := true }
def keyed7 (v : Slot) : State := cph.putSlot 7 v
def ctrSlot : State := keyed7 (key8 0x33 1 9)
def req (op : Nat) : CphReq := ctrSlot.plainGo 3 op 7
def dir (s : State) (r : CphReq) : State := s.withCph { s.cph with directs := [r] }
def que (s : State) (r : CphReq) : State := s.withCph { s.cph with queue := [{ r with direct := false }] }
def descr : State := (ctrSlot.putWord (Q_DESC 3 0) 0x10070009).putWord (FAB_DEEP_HOPEN 0) 1
def pctr : State := ctrSlot
def pdesc : State := descr
def pbeats : PageBeats := { len := 0, aadLen := 0, tagLen := 0, iv := 0, tag := 0, aad := [], data := [] }
def dwords : List Word := [0x10070009, 0, 0, 0, 0, 0, 0, 0]
def fifo : State := cph.withCph { cph.cph with fifos := cph.cph.fifos.setIfInBounds 3 [(2 ^ 40 + 5, 9), (6, 1)] }
def shad : State := keyed7 { key8 0x33 1 9 with gen := 255, shadow := some ⟨zeros 32, 0x31, 8, 2⟩ }
def kd : State := (cph.putWord (K_DATA 3 0) 0x04030201).put (K_BIND_MODEBIND 3) 0x33
def parent : State := cph.putSlot 8 (key8 0x75 1 0)
def rng : State := cph.set CPH_STATUS_RNG_FAIL
def login : State := cph.putSlot 63 { key8 7 1 0 with key := zeros 32 }
def spentKey : State := keyed7 (key8 0x33 0 65535)
def gcm : State := (keyed7 (key8 0x34 1 9)).putWord CPH_LMD_SLOTS_LO 0x80

/-- Parts of the receive tests: the radio clocked, a sampler in a step, DDC 2 running, and context 1 with DDC 2 as its main DDC. -/
def rad : State := (((base.set (PLL_STATUS_LOCKED 10)).set SMP_CFG_RF_EN).set SMP_CFG_LINE_EN).put SMP_SOUND_CFG_WINDOWS 4
def est1 : CoefSet := { offset := 5, gain := 131072, skew := 0 - 7, bw := 3 }
def estBad : CoefSet := { est1 with offset := 3000 }
def trim (st n wins : Nat) (e : CoefSet) : State :=
  (((rad.put (stepFld true) st).put (spareAtFld true) 1).put (serveFld true 1) 1).putRot true { pos := 1, ests := List.replicate n e, wins := wins, power := none, att := false }
def dep (b : BitVec 8) : State := rad.withSmp { rad.smp with departs := b }
def ramping (rs : List (Nat × Nat × CoefSet × Nat)) : State := rad.withSmp { rad.smp with ramps := rs }
def norm : SliceStats := { mean := 0, pilot := 0, phase := 0, distinct := 16 }
def off3 : List SliceStats := [norm, norm, norm, { norm with pilot := 101 }, norm]
def rawOn : State := rad.set SMP_CFG_RAW_EN
def powered (p : Int) : State := (trim 1 2 2 est1).putRot true { (trim 1 2 2 est1).rot true with power := some p }
def stg (off : Nat) : State :=
  (((rad.put SMP_STAGE_OFFSET_VALUE off).put SMP_STAGE_GAIN_VALUE 131072).put SMP_STAGE_SKEW_VALUE 65529).put SMP_STAGE_BW_VALUE 3
def set6 : State := rad.putSet 6 est1
def dac : State := (rad.put SMP_CFG_DAC_EN 3).put SMP_CFG_DAC_SRC 2
def ddr (cfg dec : Word) : State :=
  let s := ((rad.set RXC_CFG_EN).set (DDC_CFG_EN 2)).set (DDC_STATUS_RUNNING 2)
  (s.putWord (DDC_DEC 2) dec).putDd 2 { DdcState.fresh with dec := dec, cfg := cfg, fw := 77 }
def dPlain : State := ddr 0x10060000 0x01070100
def dUnit : State := dPlain.putDd 2 { dPlain.dd 2 with words := [5], part := 4095 }
def dFull : State := dUnit.putStrm (ddcPort 2) { StreamPort.idle with buf := (unitBeats 0 0 (List.replicate 8129 0)) }
def dDirty : State := dPlain.putDd 2 { dPlain.dd 2 with dirty := true }
def dScs : State := ((ddr 0x12060000 0x01070100).putWord (DDC_HOP 2 0) 0x1000).putWord (DDC_HOP 2 1) 0x2000
def dHop (idx : Nat) (cfg : Word) : State :=
  let s := ((dScs.set (DDC_STATUS_HOPPING 2)).put (DDC_STATUS_HOP_IDX 2) idx)
  s.putDd 2 { s.dd 2 with hopCfg := cfg }
def dLat : State := dPlain.putDd 2 { dPlain.dd 2 with latched := some (4242, false, false) }
def dSwap (dec : Word) : State := (dPlain.putWord (DDC_DEC 2) dec).set (DDC_STATUS_SWAP_PEND 2)
/-- Context 1 in a mode: the frequency word `fw`, decimation `dec`. -/
def cxm (mode fw : Nat) (dec : Word) : State :=
  let s := ddr 0x24060000 dec
  let s := (s.putDd 2 { s.dd 2 with fw := fw }).set BCD_CFG_EN
  let s := ((s.set (CTX_CFG_EN 1)).put (CTX_CFG_MODE 1) mode).put (CTX_CFG_MAIN 1) 2
  (s.set (CTX_CFG_SIDE_EN 1)).set (CTX_CFG_AUDIO_EN 1)
/-- AM at 1 MHz and D = 32,000; FM at 100 MHz and D = 3,200; DRM mode B at 6 MHz and D = 20,000. -/
def cam : State := cxm 1 4294967 0x00070FA0
def floodOn : State :=
  let s := cam.set (CTX_STATUS_FLOOD 1)
  s.putCx 1 { s.cx 1 with flood := { powers := [], calm := 100 } }
def cfm : State := cxm 2 429496730 0x00070190
def cdrm : State := cxm 3 25769804 0x000709C4
def cpd : State :=
  ((((cam.set (CTX_STATUS_LOCK 1)).set (CTX_STATUS_CPD_SYNC 1)).put (CTX_CPD_PAYLOAD_BYTES 1) 2).put (CTX_CPD_CRC_W 1) 0).putWord (CTX_CPD_POLY 1) 7
/-- Bit periods whose middle half stands 10° and 0° from the phase before, and one that is mostly blanked; a decoder with bit lock. -/
def p1 : BitPeriod := List.replicate 8 (1820, false)
def p0 : BitPeriod := List.replicate 8 (0, false)
def pX : BitPeriod := List.replicate 8 (1820, true)
def cpdRun (f : Option (List (Option Bool))) (bits : List (Option Bool)) (w : Nat) : State :=
  let s := (cpd.set (CTX_CFG_CPD_EN 1)).putB (CTX_STATUS_CPD_SYNC 1) f.isSome
  let s := (s.putWord (CTX_CPD_POLY 1) (if w = 0 then 7 else if w = 1 then 0x1021 else 0x04C11DB7)).put (CTX_CPD_CRC_W 1) w
  s.putCpd 1 { CpdState.fresh with periods := 64, phi := some (0, 4), bits := bits, frame := f }
def bitsOfWord (n w : Nat) : List (Option Bool) := (List.range n).map fun i => some (w.testBit (n - 1 - i))
/-- RDS blocks of a group: information and check bits under an offset word. -/
def rb (offset info : Nat) : RdsBlock :=
  { word := BitVec.ofNat 26 (info * 1024 + Nat.xor (crcMsb 10 0x1B9 0 0 (bitsMsbFirst (beBytes 2 info))) offset), erased := false }
def badBlock : RdsBlock := { word := 0, erased := true }
def rdsAll : State := cfm.putWord (CTX_RDS_FILTER 1) 0xFFFFFFFF
def sideFull (s : State) : State := s.putStrm sidePort { StreamPort.idle with buf := unitBeats 0 0 (List.replicate 2046 0) }
def drmL : State := (cdrm.set (CTX_STATUS_LOCK 1)).put (CTX_STATUS_DRM_DET 1) 2
def afs : State :=
  let s := (((cfm.set (CTX_AFE_VALID 1 9)).put (CTX_AFE_HZ 1 9) 101000000).set (CTX_CFG_SCAN_EN 1))
  s.putCx 1 { s.cx 1 with levels := (s.cx 1).levels.setIfInBounds 9 [40, 42] }
def scanning : State :=
  let s := (afs.putWord (DDC_DEC 5) 0x00070190).withScan [(5, 1)]
  let s := (s.put (DDC_STATUS_TAPS 2) 1).putDd 2 { s.dd 2 with dec := 0x00060200, bankA := [(0, 0x20000)] }
  s.putCx 1 { s.cx 1 with used := [(100, 20480)], above := some (9, 2) }
def ident : State :=
  let s := afs.set (CTX_STATUS_IDENT_WAIT 1)
  s.putCx 1 { s.cx 1 with prev := some (some 99000000, 9) }
def carr : State :=
  let s := (cam.set (CTX_STATUS_LOCK 1)).put FIX_BCD_CFG_CTX 1
  s.putCx 1 { s.cx 1 with ivalBad := false }

/-- Parts of the modem tests: TX channel 1 in a state, with frames; the same in TP mode with slot 5; RX channel 1, in DATA or TP mode. -/
def lmd : State := (((rad.set LMD_CFG_EN).set LMD_CFG_MON_EN).put SMP_CFG_DAC_EN 3)
def fr (tag : Nat) : LmdFrame := { payload := [1, 2], rate := 2, tag := tag }
def txs (st : Nat) (q : List LmdFrame) : State :=
  let s := ((lmd.set (TX_CFG_EN 1)).put (TX_STATUS_STATE 1) st).set (TX_RATE_EN 1 2)
  s.putTx 1 { LmdTx.fresh with queue := q, seq := 255 }
def txm (s : State) (f : LmdTx → LmdTx) : State := s.putTx 1 (f (s.tx 1))
def lmdSlot (s : State) : State := (s.put ⟨CPH_LMD_SLOTS_LO, 5, 1⟩ 1).putSlot 5 { bkey with modebind := 0x34, ctr := 20 }
def txp (b : Option TpBlock) (due : Bool) (cmd : Nat) : State :=
  let s := lmdSlot (((txs 2 []).set (TX_CFG_MODE 1)).put (TX_TP_SLOT 1) 5)
  txm (s.put (TX_TP_START_EVERY 1) 255) fun v => { v with cfg := 0x40000000, block := b, startDue := due, cmd := cmd }
def keyless (s : State) : State := s.putSlot 5 Slot.erased
def mon2 (run : Nat) : State := (txs 2 []).put LMD_MON_STATUS_RUN run
def rxd (b : Option (Nat × Nat × Nat × Nat)) : State :=
  let s := (((lmd.set (RX_CFG_EN 1)).put (RX_CFG_RATE_EN 1) 8).set (RX_RATE_EN 1 3)).put (RX_GUARD_DET_THR 1) 10
  (s.putRx 1 { LmdRx.fresh with burst := b }).rxTake 1
def rxp : State :=
  let s := lmdSlot (((lmd.set (RX_CFG_EN 1)).set (RX_CFG_MODE 1)).put (RX_CFG_SLOT 1) 5)
  ((((s.set (RX_SESSION_VALID 1)).put (RX_SESSION_SESSION 1) 0x123456).put (RX_STATUS_TPOUT 1) 3).putRx 1 { LmdRx.fresh with nLast := 40, run := 2 }).rxTake 1
/-- RX channel 1 in session 0 with counter `n` last; with the slot's key and LINK_ID of the START witness; with a mask of two points. -/
def rxz (n : Nat) : State :=
  let s := rxp.put (RX_SESSION_SESSION 1) 0
  s.putRx 1 { s.rx 1 with nLast := n }
def rxk (s : State) : State :=
  (s.putSlot 5 { s.slot 5 with key := zeros 12 ++ [0xBF, 0x2F, 0x01, 0x00] }).putRx 1 { (((s.put (RX_TP_LINK_ID 1) 9087).rxTake 1).rx 1) with nLast := 40 }
def masked (s : State) : State := s.each (List.range 32) fun s i => s.put (LMD_MASK_LEVEL i) 4000
/-- The coded bits of a burst as a noiseless channel gives them; a frame of one byte at MOD 0 and CR 0 with SEQ 9. -/
def noiseless (bs : List Bool) : List Int := bs.map fun b => if b then 1 else -1
def softHead (len : Nat) : List Int :=
  let h := lmdHeader len 0 0 9
  noiseless (interleave 19 (convEncode 0 (bitsLsbFirst (h.take 3) ++ bitsMsbFirst (h.drop 3) ++ List.replicate 6 false)))
def softBody (payload : List Byte) (crc : Word) : List Int :=
  let bits := bitsLsbFirst (payload ++ leBytes 4 crc.toNat)
  noiseless (interleave 16 (padBits 32 (convEncode 0 (List.zipWith (fun a b => a ^^ b) bits (prbs15 bits.length 0x7FFF) ++ List.replicate 6 false))))
def bhd : List Byte := lmdHeader 2 0 0 9

/-- Parts of the port tests: sample port 7 in a state; banks of pins; wear; the Binnacle port with entries in its queue. -/
def spp (st : Nat) : State := (base.set (SPT_CFG_EN 7)).put (SPT_STATUS_STATE 7) st
def spx (st : Nat) (v : SptPort) : State := (spp st).putSp 7 v
def spRun : SptPort := { SptPort.fresh with half := 32, settle := 0x50000 }
def spOut (buf : List (Word × Word)) : State := spx 2 { spRun with cfg := 0x40000000, buf := buf }
def pinb : State := ((base.withMask [(PIN_BANK_CFG 5, 0xFFFFFFFF), (PIN_CLAIM 5, 0xFFFFFFFF)]).put (PIN_CFG_MUX 5 4) 3).put (PIN_CFG_MUX 5 5) 1
def pinf : State := (pinb.set (PIN_BANK_CFG_MODE 5)).putWord (PIN_CLAIM 5) 0
def wear : State := (base.set WEAR_STATUS_BUSY).put WEAR_CFG_LIMIT_PPM 500
def wearW : State := wear.setWear fun w => { w with waits := true }
def bin (q : List BinEntry) : State := base.putBinQueue q
def binAp (b : Word) : State := (bin []).putWord (BIN_AP 63) b
def bin16 : State := (bin (List.replicate 16 (.post 0 0 0))).putWord (BIN_AP 63) 0x40001000
def par (a : BitVec 16) (d : Word) : BitVec 4 := bnParity a d
def parc (s : State) : State := s.set BIN_CFG_PAR_CHECK
def mirr : State := (bin []).set BIN_STATUS_MIRROR_LIVE

/-- Parts of the Watchkeeper tests: it runs, at either level, with a login key, with a scan. -/
def mon : State := base.set MON_STATUS_RUN
def ctl : State := mon.set MON_STATUS_CONTROL
def mkey (s : State) : State := s.putSlot 63 { key8 7 1 0 with key := zeros 32 }
def chal (s : State) (fails : Nat) : State := ((mkey s).withCph { (mkey s).cph with challenge := zeros 16 }).setMon fun m => { m with fails := fails }
def locked : State := (mkey mon).set MON_STATUS_LOCKED
def scan (s : State) : State := s.setMon fun m => { m with eye := some (3, 0, [(0, 0)]) }
def ctlRad : State := ((rad.set MON_STATUS_RUN).set MON_STATUS_CONTROL)
def muted (s : State) : State := s.set (PLL_STATUS_MUTED 7)
def errIs (t : State) (c : Nat) (line : String) : Bool := t.get MON_STATUS_LAST_ERR == c && t.out.contains (.text line)
def okIs (t : State) : Bool := t.out.contains (.text "OK") && t.get MON_CMD_COUNT_COUNT == 1
def bandM : State := ctl.withMask [(PLL_BAND0 10 63, 0xFFFFFFFF), (PLL_BAND0 10 63 + 4, 0xFFFFFFFF), (PLL_BAND0 10 63 + 8, 0xFFFFFFFF)]

/-! ### The block as a whole -/

theorem wit_StepCarriesOutTheFrontCommand_1 : chk (true) (step { mirr with pending := [.mdbRise, .watchSecond] })
    (fun t => t.pending == [.watchSecond] && t.now == mirr.now && t.bit BIN_IRQ_STATUS_DOORBELL) = true := by decide +kernel
theorem wit_EmptyQueueIsOneTick_1 : (base.pending == []) = true := by decide +kernel
theorem wit_StepKeepsCanonicalMemories_1 : (base.cellsWf) = true := by decide +kernel
theorem wit_ResetIsWellKept_1 : chk (State.reset.cellsWf && State.reset.pending == [] && State.reset.dev == .off)
  (execTjMinute [] State.reset)
    (fun t => t.dev == .off) = true := by decide +kernel
theorem wit_EventsKeepToTheirBlock_1 : chk (homeBlock .mdbRise == some 17) (execMdbRise mirr)
    (fun t => t.word SYS_SERVICE == mirr.quiet.word SYS_SERVICE) = true := by decide +kernel
theorem wit_TicksMakeSeconds_1 :
    ((at_ .watch).pending == [] && !(at_ .watch).inService && base.wch.up && (base.set WCH_STATUS_XTAL_OK).bit WCH_STATUS_XTAL_OK && base.get WCH_TRIM_TRIM == 0 &&
      decide (base.wch.aNs < 1000000000 ∧ base.wch.aFrac < 64 ∧ base.wch.aSec + 32768 < 2 ^ 48)) = true := by decide +kernel

/-! ### Power -/

theorem wit_WaysIntoAndOutOfOff_1 : ((at_ .off).dev == .off) = true := by decide +kernel
theorem wit_WaysIntoAndOutOfOff_2 : ((at_ .off).dev == .off) = true := by decide +kernel
theorem wit_WaysIntoAndOutOfOff_3 : chk (base.dev != .off) (execPorstNRelease 0 true base)
    (fun t => t.dev == base.dev && t.load == base.load && t.pwr == base.pwr) = true := by decide +kernel
theorem wit_WaysIntoAndOutOfOff_4 : chk (base.dev != .off) (execPowerGood 0 true base)
    (fun t => t.dev == base.dev && t.load == base.load && t.pwr == base.pwr) = true := by decide +kernel
theorem wit_WaysIntoAndOutOfOff_5 : chk (base.inService) (execCoreDrop base)
    (fun t => t.dev == .off && t.bit PWR_STATUS_CORE_DROP && t.mask == [] && t.deep == []) = true := by decide +kernel
theorem wit_WaysIntoAndOutOfOff_6 : chk ((at_ .watch).dev == .watch && 2 ≤
  ((at_ .watch).withPwr { base.pwr with wake := 2 }).pwr.wake) (execCoreDrop ((at_ .watch).withPwr { base.pwr with wake := 2 }))
    (fun t => t.dev == .off && t.bit PWR_STATUS_CORE_DROP) = true := by decide +kernel
theorem wit_WaysIntoAndOutOfOff_7 : chk ((at_ .loading).dev == .loading) (execCoreDrop (at_ .loading))
    (fun t => t.dev == .off) = true := by decide +kernel
theorem wit_WaysIntoAndOutOfOff_8 : chk (base.dev != .off) (execAuxLost 2000 2500 base)
    (fun t => t.dev == .off && t.wch.aSec == base.wch.aSec) = true := by decide +kernel
theorem wit_WaysIntoAndOutOfOff_9 : chk ((at_ .watch).dev == .watch) (execRetentionLost 500 true 2000 2500 (at_ .watch))
    (fun t => t.dev == .off) = true := by decide +kernel
theorem wit_WaysIntoAndOutOfOff_10 : chk ((at_ .watch).dev == .watch && wup.wch.up && wup.wch.logq.length < 4) (execAuxLost 2000 2500 wup)
    (fun t => t.wch.logq == wup.wch.logq ++ [wup.item 0x010B 1 0 (2000 + 2500 * 65536)]) = true := by decide +kernel
theorem wit_WaysIntoAndOutOfOff_11 : chk (wup.dev == .watch && wup.wch.up && wup.wch.logq.length < 4)
  (execRetentionLost 500 false 2000 2500 wup)
    (fun t => t.wch.logq == wup.wch.logq ++ [wup.item 0x010D 1 0 500]) = true := by decide +kernel
theorem wit_WaysIntoAndOutOfOff_12 : chk (true) (execPorstNAssert base)
    (fun t => t.dev == .off && !t.pwr.porst && t.cph == CphState.fresh && t.lgc == LogicState.fresh) = true := by decide +kernel
theorem wit_WaysIntoAndOutOfOff_13 : chk (wup.dev == .watch && wup.pwr.wake < 2) (execCoreDrop wup)
    (fun t => t.dev == .watch && !t.railOk 0 && t.pwr == wup.pwr) = true := by decide +kernel

theorem wit_RailsComeAndGo_1 : chk (norail.dev != .off && !norail.inService) (execRailReturn 2 norail)
    (fun t => t.railOk 2) = true := by decide +kernel
theorem wit_RailsComeAndGo_2 : chk (norail.dev != .off && !norail.inService) (execRailReturn 8 norail)
    (fun t => t.railOk 8) = true := by decide +kernel
theorem wit_RailsComeAndGo_3 : chk ((at_ .loading).dev != .off && !(at_ .loading).inService) (execDomainPowerLoss 13 (at_ .loading))
    (fun t => !t.railOk 13) = true := by decide +kernel
theorem wit_RailsComeAndGo_4 : chk (norail.dev != .off && !norail.inService) (execDomainPowerUp .lane norail)
    (fun t => t.lanePowered && !t.radioPowered) = true := by decide +kernel
theorem wit_RailsComeAndGo_5 : chk (norail.dev != .off && !norail.inService) (execDomainPowerUp .radio norail)
    (fun t => t.radioPowered && !t.lanePowered) = true := by decide +kernel
theorem wit_RailsComeAndGo_6 : chk (base.dev == .running && base.lanePowered) (execDomainPowerLoss 3 base)
    (fun t => t.lnk == Vector.replicate 24 LnkLane.idle && t.smp == base.smp) = true := by decide +kernel
theorem wit_RailsComeAndGo_7 : chk (base.dev == .running && base.radioPowered) (execDomainPowerLoss 4 base)
    (fun t => t.smp == SmpState.fresh && t.pin == base.pin) = true := by decide +kernel
theorem wit_RailsComeAndGo_8 : chk ((6 : Nat) == 6) (execRailReturn 6 base)
    (fun t => t.grd == base.grd && t.pwr == base.pwr) = true := by decide +kernel

theorem wit_WatchTriggers_1 : chk (trig.dev == .running && trig.commandOk m0 PWR_WATCH_REQ && (1#32).getLsbD 0 &&
  trig.bit PWR_WATCH_CFG_FAB_EN) (execWatchRequest m0 1 trig)
    (fun t => t.dev == .draining && t.pwr.drain == 1 && t.lineLevel 0 && !t.lineLevel 1) = true := by decide +kernel
theorem wit_WatchTriggers_2 : chk (trig.dev == .running && trig.bit PWR_WATCH_CFG_PIN_EN) (execWatchNLow trig)
    (fun t => t.dev == .draining && t.pwr.drain == 1 && t.lineLevel 0 && t.pwr.watchNLow) = true := by decide +kernel
theorem wit_WatchTriggers_3 : chk (trig.dev == .running && trig.bit PWR_WATCH_CFG_VMON_EN && trig.pwr.vmonLow) (execVmonFilterExpiry trig)
    (fun t => t.dev == .draining && t.pwr.drain == 1 && t.pwr.vmonFiltered) = true := by decide +kernel
theorem wit_WatchTriggers_4 : chk ((trig.withDev .halted).dev == .halted) (execWatchRequest m0 1 (trig.withDev .halted))
    (fun t => t.dev == .halted && t.pwr.drain == 0) = true := by decide +kernel
theorem wit_WatchTriggers_5 : chk ((trig.withDev .halted).dev == .halted) (execWatchNLow (trig.withDev .halted))
    (fun t => t.dev == .halted && t.pwr.drain == 0) = true := by decide +kernel
theorem wit_WatchTriggers_6 : chk ((trig.withDev .halted).dev == .halted) (execVmonFilterExpiry (trig.withDev .halted))
    (fun t => t.dev == .halted && t.pwr.drain == 0) = true := by decide +kernel
theorem wit_WatchTriggers_7 : chk (drn.dev == .draining && drn.pwr.drain == 1 && drn.commandOk m0 PWR_WATCH_REQ &&
  drn.bit PWR_WATCH_CFG_FAB_EN) (execWatchRequest m0 1 drn)
    (fun t => t.get PWR_STATUS_ENTRY_CAUSE == 1 && t.dev == .draining && t.pwr == drn.pwr) = true := by decide +kernel
theorem wit_WatchTriggers_8 : chk (drn.dev == .draining && drn.pwr.drain == 1 && drn.bit PWR_WATCH_CFG_PIN_EN) (execWatchNLow drn)
    (fun t => t.get PWR_STATUS_ENTRY_CAUSE == 2 && t.dev == .draining) = true := by decide +kernel
theorem wit_WatchTriggers_9 : chk (drn.dev == .draining && drn.pwr.drain == 1 && drn.bit PWR_WATCH_CFG_VMON_EN && drn.pwr.vmonLow)
  (execVmonFilterExpiry drn)
    (fun t => t.get PWR_STATUS_ENTRY_CAUSE == 4 && t.dev == .draining) = true := by decide +kernel

theorem wit_ComparatorGraceAndRetention_1 : chk (base.get PWR_VMON_CFG_THRESH == 0) (execVmonLow base)
    (fun t => t.pwr == base.pwr) = true := by decide +kernel
theorem wit_ComparatorGraceAndRetention_2 : chk ((base.put PWR_VMON_CFG_THRESH 5).get PWR_VMON_CFG_THRESH != 0 && base.dev != .off &&
  !base.pwr.vmonLow) (execVmonLow (base.put PWR_VMON_CFG_THRESH 5))
    (fun t => t.pwr.vmonLow && t.lineLevel 3) = true := by decide +kernel
theorem wit_ComparatorGraceAndRetention_3 : chk (trig.dev != .watch && trig.dev != .draining) (execVmonHigh trig)
    (fun t => t.pwr == { trig.pwr with vmonLow := false, vmonFiltered := false } && !t.lineLevel 3) = true := by decide +kernel
theorem wit_ComparatorGraceAndRetention_4 : chk (drn.dev == .draining) (execGraceExpiry drn)
    (fun t => t.pwr.graceOver && t.dev == .draining) = true := by decide +kernel
theorem wit_ComparatorGraceAndRetention_5 : chk (drn.dev == .draining && drn.pwr.drain == 1 && drn.drained && drn.pwr.reload == 0)
  (execWatchDrainEnd 5 drn)
    (fun t => t.dev == .watch && t.pwr.drain == 0 && t.pwr.wake == 0 && t.mask == drn.mask &&
      t.bin.latches == []) = true := by decide +kernel
theorem wit_ComparatorGraceAndRetention_6 : chk (drn.dev == .draining && (drn.set PWR_WAKE_CFG_VMON).bit PWR_WAKE_CFG_VMON && drn.pwr.vmonLow) (execVmonHigh (drn.set PWR_WAKE_CFG_VMON))
    (fun t => !t.pwr.vmonLow && t.pwr.causes == 2 && !t.lineLevel 3) = true := by decide +kernel

theorem wit_WakeToClockRelease_1 : chk (wup.dev == .watch && !wup.pwr.leaving && wup.pwr.wake == 0 && wup.bit PWR_WAKE_CFG_PIN &&
  wup.railOk 0 && !wup.pwr.vmonLow) (execWakeEvent false true true wup)
    (fun t => t.pwr.wake == 1 && t.get PWR_STATUS_WAKE_CAUSE % 2 == 1 && t.pwr.causes == 0 && t.dev == .watch) = true := by decide +kernel
theorem wit_WakeToClockRelease_2 : chk (wup.pwr.wake == 0 && wup.pwr.causes == 0) (execWakeEvent false false false wup)
    (fun t => t.pwr == { wup.pwr with watchNLow := true }) = true := by decide +kernel
theorem wit_WakeToClockRelease_3 : chk ((wk 1).dev == .watch && (wk 1).pwr.wake == 1) (execWakeCoreSwitched (wk 1))
    (fun t => t.pwr.wake == 2) = true := by decide +kernel
theorem wit_WakeToClockRelease_4 : chk ((wkq 2).pwr.wake == 2 && (wkq 2).refsInUse.all fun r => (wkq 2).refOk r) (execWakeRefsQualified
  (wkq 2))
    (fun t => t.pwr.wake == 3) = true := by decide +kernel
theorem wit_WakeToClockRelease_5 : chk ((wk 3).pwr.wake == 3 && (wk 3).wakePllsOk) (execWakePllsLocked (wk 3))
    (fun t => t.pwr.wake == 4) = true := by decide +kernel
theorem wit_WakeToClockRelease_6 : chk ((wk 4).pwr.wake == 4) (execWakeScrubDone (wk 4))
    (fun t => t.pwr.wake == 5) = true := by decide +kernel
theorem wit_WakeToClockRelease_7 : chk (1 ≤ (wk 4).pwr.wake && (wk 4).pwr.wake ≤ 4 && (wk 4).pwr.lateAt != (wk 4).pwr.wake)
  (execWakePhaseLate 0 7 (wk 4))
    (fun t => t.lineLevel 2 && t.pwr.wake == 4 && t.pwr.lateAt == 4) = true := by decide +kernel
theorem wit_WakeToClockRelease_8 : chk ((wk 5).dev == .watch && !(wk 5).pwr.leaving && (wk 5).pwr.wake == 5 && !(wk 5).pwr.watchNLow &&
  !(wk 5).pwr.vmonFiltered) (execFabricClockRelease 9 (wk 5))
    (fun t => t.dev == .running && t.pwr.wake == 0 && t.lineLevel 1 && !t.lineLevel 0 && !t.pwr.graceOver) = true := by decide +kernel
theorem wit_WakeToClockRelease_9 : chk (held1.pwr.wake == 0 && held1.bit PWR_WAKE_CFG_PIN && held1.railOk 0 && held1.pwr.vmonLow && held1.bit PWR_WATCH_CFG_VMON_EN) (execWakeEvent false true true held1)
    (fun t => t.pwr.wake == 0 && t.pwr.causes == 1 && t.get PWR_STATUS_WAKE_CAUSE == 0) = true := by decide +kernel
theorem wit_WakeToClockRelease_10 : chk ((wup.putWord PWR_RAILS 0x3F3E).pwr.wake == 0 && !(wup.putWord PWR_RAILS 0x3F3E).railOk 0) (execWakeEvent true true true (wup.putWord PWR_RAILS 0x3F3E))
    (fun t => t.pwr.wake == 0) = true := by decide +kernel
theorem wit_WakeToClockRelease_11 : chk ((wk 2).pwr.lateAt != 2 && (wk 2).refsInUse.any fun r => !(wk 2).refOk r) (execWakePhaseLate 0 7 (wk 2))
    (fun t => t.lineLevel 2 && t.pwr.lateAt == 2) = true := by decide +kernel
theorem wit_WakeToClockRelease_12 : chk (latePll.pwr.wake == 3 && !latePll.wakePllsOk) (execWakePhaseLate 0 7 latePll)
    (fun t => t.lineLevel 2 && t.pwr.lateAt == 3) = true := by decide +kernel
theorem wit_WakeToClockRelease_13 : chk ((wkq 2).pwr.wake == 2 && (wkq 2).refsInUse.all fun r => (wkq 2).refOk r) (execWakePhaseLate 0 7 (wkq 2))
    (fun t => t.pwr == (wkq 2).pwr && !t.bit PWR_STATUS_WAKE_LATE) = true := by decide +kernel
theorem wit_WakeToClockRelease_14 : chk ((wk 3).pwr.wake == 3 && (wk 3).wakePllsOk) (execWakePhaseLate 0 7 (wk 3))
    (fun t => t.pwr == (wk 3).pwr) = true := by decide +kernel

theorem wit_Reloads_1 : chk (base.dev == .running && base.pwr.reload == 0) (execReloadRequest base)
    (fun t => t.dev == .draining && t.pwr.drain == 2 && t.pwr.reload == 1 && t.pwr.reloadLow) = true := by decide +kernel
theorem wit_Reloads_2 : chk (base.dev == .running && base.pwr.reload == 0 && base.commandOk m0 CFG_CMD)
  (execCfgReloadPrimary m0 guardKey base)
    (fun t => t.dev == .draining && t.pwr.drain == 2 && t.pwr.reload == 1) = true := by decide +kernel
theorem wit_Reloads_3 : chk (base.dev == .running && base.pwr.reload == 0 && base.commandOk m0 CFG_CMD)
  (execCfgReloadGolden m0 guardKey base)
    (fun t => t.dev == .draining && t.pwr.drain == 2 && t.pwr.reload == 2) = true := by decide +kernel
theorem wit_Reloads_4 : chk (drn.dev == .draining && drn.pwr.reload == 0) (execReloadRequest drn)
    (fun t => t.dev == .draining && t.pwr.drain == 1 && t.pwr.reload == 1) = true := by decide +kernel
theorem wit_Reloads_5 : chk (drn.dev == .draining && drn.pwr.reload == 0 && drn.commandOk m0 CFG_CMD)
  (execCfgReloadPrimary m0 guardKey drn)
    (fun t => t.dev == .draining && t.pwr.reload == 1) = true := by decide +kernel
theorem wit_Reloads_6 : chk (drn.dev == .draining && drn.pwr.reload == 0 && drn.commandOk m0 CFG_CMD)
  (execCfgReloadGolden m0 guardKey drn)
    (fun t => t.dev == .draining && t.pwr.reload == 2) = true := by decide +kernel
theorem wit_Reloads_7 : chk ((wk 1).dev == .watch && (wk 1).pwr.wake < 2 && (wk 1).pwr.reload == 0) (execWatchReloadRequest (wk 1))
    (fun t => t.dev == .watch && t.pwr.leaving && t.pwr.wake == 0 && t.pwr.reload == 1 && t.pwr.reloadLow) = true := by decide +kernel
theorem wit_Reloads_8 : chk ((wk 3).dev == .watch && 2 ≤ (wk 3).pwr.wake && (wk 3).pwr.reload == 0) (execReloadRequest (wk 3))
    (fun t => t.dev == .watch && t.pwr.leaving && t.pwr.wake == 0 && t.pwr.reload == 1) = true := by decide +kernel
theorem wit_Reloads_9 : chk (true) (execReloadNRise base) (fun t => !t.pwr.reloadLow) = true := by decide +kernel
theorem wit_Reloads_10 :
    ((askd .halted 0).dev == .halted && (askd .halted 0).pwr.reload != 0 && !(askd .halted 0).pwr.reloadLow) = true := by decide +kernel
theorem wit_Reloads_11 :
    ((askd .draining 2).dev == .draining && (askd .draining 2).pwr.drain == 2 && (askd .draining 2).cph.directs == [] &&
      (askd .draining 2).cph.queue == []) = true := by decide +kernel
theorem wit_Reloads_12 : (lvg.dev == .watch && lvg.pwr.leaving && !lvg.pwr.reloadLow && lvg.railOk 0) = true := by decide +kernel

/-! ### The register bus -/

theorem wit_PermittedLiveWrites_1 : chk (live.commandOk m0 WCH_SET_SEC_LO) (execRegisterWrite m0 (BitVec.ofNat 32 WCH_SET_SEC_LO) 77 live)
    (fun t => t.busCode 0 == 0 && t.word WCH_SET_SEC_LO == 77) = true := by decide +kernel
theorem wit_PermittedLiveWrites_2 : chk (live.commandOk m0 WCH_SET_NS) (execRegisterWrite m0 (BitVec.ofNat 32 WCH_SET_NS) 1000000000 live)
    (fun t => t.busCode 0 == 0 && t.get WCH_SET_NS_NS == 999999999) = true := by decide +kernel
theorem wit_PermittedLiveWrites_3 : chk ((live.putWord WCH_STATUS 0xFF).commandOk m0 WCH_STATUS) (execRegisterWrite m0
  (BitVec.ofNat 32 WCH_STATUS) 32 (live.putWord WCH_STATUS 0xFF))
    (fun t => !t.bit WCH_STATUS_TIMER && t.bit WCH_STATUS_TAMPER) = true := by decide +kernel
theorem wit_PermittedLiveWrites_4 : chk (((rowOf (TX_FREQ 0)).any fun r => r.written && base.mayWrite r 0 (TX_FREQ 0) && strobed 0 &&& base.closedBits r (TX_FREQ 0) == 0) && base.busTakes 0 && base.domainUp (TX_FREQ 0)) (execRegisterWrite { m0 with strobe := 0 } (BitVec.ofNat 32 (TX_FREQ 0)) 5 base)
    (fun t => t.busCode 0 == 0 && t.word (TX_FREQ 0) == 0) = true := by decide +kernel
theorem wit_PermittedLiveWrites_5 : chk (((rowOf SCR_PR_SRC).any fun r => r.written && live.mayWrite r 0 SCR_PR_SRC && (blockOf SCR_PR_SRC == some 4) && (strobed 1 &&& live.closedBits r SCR_PR_SRC &&& (0xFFFFFFFF ^^^ live.writeView SCR_PR_SRC) == 0) && SCR_PR_SRC % 4 == 0 && live.busTakes 0 && live.domainUp SCR_PR_SRC)) (execRegisterWrite { m0 with strobe := 1 } (BitVec.ofNat 32 SCR_PR_SRC) 0xFFFFFFFF live)
    (fun t => t.busCode 0 == 0 && (rowOf SCR_PR_SRC).any fun r => t.word SCR_PR_SRC == live.stored r SCR_PR_SRC (strobed 1) (live.closedBits r SCR_PR_SRC) 0xFFFFFFFF) = true := by decide +kernel
theorem wit_PermittedLiveWrites_6 : chk (((rowOf GRD_CFG).any fun r => r.written && grdOpen.mayWrite r 0 GRD_CFG && (blockOf GRD_CFG == some 5) && (strobed 15 &&& grdOpen.closedBits r GRD_CFG &&& (0 ^^^ grdOpen.writeView GRD_CFG) == 0) && grdOpen.busTakes 0 && grdOpen.domainUp GRD_CFG)) (execRegisterWrite m0 (BitVec.ofNat 32 GRD_CFG) 0 grdOpen)
    (fun t => t.busCode 0 == 0 && (rowOf GRD_CFG).any fun r => t.word GRD_CFG == grdOpen.stored r GRD_CFG (strobed 15) (grdOpen.closedBits r GRD_CFG) 0) = true := by decide +kernel

theorem wit_ClosedBitsCompletePermerr_1 : chk (base.busTakes 0 && TX_FREQ 0 % 4 == 0 && base.domainUp (TX_FREQ 0) &&
  cellRead base.mask (TX_FREQ 0) == 0 && (rowOf (TX_FREQ 0)).any (fun r => base.mayWrite r 0 (TX_FREQ 0) && r.rwi &&&
  (1 ^^^ base.writeView (TX_FREQ 0)) != 0)) (execRegisterWrite m0 (BitVec.ofNat 32 (TX_FREQ 0)) 1 base)
    (fun t => t.busCode 0 == 2 && t.bit SYS_BUSERR_INFO_VALID) = true := by decide +kernel

theorem wit_ResponsePriority_1 : chk (base.busTakes 0 && badPar.addrFlips != 0) (execRegisterWrite badPar 0x40000000 0 base)
    (fun t => t.busCode 0 == 3) = true := by decide +kernel
theorem wit_ResponsePriority_2 : chk (base.busTakes 1) (execRcRead 1 4 0x40000000 base)
    (fun t => t.busCode 1 == 3 && t.busData 1 == 0) = true := by decide +kernel
theorem wit_ResponsePriority_3 : chk (base.busTakes 0 && blockOf 0x30000000 == none) (execRegisterWrite m0 0x30000000 0 base)
    (fun t => t.busCode 0 == 1) = true := by decide +kernel
theorem wit_ResponsePriority_4 : chk (base.busTakes 1 && blockOf 0x30000000 == none) (execRcRead 1 0 0x30000000 base)
    (fun t => t.busCode 1 == 1 && t.busData 1 == 0) = true := by decide +kernel
theorem wit_ResponsePriority_5 : chk (base.busTakes 0 && base.domainUp BIN_IND_CMD && (rowOf BIN_IND_CMD).any (fun r => r.written &&
  !base.mayWrite r 0 BIN_IND_CMD)) (execRegisterWrite m0 (BitVec.ofNat 32 BIN_IND_CMD) 1 base)
    (fun t => t.busCode 0 == 2) = true := by decide +kernel
theorem wit_ResponsePriority_6 : chk (base.busTakes 0 && (3 : Fin 16) == 3) (execRegisterWrite { m0 with dataFlips := 8 } 0x40000000 0 base)
    (fun t => t.busCode 0 == 3) = true := by decide +kernel

theorem wit_UnassignedOffsetsCompleteDone_1 : chk (base.busTakes 0 && (blockOf 0x40000400).any (· != 20) && (rowOf 0x40000400).isNone)
  (execRcRead 0 0 0x40000400 base)
    (fun t => t.busCode 0 == 0 && t.busData 0 == 0) = true := by decide +kernel
theorem wit_UnassignedOffsetsCompleteDone_2 : chk (base.busTakes 0 && (blockOf 0x40000400).any (· != 20) && (rowOf 0x40000400).isNone)
  (execRegisterWrite m0 0x40000400 9 base)
    (fun t => t.busCode 0 == 0 && t.load == base.load) = true := by decide +kernel

theorem wit_BusErrorsAreCaptured_1 : chk (base.busTakes 3 && blockOf 0x30000000 != some 20) (execRcRead 3 0 0x30000004 base)
    (fun t => t.bit SYS_BUSERR_INFO_VALID && t.get SYS_BUSERR_INFO_CODE == 1 && !t.bit SYS_BUSERR_INFO_WRITE &&
      t.get SYS_BUSERR_INFO_MASTER == 3 && t.word SYS_BUSERR_ADDR == 0x30000004) = true := by decide +kernel
theorem wit_BusErrorsAreCaptured_2 : chk (captured.busTakes 3 && captured.bit SYS_BUSERR_INFO_VALID)
  (execRcRead 3 0 0x30000004 captured)
    (fun t => t.bit SYS_BUSERR_INFO_OVERRUN && t.get SYS_BUSERR_INFO_CODE == 1 && t.word SYS_BUSERR_ADDR == 5) = true := by decide +kernel
theorem wit_BusErrorsAreCaptured_3 : chk (base.busTakes 0 && blockOf 0x30000000 == none) (execRegisterWrite m0 0x30000000 0 base)
    (fun t => t.bit SYS_BUSERR_INFO_VALID && t.bit SYS_BUSERR_INFO_WRITE && t.get SYS_BUSERR_INFO_CODE == 1) = true := by decide +kernel
theorem wit_BusErrorsAreCaptured_4 : chk (captured.busTakes 0) (execRegisterWrite m0 0x30000000 0 captured)
    (fun t => t.bit SYS_BUSERR_INFO_OVERRUN && t.word SYS_BUSERR_ADDR == 5) = true := by decide +kernel

theorem wit_ReadsClearOnlyRcFields_1 : chk (rcs.busTakes 2 && (rowOf 0x40000010).any (fun r => r.rc == 0xFFFF) &&
  rcs.domainUp 0x40000010) (execRcRead 2 0 0x40000010 rcs)
    (fun t => t.busCode 2 == 0 && t.busData 2 == rcs.view 2 0x40000010 && t.word 0x40000010 == 0 &&
      t.word LOG_SEQ == 7) = true := by decide +kernel

theorem wit_TimeSnapshots_1 : chk (split.busTakes 4 && split.wch.up && split.wch.aSec < 2 ^ 48 && split.wch.aNs < 1000000000)
  (execWchTimeSnapshot 4 split)
    (fun t => t.busCode 4 == 0 && (t.busData 4).toNat == 9 && (cellRead t.wch.snaps 4).toNat == 9 * 2 ^ 32) = true := by decide +kernel
theorem wit_TimeSnapshots_2 : chk (split.busTakes 4) (execRcRead 4 0 (BitVec.ofNat 32 WCH_TIME_SEC_HI) split)
    (fun t => (t.busData 4).toNat == (cellRead split.wch.snaps 4).toNat / 2 ^ 64) = true := by decide +kernel
theorem wit_TimeSnapshots_3 : chk ((clocked 3).busTakes 5 && (clocked 3).fix.sec < 2 ^ 48 && (clocked 3).fix.ns < 1000000000 &&
  (clocked 3).fix.frac < 2 ^ 32) (execFixTimeSnapshot 5 (clocked 3))
    (fun t => t.busCode 5 == 0 && (t.busData 5).toNat == 3 &&
      (cellRead t.fix.snaps 5).toNat == 3 * 2 ^ 48 + 70000 * 2 ^ 16 + 2) = true := by decide +kernel
theorem wit_TimeSnapshots_4 : chk ((clocked 3).busTakes 5) (execRcRead 5 0 (BitVec.ofNat 32 FIX_TIME_NS) (clocked 3))
    (fun t => (t.busData 5).toNat == (cellRead (clocked 3).fix.snaps 5).toNat / 2 ^ 16 % 2 ^ 32) = true := by decide +kernel
theorem wit_TimeSnapshots_5 : chk (split.busTakes 4) (execRcRead 4 0 (BitVec.ofNat 32 WCH_TIME_NS) split)
    (fun t => (t.busData 4).toNat == (cellRead split.wch.snaps 4).toNat % 2 ^ 32) = true := by decide +kernel
theorem wit_TimeSnapshots_6 : chk (split.busTakes 4) (execPorstNAssert split)
    (fun t => t.wch.snaps == [] && t.fix.snaps == []) = true := by decide +kernel
theorem wit_TimeSnapshots_7 : chk ((clocked 3).busTakes 5) (execRcRead 5 0 (BitVec.ofNat 32 FIX_TIME_SEC_HI) (clocked 3))
    (fun t => (t.busData 5).toNat == (cellRead (clocked 3).fix.snaps 5).toNat / 2 ^ 80) = true := by decide +kernel
theorem wit_TimeSnapshots_8 : chk ((clocked 3).busTakes 5) (execRcRead 5 0 (BitVec.ofNat 32 FIX_TIME_FNS) (clocked 3))
    (fun t => (t.busData 5).toNat == (cellRead (clocked 3).fix.snaps 5).toNat % 2 ^ 16) = true := by decide +kernel

theorem wit_FabricWindow_1 : chk ((base.clr FAB_STATUS_RELEASED).busTakes 0 &&
  !(base.clr FAB_STATUS_RELEASED).bit FAB_STATUS_RELEASED) (execFsAccess m0 false 0x50000010 0 none (base.clr FAB_STATUS_RELEASED))
    (fun t => t.busCode 0 == 0 && t.busData 0 == 0 && t.bus.fs == []) = true := by decide +kernel
theorem wit_FabricWindow_2 : chk (base.busTakes 0 && base.bit FAB_STATUS_RELEASED && !base.isolatedR 12 && !base.pwr.graceOver)
  (execFsAccess m0 false 0x50000010 0 (some 5) base)
    (fun t => t.busCode 0 == 0 && t.busData 0 == 5) = true := by decide +kernel
theorem wit_FabricWindow_3 : chk (base.busTakes 0 && base.bit FAB_STATUS_RELEASED && !base.isolatedR 12)
  (execFsAccess m0 true 0x50000010 0 none base)
    (fun t => t.bus.fs.any (·.1 == 0)) = true := by decide +kernel
theorem wit_FabricWindow_4 : chk ((waits 3).bus.fs.any (·.1 == 3)) (execFsTimeout 3 (waits 3))
    (fun t => t.busCode 3 == 0 && t.busData 3 == 0 && t.bus.fs == [] && t.bit FAB_STATUS_FS_TIMEOUT &&
      t.get FAB_FS_TIMEOUT_COUNT == 1) = true := by decide +kernel
theorem wit_FabricWindow_5 : chk ((iso 12).busTakes 0 && (iso 12).isolatedR 12) (execFsAccess m0 true 0x50FFFFFC 7 (some 1) (iso 12))
    (fun t => t.busCode 0 == 0 && t.bus.fs == []) = true := by decide +kernel
theorem wit_FabricWindow_6 : chk (base.busTakes 0 && base.bit FAB_STATUS_RELEASED && !base.isolatedR 12 && !base.pwr.graceOver) (execFsAccess m0 true 0x50000000 7 (some 9) base)
    (fun t => t.busCode 0 == 0 && t.busData 0 == 0 && t.out.contains (.fsRequest true 0 7 15)) = true := by decide +kernel

/-! ### The Watch domain -/

theorem wit_WatchTimeSetCopiesAndCrystal_1 : chk (live.wch.up && live.commandOk m0 WCH_SET_CMD) (execWchCommit m0 live)
    (fun t => t.wch.commit && t.wch.aSec == 0) = true := by decide +kernel
theorem wit_WatchTimeSetCopiesAndCrystal_2 : chk (toSet.wch.up && toSet.wch.commit && toSet.bit WCH_STATUS_XTAL_OK &&
  toSet.wch.logq.length < 4) (execWatchTimeSet toSet)
    (fun t => t.wch.aSec == 2 ^ 32 + 4 && t.wch.bSec == t.wch.aSec && !t.wch.commit && t.bit WCH_STATUS_TIME_VALID && t.wch.logq.any
      (fun e => e.code == 0x0107 && e.detail == toSet.wch.aSec)) = true := by decide +kernel
theorem wit_WatchTimeSetCopiesAndCrystal_3 : chk (live.wch.up && !(toSet.clr WCH_STATUS_XTAL_OK).bit WCH_STATUS_XTAL_OK)
  (execWatchTimeSet (toSet.clr WCH_STATUS_XTAL_OK))
    (fun t => t.wch == (toSet.clr WCH_STATUS_XTAL_OK).wch) = true := by decide +kernel
theorem wit_WatchTimeSetCopiesAndCrystal_4 : chk (xtal.wch.aSec == xtal.wch.bSec && xtal.wch.aNs == xtal.wch.bNs &&
  xtal.wch.aFrac == xtal.wch.bFrac && xtal.wch.up) (execWatchSecond xtal)
    (fun t => t.wch == xtal.wch && !t.bit WCH_STATUS_TIME_CHECK) = true := by decide +kernel
theorem wit_WatchTimeSetCopiesAndCrystal_5 : chk (split.wch.up && split.wch.aSec != split.wch.bSec &&
  (split.withDev .watch).dev != .running) (execWatchSecond (split.withDev .watch))
    (fun t => t.wch.bSec == 9 && t.bit WCH_STATUS_TIME_CHECK && !t.bit WCH_STATUS_TIME_VALID &&
      t.lineLevel 14) = true := by decide +kernel
theorem wit_WatchTimeSetCopiesAndCrystal_6 : chk ((split.withFix { split.fix with sec := 8 }).fix.sec == split.wch.bSec &&
  split.dev == .running) (execWatchSecond (split.withFix { split.fix with sec := 8 }))
    (fun t => t.wch.aSec == 8 && t.bit WCH_STATUS_TIME_CHECK) = true := by decide +kernel
theorem wit_WatchTimeSetCopiesAndCrystal_7 : chk (xtal.wch.up && xtal.bit WCH_STATUS_XTAL_OK) (execXtalStop xtal)
    (fun t => !t.bit WCH_STATUS_XTAL_OK && t.bit WCH_STATUS_XTAL_FAIL && !t.bit WCH_STATUS_TIME_VALID &&
      t.lineLevel 12) = true := by decide +kernel
theorem wit_WatchTimeSetCopiesAndCrystal_8 : chk (live.wch.up && !live.bit WCH_STATUS_XTAL_OK && live.wch.logq.length < 4)
  (execXtalRestored 6 live)
    (fun t => t.bit WCH_STATUS_XTAL_OK && t.wch.logq == live.wch.logq ++ [live.item 0x0105 1 0 6]) = true := by decide +kernel
theorem wit_WatchTimeSetCopiesAndCrystal_9 :
    (wup.wch.up && !wup.bit WCH_STATUS_XTAL_OK && wup.pending == []) = true := by decide +kernel

theorem wit_EventLog_1 : chk (logged.wch.up && logged.wch.logq == [anItem] && logged.get LOG_HEAD_ALL < 896 &&
  !logged.wch.seen.contains anItem.code && logged.get LOG_PIN_USED < 128) (execLogWrite logged)
    (fun t => t.wch.logq == [] && (List.range 8).all (fun k => t.word (LOG_ENTRY 0 k) == (entryWords anItem false 0).getD k 0 &&
      t.word (LOG_ENTRY 896 k) == (entryWords anItem true 0).getD k 0) && t.get LOG_HEAD_ALL == 1 && t.get LOG_SEQ_SEQ == 1 &&
      t.get LOG_PIN_USED == 1) = true := by decide +kernel
theorem wit_EventLog_2 : chk ((logged.put LOG_PIN_USED 128).get LOG_PIN_USED == 128 && logged.get LOG_PIN_OVERFLOW < 2 ^ 15 - 1)
  (execLogWrite (logged.put LOG_PIN_USED 128))
    (fun t => t.get LOG_PIN_USED == 128 && t.get LOG_PIN_OVERFLOW == 1) = true := by decide +kernel
theorem wit_EventLog_3 : chk (logSeen.wch.seen.contains anItem.code) (execLogWrite logSeen)
    (fun t => t.get LOG_PIN_USED == 0 && t.word (LOG_ENTRY 896 0) == 0) = true := by decide +kernel
theorem wit_EventLog_4 : chk (logSeen.commandOk m0 LOG_CMD) (execLogClearPinned m0 logSeen)
    (fun t => t.wch.seen == [] && t.busCode 0 == 0) = true := by decide +kernel
theorem wit_EventLog_5 : chk (logSeen.commandOk m0 LOG_CMD) (execLogClearAll m0 logSeen)
    (fun t => t.wch.seen == [] && t.busCode 0 == 0) = true := by decide +kernel
theorem wit_EventLog_6 : chk (later.wch.up && later.grd.logq == [anItem] && anItem.ready < 5 && later.get LOG_HEAD_ALL == 895) (execLogWrite later)
    (fun t => t.grd.logq == [] && t.wch.logq == later.wch.logq && t.get LOG_HEAD_ALL == 0 && t.word (LOG_ENTRY 895 0) == (entryWords anItem false 0).getD 0 0) = true := by decide +kernel
theorem wit_EventLog_7 : chk (later2.wch.up && later2.wch.logq == [anItem] && later2.grd.logq == [anItem]) (execLogWrite later2)
    (fun t => t.wch.logq == [] && t.grd == later2.grd) = true := by decide +kernel
theorem wit_EventLog_8 : chk ((logged.put LOG_PIN_USED 127).get LOG_PIN_USED == 127) (execLogWrite (logged.put LOG_PIN_USED 127))
    (fun t => t.get LOG_PIN_USED == 128 && t.get LOG_PIN_OVERFLOW == 0 && (List.range 8).all (fun k => t.word (LOG_ENTRY 1023 k) == (entryWords anItem true 0).getD k 0)) = true := by decide +kernel

theorem wit_TamperAndWakeTimer_1 : chk (tamper.wch.up && bitsOf (tamper.word WCH_TAMPER_CFG) 7 1 == 1 && bitsOf
  (tamper.word WCH_TAMPER_CFG) 5 1 == 0 && !tamper.wch.erase) (execTamperEvent 0 tamper)
    (fun t => bitsOf (t.word WCH_STATUS) 0 1 == 1 && bitsOf (t.word WCH_TAMPER_COUNT) 0 7 == 1 &&
      !t.wch.erase) = true := by decide +kernel
theorem wit_TamperAndWakeTimer_2 : chk ((tamperW).dev == .watch && tamperW.bit PWR_WAKE_CFG_TAMPER && !tamperW.wch.erase)
  (execTamperEvent 0 tamperW)
    (fun t => t.pwr.causes.getLsbD 3) = true := by decide +kernel
theorem wit_TamperAndWakeTimer_3 : chk (tamper.wch.up && bitsOf (tamper.word WCH_TAMPER_CFG) 31 1 == 0 && !tamper.wch.erase)
  (execTamperEvent 3 tamper)
    (fun t => t.wch == tamper.wch && t.word WCH_TAMPER_COUNT == 0) = true := by decide +kernel
theorem wit_TamperAndWakeTimer_4 : chk (bitsOf (tamper.word WCH_TAMPER_CFG) 15 1 == 1 && bitsOf
  (tamper.word WCH_TAMPER_CFG) 13 1 == 1 && (tamper.withDev .off).dev == .off) (execTamperEvent 1 (tamper.withDev .off))
    (fun t => t.wch.erase) = true := by decide +kernel
theorem wit_TamperAndWakeTimer_5 : chk ((erasing .loading).wch.erase && (erasing .loading).dev == .loading &&
  (erasing .loading).wch.logq.length < 4) (execTamperErase (erasing .loading))
    (fun t => !t.wch.erase && t.wch.logq == [(erasing .loading).item 0x0109 1 0
      (erasing .loading).slotsValid]) = true := by decide +kernel
theorem wit_TamperAndWakeTimer_6 : chk ((erasing .watch).wch.erase && (erasing .watch).dev == .watch && (erasing .watch).pwr.wake < 2)
  (execTamperErase (erasing .watch))
    (fun t => t.wch.erase) = true := by decide +kernel
theorem wit_TamperAndWakeTimer_7 : chk (live.commandOk m0 WCH_WAKE_TIMER) (execWakeTimerWrite m0 55 live)
    (fun t => t.word WCH_WAKE_TIMER == 55 && t.wch.timerPre == 0) = true := by decide +kernel
theorem wit_TamperAndWakeTimer_8 : chk ((timed .watch).get WCH_WAKE_TIMER_COUNT != 0 && (timed .watch).bit WCH_STATUS_XTAL_OK &&
  (timed .watch).bit PWR_WAKE_CFG_TIMER) (execWakeTimerExpiry (timed .watch))
    (fun t => t.get WCH_WAKE_TIMER_COUNT == 0 && t.bit WCH_STATUS_TIMER && t.lineLevel 9 &&
      t.pwr.causes.getLsbD 2) = true := by decide +kernel
theorem wit_TamperAndWakeTimer_9 : chk ((timed .off).dev == .off) (execWakeTimerExpiry (timed .off))
    (fun t => t.bit WCH_STATUS_TIMER && t.pwr == (timed .off).pwr) = true := by decide +kernel
theorem wit_TamperAndWakeTimer_10 : chk (justSet.wch.up && justSet.wch.timerAt == justSet.now + 1) (execWakeTimerExpiry justSet)
    (fun t => t.wch == justSet.wch && t.get WCH_WAKE_TIMER_COUNT == 1 && t.pwr == justSet.pwr) = true := by decide +kernel

theorem wit_WatchSupply_1 : chk (store.wch.up && !store.bit HRV_CFG_EN) (execHrvSample (lv 4000 0 true) 500 store)
    (fun t => t.get HRV_STATUS_STORE_MV == 4000 && t.get HRV_STATUS_MODE == 0) = true := by decide +kernel
theorem wit_WatchSupply_2 : chk (2100 ≤ (lv 0 2100 false).vbatMv && !live.bit HRV_CFG_EN &&
  (live.put WCH_STATUS_SUPPLY 2).get WCH_STATUS_SUPPLY == 2) (execWatchRailDroop (lv 0 2100 false) (live.put WCH_STATUS_SUPPLY 2))
    (fun t => t.get WCH_STATUS_SUPPLY == 1 && t.bit WCH_STATUS_SWITCHED && t.lineLevel 10 &&
      t.get WCH_SUPPLY_COUNT_COUNT == 1) = true := by decide +kernel
theorem wit_WatchSupply_3 : chk ((lv 100 1999 false).vbatMv < 2000 && lowStore.get WCH_STATUS_SUPPLY == 0 &&
  100 < 20 * lowStore.get HRV_THRESH_USE_OFF && !lowStore.wch.storeLow) (execWatchRailDroop (lv 100 1999 false) lowStore)
    (fun t => t.get WCH_STATUS_SUPPLY == 0 && t.bit WCH_STATUS_STORE_LOW && t.wch.storeLow) = true := by decide +kernel
theorem wit_WatchSupply_4 : chk ((live.set HRV_CFG_EN).bit HRV_CFG_EN) (execHrvTrack 1280 40 ((live.set HRV_CFG_EN).put HRV_CFG_FRAC 32))
    (fun t => t.get HRV_TRACK_VOC == 1280 && t.get HRV_TRACK_FREQ == 40 && t.wch.rectMv == 640) = true := by decide +kernel
theorem wit_WatchSupply_5 : chk (openHrv.commandOk m0 HRV_THRESH && cellRead openHrv.mask HRV_THRESH == BitVec.allOnes 32)
  (execHrvThreshWrite m0 0xFFFFFF openHrv)
    (fun t => t.get HRV_THRESH_USE_OFF == 240 && t.get HRV_THRESH_USE_ON == 250 && t.get HRV_THRESH_STORE_MAX == 250 &&
      t.busCode 0 == 0) = true := by decide +kernel
theorem wit_WatchSupply_6 : chk (!dead.wch.up) (execWatchCold .aux dead)
    (fun t => t.wch.up && t.get LOG_HEAD_ALL == 0 && t.get WCH_STATUS_SUPPLY == supplyCode .aux && t.wch.logq.map
      (·.code) == [0x0101]) = true := by decide +kernel
theorem wit_WatchSupply_7 : chk (live.wch.up) (execWatchDomainDown 1599 live)
    (fun t => !t.wch.up && t.wch.aSec == 0) = true := by decide +kernel
theorem wit_WatchSupply_8 : chk (store.wch.up && store.get WCH_STATUS_SUPPLY == 0) (execWatchDomainDown 1600 store)
    (fun t => t.wch == store.wch) = true := by decide +kernel
theorem wit_WatchSupply_9 : chk (live.wch.up && (live.put WCH_STATUS_SUPPLY 2).get WCH_STATUS_SUPPLY != 0) (execWatchDomainDown 1399 (live.put WCH_STATUS_SUPPLY 2))
    (fun t => !t.wch.up) = true := by decide +kernel
theorem wit_WatchSupply_10 : chk (live.wch.up && (live.put WCH_STATUS_SUPPLY 2).get WCH_STATUS_SUPPLY != 0) (execWatchDomainDown 1400 (live.put WCH_STATUS_SUPPLY 2))
    (fun t => t.wch == live.wch) = true := by decide +kernel

/-! ### The guarantee unit -/

theorem wit_FaultReports_1 : chk (base.dev == .running && (faultRow 8).kind != .masked) (execFaultReport 8 3 9 0 base)
    (fun t => t.get GRD_LAST_N == 8 && t.get GRD_LAST_INSTANCE == 3 && t.get GRD_CNT_DETECTED_COUNT == 1 &&
      t.get GRD_CNT_MASKED_COUNT == 0) = true := by decide +kernel
theorem wit_FaultReports_2 : chk ((faultRow 1).kind == .masked && !(faultRow 1).latched) (execFaultReport 1 2 9 0 base)
    (fun t => t.get GRD_CNT_MASKED_COUNT == 1 && t.grd.pulses == 2) = true := by decide +kernel
theorem wit_FaultReports_3 : chk ((faultRow 39).latched) (execFaultReport 39 2 0 0 (at_ .draining))
    (fun t => t.bit (pendingFld 39) && t.get GRD_LAST_N == 39) = true := by decide +kernel
theorem wit_FaultReports_4 : chk ((faultRow 2).degraded) (execFaultReport 2 1 0 0 base)
    (fun t => t.bit (degradedFld 2)) = true := by decide +kernel
theorem wit_FaultReports_5 : chk ((at_ .watch).dev == .watch) (execFaultReport 21 0 0 0 (at_ .watch))
    (fun t => t.wch.late == [21] && t.word GRD_LAST == 0) = true := by decide +kernel
theorem wit_FaultReports_6 : chk (!(iso 3).fabricRuns 3 && (12 : Nat) == 12) (execFaultReport 12 3 0 0 (iso 3))
    (fun t => t.grd == (iso 3).grd && t.word GRD_LAST == 0) = true := by decide +kernel
theorem wit_FaultReports_7 : chk (base.fabricRuns 3 && base.dev == .running) (execFaultReport 17 3 0 0 base)
    (fun t => t.get GRD_LAST_N == 17 && t.get GRD_LAST_INSTANCE == 3) = true := by decide +kernel
theorem wit_FaultReports_8 : chk (base.fabricRuns 15 && base.dev == .running) (execFaultReport 43 15 0 0 base)
    (fun t => t.get GRD_LAST_N == 43) = true := by decide +kernel
theorem wit_FaultReports_9 : chk ((at_ .off).dev == .off) (execFaultReport 22 0 0 0 (at_ .off))
    (fun t => t.wch.late == [22] && t.grd == (at_ .off).grd) = true := by decide +kernel
theorem wit_FaultReports_10 : chk ((base.put GRD_CNT_MASKED_COUNT 4294967295).get GRD_CNT_MASKED_COUNT == 2 ^ 32 - 1 || GRD_CNT_MASKED_COUNT.width < 32) (execFaultReport 1 2 9 0 (base.put GRD_CNT_MASKED_COUNT (2 ^ GRD_CNT_MASKED_COUNT.width - 1)))
    (fun t => t.get GRD_CNT_MASKED_COUNT == 2 ^ GRD_CNT_MASKED_COUNT.width - 1) = true := by decide +kernel

theorem wit_HealthAndInForceFollowTheirConditions_1 : chk (true) (execHealthPulseEnd 3 (base.putWord GRD_SELFTEST 0x0F0F))
    (fun t => t.bit GRD_STATUS_HEALTH && !t.bit GRD_STATUS_IN_FORCE) = true := by decide +kernel
theorem wit_HealthAndInForceFollowTheirConditions_2 : chk (true) (execHealthPulseEnd 3
  ((at_ .draining).putWord GRD_SELFTEST 0x0F0F |>.set GRD_STATUS_GUARDED))
    (fun t => !t.bit GRD_STATUS_HEALTH && t.bit GRD_STATUS_IN_FORCE) = true := by decide +kernel

theorem wit_ClearAndInject_1 : chk ((pend 39).commandOk m0 GRD_CMD && (pend 39).fab.differ == [] && (pend 39).bit (pendingFld 39) &&
  !(pend 39).clearRefused 39) (execGrdClear m0 guardKey (pend 39))
    (fun t => !t.bit (pendingFld 39)) = true := by decide +kernel
theorem wit_ClearAndInject_2 : chk (railGone.commandOk m0 GRD_CMD && railGone.clearRefused 39) (execGrdClear m0 guardKey railGone)
    (fun t => t.bit (pendingFld 39) && t.bit (evtFld 38)) = true := by decide +kernel
theorem wit_ClearAndInject_3 : chk (base.commandOk m0 GRD_CMD && base.dev == .running && (faultRow 39).inject &&
  (faultRow 39).latched) (execGrdInject m0 guardKey 39 base)
    (fun t => t.get GRD_LAST_N == 39 && t.get GRD_LAST_INSTANCE == 0xFFFF && t.bit (pendingFld 39)) = true := by decide +kernel
theorem wit_ClearAndInject_4 : chk (base.commandOk m0 GRD_CMD && !(faultRow 0).inject) (execGrdInject m0 guardKey 44 base)
    (fun t => t.word GRD_LAST == 0 && t.word GRD_PENDING_LO == 0) = true := by decide +kernel
theorem wit_ClearAndInject_5 : chk ((at_ .draining).commandOk m0 GRD_CMD && (at_ .draining).dev != .running)
  (execGrdInject m0 guardKey 39 (at_ .draining))
    (fun t => t.word GRD_LAST == 0) = true := by decide +kernel

theorem wit_GuaranteeChecks_1 : chk (base.dev == .running) (execHealthPulseEnd 5 (base.withGrd { base.grd with pulses := 0x21 }))
    (fun t => t.grd.pulses == 1) = true := by decide +kernel
theorem wit_GuaranteeChecks_2 : chk (base.dev == .running && base.bit GRD_STATUS_HEALTH != true) (execHealthPadMismatch true base)
    (fun t => t.grd.pad == some true && t.bit (pendingFld 43)) = true := by decide +kernel
theorem wit_GuaranteeChecks_3 : chk (base.bit GRD_STATUS_HEALTH == false) (execHealthPadMismatch false base)
    (fun t => t.grd.pad == none && t.word GRD_PENDING_HI == 0) = true := by decide +kernel
theorem wit_GuaranteeChecks_4 : chk ((at_ .loading).dev == .loading) (execSelftestPartDone 1 none (at_ .loading))
    (fun t => t.word GRD_SELFTEST == 0x202 && t.bit (evtFld 36)) = true := by decide +kernel
theorem wit_GuaranteeChecks_5 : chk ((at_ .loading).dev == .loading) (execSelftestPartDone 0 (some 4) (at_ .loading))
    (fun t => t.bit (pendingFld 42) && t.get GRD_LAST_INSTANCE == 0) = true := by decide +kernel
theorem wit_GuaranteeChecks_6 : chk (!base.grd.tempOut.getLsbD 2) (execTempExcursion 2 (-41) base)
    (fun t => t.grd.tempOut == 4 && t.bit (pendingFld 40) && t.get GRD_LAST_INSTANCE == 2) = true := by decide +kernel
theorem wit_GuaranteeChecks_7 : chk (hot.grd.tempOut.getLsbD 2) (execTempExcursion 2 98 hot)
    (fun t => t.grd.tempOut == 0) = true := by decide +kernel
theorem wit_GuaranteeChecks_8 : chk (railsSeen.railOk 0 && railsSeen.grd.railSeen.getLsbD 0) (execRailExcursion 0 776 railsSeen)
    (fun t => t.bit (pendingFld 39) && t.get GRD_LAST_INSTANCE == 0 && !t.railOk 0) = true := by decide +kernel
theorem wit_GuaranteeChecks_9 : chk (railsSeen.railOk 13 && railsSeen.grd.railSeen.getLsbD 13) (execRailExcursion 13 900 railsSeen)
    (fun t => t.get GRD_LAST_N == 39 && !t.railOk 13) = true := by decide +kernel
theorem wit_GuaranteeChecks_10 :
    (badLog.word (LOG_ENTRY 3 0) != 0 && badLog.word (LOG_ENTRY 3 7) != crc32 (wordBytes (cellReadAll badLog.regs
      (LOG_ENTRY 3 0) 4 7))) = true := by decide +kernel
theorem wit_GuaranteeChecks_11 : chk (!base.bit (fencedFld 1) && base.grd.resync == 0 && base.grd.resyncEnd == [none, none, none])
  (execHkDisagree 1 3 1 base)
    (fun t => t.grd.resync == 2 && !t.bit SYS_SERVICE_HK_OK && t.get GRD_LAST_N == 1 &&
      t.get GRD_LAST_INSTANCE == 1) = true := by decide +kernel
theorem wit_GuaranteeChecks_12 : chk ((resync 0 [none, some 0, none]).now < 0 + 32768) (execHkDisagree 1 3 1
  (resync 0 [none, some 0, none]))
    (fun t => t.bit (fencedFld 1) && t.get GRD_LAST_N == 2 && t.bit (degradedFld 2)) = true := by decide +kernel
theorem wit_GuaranteeChecks_13 : chk ((resync 4 [none, none, none]).grd.resync == 1#3 <<< 2) (execHkResyncDone 2
  (resync 4 [none, none, none]))
    (fun t => t.grd.resync == 0 && t.grd.resyncEnd == [none, none, some 0]) = true := by decide +kernel
theorem wit_GuaranteeChecks_14 : chk (base.dev == .running && base.lanePowered) (execSelftestPartDone 2 none base)
    (fun t => bitsOf (t.word GRD_SELFTEST) 2 1 == 1 && bitsOf (t.word GRD_SELFTEST) 10 1 == 1 && t.bit (evtFld 36)) = true := by decide +kernel
theorem wit_GuaranteeChecks_15 : chk (base.dev == .running && base.radioPowered) (execSelftestPartDone 3 (some 0) base)
    (fun t => bitsOf (t.word GRD_SELFTEST) 3 1 == 0 && t.bit (pendingFld 42) && t.get GRD_LAST_INSTANCE == 3) = true := by decide +kernel
theorem wit_GuaranteeChecks_16 : chk (hot.grd.tempOut.getLsbD 2) (execTempExcursion 2 (-38) hot)
    (fun t => t.grd.tempOut == 0) = true := by decide +kernel
theorem wit_GuaranteeChecks_17 : chk (!base.grd.tempOut.getLsbD 15) (execTempExcursion 15 101 base)
    (fun t => t.grd.tempOut == 0x8000 && t.bit (pendingFld 40)) = true := by decide +kernel
theorem wit_GuaranteeChecks_18 : chk (railsSeen.railOk 1 && railsSeen.grd.railSeen.getLsbD 1) (execRailExcursion 1 1710 railsSeen)
    (fun t => t.get GRD_LAST_N == 39 && !t.railOk 1) = true := by decide +kernel
theorem wit_GuaranteeChecks_19 : (live.dev == .running && live.wch.up && badLog.wch.up) = true := by decide +kernel
theorem wit_GuaranteeChecks_20 : chk ((resync 0 [none, none, some 32767]).now < 32767 + 32768) (execHkDisagree 2 3 1 (resync 0 [none, none, some 32767]))
    (fun t => t.bit (fencedFld 2) && t.get GRD_LAST_N == 2) = true := by decide +kernel

/-! ### Image loading -/

theorem wit_LoadUpToTheRecords_1 : chk ((disc 0).inPhase 1 && (disc 0).refOk 0 && (disc 0).bit (PLL_STATUS_LOCKED 0) &&
  (disc 0).modePins < 2) (execNvmDiscovery (sf true true true) (disc 0))
    (fun t => t.dev == .loading && t.get CFG_STATUS_PHASE == 2 && t.bit CFG_STATUS_OCTAL) = true := by decide +kernel
theorem wit_LoadUpToTheRecords_2 : chk ((disc 2).modePins == 2) (execNvmDiscovery (sf true false false) (disc 2))
    (fun t => t.dev == .loading && t.get CFG_STATUS_PHASE == 2) = true := by decide +kernel
theorem wit_LoadUpToTheRecords_3 : chk ((disc 2).inPhase 1) (execNvmDiscovery (sf false true true) (disc 2))
    (fun t => t.dev == .halted && t.bit CFG_STATUS_ERR && t.get CFG_ERR_PRIMARY_CODE == 1 &&
      t.get CFG_ERR_GOLDEN_CODE == 1) = true := by decide +kernel
theorem wit_LoadUpToTheRecords_4 : chk ((disc 1).modePins < 2) (execNvmDiscovery (sf true true false) (disc 1))
    (fun t => t.dev == .halted && t.get CFG_ERR_PRIMARY_CODE == 0x16 && t.get CFG_ERR_GOLDEN_CODE == 0x16) = true := by decide +kernel
theorem wit_LoadUpToTheRecords_5 : chk (!small.bit CFG_STATUS_GOLDEN) (execChunkRead none small)
    (fun t => t.dev == .loading && t.bit CFG_STATUS_GOLDEN && t.get CFG_ERR_PRIMARY_CODE == 2 &&
      t.load.reader == Reader.empty) = true := by decide +kernel
theorem wit_LoadUpToTheRecords_6 : chk (smallG.inPhase 2 && smallG.bit CFG_STATUS_GOLDEN) (execChunkRead none smallG)
    (fun t => t.dev == .halted && t.get CFG_ERR_GOLDEN_CODE == 2) = true := by decide +kernel
theorem wit_LoadUpToTheRecords_7 : chk (chunkOpen (chunkKey none small.load.reader.header) small.load.reader.header 0 [] == none)
  (execChunkRead (some []) small)
    (fun t => t.bit CFG_STATUS_GOLDEN && t.get CFG_ERR_PRIMARY_CODE == 6) = true := by decide +kernel
theorem wit_LoadUpToTheRecords_8 : chk (chunkOpen (chunkKey none smallG.load.reader.header) smallG.load.reader.header 0 [] == none)
  (execChunkRead (some []) smallG)
    (fun t => t.dev == .halted && t.get CFG_ERR_GOLDEN_CODE == 6) = true := by decide +kernel
theorem wit_LoadUpToTheRecords_9 : chk ((disc 1).modePins < 2 && (sf true true true).profile1 != none) (execNvmDiscovery (sf true true true) (disc 1))
    (fun t => t.load.read == nvmReadOf (sf true true true) true && t.load.sector == 4096) = true := by decide +kernel
theorem wit_LoadUpToTheRecords_10 : chk ((discNo).inPhase 1 && !discNo.refOk 0 && !discNo.bit CFG_STATUS_GOLDEN) (execNvmDiscovery (sf true true true) discNo)
    (fun t => t.dev == .halted && t.get CFG_ERR_PRIMARY_CODE == 0x13 && t.get CFG_ERR_GOLDEN_CODE == 0x13) = true := by decide +kernel
theorem wit_LoadUpToTheRecords_11 : chk ((disc 0).modePins < 2 && (sf true false true).profile1 == none) (execNvmDiscovery (sf true false true) (disc 0))
    (fun t => t.dev == .halted && t.get CFG_ERR_PRIMARY_CODE == 0x16) = true := by decide +kernel
theorem wit_LoadUpToTheRecords_12 : (small.load.reader.takesChunk false && small.load.reader.chunk < hdrChunks small.load.reader.header && smallG.load.reader.takesChunk false) = true := by decide +kernel

theorem wit_RecordsTakeNoEffectBeforeEnd_1 : chk (bnd.load.reader.head false == .record 4 bandsP &&
  (bandBlocks bandsP.length bandsP).isSome) (execBandsRecord bnd)
    (fun t => t.load.staged.bands == bandsP && t.word (PLL_BAND1 1 0) == 0) = true := by decide +kernel
theorem wit_RecordsTakeNoEffectBeforeEnd_2 :
    (pns.load.reader.head false == .record 5 pinsP && (pinBlocks pinsP).map (·.1) == List.range 6 &&
      pinsDenied pinsP == none) = true := by decide +kernel
theorem wit_RecordsTakeNoEffectBeforeEnd_3 : chk (msk.inPhase 2 && msk.load.reader.head false == .record 0x20 (leBytes 4
  (TX_FREQ 0) ++ leBytes 4 0xFFFFFFFF)) (execMaskRecord msk)
    (fun t => t.load.staged.mask.length == 8 && t.mask == []) = true := by decide +kernel

theorem wit_RecordsInOrder_1 : chk (misput.inPhase 2 && misput.load.reader.head false == .bad 8 256 && !misput.bit CFG_STATUS_GOLDEN)
  (execProfileRecord misput)
    (fun t => t.get CFG_ERR_PRIMARY_CODE == 8 && t.get CFG_ERR_PRIMARY_DETAIL == 256 &&
      t.bit CFG_STATUS_GOLDEN) = true := by decide +kernel
theorem wit_RecordsInOrder_2 : chk (misput.load.reader.header != []) (execFrameRecord misput)
    (fun t => t.get CFG_ERR_PRIMARY_CODE == 8) = true := by decide +kernel
theorem wit_RecordsInOrder_3 : chk (misput.inPhase 2) (execSlotsRecord misput)
    (fun t => t.get CFG_ERR_PRIMARY_CODE == 8) = true := by decide +kernel
theorem wit_RecordsInOrder_4 :
    (frm.inPhase 2 && isOk (frm.load.reader.frame (payload (frm.load.reader.head false)))) = true := by decide +kernel
theorem wit_RecordsInOrder_5 : chk (fil.inPhase 2 && isOk (fil.load.reader.fill (payload (fil.load.reader.head false))))
  (execFillRecord fil)
    (fun t => t.storedFrame 16382 == t.storedFrame 16383 && t.storedFrame 16383 != 0 && t.deep == [] &&
      t.load.reader.next == 8192) = true := by decide +kernel
theorem wit_RecordsInOrder_6 : chk (rpt.inPhase 2 && isOk (rpt.load.reader.repeated (payload (rpt.load.reader.head false))))
  (execRepeatRecord [0] none rpt)
    (fun t => t.storedFrame 8192 == 77 && t.storedFrame 8193 == 77 && t.get GRD_LAST_N == 11) = true := by decide +kernel
theorem wit_RecordsInOrder_7 : chk (rpt.inPhase 2 && !rpt.bit CFG_STATUS_GOLDEN) (execRepeatRecord [] (some 0) rpt)
    (fun t => t.bit CFG_STATUS_GOLDEN && t.get CFG_ERR_PRIMARY_CODE == 0x14 && t.get CFG_ERR_PRIMARY_DETAIL == 0 && t.deep == rpt.deep) = true := by decide +kernel
theorem wit_RecordsInOrder_8 : chk (rpt.inPhase 2) (execRepeatRecord [1] (some 1) rpt)
    (fun t => t.storedFrame 8193 == 77 && t.grd.lastReport == none) = true := by decide +kernel

theorem wit_EndAndFabricRelease_1 : chk (fin.inPhase 2 && fin.load.reader.head false == .record 0xFF (leBytes 4 0 ++ leBytes 4 3) &&
  fin.load.reader.finish (leBytes 4 0 ++ leBytes 4 3) == .ok () && ((List.range 11).find? fun n => (fin.withOut []).applyImage.bit
  (PLL_CFG_EN n) && ((fin.withOut []).applyImage.lpllChoose.pllBand n).isNone) == none &&
  (fin.withOut []).applyImage.get PLL_OSC_KHZ_ALL * 98 ≤ fin.pll.oscKhz * 100 && fin.pll.oscKhz * 100 ≤
  (fin.withOut []).applyImage.get PLL_OSC_KHZ_ALL * 102 && (fin.withOut []).applyImage.tpDenied == none) (execEndRecord fin)
    (fun t => cellRead t.mask (TX_FREQ 0) == 7 && t.get CFG_STATUS_PHASE == 3 &&
      t.load.settings == [(PLL_OSC_KHZ, 25000)]) = true := by decide +kernel
theorem wit_EndAndFabricRelease_2 :
    (released.inPhase 3 && released.pllsLocked && !released.pwr.watchNLow && !released.pwr.vmonFiltered) = true := by decide +kernel

theorem wit_GoldenSlotIsProtected_1 : chk (nvG.commandOk m0 CFG_NVM_CMD && !nvG.bit CFG_NVM_STATUS_BUSY && nvG.bit CFG_NVM_CTRL_EN &&
  nvG.inGolden (nvG.nvmAt 256) 256 && !nvG.bit CFG_NVM_CTRL_GOLDEN_WE) (execCfgNvmProgram m0 guardKey nvG)
    (fun t => t.bit CFG_NVM_STATUS_DENIED && t.load == nvG.load) = true := by decide +kernel
theorem wit_GoldenSlotIsProtected_2 : chk (nvG.commandOk m0 CFG_NVM_CMD) (execCfgNvmErase m0 guardKey nvG)
    (fun t => t.bit CFG_NVM_STATUS_DENIED && !t.bit CFG_NVM_STATUS_BUSY && t.load == nvG.load) = true := by decide +kernel
theorem wit_GoldenSlotIsProtected_3 : (nvG.inGolden (nvG.nvmAt (nvG.nvmSize 3)) (nvG.nvmSize 3)) = true := by decide +kernel

theorem wit_AuditsMemoryAndFuses_1 : chk (base.commandOk m0 CFG_CMD && base.dev == .running && !base.bit CFG_AUDIT_STATUS_RUNNING &&
  !base.bit CFG_NVM_STATUS_BUSY) (execCfgAudit m0 guardKey true base)
    (fun t => t.bit CFG_AUDIT_STATUS_RUNNING && t.bit CFG_AUDIT_STATUS_TARGET && !t.lineLevel 21) = true := by decide +kernel
theorem wit_AuditsMemoryAndFuses_2 : chk ((aud.clr CFG_AUDIT_STATUS_RUNNING).get CFG_AUDIT_CFG_PERIOD_H != 0) (execAuditPeriod
  (aud.clr CFG_AUDIT_STATUS_RUNNING))
    (fun t => t.bit CFG_AUDIT_STATUS_RUNNING && !t.bit CFG_AUDIT_STATUS_TARGET && t.load.audits == [true]) = true := by decide +kernel
theorem wit_AuditsMemoryAndFuses_3 : chk (nv.commandOk m0 CFG_NVM_CMD && nv.bit CFG_NVM_CTRL_EN && !nv.bit CFG_NVM_STATUS_BUSY)
  (execCfgNvmRead m0 guardKey nv)
    (fun t => t.bit CFG_NVM_STATUS_BUSY && t.load.nvm == some (1, 0x1200)) = true := by decide +kernel
theorem wit_AuditsMemoryAndFuses_4 : chk (!nv.inGolden (nv.nvmAt 256) 256) (execCfgNvmProgram m0 guardKey nv)
    (fun t => t.load.nvm == some (2, 0x1200)) = true := by decide +kernel
theorem wit_AuditsMemoryAndFuses_5 : chk ((nvG.set CFG_NVM_CTRL_GOLDEN_WE).bit CFG_NVM_CTRL_GOLDEN_WE) (execCfgNvmErase m0 guardKey
  (nvG.set CFG_NVM_CTRL_GOLDEN_WE))
    (fun t => t.bit CFG_NVM_STATUS_BUSY && t.load.nvm == some (3, 0x02000000)) = true := by decide +kernel
theorem wit_AuditsMemoryAndFuses_6 : chk (base.commandOk m0 CFG_NVM_CMD && !base.bit CFG_NVM_CTRL_EN) (execCfgNvmRead m0 guardKey base)
    (fun t => t.bit CFG_NVM_STATUS_DENIED && t.lineLevel 23 && t.load == base.load) = true := by decide +kernel
theorem wit_AuditsMemoryAndFuses_7 : chk ((nvRun 1).load.nvm == some (1, 256)) (execNvmOpDone true (List.replicate 256 5) (nvRun 1))
    (fun t => !t.bit CFG_NVM_STATUS_BUSY && t.lineLevel 23 && t.word (CFG_NVM_BUF 63) == 0x05050505) = true := by decide +kernel
theorem wit_AuditsMemoryAndFuses_8 : chk ((nvRun 2).load.nvm == some (2, 256)) (execNvmOpDone false [] (nvRun 2))
    (fun t => t.bit CFG_NVM_STATUS_ERR && t.load.nvm == none) = true := by decide +kernel
theorem wit_AuditsMemoryAndFuses_9 : chk (fus.commandOk (Acc.whole 12) CFG_FUSE_CMD && fus.modePins == 6 &&
  !fus.bit CFG_KEY_STATE_FUSED) (execFuseProgram (Acc.whole 12) 0xF05E fus)
    (fun t => t.bit CFG_KEY_STATE_FUSE_BUSY) = true := by decide +kernel
theorem wit_AuditsMemoryAndFuses_10 : chk (base.modePins != 6 && base.commandOk (Acc.whole 12) CFG_FUSE_CMD) (execFuseProgram
  (Acc.whole 12) 0xF05E base)
    (fun t => !t.bit CFG_KEY_STATE_FUSE_BUSY) = true := by decide +kernel
theorem wit_AuditsMemoryAndFuses_11 : chk ((fus.set CFG_KEY_STATE_FUSE_BUSY).bit CFG_KEY_STATE_FUSE_BUSY) (execFuseDone true
  (fus.set CFG_KEY_STATE_FUSE_BUSY))
    (fun t => t.bit CFG_KEY_STATE_FUSED && t.load.fuse.any (fun k => k.length == 32 && byteAt k 8 == 4) && t.word
      (CFG_FUSE_DATA 2) == 0) = true := by decide +kernel
theorem wit_AuditsMemoryAndFuses_12 : chk (base.commandOk m0 CFG_CMD && aud.bit CFG_AUDIT_STATUS_RUNNING && aud.dev == .running) (execCfgAudit m0 guardKey false aud)
    (fun t => t.load.audits == [false] && t.bit CFG_AUDIT_STATUS_RUNNING) = true := by decide +kernel
theorem wit_AuditsMemoryAndFuses_13 : chk ((at_ .halted).commandOk m0 CFG_CMD && (at_ .halted).dev == .halted) (execCfgAudit m0 guardKey true (at_ .halted))
    (fun t => t.bit CFG_AUDIT_STATUS_RUNNING && t.bit CFG_AUDIT_STATUS_TARGET) = true := by decide +kernel
theorem wit_AuditsMemoryAndFuses_14 : chk (aud.bit CFG_AUDIT_STATUS_RUNNING && aud.load.audits == [] && auditImage none false aud.slotBytes (zeros 128) [] == some (5, 0) || (auditImage none false aud.slotBytes (zeros 128) []).isSome) (execAuditDone (zeros 128) [] aud)
    (fun t => !t.bit CFG_AUDIT_STATUS_RUNNING && t.lineLevel 21 && t.lineLevel 22 && t.get CFG_AUDIT_STATUS_CODE != 0 && t.get CFG_AUDIT_COUNT_COUNT == 0 && t.grd.pulses == 0) = true := by decide +kernel
theorem wit_AuditsMemoryAndFuses_15 : chk (!(nv.inGolden (nv.nvmAt (nv.nvmSize 3)) (nv.nvmSize 3)) && nv.commandOk m0 CFG_NVM_CMD) (execCfgNvmErase m0 guardKey nv)
    (fun t => t.load.nvm == some (3, nv.nvmAt (nv.nvmSize 3)) && t.out.contains (.nvm 3 (nv.nvmAt (nv.nvmSize 3)) [])) = true := by decide +kernel
theorem wit_AuditsMemoryAndFuses_16 : chk ((fus.set CFG_KEY_STATE_FUSED).bit CFG_KEY_STATE_FUSED && (fus.set CFG_KEY_STATE_FUSED).commandOk (Acc.whole 12) CFG_FUSE_CMD) (execFuseProgram (Acc.whole 12) 0xF05E (fus.set CFG_KEY_STATE_FUSED))
    (fun t => !t.bit CFG_KEY_STATE_FUSE_BUSY) = true := by decide +kernel
theorem wit_AuditsMemoryAndFuses_17 : chk ((fus.set CFG_KEY_STATE_FUSE_BUSY).bit CFG_KEY_STATE_FUSE_BUSY) (execFuseDone false (fus.set CFG_KEY_STATE_FUSE_BUSY))
    (fun t => t.bit CFG_KEY_STATE_FUSE_FAIL && !t.bit CFG_KEY_STATE_FUSED && !t.bit CFG_KEY_STATE_FUSE_BUSY && t.word (CFG_FUSE_DATA 2) == 0) = true := by decide +kernel

/-! ### Fabric, scrubbing and partial loads -/

theorem wit_PairsSweepsAndClocks_1 : (base.fabricRuns 15 && !base.bit FAB_PAIR_FIRST_VALID) = true := by decide +kernel
theorem wit_PairsSweepsAndClocks_2 : (firstPair.fabricRuns 0 && firstPair.bit FAB_PAIR_FIRST_VALID) = true := by decide +kernel
theorem wit_PairsSweepsAndClocks_3 : chk (!(iso 4).fabricRuns 4) (execPairMismatch 4 1 2 (iso 4))
    (fun t => t.fab == (iso 4).fab && t.grd == (iso 4).grd) = true := by decide +kernel
theorem wit_PairsSweepsAndClocks_4 : chk (base.dev == .running && base.bit FAB_STATUS_RELEASED && !base.isolatedR 15)
  (execBramSweepPassEnd 15 64001 base)
    (fun t => t.word FAB_SWEEP_LATE == 0x8000 && t.bit (pendingFld 17) && t.get GRD_LAST_INSTANCE == 15) = true := by decide +kernel
theorem wit_PairsSweepsAndClocks_5 : chk (base.dev == .running && base.bit FAB_STATUS_RELEASED) (execBramSweepPassEnd 15 64000 base)
    (fun t => t.word FAB_SWEEP_LATE == 0 && t.grd == base.grd) = true := by decide +kernel
theorem wit_PairsSweepsAndClocks_6 : chk (base.dev == .running && !base.isolatedR 0) (execDeepSweepPassEnd 0 250001 base)
    (fun t => t.word FAB_SWEEP_LATE == 0x10000 && t.bit (pendingFld 17)) = true := by decide +kernel
theorem wit_PairsSweepsAndClocks_7 : chk (base.dev == .running && base.bit FAB_STATUS_RELEASED) (execDeepSweepPassEnd 0 250000 base)
    (fun t => t.word FAB_SWEEP_LATE == 0) = true := by decide +kernel
theorem wit_PairsSweepsAndClocks_8 : (ghold.dev == .running && ghold.bit FAB_STATUS_RELEASED && !ghold.pwr.graceOver) = true := by decide +kernel
theorem wit_PairsSweepsAndClocks_9 : chk (!base.pwr.graceOver && base.bit FAB_STATUS_RELEASED) (execClockMuxSwitch 31 true false base)
    (fun t => t.fab.sel.getLsbD 31 && !t.fab.ce.getLsbD 31 && !t.fab.sel.getLsbD 30) = true := by decide +kernel
theorem wit_PairsSweepsAndClocks_10 : (deepErr.fabricRuns 6 && 1605631 / 229376 == 6 && deepErr.lgc.deepBad == [(1605631, 1#72 <<< 71)] && deepErr.lgc.deepFix == [] && decide ((cellRead deepErr.lgc.deepPos 48).toNat ≤ 1605631 % 32768)) = true := by decide +kernel
theorem wit_PairsSweepsAndClocks_11 : chk (!base.pwr.graceOver && base.bit FAB_STATUS_RELEASED) (execClockMuxSwitch 287 true false base)
    (fun t => t.fab.sel == base.fab.sel && !t.fab.ce.getLsbD 287 && t.fab.ce.getLsbD 286) = true := by decide +kernel

theorem wit_Scrubbing_1 : chk ((scr [] [0]).scrubs 3 && (scr [] [0]).dev == .running && cellRead (scr [] [0]).fab.upsets
  (3 * 8192 + 5) == 0 && !ambiguousPlace (254)) (execScrubRead 3 5 [2039] (scr [] [0]))
    (fun t => t.fab.fixes == [(3 * 8192 + 5, 0, 0x80)] && t.grd == (scr [] [0]).grd) = true := by decide +kernel
theorem wit_Scrubbing_2 : chk ((scr [] [0]).scrubs 3 && ambiguousPlace (2047 / 8)) (execScrubRead 3 5 [2047] (scr [] [0]))
    (fun t => t.fab.fixes == [] && t.bit (pendingFld 8) && t.get GRD_LAST_INSTANCE == 3) = true := by decide +kernel
theorem wit_Scrubbing_3 : chk ((scr [] [0]).scrubs 15 && (scr [] [0]).dev == .running) (execScrubRead 15 8191 [2048] (scr [] [0]))
    (fun t => t.fab.fixes == [] && cellRead t.fab.upsets (16 * 8192 - 1) == 1#2112 <<< 2048 && t.bit (pendingFld 8) &&
      t.lineLevel 27) = true := by decide +kernel
theorem wit_Scrubbing_4 : chk (fixing.dev == .running && fixing.fab.fixes == [(8193, 0, 4)]) (execCorrectionWrite fixing)
    (fun t => t.fab.fixes == [] && t.fab.upsets == [(7, 1)] && t.lineLevel 26 && t.get GRD_LAST_N == 7 &&
      t.get SCR_ERR_COUNT_CORR == 1) = true := by decide +kernel
theorem wit_Scrubbing_5 : chk ((scr [] [0]).fab.critLeft == [] && (scr [] [0]).bit FAB_STATUS_RELEASED) (execCriticalPeriodStart
  ((scr [] [0]).putWord SCR_CTRL 0x10403))
    (fun t => t.fab.ctrl == 0x10403 && !t.bit SCR_STATUS_LATE && t.fab.critLeft == [3, 4]) = true := by decide +kernel
theorem wit_Scrubbing_6 : chk ((scr [5] [0]).critTodo == [5] && !(scr [5] [0]).isolatedR 5 && bitsOf
  (scr [5] [0]).fab.ctrl 16 1 == 1) (execCriticalPeriodStart (scr [5] [0]))
    (fun t => t.lineLevel 29 && t.bit (pendingFld 10)) = true := by decide +kernel

theorem wit_PartialLoads_1 : chk (reqs.commandOk m0 SCR_PR_CMD && reqs.dev == .running && reqs.get SCR_PR_STATE_PHASE == 0 &&
  reqs.prBankOk 2 (reqs.get SCR_PR_SRC_BANK)) (execPrRequest m0 guardKey 2 reqs)
    (fun t => t.get SCR_PR_STATE_PHASE == 1 && t.get SCR_PR_STATUS_REGION == 2 && t.load.prBank == 8 &&
      !t.bit SCR_PR_STATUS_REFUSED) = true := by decide +kernel
theorem wit_PartialLoads_2 : chk ((prPhase 2 true 6).commandOk m0 SCR_PR_CMD && (prPhase 2 true 6).get SCR_PR_STATE_PHASE != 0)
  (execPrRequest m0 guardKey 3 (prPhase 2 true 6))
    (fun t => t.bit SCR_PR_STATUS_REFUSED && t.get SCR_PR_STATUS_REGION == 2 && t.load ==
      (prPhase 2 true 6).load) = true := by decide +kernel
theorem wit_PartialLoads_3 : chk ((reqs.withDev .draining).commandOk m0 SCR_PR_CMD && (reqs.withDev .draining).dev != .running)
  (execPrRequest m0 guardKey 2 (reqs.withDev .draining))
    (fun t => t.bit SCR_PR_STATUS_REFUSED && t.get SCR_PR_STATE_PHASE == 0) = true := by decide +kernel
theorem wit_PartialLoads_4 : chk (reqs.commandOk m0 SCR_PR_CMD && !reqs.prBankOk 1 (reqs.get SCR_PR_SRC_BANK))
  (execPrRequest m0 guardKey 1 reqs)
    (fun t => t.get SCR_PR_STATE_PHASE == 0 && t.get SCR_PR_STATUS_CODE == 2 && t.lineLevel 25) = true := by decide +kernel
theorem wit_PartialLoads_5 : chk ((prPhase 1 false 1).commandOk m0 SCR_PR_CMD && (prPhase 1 false 1).get SCR_PR_STATE_PHASE == 1)
  (execPrCancel m0 guardKey (prPhase 1 false 1))
    (fun t => t.get SCR_PR_STATE_PHASE == 0 && t.get SCR_PR_STATUS_CODE == 1) = true := by decide +kernel
theorem wit_PartialLoads_6 : chk ((prPhase 2 true 6).commandOk m0 SCR_PR_CMD && 2 ≤ (prPhase 2 true 6).get SCR_PR_STATE_PHASE)
  (execPrCancel m0 guardKey (prPhase 2 true 6))
    (fun t => t.get SCR_PR_STATE_PHASE == 2 && t.bit SCR_PR_STATUS_CANCEL_LATE) = true := by decide +kernel
theorem wit_PartialLoads_7 : chk ((prPhase 1 false 1).inService && !(prPhase 1 false 1).load.prWrote) (execPrChunk true
  (prPhase 1 false 1))
    (fun t => t.get SCR_PR_STATE_PHASE == 0 && t.get SCR_PR_STATUS_CODE == 7 && t.get SCR_PR_STATE_HELD == 0) = true := by decide +kernel
theorem wit_PartialLoads_8 : chk ((prPhase 2 true 6).inService && (prPhase 2 true 6).load.prWrote &&
  (prPhase 2 true 6).load.pr.rank != 9) (execPrChunk true (prPhase 2 true 6))
    (fun t => t.get SCR_PR_STATUS_CODE == 7 && t.lineLevel 25 && t.get SCR_PR_STATE_HELD == 4) = true := by decide +kernel
theorem wit_PartialLoads_9 :
    ((prPhase 3 true 9).dev == .running && (prPhase 3 true 9).get SCR_PR_STATE_PHASE == 3 && (prPhase 3 true 9).load.pr.rank == 9 &&
      (prPhase 3 true 9).get SCR_PR_STATUS_REGION < 16) = true := by decide +kernel
theorem wit_PartialLoads_10 : ((prPhase 3 true 6).inService && (prPhase 3 true 6).lgc.deepBad == [] && !(prPhase 3 true 6).isolatedR 12) = true := by decide +kernel
theorem wit_PartialLoads_11 : chk ((prPhase 1 false 1).load.pr.header == []) (execPrChunk true (prPhase 1 false 1))
    (fun t => t.fab == (prPhase 1 false 1).fab) = true := by decide +kernel

/-! ### PLLs, references and the Fix selector -/

theorem wit_PllCommandsAndLock_1 : chk ((papply 10).commandOk m0 (PLL_CMD 10) && ((papply 10).pl 10).applying)
  (execPllApply m0 10 guardKey (papply 10))
    (fun t => t.get (PLL_CMD_STATUS_CODE 10) == 2 && t.pll == (papply 10).pll) = true := by decide +kernel
theorem wit_PllCommandsAndLock_2 : chk ((papply 0).commandOk m0 (PLL_CMD 0) && ((papply 0).pl 0).applying)
  (execPllUnmute m0 0 guardKey (papply 0))
    (fun t => t.get (PLL_CMD_STATUS_CODE 0) == 2 && t.pll == (papply 0).pll) = true := by decide +kernel
theorem wit_PllCommandsAndLock_3 : chk ((prun true false).commandOk m0 (PLL_CMD 1) && !((prun true false).pl 1).applying &&
  !((prun true false).clr (PLL_CFG_EN 1)).bit (PLL_CFG_EN 1)) (execPllApply m0 1 guardKey ((prun true false).clr (PLL_CFG_EN 1)))
    (fun t => t.get (PLL_CMD_STATUS_CODE 1) == 0 && !t.bit (PLL_STATUS_LOCKED 1) && t.bit (PLL_STATUS_MUTED 1) &&
      (t.pl 1).cfg == 0) = true := by decide +kernel
theorem wit_PllCommandsAndLock_4 : chk ((prun true false).commandOk m0 (PLL_CMD 1) && (prun true false).bit (PLL_CFG_EN 1) &&
  ((prun true false).lpllSelect 1).pllCheck 1 == 0) (execPllApply m0 1 guardKey (prun true false))
    (fun t => (t.pl 1).applying && !t.bit (PLL_STATUS_LOCKED 1) && t.bit (PLL_STATUS_MUTED 1) &&
      (t.pl 1).cfg == 0x80000000) = true := by decide +kernel
theorem wit_PllCommandsAndLock_5 : chk (((prun true false).put (PLL_FREQ_KHZ 1) 3200000 |>.lpllSelect 1).pllCheck 1 == 1)
  (execPllApply m0 1 guardKey ((prun true false).put (PLL_FREQ_KHZ 1) 3200000))
    (fun t => t.get (PLL_CMD_STATUS_CODE 1) == 1 && t.bit (PLL_STATUS_LOCKED 1)) = true := by decide +kernel
theorem wit_PllCommandsAndLock_6 : chk ((prun false false).commandOk m0 (PLL_CMD 1) && !(prun false false).bit (PLL_STATUS_LOCKED 1))
  (execPllUnmute m0 1 guardKey (prun false false))
    (fun t => t.get (PLL_CMD_STATUS_CODE 1) == 3 && t.bit (PLL_STATUS_MUTED 1)) = true := by decide +kernel
theorem wit_PllCommandsAndLock_7 : chk (((prun true true).set (PLL_STATUS_MUTED 1)).bit (PLL_STATUS_LOCKED 1))
  (execPllUnmute m0 1 guardKey ((prun true true).set (PLL_STATUS_MUTED 1)))
    (fun t => t.get (PLL_CMD_STATUS_CODE 1) == 0 && !t.bit (PLL_STATUS_MUTED 1)) = true := by decide +kernel
theorem wit_PllCommandsAndLock_8 : chk ((prun false false).inService && (prun false false).pllOn 1 && (prun false false).refOk
  ((prun false false).pllRef 1) && !(prun false false).bit (PLL_STATUS_LOCKED 1)) (execPllLock 1 (prun false false))
    (fun t => t.bit (PLL_STATUS_LOCKED 1) && !t.bit (PLL_STATUS_MUTED 1)) = true := by decide +kernel
theorem wit_PllCommandsAndLock_9 : chk (((prun false true).pl 1).held && ((prun false true).set (PLL_CFG_HOLD_MUTE 1)).bit
  (PLL_CFG_HOLD_MUTE 1)) (execPllLock 1 ((prun false true).set (PLL_CFG_HOLD_MUTE 1)))
    (fun t => t.bit (PLL_STATUS_LOCKED 1) && t.bit (PLL_STATUS_MUTED 1)) = true := by decide +kernel
theorem wit_PllCommandsAndLock_10 : chk ((papply 9).dev != .off && ((papply 9).pl 9).applying) (execPllLockTimeout 9 (papply 9))
    (fun t => t.get (PLL_CMD_STATUS_CODE 9) == 5 && !(t.pl 9).applying && t.bit (pendingFld 18) &&
      t.get GRD_LAST_INSTANCE == 9) = true := by decide +kernel
theorem wit_PllCommandsAndLock_11 : chk ((prun true false).bit (PLL_STATUS_LOCKED 1) && (prun true false).refOk 0)
  (execPllLossOfLock 1 (prun true false))
    (fun t => !t.bit (PLL_STATUS_LOCKED 1) && t.bit (PLL_STATUS_MUTED 1) && t.bit (PLL_STATUS_LOL 1) && (t.pl 1).held && t.get
      (PLL_LOL_COUNT_COUNT 1) == 1 && t.bit (pendingFld 18)) = true := by decide +kernel
theorem wit_PllCommandsAndLock_12 : chk (!((loadB).pl 0).applying && loadB.commandOk m0 (PLL_CMD 0) && loadB.pll.loadBand) (execPllApply m0 0 guardKey loadB)
    (fun t => t.get (PLL_CMD_STATUS_CODE 0) == 3 && t.pll == loadB.pll) = true := by decide +kernel
theorem wit_PllCommandsAndLock_13 : chk ((loadB.set (PLL_STATUS_LOCKED 0)).pll.loadBand) (execPllUnmute m0 0 guardKey (loadB.set (PLL_STATUS_LOCKED 0)))
    (fun t => t.get (PLL_CMD_STATUS_CODE 0) == 3) = true := by decide +kernel
theorem wit_PllCommandsAndLock_14 : chk ((base.set CFG_NVM_STATUS_BUSY).nvmBusy) (execPllApply m0 0 guardKey (base.set CFG_NVM_STATUS_BUSY))
    (fun t => t.get (PLL_CMD_STATUS_CODE 0) == 3) = true := by decide +kernel

theorem wit_ReferencesAndBandTables_1 : chk ((prun true false).inService && (prun true false).refOk 0 && (prun true false).pllOn 1 &&
  (prun true false).pllRef 1 == 0) (execRefLoss 0 (prun true false))
    (fun t => !t.refOk 0 && t.bit (pendingFld 19) && t.get GRD_LAST_INSTANCE == 0 && t.lineLevel 54 && !t.fix.oscOk && t.bit
      (PLL_STATUS_REF_LOSS 1) && !t.bit (PLL_STATUS_LOCKED 1)) = true := by decide +kernel
theorem wit_ReferencesAndBandTables_2 : chk ((prun true false).refOk 5) (execRefLoss 5 (prun true false))
    (fun t => !t.refOk 5 && t.bit (pendingFld 19) && t.get GRD_LAST_INSTANCE == 5) = true := by decide +kernel
theorem wit_ReferencesAndBandTables_3 : chk (base.dev != .off && !base.refOk 5 && base.refCounts 5 9800 10200) (execRefQualified 5 9800 10200 base)
    (fun t => t.refOk 5 && t.pll.oscKhz == base.pll.oscKhz) = true := by decide +kernel
theorem wit_ReferencesAndBandTables_4 : (!base.refOk 0 && base.refCounts 0 50000 50000) = true := by decide +kernel
theorem wit_ReferencesAndBandTables_5 : chk (!pset.refInRange 0 25501) (execRefQualified 0 25000 25501 pset)
    (fun t => t.pll == pset.pll && t.fix == pset.fix) = true := by decide +kernel
theorem wit_ReferencesAndBandTables_6 : chk (!openBand.bandInUse 1 63 && openBand.commandOk (Acc.whole 13) (PLL_BAND0 1 63) &&
  openBand.opened (PLL_BAND0 1 63)) (execBandEntryWrite (Acc.whole 13) 1 63 0 0x8000003F openBand)
    (fun t => t.busCode 13 == 0 && t.get (PLL_BAND0_CODE 1 63) == 63 && t.bit (PLL_BAND0_VALID 1 63)) = true := by decide +kernel
theorem wit_ReferencesAndBandTables_7 : chk (openBand.commandOk (Acc.whole 13) (PLL_BAND1 1 63) && openBand.opened (PLL_BAND1 1 63))
  (execBandEntryWrite (Acc.whole 13) 1 63 1 7 openBand)
    (fun t => t.busCode 13 == 0 && t.word (PLL_BAND1 1 63) == 7) = true := by decide +kernel
theorem wit_ReferencesAndBandTables_8 : chk (openBand.commandOk (Acc.whole 13) (PLL_BAND2 1 63) && openBand.opened (PLL_BAND2 1 63))
  (execBandEntryWrite (Acc.whole 13) 1 63 2 9 openBand)
    (fun t => t.word (PLL_BAND2 1 63) == 9) = true := by decide +kernel
theorem wit_ReferencesAndBandTables_9 : chk ((prun true false).bandInUse 1 0 && (prun true false).commandOk (Acc.whole 13)
  (PLL_BAND0 1 0 + 4 * 2)) (execBandEntryWrite (Acc.whole 13) 1 0 2 9 (prun true false))
    (fun t => t.busCode 13 == 2 && t.get (PLL_CMD_STATUS_CODE 1) == 4 && t.get
      (PLL_BAND2_FMAX_KHZ 1 0) == 3100000) = true := by decide +kernel
theorem wit_ReferencesAndBandTables_10 : chk (base.refInRange 5 10000 && !base.refInRange 5 10201) (execRefQualified 5 10000 10201 base)
    (fun t => t.pll == base.pll && t.fix == base.fix) = true := by decide +kernel
theorem wit_ReferencesAndBandTables_11 : chk (base.get PLL_OSC_KHZ_ALL == 0 && !countsAgree 25000 26000) (execRefQualified 0 25000 26000 base)
    (fun t => t.pll == base.pll) = true := by decide +kernel

theorem wit_FixSourceSelection_1 : chk ((fx 1 5 0 0 0).inService && !(fx 1 5 0 0 0).bit (srcValidFld 1) &&
  !(fx 1 5 0 0 0).timeMaster && (fx 1 5 0 0 0).fixState != fixSlew) (execSourceValid 0 (fx 1 5 0 0 0))
    (fun t => t.bit (srcValidFld 1) && t.get FIX_STATE_SELECTED == 5) = true := by decide +kernel
theorem wit_FixSourceSelection_2 : chk ((fx 2 3 0 4 4).fixState == fixSlew && (fx 2 3 0 4 4).fixPrio 2 != 0 &&
  (fx 2 3 0 4 4).fixPrio 2 < (fx 2 3 0 4 4).fixPrio 3) (execSourceValid 1 (fx 2 3 0 4 4))
    (fun t => t.fixState == fixFrozen && t.get FIX_STATE_CANDIDATE == 2 && t.get FIX_STATE_SELECTED == 3 &&
      t.lineLevel 49) = true := by decide +kernel
theorem wit_FixSourceSelection_3 : chk ((fx 3 2 0 3 3).bit (srcValidFld 1) && (fx 3 2 0 3 3).get FIX_STATE_SELECTED != 1)
  (execSourceInvalid 0 (fx 3 2 0 3 3))
    (fun t => t.word FIX_SRC_STATUS == 0x202 && t.get FIX_STATE_SELECTED == 2) = true := by decide +kernel
theorem wit_FixSourceSelection_4 : chk ((fx 3 4 0 8 8).fixState != fixIdle && [1, 2, 3].all (fun k => !(fx 3 4 0 8 8).fixEligible k))
  (execSourceInvalid 3 (fx 3 4 0 8 8))
    (fun t => t.fixState == fixDr && t.get FIX_STATE_SELECTED == 5 && t.lineLevel 53 && t.lineLevel 50) = true := by decide +kernel
theorem wit_FixSourceSelection_5 : chk ((fx 3 1 0 3 3).fixEligible 2 && [3, 4].all (fun k => !(fx 3 1 0 3 3).fixEligible k) &&
  !(fx 3 1 0 3 3).bit FIX_STATE_ACQUIRE) (execSourceInvalid 0 (fx 3 1 0 3 3))
    (fun t => t.get FIX_STATE_SELECTED == 2 && t.fixState == fixSlew && t.fix.hold && t.lineLevel 53) = true := by decide +kernel
theorem wit_FixSourceSelection_6 : chk ((fx 1 5 0 1 0).fixState == fixDr && !(fx 1 5 0 1 0).fix.hold &&
  (fx 1 5 0 1 0).fixPrio 1 != 0 && [2, 3, 4].all (fun k => !(fx 1 5 0 1 0).fixEligible k)) (execSourceQualified 0 (fx 1 5 0 1 0))
    (fun t => t.bit (srcQualFld 1) && t.get FIX_STATE_SELECTED == 1 && t.fix.hold && t.lineLevel 48) = true := by decide +kernel
theorem wit_FixSourceSelection_7 : chk ((fx 4 4 2 10 8).fixState == fixFrozen && (fx 4 4 2 10 8).get FIX_STATE_CANDIDATE == 2)
  (execSourceQualified 1 (fx 4 4 2 10 8))
    (fun t => t.get FIX_STATE_SELECTED == 2 && t.fixState != fixFrozen) = true := by decide +kernel
theorem wit_FixSourceSelection_8 : chk (held3.fixState == fixLocked && held3.fix.hold && held3.bit (srcValidFld 2))
  (execSourceQualified 1 held3)
    (fun t => t.bit (srcQualFld 2) && t.get FIX_STATE_SELECTED == 3) = true := by decide +kernel
theorem wit_FixSourceSelection_9 : chk ([1, 2, 4].all (fun k => !held3.fixEligible k) && held3.get FIX_STATE_SELECTED == 3 && !held3.selOff)
  (execSelectionHoldEnd held3)
    (fun t => t.get FIX_STATE_SELECTED == 3 && !t.fix.hold) = true := by decide +kernel
theorem wit_FixSourceSelection_10 : chk ((fx 3 4 0 9 9).fixState == fixLocked && (fx 3 4 0 9 9).fixEligible 1 &&
  (fx 3 4 0 9 9).fixBefore 1 4 && [2, 3].all (fun k => !(fx 3 4 0 9 9).fixEligible k)) (execSelectionHoldEnd (fx 3 4 0 9 9))
    (fun t => t.get FIX_STATE_SELECTED == 1 && t.fix.hold) = true := by decide +kernel
theorem wit_FixSourceSelection_11 : chk ((fx 3 4 0 0 0).fixState == fixLocked && (fx 3 4 0 1 1).fixEligible 1 && [2, 3, 4].all
  (fun k => !(fx 3 4 0 1 1).fixEligible k) && (fx 3 4 0 1 1).fixBefore 1 4) (execSelectionHoldEnd (fx 3 4 0 1 1))
    (fun t => t.get FIX_STATE_SELECTED == 1) = true := by decide +kernel
theorem wit_FixSourceSelection_12 : chk ((fx 2 1 0 1 1).fixState == fixSlew && (fx 2 1 0 1 1).slewDone) (execSlewEnd (fx 2 1 0 1 1))
    (fun t => t.fixState == fixLocked) = true := by decide +kernel
theorem wit_FixSourceSelection_13 : chk (!(fxs (fx 2 1 0 1 1) (-160001) 1).slewDone) (execSlewEnd (fxs (fx 2 1 0 1 1) (-160001) 1))
    (fun t => t.fixState == fixSlew) = true := by decide +kernel
theorem wit_FixSourceSelection_14 : chk (lostc.fixState == fixFrozen && lostc.fix.candLost && [1, 2, 3, 4].all
  (fun k => !lostc.fixEligible k)) (execFreezeTimeout lostc)
    (fun t => t.fixState == fixDr && t.get FIX_STATE_SELECTED == 5 && t.lineLevel 50) = true := by decide +kernel
theorem wit_FixSourceSelection_15 : chk (!(fx 4 4 2 0 0).fix.candLost) (execFreezeTimeout (fx 4 4 2 0 0))
    (fun t => t.fixState == fixFrozen) = true := by decide +kernel
theorem wit_FixSourceSelection_16 : chk (!(fx 3 1 0 0 0).bit (srcValidFld 4) && !(fx 3 1 0 0 0).bit (CTX_STATUS_FLOOD 0)) (execSourceValid 3 (fx 3 1 0 0 0))
    (fun t => t.bit (srcValidFld 4) && t.get FIX_STATE_SELECTED == 1) = true := by decide +kernel

theorem wit_DeviceTimeAndItsSources_1 : chk ((fx 1 5 0 0 0).inService && (fx 1 5 0 0 0).fix.ofs.length == 4 &&
  meanS.drSigma > sigmaMax) (execSteerUpdate meanS)
    (fun t => t.get FIX_SIGMA_SIGMA == 54975581) = true := by decide +kernel
theorem wit_DeviceTimeAndItsSources_2 : ((fx 3 1 0 1 1).inService && (fx 3 1 0 1 1).fixState == fixLocked && (fx 3 1 0 1 1).get
  FIX_STATE_SELECTED != 4 && (fx 3 4 0 8 8).fixState == fixLocked && (fx 3 4 0 8 8).inDeadband 4) = true := by decide +kernel
theorem wit_DeviceTimeAndItsSources_3 : ((fx 2 1 0 1 1).inService && (fx 2 1 0 1 1).fixState == fixSlew) = true := by decide +kernel
theorem wit_DeviceTimeAndItsSources_4 : chk (((fx 1 5 0 0 0).put FIX_SET_NS_ALL 12).commandOk m0 FIX_SET_CMD &&
  (fx 1 5 0 0 0).fixState == fixDr) (execFixSet m0 guardKey ((fx 1 5 0 0 0).put FIX_SET_NS_ALL 12))
    (fun t => t.fix.sec == 0 && t.fix.ns == 12 && t.bit FIX_STATE_TIME_VALID && !t.bit FIX_STATE_ACQUIRE &&
      t.lineLevel 51) = true := by decide +kernel
theorem wit_DeviceTimeAndItsSources_5 : chk ((fx 3 1 0 1 1).commandOk m0 FIX_SET_CMD && (fx 3 1 0 1 1).fixState != fixDr)
  (execFixSet m0 guardKey (fx 3 1 0 1 1))
    (fun t => t.fix == (fx 3 1 0 1 1).fix && t.lineLevel 55) = true := by decide +kernel
theorem wit_DeviceTimeAndItsSources_6 : chk ((fx 3 1 0 3 1).commandOk m0 FIX_PTP_CMD && !(fx 3 1 0 3 1).fix.seen.getLsbD 1)
  (execPtpSubmit m0 false ((fx 3 1 0 3 1).put FIX_PTP_OFS_OFS (2 ^ 32 - 5)))
    (fun t => t.ofs 2 == -5000 && t.fix.seen.getLsbD 1) = true := by decide +kernel
theorem wit_DeviceTimeAndItsSources_7 : chk ((fxs (fx 3 1 0 3 1) 1 2).fix.seen.getLsbD 1 && (fxs (fx 3 1 0 3 1) 1 2).bit
  (srcValidFld 2) && ((fxs (fx 3 1 0 3 1) 1 2).get FIX_CFG_JUMP_NS : Int) * ofsPerNs < ((signed 32 ((fxs
  (fx 3 1 0 3 1) 1 2).get FIX_PTP_OFS_OFS) * 1000 - (fxs (fx 3 1 0 3 1) 1 2).ofsDue 2).natAbs : Int)) (execPtpSubmit m0 false (fxs
  (fx 3 1 0 3 1) 1 2))
    (fun t => !t.bit (srcValidFld 2) && !t.fix.seen.getLsbD 1) = true := by decide +kernel
theorem wit_DeviceTimeAndItsSources_8 : chk ((fx 3 1 0 3 3).commandOk m0 FIX_PTP_CMD && (fx 3 1 0 3 3).bit (srcValidFld 2))
  (execPtpWithdraw m0 (fx 3 1 0 3 3))
    (fun t => t.word FIX_SRC_STATUS == 0x101) = true := by decide +kernel
theorem wit_DeviceTimeAndItsSources_9 : chk ((fx 3 1 0 0 0).inService) (execPpsInEdge 7000000090 false 0
  ((fx 3 1 0 0 0).put FIX_EXT_CFG_CABLE_NS 30))
    (fun t => t.ofs 3 == -60 * ofsPerNs) = true := by decide +kernel
theorem wit_DeviceTimeAndItsSources_10 : chk ((fxs (fx 3 1 0 1 1) 0 0).fix.oscOk && ppsOn.bit FIX_PPS_CFG_EN &&
  ppsOn.bit FIX_STATE_TIME_VALID && ppsOn.fixState == fixLocked) (execDeviceTimeSecond ppsOn)
    (fun t => t.lineLevel 52 && t.fix.pps) = true := by decide +kernel
theorem wit_DeviceTimeAndItsSources_11 : chk ((fxs (fx 1 5 0 0 0) 0 0).fix.oscOk && !(fxs (fx 1 5 0 0 0) 0 0).bit FIX_PPS_CFG_EN)
  (execDeviceTimeSecond (fxs (fx 1 5 0 0 0) 0 0))
    (fun t => t.lineLevel 52 && !t.fix.pps && t.get FIX_DR_SECONDS_COUNT == 1) = true := by decide +kernel
theorem wit_DeviceTimeAndItsSources_12 : chk (ppsOn.inService) (execPpsOutEnd (ppsOn.withFix { ppsOn.fix with pps := true }))
    (fun t => !t.fix.pps) = true := by decide +kernel
theorem wit_DeviceTimeAndItsSources_13 : chk (base.inService) (execTimeVote 2 base)
    (fun t => t.get GRD_LAST_N == 20 && t.get GRD_LAST_INSTANCE == 2 && t.lineLevel 34 && t.fix == base.fix) = true := by decide +kernel
theorem wit_DeviceTimeAndItsSources_14 : chk ((fxs (fx 3 3 0 4 4) 0 4).fix.seen.getLsbD 2) (execPpsInEdge 7000000000 false 10000001 (fxs (fx 3 3 0 4 4) 0 4))
    (fun t => t.ofs 3 == 0 && t.word FIX_SRC_STATUS == 0x404) = true := by decide +kernel
theorem wit_DeviceTimeAndItsSources_15 : chk ((fxs (fx 3 3 0 4 4) 0 4).fix.seen.getLsbD 2 && (fxs (fx 3 3 0 4 4) 0 4).bit (srcValidFld 3)) (execPpsInEdge 7000000000 false 9999998 (fxs (fx 3 3 0 4 4) 0 4))
    (fun t => !t.bit (srcValidFld 3)) = true := by decide +kernel
theorem wit_DeviceTimeAndItsSources_16 : chk (true != (fxs (fx 3 3 0 4 4) 0 4).bit FIX_EXT_CFG_PPS_POL) (execPpsInEdge 7000000000 true 5 (fxs (fx 3 3 0 4 4) 0 4))
    (fun t => t.fix == (fxs (fx 3 3 0 4 4) 0 4).fix && t.bit (srcValidFld 3)) = true := by decide +kernel

/-! ### Lanes -/

theorem wit_EthernetLanes_1 :
    (lnkOpen.commandOk m0 (LNK_CFG 23) && lnkOpen.opened (LNK_CFG 23) && !lnkOpen.bit
      (LNK_GROUP_CFG_SPREAD 3)) = true := by decide +kernel
theorem wit_EthernetLanes_2 : chk ((eth true).laneActive 23 && (eth true).ethMode 23 && (eth true).laneLive 23 && (eth true).bit
  (LNK_STATUS_UP 23) && !(eth true).bit (LNK_CFG_FEC_EN 23)) (execEthRxFrame 23 (zeros 64) true 0 0 true (eth true))
    (fun t => t.out == [] && t.str == (eth true).str && t.get (LNK_RX_DROPS_COUNT 23) == 1) = true := by decide +kernel
theorem wit_EthernetLanes_3 : ((eth true).bit (LNK_STATUS_UP 23) && !(eth true).bit (LNK_CFG_FEC_EN 23) &&
    (eth true).streamRoom (ethRxPort 23) (beatCount 8 16128)) = true := by decide +kernel
theorem wit_EthernetLanes_4 : chk (((eth true).lane 23).queued + ethMax ≤ ethBuffer) (execEthTxSubmit 23 (zeros 65) 9 true
  (eth true))
    (fun t => (t.lane 23).txq == [(zeros 65, 9, true)]) = true := by decide +kernel
theorem wit_EthernetLanes_5 : (zeros 16129).length = ethMax + 1 ∧ (zeros 16128).length = ethMax :=
  ⟨List.length_replicate (n := 16129) (a := (0 : Byte)), List.length_replicate (n := 16128) (a := (0 : Byte))⟩
theorem wit_EthernetLanes_6 : chk ((ethq false).bit (LNK_STATUS_UP 23) && ((ethq false).lane 23).txq == [(zeros 64, 9, false)])
  (execEthTxStart 23 (ethq false))
    (fun t => (t.lane 23).txq == [] && (t.lane 23).fifo == []) = true := by decide +kernel
theorem wit_EthernetLanes_7 :
    ((ethq true).laneActive 23 && (ethq true).bit (LNK_STATUS_UP 23) && ((ethq true).lane 23).txq == [(zeros 64, 9, true)] &&
      ((ethq true).lane 23).fifo.length < 16) = true := by decide +kernel
theorem wit_EthernetLanes_8 : chk (stamped.busTakes 15 && stamped.lanePowered) (execTxtsPop 15 5 stamped)
    (fun t => t.busCode 15 == 0 && (t.lane 5).fifo.length == 1 && t.get (LNK_TXTS_TAG_TAG 5) == 7 && t.get
      (LNK_TXTS_TAG_FNS 5) == 255 && t.get (LNK_TXTS_NS_NS 5) == 999999999 && !t.bit (LNK_TXTS_TAG_EMPTY 5)) = true := by decide +kernel
theorem wit_EthernetLanes_9 : chk ((base.lane 5).fifo == [] && base.busTakes 0) (execTxtsPop 0 5 base)
    (fun t => t.bit (LNK_TXTS_TAG_EMPTY 5) && t.lnk == base.lnk) = true := by decide +kernel
theorem wit_EthernetLanes_10 : chk ((eth false).laneActive 23 && (eth false).ethMode 23) (execLaneSync 23 true false (eth false))
    (fun t => t.bit (LNK_STATUS_SYNC 23) && t.bit (LNK_STATUS_UP 23)) = true := by decide +kernel
theorem wit_EthernetLanes_11 : chk (((lnm 23 3).set (LNK_CFG_FEC_EN 23)).laneActive 23) (execLaneSync 23 true false ((lnm 23 3).set
  (LNK_CFG_FEC_EN 23)))
    (fun t => t.bit (LNK_STATUS_SYNC 23) && !t.bit (LNK_STATUS_UP 23)) = true := by decide +kernel
theorem wit_EthernetLanes_12 : chk ((eth true).laneActive 23 && (eth true).laneLive 23) (execEthRxFrame 23 (zeros 64) false 0 0 false (eth true))
    (fun t => t.out == [] && t.get (LNK_RX_DROPS_COUNT 23) == 1) = true := by decide +kernel
theorem wit_EthernetLanes_13 : chk ((full23).laneActive 23 && full23.laneLive 23 && !(full23.streamRoom (ethRxPort 23) (beatCount 8 9))) (execEthRxFrame 23 (zeros 9) false 0 0 true full23)
    (fun t => t.out == [] && t.get (LNK_RX_DROPS_COUNT 23) == 1) = true := by decide +kernel
theorem wit_EthernetLanes_14 : chk ((eth true).laneActive 23 && (eth true).laneLive 23) (execEthTxSubmit 23 [1, 2] 9 false (eth false))
    (fun t => (t.lane 23).txq == [([1, 2], 9, false)]) = true := by decide +kernel

theorem wit_LaneTestAndBringUp_1 : chk ((base.put (LNK_PRBS_ERR_HI_COUNT 0) 7).commandOk m0 (LNK_PRBS_CFG 0)) (execPrbsClear m0 0 0
  (base.put (LNK_PRBS_ERR_HI_COUNT 0) 7))
    (fun t => t.get2 (LNK_PRBS_ERR_LO_COUNT 0) (LNK_PRBS_ERR_HI_COUNT 0) == 0) = true := by decide +kernel
theorem wit_LaneTestAndBringUp_2 : chk (base.commandOk (Acc.whole 13) (LNK_EYE_CTRL 23) && !base.bit (LNK_EYE_CTRL_START 23))
  (execEyeScanStart (Acc.whole 13) 23 0 base)
    (fun t => t.bit (LNK_EYE_CTRL_START 23) && !t.bit (LNK_EYE_RESULT_DONE 23)) = true := by decide +kernel
theorem wit_LaneTestAndBringUp_3 : chk ((base.set (LNK_EYE_CTRL_START 1)).bit (LNK_EYE_CTRL_START 1) && base.mon.eye == none)
  (execEyeScanDone 1 0x1000000 (base.set (LNK_EYE_CTRL_START 1)))
    (fun t => !t.bit (LNK_EYE_CTRL_START 1) && t.bit (LNK_EYE_RESULT_DONE 1) && t.get
      (LNK_EYE_RESULT_ERRORS 1) == 0xFFFFFF) = true := by decide +kernel
theorem wit_LaneTestAndBringUp_4 : chk (prbs.laneActive 12 && prbs.laneMode 12 == 5 && prbs.bit (LNK_PRBS_CFG_CHK_EN 12))
  (execPrbsLock 12 false 1000 3 prbs)
    (fun t => !t.bit (LNK_PRBS_STATUS_CHK_LOCK 12) && t.get (LNK_PRBS_BITS_LO_COUNT 12) == 1000) = true := by decide +kernel
theorem wit_LaneTestAndBringUp_5 : chk ((brl 1 none false 0).laneActive 12 && (brl 1 none false 0).get (LNK_BRG_STATE_STATE 12) == 1)
  (execTrainingLock 12 0b10101 (brl 1 none false 0))
    (fun t => t.get (LNK_BRG_STATE_STATE 12) == 2 && t.get (LNK_BRG_STATE_PEER_CAP 12) == 21 &&
      (t.lane 12).prop == some 2) = true := by decide +kernel
theorem wit_LaneTestAndBringUp_6 : chk (((brl 2 (some 4) false 0).lane 12).prop == some 4) (execRateStepSwitch 12 (brl 2
  (some 4) false 0))
    (fun t => (t.lane 12).inStep && t.get (LNK_BRG_STATE_RATE 12) == 4) = true := by decide +kernel
theorem wit_LaneTestAndBringUp_7 : chk (((brl 2 (some 4) true 2).lane 12).inStep && 0 ≤ (brl 2 (some 4) true 2).get
  (LNK_BRG_CFG_MAX_ERR 12)) (execRateStepEnd 12 true 100 0 false (brl 2 (some 4) true 2))
    (fun t => (t.lane 12).top == 4 && t.get (LNK_BRG_STATE_FAILED_AT 12) == 15 && !(t.lane 12).inStep) = true := by decide +kernel
theorem wit_LaneTestAndBringUp_8 : chk (((brl 2 (some 3) true 2).lane 12).inStep && (brl 2 (some 3) true 2).get
  (LNK_BRG_CFG_MAX_ERR 12) < 1) (execRateStepEnd 12 true 100 1 false (brl 2 (some 3) true 2))
    (fun t => (t.lane 12).top == 2 && t.get (LNK_BRG_STATE_FAILED_AT 12) == 3 && (t.lane 12).prop == none) = true := by decide +kernel
theorem wit_LaneTestAndBringUp_9 : chk ((brl 2 none false 4).get (LNK_BRG_STATE_STATE 12) == 2 &&
  ((brl 2 none false 4).lane 12).prop == none) (execLaneSettle 12 (brl 2 none false 4))
    (fun t => t.get (LNK_BRG_STATE_STATE 12) == 3 && t.get (LNK_BRG_STATE_RATE 12) == 4 && t.bit
      (LNK_STATUS_UP 12)) = true := by decide +kernel
theorem wit_LaneTestAndBringUp_10 : chk (retr.laneActive 12 && retr.get (LNK_BRG_STATE_STATE 12) == 3 && retr.get
  (LNK_BRG_CFG_RETRY_S 12) != 0 && retr.get (LNK_BRG_STATE_FAILED_AT 12) ≤ 4) (execBringupRetry 12 retr)
    (fun t => !t.bit (LNK_STATUS_UP 12) && t.get (LNK_BRG_STATE_STATE 12) == 2 && (t.lane 12).prop == some 4) = true := by decide +kernel
theorem wit_LaneTestAndBringUp_11 : chk (sig.laneActive 12 && sig.bit (LNK_STATUS_SIGNAL 12) && sig.bit (LNK_STATUS_UP 12) &&
  sig.laneMode 12 == 4) (execLosDeclare 12 sig)
    (fun t => t.bit (LNK_STATUS_LOS 12) && !t.bit (LNK_STATUS_SIGNAL 12) && !t.bit (LNK_STATUS_UP 12) && t.get
      (LNK_BRG_STATE_STATE 12) == 4 && t.bit (pendingFld 23) && t.get GRD_LAST_INSTANCE == 12) = true := by decide +kernel
theorem wit_LaneTestAndBringUp_12 : chk ((brl 4 none false 0).laneActive 12 && (brl 4 none false 0).get (LNK_BRG_STATE_STATE 12) == 4)
  (execLosClear 12 (brl 4 none false 0))
    (fun t => t.bit (LNK_STATUS_SIGNAL 12) && t.get (LNK_BRG_STATE_STATE 12) == 1) = true := by decide +kernel
theorem wit_LaneTestAndBringUp_13 : chk (sig.bit (LNK_STATUS_UP 12) && sig.dev == .running) (execCdrLoss 12 sig)
    (fun t => t.bit (LNK_STATUS_CDR_LOL 12) && !t.bit (LNK_STATUS_UP 12) && t.bit (pendingFld 24) &&
      t.get GRD_LAST_INSTANCE == 12) = true := by decide +kernel
theorem wit_LaneTestAndBringUp_14 : chk (((brl 2 (some 3) true 2).lane 12).inStep) (execRateStepEnd 12 false 100 0 false (brl 2 (some 3) true 2))
    (fun t => (t.lane 12).top == 2 && t.get (LNK_BRG_STATE_FAILED_AT 12) == 3) = true := by decide +kernel
theorem wit_LaneTestAndBringUp_15 : chk (((brl 2 (some 3) true 2).lane 12).inStep) (execRateStepEnd 12 true 100 0 true (brl 2 (some 3) true 2))
    (fun t => (t.lane 12).top == 2 && (t.lane 12).prop == none) = true := by decide +kernel

/-! ### The Bearing link -/

theorem wit_BearingKeysAndRekeys_1 : chk ((brg 1 1 2).brgOn && (brg 1 1 2).portState 0 == 2 && ((brg 1 1 2).bport 0).peerSeed != [] &&
  ((brg 1 1 2).slot ((brg 1 1 2).sessSlot 0 0)).valid && ((brg 1 1 2).slot ((brg 1 1 2).sessSlot 0 0)).shadow == none)
  (execPortKeyed 0 (brg 1 1 2))
    (fun t => t.portState 0 == 3 && t.get (BRG_PORT_STATUS_EPOCH 0) == 0 && t.lineLevel 112) = true := by decide +kernel
theorem wit_BearingKeysAndRekeys_2 :
    (bup.brgOn && bup.portState 3 == 3 && !(bup.bport 3).rekey &&
      (bup.put BRG_CFG_REKEY_S 1).get BRG_CFG_REKEY_S != 0) = true := by decide +kernel
theorem wit_BearingKeysAndRekeys_3 : (bup.commandOk (Acc.whole 13) BRG_CMD && (8#4).getLsbD 3) = true := by decide +kernel
theorem wit_BearingKeysAndRekeys_4 : chk (((bp bup 3 fun v => { v with oldWaits := true, par := 1 }).bport 3).oldWaits &&
  bup.sessSlot 3 0 == 22) (execOldSlotErase 3 (bp bup 3 fun v => { v with oldWaits := true, par := 1 }))
    (fun t => !(t.bport 3).oldWaits && t.slot 22 == Slot.erased) = true := by decide +kernel
theorem wit_BearingKeysAndRekeys_5 : chk (((bp bup 3 fun v => { v with rekey := true }).bport 3).rekey &&
  (bup.slot 22).ctr != ctrMax 1) (execRekeyRetry 3 (bp bup 3 fun v => { v with rekey := true }))
    (fun t => t.brg.queue.length == 1 && t.brg.queue.all (fun f => byteAt f.payload 0 == 4 &&
      f.copies == [(3, 0)])) = true := by decide +kernel
theorem wit_BearingKeysAndRekeys_6 : chk ((spent.bport 3).rekey && (spent.slot 22).ctr == ctrMax 1 && spent.portState 3 == 3)
  (execRekeyRetry 3 spent)
    (fun t => t.lineLevel 115 && !(t.bport 3).rekey && t.portState 3 != 3) = true := by decide +kernel
theorem wit_BearingKeysAndRekeys_7 : chk (((bp bup 1 fun v => { v with left := true }).bport 1).left && bup.brgOn) (execPortDown 1
  (bp bup 1 fun v => { v with left := true }))
    (fun t => !(t.bport 1).left && t.lineLevel 116) = true := by decide +kernel
theorem wit_BearingKeysAndRekeys_8 : chk (bup.portState 2 == 3 && 16 ≤ badCrc.length && !(brgParse badCrc).crcOk)
  (execBrgDataFrame 2 false badCrc false true bup)
    (fun t => t.bit (pendingFld 25) && t.get (BRG_CNT_COUNT 0) == 1 && t.brg == bup.brg) = true := by decide +kernel
theorem wit_BearingKeysAndRekeys_9 : chk (2 ≤ bup.portState 1) (execBrgDataFrame 1 true [1, 2, 3] true true bup)
    (fun t => t.brg == bup.brg && t.str == bup.str && !t.bit (pendingFld 25) && t.get (BRG_CNT_COUNT 0) == 1) = true := by decide +kernel
theorem wit_BearingKeysAndRekeys_10 : chk (2 ≤ (brg 1 1 2).portState 1) (execBrgDataFrame 1 true [] true true (brg 1 1 2))
    (fun t => t.get (BRG_CNT_COUNT 0) == 1) = true := by decide +kernel

theorem wit_BearingFramesTimeAndLandfall_1 : chk (bup.portLive 7 && bup.brgQueued 1 < brgQueueMax 1 && brgLenOk 1 256 && bup.get
  (BRG_ROUTE_MODE 63) == 0 && bup.portUp (bup.get (BRG_ROUTE_PRIM 63))) (execBrgTxSubmit .sample 63 false 3 9 (zeros 256) bup)
    (fun t => t.brg.queue.length == 1 && t.brg.queue.all (fun f => f.dst == 63 && f.copies == [(0, 0)] &&
      f.payload == zeros 256)) = true := by decide +kernel
theorem wit_BearingFramesTimeAndLandfall_2 : chk ((brg 1 1 0).portLive 7 && !(brg 1 1 0).portUp ((brg 1 1 0).get (BRG_ROUTE_PRIM 6)))
  (execBrgTxSubmit .sample 6 false 3 9 (zeros 4) (brg 1 1 0))
    (fun t => t.out.contains (.brgDone 1 9 2) && t.brg == (brg 1 1 0).brg) = true := by decide +kernel
theorem wit_BearingFramesTimeAndLandfall_3 : chk (bup.portLive 7 && !brgLenOk 0 8 && bup.brgQueued 0 < brgQueueMax 0)
  (execBrgTxSubmit .trip 6 false 3 9 (zeros 8) bup)
    (fun t => t.out.contains (.brgDone 0 9 4)) = true := by decide +kernel
theorem wit_BearingFramesTimeAndLandfall_4 :
    (ready.portState 1 == 3 && ready.brgNext 1 == some (onTx 1 3 0 (zeros 4) 1) && (ready.bport 1).ahead == [7] && ready.brgKey
      (ready.sessSlot 1 0) == some (zeros 16)) = true := by decide +kernel
theorem wit_BearingFramesTimeAndLandfall_5 : chk (bup.portLive 7 && (bq bup [onTx 2 3 0 (zeros 4) 1]).brg.queue.find?
  (fun g => g.origin == 0 && g.seq.isNone && g.cls == 2 && g.tag == 9) == some (onTx 2 3 0 (zeros 4) 1)) (execBrgCancel .bulk 9
  (bq bup [onTx 2 3 0 (zeros 4) 1]))
    (fun t => t.brg.queue == [] && t.out.contains (.brgDone 2 9 1)) = true := by decide +kernel
theorem wit_BearingFramesTimeAndLandfall_6 : chk (bup.portState 1 == 3) (execTimeReqTimer 1 bup)
    (fun t => t.brg.queue.length == 1 && t.brg.queue.all (fun f => f.cls == 3 && byteAt f.payload 0 == 1 &&
      f.copies == [(1, 0)])) = true := by decide +kernel
theorem wit_BearingFramesTimeAndLandfall_7 : chk (((bp bup 0 fun v => { v with ad := some (1, 1, 1, 2) }).bport 0).ad != none)
  (execMasterTimeout 0 (bp bup 0 fun v => { v with ad := some (1, 1, 1, 2) }))
    (fun t => (t.bport 0).ad == none) = true := by decide +kernel
theorem wit_BearingFramesTimeAndLandfall_8 :
    (bup.get CFG_LANDFALL_ROLE == 1 && bup.get CFG_LANDFALL_STATE == 1 && bup.portState 0 == 3) = true := by decide +kernel
theorem wit_BearingFramesTimeAndLandfall_9 : chk (bup.get CFG_LANDFALL_STATE == 1 && !(0x8000000000000000#64).getLsbD bup.ownId)
  (execLandfallFrame 0x8000000000000000 bup)
    (fun t => t.exclMap == 2 ^ 63 && t.get CFG_LANDFALL_STATE == 3 && t.bit SYS_SERVICE_LANDFALL) = true := by decide +kernel
theorem wit_BearingFramesTimeAndLandfall_10 : chk ((0x20#64).getLsbD bup.ownId) (execLandfallFrame 0x20 bup)
    (fun t => t.get CFG_LANDFALL_STATE == 4 && !t.bit SYS_SERVICE_LANDFALL) = true := by decide +kernel
theorem wit_BearingFramesTimeAndLandfall_11 : chk (((brg 1 4 3).set (exclFld 5)).get CFG_LANDFALL_STATE == 4 &&
  (brg 1 4 3).ownId == 5) (execAdmitFrame 5 ((brg 1 4 3).set (exclFld 5)))
    (fun t => !t.excluded 5 && t.get CFG_LANDFALL_STATE == 2 && t.bit SYS_SERVICE_LANDFALL && t.lineLevel 119) = true := by decide +kernel
theorem wit_BearingFramesTimeAndLandfall_12 : chk ((brg 1 3 3).brgOn) (execAdmitFrame 63 ((brg 1 3 3).set (exclFld 63)))
    (fun t => !t.excluded 63) = true := by decide +kernel
theorem wit_BearingFramesTimeAndLandfall_13 : chk ((mast 1).brgOn && (mast 1).get CFG_LANDFALL_ROLE == 2 && !(mast 1).isCounted 6 &&
  (mast 1).brg.acceptGolden) (execReadyFrame 6 7 true (mast 1))
    (fun t => t.isCounted 6 && t.get CFG_LANDFALL_READY == 1) = true := by decide +kernel
theorem wit_BearingFramesTimeAndLandfall_14 : chk (((mast 3).set (exclFld 6)).excluded 6 && !(mast 3).isCounted 6 &&
  !(mast 3).bit BRG_CFG_AUTO_ADMIT) (execReadyFrame 6 7 false ((mast 3).set (exclFld 6)))
    (fun t => t.lineLevel 118 && t.brg.late == [(6, 7, false)] && t.excluded 6) = true := by decide +kernel
theorem wit_BearingFramesTimeAndLandfall_15 : ((mast 1).get CFG_LANDFALL_STATE == 1 && (mast 1).brgOn) = true := by decide +kernel
theorem wit_BearingFramesTimeAndLandfall_16 :
    (2 ≤ (mast 2).get CFG_LANDFALL_STATE && ((bp (mast 2) 1 fun v => { v with lateUp := true }).bport 1).lateUp &&
      (mast 2).portState 1 == 3) = true := by decide +kernel
theorem wit_BearingFramesTimeAndLandfall_17 :
    ((late6 3).commandOk (Acc.whole 13) BRG_ADMIT && (late6 3).brg.late.find? (·.1 == 6) == some (6, 7, true) && (late6 3).excluded 6 &&
      (late6 3).brg.acceptGolden) = true := by decide +kernel
theorem wit_BearingFramesTimeAndLandfall_18 : chk ((mast 1).get CFG_LANDFALL_ROLE == 2 && (mast 1).ownId == 5) (execReadyFrame 5 7 true (mast 1))
    (fun t => t.bit CFG_LANDFALL_ID_CONFLICT && t.brg.counted == (mast 1).brg.counted) = true := by decide +kernel
theorem wit_BearingFramesTimeAndLandfall_19 : bup.streamRoom (brgRxPort 1) (beatCount 8 4) = true ∧
    bup.streamRoom (brgRxPort 0) (beatCount 8 12) = true ∧ bup.streamRoom (brgRxPort 1) 1024 = true :=
  have h : ∀ k, k ≤ 1024 → ∀ x, decide (k ≤ 1024 + x) = true := fun _ e _ => decide_eq_true (Nat.le_trans e (Nat.le_add_right _ _))
  ⟨h 1 (by decide) _, h 2 (by decide) _, h 1024 (by decide) _⟩
theorem wit_BearingFramesTimeAndLandfall_20 : ((onLane 2).portLanes 1 == [14] && (onLane 2).bit (LNK_STATUS_UP 14) && (onLane 2).laneMode 14 == 4 && (onLane 2).get (LNK_BRG_STATE_RATE 14) == 2 && (onLane 2).brgNext 1 == some (onTx 1 3 0 (zeros 4) 1)) = true := by decide +kernel
theorem wit_BearingFramesTimeAndLandfall_21 : ((onLane 3).bit (LNK_STATUS_UP 14) && (onLane 3).laneMode 14 == 4 && (onLane 3).get (LNK_BRG_STATE_RATE 14) == 3 && (onLane 3).brgKey ((onLane 3).sessSlot 1 0) == some (zeros 16)) = true := by decide +kernel

/-- What stands next in a record stream, where each condition of the reading holds. -/
theorem head_of (r : Reader) (t n : Nat) (p : List Byte) (a : ¬ hdrLen r.header < r.pos + 4 ∧ ¬ r.stream.length < 4 ∧
    byteAt r.stream 0 = t ∧ leField r.stream 1 3 = n ∧ recRank t ≠ 0 ∧ r.misplaced false t = false ∧ n % 4 = 0 ∧
    ¬ hdrLen r.header < r.pos + 4 + n ∧ ¬ r.stream.length < 4 + n) (b : slice r.stream 4 n = p) : r.head false = .record t p := by
  obtain ⟨a1, a2, a3, a4, a5, a6, a7, a8, a9⟩ := a
  subst a3 a4 b
  simp [Reader.head, a1, a2, a5, a6, a7, a8, a9]

theorem slice_app (a b : List Byte) (m n : Nat) (h : a.length = m) (k : b.length = n) : slice (a ++ b) m n = b := by
  subst h k
  simp [slice]

/-- A ciphertext opens under the tag that its key gives. -/
theorem gcm_own (k i a c : List Byte) : gcmOpen k i a c (gcmTag k i a c) = some (gcmCrypt k i c) := by simp [gcmOpen]

def kwP : List Byte := (zeros 12 ++ zeros 32) ++ gcmTag (zeros 32) (zeros 12) (rd 2 []).header (zeros 32)
def kw : State := ld false (rd 2 (rec_ 3 kwP)) Staged.empty
theorem kwP_length : kwP.length = 60 := by decide +kernel
theorem wit_RecordsTakeNoEffectBeforeEnd_keywrap : kw.nextRecord 0x03 kwP ∧ kwP.length = 60 ∧ ∃ k,
    gcmOpen (chunkKey kw.load.fuse kw.load.reader.header) (kwP.take 12) kw.load.reader.header (slice kwP 12 32) (slice kwP 44 16) = some k := by
  refine ⟨⟨by decide +kernel, by decide +kernel, head_of _ _ 60 _ (by decide +kernel) (slice_app _ _ 4 60 rfl kwP_length)⟩, kwP_length,
    gcmCrypt (zeros 32) (zeros 12) (zeros 32), ?_⟩
  rw [show slice kwP 44 16 = _ from slice_app _ _ 44 16 rfl (by decide +kernel)]
  exact gcm_own _ _ _ _

def slotA : List Byte := [3, 16, 0x41, 1, 0, 0, 0, 0]
def slotC : List Byte := (slotA ++ zeros 12) ++ zeros 32
def slotT : List Byte := gcmTag (zeros 32) (zeros 12) slotA (zeros 32)
def slotP : List Byte := slotC ++ slotT
def slt : State := ld false { rd 7 (rec_ 0x21 slotP) with wrap := some (zeros 32) } Staged.empty
theorem slotP_length : slotP.length = 68 := by decide +kernel
theorem slotEntries_one (w e k : List Byte) (pos : Nat) (h0 : byteAt e 0 = 3) (h1 : byteAt e 1 = 16) (h2 : byteAt e 2 = 0x41)
    (h3 : byteAt e 3 % 4 = 1) (h4 : leField e 4 2 = 0) (h : gcmOpen w (slice e 8 12) (e.take 8) (slice e 20 32) (slice e 52 16) = some k) :
    slotEntries w pos [e] = .ok [(3, ⟨k.take 16, 0x41, 0, 1⟩)] := by
  simp [slotEntries, slotEntry, h, h0, h1, h2, h3, h4]
theorem wit_RecordsTakeNoEffectBeforeEnd_slots : slt.nextRecord 0x21 slotP ∧ slotP.length % 68 = 0 ∧ ∃ xs,
    slotEntries (slt.load.reader.wrap.getD []) slt.load.reader.pos
      ((List.range (slotP.length / 68)).map fun i => slice slotP (68 * i) 68) = .ok xs := by
  refine ⟨⟨by decide +kernel, by decide +kernel, head_of _ _ 68 _ (by decide +kernel) (slice_app _ _ 4 68 rfl slotP_length)⟩,
    by rw [slotP_length], [(3, ⟨(gcmCrypt (zeros 32) (zeros 12) (zeros 32)).take 16, 0x41, 0, 1⟩)], ?_⟩
  have w : slt.load.reader.wrap.getD [] = zeros 32 := rfl
  have l : ((List.range (68 / 68)).map fun i => slice slotP (68 * i) 68) = [slotP] := by
    simp [slice, List.take_of_length_le, slotP_length]
  rw [slotP_length, w, l]
  have e : gcmOpen (zeros 32) (slice slotP 8 12) (slotP.take 8) (slice slotP 20 32) (slice slotP 52 16) =
      some (gcmCrypt (zeros 32) (zeros 12) (zeros 32)) := by
    rw [show slice slotP 52 16 = slotT from slice_app slotC slotT 52 16 rfl (by decide +kernel)]
    exact gcm_own _ _ _ _
  rw [slotEntries_one _ _ _ _ (by decide +kernel) (by decide +kernel) (by decide +kernel) (by decide +kernel) (by decide +kernel) e]

def sealed : List Byte := [1, 2, 3, 4] ++ gcmTag (zeros 32) (zeros 12) (sh 0) [1, 2, 3, 4]
theorem sealed_length : sealed.length = 20 := by decide +kernel
theorem sealed_opens : chunkOpen (zeros 32) (sh 0) 0 sealed = some (gcmCrypt (zeros 32) (zeros 12) [1, 2, 3, 4]) := by
  have h : ¬ sealed.length ≠ chunkBytes (sh 0) 0 + 16 := by rw [sealed_length]; decide +kernel
  have n : slice (sh 0) 28 8 ++ beBytes 4 0 = zeros 12 := by decide +kernel
  have a : sealed.take (chunkBytes (sh 0) 0) = [1, 2, 3, 4] := List.take_left' (by decide +kernel)
  have b : sealed.drop (chunkBytes (sh 0) 0) = gcmTag (zeros 32) (zeros 12) (sh 0) [1, 2, 3, 4] := List.drop_left' (by decide +kernel)
  simp only [chunkOpen, if_neg h, n, a, b, gcm_own]
theorem wit_LoadUpToTheRecords_chunk : small.inPhase 2 = true ∧ small.load.reader.header ≠ [] ∧
    small.load.reader.chunk < hdrChunks small.load.reader.header ∧
    ∃ p, chunkOpen (chunkKey small.load.fuse small.load.reader.header) small.load.reader.header small.load.reader.chunk sealed = some p :=
  ⟨by decide +kernel, by decide +kernel, by decide +kernel, _, sealed_opens⟩

/-- A HEADER of one chunk for regions 0 and 1, with its CRC: the CRC is taken in three parts. -/
def hdrOk : List Byte := hdrBody 0 4 1 3 ++ [0xC9, 0x70, 0xD8, 0xC3]
theorem crc_part_1 : ((hdrBody 0 4 1 3).take 44).foldl crc32Byte 0xFFFFFFFF#32 = 0xcb8cd7f3#32 := by decide +kernel
theorem crc_part_2 : (zeros 40).foldl crc32Byte 0xcb8cd7f3#32 = 0xf9566e57#32 := by decide +kernel
theorem crc_part_3 : (zeros 40).foldl crc32Byte 0xf9566e57#32 = 0x3c278f36#32 := by decide +kernel
theorem hdrOk_crc : crc32 (hdrOk.take 124) = 0xc3d870c9#32 := by
  have e : hdrOk.take 124 = ((hdrBody 0 4 1 3).take 44 ++ zeros 40) ++ zeros 40 := by decide +kernel
  rw [crc32, e, List.foldl_append, List.foldl_append, crc_part_1, crc_part_2, crc_part_3]
  rfl
theorem wit_LoadUpToTheRecords_header : (ld false Reader.empty Staged.empty).inPhase 2 = true ∧
    hdrFault (padTo 128 hdrOk) (some false) = none ∧ hdrEnc (padTo 128 hdrOk) = false ∧
    hdrStored (padTo 128 hdrOk) ≤ (ld false Reader.empty Staged.empty).slotBytes := by
  refine ⟨by decide +kernel, ?_, by decide +kernel, by decide +kernel⟩
  have e : padTo 128 hdrOk = hdrOk := by decide +kernel
  rw [e, hdrFault, hdrOk_crc]
  decide +kernel

def noLog : State := { State.reset with regs := [], dev := .running, wch := { WchState.cold with up := true } }
theorem wit_GuaranteeChecks_log : noLog.dev = .running ∧ noLog.wch.up = true ∧ (∀ i, i < 1024 → (∀ k, k < 8 → noLog.word (LOG_ENTRY i k) = 0) ∨
    noLog.word (LOG_ENTRY i 7) = crc32 (wordBytes (cellReadAll noLog.regs (LOG_ENTRY i 0) 4 7))) :=
  ⟨rfl, rfl, fun _ _ => .inl fun _ _ => rfl⟩

theorem wit_RecordsTakeNoEffectBeforeEnd_profile : profR.nextRecord 0x02 oscSet ∧ oscSet.length = 20 + 8 * leField oscSet 16 4 ∧
    (profileSettings oscSet).find? settingBad = none ∧
    ((profR.withOut []).applySettings (profileGuarded oscSet) (profileSettings oscSet)).pllDenied = none ∧
    (((profR.withOut []).applySettings (profileGuarded oscSet) (profileSettings oscSet)).unitsDenied fun a =>
      (profileSettings oscSet).any (·.1 == a)) = none := by
  refine ⟨⟨by decide +kernel, by decide +kernel, by decide +kernel⟩, by decide +kernel, by decide +kernel, ?_, by decide +kernel⟩
  unfold State.pllDenied State.pllOver clockMaxKhz
  generalize Config.grade3 = b
  revert b
  decide +kernel

theorem leNat_leBytes : ∀ n v, v < 256 ^ n → leNat (leBytes n v) = v
  | 0, v, h => by simp only [leBytes, leNat, Nat.pow_zero] at *; omega
  | n + 1, v, h => by
    have ih := leNat_leBytes n (v / 256) (by rw [Nat.pow_succ] at h; exact Nat.div_lt_of_lt_mul (by omega))
    simp only [leBytes, leNat, ih, BitVec.toNat_ofNat]
    omega

/-- A payload of REGION-END for region `r` with the CRC `w`. -/
def regionEndP (r : Nat) (w : Word) : List Byte := leBytes 4 r ++ leBytes 4 w.toNat
theorem regionEndP_crc (r : Nat) (w : Word) : leField (regionEndP r w) 4 4 = w.toNat := by
  rw [leField, regionEndP, slice_app _ _ 4 4 rfl rfl]
  exact leNat_leBytes 4 _ w.isLt

/-- A scrubber at the last region of its standard pass; the CRC of region 3 is kept, or another one. -/
def kept (w : Word) : State := (scr [] [3]).withRegs [(FAB_STATUS, 0xFFFFFFFF), (CFG_REGION_CRC 3, w)]
theorem kept_crc (w : Word) : (kept w).regionCrc 3 = (scr [] [3]).regionCrc 3 := rfl
theorem kept_word (w : Word) : (kept w).word (CFG_REGION_CRC 3) = w := rfl
theorem kept_rest (w : Word) : (kept w).dev = .running ∧ (kept w).bit FAB_STATUS_RELEASED = true ∧ (kept w).isolatedR 3 = false ∧
    bitsOf (kept w).fab.ctrl 16 1 = 1 ∧ (kept w).critNow.contains 3 = false ∧ (kept w).fab.stdLeft = [3] := by
  have c : (scr [] [3]).critNow.contains 3 = false := by decide +kernel
  have e : bitsOf (scr [] [3]).fab.ctrl 16 1 = 1 := by decide +kernel
  have i : (scr [] [3]).isolatedR 3 = false := by decide +kernel
  have b : (kept w).bit FAB_STATUS_RELEASED = true := by
    have h : cellRead (kept w).regs FAB_STATUS = 0xFFFFFFFF := rfl
    have f : FAB_STATUS_RELEASED.addr = FAB_STATUS := rfl
    rw [State.bit, State.get, fldRead, f, h]
    decide +kernel
  exact ⟨rfl, b, i, e, c, rfl⟩
theorem wit_Scrubbing_same : let s := kept ((scr [] [3]).regionCrc 3)
    (s.dev = .running ∧ s.bit FAB_STATUS_RELEASED = true ∧ s.isolatedR 3 = false ∧ bitsOf s.fab.ctrl 16 1 = 1 ∧ s.critNow.contains 3 = false ∧ s.fab.stdLeft = [3]) ∧
    s.regionCrc 3 = s.word (CFG_REGION_CRC 3) :=
  ⟨kept_rest _,
    (kept_crc _).trans (kept_word _).symm⟩
theorem wit_Scrubbing_other : let s := kept ((scr [] [3]).regionCrc 3 + 1)
    (s.dev = .running ∧ s.bit FAB_STATUS_RELEASED = true ∧ s.isolatedR 3 = false ∧ bitsOf s.fab.ctrl 16 1 = 1 ∧ s.critNow.contains 3 = false ∧ s.fab.stdLeft = [3]) ∧
    s.regionCrc 3 ≠ s.word (CFG_REGION_CRC 3) := by
  refine ⟨kept_rest _, ?_⟩
  rw [kept_crc, kept_word]
  have ne : ∀ x : Word, x ≠ x + 1 := fun x h => by bv_omega
  exact ne _

theorem region_end_ok (r : Reader) (p : List Byte) (crc : Nat → Word) (c : Nat) (h : p.length = 8) (hc : r.cur = some c)
    (hr : leField p 0 4 % 16 = c) (hw : leField p 4 4 = (crc c).toNat) (hn : r.next = 8192) :
    r.regionEnd p crc = .ok ({ r with cur := none, next := 0 }, c, crc c) := by
  simp [Reader.regionEnd, Reader.section, h, hc, hr, hw, hn]

/-- REGION-END of region 1, whose frames have all come, stands next in a full load. -/
def endR : State :=
  ld false { rd 6 (rec_ 0x13 (regionEndP 1 ((at_ .loading).regionCrc 1))) with cur := some 1, next := 8192 } Staged.empty
theorem endR_crc : endR.regionCrc 1 = (at_ .loading).regionCrc 1 := rfl
theorem wit_RecordsInOrder_end : endR.nextRecord 0x13 (regionEndP 1 ((at_ .loading).regionCrc 1)) ∧
    ∃ o, endR.load.reader.regionEnd (regionEndP 1 ((at_ .loading).regionCrc 1)) endR.regionCrc = .ok o := by
  refine ⟨⟨by decide +kernel, by decide +kernel, head_of _ _ 8 _ ?_ (slice_app _ _ 4 8 rfl rfl)⟩,
    Exists.intro _ (region_end_ok _ _ _ 1 rfl rfl rfl (regionEndP_crc _ _) rfl)⟩
  exact ⟨by decide +kernel, by decide +kernel, rfl, rfl, by decide, by decide +kernel, rfl, by decide +kernel, by decide +kernel⟩

/-- A partial image whose one chunk stands in bank 8, byte by byte. -/
def spread : List Byte → Nat → Cells 8
  | [], _ => []
  | b :: bs, a => (a, b) :: spread bs (a + 1)
theorem spread_read (l : List Byte) (h : l.length = 20) : cellReadAll (spread l 2097280) 2097280 1 20 = l := by
  match l, h with
  | [_, _, _, _, _, _, _, _, _, _, _, _, _, _, _, _, _, _, _, _], _ => rfl
def prRead : State :=
  let s := (base.put SCR_PR_STATE_PHASE 3).withDeep (spread sealed 2097280)
  s.withLoad { s.load with prBank := 8, pr := { Reader.empty with header := sh 0, rank := 1 } }
theorem wit_PartialLoads_chunk : prRead.inService = true ∧ prRead.load.pr.header ≠ [] ∧ prRead.load.pr.chunk < hdrChunks prRead.load.pr.header ∧
    prRead.load.pr.rank ≠ 9 ∧ prRead.get SCR_PR_STATE_PHASE = 3 ∧ ∃ p, chunkOpen (chunkKey prRead.load.fuse prRead.load.pr.header)
      prRead.load.pr.header prRead.load.pr.chunk (prRead.deepBytes (prRead.load.prBank * 262144 + chunkAt prRead.load.pr.chunk)
        (chunkBytes prRead.load.pr.header prRead.load.pr.chunk + 16)) = some p := by
  refine ⟨by decide +kernel, by decide +kernel, by decide +kernel, by decide +kernel, by decide +kernel,
    gcmCrypt (zeros 32) (zeros 12) [1, 2, 3, 4], ?_⟩
  have e : prRead.deepBytes (prRead.load.prBank * 262144 + chunkAt prRead.load.pr.chunk)
      (chunkBytes prRead.load.pr.header prRead.load.pr.chunk + 16) = sealed := by
    rw [show chunkBytes prRead.load.pr.header prRead.load.pr.chunk + 16 = 20 by decide +kernel,
      show prRead.load.prBank * 262144 + chunkAt prRead.load.pr.chunk = 2097280 by decide +kernel]
    exact spread_read sealed sealed_length
  rw [e]
  exact sealed_opens

/-- Its REGION-END and END stand next: both checks pass. -/
def lastP : List Byte := leBytes 4 0 ++ leBytes 4 3
def lastTwo (w : Word) : List Byte := rec_ 0x13 (regionEndP 1 w) ++ rec_ 0xFF lastP
def prLast : State :=
  let s := base.put SCR_PR_STATE_PHASE 3
  let r : Reader := { rd 6 (lastTwo (base.regionCrc 1)) with header := hdrBody 4 24 1 2 ++ zeros 4 }
  s.withLoad { s.load with pr := { r with pos := 0, cur := some 1, next := 8192, records := 1 } }
theorem prLast_crc : prLast.regionCrc 1 = base.regionCrc 1 := rfl
theorem head_part (r : Reader) (t n : Nat) (p : List Byte) (a : ¬ hdrLen r.header < r.pos + 4 ∧ ¬ r.stream.length < 4 ∧
    byteAt r.stream 0 = t ∧ leField r.stream 1 3 = n ∧ recRank t ≠ 0 ∧ r.misplaced true t = false ∧ n % 4 = 0 ∧
    ¬ hdrLen r.header < r.pos + 4 + n ∧ ¬ r.stream.length < 4 + n) (b : slice r.stream 4 n = p) : r.head true = .record t p := by
  obtain ⟨a1, a2, a3, a4, a5, a6, a7, a8, a9⟩ := a
  subst a3 a4 b
  simp [Reader.head, a1, a2, a5, a6, a7, a8, a9]
theorem wit_PartialLoads_checks : prLast.dev = .running ∧ prLast.get SCR_PR_STATE_PHASE = 3 ∧ prLast.load.pr.rank ≠ 9 ∧
    ∃ p, prLast.load.pr.head true = .record 0x13 p ∧ (∃ o, prLast.load.pr.regionEnd p prLast.regionCrc = .ok o) ∧
    ({ prLast.load.pr.take 0x13 p.length with cur := none, next := 0 } : Reader).head true = .record 0xFF lastP ∧
    ({ prLast.load.pr.take 0x13 p.length with cur := none, next := 0 } : Reader).finish lastP = .ok () := by
  refine ⟨by decide +kernel, by decide +kernel, by decide +kernel, regionEndP 1 (base.regionCrc 1), head_part _ _ 8 _ ?_ ?_,
    Exists.intro _ (region_end_ok _ _ _ 1 rfl rfl rfl (regionEndP_crc _ _) rfl), ?_, ?_⟩
  · exact ⟨by decide +kernel, by decide +kernel, rfl, rfl, by decide, by decide +kernel, rfl, by decide +kernel, by decide +kernel⟩
  · rfl
  · exact head_part _ _ 8 _ ⟨by decide +kernel, by decide +kernel, rfl, rfl, by decide, by decide +kernel, rfl, by decide +kernel,
      by decide +kernel⟩ rfl
  · decide +kernel

/-! Bearing frames: a body, a tag and the CRC over both. -/

def sealF (b t : List Byte) : List Byte := (b ++ t) ++ leBytes 4 (crc32 (b ++ t)).toNat
theorem leBytes_length : ∀ n v, (leBytes n v).length = n
  | 0, _ => rfl
  | n + 1, v => congrArg (· + 1) (leBytes_length n (v / 256))
theorem seal_crc (b t : List Byte) (h : 12 ≤ (b ++ t).length) : (brgParse (sealF b t)).crcOk = true := by
  have n : (sealF b t).length = (b ++ t).length + 4 := by rw [sealF, List.length_append, leBytes_length]
  show (decide (16 ≤ (sealF b t).length) && leBytes 4 (crc32 ((sealF b t).take ((sealF b t).length - 4))).toNat ==
    (sealF b t).drop ((sealF b t).length - 4)) = true
  rw [n, Nat.add_sub_cancel, sealF, List.take_left, List.drop_left]
  simp only [beq_self_eq_true, Bool.and_true, decide_eq_true_eq]
  omega
theorem seal_body (b t : List Byte) (h : 12 + (byteAt (sealF b t) 6 + byteAt (sealF b t) 7 * 256) = b.length) :
    (brgParse (sealF b t)).body = b := by
  show (sealF b t).take (12 + (byteAt (sealF b t) 6 + byteAt (sealF b t) 7 * 256)) = b
  rw [h, sealF, List.append_assoc, List.take_left]
theorem seal_tag (b t : List Byte) (h : 12 + (byteAt (sealF b t) 6 + byteAt (sealF b t) 7 * 256) = b.length)
    (k : brgTagLen (byteAt (sealF b t) 0 / 64) = t.length) : (brgParse (sealF b t)).tag = t := by
  show slice (sealF b t) (12 + (byteAt (sealF b t) 6 + byteAt (sealF b t) 7 * 256)) (brgTagLen (byteAt (sealF b t) 0 / 64)) = t
  rw [h, k, sealF, List.append_assoc, slice, List.drop_left, List.take_left]

/-- A frame from part 6 port 0 with LNONCE 1 under the all-zero session key of epoch 0. -/
def frameTag (b : List Byte) (n : Nat) : List Byte := (gcmTag (zeros 16) (linkIv 6 0 0 1) b []).take n
def tagged (b : List Byte) (n : Nat) : List Byte := sealF b (frameTag b n)
theorem tagged_taken (s : State) (b : List Byte) (n : Nat) (h0 : s.brgOn = true ∧ s.portState 0 = 3) (h1 : 12 ≤ (b ++ frameTag b n).length)
    (h2 : (brgParse (tagged b n)).formOk = true ∧ (brgParse (tagged b n)).control 1 = false)
    (h3 : 12 + (byteAt (tagged b n) 6 + byteAt (tagged b n) 7 * 256) = b.length)
    (h4 : brgTagLen (byteAt (tagged b n) 0 / 64) = (frameTag b n).length ∧ brgTagLen (brgParse (tagged b n)).cls = n)
    (h5 : s.brgKey (s.sessSlot 0 (brgParse (tagged b n)).keysel) = some (zeros 16))
    (h6 : linkIv (s.get (BRG_PORT_STATUS_NB_ID 0)) (s.get (BRG_PORT_STATUS_NB_PORT 0)) (s.frameEpoch 0 (brgParse (tagged b n)).keysel)
      (brgParse (tagged b n)).lnonce = linkIv 6 0 0 1)
    (h7 : ∀ lane, lane < 2 → (s.bport 0).seenAt (brgParse (tagged b n)).keysel lane ≤ (brgParse (tagged b n)).lnonce)
    (h8 : (brgParse (tagged b n)).bcast = false ∧ (brgParse (tagged b n)).dst = s.ownId ∧ s.excluded (brgParse (tagged b n)).src = false ∧
      cellRead s.brg.rxSeq (streamKey (brgParse (tagged b n)).src (brgParse (tagged b n)).cls (brgParse (tagged b n)).channel) = 0) :
    s.takesFrame 0 (tagged b n) := by
  refine ⟨h0.1, h0.2, seal_crc _ _ h1, h2.1, h2.2, ?_, h7, h8.1, h8.2.1, h8.2.2.1, h8.2.2.2⟩
  rw [State.tagOk, h5]
  show ((gcmTag _ _ _ []).take _ == _) = true
  rw [h6, h4.2, show (brgParse (tagged b n)).body = b from seal_body _ _ h3, show (brgParse (tagged b n)).tag = _ from seal_tag _ _ h3 h4.1]
  exact beq_self_eq_true _

def smpB : List Byte := [0x43, 5, 6, 1, 0, 0, 4, 0, 1, 0, 0, 0, 1, 2, 3, 4]
def tripB : List Byte := [0x03, 5, 6, 1, 0, 0, 12, 0, 1, 0, 0, 0] ++ zeros 12
def rekB (t : Byte) : List Byte := [0x8F, 5, 6, 1, 0, 0, 4, 0, 1, 0, 0, 0, t, 1, 0, 0]
def timB (t : Byte) : List Byte := [0xC0, 5, 6, 1, 0, 0, 32, 0, 1, 0, 0, 0, t] ++ zeros 31
def acking : State := bp bup 0 fun v => { v with rekey := true }
def asking : State := bp bup 0 fun v => { v with reqT1 := some 1 }

theorem wit_BearingFrames_sample : bup.takesFrame 0 (tagged smpB 8) ∧ (brgParse (tagged smpB 8)).cls = 1 ∧ bup.portLive 7 = true := by
  refine ⟨tagged_taken _ _ _ ?_ ?_ ?_ ?_ ?_ ?_ ?_ ?_ ?_, ?_, ?_⟩ <;> decide +kernel
theorem wit_BearingFrames_trip : bup.takesFrame 0 (tagged tripB 4) ∧ (brgParse (tagged tripB 4)).cls = 0 := by
  refine ⟨tagged_taken _ _ _ ?_ ?_ ?_ ?_ ?_ ?_ ?_ ?_ ?_, ?_⟩ <;> decide +kernel
theorem wit_BearingFrames_req : bup.takesFrame 0 (tagged (timB 1) 8) ∧ (brgParse (tagged (timB 1) 8)).cls = 3 ∧
    byteAt (brgParse (tagged (timB 1) 8)).payload 0 = 1 := by
  refine ⟨tagged_taken _ _ _ ?_ ?_ ?_ ?_ ?_ ?_ ?_ ?_ ?_, ?_, ?_⟩ <;> decide +kernel
theorem wit_BearingFrames_resp : asking.takesFrame 0 (tagged (timB 2) 8) ∧ (brgParse (tagged (timB 2) 8)).cls = 3 ∧
    byteAt (brgParse (tagged (timB 2) 8)).payload 0 = 2 ∧ (asking.bport 0).reqT1 ≠ none := by
  refine ⟨tagged_taken _ _ _ ?_ ?_ ?_ ?_ ?_ ?_ ?_ ?_ ?_, ?_, ?_, ?_⟩ <;> decide +kernel
theorem wit_BearingKeys_rekey : bup.takesFrame 0 (tagged (rekB 4) 8) ∧ (brgParse (tagged (rekB 4) 8)).cls = 2 ∧
    (brgParse (tagged (rekB 4) 8)).channel = 15 ∧ byteAt (brgParse (tagged (rekB 4) 8)).payload 0 = 4 ∧ (bup.bport 0).rekey = false ∧
    leNat (slice (brgParse (tagged (rekB 4) 8)).payload 1 2) = (bup.get (BRG_PORT_STATUS_EPOCH 0) + 1) % 65536 := by
  refine ⟨tagged_taken _ _ _ ?_ ?_ ?_ ?_ ?_ ?_ ?_ ?_ ?_, ?_, ?_, ?_, ?_, ?_⟩ <;> decide +kernel
theorem wit_BearingKeys_ack : acking.takesFrame 0 (tagged (rekB 5) 8) ∧ (brgParse (tagged (rekB 5) 8)).cls = 2 ∧
    (brgParse (tagged (rekB 5) 8)).channel = 15 ∧ byteAt (brgParse (tagged (rekB 5) 8)).payload 0 = 5 ∧ (acking.bport 0).rekey = true ∧
    leNat (slice (brgParse (tagged (rekB 5) 8)).payload 1 2) = (acking.get (BRG_PORT_STATUS_EPOCH 0) + 1) % 65536 := by
  refine ⟨tagged_taken _ _ _ ?_ ?_ ?_ ?_ ?_ ?_ ?_ ?_ ?_, ?_, ?_, ?_, ?_, ?_⟩ <;> decide +kernel

/-- A HELLO of part 6, under the link key, and one where this part has no link key. -/
def helB : List Byte := [0x8F, 0, 6, 1, 0, 0, 16, 0, 0, 0, 0, 0, 1, 6, 3, 0] ++ zeros 12
def hello : List Byte := sealF helB ((aesCmac (zeros 16) helB).take 8)
theorem hello_body : (brgParse hello).body = helB := seal_body _ _ (by decide +kernel)
theorem hello_tag : (brgParse hello).tag = (aesCmac (zeros 16) helB).take 8 := seal_tag _ _ (by decide +kernel) (by decide +kernel)
theorem wit_BearingKeys_hello : (brg 1 1 2).portState 0 = 2 ∧ (brgParse hello).crcOk = true ∧ (brgParse hello).formOk = true ∧
    (brgParse hello).control 1 = true ∧ (brg 1 1 2).helloTag (brgParse hello).body = some (brgParse hello).tag ∧
    byteAt (brgParse hello).payload 1 ≠ (brg 1 1 2).ownId ∧ byteAt (brgParse hello).payload 1 < 64 ∧ byteAt (brgParse hello).payload 2 < 4 := by
  refine ⟨?_, seal_crc _ _ ?_, ?_, ?_, ?_, ?_, ?_, ?_⟩
  case refine_5 =>
    rw [hello_body, hello_tag, State.helloTag, show (brg 1 1 2).brgKey ((brg 1 1 2).get BRG_KEY_CFG_LINK_SLOT) = some (zeros 16) by decide +kernel]
    rfl
  all_goals decide +kernel
def noKey : State := (brg 1 1 2).withCph { (brg 1 1 2).cph with slots := Vector.replicate 64 Slot.erased }
theorem wit_BearingKeys_wrong : noKey.brgOn = true ∧ noKey.portState 0 = 2 ∧ noKey.helloTag (brgParse hello).body ≠ some (brgParse hello).tag := by
  have n : noKey.brgKey (noKey.get BRG_KEY_CFG_LINK_SLOT) = none := by decide +kernel
  refine ⟨by decide +kernel, by decide +kernel, ?_⟩
  rw [State.helloTag, n]
  exact fun h => nomatch h

/-! ### A login response that matches -/

theorem wit_MonitorLoginAndControlLevel_pass : ∃ bytes, (chal mon 0).monReady = true ∧ (chal mon 0).cph.challenge ≠ [] ∧
    (chal mon 0).bit MON_STATUS_LOCKED = false ∧ (chal mon 0).cphHold = false ∧ ((chal mon 0).slot 63).valid = true ∧ (chal mon 0).loginPass bytes = true := by
  refine ⟨(chal mon 0).loginExpected, by decide +kernel, by decide +kernel, by decide +kernel, by decide +kernel, by decide +kernel, ?_⟩
  rw [State.loginPass, show (chal mon 0).cph.challenge.isEmpty = false by decide +kernel, show ((chal mon 0).slot 63).valid = true by decide +kernel]
  exact beq_self_eq_true _

/-! ### The cipher engine -/

theorem wit_CipherRequests_1 : chk (ctrSlot.commandOk m2 (D_CMD 3) && (dir ctrSlot (req 1)).cph.directs.any (·.page == 3))
  (execDGo (.bus m2) 3 0x01070000 (dir ctrSlot (req 1)))
    (fun t => t.bit (D_STATUS_BUSY_GO 3) && t.cph == (dir ctrSlot (req 1)).cph) = true := by decide +kernel
theorem wit_CipherRequests_2 : chk (ctrSlot.dev != .draining && !ctrSlot.cph.directs.any (·.page == 3) && ctrSlot.cphCheck
  (ctrSlot.plainGo 3 1 7) == none) (execDGo (.bus m2) 3 0x01070000 ctrSlot)
    (fun t => t.bit (D_STATUS_BUSY 3) && t.cph.directs == [req 1]) = true := by decide +kernel
theorem wit_CipherRequests_3 : chk (ctrSlot.cphCheck (ctrSlot.plainGo 3 1 63) == some (stFormat, 5)) (execDGo (.bus m2) 3 0x013F0000 ctrSlot)
    (fun t => t.bit (D_STATUS_DONE 3) && !t.bit (D_STATUS_BUSY 3) && t.get (D_STATUS_STATUS 3) == stFormat && t.get
      (D_STATUS_REASON 3) == 5) = true := by decide +kernel
theorem wit_CipherRequests_4 : chk ((dir ctrSlot (req 1)).cph.directs.find? (·.page == 3) == some (req 1) && (req 1).direct &&
  (req 1).dp == 0) (execDCancel (.bus m2) 3 (dir ctrSlot (req 1)))
    (fun t => t.bit (D_STATUS_DONE 3) && t.get (D_STATUS_STATUS 3) == stCancelled && t.cph.directs == []) = true := by decide +kernel
theorem wit_CipherRequests_5 : chk ((dir ctrSlot { req 1 with dp := 1 }).cph.directs.any (·.dp != 0)) (execDCancel (.bus m2) 3
  (dir ctrSlot { req 1 with dp := 1 }))
    (fun t => t.cph.directs == [{ req 1 with dp := 1, late := true }]) = true := by decide +kernel
theorem wit_CipherRequests_6 :
    (descr.commandOk m2 (Q_CMD 3) && (que (descr.put (PAGE_CFG_QUOTA 3) 1) (req 1)).pageQuota 3 ≤
  (que descr (req 1)).pageQueued 3) = true := by decide +kernel
theorem wit_CipherRequests_7 : chk (descr.queueUsed < 64 && descr.pageQueued 3 < descr.pageQuota 3 && descr.cphCheck
  (descr.descriptor 3) == none) (execQSubmit (.bus m2) 3 0 descr)
    (fun t => t.get (Q_SUBMIT_STATUS_RESULT 3) == 1 && t.cph.queue == [descr.descriptor 3]) = true := by decide +kernel
theorem wit_CipherRequests_8 :
    (cph.queueUsed < 64 && cph.pageQueued 3 < cph.pageQuota 3 && cph.cphCheck
  (cph.descriptor 3) != none) = true := by decide +kernel
theorem wit_CipherRequests_9 :
    (ctrSlot.commandOk m2 (Q_CMD 3) && (que ctrSlot (req 1)).cph.queue.any (fun r => r.page == 3 &&
  r.tag == 0 && !r.direct && r.dp == 0)) = true := by decide +kernel
theorem wit_CipherRequests_10 : chk ((que ctrSlot { req 1 with dp := 2 }).cph.queue.any (·.dp != 0)) (execQCancel (.bus m2) 3 0
  (que ctrSlot { req 1 with dp := 2 }))
    (fun t => t.cph.queue == [{ req 1 with direct := false, dp := 2, late := true }]) = true := by decide +kernel
theorem wit_CipherRequests_11 : chk ((dir ctrSlot (req 1)).engineOn && !(dir ctrSlot (req 1)).cphHold && (dir ctrSlot
  (req 1)).cphNext == some (req 1) && (dir ctrSlot (req 1)).cphBusy == 0 && (dir ctrSlot (req 1)).cphCheck (req 1) == none &&
  !(req 1).genChk && (ctrSlot.slot 7).ctr != ctrMax 1) (execCphOpStart (dir ctrSlot (req 1)))
    (fun t => (t.slot 7).ctr == 10 && t.cph.directs == [ctrSlot.begun (req 1) 9]) = true := by decide +kernel
theorem wit_CipherRequests_12 : chk (((dir spentKey (req 1)).slot 7).ctr == ctrMax ((dir spentKey (req 1)).slot 7).ctrw &&
  (dir spentKey (req 1)).cphNext == some (req 1) && (dir spentKey (req 1)).cphCheck (req 1) == none) (execCphOpStart (dir spentKey
  (req 1)))
    (fun t => (t.slot 7).exhausted && t.cph.directs == []) = true := by decide +kernel
theorem wit_CipherRequests_13 : chk ((dir ctrSlot (req 2)).cphNext == some (req 2) && (dir ctrSlot (req 2)).cphCheck (req 2) == none)
  (execCphOpStart (dir ctrSlot (req 2)))
    (fun t => t.cph.slots == ctrSlot.cph.slots && t.cph.directs == [ctrSlot.begun (req 2) 0]) = true := by decide +kernel
theorem wit_CipherRequests_14 : chk (!ctrSlot.cphHold && (dir ctrSlot { req 2 with dp := 1 }).cph.directs.any
  (fun x => x.dp / 2 ^ 0 % 2 == 1 && x.direct && x.len == 0) && (cphCompute (ctrSlot.slot 7) 2 0
  (req 2).dIv [] [] [] 0).1 == stComplete && (cphCompute (ctrSlot.slot 7) 2 0 (req 2).dIv [] [] [] 0).2.1.length == 0)
  (execCphOpComplete 0 false false (dir ctrSlot { req 2 with dp := 1 }))
    (fun t => t.bit (D_STATUS_DONE 3) && t.get (D_STATUS_STATUS 3) == stComplete) = true := by decide +kernel
theorem wit_CipherRequests_15 :
    (ctrSlot.engineOn && (dir ctrSlot { req 2 with dp := 3, guard := true }).cph.directs.any
  (·.guard)) = true := by decide +kernel
theorem wit_CipherRequests_16 : chk (fifo.busTakes 2 && !fifo.pageHidden 2 (Q_CMP_LO 3) && fifo.cph.waiting == [] &&
  fifo.cph.fifos[3]?.getD [] == [(2 ^ 40 + 5, 9), (6, 1)]) (execQCmpPop 2 3 fifo)
    (fun t => t.busCode 2 == 0 && (t.busData 2).toNat == 5 && t.cph.fifos[3]?.getD [] == [(6, 1)] &&
      t.cph.helds[3]?.getD 0 == 2 ^ 40 + 5) = true := by decide +kernel
theorem wit_CipherRequests_17 : chk (!ctrSlot.cph.directs.any (·.page == 3)) (execDGo (.bus m2) 3 0x41070000 ctrSlot)
    (fun t => t.bit (D_STATUS_DONE 3) && t.get (D_STATUS_STATUS 3) == stCancelled && t.cph.directs == []) = true := by decide +kernel
theorem wit_CipherRequests_18 : chk (pctr.engineOn && pctr.portLive 5 && pctr.pagePort 3 && pctr.cphCheck (pageRequest 3 0x02070000 pbeats) == none) (execDGo (.fabric pbeats) 3 0x02070000 pctr)
    (fun t => t.bit (D_STATUS_BUSY 3) && t.cph.directs == [pageRequest 3 0x02070000 pbeats]) = true := by decide +kernel
theorem wit_CipherRequests_19 : chk (pctr.cphCheck (pageRequest 3 0x023F0000 pbeats) == some (stFormat, 5)) (execDGo (.fabric pbeats) 3 0x023F0000 pctr)
    (fun t => t.out.contains (.pageDone 3 stFormat 5 0) && t.cph.directs == []) = true := by decide +kernel
theorem wit_CipherRequests_20 : chk (pctr.pagePort 3 && (dir pctr (req 1)).cph.directs.find? (·.page == 3) == some (req 1)) (execDCancel .fabric 3 (dir pctr (req 1)))
    (fun t => t.cph.directs == [] && t.get (D_STATUS_STATUS 3) == stCancelled) = true := by decide +kernel
theorem wit_CipherRequests_21 : chk ((pdesc.engineOn && pdesc.portLive 5 && pdesc.pagePort 3) && pdesc.queueUsed < 64 && pdesc.pageQueued 3 < pdesc.pageQuota 3 && pdesc.cphCheck (pdesc.descriptorOf 3 dwords) == none) (execQSubmit (.stream dwords none) 3 0 pdesc)
    (fun t => t.get (Q_SUBMIT_STATUS_RESULT 3) == 1 && t.cph.queue == [pdesc.descriptorOf 3 dwords]) = true := by decide +kernel
theorem wit_CipherRequests_22 :
    ((pdesc.engineOn && pdesc.portLive 5 && pdesc.pagePort 3) && (que pdesc (req 1)).cph.queue.any (fun r => r.page == 3 && r.tag == 0 && !r.direct && r.dp == 0)) = true := by decide +kernel
theorem wit_CipherRequests_23 : (!ctrSlot.cphHold && (dir ctrSlot { req 2 with dp := 1, port := true }).cph.directs.any (fun x => x.dp / 2 ^ 0 % 2 == 1 && x.port && x.page == 3) && (cphCompute (ctrSlot.slot 7) 2 0 (req 2).dIv [] [] [] 0).1 == stComplete) = true := by decide +kernel

theorem wit_CipherSlotsAndClients_1 : chk (kd.dev != .draining && kd.commandOk m2 (K_CMD 3) && kd.released && kd.slotAllowed 3 62 &&
  !(kd.slot 62).valid) (execKWrite m2 3 guardKey 62 kd)
    (fun t => (t.slot 62).key == [1, 2, 3, 4] ++ zeros 12 && (t.slot 62).valid && (t.slot 62).modebind == 0x33 && t.get
      (K_STATUS_RESULT 3) == 0 && t.word (K_DATA 3 0) == 0) = true := by decide +kernel
theorem wit_CipherSlotsAndClients_2 : chk (ctrSlot.slotAllowed 3 7 && (ctrSlot.slot 7).valid) (execKWrite m2 3 guardKey 7 ctrSlot)
    (fun t => (t.slot 7).key == zeros 16 && (t.slot 7).shadow == some (ctrSlot.kBound 3 (zeros 16)) && t.get
      (K_STATUS_RESULT 3) == 2) = true := by decide +kernel
theorem wit_CipherSlotsAndClients_3 :
    (cph.slotAllowed 3 7 && !cph.bit CPH_STATUS_RNG_FAIL && !cph.cph.rngFails && !(cph.slot 7).valid) = true := by decide +kernel
theorem wit_CipherSlotsAndClients_4 : chk (rng.bit CPH_STATUS_RNG_FAIL && rng.slotAllowed 3 7) (execKRandom m2 3 guardKey 7 rng)
    (fun t => t.cph == rng.cph && t.get (K_STATUS_RESULT 3) == 1) = true := by decide +kernel
theorem wit_CipherSlotsAndClients_5 :
    (parent.parentOk 3 8 && !(parent.slot 7).valid && parent.slotAllowed 3 7 && parent.commandOk m2 (K_CMD 3)) = true := by decide +kernel
theorem wit_CipherSlotsAndClients_6 : chk (!cph.parentOk 3 8 && cph.slotAllowed 3 7) (execKDerive m2 3 guardKey 8 7 cph)
    (fun t => t.cph == cph.cph && t.get (K_STATUS_RESULT 3) == 1) = true := by decide +kernel
theorem wit_CipherSlotsAndClients_7 : chk (ctrSlot.slotAllowed 3 7) (execKErase m2 3 guardKey 7 ctrSlot)
    (fun t => t.slot 7 == Slot.erased && t.get (K_STATUS_RESULT 3) == 0) = true := by decide +kernel
theorem wit_CipherSlotsAndClients_8 : chk (cph.commandOk m2 (K_CMD 3) && !cph.slotAllowed 3 63) (execKWrite m2 3 guardKey 63 cph)
    (fun t => t.cph == cph.cph && t.get (K_STATUS_RESULT 3) == 1) = true := by decide +kernel
theorem wit_CipherSlotsAndClients_9 : chk (!(ctrSlot.clr FAB_STATUS_RELEASED).released &&
  (ctrSlot.clr FAB_STATUS_RELEASED).commandOk m2 (K_CMD 3)) (execKErase m2 3 guardKey 7 (ctrSlot.clr FAB_STATUS_RELEASED))
    (fun t => t.cph == ctrSlot.cph && t.get (K_STATUS_RESULT 3) == 1) = true := by decide +kernel
theorem wit_CipherSlotsAndClients_10 : chk ((shad.slot 7).shadow.isSome && !shad.inFlight 7) (execShadowTakeEffect 7 shad)
    (fun t => (t.slot 7).key == zeros 32 && (t.slot 7).gen == 0 && (t.slot 7).ctr == 0 && (t.slot 7).shadow == none &&
      t.lineLevel 150) = true := by decide +kernel
theorem wit_CipherSlotsAndClients_11 : (ctrSlot.commandOk (Acc.whole 13) CPH_ZERO) = true := by decide +kernel
theorem wit_CipherSlotsAndClients_12 : chk (cph.engineOn) (execRngHealthFail 1 cph)
    (fun t => t.bit CPH_STATUS_RNG_FAIL && t.cph.rngFails && t.bit (pendingFld 27) && t.lineLevel 149) = true := by decide +kernel
theorem wit_CipherSlotsAndClients_13 : chk (cph.engineOn) (execSlotCheck 63 7 0 cph)
    (fun t => t.cph == cph.cph) = true := by decide +kernel
theorem wit_CipherSlotsAndClients_14 : chk (ctrSlot.engineOn) (execSlotCheck 7 0 1 ctrSlot)
    (fun t => t.cph == ctrSlot.cph && t.get GRD_LAST_N == 28 && t.get GRD_LAST_INSTANCE == 7) = true := by decide +kernel
theorem wit_CipherSlotsAndClients_15 : chk (ctrSlot.engineOn) (execSlotCheck 7 0 2 ctrSlot)
    (fun t => t.slot 7 == Slot.erased && t.bit (pendingFld 29)) = true := by decide +kernel
theorem wit_CipherSlotsAndClients_16 :
    (gcm.released && gcm.lmdSlotOk 7 && mbAllows (gcm.slot 7).modebind 1 && mbMode (gcm.slot 7).modebind == 4 && (gcm.slot 7).valid &&
      (gcm.slot 7).ctr != ctrMax (gcm.slot 7).ctrw) = true := by decide +kernel
theorem wit_CipherSlotsAndClients_17 : chk (!cph.lmdSlotOk 7) (execGcmMask true 7 [] cph)
    (fun t => t.cph == cph.cph && t.out == [.unit 10 7 [stPageDenied]]) = true := by decide +kernel
theorem wit_CipherSlotsAndClients_18 : (cph.released && !cph.bit CPH_STATUS_RNG_FAIL && !cph.cph.rngFails) = true := by decide +kernel
theorem wit_CipherSlotsAndClients_19 : chk (rng.released && rng.bit CPH_STATUS_RNG_FAIL) (execHelloSeed rng)
    (fun t => t.out == [.unit 10 64 [stPageDenied, 7]]) = true := by decide +kernel
theorem wit_CipherSlotsAndClients_20 :
    ((login.slot 63).valid && !login.bit CPH_STATUS_RNG_FAIL && !login.cph.rngFails) = true := by decide +kernel
theorem wit_CipherSlotsAndClients_21 : chk (!cph.loginPass []) (execLoginResponse [] cph)
    (fun t => t.cph.challenge == [] && t.out.contains (.unit 10 63 [0])) = true := by decide +kernel
theorem wit_CipherSlotsAndClients_22 : chk (cph.dev != .draining) (execChallengeExpiry
  (cph.withCph { cph.cph with challenge := zeros 16 }))
    (fun t => t.cph.challenge == []) = true := by decide +kernel
theorem wit_CipherSlotsAndClients_23 : chk ((gcm.set (PLL_STATUS_MUTED 7)).cphHold && gcm.engineOn) (execGcmMask true 7 [] (gcm.set (PLL_STATUS_MUTED 7)))
    (fun t => t.cph == gcm.cph && t.out == []) = true := by decide +kernel

/-! ### Samplers -/

theorem wit_SamplersSoundAndStandIn_1 : chk ((trim 1 2 2 est1).smpOn true && (trim 1 2 2 est1).spllOk &&
  (trim 1 2 2 est1).smpStep true == 1 && !(trim 1 2 2 est1).windowBad true false 250) (execSoundWindowEnd true est1 false 250 (trim 1 2 2 est1))
    (fun t => t.rot true == { pos := 1, ests := [est1, est1, est1], wins := 3, power := some 250, att := false }) = true := by decide +kernel
theorem wit_SamplersSoundAndStandIn_2 : chk ((trim 3 2 2 est1).smpStep true == 3 && (trim 3 2 2 est1).windowBad true true 250) (execSoundWindowEnd true est1 true 250 (trim 3 2 2 est1))
    (fun t => t.rot true == { pos := 1, ests := [est1, est1], wins := 3, power := some 250, att := false } && t.lineLevel 165 &&
      t.get SMP_SKIP_COUNT_COUNT == 1) = true := by decide +kernel
theorem wit_SamplersSoundAndStandIn_3 : chk (decide (((trim 1 4 4 est1).rot true).pos < smpPositions true) &&
  (trim 1 4 4 est1).trimWindows ≤ ((trim 1 4 4 est1).rot true).ests.length && coefInLimits (meanSet ((trim 1 4 4 est1).rot true).ests
  (trim 1 4 4 est1).draw) && !(trim 1 4 4 est1).chainRamp (smpChain true 1)) (execTrimStepEnd true (trim 1 4 4 est1))
    (fun t => t.coefSet (setIndex true true 1) == est1 && t.serving true 1 == 4 && t.smpStep true == 3 &&
      t.lineLevel 161) = true := by decide +kernel
theorem wit_SamplersSoundAndStandIn_4 : chk (!coefInLimits (meanSet ((trim 1 4 4 estBad).rot true).ests (trim 1 4 4 estBad).draw) &&
  !(trim 1 4 4 estBad).faulty 4) (execTrimStepEnd true (trim 1 4 4 estBad))
    (fun t => t.faulty 4 && t.smpStep true == 0 && t.smp.sets == (trim 1 4 4 estBad).smp.sets) = true := by decide +kernel
theorem wit_SamplersSoundAndStandIn_5 : chk (((trim 1 2 16 est1).rot true).ests.length < (trim 1 2 16 est1).trimWindows && decide (4 *
  (trim 1 2 16 est1).trimWindows ≤ ((trim 1 2 16 est1).rot true).wins)) (execTrimStepEnd true (trim 1 2 16 est1))
    (fun t => t.smp.sets == (trim 1 2 16 est1).smp.sets && t.lineLevel 161) = true := by decide +kernel
theorem wit_SamplersSoundAndStandIn_6 : chk (((ramping [(5, 7, est1, 3)]).rampOf 5) == some
  (5, 7, est1, 3)) (execHandoverRampEnd 5 (ramping [(5, 7, est1, 3)]))
    (fun t => t.serving false 1 == 2) = true := by decide +kernel
theorem wit_SamplersSoundAndStandIn_7 : chk (((ramping [(0, 0, est1, 3), (0, 4, est1, 5)]).rampOf 0) == some
  (0, 4, est1, 5)) (execHandoverRampEnd 0 (ramping [(0, 0, est1, 3), (0, 4, est1, 5)]))
    (fun t => t.serving true 0 == 4) = true := by decide +kernel
theorem wit_SamplersSoundAndStandIn_8 : chk ((dep 0).smpOn true && (dep 0).spllOk && (dep 0).get SMP_FAULT_FAULTY == 0 &&
  (dep 0).smp.forced == 0 && (dep 0).smp.departs == 0 && (List.range 5).all fun j => !(dep 0).monitored true j || (off3[j]?).bind ((dep 0).departCause true off3) == if j = 3 then some 2 else none) (execMonitorWindowEnd true off3 false (dep 0))
    (fun t => t.smp.departs == 8 && !t.faulty 3) = true := by decide +kernel
theorem wit_SamplersSoundAndStandIn_9 : chk ((dep 8).smpOn true && (dep 8).get SMP_FAULT_FAULTY == 0 && (dep 8).smp.departs == 8 && (off3[3]?).bind ((dep 8).departCause true off3) == some 2)
  (execMonitorWindowEnd true off3 false (dep 8))
    (fun t => t.faulty 3 && t.get SMP_FAULT_FIRST == 3 && t.get SMP_FAULT_CAUSE == 2 && t.serving true 3 == 4 &&
      t.get GRD_LAST_N == 30 && t.lineLevel 160) = true := by decide +kernel
theorem wit_SamplersSoundAndStandIn_10 : chk ((stg 5).commandOk m0 SMP_COEF_CMD && coefInLimits (stg 5).staged)
  (execSmpApply m0 guardKey 11 (stg 5))
    (fun t => t.coefSet 11 == est1) = true := by decide +kernel
theorem wit_SamplersSoundAndStandIn_11 : chk ((stg 3000).commandOk m0 SMP_COEF_CMD && !coefInLimits (stg 3000).staged)
  (execSmpApply m0 guardKey 0 (stg 3000))
    (fun t => t.smp == (stg 3000).smp && t.bit SMP_STATUS_APPLY_REFUSED && t.lineLevel 169) = true := by decide +kernel
theorem wit_SamplersSoundAndStandIn_12 : chk (set6.commandOk m0 SMP_COEF_CMD) (execSmpLoad m0 guardKey 6 set6)
    (fun t => t.get SMP_STAGE_OFFSET_VALUE == 5 && t.get SMP_STAGE_GAIN_VALUE == 131072 && t.get SMP_STAGE_SKEW_VALUE == 65529 &&
      t.get SMP_STAGE_BW_VALUE == 3 && t.smp == set6.smp) = true := by decide +kernel
theorem wit_SamplersSoundAndStandIn_13 : chk (rad.commandOk m0 SMP_COEF_CMD && !rad.faulty 7) (execSmpForceFault m0 guardKey 7 rad)
    (fun t => t.smp.forced == 0x80) = true := by decide +kernel
theorem wit_SamplersSoundAndStandIn_14 : chk (dac.radioOn && dac.spllOk && bitsOf (dac.word SMP_CFG) 3 1 == 1 && bitsOf
  (dac.word SMP_CFG) 5 1 == 1) (execDacUnderrun 1 dac)
    (fun t => t.out == [.dac 1 0] && t.lineLevel 168 && t.get SMP_DAC_UNDER_COUNT == 1) = true := by decide +kernel
theorem wit_SamplersSoundAndStandIn_15 : (rawOn.smpOn true && rawOn.spllOk && rawOn.bit SMP_CFG_RAW_EN && rawOn.portLive 0) = true ∧
    rawOn.streamRoom rawPort 1024 = true :=
  ⟨by decide +kernel, decide_eq_true (Nat.le_trans (by decide : 1024 ≤ 1024) (Nat.le_add_right _ _))⟩
theorem wit_SamplersSoundAndStandIn_16 : chk (rawOn.smpOn true && rawOn.spllOk && rawOn.bit SMP_CFG_RAW_EN)
  (execSmpStreamUnit true true false rawOn)
    (fun t => t.out == [] && t.str == rawOn.str && t.get SMP_DROPS_COUNT == 1) = true := by decide +kernel
theorem wit_SamplersSoundAndStandIn_17 : chk ((powered 250).smpStep true == 1 && !(powered 250).windowBad true false 550) (execSoundWindowEnd
  true est1 false 550 (powered 250))
    (fun t => (t.rot true).ests.length == 3 && (t.rot true).power == some 550) = true := by decide +kernel
theorem wit_SamplersSoundAndStandIn_18 : chk ((powered 250).windowBad true false 551) (execSoundWindowEnd true est1 false 551 (powered 250))
    (fun t => (t.rot true).ests.length == 2 && t.lineLevel 165) = true := by decide +kernel

/-! ### The channelizer -/

theorem wit_DdcTuneSwapHopAndStream_1 : chk ((dHop 0 0).commandOk m0 (DDC_CMD 2) && !(dHop 0 0).bit (DDC_CFG_OWNER 2) &&
  (dHop 0 0).bit (DDC_STATUS_HOPPING 2)) (execDdcRetune m0 2 0 (dHop 0 0))
    (fun t => t.bit (DDC_STATUS_RETUNE_DROP 2) && t.ddc == (dHop 0 0).ddc) = true := by decide +kernel
theorem wit_DdcTuneSwapHopAndStream_2 : chk ((dPlain.putWord (DDC_FREQ 2) 99).commandOk m0 (DDC_CMD 2) && !dPlain.bit
  (DDC_STATUS_HOPPING 2) && !(dPlain.dd 2).dirty && (dPlain.dd 2).latched == none) (execDdcRetune m0 2 0 (dPlain.putWord (DDC_FREQ 2) 99))
    (fun t => (t.dd 2).latched == some (99, false, false) && t.bit (DDC_STATUS_RETUNE_PEND 2)) = true := by decide +kernel
theorem wit_DdcTuneSwapHopAndStream_3 : chk ((dDirty.putWord (DDC_DEC 2) 0).commandOk m0 (DDC_CMD 2) && (dDirty.dd 2).dirty &&
  !(dDirty.putWord (DDC_DEC 2) 0).ddcLimitsOk 2) (execDdcRetune m0 2 0 (dDirty.putWord (DDC_DEC 2) 0))
    (fun t => t.bit (DDC_STATUS_LIMIT_REFUSED 2) && t.ddc == dDirty.ddc) = true := by decide +kernel
theorem wit_DdcTuneSwapHopAndStream_4 : chk (dPlain.commandOk m0 (DDC_CMD 2)) (execDdcSwap m0 2 0 dPlain)
    (fun t => t.bit (DDC_STATUS_SWAP_PEND 2)) = true := by decide +kernel
theorem wit_DdcTuneSwapHopAndStream_5 :
    (dScs.commandOk m0 (DDC_CMD 2) && dScs.ddcRunning 2 && cfgScs (dScs.dd 2).cfg && !dScs.bit
  (DDC_STATUS_HOPPING 2)) = true := by decide +kernel
theorem wit_DdcTuneSwapHopAndStream_6 : chk ((dHop 1 0).bit (DDC_STATUS_HOPPING 2)) (execDdcHopStop m0 2 0 (dHop 1 0))
    (fun t => (t.dd 2).hopStop && t.bit (DDC_STATUS_HOPPING 2)) = true := by decide +kernel
theorem wit_DdcTuneSwapHopAndStream_7 :
    ((dLat.dd 2).latched == some (4242, false, false) && dLat.ddcRunning 2) = true := by decide +kernel
theorem wit_DdcTuneSwapHopAndStream_8 :
    ((dSwap 0x02070100).bit (DDC_STATUS_SWAP_PEND 2) &&
  ((dSwap 0x02070100).dd 2).latched == none && decOk (decD ((dSwap 0x02070100).dd 2).dec) (decTaps ((dSwap 0x02070100).word
  (DDC_DEC 2))) false) = true := by decide +kernel
theorem wit_DdcTuneSwapHopAndStream_9 : chk (!decOk (decD ((dSwap 0x1FF70100).dd 2).dec) (decTaps ((dSwap 0x1FF70100).word
  (DDC_DEC 2))) false) (execSwapApply 2 (dSwap 0x1FF70100))
    (fun t => t.bit (DDC_STATUS_LIMIT_REFUSED 2) && !t.bit (DDC_STATUS_ACTIVE_BANK 2) && t.ddc == dPlain.ddc) = true := by decide +kernel
theorem wit_DdcTuneSwapHopAndStream_10 : chk ((dHop 0 0x100).auxOf 2 == none && !((dHop 0 0x100).dd 2).hopStop && (dHop 0 0x100).get
  (DDC_STATUS_HOP_IDX 2) < bitsOf ((dHop 0 0x100).dd 2).hopCfg 8 4) (execHopAdvance 2 (dHop 0 0x100))
    (fun t => t.get (DDC_STATUS_HOP_IDX 2) == 1 && (t.dd 2).fw == 0x2000) = true := by decide +kernel
theorem wit_DdcTuneSwapHopAndStream_11 : chk (bitsOf ((dHop 1 0x1100).dd 2).hopCfg 12 1 == 1) (execHopAdvance 2 (dHop 1 0x1100))
    (fun t => !t.bit (DDC_STATUS_HOPPING 2) && t.lineLevel 187) = true := by decide +kernel
theorem wit_DdcTuneSwapHopAndStream_12 : chk (bitsOf ((dHop 1 0x100).dd 2).hopCfg 12 1 == 0) (execHopAdvance 2 (dHop 1 0x100))
    (fun t => t.get (DDC_STATUS_HOP_IDX 2) == 0 && t.bit (DDC_STATUS_HOPPING 2) && t.lineLevel 187) = true := by decide +kernel
theorem wit_DdcTuneSwapHopAndStream_13 :
    (dUnit.ddcRunning 2 && bitsOf (dUnit.dd 2).cfg 28 1 == 1 && decide (0 < (dUnit.dd 2).step) && decide (0 < dUnit.unitLen 2) &&
      decide ((dUnit.dd 2).part ≤ dUnit.unitLen 2 * (dUnit.dd 2).step) && (dUnit.dd 2).words.length == (dUnit.dd 2).part / (dUnit.dd 2).step &&
      dUnit.portLive 1 && dUnit.streamRoom (ddcPort 2) (dUnit.unitLen 2)) = true := by decide +kernel
theorem wit_DdcTuneSwapHopAndStream_14 : (dFull.ddcRunning 2 && bitsOf (dFull.dd 2).cfg 28 1 == 1 && decide (0 < (dFull.dd 2).step) &&
      decide (0 < dFull.unitLen 2) && decide ((dFull.dd 2).part ≤ dFull.unitLen 2 * (dFull.dd 2).step) &&
      (dFull.dd 2).words.length == (dFull.dd 2).part / (dFull.dd 2).step &&
      !dFull.streamRoom (ddcPort 2) (dFull.unitLen 2)) = true := by decide +kernel
theorem wit_DdcTuneSwapHopAndStream_15 : chk ((dPlain.withMask ((DDC_COEF 2 319, 0xFFFFFFFF) :: dPlain.mask)).commandOk m0
  (DDC_COEF 2 319) && (dPlain.withMask ((DDC_COEF 2 319, 0xFFFFFFFF) :: dPlain.mask)).opened (DDC_COEF 2 319))
  (execCoefWrite m0 2 319 0xFFF12345 (dPlain.withMask ((DDC_COEF 2 319, 0xFFFFFFFF) :: dPlain.mask)))
    (fun t => t.coefRead 2 319 == 0x12345 && (t.dd 2).bankA == (dPlain.dd 2).bankA) = true := by decide +kernel
theorem wit_DdcTuneSwapHopAndStream_16 : chk (true) (execCoefWrite m0 2 0 5 ((dPlain.withMask [(DDC_COEF 2 0, 0xFFFFFFFF)]).set
  (DDC_STATUS_SWAP_PEND 2)))
    (fun t => t.bit (DDC_STATUS_COEF_DROP 2) && t.ddc == dPlain.ddc) = true := by decide +kernel
theorem wit_DdcTuneSwapHopAndStream_17 : chk (dPlain.radioOn) (execTableCheck (.ddc 7) 3 false dPlain)
    (fun t => t.get GRD_LAST_N == 32 && t.get GRD_LAST_INSTANCE == 7) = true := by decide +kernel
theorem wit_DdcTuneSwapHopAndStream_18 : chk (dPlain.radioOn) (execTableCheck (.ddc 0) 3 true dPlain)
    (fun t => t.bit (pendingFld 33) && t.get GRD_LAST_N == 33) = true := by decide +kernel
theorem wit_DdcTuneSwapHopAndStream_19 : chk (dPlain.radioOn) (execTableCheck .lmdMask 3 true dPlain)
    (fun t => t.bit (pendingFld 38) && t.get GRD_LAST_N == 38) = true := by decide +kernel

/-! ### Broadcast contexts -/

theorem wit_BroadcastContexts_1 : chk (cam.ctxInput 1 && !cam.bit (CTX_STATUS_FLOOD 1) && ((cam.cx 1).flood.window (cam.get (CTX_FLOOD_FLOOD_IMP 1))
  (cam.get (CTX_FLOOD_FLOOD_DB 1)) 1000 1 0).1)
  (execFloodWindowEnd (.ctx 1) 1000 1 0 cam)
    (fun t => t.bit (CTX_STATUS_FLOOD 1) && t.bit (CTX_STATUS_FLOOD_SEEN 1) && t.lineLevel 197) = true := by decide +kernel
theorem wit_BroadcastContexts_2 : chk (floodOn.ctxInput 1 && floodOn.bit (CTX_STATUS_FLOOD 1) && (floodOn.cx 1).flood.over (floodOn.get (CTX_FLOOD_FLOOD_HOLD_S 1)))
  (execFloodClear (.ctx 1) floodOn)
    (fun t => !t.bit (CTX_STATUS_FLOOD 1) && t.lineLevel 197) = true := by decide +kernel
theorem wit_BroadcastContexts_3 : chk (cam.ctxInput 1 && cam.ctxMode 1 == 1) (execCarrierLock 1 cam)
    (fun t => t.bit (CTX_STATUS_LOCK 1)) = true := by decide +kernel
theorem wit_BroadcastContexts_4 : chk (carr.ctxInput 1 && carr.bit (CTX_STATUS_LOCK 1)) (execCarrierLockLoss 1 carr)
    (fun t => !t.bit (CTX_STATUS_LOCK 1) && t.bit (CTX_STATUS_LOCK_LOST 1)) = true := by decide +kernel
theorem wit_BroadcastContexts_5 : chk ((cpdRun (some (bitsOfWord 23 32778)) [] 0).ctxInput 1 && (cpdRun (some (bitsOfWord 23 32778)) [] 0).cpdOn 1 && 64 ≤ ((cpdRun (some (bitsOfWord 23 32778)) [] 0).cx 1).cpd.periods && (((cpdRun (some (bitsOfWord 23 32778)) [] 0).cx 1).cpd.frame).any (fun f => 8 * (cpdRun (some (bitsOfWord 23 32778)) [] 0).cpdBytes 1 + (cpdRun (some (bitsOfWord 23 32778)) [] 0).cpdCrcW 1 ≤ f.length + 1 &&
  (cpdRun (some (bitsOfWord 23 32778)) [] 0).cpdGood 1 (f ++ [(cpdRun (some (bitsOfWord 23 32778)) [] 0).bitOfPeriod 1 p1])) && (cpdRun (some (bitsOfWord 23 32778)) [] 0).sideFits 1 ((cpdRun (some (bitsOfWord 23 32778)) [] 0).cpdBytes 1))
  (execCpdFrame 1 [p1] true (cpdRun (some (bitsOfWord 23 32778)) [] 0))
    (fun t => !t.bit (CTX_STATUS_CPD_SYNC 1) && (t.strm sidePort).buf.length == 3 && t.get (CTX_UNITS_COUNT 1) == 1) = true := by decide +kernel
theorem wit_BroadcastContexts_6 : chk ((cpdRun (some (bitsOfWord 23 32778)) [] 0).ctxInput 1 && (cpdRun (some (bitsOfWord 23 32778)) [] 0).cpdOn 1 && 64 ≤ ((cpdRun (some (bitsOfWord 23 32778)) [] 0).cx 1).cpd.periods && (((cpdRun (some (bitsOfWord 23 32778)) [] 0).cx 1).cpd.frame).any (fun f => 8 * (cpdRun (some (bitsOfWord 23 32778)) [] 0).cpdBytes 1 + (cpdRun (some (bitsOfWord 23 32778)) [] 0).cpdCrcW 1 ≤ f.length + 1 &&
  !(cpdRun (some (bitsOfWord 23 32778)) [] 0).cpdGood 1 (f ++ [(cpdRun (some (bitsOfWord 23 32778)) [] 0).bitOfPeriod 1 pX])))
  (execCpdFrame 1 [pX, p1] true (cpdRun (some (bitsOfWord 23 32778)) [] 0))
    (fun t => (t.strm sidePort).buf == [] && t.bit (CTX_STATUS_DROP 1) && t.get (CTX_DROP_CHECK_COUNT 1) == 1 && !t.bit (CTX_STATUS_CPD_SYNC 1)) = true := by decide +kernel
theorem wit_BroadcastContexts_7 : chk (rdsAll.ctxInput 1 && rdsAll.ctxMode 1 == 2 && !rdsAll.bit (CTX_CFG_RBDS 1) && (rdsGroupOf false (rb rdsOffsetA 0x1234) (rb rdsOffsetB 0xF800) (rb rdsOffsetC 1) (rb rdsOffsetD 2)).map (fun g => (g.a, g.b, g.c, g.d)) ==
  some (0x1234, 0xF800, 1, 2) && (rdsAll.cx 1).prev == none && bitsOf (rdsAll.word (CTX_RDS_FILTER 1)) 31 1 == 1 && rdsAll.sideFits 1 16)
  (execRdsGroup 1 (rb rdsOffsetA 0x1234) (rb rdsOffsetB 0xF800) (rb rdsOffsetC 1) (rb rdsOffsetD 2) true rdsAll)
    (fun t => (t.strm sidePort).buf.length == 4 && t.get (CTX_UNITS_COUNT 1) == 1) = true := by decide +kernel
theorem wit_BroadcastContexts_8 : chk (cfm.ctxInput 1 && cfm.ctxMode 1 == 2 && (rdsGroupOf (cfm.bit (CTX_CFG_RDS_CORR 1)) (rb rdsOffsetA 0x1234) badBlock (rb rdsOffsetC 1) (rb rdsOffsetD 2)).isNone)
  (execRdsGroup 1 (rb rdsOffsetA 0x1234) badBlock (rb rdsOffsetC 1) (rb rdsOffsetD 2) true cfm)
    (fun t => (t.strm sidePort).buf == [] && t.ctx == cfm.ctx && t.bit (CTX_STATUS_DROP 1) && t.get (CTX_DROP_CHECK_COUNT 1) == 1) = true := by decide +kernel
theorem wit_BroadcastContexts_9 : chk (cdrm.ctxInput 1 && cdrm.ctxMode 1 == 3 && cdrm.get (CTX_CFG_DRM_MODE 1) == 0)
  (execDrmLock 1 2 true cdrm)
    (fun t => t.bit (CTX_STATUS_LOCK 1) && t.get (CTX_STATUS_DRM_DET 1) == 2) = true := by decide +kernel
theorem wit_BroadcastContexts_10 : chk (drmL.ctxInput 1 && drmL.drmOn 1 && drmL.sideFits 1 1 && (drmL.cx 1).prev == none)
  (execDrmFac 1 [7] 5 true true drmL)
    (fun t => (t.strm sidePort).buf.length == 3) = true := by decide +kernel
theorem wit_BroadcastContexts_11 : chk (drmL.drmOn 1)
  (execDrmFac 1 [7] 5 false true drmL)
    (fun t => (t.strm sidePort).buf == [] && t.bit (CTX_STATUS_DROP 1) && t.get (CTX_DROP_CHECK_COUNT 1) == 1) = true := by decide +kernel
theorem wit_BroadcastContexts_12 : chk (drmL.drmOn 1 && drmL.sideFits 1 2)
  (execDrmSdc 1 [1, 2] true none [] true drmL)
    (fun t => (t.strm sidePort).buf.length == 3) = true := by decide +kernel
theorem wit_BroadcastContexts_13 : chk (drmL.drmOn 1)
  (execDrmSdc 1 [1, 2] false none [] true drmL)
    (fun t => (t.strm sidePort).buf == [] && t.bit (CTX_STATUS_DROP 1)) = true := by decide +kernel
theorem wit_BroadcastContexts_14 : chk (drmL.drmOn 1 && drmL.sideFits 1 2)
  (execDrmMsc 1 [1, 2] true 10 true drmL)
    (fun t => (t.strm sidePort).buf.length == 3) = true := by decide +kernel
theorem wit_BroadcastContexts_15 : chk (drmL.drmOn 1)
  (execDrmMsc 1 [1, 2] true 11 true drmL)
    (fun t => (t.strm sidePort).buf == [] && t.bit (CTX_STATUS_DROP 1)) = true := by decide +kernel
theorem wit_BroadcastContexts_16 : chk (cfm.ctxInput 1 && cfm.ctxMode 1 == 2 && cfm.bit (CTX_CFG_AUDIO_EN 1) && cfm.portLive 1 && cfm.streamRoom (audioPort 1) 480)
  (execAudioUnit 1 false true cfm)
    (fun t => (t.strm (audioPort 1)).buf.length == 480) = true := by decide +kernel
theorem wit_BroadcastContexts_17 :
    (scanning.ctxInput 1 && scanning.bit (CTX_CFG_SCAN_EN 1) && (scanning.scan.find? fun (p : Nat × Nat) => p.2 == 1 &&
  !scanning.bit (DDC_STATUS_HOPPING p.1)).isSome) = true := by decide +kernel
theorem wit_BroadcastContexts_18 : chk (afs.ctxInput 1 && !afs.bit (CTX_STATUS_LOCK 1) && !afs.bit (CTX_STATUS_FLOOD 1) && (afs.cx 1).prev == none &&
  afs.bestAf 1 == some 9 && !afs.bit (CTX_CFG_AF_AUTO 1))
  (execAfLossTimeout 1 afs)
    (fun t => (t.word (CTX_AF_PROPOSED 1)).toNat == 101000000 && t.lineLevel 198) = true := by decide +kernel
theorem wit_BroadcastContexts_19 : chk (ident.ctxInput 1 && (ident.cx 1).prev == some (some 99000000, 9) && ident.bit
  (CTX_STATUS_IDENT_WAIT 1)) (execIdentTimeout 1 ident)
    (fun t => !t.bit (CTX_STATUS_IDENT_WAIT 1) && t.bit (CTX_AFE_BAD 1 9) && (t.cx 1).afHz == some 99000000 &&
      (t.cx 1).prev == none) = true := by decide +kernel
theorem wit_BroadcastContexts_20 : chk ((afs.set (CTX_AFE_BAD 1 31)).ctxInput 1) (execAfBadExpiry 1 31 (afs.set (CTX_AFE_BAD 1 31)))
    (fun t => !t.bit (CTX_AFE_BAD 1 31) && t.ctx == afs.ctx) = true := by decide +kernel
theorem wit_BroadcastContexts_21 : chk (carr.ctxInput 1 && carr.get FIX_BCD_CFG_CTX == 1 && carr.bit (CTX_STATUS_LOCK 1) && !carr.bit (CTX_STATUS_FLOOD 1) &&
  !(carr.cx 1).ivalBad)
  (execCarrierIntervalEnd 1 297000000 1000 10 carr)
    (fun t => t.get (CTX_LAST_EPS_EPS 1) == 256 && t.lineLevel 208) = true := by decide +kernel
theorem wit_BroadcastContexts_22 : chk (carr.ctxInput 1 && 999 < 100 * 10)
  (execCarrierIntervalEnd 1 297000000 999 10 carr)
    (fun t => t.get (CTX_LAST_EPS_EPS 1) == 0) = true := by decide +kernel
theorem wit_BroadcastContexts_23 : chk ((cfm.set (CTX_CFG_STEREO_EN 1)).ctxInput 1 && cfm.ctxMode 1 == 2)
  (execFmLock 1 true true (cfm.set (CTX_CFG_STEREO_EN 1)))
    (fun t => t.bit (CTX_STATUS_LOCK 1) && t.bit (CTX_STATUS_STEREO 1)) = true := by decide +kernel
theorem wit_BroadcastContexts_24 : chk ((cpdRun none (List.replicate 31 (some false)) 0).ctxInput 1 && (cpdRun none (List.replicate 31 (some false)) 0).cpdOn 1 && ((cpdRun none (List.replicate 31 (some false)) 0).cx 1).cpd.frame == none && !(cpdRun none (List.replicate 31 (some false)) 0).bit (CTX_STATUS_CPD_SYNC 1) && (cpdRun none (List.replicate 31 (some false)) 0).syncLen 1 == 32 &&
  syncDiff ((cpdRun none (List.replicate 31 (some false)) 0).word (CTX_CPD_SYNC 1)) 32 ((cpdRun none (List.replicate 31 (some false)) 0).bitOfPeriod 1 p0 :: ((cpdRun none (List.replicate 31 (some false)) 0).cx 1).cpd.bits) == 0)
  (execCpdSyncDetect 1 [p0, p1] (cpdRun none (List.replicate 31 (some false)) 0))
    (fun t => t.bit (CTX_STATUS_CPD_SYNC 1) && (t.cx 1).cpd.frame == some [] && (t.cx 1).syncDiffs == 0) = true := by decide +kernel
theorem wit_BroadcastContexts_25 : chk (rdsAll.ctxInput 1 && (rdsGroupOf false (rb rdsOffsetA 0x1234) (rb rdsOffsetB 0x4001) (rb rdsOffsetC 54999) (rb rdsOffsetD 0x7EC0)).map (fun g => (g.b, g.c, g.d)) == some (0x4001, 54999, 0x7EC0) && 0x4001 / 2048 == 8 &&
  40587 ≤ 0x4001 % 4 * 32768 + 54999 / 2 && 54999 % 2 * 16 + 0x7EC0 / 4096 ≤ 23 && 0x7EC0 / 64 % 64 ≤ 59) (execRdsGroup 1 (rb rdsOffsetA 0x1234) (rb rdsOffsetB 0x4001) (rb rdsOffsetC 54999) (rb rdsOffsetD 0x7EC0) true rdsAll)
    (fun t => t.out.contains (.timeMsg 1 ((32768 + 27499 - 40587) * 86400 + 23 * 3600 + 59 * 60) 0)) = true := by decide +kernel
theorem wit_BroadcastContexts_26 : chk ((sideFull drmL).drmOn 1 && (sideFull drmL).bit (CTX_CFG_SIDE_EN 1) && !(sideFull drmL).sideFits 1 2) (execDrmMsc 1 [1, 2] true 0 true (sideFull drmL))
    (fun t => (t.strm sidePort).buf.length == 2046 && t.get (CTX_DROP_STREAM_COUNT 1) == 1) = true := by decide +kernel
theorem wit_BroadcastContexts_27 :
    (scanning.ctxInput 1 && !scanning.bit (CTX_STATUS_FLOOD 1) && (scanning.cx 1).prev == none && scanning.bestAf 1 == some 9 && !scanning.bit (CTX_CFG_AF_AUTO 1) &&
  (scanning.useLevel 1).2 != 0 && (((((scanning.cx 1).smooth 9).1 + scanning.get (CTX_AF_AF_MARGIN 1) * ((scanning.cx 1).smooth 9).2) *
    (scanning.useLevel 1).2 : Nat) : Int) ≤ (scanning.useLevel 1).1 * ((scanning.cx 1).smooth 9).2 && (scanning.cx 1).above == some (9, 2)) = true := by decide +kernel

/-! ### The line modem -/

theorem wit_ModemBursts_1 : chk ((txs 3 []).portLive 0 && (txs 3 []).radioOn && (txs 3 []).txSettled 1 && (txs 3 []).get (TX_STATUS_STATE 1) == 3 && !(txs 3 []).txTp 1 && ((txs 3 []).tx 1).queue.length < 8 &&
  (((txs 3 []).tx 1).queue.map (·.payload.length)).sum + 2047 ≤ 16384 && (txs 3 []).txRateOn 1 2)
  (execLmdTxSubmit 1 [1, 2] 2 7 (txs 3 []))
    (fun t => (t.tx 1).queue == [fr 7] && t.out == []) = true := by decide +kernel
theorem wit_ModemBursts_2 : chk ((txs 3 []).portLive 0 && (txs 3 []).radioOn && (txs 3 []).txSettled 1 && (txs 3 []).get (TX_STATUS_STATE 1) == 3 && !(txs 3 []).txTp 1 && ((txs 3 []).tx 1).queue.length < 8 &&
  (((txs 3 []).tx 1).queue.map (·.payload.length)).sum + 2047 ≤ 16384 && (txs 3 []).txRateOn 1 2)
  (execLmdTxSubmit 1 (zeros 2047) 2 7 (txs 3 []))
    (fun t => (t.tx 1).queue.length == 1 && t.out == []) = true := by decide +kernel
theorem wit_ModemBursts_3 : chk ((txs 3 (List.replicate 7 (fr 0))).portLive 0 && (txs 3 (List.replicate 7 (fr 0))).radioOn && (txs 3 (List.replicate 7 (fr 0))).txSettled 1 && (txs 3 (List.replicate 7 (fr 0))).get (TX_STATUS_STATE 1) == 3 && !(txs 3 (List.replicate 7 (fr 0))).txTp 1 && ((txs 3 (List.replicate 7 (fr 0))).tx 1).queue.length < 8 &&
  (((txs 3 (List.replicate 7 (fr 0))).tx 1).queue.map (·.payload.length)).sum + 2047 ≤ 16384 && (txs 3 (List.replicate 7 (fr 0))).txRateOn 1 2)
  (execLmdTxSubmit 1 [1] 2 7 (txs 3 (List.replicate 7 (fr 0))))
    (fun t => (t.tx 1).queue.length == 8) = true := by decide +kernel
theorem wit_ModemBursts_4 : chk ((txs 3 []).portLive 0 && (txs 3 []).radioOn && (txs 3 []).txSettled 1 && (txs 3 []).get (TX_STATUS_STATE 1) == 3 && !(txs 3 []).txTp 1 && ((txs 3 []).tx 1).queue.length < 8 &&
  (((txs 3 []).tx 1).queue.map (·.payload.length)).sum + 2047 ≤ 16384 && !(txs 3 []).txRateOn 1 1)
  (execLmdTxSubmit 1 [1, 2] 1 7 (txs 3 []))
    (fun t => t.out == [.lmdDone 1 7 0 3] && t.tx 1 == (txs 3 []).tx 1) = true := by decide +kernel
theorem wit_ModemBursts_5 : chk ((txs 3 []).portLive 0 && (txs 3 []).radioOn && (txs 3 []).txSettled 1 && (txs 3 []).get (TX_STATUS_STATE 1) == 3 && !(txs 3 []).txTp 1 && ((txs 3 []).tx 1).queue.length < 8 &&
  (((txs 3 []).tx 1).queue.map (·.payload.length)).sum + 2047 ≤ 16384)
  (execLmdTxSubmit 1 [] 2 7 (txs 3 []))
    (fun t => t.out == [.lmdDone 1 7 0 3] && t.tx 1 == (txs 3 []).tx 1) = true := by decide +kernel
theorem wit_ModemBursts_6 : chk ((txs 3 []).portLive 0 && (txs 3 []).radioOn && (txs 3 []).txSettled 1 && (txs 3 []).get (TX_STATUS_STATE 1) == 3 && !(txs 3 []).txTp 1 && ((txs 3 []).tx 1).queue.length < 8 &&
  (((txs 3 []).tx 1).queue.map (·.payload.length)).sum + 2047 ≤ 16384)
  (execLmdTxSubmit 1 (zeros 2048) 2 7 (txs 3 []))
    (fun t => t.out == [.lmdDone 1 7 0 3] && t.tx 1 == (txs 3 []).tx 1) = true := by decide +kernel
theorem wit_ModemBursts_7 : chk ((txs 4 []).portLive 0 && (txs 4 []).radioOn && (txs 4 []).txSettled 1 && (txs 4 []).get (TX_STATUS_STATE 1) == 4)
  (execLmdTxSubmit 1 [1] 2 7 (txs 4 []))
    (fun t => t.out.contains (.lmdDone 1 7 0 4) && t.tx 1 == (txs 4 []).tx 1) = true := by decide +kernel
theorem wit_ModemBursts_8 : chk (((txs 0 []).clr (TX_CFG_EN 1)).portLive 0 && ((txs 0 []).clr (TX_CFG_EN 1)).radioOn && ((txs 0 []).clr (TX_CFG_EN 1)).txSettled 1 && ((txs 0 []).clr (TX_CFG_EN 1)).get (TX_STATUS_STATE 1) == 0)
  (execLmdTxSubmit 1 [1] 2 7 ((txs 0 []).clr (TX_CFG_EN 1)))
    (fun t => t.out.contains (.lmdDone 1 7 0 4) && t.tx 1 == ((txs 0 []).clr (TX_CFG_EN 1)).tx 1) = true := by decide +kernel
theorem wit_ModemBursts_9 : chk ((txp none false 0).portLive 0 && (txp none false 0).radioOn && (txp none false 0).txSettled 1 && (txp none false 0).txTp 1)
  (execLmdTxSubmit 1 [1] 2 7 (txp none false 0))
    (fun t => t.out.contains (.lmdDone 1 7 0 4) && t.tx 1 == (txp none false 0).tx 1) = true := by decide +kernel
theorem wit_ModemBursts_10 : chk ((txs 3 [fr 1, fr 2]).txOn 1 && !(txs 3 [fr 1, fr 2]).txTp 1 && bitsOf ((txs 3 [fr 1, fr 2]).word (TX_CFG 1)) 30 1 == 0 && ((txs 3 [fr 1, fr 2]).tx 1).burst == none &&
  ((txs 3 [fr 1, fr 2]).tx 1).queue.head? == some (fr 1) && (txs 3 [fr 1, fr 2]).txRateOn 1 2)
  (execBurstStart 1 (txs 3 [fr 1, fr 2]))
    (fun t => (t.tx 1).burst == some (fr 1, 255) && (t.tx 1).seq == 0 && (t.tx 1).queue == [fr 2] && t.get (TX_STATUS_STATE 1) == 1 && !(t.tx 1).down) = true := by decide +kernel
theorem wit_ModemBursts_11 : chk ((txs 2 [fr 1]).txOn 1 && !(txs 2 [fr 1]).txTp 1 && bitsOf ((txs 2 [fr 1]).word (TX_CFG 1)) 30 1 == 0 && ((txs 2 [fr 1]).tx 1).burst == none &&
  ((txs 2 [fr 1]).tx 1).queue.head? == some (fr 1) && (txs 2 [fr 1]).txRateOn 1 2 && (txs 2 [fr 1]).get (TX_STATUS_STATE 1) == 2)
  (execBurstStart 1 (txs 2 [fr 1]))
    (fun t => (t.tx 1).burst == some (fr 1, 255) && (t.tx 1).seq == 0 && (t.tx 1).queue == [] && t.get (TX_STATUS_STATE 1) == 2) = true := by decide +kernel
theorem wit_ModemBursts_12 : chk (((txs 3 [fr 1]).clr (TX_RATE_EN 1 2)).txOn 1 && !((txs 3 [fr 1]).clr (TX_RATE_EN 1 2)).txTp 1 && bitsOf (((txs 3 [fr 1]).clr (TX_RATE_EN 1 2)).word (TX_CFG 1)) 30 1 == 0 && (((txs 3 [fr 1]).clr (TX_RATE_EN 1 2)).tx 1).burst == none &&
  (((txs 3 [fr 1]).clr (TX_RATE_EN 1 2)).tx 1).queue.head? == some (fr 1) && !((txs 3 [fr 1]).clr (TX_RATE_EN 1 2)).txRateOn 1 2 && ((txs 3 [fr 1]).clr (TX_RATE_EN 1 2)).get (TX_STATUS_STATE 1) == 3)
  (execBurstStart 1 ((txs 3 [fr 1]).clr (TX_RATE_EN 1 2)))
    (fun t => t.out == [.lmdDone 1 1 0 3] && (t.tx 1).queue == [] && (t.tx 1).seq == 255) = true := by decide +kernel
theorem wit_ModemBursts_13 : chk (((txm (txs 2 []) fun v => { v with burst := some (fr 1, 3) }).tx 1).burst == some (fr 1, 3) && (txm (txs 2 []) fun v => { v with burst := some (fr 1, 3) }).get (TX_STATUS_STATE 1) == 2)
  (execBurstEnd 1 (txm (txs 2 []) fun v => { v with burst := some (fr 1, 3) }))
    (fun t => t.out == [.lmdDone 1 1 3 0] && (t.tx 1).burst == none && t.get (TX_UNITS_COUNT 1) == 1 && t.get (TX_STATUS_STATE 1) == 1 && (t.tx 1).down) = true := by decide +kernel
theorem wit_ModemBursts_14 : chk (((txm (txs 2 [fr 4]) fun v => { v with burst := some (fr 1, 3) }).tx 1).burst == some (fr 1, 3) && (txm (txs 2 [fr 4]) fun v => { v with burst := some (fr 1, 3) }).get (TX_STATUS_STATE 1) == 2)
  (execBurstEnd 1 (txm (txs 2 [fr 4]) fun v => { v with burst := some (fr 1, 3) }))
    (fun t => t.out == [.lmdDone 1 1 3 0] && t.get (TX_STATUS_STATE 1) == 2 && !(t.tx 1).down) = true := by decide +kernel
theorem wit_ModemBursts_15 : chk ((txs 3 [fr 1, fr 7, fr 7]).portLive 0 && (txs 3 [fr 1, fr 7, fr 7]).txSettled 1 && ((txs 3 [fr 1, fr 7, fr 7]).tx 1).queue.find? (fun x => x.tag == 7) == some (fr 7))
  (execLmdTxCancel 1 7 (txs 3 [fr 1, fr 7, fr 7]))
    (fun t => t.out == [.lmdDone 1 7 0 1] && (t.tx 1).queue == [fr 1, fr 7]) = true := by decide +kernel
theorem wit_ModemBursts_16 : chk ((txs 3 [fr 1]).portLive 0 && (txs 3 [fr 1]).txSettled 1 && ((txs 3 [fr 1]).tx 1).queue.find? (fun x => x.tag == 7) == none)
  (execLmdTxCancel 1 7 (txs 3 [fr 1]))
    (fun t => t.out == [] && t.tx 1 == (txs 3 [fr 1]).tx 1) = true := by decide +kernel
theorem wit_ModemBursts_17 : chk ((txm (txs 1 []) fun v => { v with burst := some (fr 1, 3) }).get (TX_STATUS_STATE 1) == 1 && !((txm (txs 1 []) fun v => { v with burst := some (fr 1, 3) }).tx 1).down)
  (execRampUpDone 1 (txm (txs 1 []) fun v => { v with burst := some (fr 1, 3) }))
    (fun t => t.get (TX_STATUS_STATE 1) == 2) = true := by decide +kernel
theorem wit_ModemBursts_18 : chk ((txm (txs 1 []) fun v => { v with down := true }).get (TX_STATUS_STATE 1) == 1 && ((txm (txs 1 []) fun v => { v with down := true }).tx 1).down && (txm (txs 1 []) fun v => { v with down := true }).dev != .draining && (txm (txs 1 []) fun v => { v with down := true }).txOn 1 && (txm (txs 1 []) fun v => { v with down := true }).txOutput 1)
  (execRampDownDone 1 (txm (txs 1 []) fun v => { v with down := true }))
    (fun t => t.get (TX_STATUS_STATE 1) == 3 && !(t.tx 1).down) = true := by decide +kernel
theorem wit_ModemBursts_19 : chk (((txm (txs 1 []) fun v => { v with down := true }).clr (TX_CFG_EN 1)).get (TX_STATUS_STATE 1) == 1 && (((txm (txs 1 []) fun v => { v with down := true }).clr (TX_CFG_EN 1)).tx 1).down && ((txm (txs 1 []) fun v => { v with down := true }).clr (TX_CFG_EN 1)).dev != .draining && !((txm (txs 1 []) fun v => { v with down := true }).clr (TX_CFG_EN 1)).txOn 1)
  (execRampDownDone 1 ((txm (txs 1 []) fun v => { v with down := true }).clr (TX_CFG_EN 1)))
    (fun t => t.get (TX_STATUS_STATE 1) == 0 && !(t.tx 1).down) = true := by decide +kernel
theorem wit_ModemBursts_20 : chk ((lmd.withMask [(TX_FREQ 1, 0xFFFFF), (TX_CFG 1, 0xFFFFFFFF)]).commandOk m0 (TX_FREQ 1) && (lmd.withMask [(TX_FREQ 1, 0xFFFFF), (TX_CFG 1, 0xFFFFFFFF)]).opened (TX_FREQ 1) && lmdFits 25250 ((lmd.withMask [(TX_FREQ 1, 0xFFFFF), (TX_CFG 1, 0xFFFFFFFF)]).get (TX_CFG_BW 1)))
  (execLmdChannelWrite m0 (BitVec.ofNat 32 (TX_FREQ 1)) 25250 (lmd.withMask [(TX_FREQ 1, 0xFFFFF), (TX_CFG 1, 0xFFFFFFFF)]))
    (fun t => t.get (TX_FREQ_HZ 1) == 25250 && t.busCode 0 == 0) = true := by decide +kernel
theorem wit_ModemBursts_21 : chk ((lmd.withMask [(TX_FREQ 1, 0xFFFFF), (TX_CFG 1, 0xFFFFFFFF)]).commandOk m0 (TX_FREQ 1) && (lmd.withMask [(TX_FREQ 1, 0xFFFFF), (TX_CFG 1, 0xFFFFFFFF)]).opened (TX_FREQ 1) && !lmdFits 25249 ((lmd.withMask [(TX_FREQ 1, 0xFFFFF), (TX_CFG 1, 0xFFFFFFFF)]).get (TX_CFG_BW 1)))
  (execLmdChannelWrite m0 (BitVec.ofNat 32 (TX_FREQ 1)) 25249 (lmd.withMask [(TX_FREQ 1, 0xFFFFF), (TX_CFG 1, 0xFFFFFFFF)]))
    (fun t => t.get (TX_FREQ_HZ 1) == 0 && t.bit (TX_STATUS_RANGE_DROP 1) && t.busCode 0 == 0) = true := by decide +kernel
theorem wit_ModemBursts_22 : chk (((lmd.withMask [(TX_FREQ 1, 0xFFFFF), (TX_CFG 1, 0xFFFFFFFF)]).put (TX_FREQ_HZ 1) 26000).commandOk m0 (TX_CFG 1) && ((lmd.withMask [(TX_FREQ 1, 0xFFFFF), (TX_CFG 1, 0xFFFFFFFF)]).put (TX_FREQ_HZ 1) 26000).opened (TX_CFG 1) && lmdFits 26000 1 && bitsOf 0x10000000#32 28 2 == 1)
  (execLmdChannelWrite m0 (BitVec.ofNat 32 (TX_CFG 1)) 0x10000000 ((lmd.withMask [(TX_FREQ 1, 0xFFFFF), (TX_CFG 1, 0xFFFFFFFF)]).put (TX_FREQ_HZ 1) 26000))
    (fun t => t.get (TX_CFG_BW 1) == 1 && t.busCode 0 == 0) = true := by decide +kernel
theorem wit_ModemBursts_23 : chk (((lmd.withMask [(TX_FREQ 1, 0xFFFFF), (TX_CFG 1, 0xFFFFFFFF)]).put (TX_FREQ_HZ 1) 26000).commandOk m0 (TX_CFG 1) && ((lmd.withMask [(TX_FREQ 1, 0xFFFFF), (TX_CFG 1, 0xFFFFFFFF)]).put (TX_FREQ_HZ 1) 26000).opened (TX_CFG 1) && !lmdFits 26000 3 && bitsOf 0x30000000#32 28 2 == 3)
  (execLmdChannelWrite m0 (BitVec.ofNat 32 (TX_CFG 1)) 0x30000000 ((lmd.withMask [(TX_FREQ 1, 0xFFFFF), (TX_CFG 1, 0xFFFFFFFF)]).put (TX_FREQ_HZ 1) 26000))
    (fun t => t.get (TX_CFG_BW 1) == 0 && t.bit (TX_STATUS_RANGE_DROP 1) && t.busCode 0 == 0) = true := by decide +kernel
theorem wit_ModemBursts_24 : chk ((lmd.withMask [(RX_FREQ 1, 0xFFFFF), (RX_CFG 1, 0xFFFFFFFF)]).commandOk m0 (RX_FREQ 1) && (lmd.withMask [(RX_FREQ 1, 0xFFFFF), (RX_CFG 1, 0xFFFFFFFF)]).opened (RX_FREQ 1) && lmdFits 25250 ((lmd.withMask [(RX_FREQ 1, 0xFFFFF), (RX_CFG 1, 0xFFFFFFFF)]).get (RX_CFG_BW 1)))
  (execLmdChannelWrite m0 (BitVec.ofNat 32 (RX_FREQ 1)) 25250 (lmd.withMask [(RX_FREQ 1, 0xFFFFF), (RX_CFG 1, 0xFFFFFFFF)]))
    (fun t => t.get (RX_FREQ_HZ 1) == 25250 && t.busCode 0 == 0) = true := by decide +kernel
theorem wit_ModemBursts_25 : chk ((lmd.withMask [(RX_FREQ 1, 0xFFFFF), (RX_CFG 1, 0xFFFFFFFF)]).commandOk m0 (RX_FREQ 1) && (lmd.withMask [(RX_FREQ 1, 0xFFFFF), (RX_CFG 1, 0xFFFFFFFF)]).opened (RX_FREQ 1) && !lmdFits 25249 ((lmd.withMask [(RX_FREQ 1, 0xFFFFF), (RX_CFG 1, 0xFFFFFFFF)]).get (RX_CFG_BW 1)))
  (execLmdChannelWrite m0 (BitVec.ofNat 32 (RX_FREQ 1)) 25249 (lmd.withMask [(RX_FREQ 1, 0xFFFFF), (RX_CFG 1, 0xFFFFFFFF)]))
    (fun t => t.get (RX_FREQ_HZ 1) == 0 && t.bit (RX_STATUS_RANGE_DROP 1) && t.busCode 0 == 0) = true := by decide +kernel
theorem wit_ModemBursts_26 : chk (((lmd.withMask [(RX_FREQ 1, 0xFFFFF), (RX_CFG 1, 0xFFFFFFFF)]).put (RX_FREQ_HZ 1) 26000).commandOk m0 (RX_CFG 1) && ((lmd.withMask [(RX_FREQ 1, 0xFFFFF), (RX_CFG 1, 0xFFFFFFFF)]).put (RX_FREQ_HZ 1) 26000).opened (RX_CFG 1) && lmdFits 26000 1 && bitsOf 0x10000000#32 28 2 == 1)
  (execLmdChannelWrite m0 (BitVec.ofNat 32 (RX_CFG 1)) 0x10000000 ((lmd.withMask [(RX_FREQ 1, 0xFFFFF), (RX_CFG 1, 0xFFFFFFFF)]).put (RX_FREQ_HZ 1) 26000))
    (fun t => t.get (RX_CFG_BW 1) == 1 && t.busCode 0 == 0) = true := by decide +kernel
theorem wit_ModemBursts_27 : chk (((lmd.withMask [(RX_FREQ 1, 0xFFFFF), (RX_CFG 1, 0xFFFFFFFF)]).put (RX_FREQ_HZ 1) 26000).commandOk m0 (RX_CFG 1) && ((lmd.withMask [(RX_FREQ 1, 0xFFFFF), (RX_CFG 1, 0xFFFFFFFF)]).put (RX_FREQ_HZ 1) 26000).opened (RX_CFG 1) && !lmdFits 26000 3 && bitsOf 0x30000000#32 28 2 == 3)
  (execLmdChannelWrite m0 (BitVec.ofNat 32 (RX_CFG 1)) 0x30000000 ((lmd.withMask [(RX_FREQ 1, 0xFFFFF), (RX_CFG 1, 0xFFFFFFFF)]).put (RX_FREQ_HZ 1) 26000))
    (fun t => t.get (RX_CFG_BW 1) == 0 && t.bit (RX_STATUS_RANGE_DROP 1) && t.busCode 0 == 0) = true := by decide +kernel
theorem wit_ModemBursts_28 : chk (((txs 4 []).set LMD_MON_STATUS_TRIPPED).commandOk m0 LMD_CMD && ((txs 4 []).set LMD_MON_STATUS_TRIPPED).radioOn && ((txs 4 []).set LMD_MON_STATUS_TRIPPED).txOn 1 && ((txs 4 []).set LMD_MON_STATUS_TRIPPED).get (TX_STATUS_STATE 1) == 4 && ((txs 4 []).set LMD_MON_STATUS_TRIPPED).txOutput 1 && ((txs 4 []).set LMD_MON_STATUS_TRIPPED).spllOk && bitsOf (((txs 4 []).set LMD_MON_STATUS_TRIPPED).word (TX_CFG 1)) 30 1 == 0)
  (execTxRestart m0 guardKey ((txs 4 []).set LMD_MON_STATUS_TRIPPED))
    (fun t => !t.bit LMD_MON_STATUS_TRIPPED && t.get LMD_MON_STATUS_RUN == 0 && t.get (TX_STATUS_STATE 1) == 3) = true := by decide +kernel
theorem wit_ModemBursts_29 : chk (((txs 4 []).set LMD_MON_STATUS_TRIPPED).commandOk m0 LMD_CMD && ((txs 4 []).set LMD_MON_STATUS_TRIPPED).radioOn && ((txs 4 []).set LMD_MON_STATUS_TRIPPED).txSettled 1)
  (execTxRestart m0 7 ((txs 4 []).set LMD_MON_STATUS_TRIPPED))
    (fun t => t.bit LMD_MON_STATUS_TRIPPED && t.tx 1 == (txs 4 []).tx 1) = true := by decide +kernel

theorem wit_TeleprotectionBlocksAndMask_1 : chk ((txp none true 6).tpSending 1 && (txp none true 6).tpSlotOk ((txp none true 6).get (TX_TP_SLOT 1)) 1 && (txp none true 6).get (TX_TP_SLOT 1) == 5 && ((txp none true 6).slot 5).shadow == none &&
  ((txp none true 6).slot 5).ctr != ctrMax ((txp none true 6).slot 5).ctrw && ((txp none true 6).tx 1).startDue && ((txp none true 6).tx 1).block == none)
  (execTpBlockStart 1 false (txp none true 6))
    (fun t => (t.slot 5).ctr == 21 && (t.tx 1).block == some .start && t.get (TX_STATUS_CMD 1) == 0) = true := by decide +kernel
theorem wit_TeleprotectionBlocksAndMask_2 : chk ((txp (some .guard) true 6).tpSending 1 && (txp (some .guard) true 6).tpSlotOk ((txp (some .guard) true 6).get (TX_TP_SLOT 1)) 1 && (txp (some .guard) true 6).get (TX_TP_SLOT 1) == 5 && ((txp (some .guard) true 6).slot 5).shadow == none &&
  ((txp (some .guard) true 6).slot 5).ctr != ctrMax ((txp (some .guard) true 6).slot 5).ctrw && ((txp (some .guard) true 6).tx 1).block != none && (txp (some .guard) true 6).tpVector 1 true == 6)
  (execTpBlockStart 1 false (txp (some .guard) true 6))
    (fun t => (t.tx 1).block == some (.command 6) && t.get (TX_STATUS_CMD 1) == 6 && t.get (TX_UNITS_COUNT 1) == 1) = true := by decide +kernel
theorem wit_TeleprotectionBlocksAndMask_3 : chk ((txp (some .guard) true 0).tpSending 1 && (txp (some .guard) true 0).tpSlotOk ((txp (some .guard) true 0).get (TX_TP_SLOT 1)) 1 && (txp (some .guard) true 0).get (TX_TP_SLOT 1) == 5 && ((txp (some .guard) true 0).slot 5).shadow == none &&
  ((txp (some .guard) true 0).slot 5).ctr != ctrMax ((txp (some .guard) true 0).slot 5).ctrw && (txp (some .guard) true 0).tpVector 1 true == 0 && ((txp (some .guard) true 0).tx 1).startDue && ((txp (some .guard) true 0).tx 1).block == some .guard)
  (execTpBlockStart 1 false (txp (some .guard) true 0))
    (fun t => (t.tx 1).block == some .start) = true := by decide +kernel
theorem wit_TeleprotectionBlocksAndMask_4 : chk ((txp (some .start) false 0).tpSending 1 && (txp (some .start) false 0).tpSlotOk ((txp (some .start) false 0).get (TX_TP_SLOT 1)) 1 && (txp (some .start) false 0).get (TX_TP_SLOT 1) == 5 && ((txp (some .start) false 0).slot 5).shadow == none &&
  ((txp (some .start) false 0).slot 5).ctr != ctrMax ((txp (some .start) false 0).slot 5).ctrw && (txp (some .start) false 0).tpVector 1 true == 0 && !((txp (some .start) false 0).tx 1).startDue)
  (execTpBlockStart 1 false (txp (some .start) false 0))
    (fun t => (t.tx 1).block == some .guard && t.get (TX_STATUS_CMD 1) == 0 && t.get (TX_UNITS_COUNT 1) == 1) = true := by decide +kernel
theorem wit_TeleprotectionBlocksAndMask_5 : chk ((txp (some .guard) false 0).tpSending 1 && (txp (some .guard) false 0).tpSlotOk ((txp (some .guard) false 0).get (TX_TP_SLOT 1)) 1 && (txp (some .guard) false 0).get (TX_TP_SLOT 1) == 5 && ((txp (some .guard) false 0).slot 5).shadow == none &&
  ((txp (some .guard) false 0).slot 5).ctr != ctrMax ((txp (some .guard) false 0).slot 5).ctrw && ((txp (some .guard) false 0).tx 1).block == some .guard && ((txp (some .guard) false 0).tx 1).carried == [0, 0, 0, 0] && TpBlock.guard.vector != 9)
  (execTpcmdChange 1 9 false (txp (some .guard) false 0))
    (fun t => (t.tx 1).block == some (.command 9) && (t.tx 1).cmd == 9 && t.get (TX_STATUS_CMD 1) == 9 && t.get (TX_ABORTS_COUNT 1) == 1) = true := by decide +kernel
theorem wit_TeleprotectionBlocksAndMask_6 : chk ((txp (some (.command 9)) false 9).tpSending 1 && (txp (some (.command 9)) false 9).tpSlotOk ((txp (some (.command 9)) false 9).get (TX_TP_SLOT 1)) 1 && (txp (some (.command 9)) false 9).get (TX_TP_SLOT 1) == 5 && ((txp (some (.command 9)) false 9).slot 5).shadow == none &&
  ((txp (some (.command 9)) false 9).slot 5).ctr != ctrMax ((txp (some (.command 9)) false 9).slot 5).ctrw && ((txp (some (.command 9)) false 9).tx 1).carried == [0, 0, 0, 0])
  (execTpcmdChange 1 0 false (txp (some (.command 9)) false 9))
    (fun t => (t.tx 1).block == some .guard && t.get (TX_STATUS_CMD 1) == 0) = true := by decide +kernel
theorem wit_TeleprotectionBlocksAndMask_7 : chk ((txp (some (.command 9)) false 0).tpSending 1 && (txp (some (.command 9)) false 0).tpSlotOk ((txp (some (.command 9)) false 0).get (TX_TP_SLOT 1)) 1 && (txp (some (.command 9)) false 0).get (TX_TP_SLOT 1) == 5 && ((txp (some (.command 9)) false 0).slot 5).shadow == none &&
  ((txp (some (.command 9)) false 0).slot 5).ctr != ctrMax ((txp (some (.command 9)) false 0).slot 5).ctrw && ((txp (some (.command 9)) false 0).tx 1).carried == [0, 0, 0, 0] && (TpBlock.command 9).vector == 9)
  (execTpcmdChange 1 9 false (txp (some (.command 9)) false 0))
    (fun t => (t.tx 1).block == some (.command 9) && (t.tx 1).cmd == 9 && t.out == []) = true := by decide +kernel
theorem wit_TeleprotectionBlocksAndMask_8 : chk ((keyless (txp none true 0)).tpSending 1 && !(keyless (txp none true 0)).tpSlotOk ((keyless (txp none true 0)).get (TX_TP_SLOT 1)) 1)
  (execTpBlockStart 1 true (keyless (txp none true 0)))
    (fun t => t.get (TX_STATUS_STATE 1) == 4 && t.get (TX_STATUS_CAUSE 1) == 3 && t.lineLevel 233 && (t.tx 1).block == none && t.cph == (keyless (txp none true 0)).cph) = true := by decide +kernel
theorem wit_TeleprotectionBlocksAndMask_9 : chk ((mon2 2).lmdOn && (mon2 2).bit LMD_CFG_MON_EN && !(mon2 2).bit LMD_MON_STATUS_TRIPPED)
  (execMaskWindowEnd false true [10] 0 (masked (mon2 2)))
    (fun t => t.get LMD_MON_STATUS_RUN == 0 && t.lmdTx == (mon2 2).lmdTx) = true := by decide +kernel
theorem wit_TeleprotectionBlocksAndMask_10 : chk ((masked (mon2 2)).lmdOn && (masked (mon2 2)).bit LMD_CFG_MON_EN && !(masked (mon2 2)).bit LMD_MON_STATUS_TRIPPED && (masked (mon2 2)).paOn 1 && (worstBin (masked (mon2 2)).maskPoints [4000, 4050]).2 ≤ 0)
  (execMaskWindowEnd true true [4000, 4050] 0 (masked (mon2 2)))
    (fun t => t.get LMD_MON_STATUS_RUN == 0 && t.lmdTx == (masked (mon2 2)).lmdTx) = true := by decide +kernel
theorem wit_TeleprotectionBlocksAndMask_11 : chk ((masked (mon2 1)).lmdOn && (masked (mon2 1)).bit LMD_CFG_MON_EN && !(masked (mon2 1)).bit LMD_MON_STATUS_TRIPPED && (masked (mon2 1)).paOn 1 && (masked (mon2 1)).get LMD_MON_STATUS_RUN == 1 && 0 < (worstBin (masked (mon2 1)).maskPoints [4000, 10, 20]).2 && (worstBin (masked (mon2 1)).maskPoints [4000, 10, 20]).1 == 1)
  (execMaskWindowEnd true false [4000, 10, 20] 0 (masked (mon2 1)))
    (fun t => t.get LMD_MON_STATUS_RUN == 2 && t.get LMD_MON_STATUS_EXCESS == 3990 && t.get LMD_MON_STATUS_WORST_FREQ == 3 && !t.bit LMD_MON_STATUS_CAUSE &&
      t.lineLevel 221 && !t.bit LMD_MON_STATUS_TRIPPED && t.lmdTx == (mon2 1).lmdTx) = true := by decide +kernel
theorem wit_TeleprotectionBlocksAndMask_12 :
    ((masked (mon2 1)).lmdOn && (masked (mon2 1)).bit LMD_CFG_MON_EN && !(masked (mon2 1)).bit LMD_MON_STATUS_TRIPPED && (masked (mon2 1)).paOn 1 && (worstBin (masked (mon2 1)).maskPoints []).2 ≤ 0 && (masked (mon2 1)).get LMD_MON_CFG_MON_FLOOR < 1) = true := by decide +kernel
theorem wit_TeleprotectionBlocksAndMask_13 : chk ((masked (mon2 2)).lmdOn && (masked (mon2 2)).bit LMD_CFG_MON_EN && !(masked (mon2 2)).bit LMD_MON_STATUS_TRIPPED && (masked (mon2 2)).paOn 1 && (masked (mon2 2)).get LMD_MON_STATUS_RUN == 2 && 0 < (worstBin (masked (mon2 2)).maskPoints [3999]).2 && (masked (mon2 2)).get (TX_STATUS_STATE 1) != 0)
  (execMaskWindowEnd true false [3999] 0 (masked (mon2 2)))
    (fun t => t.bit LMD_MON_STATUS_TRIPPED && t.lineLevel 220 && t.bit (pendingFld 36) && t.get (TX_STATUS_STATE 1) == 4 && t.get (TX_STATUS_CAUSE 1) == 1) = true := by decide +kernel

theorem wit_ModemReception_1 : chk ((rxd none).rxOn 1 && !(rxd none).rxTp 1 && bitsOf (((rxd none).rx 1).set.getD 5 0) 31 1 == 1 && (rxd none).rxSet 1 (RX_CFG_RATE_EN 1) / 8 % 2 == 1 && (rxd none).rxSet 1 (RX_GUARD_DET_THR 1) ≤ 10 && ((rxd none).rx 1).burst == none)
  (execPreambleDetect 1 3 10 (rxd none))
    (fun t => t.bit (RX_STATUS_BUSY 1) && (t.rx 1).burst == some (3, 0, 0, 10)) = true := by decide +kernel
theorem wit_ModemReception_2 : chk ((rxd (some (0, 1, 1, 10))).rxOn 1 && !(rxd (some (0, 1, 1, 10))).rxTp 1 && bitsOf (((rxd (some (0, 1, 1, 10))).rx 1).set.getD 5 0) 31 1 == 1 && (rxd (some (0, 1, 1, 10))).rxSet 1 (RX_CFG_RATE_EN 1) / 8 % 2 == 1 && decide (10 * 19953 ≤ 20 * 10000))
  (execPreambleDetect 1 3 20 (rxd (some (0, 1, 1, 10))))
    (fun t => (t.rx 1).burst == some (3, 0, 0, 20) && t.get (RX_CNT_COUNT 1 6) == 1) = true := by decide +kernel
theorem wit_ModemReception_3 : chk ((rxd (some (0, 1, 1, 10))).rxOn 1 && !(rxd (some (0, 1, 1, 10))).rxTp 1 && bitsOf (((rxd (some (0, 1, 1, 10))).rx 1).set.getD 5 0) 31 1 == 1 && (rxd (some (0, 1, 1, 10))).rxSet 1 (RX_CFG_RATE_EN 1) / 8 % 2 == 1 && decide (19 * 10000 < 10 * 19953))
  (execPreambleDetect 1 3 19 (rxd (some (0, 1, 1, 10))))
    (fun t => t.lmdRx == (rxd (some (0, 1, 1, 10))).lmdRx) = true := by decide +kernel
theorem head_one : headerDecode (softHead 1) = lmdHeader 1 0 0 9 := by decide +kernel
theorem head_none : headerDecode (softHead 0) = lmdHeader 0 0 0 9 := by decide +kernel
theorem body_one (c : Word) (k : c = crc32 [0x5A] ∨ c = 0) : payloadDecode 0 1 (softBody [0x5A] c) = ([0x5A], c) := by
  rcases k with rfl | rfl <;> decide +kernel
theorem wit_ModemReception_header : (rxd (some (3, 0, 0, 10))).radioOn = true ∧ ((rxd (some (3, 0, 0, 10))).rx 1).burst = some (3, 0, 0, 10) ∧
    byteAt (headerDecode (softHead 0)) 0 + byteAt (headerDecode (softHead 0)) 1 % 8 * 256 = 0 ∧
    headerDecode (softHead 1) ≠ lmdHeader 1 1 0 9 := by
  rw [head_none, head_one]
  decide +kernel
theorem wit_ModemReception_burst : byteAt (headerDecode (softHead 1)) 0 + byteAt (headerDecode (softHead 1)) 1 % 8 * 256 = 1 ∧
    headerDecode (softHead 1) = lmdHeader 1 0 0 (byteAt (headerDecode (softHead 1)) 2) ∧
    (softBody [0x5A] (crc32 [0x5A])).length = codedLength 0 0 1 ∧
    crc32 (payloadDecode 0 1 (softBody [0x5A] (crc32 [0x5A]))).1 = (payloadDecode 0 1 (softBody [0x5A] (crc32 [0x5A]))).2 ∧
    crc32 (payloadDecode 0 1 (softBody [0x5A] 0)).1 ≠ (payloadDecode 0 1 (softBody [0x5A] 0)).2 ∧ (rxd none).portLive 0 = true := by
  rw [head_one, body_one _ (.inl rfl), body_one _ (.inr rfl)]
  decide +kernel
theorem wit_ModemReception_room : (rxd (some (3, 0, 0, 10))).streamRoom (lmdRxPort 1) (beatCount 4 1) = true :=
  by decide +kernel
theorem keyless_fails (b : TpBlock) (info : List Byte) (n sess : Nat) : (keyless rxp).rxVerify 1 b info n sess = false := by
  have e : (keyless rxp).rxSet 1 (RX_CFG_SLOT 1) = 5 := by decide +kernel
  have f : (keyless rxp).tpSlotOk 5 2 = false := by decide +kernel
  simp [State.rxVerify, e, f]
theorem wit_ModemReception_fails : (keyless rxp).rxOn 1 = true ∧ (keyless rxp).rxTp 1 = true ∧ (keyless rxp).bit (RX_STATUS_RESYNC 1) = false ∧
    ∀ info n sess, (keyless rxp).rxVerify 1 (.command 0) info n sess = false := ⟨by decide +kernel, by decide +kernel, by decide +kernel,
  fun _ _ _ => keyless_fails _ _ _ _⟩
theorem wit_ModemReception_4 : chk (rxp.rxOn 1 && rxp.rxTp 1)
  (execRxCommandBlock 1 [] true true true 3 rxp)
    (fun t => (t.rx 1).run == 0 && t.get (RX_CNT_COUNT 1 3) == 1) = true := by decide +kernel
theorem wit_ModemReception_5 : chk (rxp.rxOn 1 && rxp.rxTp 1)
  (execRxResyncTimeout 1 rxp)
    (fun t => t.bit (RX_STATUS_RESYNC 1)) = true := by decide +kernel
theorem wit_ModemReception_6 : chk (rxp.radioOn && rxp.get (RX_STATUS_TPOUT 1) != 0)
  (execCmdHoldExpiry 1 rxp)
    (fun t => t.get (RX_STATUS_TPOUT 1) == 0 && t.lineLevel 223) = true := by decide +kernel
theorem wit_ModemReception_7 : chk ((rxp.set (RX_STATUS_GUARD_OK 1)).radioOn && (rxp.set (RX_STATUS_GUARD_OK 1)).bit (RX_STATUS_GUARD_OK 1))
  (execGuardLossExpiry 1 (rxp.set (RX_STATUS_GUARD_OK 1)))
    (fun t => (t.rx 1).run == 0 && !t.bit (RX_STATUS_GUARD_OK 1) && t.bit (RX_STATUS_GUARD_LOST 1) && t.lineLevel 225) = true := by decide +kernel
theorem wit_ModemReception_8 : chk (rxp.commandOk m0 LMD_CMD && rxp.radioOn)
  (execRxResync m0 guardKey 1 rxp)
    (fun t => t.bit (RX_STATUS_RESYNC 1) && t.word (RX_SESSION 1) == 0 && (t.rx 1).nd == none && (t.rx 1).run == 0) = true := by decide +kernel
theorem wit_ModemReception_9 : chk (rxp.rxOn 1 && !rxp.bit (RX_STATUS_FLOOD 1) && ((rxp.rx 1).flood.window (rxp.rxSet 1 (RX_FLOOD_FLOOD_IMP 1))
  (rxp.rxSet 1 (RX_FLOOD_FLOOD_DB 1)) 1000 1 0).1)
  (execFloodWindowEnd (.rx 1) 1000 1 0 rxp)
    (fun t => t.bit (RX_STATUS_FLOOD 1) && t.lineLevel 229) = true := by decide +kernel
theorem wit_ModemReception_10 : chk (((rxp.set (RX_STATUS_FLOOD 1)).putRx 1 { rxp.rx 1 with flood := { powers := [], calm := 100 } }).bit (RX_STATUS_FLOOD 1) && (((rxp.set (RX_STATUS_FLOOD 1)).putRx 1 { rxp.rx 1 with flood := { powers := [], calm := 100 } }).rx 1).flood.over (((rxp.set (RX_STATUS_FLOOD 1)).putRx 1 { rxp.rx 1 with flood := { powers := [], calm := 100 } }).rxSet 1 (RX_FLOOD_FLOOD_HOLD_S 1)))
  (execFloodClear (.rx 1) ((rxp.set (RX_STATUS_FLOOD 1)).putRx 1 { rxp.rx 1 with flood := { powers := [], calm := 100 } }))
    (fun t => !t.bit (RX_STATUS_FLOOD 1) && t.lineLevel 229) = true := by decide +kernel

/-! ### The all-zero codeword decodes to zeros: a witness for the tail-biting decoder, whatever its ties -/

/-- The metric that a coded pair adds, at most, and whether a step with outputs `e` attains it. -/
def gainOf (x : Int × Int) : Int := -x.1 - x.2
def silent (x : Int × Int) (e : Bool × Bool) : Bool := !(e.1 && x.1 != 0) && !(e.2 && x.2 != 0)
/-- Every path has metric at most `T`, and those of metric `T` end in states of `E`. -/
def Capped (T : Int) (E : List Nat) (ps : List CodePath) : Prop :=
  ∀ st, st < 64 → ∀ m, (ps.getD st (none, [])).1 = some m → m ≤ T ∧ (m = T → st ∈ E)
def nextCap (E : List Nat) (x : Int × Int) : List Nat :=
  (List.range 64).filter fun st => [0, 1].any fun k => E.contains (st % 32 * 2 + k) && silent x (convBit (st % 32 * 2 + k) (decide (32 ≤ st)))

theorem better_metric (x y : CodePath) (m : Int) (h : (betterPath x y).1 = some m) : x.1 = some m ∨ y.1 = some m := by
  obtain ⟨x1, x2⟩ := x
  obtain ⟨y1, y2⟩ := y
  cases x1 with
  | none => exact .inr h
  | some a =>
    cases y1 with
    | none => exact .inl h
    | some b =>
      have h : some (max a b) = some m := h
      simp only [Option.some.injEq] at h ⊢
      omega

theorem step_at (ps : List CodePath) (x : Int × Int) (st : Nat) (h : st < 64) :
    (viterbiStep ps x).getD st (none, []) =
      let b := decide (32 ≤ st)
      let f (k : Nat) : CodePath :=
        let old := st % 32 * 2 + k
        let e := convBit old b
        let p := ps.getD old (none, [])
        (p.1.map fun m => m + (if e.1 then x.1 else -x.1) + (if e.2 then x.2 else -x.2), b :: p.2)
      betterPath (f 0) (f 1) := by
  simp [viterbiStep, List.getD, h]

theorem Capped.step {T : Int} {E : List Nat} {ps : List CodePath} (h : Capped T E ps) {x : Int × Int} (hx : x.1 ≤ 0 ∧ x.2 ≤ 0) :
    Capped (T + gainOf x) (nextCap E x) (viterbiStep ps x) := by
  intro st hst m hm
  rw [step_at _ _ _ hst] at hm
  have key : ∀ k, k < 2 → (((ps.getD (st % 32 * 2 + k) (none, [])).1.map fun m => m +
      (if (convBit (st % 32 * 2 + k) (decide (32 ≤ st))).1 then x.1 else -x.1) +
      (if (convBit (st % 32 * 2 + k) (decide (32 ≤ st))).2 then x.2 else -x.2)) = some m) →
      m ≤ T + gainOf x ∧ (m = T + gainOf x → st ∈ nextCap E x) := by
    intro k hk e
    obtain ⟨m0, e0, e1⟩ := Option.map_eq_some_iff.mp e
    obtain ⟨c, d⟩ := h _ (by omega) m0 e0
    subst e1
    refine ⟨?_, fun q => ?_⟩
    · rw [gainOf]
      split <;> split <;> omega
    · have : m0 = T ∧ silent x (convBit (st % 32 * 2 + k) (decide (32 ≤ st))) = true := by
        rw [gainOf] at q
        rw [silent]
        split at q <;> split at q <;> rename_i a b <;> simp only [a, b] <;> refine ⟨by omega, ?_⟩ <;>
          simp <;> omega
      rw [nextCap, List.mem_filter]
      refine ⟨List.mem_range.mpr hst, List.any_eq_true.mpr ⟨k, ?_, ?_⟩⟩
      · match k, hk with
        | 0, _ => exact List.mem_cons_self
        | 1, _ => exact List.mem_cons_of_mem _ List.mem_cons_self
      · rw [this.2, Bool.and_true, List.contains_iff_mem]
        exact d this.1
  rcases better_metric _ _ _ hm with e | e
  · exact key 0 (by decide) e
  · exact key 1 (by decide) e

theorem Capped.fold {T : Int} {E : List Nat} {ps : List CodePath} (h : Capped T E ps) (xs : List (Int × Int))
    (hx : ∀ x ∈ xs, x.1 ≤ 0 ∧ x.2 ≤ 0) :
    Capped (xs.foldl (fun t x => t + gainOf x) T) (xs.foldl nextCap E) (xs.foldl viterbiStep ps) := by
  induction xs generalizing T E ps with
  | nil => exact h
  | cons x xs ih => exact ih (h.step (hx x List.mem_cons_self)) fun y m => hx y (List.mem_cons_of_mem _ m)

/-- From state 0 the zero path stays ahead. -/
theorem zero_leads {T : Int} {E : List Nat} {ps : List CodePath} {k : Nat} (h : Capped T E ps)
    (z : ps.getD 0 (none, []) = (some T, List.replicate k false)) (xs : List (Int × Int)) (hx : ∀ x ∈ xs, x.1 < 0 ∧ x.2 ≤ 0) :
    (xs.foldl viterbiStep ps).getD 0 (none, []) =
      (some (xs.foldl (fun t x => t + gainOf x) T), List.replicate (k + xs.length) false) := by
  induction xs generalizing T E ps k with
  | nil => exact z
  | cons x xs ih =>
    have g := hx x List.mem_cons_self
    have e : (viterbiStep ps x).getD 0 (none, []) = (some (T + gainOf x), List.replicate (k + 1) false) := by
      rw [step_at _ _ _ (by decide)]
      have c0 : convBit (0 % 32 * 2 + 0) (decide (32 ≤ 0)) = (false, false) := rfl
      have c1 : convBit (0 % 32 * 2 + 1) (decide (32 ≤ 0)) = (true, true) := rfl
      simp only [c0, c1, z, show 0 % 32 * 2 + 0 = 0 from rfl]
      cases q : (ps.getD (0 % 32 * 2 + 1) (none, [])).1 with
      | none => simp [betterPath, gainOf, List.replicate_succ]; omega
      | some m =>
        have := (h _ (by decide) m q).1
        have l : m + x.1 + x.2 < T + -x.1 + -x.2 := by omega
        have l' : ¬ (T + -x.1 + -x.2 < m + x.1 + x.2) := by omega
        simp [betterPath, gainOf, List.replicate_succ, l, l']; omega
    have := ih (h.step ⟨by omega, g.2⟩) e fun y m => hx y (List.mem_cons_of_mem _ m)
    rw [List.foldl_cons, this]
    simp [Nat.add_comm, Nat.add_left_comm]

def startPaths (a : Nat) : List CodePath := (List.range 64).map fun st => (if st = a then some 0 else none, [])
theorem start_capped (a : Nat) : Capped 0 (List.range 64) (startPaths a) := by
  intro st h m e
  simp [startPaths, List.getD, h] at e
  exact ⟨by omega, fun _ => List.mem_range.mpr h⟩

/-- The foldl over the 64 starts keeps the first of the largest metric. -/
theorem keeps_best (T : Int) (bs : List Bool) (ys : List CodePath) (h : ∀ y ∈ ys, ∀ m, y.1 = some m → m < T) :
    ys.foldl betterPath (some T, bs) = (some T, bs) := by
  induction ys with
  | nil => rfl
  | cons y ys ih =>
    have e : betterPath (some T, bs) y = (some T, bs) := by
      obtain ⟨y1, y2⟩ := y
      cases y1 with
      | none => rfl
      | some m =>
        have l := h _ List.mem_cons_self m rfl
        have l' : ¬ T < m := by omega
        simp [betterPath, l, l']
        omega
    rw [List.foldl_cons, e]
    exact ih fun z m => h z (List.mem_cons_of_mem _ m)

theorem zeros_decode (n : Nat) (coded : List Int) (hx : ∀ x ∈ depuncture 1 0 n coded, x.1 < 0 ∧ x.2 ≤ 0) (hl : (depuncture 1 0 n coded).length = n)
    (he : (depuncture 1 0 n coded).foldl nextCap (List.range 64) = [0]) : convDecodeTail 1 n coded = List.replicate n false := by
  let xs := depuncture 1 0 n coded
  let T := xs.foldl (fun t x => t + gainOf x) 0
  have hx' : ∀ x ∈ xs, x.1 ≤ 0 ∧ x.2 ≤ 0 := fun x m => ⟨by have := (hx x m).1; omega, (hx x m).2⟩
  have v0 : viterbi 0 xs = (some T, List.replicate n false) := by
    have := zero_leads (k := 0) (start_capped 0) (by simp [startPaths, List.getD]) xs hx
    rw [Nat.zero_add, hl] at this
    exact this
  have va : ∀ a, 0 < a → a < 64 → ∀ m, (viterbi a xs).1 = some m → m < T := by
    intro a p q m e
    have c := (start_capped a).fold xs hx' a q m e
    rw [he] at c
    rcases Int.lt_or_eq_of_le c.1 with l | l
    · exact l
    · have := c.2 l
      simp at this
      omega
  have r : List.range 64 = 0 :: (List.range 63).map (· + 1) := by decide
  rw [convDecodeTail, r, List.map_cons, List.foldl_cons]
  have e : betterPath (none, []) (viterbi 0 (depuncture 1 0 n coded)) = (some T, List.replicate n false) := v0
  rw [e, keeps_best]
  · simp
  · intro y hy
    obtain ⟨a, ha, rfl⟩ := List.mem_map.mp hy
    obtain ⟨b, hb, rfl⟩ := List.mem_map.mp ha
    exact va _ (by omega) (by have := List.mem_range.mp hb; omega)

theorem block_zeros : infoDecode false (List.replicate 60 (-1)) = zeros 5 := by
  rw [infoDecode]
  show bytesLsbFirst 5 (convDecodeTail 1 40 (deinterleave 15 (List.replicate 60 (-1)))) = _
  rw [zeros_decode]
  · decide +kernel
  · decide +kernel
  · decide +kernel
  · decide +kernel
theorem start_zeros : infoDecode true (List.replicate 216 (-1)) = zeros 18 := by
  rw [infoDecode]
  show bytesLsbFirst 18 (convDecodeTail 1 144 (deinterleave 18 (List.replicate 216 (-1)))) = _
  rw [zeros_decode]
  · decide +kernel
  · decide +kernel
  · decide +kernel
  · decide +kernel


/-- TAG of an all-zero INFO stands in its last four bytes. -/
theorem verifies (s : State) (b : TpBlock) (n k : Nat) (key : List Byte) (link : Nat)
    (a : s.rxSet 1 (RX_CFG_SLOT 1) = 5 ∧ s.tpSlotOk 5 2 = true ∧ s.cphHold = false ∧ (s.slot 5).key = key ∧
      s.rxSet 1 (RX_TP_LINK_ID 1) = link ∧ s.rxSet 1 (RX_TP_DIR 1) = 0) (hn : n < 2 ^ 48)
    (h : tpTag key (tpFixed link 0 0 ++ beBytes 6 n) b (zeros k) = zeros 4) : s.rxVerify 1 b (zeros (k + 4)) n 0 = true := by
  obtain ⟨e, f, g, i, j, l⟩ := a
  simp only [State.rxVerify, e, f, g, i, j, l, hn, decide_true, Bool.not_false, Bool.and_self, Bool.true_and, zeros, List.length_replicate,
    List.take_replicate, List.drop_replicate, Nat.add_sub_cancel, Nat.add_sub_cancel_left, show min k (k + 4) = k by omega]
  rw [zeros] at h
  rw [h]
  rfl
theorem wit_ModemReception_guard : (rxz 90175162895).rxOn 1 = true ∧ (rxz 90175162895).rxTp 1 = true ∧
    (rxz 90175162895).bit (RX_STATUS_RESYNC 1) = false ∧ (rxz 90175162895).get (RX_SESSION_SESSION 1) = 0 ∧
    90175162896 = nextN ((rxz 90175162895).rx 1).nLast (byteAt (infoDecode false (List.replicate 60 (-1))) 0 / 16) ∧
    (rxz 90175162895).rxVerify 1 .guard (infoDecode false (List.replicate 60 (-1))) 90175162896 0 = true := by
  rw [block_zeros]
  refine ⟨by decide +kernel, by decide +kernel, by decide +kernel, by decide +kernel, by decide +kernel, ?_⟩
  exact verifies _ _ _ 1 (zeros 16) 0 (by decide +kernel) (by decide) (by decide +kernel)
theorem wit_ModemReception_command : (rxz 37082470879).rxOn 1 = true ∧ (rxz 37082470879).rxTp 1 = true ∧
    (rxz 37082470879).bit (RX_STATUS_RESYNC 1) = false ∧ (rxz 37082470879).get (RX_SESSION_SESSION 1) = 0 ∧
    37082470880 = nextN ((rxz 37082470879).rx 1).nLast (byteAt (infoDecode false (List.replicate 60 (-1))) 0 / 16) ∧
    (rxz 37082470879).rxVerify 1 (.command 0) (infoDecode false (List.replicate 60 (-1))) 37082470880 0 = true := by
  rw [block_zeros]
  refine ⟨by decide +kernel, by decide +kernel, by decide +kernel, by decide +kernel, by decide +kernel, ?_⟩
  exact verifies _ _ _ 1 (zeros 16) 0 (by decide +kernel) (by decide) (by decide +kernel)
theorem start_tag : tpTag (zeros 12 ++ [0xBF, 0x2F, 0x01, 0x00]) (tpFixed 9087 0 0 ++ beBytes 6 0) .start (zeros 14) = zeros 4 := by decide +kernel
theorem wit_ModemReception_start : (rxk rxp).rxOn 1 = true ∧ (rxk rxp).rxTp 1 = true ∧
    0 = beNat (slice (infoDecode true (List.replicate 216 (-1))) 1 6) ∧ 0 = beNat (slice (infoDecode true (List.replicate 216 (-1))) 7 3) ∧
    (rxk rxp).rxVerify 1 .start (infoDecode true (List.replicate 216 (-1))) 0 0 = true ∧ (rxk rxp).get (RX_SESSION_SESSION 1) ≠ 0 ∧
    (rxk rxp).rxSet 1 (RX_TP_START_WINDOW_S 1) = 0 := by
  rw [start_zeros]
  refine ⟨by decide +kernel, by decide +kernel, by decide +kernel, by decide +kernel, ?_, by decide +kernel, by decide +kernel⟩
  exact verifies _ _ _ 14 _ 9087 (by decide +kernel) (by decide) start_tag
theorem wit_ModemReception_replay : (rxk (rxz 40)).rxOn 1 = true ∧ (rxk (rxz 40)).rxTp 1 = true ∧
    (rxk (rxz 40)).rxVerify 1 .start (infoDecode true (List.replicate 216 (-1))) 0 0 = true ∧ (rxk (rxz 40)).bit (RX_SESSION_VALID 1) = true ∧
    (rxk (rxz 40)).get (RX_SESSION_SESSION 1) = 0 ∧ 0 ≤ ((rxk (rxz 40)).rx 1).nLast := by
  rw [start_zeros]
  refine ⟨by decide +kernel, by decide +kernel, ?_, by decide +kernel, by decide +kernel, by decide +kernel⟩
  exact verifies _ _ _ 14 _ 9087 (by decide +kernel) (by decide) start_tag

/-! ### Sample ports -/

theorem wit_SamplePorts_1 : chk ((spp 0).sptAsked (some m0) 7 && (spp 0).sptState 7 == 0 && (spp 0).sptOn && (spp 0).bit (SPT_CFG_EN 7))
  (execSptStart (some m0) 7 (spp 0))
    (fun t => t.sptState 7 == 1 && (t.sp 7).cfg == 0x80000000) = true := by decide +kernel
theorem wit_SamplePorts_2 : chk ((spp 0).sptAsked none 7 && (spp 0).sptState 7 == 0 && (spp 0).sptOn && (spp 0).bit (SPT_CFG_EN 7))
  (execSptStart none 7 (spp 0))
    (fun t => t.sptState 7 == 1 && (t.sp 7).cfg == 0x80000000) = true := by decide +kernel
theorem wit_SamplePorts_3 : chk (((spp 0).withDev .draining).sptAsked (some m0) 7 && ((spp 0).withDev .draining).sptState 7 == 0 && ((spp 0).withDev .draining).bit (SPT_CFG_EN 7))
  (execSptStart (some m0) 7 ((spp 0).withDev .draining))
    (fun t => t.sptState 7 == 0 && t.bit (SPT_STATUS_CANCELLED 7) && t.out.contains (.sptDone 7 1)) = true := by decide +kernel
theorem wit_SamplePorts_4 : chk ((spp 3).sptAsked none 7 && (spp 3).sptState 7 == 3)
  (execSptStart none 7 (spp 3))
    (fun t => t.sptState 7 == 3 && (t.sp 7).held) = true := by decide +kernel
theorem wit_SamplePorts_5 : chk ((spp 1).sptAsked none 7 && (spp 1).sptState 7 == 1 && !((spp 1).sp 7).held)
  (execSptStop none 7 (spp 1))
    (fun t => t.sptState 7 == 0 && t.bit (SPT_STATUS_CANCELLED 7) && t.out.contains (.sptDone 7 1)) = true := by decide +kernel
theorem wit_SamplePorts_6 : chk ((spp 1).sptAsked (some m0) 7 && (spp 1).sptState 7 == 1)
  (execSptCancel (some m0) 7 (spp 1))
    (fun t => t.sptState 7 == 0 && t.bit (SPT_STATUS_CANCELLED 7) && t.out.contains (.sptDone 7 1)) = true := by decide +kernel
theorem wit_SamplePorts_7 : chk ((spp 2).sptAsked (some m0) 7 && (spp 2).sptState 7 == 2)
  (execSptStop (some m0) 7 (spp 2))
    (fun t => t.sptState 7 == 2 && (t.sp 7).stop) = true := by decide +kernel
theorem wit_SamplePorts_8 : chk ((spx 3 { spRun with held := true }).sptAsked none 7 && (spx 3 { spRun with held := true }).sptState 7 == 3 && ((spx 3 { spRun with held := true }).sp 7).held)
  (execSptCancel none 7 (spx 3 { spRun with held := true }))
    (fun t => t.sptState 7 == 3 && !(t.sp 7).held && t.out.contains (.sptDone 7 1)) = true := by decide +kernel
theorem wit_SamplePorts_9 : chk ((spx 1 { spRun with settle := 4, count := 3 }).sptOn && (spx 1 { spRun with settle := 4, count := 3 }).sptState 7 == 1 && (spx 1 { spRun with settle := 4, count := 3 }).sptHalfOk 7 32 && (spx 1 { spRun with settle := 4, count := 3 }).sptSettleLen 7 ≤ (spx 1 { spRun with settle := 4, count := 3 }).sptCounted 7 32)
  (execSptRunning 7 32 48000 (spx 1 { spRun with settle := 4, count := 3 }))
    (fun t => t.sptState 7 == 2 && t.out == [.sptDone 7 0] && (t.sp 7).half == 32 && t.get (SPT_MEASURE_HALF 7) == 32 && t.lineLevel 240) = true := by decide +kernel
theorem wit_SamplePorts_10 : chk ((spx 1 { spRun with settle := 4, count := 3 }).sptOn && (spx 1 { spRun with settle := 4, count := 3 }).sptState 7 == 1 && (spx 1 { spRun with settle := 4, count := 3 }).sptHalfOk 7 16 && (spx 1 { spRun with settle := 4, count := 3 }).sptCounted 7 16 < (spx 1 { spRun with settle := 4, count := 3 }).sptSettleLen 7)
  (execSptFrame 7 16 16 48000 [] [] true [] (spx 1 { spRun with settle := 4, count := 3 }))
    (fun t => t.sptState 7 == 1 && (t.sp 7).half == 16 && (t.sp 7).count == 1) = true := by decide +kernel
theorem wit_SamplePorts_11 : chk ((spx 1 { spRun with settle := 4, count := 3 }).sptOn && (spx 1 { spRun with settle := 4, count := 3 }).sptState 7 == 1 && !(spx 1 { spRun with settle := 4, count := 3 }).sptHalfOk 7 65)
  (execSptFrame 7 65 65 48000 [] [] true [] (spx 1 { spRun with settle := 4, count := 3 }))
    (fun t => t.sptState 7 == 1 && (t.sp 7).count == 0) = true := by decide +kernel
theorem wit_SamplePorts_12 : chk ((spx 1 { spRun with settle := 4, count := 3 }).sptOn && (spx 1 { spRun with settle := 4, count := 3 }).sptState 7 == 1)
  (execSptFrame 7 32 31 48000 [] [] true [] (spx 1 { spRun with settle := 4, count := 3 }))
    (fun t => t.sptState 7 == 1 && (t.sp 7).count == 0) = true := by decide +kernel
theorem wit_SamplePorts_13 : chk ((spx 2 spRun).sptOn && (spx 2 spRun).sptState 7 == 2 && ((spx 2 spRun).sp 7).half == 32 && !((spx 2 spRun).sp 7).stop)
  (execSptFrame 7 32 31 48000 [] [] true [] (spx 2 spRun))
    (fun t => t.sptState 7 == 1 && t.bit (SPT_STATUS_FRAMING 7) && t.lineLevel 242 && t.out == [] && t.get (SPT_CLKLOSS_COUNT 7) == 1) = true := by decide +kernel
theorem wit_SamplePorts_14 : chk ((spx 2 spRun).sptOn && (spx 2 spRun).sptState 7 == 2 && !(spx 2 spRun).sptOut 7 && !((spx 2 spRun).sp 7).stop && (spx 2 spRun).portLive 2 && (spx 2 spRun).streamRoom (sptPort 7) 1 && bitsOf ((spx 2 spRun).sp 7).cfg 24 1 == 0 &&
  (spx 2 spRun).sptWords 7 32 (List.replicate 16 false ++ [true] ++ List.replicate 46 false ++ [true]) == (0x8000, 1))
  (execSptFrame 7 32 32 48000 (List.replicate 16 false ++ [true] ++ List.replicate 46 false ++ [true]) [] true [] (spx 2 spRun))
    (fun t => t.sptState 7 == 2 && (t.strm (sptPort 7)).buf.map (·.data) == [0x0001000080000000] && t.get (SPT_FRAMES_COUNT 7) == 1) = true := by decide +kernel
theorem wit_SamplePorts_15 : chk ((spx 2 spRun).sptOn && (spx 2 spRun).sptState 7 == 2 && !(spx 2 spRun).sptOut 7 && !((spx 2 spRun).sp 7).stop)
  (execSptFrame 7 32 32 48000 [] [] false [] (spx 2 spRun))
    (fun t => (t.strm (sptPort 7)).buf == [] && t.bit (SPT_STATUS_DROP 7) && t.get (SPT_DROPS_COUNT 7) == 1) = true := by decide +kernel
theorem wit_SamplePorts_16 : chk (((spx 2 spRun).putStrm (sptPort 7) { StreamPort.idle with buf := unitBeats 0 0 (List.replicate 64 0) }).sptOn && ((spx 2 spRun).putStrm (sptPort 7) { StreamPort.idle with buf := unitBeats 0 0 (List.replicate 64 0) }).sptState 7 == 2 && !((spx 2 spRun).putStrm (sptPort 7) { StreamPort.idle with buf := unitBeats 0 0 (List.replicate 64 0) }).sptOut 7 && !((spx 2 spRun).putStrm (sptPort 7) { StreamPort.idle with buf := unitBeats 0 0 (List.replicate 64 0) }).streamRoom (sptPort 7) 1)
  (execSptFrame 7 32 32 48000 [] [] true [] ((spx 2 spRun).putStrm (sptPort 7) { StreamPort.idle with buf := unitBeats 0 0 (List.replicate 64 0) }))
    (fun t => (t.strm (sptPort 7)).buf.length == 64 && t.bit (SPT_STATUS_DROP 7)) = true := by decide +kernel
theorem wit_SamplePorts_17 : chk ((spx 2 { spRun with stop := true }).sptOn && (spx 2 { spRun with stop := true }).sptState 7 == 2 && ((spx 2 { spRun with stop := true }).sp 7).stop && !((spx 2 { spRun with stop := true }).sp 7).held && (spx 2 { spRun with stop := true }).sptReleaseLen 7 == 5)
  (execSptFrame 7 32 32 48000 [] [] true [] (spx 2 { spRun with stop := true }))
    (fun t => t.sptState 7 == 3) = true := by decide +kernel
theorem wit_SamplePorts_18 : chk ((spx 2 { spRun with stop := true, settle := 9 }).sptOn && (spx 2 { spRun with stop := true, settle := 9 }).sptState 7 == 2 && ((spx 2 { spRun with stop := true, settle := 9 }).sp 7).stop && !((spx 2 { spRun with stop := true, settle := 9 }).sp 7).held && (spx 2 { spRun with stop := true, settle := 9 }).sptReleaseLen 7 == 0)
  (execSptFrame 7 32 32 48000 [] [] true [] (spx 2 { spRun with stop := true, settle := 9 }))
    (fun t => t.sptState 7 == 0) = true := by decide +kernel
theorem wit_SamplePorts_19 : chk ((spOut [(0xABCD0000, 0x12340000), (0, 0)]).sptOn && (spOut [(0xABCD0000, 0x12340000), (0, 0)]).sptState 7 == 2 && (spOut [(0xABCD0000, 0x12340000), (0, 0)]).sptOut 7 && !((spOut [(0xABCD0000, 0x12340000), (0, 0)]).sp 7).stop && (spOut [(0xABCD0000, 0x12340000), (0, 0)]).portLive 2)
  (execSptFrame 7 32 32 48000 [] [] true [(1, 1)] (spOut [(0xABCD0000, 0x12340000), (0, 0)]))
    (fun t => t.out == [.sptBits 7 true ((spOut [(0xABCD0000, 0x12340000), (0, 0)]).sptFrameBits 7 32 0xABCD 0x1234)] && (t.sp 7).buf == [(0, 0), (1, 1)]) = true := by decide +kernel
theorem wit_SamplePorts_20 : chk ((spOut []).sptOn && (spOut []).sptState 7 == 2 && (spOut []).sptOut 7 && ((spOut []).sp 7).buf == [])
  (execSptFrame 7 32 32 48000 [] [] true [] (spOut []))
    (fun t => t.out == [.sptBits 7 true (List.replicate 64 false)] && t.bit (SPT_STATUS_UNDER 7)) = true := by decide +kernel
theorem wit_SamplePorts_21 : chk ((spx 2 spRun).sptOn && (spx 2 spRun).sptState 7 == 2 && !((spx 2 spRun).sp 7).stop)
  (execSptClockLoss 7 true (spx 2 spRun))
    (fun t => t.sptState 7 == 1 && t.bit (SPT_STATUS_CLK_LOSS 7) && !t.bit (SPT_STATUS_BCK_PRESENT 7)) = true := by decide +kernel
theorem wit_SamplePorts_22 : chk ((spx 3 spRun).sptOn && (spx 3 spRun).sptState 7 == 3 && !((spx 3 spRun).sp 7).held)
  (execSptClockLoss 7 false (spx 3 spRun))
    (fun t => t.sptState 7 == 0) = true := by decide +kernel
theorem wit_SamplePorts_23 : chk ((spx 3 spRun).sptOn && (spx 3 spRun).sptState 7 == 3 && ((spx 3 spRun).sp 7).count + 1 < (spx 3 spRun).sptReleaseLen 7)
  (execSptFrame 7 32 32 48000 [] [] true [] (spx 3 spRun))
    (fun t => t.sptState 7 == 3 && (t.sp 7).count == 1) = true := by decide +kernel
theorem wit_SamplePorts_24 : chk ((spx 3 { spRun with count := 4 }).sptState 7 == 3 && (spx 3 { spRun with count := 4 }).sptReleaseLen 7 ≤ ((spx 3 { spRun with count := 4 }).sp 7).count + 1 && !((spx 3 { spRun with count := 4 }).sp 7).held)
  (execSptReleaseEnd 7 (spx 3 { spRun with count := 4 }))
    (fun t => t.sptState 7 == 0 && t.lineLevel 241) = true := by decide +kernel
theorem wit_SamplePorts_25 : chk ((spx 3 { spRun with count := 4, held := true }).sptState 7 == 3 && (spx 3 { spRun with count := 4, held := true }).sptReleaseLen 7 ≤ ((spx 3 { spRun with count := 4, held := true }).sp 7).count + 1 && ((spx 3 { spRun with count := 4, held := true }).sp 7).held && (spx 3 { spRun with count := 4, held := true }).bit (SPT_CFG_EN 7))
  (execSptReleaseEnd 7 (spx 3 { spRun with count := 4, held := true }))
    (fun t => t.sptState 7 == 1) = true := by decide +kernel

/-! ### Pins and wear -/

theorem wit_PinsAndWear_1 : chk (pinb.commandOk m0 (PIN_BANK_CFG 5) && pinb.opened (PIN_BANK_CFG 5) && bitsOf (0x1#32) 0 1 != pinb.get
  (PIN_BANK_CFG_MODE 5)) (execPinModeChange m0 5 1 pinb)
    (fun t => t.get (PIN_BANK_CFG_MODE 5) == 1 && t.lineLevel 245 && bitsOf (t.word (PIN_EFF 5 0)) 20 4 == t.pinFunc 5 5 &&
      t.pinFunc 5 5 == 1 && t.pinFunc 5 4 == 0) = true := by decide +kernel
theorem wit_PinsAndWear_2 : chk (pinf.commandOk m0 (PIN_CLAIM 5) && pinf.opened (PIN_CLAIM 5)) (execPinClaimChange m0 5 0x210 pinf)
    (fun t => t.get (PIN_CLAIM_EN 5) == 0x84 && bitsOf (t.word (PIN_EFF 5 1)) 8 4 == 4 && (t.word (PIN_CONFLICT 5)).getLsbD 10 &&
      !(t.word (PIN_CONFLICT 5)).getLsbD 16) = true := by decide +kernel
theorem wit_PinsAndWear_3 : chk ((base.clr ⟨PWR_RAILS, 13, 1⟩).dev != .off && !(base.clr ⟨PWR_RAILS, 13, 1⟩).railOk 13)
  (execBankIoUp 5 (base.clr ⟨PWR_RAILS, 13, 1⟩))
    (fun t => t.railOk 13 && t.bit (pinIoOk 5) && t.bit (pinCfgDone 5) && t.lineLevel 246) = true := by decide +kernel
theorem wit_PinsAndWear_4 : chk (base.railOk 13) (execBankIoDown 5 base)
    (fun t => !t.railOk 13 && !t.bit (pinIoOk 5) && !t.bit (pinCfgDone 5)) = true := by decide +kernel
theorem wit_PinsAndWear_5 : chk (base.commandOk m0 WEAR_CMD && base.dev == .running) (execWearMeasure m0 guardKey base)
    (fun t => t.bit WEAR_STATUS_BUSY) = true := by decide +kernel
theorem wit_PinsAndWear_6 : chk (base.commandOk m0 WEAR_CMD) (execWearMeasure m0 7 base)
    (fun t => !t.bit WEAR_STATUS_BUSY) = true := by decide +kernel
theorem wit_PinsAndWear_7 : chk ((wear.put WEAR_CFG_MEAS_H 1).dev == .running && (wear.put WEAR_CFG_MEAS_H 1).get WEAR_CFG_MEAS_H != 0 && wear.bit
  WEAR_STATUS_BUSY) (execWearSchedule (wear.put WEAR_CFG_MEAS_H 1))
    (fun t => t.bit WEAR_STATUS_BUSY && t.wear.waits) = true := by decide +kernel
theorem wit_PinsAndWear_8 : chk (wear.bit WEAR_STATUS_BUSY && !wear.wear.waits) (execWearMeasureDone (List.replicate 16 ⟨0, 1000, 40⟩) wear)
    (fun t => !t.bit WEAR_STATUS_BUSY && t.get WEAR_COUNT_COUNT == 1 && t.bit WEAR_STATUS_NO_COUNT && t.word (WEAR_PAIR 15) == 0) = true := by
  decide +kernel
theorem wit_PinsAndWear_9 : chk (wearW.bit WEAR_STATUS_BUSY && wearW.wear.waits && wearW.dev == .running)
  (execWearMeasureDone (List.replicate 16 ⟨5, 0, 40⟩) wearW)
    (fun t => t.bit WEAR_STATUS_BUSY && !t.wear.waits) = true := by decide +kernel
theorem wit_PinsAndWear_10 : (wear.bit WEAR_STATUS_BUSY && (wear.put WEAR_CFG_LIMIT_PPM 0).get WEAR_CFG_LIMIT_PPM == 0 &&
    !wear.wear.reached.getLsbD 15) = true := by decide +kernel
theorem wit_PinsAndWear_11 : (base.dev == .running && [91, 100, -5].foldl max (-273) == 100) = true := by decide +kernel
theorem wit_PinsAndWear_12 : (eqUnits 90 == 17 && tjBin 95 == 2 && tjBin 59 == 0 && tjBin 96 == 3) = true := by decide +kernel

/-! ### The Binnacle port -/

theorem wit_BinnaclePort_1 : chk ((bin []).binOn) (execBnRead 0x407 0 (bin []))
    (fun t => t.out.contains (.bnData ((bin []).windowWord 0x407) (par 0x407 ((bin []).windowWord 0x407))) && t.bin ==
      (bin []).bin) = true := by decide +kernel
theorem wit_BinnaclePort_2 : chk (bnPage 0x3FF == 0) (execBnRead 0x3FF 2 (bin []))
    (fun t => t.out.contains (.bnData 0 (~~~par 0x3FF 0)) && t.bit BIN_STATUS_SHADOW_ECC && t.bit
      (pendingFld 6)) = true := by decide +kernel
theorem wit_BinnaclePort_3 : chk ((binAp 0x40001000).bnPass 0xFC02 5 0xF 0 && bnPage 0xFC02 == 63) (execBnApertureWrite 0xFC02 5 0xF 0
  (binAp 0x40001000))
    (fun t => t.bin.queue == [.post 0x40001008 5 0xF] && t.get BIN_STATUS_WQ_USED == 1) = true := by decide +kernel
theorem wit_BinnaclePort_4 : chk (bin16.word (BIN_AP 63) != 0 && 16 ≤ bin16.bin.queue.length) (execBnApertureWrite 0xFC02 5 0xF 0 bin16)
    (fun t => t.bin == bin16.bin && t.bit BIN_STATUS_WQ_OVF && t.get BIN_WDROPS_COUNT == 1) = true := by decide +kernel
theorem wit_BinnaclePort_5 : chk ((binAp 0).word (BIN_AP 63) == 0) (execBnApertureWrite 0xFC02 5 0xF 0 (binAp 0))
    (fun t => t.bin == (binAp 0).bin && t.bit BIN_STATUS_WERR && t.get BIN_WDROPS_COUNT == 1) = true := by decide +kernel
theorem wit_BinnaclePort_6 : chk (!(parc (bin [])).bnPass 0x800 0 0xF 0) (execBnApertureWrite 0x800 0 0xF 0 (parc (bin [])))
    (fun t => t.bin == (bin []).bin && t.bit BIN_STATUS_PAR_W && t.bit (pendingFld 4) &&
      t.get BIN_PARERRS_COUNT == 1) = true := by decide +kernel
theorem wit_BinnaclePort_7 : chk (!(parc (bin [])).bnPass 0x402 5 0xF 0) (execBnPage1Write 0x402 5 0xF 0 (parc (bin [])))
    (fun t => t.bit BIN_STATUS_PAR_W && t.word BIN_IRQ_EN == 0) = true := by decide +kernel
theorem wit_BinnaclePort_8 : chk ((parc ((bin []).withMask [(BIN_IRQ_EN, 0xFFFFFFFF)])).bnPass 0x402 0xF005 0xF (par 0x402 0xF005) &&
  ((bin []).withMask [(BIN_IRQ_EN, 0xFFFFFFFF)]).opened BIN_IRQ_EN) (execBnPage1Write 0x402 0xF005 0xF (par 0x402 0xF005) (parc
  ((bin []).withMask [(BIN_IRQ_EN, 0xFFFFFFFF)])))
    (fun t => t.get BIN_IRQ_EN_EN == 0xF005 && t.bin == (bin []).bin) = true := by decide +kernel
theorem wit_BinnaclePort_9 : chk ((bin [.post (BitVec.ofNat 32 FIX_SET_SEC_LO) 77 0xF]).busTakes 12 && (bin [.post
  (BitVec.ofNat 32 FIX_SET_SEC_LO) 77 0xF]).commandOk (Acc.whole 12) FIX_SET_SEC_LO) (execWriteQueueDrain (bin [.post
  (BitVec.ofNat 32 FIX_SET_SEC_LO) 77 0xF]))
    (fun t => t.word FIX_SET_SEC_LO == 77 && t.bin.queue == [] && t.get BIN_STATUS_WQ_USED == 0) = true := by decide +kernel
theorem wit_BinnaclePort_10 : chk ((blockOf (0x60000000 / 4 * 4)).isNone) (execWriteQueueDrain (bin [.post 0x60000000 77 0xF]))
    (fun t => t.bin.queue == [] && t.bit BIN_STATUS_WERR && t.get BIN_STATUS_CODE == 1 &&
      t.word BIN_WERR_ADDR == 0x60000000) = true := by decide +kernel
theorem wit_BinnaclePort_11 : chk (!(bin []).bit BIN_IND_STATUS_BUSY) (execBinIndRead ((bin []).putWord BIN_IND_ADDR 0x40000000))
    (fun t => t.bin.queue == [.indRead 0x40000000] && t.bit BIN_IND_STATUS_BUSY) = true := by decide +kernel
theorem wit_BinnaclePort_12 : chk (true) (execBinIndWrite 9 (((bin []).putWord BIN_IND_ADDR 0x40000004).putWord BIN_IND_WDATA 6))
    (fun t => t.bit BIN_IND_STATUS_BUSY && t.bin.queue == [.indWrite 0x40000004 6 9]) = true := by decide +kernel
theorem wit_BinnaclePort_13 : chk (true) (execBinIndRead ((bin []).set BIN_IND_STATUS_BUSY))
    (fun t => t.bin == (bin []).bin && t.bit BIN_IND_STATUS_BUSY_ERR) = true := by decide +kernel
theorem wit_BinnaclePort_14 : chk (true) (execBinIndWrite 3 ((bin []).set BIN_IND_STATUS_BUSY))
    (fun t => t.bin == (bin []).bin && t.bit BIN_IND_STATUS_BUSY_ERR) = true := by decide +kernel
theorem wit_BinnaclePort_15 : chk ((bin [.indRead (BitVec.ofNat 32 PWR_RAILS)]).busTakes 12 && blockOf (PWR_RAILS / 4 * 4) != some 20)
  (execIndComplete none ((bin [.indRead (BitVec.ofNat 32 PWR_RAILS)]).set BIN_IND_STATUS_BUSY))
    (fun t => t.bin.queue == [] && !t.bit BIN_IND_STATUS_BUSY && t.bit BIN_IND_STATUS_DONE && t.get BIN_IND_STATUS_RESP == 0 &&
      t.word BIN_IND_RDATA == 0x3F3F) = true := by decide +kernel
theorem wit_BinnaclePort_16 : chk (true) (execIndComplete none (bin [.indWrite 0x60000000 1 0xF]))
    (fun t => t.bin.queue == [] && t.bit BIN_IND_STATUS_DONE && t.get BIN_IND_STATUS_RESP == 1) = true := by decide +kernel
theorem wit_BinnaclePort_17 : chk (mirr.portLive 13 && mirr.binOn) (execMirrorWrite 1023 0x11223344 0b0101 mirr)
    (fun t => cellRead t.bin.mirror 1023 == 0x00220044 && t.regs == mirr.quiet.regs) = true := by decide +kernel
theorem wit_BinnaclePort_18 : chk (mirr.bnPass 5 9 1 0 && mirr.bit BIN_STATUS_MIRROR_LIVE && mirr.portLive 13 && mirr.streamRoom hostPort 1) (execHostMirrorWrite 5 9 1 0 true mirr)
    (fun t => (t.strm hostPort).buf == unitBeats (5 + 1024) 0 [9] && t.out == []) = true := by decide +kernel
theorem wit_BinnaclePort_19 : chk (mirr.bnPass 5 9 1 0) (execHostMirrorWrite 5 9 1 0 false mirr)
    (fun t => t.out == [] && t.get BIN_WDROPS_COUNT == 1) = true := by decide +kernel
theorem wit_BinnaclePort_20 : chk (mirr.bit BIN_STATUS_MIRROR_LIVE) (execMdbRise mirr)
    (fun t => t.bit BIN_IRQ_STATUS_DOORBELL) = true := by decide +kernel
theorem wit_BinnaclePort_21 : chk ((bin []).binOn) (execApFillDone 63 ((bin []).withBin { (bin []).bin with filling := [(63, 0),
  (2, 0)] }))
    (fun t => t.bin.filling == [(2, 0)] && t.bit BIN_STATUS_AP_BUSY) = true := by decide +kernel
theorem wit_BinnaclePort_22 : chk ((bin []).binOn) (execBnLatchExpiry ((bin []).withBin {
  (bin []).bin with latches := [[(1, 2)], [(3, 4)]] }))
    (fun t => t.bin.latches == [[(3, 4)]]) = true := by decide +kernel
theorem wit_BinnaclePort_23 : chk (let s := mirr.putStrm hostPort { StreamPort.idle with buf := unitBeats 0 0 (List.replicate 16 0) }; s.bit BIN_STATUS_MIRROR_LIVE && s.portLive 13 && !s.streamRoom hostPort 1) (execHostMirrorWrite 5 9 1 0 true (mirr.putStrm hostPort { StreamPort.idle with buf := unitBeats 0 0 (List.replicate 16 0) }))
    (fun t => (t.strm hostPort).buf.length == 16 && t.get BIN_WDROPS_COUNT == 1) = true := by decide +kernel

/-! ### The Watchkeeper -/

theorem wit_MonitorObserveCommands_1 : chk (mon.monReady) (execMonHelp none mon) (fun t => okIs t) = true := by decide +kernel
theorem wit_MonitorObserveCommands_2 : chk (mon.monReady) (execMonStatus mon) (fun t => okIs t) = true := by decide +kernel
theorem wit_MonitorObserveCommands_3 : chk (mon.monReady) (execMonFault mon) (fun t => okIs t) = true := by decide +kernel
theorem wit_MonitorObserveCommands_4 : chk (mon.monReady) (execMonFix mon) (fun t => okIs t) = true := by decide +kernel
theorem wit_MonitorObserveCommands_5 : chk (mon.monReady) (execMonPartial mon) (fun t => okIs t) = true := by decide +kernel
theorem wit_MonitorObserveCommands_6 : chk (mon.monReady) (execMonImage false mon) (fun t => okIs t) = true := by decide +kernel
theorem wit_MonitorObserveCommands_7 : chk (mon.monReady) (execMonSound none mon) (fun t => okIs t) = true := by decide +kernel
theorem wit_MonitorObserveCommands_8 : chk (mon.monReady) (execMonLog true 1 mon) (fun t => okIs t) = true := by decide +kernel
theorem wit_MonitorObserveCommands_9 : (mon.monReady) = true := by decide +kernel
theorem wit_MonitorObserveCommands_10 : (mon.monReady) = true := by decide +kernel
theorem wit_MonitorObserveCommands_11 : (0 < 1024) = true := by decide +kernel
theorem wit_MonitorObserveCommands_12 : chk (mon.monReady) (execMonLanes (some 23) mon) (fun t => okIs t) = true := by decide +kernel
theorem wit_MonitorObserveCommands_13 : chk (mon.monReady) (execMonSound (some 11) mon) (fun t => okIs t) = true := by decide +kernel
theorem wit_MonitorObserveCommands_14 : chk (mon.monReady) (execMonSlots (some 63) false mon)
    (fun t => okIs t) = true := by decide +kernel
theorem wit_MonitorObserveCommands_15 : (10 < 11) = true := by decide +kernel
theorem wit_MonitorObserveCommands_16 : chk (mon.monReady) (execMonBands 11 mon)
    (fun t => errIs t 3 "ERR 0x03 RANGE") = true := by decide +kernel
theorem wit_MonitorObserveCommands_17 : chk (monRange PWR_RAILS && !monSecret PWR_RAILS && blockOf PWR_RAILS != some 20 &&
  blockOf PWR_RAILS != some 18) (execMonPeek (BitVec.ofNat 32 PWR_RAILS) 1 mon)
    (fun t => okIs t && t.out.contains (.text (wordLine PWR_RAILS 0x3F3F)) && t.mask == mon.mask) = true := by decide +kernel
theorem wit_MonitorObserveCommands_18 : chk (monSecret (CFG_FUSE_DATA 7) && monRange (CFG_FUSE_DATA 7)) (execMonPeek (BitVec.ofNat 32
  (CFG_FUSE_DATA 7)) 1 mon)
    (fun t => errIs t 5 "ERR 0x05 REFUSED" && t.get MON_REFUSED_COUNT == 1) = true := by decide +kernel
theorem wit_MonitorObserveCommands_19 : chk (PWR_RAILS % 4 == 0) (execMonPeek (BitVec.ofNat 32 PWR_RAILS) 65 mon)
    (fun t => errIs t 3 "ERR 0x03 RANGE") = true := by decide +kernel
theorem wit_MonitorObserveCommands_20 : chk (mon.monReady) (execMonImage true mon)
    (fun t => errIs t 5 "ERR 0x05 REFUSED") = true := by decide +kernel
theorem wit_MonitorObserveCommands_21 : chk (mon.monReady) (execMonSlots (some 3) true mon)
    (fun t => errIs t 5 "ERR 0x05 REFUSED") = true := by decide +kernel
theorem wit_MonitorObserveCommands_22 : chk ((firstToken [0x20, 0x20]).isEmpty) (execCommandLine [0x20, 0x20] 0 mon)
    (fun t => t.out == [.text "yl> "] && t.get MON_CMD_COUNT_COUNT == 0) = true := by decide +kernel
theorem wit_MonitorObserveCommands_23 : chk ((firstToken []).isEmpty) (execCommandLine [] 0 ctl)
    (fun t => t.out == [.text "yl# "]) = true := by decide +kernel
theorem wit_MonitorObserveCommands_24 : chk (128 < (List.replicate 129 (0x61#8)).length) (execCommandLine (List.replicate 129
  (0x61#8)) 0 mon)
    (fun t => errIs t 12 "ERR 0x0C LINE_LONG") = true := by decide +kernel
theorem wit_MonitorObserveCommands_25 : chk (mon.monReady) (execCommandLine (textOf "xyzzy") 1 mon)
    (fun t => errIs t 1 "ERR 0x01 UNKNOWN") = true := by decide +kernel
theorem wit_MonitorObserveCommands_26 : chk (mon.monReady) (execCommandLine (textOf "peek zz") 0 mon)
    (fun t => errIs t 2 "ERR 0x02 SYNTAX") = true := by decide +kernel
theorem wit_MonitorObserveCommands_27 : chk (mon.monReady) (execCommandLine (textOf "poke zz") 0 mon)
    (fun t => errIs t 4 "ERR 0x04 LEVEL") = true := by decide +kernel
theorem wit_MonitorObserveCommands_28 : chk (ctl.monReady) (execCommandLine (textOf "poke zz") 0 ctl)
    (fun t => errIs t 2 "ERR 0x02 SYNTAX") = true := by decide +kernel

theorem wit_MonitorLoginAndControlLevel_1 :
    ((mkey mon).monReady && ((mkey mon).slot 63).valid && !(mkey mon).bit CPH_STATUS_RNG_FAIL &&
      !(mkey mon).cph.rngFails) = true := by decide +kernel
theorem wit_MonitorLoginAndControlLevel_2 : chk ((mkey mon).cph.challenge.isEmpty) (execMonLoginResponse (zeros 16) (mkey mon))
    (fun t => errIs t 14 "ERR 0x0E STATE") = true := by decide +kernel
theorem wit_MonitorLoginAndControlLevel_3 : chk (!(chal mon 2).cph.challenge.isEmpty && !(chal mon 2).cphHold && !(chal mon 2).loginPass [])
  (execMonLoginResponse [] (chal mon 2))
    (fun t => t.mon.fails == 3 && t.cph.challenge.isEmpty && !t.bit MON_STATUS_LOCKED && errIs t 8 "ERR 0x08 LOGIN_FAIL" &&
      !t.monControl) = true := by decide +kernel
theorem wit_MonitorLoginAndControlLevel_4 : chk (!(chal mon 3).cphHold && !(chal mon 3).loginPass [] && (chal mon 3).mon.fails == 3) (execMonLoginResponse []
  (chal mon 3))
    (fun t => t.mon.fails == 0 && t.bit MON_STATUS_LOCKED && t.lineLevel 254 &&
      errIs t 8 "ERR 0x08 LOGIN_FAIL") = true := by decide +kernel
theorem wit_MonitorLoginAndControlLevel_5 : chk (locked.monReady && locked.bit MON_STATUS_LOCKED) (execMonLogin locked)
    (fun t => errIs t 9 "ERR 0x09 LOCKED") = true := by decide +kernel
theorem wit_MonitorLoginAndControlLevel_6 : chk (locked.monReady) (execMonLoginResponse (zeros 16) locked)
    (fun t => errIs t 9 "ERR 0x09 LOCKED" && t.cph == locked.cph) = true := by decide +kernel
theorem wit_MonitorLoginAndControlLevel_7 : chk (mon.monReady && !(mon.slot 63).valid) (execMonLogin mon)
    (fun t => errIs t 10 "ERR 0x0A NO_KEY") = true := by decide +kernel
theorem wit_MonitorLoginAndControlLevel_8 : chk (ctl.monReady) (execMonLoginOff ctl)
    (fun t => !t.monControl && okIs t && t.lineLevel 252) = true := by decide +kernel
theorem wit_MonitorLoginAndControlLevel_9 : chk (ctl.monReady) (execMonIdleExpiry ctl)
    (fun t => !t.monControl) = true := by decide +kernel
theorem wit_MonitorLoginAndControlLevel_10 : chk (ctl.commandOk m0 MON_CTRL) (execEndControl m0 guardKey ctl)
    (fun t => !t.monControl) = true := by decide +kernel
theorem wit_MonitorLoginAndControlLevel_11 : chk ((mkey ctl).commandOk m0 MON_CTRL) (execEndControl m0 7 (mkey ctl))
    (fun t => t.monControl) = true := by decide +kernel
theorem wit_MonitorLoginAndControlLevel_12 : chk ((scan mon).monRuns && (scan mon).mon.eye != none) (execMonAbort (scan mon))
    (fun t => t.mon.eye == none && errIs t 11 "ERR 0x0B ABORTED") = true := by decide +kernel
theorem wit_MonitorLoginAndControlLevel_13 : chk ((scan (mkey ctl)).monControl && (scan (mkey ctl)).mon.due == 0) (execMonIdleExpiry
  (scan (mkey ctl)))
    (fun t => t.monControl && t.mon.due == 2) = true := by decide +kernel
theorem wit_MonitorLoginAndControlLevel_14 : chk (locked.dev != .off && locked.dev != .watch) (execMonLockoutEnd locked)
    (fun t => !t.bit MON_STATUS_LOCKED) = true := by decide +kernel
theorem wit_MonitorLoginAndControlLevel_15 : chk ((muted (chal mon 2)).monReady && !(muted (chal mon 2)).bit MON_STATUS_LOCKED && ((muted (chal mon 2)).slot 63).valid && !(muted (chal mon 2)).cph.challenge.isEmpty &&
  (muted (chal mon 2)).cphHold) (execMonLoginResponse (zeros 16) (muted (chal mon 2)))
    (fun t => t.cph.challenge == zeros 16 && !t.monControl && t.mon.fails == 2) = true := by decide +kernel

theorem wit_MonitorControlCommands_1 : chk (mon.monReady && !mon.monControl) (execMonPoke 0 0 mon)
    (fun t => errIs t 4 "ERR 0x04 LEVEL" && t.cph == mon.cph && t.load == mon.load && t.fab == mon.fab) = true := by decide +kernel
theorem wit_MonitorControlCommands_2 : chk (!mon.monControl) (execMonSlotsZero mon)
    (fun t => errIs t 4 "ERR 0x04 LEVEL" && t.cph == mon.cph) = true := by decide +kernel
theorem wit_MonitorControlCommands_3 : chk (ctl.monReady && ctl.commandOk (Acc.whole 13) WCH_SET_SEC_LO) (execMonPoke
  (BitVec.ofNat 32 WCH_SET_SEC_LO) 77 ctl)
    (fun t => t.word WCH_SET_SEC_LO == 77 && okIs t) = true := by decide +kernel
theorem wit_MonitorControlCommands_4 : chk (ctl.commandOk (Acc.whole 13) WCH_SET_SEC_LO) (execMonFill
  (BitVec.ofNat 32 WCH_SET_SEC_LO) 1 78 ctl)
    (fun t => t.word WCH_SET_SEC_LO == 78 && okIs t) = true := by decide +kernel
theorem wit_MonitorControlCommands_5 : chk (ctl.busTakes 13 && blockOf 0x60000000 == none) (execMonPoke 0x60000000 1 ctl)
    (fun t => errIs t 6 "ERR 0x06 BUS NOMAP") = true := by decide +kernel
theorem wit_MonitorControlCommands_6 : chk (ctl.monReady) (execMonFill 0x60000000 1025 1 ctl)
    (fun t => errIs t 3 "ERR 0x03 RANGE") = true := by decide +kernel
theorem wit_MonitorControlCommands_7 : chk ((ctl.set (pendingFld 43)).commandOk (Acc.whole 13) GRD_CMD && ctl.grd.insts == [])
  (execMonFaultClear (ctl.set (pendingFld 43)))
    (fun t => okIs t && !t.bit (pendingFld 43)) = true := by decide +kernel
theorem wit_MonitorControlCommands_8 : chk ((ctl.set (LNK_STATUS_UP 23)).commandOk (Acc.whole 13) (LNK_EYE_CTRL 23) && !(ctl.set
  (LNK_STATUS_UP 23)).bit (LNK_EYE_CTRL_START 23)) (execMonEye 23 (0 - 32) (0 - 32) 127 127 15 (ctl.set (LNK_STATUS_UP 23)))
    (fun t => t.mon.eye == some (23, 15, [(0 - 32, 127)]) && t.bit (LNK_EYE_CTRL_START 23)) = true := by decide +kernel
theorem wit_MonitorControlCommands_9 : chk (!ctl.bit (LNK_STATUS_UP 0)) (execMonEye 0 31 31 (0 - 128) (0 - 128) 0 ctl)
    (fun t => errIs t 14 "ERR 0x0E STATE" && t.mon.eye == none) = true := by decide +kernel
theorem wit_MonitorControlCommands_10 : chk (ctlRad.radioPowered && coefInLimits est1 &&
  [SMP_STAGE_OFFSET, SMP_STAGE_GAIN, SMP_STAGE_SKEW, SMP_STAGE_BW, SMP_COEF_CMD].all (ctlRad.commandOk (Acc.whole 13)))
  (execMonSoundApply 11 est1 ctlRad)
    (fun t => t.coefSet 11 == est1 && okIs t) = true := by decide +kernel
theorem wit_MonitorControlCommands_11 : chk (ctlRad.radioPowered && !coefInLimits estBad) (execMonSoundApply 0 estBad ctlRad)
    (fun t => errIs t 3 "ERR 0x03 RANGE" && t.smp == ctlRad.smp) = true := by decide +kernel
theorem wit_MonitorControlCommands_12 : chk (ctlRad.commandOk (Acc.whole 13) SMP_COEF_CMD && !ctlRad.faulty 7)
  (execMonSoundForce 7 ctlRad)
    (fun t => t.smp.forced == 0x80 && okIs t) = true := by decide +kernel
theorem wit_MonitorControlCommands_13 : chk ([0, 1, 2].all (fun i => bandM.commandOk (Acc.whole 13) (PLL_BAND0 10 63 + 4 * i) &&
  bandM.opened (PLL_BAND0 10 63 + 4 * i)) && !bandM.bandInUse 10 63) (execMonBandsWrite 10 63 63 5 9 bandM)
    (fun t => t.get (PLL_BAND0_CODE 10 63) == 63 && t.word (PLL_BAND1 10 63) == 5 && t.word
      (PLL_BAND2 10 63) == 9) = true := by decide +kernel
theorem wit_MonitorControlCommands_14 : chk (ctl.commandOk (Acc.whole 13) CFG_CMD && !ctl.bit CFG_AUDIT_STATUS_RUNNING &&
  !ctl.bit CFG_NVM_STATUS_BUSY) (execMonImageAudit true ctl)
    (fun t => t.bit CFG_AUDIT_STATUS_RUNNING && t.bit CFG_AUDIT_STATUS_TARGET && okIs t) = true := by decide +kernel
theorem wit_MonitorControlCommands_15 : chk (ctl.commandOk (Acc.whole 13) CFG_CMD) (execMonImageReload false ctl)
    (fun t => t.dev == .draining) = true := by decide +kernel
theorem wit_MonitorControlCommands_16 : chk (ctl.commandOk (Acc.whole 13) SCR_PR_CMD && ctl.commandOk (Acc.whole 13) SCR_PR_SRC &&
  ctl.released && ctl.prBankOk 15 20 && ctl.get SCR_PR_STATE_PHASE == 0) (execMonPartialLoad 15 20 ctl)
    (fun t => t.get SCR_PR_STATE_PHASE == 1 && t.get SCR_PR_STATUS_REGION == 15 && okIs t) = true := by decide +kernel
theorem wit_MonitorControlCommands_17 : chk ((ctl.put SCR_PR_STATE_PHASE 4).get SCR_PR_STATE_PHASE != 0) (execMonPartialLoad 15 20
  (ctl.put SCR_PR_STATE_PHASE 4))
    (fun t => errIs t 13 "ERR 0x0D BUSY" && t.load == ctl.load) = true := by decide +kernel
theorem wit_MonitorControlCommands_18 : chk ((ctl.put SCR_PR_STATE_PHASE 1).commandOk (Acc.whole 13) SCR_PR_CMD) (execMonPartialCancel
  (ctl.put SCR_PR_STATE_PHASE 1))
    (fun t => t.get SCR_PR_STATE_PHASE == 0 && t.get SCR_PR_STATUS_CODE == 1) = true := by decide +kernel
theorem wit_MonitorControlCommands_19 : chk ((mkey ctl).monReady) (execMonSlotsErase (mkey ctl))
    (fun t => t.slot 63 == Slot.erased && !t.monControl) = true := by decide +kernel
theorem wit_MonitorControlCommands_20 : chk ((mkey ctl).commandOk (Acc.whole 13) CPH_ZERO) (execMonSlotsZero (mkey ctl))
    (fun t => t.slot 63 == Slot.erased && t.slot 0 == Slot.erased && !t.monControl) = true := by decide +kernel

/-! ### Ill-formed commands are refused -/

theorem test_illFormed_chunkRead : Instr.wellFormed (.chunkRead (some (zeros 15))) = false ∧ Instr.wellFormed (.chunkRead (some (zeros 16))) = true := by decide +kernel
theorem test_illFormed_headerRecord : Instr.wellFormed (.headerRecord (zeros 127)) = false ∧ Instr.wellFormed (.headerRecord (zeros 128)) = true := by decide +kernel
theorem test_illFormed_auditDone : Instr.wellFormed (.auditDone (zeros 129) []) = false ∧ Instr.wellFormed (.auditDone (zeros 128) []) = true := by decide +kernel
theorem test_illFormed_nvmOpDone : Instr.wellFormed (.nvmOpDone true (zeros 257)) = false ∧ Instr.wellFormed (.nvmOpDone true (zeros 256)) = true := by decide +kernel
theorem test_illFormed_scrubRead : Instr.wellFormed (.scrubRead 0 0 [5, 5]) = false ∧ Instr.wellFormed (.scrubRead 0 0 [5, 6]) = true := by decide +kernel
theorem test_illFormed_prbsLock : Instr.wellFormed (.prbsLock 0 true 7 8) = false ∧ Instr.wellFormed (.prbsLock 0 true 8 8) = true := by decide +kernel
theorem test_illFormed_rateStepEnd : Instr.wellFormed (.rateStepEnd 0 true 7 8 false) = false ∧ Instr.wellFormed (.rateStepEnd 0 true 8 8 false) = true := by decide +kernel
theorem test_illFormed_dGo : Instr.wellFormed (.dGo (.fabric ⟨64, 32, 16, 0, 0, [0, 0, 0], List.replicate 4 0⟩) 0 0) = false ∧ Instr.wellFormed (.dGo (.fabric ⟨64, 32, 16, 0, 0, [0, 0], List.replicate 4 0⟩) 0 0) = true := by decide +kernel
theorem test_illFormed_qSubmit : Instr.wellFormed (.qSubmit (.stream [0] none) 0 0) = false ∧ Instr.wellFormed (.qSubmit (.stream (List.replicate 8 0) none) 0 0) = true := by decide +kernel
theorem test_illFormed_loginResponse : Instr.wellFormed (.loginResponse (zeros 15)) = false ∧ Instr.wellFormed (.loginResponse (zeros 16)) = true := by decide +kernel
theorem test_illFormed_floodWindowEnd : Instr.wellFormed (.floodWindowEnd (.ctx 0) 10 11 0) = false ∧ Instr.wellFormed (.floodWindowEnd (.rx 1) 10 10 0) = true := by decide +kernel
theorem test_illFormed_drmSdc : Instr.wellFormed (.drmSdc 0 [] true (some ⟨0, 32, 0, 0⟩) [] true) = false ∧ Instr.wellFormed (.drmSdc 0 [] true (some ⟨0, 31, 63, 0⟩) [] true) = true := by decide +kernel
theorem test_illFormed_drmMsc : Instr.wellFormed (.drmMsc 0 [] true 1001 true) = false ∧ Instr.wellFormed (.drmMsc 0 [] true 1000 true) = true := by decide +kernel
theorem test_illFormed_carrierIntervalEnd : Instr.wellFormed (.carrierIntervalEnd 0 0 10 11) = false ∧ Instr.wellFormed (.carrierIntervalEnd 0 0 10 10) = true := by decide +kernel
theorem test_illFormed_rxBurst : Instr.wellFormed (.rxBurst 0 (List.replicate 75 1) [] 0 true) = false ∧ Instr.wellFormed (.rxBurst 0 (List.replicate 76 1) [] 0 true) = true := by decide +kernel
theorem test_illFormed_rxGuardBlock : Instr.wellFormed (.rxGuardBlock 0 [] false false 0) = false ∧ Instr.wellFormed (.rxGuardBlock 0 (List.replicate 60 1) false false 0) = true := by decide +kernel
theorem test_illFormed_rxCommandBlock : Instr.wellFormed (.rxCommandBlock 0 [] false false false 0) = false ∧ Instr.wellFormed (.rxCommandBlock 0 (List.replicate 60 1) false false false 0) = true := by decide +kernel
theorem test_illFormed_rxStartBlock : Instr.wellFormed (.rxStartBlock 0 (List.replicate 60 1) false false 0) = false ∧ Instr.wellFormed (.rxStartBlock 0 (List.replicate 216 1) false false 0) = true := by decide +kernel
theorem test_illFormed_monLoginResponse : Instr.wellFormed (.monLoginResponse (zeros 17)) = false ∧ Instr.wellFormed (.monLoginResponse (zeros 16)) = true := by decide +kernel
theorem test_illFormed_wearMeasureDone : Instr.wellFormed (.wearMeasureDone []) = false ∧ Instr.wellFormed (.wearMeasureDone (List.replicate 16 ⟨1, 1, 40⟩)) = true := by decide +kernel
theorem test_illFormed_tjMinute : Instr.wellFormed (.tjMinute []) = false ∧ Instr.wellFormed (.tjMinute (List.replicate 16 40)) = true := by decide +kernel
theorem test_illFormed_commandLine : Instr.wellFormed (.commandLine [0x61, 0x0D] 0) = false ∧ Instr.wellFormed (.commandLine [0x61, 0x20] 0) = true := by decide +kernel

/-! ### No word spells a command -/

theorem test_decode_none : decodeTableWord 32 0 = none ∧ State.reset.withFetchWord 32 0 = State.reset := ⟨rfl, rfl⟩

end Sys2Proof.Tests
end

/-!
SUPPORT. What every command can change, as one statement over all commands: the parts of `reach`, what is sent out, and HEALTH.
-/
namespace Sys2Proof.Machine

/-- The bit that stands for a part in the sets of `Touches`. -/
def Part.index : Part → Nat
  | .regs => 1
  | .mask => 2
  | .fresh => 4
  | .dev => 5
  | .pwr => 6
  | .wch => 7
  | .grd => 8
  | .bus => 9
  | .load => 10
  | .fab => 11
  | .fix => 12
  | .deep => 13
  | .cph => 14
  | .lnk => 15
  | .brg => 16
  | .smp => 17
  | .ddc => 18
  | .ctx => 19
  | .scan => 20
  | .lmdTx => 21
  | .lmdRx => 22
  | .spt => 23
  | .pin => 24
  | .bin => 25
  | .pll => 26
  | .mon => 27
  | .wear => 28
  | .str => 29
  | .lgc => 30

/-- The set of `Touches` for the parts listed, with what is sent out (bit 0) and HEALTH (bit 31), which every command may change. -/
def partSet (ps : List Part) : Nat := ps.foldr (fun p n => 2 ^ p.index ||| n) (2 ^ 31 ||| 2 ^ 0)

/-- No two parts share a bit. -/
theorem Part.index_injective : Function.Injective Part.index := by
  intro p q h
  cases p <;> cases q <;> cases h <;> rfl

/-- A bit outside the set: neither of the two that every command has, nor one of a listed part. -/
theorem testBit_partSet {ps : List Part} {i : Nat} (h31 : 31 ≠ i) (h0 : 0 ≠ i) (h : ∀ p ∈ ps, p.index ≠ i) :
    (partSet ps).testBit i = false := by
  induction ps with
  | nil =>
    have union : partSet [] = 2 ^ 31 ||| 2 ^ 0 := rfl
    rw [union, Nat.testBit_or, Nat.testBit_two_pow_of_ne h31, Nat.testBit_two_pow_of_ne h0, Bool.or_self]
  | cons p ps ih =>
    have tail := ih fun q hq => h q (List.mem_cons_of_mem p hq)
    have head := h p List.mem_cons_self
    have union : partSet (p :: ps) = 2 ^ p.index ||| partSet ps := rfl
    rw [union, Nat.testBit_or, tail, Nat.testBit_two_pow_of_ne head, Bool.or_self]

/-- A part that is not listed lies outside the set. -/
theorem testBit_partSet_of_not_mem {ps : List Part} {p : Part} (h : p ∉ ps) : (partSet ps).testBit p.index = false :=
  testBit_partSet (by cases p <;> decide) (by cases p <;> decide) fun _ hq e => h (Part.index_injective e ▸ hq)

/-- The count of ticks is no part, so that its bit lies outside every set. -/
theorem testBit_partSet_now (ps : List Part) : (partSet ps).testBit 3 = false :=
  testBit_partSet (by decide) (by decide) fun p _ => by cases p <;> decide

/-- A part outside the set is the same after the change. -/
theorem Touches.same {T : Nat} {s t : State} (h : Touches T s t) : ∀ p : Part, T.testBit p.index = false → p.same s t
  | .regs => h.regs
  | .mask => h.mask
  | .fresh => h.fresh
  | .dev => h.dev
  | .pwr => h.pwr
  | .wch => h.wch
  | .grd => h.grd
  | .bus => h.bus
  | .load => h.load
  | .fab => h.fab
  | .fix => h.fix
  | .deep => h.deep
  | .cph => h.cph
  | .lnk => h.lnk
  | .brg => h.brg
  | .smp => h.smp
  | .ddc => h.ddc
  | .ctx => h.ctx
  | .scan => h.scan
  | .lmdTx => h.lmdTx
  | .lmdRx => h.lmdRx
  | .spt => h.spt
  | .pin => h.pin
  | .bin => h.bin
  | .pll => h.pll
  | .mon => h.mon
  | .wear => h.wear
  | .str => h.str
  | .lgc => h.lgc

/-- Every command answers a next state, having changed no more than its reach, what is sent out and HEALTH, and having kept the queue and the
canonical forms: each command by its own lemma. -/
theorem exec_touches (s : State) : ∀ c, ∃ t, exec c s = .next t ∧ Touches (partSet (reach c)) s t
  | .registerWrite .. => execRegisterWrite_next ..
  | .rcRead .. => execRcRead_next ..
  | .wchTimeSnapshot .. => execWchTimeSnapshot_next ..
  | .fixTimeSnapshot .. => execFixTimeSnapshot_next ..
  | .fsAccess .. => execFsAccess_next ..
  | .fsTimeout .. => execFsTimeout_next ..
  | .porstNRelease .. => execPorstNRelease_next ..
  | .powerGood .. => execPowerGood_next ..
  | .porstNAssert => execPorstNAssert_next ..
  | .coreDrop => execCoreDrop_next ..
  | .auxLost .. => execAuxLost_next ..
  | .retentionLost .. => execRetentionLost_next ..
  | .domainPowerUp .. => execDomainPowerUp_next ..
  | .domainPowerLoss .. => execDomainPowerLoss_next ..
  | .watchRequest .. => execWatchRequest_next ..
  | .watchNLow => execWatchNLow_next ..
  | .vmonLow => execVmonLow_next ..
  | .vmonHigh => execVmonHigh_next ..
  | .vmonFilterExpiry => execVmonFilterExpiry_next ..
  | .graceExpiry => execGraceExpiry_next ..
  | .watchDrainEnd .. => execWatchDrainEnd_next ..
  | .wakeEvent .. => execWakeEvent_next ..
  | .wakeCoreSwitched => execWakeCoreSwitched_next ..
  | .wakeRefsQualified => execWakeRefsQualified_next ..
  | .wakePllsLocked => execWakePllsLocked_next ..
  | .wakeScrubDone => execWakeScrubDone_next ..
  | .wakePhaseLate .. => execWakePhaseLate_next ..
  | .fabricClockRelease .. => execFabricClockRelease_next ..
  | .reloadRequest => execReloadRequest_next ..
  | .reloadNRise => execReloadNRise_next ..
  | .reloadStart .. => execReloadStart_next ..
  | .watchReloadRequest => execWatchReloadRequest_next ..
  | .coldLoadStart .. => execColdLoadStart_next ..
  | .cfgReloadPrimary .. => execCfgReloadPrimary_next ..
  | .cfgReloadGolden .. => execCfgReloadGolden_next ..
  | .watchSecond => execWatchSecond_next ..
  | .xtalStop => execXtalStop_next ..
  | .xtalRestored .. => execXtalRestored_next ..
  | .wchCommit .. => execWchCommit_next ..
  | .watchTimeSet => execWatchTimeSet_next ..
  | .logWrite => execLogWrite_next ..
  | .logClearPinned .. => execLogClearPinned_next ..
  | .logClearAll .. => execLogClearAll_next ..
  | .tamperEvent .. => execTamperEvent_next ..
  | .tamperErase => execTamperErase_next ..
  | .wakeTimerWrite .. => execWakeTimerWrite_next ..
  | .wakeTimerExpiry => execWakeTimerExpiry_next ..
  | .hrvSample .. => execHrvSample_next ..
  | .watchRailDroop .. => execWatchRailDroop_next ..
  | .hrvTrack .. => execHrvTrack_next ..
  | .hrvThreshWrite .. => execHrvThreshWrite_next ..
  | .watchCold .. => execWatchCold_next ..
  | .nvmDiscovery .. => execNvmDiscovery_next ..
  | .chunkRead .. => execChunkRead_next ..
  | .headerRecord .. => execHeaderRecord_next ..
  | .profileRecord => execProfileRecord_next ..
  | .keywrapRecord => execKeywrapRecord_next ..
  | .bandsRecord => execBandsRecord_next ..
  | .pinsRecord => execPinsRecord_next ..
  | .frameRecord => execFrameRecord_next ..
  | .repeatRecord .. => execRepeatRecord_next ..
  | .fillRecord => execFillRecord_next ..
  | .regionEndRecord => execRegionEndRecord_next ..
  | .maskRecord => execMaskRecord_next ..
  | .slotsRecord => execSlotsRecord_next ..
  | .endRecord => execEndRecord_next ..
  | .fabricRelease .. => execFabricRelease_next ..
  | .cfgAudit .. => execCfgAudit_next ..
  | .auditPeriod => execAuditPeriod_next ..
  | .auditDone .. => execAuditDone_next ..
  | .cfgNvmRead .. => execCfgNvmRead_next ..
  | .cfgNvmProgram .. => execCfgNvmProgram_next ..
  | .cfgNvmErase .. => execCfgNvmErase_next ..
  | .nvmOpDone .. => execNvmOpDone_next ..
  | .fuseProgram .. => execFuseProgram_next ..
  | .fuseDone .. => execFuseDone_next ..
  | .pairMismatch .. => execPairMismatch_next ..
  | .bramSweepPassEnd .. => execBramSweepPassEnd_next ..
  | .deepSweepPassEnd .. => execDeepSweepPassEnd_next ..
  | .gholdRelease .. => execGholdRelease_next ..
  | .clockMuxSwitch .. => execClockMuxSwitch_next ..
  | .scrubRead .. => execScrubRead_next ..
  | .correctionWrite => execCorrectionWrite_next ..
  | .criticalPeriodStart => execCriticalPeriodStart_next ..
  | .scrubPassEnd .. => execScrubPassEnd_next ..
  | .prRequest .. => execPrRequest_next ..
  | .prCancel .. => execPrCancel_next ..
  | .prChunk .. => execPrChunk_next ..
  | .prChecksDone => execPrChecksDone_next ..
  | .prRelease => execPrRelease_next ..
  | .pllApply .. => execPllApply_next ..
  | .pllUnmute .. => execPllUnmute_next ..
  | .pllLock .. => execPllLock_next ..
  | .pllLockTimeout .. => execPllLockTimeout_next ..
  | .pllLossOfLock .. => execPllLossOfLock_next ..
  | .refLoss .. => execRefLoss_next ..
  | .refQualified .. => execRefQualified_next ..
  | .bandEntryWrite .. => execBandEntryWrite_next ..
  | .steerUpdate => execSteerUpdate_next ..
  | .sourceValid .. => execSourceValid_next ..
  | .sourceInvalid .. => execSourceInvalid_next ..
  | .sourceQualified .. => execSourceQualified_next ..
  | .selectionHoldEnd => execSelectionHoldEnd_next ..
  | .slewEnd => execSlewEnd_next ..
  | .freezeTimeout => execFreezeTimeout_next ..
  | .fixSet .. => execFixSet_next ..
  | .ptpSubmit .. => execPtpSubmit_next ..
  | .ptpWithdraw .. => execPtpWithdraw_next ..
  | .ppsInEdge .. => execPpsInEdge_next ..
  | .deviceTimeSecond => execDeviceTimeSecond_next ..
  | .ppsOutEnd => execPpsOutEnd_next ..
  | .timeVote .. => execTimeVote_next ..
  | .lnkCfgWrite .. => execLnkCfgWrite_next ..
  | .ethRxFrame .. => execEthRxFrame_next ..
  | .ethTxSubmit .. => execEthTxSubmit_next ..
  | .ethTxStart .. => execEthTxStart_next ..
  | .txtsPop .. => execTxtsPop_next ..
  | .prbsClear .. => execPrbsClear_next ..
  | .prbsLock .. => execPrbsLock_next ..
  | .eyeScanStart .. => execEyeScanStart_next ..
  | .eyeScanDone .. => execEyeScanDone_next ..
  | .trainingLock .. => execTrainingLock_next ..
  | .rateStepSwitch .. => execRateStepSwitch_next ..
  | .rateStepEnd .. => execRateStepEnd_next ..
  | .laneSettle .. => execLaneSettle_next ..
  | .bringupRetry .. => execBringupRetry_next ..
  | .losDeclare .. => execLosDeclare_next ..
  | .losClear .. => execLosClear_next ..
  | .cdrLoss .. => execCdrLoss_next ..
  | .helloFrame .. => execHelloFrame_next ..
  | .portKeyed .. => execPortKeyed_next ..
  | .rekeyTrigger .. => execRekeyTrigger_next ..
  | .brgRekey .. => execBrgRekey_next ..
  | .rekeyFrame .. => execRekeyFrame_next ..
  | .rekeyAckFrame .. => execRekeyAckFrame_next ..
  | .oldSlotErase .. => execOldSlotErase_next ..
  | .rekeyRetry .. => execRekeyRetry_next ..
  | .brgDataFrame .. => execBrgDataFrame_next ..
  | .brgTxSubmit .. => execBrgTxSubmit_next ..
  | .brgTxStart .. => execBrgTxStart_next ..
  | .brgCancel .. => execBrgCancel_next ..
  | .timeReqTimer .. => execTimeReqTimer_next ..
  | .timeReqFrame .. => execTimeReqFrame_next ..
  | .timeRespFrame .. => execTimeRespFrame_next ..
  | .masterTimeout .. => execMasterTimeout_next ..
  | .readyTimer => execReadyTimer_next ..
  | .readyFrame .. => execReadyFrame_next ..
  | .landfallTimeout => execLandfallTimeout_next ..
  | .landfallFrame .. => execLandfallFrame_next ..
  | .landfallRepeat => execLandfallRepeat_next ..
  | .brgAdmit .. => execBrgAdmit_next ..
  | .admitFrame .. => execAdmitFrame_next ..
  | .portDown .. => execPortDown_next ..
  | .dGo .. => execDGo_next ..
  | .dCancel .. => execDCancel_next ..
  | .qSubmit .. => execQSubmit_next ..
  | .qCancel .. => execQCancel_next ..
  | .cphOpStart => execCphOpStart_next ..
  | .cphOpComplete .. => execCphOpComplete_next ..
  | .qCmpPop .. => execQCmpPop_next ..
  | .kWrite .. => execKWrite_next ..
  | .kRandom .. => execKRandom_next ..
  | .kDerive .. => execKDerive_next ..
  | .kErase .. => execKErase_next ..
  | .shadowTakeEffect .. => execShadowTakeEffect_next ..
  | .cphZeroize .. => execCphZeroize_next ..
  | .rngHealthFail .. => execRngHealthFail_next ..
  | .slotCheck .. => execSlotCheck_next ..
  | .gcmMask .. => execGcmMask_next ..
  | .helloSeed => execHelloSeed_next ..
  | .loginChallenge => execLoginChallenge_next ..
  | .loginResponse .. => execLoginResponse_next ..
  | .challengeExpiry => execChallengeExpiry_next ..
  | .soundWindowEnd .. => execSoundWindowEnd_next ..
  | .trimStepEnd .. => execTrimStepEnd_next ..
  | .handoverRampEnd .. => execHandoverRampEnd_next ..
  | .monitorWindowEnd .. => execMonitorWindowEnd_next ..
  | .smpApply .. => execSmpApply_next ..
  | .smpLoad .. => execSmpLoad_next ..
  | .smpForceFault .. => execSmpForceFault_next ..
  | .ddcRetune .. => execDdcRetune_next ..
  | .retuneApply .. => execRetuneApply_next ..
  | .ddcSwap .. => execDdcSwap_next ..
  | .swapApply .. => execSwapApply_next ..
  | .ddcHopStart .. => execDdcHopStart_next ..
  | .ddcHopStop .. => execDdcHopStop_next ..
  | .hopAdvance .. => execHopAdvance_next ..
  | .ddcUnitComplete .. => execDdcUnitComplete_next ..
  | .coefWrite .. => execCoefWrite_next ..
  | .tableCheck .. => execTableCheck_next ..
  | .floodWindowEnd .. => execFloodWindowEnd_next ..
  | .floodClear .. => execFloodClear_next ..
  | .carrierLock .. => execCarrierLock_next ..
  | .carrierLockLoss .. => execCarrierLockLoss_next ..
  | .cpdFrame .. => execCpdFrame_next ..
  | .rdsGroup .. => execRdsGroup_next ..
  | .drmFac .. => execDrmFac_next ..
  | .drmSdc .. => execDrmSdc_next ..
  | .drmMsc .. => execDrmMsc_next ..
  | .audioUnit .. => execAudioUnit_next ..
  | .scanCycle .. => execScanCycle_next ..
  | .afLossTimeout .. => execAfLossTimeout_next ..
  | .identTimeout .. => execIdentTimeout_next ..
  | .afBadExpiry .. => execAfBadExpiry_next ..
  | .carrierIntervalEnd .. => execCarrierIntervalEnd_next ..
  | .lmdTxSubmit .. => execLmdTxSubmit_next ..
  | .burstStart .. => execBurstStart_next ..
  | .burstEnd .. => execBurstEnd_next ..
  | .lmdTxCancel .. => execLmdTxCancel_next ..
  | .tpBlockStart .. => execTpBlockStart_next ..
  | .tpcmdChange .. => execTpcmdChange_next ..
  | .preambleDetect .. => execPreambleDetect_next ..
  | .rxBurst .. => execRxBurst_next ..
  | .rxGuardBlock .. => execRxGuardBlock_next ..
  | .rxCommandBlock .. => execRxCommandBlock_next ..
  | .rxStartBlock .. => execRxStartBlock_next ..
  | .cmdHoldExpiry .. => execCmdHoldExpiry_next ..
  | .guardLossExpiry .. => execGuardLossExpiry_next ..
  | .rxResyncTimeout .. => execRxResyncTimeout_next ..
  | .maskWindowEnd .. => execMaskWindowEnd_next ..
  | .txRestart .. => execTxRestart_next ..
  | .rxResync .. => execRxResync_next ..
  | .rampUpDone .. => execRampUpDone_next ..
  | .rampDownDone .. => execRampDownDone_next ..
  | .lmdChannelWrite .. => execLmdChannelWrite_next ..
  | .sptStart .. => execSptStart_next ..
  | .sptStop .. => execSptStop_next ..
  | .sptCancel .. => execSptCancel_next ..
  | .sptRunning .. => execSptRunning_next ..
  | .sptFrame .. => execSptFrame_next ..
  | .sptClockLoss .. => execSptClockLoss_next ..
  | .sptReleaseEnd .. => execSptReleaseEnd_next ..
  | .pinModeChange .. => execPinModeChange_next ..
  | .pinClaimChange .. => execPinClaimChange_next ..
  | .bankIoUp .. => execBankIoUp_next ..
  | .bankIoDown .. => execBankIoDown_next ..
  | .bnRead .. => execBnRead_next ..
  | .bnApertureWrite .. => execBnApertureWrite_next ..
  | .bnPage1Write .. => execBnPage1Write_next ..
  | .writeQueueDrain => execWriteQueueDrain_next ..
  | .binIndRead => execBinIndRead_next ..
  | .binIndWrite .. => execBinIndWrite_next ..
  | .indComplete .. => execIndComplete_next ..
  | .mirrorWrite .. => execMirrorWrite_next ..
  | .hostMirrorWrite .. => execHostMirrorWrite_next ..
  | .mdbRise => execMdbRise_next ..
  | .apFillDone .. => execApFillDone_next ..
  | .bnLatchExpiry => execBnLatchExpiry_next ..
  | .monHelp .. => execMonHelp_next ..
  | .monLogin => execMonLogin_next ..
  | .monLoginResponse .. => execMonLoginResponse_next ..
  | .monLoginOff => execMonLoginOff_next ..
  | .monStatus => execMonStatus_next ..
  | .monPeek .. => execMonPeek_next ..
  | .monPoke .. => execMonPoke_next ..
  | .monFill .. => execMonFill_next ..
  | .monFault => execMonFault_next ..
  | .monFaultClear => execMonFaultClear_next ..
  | .monLog .. => execMonLog_next ..
  | .monLanes .. => execMonLanes_next ..
  | .monEye .. => execMonEye_next ..
  | .monSound .. => execMonSound_next ..
  | .monSoundApply .. => execMonSoundApply_next ..
  | .monSoundForce .. => execMonSoundForce_next ..
  | .monBands .. => execMonBands_next ..
  | .monBandsWrite .. => execMonBandsWrite_next ..
  | .monFix => execMonFix_next ..
  | .monImage .. => execMonImage_next ..
  | .monImageAudit .. => execMonImageAudit_next ..
  | .monImageReload .. => execMonImageReload_next ..
  | .monPartial => execMonPartial_next ..
  | .monPartialLoad .. => execMonPartialLoad_next ..
  | .monPartialCancel => execMonPartialCancel_next ..
  | .monSlots .. => execMonSlots_next ..
  | .monSlotsErase => execMonSlotsErase_next ..
  | .monSlotsZero => execMonSlotsZero_next ..
  | .monAbort => execMonAbort_next ..
  | .monIdleExpiry => execMonIdleExpiry_next ..
  | .monLockoutEnd => execMonLockoutEnd_next ..
  | .endControl .. => execEndControl_next ..
  | .faultReport .. => execFaultReport_next ..
  | .grdClear .. => execGrdClear_next ..
  | .grdInject .. => execGrdInject_next ..
  | .healthPulseEnd .. => execHealthPulseEnd_next ..
  | .healthPadMismatch .. => execHealthPadMismatch_next ..
  | .selftestPartDone .. => execSelftestPartDone_next ..
  | .railExcursion .. => execRailExcursion_next ..
  | .tempExcursion .. => execTempExcursion_next ..
  | .logCrcScan => execLogCrcScan_next ..
  | .hkDisagree .. => execHkDisagree_next ..
  | .hkResyncDone .. => execHkResyncDone_next ..
  | .wearMeasure .. => execWearMeasure_next ..
  | .wearSchedule => execWearSchedule_next ..
  | .wearMeasureDone .. => execWearMeasureDone_next ..
  | .tjMinute .. => execTjMinute_next ..
  | .watchDomainDown .. => execWatchDomainDown_next ..
  | .railReturn .. => execRailReturn_next ..
  | .laneSync .. => execLaneSync_next ..
  | .fmLock .. => execFmLock_next ..
  | .drmLock .. => execDrmLock_next ..
  | .cpdSyncDetect .. => execCpdSyncDetect_next ..
  | .commandLine .. => execCommandLine_next ..
  | .dacUnderrun .. => execDacUnderrun_next ..
  | .smpStreamUnit .. => execSmpStreamUnit_next ..

/-- Every step answers a next state whose sparse memories are canonical where those before were. -/
theorem step_keeps_cellsWf (s : State) (h : s.cellsWf = true) : ∃ t, step s = .next t ∧ t.cellsWf = true := by
  cases hp : s.pending with
  | nil => exact ⟨s.idle, by simp only [step, hp], (State.idle_touches s).wf h⟩
  | cons c rest =>
    obtain ⟨t, ht, kept⟩ := exec_touches { s with pending := rest } c
    exact ⟨t, by simp only [step, hp, ht], kept.wf h⟩

/-- Settles O3: a step is the idle tick or the front command, and each keeps the canonical forms. -/
theorem stepKeepsCanonicalMemories : Obligations.StepKeepsCanonicalMemories := step_keeps_cellsWf

/-- Settles O5: the parts outside a command's reach are those its set of `Touches` leaves out. -/
theorem everyCommandStaysWithinItsReach : Obligations.EveryCommandStaysWithinItsReach := by
  intro c s
  obtain ⟨t, ht, kept⟩ := exec_touches s c
  exact ⟨t, ht, kept.pending, kept.now (testBit_partSet_now _), fun p hp => kept.same p (testBit_partSet_of_not_mem hp)⟩

end Sys2Proof.Machine

/-!
SUPPORT. The register bus: what a completed access answers, what the end of every command leaves of it, a read of a mapped register, and a
live write that changes no closed bit.
-/
namespace Sys2Proof.Machine

/-! ### The completion of an access and the end of its command -/

/-- A register that holds no level reads after the end of a command as before it. -/
theorem State.settle_word_of_not_level (s : State) {a : Nat} (h : a ∉ levelRegs) : s.settle.word a = s.word a := by
  simp only [levelRegs, List.mem_cons, List.not_mem_nil, or_false, not_or] at h
  obtain ⟨status, service, event, irq⟩ := h
  have h32 : (evtFld 32).addr = GRD_EVENT := rfl
  apply State.settle_word
  simp only [settleFlds, List.all_cons, List.all_nil, Bool.and_true, Bool.and_eq_true, bne_iff_ne, ne_eq, h32]
  exact ⟨event, irq, status, status, status, status, service, service, service, service, service, service⟩

/-- The response that a completed access answers. -/
theorem State.busCode_complete (s : State) (m : Nat) {code : Nat} (h : code < 4) (d : Word) : (s.complete m code d).busCode m = code := by
  have resp : (s.complete m code d).bus.resp = cellWrite s.bus.resp m (BitVec.ofNat 2 code) := rfl
  rw [State.busCode, resp, cellRead_cellWrite_same, BitVec.toNat_ofNat, Nat.mod_eq_of_lt h]

/-- The data that a completed access answers. -/
@[simp] theorem State.busData_complete (s : State) (m code : Nat) (d : Word) : (s.complete m code d).busData m = d := by
  have data : (s.complete m code d).bus.data = cellWrite s.bus.data m d := rfl
  rw [State.busData, data, cellRead_cellWrite_same]

@[simp] theorem State.settle_busCode (s : State) (m : Nat) : s.settle.busCode m = s.busCode m := by
  rw [State.busCode, State.busCode, State.settle_bus]

@[simp] theorem State.settle_busData (s : State) (m : Nat) : s.settle.busData m = s.busData m := by
  rw [State.busData, State.busData, State.settle_bus]

@[simp] theorem State.refresh_busCode (s : State) (m : Nat) : s.refresh.busCode m = s.busCode m := by
  rw [State.busCode, State.busCode, State.refresh_bus]

@[simp] theorem State.refresh_busData (s : State) (m : Nat) : s.refresh.busData m = s.busData m := by
  rw [State.busData, State.busData, State.refresh_bus]

/-! ### Windows -/

/-- An address with a row lies in a block, and not in the fabric user window. -/
theorem blockOf_of_rowOf {a : Nat} {r : RegRow} (h : rowOf a = some r) : ∃ b, blockOf a = some b ∧ b ≠ 20 := by
  unfold rowOf at h
  cases hb : blockOf a with
  | none => simp [hb] at h
  | some b =>
    refine ⟨b, rfl, ?_⟩
    rintro rfl
    simp [hb, blockRows] at h

/-! ### Reads -/

/-- A read with good parity of a mapped register whose domain is up. -/
theorem State.busRead_mapped (s : State) {m : Nat} {addr : Word} {r : RegRow} (ht : s.busTakes m = true)
    (hr : rowOf (addr.toNat / 4 * 4) = some r) (hd : s.domainUp (addr.toNat / 4 * 4) = true) :
    s.busRead m 0 addr =
      (s.readEffect m (addr.toNat / 4 * 4) r.rc).complete m 0 (s.view m (addr.toNat / 4 * 4)) := by
  obtain ⟨b, hb, h20⟩ := blockOf_of_rowOf hr
  simp only [State.busRead, State.busReadAck, ht, parityHolds_flips, hb, h20, hr, hd, State.iff, State.finish_ok, beq_self_eq_true,
    Bool.not_true, Bool.false_eq_true, if_false, if_true]

/-- A snapshot of a time, and the look at a bank's pins, change no register. -/
theorem State.snapshots_looked_word (s : State) (m a x : Nat) : ((s.looked a).snapshots m a).word x = s.word x := by
  have looked : (s.looked a).regs = s.regs := (State.looked_touches s a).regs rfl
  have taken : ((s.looked a).snapshots m a).regs = (s.looked a).regs := (State.snapshots_touches (s.looked a) m a).regs rfl
  rw [State.word, State.word, taken, looked]

/-- Besides the pops of blocks 8 and 10, a read clears the RC fields of its register and changes no other. -/
theorem State.readEffect_word (s : State) (m : Nat) {a : Nat} (rc : Word) (h8 : blockOf a ≠ some 8) (h10 : blockOf a ≠ some 10) (x : Nat) :
    (s.readEffect m a rc).word x = if x = a then s.word a &&& ~~~rc else s.word x := by
  have pops : s.readEffect m a rc = ((s.iff (rc != 0) fun s => s.putWord a (s.word a &&& ~~~rc)).looked a).snapshots m a := by
    unfold State.readEffect
    split
    · exact absurd ‹_› h8
    · exact absurd ‹_› h10
    · rfl
  rw [pops, State.snapshots_looked_word]
  by_cases hrc : rc = 0
  · subst hrc
    simp only [State.iff, bne_self_eq_false, Bool.false_eq_true, if_false]
    split
    · next e => rw [e, show ~~~(0 : Word) = BitVec.allOnes 32 from rfl, BitVec.and_allOnes]
    · rfl
  · simp only [State.iff, bne_iff_ne.mpr hrc, if_true]
    split
    · next e => rw [e, State.word_putWord_same]
    · next e => exact State.word_putWord_ne _ _ _ _ e

/-- Outside the blocks whose views pop a FIFO, what a register shows does not depend on what was sent out. -/
theorem State.view_withOut (s : State) (v : List Out) (m : Nat) {a : Nat} (h8 : blockOf a ≠ some 8) (h10 : blockOf a ≠ some 10) :
    (s.withOut v).view m a = s.view m a := by
  have shown : (s.withOut v).viewed m a = s.viewed m a := by
    unfold State.viewed
    split
    case h_3 => exact absurd ‹_› h8
    case h_4 => exact absurd ‹_› h10
    all_goals rfl
  simp only [State.view, shown]
  rfl

/-- The command RC_READ of such a register: the effects of the read, its completion, and the levels. -/
theorem exec_rcRead_mapped (s : State) {m : Fin 16} {addr : Word} {r : RegRow} (ht : s.busTakes m.val = true)
    (hr : rowOf (addr.toNat / 4 * 4) = some r) (hd : s.domainUp (addr.toNat / 4 * 4) = true) :
    exec (.rcRead m 0 addr) s = .next
      (((s.withOut []).readEffect m.val (addr.toNat / 4 * 4) r.rc).complete m.val 0
        ((s.withOut []).view m.val (addr.toNat / 4 * 4))).settle :=
  congrArg (fun t : State => Host.Outcome.next t.settle) ((s.withOut []).busRead_mapped ht hr hd)

/-- Settles O18: the read is its effects and its completion, and the end of the command changes levels alone. -/
theorem readsClearOnlyRcFields : Obligations.ReadsClearOnlyRcFields := by
  intro s m addr r ht hr hd h8 h10
  refine ⟨_, exec_rcRead_mapped s ht hr hd, ?_, ?_, ?_, ?_⟩
  · rw [State.settle_busCode, State.busCode_complete _ _ (by decide)]
  · rw [State.settle_busData, State.busData_complete, State.view_withOut _ _ _ h8 h10]
  · intro x hx hl
    rw [State.settle_word_of_not_level _ hl, State.complete_word, State.readEffect_word _ _ _ h8 h10, if_neg (by simpa using hx),
      State.withOut_word]
  · intro hl
    rw [State.settle_word_of_not_level _ hl, State.complete_word, State.readEffect_word _ _ _ h8 h10, if_pos rfl, State.withOut_word]

end Sys2Proof.Machine

/-!
SUPPORT. A live write that changes no closed bit: it completes DONE, and in the windows of the Watch domain, the scrubber and the guarantee
unit it stores what `stored` says in its register and leaves the others.
-/
namespace Sys2Proof.Machine

/-! ### A permitted live write -/

/-- A write that may be made reaches the register as a live write. -/
theorem State.regWrite_of_mayStore {s : State} {acc : Acc} {a : Nat} {r : RegRow} (h : s.mayStore acc a r) (v : Word) :
    s.regWrite acc a v = s.liveWrite r acc.master.val a (strobed acc.strobe) (BitVec.ofNat 32 a) v := by
  obtain ⟨takes, addrOk, dataOk, aligned, small, row, up, written, writer⟩ := h
  obtain ⟨b, hb, h20⟩ := blockOf_of_rowOf row
  have ha : (BitVec.ofNat 32 a).toNat / 4 * 4 = a := by
    rw [BitVec.toNat_ofNat, Nat.mod_eq_of_lt small]
    omega
  simp only [State.regWrite, State.busWrite, State.busWriteAck, parityHolds_flips, ha, takes, addrOk, dataOk, hb, h20, row, up, written,
    writer, beq_self_eq_true, Bool.and_self, Bool.or_self, Bool.not_true, Bool.false_eq_true, if_false]

/-- Outside HRV_THRESH and the PLL window, a write that is dropped whole completes DONE all the same. -/
theorem State.writeDropped_done {s : State} {a : Nat} {closed next : Word} {x : Nat × (State → State)} (ha : a ≠ HRV_THRESH)
    (hb : blockOf a ≠ some 6) (h : s.writeDropped a closed next = some x) : x.1 = 0 := by
  unfold State.writeDropped at h
  rw [if_neg ha] at h
  split at h
  case h_1 => split at h <;> cases h; rfl
  case h_2 => exact absurd ‹_› hb
  case h_3 => split at h <;> cases h; rfl
  case h_4 =>
    split at h
    · cases h
    · dsimp only at h
      split at h <;> cases h
      rfl
  case h_5 => cases h

/-- A live write that would change no closed bit completes DONE. -/
theorem State.liveWrite_done (s : State) {r : RegRow} {a : Nat} {sm v : Word} (m : Nat) (addr : Word)
    (hhit : sm &&& s.closedBits r a &&& (v ^^^ s.writeView a) = 0) (ha : a ≠ HRV_THRESH) (hb : blockOf a ≠ some 6) :
    ∃ u : State, s.liveWrite r m a sm addr v = u.complete m 0 0 := by
  simp only [State.liveWrite, hhit, bne_self_eq_false, Bool.false_eq_true, if_false, State.iff]
  split
  · next code f dropped =>
    have done : code = 0 := State.writeDropped_done ha hb dropped
    rw [if_neg ha, done]
    exact ⟨_, State.finish_ok ..⟩
  · exact ⟨_, State.finish_ok ..⟩

/-- A live write that would change no closed bit, of a register whose writes nothing drops, stores and completes DONE. -/
theorem State.liveWrite_stores (s : State) {r : RegRow} {a : Nat} {sm v : Word} (m : Nat) (addr : Word)
    (hhit : sm &&& s.closedBits r a &&& (v ^^^ s.writeView a) = 0) (hd : ∀ c n, s.writeDropped a c n = none) :
    s.liveWrite r m a sm addr v = (s.store r a sm (s.closedBits r a) v).complete m 0 0 := by
  simp only [State.liveWrite, hhit, hd, bne_self_eq_false, Bool.false_eq_true, if_false, State.iff]
  rfl

/-- What holds after the write of a register, once the rest of the block has reacted, holds of the command REGISTER_WRITE. -/
theorem gives_registerWrite {s : State} {acc : Acc} {a : Nat} {v : Word} {P : State → Prop}
    (h : P ((s.withOut []).regWrite acc a v).refresh.settle) : Gives (.registerWrite acc (BitVec.ofNat 32 a) v) s P := ⟨_, rfl, h⟩

/-- A bus write changes no bit of the write mask (R44). -/
theorem State.regWrite_mask (s : State) (acc : Acc) (a : Nat) (v : Word) : (s.regWrite acc a v).mask = s.mask :=
  (State.regWrite_touches s acc a v).mask rfl

/-- A write that may be made and would change no closed bit completes DONE. -/
theorem registerWrite_done {s : State} {acc : Acc} {a : Nat} {v : Word} {r : RegRow} (h : s.mayStore acc a r)
    (hhit : strobed acc.strobe &&& s.closedBits r a &&& (v ^^^ s.writeView a) = 0) (ha : a ≠ HRV_THRESH) (hb : blockOf a ≠ some 6) :
    Gives (.registerWrite acc (BitVec.ofNat 32 a) v) s fun t =>
      t.busCode acc.master.val = 0 ∧ t.busData acc.master.val = 0 ∧ t.mask = s.mask := by
  have h' : (s.withOut []).mayStore acc a r := h
  obtain ⟨u, hu⟩ := (s.withOut []).liveWrite_done acc.master.val (BitVec.ofNat 32 a) hhit ha hb
  have done := (State.regWrite_of_mayStore h' v).trans hu
  refine gives_registerWrite ⟨?_, ?_, ?_⟩
  · rw [State.settle_busCode, State.refresh_busCode, done, State.busCode_complete _ _ (by decide)]
  · rw [State.settle_busData, State.refresh_busData, done, State.busData_complete]
  · rw [State.settle_mask, State.refresh_mask, State.regWrite_mask, State.withOut_mask]

/-! ### The windows of the Watch domain, the scrubber and the guarantee unit -/

/-- The windows whose plain registers a write stores and does nothing else. -/
def plainBlock (a : Nat) : Prop := blockOf a = some 1 ∨ blockOf a = some 4 ∨ blockOf a = some 5

/-- Where those windows lie. -/
theorem plainBlock.range {a : Nat} (h : plainBlock a) : 0x40008000 ≤ a ∧ a < 0x40050000 ∧ (a < 0x40010000 ∨ 0x40030000 ≤ a) := by
  unfold plainBlock blockOf at h
  split_ifs at h <;> simp only [Option.some.injEq, reduceCtorEq, or_self] at h <;> omega

/-- No coefficient lies there. -/
theorem plainBlock.coefAt {a : Nat} (h : plainBlock a) : coefAt a = none := by
  have := h.range
  unfold Machine.coefAt
  rw [if_neg (by omega)]

/-- No write-only register there is held. -/
theorem plainBlock.heldWo {a : Nat} (h : plainBlock a) : heldWo a = false := by
  have := h.range
  have offset : FIX_PTP_OFS = 0x40060040 := rfl
  have fuseLo : CFG_FUSE_DATA 0 = 0x40020080 := rfl
  have fuseHi : CFG_FUSE_DATA 8 = 0x400200A0 := rfl
  simp only [Machine.heldWo, Bool.or_eq_false_iff, Bool.and_eq_false_iff, beq_eq_false_iff_ne, decide_eq_false_iff_not]
  omega

/-- No write there is dropped whole. -/
theorem plainBlock.writeDropped {a : Nat} (h : plainBlock a) (s : State) (c n : Word) : s.writeDropped a c n = none := by
  have ha : a ≠ HRV_THRESH := by
    have := h.range
    unfold HRV_THRESH
    omega
  unfold State.writeDropped
  rw [if_neg ha]
  rcases h with h | h | h <;> simp only [h]

/-- No write there but of a command register starts anything that changes a register. -/
theorem plainBlock.written_word {a : Nat} (h : plainBlock a) (hw : a ≠ WCH_SET_CMD) (hs : a ≠ SCR_PR_CMD) (hg : a ≠ GRD_CMD) (s : State)
    (w old : Word) (x : Nat) : (s.written a w old).word x = s.word x := by
  unfold State.written
  rcases h with h | h | h
  · simp only [h, if_neg hw]
    split <;> rfl
  · simp only [h, if_neg hs]
  · simp only [h, if_neg hg]

/-- A store there leaves in its register what `stored` says, and every other register as it was. -/
theorem plainBlock.store_word {a : Nat} (h : plainBlock a) (hw : a ≠ WCH_SET_CMD) (hs : a ≠ SCR_PR_CMD) (hg : a ≠ GRD_CMD) (s : State)
    (r : RegRow) (sm closed v : Word) (x : Nat) :
    (s.store r a sm closed v).word x =
      if x = a then if sm = 0 then s.word a else s.stored r a sm closed v else s.word x := by
  by_cases hsm : sm = 0
  · simp only [State.store, hsm, if_true]
    split
    · next e => rw [e]
    · rfl
  · have view : s.writeView a = s.word a := by simp only [State.writeView, h.coefAt]
    have held : ∀ y : Word, y ||| 0 = y := fun _ => BitVec.or_zero
    simp only [State.store, hsm, if_false, h.coefAt, h.heldWo, Bool.false_eq_true, held, view, h.written_word hw hs hg]
    split
    · next e => rw [e, State.word_putWord_same, State.stored]
    · next e => exact State.word_putWord_ne _ _ _ _ e

/-- The command REGISTER_WRITE there, of a register that takes no command and shows no level: it completes DONE and leaves in the register
what `stored` says. Below the cipher engine's registers, from which on the rest of the block may react, only levels change besides. -/
theorem registerWrite_stores {s : State} {acc : Acc} {a : Nat} {v : Word} {r : RegRow} (h : s.mayStore acc a r)
    (hhit : strobed acc.strobe &&& s.closedBits r a &&& (v ^^^ s.writeView a) = 0) (hp : plainBlock a) (hw : a ≠ WCH_SET_CMD)
    (hs : a ≠ SCR_PR_CMD) (hg : a ≠ GRD_CMD) (hl : a ∉ levelRegs) :
    Gives (.registerWrite acc (BitVec.ofNat 32 a) v) s fun t =>
      t.busCode acc.master.val = 0 ∧ t.mask = s.mask ∧
      t.word a = (if strobed acc.strobe = 0 then s.word a else s.stored r a (strobed acc.strobe) (s.closedBits r a) v) ∧
      ∀ x, x < 0x400C0000 → x ≠ a → x ∉ levelRegs → t.word x = s.word x := by
  have h' : (s.withOut []).mayStore acc a r := h
  have done := (State.regWrite_of_mayStore h' v).trans
    ((s.withOut []).liveWrite_stores acc.master.val (BitVec.ofNat 32 a) hhit (hp.writeDropped _))
  have small : a < 0x400C0000 := by
    have := hp.range
    omega
  have after : ∀ x, x < 0x400C0000 → x ∉ levelRegs → (((s.withOut []).regWrite acc a v).refresh.settle).word x =
      if x = a then if strobed acc.strobe = 0 then s.word a else s.stored r a (strobed acc.strobe) (s.closedBits r a) v
      else s.word x := by
    intro x hx hxl
    rw [State.settle_word_of_not_level _ hxl, (State.refresh_low _).word x hx, done, State.complete_word, hp.store_word hw hs hg]
    rfl
  refine gives_registerWrite ⟨?_, ?_, ?_, ?_⟩
  · rw [State.settle_busCode, State.refresh_busCode, done, State.busCode_complete _ _ (by decide)]
  · rw [State.settle_mask, State.refresh_mask, State.regWrite_mask, State.withOut_mask]
  · rw [after a small hl, if_pos rfl]
  · intro x hx hxa hxl
    rw [after x hx hxl, if_neg hxa]

end Sys2Proof.Machine

/-!
SUPPORT. What a whole-word write leaves in the watch-time set registers and in WCH_STATUS.
-/
namespace Sys2Proof.Machine

/-- A whole word taken from `y` is `y`. -/
theorem mergeBits_all (x y : Word) : mergeBits x y 0xFFFFFFFF#32 = y := by
  simp [mergeBits, and_all]

/-- A bus that takes a whole-word write of a register takes a write of it, where its row has a field that is written. -/
theorem State.mayStore_of_commandOk {s : State} {acc : Acc} {a : Nat} {r : RegRow} (h : s.commandOk acc a = true) (hr : rowOf a = some r)
    (hw : r.written = true) (aligned : a % 4 = 0) (small : a < 2 ^ 32) : s.mayStore acc a r ∧ acc.strobe = 0xF := by
  simp only [State.commandOk, hr, Option.any_some, Bool.and_eq_true, beq_iff_eq] at h
  obtain ⟨⟨⟨⟨⟨takes, addrOk⟩, dataOk⟩, whole⟩, up⟩, writer⟩ := h
  exact ⟨⟨takes, addrOk, dataOk, aligned, small, hr, up, hw, writer⟩, whole⟩

/-- The command REGISTER_WRITE of a whole word to a plain register of the Watch domain, the scrubber or the guarantee unit that has no
image-set field: it stores what `stored` says of the whole word, with no bit closed. -/
theorem registerWrite_whole {s : State} {acc : Acc} {a : Nat} {r : RegRow} (v : Word) (h : s.commandOk acc a = true)
    (hr : rowOf a = some r) (hw : r.written = true) (himg : r.rwi = 0) (aligned : a % 4 = 0) (hp : plainBlock a)
    (hcmd : a ≠ WCH_SET_CMD ∧ a ≠ SCR_PR_CMD ∧ a ≠ GRD_CMD) (hl : a ∉ levelRegs) :
    Gives (.registerWrite acc (BitVec.ofNat 32 a) v) s fun t =>
      t.busCode acc.master.val = 0 ∧ t.mask = s.mask ∧ t.word a = s.stored r a 0xFFFFFFFF#32 0 v ∧
      ∀ x, x < 0x400C0000 → x ≠ a → x ∉ levelRegs → t.word x = s.word x := by
  have small : a < 2 ^ 32 := by
    have := hp.range
    omega
  obtain ⟨may, whole⟩ := State.mayStore_of_commandOk h hr hw aligned small
  have closed : s.closedBits r a = 0 := by simp only [State.closedBits, himg]; exact BitVec.zero_and
  have hhit : strobed acc.strobe &&& s.closedBits r a &&& (v ^^^ s.writeView a) = 0 := by
    rw [closed]
    exact (congrArg (· &&& _) BitVec.and_zero).trans BitVec.zero_and
  obtain ⟨t, ht, code, mask, held, rest⟩ := registerWrite_stores may hhit hp hcmd.1 hcmd.2.1 hcmd.2.2 hl
  refine ⟨t, ht, code, mask, ?_, rest⟩
  rw [held, whole, strobed_all, if_neg (by decide), closed]

/-- In the plain windows the limits of a register's own fields are all that acts on what is stored. -/
theorem plainBlock.storable {a : Nat} (h : plainBlock a) (s : State) (touched w : Word) : s.storable a touched w = limited a touched w := by
  have := h.range
  have div8 : PLL_DIV 8 = 0x40050808 := rfl
  have div9 : PLL_DIV 9 = 0x40050908 := rfl
  have div10 : PLL_DIV 10 = 0x40050A08 := rfl
  have pins : blockOf a ≠ some 16 := by rcases h with h | h | h <;> rw [h] <;> decide
  unfold State.storable State.lnkLimited fieldStored
  dsimp only
  rw [if_neg (by omega), if_neg (by unfold HRV_THRESH; omega), if_neg pins, if_neg (by omega), if_neg (by omega)]

/-- A whole-word write of a register whose bits are all RW leaves what the limits make of the value. -/
theorem plainBlock.stored_all_rw {a : Nat} (h : plainBlock a) (s : State) {r : RegRow} (hrw : r.rw = 0xFFFFFFFF#32) (himg : r.rwi = 0)
    (hw1c : r.w1c = 0) (v : Word) : s.stored r a 0xFFFFFFFF#32 0 v = limited a 0xFFFFFFFF#32 v := by
  have opened : r.rw ||| r.rwi &&& ~~~(0 : Word) = 0xFFFFFFFF#32 := by rw [hrw, himg]; decide
  have none : ∀ x : Word, x &&& r.w1c = 0 := fun x => by rw [hw1c]; exact BitVec.and_zero
  simp only [State.stored, opened, none, and_all, mergeBits_all, h.storable]
  exact and_all _

/-- A write of a register whose fields are all W1C clears the bits written 1. -/
theorem State.stored_w1c (s : State) {r : RegRow} (a : Nat) (hrw : r.rw = 0) (himg : r.rwi = 0) (v : Word) :
    s.stored r a 0xFFFFFFFF#32 0 v = s.word a &&& ~~~(v &&& r.w1c) := by
  have none : r.rw ||| r.rwi &&& ~~~(0 : Word) = 0#32 := by rw [hrw, himg]; decide
  simp only [State.stored, none, BitVec.and_zero, mergeBits_zero, and_all]

/-- Clearing bits outside a field leaves the field. -/
theorem bitsOf_and_not_disjoint (x m : Word) (lo w : Nat) (hd : m.toNat / 2 ^ lo % 2 ^ w = 0) (h : lo + w ≤ 32) :
    bitsOf (x &&& ~~~m) lo w = bitsOf x lo w := by
  apply Nat.eq_of_testBit_eq
  intro i
  rw [testBit_bitsOf, testBit_bitsOf]
  by_cases hi : i < w
  · have clear : m.getLsbD (lo + i) = false := by
      have := testBit_bitsOf m lo w i
      rw [bitsOf, hd, Nat.zero_testBit, decide_eq_true hi, Bool.true_and] at this
      exact this.symm
    rw [BitVec.getLsbD_and, BitVec.getLsbD_not, clear, decide_eq_true (by omega : lo + i < 32), Bool.not_false, Bool.and_true,
      Bool.and_true]
  · rw [decide_eq_false hi, Bool.false_and, Bool.false_and]

/-! ### The watch-time set registers and WCH_STATUS -/

/-- The rows of three registers of the Watch domain. -/
theorem rowOf_WCH_SET_SEC_LO : rowOf WCH_SET_SEC_LO = some ⟨WCH_SET_SEC_LO, [], 0xFFFFFFFF#32, 0, 0, 0, 0, 0, .set 0x2FFF⟩ := rfl

theorem rowOf_WCH_SET_NS : rowOf WCH_SET_NS = some ⟨WCH_SET_NS, [], 0xFFFFFFFF#32, 0, 0, 0, 0, 0, .set 0x2FFF⟩ := rfl

theorem rowOf_WCH_STATUS : rowOf WCH_STATUS = some ⟨WCH_STATUS, [], 0, 0, 0x30FF, 0, 0, 0, .set 0x3FFF⟩ := rfl

/-- WCH_SET_SEC_LO stores any value. -/
theorem limited_WCH_SET_SEC_LO (touched v : Word) : limited WCH_SET_SEC_LO touched v = v := by
  have free : limitsOf WCH_SET_SEC_LO = [] := rfl
  rw [limited, free, List.foldl_nil]

/-- A whole WCH_SET_NS holds at most 999,999,999. -/
theorem limited_WCH_SET_NS (v : Word) : bitsOf (limited WCH_SET_NS 0xFFFFFFFF#32 v) 0 32 = min v.toNat 999999999 := by
  have limit : limitsOf WCH_SET_NS = [(WCH_SET_NS_NS, .atMost 999999999)] := rfl
  have touched : touches WCH_SET_NS_NS 0xFFFFFFFF#32 = true := by decide
  have field : limited WCH_SET_NS 0xFFFFFFFF#32 v = setBits v 0 32 (min 999999999 (bitsOf v 0 32)) := by
    rw [limited, limit, List.foldl_cons, List.foldl_nil, if_pos touched]
    rfl
  rw [field, bitsOf_setBits_same _ _ _ _ (by decide), bitsOf]
  have := v.isLt
  omega

/-- The seconds of a live set, written whole. -/
theorem registerWrite_WCH_SET_SEC_LO {s : State} {acc : Acc} (v : Word) (h : s.commandOk acc WCH_SET_SEC_LO = true) :
    Gives (.registerWrite acc (BitVec.ofNat 32 WCH_SET_SEC_LO) v) s fun t =>
      t.busCode acc.master.val = 0 ∧ t.word WCH_SET_SEC_LO = v ∧ t.mask = s.mask ∧
      ∀ a, a < 0x400C0000 → a ≠ WCH_SET_SEC_LO → a ∉ levelRegs → t.word a = s.word a := by
  have plain : plainBlock WCH_SET_SEC_LO := .inl rfl
  obtain ⟨t, ht, code, mask, held, rest⟩ :=
    registerWrite_whole v h rowOf_WCH_SET_SEC_LO rfl rfl rfl plain (by decide) (by decide)
  refine ⟨t, ht, code, ?_, mask, rest⟩
  rw [held, plain.stored_all_rw s rfl rfl rfl, limited_WCH_SET_SEC_LO]

/-- The nanoseconds of a live set, written whole. -/
theorem registerWrite_WCH_SET_NS {s : State} {acc : Acc} (v : Word) (h : s.commandOk acc WCH_SET_NS = true) :
    Gives (.registerWrite acc (BitVec.ofNat 32 WCH_SET_NS) v) s fun t =>
      t.busCode acc.master.val = 0 ∧ t.get WCH_SET_NS_NS = min v.toNat 999999999 := by
  have plain : plainBlock WCH_SET_NS := .inl rfl
  obtain ⟨t, ht, code, -, held, -⟩ :=
    registerWrite_whole v h rowOf_WCH_SET_NS rfl rfl rfl plain (by decide) (by decide)
  have field : t.get WCH_SET_NS_NS = bitsOf (t.word WCH_SET_NS) 0 32 := rfl
  refine ⟨t, ht, code, ?_⟩
  rw [field, held, plain.stored_all_rw s rfl rfl rfl, limited_WCH_SET_NS]

/-- WCH_STATUS written 1 in TIMER alone: that bit clears, and every field beside it stays. -/
theorem registerWrite_WCH_STATUS_TIMER {s : State} {acc : Acc} (h : s.commandOk acc WCH_STATUS = true) :
    Gives (.registerWrite acc (BitVec.ofNat 32 WCH_STATUS) (BitVec.ofNat 32 32)) s fun t =>
      t.busCode acc.master.val = 0 ∧ t.bit WCH_STATUS_TIMER = false ∧
      ∀ lo w, 32 / 2 ^ lo % 2 ^ w = 0 → lo + w ≤ 32 → t.get ⟨WCH_STATUS, lo, w⟩ = s.get ⟨WCH_STATUS, lo, w⟩ := by
  obtain ⟨t, ht, code, -, held, -⟩ :=
    registerWrite_whole (BitVec.ofNat 32 32) h rowOf_WCH_STATUS rfl rfl rfl (.inl rfl) (by decide) (by decide)
  rw [State.stored_w1c s _ rfl rfl] at held
  have timer : (BitVec.ofNat 32 32 &&& 0x30FF : Word) = BitVec.ofNat 32 32 := by decide
  simp only [timer] at held
  have field : ∀ lo w, t.get ⟨WCH_STATUS, lo, w⟩ = bitsOf (s.word WCH_STATUS &&& ~~~BitVec.ofNat 32 32) lo w :=
    fun lo w => congrArg (fun x => bitsOf x lo w) held
  refine ⟨t, ht, code, ?_, fun lo w hd hw => (field lo w).trans (bitsOf_and_not_disjoint _ _ lo w hd hw)⟩
  have bit : (bitsOf (s.word WCH_STATUS &&& ~~~BitVec.ofNat 32 32) 5 1).testBit 0 = false := by
    rw [testBit_bitsOf, BitVec.getLsbD_and, show (~~~BitVec.ofNat 32 32).getLsbD (5 + 0) = false by decide, Bool.and_false, Bool.and_false]
  have zero : t.get WCH_STATUS_TIMER = 0 := by
    rw [show t.get WCH_STATUS_TIMER = _ from field 5 1]
    rw [Nat.testBit_zero, decide_eq_false_iff_not, bitsOf] at bit
    rw [bitsOf]
    omega
  rw [State.bit, zero]
  rfl

/-- Settles O13: the three registers by their rows, and the rest by what a live write does where nothing is closed to it. -/
theorem permittedLiveWrites : Obligations.PermittedLiveWrites := by
  refine ⟨fun s acc a v r may hhit => ⟨fun ha hb => registerWrite_done may hhit ha hb, ?_⟩, fun s acc v => ⟨?_, ?_, ?_⟩⟩
  · intro b hb hab hw hs hg hl _
    have plain : ∀ {x}, blockOf x = some b → plainBlock x := fun hx => by rcases hb with rfl | rfl | rfl <;> simp [plainBlock, hx]
    obtain ⟨t, ht, code, -, held, rest⟩ := registerWrite_stores may hhit (plain hab) hw hs hg hl
    refine ⟨t, ht, code, held, fun x hx hxa hxl => rest x ?_ hxa hxl⟩
    have := (plain hx).range
    omega
  · exact registerWrite_WCH_SET_SEC_LO v
  · exact registerWrite_WCH_SET_NS v
  · rintro h rfl
    obtain ⟨t, ht, code, timer, rest⟩ := registerWrite_WCH_STATUS_TIMER h
    exact ⟨t, ht, code, timer, congrArg (· != 0) (rest 0 4 rfl (by decide)), congrArg (· != 0) (rest 7 1 rfl (by decide))⟩

end Sys2Proof.Machine

/-!
SUPPORT. Where an access of the register bus ends (R27, R28): the response it finishes with, and what a write that only finishes leaves alone.
-/
namespace Sys2Proof.Machine

/-! ### The response of an access -/

/-- A capture of a response writes SYS_BUSERR_INFO and SYS_BUSERR_ADDR alone (R29). -/
theorem State.busError_word (s : State) (m code : Nat) (write : Bool) (addr : Word) {a : Nat} (hi : a ≠ SYS_BUSERR_INFO)
    (ha : a ≠ SYS_BUSERR_ADDR) : (s.busError m code write addr).word a = s.word a := by
  have put : ∀ (u : State) (f : Fld) (v : Nat), f.addr = SYS_BUSERR_INFO → (u.put f v).word a = u.word a :=
    fun u f v hf => State.word_put_ne _ _ _ _ (by rwa [hf])
  unfold State.busError
  split
  · exact put _ _ _ rfl
  · rw [State.word_putWord_ne _ _ _ _ ha, put _ _ _ rfl, State.putB, put _ _ _ rfl, put _ _ _ rfl, State.set, put _ _ _ rfl]

/-- The response that an access finishes with. -/
theorem State.busCode_finish (s : State) (m : Nat) {code : Nat} (h : code < 4) (write : Bool) (addr d : Word) :
    (s.finish m code write addr d).busCode m = code := State.busCode_complete _ m h d

/-- The data that an access finishes with. -/
@[simp] theorem State.busData_finish (s : State) (m code : Nat) (write : Bool) (addr d : Word) :
    (s.finish m code write addr d).busData m = d := State.busData_complete _ m code d

/-- An access that finishes changes no register, but for the capture of a response other than DONE, which ends below 0x40000010. -/
theorem State.finish_word (s : State) (m code : Nat) (write : Bool) (addr d : Word) {a : Nat} (h : code = 0 ∨ 0x40000010 ≤ a) :
    (s.finish m code write addr d).word a = s.word a := by
  rcases h with rfl | h
  · rw [State.finish_ok, State.complete_word]
  · rw [State.finish, State.complete_word, State.iff]
    split
    · exact State.busError_word _ _ _ _ _ (by unfold SYS_BUSERR_INFO; omega) (by unfold SYS_BUSERR_ADDR; omega)
    · rfl

/-! ### Where an access ends -/

/-- A write whose address or data fails its parity, whatever else it may meet (R27). -/
theorem State.busWrite_parity {s : State} {acc : Acc} (addr v : Word) (ht : s.busTakes acc.master.val = true)
    (bad : acc.addrFlips ≠ 0 ∨ acc.dataFlips ≠ 0) : s.busWrite acc addr v = s.parityFail acc.master.val true addr := by
  have fails : (parityHolds addr acc.addrFlips && parityHolds v acc.dataFlips) = false := by
    simpa only [parityHolds_flips, Bool.and_eq_false_iff, beq_eq_false_iff_ne] using bad
  simp only [State.busWrite, State.busWriteAck, ht, fails, Bool.not_true, Bool.not_false, Bool.false_eq_true, if_false, if_true]

/-- A read whose address fails its parity. -/
theorem State.busRead_parity {s : State} {m : Nat} {flips : BitVec 4} (addr : Word) (ht : s.busTakes m = true) (bad : flips ≠ 0) :
    s.busRead m flips addr = s.parityFail m false addr := by
  have fails : parityHolds addr flips = false := by rwa [parityHolds_flips, beq_eq_false_iff_ne]
  simp only [State.busRead, State.busReadAck, ht, fails, Bool.not_true, Bool.not_false, Bool.false_eq_true, if_false, if_true]

/-- A read with good parity of an address outside every window. -/
theorem State.busRead_unmapped {s : State} {m : Nat} {addr : Word} (ht : s.busTakes m = true)
    (hb : blockOf (addr.toNat / 4 * 4) = none) : s.busRead m 0 addr = s.finish m 1 false addr 0 := by
  simp only [State.busRead, State.busReadAck, ht, parityHolds_flips, hb, beq_self_eq_true, Bool.not_true, Bool.false_eq_true, if_false]

/-- A read with good parity of an unassigned offset of a block's window. -/
theorem State.busRead_unassigned {s : State} {m b : Nat} {addr : Word} (ht : s.busTakes m = true)
    (hb : blockOf (addr.toNat / 4 * 4) = some b) (h20 : b ≠ 20) (hr : rowOf (addr.toNat / 4 * 4) = none) :
    s.busRead m 0 addr = s.finish m 0 false addr 0 := by
  simp only [State.busRead, State.busReadAck, ht, parityHolds_flips, hb, h20, hr, beq_self_eq_true, Bool.not_true, Bool.false_eq_true,
    if_false]

section Writes
variable {s : State} {acc : Acc} {addr : Word} (v : Word) (ht : s.busTakes acc.master.val = true) (hp : acc.addrFlips = 0)
  (hq : acc.dataFlips = 0)
include ht hp hq

/-- A write with good parity to an address outside every window. -/
theorem State.busWrite_unmapped (hb : blockOf (addr.toNat / 4 * 4) = none) :
    s.busWrite acc addr v = s.finish acc.master.val 1 true addr 0 := by
  simp only [State.busWrite, State.busWriteAck, ht, parityHolds_flips, hp, hq, hb, beq_self_eq_true, Bool.and_self, Bool.not_true,
    Bool.false_eq_true, if_false]

/-- A write with good parity to an unassigned offset of a block's window. -/
theorem State.busWrite_unassigned {b : Nat} (hb : blockOf (addr.toNat / 4 * 4) = some b) (h20 : b ≠ 20)
    (hr : rowOf (addr.toNat / 4 * 4) = none) : s.busWrite acc addr v = s.finish acc.master.val 0 true addr 0 := by
  simp only [State.busWrite, State.busWriteAck, ht, parityHolds_flips, hp, hq, hb, h20, hr, beq_self_eq_true, Bool.and_self,
    Bool.not_true, Bool.false_eq_true, if_false]

/-- A write with good parity by a master that the register's writers column does not name (R12). -/
theorem State.busWrite_denied {r : RegRow} (hr : rowOf (addr.toNat / 4 * 4) = some r) (hd : s.domainUp (addr.toNat / 4 * 4) = true)
    (hw : r.written = true) (hm : s.mayWrite r acc.master.val (addr.toNat / 4 * 4) = false) :
    s.busWrite acc addr v = s.finish acc.master.val 2 true addr 0 := by
  obtain ⟨b, hb, h20⟩ := blockOf_of_rowOf hr
  simp only [State.busWrite, State.busWriteAck, ht, parityHolds_flips, hp, hq, hb, h20, hr, hd, hw, hm, beq_self_eq_true,
    Bool.and_self, Bool.or_self, Bool.not_true, Bool.not_false, Bool.false_eq_true, if_false, if_true]

end Writes

/-! ### The commands -/

/-- What holds after the write, once the rest of the block has reacted, holds of the command REGISTER_WRITE. -/
theorem gives_busWrite {s : State} {acc : Acc} {addr v : Word} {P : State → Prop}
    (h : P ((s.withOut []).busWrite acc addr v).refresh.settle) : Gives (.registerWrite acc addr v) s P := ⟨_, rfl, h⟩

/-- What holds after the read holds of the command RC_READ. -/
theorem gives_busRead {s : State} {m : Fin 16} {flips : BitVec 4} {addr : Word} {P : State → Prop}
    (h : P ((s.withOut []).busRead m.val flips addr).settle) : Gives (.rcRead m flips addr) s P := ⟨_, rfl, h⟩

/-- The command REGISTER_WRITE of a write that only finishes: it answers the response, and keeps the write mask, the power controller, the
load, and every register that holds neither the capture nor a level, below those of the cipher engine. -/
theorem registerWrite_finishes {s : State} {acc : Acc} {addr v : Word} {code : Nat} (hc : code < 4)
    (h : (s.withOut []).busWrite acc addr v = (s.withOut []).finish acc.master.val code true addr 0) :
    Gives (.registerWrite acc addr v) s fun t => t.busCode acc.master.val = code ∧ t.mask = s.mask ∧ t.pwr = s.pwr ∧ t.load = s.load ∧
      ∀ a, code = 0 ∨ 0x40000010 ≤ a → a < 0x400C0000 → a ∉ levelRegs → t.word a = s.word a := by
  have kept := State.finish_touches (s.withOut []) acc.master.val code true addr 0
  refine gives_busWrite ?_
  rw [h]
  refine ⟨?_, ?_, ?_, ?_, fun a ha small hl => ?_⟩
  · rw [State.settle_busCode, State.refresh_busCode, State.busCode_finish _ _ hc]
  · rw [State.settle_mask, State.refresh_mask, kept.mask rfl, State.withOut_mask]
  · rw [State.settle_pwr, State.refresh_pwr, kept.pwr rfl, State.withOut_pwr]
  · rw [State.settle_load, State.refresh_load, kept.load rfl, State.withOut_load]
  · rw [State.settle_word_of_not_level _ hl, (State.refresh_low _).word a small, State.finish_word _ _ _ _ _ _ ha, State.withOut_word]

/-- Settles O15: the response is that of the first check that fails, and what the access finishes with is all it does. -/
theorem responsePriority : Obligations.ResponsePriority := by
  intro s acc addr v ht
  have ht' : (s.withOut []).busTakes acc.master.val = true := ht
  refine ⟨fun bad => gives_busWrite ?_, fun flips bad => gives_busRead ?_, fun hb hp hq => ?_, fun hb => gives_busRead ?_,
    fun r hr hp hq hd hw hm => ?_⟩
  · rw [State.busWrite_parity addr v ht' bad, State.settle_busCode, State.refresh_busCode, State.parityFail,
      State.busCode_finish _ _ (by decide)]
  · rw [State.busRead_parity addr ht' bad, State.settle_busCode, State.settle_busData, State.parityFail,
      State.busCode_finish _ _ (by decide), State.busData_finish]
    exact ⟨rfl, rfl⟩
  · obtain ⟨t, step, code, mask, pwr, -, words⟩ := registerWrite_finishes (by decide) (State.busWrite_unmapped v ht' hp hq hb)
    exact ⟨t, step, code, mask, pwr, fun a low => words a (.inr low)⟩
  · rw [State.busRead_unmapped ht' hb, State.settle_busCode, State.settle_busData, State.busCode_finish _ _ (by decide),
      State.busData_finish]
    exact ⟨rfl, rfl⟩
  · obtain ⟨t, step, code, mask, pwr, -, words⟩ := registerWrite_finishes (by decide) (State.busWrite_denied v ht' hp hq hr hd hw hm)
    exact ⟨t, step, code, mask, pwr, fun a low => words a (.inr low)⟩

/-- Settles O16: an access to an unassigned offset does nothing but finish with DONE. -/
theorem unassignedOffsetsCompleteDone : Obligations.UnassignedOffsetsCompleteDone := by
  intro s acc addr v b ht hp hq hb h20 hr
  have ht' : (s.withOut []).busTakes acc.master.val = true := ht
  constructor
  · refine gives_busRead ?_
    rw [State.busRead_unassigned ht' hb h20 hr]
    refine ⟨?_, ?_, fun a _ hl => ?_⟩
    · rw [State.settle_busCode, State.busCode_finish _ _ (by decide)]
    · rw [State.settle_busData, State.busData_finish]
    · rw [State.settle_word_of_not_level _ hl, State.finish_word _ _ _ _ _ _ (.inl rfl), State.withOut_word]
  · obtain ⟨t, step, code, mask, pwr, load, words⟩ :=
      registerWrite_finishes (by decide) (State.busWrite_unassigned v ht' hp hq hb h20 hr)
    exact ⟨t, step, code, mask, pwr, load, fun a => words a (.inl rfl)⟩

end Sys2Proof.Machine

/-!
SUPPORT. The loss of the selected time source: the Fix selector, block 7, goes to dead reckoning, and its steering word reaches PLL_STEER,
in block 6 (R337, R363, R367, R368).
-/
namespace Sys2Proof.Machine

/-- A part in Running whose time follows source 1, the only one enabled; steering words 7 and 5 have been counted, the second is in force,
and FPLL0 is locked and follows it. Every register not named reads 0. -/
def steeredPart : State :=
  let s := { State.reset with regs := [], dev := .running, fix := { FixState.fresh with lockSum := 12, lockCnt := 2 } }
  let s := (((s.put FIX_PRIO_BRG 1).set (srcValidFld 1)).set (srcQualFld 1)).put FIX_STATE_STATE fixLocked
  let s := ((s.put FIX_STATE_SELECTED 1).set FIX_STATE_TIME_VALID).put FIX_SIGMA_SIGMA 5
  ((s.set (PLL_CFG_STEER_EN 0)).set (PLL_STATUS_LOCKED 0)).put (PLL_STEER_SIGMA 0) 5

/-- The loss of source 1 leaves the mean of both words in PLL_STEER of FPLL0. -/
theorem sourceInvalid_steeredPart_PLL_STEER : ((steeredPart.withOut []).sourceInvalid 1).word (PLL_STEER 0) = 6 := by
  decide +kernel

/-- Refutes O6: SOURCE_INVALID belongs to the Fix selector, block 7, and with the source that was selected it changes the steering word in
PLL_STEER of a PLL that follows it, in block 6 (R363, R367, R368). -/
theorem not_eventsKeepToTheirBlock : ¬ Obligations.EventsKeepToTheirBlock := by
  intro h
  obtain ⟨t, ht, keeps⟩ := h (.sourceInvalid 0) steeredPart 7 rfl
  have kept : t.word (PLL_STEER 0) = 5 := (keeps (PLL_STEER 0) (by decide) (by decide)).trans (by decide +kernel)
  have moved : t.word (PLL_STEER 0) = 6 := by
    rw [← Host.Outcome.next.inj ht, State.settle_word_of_not_level _ (by decide)]
    exact sourceInvalid_steeredPart_PLL_STEER
  exact absurd (kept.symm.trans moved) (by decide)

end Sys2Proof.Machine

/-!
SUPPORT. The end of a command of the power chapter: what holds of its effect holds of what it leaves, and which fields it leaves.
-/
namespace Sys2Proof.Machine

/-- What holds once the levels are up to date holds of a command whose effect stays within its own block. -/
theorem gives_act {c : Instr} {f : State → State} {s : State} {P : State → Prop} (e : exec c s = act f s)
    (h : P (f (s.withOut [])).settle) : Gives c s P := ⟨_, e, h⟩

/-- What holds once the other blocks have reacted and the levels are up to date holds of a command whose effect they react to. -/
theorem gives_actAll {c : Instr} {f : State → State} {s : State} {P : State → Prop} (e : exec c s = actAll f s)
    (h : P (f (s.withOut [])).refresh.settle) : Gives c s P := ⟨_, e, h⟩

/-- A register below those of the cipher engine that holds no level reads at the end of a command as after its effect. -/
theorem State.refresh_settle_word (s : State) {a : Nat} (low : a < 0x400C0000) (level : a ∉ levelRegs) :
    s.refresh.settle.word a = s.word a := by
  rw [State.settle_word_of_not_level _ level, (State.refresh_low s).word a low]

/-- A field reads the same where its register does. -/
theorem State.get_of_word {s t : State} {f : Fld} (h : t.word f.addr = s.word f.addr) : t.get f = s.get f :=
  congrArg (fun w => bitsOf w f.lo f.width) h

/-- A bit reads the same where its register does. -/
theorem State.bit_of_word {s t : State} {f : Fld} (h : t.word f.addr = s.word f.addr) : t.bit f = s.bit f :=
  congrArg (· != 0) (State.get_of_word h)

/-- No field of the power controller holds a level, and each lies below the cipher engine's registers. -/
theorem State.settle_get_pwr (s : State) {f : Fld} (h : f.addr ∉ levelRegs) : s.settle.get f = s.get f :=
  State.get_of_word (State.settle_word_of_not_level s h)

theorem State.settle_bit_pwr (s : State) {f : Fld} (h : f.addr ∉ levelRegs) : s.settle.bit f = s.bit f :=
  State.bit_of_word (State.settle_word_of_not_level s h)

@[simp] theorem State.setPwr_pwr (s : State) (f : PwrState → PwrState) : (s.setPwr f).pwr = f s.pwr := rfl

@[simp] theorem State.iff_true (s : State) (f : State → State) : s.iff true f = f s := rfl

@[simp] theorem State.iff_false (s : State) (f : State → State) : s.iff false f = s := rfl

/-! ### The lines of the power controller (Table ARCH-15) -/

@[simp] theorem State.lineLevel_watchPending (s : State) : s.lineLevel 0 = s.pwr.watchPending := rfl

@[simp] theorem State.lineLevel_wakeDone (s : State) : s.lineLevel 1 = s.pwr.wakeDone := rfl

@[simp] theorem State.lineLevel_wakeLate (s : State) : s.lineLevel 2 = s.bit PWR_STATUS_WAKE_LATE := rfl

@[simp] theorem State.lineLevel_vmonLow (s : State) : s.lineLevel 3 = s.pwr.vmonLow := rfl

end Sys2Proof.Machine

namespace Sys2Proof.Machine

/-! ### Watch triggers -/

/-- The start of a drain: of the power controller it changes `drain`, `wakeDone`, the wake causes and the grace time. -/
theorem State.drainStart_power (s : State) (kind : Nat) : (s.drainStart kind).dev = .draining ∧
    ∃ grace, (s.drainStart kind).pwr =
      { s.pwr with drain := kind, wakeDone := s.pwr.wakeDone && kind == 2, causes := 0, graceOver := grace } := by
  unfold State.drainStart
  extract_lets swept idle u
  have keptSweep : Touches 821019923 s swept :=
    (State.wearAbandon_touches _).seq rfl <| (State.auditAbort_touches _).seq rfl <| (State.lmdWithhold_touches _).seq rfl <|
    (State.bcdDrain_touches _).seq rfl <| (State.rxcDrain_touches _).seq rfl <| (State.smpDrain_touches _).seq rfl <|
    (State.sptDrain_touches _).seq rfl <| (State.drainSweep_touches s).mono rfl
  have keptIdle : Touches 821019923 s idle :=
    (State.portsUpdate_touches _).seq rfl <| keptSweep.each fun _ n h => (State.laneIdle_touches _ n).seq rfl h
  have keptEnd : Touches 1282 (u.enter .draining) (u.enter .draining).prDrain := State.prDrain_touches _
  constructor
  · exact keptEnd.dev rfl
  · exact ⟨_, (keptEnd.pwr rfl).trans (by
      show u.pwr = _
      simp only [u, State.setPwr_pwr, keptIdle.pwr rfl]
      rfl)⟩

/-- No trigger acts outside Running and a drain (R69). -/
theorem State.watchTrigger_idle {s : State} (cause : Nat) (hr : s.dev ≠ .running) (hd : s.dev ≠ .draining) :
    s.watchTrigger cause = s := by
  unfold State.watchTrigger
  split
  · rfl
  · rw [if_neg (by simpa using hd), if_pos (by simpa using hr)]

/-- In Running a trigger starts the Watch drain, and a reload request or the pins' levels stay as they are (R69, R73). -/
theorem State.watchTrigger_running {s : State} {cause : Nat} (hc : cause ≠ 0) (hr : s.dev = .running) :
    (s.watchTrigger cause).dev = .draining ∧ ∃ grace, (s.watchTrigger cause).pwr =
      { s.pwr with drain := 1, wakeDone := false, causes := 0, graceOver := grace, watchPending := true } := by
  unfold State.watchTrigger
  simp only [if_neg hc, hr, show (DevState.running == DevState.draining) = false from rfl,
    show (DevState.running != DevState.running) = false from rfl, Bool.false_eq_true, if_false]
  have kept : Touches 134234371 s (s.put PWR_STATUS_ENTRY_CAUSE cause).monDrain :=
    (State.monDrain_touches _).seq rfl ((State.put_touches ..).mono rfl)
  obtain ⟨dev, grace, pwr⟩ := State.drainStart_power (s.put PWR_STATUS_ENTRY_CAUSE cause).monDrain 1
  refine ⟨dev, grace, ?_⟩
  rw [State.setPwr_pwr, pwr, kept.pwr rfl]
  simp

/-- A trigger during a drain is recorded (R92, R93). -/
theorem State.watchTrigger_draining {s : State} {cause : Nat} (hc : cause ≠ 0) (hd : s.dev = .draining) :
    ∃ v, s.watchTrigger cause = s.put PWR_STATUS_ENTRY_CAUSE v ∧
      (cause < 8 → v = s.get PWR_STATUS_ENTRY_CAUSE ||| cause ∧ v < 8) := by
  refine ⟨_, by unfold State.watchTrigger; rw [if_neg hc, if_pos (by simp [hd])], fun h8 => ?_⟩
  have held : s.get PWR_STATUS_ENTRY_CAUSE < 8 := Nat.mod_lt _ (by decide)
  rw [BitVec.toNat_or, BitVec.toNat_ofNat, BitVec.toNat_ofNat, Nat.mod_eq_of_lt held, Nat.mod_eq_of_lt h8]
  exact ⟨rfl, Nat.or_lt_two_pow (n := 3) held h8⟩

end Sys2Proof.Machine

namespace Sys2Proof.Machine

/-- PWR_WATCH_REQ: a write-only request bit, which every master but the monitors may write. -/
theorem rowOf_PWR_WATCH_REQ : rowOf PWR_WATCH_REQ = some ⟨PWR_WATCH_REQ, [], 0, 1, 0, 0, 0, 0, .set 0x0FFF⟩ := rfl

/-- The write of PWR_WATCH_REQ starts a request (R71). -/
theorem State.written_PWR_WATCH_REQ (s : State) (w old : Word) : s.written PWR_WATCH_REQ w old = s.watchReq w := rfl

/-- A write of PWR_WATCH_REQ that its master may make. -/
theorem State.regWrite_PWR_WATCH_REQ {s : State} {acc : Acc} (v : Word) (h : s.commandOk acc PWR_WATCH_REQ = true) :
    s.regWrite acc PWR_WATCH_REQ v =
      ((s.putWord PWR_WATCH_REQ (s.word PWR_WATCH_REQ)).watchReq v).complete acc.master.val 0 0 := by
  rw [State.regWrite_command s acc _ v h (by decide) (fun _ _ => rfl), State.written_PWR_WATCH_REQ, State.finish_ok]

/-- Where no trigger acts, a request does nothing. -/
theorem State.watchReq_idle {s : State} (w : Word) (hr : s.dev ≠ .running) (hd : s.dev ≠ .draining) : s.watchReq w = s := by
  unfold State.watchReq State.iff
  split
  · exact State.watchTrigger_idle _ hr hd
  · rfl

/-- Where no trigger acts, any write of PWR_WATCH_REQ leaves everything but the registers, the reports, the response and what is sent. -/
theorem State.regWrite_PWR_WATCH_REQ_idle {s : State} (acc : Acc) (v : Word) (hr : s.dev ≠ .running) (hd : s.dev ≠ .draining) :
    Touches 771 s (s.regWrite acc PWR_WATCH_REQ v) := by
  have fin : ∀ {t : State}, Touches 771 s t → ∀ code addr, Touches 771 s (t.finish acc.master.val code true addr 0) :=
    fun h _ _ => (State.finish_touches ..).seq rfl h
  have stored : ∀ r sm closed, Touches 771 s (s.store r PWR_WATCH_REQ sm closed v) := by
    intro r sm closed
    unfold State.store
    split
    · exact Touches.refl _ _
    · show Touches 771 s ((s.putWord PWR_WATCH_REQ _).watchReq _)
      rw [State.watchReq_idle (s := s.putWord PWR_WATCH_REQ _) _ hr hd]
      exact (State.putWord_touches ..).mono rfl
  have live : ∀ r m sm addr, Touches 771 s (s.liveWrite r m PWR_WATCH_REQ sm addr v) := by
    intro r m sm addr
    exact (State.finish_touches ..).seq rfl (.iff (stored ..) fun _ h => (State.satInc_touches ..).seq rfl h)
  have aligned : (BitVec.ofNat 32 PWR_WATCH_REQ).toNat / 4 * 4 = PWR_WATCH_REQ := rfl
  have block : blockOf PWR_WATCH_REQ = some 0 := rfl
  simp only [State.regWrite, State.busWrite, State.busWriteAck, aligned, block, rowOf_PWR_WATCH_REQ,
    if_neg (show ¬ (0 : Nat) = 20 by decide)]
  split_ifs
  · exact Touches.refl _ _
  · exact (State.parityFail_touches ..).mono rfl
  · exact fin (.refl _ _) ..
  · exact fin (.refl _ _) ..
  · exact live ..

/-- A request that its master may make, enabled by FAB_EN, is a trigger. -/
theorem State.regWrite_PWR_WATCH_REQ_trigger {s : State} {acc : Acc} {v : Word} (h : s.commandOk acc PWR_WATCH_REQ = true)
    (hv : v.getLsbD 0 = true) (en : s.bit PWR_WATCH_CFG_FAB_EN = true) :
    s.regWrite acc PWR_WATCH_REQ v =
      ((s.putWord PWR_WATCH_REQ (s.word PWR_WATCH_REQ)).watchTrigger 1).complete acc.master.val 0 0 := by
  have en' : (s.putWord PWR_WATCH_REQ (s.word PWR_WATCH_REQ)).bit PWR_WATCH_CFG_FAB_EN = true := by
    rw [State.bit, State.get_putWord_self]
    exact en
  rw [State.regWrite_PWR_WATCH_REQ v h, State.watchReq, hv, en', Bool.and_self, State.iff_true]

/-- WATCH_N is recorded low. -/
def State.pinLow (s : State) : State := s.setPwr fun p => { p with watchNLow := true, causes := p.causes &&& 0xE#4 }

/-- VMON is recorded to have stayed low for FILTER_US. -/
def State.filterOver (s : State) : State := s.setPwr fun p => { p with vmonFiltered := true }

/-- WATCH_N low, enabled by PIN_EN, is a trigger. -/
theorem State.watchPin_trigger {s : State} (en : s.bit PWR_WATCH_CFG_PIN_EN = true) : s.watchPin = s.pinLow.watchTrigger 2 :=
  if_pos en

/-- VMON that has stayed low for FILTER_US, enabled by VMON_EN, is a trigger. -/
theorem State.vmonFilter_trigger {s : State} (en : s.bit PWR_WATCH_CFG_VMON_EN = true) (low : s.pwr.vmonLow = true) :
    s.vmonFilter = s.filterOver.watchTrigger 4 := by
  rw [State.vmonFilter, low]
  exact if_pos en

/-- Where no trigger acts, enabled or not, a trigger changes nothing. -/
theorem State.iff_watchTrigger_idle {s : State} (c : Bool) (cause : Nat) (hr : s.dev ≠ .running) (hd : s.dev ≠ .draining) :
    s.iff c (·.watchTrigger cause) = s := by
  unfold State.iff
  split
  · exact State.watchTrigger_idle _ hr hd
  · rfl

/-- Where no trigger acts, WATCH_N low changes the power controller's record of it alone. -/
theorem State.watchPin_idle {s : State} (hr : s.dev ≠ .running) (hd : s.dev ≠ .draining) : s.watchPin = s.pinLow :=
  State.iff_watchTrigger_idle (s := s.pinLow) _ _ hr hd

/-- Where no trigger acts, the filter's expiry changes the power controller's record of it at most. -/
theorem State.vmonFilter_idle {s : State} (hr : s.dev ≠ .running) (hd : s.dev ≠ .draining) :
    s.vmonFilter = s ∨ s.vmonFilter = s.filterOver := by
  unfold State.vmonFilter
  split
  · exact .inl rfl
  · exact .inr (State.iff_watchTrigger_idle (s := s.filterOver) _ _ hr hd)

/-! ### The commands -/

@[simp] theorem State.complete_dev (s : State) (m c : Nat) (d : Word) : (s.complete m c d).dev = s.dev := rfl

@[simp] theorem State.complete_pwr (s : State) (m c : Nat) (d : Word) : (s.complete m c d).pwr = s.pwr := rfl

theorem exec_watchRequest (a : Acc) (v : Word) (s : State) :
    exec (.watchRequest a v) s = actAll (·.regWrite a PWR_WATCH_REQ v) s := rfl

theorem exec_watchNLow (s : State) : exec .watchNLow s = actAll (·.watchPin) s := rfl

theorem exec_vmonFilterExpiry (s : State) : exec .vmonFilterExpiry s = actAll (·.vmonFilter) s := rfl

/-- What follows from what a command gives, it gives. -/
theorem Gives.imp {c : Instr} {s : State} {P Q : State → Prop} (h : Gives c s P) (k : ∀ t, P t → Q t) : Gives c s Q :=
  Exists.imp (fun t ⟨step, p⟩ => ⟨step, k t p⟩) h

/-- A command whose effect is, as to the power state, a trigger in Running: the Watch drain runs, WATCH_PENDING is high, WAKE_DONE low, and
the levels that were recorded stay. -/
theorem gives_watchDrain {c : Instr} {f : State → State} {s w u : State} {cause : Nat} (e : exec c s = actAll f s)
    (effect : f (s.withOut []) = w) (dev : w.dev = (u.watchTrigger cause).dev) (pwr : w.pwr = (u.watchTrigger cause).pwr)
    (hc : cause ≠ 0) (hu : u.dev = .running) :
    Gives c s fun t => t.dev = .draining ∧ t.pwr.drain = 1 ∧ t.lineLevel 0 = true ∧ t.lineLevel 1 = false ∧
      t.pwr.watchNLow = u.pwr.watchNLow ∧ t.pwr.vmonFiltered = u.pwr.vmonFiltered := by
  obtain ⟨drains, grace, after⟩ := State.watchTrigger_running hc hu
  refine gives_actAll e ?_
  simp only [State.lineLevel_watchPending, State.lineLevel_wakeDone, State.settle_dev, State.refresh_dev, State.settle_pwr,
    State.refresh_pwr, effect, dev, pwr, drains, after, and_self]

/-- A command whose effect is, as to the power state, a trigger in a drain: it is recorded, and no second drain starts. -/
theorem gives_entryCause {c : Instr} {f : State → State} {s w u : State} {cause : Nat} (e : exec c s = actAll f s)
    (effect : f (s.withOut []) = w) (dev : w.dev = (u.watchTrigger cause).dev) (pwr : w.pwr = (u.watchTrigger cause).pwr)
    (status : w.word PWR_STATUS = (u.watchTrigger cause).word PWR_STATUS) (hc : cause ≠ 0) (h8 : cause < 8) (hu : u.dev = .draining) :
    Gives c s fun t => t.get PWR_STATUS_ENTRY_CAUSE = u.get PWR_STATUS_ENTRY_CAUSE ||| cause ∧ t.dev = .draining ∧ t.pwr = u.pwr := by
  obtain ⟨v, recorded, small⟩ := State.watchTrigger_draining hc hu
  obtain ⟨hv, h⟩ := small h8
  have kept : w.refresh.settle.word PWR_STATUS = w.word PWR_STATUS := w.refresh_settle_word (by decide) (by decide)
  refine gives_actAll e ⟨?_, ?_, ?_⟩
  · rw [effect, State.get_of_word (f := PWR_STATUS_ENTRY_CAUSE) (kept.trans status), recorded, State.get_put_same _ _ _ (by decide), ← hv]
    exact Nat.mod_eq_of_lt h
  · rw [State.settle_dev, State.refresh_dev, effect, dev, recorded, State.put_dev, hu]
  · rw [State.settle_pwr, State.refresh_pwr, effect, pwr, recorded, State.put_pwr]

/-- A command whose effect leaves the state and the drain as they are. -/
theorem gives_noDrain {c : Instr} {f : State → State} {s : State} (e : exec c s = actAll f s) (hh : s.dev = .halted)
    (dev : (f (s.withOut [])).dev = s.dev) (drain : (f (s.withOut [])).pwr.drain = s.pwr.drain)
    (pending : (f (s.withOut [])).pwr.watchPending = s.pwr.watchPending) :
    Gives c s fun t => t.dev = .halted ∧ t.pwr.drain = s.pwr.drain ∧ t.pwr.watchPending = s.pwr.watchPending := by
  refine gives_actAll e ?_
  rw [State.settle_dev, State.refresh_dev, State.settle_pwr, State.refresh_pwr]
  exact ⟨dev.trans hh, drain, pending⟩

/-- Settles O9: a trigger starts the drain in Running, does nothing in a halted load, and is recorded in a drain. -/
theorem watchTriggers : Obligations.WatchTriggers := by
  refine ⟨fun s running => ⟨fun a v ok hv en => ?_, fun en => ?_, fun en low => ?_⟩, fun s halted => ?_,
    fun s draining => ⟨fun a v ok hv en => ?_, fun en => ?_, fun en low => ?_⟩⟩
  · have effect := State.regWrite_PWR_WATCH_REQ_trigger (s := s.withOut []) ok hv en
    refine (gives_watchDrain (exec_watchRequest a v s) effect (State.complete_dev ..) (State.complete_pwr ..) (by decide) running).imp ?_
    rintro t ⟨dev, drain, pending, done, -, -⟩
    exact ⟨dev, drain, pending, done⟩
  · have effect := State.watchPin_trigger (s := s.withOut []) en
    refine (gives_watchDrain (exec_watchNLow s) effect rfl rfl (by decide) running).imp ?_
    rintro t ⟨dev, drain, pending, done, low, -⟩
    exact ⟨dev, drain, pending, done, low⟩
  · have effect := State.vmonFilter_trigger (s := s.withOut []) en low
    refine (gives_watchDrain (exec_vmonFilterExpiry s) effect rfl rfl (by decide) running).imp ?_
    rintro t ⟨dev, drain, pending, done, -, filtered⟩
    exact ⟨dev, drain, pending, done, filtered⟩
  · have hr : (s.withOut []).dev ≠ .running := by simp [halted]
    have hd : (s.withOut []).dev ≠ .draining := by simp [halted]
    refine ⟨fun a v => ?_, ?_, ?_⟩
    · have kept := State.regWrite_PWR_WATCH_REQ_idle a v hr hd
      exact gives_noDrain (exec_watchRequest a v s) halted (kept.dev rfl) (congrArg PwrState.drain (kept.pwr rfl))
        (congrArg PwrState.watchPending (kept.pwr rfl))
    · have effect := State.watchPin_idle hr hd
      exact gives_noDrain (exec_watchNLow s) halted (by rw [effect]; rfl) (by rw [effect]; rfl) (by rw [effect]; rfl)
    · rcases State.vmonFilter_idle hr hd with effect | effect <;>
      exact gives_noDrain (exec_vmonFilterExpiry s) halted (by rw [effect]; rfl) (by rw [effect]; rfl) (by rw [effect]; rfl)
  · have effect := State.regWrite_PWR_WATCH_REQ_trigger (s := s.withOut []) ok hv en
    refine (gives_entryCause (exec_watchRequest a v s) effect (State.complete_dev ..) (State.complete_pwr ..)
      (State.complete_word ..) (by decide) (by decide) draining).imp ?_
    rw [State.get_putWord_self]
    exact fun t h => h
  · have effect := State.watchPin_trigger (s := s.withOut []) en
    refine (gives_entryCause (exec_watchNLow s) effect rfl rfl rfl (by decide) (by decide) draining).imp ?_
    rintro t ⟨cause, dev, pwr⟩
    exact ⟨cause, dev, by rw [pwr]; rfl⟩
  · have effect := State.vmonFilter_trigger (s := s.withOut []) en low
    refine (gives_entryCause (exec_vmonFilterExpiry s) effect rfl rfl rfl (by decide) (by decide) draining).imp ?_
    rintro t ⟨cause, dev, pwr⟩
    exact ⟨cause, dev, by rw [pwr]; rfl⟩

end Sys2Proof.Machine

/-!
SUPPORT. The reset state is well kept.
-/
namespace Sys2Proof.Machine

/-- After reset every memory is in its canonical form: the register file is written register by register, the others are empty. -/
theorem State.reset_cellsWf : State.reset.cellsWf = true := by
  have regs : cellWf State.reset.regs = true := putAll_wf _ _ (putAll_wf _ _ rfl)
  rw [State.cellsWf, regs]
  rfl

/-- Settles O4: the canonical forms are there, and every step from them answers a next state. -/
theorem resetIsWellKept : Obligations.ResetIsWellKept :=
  ⟨State.reset_cellsWf, rfl, rfl, (step_keeps_cellsWf _ State.reset_cellsWf).imp fun _ h => h.1⟩

end Sys2Proof.Machine

/-!
SUPPORT. RAIL_RETURN of a number that names no rail: the rest of the block reacts to the command all the same, and what the Watchkeeper's
session does then reaches the guarantee unit's buffer (R118, R846).
-/
namespace Sys2Proof.Machine

/-- A part in Running with a session at Control level, whose slot 63 holds no key. -/
def keylessControl : State := (State.reset.withDev .running).set MON_STATUS_CONTROL

theorem exec_railReturn (rail : Fin 14) (s : State) : exec (.railReturn rail) s = actAll (·.railReturn rail.val) s := rfl

/-- What a command gives holds once the other blocks have reacted and the levels are up to date. -/
theorem Gives.after_actAll {c : Instr} {f : State → State} {s : State} {P : State → Prop} (h : Gives c s P) (e : exec c s = actAll f s) :
    P (f (s.withOut [])).refresh.settle := by
  obtain ⟨t, step, p⟩ := h
  rw [e] at step
  exact Host.Outcome.next.inj step ▸ p

/-- The session ends, for the key is not there, and its entry 0x0A04 waits in the guarantee unit's buffer. -/
theorem railReturn_keylessControl_logq :
    (((keylessControl.withOut []).railReturn (6 : Fin 14).val).refresh.grd.logq.map fun e => (e.code, e.detail)) = [(0x0A04, 4)] := by
  decide +kernel

/-- Refutes O8: RAIL_RETURN of number 6 names no rail, and yet the guarantee unit is not as it was where a session at Control level ends in
the same step. -/
theorem not_railsComeAndGo : ¬ Obligations.RailsComeAndGo := by
  intro h
  obtain ⟨-, -, -, -, -, -, noRail⟩ := h keylessControl
  obtain ⟨kept, -⟩ := (noRail 6 (.inl rfl)).after_actAll (exec_railReturn 6 keylessControl)
  have after := railReturn_keylessControl_logq
  rw [← State.settle_grd, kept] at after
  exact absurd after (by decide)

end Sys2Proof.Machine

/-!
SUPPORT. The VMON comparator, the grace time and the retention switch (R72 to R75).
-/
namespace Sys2Proof.Machine

/-- While THRESH is 0 the comparator does not go low. -/
theorem State.vmonFall_off {s : State} (off : s.get PWR_VMON_CFG_THRESH = 0) : s.vmonFall = s := by
  simp [State.vmonFall, State.vmonOn, off]

/-- The comparator goes low, and its filter starts anew. -/
theorem State.vmonFall_on {s : State} (on : s.get PWR_VMON_CFG_THRESH ≠ 0) (hd : s.dev ≠ .off) (high : s.pwr.vmonLow = false) :
    s.vmonFall = s.setPwr fun p => { p with vmonLow := true, vmonFiltered := false, causes := p.causes &&& 0xD#4 } := by
  refine if_pos ?_
  simp [State.vmonOn, on, hd, high]

/-- The comparator leaves its low state; where that is a wake cause, the cause is present. -/
theorem State.vmonRise_pwr (s : State) : s.vmonRise.pwr = { s.pwr with
    vmonLow := false, vmonFiltered := false,
    causes := if s.pwr.vmonLow && (s.dev == .watch || s.dev == .draining) && s.bit PWR_WAKE_CFG_VMON then s.pwr.causes ||| 2#4
      else s.pwr.causes } := by
  simp only [State.vmonRise, State.iff]
  split <;> rfl

/-- The grace time of a drain ends. -/
theorem State.graceEnd_draining {s : State} (hd : s.dev = .draining) : s.graceEnd = s.setPwr fun p => { p with graceOver := true } :=
  if_pos (by rw [hd]; rfl)

/-- The retention switch up to what the blocks let go: the drain is counted, and no block that loses its supply is left at work. -/
def State.retained (s : State) (us : Nat) : State :=
  let s := (s.put PWR_TIMES_DRAIN (min us 65535)).satInc PWR_WATCH_COUNT_COUNT PWR_WATCH_COUNT_OVF
  s.drainSweep.pinRetention.nvmCut.fixStop.pllRetention.monRetention.brgRetention.bcdRetention.lmdRetention

/-- What the retention switch lets go, and the Watch state entered. -/
def State.asleep (s : State) : State :=
  let s := ((s.withFix { s.fix with oscOk := false }).withBin { s.bin with latches := [] }).setFab fun f => { f with fixes := [] }
  (s.enter .watch).setPwr fun p => { p with drain := 0, wake := 0, lateAt := 0 }

theorem State.retained_touches (s : State) (us : Nat) : Touches 1836053779 s (s.retained us) := by
  unfold State.retained
  exact (State.lmdRetention_touches _).seq rfl <| (State.bcdRetention_touches _).seq rfl <| (State.brgRetention_touches _).seq rfl <|
    (State.monRetention_touches _).seq rfl <| (State.pllRetention_touches _).seq rfl <| (State.fixStop_touches _).seq rfl <|
    (State.nvmCut_touches _).seq rfl <| (State.pinRetention_touches _).seq rfl <| (State.drainSweep_touches _).seq rfl <|
    (State.satInc_touches ..).seq rfl <| (State.put_touches ..).mono rfl

/-! What the retention switch leaves: the Watch state, with the power controller's phases at 0 and the Binnacle port's latches lost. -/

theorem State.asleep_dev (s : State) : s.asleep.dev = .watch := rfl

theorem State.asleep_pwr (s : State) : s.asleep.pwr = { s.pwr with drain := 0, wake := 0, lateAt := 0 } := rfl

theorem State.asleep_mask (s : State) : s.asleep.mask = s.mask := by
  rw [State.asleep, State.setPwr_mask, State.enter, State.withDev_mask, State.setFab_mask, State.withBin_mask, State.withFix_mask]

theorem State.asleep_frames (s : State) : s.asleep.fab.frames = s.fab.frames := rfl

theorem State.asleep_latches (s : State) : s.asleep.bin.latches = [] := rfl

/-- The end of a finished Watch drain is the retention switch, after which a held reload leaves the Watch state (R74, R96). -/
theorem State.watchDrainEnd_eq (s : State) (us : Nat) (acts : ¬ (!(s.dev == .draining && s.pwr.drain == 1 && s.drained)) = true) :
    s.watchDrainEnd us = ((s.setPwr fun p => { p with lines := s.linesNow }).retained us).asleep.iff
      (((s.setPwr fun p => { p with lines := s.linesNow }).retained us).asleep.pwr.reload != 0) (·.leaveWatch) := if_neg acts

/-- With no reload held the drain's end leads into the Watch state and no further. -/
theorem State.watchDrainEnd_asleep {s : State} (us : Nat) (hd : s.dev = .draining) (hk : s.pwr.drain = 1) (fin : s.drained = true)
    (hr : s.pwr.reload = 0) : s.watchDrainEnd us = ((s.setPwr fun p => { p with lines := s.linesNow }).retained us).asleep := by
  rw [s.watchDrainEnd_eq us (by simp [hd, hk, fin])]
  generalize s.linesNow = l
  have noReload : ((s.setPwr fun p => { p with lines := l }).retained us).asleep.pwr.reload = 0 := by
    rw [State.asleep_pwr, ((s.setPwr fun p => { p with lines := l }).retained_touches us).pwr rfl]
    exact hr
  rw [noReload, bne_self_eq_false, State.iff_false]

/-- What the retention switch leaves, once the other blocks have reacted to it. -/
theorem State.asleep_done (u : State) : u.asleep.refresh.settle.dev = .watch ∧
    u.asleep.refresh.settle.pwr = { u.pwr with drain := 0, wake := 0, lateAt := 0 } ∧ u.asleep.refresh.settle.mask = u.mask ∧
    u.asleep.refresh.settle.fab.frames = u.fab.frames ∧ u.asleep.refresh.settle.bin.latches = [] := by
  rw [State.settle_dev, State.refresh_dev, State.settle_pwr, State.refresh_pwr, State.settle_mask, State.refresh_mask,
    State.settle_fab, State.refresh_fab, State.settle_bin, State.refresh_bin]
  exact ⟨u.asleep_dev, u.asleep_pwr, u.asleep_mask, u.asleep_frames, u.asleep_latches⟩

/-! ### The commands -/

theorem exec_vmonLow (s : State) : exec .vmonLow s = act (·.vmonFall) s := rfl

theorem exec_vmonHigh (s : State) : exec .vmonHigh s = act (·.vmonRise) s := rfl

theorem exec_graceExpiry (s : State) : exec .graceExpiry s = act (·.graceEnd) s := rfl

theorem exec_watchDrainEnd (us : Nat) (s : State) : exec (.watchDrainEnd us) s = actAll (·.watchDrainEnd us) s := rfl

/-- The comparator's rise, with the causes that are present after it. -/
theorem gives_vmonHigh {s : State} {causes : BitVec 4}
    (h : (if s.pwr.vmonLow && (s.dev == .watch || s.dev == .draining) && s.bit PWR_WAKE_CFG_VMON then s.pwr.causes ||| 2#4
      else s.pwr.causes) = causes) :
    Gives .vmonHigh s fun t => t.pwr = { s.pwr with vmonLow := false, vmonFiltered := false, causes := causes } ∧ t.lineLevel 3 = false := by
  have rise : (s.withOut []).vmonRise.pwr = { s.pwr with vmonLow := false, vmonFiltered := false, causes := causes } :=
    h ▸ (s.withOut []).vmonRise_pwr
  refine gives_act (exec_vmonHigh s) ?_
  rw [State.lineLevel_vmonLow, State.settle_pwr, rise]
  exact ⟨rfl, rfl⟩

/-- Settles O10: the comparator and the grace time by what each edge records, the retention switch by what the blocks retain. -/
theorem comparatorGraceAndRetention : Obligations.ComparatorGraceAndRetention := by
  refine ⟨fun s => ⟨fun off => ?_, fun hd on high => ?_, fun masked => ?_, fun hd en low => ?_, fun hd => ?_⟩, fun s us hd hk fin hr => ?_⟩
  · refine gives_act (exec_vmonLow s) ?_
    rw [State.vmonFall_off (s := s.withOut []) off, State.settle_pwr, State.withOut_pwr]
  · refine gives_act (exec_vmonLow s) ?_
    rw [State.lineLevel_vmonLow, State.settle_pwr, State.vmonFall_on (s := s.withOut []) on hd high]
    exact ⟨rfl, rfl⟩
  · refine gives_vmonHigh (if_neg ?_)
    rcases masked with ⟨hw, hd⟩ | en
    · simp [hw, hd]
    · simp [en]
  · refine gives_vmonHigh (if_pos ?_)
    rcases hd with hd | hd <;> simp [hd, en, low]
  · refine gives_act (exec_graceExpiry s) ?_
    rw [State.graceEnd_draining (s := s.withOut []) hd, State.settle_pwr, State.settle_dev]
    exact ⟨rfl, hd⟩
  · have asleep := State.watchDrainEnd_asleep (s := s.withOut []) us hd hk fin hr
    generalize (s.withOut []).linesNow = l at asleep
    have kept := ((s.withOut []).setPwr fun p => { p with lines := l }).retained_touches us
    refine gives_actAll (exec_watchDrainEnd us s) ?_
    rw [asleep]
    obtain ⟨dev, pwr, mask, frames, latches⟩ := State.asleep_done (((s.withOut []).setPwr fun p => { p with lines := l }).retained us)
    refine ⟨dev, congrArg PwrState.drain pwr, congrArg PwrState.wake pwr, frames.trans ?_, mask.trans (kept.mask rfl), latches⟩
    exact congrArg FabState.frames (kept.fab rfl)

end Sys2Proof.Machine

/-!
SUPPORT. The wake timeline (R83 to R88, R99): the wake event, its phases, a phase that is late, and fabric clock release.
-/
namespace Sys2Proof.Machine

/-! ### A fault report leaves the registers below the guarantee unit's -/

theorem pendingFld_addr (n : Nat) : 0x40040000 ≤ (pendingFld n).addr := by
  unfold pendingFld grdBit
  split
  · exact show 0x40040000 ≤ GRD_PENDING_LO by decide
  · exact show 0x40040000 ≤ GRD_PENDING_HI by decide

theorem degradedFld_addr (n : Nat) : 0x40040000 ≤ (degradedFld n).addr := by
  unfold degradedFld grdBit
  split
  · exact show 0x40040000 ≤ GRD_DEGRADED_LO by decide
  · exact show 0x40040000 ≤ GRD_DEGRADED_HI by decide

theorem Low.grdMulti {r s : State} (h : Low 0x40040000 r s) (n : Nat) : Low 0x40040000 r (s.grdMulti n) :=
  Low.withGrd (h.iff fun _ h => h.event (by decide))

theorem Low.grdRecord {r s : State} (h : Low 0x40040000 r s) (n inst : Nat) : Low 0x40040000 r (s.grdRecord n inst) :=
  ((((h.set (by decide)).put (by decide)).put (by decide)).put (by decide)).iff fun _ h =>
    (((h.set (by decide)).put (by decide)).put (by decide)).put (by decide)

theorem Low.grdCount {r s : State} (h : Low 0x40040000 r s) (n : Nat) : Low 0x40040000 r (s.grdCount n) := by
  unfold State.grdCount
  cases (faultRow n).kind
  case masked => exact (h.satInc (by decide) (by decide)).event (by decide)
  case detected => exact (h.satInc (by decide) (by decide)).event (by decide)
  case condition => exact (h.satInc (by decide) (by decide)).event (by decide)

theorem Low.grdEntry {r s : State} (h : Low 0x40040000 r s) (n inst detail : Nat) : Low 0x40040000 r (s.grdEntry n inst detail) := by
  unfold State.grdEntry
  split_ifs
  · exact h
  · exact h.satInc (by decide) (by decide)
  · exact Low.withGrd ((State.blockLog_low ..).seq (by decide) h)

theorem Low.grdReact {r s : State} (h : Low 0x40040000 r s) (n inst : Nat) : Low 0x40040000 r (s.grdReact n inst) := by
  unfold State.grdReact
  refine Low.iff ?_ fun _ h => (h.set (degradedFld_addr n)).event (by decide)
  split_ifs
  · exact (h.set (pendingFld_addr n)).withGrd
  · exact h.withGrd

/-- A report writes registers of the guarantee unit and the log's count of lost entries alone. -/
theorem State.report_low (s : State) (n inst detail : Nat) : Low 0x40040000 s (s.report n inst detail) := by
  unfold State.report
  split
  · exact Low.refl _ _
  · exact ((((Low.refl _ s).grdMulti n).grdRecord n inst).grdCount n).grdEntry n inst detail |>.grdReact n inst

/-! ### The wake event -/

/-- WATCH_N is found high where PIN wakes: the pin is recorded high, and its cause present. -/
def State.pinRisen (s : State) : State := (s.setPwr fun p => { p with watchNLow := false }).wakeCause 0

/-- The wake event itself: its causes are recorded, and the timeline starts. -/
def State.wakeStart (s : State) (causes : Nat) : State :=
  (s.put PWR_STATUS_WAKE_CAUSE causes).setPwr fun p => { p with wake := 1, causes := 0, lateAt := 0 }

/-- The enabled causes that are present. -/
def State.wakeCauses (s : State) : Nat := s.pwr.causes.toNat &&& bitsOf (s.word PWR_WAKE_CFG) 0 4

/-- A cycle of the watch clock in which WATCH_N rises, where PIN wakes (R83, R84). -/
theorem State.wakeEvent_pin {s : State} (level : Bool) (hw : s.dev = .watch) (hl : s.pwr.leaving = false) (h0 : s.pwr.wake = 0)
    (en : s.bit PWR_WAKE_CFG_PIN = true) : s.wakeEvent false true level =
      if decide (s.pinRisen.wakeCauses = 0) || s.pinRisen.wakeHeld then s.pinRisen else s.pinRisen.wakeStart s.pinRisen.wakeCauses := by
  have idle : (s.dev != .watch || s.pwr.wake != 0 || s.pwr.leaving) = false := by simp [hw, h0, hl]
  have en' : (s.setPwr fun p => { p with watchNLow := false }).bit PWR_WAKE_CFG_PIN = true := en
  rw [State.wakeEvent, idle, if_neg Bool.false_ne_true]
  simp only [Bool.false_and, State.iff_false, Bool.true_or, Bool.not_true, Bool.true_and, en', State.iff_true]
  rfl

/-- Where the pin wakes, its rise is an enabled cause that is present. -/
theorem State.pinRisen_wakeCauses {s : State} (en : s.bit PWR_WAKE_CFG_PIN = true) :
    s.pinRisen.wakeCauses % 2 = 1 ∧ s.pinRisen.wakeCauses < 16 := by
  have pin : (bitsOf (s.word PWR_WAKE_CFG) 0 4).testBit 0 = true := by
    have bit : (bitsOf (s.word PWR_WAKE_CFG) 0 1 != 0) = true := en
    simp only [bitsOf, bne_iff_ne] at bit
    simp only [bitsOf, Nat.testBit_zero, decide_eq_true_eq]
    omega
  have present : (s.pwr.causes ||| (1#4 <<< 0)).toNat.testBit 0 = true := by simp
  have both : s.pinRisen.wakeCauses.testBit 0 = true := by
    show ((s.pwr.causes ||| (1#4 <<< 0)).toNat &&& bitsOf (s.word PWR_WAKE_CFG) 0 4).testBit 0 = true
    rw [Nat.testBit_and, pin, present, Bool.and_self]
  refine ⟨by simpa using both, ?_⟩
  exact Nat.lt_of_le_of_lt Nat.and_le_left s.pinRisen.pwr.causes.isLt

/-- A cause that becomes present starts no timeline of its own. -/
theorem State.iff_wakeCause_wake (s : State) (c : Bool) (i : Nat) : (s.iff c (·.wakeCause i)).pwr.wake = s.pwr.wake := by
  cases c
  · rfl
  · rfl

/-- VCC_CORE outside its limits holds any wake event off, whatever causes are present. -/
theorem State.wakeEvent_coreOut {s : State} (vmonRose pinRose level : Bool) (h0 : s.pwr.wake = 0) (out : s.railOk 0 = false) :
    (s.wakeEvent vmonRose pinRose level).pwr.wake = 0 := by
  unfold State.wakeEvent
  split
  · exact h0
  · extract_lets rose seen byVmon byPin causes
    have keptRose : rose.pwr.wake = 0 := by
      cases vmonRose
      · exact h0
      · exact (congrArg PwrState.wake s.vmonRise_pwr).trans h0
    have kept : Touches 64 s byPin := Touches.iff (Touches.iff ((State.setPwr_touches ..).seq rfl
      (Touches.iff (.refl _ _) fun _ h => (State.vmonRise_touches _).seq rfl h))
      fun _ h => (State.wakeCause_touches ..).seq rfl h) fun _ h => (State.wakeCause_touches ..).seq rfl h
    have waits : byPin.pwr.wake = 0 := by
      simp only [byPin, byVmon, State.iff_wakeCause_wake]
      exact keptRose
    have held : byPin.wakeHeld = true := by
      have core : byPin.railOk 0 = false := by rw [State.railOk, State.word, kept.regs rfl]; exact out
      rw [State.wakeHeld, core, Bool.not_false, Bool.or_true]
    rw [held, Bool.or_true, if_pos rfl, waits]

/-- With no cause present a cycle of the watch clock records the level of WATCH_N alone. -/
theorem State.wakeEvent_none {s : State} (level : Bool) (hw : s.dev = .watch) (hl : s.pwr.leaving = false) (h0 : s.pwr.wake = 0)
    (none : s.pwr.causes = 0) : s.wakeEvent false false level = s.setPwr fun p => { p with watchNLow := !level } := by
  have idle : (s.dev != .watch || s.pwr.wake != 0 || s.pwr.leaving) = false := by simp [hw, h0, hl]
  rw [State.wakeEvent, idle, if_neg Bool.false_ne_true]
  simp [none]

/-! ### The phases -/

/-- A phase that has not ended in time: WAKE_LATE, once for the phase (R87). -/
def State.lateMark (s : State) : State := (s.set PWR_STATUS_WAKE_LATE).setPwr fun p => { p with lateAt := p.wake }

/-- The report that follows leaves the mark of a late phase as it is. -/
theorem State.lateMark_report (s : State) (n inst detail : Nat) :
    (s.lateMark.report n inst detail).pwr = { s.pwr with lateAt := s.pwr.wake } ∧
      (s.lateMark.report n inst detail).word PWR_STATUS = (s.set PWR_STATUS_WAKE_LATE).word PWR_STATUS :=
  ⟨(s.lateMark.report_touches n inst detail).pwr rfl, (s.lateMark.report_low n inst detail).word PWR_STATUS (by decide)⟩

theorem State.wakePllsOk_eq_true (s : State) : s.wakePllsOk = true ↔ ∀ n ∈ List.range 11, s.pllLate n = false := by
  simp only [State.wakePllsOk, Bool.not_eq_eq_eq_not, Bool.not_true, List.any_eq_false, Bool.not_eq_true]

theorem State.wakePllsOk_eq_false (s : State) : s.wakePllsOk = false ↔ ∃ n ∈ List.range 11, s.pllLate n = true := by
  simp only [State.wakePllsOk, Bool.not_eq_eq_eq_not, Bool.not_false, List.any_eq_true]

/-- A phase whose end has not come is marked late and reported. -/
theorem State.wakePhaseLate_report (s : State) (copy us : Nat) (hw : s.dev = .watch) (hl : s.pwr.leaving = false)
    (once : s.pwr.lateAt ≠ s.pwr.wake)
    (phase : s.pwr.wake = 1 ∨ (s.pwr.wake = 2 ∧ ∃ r ∈ s.refsInUse, s.refOk r = false) ∨ (s.pwr.wake = 3 ∧ s.wakePllsOk = false) ∨
      s.pwr.wake = 4) :
    ∃ n inst detail, s.wakePhaseLate copy us = s.lateMark.report n inst detail ∨
      s.wakePhaseLate copy us = (s.lateMark.report n inst detail).drawn := by
  have acts : (s.dev != .watch || s.pwr.leaving || s.pwr.wake == s.pwr.lateAt) = false := by simp [hw, hl, Ne.symm once]
  rw [State.wakePhaseLate, acts, if_neg Bool.false_ne_true]
  rcases phase with core | ⟨refs, r, used, lost⟩ | ⟨plls, missing⟩ | scrub
  · rw [core]
    exact ⟨_, _, _, .inr rfl⟩
  · have found : (s.refsInUse.find? fun r => !s.refOk r).isSome = true := List.find?_isSome.mpr ⟨r, used, by rw [lost]; rfl⟩
    obtain ⟨r, hr⟩ := Option.isSome_iff_exists.mp found
    rw [refs, hr]
    exact ⟨_, _, _, .inl rfl⟩
  · obtain ⟨n, used, late⟩ := s.wakePllsOk_eq_false.mp missing
    have found : ((List.range 11).find? s.pllLate).isSome = true := List.find?_isSome.mpr ⟨n, used, late⟩
    obtain ⟨n, hn⟩ := Option.isSome_iff_exists.mp found
    rw [plls, hn]
    exact ⟨_, _, _, .inl rfl⟩
  · rw [scrub]
    exact ⟨_, _, _, .inl rfl⟩

/-- A phase whose end has not come sets WAKE_LATE, once. -/
theorem State.wakePhaseLate_late {s : State} (copy us : Nat) (hw : s.dev = .watch) (hl : s.pwr.leaving = false)
    (once : s.pwr.lateAt ≠ s.pwr.wake)
    (phase : s.pwr.wake = 1 ∨ (s.pwr.wake = 2 ∧ ∃ r ∈ s.refsInUse, s.refOk r = false) ∨ (s.pwr.wake = 3 ∧ s.wakePllsOk = false) ∨
      s.pwr.wake = 4) :
    (s.wakePhaseLate copy us).pwr = { s.pwr with lateAt := s.pwr.wake } ∧
      (s.wakePhaseLate copy us).word PWR_STATUS = (s.set PWR_STATUS_WAKE_LATE).word PWR_STATUS := by
  obtain ⟨n, inst, detail, late⟩ := s.wakePhaseLate_report copy us hw hl once phase
  have marked := s.lateMark_report n inst detail
  rcases late with late | late
  · exact late ▸ marked
  · exact late ▸ marked

/-- A phase whose end has come is not late. -/
theorem State.wakePhaseLate_ended {s : State} (copy us : Nat)
    (ended : (s.pwr.wake = 2 ∧ ∀ r ∈ s.refsInUse, s.refOk r = true) ∨ (s.pwr.wake = 3 ∧ s.wakePllsOk = true)) :
    s.wakePhaseLate copy us = s := by
  unfold State.wakePhaseLate
  split
  · rfl
  · rcases ended with ⟨refs, ok⟩ | ⟨plls, ok⟩
    · have none : (s.refsInUse.find? fun r => !s.refOk r) = none := List.find?_eq_none.mpr fun r used => by simp [ok r used]
      rw [refs, none]
      rfl
    · have none : (List.range 11).find? s.pllLate = none := List.find?_eq_none.mpr
        fun n used => by simp [s.wakePllsOk_eq_true.mp ok n used]
      rw [plls, none]
      rfl

/-- The timeline stands in phase `p` where the Watch state is not being left. -/
theorem State.wakeIn_of {s : State} {p : Nat} (hw : s.dev = .watch) (hl : s.pwr.leaving = false) (h : s.pwr.wake = p) :
    s.wakeIn p = true := by
  simp [State.wakeIn, hw, hl, h]

/-! ### Fabric clock release -/

/-- Running with no drain and no trigger waiting, as fabric clock release leaves it (R85, R88). -/
structure Awake (s : State) : Prop where
  dev : s.dev = .running
  wake : s.pwr.wake = 0
  done : s.pwr.wakeDone = true
  pending : s.pwr.watchPending = false
  grace : s.pwr.graceOver = false
  pin : s.pwr.watchNLow = false
  filter : s.pwr.vmonFiltered = false

/-- What touches neither the power state nor the power controller leaves the part awake. -/
theorem Awake.kept {T : Nat} {s t : State} (a : Awake s) (h : Touches T s t) (clear : T &&& 96 = 0) : Awake t := by
  have unset : ∀ i, (96 : Nat).testBit i = true → T.testBit i = false := fun i on => by
    have bit : (T &&& 96).testBit i = false := by rw [clear, Nat.zero_testBit]
    rwa [Nat.testBit_and, on, Bool.and_true] at bit
  have dev := h.dev (unset 5 (by decide))
  have pwr := h.pwr (unset 6 (by decide))
  exact ⟨dev.trans a.dev, by rw [pwr, a.wake], by rw [pwr, a.done], by rw [pwr, a.pending], by rw [pwr, a.grace], by rw [pwr, a.pin],
    by rw [pwr, a.filter]⟩

/-- The settings of a domain that had no supply are now in force, which the power controller records. -/
theorem Awake.domainSettings {s : State} (a : Awake s) (d : Domain) : Awake (s.domainSettings d) := by
  unfold State.domainSettings
  split
  · exact a
  · extract_lets regs settings owned
    have kept : Awake owned := a.kept (T := 262146) (Touches.iff ((State.applySettings_touches ..).seq rfl
      ((State.domainRegs_touches ..).mono rfl)) fun _ h => (State.put_touches ..).seq rfl h) rfl
    exact ⟨kept.dev, kept.wake, kept.done, kept.pending, kept.grace, kept.pin, kept.filter⟩

theorem Awake.iff {s : State} (a : Awake s) {c : Bool} {f : State → State} (hf : ∀ x, Awake x → Awake (f x)) : Awake (s.iff c f) := by
  unfold State.iff
  split
  · exact hf s a
  · exact a

/-- No trigger waits where neither the pin nor the comparator stands low. -/
theorem Awake.pendingTriggers {s : State} (a : Awake s) : Awake s.pendingTriggers := by
  have none : s.triggers = 0 := by simp [State.triggers, a.pin, a.filter]
  rw [State.pendingTriggers, a.pin, State.iff_false, none, State.watchTrigger, if_pos rfl]
  exact a

/-- Fabric clock release with no trigger waiting. -/
theorem State.fabricClockRelease_awake {s : State} (us : Nat) (h5 : s.wakeIn 5 = true) (pin : s.pwr.watchNLow = false)
    (filter : s.pwr.vmonFiltered = false) : Awake (s.fabricClockRelease us) := by
  rw [State.fabricClockRelease, h5, Bool.not_true, if_neg Bool.false_ne_true]
  have entered : Awake ((s.enter .running).setPwr fun p =>
      { p with wake := 0, watchPending := false, wakeDone := true, graceOver := false, lateAt := 0 }) := ⟨rfl, rfl, rfl, rfl, rfl, pin, filter⟩
  have seeded := ((((((entered.kept (State.put_touches _ PWR_TIMES_WAKE (min us 65535)) rfl).kept (State.streamsEmpty_touches _) rfl).kept
    (State.sweepsStart_touches _) rfl).kept (State.prWake_touches _) rfl).kept (State.scrubStart_touches _) rfl).kept
    (State.seedDevice_touches _) rfl)
  refine Awake.pendingTriggers (Awake.kept ?_ (State.lateFaults_touches _) rfl)
  refine Awake.kept ?_ (State.apAllFilled_touches _) rfl
  refine ((Awake.kept ?_ (State.sptRelease_touches _) rfl).kept (State.monWake_touches _) rfl).kept (State.pinRelease_touches _) rfl
  refine Awake.iff (Awake.iff seeded fun x lanes => ?_) fun x radio => ?_
  · have started := Awake.kept (lanes.domainSettings .lane) (T := 32770)
      (Touches.each (xs := List.range 24) (.refl _ _) fun _ n h => (State.laneStart_touches _ n).seq rfl h) rfl
    exact started.kept (State.brgStart_touches _) rfl
  · have resumed := ((radio.domainSettings .radio).kept (State.smpResume_touches _ true) rfl).kept (State.smpResume_touches _ false) rfl
    refine (Awake.kept ?_ (State.bcdResume_touches _) rfl).kept (State.lmdStart_touches _) rfl
    extract_lets
    split
    · exact resumed.kept (State.rxcRestart_touches _) rfl
    · exact resumed.kept (State.rxcMute_touches _) rfl

/-! ### The commands -/

theorem exec_wakeEvent (vmonRose pinRose level : Bool) (s : State) :
    exec (.wakeEvent vmonRose pinRose level) s = act (·.wakeEvent vmonRose pinRose level) s := rfl

theorem exec_wakeCoreSwitched (s : State) : exec .wakeCoreSwitched s = actAll (·.wakeCoreSwitched) s := rfl

theorem exec_wakeRefsQualified (s : State) : exec .wakeRefsQualified s = actAll (·.wakeRefsQualified) s := rfl

theorem exec_wakePllsLocked (s : State) : exec .wakePllsLocked s = act (·.wakePllsLocked) s := rfl

theorem exec_wakeScrubDone (s : State) : exec .wakeScrubDone s = act (·.wakeScrubDone) s := rfl

theorem exec_wakePhaseLate (unit : Fin 16) (us : Nat) (s : State) :
    exec (.wakePhaseLate unit us) s = act (·.wakePhaseLate unit.val us) s := rfl

theorem exec_fabricClockRelease (us : Nat) (s : State) : exec (.fabricClockRelease us) s = actAll (·.fabricClockRelease us) s := rfl

/-- A command gives the power controller that its effect leaves. -/
theorem gives_act_pwr {c : Instr} {f : State → State} {s : State} {p : PwrState} (e : exec c s = act f s) (h : (f (s.withOut [])).pwr = p) :
    Gives c s fun t => t.pwr = p := gives_act e ((State.settle_pwr _).trans h)

/-- The wake event with nothing that holds it off. -/
theorem gives_wakeStart {s : State} (level : Bool) (hw : s.dev = .watch) (hl : s.pwr.leaving = false) (h0 : s.pwr.wake = 0)
    (en : s.bit PWR_WAKE_CFG_PIN = true) (core : s.railOk 0 = true) (high : s.pwr.vmonLow = false ∨ s.bit PWR_WATCH_CFG_VMON_EN = false) :
    Gives (.wakeEvent false true level) s fun t =>
      t.pwr.wake = 1 ∧ t.get PWR_STATUS_WAKE_CAUSE % 2 = 1 ∧ t.pwr.causes = 0 ∧ t.pwr.watchNLow = false ∧ t.dev = .watch := by
  obtain ⟨odd, small⟩ := State.pinRisen_wakeCauses (s := s.withOut []) en
  have present : (s.withOut []).pinRisen.wakeCauses ≠ 0 := fun none => by rw [none] at odd; exact absurd odd (by decide)
  have free : (s.withOut []).pinRisen.wakeHeld = false := by
    have vmon : (s.pwr.vmonLow && s.bit PWR_WATCH_CFG_VMON_EN) = false := by rcases high with h | h <;> simp [h]
    show (false && _ || (s.pwr.vmonLow && s.bit PWR_WATCH_CFG_VMON_EN) || !s.railOk 0) = false
    rw [vmon, core]
    rfl
  have started := State.wakeEvent_pin (s := s.withOut []) level hw hl h0 en
  rw [decide_eq_false present, free, Bool.or_self, if_neg Bool.false_ne_true] at started
  refine gives_act (exec_wakeEvent false true level s) ?_
  rw [started, State.settle_pwr, State.settle_dev, State.settle_get_pwr _ (by decide)]
  refine ⟨rfl, ?_, rfl, rfl, hw⟩
  show ((s.withOut []).pinRisen.put PWR_STATUS_WAKE_CAUSE _).get PWR_STATUS_WAKE_CAUSE % 2 = 1
  rw [State.get_put_same _ _ _ (by decide), Nat.mod_eq_of_lt (show _ < 2 ^ PWR_STATUS_WAKE_CAUSE.width from small)]
  exact odd

/-- The wake event held off by the VMON comparator, with its cause kept. -/
theorem gives_wakeHeld {s : State} (level : Bool) (hw : s.dev = .watch) (hl : s.pwr.leaving = false) (h0 : s.pwr.wake = 0)
    (en : s.bit PWR_WAKE_CFG_PIN = true) (low : s.pwr.vmonLow = true) (vmon : s.bit PWR_WATCH_CFG_VMON_EN = true) :
    Gives (.wakeEvent false true level) s fun t =>
      t.pwr.wake = 0 ∧ t.pwr.causes.getLsbD 0 = true ∧ t.get PWR_STATUS_WAKE_CAUSE = s.get PWR_STATUS_WAKE_CAUSE := by
  have held : (s.withOut []).pinRisen.wakeHeld = true := by
    show (false && _ || (s.pwr.vmonLow && s.bit PWR_WATCH_CFG_VMON_EN) || !s.railOk 0) = true
    rw [low, vmon]
    rfl
  have waits := State.wakeEvent_pin (s := s.withOut []) level hw hl h0 en
  rw [held, Bool.or_true, if_pos rfl] at waits
  refine gives_act (exec_wakeEvent false true level s) ?_
  rw [waits, State.settle_pwr, State.settle_get_pwr _ (by decide)]
  refine ⟨h0, ?_, rfl⟩
  show (s.pwr.causes ||| (1#4 <<< 0)).getLsbD 0 = true
  simp

/-- Settles O11: the wake event by what holds it off, each phase by the command that ends it, and the release by what it leaves. -/
theorem wakeToClockRelease : Obligations.WakeToClockRelease := by
  refine ⟨fun s hw hl => ⟨fun level h0 en core => ⟨fun high => ?_, fun low vmon => ?_⟩, fun vmonRose pinRose level h0 out => ?_,
    fun level h0 none => ?_, fun h1 => ?_, fun h2 ok => ?_, fun h3 ok => ?_, fun h4 => ?_, fun unit us once => ⟨fun phase => ?_, fun ended => ?_⟩⟩,
    fun s us hw hl h5 pin filter => ?_⟩
  · exact gives_wakeStart level hw hl h0 en core high
  · exact gives_wakeHeld level hw hl h0 en low vmon
  · refine gives_act (exec_wakeEvent vmonRose pinRose level s) ?_
    rw [State.settle_pwr]
    exact State.wakeEvent_coreOut (s := s.withOut []) vmonRose pinRose level h0 out
  · refine gives_act_pwr (exec_wakeEvent false false level s) ?_
    rw [State.wakeEvent_none (s := s.withOut []) level hw hl h0 none]
    rfl
  · refine gives_actAll (exec_wakeCoreSwitched s) ?_
    rw [State.settle_pwr, State.refresh_pwr, State.wakeCoreSwitched, State.wakeIn_of (s := s.withOut []) hw hl h1, State.iff_true,
      (State.tamperErase_touches _).pwr rfl]
    rfl
  · have qualified : ((s.withOut []).refsInUse.all fun r => (s.withOut []).refOk r) = true := List.all_eq_true.mpr ok
    refine gives_actAll (exec_wakeRefsQualified s) ?_
    rw [State.settle_pwr, State.refresh_pwr, State.wakeRefsQualified, State.wakeIn_of (s := s.withOut []) hw hl h2, qualified, Bool.and_self,
      State.iff_true, (State.pllWake_touches _).pwr rfl]
    rfl
  · refine gives_act (exec_wakePllsLocked s) ?_
    rw [State.settle_pwr, State.wakePllsLocked, State.wakeIn_of (s := s.withOut []) hw hl h3, show (s.withOut []).wakePllsOk = true from ok,
      Bool.and_self, State.iff_true]
    rfl
  · refine gives_act (exec_wakeScrubDone s) ?_
    rw [State.settle_pwr, State.wakeScrubDone, State.wakeIn_of (s := s.withOut []) hw hl h4, State.iff_true]
    rfl
  · obtain ⟨pwr, status⟩ := State.wakePhaseLate_late (s := s.withOut []) unit.val us hw hl once phase
    refine gives_act (exec_wakePhaseLate unit us s) ?_
    rw [State.lineLevel_wakeLate, State.settle_bit_pwr _ (by decide), State.settle_pwr, State.bit_of_word (f := PWR_STATUS_WAKE_LATE) status]
    exact ⟨State.bit_set_same _ PWR_STATUS_WAKE_LATE (by decide) (by decide), pwr⟩
  · refine gives_act (exec_wakePhaseLate unit us s) ?_
    rw [State.wakePhaseLate_ended (s := s.withOut []) unit.val us ended, State.settle_bit_pwr _ (by decide), State.settle_pwr]
    exact ⟨rfl, rfl⟩
  · have awake := State.fabricClockRelease_awake (s := s.withOut []) us (State.wakeIn_of hw hl h5) pin filter
    refine gives_actAll (exec_fabricClockRelease us s) ?_
    rw [State.lineLevel_wakeDone, State.lineLevel_watchPending, State.settle_pwr, State.refresh_pwr, State.settle_dev, State.refresh_dev]
    exact ⟨awake.dev, awake.wake, awake.done, awake.pending, awake.grace⟩

end Sys2Proof.Machine

/-!
SUPPORT. What a load's start and a tamper erase leave of the registers below them (R64, R122, R149).
-/
namespace Sys2Proof.Machine

/-! ### Runs over a list -/

/-- What each step of a run keeps, the run keeps. -/
theorem State.each_keeps {α : Type} {P : State → Prop} {xs : List α} {f : State → α → State} {s : State} (h : P s)
    (step : ∀ x a, P x → P (f x a)) : P (s.each xs f) := by
  unfold State.each
  induction xs generalizing s with
  | nil => exact h
  | cons a as ih => exact ih (step s a h)

/-! ### Zeroization of the cipher engine -/

/-- Consecutive cells from `a` up leave those below as they are. -/
theorem cellRead_cellWriteAll_below {w : Nat} {a b : Nat} (h : b < a) (k : Nat) (xs : List (BitVec w)) (m : Cells w) :
    cellRead (cellWriteAll m a k xs) b = cellRead m b := by
  induction xs generalizing m a with
  | nil => rfl
  | cons x xs ih => exact (ih (Nat.lt_add_right k h) _).trans (cellRead_cellWrite_ne _ (Nat.ne_of_lt h) _)

/-- A cell that a filter over addresses keeps reads the same. -/
theorem cellRead_filter {w : Nat} {p : Nat → Bool} {a : Nat} (h : p a = true) (m : Cells w) :
    cellRead (m.filter fun c => p c.1) a = cellRead m a := by
  induction m with
  | nil => rfl
  | cons c m ih =>
    obtain ⟨b, v⟩ := c
    by_cases kept : p b = true
    · simp only [List.filter_cons, kept, if_true, cellRead, ih]
    · have other : a ≠ b := fun e => kept (e ▸ h)
      simp only [List.filter_cons, kept, Bool.false_eq_true, if_false, cellRead, other, ih]

/-- A cleared range leaves the cells below it as they are. -/
theorem cellRead_clearRange_below {lo hi a : Nat} (h : a < lo) (m : Cells 32) : cellRead (clearRange m lo hi) a = cellRead m a :=
  cellRead_filter (p := fun b => decide (b < lo) || decide (hi ≤ b)) (by simp [h]) m

theorem Low.putRegBytes {b : Nat} {r s : State} {a : Nat} {bs : List Byte} (h : Low b r s) (hb : b ≤ a) : Low b r (s.putRegBytes a bs) :=
  ⟨fun x hx => (cellRead_cellWriteAll_below (Nat.lt_of_lt_of_le hx hb) ..).trans (h.word x hx)⟩

theorem State.cphZeroDst_low (s : State) (q : CphReq) (mode : Nat) (whole : Bool) : Low 0x400C0000 s (s.cphZeroDst q mode whole) := by
  unfold State.cphZeroDst
  extract_lets words n drawn
  have h : Low 0x400C0000 s drawn := (Low.refl _ s).iff fun _ h => h.part rfl
  split_ifs
  · exact h
  · exact h.putRegBytes (by simp only [D_DATA]; omega)
  · exact h.part rfl

/-- The erase of a slot drops the operations that name it. -/
theorem State.slotErase_low (s : State) (k : Nat) : Low 0x400C0000 s (s.slotErase k) := by
  refine Low.part (Low.each (Low.each (.refl _ _) fun _ q h => ?_) fun _ q h => ?_) rfl
  · exact (State.cphFinish_low ..).seq (by decide) ((State.cphZeroDst_low ..).seq (by decide) h)
  · exact (State.cphFinish_low ..).seq (by decide) h

/-- Zeroization writes the cipher engine's registers alone. -/
theorem State.cphZeroize_low (s : State) : Low 0x400C0000 s s.cphZeroize := by
  refine Low.event (n := 147) (Low.each (Low.withCph (Low.each (.refl _ _) fun _ k h => (State.slotErase_low _ k).seq (by decide) h))
    fun x p h => ⟨fun a ha => ?_⟩) (evtFld_cipher (by decide))
  have below : ∀ o, a < pageBase p + o := fun o => by simp only [pageBase]; omega
  exact ((cellRead_clearRange_below (below _) _).trans (cellRead_clearRange_below (below _) _)).trans (h.word a ha)

theorem State.watchLog_low (s : State) (code inst detail : Nat) : Low 0x40188000 s (s.watchLog code inst detail) := by
  unfold State.watchLog
  extract_lets e
  split
  · exact (Low.refl _ _).withWch
  · exact (Low.refl _ _).satInc (by decide) (by decide)

/-- A tamper erase writes the cipher engine's registers and the log's count of lost entries alone. -/
theorem State.tamperErase_low (s : State) : Low 0x400C0000 s s.tamperErase := by
  unfold State.tamperErase
  split
  · exact (State.watchLog_low ..).seq (by decide) (Low.withWch s.cphZeroize_low)
  · exact Low.refl _ _

end Sys2Proof.Machine

/-!
SUPPORT. The start of a load leaves the load controller's MODE as sampled (R149): the PLLs that stop write no register below their own.
-/
namespace Sys2Proof.Machine

/-! ### The PLLs stop -/

/-- A run whose steps leave the power state and the registers below `b` as they are, each as long as the part does not run. -/
theorem State.each_low_idle {α : Type} {b : Nat} {s : State} {xs : List α} {f : State → α → State} (idle : s.dev ≠ .running)
    (dev : ∀ x a, (f x a).dev = x.dev) (low : ∀ x a, x.dev ≠ .running → Low b x (f x a)) : Low b s (s.each xs f) := by
  have kept : (s.each xs f).dev ≠ .running ∧ Low b s (s.each xs f) :=
    State.each_keeps (P := fun x => x.dev ≠ .running ∧ Low b s x) ⟨idle, Low.refl _ _⟩ fun x a ⟨still, h⟩ =>
      ⟨by rw [dev]; exact still, (low x a still).seq (Nat.le_refl _) h⟩
  exact kept.2

theorem State.setUp_low (s : State) (n : Nat) (up : Bool) : Low 0x40080000 s (s.setUp n up) := by
  unfold State.setUp
  split
  · exact Low.refl _ _
  · exact ((Low.refl _ _).putB (by simp only [LNK_STATUS_UP, LNK_STATUS]; omega)).set (by simp only [LNK_STATUS_CHANGE, LNK_STATUS]; omega)

/-- A lane's restart writes registers of the link block alone. -/
theorem State.laneRestart_low (s : State) (n : Nat) (wait : Bool) : Low 0x40080000 s (s.laneRestart n wait) := by
  have status : 0x40080000 ≤ LNK_STATUS n := by simp only [LNK_STATUS]; omega
  have state : 0x40080000 ≤ LNK_BRG_STATE n := by simp only [LNK_BRG_STATE]; omega
  unfold State.laneRestart
  extract_lets act up aligned signal was lane rate peer
  have h : Low 0x40080000 s lane := Low.part ((((s.setUp_low n false).clr status).clr status).iff fun _ h => h.clr status) rfl
  split
  · exact ((((h.put state).put state).put state).put state).put state
  · exact h.putWord state

/-- A port of a part that does not run goes down at most. -/
theorem State.portUpdate_low {s : State} (p : Nat) (idle : s.dev ≠ .running) : Low 0x40080000 s (s.portUpdate p) := by
  have off : s.brgOn = false := by simp [State.brgOn, idle]
  unfold State.portUpdate
  rw [off]
  extract_lets old on lanes new event left
  have down : new = 0 := if_pos rfl
  split
  · exact Low.refl _ _
  · rw [if_neg (by rw [down]; decide)]
    have h : Low 0x40080000 s left := ((Low.refl _ s).event (n := 112) (by decide)).iff fun _ h => h.part rfl
    exact h.put (by simp only [BRG_PORT_STATUS_STATE, BRG_PORT_STATUS]; omega)

theorem State.portsUpdate_low {s : State} (idle : s.dev ≠ .running) : Low 0x40080000 s s.portsUpdate :=
  State.each_low_idle idle (fun x p => (State.portUpdate_touches x p).dev rfl) fun _ p idle => State.portUpdate_low p idle

theorem State.lanesRestart_low {s : State} (ns : List Nat) (idle : s.dev ≠ .running) : Low 0x40080000 s (s.lanesRestart ns) := by
  have h : Low 0x40080000 s (s.each ns fun s n => s.laneRestart n false) :=
    (Low.refl _ _).each fun x n h => (State.laneRestart_low x n false).seq (by decide) h
  have dev : (s.each ns fun s n => s.laneRestart n false).dev = s.dev :=
    State.each_keeps (P := fun x => x.dev = s.dev) rfl fun x n h => ((State.laneRestart_touches x n false).dev rfl).trans h
  exact (State.portsUpdate_low (dev.symm ▸ idle)).seq (by decide) h

theorem State.lpllShow_low (s : State) (n : Nat) : Low 0x40080000 s (s.lpllShow n) := by
  have group : ∀ g, 0x40080000 ≤ LNK_GROUP_STATUS g := fun g => by simp only [LNK_GROUP_STATUS]; omega
  unfold State.lpllShow
  split
  · exact ((Low.refl _ _).putB (group _)).putB (group _)
  · exact Low.refl _ _

/-- A PLL of a part that does not run mutes no signal chain. -/
theorem State.pllMute_low {s : State} (n : Nat) (idle : s.dev ≠ .running) : Low 0x40050000 s (s.pllMute n) := by
  have status : 0x40050000 ≤ PLL_STATUS n := by simp only [PLL_STATUS]; omega
  unfold State.pllMute
  extract_lets was shown
  have h : Low 0x40050000 s shown := (State.lpllShow_low ..).seq (by decide) (((Low.refl _ _).clr status).set status)
  have dev : shown.dev = s.dev := ((State.lpllShow_touches ..).dev rfl).trans rfl
  have off : shown.radioOn = false := by simp [State.radioOn, dev, idle]
  split_ifs
  · exact h
  · rw [off, State.iff_false]
    exact h
  · exact (State.lanesRestart_low _ (dev ▸ idle)).seq (by decide) h
  · exact h

/-- The PLLs stop for a load, and FPLL0 takes the load band. -/
theorem State.pllLoadBegin_low {s : State} (idle : s.dev ≠ .running) : Low 0x40050000 s s.pllLoadBegin := by
  have status : ∀ n, 0x40050000 ≤ PLL_STATUS n := fun n => by simp only [PLL_STATUS]; omega
  unfold State.pllLoadBegin
  extract_lets stopped
  have h : Low 0x40050000 s stopped := State.each_low_idle idle (fun x n => (State.pllMute_touches (x.putPl n Pll.off) n).dev rfl)
    fun x n idle => by
      have muted : Low 0x40050000 x ((x.putPl n Pll.off).pllMute n) :=
        (State.pllMute_low (s := x.putPl n Pll.off) n idle).seq (Nat.le_refl _) ((Low.refl _ x).part rfl)
      exact (muted.clr (status n)).clr (status n)
  exact Low.part (Low.put (f := PLL_STATUS_BAND 0) (Low.part h rfl) (status 0)) rfl

end Sys2Proof.Machine

/-!
SUPPORT. The power state and MODE after a load's start (R64, R149).
-/
namespace Sys2Proof.Machine

theorem State.enter_dev (s : State) (d : DevState) : (s.enter d).dev = d := by
  cases d <;> rfl

/-- The state entered shows in PWR_STATE alone. -/
theorem State.enter_mode (s : State) (d : DevState) : (s.enter d).get CFG_STATUS_MODE = s.get CFG_STATUS_MODE := by
  cases d
  case off => rfl
  case watch => rfl
  case loading => exact State.get_put_ne (s.withDev .loading) PWR_STATE_STATE _ 1 (by decide)
  case halted => exact State.get_put_ne (s.withDev .halted) PWR_STATE_STATE _ 2 (by decide)
  case running => exact State.get_put_ne (s.withDev .running) PWR_STATE_STATE _ 3 (by decide)
  case draining => exact State.get_put_ne (s.withDev .draining) PWR_STATE_STATE _ 4 (by decide)

theorem State.imageBegin_mode (s : State) (golden : Bool) : (s.imageBegin golden).get CFG_STATUS_MODE = s.get CFG_STATUS_MODE := by
  have shown : (s.putB CFG_STATUS_GOLDEN golden).get CFG_STATUS_MODE = s.get CFG_STATUS_MODE :=
    State.get_put_disjoint _ _ _ _ (by decide) (by decide)
  refine Eq.trans (State.get_putWord_ne (s.putB CFG_STATUS_GOLDEN golden) _ 0 CFG_STATUS_MODE ?_) shown
  cases golden
  · exact show CFG_STATUS ≠ CFG_ERR_PRIMARY by decide
  · exact show CFG_STATUS ≠ CFG_ERR_GOLDEN by decide

theorem State.loadHalt_mode (s : State) : s.loadHalt.get CFG_STATUS_MODE = s.get CFG_STATUS_MODE :=
  (State.get_put_disjoint (s.enter .halted) CFG_STATUS_PHASE CFG_STATUS_MODE 5 (by decide) (by decide)).trans (s.enter_mode .halted)

theorem State.loadError_mode (s : State) (golden : Bool) (code detail : Nat) :
    (s.loadError golden code detail).get CFG_STATUS_MODE = s.get CFG_STATUS_MODE := by
  unfold State.loadError
  extract_lets named
  have errors : named.get CFG_STATUS_MODE = s.get CFG_STATUS_MODE := by
    cases golden
    · exact (State.get_put_ne (s.put CFG_ERR_PRIMARY_CODE code) CFG_ERR_PRIMARY_DETAIL _ detail (by decide)).trans
        (State.get_put_ne s CFG_ERR_PRIMARY_CODE _ code (by decide))
    · exact (State.get_put_ne (s.put CFG_ERR_GOLDEN_CODE code) CFG_ERR_GOLDEN_DETAIL _ detail (by decide)).trans
        (State.get_put_ne s CFG_ERR_GOLDEN_CODE _ code (by decide))
  have logged := State.get_of_word (f := CFG_STATUS_MODE) ((State.blockLog_low (named.set CFG_STATUS_ERR) (0x300 + code) 3
    (if golden then 1 else 0) detail).word CFG_STATUS (by decide))
  exact logged.trans ((State.get_put_disjoint named CFG_STATUS_ERR CFG_STATUS_MODE 1 (by decide) (by decide)).trans errors)

/-- A load that has begun, up to the halt of MODE 0b110 and 0b111. -/
def State.loadEntered (s : State) (mode : BitVec 3) (golden : Bool) : State :=
  let s := (s.putWord CFG_STATUS 0).put CFG_STATUS_MODE mode.toNat
  let s := (s.iff (decide (mode.toNat < 6)) (·.satInc CFG_LOAD_COUNT_COUNT CFG_LOAD_COUNT_OVF)).enter .loading
  ((s.imageBegin golden).pllLoadBegin).put CFG_STATUS_PHASE 1

theorem State.loadBegin_eq (s : State) (mode : BitVec 3) (golden : Bool) : s.loadBegin mode golden =
    if mode = 6#3 then (s.loadEntered mode golden).loadHalt
    else if mode = 7#3 then ((s.loadEntered mode golden).loadError golden 0x15 7).loadHalt
    else s.loadEntered mode golden := rfl

theorem State.loadEntered_dev (s : State) (mode : BitVec 3) (golden : Bool) : (s.loadEntered mode golden).dev = .loading := by
  unfold State.loadEntered
  extract_lets read entered
  exact ((State.pllLoadBegin_touches _).dev rfl).trans (((State.imageBegin_touches entered golden).dev rfl).trans (State.enter_dev _ _))

theorem State.loadEntered_mode (s : State) (mode : BitVec 3) (golden : Bool) :
    (s.loadEntered mode golden).get CFG_STATUS_MODE = mode.toNat := by
  unfold State.loadEntered
  extract_lets sampled entered
  have read : sampled.get CFG_STATUS_MODE = mode.toNat :=
    (State.get_put_same _ _ _ (by decide)).trans (Nat.mod_eq_of_lt mode.isLt)
  have counted : Low 0x40020004 sampled (sampled.iff (decide (mode.toNat < 6)) (·.satInc CFG_LOAD_COUNT_COUNT CFG_LOAD_COUNT_OVF)) :=
    (Low.refl _ _).iff fun _ h => h.satInc (by decide) (by decide)
  have begun : entered.get CFG_STATUS_MODE = mode.toNat :=
    (State.enter_mode _ _).trans ((State.get_of_word (counted.word CFG_STATUS (by decide))).trans read)
  have idle : (entered.imageBegin golden).dev ≠ .running := by
    rw [(State.imageBegin_touches entered golden).dev rfl, State.enter_dev]
    decide
  have plls := State.get_of_word (f := CFG_STATUS_MODE) ((State.pllLoadBegin_low idle).word CFG_STATUS (by decide))
  rw [State.get_put_disjoint _ _ _ _ (by decide) (by decide), plls, State.imageBegin_mode, begun]

/-- MODE 0b110 and 0b111 name no image. -/
theorem mode_cases (mode : BitVec 3) : mode = 6#3 ∨ mode = 7#3 ∨ (mode ≠ 6#3 ∧ mode ≠ 7#3 ∧ mode.toNat < 6) := by
  by_cases h6 : mode = 6#3
  · exact .inl h6
  by_cases h7 : mode = 7#3
  · exact .inr (.inl h7)
  refine .inr (.inr ⟨h6, h7, ?_⟩)
  bv_omega

/-- The load of a MODE that names an image begins; that of any other halts at once (R149). -/
theorem State.loadBegin_dev (s : State) (mode : BitVec 3) (golden : Bool) :
    (s.loadBegin mode golden).dev = if mode.toNat < 6 then .loading else .halted := by
  rw [State.loadBegin_eq]
  rcases mode_cases mode with rfl | rfl | ⟨h6, h7, h⟩
  · rfl
  · rfl
  · rw [if_neg h6, if_neg h7, if_pos h, State.loadEntered_dev]

theorem State.loadBegin_mode (s : State) (mode : BitVec 3) (golden : Bool) :
    (s.loadBegin mode golden).get CFG_STATUS_MODE = mode.toNat := by
  rw [State.loadBegin_eq]
  split_ifs
  · rw [State.loadHalt_mode, State.loadEntered_mode]
  · rw [State.loadHalt_mode, State.loadError_mode, State.loadEntered_mode]
  · exact State.loadEntered_mode ..

end Sys2Proof.Machine

/-!
SUPPORT. Off (R19, R68, R90, R98, R118): what it leaves, and what a command that leads there keeps.
-/
namespace Sys2Proof.Machine

/-! ### The registers after PORST_N -/

/-- A cell that a filter over addresses drops reads 0. -/
theorem cellRead_filter_dropped {w : Nat} {p : Nat → Bool} {a : Nat} (h : p a = false) (m : Cells w) :
    cellRead (m.filter fun c => p c.1) a = 0 := by
  induction m with
  | nil => rfl
  | cons c m ih =>
    obtain ⟨b, v⟩ := c
    by_cases kept : p b = true
    · have other : a ≠ b := fun e => by rw [e, kept] at h; cases h
      simp only [List.filter_cons, kept, if_true, cellRead, other, if_false, ih]
    · simp only [List.filter_cons, kept, Bool.false_eq_true, if_false, ih]

/-- Writes over two memories that read the same at an address leave them so. -/
theorem cellRead_putAll_congr {a : Nat} (xs : Cells 32) {m n : Cells 32} (h : cellRead m a = cellRead n a) :
    cellRead (putAll m xs) a = cellRead (putAll n xs) a := by
  unfold putAll
  induction xs generalizing m n with
  | nil => exact h
  | cons x xs ih => exact ih (by rw [cellRead_cellWrite, cellRead_cellWrite, h])

/-- Writes of other addresses leave an address as it is. -/
theorem cellRead_putAll_ne {a : Nat} (xs : Cells 32) (h : ∀ c ∈ xs, a ≠ c.1) (m : Cells 32) : cellRead (putAll m xs) a = cellRead m a := by
  unfold putAll
  induction xs generalizing m with
  | nil => rfl
  | cons x xs ih =>
    exact (ih (fun c hc => h c (List.mem_cons_of_mem _ hc)) _).trans (cellRead_cellWrite_ne _ (h x List.mem_cons_self) _)

/-- The registers with a reset value of the Watch domain lie in it. -/
theorem watchResetRegs_inWatchDomain : ∀ c ∈ watchResetRegs, inWatchDomain c.1 = true := by decide

/-- Outside the Watch domain every register is at its reset value, but for those that show what stays (R68). -/
theorem State.porstRegs_read (s : State) {a : Nat} (out : inWatchDomain a = false) (status : a ≠ PWR_STATUS) (rails : a ≠ PWR_RAILS)
    (key : a ≠ CFG_KEY_STATE) : cellRead s.porstRegs a = State.reset.word a := by
  have watch : cellRead (s.regs.filter fun c => inWatchDomain c.1) a = cellRead ([] : Cells 32) a := cellRead_filter_dropped out _
  have other : ∀ c ∈ watchResetRegs, a ≠ c.1 := fun c hc e => by
    rw [e, watchResetRegs_inWatchDomain c hc] at out
    cases out
  calc cellRead s.porstRegs a
    _ = cellRead (putAll (s.regs.filter fun c => inWatchDomain c.1) resetRegs) a := by
      rw [State.porstRegs, cellRead_cellWrite_ne _ key, cellRead_cellWrite_ne _ rails, cellRead_cellWrite_ne _ status]
    _ = cellRead (putAll [] resetRegs) a := cellRead_putAll_congr _ watch
    _ = State.reset.word a := (cellRead_putAll_ne _ other _).symm

/-- Of PWR_STATUS its two bits of the Watch domain stay. -/
theorem State.porstRegs_status (s : State) : cellRead s.porstRegs PWR_STATUS = s.word PWR_STATUS &&& 0x600 := by
  rw [State.porstRegs, cellRead_cellWrite_ne _ (by decide), cellRead_cellWrite_ne _ (by decide), cellRead_cellWrite_same]

/-! ### Off -/

/-- The fused key and watch time are those of `r`. -/
structure SameKeyAndTime (r s : State) : Prop where
  fuse : s.load.fuse = r.load.fuse
  aSec : s.wch.aSec = r.wch.aSec
  aNs : s.wch.aNs = r.wch.aNs

theorem SameKeyAndTime.withOut (s : State) : SameKeyAndTime s (s.withOut []) := ⟨rfl, rfl, rfl⟩

/-- An entry of the Watch domain changes neither. -/
theorem SameKeyAndTime.watchLog {r s : State} (h : SameKeyAndTime r s) (code inst detail : Nat) :
    SameKeyAndTime r (s.watchLog code inst detail) := by
  unfold State.watchLog
  extract_lets e
  split
  · exact ⟨h.fuse, h.aSec, h.aNs⟩
  · have wch := (s.satInc_touches LOG_LOST_COUNT LOG_LOST_OVF).wch rfl
    have load := (s.satInc_touches LOG_LOST_COUNT LOG_LOST_OVF).load rfl
    exact ⟨by rw [load, h.fuse], by rw [wch, h.aSec], by rw [wch, h.aNs]⟩

theorem SameKeyAndTime.set {r s : State} (h : SameKeyAndTime r s) (f : Fld) : SameKeyAndTime r (s.set f) := ⟨h.fuse, h.aSec, h.aNs⟩

theorem SameKeyAndTime.iff {r s : State} (h : SameKeyAndTime r s) {c : Bool} {f : State → State}
    (hf : ∀ x, SameKeyAndTime r x → SameKeyAndTime r (f x)) : SameKeyAndTime r (s.iff c f) := by
  unfold State.iff
  split
  · exact hf s h
  · exact h

theorem State.goOff_regs (s : State) : s.goOff.regs = s.logLose.porstRegs := rfl

theorem State.goOff_load (s : State) : s.goOff.load = { LoadState.fresh with fuse := s.load.fuse } := by
  have load := s.logLose_touches.load rfl
  show { LoadState.fresh with fuse := s.logLose.load.fuse } = _
  rw [load]

theorem State.goOff_wch (s : State) : s.goOff.wch = { s.wch with snaps := [] } := by
  have wch := s.logLose_touches.wch rfl
  show { s.logLose.wch with snaps := [] } = _
  rw [wch]

/-- Off keeps the fused key and watch time, and nothing else outside the Watch domain. -/
theorem SameKeyAndTime.goOff {r s : State} (h : SameKeyAndTime r s) : wentOff r s.goOff := by
  have wch := s.goOff_wch
  refine ⟨rfl, rfl, rfl, ?_, ?_, ?_, ?_, rfl, rfl, rfl, rfl, rfl, rfl, fun a _ out _ status rails key => ?_⟩
  · rw [s.goOff_load, h.fuse]
  · rw [wch, h.aSec]
  · rw [wch, h.aNs]
  · rw [wch]
  · rw [State.word, s.goOff_regs]
    exact s.logLose.porstRegs_read out status rails key

/-- Off stays as it is while the other blocks react and the levels follow. -/
theorem wentOff.done {r u : State} (h : wentOff r u) : wentOff r u.refresh.settle := by
  obtain ⟨dev, mask, deep, load, aSec, aNs, snaps, fab, lgc, cph, drain, reload, -, regs⟩ := h
  have kept : Touches 679215379 u u.refresh := u.refresh_steady_touches (by rw [dev]; decide)
  have low : u.refresh.settle.health = false := by
    rw [State.settle_health, State.healthHigh, kept.dev rfl, dev]
    rfl
  refine ⟨?_, ?_, ?_, ?_, ?_, ?_, ?_, ?_, ?_, ?_, ?_, ?_, low, fun a ha out level status rails key => ?_⟩
  · rw [State.settle_dev, kept.dev rfl, dev]
  · rw [State.settle_mask, kept.mask rfl, mask]
  · rw [State.settle_deep, kept.deep rfl, deep]
  · rw [State.settle_load, kept.load rfl, load]
  · rw [State.settle_wch, kept.wch rfl, aSec]
  · rw [State.settle_wch, kept.wch rfl, aNs]
  · rw [State.settle_wch, kept.wch rfl, snaps]
  · rw [State.settle_fab, kept.fab rfl, fab]
  · rw [State.settle_lgc, kept.lgc rfl, lgc]
  · rw [State.settle_cph, kept.cph rfl, cph]
  · rw [State.settle_pwr, kept.pwr rfl, drain]
  · rw [State.settle_pwr, kept.pwr rfl, reload]
  · rw [State.refresh_settle_word _ ha level]
    exact regs a ha out level status rails key

/-- PORST_N stands low. -/
theorem wentOff.porstLow {r u : State} (h : wentOff r u) : wentOff r (u.setPwr fun p => { p with porst := false }) := h

/-- A command whose effect is Off. -/
theorem gives_wentOff {c : Instr} {f : State → State} {s u : State} (e : exec c s = actAll f s) (effect : f (s.withOut []) = u.goOff)
    (h : SameKeyAndTime s u) : Gives c s fun t => wentOff s t :=
  gives_actAll e (effect ▸ h.goOff.done)

/-- The log's entries that wait with the watch controller outlast Off. -/
theorem gives_logq {c : Instr} {f : State → State} {s u : State} {q : List LogItem} (e : exec c s = actAll f s)
    (effect : f (s.withOut []) = u.goOff) (h : u.wch.logq = q) : Gives c s fun t => t.wch.logq = q := by
  refine gives_actAll e ?_
  rw [State.settle_wch, State.refresh_wch, effect, State.goOff_wch]
  exact h

/-- An entry that finds room waits behind those raised before it. -/
theorem State.watchLog_logq {s : State} (code inst detail : Nat) (room : s.wch.logq.length < 4) :
    (s.watchLog code inst detail).wch.logq = queueEntry s.wch.logq (s.watchItem code inst detail) := by
  rw [State.watchLog, if_pos room]
  rfl

theorem State.logLose_low (s : State) : Low 0x40188000 s s.logLose :=
  Low.part ((Low.refl _ s).satAdd (c := LOG_LOST_COUNT) (o := LOG_LOST_OVF) (by decide) (by decide)) rfl

/-- Bits that a mask leaves read as before. -/
theorem bitsOf_and_kept {m : Word} {lo width : Nat} (h : ∀ i < width, m.getLsbD (lo + i) = true) (x : Word) :
    bitsOf (x &&& m) lo width = bitsOf x lo width := by
  refine Nat.eq_of_testBit_eq fun i => ?_
  rw [testBit_bitsOf, testBit_bitsOf, BitVec.getLsbD_and]
  by_cases hi : i < width
  · rw [h i hi, Bool.and_true]
  · rw [decide_eq_false hi, Bool.false_and, Bool.false_and]

/-- CORE_DROP outlasts Off. -/
theorem State.goOff_coreDrop {s : State} (set : s.bit PWR_STATUS_CORE_DROP = true) : s.goOff.bit PWR_STATUS_CORE_DROP = true := by
  have word : s.goOff.word PWR_STATUS = s.word PWR_STATUS &&& 0x600 := by
    rw [State.word, State.goOff_regs, State.porstRegs_status, s.logLose_low.word PWR_STATUS (by decide)]
  have kept : s.goOff.get PWR_STATUS_CORE_DROP = s.get PWR_STATUS_CORE_DROP :=
    (congrArg (bitsOf · 9 1) word).trans (bitsOf_and_kept (by decide) _)
  rw [State.bit, kept]
  exact set

/-! ### The commands -/

theorem exec_porstNRelease (mode : BitVec 3) (monEn : Bool) (s : State) :
    exec (.porstNRelease mode monEn) s = actAll (·.coldStart mode monEn) s := rfl

theorem exec_powerGood (mode : BitVec 3) (monEn : Bool) (s : State) : exec (.powerGood mode monEn) s = actAll (·.coldStart mode monEn) s := rfl

theorem exec_porstNAssert (s : State) : exec .porstNAssert s = actAll (·.porstLow) s := rfl

theorem exec_coreDrop (s : State) : exec .coreDrop s = actAll (·.coreDrop) s := rfl

theorem exec_auxLost (storeMv vbatMv : Nat) (s : State) : exec (.auxLost storeMv vbatMv) s = actAll (·.auxLost storeMv vbatMv) s := rfl

theorem exec_retentionLost (mv : Nat) (auxToo : Bool) (storeMv vbatMv : Nat) (s : State) :
    exec (.retentionLost mv auxToo storeMv vbatMv) s = actAll (·.retentionLost mv auxToo storeMv vbatMv) s := rfl

end Sys2Proof.Machine

namespace Sys2Proof.Machine

/-! ### The load's start from Off -/

/-- Outside Off the release of PORST_N starts nothing. -/
theorem State.coldStart_notOff {s : State} (mode : BitVec 3) (monEn : Bool) (on : s.dev ≠ .off) : s.coldStart mode monEn = s :=
  if_pos (by simp [on])

/-- The release of PORST_N starts the load of the MODE that it samples. -/
theorem State.coldStart_off {s : State} (mode : BitVec 3) (monEn : Bool) (off : s.dev = .off) :
    (s.coldStart mode monEn).dev = (if mode.toNat < 6 then .loading else .halted) ∧
      (s.coldStart mode monEn).pwr = { s.pwr with porst := true, mode := mode, monEn := monEn } ∧
      (s.coldStart mode monEn).get CFG_STATUS_MODE = mode.toNat := by
  have starts : (s.dev != .off) = false := by simp [off]
  rw [State.coldStart, starts, if_neg Bool.false_ne_true]
  extract_lets sampled railed
  have kept : Touches 74417459 sampled (railed.monStrap.loadBegin mode false) :=
    (State.loadBegin_touches ..).seq rfl ((State.monStrap_touches _).seq rfl ((State.armRails_touches _).seq rfl
      ((State.set_touches ..).seq rfl ((State.set_touches ..).mono rfl))))
  refine ⟨?_, ?_, ?_⟩
  · rw [(State.tamperErase_touches _).dev rfl, State.loadBegin_dev]
  · rw [(State.tamperErase_touches _).pwr rfl, kept.pwr rfl]
    rfl
  · rw [State.get_of_word (f := CFG_STATUS_MODE) ((State.tamperErase_low _).word CFG_STATUS (by decide)), State.loadBegin_mode]

/-- A command whose effect is the load's start. -/
theorem gives_coldStart {c : Instr} {s : State} {mode : BitVec 3} {monEn : Bool} (e : exec c s = actAll (·.coldStart mode monEn) s)
    (off : s.dev = .off) : Gives c s fun t => t.dev = (if mode.toNat < 6 then .loading else .halted) ∧ t.pwr.porst = true ∧
      t.pwr.mode = mode ∧ t.pwr.monEn = monEn ∧ t.get CFG_STATUS_MODE = mode.toNat := by
  obtain ⟨dev, pwr, read⟩ := State.coldStart_off (s := s.withOut []) mode monEn off
  refine gives_actAll e ?_
  rw [State.settle_dev, State.refresh_dev, State.settle_pwr, State.refresh_pwr, pwr,
    State.get_of_word (f := CFG_STATUS_MODE) (State.refresh_settle_word _ (by decide) (by decide))]
  exact ⟨dev, rfl, rfl, rfl, read⟩

theorem gives_coldStart_idle {c : Instr} {s : State} {mode : BitVec 3} {monEn : Bool} (e : exec c s = actAll (·.coldStart mode monEn) s)
    (on : s.dev ≠ .off) : Gives c s fun t => t.dev = s.dev ∧ t.load = s.load ∧ t.pwr = s.pwr := by
  refine gives_actAll e ?_
  rw [State.coldStart_notOff (s := s.withOut []) mode monEn on, State.settle_dev, State.refresh_dev, State.settle_load, State.refresh_load,
    State.settle_pwr, State.refresh_pwr]
  exact ⟨rfl, rfl, rfl⟩

/-! ### The ways into Off -/

/-- A drop of VCC_CORE in service, or in a wake whose core is back, is recorded (R98). -/
theorem State.coreDrop_timed {s : State} (on : s.inService = true ∨ (s.dev = .watch ∧ 2 ≤ s.pwr.wake)) :
    s.coreDrop = ((s.watchLog 0x010C 0 (if s.dev == .watch then 5 else s.dev.code)).set PWR_STATUS_CORE_DROP).goOff := by
  have timed : (s.inService || (s.dev == .watch && decide (2 ≤ s.pwr.wake))) = true := by
    rcases on with h | ⟨hw, h2⟩
    · rw [h, Bool.true_or]
    · simp [hw, h2]
  have notOff : (s.dev == .off) = false := by
    rcases on with h | ⟨hw, -⟩
    · cases hd : s.dev <;> simp_all [State.inService]
    · rw [hw]; rfl
  rw [State.coreDrop, timed, notOff, Bool.not_true, Bool.and_false]
  rfl

end Sys2Proof.Machine

namespace Sys2Proof.Machine

/-- A drop of VCC_CORE in a load leads to Off unrecorded. -/
theorem State.coreDrop_load {s : State} (hd : s.dev = .loading ∨ s.dev = .halted) : s.coreDrop = s.goOff := by
  rw [State.coreDrop, State.inService]
  rcases hd with hd | hd
  · rw [hd]; rfl
  · rw [hd]; rfl

/-- VCC_CORE that is removed in the Watch state is no loss (R77). -/
theorem State.coreDrop_watch {s : State} (hw : s.dev = .watch) (h : s.pwr.wake < 2) : s.coreDrop = s.logLose.clr ⟨PWR_RAILS, 0, 1⟩ := by
  have untimed : decide (2 ≤ s.pwr.wake) = false := decide_eq_false (by omega)
  rw [State.coreDrop, State.inService, untimed, hw]
  rfl

/-- The loss of VCC_AUX, recorded where it falls in the Watch state. -/
theorem State.auxLost_on {s : State} (storeMv vbatMv : Nat) (on : s.dev ≠ .off) : s.auxLost storeMv vbatMv =
    (s.iff (s.dev == .watch && s.wch.up) (·.watchLog 0x010B 0 (storeMv % 65536 + vbatMv % 65536 * 65536))).goOff :=
  if_neg (by simp [on])

/-- The loss of the retention voltage alone. -/
theorem State.retentionLost_only {s : State} (mv storeMv vbatMv : Nat) (hw : s.dev = .watch) :
    s.retentionLost mv false storeMv vbatMv = (s.iff s.wch.up (·.watchLog 0x010D 0 (mv % 65536))).goOff := by
  rw [State.retentionLost, if_neg (by simp [hw]), if_neg Bool.false_ne_true]

theorem State.retentionLost_aux {s : State} (mv storeMv vbatMv : Nat) (hw : s.dev = .watch) :
    s.retentionLost mv true storeMv vbatMv = s.auxLost storeMv vbatMv := by
  rw [State.retentionLost, if_neg (by simp [hw]), if_pos rfl]

/-- PORST_N low leads to Off. -/
theorem gives_porstLow (s : State) : Gives .porstNAssert s fun t => wentOff s t ∧ t.pwr.porst = false := by
  refine gives_actAll (exec_porstNAssert s) ⟨(SameKeyAndTime.withOut s).goOff.porstLow.done, ?_⟩
  rw [State.settle_pwr, State.refresh_pwr]
  rfl

/-- A drop of VCC_CORE that is recorded leads to Off with CORE_DROP. -/
theorem gives_coreDrop_timed {s : State} (on : s.inService = true ∨ (s.dev = .watch ∧ 2 ≤ s.pwr.wake)) :
    Gives .coreDrop s fun t => wentOff s t ∧ t.bit PWR_STATUS_CORE_DROP = true := by
  have effect := State.coreDrop_timed (s := s.withOut []) on
  refine gives_actAll (exec_coreDrop s) (effect ▸ ⟨(((SameKeyAndTime.withOut s).watchLog ..).set _).goOff.done, ?_⟩)
  rw [State.bit_of_word (f := PWR_STATUS_CORE_DROP) (State.refresh_settle_word _ (by decide) (by decide))]
  exact State.goOff_coreDrop (State.bit_set_same _ PWR_STATUS_CORE_DROP (by decide) (by decide))

/-- VCC_CORE removed in the Watch state shows in PWR_RAILS, and what the part holds stays. -/
theorem gives_coreDrop_watch {s : State} (hw : s.dev = .watch) (h : s.pwr.wake < 2) : Gives .coreDrop s fun t =>
    t.dev = .watch ∧ t.railOk 0 = false ∧ t.pwr = s.pwr ∧ t.mask = s.mask ∧ t.fab = s.fab ∧ t.cph = s.cph := by
  refine gives_actAll (exec_coreDrop s) ?_
  rw [State.coreDrop_watch (s := s.withOut []) hw h]
  have kept : Touches 258 (s.withOut []) ((s.withOut []).logLose.clr ⟨PWR_RAILS, 0, 1⟩) :=
    (State.clr_touches ..).seq rfl ((State.logLose_touches _).mono rfl)
  have dev := (kept.dev rfl).trans hw
  have react := State.refresh_steady_touches ((s.withOut []).logLose.clr ⟨PWR_RAILS, 0, 1⟩) (by rw [dev]; decide)
  have low : ((s.withOut []).logLose.clr ⟨PWR_RAILS, 0, 1⟩).get ⟨PWR_RAILS, 0, 1⟩ = 0 := State.get_put_same _ _ _ (by decide)
  have rail := State.get_of_word (f := ⟨PWR_RAILS, 0, 1⟩)
    (State.refresh_settle_word ((s.withOut []).logLose.clr ⟨PWR_RAILS, 0, 1⟩) (a := PWR_RAILS) (by decide) (by decide))
  refine ⟨?_, beq_eq_false_iff_ne.mpr ?_, ?_, ?_, ?_, ?_⟩
  · rw [State.settle_dev, react.dev rfl, dev]
  · exact fun on => absurd ((rail.trans low).symm.trans on) (by decide)
  · rw [State.settle_pwr, react.pwr rfl, kept.pwr rfl, State.withOut_pwr]
  · rw [State.settle_mask, react.mask rfl, kept.mask rfl, State.withOut_mask]
  · rw [State.settle_fab, react.fab rfl, kept.fab rfl, State.withOut_fab]
  · rw [State.settle_cph, react.cph rfl, kept.cph rfl, State.withOut_cph]

/-- Settles O7: the load's start by what it leaves of the power state and of MODE, each way into Off by what Off keeps. -/
theorem waysIntoAndOutOfOff : Obligations.WaysIntoAndOutOfOff := by
  refine ⟨fun s mode monEn => ⟨fun off => ⟨?_, ?_⟩, fun on => ⟨?_, ?_⟩⟩,
    fun s => ⟨gives_porstLow s, gives_coreDrop_timed, fun hd => ?_, fun storeMv vbatMv on => ?_, fun mv auxToo storeMv vbatMv hw => ?_,
      fun storeMv vbatMv hw up room => ?_, fun mv storeMv vbatMv hw up room => ?_, gives_coreDrop_watch⟩⟩
  · exact gives_coldStart (exec_porstNRelease mode monEn s) off
  · exact gives_coldStart (exec_powerGood mode monEn s) off
  · exact gives_coldStart_idle (exec_porstNRelease mode monEn s) on
  · exact gives_coldStart_idle (exec_powerGood mode monEn s) on
  · exact gives_wentOff (exec_coreDrop s) (State.coreDrop_load (s := s.withOut []) hd) (.withOut s)
  · exact gives_wentOff (exec_auxLost storeMv vbatMv s) (State.auxLost_on (s := s.withOut []) storeMv vbatMv on)
      ((SameKeyAndTime.withOut s).iff fun _ h => h.watchLog ..)
  · have on : (s.withOut []).dev ≠ .off := by simp [hw]
    cases auxToo
    case false =>
      exact gives_wentOff (exec_retentionLost mv false storeMv vbatMv s) (State.retentionLost_only (s := s.withOut []) mv storeMv vbatMv hw)
        ((SameKeyAndTime.withOut s).iff fun _ h => h.watchLog ..)
    case true =>
      have effect := (State.retentionLost_aux (s := s.withOut []) mv storeMv vbatMv hw).trans (State.auxLost_on storeMv vbatMv on)
      exact gives_wentOff (exec_retentionLost mv true storeMv vbatMv s) effect ((SameKeyAndTime.withOut s).iff fun _ h => h.watchLog ..)
  · have on : (s.withOut []).dev ≠ .off := by simp [hw]
    refine gives_logq (exec_auxLost storeMv vbatMv s) (State.auxLost_on (s := s.withOut []) storeMv vbatMv on) ?_
    rw [show ((s.withOut []).dev == .watch && (s.withOut []).wch.up) = true by simp [hw, up], State.iff_true]
    exact State.watchLog_logq (s := s.withOut []) _ _ _ room
  · refine gives_logq (exec_retentionLost mv false storeMv vbatMv s) (State.retentionLost_only (s := s.withOut []) mv storeMv vbatMv hw) ?_
    rw [show (s.withOut []).wch.up = true from up, State.iff_true]
    exact State.watchLog_logq (s := s.withOut []) _ _ _ room

end Sys2Proof.Machine

/-!
SUPPORT. What a tick leaves of the watch controller's registers: the fabric's events, the scrub slots, the streams, the signal paths and the
lanes write registers of other windows alone.
-/
namespace Sys2Proof.Machine

/-! ### The window of the watch controller -/

/-- Every register of the watch controller's window reads in `t` as in `s`. -/
structure KeepsWch (s t : State) : Prop where
  word : ∀ a, 0x40008000 ≤ a → a < 0x40010000 → t.word a = s.word a

theorem KeepsWch.refl (s : State) : KeepsWch s s := ⟨fun _ _ _ => rfl⟩

theorem KeepsWch.seq {r s t : State} (g : KeepsWch s t) (h : KeepsWch r s) : KeepsWch r t :=
  ⟨fun a lo hi => (g.word a lo hi).trans (h.word a lo hi)⟩

/-- A change of other parts than the registers. -/
theorem KeepsWch.part {r s t : State} (h : KeepsWch r s) (e : t.regs = s.regs) : KeepsWch r t :=
  ⟨fun a lo hi => by rw [State.word, e]; exact h.word a lo hi⟩

/-- A change of registers above the window. -/
theorem KeepsWch.low {b : Nat} {r s t : State} (h : KeepsWch r s) (g : Low b s t) (hb : 0x40010000 ≤ b) : KeepsWch r t :=
  ⟨fun a lo hi => (g.word a (Nat.lt_of_lt_of_le hi hb)).trans (h.word a lo hi)⟩

theorem KeepsWch.put {r s : State} {f : Fld} {v : Nat} (h : KeepsWch r s) (hf : f.addr < 0x40008000 ∨ 0x40010000 ≤ f.addr) :
    KeepsWch r (s.put f v) :=
  ⟨fun a lo hi => (State.word_put_ne _ _ _ _ (by omega)).trans (h.word a lo hi)⟩

theorem KeepsWch.set {r s : State} {f : Fld} (h : KeepsWch r s) (hf : f.addr < 0x40008000 ∨ 0x40010000 ≤ f.addr) :
    KeepsWch r (s.set f) := h.put hf

theorem KeepsWch.satInc {r s : State} {c o : Fld} (h : KeepsWch r s) (hc : c.addr < 0x40008000 ∨ 0x40010000 ≤ c.addr)
    (ho : o.addr < 0x40008000 ∨ 0x40010000 ≤ o.addr) : KeepsWch r (s.satInc c o) := by
  unfold State.satInc State.satAdd
  split
  · exact h.put hc
  · exact (h.put hc).set ho

theorem KeepsWch.iff {r s : State} {c : Bool} {f : State → State} (h : KeepsWch r s) (hf : ∀ x, KeepsWch r x → KeepsWch r (f x)) :
    KeepsWch r (s.iff c f) := by
  unfold State.iff
  split
  · exact hf s h
  · exact h

theorem KeepsWch.each {α : Type} {r s : State} {xs : List α} {f : State → α → State} (h : KeepsWch r s)
    (hf : ∀ x a, KeepsWch r x → KeepsWch r (f x a)) : KeepsWch r (s.each xs f) := State.each_keeps h hf

/-- A field of the window reads the same. -/
theorem KeepsWch.get {s t : State} (h : KeepsWch s t) (f : Fld) (lo : 0x40008000 ≤ f.addr) (hi : f.addr < 0x40010000) :
    t.get f = s.get f := State.get_of_word (h.word f.addr lo hi)

theorem KeepsWch.bit {s t : State} (h : KeepsWch s t) (f : Fld) (lo : 0x40008000 ≤ f.addr) (hi : f.addr < 0x40010000) :
    t.bit f = s.bit f := State.bit_of_word (h.word f.addr lo hi)

theorem KeepsWch.report {r s : State} (h : KeepsWch r s) (n inst detail : Nat) : KeepsWch r (s.report n inst detail) :=
  h.low (State.report_low ..) (by decide)

/-! ### The fabric's events -/

/-- A memory error is counted in the fabric's registers and reported. -/
theorem State.memError_keepsWch (s : State) (n inst detail source : Nat) : KeepsWch s (s.memError n inst detail source) := by
  unfold State.memError
  extract_lets deep r dbe counted flagged first
  split
  · exact .refl _
  · have keptCount : KeepsWch s counted := by
      clear_value deep dbe
      cases deep <;> cases dbe <;> exact (KeepsWch.refl s).satInc (by decide) (by decide)
    have keptFlag : KeepsWch s flagged := keptCount.iff fun _ h => h.set (by decide)
    refine KeepsWch.report (keptFlag.iff fun _ h => ?_) ..
    exact (((((h.set (by decide)).put (by decide)).put (by decide)).put (by decide)).put (by decide)).put (by decide)

/-- A compare that fails is counted in the fabric's registers and reported. -/
theorem State.pairMismatch_keepsWch (s : State) (r tile cell : Nat) : KeepsWch s (s.pairMismatch r tile cell) := by
  unfold State.pairMismatch
  split
  · exact .refl _
  · extract_lets key differs counted first
    have keptCount : KeepsWch s counted := (((KeepsWch.refl s).part (t := differs) rfl).set (by decide)).satInc (by decide) (by decide)
    refine KeepsWch.report (keptCount.iff fun _ h => ?_) ..
    exact (((h.set (by decide)).put (by decide)).put (by decide)).put (by decide)

theorem State.cellEdge_keepsWch (s : State) (r tile cell : Nat) (x : CellIn) : KeepsWch s (s.cellEdge r tile cell x) := by
  unfold State.cellEdge
  extract_lets k c compared resetA resetB ceB a b takes
  split
  · exact .refl _
  · have keptCompare : KeepsWch s compared := (KeepsWch.refl s).iff fun _ h => (State.pairMismatch_keepsWch ..).seq h
    exact (keptCompare.part ((State.cellTakes_touches ..).regs rfl)).iff fun _ h => h.part ((State.cellReset_touches ..).regs rfl)

theorem State.readReport_keepsWch (s : State) (deep : Bool) (inst word source : Nat) (v : BitVec 74) :
    KeepsWch s (s.readReport deep inst word source v) :=
  ((KeepsWch.refl s).iff fun _ h => (State.memError_keepsWch ..).seq h).iff fun _ h => (State.memError_keepsWch ..).seq h

theorem State.bramPort_keepsWch (s : State) (m p : Nat) (op : BramOp) : KeepsWch s (s.bramPort m p op) := by
  have shown : ∀ (x : State) v, x.regs = s.regs → KeepsWch s (x.bramShow m p v) := fun x v e =>
    (KeepsWch.refl s).part (((State.bramShow_touches ..).regs rfl).trans e)
  have reported : ∀ (x : State) word v, x.regs = s.regs → KeepsWch s ((x.readReport false m word p v).bramShow m p v) := fun x word v e =>
    ((State.readReport_keepsWch ..).seq ((KeepsWch.refl s).part e)).part ((State.bramShow_touches ..).regs rfl)
  unfold State.bramPort
  extract_lets luck drawn sh old word
  split_ifs
  · exact shown _ _ rfl
  · exact reported _ _ _ rfl
  · split
    · exact reported _ _ _ rfl
    · exact shown _ _ rfl
    · exact shown _ _ rfl

theorem State.bramSweepRead_keepsWch (s : State) (k : Nat) : KeepsWch s (s.bramSweepRead k) := by
  unfold State.bramSweepRead
  extract_lets v reported
  have keptReport : KeepsWch s reported := (State.readReport_keepsWch ..).seq ((KeepsWch.refl s).part (t := s.drawn) rfl)
  exact keptReport.iff fun _ h => h.part rfl

theorem State.bramSlot_keepsWch (s : State) (r : Nat) : KeepsWch s (s.bramSlot r) := by
  unfold State.bramSlot
  split
  · exact (KeepsWch.refl s).part ((State.bramSweepWrite_touches ..).regs rfl)
  · split
    · exact .refl _
    · exact (State.bramSweepRead_keepsWch ..).part rfl

theorem State.bramCycle_keepsWch (s : State) (m : Nat) (a b : Option BramOp) : KeepsWch s (s.bramCycle m a b) := by
  unfold State.bramCycle
  extract_lets r opA opB portA portB sweeps swept storedB
  clear_value opA opB sweeps
  have keptA : KeepsWch s portA := by
    cases opA
    · exact .refl _
    · exact State.bramPort_keepsWch ..
  have keptB : KeepsWch s portB := by
    cases opB
    · exact keptA
    · exact (State.bramPort_keepsWch ..).seq keptA
  have keptSweep : KeepsWch s swept := by
    cases opB
    · exact keptB
    · exact keptB.iff fun _ h => (State.bramSlot_keepsWch ..).seq h
  have keptStore : KeepsWch s storedB := by
    cases opB
    · exact keptSweep
    · exact keptSweep.part ((State.bramStore_touches ..).regs rfl)
  cases opA
  · exact keptStore
  · exact keptStore.part ((State.bramStore_touches ..).regs rfl)

theorem State.sweepCycle_keepsWch (s : State) (r : Nat) : KeepsWch s (s.sweepCycle r) := by
  unfold State.sweepCycle
  split
  · exact (KeepsWch.refl s).iff fun _ h => (State.bramSlot_keepsWch ..).seq h
  · exact .refl _

theorem State.deepSweepRead_keepsWch (s : State) (b : Nat) : KeepsWch s (s.deepSweepRead b) := by
  unfold State.deepSweepRead
  extract_lets p k v reported fixed
  have keptReport : KeepsWch s reported := (State.readReport_keepsWch ..).seq ((KeepsWch.refl s).part (t := s.drawn) rfl)
  have keptFix : KeepsWch s fixed := keptReport.iff fun _ h => h.part rfl
  exact keptFix.part rfl

theorem State.deepCycle_keepsWch (s : State) (b : Nat) (u : DeepOp) : KeepsWch s (s.deepCycle b u) := by
  unfold State.deepCycle
  split
  · exact .refl _
  · extract_lets k cyc due luck drawn v counted reported shown swept stored
    have keptReport : KeepsWch s reported := ((KeepsWch.refl s).part (t := counted) rfl).iff fun _ h => (State.readReport_keepsWch ..).seq h
    have keptSweep : KeepsWch s swept :=
      (keptReport.part ((State.deepShow_touches ..).regs rfl)).iff fun _ h => (State.deepSweepRead_keepsWch ..).seq h
    have keptStore : KeepsWch s stored := keptSweep.iff fun _ h => h.part ((State.deepStore_touches ..).regs rfl)
    clear_value due
    cases due
    · exact keptStore
    · exact keptStore.part ((State.deepStore_touches ..).regs rfl)

/-- Of the fabric's events only compares, memory ports and sweeps write registers, and those are the fabric's and a report's. -/
theorem State.logicEvent_keepsWch (s : State) : KeepsWch s s.logicEvent := by
  unfold State.logicEvent
  extract_lets kind place v w picked r at'
  have start : KeepsWch s picked := (KeepsWch.refl s).part rfl
  clear_value kind
  split
  · exact (State.cellEdge_keepsWch ..).seq start
  · exact start.part ((State.cellLevel_touches ..).regs rfl)
  · exact start.iff fun _ h => h.part ((State.flopUpset_touches ..).regs rfl)
  · exact start.part ((State.crossDrive_touches ..).regs rfl)
  · exact (State.bramCycle_keepsWch ..).seq start
  · exact start.part ((State.bramUpset_touches ..).regs rfl)
  · exact (State.sweepCycle_keepsWch ..).seq start
  · exact (State.deepCycle_keepsWch ..).seq start
  · exact start.part ((State.deepUpset_touches ..).regs rfl)
  · exact start.part ((State.frameUpset_touches ..).regs rfl)
  · exact start.part ((State.columnEdge_touches ..).regs rfl)
  · exact start.part ((State.chainEdge_touches ..).regs rfl)

theorem State.logicRun_keepsWch (s : State) (n : Nat) : KeepsWch s (s.logicRun n) := by
  induction n generalizing s with
  | zero => exact .refl _
  | succ n ih => exact (ih _).seq s.logicEvent_keepsWch

/-! ### The scrub slots -/

theorem Low.satAdd2 {b : Nat} {r s : State} {lo hi o : Fld} {n : Nat} (h : Low b r s) (hl : b ≤ lo.addr) (hh : b ≤ hi.addr)
    (ho : b ≤ o.addr) : Low b r (s.satAdd2 lo hi o n) := by
  unfold State.satAdd2
  split
  · exact h.put2 hl hh
  · exact (h.put2 hl hh).set ho

theorem Low.setFab {b : Nat} {r s : State} {f : FabState → FabState} (h : Low b r s) : Low b r (s.setFab f) := h.part rfl

theorem Low.scrFirst {r s : State} (h : Low 0x40030000 r s) (kind codes addr : Nat) : Low 0x40030000 r (s.scrFirst kind codes addr) :=
  h.iff fun _ h => (((h.set (by decide)).put (by decide)).put (by decide)).put (by decide)

theorem Low.report {r s : State} (h : Low 0x40030000 r s) (n inst detail : Nat) : Low 0x40030000 r (s.report n inst detail) :=
  (State.report_low ..).seq (by decide) h

theorem State.frameUncorr_low (s : State) (a codes : Nat) : Low 0x40030000 s (s.frameUncorr a codes) := by
  unfold State.frameUncorr
  extract_lets found counted
  have kept : Low 0x40030000 s found := (Low.refl _ s).setFab
  exact (((kept.scrFirst ..).satInc (by decide) (by decide)).set (by decide)).report ..

theorem State.scrubRead_low (s : State) (r i : Nat) (flips : List (Fin 2112)) : Low 0x40030000 s (s.scrubRead r i flips) := by
  unfold State.scrubRead
  extract_lets a e read
  have kept : Low 0x40030000 s read := (Low.refl _ s).setFab
  split
  · exact kept
  · split
    · exact kept
    · exact (State.frameUncorr_low ..).seq (by decide) kept
    · exact kept.setFab

theorem State.correctionWrite_low (s : State) : Low 0x40030000 s s.correctionWrite := by
  unfold State.correctionWrite
  split
  · exact Low.refl _ _
  · extract_lets written counted
    have kept : Low 0x40030000 s written := (Low.refl _ s).setFab
    exact (((kept.scrFirst ..).satInc (by decide) (by decide)).set (by decide)).report ..

theorem Low.scrubLate {r s : State} (h : Low 0x40030000 r s) (std : Bool) (us : Nat) : Low 0x40030000 r (s.scrubLate std us) :=
  (h.set (by decide)).report ..

theorem State.criticalPeriod_low (s : State) : Low 0x40030000 s s.criticalPeriod := by
  unfold State.criticalPeriod
  split
  · exact Low.refl _ _
  · extract_lets late reported left old begun
    have keptReport : Low 0x40030000 s reported := (Low.refl _ s).iff fun _ h => h.scrubLate ..
    have kept : Low 0x40030000 s begun := keptReport.setFab.part ((State.critBegin_touches _).regs rfl)
    exact kept.iff fun _ h => h.setFab

theorem State.regionCheck_low (s : State) (r : Nat) : Low 0x40030000 s (s.regionCheck r) := by
  unfold State.regionCheck
  extract_lets crc failed counted
  split
  · exact Low.refl _ _
  · have kept : Low 0x40030000 s failed := (Low.refl _ s).setFab
    exact (((kept.scrFirst ..).satInc (by decide) (by decide)).set (by decide)).report ..

theorem Low.critPassEnd {r s : State} (h : Low 0x40030000 r s) (ns : Nat) : Low 0x40030000 r (s.critPassEnd ns) :=
  (h.satAdd2 (by decide) (by decide) (by decide)).put (by decide)

theorem Low.stdPassEnd {r s : State} (h : Low 0x40030000 r s) (ns : Nat) : Low 0x40030000 r (s.stdPassEnd ns) := by
  unfold State.stdPassEnd
  extract_lets late passed timed lates
  have kept : Low 0x40030000 r timed := ((h.satInc (by decide) (by decide)).set (by decide)).put (by decide)
  exact (kept.iff fun _ h => h.scrubLate ..).setFab

theorem State.scrubPassEnd_low (s : State) (r ns : Nat) : Low 0x40030000 s (s.scrubPassEnd r ns) := by
  unfold State.scrubPassEnd
  extract_lets late crit unread left std
  have keptLate : Low 0x40030000 s late := (s.regionCheck_low r).setFab
  have keptCrit : Low 0x40030000 s crit := (s.regionCheck_low r).setFab
  have keptStd : Low 0x40030000 s std := (s.regionCheck_low r).setFab
  clear_value late crit std
  split_ifs
  · exact Low.refl _ _
  · exact keptLate.iff fun _ h => h.critPassEnd ns
  · exact Low.refl _ _
  · exact keptCrit.iff fun _ h => h.critPassEnd ns
  · exact Low.refl _ _
  · exact keptStd.iff fun _ h => h.stdPassEnd ns

theorem State.passRead_low (s : State) (crit : Bool) : Low 0x40030000 s (s.passRead crit) := by
  unfold State.passRead
  extract_lets rs a read passed
  have kept : Low 0x40030000 s passed := (State.scrubRead_low ..).setFab
  exact kept.iff fun _ h => (State.scrubPassEnd_low ..).seq (by decide) h

theorem State.scrubSlot_low (s : State) : Low 0x40030000 s s.scrubSlot := by
  unfold State.scrubSlot
  split
  · exact Low.refl _ _
  · extract_lets w counted served
    have start : Low 0x40030000 s counted := (Low.refl _ s).setFab
    have kept : Low 0x40030000 s served := by
      simp only [served]
      clear_value w
      split
      · exact (State.correctionWrite_low _).seq (by decide) start
      · exact (State.passRead_low ..).seq (by decide) start
      · exact (State.passRead_low ..).seq (by decide) start
      · exact start
    exact kept.iff fun _ h => (State.criticalPeriod_low _).seq (by decide) h

theorem State.scrubSlots_low (s : State) (n : Nat) : Low 0x40030000 s (s.scrubSlots n) := by
  induction n generalizing s with
  | zero => exact Low.refl _ _
  | succ n ih => exact (ih _).seq (by decide) s.scrubSlot_low

theorem State.fabricTick_keepsWch (s : State) : KeepsWch s s.fabricTick := by
  unfold State.fabricTick
  extract_lets run
  have kept : KeepsWch s run := (State.logicRun_keepsWch ..).seq ((KeepsWch.refl s).part rfl)
  exact (kept.part (t := run.drawn) rfl).low (State.scrubSlots_low ..) (by decide)

/-! ### The signal paths and the end of a tick -/

theorem Low.dacUnderrun {r s : State} (h : Low 0x40100000 r s) (c : Nat) : Low 0x40100000 r (s.dacUnderrun c) := by
  unfold State.dacUnderrun
  split
  · exact ((h.satInc (by decide) (by decide)).event (by decide)).withOut
  · exact h

theorem State.dacInstant_low (s : State) : Low 0x40100000 s s.dacInstant := by
  unfold State.dacInstant
  split
  · exact (Low.refl _ s).part ((State.dacBeat_touches s.drawn.drawn _).regs rfl)
  · exact (((Low.refl _ s).part (t := s.drawn) rfl).dacUnderrun 0).dacUnderrun 1

theorem State.dacInstants_low (s : State) (n : Nat) : Low 0x40100000 s (s.dacInstants n) := by
  induction n generalizing s with
  | zero => exact Low.refl _ _
  | succ n ih => exact (ih _).seq (by decide) s.dacInstant_low

theorem State.signalTick_low (s : State) : Low 0x40100000 s s.signalTick := by
  unfold State.signalTick
  extract_lets channels received
  have kept : Low 0x40100000 s channels := (Low.refl _ s).each fun _ _ h => (State.ddcSome_low ..).seq (by decide) h
  have keptRx : Low 0x40100000 s received := kept.each fun x r h =>
    Low.iff (h.part ((State.rxPass_touches x.drawn r x.draw).regs rfl)) fun _ h => h.part ((State.rxBlockEnd_touches ..).regs rfl)
  exact (State.dacInstants_low ..).seq (by decide) (keptRx.part (t := received.drawn) rfl)

/-- What follows the clocks in a tick: the fabric, the streams, the signal paths, the lanes and the levels. -/
def State.idleRest (s : State) : State :=
  ((s.fabricTick.streamTick.signalTick).each (List.range 24) fun s n => s.laneTick n).settle

theorem State.idleRest_keepsWch (s : State) : KeepsWch s s.idleRest := by
  have keptStreams : KeepsWch s s.fabricTick.streamTick := s.fabricTick_keepsWch.part ((State.streamTick_touches _).regs rfl)
  have keptLanes : KeepsWch s ((s.fabricTick.streamTick.signalTick).each (List.range 24) fun s n => s.laneTick n) :=
    (keptStreams.low (State.signalTick_low _) (by decide)).each fun _ _ h => h.part ((State.laneTick_touches ..).regs rfl)
  refine ⟨fun a lo hi => (State.settle_word_of_not_level _ ?_).trans (keptLanes.word a lo hi)⟩
  simp only [levelRegs, GRD_STATUS, SYS_SERVICE, GRD_EVENT, BIN_IRQ_STATUS, List.mem_cons, List.not_mem_nil, or_false, not_or]
  omega

theorem State.idleRest_touches (s : State) : Touches 3762612499 s s.idleRest :=
  (State.settle_touches _).seq rfl <| Touches.each ((State.signalTick_touches _).seq rfl <| (State.streamTick_touches _).seq rfl <|
    (State.fabricTick_touches s).mono rfl) fun _ n h => (State.laneTick_touches _ n).seq rfl h

/-! ### One tick -/

/-- The clocks of a tick: the count of ticks, watch time and the wake timer. -/
def State.clocks (s : State) : State :=
  let s := (s.withOut []).withNow (s.now + 1)
  s.iff (s.wch.up && s.xtalOk) fun s => s.watchTick.timerTick

theorem State.clocks_touches (s : State) : Touches 139 s s.clocks :=
  Touches.iff (((Touches.refl _ s).upd_out rfl _).upd_now rfl _) fun _ h =>
    (State.timerTick_touches _).seq rfl ((State.watchTick_touches _).seq rfl h)

theorem State.idle_eq (s : State) : s.idle = (s.clocks.drawn.deviceRun (s.clocks.draw % 4096)).idleRest := by
  simp only [State.idle, State.clocks, State.idleRest]

theorem State.clocks_now (s : State) : s.clocks.now = s.now + 1 := by
  have kept : ∀ x : State, x.watchTick.timerTick.now = x.now := fun x =>
    ((State.timerTick_touches _).now rfl).trans ((State.watchTick_touches _).now rfl)
  unfold State.clocks State.iff
  extract_lets counted
  split
  · exact kept counted
  · rfl

/-- On an empty queue a step is a tick. -/
theorem step_idle {s : State} (idle : s.pending = []) : step s = .next s.idle := by
  rw [step, idle]

/-- A tick counts one. -/
theorem State.idle_now (s : State) : s.idle.now = s.now + 1 := by
  rw [s.idle_eq, (State.idleRest_touches _).now rfl, (State.deviceRun_touches ..).now rfl, State.drawn_now, s.clocks_now]

/-- Settles O2: what a tick touches is none of the parts named. -/
theorem emptyQueueIsOneTick : Obligations.EmptyQueueIsOneTick := by
  intro s idle
  have kept := s.idle_touches
  exact ⟨s.idle, step_idle idle, kept.pending.trans idle, s.idle_now, kept.dev rfl, kept.mask rfl, kept.pwr rfl, kept.bus rfl, kept.load rfl,
    kept.brg rfl, kept.smp rfl, kept.ctx rfl, kept.scan rfl, kept.lmdTx rfl, kept.spt rfl, kept.pin rfl, kept.bin rfl, kept.pll rfl,
    kept.mon rfl, kept.wear rfl⟩

end Sys2Proof.Machine

/-!
SUPPORT. Watch time over the ticks of an idle block (R103): outside service nothing aligns it, and each tick adds one period of the crystal.
-/
namespace Sys2Proof.Machine

/-! ### One tick of a copy -/

/-- A tick with no trim step adds 30,517 ns and 37/64 ns, and leaves nanoseconds and fraction within their ranges. -/
theorem tickCopy_untrimmed {sec ns frac sec' ns' frac' : Nat} (h : tickCopy sec ns frac 0 = (sec', ns', frac')) (hn : ns < 1000000000)
    (hf : frac < 64) (room : sec + 1 < 2 ^ 48) :
    (sec' * 1000000000 + ns') * 64 + frac' = (sec * 1000000000 + ns) * 64 + frac + (30517 * 64 + 37) ∧
      ns' < 1000000000 ∧ frac' < 64 ∧ sec' ≤ sec + 1 := by
  have sum : ((ns + 30517 + (frac + 37) / 64 : Nat) + (0 : Int)).toNat = ns + 30517 + (frac + 37) / 64 := by omega
  simp only [tickCopy, sum] at h
  split at h
  · simp only [Prod.mk.injEq] at h
    omega
  · simp only [Nat.mod_eq_of_lt room, Prod.mk.injEq] at h
    omega

theorem trimSteps_zero (k : Nat) : trimSteps 0 k = 0 := by
  simp [trimSteps]

/-- With TRIM 0 copy A advances with no trim step. -/
theorem State.watchTick_untrimmed {s : State} (trim : s.get WCH_TRIM_TRIM = 0) :
    tickCopy s.wch.aSec s.wch.aNs s.wch.aFrac 0 = (s.watchTick.wch.aSec, s.watchTick.wch.aNs, s.watchTick.wch.aFrac) := by
  have none : signed 16 0 = 0 := rfl
  simp only [State.watchTick, trim, none, trimSteps_zero, sub_self, State.withWch_wch]

/-! ### One tick of the block -/

/-- Copy A of `s` stands in `t`. -/
structure SameCopyA (s t : State) : Prop where
  up : t.wch.up = s.wch.up
  sec : t.wch.aSec = s.wch.aSec
  ns : t.wch.aNs = s.wch.aNs
  frac : t.wch.aFrac = s.wch.aFrac

theorem SameCopyA.of_wch {s t : State} (h : t.wch = s.wch) : SameCopyA s t := ⟨by rw [h], by rw [h], by rw [h], by rw [h]⟩

/-- The wake timer's tick leaves copy A, and every register but its own. -/
theorem State.timerTick_sameCopyA (s : State) : SameCopyA s s.timerTick := by
  unfold State.timerTick State.iff
  extract_lets counted
  split_ifs <;> exact ⟨rfl, rfl, rfl, rfl⟩

theorem State.timerTick_word (s : State) {a : Nat} (h : a ≠ WCH_WAKE_TIMER) : s.timerTick.word a = s.word a := by
  unfold State.timerTick State.iff
  extract_lets counted
  split_ifs
  · rfl
  · rfl
  · exact State.word_put_ne _ _ _ _ h
  · rfl

/-- Outside service device time stands. -/
theorem State.deviceRun_outside {s : State} (k : Nat) (out : s.inService = false) : s.deviceRun k = s := by
  have stands : s.deviceAdvance k = s := by simp [State.deviceAdvance, out]
  simp [State.deviceRun, stands, State.iff]

/-- An idle block outside service whose crystal runs untrimmed, with watch time in its ranges. -/
structure Untrimmed (s : State) : Prop where
  idle : s.pending = []
  outside : s.inService = false
  up : s.wch.up = true
  xtal : s.bit WCH_STATUS_XTAL_OK = true
  trim : s.get WCH_TRIM_TRIM = 0
  ns : s.wch.aNs < 1000000000
  frac : s.wch.aFrac < 64

/-- The other clocks and the rest of a tick leave watch time and its registers as the crystal left them, outside service. -/
theorem State.idle_outside {s : State} (out : s.inService = false) : s.idle.wch = s.clocks.wch ∧ KeepsWch s.clocks s.idle := by
  have outside : s.clocks.drawn.inService = false := by
    rw [State.inService, State.drawn_dev, s.clocks_touches.dev rfl]
    exact out
  rw [s.idle_eq, State.deviceRun_outside _ outside]
  exact ⟨(State.idleRest_touches _).wch rfl, (State.idleRest_keepsWch _).seq ((KeepsWch.refl _).part rfl)⟩

/-- Such a block stays so over a tick, which adds one period of the crystal. -/
theorem Untrimmed.tick {s : State} (h : Untrimmed s) (room : s.wch.aSec + 1 < 2 ^ 48) :
    Untrimmed s.idle ∧ s.idle.watchUnits = s.watchUnits + (30517 * 64 + 37) ∧ s.idle.wch.aSec ≤ s.wch.aSec + 1 := by
  obtain ⟨idle, outside, up, xtal, trim, ns, frac⟩ := h
  have clocks : s.clocks = ((s.withOut []).withNow (s.now + 1)).watchTick.timerTick := by
    have runs : (s.wch.up && s.xtalOk) = true := by rw [State.xtalOk, up, xtal, Bool.and_self]
    exact if_pos runs
  obtain ⟨wch, kept⟩ := State.idle_outside outside
  have same := State.timerTick_sameCopyA ((s.withOut []).withNow (s.now + 1)).watchTick
  rw [← clocks] at same
  obtain ⟨keptUp, sec', ns', frac'⟩ := same
  have word : ∀ a, 0x40008000 ≤ a → a < 0x40010000 → a ≠ WCH_WAKE_TIMER → s.idle.word a = s.word a := fun a lo hi other => by
    rw [kept.word a lo hi, clocks, State.timerTick_word _ other]
    rfl
  have advance := tickCopy_untrimmed (State.watchTick_untrimmed (s := (s.withOut []).withNow (s.now + 1)) trim) ns frac room
  rw [← sec', ← ns', ← frac', ← wch] at advance
  obtain ⟨units, nsBound, fracBound, secBound⟩ := advance
  have dev : s.idle.dev = s.dev := (State.idle_touches s).dev rfl
  refine ⟨⟨(State.idle_touches s).pending.trans idle, ?_, ?_, ?_, ?_, nsBound, fracBound⟩, units, secBound⟩
  · rw [State.inService, dev]
    exact outside
  · rw [wch, keptUp]
    exact up
  · rw [State.bit_of_word (f := WCH_STATUS_XTAL_OK) (word WCH_STATUS (by decide) (by decide) (by decide)), xtal]
  · rw [State.get_of_word (f := WCH_TRIM_TRIM) (word WCH_TRIM (by decide) (by decide) (by decide)), trim]

/-- A run goes on from what its first step answers. -/
theorem run_succ_of_step {M : Host.Core} {s t : M.State} (n : Nat) (first : M.step s = .next t) : M.run (n + 1) s = M.run n t := by
  rw [Host.Core.run, first]

/-- Over any number of ticks. -/
theorem Untrimmed.run {s : State} (h : Untrimmed s) (n : Nat) (room : s.wch.aSec + n < 2 ^ 48) :
    ∃ t, core.run n s = .next t ∧ Untrimmed t ∧ t.watchUnits = s.watchUnits + n * (30517 * 64 + 37) := by
  induction n generalizing s with
  | zero => exact ⟨s, rfl, h, by omega⟩
  | succ n ih =>
    obtain ⟨still, units, sec⟩ := h.tick (by omega)
    obtain ⟨t, run, last, total⟩ := ih still (by omega)
    exact ⟨t, (run_succ_of_step (M := core) n (step_idle h.idle)).trans run, last, by omega⟩

/-- Settles O21: each tick adds one period, and the ranges of nanoseconds and fraction tell the second from what it adds up to. -/
theorem ticksMakeSeconds : Obligations.TicksMakeSeconds := by
  intro s n idle outside up xtal trim ns frac room
  obtain ⟨t, run, last, units⟩ := (Untrimmed.mk idle outside up xtal trim ns frac).run n room
  refine ⟨t, run, units, fun whole => ?_⟩
  have nsLast := last.ns
  have fracLast := last.frac
  simp only [State.watchUnits, whole] at units
  omega

end Sys2Proof.Machine

/-!
SUPPORT. The snapshots of watch time and device time (R112, R349): what a read of a time register answers and captures.
-/
namespace Sys2Proof.Machine

/-! ### A read of a time register -/

/-- A register of the Watch domain or of the Fix selector of which a read clears and hides nothing, and which shows no pin. -/
def timeReg (a : Nat) : Bool :=
  a % 4 == 0 && decide (a < 2 ^ 32) && (blockOf a == some 1 || blockOf a == some 7) && (gpioBank a).isNone &&
  (rowOf a).any fun r => r.rc == 0 && r.wo == 0

/-- What a read of such a register does besides is the snapshot. -/
theorem State.readEffect_snapshots (s : State) (m : Nat) {a : Nat} (h8 : blockOf a ≠ some 8) (h10 : blockOf a ≠ some 10)
    (pins : gpioBank a = none) : s.readEffect m a 0 = s.snapshots m a := by
  have looked : s.looked a = s := by rw [State.looked, pins]; rfl
  unfold State.readEffect
  simp only [bne_self_eq_false, State.iff_false, looked]

/-- What was sent out has no part in a snapshot. -/
theorem State.snapshots_withOut (s : State) (v : List Out) (m a : Nat) :
    ((s.withOut v).snapshots m a).wch = (s.snapshots m a).wch ∧ ((s.withOut v).snapshots m a).fix = (s.snapshots m a).fix := by
  unfold State.snapshots
  split_ifs <;> exact ⟨rfl, rfl⟩

/-- The read completes DONE with what the register shows, and of both times it changes the snapshots alone. -/
theorem rcRead_timeReg {s : State} {m : Fin 16} {a : Nat} (ht : s.busTakes m.val = true) (ha : timeReg a = true)
    (hd : s.domainUp a = true) : Gives (.rcRead m 0 (BitVec.ofNat 32 a)) s fun t => t.busCode m.val = 0 ∧
      t.busData m.val = s.viewed m.val a ∧ t.wch = (s.snapshots m.val a).wch ∧ t.fix = (s.snapshots m.val a).fix := by
  simp only [timeReg, Bool.and_eq_true, beq_iff_eq, decide_eq_true_eq, Bool.or_eq_true, Option.isNone_iff_eq_none] at ha
  obtain ⟨⟨⟨⟨aligned, small⟩, block⟩, pins⟩, row⟩ := ha
  have addr : (BitVec.ofNat 32 a).toNat / 4 * 4 = a := by
    rw [BitVec.toNat_ofNat, Nat.mod_eq_of_lt small]
    omega
  have h8 : blockOf a ≠ some 8 := by rcases block with h | h <;> rw [h] <;> decide
  have h10 : blockOf a ≠ some 10 := by rcases block with h | h <;> rw [h] <;> decide
  cases hr : rowOf a with
  | none => simp [hr] at row
  | some r =>
    simp only [hr, Option.any_some, Bool.and_eq_true, beq_iff_eq] at row
    obtain ⟨rc, wo⟩ := row
    have shown : (s.withOut []).view m.val a = s.viewed m.val a := by
      rw [State.view_withOut _ _ _ h8 h10, State.view]
      simp only [hr, hd, wo, if_true]
      exact BitVec.and_allOnes
    have read := exec_rcRead_mapped (m := m) (addr := BitVec.ofNat 32 a) s ht (addr.symm ▸ hr) (addr.symm ▸ hd)
    rw [addr, rc, State.readEffect_snapshots _ _ h8 h10 pins, shown] at read
    obtain ⟨wch, fix⟩ := s.snapshots_withOut [] m.val a
    refine ⟨_, read, ?_, ?_, ?_, ?_⟩
    · rw [State.settle_busCode, State.busCode_complete _ _ (by decide)]
    · rw [State.settle_busData, State.busData_complete]
    · exact (State.settle_wch _).trans wch
    · exact (State.settle_fix _).trans fix

/-- A read of a word behind the first of a time answers what it shows, and captures nothing. -/
theorem rcRead_captured {s : State} {m : Fin 16} {a n : Nat} (ht : s.busTakes m.val = true) (ha : timeReg a = true)
    (hd : s.domainUp a = true) (later : a ≠ WCH_TIME_SEC_LO ∧ a ≠ FIX_TIME_SEC_LO) (shown : s.viewed m.val a = BitVec.ofNat 32 n) :
    Gives (.rcRead m 0 (BitVec.ofNat 32 a)) s fun t => (t.busData m.val).toNat = n % 2 ^ 32 ∧ t.wch = s.wch ∧ t.fix = s.fix := by
  have none : s.snapshots m.val a = s := by rw [State.snapshots, if_neg later.1, if_neg later.2]
  refine (rcRead_timeReg ht ha hd).imp ?_
  rintro t ⟨-, data, wch, fix⟩
  rw [none] at wch fix
  exact ⟨by rw [data, shown, BitVec.toNat_ofNat], wch, fix⟩

/-! ### The captured values -/

/-- The capture of watch time holds seconds and nanoseconds whole. -/
theorem wchSnap_toNat {sec ns : Nat} (hs : sec < 2 ^ 48) (hn : ns < 1000000000) :
    (BitVec.ofNat 80 (sec * 2 ^ 32 + ns)).toNat = sec * 2 ^ 32 + ns := by
  rw [BitVec.toNat_ofNat]
  omega

/-- The capture of device time holds seconds, nanoseconds and the upper half of the fraction whole. -/
theorem fixSnap_toNat {sec ns frac : Nat} (hs : sec < 2 ^ 48) (hn : ns < 1000000000) (hf : frac < 2 ^ 32) :
    (BitVec.ofNat 96 (sec * 2 ^ 48 + ns * 2 ^ 16 + frac / 2 ^ 16)).toNat = sec * 2 ^ 48 + ns * 2 ^ 16 + frac / 2 ^ 16 := by
  rw [BitVec.toNat_ofNat]
  omega

/-- Off holds no snapshot. -/
theorem gives_porstNAssert_snaps (s : State) : Gives .porstNAssert s fun t => t.wch.snaps = [] ∧ t.fix.snaps = [] := by
  refine gives_actAll (exec_porstNAssert s) ?_
  rw [State.settle_wch, State.refresh_wch, State.settle_fix, State.refresh_fix]
  exact ⟨congrArg WchState.snaps (s.withOut []).goOff_wch, rfl⟩

/-- Settles O19: each word of a time answers the count or its part of the capture. -/
theorem timeSnapshots : Obligations.TimeSnapshots := by
  refine ⟨fun s m ht up hs hn => ⟨?_, ?_, ?_, ?_⟩, fun s m ht hs hn hf => ⟨?_, ?_, ?_, ?_, ?_⟩⟩
  · refine (rcRead_timeReg (a := WCH_TIME_SEC_LO) ht (by decide) up).imp ?_
    rintro t ⟨code, data, wch, -⟩
    rw [data, wch]
    exact ⟨code, BitVec.toNat_ofNat .., (congrArg BitVec.toNat (cellRead_cellWrite_same ..)).trans (wchSnap_toNat hs hn),
      fun k other => cellRead_cellWrite_ne _ other _⟩
  · have width := (cellRead s.wch.snaps m.val).isLt
    exact (rcRead_captured (a := WCH_TIME_SEC_HI) ht (by decide) up (by decide) rfl).imp fun t ⟨data, wch, _⟩ =>
      ⟨data.trans (Nat.mod_eq_of_lt (by omega)), wch⟩
  · exact (rcRead_captured (a := WCH_TIME_NS) ht (by decide) up (by decide) rfl).imp fun t ⟨data, wch, _⟩ => ⟨data, wch⟩
  · exact (gives_porstNAssert_snaps s).imp fun t ⟨empty, _⟩ k => by rw [empty]; rfl
  · refine (rcRead_timeReg (a := FIX_TIME_SEC_LO) ht (by decide) rfl).imp ?_
    rintro t ⟨code, data, -, fix⟩
    rw [data, fix]
    exact ⟨code, BitVec.toNat_ofNat .., (congrArg BitVec.toNat (cellRead_cellWrite_same ..)).trans (fixSnap_toNat hs hn hf),
      fun k other => cellRead_cellWrite_ne _ other _⟩
  · have width := (cellRead s.fix.snaps m.val).isLt
    exact (rcRead_captured (a := FIX_TIME_SEC_HI) ht (by decide) rfl (by decide) rfl).imp fun t ⟨data, _, fix⟩ =>
      ⟨data.trans (Nat.mod_eq_of_lt (by omega)), fix⟩
  · exact (rcRead_captured (a := FIX_TIME_NS) ht (by decide) rfl (by decide) rfl).imp fun t ⟨data, _, fix⟩ => ⟨data, fix⟩
  · exact (rcRead_captured (a := FIX_TIME_FNS) ht (by decide) rfl (by decide) rfl).imp fun t ⟨data, _, fix⟩ =>
      ⟨data.trans (Nat.mod_eq_of_lt (by omega)), fix⟩
  · exact (gives_porstNAssert_snaps s).imp fun t ⟨_, empty⟩ k => by rw [empty]; rfl

end Sys2Proof.Machine

/-!
SUPPORT. The watch controller's entries and reports: what an entry that waits leaves of the Watch domain, and how its commands act while the
domain has supply.
-/
namespace Sys2Proof.Machine

/-! ### Fields of one register -/

theorem State.bit_put_disjoint (s : State) (f g : Fld) (v : Nat) (hg : g.lo + g.width ≤ 32) (hd : f.disjoint g = true) :
    (s.put f v).bit g = s.bit g := congrArg (· != 0) (s.get_put_disjoint f g v hg hd)

/-- A bit beside the one set reads as before. -/
theorem State.bit_set_disjoint (s : State) (f g : Fld) (hg : g.lo + g.width ≤ 32) (hd : f.disjoint g = true) :
    (s.set f).bit g = s.bit g := s.bit_put_disjoint f g 1 hg hd

/-- A bit beside the one cleared reads as before. -/
theorem State.bit_clr_disjoint (s : State) (f g : Fld) (hg : g.lo + g.width ≤ 32) (hd : f.disjoint g = true) :
    (s.clr f).bit g = s.bit g := s.bit_put_disjoint f g 0 hg hd

/-! ### Entries and reports -/

/-- An entry changes the watch controller's buffer alone. -/
theorem State.watchLog_wch (s : State) (code inst detail : Nat) :
    ∃ q next, (s.watchLog code inst detail).wch = { s.wch with logq := q, logNext := next } := by
  unfold State.watchLog
  extract_lets e
  split
  · exact ⟨_, _, rfl⟩
  · exact ⟨s.wch.logq, s.wch.logNext, (State.satInc_touches ..).wch rfl⟩

theorem KeepsWch.watchLog {r s : State} (h : KeepsWch r s) (code inst detail : Nat) : KeepsWch r (s.watchLog code inst detail) :=
  h.low (State.watchLog_low ..) (by decide)

/-- A report from the Watch domain may be held for the next fabric release, and changes nothing else of the domain. -/
theorem State.watchReport_wch (s : State) (n inst detail : Nat) :
    ∃ late, (s.watchReport n inst detail).wch = { s.wch with late := late } := by
  unfold State.watchReport
  split
  · exact ⟨_, rfl⟩
  · exact ⟨s.wch.late, (State.report_touches ..).wch rfl⟩

theorem KeepsWch.watchReport {r s : State} (h : KeepsWch r s) (n inst detail : Nat) : KeepsWch r (s.watchReport n inst detail) := by
  unfold State.watchReport
  split
  · exact h.part rfl
  · exact h.report ..

/-- The entry of a moment depends on watch time, its validity, the supply, the power state and the ticks alone. -/
theorem State.watchItem_congr {s t : State} (sec : t.wch.aSec = s.wch.aSec) (ns : t.wch.aNs = s.wch.aNs)
    (next : t.wch.logNext = s.wch.logNext) (now : t.now = s.now) (dev : t.dev = s.dev)
    (valid : t.bit WCH_STATUS_TIME_VALID = s.bit WCH_STATUS_TIME_VALID) (supply : t.get WCH_STATUS_SUPPLY = s.get WCH_STATUS_SUPPLY)
    (code inst detail : Nat) : t.watchItem code inst detail = s.watchItem code inst detail := by
  simp only [State.watchItem, State.item, sec, ns, next, now, dev, valid, supply]

/-- An entry that finds room stands in the buffer with its code and detail. -/
theorem queueEntry_any (q : List LogItem) {e : LogItem} {code detail : Nat} (hc : e.code = code) (hd : e.detail = detail) :
    (queueEntry q e).any (fun x => x.code == code && x.detail == detail) = true := by
  unfold queueEntry
  extract_lets order
  have size : order.length ≤ ((q ++ [e]).map (·.ready)).length := by
    have parts := congrArg List.length (List.takeWhile_append_dropWhile (p := fun x => !tamperBefore e x) (l := q))
    simp only [List.length_append] at parts
    simp only [order, List.length_append, List.length_cons, List.length_map, List.length_nil]
    omega
  have fields : ((order.zip ((q ++ [e]).map (·.ready))).map Prod.fst).any (fun x => x.code == code && x.detail == detail) = true := by
    rw [List.map_fst_zip size]
    simp [order, hc, hd]
  rw [List.any_map] at fields ⊢
  exact fields

/-! ### Commands of the Watch domain -/

/-- While the domain has supply, what holds once the levels are up to date holds of its command. -/
theorem gives_onWatch {c : Instr} {f : State → State} {s : State} {P : State → Prop} (e : exec c s = act (·.onWatch f) s)
    (up : s.wch.up = true) (h : P (f (s.withOut [])).settle) : Gives c s P := by
  refine gives_act e ?_
  have acts : (s.withOut []).onWatch f = f (s.withOut []) := if_pos up
  rw [acts]
  exact h

/-- The same of a command to which the other blocks react. -/
theorem gives_onWatchAll {c : Instr} {f : State → State} {s : State} {P : State → Prop} (e : exec c s = actAll (·.onWatch f) s)
    (up : s.wch.up = true) (h : P (f (s.withOut [])).refresh.settle) : Gives c s P := by
  refine gives_actAll e ?_
  have acts : (s.withOut []).onWatch f = f (s.withOut []) := if_pos up
  rw [acts]
  exact h

theorem exec_wchCommit (a : Acc) (s : State) : exec (.wchCommit a) s = actAll (·.regWrite a WCH_SET_CMD 1) s := rfl

theorem exec_watchTimeSet (s : State) : exec .watchTimeSet s = act (·.onWatch (·.watchTimeSet)) s := rfl

theorem exec_watchSecond (s : State) : exec .watchSecond s = act (·.onWatch fun s => s.watchSecond s.fix.sec) s := rfl

theorem exec_xtalStop (s : State) : exec .xtalStop s = act (·.onWatch (·.xtalStop)) s := rfl

theorem exec_xtalRestored (hold : Nat) (s : State) : exec (.xtalRestored hold) s = act (·.onWatch (·.xtalRestored hold)) s := rfl

@[simp] theorem State.lineLevel_timer (s : State) : s.lineLevel 9 = s.bit WCH_STATUS_TIMER := rfl

@[simp] theorem State.lineLevel_xtalFail (s : State) : s.lineLevel 12 = s.bit WCH_STATUS_XTAL_FAIL := rfl

@[simp] theorem State.lineLevel_timeCheck (s : State) : s.lineLevel 14 = s.bit WCH_STATUS_TIME_CHECK := rfl

/-! ### Setting watch time -/

/-- The write of COMMIT marks the set. -/
theorem State.regWrite_commit {s : State} {acc : Acc} (h : s.commandOk acc WCH_SET_CMD = true) :
    (s.regWrite acc WCH_SET_CMD 1).wch = { s.wch with commit := true } := by
  rw [State.regWrite_command s acc _ 1 h (by decide) (fun _ _ => rfl), State.finish_ok]
  rfl

/-- Both copies loaded by a set, which is no longer committed. -/
def State.setLoaded (s : State) (sec ns : Nat) : State :=
  let s := s.setWatch sec ns
  s.withWch { s.wch with commit := false, aligned := none }

/-- A committed set takes place at a tick of the crystal. -/
theorem State.watchTimeSet_committed {s : State} (commit : s.wch.commit = true) (xtal : s.bit WCH_STATUS_XTAL_OK = true) :
    s.watchTimeSet = ((s.setLoaded (s.get2 WCH_SET_SEC_LO_SEC WCH_SET_SEC_HI_SEC) (s.get WCH_SET_NS_NS)).set
      WCH_STATUS_TIME_VALID).watchLog 0x0107 0 s.wch.aSec := by
  have acts : (s.wch.commit && s.xtalOk) = true := by rw [commit, State.xtalOk, xtal, Bool.and_self]
  exact if_pos acts

/-- The copies hold a set's seconds and nanoseconds, and no set waits. -/
structure CopiesAt (sec ns : Nat) (w : WchState) : Prop where
  aSec : w.aSec = sec
  bSec : w.bSec = sec
  aNs : w.aNs = ns
  bNs : w.bNs = ns
  commit : w.commit = false

/-- The tick of a set loads the copies, makes watch time valid, and logs the old seconds. -/
theorem State.setLoaded_logged (s : State) (sec ns : Nat) {t : State}
    (h : t = ((s.setLoaded sec ns).set WCH_STATUS_TIME_VALID).watchLog 0x0107 0 s.wch.aSec) :
    CopiesAt sec ns t.wch ∧ t.bit WCH_STATUS_TIME_VALID = true ∧
      (s.wch.logq.length < 4 → t.wch.logq.any (fun e => e.code == 0x0107 && e.detail == s.wch.aSec) = true) := by
  obtain ⟨q, next, wch⟩ := ((s.setLoaded sec ns).set WCH_STATUS_TIME_VALID).watchLog_wch 0x0107 0 s.wch.aSec
  rw [h]
  refine ⟨?_, ?_, fun room => ?_⟩
  · rw [wch]
    exact ⟨rfl, rfl, rfl, rfl, rfl⟩
  · rw [((KeepsWch.refl _).watchLog ..).bit WCH_STATUS_TIME_VALID (by decide) (by decide), State.bit_set_same _ _ (by decide) (by decide)]
  · rw [State.watchLog_logq (s := (s.setLoaded sec ns).set WCH_STATUS_TIME_VALID) _ _ _ room]
    exact queueEntry_any _ rfl rfl

/-- While the crystal has stopped a committed set is held. -/
theorem State.watchTimeSet_held {s : State} (xtal : s.bit WCH_STATUS_XTAL_OK = false) : s.watchTimeSet = s := by
  have held : (s.wch.commit && s.xtalOk) = false := by rw [State.xtalOk, xtal, Bool.and_false]
  exact if_neg (by rw [held]; decide)

/-! ### The voted copies -/

/-- Copies that agree make nothing. -/
theorem State.watchSecond_agree {s : State} (devSec : Nat) (sec : s.wch.aSec = s.wch.bSec) (ns : s.wch.aNs = s.wch.bNs)
    (frac : s.wch.aFrac = s.wch.bFrac) : s.watchSecond devSec = s := by
  refine if_pos ?_
  simp only [sec, ns, frac, beq_self_eq_true, Bool.and_self]

/-- A mismatch is marked, logged and reported. -/
def State.mismatchMarked (s : State) : State :=
  ((s.set WCH_STATUS_TIME_CHECK).watchLog 0x0106 0 s.wch.bSec).watchReport 21 0 s.wch.bSec

/-- What the mark leaves of the Watch domain, the power state and WCH_STATUS. -/
theorem State.mismatchMarked_keeps (s : State) : (∃ q next late, s.mismatchMarked.wch = { s.wch with logq := q, logNext := next, late := late }) ∧
    s.mismatchMarked.dev = s.dev ∧ KeepsWch (s.set WCH_STATUS_TIME_CHECK) s.mismatchMarked := by
  have touched : Touches 386 s s.mismatchMarked :=
    (State.watchReport_touches ..).seq rfl ((State.watchLog_touches ..).seq rfl ((State.set_touches ..).mono rfl))
  obtain ⟨q, next, logged⟩ := (s.set WCH_STATUS_TIME_CHECK).watchLog_wch 0x0106 0 s.wch.bSec
  obtain ⟨late, reported⟩ := ((s.set WCH_STATUS_TIME_CHECK).watchLog 0x0106 0 s.wch.bSec).watchReport_wch 21 0 s.wch.bSec
  exact ⟨⟨q, next, late, by rw [State.mismatchMarked, reported, logged]; rfl⟩, touched.dev rfl, ((KeepsWch.refl _).watchLog ..).watchReport ..⟩

/-- Copy B takes copy A's value. -/
def State.copyAtoB (s : State) (w : WchState) : State := s.withWch { s.wch with bSec := w.aSec, bNs := w.aNs, bFrac := w.aFrac }

/-- Copy A takes copy B's value. -/
def State.copyBtoA (s : State) (w : WchState) : State := s.withWch { s.wch with aSec := w.bSec, aNs := w.bNs, aFrac := w.bFrac }

/-- A mismatch outside service: copy A is taken, and watch time is not valid. -/
theorem State.watchSecond_outside {s : State} (devSec : Nat) (differ : s.wch.aSec ≠ s.wch.bSec) (out : s.inService = false) :
    s.watchSecond devSec = (s.mismatchMarked.copyAtoB s.wch).clr WCH_STATUS_TIME_VALID := by
  have outside : s.mismatchMarked.inService = false := by rw [State.inService, s.mismatchMarked_keeps.2.1]; exact out
  have acts : (s.wch.aSec == s.wch.bSec && s.wch.aNs == s.wch.bNs && s.wch.aFrac == s.wch.bFrac) = false := by simp [differ]
  unfold State.watchSecond
  extract_lets w marked fromA
  rw [if_neg (by rw [acts]; decide), show marked.inService = false from outside]
  simp only [Bool.false_and, Bool.false_eq_true, if_false]
  rfl

/-- A mismatch in service with copy B at device time: copy B is taken. -/
theorem State.watchSecond_deviceB {s : State} (differ : s.wch.aSec ≠ s.wch.bSec) (on : s.inService = true) :
    s.watchSecond s.wch.bSec = s.mismatchMarked.copyBtoA s.wch := by
  have serving : s.mismatchMarked.inService = true := by rw [State.inService, s.mismatchMarked_keeps.2.1]; exact on
  have acts : (s.wch.aSec == s.wch.bSec && s.wch.aNs == s.wch.bNs && s.wch.aFrac == s.wch.bFrac) = false := by simp [differ]
  unfold State.watchSecond
  extract_lets w marked fromA
  have other : (w.aSec == s.wch.bSec) = false := by simp [w, differ]
  rw [if_neg (by rw [acts]; decide), show marked.inService = true from serving, other, show (w.bSec == s.wch.bSec) = true from beq_self_eq_true _]
  rfl

/-! ### The crystal -/

/-- While the crystal has stopped nothing aligns watch time. -/
theorem State.watchAlign_stopped {s : State} (sec ns : Nat) (xtal : s.bit WCH_STATUS_XTAL_OK = false) : s.watchAlign sec ns = s :=
  if_pos (by rw [State.xtalOk, xtal, Bool.not_false, Bool.or_true])

theorem State.deviceSecond_stopped {s : State} (xtal : s.bit WCH_STATUS_XTAL_OK = false) :
    s.deviceSecond.wch = s.wch ∧ KeepsWch s s.deviceSecond := by
  unfold State.deviceSecond
  extract_lets st raised on fix pulsed counted sel
  have touchedPulse : Touches 4098 s pulsed := ((State.set_touches s (evtFld 52)).mono rfl).upd_fix rfl _
  have touched : Touches 4098 s counted := touchedPulse.iff fun _ h => (State.satInc_touches ..).seq rfl h
  have keptPulse : KeepsWch s pulsed := KeepsWch.part (s := raised) ((KeepsWch.refl s).set (by decide)) rfl
  have kept : KeepsWch s counted := keptPulse.iff fun _ h => h.satInc (by decide) (by decide)
  have stopped := (kept.bit WCH_STATUS_XTAL_OK (by decide) (by decide)).trans xtal
  rw [State.iff, State.watchAlign_stopped _ _ stopped, ite_self]
  exact ⟨touched.wch rfl, kept⟩

/-- A tick without the crystal leaves watch time and its registers. -/
theorem State.deviceRun_stopped {s : State} (k : Nat) (xtal : s.bit WCH_STATUS_XTAL_OK = false) :
    (s.deviceRun k).wch = s.wch ∧ KeepsWch s (s.deviceRun k) := by
  unfold State.deviceRun
  extract_lets t
  have advanced : Touches 4096 s t := State.deviceAdvance_touches ..
  have kept : KeepsWch s t := (KeepsWch.refl s).part (advanced.regs rfl)
  unfold State.iff
  split
  · obtain ⟨wch, second⟩ := t.deviceSecond_stopped ((kept.bit WCH_STATUS_XTAL_OK (by decide) (by decide)).trans xtal)
    exact ⟨wch.trans (advanced.wch rfl), second.seq kept⟩
  · exact ⟨advanced.wch rfl, kept⟩

theorem State.idle_stopped {s : State} (xtal : s.bit WCH_STATUS_XTAL_OK = false) : s.idle.wch = s.wch ∧ KeepsWch s s.idle := by
  have stopped : (s.wch.up && s.xtalOk) = true → False := by simp [State.xtalOk, xtal]
  have clocks : s.clocks = (s.withOut []).withNow (s.now + 1) := if_neg stopped
  rw [s.idle_eq, clocks]
  generalize ((s.withOut []).withNow (s.now + 1)).draw % 4096 = k
  obtain ⟨wch, kept⟩ := State.deviceRun_stopped (s := ((s.withOut []).withNow (s.now + 1)).drawn) k xtal
  exact ⟨((State.idleRest_touches _).wch rfl).trans wch, (State.idleRest_keepsWch _).seq (kept.seq ((KeepsWch.refl s).part rfl))⟩

/-- The stop of the crystal is marked, logged and reported. -/
def State.stopMarked (s : State) : State :=
  (((s.clr WCH_STATUS_XTAL_OK).set WCH_STATUS_XTAL_FAIL).watchLog 0x0104 0 0).watchReport 22 0 0

/-- The mark holds watch time, and of the watch controller's registers changes the two bits of the crystal. -/
theorem State.stopMarked_keeps (s : State) : s.stopMarked.wch.aSec = s.wch.aSec ∧
    KeepsWch ((s.clr WCH_STATUS_XTAL_OK).set WCH_STATUS_XTAL_FAIL) s.stopMarked := by
  obtain ⟨q, next, logged⟩ := ((s.clr WCH_STATUS_XTAL_OK).set WCH_STATUS_XTAL_FAIL).watchLog_wch 0x0104 0 0
  obtain ⟨late, reported⟩ := (((s.clr WCH_STATUS_XTAL_OK).set WCH_STATUS_XTAL_FAIL).watchLog 0x0104 0 0).watchReport_wch 22 0 0
  exact ⟨by rw [State.stopMarked, reported, logged]; rfl, ((KeepsWch.refl _).watchLog ..).watchReport ..⟩

/-- The stop of a crystal that runs: watch time and the wake timer hold, and TIME_VALID clears. -/
theorem State.xtalStop_running {s : State} (xtal : s.bit WCH_STATUS_XTAL_OK = true) :
    s.xtalStop.bit WCH_STATUS_XTAL_OK = false ∧ s.xtalStop.bit WCH_STATUS_XTAL_FAIL = true ∧
      s.xtalStop.bit WCH_STATUS_TIME_VALID = false ∧ s.xtalStop.wch.aSec = s.wch.aSec ∧
      s.xtalStop.get WCH_WAKE_TIMER_COUNT = s.get WCH_WAKE_TIMER_COUNT := by
  have stops : s.xtalStop = (s.stopMarked.clr WCH_STATUS_TIME_VALID).withWch { s.stopMarked.wch with aligned := none } := if_pos xtal
  obtain ⟨sec, kept⟩ := s.stopMarked_keeps
  rw [stops]
  refine ⟨?_, ?_, State.bit_clr_same _ WCH_STATUS_TIME_VALID (by decide), sec, ?_⟩
  · rw [State.withWch_bit, State.bit_clr_disjoint _ _ _ (by decide) (by decide), kept.bit _ (by decide) (by decide),
      State.bit_set_disjoint _ _ _ (by decide) (by decide), State.bit_clr_same _ _ (by decide)]
  · rw [State.withWch_bit, State.bit_clr_disjoint _ _ _ (by decide) (by decide), kept.bit _ (by decide) (by decide),
      State.bit_set_same _ _ (by decide) (by decide)]
  · rw [State.withWch_get, State.clr, State.get_put_ne _ _ _ _ (by decide), kept.get _ (by decide) (by decide), State.set,
      State.get_put_ne _ _ _ _ (by decide), State.clr, State.get_put_ne _ _ _ _ (by decide)]

/-- The return of a crystal that had stopped. -/
theorem State.xtalRestored_stopped {s : State} (hold : Nat) (xtal : s.bit WCH_STATUS_XTAL_OK = false) :
    s.xtalRestored hold = ((s.set WCH_STATUS_XTAL_OK).watchLog 0x0105 0 hold).clr WCH_STATUS_TIME_VALID := by
  unfold State.xtalRestored
  rw [if_neg (by simp [State.xtalOk, xtal])]

/-! ### The commands -/

theorem gives_wchCommit {s : State} {acc : Acc} (h : s.commandOk acc WCH_SET_CMD = true) :
    Gives (.wchCommit acc) s fun t => t.wch.commit = true ∧ t.wch.aSec = s.wch.aSec := by
  refine gives_actAll (exec_wchCommit acc s) ?_
  rw [State.settle_wch, State.refresh_wch, State.regWrite_commit (s := s.withOut []) h]
  exact ⟨rfl, rfl⟩

theorem gives_watchSecond_outside {s : State} (up : s.wch.up = true) (differ : s.wch.aSec ≠ s.wch.bSec) (out : s.inService = false) :
    Gives .watchSecond s fun t => t.wch.bSec = s.wch.aSec ∧ t.wch.bNs = s.wch.aNs ∧ t.wch.aSec = s.wch.aSec ∧
      t.bit WCH_STATUS_TIME_CHECK = true ∧ t.bit WCH_STATUS_TIME_VALID = false ∧ t.lineLevel 14 = true := by
  obtain ⟨⟨q, next, late, wch⟩, -, kept⟩ := (s.withOut []).mismatchMarked_keeps
  refine gives_onWatch (exec_watchSecond s) up ?_
  rw [State.watchSecond_outside (s := s.withOut []) _ differ out, State.settle_wch, State.lineLevel_timeCheck,
    State.settle_bit_pwr _ (by decide), State.settle_bit_pwr _ (by decide)]
  have check : ((((s.withOut []).mismatchMarked.copyAtoB s.wch)).clr WCH_STATUS_TIME_VALID).bit WCH_STATUS_TIME_CHECK = true := by
    rw [State.bit_clr_disjoint _ _ _ (by decide) (by decide), State.copyAtoB, State.withWch_bit, kept.bit _ (by decide) (by decide),
      State.bit_set_same _ _ (by decide) (by decide)]
  have sec : (s.withOut []).mismatchMarked.wch.aSec = s.wch.aSec := by rw [wch]; rfl
  exact ⟨rfl, rfl, sec, check, State.bit_clr_same _ _ (by decide), check⟩

theorem gives_watchSecond_deviceB {s : State} (up : s.wch.up = true) (differ : s.wch.aSec ≠ s.wch.bSec) (on : s.inService = true)
    (device : s.wch.bSec = s.fix.sec) : Gives .watchSecond s fun t => t.wch.aSec = s.wch.bSec ∧ t.wch.aNs = s.wch.bNs ∧
      t.bit WCH_STATUS_TIME_CHECK = true ∧ t.bit WCH_STATUS_TIME_VALID = s.bit WCH_STATUS_TIME_VALID := by
  obtain ⟨-, -, kept⟩ := (s.withOut []).mismatchMarked_keeps
  have taken : (s.withOut []).watchSecond s.fix.sec = (s.withOut []).mismatchMarked.copyBtoA s.wch := by
    rw [← device]
    exact State.watchSecond_deviceB (s := s.withOut []) differ on
  refine gives_onWatch (exec_watchSecond s) up ?_
  rw [State.withOut_fix, taken, State.settle_wch, State.settle_bit_pwr _ (by decide), State.settle_bit_pwr _ (by decide), State.copyBtoA,
    State.withWch_bit, State.withWch_bit, kept.bit _ (by decide) (by decide), kept.bit _ (by decide) (by decide)]
  exact ⟨rfl, rfl, State.bit_set_same _ _ (by decide) (by decide), State.bit_set_disjoint _ _ _ (by decide) (by decide)⟩

theorem gives_xtalRestored {s : State} (hold : Nat) (up : s.wch.up = true) (xtal : s.bit WCH_STATUS_XTAL_OK = false) :
    Gives (.xtalRestored hold) s fun t => t.bit WCH_STATUS_XTAL_OK = true ∧ t.bit WCH_STATUS_TIME_VALID = false ∧
      t.wch.aSec = s.wch.aSec ∧ t.wch.aNs = s.wch.aNs ∧
      (s.wch.logq.length < 4 → t.wch.logq = queueEntry s.wch.logq (s.watchItem 0x0105 0 hold)) := by
  obtain ⟨q, next, wch⟩ := ((s.withOut []).set WCH_STATUS_XTAL_OK).watchLog_wch 0x0105 0 hold
  refine gives_onWatch (exec_xtalRestored hold s) up ?_
  rw [State.xtalRestored_stopped (s := s.withOut []) hold xtal, State.settle_wch, State.clr_wch, State.settle_bit_pwr _ (by decide),
    State.settle_bit_pwr _ (by decide)]
  refine ⟨?_, State.bit_clr_same _ _ (by decide), by rw [wch]; rfl, by rw [wch]; rfl, fun room => ?_⟩
  · rw [State.bit_clr_disjoint _ _ _ (by decide) (by decide), ((KeepsWch.refl _).watchLog ..).bit _ (by decide) (by decide),
      State.bit_set_same _ _ (by decide) (by decide)]
  · have valid : ((s.withOut []).set WCH_STATUS_XTAL_OK).bit WCH_STATUS_TIME_VALID = s.bit WCH_STATUS_TIME_VALID :=
      State.bit_set_disjoint _ _ _ (by decide) (by decide)
    have supply : ((s.withOut []).set WCH_STATUS_XTAL_OK).get WCH_STATUS_SUPPLY = s.get WCH_STATUS_SUPPLY :=
      State.get_put_disjoint _ _ _ _ (by decide) (by decide)
    have item : ((s.withOut []).set WCH_STATUS_XTAL_OK).watchItem 0x0105 0 hold = s.watchItem 0x0105 0 hold :=
      State.watchItem_congr (s := s) (t := (s.withOut []).set WCH_STATUS_XTAL_OK) rfl rfl rfl rfl rfl valid supply ..
    have logged := State.watchLog_logq (s := (s.withOut []).set WCH_STATUS_XTAL_OK) 0x0105 0 hold room
    rw [item] at logged
    exact logged

/-- Settles O22: the set by what its tick loads, the copies by the one that is taken, the crystal by what its stop and return leave. -/
theorem watchTimeSetCopiesAndCrystal : Obligations.WatchTimeSetCopiesAndCrystal := by
  refine ⟨fun s up => ⟨fun a ok => gives_wchCommit ok, fun commit xtal => ?_, fun _ xtal => ?_⟩,
    fun s up => ⟨fun sec ns frac => ?_, fun differ out => gives_watchSecond_outside up differ out,
      fun differ on device => gives_watchSecond_deviceB up differ on device⟩,
    fun s up => ⟨fun xtal => ?_, fun hold xtal => gives_xtalRestored hold up xtal, fun xtal idle => ?_⟩⟩
  · obtain ⟨⟨aSec, bSec, aNs, bNs, cleared⟩, valid, logged⟩ :=
      (s.withOut []).setLoaded_logged _ _ (State.watchTimeSet_committed (s := s.withOut []) commit xtal)
    refine gives_onWatch (exec_watchTimeSet s) up ?_
    rw [State.settle_wch, State.settle_bit_pwr _ (by decide)]
    exact ⟨aSec, bSec.trans aSec.symm, aNs, bNs.trans aNs.symm, cleared, valid, logged⟩
  · refine gives_onWatch (exec_watchTimeSet s) up ?_
    rw [State.watchTimeSet_held (s := s.withOut []) xtal, State.settle_wch, State.withOut_wch]
  · refine gives_onWatch (exec_watchSecond s) up ?_
    rw [State.watchSecond_agree (s := s.withOut []) _ sec ns frac, State.settle_wch, State.settle_bit_pwr _ (by decide)]
    exact ⟨rfl, rfl⟩
  · obtain ⟨stopped, fail, invalid, sec, timer⟩ := State.xtalStop_running (s := s.withOut []) xtal
    refine gives_onWatch (exec_xtalStop s) up ?_
    rw [State.lineLevel_xtalFail, State.settle_wch, State.settle_bit_pwr _ (by decide), State.settle_bit_pwr _ (by decide),
      State.settle_bit_pwr _ (by decide), State.settle_get_pwr _ (by decide)]
    exact ⟨stopped, fail, invalid, sec, fail, timer⟩
  · obtain ⟨wch, kept⟩ := State.idle_stopped xtal
    exact ⟨s.idle, step_idle idle, congrArg WchState.aSec wch, congrArg WchState.aNs wch,
      kept.get WCH_WAKE_TIMER_COUNT (by decide) (by decide)⟩

end Sys2Proof.Machine

/-!
SUPPORT. The slots of the cipher engine at an erase of all (R490, R520): no operation that ends replaces a slot, and each erase leaves its own
erased and the others as they were.
-/
namespace Sys2Proof.Machine

/-! ### Requests that end leave the slots -/

/-- Posting outcomes moves records alone. -/
theorem State.cphPost_slots (s : State) : s.cphPost.cph.slots = s.cph.slots := by
  refine State.each_keeps (P := fun x => x.cph.slots = s.cph.slots) rfl fun x d h => ?_
  dsimp only
  split
  · unfold State.iff
    split <;> exact h
  · exact h

/-- A request that ends changes the engine's lists and records alone. -/
theorem State.cphFinish_slots (s : State) (r : CphReq) (status reason : Nat) (ran : Bool) :
    (s.cphFinish r status reason ran).cph.slots = s.cph.slots := by
  have counted : ((s.cphRemove r).cphCount status).cph.slots = s.cph.slots :=
    (congrArg CphState.slots ((State.cphCount_touches (s.cphRemove r) status).cph rfl)).trans rfl
  unfold State.cphFinish
  extract_lets u p gen v w x info
  have shown : x.cph = u.cph := by
    have late : w.cph = u.cph := by
      show (State.iff (v.put _ reason) r.late _).cph = _
      cases r.late <;> rfl
    refine Eq.trans ?_ late
    show (State.iff w _ _).cph = _
    cases ran && r.op == 1 <;> rfl
  split
  · refine Eq.trans (congrArg CphState.slots ?_) counted
    refine Eq.trans ?_ shown
    cases r.port <;> rfl
  · exact (State.cphPost_slots _).trans counted

/-- Requests dropped before they start leave the slots. -/
theorem State.cphDropWaiting_slots (s : State) (k status : Nat) : (s.cphDropWaiting k status).cph.slots = s.cph.slots :=
  State.each_keeps (P := fun x => x.cph.slots = s.cph.slots) rfl fun x r h => (x.cphFinish_slots r status 0 false).trans h

/-! ### Erases -/

/-- The erase of a slot replaces that slot alone. -/
theorem State.slotErase_slots (s : State) (k : Nat) : (s.slotErase k).cph.slots = s.cph.slots.setIfInBounds k Slot.erased := by
  unfold State.slotErase
  extract_lets mode u
  have aborted : u.cph.slots = s.cph.slots :=
    State.each_keeps (P := fun x => x.cph.slots = s.cph.slots) rfl fun x r h =>
      (State.cphFinish_slots ..).trans ((congrArg CphState.slots ((State.cphZeroDst_touches x r mode false).cph rfl)).trans h)
  show (u.cphDropWaiting k stSlotErased).cph.slots.setIfInBounds k Slot.erased = _
  rw [State.cphDropWaiting_slots, aborted]

/-- A slot is erased by its own erase, and kept by another's. -/
theorem State.slotErase_slot (s : State) (i k : Nat) : (s.slotErase i).slot k = if i = k then Slot.erased else s.slot k := by
  unfold State.slot
  rw [State.slotErase_slots, Vector.getElem?_setIfInBounds]
  split_ifs <;> rfl

/-- After a run of erases a slot among them is erased. -/
theorem State.each_slotErase_slot (ks : List Nat) (s : State) (k : Nat) :
    (s.each ks fun s i => s.slotErase i).slot k = if k ∈ ks then Slot.erased else s.slot k := by
  induction ks generalizing s with
  | nil => rfl
  | cons i ks ih =>
    refine (ih (s.slotErase i)).trans ?_
    rw [State.slotErase_slot]
    by_cases later : k ∈ ks
    · rw [if_pos later, if_pos (List.mem_cons_of_mem _ later)]
    · rw [if_neg later]
      exact if_congr (by simp only [List.mem_cons, later, or_false, eq_comm]) rfl rfl

/-- Zeroization leaves every slot erased (R520). -/
theorem State.cphZeroize_slot (s : State) {k : Nat} (h : k < 64) : s.cphZeroize.slot k = Slot.erased := by
  unfold State.cphZeroize
  extract_lets u src v w
  have erased : u.slot k = Slot.erased := (State.each_slotErase_slot _ s k).trans (if_pos (List.mem_range.mpr h))
  clear_value u
  have cleared : w.cph.slots = v.cph.slots := State.each_keeps (P := fun x => x.cph.slots = v.cph.slots) rfl fun _ _ e => e
  have kept : v.cph.slots = u.cph.slots := rfl
  rw [State.slot, (State.event_touches w 147).cph rfl, cleared, kept]
  exact erased

end Sys2Proof.Machine

/-!
SUPPORT. The tamper inputs, the tamper erase and the wake timer (R120 to R123).
-/
namespace Sys2Proof.Machine

/-! ### Counters and causes -/

/-- A saturating counter takes what is added, up to its largest value. -/
theorem State.satAdd_get (s : State) {cnt ovf : Fld} (n : Nat) (hc : cnt.lo + cnt.width ≤ 32) (hd : ovf.disjoint cnt = true) :
    (s.satAdd cnt ovf n).get cnt = min (s.get cnt + n) (2 ^ cnt.width - 1) := by
  have pos : 0 < 2 ^ cnt.width := Nat.two_pow_pos _
  unfold State.satAdd
  split
  · next room => rw [State.get_put_same _ _ _ hc, Nat.mod_eq_of_lt room]; omega
  · next full =>
    have kept := (s.put cnt (2 ^ cnt.width - 1)).get_put_disjoint ovf cnt 1 hc hd
    rw [State.set, kept, State.get_put_same _ _ _ hc, Nat.mod_eq_of_lt (by omega)]
    omega

/-- The registers that a saturating counter does not lie in read as before. -/
theorem State.satInc_word_ne (s : State) {cnt ovf : Fld} {a : Nat} (hc : a ≠ cnt.addr) (ho : a ≠ ovf.addr) :
    (s.satInc cnt ovf).word a = s.word a := by
  unfold State.satInc State.satAdd
  split
  · exact State.word_put_ne _ _ _ _ hc
  · exact (State.word_put_ne _ _ _ _ ho).trans (State.word_put_ne _ _ _ _ hc)

/-- A cause that becomes present is recorded. -/
theorem State.wakeCause_present (s : State) {i : Nat} (h : i < 4) : (s.wakeCause i).pwr.causes.getLsbD i = true := by
  show (s.pwr.causes ||| (1#4 <<< i)).getLsbD i = true
  rw [BitVec.getLsbD_or, Bool.or_eq_true]
  refine .inr ?_
  have own : ∀ j : Fin 4, (1#4 <<< j.val).getLsbD j.val = true := by decide
  exact own ⟨i, h⟩

/-! ### Tamper inputs -/

/-- Tamper input `n` is enabled, and asks for an erase. -/
def State.tamperEnabled (s : State) (n : Nat) : Prop := bitsOf (s.word WCH_TAMPER_CFG) (8 * n + 7) 1 = 1

def State.tamperErases (s : State) (n : Nat) : Prop := bitsOf (s.word WCH_TAMPER_CFG) (8 * n + 5) 1 = 1

/-- The status bit of tamper input `n` and its count. -/
def tamperStatus (n : Nat) : Fld := ⟨WCH_STATUS, n, 1⟩

def tamperCount (n : Nat) : Fld := ⟨WCH_TAMPER_COUNT, 8 * n, 7⟩

/-- What the event of an enabled input records: status bit, count and entry. -/
def State.tamperNoted (s : State) (n : Nat) : State :=
  let s := (s.set (tamperStatus n)).satInc (tamperCount n) ⟨WCH_TAMPER_COUNT, 8 * n + 7, 1⟩
  s.watchLog 0x0108 n (s.get (tamperCount n))

/-- What it wakes. -/
def State.tamperWakes (s : State) : State :=
  s.iff ((s.dev == .watch || s.dev == .draining) && s.bit PWR_WAKE_CFG_TAMPER) (·.wakeCause 3)

/-- The event of an enabled input. -/
theorem State.tamperEvent_enabled {s : State} {n : Nat} (h : s.tamperEnabled n) :
    s.tamperEvent n = (s.tamperNoted n).tamperWakes.iff
      (bitsOf ((s.tamperNoted n).tamperWakes.word WCH_TAMPER_CFG) (8 * n + 5) 1 == 1) fun s => s.withWch { s.wch with erase := true } :=
  if_neg (by rw [h]; decide)

/-- The event of a disabled input does nothing. -/
theorem State.tamperEvent_disabled {s : State} {n : Nat} (h : bitsOf (s.word WCH_TAMPER_CFG) (8 * n + 7) 1 = 0) : s.tamperEvent n = s :=
  if_pos h

theorem State.tamperNoted_touches (s : State) (n : Nat) : Touches 130 s (s.tamperNoted n) :=
  Touches.seq (State.watchLog_touches ..) rfl (Touches.seq (State.satInc_touches ..) rfl
    (Touches.mono (State.set_touches s (tamperStatus n)) rfl))

theorem State.tamperNoted_wch (s : State) (n : Nat) :
    ∃ q next, (s.tamperNoted n).wch = { s.wch with logq := q, logNext := next } := by
  obtain ⟨q, next, e⟩ := ((s.set (tamperStatus n)).satInc (tamperCount n) ⟨WCH_TAMPER_COUNT, 8 * n + 7, 1⟩).watchLog_wch 0x0108 n
    (State.get _ (tamperCount n))
  refine ⟨q, next, e.trans ?_⟩
  rw [(State.satInc_touches (s.set (tamperStatus n)) _ _).wch rfl, State.set_wch]

/-- It writes the inputs' status and counts, and the log's count of lost entries. -/
theorem State.tamperNoted_word (s : State) (n : Nat) {a : Nat} (low : a < 0x40188000) (hs : a ≠ WCH_STATUS) (hc : a ≠ WCH_TAMPER_COUNT) :
    (s.tamperNoted n).word a = s.word a :=
  ((State.watchLog_low ..).word a low).trans ((State.satInc_word_ne _ hc hc).trans (State.word_put_ne _ _ _ _ hs))

theorem State.tamperNoted_status (s : State) {n : Nat} (h : n < 4) : (s.tamperNoted n).get (tamperStatus n) = 1 := by
  have width : (tamperStatus n).lo + (tamperStatus n).width ≤ 32 := by show n + 1 ≤ 32; omega
  unfold State.tamperNoted
  rw [State.get_of_word (f := tamperStatus n) ((State.watchLog_low ..).word _ (by show WCH_STATUS < _; decide)),
    State.get_of_word (f := tamperStatus n) (State.satInc_word_ne _ (by show WCH_STATUS ≠ WCH_TAMPER_COUNT; decide)
      (by show WCH_STATUS ≠ WCH_TAMPER_COUNT; decide)), State.set, State.get_put_same _ _ _ width]
  rfl

theorem State.tamperNoted_count (s : State) {n : Nat} (h : n < 4) :
    (s.tamperNoted n).get (tamperCount n) = min (s.get (tamperCount n) + 1) 127 := by
  have width : (tamperCount n).lo + (tamperCount n).width ≤ 32 := by show 8 * n + 7 ≤ 32; omega
  have apart : ∀ m : Fin 4, Fld.disjoint ⟨WCH_TAMPER_COUNT, 8 * m.val + 7, 1⟩ (tamperCount m.val) = true := by decide
  unfold State.tamperNoted
  rw [State.get_of_word (f := tamperCount n) ((State.watchLog_low ..).word _ (by show WCH_TAMPER_COUNT < _; decide)), State.satInc,
    State.satAdd_get _ _ width (apart ⟨n, h⟩), State.set,
    State.get_put_ne _ _ _ _ (by show WCH_TAMPER_COUNT ≠ WCH_STATUS; decide)]
  rfl

theorem State.tamperWakes_touches (s : State) : Touches 64 s s.tamperWakes :=
  Touches.iff (Touches.refl _ s) fun _ h => h.upd_pwr rfl _

/-- What is asked of the erase is what the input's configuration says. -/
theorem State.tamperEvent_asks {s : State} {n : Nat} (h : s.tamperEnabled n) :
    s.tamperEvent n = (s.tamperNoted n).tamperWakes.iff (bitsOf (s.word WCH_TAMPER_CFG) (8 * n + 5) 1 == 1)
      fun s => s.withWch { s.wch with erase := true } := by
  have cfg : (s.tamperNoted n).tamperWakes.word WCH_TAMPER_CFG = s.word WCH_TAMPER_CFG :=
    (congrArg (cellRead · WCH_TAMPER_CFG) ((State.tamperWakes_touches _).regs rfl)).trans
      (s.tamperNoted_word n (by decide) (by decide) (by decide))
  rw [State.tamperEvent_enabled h, cfg]

/-- In the Watch state and in a drain the event is a wake cause where TAMPER is enabled. -/
theorem State.tamperNoted_wakes {s : State} (n : Nat) (dev : s.dev = .watch ∨ s.dev = .draining) (cfg : s.bit PWR_WAKE_CFG_TAMPER = true) :
    (s.tamperNoted n).tamperWakes.pwr.causes.getLsbD 3 = true := by
  have still : (s.tamperNoted n).dev = s.dev := (s.tamperNoted_touches n).dev rfl
  have enabled : (s.tamperNoted n).bit PWR_WAKE_CFG_TAMPER = true :=
    (State.bit_of_word (f := PWR_WAKE_CFG_TAMPER) (s.tamperNoted_word n (by decide) (by decide) (by decide))).trans cfg
  have awake : (s.tamperNoted n).tamperWakes = (s.tamperNoted n).wakeCause 3 := by
    rw [State.tamperWakes, still, enabled]
    rcases dev with e | e <;> rw [e] <;> rfl
  rw [awake]
  exact State.wakeCause_present _ (by decide)

/-- In Off it wakes nothing (R141). -/
theorem State.tamperNoted_off {s : State} (n : Nat) (off : s.dev = .off) : (s.tamperNoted n).tamperWakes.pwr = s.pwr := by
  have still : (s.tamperNoted n).dev = .off := ((s.tamperNoted_touches n).dev rfl).trans off
  have asleep : (s.tamperNoted n).tamperWakes = s.tamperNoted n := by rw [State.tamperWakes, still]; rfl
  rw [asleep, (s.tamperNoted_touches n).pwr rfl]

theorem exec_tamperEvent (n : Fin 4) (s : State) :
    exec (.tamperEvent n) s = actAll (·.onWatch fun s => (s.tamperEvent n.val).tamperErase) s := rfl

theorem exec_tamperErase (s : State) : exec .tamperErase s = actAll (·.onWatch (·.tamperErase)) s := rfl

/-- No erase is carried out that was not asked for. -/
theorem State.tamperErase_unasked {s : State} (h : s.wch.erase = false) : s.tamperErase = s :=
  if_neg (by rw [h, Bool.false_and, Bool.false_and]; decide)

/-- In Off the security domain has no power for the erase. -/
theorem State.tamperErase_off {s : State} (h : s.dev = .off) : s.tamperErase = s :=
  if_neg (by rw [h, show (DevState.off != .off) = false by decide, Bool.and_false, Bool.false_and]; decide)

/-- An enabled input that asks for no erase. -/
theorem gives_tamperEvent_noted {s : State} (n : Fin 4) (up : s.wch.up = true) (on : s.tamperEnabled n.val)
    (keep : bitsOf (s.word WCH_TAMPER_CFG) (8 * n.val + 5) 1 = 0) (idle : s.wch.erase = false) :
    Gives (.tamperEvent n) s fun t => bitsOf (t.word WCH_STATUS) n.val 1 = 1 ∧
      bitsOf (t.word WCH_TAMPER_COUNT) (8 * n.val) 7 = min (bitsOf (s.word WCH_TAMPER_COUNT) (8 * n.val) 7 + 1) 127 ∧ t.wch.erase = false ∧
      ((s.dev = .watch ∨ s.dev = .draining) → s.bit PWR_WAKE_CFG_TAMPER = true → t.pwr.causes.getLsbD 3 = true) := by
  have on' : (s.withOut []).tamperEnabled n.val := on
  have keep' : bitsOf ((s.withOut []).word WCH_TAMPER_CFG) (8 * n.val + 5) 1 = 0 := keep
  have noted : (s.withOut []).tamperEvent n.val = ((s.withOut []).tamperNoted n.val).tamperWakes := by
    rw [State.tamperEvent_asks on', keep']
    rfl
  have wakes := ((s.withOut []).tamperNoted n.val).tamperWakes_touches
  have quiet : ((s.withOut []).tamperNoted n.val).tamperWakes.wch.erase = false := by
    obtain ⟨q, next, e⟩ := (s.withOut []).tamperNoted_wch n.val
    rw [wakes.wch rfl, e]
    exact idle
  refine gives_onWatchAll (exec_tamperEvent n s) up ?_
  rw [noted, State.tamperErase_unasked quiet, State.refresh_settle_word _ (by decide) (by decide),
    State.refresh_settle_word _ (by decide) (by decide), State.settle_wch, State.refresh_wch, State.settle_pwr, State.refresh_pwr]
  have word : ∀ a, (State.tamperWakes (State.tamperNoted (s.withOut []) n.val)).word a = ((s.withOut []).tamperNoted n.val).word a :=
    fun a => congrArg (cellRead · a) (wakes.regs rfl)
  rw [word, word]
  exact ⟨State.tamperNoted_status _ n.isLt, State.tamperNoted_count _ n.isLt, quiet, fun dev cfg =>
    State.tamperNoted_wakes (s := s.withOut []) n.val dev cfg⟩

/-- A disabled input. -/
theorem gives_tamperEvent_disabled {s : State} (n : Fin 4) (up : s.wch.up = true)
    (off : bitsOf (s.word WCH_TAMPER_CFG) (8 * n.val + 7) 1 = 0) (idle : s.wch.erase = false) :
    Gives (.tamperEvent n) s fun t => t.wch = s.wch ∧ t.pwr = s.pwr ∧ t.word WCH_TAMPER_COUNT = s.word WCH_TAMPER_COUNT := by
  have off' : bitsOf ((s.withOut []).word WCH_TAMPER_CFG) (8 * n.val + 7) 1 = 0 := off
  have idle' : (s.withOut []).wch.erase = false := idle
  refine gives_onWatchAll (exec_tamperEvent n s) up ?_
  rw [State.tamperEvent_disabled off', State.tamperErase_unasked idle', State.refresh_settle_word _ (by decide) (by decide),
    State.settle_wch, State.refresh_wch, State.settle_pwr, State.refresh_pwr]
  exact ⟨rfl, rfl, rfl⟩

/-- An enabled input that asks for an erase, in Off: the erase waits. -/
theorem gives_tamperEvent_asked {s : State} (n : Fin 4) (up : s.wch.up = true) (on : s.tamperEnabled n.val)
    (asks : s.tamperErases n.val) (off : s.dev = .off) :
    Gives (.tamperEvent n) s fun t => t.wch.erase = true ∧ t.pwr = s.pwr := by
  have on' : (s.withOut []).tamperEnabled n.val := on
  have asks' : bitsOf ((s.withOut []).word WCH_TAMPER_CFG) (8 * n.val + 5) 1 = 1 := asks
  have asked : (s.withOut []).tamperEvent n.val = ((s.withOut []).tamperNoted n.val).tamperWakes.withWch
      { ((s.withOut []).tamperNoted n.val).tamperWakes.wch with erase := true } := by
    rw [State.tamperEvent_asks on', asks']
    rfl
  have still : ((s.withOut []).tamperEvent n.val).dev = .off := ((State.tamperEvent_touches ..).dev rfl).trans off
  refine gives_onWatchAll (exec_tamperEvent n s) up ?_
  rw [State.tamperErase_off still, State.settle_wch, State.refresh_wch, State.settle_pwr, State.refresh_pwr, asked, State.withWch_wch,
    State.withWch_pwr]
  exact ⟨rfl, State.tamperNoted_off (s := s.withOut []) n.val off⟩

/-! ### The tamper erase -/

/-- The erase done: no longer asked for, and its entry made. -/
def State.eraseLogged (s : State) (n : Nat) : State := (s.withWch { s.wch with erase := false }).watchLog 0x0109 0 n

theorem State.eraseLogged_touches (s : State) (n : Nat) : Touches 130 s (s.eraseLogged n) :=
  Touches.seq (State.watchLog_touches ..) rfl ((Touches.refl _ s).upd_wch rfl _)

theorem State.eraseLogged_erase (s : State) (n : Nat) : (s.eraseLogged n).wch.erase = false := by
  obtain ⟨q, next, e⟩ := (s.withWch { s.wch with erase := false }).watchLog_wch 0x0109 0 n
  rw [State.eraseLogged, e]
  rfl

theorem State.eraseLogged_logq {s : State} (n : Nat) (room : s.wch.logq.length < 4) :
    (s.eraseLogged n).wch.logq = queueEntry s.wch.logq (s.watchItem 0x0109 0 n) :=
  State.watchLog_logq (s := s.withWch { s.wch with erase := false }) _ _ _ room

/-- The erase is carried out while the load controller runs. -/
theorem State.tamperErase_loading {s : State} (asked : s.wch.erase = true) (dev : s.dev = .loading) :
    s.tamperErase = s.cphZeroize.eraseLogged s.slotsValid :=
  if_pos (by rw [asked, dev]; rfl)

/-- In the Watch state it waits for the wake's step that powers the security domain. -/
theorem State.tamperErase_watch {s : State} (dev : s.dev = .watch) (wake : s.pwr.wake < 2) : s.tamperErase = s :=
  if_neg (by rw [dev, decide_eq_false (Nat.not_le.mpr wake), show (DevState.watch != .watch) = false by decide, Bool.or_self,
    Bool.and_false]; decide)

/-- Zeroization leaves what an entry of the log holds. -/
theorem State.cphZeroize_item (s : State) (code inst detail : Nat) :
    s.cphZeroize.watchItem code inst detail = s.watchItem code inst detail := by
  have zero := s.cphZeroize_touches
  have wch := zero.wch rfl
  have status := s.cphZeroize_low.word WCH_STATUS (by decide)
  exact State.watchItem_congr (s := s) (t := s.cphZeroize) (congrArg (·.aSec) wch) (congrArg (·.aNs) wch) (congrArg (·.logNext) wch)
    (zero.now rfl) (zero.dev rfl) (State.bit_of_word status) (State.get_of_word status) code inst detail

/-- The erase while the load controller runs: all slots erased, and its entry waits with the number of those that were VALID. -/
theorem gives_tamperErase_loading {s : State} (up : s.wch.up = true) (asked : s.wch.erase = true) (dev : s.dev = .loading) :
    Gives .tamperErase s fun t => t.wch.erase = false ∧ (∀ k, k < 64 → t.slot k = Slot.erased) ∧
      (s.wch.logq.length < 4 → t.wch.logq = queueEntry s.wch.logq (s.watchItem 0x0109 0 s.slotsValid)) := by
  have carried := State.tamperErase_loading (s := s.withOut []) asked dev
  have zero := (s.withOut []).cphZeroize_touches
  have logged := (s.withOut []).cphZeroize.eraseLogged_touches (s.withOut []).slotsValid
  have still : ((s.withOut []).cphZeroize.eraseLogged (s.withOut []).slotsValid).dev ≠ .draining := by
    rw [logged.dev rfl, zero.dev rfl, State.withOut_dev, dev]
    decide
  have queue : (s.withOut []).cphZeroize.wch.logq = s.wch.logq := congrArg (·.logq) (zero.wch rfl)
  refine gives_onWatchAll (exec_tamperErase s) up ?_
  rw [carried, State.settle_wch, State.refresh_wch]
  refine ⟨State.eraseLogged_erase _ _, fun k h => ?_, fun room => ?_⟩
  · rw [State.slot, State.settle_cph, (State.refresh_steady_touches _ still).cph rfl, logged.cph rfl]
    exact (s.withOut []).cphZeroize_slot h
  · rw [State.eraseLogged_logq _ (by rw [queue]; exact room), queue, State.cphZeroize_item]
    rfl

/-- The erase in the Watch state before the security domain has power. -/
theorem gives_tamperErase_watch {s : State} (up : s.wch.up = true) (asked : s.wch.erase = true) (dev : s.dev = .watch)
    (wake : s.pwr.wake < 2) : Gives .tamperErase s fun t => t.wch.erase = true := by
  refine gives_onWatchAll (exec_tamperErase s) up ?_
  rw [State.tamperErase_watch (s := s.withOut []) dev wake, State.settle_wch, State.refresh_wch]
  exact asked

/-! ### The wake timer -/

theorem exec_wakeTimerWrite (a : Acc) (v : Word) (s : State) :
    exec (.wakeTimerWrite a v) s = actAll (·.regWrite a WCH_WAKE_TIMER v) s := rfl

theorem exec_wakeTimerExpiry (s : State) : exec .wakeTimerExpiry s = act (·.onWatch (·.timerExpiry)) s := rfl

theorem rowOf_WCH_WAKE_TIMER : rowOf WCH_WAKE_TIMER = some ⟨WCH_WAKE_TIMER, [], 0xFFFFFFFF#32, 0, 0, 0, 0, 0, .set 0x3FFF⟩ := rfl

/-- The wake timer stores any value. -/
theorem limited_WCH_WAKE_TIMER (touched v : Word) : limited WCH_WAKE_TIMER touched v = v := by
  have free : limitsOf WCH_WAKE_TIMER = [] := rfl
  rw [limited, free, List.foldl_nil]

/-- A store in the plain windows, of any bit, puts what `stored` says and starts what the register starts. -/
theorem plainBlock.store_eq {a : Nat} (h : plainBlock a) (s : State) {r : RegRow} {sm : Word} (some : sm ≠ 0) (closed v : Word) :
    s.store r a sm closed v = (s.putWord a (s.stored r a sm closed v)).written a (v &&& sm) (s.word a) := by
  have view : s.writeView a = s.word a := by simp only [State.writeView, h.coefAt]
  have held : ∀ y : Word, y ||| 0 = y := fun _ => BitVec.or_zero
  simp only [State.store, some, if_false, h.coefAt, h.heldWo, Bool.false_eq_true, held, view, State.stored]

/-- What a write of the wake timer starts: its unit anew (R123). -/
theorem State.written_WCH_WAKE_TIMER (s : State) (w old : Word) :
    s.written WCH_WAKE_TIMER w old = s.withWch { s.wch with timerPre := 0, timerAt := s.now + 1 } := rfl

/-- A whole write of the wake timer loads it. -/
theorem State.regWrite_wakeTimer {s : State} {acc : Acc} (v : Word) (h : s.commandOk acc WCH_WAKE_TIMER = true) :
    s.regWrite acc WCH_WAKE_TIMER v =
      ((s.putWord WCH_WAKE_TIMER v).withWch { s.wch with timerPre := 0, timerAt := s.now + 1 }).complete acc.master.val 0 0 := by
  have plain : plainBlock WCH_WAKE_TIMER := .inl rfl
  obtain ⟨may, whole⟩ := State.mayStore_of_commandOk h rowOf_WCH_WAKE_TIMER rfl (by decide) (by decide)
  have closed : s.closedBits ⟨WCH_WAKE_TIMER, [], 0xFFFFFFFF#32, 0, 0, 0, 0, 0, .set 0x3FFF⟩ WCH_WAKE_TIMER = 0 := BitVec.zero_and
  have hhit : strobed acc.strobe &&& s.closedBits ⟨WCH_WAKE_TIMER, [], 0xFFFFFFFF#32, 0, 0, 0, 0, 0, .set 0x3FFF⟩ WCH_WAKE_TIMER &&&
      (v ^^^ s.writeView WCH_WAKE_TIMER) = 0 := by
    rw [closed]
    exact (congrArg (· &&& _) BitVec.and_zero).trans BitVec.zero_and
  rw [State.regWrite_of_mayStore may, s.liveWrite_stores _ _ hhit (plain.writeDropped s), whole, strobed_all, closed,
    plain.store_eq s (by decide), plain.stored_all_rw s rfl rfl rfl, limited_WCH_WAKE_TIMER, State.written_WCH_WAKE_TIMER]
  rfl

/-- A write loads the timer and starts its unit anew. -/
theorem gives_wakeTimerWrite {s : State} {a : Acc} (v : Word) (h : s.commandOk a WCH_WAKE_TIMER = true) :
    Gives (.wakeTimerWrite a v) s fun t => t.word WCH_WAKE_TIMER = v ∧ t.wch.timerPre = 0 := by
  refine gives_actAll (exec_wakeTimerWrite a v s) ?_
  rw [State.regWrite_wakeTimer (s := s.withOut []) v h, State.refresh_settle_word _ (by decide) (by decide), State.settle_wch,
    State.refresh_wch]
  exact ⟨State.word_putWord_same .., rfl⟩

/-- What the timer records as it reaches 0: count, status bit, entry, unit. -/
def State.timerRaised (s : State) : State :=
  let s := ((s.clr WCH_WAKE_TIMER_COUNT).set WCH_STATUS_TIMER).watchLog 0x010A 0 0
  s.withWch { s.wch with timerPre := 0 }

/-- What it wakes. -/
def State.timerWakes (s : State) : State :=
  s.iff ((s.dev == .watch || s.dev == .draining) && s.bit PWR_WAKE_CFG_TIMER) (·.wakeCause 2)

/-- The timer that runs reaches 0. -/
theorem State.timerExpiry_running {s : State} (count : s.get WCH_WAKE_TIMER_COUNT ≠ 0) (xtal : s.bit WCH_STATUS_XTAL_OK = true)
    (unwritten : s.wch.timerAt ≠ s.now + 1) : s.timerExpiry = s.timerRaised.timerWakes :=
  if_pos (by simp only [State.xtalOk, xtal, bne_iff_ne.mpr unwritten, decide_eq_true count, Bool.and_self])

/-- A write in the same tick wins (R145). -/
theorem State.timerExpiry_written {s : State} (written : s.wch.timerAt = s.now + 1) : s.timerExpiry = s :=
  if_neg (by simp only [written, bne_self_eq_false, Bool.and_false, Bool.false_eq_true, not_false_eq_true])

theorem State.timerRaised_touches (s : State) : Touches 130 s s.timerRaised :=
  Touches.upd_wch rfl (Touches.seq (State.watchLog_touches ..) rfl (Touches.seq (State.set_touches ..) rfl
    (Touches.mono (State.clr_touches s WCH_WAKE_TIMER_COUNT) rfl))) _

/-- Below the log's registers it writes the timer and WCH_STATUS. -/
theorem State.timerRaised_word (s : State) {a : Nat} (low : a < 0x40188000) :
    s.timerRaised.word a = ((s.clr WCH_WAKE_TIMER_COUNT).set WCH_STATUS_TIMER).word a :=
  (State.watchLog_low _ 0x010A 0 0).word a low

theorem State.timerRaised_count (s : State) : s.timerRaised.get WCH_WAKE_TIMER_COUNT = 0 := by
  rw [State.get_of_word (f := WCH_WAKE_TIMER_COUNT) (s.timerRaised_word (by decide)), State.set,
    State.get_put_ne _ _ _ _ (by decide), State.clr, State.get_put_same _ _ _ (by decide)]
  rfl

theorem State.timerRaised_status (s : State) : s.timerRaised.bit WCH_STATUS_TIMER = true := by
  rw [State.bit_of_word (f := WCH_STATUS_TIMER) (s.timerRaised_word (by decide))]
  exact State.bit_set_same _ _ (by decide) (by decide)

theorem State.timerWakes_touches (s : State) : Touches 64 s s.timerWakes :=
  Touches.iff (Touches.refl _ s) fun _ h => h.upd_pwr rfl _

/-- In the Watch state the expiry is a wake cause where TIMER is enabled. -/
theorem State.timerRaised_wakes {s : State} (dev : s.dev = .watch) (cfg : s.bit PWR_WAKE_CFG_TIMER = true) :
    s.timerRaised.timerWakes.pwr.causes.getLsbD 2 = true := by
  have enabled : s.timerRaised.bit PWR_WAKE_CFG_TIMER = true := by
    have word : s.timerRaised.word PWR_WAKE_CFG = s.word PWR_WAKE_CFG := (s.timerRaised_word (by decide)).trans
      ((State.word_put_ne _ _ _ _ (by decide)).trans (State.word_put_ne _ _ _ _ (by decide)))
    exact (State.bit_of_word (f := PWR_WAKE_CFG_TIMER) word).trans cfg
  have awake : s.timerRaised.timerWakes = s.timerRaised.wakeCause 2 := by
    rw [State.timerWakes, s.timerRaised_touches.dev rfl, dev, enabled]
    rfl
  rw [awake]
  exact State.wakeCause_present _ (by decide)

/-- In Off it wakes nothing (R141). -/
theorem State.timerRaised_off {s : State} (off : s.dev = .off) : s.timerRaised.timerWakes.pwr = s.pwr := by
  have asleep : s.timerRaised.timerWakes = s.timerRaised := by rw [State.timerWakes, s.timerRaised_touches.dev rfl, off]; rfl
  rw [asleep, s.timerRaised_touches.pwr rfl]

/-- An expiry in the tick of a write. -/
theorem gives_wakeTimerExpiry_written {s : State} (up : s.wch.up = true) (written : s.wch.timerAt = s.now + 1) :
    Gives .wakeTimerExpiry s fun t => t.wch = s.wch ∧ t.get WCH_WAKE_TIMER_COUNT = s.get WCH_WAKE_TIMER_COUNT ∧ t.pwr = s.pwr := by
  refine gives_onWatch (exec_wakeTimerExpiry s) up ?_
  rw [State.timerExpiry_written (s := s.withOut []) written, State.settle_wch, State.settle_get_pwr _ (by decide), State.settle_pwr]
  exact ⟨rfl, rfl, rfl⟩

/-- An expiry of the timer that runs. -/
theorem gives_wakeTimerExpiry_running {s : State} (up : s.wch.up = true) (count : s.get WCH_WAKE_TIMER_COUNT ≠ 0)
    (xtal : s.bit WCH_STATUS_XTAL_OK = true) (unwritten : s.wch.timerAt ≠ s.now + 1) :
    Gives .wakeTimerExpiry s fun t => t.get WCH_WAKE_TIMER_COUNT = 0 ∧ t.bit WCH_STATUS_TIMER = true ∧ t.lineLevel 9 = true ∧
      (s.dev = .watch → s.bit PWR_WAKE_CFG_TIMER = true → t.pwr.causes.getLsbD 2 = true) ∧ (s.dev = .off → t.pwr = s.pwr) := by
  have word : ∀ a, (s.withOut []).timerRaised.timerWakes.word a = (s.withOut []).timerRaised.word a :=
    fun a => congrArg (cellRead · a) ((State.timerWakes_touches _).regs rfl)
  have raised : (s.withOut []).timerRaised.timerWakes.bit WCH_STATUS_TIMER = true :=
    (State.bit_of_word (word _)).trans (State.timerRaised_status _)
  refine gives_onWatch (exec_wakeTimerExpiry s) up ?_
  rw [State.timerExpiry_running (s := s.withOut []) count xtal unwritten, State.lineLevel_timer, State.settle_get_pwr _ (by decide),
    State.settle_bit_pwr _ (by decide), State.settle_pwr, State.get_of_word (f := WCH_WAKE_TIMER_COUNT) (word _)]
  exact ⟨State.timerRaised_count _, raised, raised, fun dev cfg => State.timerRaised_wakes (s := s.withOut []) dev cfg,
    fun off => State.timerRaised_off (s := s.withOut []) off⟩

/-- Settles O24: an input's event records what it is and wakes or asks as configured; the erase runs through every slot; the timer's expiry
gives way to a write. -/
theorem tamperAndWakeTimer : Obligations.TamperAndWakeTimer := by
  refine ⟨fun s up => ⟨?_, ?_, ?_, ?_, ?_⟩, fun s up => ⟨?_, ?_, ?_⟩⟩
  · exact fun n on keep idle => gives_tamperEvent_noted n up on keep idle
  · exact fun n off idle => gives_tamperEvent_disabled n up off idle
  · exact fun n on asks off => gives_tamperEvent_asked n up on asks off
  · exact fun asked dev => gives_tamperErase_loading up asked dev
  · exact fun asked dev wake => gives_tamperErase_watch up asked dev wake
  · exact fun a v h => gives_wakeTimerWrite v h
  · exact fun written => gives_wakeTimerExpiry_written up written
  · exact fun count xtal unwritten => gives_wakeTimerExpiry_running up count xtal unwritten

end Sys2Proof.Machine

/-!
SUPPORT. The load up to its records (R149 to R164): discovery, HEADER, chunks, and what an error of either image leaves (R187, R188).
-/
namespace Sys2Proof.Machine

/-! ### An error is recorded -/

/-- The CODE field of an image's error register. -/
def errCode (golden : Bool) : Fld := if golden then CFG_ERR_GOLDEN_CODE else CFG_ERR_PRIMARY_CODE

/-- An image's error register written. -/
def State.errNoted (s : State) (golden : Bool) (code detail : Nat) : State :=
  if golden then (s.put CFG_ERR_GOLDEN_CODE code).put CFG_ERR_GOLDEN_DETAIL detail
  else (s.put CFG_ERR_PRIMARY_CODE code).put CFG_ERR_PRIMARY_DETAIL detail

theorem State.loadError_eq (s : State) (golden : Bool) (code detail : Nat) : s.loadError golden code detail =
    ((s.errNoted golden code detail).set CFG_STATUS_ERR).blockLog (0x300 + code) 3 (if golden then 1 else 0) detail := rfl

/-- Below the log's registers an error writes the image's error register and CFG_STATUS. -/
theorem State.loadError_word (s : State) (golden : Bool) (code detail : Nat) {a : Nat} (low : a < 0x40110000) :
    (s.loadError golden code detail).word a = ((s.errNoted golden code detail).set CFG_STATUS_ERR).word a :=
  (State.blockLog_low ..).word a low

/-- The image's error register holds the code. -/
theorem State.loadError_code (s : State) (golden : Bool) {code : Nat} (detail : Nat) (small : code < 256) :
    (s.loadError golden code detail).get (errCode golden) = code := by
  cases golden
  case false =>
    refine (State.get_of_word (f := CFG_ERR_PRIMARY_CODE) (s.loadError_word _ _ _ (by decide))).trans ?_
    refine (State.get_put_ne _ CFG_STATUS_ERR CFG_ERR_PRIMARY_CODE 1 (by decide)).trans ?_
    refine (State.get_put_disjoint _ CFG_ERR_PRIMARY_DETAIL CFG_ERR_PRIMARY_CODE _ (by decide) (by decide)).trans ?_
    exact (State.get_put_same s CFG_ERR_PRIMARY_CODE code (by decide)).trans (Nat.mod_eq_of_lt small)
  case true =>
    refine (State.get_of_word (f := CFG_ERR_GOLDEN_CODE) (s.loadError_word _ _ _ (by decide))).trans ?_
    refine (State.get_put_ne _ CFG_STATUS_ERR CFG_ERR_GOLDEN_CODE 1 (by decide)).trans ?_
    refine (State.get_put_disjoint _ CFG_ERR_GOLDEN_DETAIL CFG_ERR_GOLDEN_CODE _ (by decide) (by decide)).trans ?_
    exact (State.get_put_same s CFG_ERR_GOLDEN_CODE code (by decide)).trans (Nat.mod_eq_of_lt small)

/-- The golden image's error leaves the primary image's. -/
theorem State.loadError_golden_primary (s : State) (code detail : Nat) :
    (s.loadError true code detail).get CFG_ERR_PRIMARY_CODE = s.get CFG_ERR_PRIMARY_CODE :=
  (State.get_of_word (s.loadError_word _ _ _ (by decide))).trans <|
    (State.get_put_ne _ CFG_STATUS_ERR _ 1 (by decide)).trans <|
      (State.get_put_ne _ CFG_ERR_GOLDEN_DETAIL _ _ (by decide)).trans (State.get_put_ne s CFG_ERR_GOLDEN_CODE _ _ (by decide))

/-- An error sets ERR. -/
theorem State.loadError_err (s : State) (golden : Bool) (code detail : Nat) :
    (s.loadError golden code detail).bit CFG_STATUS_ERR = true :=
  (State.bit_of_word (s.loadError_word _ _ _ (by decide))).trans (State.bit_set_same _ _ (by decide) (by decide))

/-- The other fields of CFG_STATUS stay. -/
theorem State.loadError_status (s : State) (golden : Bool) (code detail : Nat) {f : Fld} (on : f.addr = CFG_STATUS)
    (fits : f.lo + f.width ≤ 32) (other : CFG_STATUS_ERR.disjoint f = true) :
    (s.loadError golden code detail).get f = s.get f := by
  have noted : (s.errNoted golden code detail).get f = s.get f := by
    cases golden
    · exact (State.get_put_ne _ CFG_ERR_PRIMARY_DETAIL f _ (by rw [on]; decide)).trans
        (State.get_put_ne s CFG_ERR_PRIMARY_CODE f _ (by rw [on]; decide))
    · exact (State.get_put_ne _ CFG_ERR_GOLDEN_DETAIL f _ (by rw [on]; decide)).trans
        (State.get_put_ne s CFG_ERR_GOLDEN_CODE f _ (by rw [on]; decide))
  exact (State.get_of_word (s.loadError_word _ _ _ (by rw [on]; decide))).trans
    ((State.get_put_disjoint _ CFG_STATUS_ERR f 1 fits other).trans noted)

/-! ### The load halts -/

theorem State.loadHalt_dev (s : State) : s.loadHalt.dev = .halted := rfl

/-- Halting writes PWR_STATE and the phase alone. -/
theorem State.loadHalt_get (s : State) {f : Fld} (state : f.addr ≠ PWR_STATE) (fits : f.lo + f.width ≤ 32)
    (other : CFG_STATUS_PHASE.disjoint f = true) : s.loadHalt.get f = s.get f :=
  (State.get_put_disjoint (s.enter .halted) CFG_STATUS_PHASE f 5 fits other).trans
    (State.get_put_ne (s.withDev .halted) PWR_STATE_STATE f 2 state)

theorem State.loadHalt_err (s : State) : s.loadHalt.bit CFG_STATUS_ERR = s.bit CFG_STATUS_ERR :=
  congrArg (· != 0) (s.loadHalt_get (by decide) (by decide) (by decide))

/-- An error of the golden image halts the load (R188). -/
theorem State.loadError_golden_halt (s : State) {code : Nat} (detail : Nat) (small : code < 256) :
    (s.loadError true code detail).loadHalt.dev = .halted ∧ (s.loadError true code detail).loadHalt.bit CFG_STATUS_ERR = true ∧
      (s.loadError true code detail).loadHalt.get CFG_ERR_PRIMARY_CODE = s.get CFG_ERR_PRIMARY_CODE ∧
      (s.loadError true code detail).loadHalt.get CFG_ERR_GOLDEN_CODE = code :=
  ⟨State.loadHalt_dev _, (State.loadHalt_err _).trans (s.loadError_err true code detail),
    (State.loadHalt_get _ (by decide) (by decide) (by decide)).trans (s.loadError_golden_primary code detail),
    (State.loadHalt_get _ (by decide) (by decide) (by decide)).trans (s.loadError_code true detail small)⟩

/-! ### What an error of either image leaves (R187, R188) -/

/-- An error of the primary image before the end phase starts the golden image. -/
theorem State.loadFail_primary {s : State} (code detail : Nat) (primary : s.bit CFG_STATUS_GOLDEN = false)
    (phase : s.get CFG_STATUS_PHASE ≠ 3) :
    s.loadFail code detail = ((s.loadError false code detail).imageBegin true).put CFG_STATUS_PHASE 2 := by
  have before : ((s.loadError false code detail).get CFG_STATUS_PHASE == 3) = false := by
    rw [s.loadError_status false code detail rfl (by decide) (by decide)]
    exact beq_eq_false_iff_ne.mpr phase
  rw [State.loadFail, primary]
  simp only [before, State.iff_false, Bool.false_eq_true, if_false]

/-- An error of the golden image before the end phase halts the load. -/
theorem State.loadFail_golden {s : State} (code detail : Nat) (golden : s.bit CFG_STATUS_GOLDEN = true)
    (phase : s.get CFG_STATUS_PHASE ≠ 3) : s.loadFail code detail = (s.loadError true code detail).loadHalt := by
  have before : ((s.loadError true code detail).get CFG_STATUS_PHASE == 3) = false := by
    rw [s.loadError_status true code detail rfl (by decide) (by decide)]
    exact beq_eq_false_iff_ne.mpr phase
  rw [State.loadFail, golden]
  simp only [before, State.iff_false, if_true]

/-- The golden image is read from its HEADER on, after an error `code` of the primary image. -/
structure FellBack (code : Nat) (s t : State) : Prop where
  dev : t.dev = s.dev
  golden : t.bit CFG_STATUS_GOLDEN = true
  err : t.bit CFG_STATUS_ERR = true
  primary : t.get CFG_ERR_PRIMARY_CODE = code
  phase : t.get CFG_STATUS_PHASE = 2
  reader : t.load.reader = Reader.empty
  staged : t.load.staged = Staged.empty

theorem State.loadFail_fellBack {s : State} {code : Nat} (detail : Nat) (primary : s.bit CFG_STATUS_GOLDEN = false)
    (phase : s.get CFG_STATUS_PHASE ≠ 3) (small : code < 256) : FellBack code s (s.loadFail code detail) := by
  rw [State.loadFail_primary code detail primary phase]
  -- imageBegin sets GOLDEN, clears the golden image's error register and keeps the rest of CFG_STATUS.
  have begun : ∀ f : Fld, f.addr ≠ CFG_ERR_GOLDEN → f.lo + f.width ≤ 32 → CFG_STATUS_GOLDEN.disjoint f = true →
      ((s.loadError false code detail).imageBegin true).get f = (s.loadError false code detail).get f := fun f other fits apart =>
    (State.get_putWord_ne ((s.loadError false code detail).putB CFG_STATUS_GOLDEN true) CFG_ERR_GOLDEN 0 f other).trans
      (State.get_put_disjoint _ CFG_STATUS_GOLDEN f 1 fits apart)
  refine ⟨(s.loadError_touches false code detail).dev rfl, ?_, ?_, ?_, ?_, rfl, rfl⟩
  · refine (State.bit_put_disjoint _ CFG_STATUS_PHASE CFG_STATUS_GOLDEN 2 (by decide) (by decide)).trans ?_
    refine (congrArg (· != 0) (State.get_putWord_ne ((s.loadError false code detail).putB CFG_STATUS_GOLDEN true) CFG_ERR_GOLDEN 0
      CFG_STATUS_GOLDEN (by decide))).trans ?_
    exact State.bit_set_same _ CFG_STATUS_GOLDEN (by decide) (by decide)
  · refine (State.bit_put_disjoint _ CFG_STATUS_PHASE CFG_STATUS_ERR 2 (by decide) (by decide)).trans ?_
    exact (congrArg (· != 0) (begun CFG_STATUS_ERR (by decide) (by decide) (by decide))).trans (s.loadError_err false code detail)
  · refine (State.get_put_ne _ CFG_STATUS_PHASE CFG_ERR_PRIMARY_CODE 2 (by decide)).trans ?_
    exact (begun CFG_ERR_PRIMARY_CODE (by decide) (by decide) (by decide)).trans (s.loadError_code false detail small)
  · exact State.get_put_same _ CFG_STATUS_PHASE 2 (by decide)

/-- In phase `p`: loading, with no reload request. -/
theorem State.inPhase_iff (s : State) (p : Nat) :
    s.inPhase p = true ↔ s.dev = .loading ∧ s.get CFG_STATUS_PHASE = p ∧ s.pwr.reload = 0 := by
  simp only [State.inPhase, Bool.and_eq_true, beq_iff_eq, and_assoc]

/-- An error of the primary image, met while its records are read. -/
theorem gives_fellBack {c : Instr} {g : State → State} {s : State} {code detail : Nat} (e : exec c s = act g s)
    (effect : g (s.withOut []) = (s.withOut []).loadFail code detail) (phase : s.inPhase 2 = true)
    (primary : s.bit CFG_STATUS_GOLDEN = false) (small : code < 256) :
    Gives c s fun t => t.dev = .loading ∧ t.bit CFG_STATUS_GOLDEN = true ∧ t.bit CFG_STATUS_ERR = true ∧
      t.get CFG_ERR_PRIMARY_CODE = code ∧ t.load.reader = Reader.empty ∧ t.load.staged = Staged.empty := by
  obtain ⟨loading, records, -⟩ := (s.inPhase_iff 2).mp phase
  have fell := State.loadFail_fellBack (s := s.withOut []) (code := code) detail primary (by rw [State.withOut_get, records]; decide) small
  refine gives_act e ?_
  rw [effect, State.settle_dev, State.settle_load, State.settle_bit_pwr _ (by decide), State.settle_bit_pwr _ (by decide),
    State.settle_get_pwr _ (by decide)]
  exact ⟨fell.dev.trans loading, fell.golden, fell.err, fell.primary, fell.reader, fell.staged⟩

/-- A load that has halted with its errors recorded. -/
theorem gives_loadHalted {c : Instr} {g : State → State} {s u : State} {P : Nat → Nat → Prop} (e : exec c s = act g s)
    (effect : g (s.withOut []) = u) (halted : u.dev = .halted) (err : u.bit CFG_STATUS_ERR = true)
    (codes : P (u.get CFG_ERR_PRIMARY_CODE) (u.get CFG_ERR_GOLDEN_CODE)) :
    Gives c s fun t => t.dev = .halted ∧ t.bit CFG_STATUS_ERR = true ∧ P (t.get CFG_ERR_PRIMARY_CODE) (t.get CFG_ERR_GOLDEN_CODE) := by
  refine gives_act e ?_
  rw [effect, State.settle_dev, State.settle_bit_pwr _ (by decide), State.settle_get_pwr _ (by decide), State.settle_get_pwr _ (by decide)]
  exact ⟨halted, err, codes⟩

/-- An error of the golden image, met while its records are read. -/
theorem gives_goldenHalted {c : Instr} {g : State → State} {s : State} {code detail : Nat} (e : exec c s = act g s)
    (effect : g (s.withOut []) = (s.withOut []).loadFail code detail) (phase : s.inPhase 2 = true)
    (golden : s.bit CFG_STATUS_GOLDEN = true) (small : code < 256) :
    Gives c s fun t => t.dev = .halted ∧ t.bit CFG_STATUS_ERR = true ∧ t.get CFG_ERR_GOLDEN_CODE = code := by
  obtain ⟨-, records, -⟩ := (s.inPhase_iff 2).mp phase
  rw [State.loadFail_golden (s := s.withOut []) code detail golden (by rw [State.withOut_get, records]; decide)] at effect
  obtain ⟨halted, err, -, recorded⟩ := (s.withOut []).loadError_golden_halt detail small
  exact gives_loadHalted (P := fun _ x => x = code) e effect halted err recorded

/-! ### Discovery (R151 to R156) -/

/-- The memory is read in octal: MODE needs it, or allows it and SFDP lists it (R152, R153). -/
def State.octalRead (s : State) (f : Sfdp) : Bool := decide (s.modePins < 2) || (4 ≤ s.modePins && f.profile1.isSome && f.seq8d)

/-- What discovery finds: how the memory is read, and the phase of the records. -/
def State.discovered (s : State) (f : Sfdp) : State :=
  ((s.setLoad fun l => { l with read := nvmReadOf f (s.octalRead f), sector := f.sector }).putB CFG_STATUS_OCTAL (s.octalRead f)).put
    CFG_STATUS_PHASE 2

/-- With OSC_LOCAL_IN qualified and FPLL0 locked, discovery is a question of what SFDP lists. -/
theorem State.discovery_ready {s : State} (f : Sfdp) (phase : s.inPhase 1 = true) (osc : s.refOk 0 = true)
    (locked : s.bit (PLL_STATUS_LOCKED 0) = true) : s.discovery f =
      if !f.signature then s.loadErrorBoth 0x01 0
      else if decide (s.modePins < 2) && f.profile1.isNone then s.loadErrorBoth 0x16 1
      else if decide (s.modePins < 2) && !f.seq8d then s.loadErrorBoth 0x16 2
      else s.discovered f := by
  rw [State.discovery, phase, osc, locked]
  rfl

/-- SFDP gives what MODE needs. -/
theorem State.discovery_found {s : State} {f : Sfdp} (phase : s.inPhase 1 = true) (osc : s.refOk 0 = true)
    (locked : s.bit (PLL_STATUS_LOCKED 0) = true) (signed : f.signature = true)
    (tables : 2 ≤ s.modePins ∨ (f.profile1 ≠ none ∧ f.seq8d = true)) : s.discovery f = s.discovered f := by
  rw [State.discovery_ready f phase osc locked, signed]
  rcases tables with quad | ⟨listed, sequenced⟩
  · rw [decide_eq_false (Nat.not_lt.mpr quad)]
    rfl
  · have profile : f.profile1.isNone = false := Option.isNone_eq_false_iff.mpr (Option.isSome_iff_ne_none.mpr listed)
    rw [profile, sequenced, Bool.not_true, Bool.and_false]
    rfl

/-- SFDP lacks the octal tables that MODE needs. -/
theorem State.discovery_noTables {s : State} {f : Sfdp} (phase : s.inPhase 1 = true) (osc : s.refOk 0 = true)
    (locked : s.bit (PLL_STATUS_LOCKED 0) = true) (signed : f.signature = true) (octal : s.modePins < 2)
    (lacks : f.profile1 = none ∨ f.seq8d = false) : ∃ detail, s.discovery f = s.loadErrorBoth 0x16 detail := by
  rw [State.discovery_ready f phase osc locked, signed, decide_eq_true octal]
  cases listed : f.profile1
  case none => exact ⟨1, rfl⟩
  case some =>
    rw [lacks.resolve_left (by rw [listed]; exact Option.some_ne_none _)]
    exact ⟨2, rfl⟩

/-- An error of both images at once. -/
theorem gives_loadErrorBoth {c : Instr} {g : State → State} {s : State} {code detail : Nat} (e : exec c s = act g s)
    (effect : g (s.withOut []) = (s.withOut []).loadErrorBoth code detail) (small : code < 256) :
    Gives c s fun t => t.dev = .halted ∧ t.bit CFG_STATUS_ERR = true ∧ t.get CFG_ERR_PRIMARY_CODE = code ∧
      t.get CFG_ERR_GOLDEN_CODE = code := by
  obtain ⟨halted, err, kept, golden⟩ := ((s.withOut []).loadError false code detail).loadError_golden_halt detail small
  exact gives_loadHalted (P := fun x y => x = code ∧ y = code) e effect halted err
    ⟨kept.trans ((s.withOut []).loadError_code false detail small), golden⟩

theorem exec_nvmDiscovery (f : Sfdp) (s : State) : exec (.nvmDiscovery f) s = act (·.discovery f) s := rfl

/-- Discovery goes on to the image. -/
theorem gives_discovered {s : State} {f : Sfdp} (phase : s.inPhase 1 = true) (osc : s.refOk 0 = true)
    (locked : s.bit (PLL_STATUS_LOCKED 0) = true) (signed : f.signature = true)
    (tables : 2 ≤ s.modePins ∨ (f.profile1 ≠ none ∧ f.seq8d = true)) :
    Gives (.nvmDiscovery f) s fun t => t.dev = .loading ∧ t.get CFG_STATUS_PHASE = 2 ∧
      (s.modePins < 2 → t.bit CFG_STATUS_OCTAL = true) ∧
      t.load = { s.load with read := nvmReadOf f (t.bit CFG_STATUS_OCTAL), sector := f.sector } := by
  obtain ⟨loading, -, -⟩ := (s.inPhase_iff 1).mp phase
  have shown : ((s.withOut []).discovered f).bit CFG_STATUS_OCTAL = s.octalRead f := by
    refine (State.bit_put_disjoint _ CFG_STATUS_PHASE CFG_STATUS_OCTAL 2 (by decide) (by decide)).trans ?_
    have octal : (s.withOut []).octalRead f = s.octalRead f := rfl
    rw [octal]
    cases s.octalRead f
    · exact State.bit_clr_same _ CFG_STATUS_OCTAL (by decide)
    · exact State.bit_set_same _ CFG_STATUS_OCTAL (by decide) (by decide)
  refine gives_act (exec_nvmDiscovery f s) ?_
  rw [State.discovery_found (s := s.withOut []) phase osc locked signed tables, State.settle_dev, State.settle_load,
    State.settle_bit_pwr _ (by decide), State.settle_get_pwr _ (by decide), shown]
  exact ⟨loading, State.get_put_same _ CFG_STATUS_PHASE 2 (by decide), fun octal => by rw [State.octalRead, decide_eq_true octal, Bool.true_or],
    rfl⟩

/-- Without OSC_LOCAL_IN the load halts with CLOCK in both images (R156). -/
theorem gives_noClock {s : State} (f : Sfdp) (phase : s.inPhase 1 = true) (osc : s.refOk 0 = false)
    (primary : s.bit CFG_STATUS_GOLDEN = false) :
    Gives (.nvmDiscovery f) s fun t => t.dev = .halted ∧ t.get CFG_ERR_PRIMARY_CODE = 0x13 ∧ t.get CFG_ERR_GOLDEN_CODE = 0x13 := by
  obtain ⟨loading, first, noReload⟩ := (s.inPhase_iff 1).mp phase
  have fell := State.loadFail_fellBack (s := s.withOut []) (code := 0x13) 0 primary (by rw [State.withOut_get, first]; decide) (by decide)
  have clock : (s.withOut []).discovery f = ((s.withOut []).loadFail 0x13 0).loadFail 0x13 0 := by
    have stops : ((s.withOut []).dev != .loading || (s.withOut []).pwr.reload != 0) = false := by
      simp [loading, noReload]
    have again : (((s.withOut []).loadFail 0x13 0).dev == .loading) = true := by rw [fell.dev, State.withOut_dev, loading]; rfl
    have read : (s.withOut []).discovery f = (s.withOut []).loadClock := by
      rw [State.discovery, show (s.withOut []).inPhase 1 = true from phase, show (s.withOut []).refOk 0 = false from osc]
      rfl
    rw [read, State.loadClock, stops, if_neg Bool.false_ne_true]
    simp only [again, State.iff_true]
  rw [State.loadFail_golden 0x13 0 fell.golden (by rw [fell.phase]; decide)] at clock
  obtain ⟨halted, err, kept, golden⟩ := ((s.withOut []).loadFail 0x13 0).loadError_golden_halt (code := 0x13) 0 (by decide)
  refine (gives_loadHalted (P := fun x y => x = 0x13 ∧ y = 0x13) (exec_nvmDiscovery f s) clock halted err
    ⟨kept.trans fell.primary, golden⟩).imp ?_
  rintro t ⟨halted, -, codes⟩
  exact ⟨halted, codes⟩

/-! ### HEADER and chunks (R158, R160 to R164) -/

theorem exec_headerRecord (bytes : List Byte) (s : State) : exec (.headerRecord bytes) s = act (·.headerRecord bytes) s := rfl

theorem exec_chunkRead (stored : Option (List Byte)) (s : State) : exec (.chunkRead stored) s = act (·.chunkRead stored) s := rfl

/-- A good HEADER opens the record stream. -/
theorem State.headerRecord_opens {s : State} {bytes : List Byte} (phase : s.inPhase 2 = true) (unread : s.load.reader.header = [])
    (good : hdrFault (padTo 128 bytes) (some (s.bit CFG_STATUS_GOLDEN)) = none) (mode : hdrEnc (padTo 128 bytes) = s.load.fuse.isSome)
    (size : hdrStored (padTo 128 bytes) ≤ s.slotBytes) :
    s.headerRecord bytes = s.setLoad fun l => { l with reader := Reader.opened (padTo 128 bytes) } := by
  have reads : (!s.inPhase 2 || !s.load.reader.header.isEmpty) = false := by simp [phase, unread]
  have keyed : (hdrEnc (padTo 128 bytes) != s.load.fuse.isSome) = false := by simp [mode]
  simp only [State.headerRecord, reads, good, keyed, Bool.false_eq_true, if_false, if_neg (Nat.not_lt.mpr size)]

/-- The controller reads the next chunk: the HEADER is read, chunks remain, and the staging memory takes one. -/
structure AwaitsChunk (s : State) : Prop where
  phase : s.inPhase 2 = true
  opened : s.load.reader.header ≠ []
  more : s.load.reader.chunk < hdrChunks s.load.reader.header
  room : s.load.reader.takesChunk false = true

theorem AwaitsChunk.reads {s : State} (h : AwaitsChunk s) : (!s.inPhase 2 || s.load.reader.header.isEmpty ||
    decide (hdrChunks s.load.reader.header ≤ s.load.reader.chunk) || !s.load.reader.takesChunk false) = false := by
  simp [h.phase, h.opened, h.more, h.room]

/-- The memory delivers nothing. -/
theorem AwaitsChunk.undelivered {s : State} (h : AwaitsChunk s) : s.chunkRead none =
    s.loadFail 0x02 (s.slotBase (s.bit CFG_STATUS_GOLDEN) + chunkAt s.load.reader.chunk) := by
  simp only [State.chunkRead, h.reads, Bool.false_eq_true, if_false]

/-- The chunk's tag fails. -/
theorem AwaitsChunk.tagFails {s : State} (h : AwaitsChunk s) {stored : List Byte}
    (tag : chunkOpen (chunkKey s.load.fuse s.load.reader.header) s.load.reader.header s.load.reader.chunk stored = none) :
    s.chunkRead (some stored) = s.loadFail 0x06 s.load.reader.chunk := by
  simp only [State.chunkRead, h.reads, tag, Bool.false_eq_true, if_false]

/-- The chunk's tag passes. -/
theorem AwaitsChunk.taken {s : State} (h : AwaitsChunk s) {stored plain : List Byte}
    (tag : chunkOpen (chunkKey s.load.fuse s.load.reader.header) s.load.reader.header s.load.reader.chunk stored = some plain) :
    s.chunkRead (some stored) = s.setLoad fun l =>
      { l with reader := { s.load.reader with chunk := s.load.reader.chunk + 1, stream := s.load.reader.stream ++ plain } } := by
  simp only [State.chunkRead, h.reads, tag, Bool.false_eq_true, if_false]

/-- A command that changes the controller's hidden state alone. -/
theorem gives_setLoad {c : Instr} {g : State → State} {s : State} {f : LoadState → LoadState} (e : exec c s = act g s)
    (effect : g (s.withOut []) = (s.withOut []).setLoad f) : Gives c s fun t => t.load = f s.load ∧ stagedOnly s t := by
  refine gives_act e ?_
  rw [effect, State.settle_load]
  exact ⟨rfl, fun a _ level => State.settle_word_of_not_level _ level, State.settle_mask _, State.settle_cph _, State.settle_fab _,
    State.settle_ddc _⟩

/-- A chunk whose tag passes adds its plaintext to the stream. -/
theorem gives_chunkTaken {s : State} (h : AwaitsChunk s) {stored plain : List Byte}
    (tag : chunkOpen (chunkKey s.load.fuse s.load.reader.header) s.load.reader.header s.load.reader.chunk stored = some plain) :
    Gives (.chunkRead (some stored)) s fun t => t.load.reader.stream = s.load.reader.stream ++ plain ∧
      t.load.reader.chunk = s.load.reader.chunk + 1 ∧ s.onlyRegs t [] ∧ t.mask = s.mask := by
  have h' : AwaitsChunk (s.withOut []) := ⟨h.phase, h.opened, h.more, h.room⟩
  refine (gives_setLoad (exec_chunkRead (some stored) s) (h'.taken tag)).imp ?_
  rintro t ⟨load, regs, mask, -⟩
  exact ⟨by rw [load]; rfl, by rw [load]; rfl, regs, mask⟩

/-- Settles O30: discovery by what SFDP lists, HEADER and chunks by what they add to the reader, and an error of either image by what
follows it. -/
theorem loadUpToTheRecords : Obligations.LoadUpToTheRecords := by
  refine ⟨fun s f phase => ⟨fun osc locked => ⟨?_, fun unsigned => ?_, fun signed octal lacks => ?_⟩, gives_noClock f phase⟩,
    fun s phase => ⟨fun bytes unread good mode size => ?_, fun stored plain opened more room tag => ?_⟩,
    fun s phase opened more room => ?_⟩
  · exact gives_discovered phase osc locked
  · refine gives_loadErrorBoth (exec_nvmDiscovery f s) (detail := 0) ?_ (by decide)
    rw [State.discovery_ready (s := s.withOut []) f phase osc locked, unsigned]
    rfl
  · obtain ⟨detail, effect⟩ := State.discovery_noTables (s := s.withOut []) phase osc locked signed octal lacks
    exact gives_loadErrorBoth (exec_nvmDiscovery f s) effect (by decide)
  · refine (gives_setLoad (exec_headerRecord bytes s)
      (State.headerRecord_opens (s := s.withOut []) phase unread good mode size)).imp ?_
    rintro t ⟨load, regs, -⟩
    exact ⟨load, regs⟩
  · exact gives_chunkTaken ⟨phase, opened, more, room⟩ tag
  · have awaits : AwaitsChunk (s.withOut []) := ⟨phase, opened, more, room⟩
    refine ⟨fun primary => ?_, fun golden => ?_, fun stored tag => ⟨fun primary => ?_, fun golden => ?_⟩⟩
    · exact gives_fellBack (exec_chunkRead none s) awaits.undelivered phase primary (by decide)
    · exact gives_goldenHalted (exec_chunkRead none s) awaits.undelivered phase golden (by decide)
    · refine (gives_fellBack (exec_chunkRead (some stored) s) (awaits.tagFails tag) phase primary (by decide)).imp ?_
      rintro t ⟨-, golden, -, code, -, -⟩
      exact ⟨golden, code⟩
    · refine (gives_goldenHalted (exec_chunkRead (some stored) s) (awaits.tagFails tag) phase golden (by decide)).imp ?_
      rintro t ⟨halted, -, code⟩
      exact ⟨halted, code⟩

end Sys2Proof.Machine

/-!
SUPPORT. The records that only stage (R165, R166, R174 to R177, R323, R761): each that its checks pass is kept by the reader and changes
nothing else.
-/
namespace Sys2Proof.Machine

/-- The record that stands next is handed to the command that asks for its type. -/
theorem State.onRecord_next {s : State} {ty : Nat} {p : List Byte} (h : s.nextRecord ty p) (f : State → Reader → List Byte → State) :
    s.onRecord ty f = f s (s.load.reader.take ty p.length) p := by
  obtain ⟨phase, opened, next⟩ := h
  have reads : (!s.inPhase 2 || s.load.reader.header.isEmpty) = false := by simp [phase, opened]
  rw [State.onRecord, reads, if_neg Bool.false_ne_true, next]
  exact if_pos rfl

/-- A record that has been taken started where the reader stood. -/
theorem recStart_take (r : Reader) (ty n : Nat) : recStart (r.take ty n) n = r.pos := by
  show r.pos + 4 + n - 4 - n = r.pos
  omega

/-- A command that keeps the reader and what is staged: nothing but levels changes besides. -/
theorem gives_recordDone {c : Instr} {g : State → State} {s : State} {r : Reader} {f : Staged → Staged} (e : exec c s = act g s)
    (effect : g (s.withOut []) = (s.withOut []).recordDone r f) :
    Gives c s fun t => t.load.reader = r ∧ t.load.staged = f s.load.staged ∧ stagedOnly s t := by
  refine (gives_setLoad (f := fun l => { l with reader := r, staged := f l.staged }) e effect).imp ?_
  rintro t ⟨load, only⟩
  exact ⟨by rw [load], by rw [load], only⟩

/-- A command that stages a payload. -/
theorem gives_staged {c : Instr} {g : State → State} {s : State} {r : Reader} {f : Staged → Staged} (e : exec c s = act g s)
    (effect : g (s.withOut []) = (s.withOut []).recordDone r f) :
    Gives c s fun t => t.load.staged = f s.load.staged ∧ stagedOnly s t :=
  (gives_recordDone e effect).imp fun _ h => h.2

/-! ### What each record stages where its checks pass -/

/-- PROFILE: its settings are held by their registers, and keep the rules of the PLLs, the lanes, the channelizer and the modem (R174). -/
theorem State.profileRecord_staged {s : State} {p : List Byte} (h : s.nextRecord 0x02 p) (len : p.length = 20 + 8 * leField p 16 4)
    (held : (profileSettings p).find? settingBad = none)
    (plls : (s.applySettings (profileGuarded p) (profileSettings p)).pllDenied = none)
    (units : ((s.applySettings (profileGuarded p) (profileSettings p)).unitsDenied fun a => (profileSettings p).any (·.1 == a)) = none) :
    s.profileRecord = s.recordDone (s.load.reader.take 0x02 p.length) fun g => { g with profile := p } := by
  have form : ¬ (p.length < 20 ∨ p.length ≠ 20 + 8 * leField p 16 4) := by omega
  have rules : (s.applySettings (profileGuarded p) (profileSettings p)).pllDenied.or
      ((s.applySettings (profileGuarded p) (profileSettings p)).unitsDenied fun a => (profileSettings p).any (·.1 == a)) = none := by
    rw [plls, units]
    rfl
  rw [State.profileRecord, State.onRecord_next h, if_neg form]
  simp only [held, rules]

/-- KEYWRAP: its tag passes under the key of the chunks (R175). -/
theorem State.keywrapRecord_staged {s : State} {p k : List Byte} (h : s.nextRecord 0x03 p) (len : p.length = 60)
    (tag : gcmOpen (chunkKey s.load.fuse s.load.reader.header) (p.take 12) s.load.reader.header (slice p 12 32) (slice p 44 16) = some k) :
    s.keywrapRecord = s.recordDone { s.load.reader.take 0x03 p.length with wrap := some k } id := by
  have header : (s.load.reader.take 0x03 p.length).header = s.load.reader.header := rfl
  rw [State.keywrapRecord, State.onRecord_next h, if_neg (not_not.mpr len), header, tag]
  rfl

/-- BANDS: its payload fits the form (R323). -/
theorem State.bandsRecord_staged {s : State} {p : List Byte} {bs : List (Nat × List (Nat × Nat × Nat))} (h : s.nextRecord 0x04 p)
    (form : bandBlocks p.length p = some bs) :
    s.bandsRecord = s.recordDone (s.load.reader.take 0x04 p.length) fun g => { g with bands := p } := by
  rw [State.bandsRecord, State.onRecord_next h, form]

/-- PINS: every bank once, with a mode, and every MUX with a signal (R761, R767). -/
theorem State.pinsRecord_staged {s : State} {p : List Byte} (h : s.nextRecord 0x05 p) (len : p.length = 792)
    (banks : ∀ b, b < 6 → b ∈ (pinBlocks p).map (·.1)) (modes : ∀ b ∈ pinBlocks p, b.2.1 ≤ 1) (muxes : pinsDenied p = none) :
    s.pinsRecord = s.recordDone (s.load.reader.take 0x05 p.length) fun g => { g with pins := p } := by
  have everyBank : ((List.range 6).all fun b => ((pinBlocks p).map (·.1)).contains b) = true :=
    List.all_eq_true.mpr fun b hb => List.contains_iff_mem.mpr (banks b (List.mem_range.mp hb))
  have everyMode : ((pinBlocks p).any fun b => decide (1 < b.2.1)) = false :=
    List.any_eq_false.mpr fun b hb => by simpa using modes b hb
  have form : ¬ (p.length ≠ 792 ∨ ¬ ((List.range 6).all fun b => ((pinBlocks p).map (·.1)).contains b) = true ∨
      ((pinBlocks p).any fun b => decide (1 < b.2.1)) = true) := by
    rw [everyBank, everyMode]
    simp [len]
  rw [State.pinsRecord, State.onRecord_next h, if_neg form, muxes]

/-- MASK: whole entries, at most 1,024 of them (R166). -/
theorem State.maskRecord_staged {s : State} {p : List Byte} (h : s.nextRecord 0x20 p) (whole : p.length % 8 = 0) (len : p.length ≤ 8192) :
    s.maskRecord = s.recordDone (s.load.reader.take 0x20 p.length) fun g => { g with mask := p } := by
  have form : ¬ (p.length % 8 ≠ 0 ∨ 8192 < p.length) := by omega
  rw [State.maskRecord, State.onRecord_next h, if_neg form]

/-- SLOTS: every entry opens under the slot-wrap key (R175, R177). -/
theorem State.slotsRecord_staged {s : State} {p : List Byte} {xs : List (Nat × ShadowKey)} (h : s.nextRecord 0x21 p)
    (whole : p.length % 68 = 0)
    (entries : slotEntries (s.load.reader.wrap.getD []) s.load.reader.pos
      ((List.range (p.length / 68)).map fun i => slice p (68 * i) 68) = .ok xs) :
    s.slotsRecord = s.recordDone (s.load.reader.take 0x21 p.length) fun g => { g with slots := xs } := by
  have wrap : (s.load.reader.take 0x21 p.length).wrap = s.load.reader.wrap := rfl
  rw [State.slotsRecord, State.onRecord_next h, if_neg (not_not.mpr whole)]
  simp only [recStart_take, wrap, entries]
  rfl

/-! ### The commands -/

theorem exec_profileRecord (s : State) : exec .profileRecord s = act (·.profileRecord) s := rfl

theorem exec_keywrapRecord (s : State) : exec .keywrapRecord s = act (·.keywrapRecord) s := rfl

theorem exec_bandsRecord (s : State) : exec .bandsRecord s = act (·.bandsRecord) s := rfl

theorem exec_pinsRecord (s : State) : exec .pinsRecord s = act (·.pinsRecord) s := rfl

theorem exec_maskRecord (s : State) : exec .maskRecord s = act (·.maskRecord) s := rfl

theorem exec_slotsRecord (s : State) : exec .slotsRecord s = act (·.slotsRecord) s := rfl

/-- Settles O31: each record by what it stages, and the six together by what a record that is kept leaves alone. -/
theorem recordsTakeNoEffectBeforeEnd : Obligations.RecordsTakeNoEffectBeforeEnd := by
  refine fun s p => ⟨fun h len held plls units => ?_, fun k h len tag => ?_, fun bs h form => ?_, fun h len banks modes muxes => ?_,
    fun h whole len => ?_, fun xs h whole entries => ?_⟩
  · exact gives_staged (exec_profileRecord s) (State.profileRecord_staged (s := s.withOut []) h len held plls units)
  · refine (gives_recordDone (exec_keywrapRecord s) (State.keywrapRecord_staged (s := s.withOut []) h len tag)).imp ?_
    rintro t ⟨reader, -, only⟩
    exact ⟨by rw [reader], only⟩
  · exact gives_staged (exec_bandsRecord s) (State.bandsRecord_staged (s := s.withOut []) h form)
  · exact gives_staged (exec_pinsRecord s) (State.pinsRecord_staged (s := s.withOut []) h len banks modes muxes)
  · exact gives_staged (exec_maskRecord s) (State.maskRecord_staged (s := s.withOut []) h whole len)
  · exact gives_staged (exec_slotsRecord s) (State.slotsRecord_staged (s := s.withOut []) h whole entries)

end Sys2Proof.Machine

/-!
SUPPORT. The command registers of the configuration controller, and which memory operations are refused (R198, R199).
-/
namespace Sys2Proof.Machine

/-! ### A command word and the write that carries it -/

/-- The key of a command word. -/
theorem cmdWord_key (n : Nat) : bitsOf (cmdWord guardKey n) 16 16 = guardKey.toNat := by
  have key : guardKey.toNat = 0x5A17 := rfl
  rw [bitsOf, cmdWord, BitVec.toNat_ofNat, key]
  omega

/-- The OP field of a command word. -/
theorem cmdWord_op (n : Nat) : bitsOf (cmdWord guardKey n) 0 2 = n % 4 := by
  have key : guardKey.toNat = 0x5A17 := rfl
  rw [bitsOf, cmdWord, BitVec.toNat_ofNat, key]
  omega

/-- Putting back what a register holds changes no bit. -/
theorem State.bit_putWord_self (s : State) (a : Nat) (f : Fld) : (s.putWord a (s.word a)).bit f = s.bit f :=
  congrArg (· != 0) (s.get_putWord_self a f)

/-- The write of CFG_NVM_CMD with its key is the memory operation that it names. -/
theorem State.regWrite_CFG_NVM_CMD {s : State} {acc : Acc} {op : Nat} (h : s.commandOk acc CFG_NVM_CMD = true) (fits : op < 4) :
    s.regWrite acc CFG_NVM_CMD (cmdWord guardKey op) =
      ((s.putWord CFG_NVM_CMD (s.word CFG_NVM_CMD)).nvmCmd op).complete acc.master.val 0 0 := by
  have started : ∀ (t : State) w old, t.written CFG_NVM_CMD w old = t.nvmWrite w := fun _ _ _ => rfl
  rw [State.regWrite_command s acc _ _ h (by decide) (fun _ _ => rfl), started, State.nvmWrite, if_pos (cmdWord_key op), cmdWord_op,
    Nat.mod_eq_of_lt fits, State.finish_ok]

/-! ### Which memory operations are refused -/

/-- A memory operation is refused: EN is clear, or it would write the golden slot without GOLDEN_WE. -/
def State.nvmRefuses (s : State) (op : Nat) : Prop :=
  s.bit CFG_NVM_CTRL_EN = false ∨
    (op ≠ 1 ∧ s.inGolden (s.nvmAt (s.nvmSize op)) (s.nvmSize op) = true ∧ s.bit CFG_NVM_CTRL_GOLDEN_WE = false)

/-- Putting back what a register holds changes no refusal. -/
theorem State.nvmRefuses_putWord_self (s : State) (a op : Nat) : (s.putWord a (s.word a)).nvmRefuses op ↔ s.nvmRefuses op := by
  have bytes : (s.putWord a (s.word a)).slotBytes = s.slotBytes :=
    congrArg (fun mode => if mode % 2 = 1 then 0x04000000 else 0x02000000) (s.get_putWord_self a CFG_STATUS_MODE)
  have at' : ∀ n, (s.putWord a (s.word a)).nvmAt n = s.nvmAt n := fun n => congrArg (· / n * n) (s.get_putWord_self a CFG_NVM_ADDR_ALL)
  have size : (s.putWord a (s.word a)).nvmSize op = s.nvmSize op := rfl
  rw [State.nvmRefuses, State.nvmRefuses, State.inGolden, State.inGolden, State.bit_putWord_self, State.bit_putWord_self, bytes, size, at']

/-- A refused operation ends at once with DENIED. -/
theorem State.nvmCmd_refused {s : State} {op : Nat} (acts : op ≠ 0) (idle : s.bit CFG_NVM_STATUS_BUSY = false) (refuses : s.nvmRefuses op) :
    s.nvmCmd op = s.nvmDenied := by
  have asked : (decide (op = 0) || s.bit CFG_NVM_STATUS_BUSY) = false := by simp [acts, idle]
  rw [State.nvmCmd, asked, if_neg Bool.false_ne_true]
  rcases refuses with off | ⟨writes, golden, closed⟩
  · rw [off]
    rfl
  · cases on : s.bit CFG_NVM_CTRL_EN
    · rfl
    · have denied : (op != 1 && s.inGolden (s.nvmAt (s.nvmSize op)) (s.nvmSize op) && !s.bit CFG_NVM_CTRL_GOLDEN_WE) = true := by
        simp [writes, golden, closed]
      exact if_pos denied

/-- DENIED changes CFG_NVM_STATUS alone, and there not BUSY. -/
theorem State.nvmDenied_word (s : State) {a : Nat} (h : a ≠ CFG_NVM_STATUS) : s.nvmDenied.word a = s.word a :=
  (State.word_put_ne _ _ _ _ h).trans (State.word_put_ne _ _ _ _ h)

theorem State.nvmDenied_status (s : State) : s.nvmDenied.bit CFG_NVM_STATUS_DENIED = true ∧ s.nvmDenied.bit CFG_NVM_STATUS_DONE = true ∧
    s.nvmDenied.bit CFG_NVM_STATUS_BUSY = s.bit CFG_NVM_STATUS_BUSY :=
  ⟨(State.bit_set_disjoint _ _ _ (by decide) (by decide)).trans (State.bit_set_same _ _ (by decide) (by decide)),
    State.bit_set_same _ _ (by decide) (by decide),
    (State.bit_set_disjoint _ _ _ (by decide) (by decide)).trans (State.bit_set_disjoint _ _ _ (by decide) (by decide))⟩

/-! ### The commands -/

theorem exec_cfgNvmRead (a : Acc) (s : State) :
    exec (.cfgNvmRead a guardKey) s = actAll (·.regWrite a CFG_NVM_CMD (cmdWord guardKey 1)) s := rfl

theorem exec_cfgNvmProgram (a : Acc) (s : State) :
    exec (.cfgNvmProgram a guardKey) s = actAll (·.regWrite a CFG_NVM_CMD (cmdWord guardKey 2)) s := rfl

theorem exec_cfgNvmErase (a : Acc) (s : State) :
    exec (.cfgNvmErase a guardKey) s = actAll (·.regWrite a CFG_NVM_CMD (cmdWord guardKey 3)) s := rfl

/-- A command of a memory operation that is refused: it completes with DENIED, and changes nothing else below the cipher engine but
levels. -/
theorem gives_nvmRefused {c : Instr} {s : State} {acc : Acc} {op : Nat}
    (e : exec c s = actAll (·.regWrite acc CFG_NVM_CMD (cmdWord guardKey op)) s) (h : s.commandOk acc CFG_NVM_CMD = true) (acts : op ≠ 0)
    (fits : op < 4) (idle : s.bit CFG_NVM_STATUS_BUSY = false) (refuses : s.nvmRefuses op) :
    Gives c s fun t => t.bit CFG_NVM_STATUS_DENIED = true ∧ t.bit CFG_NVM_STATUS_DONE = true ∧ t.bit CFG_NVM_STATUS_BUSY = false ∧
      t.load = s.load ∧ ∀ x, x < 0x400C0000 → x ≠ CFG_NVM_STATUS → x ∉ levelRegs → t.word x = s.word x := by
  have refuses' := ((s.withOut []).nvmRefuses_putWord_self CFG_NVM_CMD op).mpr refuses
  have idle' := ((s.withOut []).bit_putWord_self CFG_NVM_CMD CFG_NVM_STATUS_BUSY).trans idle
  have effect := State.regWrite_CFG_NVM_CMD (s := s.withOut []) h fits
  rw [State.nvmCmd_refused acts idle' refuses'] at effect
  have status := ((s.withOut []).putWord CFG_NVM_CMD ((s.withOut []).word CFG_NVM_CMD)).nvmDenied_status
  obtain ⟨denied, done, busy⟩ := status
  refine gives_actAll e ?_
  rw [effect, State.bit_of_word (f := CFG_NVM_STATUS_DENIED) (State.refresh_settle_word _ (by decide) (by decide)),
    State.bit_of_word (f := CFG_NVM_STATUS_DONE) (State.refresh_settle_word _ (by decide) (by decide)),
    State.bit_of_word (f := CFG_NVM_STATUS_BUSY) (State.refresh_settle_word _ (by decide) (by decide)), State.settle_load,
    State.refresh_load]
  refine ⟨denied, done, busy.trans idle', rfl, fun x low other level => ?_⟩
  rw [State.refresh_settle_word _ low level, State.complete_word, State.nvmDenied_word _ other, State.word_putWord_self, State.withOut_word]

/-- A command of a write of the golden slot without GOLDEN_WE. -/
theorem gives_goldenDenied {c : Instr} {s : State} {acc : Acc} {op : Nat}
    (e : exec c s = actAll (·.regWrite acc CFG_NVM_CMD (cmdWord guardKey op)) s) (h : s.commandOk acc CFG_NVM_CMD = true)
    (writes : op = 2 ∨ op = 3) (idle : s.bit CFG_NVM_STATUS_BUSY = false) (closed : s.bit CFG_NVM_CTRL_GOLDEN_WE = false)
    (golden : s.inGolden (s.nvmAt (s.nvmSize op)) (s.nvmSize op) = true) :
    Gives c s fun t => t.bit CFG_NVM_STATUS_DENIED = true ∧ t.bit CFG_NVM_STATUS_BUSY = false ∧ t.load = s.load ∧
      ∀ x, x < 0x400C0000 → x ≠ CFG_NVM_STATUS → x ∉ levelRegs → t.word x = s.word x := by
  refine (gives_nvmRefused e h (by omega) (by omega) idle (.inr ⟨by omega, golden, closed⟩)).imp ?_
  rintro t ⟨denied, -, busy, load, rest⟩
  exact ⟨denied, busy, load, rest⟩

/-- Settles O34: a write of the golden slot without GOLDEN_WE is refused, and a refusal changes CFG_NVM_STATUS alone. -/
theorem goldenSlotIsProtected : Obligations.GoldenSlotIsProtected := by
  refine fun s a h idle _ closed => ⟨fun golden => ?_, fun golden => ?_⟩
  · exact gives_goldenDenied (exec_cfgNvmProgram a s) h (.inl rfl) idle closed golden
  · exact gives_goldenDenied (exec_cfgNvmErase a s) h (.inr rfl) idle closed golden

end Sys2Proof.Machine

/-!
SUPPORT. What a command has sent out is not taken back by the blocks that react to its effect.
-/
namespace Sys2Proof.Machine

/-! ### Outputs are only added -/

/-- Nothing that was sent out is taken back. -/
structure KeepsOut (s t : State) : Prop where
  kept : s.out <+: t.out

theorem KeepsOut.refl (s : State) : KeepsOut s s := ⟨List.prefix_refl _⟩

theorem KeepsOut.seq {r s t : State} (h : KeepsOut r s) (g : KeepsOut s t) : KeepsOut r t := ⟨h.kept.trans g.kept⟩

/-- An operation that sends nothing out. -/
theorem KeepsOut.silent {r s t : State} (h : KeepsOut r s) (g : t.out = s.out) : KeepsOut r t := ⟨g ▸ h.kept⟩

theorem KeepsOut.emit {r s : State} (h : KeepsOut r s) (o : Out) : KeepsOut r (s.emit o) := ⟨h.kept.trans (List.prefix_append _ _)⟩

theorem KeepsOut.iff {r s : State} (h : KeepsOut r s) (c : Bool) {f : State → State} (g : ∀ x, KeepsOut r x → KeepsOut r (f x)) :
    KeepsOut r (s.iff c f) := by
  cases c
  · exact h
  · exact g s h

theorem KeepsOut.ite {r s t : State} {c : Prop} [Decidable c] (h : KeepsOut r s) (g : KeepsOut r t) : KeepsOut r (if c then s else t) := by
  split
  · exact h
  · exact g

theorem KeepsOut.each {α : Type} {r s : State} (h : KeepsOut r s) {xs : List α} {f : State → α → State}
    (g : ∀ x a, KeepsOut r x → KeepsOut r (f x a)) : KeepsOut r (s.each xs f) := State.each_keeps h g

theorem KeepsOut.mem {s t : State} (h : KeepsOut s t) {o : Out} (sent : o ∈ s.out) : o ∈ t.out := h.kept.subset sent

/-! ### The drain -/

/-- A request of the cipher engine that ends answers its port. -/
theorem KeepsOut.cphFinish {r s : State} (h : KeepsOut r s) (q : CphReq) (status reason : Nat) (ran : Bool) :
    KeepsOut r (s.cphFinish q status reason ran) := by
  have counted : KeepsOut r ((s.cphRemove q).cphCount status) :=
    (h.silent ((s.cphRemove_touches q).out rfl)).silent (((s.cphRemove q).cphCount_touches status).out rfl)
  refine KeepsOut.ite ?_ ?_
  · refine KeepsOut.iff (KeepsOut.iff (KeepsOut.iff ?_ _ fun x k => ?_) _ fun x k => ?_) _ fun x k => ?_
    · exact counted.silent rfl
    · exact k.silent rfl
    · exact k.silent rfl
    · exact k.emit _
  · exact counted.silent ((State.cphOutcome_touches _ _).out rfl)

theorem KeepsOut.cphDrain {r s : State} (h : KeepsOut r s) : KeepsOut r s.cphDrain := h.each fun _ q k => k.cphFinish q _ _ _

theorem KeepsOut.brgDrain {r s : State} (h : KeepsOut r s) : KeepsOut r s.brgDrain :=
  (h.silent (t := s.withBrg { s.brg with queue := [] }) rfl).each fun _ _ k => k.emit _

/-- A channel that changes its state sends nothing out. -/
theorem KeepsOut.txState {r s : State} (h : KeepsOut r s) (t st cause : Nat) : KeepsOut r (s.txState t st cause) :=
  h.silent ((s.txState_touches t st cause).out rfl)

theorem KeepsOut.lmdDone {r s : State} (h : KeepsOut r s) (t : Nat) (f : LmdFrame) (seq status : Nat) :
    KeepsOut r (s.lmdDone t f seq status) := h.emit _

/-- The unit that is cut completes ABORTED. -/
theorem KeepsOut.txCut {r s : State} (h : KeepsOut r s) (t : Nat) (nd : Bool) : KeepsOut r (s.txCut t nd) := by
  have aborts : ∀ x, KeepsOut r x → KeepsOut r (x.satInc (TX_ABORTS_COUNT t) (TX_ABORTS_OVF t)) := fun x k =>
    k.silent ((x.satInc_touches _ _).out rfl)
  have burst : KeepsOut r (match (s.tx t).burst with
      | some (f, seq) => (s.lmdDone t f seq 2).satInc (TX_ABORTS_COUNT t) (TX_ABORTS_OVF t)
      | none => s) := by
    split
    · exact aborts _ (h.lmdDone t _ _ 2)
    · exact h
  unfold State.txCut
  refine KeepsOut.silent ?_ (State.putTx_out _ _ _)
  split
  · exact aborts _ (burst.iff nd fun x k => k.silent ((x.notDelivered_touches _ _).out rfl))
  · exact aborts _ burst
  · exact burst

theorem KeepsOut.txStop {r s : State} (h : KeepsOut r s) (t cause : Nat) : KeepsOut r (s.txStop t cause) :=
  ((h.txCut t true).silent (State.putTx_out _ _ _)).txState _ _ _

theorem KeepsOut.txDisable {r s : State} (h : KeepsOut r s) (t : Nat) : KeepsOut r (s.txDisable t) :=
  ((h.txCut t true).silent (State.putTx_out _ _ _)).txState _ _ _

/-- The frames of a queue complete. -/
theorem KeepsOut.lmdDoneAll {r s : State} (h : KeepsOut r s) (t status : Nat) (fs : List LmdFrame) :
    KeepsOut r (s.each fs fun s f => s.lmdDone t f 0 status) := h.each fun _ f k => k.lmdDone t f 0 status

theorem KeepsOut.lmdDrain {r s : State} (h : KeepsOut r s) : KeepsOut r s.lmdDrain :=
  h.each fun _ t k => ((k.iff _ fun _ q => q.txStop t 2).lmdDoneAll t 1 _).silent (State.putTx_out _ _ _)

theorem KeepsOut.drainSweep {r s : State} (h : KeepsOut r s) : KeepsOut r s.drainSweep := h.cphDrain.brgDrain.lmdDrain

/-! ### The line modem -/

/-- A session is opened with a draw. -/
theorem State.txSession_out {s s' : State} {t : Nat} (h : s.txSession t = some s') : s'.out = s.out := by
  unfold State.txSession at h
  split at h
  · exact absurd h (by simp)
  · cases h
    rfl

theorem KeepsOut.txStart {r s : State} (h : KeepsOut r s) (t : Nat) : KeepsOut r (s.txStart t) := by
  have latched : ∀ v, KeepsOut r ((s.txLatch t).putTx t v) := fun v =>
    (h.silent ((s.txLatch_touches t).out rfl)).silent (State.putTx_out _ t v)
  have refused : ∀ v fs w, KeepsOut r ((((s.txLatch t).putTx t v).each fs fun s f => s.lmdDone t f 0 4).putTx t w) := fun v fs w =>
    ((latched v).lmdDoneAll t 4 fs).silent (State.putTx_out _ t w)
  refine KeepsOut.ite (h.txState _ _ _) (KeepsOut.ite (h.txState _ _ _) (KeepsOut.ite (h.txState _ _ _) (KeepsOut.ite ?_ ?_)))
  · dsimp only
    split
    · next s' session => exact ((refused _ _ _).silent (State.txSession_out session)).txState _ _ _
    · exact ((refused _ _ _).txStop t 3).silent ((State.event_touches _ 233).out rfl)
  · exact (latched _).txState _ _ _

theorem KeepsOut.lmdRefresh {r s : State} (h : KeepsOut r s) : KeepsOut r s.lmdRefresh := by
  refine KeepsOut.ite h (KeepsOut.each (KeepsOut.each h fun x t k => ?_) fun x q k => ?_)
  · refine KeepsOut.ite (KeepsOut.ite (k.txState _ _ _) (KeepsOut.ite k (k.txDisable t))) ?_
    exact KeepsOut.ite (k.txStart t) (KeepsOut.ite (k.txStop t 5) (KeepsOut.ite (k.txStart t) k))
  · refine KeepsOut.iff (KeepsOut.iff (k.iff _ fun y l => l.silent ((y.rxTake_touches q).out rfl)) _ fun y l => ?_) _ fun y l => l.silent rfl
    exact (l.silent (State.putRx_out _ _ _)).iff _ fun z m => m.silent ((z.rxResync_touches q).out rfl)

/-! ### What reacts to a command -/

theorem KeepsOut.refresh {r s : State} (h : KeepsOut r s) : KeepsOut r s.refresh := by
  have session := ((h.silent ((s.monSlotCheck_touches).out rfl)).silent ((State.monChallenge_touches _).out rfl)).silent
    ((State.monBaud_touches _).out rfl)
  have drained := session.iff (s.monSlotCheck.monChallenge.monBaud.dev == .draining) fun _ k => k.drainSweep
  exact ((drained.silent ((State.bcdRefresh_touches _).out rfl)).silent ((State.scanAssign_touches _).out rfl)).lmdRefresh

/-- What a command sends out is in its outcome. -/
theorem State.out_refresh_settle {s : State} {o : Out} (sent : o ∈ s.out) : o ∈ s.refresh.settle.out := by
  rw [State.settle_out]
  exact (KeepsOut.refl s).refresh.mem sent

/-- What was sent out before the response. -/
theorem State.out_complete {s : State} {o : Out} (sent : o ∈ s.out) (m code : Nat) (data : Word) : o ∈ (s.complete m code data).out :=
  List.mem_append_left _ sent

end Sys2Proof.Machine

/-!
SUPPORT. Audits (R195 to R197, R210): what one that starts, waits and ends leaves, and the commands.
-/
namespace Sys2Proof.Machine

/-! ### What the end of a command shows of its effect -/

/-- `t` shows what a command has left in `x` below the cipher engine, in the loader and in the fabric, and what it sent out. -/
structure Shows (x t : State) : Prop where
  word : ∀ a, a < 0x400C0000 → a ∉ levelRegs → t.word a = x.word a
  load : t.load = x.load
  fab : t.fab = x.fab
  out : ∀ o ∈ x.out, o ∈ t.out

theorem Shows.get {x t : State} (h : Shows x t) {f : Fld} (low : f.addr < 0x400C0000) (level : f.addr ∉ levelRegs) : t.get f = x.get f :=
  State.get_of_word (h.word _ low level)

theorem Shows.bit {x t : State} (h : Shows x t) {f : Fld} (low : f.addr < 0x400C0000) (level : f.addr ∉ levelRegs) : t.bit f = x.bit f :=
  State.bit_of_word (h.word _ low level)

theorem State.settle_shows (x : State) : Shows x x.settle where
  word _ _ level := State.settle_word_of_not_level x level
  load := State.settle_load x
  fab := State.settle_fab x
  out _ sent := x.settle_out.symm ▸ sent

theorem State.complete_shows (x : State) (m code : Nat) (data : Word) : Shows x (x.complete m code data).refresh.settle where
  word _ low level := State.refresh_settle_word (x.complete m code data) low level
  load := (State.settle_load _).trans (State.refresh_load _)
  fab := (State.settle_fab _).trans (State.refresh_fab _)
  out _ sent := State.out_refresh_settle (State.out_complete sent m code data)

/-- A command that writes a command register shows what the write started. -/
theorem gives_written {c : Instr} {s x : State} {acc : Acc} {a : Nat} {w : Word} (e : exec c s = actAll (·.regWrite acc a w) s)
    (effect : (s.withOut []).regWrite acc a w = x.complete acc.master.val 0 0) : Gives c s (Shows x) :=
  gives_actAll e (effect ▸ x.complete_shows _ _ _)

/-- A command within its own block shows its effect. -/
theorem gives_shown {c : Instr} {s : State} {g : State → State} (e : exec c s = act g s) : Gives c s (Shows (g (s.withOut []))) :=
  gives_act e (State.settle_shows _)

/-- The state in which the write of command register `a` starts its effect. -/
def State.atWrite (s : State) (a : Nat) : State := (s.withOut []).putWord a (s.word a)

theorem State.atWrite_word (s : State) (a b : Nat) : (s.atWrite a).word b = s.word b := (s.withOut []).word_putWord_self a b

theorem State.atWrite_get (s : State) (a : Nat) (f : Fld) : (s.atWrite a).get f = s.get f := State.get_of_word (s.atWrite_word a f.addr)

theorem State.atWrite_bit (s : State) (a : Nat) (f : Fld) : (s.atWrite a).bit f = s.bit f := State.bit_of_word (s.atWrite_word a f.addr)

/-! ### The queue of audits -/

/-- An audit that starts: RUNNING and TARGET are set, and line 21 falls. -/
theorem State.auditBegin_running (s : State) (golden : Bool) : (s.auditBegin golden).bit CFG_AUDIT_STATUS_RUNNING = true :=
  (State.bit_put_disjoint _ CFG_AUDIT_STATUS_TARGET CFG_AUDIT_STATUS_RUNNING _ (by decide) (by decide)).trans
    (State.bit_set_same s _ (by decide) (by decide))

theorem State.auditBegin_target (s : State) (golden : Bool) : (s.auditBegin golden).bit CFG_AUDIT_STATUS_TARGET = golden := by
  refine (congrArg (· != 0) (State.get_put_same (s.set CFG_AUDIT_STATUS_RUNNING) CFG_AUDIT_STATUS_TARGET _ (by decide))).trans ?_
  cases golden <;> rfl

/-- It writes CFG_AUDIT_STATUS alone. -/
theorem State.auditBegin_word (s : State) (golden : Bool) {a : Nat} (h : a ≠ CFG_AUDIT_STATUS) : (s.auditBegin golden).word a = s.word a :=
  (State.setLoad_word ..).trans <| (State.word_put_ne (s.set CFG_AUDIT_STATUS_RUNNING) CFG_AUDIT_STATUS_TARGET _ a h).trans <|
    State.word_put_ne s CFG_AUDIT_STATUS_RUNNING 1 a h

theorem State.auditRun_waits {s : State} (h : s.bit CFG_AUDIT_STATUS_RUNNING = true ∨ s.bit CFG_NVM_STATUS_BUSY = true) : s.auditRun = s :=
  if_pos (by simpa using h)

theorem State.auditRun_none {s : State} (h : s.load.audits = []) : s.auditRun = s := by
  unfold State.auditRun
  rw [h]
  exact ite_self s

theorem State.auditRun_starts {s : State} {golden : Bool} {rest : List Bool} (idle : s.bit CFG_AUDIT_STATUS_RUNNING = false)
    (free : s.bit CFG_NVM_STATUS_BUSY = false) (h : s.load.audits = golden :: rest) :
    s.auditRun = (s.setLoad fun l => { l with audits := rest }).auditBegin golden := by
  unfold State.auditRun
  rw [idle, free, h]
  rfl

/-- A queued audit starts where none waits, none runs and no memory operation does. -/
theorem State.auditAsk_starts {s : State} {golden : Bool} {rest : List Bool} (idle : s.bit CFG_AUDIT_STATUS_RUNNING = false)
    (free : s.bit CFG_NVM_STATUS_BUSY = false) (none : s.load.audits = []) :
    s.auditAsk (golden :: rest) = (s.setLoad fun l => { l with audits := rest }).auditBegin golden := by
  refine (State.auditRun_starts (rest := rest) ((State.setLoad_bit ..).trans idle) ((State.setLoad_bit ..).trans free) ?_).trans rfl
  exact congrArg (· ++ golden :: rest) none

theorem State.auditAsk_waits {s : State} (targets : List Bool) (h : s.bit CFG_AUDIT_STATUS_RUNNING = true ∨ s.bit CFG_NVM_STATUS_BUSY = true) :
    s.auditAsk targets = s.setLoad fun l => { l with audits := l.audits ++ targets } := State.auditRun_waits h

/-! ### An audit asked for -/

theorem exec_cfgAudit (a : Acc) (golden : Bool) (s : State) :
    exec (.cfgAudit a guardKey golden) s = actAll (·.regWrite a CFG_CMD (cmdWord guardKey (if golden then 7 else 3))) s := rfl

theorem exec_auditPeriod (s : State) : exec .auditPeriod s = act (·.auditPeriod) s := rfl

/-- The write of CFG_CMD with OP AUDIT asks for an audit. -/
theorem State.regWrite_audit {s : State} {acc : Acc} {golden : Bool} (h : s.commandOk acc CFG_CMD = true)
    (dev : s.dev = .running ∨ s.dev = .halted) : (s.withOut []).regWrite acc CFG_CMD (cmdWord guardKey (if golden then 7 else 3)) =
      ((s.atWrite CFG_CMD).auditAsk [golden]).complete acc.master.val 0 0 := by
  have started : ∀ (t : State) old, t.written CFG_CMD (cmdWord guardKey (if golden then 7 else 3)) old = t.auditStart golden := by
    intro t old
    cases golden <;> rfl
  have acts : ((s.atWrite CFG_CMD).dev == .running || (s.atWrite CFG_CMD).dev == .halted) = true := by
    show (s.dev == .running || s.dev == .halted) = true
    rcases dev with d | d <;> rw [d] <;> rfl
  have asks : (s.atWrite CFG_CMD).auditStart golden = (s.atWrite CFG_CMD).auditAsk [golden] := by
    rw [State.auditStart, acts, State.iff_true]
  rw [State.regWrite_command (s.withOut []) acc CFG_CMD _ h (by decide) (fun _ _ => rfl), started, State.finish_ok]
  exact congrArg (fun x : State => x.complete acc.master.val 0 0) asks

theorem gives_auditStarts {s : State} {acc : Acc} {golden : Bool} (h : s.commandOk acc CFG_CMD = true)
    (dev : s.dev = .running ∨ s.dev = .halted) (idle : s.bit CFG_AUDIT_STATUS_RUNNING = false) (free : s.bit CFG_NVM_STATUS_BUSY = false)
    (none : s.load.audits = []) : Gives (.cfgAudit acc guardKey golden) s fun t => t.bit CFG_AUDIT_STATUS_RUNNING = true ∧
      t.bit CFG_AUDIT_STATUS_TARGET = golden ∧ t.load.audits = [] ∧ t.lineLevel 21 = false ∧ t.fab = s.fab := by
  have starts := State.auditAsk_starts (s := s.atWrite CFG_CMD) (golden := golden) (rest := []) ((s.atWrite_bit ..).trans idle)
    ((s.atWrite_bit ..).trans free) none
  refine (gives_written (exec_cfgAudit acc golden s) ((State.regWrite_audit h dev).trans (by rw [starts]))).imp fun t shows => ?_
  exact ⟨(shows.bit (by decide) (by decide)).trans (State.auditBegin_running _ _),
    (shows.bit (by decide) (by decide)).trans (State.auditBegin_target _ _), congrArg LoadState.audits shows.load,
    congrArg LoadState.auditDone shows.load, shows.fab⟩

theorem gives_auditWaits {s : State} {acc : Acc} {golden : Bool} (h : s.commandOk acc CFG_CMD = true)
    (dev : s.dev = .running ∨ s.dev = .halted) (busy : s.bit CFG_AUDIT_STATUS_RUNNING = true ∨ s.bit CFG_NVM_STATUS_BUSY = true) :
    Gives (.cfgAudit acc guardKey golden) s fun t => t.load.audits = s.load.audits ++ [golden] ∧
      t.bit CFG_AUDIT_STATUS_RUNNING = s.bit CFG_AUDIT_STATUS_RUNNING := by
  have waits := State.auditAsk_waits (s := s.atWrite CFG_CMD) [golden] (by rwa [s.atWrite_bit, s.atWrite_bit])
  refine (gives_written (exec_cfgAudit acc golden s) ((State.regWrite_audit h dev).trans (by rw [waits]))).imp fun t shows => ?_
  exact ⟨congrArg LoadState.audits shows.load, (shows.bit (by decide) (by decide)).trans (s.atWrite_bit CFG_CMD _)⟩

/-- The period asks for an audit of the primary and then of the golden image. -/
theorem gives_auditPeriod {s : State} (dev : s.dev = .running) (period : s.get CFG_AUDIT_CFG_PERIOD_H ≠ 0)
    (idle : s.bit CFG_AUDIT_STATUS_RUNNING = false) (free : s.bit CFG_NVM_STATUS_BUSY = false) (none : s.load.audits = []) :
    Gives .auditPeriod s fun t => t.bit CFG_AUDIT_STATUS_RUNNING = true ∧ t.bit CFG_AUDIT_STATUS_TARGET = false ∧
      t.load.audits = [true] ∧ t.fab = s.fab := by
  have acts : (s.dev == .running && s.get CFG_AUDIT_CFG_PERIOD_H != 0) = true := by simp [dev, period]
  have asks : (s.withOut []).auditPeriod = (s.withOut []).auditAsk [false, true] := by
    show (s.withOut []).iff (s.dev == .running && s.get CFG_AUDIT_CFG_PERIOD_H != 0) (·.auditAsk [false, true]) = _
    rw [acts, State.iff_true]
  refine (gives_shown (exec_auditPeriod s)).imp fun t shows => ?_
  rw [asks, State.auditAsk_starts (s := s.withOut []) idle free none] at shows
  exact ⟨(shows.bit (by decide) (by decide)).trans (State.auditBegin_running _ _),
    (shows.bit (by decide) (by decide)).trans (State.auditBegin_target _ _), congrArg LoadState.audits shows.load, shows.fab⟩

/-! ### The end of an audit -/

theorem exec_auditDone (header : List Byte) (chunks : List (Option (List Byte))) (s : State) :
    exec (.auditDone header chunks) s = act (·.auditDone header chunks) s := rfl

/-- The end of the audit that runs, as its status shows it: no more RUNNING, line 21, CODE and CHUNK. -/
def State.auditNoted (s : State) (code chunk : Nat) : State :=
  (((s.clr CFG_AUDIT_STATUS_RUNNING).setLoad fun l => { l with auditDone := true }).put CFG_AUDIT_STATUS_CODE code).put
    CFG_AUDIT_STATUS_CHUNK (if code = 0 then 0 else chunk)

/-- A bad audit sets FAIL and is logged. -/
def State.auditBad (s : State) (code chunk : Nat) : State :=
  (((s.auditNoted code chunk).set CFG_AUDIT_STATUS_FAIL).blockLog (0x380 + code) 3 (if s.bit CFG_AUDIT_STATUS_TARGET then 1 else 0)
    (s.auditNoted code chunk).draw).drawn

theorem State.auditEnd_good {s : State} (chunk : Nat) (runs : s.bit CFG_AUDIT_STATUS_RUNNING = true) :
    s.auditEnd 0 chunk = ((s.auditNoted 0 chunk).satInc CFG_AUDIT_COUNT_COUNT CFG_AUDIT_COUNT_OVF).auditRun := by
  simp only [State.auditEnd, State.auditNoted, runs, Bool.not_true, Bool.false_eq_true, if_false, if_true]

theorem State.auditEnd_bad {s : State} {code : Nat} (chunk : Nat) (runs : s.bit CFG_AUDIT_STATUS_RUNNING = true) (bad : code ≠ 0) :
    s.auditEnd code chunk = (s.auditBad code chunk).auditRun := by
  simp only [State.auditEnd, State.auditBad, State.auditNoted, runs, Bool.not_true, Bool.false_eq_true, if_false, if_neg bad]

theorem State.auditNoted_word (s : State) (code chunk : Nat) {a : Nat} (h : a ≠ CFG_AUDIT_STATUS) :
    (s.auditNoted code chunk).word a = s.word a :=
  (State.word_put_ne _ CFG_AUDIT_STATUS_CHUNK _ a h).trans <| (State.word_put_ne _ CFG_AUDIT_STATUS_CODE _ a h).trans <|
    (State.setLoad_word ..).trans (State.word_put_ne s CFG_AUDIT_STATUS_RUNNING 0 a h)

theorem State.auditNoted_running (s : State) (code chunk : Nat) : (s.auditNoted code chunk).bit CFG_AUDIT_STATUS_RUNNING = false :=
  (State.bit_put_disjoint _ _ _ _ (by decide) (by decide)).trans <| (State.bit_put_disjoint _ _ _ _ (by decide) (by decide)).trans <|
    State.bit_clr_same s _ (by decide)

theorem State.auditNoted_code (s : State) {code : Nat} (chunk : Nat) (fits : code < 2 ^ CFG_AUDIT_STATUS_CODE.width) :
    (s.auditNoted code chunk).get CFG_AUDIT_STATUS_CODE = code :=
  (State.get_put_disjoint _ _ _ _ (by decide) (by decide)).trans <|
    (State.get_put_same _ _ _ (by decide)).trans (Nat.mod_eq_of_lt fits)

theorem State.auditNoted_chunk (s : State) {code chunk : Nat} (bad : code ≠ 0) (fits : chunk < 2 ^ CFG_AUDIT_STATUS_CHUNK.width) :
    (s.auditNoted code chunk).get CFG_AUDIT_STATUS_CHUNK = chunk := by
  rw [State.auditNoted, if_neg bad]
  exact (State.get_put_same _ _ _ (by decide)).trans (Nat.mod_eq_of_lt fits)

/-- Below the log's registers a bad audit writes CFG_AUDIT_STATUS alone. -/
theorem State.auditBad_word (s : State) (code chunk : Nat) {a : Nat} (low : a < 0x40110000) :
    (s.auditBad code chunk).word a = ((s.auditNoted code chunk).set CFG_AUDIT_STATUS_FAIL).word a := (State.blockLog_low ..).word a low

/-- A log entry keeps the pulses. -/
theorem State.blockLog_pulses (s : State) (code block inst detail : Nat) : (s.blockLog code block inst detail).grd.pulses = s.grd.pulses := by
  unfold State.blockLog
  split
  · rfl
  · exact congrArg GrdState.pulses ((State.satInc_touches s _ _).grd rfl)

/-- What the end of every audit leaves: RUNNING low, line 21 high, and no fault report. -/
structure AuditOver (s x : State) : Prop where
  running : x.bit CFG_AUDIT_STATUS_RUNNING = false
  load : x.load = { s.load with auditDone := true }
  pulses : x.grd.pulses = s.grd.pulses
  lo : x.word GRD_PENDING_LO = s.word GRD_PENDING_LO
  hi : x.word GRD_PENDING_HI = s.word GRD_PENDING_HI

theorem State.auditGood_over (s : State) (chunk : Nat) :
    AuditOver s ((s.auditNoted 0 chunk).satInc CFG_AUDIT_COUNT_COUNT CFG_AUDIT_COUNT_OVF) where
  running := (State.bit_of_word (State.satInc_word_ne _ (by decide) (by decide))).trans (s.auditNoted_running 0 chunk)
  load := (State.satInc_touches _ _ _).load rfl
  pulses := congrArg GrdState.pulses ((State.satInc_touches _ _ _).grd rfl)
  lo := (State.satInc_word_ne _ (by decide) (by decide)).trans (s.auditNoted_word 0 chunk (by decide))
  hi := (State.satInc_word_ne _ (by decide) (by decide)).trans (s.auditNoted_word 0 chunk (by decide))

theorem State.auditBad_over (s : State) (code chunk : Nat) : AuditOver s (s.auditBad code chunk) where
  running := (State.bit_of_word (s.auditBad_word code chunk (by decide))).trans <|
    (State.bit_set_disjoint _ _ _ (by decide) (by decide)).trans (s.auditNoted_running code chunk)
  load := (State.blockLog_touches ..).load rfl
  pulses := State.blockLog_pulses ..
  lo := (s.auditBad_word code chunk (by decide)).trans <|
    (State.word_put_ne _ _ _ _ (by decide)).trans (s.auditNoted_word code chunk (by decide))
  hi := (s.auditBad_word code chunk (by decide)).trans <|
    (State.word_put_ne _ _ _ _ (by decide)).trans (s.auditNoted_word code chunk (by decide))

/-- The end of an audit with none that waits. -/
theorem State.auditEnd_over {s : State} (code chunk : Nat) (runs : s.bit CFG_AUDIT_STATUS_RUNNING = true) (none : s.load.audits = []) :
    AuditOver s (s.auditEnd code chunk) := by
  by_cases good : code = 0
  · have ended := s.auditGood_over chunk
    rw [good, State.auditEnd_good chunk runs, State.auditRun_none (by rw [ended.load]; exact none)]
    exact ended
  · have ended := s.auditBad_over code chunk
    rw [State.auditEnd_bad chunk runs good, State.auditRun_none (by rw [ended.load]; exact none)]
    exact ended

/-- A bad audit: its code and chunk, FAIL, and no count. -/
theorem State.auditEnd_failed {s : State} {code chunk : Nat} (runs : s.bit CFG_AUDIT_STATUS_RUNNING = true) (none : s.load.audits = [])
    (bad : code ≠ 0) (code_fits : code < 2 ^ CFG_AUDIT_STATUS_CODE.width) (chunk_fits : chunk < 2 ^ CFG_AUDIT_STATUS_CHUNK.width) :
    (s.auditEnd code chunk).get CFG_AUDIT_STATUS_CODE = code ∧ (s.auditEnd code chunk).get CFG_AUDIT_STATUS_CHUNK = chunk ∧
      (s.auditEnd code chunk).bit CFG_AUDIT_STATUS_FAIL = true ∧
      (s.auditEnd code chunk).get CFG_AUDIT_COUNT_COUNT = s.get CFG_AUDIT_COUNT_COUNT := by
  have ended := s.auditBad_over code chunk
  have field : ∀ f : Fld, f.addr < 0x40110000 →
      (s.auditBad code chunk).get f = ((s.auditNoted code chunk).set CFG_AUDIT_STATUS_FAIL).get f := fun f low =>
    State.get_of_word (s.auditBad_word code chunk low)
  rw [State.auditEnd_bad chunk runs bad, State.auditRun_none (by rw [ended.load]; exact none)]
  refine ⟨?_, ?_, ?_, ?_⟩
  · exact (field _ (by decide)).trans <| (State.get_put_disjoint _ _ _ _ (by decide) (by decide)).trans (s.auditNoted_code chunk code_fits)
  · exact (field _ (by decide)).trans <| (State.get_put_disjoint _ _ _ _ (by decide) (by decide)).trans (s.auditNoted_chunk bad chunk_fits)
  · exact (congrArg (· != 0) (field _ (by decide))).trans (State.bit_set_same _ _ (by decide) (by decide))
  · exact (field _ (by decide)).trans <| (State.get_put_ne _ _ _ _ (by decide)).trans <|
      State.get_of_word (s.auditNoted_word code chunk (by decide))

/-- A good audit: code 0, and one more. -/
theorem State.auditEnd_passed {s : State} (chunk : Nat) (runs : s.bit CFG_AUDIT_STATUS_RUNNING = true) (none : s.load.audits = []) :
    (s.auditEnd 0 chunk).get CFG_AUDIT_STATUS_CODE = 0 ∧
      (s.auditEnd 0 chunk).get CFG_AUDIT_COUNT_COUNT = min (s.get CFG_AUDIT_COUNT_COUNT + 1) (2 ^ 24 - 1) := by
  have ended := s.auditGood_over chunk
  rw [State.auditEnd_good chunk runs, State.auditRun_none (by rw [ended.load]; exact none)]
  constructor
  · exact (State.get_of_word (State.satInc_word_ne _ (by decide) (by decide))).trans (s.auditNoted_code chunk (by decide))
  · refine (State.satAdd_get _ 1 (by decide) (by decide)).trans ?_
    rw [State.get_of_word (f := CFG_AUDIT_COUNT_COUNT) (s.auditNoted_word 0 chunk (by decide))]
    rfl

/-- The end of every audit, as the command shows it. -/
theorem AuditOver.settle {s x : State} (h : AuditOver s x) : x.settle.bit CFG_AUDIT_STATUS_RUNNING = false ∧ x.settle.lineLevel 21 = true ∧
    x.settle.word GRD_PENDING_LO = s.word GRD_PENDING_LO ∧ x.settle.word GRD_PENDING_HI = s.word GRD_PENDING_HI ∧
    x.settle.grd.pulses = s.grd.pulses :=
  ⟨((x.settle_shows).bit (by decide) (by decide)).trans h.running,
    (congrArg LoadState.auditDone (x.settle_load.trans h.load)), ((x.settle_shows).word _ (by decide) (by decide)).trans h.lo,
    ((x.settle_shows).word _ (by decide) (by decide)).trans h.hi, (congrArg GrdState.pulses x.settle_grd).trans h.pulses⟩

theorem State.auditDone_good {s : State} {header : List Byte} {chunks : List (Option (List Byte))}
    (image : auditImage s.load.fuse (s.bit CFG_AUDIT_STATUS_TARGET) s.slotBytes header chunks = none) :
    s.auditDone header chunks = s.auditEnd 0 0 := by
  rw [State.auditDone, image]

theorem State.auditDone_bad {s : State} {header : List Byte} {chunks : List (Option (List Byte))} {x : Nat × Nat}
    (image : auditImage s.load.fuse (s.bit CFG_AUDIT_STATUS_TARGET) s.slotBytes header chunks = some x) :
    s.auditDone header chunks = s.auditEnd x.1 x.2 := by
  rw [State.auditDone, image]

theorem gives_auditDone {s : State} {header : List Byte} {chunks : List (Option (List Byte))} {found : Option (Nat × Nat)}
    (runs : s.bit CFG_AUDIT_STATUS_RUNNING = true) (quiet : s.load.audits = [])
    (image : auditImage s.load.fuse (s.bit CFG_AUDIT_STATUS_TARGET) s.slotBytes header chunks = found) :
    Gives (.auditDone header chunks) s fun t => t.bit CFG_AUDIT_STATUS_RUNNING = false ∧ t.lineLevel 21 = true ∧
      (∀ code chunk, found = some (code, chunk) → 0 < code → code < 2 ^ CFG_AUDIT_STATUS_CODE.width →
        chunk < 2 ^ CFG_AUDIT_STATUS_CHUNK.width → t.get CFG_AUDIT_STATUS_CODE = code ∧ t.get CFG_AUDIT_STATUS_CHUNK = chunk ∧
        t.lineLevel 22 = true ∧ t.get CFG_AUDIT_COUNT_COUNT = s.get CFG_AUDIT_COUNT_COUNT) ∧
      (found = none → t.get CFG_AUDIT_STATUS_CODE = 0 ∧
        (s.get CFG_AUDIT_COUNT_COUNT < 2 ^ 24 - 1 → t.get CFG_AUDIT_COUNT_COUNT = s.get CFG_AUDIT_COUNT_COUNT + 1)) ∧
      t.word GRD_PENDING_LO = s.word GRD_PENDING_LO ∧ t.word GRD_PENDING_HI = s.word GRD_PENDING_HI ∧ t.grd.pulses = s.grd.pulses := by
  cases found with
  | none =>
    have effect := State.auditDone_good (s := s.withOut []) image
    have shows := ((s.withOut []).auditEnd 0 0).settle_shows
    obtain ⟨running, line, lo, hi, pulses⟩ := (State.auditEnd_over (s := s.withOut []) 0 0 runs quiet).settle
    obtain ⟨code, count⟩ := State.auditEnd_passed (s := s.withOut []) 0 runs quiet
    refine gives_act (exec_auditDone header chunks s) ?_
    rw [effect]
    refine ⟨running, line, fun _ _ h => (nomatch h), fun _ => ⟨?_, fun room => ?_⟩, lo, hi, pulses⟩
    · exact (shows.get (by decide) (by decide)).trans code
    · exact ((shows.get (by decide) (by decide)).trans count).trans (Nat.min_eq_left room)
  | some x =>
    have effect := State.auditDone_bad (s := s.withOut []) image
    have shows := ((s.withOut []).auditEnd x.1 x.2).settle_shows
    obtain ⟨running, line, lo, hi, pulses⟩ := (State.auditEnd_over (s := s.withOut []) x.1 x.2 runs quiet).settle
    refine gives_act (exec_auditDone header chunks s) ?_
    rw [effect]
    refine ⟨running, line, fun code chunk h bad code_fits chunk_fits => ?_, fun h => (nomatch h), lo, hi, pulses⟩
    cases h
    obtain ⟨code', chunk', fail, count⟩ := State.auditEnd_failed (s := s.withOut []) runs quiet (by omega) code_fits chunk_fits
    exact ⟨(shows.get (by decide) (by decide)).trans code', (shows.get (by decide) (by decide)).trans chunk',
      (shows.bit (f := CFG_AUDIT_STATUS_FAIL) (by decide) (by decide)).trans fail, (shows.get (by decide) (by decide)).trans count⟩

end Sys2Proof.Machine

/-!
SUPPORT. Operations on the configuration memory (R198, R199) and the image key (R207).
-/
namespace Sys2Proof.Machine

/-! ### Bytes in consecutive registers -/

theorem leBytes_leNat : ∀ bs : List Byte, leBytes bs.length (leNat bs) = bs
  | [] => rfl
  | b :: bs => by
    have high : (b.toNat + 256 * leNat bs) / 256 = leNat bs := by omega
    have low : BitVec.ofNat 8 (b.toNat + 256 * leNat bs) = b := by
      apply BitVec.eq_of_toNat_eq
      rw [BitVec.toNat_ofNat]
      omega
    simp only [List.length_cons, leBytes, leNat, high, low, leBytes_leNat bs]

theorem leNat_lt : ∀ bs : List Byte, leNat bs < 256 ^ bs.length
  | [] => Nat.one_pos
  | b :: bs => by
    have rest := leNat_lt bs
    simp only [List.length_cons, leNat, Nat.pow_succ]
    omega

/-- A word gives back the four bytes that it was made of. -/
theorem leBytes_leWord {bs : List Byte} (h : 4 ≤ bs.length) : leBytes 4 (leWord bs).toNat = bs.take 4 := by
  have four : (bs.take 4).length = 4 := List.length_take_of_le h
  have small : leNat (bs.take 4) < 2 ^ 32 := lt_of_lt_of_eq (leNat_lt _) (by rw [four]; rfl)
  have bytes := leBytes_leNat (bs.take 4)
  rwa [four, ← Nat.mod_eq_of_lt small, ← BitVec.toNat_ofNat] at bytes

/-- The words of a byte string of whole words give back its bytes, and there are as many as fit. -/
theorem leWords_bytes : ∀ (n fuel : Nat) (bs : List Byte), bs.length = 4 * n → n ≤ fuel →
    ((leWords fuel bs).flatMap fun w => leBytes 4 w.toNat) = bs ∧ (leWords fuel bs).length = n
  | 0, fuel, bs, len, _ => by
    have empty : bs = [] := List.length_eq_zero_iff.mp len
    subst empty
    cases fuel <;> exact ⟨rfl, rfl⟩
  | n + 1, fuel + 1, bs, len, fits => by
    have some : bs.isEmpty = false := by
      cases bs
      · exact absurd len (by simp)
      · rfl
    obtain ⟨rest, count⟩ := leWords_bytes n fuel (bs.drop 4) (by rw [List.length_drop]; omega) (by omega)
    simp only [leWords, some, Bool.false_eq_true, if_false, List.flatMap_cons, rest, List.length_cons, count, and_true]
    rw [leBytes_leWord (by omega), List.take_append_drop]

/-- Consecutive cells read back what was written into them. -/
theorem cellReadAll_cellWriteAll {w k : Nat} (pos : 0 < k) (xs : List (BitVec w)) (m : Cells w) (a : Nat) :
    cellReadAll (cellWriteAll m a k xs) a k xs.length = xs := by
  induction xs generalizing m a with
  | nil => rfl
  | cons x xs ih =>
    have first : cellRead (cellWriteAll (cellWrite m a x) (a + k) k xs) a = x :=
      (cellRead_cellWriteAll_below (Nat.lt_add_of_pos_right pos) k xs _).trans (cellRead_cellWrite_same m a x)
    simp only [List.length_cons, cellReadAll, cellWriteAll, first, ih]

/-- Cells that read the same from `a` up are read alike. -/
theorem cellReadAll_congr {w : Nat} {m m' : Cells w} {k : Nat} (n a : Nat)
    (h : ∀ j, j < n → cellRead m (a + j * k) = cellRead m' (a + j * k)) :
    cellReadAll m a k n = cellReadAll m' a k n := by
  induction n generalizing a with
  | zero => rfl
  | succ n ih =>
    have first : cellRead m a = cellRead m' a := by simpa using h 0 (Nat.succ_pos n)
    have rest := ih (a + k) fun j hj => by
      have next := h (j + 1) (Nat.succ_lt_succ hj)
      rwa [Nat.succ_mul, Nat.add_comm (j * k) k, ← Nat.add_assoc] at next
    simp only [cellReadAll, first, rest]

theorem State.regBytes_congr {s t : State} {a n : Nat} (h : ∀ j, j < n → t.word (a + j * 4) = s.word (a + j * 4)) :
    t.regBytes a n = s.regBytes a n := congrArg (List.flatMap fun w : Word => leBytes 4 w.toNat) (cellReadAll_congr n a h)

/-- Bytes of whole words, written to consecutive registers, read back. -/
theorem State.regBytes_putRegBytes (s : State) (a : Nat) {n : Nat} {bs : List Byte} (len : bs.length = 4 * n) :
    (s.putRegBytes a bs).regBytes a n = bs := by
  obtain ⟨bytes, count⟩ := leWords_bytes n bs.length bs len (by omega)
  have words := cellReadAll_cellWriteAll (k := 4) (by decide) (leWords bs.length bs) s.regs a
  rw [count] at words
  exact (congrArg (List.flatMap fun w : Word => leBytes 4 w.toNat) words).trans bytes

theorem nvmBuf_ne_audit (j : Nat) : CFG_NVM_BUF 0 + j * 4 ≠ CFG_AUDIT_STATUS := by
  have buffer : CFG_NVM_BUF 0 = 0x40020100 := rfl
  have audit : CFG_AUDIT_STATUS = 0x40020024 := rfl
  omega

theorem nvmBuf_ne_status (j : Nat) : CFG_NVM_BUF 0 + j * 4 ≠ CFG_NVM_STATUS := by
  have buffer : CFG_NVM_BUF 0 = 0x40020100 := rfl
  have status : CFG_NVM_STATUS = 0x40020048 := rfl
  omega

/-- What CFG_NVM_BUF holds is shown. -/
theorem Shows.nvmBuf {x t : State} (h : Shows x t) : t.regBytes (CFG_NVM_BUF 0) 64 = x.regBytes (CFG_NVM_BUF 0) 64 :=
  State.regBytes_congr fun j hj => by
    have at' : CFG_NVM_BUF 0 = 0x40020100 := rfl
    refine h.word _ (by omega) ?_
    simp only [levelRegs, GRD_STATUS, SYS_SERVICE, GRD_EVENT, BIN_IRQ_STATUS, List.mem_cons, List.not_mem_nil, or_false]
    omega

/-! ### Operations that start -/

theorem State.auditStop_word (s : State) {a : Nat} (h : a ≠ CFG_AUDIT_STATUS) : s.auditStop.word a = s.word a := by
  unfold State.auditStop
  split
  · exact (State.word_put_ne _ _ _ _ h).trans (State.word_put_ne _ _ _ _ h)
  · rfl

/-- An operation that is taken up: BUSY, what it does and where, and the request to the memory. -/
theorem State.nvmCmd_started {s : State} {op : Nat} (acts : op ≠ 0) (idle : s.bit CFG_NVM_STATUS_BUSY = false) (taken : ¬ s.nvmRefuses op) :
    (s.nvmCmd op).bit CFG_NVM_STATUS_BUSY = true ∧ (s.nvmCmd op).load.nvm = some (op, s.nvmAt (s.nvmSize op)) ∧
      .nvm op (s.nvmAt (s.nvmSize op)) (if op = 2 then s.regBytes (CFG_NVM_BUF 0) 64 else []) ∈ (s.nvmCmd op).out := by
  have asked : (decide (op = 0) || s.bit CFG_NVM_STATUS_BUSY) = false := by simp [acts, idle]
  have on : s.bit CFG_NVM_CTRL_EN = true := by
    by_contra off
    exact taken (.inl (Bool.eq_false_iff.mpr off))
  have golden : (op != 1 && s.inGolden (s.nvmAt (s.nvmSize op)) (s.nvmSize op) && !s.bit CFG_NVM_CTRL_GOLDEN_WE) = false := by
    by_contra denied
    simp only [Bool.not_eq_false, Bool.and_eq_true, bne_iff_ne, Bool.not_eq_true'] at denied
    obtain ⟨⟨writes, inside⟩, closed⟩ := denied
    exact taken (.inr ⟨writes, inside, closed⟩)
  have bytes : (s.auditStop.set CFG_NVM_STATUS_BUSY).regBytes (CFG_NVM_BUF 0) 64 = s.regBytes (CFG_NVM_BUF 0) 64 :=
    State.regBytes_congr fun j _ => (State.word_put_ne _ _ _ _ (nvmBuf_ne_status j)).trans (s.auditStop_word (nvmBuf_ne_audit j))
  have effect : s.nvmCmd op = (((s.auditStop.set CFG_NVM_STATUS_BUSY).setLoad fun l => { l with nvm := some (op, s.nvmAt (s.nvmSize op)) }).emit
      (.nvm op (s.nvmAt (s.nvmSize op)) (if op = 2 then s.regBytes (CFG_NVM_BUF 0) 64 else []))) := by
    rw [State.nvmCmd, asked, if_neg Bool.false_ne_true, on, ← bytes]
    exact if_neg (Bool.eq_false_iff.mp golden)
  rw [effect]
  exact ⟨State.bit_set_same _ _ (by decide) (by decide), rfl, List.mem_append_right _ (List.mem_singleton.mpr rfl)⟩

/-- A command of a memory operation that is taken up. -/
theorem gives_nvmStarted {c : Instr} {s : State} {acc : Acc} {op : Nat}
    (e : exec c s = actAll (·.regWrite acc CFG_NVM_CMD (cmdWord guardKey op)) s) (h : s.commandOk acc CFG_NVM_CMD = true)
    (acts : op ≠ 0) (fits : op < 4) (idle : s.bit CFG_NVM_STATUS_BUSY = false)
    (taken : ¬ s.nvmRefuses op) : Gives c s fun t => t.bit CFG_NVM_STATUS_BUSY = true ∧
      t.load.nvm = some (op, s.nvmAt (s.nvmSize op)) ∧
      .nvm op (s.nvmAt (s.nvmSize op)) (if op = 2 then s.regBytes (CFG_NVM_BUF 0) 64 else []) ∈ t.out := by
  have same : (s.atWrite CFG_NVM_CMD).nvmAt ((s.atWrite CFG_NVM_CMD).nvmSize op) = s.nvmAt (s.nvmSize op) :=
    congrArg (· / s.nvmSize op * s.nvmSize op) (s.atWrite_get CFG_NVM_CMD CFG_NVM_ADDR_ALL)
  have bytes : (s.atWrite CFG_NVM_CMD).regBytes (CFG_NVM_BUF 0) 64 = s.regBytes (CFG_NVM_BUF 0) 64 :=
    State.regBytes_congr fun j _ => s.atWrite_word CFG_NVM_CMD _
  have started := State.nvmCmd_started (s := s.atWrite CFG_NVM_CMD) acts ((s.atWrite_bit CFG_NVM_CMD _).trans idle)
    (mt ((s.withOut []).nvmRefuses_putWord_self CFG_NVM_CMD op).mp taken)
  rw [same, bytes] at started
  obtain ⟨busy, nvm, sent⟩ := started
  refine (gives_written e (State.regWrite_CFG_NVM_CMD (s := s.withOut []) h fits)).imp fun t shows => ?_
  exact ⟨(shows.bit (by decide) (by decide)).trans busy, (congrArg LoadState.nvm shows.load).trans nvm, shows.out _ sent⟩

/-- READ is taken up where EN is set. -/
theorem State.nvmRead_taken {s : State} (on : s.bit CFG_NVM_CTRL_EN = true) : ¬ s.nvmRefuses 1 := by
  rintro (off | ⟨writes, -⟩)
  · rw [on] at off
    cases off
  · exact writes rfl

/-- A write is taken up where EN is set, outside the golden slot or with GOLDEN_WE. -/
theorem State.nvmWrite_taken {s : State} {op : Nat} (on : s.bit CFG_NVM_CTRL_EN = true)
    (free : s.inGolden (s.nvmAt (s.nvmSize op)) (s.nvmSize op) = false ∨ s.bit CFG_NVM_CTRL_GOLDEN_WE = true) : ¬ s.nvmRefuses op := by
  rintro (off | ⟨-, inside, closed⟩)
  · rw [on] at off
    cases off
  · rcases free with outside | opened
    · rw [inside] at outside
      cases outside
    · rw [opened] at closed
      cases closed

/-! ### Operations that end -/

theorem exec_nvmOpDone (ok : Bool) (data : List Byte) (s : State) : exec (.nvmOpDone ok data) s = act (·.nvmEnd ok data) s := rfl

/-- The next audit starts with CFG_AUDIT_STATUS alone, and no memory operation. -/
theorem State.auditRun_word (s : State) {a : Nat} (h : a ≠ CFG_AUDIT_STATUS) : s.auditRun.word a = s.word a := by
  unfold State.auditRun
  split
  · rfl
  · split
    · rfl
    · exact State.auditBegin_word _ _ h

theorem State.auditRun_nvm (s : State) : s.auditRun.load.nvm = s.load.nvm := by
  unfold State.auditRun
  split
  · rfl
  · split <;> rfl

/-- The operation that runs is over: BUSY low, DONE. -/
def State.nvmOver (s : State) : State := ((s.clr CFG_NVM_STATUS_BUSY).set CFG_NVM_STATUS_DONE).setLoad fun l => { l with nvm := none }

theorem State.nvmOver_busy (s : State) : s.nvmOver.bit CFG_NVM_STATUS_BUSY = false :=
  (State.bit_set_disjoint (s.clr CFG_NVM_STATUS_BUSY) CFG_NVM_STATUS_DONE CFG_NVM_STATUS_BUSY (by decide) (by decide)).trans
    (State.bit_clr_same s CFG_NVM_STATUS_BUSY (by decide))

theorem State.nvmOver_done (s : State) : s.nvmOver.bit CFG_NVM_STATUS_DONE = true :=
  State.bit_set_same (s.clr CFG_NVM_STATUS_BUSY) CFG_NVM_STATUS_DONE (by decide) (by decide)

theorem State.nvmEnd_read {s : State} {adr : Nat} (h : s.load.nvm = some (1, adr)) (data : List Byte) :
    s.nvmEnd true data = (s.nvmOver.putRegBytes (CFG_NVM_BUF 0) (padTo 256 data)).auditRun := by
  rw [State.nvmEnd, h]
  rfl

theorem State.nvmEnd_failed {s : State} {op adr : Nat} (h : s.load.nvm = some (op, adr)) (data : List Byte) :
    s.nvmEnd false data = (s.nvmOver.set CFG_NVM_STATUS_ERR).auditRun := by
  rw [State.nvmEnd, h]
  rfl

theorem padTo_eq_self {n : Nat} {bs : List Byte} (h : bs.length = n) : padTo n bs = bs := by
  subst h
  exact List.take_left

theorem gives_nvmRead {s : State} {adr : Nat} {data : List Byte} (h : s.load.nvm = some (1, adr)) (len : data.length = 256) :
    Gives (.nvmOpDone true data) s fun t => t.bit CFG_NVM_STATUS_BUSY = false ∧ t.lineLevel 23 = true ∧ t.load.nvm = none ∧
      t.regBytes (CFG_NVM_BUF 0) 64 = data := by
  refine (gives_shown (exec_nvmOpDone true data s)).imp fun t shows => ?_
  have effect := State.nvmEnd_read (s := s.withOut []) h data
  rw [padTo_eq_self len] at effect
  rw [effect] at shows
  -- CFG_NVM_STATUS lies below the buffer, and the next audit leaves both alone.
  have status : ∀ f : Fld, f.addr = CFG_NVM_STATUS → t.bit f = (s.withOut []).nvmOver.bit f := fun f at' =>
    (shows.bit (by rw [at']; decide) (by rw [at']; decide)).trans <|
      (State.bit_of_word (State.auditRun_word _ (by rw [at']; decide))).trans <|
        State.bit_of_word (cellRead_cellWriteAll_below (by rw [at']; decide) ..)
  have buffer := shows.nvmBuf.trans <| State.regBytes_congr fun j _ =>
    State.auditRun_word ((s.withOut []).nvmOver.putRegBytes (CFG_NVM_BUF 0) data)
    (nvmBuf_ne_audit j)
  exact ⟨(status _ rfl).trans (State.nvmOver_busy _), (status CFG_NVM_STATUS_DONE rfl).trans (State.nvmOver_done _),
    (congrArg LoadState.nvm shows.load).trans (State.auditRun_nvm _), buffer.trans (State.regBytes_putRegBytes _ _ len)⟩

theorem gives_nvmFailed {s : State} {op adr : Nat} (data : List Byte) (h : s.load.nvm = some (op, adr)) :
    Gives (.nvmOpDone false data) s fun t => t.bit CFG_NVM_STATUS_BUSY = false ∧ t.bit CFG_NVM_STATUS_ERR = true ∧ t.load.nvm = none := by
  refine (gives_shown (exec_nvmOpDone false data s)).imp fun t shows => ?_
  rw [State.nvmEnd_failed (s := s.withOut []) h data] at shows
  have status : ∀ f : Fld, f.addr = CFG_NVM_STATUS → t.bit f = ((s.withOut []).nvmOver.set CFG_NVM_STATUS_ERR).bit f := fun f at' =>
    (shows.bit (by rw [at']; decide) (by rw [at']; decide)).trans (State.bit_of_word (State.auditRun_word _ (by rw [at']; decide)))
  exact ⟨(status _ rfl).trans <| (State.bit_set_disjoint _ CFG_NVM_STATUS_ERR _ (by decide) (by decide)).trans (State.nvmOver_busy _),
    (status _ rfl).trans (State.bit_set_same _ _ (by decide) (by decide)), (congrArg LoadState.nvm shows.load).trans (State.auditRun_nvm _)⟩

end Sys2Proof.Machine

/-!
SUPPORT. The image key fuses (R207), and O35.
-/
namespace Sys2Proof.Machine

/-! ### CFG_FUSE_CMD -/

theorem exec_fuseProgram (a : Acc) (go : BitVec 16) (s : State) :
    exec (.fuseProgram a go) s = actAll (·.regWrite a CFG_FUSE_CMD (go.setWidth 32)) s := rfl

theorem State.regWrite_fuse {s : State} {acc : Acc} (h : s.commandOk acc CFG_FUSE_CMD = true) :
    (s.withOut []).regWrite acc CFG_FUSE_CMD ((0xF05E : BitVec 16).setWidth 32) =
      ((s.atWrite CFG_FUSE_CMD).fuseCmd 0xF05E).complete acc.master.val 0 0 := by
  have started : ∀ (t : State) old, t.written CFG_FUSE_CMD ((0xF05E : BitVec 16).setWidth 32) old = t.fuseCmd 0xF05E := fun _ _ => rfl
  rw [State.regWrite_command (s.withOut []) acc CFG_FUSE_CMD _ h (by decide) (fun _ _ => rfl), started, State.finish_ok]
  rfl

/-- Programming runs after its command while no key is fused and the mode is that of fusing. -/
theorem State.fuseCmd_programs {s : State} (mode : s.modePins = 6) (unfused : s.bit CFG_KEY_STATE_FUSED = false) :
    (s.fuseCmd 0xF05E).bit CFG_KEY_STATE_FUSE_BUSY = true ∧ (s.fuseCmd 0xF05E).load = s.load := by
  unfold State.fuseCmd
  split
  · exact ⟨State.bit_set_same s _ (by decide) (by decide), rfl⟩
  · next stays =>
    refine ⟨?_, rfl⟩
    by_contra idle
    exact stays ⟨rfl, mode, by rw [unfused]; rfl, by rw [Bool.eq_false_iff.mpr idle]; rfl⟩

theorem State.fuseCmd_refused {s : State} (go : Nat) (h : s.modePins ≠ 6 ∨ s.bit CFG_KEY_STATE_FUSED = true) : s.fuseCmd go = s := by
  refine if_neg ?_
  rintro ⟨-, mode, unfused, -⟩
  rcases h with other | fused
  · exact other mode
  · rw [fused] at unfused
    cases unfused

theorem gives_fuseProgram {s : State} {acc : Acc} (h : s.commandOk acc CFG_FUSE_CMD = true) (mode : s.modePins = 6)
    (unfused : s.bit CFG_KEY_STATE_FUSED = false) :
    Gives (.fuseProgram acc 0xF05E) s fun t => t.bit CFG_KEY_STATE_FUSE_BUSY = true ∧ t.load = s.load := by
  obtain ⟨busy, load⟩ := State.fuseCmd_programs (s := s.atWrite CFG_FUSE_CMD) ((s.atWrite_get CFG_FUSE_CMD CFG_STATUS_MODE).trans mode)
    ((s.atWrite_bit CFG_FUSE_CMD _).trans unfused)
  refine (gives_written (exec_fuseProgram acc _ s) (State.regWrite_fuse h)).imp fun t shows => ?_
  exact ⟨(shows.bit (by decide) (by decide)).trans busy, shows.load.trans load⟩

theorem gives_fuseRefused {s : State} {acc : Acc} (h : s.commandOk acc CFG_FUSE_CMD = true)
    (closed : s.modePins ≠ 6 ∨ s.bit CFG_KEY_STATE_FUSED = true) : Gives (.fuseProgram acc 0xF05E) s fun t =>
      t.bit CFG_KEY_STATE_FUSE_BUSY = s.bit CFG_KEY_STATE_FUSE_BUSY ∧ t.load = s.load := by
  have closed' : (s.atWrite CFG_FUSE_CMD).modePins ≠ 6 ∨ (s.atWrite CFG_FUSE_CMD).bit CFG_KEY_STATE_FUSED = true :=
    closed.imp (fun other mode => other ((s.atWrite_get CFG_FUSE_CMD CFG_STATUS_MODE).symm.trans mode)) (s.atWrite_bit CFG_FUSE_CMD _).trans
  have effect := State.regWrite_fuse h
  rw [State.fuseCmd_refused _ closed'] at effect
  refine (gives_written (exec_fuseProgram acc _ s) effect).imp fun t shows => ?_
  exact ⟨(shows.bit (by decide) (by decide)).trans (s.atWrite_bit CFG_FUSE_CMD _), shows.load⟩

/-! ### The end of programming -/

theorem exec_fuseDone (verified : Bool) (s : State) : exec (.fuseDone verified) s = act (·.fuseEnd verified) s := rfl

/-- Programming is over, before the key's registers are zeroed. -/
def State.fuseOver (s : State) (verified : Bool) : State :=
  if verified then
    ((s.clr CFG_KEY_STATE_FUSE_BUSY).set CFG_KEY_STATE_FUSED).setLoad fun l => { l with fuse := some (s.regBytes (CFG_FUSE_DATA 0) 8) }
  else (s.clr CFG_KEY_STATE_FUSE_BUSY).set CFG_KEY_STATE_FUSE_FAIL

theorem State.fuseEnd_eq {s : State} (verified : Bool) (busy : s.bit CFG_KEY_STATE_FUSE_BUSY = true) :
    s.fuseEnd verified = (s.fuseOver verified).withRegs (clearRange (s.fuseOver verified).regs (CFG_FUSE_DATA 0) (CFG_FUSE_DATA 8)) := by
  rw [State.fuseEnd, busy]
  rfl

theorem State.fuseEnd_keyState {s : State} (verified : Bool) (busy : s.bit CFG_KEY_STATE_FUSE_BUSY = true) {f : Fld}
    (at' : f.addr = CFG_KEY_STATE) : (s.fuseEnd verified).bit f = (s.fuseOver verified).bit f := by
  rw [State.fuseEnd_eq verified busy]
  exact State.bit_of_word (cellRead_clearRange_below (by rw [at']; decide) _)

/-- The end of programming zeroes the registers that held the key. -/
theorem State.fuseEnd_zeroed {s : State} (verified : Bool) (busy : s.bit CFG_KEY_STATE_FUSE_BUSY = true) {j : Nat} (h : j < 8) :
    (s.fuseEnd verified).word (CFG_FUSE_DATA j) = 0 := by
  rw [State.fuseEnd_eq verified busy]
  have after : ¬ CFG_FUSE_DATA j < CFG_FUSE_DATA 0 := by
    unfold CFG_FUSE_DATA
    omega
  have before : ¬ CFG_FUSE_DATA 8 ≤ CFG_FUSE_DATA j := by
    unfold CFG_FUSE_DATA
    omega
  exact cellRead_filter_dropped (p := fun b => decide (b < CFG_FUSE_DATA 0) || decide (CFG_FUSE_DATA 8 ≤ b)) (by simp [after, before]) _

/-- What the end of programming shows: CFG_KEY_STATE, the loader's key, and CFG_FUSE_DATA at zero. -/
theorem gives_fuseEnd {s : State} (verified : Bool) (busy : s.bit CFG_KEY_STATE_FUSE_BUSY = true) : Gives (.fuseDone verified) s fun t =>
    (∀ f : Fld, f.addr = CFG_KEY_STATE → t.bit f = ((s.withOut []).fuseOver verified).bit f) ∧
      t.load = ((s.withOut []).fuseOver verified).load ∧ ∀ j, j < 8 → t.word (CFG_FUSE_DATA j) = 0 := by
  refine (gives_shown (exec_fuseDone verified s)).imp fun t shows => ⟨fun f at' => ?_, ?_, fun j hj => ?_⟩
  · exact (shows.bit (by rw [at']; decide) (by rw [at']; decide)).trans (State.fuseEnd_keyState (s := s.withOut []) verified busy at')
  · rw [shows.load, State.fuseEnd_eq (s := s.withOut []) verified busy]
    rfl
  · refine (shows.word _ ?_ ?_).trans (State.fuseEnd_zeroed (s := s.withOut []) verified busy hj)
    · simp only [CFG_FUSE_DATA]
      omega
    · simp only [CFG_FUSE_DATA, levelRegs, GRD_STATUS, SYS_SERVICE, GRD_EVENT, BIN_IRQ_STATUS, List.mem_cons, List.not_mem_nil, or_false]
      omega

theorem gives_fuseVerified {s : State} (busy : s.bit CFG_KEY_STATE_FUSE_BUSY = true) : Gives (.fuseDone true) s fun t =>
    t.bit CFG_KEY_STATE_FUSED = true ∧ t.bit CFG_KEY_STATE_FUSE_BUSY = false ∧
      t.load = { s.load with fuse := some (s.regBytes (CFG_FUSE_DATA 0) 8) } ∧ ∀ j, j < 8 → t.word (CFG_FUSE_DATA j) = 0 := by
  refine (gives_fuseEnd true busy).imp ?_
  rintro t ⟨state, load, zero⟩
  refine ⟨(state _ rfl).trans (State.bit_set_same ((s.withOut []).clr CFG_KEY_STATE_FUSE_BUSY) CFG_KEY_STATE_FUSED (by decide) (by decide)),
    (state _ rfl).trans ?_, load, zero⟩
  exact (State.bit_set_disjoint ((s.withOut []).clr CFG_KEY_STATE_FUSE_BUSY) CFG_KEY_STATE_FUSED CFG_KEY_STATE_FUSE_BUSY (by decide)
    (by decide)).trans (State.bit_clr_same _ _ (by decide))

theorem gives_fuseFailed {s : State} (busy : s.bit CFG_KEY_STATE_FUSE_BUSY = true) : Gives (.fuseDone false) s fun t =>
    t.bit CFG_KEY_STATE_FUSE_FAIL = true ∧ t.bit CFG_KEY_STATE_FUSE_BUSY = false ∧
      t.bit CFG_KEY_STATE_FUSED = s.bit CFG_KEY_STATE_FUSED ∧ t.load = s.load ∧ ∀ j, j < 8 → t.word (CFG_FUSE_DATA j) = 0 := by
  refine (gives_fuseEnd false busy).imp ?_
  rintro t ⟨state, load, zero⟩
  have beside : ∀ f : Fld, f.addr = CFG_KEY_STATE → f.lo + f.width ≤ 32 → CFG_KEY_STATE_FUSE_FAIL.disjoint f = true →
      t.bit f = ((s.withOut []).clr CFG_KEY_STATE_FUSE_BUSY).bit f := fun f at' fits apart =>
    (state f at').trans (State.bit_set_disjoint _ CFG_KEY_STATE_FUSE_FAIL f fits apart)
  refine ⟨(state _ rfl).trans ?_, ?_, ?_, load, zero⟩
  · exact State.bit_set_same ((s.withOut []).clr CFG_KEY_STATE_FUSE_BUSY) CFG_KEY_STATE_FUSE_FAIL (by decide) (by decide)
  · exact (beside _ rfl (by decide) (by decide)).trans (State.bit_clr_same _ _ (by decide))
  · exact (beside _ rfl (by decide) (by decide)).trans (State.bit_clr_disjoint _ _ _ (by decide) (by decide))

/-- Settles O35: audits by `auditRun` and `auditEnd`, memory operations by which are refused, and the key by `fuseCmd` and `fuseEnd`; what a
command sent out is not taken back by the blocks that react to it. -/
theorem auditsMemoryAndFuses : Obligations.AuditsMemoryAndFuses := by
  refine ⟨fun s => ⟨fun a golden h dev => ⟨?_, ?_⟩, ?_, ?_⟩, fun s a idle => ⟨?_, fun h on => ⟨?_, ?_⟩, ?_, ?_, ?_⟩,
    fun s => ⟨?_, ?_, gives_fuseVerified, gives_fuseFailed⟩⟩
  · exact gives_auditStarts h dev
  · exact gives_auditWaits h dev
  · exact gives_auditPeriod
  · exact fun header chunks found => gives_auditDone
  · exact fun h on => gives_nvmStarted (exec_cfgNvmRead a s) h (by decide) (by decide) idle (State.nvmRead_taken on)
  · exact fun free => gives_nvmStarted (exec_cfgNvmProgram a s) h (by decide) (by decide) idle (State.nvmWrite_taken on free)
  · exact fun free => gives_nvmStarted (exec_cfgNvmErase a s) h (by decide) (by decide) idle (State.nvmWrite_taken on free)
  · refine fun h off => (gives_nvmRefused (exec_cfgNvmRead a s) h (by decide) (by decide) idle (.inl off)).imp ?_
    rintro t ⟨denied, done, -, load, -⟩
    exact ⟨denied, done, load⟩
  · exact fun data adr => gives_nvmRead
  · exact fun data op adr => gives_nvmFailed data
  · exact fun a h => gives_fuseProgram h
  · exact fun a closed h => gives_fuseRefused h closed

end Sys2Proof.Machine

/-!
SUPPORT. The fabric user window (R262 to R264): what an access of it does as a bus access, by what answers it, and how one that waits ends.
-/
namespace Sys2Proof.Machine

/-! ### An access of the window -/

/-- Every word of the window lies in it. -/
theorem blockOf_fabricWindow {a : Nat} (lo : 0x50000000 ≤ a) (hi : a < 0x51000000) : blockOf (a / 4 * 4) = some 20 := by
  have above : ∀ b, b ≤ 0x50000000 → ¬ a / 4 * 4 < b := fun b hb => by omega
  have inside : 0x50000000 ≤ a / 4 * 4 ∧ a / 4 * 4 < 0x51000000 := by omega
  simp only [blockOf, above _ (by decide : 0x40000000 ≤ 0x50000000), above _ (by decide : 0x40008000 ≤ 0x50000000),
    above _ (by decide : 0x40010000 ≤ 0x50000000), above _ (by decide : 0x40060000 ≤ 0x50000000),
    above _ (by decide : 0x40080000 ≤ 0x50000000), above _ (by decide : 0x400A0000 ≤ 0x50000000),
    above _ (by decide : 0x400C0000 ≤ 0x50000000), above _ (by decide : 0x40100000 ≤ 0x50000000),
    above _ (by decide : 0x40190000 ≤ 0x50000000), inside, if_false, if_true, and_self]

/-- A read of the window with good parity is presented to the fabric. -/
theorem State.busReadAck_window {s : State} {m : Nat} {addr : Word} (ht : s.busTakes m = true)
    (hb : blockOf (addr.toNat / 4 * 4) = some 20) (ack : Option Word) : s.busReadAck m 0 addr ack = s.fsWindow m false 0 addr 0 ack := by
  simp only [State.busReadAck, ht, parityHolds_flips, hb, beq_self_eq_true, Bool.not_true, Bool.false_eq_true, if_false, if_true]

/-- A write of the window with good parity is presented to the fabric. -/
theorem State.busWriteAck_window {s : State} {acc : Acc} {addr : Word} (ht : s.busTakes acc.master.val = true) (hp : acc.addrFlips = 0)
    (hq : acc.dataFlips = 0) (hb : blockOf (addr.toNat / 4 * 4) = some 20) (v : Word) (ack : Option Word) :
    s.busWriteAck acc addr v ack = s.fsWindow acc.master.val true acc.strobe addr v ack := by
  simp only [State.busWriteAck, ht, parityHolds_flips, hp, hq, hb, beq_self_eq_true, Bool.and_self, Bool.not_true, Bool.false_eq_true,
    if_false, if_true]

theorem exec_fsAccess_read (acc : Acc) (addr v : Word) (ack : Option Word) (s : State) :
    exec (.fsAccess acc false addr v ack) s = actAll (·.busReadAck acc.master.val acc.addrFlips addr ack) s := rfl

theorem exec_fsAccess_write (acc : Acc) (addr v : Word) (ack : Option Word) (s : State) :
    exec (.fsAccess acc true addr v ack) s = actAll (·.busWriteAck acc addr v ack) s := rfl

/-- The command FS_ACCESS of the window gives what the window makes of it, whatever its strobes and data. -/
theorem gives_fsAccess {s : State} {acc : Acc} {write : Bool} {addr v : Word} {ack : Option Word} {P : State → Prop}
    (ht : s.busTakes acc.master.val = true) (hp : acc.addrFlips = 0) (hq : acc.dataFlips = 0) (lo : 0x50000000 ≤ addr.toNat)
    (hi : addr.toNat < 0x51000000) (h : ∀ be d, P ((s.withOut []).fsWindow acc.master.val write be addr d ack).refresh.settle) :
    Gives (.fsAccess acc write addr v ack) s P := by
  have takes : (s.withOut []).busTakes acc.master.val = true := ht
  have window := blockOf_fabricWindow lo hi
  cases write
  case false =>
    refine gives_actAll (exec_fsAccess_read acc addr v ack s) ?_
    rw [hp, State.busReadAck_window takes window]
    exact h 0 0
  case true =>
    refine gives_actAll (exec_fsAccess_write acc addr v ack s) ?_
    rw [State.busWriteAck_window takes hp hq window]
    exact h acc.strobe v

/-! ### What answers it -/

/-- While the fabric cannot answer, an access finishes with DONE and 0 (R264). -/
theorem State.fsWindow_unanswerable {s : State} (h : s.bit FAB_STATUS_RELEASED = false ∨ s.isolatedR 12 = true) (m : Nat) (write : Bool)
    (be : BitVec 4) (addr d : Word) (ack : Option Word) : s.fsWindow m write be addr d ack = s.finish m 0 write addr 0 := by
  have dead : s.fsLive = false := by
    rcases h with h | h <;> simp only [State.fsLive, h, Bool.false_and, Bool.not_true, Bool.and_false]
  simp only [State.fsWindow, dead, Bool.not_false, if_true]

section Live
variable {s : State} (released : s.bit FAB_STATUS_RELEASED = true) (there : s.isolatedR 12 = false)
include released there

theorem State.fsLive_of_released : s.fsLive = true := by
  simp only [State.fsLive, released, there, Bool.not_false, Bool.and_self]

/-- An access that the fabric acknowledges finishes with DONE and, for a read, the fabric's word (R262). -/
theorem State.fsWindow_acknowledged (clocked : s.pwr.graceOver = false) (m : Nat) (write : Bool) (be : BitVec 4) (addr d w : Word) :
    s.fsWindow m write be addr d (some w) =
      (s.emit (.fsRequest write (addr.setWidth 24) d be)).finish m 0 write addr (if write then 0 else w) := by
  simp only [State.fsWindow, State.fsLive_of_released released there, State.emit_pwr, clocked, Bool.not_true, Bool.false_eq_true, if_false]

/-- An access that nothing acknowledges joins those that wait (R263). -/
theorem State.fsWindow_waits (m : Nat) (write : Bool) (be : BitVec 4) (addr d : Word) :
    (s.fsWindow m write be addr d none).bus = { s.bus with fs := s.bus.fs ++ [(m, write, addr.toNat, d)] } := by
  simp only [State.fsWindow, State.fsLive_of_released released there, Bool.not_true, Bool.false_eq_true, if_false]
  rfl

end Live

/-- What a command answers whose access finishes with DONE, once the other blocks have reacted and the levels are up to date. -/
theorem State.finish_answers {s : State} (m : Nat) (write : Bool) (addr d : Word) :
    (s.finish m 0 write addr d).refresh.settle.busCode m = 0 ∧ (s.finish m 0 write addr d).refresh.settle.busData m = d ∧
      (s.finish m 0 write addr d).refresh.settle.bus.fs = s.bus.fs := by
  refine ⟨?_, ?_, ?_⟩
  · rw [State.settle_busCode, State.refresh_busCode, State.busCode_finish _ _ (by decide)]
  · rw [State.settle_busData, State.refresh_busData, State.busData_finish]
  · rw [State.settle_bus, State.refresh_bus]
    rfl

/-! ### The end of one that waits -/

/-- The access of a master that waits finishes with DONE and 0, and no longer waits. -/
theorem State.fsEnd_waiting {s : State} {m : Nat} (h : s.bus.fs.any (·.1 == m) = true) :
    ∃ write addr, s.fsEnd m = (s.withBus { s.bus with fs := s.bus.fs.filter (·.1 != m) }).finish m 0 write addr 0 := by
  obtain ⟨x, found⟩ : ∃ x, s.bus.fs.find? (·.1 == m) = some x := by
    rwa [← Option.isSome_iff_exists, List.find?_isSome, ← List.any_eq_true]
  refine ⟨x.2.1, BitVec.ofNat 32 x.2.2.1, ?_⟩
  simp only [State.fsEnd, found]

/-- What a timeout records: FS_TIMEOUT is set and counted. -/
def State.fsTimeoutCounted (s : State) : State := (s.set FAB_STATUS_FS_TIMEOUT).satInc FAB_FS_TIMEOUT_COUNT FAB_FS_TIMEOUT_OVF

theorem State.fsTimeoutCounted_bus (s : State) : s.fsTimeoutCounted.bus = s.bus := (State.satInc_touches ..).bus rfl

theorem State.fsTimeoutCounted_flag (s : State) : s.fsTimeoutCounted.bit FAB_STATUS_FS_TIMEOUT = true :=
  (State.bit_of_word (State.satInc_word_ne _ (by decide) (by decide))).trans (State.bit_set_same s _ (by decide) (by decide))

theorem State.fsTimeoutCounted_count (s : State) :
    s.fsTimeoutCounted.get FAB_FS_TIMEOUT_COUNT = min (s.get FAB_FS_TIMEOUT_COUNT + 1) 4095 :=
  (State.satAdd_get _ 1 (by decide) (by decide)).trans
    (congrArg (fun n => min (n + 1) 4095) (State.get_put_ne s FAB_STATUS_FS_TIMEOUT FAB_FS_TIMEOUT_COUNT 1 (by decide)))

/-- The timeout of an access that waits, unless it is the Binnacle port's, is recorded and ends the access. -/
theorem State.fsTimedOut_waiting {s : State} {m : Nat} (h12 : m ≠ 12) (h : s.bus.fs.any (·.1 == m) = true) :
    s.fsTimedOut m = s.fsTimeoutCounted.fsEnd m := by
  simp only [State.fsTimedOut, State.fsTimeout, State.iff, h, beq_eq_false_iff_ne.mpr h12, Bool.false_eq_true, if_true, if_false]
  rfl

/-- No access of a master waits once those of that master have been taken out. -/
theorem any_filter_master {α : Type} (fs : List (Nat × α)) (m : Nat) : (fs.filter (·.1 != m)).any (·.1 == m) = false := by
  rw [List.any_eq_false]
  intro x hx
  simpa using (List.mem_filter.mp hx).2

theorem exec_fsTimeout (m : Fin 16) (s : State) : exec (.fsTimeout m) s = act (·.fsTimedOut m.val) s := rfl

/-- The command FS_TIMEOUT for an access that waits, unless it is the Binnacle port's. -/
theorem gives_fsTimeout {s : State} {m : Fin 16} (h12 : m.val ≠ 12) (h : s.bus.fs.any (·.1 == m.val) = true) :
    Gives (.fsTimeout m) s fun t => t.busCode m.val = 0 ∧ t.busData m.val = 0 ∧ t.bus.fs.any (·.1 == m.val) = false ∧
      t.bit FAB_STATUS_FS_TIMEOUT = true ∧ t.get FAB_FS_TIMEOUT_COUNT = min (s.get FAB_FS_TIMEOUT_COUNT + 1) 4095 := by
  have waits : (s.withOut []).fsTimeoutCounted.bus.fs.any (·.1 == m.val) = true := by rwa [State.fsTimeoutCounted_bus]
  obtain ⟨write, addr, ended⟩ := State.fsEnd_waiting waits
  refine gives_act (exec_fsTimeout m s) ?_
  rw [State.fsTimedOut_waiting (s := s.withOut []) h12 h, ended]
  refine ⟨?_, ?_, ?_, ?_, ?_⟩
  · rw [State.settle_busCode, State.busCode_finish _ _ (by decide)]
  · rw [State.settle_busData, State.busData_finish]
  · rw [State.settle_bus]
    exact any_filter_master _ m.val
  · rw [State.settle_bit_pwr _ (by decide), State.finish_ok, State.complete_bit, State.withBus_bit, State.fsTimeoutCounted_flag]
  · rw [State.settle_get_pwr _ (by decide), State.finish_ok, State.complete_get, State.withBus_get, State.fsTimeoutCounted_count,
      State.withOut_get]

/-- Settles O20: an access of the window by what answers it, and the timeout of one that waits. -/
theorem fabricWindow : Obligations.FabricWindow := by
  refine ⟨fun s acc write addr v ht hp hq lo hi => ⟨fun ack dead => ?_, fun d released there clocked => ?_, fun released there => ?_⟩,
    fun s m => gives_fsTimeout⟩
  · refine gives_fsAccess ht hp hq lo hi fun be w => ?_
    rw [State.fsWindow_unanswerable (s := s.withOut []) dead]
    exact State.finish_answers ..
  · refine gives_fsAccess ht hp hq lo hi fun be w => ?_
    rw [State.fsWindow_acknowledged (s := s.withOut []) released there clocked]
    exact State.finish_answers ..
  · refine gives_fsAccess ht hp hq lo hi fun be w => ?_
    rw [State.settle_bus, State.refresh_bus, State.fsWindow_waits (s := s.withOut []) released there]
    exact ⟨by simp, rfl⟩

end Sys2Proof.Machine

/-!
SUPPORT. What a fault report leaves in GRD_LAST and GRD_PENDING (R873, R879), and a paired mismatch (R223, R224).
-/
namespace Sys2Proof.Machine

/-! ### The parts of a report -/

theorem evtFld_guard {line : Nat} (h : line < 40) : (evtFld line).addr = GRD_EVENT := congrArg Fld.addr (if_pos h)

theorem State.blockLog_word (s : State) (code block inst detail : Nat) {a : Nat} (h : a ≠ LOG_LOST) :
    (s.blockLog code block inst detail).word a = s.word a := by
  unfold State.blockLog
  split
  · rfl
  · exact State.satInc_word_ne s h h

theorem State.grdPut_word (s : State) (n inst : Nat) {v b f i : Fld} {a : Nat} (hv : a ≠ v.addr) (hb : a ≠ b.addr) (hf : a ≠ f.addr)
    (hi : a ≠ i.addr) : (s.grdPut n inst v b f i).word a = s.word a :=
  (State.word_put_ne _ _ _ _ hi).trans <| (State.word_put_ne _ _ _ _ hf).trans <| (State.word_put_ne _ _ _ _ hb).trans <|
    State.word_put_ne _ _ _ _ hv

/-- The record of the last report holds its fault and where it was. -/
theorem State.grdRecord_last (s : State) {n inst : Nat} (hn : n < 64) (hi : inst < 65536) :
    (s.grdRecord n inst).get GRD_LAST_N = n ∧ (s.grdRecord n inst).get GRD_LAST_INSTANCE = inst := by
  have kept : (s.grdRecord n inst).word GRD_LAST =
      (s.grdPut n inst GRD_LAST_VALID GRD_LAST_BLOCK GRD_LAST_N GRD_LAST_INSTANCE).word GRD_LAST := by
    unfold State.grdRecord State.iff
    extract_lets last
    split
    · exact State.grdPut_word _ _ _ (by decide) (by decide) (by decide) (by decide)
    · rfl
  constructor
  · calc (s.grdRecord n inst).get GRD_LAST_N
      _ = (s.grdPut n inst GRD_LAST_VALID GRD_LAST_BLOCK GRD_LAST_N GRD_LAST_INSTANCE).get GRD_LAST_N := State.get_of_word kept
      _ = (((s.set GRD_LAST_VALID).put GRD_LAST_BLOCK (faultRow n).block).put GRD_LAST_N n).get GRD_LAST_N :=
        State.get_put_disjoint _ GRD_LAST_INSTANCE GRD_LAST_N inst (by decide) (by decide)
      _ = n % 2 ^ 6 := State.get_put_same _ _ _ (by decide)
      _ = n := Nat.mod_eq_of_lt hn
  · calc (s.grdRecord n inst).get GRD_LAST_INSTANCE
      _ = (s.grdPut n inst GRD_LAST_VALID GRD_LAST_BLOCK GRD_LAST_N GRD_LAST_INSTANCE).get GRD_LAST_INSTANCE := State.get_of_word kept
      _ = inst % 2 ^ 16 := State.get_put_same _ _ _ (by decide)
      _ = inst := Nat.mod_eq_of_lt hi

theorem State.grdCount_word (s : State) (n : Nat) {a : Nat} (hm : a ≠ GRD_CNT_MASKED) (hd : a ≠ GRD_CNT_DETECTED) (he : a ≠ GRD_EVENT) :
    (s.grdCount n).word a = s.word a := by
  have raised : ∀ (x : State) line, line < 40 → (x.event line).word a = x.word a := fun x line hi =>
    State.word_put_ne x _ _ _ (by rwa [evtFld_guard hi])
  unfold State.grdCount
  cases (faultRow n).kind
  case masked => exact (raised _ 34 (by decide)).trans (State.satInc_word_ne s hm hm)
  case detected => exact (raised _ 33 (by decide)).trans (State.satInc_word_ne s hd hd)
  case condition => exact (raised _ 33 (by decide)).trans (State.satInc_word_ne s hd hd)

theorem State.grdEntry_word (s : State) (n inst detail : Nat) {a : Nat} (hr : a ≠ GRD_CNT_REPEATS) (hl : a ≠ LOG_LOST) :
    (s.grdEntry n inst detail).word a = s.word a := by
  unfold State.grdEntry
  split_ifs
  · rfl
  · exact State.satInc_word_ne s hr hr
  · exact State.blockLog_word s _ _ _ _ hl

theorem pendingFld_register (n : Nat) : (pendingFld n).addr = GRD_PENDING_LO ∨ (pendingFld n).addr = GRD_PENDING_HI := by
  unfold pendingFld grdBit
  split
  · exact .inl rfl
  · exact .inr rfl

theorem degradedFld_register (n : Nat) : (degradedFld n).addr = GRD_DEGRADED_LO ∨ (degradedFld n).addr = GRD_DEGRADED_HI := by
  unfold degradedFld grdBit
  split
  · exact .inl rfl
  · exact .inr rfl

/-- The reaction of a degraded class keeps every register but the degraded classes' and the events'. -/
theorem State.degraded_word (s : State) (n : Nat) {a : Nat} (hlo : a ≠ GRD_DEGRADED_LO) (hhi : a ≠ GRD_DEGRADED_HI) (he : a ≠ GRD_EVENT) :
    (s.iff (faultRow n).degraded fun s => (s.set (degradedFld n)).event 35).word a = s.word a := by
  unfold State.iff
  split
  · have apart : a ≠ (degradedFld n).addr := by rcases degradedFld_register n with e | e <;> rwa [e]
    exact (State.word_put_ne _ (evtFld 35) _ _ he).trans (State.word_put_ne s _ _ _ apart)
  · rfl

/-- The reaction leaves GRD_LAST as it was. -/
theorem State.grdReact_last (s : State) (n inst : Nat) : (s.grdReact n inst).word GRD_LAST = s.word GRD_LAST := by
  refine (State.degraded_word _ n (by decide) (by decide) (by decide)).trans ?_
  split
  · exact State.word_put_ne s _ _ _ (by rcases pendingFld_register n with e | e <;> rw [e] <;> decide)
  · rfl

/-- A latched fault is pending after its reaction. -/
theorem State.grdReact_pending (s : State) {n : Nat} (inst : Nat) (hn : n < 64) (latched : (faultRow n).latched = true) :
    (s.grdReact n inst).bit (pendingFld n) = true := by
  have fits : (pendingFld n).lo + (pendingFld n).width ≤ 32 ∧ (pendingFld n).width ≠ 0 := by
    unfold pendingFld grdBit
    split
    · exact ⟨by simp only; omega, by simp⟩
    · exact ⟨by simp only; omega, by simp⟩
  have apart : ∀ a, a = GRD_DEGRADED_LO ∨ a = GRD_DEGRADED_HI ∨ a = GRD_EVENT → (pendingFld n).addr ≠ a := by
    rcases pendingFld_register n with e | e <;> rw [e] <;> rintro a (rfl | rfl | rfl) <;> decide
  refine (State.bit_of_word (State.degraded_word _ n (apart _ (.inl rfl)) (apart _ (.inr (.inl rfl))) (apart _ (.inr (.inr rfl))))).trans ?_
  rw [if_pos latched, State.withGrd_bit, State.bit_set_same s _ fits.1 fits.2]

/-! ### A report -/

theorem State.report_eq {s : State} (on : s.dev ≠ .off) (n inst detail : Nat) :
    s.report n inst detail = ((((s.grdMulti n).grdRecord n inst).grdCount n).grdEntry n inst detail).grdReact n inst :=
  if_neg (by simpa using on)

/-- GRD_LAST holds the fault of a report and where it was. -/
theorem State.report_last {s : State} (on : s.dev ≠ .off) {n inst : Nat} (hn : n < 64) (hi : inst < 65536) (detail : Nat) :
    (s.report n inst detail).get GRD_LAST_N = n ∧ (s.report n inst detail).get GRD_LAST_INSTANCE = inst := by
  have kept : (s.report n inst detail).word GRD_LAST = ((s.grdMulti n).grdRecord n inst).word GRD_LAST := by
    rw [State.report_eq on, State.grdReact_last, State.grdEntry_word _ _ _ _ (by decide) (by decide),
      State.grdCount_word _ _ (by decide) (by decide) (by decide)]
  obtain ⟨fault, inst'⟩ := (s.grdMulti n).grdRecord_last hn hi
  exact ⟨(State.get_of_word (f := GRD_LAST_N) kept).trans fault, (State.get_of_word (f := GRD_LAST_INSTANCE) kept).trans inst'⟩

/-- A report of a latched fault leaves it pending. -/
theorem State.report_pending {s : State} (on : s.dev ≠ .off) {n : Nat} (hn : n < 64) (latched : (faultRow n).latched = true)
    (inst detail : Nat) : (s.report n inst detail).bit (pendingFld n) = true := by
  rw [State.report_eq on]
  exact State.grdReact_pending _ _ hn latched

/-! ### A region whose compares and sweeps run -/

theorem State.fabricRuns_on {s : State} {r : Nat} (h : s.fabricRuns r = true) : s.dev ≠ .off := by
  intro off
  simp [State.fabricRuns, State.inService, off] at h

/-- Whether they run is told by RELEASED, the power state and the isolated regions. -/
theorem State.fabricRuns_congr {s t : State} (released : t.bit FAB_STATUS_RELEASED = s.bit FAB_STATUS_RELEASED) (dev : t.dev = s.dev)
    (fab : t.fab = s.fab) (r : Nat) : t.fabricRuns r = s.fabricRuns r := by
  simp only [State.fabricRuns, State.inService, State.isolatedR, released, dev, fab]

/-! ### A paired mismatch -/

/-- The compare's own record: the cell differs, and its output is forced as the image sets its reaction. -/
def State.pairDiffers (s : State) (key : Nat) : State := s.setFab fun f => { f with
  differ := key :: f.differ.filter (· != key),
  forced := match (s.cellSets key).reaction with
    | .followA => f.forced
    | .safe0 => (key, false) :: f.forced.filter fun x => x.1 != key
    | .safe1 => (key, true) :: f.forced.filter fun x => x.1 != key }

/-- A mismatch is counted in the fabric's registers. -/
def State.pairCounted (s : State) : State := (s.set FAB_STATUS_PAIR).satInc FAB_PAIR_COUNT_COUNT FAB_PAIR_COUNT_OVF

/-- The first mismatch is kept. -/
def State.pairKept (s : State) (r tile cell : Nat) : State := s.iff (!s.bit FAB_PAIR_FIRST_VALID) fun s =>
  (((s.set FAB_PAIR_FIRST_VALID).put FAB_PAIR_FIRST_REGION r).put FAB_PAIR_FIRST_TILE tile).put FAB_PAIR_FIRST_CELL cell

/-- What a mismatch leaves before it is reported. -/
def State.pairRecord (s : State) (r tile cell : Nat) : State := ((s.pairDiffers (cellKey r tile cell)).pairCounted).pairKept r tile cell

theorem State.pairMismatch_runs {s : State} {r : Nat} (h : s.fabricRuns r = true) (tile cell : Nat) :
    s.pairMismatch r tile cell = (s.pairRecord r tile cell).report 12 r ((s.pairRecord r tile cell).word FAB_PAIR_FIRST).toNat :=
  if_neg (by simp [h])

theorem State.pairMismatch_stopped {s : State} {r : Nat} (h : s.fabricRuns r = false) (tile cell : Nat) : s.pairMismatch r tile cell = s :=
  if_pos (by simp [h])

/-- An upset of a cell that does not run is none. -/
theorem State.pairUpset_stopped {s : State} {r : Nat} (h : s.fabricRuns r = false) (tile cell : Nat) : s.pairUpset r tile cell = s := by
  simp only [State.pairUpset, State.iff, h, Bool.false_and, Bool.false_eq_true, if_false, State.pairMismatch_stopped h]

/-- The upset that a mismatch finds changes flip-flops and takes a free value, and nothing else. -/
theorem State.pairUpset_eq (s : State) (r tile cell : Nat) :
    ∃ lgc fresh, s.pairUpset r tile cell = ((s.withLgc lgc).withFresh fresh).pairMismatch r tile cell := by
  unfold State.pairUpset State.iff
  extract_lets k upset
  have changed : ∃ lgc fresh, upset = (s.withLgc lgc).withFresh fresh := by
    unfold upset
    split
    · exact ⟨_, _, rfl⟩
    · exact ⟨s.lgc, s.fresh, rfl⟩
  obtain ⟨lgc, fresh, h⟩ := changed
  exact ⟨lgc, fresh, congrArg (·.pairMismatch r tile cell) h⟩

theorem State.pairKept_word (s : State) (r tile cell : Nat) {a : Nat} (h : a ≠ FAB_PAIR_FIRST) : (s.pairKept r tile cell).word a = s.word a := by
  unfold State.pairKept State.iff
  split
  · exact (State.word_put_ne _ FAB_PAIR_FIRST_CELL _ _ h).trans <| (State.word_put_ne _ FAB_PAIR_FIRST_TILE _ _ h).trans <|
      (State.word_put_ne _ FAB_PAIR_FIRST_REGION _ _ h).trans <| State.word_put_ne _ FAB_PAIR_FIRST_VALID _ _ h
  · rfl

/-- Where none is kept, this one is. -/
theorem State.pairKept_first {s : State} (none : s.bit FAB_PAIR_FIRST_VALID = false) {r tile cell : Nat} (hr : r < 16) (ht : tile < 15360)
    (hc : cell < 8) : (s.pairKept r tile cell).get FAB_PAIR_FIRST_REGION = r ∧ (s.pairKept r tile cell).get FAB_PAIR_FIRST_TILE = tile ∧
      (s.pairKept r tile cell).get FAB_PAIR_FIRST_CELL = cell := by
  have kept : s.pairKept r tile cell =
      (((s.set FAB_PAIR_FIRST_VALID).put FAB_PAIR_FIRST_REGION r).put FAB_PAIR_FIRST_TILE tile).put FAB_PAIR_FIRST_CELL cell := by
    simp only [State.pairKept, State.iff, none, Bool.not_false, if_true]
  rw [kept]
  refine ⟨?_, ?_, ?_⟩
  · rw [State.get_put_disjoint _ _ _ _ (by decide) (by decide), State.get_put_disjoint _ _ _ _ (by decide) (by decide),
      State.get_put_same _ _ _ (by decide)]
    exact Nat.mod_eq_of_lt hr
  · rw [State.get_put_disjoint _ _ _ _ (by decide) (by decide), State.get_put_same _ _ _ (by decide)]
    exact Nat.mod_eq_of_lt (Nat.lt_trans ht (by decide))
  · rw [State.get_put_same _ _ _ (by decide)]
    exact Nat.mod_eq_of_lt hc

/-- A mismatch that is kept stays. -/
theorem State.pairKept_later {s : State} (some : s.bit FAB_PAIR_FIRST_VALID = true) (r tile cell : Nat) : s.pairKept r tile cell = s := by
  simp only [State.pairKept, State.iff, some, Bool.not_true, Bool.false_eq_true, if_false]

section Record
variable (s : State) (r tile cell : Nat)

theorem State.pairRecord_status : (s.pairRecord r tile cell).bit FAB_STATUS_PAIR = true :=
  (State.bit_of_word (State.pairKept_word _ _ _ _ (by decide))).trans <|
    (State.bit_of_word (State.satInc_word_ne _ (by decide) (by decide))).trans <| State.bit_set_same _ _ (by decide) (by decide)

theorem State.pairRecord_count : (s.pairRecord r tile cell).get FAB_PAIR_COUNT_COUNT =
    min (s.get FAB_PAIR_COUNT_COUNT + 1) (2 ^ FAB_PAIR_COUNT_COUNT.width - 1) :=
  calc (s.pairRecord r tile cell).get FAB_PAIR_COUNT_COUNT
    _ = (s.pairDiffers (cellKey r tile cell)).pairCounted.get FAB_PAIR_COUNT_COUNT :=
      State.get_of_word (State.pairKept_word _ _ _ _ (by decide))
    _ = min (((s.pairDiffers (cellKey r tile cell)).set FAB_STATUS_PAIR).get FAB_PAIR_COUNT_COUNT + 1)
          (2 ^ FAB_PAIR_COUNT_COUNT.width - 1) := State.satAdd_get _ 1 (by decide) (by decide)
    _ = min (s.get FAB_PAIR_COUNT_COUNT + 1) (2 ^ FAB_PAIR_COUNT_COUNT.width - 1) :=
      congrArg (fun n => min (n + 1) _) (State.get_put_ne (s.pairDiffers _) FAB_STATUS_PAIR _ 1 (by decide))

/-- Until it is kept, the register of the first mismatch is as before. -/
theorem State.pairCounted_first (x : State) : x.pairCounted.word FAB_PAIR_FIRST = x.word FAB_PAIR_FIRST :=
  (State.satInc_word_ne _ (by decide) (by decide)).trans (State.word_put_ne x FAB_STATUS_PAIR _ _ (by decide))

theorem State.pairRecord_touches : Touches 2 (s.pairDiffers (cellKey r tile cell)) (s.pairRecord r tile cell) :=
  Touches.iff ((State.satInc_touches ..).seq rfl (State.set_touches ..)) fun _ h => (State.put_touches ..).seq rfl <|
    (State.put_touches ..).seq rfl <| (State.put_touches ..).seq rfl <| (State.set_touches ..).seq rfl h

end Record

/-- The key of a cell is forced as the reaction says. -/
theorem State.pairDiffers_forced (s : State) (key : Nat) : match (s.cellSets key).reaction with
    | .followA => (s.pairDiffers key).fab.forced = s.fab.forced
    | .safe0 => (key, false) ∈ (s.pairDiffers key).fab.forced
    | .safe1 => (key, true) ∈ (s.pairDiffers key).fab.forced := by
  simp only [State.pairDiffers, State.setFab, State.withFab_fab]
  cases (s.cellSets key).reaction
  case followA => rfl
  case safe0 => exact List.mem_cons_self
  case safe1 => exact List.mem_cons_self

/-! ### The command -/

section Runs
variable {s : State} {r : Nat} (runs : s.fabricRuns r = true) (tile cell : Nat)
include runs

/-- The report of a mismatch leaves the registers below the guarantee unit's. -/
theorem State.pairMismatch_low {a : Nat} (ha : a < 0x40040000) :
    (s.pairMismatch r tile cell).word a = (s.pairRecord r tile cell).word a := by
  rw [State.pairMismatch_runs runs]
  exact (State.report_low ..).word a ha

theorem State.pairRecord_on : (s.pairRecord r tile cell).dev ≠ .off :=
  ((s.pairRecord_touches r tile cell).dev rfl).trans_ne (State.fabricRuns_on runs)

theorem State.pairMismatch_status : (s.pairMismatch r tile cell).bit FAB_STATUS_PAIR = true :=
  (State.bit_of_word (State.pairMismatch_low runs tile cell (by decide))).trans (State.pairRecord_status s r tile cell)

theorem State.pairMismatch_count : (s.pairMismatch r tile cell).get FAB_PAIR_COUNT_COUNT =
    min (s.get FAB_PAIR_COUNT_COUNT + 1) (2 ^ FAB_PAIR_COUNT_COUNT.width - 1) :=
  (State.get_of_word (State.pairMismatch_low runs tile cell (by decide))).trans (State.pairRecord_count s r tile cell)

theorem State.pairMismatch_pending : (s.pairMismatch r tile cell).bit (pendingFld 12) = true := by
  rw [State.pairMismatch_runs runs, State.report_pending (State.pairRecord_on runs tile cell) (by decide) (by decide)]

theorem State.pairMismatch_region (hr : r < 16) : (s.pairMismatch r tile cell).get GRD_LAST_INSTANCE = r := by
  rw [State.pairMismatch_runs runs]
  exact (State.report_last (State.pairRecord_on runs tile cell) (by decide) (Nat.lt_trans hr (by decide)) _).2

/-- The first mismatch is kept. -/
theorem State.pairMismatch_first (none : s.bit FAB_PAIR_FIRST_VALID = false) (hr : r < 16) (ht : tile < 15360) (hc : cell < 8) :
    (s.pairMismatch r tile cell).get FAB_PAIR_FIRST_REGION = r ∧ (s.pairMismatch r tile cell).get FAB_PAIR_FIRST_TILE = tile ∧
      (s.pairMismatch r tile cell).get FAB_PAIR_FIRST_CELL = cell := by
  have low : ∀ f : Fld, f.addr = FAB_PAIR_FIRST → (s.pairMismatch r tile cell).get f = (s.pairRecord r tile cell).get f := fun f hf =>
    State.get_of_word (State.pairMismatch_low runs tile cell (by rw [hf]; decide))
  rw [low _ rfl, low _ rfl, low _ rfl]
  exact State.pairKept_first ((State.bit_of_word (State.pairCounted_first _)).trans none) hr ht hc

/-- A later one leaves the register of the first as it was. -/
theorem State.pairMismatch_later (some : s.bit FAB_PAIR_FIRST_VALID = true) :
    (s.pairMismatch r tile cell).word FAB_PAIR_FIRST = s.word FAB_PAIR_FIRST := by
  rw [State.pairMismatch_low runs tile cell (by decide), State.pairRecord,
    State.pairKept_later ((State.bit_of_word (State.pairCounted_first (s.pairDiffers _))).trans some), State.pairCounted_first]
  rfl

theorem State.pairMismatch_fab : (s.pairMismatch r tile cell).fab = (s.pairDiffers (cellKey r tile cell)).fab := by
  rw [State.pairMismatch_runs runs, (State.report_touches ..).fab rfl, (s.pairRecord_touches r tile cell).fab rfl]

end Runs

theorem exec_pairMismatch (region : Fin 16) (tile : Fin 15360) (cell : Fin 8) (s : State) :
    exec (.pairMismatch region tile cell) s = act (·.pairUpset region.val tile.val cell.val) s := rfl

/-- The command PAIR_MISMATCH in a region that runs (R223, R224). -/
theorem gives_pairMismatch {s : State} {region : Fin 16} (runs : s.fabricRuns region.val = true) (tile : Fin 15360) (cell : Fin 8) :
    Gives (.pairMismatch region tile cell) s fun t =>
      t.bit FAB_STATUS_PAIR = true ∧ t.bit (pendingFld 12) = true ∧ t.get GRD_LAST_INSTANCE = region.val ∧
      t.get FAB_PAIR_COUNT_COUNT = min (s.get FAB_PAIR_COUNT_COUNT + 1) (2 ^ FAB_PAIR_COUNT_COUNT.width - 1) ∧
      (s.bit FAB_PAIR_FIRST_VALID = false → t.get FAB_PAIR_FIRST_REGION = region.val ∧ t.get FAB_PAIR_FIRST_TILE = tile.val ∧
        t.get FAB_PAIR_FIRST_CELL = cell.val) ∧
      (s.bit FAB_PAIR_FIRST_VALID = true → t.word FAB_PAIR_FIRST = s.word FAB_PAIR_FIRST) ∧
      t.fab = (s.pairDiffers (cellKey region.val tile.val cell.val)).fab := by
  obtain ⟨lgc, fresh, upset⟩ := (s.withOut []).pairUpset_eq region.val tile.val cell.val
  have runs' : (((s.withOut []).withLgc lgc).withFresh fresh).fabricRuns region.val = true := runs
  refine (gives_shown (exec_pairMismatch region tile cell s)).imp fun t shows => ?_
  rw [upset] at shows
  refine ⟨?_, ?_, ?_, ?_, fun none => ?_, fun some => ?_, ?_⟩
  · exact (shows.bit (by decide) (by decide)).trans (State.pairMismatch_status runs' tile cell)
  · exact (shows.bit (by decide) (by decide)).trans (State.pairMismatch_pending runs' tile cell)
  · exact (shows.get (by decide) (by decide)).trans (State.pairMismatch_region runs' tile cell region.isLt)
  · exact (shows.get (by decide) (by decide)).trans (State.pairMismatch_count runs' tile cell)
  · rw [shows.get (by decide) (by decide), shows.get (by decide) (by decide), shows.get (by decide) (by decide)]
    exact State.pairMismatch_first runs' tile cell none region.isLt tile.isLt cell.isLt
  · exact (shows.word _ (by decide) (by decide)).trans (State.pairMismatch_later runs' tile cell some)
  · exact shows.fab.trans (State.pairMismatch_fab runs' tile cell)

/-- A command that its region does not carry out. -/
theorem gives_idleRegion {c : Instr} {f : State → State} {s : State} (e : exec c s = act f s) (idle : f (s.withOut []) = s.withOut []) :
    Gives c s fun t => t.fab = s.fab ∧ t.lgc = s.lgc ∧ t.grd = s.grd ∧ s.onlyRegs t [] := by
  refine gives_act e (idle.symm ▸ ⟨State.settle_fab _, State.settle_lgc _, State.settle_grd _, fun a _ level => ?_⟩)
  exact State.settle_word_of_not_level _ level

end Sys2Proof.Machine

/-!
SUPPORT. The ends of sweep passes (R237, R242): what a pass that is late and one in time leave, and the one wrong bit that a pass over deep
memory corrects (R241, R273).
-/
namespace Sys2Proof.Machine

/-! ### A pass keeps the fabric released -/

/-- RELEASED reads in `t` as in `s`. -/
structure KeepsReleased (s t : State) : Prop where
  bit : t.bit FAB_STATUS_RELEASED = s.bit FAB_STATUS_RELEASED

theorem KeepsReleased.refl (s : State) : KeepsReleased s s := ⟨rfl⟩

theorem KeepsReleased.seq {r s t : State} (g : KeepsReleased s t) (h : KeepsReleased r s) : KeepsReleased r t := ⟨g.bit.trans h.bit⟩

/-- A change of other parts than the registers. -/
theorem KeepsReleased.part {r s t : State} (h : KeepsReleased r s) (e : t.regs = s.regs) : KeepsReleased r t :=
  ⟨(congrArg (fun m => fldRead m FAB_STATUS_RELEASED != 0) e).trans h.bit⟩

theorem KeepsReleased.put {r s : State} {f : Fld} {v : Nat} (h : KeepsReleased r s) (hf : f.disjoint FAB_STATUS_RELEASED = true) :
    KeepsReleased r (s.put f v) := ⟨(State.bit_put_disjoint s f _ v (by decide) hf).trans h.bit⟩

theorem KeepsReleased.satInc {r s : State} {c o : Fld} (h : KeepsReleased r s) (hc : FAB_STATUS ≠ c.addr) (ho : FAB_STATUS ≠ o.addr) :
    KeepsReleased r (s.satInc c o) := ⟨(State.bit_of_word (State.satInc_word_ne s hc ho)).trans h.bit⟩

theorem KeepsReleased.report {r s : State} (h : KeepsReleased r s) (n inst detail : Nat) : KeepsReleased r (s.report n inst detail) :=
  ⟨(State.bit_of_word ((State.report_low s n inst detail).word FAB_STATUS (by decide))).trans h.bit⟩

theorem KeepsReleased.iff {r s : State} {c : Bool} {f : State → State} (h : KeepsReleased r s)
    (hf : ∀ x, KeepsReleased r x → KeepsReleased r (f x)) : KeepsReleased r (s.iff c f) := by
  unfold State.iff
  split
  · exact hf s h
  · exact h

/-- A memory error writes counters and first records of the fabric besides what its report writes. -/
theorem State.memError_keepsReleased (s : State) (n inst detail source : Nat) : KeepsReleased s (s.memError n inst detail source) := by
  unfold State.memError
  extract_lets deep r dbe counted flagged first
  split
  · exact .refl _
  · have keptCount : KeepsReleased s counted := by
      clear_value deep dbe
      cases deep <;> cases dbe <;> exact (KeepsReleased.refl s).satInc (by decide) (by decide)
    have keptFlag : KeepsReleased s flagged := keptCount.iff fun _ h => h.put (by decide)
    refine KeepsReleased.report (keptFlag.iff fun _ h => ?_) ..
    exact (((((h.put (by decide)).put (by decide)).put (by decide)).put (by decide)).put (by decide)).put (by decide)

theorem State.readReport_keepsReleased (s : State) (deep : Bool) (inst word source : Nat) (v : BitVec 74) :
    KeepsReleased s (s.readReport deep inst word source v) :=
  ((KeepsReleased.refl s).iff fun _ h => (State.memError_keepsReleased ..).seq h).iff fun _ h => (State.memError_keepsReleased ..).seq h

theorem State.bramPassEnd_keepsReleased (s : State) (r : Nat) : KeepsReleased s (s.bramPassEnd r) := by
  unfold State.bramPassEnd
  extract_lets p read written
  have keptRead : KeepsReleased s read := State.each_keeps (.refl s) fun x k h => h.iff fun y h => by
    unfold State.bramSweepRead
    extract_lets v reported
    have keptReport : KeepsReleased s reported := (State.readReport_keepsReleased ..).seq (h.part (t := y.drawn) rfl)
    exact keptReport.iff fun _ h => h.part rfl
  have keptWrite : KeepsReleased s written := State.each_keeps keptRead fun _ _ h => h.part ((State.bramSweepWrite_touches ..).regs rfl)
  exact keptWrite.part rfl

theorem State.deepPassEnd_keepsReleased (s : State) (b : Nat) : KeepsReleased s (s.deepPassEnd b) := by
  unfold State.deepPassEnd
  extract_lets p read written
  have keptRead : KeepsReleased s read := State.each_keeps (.refl s) fun x k h => by
    extract_lets v reported
    have keptReport : KeepsReleased s reported := (State.readReport_keepsReleased ..).seq (h.part (t := x.drawn) rfl)
    exact keptReport.iff fun _ h => h.part ((State.deepStore_touches ..).regs rfl)
  have keptWrite : KeepsReleased s written := State.each_keeps keptRead fun _ _ h => h.part ((State.deepStore_touches ..).regs rfl)
  exact keptWrite.part rfl

/-! ### The end of a pass -/

/-- The rest of a pass of region `r`: of block memory, or of the seven banks of deep memory. -/
def State.passOver (s : State) (deep : Bool) (r : Nat) : State :=
  if deep then s.each ((List.range 7).map (7 * r + ·)) (·.deepPassEnd ·) else s.bramPassEnd r

/-- The longest time that a pass may take, in µs (R237, R242). -/
def passBound (deep : Bool) : Nat := if deep then 250000 else 64000

theorem State.sweepEnd_runs {s : State} {r : Nat} (runs : s.fabricRuns r = true) (deep : Bool) (us : Nat) :
    s.sweepEnd deep r us = (s.passOver deep r).sweepTime deep r us := if_neg (by simp [runs])

theorem State.passOver_touches (s : State) (deep : Bool) (r : Nat) : Touches 1073750290 s (s.passOver deep r) := by
  unfold State.passOver
  split
  · exact Touches.each (Touches.refl _ s) fun _ _ h => (State.deepPassEnd_touches ..).seq rfl h
  · exact (State.bramPassEnd_touches ..).mono rfl

/-- Its region still runs. -/
theorem State.passOver_runs (s : State) (deep : Bool) (r q : Nat) : (s.passOver deep r).fabricRuns q = s.fabricRuns q := by
  have kept := s.passOver_touches deep r
  have released : KeepsReleased s (s.passOver deep r) := by
    unfold State.passOver
    split
    · exact State.each_keeps (.refl s) fun x b h => (State.deepPassEnd_keepsReleased x b).seq h
    · exact State.bramPassEnd_keepsReleased s r
  exact State.fabricRuns_congr released.bit (kept.dev rfl) (kept.fab rfl) q

theorem State.sweepTime_inTime (s : State) {deep : Bool} {us : Nat} (h : us ≤ passBound deep) (r : Nat) : s.sweepTime deep r us = s :=
  if_pos (by simpa [passBound] using .inr h)

/-- The bit of FAB_SWEEP_LATE that a region's sweep sets. -/
def lateFld (deep : Bool) (r : Nat) : Fld := if deep then ⟨FAB_SWEEP_LATE, 16 + r, 1⟩ else ⟨FAB_SWEEP_LATE, r, 1⟩

theorem State.sweepTime_late {s : State} {r : Nat} (runs : s.fabricRuns r = true) {deep : Bool} {us : Nat} (h : passBound deep < us) :
    s.sweepTime deep r us = (s.set (lateFld deep r)).report 17 r (if deep then 1 else 0) :=
  if_neg (by simpa [runs, passBound] using h)

theorem exec_bramSweepPassEnd (region : Fin 16) (us : Nat) (s : State) :
    exec (.bramSweepPassEnd region us) s = act (·.sweepEnd false region.val us) s := rfl

theorem exec_deepSweepPassEnd (region : Fin 16) (us : Nat) (s : State) :
    exec (.deepSweepPassEnd region us) s = act (·.sweepEnd true region.val us) s := rfl

/-- A pass that took too long is late and is reported (R237, R242). -/
theorem gives_latePass {c : Instr} {s : State} {deep : Bool} {r us : Nat} (e : exec c s = act (·.sweepEnd deep r us) s)
    (runs : s.fabricRuns r = true) (hr : r < 16) (late : passBound deep < us) :
    Gives c s fun t => bitsOf (t.word FAB_SWEEP_LATE) (lateFld deep r).lo 1 = 1 ∧ t.bit (pendingFld 17) = true ∧
      t.get GRD_LAST_N = 17 ∧ t.get GRD_LAST_INSTANCE = r := by
  have runs' : ((s.withOut []).passOver deep r).fabricRuns r = true := (State.passOver_runs ..).trans runs
  have on : (((s.withOut []).passOver deep r).set (lateFld deep r)).dev ≠ .off :=
    show ((s.withOut []).passOver deep r).dev ≠ .off from State.fabricRuns_on runs'
  obtain ⟨last, region⟩ := State.report_last on (by decide : 17 < 64) (Nat.lt_trans hr (by decide)) (if deep then 1 else 0)
  have marked : (((s.withOut []).passOver deep r).set (lateFld deep r)).get (lateFld deep r) = 1 := by
    cases deep
    · exact State.get_put_same _ ⟨FAB_SWEEP_LATE, r, 1⟩ 1 (by simp only; omega)
    · exact State.get_put_same _ ⟨FAB_SWEEP_LATE, 16 + r, 1⟩ 1 (by simp only; omega)
  have register : ∀ x : State, bitsOf (x.word FAB_SWEEP_LATE) (lateFld deep r).lo 1 = x.get (lateFld deep r) := fun x => by cases deep <;> rfl
  have below : (lateFld deep r).addr = FAB_SWEEP_LATE := by cases deep <;> rfl
  refine (gives_shown e).imp fun t shows => ?_
  rw [State.sweepEnd_runs (s := s.withOut []) runs, State.sweepTime_late runs' late] at shows
  refine ⟨?_, ?_, (shows.get (by decide) (by decide)).trans last, (shows.get (by decide) (by decide)).trans region⟩
  · rw [register, shows.get (by rw [below]; decide) (by rw [below]; decide)]
    exact (State.get_of_word ((State.report_low ..).word _ (by rw [below]; decide))).trans marked
  · exact (shows.bit (by decide) (by decide)).trans (State.report_pending on (by decide) (by decide) _ _)

/-! ### A pass over memories without a wrong bit -/

theorem State.bramPassEnd_clean {s : State} (none : s.lgc.bramBad = []) (r : Nat) :
    (s.bramPassEnd r).regs = s.regs ∧ (s.bramPassEnd r).grd = s.grd := by
  unfold State.bramPassEnd
  extract_lets p read written
  have unread : read = s := by unfold read; rw [none]; rfl
  have kept : Touches 1073741824 s written := Touches.each (unread ▸ .refl _ _) fun _ _ h => (State.bramSweepWrite_touches ..).seq rfl h
  exact ⟨kept.regs rfl, kept.grd rfl⟩

/-- Deep memory that is written has no wrong bit more. -/
theorem State.deepStore_deepBad {s : State} (none : s.lgc.deepBad = []) (k : Nat) (w : BitVec 64) : (s.deepStore k w).lgc.deepBad = [] :=
  (congrArg (List.filter _) none).trans rfl

theorem State.deepPassEnd_clean {s : State} (none : s.lgc.deepBad = []) (b : Nat) :
    (s.deepPassEnd b).regs = s.regs ∧ (s.deepPassEnd b).grd = s.grd ∧ (s.deepPassEnd b).lgc.deepBad = [] := by
  unfold State.deepPassEnd
  extract_lets p read written
  have unread : read = s := by unfold read; rw [none]; rfl
  have kept : Touches 1073750016 s written := Touches.each (unread ▸ .refl _ _) fun _ _ h => (State.deepStore_touches ..).seq rfl h
  have bad : written.lgc.deepBad = [] := State.each_keeps (P := fun x => x.lgc.deepBad = []) (unread ▸ none) fun x w h =>
    State.deepStore_deepBad h w.1 w.2
  exact ⟨kept.regs rfl, kept.grd rfl, bad⟩

theorem State.passOver_clean {s : State} {deep : Bool} (none : (if deep then s.lgc.deepBad else s.lgc.bramBad) = []) (r : Nat) :
    (s.passOver deep r).regs = s.regs ∧ (s.passOver deep r).grd = s.grd := by
  unfold State.passOver
  cases deep
  case false => exact State.bramPassEnd_clean none r
  case true =>
    obtain ⟨regs, grd, -⟩ := State.each_keeps (P := fun x => x.regs = s.regs ∧ x.grd = s.grd ∧ x.lgc.deepBad = [])
      (f := (·.deepPassEnd ·)) (xs := (List.range 7).map (7 * r + ·)) ⟨rfl, rfl, none⟩ fun x b ⟨regs, grd, bad⟩ => by
        obtain ⟨regs', grd', bad'⟩ := State.deepPassEnd_clean bad b
        exact ⟨regs'.trans regs, grd'.trans grd, bad'⟩
    exact ⟨regs, grd⟩

/-- A pass in time over memories without a wrong bit changes no register. -/
theorem gives_cleanPass {c : Instr} {s : State} {deep : Bool} {r us : Nat} (e : exec c s = act (·.sweepEnd deep r us) s)
    (runs : s.fabricRuns r = true) (inTime : us ≤ passBound deep) (none : (if deep then s.lgc.deepBad else s.lgc.bramBad) = []) :
    Gives c s fun t => s.onlyRegs t [] ∧ t.grd = s.grd := by
  obtain ⟨regs, grd⟩ := State.passOver_clean (s := s.withOut []) none r
  refine gives_act e ?_
  rw [State.sweepEnd_runs (s := s.withOut []) runs, State.sweepTime_inTime _ inTime]
  refine ⟨fun a _ level => ?_, (State.settle_grd _).trans grd⟩
  rw [State.settle_word_of_not_level _ level, State.word, regs]
  rfl

end Sys2Proof.Machine

/-!
SUPPORT. One wrong bit of deep memory (R241, R242, R273, R944): the sweep corrects it, and counts and reports it.
-/
namespace Sys2Proof.Machine

/-! ### A word with one wrong bit -/

/-- The word with one bit set. -/
theorem getLsbD_oneShift {w k : Nat} (h : k < w) (i : Nat) : (1#w <<< i).getLsbD k = (i == k) := by
  rw [BitVec.getLsbD_shiftLeft, BitVec.getLsbD_one, Bool.eq_iff_iff]
  simp only [h, decide_true, Bool.true_and, Bool.and_eq_true, Bool.not_eq_true', decide_eq_false_iff_not, decide_eq_true_eq, beq_iff_eq]
  omega

/-- One bit set is one wrong bit. -/
theorem wrongBits_single {i : Nat} (h : i < 72) : wrongBits (1#72 <<< i) = 1 := by
  have counted : wrongBits (1#72 <<< i) = (List.range 72).count i :=
    List.countP_congr fun j hj => by rw [getLsbD_oneShift (List.mem_range.mp hj), beq_iff_eq, beq_iff_eq, eq_comm]
  rw [counted, List.count_eq_one_of_mem List.nodup_range (List.mem_range.mpr h)]

/-- A read of a word with one wrong bit returns the word as written, with SBE. -/
theorem eccRead_single {bad : BitVec 72} (h : wrongBits bad = 1) (data : BitVec 64) (luck : Nat) : eccRead data bad luck = (data, true, false) := by
  simp only [eccRead, h]

/-- SBE and DBE stand in bits 72 and 73 of what a port shows. -/
theorem portData_sbe (d : BitVec 72) (sbe dbe : Bool) : (portData d sbe dbe).getLsbD 72 = sbe := by
  cases sbe <;> cases dbe <;> simp [portData]

theorem portData_dbe (d : BitVec 72) (sbe dbe : Bool) : (portData d sbe dbe).getLsbD 73 = dbe := by
  cases sbe <;> cases dbe <;> simp [portData]

/-- A deep-memory read with SBE alone is an error of code 15. -/
theorem State.readReport_deepSingle (s : State) (b word source : Nat) (d : BitVec 72) :
    s.readReport true b word source (portData d true false) = s.memError 15 b word source := by
  simp only [State.readReport, portData_sbe, portData_dbe, State.iff, Bool.false_eq_true, if_true, if_false]

/-- A corrected error of deep memory is counted and reported with its bank. -/
theorem State.memError_deepSingle {s : State} {b : Nat} (runs : s.fabricRuns (b / 7) = true) (word source : Nat) :
    s.memError 15 b word source = (s.satInc FAB_DEEP_ECC_SBE FAB_DEEP_ECC_SBE_OVF).report 15 b word := by
  simp only [State.memError, decide_eq_true (Nat.le_refl 15), if_true, runs, Bool.not_true, Bool.false_eq_true, if_false, State.iff,
    beq_iff_eq, Bool.or_eq_true, Bool.and_eq_true]
  rfl

/-! ### The word that a sweep writes back -/

theorem cellReadAll_length {w : Nat} (m : Cells w) (a k n : Nat) : (cellReadAll m a k n).length = n := by
  induction n generalizing a with
  | zero => rfl
  | succ n ih => rw [cellReadAll, List.length_cons, ih]

/-- The bytes of a deep-memory word are those of its value. -/
theorem State.leBytes_deepWord (s : State) (k : Nat) : leBytes 8 (s.deepWord k).toNat = s.deepBytes (8 * k) 8 := by
  have len : (s.deepBytes (8 * k) 8).length = 8 := cellReadAll_length ..
  have small : leNat (s.deepBytes (8 * k) 8) < 2 ^ 64 := lt_of_lt_of_eq (leNat_lt _) (by rw [len]; rfl)
  have bytes := leBytes_leNat (s.deepBytes (8 * k) 8)
  rwa [len, ← Nat.mod_eq_of_lt small, ← BitVec.toNat_ofNat] at bytes

/-- A word that is stored reads back its bytes. -/
theorem State.deepBytes_deepStore (s : State) (k : Nat) (w : BitVec 64) : (s.deepStore k w).deepBytes (8 * k) 8 = leBytes 8 w.toNat := by
  have len : (leBytes 8 w.toNat).length = 8 := rfl
  have back := cellReadAll_cellWriteAll (k := 1) (by decide) (leBytes 8 w.toNat) s.deep (8 * k)
  rwa [len] at back

/-- A word that is stored has no wrong bit. -/
theorem State.deepStore_corrects {s : State} {k : Nat} {e : BitVec 72} (one : s.lgc.deepBad = [(k, e)]) (w : BitVec 64) :
    (s.deepStore k w).lgc.deepBad = [] := by
  have kept : (s.deepStore k w).lgc.deepBad =
      s.lgc.deepBad.filter fun c => decide (c.1 < 8 * k / 8) || decide ((8 * k + (leBytes 8 w.toNat).length - 1) / 8 < c.1) := rfl
  have len : (leBytes 8 w.toNat).length = 8 := rfl
  have first : 8 * k / 8 = k := by omega
  have last : (8 * k + 8 - 1) / 8 = k := by omega
  rw [kept, one, len, first, last]
  simp

/-- No correction of a sweep comes to wait by a write. -/
theorem State.deepStore_deepFix {s : State} (none : s.lgc.deepFix = []) (k : Nat) (w : BitVec 64) : (s.deepStore k w).lgc.deepFix = [] :=
  (congrArg (List.filter _) none).trans rfl

/-! ### The seven banks of a region -/

/-- The sweeps of deep memory stand elsewhere. -/
def State.atDeepPos (s : State) (pos : Cells 15) : State := s.setLgc fun l => { l with deepPos := pos }

/-- The sweep of a bank starts its next pass. -/
def State.deepRestart (s : State) (b : Nat) : State := s.atDeepPos (cellErase s.lgc.deepPos b)

/-- The end of a bank's pass that has nothing to read or to write restarts the sweep. -/
theorem State.deepPassEnd_idle {s : State} {b : Nat} (elsewhere : ∀ c ∈ s.lgc.deepBad, c.1 / 32768 ≠ b) (none : s.lgc.deepFix = []) :
    s.deepPassEnd b = s.deepRestart b := by
  have unread : ∀ p, restOfPass s.lgc.deepBad (b * 32768 + p) ((b + 1) * 32768) = [] := fun p => by
    rw [restOfPass, List.filter_eq_nil_iff]
    intro k hk
    obtain ⟨c, hc, rfl⟩ := List.mem_map.mp hk
    have := elsewhere c hc
    simp only [Bool.and_eq_true, decide_eq_true_eq]
    omega
  unfold State.deepPassEnd
  extract_lets p read written
  have same : read = s := by unfold read; rw [unread]; rfl
  have same' : written = s := by unfold written; rw [same, none]; rfl
  rw [same']
  rfl

/-- Passes of banks that have nothing to read or to write restart their sweeps, and no other. -/
theorem State.deepPassEnds_idle (bs : List Nat) {s : State} (elsewhere : ∀ b ∈ bs, ∀ c ∈ s.lgc.deepBad, c.1 / 32768 ≠ b)
    (none : s.lgc.deepFix = []) :
    ∃ pos, s.each bs (·.deepPassEnd ·) = s.atDeepPos pos ∧
      ∀ b, b ∉ bs → cellRead pos b = cellRead s.lgc.deepPos b := by
  induction bs generalizing s with
  | nil => exact ⟨s.lgc.deepPos, rfl, fun _ _ => rfl⟩
  | cons b bs ih =>
    obtain ⟨pos, rest, kept⟩ := ih (s := s.deepRestart b) (fun x hx => elsewhere x (List.mem_cons_of_mem b hx)) none
    refine ⟨pos, ?_, fun x hx => ?_⟩
    · rw [State.each, List.foldl_cons, State.deepPassEnd_idle (elsewhere b List.mem_cons_self) none]
      exact rest
    · obtain ⟨apart, out⟩ := not_or.mp (List.mem_cons.not.mp hx)
      refine (kept x out).trans ?_
      exact (cellRead_cellErase s.lgc.deepPos b x).trans (if_neg apart)

/-- The end of the pass of the bank that holds the one wrong bit, with the word still to be read: it is reported and written back. -/
theorem State.deepPassEnd_corrects {s : State} {k : Nat} {e : BitVec 72} (single : wrongBits e = 1) (one : s.lgc.deepBad = [(k, e)])
    (none : s.lgc.deepFix = []) (ahead : (cellRead s.lgc.deepPos (k / 32768)).toNat ≤ k % 32768) :
    s.deepPassEnd (k / 32768) =
      ((s.drawn.memError 15 (k / 32768) (k % 32768) 3).deepStore k (s.deepWord k)).deepRestart (k / 32768) := by
  have toRead : restOfPass s.lgc.deepBad (k / 32768 * 32768 + (cellRead s.lgc.deepPos (k / 32768)).toNat) ((k / 32768 + 1) * 32768) = [k] := by
    have inside : k / 32768 * 32768 + (cellRead s.lgc.deepPos (k / 32768)).toNat ≤ k ∧ k < (k / 32768 + 1) * 32768 := by omega
    rw [restOfPass, one]
    simp [inside]
  have wrong : cellRead s.lgc.deepBad k = e := by
    rw [one]
    exact if_pos rfl
  unfold State.deepPassEnd
  extract_lets p read written
  have reads : read = (s.drawn.memError 15 (k / 32768) (k % 32768) 3).deepStore k (s.deepWord k) := by
    unfold read p
    rw [toRead, State.each, List.foldl_cons, List.foldl_nil, wrong]
    simp only [eccRead_single single, State.readReport_deepSingle, State.iff, if_true]
  have waits : read.lgc.deepFix = [] := by
    have kept : (s.drawn.memError 15 (k / 32768) (k % 32768) 3).lgc = s.lgc := (State.memError_touches ..).lgc rfl
    rw [reads, State.deepStore_deepFix ((congrArg LogicState.deepFix kept).trans none)]
  have same : written = read := by unfold written; rw [waits]; rfl
  rw [same, reads]
  rfl

/-- The banks of a region, with one of them told apart. -/
theorem banks_split {b r : Nat} (h : b / 7 = r) : ∃ before after, (List.range 7).map (7 * r + ·) = before ++ b :: after ∧ b ∉ before := by
  have mem : b ∈ (List.range 7).map (7 * r + ·) := List.mem_map.mpr ⟨b % 7, List.mem_range.mpr (by omega), by omega⟩
  obtain ⟨before, after, split, first⟩ := List.eq_append_cons_of_mem mem
  exact ⟨before, after, split, first⟩

/-- A pass over the deep memory of a region with one wrong bit that is still to be read. -/
theorem State.passOver_corrects {s : State} {k r : Nat} {e : BitVec 72} (region : k / 229376 = r) (single : wrongBits e = 1)
    (one : s.lgc.deepBad = [(k, e)]) (none : s.lgc.deepFix = []) (ahead : (cellRead s.lgc.deepPos (k / 32768)).toNat ≤ k % 32768) :
    ∃ pos pos', s.passOver true r =
      (((s.atDeepPos pos).drawn.memError 15 (k / 32768) (k % 32768) 3).deepStore k (s.deepWord k)).atDeepPos pos' := by
  obtain ⟨before, after, split, first⟩ := banks_split (b := k / 32768) (r := r) (by omega)
  have elsewhere : ∀ b ∈ before, ∀ c ∈ s.lgc.deepBad, c.1 / 32768 ≠ b := by
    rintro b hb c hc rfl
    rw [one, List.mem_singleton] at hc
    subst hc
    exact first hb
  obtain ⟨pos, idle, kept⟩ := State.deepPassEnds_idle before elsewhere none
  have corrected := State.deepPassEnd_corrects (s := s.atDeepPos pos) single one none ((kept _ first).symm ▸ ahead)
  obtain ⟨y, hy⟩ : ∃ y, y = ((s.atDeepPos pos).drawn.memError 15 (k / 32768) (k % 32768) 3).deepStore k (s.deepWord k) := ⟨_, rfl⟩
  have lgc : ((s.atDeepPos pos).drawn.memError 15 (k / 32768) (k % 32768) 3).lgc = (s.atDeepPos pos).lgc := (State.memError_touches ..).lgc rfl
  have clean : y.lgc.deepBad = [] := hy ▸ State.deepStore_corrects ((congrArg LogicState.deepBad lgc).trans one) _
  have written : y.lgc.deepFix = [] := hy ▸ State.deepStore_deepFix ((congrArg LogicState.deepFix lgc).trans none) _ _
  obtain ⟨pos', rest, -⟩ := State.deepPassEnds_idle after (s := y.deepRestart (k / 32768))
    (fun b _ c hc => absurd (clean ▸ hc : c ∈ []) List.not_mem_nil) written
  refine ⟨pos, pos', ?_⟩
  calc s.passOver true r
    _ = s.each (before ++ k / 32768 :: after) (·.deepPassEnd ·) := congrArg (s.each · _) split
    _ = ((s.each before (·.deepPassEnd ·)).deepPassEnd (k / 32768)).each after (·.deepPassEnd ·) := List.foldl_append
    _ = (y.deepRestart (k / 32768)).each after (·.deepPassEnd ·) := by rw [idle, corrected, hy]; rfl
    _ = y.atDeepPos pos' := rest
    _ = _ := by rw [hy]

/-- What the correction of a wrong bit of word `k` leaves: the word as it was, without it, and its count and report. -/
structure DeepCorrected (k : Nat) (s t : State) : Prop where
  bad : t.lgc.deepBad = []
  bytes : t.deepBytes (8 * k) 8 = s.deepBytes (8 * k) 8
  last : t.get GRD_LAST_N = 15
  bank : t.get GRD_LAST_INSTANCE = k / 32768
  count : t.get FAB_DEEP_ECC_SBE = min (s.get FAB_DEEP_ECC_SBE + 1) (2 ^ FAB_DEEP_ECC_SBE.width - 1)

/-- Where the sweeps stand is no part of it. -/
theorem DeepCorrected.moved {k : Nat} {s t : State} {pos pos' : Cells 15} (h : DeepCorrected k (s.atDeepPos pos).drawn t) :
    DeepCorrected k s (t.atDeepPos pos') where
  bad := h.bad
  bytes := h.bytes
  last := h.last
  bank := h.bank
  count := h.count

/-- The error is counted, reported, and written over. -/
theorem State.deepCorrected_memError {s : State} {k : Nat} {e : BitVec 72} (runs : s.fabricRuns (k / 32768 / 7) = true) (hk : k < 2 ^ 31)
    (one : s.lgc.deepBad = [(k, e)]) : DeepCorrected k s ((s.memError 15 (k / 32768) (k % 32768) 3).deepStore k (s.deepWord k)) := by
  have reported := State.memError_deepSingle runs (k % 32768) 3
  have lgc : (s.memError 15 (k / 32768) (k % 32768) 3).lgc = s.lgc := (State.memError_touches ..).lgc rfl
  have regs : ∀ w, ((s.memError 15 (k / 32768) (k % 32768) 3).deepStore k w).regs = (s.memError 15 (k / 32768) (k % 32768) 3).regs :=
    fun w => (State.deepStore_touches ..).regs rfl
  have fields : ∀ w (f : Fld), ((s.memError 15 (k / 32768) (k % 32768) 3).deepStore k w).get f =
      (s.memError 15 (k / 32768) (k % 32768) 3).get f := fun w f => congrArg (fldRead · f) (regs w)
  have on : (s.satInc FAB_DEEP_ECC_SBE FAB_DEEP_ECC_SBE_OVF).dev ≠ .off := ((State.satInc_touches ..).dev rfl).trans_ne (State.fabricRuns_on runs)
  obtain ⟨last, bank⟩ := State.report_last on (by decide : 15 < 64) (by omega : k / 32768 < 65536) (k % 32768)
  refine ⟨?_, ?_, ?_, ?_, ?_⟩
  · exact State.deepStore_corrects ((congrArg LogicState.deepBad lgc).trans one) _
  · exact (State.deepBytes_deepStore ..).trans (State.leBytes_deepWord s k)
  · rw [fields, reported, last]
  · rw [fields, reported, bank]
  · rw [fields, reported, State.get_of_word ((State.report_low ..).word FAB_DEEP_ECC (by decide))]
    exact State.satAdd_get s 1 (by decide) (by decide)

/-- A pass over the deep memory of a region corrects the one wrong bit that it still has to read. -/
theorem State.passOver_corrected {s : State} {k r : Nat} {e : BitVec 72} (runs : s.fabricRuns r = true) (hr : r < 16) (region : k / 229376 = r)
    (single : wrongBits e = 1) (one : s.lgc.deepBad = [(k, e)]) (none : s.lgc.deepFix = [])
    (ahead : (cellRead s.lgc.deepPos (k / 32768)).toNat ≤ k % 32768) : DeepCorrected k s (s.passOver true r) := by
  obtain ⟨pos, pos', corrected⟩ := State.passOver_corrects region single one none ahead
  have bank : k / 32768 / 7 = r := by omega
  have runs' : (s.atDeepPos pos).drawn.fabricRuns (k / 32768 / 7) = true := by
    rw [bank]
    exact runs
  rw [corrected]
  exact (State.deepCorrected_memError (s := (s.atDeepPos pos).drawn) runs' (by omega) one).moved

/-- The command DEEP_SWEEP_PASS_END in time, over a deep memory with one wrong bit that the pass still has to read. -/
theorem gives_correctedPass {s : State} {region : Fin 16} {us k : Nat} {e : BitVec 72} (runs : s.fabricRuns region.val = true)
    (inTime : us ≤ passBound true) (place : k / 229376 = region.val) (single : wrongBits e = 1) (one : s.lgc.deepBad = [(k, e)])
    (none : s.lgc.deepFix = []) (ahead : (cellRead s.lgc.deepPos (k / 32768)).toNat ≤ k % 32768) :
    Gives (.deepSweepPassEnd region us) s (DeepCorrected k s) := by
  obtain ⟨bad, bytes, last, bank, count⟩ :=
    State.passOver_corrected (s := s.withOut []) runs region.isLt place single one none ahead
  refine gives_act (exec_deepSweepPassEnd region us s) ?_
  rw [State.sweepEnd_runs (s := s.withOut []) runs, State.sweepTime_inTime _ inTime]
  refine ⟨?_, ?_, ?_, ?_, ?_⟩
  · rw [State.settle_lgc, bad]
  · rw [State.deepBytes, State.settle_deep]
    exact bytes
  · rw [State.settle_get_pwr _ (by decide), last]
  · rw [State.settle_get_pwr _ (by decide), bank]
  · rw [State.settle_get_pwr _ (by decide), count, State.withOut_get]

end Sys2Proof.Machine

/-!
SUPPORT. The hold after release (R275, R277) and the clock lines (R257), and O36.
-/
namespace Sys2Proof.Machine

/-! ### Bits set and cleared -/

/-- A bit that is set or cleared reads what it was given. -/
theorem getLsbD_bitPut_same {w i : Nat} (x : BitVec w) (v : Bool) (h : i < w) :
    (if v then x ||| (1#w <<< i) else x &&& ~~~(1#w <<< i)).getLsbD i = v := by
  cases v <;> simp [h]

/-- Every other bit reads as before. -/
theorem getLsbD_bitPut_ne {w i k : Nat} (x : BitVec w) (v : Bool) (h : k ≠ i) :
    (if v then x ||| (1#w <<< i) else x &&& ~~~(1#w <<< i)).getLsbD k = x.getLsbD k := by
  by_cases hk : k < w
  · have off : (1#w <<< i).getLsbD k = false := (getLsbD_oneShift hk i).trans (beq_eq_false_iff_ne.mpr h.symm)
    cases v
    · simp only [Bool.false_eq_true, if_false, BitVec.getLsbD_and, BitVec.getLsbD_not, off, hk, decide_true, Bool.not_false, Bool.and_true]
    · simp only [if_true, BitVec.getLsbD_or, off, Bool.or_false]
  · rw [BitVec.getLsbD_of_ge _ _ (by omega), BitVec.getLsbD_of_ge _ _ (by omega)]

/-- The bits of a word made by setting, for each element that counts, its bit. -/
theorem getLsbD_foldl_setBits {w i : Nat} (hi : i < w) (p : Nat → Bool) (f : Nat → Nat) (xs : List Nat) (m : BitVec w) :
    (xs.foldl (fun m r => if p r then m ||| (1#w <<< f r) else m) m).getLsbD i = (m.getLsbD i || xs.any fun r => p r && f r == i) := by
  induction xs generalizing m with
  | nil => rw [List.foldl_nil, List.any_nil, Bool.or_false]
  | cons x xs ih =>
    rw [List.foldl_cons, ih, List.any_cons, ← Bool.or_assoc]
    cases p x
    case false => simp
    case true => simp only [if_true, BitVec.getLsbD_or, getLsbD_oneShift hi, Bool.true_and]

/-! ### The end of a hold -/

theorem domainLine_lt {d : Nat} (h : d < 288) : domainLine d < 48 := by
  unfold domainLine
  split <;> omega

/-- The hold bits of a domain: its line, in the regions named in which it has one. -/
theorem getLsbD_holdBits {d r l : Nat} (hd : d < 288) (hr : r < 16) (hl : l < 48) (among : BitVec 16) :
    (holdBits d among).getLsbD (48 * r + l) = (l == domainLine d && among.getLsbD r && (decide (d < 32) || (d - 32) / 16 == r)) := by
  have line := domainLine_lt hd
  rw [holdBits, getLsbD_foldl_setBits (by omega), BitVec.getLsbD_zero, Bool.false_or, Bool.eq_iff_iff]
  simp only [List.any_eq_true, List.mem_range, Bool.and_eq_true, beq_iff_eq]
  constructor
  · rintro ⟨q, -, held, at'⟩
    obtain rfl : q = r := by omega
    exact ⟨⟨by omega, held.1⟩, held.2⟩
  · rintro ⟨⟨rfl, named⟩, own⟩
    exact ⟨r, hr, ⟨named, own⟩, rfl⟩

/-- GHOLD says whether any domain is held. -/
theorem State.ghold_bit (s : State) : s.ghold.bit FAB_STATUS_GHOLD = (s.fab.holds != 0) := by
  unfold State.ghold State.putB State.bit
  rw [State.get_put_same _ _ _ (by decide)]
  cases (s.fab.holds != 0) <;> rfl

theorem exec_gholdRelease (d : Fin 288) (regions : BitVec 16) (s : State) :
    exec (.gholdRelease d regions) s = act (·.gholdRelease d.val regions) s := rfl

/-- A line without edges ends no hold. -/
theorem State.gholdRelease_still {s : State} {d : Nat} (still : s.domainRuns ((d - 32) / 16) d = false) (regions : BitVec 16) :
    s.gholdRelease d regions = s := if_pos (by simp [still])

theorem exec_clockMuxSwitch (line : Fin 288) (sel ce : Bool) (s : State) :
    exec (.clockMuxSwitch line sel ce) s = act (·.clockSwitch line.val sel ce) s := rfl

section Clocked
variable {s : State} (released : s.bit FAB_STATUS_RELEASED = true) (service : s.inService = true) (clocked : s.pwr.graceOver = false)
include released service clocked

/-- The 8th edge of a line that carries edges ends its hold in the regions named. -/
theorem State.gholdRelease_edge {d : Nat} (runs : s.domainRuns ((d - 32) / 16) d = true) (regions : BitVec 16) :
    s.gholdRelease d regions = (s.setFab fun f => { f with holds := f.holds &&& ~~~(holdBits d regions) }).ghold :=
  if_neg (by simp [released, service, clocked, runs])

/-- The command GHOLD_RELEASE. -/
theorem gives_gholdRelease (d : Fin 288) (regions : BitVec 16) : Gives (.gholdRelease d regions) s fun t =>
    (∀ r l, r < 16 → l < 48 → t.fab.holds.getLsbD (48 * r + l) = (s.fab.holds.getLsbD (48 * r + l) &&
      !(s.domainRuns ((d.val - 32) / 16) d.val && l == domainLine d.val && regions.getLsbD r &&
        (decide (d.val < 32) || (d.val - 32) / 16 == r)))) ∧
    (s.domainRuns ((d.val - 32) / 16) d.val = true → (t.bit FAB_STATUS_GHOLD = true ↔ t.fab.holds ≠ 0)) := by
  refine gives_act (exec_gholdRelease d regions s) ?_
  cases runs : s.domainRuns ((d.val - 32) / 16) d.val
  case false =>
    rw [State.gholdRelease_still (s := s.withOut []) runs, State.settle_fab]
    refine ⟨fun r l _ _ => ?_, fun h => absurd h Bool.false_ne_true⟩
    rw [Bool.false_and, Bool.false_and, Bool.false_and, Bool.not_false, Bool.and_true, State.withOut_fab]
  case true =>
    rw [State.gholdRelease_edge (s := s.withOut []) released service clocked runs, State.settle_fab, State.settle_bit_pwr _ (by decide),
      State.ghold_bit]
    refine ⟨fun r l hr hl => ?_, fun _ => bne_iff_ne⟩
    have held : ((s.withOut []).setFab fun f => { f with holds := f.holds &&& ~~~(holdBits d.val regions) }).ghold.fab.holds =
      s.fab.holds &&& ~~~(holdBits d.val regions) := rfl
    have inside : 48 * r + l < 768 := by omega
    rw [held, BitVec.getLsbD_and, BitVec.getLsbD_not, getLsbD_holdBits d.isLt hr hl, decide_eq_true inside, Bool.true_and, Bool.true_and]

/-! ### Clock lines -/

/-- A switch of a line sets its SEL and CE (R257). -/
theorem State.clockSwitch_runs (line : Nat) (sel ce : Bool) : s.clockSwitch line sel ce = s.setFab fun f => { f with
    sel := if sel then f.sel ||| (1#32 <<< line) else f.sel &&& ~~~(1#32 <<< line),
    ce := if ce then f.ce ||| (1#288 <<< line) else f.ce &&& ~~~(1#288 <<< line) } := if_neg (by simp [released, service, clocked])

/-- The command CLOCK_MUX_SWITCH: the line takes SEL and CE, and no other line does. -/
theorem gives_clockMuxSwitch (line : Fin 288) (sel ce : Bool) : Gives (.clockMuxSwitch line sel ce) s fun t =>
    t.fab.ce.getLsbD line.val = ce ∧ (line.val < 32 → t.fab.sel.getLsbD line.val = sel) ∧
    (∀ k, k ≠ line.val → t.fab.sel.getLsbD k = s.fab.sel.getLsbD k ∧ t.fab.ce.getLsbD k = s.fab.ce.getLsbD k) := by
  refine gives_act (exec_clockMuxSwitch line sel ce s) ?_
  rw [State.clockSwitch_runs (s := s.withOut []) released service clocked, State.settle_fab]
  exact ⟨getLsbD_bitPut_same s.fab.ce ce line.isLt, fun h => getLsbD_bitPut_same s.fab.sel sel h, fun k hk =>
    ⟨getLsbD_bitPut_ne s.fab.sel sel hk, getLsbD_bitPut_ne s.fab.ce ce hk⟩⟩

end Clocked

/-- Settles O36: a mismatch by what it records and reports, a pass by its time and by the wrong bits it still has to read, the hold and the
lines by the bits they change. -/
theorem pairsSweepsAndClocks : Obligations.PairsSweepsAndClocks := by
  refine ⟨fun s region tile cell => ⟨fun runs => ?_, fun stopped => ?_⟩, fun s region us runs => ⟨?_, ?_, ?_, ?_, ?_⟩,
    fun s released service clocked => ⟨gives_gholdRelease released service clocked, gives_clockMuxSwitch released service clocked⟩⟩
  · refine (gives_pairMismatch runs tile cell).imp fun t ⟨status, pending, inst', count, first, later, fab⟩ =>
      ⟨status, pending, inst', count, first, later, ?_⟩
    rw [fab]
    exact s.pairDiffers_forced _
  · exact gives_idleRegion (exec_pairMismatch region tile cell s) (State.pairUpset_stopped (s := s.withOut []) stopped tile cell)
  · exact gives_latePass (exec_bramSweepPassEnd region us s) runs region.isLt
  · exact gives_cleanPass (exec_bramSweepPassEnd region us s) runs
  · exact gives_latePass (exec_deepSweepPassEnd region us s) runs region.isLt
  · exact gives_cleanPass (exec_deepSweepPassEnd region us s) runs
  · exact fun k i inTime place hi one none ahead =>
      (gives_correctedPass runs inTime place (wrongBits_single hi) one none ahead).imp fun t h => ⟨h.bad, h.bytes, h.last, h.bank, h.count⟩

end Sys2Proof.Machine

/-!
SUPPORT. What the outputs of a PLL clock (R258, R329, R391, R394, R528, R565, R604, R726): the signal paths and the lanes that follow a mute,
an unmute or a failover write no register below the lanes' own, whether the part runs or not.
-/
namespace Sys2Proof.Machine

/-! ### Parts beside the registers -/

section
variable {b : Nat} {r s : State}

theorem Low.putBport (h : Low b r s) (p : Nat) (v : BrgPort) : Low b r (s.putBport p v) := h.part rfl

theorem Low.putLane (h : Low b r s) (n : Nat) (v : LnkLane) : Low b r (s.putLane n v) := h.part rfl

theorem Low.putDd (h : Low b r s) (d : Nat) (v : DdcState) : Low b r (s.putDd d v) := h.part rfl

theorem Low.ddcClear (h : Low b r s) (d : Nat) : Low b r (s.ddcClear d) := h.part rfl

theorem Low.putRx (h : Low b r s) (q : Nat) (v : LmdRx) : Low b r (s.putRx q v) := h.part rfl

theorem Low.clearWindows (h : Low b r s) (rf : Bool) : Low b r (s.clearWindows rf) := h.part ((State.clearWindows_touches s rf).regs rfl)

end

/-! ### The lanes and their ports -/

/-- A port that enters KEYING writes registers of the Bearing link alone. -/
theorem State.portKeying_low (s : State) (p : Nat) : Low 0x40080000 s (s.portKeying p) := by
  have status : 0x40080000 ≤ BRG_PORT_STATUS p := by unfold BRG_PORT_STATUS; omega
  unfold State.portKeying
  extract_lets fresh cleared keying seed drawn port seeded
  have h : Low 0x40080000 s keying := (((Low.refl _ s).putBport p _).put status).put status
  have hs : Low 0x40080000 s seeded := (h.part ((State.drawnBytes_touches keying 8).regs rfl)).putBport p _
  exact Low.ite h (hs.part ((State.brgToNeighbour_touches ..).regs rfl))

/-- A port that follows its lanes writes registers of the Bearing link alone. -/
theorem State.portUpdate_keepsPlls (s : State) (p : Nat) : Low 0x40080000 s (s.portUpdate p) := by
  have status : 0x40080000 ≤ BRG_PORT_STATUS p := by unfold BRG_PORT_STATUS; omega
  unfold State.portUpdate
  extract_lets old on lanes new event left
  have h : Low 0x40080000 s left := ((Low.refl _ s).event (n := 112) (by decide)).iff fun _ h => h.part rfl
  exact Low.ite (.refl _ s) (Low.ite ((State.portKeying_low left p).seq (Nat.le_refl _) h) (h.put status))

/-- Lanes that restart, and the ports that follow them, write registers from the link block's up alone. -/
theorem State.lanesRestart_keepsPlls (s : State) (ns : List Nat) : Low 0x40080000 s (s.lanesRestart ns) :=
  ((Low.refl _ s).each fun x n h => (x.laneRestart_low n false).seq (Nat.le_refl _) h).each fun x p h =>
    (x.portUpdate_keepsPlls p).seq (Nat.le_refl _) h

/-- A failover to the other LREF writes registers of the link block alone. -/
theorem State.lpllFailover_low (s : State) (n : Nat) : Low 0x40080000 s (s.lpllFailover n) := by
  have group : ∀ g, 0x40080000 ≤ LNK_GROUP_STATUS g := fun g => by unfold LNK_GROUP_STATUS; omega
  have lane : ∀ l, 0x40080000 ≤ LNK_STATUS l := fun l => by unfold LNK_STATUS; omega
  refine (((Low.refl _ s).withPll.set (group _)).set (group _)).iff fun _ h => h.each fun x l h => ?_
  exact ((State.laneRestart_low _ l false).seq (Nat.le_refl _) (h.putLane l _)).set (lane l)

/-! ### The samplers -/

theorem smpFlds_addr (rf : Bool) : 0x40100000 ≤ (stepFld rf).addr ∧ 0x40100000 ≤ (spareAtFld rf).addr ∧ 0x40100000 ≤ (outFld rf).addr ∧
    ∀ p, 0x40100000 ≤ (serveFld rf p).addr := by
  cases rf
  · exact ⟨by decide, by decide, by decide, fun _ => show 0x40100000 ≤ SMP_LINE_MAP by decide⟩
  · exact ⟨by decide, by decide, by decide, fun _ => show 0x40100000 ≤ SMP_RF_MAP by decide⟩

theorem State.handover_low (s : State) (rf : Bool) (p slice : Nat) (ramp : Bool) : Low 0x40100000 s (s.handover rf p slice ramp) := by
  have seen : Low 0x40100000 s ((s.event 161).withSmp { (s.event 161).smp with handSeen := true }) :=
    ((Low.refl _ s).event (n := 161) (by decide)).withSmp
  exact Low.ite seen.withSmp (seen.put ((smpFlds_addr rf).2.2.2 p))

theorem State.soundAbandon_low (s : State) (rf ramp : Bool) : Low 0x40100000 s (s.soundAbandon rf ramp) := by
  obtain ⟨step, spare, out, -⟩ := smpFlds_addr rf
  unfold State.soundAbandon
  extract_lets p smp stopped idle cleared
  have h : Low 0x40100000 s cleared := ((((Low.refl _ s).withSmp.put step).put spare).put out).clearWindows rf
  exact Low.ite (.refl _ s) (Low.ite ((State.handover_low ..).seq (Nat.le_refl _) h) h)

theorem State.smpMute_low (s : State) : Low 0x40100000 s s.smpMute :=
  Low.withSmp ((State.soundAbandon_low _ false false).seq (Nat.le_refl _) (s.soundAbandon_low true false))

theorem State.soundStart_low (s : State) (rf : Bool) : Low 0x40100000 s (s.soundStart rf) := by
  obtain ⟨step, spare, out, -⟩ := smpFlds_addr rf
  exact (Low.refl _ s).iff fun _ h => (((h.put step).put spare).put out).clearWindows rf

/-! ### The channelizer, the broadcast contexts and the line modem -/

theorem DDC_STATUS_addr (d : Nat) : 0x40110000 ≤ DDC_STATUS d := by unfold DDC_STATUS; omega

theorem Low.putRunning {b : Nat} {r s : State} (h : Low b r s) (hb : b ≤ 0x40110000) (d : Nat) (v : Bool) : Low b r (s.putRunning d v) :=
  (h.putB (f := DDC_STATUS_RUNNING d) (hb.trans (DDC_STATUS_addr d))).putB (hb.trans (show 0x40110000 ≤ RXC_STATUS by decide))

theorem Low.unsettle {b : Nat} {r s : State} (h : Low b r s) (hb : b ≤ 0x40110000) (d : Nat) : Low b r (s.unsettle d) :=
  (h.putDd d _).putB (f := DDC_STATUS_UNSETTLED d) (hb.trans (DDC_STATUS_addr d))

theorem State.ddcBegin_low (s : State) (d : Nat) : Low 0x40110000 s (s.ddcBegin d) :=
  (((((s.ddcApplySettings_low d).ddcClear d).putDd d _).clr (f := DDC_STATUS_RETUNE_PEND d) (DDC_STATUS_addr d)).putRunning (Nat.le_refl _) d true).unsettle (Nat.le_refl _) d

theorem State.rxcMute_low (s : State) : Low 0x40110000 s s.rxcMute :=
  ((Low.refl _ s).set (by decide)).each fun _ d h => (h.putRunning (Nat.le_refl _) d false).ddcClear d

theorem State.rxcRestart_low (s : State) : Low 0x40110000 s s.rxcRestart := by
  refine ((Low.refl _ s).clr (by decide)).each fun x d h => Low.ite (Low.iff (Low.unsettle (Low.putRunning (Low.iff ?_ ?_) ?_ d true) ?_ d) ?_) h
  · exact (h.ddcClear d).putDd d _
  · exact fun y h => (y.ddcBegin_low d).seq (Nat.le_refl _) h
  · exact Nat.le_refl _
  · exact Nat.le_refl _
  · exact fun y h => (h.put (f := DDC_STATUS_HOP_IDX d) (DDC_STATUS_addr d)).putDd d _

theorem State.bcdMute_low (s : State) : Low 0x40110000 s s.bcdMute :=
  (Low.refl _ s).each fun _ c h => h.iff fun x h => (x.ctxRestart_low c).seq (Nat.le_refl _) h

theorem RX_STATUS_addr (r : Nat) : 0x40110000 ≤ RX_STATUS r := by unfold RX_STATUS; omega

theorem State.lmdMute_low (s : State) : Low 0x40110000 s s.lmdMute :=
  ((Low.refl _ s).each fun _ t h => h.iff fun x h => (x.txStop_low t 2).seq (Nat.le_refl _) h).each fun _ r h =>
    (h.putRx r _).clr (f := RX_STATUS_BUSY r) (RX_STATUS_addr r)

theorem State.lmdUnmute_low (s : State) : Low 0x40110000 s s.lmdUnmute :=
  ((Low.refl _ s).each fun _ t h => h.iff fun x h => (x.txStart_low t).seq (Nat.le_refl _) h).each fun _ r h =>
    h.iff fun x h => (x.rxResync_low r).seq (Nat.le_refl _) h

/-! ### A mute and an unmute -/

/-- A mute clears LOCKED and sets MUTED, and writes no other register below the lanes'. -/
theorem State.pllMute_status (s : State) (n : Nat) :
    Low 0x40080000 ((s.clr (PLL_STATUS_LOCKED n)).set (PLL_STATUS_MUTED n)) (s.pllMute n) := by
  unfold State.pllMute
  extract_lets was shown
  have h : Low 0x40080000 ((s.clr (PLL_STATUS_LOCKED n)).set (PLL_STATUS_MUTED n)) shown := State.lpllShow_low ..
  refine Low.ite h (Low.ite (h.iff fun x h => ?_) (Low.ite ((State.lanesRestart_keepsPlls ..).seq (Nat.le_refl _) h) h))
  exact (State.lmdMute_low _).seq (by decide) <| (State.bcdMute_low _).seq (by decide) <| (State.rxcMute_low _).seq (by decide) <|
    x.smpMute_low.seq (by decide) h

/-- An unmute clears MUTED, and writes no other register below the lanes'. -/
theorem State.pllUnmuted_status (s : State) (n : Nat) : Low 0x40080000 (s.clr (PLL_STATUS_MUTED n)) (s.pllUnmuted n) := by
  unfold State.pllUnmuted
  extract_lets was shown
  have h : Low 0x40080000 (s.clr (PLL_STATUS_MUTED n)) shown := State.lpllShow_low ..
  refine Low.ite h (Low.ite (h.iff fun x h => ?_) (Low.ite ((State.lanesRestart_keepsPlls ..).seq (Nat.le_refl _) h) h))
  exact (State.lmdUnmute_low _).seq (by decide) <| (State.rxcRestart_low _).seq (by decide) <| (State.soundStart_low _ false).seq (by decide) <|
    (x.soundStart_low true).seq (by decide) h

end Sys2Proof.Machine

/-!
SUPPORT. The registers and the hidden state of a PLL (R316, R338): what a mute, an unmute, the end of a command and the settings taken leave in
them, and what the end of the device's command shows of that.
-/
namespace Sys2Proof.Machine

/-! ### Where a PLL's registers lie -/

section
variable {n : Nat} (hn : n < 11)
include hn

theorem PLL_STATUS_range : 0x40050000 ≤ PLL_STATUS n ∧ PLL_STATUS n < 0x40080000 := by unfold PLL_STATUS; omega

theorem PLL_CFG_range : 0x40050000 ≤ PLL_CFG n ∧ PLL_CFG n < 0x40080000 := by unfold PLL_CFG; omega

theorem PLL_CMD_STATUS_range : 0x40050000 ≤ PLL_CMD_STATUS n ∧ PLL_CMD_STATUS n < 0x40080000 := by unfold PLL_CMD_STATUS; omega

theorem PLL_LOL_COUNT_range : 0x40050000 ≤ PLL_LOL_COUNT n ∧ PLL_LOL_COUNT n < 0x40080000 := by unfold PLL_LOL_COUNT; omega

end

theorem PLL_STATUS_ne_EVENT (n : Nat) : PLL_STATUS n ≠ PLL_EVENT := by unfold PLL_STATUS PLL_EVENT; omega

theorem PLL_CMD_STATUS_ne_EVENT (n : Nat) : PLL_CMD_STATUS n ≠ PLL_EVENT := by unfold PLL_CMD_STATUS PLL_EVENT; omega

theorem PLL_LOL_COUNT_ne_EVENT (n : Nat) : PLL_LOL_COUNT n ≠ PLL_EVENT := by unfold PLL_LOL_COUNT PLL_EVENT; omega

theorem PLL_CFG_ne_STATUS (n m : Nat) : PLL_CFG n ≠ PLL_STATUS m := by unfold PLL_CFG PLL_STATUS; omega

theorem PLL_CMD_STATUS_ne_STATUS (n m : Nat) : PLL_CMD_STATUS n ≠ PLL_STATUS m := by unfold PLL_CMD_STATUS PLL_STATUS; omega

theorem PLL_LOL_COUNT_ne_STATUS (n m : Nat) : PLL_LOL_COUNT n ≠ PLL_STATUS m := by unfold PLL_LOL_COUNT PLL_STATUS; omega

/-- Two fields of one register that share no bit. -/
theorem Fld.disjoint_of_bits {a lo w lo' w' : Nat} (h : lo + w ≤ lo' ∨ lo' + w' ≤ lo) : Fld.disjoint ⟨a, lo, w⟩ ⟨a, lo', w'⟩ = true := by
  simpa [Fld.disjoint] using h

/-- No level shows in the windows of the PLLs and of the Fix selector. -/
theorem pllWindow_not_level {a : Nat} (h : 0x40050000 ≤ a ∧ a < 0x40080000) : a ∉ levelRegs := by
  have below : GRD_STATUS < 0x40050000 ∧ SYS_SERVICE < 0x40050000 ∧ GRD_EVENT < 0x40050000 ∧ 0x40080000 ≤ BIN_IRQ_STATUS := by decide
  simp only [levelRegs, List.mem_cons, List.not_mem_nil, or_false]
  omega

/-! ### The hidden state -/

@[simp] theorem State.putPl_pl {n : Nat} (hn : n < 11) (s : State) (v : Pll) : (s.putPl n v).pl n = v := by
  simp [State.pl, State.putPl, hn]

theorem State.pl_of_pll {s t : State} (h : t.pll = s.pll) (n : Nat) : t.pl n = s.pl n := by unfold State.pl; rw [h]

theorem State.refOk_of_pll {s t : State} (h : t.pll = s.pll) (r : Nat) : t.refOk r = s.refOk r := by unfold State.refOk; rw [h]

theorem State.pllRef_of_pll {s t : State} (h : t.pll = s.pll) (n : Nat) : t.pllRef n = s.pllRef n := by
  unfold State.pllRef State.lpllRef
  rw [h]

/-! ### A mute and an unmute -/

@[simp] theorem State.pllMute_pll (s : State) (n : Nat) : (s.pllMute n).pll = s.pll := (s.pllMute_touches n).pll rfl

@[simp] theorem State.pllUnmuted_pll (s : State) (n : Nat) : (s.pllUnmuted n).pll = s.pll := (s.pllUnmuted_touches n).pll rfl

/-- A mute leaves the registers below the lanes', but for the PLL's own status. -/
theorem State.pllMute_word (s : State) {n a : Nat} (low : a < 0x40080000) (h : a ≠ PLL_STATUS n) : (s.pllMute n).word a = s.word a :=
  ((s.pllMute_status n).word a low).trans <| (State.word_put_ne _ _ _ _ h).trans (State.word_put_ne _ _ _ _ h)

/-- An unmute leaves the registers below the lanes', but for the PLL's own status. -/
theorem State.pllUnmuted_word (s : State) {n a : Nat} (low : a < 0x40080000) (h : a ≠ PLL_STATUS n) :
    (s.pllUnmuted n).word a = s.word a :=
  ((s.pllUnmuted_status n).word a low).trans (State.word_put_ne _ _ _ _ h)

section
variable {n : Nat} (hn : n < 11) (s : State)
include hn

theorem State.pllMute_locked : (s.pllMute n).bit (PLL_STATUS_LOCKED n) = false :=
  (State.bit_of_word ((s.pllMute_status n).word _ (PLL_STATUS_range hn).2)).trans <|
    (State.bit_set_disjoint _ (PLL_STATUS_MUTED n) (PLL_STATUS_LOCKED n) (Nat.le_refl 32) (Fld.disjoint_of_bits (.inl (Nat.le_refl 31)))).trans <|
      State.bit_clr_same s _ (Nat.le_refl 32)

theorem State.pllMute_muted : (s.pllMute n).bit (PLL_STATUS_MUTED n) = true :=
  (State.bit_of_word ((s.pllMute_status n).word _ (PLL_STATUS_range hn).2)).trans <|
    State.bit_set_same _ (PLL_STATUS_MUTED n) (by decide : 30 + 1 ≤ 32) Nat.one_ne_zero

/-- A mute leaves the bits of its PLL's status from 29 down. -/
theorem State.pllMute_bit {lo : Nat} (h : lo + 1 ≤ 30) : (s.pllMute n).bit ⟨PLL_STATUS n, lo, 1⟩ = s.bit ⟨PLL_STATUS n, lo, 1⟩ := by
  have fits : lo + 1 ≤ 32 := by omega
  refine (State.bit_of_word ((s.pllMute_status n).word _ (PLL_STATUS_range hn).2)).trans ?_
  refine (State.bit_set_disjoint _ (PLL_STATUS_MUTED n) _ fits (Fld.disjoint_of_bits (.inr h))).trans ?_
  exact State.bit_clr_disjoint _ (PLL_STATUS_LOCKED n) _ fits (Fld.disjoint_of_bits (.inr (by omega)))

theorem State.pllUnmuted_muted : (s.pllUnmuted n).bit (PLL_STATUS_MUTED n) = false :=
  (State.bit_of_word ((s.pllUnmuted_status n).word _ (PLL_STATUS_range hn).2)).trans <|
    State.bit_clr_same s (PLL_STATUS_MUTED n) (by decide : 30 + 1 ≤ 32)

theorem State.pllUnmuted_locked : (s.pllUnmuted n).bit (PLL_STATUS_LOCKED n) = s.bit (PLL_STATUS_LOCKED n) :=
  (State.bit_of_word ((s.pllUnmuted_status n).word _ (PLL_STATUS_range hn).2)).trans <|
    State.bit_clr_disjoint s (PLL_STATUS_MUTED n) (PLL_STATUS_LOCKED n) (Nat.le_refl 32) (Fld.disjoint_of_bits (.inl (Nat.le_refl 31)))

end

/-! ### The end of a command -/

@[simp] theorem State.pllDone_pll (s : State) (n code : Nat) : (s.pllDone n code).pll = s.pll := rfl

theorem State.pllDone_word (s : State) {n a : Nat} (code : Nat) (h : a ≠ PLL_CMD_STATUS n) (he : a ≠ PLL_EVENT) :
    (s.pllDone n code).word a = s.word a :=
  (State.word_put_ne _ (evtFld 43) _ _ he).trans (State.word_put_ne _ _ _ _ h)

theorem State.pllDone_status (s : State) (n code : Nat) :
    (s.pllDone n code).word (PLL_STATUS n) = s.word (PLL_STATUS n) :=
  s.pllDone_word code (PLL_CMD_STATUS_ne_STATUS n n).symm (PLL_STATUS_ne_EVENT n)

theorem State.pllDone_code (s : State) {n code : Nat} (fits : code < 16) :
    (s.pllDone n code).get (PLL_CMD_STATUS_CODE n) = code :=
  (State.get_of_word (State.word_put_ne _ (evtFld 43) _ _ (PLL_CMD_STATUS_ne_EVENT n))).trans <|
    (State.get_put_same s (PLL_CMD_STATUS_CODE n) code (by decide : 0 + 4 ≤ 32)).trans (Nat.mod_eq_of_lt fits)

/-! ### The settings taken -/

/-- The settings that the registers of PLL `n` hold (R338). -/
def State.pllSettings (s : State) (n : Nat) : Pll where
  cfg := s.word (PLL_CFG n)
  freq := s.word (PLL_FREQ n)
  div := s.word (PLL_DIV n)
  ratio := fbRatio (s.get (PLL_FREQ_KHZ n)) (s.get (PLL_CFG_REFDIV n) + 1) (s.pllFref n)
  applying := false
  held := false

/-- What taking the settings does: the band is shown where one covers them and EN is set. -/
theorem State.pllTake_cases (s : State) (n : Nat) : s.pllTake n = s.putPl n (s.pllSettings n) ∨
    ∃ e code, s.pllTake n = ((s.putPl n (s.pllSettings n)).put (PLL_STATUS_ENTRY n) e).put (PLL_STATUS_BAND n) code := by
  unfold State.pllTake
  extract_lets v taken
  have settings : taken = s.putPl n (s.pllSettings n) := rfl
  split
  · split
    · exact .inr ⟨_, _, rfl⟩
    · exact .inl settings
  · exact .inl settings

@[simp] theorem State.pllTake_pll (s : State) (n : Nat) : (s.pllTake n).pll = (s.putPl n (s.pllSettings n)).pll := by
  rcases s.pllTake_cases n with h | ⟨e, code, h⟩
  · rw [h]
  · rw [h]
    rfl

/-- Beside the band shown in its status, taking the settings writes no register. -/
theorem State.pllTake_word (s : State) {n a : Nat} (h : a ≠ PLL_STATUS n) : (s.pllTake n).word a = s.word a := by
  rcases s.pllTake_cases n with e | ⟨entry, code, e⟩
  · rw [e, State.putPl_word]
  · rw [e, State.word_put_ne _ _ _ _ h, State.word_put_ne _ _ _ _ h, State.putPl_word]

/-- Taking the settings leaves the bits of the PLL's status from 14 up: LOCKED and MUTED among them. -/
theorem State.pllTake_bit (s : State) (n : Nat) {lo : Nat} (h : 14 ≤ lo) (fits : lo + 1 ≤ 32) :
    (s.pllTake n).bit ⟨PLL_STATUS n, lo, 1⟩ = s.bit ⟨PLL_STATUS n, lo, 1⟩ := by
  rcases s.pllTake_cases n with e | ⟨entry, code, e⟩
  · rw [e, State.putPl_bit]
  · rw [e, State.bit_put_disjoint _ (PLL_STATUS_BAND n) _ _ fits (Fld.disjoint_of_bits (.inl (by omega))),
      State.bit_put_disjoint _ (PLL_STATUS_ENTRY n) _ _ fits (Fld.disjoint_of_bits (.inl (by omega))), State.putPl_bit]

/-! ### The checks of an APPLY -/

/-- The checks read the registers and the hidden state of the PLLs alone. -/
theorem State.pllCheck_congr {s t : State} (words : ∀ a, t.word a = s.word a) (pll : t.pll = s.pll) (n : Nat) :
    t.pllCheck n = s.pllCheck n := by
  have get : t.get = s.get := funext fun f => State.get_of_word (words f.addr)
  have bit : t.bit = s.bit := funext fun f => State.bit_of_word (words f.addr)
  unfold State.pllCheck State.pllRatioBad State.pllRuleBad State.pllBand State.bandPick State.bandCovers State.pllOver State.pllDivs
    State.pllFref State.lpllSpread
  rw [get, bit, State.pllRef_of_pll pll]

/-- The LREF that an APPLY selects changes no register. -/
theorem State.lpllSelect_word (s : State) (n a : Nat) : (s.lpllSelect n).word a = s.word a := by
  have regs : (s.lpllSelect n).regs = s.regs := (s.lpllSelect_touches n).regs rfl
  rw [State.word, State.word, regs]

theorem State.lpllSelect_congr {s t : State} (words : ∀ a, t.word a = s.word a) (pll : t.pll = s.pll) (n : Nat) :
    (t.lpllSelect n).pllCheck n = (s.lpllSelect n).pllCheck n := by
  have failover : ∀ f, t.bit f = s.bit f := fun f => State.bit_of_word (words f.addr)
  have refsel : ∀ f, t.get f = s.get f := fun f => State.get_of_word (words f.addr)
  refine State.pllCheck_congr (fun a => ?_) ?_ n
  · rw [State.lpllSelect_word, State.lpllSelect_word, words]
  · unfold State.lpllSelect
    rw [failover, refsel, pll]
    split
    · rfl
    · exact pll

/-- A refusal's status fits the CODE field. -/
theorem State.pllCheck_lt (s : State) (n : Nat) : s.pllCheck n < 16 := by
  unfold State.pllCheck
  split_ifs <;> decide

end Sys2Proof.Machine

/-!
SUPPORT. The commands of the PLLs (R328 to R331, R338, R339): what APPLY, UNMUTE, a lock, its timeout and its loss leave.
-/
namespace Sys2Proof.Machine

/-! ### What the end of a command shows of the PLLs -/

/-- `t` shows what a command has left in `x`, the PLLs and the Fix selector among it. -/
structure ShowsPlls (x t : State) : Prop extends Shows x t where
  pll : t.pll = x.pll
  fix : t.fix = x.fix

theorem State.refresh_settle_showsPlls (x : State) : ShowsPlls x x.refresh.settle where
  word _ low level := State.refresh_settle_word x low level
  load := (State.settle_load _).trans (State.refresh_load _)
  fab := (State.settle_fab _).trans (State.refresh_fab _)
  out _ sent := State.out_refresh_settle sent
  pll := (State.settle_pll _).trans (State.refresh_pll _)
  fix := (State.settle_fix _).trans (State.refresh_fix _)

/-- A response shows what the write has left. -/
theorem ShowsPlls.complete {x t : State} {m code : Nat} {data : Word} (h : ShowsPlls (x.complete m code data) t) : ShowsPlls x t where
  word := h.word
  load := h.load
  fab := h.fab
  out _ sent := h.out _ (State.out_complete sent ..)
  pll := h.pll
  fix := h.fix

/-- A command that other blocks react to shows its effect. -/
theorem gives_showsPlls {c : Instr} {f : State → State} {s : State} (e : exec c s = actAll f s) :
    Gives c s (ShowsPlls (f (s.withOut []))) := gives_actAll e (State.refresh_settle_showsPlls _)

section
variable {x t : State} (h : ShowsPlls x t)
include h

theorem ShowsPlls.pl (n : Nat) : t.pl n = x.pl n := State.pl_of_pll h.pll n

theorem ShowsPlls.window {a : Nat} (ha : 0x40050000 ≤ a ∧ a < 0x40080000) : t.word a = x.word a :=
  h.word a (ha.2.trans (by decide)) (pllWindow_not_level ha)

theorem ShowsPlls.status {n : Nat} (hn : n < 11) : t.word (PLL_STATUS n) = x.word (PLL_STATUS n) := h.window (PLL_STATUS_range hn)

theorem ShowsPlls.locked {n : Nat} (hn : n < 11) : t.bit (PLL_STATUS_LOCKED n) = x.bit (PLL_STATUS_LOCKED n) :=
  State.bit_of_word (h.status hn)

theorem ShowsPlls.muted {n : Nat} (hn : n < 11) : t.bit (PLL_STATUS_MUTED n) = x.bit (PLL_STATUS_MUTED n) :=
  State.bit_of_word (h.status hn)

theorem ShowsPlls.code {n : Nat} (hn : n < 11) : t.get (PLL_CMD_STATUS_CODE n) = x.get (PLL_CMD_STATUS_CODE n) :=
  State.get_of_word (h.window (PLL_CMD_STATUS_range hn))

end

/-! ### The write of PLL_CMD -/

theorem PLL_CMD_window {n : Nat} (hn : n < 11) : blockOf (PLL_CMD n) = some 6 ∧ (PLL_CMD n - 0x40050000) / 0x100 = n ∧
    PLL_CMD n < 0x40051000 ∧ PLL_CMD n ≠ HRV_THRESH := by
  unfold blockOf PLL_CMD HRV_THRESH
  refine ⟨?_, by omega, by omega, by omega⟩
  rw [if_neg (by omega), if_neg (by omega), if_neg (by omega), if_pos (by omega)]
  exact congrArg some (by omega)

theorem PLL_CMD_commandReg (n : Fin 11) : commandReg (PLL_CMD n) = true := by
  revert n
  decide

/-- The write of PLL_CMD with its key is the command that it names. -/
theorem State.regWrite_PLL_CMD {s : State} {acc : Acc} {n : Fin 11} (op : Nat) (h : s.commandOk acc (PLL_CMD n) = true) :
    (s.withOut []).regWrite acc (PLL_CMD n) (cmdWord guardKey op) =
      ((s.atWrite (PLL_CMD n)).pllCmd n (cmdWord guardKey op) s.nvmBusy).complete acc.master.val 0 0 := by
  obtain ⟨block, index, low, noThresh⟩ := PLL_CMD_window n.isLt
  have kept : ∀ c next, (s.withOut []).writeDropped (PLL_CMD n) c next = none := fun c next => by
    unfold State.writeDropped
    rw [if_neg noThresh, block]
    exact if_neg fun band => absurd band.1 (by omega)
  have busy : (s.atWrite (PLL_CMD n)).nvmBusy = s.nvmBusy := by
    unfold State.nvmBusy
    rw [State.atWrite_bit, State.atWrite_bit]
  have starts : (s.atWrite (PLL_CMD n)).written (PLL_CMD n) (cmdWord guardKey op) (s.word (PLL_CMD n)) =
      (s.atWrite (PLL_CMD n)).pllCmd n (cmdWord guardKey op) s.nvmBusy := by
    simp only [State.written, block, index, n.isLt, busy, and_self, if_true]
  rw [State.regWrite_command (s.withOut []) acc _ _ h (PLL_CMD_commandReg n) kept, State.finish_ok]
  exact congrArg (State.complete · acc.master.val 0 0) starts

theorem State.pllCmd_apply (s : State) (n : Nat) (busy : Bool) : s.pllCmd n (cmdWord guardKey 1) busy = s.pllApply n busy := by
  simp only [State.pllCmd, cmdWord_key, cmdWord_op, bne_self_eq_false, Bool.false_eq_true, if_false]

theorem State.pllCmd_unmute (s : State) (n : Nat) (busy : Bool) : s.pllCmd n (cmdWord guardKey 2) busy = s.pllUnmute n := by
  simp only [State.pllCmd, cmdWord_key, cmdWord_op, bne_self_eq_false, Bool.false_eq_true, if_false]

theorem exec_pllApply (acc : Acc) (n : Fin 11) (s : State) :
    exec (.pllApply acc n guardKey) s = actAll (·.regWrite acc (PLL_CMD n) (cmdWord guardKey 1)) s := rfl

theorem exec_pllUnmute (acc : Acc) (n : Fin 11) (s : State) :
    exec (.pllUnmute acc n guardKey) s = actAll (·.regWrite acc (PLL_CMD n) (cmdWord guardKey 2)) s := rfl

/-- The command PLL_APPLY shows what APPLY leaves. -/
theorem gives_pllApply {s : State} {acc : Acc} {n : Fin 11} (h : s.commandOk acc (PLL_CMD n) = true) :
    Gives (.pllApply acc n guardKey) s (ShowsPlls ((s.atWrite (PLL_CMD n)).pllApply n s.nvmBusy)) := by
  refine gives_actAll (exec_pllApply acc n s) ?_
  rw [State.regWrite_PLL_CMD 1 h, State.pllCmd_apply]
  exact (State.refresh_settle_showsPlls _).complete

/-- The command PLL_UNMUTE shows what UNMUTE leaves. -/
theorem gives_pllUnmute {s : State} {acc : Acc} {n : Fin 11} (h : s.commandOk acc (PLL_CMD n) = true) :
    Gives (.pllUnmute acc n guardKey) s (ShowsPlls ((s.atWrite (PLL_CMD n)).pllUnmute n)) := by
  refine gives_actAll (exec_pllUnmute acc n s) ?_
  rw [State.regWrite_PLL_CMD 2 h, State.pllCmd_unmute]
  exact (State.refresh_settle_showsPlls _).complete

end Sys2Proof.Machine

/-!
SUPPORT. What each command and event of a PLL leaves in its state (R328 to R331, R338, R339).
-/
namespace Sys2Proof.Machine

/-! ### APPLY -/

section
variable {s : State} {n : Nat}

theorem State.pllApply_busy (busy : (s.pl n).applying = true) (nvm : Bool) : s.pllApply n nvm = s.pllDone n 2 := if_pos busy

theorem State.pllUnmute_busy (busy : (s.pl n).applying = true) : s.pllUnmute n = s.pllDone n 2 := if_pos busy

section
variable (idle : (s.pl n).applying = false)
include idle

/-- FPLL0 is not applied while the memory is busy, or while FPLL0 runs on its load band. -/
theorem State.pllApply_denied {nvm : Bool} (h : n = 0 ∧ (nvm || s.pll.loadBand) = true) : s.pllApply n nvm = s.pllDone n 3 := by
  rw [State.pllApply, idle, if_neg Bool.false_ne_true, if_pos h]

variable {nvm : Bool} (free : ¬(n = 0 ∧ (nvm || s.pll.loadBand) = true))
include free

theorem State.pllApply_off (off : s.bit (PLL_CFG_EN n) = false) : s.pllApply n nvm = ((s.pllMute n).pllTake n).pllDone n 0 := by
  rw [State.pllApply, idle, if_neg Bool.false_ne_true, if_neg free, off, Bool.not_false, if_pos rfl]

theorem State.pllApply_starts (on : s.bit (PLL_CFG_EN n) = true) (good : (s.lpllSelect n).pllCheck n = 0) : s.pllApply n nvm =
    (((s.lpllSelect n).pllMute n).pllTake n).putPl n { (((s.lpllSelect n).pllMute n).pllTake n).pl n with applying := true } := by
  rw [State.pllApply, idle, if_neg Bool.false_ne_true, if_neg free, on, Bool.not_true, if_neg Bool.false_ne_true]
  simp only [good]

theorem State.pllApply_refused (on : s.bit (PLL_CFG_EN n) = true) (bad : (s.lpllSelect n).pllCheck n ≠ 0) :
    s.pllApply n nvm = s.pllDone n ((s.lpllSelect n).pllCheck n) := by
  rw [State.pllApply, idle, if_neg Bool.false_ne_true, if_neg free, on, Bool.not_true, if_neg Bool.false_ne_true]
  dsimp only
  split
  · next good => exact absurd good bad
  · rfl

end

/-! ### UNMUTE -/

section
variable (idle : (s.pl n).applying = false)
include idle

theorem State.pllUnmute_denied (h : s.bit (PLL_STATUS_LOCKED n) = false ∨ (n = 0 ∧ s.pll.loadBand = true)) : s.pllUnmute n = s.pllDone n 3 := by
  have denied : (!s.bit (PLL_STATUS_LOCKED n) || (n == 0 && s.pll.loadBand)) = true := by simpa using h
  rw [State.pllUnmute, idle, if_neg Bool.false_ne_true, if_pos denied]

theorem State.pllUnmute_locked (locked : s.bit (PLL_STATUS_LOCKED n) = true) (own : n = 0 → s.pll.loadBand = false) :
    s.pllUnmute n = (s.pllUnmuted n).pllDone n 0 := by
  have allowed : (!s.bit (PLL_STATUS_LOCKED n) || (n == 0 && s.pll.loadBand)) = false := by simpa [locked] using own
  rw [State.pllUnmute, idle, if_neg Bool.false_ne_true, allowed, if_neg Bool.false_ne_true]

end
end

/-! ### The settings applied to muted outputs -/

section
variable {n : Nat} (hn : n < 11) (s : State)
include hn

theorem State.retake_locked : ((s.pllMute n).pllTake n).bit (PLL_STATUS_LOCKED n) = false :=
  ((s.pllMute n).pllTake_bit n (by decide : 14 ≤ 31) (Nat.le_refl 32)).trans (s.pllMute_locked hn)

theorem State.retake_muted : ((s.pllMute n).pllTake n).bit (PLL_STATUS_MUTED n) = true :=
  ((s.pllMute n).pllTake_bit n (by decide : 14 ≤ 30) (by decide : 30 + 1 ≤ 32)).trans (s.pllMute_muted hn)

theorem State.retake_cfg : (((s.pllMute n).pllTake n).pl n).cfg = s.word (PLL_CFG n) := by
  rw [State.pl_of_pll ((s.pllMute n).pllTake_pll n) n, State.putPl_pl hn]
  exact s.pllMute_word (PLL_CFG_range hn).2 (PLL_CFG_ne_STATUS n n)

theorem State.retake_code : ((s.pllMute n).pllTake n).get (PLL_CMD_STATUS_CODE n) = s.get (PLL_CMD_STATUS_CODE n) :=
  State.get_of_word <| ((s.pllMute n).pllTake_word (PLL_CMD_STATUS_ne_STATUS n n)).trans <|
    s.pllMute_word (PLL_CMD_STATUS_range hn).2 (PLL_CMD_STATUS_ne_STATUS n n)

end

/-! ### The commands APPLY and UNMUTE -/

/-- What keeps FPLL0 from being applied does not hold. -/
theorem not_and_of_imp_or {p : Prop} {a b : Bool} (free : p → a = false ∧ b = false) : ¬(p ∧ (a || b) = true) := fun ⟨hp, hab⟩ => by
  obtain ⟨ha, hb⟩ := free hp
  rw [ha, hb] at hab
  exact Bool.false_ne_true hab

section
variable {s : State} {acc : Acc} {n : Fin 11} (h : s.commandOk acc (PLL_CMD n) = true)
include h

/-- APPLY and UNMUTE of a PLL that applies its settings: BUSY. -/
theorem gives_pllBusy (busy : (s.pl n).applying = true) :
    (Gives (.pllApply acc n guardKey) s fun t => t.get (PLL_CMD_STATUS_CODE n) = 2 ∧ t.pll = s.pll) ∧
    (Gives (.pllUnmute acc n guardKey) s fun t => t.get (PLL_CMD_STATUS_CODE n) = 2 ∧ t.pll = s.pll) := by
  have busy' : ((s.atWrite (PLL_CMD n)).pl n).applying = true := busy
  refine ⟨(gives_pllApply h).imp fun t shows => ?_, (gives_pllUnmute h).imp fun t shows => ?_⟩
  · rw [State.pllApply_busy busy'] at shows
    exact ⟨(shows.code n.isLt).trans (State.pllDone_code _ (by decide)), shows.pll⟩
  · rw [State.pllUnmute_busy busy'] at shows
    exact ⟨(shows.code n.isLt).trans (State.pllDone_code _ (by decide)), shows.pll⟩

section
variable (idle : (s.pl n).applying = false)
include idle

/-- APPLY of FPLL0 while the memory is busy or FPLL0 runs on its load band: DENIED. -/
theorem gives_pllApply_denied (own : n.val = 0) (held : s.nvmBusy = true ∨ s.pll.loadBand = true) :
    Gives (.pllApply acc n guardKey) s fun t => t.pll = s.pll ∧ t.get (PLL_CMD_STATUS_CODE n) = 3 := by
  refine (gives_pllApply h).imp fun t shows => ?_
  rw [State.pllApply_denied (s := s.atWrite (PLL_CMD n)) idle ⟨own, (Bool.or_eq_true ..).mpr held⟩] at shows
  exact ⟨shows.pll, (shows.code n.isLt).trans (State.pllDone_code _ (by decide))⟩

section
variable (free : n.val = 0 → s.nvmBusy = false ∧ s.pll.loadBand = false)
include free

/-- APPLY with EN clear: the outputs mute, the settings are taken, and the command ends at once. -/
theorem gives_pllApply_off (off : s.bit (PLL_CFG_EN n) = false) :
    Gives (.pllApply acc n guardKey) s fun t => t.get (PLL_CMD_STATUS_CODE n) = 0 ∧ t.bit (PLL_STATUS_LOCKED n) = false ∧
      t.bit (PLL_STATUS_MUTED n) = true ∧ (t.pl n).cfg = s.word (PLL_CFG n) := by
  refine (gives_pllApply h).imp fun t shows => ?_
  rw [State.pllApply_off (s := s.atWrite (PLL_CMD n)) idle (not_and_of_imp_or free) ((s.atWrite_bit ..).trans off)] at shows
  have status := State.pllDone_status (((s.atWrite (PLL_CMD n)).pllMute n).pllTake n) n 0
  refine ⟨(shows.code n.isLt).trans (State.pllDone_code _ (by decide)), ?_, ?_, ?_⟩
  · exact (shows.locked n.isLt).trans ((State.bit_of_word status).trans (State.retake_locked n.isLt _))
  · exact (shows.muted n.isLt).trans ((State.bit_of_word status).trans (State.retake_muted n.isLt _))
  · exact (congrArg Pll.cfg (shows.pl n)).trans ((State.retake_cfg n.isLt _).trans (s.atWrite_word ..))

/-- APPLY of settings that pass every check: the outputs mute, the settings are taken, and the lock is waited for. -/
theorem gives_pllApply_starts (on : s.bit (PLL_CFG_EN n) = true) (good : (s.lpllSelect n).pllCheck n = 0) :
    Gives (.pllApply acc n guardKey) s fun t => (t.pl n).applying = true ∧ t.bit (PLL_STATUS_LOCKED n) = false ∧
      t.bit (PLL_STATUS_MUTED n) = true ∧ (t.pl n).cfg = s.word (PLL_CFG n) ∧
      t.get (PLL_CMD_STATUS_CODE n) = s.get (PLL_CMD_STATUS_CODE n) := by
  have good' := (State.lpllSelect_congr (s.atWrite_word (PLL_CMD n)) rfl n).trans good
  have selected : ∀ a, ((s.atWrite (PLL_CMD n)).lpllSelect n).word a = s.word a := fun a =>
    (State.lpllSelect_word ..).trans (s.atWrite_word ..)
  refine (gives_pllApply h).imp fun t shows => ?_
  rw [State.pllApply_starts (s := s.atWrite (PLL_CMD n)) idle (not_and_of_imp_or free) ((s.atWrite_bit ..).trans on) good'] at shows
  have hidden := (shows.pl n).trans (State.putPl_pl n.isLt ..)
  refine ⟨congrArg Pll.applying hidden, ?_, ?_, ?_, ?_⟩
  · exact (shows.locked n.isLt).trans (State.retake_locked n.isLt _)
  · exact (shows.muted n.isLt).trans (State.retake_muted n.isLt _)
  · exact (congrArg Pll.cfg hidden).trans ((State.retake_cfg n.isLt _).trans (selected _))
  · exact (shows.code n.isLt).trans ((State.retake_code n.isLt _).trans (State.get_of_word (selected _)))

/-- APPLY of settings that a check refuses: its status, and nothing else of the PLL. -/
theorem gives_pllApply_refused (on : s.bit (PLL_CFG_EN n) = true) (bad : (s.lpllSelect n).pllCheck n ≠ 0) :
    Gives (.pllApply acc n guardKey) s fun t => t.pll = s.pll ∧ t.get (PLL_CMD_STATUS_CODE n) = (s.lpllSelect n).pllCheck n ∧
      t.word (PLL_STATUS n) = s.word (PLL_STATUS n) := by
  have same := State.lpllSelect_congr (s.atWrite_word (PLL_CMD n)) rfl n
  refine (gives_pllApply h).imp fun t shows => ?_
  rw [State.pllApply_refused (s := s.atWrite (PLL_CMD n)) idle (not_and_of_imp_or free) ((s.atWrite_bit ..).trans on) (same ▸ bad), same] at shows
  refine ⟨shows.pll, (shows.code n.isLt).trans (State.pllDone_code _ (State.pllCheck_lt _ _)), ?_⟩
  exact (shows.status n.isLt).trans ((State.pllDone_status ..).trans (s.atWrite_word ..))

end

/-- UNMUTE without lock, or of FPLL0 on its load band: DENIED. -/
theorem gives_pllUnmute_denied (held : s.bit (PLL_STATUS_LOCKED n) = false ∨ (n.val = 0 ∧ s.pll.loadBand = true)) :
    Gives (.pllUnmute acc n guardKey) s fun t => t.get (PLL_CMD_STATUS_CODE n) = 3 ∧ t.word (PLL_STATUS n) = s.word (PLL_STATUS n) := by
  refine (gives_pllUnmute h).imp fun t shows => ?_
  rw [State.pllUnmute_denied (s := s.atWrite (PLL_CMD n)) idle (held.imp (s.atWrite_bit ..).trans id)] at shows
  exact ⟨(shows.code n.isLt).trans (State.pllDone_code _ (by decide)),
    (shows.status n.isLt).trans ((State.pllDone_status ..).trans (s.atWrite_word ..))⟩

/-- UNMUTE of a PLL that is locked. -/
theorem gives_pllUnmute_locked (locked : s.bit (PLL_STATUS_LOCKED n) = true) (own : n.val = 0 → s.pll.loadBand = false) :
    Gives (.pllUnmute acc n guardKey) s fun t => t.get (PLL_CMD_STATUS_CODE n) = 0 ∧ t.bit (PLL_STATUS_MUTED n) = false ∧
      t.bit (PLL_STATUS_LOCKED n) = true := by
  have locked' := (s.atWrite_bit (PLL_CMD n) _).trans locked
  refine (gives_pllUnmute h).imp fun t shows => ?_
  rw [State.pllUnmute_locked (s := s.atWrite (PLL_CMD n)) idle locked' own] at shows
  have status := State.pllDone_status ((s.atWrite (PLL_CMD n)).pllUnmuted n) n 0
  refine ⟨(shows.code n.isLt).trans (State.pllDone_code _ (by decide)), ?_, ?_⟩
  · exact (shows.muted n.isLt).trans ((State.bit_of_word status).trans (State.pllUnmuted_muted n.isLt _))
  · exact (shows.locked n.isLt).trans ((State.bit_of_word status).trans ((State.pllUnmuted_locked n.isLt _).trans locked'))

end
end

end Sys2Proof.Machine

/-!
SUPPORT. The lock of a PLL, an APPLY that gets none, and a lock that is lost (R328 to R331, R339).
-/
namespace Sys2Proof.Machine

/-! ### A report beside the PLLs -/

/-- A report writes registers of the guarantee unit and of the log alone: those of the PLLs and of the Fix selector stay. -/
theorem State.report_window (s : State) (n inst detail : Nat) {a : Nat} (h : 0x40050000 ≤ a ∧ a < 0x40080000) :
    (s.report n inst detail).word a = s.word a := by
  have guard : ∀ g, g < 0x40050000 → a ≠ g := fun g hg => by omega
  have log : a ≠ LOG_LOST := by unfold LOG_LOST; omega
  have multi : (s.grdMulti n).word a = s.word a := by
    unfold State.grdMulti State.iff
    extract_lets near other raised
    refine (State.withGrd_word ..).trans ?_
    unfold raised
    split
    · exact State.word_put_ne s (evtFld 37) _ _ (guard _ (by decide))
    · rfl
  have record : ((s.grdMulti n).grdRecord n inst).word a = (s.grdMulti n).word a := by
    unfold State.grdRecord State.iff
    extract_lets last
    have kept : last.word a = (s.grdMulti n).word a :=
      State.grdPut_word _ _ _ (guard _ (by decide)) (guard _ (by decide)) (guard _ (by decide)) (guard _ (by decide))
    split
    · exact (State.grdPut_word _ _ _ (guard _ (by decide)) (guard _ (by decide)) (guard _ (by decide)) (guard _ (by decide))).trans kept
    · exact kept
  have react : ∀ x : State, (x.grdReact n inst).word a = x.word a := fun x => by
    refine (State.degraded_word _ n (guard _ (by decide)) (guard _ (by decide)) (guard _ (by decide))).trans ?_
    split
    · exact State.word_put_ne x _ _ _ (by rcases pendingFld_register n with e | e <;> rw [e] <;> exact guard _ (by decide))
    · rfl
  by_cases on : s.dev = .off
  · simp [State.report, on]
  · rw [State.report_eq on, react, State.grdEntry_word _ _ _ _ (guard _ (by decide)) log,
      State.grdCount_word _ _ (guard _ (by decide)) (guard _ (by decide)) (guard _ (by decide)), record, multi]

@[simp] theorem State.report_pll (s : State) (n inst detail : Nat) : (s.report n inst detail).pll = s.pll :=
  (s.report_touches n inst detail).pll rfl

/-- What a report of a latched fault shows at the end of the command: the fault is pending, and GRD_LAST tells where it was. -/
theorem Shows.report {x t : State} {n inst detail : Nat} (h : Shows (x.report n inst detail) t) (on : x.dev ≠ .off) (hn : n < 64)
    (latched : (faultRow n).latched = true) (hi : inst < 65536) :
    t.bit (pendingFld n) = true ∧ t.get GRD_LAST_INSTANCE = inst := by
  have last : t.word GRD_LAST = (x.report n inst detail).word GRD_LAST := h.word _ (by decide) (by decide)
  have pending : t.word (pendingFld n).addr = (x.report n inst detail).word (pendingFld n).addr := by
    rcases pendingFld_register n with e | e <;> rw [e] <;> exact h.word _ (by decide) (by decide)
  exact ⟨(State.bit_of_word pending).trans (State.report_pending on hn latched inst detail),
    (State.get_of_word (f := GRD_LAST_INSTANCE) last).trans (State.report_last on hn hi detail).2⟩

/-! ### The lock -/

/-- What a lock leaves before the outputs unmute: LOCKED, no APPLY that waits for it, and the steering word where STEER_EN is set. -/
def State.pllSynced (s : State) (n : Nat) : State :=
  let ended := ((s.set (PLL_STATUS_LOCKED n)).lpllShow n).putPl n { s.pl n with applying := false, held := false }
  ended.iff (ended.bit (PLL_CFG_STEER_EN n)) fun s => s.put (PLL_STEER_SIGMA n) (s.get FIX_SIGMA_SIGMA)

section
variable (s : State) (n : Nat)

theorem State.pllShown_word {a : Nat} (low : a < 0x40080000) :
    ((s.set (PLL_STATUS_LOCKED n)).lpllShow n).word a = (s.set (PLL_STATUS_LOCKED n)).word a := (State.lpllShow_low ..).word a low

theorem State.pllSynced_word {a : Nat} (low : a < 0x40080000) (h : a ≠ PLL_STEER n) :
    (s.pllSynced n).word a = (s.set (PLL_STATUS_LOCKED n)).word a := by
  unfold State.pllSynced State.iff
  extract_lets ended
  split
  · exact (State.word_put_ne _ _ _ _ h).trans ((State.putPl_word ..).trans (s.pllShown_word n low))
  · exact (State.putPl_word ..).trans (s.pllShown_word n low)

theorem State.pllSynced_kept {a : Nat} (low : a < 0x40080000) (h : a ≠ PLL_STEER n) (status : a ≠ PLL_STATUS n) :
    (s.pllSynced n).word a = s.word a :=
  (s.pllSynced_word n low h).trans (State.word_put_ne _ _ _ _ status)

end

theorem PLL_STATUS_ne_STEER (n : Nat) : PLL_STATUS n ≠ PLL_STEER n := by unfold PLL_STATUS PLL_STEER; omega

theorem PLL_CFG_ne_STEER (n : Nat) : PLL_CFG n ≠ PLL_STEER n := by unfold PLL_CFG PLL_STEER; omega

theorem PLL_CMD_STATUS_ne_STEER (n : Nat) : PLL_CMD_STATUS n ≠ PLL_STEER n := by unfold PLL_CMD_STATUS PLL_STEER; omega

section
variable {n : Nat} (hn : n < 11) (s : State)
include hn

theorem State.pllSynced_locked : (s.pllSynced n).bit (PLL_STATUS_LOCKED n) = true :=
  (State.bit_of_word (s.pllSynced_word n (PLL_STATUS_range hn).2 (PLL_STATUS_ne_STEER n))).trans <|
    State.bit_set_same s (PLL_STATUS_LOCKED n) (by decide : 31 + 1 ≤ 32) Nat.one_ne_zero

theorem State.pllSynced_muted : (s.pllSynced n).bit (PLL_STATUS_MUTED n) = s.bit (PLL_STATUS_MUTED n) :=
  (State.bit_of_word (s.pllSynced_word n (PLL_STATUS_range hn).2 (PLL_STATUS_ne_STEER n))).trans <|
    State.bit_set_disjoint s (PLL_STATUS_LOCKED n) (PLL_STATUS_MUTED n) (by decide : 30 + 1 ≤ 32) (Fld.disjoint_of_bits (.inr (Nat.le_refl 31)))

theorem State.pllSynced_cfg : (s.pllSynced n).word (PLL_CFG n) = s.word (PLL_CFG n) :=
  s.pllSynced_kept n (PLL_CFG_range hn).2 (PLL_CFG_ne_STEER n) (PLL_CFG_ne_STATUS n n)

theorem State.pllSynced_code : (s.pllSynced n).word (PLL_CMD_STATUS n) = s.word (PLL_CMD_STATUS n) :=
  s.pllSynced_kept n (PLL_CMD_STATUS_range hn).2 (PLL_CMD_STATUS_ne_STEER n) (PLL_CMD_STATUS_ne_STATUS n n)

theorem State.pllSynced_idle : ((s.pllSynced n).pl n).applying = false := by
  have hidden : (s.pllSynced n).pll =
      (((s.set (PLL_STATUS_LOCKED n)).lpllShow n).putPl n { s.pl n with applying := false, held := false }).pll := by
    unfold State.pllSynced State.iff
    extract_lets ended
    split <;> rfl
  rw [State.pl_of_pll hidden, State.putPl_pl hn]

end

/-- What the outputs do at a lock: they unmute, unless they were held and HOLD_MUTE is set (R328, R330). -/
def State.pllUnholds (s : State) (n : Nat) (held : Bool) : State := if held && s.bit (PLL_CFG_HOLD_MUTE n) then s else s.pllUnmuted n

section
variable {n : Nat} (s : State) (held : Bool)

@[simp] theorem State.pllUnholds_pll : (s.pllUnholds n held).pll = s.pll := by
  unfold State.pllUnholds
  split
  · rfl
  · exact s.pllUnmuted_pll n

theorem State.pllUnholds_word {a : Nat} (low : a < 0x40080000) (h : a ≠ PLL_STATUS n) : (s.pllUnholds n held).word a = s.word a := by
  unfold State.pllUnholds
  split
  · rfl
  · exact s.pllUnmuted_word low h

theorem State.pllUnholds_locked (hn : n < 11) : (s.pllUnholds n held).bit (PLL_STATUS_LOCKED n) = s.bit (PLL_STATUS_LOCKED n) := by
  unfold State.pllUnholds
  split
  · rfl
  · exact State.pllUnmuted_locked hn s

end

/-- The lock itself, of a PLL that runs from a good reference and is not locked. -/
theorem State.pllLock_locks {s : State} {n : Nat} (run : s.inService = true) (on : s.pllOn n = true) (good : s.refOk (s.pllRef n) = true)
    (unlocked : s.bit (PLL_STATUS_LOCKED n) = false) (own : n = 0 → s.pll.loadBand = false) :
    s.pllLock n = ((s.pllSynced n).pllUnholds n (s.pl n).held).iff (s.pl n).applying (·.pllDone n 0) := by
  have awake : (s.dev == .off || s.dev == .watch && !s.pwr.leaving && s.pwr.wake == 0) = false := by
    have serves : s.dev = .running ∨ s.dev = .draining := by simpa [State.inService] using run
    rcases serves with h | h <;> rw [h] <;> rfl
  have locks : ¬(!(s.pllOn n && s.refOk (s.pllRef n) && !s.bit (PLL_STATUS_LOCKED n)) || s.dev == .off ||
      s.dev == .watch && !s.pwr.leaving && s.pwr.wake == 0) = true := by
    rw [Bool.or_assoc, awake, on, good, unlocked]
    decide
  have band : ((s.set (PLL_STATUS_LOCKED n)).lpllShow n).pll = s.pll := (State.lpllShow_touches ..).pll rfl
  have outside : ¬(n = 0 ∧ ((s.set (PLL_STATUS_LOCKED n)).lpllShow n).pll.loadBand = true) := fun ⟨first, load⟩ => by
    rw [band, own first] at load
    exact Bool.false_ne_true load
  unfold State.pllLock
  rw [if_neg locks]
  exact if_neg outside

/-! ### The events of a PLL -/

theorem exec_pllLock (n : Fin 11) (s : State) : exec (.pllLock n) s = actAll (·.pllLock n) s := rfl

theorem exec_pllLockTimeout (n : Fin 11) (s : State) : exec (.pllLockTimeout n) s = actAll (·.pllTimeout n) s := rfl

theorem exec_pllLossOfLock (n : Fin 11) (s : State) : exec (.pllLossOfLock n) s = actAll (·.pllLol n) s := rfl

section
variable {s : State} {n : Fin 11}

/-- A PLL locks. -/
theorem gives_pllLock (run : s.inService = true) (on : s.pllOn n = true) (good : s.refOk (s.pllRef n) = true)
    (unlocked : s.bit (PLL_STATUS_LOCKED n) = false) (own : n.val = 0 → s.pll.loadBand = false) : Gives (.pllLock n) s fun t =>
      t.bit (PLL_STATUS_LOCKED n) = true ∧ (t.pl n).applying = false ∧
      ((s.pl n).held = false ∨ s.bit (PLL_CFG_HOLD_MUTE n) = false → t.bit (PLL_STATUS_MUTED n) = false) ∧
      ((s.pl n).held = true → s.bit (PLL_CFG_HOLD_MUTE n) = true → t.bit (PLL_STATUS_MUTED n) = s.bit (PLL_STATUS_MUTED n)) ∧
      t.get (PLL_CMD_STATUS_CODE n) = (if (s.pl n).applying then 0 else s.get (PLL_CMD_STATUS_CODE n)) := by
  have hn := n.isLt
  let x := (s.withOut []).pllSynced n
  let y := x.pllUnholds n (s.pl n).held
  refine (gives_showsPlls (exec_pllLock n s)).imp fun t shows => ?_
  have locks : (s.withOut []).pllLock n = y.iff (s.pl n).applying (·.pllDone n 0) :=
    State.pllLock_locks (s := s.withOut []) run on good unlocked own
  rw [locks] at shows
  have status : t.word (PLL_STATUS n) = y.word (PLL_STATUS n) := (shows.status hn).trans <| by
    unfold State.iff
    split
    · exact y.pllDone_status n 0
    · rfl
  have hold : x.bit (PLL_CFG_HOLD_MUTE n) = s.bit (PLL_CFG_HOLD_MUTE n) := State.bit_of_word (State.pllSynced_cfg hn _)
  refine ⟨?_, ?_, fun free => ?_, fun held set => ?_, ?_⟩
  · exact (State.bit_of_word status).trans ((x.pllUnholds_locked _ hn).trans (State.pllSynced_locked hn _))
  · have hidden : t.pll = x.pll := shows.pll.trans <| by
      unfold State.iff
      split <;> exact x.pllUnholds_pll _
    rw [State.pl_of_pll hidden]
    exact State.pllSynced_idle hn _
  · have unmutes : y = x.pllUnmuted n := if_neg (by rw [hold]; rcases free with h | h <;> simp [h])
    exact (State.bit_of_word status).trans ((congrArg (State.bit · _) unmutes).trans (State.pllUnmuted_muted hn x))
  · have stays : y = x := if_pos (by rw [hold, held, set]; rfl)
    exact (State.bit_of_word status).trans ((congrArg (State.bit · _) stays).trans (State.pllSynced_muted hn _))
  · refine (shows.code hn).trans ?_
    unfold State.iff
    split
    · exact y.pllDone_code (by decide)
    · exact State.get_of_word ((x.pllUnholds_word _ (PLL_CMD_STATUS_range hn).2 (PLL_CMD_STATUS_ne_STATUS n n)).trans
        (State.pllSynced_code hn _))

/-- An APPLY gets no lock. -/
theorem gives_pllLockTimeout (on : s.dev ≠ .off) (applying : (s.pl n).applying = true) : Gives (.pllLockTimeout n) s fun t =>
    t.get (PLL_CMD_STATUS_CODE n) = 5 ∧ (t.pl n).applying = false ∧ t.bit (pendingFld 18) = true ∧ t.get GRD_LAST_INSTANCE = n := by
  have hn := n.isLt
  let x := ((s.withOut []).putPl n { s.pl n with applying := false, held := true }).pllDone n 5
  refine (gives_showsPlls (exec_pllLockTimeout n s)).imp fun t shows => ?_
  have ends : (s.withOut []).pllTimeout n = x.report 18 n 0 := if_pos applying
  rw [ends] at shows
  have hidden : t.pll = ((s.withOut []).putPl n { s.pl n with applying := false, held := true }).pll := shows.pll.trans (x.report_pll ..)
  refine ⟨?_, ?_, shows.toShows.report on (by decide) rfl (by omega)⟩
  · exact (shows.code hn).trans ((State.get_of_word (x.report_window _ _ _ (PLL_CMD_STATUS_range hn))).trans (State.pllDone_code _ (by decide)))
  · rw [State.pl_of_pll hidden, State.putPl_pl hn]

/-- A locked PLL loses lock. -/
theorem gives_pllLossOfLock (locked : s.bit (PLL_STATUS_LOCKED n) = true) : Gives (.pllLossOfLock n) s fun t =>
    t.bit (PLL_STATUS_LOCKED n) = false ∧ t.bit (PLL_STATUS_MUTED n) = true ∧ t.bit (PLL_STATUS_LOL n) = true ∧ (t.pl n).held = true ∧
    t.get (PLL_LOL_COUNT_COUNT n) = min (s.get (PLL_LOL_COUNT_COUNT n) + 1) (2 ^ (PLL_LOL_COUNT_COUNT n).width - 1) ∧
    (s.dev ≠ .off → s.refOk (s.pllRef n) = true → t.bit (pendingFld 18) = true) := by
  have hn := n.isLt
  let w := (s.withOut []).set (PLL_STATUS_LOL n)
  let x := (w.satInc (PLL_LOL_COUNT_COUNT n) (PLL_LOL_COUNT_OVF n)).event 41
  let p := x.putPl n { x.pl n with held := true }
  let y := p.pllMute n
  refine (gives_showsPlls (exec_pllLossOfLock n s)).imp fun t shows => ?_
  have unlocks : (s.withOut []).pllLol n = y.iff (y.refOk (y.pllRef n)) (·.report 18 n 0) := if_neg (by
    rw [State.withOut_bit, locked]
    exact Bool.false_ne_true)
  rw [unlocks] at shows
  have window : ∀ {a}, 0x40050000 ≤ a ∧ a < 0x40080000 → t.word a = y.word a := fun {a} ha => (shows.window ha).trans <| by
    unfold State.iff
    split
    · exact y.report_window _ _ _ ha
    · rfl
  have status := window (PLL_STATUS_range hn)
  have lol : x.word (PLL_STATUS n) = w.word (PLL_STATUS n) :=
    (State.word_put_ne _ (evtFld 41) _ _ (PLL_STATUS_ne_EVENT n)).trans
      (w.satInc_word_ne (PLL_LOL_COUNT_ne_STATUS n n).symm (PLL_LOL_COUNT_ne_STATUS n n).symm)
  refine ⟨?_, ?_, ?_, ?_, ?_, fun on good => ?_⟩
  · exact (State.bit_of_word status).trans (p.pllMute_locked hn)
  · exact (State.bit_of_word status).trans (p.pllMute_muted hn)
  · calc t.bit (PLL_STATUS_LOL n)
      _ = p.bit (PLL_STATUS_LOL n) := (State.bit_of_word status).trans (p.pllMute_bit hn (by decide : 29 + 1 ≤ 30))
      _ = x.bit (PLL_STATUS_LOL n) := x.putPl_bit ..
      _ = w.bit (PLL_STATUS_LOL n) := State.bit_of_word lol
      _ = true := State.bit_set_same _ (PLL_STATUS_LOL n) (by decide : 29 + 1 ≤ 32) Nat.one_ne_zero
  · have hidden : t.pll = p.pll := shows.pll.trans <| by
      unfold State.iff
      split
      · exact (y.report_pll ..).trans (p.pllMute_pll n)
      · exact p.pllMute_pll n
    rw [State.pl_of_pll hidden, State.putPl_pl hn]
  · have counted : t.word (PLL_LOL_COUNT n) = (w.satInc (PLL_LOL_COUNT_COUNT n) (PLL_LOL_COUNT_OVF n)).word (PLL_LOL_COUNT n) :=
      (window (PLL_LOL_COUNT_range hn)).trans <| (p.pllMute_word (PLL_LOL_COUNT_range hn).2 (PLL_LOL_COUNT_ne_STATUS n n)).trans <|
        (x.putPl_word ..).trans <| State.word_put_ne _ (evtFld 41) _ _ (PLL_LOL_COUNT_ne_EVENT n)
    have before : w.get (PLL_LOL_COUNT_COUNT n) = s.get (PLL_LOL_COUNT_COUNT n) :=
      State.get_of_word (State.word_put_ne _ _ _ _ (PLL_LOL_COUNT_ne_STATUS n n))
    refine (State.get_of_word (f := PLL_LOL_COUNT_COUNT n) counted).trans ?_
    rw [← before]
    exact w.satAdd_get 1 (by decide : 0 + 16 ≤ 32) (Fld.disjoint_of_bits (.inr (by decide)))
  · have counts := w.satInc_touches (PLL_LOL_COUNT_COUNT n) (PLL_LOL_COUNT_OVF n)
    have hidden : x.pll = s.pll := counts.pll rfl
    have dev : y.dev = s.dev := ((State.pllMute_touches p n).dev rfl).trans (counts.dev rfl)
    have fed : y.refOk (y.pllRef n) = true := by
      rw [State.refOk_of_pll (p.pllMute_pll n), State.pllRef_of_pll (p.pllMute_pll n)]
      have same : p.refOk (p.pllRef n) = x.refOk (x.pllRef n) := rfl
      rw [same, State.refOk_of_pll hidden, State.pllRef_of_pll hidden, good]
    rw [fed] at shows
    exact (shows.toShows.report (dev.trans_ne on) (by decide) rfl (by omega)).1

end

/-- Settles O39: a lemma for each command and event of a PLL, from what a mute, an unmute, the settings taken and the end of a command leave
in its registers and its hidden state. -/
theorem pllCommandsAndLock : Obligations.PllCommandsAndLock := fun _ _ =>
  ⟨fun _ h busy => gives_pllBusy h busy,
    fun _ h idle free => ⟨gives_pllApply_off h idle free, gives_pllApply_starts h idle free, gives_pllApply_refused h idle free⟩,
    fun _ h idle own held => gives_pllApply_denied h idle own held,
    fun _ h idle => ⟨gives_pllUnmute_denied h idle, gives_pllUnmute_locked h idle⟩,
    gives_pllLock, gives_pllLockTimeout, gives_pllLossOfLock⟩

end Sys2Proof.Machine

/-!
SUPPORT. References that are lost and that qualify (R156, R332, R333, R382, R390, R391).
-/
namespace Sys2Proof.Machine

/-! ### The references -/

theorem State.refOk_of_refs {s t : State} (h : t.pll.refs = s.pll.refs) (r : Nat) : t.refOk r = s.refOk r := by
  unfold State.refOk
  rw [h]

@[simp] theorem State.lanesRestart_pll (s : State) (ns : List Nat) : (s.lanesRestart ns).pll = s.pll := (s.lanesRestart_touches ns).pll rfl

/-- A failover takes the other LREF: no reference qualifies or is lost by it. -/
theorem State.lpllFailover_refs (s : State) (n : Nat) : (s.lpllFailover n).pll.refs = s.pll.refs := by
  unfold State.lpllFailover State.iff
  extract_lets g taken shown
  split
  · exact State.each_keeps (P := fun x => x.pll.refs = s.pll.refs) rfl fun x l h =>
      (congrArg PllState.refs ((State.laneRestart_touches _ l false).pll rfl)).trans h
  · rfl

/-! ### The PLLs that lose their reference -/

/-- PLL `n` has lost its reference: REF_LOSS, and no lock. -/
def State.pllUnfed (s : State) (n : Nat) : Prop := s.bit (PLL_STATUS_REF_LOSS n) = true ∧ s.bit (PLL_STATUS_LOCKED n) = false

theorem PLL_STATUS_inj {n m : Nat} (h : PLL_STATUS n = PLL_STATUS m) : n = m := by unfold PLL_STATUS at h; omega

theorem State.pllUnfed_of_word {s t : State} {n : Nat} (h : t.word (PLL_STATUS n) = s.word (PLL_STATUS n)) (unfed : s.pllUnfed n) :
    t.pllUnfed n :=
  ⟨(State.bit_of_word h).trans unfed.1, (State.bit_of_word h).trans unfed.2⟩

theorem State.pllRefLost_status (s : State) (n m : Nat) :
    (s.pllRefLost n).word (PLL_STATUS m) = (((s.putPl n { s.pl n with held := true }).pllMute n).set (PLL_STATUS_REF_LOSS n)).word (PLL_STATUS m) :=
  State.word_put_ne _ (evtFld 42) _ _ (PLL_STATUS_ne_EVENT m)

/-- The PLL itself is unfed. -/
theorem State.pllRefLost_unfed (s : State) {n : Nat} (hn : n < 11) : (s.pllRefLost n).pllUnfed n := by
  refine State.pllUnfed_of_word (s.pllRefLost_status n n) ⟨State.bit_set_same _ (PLL_STATUS_REF_LOSS n) (by decide : 28 + 1 ≤ 32) Nat.one_ne_zero, ?_⟩
  refine (State.bit_set_disjoint _ (PLL_STATUS_REF_LOSS n) (PLL_STATUS_LOCKED n) (Nat.le_refl 32) (Fld.disjoint_of_bits (.inl (by decide)))).trans ?_
  exact State.pllMute_locked hn _

/-- The loss of one PLL's reference leaves another PLL unfed. -/
theorem State.pllRefLost_keeps (s : State) {n m : Nat} (hm : m < 11) (unfed : s.pllUnfed m) : (s.pllRefLost n).pllUnfed m := by
  by_cases same : m = n
  · subst same
    exact s.pllRefLost_unfed hm
  · have other : PLL_STATUS m ≠ PLL_STATUS n := fun e => same (PLL_STATUS_inj e)
    exact State.pllUnfed_of_word ((s.pllRefLost_status n m).trans <| (State.word_put_ne _ _ _ _ other).trans <|
      (State.pllMute_word _ (PLL_STATUS_range hm).2 other).trans (State.putPl_word ..)) unfed

theorem State.pllRefLost_pll (s : State) (n : Nat) : (s.pllRefLost n).pll = (s.putPl n { s.pl n with held := true }).pll :=
  State.pllMute_pll _ n

theorem State.putPl_cfg (s : State) {n : Nat} {v : Pll} (h : v.cfg = (s.pl n).cfg) (m : Nat) : ((s.putPl n v).pl m).cfg = (s.pl m).cfg := by
  unfold State.pl State.putPl at *
  simp only [State.withPll, Vector.getElem?_setIfInBounds]
  split
  · next same =>
    subst same
    split
    · exact h
    · next outside => rw [Vector.getElem?_eq_none (Nat.le_of_not_lt outside)]
  · rfl

/-- A PLL that loses its reference is still on. -/
theorem State.pllRefLost_on (s : State) (n m : Nat) : (s.pllRefLost n).pllOn m = s.pllOn m := by
  have kept := s.pllRefLost_pll n
  have cfg : ((s.pllRefLost n).pl m).cfg = (s.pl m).cfg :=
    (congrArg Pll.cfg (State.pl_of_pll kept m)).trans (s.putPl_cfg (v := { s.pl n with held := true }) rfl m)
  unfold State.pllOn
  rw [cfg, kept]
  rfl

/-- What the step of one element brings about, and every step keeps, holds after `each`. -/
theorem State.each_reaches {α : Type} {f : State → α → State} {P : State → Prop} {a : α} (brings : ∀ x, P (f x a))
    (keeps : ∀ x b, P x → P (f x b)) {xs : List α} (mem : a ∈ xs) (s : State) : P (s.each xs f) := by
  induction xs generalizing s with
  | nil => exact absurd mem List.not_mem_nil
  | cons b bs ih =>
    rcases List.mem_cons.mp mem with rfl | later
    · exact State.each_keeps (s := f s a) (brings s) keeps
    · exact ih later (f s b)

/-! ### The loss of a reference -/

/-- Reference `r` is not qualified any more. -/
def State.refGone (s : State) (r : Nat) : State := s.withPll { s.pll with refs := s.pll.refs &&& ~~~(1#6 <<< r) }

/-- The PLLs that ran from `r` lose it. -/
def State.refUnfeeds (s : State) (r : Nat) : State := (s.refGone r).each ((s.refGone r).pllsOf r) fun s n => s.pllRefLost n

theorem State.refGone_refOk (s : State) {r : Nat} (hr : r < 6) : (s.refGone r).refOk r = false := by
  show (s.pll.refs &&& ~~~(1#6 <<< r)).getLsbD r = false
  simp [hr]

theorem State.refUnfeeds_refs (s : State) (r : Nat) : (s.refUnfeeds r).pll.refs = (s.refGone r).pll.refs :=
  State.each_keeps (P := fun x => x.pll.refs = (s.refGone r).pll.refs) rfl fun x n h => (congrArg PllState.refs (x.pllRefLost_pll n)).trans h

theorem State.refUnfeeds_dev (s : State) (r : Nat) : (s.refUnfeeds r).dev = s.dev :=
  State.each_keeps (P := fun x => x.dev = s.dev) rfl fun x n h => ((x.pllRefLost_touches n).dev rfl).trans h

theorem State.refUnfeeds_watched (s : State) (r : Nat) : (s.refUnfeeds r).refWatched r = s.refWatched r := by
  have on : (s.refUnfeeds r).pllOn (8 + (r - 1) / 2) = s.pllOn (8 + (r - 1) / 2) :=
    State.each_keeps (P := fun x => x.pllOn (8 + (r - 1) / 2) = s.pllOn (8 + (r - 1) / 2)) rfl fun x n h => (x.pllRefLost_on n _).trans h
  unfold State.refWatched
  rw [on]

/-- Every PLL that runs from `r` is left unfed. -/
theorem State.refUnfeeds_unfed (s : State) {r n : Nat} (hn : n < 11) (on : s.pllOn n = true) (ref : s.pllRef n = r) :
    (s.refUnfeeds r).pllUnfed n := by
  have fed : n ∈ (s.refGone r).pllsOf r := by
    refine List.mem_filter.mpr ⟨List.mem_range.mpr hn, ?_⟩
    have on' : (s.refGone r).pllOn n = true := on
    have ref' : (s.refGone r).pllRef n = r := ref
    rw [on', ref', beq_self_eq_true, Bool.and_self]
  exact State.each_reaches (P := fun x => x.pllUnfed n) (fun x => x.pllRefLost_unfed hn) (fun x m h => x.pllRefLost_keeps hn h) fed _

/-- What the loss of reference `r` in `s` leaves in `x`. -/
structure RefLost (s : State) (r : Nat) (x : State) : Prop where
  ok : x.refOk r = false
  reported : s.refWatched r = true → x.bit (pendingFld 19) = true ∧ x.get GRD_LAST_INSTANCE = r
  unfed : ∀ n, n < 11 → s.pllOn n = true → s.pllRef n = r → x.pllUnfed n

/-- It stays where no register below the Fix selector's but a level changes, and no reference. -/
theorem RefLost.keeps {s x y : State} {r : Nat} (h : RefLost s r x)
    (word : ∀ a, a < 0x40060000 → a ∉ levelRegs → y.word a = x.word a) (refs : y.pll.refs = x.pll.refs) : RefLost s r y where
  ok := (State.refOk_of_refs refs r).trans h.ok
  reported watched :=
    ⟨(State.bit_of_word (word (pendingFld 19).addr (by decide) (by decide))).trans (h.reported watched).1,
      (State.get_of_word (word GRD_LAST (by decide) (by decide))).trans (h.reported watched).2⟩
  unfed n hn on ref :=
    have below : PLL_STATUS n < 0x40060000 := by unfold PLL_STATUS; omega
    State.pllUnfed_of_word (word _ below (pllWindow_not_level (PLL_STATUS_range hn))) (h.unfed n hn on ref)

theorem RefLost.low {s x y : State} {r b : Nat} (h : RefLost s r x) (low : Low b x y) (hb : 0x40060000 ≤ b)
    (refs : y.pll.refs = x.pll.refs) : RefLost s r y :=
  h.keeps (fun a ha _ => low.word a (Nat.lt_of_lt_of_le ha hb)) refs

/-- A watched reference is reported. -/
def State.refReports (s : State) (r : Nat) : State := (s.refUnfeeds r).iff ((s.refUnfeeds r).refWatched r) (·.report 19 r 0)

theorem State.refReports_dev (s : State) (r : Nat) : (s.refReports r).dev = s.dev := by
  unfold State.refReports State.iff
  split
  · exact ((State.report_touches ..).dev rfl).trans (s.refUnfeeds_dev r)
  · exact s.refUnfeeds_dev r

theorem State.refReports_lost {s : State} {r : Nat} (on : s.dev ≠ .off) (hr : r < 6) : RefLost s r (s.refReports r) where
  ok := by
    refine (State.refOk_of_refs (t := s.refReports r) (s := s.refGone r) ?_ r).trans (s.refGone_refOk hr)
    unfold State.refReports State.iff
    split
    · exact (congrArg PllState.refs (State.report_pll ..)).trans (s.refUnfeeds_refs r)
    · exact s.refUnfeeds_refs r
  reported watched := by
    have on' : (s.refUnfeeds r).dev ≠ .off := (s.refUnfeeds_dev r).trans_ne on
    unfold State.refReports
    rw [State.refUnfeeds_watched, watched]
    exact ⟨State.report_pending on' (by decide) rfl r 0, (State.report_last on' (by decide) (by omega) 0).2⟩
  unfed n hn on ref := by
    refine State.pllUnfed_of_word ?_ (s.refUnfeeds_unfed hn on ref)
    unfold State.refReports State.iff
    split
    · exact State.report_window _ _ _ _ (PLL_STATUS_range hn)
    · rfl

/-! ### What follows in the other blocks -/

theorem State.fixOscLost_low (s : State) : Low 0x40060000 s s.fixOscLost :=
  (((Low.refl _ s).clr (f := FIX_STATE_TIME_VALID) (by decide)).event (n := 54) (by decide)).withFix

/-- Device time is not valid any more, and TIME_INVALID is raised (R382). -/
theorem State.fixOscLost_timeInvalid (s : State) :
    s.fixOscLost.bit FIX_STATE_TIME_VALID = false ∧ s.fixOscLost.fix.oscOk = false ∧ s.fixOscLost.bit (evtFld 54) = true := by
  refine ⟨?_, rfl, State.bit_set_same _ (evtFld 54) (by decide) (by decide)⟩
  exact (State.bit_of_word (State.word_put_ne _ (evtFld 54) _ _ (by decide : FIX_STATE ≠ (evtFld 54).addr))).trans
    (State.bit_clr_same s FIX_STATE_TIME_VALID (by decide))

/-- The loss of OSC_LOCAL_IN. -/
theorem State.refLoss_osc {s : State} (good : s.refOk 0 = true) : s.refLoss 0 = (s.refReports 0).iff (s.refReports 0).inService (·.fixOscLost) := by
  have lost : (!s.refOk 0) = false := by rw [good]; rfl
  unfold State.refLoss
  rw [lost, if_neg Bool.false_ne_true]
  rfl

/-- The loss of any reference while the part is in service. -/
theorem State.refLoss_lost {s : State} {r : Nat} (run : s.inService = true) (good : s.refOk r = true) (hr : r < 6) :
    RefLost s r (s.refLoss r) := by
  have on : s.dev ≠ .off := fun off => by simp [State.inService, off] at run
  have reported := State.refReports_lost on hr
  have lost : (!s.refOk r) = false := by rw [good]; rfl
  unfold State.refLoss
  rw [lost, if_neg Bool.false_ne_true]
  extract_lets refs gone fed unfed shown lit taken
  change RefLost s r shown at reported
  split
  · unfold State.iff
    split
    · exact reported.low shown.fixOscLost_low (Nat.le_refl _) rfl
    · exact reported
  · split
    · have group : 0x40080000 ≤ LNK_GROUP_STATUS (r - 1) := by unfold LNK_GROUP_STATUS; omega
      have clears : Low 0x40080000 shown lit := (Low.refl _ shown).clr (f := LNK_GROUP_STATUS_REF_OK (r - 1)) group
      have unlit : RefLost s r lit := reported.low clears (by decide) rfl
      have takes : RefLost s r taken := State.each_keeps unlit fun y n h => by
        unfold State.iff
        split
        · exact h.low (y.lpllFailover_low n) (by decide) (y.lpllFailover_refs n)
        · exact h
      exact takes.low (State.lanesRestart_keepsPlls taken _) (by decide) (congrArg PllState.refs (State.lanesRestart_pll ..))
    · exact reported

/-! ### The event REF_LOSS -/

theorem exec_refLoss (r : Fin 6) (s : State) : exec (.refLoss r) s = actAll (fun s =>
    (s.refLoss r).iff (s.refOk r && r.val == 0 && decide (s.get CFG_STATUS_PHASE ≤ 3)) (·.loadClock)) s := rfl

/-- The loss of OSC_LOCAL_IN stops a load alone. -/
theorem State.loadClock_service {s : State} (run : s.inService = true) : s.loadClock = s := by
  have serves : s.dev = .running ∨ s.dev = .draining := by simpa [State.inService] using run
  refine if_pos ?_
  rcases serves with h | h <;> rw [h] <;> rfl

/-- The event of a lost reference shows what the loss leaves. -/
theorem gives_refLoss {s : State} (r : Fin 6) (run : s.inService = true) :
    Gives (.refLoss r) s (ShowsPlls ((s.withOut []).refLoss r)) := by
  have kept : ((s.withOut []).refLoss r).inService = true := by
    unfold State.inService
    rw [(State.refLoss_touches (s.withOut []) r).dev rfl]
    exact run
  refine (gives_showsPlls (exec_refLoss r s)).imp fun t shows => ?_
  have stays : ((s.withOut []).refLoss r).iff ((s.withOut []).refOk r && r.val == 0 && decide ((s.withOut []).get CFG_STATUS_PHASE ≤ 3))
      (·.loadClock) = (s.withOut []).refLoss r := by
    unfold State.iff
    split
    · exact State.loadClock_service kept
    · rfl
  rwa [stays] at shows

/-- A reference is lost. -/
theorem gives_refLoss_lost {s : State} (r : Fin 6) (run : s.inService = true) (good : s.refOk r = true) : Gives (.refLoss r) s fun t =>
    t.refOk r = false ∧ (s.refWatched r = true → t.bit (pendingFld 19) = true ∧ t.get GRD_LAST_INSTANCE = r) ∧
    (r.val = 0 → t.bit FIX_STATE_TIME_VALID = false ∧ t.fix.oscOk = false ∧ t.lineLevel 54 = true) ∧
    ∀ n, n < 11 → s.pllOn n = true → s.pllRef n = r → t.bit (PLL_STATUS_REF_LOSS n) = true ∧ t.bit (PLL_STATUS_LOCKED n) = false := by
  refine (gives_refLoss r run).imp fun t shows => ?_
  have lost : RefLost (s.withOut []) r t := (State.refLoss_lost (s := s.withOut []) run good r.isLt).keeps
    (fun a low level => shows.word a (low.trans (by decide)) level) (congrArg PllState.refs shows.pll)
  refine ⟨lost.ok, lost.reported, fun osc => ?_, lost.unfed⟩
  let x := (s.withOut []).refReports 0
  have serves : x.inService = true := by
    unfold State.inService
    rw [State.refReports_dev]
    exact run
  have invalid : (s.withOut []).refLoss r = x.fixOscLost := by
    rw [osc, State.refLoss_osc (s := s.withOut []) (osc ▸ good), serves]
    rfl
  rw [invalid] at shows
  obtain ⟨time, device, line⟩ := x.fixOscLost_timeInvalid
  refine ⟨?_, (congrArg FixState.oscOk shows.fix).trans device, ?_⟩
  · exact (State.bit_of_word (shows.window (a := FIX_STATE) (by decide))).trans time
  · exact (State.bit_of_word (shows.window (a := FIX_EVENT) (by decide))).trans line

/-! ### A reference that qualifies -/

/-- Reference `r` is qualified; the second count of OSC_LOCAL_IN is its frequency (R333). -/
def State.refGained (s : State) (r khz : Nat) : State :=
  s.withPll { s.pll with refs := s.pll.refs ||| (1#6 <<< r), oscKhz := if r = 0 then khz else s.pll.oscKhz }

theorem State.refGained_refOk (s : State) {r : Nat} (hr : r < 6) (khz : Nat) : (s.refGained r khz).refOk r = true := by
  show (s.pll.refs ||| (1#6 <<< r)).getLsbD r = true
  simp [hr]

/-- Without two counts in range and, of OSC_LOCAL_IN before its frequency is set, near each other, no reference qualifies. -/
theorem State.refQualified_none {s : State} {r first khz : Nat} (bad : s.refCounts r first khz = false) : s.refQualified r first khz = s :=
  if_pos (by rw [bad, Bool.not_false, Bool.or_true]; rfl)

theorem State.refCounts_false {s : State} {r first khz : Nat} (bad : s.refInRange r first = false ∨ s.refInRange r khz = false ∨
    (r = 0 ∧ s.get PLL_OSC_KHZ_ALL = 0 ∧ countsAgree first khz = false)) : s.refCounts r first khz = false := by
  unfold State.refCounts
  rcases bad with h | h | ⟨osc, unset, differ⟩
  · rw [h]
    rfl
  · rw [h, Bool.and_false]
    rfl
  · rw [osc, unset, differ, Bool.and_eq_false_iff]
    exact .inr rfl

/-- What follows the qualification of OSC_LOCAL_IN changes neither the references nor its frequency. -/
theorem State.oscFollows_pll (s : State) (khz : Nat) (ratio seed : Bool) :
    ((s.iff ratio (·.loadRatio khz)).iff seed (·.seedDevice)).pll.refs = s.pll.refs ∧
      ((s.iff ratio (·.loadRatio khz)).iff seed (·.seedDevice)).pll.oscKhz = s.pll.oscKhz := by
  have seeded : ∀ x : State, (x.iff seed (·.seedDevice)).pll = x.pll := fun x => by
    unfold State.iff
    split
    · exact x.seedDevice_touches.pll rfl
    · rfl
  rw [seeded]
  cases ratio <;> exact ⟨rfl, rfl⟩

/-- The reference is qualified, and the frequency of OSC_LOCAL_IN is known. -/
theorem State.refQualified_gains {s : State} {r first khz : Nat} (on : s.dev ≠ .off) (awake : ¬(s.dev = .watch ∧ s.pwr.wake = 0))
    (lost : s.refOk r = false) (good : s.refCounts r first khz = true) :
    (s.refQualified r first khz).pll.refs = (s.refGained r khz).pll.refs ∧
      (r = 0 → (s.refQualified r first khz).pll.oscKhz = khz) := by
  have runs : ¬(s.refOk r || !s.refCounts r first khz || s.dev == .off || (s.dev == .watch && s.pwr.wake == 0)) = true := by
    simpa [lost, good, on] using awake
  unfold State.refQualified
  rw [if_neg runs]
  extract_lets refs gained shown n fails
  split
  · next osc =>
    obtain ⟨kept, freq⟩ := gained.oscFollows_pll khz gained.pll.loadBand (gained.inService && !gained.fix.oscOk)
    exact ⟨kept, fun _ => freq.trans (if_pos osc)⟩
  · next other =>
    refine ⟨?_, fun osc => absurd osc other⟩
    split
    · refine (congrArg PllState.refs (State.lanesRestart_pll ..)).trans ?_
      unfold fails State.iff
      split
      · exact shown.lpllFailover_refs n
      · rfl
    · rfl

/-! ### The event REF_QUALIFIED -/

theorem exec_refQualified (r : Fin 6) (first khz : Nat) (s : State) :
    exec (.refQualified r first khz) s = actAll (·.refQualified r first khz) s := rfl

/-- A reference qualifies. -/
theorem gives_refQualified {s : State} (r : Fin 6) (first khz : Nat) (on : s.dev ≠ .off) (awake : ¬(s.dev = .watch ∧ s.pwr.wake = 0))
    (lost : s.refOk r = false) (good : s.refCounts r first khz = true) : Gives (.refQualified r first khz) s fun t =>
    t.refOk r = true ∧ (r.val = 0 → t.pll.oscKhz = khz) := by
  refine (gives_showsPlls (exec_refQualified r first khz s)).imp fun t shows => ?_
  obtain ⟨refs, freq⟩ := State.refQualified_gains (s := s.withOut []) on awake lost good
  refine ⟨?_, fun osc => (congrArg PllState.oscKhz shows.pll).trans (freq osc)⟩
  exact (State.refOk_of_refs ((congrArg PllState.refs shows.pll).trans refs) r).trans (State.refGained_refOk _ r.isLt khz)

/-- A reference whose counts are not good does not qualify. -/
theorem gives_refQualified_none {s : State} (r : Fin 6) (first khz : Nat) (bad : s.refInRange r first = false ∨ s.refInRange r khz = false ∨
    (r.val = 0 ∧ s.get PLL_OSC_KHZ_ALL = 0 ∧ countsAgree first khz = false)) : Gives (.refQualified r first khz) s fun t =>
    t.pll = s.pll ∧ t.fix = s.fix := by
  refine (gives_showsPlls (exec_refQualified r first khz s)).imp fun t shows => ?_
  rw [State.refQualified_none (s := s.withOut []) (State.refCounts_false (s := s.withOut []) bad)] at shows
  exact ⟨shows.pll, shows.fix⟩

end Sys2Proof.Machine

/-!
SUPPORT. The band tables of the PLLs: their entries' words, what a write of one stores, and what it does where a running PLL uses the entry
(R325, R327).
-/
namespace Sys2Proof.Machine

/-! ### Where the words of the entries lie -/

/-- Word `k` of entry `e` of the band table of PLL `n`. -/
def bandWord (n e k : Nat) : Nat := PLL_BAND0 n e + 4 * k

theorem bandWord_one (n e : Nat) : bandWord n e 1 = PLL_BAND1 n e := by unfold bandWord PLL_BAND0 PLL_BAND1; omega

theorem bandWord_two (n e : Nat) : bandWord n e 2 = PLL_BAND2 n e := by unfold bandWord PLL_BAND0 PLL_BAND2; omega

/-- The image-set fields of word `k` of an entry. -/
def bandFields (k : Nat) : Word := if k = 0 then 0x8000003F#32 else 0xFFFFFFFF#32

/-- The row of word `k` of the entries. -/
def bandRow (k : Nat) : RegRow :=
  ⟨0x40051000 + 4 * k, [(0x400, 11), (0x10, 64)], 0, 0, 0, 0, bandFields k, bandFields k, .set 0x2000⟩

/-- A band row stands for the words of one column of the tables. -/
theorem isInstance_band (d : Nat) : isInstance [(0x400, 11), (0x10, 64)] d = decide (d < 0x2C00 ∧ d % 16 = 0) := by
  rw [Bool.eq_iff_iff]
  simp only [isInstance, Bool.and_eq_true, decide_eq_true_eq, beq_iff_eq]
  omega

/-- The rows of the PLLs that are not their band tables'. -/
theorem rowsPll_below {r : RegRow} (h : r ∈ rowsPll.take 11) :
    (r.dims = [(0x100, 11)] ∧ r.base ≤ 0x4005001C) ∨ (r.dims = [] ∧ r.base ≤ 0x40050B08) := by
  revert r
  decide

section
variable {n e k : Nat} (hn : n < 11) (he : e < 64) (hk : k < 3)
include hn he hk

theorem bandWord_place : 0x40051000 ≤ bandWord n e k ∧ bandWord n e k < 0x40053C00 ∧ bandWord n e k % 16 = 4 * k ∧
    (bandWord n e k - 0x40051000) / 0x400 = n ∧ (bandWord n e k - 0x40051000) % 0x400 / 16 = e := by
  unfold bandWord PLL_BAND0
  omega

theorem bandWord_block : blockOf (bandWord n e k) = some 6 := by
  obtain ⟨lo, hi, -⟩ := bandWord_place hn he hk
  unfold blockOf
  rw [if_neg (by omega), if_neg (by omega), if_neg (by omega), if_pos (by omega)]
  exact congrArg some (by omega)

theorem rowOf_band : rowOf (bandWord n e k) = some (bandRow k) := by
  obtain ⟨lo, hi, column, -⟩ := bandWord_place hn he hk
  have below : (rowsPll.take 11).find? (fun r => decide (r.base ≤ bandWord n e k) && isInstance r.dims (bandWord n e k - r.base)) = none := by
    refine List.find?_eq_none.mpr fun r mem => ?_
    have outside : isInstance r.dims (bandWord n e k - r.base) = false := by
      rcases rowsPll_below mem with ⟨dims, base⟩ | ⟨dims, base⟩ <;> rw [dims]
      · simp only [isInstance, Bool.and_eq_false_iff, decide_eq_false_iff_not]
        omega
      · simp only [isInstance, beq_eq_false_iff_ne]
        omega
    rw [outside, Bool.and_false]
    exact Bool.false_ne_true
  have tables : rowsPll = rowsPll.take 11 ++ [bandRow 0, bandRow 1, bandRow 2] := rfl
  unfold rowOf
  rw [bandWord_block hn he hk]
  show rowsPll.find? _ = _
  rw [tables, List.find?_append, below, Option.none_or]
  have hit : ∀ j, j < 3 → (decide ((bandRow j).base ≤ bandWord n e k) && isInstance (bandRow j).dims (bandWord n e k - (bandRow j).base)) =
      decide (j = k) := fun j hj => by
    show (decide (0x40051000 + 4 * j ≤ _) && isInstance [(0x400, 11), (0x10, 64)] (_ - (0x40051000 + 4 * j))) = _
    rw [isInstance_band, Bool.eq_iff_iff, Bool.and_eq_true, decide_eq_true_eq, decide_eq_true_eq, decide_eq_true_eq]
    omega
  simp only [List.find?_cons, hit 0 (by omega), hit 1 (by omega), hit 2 (by omega)]
  obtain rfl | rfl | rfl : k = 0 ∨ k = 1 ∨ k = 2 := by omega
  · rfl
  · rfl
  · rfl

end

/-! ### Words merged under a mask -/

theorem mergeBits_same (x m : Word) : mergeBits x x m = x := by
  unfold mergeBits
  rw [← BitVec.and_or_distrib_left, BitVec.or_comm, BitVec.or_not_self, BitVec.and_allOnes]

/-- A bit under the mask is the second word's. -/
theorem getLsbD_mergeBits {x y m : Word} {i : Nat} (h : m.getLsbD i = true) : (mergeBits x y m).getLsbD i = y.getLsbD i := by
  unfold mergeBits
  rw [BitVec.getLsbD_or, BitVec.getLsbD_and, BitVec.getLsbD_and, BitVec.getLsbD_not, h, Bool.not_true, Bool.and_false, Bool.and_false,
    Bool.false_or, Bool.and_true]

/-- A field under the mask is the second word's. -/
theorem bitsOf_mergeBits {x y m : Word} {lo w : Nat} (h : ∀ i, i < w → m.getLsbD (lo + i) = true) :
    bitsOf (mergeBits x y m) lo w = bitsOf y lo w := by
  refine Nat.eq_of_testBit_eq fun i => ?_
  rw [testBit_bitsOf, testBit_bitsOf]
  by_cases hi : i < w
  · rw [getLsbD_mergeBits (h i hi)]
  · rw [decide_eq_false hi, Bool.false_and, Bool.false_and]

theorem bitsOf_one (x : Word) (lo : Nat) : (bitsOf x lo 1 != 0) = x.getLsbD lo := by
  have small : bitsOf x lo 1 < 2 := Nat.mod_lt _ (by decide)
  have top := testBit_bitsOf x lo 1 0
  obtain none | one : bitsOf x lo 1 = 0 ∨ bitsOf x lo 1 = 1 := by omega
  · rw [none] at top ⊢
    exact top
  · rw [one] at top ⊢
    exact top

/-! ### What a write stores -/

/-- The limits that name one register each lie outside the band tables. -/
theorem limitsOne_outside {x : Fld × Limit} (h : x ∈ limitsOne) : x.1.addr < 0x40050000 ∨ 0x40060000 ≤ x.1.addr := by
  revert x
  decide

section
variable {n e k : Nat} (hn : n < 11) (he : e < 64) (hk : k < 3) (s : State)
include hn he hk

theorem bandWord_coefAt : coefAt (bandWord n e k) = none := by
  obtain ⟨-, hi, -⟩ := bandWord_place hn he hk
  exact if_neg (by omega)

theorem State.writeView_band : s.writeView (bandWord n e k) = s.word (bandWord n e k) := by
  simp only [State.writeView, bandWord_coefAt hn he hk]

/-- No limit is set on an entry. -/
theorem limitsOf_band : limitsOf (bandWord n e k) = [] := by
  obtain ⟨lo, hi, -⟩ := bandWord_place hn he hk
  have many : limitsMany (bandWord n e k) = [] := by
    unfold limitsMany
    extract_lets
    rw [if_neg (by omega), if_neg (by omega), if_neg (by omega), if_neg (by omega), if_neg (by omega), if_neg (by omega), if_neg (by omega),
      if_neg (by omega)]
  unfold limitsOf
  rw [many, List.append_nil, List.filter_eq_nil_iff]
  intro x mem at_
  have outside := limitsOne_outside mem
  rw [beq_iff_eq.mp at_] at outside
  omega

theorem State.storable_band (touched w : Word) : s.storable (bandWord n e k) touched w = w := by
  obtain ⟨lo, hi, -⟩ := bandWord_place hn he hk
  have div8 : PLL_DIV 8 = 0x40050808 := rfl
  have div9 : PLL_DIV 9 = 0x40050908 := rfl
  have div10 : PLL_DIV 10 = 0x40050A08 := rfl
  have pins : blockOf (bandWord n e k) ≠ some 16 := by rw [bandWord_block hn he hk]; decide
  unfold State.storable State.lnkLimited fieldStored limited
  dsimp only
  rw [limitsOf_band hn he hk, List.foldl_nil, if_neg (by omega), if_neg (by unfold HRV_THRESH; omega), if_neg pins, if_neg (by omega),
    if_neg (by omega)]

/-- The write of an entry starts nothing. -/
theorem State.written_band (w old : Word) : s.written (bandWord n e k) w old = s := by
  obtain ⟨lo, hi, -⟩ := bandWord_place hn he hk
  unfold State.written
  simp only [bandWord_block hn he hk]
  rw [if_neg (by omega), if_neg (by omega)]

/-- An open entry takes its fields from the value written. -/
theorem State.store_band (v : Word) : s.store (bandRow k) (bandWord n e k) 0xFFFFFFFF#32 0 v =
    s.putWord (bandWord n e k) (mergeBits (s.word (bandWord n e k)) v (bandFields k)) := by
  have held : heldWo (bandWord n e k) = false := by
    obtain ⟨lo, hi, -⟩ := bandWord_place hn he hk
    have ptp : bandWord n e k ≠ FIX_PTP_OFS := by unfold FIX_PTP_OFS; omega
    have fuse : ¬CFG_FUSE_DATA 0 ≤ bandWord n e k ∨ ¬bandWord n e k < CFG_FUSE_DATA 8 := by unfold CFG_FUSE_DATA; omega
    simp only [heldWo, Bool.or_eq_false_iff, Bool.and_eq_false_iff, beq_eq_false_iff_ne, decide_eq_false_iff_not]
    exact ⟨⟨ptp, fuse⟩, by omega⟩
  have all : (0xFFFFFFFF#32 : Word) ≠ 0 := by decide
  have fields : (0xFFFFFFFF#32 : Word) &&& (0 ||| bandFields k &&& ~~~0 ||| 0) = bandFields k := by
    obtain rfl | rfl | rfl : k = 0 ∨ k = 1 ∨ k = 2 := by omega
    all_goals decide
  have clears : ∀ x y : Word, x &&& ~~~(y &&& 0) = x := fun x y => by simp [and_all]
  simp only [State.store, if_neg all, held, Bool.false_eq_true, if_false, s.writeView_band hn he hk, bandWord_coefAt hn he hk, bandRow, fields,
    s.storable_band hn he hk, mergeBits_same, clears, State.written_band hn he hk]

end

/-! ### The write of an entry -/

section
variable {n e k : Nat} (hn : n < 11) (he : e < 64) (hk : k < 3) {s : State} {acc : Acc}
include hn he hk

theorem bandWord_not_thresh : bandWord n e k ≠ HRV_THRESH := by
  obtain ⟨lo, -⟩ := bandWord_place hn he hk
  unfold HRV_THRESH
  omega

/-- A write is dropped where a running PLL uses the entry. -/
theorem State.writeDropped_band (s : State) (closed next : Word) : s.writeDropped (bandWord n e k) closed next =
    if s.bandInUse n e = true then some (2, fun s => s.put (PLL_CMD_STATUS_CODE n) 4) else none := by
  obtain ⟨lo, -, -, pll, entry⟩ := bandWord_place hn he hk
  unfold State.writeDropped
  rw [if_neg (bandWord_not_thresh hn he hk), bandWord_block hn he hk]
  simp only [pll, entry, lo, hn, true_and]

theorem State.mayStore_band (h : s.commandOk acc (bandWord n e k) = true) :
    s.mayStore acc (bandWord n e k) (bandRow k) ∧ acc.strobe = 0xF := by
  obtain ⟨-, hi, column, -⟩ := bandWord_place hn he hk
  have written : (bandRow k).written = true := by
    obtain rfl | rfl | rfl : k = 0 ∨ k = 1 ∨ k = 2 := by omega
    all_goals rfl
  exact State.mayStore_of_commandOk h (rowOf_band hn he hk) written (by omega) (by omega)

/-- A write of an open entry that no running PLL uses stores its fields. -/
theorem State.regWrite_band (v : Word) (h : s.commandOk acc (bandWord n e k) = true) (opened : s.opened (bandWord n e k) = true)
    (free : s.bandInUse n e = false) : s.regWrite acc (bandWord n e k) v =
      (s.putWord (bandWord n e k) (mergeBits (s.word (bandWord n e k)) v (bandFields k))).complete acc.master.val 0 0 := by
  obtain ⟨may, whole⟩ := State.mayStore_band hn he hk h
  have closed : s.closedBits (bandRow k) (bandWord n e k) = 0 := by
    rw [State.opened, rowOf_band hn he hk] at opened
    exact beq_iff_eq.mp opened
  have hhit : strobed acc.strobe &&& s.closedBits (bandRow k) (bandWord n e k) &&& (v ^^^ s.writeView (bandWord n e k)) = 0 := by
    rw [closed]
    exact (congrArg (· &&& _) BitVec.and_zero).trans BitVec.zero_and
  have kept : ∀ c next, s.writeDropped (bandWord n e k) c next = none := fun c next => by
    rw [State.writeDropped_band hn he hk, free, if_neg Bool.false_ne_true]
  rw [State.regWrite_of_mayStore may, State.liveWrite_stores s _ _ hhit kept, closed, whole, strobed_all, State.store_band hn he hk]

/-- A write of an entry that a running PLL uses is counted where it would change a closed bit, and leaves BAND_IN_USE and PERMERR. -/
theorem State.regWrite_bandInUse (v : Word) (h : s.commandOk acc (bandWord n e k) = true) (used : s.bandInUse n e = true) :
    ∃ hit addr, s.regWrite acc (bandWord n e k) v =
      ((s.put (PLL_CMD_STATUS_CODE n) 4).iff hit (·.satInc SYS_MASK_DROPS_COUNT SYS_MASK_DROPS_OVF)).finish acc.master.val 2 true addr 0 := by
  obtain ⟨may, -⟩ := State.mayStore_band hn he hk h
  rw [State.regWrite_of_mayStore may]
  unfold State.liveWrite
  simp only [State.writeDropped_band hn he hk, used, if_true, if_neg (bandWord_not_thresh hn he hk), ite_self]
  exact ⟨_, _, rfl⟩

end

/-! ### The command BAND_ENTRY_WRITE -/

theorem exec_bandEntryWrite (acc : Acc) (n : Fin 11) (e : Fin 64) (k : Fin 3) (v : Word) (s : State) :
    exec (.bandEntryWrite acc n e k v) s = actAll (·.regWrite acc (bandWord n e k) v) s := rfl

theorem gives_bandEntryWrite (acc : Acc) (n : Fin 11) (e : Fin 64) (k : Fin 3) (v : Word) (s : State) :
    Gives (.bandEntryWrite acc n e k v) s fun t => t.busCode acc.master.val = ((s.withOut []).regWrite acc (bandWord n e k) v).busCode acc.master.val ∧
      ShowsPlls ((s.withOut []).regWrite acc (bandWord n e k) v) t :=
  gives_actAll (exec_bandEntryWrite acc n e k v s)
    ⟨(State.settle_busCode ..).trans (State.refresh_busCode ..), State.refresh_settle_showsPlls _⟩

section
variable {s : State} {acc : Acc} {n : Fin 11} {e : Fin 64} {k : Fin 3} {v : Word}

theorem bandWord_window (n : Fin 11) (e : Fin 64) (k : Fin 3) : 0x40050000 ≤ bandWord n e k ∧ bandWord n e k < 0x40080000 := by
  obtain ⟨lo, hi, -⟩ := bandWord_place n.isLt e.isLt k.isLt
  omega

/-- An open entry that no running PLL uses is written. -/
theorem gives_bandEntryWrite_stores (free : s.bandInUse n e = false) (h : s.commandOk acc (bandWord n e k) = true)
    (opened : s.opened (bandWord n e k) = true) : Gives (.bandEntryWrite acc n e k v) s fun t =>
      t.busCode acc.master.val = 0 ∧ t.word (bandWord n e k) = mergeBits (s.word (bandWord n e k)) v (bandFields k) := by
  have stores := State.regWrite_band (s := s.withOut []) n.isLt e.isLt k.isLt v h opened free
  refine (gives_bandEntryWrite acc n e k v s).imp fun t ⟨code, shows⟩ => ?_
  rw [stores] at code shows
  refine ⟨code.trans (State.busCode_complete _ _ (by decide) _), ?_⟩
  exact (shows.complete.window (bandWord_window n e k)).trans (State.word_putWord_same ..)

/-- An entry that a running PLL uses is not written. -/
theorem gives_bandEntryWrite_inUse (used : s.bandInUse n e = true) (h : s.commandOk acc (bandWord n e k) = true) :
    Gives (.bandEntryWrite acc n e k v) s fun t => t.busCode acc.master.val = 2 ∧ t.get (PLL_CMD_STATUS_CODE n) = 4 ∧
      t.word (bandWord n e k) = s.word (bandWord n e k) := by
  obtain ⟨hit, addr, dropped⟩ := State.regWrite_bandInUse (s := s.withOut []) n.isLt e.isLt k.isLt v h used
  let x := ((s.withOut []).put (PLL_CMD_STATUS_CODE n) 4).iff hit (·.satInc SYS_MASK_DROPS_COUNT SYS_MASK_DROPS_OVF)
  have counted : ∀ a, 0x40050000 ≤ a → (x.finish acc.master.val 2 true addr 0).word a = ((s.withOut []).put (PLL_CMD_STATUS_CODE n) 4).word a :=
    fun a ha => (State.finish_word _ _ _ _ _ _ (.inr (by omega))).trans <| by
      have other : a ≠ SYS_MASK_DROPS := by unfold SYS_MASK_DROPS; omega
      unfold x State.iff
      split
      · exact State.satInc_word_ne _ other other
      · rfl
  refine (gives_bandEntryWrite acc n e k v s).imp fun t ⟨code, shows⟩ => ?_
  rw [dropped] at code shows
  refine ⟨code.trans (State.busCode_finish _ _ (by decide) _ _ _), ?_, ?_⟩
  · refine (shows.code n.isLt).trans ((State.get_of_word (counted _ (PLL_CMD_STATUS_range n.isLt).1)).trans ?_)
    exact State.get_put_same _ (PLL_CMD_STATUS_CODE n) 4 (by decide : 0 + 4 ≤ 32)
  · have window := bandWord_window n e k
    have apart : bandWord n e k ≠ PLL_CMD_STATUS n := by
      obtain ⟨lo, -⟩ := bandWord_place n.isLt e.isLt k.isLt
      unfold PLL_CMD_STATUS
      omega
    exact (shows.window window).trans ((counted _ window.1).trans (State.word_put_ne _ _ _ _ apart))

end

/-! ### The fields of an entry -/

section
variable {s : State} {acc : Acc} {n : Fin 11} {e : Fin 64} (v : Word) (free : s.bandInUse n e = false)
include free

/-- The first word: the band's code, and whether the entry is valid. -/
theorem gives_bandEntryWrite_code (h : s.commandOk acc (PLL_BAND0 n e) = true) (opened : s.opened (PLL_BAND0 n e) = true) :
    Gives (.bandEntryWrite acc n e 0 v) s fun t => t.busCode acc.master.val = 0 ∧ t.get (PLL_BAND0_CODE n e) = v.toNat % 64 ∧
      t.bit (PLL_BAND0_VALID n e) = v.getLsbD 31 := by
  refine (gives_bandEntryWrite_stores (k := 0) free h opened).imp fun t ⟨code, held⟩ => ⟨code, ?_, ?_⟩
  · calc t.get (PLL_BAND0_CODE n e)
      _ = bitsOf (mergeBits (s.word (PLL_BAND0 n e)) v 0x8000003F#32) 0 6 := congrArg (bitsOf · 0 6) held
      _ = bitsOf v 0 6 := bitsOf_mergeBits (by decide)
      _ = v.toNat % 64 := congrArg (· % 2 ^ 6) (Nat.div_one _)
  · calc t.bit (PLL_BAND0_VALID n e)
      _ = (bitsOf (mergeBits (s.word (PLL_BAND0 n e)) v 0x8000003F#32) 31 1 != 0) := congrArg (bitsOf · 31 1 != 0) held
      _ = (bitsOf v 31 1 != 0) := congrArg (· != 0) (bitsOf_mergeBits (by decide))
      _ = v.getLsbD 31 := bitsOf_one v 31

/-- The first frequency that the band covers. -/
theorem gives_bandEntryWrite_fmin (h : s.commandOk acc (PLL_BAND1 n e) = true) (opened : s.opened (PLL_BAND1 n e) = true) :
    Gives (.bandEntryWrite acc n e 1 v) s fun t => t.busCode acc.master.val = 0 ∧ t.word (PLL_BAND1 n e) = v := by
  rw [← bandWord_one] at h opened ⊢
  exact (gives_bandEntryWrite_stores (k := 1) free h opened).imp fun t ⟨code, held⟩ => ⟨code, held.trans (mergeBits_all _ v)⟩

/-- The last frequency that the band covers. -/
theorem gives_bandEntryWrite_fmax (h : s.commandOk acc (PLL_BAND2 n e) = true) (opened : s.opened (PLL_BAND2 n e) = true) :
    Gives (.bandEntryWrite acc n e 2 v) s fun t => t.busCode acc.master.val = 0 ∧ t.word (PLL_BAND2 n e) = v := by
  rw [← bandWord_two] at h opened ⊢
  exact (gives_bandEntryWrite_stores (k := 2) free h opened).imp fun t ⟨code, held⟩ => ⟨code, held.trans (mergeBits_all _ v)⟩

end

/-- Settles O40: what the loss of a reference leaves is kept by all that follows it in the other blocks; a reference qualifies by its counts
alone; and the write of a band entry stores its fields, or is dropped whole where a running PLL uses it. -/
theorem referencesAndBandTables : Obligations.ReferencesAndBandTables := fun _ =>
  ⟨fun r run good => gives_refLoss_lost r run good,
    fun r first khz on awake lost good => gives_refQualified r first khz on awake lost good,
    fun r first khz bad => gives_refQualified_none r first khz bad,
    fun _ _ _ v free => ⟨gives_bandEntryWrite_code v free, gives_bandEntryWrite_fmin v free, gives_bandEntryWrite_fmax v free⟩,
    fun _ _ _ _ _ used h => gives_bandEntryWrite_inUse used h⟩

end Sys2Proof.Machine

/-!
SUPPORT. The registers of the Fix selector (R361 to R368): which source may be selected, and what a selection and dead reckoning leave.
-/
namespace Sys2Proof.Machine

/-! ### What the end of a command shows of the selector -/

theorem State.settle_showsPlls (x : State) : ShowsPlls x x.settle where
  toShows := x.settle_shows
  pll := State.settle_pll x
  fix := State.settle_fix x

/-- An event of the selector that acts in service shows its effect. -/
theorem gives_fixEvent {c : Instr} {f : State → State} {s : State} (e : exec c s = act (fun s => s.iff s.inService f) s)
    (run : s.inService = true) : Gives c s (ShowsPlls (f (s.withOut []))) := by
  refine gives_act e ?_
  have acts : (s.withOut []).iff (s.withOut []).inService f = f (s.withOut []) := if_pos run
  rw [acts]
  exact State.settle_showsPlls _

section
variable {x t : State} (h : ShowsPlls x t)
include h

theorem ShowsPlls.selector : t.word FIX_STATE = x.word FIX_STATE := h.window (by decide)

theorem ShowsPlls.sources : t.word FIX_SRC_STATUS = x.word FIX_SRC_STATUS := h.window (by decide)

theorem ShowsPlls.fixEvents : t.word FIX_EVENT = x.word FIX_EVENT := h.window (by decide)

end

/-! ### Steering word and offset -/

theorem State.showOffset_word (s : State) {a : Nat} (h : a ≠ FIX_OFFSET) : s.showOffset.word a = s.word a := State.word_put_ne _ _ _ _ h

/-- Among the selector's registers the steering word is shown in FIX_SIGMA alone. -/
theorem State.setSigma_word (s : State) (v : Int) {a : Nat} (own : 0x40060000 ≤ a) (h : a ≠ FIX_SIGMA) : (s.setSigma v).word a = s.word a := by
  unfold State.setSigma State.each
  extract_lets w
  refine List.foldlRecOn (motive := fun x : State => x.word a = s.word a) _ _ (State.word_put_ne _ _ _ _ h) fun x kept n mem => ?_
  have apart : a ≠ PLL_STEER n := by
    have := List.mem_range.mp mem
    unfold PLL_STEER
    omega
  unfold State.iff
  split
  · exact (State.word_put_ne _ _ _ _ apart).trans kept
  · exact kept

/-! ### Which source a decision takes -/

theorem fixPrioFld_addr (n : Nat) : (fixPrioFld n).addr = FIX_PRIO := by
  unfold fixPrioFld
  split <;> rfl

theorem State.fixPrio_of_word {s t : State} (h : t.word FIX_PRIO = s.word FIX_PRIO) (n : Nat) : t.fixPrio n = s.fixPrio n := by
  have prio : t.get (fixPrioFld n) = s.get (fixPrioFld n) := State.get_of_word (by rw [fixPrioFld_addr, h])
  unfold State.fixPrio
  rw [prio]

theorem State.fixEligible_congr {s t : State} {n : Nat} (prio : t.word FIX_PRIO = s.word FIX_PRIO)
    (qual : t.bit (srcQualFld n) = s.bit (srcQualFld n)) (time : t.bit FIX_STATE_TIME_VALID = s.bit FIX_STATE_TIME_VALID) :
    t.fixEligible n = s.fixEligible n := by
  unfold State.fixEligible
  rw [State.fixPrio_of_word prio, qual, time]

/-- Only the sources 1 to 4 may be selected. -/
theorem State.fixEligible_range {s : State} {n : Nat} (h : s.fixEligible n = true) : 1 ≤ n ∧ n ≤ 4 := by
  by_contra outside
  have off : s.fixPrio n = 0 := if_neg outside
  simp [State.fixEligible, off] at h

/-- The better of the best source so far and source `n` (R361). -/
def State.fixPick (s : State) (best : Option Nat) (n : Nat) : Option Nat :=
  match best with
  | none => some n
  | some m => if s.fixBefore n m then some n else best

/-- The best source is found among those that may be selected. -/
theorem State.fixBest_filter (s : State) : s.fixBest = ([1, 2, 3, 4].filter s.fixEligible).foldl s.fixPick none := List.foldl_filter.symm

theorem State.fixBest_none {s : State} {m : Nat} (only : s.onlySource m) (off : s.fixEligible m = false) : s.fixBest = none := by
  have none : [1, 2, 3, 4].filter s.fixEligible = [] := List.filter_eq_nil_iff.mpr fun k _ ok => by
    obtain ⟨lower, upper⟩ := State.fixEligible_range ok
    by_cases same : k = m
    · rw [same, off] at ok
      exact Bool.false_ne_true ok
    · rw [only k lower upper same] at ok
      exact Bool.false_ne_true ok
  rw [State.fixBest_filter, none]
  rfl

theorem State.fixBest_only {s : State} {m : Nat} (only : s.onlySource m) (ok : s.fixEligible m = true) : s.fixBest = some m := by
  obtain ⟨lower, upper⟩ := State.fixEligible_range ok
  have one : [1, 2, 3, 4].filter s.fixEligible = [m] := by
    have same : ∀ k ∈ [1, 2, 3, 4], s.fixEligible k = (k == m) := fun k mem => by
      have range : 1 ≤ k ∧ k ≤ 4 := by revert k; decide
      by_cases eq : k = m
      · rw [eq, ok, beq_self_eq_true]
      · rw [only k range.1 range.2 eq, beq_false_of_ne eq]
    rw [List.filter_congr same]
    interval_cases m <;> rfl
  rw [State.fixBest_filter, one]
  rfl

/-! ### A selection -/

/-- The selection itself: SELECTED, the count, SELECT and the hold. -/
def State.fixChosen (s : State) (n : Nat) : State :=
  let s := (((s.put FIX_STATE_SELECTED n).put FIX_STATE_CANDIDATE 0).satInc FIX_SWITCH_COUNT_COUNT FIX_SWITCH_COUNT_OVF).event 48
  s.withFix { s.fix with hold := true, candLost := false }

/-- How device time moves to the source chosen: a slew, or with ACQUIRE set a step or a slew. -/
def State.fixApproach (s : State) (n : Nat) : State :=
  if s.bit FIX_STATE_ACQUIRE then
    let far := decide ((s.get FIX_SLEW_CFG_STEP_US : Int) * 1000 * ofsPerNs < (s.phaseOfs n).natAbs)
    let step := !s.bit FIX_STATE_TIME_VALID || far
    let d := s.phaseOfs n
    let s := (s.clr FIX_STATE_ACQUIRE).set FIX_STATE_TIME_VALID
    if step then (((s.stepDevice (d / ofsPerNs)).stepOfs (d / ofsPerNs * ofsPerNs)).event 51).put FIX_STATE_STATE fixLocked
    else s.put FIX_STATE_STATE fixSlew
  else s.put FIX_STATE_STATE fixSlew

theorem State.fixSelect_eq (s : State) (n : Nat) : s.fixSelect n = ((s.fixChosen n).fixApproach n).showOffset := rfl

/-- What selecting source `n` in `s` leaves in `t` (R361, R362, R364). -/
structure Selects (s : State) (n : Nat) (t : State) : Prop where
  selected : t.get FIX_STATE_SELECTED = n
  state : t.fixState = fixSlew ∨ t.fixState = fixLocked
  slews : s.bit FIX_STATE_ACQUIRE = false → t.fixState = fixSlew
  hold : t.fix.hold = true
  raised : t.bit (evtFld 48) = true
  lost : t.bit (evtFld 53) = s.bit (evtFld 53)
  sources : t.word FIX_SRC_STATUS = s.word FIX_SRC_STATUS

/-- The choice of a source changes SELECTED and CANDIDATE alone in FIX_STATE. -/
theorem State.fixChosen_selector (s : State) (n : Nat) :
    (s.fixChosen n).word FIX_STATE = ((s.put FIX_STATE_SELECTED n).put FIX_STATE_CANDIDATE 0).word FIX_STATE :=
  (State.word_put_ne _ (evtFld 48) _ _ (by decide)).trans (State.satInc_word_ne _ (by decide) (by decide))

theorem State.fixChosen_sources (s : State) (n : Nat) : (s.fixChosen n).word FIX_SRC_STATUS = s.word FIX_SRC_STATUS := by
  refine (State.word_put_ne _ (evtFld 48) _ _ (by decide)).trans ((State.satInc_word_ne _ (by decide) (by decide)).trans ?_)
  exact (State.word_put_ne _ _ _ _ (by decide)).trans (State.word_put_ne _ _ _ _ (by decide))

theorem State.fixChosen_selected (s : State) {n : Nat} (hn : n < 8) : (s.fixChosen n).get FIX_STATE_SELECTED = n :=
  (State.get_of_word (s.fixChosen_selector n)).trans <| (State.get_put_disjoint _ _ _ _ (by decide) (by decide)).trans <|
    (State.get_put_same _ _ _ (by decide)).trans (Nat.mod_eq_of_lt hn)

theorem State.fixChosen_acquire (s : State) (n : Nat) : (s.fixChosen n).bit FIX_STATE_ACQUIRE = s.bit FIX_STATE_ACQUIRE :=
  (State.bit_of_word (s.fixChosen_selector n)).trans <| (State.bit_put_disjoint _ _ _ _ (by decide) (by decide)).trans <|
    State.bit_put_disjoint _ _ _ _ (by decide) (by decide)

theorem State.fixChosen_raised (s : State) (n : Nat) : (s.fixChosen n).bit (evtFld 48) = true :=
  State.bit_set_same _ (evtFld 48) (by decide) (by decide)

theorem State.fixChosen_lost (s : State) (n : Nat) : (s.fixChosen n).bit (evtFld 53) = s.bit (evtFld 53) := by
  refine (State.bit_set_disjoint _ (evtFld 48) (evtFld 53) (by decide) (by decide)).trans (State.bit_of_word ?_)
  exact (State.satInc_word_ne _ (by decide) (by decide)).trans <| (State.word_put_ne _ _ _ _ (by decide)).trans <|
    State.word_put_ne _ _ _ _ (by decide)

/-- `t` keeps what the choice of a source has left in `s`. -/
structure KeepsChoice (s t : State) : Prop where
  selected : t.get FIX_STATE_SELECTED = s.get FIX_STATE_SELECTED
  hold : t.fix.hold = s.fix.hold
  raised : t.bit (evtFld 48) = s.bit (evtFld 48)
  lost : t.bit (evtFld 53) = s.bit (evtFld 53)
  sources : t.word FIX_SRC_STATUS = s.word FIX_SRC_STATUS

theorem KeepsChoice.refl (s : State) : KeepsChoice s s := ⟨rfl, rfl, rfl, rfl, rfl⟩

section
variable {s x : State} (h : KeepsChoice s x)
include h

/-- A field of FIX_STATE beside SELECTED. -/
theorem KeepsChoice.put {lo w : Nat} (v : Nat) (beside : Fld.disjoint ⟨FIX_STATE, lo, w⟩ FIX_STATE_SELECTED = true) :
    KeepsChoice s (x.put ⟨FIX_STATE, lo, w⟩ v) where
  selected := (x.get_put_disjoint _ _ _ (by decide) beside).trans h.selected
  hold := h.hold
  raised := (State.bit_of_word (x.word_put_ne _ _ _ (by decide : (evtFld 48).addr ≠ FIX_STATE))).trans h.raised
  lost := (State.bit_of_word (x.word_put_ne _ _ _ (by decide : (evtFld 53).addr ≠ FIX_STATE))).trans h.lost
  sources := (x.word_put_ne _ _ _ (by decide : FIX_SRC_STATUS ≠ FIX_STATE)).trans h.sources

theorem KeepsChoice.stepped (d : Int) : KeepsChoice s (((x.stepDevice d).stepOfs (d * ofsPerNs)).event 51) where
  selected := (State.get_put_ne _ (evtFld 51) _ _ (by decide)).trans h.selected
  hold := h.hold
  raised := (State.bit_set_disjoint _ (evtFld 51) (evtFld 48) (by decide) (by decide)).trans h.raised
  lost := (State.bit_set_disjoint _ (evtFld 51) (evtFld 53) (by decide) (by decide)).trans h.lost
  sources := (State.word_put_ne _ (evtFld 51) _ _ (by decide)).trans h.sources

theorem KeepsChoice.showOffset : KeepsChoice s x.showOffset where
  selected := (State.get_of_word (x.showOffset_word (by decide))).trans h.selected
  hold := h.hold
  raised := (State.bit_of_word (x.showOffset_word (by decide))).trans h.raised
  lost := (State.bit_of_word (x.showOffset_word (by decide))).trans h.lost
  sources := (x.showOffset_word (by decide)).trans h.sources

end

/-- The approach ends in SLEW or, after a step, in LOCKED; only with ACQUIRE set is there a step. -/
theorem State.fixApproach_cases (s : State) (n : Nat) : ∃ x code, s.fixApproach n = x.put FIX_STATE_STATE code ∧ KeepsChoice s x ∧
    (code = fixSlew ∨ s.bit FIX_STATE_ACQUIRE = true ∧ code = fixLocked) := by
  unfold State.fixApproach
  split
  · next acquire =>
    extract_lets far step d begun
    have kept : KeepsChoice s begun := ((KeepsChoice.refl s).put 0 (by decide)).put 1 (by decide)
    split
    · exact ⟨_, _, rfl, kept.stepped _, .inr ⟨acquire, rfl⟩⟩
    · exact ⟨_, _, rfl, kept, .inl rfl⟩
  · exact ⟨_, _, rfl, .refl s, .inl rfl⟩

theorem State.fixSelect_selects (s : State) {n : Nat} (hn : n < 8) : Selects s n (s.fixSelect n) := by
  obtain ⟨x, code, approach, kept, ends⟩ := (s.fixChosen n).fixApproach_cases n
  have shown : KeepsChoice (s.fixChosen n) (s.fixSelect n) := by
    rw [State.fixSelect_eq, approach]
    exact (kept.put code (by decide)).showOffset
  have state : (s.fixSelect n).fixState = code % 8 := by
    rw [State.fixSelect_eq, approach]
    exact (State.get_of_word (State.showOffset_word _ (by decide))).trans (x.get_put_same FIX_STATE_STATE code (by decide))
  refine ⟨shown.selected.trans (s.fixChosen_selected hn), ?_, fun slews => ?_, shown.hold, shown.raised.trans (s.fixChosen_raised n),
    shown.lost.trans (s.fixChosen_lost n), shown.sources.trans (s.fixChosen_sources n)⟩
  · rw [state]
    rcases ends with slew | ⟨-, locked⟩
    · exact .inl (congrArg (· % 8) slew)
    · exact .inr (congrArg (· % 8) locked)
  · rw [state]
    rcases ends with slew | ⟨acquire, -⟩
    · exact congrArg (· % 8) slew
    · rw [s.fixChosen_acquire, slews] at acquire
      exact absurd acquire Bool.false_ne_true

theorem Selects.shown {s x t : State} {n : Nat} (h : Selects s n x) (shows : ShowsPlls x t) : Selects s n t := by
  have state : t.fixState = x.fixState := State.get_of_word shows.selector
  exact ⟨(State.get_of_word shows.selector).trans h.selected, state ▸ h.state, fun slews => state.trans (h.slews slews),
    (congrArg FixState.hold shows.fix).trans h.hold, (State.bit_of_word shows.fixEvents).trans h.raised,
    (State.bit_of_word shows.fixEvents).trans h.lost, shows.sources.trans h.sources⟩

/-! ### Dead reckoning -/

/-- What the loss of every source in `s` leaves in `t` (R363, R368). -/
structure Reckons (s t : State) : Prop where
  state : t.fixState = fixDr
  selected : t.get FIX_STATE_SELECTED = 5
  seconds : t.get FIX_DR_SECONDS_COUNT = 0
  raised : t.bit (evtFld 50) = true
  lost : t.bit (evtFld 53) = s.bit (evtFld 53)
  sources : t.word FIX_SRC_STATUS = s.word FIX_SRC_STATUS

/-- The selector's state and the count of seconds at the entry. -/
def State.drStarted (s : State) : State :=
  (((s.put FIX_STATE_STATE fixDr).put FIX_STATE_SELECTED 5).put FIX_STATE_CANDIDATE 0).put FIX_DR_SECONDS_COUNT 0

theorem State.enterDr_word (s : State) {a : Nat} (own : 0x40060000 ≤ a) (sigma : a ≠ FIX_SIGMA) (offset : a ≠ FIX_OFFSET) :
    s.enterDr.word a = s.drStarted.word a :=
  (State.showOffset_word _ offset).trans (State.setSigma_word _ _ own sigma)

theorem State.drStarted_word (s : State) {a : Nat} (state : a ≠ FIX_STATE) (seconds : a ≠ FIX_DR_SECONDS) : s.drStarted.word a = s.word a :=
  (State.word_put_ne _ _ _ _ seconds).trans <| (State.word_put_ne _ _ _ _ state).trans <| (State.word_put_ne _ _ _ _ state).trans <|
    State.word_put_ne _ _ _ _ state

theorem State.drStarted_state (s : State) : s.drStarted.fixState = fixDr :=
  (State.get_put_ne _ _ _ _ (by decide)).trans <| (State.get_put_disjoint _ _ _ _ (by decide) (by decide)).trans <|
    (State.get_put_disjoint _ _ _ _ (by decide) (by decide)).trans (State.get_put_same s FIX_STATE_STATE fixDr (by decide))

theorem State.drStarted_selected (s : State) : s.drStarted.get FIX_STATE_SELECTED = 5 :=
  (State.get_put_ne _ _ _ _ (by decide)).trans <| (State.get_put_disjoint _ _ _ _ (by decide) (by decide)).trans <|
    State.get_put_same _ FIX_STATE_SELECTED 5 (by decide)

theorem State.drStarted_seconds (s : State) : s.drStarted.get FIX_DR_SECONDS_COUNT = 0 := State.get_put_same _ FIX_DR_SECONDS_COUNT 0 (by decide)

theorem State.enterDr_reckons (s : State) : Reckons s (s.enterDr.event 50) := by
  have word : ∀ {a}, 0x40060000 ≤ a → a ≠ FIX_EVENT → a ≠ FIX_SIGMA → a ≠ FIX_OFFSET → (s.enterDr.event 50).word a = s.drStarted.word a :=
    fun own event sigma offset => (State.word_put_ne _ (evtFld 50) _ _ event).trans (s.enterDr_word own sigma offset)
  have selector := word (a := FIX_STATE) (by decide) (by decide) (by decide) (by decide)
  have seconds := word (a := FIX_DR_SECONDS) (by decide) (by decide) (by decide) (by decide)
  refine ⟨?_, ?_, ?_, State.bit_set_same _ (evtFld 50) (by decide) (by decide), ?_, ?_⟩
  · exact (State.get_of_word selector).trans s.drStarted_state
  · exact (State.get_of_word selector).trans s.drStarted_selected
  · exact (State.get_of_word seconds).trans s.drStarted_seconds
  · refine (State.bit_set_disjoint _ (evtFld 50) (evtFld 53) (by decide) (by decide)).trans (State.bit_of_word ?_)
    exact (s.enterDr_word (by decide) (by decide) (by decide)).trans (s.drStarted_word (by decide) (by decide))
  · exact (word (by decide) (by decide) (by decide) (by decide)).trans (s.drStarted_word (by decide) (by decide))

theorem Reckons.shown {s x t : State} (h : Reckons s x) (shows : ShowsPlls x t) : Reckons s t where
  state := (State.get_of_word shows.selector).trans h.state
  selected := (State.get_of_word shows.selector).trans h.selected
  seconds := (State.get_of_word (shows.window (a := FIX_DR_SECONDS) (by decide))).trans h.seconds
  raised := (State.bit_of_word shows.fixEvents).trans h.raised
  lost := (State.bit_of_word shows.fixEvents).trans h.lost
  sources := shows.sources.trans h.sources

end Sys2Proof.Machine

/-!
SUPPORT. Decisions, freezes and the bits of a source (R359 to R372): what each operation of the Fix selector comes to.
-/
namespace Sys2Proof.Machine

/-! ### A decision -/

section
variable {s : State}

theorem State.fixDecide_held (held : s.fix.hold = true) : s.fixDecide = s :=
  if_pos (by rw [held, Bool.or_true])

/-- The best source is selected from dead reckoning, and where it goes before the selected one. -/
theorem State.fixDecide_selects {m : Nat} (runs : s.fixState ≠ fixIdle) (thawed : s.fixState ≠ fixFrozen) (free : s.fix.hold = false)
    (best : s.fixBest = some m) (other : s.get FIX_STATE_SELECTED ≠ m)
    (better : s.get FIX_STATE_SELECTED = 5 ∨ s.fixBefore m (s.get FIX_STATE_SELECTED) = true) : s.fixDecide = s.fixSelect m := by
  have decides : ¬(s.fixState == fixIdle || s.fixState == fixFrozen || s.fix.hold) = true := by simp [runs, thawed, free]
  have moves : (s.get FIX_STATE_SELECTED == 5 || s.get FIX_STATE_SELECTED == 0 || s.selOff || s.fixBefore m (s.get FIX_STATE_SELECTED)) =
      true := by
    rcases better with h | h <;> simp [h]
  unfold State.fixDecide
  rw [if_neg decides, best]
  exact (if_neg (by simpa using other)).trans (if_pos moves)

/-- With no other source to select, the selected one stays, unless it has been disabled. -/
theorem State.fixDecide_stays (only : s.onlySource (s.get FIX_STATE_SELECTED)) (on : s.selOff = false) : s.fixDecide = s := by
  unfold State.fixDecide
  split
  · rfl
  · cases ok : s.fixEligible (s.get FIX_STATE_SELECTED) with
    | true =>
      rw [State.fixBest_only only ok]
      exact if_pos (beq_self_eq_true _)
    | false =>
      rw [State.fixBest_none only ok]
      exact if_neg (by rw [on]; exact Bool.false_ne_true)

end

section
variable {s : State}

theorem State.selectionHoldEnd_stays (only : s.onlySource (s.get FIX_STATE_SELECTED)) (on : s.selOff = false) :
    s.selectionHoldEnd = s.withFix { s.fix with hold := false } :=
  State.fixDecide_stays (s := s.withFix { s.fix with hold := false }) only on

theorem State.selectionHoldEnd_selects {m : Nat} (locked : s.fixState = fixLocked) (other : s.get FIX_STATE_SELECTED ≠ m)
    (ok : s.fixEligible m = true) (only : s.onlySource m) (better : s.fixBefore m (s.get FIX_STATE_SELECTED) = true) :
    s.selectionHoldEnd = (s.withFix { s.fix with hold := false }).fixSelect m :=
  State.fixDecide_selects (s := s.withFix { s.fix with hold := false }) (locked.trans_ne (by decide)) (locked.trans_ne (by decide)) rfl
    (State.fixBest_only (s := s.withFix { s.fix with hold := false }) only ok) other (.inr better)

end

/-- The selected source is given up: the best that is left, or dead reckoning (R363, R372). -/
def State.reselect (s : State) : State :=
  match s.fixBest with
  | some b => s.fixSelect b
  | none => (s.enterDr).event 50

theorem State.reselect_selects {s : State} {m : Nat} (best : s.fixBest = some m) : s.reselect = s.fixSelect m := by
  unfold State.reselect
  rw [best]

theorem State.reselect_reckons {s : State} (none : s.fixBest = none) : s.reselect = (s.enterDr).event 50 := by
  unfold State.reselect
  rw [none]

/-! ### A source becomes valid -/

/-- The freeze of a slew for source `n` (R370). -/
def State.fixFreeze (s : State) (n : Nat) : State :=
  let s := (s.put FIX_STATE_STATE fixFrozen).put FIX_STATE_CANDIDATE n
  let s := (s.satInc FIX_FREEZE_COUNT_COUNT FIX_FREEZE_COUNT_OVF).event 49
  let s := s.setSigma s.drSigma
  s.withFix { s.fix with candLost := false }

/-- A freeze changes STATE and CANDIDATE alone in FIX_STATE. -/
theorem State.fixFreeze_selector (s : State) (n : Nat) :
    (s.fixFreeze n).word FIX_STATE = ((s.put FIX_STATE_STATE fixFrozen).put FIX_STATE_CANDIDATE n).word FIX_STATE :=
  (State.setSigma_word _ _ (by decide) (by decide)).trans <| (State.word_put_ne _ (evtFld 49) _ _ (by decide)).trans <|
    State.satInc_word_ne _ (by decide) (by decide)

theorem State.fixFreeze_state (s : State) (n : Nat) : (s.fixFreeze n).fixState = fixFrozen :=
  (State.get_of_word (s.fixFreeze_selector n)).trans <| (State.get_put_disjoint _ _ _ _ (by decide) (by decide)).trans <|
    State.get_put_same s FIX_STATE_STATE fixFrozen (by decide)

theorem State.fixFreeze_candidate (s : State) {n : Nat} (hn : n < 8) : (s.fixFreeze n).get FIX_STATE_CANDIDATE = n :=
  (State.get_of_word (s.fixFreeze_selector n)).trans <| (State.get_put_same _ FIX_STATE_CANDIDATE n (by decide)).trans <|
    Nat.mod_eq_of_lt hn

theorem State.fixFreeze_selected (s : State) (n : Nat) : (s.fixFreeze n).get FIX_STATE_SELECTED = s.get FIX_STATE_SELECTED :=
  (State.get_of_word (s.fixFreeze_selector n)).trans <| (State.get_put_disjoint _ _ _ _ (by decide) (by decide)).trans <|
    State.get_put_disjoint _ _ _ _ (by decide) (by decide)

theorem State.fixFreeze_raised (s : State) (n : Nat) : (s.fixFreeze n).bit (evtFld 49) = true :=
  (State.bit_of_word (State.setSigma_word _ _ (by decide) (by decide))).trans <|
    State.bit_set_same _ (evtFld 49) (by decide) (by decide)

theorem State.fixFreeze_sources (s : State) (n : Nat) : (s.fixFreeze n).word FIX_SRC_STATUS = s.word FIX_SRC_STATUS :=
  (State.setSigma_word _ _ (by decide) (by decide)).trans <| (State.word_put_ne _ (evtFld 49) _ _ (by decide)).trans <|
    (State.satInc_word_ne _ (by decide) (by decide)).trans <| (State.word_put_ne _ _ _ _ (by decide)).trans <|
      State.word_put_ne _ _ _ _ (by decide)

theorem State.srcValid_word (s : State) (n : Nat) {a : Nat} (h : a ≠ FIX_SRC_STATUS) : (s.set (srcValidFld n)).word a = s.word a :=
  State.word_put_ne _ (srcValidFld n) _ _ h

theorem State.srcValid_set (s : State) {n : Nat} (hn : n ≤ 4) : (s.set (srcValidFld n)).bit (srcValidFld n) = true :=
  State.bit_set_same s (srcValidFld n) (show n - 1 + 1 ≤ 32 by omega) Nat.one_ne_zero

section
variable {s : State} {n : Nat} (hn : n ≤ 4) (invalid : s.bit (srcValidFld n) = false) (master : ¬(n = 1 ∧ s.timeMaster = true))
  (flood : ¬(n = 4 ∧ s.bit (CTX_STATUS_FLOOD (s.get FIX_BCD_CFG_CTX)) = true))
include hn invalid master flood

/-- What keeps a source from becoming valid does not hold. -/
theorem State.sourceValid_eq : s.sourceValid n =
    if s.fixState == fixSlew && s.fixPrio n != 0 && s.get FIX_STATE_SELECTED != n &&
      decide (s.fixPrio n < s.fixPrio (s.get FIX_STATE_SELECTED)) then (s.set (srcValidFld n)).fixFreeze n
    else s.set (srcValidFld n) := by
  have admits : ¬(n = 5 || s.bit (srcValidFld n) || (n == 1 && s.timeMaster) ||
      (n == 4 && s.bit (CTX_STATUS_FLOOD (s.get FIX_BCD_CFG_CTX)))) = true := by
    have real : n ≠ 5 := by omega
    simp only [Bool.or_eq_true, Bool.and_eq_true, decide_eq_true_eq, beq_iff_eq, invalid, Bool.false_eq_true, or_false]
    exact fun h => h.elim (fun h => h.elim real master) flood
  have selector : (s.set (srcValidFld n)).word FIX_STATE = s.word FIX_STATE := s.srcValid_word n (by decide)
  have state : (s.set (srcValidFld n)).fixState = s.fixState := State.get_of_word selector
  have selected : (s.set (srcValidFld n)).get FIX_STATE_SELECTED = s.get FIX_STATE_SELECTED := State.get_of_word selector
  have prio : ∀ k, (s.set (srcValidFld n)).fixPrio k = s.fixPrio k := State.fixPrio_of_word (s.srcValid_word n (by decide))
  unfold State.sourceValid
  rw [if_neg admits]
  dsimp only
  rw [state, selected, prio, prio]
  rfl

theorem State.sourceValid_sets (calm : s.fixState ≠ fixSlew) : s.sourceValid n = s.set (srcValidFld n) := by
  rw [State.sourceValid_eq hn invalid master flood, beq_false_of_ne calm]
  rfl

theorem State.sourceValid_freezes (slew : s.fixState = fixSlew) (on : s.fixPrio n ≠ 0) (other : s.get FIX_STATE_SELECTED ≠ n)
    (better : s.fixPrio n < s.fixPrio (s.get FIX_STATE_SELECTED)) : s.sourceValid n = (s.set (srcValidFld n)).fixFreeze n := by
  rw [State.sourceValid_eq hn invalid master flood]
  exact if_pos (by simp [slew, on, other, better])

end

/-! ### A source becomes invalid -/

/-- Source `n` without its bits and its measurement; the freeze that waits for it has lost its candidate. -/
def State.sourceCleared (s : State) (n : Nat) : State :=
  let s := (s.clr (srcValidFld n)).clr (srcQualFld n)
  let s := s.withFix { s.fix with seen := s.fix.seen &&& ~~~(1#4 <<< (n - 1)) }
  s.iff (s.fixState == fixFrozen && s.get FIX_STATE_CANDIDATE == n) fun s => s.withFix { s.fix with candLost := true }

/-- Beside its bits, the loss of a source writes no register. -/
theorem State.sourceCleared_regs (s : State) (n : Nat) : (s.sourceCleared n).regs = ((s.clr (srcValidFld n)).clr (srcQualFld n)).regs := by
  unfold State.sourceCleared State.iff
  extract_lets cleared unseen
  split <;> rfl

theorem State.sourceCleared_word (s : State) (n : Nat) {a : Nat} (h : a ≠ FIX_SRC_STATUS) : (s.sourceCleared n).word a = s.word a := by
  rw [State.word, State.sourceCleared_regs]
  exact (State.word_put_ne _ (srcQualFld n) _ _ h).trans (State.word_put_ne _ (srcValidFld n) _ _ h)

theorem State.sourceCleared_bit (s : State) (n : Nat) (f : Fld) :
    (s.sourceCleared n).bit f = ((s.clr (srcValidFld n)).clr (srcQualFld n)).bit f := by
  rw [State.bit, State.bit, State.get, State.sourceCleared_regs, State.get]

/-- The bits of the sources, VALID and QUALIFIED, lie apart. -/
theorem srcFlds_disjoint {n m : Nat} (hn : n ≤ 4) (hm : 1 ≤ m) :
    (srcValidFld n).disjoint (srcQualFld m) = true ∧ (srcQualFld m).disjoint (srcValidFld n) = true :=
  ⟨Fld.disjoint_of_bits (.inl (by omega)), Fld.disjoint_of_bits (.inr (by omega))⟩

theorem srcQualFld_disjoint {n m : Nat} (hn : 1 ≤ n) (hm : 1 ≤ m) (h : m ≠ n) : (srcQualFld n).disjoint (srcQualFld m) = true :=
  Fld.disjoint_of_bits (by omega)

section
variable (s : State) {n : Nat} (hn : 1 ≤ n ∧ n ≤ 4)
include hn

theorem State.sourceCleared_valid : (s.sourceCleared n).bit (srcValidFld n) = false :=
  (s.sourceCleared_bit n _).trans <|
    (State.bit_clr_disjoint _ (srcQualFld n) (srcValidFld n) (show n - 1 + 1 ≤ 32 by omega) (srcFlds_disjoint hn.2 hn.1).2).trans <|
      State.bit_clr_same s (srcValidFld n) (show n - 1 + 1 ≤ 32 by omega)

theorem State.sourceCleared_qual : (s.sourceCleared n).bit (srcQualFld n) = false :=
  (s.sourceCleared_bit n _).trans (State.bit_clr_same _ (srcQualFld n) (show 8 + n - 1 + 1 ≤ 32 by omega))

theorem State.sourceCleared_off : (s.sourceCleared n).fixEligible n = false := by
  rw [State.fixEligible, s.sourceCleared_qual hn, Bool.and_false]
  rfl

/-- Every source beside the one that was lost may be selected as before. -/
theorem State.sourceCleared_eligible {k : Nat} (hk : 1 ≤ k ∧ k ≤ 4) (other : k ≠ n) :
    (s.sourceCleared n).fixEligible k = s.fixEligible k := by
  have fits : 8 + k - 1 + 1 ≤ 32 := by omega
  refine State.fixEligible_congr (s.sourceCleared_word n (by decide)) ?_ (State.bit_of_word (s.sourceCleared_word n (by decide)))
  exact (s.sourceCleared_bit n _).trans <|
    (State.bit_clr_disjoint _ (srcQualFld n) (srcQualFld k) fits (srcQualFld_disjoint hn.1 hk.1 other)).trans <|
      State.bit_clr_disjoint s (srcValidFld n) (srcQualFld k) fits (srcFlds_disjoint hn.2 hk.1).1

end

/-- The selected source `n` is lost: SRC_LOST is raised. -/
def State.sourceLost (s : State) (n : Nat) : State := (s.sourceCleared n).event 53

theorem State.sourceLost_word (s : State) (n : Nat) {a : Nat} (h : a ≠ FIX_EVENT) : (s.sourceLost n).word a = (s.sourceCleared n).word a :=
  State.word_put_ne _ (evtFld 53) _ _ h

theorem State.sourceLost_raised (s : State) (n : Nat) : (s.sourceLost n).bit (evtFld 53) = true :=
  State.bit_set_same _ (evtFld 53) (by decide) (by decide)

theorem State.sourceLost_eligible (s : State) (n k : Nat) : (s.sourceLost n).fixEligible k = (s.sourceCleared n).fixEligible k :=
  State.fixEligible_congr (s.sourceLost_word n (by decide)) (State.bit_of_word (s.sourceLost_word n (a := FIX_SRC_STATUS) (by decide)))
    (State.bit_of_word (s.sourceLost_word n (a := FIX_STATE) (by decide)))

section
variable {s : State} {n : Nat} (hn : 1 ≤ n ∧ n ≤ 4)
include hn

theorem State.sourceLost_none (only : s.onlySource n) : (s.sourceLost n).fixBest = none :=
  State.fixBest_none (m := n)
    (fun k lower upper other => (s.sourceLost_eligible n k).trans <|
      (s.sourceCleared_eligible hn ⟨lower, upper⟩ other).trans (only k lower upper other))
    ((s.sourceLost_eligible n n).trans (s.sourceCleared_off hn))

theorem State.sourceLost_best {m : Nat} (other : m ≠ n) (ok : s.fixEligible m = true)
    (only : ∀ k, 1 ≤ k → k ≤ 4 → k ≠ n → k ≠ m → s.fixEligible k = false) : (s.sourceLost n).fixBest = some m := by
  refine State.fixBest_only (fun k lower upper apart => (s.sourceLost_eligible n k).trans ?_)
    ((s.sourceLost_eligible n m).trans ((s.sourceCleared_eligible hn (State.fixEligible_range ok) other).trans ok))
  by_cases own : k = n
  · rw [own, s.sourceCleared_off hn]
  · exact (s.sourceCleared_eligible hn ⟨lower, upper⟩ own).trans (only k lower upper own apart)

variable (valid : s.bit (srcValidFld n) = true)
include valid

theorem State.sourceInvalid_eq : s.sourceInvalid n =
    if s.get FIX_STATE_SELECTED == n && s.fixState != fixIdle then (s.sourceLost n).reselect else s.sourceCleared n := by
  have goes : ¬(n = 5 || !s.bit (srcValidFld n)) = true := by
    have real : n ≠ 5 := by omega
    simp [real, valid]
  have selector : (s.sourceCleared n).word FIX_STATE = s.word FIX_STATE := s.sourceCleared_word n (by decide)
  have selected : (s.sourceCleared n).get FIX_STATE_SELECTED = s.get FIX_STATE_SELECTED := State.get_of_word selector
  have state : (s.sourceCleared n).fixState = s.fixState := State.get_of_word selector
  rw [← selected, ← state]
  exact if_neg goes

theorem State.sourceInvalid_other (other : s.get FIX_STATE_SELECTED ≠ n) : s.sourceInvalid n = s.sourceCleared n := by
  rw [State.sourceInvalid_eq hn valid, beq_false_of_ne other]
  rfl

theorem State.sourceInvalid_selected (own : s.get FIX_STATE_SELECTED = n) (runs : s.fixState ≠ fixIdle) :
    s.sourceInvalid n = (s.sourceLost n).reselect := by
  rw [State.sourceInvalid_eq hn valid, if_pos (by simp [own, runs])]

end

/-! ### A source qualifies -/

theorem State.srcQual_word (s : State) (n : Nat) {a : Nat} (h : a ≠ FIX_SRC_STATUS) : (s.set (srcQualFld n)).word a = s.word a :=
  State.word_put_ne _ (srcQualFld n) _ _ h

section
variable {s : State} {n : Nat}

theorem State.srcQual_set (hn : n ≤ 4) : (s.set (srcQualFld n)).bit (srcQualFld n) = true :=
  State.bit_set_same s (srcQualFld n) (show 8 + n - 1 + 1 ≤ 32 by omega) Nat.one_ne_zero

/-- A source that is enabled may be selected once it has qualified, source 3 with valid time (R358, R361). -/
theorem State.srcQual_eligible (hn : n ≤ 4) (on : s.fixPrio n ≠ 0) (time : n = 3 → s.bit FIX_STATE_TIME_VALID = true) :
    (s.set (srcQualFld n)).fixEligible n = true := by
  have prio : (s.set (srcQualFld n)).fixPrio n = s.fixPrio n := State.fixPrio_of_word (s.srcQual_word n (by decide)) n
  have kept : (s.set (srcQualFld n)).bit FIX_STATE_TIME_VALID = s.bit FIX_STATE_TIME_VALID :=
    State.bit_of_word (s.srcQual_word n (by decide))
  rw [State.fixEligible, prio, State.srcQual_set hn, kept]
  by_cases ext : n = 3
  · simp [on, time ext]
  · simp [on, ext]

theorem State.srcQual_onlySource (hn : 1 ≤ n) (only : s.onlySource n) : (s.set (srcQualFld n)).onlySource n :=
  fun k lower upper other => by
    have fits : 8 + k - 1 + 1 ≤ 32 := by omega
    refine (State.fixEligible_congr (s.srcQual_word n (by decide)) ?_
      (State.bit_of_word (s.srcQual_word n (by decide)))).trans (only k lower upper other)
    exact State.bit_set_disjoint s (srcQualFld n) (srcQualFld k) fits (srcQualFld_disjoint hn lower other)

variable (valid : s.bit (srcValidFld n) = true) (on : s.fixPrio n ≠ 0)
include valid on

/-- Outside a freeze a qualification is a decision. -/
theorem State.sourceQualified_decides (runs : s.fixState ≠ fixIdle) (thawed : s.fixState ≠ fixFrozen) :
    s.sourceQualified n = (s.set (srcQualFld n)).fixDecide := by
  have state : (s.set (srcQualFld n)).fixState = s.fixState := State.get_of_word (s.srcQual_word n (a := FIX_STATE) (by decide))
  unfold State.sourceQualified
  rw [if_neg (by simp [runs, valid, on])]
  exact if_neg (by simpa [state] using thawed)

/-- In a freeze the candidate that qualifies is selected. -/
theorem State.sourceQualified_thaws (hn : n ≤ 4) (frozen : s.fixState = fixFrozen) (candidate : s.get FIX_STATE_CANDIDATE = n)
    (time : n = 3 → s.bit FIX_STATE_TIME_VALID = true) : s.sourceQualified n = (s.set (srcQualFld n)).fixSelect n := by
  have selector : (s.set (srcQualFld n)).word FIX_STATE = s.word FIX_STATE := s.srcQual_word n (by decide)
  have state : (s.set (srcQualFld n)).fixState = fixFrozen := (State.get_of_word selector).trans frozen
  have waits : (s.set (srcQualFld n)).get FIX_STATE_CANDIDATE = n := (State.get_of_word selector).trans candidate
  have runs : ¬(s.fixState == fixIdle || !s.bit (srcValidFld n) || s.fixPrio n == 0) = true := by
    rw [frozen, valid, beq_false_of_ne on]
    decide
  unfold State.sourceQualified
  rw [if_neg runs]
  dsimp only
  rw [if_pos (by rw [state]; rfl), if_pos (by rw [waits, State.srcQual_eligible hn on time, beq_self_eq_true]; rfl)]

end

end Sys2Proof.Machine

/-!
SUPPORT. The events of the Fix selector (R359 to R372): validity, qualification, the hold's end, the slew's end and the freeze's end.
-/
namespace Sys2Proof.Machine

/-! ### SOURCE_VALID -/

theorem exec_sourceValid (n : Fin 5) (s : State) :
    exec (.sourceValid n) s = act (fun s => s.iff s.inService (·.sourceValid (n.val + 1))) s := rfl

section
variable {s : State} (run : s.inService = true) {n : Fin 5} (hn : n.val < 4) (invalid : s.bit (srcValidFld (n.val + 1)) = false)
  (master : ¬(n.val = 0 ∧ s.timeMaster = true)) (flood : ¬(n.val = 3 ∧ s.bit (CTX_STATUS_FLOOD (s.get FIX_BCD_CFG_CTX)) = true))
include run hn invalid master flood

/-- Outside a slew a source that becomes valid moves no selection. -/
theorem gives_sourceValid_calm (calm : s.fixState ≠ fixSlew) : Gives (.sourceValid n) s fun t =>
    t.bit (srcValidFld (n.val + 1)) = true ∧ t.word FIX_STATE = s.word FIX_STATE := by
  refine (gives_fixEvent (exec_sourceValid n s) run).imp fun t shows => ?_
  rw [State.sourceValid_sets (s := s.withOut []) (by omega) invalid (fun h => master ⟨by omega, h.2⟩) (fun h => flood ⟨by omega, h.2⟩) calm]
    at shows
  exact ⟨(State.bit_of_word (f := srcValidFld _) shows.sources).trans (State.srcValid_set _ (by omega)),
    shows.selector.trans (State.srcValid_word _ _ (by decide))⟩

/-- A better source that becomes valid during a slew freezes it. -/
theorem gives_sourceValid_freezes (slew : s.fixState = fixSlew) (on : s.fixPrio (n.val + 1) ≠ 0)
    (other : s.get FIX_STATE_SELECTED ≠ n.val + 1) (better : s.fixPrio (n.val + 1) < s.fixPrio (s.get FIX_STATE_SELECTED)) :
    Gives (.sourceValid n) s fun t => t.bit (srcValidFld (n.val + 1)) = true ∧ t.fixState = fixFrozen ∧
      t.get FIX_STATE_CANDIDATE = n.val + 1 ∧ t.get FIX_STATE_SELECTED = s.get FIX_STATE_SELECTED ∧ t.lineLevel 49 = true := by
  refine (gives_fixEvent (exec_sourceValid n s) run).imp fun t shows => ?_
  rw [State.sourceValid_freezes (s := s.withOut []) (by omega) invalid (fun h => master ⟨by omega, h.2⟩) (fun h => flood ⟨by omega, h.2⟩)
    slew on other better] at shows
  have sources := shows.sources.trans (State.fixFreeze_sources ..)
  have selected := (State.fixFreeze_selected ((s.withOut []).set (srcValidFld (n.val + 1))) (n.val + 1)).trans
    (State.get_of_word (State.srcValid_word _ _ (by decide)))
  refine ⟨?_, ?_, ?_, ?_, ?_⟩
  · exact (State.bit_of_word (f := srcValidFld _) sources).trans (State.srcValid_set _ (by omega))
  · exact (State.get_of_word shows.selector).trans (State.fixFreeze_state ..)
  · exact (State.get_of_word shows.selector).trans (State.fixFreeze_candidate _ (by omega))
  · exact (State.get_of_word shows.selector).trans selected
  · exact (State.bit_of_word (f := evtFld 49) shows.fixEvents).trans (State.fixFreeze_raised ..)

end

/-! ### SOURCE_INVALID -/

theorem exec_sourceInvalid (n : Fin 5) (s : State) :
    exec (.sourceInvalid n) s = act (fun s => s.iff s.inService (·.sourceInvalid (n.val + 1))) s := rfl

section
variable {s : State} (run : s.inService = true) {n : Fin 5} (hn : n.val < 4) (valid : s.bit (srcValidFld (n.val + 1)) = true)
include run hn valid

/-- The loss of a source that is not selected clears its bits alone. -/
theorem gives_sourceInvalid_other (other : s.get FIX_STATE_SELECTED ≠ n.val + 1) : Gives (.sourceInvalid n) s fun t =>
    t.bit (srcValidFld (n.val + 1)) = false ∧ t.bit (srcQualFld (n.val + 1)) = false ∧ t.word FIX_STATE = s.word FIX_STATE := by
  have range : 1 ≤ n.val + 1 ∧ n.val + 1 ≤ 4 := by omega
  refine (gives_fixEvent (exec_sourceInvalid n s) run).imp fun t shows => ?_
  rw [State.sourceInvalid_other (s := s.withOut []) range valid other] at shows
  exact ⟨(State.bit_of_word (f := srcValidFld _) shows.sources).trans (State.sourceCleared_valid _ range),
    (State.bit_of_word (f := srcQualFld _) shows.sources).trans (State.sourceCleared_qual _ range),
    shows.selector.trans (State.sourceCleared_word _ _ (by decide))⟩

variable (own : s.get FIX_STATE_SELECTED = n.val + 1) (runs : s.fixState ≠ fixIdle)
include own runs

/-- The loss of the selected source with no other left: dead reckoning. -/
theorem gives_sourceInvalid_reckons (only : s.onlySource (n.val + 1)) : Gives (.sourceInvalid n) s fun t =>
    t.bit (srcValidFld (n.val + 1)) = false ∧ t.fixState = fixDr ∧ t.get FIX_STATE_SELECTED = 5 ∧ t.get FIX_DR_SECONDS_COUNT = 0 ∧
      t.lineLevel 53 = true ∧ t.lineLevel 50 = true := by
  have range : 1 ≤ n.val + 1 ∧ n.val + 1 ≤ 4 := by omega
  refine (gives_fixEvent (exec_sourceInvalid n s) run).imp fun t shows => ?_
  rw [State.sourceInvalid_selected (s := s.withOut []) range valid own runs,
    State.reselect_reckons (State.sourceLost_none (s := s.withOut []) range only)] at shows
  have left := (State.enterDr_reckons _).shown shows
  refine ⟨?_, left.state, left.selected, left.seconds, left.lost.trans (State.sourceLost_raised ..), left.raised⟩
  exact (State.bit_of_word (f := srcValidFld _) (left.sources.trans (State.sourceLost_word _ _ (by decide)))).trans
    (State.sourceCleared_valid _ range)

/-- The loss of the selected source selects the one that is left. -/
theorem gives_sourceInvalid_selects {m : Nat} (other : m ≠ n.val + 1) (ok : s.fixEligible m = true)
    (only : ∀ k, 1 ≤ k → k ≤ 4 → k ≠ n.val + 1 → k ≠ m → s.fixEligible k = false) (acquired : s.bit FIX_STATE_ACQUIRE = false) :
    Gives (.sourceInvalid n) s fun t => t.get FIX_STATE_SELECTED = m ∧ t.fixState = fixSlew ∧ t.fix.hold = true ∧ t.lineLevel 53 = true := by
  have range : 1 ≤ n.val + 1 ∧ n.val + 1 ≤ 4 := by omega
  have upper : m ≤ 4 := (State.fixEligible_range ok).2
  refine (gives_fixEvent (exec_sourceInvalid n s) run).imp fun t shows => ?_
  rw [State.sourceInvalid_selected (s := s.withOut []) range valid own runs,
    State.reselect_selects (State.sourceLost_best (s := s.withOut []) range other ok only)] at shows
  have left := (State.fixSelect_selects _ (by omega : m < 8)).shown shows
  have kept : ((s.withOut []).sourceLost (n.val + 1)).bit FIX_STATE_ACQUIRE = false :=
    (State.bit_of_word (f := FIX_STATE_ACQUIRE) ((State.sourceLost_word _ _ (by decide)).trans
      (State.sourceCleared_word _ _ (by decide)))).trans acquired
  exact ⟨left.selected, left.slews kept, left.hold, left.lost.trans (State.sourceLost_raised ..)⟩

end

/-! ### SOURCE_QUALIFIED -/

theorem exec_sourceQualified (n : Fin 5) (s : State) :
    exec (.sourceQualified n) s = act (fun s => s.iff s.inService (·.sourceQualified (n.val + 1))) s := rfl

section
variable {s : State} (run : s.inService = true) {n : Fin 5} (hn : n.val < 4) (valid : s.bit (srcValidFld (n.val + 1)) = true)
  (on : s.fixPrio (n.val + 1) ≠ 0)
include run hn valid on

/-- The first source that qualifies in dead reckoning is selected. -/
theorem gives_sourceQualified_dr (dr : s.fixState = fixDr) (reckons : s.get FIX_STATE_SELECTED = 5) (free : s.fix.hold = false)
    (time : n.val + 1 = 3 → s.bit FIX_STATE_TIME_VALID = true) (only : s.onlySource (n.val + 1)) : Gives (.sourceQualified n) s fun t =>
    t.bit (srcQualFld (n.val + 1)) = true ∧ t.get FIX_STATE_SELECTED = n.val + 1 ∧ t.fix.hold = true ∧ t.lineLevel 48 = true := by
  let x := (s.withOut []).set (srcQualFld (n.val + 1))
  have selector : x.word FIX_STATE = s.word FIX_STATE := (s.withOut []).srcQual_word _ (by decide)
  have state : x.fixState = fixDr := (State.get_of_word selector).trans dr
  have selected : x.get FIX_STATE_SELECTED = 5 := (State.get_of_word selector).trans reckons
  have best : x.fixBest = some (n.val + 1) := State.fixBest_only (State.srcQual_onlySource (s := s.withOut []) (by omega) only)
    (State.srcQual_eligible (s := s.withOut []) (by omega) on time)
  refine (gives_fixEvent (exec_sourceQualified n s) run).imp fun t shows => ?_
  rw [State.sourceQualified_decides (s := s.withOut []) valid on (dr.trans_ne (by decide)) (dr.trans_ne (by decide)),
    State.fixDecide_selects (s := x) (state.trans_ne (by decide)) (state.trans_ne (by decide)) free best
      (selected.trans_ne (by omega)) (.inl selected)] at shows
  have left := (x.fixSelect_selects (by omega : n.val + 1 < 8)).shown shows
  exact ⟨(State.bit_of_word (f := srcQualFld _) left.sources).trans (State.srcQual_set (by omega)), left.selected, left.hold, left.raised⟩

/-- The candidate that qualifies ends the freeze. -/
theorem gives_sourceQualified_thaws (frozen : s.fixState = fixFrozen) (candidate : s.get FIX_STATE_CANDIDATE = n.val + 1)
    (time : n.val + 1 = 3 → s.bit FIX_STATE_TIME_VALID = true) : Gives (.sourceQualified n) s fun t =>
    t.get FIX_STATE_SELECTED = n.val + 1 ∧ t.fixState ≠ fixFrozen := by
  refine (gives_fixEvent (exec_sourceQualified n s) run).imp fun t shows => ?_
  rw [State.sourceQualified_thaws (s := s.withOut []) valid on (by omega) frozen candidate time] at shows
  have left := (State.fixSelect_selects _ (by omega : n.val + 1 < 8)).shown shows
  refine ⟨left.selected, ?_⟩
  rcases left.state with state | state <;> rw [state] <;> decide

/-- Under a hold a source that qualifies moves no selection. -/
theorem gives_sourceQualified_held (locked : s.fixState = fixLocked) (held : s.fix.hold = true) : Gives (.sourceQualified n) s fun t =>
    t.bit (srcQualFld (n.val + 1)) = true ∧ t.word FIX_STATE = s.word FIX_STATE := by
  refine (gives_fixEvent (exec_sourceQualified n s) run).imp fun t shows => ?_
  rw [State.sourceQualified_decides (s := s.withOut []) valid on (locked.trans_ne (by decide)) (locked.trans_ne (by decide)),
    State.fixDecide_held (s := (s.withOut []).set (srcQualFld (n.val + 1))) held] at shows
  exact ⟨(State.bit_of_word (f := srcQualFld _) shows.sources).trans (State.srcQual_set (by omega)),
    shows.selector.trans (State.srcQual_word _ _ (by decide))⟩

end

/-! ### SELECTION_HOLD_END -/

theorem exec_selectionHoldEnd (s : State) :
    exec .selectionHoldEnd s = act (fun s => s.iff s.inService (·.selectionHoldEnd)) s := rfl

section
variable {s : State} (run : s.inService = true)
include run

/-- With no other source to select, the hold ends and the selected one stays. -/
theorem gives_selectionHoldEnd_stays (only : s.onlySource (s.get FIX_STATE_SELECTED)) (on : s.selOff = false) :
    Gives .selectionHoldEnd s fun t => t.get FIX_STATE_SELECTED = s.get FIX_STATE_SELECTED ∧ t.fix.hold = false := by
  refine (gives_fixEvent (exec_selectionHoldEnd s) run).imp fun t shows => ?_
  rw [State.selectionHoldEnd_stays (s := s.withOut []) only on] at shows
  exact ⟨State.get_of_word shows.selector, congrArg FixState.hold shows.fix⟩

/-- At the hold's end a better source is selected. -/
theorem gives_selectionHoldEnd_selects {m : Nat} (locked : s.fixState = fixLocked) (other : s.get FIX_STATE_SELECTED ≠ m)
    (ok : s.fixEligible m = true) (only : s.onlySource m) (better : s.fixBefore m (s.get FIX_STATE_SELECTED) = true) :
    Gives .selectionHoldEnd s fun t => t.get FIX_STATE_SELECTED = m ∧ t.fix.hold = true := by
  have upper : m ≤ 4 := (State.fixEligible_range ok).2
  refine (gives_fixEvent (exec_selectionHoldEnd s) run).imp fun t shows => ?_
  rw [State.selectionHoldEnd_selects (s := s.withOut []) locked other ok only better] at shows
  have left := (State.fixSelect_selects _ (by omega : m < 8)).shown shows
  exact ⟨left.selected, left.hold⟩

end

/-! ### SLEW_END and FREEZE_TIMEOUT -/

theorem exec_slewEnd (s : State) : exec .slewEnd s = act (·.slewEnd) s := rfl

theorem exec_freezeTimeout (s : State) : exec .freezeTimeout s = act (·.freezeTimeout) s := rfl

/-- An effect on no register but those of `as` shows in those and in the levels alone. -/
theorem State.settle_onlyRegs {s x : State} {as : List Nat} (h : ∀ a, a ∉ as → x.word a = s.word a) : s.onlyRegs x.settle as :=
  fun a other level => (State.settle_word_of_not_level x level).trans (h a other)

section
variable {s : State}

/-- A slew within its limit ends in LOCKED. -/
theorem gives_slewEnd_locks (slew : s.fixState = fixSlew) (done : s.slewDone = true) :
    Gives .slewEnd s fun t => t.fixState = fixLocked ∧ s.onlyRegs t [FIX_STATE] := by
  have ends : (s.withOut []).slewEnd = (s.withOut []).put FIX_STATE_STATE fixLocked :=
    if_pos (show (s.fixState == fixSlew && s.slewDone) = true by rw [slew, done]; rfl)
  refine gives_act (exec_slewEnd s) ?_
  rw [ends]
  exact ⟨(State.settle_get_pwr _ (by decide)).trans (State.get_put_same _ FIX_STATE_STATE fixLocked (by decide)),
    State.settle_onlyRegs fun a other => State.word_put_ne _ _ _ _ (List.ne_of_not_mem_cons other)⟩

/-- A slew beyond its limit goes on. -/
theorem gives_slewEnd_goes (far : s.slewDone = false) : Gives .slewEnd s fun t => s.onlyRegs t [] := by
  have stays : (s.withOut []).slewEnd = s.withOut [] :=
    if_neg (show ¬(s.fixState == fixSlew && s.slewDone) = true by rw [far, Bool.and_false]; exact Bool.false_ne_true)
  refine gives_act (exec_slewEnd s) ?_
  rw [stays]
  exact State.settle_onlyRegs fun _ _ => rfl

/-- A freeze whose candidate is gone, with no source to select, ends in dead reckoning. -/
theorem gives_freezeTimeout_reckons (frozen : s.fixState = fixFrozen) (lost : s.fix.candLost = true) (only : s.onlySource 0) :
    Gives .freezeTimeout s fun t => t.fixState = fixDr ∧ t.get FIX_STATE_SELECTED = 5 ∧ t.lineLevel 50 = true := by
  have none : (s.withOut []).fixBest = none := State.fixBest_none (s := s.withOut []) only rfl
  have ends : (s.withOut []).freezeTimeout = (s.withOut []).reselect :=
    if_pos (show (s.fixState == fixFrozen && s.fix.candLost) = true by rw [frozen, lost]; rfl)
  refine gives_act (exec_freezeTimeout s) ?_
  rw [ends, State.reselect_reckons none]
  have left := (State.enterDr_reckons (s.withOut [])).shown (State.settle_showsPlls _)
  exact ⟨left.state, left.selected, left.raised⟩

/-- A freeze whose candidate is still there does not time out. -/
theorem gives_freezeTimeout_waits (there : s.fix.candLost = false) : Gives .freezeTimeout s fun t => s.onlyRegs t [] ∧ t.fix = s.fix := by
  have stays : (s.withOut []).freezeTimeout = s.withOut [] :=
    if_neg (show ¬(s.fixState == fixFrozen && s.fix.candLost) = true by rw [there, Bool.and_false]; exact Bool.false_ne_true)
  refine gives_act (exec_freezeTimeout s) ?_
  rw [stays]
  exact ⟨State.settle_onlyRegs fun _ _ => rfl, State.settle_fix _⟩

end

/-- Settles O41: what a selection, a freeze and dead reckoning leave (`Selects`, `fixFreeze`, `Reckons`) is shown by each event that leads
to them, and a decision takes the one source that may be selected. -/
theorem fixSourceSelection : Obligations.FixSourceSelection := fun _ run =>
  ⟨fun _ hn invalid master flood =>
      ⟨gives_sourceValid_calm run hn invalid master flood, gives_sourceValid_freezes run hn invalid master flood⟩,
    fun _ hn valid =>
      ⟨gives_sourceInvalid_other run hn valid, gives_sourceInvalid_reckons run hn valid,
        fun _ _ _ other own runs ok only => gives_sourceInvalid_selects run hn valid own runs other ok only⟩,
    fun _ hn valid on =>
      ⟨gives_sourceQualified_dr run hn valid on, gives_sourceQualified_thaws run hn valid on, gives_sourceQualified_held run hn valid on⟩,
    gives_selectionHoldEnd_stays run,
    fun _ _ _ locked other ok only better => gives_selectionHoldEnd_selects run locked other ok only better,
    gives_slewEnd_locks, fun _ far => gives_slewEnd_goes far, gives_freezeTimeout_reckons, gives_freezeTimeout_waits⟩

end Sys2Proof.Machine

/-!
SUPPORT. The registers of the serial lanes: their fields, what operations of other blocks leave of them, and what the end of a command shows
of the lanes.
-/
namespace Sys2Proof.Machine

/-! ### Fields of one lane -/

/-- A field of a lane that shares no bit with the one put, in its register or in another of the lane, reads as before. -/
theorem State.get_put_beside (s : State) {n x lo w y lo' w' : Nat} (v : Nat) (h : (x ≠ y ∨ lo + w ≤ lo' ∨ lo' + w' ≤ lo) ∧ lo' + w' ≤ 32) :
    (s.put ⟨x + n * 0x400, lo, w⟩ v).get ⟨y + n * 0x400, lo', w'⟩ = s.get ⟨y + n * 0x400, lo', w'⟩ := by
  refine State.get_put_disjoint _ _ _ _ h.2 ?_
  simp only [Fld.disjoint, Bool.or_eq_true, decide_eq_true_eq]
  omega

theorem State.bit_put_beside (s : State) {n x lo w y lo' w' : Nat} (v : Nat) (h : (x ≠ y ∨ lo + w ≤ lo' ∨ lo' + w' ≤ lo) ∧ lo' + w' ≤ 32) :
    (s.put ⟨x + n * 0x400, lo, w⟩ v).bit ⟨y + n * 0x400, lo', w'⟩ = s.bit ⟨y + n * 0x400, lo', w'⟩ :=
  congrArg (· != 0) (s.get_put_beside v h)

/-- A field of a lane reads what was put into it. -/
theorem State.get_put_own (s : State) {n x lo w : Nat} (v : Nat) (fits : lo + w ≤ 32) :
    (s.put ⟨x + n * 0x400, lo, w⟩ v).get ⟨x + n * 0x400, lo, w⟩ = v % 2 ^ w := s.get_put_same _ v fits

theorem State.bit_set_own (s : State) {n x lo : Nat} (fits : lo + 1 ≤ 32) :
    (s.set ⟨x + n * 0x400, lo, 1⟩).bit ⟨x + n * 0x400, lo, 1⟩ = true := s.bit_set_same _ fits Nat.one_ne_zero

theorem State.bit_clr_own (s : State) {n x lo w : Nat} (fits : lo + w ≤ 32) :
    (s.clr ⟨x + n * 0x400, lo, w⟩).bit ⟨x + n * 0x400, lo, w⟩ = false := s.bit_clr_same _ fits

theorem State.bit_putB_own (s : State) {n x lo : Nat} (b : Bool) (fits : lo + 1 ≤ 32) :
    (s.putB ⟨x + n * 0x400, lo, 1⟩ b).bit ⟨x + n * 0x400, lo, 1⟩ = b := by
  cases b
  · exact s.bit_clr_own fits
  · exact s.bit_set_own fits

/-- Two registers of one lane. -/
theorem laneReg_ne {x y n : Nat} (h : x ≠ y) : x + n * 0x400 ≠ y + n * 0x400 := fun e => h (Nat.add_right_cancel e)

/-- The hidden state put for a lane. -/
@[simp] theorem State.putLane_lane (s : State) (n : Fin 24) (v : LnkLane) : (s.putLane n v).lane n = v := by
  simp [State.putLane, State.lane]

theorem State.lane_of_lnk {s t : State} (h : t.lnk = s.lnk) (n : Nat) : t.lane n = s.lane n := congrArg (fun l => l[n]?.getD LnkLane.idle) h

/-- Whether a lane is out of electrical idle depends on its hidden state and on the registers named. -/
theorem State.laneActive_congr {s t : State} {n : Nat} (lnk : t.lnk = s.lnk) (rails : t.word PWR_RAILS = s.word PWR_RAILS)
    (cfg : t.word (LNK_CFG n) = s.word (LNK_CFG n)) (pll : t.word (PLL_STATUS (lanePll n)) = s.word (PLL_STATUS (lanePll n)))
    (group : t.word (LNK_GROUP_STATUS (n / 6)) = s.word (LNK_GROUP_STATUS (n / 6))) : t.laneActive n = s.laneActive n := by
  have powered : t.lanePowered = s.lanePowered := by unfold State.lanePowered State.railOk; rw [rails]
  have mode : t.laneMode n = s.laneMode n := State.get_of_word (f := LNK_CFG_MODE n) cfg
  have locked : t.bit (PLL_STATUS_LOCKED (lanePll n)) = s.bit (PLL_STATUS_LOCKED (lanePll n)) := State.bit_of_word pll
  have muted : t.bit (PLL_STATUS_MUTED (lanePll n)) = s.bit (PLL_STATUS_MUTED (lanePll n)) := State.bit_of_word pll
  have ref : t.bit (LNK_GROUP_STATUS_REF_OK (n / 6)) = s.bit (LNK_GROUP_STATUS_REF_OK (n / 6)) := State.bit_of_word group
  unfold State.laneActive
  rw [State.lane_of_lnk lnk, powered, mode, locked, muted, ref]

/-! ### Counters of a lane -/

theorem State.get2_put2 (s : State) {lo hi : Fld} (v : Nat) (apart : lo.addr ≠ hi.addr) (hl : lo.lo + lo.width ≤ 32) (hh : hi.lo + hi.width ≤ 32) :
    (s.put2 lo hi v).get2 lo hi = v % 2 ^ (lo.width + hi.width) := by
  have low : (s.put2 lo hi v).get lo = v % 2 ^ lo.width := (State.get_put_ne _ _ _ _ apart).trans (State.get_put_same _ _ _ hl)
  have high : (s.put2 lo hi v).get hi = v / 2 ^ lo.width % 2 ^ hi.width := State.get_put_same _ _ _ hh
  rw [State.get2, low, high, Nat.pow_add, Nat.mod_mul, Nat.mul_comm (2 ^ lo.width)]

theorem State.get2_of_words {s t : State} {lo hi : Fld} (hl : t.word lo.addr = s.word lo.addr) (hh : t.word hi.addr = s.word hi.addr) :
    t.get2 lo hi = s.get2 lo hi := by
  rw [State.get2, State.get2, State.get_of_word hl, State.get_of_word hh]

theorem State.get2_lt (s : State) (lo hi : Fld) : s.get2 lo hi < 2 ^ (lo.width + hi.width) := by
  have low : s.get lo < 2 ^ lo.width := Nat.mod_lt _ (Nat.two_pow_pos _)
  have high : s.get hi + 1 ≤ 2 ^ hi.width := Nat.mod_lt _ (Nat.two_pow_pos _)
  calc s.get lo + s.get hi * 2 ^ lo.width
    _ < 2 ^ lo.width + s.get hi * 2 ^ lo.width := Nat.add_lt_add_right low _
    _ = (s.get hi + 1) * 2 ^ lo.width := by rw [Nat.succ_mul, Nat.add_comm]
    _ ≤ 2 ^ hi.width * 2 ^ lo.width := Nat.mul_le_mul_right _ high
    _ = 2 ^ (lo.width + hi.width) := by rw [Nat.pow_add, Nat.mul_comm]

/-- A saturating counter in two registers takes what is added, up to its largest value. -/
theorem State.satAdd2_get2 (s : State) {lo hi ovf : Fld} (k : Nat) (apart : lo.addr ≠ hi.addr) (hl : lo.lo + lo.width ≤ 32)
    (hh : hi.lo + hi.width ≤ 32) (ol : lo.addr ≠ ovf.addr) (oh : hi.addr ≠ ovf.addr) :
    (s.satAdd2 lo hi ovf k).get2 lo hi = min (s.get2 lo hi + k) (2 ^ (lo.width + hi.width) - 1) := by
  have pos : 0 < 2 ^ (lo.width + hi.width) := Nat.two_pow_pos _
  unfold State.satAdd2
  split
  · next room => rw [s.get2_put2 _ apart hl hh, Nat.mod_eq_of_lt room]; omega
  · next full =>
    have kept := State.get2_of_words (s := s.put2 lo hi (2 ^ (lo.width + hi.width) - 1)) (State.word_put_ne _ ovf 1 _ ol) (State.word_put_ne _ ovf 1 _ oh)
    rw [State.set, kept, s.get2_put2 _ apart hl hh, Nat.mod_eq_of_lt (by omega)]
    omega

theorem State.satAdd2_word_ne (s : State) {lo hi ovf : Fld} (k : Nat) {a : Nat} (hl : a ≠ lo.addr) (hh : a ≠ hi.addr) (ho : a ≠ ovf.addr) :
    (s.satAdd2 lo hi ovf k).word a = s.word a := by
  have both : ∀ v, (s.put2 lo hi v).word a = s.word a := fun v => (State.word_put_ne _ _ _ _ hh).trans (State.word_put_ne _ _ _ _ hl)
  unfold State.satAdd2
  split
  · exact both _
  · exact (State.word_put_ne _ _ _ _ ho).trans (both _)

/-! ### Operations of other blocks -/

/-- Of the registers below the cipher engine's, only those from `lo` to `hi` may read differently in `t` than in `s`. -/
structure Within (lo hi : Nat) (s t : State) : Prop where
  word : ∀ a, a < 0x400C0000 → a < lo ∨ hi ≤ a → t.word a = s.word a

section
variable {lo hi : Nat} {r s t : State}

theorem Within.refl (lo hi : Nat) (s : State) : Within lo hi s s := ⟨fun _ _ _ => rfl⟩

theorem Within.seq (h : Within lo hi r s) (g : Within lo hi s t) : Within lo hi r t :=
  ⟨fun a low out => (g.word a low out).trans (h.word a low out)⟩

/-- A change of other parts than the registers. -/
theorem Within.part (h : Within lo hi r s) (e : t.regs = s.regs) : Within lo hi r t :=
  ⟨fun a low out => by rw [State.word, e]; exact h.word a low out⟩

/-- A change from the cipher engine's registers up. -/
theorem Within.low {b : Nat} (h : Within lo hi r s) (g : Low b s t) (hb : 0x400C0000 ≤ b) : Within lo hi r t :=
  ⟨fun a low out => (g.word a (Nat.lt_of_lt_of_le low hb)).trans (h.word a low out)⟩

theorem Within.put {f : Fld} {v : Nat} (h : Within lo hi r s) (hf : lo ≤ f.addr ∧ f.addr < hi) : Within lo hi r (s.put f v) :=
  ⟨fun a low out => (State.word_put_ne _ _ _ _ (by omega)).trans (h.word a low out)⟩

theorem Within.set {f : Fld} (h : Within lo hi r s) (hf : lo ≤ f.addr ∧ f.addr < hi) : Within lo hi r (s.set f) := h.put hf

theorem Within.event {line : Nat} (h : Within lo hi r s) (hf : lo ≤ (evtFld line).addr ∧ (evtFld line).addr < hi) :
    Within lo hi r (s.event line) := h.put hf

theorem Within.satInc {c o : Fld} (h : Within lo hi r s) (hc : lo ≤ c.addr ∧ c.addr < hi) (ho : lo ≤ o.addr ∧ o.addr < hi) :
    Within lo hi r (s.satInc c o) := by
  unfold State.satInc State.satAdd
  split
  · exact h.put hc
  · exact (h.put hc).set ho

theorem Within.iff {c : Bool} {f : State → State} (h : Within lo hi r s) (hf : ∀ x, Within lo hi r x → Within lo hi r (f x)) :
    Within lo hi r (s.iff c f) := by
  unfold State.iff
  split
  · exact hf s h
  · exact h

end

/-- A report writes registers of the guarantee unit, and the log's count of lost entries, alone. -/
theorem State.report_within (s : State) (n inst detail : Nat) : Within 0x40040000 0x40050000 s (s.report n inst detail) := by
  have pending : 0x40040000 ≤ (pendingFld n).addr ∧ (pendingFld n).addr < 0x40050000 := by
    rcases pendingFld_register n with e | e <;> rw [e] <;> decide
  have degraded : 0x40040000 ≤ (degradedFld n).addr ∧ (degradedFld n).addr < 0x40050000 := by
    rcases degradedFld_register n with e | e <;> rw [e] <;> decide
  have multi : Within 0x40040000 0x40050000 s (s.grdMulti n) := ((Within.refl _ _ s).iff fun _ h => h.event (by decide)).part rfl
  have record : Within 0x40040000 0x40050000 s ((s.grdMulti n).grdRecord n inst) :=
    ((((multi.set (by decide)).put (by decide)).put (by decide)).put (by decide)).iff fun _ h =>
      (((h.set (by decide)).put (by decide)).put (by decide)).put (by decide)
  have count : Within 0x40040000 0x40050000 s (((s.grdMulti n).grdRecord n inst).grdCount n) := by
    unfold State.grdCount
    cases (faultRow n).kind
    case masked => exact (record.satInc (by decide) (by decide)).event (by decide)
    case detected => exact (record.satInc (by decide) (by decide)).event (by decide)
    case condition => exact (record.satInc (by decide) (by decide)).event (by decide)
  have entry : Within 0x40040000 0x40050000 s ((((s.grdMulti n).grdRecord n inst).grdCount n).grdEntry n inst detail) := by
    unfold State.grdEntry
    split_ifs
    · exact count
    · exact count.satInc (by decide) (by decide)
    · exact (count.low (State.blockLog_low ..) (by decide)).part rfl
  unfold State.report
  split
  · exact .refl _ _ s
  · unfold State.grdReact
    refine Within.iff ?_ fun _ h => (h.set degraded).event (by decide)
    split
    · exact (entry.set pending).part rfl
    · exact entry.part rfl

/-- The steering word is shown in registers of the PLLs and of the Fix selector alone. -/
theorem State.setSigma_within (s : State) (v : Int) : Within 0x40050000 0x40080000 s (s.setSigma v) := by
  unfold State.setSigma State.each
  refine List.foldlRecOn (motive := fun x : State => Within 0x40050000 0x40080000 s x) _ _ ((Within.refl _ _ s).put (by decide)) fun x h n mem =>
    h.iff fun _ h => h.put ?_
  have := List.mem_range.mp mem
  show 0x40050000 ≤ PLL_STEER n ∧ PLL_STEER n < 0x40080000
  unfold PLL_STEER
  omega

theorem State.enterDr_within (s : State) : Within 0x40050000 0x40080000 s s.enterDr := by
  unfold State.enterDr
  extract_lets fix unheld reckons
  have h : Within 0x40050000 0x40080000 s unheld := (Within.refl _ _ s).part rfl
  have hr : Within 0x40050000 0x40080000 s reckons := ((h.put (by decide)).put (by decide)).put (by decide)
  exact ((hr.put (by decide)).seq (State.setSigma_within _ _)).put (f := FIX_OFFSET_NS) (by decide)

theorem State.fixSelect_within (s : State) (n : Nat) : Within 0x40050000 0x40080000 s (s.fixSelect n) := by
  have chosen : Within 0x40050000 0x40080000 s (s.fixChosen n) :=
    Within.part ((((Within.refl _ _ s).put (by decide)).put (by decide)).satInc (by decide) (by decide) |>.event (line := 48) (by decide)) rfl
  have approach : Within 0x40050000 0x40080000 s ((s.fixChosen n).fixApproach n) := by
    unfold State.fixApproach
    split
    · extract_lets far step d begun
      have h : Within 0x40050000 0x40080000 s begun := (chosen.put (by decide)).set (by decide)
      have stepped : Within 0x40050000 0x40080000 s ((begun.stepDevice (d / ofsPerNs)).stepOfs (d / ofsPerNs * ofsPerNs)) :=
        h.part rfl
      split
      · exact (stepped.event (line := 51) (by decide)).put (by decide)
      · exact h.put (by decide)
    · exact chosen.put (by decide)
  rw [State.fixSelect_eq]
  exact approach.put (f := FIX_OFFSET_NS) (by decide)

/-- The loss of a source writes registers of the PLLs and of the Fix selector alone. -/
theorem State.sourceInvalid_within (s : State) {n : Nat} (range : 1 ≤ n ∧ n ≤ 4) : Within 0x40050000 0x40080000 s (s.sourceInvalid n) := by
  by_cases valid : s.bit (srcValidFld n) = true
  · have cleared : Within 0x40050000 0x40080000 s (s.sourceCleared n) :=
      ⟨fun a _ out => s.sourceCleared_word n (by unfold FIX_SRC_STATUS; omega)⟩
    rw [State.sourceInvalid_eq range valid]
    split
    · have lost : Within 0x40050000 0x40080000 s (s.sourceLost n) := cleared.event (by decide)
      unfold State.reselect
      split
      · exact lost.seq (State.fixSelect_within _ _)
      · exact (lost.seq (State.enterDr_within _)).event (by decide)
    · exact cleared
  · rw [State.sourceInvalid, if_pos (by simp [valid])]
    exact .refl _ _ s

/-- Ports that follow their lanes write registers of the Bearing link alone. -/
theorem State.portsUpdate_low_brg (s : State) : Low 0x400A0000 s s.portsUpdate := by
  have status : ∀ p, 0x400A0000 ≤ BRG_PORT_STATUS p := fun p => by unfold BRG_PORT_STATUS; omega
  have keying : ∀ (x : State) p, Low 0x400A0000 x (x.portKeying p) := fun x p => by
    unfold State.portKeying
    extract_lets fresh cleared keying seed drawn port seeded
    have h : Low 0x400A0000 x keying := (((Low.refl _ x).putBport p _).put (status p)).put (status p)
    have hs : Low 0x400A0000 x seeded := (h.part ((State.drawnBytes_touches keying 8).regs rfl)).putBport p _
    exact Low.ite h (hs.part ((State.brgToNeighbour_touches ..).regs rfl))
  refine (Low.refl _ s).each fun x p h => Low.seq ?_ (Nat.le_refl _) h
  unfold State.portUpdate
  extract_lets old on lanes new event left
  have follows : Low 0x400A0000 x left := ((Low.refl _ x).event (n := 112) (by decide)).iff fun _ h => h.part rfl
  exact Low.ite (.refl _ x) (Low.ite ((keying left p).seq (Nat.le_refl _) follows) (follows.put (status p)))

@[simp] theorem State.portsUpdate_lnk (s : State) : s.portsUpdate.lnk = s.lnk := (s.portsUpdate_touches).lnk rfl

/-! ### What the end of a command shows of the lanes -/

/-- `t` shows what a command has left in `x` of the lanes, and of the registers below those of the Bearing link. -/
structure ShowsLanes (x t : State) : Prop where
  word : ∀ a, a < 0x400A0000 → a ∉ levelRegs → t.word a = x.word a
  lnk : t.lnk = x.lnk

theorem State.settle_showsLanes (x : State) : ShowsLanes x x.settle where
  word _ _ level := State.settle_word_of_not_level x level
  lnk := State.settle_lnk x

theorem State.refresh_settle_showsLanes (x : State) : ShowsLanes x x.refresh.settle where
  word _ low level := State.refresh_settle_word x (low.trans (by decide)) level
  lnk := (State.settle_lnk _).trans (State.refresh_lnk x)

/-- Ports that follow their lanes leave the lanes as they are. -/
theorem ShowsLanes.ports {x t : State} (h : ShowsLanes x.portsUpdate t) : ShowsLanes x t where
  word a low level := (h.word a low level).trans (x.portsUpdate_low_brg.word a low)
  lnk := h.lnk.trans x.portsUpdate_lnk

/-- A response leaves the lanes as they are. -/
theorem ShowsLanes.complete {x t : State} {m code : Nat} {data : Word} (h : ShowsLanes (x.complete m code data) t) : ShowsLanes x t where
  word := h.word
  lnk := h.lnk

/-- A command that the ports follow and other blocks react to shows its effect. -/
theorem gives_showsPorts {c : Instr} {f : State → State} {s : State} (e : exec c s = actAll (fun s => (f s).portsUpdate) s) :
    Gives c s (ShowsLanes (f (s.withOut []))) := gives_actAll e (State.refresh_settle_showsLanes _).ports

section
variable {x t : State} (h : ShowsLanes x t) {n : Nat} (hn : n < 24)
include h

theorem ShowsLanes.lane (n : Nat) : t.lane n = x.lane n := State.lane_of_lnk h.lnk n

include hn

/-- A register of a lane. -/
theorem ShowsLanes.reg {y : Nat} (hy : 0x40080000 ≤ y ∧ y < 0x40080400) : t.word (y + n * 0x400) = x.word (y + n * 0x400) := by
  refine h.word _ (by omega) ?_
  simp only [levelRegs, GRD_STATUS, SYS_SERVICE, GRD_EVENT, BIN_IRQ_STATUS, List.mem_cons, List.not_mem_nil, or_false, not_or]
  omega

theorem ShowsLanes.get {y lo w : Nat} (hy : 0x40080000 ≤ y ∧ y < 0x40080400) : t.get ⟨y + n * 0x400, lo, w⟩ = x.get ⟨y + n * 0x400, lo, w⟩ :=
  State.get_of_word (h.reg hn hy)

theorem ShowsLanes.bit {y lo w : Nat} (hy : 0x40080000 ≤ y ∧ y < 0x40080400) : t.bit ⟨y + n * 0x400, lo, w⟩ = x.bit ⟨y + n * 0x400, lo, w⟩ :=
  State.bit_of_word (h.reg hn hy)

theorem ShowsLanes.get2 {y lo w y' lo' w' : Nat} (hy : 0x40080000 ≤ y ∧ y < 0x40080400) (hy' : 0x40080000 ≤ y' ∧ y' < 0x40080400) :
    t.get2 ⟨y + n * 0x400, lo, w⟩ ⟨y' + n * 0x400, lo', w'⟩ = x.get2 ⟨y + n * 0x400, lo, w⟩ ⟨y' + n * 0x400, lo', w'⟩ :=
  State.get2_of_words (h.reg hn hy) (h.reg hn hy')

end

end Sys2Proof.Machine

/-!
SUPPORT. A lane that goes down and restarts (R411, R419), and the live writes of a lane's registers.
-/
namespace Sys2Proof.Machine

/-! ### UP and the restart -/

theorem State.setUp_up (s : State) (n : Nat) (up : Bool) : (s.setUp n up).bit (LNK_STATUS_UP n) = up := by
  unfold State.setUp
  split
  · next same => exact beq_iff_eq.mp same
  · exact (State.bit_put_beside _ 1 (by decide)).trans (s.bit_putB_own up (by decide))

/-- A change of UP writes UP and CHANGE alone. -/
theorem State.setUp_get (s : State) {n y lo w : Nat} (up : Bool) (hu : (0x40080008 ≠ y ∨ 3 ≤ lo ∨ lo + w ≤ 2) ∧ lo + w ≤ 32)
    (hc : (0x40080008 ≠ y ∨ 11 ≤ lo ∨ lo + w ≤ 10) ∧ lo + w ≤ 32) :
    (s.setUp n up).get ⟨y + n * 0x400, lo, w⟩ = s.get ⟨y + n * 0x400, lo, w⟩ := by
  unfold State.setUp
  split
  · rfl
  · exact (State.get_put_beside _ 1 hc).trans (s.get_put_beside _ hu)

/-- A lane that is no longer UP and no longer synchronised. -/
def State.laneUnsynced (s : State) (n : Nat) : State := ((s.setUp n false).clr (LNK_STATUS_SYNC n)).clr (LNK_STATUS_FEC_ALIGN n)

/-- A lane that has gone down, before its bring-up state: SIGNAL falls where the lane is idle, and nothing of the stepping is kept. -/
def State.laneFallen (s : State) (n : Nat) : State :=
  let down := (s.laneUnsynced n).iff (!s.laneActive n) (·.clr (LNK_STATUS_SIGNAL n))
  down.putLane n { down.lane n with top := 0, prop := none, inStep := false, failed := false }

/-- A field of the lane beside SYNC and FEC_ALIGN. -/
theorem State.laneUnsynced_get (s : State) {n y lo w : Nat} (h : (0x40080008 ≠ y ∨ 6 ≤ lo ∨ lo + w ≤ 4) ∧ lo + w ≤ 32) :
    (s.laneUnsynced n).get ⟨y + n * 0x400, lo, w⟩ = (s.setUp n false).get ⟨y + n * 0x400, lo, w⟩ :=
  (State.get_put_beside (x := 0x40080008) (lo := 5) (w := 1) _ 0 (by omega)).trans
    (State.get_put_beside (x := 0x40080008) (lo := 4) (w := 1) _ 0 (by omega))

/-- The fall leaves a field beside SIGNAL as it is. -/
theorem State.laneFallen_unsynced (s : State) {n y lo w : Nat} (h : (0x40080008 ≠ y ∨ 4 ≤ lo ∨ lo + w ≤ 3) ∧ lo + w ≤ 32) :
    (s.laneFallen n).get ⟨y + n * 0x400, lo, w⟩ = (s.laneUnsynced n).get ⟨y + n * 0x400, lo, w⟩ := by
  show ((s.laneUnsynced n).iff (!s.laneActive n) (·.clr (LNK_STATUS_SIGNAL n))).get _ = _
  unfold State.iff
  split
  · exact State.get_put_beside (x := 0x40080008) (lo := 3) (w := 1) _ 0 (by omega)
  · rfl

/-- The fall leaves every field of the lane but those of LNK_STATUS that tell of its state. -/
theorem State.laneFallen_get (s : State) {n y lo w : Nat} (h : (0x40080008 ≠ y ∨ (6 ≤ lo ∧ lo + w ≤ 10)) ∧ lo + w ≤ 32) :
    (s.laneFallen n).get ⟨y + n * 0x400, lo, w⟩ = s.get ⟨y + n * 0x400, lo, w⟩ :=
  (s.laneFallen_unsynced (by omega)).trans <| (s.laneUnsynced_get (by omega)).trans (s.setUp_get false (by omega) (by omega))

theorem State.laneFallen_up (s : State) (n : Nat) : (s.laneFallen n).bit (LNK_STATUS_UP n) = false :=
  congrArg (· != 0) ((s.laneFallen_unsynced (by decide)).trans (s.laneUnsynced_get (by decide))) |>.trans (s.setUp_up n false)

/-- A lane without signal has none after the fall. -/
theorem State.laneFallen_signal {s : State} {n : Nat} (none : s.bit (LNK_STATUS_SIGNAL n) = false) :
    (s.laneFallen n).bit (LNK_STATUS_SIGNAL n) = false := by
  show ((s.laneUnsynced n).iff (!s.laneActive n) (·.clr (LNK_STATUS_SIGNAL n))).bit (LNK_STATUS_SIGNAL n) = false
  unfold State.iff
  split
  · exact State.bit_clr_own _ (by decide)
  · exact congrArg (· != 0) ((s.laneUnsynced_get (by decide)).trans (s.setUp_get false (by decide) (by decide))) |>.trans none

/-- A restart writes LNK_BRG_STATE beside what the lane's fall leaves. -/
theorem State.laneRestart_get (s : State) {n y lo w : Nat} (wait : Bool) (h : y ≠ 0x4008000C) :
    (s.laneRestart n wait).get ⟨y + n * 0x400, lo, w⟩ = (s.laneFallen n).get ⟨y + n * 0x400, lo, w⟩ := by
  have put : ∀ (x : State) (f : Fld) (v : Nat), f.addr = LNK_BRG_STATE n →
      (x.put f v).get ⟨y + n * 0x400, lo, w⟩ = x.get ⟨y + n * 0x400, lo, w⟩ := fun x f v hf =>
    State.get_put_ne _ _ _ _ (by rw [hf]; exact laneReg_ne h)
  show State.get (if s.laneActive n && (s.laneFallen n).laneMode n == 4 then _ else _) _ = _
  split
  · exact (put _ _ _ rfl).trans <| (put _ _ _ rfl).trans <| (put _ _ _ rfl).trans <| (put _ _ _ rfl).trans <| put _ _ _ rfl
  · exact State.get_putWord_ne _ _ _ _ (laneReg_ne h)

theorem State.laneRestart_bit (s : State) {n y lo w : Nat} (wait : Bool) (h : y ≠ 0x4008000C) :
    (s.laneRestart n wait).bit ⟨y + n * 0x400, lo, w⟩ = (s.laneFallen n).bit ⟨y + n * 0x400, lo, w⟩ :=
  congrArg (· != 0) (s.laneRestart_get wait h)

theorem State.laneRestart_up (s : State) (n : Nat) (wait : Bool) : (s.laneRestart n wait).bit (LNK_STATUS_UP n) = false :=
  (s.laneRestart_bit wait (by decide)).trans (s.laneFallen_up n)

/-- A Bearing lane that restarts waits for its signal, or stands at training at once. -/
theorem State.laneRestart_state {s : State} {n : Nat} (wait : Bool) (active : s.laneActive n = true) (bearing : s.laneMode n = 4) :
    (s.laneRestart n wait).get (LNK_BRG_STATE_STATE n) = if wait then 4 else 1 := by
  have mode : (s.laneFallen n).laneMode n = 4 := (s.laneFallen_get (by decide)).trans bearing
  show State.get (if s.laneActive n && (s.laneFallen n).laneMode n == 4 then _ else _) _ = _
  rw [if_pos (by rw [active, mode]; rfl)]
  refine (State.get_put_beside _ _ (by decide)).trans <| (State.get_put_beside _ _ (by decide)).trans <|
    (State.get_put_beside _ _ (by decide)).trans <| (State.get_put_beside _ _ (by decide)).trans <|
    (State.get_put_own _ _ (by decide)).trans ?_
  cases wait <;> rfl

/-! ### A live write of a lane's register -/

theorem laneBlock_range {a : Nat} (h : blockOf a = some 8) : 0x40080000 ≤ a ∧ a < 0x400A0000 := by
  unfold blockOf at h
  split_ifs at h <;> simp only [Option.some.injEq, reduceCtorEq] at h <;> omega

theorem laneBlock_of_range {a : Nat} (h : 0x40080000 ≤ a ∧ a < 0x400A0000) : blockOf a = some 8 := by
  unfold blockOf
  rw [if_neg (by omega), if_neg (by omega), if_neg (by omega), if_neg (by omega), if_neg (by omega), if_pos h.2]

section
variable {a : Nat} (lane : blockOf a = some 8) (s : State)
include lane

theorem laneBlock_coefAt : coefAt a = none := by
  have := laneBlock_range lane
  exact if_neg (by omega)

theorem State.writeView_lane : s.writeView a = s.word a := by
  simp only [State.writeView, laneBlock_coefAt lane]

theorem State.writeDropped_lane (closed next : Word) : s.writeDropped a closed next = none := by
  have range := laneBlock_range lane
  unfold State.writeDropped
  rw [if_neg (by unfold HRV_THRESH; omega)]
  simp only [lane]

/-- A store of a lane's register puts what `stored` says and starts what the register starts. -/
theorem State.store_lane (r : RegRow) (v : Word) : s.store r a 0xFFFFFFFF#32 0 v =
    (s.putWord a (s.stored r a 0xFFFFFFFF#32 0 v)).lnkWritten a v (s.word a) := by
  have held : heldWo a = false := by
    have range := laneBlock_range lane
    have ptp : a ≠ FIX_PTP_OFS := by unfold FIX_PTP_OFS; omega
    have fuse : ¬a < CFG_FUSE_DATA 8 := by unfold CFG_FUSE_DATA; omega
    simp only [heldWo, Bool.or_eq_false_iff, Bool.and_eq_false_iff, beq_eq_false_iff_ne, decide_eq_false_iff_not]
    exact ⟨⟨ptp, .inr fuse⟩, by omega⟩
  have all : (0xFFFFFFFF#32 : Word) ≠ 0 := by decide
  have none : ∀ y : Word, y ||| 0 = y := fun _ => BitVec.or_zero
  simp only [State.store, if_neg all, held, Bool.false_eq_true, if_false, none, s.writeView_lane lane, laneBlock_coefAt lane, State.stored,
    State.written, lane, and_all]

/-- A whole write of a lane's register none of whose bits is closed. -/
theorem State.regWrite_lane {acc : Acc} {r : RegRow} (v : Word) (h : s.commandOk acc a = true) (row : rowOf a = some r)
    (written : r.written = true) (aligned : a % 4 = 0) (closed : s.closedBits r a = 0) : s.regWrite acc a v =
      ((s.putWord a (s.stored r a 0xFFFFFFFF#32 0 v)).lnkWritten a v (s.word a)).complete acc.master.val 0 0 := by
  have small : a < 2 ^ 32 := by have := laneBlock_range lane; omega
  obtain ⟨may, whole⟩ := State.mayStore_of_commandOk h row written aligned small
  have hhit : strobed acc.strobe &&& s.closedBits r a &&& (v ^^^ s.writeView a) = 0 := by
    rw [closed]
    exact (congrArg (· &&& _) BitVec.and_zero).trans BitVec.zero_and
  rw [State.regWrite_of_mayStore may, State.liveWrite_stores s _ _ hhit (s.writeDropped_lane lane), closed, whole, strobed_all,
    s.store_lane lane]

/-- The command of such a write completes DONE and shows what the write stores and starts. -/
theorem gives_laneWrite {c : Instr} {acc : Acc} {r : RegRow} {v : Word} (e : exec c s = actAll (·.regWrite acc a v) s)
    (h : s.commandOk acc a = true) (row : rowOf a = some r) (written : r.written = true) (aligned : a % 4 = 0)
    (closed : s.closedBits r a = 0) : Gives c s fun t => t.busCode acc.master.val = 0 ∧
      ShowsLanes (((s.withOut []).putWord a (s.stored r a 0xFFFFFFFF#32 0 v)).lnkWritten a v (s.word a)) t := by
  refine gives_actAll e ?_
  rw [(s.withOut []).regWrite_lane lane v h row written aligned closed]
  refine ⟨?_, (State.refresh_settle_showsLanes _).complete⟩
  rw [State.settle_busCode, State.refresh_busCode, State.busCode_complete _ _ (by decide)]

/-- Beside the limits of the register's own fields, MODE of a spread group alone is limited. -/
theorem State.storable_lane (touched w : Word) : s.storable a touched w = s.lnkLimited a (limited a touched w) := by
  have range := laneBlock_range lane
  have div8 : PLL_DIV 8 = 0x40050808 := rfl
  have div9 : PLL_DIV 9 = 0x40050908 := rfl
  have div10 : PLL_DIV 10 = 0x40050A08 := rfl
  have pins : blockOf a ≠ some 16 := by rw [lane]; decide
  unfold State.storable fieldStored
  dsimp only
  rw [if_neg (by unfold HRV_THRESH; omega), if_neg pins, if_neg (by omega), if_neg (by omega)]

end

/-- The limits that name one register each lie outside the lanes. -/
theorem limitsOne_not_lane {x : Fld × Limit} (h : x ∈ limitsOne) : x.1.addr < 0x40080000 ∨ 0x400A0000 ≤ x.1.addr := by
  revert x
  decide

/-- The limits of a lane's register are those of LNK_CFG, where it is that. -/
theorem limitsOf_lane {y n : Nat} (hy : 0x40080000 ≤ y ∧ y < 0x40080400) (hn : n < 24) : limitsOf (y + n * 0x400) =
    if y = 0x40080000 then [(LNK_CFG_MODE n, .above 6 0), (LNK_CFG_TEST_RATE n, .above 5 0), (LNK_CFG_LOOPBACK n, .swap 3 0)] else [] := by
  have one : limitsOne.filter (fun x => x.1.addr == y + n * 0x400) = [] := List.filter_eq_nil_iff.mpr fun x mem at_ => by
    have outside := limitsOne_not_lane mem
    rw [beq_iff_eq.mp at_] at outside
    omega
  have many : limitsMany (y + n * 0x400) =
      [(LNK_CFG_MODE n, .above 6 0), (LNK_CFG_TEST_RATE n, .above 5 0), (LNK_CFG_LOOPBACK n, .swap 3 0)] := by
    have index : (y + n * 0x400 - 0x40080000) / 0x400 = n := by omega
    unfold limitsMany
    extract_lets _ l
    have own : l = n := index
    rw [if_neg (by omega), if_pos (by omega), own]
  have at_ : (LNK_CFG n == y + n * 0x400) = decide (y = 0x40080000) := by
    rw [Bool.eq_iff_iff, beq_iff_eq, decide_eq_true_eq]
    unfold LNK_CFG
    omega
  rw [limitsOf, List.filter_append, one, many, List.nil_append]
  have mode : ((LNK_CFG_MODE n).addr == y + n * 0x400) = decide (y = 0x40080000) := at_
  have rate : ((LNK_CFG_TEST_RATE n).addr == y + n * 0x400) = decide (y = 0x40080000) := at_
  have loop : ((LNK_CFG_LOOPBACK n).addr == y + n * 0x400) = decide (y = 0x40080000) := at_
  simp only [List.filter_cons, mode, rate, loop, List.filter_nil, decide_eq_true_eq]
  split <;> rfl

end Sys2Proof.Machine

/-!
SUPPORT. The write of LNK_CFG: the mode that it stores, and the lane's restart in it (R390, R419).
-/
namespace Sys2Proof.Machine

/-- The row of LNK_CFG. -/
def lnkCfgRow : RegRow := ⟨0x40080000, [(0x400, 24)], 0x0, 0x0, 0x0, 0x0, 0x7FF, 0x7FF, .set 0x3FFF⟩

theorem rowOf_LNK_CFG (n : Fin 24) : rowOf (LNK_CFG n) = some lnkCfgRow := by
  revert n
  decide

theorem laneBlock {y n : Nat} (hy : 0x40080000 ≤ y ∧ y < 0x40080400) (hn : n < 24) : blockOf (y + n * 0x400) = some 8 :=
  laneBlock_of_range (by omega)

theorem exec_lnkCfgWrite (acc : Acc) (n : Fin 24) (v : Word) (s : State) :
    exec (.lnkCfgWrite acc n v) s = actAll (·.regWrite acc (LNK_CFG n) v) s := rfl

/-- Limits on fields beside leave a field as it is. -/
theorem bitsOf_limit_beside (w : Word) {lo width v lo' width' : Nat} (c : Bool) (h : lo' + width' ≤ 32)
    (hd : lo + width ≤ lo' ∨ lo' + width' ≤ lo) : bitsOf (if c then setBits w lo width v else w) lo' width' = bitsOf w lo' width' := by
  split
  · exact bitsOf_setBits_disjoint _ _ _ _ _ _ h hd
  · rfl

/-- The limits of LNK_CFG leave a MODE below 6 as it is. -/
theorem limited_LNK_CFG_mode {n : Nat} (hn : n < 24) (touched w : Word) (legal : bitsOf w 0 3 < 6) :
    bitsOf (limited (LNK_CFG n) touched w) 0 3 = bitsOf w 0 3 := by
  have limits : limitsOf (LNK_CFG n) = _ := limitsOf_lane (y := 0x40080000) (by decide) hn
  rw [if_pos rfl] at limits
  rw [limited, limits]
  refine (bitsOf_limit_beside (lo := 6) (width := 2) _ _ (by decide) (by decide)).trans <|
    (bitsOf_limit_beside (lo := 8) (width := 3) _ _ (by decide) (by decide)).trans ?_
  show bitsOf (if touches (LNK_CFG_MODE n) touched then setBits w 0 3 (Limit.apply (.above 6 0) (bitsOf w 0 3)) else w) 0 3 = _
  have kept : Limit.apply (.above 6 0) (bitsOf w 0 3) = bitsOf w 0 3 := if_neg (by omega)
  split
  · rw [bitsOf_setBits_same _ _ _ _ (by decide), kept, Nat.mod_eq_of_lt (by omega)]
  · rfl

/-- A legal MODE is stored as written, an Ethernet mode where the group's reference is not spread (R390, Table LNK-2). -/
theorem State.stored_LNK_CFG_mode (s : State) (n : Fin 24) (v : Word) (legal : v.toNat % 8 ≤ 5)
    (free : 1 ≤ v.toNat % 8 → v.toNat % 8 ≤ 3 → s.bit (LNK_GROUP_CFG_SPREAD (n / 6)) = false) :
    bitsOf (s.stored lnkCfgRow (LNK_CFG n) 0xFFFFFFFF#32 0 v) 0 3 = v.toNat % 8 := by
  have fields : lnkCfgRow.rw ||| lnkCfgRow.rwi &&& ~~~(0 : Word) = 0x7FF#32 := by decide
  have mask : ∀ i, i < 3 → (0x7FF#32 : Word).getLsbD (0 + i) = true := by decide
  have all : (0xFFFFFFFF#32 : Word) &&& 0x7FF#32 = 0x7FF#32 := by decide
  have clears : ∀ x : Word, x &&& ~~~(v &&& 0xFFFFFFFF#32 &&& lnkCfgRow.w1c) = x := fun x => by
    rw [show lnkCfgRow.w1c = 0 from rfl]; simp [and_all]
  have written : bitsOf v 0 3 = v.toNat % 8 := congrArg (· % 8) (Nat.div_one v.toNat)
  have taken : bitsOf (mergeBits (s.word (LNK_CFG n)) v 0x7FF#32) 0 3 = v.toNat % 8 := (bitsOf_mergeBits mask).trans written
  have limits : bitsOf (limited (LNK_CFG n) 0x7FF#32 (mergeBits (s.word (LNK_CFG n)) v 0x7FF#32)) 0 3 = v.toNat % 8 :=
    (limited_LNK_CFG_mode n.isLt _ _ (by omega)).trans taken
  have index : (LNK_CFG n - 0x40080000) / 0x400 = n := by unfold LNK_CFG; omega
  have unbarred : ∀ w : Word, bitsOf w 0 3 = v.toNat % 8 → s.lnkLimited (LNK_CFG n) w = w := fun w mode => by
    refine if_neg fun ⟨_, _, _, lower, upper, spread⟩ => ?_
    rw [mode] at lower upper
    rw [index, free lower upper] at spread
    exact Bool.false_ne_true spread
  unfold State.stored
  dsimp only
  rw [fields, all, clears, s.storable_lane (a := LNK_CFG n) (laneBlock (by decide) n.isLt), unbarred _ limits, bitsOf_mergeBits mask, limits]

/-- The frame that a change of LNK_CFG may cut is counted (R419). -/
def State.rxCut (s : State) (n : Nat) (old : Word) : State :=
  s.iff (s.bit (LNK_STATUS_UP n) && 1 ≤ bitsOf old 0 3 && bitsOf old 0 3 ≤ 3) fun s =>
    s.drawn.iff (s.draw % 2 == 1) (·.satInc (LNK_RX_DROPS_COUNT n) (LNK_RX_DROPS_OVF n))

theorem State.rxCut_word (s : State) {n a : Nat} (old : Word) (h : a ≠ LNK_RX_DROPS n) : (s.rxCut n old).word a = s.word a := by
  unfold State.rxCut State.iff
  dsimp only
  split_ifs
  · exact State.satInc_word_ne (cnt := LNK_RX_DROPS_COUNT n) (ovf := LNK_RX_DROPS_OVF n) _ h h
  · rfl
  · rfl

/-- What the write of LNK_CFG starts. -/
theorem State.lnkWritten_LNK_CFG (s : State) (n : Fin 24) (w old : Word) : s.lnkWritten (LNK_CFG n) w old =
    if s.word (LNK_CFG n) = old then s else (((s.rxCut n old).laneRestart n false)).portsUpdate := by
  have index : (LNK_CFG n - 0x40080000) / 0x400 = n := by unfold LNK_CFG; omega
  unfold State.lnkWritten
  rw [index, if_neg (by omega)]
  exact if_pos rfl

/-- A live write of LNK_CFG restarts the lane in the mode written (R419). -/
theorem gives_lnkCfgWrite {s : State} {acc : Acc} {n : Fin 24} {v : Word} (h : s.commandOk acc (LNK_CFG n) = true)
    (opened : s.opened (LNK_CFG n) = true) (legal : v.toNat % 8 ≤ 5)
    (free : 1 ≤ v.toNat % 8 → v.toNat % 8 ≤ 3 → s.bit (LNK_GROUP_CFG_SPREAD (n / 6)) = false) :
    Gives (.lnkCfgWrite acc n v) s fun t => t.laneMode n = v.toNat % 8 ∧ t.busCode acc.master.val = 0 ∧
      (t.word (LNK_CFG n) ≠ s.word (LNK_CFG n) → t.bit (LNK_STATUS_UP n) = false) := by
  have row := rowOf_LNK_CFG n
  have closed : s.closedBits lnkCfgRow (LNK_CFG n) = 0 := by
    rw [State.opened, row] at opened
    exact beq_iff_eq.mp opened
  have lane : blockOf (LNK_CFG n) = some 8 := laneBlock (by decide) n.isLt
  refine (gives_laneWrite lane s (exec_lnkCfgWrite acc n v s) h row rfl (by unfold LNK_CFG; omega) closed).imp fun t ⟨code, shows⟩ => ?_
  let x := (s.withOut []).putWord (LNK_CFG n) (s.stored lnkCfgRow (LNK_CFG n) 0xFFFFFFFF#32 0 v)
  have stored : x.laneMode n = v.toNat % 8 :=
    (congrArg (fun w => bitsOf w 0 3) (State.word_putWord_same ..)).trans (s.stored_LNK_CFG_mode n v legal free)
  have shows' : ShowsLanes (x.lnkWritten (LNK_CFG n) v (s.word (LNK_CFG n))) t := shows
  rw [State.lnkWritten_LNK_CFG] at shows'
  split at shows'
  · next same =>
    exact ⟨(shows'.get n.isLt (by decide)).trans stored, code, fun changed => absurd ((shows'.reg n.isLt (by decide)).trans same) changed⟩
  · have restarted := shows'.ports
    have mode : t.laneMode n = (x.rxCut n (s.word (LNK_CFG n))).laneMode n :=
      (restarted.get n.isLt (by decide)).trans <| (State.laneRestart_get _ false (by decide)).trans (State.laneFallen_get _ (by decide))
    have kept : (x.rxCut n (s.word (LNK_CFG n))).laneMode n = x.laneMode n := State.get_of_word (x.rxCut_word _ (laneReg_ne (by decide)))
    exact ⟨mode.trans (kept.trans stored), code, fun _ => (restarted.bit n.isLt (by decide)).trans (State.laneRestart_up ..)⟩

end Sys2Proof.Machine

/-!
SUPPORT. Frames of an Ethernet lane (R399 to R403), the pop of a transmit timestamp (R404) and synchronisation (R395).
-/
namespace Sys2Proof.Machine

/-- What holds of the state that a command's effect is shown to be, once the levels are up to date, holds of the command. -/
theorem gives_act_of {c : Instr} {f : State → State} {s x : State} {P : State → Prop} (e : exec c s = act f s) (ran : f (s.withOut []) = x)
    (h : P x.settle) : Gives c s P := gives_act e (by rw [ran]; exact h)

/-! ### Ports and counters -/

/-- A unit enters the buffer of its port behind what waits there. -/
theorem State.streamPush_buf (s : State) {p : Nat} (h : p < 85) (beats : List Beat) :
    ((s.streamPush p beats).strm p).buf = (s.strm p).buf ++ beats := by
  simp [State.streamPush, State.putStrm, State.strm, h]

theorem State.strm_of_str {s t : State} (h : t.str = s.str) (p : Nat) : t.strm p = s.strm p := congrArg (fun v => v[p]?.getD StreamPort.idle) h

theorem State.modInc2_get2 (s : State) {lo hi : Fld} (apart : lo.addr ≠ hi.addr) (hl : lo.lo + lo.width ≤ 32) (hh : hi.lo + hi.width ≤ 32) :
    (s.modInc2 lo hi).get2 lo hi = (s.get2 lo hi + 1) % 2 ^ (lo.width + hi.width) := s.get2_put2 _ apart hl hh

/-- A counter of a lane, with its overflow flag above it, takes one more. -/
theorem State.satInc_get_own (s : State) {n x lo w lo' : Nat} (fits : lo + w ≤ lo') (top : lo' ≤ 32) :
    (s.satInc ⟨x + n * 0x400, lo, w⟩ ⟨x + n * 0x400, lo', 1⟩).get ⟨x + n * 0x400, lo, w⟩ =
      min (s.get ⟨x + n * 0x400, lo, w⟩ + 1) (2 ^ w - 1) :=
  s.satAdd_get 1 (fits.trans top) (by simp only [Fld.disjoint, Bool.or_eq_true, decide_eq_true_eq]; exact .inr fits)

/-! ### Received frames -/

/-- The receive timestamp that a frame takes (R401, R402). -/
def State.rxStamp (s : State) (n : Nat) : Nat × Nat × Nat := s.wireStamp (signed 16 (s.get (LNK_TS_ADJ_RX_ADJ n))) (s.stampBound n)

/-- A frame has entered the lane's port in beats, behind its timestamp. -/
def State.ethEntered (s : State) (n : Nat) (frame : List Byte) : State :=
  s.drawn.streamPush (ethRxPort n) (unitBeats (ethUser (s.rxStamp n).1 (s.rxStamp n).2.1 (s.rxStamp n).2.2) ((frame.length + 7) % 8)
    (dataWords 8 frame.length frame))

/-- A frame has been released and counted. -/
def State.ethReleased (s : State) (n : Nat) (frame : List Byte) : State :=
  ((s.ethEntered n frame).modInc2 (LNK_RX_FRAMES_LO_COUNT n) (LNK_RX_FRAMES_HI_COUNT n)).emit
    (.ethUnit n frame.length (s.rxStamp n).1 (s.rxStamp n).2.1 (s.rxStamp n).2.2)

theorem State.ethReleased_buf (s : State) {n : Nat} (hn : n < 24) (frame : List Byte) :
    ((s.ethReleased n frame).strm (ethRxPort n)).buf = (s.strm (ethRxPort n)).buf ++
      unitBeats (ethUser (s.rxStamp n).1 (s.rxStamp n).2.1 (s.rxStamp n).2.2) ((frame.length + 7) % 8) (dataWords 8 frame.length frame) := by
  have counted : (s.ethReleased n frame).str = (s.ethEntered n frame).str := (State.emit_str ..).trans ((State.modInc2_touches ..).str rfl)
  rw [State.strm_of_str counted]
  exact s.drawn.streamPush_buf (by unfold ethRxPort; omega) _

theorem State.ethReleased_out (s : State) (n : Nat) (frame : List Byte) :
    (s.ethReleased n frame).out = s.out ++ [.ethUnit n frame.length (s.rxStamp n).1 (s.rxStamp n).2.1 (s.rxStamp n).2.2] :=
  congrArg (· ++ _) (((State.modInc2_touches ..).out rfl).trans ((State.streamPush_touches ..).out rfl))

theorem State.ethReleased_frames (s : State) (n : Nat) (frame : List Byte) :
    (s.ethReleased n frame).get2 (LNK_RX_FRAMES_LO_COUNT n) (LNK_RX_FRAMES_HI_COUNT n) =
      (s.get2 (LNK_RX_FRAMES_LO_COUNT n) (LNK_RX_FRAMES_HI_COUNT n) + 1) %
        2 ^ ((LNK_RX_FRAMES_LO_COUNT n).width + (LNK_RX_FRAMES_HI_COUNT n).width) := by
  have entered (a : Nat) : (s.ethEntered n frame).word a = s.word a := congrArg (cellRead · a) ((State.streamPush_touches ..).regs rfl)
  have counted := (s.ethEntered n frame).modInc2_get2 (lo := LNK_RX_FRAMES_LO_COUNT n) (hi := LNK_RX_FRAMES_HI_COUNT n)
    (laneReg_ne (by decide)) (show 0 + 32 ≤ 32 by decide) (show 0 + 16 ≤ 32 by decide)
  rw [State.get2_of_words (entered _) (entered _)] at counted
  exact (State.get2_of_words (State.emit_word ..) (State.emit_word ..)).trans counted

theorem exec_ethRxFrame (s : State) (n : Fin 24) (frame : List Byte) (code room : Bool) (fc fu : Nat) :
    exec (.ethRxFrame n frame code fc fu room) s = act (fun s => s.ethRx n frame code fc fu (room && s.laneLive n)) s := rfl

section
variable {s : State} {n : Fin 24} (active : s.laneActive n = true) (eth : s.ethMode n = true)

section
variable (up : s.bit (LNK_STATUS_UP n) = true) (noFec : s.bit (LNK_CFG_FEC_EN n) = false)
include active eth up noFec

/-- A frame that comes in, without FEC: withheld, or released. -/
theorem State.ethRx_eq (frame : List Byte) (code room : Bool) :
    s.ethRx n frame code 0 0 room =
      if code || decide (ethMax < frame.length) || !(room && s.streamRoom (ethRxPort n) (beatCount 8 frame.length)) then
        s.satInc (LNK_RX_DROPS_COUNT n) (LNK_RX_DROPS_OVF n)
      else s.ethReleased n frame := by
  simp only [State.ethRx, active, eth, up, noFec, Bool.and_self, Bool.not_true, Bool.and_false, Bool.false_and, Bool.false_eq_true, if_false,
    State.iff_false, Bool.or_false]
  rfl

/-- A good frame that finds room is released with its timestamp. -/
theorem gives_ethRxFrame_released {frame : List Byte} (live : s.laneLive n = true) (short : frame.length ≤ ethMax)
    (room : s.streamRoom (ethRxPort n) (beatCount 8 frame.length) = true) :
    Gives (.ethRxFrame n frame false 0 0 true) s fun t => (∃ x y z, t.out = [.ethUnit n frame.length x y z] ∧
        (t.strm (ethRxPort n)).buf = (s.strm (ethRxPort n)).buf ++
          unitBeats (ethUser x y z) ((frame.length + 7) % 8) (dataWords 8 frame.length frame)) ∧
      t.get2 (LNK_RX_FRAMES_LO_COUNT n) (LNK_RX_FRAMES_HI_COUNT n) =
        (s.get2 (LNK_RX_FRAMES_LO_COUNT n) (LNK_RX_FRAMES_HI_COUNT n) + 1) %
          2 ^ ((LNK_RX_FRAMES_LO_COUNT n).width + (LNK_RX_FRAMES_HI_COUNT n).width) := by
  have ran : (s.withOut []).ethRx n frame false 0 0 (true && s.laneLive n) = (s.withOut []).ethReleased n frame := by
    refine (State.ethRx_eq (s := s.withOut []) active eth up noFec _ _ _).trans (if_neg ?_)
    have room' : (s.withOut []).streamRoom (ethRxPort n) (beatCount 8 frame.length) = true := room
    simp only [live, room', Nat.not_lt.mpr short, decide_false, Bool.and_self, Bool.not_true, Bool.or_self, Bool.false_eq_true, not_false_eq_true]
  refine gives_act_of (exec_ethRxFrame ..) ran ⟨⟨_, _, _, (State.settle_out _).trans (State.ethReleased_out ..), ?_⟩, ?_⟩
  · rw [State.strm_of_str (State.settle_str _)]
    exact State.ethReleased_buf _ n.isLt _
  · exact ((State.settle_showsLanes _).get2 n.isLt (by decide) (by decide)).trans (State.ethReleased_frames ..)

/-- Any other frame is withheld and counted. -/
theorem gives_ethRxFrame_withheld {frame : List Byte} {code room : Bool} (bad : code = true ∨ ethMax < frame.length ∨ room = false ∨
      s.streamRoom (ethRxPort n) (beatCount 8 frame.length) = false) :
    Gives (.ethRxFrame n frame code 0 0 room) s fun t => t.out = [] ∧ t.str = s.str ∧
      t.get (LNK_RX_DROPS_COUNT n) = min (s.get (LNK_RX_DROPS_COUNT n) + 1) (2 ^ (LNK_RX_DROPS_COUNT n).width - 1) := by
  have ran : (s.withOut []).ethRx n frame code 0 0 (room && s.laneLive n) =
      (s.withOut []).satInc (LNK_RX_DROPS_COUNT n) (LNK_RX_DROPS_OVF n) := by
    refine (State.ethRx_eq (s := s.withOut []) active eth up noFec _ _ _).trans (if_pos ?_)
    rcases bad with h | h | h | h
    · rw [h]; rfl
    · rw [decide_eq_true h, Bool.or_true]; rfl
    · rw [h]; exact Bool.or_true _
    · have full : (s.withOut []).streamRoom (ethRxPort n) (beatCount 8 frame.length) = false := h
      rw [full, Bool.and_false]; exact Bool.or_true _
  have touched := State.satInc_touches (s.withOut []) (LNK_RX_DROPS_COUNT n) (LNK_RX_DROPS_OVF n)
  refine gives_act_of (exec_ethRxFrame ..) ran ⟨(State.settle_out _).trans (touched.out rfl), (State.settle_str _).trans (touched.str rfl), ?_⟩
  exact ((State.settle_showsLanes _).get n.isLt (by decide)).trans (State.satInc_get_own _ (by decide) (by decide))

end

/-! ### Frames sent -/

theorem exec_ethTxSubmit (s : State) (n : Fin 24) (frame : List Byte) (tag : Byte) (ts : Bool) :
    exec (.ethTxSubmit n frame tag ts) s = act (fun s => s.iff (s.laneLive n) (·.ethSubmit n frame tag.toNat ts)) s := rfl

theorem exec_ethTxStart (s : State) (n : Fin 24) : exec (.ethTxStart n) s = act (·.ethTxStart n) s := rfl

/-- The transmit timestamp that a frame leaves. -/
def State.txStamp (s : State) (n : Nat) : Nat × Nat × Nat := s.wireStamp (signed 16 (s.get (LNK_TS_ADJ_TX_ADJ n))) (s.stampBound n)

/-- The frame that is sent has left the buffer and is counted. -/
def State.ethLeft (s : State) (n : Nat) (frame : List Byte) (tag : Nat) (rest : List (List Byte × Nat × Bool)) : State :=
  ((s.putLane n { s.lane n with txq := rest }).modInc2 (LNK_TX_FRAMES_LO_COUNT n) (LNK_TX_FRAMES_HI_COUNT n)).emit (.ethSent n frame tag)

theorem State.ethLeft_lane (s : State) (n : Fin 24) (frame : List Byte) (tag : Nat) (rest : List (List Byte × Nat × Bool)) :
    (s.ethLeft n frame tag rest).lane n = { s.lane n with txq := rest } :=
  (State.lane_of_lnk ((State.emit_lnk ..).trans ((State.modInc2_touches ..).lnk rfl)) n).trans (s.putLane_lane n _)

theorem State.ethLeft_out (s : State) (n : Nat) (frame : List Byte) (tag : Nat) (rest : List (List Byte × Nat × Bool)) :
    (s.ethLeft n frame tag rest).out = s.out ++ [.ethSent n frame tag] := congrArg (· ++ _) ((State.modInc2_touches ..).out rfl)

/-- A timestamp enters a FIFO that has room. -/
theorem State.txtsPush_room (s : State) {n : Fin 24} (tag : Nat) (e : Nat × Nat × Nat) (room : (s.lane n).fifo.length < 16) :
    s.txtsPush n tag e = (s.putLane n { s.lane n with fifo := (s.lane n).fifo ++ [(tag, e)] }).set (LNK_STATUS_TXTS n) := if_pos room

/-- A timestamp leaves the transmit buffer as it is. -/
theorem State.txtsPush_txq (s : State) (n : Fin 24) (tag : Nat) (e : Nat × Nat × Nat) : ((s.txtsPush n tag e).lane n).txq = (s.lane n).txq := by
  by_cases room : (s.lane n).fifo.length < 16
  · rw [s.txtsPush_room tag e room, State.lane_of_lnk (State.set_lnk ..), State.putLane_lane]
  · have lost : s.txtsPush n tag e = s.satInc (LNK_TXTS_LOST_COUNT n) (LNK_TXTS_LOST_OVF n) := if_neg room
    rw [lost, State.lane_of_lnk ((State.satInc_touches ..).lnk rfl)]

/-- The frame that is sent leaves a timestamp. -/
def State.ethStamped (s : State) (n : Nat) (frame : List Byte) (tag : Nat) (rest : List (List Byte × Nat × Bool)) : State :=
  (s.ethLeft n frame tag rest).drawn.txtsPush n tag ((s.ethLeft n frame tag rest).txStamp n)

theorem State.ethStamped_out (s : State) (n : Nat) (frame : List Byte) (tag : Nat) (rest : List (List Byte × Nat × Bool)) :
    (s.ethStamped n frame tag rest).out = s.out ++ [.ethSent n frame tag] :=
  ((State.txtsPush_touches ..).out rfl).trans (s.ethLeft_out n frame tag rest)

theorem State.ethStamped_txq (s : State) (n : Fin 24) (frame : List Byte) (tag : Nat) (rest : List (List Byte × Nat × Bool)) :
    ((s.ethStamped n frame tag rest).lane n).txq = rest := by
  rw [State.ethStamped, State.txtsPush_txq, State.lane_of_lnk (State.drawn_lnk _), s.ethLeft_lane]

/-- Where the FIFO has room, it holds the timestamp and TXTS says so. -/
theorem State.ethStamped_fifo (s : State) (n : Fin 24) (frame : List Byte) (tag : Nat) (rest : List (List Byte × Nat × Bool))
    (room : (s.lane n).fifo.length < 16) : (s.ethStamped n frame tag rest).bit (LNK_STATUS_TXTS n) = true ∧
      ∃ e, ((s.ethStamped n frame tag rest).lane n).fifo = (s.lane n).fifo ++ [(tag, e)] := by
  have kept : ((s.ethLeft n frame tag rest).drawn.lane n).fifo = (s.lane n).fifo := by
    rw [State.lane_of_lnk (State.drawn_lnk _), s.ethLeft_lane]
  unfold State.ethStamped
  generalize (s.ethLeft n frame tag rest).txStamp n = e
  generalize (s.ethLeft n frame tag rest).drawn = x at kept
  rw [← kept] at room ⊢
  rw [x.txtsPush_room tag e room]
  refine ⟨State.bit_set_own _ (by decide), e, ?_⟩
  rw [State.lane_of_lnk (State.set_lnk ..), State.putLane_lane]

section
include active eth

/-- A frame offered to a live lane whose buffer has room is counted where it is too long, or waits in the buffer. -/
theorem State.ethSubmit_eq (live : s.laneLive n = true) (frame : List Byte) (tag : Nat) (ts : Bool)
    (room : (s.lane n).queued + ethMax ≤ ethBuffer) :
    s.iff (s.laneLive n) (·.ethSubmit n frame tag ts) =
      if ethMax < frame.length then
        (s.streamTake (ethTxPort n) (beatCount 8 frame.length)).satInc (LNK_TX_DROPS_COUNT n) (LNK_TX_DROPS_OVF n)
      else (s.streamTake (ethTxPort n) (beatCount 8 frame.length)).putLane n
        { s.lane n with txq := (s.lane n).txq ++ [(frame, tag, ts)] } := by
  simp only [State.ethSubmit, live, State.iff_true, active, eth, Nat.not_lt.mpr room, Bool.and_self, Bool.not_true, Bool.false_eq_true, if_false]

/-- The oldest frame that waits is sent, with a timestamp where it asked for one. -/
theorem State.ethTxStart_eq {frame : List Byte} {tag : Nat} {ts : Bool} {rest : List (List Byte × Nat × Bool)}
    (up : s.bit (LNK_STATUS_UP n) = true) (waits : (s.lane n).txq = (frame, tag, ts) :: rest) :
    s.ethTxStart n = if ts then s.ethStamped n frame tag rest else s.ethLeft n frame tag rest := by
  unfold State.ethTxStart
  simp only [waits, active, eth, up, Bool.and_self, Bool.not_true, Bool.false_eq_true, if_false]
  cases ts <;> rfl

/-- A frame that fits waits in the transmit buffer. -/
theorem gives_ethTxSubmit_waits {frame : List Byte} {tag : Byte} {ts : Bool} (live : s.laneLive n = true)
    (room : (s.lane n).queued + ethMax ≤ ethBuffer) (short : frame.length ≤ ethMax) :
    Gives (.ethTxSubmit n frame tag ts) s fun t =>
      (t.lane n).txq = (s.lane n).txq ++ [(frame, tag.toNat, ts)] ∧ s.onlyRegs t [] := by
  have ran := (State.ethSubmit_eq (s := s.withOut []) active eth live frame tag.toNat ts room).trans (if_neg (Nat.not_lt.mpr short))
  refine gives_act_of (exec_ethTxSubmit ..) ran ⟨?_, State.settle_onlyRegs fun _ _ => rfl⟩
  rw [State.lane_of_lnk (State.settle_lnk _), State.putLane_lane]
  rfl

/-- A frame too long is counted and kept nowhere. -/
theorem gives_ethTxSubmit_drops {frame : List Byte} {tag : Byte} {ts : Bool} (live : s.laneLive n = true)
    (room : (s.lane n).queued + ethMax ≤ ethBuffer) (long : ethMax < frame.length) :
    Gives (.ethTxSubmit n frame tag ts) s fun t => t.lnk = s.lnk ∧
      t.get (LNK_TX_DROPS_COUNT n) = min (s.get (LNK_TX_DROPS_COUNT n) + 1) (2 ^ (LNK_TX_DROPS_COUNT n).width - 1) := by
  have ran := (State.ethSubmit_eq (s := s.withOut []) active eth live frame tag.toNat ts room).trans (if_pos long)
  refine gives_act_of (exec_ethTxSubmit ..) ran ⟨?_, ?_⟩
  · exact (State.settle_lnk _).trans ((State.satInc_touches ..).lnk rfl)
  · exact ((State.settle_showsLanes _).get n.isLt (by decide)).trans (State.satInc_get_own _ (by decide) (by decide))

/-- The frame sent leaves the buffer, and a timestamp where it asked for one. -/
theorem gives_ethTxStart {frame : List Byte} {tag : Nat} {ts : Bool} {rest : List (List Byte × Nat × Bool)}
    (up : s.bit (LNK_STATUS_UP n) = true) (waits : (s.lane n).txq = (frame, tag, ts) :: rest) :
    Gives (.ethTxStart n) s fun t => t.out = [.ethSent n frame tag] ∧ (t.lane n).txq = rest ∧
      (ts = false → (t.lane n).fifo = (s.lane n).fifo) ∧
      (ts = true → (s.lane n).fifo.length < 16 → t.bit (LNK_STATUS_TXTS n) = true ∧
        ∃ e, (t.lane n).fifo = (s.lane n).fifo ++ [(tag, e)]) := by
  have ran := State.ethTxStart_eq (s := s.withOut []) active eth up waits
  refine gives_act_of (exec_ethTxStart ..) ran ?_
  have lane (x : State) : x.settle.lane n = x.lane n := (State.settle_showsLanes x).lane n
  have txts (x : State) : x.settle.bit (LNK_STATUS_TXTS n) = x.bit (LNK_STATUS_TXTS n) :=
    (State.settle_showsLanes x).bit n.isLt (by decide)
  rw [State.settle_out, lane, txts]
  cases ts with
  | false =>
    rw [if_neg Bool.false_ne_true, State.ethLeft_out, State.ethLeft_lane]
    exact ⟨rfl, rfl, fun _ => rfl, fun no => absurd no Bool.false_ne_true⟩
  | true =>
    rw [if_pos rfl]
    exact ⟨State.ethStamped_out .., State.ethStamped_txq .., fun no => absurd no.symm Bool.false_ne_true,
      fun _ room => (s.withOut []).ethStamped_fifo n frame tag rest room⟩

/-! ### Synchronisation -/

theorem State.laneSync_eq (synced aligned : Bool) : s.laneSync n synced aligned =
    State.setUp (((s.putB (LNK_STATUS_SYNC n) synced).putB (LNK_STATUS_FEC_ALIGN n)
      ((s.laneMode n == 3 && s.bit (LNK_CFG_FEC_EN n)) && synced && aligned)).iff synced (·.set (LNK_STATUS_SIGNAL n))) n
      (synced && (!(s.laneMode n == 3 && s.bit (LNK_CFG_FEC_EN n)) || aligned)) :=
  if_neg (by rw [active, eth]; exact Bool.false_ne_true)

theorem gives_laneSync (synced aligned : Bool) : Gives (.laneSync n synced aligned) s fun t => t.bit (LNK_STATUS_SYNC n) = synced ∧
    t.bit (LNK_STATUS_UP n) = (synced && (!(s.laneMode n == 3 && s.bit (LNK_CFG_FEC_EN n)) || aligned)) := by
  have ran := State.laneSync_eq (s := s.withOut []) active eth synced aligned
  have shows := State.refresh_settle_showsLanes ((s.withOut []).laneSync n synced aligned)
  rw [ran] at shows
  refine gives_actAll (f := fun s => s.laneSync n synced aligned) rfl ?_
  rw [ran]
  refine ⟨(shows.bit n.isLt (by decide)).trans ?_, (shows.bit n.isLt (by decide)).trans (State.setUp_up ..)⟩
  refine (congrArg (· != 0) (State.setUp_get _ _ (by decide) (by decide))).trans ?_
  have kept : ∀ x : State, (x.iff synced (·.set (LNK_STATUS_SIGNAL n))).bit (LNK_STATUS_SYNC n) = x.bit (LNK_STATUS_SYNC n) := fun x => by
    cases synced
    · rfl
    · exact x.bit_put_beside 1 (by decide)
  exact (kept _).trans <| (State.bit_put_beside _ _ (by decide)).trans (State.bit_putB_own _ _ (by decide))

end

end

/-! ### The pop of a timestamp -/

/-- The row of LNK_TXTS_TAG. -/
def txtsTagRow : RegRow := ⟨0x40080054, [(0x400, 24)], 0, 0, 0, 0, 0, 0, .set 0⟩

theorem rowOf_LNK_TXTS_TAG (n : Fin 24) : rowOf (LNK_TXTS_TAG n) = some txtsTagRow := by
  revert n
  decide

theorem gpioBank_LNK_TXTS_TAG (n : Fin 24) : gpioBank (LNK_TXTS_TAG n) = none := by
  revert n
  decide

theorem exec_txtsPop (s : State) (m : Fin 16) (n : Fin 24) :
    exec (.txtsPop m n) s = act (·.busRead m.val 0 (BitVec.ofNat 32 (LNK_TXTS_TAG n))) s := rfl

theorem State.readEffect_LNK_TXTS_TAG (s : State) (m : Nat) (n : Fin 24) : s.readEffect m (LNK_TXTS_TAG n) 0 = s.txtsPop n := by
  have index : (LNK_TXTS_TAG n - 0x40080000) / 0x400 = n := by unfold LNK_TXTS_TAG; omega
  have looked : s.looked (LNK_TXTS_TAG n) = s := by rw [State.looked, gpioBank_LNK_TXTS_TAG]; rfl
  have untimed : LNK_TXTS_TAG n ≠ WCH_TIME_SEC_LO ∧ LNK_TXTS_TAG n ≠ FIX_TIME_SEC_LO := by
    unfold LNK_TXTS_TAG WCH_TIME_SEC_LO FIX_TIME_SEC_LO; omega
  have snapshots : s.snapshots m (LNK_TXTS_TAG n) = s := (if_neg untimed.1).trans (if_neg untimed.2)
  have block : blockOf (LNK_TXTS_TAG n) = some 8 := laneBlock (by decide) n.isLt
  unfold State.readEffect
  simp only [bne_self_eq_false, State.iff_false, looked, snapshots, block, index, n.isLt, decide_true, beq_self_eq_true, Bool.and_self,
    State.iff_true]

section
variable {s : State} {m : Fin 16} {n : Fin 24} (takes : s.busTakes m.val = true) (powered : s.lanePowered = true)
include takes powered

/-- The read completes DONE and shows the pop. -/
theorem gives_txtsPop : Gives (.txtsPop m n) s fun t => t.busCode m.val = 0 ∧ ShowsLanes ((s.withOut []).txtsPop n) t := by
  have addr : (BitVec.ofNat 32 (LNK_TXTS_TAG n)).toNat / 4 * 4 = LNK_TXTS_TAG n := by
    rw [BitVec.toNat_ofNat]
    unfold LNK_TXTS_TAG
    omega
  have block : blockOf (LNK_TXTS_TAG n) = some 8 := laneBlock (by decide) n.isLt
  have domain : (s.withOut []).domainUp (LNK_TXTS_TAG n) = true := by
    unfold State.domainUp
    rw [block]
    exact powered
  have read := (s.withOut []).busRead_mapped (m := m.val) (addr := BitVec.ofNat 32 (LNK_TXTS_TAG n)) takes
    (by rw [addr]; exact rowOf_LNK_TXTS_TAG n) (by rw [addr]; exact domain)
  rw [addr, show txtsTagRow.rc = 0 from rfl, State.readEffect_LNK_TXTS_TAG] at read
  refine gives_act_of (exec_txtsPop ..) read ⟨?_, (State.settle_showsLanes _).complete⟩
  rw [State.settle_busCode, State.busCode_complete _ _ (by decide)]

/-- A read pops the oldest timestamp into the held copy. -/
theorem gives_txtsPop_oldest {tag sec ns fns : Nat} {rest : List (Nat × Nat × Nat × Nat)}
    (oldest : (s.lane n).fifo = (tag, sec, ns, fns) :: rest) : Gives (.txtsPop m n) s fun t => t.busCode m.val = 0 ∧
      (t.lane n).fifo = rest ∧ t.get (LNK_TXTS_TAG_TAG n) = tag % 256 ∧ t.get (LNK_TXTS_TAG_FNS n) = fns % 256 ∧
      t.bit (LNK_TXTS_TAG_EMPTY n) = false ∧ t.get (LNK_TXTS_NS_NS n) = ns % 2 ^ (LNK_TXTS_NS_NS n).width := by
  refine (gives_txtsPop takes powered).imp fun t ⟨code, shows⟩ => ?_
  have oldest' : ((s.withOut []).lane n).fifo = (tag, sec, ns, fns) :: rest := oldest
  unfold State.txtsPop at shows
  rw [oldest'] at shows
  dsimp only at shows
  have timeless : ∀ (x : State) {lo w : Nat}, lo + w ≤ 32 →
      ((x.put2 (LNK_TXTS_SEC_LO_SEC n) (LNK_TXTS_SEC_HI_SEC n) sec).put (LNK_TXTS_NS_NS n) ns).get ⟨LNK_TXTS_TAG n, lo, w⟩ =
        x.get ⟨LNK_TXTS_TAG n, lo, w⟩ := fun x _ _ _ =>
    State.get_of_word ((State.word_put_ne _ _ _ _ (laneReg_ne (by decide))).trans <|
      (State.word_put_ne _ _ _ _ (laneReg_ne (by decide))).trans (State.word_put_ne _ _ _ _ (laneReg_ne (by decide))))
  refine ⟨code, ?_, (shows.get n.isLt (by decide)).trans ?_, (shows.get n.isLt (by decide)).trans ?_, (shows.bit n.isLt (by decide)).trans ?_,
    (shows.get n.isLt (by decide)).trans (State.get_put_own _ _ (by decide))⟩
  · rw [shows.lane]
    exact congrArg LnkLane.fifo (State.putLane_lane ..)
  · exact (timeless _ (by decide)).trans (State.get_put_own _ _ (by decide))
  · exact (timeless _ (by decide)).trans <| (State.get_put_beside _ _ (by decide)).trans (State.get_put_own _ _ (by decide))
  · exact (congrArg (· != 0) ((timeless _ (by decide)).trans <| (State.get_put_beside _ _ (by decide)).trans
      (State.get_put_beside _ _ (by decide)))).trans (State.bit_clr_own _ (by decide))

/-- A read of an empty FIFO says so. -/
theorem gives_txtsPop_empty (empty : (s.lane n).fifo = []) : Gives (.txtsPop m n) s fun t =>
    t.busCode m.val = 0 ∧ t.bit (LNK_TXTS_TAG_EMPTY n) = true ∧ t.lnk = s.lnk := by
  refine (gives_txtsPop takes powered).imp fun t ⟨code, shows⟩ => ?_
  have empty' : ((s.withOut []).lane n).fifo = [] := empty
  unfold State.txtsPop at shows
  rw [empty'] at shows
  exact ⟨code, (shows.bit n.isLt (by decide)).trans (State.bit_set_own _ (by decide)), shows.lnk⟩

end

/-- Settles O43: the write of LNK_CFG restarts the lane, and a frame, a timestamp's read and synchronisation each show what they leave. -/
theorem ethernetLanes : Obligations.EthernetLanes := fun _ _ =>
  ⟨fun _ _ ok opened legal free => gives_lnkCfgWrite ok opened legal free,
    fun active eth live =>
      ⟨fun up noFec => ⟨fun _ short room => gives_ethRxFrame_released active eth up noFec live short room,
          fun _ _ _ bad => gives_ethRxFrame_withheld active eth up noFec bad⟩,
        fun _ _ _ room => ⟨gives_ethTxSubmit_waits active eth live room, gives_ethTxSubmit_drops active eth live room⟩,
        fun _ _ _ _ up waits => gives_ethTxStart active eth up waits⟩,
    fun _ takes powered => ⟨fun _ _ _ _ _ oldest => gives_txtsPop_oldest takes powered oldest, gives_txtsPop_empty takes powered⟩,
    fun synced aligned active eth => gives_laneSync active eth synced aligned⟩

end Sys2Proof.Machine

/-!
SUPPORT. Test patterns and the eye scan of a lane (R413, R414, R417).
-/
namespace Sys2Proof.Machine

/-! ### The write of LNK_PRBS_CFG -/

/-- The row of LNK_PRBS_CFG. -/
def prbsCfgRow : RegRow := ⟨0x40080014, [(0x400, 24)], 0xFF, 0x100, 0, 0, 0, 0, .set 0x3FFF⟩

theorem rowOf_LNK_PRBS_CFG (n : Fin 24) : rowOf (LNK_PRBS_CFG n) = some prbsCfgRow := by
  revert n
  decide

theorem exec_prbsClear (acc : Acc) (n : Fin 24) (v : Word) (s : State) :
    exec (.prbsClear acc n v) s = actAll (·.regWrite acc (LNK_PRBS_CFG n) (v ||| 0x100#32)) s := rfl

theorem State.lnkWritten_LNK_PRBS_CFG (s : State) (n : Fin 24) (w old : Word) :
    s.lnkWritten (LNK_PRBS_CFG n) w old = s.iff (w.getLsbD 8) (·.prbsClear n) := by
  have index : (LNK_PRBS_CFG n - 0x40080000) / 0x400 = n := by unfold LNK_PRBS_CFG; omega
  unfold State.lnkWritten
  dsimp only
  rw [index, if_neg (by omega)]
  exact (if_neg (laneReg_ne (by decide))).trans <| (if_neg (laneReg_ne (by decide))).trans <| (if_neg (laneReg_ne (by decide))).trans (if_pos rfl)

/-- A pair of registers that were put zero count zero. -/
theorem State.get2_put2_zero (s : State) {lo hi : Fld} (apart : lo.addr ≠ hi.addr) (hl : lo.lo + lo.width ≤ 32) (hh : hi.lo + hi.width ≤ 32) :
    (s.put2 lo hi 0).get2 lo hi = 0 := (s.get2_put2 0 apart hl hh).trans (Nat.zero_mod _)

theorem State.prbsClear_errors (s : State) (n : Nat) : (s.prbsClear n).get2 (LNK_PRBS_ERR_LO_COUNT n) (LNK_PRBS_ERR_HI_COUNT n) = 0 := by
  have beside (x : State) {y : Nat} (lo : 0x40080028 ≠ y) (hi : 0x4008002C ≠ y) :
      (x.put2 (LNK_PRBS_BITS_LO_COUNT n) (LNK_PRBS_BITS_HI_COUNT n) 0).word (y + n * 0x400) = x.word (y + n * 0x400) :=
    (State.word_put_ne _ _ _ _ (laneReg_ne hi.symm)).trans (State.word_put_ne _ _ _ _ (laneReg_ne lo.symm))
  refine (State.get2_of_words (beside _ (by decide) (by decide)) (beside _ (by decide) (by decide))).trans ?_
  exact State.get2_put2_zero _ (laneReg_ne (by decide)) (show 0 + 32 ≤ 32 by decide) (show 0 + 16 ≤ 32 by decide)

theorem State.prbsClear_bits (s : State) (n : Nat) : (s.prbsClear n).get2 (LNK_PRBS_BITS_LO_COUNT n) (LNK_PRBS_BITS_HI_COUNT n) = 0 :=
  State.get2_put2_zero _ (laneReg_ne (by decide)) (show 0 + 32 ≤ 32 by decide) (show 0 + 32 ≤ 32 by decide)

/-- A write with CLEAR set zeroes the counters. -/
theorem gives_prbsClear {s : State} {acc : Acc} {n : Fin 24} {v : Word} (h : s.commandOk acc (LNK_PRBS_CFG n) = true) :
    Gives (.prbsClear acc n v) s fun t => t.get2 (LNK_PRBS_ERR_LO_COUNT n) (LNK_PRBS_ERR_HI_COUNT n) = 0 ∧
      t.get2 (LNK_PRBS_BITS_LO_COUNT n) (LNK_PRBS_BITS_HI_COUNT n) = 0 := by
  have lane : blockOf (LNK_PRBS_CFG n) = some 8 := laneBlock (by decide) n.isLt
  have clear : (v ||| 0x100#32).getLsbD 8 = true := by rw [BitVec.getLsbD_or]; exact Bool.or_true _
  refine (gives_laneWrite lane s (exec_prbsClear acc n v s) h (rowOf_LNK_PRBS_CFG n) rfl (by unfold LNK_PRBS_CFG; omega)
    BitVec.zero_and).imp fun t ⟨_, shows⟩ => ?_
  rw [State.lnkWritten_LNK_PRBS_CFG, clear, State.iff_true] at shows
  exact ⟨(shows.get2 n.isLt (by decide) (by decide)).trans (State.prbsClear_errors ..),
    (shows.get2 n.isLt (by decide) (by decide)).trans (State.prbsClear_bits ..)⟩

/-! ### The checker -/

theorem exec_prbsLock (s : State) (n : Fin 24) (locked : Bool) (bits errors : Nat) :
    exec (.prbsLock n locked bits errors) s = act (·.prbsLock n locked bits errors) s := rfl

/-- Counted bits, up to the counter's largest value. -/
theorem State.prbsCount_bits (s : State) (n bits errors : Nat) :
    (s.prbsCount n bits errors).get2 (LNK_PRBS_BITS_LO_COUNT n) (LNK_PRBS_BITS_HI_COUNT n) =
      min (s.get2 (LNK_PRBS_BITS_LO_COUNT n) (LNK_PRBS_BITS_HI_COUNT n) + bits) (2 ^ 64 - 1) := by
  have beside {y : Nat} (lo : y ≠ 0x40080020) (hi : y ≠ 0x40080024) (ovf : y ≠ 0x40080018) :
      (s.satAdd2 (LNK_PRBS_ERR_LO_COUNT n) (LNK_PRBS_ERR_HI_COUNT n) (LNK_PRBS_STATUS_ERR_OVF n) errors).word (y + n * 0x400) =
        s.word (y + n * 0x400) := State.satAdd2_word_ne _ _ (laneReg_ne lo) (laneReg_ne hi) (laneReg_ne ovf)
  rw [← State.get2_of_words (lo := LNK_PRBS_BITS_LO_COUNT n) (hi := LNK_PRBS_BITS_HI_COUNT n) (beside (by decide) (by decide) (by decide))
    (beside (by decide) (by decide) (by decide))]
  exact State.satAdd2_get2 _ _ (laneReg_ne (by decide)) (show 0 + 32 ≤ 32 by decide) (show 0 + 32 ≤ 32 by decide) (laneReg_ne (by decide))
    (laneReg_ne (by decide))

/-- Bits count where the checker had lock. -/
theorem State.prbsChecked_bits (s : State) (n : Nat) (locked : Bool) (bits errors : Nat) :
    (s.iff locked (·.prbsCount n bits errors)).get2 (LNK_PRBS_BITS_LO_COUNT n) (LNK_PRBS_BITS_HI_COUNT n) =
      min (s.get2 (LNK_PRBS_BITS_LO_COUNT n) (LNK_PRBS_BITS_HI_COUNT n) + if locked then bits else 0) (2 ^ 64 - 1) := by
  cases locked with
  | true => rw [State.iff_true, State.prbsCount_bits, if_pos rfl]
  | false =>
    have small := s.get2_lt (LNK_PRBS_BITS_LO_COUNT n) (LNK_PRBS_BITS_HI_COUNT n)
    rw [show (LNK_PRBS_BITS_LO_COUNT n).width + (LNK_PRBS_BITS_HI_COUNT n).width = 64 from rfl] at small
    rw [State.iff_false, if_neg Bool.false_ne_true, Nat.add_zero, Nat.min_eq_left (Nat.le_sub_one_of_lt small)]

/-- The checker's lock is shown, and what it counted under the lock before is added. -/
theorem gives_prbsLock {s : State} {n : Fin 24} (active : s.laneActive n = true) (locked : Bool) (bits errors : Nat) (test : s.laneMode n = 5)
    (checks : s.bit (LNK_PRBS_CFG_CHK_EN n) = true) : Gives (.prbsLock n locked bits errors) s fun t =>
      t.bit (LNK_PRBS_STATUS_CHK_LOCK n) = locked ∧ t.get2 (LNK_PRBS_BITS_LO_COUNT n) (LNK_PRBS_BITS_HI_COUNT n) =
        min (s.get2 (LNK_PRBS_BITS_LO_COUNT n) (LNK_PRBS_BITS_HI_COUNT n) +
          if s.bit (LNK_PRBS_STATUS_CHK_LOCK n) then bits else 0) (2 ^ 64 - 1) := by
  have ran : (s.withOut []).prbsLock n locked bits errors =
      ((s.withOut []).iff (s.bit (LNK_PRBS_STATUS_CHK_LOCK n)) (·.prbsCount n bits errors)).putB (LNK_PRBS_STATUS_CHK_LOCK n) locked := by
    refine if_neg ?_
    show ¬(!(s.laneActive n && s.laneMode n == 5 && s.bit (LNK_PRBS_CFG_CHK_EN n))) = true
    rw [active, test, checks]
    exact Bool.false_ne_true
  have shows := State.settle_showsLanes (((s.withOut []).iff (s.bit (LNK_PRBS_STATUS_CHK_LOCK n)) (·.prbsCount n bits errors)).putB
    (LNK_PRBS_STATUS_CHK_LOCK n) locked)
  refine gives_act_of (exec_prbsLock ..) ran ⟨(shows.bit n.isLt (by decide)).trans (State.bit_putB_own _ _ (by decide)), ?_⟩
  refine (shows.get2 n.isLt (by decide) (by decide)).trans <|
    (State.get2_of_words (State.word_put_ne _ _ _ _ (laneReg_ne (by decide))) (State.word_put_ne _ _ _ _ (laneReg_ne (by decide)))).trans ?_
  exact State.prbsChecked_bits (s.withOut []) n _ bits errors

/-! ### The eye scan -/

/-- The row of LNK_EYE_CTRL. -/
def eyeCtrlRow : RegRow := ⟨0x40080080, [(0x400, 24)], 0x800FFF7F, 0, 0, 0, 0, 0, .set 0x2000⟩

theorem rowOf_LNK_EYE_CTRL (n : Fin 24) : rowOf (LNK_EYE_CTRL n) = some eyeCtrlRow := by
  revert n
  decide

theorem exec_eyeScanStart (acc : Acc) (n : Fin 24) (v : Word) (s : State) :
    exec (.eyeScanStart acc n v) s = actAll (·.regWrite acc (LNK_EYE_CTRL n) (v ||| 0x80000000#32)) s := rfl

theorem exec_eyeScanDone (s : State) (n : Fin 24) (errors : Nat) : exec (.eyeScanDone n errors) s = act (·.eyeScanned n errors) s := rfl

theorem State.lnkWritten_LNK_EYE_CTRL (s : State) (n : Fin 24) (w old : Word) :
    s.lnkWritten (LNK_EYE_CTRL n) w old = s.iff (w.getLsbD 31 && !old.getLsbD 31) (·.eyeStart n) := by
  have index : (LNK_EYE_CTRL n - 0x40080000) / 0x400 = n := by unfold LNK_EYE_CTRL; omega
  unfold State.lnkWritten
  dsimp only
  rw [index, if_neg (by omega)]
  exact (if_neg (laneReg_ne (by decide))).trans <| (if_neg (laneReg_ne (by decide))).trans <| (if_neg (laneReg_ne (by decide))).trans <|
    (if_neg (laneReg_ne (by decide))).trans (if_pos rfl)

/-- START is stored as written. -/
theorem State.stored_LNK_EYE_CTRL_start (s : State) (n : Fin 24) (v : Word) :
    bitsOf (s.stored eyeCtrlRow (LNK_EYE_CTRL n) 0xFFFFFFFF#32 0 v) 31 1 = bitsOf v 31 1 := by
  have limits : limitsOf (LNK_EYE_CTRL n) = [] := limitsOf_lane (y := 0x40080080) (by decide) n.isLt
  have index : (LNK_EYE_CTRL n - 0x40080000) / 0x400 = n := by unfold LNK_EYE_CTRL; omega
  have unlimited (touched w : Word) : s.storable (LNK_EYE_CTRL n) touched w = w := by
    rw [s.storable_lane (a := LNK_EYE_CTRL n) (laneBlock (by decide) n.isLt), limited, limits]
    refine if_neg fun ⟨_, _, same, _⟩ => ?_
    rw [index] at same
    exact laneReg_ne (by decide) same
  have clears (x : Word) : x &&& ~~~(v &&& 0xFFFFFFFF#32 &&& eyeCtrlRow.w1c) = x := by
    rw [show eyeCtrlRow.w1c = 0 from rfl]; simp [and_all]
  have fields : eyeCtrlRow.rw ||| eyeCtrlRow.rwi &&& ~~~(0 : Word) = 0x800FFF7F#32 := by decide
  have all : (0xFFFFFFFF#32 : Word) &&& 0x800FFF7F#32 = 0x800FFF7F#32 := by decide
  have mask : ∀ i, i < 1 → (0x800FFF7F#32 : Word).getLsbD (31 + i) = true := by decide
  unfold State.stored
  dsimp only
  rw [fields, all, clears, unlimited, bitsOf_mergeBits mask, bitsOf_mergeBits mask]

/-- A write that raises START begins a point. -/
theorem gives_eyeScanStart {s : State} {acc : Acc} {n : Fin 24} {v : Word} (h : s.commandOk acc (LNK_EYE_CTRL n) = true)
    (idle : s.bit (LNK_EYE_CTRL_START n) = false) : Gives (.eyeScanStart acc n v) s fun t =>
      t.bit (LNK_EYE_CTRL_START n) = true ∧ t.bit (LNK_EYE_RESULT_DONE n) = false := by
  have lane : blockOf (LNK_EYE_CTRL n) = some 8 := laneBlock (by decide) n.isLt
  have start : (v ||| 0x80000000#32).getLsbD 31 = true := by rw [BitVec.getLsbD_or]; exact Bool.or_true _
  have old : (s.word (LNK_EYE_CTRL n)).getLsbD 31 = false := (bitsOf_one ..).symm.trans idle
  refine (gives_laneWrite lane s (exec_eyeScanStart acc n v s) h (rowOf_LNK_EYE_CTRL n) rfl (by unfold LNK_EYE_CTRL; omega)
    BitVec.zero_and).imp fun t ⟨_, shows⟩ => ?_
  rw [State.lnkWritten_LNK_EYE_CTRL, start, old, Bool.not_false, Bool.and_true, State.iff_true] at shows
  refine ⟨(shows.bit n.isLt (by decide)).trans ?_, (shows.bit n.isLt (by decide)).trans (State.bit_clr_own _ (by decide))⟩
  have stored : State.get ((s.withOut []).putWord (LNK_EYE_CTRL n) (s.stored eyeCtrlRow (LNK_EYE_CTRL n) 0xFFFFFFFF#32 0 (v ||| 0x80000000#32)))
      (LNK_EYE_CTRL_START n) = bitsOf (v ||| 0x80000000#32) 31 1 :=
    (congrArg (bitsOf · 31 1) (State.word_putWord_same ..)).trans (s.stored_LNK_EYE_CTRL_start n _)
  exact (State.bit_put_beside _ 0 (by decide)).trans <| (congrArg (· != 0) stored).trans ((bitsOf_one ..).trans start)

/-- A point that ends shows its errors. -/
theorem gives_eyeScanDone {s : State} {n : Fin 24} (errors : Nat) (start : s.bit (LNK_EYE_CTRL_START n) = true) (alone : s.mon.eye = none) :
    Gives (.eyeScanDone n errors) s fun t => t.bit (LNK_EYE_CTRL_START n) = false ∧ t.bit (LNK_EYE_RESULT_DONE n) = true ∧
      t.get (LNK_EYE_RESULT_ERRORS n) = min errors 0xFFFFFF := by
  have ended : (s.withOut []).eyeDone n errors =
      (((s.withOut []).clr (LNK_EYE_CTRL_START n)).set (LNK_EYE_RESULT_DONE n)).put (LNK_EYE_RESULT_ERRORS n) (min errors 0xFFFFFF) := if_pos start
  have ran : (s.withOut []).eyeScanned n errors =
      (((s.withOut []).clr (LNK_EYE_CTRL_START n)).set (LNK_EYE_RESULT_DONE n)).put (LNK_EYE_RESULT_ERRORS n) (min errors 0xFFFFFF) := by
    have started : (s.withOut []).bit (LNK_EYE_CTRL_START n) = true := start
    have mon : State.mon ((((s.withOut []).clr (LNK_EYE_CTRL_START n)).set (LNK_EYE_RESULT_DONE n)).put (LNK_EYE_RESULT_ERRORS n)
      (min errors 0xFFFFFF)) = s.mon := rfl
    unfold State.eyeScanned
    rw [started, ended]
    dsimp only
    rw [mon, alone]
    rfl
  have shows := State.settle_showsLanes
    ((((s.withOut []).clr (LNK_EYE_CTRL_START n)).set (LNK_EYE_RESULT_DONE n)).put (LNK_EYE_RESULT_ERRORS n) (min errors 0xFFFFFF))
  refine gives_act_of (exec_eyeScanDone ..) ran ⟨(shows.bit n.isLt (by decide)).trans ?_, (shows.bit n.isLt (by decide)).trans ?_,
    (shows.get n.isLt (by decide)).trans ?_⟩
  · exact (State.bit_put_beside _ _ (by decide)).trans <| (State.bit_put_beside _ _ (by decide)).trans (State.bit_clr_own _ (by decide))
  · exact (State.bit_put_beside _ _ (by decide)).trans (State.bit_set_own _ (by decide))
  · exact (State.get_put_own _ _ (by decide)).trans (Nat.mod_eq_of_lt (by omega))

end Sys2Proof.Machine

/-!
SUPPORT. The bring-up of a Bearing lane (R406 to R411) and the loss of its signal or of its lock (R415, R416).
-/
namespace Sys2Proof.Machine

/-- A command that the ports follow shows the state that its effect is shown to be. -/
theorem gives_showsPorts_of {c : Instr} {f : State → State} {s x : State} (e : exec c s = actAll (fun s => (f s).portsUpdate) s)
    (ran : f (s.withOut []) = x) : Gives c s (ShowsLanes x) := by
  rw [← ran]
  exact gives_showsPorts e

/-- A command to which other blocks react shows the state that its effect is shown to be. -/
theorem gives_showsAll_of {c : Instr} {f : State → State} {s x : State} (e : exec c s = actAll f s) (ran : f (s.withOut []) = x) :
    Gives c s (ShowsLanes x) := by
  refine gives_actAll e ?_
  rw [ran]
  exact State.refresh_settle_showsLanes x

theorem exec_trainingLock (s : State) (n : Fin 24) (cap : BitVec 5) :
    exec (.trainingLock n cap) s = actAll (fun s => (s.trainingLock n cap.toNat).portsUpdate) s := rfl

theorem exec_rateStepSwitch (s : State) (n : Fin 24) :
    exec (.rateStepSwitch n) s = actAll (fun s => (s.rateStepSwitch n).portsUpdate) s := rfl

theorem exec_rateStepEnd (s : State) (n : Fin 24) (locked : Bool) (bits errors : Nat) (fail : Bool) :
    exec (.rateStepEnd n locked bits errors fail) s = actAll (fun s => (s.rateStepEnd n locked bits errors fail).portsUpdate) s := rfl

theorem exec_laneSettle (s : State) (n : Fin 24) : exec (.laneSettle n) s = actAll (fun s => (s.laneSettle n).portsUpdate) s := rfl

theorem exec_bringupRetry (s : State) (n : Fin 24) : exec (.bringupRetry n) s = actAll (fun s => (s.bringupRetry n).portsUpdate) s := rfl

theorem exec_losClear (s : State) (n : Fin 24) : exec (.losClear n) s = actAll (fun s => (s.losClear n).portsUpdate) s := rfl

theorem exec_losDeclare (s : State) (n : Fin 24) : exec (.losDeclare n) s = actAll (·.losDeclared n) s := rfl

theorem exec_cdrLoss (s : State) (n : Fin 24) : exec (.cdrLoss n) s = actAll (·.cdrLost n) s := rfl

/-! ### Steps of the bring-up -/

/-- The registers of a lane that has seen 64 clean training words. -/
def State.laneTrained (s : State) (n cap : Nat) : State :=
  ((s.set (LNK_STATUS_SIGNAL n)).put (LNK_BRG_STATE_PEER_CAP n) cap).put (LNK_BRG_STATE_STATE n) 2

/-- The registers of a lane whose step has ended, before its result. -/
def State.stepEnded (s : State) (n bits errors : Nat) : State := ((s.prbsClear n).prbsCount n bits errors).put (LNK_BRG_STATE_RATE n) 0

section
variable {s : State} {n : Fin 24} (active : s.laneActive n = true)
include active

theorem State.trainingLock_eq (cap : Nat) (training : s.get (LNK_BRG_STATE_STATE n) = 1) : s.trainingLock n cap =
    (s.laneTrained n cap).putLane n
      { s.lane n with prop := nextRate ((s.laneTrained n cap).get (LNK_BRG_STATE_OWN_CAP n)) cap (s.lane n).top } :=
  if_neg (by rw [active, training]; exact Bool.false_ne_true)

theorem gives_trainingLock (cap : BitVec 5) (training : s.get (LNK_BRG_STATE_STATE n) = 1) : Gives (.trainingLock n cap) s fun t =>
    t.get (LNK_BRG_STATE_STATE n) = 2 ∧ t.get (LNK_BRG_STATE_PEER_CAP n) = cap.toNat ∧
    (t.lane n).prop = nextRate (s.get (LNK_BRG_STATE_OWN_CAP n)) cap.toNat (s.lane n).top := by
  have ran := State.trainingLock_eq (s := s.withOut []) active cap.toNat training
  refine (gives_showsPorts_of (exec_trainingLock ..) ran).imp fun t shows => ⟨(shows.get n.isLt (by decide)).trans ?_,
    (shows.get n.isLt (by decide)).trans ?_, ?_⟩
  · exact (State.putLane_get ..).trans (State.get_put_own _ _ (by decide))
  · exact (State.putLane_get ..).trans <| (State.get_put_beside _ _ (by decide)).trans <|
      (State.get_put_own _ _ (by decide)).trans (Nat.mod_eq_of_lt cap.isLt)
  · have own : ((s.withOut []).laneTrained n cap.toNat).get (LNK_BRG_STATE_OWN_CAP n) = s.get (LNK_BRG_STATE_OWN_CAP n) :=
      (State.get_put_beside _ _ (by decide)).trans <| (State.get_put_beside _ _ (by decide)).trans (State.get_put_beside _ _ (by decide))
    rw [shows.lane, State.putLane_lane, own]
    rfl

section
variable {r : Nat} (proposed : (s.lane n).prop = some r)

section
include proposed

theorem State.rateStepSwitch_eq (trained : s.get (LNK_BRG_STATE_STATE n) = 2) (still : (s.lane n).inStep = false) :
    s.rateStepSwitch n = (s.putLane n { s.lane n with inStep := true }).put (LNK_BRG_STATE_RATE n) r := by
  unfold State.rateStepSwitch
  simp only [proposed, active, trained, still, beq_self_eq_true, Bool.not_false, Bool.and_self, Bool.not_true, Bool.false_eq_true, if_false]

/-- The result of a step: the checker's own, and what the other end says. -/
theorem State.rateStepEnd_eq (locked : Bool) (bits errors : Nat) (fail : Bool) (stepping : (s.lane n).inStep = true) :
    s.rateStepEnd n locked bits errors fail =
      if locked && decide (errors ≤ s.get (LNK_BRG_CFG_MAX_ERR n)) && !fail then
        ((s.stepEnded n bits errors).put (LNK_BRG_STATE_FAILED_AT n) 15).putLane n { s.lane n with
          inStep := false, failed := false, top := r,
          prop := nextRate ((s.stepEnded n bits errors).get (LNK_BRG_STATE_OWN_CAP n))
            ((s.stepEnded n bits errors).get (LNK_BRG_STATE_PEER_CAP n)) r }
      else ((s.stepEnded n bits errors).put (LNK_BRG_STATE_FAILED_AT n) r).putLane n { s.lane n with
        inStep := false, failed := !(locked && decide (errors ≤ s.get (LNK_BRG_CFG_MAX_ERR n))), prop := none } := by
  unfold State.rateStepEnd
  simp only [proposed, active, stepping, Bool.and_self, Bool.not_true, Bool.false_eq_true, if_false]
  rfl

end

include proposed

theorem gives_rateStepSwitch (trained : s.get (LNK_BRG_STATE_STATE n) = 2) (small : r ≤ 4) (still : (s.lane n).inStep = false) :
    Gives (.rateStepSwitch n) s fun t => (t.lane n).inStep = true ∧ t.get (LNK_BRG_STATE_RATE n) = r := by
  have ran := State.rateStepSwitch_eq (s := s.withOut []) active proposed trained still
  refine (gives_showsPorts_of (exec_rateStepSwitch ..) ran).imp fun t shows => ⟨?_, (shows.get n.isLt (by decide)).trans ?_⟩
  · rw [shows.lane, State.lane_of_lnk (State.put_lnk ..), State.putLane_lane]
  · exact (State.get_put_own _ _ (by decide)).trans (Nat.mod_eq_of_lt (by omega))

/-- A step that passes raises the top. -/
theorem gives_rateStepEnd_passes (bits : Nat) {errors : Nat} (stepping : (s.lane n).inStep = true)
    (few : errors ≤ s.get (LNK_BRG_CFG_MAX_ERR n)) : Gives (.rateStepEnd n true bits errors false) s fun t => (t.lane n).top = r ∧
      t.get (LNK_BRG_STATE_FAILED_AT n) = 15 ∧ (t.lane n).inStep = false ∧ t.get (LNK_BRG_STATE_RATE n) = 0 := by
  have ran := (State.rateStepEnd_eq (s := s.withOut []) active proposed true bits errors false stepping).trans
    (if_pos (by rw [Bool.true_and, Bool.not_false, Bool.and_true]; exact decide_eq_true few))
  refine (gives_showsPorts_of (exec_rateStepEnd ..) ran).imp fun t shows => ⟨?_, (shows.get n.isLt (by decide)).trans ?_, ?_,
    (shows.get n.isLt (by decide)).trans ?_⟩
  · rw [shows.lane, State.putLane_lane]
  · exact (State.putLane_get ..).trans (State.get_put_own _ _ (by decide))
  · rw [shows.lane, State.putLane_lane]
  · exact (State.putLane_get ..).trans <| (State.get_put_beside _ _ (by decide)).trans (State.get_put_own _ _ (by decide))

/-- A step that fails is noted, and the top stays. -/
theorem gives_rateStepEnd_fails {locked fail : Bool} (bits : Nat) {errors : Nat} (stepping : (s.lane n).inStep = true) (small : r ≤ 4)
    (bad : locked = false ∨ s.get (LNK_BRG_CFG_MAX_ERR n) < errors ∨ fail = true) :
    Gives (.rateStepEnd n locked bits errors fail) s fun t => (t.lane n).top = (s.lane n).top ∧
      t.get (LNK_BRG_STATE_FAILED_AT n) = r ∧ (t.lane n).prop = none := by
  have failed : ¬(locked && decide (errors ≤ s.get (LNK_BRG_CFG_MAX_ERR n)) && !fail) = true := by
    simp only [Bool.and_eq_true, Bool.not_eq_true', decide_eq_true_eq, not_and, Bool.not_eq_false]
    rintro ⟨lock, few⟩
    rcases bad with h | h | h
    · exact absurd (lock.symm.trans h) Bool.true_eq_false_eq_False
    · omega
    · exact h
  have ran := (State.rateStepEnd_eq (s := s.withOut []) active proposed locked bits errors fail stepping).trans (if_neg failed)
  refine (gives_showsPorts_of (exec_rateStepEnd ..) ran).imp fun t shows => ⟨?_, (shows.get n.isLt (by decide)).trans ?_, ?_⟩
  · rw [shows.lane, State.putLane_lane]
    rfl
  · exact (State.putLane_get ..).trans <| (State.get_put_own _ _ (by decide)).trans (Nat.mod_eq_of_lt (by omega))
  · rw [shows.lane, State.putLane_lane]

end

theorem State.laneSettle_eq (trained : s.get (LNK_BRG_STATE_STATE n) = 2) (done : (s.lane n).prop = none) : s.laneSettle n =
    ((s.put (LNK_BRG_STATE_RATE n) (s.lane n).top).put (LNK_BRG_STATE_STATE n) 3).setUp n true :=
  if_neg (by rw [active, trained, done]; exact Bool.false_ne_true)

theorem gives_laneSettle (trained : s.get (LNK_BRG_STATE_STATE n) = 2) (done : (s.lane n).prop = none) (small : (s.lane n).top ≤ 4) :
    Gives (.laneSettle n) s fun t => t.get (LNK_BRG_STATE_STATE n) = 3 ∧ t.get (LNK_BRG_STATE_RATE n) = (s.lane n).top ∧
      t.bit (LNK_STATUS_UP n) = true := by
  have ran := State.laneSettle_eq (s := s.withOut []) active trained done
  refine (gives_showsPorts_of (exec_laneSettle ..) ran).imp fun t shows => ⟨(shows.get n.isLt (by decide)).trans ?_,
    (shows.get n.isLt (by decide)).trans ?_, (shows.bit n.isLt (by decide)).trans (State.setUp_up ..)⟩
  · exact (State.setUp_get _ _ (by decide) (by decide)).trans (State.get_put_own _ _ (by decide))
  · exact (State.setUp_get _ _ (by decide) (by decide)).trans <| (State.get_put_beside _ _ (by decide)).trans <|
      (State.get_put_own _ _ (by decide)).trans (Nat.mod_eq_of_lt (by change (s.lane n).top < 16; omega))

/-- The registers of a settled lane that begins its failed step again. -/
def State.laneRetrained (s : State) (n : Nat) : State :=
  ((s.setUp n false).put (LNK_BRG_STATE_STATE n) 2).put (LNK_BRG_STATE_RATE n) 0

theorem State.bringupRetry_eq (settled : s.get (LNK_BRG_STATE_STATE n) = 3) (retries : s.get (LNK_BRG_CFG_RETRY_S n) ≠ 0)
    (failed : s.get (LNK_BRG_STATE_FAILED_AT n) ≤ 4) : s.bringupRetry n = (s.laneRetrained n).putLane n
      { (s.laneRetrained n).lane n with prop := some (s.get (LNK_BRG_STATE_FAILED_AT n)), failed := false } :=
  if_neg (by rw [active, settled, bne_iff_ne.mpr retries, decide_eq_true failed]; exact Bool.false_ne_true)

theorem gives_bringupRetry (settled : s.get (LNK_BRG_STATE_STATE n) = 3) (retries : s.get (LNK_BRG_CFG_RETRY_S n) ≠ 0)
    (failed : s.get (LNK_BRG_STATE_FAILED_AT n) ≤ 4) : Gives (.bringupRetry n) s fun t => t.bit (LNK_STATUS_UP n) = false ∧
      t.get (LNK_BRG_STATE_STATE n) = 2 ∧ (t.lane n).prop = some (s.get (LNK_BRG_STATE_FAILED_AT n)) := by
  have ran := State.bringupRetry_eq (s := s.withOut []) active settled retries failed
  refine (gives_showsPorts_of (exec_bringupRetry ..) ran).imp fun t shows => ⟨(shows.bit n.isLt (by decide)).trans ?_,
    (shows.get n.isLt (by decide)).trans ?_, ?_⟩
  · exact (State.putLane_bit ..).trans <| (State.bit_put_beside _ _ (by decide)).trans <|
      (State.bit_put_beside _ _ (by decide)).trans (State.setUp_up ..)
  · exact (State.putLane_get ..).trans <| (State.get_put_beside _ _ (by decide)).trans (State.get_put_own _ _ (by decide))
  · rw [shows.lane, State.putLane_lane]
    rfl

theorem gives_losClear : Gives (.losClear n) s fun t => t.bit (LNK_STATUS_SIGNAL n) = true ∧
    (s.get (LNK_BRG_STATE_STATE n) = 4 → t.get (LNK_BRG_STATE_STATE n) = 1) := by
  let y := (s.withOut []).set (LNK_STATUS_SIGNAL n)
  have state : y.get (LNK_BRG_STATE_STATE n) = s.get (LNK_BRG_STATE_STATE n) := State.get_put_beside _ _ (by decide)
  have ran : (s.withOut []).losClear n = y.iff (s.get (LNK_BRG_STATE_STATE n) == 4) (·.put (LNK_BRG_STATE_STATE n) 1) := by
    rw [← state]
    exact if_neg (show ¬(!s.laneActive n) = true by rw [active]; exact Bool.false_ne_true)
  refine (gives_showsPorts_of (exec_losClear ..) ran).imp fun t shows => ⟨(shows.bit n.isLt (by decide)).trans ?_, fun waits => ?_⟩
  · unfold State.iff
    split
    · exact (State.bit_put_beside _ _ (by decide)).trans (State.bit_set_own _ (by decide))
    · exact State.bit_set_own _ (by decide)
  · refine (shows.get n.isLt (by decide)).trans ?_
    rw [waits]
    exact State.get_put_own _ _ (by decide)

end

/-! ### Losses -/

/-- What follows a lane's fall for a Bearing port leaves the lanes, and all below the PLLs, as they are. -/
theorem State.laneFell_word (s : State) (n : Nat) {a : Nat} (h : a < 0x40050000 ∨ 0x40080000 ≤ a) (low : a < 0x400A0000) :
    (s.laneFell n).word a = s.word a := by
  have source : Within 0x40050000 0x40080000 s (s.iff (s.bearingLane n && s.laneMode n == 4) (·.sourceInvalid 1)) :=
    (Within.refl _ _ s).iff fun x g => g.seq (x.sourceInvalid_within (by decide))
  exact ((State.portsUpdate_low_brg _).word a low).trans (source.word a (low.trans (by decide)) h)

/-- A loss on the lane has been counted. -/
def State.lossCounted (s : State) (n : Nat) : State := (s.satInc (LNK_LOS_COUNT_COUNT n) (LNK_LOS_COUNT_OVF n)).set (LNK_STATUS_CHANGE n)

theorem State.laneLost_eq (s : State) (n fault : Nat) :
    s.laneLost n fault = (s.lossCounted n).iff (s.bit (LNK_STATUS_UP n) && s.dev == .running) (·.report fault n 0) := by
  have dev : (s.lossCounted n).dev = s.dev := (State.satInc_touches ..).dev rfl
  rw [← dev]
  rfl

theorem State.lossCounted_word (s : State) {n a : Nat} (count : a ≠ LNK_LOS_COUNT n) (status : a ≠ LNK_STATUS n) :
    (s.lossCounted n).word a = s.word a :=
  (State.word_put_ne _ _ _ _ status).trans (State.satInc_word_ne (cnt := LNK_LOS_COUNT_COUNT n) (ovf := LNK_LOS_COUNT_OVF n) _ count count)

theorem State.laneLost_within (s : State) (n fault : Nat) : Within 0x40040000 0x40050000 (s.lossCounted n) (s.laneLost n fault) := by
  rw [State.laneLost_eq]
  exact (Within.refl _ _ _).iff fun x h => h.seq (x.report_within ..)

theorem State.laneLost_lnk (s : State) (n fault : Nat) : (s.laneLost n fault).lnk = s.lnk := by
  rw [State.laneLost_eq]
  have counted : (s.lossCounted n).lnk = s.lnk := (State.set_lnk ..).trans ((State.satInc_touches ..).lnk rfl)
  unfold State.iff
  split
  · exact ((State.report_touches ..).lnk rfl).trans counted
  · exact counted

/-- In `z` a loss on lane `n` of `s` has been counted and reported as `fault`, and flags of LNK_STATUS have been written besides. -/
structure LossNoted (s : State) (n fault : Nat) (z : State) : Prop where
  word : ∀ a, a ≠ LNK_STATUS n → z.word a = (s.laneLost n fault).word a
  lnk : z.lnk = s.lnk

section
variable {s z t : State} {n : Fin 24} {fault : Nat} (noted : LossNoted s n fault z)
include noted

/-- A register that neither the lane's status nor its count is, nor one of the guarantee unit. -/
theorem LossNoted.kept {a : Nat} (out : a < 0x40040000 ∨ 0x40050000 ≤ a) (low : a < 0x400C0000) (status : a ≠ LNK_STATUS n)
    (count : a ≠ LNK_LOS_COUNT n) : z.word a = s.word a :=
  (noted.word a status).trans <| ((s.laneLost_within n fault).word a low out).trans (s.lossCounted_word count status)

theorem LossNoted.laneMode : z.laneMode n = s.laneMode n := by
  have bound := n.isLt
  exact State.get_of_word (f := LNK_CFG_MODE n) (noted.kept (a := LNK_CFG n) (by simp only [LNK_CFG]; omega) (by simp only [LNK_CFG]; omega)
    (laneReg_ne (by decide)) (laneReg_ne (by decide)))

theorem LossNoted.laneActive : z.laneActive n = s.laneActive n := by
  have bound := n.isLt
  refine State.laneActive_congr noted.lnk (noted.kept (by decide) (by decide) ?_ ?_)
    (noted.kept ?_ ?_ (laneReg_ne (by decide)) (laneReg_ne (by decide))) (noted.kept ?_ ?_ ?_ ?_) (noted.kept ?_ ?_ ?_ ?_) <;>
  simp only [PWR_RAILS, LNK_STATUS, LNK_LOS_COUNT, LNK_CFG, PLL_STATUS, lanePll, LNK_GROUP_STATUS] <;> omega

/-- The count has taken one more. -/
theorem LossNoted.counted : z.get (LNK_LOS_COUNT_COUNT n) =
    min (s.get (LNK_LOS_COUNT_COUNT n) + 1) (2 ^ (LNK_LOS_COUNT_COUNT n).width - 1) := by
  have bound := n.isLt
  have kept : z.word (LNK_LOS_COUNT n) = (s.lossCounted n).word (LNK_LOS_COUNT n) := (noted.word _ (laneReg_ne (by decide))).trans
    ((s.laneLost_within n fault).word (LNK_LOS_COUNT n) (by simp only [LNK_LOS_COUNT]; omega) (by simp only [LNK_LOS_COUNT]; omega))
  exact (State.get_of_word (f := LNK_LOS_COUNT_COUNT n) kept).trans <| (State.get_put_beside _ _ (by decide)).trans
    (State.satInc_get_own _ (by decide) (by decide))

/-- Where the lane was UP in Running, the fault is pending, and GRD_LAST tells of it. -/
theorem LossNoted.reported (up : s.bit (LNK_STATUS_UP n) = true) (running : s.dev = .running) (hf : fault < 64)
    (latched : (faultRow fault).latched = true) : z.bit (pendingFld fault) = true ∧ z.get GRD_LAST_INSTANCE = n := by
  have dev : (s.lossCounted n).dev ≠ .off := by
    rw [show (s.lossCounted n).dev = s.dev from (State.satInc_touches ..).dev rfl, running]
    decide
  have bound := n.isLt
  have lost : s.laneLost n fault = (s.lossCounted n).report fault n 0 := by
    rw [State.laneLost_eq, up, running]
    rfl
  have pending : z.word (pendingFld fault).addr = (s.laneLost n fault).word (pendingFld fault).addr := noted.word _ (by
    rcases pendingFld_register fault with e | e <;> rw [e] <;> simp only [LNK_STATUS, GRD_PENDING_LO, GRD_PENDING_HI] <;> omega)
  have last : z.word GRD_LAST = (s.laneLost n fault).word GRD_LAST := noted.word _ (by simp only [GRD_LAST, LNK_STATUS]; omega)
  rw [lost] at pending last
  exact ⟨(State.bit_of_word pending).trans (State.report_pending dev hf latched _ _),
    (State.get_of_word (f := GRD_LAST_INSTANCE) last).trans (State.report_last dev hf (by omega) _).2⟩

/-! ### The restart after a loss -/

variable {wait : Bool} (shows : ShowsLanes ((z.laneRestart n wait).laneFell n) t)
omit noted
include shows

/-- A lane's register shows what the restart leaves in it. -/
theorem ShowsLanes.restarted_get {y lo w : Nat} (hy : 0x40080000 ≤ y ∧ y < 0x40080400) :
    t.get ⟨y + n * 0x400, lo, w⟩ = (z.laneRestart n wait).get ⟨y + n * 0x400, lo, w⟩ :=
  have bound := n.isLt
  (shows.get n.isLt hy).trans (State.get_of_word (State.laneFell_word _ _ (by simp only; omega) (by simp only; omega)))

theorem ShowsLanes.restarted_bit {y lo w : Nat} (hy : 0x40080000 ≤ y ∧ y < 0x40080400) :
    t.bit ⟨y + n * 0x400, lo, w⟩ = (z.laneRestart n wait).bit ⟨y + n * 0x400, lo, w⟩ := congrArg (· != 0) (shows.restarted_get hy)

/-- A register of the guarantee unit shows what stood there before the restart. -/
theorem ShowsLanes.restarted_word {a : Nat} (low : a < 0x40050000) (level : a ∉ levelRegs) : t.word a = z.word a :=
  (shows.word a (low.trans (by decide)) level).trans <| (State.laneFell_word _ _ (.inl low) (low.trans (by decide))).trans
    ((z.laneRestart_low n wait).word a (low.trans (by decide)))

include noted

/-- A loss in Running on a lane that was UP shows as pending. -/
theorem LossNoted.shown (up : s.bit (LNK_STATUS_UP n) = true) (running : s.dev = .running) (hf : fault < 64)
    (latched : (faultRow fault).latched = true) : t.bit (pendingFld fault) = true ∧ t.get GRD_LAST_INSTANCE = n := by
  obtain ⟨pending, last⟩ := noted.reported up running hf latched
  have shown : t.word (pendingFld fault).addr = z.word (pendingFld fault).addr := by
    rcases pendingFld_register fault with e | e <;> rw [e] <;> exact shows.restarted_word (by decide) (by decide)
  exact ⟨(State.bit_of_word shown).trans pending,
    (State.get_of_word (f := GRD_LAST_INSTANCE) (shows.restarted_word (by decide) (by decide))).trans last⟩

end

/-- The flags of a loss of signal. -/
def State.losNoted (s : State) (n : Nat) : State := ((s.laneLost n 23).set (LNK_STATUS_LOS n)).clr (LNK_STATUS_SIGNAL n)

/-- The flag of a loss of lock. -/
def State.cdrNoted (s : State) (n : Nat) : State := (s.laneLost n 24).set (LNK_STATUS_CDR_LOL n)

theorem State.losNoted_noted (s : State) (n : Nat) : LossNoted s n 23 (s.losNoted n) where
  word _ status := (State.word_put_ne _ _ _ _ status).trans (State.word_put_ne _ _ _ _ status)
  lnk := s.laneLost_lnk n 23

theorem State.cdrNoted_noted (s : State) (n : Nat) : LossNoted s n 24 (s.cdrNoted n) where
  word _ status := State.word_put_ne _ _ _ _ status
  lnk := s.laneLost_lnk n 24

section
variable {s : State} {n : Fin 24} (active : s.laneActive n = true)
include active

/-- The signal is lost. -/
theorem State.losDeclared_eq (signal : s.bit (LNK_STATUS_SIGNAL n) = true) :
    s.losDeclared n = ((s.losNoted n).laneRestart n true).laneFell n := by
  have declared : s.losDeclare n = (s.losNoted n).laneRestart n true := if_neg (by rw [active, signal]; exact Bool.false_ne_true)
  unfold State.losDeclared
  rw [active, signal, declared]
  rfl

/-- The lock is lost. -/
theorem State.cdrLost_eq (up : s.bit (LNK_STATUS_UP n) = true) : s.cdrLost n = ((s.cdrNoted n).laneRestart n false).laneFell n := by
  have lost : s.cdrLoss n = (s.cdrNoted n).laneRestart n false := if_neg (by rw [active, up]; exact Bool.false_ne_true)
  unfold State.cdrLost
  rw [active, up, lost]
  rfl

/-- A loss of signal takes the lane out of service, is counted, and reported where the lane was UP. -/
theorem gives_losDeclare (signal : s.bit (LNK_STATUS_SIGNAL n) = true) : Gives (.losDeclare n) s fun t =>
    t.bit (LNK_STATUS_LOS n) = true ∧ t.bit (LNK_STATUS_SIGNAL n) = false ∧ t.bit (LNK_STATUS_UP n) = false ∧
    t.get (LNK_LOS_COUNT_COUNT n) = min (s.get (LNK_LOS_COUNT_COUNT n) + 1) (2 ^ (LNK_LOS_COUNT_COUNT n).width - 1) ∧
    (s.laneMode n = 4 → t.get (LNK_BRG_STATE_STATE n) = 4) ∧
    (s.bit (LNK_STATUS_UP n) = true → s.dev = .running → t.bit (pendingFld 23) = true ∧ t.get GRD_LAST_INSTANCE = n) := by
  have ran := State.losDeclared_eq (s := s.withOut []) active signal
  have noted := (s.withOut []).losNoted_noted n
  have los : ((s.withOut []).losNoted n).bit (LNK_STATUS_LOS n) = true :=
    (State.bit_put_beside _ _ (by decide)).trans (State.bit_set_own _ (by decide))
  have none : ((s.withOut []).losNoted n).bit (LNK_STATUS_SIGNAL n) = false := State.bit_clr_own _ (by decide)
  refine (gives_showsAll_of (exec_losDeclare ..) ran).imp fun t shows => ⟨?_, ?_, ?_, ?_, fun bearing => ?_, fun up running => ?_⟩
  · exact (shows.restarted_bit (by decide)).trans <| (State.laneRestart_bit _ _ (by decide)).trans <|
      (congrArg (· != 0) (State.laneFallen_get _ (by decide))).trans los
  · exact (shows.restarted_bit (by decide)).trans <| (State.laneRestart_bit _ _ (by decide)).trans (State.laneFallen_signal none)
  · exact (shows.restarted_bit (by decide)).trans (State.laneRestart_up ..)
  · exact (shows.restarted_get (by decide)).trans <| (State.laneRestart_get _ _ (by decide)).trans <|
      (State.laneFallen_get _ (by decide)).trans noted.counted
  · exact (shows.restarted_get (by decide)).trans (State.laneRestart_state true (noted.laneActive.trans active) (noted.laneMode.trans bearing))
  · exact noted.shown shows up running (by decide) (by decide)

/-- A loss of lock takes the lane out of service, and is reported. -/
theorem gives_cdrLoss (up : s.bit (LNK_STATUS_UP n) = true) : Gives (.cdrLoss n) s fun t => t.bit (LNK_STATUS_CDR_LOL n) = true ∧
    t.bit (LNK_STATUS_UP n) = false ∧ (s.dev = .running → t.bit (pendingFld 24) = true ∧ t.get GRD_LAST_INSTANCE = n) := by
  have ran := State.cdrLost_eq (s := s.withOut []) active up
  have noted := (s.withOut []).cdrNoted_noted n
  have lol : ((s.withOut []).cdrNoted n).bit (LNK_STATUS_CDR_LOL n) = true := State.bit_set_own _ (by decide)
  refine (gives_showsAll_of (exec_cdrLoss ..) ran).imp fun t shows => ⟨?_, ?_, fun running => ?_⟩
  · exact (shows.restarted_bit (by decide)).trans <| (State.laneRestart_bit _ _ (by decide)).trans <|
      (congrArg (· != 0) (State.laneFallen_get _ (by decide))).trans lol
  · exact (shows.restarted_bit (by decide)).trans (State.laneRestart_up ..)
  · exact noted.shown shows up running (by decide) (by decide)

end

/-- Settles O44: test patterns and the eye scan, each step of the bring-up, and the losses, each by the registers and the hidden state of the
lane that it leaves. -/
theorem laneTestAndBringUp : Obligations.LaneTestAndBringUp := fun _ _ =>
  ⟨fun _ _ ok => gives_prbsClear ok, fun _ _ ok idle => gives_eyeScanStart ok idle, fun errors start alone => gives_eyeScanDone errors start alone,
    fun active =>
      ⟨fun locked bits errors test checks => gives_prbsLock active locked bits errors test checks,
        fun cap training => gives_trainingLock active cap training,
        fun _ trained proposed small => ⟨fun still => gives_rateStepSwitch active proposed trained small still,
          fun bits _ stepping => ⟨gives_rateStepEnd_passes active proposed bits stepping,
            fun _ _ bad => gives_rateStepEnd_fails active proposed bits stepping small bad⟩⟩,
        gives_laneSettle active, gives_bringupRetry active, gives_losDeclare active, gives_losClear active, gives_cdrLoss active⟩⟩

end Sys2Proof.Machine

/-!
SUPPORT. A scan DDC that is free when a command ends takes up work in the same step (R635): the retune for its new work closes its unit
early, and what the unit holds enters the DDC's stream port (R582, R591, R610).
-/
namespace Sys2Proof.Machine

/-! ### A unit that is closed early -/

@[simp] theorem State.dd_putDd (s : State) {d : Nat} (h : d < 8) (v : DdcState) : (s.putDd d v).dd d = v := by
  simp [State.putDd, State.dd, h]

theorem State.dd_of_ddc {s t : State} (h : t.ddc = s.ddc) (d : Nat) : t.dd d = s.dd d := congrArg (fun v => v[d]?.getD DdcState.fresh) h

/-- Samples that pass a DDC add the outputs that they complete to its unit. -/
theorem State.ddcPass_unit (s : State) {d : Nat} (h : d < 8) (k : Nat) : ((s.ddcPass d k).dd d).cfg = (s.dd d).cfg ∧
    ∃ ws, ((s.ddcPass d k).dd d).words = (s.dd d).words ++ ws ∧
      ws.length = ((s.dd d).part + k) / (s.dd d).step - (s.dd d).part / (s.dd d).step := by
  unfold State.ddcPass
  extract_lets v n outs moved ws left held done
  have flagged : (done.iff (outs != 0) fun s => s.putB (DDC_STATUS_UNSETTLED d) (left != 0)).ddc = done.ddc := by
    unfold State.iff
    split
    · exact State.putB_ddc ..
    · rfl
  have shown : ∀ draws, ((done.iff (outs != 0) fun s => s.putB (DDC_STATUS_UNSETTLED d) (left != 0)).picked draws).dd d = done.dd d :=
    fun _ => State.dd_of_ddc ((State.picked_ddc ..).trans flagged) d
  have unit : done.dd d = { moved.dd d with
    words := v.words ++ ws.map (·.1), unitSat := v.unitSat || ws.any (·.2.1), unitClip := v.unitClip || ws.any (·.2.2), unsettled := left } :=
    State.dd_putDd _ h _
  have before : moved.dd d = _ := State.dd_putDd _ h _
  rw [shown, unit, before]
  exact ⟨rfl, ws.map (·.1), rfl, by rw [List.length_map, List.length_map, List.length_range]⟩

/-- The unit in progress with as much of it as has passed by an early end, and how long it is. -/
theorem State.ddcSome_unit {s : State} {d : Nat} (h : d < 8) (running : s.ddcRunning d = true) (begun : (s.dd d).words ≠ []) :
    ((s.ddcSome d).dd d).cfg = (s.dd d).cfg ∧ ((s.ddcSome d).dd d).words ≠ [] ∧
      ((s.ddcSome d).dd d).words.length ≤ (s.dd d).words.length + ((s.dd d).part + s.unitRest d) / (s.dd d).step := by
  have ran : s.ddcSome d = s.drawn.ddcPass d (s.draw % max 1 (s.unitRest d)) := by
    unfold State.ddcSome
    rw [running]
    rfl
  obtain ⟨cfg, ws, words, length⟩ := s.drawn.ddcPass_unit h (s.draw % max 1 (s.unitRest d))
  have part : s.draw % max 1 (s.unitRest d) ≤ s.unitRest d := by
    have := Nat.mod_lt s.draw (show 0 < max 1 (s.unitRest d) by omega)
    omega
  rw [ran]
  refine ⟨cfg, ?_, ?_⟩
  · rw [words]
    exact List.append_ne_nil_of_left_ne_nil begun _
  · rw [words, List.length_append, length]
    exact Nat.add_le_add_left ((Nat.sub_le _ _).trans (Nat.div_le_div_right (Nat.add_le_add_left part _))) _

theorem unitBeats_ne_nil {first last : Nat} {ws : List Nat} (h : ws ≠ []) : unitBeats first last ws ≠ [] := by
  match ws, h with
  | [_], _ => exact List.cons_ne_nil _ _
  | _ :: _ :: _, _ => exact List.cons_ne_nil _ _

/-- A unit that DEST sends to the fabric enters its port where it has room. -/
theorem State.ddcRelease_enters {s : State} {d : Nat} (h : d < 8) (fabric : bitsOf (s.dd d).cfg 28 1 = 1) (begun : (s.dd d).words ≠ [])
    (live : s.portLive 1 = true) (room : s.streamRoom (ddcPort d) (s.dd d).words.length = true) :
    ((s.ddcRelease d true).strm (ddcPort d)).buf ≠ [] := by
  have port : ddcPort d < 85 := by unfold ddcPort; omega
  have passes : (true && (s.drawn.ddcForget d).portLive 1 && (s.drawn.ddcForget d).streamRoom (ddcPort d) (s.dd d).words.length) = true := by
    have live' : (s.drawn.ddcForget d).portLive 1 = true := live
    have room' : (s.drawn.ddcForget d).streamRoom (ddcPort d) (s.dd d).words.length = true := room
    rw [live', room']
    rfl
  have ran : s.ddcRelease d true = (s.drawn.ddcForget d).streamPush (ddcPort d) (unitBeats (s.unitUser d) 0 ((s.dd d).words.map (·.toNat))) := by
    unfold State.ddcRelease
    dsimp only
    rw [if_neg (by simpa [fabric] using begun), if_pos passes]
  rw [ran, State.streamPush_buf _ port]
  exact List.append_ne_nil_of_right_ne_nil _ (unitBeats_ne_nil (by simpa using begun))

/-- A restart closes a unit early, and its port holds it. -/
theorem State.ddcCloseEarly_enters {s : State} {d : Nat} (h : d < 8) (running : s.ddcRunning d = true) (begun : (s.dd d).words ≠ [])
    (fabric : bitsOf (s.dd d).cfg 28 1 = 1) (live : s.portLive 1 = true)
    (room : (s.strm (ddcPort d)).buf.length + ((s.dd d).words.length + ((s.dd d).part + s.unitRest d) / (s.dd d).step) ≤ streamCap (ddcPort d)) :
    ((s.ddcCloseEarly d).strm (ddcPort d)).buf ≠ [] := by
  obtain ⟨cfg, words, length⟩ := State.ddcSome_unit h running begun
  have some_ := s.ddcSome_touches d
  have flags := (s.ddcSome d).ddcFlags_touches d
  have unit : ((s.ddcSome d).ddcFlags d).dd d = (s.ddcSome d).dd d := State.dd_of_ddc (flags.ddc rfl) d
  have port : ((s.ddcSome d).ddcFlags d).strm (ddcPort d) = s.strm (ddcPort d) := State.strm_of_str ((flags.str rfl).trans (some_.str rfl)) _
  have released : ((s.ddcSome d).ddcFlags d).bit FAB_STATUS_RELEASED = s.bit FAB_STATUS_RELEASED :=
    State.bit_of_word ((((s.ddcSome d).ddcFlags_low d).seq (Nat.le_refl _) (s.ddcSome_low d)).word _ (by decide))
  have live' : ((s.ddcSome d).ddcFlags d).portLive 1 = true := by
    rw [← live, State.portLive, State.portLive, released, State.isolatedR, State.isolatedR, flags.fab rfl, some_.fab rfl]
  have ran : s.ddcCloseEarly d = ((s.ddcSome d).ddcFlags d).ddcRelease d true := by
    unfold State.ddcCloseEarly State.iff
    exact if_pos (by simpa using words)
  rw [ran]
  refine State.ddcRelease_enters h (by rw [unit, cfg, fabric]) (by rw [unit]; exact words) live' ?_
  rw [State.streamRoom, port, unit, decide_eq_true_eq]
  omega

/-! ### A scan DDC that takes up work -/

/-- Each split of D gives it, within the ranges of both factors (R573). -/
theorem decSplits_product {d : Nat} {x : Nat × Nat} (h : x ∈ decSplits d) : x.1 * x.2 = d ∧ x.1 ≤ 16384 ∧ 1 ≤ x.2 ∧ x.2 ≤ 16 := by
  obtain ⟨k, low, split⟩ := List.mem_filterMap.mp h
  have k16 := List.mem_range.mp low
  split at split
  · next whole =>
    cases split
    exact ⟨Nat.div_mul_cancel (Nat.dvd_of_mod_eq_zero whole.1), whole.2, by omega, by omega⟩
  · cases split

/-- The split that a retune for an AM context draws. -/
theorem decSplits_am {i : Nat} {x : Nat × Nat} (h : x = (decSplits 32000).getD i (4, 8)) :
    4 ≤ x.1 ∧ x.1 ≤ 16384 ∧ 1 ≤ x.2 ∧ x.2 ≤ 16 ∧ 32 ≤ x.1 * x.2 ∧ x.1 * x.2 ≤ 262144 := by
  subst h
  by_cases inside : i < (decSplits 32000).length
  · obtain ⟨product, cic, low, fir⟩ := decSplits_product (List.getElem_mem inside)
    rw [List.getD_eq_getElem _ _ inside]
    refine ⟨?_, cic, low, fir, by omega, by omega⟩
    by_contra small
    have := Nat.mul_le_mul (show (decSplits 32000)[i].1 ≤ 3 by omega) fir
    omega
  · rw [List.getD_eq_default _ _ (Nat.le_of_not_lt inside)]
    decide

/-- A field of a register reads as before where another field of it is put. -/
theorem State.get_put_field (s : State) {a lo w lo' w' : Nat} (v : Nat) (h : lo + w ≤ lo' ∨ lo' + w' ≤ lo) (fits : lo' + w' ≤ 32) :
    (s.put ⟨a, lo, w⟩ v).get ⟨a, lo', w'⟩ = s.get ⟨a, lo', w'⟩ := by
  refine State.get_put_disjoint _ _ _ _ fits ?_
  simp only [Fld.disjoint, Bool.or_eq_true, decide_eq_true_eq]
  omega

/-- A decimation that the block sets for a context in AM, on a DDC in SCS mode, is within its limits (R573, R575). -/
theorem State.ownedFilter_limits {s : State} {d c : Nat} (scs : cfgScs (s.word (DDC_CFG d)) = true) (am : s.ownedD c = 32000) :
    (s.ownedFilter d c).ddcLimitsOk d = true := by
  unfold State.ownedFilter
  extract_lets splits x drawn taps drawn2 dec v bank w
  have split : x = (decSplits 32000).getD (s.draw % max 1 splits.length) (4, 8) := by rw [← am]
  obtain ⟨cicLow, cicHigh, firLow, firHigh, low, high⟩ := decSplits_am split
  have cic : bitsOf (dec.word (DDC_DEC d)) 0 15 = x.1 :=
    (State.get_put_field (lo' := 0) (w' := 15) _ _ (.inr (by decide)) (by decide)).trans <|
      (State.get_put_field (lo' := 0) (w' := 15) _ _ (.inr (by decide)) (by decide)).trans <|
      (State.get_put_same _ (DDC_DEC_DCIC d) _ (Nat.le_of_ble_eq_true rfl)).trans (Nat.mod_eq_of_lt (by show x.1 < 32768; omega))
  have fir : bitsOf (dec.word (DDC_DEC d)) 16 4 = x.2 - 1 :=
    (State.get_put_field (lo' := 16) (w' := 4) _ _ (.inr (by decide)) (by decide)).trans <|
      (State.get_put_same _ (DDC_DEC_DFIR d) _ (Nat.le_of_ble_eq_true rfl)).trans (Nat.mod_eq_of_lt (by show x.2 - 1 < 16; omega))
  have product : decD (dec.word (DDC_DEC d)) = x.1 * x.2 := by rw [decD, cic, fir, Nat.sub_add_cancel firLow]
  have cfg : dec.word (DDC_CFG d) = s.word (DDC_CFG d) := by
    have apart : DDC_CFG d ≠ DDC_DEC d := by simp only [DDC_CFG, DDC_DEC]; omega
    exact (State.word_put_ne _ _ _ _ apart).trans ((State.word_put_ne _ _ _ _ apart).trans (State.word_put_ne _ _ _ _ apart))
  have word : ∀ a, ((dec.putDd d { w with dirty := true }).drawnBytes 320).word a = dec.word a :=
    fun _ => (State.drawnBytes_word ..).trans (State.putDd_word ..)
  simp only [State.ddcLimitsOk, word, cic, product, cfg, scs, decOk, cicLow, cicHigh, low, high, decide_true, Bool.and_self, Bool.true_or]

/-- The block's filter for a context changes DDC_DEC and the coefficients, and its settings wait for a retune. -/
theorem State.ownedFilter_word (s : State) {d c a : Nat} (h : a ≠ DDC_DEC d) : (s.ownedFilter d c).word a = s.word a := by
  unfold State.ownedFilter
  extract_lets splits x drawn taps drawn2 dec v bank w
  rw [State.drawnBytes_word, State.putDd_word]
  exact (State.word_put_ne _ _ _ _ h).trans ((State.word_put_ne _ _ _ _ h).trans (State.word_put_ne _ _ _ _ h))

theorem State.ownedFilter_dd (s : State) {d c : Nat} (h : d < 8) :
    ∃ a b, (s.ownedFilter d c).dd d = { s.dd d with bankA := a, bankB := b, dirty := true } := by
  unfold State.ownedFilter
  extract_lets splits x drawn taps drawn2 dec v bank w
  have held : ((dec.putDd d { w with dirty := true }).drawnBytes 320).dd d = { w with dirty := true } :=
    (State.dd_of_ddc (State.drawnBytes_ddc ..) d).trans (State.dd_putDd _ h _)
  rw [held]
  by_cases active : dec.bit (DDC_STATUS_ACTIVE_BANK d) = true
  · exact ⟨v.bankA, bank, by simp only [w, if_pos active]; rfl⟩
  · exact ⟨bank, v.bankB, by simp only [w, if_neg active]; rfl⟩

/-- DDC `d`, free to scan for context `c` in AM with part of a unit made, would close that unit and have room for it in its port. -/
structure State.HoldsUnit (s : State) (d c : Nat) : Prop where
  running : s.ddcRunning d = true
  still : s.bit (DDC_STATUS_HOPPING d) = false
  scs : cfgScs (s.word (DDC_CFG d)) = true
  am : s.ownedD c = 32000
  begun : (s.dd d).words ≠ []
  fabric : bitsOf (s.dd d).cfg 28 1 = 1
  live : s.portLive 1 = true
  room : (s.strm (ddcPort d)).buf.length + ((s.dd d).words.length + ((s.dd d).part + s.unitRest d) / (s.dd d).step) ≤ streamCap (ddcPort d)

/-- The retune of a DDC whose decimation the block has set closes the unit in progress into its port. -/
theorem State.HoldsUnit.enters {s : State} {d c : Nat} (u : s.HoldsUnit d c) (h : d < 8) :
    (((s.ownedFilter d c).retune d false).strm (ddcPort d)).buf ≠ [] := by
  have kept := s.ownedFilter_touches d c
  obtain ⟨a, b, dd⟩ := s.ownedFilter_dd (c := c) h
  have status : (s.ownedFilter d c).word (DDC_STATUS d) = s.word (DDC_STATUS d) :=
    s.ownedFilter_word (by simp only [DDC_STATUS, DDC_DEC]; omega)
  have still : (s.ownedFilter d c).bit (DDC_STATUS_HOPPING d) = false := (State.bit_of_word status).trans u.still
  have running : (s.ownedFilter d c).ddcRunning d = true := (State.bit_of_word (f := DDC_STATUS_RUNNING d) status).trans u.running
  have rest : (s.ownedFilter d c).unitRest d = s.unitRest d := by
    simp only [State.unitRest, State.unitLen, still, u.still, dd]
    rfl
  have live : (s.ownedFilter d c).portLive 1 = true := by
    have released : (s.ownedFilter d c).bit FAB_STATUS_RELEASED = s.bit FAB_STATUS_RELEASED :=
      State.bit_of_word ((s.ownedFilter_low d c).word _ (by decide))
    rw [← u.live, State.portLive, State.portLive, released, State.isolatedR, State.isolatedR, kept.fab rfl]
  have ran : (s.ownedFilter d c).retune d false =
      (((s.ownedFilter d c).ddcCloseEarly d).ddcClear d |>.ddcApplySettings d).latch d false true := by
    have dirty : ((s.ownedFilter d c).dd d).dirty = true := by rw [dd]
    rw [State.retune, if_neg (by rw [still]; exact Bool.false_ne_true), if_pos dirty, if_pos (State.ownedFilter_limits u.scs u.am)]
  have str : ((s.ownedFilter d c).retune d false).str = ((s.ownedFilter d c).ddcCloseEarly d).str := by
    rw [ran]
    exact ((State.latch_touches ..).str rfl).trans (((State.ddcApplySettings_touches ..).str rfl).trans ((State.ddcClear_touches ..).str rfl))
  rw [State.strm_of_str str]
  refine State.ddcCloseEarly_enters h running ?_ ?_ live ?_
  · rw [dd]; exact u.begun
  · rw [dd]; exact u.fabric
  · rw [rest, State.strm_of_str (kept.str rfl), dd]; exact u.room

/-- The registers of a scan DDC that has been given a context's hop list. -/
def State.scanListed (s : State) (d c : Nat) : State :=
  let es := (s.afUsable c).take 16
  let s := s.each (es.zip (List.range 16)) fun s (p : Nat × Nat) =>
    s.putWord (DDC_HOP d p.2) (BitVec.ofNat 32 (hzFw (s.get (CTX_AFE_HZ c p.1))))
  let s := (s.set (DDC_HOP_CFG_ONCE d)).put (DDC_HOP_CFG_COUNT d) (es.length - 1)
  s.put (DDC_HOP_CFG_DWELL d) (max 1 (s.get BCD_CFG_SCAN_DWELL))

/-- A scan DDC that takes up a context of another decimation leaves the ports as its retune does. -/
theorem State.scanProgram_str {s : State} {d c : Nat} (usable : (s.afUsable c).take 16 ≠ [])
    (other : decD ((s.scanListed d c).word (DDC_DEC d)) ≠ (s.scanListed d c).ownedD c) :
    (s.scanProgram d c).str = (((s.scanListed d c).ownedFilter d c).retune d false).str := by
  have retuned : (s.scanListed d c).iff (decD ((s.scanListed d c).word (DDC_DEC d)) != (s.scanListed d c).ownedD c)
      (fun s => (s.ownedFilter d c).retune d false) = ((s.scanListed d c).ownedFilter d c).retune d false := if_pos (by simpa using other)
  have hops : ∀ x : State, (x.withGen d (·.hopStart d)).str = x.str := fun x => by
    unfold State.withGen
    dsimp only
    split
    · exact (x.hopStart_touches d).str rfl
    · exact ((State.ctxGen_touches ..).str rfl).trans ((x.hopStart_touches d).str rfl)
  rw [← retuned]
  unfold State.scanProgram
  rw [if_neg (by simpa using usable)]
  exact hops _

/-- A free scan DDC takes up work. -/
def State.scanTake (s : State) (d : Nat) : State :=
  if s.scanDdc d && s.ddcRunning d && !(s.scan.any fun (p : Nat × Nat) => p.1 == d) then
    match s.scanNext ((s.scan.getLast?.map fun (p : Nat × Nat) => p.2).getD 3) with
    | some c => s.scanProgram d c
    | none => s
  else s

theorem State.scanAssign_eq (s : State) :
    s.scanAssign = (s.withScan (s.scan.filter fun (p : Nat × Nat) => s.scanDdc p.1)).each (List.range 8) State.scanTake := rfl

theorem State.scanTake_busy {s : State} {d : Nat}
    (h : (s.scanDdc d && s.ddcRunning d && !(s.scan.any fun (p : Nat × Nat) => p.1 == d)) = false) : s.scanTake d = s :=
  if_neg (by rw [h]; exact Bool.false_ne_true)

theorem State.scanTake_free {s : State} {d c : Nat}
    (h : (s.scanDdc d && s.ddcRunning d && !(s.scan.any fun (p : Nat × Nat) => p.1 == d)) = true)
    (next : s.scanNext ((s.scan.getLast?.map fun (p : Nat × Nat) => p.2).getD 3) = some c) : s.scanTake d = s.scanProgram d c := by
  rw [State.scanTake, if_pos h, next]

/-- A run whose every step leaves the state as it is. -/
theorem State.each_id {α : Type} {s : State} {xs : List α} {f : State → α → State} (h : ∀ a ∈ xs, f s a = s) : s.each xs f = s := by
  unfold State.each
  induction xs with
  | nil => rfl
  | cons a as ih =>
    rw [List.foldl_cons, h a List.mem_cons_self]
    exact ih fun b mem => h b (List.mem_cons_of_mem _ mem)

theorem State.each_append {α : Type} (s : State) (xs ys : List α) (f : State → α → State) :
    s.each (xs ++ ys) f = (s.each xs f).each ys f := List.foldl_append

theorem State.each_one {α : Type} (s : State) (a : α) (f : State → α → State) : s.each [a] f = f s a := rfl

/-! ### The counterexample -/

/-- A member of a net in Running with port 0 UP. DDC 7 is owned, in SCS mode at D = 8,000, and scans; one output of its unit has been made
for the fabric. Context 0 in AM has one alternative frequency to be measured, and no DDC has taken it up. Every register not named reads 0. -/
def freeScanner : State :=
  let s := { State.reset with regs := [], dev := .running }
  let s := ((s.putWord PWR_RAILS 0x3F3F).set FAB_STATUS_RELEASED).put CFG_LANDFALL_ROLE 1
  let s := (s.put (BRG_PORT_STATUS_STATE 0) 3).putWord BCD_CFG 0x80800000
  let s := ((s.putWord (CTX_CFG 0) 0xA1000000).set (CTX_AFE_VALID 0 0)).set (DDC_STATUS_RUNNING 7)
  let s := (s.putWord (DDC_CFG 7) 0xD2000000).putWord (DDC_DEC 7) 0x000703E8
  s.putDd 7 { DdcState.fresh with cfg := 0xD2000000, dec := 0x000703E8, words := [0], part := 32000 }

/-- The state once the frame has been counted, up to what the scan does in the same step. -/
def freeScannerCounted : State := ((freeScanner.withOut []).brgDropIn 0).monSlotCheck.monChallenge.monBaud.bcdRefresh

/-- The same, with the DDCs that no longer scan off the list. -/
def freeScannerListed : State :=
  freeScannerCounted.withScan (freeScannerCounted.scan.filter fun (p : Nat × Nat) => freeScannerCounted.scanDdc p.1)

/-- A DDC that is at work already, or is no scan DDC, takes up nothing. -/
theorem freeScannerListed_others : ∀ d < 7, (freeScannerListed.scanDdc d && freeScannerListed.ddcRunning d &&
    !(freeScannerListed.scan.any fun (p : Nat × Nat) => p.1 == d)) = false := by
  decide +kernel

theorem freeScannerListed_takes : (freeScannerListed.scanDdc 7 && freeScannerListed.ddcRunning 7 &&
      !(freeScannerListed.scan.any fun (p : Nat × Nat) => p.1 == 7)) = true ∧
    freeScannerListed.scanNext ((freeScannerListed.scan.getLast?.map fun (p : Nat × Nat) => p.2).getD 3) = some 0 ∧
    (freeScannerListed.afUsable 0).take 16 ≠ [] ∧
    decD ((freeScannerListed.scanListed 7 0).word (DDC_DEC 7)) ≠ (freeScannerListed.scanListed 7 0).ownedD 0 := by
  decide +kernel

theorem freeScannerListed_holdsUnit : (freeScannerListed.scanListed 7 0).HoldsUnit 7 0 where
  running := by decide +kernel
  still := by decide +kernel
  scs := by decide +kernel
  am := by decide +kernel
  begun := by decide +kernel
  fabric := by decide +kernel
  live := by decide +kernel
  room := by decide +kernel

/-- DDC 7 takes up the context, and its unit stands in its port. -/
theorem freeScannerCounted_enters : (freeScannerCounted.scanAssign.strm (ddcPort 7)).buf ≠ [] := by
  obtain ⟨free, next, usable, other⟩ := freeScannerListed_takes
  have idle : freeScannerListed.each (List.range 7) State.scanTake = freeScannerListed :=
    State.each_id fun d mem => State.scanTake_busy (freeScannerListed_others d (List.mem_range.mp mem))
  have ran : freeScannerCounted.scanAssign = freeScannerListed.scanProgram 7 0 := by
    rw [State.scanAssign_eq, ← freeScannerListed, List.range_succ, State.each_append, idle, State.each_one, State.scanTake_free free next]
  rw [ran, State.strm_of_str (State.scanProgram_str usable other)]
  exact freeScannerListed_holdsUnit.enters (by decide)

theorem exec_brgDataFrame (p : Fin 4) (second : Bool) (frame : List Byte) (aborted room : Bool) (s : State) :
    exec (.brgDataFrame p second frame aborted room) s =
      actAll (fun s => s.brgFrameIn p.val second frame aborted (room && s.portLive 7)) s := rfl

/-- A frame that a transit part ended with an error is dropped whole and counted (log entry 36). -/
theorem State.brgFrameIn_aborted {s : State} {p : Nat} (on : s.brgOn = true) (keying : 2 ≤ s.portState p) (second : Bool) (frame : List Byte)
    (room : Bool) : s.brgFrameIn p second frame true room = s.brgDropIn 0 := by
  unfold State.brgFrameIn
  dsimp only
  rw [if_neg (by simp [on]; omega), if_pos rfl]

/-- Refutes O45: a frame that a transit part ended with an error changes nothing of the Bearing link but its count, and yet the stream ports
are not as they were where a scan DDC takes up work in the same step (R582, R635). -/
theorem not_bearingKeysAndRekeys : ¬ Obligations.BearingKeysAndRekeys := by
  intro h
  obtain ⟨-, -, -, -, -, -, -, -, -, aborted⟩ := h freeScanner 0 (by decide +kernel)
  obtain ⟨-, kept, -⟩ := (aborted false [] true (by decide +kernel)).after_actAll (exec_brgDataFrame ..)
  have dropped : (freeScanner.withOut []).brgFrameIn (0 : Fin 4).val false [] true (true && (freeScanner.withOut []).portLive 7) =
      (freeScanner.withOut []).brgDropIn 0 := State.brgFrameIn_aborted (by decide +kernel) (by decide +kernel) _ _ _
  have reacts : ((freeScanner.withOut []).brgDropIn 0).refresh.str = freeScannerCounted.scanAssign.str := by
    rw [State.refresh_steady _ (by decide +kernel)]
    exact (State.lmdRefresh_touches _).str rfl
  rw [dropped, State.settle_str, reacts] at kept
  exact freeScannerCounted_enters (congrArg StreamPort.buf (State.strm_of_str kept (ddcPort 7)))

end Sys2Proof.Machine

/-!
SUPPORT. The Bearing link at the end of a command: what of it the reactions of the other blocks leave, the ports' hidden state, frames that
the engine queues, and the map of excluded parts.
-/
namespace Sys2Proof.Machine

/-! ### What the end of a command shows of the Bearing link -/

theorem State.brgOn_running {s : State} (on : s.brgOn = true) : s.dev = .running := by
  simp only [State.brgOn, Bool.and_eq_true, beq_iff_eq] at on
  exact on.1.2

/-- `t` shows what a command has left in `x` of the Bearing link, of landfall and of the registers below the cipher engine's, and what it
sent out. -/
structure ShowsBrg (x t : State) : Prop where
  word : ∀ a, a < 0x400C0000 → a ∉ levelRegs → t.word a = x.word a
  landfall : t.bit SYS_SERVICE_LANDFALL = x.bit SYS_SERVICE_LANDFALL
  brg : t.brg = x.brg
  out : ∀ o ∈ x.out, o ∈ t.out

theorem State.refresh_settle_showsBrg {x : State} (running : x.dev = .running) : ShowsBrg x x.refresh.settle where
  word _ low level := State.refresh_settle_word x low level
  landfall := (State.settle_bit _ _ (by decide) (by decide)).trans (State.refresh_bit x _ (by decide))
  brg := (State.settle_brg _).trans ((State.refresh_steady_touches x (by rw [running]; decide)).brg rfl)
  out _ sent := State.out_refresh_settle sent

/-- A command of the Bearing link in service shows the state that its effect is shown to be. -/
theorem gives_showsBrg {c : Instr} {f : State → State} {s x : State} (e : exec c s = actAll f s) (ran : f (s.withOut []) = x)
    (running : x.dev = .running) : Gives c s (ShowsBrg x) := by
  refine gives_actAll e ?_
  rw [ran]
  exact State.refresh_settle_showsBrg running

section
variable {x t : State} (h : ShowsBrg x t)
include h

theorem ShowsBrg.get {f : Fld} (low : f.addr < 0x400C0000) (level : f.addr ∉ levelRegs) : t.get f = x.get f :=
  State.get_of_word (h.word _ low level)

theorem ShowsBrg.bit {f : Fld} (low : f.addr < 0x400C0000) (level : f.addr ∉ levelRegs) : t.bit f = x.bit f :=
  State.bit_of_word (h.word _ low level)

theorem ShowsBrg.bport (p : Nat) : t.bport p = x.bport p := by rw [State.bport, State.bport, h.brg]

theorem ShowsBrg.isCounted (id : Nat) : t.isCounted id = x.isCounted id := by rw [State.isCounted, State.isCounted, h.brg]

end

/-- Putting back what a command register holds, and the response, leave what a command shows of the link. -/
theorem ShowsBrg.complete {x t : State} {m code : Nat} {data : Word} (h : ShowsBrg (x.complete m code data) t) : ShowsBrg x t where
  word := h.word
  landfall := h.landfall
  brg := h.brg
  out o sent := h.out o (State.out_complete sent m code data)

/-! ### Ports and queued frames -/

@[simp] theorem State.putBport_bport (s : State) (p : Fin 4) (v : BrgPort) : (s.putBport p v).bport p = v := by
  simp [State.putBport, State.bport]

theorem State.bport_of_brg {s t : State} (h : t.brg = s.brg) (p : Nat) : t.bport p = s.bport p := by rw [State.bport, State.bport, h]

/-- An UP port is among those that a broadcast leaves on. -/
theorem State.upPortsBut_ne_nil {s : State} {p : Fin 4} (up : s.portState p = 3) : s.upPortsBut 4 ≠ [] := by
  refine List.ne_nil_of_mem (a := p.val) (List.mem_filter.mpr ⟨List.mem_range.mpr p.isLt, ?_⟩)
  have named : p.val ≠ 4 := by omega
  simp [State.portUp, up, named]

/-- A broadcast of the engine queues one frame for its ports; of the Bearing link it changes the queue alone. -/
theorem State.brgBroadcast_brg (s : State) (ports : List Nat) (payload : List Byte) :
    ∃ q, (s.brgBroadcast ports payload).brg = { s.brg with queue := q } := by
  unfold State.brgBroadcast
  split
  · exact ⟨_, rfl⟩
  · exact ⟨_, rfl⟩

theorem State.brgBroadcast_queues {s : State} {ports : List Nat} (some_ : ports ≠ []) (payload : List Byte) :
    ∃ f, (s.brgBroadcast ports payload).brg.queue = s.brg.queue ++ [f] ∧ f.bcast = true ∧ f.payload = payload := by
  unfold State.brgBroadcast
  rw [if_neg (by simpa using some_)]
  exact ⟨_, rfl, rfl, rfl⟩

theorem State.brgBroadcast_word (s : State) (ports : List Nat) (payload : List Byte) (a : Nat) :
    (s.brgBroadcast ports payload).word a = s.word a := congrArg (cellRead · a) ((s.brgBroadcast_touches ports payload).regs rfl)

/-- A frame to the neighbour goes to the end of the queue. -/
theorem State.brgToNeighbour_queues (s : State) (p cls channel : Nat) (payload : List Byte) :
    ∃ f, (s.brgToNeighbour p cls channel payload).brg.queue = s.brg.queue ++ [f] ∧ f.cls = cls ∧ f.payload = payload ∧ f.copies = [(p, 0)] :=
  ⟨_, rfl, rfl, rfl, rfl⟩

theorem State.brgElect_brg (s : State) : s.brgElect.brg = s.brg := (s.brgElect_touches).brg rfl

/-! ### The map of excluded parts (R204) -/

theorem exclFld_register (id : Nat) : (exclFld id).addr = CFG_LANDFALL_EXCL_LO ∨ (exclFld id).addr = CFG_LANDFALL_EXCL_HI := by
  unfold exclFld
  split
  · exact .inl rfl
  · exact .inr rfl

theorem exclFld_fits {id : Nat} (h : id < 64) : (exclFld id).lo + (exclFld id).width ≤ 32 ∧ (exclFld id).width = 1 := by
  unfold exclFld
  split
  · exact ⟨by show id + 1 ≤ 32; omega, rfl⟩
  · exact ⟨by show id - 32 + 1 ≤ 32; omega, rfl⟩

theorem exclFld_disjoint {i j : Nat} (h : i ≠ j) : (exclFld i).disjoint (exclFld j) = true := by
  unfold exclFld Fld.disjoint
  simp only [Bool.or_eq_true, decide_eq_true_eq]
  split <;> split <;> simp [CFG_LANDFALL_EXCL_LO, CFG_LANDFALL_EXCL_HI] <;> omega

/-- Which parts are excluded depends on the two words of the map. -/
theorem State.excluded_of_words {s t : State} (lo : t.word CFG_LANDFALL_EXCL_LO = s.word CFG_LANDFALL_EXCL_LO)
    (hi : t.word CFG_LANDFALL_EXCL_HI = s.word CFG_LANDFALL_EXCL_HI) (id : Nat) : t.excluded id = s.excluded id := by
  refine State.bit_of_word ?_
  rcases exclFld_register id with e | e <;> rw [e]
  · exact lo
  · exact hi

theorem State.excluded_put_ne (s : State) {f : Fld} (v : Nat) (lo : CFG_LANDFALL_EXCL_LO ≠ f.addr) (hi : CFG_LANDFALL_EXCL_HI ≠ f.addr)
    (id : Nat) : (s.put f v).excluded id = s.excluded id :=
  State.excluded_of_words (State.word_put_ne _ _ _ _ lo) (State.word_put_ne _ _ _ _ hi) id

theorem State.excluded_set_same (s : State) {id : Nat} (h : id < 64) : (s.set (exclFld id)).excluded id = true :=
  s.bit_set_same _ (exclFld_fits h).1 (by rw [(exclFld_fits h).2]; exact Nat.one_ne_zero)

theorem State.excluded_clr_same (s : State) {id : Nat} (h : id < 64) : (s.clr (exclFld id)).excluded id = false :=
  s.bit_clr_same _ (exclFld_fits h).1

theorem State.excluded_set_ne (s : State) {i j : Nat} (h : j < 64) (ne : i ≠ j) : (s.set (exclFld i)).excluded j = s.excluded j :=
  s.bit_set_disjoint _ _ (exclFld_fits h).1 (exclFld_disjoint ne)

theorem ShowsBrg.excluded {x t : State} (h : ShowsBrg x t) (id : Nat) : t.excluded id = x.excluded id :=
  State.excluded_of_words (h.word _ (by decide) (by decide)) (h.word _ (by decide) (by decide)) id

/-- The map that has been put, part by part and whole. -/
theorem State.excluded_putExcl (s : State) (m : Nat) {id : Nat} (h : id < 64) : (s.putExcl m).excluded id = m.testBit id := by
  unfold State.excluded exclFld
  split
  · next low =>
    have word : (s.putExcl m).word CFG_LANDFALL_EXCL_LO = BitVec.ofNat 32 m :=
      (State.word_putWord_ne _ _ _ _ (by decide)).trans (State.word_putWord_same ..)
    show (bitsOf ((s.putExcl m).word CFG_LANDFALL_EXCL_LO) id 1 != 0) = _
    rw [word, bitsOf_one, BitVec.getLsbD_ofNat, decide_eq_true low, Bool.true_and]
  · next high =>
    have word : (s.putExcl m).word CFG_LANDFALL_EXCL_HI = BitVec.ofNat 32 (m / 2 ^ 32) := State.word_putWord_same ..
    show (bitsOf ((s.putExcl m).word CFG_LANDFALL_EXCL_HI) (id - 32) 1 != 0) = _
    rw [word, bitsOf_one, BitVec.getLsbD_ofNat, decide_eq_true (show id - 32 < 32 by omega), Bool.true_and, Nat.testBit_div_two_pow,
      Nat.sub_add_cancel (Nat.le_of_not_lt high)]

theorem State.exclMap_of_words {s t : State} (lo : t.word CFG_LANDFALL_EXCL_LO = s.word CFG_LANDFALL_EXCL_LO)
    (hi : t.word CFG_LANDFALL_EXCL_HI = s.word CFG_LANDFALL_EXCL_HI) : t.exclMap = s.exclMap := by
  rw [State.exclMap, State.exclMap, lo, hi]

theorem State.exclMap_putExcl (s : State) {m : Nat} (h : m < 2 ^ 64) : (s.putExcl m).exclMap = m := by
  have lo : (s.putExcl m).word CFG_LANDFALL_EXCL_LO = BitVec.ofNat 32 m :=
    (State.word_putWord_ne _ _ _ _ (by decide)).trans (State.word_putWord_same ..)
  have hi : (s.putExcl m).word CFG_LANDFALL_EXCL_HI = BitVec.ofNat 32 (m / 2 ^ 32) := State.word_putWord_same ..
  rw [State.exclMap, lo, hi, BitVec.toNat_ofNat, BitVec.toNat_ofNat]
  omega

end Sys2Proof.Machine

/-!
SUPPORT. Landfall and admission (R201 to R206, R464 to R468): READY and its count, LANDFALL declared, heard and repeated, and ADMIT.
-/
namespace Sys2Proof.Machine

/-! ### A member of the net -/

theorem exec_readyTimer (s : State) : exec .readyTimer s = actAll (·.readyTimer) s := rfl

theorem exec_landfallFrame (map : BitVec 64) (s : State) : exec (.landfallFrame map) s = actAll (·.landfallIn map.toNat) s := rfl

theorem exec_admitFrame (id : Fin 64) (s : State) : exec (.admitFrame id) s = actAll (·.admitIn id.val) s := rfl

/-- A field of CFG_LANDFALL or of SYS_SERVICE lies apart from the map of excluded parts. -/
theorem State.excluded_put_state (s : State) (v id : Nat) : (s.put CFG_LANDFALL_STATE v).excluded id = s.excluded id :=
  s.excluded_put_ne v (by decide) (by decide) id

theorem State.excluded_set_service (s : State) (id : Nat) : (s.set SYS_SERVICE_LANDFALL).excluded id = s.excluded id :=
  s.excluded_put_ne 1 (by decide) (by decide) id

theorem State.get_put_state (s : State) {v : Nat} (small : v < 8) : (s.put CFG_LANDFALL_STATE v).get CFG_LANDFALL_STATE = v :=
  (s.get_put_same _ _ (by decide)).trans (Nat.mod_eq_of_lt small)

section
variable {s : State} (on : s.brgOn = true) (member : s.get CFG_LANDFALL_ROLE = 1)
include on member

/-- READY leaves on every UP port until LANDFALL is heard (R464). -/
theorem gives_readyTimer {p : Fin 4} (waits : s.get CFG_LANDFALL_STATE = 1) (up : s.portState p = 3) : Gives .readyTimer s fun t =>
    ∃ f, t.brg.queue = s.brg.queue ++ [f] ∧ f.bcast = true ∧ byteAt f.payload 0 = 2 := by
  have ran : (s.withOut []).readyTimer = (s.withOut []).brgBroadcast ((s.withOut []).upPortsBut 4)
      ([2] ++ leBytes 4 (s.word CFG_IMAGE_VER).toNat ++ [BitVec.ofNat 8 (s.get CFG_STATUS_GOLDEN), 0, 0]) :=
    if_neg (show ¬(!(s.brgOn && s.get CFG_LANDFALL_ROLE == 1 && s.get CFG_LANDFALL_STATE == 1)) = true by rw [on, member, waits]; decide)
  have running : ((s.withOut []).readyTimer).dev = .running := ((State.readyTimer_touches _).dev rfl).trans (State.brgOn_running on)
  obtain ⟨f, queue, bcast, payload⟩ := State.brgBroadcast_queues (s := s.withOut []) (State.upPortsBut_ne_nil (p := p) up)
    ([2] ++ leBytes 4 (s.word CFG_IMAGE_VER).toNat ++ [BitVec.ofNat 8 (s.get CFG_STATUS_GOLDEN), 0, 0])
  exact (gives_showsBrg (exec_readyTimer s) ran (ran ▸ running)).imp fun t shows =>
    ⟨f, by rw [shows.brg]; exact queue, bcast, by rw [payload]; rfl⟩

/-- A member that hears LANDFALL takes its map, and is at landfall unless it is excluded itself (R204). -/
theorem gives_landfallFrame (map : BitVec 64) (waits : s.get CFG_LANDFALL_STATE = 1) : Gives (.landfallFrame map) s fun t =>
    t.exclMap = map.toNat ∧ t.get CFG_LANDFALL_STATE = (if map.getLsbD s.ownId then 4 else if map = 0 then 2 else 3) ∧
    (map.getLsbD s.ownId = false → t.bit SYS_SERVICE_LANDFALL = true) := by
  have own : ((s.withOut []).putExcl map.toNat).ownId = s.ownId :=
    (State.get_putWord_ne _ _ _ _ (by decide)).trans (State.get_putWord_ne _ _ _ _ (by decide))
  have small : s.ownId < 64 := Nat.mod_lt _ (by decide)
  have out : ((s.withOut []).putExcl map.toNat).excluded s.ownId = map.getLsbD s.ownId := State.excluded_putExcl _ _ small
  have whole : ∀ x : State, (∀ a, a = CFG_LANDFALL_EXCL_LO ∨ a = CFG_LANDFALL_EXCL_HI →
      x.word a = ((s.withOut []).putExcl map.toNat).word a) → x.exclMap = map.toNat := fun x same =>
    (State.exclMap_of_words (same _ (.inl rfl)) (same _ (.inr rfl))).trans (State.exclMap_putExcl _ map.isLt)
  have ran : (s.withOut []).landfallIn map.toNat =
      if map.getLsbD s.ownId then ((s.withOut []).putExcl map.toNat).put CFG_LANDFALL_STATE 4
      else (((s.withOut []).putExcl map.toNat).set SYS_SERVICE_LANDFALL).put CFG_LANDFALL_STATE (if map = 0 then 2 else 3) := by
    have zero : (map.toNat % 2 ^ 64 = 0) = (map = 0) := by
      rw [Nat.mod_eq_of_lt map.isLt, eq_iff_iff]
      exact ⟨fun e => BitVec.eq_of_toNat_eq e, fun e => by rw [e]; rfl⟩
    have acts : ¬(!((s.withOut []).brgOn && (s.withOut []).get CFG_LANDFALL_ROLE == 1 && (s.withOut []).get CFG_LANDFALL_STATE == 1)) = true := by
      show ¬(!(s.brgOn && s.get CFG_LANDFALL_ROLE == 1 && s.get CFG_LANDFALL_STATE == 1)) = true
      rw [on, member, waits]
      decide
    unfold State.landfallIn
    rw [if_neg acts]
    dsimp only
    rw [own, out]
    simp only [zero]
  have running : ((s.withOut []).landfallIn map.toNat).dev = .running := ((State.landfallIn_touches _ _).dev rfl).trans (State.brgOn_running on)
  refine (gives_showsBrg (exec_landfallFrame map s) ran (ran ▸ running)).imp fun t shows => ?_
  have lo := shows.word CFG_LANDFALL_EXCL_LO (by decide) (by decide)
  have hi := shows.word CFG_LANDFALL_EXCL_HI (by decide) (by decide)
  have state := shows.get (f := CFG_LANDFALL_STATE) (by decide) (by decide)
  have service := shows.landfall
  rw [State.exclMap_of_words lo hi, state, service]
  cases map.getLsbD s.ownId
  · simp only [Bool.false_eq_true, if_false]
    refine ⟨whole _ ?_, State.get_put_state _ (by split <;> decide), fun _ => ?_⟩
    · rintro a (rfl | rfl)
      · exact (State.word_put_ne _ _ _ _ (by decide)).trans (State.word_put_ne _ _ _ _ (by decide))
      · exact (State.word_put_ne _ _ _ _ (by decide)).trans (State.word_put_ne _ _ _ _ (by decide))
    · exact (State.bit_put_disjoint _ _ _ _ (by decide) (by decide)).trans (State.bit_set_same _ _ (by decide) (by decide))
  · simp only [if_true]
    refine ⟨whole _ ?_, State.get_put_state _ (by decide), fun other => absurd other (by decide)⟩
    rintro a (rfl | rfl)
    · exact State.word_put_ne _ _ _ _ (by decide)
    · exact State.word_put_ne _ _ _ _ (by decide)

/-- ADMIT of any part clears its exclusion (R468). -/
theorem gives_admitFrame (id : Fin 64) : Gives (.admitFrame id) s fun t => t.excluded id.val = false ∧
    (id.val = s.ownId → t.get CFG_LANDFALL_STATE = 2 ∧ t.bit SYS_SERVICE_LANDFALL = true ∧ t.lineLevel 119 = true) := by
  let y := (s.withOut []).clr (exclFld id.val)
  have own : y.ownId = s.ownId := by
    refine State.get_put_ne _ _ _ _ ?_
    rcases exclFld_register id.val with e | e <;> rw [e] <;> decide
  have cleared : y.excluded id.val = false := State.excluded_clr_same _ id.isLt
  have ran : (s.withOut []).admitIn id.val =
      if id.val = s.ownId then ((y.set SYS_SERVICE_LANDFALL).put CFG_LANDFALL_STATE 2).event 119
      else y.iff (y.get CFG_LANDFALL_STATE == 3 && y.exclMap == 0) (·.put CFG_LANDFALL_STATE 2) := by
    rw [← own]
    exact if_neg (show ¬(!(s.brgOn && s.get CFG_LANDFALL_ROLE == 1)) = true by rw [on, member]; decide)
  have running : ((s.withOut []).admitIn id.val).dev = .running := ((State.admitIn_touches _ _).dev rfl).trans (State.brgOn_running on)
  refine (gives_showsBrg (exec_admitFrame id s) ran (ran ▸ running)).imp fun t shows => ?_
  by_cases self : id.val = s.ownId
  · simp only [if_pos self] at shows
    refine ⟨(shows.excluded _).trans <| (State.excluded_put_ne _ 1 (by decide) (by decide) _).trans <|
      (State.excluded_put_state ..).trans ((State.excluded_set_service ..).trans cleared), fun _ => ⟨?_, ?_, ?_⟩⟩
    · exact (shows.get (by decide) (by decide)).trans <| (State.get_put_ne _ _ _ _ (by decide)).trans (State.get_put_state _ (by decide))
    · exact shows.landfall.trans <| (State.bit_set_disjoint _ _ _ (by decide) (by decide)).trans <|
        (State.bit_put_disjoint _ _ _ _ (by decide) (by decide)).trans (State.bit_set_same _ _ (by decide) (by decide))
    · exact (shows.bit (f := evtFld 119) (by decide) (by decide)).trans (State.bit_set_same _ _ (by decide) (by decide))
  · simp only [if_neg self] at shows
    refine ⟨(shows.excluded _).trans ?_, fun e => absurd e self⟩
    unfold State.iff
    split
    · exact (State.excluded_put_state ..).trans cleared
    · exact cleared

end

end Sys2Proof.Machine

/-!
SUPPORT. The master of the net: READY counted, landfall declared by its time, LANDFALL repeated, and ADMIT written (R202 to R206, R213, R465,
R467).
-/
namespace Sys2Proof.Machine

/-! ### Landfall declared -/

/-- An expected part that has not been counted ready. -/
def State.missing (s : State) (id : Nat) : Bool := s.brg.expected.getLsbD id && !s.isCounted id

/-- The master with its missing parts excluded. -/
def State.missingExcluded (s : State) : State := s.each (List.range 64) fun t id => t.iff (s.missing id) (·.set (exclFld id))

/-- The master at landfall before LANDFALL is broadcast. -/
def State.landfallMarked (s : State) : State :=
  let s := s.missingExcluded.put CFG_LANDFALL_STATE (if s.missingExcluded.exclMap = 0 then 2 else 3)
  s.iff (!s.excluded s.ownId) (·.set SYS_SERVICE_LANDFALL)

/-- What a state has and an action gives it, it has after the action under a condition. -/
theorem State.iff_keeps {P : State → Prop} {s : State} {c : Bool} {f : State → State} (h : P s) (acts : P (f s)) : P (s.iff c f) := by
  cases c
  · exact h
  · exact acts

theorem State.landfallDeclare_marked (s : State) : s.landfallDeclare =
    ((s.landfallMarked.brgBroadcast (s.landfallMarked.upPortsBut 4) s.landfallMarked.landfallBytes).brgBroadcast
      (s.landfallMarked.upPortsBut 4) s.landfallMarked.landfallBytes).brgBroadcast
      (s.landfallMarked.upPortsBut 4) s.landfallMarked.landfallBytes := rfl

/-- A run that excludes some of the parts in a list leaves each part excluded that was, and each that it names. -/
theorem State.each_excluded (missing : Nat → Bool) {id : Nat} (small : id < 64) (ids : List Nat) (s : State)
    (h : s.excluded id = true ∨ (id ∈ ids ∧ missing id = true)) :
    (s.each ids fun t i => t.iff (missing i) (·.set (exclFld i))).excluded id = true := by
  induction ids generalizing s with
  | nil =>
    rcases h with h | ⟨none_, _⟩
    · exact h
    · cases none_
  | cons i ids ih =>
    refine ih (s.iff (missing i) (·.set (exclFld i))) ?_
    by_cases same : i = id
    · subst same
      cases named : missing i
      · exact .inl (h.resolve_right fun other => absurd (named.symm.trans other.2) Bool.false_ne_true)
      · exact .inl (s.excluded_set_same small)
    · refine h.imp (fun before => ?_) fun later => ⟨(List.mem_cons.mp later.1).resolve_left (Ne.symm same), later.2⟩
      cases missing i
      · exact before
      · exact (s.excluded_set_ne small same).trans before

theorem State.missingExcluded_brg (s : State) : s.missingExcluded.brg = s.brg :=
  State.each_keeps (P := fun t : State => t.brg = s.brg) rfl fun _ _ same => State.iff_keeps (P := fun t => t.brg = s.brg) same same

theorem State.landfallMarked_brg (s : State) : s.landfallMarked.brg = s.brg :=
  State.iff_keeps (P := fun t : State => t.brg = s.brg) s.missingExcluded_brg s.missingExcluded_brg

theorem State.landfallMarked_state (s : State) : 2 ≤ s.landfallMarked.get CFG_LANDFALL_STATE := by
  have state : ∀ x : State, 2 ≤ (x.put CFG_LANDFALL_STATE (if x.exclMap = 0 then 2 else 3)).get CFG_LANDFALL_STATE := fun x => by
    rw [State.get_put_state _ (by split <;> decide)]
    split <;> decide
  refine State.iff_keeps (P := fun t : State => 2 ≤ t.get CFG_LANDFALL_STATE) (state _) ?_
  exact (State.get_put_ne _ SYS_SERVICE_LANDFALL CFG_LANDFALL_STATE 1 (by decide)).symm ▸ state _

theorem State.landfallMarked_excluded (s : State) {id : Nat} (small : id < 64) (missing : s.missing id = true) :
    s.landfallMarked.excluded id = true := by
  have marks : s.missingExcluded.excluded id = true :=
    State.each_excluded s.missing small (List.range 64) s (.inr ⟨List.mem_range.mpr small, missing⟩)
  exact State.iff_keeps (P := fun t : State => t.excluded id = true) ((State.excluded_put_state ..).trans marks)
    ((State.excluded_set_service ..).trans ((State.excluded_put_state ..).trans marks))

/-- The broadcasts of LANDFALL change of the Bearing link the queue alone, and no register. -/
theorem State.landfallDeclare_brg (s : State) : ∃ q, s.landfallDeclare.brg = { s.brg with queue := q } := by
  rw [State.landfallDeclare_marked]
  generalize s.landfallMarked.upPortsBut 4 = ports
  generalize s.landfallMarked.landfallBytes = payload
  obtain ⟨_, first⟩ := s.landfallMarked.brgBroadcast_brg ports payload
  obtain ⟨_, second⟩ := (s.landfallMarked.brgBroadcast ports payload).brgBroadcast_brg ports payload
  obtain ⟨q, third⟩ := ((s.landfallMarked.brgBroadcast ports payload).brgBroadcast ports payload).brgBroadcast_brg ports payload
  exact ⟨q, by rw [third, second, first, State.landfallMarked_brg]⟩

theorem State.landfallDeclare_word (s : State) (a : Nat) : s.landfallDeclare.word a = s.landfallMarked.word a := by
  rw [State.landfallDeclare_marked, State.brgBroadcast_word, State.brgBroadcast_word, State.brgBroadcast_word]

theorem State.landfallCheck_counted (s : State) : s.landfallCheck.brg.counted = s.brg.counted := by
  obtain ⟨_, brg⟩ := s.landfallDeclare_brg
  exact State.iff_keeps (P := fun t : State => t.brg.counted = s.brg.counted) rfl (by rw [brg])

/-! ### READY at the master -/

/-- A part that is counted ready is among the counted. -/
theorem State.countReady_isCounted (s : State) (id ver : Nat) (golden : Bool) : (s.countReady id ver golden).isCounted id = true := by
  show ((s.brg.counted ++ [(id, ver, golden)]).any fun e => e.1 == id) = true
  simp

theorem State.isCounted_of_counted {s t : State} (h : t.brg.counted = s.brg.counted) (id : Nat) : t.isCounted id = s.isCounted id := by
  rw [State.isCounted, State.isCounted, h]

theorem exec_readyFrame (src : Fin 64) (ver : Word) (golden : Bool) (s : State) :
    exec (.readyFrame src ver golden) s = actAll (·.readyFrame src.val ver.toNat golden) s := rfl

theorem exec_landfallTimeout (s : State) : exec .landfallTimeout s = actAll (·.landfallTimeout) s := rfl

theorem exec_landfallRepeat (s : State) : exec .landfallRepeat s = actAll (·.landfallRepeat) s := rfl

/-- The numbers that were held from the source of a READY are cleared (R453). -/
def State.heldCleared (s : State) (src : Nat) : State := s.withBrg { s.brg with rxSeq := s.brg.rxSeq.filter fun c => c.1 / 64 != src }

section
variable {s : State} (on : s.brgOn = true) (master : s.get CFG_LANDFALL_ROLE = 2)
include on master

/-- The master's own ID in a READY is a conflict, and counts nothing (R213). -/
theorem State.readyFrame_own (ver : Nat) (golden : Bool) :
    s.readyFrame s.ownId ver golden = (s.heldCleared s.ownId).set CFG_LANDFALL_ID_CONFLICT := by
  unfold State.readyFrame
  rw [on, State.iff_true]
  unfold State.readyIn
  dsimp only
  rw [if_neg (by simpa using master)]
  split
  · exact if_pos (Bool.or_eq_true_iff.mpr (.inr (beq_self_eq_true s.ownId)))
  · exact if_pos rfl

/-- The first READY of another part, by the state of landfall. -/
theorem State.readyFrame_other {src : Nat} (ver : Nat) (golden : Bool) (first : s.isCounted src = false) (other : src ≠ s.ownId) :
    s.readyFrame src ver golden =
      if (s.heldCleared src).get CFG_LANDFALL_STATE = 1 then
        if golden && !(s.heldCleared src).brg.acceptGolden then s.heldCleared src else ((s.heldCleared src).countReady src ver golden).landfallCheck
      else if (s.heldCleared src).excluded src then
        (((s.heldCleared src).event 118).withBrg { (s.heldCleared src).brg with
          late := ((s.heldCleared src).brg.late.filter fun e => e.1 != src) ++ [(src, ver, golden)] }).iff
            (((s.heldCleared src).event 118).bit BRG_CFG_AUTO_ADMIT) (·.admitId src)
      else s.heldCleared src := by
  have fresh : s.brg.counted.find? (·.1 == src) = none := by
    rw [State.isCounted, List.any_eq_false] at first
    exact List.find?_eq_none.mpr first
  have role : ¬(s.heldCleared src).get CFG_LANDFALL_ROLE ≠ 2 := not_not.mpr master
  have found : (s.heldCleared src).brg.counted.find? (·.1 == src) = none := fresh
  unfold State.readyFrame
  rw [on, State.iff_true]
  refine (if_neg role).trans ?_
  split
  · next counted => cases found.symm.trans counted
  · exact (if_neg (show src ≠ (s.heldCleared src).ownId from other)).trans rfl

/-- A part that reports first before landfall is counted (R202, R464). -/
theorem gives_readyFrame_counts (src : Fin 64) (ver : Word) (golden : Bool) (waits : s.get CFG_LANDFALL_STATE = 1)
    (first : s.isCounted src.val = false) (other : src.val ≠ s.ownId) (accepted : golden = true → s.brg.acceptGolden = true) :
    Gives (.readyFrame src ver golden) s fun t => t.isCounted src.val = true := by
  have taken : ¬(golden && !s.brg.acceptGolden) = true := by
    cases golden
    · simp
    · simp [accepted rfl]
  have ran : (s.withOut []).readyFrame src.val ver.toNat golden =
      (((s.withOut []).heldCleared src.val).countReady src.val ver.toNat golden).landfallCheck :=
    (State.readyFrame_other (s := s.withOut []) on master _ _ first other).trans ((if_pos waits).trans (if_neg taken))
  have running : ((s.withOut []).readyFrame src.val ver.toNat golden).dev = .running :=
    ((State.readyFrame_touches _ _ _ _).dev rfl).trans (State.brgOn_running on)
  exact (gives_showsBrg (exec_readyFrame src ver golden s) ran (ran ▸ running)).imp fun t shows =>
    (shows.isCounted _).trans ((State.isCounted_of_counted (State.landfallCheck_counted _) _).trans (State.countReady_isCounted ..))

/-- READY of an excluded part after landfall waits for its admission (R206). -/
theorem gives_readyFrame_late (src : Fin 64) (ver : Word) (golden : Bool) (past : s.get CFG_LANDFALL_STATE ≠ 1)
    (first : s.isCounted src.val = false) (other : src.val ≠ s.ownId) (out : s.excluded src.val = true)
    (auto : s.bit BRG_CFG_AUTO_ADMIT = false) : Gives (.readyFrame src ver golden) s fun t => t.lineLevel 118 = true ∧
      (src.val, ver.toNat, golden) ∈ t.brg.late ∧ t.excluded src.val = true := by
  have ran := (State.readyFrame_other (s := s.withOut []) on master ver.toNat golden first other).trans ((if_neg past).trans (if_pos out))
  rw [State.event, State.bit_set_disjoint _ (evtFld 118) BRG_CFG_AUTO_ADMIT (by decide) (by decide),
    show ((s.withOut []).heldCleared src.val).bit BRG_CFG_AUTO_ADMIT = false from auto, State.iff_false] at ran
  have running : ((s.withOut []).readyFrame src.val ver.toNat golden).dev = .running :=
    ((State.readyFrame_touches _ _ _ _).dev rfl).trans (State.brgOn_running on)
  refine (gives_showsBrg (exec_readyFrame src ver golden s) ran (ran ▸ running)).imp fun t shows => ⟨?_, ?_, ?_⟩
  · exact (shows.bit (f := evtFld 118) (by decide) (by decide)).trans (State.bit_set_same _ _ (by decide) (by decide))
  · rw [shows.brg]
    exact List.mem_append_right _ (List.mem_singleton.mpr rfl)
  · exact (shows.excluded _).trans <|
      (State.excluded_put_ne ((s.withOut []).heldCleared src.val) (f := evtFld 118) 1 (by decide) (by decide) _).trans out

/-- READY with the master's own ID sets ID_CONFLICT (R213). -/
theorem gives_readyFrame_own (src : Fin 64) (ver : Word) (golden : Bool) (own : src.val = s.ownId) :
    Gives (.readyFrame src ver golden) s fun t => t.bit CFG_LANDFALL_ID_CONFLICT = true ∧ t.brg.counted = s.brg.counted := by
  have ran := State.readyFrame_own (s := s.withOut []) on master ver.toNat golden
  rw [show (s.withOut []).ownId = src.val from own.symm] at ran
  have running : ((s.withOut []).readyFrame src.val ver.toNat golden).dev = .running :=
    ((State.readyFrame_touches _ _ _ _).dev rfl).trans (State.brgOn_running on)
  refine (gives_showsBrg (exec_readyFrame src ver golden s) ran (ran ▸ running)).imp fun t shows => ⟨?_, ?_⟩
  · exact (shows.bit (f := CFG_LANDFALL_ID_CONFLICT) (by decide) (by decide)).trans (State.bit_set_same _ _ (by decide) (by decide))
  · rw [shows.brg]
    rfl

/-! ### Landfall by its time, and LANDFALL again -/

/-- LANDFALL_MS without every READY excludes the parts that are missing (R203). -/
theorem gives_landfallTimeout (waits : s.get CFG_LANDFALL_STATE = 1) : Gives .landfallTimeout s fun t =>
    2 ≤ t.get CFG_LANDFALL_STATE ∧ ∀ i, i < 64 → s.brg.expected.getLsbD i = true → s.isCounted i = false → t.excluded i = true := by
  have due : (s.brgOn && s.get CFG_LANDFALL_ROLE == 2 && s.get CFG_LANDFALL_STATE == 1) = true := by
    rw [on, master, waits]
    rfl
  have ran : (s.withOut []).landfallTimeout = (s.withOut []).landfallDeclare := if_pos due
  have running : (s.withOut []).landfallTimeout.dev = .running :=
    ((State.landfallTimeout_touches _).dev rfl).trans (State.brgOn_running on)
  refine (gives_showsBrg (exec_landfallTimeout s) ran (ran ▸ running)).imp fun t shows => ⟨?_, fun i small expected silent => ?_⟩
  · rw [shows.get (by decide) (by decide), State.get_of_word (State.landfallDeclare_word _ _)]
    exact State.landfallMarked_state _
  · rw [shows.excluded, State.excluded_of_words (State.landfallDeclare_word _ _) (State.landfallDeclare_word _ _)]
    exact State.landfallMarked_excluded _ small (by show (s.brg.expected.getLsbD i && !s.isCounted i) = true; rw [expected, silent]; rfl)

/-- LANDFALL again, to the ports that came UP after it (R465). -/
theorem gives_landfallRepeat {p : Fin 4} (declared : 2 ≤ s.get CFG_LANDFALL_STATE) (late : (s.bport p.val).lateUp = true)
    (up : s.portState p.val = 3) : Gives .landfallRepeat s fun t =>
      ∃ f, t.brg.queue = s.brg.queue ++ [f] ∧ f.bcast = true ∧ f.payload = s.landfallBytes := by
  have due : ¬(!(s.brgOn && s.get CFG_LANDFALL_ROLE == 2 && decide (2 ≤ s.get CFG_LANDFALL_STATE))) = true := by
    rw [on, master, decide_eq_true declared]
    decide
  have ran : (s.withOut []).landfallRepeat = (s.withOut []).brgBroadcast
      ((List.range 4).filter fun p => (s.bport p).lateUp && s.portUp p) s.landfallBytes := if_neg due
  have ports : ((List.range 4).filter fun p => (s.bport p).lateUp && s.portUp p) ≠ [] :=
    List.ne_nil_of_mem (List.mem_filter.mpr ⟨List.mem_range.mpr p.isLt, by simp [late, State.portUp, up]⟩)
  have running : (s.withOut []).landfallRepeat.dev = .running :=
    ((State.landfallRepeat_touches _).dev rfl).trans (State.brgOn_running on)
  obtain ⟨f, queue, bcast, payload⟩ := State.brgBroadcast_queues (s := s.withOut []) ports s.landfallBytes
  exact (gives_showsBrg (exec_landfallRepeat s) ran (ran ▸ running)).imp fun t shows =>
    ⟨f, by rw [shows.brg]; exact queue, bcast, payload⟩

/-! ### Admission -/

end

theorem exec_brgAdmit (a : Acc) (key : BitVec 16) (id : Fin 64) (s : State) :
    exec (.brgAdmit a key id) s = actAll (·.regWrite a BRG_ADMIT (cmdWord key id.val)) s := rfl

/-- The ID of the command word of BRG_ADMIT. -/
theorem cmdWord_id {n : Nat} (small : n < 64) : bitsOf (cmdWord guardKey n) 0 6 = n := by
  have key : guardKey.toNat = 0x5A17 := rfl
  rw [bitsOf, cmdWord, BitVec.toNat_ofNat, key]
  omega

theorem keyed_cmdWord (n : Nat) : keyed (cmdWord guardKey n) = true := by
  have key : guardKey.toNat = 0x5A17 := rfl
  rw [keyed, cmdKey, cmdWord, beq_iff_eq]
  refine BitVec.eq_of_toNat_eq ?_
  rw [BitVec.toNat_ofNat, BitVec.toNat_ofNat, key]
  omega

/-- The write of BRG_ADMIT with its key admits the part that it names. -/
theorem State.regWrite_BRG_ADMIT {s : State} {acc : Acc} {id : Nat} (h : s.commandOk acc BRG_ADMIT = true) (small : id < 64) :
    s.regWrite acc BRG_ADMIT (cmdWord guardKey id) =
      ((s.putWord BRG_ADMIT (s.word BRG_ADMIT)).admitId id).complete acc.master.val 0 0 := by
  have started : ∀ (t : State) w old, t.written BRG_ADMIT w old = t.iff (keyed w) (·.admitId (bitsOf w 0 6)) := fun _ _ _ => rfl
  rw [State.regWrite_command s acc _ _ h (by decide) (fun _ _ => rfl), started, keyed_cmdWord, State.iff_true, cmdWord_id small,
    State.finish_ok]

theorem State.brgBroadcast_excluded (s : State) (ports : List Nat) (payload : List Byte) (id : Nat) :
    (s.brgBroadcast ports payload).excluded id = s.excluded id :=
  State.excluded_of_words (State.brgBroadcast_word ..) (State.brgBroadcast_word ..) id

theorem State.brgBroadcast_isCounted (s : State) (ports : List Nat) (payload : List Byte) (id : Nat) :
    (s.brgBroadcast ports payload).isCounted id = s.isCounted id := by
  obtain ⟨q, brg⟩ := s.brgBroadcast_brg ports payload
  exact State.isCounted_of_counted (by rw [brg]) id

/-- A part that is admitted is not excluded, and counts as ready. -/
theorem State.admitId_admits {s : State} {id ver : Nat} {golden : Bool} (small : id < 64)
    (reported : s.brg.late.find? (·.1 == id) = some (id, ver, golden)) (out : s.excluded id = true)
    (accepted : golden = true → s.brg.acceptGolden = true) :
    (s.admitId id).excluded id = false ∧ (s.admitId id).isCounted id = true := by
  have admitted : ¬(!s.excluded id || (golden && !s.brg.acceptGolden)) = true := by
    cases golden
    · simp [out]
    · simp [out, accepted rfl]
  have cleared : ∀ x : State, ((x.clr (exclFld id)).countReady id ver golden).excluded id = false := fun x =>
    (State.excluded_put_ne _ (f := CFG_LANDFALL_READY) _ (by decide) (by decide) _).trans (x.excluded_clr_same small)
  have ready : ∀ x : State, (x.countReady id ver golden).isCounted id = true := fun x => x.countReady_isCounted id ver golden
  unfold State.admitId
  rw [reported]
  dsimp only
  rw [if_neg admitted, State.brgBroadcast_excluded, State.brgBroadcast_isCounted]
  exact ⟨State.iff_keeps (P := fun t : State => t.excluded id = false) (cleared _) ((State.excluded_put_state ..).trans (cleared _)),
    State.iff_keeps (P := fun t : State => t.isCounted id = true) (ready _) (ready _)⟩

/-- ADMIT written clears the part's exclusion and counts it (R467). -/
theorem gives_brgAdmit {s : State} (on : s.brgOn = true) (a : Acc) (id : Fin 64) {ver : Nat} {golden : Bool}
    (h : s.commandOk a BRG_ADMIT = true) (reported : s.brg.late.find? (·.1 == id.val) = some (id.val, ver, golden))
    (out : s.excluded id.val = true) (accepted : golden = true → s.brg.acceptGolden = true) : Gives (.brgAdmit a guardKey id) s fun t =>
      t.excluded id.val = false ∧ t.isCounted id.val = true := by
  have admits := State.admitId_admits (s := s.atWrite BRG_ADMIT) id.isLt reported
    ((State.excluded_of_words (State.atWrite_word ..) (State.atWrite_word ..) _).trans out) accepted
  have running : ((s.atWrite BRG_ADMIT).admitId id.val).dev = .running :=
    ((State.admitId_touches _ _).dev rfl).trans (show s.dev = .running from State.brgOn_running on)
  refine (gives_showsBrg (exec_brgAdmit a guardKey id s) (State.regWrite_BRG_ADMIT (s := s.withOut []) h id.isLt) running).imp
    fun t shows => ?_
  exact ⟨(shows.complete.excluded _).trans admits.1, (shows.complete.isCounted _).trans admits.2⟩

end Sys2Proof.Machine

/-!
SUPPORT. A frame that a port of the Bearing link takes, and the exchange of time (R439, R452, R456, R459 to R462).
-/
namespace Sys2Proof.Machine

/-! ### A frame that is taken -/

/-- The sequence number `seq` held as the last of its stream (R452). -/
def State.seqHeld (s : State) (key seq : Nat) : State :=
  s.withBrg { s.brg with rxSeq := cellWrite s.brg.rxSeq key (BitVec.ofNat 17 (seq + 1)) }

/-- The first frame of a stream is accepted and its number held (R453). -/
theorem State.seqAccept_first {s : State} {key : Nat} (fresh : cellRead s.brg.rxSeq key = 0) (seq : Nat) :
    s.seqAccept key seq = (1, s.seqHeld key seq) := by
  unfold State.seqAccept
  dsimp only
  rw [fresh]
  exact if_pos rfl

section
variable {s : State} {r : BrgRx} (fresh : cellRead s.brg.rxSeq (streamKey r.src r.cls r.channel) = 0)
include fresh

/-- The first frame of a Clock or Sample stream leaves where there is room. -/
theorem State.brgDeliver_unit (p : Nat) {room : Bool} (unit : r.cls = 1 ∨ r.cls = 0)
    (fits : (room && s.streamRoom (brgRxPort r.cls) (beatCount 8 r.payload.length)) = true) : s.brgDeliver p r room =
      ((s.seqHeld (streamKey r.src r.cls r.channel) r.seq).brgBeats r).emit (.brgUnit r.cls r.src r.channel r.path r.seq r.payload) := by
  unfold State.brgDeliver
  rw [State.seqAccept_first fresh]
  have bulk : ¬(r.cls = 2 && r.channel == 15) = true := by rcases unit with e | e <;> rw [e] <;> simp
  exact (if_neg Nat.one_ne_zero).trans ((if_neg (by omega)).trans ((if_neg bulk).trans (if_pos fits)))

/-- The first Time frame of a stream is the engine's own. -/
theorem State.brgDeliver_time (p : Nat) (room : Bool) (time : r.cls = 3) :
    s.brgDeliver p r room = (s.seqHeld (streamKey r.src r.cls r.channel) r.seq).timeIn p r := by
  unfold State.brgDeliver
  rw [State.seqAccept_first fresh]
  exact (if_neg Nat.one_ne_zero).trans (if_pos time)

end

/-- What a port has recorded of a frame that it takes: the frame is delivered, and the port's open request is kept. -/
theorem State.brgFrameIn_taken {s : State} {p : Nat} {frame : List Byte} (taken : s.takesFrame p frame) (second room : Bool) :
    ∃ v : BrgPort, v.reqT1 = (s.bport p).reqT1 ∧
      s.brgFrameIn p second frame false room = (s.putBport p v).brgDeliver p (brgParse frame) room := by
  obtain ⟨on, up, crc, form, hello, tag, fresh, bcast, dst, known, _⟩ := taken
  have new : ∀ b : Bool, ¬(brgParse frame).lnonce + 1 ≤ (s.bport p).seenAt (brgParse frame).keysel (if b then 1 else 0) := fun b => by
    have := fresh (if b then 1 else 0) (by split <;> decide)
    omega
  have new' : ∀ b : Bool, ¬(brgParse frame).lnonce + 1 ≤ (s.bport p).seenAt (brgParse frame).keysel (1 - if b then 1 else 0) := fun b => by
    have := fresh (1 - if b then 1 else 0) (by split <;> decide)
    omega
  unfold State.brgFrameIn
  dsimp only
  rw [if_neg (by rw [on, up]; decide), if_neg Bool.false_ne_true, if_neg (by rw [crc]; simp), if_neg (by rw [form]; decide),
    if_neg (by rw [hello]; decide), if_neg (by rw [up]; decide), if_neg (by rw [tag]; decide), if_neg (new _), if_neg (new' _)]
  refine ⟨_, ?_, (if_neg ?_).trans ((if_neg ?_).trans (if_pos dst))⟩
  · rfl
  · rw [show (s.putBport p _).excluded (brgParse frame).src = false from known, Bool.and_false]
    exact Bool.false_ne_true
  · rw [bcast]
    exact Bool.false_ne_true

section
variable {s : State} {p : Fin 4} {frame : List Byte} (taken : s.takesFrame p.val frame)
include taken

/-- A frame of Clock or Sample for this part leaves on its class's port where there is room (R456). -/
theorem gives_brgDataFrame (second : Bool) (unit : (brgParse frame).cls = 1 ∨ (brgParse frame).cls = 0) (live : s.portLive 7 = true)
    (fits : s.streamRoom (brgRxPort (brgParse frame).cls) (beatCount 8 (brgParse frame).payload.length) = true) :
    Gives (.brgDataFrame p second frame false true) s fun t => .brgUnit (brgParse frame).cls (brgParse frame).src (brgParse frame).channel
      (brgParse frame).path (brgParse frame).seq (brgParse frame).payload ∈ t.out := by
  obtain ⟨v, _, ran⟩ := State.brgFrameIn_taken (s := s.withOut []) taken second (true && s.portLive 7)
  obtain ⟨on, _, _, _, _, _, _, _, _, _, fresh⟩ := taken
  have data := State.brgDeliver_unit (s := (s.withOut []).putBport p.val v) fresh p.val unit
    (room := true && s.portLive 7) (by rw [live]; exact fits)
  have running : ((s.withOut []).brgFrameIn p.val second frame false (true && s.portLive 7)).dev = .running :=
    ((State.brgFrameIn_touches _ _ _ _ _ _).dev rfl).trans (State.brgOn_running on)
  refine (gives_showsBrg (exec_brgDataFrame p second frame false true s) (ran.trans data) ((ran.trans data) ▸ running)).imp
    fun t shows => shows.out _ ?_
  exact List.mem_append_right _ (List.mem_singleton.mpr rfl)

end

/-! ### Time frames -/

/-- A Time frame gives the port the neighbour's advertisement, and elects a master (R460). -/
def State.adTaken (s : State) (p : Nat) (r : BrgRx) : State :=
  (s.putBport p { s.bport p with
    ad := some (byteAt r.payload 2, byteAt r.payload 3, byteAt r.payload 1, byteAt r.payload 4) }).brgElect

theorem State.adTaken_brg (s : State) (p : Nat) (r : BrgRx) : (s.adTaken p r).brg = (s.putBport p { s.bport p with
    ad := some (byteAt r.payload 2, byteAt r.payload 3, byteAt r.payload 1, byteAt r.payload 4) }).brg := State.brgElect_brg _

theorem State.adTaken_queue (s : State) (p : Nat) (r : BrgRx) : (s.adTaken p r).brg.queue = s.brg.queue := by
  rw [State.adTaken_brg]
  rfl

theorem State.adTaken_reqT1 (s : State) (p : Fin 4) (r : BrgRx) : ((s.adTaken p.val r).bport p.val).reqT1 = (s.bport p.val).reqT1 := by
  rw [State.bport_of_brg (State.adTaken_brg ..), State.putBport_bport]

/-- A REQ is answered by a RESP to the neighbour (R459). -/
theorem State.timeIn_request (s : State) (p : Nat) {r : BrgRx} (request : byteAt r.payload 0 = 1) :
    ∃ f, (s.timeIn p r).brg.queue = s.brg.queue ++ [f] ∧ f.cls = 3 ∧ byteAt f.payload 0 = 2 ∧ f.copies = [(p, 0)] := by
  have ran : s.timeIn p r = (s.adTaken p r).drawn.brgToNeighbour p 3 0
      ((s.adTaken p r).drawn.timeHead 2 ++ stampBytes ((s.adTaken p r).brgStamp p) ++ List.replicate 12 0) := if_pos request
  obtain ⟨f, queue, cls, payload, copies⟩ := (s.adTaken p r).drawn.brgToNeighbour_queues p 3 0
      ((s.adTaken p r).drawn.timeHead 2 ++ stampBytes ((s.adTaken p r).brgStamp p) ++ List.replicate 12 0)
  have before : (s.adTaken p r).drawn.brg.queue = s.brg.queue := State.adTaken_queue s p r
  exact ⟨f, by rw [ran, queue, before], cls, by rw [payload]; rfl, copies⟩

/-- A RESP uses up the kept t1, and queues nothing (R462). -/
theorem State.timeIn_response (s : State) (p : Fin 4) {r : BrgRx} (response : byteAt r.payload 0 = 2)
    (waits : (s.bport p.val).reqT1 ≠ none) :
    ((s.timeIn p.val r).bport p.val).reqT1 = none ∧ (s.timeIn p.val r).brg.queue = s.brg.queue := by
  obtain ⟨t1, kept⟩ := Option.ne_none_iff_exists'.mp waits
  have held : ((s.adTaken p.val r).drawn.bport p.val).reqT1 = some t1 := (State.adTaken_reqT1 s p r).trans kept
  have queue : (s.adTaken p.val r).drawn.brg.queue = s.brg.queue := State.adTaken_queue s p.val r
  have fixed : ∀ (x : State) (c : Bool) (src : Nat) (o : Int), (x.iff c (·.fixMeasure src o)).brg = x.brg := fun x c src o =>
    State.iff_keeps (P := fun t : State => t.brg = x.brg) rfl ((State.fixMeasure_touches x src o).brg rfl)
  unfold State.timeIn
  dsimp only
  rw [if_neg (by omega), if_pos response]
  split
  · next none_ => cases held.symm.trans none_
  · constructor
    · rw [State.bport_of_brg (fixed ..), State.putBport_bport]
    · rw [fixed]
      exact queue

/-- A Time frame that a port takes goes to the exchange of time. -/
theorem State.brgFrameIn_time {s : State} {p : Fin 4} {frame : List Byte} (taken : s.takesFrame p.val frame) (time : (brgParse frame).cls = 3)
    (second room : Bool) : ∃ x : State, x.brg.queue = s.brg.queue ∧ (x.bport p.val).reqT1 = (s.bport p.val).reqT1 ∧
      s.brgFrameIn p.val second frame false room = x.timeIn p.val (brgParse frame) := by
  obtain ⟨v, reqT1, ran⟩ := State.brgFrameIn_taken taken second room
  obtain ⟨_, _, _, _, _, _, _, _, _, _, fresh⟩ := taken
  refine ⟨_, ?_, ?_, ran.trans (State.brgDeliver_time (s := s.putBport p.val v) fresh p.val room time)⟩
  · rfl
  · exact (congrArg BrgPort.reqT1 (s.putBport_bport p v)).trans reqT1

theorem exec_timeReqFrame (p : Fin 4) (second : Bool) (frame : List Byte) (s : State) :
    exec (.timeReqFrame p second frame) s = actAll (fun s => s.brgFrameIn p.val second frame false true) s := rfl

theorem exec_timeRespFrame (p : Fin 4) (second : Bool) (frame : List Byte) (s : State) :
    exec (.timeRespFrame p second frame) s = actAll (fun s => s.brgFrameIn p.val second frame false true) s := rfl

section
variable {s : State} {p : Fin 4} {frame : List Byte} (taken : s.takesFrame p.val frame) (time : (brgParse frame).cls = 3)
include taken

theorem State.brgFrameIn_running (second room : Bool) : ((s.withOut []).brgFrameIn p.val second frame false room).dev = .running :=
  ((State.brgFrameIn_touches _ _ _ _ _ _).dev rfl).trans (State.brgOn_running taken.1)

include time

theorem gives_timeReqFrame (second : Bool) (request : byteAt (brgParse frame).payload 0 = 1) : Gives (.timeReqFrame p second frame) s fun t =>
    ∃ f, t.brg.queue = s.brg.queue ++ [f] ∧ f.cls = 3 ∧ byteAt f.payload 0 = 2 ∧ f.copies = [(p.val, 0)] := by
  obtain ⟨x, queue, _, ran⟩ := State.brgFrameIn_time (s := s.withOut []) taken time second true
  obtain ⟨f, answer, frame_⟩ := x.timeIn_request p.val request
  refine (gives_showsBrg (exec_timeReqFrame p second frame s) ran (ran ▸ State.brgFrameIn_running taken second true)).imp
    fun t shows => ⟨f, ?_, frame_⟩
  rw [shows.brg, answer, queue]
  rfl

theorem gives_timeRespFrame (second : Bool) (response : byteAt (brgParse frame).payload 0 = 2) (waits : (s.bport p.val).reqT1 ≠ none) :
    Gives (.timeRespFrame p second frame) s fun t => (t.bport p.val).reqT1 = none ∧ t.brg.queue = s.brg.queue := by
  obtain ⟨x, queue, reqT1, ran⟩ := State.brgFrameIn_time (s := s.withOut []) taken time second true
  obtain ⟨used, kept⟩ := x.timeIn_response p response (reqT1.symm ▸ waits)
  refine (gives_showsBrg (exec_timeRespFrame p second frame s) ran (ran ▸ State.brgFrameIn_running taken second true)).imp
    fun t shows => ⟨?_, ?_⟩
  · rw [shows.bport, used]
  · rw [shows.brg, kept, queue]
    rfl

end

/-! ### Requests and advertisements by their timers -/

end Sys2Proof.Machine

/-!
SUPPORT. Frames handed to the Bearing link and cancelled, and the timers of requests and advertisements (R447, R449, R455, R457 to R460).
-/
namespace Sys2Proof.Machine

theorem exec_brgTxSubmit (cls : BrgClass) (dst : Fin 64) (bcast : Bool) (ch : Fin 16) (tag : Byte) (pl : List Byte) (s : State) :
    exec (.brgTxSubmit cls dst bcast ch tag pl) s =
      actAll (fun s => s.iff (s.portLive 7) (·.brgSubmit (brgClassCode cls) dst.val bcast ch.val tag.toNat pl)) s := rfl

theorem exec_brgCancel (cls : BrgClass) (tag : Byte) (s : State) :
    exec (.brgCancel cls tag) s = actAll (fun s => s.iff (s.portLive 7) (·.brgCancel (brgClassCode cls) tag.toNat)) s := rfl

theorem exec_timeReqTimer (p : Fin 4) (s : State) : exec (.timeReqTimer p) s = actAll (·.timeReqTimer p.val) s := rfl

theorem exec_masterTimeout (p : Fin 4) (s : State) : exec (.masterTimeout p) s = actAll (·.masterTimeout p.val) s := rfl

/-! ### Submission -/

/-- A route in SINGLE has its primary port, where that is UP (R447). -/
theorem State.routeCopies_single {s : State} {dst : Nat} (single : s.get (BRG_ROUTE_MODE dst) = 0) : s.routeCopies dst =
    if s.portUp (s.get (BRG_ROUTE_PRIM dst)) then [(s.get (BRG_ROUTE_PRIM dst), 0)] else [] := by
  unfold State.routeCopies
  rw [single]
  exact (List.filter_singleton ..).trans (Bool.cond_eq_ite ..)

theorem State.brgEnqueue_queue (s : State) (f : BrgTx) : (s.brgEnqueue f).brg.queue = s.brg.queue ++ [f] := rfl

theorem State.brgCount_brg (s : State) (c n : Nat) : (s.brgCount c n).brg = s.brg := (s.brgCount_touches c n).brg rfl

/-- The only class that the code of Time stands for. -/
theorem brgClassCode_ne_time {cls : BrgClass} (h : cls ≠ .time) : brgClassCode cls ≠ 3 := by
  cases cls
  · decide
  · decide
  · decide
  · exact absurd rfl h

section
variable {s : State} {cls : BrgClass} (on : s.brgOn = true) (live : s.portLive 7 = true) (data : cls ≠ .time)
  (room : s.brgQueued (brgClassCode cls) < brgQueueMax (brgClassCode cls))
include on data room

/-- A submission with room in its class's queue is judged. -/
theorem State.brgSubmit_enters : ¬(!s.brgOn || decide (brgClassCode cls = 3) ||
    decide (brgQueueMax (brgClassCode cls) ≤ s.brgQueued (brgClassCode cls))) = true := by
  rw [on, decide_eq_false (brgClassCode_ne_time data), decide_eq_false (Nat.not_le_of_lt room)]
  decide

/-- A payload of a length that its class does not have completes FORMAT (R455). -/
theorem State.brgSubmit_badLength (dst ch tag : Nat) (bcast : Bool) {pl : List Byte}
    (bad : brgLenOk (brgClassCode cls) pl.length = false) : s.brgSubmit (brgClassCode cls) dst bcast ch tag pl =
      (s.streamTake (brgTxPort (brgClassCode cls)) (beatCount 8 pl.length)).emit (.brgDone (brgClassCode cls) tag 4) :=
  (if_neg (State.brgSubmit_enters on data room)).trans (if_pos (by rw [bad]; rfl))

omit data in
/-- A Sample frame on a route in SINGLE waits for its port, or completes NO_ROUTE where that is not UP (R447, R449). -/
theorem State.brgSubmit_sample (dst ch tag : Nat) {pl : List Byte} (good : brgLenOk (brgClassCode cls) pl.length = true)
    (sample : cls = .sample) (admitted : s.get CFG_LANDFALL_STATE ≠ 4) (single : s.get (BRG_ROUTE_MODE dst) = 0) :
    ∃ t : State, t.brg = s.brg ∧ s.brgSubmit (brgClassCode cls) dst false ch tag pl =
      if s.portUp (s.get (BRG_ROUTE_PRIM dst)) then
        t.brgEnqueue { cls := 1, dst := dst, bcast := false, channel := ch, tag := tag, src := t.ownId, ttl := s.get (BRG_ROUTE_TTL dst),
                       seq := none, origin := 0, payload := pl, copies := [(s.get (BRG_ROUTE_PRIM dst), 0)] }
      else t.emit (.brgDone 1 tag 2) := by
  subst sample
  have valid : ¬(!brgLenOk (brgClassCode .sample) pl.length || (brgClassCode .sample == 2 && ch == 15)) = true := by
    rw [good]
    exact Bool.false_ne_true
  obtain ⟨taken, e⟩ : ∃ t, s.streamTake (brgTxPort (brgClassCode .sample)) (beatCount 8 pl.length) = t := ⟨_, rfl⟩
  have regs : ∀ a, taken.word a = s.word a := fun _ => e ▸ rfl
  have mode : taken.get (BRG_ROUTE_MODE dst) = 0 := (State.get_of_word (regs _)).trans single
  have prim : taken.get (BRG_ROUTE_PRIM dst) = s.get (BRG_ROUTE_PRIM dst) := State.get_of_word (regs _)
  have up : ∀ q, taken.portUp q = s.portUp q := fun _ => e ▸ rfl
  have notOut : ¬(decide (taken.get CFG_LANDFALL_STATE = 4) && decide (brgClassCode .sample ≤ 1)) = true := by
    rw [State.get_of_word (regs _), decide_eq_false admitted]
    decide
  refine ⟨taken.brgCount 9 0, (taken.brgCount_brg 9 0).trans (e ▸ rfl), (if_neg (State.brgSubmit_enters on (by decide) room)).trans ?_⟩
  dsimp only
  rw [e, if_neg valid, if_neg notOut]
  simp only [Bool.false_eq_true, if_false, State.iff_false, mode, State.routeCopies_single mode, prim, up, State.get_of_word (regs _)]
  cases s.portUp (s.get (BRG_ROUTE_PRIM dst))
  · rfl
  · rfl

omit data room in
/-- What a submission through a live port is, from a state that says what it does. -/
theorem gives_brgTxSubmit {x : State} (live : s.portLive 7 = true) (dst : Fin 64) (bcast : Bool) (ch : Fin 16) (tag : Byte) (pl : List Byte)
    (ran : (s.withOut []).brgSubmit (brgClassCode cls) dst.val bcast ch.val tag.toNat pl = x) :
    Gives (.brgTxSubmit cls dst bcast ch tag pl) s (ShowsBrg x) := by
  have acts : (s.withOut []).iff ((s.withOut []).portLive 7) (·.brgSubmit (brgClassCode cls) dst.val bcast ch.val tag.toNat pl) = x := by
    rw [show (s.withOut []).portLive 7 = true from live]
    exact ran
  have running : ((s.withOut []).brgSubmit (brgClassCode cls) dst.val bcast ch.val tag.toNat pl).dev = .running :=
    ((State.brgSubmit_touches ..).dev rfl).trans (State.brgOn_running on)
  exact gives_showsBrg (exec_brgTxSubmit cls dst bcast ch tag pl s) acts (ran ▸ running)

include live

theorem gives_brgTxSubmit_badLength (dst : Fin 64) (ch : Fin 16) (tag : Byte) {pl : List Byte}
    (bad : brgLenOk (brgClassCode cls) pl.length = false) : Gives (.brgTxSubmit cls dst false ch tag pl) s fun t =>
      .brgDone (brgClassCode cls) tag.toNat 4 ∈ t.out ∧ t.brg = s.brg :=
  (gives_brgTxSubmit on live dst false ch tag pl (State.brgSubmit_badLength (s := s.withOut []) on data room _ _ _ _ bad)).imp
    fun _ shows => ⟨shows.out _ (List.mem_append_right _ (List.mem_singleton.mpr rfl)), shows.brg.trans rfl⟩

omit data in
/-- A Sample frame on a route in SINGLE waits for its primary port, or completes NO_ROUTE (R447, R449). -/
theorem gives_brgTxSubmit_sample (dst : Fin 64) (ch : Fin 16) (tag : Byte) {pl : List Byte}
    (good : brgLenOk (brgClassCode cls) pl.length = true) (sample : cls = .sample) (admitted : s.get CFG_LANDFALL_STATE ≠ 4)
    (single : s.get (BRG_ROUTE_MODE dst.val) = 0) :
    (s.portUp (s.get (BRG_ROUTE_PRIM dst.val)) = true → Gives (.brgTxSubmit cls dst false ch tag pl) s fun t =>
      ∃ f, t.brg.queue = s.brg.queue ++ [f] ∧ f.payload = pl ∧ f.dst = dst.val ∧ f.ttl = s.get (BRG_ROUTE_TTL dst.val) ∧
        f.copies = [(s.get (BRG_ROUTE_PRIM dst.val), 0)]) ∧
    (s.portUp (s.get (BRG_ROUTE_PRIM dst.val)) = false → Gives (.brgTxSubmit cls dst false ch tag pl) s fun t =>
      .brgDone (brgClassCode cls) tag.toNat 2 ∈ t.out ∧ t.brg = s.brg) := by
  obtain ⟨x, brg, ran⟩ := State.brgSubmit_sample (s := s.withOut []) on room dst.val ch.val tag.toNat good sample admitted single
  constructor
  · intro up
    refine (gives_brgTxSubmit on live dst false ch tag pl (ran.trans (if_pos up))).imp fun t shows => ?_
    have queue := (congrArg BrgState.queue shows.brg).trans (State.brgEnqueue_queue ..)
    rw [brg] at queue
    exact ⟨_, queue, rfl, rfl, rfl, rfl⟩
  · intro down
    subst sample
    exact (gives_brgTxSubmit on live dst false ch tag pl (ran.trans (if_neg (ne_true_of_eq_false down)))).imp fun t shows =>
      ⟨shows.out _ (List.mem_append_right _ (List.mem_singleton.mpr rfl)), shows.brg.trans brg⟩

end

section
variable {s : State} (on : s.brgOn = true)
include on

/-! ### Cancel, requests and advertisements -/

/-- CANCEL of a frame still in its queue completes it (R458). -/
theorem gives_brgCancel (cls : BrgClass) (tag : Byte) {f : BrgTx} (live : s.portLive 7 = true)
    (queued : s.brg.queue.find? (fun g => g.origin == 0 && g.seq.isNone && g.cls == brgClassCode cls && g.tag == tag.toNat) = some f) :
    Gives (.brgCancel cls tag) s fun t => t.brg.queue = s.brg.queue.erase f ∧ .brgDone (brgClassCode cls) tag.toNat 1 ∈ t.out := by
  have ran : (s.withOut []).iff ((s.withOut []).portLive 7) (·.brgCancel (brgClassCode cls) tag.toNat) =
      ((s.withOut []).withBrg { s.brg with queue := s.brg.queue.erase f }).emit (.brgDone (brgClassCode cls) tag.toNat 1) := by
    rw [show (s.withOut []).portLive 7 = true from live, State.iff_true]
    unfold State.brgCancel
    rw [show (s.withOut []).brg = s.brg from rfl, queued]
  exact (gives_showsBrg (exec_brgCancel cls tag s) ran (State.brgOn_running on)).imp fun t shows =>
    ⟨by rw [shows.brg]; rfl, shows.out _ (List.mem_append_right _ (List.mem_singleton.mpr rfl))⟩

/-- An UP port sends a REQ in its time (R459). -/
theorem gives_timeReqTimer {p : Fin 4} (up : s.portState p.val = 3) : Gives (.timeReqTimer p) s fun t => ∃ f,
    t.brg.queue = s.brg.queue ++ [f] ∧ f.cls = 3 ∧ byteAt f.payload 0 = 1 ∧ f.copies = [(p.val, 0)] := by
  have due : (s.brgOn && s.portUp p.val) = true := by
    rw [on, State.portUp, up]
    rfl
  have ran : (s.withOut []).timeReqTimer p.val =
      (s.withOut []).brgToNeighbour p.val 3 0 ((s.withOut []).timeHead 1 ++ List.replicate 24 0) := if_pos due
  obtain ⟨f, queue, cls, payload, copies⟩ := (s.withOut []).brgToNeighbour_queues p.val 3 0 ((s.withOut []).timeHead 1 ++ List.replicate 24 0)
  have running : ((s.withOut []).timeReqTimer p.val).dev = .running :=
    ((State.timeReqTimer_touches _ _).dev rfl).trans (State.brgOn_running on)
  exact (gives_showsBrg (exec_timeReqTimer p s) ran (ran ▸ running)).imp fun t shows =>
    ⟨f, by rw [shows.brg]; exact queue, cls, by rw [payload]; rfl, copies⟩

/-- An advertisement that is past its age is forgotten (R460). -/
theorem gives_masterTimeout {p : Fin 4} (known : (s.bport p.val).ad ≠ none) : Gives (.masterTimeout p) s fun t =>
    (t.bport p.val).ad = none := by
  have due : (s.brgOn && (s.bport p.val).ad.isSome) = true := by
    rw [on, Option.isSome_iff_ne_none.mpr known]
    rfl
  have ran : (s.withOut []).masterTimeout p.val = ((s.withOut []).putBport p.val { s.bport p.val with ad := none }).brgElect := if_pos due
  have running : ((s.withOut []).masterTimeout p.val).dev = .running :=
    ((State.masterTimeout_touches _ _).dev rfl).trans (State.brgOn_running on)
  exact (gives_showsBrg (exec_masterTimeout p s) ran (ran ▸ running)).imp fun t shows => by
    rw [shows.bport, State.bport_of_brg (State.brgElect_brg _), State.putBport_bport]

end

end Sys2Proof.Machine

/-!
SUPPORT. A frame that starts: it leaves on each lane of its port that is UP, in that lane's line coding, and completes (R426, R429, R430,
R451).
-/
namespace Sys2Proof.Machine

/-! ### A frame on its lanes -/

/-- A frame as it leaves on a lane: code groups up to 2.5 Gb/s, above that blocks. -/
def State.lineOut (s : State) (n : Nat) (frame : List Byte) : Out :=
  if s.get (LNK_BRG_STATE_RATE n) ≤ 2 then .codes n ((codeGroups (s.lane n).rd (frameChars frame)).1.map (s.onPins n))
  else .blocks n ((sentBlocks (s.lane n).scram (frameBlocks frame)).1.map (s.onPins n))

theorem State.lineFrame_out (s : State) (n : Nat) (frame : List Byte) : (s.lineFrame n frame).out = s.out ++ [s.lineOut n frame] := by
  unfold State.lineFrame State.lineOut
  split
  · rfl
  · rfl

theorem State.lineFrame_word (s : State) (n : Nat) (frame : List Byte) (a : Nat) : (s.lineFrame n frame).word a = s.word a :=
  congrArg (cellRead · a) ((s.lineFrame_touches n frame).regs rfl)

theorem State.putLane_lane_ne (s : State) {m n : Nat} (h : m ≠ n) (v : LnkLane) : (s.putLane m v).lane n = s.lane n := by
  unfold State.putLane State.lane
  exact congrArg (·.getD LnkLane.idle) (Vector.getElem?_setIfInBounds_ne h)

theorem State.lineFrame_lane_ne (s : State) {m n : Nat} (h : m ≠ n) (frame : List Byte) : (s.lineFrame m frame).lane n = s.lane n := by
  unfold State.lineFrame
  split
  · exact s.putLane_lane_ne h _
  · exact s.putLane_lane_ne h _

/-- What leaves on a lane depends on its hidden state and on its registers. -/
theorem State.lineOut_congr {s t : State} {n : Nat} (lane : t.lane n = s.lane n) (rate : t.word (LNK_BRG_STATE n) = s.word (LNK_BRG_STATE n))
    (cfg : t.word (LNK_CFG n) = s.word (LNK_CFG n)) (frame : List Byte) : t.lineOut n frame = s.lineOut n frame := by
  have pins : ∀ {w : Nat} (v : BitVec w), t.onPins n v = s.onPins n v := fun v => by
    rw [State.onPins, State.onPins, State.bit_of_word (f := LNK_CFG_POL_TX n) cfg]
  unfold State.lineOut
  rw [lane, State.get_of_word (f := LNK_BRG_STATE_RATE n) rate, funext (pins (w := 10)), funext (pins (w := 66))]

theorem State.lineFrame_keepsOut (s : State) (n : Nat) (frame : List Byte) : KeepsOut s (s.lineFrame n frame) :=
  ⟨s.lineFrame_out n frame ▸ List.prefix_append _ _⟩

/-- A frame that leaves on several lanes leaves on each as the lane stood before. -/
theorem State.each_lineFrame_sends {n : Nat} (frame : List Byte) {ns : List Nat} (h : n ∈ ns) (s : State) :
    s.lineOut n frame ∈ (s.each ns fun s n => s.lineFrame n frame).out := by
  induction ns generalizing s with
  | nil => cases h
  | cons m ns ih =>
    have rest : KeepsOut (s.lineFrame m frame) ((s.lineFrame m frame).each ns fun s n => s.lineFrame n frame) :=
      (KeepsOut.refl _).each fun x m k => k.seq (x.lineFrame_keepsOut m frame)
    by_cases same : m = n
    · subst same
      refine rest.mem ?_
      rw [State.lineFrame_out]
      exact List.mem_append_right _ (List.mem_singleton.mpr rfl)
    · rw [← State.lineOut_congr (s.lineFrame_lane_ne same frame) (s.lineFrame_word ..) (s.lineFrame_word ..)]
      exact ih ((List.mem_cons.mp h).resolve_left (Ne.symm same)) _

/-- A port's lanes have numbers of five bits, and stand in its configuration. -/
theorem State.portLanes_lt {s : State} {p n : Nat} (h : n ∈ s.portLanes p) : n < 32 := by
  have small : ∀ f : Fld, f.width = 5 → s.get f < 32 := fun f w => by
    have fits : s.get f < 2 ^ f.width := Nat.mod_lt _ (Nat.two_pow_pos _)
    rw [w] at fits
    exact fits
  unfold State.portLanes at h
  split at h
  · rcases List.mem_pair.mp h with rfl | rfl
    · exact small _ rfl
    · exact small _ rfl
  · exact List.mem_singleton.mp h ▸ small _ rfl

theorem State.portLanes_of_word {s t : State} {p : Nat} (h : t.word (BRG_PORT_CFG p) = s.word (BRG_PORT_CFG p)) :
    t.portLanes p = s.portLanes p := by
  rw [State.portLanes, State.portLanes, State.bit_of_word (f := BRG_PORT_CFG_DUAL p) h, State.get_of_word (f := BRG_PORT_CFG_LANE0 p) h,
    State.get_of_word (f := BRG_PORT_CFG_LANE1 p) h]

/-- A frame goes out whole, and on every lane of its port that is UP. -/
theorem State.brgEmit_sends (s : State) (p : Nat) (body tag : List Byte) : ∃ bytes, .brgFrame p bytes ∈ (s.brgEmit p body tag).out ∧
    ∀ n ∈ s.portLanes p, s.bit (LNK_STATUS_UP n) = true → s.laneMode n = 4 → s.lineOut n bytes ∈ (s.brgEmit p body tag).out := by
  refine ⟨body ++ tag ++ leBytes 4 (crc32 (body ++ tag)).toNat, ?_, fun n lane up mode => ?_⟩
  · exact ((KeepsOut.refl _).each fun x m k => k.seq (x.lineFrame_keepsOut m _)).mem
      (List.mem_append_right _ (List.mem_singleton.mpr rfl))
  · have sends := State.each_lineFrame_sends (body ++ tag ++ leBytes 4 (crc32 (body ++ tag)).toNat)
      (ns := (s.portLanes p).filter fun n => s.bit (LNK_STATUS_UP n) && s.laneMode n == 4)
      (List.mem_filter.mpr ⟨lane, show (s.bit (LNK_STATUS_UP n) && s.laneMode n == 4) = true by rw [up, mode]; rfl⟩)
      (s.emit (.brgFrame p (body ++ tag ++ leBytes 4 (crc32 (body ++ tag)).toNat)))
    exact sends

/-! ### The start of a frame -/

/-- LNONCE values that are drawn ahead change no register below the cipher engine's. -/
theorem State.drawAhead_low (s : State) (p n : Nat) : Low 0x400C0000 s (s.drawAhead p n) := by
  induction n generalizing s with
  | zero => exact Low.refl _ _
  | succ n ih =>
    unfold State.drawAhead
    extract_lets v k
    split
    · exact Low.refl _ _
    · split
      · next c t drawn =>
        exact (ih _).seq (Nat.le_refl _) (((Low.refl _ s).part ((State.drawCtr_some drawn).regs rfl)).putBport p _)
      · unfold State.noteExhausted
        exact (Low.refl _ s).iff fun x low => (State.cphCount_low _ stExhausted).seq (Nat.le_refl _) (low.part rfl)

/-- A frame that starts on an UP port takes an LNONCE that was drawn ahead. -/
theorem State.brgTxStart_sends {s : State} {p : Nat} {f : BrgTx} {ln : Nat} {rest : List Nat} {key : List Byte} (on : s.brgOn = true)
    (up : s.portState p = 3) (next : s.brgNext p = some f) (ahead : (s.bport p).ahead = ln :: rest)
    (keyed : s.brgKey (s.sessSlot p (s.bport p).par) = some key) :
    ∃ (y : State) (q : Nat) (body tag : List Byte), Low 0x400C0000 s y ∧ y.lnk = s.lnk ∧
      s.brgTxStart p = (((y.brgEmit p body tag).iff (f.bcast && f.origin != 2)
        (·.bcastNote (streamKey f.src f.cls f.channel) q)).brgServed p f).brgCopyGone f q p := by
  have drawn : s.iff (s.bport p).ahead.isEmpty (·.drawAhead p 8) = s := by
    rw [ahead]
    rfl
  unfold State.brgTxStart
  rw [if_neg (by rw [on, up]; decide), next]
  dsimp only
  rw [if_neg (by rw [up]; decide), drawn, ahead, keyed]
  dsimp only
  refine ⟨_, _, _, _, ?_, ?_, rfl⟩
  · exact (State.drawAhead_low _ p 8).seq (Nat.le_refl _) <| (((Low.refl _ s).part ((s.timeOut_touches p f).regs rfl)).part
      ((State.takeSeq_touches _ f).regs rfl)).putBport p _
  · exact ((State.drawAhead_touches _ p 8).lnk rfl).trans (((State.takeSeq_touches _ f).lnk rfl).trans ((s.timeOut_touches p f).lnk rfl))

/-- The last copy of a frame of this part that has left completes SENT. -/
theorem State.brgCopyGone_sent (s : State) {f : BrgTx} {p : Nat} (q : Nat) (copies : f.copies = [(p, 0)]) (own : f.origin = 0) :
    .brgDone f.cls f.tag 0 ∈ (s.brgCopyGone f q p).out := by
  have last : ((f.copies.filter (·.1 != p)).isEmpty && f.origin == 0) = true := by
    rw [copies, own]
    simp
  unfold State.brgCopyGone
  dsimp only
  rw [last, State.iff_true]
  exact List.mem_append_right _ (List.mem_singleton.mpr rfl)

theorem State.brgCopyGone_keepsOut (s : State) (f : BrgTx) (q p : Nat) : KeepsOut s (s.brgCopyGone f q p) := by
  unfold State.brgCopyGone
  extract_lets f' queue link left
  exact ((KeepsOut.refl s).silent (t := left) rfl).iff _ fun _ k => k.emit _

theorem exec_brgTxStart (p : Fin 4) (s : State) : exec (.brgTxStart p) s = actAll (·.brgTxStart p.val) s := rfl

/-- A frame that starts leaves on the lanes of its port, and completes SENT (R451). -/
theorem gives_brgTxStart {s : State} {p : Fin 4} {f : BrgTx} {ln : Nat} {rest : List Nat} {key : List Byte} (on : s.brgOn = true)
    (up : s.portState p.val = 3) (next : s.brgNext p.val = some f) (ahead : (s.bport p.val).ahead = ln :: rest)
    (keyed : s.brgKey (s.sessSlot p.val (s.bport p.val).par) = some key) (copies : f.copies = [(p.val, 0)]) (own : f.origin = 0) :
    Gives (.brgTxStart p) s fun t => (∃ bytes, .brgFrame p.val bytes ∈ t.out ∧
      ∀ n ∈ s.portLanes p.val, s.bit (LNK_STATUS_UP n) = true → s.laneMode n = 4 → s.lineOut n bytes ∈ t.out) ∧
      .brgDone f.cls f.tag 0 ∈ t.out := by
  obtain ⟨y, q, body, tag, low, lnk, ran⟩ := State.brgTxStart_sends (s := s.withOut []) on up next ahead keyed
  have running : ((s.withOut []).brgTxStart p.val).dev = .running :=
    ((State.brgTxStart_touches _ _).dev rfl).trans (State.brgOn_running on)
  refine (gives_showsBrg (exec_brgTxStart p s) ran (ran ▸ running)).imp fun t shows =>
    ⟨?_, shows.out _ (State.brgCopyGone_sent _ q copies own)⟩
  have words : ∀ a, a < 0x400C0000 → y.word a = s.word a := fun a below => low.word a below
  have cfg : y.word (BRG_PORT_CFG p.val) = s.word (BRG_PORT_CFG p.val) := words _ (by simp only [BRG_PORT_CFG]; omega)
  obtain ⟨bytes, whole, sends⟩ := y.brgEmit_sends p.val body tag
  have kept : ∀ o ∈ (y.brgEmit p.val body tag).out, o ∈ t.out := fun o sent => by
    refine shows.out _ ((State.brgCopyGone_keepsOut _ f q p.val).mem ?_)
    have note := State.iff_keeps (P := fun t : State => t.out = (y.brgEmit p.val body tag).out) (c := f.bcast && f.origin != 2)
      (f := (·.bcastNote (streamKey f.src f.cls f.channel) q)) rfl rfl
    exact note ▸ sent
  refine ⟨bytes, kept _ whole, fun n lane linked mode => ?_⟩
  have small := State.portLanes_lt lane
  have sent := sends n (State.portLanes_of_word cfg ▸ lane)
    ((State.bit_of_word (f := LNK_STATUS_UP n) (words _ (by simp only [LNK_STATUS_UP, LNK_STATUS]; omega))).trans linked)
    ((State.get_of_word (f := LNK_CFG_MODE n) (words _ (by simp only [LNK_CFG_MODE, LNK_CFG]; omega))).trans mode)
  rw [State.lineOut_congr (s := s) (State.lane_of_lnk lnk n) (words _ (by simp only [LNK_BRG_STATE]; omega))
    (words _ (by simp only [LNK_CFG]; omega))] at sent
  exact kept _ sent

end Sys2Proof.Machine

/-!
SUPPORT. What the Bearing link does with frames, time and landfall, as one statement.
-/
namespace Sys2Proof.Machine

theorem State.lineOut_codes {s : State} {n : Nat} (frame : List Byte) (slow : s.get (LNK_BRG_STATE_RATE n) ≤ 2) :
    s.lineOut n frame = .codes n ((codeGroups (s.lane n).rd (frameChars frame)).1.map (s.onPins n)) := if_pos slow

theorem State.lineOut_blocks {s : State} {n : Nat} (frame : List Byte) (fast : 2 < s.get (LNK_BRG_STATE_RATE n)) :
    s.lineOut n frame = .blocks n ((sentBlocks (s.lane n).scram (frameBlocks frame)).1.map (s.onPins n)) := if_neg (Nat.not_le_of_lt fast)

/-- Settles O46, clause by clause from the effect of each command, as the state in which the command ends shows it. -/
theorem bearingFramesTimeAndLandfall : Obligations.BearingFramesTimeAndLandfall := by
  intro s p on
  refine ⟨fun second frame taken unit live fits => gives_brgDataFrame taken second unit live fits, ?submitted, ?started,
    fun cls tag f live queued => gives_brgCancel on cls tag live queued, fun up => gives_timeReqTimer on up,
    fun second frame taken time => ⟨gives_timeReqFrame taken time second, gives_timeRespFrame taken time second⟩,
    fun known => gives_masterTimeout on known, fun member => ?member, fun master => ?master⟩
  case submitted =>
    intro cls dst ch tag pl live data room
    exact ⟨fun good sample admitted single => gives_brgTxSubmit_sample on live room dst ch tag good sample admitted single,
      fun bad => gives_brgTxSubmit_badLength on live data room dst ch tag bad⟩
  case started =>
    intro f key ln rest up next ahead keyed copies own
    refine (gives_brgTxStart on up next ahead keyed copies own).imp fun t sent => ?_
    obtain ⟨⟨bytes, whole, lanes⟩, done⟩ := sent
    exact ⟨⟨bytes, whole, fun n lane linked mode =>
      ⟨fun slow => s.lineOut_codes bytes slow ▸ lanes n lane linked mode,
        fun fast => s.lineOut_blocks bytes fast ▸ lanes n lane linked mode⟩⟩, done⟩
  case member =>
    refine ⟨fun waits up => gives_readyTimer on member waits up, fun map waits => gives_landfallFrame on member map waits,
      fun id own => (gives_admitFrame on member id).imp fun t admitted => ⟨admitted.1, admitted.2 own⟩,
      fun id => (gives_admitFrame on member id).imp fun t admitted => admitted.1⟩
  case master =>
    exact ⟨fun src ver golden waits first other accepted => gives_readyFrame_counts on master src ver golden waits first other accepted,
      fun src ver golden past first other out auto => gives_readyFrame_late on master src ver golden past first other out auto,
      fun src ver golden own => gives_readyFrame_own on master src ver golden own,
      fun waits => gives_landfallTimeout on master waits,
      fun declared late up => gives_landfallRepeat on master declared late up,
      fun a id ver golden h reported out accepted => gives_brgAdmit on a id h reported out accepted⟩

end Sys2Proof.Machine
